-- ==== Sys2Proof/Word.lean ====
section
/-! DEFINITION. The byte type of the windows' memory. Register values are natural numbers below 2^32: every
field of the spec has its own width, and the one operation that reads a field cuts it to that width. -/

namespace Sys2Proof

/-- One octet of a BAR2 window or of a frame's payload (R14). -/
abbrev Byte := BitVec 8

end Sys2Proof
end

