-- ==== Sys2Proof/Config.lean ====
section
/-! DEFINITION. What one specimen of the module fixes (its factory data), and the free values: constants with no
body, so that no proof can see a value of them. -/

namespace Sys2Proof

/-- The module's serial number, bits 31:0 and 63:32 (R101, "factory"). -/
opaque Config.factorySerialLo : Nat
/-- The module's serial number, bits 63:32 (R101, "factory"). -/
opaque Config.factorySerialHi : Nat
/-- The module's extended address (R195, "factory"). -/
opaque Config.factoryExtLo : Nat
/-- The module's extended address, bits 63:32 (R195, "factory"). -/
opaque Config.factoryExtHi : Nat
/-- The module's PTP clock identity (R430, "factory"). -/
opaque Config.factoryClockIdLo : Nat
/-- The module's PTP clock identity, bits 63:32 (R430, "factory"). -/
opaque Config.factoryClockIdHi : Nat

/-- A draw that the spec leaves to chance or to the implementation (back-off draws of R188, nonces of R493, seeds
of R498): the n-th draw of a run. -/
opaque Config.freeValue : Nat → Nat

/-- What the rounding of one step of a channel's high-pass filter adds, in 2^−32 of a code from −4,096 on, from the previous output, the
previous code and the code. R348 gives no rounding. -/
opaque Config.highPassRounding : Int → Int → Int → Fin 8192

/-- What the interpolation of R349 makes of a fraction of a sample in 256ths beyond the straight line, from the two samples around the
instant and the ones beside them, newest first: the rule gives no filter. -/
opaque Config.bend : Nat → List Int → Int

/-- The MCS that the module sends with on an OFDM PHY: no rule gives it. -/
opaque Config.txMcs : Nat → Nat

/-- The extended address of the partner module: R225 puts it into a SCHEDULE and no rule says where the module holds it. -/
opaque Config.partnerExt : Nat

/-- The bucket of an address and VID in the switch's address table: R388 gives the buckets, and no rule says which key falls
into which. -/
opaque Config.fdbBucket : Nat → Nat → Nat

/-- The 256-bit root of the specimen's physical-unclonable region (R478), as a number whose octet i is the root's: every chip has its
own. -/
opaque Config.root : Nat

/-- The helper data of that region (R478), as a number: no rule gives its code. -/
opaque Config.helperData : Nat

/-- The vendor key X ‖ Y of the boot ROM (R494), as a number whose octet i is the key's: the spec gives no value. -/
opaque Config.vendorKey : Nat

/-- The versions of the firmware that the factory put into bank 0 of SUP, RSQ and PRP: the spec gives no value. -/
opaque Config.factoryVersion : Nat → Nat

/-- An octet of the NOR by place and offset where Grog has written nothing: the factory's firmware. -/
opaque Config.norOctet : Nat → Nat → Nat

/-- LEN of a Marl bank's body, by the stored fields and window bytes: R555 leaves to the module how its records group the
words. -/
opaque Config.storeLength : List (Nat × Nat) → List (Nat × Byte) → Nat

end Sys2Proof
end

