-- ==== Sys2Proof/Terms.lean ====
section
/-! DEFINITION. The types that commands and the state share: the ports, the mode axes, the packets and frames. -/

namespace Sys2Proof

/-- The two host ports (chapter 3 of the spec). -/
inductive Port where
  | lrp
  | pcie
deriving DecidableEq, Repr

/-- The port's code in a Silt record and in SLQ_STAT.PORT: 0 LRP, 1 PCIe. -/
def Port.code : Port → Nat
  | .lrp => 0
  | .pcie => 1

/-- The other port. -/
def Port.other : Port → Port
  | .lrp => .pcie
  | .pcie => .lrp

/-- A packet of a Slip queue (R435): its kind, priority and payload words; the number gives the order of completion. -/
structure Packet where
  serial : Nat
  kind : Nat
  prio : Nat
  pad : Nat
  words : List Nat
deriving DecidableEq, Repr

/-- Calendar time (R18): UTC seconds, 48 bits, and a fraction in units of 1/65,536 s. -/
structure CalTime where
  secs : Nat
  frac : Nat
deriving DecidableEq, Repr

/-- What an Announce message carries for the best-master choice and the leap flags (R410, R411). -/
structure Announce where
  domain : Nat
  senderId : Nat
  senderPort : Nat
  prio1 : Nat
  clockClass : Nat
  accuracy : Nat
  variance : Nat
  prio2 : Nat
  grandmaster : Nat
  stepsRemoved : Nat
  utcOffset : Nat
  utcValid : Bool
  timeSource : Nat
  leap61 : Bool
  leap59 : Bool
deriving DecidableEq, Repr

/-- The PTP messages that the engine sends (R410). -/
inductive PtpKind where
  | sync | followUp | delayReq | delayResp | announce
deriving DecidableEq, Repr

/-- An address of a mesh frame. -/
inductive MeshAddr where
  | none
  | short (a : Nat)
  | ext (a : Nat)
deriving DecidableEq, Repr

/-- A received mesh frame as the MAC finds it (R177 to R183): the PSDU's length in octets, what its header and auxiliary
security header say, whether its MIC verifies under the key they name, and the MAC payload. `seqOff`, `panComp` and `ie` are the bits of
Frame Control that suppress the sequence number, compress the PAN identifiers and announce information elements; `asn` is that of a
beacon; `fcs4` says that the PHR gives it an FCS of 4 octets. -/
structure MeshFrame where
  len : Nat
  version : Nat
  kind : Nat
  seqOff : Bool
  panComp : Bool
  ie : Bool
  pan : Nat
  seqNo : Nat
  dst : MeshAddr
  src : MeshAddr
  ackReq : Bool
  secLevel : Nat
  keyIndex : Nat
  counter : Nat
  micOk : Bool
  asn : Nat
  fcs4 : Bool
  payload : List Nat
deriving DecidableEq, Repr

/-- Where a message of the module goes (R198). -/
inductive MeshDest where
  | broadcast
  | node (i : Nat)
  | joiner (ext : Nat) (entry : Option Nat)
deriving DecidableEq, Repr

/-- A message that SPR hands to the MAC: FSP type, destination, body octets, and the entries whose levels it carries. -/
structure OutMessage where
  type : Nat
  dest : MeshDest
  body : List Nat
  nodes : List Nat
deriving DecidableEq, Repr

/-- What a receiver finds of a frame: good, a bad FCS, or a carry check that fails as the frame is handed on (R378, R379, R563). -/
inductive FrameCheck where
  | good | badFcs | badCarry
deriving DecidableEq, Repr

/-- An Ethernet frame without its FCS: the addresses, the TCI of its 802.1Q tag (TPID 0x8100), and the octets from the
EtherType on (R378, R385). -/
structure EthFrame where
  dst : Nat
  src : Nat
  tag : Option Nat
  body : List Nat
deriving DecidableEq, Repr

/-- A TX descriptor as HDM reads it from host memory (R393). -/
structure TxDesc where
  addr : Nat
  len : Nat
  sop : Bool
  eop : Bool
  ipCsum : Bool
  l4Csum : Bool
  tsReq : Bool
  insTag : Bool
  direct : Bool
  ports : Nat
  tci : Nat
  tsId : Nat
deriving DecidableEq, Repr

/-- A frame of the Bidues link (R461); `checkOk` says whether its CRC-32C agrees. -/
structure Bidues where
  sync : Nat
  kind : Nat
  seq : Nat
  claim : Nat
  role : Nat
  inControl : Bool
  preferred : Bool
  heard : Bool
  ready : Bool
  rank : Nat
  epoch : Nat
  serial : Nat
  cfgId : Nat
  arg : Nat
  checkOk : Bool
deriving DecidableEq, Repr

/-- What a pass of the scrubber meets at one codeword (R560 to R562): the codeword's number in its memory, in ascending address; its bits in
error, the 128 of data lowest; the page of its owner and which of the owner's items it holds; and whether a correction is the location's
third within the period. -/
structure ScrubFound where
  word : Nat
  error : Nat
  page : Nat
  item : Nat
  third : Bool
deriving DecidableEq, Repr

/-- What a test finds in a region: the first failing word (R530). -/
structure SivFailure where
  region : Nat
  piece : Nat
  addr : Nat
  bit : Nat
  expected : Bool
  read : Bool
  step : Nat
deriving DecidableEq, Repr

/-- Where a loss of VIN cuts a life-cycle change that the next decision step would grant (R126): nowhere, before the first copy of the
word is complete, after it, or while SCRAPPED erases; or where it cuts the write of the slot that the key request at the head of D2
changes (R483). -/
inductive LifeCut where
  | none | beforeCopy | afterCopy | erasing | slot
deriving DecidableEq, Repr

/-- What the run of a start finds, which no field of the state decides: the NOR places whose signature fails (places 0 to 5 are those of
SUP, RSQ and PRP); the first failure of the start-up Sieve pass with the number of failures; whether an enabled source is in tamper in
the first complete round; the copies of the helper data whose words fail their symbol code, and how many bits of the region differ from
what they were when it was enrolled; the slots whose MRAM words fail their symbol code; the invalid copies of the life-cycle word; the
invalid Marl banks, and how many records of the newest valid one name an offset that this firmware does not define; whether the stored
ASN's age is unknown; whether PLN locks later than t2; and the time from t0 to t11 in ms. -/
structure StartFound where
  badImages : List Nat
  sieve : Option SivFailure
  sieveFails : Nat
  tampered : Bool
  badHelper : List Nat
  flips : Nat
  badSlots : List Nat
  badLife : List Nat
  badBanks : List Nat
  strange : Nat
  asnUnknown : Bool
  plnLate : Bool
  elapsed : Nat
deriving DecidableEq, Repr

end Sys2Proof
end

