-- ==== Sys2Proof/Syntax.lean ====
section
/-! DEFINITION. The commands of the block: one constructor for each row of the opcode table, with the operands that
the row's rule names. A port is that of the host access; `c` is the count of the raw time counter at the instant of the command. -/

namespace Sys2Proof

/-- The commands, in the opcode table's order. -/
inductive Instr where
  /-- MODE_DECISION_STEP (R35) -/
  | modeDecisionStep
  /-- DOMAIN_START_ON_DEMAND (R28) -/
  | domainStartOnDemand (d : Nat)
  /-- DOMAIN_IDLE_STOP (R28) -/
  | domainIdleStop (d : Nat)
  /-- COLD_START (R106) -/
  | coldStart (f : StartFound) (n : Nat)
  /-- HOLD_WAKE (R107) -/
  | holdWake (vinRise : Bool) (f : StartFound) (n : Nat)
  /-- WARM_START (R108) -/
  | warmStart (f : StartFound) (n : Nat)
  /-- VIN_LOSS (R43) -/
  | vinLoss (cut : LifeCut)
  /-- VBAK_LOSS (R46) -/
  | vbakLoss
  /-- RST_N_PULSE (R50) -/
  | rstNPulse
  /-- RST_N_HOLD_WAKE (R51) -/
  | rstNHoldWake
  /-- SUP_WATCHDOG_RESET (R121) -/
  | supWatchdogReset (line : Nat)
  /-- SYS_RESET_WARM (R101) -/
  | sysResetWarm (port : Port) (key : Nat)
  /-- SYS_POWER_REQ (R59) -/
  | sysPowerReq (port : Port) (v : Nat)
  /-- CONTACTOR_DRIVER_LATCH (R48) -/
  | contactorDriverLatch (k : Nat)
  /-- DIE_HOT (R62) -/
  | dieHot (t : Nat)
  /-- PA_INHIBIT (R62) -/
  | paInhibit (t : Nat)
  /-- PA_INHIBIT_END (R62) -/
  | paInhibitEnd (t : Nat)
  /-- LRP_WRITE (R68) -/
  | lrpWrite (addr : Nat) (value : Nat) (be : Nat)
  /-- BAR0_WRITE (R78) -/
  | bar0Write (addr : Nat) (value : Nat) (whole : Bool)
  /-- BAR0_READ (R78) -/
  | bar0Read (addr : Nat) (whole : Bool)
  /-- BAR2_ACCESS (R79) -/
  | bar2Access (write : Bool) (addr : Nat) (words : List (Nat × Nat))
  /-- REGISTER_WRITE (R75) -/
  | registerWrite (port : Port)
  /-- SEQ_WORD_READ (R86) -/
  | seqWordRead (port : Port) (b : Nat)
  /-- BLOCK_LAST_WORD_READ (R88) -/
  | blockLastWordRead (port : Port) (b : Nat)
  /-- RC_READ (R12) -/
  | rcRead (port : Port) (addr : Nat)
  /-- SYS_EPOCH_LO_READ (R101) -/
  | sysEpochLoRead (port : Port)
  /-- HIF_FENCE_WRITE (R74) -/
  | hifFenceWrite (port : Port) (v : Nat)
  /-- LRP_CLK_LOST (R71) -/
  | lrpClkLost
  /-- LRP_CLK_RESUME (R71) -/
  | lrpClkResume
  /-- PCIE_PERST (R81) -/
  | pciePerst
  /-- PCIE_LINK_DOWN (R100) -/
  | pcieLinkDown
  /-- HIF_EOI (R83) -/
  | hifEoi (port : Port) (v : Nat)
  /-- MSIX_UNMASK (R83) -/
  | msixUnmask (v : Option Nat) (masked : Bool) (bme : Bool) (en : Bool) (fmask : Bool) (mse : Bool) (bar0 : Nat) (bar2 : Nat)
  /-- TXN_OPEN (R92) -/
  | txnOpen (port : Port) (t : Nat)
  /-- TXN_SELECT (R92) -/
  | txnSelect (port : Port) (t : Nat)
  /-- TXN_DESELECT (R92) -/
  | txnDeselect (port : Port)
  /-- TXN_COMMIT (R97) -/
  | txnCommit (port : Port) (t : Nat) (c : Nat)
  /-- TXN_ABORT (R92) -/
  | txnAbort (port : Port) (t : Nat)
  /-- TXN_UNDEFINED_OP (R100) -/
  | txnUndefinedOp (port : Port)
  /-- TXN_APPLY (R97) -/
  | txnApply (c : Nat)
  /-- TRIAL_TIMER_EXPIRY (R119) -/
  | trialTimerExpiry
  /-- CHAIN_RETUNE (R128) -/
  | chainRetune (port : Port) (k : Nat) (freq : Nat) (lost : Nat)
  /-- ADC_CLIP_AGC_STEP (R129) -/
  | adcClipAgcStep (k : Nat) (att : Nat) (lost : Nat)
  /-- AGC_STEP (R129) -/
  | agcStep (k : Nat) (att : Nat) (inFrame : Bool)
  /-- CHN_FRAME_RECEIVED (R137) -/
  | chnFrameReceived (n : Nat) (sfd : Nat) (ends : Nat) (rssi : Nat) (lqi : Nat) (check : FrameCheck) (m : MeshFrame)
  /-- REGION_CHANGE (R144) -/
  | regionChange
  /-- BUDGET_BUCKET_ADVANCE (R146) -/
  | budgetBucketAdvance (e : Nat) (ch : Nat)
  /-- TX_FRAME_START (R138) -/
  | txFrameStart (c : Nat) (lost : Nat)
  /-- MAC_QUEUE_ENQUEUE (R153) -/
  | macQueueEnqueue (m : OutMessage) (seq : Nat)
  /-- TSCH_SLOT_PLAN (R164) -/
  | tschSlotPlan (c : Nat) (inFrame : List Nat)
  /-- MAC_REALIGN (R171) -/
  | macRealign (port : Port)
  /-- MAC_FRAME_RECEIVED (R183) -/
  | macFrameReceived (lost : Bool)
  /-- PARTNER_BEACON_MISS (R176) -/
  | partnerBeaconMiss
  /-- JOIN_TIMEOUT (R186) -/
  | joinTimeout (i : Nat)
  /-- ACK_WAIT_EXPIRY (R188) -/
  | ackWaitExpiry (n : Nat)
  /-- NTB_PROVISION (R196) -/
  | ntbProvision (port : Port) (i : Nat)
  /-- NTB_BLOCK (R196) -/
  | ntbBlock (port : Port) (i : Nat)
  /-- NTB_UNBLOCK (R196) -/
  | ntbUnblock (port : Port) (i : Nat)
  /-- NTB_FREE (R196) -/
  | ntbFree (port : Port) (i : Nat)
  /-- NTB_CLEAR_HEALTH (R196) -/
  | ntbClearHealth (port : Port) (i : Nat)
  /-- NTB_FIND (R196) -/
  | ntbFind (port : Port) (w : Nat)
  /-- NODE_ENTRY_WRITE (R193) -/
  | nodeEntryWrite (port : Port) (off : Nat) (w : Nat)
  /-- CLAIM_HEARTBEAT (R211) -/
  | claimHeartbeat
  /-- SPR_SUBMISSION (R231) -/
  | sprSubmission
  /-- SPR_ENABLE_WRITE (R568) -/
  | sprEnableWrite (port : Port) (en : Bool)
  /-- DRF_EVENT_INTAKE (R245) -/
  | drfEventIntake (v : Nat) (instant : Nat) (strength : Nat) (sensor : Nat)
  /-- DRF_INJECT (R242) -/
  | drfInject (port : Port) (v : Nat) (age : Nat)
  /-- DRF_EVALUATION (R260) -/
  | drfEvaluation (c : Nat) (dur : Nat) (mem : Nat)
  /-- DRF_GRAPH_SWAP (R240) -/
  | drfGraphSwap (port : Port)
  /-- DRF_SWAP_CHECK_DONE (R240) -/
  | drfSwapCheckDone
  /-- DRF_ENABLE_WRITE (R265) -/
  | drfEnableWrite (port : Port) (en : Bool)
  /-- SCH_TICK (R277) -/
  | schTick
  /-- SCH_HIGH_WATER_SAVE (R283) -/
  | schHighWaterSave
  /-- TMP_SAMPLE (R300) -/
  | tmpSample (c : Nat) (bad : List Nat) (lost : List Nat) (late : Nat)
  /-- TMP_MEAS_SLOT (R290) -/
  | tmpMeasSlot (port : Port) (k : Nat)
  /-- TMP_SLOT_DISABLE (R305) -/
  | tmpSlotDisable (k : Nat)
  /-- SHAPING_PASS (R314) -/
  | shapingPass (c : Nat) (dur : Nat) (late : Bool)
  /-- DAL_FRAME_TX (R333) -/
  | dalFrameTx (k : Nat) (collision : Bool)
  /-- DAL_REFRESH (R335) -/
  | dalRefresh (k : Nat)
  /-- DAL_BUS_DOWN (R337) -/
  | dalBusDown (k : Nat)
  /-- DAL_BUS_UP (R337) -/
  | dalBusUp (k : Nat)
  /-- DAL_EVENT_RECEIVED (R338) -/
  | dalEventReceived (k : Nat) (frame : Nat) (instant : Nat)
  /-- DAL_RAW_REQUEST (R339) -/
  | dalRawRequest (port : Port) (k : Nat) (bits24 : Bool) (twice : Bool) (answer : Bool) (prio : Nat)
  /-- DAL_RAW_COMPLETE (R339) -/
  | dalRawComplete (answer : Option Nat) (bad : Bool)
  /-- EMU_SAMPLE (R352) -/
  | emuSample (c : Nat) (bits : List Nat)
  /-- EMU_CHANNEL_FAULT (R350) -/
  | emuChannelFault (k : Nat)
  /-- EMU_CHANNEL_FAULT_END (R350) -/
  | emuChannelFaultEnd (k : Nat)
  /-- EMU_ZC_TIMEOUT (R358) -/
  | emuZcTimeout (k : Nat)
  /-- EMU_ACCUMULATOR_SAVE (R355) -/
  | emuAccumulatorSave
  /-- EMU_CLEAR (R361) -/
  | emuClear (port : Port) (c : Nat)
  /-- EMUR_BOUNDARY_SNAPSHOT (R363) -/
  | emurBoundarySnapshot (c : Nat)
  /-- EMUR_ESTIMATE_TICK (R365) -/
  | emurEstimateTick (c : Nat)
  /-- EMUR_WINDOW_CLOSE (R366) -/
  | emurWindowClose (c : Nat) (g : Nat)
  /-- ETP_FRAME_RECEIVED (R378) -/
  | etpFrameReceived (k : Nat) (c : Nat) (len : Nat) (f : EthFrame) (check : FrameCheck) (ns : Int)
  /-- ETP_FRAME_TRANSMIT (R384) -/
  | etpFrameTransmit (k : Nat) (c : Nat) (ns : Int) (ecc : Nat)
  /-- PAUSE_TIMER_EXPIRY (R389) -/
  | pauseTimerExpiry (k : Nat) (c : Nat)
  /-- PAUSE_REPEAT (R390) -/
  | pauseRepeat (k : Nat)
  /-- LPI_ENTRY (R391) -/
  | lpiEntry (k : Nat) (rx : Bool)
  /-- LPI_WAKE (R391) -/
  | lpiWake (k : Nat) (rx : Bool)
  /-- SWF_SPEED_STEP (R392) -/
  | swfSpeedStep (load100 : Nat) (load1 : Nat)
  /-- ETP_LINK_CHANGE (R402) -/
  | etpLinkChange (k : Nat) (up : Bool) (speed : Nat)
  /-- ETP_MODE_WRITE (R375) -/
  | etpModeWrite (port : Port) (k : Nat) (mode : Nat)
  /-- ETP_FWD_STATE_WRITE (R386) -/
  | etpFwdStateWrite (port : Port) (k : Nat) (w : Nat)
  /-- FDB_AGE_EXPIRY (R388) -/
  | fdbAgeExpiry (c : Nat)
  /-- FDB_INSERT (R401) -/
  | fdbInsert (port : Port) (vid : Nat)
  /-- FDB_DELETE (R401) -/
  | fdbDelete (port : Port) (vid : Nat)
  /-- FDB_FLUSH_PORT (R401) -/
  | fdbFlushPort (port : Port) (k : Nat)
  /-- FDB_FLUSH_INSTANCE (R401) -/
  | fdbFlushInstance (port : Port) (i : Nat)
  /-- FDB_FLUSH_ALL (R401) -/
  | fdbFlushAll (port : Port)
  /-- FDB_LOOKUP (R401) -/
  | fdbLookup (port : Port) (vid : Nat)
  /-- MDIO_C45_ADDRESS (R376) -/
  | mdioC45Address (port : Port) (c45 : Bool) (phy : Nat) (reg : Nat)
  /-- MDIO_WRITE (R376) -/
  | mdioWrite (port : Port) (c45 : Bool) (phy : Nat) (reg : Nat)
  /-- MDIO_READ (R376) -/
  | mdioRead (port : Port) (c45 : Bool) (phy : Nat) (reg : Nat)
  /-- MDIO_C22_READ (R376) -/
  | mdioC22Read (port : Port) (c45 : Bool) (phy : Nat) (reg : Nat)
  /-- MDIO_DONE (R376) -/
  | mdioDone (data : Nat)
  /-- HDM_TX_TAIL_WRITE (R393) -/
  | hdmTxTailWrite (port : Port) (r : Nat) (v : Nat)
  /-- HDM_TX_FRAME (R394) -/
  | hdmTxFrame (r : Nat) (descs : List TxDesc) (data : List Nat) (readErr : Bool)
  /-- HDM_RX_DELIVER (R395) -/
  | hdmRxDeliver (r : Nat) (bufs : List Nat) (ecc : Nat)
  /-- HDM_MOD_DELAY_EXPIRY (R397) -/
  | hdmModDelayExpiry (tx : Bool) (r : Nat)
  /-- HDM_DMA_ERROR (R397) -/
  | hdmDmaError
  /-- PTP_SYNC_RECEIVED (R409) -/
  | ptpSyncReceived (k : Nat) (sender : Nat) (senderPort : Nat) (domain : Nat) (seq : Nat) (rx : Int) (origin : Int) (corr : Int) (twoStep : Bool)
  /-- PTP_ANNOUNCE_RECEIVED (R411) -/
  | ptpAnnounceReceived (k : Nat) (a : Announce)
  /-- ANNOUNCE_TIMEOUT (R408) -/
  | announceTimeout
  /-- HOLDOVER_EXPIRY (R408) -/
  | holdoverExpiry
  /-- PTP_MESSAGE_TX (R410) -/
  | ptpMessageTx (k : Nat) (kind : PtpKind) (seq : Nat) (ns : Int)
  /-- TIM_HOST_STATE_WRITE (R408) -/
  | timHostStateWrite (port : Port) (v : Nat)
  /-- TIM_RATE_WRITE (R409) -/
  | timRateWrite (port : Port) (w : Nat)
  /-- TIM_STEP_HI_WRITE (R409) -/
  | timStepHiWrite (port : Port) (w : Nat)
  /-- TIM_CAPTURE (R407) -/
  | timCapture (port : Port)
  /-- TIM_NOW_LO_READ (R407) -/
  | timNowLoRead (port : Port)
  /-- TIM_TS_POP (R415) -/
  | timTsPop (port : Port) (count : Nat)
  /-- PPS_OUT_PULSE (R417) -/
  | ppsOutPulse (c : Nat)
  /-- PPS_IN_EDGE (R417) -/
  | ppsInEdge (falling : Bool) (c : Nat)
  /-- RTC_SECOND_ROLLOVER (R418) -/
  | rtcSecondRollover
  /-- RTC_SET_COUNT (R421) -/
  | rtcSetCount (port : Port)
  /-- RTC_SET_FIELDS (R421) -/
  | rtcSetFields (port : Port)
  /-- RTC_TRIM_WINDOW_END (R424) -/
  | rtcTrimWindowEnd (c : Nat)
  /-- OSCILLATOR_STOPPED (R425) -/
  | oscillatorStopped
  /-- SLQ_PACKET_COMPLETE (R437) -/
  | slqPacketComplete (q : Nat) (kind : Nat) (prio : Nat) (pad : Nat) (words : List Nat) (carry : Bool)
  /-- SLQ_STALL_RESUME (R444) -/
  | slqStallResume (q : Nat)
  /-- SLQ_UPLINK_READ (R438) -/
  | slqUplinkRead (port : Port) (q : Nat) (spoiled : Bool)
  /-- SLQ_DROP (R442) -/
  | slqDrop (port : Port) (q : Nat)
  /-- SLQ_MARK (R445) -/
  | slqMark (port : Port) (q : Nat)
  /-- SLQ_REWIND (R445) -/
  | slqRewind (port : Port) (q : Nat)
  /-- SLQ_CLEAR_MARK (R445) -/
  | slqClearMark (port : Port) (q : Nat)
  /-- SLQ_CLR_MAX (R446) -/
  | slqClrMax (port : Port) (q : Nat)
  /-- SLQ_FLUSH (R445) -/
  | slqFlush (port : Port) (q : Nat)
  /-- SLQ_DOWNLINK_DATA (R443) -/
  | slqDownlinkData (port : Port) (d : Nat) (w : Nat)
  /-- SLQ_DOWNLINK_COMMIT (R443) -/
  | slqDownlinkCommit (port : Port) (d : Nat) (len : Nat)
  /-- SLQ_ABORT (R443) -/
  | slqAbort (port : Port) (d : Nat)
  /-- SLQ_CELLS_WRITE (R434) -/
  | slqCellsWrite (port : Port) (q : Nat) (n : Nat)
  /-- SLQ_TIMEOUT (R447) -/
  | slqTimeout (q : Nat)
  /-- SLQ_ENABLE_WRITE (R569) -/
  | slqEnableWrite (port : Port) (en : Bool)
  /-- HEARTBEAT (R460) -/
  | heartbeat (c : Nat)
  /-- BIDUES_FRAME_RECEIVED (R462) -/
  | biduesFrameReceived (f : Bidues)
  /-- QUERY (R467) -/
  | query (f : Bidues)
  /-- ANSWER (R467) -/
  | answer (f : Bidues)
  /-- SWAP_REQ (R470) -/
  | swapReq (f : Bidues)
  /-- SWAP_ACK (R470) -/
  | swapAck (f : Bidues)
  /-- SWAP_NAK (R471) -/
  | swapNak (f : Bidues)
  /-- RESIGN (R466) -/
  | resign (f : Bidues)
  /-- BIDUES_LINK_LOST (R463) -/
  | biduesLinkLost
  /-- COMPARATOR_LOAD (R458) -/
  | comparatorLoad
  /-- START_WAIT_EXPIRY (R465) -/
  | startWaitExpiry
  /-- QUERY_WAIT_EXPIRY (R467) -/
  | queryWaitExpiry
  /-- SWAP_ACK_TIMEOUT (R471) -/
  | swapAckTimeout
  /-- HANDOVER (R472) -/
  | handover (port : Port)
  /-- TAKE (R472) -/
  | take (port : Port)
  /-- EPOCH_RESET (R456) -/
  | epochReset (port : Port)
  /-- CLM_QUERY (R477) -/
  | clmQuery (port : Port)
  /-- PERIODIC_SWAP (R473) -/
  | periodicSwap
  /-- REVERT_SETTLE_EXPIRY (R473) -/
  | revertSettleExpiry
  /-- CLM_ENABLE_WRITE (R474) -/
  | clmEnableWrite (port : Port) (en : Bool)
  /-- QUIET_TABLE_HOUR (R476) -/
  | quietTableHour
  /-- KEY_LOAD (R489) -/
  | keyLoad
  /-- KEY_DERIVE (R489) -/
  | keyDerive
  /-- KEY_ROTATE (R489) -/
  | keyRotate
  /-- KEY_ERASE (R489) -/
  | keyErase
  /-- LC_REQUEST (R493) -/
  | lcRequest
  /-- KEY_QUERY (R489) -/
  | keyQuery
  /-- KEY_ISLAND_ERROR (R492) -/
  | keyIslandError
  /-- TAMPER_SAMPLING_ROUND (R497) -/
  | tamperSamplingRound (opened : Nat) (hot : Bool) (busy : Bool)
  /-- TAMPER_MONITOR_TRIP (R499) -/
  | tamperMonitorTrip (m : Nat) (aon : Bool) (busy : Bool)
  /-- TPR_CFG_WRITE (R500) -/
  | tprCfgWrite (port : Port) (mon : Bool) (w : Nat)
  /-- SILT_EVENT (R509) -/
  | siltEvent (code : Nat) (p0 : Nat) (p1 : Nat) (p2 : Nat) (p3 : Nat)
  /-- SILT_RECORD_WRITE (R510) -/
  | siltRecordWrite
  /-- SLT_CLEAR (R516) -/
  | sltClear (port : Port) (key : Nat)
  /-- SIV_MODE_REQ (R524) -/
  | sivModeReq (port : Port) (v : Nat)
  /-- SIEVE_SLICE_START (R522) -/
  | sieveSliceStart (c : Nat) (unplaced : List (Nat × Nat))
  /-- SIEVE_SLICE_END (R520) -/
  | sieveSliceEnd (c : Nat) (region : Nat) (piece : Nat) (found : Nat)
  /-- SIEVE_ROUND_LIMIT (R527) -/
  | sieveRoundLimit (c : Nat)
  /-- SIEVE_FULL_DONE (R528) -/
  | sieveFullDone (found : Option SivFailure) (fails : Nat) (regions : Nat) (uncleared : Nat)
  /-- RECOVER (R529) -/
  | recover (port : Port) (region : Nat)
  /-- RECOVER_DONE (R529) -/
  | recoverDone (found : Option SivFailure) (fails : Nat)
  /-- CLEAR_FAILED (R526) -/
  | clearFailed (port : Port) (region : Nat)
  /-- GRG_HEADER (R537) -/
  | grgHeader
  /-- GRG_BLOCK (R538) -/
  | grgBlock
  /-- GRG_ABANDON (R540) -/
  | grgAbandon
  /-- GRG_VERIFY (R539) -/
  | grgVerify
  /-- GRG_IDLE_LIMIT (R540) -/
  | grgIdleLimit
  /-- ACTIVATE (R542) -/
  | activate (port : Port) (p : Nat)
  /-- CONFIRM (R544) -/
  | confirm (port : Port) (p : Nat)
  /-- ROLLBACK (R545) -/
  | rollback (port : Port) (p : Nat)
  /-- CAMPAIGN (R548) -/
  | campaign (port : Port)
  /-- CAMPAIGN_OFFER (R549) -/
  | campaignOffer
  /-- CAMPAIGN_QUERY_WAIT (R549) -/
  | campaignQueryWait
  /-- NODE_ACTIVATE (R550) -/
  | nodeActivate (port : Port)
  /-- STOP_CAMPAIGN (R553) -/
  | stopCampaign (port : Port)
  /-- BOOTROM_CONTAINER (R547) -/
  | bootromContainer (b : List Nat) (data : List Nat) (failed : Nat)
  /-- SAVE (R557) -/
  | save (port : Port)
  /-- MRL_AUTO_SAVE (R557) -/
  | mrlAutoSave
  /-- MRL_SAVE_DONE (R557) -/
  | mrlSaveDone (ok : Bool)
  /-- CLEAR (R558) -/
  | clear (port : Port) (key : Nat)
  /-- ITG_SCRUB (R562) -/
  | itgScrub (m : Nat) (found : List ScrubFound)
  /-- TX_FRAME_END (R130) -/
  | txFrameEnd (c : Nat) (at_ : Nat) (load : Bool)
  /-- RST_N_RELEASE (R52) -/
  | rstNRelease
  /-- WIN_DATA_READ (R155) -/
  | winDataRead (port : Port) (page : Nat)
  /-- MAC_ASN_LO_READ (R170) -/
  | macAsnLoRead (port : Port)
  /-- SCH_HIGH_LO_READ (R286) -/
  | schHighLoRead (port : Port)
  /-- ETP_BYTES_LO_READ (R402) -/
  | etpBytesLoRead (port : Port) (k : Nat) (tx : Bool)
  /-- PCIE_LINK_UP (R100) -/
  | pcieLinkUp (width : Nat) (speed : Nat)
  /-- DIE_HOT_END (R101) -/
  | dieHotEnd (t : Nat)
  /-- HDM_RX_TAIL_WRITE (R395) -/
  | hdmRxTailWrite (port : Port) (r : Nat) (v : Nat)
  /-- PTP_FOLLOW_UP_RECEIVED (R409) -/
  | ptpFollowUpReceived (k : Nat) (sender : Nat) (senderPort : Nat) (domain : Nat) (seq : Nat) (origin : Int) (corr : Int)
  /-- PTP_DELAY_REQ_RECEIVED (R410) -/
  | ptpDelayReqReceived (k : Nat) (domain : Nat) (seq : Nat) (rx : Int)
  /-- PTP_DELAY_RESP_RECEIVED (R410) -/
  | ptpDelayRespReceived (k : Nat) (sender : Nat) (senderPort : Nat) (domain : Nat) (seq : Nat) (t4 : Int) (corr : Int)
  /-- CALENDAR_FRACTION_ADVANCE (R420) -/
  | calendarFractionAdvance
deriving DecidableEq, Repr

end Sys2Proof
end

