-- ==== Sys2Proof/Machine/Bits.lean ====
section
/-! DEFINITION. Bit fields, sign extension, byte order and saturation over natural numbers (R14, R16). -/

namespace Sys2Proof.Machine

/-- Bits lo + n − 1 : lo of a value. -/
def bitsOf (v lo n : Nat) : Nat := v / 2 ^ lo % 2 ^ n

/-- Bit i of a value, as a truth value. -/
def bitAt (v i : Nat) : Bool := v / 2 ^ i % 2 == 1

/-- A value with bit i set. -/
def setBit (v i : Nat) : Nat := if bitAt v i then v else v + 2 ^ i

/-- A value with bit i clear. -/
def clrBit (v i : Nat) : Nat := if bitAt v i then v - 2 ^ i else v

/-- The number whose two's complement code of n bits is v. -/
def signed (n v : Nat) : Int :=
  if v % 2 ^ n < 2 ^ (n - 1) then (v % 2 ^ n : Nat) else ((v % 2 ^ n : Nat) : Int) - 2 ^ n

/-- The two's complement code of n bits of a number, wrapping. -/
def codeOf (n : Nat) (i : Int) : Nat := (i % 2 ^ n).toNat

/-- The sum of the set bits of a list of flags, bit 0 first. -/
def flagBits : List Bool → Nat
  | [] => 0
  | b :: t => (if b then 1 else 0) + 2 * flagBits t

/-- A number held between two bounds. -/
def clampInt (lo hi i : Int) : Int := max lo (min hi i)

/-- A count that saturates at its field's largest value. -/
def satAdd (v d max : Nat) : Nat := min max (v + d)

/-- Octet i, from the least significant, of a value. -/
def octet (v i : Nat) : Nat := v / 256 ^ i % 256

/-- The value of octets, the first one the least significant (R14). -/
def ofOctets : List Nat → Nat
  | [] => 0
  | b :: t => b % 256 + 256 * ofOctets t

/-- The n octets of a value, least significant first (R14). -/
def toOctets (n v : Nat) : List Nat := (List.range n).map (octet v)

/-- Rounding division of an integer by a positive number, halves away from zero. -/
def roundAway (a : Int) (d : Nat) : Int :=
  if a < 0 then -(((-a).toNat * 2 + d) / (2 * d) : Nat) else ((a.toNat * 2 + d) / (2 * d) : Nat)

/-- Element i of a table of n places takes a value; a place that the list does not hold stands at `d`. -/
def putAt {α : Type} (n : Nat) (d : α) (l : List α) (i : Nat) (v : α) : List α :=
  (List.range n).map fun k => if k = i then v else l.getD k d

/-- Take the longest run of the first elements for which the step function goes on, with its last state. -/
def iterate {α : Type} (f : α → α) : Nat → α → α
  | 0, a => a
  | n + 1, a => iterate f n (f a)

end Sys2Proof.Machine
end

