-- ==== Sys2Proof/Machine/Field.lean ====
section
/-! DEFINITION. What a register field is (R4, R8, R10), and the sparse maps that hold the fields' values and the
bytes of the windows. -/

namespace Sys2Proof.Machine

/-- The access types of R10 that the register tables use. -/
inductive Access where
  /-- read only: set by the unit -/
  | ro
  /-- read and write -/
  | rw
  /-- write only: reads 0, acts as the field's meaning states -/
  | wo
  /-- write 1 to clear -/
  | w1c
  /-- write 1 to set -/
  | w1s
  /-- read, then clears the bits returned as 1 (R12) -/
  | rc
  /-- read and write, kept across a warm reset -/
  | rws
deriving DecidableEq, Repr

/-- What a reset does to a field: most return to their reset value at every reset (R102); fields marked "kept" stand in
the always-on domain and only its loss resets them (R429, R506); fields marked "stored" are held in MRAM and survive every
reset (R104). -/
inductive Survival where
  | cleared
  | alwaysOn
  | stored
  | warm
deriving DecidableEq, Repr

/-- One field of one register: the register's byte address (R4), its lowest bit, its width, its access type (R10),
its reset value and what resets do to it. -/
structure Field where
  addr : Nat
  lo : Nat
  width : Nat
  access : Access
  reset : Nat
  survival : Survival
deriving DecidableEq, Repr

/-- The place of a field in the register store: its register's address and its lowest bit. -/
def Field.key (f : Field) : Nat := f.addr * 32 + f.lo

/-- A notice bit of a page's NOTE_RAW (R64). -/
structure Notice where
  page : Nat
  bit : Nat
deriving DecidableEq, Repr

/-- The value listed at a key of a sparse map. -/
def Sparse.get {α : Type} : List (Nat × α) → Nat → Option α
  | [], _ => none
  | (k', v) :: t, k => if k = k' then some v else Sparse.get t k

/-- List a value at a key, in rising order of keys. -/
def Sparse.insert {α : Type} : List (Nat × α) → Nat → α → List (Nat × α)
  | [], k, v => [(k, v)]
  | (k', v') :: t, k, v =>
    if k < k' then (k, v) :: (k', v') :: t
    else if k = k' then (k, v) :: t
    else (k', v') :: Sparse.insert t k v

/-- Remove a key. -/
def Sparse.erase {α : Type} : List (Nat × α) → Nat → List (Nat × α)
  | [], _ => []
  | (k', v') :: t, k => if k = k' then Sparse.erase t k else (k', v') :: Sparse.erase t k

/-- The keys rise strictly: the canonical form of a sparse map. -/
def Sparse.rising {α : Type} : List (Nat × α) → Bool
  | [] => true
  | [_] => true
  | (k, _) :: (k', v') :: t => decide (k < k') && Sparse.rising ((k', v') :: t)

/-- Cells of each uplink queue at reset (R434). -/
def slqCellsResetU (q : Nat) : Nat := if q = 0 then 1024 else if q = 1 then 512 else if q ≤ 6 then 256 else 0

/-- Cells of each downlink queue at reset (R434). -/
def slqCellsResetD (q : Nat) : Nat := if q ≤ 1 then 2048 else if q = 2 then 256 else 0

/-- The scrub periods of the four memory classes at reset (R566). -/
def itgScrubReset (m : Nat) : Nat := if m = 0 then 3600 else if m = 1 then 60 else 86400

end Sys2Proof.Machine
end

