-- ==== Sys2Proof/Machine/RegMapA.lean ====
section
/-! DEFINITION. The register fields of the pages of the host ports and the light path (pages 0x00 to 0x0C), by the spec's own names. -/

namespace Sys2Proof.Machine

/-! ### Page 0x00, SYS (R101) -/

/-- R101: 1 once start-up has made every unit usable, as "Start-Up and Life Cycle" states -/
abbrev SYS_STATUS_READY : Field := ⟨0x0000C, 0, 1, .ro, 0, .cleared⟩
/-- R101: requested power state, coded as SYS_MODE bits 1:0; each write is one request (R59) -/
abbrev SYS_POWER_REQ : Field := ⟨0x00044, 0, 2, .rw, 0, .cleared⟩
/-- R101: axis of the last request that any unit or the host made -/
abbrev SYS_REQ_STAT_AXIS : Field := ⟨0x00048, 0, 3, .ro, 7, .cleared⟩
/-- R101: axis that blocked it, or 7 -/
abbrev SYS_REQ_STAT_BLOCKER : Field := ⟨0x00048, 4, 3, .ro, 7, .cleared⟩
/-- R101: 0 none ; 1 granted ; 2 waiting ; 3 refused -/
abbrev SYS_REQ_STAT_RESULT : Field := ⟨0x00048, 8, 2, .ro, 0, .cleared⟩
/-- R101: refusals since reset, modulo 65,536 -/
abbrev SYS_REQ_STAT_REFUSALS : Field := ⟨0x00048, 16, 16, .ro, 0, .cleared⟩
/-- R101: 1 causes a warm reset, as a low pulse on RST_N does, when KEY is correct -/
abbrev SYS_RESET_WARM : Field := ⟨0x0004C, 0, 1, .wo, 0, .cleared⟩
/-- R101: must be 0x2B1D; a write with any other KEY is discarded -/
abbrev SYS_RESET_KEY : Field := ⟨0x0004C, 16, 16, .wo, 0, .cleared⟩
/-- R101: cause of the most recent reset: ; 0 VIN rise from unpowered ; 1 VIN return after HOLD ; 2 RTC alarm wake ; 3 R -/
abbrev SYS_RESET_CAUSE_CAUSE : Field := ⟨0x00050, 0, 4, .ro, 0, .cleared⟩
/-- R101: warm resets since the last cold reset, saturating at 65,535 -/
abbrev SYS_RESET_CAUSE_WARM_COUNT : Field := ⟨0x00050, 16, 16, .ro, 0, .cleared⟩
/-- R101: module serial number, bits 31:0 -/
abbrev SYS_SERIAL_LO : Field := ⟨0x00054, 0, 32, .ro, Config.factorySerialLo, .cleared⟩
/-- R101: module serial number, bits 63:32 -/
abbrev SYS_SERIAL_HI : Field := ⟨0x00058, 0, 32, .ro, Config.factorySerialHi, .cleared⟩
/-- R101: die temperature, signed, 0.1 °C -/
abbrev SYS_TEMP_DIE : Field := ⟨0x00060, 0, 16, .ro, 0, .warm⟩
/-- R101: 1 from 110 °C until the die falls below 105 °C; a warm reset leaves it (DESIGN CHOICE, log entry 186) -/
abbrev SYS_TEMP_HOT : Field := ⟨0x00060, 16, 1, .ro, 0, .warm⟩
/-- R101: 1 while R62 inhibits the PAs; a warm reset leaves it (DESIGN CHOICE, log entry 186) -/
abbrev SYS_TEMP_PA_INHIBIT : Field := ⟨0x00060, 17, 1, .ro, 0, .warm⟩
/-- R101: free for host use; kept across HOLD-wake only as "Start-Up and Life Cycle" states -/
abbrev SYS_SCRATCH : Field := ⟨0x0006C, 0, 32, .rw, 0, .cleared⟩
/-- R101: a field of SYS_MODE changed -/
abbrev SYS_NOTE_MODE : Notice := ⟨0x00, 0⟩
/-- R101: a request on any axis was refused (R34) -/
abbrev SYS_NOTE_REFUSED : Notice := ⟨0x00, 1⟩
/-- R101: a request on any axis was set to wait -/
abbrev SYS_NOTE_WAITING : Notice := ⟨0x00, 2⟩
/-- R101: the die reached 110 °C (R62) -/
abbrev SYS_NOTE_HOT : Notice := ⟨0x00, 3⟩
/-- R101: the PAs were inhibited at 125 °C (R62) -/
abbrev SYS_NOTE_PA_INHIBIT : Notice := ⟨0x00, 4⟩

/-- The defined fields of the page beyond its header, for reading and writing whole words. -/
def fieldsSYS : List Field :=
  [SYS_STATUS_READY, SYS_POWER_REQ, SYS_REQ_STAT_AXIS, SYS_REQ_STAT_BLOCKER, SYS_REQ_STAT_RESULT, SYS_REQ_STAT_REFUSALS, SYS_RESET_WARM, SYS_RESET_KEY, SYS_RESET_CAUSE_CAUSE, SYS_RESET_CAUSE_WARM_COUNT, SYS_SERIAL_LO, SYS_SERIAL_HI] ++
  [SYS_TEMP_DIE, SYS_TEMP_HOT, SYS_TEMP_PA_INHIBIT, SYS_SCRATCH]

/-- The defined notice bits of the page (every other bit of its NOTE_RAW is reserved, R8). -/
def noticesSYS : Nat := 0x1F

/-! ### Page 0x01, HIF (R100) -/

/-- R100: 1 while LRP_CLK has been seen within 2 µs (R71) -/
abbrev HIF_STATUS_LRP_CLK : Field := ⟨0x0100C, 0, 1, .ro, 0, .cleared⟩
/-- R100: 1 while the PCIe link is in L0 or L1 -/
abbrev HIF_STATUS_LINK_UP : Field := ⟨0x0100C, 1, 1, .ro, 0, .cleared⟩
/-- R100: 1 = ×1, 2 = ×2 -/
abbrev HIF_STATUS_WIDTH : Field := ⟨0x0100C, 2, 2, .ro, 0, .cleared⟩
/-- R100: 1 = 2.5, 2 = 5.0, 3 = 8.0 GT/s -/
abbrev HIF_STATUS_SPEED : Field := ⟨0x0100C, 4, 2, .ro, 0, .cleared⟩
/-- R100: Bus Master Enable as configured -/
abbrev HIF_STATUS_BME : Field := ⟨0x0100C, 6, 1, .ro, 0, .cleared⟩
/-- R100: MSI-X Enable as configured -/
abbrev HIF_STATUS_MSIX_EN : Field := ⟨0x0100C, 7, 1, .ro, 0, .cleared⟩
/-- R100: LRP writes waiting, 0–64 -/
abbrev HIF_POST_LRP_LEVEL : Field := ⟨0x01040, 0, 7, .ro, 0, .cleared⟩
/-- R100: PCIe writes waiting, 0–64 -/
abbrev HIF_POST_PCIE_LEVEL : Field := ⟨0x01040, 8, 7, .ro, 0, .cleared⟩
/-- R100: tag t -/
abbrev HIF_TXN_CTRL_TAG : Field := ⟨0x01048, 0, 2, .wo, 0, .cleared⟩
/-- R100: 1 OPEN ; 2 SELECT ; 3 DESELECT ; 4 COMMIT ; 5 ABORT ; other values: no tag changes, and HIF_TXN_CUR.ERR reads -/
abbrev HIF_TXN_CTRL_OP : Field := ⟨0x01048, 4, 3, .wo, 0, .cleared⟩
/-- R100: byte j of HIF_ROUTEi routes page 4i + j: ; bits 4:0 VECTOR, 0–31 ; bit 5 MSIX_EN ; bit 6 LINE, LRP_IRQ_N0 or L -/
abbrev HIF_ROUTE (i : Nat) : Field := ⟨0x01080 + 0x4 * (i % 16), 0, 32, .rw, 0, .cleared⟩
/-- R100: pending state of pages 0–31 (R82) -/
abbrev HIF_SUM_LO : Field := ⟨0x010C0, 0, 32, .ro, 0, .cleared⟩
/-- R100: pending state of pages 32–63 -/
abbrev HIF_SUM_HI : Field := ⟨0x010C4, 0, 32, .ro, 0, .cleared⟩
/-- R100: aggregate of MSI-X vectors 0–31 -/
abbrev HIF_VEC_PEND : Field := ⟨0x010C8, 0, 32, .ro, 0, .cleared⟩
/-- R100: vector to re-send (R83) -/
abbrev HIF_EOI_VECTOR : Field := ⟨0x010CC, 0, 5, .wo, 0, .cleared⟩
/-- R100: LRP_WAIT_N was asserted (R76) -/
abbrev HIF_NOTE_WAIT : Notice := ⟨0x01, 0⟩
/-- R100: a tag on either port reached DONE -/
abbrev HIF_NOTE_TXN_DONE : Notice := ⟨0x01, 1⟩
/-- R100: a tag on either port reached ABORTED -/
abbrev HIF_NOTE_TXN_ABORT : Notice := ⟨0x01, 2⟩
/-- R100: an access broke R6 or R79 -/
abbrev HIF_NOTE_BAD_ACCESS : Notice := ⟨0x01, 3⟩
/-- R100: the PCIe link left L0 and L1 -/
abbrev HIF_NOTE_LINK_DOWN : Notice := ⟨0x01, 4⟩
/-- R100: PCIE_PERST_N was asserted -/
abbrev HIF_NOTE_PERST : Notice := ⟨0x01, 5⟩
/-- R100: LRP_CLK was lost (R71) -/
abbrev HIF_NOTE_CLK_LOST : Notice := ⟨0x01, 6⟩
/-- R100: the PCIe posting buffer was full (R80) -/
abbrev HIF_NOTE_CREDIT_HOLD : Notice := ⟨0x01, 7⟩

/-- The defined fields of the page beyond its header, for reading and writing whole words. -/
def fieldsHIF : List Field :=
  [HIF_STATUS_LRP_CLK, HIF_STATUS_LINK_UP, HIF_STATUS_WIDTH, HIF_STATUS_SPEED, HIF_STATUS_BME, HIF_STATUS_MSIX_EN, HIF_POST_LRP_LEVEL, HIF_POST_PCIE_LEVEL, HIF_TXN_CTRL_TAG, HIF_TXN_CTRL_OP, HIF_SUM_LO, HIF_SUM_HI] ++
  [HIF_VEC_PEND, HIF_EOI_VECTOR] ++
  (List.range 16).map HIF_ROUTE

/-- The defined notice bits of the page (every other bit of its NOTE_RAW is reserved, R8). -/
def noticesHIF : Nat := 0xFF

/-! ### Page 0x02, RFE (R155) -/

/-- R155: 1 runs chain 0 -/
abbrev RFE_CTRL_RX0_EN : Field := ⟨0x02008, 0, 1, .rw, 0, .cleared⟩
/-- R155: 1 runs chain 1 -/
abbrev RFE_CTRL_RX1_EN : Field := ⟨0x02008, 1, 1, .rw, 0, .cleared⟩
/-- R155: 1 allows transmission (R154) -/
abbrev RFE_CTRL_TX_EN : Field := ⟨0x02008, 2, 1, .rw, 0, .cleared⟩
/-- R155: 0 none ; 1 set A ; 2 set B ; 3 acts as 0 -/
abbrev RFE_CTRL_REGION : Field := ⟨0x02008, 4, 2, .rw, 0, .cleared⟩
/-- R155: 1 while the chain receives -/
abbrev RFE_STATUS_RX0_ON : Field := ⟨0x0200C, 0, 1, .ro, 0, .cleared⟩
/-- R155: 1 while the chain receives -/
abbrev RFE_STATUS_RX1_ON : Field := ⟨0x0200C, 1, 1, .ro, 0, .cleared⟩
/-- R155: 1 while the PA is on -/
abbrev RFE_STATUS_PA0_ON : Field := ⟨0x0200C, 2, 1, .ro, 0, .cleared⟩
/-- R155: 1 while the PA is on -/
abbrev RFE_STATUS_PA1_ON : Field := ⟨0x0200C, 3, 1, .ro, 0, .cleared⟩
/-- R155: 1 while R62 inhibits the PAs; a warm reset leaves it (DESIGN CHOICE, log entry 186) -/
abbrev RFE_STATUS_INHIBIT : Field := ⟨0x0200C, 4, 1, .ro, 0, .warm⟩
/-- R155: 1 after R147 restored buckets with no elapsed time -/
abbrev RFE_STATUS_STALE : Field := ⟨0x0200C, 5, 1, .ro, 0, .cleared⟩
/-- R155: set in force (R144) -/
abbrev RFE_STATUS_REGION : Field := ⟨0x0200C, 8, 2, .ro, 0, .cleared⟩
/-- R155: chain 0 centre, kHz -/
abbrev RFE_CHAIN0_FREQ : Field := ⟨0x02040, 0, 20, .rw, 0xd3ea0, .cleared⟩
/-- R155: chain 1 centre, kHz -/
abbrev RFE_CHAIN1_FREQ : Field := ⟨0x02044, 0, 20, .rw, 0xdf638, .cleared⟩
/-- R155: chain 0 attenuation, 3 dB steps -/
abbrev RFE_AGC_ATT0 : Field := ⟨0x02048, 0, 4, .ro, 0, .cleared⟩
/-- R155: chain 1 attenuation, 3 dB steps -/
abbrev RFE_AGC_ATT1 : Field := ⟨0x02048, 8, 4, .ro, 0, .cleared⟩
/-- R155: FSK preamble, octets, 4–63; values below 4 act as 4 -/
abbrev RFE_TX_PHY_PREAMBLE : Field := ⟨0x0204C, 0, 6, .rw, 8, .cleared⟩
/-- R155: 1 enables the channel -/
abbrev RFE_TXCH_CFG_EN (i : Nat) : Field := ⟨0x02050 + 0x4 * (i % 4), 0, 1, .rw, 0, .cleared⟩
/-- R155: antenna, 0 or 1 -/
abbrev RFE_TXCH_CFG_ANT (i : Nat) : Field := ⟨0x02050 + 0x4 * (i % 4), 1, 1, .rw, 0, .cleared⟩
/-- R155: requested power code; values above 160 act as 160 -/
abbrev RFE_TXCH_CFG_PWR (i : Nat) : Field := ⟨0x02050 + 0x4 * (i % 4), 8, 8, .rw, 0, .cleared⟩
/-- R155: power code of the last frame (R140) -/
abbrev RFE_TXCH_STAT_GRANTED (i : Nat) : Field := ⟨0x02060 + 0x4 * (i % 4), 0, 8, .ro, 0, .cleared⟩
/-- R155: entry of the last frame: 0–15 set A, 16–30 set B entries 0–14, 31 none; set B entry 15 reads 30 -/
abbrev RFE_TXCH_STAT_ENTRY (i : Nat) : Field := ⟨0x02060 + 0x4 * (i % 4), 8, 5, .ro, 31, .cleared⟩
/-- R155: 1 while sending -/
abbrev RFE_TXCH_STAT_ACTIVE (i : Nat) : Field := ⟨0x02060 + 0x4 * (i % 4), 16, 1, .ro, 0, .cleared⟩
/-- R155: per-channel cap code (R139) -/
abbrev RFE_ANT_CAP_CAP0 : Field := ⟨0x02070, 0, 8, .ro, 160, .cleared⟩
/-- R155: per-channel cap code (R139) -/
abbrev RFE_ANT_CAP_CAP1 : Field := ⟨0x02070, 8, 8, .ro, 160, .cleared⟩
/-- R155: 1–100; 0 acts as 100 -/
abbrev RFE_BUDGET_CFG_LOW_PCT : Field := ⟨0x02074, 0, 7, .rw, 90, .cleared⟩
/-- R155: 0–15 set A, 16–31 set B -/
abbrev RFE_BUDGET_SEL_ENTRY : Field := ⟨0x02078, 0, 5, .rw, 0, .cleared⟩
/-- R155: channel, SCOPE 2 only -/
abbrev RFE_BUDGET_SEL_CHANNEL : Field := ⟨0x02078, 16, 7, .rw, 0, .cleared⟩
/-- R155: used of the selected budget, µs -/
abbrev RFE_BUDGET_USED : Field := ⟨0x0207C, 0, 32, .ro, 0, .cleared⟩
/-- R155: ALLOW − RESERVE of the selected entry, µs -/
abbrev RFE_BUDGET_LIMIT : Field := ⟨0x02080, 0, 32, .ro, 0, .cleared⟩
/-- R155: ms until the oldest bucket of the selected budget leaves the window -/
abbrev RFE_BUDGET_AGE : Field := ⟨0x02084, 0, 32, .ro, 0, .cleared⟩
/-- R155: frames dropped, per priority -/
abbrev RFE_DROP (i : Nat) : Field := ⟨0x02088 + 0x4 * (i % 4), 0, 32, .ro, 0, .cleared⟩
/-- R155: frames blocked -/
abbrev RFE_BLOCKED : Field := ⟨0x02098, 0, 32, .ro, 0, .cleared⟩
/-- R155: priority-3 frames skipped -/
abbrev RFE_SKIP : Field := ⟨0x0209C, 0, 32, .ro, 0, .cleared⟩
/-- R155: frames out of band -/
abbrev RFE_OOB : Field := ⟨0x020A0, 0, 32, .ro, 0, .cleared⟩
/-- R155: µs (R145) -/
abbrev RFE_LAST_CHARGE : Field := ⟨0x020A4, 0, 32, .ro, 0, .cleared⟩
/-- R155: word offset in the band table -/
abbrev RFE_WIN_ADDR_OFFSET : Field := ⟨0x020A8, 2, 8, .rw, 0, .cleared⟩
/-- R155: forced AGC step (R129) -/
abbrev RFE_NOTE_CLIP0 : Notice := ⟨0x02, 0⟩
/-- R155: forced AGC step (R129) -/
abbrev RFE_NOTE_CLIP1 : Notice := ⟨0x02, 1⟩
/-- R155: a frame was blocked (R151) -/
abbrev RFE_NOTE_BLOCK : Notice := ⟨0x02, 2⟩
/-- R155: a frame was dropped (R153, R154) -/
abbrev RFE_NOTE_DROP : Notice := ⟨0x02, 3⟩
/-- R155: a priority-3 frame was skipped (R152) -/
abbrev RFE_NOTE_SKIP : Notice := ⟨0x02, 4⟩
/-- R155: R143 -/
abbrev RFE_NOTE_OUT_OF_BAND : Notice := ⟨0x02, 5⟩
/-- R155: R148 -/
abbrev RFE_NOTE_LOW : Notice := ⟨0x02, 6⟩
/-- R155: R142 -/
abbrev RFE_NOTE_TABLE_ERR : Notice := ⟨0x02, 7⟩
/-- R155: R127 -/
abbrev RFE_NOTE_CFG_ERR : Notice := ⟨0x02, 8⟩
/-- R155: R140 -/
abbrev RFE_NOTE_PA_LOAD : Notice := ⟨0x02, 9⟩
/-- R155: R147 -/
abbrev RFE_NOTE_STALE : Notice := ⟨0x02, 10⟩

/-- The defined fields of the page beyond its header, for reading and writing whole words. -/
def fieldsRFE : List Field :=
  [RFE_CTRL_RX0_EN, RFE_CTRL_RX1_EN, RFE_CTRL_TX_EN, RFE_CTRL_REGION, RFE_STATUS_RX0_ON, RFE_STATUS_RX1_ON, RFE_STATUS_PA0_ON, RFE_STATUS_PA1_ON, RFE_STATUS_INHIBIT, RFE_STATUS_STALE, RFE_STATUS_REGION, RFE_CHAIN0_FREQ] ++
  [RFE_CHAIN1_FREQ, RFE_AGC_ATT0, RFE_AGC_ATT1, RFE_TX_PHY_PREAMBLE, RFE_ANT_CAP_CAP0, RFE_ANT_CAP_CAP1, RFE_BUDGET_CFG_LOW_PCT, RFE_BUDGET_SEL_ENTRY, RFE_BUDGET_SEL_CHANNEL, RFE_BUDGET_USED, RFE_BUDGET_LIMIT, RFE_BUDGET_AGE] ++
  [RFE_BLOCKED, RFE_SKIP, RFE_OOB, RFE_LAST_CHARGE, RFE_WIN_ADDR_OFFSET] ++
  (List.range 4).map RFE_TXCH_CFG_EN ++
  (List.range 4).map RFE_TXCH_CFG_ANT ++
  (List.range 4).map RFE_TXCH_CFG_PWR ++
  (List.range 4).map RFE_TXCH_STAT_GRANTED ++
  (List.range 4).map RFE_TXCH_STAT_ENTRY ++
  (List.range 4).map RFE_TXCH_STAT_ACTIVE ++
  (List.range 4).map RFE_DROP

/-- The defined notice bits of the page (every other bit of its NOTE_RAW is reserved, R8). -/
def noticesRFE : Nat := 0x7FF

/-! ### Page 0x03, CHN (R156) -/

/-- R156: 1 runs the channelizer -/
abbrev CHN_CTRL_EN : Field := ⟨0x03008, 0, 1, .rw, 0, .cleared⟩
/-- R156: slots receiving, 0–128 -/
abbrev CHN_STATUS_ACTIVE : Field := ⟨0x0300C, 0, 8, .ro, 0, .cleared⟩
/-- R156: 0 128 slots ; 1 32 slots ; 2 slot 0 only (R135) -/
abbrev CHN_STATUS_LIMIT : Field := ⟨0x0300C, 8, 2, .ro, 0, .cleared⟩
/-- R156: frames passed to the MAC -/
abbrev CHN_RX_OK : Field := ⟨0x03040, 0, 32, .ro, 0, .cleared⟩
/-- R156: frames with a bad FCS -/
abbrev CHN_FCS_ERR : Field := ⟨0x03044, 0, 32, .ro, 0, .cleared⟩
/-- R156: R137 -/
abbrev CHN_LOST_BUF : Field := ⟨0x03048, 0, 32, .ro, 0, .cleared⟩
/-- R156: R129 -/
abbrev CHN_LOST_AGC : Field := ⟨0x0304C, 0, 32, .ro, 0, .cleared⟩
/-- R156: R128, R130 -/
abbrev CHN_LOST_BLANK : Field := ⟨0x03050, 0, 32, .ro, 0, .cleared⟩
/-- R156: R136 -/
abbrev CHN_DIV_DUP : Field := ⟨0x03054, 0, 32, .ro, 0, .cleared⟩
/-- R156: slot of the last CFG_ERR -/
abbrev CHN_CFG_ERR_SLOT_SLOT : Field := ⟨0x03058, 0, 7, .ro, 0, .cleared⟩
/-- R156: 0 none ; 1 outside span ; 2 duplicate ; 3 invalid PHY ; 4 write to a MAC-owned slot -/
abbrev CHN_CFG_ERR_SLOT_REASON : Field := ⟨0x03058, 8, 3, .ro, 0, .cleared⟩
/-- R156: word offset in the demodulator table -/
abbrev CHN_WIN_ADDR_OFFSET : Field := ⟨0x03060, 2, 9, .rw, 0, .cleared⟩
/-- R156: a slot was disabled or a write discarded (R133, R134) -/
abbrev CHN_NOTE_CFG_ERR : Notice := ⟨0x03, 0⟩
/-- R156: R137 -/
abbrev CHN_NOTE_OVERFLOW : Notice := ⟨0x03, 1⟩
/-- R156: R129 -/
abbrev CHN_NOTE_AGC_LOSS : Notice := ⟨0x03, 2⟩

/-- The defined fields of the page beyond its header, for reading and writing whole words. -/
def fieldsCHN : List Field :=
  [CHN_CTRL_EN, CHN_STATUS_ACTIVE, CHN_STATUS_LIMIT, CHN_RX_OK, CHN_FCS_ERR, CHN_LOST_BUF, CHN_LOST_AGC, CHN_LOST_BLANK, CHN_DIV_DUP, CHN_CFG_ERR_SLOT_SLOT, CHN_CFG_ERR_SLOT_REASON, CHN_WIN_ADDR_OFFSET]

/-- The defined notice bits of the page (every other bit of its NOTE_RAW is reserved, R8). -/
def noticesCHN : Nat := 0x7

/-! ### Page 0x04, MAC (R195) -/

/-- R195: 1 runs the MAC -/
abbrev MAC_CTRL_EN : Field := ⟨0x04008, 0, 1, .rw, 0, .cleared⟩
/-- R195: 1 sends beacons (R174) -/
abbrev MAC_CTRL_EB_EN : Field := ⟨0x04008, 1, 1, .rw, 0, .cleared⟩
/-- R195: R186 -/
abbrev MAC_CTRL_AUTO_ADMIT : Field := ⟨0x04008, 2, 1, .rw, 0, .cleared⟩
/-- R195: R167 -/
abbrev MAC_CTRL_DIVERSITY : Field := ⟨0x04008, 3, 1, .rw, 0, .cleared⟩
/-- R195: antenna for acknowledgements -/
abbrev MAC_CTRL_ACK_ANT : Field := ⟨0x04008, 4, 1, .rw, 0, .cleared⟩
/-- R195: 1 realigns under R171 -/
abbrev MAC_CTRL_REALIGN : Field := ⟨0x04008, 5, 1, .wo, 0, .cleared⟩
/-- R195: 0 not running ; 1 own time (R170) ; 2 following the partner (R173) -/
abbrev MAC_STATUS_SYNC : Field := ⟨0x0400C, 0, 2, .ro, 0, .cleared⟩
/-- R195: R171 -/
abbrev MAC_STATUS_ASN_DEV : Field := ⟨0x0400C, 2, 1, .ro, 0, .cleared⟩
/-- R195: R157; 0xFFFF keeps the MAC from sending -/
abbrev MAC_PAN_PAN_ID : Field := ⟨0x04040, 0, 16, .rw, 0xffff, .cleared⟩
/-- R195: R157; other values act as 0x0000 -/
abbrev MAC_SELF_SHORT : Field := ⟨0x04044, 0, 16, .rw, 0, .cleared⟩
/-- R195: extended address -/
abbrev MAC_EXT_LO : Field := ⟨0x04048, 0, 32, .ro, Config.factoryExtLo, .cleared⟩
/-- R195: extended address -/
abbrev MAC_EXT_HI : Field := ⟨0x0404C, 0, 32, .ro, Config.factoryExtHi, .cleared⟩
/-- R195: module time of ASN 0, ns -/
abbrev MAC_ASN_EPOCH_LO : Field := ⟨0x04050, 0, 32, .rw, 0, .cleared⟩
/-- R195: module time of ASN 0, ns -/
abbrev MAC_ASN_EPOCH_HI : Field := ⟨0x04054, 0, 32, .rw, 0, .cleared⟩
/-- R195: ASN bits 31:0; the read latches MAC_ASN_HI for the port -/
abbrev MAC_ASN_LO : Field := ⟨0x04058, 0, 32, .ro, 0, .cleared⟩
/-- R195: ASN bits 39:32 -/
abbrev MAC_ASN_HI : Field := ⟨0x0405C, 0, 8, .ro, 0, .cleared⟩
/-- R195: R159 -/
abbrev MAC_TS_TX_OFFSET : Field := ⟨0x04060, 0, 8, .rw, 220, .cleared⟩
/-- R195: 1–128; 0 acts as 1; 129–255 act as 128 (R163) -/
abbrev MAC_HOP_LEN : Field := ⟨0x04064, 0, 8, .rw, 1, .cleared⟩
/-- R195: sent in beacons -/
abbrev MAC_HOP_SEQ_ID : Field := ⟨0x04064, 8, 8, .rw, 0, .cleared⟩
/-- R195: first pool slot -/
abbrev MAC_RX_POOL_FIRST : Field := ⟨0x04068, 0, 7, .rw, 0, .cleared⟩
/-- R195: last pool slot; below FIRST leaves the pool empty -/
abbrev MAC_RX_POOL_LAST : Field := ⟨0x04068, 8, 7, .rw, 63, .cleared⟩
/-- R195: R169 -/
abbrev MAC_DOZE_CH_OFFSET : Field := ⟨0x0406C, 0, 7, .rw, 0, .cleared⟩
/-- R195: retries, 0–15 -/
abbrev MAC_RETRY_MAX : Field := ⟨0x04070, 0, 4, .rw, 3, .cleared⟩
/-- R195: R188 -/
abbrev MAC_RETRY_MIN_BE : Field := ⟨0x04070, 8, 4, .rw, 1, .cleared⟩
/-- R195: R188; below MIN_BE acts as MIN_BE -/
abbrev MAC_RETRY_MAX_BE : Field := ⟨0x04070, 12, 4, .rw, 5, .cleared⟩
/-- R195: s, 1–65,535; 0 acts as 1 -/
abbrev MAC_JOIN_TIMEOUT : Field := ⟨0x04074, 0, 16, .rw, 30, .cleared⟩
/-- R195: R189; 0 never marks -/
abbrev MAC_HEALTH_UNREACH : Field := ⟨0x04078, 0, 8, .rw, 8, .cleared⟩
/-- R195: Hardpan slot, key index 1 -/
abbrev MAC_KEY_JOIN : Field := ⟨0x0407C, 0, 6, .rw, 0, .cleared⟩
/-- R195: key index 2 -/
abbrev MAC_KEY_NET2 : Field := ⟨0x0407C, 8, 6, .rw, 1, .cleared⟩
/-- R195: key index 3 -/
abbrev MAC_KEY_NET3 : Field := ⟨0x0407C, 16, 6, .rw, 2, .cleared⟩
/-- R195: 0 transmit under index 2 ; 1 under index 3 -/
abbrev MAC_KEY_NET_CUR : Field := ⟨0x0407C, 24, 1, .rw, 0, .cleared⟩
/-- R195: KEY_SLOT given to entries admitted automatically -/
abbrev MAC_KEY_AUTO_CLASS : Field := ⟨0x0407C, 26, 6, .rw, 3, .cleared⟩
/-- R195: R176 -/
abbrev MAC_PARTNER_MISS : Field := ⟨0x04080, 0, 2, .ro, 0, .cleared⟩
/-- R195: outgoing frame counter for key indices 1–3 (R182) -/
abbrev MAC_TX_FC : Field := ⟨0x04084, 0, 32, .ro, 0, .stored⟩
/-- R195: frames accepted -/
abbrev MAC_RX_OK : Field := ⟨0x04088, 0, 32, .ro, 0, .cleared⟩
/-- R195: R183 -/
abbrev MAC_DUP : Field := ⟨0x0408C, 0, 32, .ro, 0, .cleared⟩
/-- R195: R183 -/
abbrev MAC_REPLAY : Field := ⟨0x04090, 0, 32, .ro, 0, .cleared⟩
/-- R195: R180, R181, R183 -/
abbrev MAC_SEC_FAIL : Field := ⟨0x04094, 0, 32, .ro, 0, .cleared⟩
/-- R195: R177, R178 -/
abbrev MAC_MALFORMED : Field := ⟨0x04098, 0, 32, .ro, 0, .cleared⟩
/-- R195: R168 -/
abbrev MAC_RX_SHORT : Field := ⟨0x0409C, 0, 32, .ro, 0, .cleared⟩
/-- R195: frames sent to completion -/
abbrev MAC_TX_OK : Field := ⟨0x040A0, 0, 32, .ro, 0, .cleared⟩
/-- R195: R189, R191 -/
abbrev MAC_TX_FAIL : Field := ⟨0x040A4, 0, 32, .ro, 0, .cleared⟩
/-- R195: R160 -/
abbrev MAC_NOFIT : Field := ⟨0x040A8, 0, 32, .ro, 0, .cleared⟩
/-- R195: R190 -/
abbrev MAC_ACK_NOCH : Field := ⟨0x040AC, 0, 32, .ro, 0, .cleared⟩
/-- R195: R178 -/
abbrev MAC_TOO_LONG : Field := ⟨0x040B0, 0, 32, .ro, 0, .cleared⟩
/-- R195: R186 -/
abbrev MAC_JOIN_OK : Field := ⟨0x040B4, 0, 32, .ro, 0, .cleared⟩
/-- R195: R186, R187 -/
abbrev MAC_JOIN_REFUSED : Field := ⟨0x040B8, 0, 32, .ro, 0, .cleared⟩
/-- R195: R186 -/
abbrev MAC_JOIN_FULL : Field := ⟨0x040BC, 0, 32, .ro, 0, .cleared⟩
/-- R195: R186 -/
abbrev MAC_REJOIN : Field := ⟨0x040C0, 0, 32, .ro, 0, .cleared⟩
/-- R195: word offset in the MAC window -/
abbrev MAC_WIN_ADDR_OFFSET : Field := ⟨0x040C4, 2, 17, .rw, 0, .cleared⟩
/-- R195: outgoing frame counter for key index 4 (R182); never resets -/
abbrev MAC_TX_FC4 : Field := ⟨0x040CC, 0, 32, .ro, 0, .stored⟩
/-- R195: R159, R163 -/
abbrev MAC_NOTE_CFG_ERR : Notice := ⟨0x04, 0⟩
/-- R195: R160 -/
abbrev MAC_NOTE_NOFIT : Notice := ⟨0x04, 1⟩
/-- R195: R168 -/
abbrev MAC_NOTE_RX_SHORT : Notice := ⟨0x04, 2⟩
/-- R195: R171 -/
abbrev MAC_NOTE_ASN_DEV : Notice := ⟨0x04, 3⟩
/-- R195: R178 -/
abbrev MAC_NOTE_TOO_LONG : Notice := ⟨0x04, 4⟩
/-- R195: R182 -/
abbrev MAC_NOTE_FC_LOW : Notice := ⟨0x04, 5⟩
/-- R195: R183 -/
abbrev MAC_NOTE_REPLAY : Notice := ⟨0x04, 6⟩
/-- R195: R186 -/
abbrev MAC_NOTE_JOIN_FULL : Notice := ⟨0x04, 7⟩
/-- R195: R189 -/
abbrev MAC_NOTE_UNREACH : Notice := ⟨0x04, 8⟩
/-- R195: MAC_PARTNER.MISS rose from 0 -/
abbrev MAC_NOTE_PARTNER_MISS : Notice := ⟨0x04, 9⟩

/-- The defined fields of the page beyond its header, for reading and writing whole words. -/
def fieldsMAC : List Field :=
  [MAC_CTRL_EN, MAC_CTRL_EB_EN, MAC_CTRL_AUTO_ADMIT, MAC_CTRL_DIVERSITY, MAC_CTRL_ACK_ANT, MAC_CTRL_REALIGN, MAC_STATUS_SYNC, MAC_STATUS_ASN_DEV, MAC_PAN_PAN_ID, MAC_SELF_SHORT, MAC_EXT_LO, MAC_EXT_HI] ++
  [MAC_ASN_EPOCH_LO, MAC_ASN_EPOCH_HI, MAC_ASN_LO, MAC_ASN_HI, MAC_TS_TX_OFFSET, MAC_HOP_LEN, MAC_HOP_SEQ_ID, MAC_RX_POOL_FIRST, MAC_RX_POOL_LAST, MAC_DOZE_CH_OFFSET, MAC_RETRY_MAX, MAC_RETRY_MIN_BE] ++
  [MAC_RETRY_MAX_BE, MAC_JOIN_TIMEOUT, MAC_HEALTH_UNREACH, MAC_KEY_JOIN, MAC_KEY_NET2, MAC_KEY_NET3, MAC_KEY_NET_CUR, MAC_KEY_AUTO_CLASS, MAC_PARTNER_MISS, MAC_TX_FC, MAC_RX_OK, MAC_DUP] ++
  [MAC_REPLAY, MAC_SEC_FAIL, MAC_MALFORMED, MAC_RX_SHORT, MAC_TX_OK, MAC_TX_FAIL, MAC_NOFIT, MAC_ACK_NOCH, MAC_TOO_LONG, MAC_JOIN_OK, MAC_JOIN_REFUSED, MAC_JOIN_FULL] ++
  [MAC_REJOIN, MAC_WIN_ADDR_OFFSET, MAC_TX_FC4]

/-- The defined notice bits of the page (every other bit of its NOTE_RAW is reserved, R8). -/
def noticesMAC : Nat := 0x3FF

/-! ### Page 0x05, NTB (R196) -/

/-- R196: 1 takes NTB_CMD commands and NTB_FIND lookups; with 0 they are not taken, NTB_CMD_STAT.RESULT reads 5 after a -/
abbrev NTB_CTRL_EN : Field := ⟨0x05008, 0, 1, .rw, 0, .cleared⟩
/-- R196: entries not FREE, 0–8,192 -/
abbrev NTB_STATUS_USED : Field := ⟨0x0500C, 0, 14, .ro, 0, .cleared⟩
/-- R196: entry -/
abbrev NTB_CMD_INDEX : Field := ⟨0x05040, 0, 13, .wo, 0, .cleared⟩
/-- R196: 1 PROVISION: FREE to PROVISIONED; TYPE must not be 0 ; 2 BLOCK: any state but FREE to BLOCKED ; 3 UNBLOCK: BLO -/
abbrev NTB_CMD_OP : Field := ⟨0x05040, 16, 3, .wo, 0, .cleared⟩
/-- R196: 0 done ; 1 state does not allow the command ; 2 EXT_ADDR already held by another radio entry that is not FREE -/
abbrev NTB_CMD_STAT_RESULT : Field := ⟨0x05044, 0, 3, .ro, 0, .cleared⟩
/-- R196: extended address, bits 31:0 -/
abbrev NTB_FIND_LO : Field := ⟨0x05048, 0, 32, .rw, 0, .cleared⟩
/-- R196: bits 63:32; a write starts a lookup -/
abbrev NTB_FIND_HI : Field := ⟨0x0504C, 0, 32, .rw, 0, .cleared⟩
/-- R196: entry found -/
abbrev NTB_FIND_RES_INDEX : Field := ⟨0x05050, 0, 13, .ro, 0, .cleared⟩
/-- R196: 1 if an entry that is not FREE holds the address; FREE entries are never found; valid 1 µs after the NTB_FIND_ -/
abbrev NTB_FIND_RES_FOUND : Field := ⟨0x05050, 16, 1, .ro, 0, .cleared⟩
/-- R196: word offset in the table -/
abbrev NTB_WIN_ADDR_OFFSET : Field := ⟨0x05054, 2, 19, .rw, 0, .cleared⟩
/-- R196: entry of the last CFG_ERR or CHECK -/
abbrev NTB_ERR_INDEX : Field := ⟨0x0505C, 0, 13, .ro, 0, .cleared⟩
/-- R196: 0 none ; 1 write to a locked field ; 2 command failed ; 3 check failed -/
abbrev NTB_ERR_REASON : Field := ⟨0x0505C, 16, 3, .ro, 0, .cleared⟩
/-- R196: R193; a command failed -/
abbrev NTB_NOTE_CFG_ERR : Notice := ⟨0x05, 0⟩
/-- R196: R189 -/
abbrev NTB_NOTE_UNREACH : Notice := ⟨0x05, 1⟩
/-- R196: R186 -/
abbrev NTB_NOTE_FULL : Notice := ⟨0x05, 2⟩
/-- R196: R194 -/
abbrev NTB_NOTE_CHECK : Notice := ⟨0x05, 3⟩

/-- The defined fields of the page beyond its header, for reading and writing whole words. -/
def fieldsNTB : List Field :=
  [NTB_CTRL_EN, NTB_STATUS_USED, NTB_CMD_INDEX, NTB_CMD_OP, NTB_CMD_STAT_RESULT, NTB_FIND_LO, NTB_FIND_HI, NTB_FIND_RES_INDEX, NTB_FIND_RES_FOUND, NTB_WIN_ADDR_OFFSET, NTB_ERR_INDEX, NTB_ERR_REASON]

/-- The defined notice bits of the page (every other bit of its NOTE_RAW is reserved, R8). -/
def noticesNTB : Nat := 0xF

/-! ### Page 0x06, SPR (R235) -/

/-- R235: 1 runs SPR; 0 as R568 states -/
abbrev SPR_CTRL_EN : Field := ⟨0x06008, 0, 1, .rw, 0, .cleared⟩
/-- R235: R211 -/
abbrev SPR_CTRL_HB_EN : Field := ⟨0x06008, 1, 1, .rw, 1, .cleared⟩
/-- R235: R225 -/
abbrev SPR_CTRL_SCHED_AUTO : Field := ⟨0x06008, 2, 1, .rw, 1, .cleared⟩
/-- R235: R232 -/
abbrev SPR_CTRL_FWD_BAD : Field := ⟨0x06008, 3, 1, .rw, 0, .cleared⟩
/-- R235: 1 while SPR builds frames for air -/
abbrev SPR_STATUS_BUILDING : Field := ⟨0x0600C, 0, 1, .ro, 0, .cleared⟩
/-- R235: own claim number (R205) -/
abbrev SPR_CLAIM : Field := ⟨0x06040, 0, 32, .ro, 0, .cleared⟩
/-- R235: s, 1–600; 0 acts as 1; larger values act as 600 -/
abbrev SPR_HB_PERIOD : Field := ⟨0x06044, 0, 10, .rw, 60, .cleared⟩
/-- R235: bit n forwards type 0x21 + n; the default forwards FAULT and STATUS -/
abbrev SPR_FWD : Field := ⟨0x06048, 0, 7, .rw, 48, .cleared⟩
/-- R235: s; 0 acts as 1 -/
abbrev SPR_SCHED_HOLDOFF : Field := ⟨0x0604C, 0, 16, .rw, 30, .cleared⟩
/-- R235: messages accepted -/
abbrev SPR_RX_MSG : Field := ⟨0x06050, 0, 32, .ro, 0, .cleared⟩
/-- R235: messages handed to the MAC -/
abbrev SPR_TX_MSG : Field := ⟨0x06054, 0, 32, .ro, 0, .cleared⟩
/-- R235: R204 -/
abbrev SPR_MALFORMED : Field := ⟨0x06058, 0, 32, .ro, 0, .cleared⟩
/-- R235: R210 -/
abbrev SPR_SUPERSEDED : Field := ⟨0x0605C, 0, 32, .ro, 0, .cleared⟩
/-- R235: R210 -/
abbrev SPR_CONFLICT : Field := ⟨0x06060, 0, 32, .ro, 0, .cleared⟩
/-- R235: R205, R231 -/
abbrev SPR_DROP_CLAIM : Field := ⟨0x06064, 0, 32, .ro, 0, .cleared⟩
/-- R235: events passed to Drift -/
abbrev SPR_PRES_EVENTS : Field := ⟨0x06068, 0, 32, .ro, 0, .cleared⟩
/-- R235: R221 -/
abbrev SPR_PRES_STALE : Field := ⟨0x0606C, 0, 32, .ro, 0, .cleared⟩
/-- R235: R231 -/
abbrev SPR_REFUSED : Field := ⟨0x06070, 0, 32, .ro, 0, .cleared⟩
/-- R235: entry of the last malformed message or refusal -/
abbrev SPR_ERR_INDEX : Field := ⟨0x06074, 0, 13, .ro, 0, .cleared⟩
/-- R235: its TYPE -/
abbrev SPR_ERR_TYPE : Field := ⟨0x06074, 16, 8, .ro, 0, .cleared⟩
/-- R235: 0 none ; 1 malformed ; 2 type not allowed ; 3 DEST not a radio entry ; 4 too long -/
abbrev SPR_ERR_REASON : Field := ⟨0x06074, 24, 3, .ro, 0, .cleared⟩
/-- R235: R204 -/
abbrev SPR_NOTE_MALFORMED : Notice := ⟨0x06, 0⟩
/-- R235: R210 -/
abbrev SPR_NOTE_SUPERSEDED : Notice := ⟨0x06, 1⟩
/-- R235: R210 -/
abbrev SPR_NOTE_CONFLICT : Notice := ⟨0x06, 2⟩
/-- R235: R221 -/
abbrev SPR_NOTE_FAULT : Notice := ⟨0x06, 3⟩
/-- R235: R231 -/
abbrev SPR_NOTE_REFUSED : Notice := ⟨0x06, 4⟩
/-- R235: R205, R231 -/
abbrev SPR_NOTE_DROP_CLAIM : Notice := ⟨0x06, 5⟩

/-- The defined fields of the page beyond its header, for reading and writing whole words. -/
def fieldsSPR : List Field :=
  [SPR_CTRL_EN, SPR_CTRL_HB_EN, SPR_CTRL_SCHED_AUTO, SPR_CTRL_FWD_BAD, SPR_STATUS_BUILDING, SPR_CLAIM, SPR_HB_PERIOD, SPR_FWD, SPR_SCHED_HOLDOFF, SPR_RX_MSG, SPR_TX_MSG, SPR_MALFORMED] ++
  [SPR_SUPERSEDED, SPR_CONFLICT, SPR_DROP_CLAIM, SPR_PRES_EVENTS, SPR_PRES_STALE, SPR_REFUSED, SPR_ERR_INDEX, SPR_ERR_TYPE, SPR_ERR_REASON]

/-- The defined notice bits of the page (every other bit of its NOTE_RAW is reserved, R8). -/
def noticesSPR : Nat := 0x3F

/-! ### Page 0x07, DRF (R268) -/

/-- R268: 1 runs Drift (R265) -/
abbrev DRF_CTRL_EN : Field := ⟨0x07008, 0, 1, .rw, 0, .cleared⟩
/-- R268: 1 while evaluations run -/
abbrev DRF_STATUS_RUNNING : Field := ⟨0x0700C, 0, 1, .ro, 0, .cleared⟩
/-- R268: 1 while the last result was degraded (R264) -/
abbrev DRF_STATUS_DEGRADED : Field := ⟨0x0700C, 1, 1, .ro, 0, .cleared⟩
/-- R268: ms, 5–200; below 5 acts as 5, above 200 as 200 -/
abbrev DRF_EVAL_PERIOD : Field := ⟨0x07040, 0, 8, .rw, 20, .cleared⟩
/-- R268: cm/s, 30–3,000; values outside act as the nearer limit -/
abbrev DRF_SPEED_MIN : Field := ⟨0x07044, 0, 16, .rw, 30, .cleared⟩
/-- R268: cm/s, as MIN; below MIN acts as MIN -/
abbrev DRF_SPEED_MAX : Field := ⟨0x07044, 16, 16, .rw, 0xbb8, .cleared⟩
/-- R268: units of 100 ms, 0–255 -/
abbrev DRF_WALKER_GRACE : Field := ⟨0x07048, 0, 8, .rw, 20, .cleared⟩
/-- R268: s, 1–600; 0 acts as 1, above 600 as 600 -/
abbrev DRF_WALKER_MAX_LIFE : Field := ⟨0x07048, 8, 10, .rw, 60, .cleared⟩
/-- R268: R250, 1–16; 0 acts as 1, above 16 as 16 -/
abbrev DRF_WALKER_ALPHA : Field := ⟨0x07048, 24, 5, .rw, 8, .cleared⟩
/-- R268: 1–256; 0 and values above 256 act as 256 -/
abbrev DRF_SEARCH_VERTS : Field := ⟨0x0704C, 0, 9, .rw, 0x100, .cleared⟩
/-- R268: 1–2,048; 0 and values above 2,048 act as 2,048 -/
abbrev DRF_SEARCH_EDGES : Field := ⟨0x0704C, 16, 12, .rw, 0x800, .cleared⟩
/-- R268: ms, 1–10,000; 0 acts as 1, above 10,000 as 10,000 -/
abbrev DRF_INTAKE_MAX_AGE : Field := ⟨0x07050, 0, 16, .rw, 0x7d0, .cleared⟩
/-- R268: R243 -/
abbrev DRF_INTAKE_MIN_STRENGTH : Field := ⟨0x07050, 16, 8, .rw, 0, .cleared⟩
/-- R268: 1 asks for a swap (R240) -/
abbrev DRF_GRAPH_SWAP : Field := ⟨0x07054, 0, 1, .wo, 0, .cleared⟩
/-- R268: 0 bank A, 1 bank B -/
abbrev DRF_GRAPH_ACTIVE : Field := ⟨0x07054, 8, 1, .ro, 0, .cleared⟩
/-- R268: 1 from the SWAP write until the swap is applied or refused -/
abbrev DRF_GRAPH_PENDING : Field := ⟨0x07054, 9, 1, .ro, 0, .cleared⟩
/-- R268: record of the last GRAPH_ERR -/
abbrev DRF_GRAPH_ERR_INDEX : Field := ⟨0x07058, 0, 16, .ro, 0, .cleared⟩
/-- R268: 0 vertex, 1 edge -/
abbrev DRF_GRAPH_ERR_KIND : Field := ⟨0x07058, 16, 1, .ro, 0, .cleared⟩
/-- R268: 0 none ; 1–6 as R240 ; 7 write to the active bank -/
abbrev DRF_GRAPH_ERR_REASON : Field := ⟨0x07058, 24, 3, .ro, 0, .cleared⟩
/-- R268: units of 100 ms, 0–100; above 100 acts as 100 -/
abbrev DRF_CLASS_LEAD (i : Nat) : Field := ⟨0x07060 + 0x4 * (i % 16), 0, 7, .rw, 30, .cleared⟩
/-- R268: %, 0–100; above 100 acts as 100 -/
abbrev DRF_CLASS_TAPER (i : Nat) : Field := ⟨0x07060 + 0x4 * (i % 16), 8, 7, .rw, 50, .cleared⟩
/-- R268: s, 0–600; above 600 acts as 600 -/
abbrev DRF_CLASS_TRAIL (i : Nat) : Field := ⟨0x07060 + 0x4 * (i % 16), 16, 10, .rw, 60, .cleared⟩
/-- R268: cm/s for new walkers; clamped to DRF_SPEED -/
abbrev DRF_CLASS_SPD_SPEED_INIT (i : Nat) : Field := ⟨0x070A0 + 0x4 * (i % 16), 0, 12, .rw, 140, .cleared⟩
/-- R268: vertex of an injected event -/
abbrev DRF_INJECT_VERTEX : Field := ⟨0x070E0, 0, 13, .wo, 0, .cleared⟩
/-- R268: its age, ms; each write enters one event with strength 255 and sensor 0 -/
abbrev DRF_INJECT_AGE : Field := ⟨0x070E0, 16, 16, .wo, 0, .cleared⟩
/-- R268: module time of t0, bits 31:0 -/
abbrev DRF_SNAP_TIME_LO : Field := ⟨0x07100, 0, 32, .ro, 0, .cleared⟩
/-- R268: bits 63:32 -/
abbrev DRF_SNAP_TIME_HI : Field := ⟨0x07104, 0, 32, .ro, 0, .cleared⟩
/-- R268: target bank of the result -/
abbrev DRF_SNAP_BANK_BANK : Field := ⟨0x07108, 0, 2, .ro, 0, .cleared⟩
/-- R268: walkers in use at t3, 0–1,024 -/
abbrev DRF_SNAP_WALKERS_IN_USE : Field := ⟨0x0710C, 0, 11, .ro, 0, .cleared⟩
/-- R268: walkers truncated -/
abbrev DRF_SNAP_WALKERS_TRUNC : Field := ⟨0x0710C, 16, 11, .ro, 0, .cleared⟩
/-- R268: entries handled, 0–12,288 -/
abbrev DRF_SNAP_EVENTS_TAKEN : Field := ⟨0x07110, 0, 16, .ro, 0, .cleared⟩
/-- R268: coalescings in the side taken, saturating at 65,535 -/
abbrev DRF_SNAP_EVENTS_COALESCED : Field := ⟨0x07110, 16, 16, .ro, 0, .cleared⟩
/-- R268: t5 − t0, µs -/
abbrev DRF_SNAP_DUR_DURATION : Field := ⟨0x07114, 0, 16, .ro, 0, .cleared⟩
/-- R268: lateness of t0 under R263, µs, saturating -/
abbrev DRF_SNAP_DUR_STRETCH : Field := ⟨0x07114, 16, 16, .ro, 0, .cleared⟩
/-- R268: R263 -/
abbrev DRF_SNAP_END_OVERRUN : Field := ⟨0x07118, 0, 1, .ro, 0, .cleared⟩
/-- R268: R264 -/
abbrev DRF_SNAP_END_DEGRADED : Field := ⟨0x07118, 1, 1, .ro, 0, .cleared⟩
/-- R268: R255 -/
abbrev DRF_SNAP_END_TRUNC : Field := ⟨0x07118, 2, 1, .ro, 0, .cleared⟩
/-- R268: R258 -/
abbrev DRF_SNAP_END_FLOOR_OVER_CAP : Field := ⟨0x07118, 3, 1, .ro, 0, .cleared⟩
/-- R268: R241 -/
abbrev DRF_SNAP_END_SWAPPED : Field := ⟨0x07118, 4, 1, .ro, 0, .cleared⟩
/-- R268: R243 -/
abbrev DRF_EVENTS_IN : Field := ⟨0x07140, 0, 32, .ro, 0, .cleared⟩
/-- R268: R245 -/
abbrev DRF_COALESCED : Field := ⟨0x07144, 0, 32, .ro, 0, .cleared⟩
/-- R268: R243 -/
abbrev DRF_STALE : Field := ⟨0x07148, 0, 32, .ro, 0, .cleared⟩
/-- R268: R243 -/
abbrev DRF_BAD_EVENT : Field := ⟨0x0714C, 0, 32, .ro, 0, .cleared⟩
/-- R268: R243 -/
abbrev DRF_WEAK : Field := ⟨0x07150, 0, 32, .ro, 0, .cleared⟩
/-- R268: R247 -/
abbrev DRF_CREATED : Field := ⟨0x07154, 0, 32, .ro, 0, .cleared⟩
/-- R268: R249 -/
abbrev DRF_EVICT : Field := ⟨0x07158, 0, 32, .ro, 0, .cleared⟩
/-- R268: R241, R251 -/
abbrev DRF_RETIRED : Field := ⟨0x0715C, 0, 32, .ro, 0, .cleared⟩
/-- R268: R255 -/
abbrev DRF_TRUNC : Field := ⟨0x07160, 0, 32, .ro, 0, .cleared⟩
/-- R268: R263 -/
abbrev DRF_OVERRUNS : Field := ⟨0x07164, 0, 32, .ro, 0, .cleared⟩
/-- R268: R265 -/
abbrev DRF_SKIPPED : Field := ⟨0x07168, 0, 32, .ro, 0, .cleared⟩
/-- R268: R258 -/
abbrev DRF_FLOOR_OVER_CAP : Field := ⟨0x0716C, 0, 32, .ro, 0, .cleared⟩
/-- R268: word offset in the DRF window -/
abbrev DRF_WIN_ADDR_OFFSET : Field := ⟨0x07170, 2, 22, .rw, 0, .cleared⟩
/-- R268: R263 -/
abbrev DRF_NOTE_OVERRUN : Notice := ⟨0x07, 0⟩
/-- R268: R245 -/
abbrev DRF_NOTE_COALESCE : Notice := ⟨0x07, 1⟩
/-- R268: R249 -/
abbrev DRF_NOTE_WALKER_FULL : Notice := ⟨0x07, 2⟩
/-- R268: R236, R240 -/
abbrev DRF_NOTE_GRAPH_ERR : Notice := ⟨0x07, 3⟩
/-- R268: R241 -/
abbrev DRF_NOTE_SWAP_DONE : Notice := ⟨0x07, 4⟩
/-- R268: R264 -/
abbrev DRF_NOTE_DEGRADED : Notice := ⟨0x07, 5⟩
/-- R268: R255 -/
abbrev DRF_NOTE_TRUNC : Notice := ⟨0x07, 6⟩
/-- R268: R243 -/
abbrev DRF_NOTE_BAD_EVENT : Notice := ⟨0x07, 7⟩
/-- R268: R258 -/
abbrev DRF_NOTE_FLOOR_OVER_CAP : Notice := ⟨0x07, 8⟩

/-- The defined fields of the page beyond its header, for reading and writing whole words. -/
def fieldsDRF : List Field :=
  [DRF_CTRL_EN, DRF_STATUS_RUNNING, DRF_STATUS_DEGRADED, DRF_EVAL_PERIOD, DRF_SPEED_MIN, DRF_SPEED_MAX, DRF_WALKER_GRACE, DRF_WALKER_MAX_LIFE, DRF_WALKER_ALPHA, DRF_SEARCH_VERTS, DRF_SEARCH_EDGES, DRF_INTAKE_MAX_AGE] ++
  [DRF_INTAKE_MIN_STRENGTH, DRF_GRAPH_SWAP, DRF_GRAPH_ACTIVE, DRF_GRAPH_PENDING, DRF_GRAPH_ERR_INDEX, DRF_GRAPH_ERR_KIND, DRF_GRAPH_ERR_REASON, DRF_INJECT_VERTEX, DRF_INJECT_AGE, DRF_SNAP_TIME_LO, DRF_SNAP_TIME_HI, DRF_SNAP_BANK_BANK] ++
  [DRF_SNAP_WALKERS_IN_USE, DRF_SNAP_WALKERS_TRUNC, DRF_SNAP_EVENTS_TAKEN, DRF_SNAP_EVENTS_COALESCED, DRF_SNAP_DUR_DURATION, DRF_SNAP_DUR_STRETCH, DRF_SNAP_END_OVERRUN, DRF_SNAP_END_DEGRADED, DRF_SNAP_END_TRUNC, DRF_SNAP_END_FLOOR_OVER_CAP, DRF_SNAP_END_SWAPPED, DRF_EVENTS_IN] ++
  [DRF_COALESCED, DRF_STALE, DRF_BAD_EVENT, DRF_WEAK, DRF_CREATED, DRF_EVICT, DRF_RETIRED, DRF_TRUNC, DRF_OVERRUNS, DRF_SKIPPED, DRF_FLOOR_OVER_CAP, DRF_WIN_ADDR_OFFSET] ++
  (List.range 16).map DRF_CLASS_LEAD ++
  (List.range 16).map DRF_CLASS_TAPER ++
  (List.range 16).map DRF_CLASS_TRAIL ++
  (List.range 16).map DRF_CLASS_SPD_SPEED_INIT

/-- The defined notice bits of the page (every other bit of its NOTE_RAW is reserved, R8). -/
def noticesDRF : Nat := 0x1FF

/-! ### Page 0x08, SCH (R286) -/

/-- R286: 1 runs the unit (R278) -/
abbrev SCH_CTRL_EN : Field := ⟨0x08008, 0, 1, .rw, 0, .cleared⟩
/-- R286: 1 while ticks are evaluated or held -/
abbrev SCH_STATUS_RUNNING : Field := ⟨0x0800C, 0, 1, .ro, 0, .cleared⟩
/-- R286: R280 -/
abbrev SCH_STATUS_NO_TIME : Field := ⟨0x0800C, 1, 1, .ro, 0, .cleared⟩
/-- R286: R282 -/
abbrev SCH_STATUS_GUARDED : Field := ⟨0x0800C, 2, 1, .ro, 0, .cleared⟩
/-- R286: 1 while any program ramps -/
abbrev SCH_STATUS_RAMPING : Field := ⟨0x0800C, 3, 1, .ro, 0, .cleared⟩
/-- R286: latitude, signed, µ° (R274) -/
abbrev SCH_LAT : Field := ⟨0x08040, 0, 32, .rw, 0, .cleared⟩
/-- R286: longitude, signed, µ° -/
abbrev SCH_LON : Field := ⟨0x08044, 0, 32, .rw, 0, .cleared⟩
/-- R286: signed minutes (R271) -/
abbrev SCH_LOCAL_OFFSET : Field := ⟨0x08048, 0, 11, .rw, 0, .cleared⟩
/-- R286: offset armed -/
abbrev SCH_LOCAL_NEXT_OFFSET : Field := ⟨0x0804C, 0, 11, .rw, 0, .cleared⟩
/-- R286: change instant, UTC seconds, bits 31:0 -/
abbrev SCH_LOCAL_AT_LO : Field := ⟨0x08050, 0, 32, .rw, 0, .cleared⟩
/-- R286: bits 47:32; 0 in both words arms nothing -/
abbrev SCH_LOCAL_AT_HI : Field := ⟨0x08054, 0, 16, .rw, 0, .cleared⟩
/-- R286: offset before the last change -/
abbrev SCH_LOCAL_PREV_OFFSET : Field := ⟨0x08058, 0, 11, .ro, 0, .cleared⟩
/-- R286: s (R282) -/
abbrev SCH_GUARD_SPAN : Field := ⟨0x0805C, 0, 16, .rw, 0xe10, .cleared⟩
/-- R286: H, UTC seconds, bits 31:0; the read latches SCH_HIGH_HI for the port -/
abbrev SCH_HIGH_LO : Field := ⟨0x08060, 0, 32, .ro, 0, .stored⟩
/-- R286: bits 47:32 -/
abbrev SCH_HIGH_HI : Field := ⟨0x08064, 0, 16, .ro, 0, .stored⟩
/-- R286: current local date -/
abbrev SCH_TODAY_DATE : Field := ⟨0x08068, 0, 18, .ro, 0, .cleared⟩
/-- R286: program of the last CFG_ERR -/
abbrev SCH_CFG_ERR_PROGRAM : Field := ⟨0x0806C, 0, 8, .ro, 0, .cleared⟩
/-- R286: its step -/
abbrev SCH_CFG_ERR_STEP : Field := ⟨0x0806C, 8, 6, .ro, 0, .cleared⟩
/-- R286: 0 none ; 1 invalid KIND ; 2 AT out of range ; 3 STEPS above 64 ; 4 latitude or longitude out of range ; 5 offs -/
abbrev SCH_CFG_ERR_REASON : Field := ⟨0x0806C, 16, 3, .ro, 0, .cleared⟩
/-- R286: R281 -/
abbrev SCH_JUMP_FWD : Field := ⟨0x08070, 0, 32, .ro, 0, .cleared⟩
/-- R286: corrections (R282) -/
abbrev SCH_JUMP_BACK : Field := ⟨0x08074, 0, 32, .ro, 0, .cleared⟩
/-- R286: guarded periods entered -/
abbrev SCH_GUARDS : Field := ⟨0x08078, 0, 32, .ro, 0, .cleared⟩
/-- R286: instant of the last offset change, bits 31:0 -/
abbrev SCH_LOCAL_PREV_AT_LO : Field := ⟨0x08080, 0, 32, .ro, 0, .cleared⟩
/-- R286: bits 47:32 -/
abbrev SCH_LOCAL_PREV_AT_HI : Field := ⟨0x08084, 0, 16, .ro, 0, .cleared⟩
/-- R286: tick instant, UTC seconds, bits 31:0 -/
abbrev SCH_PUB_TIME_LO : Field := ⟨0x08100, 0, 32, .ro, 0, .cleared⟩
/-- R286: bits 47:32 -/
abbrev SCH_PUB_TIME_HI_SECONDS : Field := ⟨0x08104, 0, 16, .ro, 0, .cleared⟩
/-- R286: fraction of the tick instant -/
abbrev SCH_PUB_TIME_HI_FRACTION : Field := ⟨0x08104, 16, 16, .ro, 0, .cleared⟩
/-- R286: programs whose floor or cap changed, 0–256; the last word of the block -/
abbrev SCH_PUB_END_CHANGED : Field := ⟨0x08108, 0, 9, .ro, 0, .cleared⟩
/-- R286: held publication -/
abbrev SCH_PUB_END_GUARDED : Field := ⟨0x08108, 16, 1, .ro, 0, .cleared⟩
/-- R286: fallback publication -/
abbrev SCH_PUB_END_NO_TIME : Field := ⟨0x08108, 17, 1, .ro, 0, .cleared⟩
/-- R286: first publication (R278) -/
abbrev SCH_PUB_END_FIRST : Field := ⟨0x08108, 18, 1, .ro, 0, .cleared⟩
/-- R286: word offset in the SCH window -/
abbrev SCH_WIN_ADDR_OFFSET : Field := ⟨0x08140, 2, 18, .rw, 0, .cleared⟩
/-- R286: R281 -/
abbrev SCH_NOTE_JUMP_FWD : Notice := ⟨0x08, 0⟩
/-- R286: R282, correction -/
abbrev SCH_NOTE_JUMP_BACK : Notice := ⟨0x08, 1⟩
/-- R286: R282 -/
abbrev SCH_NOTE_GUARD : Notice := ⟨0x08, 2⟩
/-- R286: R282 -/
abbrev SCH_NOTE_GUARD_END : Notice := ⟨0x08, 3⟩
/-- R286: R280 -/
abbrev SCH_NOTE_NO_TIME : Notice := ⟨0x08, 4⟩
/-- R286: R269, R270, R271, R274 -/
abbrev SCH_NOTE_CFG_ERR : Notice := ⟨0x08, 5⟩
/-- R286: R274 -/
abbrev SCH_NOTE_NO_EVENT : Notice := ⟨0x08, 6⟩
/-- R286: R271 -/
abbrev SCH_NOTE_OFFSET_CHANGE : Notice := ⟨0x08, 7⟩

/-- The defined fields of the page beyond its header, for reading and writing whole words. -/
def fieldsSCH : List Field :=
  [SCH_CTRL_EN, SCH_STATUS_RUNNING, SCH_STATUS_NO_TIME, SCH_STATUS_GUARDED, SCH_STATUS_RAMPING, SCH_LAT, SCH_LON, SCH_LOCAL_OFFSET, SCH_LOCAL_NEXT_OFFSET, SCH_LOCAL_AT_LO, SCH_LOCAL_AT_HI, SCH_LOCAL_PREV_OFFSET] ++
  [SCH_GUARD_SPAN, SCH_HIGH_LO, SCH_HIGH_HI, SCH_TODAY_DATE, SCH_CFG_ERR_PROGRAM, SCH_CFG_ERR_STEP, SCH_CFG_ERR_REASON, SCH_JUMP_FWD, SCH_JUMP_BACK, SCH_GUARDS, SCH_LOCAL_PREV_AT_LO, SCH_LOCAL_PREV_AT_HI] ++
  [SCH_PUB_TIME_LO, SCH_PUB_TIME_HI_SECONDS, SCH_PUB_TIME_HI_FRACTION, SCH_PUB_END_CHANGED, SCH_PUB_END_GUARDED, SCH_PUB_END_NO_TIME, SCH_PUB_END_FIRST, SCH_WIN_ADDR_OFFSET]

/-- The defined notice bits of the page (every other bit of its NOTE_RAW is reserved, R8). -/
def noticesSCH : Nat := 0xFF

/-! ### Page 0x09, TMP (R313) -/

/-- R313: 1 runs Temper (R311) -/
abbrev TMP_CTRL_EN : Field := ⟨0x09008, 0, 1, .rw, 0, .cleared⟩
/-- R313: 1 while samples run -/
abbrev TMP_STATUS_RUNNING : Field := ⟨0x0900C, 0, 1, .ro, 0, .cleared⟩
/-- R313: slots with ENABLE 1, 0–2,048 -/
abbrev TMP_STATUS_ENABLED : Field := ⟨0x0900C, 16, 12, .ro, 0, .cleared⟩
/-- R313: slot shown in the result block -/
abbrev TMP_WATCH_SLOT : Field := ⟨0x09040, 0, 11, .rw, 0, .cleared⟩
/-- R313: host measurement, 0.1 lx -/
abbrev TMP_MEAS_VALUE : Field := ⟨0x09044, 0, 32, .rw, 0, .cleared⟩
/-- R313: each write enters TMP_MEAS_VALUE for the slot (R290) -/
abbrev TMP_MEAS_SLOT_SLOT : Field := ⟨0x09048, 0, 11, .wo, 0, .cleared⟩
/-- R313: slot of the last CFG_ERR -/
abbrev TMP_CFG_ERR_SLOT : Field := ⟨0x0904C, 0, 11, .ro, 0, .cleared⟩
/-- R313: 0 none ; 1 PERIOD out of range ; 2 CLAMP_LO above CLAMP_HI ; 3 FE_ACTION 3 -/
abbrev TMP_CFG_ERR_REASON : Field := ⟨0x0904C, 16, 3, .ro, 0, .cleared⟩
/-- R313: slot of the last FOLLOW, STALE or FAULT -/
abbrev TMP_EVENT_SLOT : Field := ⟨0x09050, 0, 11, .ro, 0, .cleared⟩
/-- R313: 0 none ; 1 FOLLOW ; 2 STALE ; 3 FAULT -/
abbrev TMP_EVENT_KIND : Field := ⟨0x09050, 16, 2, .ro, 0, .cleared⟩
/-- R313: samples computed -/
abbrev TMP_SAMPLES : Field := ⟨0x09060, 0, 32, .ro, 0, .cleared⟩
/-- R313: measurements stored (R289) -/
abbrev TMP_MEAS_IN : Field := ⟨0x09064, 0, 32, .ro, 0, .cleared⟩
/-- R313: R289 -/
abbrev TMP_MEAS_IGN : Field := ⟨0x09068, 0, 32, .ro, 0, .cleared⟩
/-- R313: R287 -/
abbrev TMP_ZONE_BAD : Field := ⟨0x0906C, 0, 32, .ro, 0, .cleared⟩
/-- R313: R290 -/
abbrev TMP_MEAS_REJ : Field := ⟨0x09070, 0, 32, .ro, 0, .cleared⟩
/-- R313: R299 -/
abbrev TMP_FOLLOW : Field := ⟨0x09074, 0, 32, .ro, 0, .cleared⟩
/-- R313: R298 -/
abbrev TMP_STALE : Field := ⟨0x09078, 0, 32, .ro, 0, .cleared⟩
/-- R313: R310 -/
abbrev TMP_FAULT : Field := ⟨0x0907C, 0, 32, .ro, 0, .cleared⟩
/-- R313: R302 -/
abbrev TMP_LATE : Field := ⟨0x09080, 0, 32, .ro, 0, .cleared⟩
/-- R313: R295 -/
abbrev TMP_FROZEN : Field := ⟨0x09084, 0, 32, .ro, 0, .cleared⟩
/-- R313: slot of the block's sample -/
abbrev TMP_W_SLOT_SLOT : Field := ⟨0x09100, 0, 11, .ro, 0, .cleared⟩
/-- R313: its SAMPLE_NO -/
abbrev TMP_W_SAMPLE : Field := ⟨0x09104, 0, 32, .ro, 0, .cleared⟩
/-- R313: module time of t0, ns, bits 31:0 -/
abbrev TMP_W_TIME_LO : Field := ⟨0x09108, 0, 32, .ro, 0, .cleared⟩
/-- R313: bits 63:32 -/
abbrev TMP_W_TIME_HI : Field := ⟨0x0910C, 0, 32, .ro, 0, .cleared⟩
/-- R313: ⌊SPL⌋, 0.1 lx -/
abbrev TMP_W_SP : Field := ⟨0x09110, 0, 32, .ro, 0, .cleared⟩
/-- R313: y, 0.1 lx -/
abbrev TMP_W_MEAS : Field := ⟨0x09114, 0, 32, .ro, 0, .cleared⟩
/-- R313: e, signed -/
abbrev TMP_W_ERR : Field := ⟨0x09118, 0, 32, .ro, 0, .cleared⟩
/-- R313: integrator bits 31:0 -/
abbrev TMP_W_I_LO : Field := ⟨0x0911C, 0, 32, .ro, 0, .cleared⟩
/-- R313: integrator bits 47:32, signed -/
abbrev TMP_W_I_HI : Field := ⟨0x09120, 0, 16, .ro, 0, .cleared⟩
/-- R313: OUT; the last word of the block -/
abbrev TMP_W_END_OUT : Field := ⟨0x09124, 0, 16, .ro, 0, .cleared⟩
/-- R313: STATE as R307 -/
abbrev TMP_W_END_STATE : Field := ⟨0x09124, 16, 3, .ro, 0, .cleared⟩
/-- R313: FLAGS as R307 -/
abbrev TMP_W_END_FLAGS : Field := ⟨0x09124, 24, 8, .ro, 0, .cleared⟩
/-- R313: word offset in the TMP window -/
abbrev TMP_WIN_ADDR_OFFSET : Field := ⟨0x09140, 2, 18, .rw, 0, .cleared⟩
/-- R313: R299 -/
abbrev TMP_NOTE_FOLLOW : Notice := ⟨0x09, 0⟩
/-- R313: R298 -/
abbrev TMP_NOTE_STALE : Notice := ⟨0x09, 1⟩
/-- R313: R292, R296 -/
abbrev TMP_NOTE_CFG_ERR : Notice := ⟨0x09, 2⟩
/-- R313: R310 -/
abbrev TMP_NOTE_FAULT : Notice := ⟨0x09, 3⟩
/-- R313: R287 -/
abbrev TMP_NOTE_ZONE_BAD : Notice := ⟨0x09, 4⟩
/-- R313: R290 -/
abbrev TMP_NOTE_MEAS_REJ : Notice := ⟨0x09, 5⟩
/-- R313: R302 -/
abbrev TMP_NOTE_LATE : Notice := ⟨0x09, 6⟩

/-- The defined fields of the page beyond its header, for reading and writing whole words. -/
def fieldsTMP : List Field :=
  [TMP_CTRL_EN, TMP_STATUS_RUNNING, TMP_STATUS_ENABLED, TMP_WATCH_SLOT, TMP_MEAS_VALUE, TMP_MEAS_SLOT_SLOT, TMP_CFG_ERR_SLOT, TMP_CFG_ERR_REASON, TMP_EVENT_SLOT, TMP_EVENT_KIND, TMP_SAMPLES, TMP_MEAS_IN] ++
  [TMP_MEAS_IGN, TMP_ZONE_BAD, TMP_MEAS_REJ, TMP_FOLLOW, TMP_STALE, TMP_FAULT, TMP_LATE, TMP_FROZEN, TMP_W_SLOT_SLOT, TMP_W_SAMPLE, TMP_W_TIME_LO, TMP_W_TIME_HI] ++
  [TMP_W_SP, TMP_W_MEAS, TMP_W_ERR, TMP_W_I_LO, TMP_W_I_HI, TMP_W_END_OUT, TMP_W_END_STATE, TMP_W_END_FLAGS, TMP_WIN_ADDR_OFFSET]

/-- The defined notice bits of the page (every other bit of its NOTE_RAW is reserved, R8). -/
def noticesTMP : Nat := 0x7F

/-! ### Page 0x0A, SHP (R343) -/

/-- R343: 1 runs passes -/
abbrev SHP_CTRL_EN : Field := ⟨0x0A008, 0, 1, .rw, 0, .cleared⟩
/-- R343: 1 while passes run -/
abbrev SHP_STATUS_RUNNING : Field := ⟨0x0A00C, 0, 1, .ro, 0, .cleared⟩
/-- R343: nodes shaped in the last pass, 0–8,192 -/
abbrev SHP_STATUS_SHAPED : Field := ⟨0x0A00C, 1, 14, .ro, 0, .cleared⟩
/-- R343: signed, 0.1 °C -/
abbrev SHP_TEMP_DEFAULT : Field := ⟨0x0A040, 0, 16, .rw, 250, .cleared⟩
/-- R343: s; 0 never ages -/
abbrev SHP_TEMP_MAX_AGE : Field := ⟨0x0A040, 16, 16, .rw, 0x708, .cleared⟩
/-- R343: ms, 10–250; below 10 acts as 10 -/
abbrev SHP_IDLE_PERIOD : Field := ⟨0x0A044, 0, 8, .rw, 100, .cleared⟩
/-- R343: entry of the last CFG_ERR -/
abbrev SHP_CFG_ERR_INDEX : Field := ⟨0x0A048, 0, 13, .ro, 0, .cleared⟩
/-- R343: 0 none ; 1–4 as R324 -/
abbrev SHP_CFG_ERR_REASON : Field := ⟨0x0A048, 16, 3, .ro, 0, .cleared⟩
/-- R343: passes completed -/
abbrev SHP_PASSES : Field := ⟨0x0A04C, 0, 32, .ro, 0, .cleared⟩
/-- R343: t1 − t0 of the last pass, µs -/
abbrev SHP_LAST_DURATION : Field := ⟨0x0A050, 0, 16, .ro, 0, .cleared⟩
/-- R343: R315 -/
abbrev SHP_LATE : Field := ⟨0x0A054, 0, 32, .ro, 0, .cleared⟩
/-- R343: word offset in the SHP window -/
abbrev SHP_WIN_ADDR_OFFSET : Field := ⟨0x0A058, 2, 16, .rw, 0, .cleared⟩
/-- R343: R324 -/
abbrev SHP_NOTE_CFG_ERR : Notice := ⟨0x0A, 0⟩
/-- R343: R315 -/
abbrev SHP_NOTE_LATE : Notice := ⟨0x0A, 1⟩
/-- R343: R320 -/
abbrev SHP_NOTE_TEMP_DEFAULT : Notice := ⟨0x0A, 2⟩

/-- The defined fields of the page beyond its header, for reading and writing whole words. -/
def fieldsSHP : List Field :=
  [SHP_CTRL_EN, SHP_STATUS_RUNNING, SHP_STATUS_SHAPED, SHP_TEMP_DEFAULT, SHP_TEMP_MAX_AGE, SHP_IDLE_PERIOD, SHP_CFG_ERR_INDEX, SHP_CFG_ERR_REASON, SHP_PASSES, SHP_LAST_DURATION, SHP_LATE, SHP_WIN_ADDR_OFFSET]

/-- The defined notice bits of the page (every other bit of its NOTE_RAW is reserved, R8). -/
def noticesSHP : Nat := 0x7

/-! ### Page 0x0B, DPT (R344) -/

/-- R344: 1 runs the dispatcher -/
abbrev DPT_CTRL_EN : Field := ⟨0x0B008, 0, 1, .rw, 0, .cleared⟩
/-- R344: 1 runs R327 -/
abbrev DPT_CTRL_REFRESH_EN : Field := ⟨0x0B008, 1, 1, .rw, 1, .cleared⟩
/-- R344: R328 -/
abbrev DPT_STATUS_IN_CONTROL : Field := ⟨0x0B00C, 0, 1, .ro, 0, .cleared⟩
/-- R344: drive units -/
abbrev DPT_HYST_DELTA : Field := ⟨0x0B040, 0, 16, .rw, 0x100, .cleared⟩
/-- R344: s, 30–3,600; values outside act as the nearer limit -/
abbrev DPT_REFRESH_PERIOD : Field := ⟨0x0B044, 0, 12, .rw, 0x12c, .cleared⟩
/-- R344: refresh frames per pass; 0 acts as 1 -/
abbrev DPT_REFRESH_MAX_FRAMES : Field := ⟨0x0B044, 16, 8, .rw, 4, .cleared⟩
/-- R344: R329 -/
abbrev DPT_PACK_MAX_PSDU : Field := ⟨0x0B048, 0, 11, .ro, 80, .cleared⟩
/-- R344: 1–48; 0 and values above 48 act as 48 -/
abbrev DPT_PACK_MAX_COUNT : Field := ⟨0x0B048, 16, 6, .rw, 48, .cleared⟩
/-- R344: last entry refreshed -/
abbrev DPT_REFRESH_POS : Field := ⟨0x0B04C, 0, 13, .ro, 0, .cleared⟩
/-- R344: radio nodes sent as changes -/
abbrev DPT_CHANGES : Field := ⟨0x0B050, 0, 32, .ro, 0, .cleared⟩
/-- R344: R325 -/
abbrev DPT_SUPPRESSED : Field := ⟨0x0B054, 0, 32, .ro, 0, .cleared⟩
/-- R344: level frames handed to the MAC -/
abbrev DPT_FRAMES : Field := ⟨0x0B058, 0, 32, .ro, 0, .cleared⟩
/-- R344: of those, refresh frames -/
abbrev DPT_REFRESH_FRAMES : Field := ⟨0x0B05C, 0, 32, .ro, 0, .cleared⟩
/-- R344: frames dropped by the MAC (R331) -/
abbrev DPT_LOST : Field := ⟨0x0B060, 0, 32, .ro, 0, .cleared⟩
/-- R344: wired commands queued -/
abbrev DPT_WIRED : Field := ⟨0x0B064, 0, 32, .ro, 0, .cleared⟩
/-- R344: R329 -/
abbrev DPT_NOTE_NO_LINK : Notice := ⟨0x0B, 0⟩
/-- R344: R327 -/
abbrev DPT_NOTE_REFRESH_LAG : Notice := ⟨0x0B, 1⟩
/-- R344: R328 -/
abbrev DPT_NOTE_TAKEOVER : Notice := ⟨0x0B, 2⟩
/-- R344: R331 -/
abbrev DPT_NOTE_FRAME_LOST : Notice := ⟨0x0B, 3⟩

/-- The defined fields of the page beyond its header, for reading and writing whole words. -/
def fieldsDPT : List Field :=
  [DPT_CTRL_EN, DPT_CTRL_REFRESH_EN, DPT_STATUS_IN_CONTROL, DPT_HYST_DELTA, DPT_REFRESH_PERIOD, DPT_REFRESH_MAX_FRAMES, DPT_PACK_MAX_PSDU, DPT_PACK_MAX_COUNT, DPT_REFRESH_POS, DPT_CHANGES, DPT_SUPPRESSED, DPT_FRAMES] ++
  [DPT_REFRESH_FRAMES, DPT_LOST, DPT_WIRED]

/-- The defined notice bits of the page (every other bit of its NOTE_RAW is reserved, R8). -/
def noticesDPT : Nat := 0xF

/-! ### Page 0x0C, DAL (R345) -/

/-- R345: bit k runs port k -/
abbrev DAL_CTRL_EN : Field := ⟨0x0C008, 0, 8, .rw, 0, .cleared⟩
/-- R345: R338 -/
abbrev DAL_CTRL_FWD_EVT : Field := ⟨0x0C008, 8, 1, .rw, 0, .cleared⟩
/-- R345: bit k: port k up (R337) -/
abbrev DAL_STATUS_UP : Field := ⟨0x0C00C, 0, 8, .ro, 0, .cleared⟩
/-- R345: bit k: port k has queued commands -/
abbrev DAL_STATUS_BUSY : Field := ⟨0x0C00C, 8, 8, .ro, 0, .cleared⟩
/-- R345: R336, 0–15 -/
abbrev DAL_CFG_RETRY : Field := ⟨0x0C040, 0, 4, .rw, 3, .cleared⟩
/-- R345: s; 0 off -/
abbrev DAL_CFG_REFRESH : Field := ⟨0x0C040, 16, 16, .rw, 0x258, .cleared⟩
/-- R345: instance type taken as presence -/
abbrev DAL_PRES_ITYPE : Field := ⟨0x0C044, 0, 5, .rw, 3, .cleared⟩
/-- R345: event information bits that count -/
abbrev DAL_PRES_MASK : Field := ⟨0x0C044, 16, 10, .rw, 0x3ff, .cleared⟩
/-- R345: forward frame; bits 15:0 for a 16-bit frame -/
abbrev DAL_RAW_FRAME : Field := ⟨0x0C048, 0, 24, .rw, 0, .cleared⟩
/-- R345: port -/
abbrev DAL_RAW_CTRL_PORT : Field := ⟨0x0C04C, 0, 3, .wo, 0, .cleared⟩
/-- R345: 0 16-bit frame, 1 24-bit frame -/
abbrev DAL_RAW_CTRL_BITS24 : Field := ⟨0x0C04C, 4, 1, .wo, 0, .cleared⟩
/-- R345: R339 -/
abbrev DAL_RAW_CTRL_TWICE : Field := ⟨0x0C04C, 5, 1, .wo, 0, .cleared⟩
/-- R345: R339 -/
abbrev DAL_RAW_CTRL_ANSWER : Field := ⟨0x0C04C, 6, 1, .wo, 0, .cleared⟩
/-- R345: 1–5; other values act as 5 -/
abbrev DAL_RAW_CTRL_PRIO : Field := ⟨0x0C04C, 8, 3, .wo, 0, .cleared⟩
/-- R345: 0 none or pending ; 1 sent ; 2 answer received ; 3 no answer ; 4 framing error in the answer ; 5 failed after -/
abbrev DAL_RAW_RES_STATUS : Field := ⟨0x0C050, 0, 3, .ro, 0, .cleared⟩
/-- R345: backward frame -/
abbrev DAL_RAW_RES_ANSWER : Field := ⟨0x0C050, 8, 8, .ro, 0, .cleared⟩
/-- R345: forward frames sent -/
abbrev DAL_TX_FRAMES : Field := ⟨0x0C060, 0, 32, .ro, 0, .cleared⟩
/-- R345: collisions met -/
abbrev DAL_COLLISIONS : Field := ⟨0x0C064, 0, 32, .ro, 0, .cleared⟩
/-- R345: R336 -/
abbrev DAL_FAILS : Field := ⟨0x0C068, 0, 32, .ro, 0, .cleared⟩
/-- R345: R335 -/
abbrev DAL_COALESCED : Field := ⟨0x0C06C, 0, 32, .ro, 0, .cleared⟩
/-- R345: R335 -/
abbrev DAL_QUEUE_DROP : Field := ⟨0x0C070, 0, 32, .ro, 0, .cleared⟩
/-- R345: presence events passed to Drift -/
abbrev DAL_EVENTS : Field := ⟨0x0C074, 0, 32, .ro, 0, .cleared⟩
/-- R345: R338 -/
abbrev DAL_EVENTS_IGN : Field := ⟨0x0C078, 0, 32, .ro, 0, .cleared⟩
/-- R345: R337 -/
abbrev DAL_NOTE_BUS_DOWN : Notice := ⟨0x0C, 0⟩
/-- R345: R337 -/
abbrev DAL_NOTE_BUS_UP : Notice := ⟨0x0C, 1⟩
/-- R345: R336 -/
abbrev DAL_NOTE_TX_FAIL : Notice := ⟨0x0C, 2⟩
/-- R345: R335 -/
abbrev DAL_NOTE_QUEUE_FULL : Notice := ⟨0x0C, 3⟩
/-- R345: R338 -/
abbrev DAL_NOTE_EVENT_BAD : Notice := ⟨0x0C, 4⟩
/-- R345: R339 -/
abbrev DAL_NOTE_RAW_DONE : Notice := ⟨0x0C, 5⟩

/-- The defined fields of the page beyond its header, for reading and writing whole words. -/
def fieldsDAL : List Field :=
  [DAL_CTRL_EN, DAL_CTRL_FWD_EVT, DAL_STATUS_UP, DAL_STATUS_BUSY, DAL_CFG_RETRY, DAL_CFG_REFRESH, DAL_PRES_ITYPE, DAL_PRES_MASK, DAL_RAW_FRAME, DAL_RAW_CTRL_PORT, DAL_RAW_CTRL_BITS24, DAL_RAW_CTRL_TWICE] ++
  [DAL_RAW_CTRL_ANSWER, DAL_RAW_CTRL_PRIO, DAL_RAW_RES_STATUS, DAL_RAW_RES_ANSWER, DAL_TX_FRAMES, DAL_COLLISIONS, DAL_FAILS, DAL_COALESCED, DAL_QUEUE_DROP, DAL_EVENTS, DAL_EVENTS_IGN]

/-- The defined notice bits of the page (every other bit of its NOTE_RAW is reserved, R8). -/
def noticesDAL : Nat := 0x3F

end Sys2Proof.Machine
end

