-- ==== Sys2Proof/Machine/RegMapB.lean ====
section
/-! DEFINITION. The register fields of the metering, switch and time pages (pages 0x0D to 0x19), by the spec's own names. -/

namespace Sys2Proof.Machine

/-! ### Page 0x0D, EMU (metering) (R373) -/

/-- R373: 1 runs metering (R346) -/
abbrev EMU_CTRL_EN : Field := ⟨0x0D008, 0, 1, .rw, 0, .cleared⟩
/-- R373: bit k: voltage channel k in time mode (R358) -/
abbrev EMU_STATUS_ZC_LOST : Field := ⟨0x0D00C, 0, 4, .ro, 0, .cleared⟩
/-- R373: bit c: circuit c accumulating -/
abbrev EMU_STATUS_ACTIVE : Field := ⟨0x0D00C, 16, 12, .ro, 0, .cleared⟩
/-- R373: 1 runs the channel -/
abbrev EMU_CH_CFG_EN (i : Nat) : Field := ⟨0x0D040 + 0x4 * (i % 16), 0, 1, .rw, 0, .cleared⟩
/-- R373: 0 rising, 1 falling (R347) -/
abbrev EMU_CH_CFG_EDGE (i : Nat) : Field := ⟨0x0D040 + 0x4 * (i % 16), 1, 1, .rw, 0, .cleared⟩
/-- R373: units of 4 ns -/
abbrev EMU_CH_CFG_DELAY (i : Nat) : Field := ⟨0x0D040 + 0x4 * (i % 16), 2, 3, .rw, 0, .cleared⟩
/-- R373: R348 -/
abbrev EMU_CH_CFG_HPF (i : Nat) : Field := ⟨0x0D040 + 0x4 * (i % 16), 5, 1, .rw, 1, .cleared⟩
/-- R373: signed, 1/256 sample (R349) -/
abbrev EMU_CH_CFG_PHASE (i : Nat) : Field := ⟨0x0D040 + 0x4 * (i % 16), 16, 16, .rw, 0, .cleared⟩
/-- R373: mV or mA (R348) -/
abbrev EMU_CH_FS (i : Nat) : Field := ⟨0x0D080 + 0x4 * (i % 16), 0, 32, .rw, 0, .cleared⟩
/-- R373: 1 runs the circuit -/
abbrev EMU_CIRC_CFG_EN (i : Nat) : Field := ⟨0x0D0C0 + 0x4 * (i % 12), 0, 1, .rw, 0, .cleared⟩
/-- R373: voltage channel -/
abbrev EMU_CIRC_CFG_VCH (i : Nat) : Field := ⟨0x0D0C0 + 0x4 * (i % 12), 1, 2, .rw, 0, .cleared⟩
/-- R373: current channel (R351) -/
abbrev EMU_CIRC_CFG_ICH (i : Nat) : Field := ⟨0x0D0C0 + 0x4 * (i % 12), 4, 4, .rw, 4, .cleared⟩
/-- R373: 1 inverts the current -/
abbrev EMU_CIRC_CFG_SIGN (i : Nat) : Field := ⟨0x0D0C0 + 0x4 * (i % 12), 8, 1, .rw, 0, .cleared⟩
/-- R373: 0 50 Hz, 1 60 Hz -/
abbrev EMU_CIRC_CFG_LINE_HZ (i : Nat) : Field := ⟨0x0D0C0 + 0x4 * (i % 12), 9, 1, .rw, 0, .cleared⟩
/-- R373: 1–4,096; 0 acts as 1, above 4,096 as 4,096 -/
abbrev EMU_CIRC_CFG_N (i : Nat) : Field := ⟨0x0D0C0 + 0x4 * (i % 12), 16, 13, .rw, 50, .cleared⟩
/-- R373: units of 2^−16 FS -/
abbrev EMU_ZC_HYST : Field := ⟨0x0D0F0, 0, 16, .rw, 0x51f, .cleared⟩
/-- R373: ms, 30–255; below 30 acts as 30 -/
abbrev EMU_ZC_TIMEOUT : Field := ⟨0x0D0F0, 16, 8, .rw, 100, .cleared⟩
/-- R373: valid cycles, 1–15; 0 acts as 1 -/
abbrev EMU_ZC_RESUME : Field := ⟨0x0D0F0, 24, 4, .rw, 3, .cleared⟩
/-- R373: circuit -/
abbrev EMU_CMD_CIRCUIT : Field := ⟨0x0D0F4, 0, 4, .wo, 0, .cleared⟩
/-- R373: 1 clears it (R361) -/
abbrev EMU_CMD_CLEAR : Field := ⟨0x0D0F4, 8, 1, .wo, 0, .cleared⟩
/-- R373: bit k: channel k FAULT -/
abbrev EMU_FAULT : Field := ⟨0x0D0F8, 0, 16, .ro, 0, .cleared⟩
/-- R373: channel or circuit of the last CFG_ERR -/
abbrev EMU_CFG_ERR_ITEM : Field := ⟨0x0D0FC, 0, 4, .ro, 0, .cleared⟩
/-- R373: 0 none ; 1 channel FS 0 or not enabled ; 2 ICH below 4 ; 3 PHASE out of range -/
abbrev EMU_CFG_ERR_REASON : Field := ⟨0x0D0FC, 8, 3, .ro, 0, .cleared⟩
/-- R373: SEQ word of block c, for c ≥ 1; reserved, reading 0, for c = 0 -/
abbrev EMU_L_SEQ (i : Nat) : Field := ⟨0x0D100 + 0x40 * (i % 12), 8, 24, .ro, 0, .stored⟩
/-- R373: T_END, ns -/
abbrev EMU_L_T_END_LO (i : Nat) : Field := ⟨0x0D104 + 0x40 * (i % 12), 0, 32, .ro, 0, .cleared⟩
/-- R373: T_END, ns -/
abbrev EMU_L_T_END_HI (i : Nat) : Field := ⟨0x0D108 + 0x40 * (i % 12), 0, 32, .ro, 0, .cleared⟩
/-- R373: interval length, µs -/
abbrev EMU_L_DUR (i : Nat) : Field := ⟨0x0D10C + 0x40 * (i % 12), 0, 32, .ro, 0, .cleared⟩
/-- R373: valid crossings in the interval -/
abbrev EMU_L_CYCLES (i : Nat) : Field := ⟨0x0D110 + 0x40 * (i % 12), 0, 32, .ro, 0, .cleared⟩
/-- R373: IMPORT, µWh -/
abbrev EMU_L_IMP_LO (i : Nat) : Field := ⟨0x0D114 + 0x40 * (i % 12), 0, 32, .ro, 0, .stored⟩
/-- R373: IMPORT, µWh -/
abbrev EMU_L_IMP_HI (i : Nat) : Field := ⟨0x0D118 + 0x40 * (i % 12), 0, 32, .ro, 0, .stored⟩
/-- R373: EXPORT, µWh -/
abbrev EMU_L_EXP_LO (i : Nat) : Field := ⟨0x0D11C + 0x40 * (i % 12), 0, 32, .ro, 0, .stored⟩
/-- R373: EXPORT, µWh -/
abbrev EMU_L_EXP_HI (i : Nat) : Field := ⟨0x0D120 + 0x40 * (i % 12), 0, 32, .ro, 0, .stored⟩
/-- R373: latch number -/
abbrev EMU_L_LATCH_NO (i : Nat) : Field := ⟨0x0D124 + 0x40 * (i % 12), 0, 32, .ro, 0, .stored⟩
/-- R373: the last word of the block: ; bit 0 TIME ; bit 1 PARTIAL ; bit 2 GAP ; bit 3 CLEARED ; bit 4 OVERRANGE ; bit 5 -/
abbrev EMU_L_END_FLAGS (i : Nat) : Field := ⟨0x0D12C + 0x40 * (i % 12), 0, 16, .ro, 0, .cleared⟩
/-- R373: overrange samples per channel -/
abbrev EMU_OVR (i : Nat) : Field := ⟨0x0D400 + 0x4 * (i % 16), 0, 32, .ro, 0, .cleared⟩
/-- R373: R356 -/
abbrev EMU_ZC_NOISE : Field := ⟨0x0D440, 0, 32, .ro, 0, .cleared⟩
/-- R373: entries to time mode -/
abbrev EMU_ZC_LOSSES : Field := ⟨0x0D444, 0, 32, .ro, 0, .cleared⟩
/-- R373: word offset in the window -/
abbrev EMU_WIN_ADDR_OFFSET : Field := ⟨0x0D448, 2, 16, .rw, 0, .cleared⟩
/-- R373: R359 -/
abbrev EMU_NOTE_LATCH : Notice := ⟨0x0D, 0⟩
/-- R373: R350 -/
abbrev EMU_NOTE_OVERRANGE : Notice := ⟨0x0D, 1⟩
/-- R373: R350 -/
abbrev EMU_NOTE_CH_FAULT : Notice := ⟨0x0D, 2⟩
/-- R373: R358 -/
abbrev EMU_NOTE_ZC_LOST : Notice := ⟨0x0D, 3⟩
/-- R373: R358 -/
abbrev EMU_NOTE_ZC_BACK : Notice := ⟨0x0D, 4⟩
/-- R373: R354 -/
abbrev EMU_NOTE_WRAP : Notice := ⟨0x0D, 5⟩
/-- R373: R349, R350, R351 -/
abbrev EMU_NOTE_CFG_ERR : Notice := ⟨0x0D, 6⟩

/-- The defined fields of the page beyond its header, for reading and writing whole words. -/
def fieldsEMU : List Field :=
  [EMU_CTRL_EN, EMU_STATUS_ZC_LOST, EMU_STATUS_ACTIVE, EMU_ZC_HYST, EMU_ZC_TIMEOUT, EMU_ZC_RESUME, EMU_CMD_CIRCUIT, EMU_CMD_CLEAR, EMU_FAULT, EMU_CFG_ERR_ITEM, EMU_CFG_ERR_REASON, EMU_ZC_NOISE] ++
  [EMU_ZC_LOSSES, EMU_WIN_ADDR_OFFSET] ++
  (List.range 16).map EMU_CH_CFG_EN ++
  (List.range 16).map EMU_CH_CFG_EDGE ++
  (List.range 16).map EMU_CH_CFG_DELAY ++
  (List.range 16).map EMU_CH_CFG_HPF ++
  (List.range 16).map EMU_CH_CFG_PHASE ++
  (List.range 16).map EMU_CH_FS ++
  (List.range 12).map EMU_CIRC_CFG_EN ++
  (List.range 12).map EMU_CIRC_CFG_VCH ++
  (List.range 12).map EMU_CIRC_CFG_ICH ++
  (List.range 12).map EMU_CIRC_CFG_SIGN ++
  (List.range 12).map EMU_CIRC_CFG_LINE_HZ ++
  (List.range 12).map EMU_CIRC_CFG_N ++
  (List.range 12).map EMU_L_SEQ ++
  (List.range 12).map EMU_L_T_END_LO ++
  (List.range 12).map EMU_L_T_END_HI ++
  (List.range 12).map EMU_L_DUR ++
  (List.range 12).map EMU_L_CYCLES ++
  (List.range 12).map EMU_L_IMP_LO ++
  (List.range 12).map EMU_L_IMP_HI ++
  (List.range 12).map EMU_L_EXP_LO ++
  (List.range 12).map EMU_L_EXP_HI ++
  (List.range 12).map EMU_L_LATCH_NO ++
  (List.range 12).map EMU_L_END_FLAGS ++
  (List.range 16).map EMU_OVR

/-- The defined notice bits of the page (every other bit of its NOTE_RAW is reserved, R8). -/
def noticesEMU : Nat := 0x7F

/-! ### Page 0x0E, EMU (reconciliation) (R374) -/

/-- R374: 1 runs reconciliation -/
abbrev EMUR_CTRL_EN : Field := ⟨0x0E008, 0, 1, .rw, 0, .cleared⟩
/-- R374: bit g: group g has a run of EXCESS or LOSS -/
abbrev EMUR_STATUS_RUN : Field := ⟨0x0E00C, 0, 12, .ro, 0, .cleared⟩
/-- R374: s, 900–86,400; values outside act as the nearer limit -/
abbrev EMUR_WINDOW : Field := ⟨0x0E040, 0, 17, .rw, 0xe10, .cleared⟩
/-- R374: s, 60 to EMUR_WINDOW; values outside act as the nearer limit -/
abbrev EMUR_CLOSE_WAIT : Field := ⟨0x0E044, 0, 17, .rw, 0x708, .cleared⟩
/-- R374: module time of B0, ns -/
abbrev EMUR_ORIGIN_LO : Field := ⟨0x0E048, 0, 32, .rw, 0, .cleared⟩
/-- R374: module time of B0, ns -/
abbrev EMUR_ORIGIN_HI : Field := ⟨0x0E04C, 0, 32, .rw, 0, .cleared⟩
/-- R374: group disabled under R362 -/
abbrev EMUR_CFG_ERR_GROUP : Field := ⟨0x0E050, 0, 4, .ro, 0, .cleared⟩
/-- R374: R364 -/
abbrev EMUR_NODE_RESET : Field := ⟨0x0E054, 0, 32, .ro, 0, .cleared⟩
/-- R374: R364 -/
abbrev EMUR_IMPLAUSIBLE : Field := ⟨0x0E058, 0, 32, .ro, 0, .cleared⟩
/-- R374: R364 -/
abbrev EMUR_LATE : Field := ⟨0x0E05C, 0, 32, .ro, 0, .cleared⟩
/-- R374: group of the window -/
abbrev EMUR_R_GROUP_GROUP : Field := ⟨0x0E100, 0, 4, .ro, 0, .cleared⟩
/-- R374: window number k -/
abbrev EMUR_R_WINDOW : Field := ⟨0x0E104, 0, 32, .ro, 0, .cleared⟩
/-- R374: M, signed µWh -/
abbrev EMUR_R_METERED_LO : Field := ⟨0x0E108, 0, 32, .ro, 0, .cleared⟩
/-- R374: M, signed µWh -/
abbrev EMUR_R_METERED_HI : Field := ⟨0x0E10C, 0, 32, .ro, 0, .cleared⟩
/-- R374: S, µWh -/
abbrev EMUR_R_NODES_LO : Field := ⟨0x0E110, 0, 32, .ro, 0, .cleared⟩
/-- R374: S, µWh -/
abbrev EMUR_R_NODES_HI : Field := ⟨0x0E114, 0, 32, .ro, 0, .cleared⟩
/-- R374: L, signed µWh -/
abbrev EMUR_R_LOSS_LO : Field := ⟨0x0E118, 0, 32, .ro, 0, .cleared⟩
/-- R374: L, signed µWh -/
abbrev EMUR_R_LOSS_HI : Field := ⟨0x0E11C, 0, 32, .ro, 0, .cleared⟩
/-- R374: nodes contributing -/
abbrev EMUR_R_COUNT_CONTRIB : Field := ⟨0x0E120, 0, 16, .ro, 0, .cleared⟩
/-- R374: nodes missing -/
abbrev EMUR_R_COUNT_MISSING : Field := ⟨0x0E120, 16, 16, .ro, 0, .cleared⟩
/-- R374: the last word of the block: ; 0 OK ; 1 EXCESS ; 2 LOSS ; 3 GAIN ; 4 UNCHECKED -/
abbrev EMUR_R_END_VERDICT : Field := ⟨0x0E124, 0, 3, .ro, 0, .cleared⟩
/-- R374: the group's run after the window -/
abbrev EMUR_R_END_RUN : Field := ⟨0x0E124, 8, 4, .ro, 0, .cleared⟩
/-- R374: R367 -/
abbrev EMUR_R_END_INCOMPLETE : Field := ⟨0x0E124, 16, 1, .ro, 0, .cleared⟩
/-- R374: R363 -/
abbrev EMUR_R_END_STEPPED : Field := ⟨0x0E124, 17, 1, .ro, 0, .cleared⟩
/-- R374: R367, R369 -/
abbrev EMUR_R_END_GAP : Field := ⟨0x0E124, 18, 1, .ro, 0, .cleared⟩
/-- R374: R365 -/
abbrev EMUR_R_END_ESTIMATED : Field := ⟨0x0E124, 19, 1, .ro, 0, .cleared⟩
/-- R374: word offset in the window -/
abbrev EMUR_WIN_ADDR_OFFSET : Field := ⟨0x0E140, 2, 15, .rw, 0, .cleared⟩
/-- R374: R367 -/
abbrev EMUR_NOTE_LOSS : Notice := ⟨0x0E, 0⟩
/-- R374: R367 -/
abbrev EMUR_NOTE_GAIN : Notice := ⟨0x0E, 1⟩
/-- R374: R367 -/
abbrev EMUR_NOTE_INCOMPLETE : Notice := ⟨0x0E, 2⟩
/-- R374: R362 -/
abbrev EMUR_NOTE_CFG_ERR : Notice := ⟨0x0E, 3⟩
/-- R374: a window closed (R366) -/
abbrev EMUR_NOTE_CLOSED : Notice := ⟨0x0E, 4⟩

/-- The defined fields of the page beyond its header, for reading and writing whole words. -/
def fieldsEMUR : List Field :=
  [EMUR_CTRL_EN, EMUR_STATUS_RUN, EMUR_WINDOW, EMUR_CLOSE_WAIT, EMUR_ORIGIN_LO, EMUR_ORIGIN_HI, EMUR_CFG_ERR_GROUP, EMUR_NODE_RESET, EMUR_IMPLAUSIBLE, EMUR_LATE, EMUR_R_GROUP_GROUP, EMUR_R_WINDOW] ++
  [EMUR_R_METERED_LO, EMUR_R_METERED_HI, EMUR_R_NODES_LO, EMUR_R_NODES_HI, EMUR_R_LOSS_LO, EMUR_R_LOSS_HI, EMUR_R_COUNT_CONTRIB, EMUR_R_COUNT_MISSING, EMUR_R_END_VERDICT, EMUR_R_END_RUN, EMUR_R_END_INCOMPLETE, EMUR_R_END_STEPPED] ++
  [EMUR_R_END_GAP, EMUR_R_END_ESTIMATED, EMUR_WIN_ADDR_OFFSET]

/-- The defined notice bits of the page (every other bit of its NOTE_RAW is reserved, R8). -/
def noticesEMUR : Nat := 0x1F

/-! ### Page 0x10, SWF (R401) -/

/-- R401: 1 runs the fabric -/
abbrev SWF_CTRL_EN : Field := ⟨0x10008, 0, 1, .rw, 0, .cleared⟩
/-- R401: R388 -/
abbrev SWF_CTRL_LEARN_EN : Field := ⟨0x10008, 1, 1, .rw, 1, .cleared⟩
/-- R401: 0 312.5 ; 1 156.25 ; 2 78.125 MHz -/
abbrev SWF_STATUS_CLK : Field := ⟨0x1000C, 0, 2, .ro, 0, .cleared⟩
/-- R401: cells in use -/
abbrev SWF_STATUS_USED : Field := ⟨0x1000C, 14, 16, .ro, 0, .cleared⟩
/-- R401: R388; 0 no aging -/
abbrev SWF_AGE_SECONDS : Field := ⟨0x10040, 0, 16, .rw, 0x12c, .cleared⟩
/-- R401: R392 -/
abbrev SWF_STEP_EN : Field := ⟨0x10044, 0, 1, .rw, 1, .cleared⟩
/-- R401: highest clock, coded as SWF_STATUS.CLK; 3 acts as 2 -/
abbrev SWF_STEP_CEIL : Field := ⟨0x10044, 4, 2, .rw, 0, .cleared⟩
/-- R401: cells (R381) -/
abbrev SWF_BUF_LOW : Field := ⟨0x10048, 0, 16, .rw, 0x800, .cleared⟩
/-- R401: 1 INSERT static entry ; 2 DELETE entry ; 3 FLUSH dynamic entries of PORT ; 4 FLUSH dynamic entries of INSTANCE -/
abbrev SWF_FDB_CMD_OP : Field := ⟨0x1004C, 0, 3, .wo, 0, .cleared⟩
/-- R401: port for OP 3 -/
abbrev SWF_FDB_CMD_PORT : Field := ⟨0x1004C, 8, 3, .wo, 0, .cleared⟩
/-- R401: instance for OP 4 -/
abbrev SWF_FDB_CMD_INSTANCE : Field := ⟨0x1004C, 12, 2, .wo, 0, .cleared⟩
/-- R401: VID for OP 1, 2, 6 -/
abbrev SWF_FDB_CMD_VID : Field := ⟨0x1004C, 16, 12, .wo, 0, .cleared⟩
/-- R401: address for OP 1, 2, 6 -/
abbrev SWF_FDB_MAC_LO : Field := ⟨0x10050, 0, 32, .rw, 0, .cleared⟩
/-- R401: address for OP 1, 2, 6 -/
abbrev SWF_FDB_MAC_HI : Field := ⟨0x10054, 0, 16, .rw, 0, .cleared⟩
/-- R401: port mask for OP 1 -/
abbrev SWF_FDB_PORTS : Field := ⟨0x10058, 0, 7, .rw, 0, .cleared⟩
/-- R401: 1 while a command runs; commands written while 1 are discarded -/
abbrev SWF_FDB_STAT_BUSY : Field := ⟨0x1005C, 0, 1, .ro, 0, .cleared⟩
/-- R401: 0 done ; 1 bucket full of static entries ; 2 not found -/
abbrev SWF_FDB_STAT_RESULT : Field := ⟨0x1005C, 1, 3, .ro, 0, .cleared⟩
/-- R401: entry found or placed -/
abbrev SWF_FDB_STAT_INDEX : Field := ⟨0x1005C, 16, 14, .ro, 0, .cleared⟩
/-- R401: entries in use -/
abbrev SWF_FDB_USED : Field := ⟨0x10060, 0, 15, .ro, 0, .cleared⟩
/-- R401: R376 -/
abbrev SWF_MDIO_CMD_BUSY : Field := ⟨0x10064, 0, 1, .ro, 0, .cleared⟩
/-- R401: 0 Clause 45 address ; 1 write ; 2 read ; 3 Clause 22 read -/
abbrev SWF_MDIO_CMD_OP : Field := ⟨0x10064, 1, 2, .wo, 0, .cleared⟩
/-- R401: 1 Clause 45 frame -/
abbrev SWF_MDIO_CMD_C45 : Field := ⟨0x10064, 3, 1, .wo, 0, .cleared⟩
/-- R401: PHY or port address -/
abbrev SWF_MDIO_CMD_PHY : Field := ⟨0x10064, 4, 5, .wo, 0, .cleared⟩
/-- R401: register or device address -/
abbrev SWF_MDIO_CMD_REG : Field := ⟨0x10064, 9, 5, .wo, 0, .cleared⟩
/-- R401: data written, or data read -/
abbrev SWF_MDIO_DATA : Field := ⟨0x10068, 0, 16, .rw, 0, .cleared⟩
/-- R401: R399 -/
abbrev SWF_ECC_DROP : Field := ⟨0x10070, 0, 32, .ro, 0, .cleared⟩
/-- R401: R388 -/
abbrev SWF_FDB_FULL : Field := ⟨0x10074, 0, 32, .ro, 0, .cleared⟩
/-- R401: word offset in the SWF window -/
abbrev SWF_WIN_ADDR_OFFSET : Field := ⟨0x10078, 2, 17, .rw, 0, .cleared⟩
/-- R401: R388 -/
abbrev SWF_NOTE_FDB_FULL : Notice := ⟨0x10, 0⟩
/-- R401: R381 -/
abbrev SWF_NOTE_BUF_LOW : Notice := ⟨0x10, 1⟩
/-- R401: R399 -/
abbrev SWF_NOTE_ECC_DROP : Notice := ⟨0x10, 2⟩
/-- R401: R376 -/
abbrev SWF_NOTE_MDIO_DONE : Notice := ⟨0x10, 3⟩

/-- The defined fields of the page beyond its header, for reading and writing whole words. -/
def fieldsSWF : List Field :=
  [SWF_CTRL_EN, SWF_CTRL_LEARN_EN, SWF_STATUS_CLK, SWF_STATUS_USED, SWF_AGE_SECONDS, SWF_STEP_EN, SWF_STEP_CEIL, SWF_BUF_LOW, SWF_FDB_CMD_OP, SWF_FDB_CMD_PORT, SWF_FDB_CMD_INSTANCE, SWF_FDB_CMD_VID] ++
  [SWF_FDB_MAC_LO, SWF_FDB_MAC_HI, SWF_FDB_PORTS, SWF_FDB_STAT_BUSY, SWF_FDB_STAT_RESULT, SWF_FDB_STAT_INDEX, SWF_FDB_USED, SWF_MDIO_CMD_BUSY, SWF_MDIO_CMD_OP, SWF_MDIO_CMD_C45, SWF_MDIO_CMD_PHY, SWF_MDIO_CMD_REG] ++
  [SWF_MDIO_DATA, SWF_ECC_DROP, SWF_FDB_FULL, SWF_WIN_ADDR_OFFSET]

/-- The defined notice bits of the page (every other bit of its NOTE_RAW is reserved, R8). -/
def noticesSWF : Nat := 0xF

/-! ### Page 0x11, ETP0 to ETP5 (R402) -/

/-- R402: 1 runs the port -/
abbrev ETP_CTRL_EN (p : Nat) : Field := ⟨0x11008 + 0x1000 * (p % 6), 0, 1, .rw, 0, .cleared⟩
/-- R402: R375 -/
abbrev ETP_CTRL_MODE (p : Nat) : Field := ⟨0x11008 + 0x1000 * (p % 6), 4, 2, .rw, 0, .cleared⟩
/-- R402: 1 while the link is up -/
abbrev ETP_STATUS_LINK (p : Nat) : Field := ⟨0x1100C + 0x1000 * (p % 6), 0, 1, .ro, 0, .cleared⟩
/-- R402: 0 10 Mbit/s ; 1 100 Mbit/s ; 2 1 Gbit/s ; 3 2.5 Gbit/s ; 4 10 Gbit/s -/
abbrev ETP_STATUS_SPEED (p : Nat) : Field := ⟨0x1100C + 0x1000 * (p % 6), 1, 3, .ro, 0, .cleared⟩
/-- R402: low-power idle in force -/
abbrev ETP_STATUS_LPI_TX (p : Nat) : Field := ⟨0x1100C + 0x1000 * (p % 6), 4, 1, .ro, 0, .cleared⟩
/-- R402: low-power idle in force -/
abbrev ETP_STATUS_LPI_RX (p : Nat) : Field := ⟨0x1100C + 0x1000 * (p % 6), 5, 1, .ro, 0, .cleared⟩
/-- R402: 802.3x pause in force -/
abbrev ETP_STATUS_PAUSED (p : Nat) : Field := ⟨0x1100C + 0x1000 * (p % 6), 6, 1, .ro, 0, .cleared⟩
/-- R402: bit c: class c paused -/
abbrev ETP_STATUS_PFC_PAUSED (p : Nat) : Field := ⟨0x1100C + 0x1000 * (p % 6), 8, 8, .ro, 0, .cleared⟩
/-- R402: R385 -/
abbrev ETP_VLAN_PVID (p : Nat) : Field := ⟨0x11040 + 0x1000 * (p % 6), 0, 12, .rw, 1, .cleared⟩
/-- R402: R383 -/
abbrev ETP_VLAN_PCP (p : Nat) : Field := ⟨0x11040 + 0x1000 * (p % 6), 12, 3, .rw, 0, .cleared⟩
/-- R402: 0 all ; 1 tagged only ; 2 untagged and priority-tagged only ; 3 acts as 0 -/
abbrev ETP_VLAN_ACCEPT (p : Nat) : Field := ⟨0x11040 + 0x1000 * (p % 6), 16, 2, .rw, 0, .cleared⟩
/-- R402: R385 -/
abbrev ETP_VLAN_INGRESS_FILTER (p : Nat) : Field := ⟨0x11040 + 0x1000 * (p % 6), 20, 1, .rw, 1, .cleared⟩
/-- R402: R383; priority p to class p -/
abbrev ETP_PCP_MAP (p : Nat) : Field := ⟨0x11044 + 0x1000 * (p % 6), 0, 24, .rw, 0xfac688, .cleared⟩
/-- R402: bits 2i + 1:2i: state of instance i (R386) -/
abbrev ETP_FWD_STATE (p : Nat) : Field := ⟨0x11048 + 0x1000 * (p % 6), 0, 8, .rw, 0, .cleared⟩
/-- R402: R389 -/
abbrev ETP_FC_PAUSE_RX (p : Nat) : Field := ⟨0x1104C + 0x1000 * (p % 6), 0, 1, .rw, 1, .cleared⟩
/-- R402: R390 -/
abbrev ETP_FC_PAUSE_TX (p : Nat) : Field := ⟨0x1104C + 0x1000 * (p % 6), 1, 1, .rw, 0, .cleared⟩
/-- R402: R389, R390 -/
abbrev ETP_FC_PFC_EN (p : Nat) : Field := ⟨0x1104C + 0x1000 * (p % 6), 2, 1, .rw, 0, .cleared⟩
/-- R402: classes sent in PFC -/
abbrev ETP_FC_PFC_CLASSES (p : Nat) : Field := ⟨0x1104C + 0x1000 * (p % 6), 8, 8, .rw, 0, .cleared⟩
/-- R402: cells -/
abbrev ETP_FC_THR_XOFF (p : Nat) : Field := ⟨0x11050 + 0x1000 * (p % 6), 0, 16, .rw, 0x200, .cleared⟩
/-- R402: cells; above XOFF acts as XOFF -/
abbrev ETP_FC_THR_XON (p : Nat) : Field := ⟨0x11050 + 0x1000 * (p % 6), 16, 16, .rw, 0x100, .cleared⟩
/-- R402: cells -/
abbrev ETP_FC_HEAD_HEADROOM (p : Nat) : Field := ⟨0x11054 + 0x1000 * (p % 6), 0, 16, .rw, 128, .cleared⟩
/-- R402: quanta sent -/
abbrev ETP_FC_HEAD_QUANTA (p : Nat) : Field := ⟨0x11054 + 0x1000 * (p % 6), 16, 16, .rw, 0xffff, .cleared⟩
/-- R402: per egress class queue (R382) -/
abbrev ETP_QLIM_CELLS (p : Nat) : Field := ⟨0x11058 + 0x1000 * (p % 6), 0, 16, .rw, 0x1000, .cleared⟩
/-- R402: ingress reserve (R381) -/
abbrev ETP_RSV_CELLS (p : Nat) : Field := ⟨0x11058 + 0x1000 * (p % 6), 16, 16, .rw, 64, .cleared⟩
/-- R402: R384 -/
abbrev ETP_SCHED_SP_MIN (p : Nat) : Field := ⟨0x1105C + 0x1000 * (p % 6), 0, 3, .rw, 0, .cleared⟩
/-- R402: bits 4c + 3:4c: weight of class c -/
abbrev ETP_WEIGHT (p : Nat) : Field := ⟨0x11060 + 0x1000 * (p % 6), 0, 32, .rw, 0x11111111, .cleared⟩
/-- R402: R391 -/
abbrev ETP_LPI_EN (p : Nat) : Field := ⟨0x11064 + 0x1000 * (p % 6), 0, 1, .rw, 0, .cleared⟩
/-- R402: µs; 0 acts as 1 -/
abbrev ETP_LPI_IDLE (p : Nat) : Field := ⟨0x11064 + 0x1000 * (p % 6), 8, 8, .rw, 50, .cleared⟩
/-- R402: wake time, 0.1 µs -/
abbrev ETP_LPI_TW (p : Nat) : Field := ⟨0x11064 + 0x1000 * (p % 6), 16, 16, .rw, 170, .cleared⟩
/-- R402: R375 -/
abbrev ETP_LINK_AN_EN (p : Nat) : Field := ⟨0x11068 + 0x1000 * (p % 6), 0, 1, .rw, 1, .cleared⟩
/-- R402: frames accepted -/
abbrev ETP_RX_OK (p : Nat) : Field := ⟨0x11080 + 0x1000 * (p % 6), 0, 32, .ro, 0, .cleared⟩
/-- R402: R378 -/
abbrev ETP_RX_FCS_ERR (p : Nat) : Field := ⟨0x11084 + 0x1000 * (p % 6), 0, 32, .ro, 0, .cleared⟩
/-- R402: R378 -/
abbrev ETP_RX_RUNT (p : Nat) : Field := ⟨0x11088 + 0x1000 * (p % 6), 0, 32, .ro, 0, .cleared⟩
/-- R402: R378 -/
abbrev ETP_RX_OVERSIZE (p : Nat) : Field := ⟨0x1108C + 0x1000 * (p % 6), 0, 32, .ro, 0, .cleared⟩
/-- R402: R381, R382 -/
abbrev ETP_RX_BUF_DROP (p : Nat) : Field := ⟨0x11090 + 0x1000 * (p % 6), 0, 32, .ro, 0, .cleared⟩
/-- R402: R385 -/
abbrev ETP_RX_VLAN_DROP (p : Nat) : Field := ⟨0x11094 + 0x1000 * (p % 6), 0, 32, .ro, 0, .cleared⟩
/-- R402: PAUSE and PFC frames received -/
abbrev ETP_RX_PAUSE (p : Nat) : Field := ⟨0x11098 + 0x1000 * (p % 6), 0, 32, .ro, 0, .cleared⟩
/-- R402: R390 -/
abbrev ETP_PFC_DROP (p : Nat) : Field := ⟨0x1109C + 0x1000 * (p % 6), 0, 32, .ro, 0, .cleared⟩
/-- R402: frames sent -/
abbrev ETP_TX_OK (p : Nat) : Field := ⟨0x110A0 + 0x1000 * (p % 6), 0, 32, .ro, 0, .cleared⟩
/-- R402: PAUSE and PFC frames sent -/
abbrev ETP_TX_PAUSE (p : Nat) : Field := ⟨0x110A4 + 0x1000 * (p % 6), 0, 32, .ro, 0, .cleared⟩
/-- R402: R378 -/
abbrev ETP_TX_OVERSIZE (p : Nat) : Field := ⟨0x110A8 + 0x1000 * (p % 6), 0, 32, .ro, 0, .cleared⟩
/-- R402: R375, R386, R394 -/
abbrev ETP_FLUSH_DROP (p : Nat) : Field := ⟨0x110AC + 0x1000 * (p % 6), 0, 32, .ro, 0, .cleared⟩
/-- R402: entries to transmit LPI -/
abbrev ETP_LPI_ENTRIES (p : Nat) : Field := ⟨0x110B0 + 0x1000 * (p % 6), 0, 32, .ro, 0, .cleared⟩
/-- R402: octets accepted -/
abbrev ETP_RX_BYTES_LO (p : Nat) : Field := ⟨0x110C0 + 0x1000 * (p % 6), 0, 32, .ro, 0, .cleared⟩
/-- R402: octets accepted -/
abbrev ETP_RX_BYTES_HI (p : Nat) : Field := ⟨0x110C4 + 0x1000 * (p % 6), 0, 32, .ro, 0, .cleared⟩
/-- R402: octets sent -/
abbrev ETP_TX_BYTES_LO (p : Nat) : Field := ⟨0x110C8 + 0x1000 * (p % 6), 0, 32, .ro, 0, .cleared⟩
/-- R402: octets sent -/
abbrev ETP_TX_BYTES_HI (p : Nat) : Field := ⟨0x110CC + 0x1000 * (p % 6), 0, 32, .ro, 0, .cleared⟩
/-- R402: LINK changed -/
abbrev ETP_NOTE_LINK_CHANGE (p : Nat) : Notice := ⟨0x11 + p % 6, 0⟩
/-- R402: R378 -/
abbrev ETP_NOTE_FCS_ERR (p : Nat) : Notice := ⟨0x11 + p % 6, 1⟩
/-- R402: R378 -/
abbrev ETP_NOTE_SIZE_ERR (p : Nat) : Notice := ⟨0x11 + p % 6, 2⟩
/-- R402: R381, R382 -/
abbrev ETP_NOTE_BUF_DROP (p : Nat) : Notice := ⟨0x11 + p % 6, 3⟩
/-- R402: R375 -/
abbrev ETP_NOTE_CFG_ERR (p : Nat) : Notice := ⟨0x11 + p % 6, 4⟩
/-- R402: R378 -/
abbrev ETP_NOTE_TX_OVERSIZE (p : Nat) : Notice := ⟨0x11 + p % 6, 5⟩

/-- The defined fields of the page beyond its header, for reading and writing whole words. -/
def fieldsETP (p : Nat) : List Field :=
  [ETP_CTRL_EN p, ETP_CTRL_MODE p, ETP_STATUS_LINK p, ETP_STATUS_SPEED p, ETP_STATUS_LPI_TX p, ETP_STATUS_LPI_RX p, ETP_STATUS_PAUSED p, ETP_STATUS_PFC_PAUSED p, ETP_VLAN_PVID p, ETP_VLAN_PCP p, ETP_VLAN_ACCEPT p, ETP_VLAN_INGRESS_FILTER p] ++
  [ETP_PCP_MAP p, ETP_FWD_STATE p, ETP_FC_PAUSE_RX p, ETP_FC_PAUSE_TX p, ETP_FC_PFC_EN p, ETP_FC_PFC_CLASSES p, ETP_FC_THR_XOFF p, ETP_FC_THR_XON p, ETP_FC_HEAD_HEADROOM p, ETP_FC_HEAD_QUANTA p, ETP_QLIM_CELLS p, ETP_RSV_CELLS p] ++
  [ETP_SCHED_SP_MIN p, ETP_WEIGHT p, ETP_LPI_EN p, ETP_LPI_IDLE p, ETP_LPI_TW p, ETP_LINK_AN_EN p, ETP_RX_OK p, ETP_RX_FCS_ERR p, ETP_RX_RUNT p, ETP_RX_OVERSIZE p, ETP_RX_BUF_DROP p, ETP_RX_VLAN_DROP p] ++
  [ETP_RX_PAUSE p, ETP_PFC_DROP p, ETP_TX_OK p, ETP_TX_PAUSE p, ETP_TX_OVERSIZE p, ETP_FLUSH_DROP p, ETP_LPI_ENTRIES p, ETP_RX_BYTES_LO p, ETP_RX_BYTES_HI p, ETP_TX_BYTES_LO p, ETP_TX_BYTES_HI p]

/-- The defined notice bits of the page (every other bit of its NOTE_RAW is reserved, R8). -/
def noticesETP : Nat := 0x3F

/-! ### Page 0x17, HDM (R403) -/

/-- R403: 1 runs HDM (R397) -/
abbrev HDM_CTRL_EN : Field := ⟨0x17008, 0, 1, .rw, 0, .cleared⟩
/-- R403: bit r: TX ring r enabled -/
abbrev HDM_STATUS_TX_ACTIVE : Field := ⟨0x1700C, 0, 8, .ro, 0, .cleared⟩
/-- R403: bit r: RX ring r enabled -/
abbrev HDM_STATUS_RX_ACTIVE : Field := ⟨0x1700C, 8, 8, .ro, 0, .cleared⟩
/-- R403: µs; 0 acts as 1 -/
abbrev HDM_MOD_DELAY : Field := ⟨0x17040, 0, 16, .rw, 20, .cleared⟩
/-- R403: frames; 0 acts as 1 -/
abbrev HDM_MOD_COUNT : Field := ⟨0x17040, 16, 8, .rw, 16, .cleared⟩
/-- R403: R395, R397 -/
abbrev HDM_RX_DROP : Field := ⟨0x17044, 0, 32, .ro, 0, .cleared⟩
/-- R403: R394 -/
abbrev HDM_DESC_ERR : Field := ⟨0x17048, 0, 32, .ro, 0, .cleared⟩
/-- R403: received frames with IP_BAD or L4_BAD -/
abbrev HDM_CSUM_BAD : Field := ⟨0x1704C, 0, 32, .ro, 0, .cleared⟩
/-- R403: ring base, host address, aligned to 64 octets -/
abbrev HDM_TX_BASE_LO (r : Nat) : Field := ⟨0x17080 + 0x20 * (r % 8), 0, 32, .rw, 0, .cleared⟩
/-- R403: ring base, host address, aligned to 64 octets -/
abbrev HDM_RX_BASE_LO (r : Nat) : Field := ⟨0x17180 + 0x20 * (r % 8), 0, 32, .rw, 0, .cleared⟩
/-- R403: ring base, host address, aligned to 64 octets -/
abbrev HDM_TX_BASE_HI (r : Nat) : Field := ⟨0x17084 + 0x20 * (r % 8), 0, 32, .rw, 0, .cleared⟩
/-- R403: ring base, host address, aligned to 64 octets -/
abbrev HDM_RX_BASE_HI (r : Nat) : Field := ⟨0x17184 + 0x20 * (r % 8), 0, 32, .rw, 0, .cleared⟩
/-- R403: R393; written only while the ring is disabled, otherwise discarded with DESC_ERR -/
abbrev HDM_TX_SIZE (r : Nat) : Field := ⟨0x17088 + 0x20 * (r % 8), 0, 4, .rw, 0, .cleared⟩
/-- R403: R393; written only while the ring is disabled, otherwise discarded with DESC_ERR -/
abbrev HDM_RX_SIZE (r : Nat) : Field := ⟨0x17188 + 0x20 * (r % 8), 0, 4, .rw, 0, .cleared⟩
/-- R403: host's index -/
abbrev HDM_TX_TAIL (r : Nat) : Field := ⟨0x1708C + 0x20 * (r % 8), 0, 12, .rw, 0, .cleared⟩
/-- R403: host's index -/
abbrev HDM_RX_TAIL (r : Nat) : Field := ⟨0x1718C + 0x20 * (r % 8), 0, 12, .rw, 0, .cleared⟩
/-- R403: HDM's index; 0 when the ring is enabled -/
abbrev HDM_TX_HEAD (r : Nat) : Field := ⟨0x17090 + 0x20 * (r % 8), 0, 12, .ro, 0, .cleared⟩
/-- R403: HDM's index; 0 when the ring is enabled -/
abbrev HDM_RX_HEAD (r : Nat) : Field := ⟨0x17190 + 0x20 * (r % 8), 0, 12, .ro, 0, .cleared⟩
/-- R403: bit r: completions on RX ring r (R397) -/
abbrev HDM_NOTE_RX (q : Nat) : Notice := ⟨0x17, 0 + q⟩
/-- R403: bit r: completions on TX ring r -/
abbrev HDM_NOTE_TX (q : Nat) : Notice := ⟨0x17, 8 + q⟩
/-- R403: R395 -/
abbrev HDM_NOTE_RX_NORING : Notice := ⟨0x17, 16⟩
/-- R403: R393, R394 -/
abbrev HDM_NOTE_DESC_ERR : Notice := ⟨0x17, 17⟩
/-- R403: R397 -/
abbrev HDM_NOTE_DMA_ERR : Notice := ⟨0x17, 18⟩

/-- The defined fields of the page beyond its header, for reading and writing whole words. -/
def fieldsHDM : List Field :=
  [HDM_CTRL_EN, HDM_STATUS_TX_ACTIVE, HDM_STATUS_RX_ACTIVE, HDM_MOD_DELAY, HDM_MOD_COUNT, HDM_RX_DROP, HDM_DESC_ERR, HDM_CSUM_BAD] ++
  (List.range 8).map HDM_TX_BASE_LO ++
  (List.range 8).map HDM_RX_BASE_LO ++
  (List.range 8).map HDM_TX_BASE_HI ++
  (List.range 8).map HDM_RX_BASE_HI ++
  (List.range 8).map HDM_TX_SIZE ++
  (List.range 8).map HDM_RX_SIZE ++
  (List.range 8).map HDM_TX_TAIL ++
  (List.range 8).map HDM_RX_TAIL ++
  (List.range 8).map HDM_TX_HEAD ++
  (List.range 8).map HDM_RX_HEAD

/-- The defined notice bits of the page (every other bit of its NOTE_RAW is reserved, R8). -/
def noticesHDM : Nat := 0x7FFFF

/-! ### Page 0x18, TIM (R430) -/

/-- R430: 1 runs the engine -/
abbrev TIM_CTRL_PTP_EN : Field := ⟨0x18008, 0, 1, .rw, 0, .cleared⟩
/-- R430: 0 HOST ; 1 ORDINARY ; 2 BOUNDARY ; 3 acts as 0 and sets CFG_ERR -/
abbrev TIM_CTRL_ROLE : Field := ⟨0x18008, 1, 2, .rw, 0, .cleared⟩
/-- R430: R413 -/
abbrev TIM_CTRL_TC_EN : Field := ⟨0x18008, 4, 1, .rw, 0, .cleared⟩
/-- R430: R411 -/
abbrev TIM_CTRL_COPY_HOST : Field := ⟨0x18008, 5, 1, .rw, 0, .cleared⟩
/-- R430: R410 -/
abbrev TIM_CTRL_SLAVE_ONLY : Field := ⟨0x18008, 6, 1, .rw, 0, .cleared⟩
/-- R430: R408 -/
abbrev TIM_STATUS_STATE : Field := ⟨0x1800C, 0, 2, .ro, 2, .cleared⟩
/-- R430: R407; the read latches TIM_NOW_HI -/
abbrev TIM_NOW_LO : Field := ⟨0x18040, 0, 32, .ro, 0, .cleared⟩
/-- R430: bits 63:32 -/
abbrev TIM_NOW_HI : Field := ⟨0x18044, 0, 32, .ro, 0, .cleared⟩
/-- R430: R, signed, 2^−40 (R405); writable in HOST only -/
abbrev TIM_RATE : Field := ⟨0x18048, 0, 32, .rw, 0, .cleared⟩
/-- R430: step, signed ns, bits 31:0 -/
abbrev TIM_STEP_LO : Field := ⟨0x1804C, 0, 32, .rw, 0, .cleared⟩
/-- R430: bits 63:32; the write applies the step (HOST only) -/
abbrev TIM_STEP_HI : Field := ⟨0x18050, 0, 32, .rw, 0, .cleared⟩
/-- R430: state in HOST (R408); a write of 3 is discarded -/
abbrev TIM_HOST_STATE : Field := ⟨0x18054, 0, 2, .rw, 2, .cleared⟩
/-- R430: TAI − UTC, signed s -/
abbrev TIM_UTC_OFFSET : Field := ⟨0x18058, 0, 16, .rw, 0, .stored⟩
/-- R430: offset known -/
abbrev TIM_UTC_VALID : Field := ⟨0x18058, 16, 1, .rw, 0, .cleared⟩
/-- R430: last set by the engine -/
abbrev TIM_UTC_SRC_PTP : Field := ⟨0x18058, 17, 1, .ro, 0, .cleared⟩
/-- R430: 0–127; higher acts as 0 -/
abbrev TIM_PTP_DOMAIN : Field := ⟨0x18060, 0, 8, .rw, 0, .cleared⟩
/-- R430: priority1 -/
abbrev TIM_PTP_PRIO1 : Field := ⟨0x18060, 8, 8, .rw, 128, .cleared⟩
/-- R430: priority2 -/
abbrev TIM_PTP_PRIO2 : Field := ⟨0x18060, 16, 8, .rw, 128, .cleared⟩
/-- R430: clockClass -/
abbrev TIM_PTP_CLASS : Field := ⟨0x18060, 24, 8, .rw, 248, .cleared⟩
/-- R430: logSyncInterval, signed -/
abbrev TIM_PTP_INT_SYNC : Field := ⟨0x18064, 0, 4, .rw, 0, .cleared⟩
/-- R430: logAnnounceInterval, signed -/
abbrev TIM_PTP_INT_ANNOUNCE : Field := ⟨0x18064, 4, 4, .rw, 1, .cleared⟩
/-- R430: logMinDelayReqInterval, signed -/
abbrev TIM_PTP_INT_DELAY_REQ : Field := ⟨0x18064, 8, 4, .rw, 0, .cleared⟩
/-- R430: announceReceiptTimeout; outside 2–10 acts as 3 -/
abbrev TIM_PTP_INT_TIMEOUT : Field := ⟨0x18064, 12, 4, .rw, 3, .cleared⟩
/-- R430: bit 0 IEEE 802.3, bit 1 UDP/IPv4, bit 2 UDP/IPv6 -/
abbrev TIM_PTP_XPORT_TRANSPORT : Field := ⟨0x18068, 0, 3, .rw, 1, .cleared⟩
/-- R430: bit k: Pk is a PTP port -/
abbrev TIM_PTP_XPORT_PORTS : Field := ⟨0x18068, 8, 6, .rw, 3, .cleared⟩
/-- R430: ns -/
abbrev TIM_LOCK_NS : Field := ⟨0x1806C, 0, 16, .rw, 0x3e8, .cleared⟩
/-- R430: Syncs; 0 acts as 1 -/
abbrev TIM_LOCK_COUNT : Field := ⟨0x1806C, 16, 8, .rw, 8, .cleared⟩
/-- R430: s -/
abbrev TIM_HOLD_MAX : Field := ⟨0x18070, 0, 20, .rw, 0x15180, .cleared⟩
/-- R430: R409 -/
abbrev TIM_SERVO_KP : Field := ⟨0x18074, 0, 16, .rw, 0x226, .cleared⟩
/-- R430: R409 -/
abbrev TIM_SERVO_KI : Field := ⟨0x18074, 16, 16, .rw, 110, .cleared⟩
/-- R430: ns -/
abbrev TIM_SERVO_STEP_NS : Field := ⟨0x18078, 0, 32, .rw, 0xf4240, .cleared⟩
/-- R430: θ, signed ns -/
abbrev TIM_OFFSET_MEAS : Field := ⟨0x1807C, 0, 32, .ro, 0, .cleared⟩
/-- R430: ns -/
abbrev TIM_MEAN_DELAY : Field := ⟨0x18080, 0, 32, .ro, 0, .cleared⟩
/-- R430: parent clockIdentity -/
abbrev TIM_PARENT_LO : Field := ⟨0x18084, 0, 32, .ro, 0, .cleared⟩
/-- R430: parent clockIdentity -/
abbrev TIM_PARENT_HI : Field := ⟨0x18088, 0, 32, .ro, 0, .cleared⟩
/-- R430: parent portNumber -/
abbrev TIM_PARENT_PORT_NUMBER : Field := ⟨0x1808C, 0, 16, .ro, 0, .cleared⟩
/-- R430: local SLAVE port -/
abbrev TIM_PARENT_PORT_LOCAL : Field := ⟨0x1808C, 16, 3, .ro, 0, .cleared⟩
/-- R430: bits 3k + 2:3k for Pk: ; 0 DISABLED ; 1 LISTENING ; 2 UNCALIBRATED ; 3 SLAVE ; 4 PASSIVE ; 5 MASTER ; 6 PRE_MA -/
abbrev TIM_PORT_STATE : Field := ⟨0x18090, 0, 18, .ro, 0, .cleared⟩
/-- R430: clockIdentity -/
abbrev TIM_CLOCK_ID_LO : Field := ⟨0x18094, 0, 32, .ro, Config.factoryClockIdLo, .cleared⟩
/-- R430: clockIdentity -/
abbrev TIM_CLOCK_ID_HI : Field := ⟨0x18098, 0, 32, .ro, Config.factoryClockIdHi, .cleared⟩
/-- R430: signed ns (R412) -/
abbrev TIM_LAT_RX (i : Nat) : Field := ⟨0x180A0 + 0x4 * (i % 6), 0, 16, .rw, 0, .cleared⟩
/-- R430: signed ns -/
abbrev TIM_LAT_TX (i : Nat) : Field := ⟨0x180A0 + 0x4 * (i % 6), 16, 16, .rw, 0, .cleared⟩
/-- R430: R417 -/
abbrev TIM_PPS_CFG_EN : Field := ⟨0x180C0, 0, 1, .rw, 0, .cleared⟩
/-- R430: ms, 1–250; 0 acts as 1 -/
abbrev TIM_PPS_CFG_WIDTH : Field := ⟨0x180C0, 8, 8, .rw, 100, .cleared⟩
/-- R430: 0 off ; 1 10 MHz ; 2 25 MHz ; 3 acts as 0 -/
abbrev TIM_PPS_CFG_CLK : Field := ⟨0x180C0, 16, 2, .rw, 0, .cleared⟩
/-- R430: signed ns -/
abbrev TIM_PPS_OFS : Field := ⟨0x180C4, 0, 32, .rw, 0, .cleared⟩
/-- R430: R417 -/
abbrev TIM_PPS_IN_EN : Field := ⟨0x180C8, 0, 1, .rw, 0, .cleared⟩
/-- R430: 0 rising, 1 falling -/
abbrev TIM_PPS_IN_EDGE : Field := ⟨0x180C8, 1, 1, .rw, 0, .cleared⟩
/-- R430: R407 -/
abbrev TIM_CAPTURE_GO : Field := ⟨0x180CC, 0, 1, .wo, 0, .cleared⟩
/-- R430: R415 -/
abbrev TIM_TS_POP_COUNT : Field := ⟨0x180D0, 0, 24, .wo, 0, .cleared⟩
/-- R430: entries, 0–64 -/
abbrev TIM_TS_LEVEL : Field := ⟨0x180D4, 0, 7, .ro, 0, .cleared⟩
/-- R430: R416 -/
abbrev TIM_TS_LOST : Field := ⟨0x180D8, 0, 32, .ro, 0, .cleared⟩
/-- R430: R416 -/
abbrev TIM_TS_LOST_ID_ID : Field := ⟨0x180DC, 0, 16, .ro, 0, .cleared⟩
/-- R430: R416 -/
abbrev TIM_TS_LOST_ID_PORT : Field := ⟨0x180DC, 16, 3, .ro, 0, .cleared⟩
/-- R430: steps of module time, by the servo or by host software in role HOST (R409) -/
abbrev TIM_STEPS : Field := ⟨0x180E0, 0, 32, .ro, 0, .cleared⟩
/-- R430: R413 -/
abbrev TIM_TC_FRAMES : Field := ⟨0x180E4, 0, 32, .ro, 0, .cleared⟩
/-- R430: TS_ID of the head -/
abbrev TIM_TS_INFO_ID : Field := ⟨0x18100, 0, 16, .ro, 0, .cleared⟩
/-- R430: port -/
abbrev TIM_TS_INFO_PORT : Field := ⟨0x18100, 16, 3, .ro, 0, .cleared⟩
/-- R430: 1 if the queue holds an entry -/
abbrev TIM_TS_INFO_VALID : Field := ⟨0x18100, 20, 1, .ro, 0, .cleared⟩
/-- R430: 0 sent, 1 not sent -/
abbrev TIM_TS_INFO_STATUS : Field := ⟨0x18100, 21, 1, .ro, 0, .cleared⟩
/-- R430: timestamp, bits 31:0 -/
abbrev TIM_TS_NS_LO : Field := ⟨0x18104, 0, 32, .ro, 0, .cleared⟩
/-- R430: bits 63:32; the last word of block 0 -/
abbrev TIM_TS_NS_HI : Field := ⟨0x18108, 0, 32, .ro, 0, .cleared⟩
/-- R430: SEQ word of block 1 -/
abbrev TIM_CAP_SEQ : Field := ⟨0x18110, 8, 24, .ro, 0, .cleared⟩
/-- R430: C -/
abbrev TIM_CAP_RAW_LO : Field := ⟨0x18114, 0, 32, .ro, 0, .cleared⟩
/-- R430: C -/
abbrev TIM_CAP_RAW_HI : Field := ⟨0x18118, 0, 32, .ro, 0, .cleared⟩
/-- R430: module time, ns -/
abbrev TIM_CAP_MT_LO : Field := ⟨0x1811C, 0, 32, .ro, 0, .cleared⟩
/-- R430: module time, ns -/
abbrev TIM_CAP_MT_HI : Field := ⟨0x18120, 0, 32, .ro, 0, .cleared⟩
/-- R430: calendar seconds, bits 31:0 -/
abbrev TIM_CAP_CAL_LO : Field := ⟨0x18124, 0, 32, .ro, 0, .cleared⟩
/-- R430: bits 47:32; the last word of block 1 -/
abbrev TIM_CAP_END_SECONDS : Field := ⟨0x18128, 0, 16, .ro, 0, .cleared⟩
/-- R430: fraction -/
abbrev TIM_CAP_END_FRACTION : Field := ⟨0x18128, 16, 16, .ro, 0, .cleared⟩
/-- R430: SEQ word of block 2 -/
abbrev TIM_PPSI_SEQ : Field := ⟨0x18130, 8, 24, .ro, 0, .cleared⟩
/-- R430: edge, module time, bits 31:0 -/
abbrev TIM_PPSI_LO : Field := ⟨0x18134, 0, 32, .ro, 0, .cleared⟩
/-- R430: bits 63:32; the last word of block 2 -/
abbrev TIM_PPSI_HI : Field := ⟨0x18138, 0, 32, .ro, 0, .cleared⟩
/-- R430: R408 -/
abbrev TIM_NOTE_STATE : Notice := ⟨0x18, 0⟩
/-- R430: R409 -/
abbrev TIM_NOTE_STEP : Notice := ⟨0x18, 1⟩
/-- R430: R416 -/
abbrev TIM_NOTE_TS_OVERFLOW : Notice := ⟨0x18, 2⟩
/-- R430: a VALID head was published (R415) -/
abbrev TIM_NOTE_TS_READY : Notice := ⟨0x18, 3⟩
/-- R430: R415 -/
abbrev TIM_NOTE_POP_ERR : Notice := ⟨0x18, 4⟩
/-- R430: R417 -/
abbrev TIM_NOTE_PPS_IN : Notice := ⟨0x18, 5⟩
/-- R430: R407 -/
abbrev TIM_NOTE_CAPTURE : Notice := ⟨0x18, 6⟩
/-- R430: R408, R409, R430 -/
abbrev TIM_NOTE_CFG_ERR : Notice := ⟨0x18, 7⟩

/-- The defined fields of the page beyond its header, for reading and writing whole words. -/
def fieldsTIM : List Field :=
  [TIM_CTRL_PTP_EN, TIM_CTRL_ROLE, TIM_CTRL_TC_EN, TIM_CTRL_COPY_HOST, TIM_CTRL_SLAVE_ONLY, TIM_STATUS_STATE, TIM_NOW_LO, TIM_NOW_HI, TIM_RATE, TIM_STEP_LO, TIM_STEP_HI, TIM_HOST_STATE] ++
  [TIM_UTC_OFFSET, TIM_UTC_VALID, TIM_UTC_SRC_PTP, TIM_PTP_DOMAIN, TIM_PTP_PRIO1, TIM_PTP_PRIO2, TIM_PTP_CLASS, TIM_PTP_INT_SYNC, TIM_PTP_INT_ANNOUNCE, TIM_PTP_INT_DELAY_REQ, TIM_PTP_INT_TIMEOUT, TIM_PTP_XPORT_TRANSPORT] ++
  [TIM_PTP_XPORT_PORTS, TIM_LOCK_NS, TIM_LOCK_COUNT, TIM_HOLD_MAX, TIM_SERVO_KP, TIM_SERVO_KI, TIM_SERVO_STEP_NS, TIM_OFFSET_MEAS, TIM_MEAN_DELAY, TIM_PARENT_LO, TIM_PARENT_HI, TIM_PARENT_PORT_NUMBER] ++
  [TIM_PARENT_PORT_LOCAL, TIM_PORT_STATE, TIM_CLOCK_ID_LO, TIM_CLOCK_ID_HI, TIM_PPS_CFG_EN, TIM_PPS_CFG_WIDTH, TIM_PPS_CFG_CLK, TIM_PPS_OFS, TIM_PPS_IN_EN, TIM_PPS_IN_EDGE, TIM_CAPTURE_GO, TIM_TS_POP_COUNT] ++
  [TIM_TS_LEVEL, TIM_TS_LOST, TIM_TS_LOST_ID_ID, TIM_TS_LOST_ID_PORT, TIM_STEPS, TIM_TC_FRAMES, TIM_TS_INFO_ID, TIM_TS_INFO_PORT, TIM_TS_INFO_VALID, TIM_TS_INFO_STATUS, TIM_TS_NS_LO, TIM_TS_NS_HI] ++
  [TIM_CAP_SEQ, TIM_CAP_RAW_LO, TIM_CAP_RAW_HI, TIM_CAP_MT_LO, TIM_CAP_MT_HI, TIM_CAP_CAL_LO, TIM_CAP_END_SECONDS, TIM_CAP_END_FRACTION, TIM_PPSI_SEQ, TIM_PPSI_LO, TIM_PPSI_HI] ++
  (List.range 6).map TIM_LAT_RX ++
  (List.range 6).map TIM_LAT_TX

/-- The defined notice bits of the page (every other bit of its NOTE_RAW is reserved, R8). -/
def noticesTIM : Nat := 0xFF

/-! ### Page 0x19, RTC (R431) -/

/-- R431: R424 -/
abbrev RTC_CTRL_AUTO_TRIM : Field := ⟨0x19008, 0, 1, .rw, 1, .alwaysOn⟩
/-- R431: R424 -/
abbrev RTC_CTRL_AUTO_STEP : Field := ⟨0x19008, 1, 1, .rw, 1, .alwaysOn⟩
/-- R431: R411 -/
abbrev RTC_CTRL_AUTO_LEAP : Field := ⟨0x19008, 2, 1, .rw, 1, .alwaysOn⟩
/-- R431: R425 -/
abbrev RTC_STATUS_OSF : Field := ⟨0x1900C, 0, 1, .ro, 1, .alwaysOn⟩
/-- R431: RTC_LEAP armed -/
abbrev RTC_STATUS_LEAP_PENDING : Field := ⟨0x1900C, 1, 1, .ro, 0, .cleared⟩
/-- R431: R422 -/
abbrev RTC_STATUS_LEAP_NOW : Field := ⟨0x1900C, 2, 1, .ro, 0, .alwaysOn⟩
/-- R431: R424 -/
abbrev RTC_STATUS_TRIM_FROZEN : Field := ⟨0x1900C, 3, 1, .ro, 1, .cleared⟩
/-- R431: R418 -/
abbrev RTC_STATUS_RANGE : Field := ⟨0x1900C, 4, 1, .ro, 0, .cleared⟩
/-- R431: seconds, bits 31:0 -/
abbrev RTC_SET_SEC_LO : Field := ⟨0x19040, 0, 32, .rw, 0, .cleared⟩
/-- R431: bits 47:32 -/
abbrev RTC_SET_SEC_HI_SECONDS : Field := ⟨0x19044, 0, 16, .rw, 0, .cleared⟩
/-- R431: fraction, for both forms -/
abbrev RTC_SET_SEC_HI_FRACTION : Field := ⟨0x19044, 16, 16, .rw, 0, .cleared⟩
/-- R431: fields (R421) -/
abbrev RTC_SET_DATE_DAY : Field := ⟨0x19048, 0, 5, .rw, 0, .cleared⟩
/-- R431: fields (R421) -/
abbrev RTC_SET_DATE_MONTH : Field := ⟨0x19048, 8, 4, .rw, 0, .cleared⟩
/-- R431: fields (R421) -/
abbrev RTC_SET_DATE_YEAR : Field := ⟨0x19048, 16, 12, .rw, 0, .cleared⟩
/-- R431: fields -/
abbrev RTC_SET_TIME_SECOND : Field := ⟨0x1904C, 0, 6, .rw, 0, .cleared⟩
/-- R431: fields -/
abbrev RTC_SET_TIME_MINUTE : Field := ⟨0x1904C, 8, 6, .rw, 0, .cleared⟩
/-- R431: fields -/
abbrev RTC_SET_TIME_HOUR : Field := ⟨0x1904C, 16, 5, .rw, 0, .cleared⟩
/-- R431: R421 -/
abbrev RTC_SET_CMD_GO : Field := ⟨0x19050, 0, 1, .wo, 0, .cleared⟩
/-- R431: 0 count, 1 fields -/
abbrev RTC_SET_CMD_SRC : Field := ⟨0x19050, 1, 1, .wo, 0, .cleared⟩
/-- R431: signed pulses per 65,536 s (R423) -/
abbrev RTC_TRIM : Field := ⟨0x19054, 0, 21, .rw, 0, .alwaysOn⟩
/-- R431: UTC date number -/
abbrev RTC_LEAP_DATE : Field := ⟨0x19058, 0, 18, .rw, 0, .alwaysOn⟩
/-- R431: 0 insert, 1 delete -/
abbrev RTC_LEAP_SIGN : Field := ⟨0x19058, 24, 1, .rw, 0, .alwaysOn⟩
/-- R431: 1 armed -/
abbrev RTC_LEAP_ARM : Field := ⟨0x19058, 31, 1, .rw, 0, .alwaysOn⟩
/-- R431: alarm fields -/
abbrev RTC_ALM_TIME_SECOND (i : Nat) : Field := ⟨0x19060 + 0x10 * (i % 2), 0, 6, .rw, 0, .alwaysOn⟩
/-- R431: alarm fields -/
abbrev RTC_ALM_TIME_MINUTE (i : Nat) : Field := ⟨0x19060 + 0x10 * (i % 2), 8, 6, .rw, 0, .alwaysOn⟩
/-- R431: alarm fields -/
abbrev RTC_ALM_TIME_HOUR (i : Nat) : Field := ⟨0x19060 + 0x10 * (i % 2), 16, 5, .rw, 0, .alwaysOn⟩
/-- R431: alarm fields -/
abbrev RTC_ALM_TIME_WEEKDAY (i : Nat) : Field := ⟨0x19060 + 0x10 * (i % 2), 24, 3, .rw, 0, .alwaysOn⟩
/-- R431: alarm fields -/
abbrev RTC_ALM_DATE_DAY (i : Nat) : Field := ⟨0x19064 + 0x10 * (i % 2), 0, 5, .rw, 0, .alwaysOn⟩
/-- R431: alarm fields -/
abbrev RTC_ALM_DATE_MONTH (i : Nat) : Field := ⟨0x19064 + 0x10 * (i % 2), 8, 4, .rw, 0, .alwaysOn⟩
/-- R431: alarm fields -/
abbrev RTC_ALM_DATE_YEAR (i : Nat) : Field := ⟨0x19064 + 0x10 * (i % 2), 16, 12, .rw, 0, .alwaysOn⟩
/-- R431: bit 0 SECOND ; 1 MINUTE ; 2 HOUR ; 3 DAY ; 4 WEEKDAY ; 5 MONTH ; 6 YEAR -/
abbrev RTC_ALM_CFG_MASK (i : Nat) : Field := ⟨0x19068 + 0x10 * (i % 2), 0, 7, .rw, 0, .alwaysOn⟩
/-- R431: 1 enables -/
abbrev RTC_ALM_CFG_EN (i : Nat) : Field := ⟨0x19068 + 0x10 * (i % 2), 8, 1, .rw, 0, .alwaysOn⟩
/-- R431: 1 wakes from HOLD -/
abbrev RTC_ALM_CFG_WAKE (i : Nat) : Field := ⟨0x19068 + 0x10 * (i % 2), 9, 1, .rw, 0, .alwaysOn⟩
/-- R431: R426 -/
abbrev RTC_ALM_CFG_FIRED (i : Nat) : Field := ⟨0x19068 + 0x10 * (i % 2), 16, 1, .w1c, 0, .alwaysOn⟩
/-- R431: R427 -/
abbrev RTC_ALM_CFG_SKIP (i : Nat) : Field := ⟨0x19068 + 0x10 * (i % 2), 17, 1, .w1c, 0, .alwaysOn⟩
/-- R431: e, signed ppb -/
abbrev RTC_DISC : Field := ⟨0x19080, 0, 32, .ro, 0, .cleared⟩
/-- R431: φ, signed µs, saturating -/
abbrev RTC_PHASE_ERR : Field := ⟨0x19084, 0, 32, .ro, 0, .cleared⟩
/-- R431: ms; 0 acts as 1 -/
abbrev RTC_STEP_THR : Field := ⟨0x19088, 0, 16, .rw, 0x3e8, .alwaysOn⟩
/-- R431: 0 none ; 1 year ; 2 month ; 3 day ; 4 hour ; 5 minute ; 6 second ; 7 count out of range ; 8 leap date -/
abbrev RTC_WERR_REASON : Field := ⟨0x1908C, 0, 4, .ro, 0, .cleared⟩
/-- R431: seconds, bits 31:0 -/
abbrev RTC_SEC_LO : Field := ⟨0x19100, 0, 32, .ro, 0, .cleared⟩
/-- R431: bits 47:32 -/
abbrev RTC_SEC_HI_SECONDS : Field := ⟨0x19104, 0, 16, .ro, 0, .cleared⟩
/-- R431: fraction -/
abbrev RTC_SEC_HI_FRACTION : Field := ⟨0x19104, 16, 16, .ro, 0, .cleared⟩
/-- R431: R419 -/
abbrev RTC_DATE_DAY : Field := ⟨0x19108, 0, 5, .ro, 0, .cleared⟩
/-- R431: R419 -/
abbrev RTC_DATE_MONTH : Field := ⟨0x19108, 8, 4, .ro, 0, .cleared⟩
/-- R431: R419 -/
abbrev RTC_DATE_YEAR : Field := ⟨0x19108, 16, 12, .ro, 0, .cleared⟩
/-- R431: R419 -/
abbrev RTC_DATE_WEEKDAY : Field := ⟨0x19108, 28, 3, .ro, 0, .cleared⟩
/-- R431: 0–60, 0–59, 0–23; the last word of block 0 -/
abbrev RTC_TIME_SECOND : Field := ⟨0x1910C, 0, 6, .ro, 0, .cleared⟩
/-- R431: 0–60, 0–59, 0–23; the last word of block 0 -/
abbrev RTC_TIME_MINUTE : Field := ⟨0x1910C, 8, 6, .ro, 0, .cleared⟩
/-- R431: 0–60, 0–59, 0–23; the last word of block 0 -/
abbrev RTC_TIME_HOUR : Field := ⟨0x1910C, 16, 5, .ro, 0, .cleared⟩
/-- R431: R426 -/
abbrev RTC_NOTE_ALM0 : Notice := ⟨0x19, 0⟩
/-- R431: R426 -/
abbrev RTC_NOTE_ALM1 : Notice := ⟨0x19, 1⟩
/-- R431: R421, R422 -/
abbrev RTC_NOTE_WERR : Notice := ⟨0x19, 2⟩
/-- R431: R425 -/
abbrev RTC_NOTE_OSF : Notice := ⟨0x19, 3⟩
/-- R431: R424 -/
abbrev RTC_NOTE_STEP : Notice := ⟨0x19, 4⟩
/-- R431: R422 -/
abbrev RTC_NOTE_LEAP_DONE : Notice := ⟨0x19, 5⟩
/-- R431: R424 -/
abbrev RTC_NOTE_TRIM_UPDATE : Notice := ⟨0x19, 6⟩

/-- The defined fields of the page beyond its header, for reading and writing whole words. -/
def fieldsRTC : List Field :=
  [RTC_CTRL_AUTO_TRIM, RTC_CTRL_AUTO_STEP, RTC_CTRL_AUTO_LEAP, RTC_STATUS_OSF, RTC_STATUS_LEAP_PENDING, RTC_STATUS_LEAP_NOW, RTC_STATUS_TRIM_FROZEN, RTC_STATUS_RANGE, RTC_SET_SEC_LO, RTC_SET_SEC_HI_SECONDS, RTC_SET_SEC_HI_FRACTION, RTC_SET_DATE_DAY] ++
  [RTC_SET_DATE_MONTH, RTC_SET_DATE_YEAR, RTC_SET_TIME_SECOND, RTC_SET_TIME_MINUTE, RTC_SET_TIME_HOUR, RTC_SET_CMD_GO, RTC_SET_CMD_SRC, RTC_TRIM, RTC_LEAP_DATE, RTC_LEAP_SIGN, RTC_LEAP_ARM, RTC_DISC] ++
  [RTC_PHASE_ERR, RTC_STEP_THR, RTC_WERR_REASON, RTC_SEC_LO, RTC_SEC_HI_SECONDS, RTC_SEC_HI_FRACTION, RTC_DATE_DAY, RTC_DATE_MONTH, RTC_DATE_YEAR, RTC_DATE_WEEKDAY, RTC_TIME_SECOND, RTC_TIME_MINUTE] ++
  [RTC_TIME_HOUR] ++
  (List.range 2).map RTC_ALM_TIME_SECOND ++
  (List.range 2).map RTC_ALM_TIME_MINUTE ++
  (List.range 2).map RTC_ALM_TIME_HOUR ++
  (List.range 2).map RTC_ALM_TIME_WEEKDAY ++
  (List.range 2).map RTC_ALM_DATE_DAY ++
  (List.range 2).map RTC_ALM_DATE_MONTH ++
  (List.range 2).map RTC_ALM_DATE_YEAR ++
  (List.range 2).map RTC_ALM_CFG_MASK ++
  (List.range 2).map RTC_ALM_CFG_EN ++
  (List.range 2).map RTC_ALM_CFG_WAKE ++
  (List.range 2).map RTC_ALM_CFG_FIRED ++
  (List.range 2).map RTC_ALM_CFG_SKIP

/-- The defined notice bits of the page (every other bit of its NOTE_RAW is reserved, R8). -/
def noticesRTC : Nat := 0x7F

end Sys2Proof.Machine
end

