-- ==== Sys2Proof/Machine/RegMapC.lean ====
section
/-! DEFINITION. The register fields of the remaining pages (0x1A to 0x22), by the spec's own names. -/

namespace Sys2Proof.Machine

/-! ### Page 0x1A, SLQ (R452) -/

/-- R452: 1 runs every queue; 0 as R569 states -/
abbrev SLQ_CTRL_EN : Field := ⟨0x1A008, 0, 1, .rw, 0, .cleared⟩
/-- R452: cells allocated to no queue -/
abbrev SLQ_STATUS_FREE : Field := ⟨0x1A00C, 0, 14, .ro, 0x400, .cleared⟩
/-- R452: 0–15 uplink, 16–23 downlink 0–7 -/
abbrev SLQ_ERR_QUEUE : Field := ⟨0x1A040, 0, 5, .ro, 0, .cleared⟩
/-- R452: 0 none ; 1 length mismatch ; 2 too long ; 3 other port ; 4 no cells, no consumer or wrong direction ; 5 CELLS -/
abbrev SLQ_ERR_REASON : Field := ⟨0x1A040, 8, 3, .ro, 0, .cleared⟩
/-- R452: cells owned -/
abbrev SLQ_U_CFG_CELLS (q : Nat) : Field := ⟨0x1A100 + 0x20 * (q % 16), 0, 14, .rw, slqCellsResetU (q % 16), .cleared⟩
/-- R452: cells owned -/
abbrev SLQ_D_CFG_CELLS (q : Nat) : Field := ⟨0x1A300 + 0x20 * (q % 8), 0, 14, .rw, slqCellsResetD (q % 8), .cleared⟩
/-- R452: 0 STALL ; 1 DROP_NEWEST (R444) -/
abbrev SLQ_U_CFG_POLICY (q : Nat) : Field := ⟨0x1A100 + 0x20 * (q % 16), 16, 1, .rw, 1, .cleared⟩
/-- R452: 0 STALL ; 1 DROP_NEWEST (R444) -/
abbrev SLQ_D_CFG_POLICY (q : Nat) : Field := ⟨0x1A300 + 0x20 * (q % 8), 16, 1, .rw, 1, .cleared⟩
/-- R452: cells; 0 off (R446) -/
abbrev SLQ_U_WM_WMARK (q : Nat) : Field := ⟨0x1A104 + 0x20 * (q % 16), 0, 14, .rw, 0, .cleared⟩
/-- R452: cells; 0 off (R446) -/
abbrev SLQ_D_WM_WMARK (q : Nat) : Field := ⟨0x1A304 + 0x20 * (q % 8), 0, 14, .rw, 0, .cleared⟩
/-- R452: ms; 0 off (R447) -/
abbrev SLQ_U_WM_TIMEOUT (q : Nat) : Field := ⟨0x1A104 + 0x20 * (q % 16), 16, 16, .rw, 0, .cleared⟩
/-- R452: ms; 0 off (R447) -/
abbrev SLQ_D_WM_TIMEOUT (q : Nat) : Field := ⟨0x1A304 + 0x20 * (q % 8), 16, 16, .rw, 0, .cleared⟩
/-- R452: cells in use (R433) -/
abbrev SLQ_U_LEVEL_LEVEL (q : Nat) : Field := ⟨0x1A110 + 0x20 * (q % 16), 0, 14, .ro, 0, .cleared⟩
/-- R452: cells in use (R433) -/
abbrev SLQ_D_LEVEL_LEVEL (q : Nat) : Field := ⟨0x1A310 + 0x20 * (q % 8), 0, 14, .ro, 0, .cleared⟩
/-- R452: R446 -/
abbrev SLQ_U_LEVEL_LEVEL_MAX (q : Nat) : Field := ⟨0x1A110 + 0x20 * (q % 16), 16, 14, .ro, 0, .cleared⟩
/-- R452: R446 -/
abbrev SLQ_D_LEVEL_LEVEL_MAX (q : Nat) : Field := ⟨0x1A310 + 0x20 * (q % 8), 16, 14, .ro, 0, .cleared⟩
/-- R452: R446 -/
abbrev SLQ_U_STAT_WM (q : Nat) : Field := ⟨0x1A114 + 0x20 * (q % 16), 0, 1, .w1c, 0, .cleared⟩
/-- R452: R446 -/
abbrev SLQ_D_STAT_WM (q : Nat) : Field := ⟨0x1A314 + 0x20 * (q % 8), 0, 1, .w1c, 0, .cleared⟩
/-- R452: R447 -/
abbrev SLQ_U_STAT_TO (q : Nat) : Field := ⟨0x1A114 + 0x20 * (q % 16), 1, 1, .w1c, 0, .cleared⟩
/-- R452: R447 -/
abbrev SLQ_D_STAT_TO (q : Nat) : Field := ⟨0x1A314 + 0x20 * (q % 8), 1, 1, .w1c, 0, .cleared⟩
/-- R452: R444 -/
abbrev SLQ_U_STAT_DROPPED (q : Nat) : Field := ⟨0x1A114 + 0x20 * (q % 16), 2, 1, .w1c, 0, .cleared⟩
/-- R452: R444 -/
abbrev SLQ_D_STAT_DROPPED (q : Nat) : Field := ⟨0x1A314 + 0x20 * (q % 8), 2, 1, .w1c, 0, .cleared⟩
/-- R452: R437, R441 -/
abbrev SLQ_U_STAT_CORRUPT (q : Nat) : Field := ⟨0x1A114 + 0x20 * (q % 16), 3, 1, .w1c, 0, .cleared⟩
/-- R452: R437, R441 -/
abbrev SLQ_D_STAT_CORRUPT (q : Nat) : Field := ⟨0x1A314 + 0x20 * (q % 8), 3, 1, .w1c, 0, .cleared⟩
/-- R452: R445 -/
abbrev SLQ_U_STAT_MARKED (q : Nat) : Field := ⟨0x1A114 + 0x20 * (q % 16), 4, 1, .ro, 0, .cleared⟩
/-- R452: uplink: a packet is owned by a port ; downlink: a packet is open -/
abbrev SLQ_U_STAT_OWNED (q : Nat) : Field := ⟨0x1A114 + 0x20 * (q % 16), 5, 1, .ro, 0, .cleared⟩
/-- R452: uplink: a packet is owned by a port ; downlink: a packet is open -/
abbrev SLQ_D_STAT_OPEN (q : Nat) : Field := ⟨0x1A314 + 0x20 * (q % 8), 5, 1, .ro, 0, .cleared⟩
/-- R452: 0 LRP, 1 PCIe: the port that owns or writes -/
abbrev SLQ_U_STAT_PORT (q : Nat) : Field := ⟨0x1A114 + 0x20 * (q % 16), 6, 1, .ro, 0, .cleared⟩
/-- R452: 0 LRP, 1 PCIe: the port that owns or writes -/
abbrev SLQ_D_STAT_PORT (q : Nat) : Field := ⟨0x1A314 + 0x20 * (q % 8), 6, 1, .ro, 0, .cleared⟩
/-- R452: eligible packets, saturating at 65,535 -/
abbrev SLQ_U_STAT_PACKETS (q : Nat) : Field := ⟨0x1A114 + 0x20 * (q % 16), 16, 16, .ro, 0, .cleared⟩
/-- R452: eligible packets, saturating at 65,535 -/
abbrev SLQ_D_STAT_PACKETS (q : Nat) : Field := ⟨0x1A314 + 0x20 * (q % 8), 16, 16, .ro, 0, .cleared⟩
/-- R452: packets lost (R437, R443, R444, R569); packets discarded by FLUSH do not count -/
abbrev SLQ_U_DROPS (q : Nat) : Field := ⟨0x1A118 + 0x20 * (q % 16), 0, 32, .ro, 0, .cleared⟩
/-- R452: packets lost (R437, R443, R444, R569); packets discarded by FLUSH do not count -/
abbrev SLQ_D_DROPS (q : Nat) : Field := ⟨0x1A318 + 0x20 * (q % 8), 0, 32, .ro, 0, .cleared⟩
/-- R452: bit q: uplink q gained an eligible packet (R437) -/
abbrev SLQ_NOTE_AVAIL (q : Nat) : Notice := ⟨0x1A, 0 + q⟩
/-- R452: R446 -/
abbrev SLQ_NOTE_WMARK : Notice := ⟨0x1A, 16⟩
/-- R452: R447 -/
abbrev SLQ_NOTE_TIMEOUT : Notice := ⟨0x1A, 17⟩
/-- R452: R444 -/
abbrev SLQ_NOTE_DROP : Notice := ⟨0x1A, 18⟩
/-- R452: R434, R440, R443, R451 -/
abbrev SLQ_NOTE_ERR : Notice := ⟨0x1A, 19⟩
/-- R452: R437, R441 -/
abbrev SLQ_NOTE_CORRUPT : Notice := ⟨0x1A, 20⟩

/-- The defined fields of the page beyond its header, for reading and writing whole words. -/
def fieldsSLQ : List Field :=
  [SLQ_CTRL_EN, SLQ_STATUS_FREE, SLQ_ERR_QUEUE, SLQ_ERR_REASON] ++
  (List.range 16).map SLQ_U_CFG_CELLS ++
  (List.range 8).map SLQ_D_CFG_CELLS ++
  (List.range 16).map SLQ_U_CFG_POLICY ++
  (List.range 8).map SLQ_D_CFG_POLICY ++
  (List.range 16).map SLQ_U_WM_WMARK ++
  (List.range 8).map SLQ_D_WM_WMARK ++
  (List.range 16).map SLQ_U_WM_TIMEOUT ++
  (List.range 8).map SLQ_D_WM_TIMEOUT ++
  (List.range 16).map SLQ_U_LEVEL_LEVEL ++
  (List.range 8).map SLQ_D_LEVEL_LEVEL ++
  (List.range 16).map SLQ_U_LEVEL_LEVEL_MAX ++
  (List.range 8).map SLQ_D_LEVEL_LEVEL_MAX ++
  (List.range 16).map SLQ_U_STAT_WM ++
  (List.range 8).map SLQ_D_STAT_WM ++
  (List.range 16).map SLQ_U_STAT_TO ++
  (List.range 8).map SLQ_D_STAT_TO ++
  (List.range 16).map SLQ_U_STAT_DROPPED ++
  (List.range 8).map SLQ_D_STAT_DROPPED ++
  (List.range 16).map SLQ_U_STAT_CORRUPT ++
  (List.range 8).map SLQ_D_STAT_CORRUPT ++
  (List.range 16).map SLQ_U_STAT_MARKED ++
  (List.range 16).map SLQ_U_STAT_OWNED ++
  (List.range 8).map SLQ_D_STAT_OPEN ++
  (List.range 16).map SLQ_U_STAT_PORT ++
  (List.range 8).map SLQ_D_STAT_PORT ++
  (List.range 16).map SLQ_U_STAT_PACKETS ++
  (List.range 8).map SLQ_D_STAT_PACKETS ++
  (List.range 16).map SLQ_U_DROPS ++
  (List.range 8).map SLQ_D_DROPS

/-- The defined notice bits of the page (every other bit of its NOTE_RAW is reserved, R8). -/
def noticesSLQ : Nat := 0x1FFFFF

/-! ### Page 0x1B, CLM (R477) -/

/-- R477: 1 runs CLM (R474) -/
abbrev CLM_CTRL_EN : Field := ⟨0x1B008, 0, 1, .rw, 0, .cleared⟩
/-- R477: 1 the module is one of a pair -/
abbrev CLM_CTRL_PAIRED : Field := ⟨0x1B008, 1, 1, .rw, 0, .cleared⟩
/-- R477: R473 -/
abbrev CLM_CTRL_PREFERRED : Field := ⟨0x1B008, 2, 1, .rw, 0, .cleared⟩
/-- R477: R473 -/
abbrev CLM_CTRL_SWAP_AUTO : Field := ⟨0x1B008, 3, 1, .rw, 1, .cleared⟩
/-- R477: R473 -/
abbrev CLM_CTRL_REVERT_EN : Field := ⟨0x1B008, 4, 1, .rw, 1, .cleared⟩
/-- R477: as SYS_MODE bits 5:4 -/
abbrev CLM_STATUS_ROLE : Field := ⟨0x1B00C, 0, 2, .ro, 0, .cleared⟩
/-- R477: R463 -/
abbrev CLM_STATUS_LINK_UP : Field := ⟨0x1B00C, 2, 1, .ro, 0, .cleared⟩
/-- R477: R457 -/
abbrev CLM_STATUS_IN_CONTROL : Field := ⟨0x1B00C, 3, 1, .ro, 0, .cleared⟩
/-- R477: bit k: CON_OUTk conducts -/
abbrev CLM_STATUS_CON_ON : Field := ⟨0x1B00C, 4, 4, .ro, 0, .cleared⟩
/-- R477: bit k: driver k latched off (R48) -/
abbrev CLM_STATUS_LATCH : Field := ⟨0x1B00C, 8, 4, .ro, 0, .cleared⟩
/-- R477: R465 -/
abbrev CLM_STATUS_WAITING : Field := ⟨0x1B00C, 12, 1, .ro, 0, .cleared⟩
/-- R477: R462 -/
abbrev CLM_STATUS_CFG_MISMATCH : Field := ⟨0x1B00C, 13, 1, .ro, 0, .cleared⟩
/-- R477: R466 -/
abbrev CLM_STATUS_LINK_FAULT : Field := ⟨0x1B00C, 14, 1, .ro, 0, .cleared⟩
/-- R477: own claim (R453) -/
abbrev CLM_CLAIM : Field := ⟨0x1B040, 0, 32, .ro, 0, .cleared⟩
/-- R477: R457 -/
abbrev CLM_PARTNER_CLAIM : Field := ⟨0x1B044, 0, 32, .ro, 0, .cleared⟩
/-- R477: serial from the last valid frame -/
abbrev CLM_PARTNER_SERIAL_LO : Field := ⟨0x1B048, 0, 32, .ro, 0, .cleared⟩
/-- R477: serial from the last valid frame -/
abbrev CLM_PARTNER_SERIAL_HI : Field := ⟨0x1B04C, 0, 32, .ro, 0, .cleared⟩
/-- R477: 1–255; 0 acts as 1 -/
abbrev CLM_CFG_RANK : Field := ⟨0x1B050, 0, 8, .rw, 1, .cleared⟩
/-- R477: ms, 2–100; values outside act as the nearer limit -/
abbrev CLM_CFG_HB_PERIOD : Field := ⟨0x1B050, 8, 8, .rw, 10, .cleared⟩
/-- R477: frames, 2–15; below 2 acts as 2 -/
abbrev CLM_CFG_HB_LOSS : Field := ⟨0x1B050, 16, 4, .rw, 5, .cleared⟩
/-- R477: turns, 1–15; 0 acts as 1 -/
abbrev CLM_CFG_QUERY_WAIT : Field := ⟨0x1B050, 20, 4, .rw, 3, .cleared⟩
/-- R477: s, 1–600; 0 acts as 1 -/
abbrev CLM_START_WAIT : Field := ⟨0x1B054, 0, 16, .rw, 10, .cleared⟩
/-- R477: s, 60–65,535; below 60 acts as 60 -/
abbrev CLM_REVERT_SETTLE : Field := ⟨0x1B058, 0, 16, .rw, 0x384, .cleared⟩
/-- R477: 1–28; 0 no periodic swap; above 28 acts as 28 -/
abbrev CLM_SWAP_DAYS : Field := ⟨0x1B05C, 0, 5, .rw, 7, .cleared⟩
/-- R477: 0 Monday to 6 Sunday; 7 acts as 6 -/
abbrev CLM_SWAP_WEEKDAY : Field := ⟨0x1B05C, 8, 3, .rw, 1, .cleared⟩
/-- R477: local hour, 0–23; above 23 acts as 23 -/
abbrev CLM_SWAP_HOUR : Field := ⟨0x1B05C, 16, 5, .rw, 3, .cleared⟩
/-- R477: 1 HANDOVER ; 2 TAKE ; 3 EPOCH_RESET ; 4 QUERY ; other values: no effect -/
abbrev CLM_CMD_OP : Field := ⟨0x1B060, 0, 3, .wo, 0, .cleared⟩
/-- R477: 0 done or started ; 1 role does not allow it ; 2 link lost ; 3 partner refused ; 4 blocked by a mode axis ; 5 -/
abbrev CLM_CMD_STAT_RESULT : Field := ⟨0x1B064, 0, 3, .ro, 0, .cleared⟩
/-- R477: sent in every frame (R462) -/
abbrev CLM_CFG_ID : Field := ⟨0x1B068, 0, 32, .rw, 0, .cleared⟩
/-- R477: from the last valid frame -/
abbrev CLM_PARTNER_CFG_ID : Field := ⟨0x1B06C, 0, 32, .ro, 0, .cleared⟩
/-- R477: stored epoch (R454) -/
abbrev CLM_EPOCH : Field := ⟨0x1B070, 0, 24, .ro, 0, .stored⟩
/-- R477: calendar time of the next swap, UTC seconds, bits 31:0; 0 none -/
abbrev CLM_NEXT_SWAP : Field := ⟨0x1B074, 0, 32, .ro, 0, .cleared⟩
/-- R477: D_last, local date of the last periodic swap (R473) -/
abbrev CLM_SWAP_LAST : Field := ⟨0x1B078, 0, 18, .ro, 0, .stored⟩
/-- R477: valid frames received -/
abbrev CLM_HB_RX : Field := ⟨0x1B080, 0, 32, .ro, 0, .cleared⟩
/-- R477: R462 -/
abbrev CLM_HB_BAD : Field := ⟨0x1B084, 0, 32, .ro, 0, .cleared⟩
/-- R477: R466, R467 -/
abbrev CLM_TAKEOVERS : Field := ⟨0x1B088, 0, 32, .ro, 0, .cleared⟩
/-- R477: R470 completed -/
abbrev CLM_HANDOVERS : Field := ⟨0x1B08C, 0, 32, .ro, 0, .cleared⟩
/-- R477: R463 -/
abbrev CLM_LINK_LOSSES : Field := ⟨0x1B090, 0, 32, .ro, 0, .cleared⟩
/-- R477: R467 -/
abbrev CLM_QUERIES : Field := ⟨0x1B094, 0, 32, .ro, 0, .cleared⟩
/-- R477: word offset in the CLM window -/
abbrev CLM_WIN_ADDR_OFFSET : Field := ⟨0x1B098, 2, 8, .rw, 0, .cleared⟩
/-- R477: a role change -/
abbrev CLM_NOTE_ROLE : Notice := ⟨0x1B, 0⟩
/-- R477: R463 -/
abbrev CLM_NOTE_LINK_LOST : Notice := ⟨0x1B, 1⟩
/-- R477: R463 -/
abbrev CLM_NOTE_LINK_UP : Notice := ⟨0x1B, 2⟩
/-- R477: R466 -/
abbrev CLM_NOTE_LINK_FAULT : Notice := ⟨0x1B, 3⟩
/-- R477: R467 -/
abbrev CLM_NOTE_BEACON_FAULT : Notice := ⟨0x1B, 4⟩
/-- R477: R468 -/
abbrev CLM_NOTE_SUPERSEDED : Notice := ⟨0x1B, 5⟩
/-- R477: R468 -/
abbrev CLM_NOTE_TIE : Notice := ⟨0x1B, 6⟩
/-- R477: R459 -/
abbrev CLM_NOTE_CON_LATCH : Notice := ⟨0x1B, 7⟩
/-- R477: R470 -/
abbrev CLM_NOTE_SWAP_DONE : Notice := ⟨0x1B, 8⟩
/-- R477: R471, R472, R473 -/
abbrev CLM_NOTE_SWAP_REFUSED : Notice := ⟨0x1B, 9⟩
/-- R477: R455, R462, R473 -/
abbrev CLM_NOTE_CFG_MISMATCH : Notice := ⟨0x1B, 10⟩
/-- R477: R456 -/
abbrev CLM_NOTE_EPOCH_LOW : Notice := ⟨0x1B, 11⟩
/-- R477: R468 -/
abbrev CLM_NOTE_DUAL_TX : Notice := ⟨0x1B, 12⟩

/-- The defined fields of the page beyond its header, for reading and writing whole words. -/
def fieldsCLM : List Field :=
  [CLM_CTRL_EN, CLM_CTRL_PAIRED, CLM_CTRL_PREFERRED, CLM_CTRL_SWAP_AUTO, CLM_CTRL_REVERT_EN, CLM_STATUS_ROLE, CLM_STATUS_LINK_UP, CLM_STATUS_IN_CONTROL, CLM_STATUS_CON_ON, CLM_STATUS_LATCH, CLM_STATUS_WAITING, CLM_STATUS_CFG_MISMATCH] ++
  [CLM_STATUS_LINK_FAULT, CLM_CLAIM, CLM_PARTNER_CLAIM, CLM_PARTNER_SERIAL_LO, CLM_PARTNER_SERIAL_HI, CLM_CFG_RANK, CLM_CFG_HB_PERIOD, CLM_CFG_HB_LOSS, CLM_CFG_QUERY_WAIT, CLM_START_WAIT, CLM_REVERT_SETTLE, CLM_SWAP_DAYS] ++
  [CLM_SWAP_WEEKDAY, CLM_SWAP_HOUR, CLM_CMD_OP, CLM_CMD_STAT_RESULT, CLM_CFG_ID, CLM_PARTNER_CFG_ID, CLM_EPOCH, CLM_NEXT_SWAP, CLM_SWAP_LAST, CLM_HB_RX, CLM_HB_BAD, CLM_TAKEOVERS] ++
  [CLM_HANDOVERS, CLM_LINK_LOSSES, CLM_QUERIES, CLM_WIN_ADDR_OFFSET]

/-- The defined notice bits of the page (every other bit of its NOTE_RAW is reserved, R8). -/
def noticesCLM : Nat := 0x1FFF

/-! ### Page 0x1C, HPN (R505) -/

/-- R505: 1 takes requests from D2 -/
abbrev HPN_CTRL_EN : Field := ⟨0x1C008, 0, 1, .rw, 0, .cleared⟩
/-- R505: 1 while KS and d are held -/
abbrev HPN_STATUS_READY : Field := ⟨0x1C00C, 0, 1, .ro, 0, .cleared⟩
/-- R505: 1 while a bundle is stored (R496) -/
abbrev HPN_STATUS_BUNDLE : Field := ⟨0x1C00C, 1, 1, .ro, 0, .cleared⟩
/-- R505: VALID slots, 0–64 -/
abbrev HPN_STATUS_VALID : Field := ⟨0x1C00C, 8, 7, .ro, 0, .cleared⟩
/-- R505: BAD slots, 0–64 -/
abbrev HPN_STATUS_BAD : Field := ⟨0x1C00C, 16, 7, .ro, 0, .cleared⟩
/-- R505: R479 -/
abbrev HPN_PUF_FLIPS : Field := ⟨0x1C040, 0, 16, .ro, 0, .cleared⟩
/-- R505: helper-data copy used -/
abbrev HPN_PUF_COPY : Field := ⟨0x1C040, 16, 1, .ro, 0, .cleared⟩
/-- R505: R493 -/
abbrev HPN_LC_NONCE_LO : Field := ⟨0x1C044, 0, 32, .ro, 0, .cleared⟩
/-- R505: bits 63:32 -/
abbrev HPN_LC_NONCE_HI : Field := ⟨0x1C048, 0, 32, .ro, 0, .cleared⟩
/-- R505: result code of R488 for the last LC_REQUEST -/
abbrev HPN_LC_STAT_RESULT : Field := ⟨0x1C04C, 0, 4, .ro, 0, .cleared⟩
/-- R505: change count -/
abbrev HPN_LC_COUNT : Field := ⟨0x1C050, 0, 32, .ro, 0, .stored⟩
/-- R505: slot of the last refusal -/
abbrev HPN_ERR_SLOT : Field := ⟨0x1C054, 0, 6, .ro, 0, .cleared⟩
/-- R505: as RESULT (R488) -/
abbrev HPN_ERR_REASON : Field := ⟨0x1C054, 8, 4, .ro, 0, .cleared⟩
/-- R505: requests done -/
abbrev HPN_OPS : Field := ⟨0x1C058, 0, 32, .ro, 0, .cleared⟩
/-- R505: R488 -/
abbrev HPN_REFUSED : Field := ⟨0x1C05C, 0, 32, .ro, 0, .cleared⟩
/-- R505: R492, R501 -/
abbrev HPN_ABORTED : Field := ⟨0x1C060, 0, 32, .ro, 0, .cleared⟩
/-- R505: R484 -/
abbrev HPN_BAD : Field := ⟨0x1C064, 0, 32, .ro, 0, .cleared⟩
/-- R505: word offset in the window -/
abbrev HPN_WIN_ADDR_OFFSET : Field := ⟨0x1C068, 2, 11, .rw, 0, .cleared⟩
/-- R505: R490 -/
abbrev HPN_NOTE_DONE : Notice := ⟨0x1C, 0⟩
/-- R505: R488 -/
abbrev HPN_NOTE_REFUSED : Notice := ⟨0x1C, 1⟩
/-- R505: R484 -/
abbrev HPN_NOTE_BAD_SLOT : Notice := ⟨0x1C, 2⟩
/-- R505: R491 -/
abbrev HPN_NOTE_ORPHAN : Notice := ⟨0x1C, 3⟩
/-- R505: R493 -/
abbrev HPN_NOTE_LC_RESULT : Notice := ⟨0x1C, 4⟩
/-- R505: R496 -/
abbrev HPN_NOTE_BUNDLE_ERR : Notice := ⟨0x1C, 5⟩
/-- R505: R501 -/
abbrev HPN_NOTE_ABORT : Notice := ⟨0x1C, 6⟩

/-- The defined fields of the page beyond its header, for reading and writing whole words. -/
def fieldsHPN : List Field :=
  [HPN_CTRL_EN, HPN_STATUS_READY, HPN_STATUS_BUNDLE, HPN_STATUS_VALID, HPN_STATUS_BAD, HPN_PUF_FLIPS, HPN_PUF_COPY, HPN_LC_NONCE_LO, HPN_LC_NONCE_HI, HPN_LC_STAT_RESULT, HPN_LC_COUNT, HPN_ERR_SLOT] ++
  [HPN_ERR_REASON, HPN_OPS, HPN_REFUSED, HPN_ABORTED, HPN_BAD, HPN_WIN_ADDR_OFFSET]

/-- The defined notice bits of the page (every other bit of its NOTE_RAW is reserved, R8). -/
def noticesHPN : Nat := 0x7F

/-! ### Page 0x1D, TPR (R506) -/

/-- R506: tamper state, coded as SYS_MODE bit 20 -/
abbrev TPR_STATUS_ALARM : Field := ⟨0x1D00C, 0, 1, .ro, 0, .cleared⟩
/-- R506: bit k: input k reads open or mismatched now -/
abbrev TPR_STATUS_IN : Field := ⟨0x1D00C, 4, 4, .ro, 0, .cleared⟩
/-- R506: bit 0 voltage, bit 1 temperature, bit 2 clock: tripped now -/
abbrev TPR_STATUS_MON : Field := ⟨0x1D00C, 8, 3, .ro, 0, .cleared⟩
/-- R506: bit k enables input k; bit 0 the mesh -/
abbrev TPR_IN_CFG_EN : Field := ⟨0x1D040, 0, 4, .rw, 0, .alwaysOn⟩
/-- R506: bit 4 + k: input k also empties every slot -/
abbrev TPR_IN_CFG_ERASE : Field := ⟨0x1D040, 4, 4, .rw, 0, .alwaysOn⟩
/-- R506: rounds, 1–7; 0 acts as 1 -/
abbrev TPR_IN_CFG_DEBOUNCE : Field := ⟨0x1D040, 8, 3, .rw, 2, .alwaysOn⟩
/-- R506: bit 0 voltage, bit 1 temperature, bit 2 clock -/
abbrev TPR_MON_CFG_EN : Field := ⟨0x1D044, 0, 3, .rw, 7, .alwaysOn⟩
/-- R506: the same monitors, also empty every slot -/
abbrev TPR_MON_CFG_ERASE : Field := ⟨0x1D044, 4, 3, .rw, 0, .alwaysOn⟩
/-- R506: inputs that caused events -/
abbrev TPR_LATCH_IN : Field := ⟨0x1D048, 0, 4, .w1c, 0, .alwaysOn⟩
/-- R506: monitors that caused events -/
abbrev TPR_LATCH_MON : Field := ⟨0x1D048, 4, 3, .w1c, 0, .alwaysOn⟩
/-- R506: R502 -/
abbrev TPR_LATCH_ERASE_PENDING : Field := ⟨0x1D048, 8, 1, .ro, 0, .alwaysOn⟩
/-- R506: calendar time of the first latched event, UTC seconds, bits 31:0 -/
abbrev TPR_LATCH_TIME_LO : Field := ⟨0x1D04C, 0, 32, .ro, 0, .alwaysOn⟩
/-- R506: bits 47:32; both words clear when TPR_LATCH becomes 0 -/
abbrev TPR_LATCH_TIME_HI : Field := ⟨0x1D050, 0, 16, .ro, 0, .alwaysOn⟩
/-- R506: tamper events, saturating at 0xFFFF_FFFF -/
abbrev TPR_EVENTS : Field := ⟨0x1D054, 0, 32, .ro, 0, .alwaysOn⟩
/-- R506: R501 -/
abbrev TPR_NOTE_ALARM : Notice := ⟨0x1D, 0⟩
/-- R506: R503 -/
abbrev TPR_NOTE_LATCHED : Notice := ⟨0x1D, 1⟩
/-- R506: R501, R502 -/
abbrev TPR_NOTE_ERASE_DONE : Notice := ⟨0x1D, 2⟩
/-- R506: R500 -/
abbrev TPR_NOTE_CFG_LOCKED : Notice := ⟨0x1D, 3⟩

/-- The defined fields of the page beyond its header, for reading and writing whole words. -/
def fieldsTPR : List Field :=
  [TPR_STATUS_ALARM, TPR_STATUS_IN, TPR_STATUS_MON, TPR_IN_CFG_EN, TPR_IN_CFG_ERASE, TPR_IN_CFG_DEBOUNCE, TPR_MON_CFG_EN, TPR_MON_CFG_ERASE, TPR_LATCH_IN, TPR_LATCH_MON, TPR_LATCH_ERASE_PENDING, TPR_LATCH_TIME_LO] ++
  [TPR_LATCH_TIME_HI, TPR_EVENTS]

/-- The defined notice bits of the page (every other bit of its NOTE_RAW is reserved, R8). -/
def noticesTPR : Nat := 0xF

/-! ### Page 0x1E, SLT (R517) -/

/-- R517: R514 -/
abbrev SLT_CTRL_COPY_EN : Field := ⟨0x1E008, 0, 1, .rw, 1, .cleared⟩
/-- R517: R511 -/
abbrev SLT_STATUS_FULL : Field := ⟨0x1E00C, 0, 1, .ro, 0, .stored⟩
/-- R517: 1 while the write guard refuses writes (R513) -/
abbrev SLT_STATUS_GUARD : Field := ⟨0x1E00C, 1, 1, .ro, 0, .alwaysOn⟩
/-- R517: events waiting, 0–64 -/
abbrev SLT_STATUS_INTAKE : Field := ⟨0x1E00C, 2, 7, .ro, 0, .cleared⟩
/-- R517: sequence word (R515); resumes at the next even value above the stored one at each start -/
abbrev SLT_CHANGE : Field := ⟨0x1E040, 0, 32, .ro, 0, .stored⟩
/-- R517: records in the log, 1–4,096 -/
abbrev SLT_COUNT : Field := ⟨0x1E044, 0, 13, .ro, 0, .stored⟩
/-- R517: R509, R511 -/
abbrev SLT_LOST : Field := ⟨0x1E048, 0, 32, .ro, 0, .stored⟩
/-- R517: R516 -/
abbrev SLT_CMD_CLEAR : Field := ⟨0x1E04C, 0, 1, .wo, 0, .cleared⟩
/-- R517: must be 0x51C7 -/
abbrev SLT_CMD_KEY : Field := ⟨0x1E04C, 16, 16, .wo, 0, .cleared⟩
/-- R517: calendar time of the latest repeat, UTC seconds, bits 31:0 -/
abbrev SLT_REPEAT_TIME_LO : Field := ⟨0x1E050, 0, 32, .ro, 0, .cleared⟩
/-- R517: bits 47:32 -/
abbrev SLT_REPEAT_TIME_HI_SECONDS : Field := ⟨0x1E054, 0, 16, .ro, 0, .cleared⟩
/-- R517: fraction -/
abbrev SLT_REPEAT_TIME_HI_FRACTION : Field := ⟨0x1E054, 16, 16, .ro, 0, .cleared⟩
/-- R517: word offset in the window -/
abbrev SLT_WIN_ADDR_OFFSET : Field := ⟨0x1E058, 2, 15, .rw, 0, .cleared⟩
/-- R517: a new record was written -/
abbrev SLT_NOTE_RECORD : Notice := ⟨0x1E, 0⟩
/-- R517: R511 -/
abbrev SLT_NOTE_FULL : Notice := ⟨0x1E, 1⟩
/-- R517: an event was not recorded (R509, R511, R513) -/
abbrev SLT_NOTE_LOST : Notice := ⟨0x1E, 2⟩
/-- R517: R516 -/
abbrev SLT_NOTE_CLEARED : Notice := ⟨0x1E, 3⟩

/-- The defined fields of the page beyond its header, for reading and writing whole words. -/
def fieldsSLT : List Field :=
  [SLT_CTRL_COPY_EN, SLT_STATUS_FULL, SLT_STATUS_GUARD, SLT_STATUS_INTAKE, SLT_CHANGE, SLT_COUNT, SLT_LOST, SLT_CMD_CLEAR, SLT_CMD_KEY, SLT_REPEAT_TIME_LO, SLT_REPEAT_TIME_HI_SECONDS, SLT_REPEAT_TIME_HI_FRACTION] ++
  [SLT_WIN_ADDR_OFFSET]

/-- The defined notice bits of the page (every other bit of its NOTE_RAW is reserved, R8). -/
def noticesSLT : Nat := 0xF

/-! ### Page 0x1F, SIV (R532) -/

/-- R532: R531 -/
abbrev SIV_CTRL_COPY_EN : Field := ⟨0x1F008, 0, 1, .rw, 1, .cleared⟩
/-- R532: R524 -/
abbrev SIV_STATUS_SUSPENDED : Field := ⟨0x1F00C, 0, 1, .ro, 0, .cleared⟩
/-- R532: a LOGIC slice runs -/
abbrev SIV_STATUS_LOGIC_ACTIVE : Field := ⟨0x1F00C, 1, 1, .ro, 0, .cleared⟩
/-- R532: MEM slices running, 0–2 -/
abbrev SIV_STATUS_MEM_ACTIVE : Field := ⟨0x1F00C, 2, 2, .ro, 0, .cleared⟩
/-- R532: 1 if the start-up pass passed -/
abbrev SIV_STATUS_STARTUP_OK : Field := ⟨0x1F00C, 4, 1, .ro, 0, .cleared⟩
/-- R532: regions marked FAILED -/
abbrev SIV_STATUS_FAILED : Field := ⟨0x1F00C, 8, 8, .ro, 0, .cleared⟩
/-- R532: 0 OFF ; 1 SLICED ; 2 FULL ; 3 no effect; each write is one request -/
abbrev SIV_MODE_REQ : Field := ⟨0x1F040, 0, 2, .rw, 0, .cleared⟩
/-- R532: ms, 10–60,000; values outside act as the nearer limit -/
abbrev SIV_PACE_GAP : Field := ⟨0x1F044, 0, 16, .rw, 0x3e8, .cleared⟩
/-- R532: s, 60–86,400; values outside act as the nearer limit -/
abbrev SIV_ROUND_LIMIT : Field := ⟨0x1F048, 0, 17, .rw, 0xe10, .cleared⟩
/-- R532: mW; below 250 acts as 250 -/
abbrev SIV_BUDGET_MW : Field := ⟨0x1F04C, 0, 12, .rw, 0x190, .cleared⟩
/-- R532: region shown in SIV_REG_CFG -/
abbrev SIV_REG_SEL_ID : Field := ⟨0x1F050, 0, 8, .rw, 0, .cleared⟩
/-- R532: 1 tests the region in service -/
abbrev SIV_REG_CFG_EN : Field := ⟨0x1F054, 0, 1, .rw, 1, .cleared⟩
/-- R532: R519 -/
abbrev SIV_REG_CFG_DESTRUCTIVE : Field := ⟨0x1F054, 1, 1, .rw, 0, .cleared⟩
/-- R532: 1 if the ID is a region -/
abbrev SIV_REG_CFG_EXISTS : Field := ⟨0x1F054, 2, 1, .ro, 0, .cleared⟩
/-- R532: 1 if listed in R518 -/
abbrev SIV_REG_CFG_IN_SERVICE : Field := ⟨0x1F054, 3, 1, .ro, 0, .cleared⟩
/-- R532: R526 -/
abbrev SIV_REG_CFG_FAILED : Field := ⟨0x1F054, 4, 1, .ro, 0, .cleared⟩
/-- R532: R523 -/
abbrev SIV_REG_CFG_SECRET : Field := ⟨0x1F054, 5, 1, .ro, 0, .cleared⟩
/-- R532: pieces tested in the current round -/
abbrev SIV_REG_CFG_TESTED : Field := ⟨0x1F054, 16, 10, .ro, 0, .cleared⟩
/-- R532: region -/
abbrev SIV_CMD_REGION : Field := ⟨0x1F058, 0, 8, .wo, 0, .cleared⟩
/-- R532: 1 RECOVER ; 2 CLEAR_FAILED ; other values: no effect -/
abbrev SIV_CMD_OP : Field := ⟨0x1F058, 8, 3, .wo, 0, .cleared⟩
/-- R532: 0 done or started ; 1 no such region ; 2 region SECRET ; 3 unit enabled ; 4 axis FULL ; 5 busy -/
abbrev SIV_CMD_STAT_RESULT : Field := ⟨0x1F05C, 0, 3, .ro, 0, .cleared⟩
/-- R532: slices completed -/
abbrev SIV_SLICES : Field := ⟨0x1F060, 0, 32, .ro, 0, .cleared⟩
/-- R532: R525 -/
abbrev SIV_ABANDONED : Field := ⟨0x1F064, 0, 32, .ro, 0, .cleared⟩
/-- R532: round number -/
abbrev SIV_R_ROUND : Field := ⟨0x1F100, 0, 32, .ro, 0, .cleared⟩
/-- R532: calendar time of the first slice, UTC seconds, bits 31:0 -/
abbrev SIV_R_START_LO : Field := ⟨0x1F104, 0, 32, .ro, 0, .cleared⟩
/-- R532: bits 47:32 -/
abbrev SIV_R_START_HI : Field := ⟨0x1F108, 0, 16, .ro, 0, .cleared⟩
/-- R532: R527 -/
abbrev SIV_R_PIECES_TESTED : Field := ⟨0x1F10C, 0, 16, .ro, 0, .cleared⟩
/-- R532: R527 -/
abbrev SIV_R_PIECES_TOTAL : Field := ⟨0x1F10C, 16, 16, .ro, 0, .cleared⟩
/-- R532: s -/
abbrev SIV_R_DUR : Field := ⟨0x1F110, 0, 32, .ro, 0, .cleared⟩
/-- R532: 0.01 %; the last word of block 0 -/
abbrev SIV_R_END_COVERAGE : Field := ⟨0x1F114, 0, 14, .ro, 0, .cleared⟩
/-- R532: regions FAILED in the round -/
abbrev SIV_R_END_FAILED : Field := ⟨0x1F114, 16, 8, .ro, 0, .cleared⟩
/-- R532: the round ended at LIMIT -/
abbrev SIV_R_END_LIMIT : Field := ⟨0x1F114, 24, 1, .ro, 0, .cleared⟩
/-- R532: SEQ word of block 1 -/
abbrev SIV_F_SEQ : Field := ⟨0x1F120, 8, 24, .ro, 0, .warm⟩
/-- R532: region -/
abbrev SIV_F_WHERE_REGION : Field := ⟨0x1F124, 0, 8, .ro, 0, .warm⟩
/-- R532: piece -/
abbrev SIV_F_WHERE_PIECE : Field := ⟨0x1F124, 8, 10, .ro, 0, .warm⟩
/-- R532: 0 start-up ; 1 in service ; 2 FULL ; 3 recovery -/
abbrev SIV_F_WHERE_SOURCE : Field := ⟨0x1F124, 24, 3, .ro, 0, .warm⟩
/-- R532: word address in the region, or chain and flop (R530) -/
abbrev SIV_F_ADDR : Field := ⟨0x1F128, 0, 32, .ro, 0, .warm⟩
/-- R532: bit 0–71; 64–71 are check bits -/
abbrev SIV_F_BIT_BIT : Field := ⟨0x1F12C, 0, 8, .ro, 0, .warm⟩
/-- R532: value written -/
abbrev SIV_F_BIT_EXPECTED : Field := ⟨0x1F12C, 8, 1, .ro, 0, .warm⟩
/-- R532: value read -/
abbrev SIV_F_BIT_READ : Field := ⟨0x1F12C, 9, 1, .ro, 0, .warm⟩
/-- R532: March element or pattern batch -/
abbrev SIV_F_BIT_STEP : Field := ⟨0x1F12C, 16, 8, .ro, 0, .warm⟩
/-- R532: failures in the test, saturating; the last word of block 1 -/
abbrev SIV_F_END_FAILS : Field := ⟨0x1F130, 0, 16, .ro, 0, .warm⟩
/-- R532: R527 -/
abbrev SIV_NOTE_ROUND : Notice := ⟨0x1F, 0⟩
/-- R532: R526 -/
abbrev SIV_NOTE_FAIL : Notice := ⟨0x1F, 1⟩
/-- R532: R525 -/
abbrev SIV_NOTE_ABANDON : Notice := ⟨0x1F, 2⟩
/-- R532: R527 -/
abbrev SIV_NOTE_ROUND_LIMIT : Notice := ⟨0x1F, 3⟩
/-- R532: R528 -/
abbrev SIV_NOTE_FULL_DONE : Notice := ⟨0x1F, 4⟩
/-- R532: R529 -/
abbrev SIV_NOTE_RECOVER_DONE : Notice := ⟨0x1F, 5⟩

/-- The defined fields of the page beyond its header, for reading and writing whole words. -/
def fieldsSIV : List Field :=
  [SIV_CTRL_COPY_EN, SIV_STATUS_SUSPENDED, SIV_STATUS_LOGIC_ACTIVE, SIV_STATUS_MEM_ACTIVE, SIV_STATUS_STARTUP_OK, SIV_STATUS_FAILED, SIV_MODE_REQ, SIV_PACE_GAP, SIV_ROUND_LIMIT, SIV_BUDGET_MW, SIV_REG_SEL_ID, SIV_REG_CFG_EN] ++
  [SIV_REG_CFG_DESTRUCTIVE, SIV_REG_CFG_EXISTS, SIV_REG_CFG_IN_SERVICE, SIV_REG_CFG_FAILED, SIV_REG_CFG_SECRET, SIV_REG_CFG_TESTED, SIV_CMD_REGION, SIV_CMD_OP, SIV_CMD_STAT_RESULT, SIV_SLICES, SIV_ABANDONED, SIV_R_ROUND] ++
  [SIV_R_START_LO, SIV_R_START_HI, SIV_R_PIECES_TESTED, SIV_R_PIECES_TOTAL, SIV_R_DUR, SIV_R_END_COVERAGE, SIV_R_END_FAILED, SIV_R_END_LIMIT, SIV_F_SEQ, SIV_F_WHERE_REGION, SIV_F_WHERE_PIECE, SIV_F_WHERE_SOURCE] ++
  [SIV_F_ADDR, SIV_F_BIT_BIT, SIV_F_BIT_EXPECTED, SIV_F_BIT_READ, SIV_F_BIT_STEP, SIV_F_END_FAILS]

/-- The defined notice bits of the page (every other bit of its NOTE_RAW is reserved, R8). -/
def noticesSIV : Nat := 0x3F

/-! ### Page 0x20, GRG (R553) -/

/-- R553: 1 takes containers from D1 -/
abbrev GRG_CTRL_EN : Field := ⟨0x20008, 0, 1, .rw, 0, .cleared⟩
/-- R553: R546 -/
abbrev GRG_STATUS_AUTO_CONFIRM : Field := ⟨0x2000C, 0, 1, .ro, 0, .cleared⟩
/-- R553: a campaign runs -/
abbrev GRG_STATUS_CAMPAIGN : Field := ⟨0x2000C, 1, 1, .ro, 0, .cleared⟩
/-- R553: TARGET of the staging -/
abbrev GRG_STAGE_STAT_TARGET : Field := ⟨0x20040, 0, 8, .ro, 0, .cleared⟩
/-- R553: 0 none ; 1 RECEIVING ; 2 VERIFIED ; 3 FAILED ; 4 PAUSED -/
abbrev GRG_STAGE_STAT_STATE : Field := ⟨0x20040, 8, 3, .ro, 0, .stored⟩
/-- R553: cause, 0–10 (R537, R539, R540) -/
abbrev GRG_STAGE_STAT_RESULT : Field := ⟨0x20040, 12, 4, .ro, 0, .cleared⟩
/-- R553: blocks received -/
abbrev GRG_STAGE_CNT_DONE : Field := ⟨0x20044, 0, 13, .ro, 0, .stored⟩
/-- R553: BLOCKS -/
abbrev GRG_STAGE_CNT_TOTAL : Field := ⟨0x20044, 16, 13, .ro, 0, .stored⟩
/-- R553: 1 ACTIVATE ; 2 CONFIRM ; 3 ROLLBACK ; 4 CAMPAIGN ; 5 NODE_ACTIVATE ; 6 STOP campaign ; other values: no effect -/
abbrev GRG_CMD_OP : Field := ⟨0x20048, 0, 3, .wo, 0, .cleared⟩
/-- R553: 0 SUP, 1 RSQ, 2 PRP -/
abbrev GRG_CMD_PROC : Field := ⟨0x20048, 8, 2, .wo, 0, .cleared⟩
/-- R553: 0 done or started ; 1 no VERIFIED image ; 2 compatibility ; 3 no trial, or fallback begun ; 4 a trial runs ; 5 -/
abbrev GRG_CMD_STAT_RESULT : Field := ⟨0x2004C, 0, 3, .ro, 0, .cleared⟩
/-- R553: active bank of SUP, RSQ, PRP -/
abbrev GRG_BANK_ACTIVE (i : Nat) : Field := ⟨0x20050 + 0x4 * (i % 3), 0, 1, .ro, 0, .stored⟩
/-- R553: R542 -/
abbrev GRG_BANK_TRIAL (i : Nat) : Field := ⟨0x20050 + 0x4 * (i % 3), 1, 1, .ro, 0, .stored⟩
/-- R553: s until fallback -/
abbrev GRG_TRIAL_LEFT : Field := ⟨0x2005C, 0, 8, .ro, 0, .cleared⟩
/-- R553: versions in the two SUP banks; 0 invalid -/
abbrev GRG_VER_SUP0 : Field := ⟨0x20060, 0, 32, .ro, 0, .stored⟩
/-- R553: versions in the two SUP banks; 0 invalid -/
abbrev GRG_VER_SUP1 : Field := ⟨0x20064, 0, 32, .ro, 0, .stored⟩
/-- R553: the same for RSQ -/
abbrev GRG_VER_RSQ0 : Field := ⟨0x20068, 0, 32, .ro, 0, .stored⟩
/-- R553: the same for RSQ -/
abbrev GRG_VER_RSQ1 : Field := ⟨0x2006C, 0, 32, .ro, 0, .stored⟩
/-- R553: the same for PRP -/
abbrev GRG_VER_PRP0 : Field := ⟨0x20070, 0, 32, .ro, 0, .stored⟩
/-- R553: the same for PRP -/
abbrev GRG_VER_PRP1 : Field := ⟨0x20074, 0, 32, .ro, 0, .stored⟩
/-- R553: R537, R544 -/
abbrev GRG_SEC_EPOCH : Field := ⟨0x20078, 0, 8, .ro, 0, .stored⟩
/-- R553: R535 -/
abbrev GRG_CFG_VERIFY_SLOT : Field := ⟨0x2007C, 0, 6, .rw, 4, .cleared⟩
/-- R553: s; 0 never -/
abbrev GRG_CFG_IDLE_LIMIT : Field := ⟨0x2007C, 16, 16, .rw, 0xe10, .cleared⟩
/-- R553: R548 -/
abbrev GRG_NODE_TYPE : Field := ⟨0x20080, 0, 4, .rw, 0, .cleared⟩
/-- R553: octets, 64–1,024, a multiple of 16 -/
abbrev GRG_NODE_BLOCK_SIZE : Field := ⟨0x20080, 4, 12, .rw, 64, .cleared⟩
/-- R553: 1–15; 0 acts as 1 -/
abbrev GRG_NODE_ROUNDS : Field := ⟨0x20080, 16, 4, .rw, 4, .cleared⟩
/-- R553: 1–15; 0 acts as 1 -/
abbrev GRG_NODE_INFLIGHT : Field := ⟨0x20080, 20, 4, .rw, 4, .cleared⟩
/-- R553: 1–15; 0 acts as 1 -/
abbrev GRG_NODE_OFFER_REPEAT : Field := ⟨0x20080, 24, 4, .rw, 3, .cleared⟩
/-- R553: s -/
abbrev GRG_NODE_T_OFFER_GAP : Field := ⟨0x20084, 0, 8, .rw, 2, .cleared⟩
/-- R553: s, 10–255 -/
abbrev GRG_NODE_T_QUERY_WAIT : Field := ⟨0x20084, 8, 8, .rw, 30, .cleared⟩
/-- R553: R550 -/
abbrev GRG_NODE_ACT_SLOTS : Field := ⟨0x20088, 0, 24, .rw, 0x1770, .cleared⟩
/-- R553: current round -/
abbrev GRG_NODE_STAT_ROUND : Field := ⟨0x2008C, 0, 4, .ro, 0, .cleared⟩
/-- R553: targets -/
abbrev GRG_NODE_STAT_TARGETS : Field := ⟨0x2008C, 16, 13, .ro, 0, .cleared⟩
/-- R553: complete -/
abbrev GRG_NODE_DONE_COMPLETE : Field := ⟨0x20090, 0, 13, .ro, 0, .cleared⟩
/-- R553: FAILED -/
abbrev GRG_NODE_DONE_FAILED : Field := ⟨0x20090, 16, 13, .ro, 0, .cleared⟩
/-- R553: R538 -/
abbrev GRG_BLOCK_BAD : Field := ⟨0x20094, 0, 32, .ro, 0, .cleared⟩
/-- R553: IMAGE_BLOCK messages handed to the MAC -/
abbrev GRG_NODE_BLOCKS : Field := ⟨0x20098, 0, 32, .ro, 0, .cleared⟩
/-- R553: R549 -/
abbrev GRG_NODE_DROP : Field := ⟨0x2009C, 0, 32, .ro, 0, .cleared⟩
/-- R553: word offset in the window -/
abbrev GRG_WIN_ADDR_OFFSET : Field := ⟨0x200A0, 2, 13, .rw, 0, .cleared⟩
/-- R553: R539 -/
abbrev GRG_NOTE_VERIFIED : Notice := ⟨0x20, 0⟩
/-- R553: R537, R539, R540 -/
abbrev GRG_NOTE_STAGE_FAIL : Notice := ⟨0x20, 1⟩
/-- R553: R544 -/
abbrev GRG_NOTE_CONFIRMED : Notice := ⟨0x20, 2⟩
/-- R553: R549 -/
abbrev GRG_NOTE_CAMPAIGN_END : Notice := ⟨0x20, 3⟩

/-- The defined fields of the page beyond its header, for reading and writing whole words. -/
def fieldsGRG : List Field :=
  [GRG_CTRL_EN, GRG_STATUS_AUTO_CONFIRM, GRG_STATUS_CAMPAIGN, GRG_STAGE_STAT_TARGET, GRG_STAGE_STAT_STATE, GRG_STAGE_STAT_RESULT, GRG_STAGE_CNT_DONE, GRG_STAGE_CNT_TOTAL, GRG_CMD_OP, GRG_CMD_PROC, GRG_CMD_STAT_RESULT, GRG_TRIAL_LEFT] ++
  [GRG_VER_SUP0, GRG_VER_SUP1, GRG_VER_RSQ0, GRG_VER_RSQ1, GRG_VER_PRP0, GRG_VER_PRP1, GRG_SEC_EPOCH, GRG_CFG_VERIFY_SLOT, GRG_CFG_IDLE_LIMIT, GRG_NODE_TYPE, GRG_NODE_BLOCK_SIZE, GRG_NODE_ROUNDS] ++
  [GRG_NODE_INFLIGHT, GRG_NODE_OFFER_REPEAT, GRG_NODE_T_OFFER_GAP, GRG_NODE_T_QUERY_WAIT, GRG_NODE_ACT_SLOTS, GRG_NODE_STAT_ROUND, GRG_NODE_STAT_TARGETS, GRG_NODE_DONE_COMPLETE, GRG_NODE_DONE_FAILED, GRG_BLOCK_BAD, GRG_NODE_BLOCKS, GRG_NODE_DROP] ++
  [GRG_WIN_ADDR_OFFSET] ++
  (List.range 3).map GRG_BANK_ACTIVE ++
  (List.range 3).map GRG_BANK_TRIAL

/-- The defined notice bits of the page (every other bit of its NOTE_RAW is reserved, R8). -/
def noticesGRG : Nat := 0xF

/-! ### Page 0x21, MRL (R565) -/

/-- R565: R557; stored -/
abbrev MRL_CTRL_AUTO_SAVE : Field := ⟨0x21008, 0, 1, .rw, 0, .cleared⟩
/-- R565: a save runs -/
abbrev MRL_STATUS_BUSY : Field := ⟨0x2100C, 0, 1, .ro, 0, .cleared⟩
/-- R565: R558 -/
abbrev MRL_STATUS_PENDING : Field := ⟨0x2100C, 1, 1, .ro, 0, .cleared⟩
/-- R565: R559 -/
abbrev MRL_STATUS_EMPTY : Field := ⟨0x2100C, 2, 1, .ro, 0, .cleared⟩
/-- R565: bank valid -/
abbrev MRL_STATUS_VALID0 : Field := ⟨0x2100C, 3, 1, .ro, 0, .cleared⟩
/-- R565: bank valid -/
abbrev MRL_STATUS_VALID1 : Field := ⟨0x2100C, 4, 1, .ro, 0, .cleared⟩
/-- R565: newest valid bank -/
abbrev MRL_STATUS_NEWEST : Field := ⟨0x2100C, 5, 1, .ro, 0, .cleared⟩
/-- R565: 1 SAVE ; 2 CLEAR ; other values: no effect -/
abbrev MRL_CMD_OP : Field := ⟨0x21040, 0, 2, .wo, 0, .cleared⟩
/-- R565: must be 0x4D52 for CLEAR -/
abbrev MRL_CMD_KEY : Field := ⟨0x21040, 16, 16, .wo, 0, .cleared⟩
/-- R565: 0 done or started ; 1 life cycle refuses ; 2 waiting for PWR_GOOD ; 3 too large ; 4 wrong KEY ; 5 write failed -/
abbrev MRL_CMD_STAT_RESULT : Field := ⟨0x21044, 0, 3, .ro, 0, .cleared⟩
/-- R565: SEQ of each bank; 0 when invalid -/
abbrev MRL_SEQ0 : Field := ⟨0x21048, 0, 32, .ro, 0, .cleared⟩
/-- R565: SEQ of each bank; 0 when invalid -/
abbrev MRL_SEQ1 : Field := ⟨0x2104C, 0, 32, .ro, 0, .cleared⟩
/-- R565: LEN of the newest bank -/
abbrev MRL_USED : Field := ⟨0x21050, 0, 23, .ro, 0, .cleared⟩
/-- R565: s; 0 acts as 1; stored -/
abbrev MRL_AUTO_DELAY : Field := ⟨0x21054, 0, 16, .rw, 10, .cleared⟩
/-- R565: EPOCH of the newest bank -/
abbrev MRL_SNAP_EPOCH_LO : Field := ⟨0x21058, 0, 32, .ro, 0, .cleared⟩
/-- R565: EPOCH of the newest bank -/
abbrev MRL_SNAP_EPOCH_HI : Field := ⟨0x2105C, 0, 32, .ro, 0, .cleared⟩
/-- R565: saves completed -/
abbrev MRL_SAVES : Field := ⟨0x21060, 0, 32, .ro, 0, .cleared⟩
/-- R565: R559 -/
abbrev MRL_SKIPPED : Field := ⟨0x21064, 0, 32, .ro, 0, .cleared⟩
/-- R565: R557 -/
abbrev MRL_NOTE_SAVED : Notice := ⟨0x21, 0⟩
/-- R565: R558 -/
abbrev MRL_NOTE_SAVE_FAIL : Notice := ⟨0x21, 1⟩
/-- R565: R559 -/
abbrev MRL_NOTE_BANK_BAD : Notice := ⟨0x21, 2⟩

/-- The defined fields of the page beyond its header, for reading and writing whole words. -/
def fieldsMRL : List Field :=
  [MRL_CTRL_AUTO_SAVE, MRL_STATUS_BUSY, MRL_STATUS_PENDING, MRL_STATUS_EMPTY, MRL_STATUS_VALID0, MRL_STATUS_VALID1, MRL_STATUS_NEWEST, MRL_CMD_OP, MRL_CMD_KEY, MRL_CMD_STAT_RESULT, MRL_SEQ0, MRL_SEQ1] ++
  [MRL_USED, MRL_AUTO_DELAY, MRL_SNAP_EPOCH_LO, MRL_SNAP_EPOCH_HI, MRL_SAVES, MRL_SKIPPED]

/-- The defined notice bits of the page (every other bit of its NOTE_RAW is reserved, R8). -/
def noticesMRL : Nat := 0x7

/-! ### Page 0x22, ITG (R566) -/

/-- R566: 1 runs the scrubber -/
abbrev ITG_CTRL_SCRUB_EN : Field := ⟨0x22008, 0, 1, .rw, 1, .cleared⟩
/-- R566: bit m: a pass of class m runs -/
abbrev ITG_STATUS_SCRUBBING : Field := ⟨0x2200C, 0, 4, .ro, 0, .cleared⟩
/-- R566: s per pass; 0 acts as 1 -/
abbrev ITG_SCRUB_PERIOD (i : Nat) : Field := ⟨0x22040 + 0x4 * (i % 4), 0, 32, .rw, itgScrubReset (i % 4), .cleared⟩
/-- R566: corrected errors per class -/
abbrev ITG_CORR (i : Nat) : Field := ⟨0x22050 + 0x4 * (i % 4), 0, 32, .ro, 0, .cleared⟩
/-- R566: uncorrectable errors per class -/
abbrev ITG_UNCORR (i : Nat) : Field := ⟨0x22060 + 0x4 * (i % 4), 0, 32, .ro, 0, .cleared⟩
/-- R566: R563 -/
abbrev ITG_CARRY_FAIL : Field := ⟨0x22070, 0, 32, .ro, 0, .cleared⟩
/-- R566: R561 -/
abbrev ITG_HOT : Field := ⟨0x22074, 0, 32, .ro, 0, .cleared⟩
/-- R566: memory class -/
abbrev ITG_E_WHERE_MEM : Field := ⟨0x22100, 0, 2, .ro, 0, .cleared⟩
/-- R566: page of the owning unit -/
abbrev ITG_E_WHERE_PAGE : Field := ⟨0x22100, 8, 8, .ro, 0, .cleared⟩
/-- R566: byte address of the codeword in its memory -/
abbrev ITG_E_ADDR_LO : Field := ⟨0x22104, 0, 32, .ro, 0, .cleared⟩
/-- R566: byte address of the codeword in its memory -/
abbrev ITG_E_ADDR_HI : Field := ⟨0x22108, 0, 32, .ro, 0, .cleared⟩
/-- R566: module time of the error, ns, bits 31:0 -/
abbrev ITG_E_TIME_LO : Field := ⟨0x2210C, 0, 32, .ro, 0, .cleared⟩
/-- R566: bits 5:0 lowest symbol found in error; the last word of block 0 -/
abbrev ITG_E_END_SYMBOLS : Field := ⟨0x22110, 0, 6, .ro, 0, .cleared⟩
/-- R566: 1 found by the scrubber, 0 by a reader -/
abbrev ITG_E_END_SCRUB : Field := ⟨0x22110, 8, 1, .ro, 0, .cleared⟩
/-- R566: R561 -/
abbrev ITG_NOTE_UNCORR : Notice := ⟨0x22, 0⟩
/-- R566: R561 -/
abbrev ITG_NOTE_HOT : Notice := ⟨0x22, 1⟩
/-- R566: R563 -/
abbrev ITG_NOTE_CARRY : Notice := ⟨0x22, 2⟩
/-- R566: R562 -/
abbrev ITG_NOTE_SCRUB_DONE : Notice := ⟨0x22, 3⟩

/-- The defined fields of the page beyond its header, for reading and writing whole words. -/
def fieldsITG : List Field :=
  [ITG_CTRL_SCRUB_EN, ITG_STATUS_SCRUBBING, ITG_CARRY_FAIL, ITG_HOT, ITG_E_WHERE_MEM, ITG_E_WHERE_PAGE, ITG_E_ADDR_LO, ITG_E_ADDR_HI, ITG_E_TIME_LO, ITG_E_END_SYMBOLS, ITG_E_END_SCRUB] ++
  (List.range 4).map ITG_SCRUB_PERIOD ++
  (List.range 4).map ITG_CORR ++
  (List.range 4).map ITG_UNCORR

/-- The defined notice bits of the page (every other bit of its NOTE_RAW is reserved, R8). -/
def noticesITG : Nat := 0xF

end Sys2Proof.Machine
end

