-- ==== Sys2Proof/Machine/Units.lean ====
section
/-! DEFINITION. The parts of the state that are not register fields: modes, port paths, queues, logs and the working
state of each unit. -/

namespace Sys2Proof.Machine

/-! ### Modes (R30) -/

inductive Power where
  | run | quiet | doze | hold
deriving DecidableEq, Repr

inductive Role where
  | solo | primary | standby | swapping
deriving DecidableEq, Repr

inductive Life where
  | blank | provisioned | deployed | returned | scrapped
deriving DecidableEq, Repr

inductive SieveMode where
  | off | sliced | full
deriving DecidableEq, Repr

inductive GrogMode where
  | idle | staging | activating
deriving DecidableEq, Repr

inductive Tamper where
  | clear | alarm
deriving DecidableEq, Repr

inductive TimeMode where
  | locked | holdover | free
deriving DecidableEq, Repr

/-- The seven axes. -/
structure Modes where
  power : Power
  role : Role
  life : Life
  sieve : SieveMode
  grog : GrogMode
  tamper : Tamper
  time : TimeMode
deriving DecidableEq, Repr

/-- A value asked for on one axis. -/
inductive ModeValue where
  | tamper (v : Tamper)
  | life (v : Life)
  | power (v : Power)
  | role (v : Role)
  | grog (v : GrogMode)
  | sieve (v : SieveMode)
  | time (v : TimeMode)
deriving DecidableEq, Repr

/-- A request for a value of an axis, as it waits for the decision step (R34, R35): for the pairing role with the CAUSE of
R475 and its origin (0 plain, 1 a handover that this module gives, 2 a periodic swap, 3 a handover that the partner asked for,
4 a handover that this module takes, 5 the outcome of a start's wait, 6 a handover that an activation asks for); for the life cycle with the TAG and SLOT of the LC_REQUEST in `origin`. -/
structure ModeReq where
  value : ModeValue
  cause : Nat
  origin : Nat
deriving DecidableEq, Repr

/-! ### Pairing -/

/-- An ordered handover in progress (R470): whether this module gives, the role it held before, whether it is the periodic
swap, whether its SWAP_REQ (giving) or SWAP_ACK (taking) has been sent, and whether an activation of Grog waits for it (R472). -/
structure Handover where
  giving : Bool
  before : Role
  periodic : Bool
  sent : Bool
  grog : Bool
deriving DecidableEq, Repr

/-- CLM's working state: SEQ of the next frame; the frames that wait for the module's turns, TYPE and ARG (R460); OWN as the
comparator holds it and its last output (R457, R458); the last valid frame; whether a mismatch has been reported; the frames
with claim 0 in a row (R466); whether the beacons of the last three ADVERTISING cells were skipped (R461); whether R466 calls for a
QUERY, the module time of the last one that it called for, and whether an ANSWER is awaited (R467); whether CLM_START.WAIT has passed
without a beacon and whether a beacon was heard, of a start's wait (R465); the handover, and whether the last one that an activation
asked for ended without success (R472); the module time since which the conditions of a revert hold (R473); the date from which the next
periodic swap is computed and whether the module has been PRIMARY with DAYS not 0 (R473); the hours that the quiet table holds and the
dispatch count at the last hour (R476). -/
structure ClmUnit where
  seq : Nat
  out : List (Nat × Nat)
  own : Nat
  enabled : Bool
  partner : Option Bidues
  mismatch : Bool
  zeros : Nat
  skips : List Bool
  wants : Bool
  asked : Option Nat
  querying : Bool
  waited : Bool
  heardBeacon : Bool
  swap : Option Handover
  barred : Bool
  settle : Option Nat
  swapFrom : Option Int
  everPrimary : Bool
  hours : Nat
  mark : Nat
deriving DecidableEq, Repr

/-! ### Hardpan and tamper -/

/-- A key slot that is not EMPTY (R482): STATE, CLASS, PARENT, USES, GEN, LABEL, LC_COUNT, SEALED_AT, the seal counter of its
nonce, the octets of its BODY, and its TAG; no port can reach the last three. -/
structure KeySlot where
  state : Nat
  cls : Nat
  parent : Nat
  uses : Nat
  gen : Nat
  label : Nat
  lcCount : Nat
  sealedAt : Nat
  nonce : Nat
  body : List Nat
  tag : List Nat
deriving DecidableEq, Repr

/-- What the key island holds (R481): the octets of the sealing key KS, the transport private key *d*, and the unsealed key of each slot
as a number whose octet i is the key's. -/
structure KeyIsland where
  ks : List Nat
  d : Nat
  keys : List (Nat × Nat)
deriving DecidableEq, Repr

/-- The helper data in MRAM (R478): its two copies, and the check value of the root. -/
structure HelperData where
  copies : List Nat
  check : List Nat
deriving DecidableEq, Repr

/-- Hardpan: the slots (R482), the seal counter (R483), the helper data once it has been written (R478), the key island, empty until the
secrets are derived and after it is zeroised (R481), the octets of the transport public key once it is published (R480), the owner anchor
(R494), the stored deployment bundle's octets (R496), and the payload of the life-cycle request at the decision step (R493). -/
structure HpnUnit where
  slots : List (Nat × KeySlot)
  sealCount : Nat
  helper : Option HelperData
  island : Option KeyIsland
  xport : List Nat
  anchor : Option Nat
  bundle : List Nat
  payload : List Nat
deriving DecidableEq, Repr

/-- The tamper unit: the consecutive open rounds of each input (R497). -/
structure TprUnit where
  counts : List Nat
deriving DecidableEq, Repr

/-! ### Start-up (R102 to R121) -/

/-- How the machine stands with respect to a start: the phases A to D of R110, and what comes before them. -/
inductive Phase where
  /-- no supply, or HOLD forgotten (R46) -/
  | unpowered
  /-- HOLD (R43, R60) -/
  | hold
  /-- from a reset until RST_N is released at t3 -/
  | inReset
  | phaseA
  | phaseB
  | phaseC
  /-- phase D: SYS_STATUS.READY is 1 -/
  | ready
  /-- a halted start (R120); the flag says whether SUP has started -/
  | halted (sup : Bool)
  /-- a FULL test has ended: its units hold their reset contents until a warm reset (R528). The flags say whether phase C and
  phase D had begun -/
  | tested (c d : Bool)
deriving DecidableEq, Repr

inductive StartKind where
  | cold | holdWake | warm
deriving DecidableEq, Repr

/-- One of the fourteen clock domains' condition (R28). -/
inductive DomainState where
  | stopped | gated | running
deriving DecidableEq, Repr

/-- One copy of the life-cycle word in MRAM: the state, the change count and whether its check holds (R122). -/
structure LifeCopy where
  life : Life
  count : Nat
  ok : Bool
deriving DecidableEq, Repr

/-- What a start and the supply leave standing outside the register fields: the phase, the last line reached and the kind of the
start; the consecutive starts with cause 5 (R121); VIN and PWR_GOOD; whether the carrier holds RST_N low (R53), and whether the LRP
has had its 16 cycles since the reset (R110); the stop of R31 from a granted ACTIVATING to t11;
whether HOLD was entered by request, and the copy of SYS_SCRATCH (R104); a SYS_POWER write held until t5 (R111); the wake
source that ends HOLD; the two copies of the life-cycle word; and whether the start found the state SCRAPPED (R123). -/
structure Startup where
  phase : Phase
  line : Nat
  kind : StartKind
  watchdogRuns : Nat
  vin : Bool
  pwrGood : Bool
  carrierRst : Bool
  lrpReady : Bool
  activationHold : Bool
  holdByRequest : Bool
  scratchCopy : Nat
  heldPower : Option Nat
  wake : Option Nat
  lifeCopies : List LifeCopy
  scrapped : Bool
deriving DecidableEq, Repr

/-! ### Host ports -/

/-- A write taken by a port: its space, its byte address, its value and its byte enables. -/
structure PortWrite where
  bar2 : Bool
  addr : Nat
  value : Nat
  be : Nat
deriving DecidableEq, Repr

inductive TagState where
  | free | opened | committing | done | aborted
deriving DecidableEq, Repr

/-- A transaction tag (R92): its state, its staged writes in order, the cause of an abort, HIF_TXN_INFO, and the raw count at which
its COMMIT took effect (R97). -/
structure Tag where
  state : TagState
  staged : List PortWrite
  cause : Nat
  info : Nat
  since : Nat
deriving DecidableEq, Repr

/-- A latch of a result block (R86): the block's page and number, the latched words by address and its FRESH bit. -/
structure BlockLatch where
  page : Nat
  block : Nat
  count : Nat
  fresh : Bool
  words : List (Nat × Nat)
deriving DecidableEq, Repr

/-- One host port's own state: its posting buffer, its tags, its selected tag, the result of its last transaction
operation, its fence, its latches and the word its last read returned. -/
structure PortPath where
  posted : List PortWrite
  tags : List Tag
  curTag : Nat
  selected : Bool
  err : Nat
  fence : Nat
  latches : List BlockLatch
  hiLatches : List (Nat × Nat)
  readData : List Nat
deriving DecidableEq, Repr

/-! ### Radio and MAC -/

/-- A duty-cycle budget (R146): the band-table entry (0 to 15 set A, 16 to 31 set B) and its channel, the CK_AON count at
which the current bucket began, the buckets, the current one first, the WINDOW in s that they divide, the SCOPE under which they are
held, and the entry's fields of R149 as they were when the entry was last in use. -/
structure Budget where
  entry : Nat
  channel : Nat
  start : Nat
  buckets : List Nat
  window : Nat
  scope : Nat
  shape : List Nat
deriving DecidableEq, Repr

/-- A received frame in the frame buffer (R137). -/
structure RxFrame where
  slot : Nat
  chain : Nat
  freq : Nat
  phy : Nat
  sfd : Nat
  ends : Nat
  rssi : Nat
  lqi : Nat
  frame : MeshFrame
deriving DecidableEq, Repr

/-- A frame in the MAC transmit queue: its order of entry, its priority, the message with its sequence number, the
failed tries, the back-off exponent and the shared cells still to pass (R188), whether it is planned or waits for its
acknowledgement, and whether it was counted as blocked (R151). -/
structure QFrame where
  serial : Nat
  prio : Nat
  msg : OutMessage
  seq : Nat
  tries : Nat
  be : Nat
  skip : Nat
  planned : Bool
  waiting : Bool
  shared : Bool
  counted : Bool
  hold : Option Nat
deriving DecidableEq, Repr

/-- What an enhanced acknowledgement carries (R179): the node's short address, the sequence number and key index of the
acknowledged frame, the time correction in µs, the NACK bit and the destination PAN. -/
structure AckBody where
  dst : Nat
  seqNo : Nat
  keyIndex : Nat
  correction : Int
  nack : Bool
  pan : Nat
deriving DecidableEq, Repr

/-- What an enhanced beacon carries (R174): its PAN, the addresses, the key index, the ASN and join metric, and the ID octets
of the timeslot and the channel-hopping elements. -/
structure BeaconBody where
  pan : Nat
  dst : Nat
  src : Nat
  keyIndex : Nat
  asn : Nat
  joinMetric : Nat
  timeslotId : Nat
  hopId : Nat
deriving DecidableEq, Repr

/-- A transmission planned or in progress on a transmit channel: the queued frame it carries (none for a beacon or an
acknowledgement), the channel centre and PHY, the band-table entry and budget, the charge, the granted power, the claim number and
the frame counter it was secured with, its length, whether its cell is shared, the slot after its cell; then the slot of the cell
and the link it takes, its antenna, the module times of its first and last symbols, and what it carries as an acknowledgement or a
beacon. -/
structure AirTx where
  channel : Nat
  serial : Option Nat
  freq : Nat
  phy : Nat
  entry : Nat
  budget : Option Nat
  charge : Nat
  power : Nat
  claim : Nat
  counter : Nat
  psdu : Nat
  prio : Nat
  shared : Bool
  endAsn : Nat
  asn : Nat
  link : Option Nat
  antenna : Nat
  starts : Nat
  ends : Nat
  ack : Option AckBody
  beacon : Option BeaconBody
deriving DecidableEq, Repr

/-- A cell that the MAC receives with a demodulator slot of its pool (R165, R167): the slot, the cell's first ASN and the one
after it, the chain, the channel centre and the PHY, and whether the slot's ENABLE stands (R133, R134). -/
structure RxCell where
  slot : Nat
  asn : Nat
  endAsn : Nat
  chain : Nat
  freq : Nat
  phy : Nat
  on : Bool
deriving DecidableEq, Repr

/-- The MAC's and the radio's working state. `follow` is the module time of ASN 0 by the partner's beacons (R173); `busy` the transmit cells planned, each with its channel, its first ASN and the one after it (R165); `dev`
and `slew` are the parts of module time's steps that the ASN does not follow, or does not follow yet (R171); `chargedAt` is the CK_AON
count at the latest charge (R147). `deaf` holds, by chain, the module time until which the chain receives nothing (R128, R130);
`slot0` the record of demodulator slot 0 that DOZE set aside (R135); `slotting` whether the MAC has started its slots (R144);
`rxCells` the receive cells of the slot in progress and the one before it (R165); `keysNew` the key indices 1 to 3 whose keys were
replaced since MAC_TX_FC began (R182). -/
structure MacUnit where
  queue : List QFrame
  nextSerial : Nat
  plan : List AirTx
  active : List AirTx
  busy : List (Nat × Nat × Nat)
  asn : Nat
  follow : Option Int
  dev : Int
  slew : Int
  realign : Bool
  asnStored : Nat
  asnStoredAt : Nat
  frameBuf : List RxFrame
  lastDelivered : List RxFrame
  budgets : List Budget
  osfSinceCharge : Bool
  chargedAt : Nat
  regionNext : Option Nat
  deaf : List Nat
  slot0 : Option (List Nat)
  slotting : Bool
  rxCells : List RxCell
  keysNew : List Nat
deriving DecidableEq, Repr

/-- SPR's counts (R203) and the instants of the last automatic schedules (R225): the next segment-wide number, the next
number of each entry, and the entries' last schedule instants in ns. -/
structure SprUnit where
  bcSeq : Nat
  txSeq : List (Nat × Nat)
  schedAt : List (Nat × Nat)
deriving DecidableEq, Repr

/-! ### Drift and the schedule unit -/

/-- An entry of the Drift intake (R245). -/
structure DrfEvent where
  vertex : Nat
  tick : Nat
  strength : Nat
  sensor : Nat
  count : Nat
deriving DecidableEq, Repr

/-- A walker in use (R246): its number, whether it is TRACKING, its items, and the tick of its last move (R266). -/
structure Walker where
  num : Nat
  tracking : Bool
  vertex : Nat
  origin : Option Nat
  last : Nat
  speed : Nat
  hits : Nat
  id : Nat
  moved : Option Nat
deriving DecidableEq, Repr

/-- Drift's working state: the filling side of the intake with its overflow slots by vertex and its coalescings (R244,
R245); the walkers in use, in rising number (R246); the trail holds by vertex (R254); the next target bank (R261); whether
a pending swap has passed its check (R240, R241); the last evaluation's duration and the period it latched (R259, R263); whether the active graph bank has
failed (R264); and whether a floor or cap has changed since the last evaluation (R265). -/
structure DrfUnit where
  queue : List DrfEvent
  overflow : List (Nat × DrfEvent)
  coalesced : Nat
  walkers : List Walker
  nextId : Nat
  trail : List (Nat × Nat)
  bank : Nat
  checked : Bool
  lastDur : Nat
  lastPeriod : Nat
  graphBad : Bool
  storeBad : Bool
  limitsChanged : Bool
deriving DecidableEq, Repr

/-- A program's transition (R276): the governing step and its instant, the target, and the values, tick and end of a ramp in
progress. Instants are in eighths of a second. -/
structure SchProgram where
  governing : Option (Nat × Int)
  targetFloor : Nat
  targetCap : Nat
  fromFloor : Nat
  fromCap : Nat
  start : Int
  finish : Int
deriving DecidableEq, Repr

/-- The schedule unit's working state: whether a first publication is due (R278), the previous tick instant, the high-water
mark and its stored copy (R282, R283), the programs' transitions, and what the astronomical table was computed for (R274):
latitude, longitude, offset and today; `span` is the guard's span that a guarded unit was guarded under (R282). Instants are in
eighths of a second. -/
structure SchUnit where
  published : Bool
  firstDue : Bool
  prev : Option Nat
  high : Nat
  highStored : Nat
  programs : List (Nat × SchProgram)
  astro : Option (Nat × Nat × Nat × Int)
  span : Nat
deriving DecidableEq, Repr

/-! ### Temper -/

/-- A loop slot's working values (R293, R297 to R299): STATE as R307 codes it, whether it enters after a start from INIT_OUT
or enters at all, the limited set-point with 16 fractional bits, the integrator with 16 fractional bits, OUT, the tick at
which the following-error timer started, the tick of t1 of the previous sample, and SAMPLE_NO. -/
structure TmpSlot where
  state : Nat
  starting : Bool
  entering : Bool
  spl : Option Nat
  integ : Int
  out : Nat
  timer : Option Nat
  last : Nat
  no : Nat
deriving DecidableEq, Repr

/-- Temper's working state: the slots in use, the measurement entries by node and the host measurements by slot, each a
value with its arrival tick (R289, R290), and the 10 ms tick of the last samples since the start (R300). -/
structure TmpUnit where
  slots : List (Nat × TmpSlot)
  nodes : List (Nat × Nat × Nat)
  host : List (Nat × Nat × Nat)
  tick : Option Nat
deriving DecidableEq, Repr

/-! ### Shaping, dispatch and wired buses -/

/-- The dispatcher's refresh credit as a fraction (R327), the module time of the previous pass, and the reason last noticed of each
entry that fails R324. -/
structure DptUnit where
  num : Nat
  den : Nat
  last : Option Nat
  faults : List (Nat × Nat)
deriving DecidableEq, Repr

/-- What a wired forward frame is: a DAPC to one gear, a group or the whole bus, or a host's raw frame (R334, R339). -/
inductive DalKind where
  | short (a level : Nat)
  | group (g level : Nat)
  | broadcast (level : Nat)
  | raw (frame : Nat) (bits24 twice answer : Bool)
deriving DecidableEq, Repr

/-- A queued command of a wired port: its priority, the entries of the gear it names, whether it is a refresh, and the
collisions met (R335, R336). -/
structure DalCmd where
  kind : DalKind
  prio : Nat
  gear : List Nat
  refresh : Bool
  tries : Nat
deriving DecidableEq, Repr

/-- DAL's working state: the ports' queues, the last entry refreshed on each port, and the port of the outstanding raw
request with whether it waits for an answer (R339). -/
structure DalUnit where
  queues : List (List DalCmd)
  cursors : List Nat
  raw : Option (Nat × Bool)
deriving DecidableEq, Repr

/-! ### Metering and reconciliation -/

/-- A circuit's accumulators (R353, R354): whole µWh and fractions of 2^−40, and the WRAP flags. -/
structure EmuTotals where
  imp : Nat
  exp : Nat
  impFrac : Nat
  expFrac : Nat
  impWrap : Bool
  expWrap : Bool
deriving DecidableEq, Repr

/-- A circuit: its accumulators and their copy in MRAM (R355), and the interval in progress: its samples, the valid crossings
seen and those counted toward N, the flags it has gathered, and the instant at which it began (R350, R355, R357, R373). -/
structure EmuCircuit where
  now : EmuTotals
  stored : EmuTotals
  samples : Nat
  cycles : Nat
  count : Nat
  clip : Bool
  fault : Bool
  gap : Bool
  since : Option Int
deriving DecidableEq, Repr

/-- A voltage channel's zero-crossing detector (R356, R358): armed, the previous sample's code and instant, the last valid
crossing, and the valid cycles in a row. -/
structure EmuDetector where
  armed : Bool
  prev : Int
  prevAt : Int
  last : Option Int
  row : Nat
deriving DecidableEq, Repr

/-- A channel's modulator path (R348, R349): the last 1,024 bits of its stream, the oldest lowest; the last code; the last output of the
high-pass filter in 2^−32 of a code; and the latest samples after HPF, newest first, as far back as PHASE reaches. -/
structure EmuChannel where
  stream : Nat
  code : Int
  passed : Int
  hist : List Int
deriving DecidableEq, Repr

/-- The metering half: channels, circuits, detectors, the module time of the last sample's input, and whether a Sieve slice holds the
accumulators. -/
structure EmuUnit where
  channels : List EmuChannel
  circuits : List EmuCircuit
  detectors : List EmuDetector
  last : Int
  held : Bool
deriving DecidableEq, Repr

/-- A group record in force (R370). -/
structure EmurRecord where
  mask : Nat
  en : Bool
  lossPct : Nat
  gainPct : Nat
  lossCount : Nat
  missMax : Nat
  lossMin : Nat
  baseW : Nat
deriving DecidableEq, Repr

/-- A window that has ended and is not closed (R366): its group, number, closing boundary and length in s, the group's record in force, the
metered energy, the nodes' sum, those that have contributed and those still missing, and its flags. -/
structure EmurWindow where
  group : Nat
  number : Int
  ends : Int
  length : Nat
  record : EmurRecord
  metered : Int
  nodes : Nat
  contrib : Nat
  missing : List Nat
  incomplete : Bool
  stepped : Bool
  gap : Bool
  estimated : Bool
deriving DecidableEq, Repr

/-- The reconciliation half: the snapshot at the last boundary with its tick (R363), the nodes' mapping then, the circuits
disturbed and whether the module restarted or a slice held the accumulators since, the records in force, the groups' runs,
the windows not yet closed, oldest first, the windows that have closed, each with its number and circuits (R364), the number of the window
in progress and its length in epoch ticks unless a step changes it (R363), and the boundary whose snapshot waits for the next sample. -/
structure EmurUnit where
  snapshot : Option (List (Nat × Nat) × Nat)
  members : List (Nat × Nat)
  disturbed : List Bool
  gap : Bool
  records : List EmurRecord
  runs : List Nat
  open_ : List EmurWindow
  closed : List (Int × Nat)
  opened : Int
  want : Nat
  due : Option Int
deriving DecidableEq, Repr

/-! ### Switch and host DMA -/

/-- A frame stored in the packet buffer, as it waits in an egress queue (R381, R382): the number of the stored frame, the
frame, its ingress port, class and VID, its ingress timestamp (R412), whether it is sent as it is (link-local or DIRECT),
whether it is a DIRECT host frame, its TS_ID, and whether it is an IEEE 1588 event message. -/
structure SwFrame where
  id : Nat
  frame : EthFrame
  src : Nat
  cls : Nat
  vid : Nat
  rx : Int
  asIs : Bool
  direct : Bool
  tsId : Option Nat
deriving DecidableEq, Repr

/-- An entry of the address table (R388): address, VID, port mask, STATIC, and the raw count and module time at
which it was last seen. -/
structure FdbEntry where
  mac : Nat
  vid : Nat
  ports : Nat
  static_ : Bool
  seen : Nat
  seenAt : Nat
deriving DecidableEq, Repr

/-- The switch's working state: the address table by index; the egress queues, queue 8 × port + class; the deficits of the
queues and the class in turn of each port (R384); the ends of the pauses, 9 × port + class with 8 for IEEE 802.3x, in 0.1 ns
of raw time (R389); the ports that have sent PAUSE or PFC and not yet taken it back (R390); the number of the next stored
frame; and whether the MDIO transaction in progress reads (R376). -/
structure SwfUnit where
  fdb : List (Nat × FdbEntry)
  queues : List (List SwFrame)
  deficits : List Nat
  turns : List Nat
  pauses : List (Nat × Nat)
  xoff : List Nat
  nextId : Nat
  mdioRead : Bool
deriving DecidableEq, Repr

/-- The host DMA port's working state (R397): whether an error has stopped its rings, and the completions of each ring not
yet told by a notice. -/
structure HdmUnit where
  stopped : Bool
  tx : List Nat
  rx : List Nat
deriving DecidableEq, Repr

/-! ### Slip queues -/

/-- A downlink packet being written: its words so far, the port that opened it, and whether it was discarded already
(its words are ignored until COMMIT or ABORT, R443). -/
structure OpenPacket where
  words : List Nat
  port : Port
  dead : Bool
deriving DecidableEq, Repr

/-- The packet that a port is reading (R440): how many payload words it has received, and whether delivery ended on an
uncorrectable error (R441). -/
structure OwnedPacket where
  packet : Packet
  pos : Nat
  port : Port
  corrupt : Bool
deriving DecidableEq, Repr

/-- One Slip queue: eligible packets in order of completion, the packet owned by a port, the held packets behind the
rewind mark in order of consumption, the packets a rewind returns next, the open downlink packet, the packets of a
stalled producer with what their carry checks will find, the last packet each port read the length word of, and the timer's spell. -/
structure SlipQueue where
  eligible : List Packet
  owned : Option OwnedPacket
  held : List Packet
  marked : Bool
  replay : List Packet
  building : Option OpenPacket
  stalled : List (Packet × Bool)
  lastLrp : Option Nat
  lastPcie : Option Nat
  timerFired : Bool
deriving DecidableEq, Repr

/-! ### Time -/

/-- An entry of the transmit timestamp queue (R414). -/
structure TsEntry where
  id : Nat
  port : Nat
  status : Nat
  ns : Nat
deriving DecidableEq, Repr

/-- A Sync awaiting its Follow_Up: the sequence number, the receive timestamp and the correction (R409). -/
structure HeldSync where
  seq : Nat
  rx : Int
  corr : Int
deriving DecidableEq, Repr

/-- A foreign master heard on a port: its latest Announce, how many of them were heard, and the raw count of the latest
(IEEE 1588-2019, 9.3). -/
structure ForeignMaster where
  port : Nat
  count : Nat
  heard : Nat
  data : Announce
deriving DecidableEq, Repr

/-- What takes a timestamp, as a port holds it while a slice of the TIM region runs (R428): a transmit timestamp for the queue; a Sync and
its Follow_Up; a Delay_Req received; the instant at which a Delay_Req was sent, and its Delay_Resp. -/
inductive HeldStamp where
  | entry (e : TsEntry)
  | sync (port sender senderPort domain seq : Nat) (rx origin corr : Int) (twoStep : Bool)
  | followUp (port sender senderPort domain seq : Nat) (origin corr : Int)
  | delayReq (port domain seq : Nat) (rx : Int)
  | delaySent (seq : Nat) (tx : Int)
  | delayResp (port sender senderPort domain seq : Nat) (t4 corr : Int)
deriving DecidableEq, Repr

/-- Module time (R404): the raw counter and module time at the latest epoch tick (R407); TIM's state, and the state that host software
last wrote since the start (R408); the reference pair, the servo's integral and lock run, the transmit timestamp
queue, the engine's held Sync, the last Sync's origin and receive instants, the transmit instant of the last Delay_Req,
the foreign masters, the PTP ports in PRE_MASTER with the raw count at which each becomes MASTER, what the ports hold for a slice
(R428), and the raw counts of the last pulses. The rate R is the register TIM_RATE. -/
structure TimeUnit where
  raw : Nat
  now : Int
  state : TimeMode
  host : TimeMode
  ca : Nat
  ta : Int
  servoI : Int
  lockRun : Nat
  tsQueue : List TsEntry
  held : Option HeldSync
  t1 : Int
  t2 : Int
  t3 : Option (Nat × Int)
  foreign : List ForeignMaster
  preMaster : List (Nat × Nat)
  stamped : List HeldStamp
  ppsLast : Option Nat
  ppsInLast : Option Nat
deriving DecidableEq, Repr

/-- A value that calendar time takes at the next CK_AON edge (R421): the one that a GO write gave, or UTC from module time (R424). -/
inductive CalLoad where
  | value (t : CalTime)
  | step
deriving DecidableEq, Repr

/-- Calendar time (R418) and what the always-on domain keeps beside it: the count of CK_AON pulses, the mark of an
oscillator stop not yet recorded (R425), and the copy of TIM_UTC.OFFSET (R429); the load that the next edge makes (R421); and the window
of R424 in progress: the module time and the calendar time in 1/65,536 s at its start, and whether a write, a step or a leap has fallen
in it. -/
structure Calendar where
  secs : Nat
  frac : Nat
  pulses : Nat
  osfMark : Bool
  utcOffset : Nat
  load : Option CalLoad
  window : Option (Int × Nat)
  disturbed : Bool
deriving DecidableEq, Repr

/-! ### Silt -/

/-- An event waiting in the Silt intake (R509). -/
structure SiltEvent where
  code : Nat
  p0 : Nat
  p1 : Nat
  p2 : Nat
  p3 : Nat
  time : CalTime
  valid : Bool
  deferred : Bool
deriving DecidableEq, Repr

/-- A Silt record (R507). -/
structure SiltRecord where
  event : SiltEvent
  repeats : Nat
deriving DecidableEq, Repr

/-! ### Sieve -/

/-- A slice that runs (R520): its region and piece, and whether it is a preserving one. -/
structure SivSlice where
  region : Nat
  piece : Nat
  preserving : Bool
deriving DecidableEq, Repr

/-- Sieve: the regions with EN 0, those with DESTRUCTIVE 1, those marked FAILED (R532); the round's number, the module time and
calendar time of its first slice, its pieces tested and passed over, and the regions FAILED in it (R522, R527); the running
slices, the module time of the last start; and the region of the recovery test in progress (R529). -/
structure SivUnit where
  disabled : List Nat
  destructive : List Nat
  failed : List Nat
  round : Nat
  began : Option (Int × CalTime)
  tested : List (Nat × Nat)
  passed : List (Nat × Nat)
  fails : Nat
  slices : List SivSlice
  last : Option Int
  recover : Option Nat
deriving DecidableEq, Repr

/-! ### Grog -/

/-- What a container's header says of the image that it builds (R534). Hashes are numbers whose octet i is the header's. -/
structure GrgHeader where
  target : Nat
  form : Nat
  secEpoch : Nat
  version : Nat
  baseVersion : Nat
  size : Nat
  blocks : Nat
  module : Nat
  reqs : List Nat
  hash : Nat
  baseHash : Nat
deriving DecidableEq, Repr

/-- A node image campaign (R548, R549): the type, its image and the NOR place that holds it, the block size; the offers still to send, the
blocks still to send in this round, the round, the blocks reported missing since its queries, whether
QUERY_WAIT runs, and the blocks dropped in this round (R153). -/
structure Campaign where
  type : Nat
  image : GrgHeader
  place : Nat
  blockSize : Nat
  offers : Nat
  todo : List Nat
  round : Nat
  missing : List Nat
  waiting : Bool
  dropped : List Nat
deriving DecidableEq, Repr

/-- Grog. Places of the NOR (R533) are numbered 2 × processor + bank for 0 to 5, and 6 + 2 × type + copy from there on. `images`
holds the verified image of a place; `nor` the blocks of 4,096 octets written, at 4096 × place + block; `header` and `map` the
staging's header and block map in MRAM (R537); `asking` a header that has passed and waits for the axis; `fresh` the module time of
the last new block or of the start; `offers` the copy that holds a type's offer image; the campaign in progress, the targets of the last one as
entries with 1 pending, 2 complete or 3 FAILED, and the type and version of the last campaign that ended with a complete target (R550); the processor whose confirmation timer
runs, with the raw count at which it started (R119). -/
structure GrgUnit where
  images : List (Nat × GrgHeader)
  nor : List (Nat × List Nat)
  header : Option GrgHeader
  map : List Nat
  asking : Option GrgHeader
  fresh : Nat
  offers : List (Nat × Nat)
  campaign : Option Campaign
  targets : List (Nat × Nat)
  ended : Option (Nat × Nat)
  trial : Option (Nat × Nat)
deriving DecidableEq, Repr

/-! ### Marl -/

/-- A bank of the store (R555): its header, and its body as the register fields and window bytes that differ from their reset
values, and the regions' EN and DESTRUCTIVE fields behind SIV_REG_SEL. -/
structure StoreBank where
  seq : Nat
  len : Nat
  module : Nat
  epoch : Nat
  cfgId : Nat
  regs : List (Nat × Nat)
  win : List Host.Cell
  disabled : List Nat
  destructive : List Nat
deriving DecidableEq, Repr

/-- Marl: the two banks, none where one is invalid, and the snapshot of the save in progress with its target bank (R557). -/
structure MrlUnit where
  banks : List (Option StoreBank)
  saving : Option (Nat × StoreBank)
deriving DecidableEq, Repr

/-! ### Effects -/

/-- An effect that leaves the module. -/
inductive Emission where
  | msix (vector addr data : Nat)
  /-- a pulse of TIM_PPS_OUT: its width in ms and the module time of its second (R417) -/
  | ppsPulse (ns widthMs : Nat)
  /-- a PTP message of the engine: port, transport (0 IEEE 802.3, 1 UDP/IPv4, 2 UDP/IPv6), kind, sequence number, domain and timestamp
  (R410) -/
  | ptp (port transport : Nat) (kind : PtpKind) (seq domain : Nat) (ns : Int) (data : Option Announce)
  /-- a mesh transmission begins (R138, R140): the channel, centre and PHY, antenna, power code and instants, with what a beacon or an
  acknowledgement carries; the queued message that it sends, the octets of its MAC payload (R201), and those of its PSDU, secured
  (R174, R178 to R180) -/
  | air (tx : AirTx) (msg : Option OutMessage) (octets psdu : List Nat)
  /-- a forward frame on a wired port (R333) -/
  | dali (port : Nat) (cmd : DalKind) (prio : Nat)
  /-- a frame leaves an external port at an instant; `bad` says that its FCS is inverted (R384, R399) -/
  | ether (port : Nat) (frame : EthFrame) (ns : Int) (bad : Bool)
  /-- a PAUSE frame (R390) -/
  | pause (port quanta : Nat)
  /-- a PFC frame: the classes named, and their quanta (R390) -/
  | pfc (port classes quanta : Nat)
  /-- an MDIO transaction (R376, R401) -/
  | mdio (op : Nat) (c45 : Bool) (phy reg data : Nat)
  /-- a frame on the Bidues link, with its 36 octets (R460, R461) -/
  | bidues (frame : Bidues) (octets : List Nat)
  /-- the bit that TPR drives on TPR_MESH_DRV in a sampling round (R498) -/
  | meshBit (b : Bool)
  /-- HDM writes back a TX descriptor with DONE set (R393) -/
  | txDone (ring index err : Nat)
  /-- HDM writes a received frame's part to a buffer, and its RX descriptor (R395): ring, index, octets, SOP, EOP, source
  port, TCI, TAGGED, the checksum bits IP_OK, IP_BAD, L4_OK, L4_BAD, L4_NA, and RX_TS -/
  | rxDone (ring index : Nat) (data : List Nat) (sop eop : Bool) (src tci : Nat) (tagged : Bool) (checks rxTs : Nat)
deriving DecidableEq, Repr

end Sys2Proof.Machine
end

