-- ==== Sys2Proof/Machine/Empty.lean ====
section
/-! DEFINITION. The units' working state when nothing is in them: what a start or a cleared SRAM leaves. -/

namespace Sys2Proof.Machine

/-- A tag that no transaction uses (R92). -/
def Tag.none : Tag := ⟨.free, [], 0, 0, 0⟩

/-- A port's path after a reset: nothing posted, every tag FREE, none selected (R73, R92). -/
def PortPath.empty : PortPath := ⟨[], List.replicate 4 .none, 0, false, 0, 0, [], [], []⟩

/-- An empty queue. -/
def SlipQueue.empty : SlipQueue := ⟨[], none, [], false, [], none, [], none, none, false⟩

/-- The MAC with nothing queued or planned, keeping the ASN stored in MRAM and the duty-cycle buckets (R147, R174). -/
def MacUnit.clear (m : MacUnit) : MacUnit :=
  { queue := [], nextSerial := 0, plan := [], active := [], busy := [], asn := 0, follow := none, dev := 0, slew := 0,
    realign := false, asnStored := m.asnStored, asnStoredAt := m.asnStoredAt, frameBuf := [], lastDelivered := [],
    budgets := m.budgets, osfSinceCharge := m.osfSinceCharge, chargedAt := m.chargedAt, regionNext := none,
    deaf := [0, 0], slot0 := none, slotting := false, rxCells := [], keysNew := m.keysNew }

def MacUnit.empty : MacUnit :=
  { queue := [], nextSerial := 0, plan := [], active := [], busy := [], asn := 0, follow := none, dev := 0, slew := 0,
    realign := false, asnStored := 0, asnStoredAt := 0, frameBuf := [], lastDelivered := [], budgets := [],
    osfSinceCharge := false, chargedAt := 0, regionNext := none, deaf := [0, 0], slot0 := none, slotting := false, rxCells := [],
    keysNew := [] }

def DrfUnit.empty : DrfUnit := ⟨[], [], 0, [], 0, [], 0, false, 0, 0, false, false, false⟩

/-- Schedules before the first tick of a start, from the stored high-water mark (R278, R283). -/
def SchUnit.from (stored : Nat) : SchUnit := ⟨false, true, none, stored, stored, [], none, 0⟩

def DptUnit.empty : DptUnit := ⟨0, 1, none, []⟩

def DalUnit.empty : DalUnit := ⟨List.replicate 8 [], List.replicate 8 0, none⟩

def EmuTotals.zero : EmuTotals := ⟨0, 0, 0, 0, false, false⟩
def EmuCircuit.empty : EmuCircuit := ⟨.zero, .zero, 0, 0, 0, false, false, true, none⟩
def EmuDetector.empty : EmuDetector := ⟨false, 0, 0, none, 0⟩
def EmuChannel.empty : EmuChannel := ⟨0, 0, 0, []⟩
def EmuUnit.empty : EmuUnit := ⟨List.replicate 16 .empty, List.replicate 12 .empty, List.replicate 4 .empty, 0, false⟩

def EmurUnit.empty : EmurUnit := ⟨none, [], [], true, [], List.replicate 12 0, [], [], 0, 0, none⟩

/-- Reconciliation loses its clock at an outage (R367, R372): the windows that are open carry GAP, and no run spans it. -/
def EmurUnit.outage (u : EmurUnit) : EmurUnit :=
  { u with runs := List.replicate 12 0, gap := true, closed := [], due := none,
           open_ := u.open_.map fun w => { w with gap := true } }

def SwfUnit.empty : SwfUnit := ⟨[], List.replicate 56 [], List.replicate 56 0, List.replicate 7 0, [], [], 0, false⟩

def HdmUnit.empty : HdmUnit := ⟨false, List.replicate 8 0, List.replicate 8 0⟩

def ClmUnit.empty : ClmUnit :=
  { seq := 0, out := [], own := 0, enabled := false, partner := none, mismatch := false, zeros := 0, skips := [], wants := false,
    asked := none, querying := false, waited := false, heardBeacon := false, swap := none, barred := false, settle := none,
    swapFrom := none, everPrimary := false, hours := 0, mark := 0 }

def HpnUnit.empty : HpnUnit := ⟨[], 0, none, none, [], none, [], []⟩

def TprUnit.empty : TprUnit := ⟨[0, 0, 0, 0]⟩

/-- Sieve at a start: every region enabled, DESTRUCTIVE only in 0x15 (R524, R532). -/
def SivUnit.empty : SivUnit := ⟨[], [0x15], [], 0, none, [], [], 0, [], none, none⟩

/-- Module time from a base (R404). -/
def TimeUnit.from (base : Int) : TimeUnit :=
  { raw := 0, now := base, state := .free, host := .free, ca := 0, ta := base, servoI := 0, lockRun := 0, tsQueue := [], held := none,
    t1 := 0, t2 := 0, t3 := none, foreign := [], preMaster := [], stamped := [], ppsLast := none, ppsInLast := none }

/-- Calendar time when the always-on domain powers up from nothing (R46, R425). -/
def Calendar.empty : Calendar := ⟨0, 0, 0, true, 0, none, none, false⟩

end Sys2Proof.Machine
end

