-- ==== Sys2Proof/Machine/State.lean ====
section
/-! DEFINITION. The machine's state as plain data, the reasons a command can stop, and the state after reset. -/

namespace Sys2Proof.Machine

/-- The whole block: the commands that wait, first in, first out; the register fields by address and lowest bit, and the windows'
bytes, each in its canonical form; the effects that have left the module; the count of free values drawn (the model's own field); the
mode axes with the requests made and waiting; the start; the fourteen clock domains (R28); staged writes held for a stopped clock; the two ports; and the units. -/
structure State where
  pending : List Instr
  regs : List (Nat × Nat)
  win : List Host.Cell
  emitted : List Emission
  draws : Nat
  modes : Modes
  modeReqs : List ModeReq
  modeWaiting : List ModeReq
  startup : Startup
  domains : List DomainState
  deferred : List (Port × PortWrite)
  lrp : PortPath
  pcie : PortPath
  time : TimeUnit
  cal : Calendar
  slqUp : List SlipQueue
  slqDown : List SlipQueue
  mac : MacUnit
  spr : SprUnit
  ntbBad : List Nat
  drf : DrfUnit
  sch : SchUnit
  tmp : TmpUnit
  dpt : DptUnit
  dal : DalUnit
  emu : EmuUnit
  emur : EmurUnit
  swf : SwfUnit
  hdm : HdmUnit
  clm : ClmUnit
  hpn : HpnUnit
  tpr : TprUnit
  siv : SivUnit
  grg : GrgUnit
  mrl : MrlUnit
  siltIntake : List SiltEvent
  siltLog : List SiltRecord
deriving DecidableEq, Repr

/-- The first record of a log that the factory has cleared: CODE 0x1E01 with calendar time 0 (R516). -/
def factoryRecord : SiltRecord := ⟨⟨0x1E01, 0, 0, 0, 0, ⟨0, 0⟩, false, false⟩, 1⟩

/-- The image that the factory put into bank 0 of a processor. -/
def factoryImage (p : Nat) : GrgHeader :=
  ⟨p, 0, 0, Config.factoryVersion p, 0, 0, 0, 0x03B1FFFF, [0, 0, 0], 0, 0⟩

/-- The machine right after reset: the cold reset of a module's first power-up, with VIN present and no line of R106 reached
(R102, R106, R121). Registers and windows that are not listed are at their reset values. -/
def State.reset : State where
  pending := []
  regs := []
  win := []
  emitted := []
  draws := 0
  modes := ⟨.run, .solo, .blank, .off, .idle, .clear, .free⟩
  modeReqs := []
  modeWaiting := []
  startup :=
    { phase := .inReset, line := 0, kind := .cold, watchdogRuns := 0, vin := true, pwrGood := false, carrierRst := false,
      lrpReady := false, activationHold := false, holdByRequest := false, scratchCopy := 0,
      heldPower := none, wake := none, lifeCopies := [⟨.blank, 0, true⟩, ⟨.blank, 0, true⟩],
      scrapped := false }
  domains := List.replicate 14 .stopped
  deferred := []
  lrp := .empty
  pcie := .empty
  time := .from 0
  cal := .empty
  slqUp := List.replicate 16 .empty
  slqDown := List.replicate 8 .empty
  mac := { MacUnit.empty with osfSinceCharge := true }
  spr := ⟨0, [], []⟩
  ntbBad := []
  drf := .empty
  sch := .from 0
  tmp := ⟨[], [], [], none⟩
  dpt := .empty
  dal := .empty
  emu := .empty
  emur := .empty
  swf := .empty
  hdm := .empty
  clm := .empty
  hpn := .empty
  tpr := .empty
  siv := .empty
  grg := ⟨[(0, factoryImage 0), (2, factoryImage 1), (4, factoryImage 2)], [], none, [], none, 0, [], none, [], none, none⟩
  mrl := ⟨[none, none], none⟩
  siltIntake := []
  siltLog := [factoryRecord]

/-- A reason to stop with a fault. No command of this block has one: the spec gives every command an effect, or says
that it is discarded. -/
inductive Fault where
deriving DecidableEq, Repr

/-- A reason to refuse a command. -/
inductive Refusal where
  /-- the command's meaning is not written yet: raised by an arm of `exec` only; safe -/
  | notModelled (mnemonic : String)
deriving DecidableEq, Repr

end Sys2Proof.Machine
end

