-- ==== Sys2Proof/Machine/WinReset.lean ====
section
/-! DEFINITION. What a byte of the BAR2 windows reads as before anything has written it. -/

namespace Sys2Proof.Machine

/-- Curve 1 of R322: P[0] = 0 and P[k] = round(65,535 × 10^(3 × (k − 256) / 256)). -/
def curve1_0 : List Nat :=
  [0, 67, 69, 71, 73, 75, 77, 79, 81, 84, 86, 88, 91, 93, 96, 98, 101, 104, 107, 109, 112, 115, 119, 122, 125,
   129, 132, 136, 140, 143, 147, 151]
def curve1_1 : List Nat :=
  [155, 160, 164, 169, 173, 178, 183, 188, 193, 198, 204, 209, 215, 221, 227, 233, 239, 246, 253, 259, 267, 274,
   281, 289, 297, 305, 313, 322, 331, 340, 349, 359]
def curve1_2 : List Nat :=
  [369, 379, 389, 400, 411, 422, 433, 445, 457, 470, 483, 496, 509, 523, 538, 552, 568, 583, 599, 615, 632, 649,
   667, 685, 704, 724, 743, 764, 785, 806, 828, 851]
def curve1_3 : List Nat :=
  [874, 898, 922, 948, 974, 1000, 1028, 1056, 1084, 1114, 1145, 1176, 1208, 1241, 1275, 1310, 1346, 1383, 1420,
   1459, 1499, 1540, 1582, 1626, 1670, 1716, 1763, 1811, 1860, 1911, 1964, 2017]
def curve1_4 : List Nat :=
  [2072, 2129, 2187, 2247, 2309, 2372, 2437, 2503, 2572, 2642, 2714, 2789, 2865, 2943, 3024, 3106, 3191, 3279,
   3368, 3460, 3555, 3652, 3752, 3855, 3960, 4069, 4180, 4294, 4412, 4532, 4656, 4784]
def curve1_5 : List Nat :=
  [4914, 5049, 5187, 5329, 5475, 5624, 5778, 5936, 6099, 6265, 6437, 6613, 6794, 6979, 7170, 7366, 7568, 7775,
   7987, 8206, 8430, 8661, 8898, 9141, 9391, 9648, 9912, 10183, 10462, 10748, 11042, 11344]
def curve1_6 : List Nat :=
  [11654, 11973, 12300, 12637, 12982, 13337, 13702, 14077, 14462, 14857, 15264, 15681, 16110, 16551, 17003,
   17468, 17946, 18437, 18941, 19459, 19992, 20538, 21100, 21677, 22270, 22879, 23505, 24148, 24808, 25487,
   26184, 26900]
def curve1_7 : List Nat :=
  [27636, 28392, 29168, 29966, 30786, 31628, 32493, 33381, 34294, 35232, 36196, 37186, 38203, 39248, 40321,
   41424, 42557, 43721, 44917, 46146, 47408, 48704, 50036, 51405, 52811, 54255, 55739, 57264, 58830, 60439,
   62092, 63790]
def curve1_8 : List Nat :=
  [65535]

def curve1 : List Nat := curve1_0 ++ curve1_1 ++ curve1_2 ++ curve1_3 ++ curve1_4 ++ curve1_5 ++ curve1_6 ++ curve1_7 ++ curve1_8

/-- Octet k of a number. -/
def octetOf (v k : Nat) : Byte := BitVec.ofNat 8 (v / 256 ^ k)

/-- The correction tables of R322: the curves, then the compensation tables. -/
def shpReset (off : Nat) : Byte :=
  if off < 0x4000 then
    let k := off % 1024 / 2
    if 256 < k then 0
    else octetOf (if off / 1024 = 1 then curve1.getD k 0 else min (256 * k) 65535) (off % 2)
  else if off < 0x4400 then (if off % 64 < 34 then octetOf 32768 (off % 2) else 0)
  else 0

/-- Link n of the default schedule (R166): beacon, dispatch and reception links. -/
def linkReset (n o : Nat) : Byte :=
  if 100 ≤ n then 0
  else if o = 0 then (if n = 0 then 0xE8 else if n ≤ 50 then 0x28 else 0x70)
  else if o = 1 ∨ o = 5 ∨ o = 9 then 1
  else if o = 2 then BitVec.ofNat 8 (if n = 0 then 0 else if n ≤ 50 then 2 * n - 1 else 2 * (n - 50))
  else if o = 4 then (if n ≤ 50 then 0 else 0xFF)
  else if o = 6 ∨ o = 7 then 0xFF
  else if o = 8 then (if n = 0 then 2 else if n ≤ 50 then 1 else 0)
  else 0

/-- The default schedule (R166): slotframe 0 of 100 slots, one hop entry of 868,300 kHz, and the links. -/
def macReset (off : Nat) : Byte :=
  if off = 0 then 100
  else if off = 2 then 1
  else if 0x100 ≤ off ∧ off < 0x104 then octetOf 868300 (off - 0x100)
  else if 0x10000 ≤ off ∧ off < 0x50000 then linkReset ((off - 0x10000) / 16) (off % 16)
  else 0

/-- The reset contents of the windows: zeros, but for the default schedule of R166, the correction tables of R322, and the
published floors and caps, which read as those of programs not VALID until the first publication (R256, R269): DESIGN
CHOICE, log entry 12. The key is page × 2^24 + offset. -/
def winReset (a : Nat) : Byte :=
  if a / 0x1000000 = 0x04 then macReset (a % 0x1000000)
  else if a / 0x1000000 = 0x08 then (if 0x80000 ≤ a % 0x1000000 ∧ a % 0x1000000 < 0x80400 ∧ 2 ≤ a % 4 then 0xFF else 0)
  else if a / 0x1000000 = 0x0A then shpReset (a % 0x1000000)
  else 0

end Sys2Proof.Machine
end

