-- ==== Sys2Proof/Machine/Ops.lean ====
section
/-! DEFINITION. The named operations over registers, windows, notices, the Silt intake and the host's interrupts. -/

namespace Sys2Proof.Machine

/-! ### Register fields -/

/-- The value of a field: what was last put there, or its reset value (R10). -/
def State.rd (s : State) (f : Field) : Nat := (Sparse.get s.regs f.key).getD f.reset % 2 ^ f.width

/-- The register store with a field's value, cut to its width; a field at its reset value is not listed. -/
def Regs.put (r : List (Nat × Nat)) (f : Field) (v : Nat) : List (Nat × Nat) :=
  if v % 2 ^ f.width = f.reset then Sparse.erase r f.key else Sparse.insert r f.key (v % 2 ^ f.width)

/-- Put a value into a field. -/
def State.wr (s : State) (f : Field) (v : Nat) : State := { s with regs := Regs.put s.regs f v }

/-- A one-bit field as a truth value. -/
def State.rdB (s : State) (f : Field) : Bool := s.rd f == 1

/-- Put a truth value into a one-bit field. -/
def State.wrB (s : State) (f : Field) (b : Bool) : State := s.wr f (if b then 1 else 0)

/-- A field as a signed number. -/
def State.rdS (s : State) (f : Field) : Int := signed f.width (s.rd f)

/-- Put a signed number into a field as its two's complement code. -/
def State.wrS (s : State) (f : Field) (i : Int) : State := s.wr f (codeOf f.width i)

/-- Raise a counter field by d, wrapping at its width. -/
def State.count (s : State) (f : Field) (d : Nat) : State := s.wr f (s.rd f + d)

/-- Raise a counter field by d, saturating at its width. -/
def State.countSat (s : State) (f : Field) (d : Nat) : State := s.wr f (satAdd (s.rd f) d (2 ^ f.width - 1))

/-- Put several values. -/
def State.wrAll (s : State) : List (Field × Nat) → State
  | [] => s
  | (f, v) :: t => (s.wr f v).wrAll t

/-- Only the fields whose key `keep` holds for stay; the others return to their reset values. -/
def State.forgetRegs (s : State) (keep : Nat → Bool) : State := { s with regs := s.regs.filter fun c => keep c.1 }

/-! ### The common header (R64) -/

/-- NOTE_RAW of a page. -/
abbrev NOTE_RAW (p : Nat) : Field := ⟨p * 0x1000 + 0x10, 0, 32, .w1c, 0, .cleared⟩
/-- NOTE_EN of a page. -/
abbrev NOTE_EN (p : Nat) : Field := ⟨p * 0x1000 + 0x14, 0, 32, .rw, 0, .cleared⟩
/-- SEQ.COUNT of a page's result block 0. -/
abbrev SEQ_COUNT (p : Nat) : Field := ⟨p * 0x1000 + 0x1C, 8, 24, .ro, 0, .cleared⟩
/-- FRESH of a page: bit b belongs to result block b. -/
abbrev FRESH (p : Nat) : Field := ⟨p * 0x1000 + 0x20, 0, 32, .ro, 0, .cleared⟩
/-- TXN_STAT.COMMITS of a page. -/
abbrev TXN_COMMITS (p : Nat) : Field := ⟨p * 0x1000 + 0x24, 0, 16, .ro, 0, .cleared⟩

/-- The pages that R63 assigns. -/
def assignedPages : List Nat :=
  [0x00, 0x01, 0x02, 0x03, 0x04, 0x05, 0x06, 0x07, 0x08, 0x09, 0x0A, 0x0B, 0x0C, 0x0D, 0x0E,
   0x10, 0x11, 0x12, 0x13, 0x14, 0x15, 0x16, 0x17, 0x18, 0x19, 0x1A, 0x1B, 0x1C, 0x1D, 0x1E, 0x1F, 0x20, 0x21, 0x22]

/-- A page is pending while a notice of it is set and enabled (R82). -/
def State.pagePending (s : State) (p : Nat) : Bool := (s.rd (NOTE_RAW p) &&& s.rd (NOTE_EN p)) != 0

/-- The route byte of a page (R100). -/
def State.route (s : State) (p : Nat) : Nat := octet (s.rd (HIF_ROUTE (p / 4))) (p % 4)

/-- The aggregate of an MSI-X vector (R82). -/
def State.aggregate (s : State) (v : Nat) : Bool :=
  assignedPages.any fun p => s.pagePending p && bitAt (s.route p) 5 && (s.route p % 32 == v)

/-! ### MSI-X (R83, R100) -/

/-- The MSI-X table's message address of a vector, low word. -/
abbrev MSIX_ADDR_LO (v : Nat) : Field := ⟨0x01800 + 16 * (v % 32), 0, 32, .rw, 0, .cleared⟩
/-- The MSI-X table's message address of a vector, high word. -/
abbrev MSIX_ADDR_HI (v : Nat) : Field := ⟨0x01804 + 16 * (v % 32), 0, 32, .rw, 0, .cleared⟩
/-- The MSI-X table's message data of a vector. -/
abbrev MSIX_DATA (v : Nat) : Field := ⟨0x01808 + 16 * (v % 32), 0, 32, .rw, 0, .cleared⟩
/-- The Mask bit of a vector; it resets to 1 (PCI Express 3.0). PRESUMED, log entry 5. -/
abbrev MSIX_MASK (v : Nat) : Field := ⟨0x0180C + 16 * (v % 32), 0, 1, .rw, 1, .cleared⟩
/-- The Pending Bit Array: one bit per vector. -/
abbrev MSIX_PBA : Field := ⟨0x01A00, 0, 32, .ro, 0, .cleared⟩
/-- The Function Mask of the endpoint's configuration space, kept at the place of no register. -/
abbrev MSIX_FUNC_MASK : Field := ⟨0x40000, 0, 1, .ro, 0, .cleared⟩

/-- Whether a vector's message may leave: neither mask set, Bus Master Enable and MSI-X Enable set (R83). -/
def State.msixOpen (s : State) (v : Nat) : Bool :=
  s.rd (MSIX_MASK v) == 0 && s.rd MSIX_FUNC_MASK == 0 && s.rdB HIF_STATUS_BME && s.rdB HIF_STATUS_MSIX_EN

/-- Record an effect that leaves the module. -/
def State.emit (s : State) (e : Emission) : State := { s with emitted := s.emitted ++ [e] }

/-- Send a vector's message, or set its pending bit where it may not leave (R83). -/
def State.msixSend (s : State) (v : Nat) : State :=
  if s.msixOpen v then
    s.emit (.msix v (s.rd (MSIX_ADDR_LO v) + 2 ^ 32 * s.rd (MSIX_ADDR_HI v)) (s.rd (MSIX_DATA v)))
  else s.wr MSIX_PBA (setBit (s.rd MSIX_PBA) v)

/-- Send a pending vector's message once it may leave, or drop its pending bit when its aggregate has fallen (R83). -/
def State.msixRetry (s : State) (v : Nat) : State :=
  if bitAt (s.rd MSIX_PBA) v && s.msixOpen v then
    let s' := s.wr MSIX_PBA (clrBit (s.rd MSIX_PBA) v)
    if s.aggregate v then s'.msixSend v else s'
  else s

/-- After a change of a page's notices, enables or route: the vector that the page is routed to sends its message when its
aggregate has risen from `before` (R83). -/
def State.vectorEdge (s : State) (v : Nat) (before : Bool) : State :=
  if !before && s.aggregate v then s.msixSend v else s

/-- Set a notice bit (R64). The page's vector, if it has one, sends its message on the rise of its aggregate (R83). -/
def State.notice (s : State) (n : Notice) : State :=
  let s' := s.wr (NOTE_RAW n.page) (setBit (s.rd (NOTE_RAW n.page)) n.bit)
  if bitAt (s.route n.page) 5 then s'.vectorEdge (s.route n.page % 32) (s.aggregate (s.route n.page % 32)) else s'

/-- Set several notice bits. -/
def State.notices (s : State) : List Notice → State
  | [] => s
  | n :: t => (s.notice n).notices t

/-- Set a notice bit where a condition holds. -/
def State.noticeIf (s : State) (b : Bool) (n : Notice) : State := if b then s.notice n else s

/-! ### Result blocks (R85) -/

/-- Publish block b of a page: its SEQ.COUNT rises by 1 modulo 2^24 and its FRESH bit is set, in one step. -/
def State.publish (s : State) (page b : Nat) (seq : Field) : State :=
  (s.wr seq (s.rd seq + 1)).wr (FRESH page) (setBit (s.rd (FRESH page)) b)

/-! ### Windows (R7, R14) -/

/-- The place of a window's byte in the windows' memory (R7). -/
def winAddr (page off : Nat) : Nat := page * 0x1000000 + off

/-- One byte of the windows. -/
def Memory.read (m : List Host.Cell) (a : Nat) : Byte := (Sparse.get m a).getD (winReset a)

/-- Write one byte of the windows, keeping the canonical form. -/
def Memory.write (m : List Host.Cell) (a : Nat) (b : Byte) : List Host.Cell :=
  if b = winReset a then Sparse.erase m a else Sparse.insert m a b

/-- No listed byte equals what an unlisted byte reads as. -/
def Memory.trimmed (m : List Host.Cell) : Bool := m.all fun c => decide (c.2 ≠ winReset c.1)

/-- The canonical form: addresses strictly rising, no entry equal to what an unlisted address reads as. -/
def Memory.wf (m : List Host.Cell) : Bool := Sparse.rising m && Memory.trimmed m

/-- Write octets from an address on. -/
def Memory.writeAll (m : List Host.Cell) : Nat → List Nat → List Host.Cell
  | _, [] => m
  | a, b :: t => Memory.writeAll (Memory.write m a (BitVec.ofNat 8 b)) (a + 1) t

/-- One octet of a page's window. -/
def State.w8 (s : State) (page off : Nat) : Nat := (Memory.read s.win (winAddr page off)).toNat

/-- n octets of a page's window. -/
def State.wBytes (s : State) (page off n : Nat) : List Nat := (List.range n).map fun i => s.w8 page (off + i)

/-- A little-endian value of n octets of a page's window (R14). -/
def State.wN (s : State) (page off n : Nat) : Nat := ofOctets (s.wBytes page off n)

/-- Two octets. -/
def State.w16 (s : State) (page off : Nat) : Nat := s.wN page off 2

/-- Four octets. -/
def State.w32 (s : State) (page off : Nat) : Nat := s.wN page off 4

/-- Write octets to a page's window. -/
def State.setBytes (s : State) (page off : Nat) (l : List Nat) : State :=
  { s with win := Memory.writeAll s.win (winAddr page off) l }

/-- Write a little-endian value of n octets to a page's window. -/
def State.setN (s : State) (page off n v : Nat) : State := s.setBytes page off (toOctets n v)

/-! ### Draws -/

/-- The next free value of the run. -/
def State.draw (s : State) : Nat × State := (Config.freeValue s.draws, { s with draws := s.draws + 1 })

/-! ### Time -/

/-- The rate R in force, limited to ±1,000 ppm (R405). -/
def State.rate (s : State) : Int := clampInt (-1099511628) 1099511628 (s.rdS TIM_RATE)

/-- Module time at a raw count (R404). -/
def State.moduleTimeAt (s : State) (c : Nat) : Int :=
  s.time.ta + ((c : Int) - s.time.ca) * 4 * (2 ^ 40 + s.rate) / 2 ^ 40

/-- Module time now, as an unsigned 64-bit count of ns (R17). -/
def State.moduleTime (s : State) : Nat := codeOf 64 (s.moduleTimeAt s.time.raw)

/-- The count of epoch ticks: one every 250 periods of the raw counter (R91). -/
def State.epoch (s : State) : Nat := s.time.raw / 250

/-- Whether CK_AON runs: never before its first start or after the loss of its supply, and always otherwise (R28, R46). -/
def State.aonRunning (s : State) : Bool := s.domains.getD 0 .stopped == .running

/-- Calendar time is valid while OSF is clear (R425). -/
def State.calValid (s : State) : Bool := s.aonRunning && !s.rdB RTC_STATUS_OSF

/-- Calendar time now. -/
def State.calNow (s : State) : CalTime := if s.aonRunning then ⟨s.cal.secs, s.cal.frac⟩ else ⟨0, 0⟩

/-! ### Silt (R509) -/

/-- Whether start-up has not yet reached t5: an event of that span is DEFERRED (R113). -/
def Phase.beforeB : Phase → Bool
  | .inReset => true
  | .phaseA => true
  | .unpowered => true
  | .hold => true
  | _ => false

/-- An event enters the Silt intake; one that finds 64 waiting counts as lost (R509, R513). -/
def State.silt (s : State) (code : Nat) (p0 p1 p2 p3 : Nat := 0) : State :=
  if s.siltIntake.length < 64 then
    { s with siltIntake := s.siltIntake ++
        [⟨code, p0 % 2 ^ 32, p1 % 2 ^ 32, p2 % 2 ^ 32, p3 % 2 ^ 32, s.calNow, s.calValid, s.startup.phase.beforeB⟩] }
  else (s.countSat SLT_LOST 1).notice SLT_NOTE_LOST

/-! ### Which pages are usable, and which domains run (R28, R110, R120, R123) -/

/-- The pages of each phase (R110). -/
def pagesA : List Nat := [0x00, 0x01]
def pagesB : List Nat := [0x1E, 0x1F, 0x20, 0x1D, 0x21, 0x22, 0x1B]

/-- Whether a page is usable: by the phase of the start, and after a start that found the state SCRAPPED only SYS, HIF and SLT (R110,
R120, R123: "Pages usable after start", log entry 127). -/
def State.live (s : State) (p : Nat) : Bool :=
  (match s.startup.phase with
   | .unpowered => false
   | .hold => false
   | .inReset => false
   | .phaseA => pagesA.contains p
   | .phaseB => pagesA.contains p || pagesB.contains p
   | .phaseC => pagesA.contains p || pagesB.contains p || p == 0x1C
   | .ready => assignedPages.contains p
   | .tested c d => pagesA.contains p || pagesB.contains p || (c && p == 0x1C) || (d && assignedPages.contains p)
   | .halted sup => pagesA.contains p || (if sup then pagesB.contains p else p == 0x1E || p == 0x20)) &&
  (!s.startup.scrapped || [0x00, 0x01, 0x1E].contains p || s.startup.phase != .ready)

/-- The clock domains that a page's unit uses, by their SYS_DOMAINS bits (R28). -/
def pageDomains (p : Nat) : List Nat :=
  if p = 0x02 ∨ p = 0x03 then [10] else if p = 0x04 then [2, 11] else if p = 0x05 ∨ p = 0x07 ∨ p = 0x21 then [2, 3] else if p = 0x0C ∨ p = 0x1B then [13]
  else if p = 0x0D then [12, 2] else if p = 0x10 then [6] else if p = 0x11 then [7] else if p = 0x12 then [8]
  else if 0x13 ≤ p ∧ p ≤ 0x16 then [9] else if p = 0x17 then [5] else if p = 0x18 then [11] else if p = 0x1D then [0] else [2]

/-- The condition of a clock domain. -/
def State.domain (s : State) (d : Nat) : DomainState := s.domains.getD d .stopped

/-- The LOGIC regions that Sieve tests in service (R518). -/
def logicRegions : List Nat := [0x18, 0x1C, 0x24, 0x28, 0x34, 0x60]

/-- Whether a LOGIC slice isolates the page's unit: a region's ID is 4 × page + r, and 0x28 is DPT's pass engine too (R518, R521). -/
def State.isolated (s : State) (p : Nat) : Bool :=
  s.siv.slices.any fun x => logicRegions.contains x.region && (x.region / 4 == p || (x.region == 0x28 && p == 0x0B))

/-- Whether a write can take effect in the page's unit: every domain of the page runs, and no slice isolates the unit (R23, R521). -/
def State.pageRuns (s : State) (p : Nat) : Bool := ((pageDomains p).all fun d => s.domain d == .running) && !s.isolated p

/-- Whether none of the page's domains is off. -/
def State.pageOn (s : State) (p : Nat) : Bool := (pageDomains p).all fun d => s.domain d != .stopped

/-- The domains that DOZE gates or stops while their units have no work: CK_SYS, CK_PCIE and CK_SWF gated, CK_DDR stopped (R28). -/
def dozeState (d : Nat) : Option DomainState :=
  if d = 2 ∨ d = 5 ∨ d = 6 then some .gated else if d = 3 then some .stopped else none

/-- Whether CK_REF runs: from t2 on, in every power state but HOLD (R28, R106). -/
def State.refRuns (s : State) : Bool := s.domain 1 == .running

/-- Put a domain's condition. -/
def putDomain (l : List DomainState) (d : Nat) (v : DomainState) : List DomainState := putAt 14 .stopped l d v

/-- The domains once work has come for those given: in DOZE, such a domain of R28 starts. -/
def State.woken (s : State) (ds : List Nat) : List DomainState :=
  if s.modes.power == .doze && s.startup.phase == .ready then
    ds.foldl (fun l d => if (dozeState d).isSome && l.getD d .stopped != .running then putDomain l d .running else l) s.domains
  else s.domains

/-- Work for a page's unit starts the domains of the page (R28, R29); the start-up time is left out (log entry 128). -/
def State.wakePage (s : State) (p : Nat) : State := { s with domains := s.woken (pageDomains p) }

/-- A transfer on the PCIe link takes it out of L1, and CK_PCIE runs (R28). -/
def State.wakeLink (s : State) : State := { s with domains := s.woken [5] }

/-- A frame received on any port or on the radio starts CK_SYS (R29). -/
def State.wakeSys (s : State) : State := { s with domains := s.woken [2] }

/-- Run an operation of a unit while its page is usable: its domains start for it (R28). A unit that is not usable does nothing. -/
def State.working (s : State) (p : Nat) (k : State → State) : State := if s.live p then k (s.wakePage p) else s

/-- Run an operation of a unit while its page is usable, for work that a domain does which DOZE leaves running; a unit that is not
usable does nothing. -/
def State.whenLive (s : State) (p : Nat) (k : State → State) : State := if s.live p then k s else s

/-- Whether the module has power and is not in HOLD: what the hardware beside SUP and the pages does goes on. -/
def State.powered (s : State) : Bool := s.startup.phase != .unpowered && s.startup.phase != .hold

/-- Whether the module runs in service: READY was set and the module is not in HOLD. -/
def State.inService (s : State) : Bool := s.startup.phase == .ready

/-- Grog takes commands from SUP only: in a start that halted before SUP the boot ROM serves GRG, which accepts only a complete image
(R120). -/
def State.whenSup (s : State) (k : State → State) : State := if s.startup.phase == .halted false then s else k s

/-- The ports' paths. -/
def State.port (s : State) : Port → PortPath
  | .lrp => s.lrp
  | .pcie => s.pcie

/-- A PCIe port's access takes the link out of L1; the LRP has no link. -/
def State.wakePort (s : State) (port : Port) : State :=
  match port with
  | .lrp => s
  | .pcie => s.wakeLink

/-- Change a port's path. -/
def State.setPort (s : State) (p : Port) (q : PortPath) : State :=
  match p with
  | .lrp => { s with lrp := q }
  | .pcie => { s with pcie := q }

end Sys2Proof.Machine
end

