-- ==== Sys2Proof/Machine/Itg.lean ====
section
/-! DEFINITION. Data integrity: uncorrectable errors, carry checks, hot locations and the scrubber (R560 to R566). -/

namespace Sys2Proof.Machine

/-- An uncorrectable error (R561, R566): its memory class, the page of its owner, the byte address of the codeword, the lowest
symbol in error, and whether the scrubber found it. -/
def State.itgUncorr (s : State) (m page addr symbol : Nat) (scrub : Bool) : State :=
  let s := (s.count (ITG_UNCORR m) 1).wrAll [(ITG_E_WHERE_MEM, m), (ITG_E_WHERE_PAGE, page), (ITG_E_ADDR_LO, addr),
    (ITG_E_ADDR_HI, addr / 2 ^ 32), (ITG_E_TIME_LO, s.moduleTime), (ITG_E_END_SYMBOLS, symbol),
    (ITG_E_END_SCRUB, if scrub then 1 else 0)]
  ((s.publish 0x22 0 (SEQ_COUNT 0x22)).notice ITG_NOTE_UNCORR).silt 0x2201 m page addr (addr / 2 ^ 32)

/-- A reader of a unit's memory meets an uncorrectable error; where in the memory it is, is free. -/
def State.itgReadError (s : State) (m page : Nat) : State :=
  let (addr, s) := s.draw
  let (symbol, s) := s.draw
  s.itgUncorr m page (addr % 2 ^ 64) (symbol % 36) false

/-- A carry check failed between two pages (R563). -/
def State.itgCarry (s : State) (receiving sending : Nat) : State :=
  ((s.count ITG_CARRY_FAIL 1).notice ITG_NOTE_CARRY).silt 0x2202 receiving sending

/-- A location was corrected three times within a scrub period (R561). -/
def State.itgHot (s : State) (m page addr : Nat) : State :=
  ((s.count ITG_HOT 1).notice ITG_NOTE_HOT).silt 0x2203 m page addr (addr / 2 ^ 32)

/-! ### The symbol code and where codewords lie (R560) -/

/-- The symbols of 4 bits, of the 36 of a codeword, that a pattern of wrong bits hits, in ascending order. -/
def symbolsHit (error : Nat) : List Nat := (List.range 36).filter fun k => error / 16 ^ k % 16 != 0

/-- The codeword that two adjacent 72-bit words of SRAM form, each with its 8 check bits above its 64 data bits. -/
def sramCodeword (low high : Nat) : Nat :=
  low % 2 ^ 64 + 2 ^ 64 * (high % 2 ^ 64) + 2 ^ 128 * (low / 2 ^ 64 % 2 ^ 8) + 2 ^ 136 * (high / 2 ^ 64 % 2 ^ 8)

/-- The number of DRAM's codewords: 28 in each run of 512 octets of 4 GiB, so that 3.5 GiB hold data. -/
def dramWords : Nat := 2 ^ 32 / 512 * 28

/-- The device address of a DRAM codeword's data, in the first seven bursts of its run, and of its two octets of check bits in the
eighth. -/
def dramData (n : Nat) : Nat := n / 28 * 512 + n % 28 * 16
def dramCheck (n : Nat) : Nat := n / 28 * 512 + 448 + n % 28 * 2

/-- Whether a device address lies in the last 8 octets of a run, which are unused and read as 0. -/
def dramUnused (a : Nat) : Bool := 504 ≤ a % 512

/-- The byte address of the n-th codeword in a memory class: 0 is DRAM. -/
def codewordAddr (m n : Nat) : Nat := if m = 0 then dramData n else n * 16

/-- What the code makes of a codeword: nothing wrong, a corrected symbol, or an error it detects, with the lowest symbol in error. It
corrects any one symbol and detects any two; what it makes of more is free, by `draw` (R560). -/
inductive CodeCheck where
  | good | corrected | failed (symbol : Nat)
deriving DecidableEq, Repr

def codeCheck (error draw : Nat) : CodeCheck :=
  match symbolsHit error with
  | [] => .good
  | [_] => .corrected
  | [a, _] => .failed a
  | a :: _ => if draw % 3 = 0 then .failed a else if draw % 3 = 1 then .corrected else .good

/-- The scrubber reads one codeword (R561, R562): whether its owner loses what it holds, and the state after. -/
def State.itgRead (s : State) (m : Nat) (e : ScrubFound) : Bool × State :=
  let (draw, s) := s.draw
  match codeCheck e.error draw with
  | .good => (false, s)
  | .corrected =>
    let s := s.count (ITG_CORR m) 1
    (false, if e.third then s.itgHot m e.page (codewordAddr m e.word) else s)
  | .failed symbol => (true, s.itgUncorr m e.page (codewordAddr m e.word) symbol true)

end Sys2Proof.Machine
end

