-- ==== Sys2Proof/Machine/HostBase.lean ====
section
/-! DEFINITION. What every host write has in common: its page must be usable (R110), and its taking effect aborts the
other port's transactions that have staged the same register (R96). -/

namespace Sys2Proof.Machine

/-- A tag is open while it is OPEN or COMMITTING (R92). -/
def Tag.isOpen (t : Tag) : Bool := t.state == .opened || t.state == .committing

/-- Whether the tag has staged a write to a word. -/
def Tag.stages (t : Tag) (bar2 : Bool) (addr : Nat) : Bool :=
  t.staged.any fun w => w.bar2 == bar2 && w.addr / 4 == addr / 4

/-- HIF_TXN_INFO of a conflict: bit 31 the space, bits 29:0 the byte address of the word (R100). -/
def conflictInfo (bar2 : Bool) (addr : Nat) : Nat := (if bar2 then 2 ^ 31 else 0) + addr / 4 * 4 % 2 ^ 30

/-- A tag that aborts with CONFLICT when it has staged the word (R96). COUNT goes on showing what it had staged; none of it is applied (log entry 17). -/
def Tag.conflict (bar2 : Bool) (addr : Nat) (t : Tag) : Tag :=
  if t.isOpen && t.stages bar2 addr then ⟨.aborted, t.staged, 1, conflictInfo bar2 addr, 0⟩ else t

/-- A write by `port` takes effect in a word: the other port's tags that have staged the word abort (R96). -/
def State.hostWrote (s : State) (port : Port) (bar2 : Bool) (addr : Nat) : State :=
  let q := s.port port.other
  let hit := q.tags.any fun t => t.isOpen && t.stages bar2 addr
  if hit then (s.setPort port.other { q with tags := q.tags.map (Tag.conflict bar2 addr) }).notice HIF_NOTE_TXN_ABORT
  else s

/-- A write of `port` to the register at `addr` takes effect in its unit as `k` says, where the page is usable. The write is work for
the unit, so its domains start; while one of them cannot run yet, the write is held and does not take effect (R23, R28). -/
def State.effect (s : State) (port : Port) (addr : Nat) (k : State → State) : State :=
  s.working (addr / 0x1000) fun s => if s.pageRuns (addr / 0x1000) then k (s.hostWrote port false addr) else s

/-- The words a read gave to the port. -/
def State.setRead (s : State) (port : Port) (l : List Nat) : State :=
  s.setPort port { s.port port with readData := l }

end Sys2Proof.Machine
end

