-- ==== Sys2Proof/Machine/Slip.lean ====
section
/-! DEFINITION. Slip queues (R432 to R452, R569). Queues are numbered as SLQ_ERR.QUEUE numbers them: 0 to 15 uplink,
16 to 23 downlink 0 to 7. -/

namespace Sys2Proof.Machine

/-- The words an uplink read returns when there is nothing to deliver (R436). -/
def idleWord : Nat := 0x00008000

/-- Cells that a packet of w payload words occupies, its length word counted (R433). -/
def cellsOf (w : Nat) : Nat := (w + 1 + 15) / 16

end Sys2Proof.Machine

namespace Sys2Proof

/-- A packet's length word (R435). -/
def Packet.lengthWord (p : Packet) : Nat :=
  p.words.length % 2 ^ 13 + 2 ^ 13 * (p.pad % 4) + 2 ^ 16 * (p.prio % 8) + 2 ^ 24 * (p.kind % 256)

/-- Cells that a packet occupies (R433). -/
def Packet.cells (p : Packet) : Nat := Machine.cellsOf p.words.length

end Sys2Proof

namespace Sys2Proof.Machine

/-- Byte addresses of the queues' data and command registers (R452). -/
def SLQ_U_CMD (q : Nat) : Nat := 0x1A10C + 0x20 * q
def SLQ_D_DATA (d : Nat) : Nat := 0x1A308 + 0x20 * d
def SLQ_D_COMMIT (d : Nat) : Nat := 0x1A30C + 0x20 * d
def SLQ_CMD (q : Nat) : Nat := if q < 16 then SLQ_U_CMD q else 0x1A31C + 0x20 * (q - 16)

/-- Queue fields by direction: the uplink's or the downlink's register of the same name. -/
def qField (up down : Nat → Field) (q : Nat) : Field := if q < 16 then up q else down (q - 16)

def qCells : Nat → Field := qField SLQ_U_CFG_CELLS SLQ_D_CFG_CELLS
def qPolicy : Nat → Field := qField SLQ_U_CFG_POLICY SLQ_D_CFG_POLICY
def qWmark : Nat → Field := qField SLQ_U_WM_WMARK SLQ_D_WM_WMARK
def qTimeout : Nat → Field := qField SLQ_U_WM_TIMEOUT SLQ_D_WM_TIMEOUT
def qMax : Nat → Field := qField SLQ_U_LEVEL_LEVEL_MAX SLQ_D_LEVEL_LEVEL_MAX
def qStatWm : Nat → Field := qField SLQ_U_STAT_WM SLQ_D_STAT_WM
def qStatTo : Nat → Field := qField SLQ_U_STAT_TO SLQ_D_STAT_TO
def qStatDropped : Nat → Field := qField SLQ_U_STAT_DROPPED SLQ_D_STAT_DROPPED
def qStatCorrupt : Nat → Field := qField SLQ_U_STAT_CORRUPT SLQ_D_STAT_CORRUPT
def qDrops : Nat → Field := qField SLQ_U_DROPS SLQ_D_DROPS

/-- A queue by its number. -/
def State.queue (s : State) (q : Nat) : SlipQueue :=
  if q < 16 then s.slqUp.getD q .empty else s.slqDown.getD (q - 16) .empty

/-- Put a queue. -/
def State.setQueue (s : State) (q : Nat) (v : SlipQueue) : State :=
  if q < 16 then { s with slqUp := putAt 16 .empty s.slqUp q v } else { s with slqDown := putAt 8 .empty s.slqDown (q - 16) v }

/-- Whether a packet is among those held behind the mark. -/
def SlipQueue.holds (v : SlipQueue) (p : Packet) : Bool := v.held.any fun h => h.serial == p.serial

/-- LEVEL: cells of the packets in the queue, of the held ones, and of the packet in progress (R433). -/
def SlipQueue.level (v : SlipQueue) : Nat :=
  (v.eligible.map Packet.cells).sum + (v.held.map Packet.cells).sum +
  ((v.replay.filter fun p => !v.holds p).map Packet.cells).sum +
  (match v.owned with
   | none => 0
   | some o => if v.holds o.packet then 0 else o.packet.cells) +
  (match v.building with
   | none => 0
   | some b => if b.dead then 0 else cellsOf b.words.length)

/-- LEVEL as the registers show it: a producer that stalls has reserved every free cell for its packet in progress (R433, R444). -/
def State.slqLevel (s : State) (q : Nat) : Nat :=
  if (s.queue q).stalled.isEmpty then (s.queue q).level else max (s.queue q).level (s.rd (qCells q))

/-- LEVEL has stood at `lvl`: LEVEL_MAX follows it, and STAT.WM and its notice are set at or above WMARK (R446). -/
def State.slqReached (s : State) (q lvl : Nat) : State :=
  let s := if s.rd (qMax q) < lvl then s.wr (qMax q) lvl else s
  if s.rd (qWmark q) ≠ 0 ∧ s.rd (qWmark q) ≤ lvl then (s.wr (qStatWm q) 1).notice SLQ_NOTE_WMARK else s

/-- After a change of a queue its LEVEL stands. -/
def State.slqSettle (s : State) (q : Nat) : State := s.slqReached q (s.slqLevel q)

/-- SLQ_ERR and its notice (R443). -/
def State.slqErr (s : State) (q reason : Nat) : State :=
  ((s.wr SLQ_ERR_QUEUE q).wr SLQ_ERR_REASON reason).notice SLQ_NOTE_ERR

/-- A packet is lost under DROP_NEWEST (R444). -/
def State.slqDropNewest (s : State) (q : Nat) : State :=
  ((s.count (qDrops q) 1).wr (qStatDropped q) 1).notice SLQ_NOTE_DROP

/-- The next order number of completion. -/
def SlipQueue.nextSerial (v : SlipQueue) : Nat :=
  let f := fun (a : Nat) (p : Packet) => max a (p.serial + 1)
  let a := v.replay.foldl f (v.held.foldl f (v.eligible.foldl f 0))
  match v.owned with
  | none => a
  | some o => max a (o.packet.serial + 1)

/-- The eligible packets: a packet stays eligible until it is consumed by the read of its last word (R437, R438), so the
one a port owns counts, and so do those that a REWIND queued. DEDUCED, log entry 18. -/
def SlipQueue.ready (v : SlipQueue) : List Packet :=
  (match v.owned with
   | none => []
   | some o => [o.packet]) ++ v.replay ++ v.eligible

/-- A complete packet whose carry check holds becomes eligible; AVAIL is set if the uplink queue had none (R437), and the timer's spell
begins (R447). -/
def State.slqAdmit (s : State) (q : Nat) (p : Packet) : State :=
  let v := s.queue q
  let was := v.ready.isEmpty
  let s := s.setQueue q { v with eligible := v.eligible ++ [{ p with serial := v.nextSerial }], timerFired := v.timerFired && !was }
  let s := s.slqSettle q
  if q < 16 && was then s.notice (SLQ_NOTE_AVAIL q) else s

/-- The page of a queue's producer (R432); the host's packets come through HIF. -/
def producerPage (q : Nat) : Nat := [0x06, 0x0C, 0x1B, 0x20, 0x1F, 0x1E, 0x1C].getD q 0x01

/-- A complete packet whose carry check fails is dropped whole (R437, R563). -/
def State.slqCorruptDrop (s : State) (q : Nat) : State :=
  (((s.count (qDrops q) 1).wr (qStatCorrupt q) 1).notice SLQ_NOTE_CORRUPT).itgCarry 0x1A (producerPage q)

/-- Uplink queues have a producer up to U6 (R432). -/
def hasProducer (q : Nat) : Bool := q < 7

/-- Downlink queues have a consumer up to D2 (R432). -/
def hasConsumer (d : Nat) : Bool := d < 3

/-- A packet of the cells given is verified: it is admitted, or it is dropped after LEVEL stood at what it had reserved (R433, R437,
R446). -/
def State.slqVerify (s : State) (q : Nat) (p : Packet) (carry : Bool) : State :=
  if carry then s.slqAdmit q p else (s.slqReached q (s.slqLevel q + p.cells)).slqCorruptDrop q

/-- A producer writes a packet to an uplink queue: discarded while EN is 0 (R569); on a full queue POLICY decides, and
U0 and U1 always drop the newest (R444): the packet had reserved every free cell before it met full (R433, R446). -/
def State.slqPut (s : State) (q : Nat) (p : Packet) (carry : Bool) : State :=
  if !hasProducer q then s
  else if !s.rdB SLQ_CTRL_EN then s.slqDropNewest q
  else if s.rd (qPolicy q) = 0 ∧ 2 ≤ q ∧ (!(s.queue q).stalled.isEmpty ∨ s.rd (qCells q) < (s.queue q).level + p.cells) then
    (s.setQueue q { s.queue q with stalled := (s.queue q).stalled ++ [(p, carry)] }).slqSettle q
  else if s.rd (qCells q) < s.slqLevel q + p.cells then (s.slqReached q (max (s.slqLevel q) (s.rd (qCells q)))).slqDropNewest q
  else s.slqVerify q p carry

/-- A unit reports a record: the packet's carry check holds. While the queues' page is not usable there is no queue to
take it, as at a start before t11 (R110, R450). -/
def State.slqPush (s : State) (q kind prio : Nat) (words : List Nat) (pad : Nat := 0) : State :=
  s.whenLive 0x1A fun s => s.slqPut q ⟨0, kind, prio, pad, words⟩ true

/-- The stalled producer's packets that now fit are completed and verified in order (R437, R444). -/
def State.slqResumeN (s : State) (q : Nat) : Nat → State
  | 0 => s
  | n + 1 =>
    match (s.queue q).stalled with
    | [] => s
    | (p, carry) :: rest =>
      if s.rd (qCells q) < (s.queue q).level + p.cells then s
      else ((s.setQueue q { s.queue q with stalled := rest }).slqVerify q p carry).slqResumeN q n

/-- The head of a queue: its eligible packet of highest PRIO that became complete first (R438). -/
def headOf : List Packet → Option Packet
  | [] => none
  | p :: t =>
    match headOf t with
    | none => some p
    | some r => if p.prio < r.prio then some r else some p

/-- Without a packet of a given order number. -/
def without (l : List Packet) (n : Nat) : List Packet := l.filter fun p => p.serial != n

/-- The packet that the next length read returns: the packets a rewind queued come first (R445), then the head. -/
def SlipQueue.nextPacket (v : SlipQueue) : Option Packet :=
  match v.replay with
  | p :: _ => some p
  | [] => headOf v.eligible

/-- Take that packet out of its list. -/
def SlipQueue.takeNext (v : SlipQueue) : SlipQueue :=
  match v.replay with
  | _ :: t => { v with replay := t }
  | [] =>
    match headOf v.eligible with
    | none => v
    | some p => { v with eligible := without v.eligible p.serial }

/-- A packet is consumed: it is held while a mark stands, and freed otherwise (R445). The timer starts afresh (R447). -/
def SlipQueue.consume (v : SlipQueue) (p : Packet) : SlipQueue :=
  { v with
    owned := none
    held := if v.marked && !v.holds p then v.held ++ [p] else v.held
    timerFired := false }

/-- The last packet of which a port read the length word. -/
def SlipQueue.lastRead (v : SlipQueue) : Port → Option Nat
  | .lrp => v.lastLrp
  | .pcie => v.lastPcie

/-- A read of an uplink queue by a port (R436, R438 to R441, R569): the word it returns and the state after it. -/
def State.slqRead (s : State) (port : Port) (q : Nat) : Nat × State :=
  let v := s.queue q
  if !s.rdB SLQ_CTRL_EN then (idleWord, s)
  else
    match v.owned with
    | some o =>
      if o.port ≠ port then (idleWord, s.slqErr q 3)
      else
        let w := if o.corrupt then idleWord else o.packet.words.getD o.pos 0
        if o.pos + 1 < o.packet.words.length then
          (w, s.setQueue q { v with owned := some { o with pos := o.pos + 1 } })
        else
          (w, ((s.setQueue q (v.consume o.packet)).slqSettle q).slqResumeN q v.stalled.length)
    | none =>
      match v.nextPacket with
      | none => (idleWord, s)
      | some p =>
        let v' := v.takeNext
        let v' := match port with
          | .lrp => { v' with lastLrp := some p.serial }
          | .pcie => { v' with lastPcie := some p.serial }
        (p.lengthWord, s.setQueue q { v' with owned := some ⟨p, 0, port, false⟩ })

/-- An uncorrectable error is found in the packet that the port is reading: delivery ends (R441, R561). -/
def State.slqSpoil (s : State) (port : Port) (q : Nat) : State :=
  match (s.queue q).owned with
  | some o =>
    if o.port = port ∧ !o.corrupt then
      (((s.setQueue q { s.queue q with owned := some { o with corrupt := true } }).wr (qStatCorrupt q) 1).notice
        SLQ_NOTE_CORRUPT).itgReadError 1 0x1A
    else s
  | none => s

/-- The scrubber finds such an error in the packet that a port is reading (R441, R561). -/
def State.slqLose (s : State) (q : Nat) : State :=
  match (s.queue q).owned with
  | some o =>
    ((s.setQueue q { s.queue q with owned := some { o with corrupt := true } }).wr (qStatCorrupt q) 1).notice SLQ_NOTE_CORRUPT
  | none => s

/-- DROP: the packet that the port owns is consumed (R442). -/
def State.slqDrop (s : State) (port : Port) (q : Nat) : State :=
  let v := s.queue q
  match v.owned with
  | some o =>
    if o.port = port then ((s.setQueue q (v.consume o.packet)).slqSettle q).slqResumeN q v.stalled.length else s
  | none => s

/-- MARK, REWIND and CLEAR_MARK are taken from the port that owns the packet, or from either when none is owned (R445). -/
def SlipQueue.takesMark (v : SlipQueue) (port : Port) : Bool :=
  match v.owned with
  | none => true
  | some o => o.port == port

/-- The packets from the one with a given number on. -/
def fromSerial : List Packet → Nat → List Packet
  | [], _ => []
  | p :: t, n => if p.serial = n then p :: t else fromSerial t n

/-- MARK on the packet whose length word the port last read: the packets held before it are freed (R445). -/
def State.slqMark (s : State) (port : Port) (q : Nat) : State :=
  let v := s.queue q
  if !v.takesMark port then s
  else
    match v.owned with
    | some o =>
      ((s.setQueue q { v with
          marked := true
          held := if v.holds o.packet then fromSerial v.held o.packet.serial else [o.packet] }).slqSettle q).slqResumeN q
        v.stalled.length
    | none =>
      match v.lastRead port with
      | none => s
      | some n =>
        match fromSerial v.held n with
        | [] => s
        | l => ((s.setQueue q { v with marked := true, held := l }).slqSettle q).slqResumeN q v.stalled.length

/-- REWIND: the next length reads return the marked packet and the held packets again (R445). A packet that is being read or was to be
read again, and is not held, goes back to its place. -/
def State.slqRewind (s : State) (port : Port) (q : Nat) : State :=
  let v := s.queue q
  if !v.takesMark port || !v.marked then s
  else
    let back := match v.owned with
      | none => []
      | some o => if v.holds o.packet then [] else [o.packet]
    s.setQueue q { v with owned := none, replay := v.held, eligible := back ++ (v.replay.filter fun p => !v.holds p) ++ v.eligible }

/-- CLEAR_MARK: every held packet is freed and the mark is cleared (R445). -/
def State.slqClearMark (s : State) (port : Port) (q : Nat) : State :=
  let v := s.queue q
  if !v.takesMark port then s
  else
    ((s.setQueue q { v with
        marked := false, held := [], replay := v.replay.filter fun p => !v.holds p }).slqSettle q).slqResumeN q
      v.stalled.length

/-- CLR_MAX: LEVEL_MAX takes the current LEVEL (R446). -/
def State.slqClrMax (s : State) (q : Nat) : State := s.wr (qMax q) (s.slqLevel q)

/-- FLUSH: every packet, complete or held, is discarded and the mark clears (R445). -/
def State.slqFlush (s : State) (q : Nat) : State :=
  let v := s.queue q
  ((s.setQueue q { v with
      eligible := [], owned := none, held := [], marked := false, replay := [], timerFired := false }).slqSettle q).slqResumeN
    q v.stalled.length

/-- The situations of R443 and R569 in which a payload word is discarded at once, with the reason. -/
def State.slqDownRefused (s : State) (port : Port) (d : Nat) : Option Nat :=
  if !s.rdB SLQ_CTRL_EN || !hasConsumer d || s.rd (SLQ_D_CFG_CELLS d) == 0 then some 4
  else
    match (s.queue (16 + d)).building with
    | some b => if b.port = port then none else some 3
    | none => none

/-- Whether a downlink write has to wait in the posting path: the queue is full and POLICY is STALL (R444). -/
def State.slqDownStalls (s : State) (port : Port) (d : Nat) : Bool :=
  (s.slqDownRefused port d).isNone && s.rd (SLQ_D_CFG_POLICY d) == 0 &&
  (match (s.queue (16 + d)).building with
   | some b =>
     !b.dead && b.words.length < 4096 && cellsOf (b.words.length + 1) ≤ s.rd (SLQ_D_CFG_CELLS d) &&
     s.rd (SLQ_D_CFG_CELLS d) < (s.queue (16 + d)).level - cellsOf b.words.length + cellsOf (b.words.length + 1)
   | none => s.rd (SLQ_D_CFG_CELLS d) < (s.queue (16 + d)).level + 1)

/-- The open packet is discarded; its later words are ignored until COMMIT or ABORT. It counts once in DROPS (R443). -/
def State.slqKillOpen (s : State) (d : Nat) (b : OpenPacket) : State :=
  (s.setQueue (16 + d) { s.queue (16 + d) with building := some { b with words := [], dead := true } }).count (SLQ_D_DROPS d) 1

/-- A write to a downlink queue appends a payload word, opening a packet if none is open (R443, R444). -/
def State.slqDownWord (s : State) (port : Port) (d w : Nat) : State :=
  match s.slqDownRefused port d with
  | some r => s.slqErr (16 + d) r
  | none =>
    if s.slqDownStalls port d then s
    else
      let v := s.queue (16 + d)
      match v.building with
      | none =>
        if s.rd (SLQ_D_CFG_CELLS d) < v.level + 1 then
          (s.setQueue (16 + d) { v with building := some ⟨[], port, true⟩ }).slqDropNewest (16 + d)
        else (s.setQueue (16 + d) { v with building := some ⟨[w % 2 ^ 32], port, false⟩ }).slqSettle (16 + d)
      | some b =>
        if b.dead then s
        else if b.words.length = 4096 ∨ s.rd (SLQ_D_CFG_CELLS d) < cellsOf (b.words.length + 1) then
          (s.slqKillOpen d b).slqErr (16 + d) 2
        else if s.rd (SLQ_D_CFG_CELLS d) < v.level - cellsOf b.words.length + cellsOf (b.words.length + 1) then
          ((s.setQueue (16 + d) { v with building := some { b with words := [], dead := true } }).slqDropNewest (16 + d))
        else
          (s.setQueue (16 + d) { v with building := some { b with words := b.words ++ [w % 2 ^ 32] } }).slqSettle (16 + d)

/-- A COMMIT writes the length word and completes the packet, or is discarded (R443). -/
def State.slqDownCommit (s : State) (port : Port) (d len : Nat) : State :=
  match s.slqDownRefused port d with
  | some r => (s.slqErr (16 + d) r).count (SLQ_D_DROPS d) 1
  | none =>
    let v := s.queue (16 + d)
    match v.building with
    | none => (s.slqErr (16 + d) 6).count (SLQ_D_DROPS d) 1
    | some b =>
      let closed := s.setQueue (16 + d) { v with building := none }
      if b.dead then closed
      else if bitsOf len 0 13 ≠ b.words.length then (closed.count (SLQ_D_DROPS d) 1).slqErr (16 + d) 1
      else closed.slqAdmit (16 + d) ⟨0, bitsOf len 24 8, bitsOf len 16 3, bitsOf len 13 2, b.words⟩

/-- ABORT discards the open packet without ERR (R443). -/
def State.slqAbort (s : State) (d : Nat) : State :=
  let v := s.queue (16 + d)
  match v.building with
  | none => s
  | some b =>
    let s := s.setQueue (16 + d) { v with building := none }
    if b.dead then s else s.count (SLQ_D_DROPS d) 1

/-- What a consuming unit takes next: the head (R438), but Hardpan ignores PRIO and takes D2 in order ("Key operations", before R487). -/
def consumerHead (d : Nat) (l : List Packet) : Option Packet := if d = 2 then l.head? else headOf l

/-- A consuming unit takes a packet of a downlink queue, unless EN is 0 (R438, R569). -/
def State.slqTake (s : State) (d : Nat) : Option (Packet × State) :=
  if !s.rdB SLQ_CTRL_EN then none
  else
    match consumerHead d (s.queue (16 + d)).eligible with
    | none => none
    | some p =>
      some (p, s.setQueue (16 + d) { s.queue (16 + d) with
        eligible := without (s.queue (16 + d)).eligible p.serial, timerFired := false })

/-- The cells of all 24 queues (R434). -/
def State.slqTotalCells (s : State) : Nat := ((List.range 24).map fun q => s.rd (qCells q)).sum

/-- Whether CELLS may take a value: only at LEVEL 0 and within the total of 8,192 cells (R434). -/
def State.slqCellsOk (s : State) (q n : Nat) : Bool :=
  s.slqLevel q == 0 && Nat.ble (s.slqTotalCells - s.rd (qCells q) + n % 2 ^ 14) 8192

/-- A write to CELLS takes effect, or is refused and changes nothing (R434). -/
def State.slqSetCells (s : State) (q n : Nat) : State :=
  if s.slqCellsOk q n then s.wr (qCells q) n else s.slqErr q 5

/-- SLQ_CTRL.EN: where it becomes 0 the producers that wait lose their packets, since none waits then (R569). -/
def State.slqEnable (s : State) (en : Bool) : State :=
  let s := s.wrB SLQ_CTRL_EN en
  if en then s
  else (List.range 16).foldl (fun s q =>
    let n := (s.queue q).stalled.length
    if n = 0 then s
    else ((s.setQueue q { s.queue q with stalled := [] }).slqDropNewest q).count (qDrops q) (n - 1)) s

/-- A queue's timer reaches TIMEOUT ms: once for each spell in which the queue holds an eligible packet (R447). -/
def State.slqTimerExpires (s : State) (q : Nat) : State :=
  let v := s.queue q
  if s.rdB SLQ_CTRL_EN && s.rd (qTimeout q) != 0 && !v.ready.isEmpty && !v.timerFired then
    ((s.setQueue q { v with timerFired := true }).wr (qStatTo q) 1).notice SLQ_NOTE_TIMEOUT
  else s

/-- PCIE_PERST_N releases the PCIe port's ownership: the next reader receives the packet again (R440). -/
def SlipQueue.perst (v : SlipQueue) : SlipQueue :=
  match v.owned with
  | some o => if o.port = .pcie then { v with owned := none, replay := o.packet :: v.replay } else v
  | none => v

/-- PCIE_PERST_N on every queue: ownership released, and an open PCIe packet discarded without ERR (R440, R443). -/
def State.slqPerst (s : State) : State :=
  let s := { s with slqUp := s.slqUp.map SlipQueue.perst }
  (List.range 8).foldl (fun s d =>
    match (s.queue (16 + d)).building with
    | some b => if b.port = .pcie then s.slqAbort d else s
    | none => s) s

/-! ### The commands -/

/-- The carry check of the packet that was last completed in downlink queue d fails, as it stands at t1 (R437): it is dropped whole. -/
def State.slqDownSpoilt (s : State) (d : Nat) : State :=
  let v := s.queue (16 + d)
  if v.eligible.isEmpty then s
  else (s.setQueue (16 + d) { v with eligible := v.eligible.dropLast }).slqCorruptDrop (16 + d)

/-- SLQ_PACKET_COMPLETE (R437, R444, R569): a producer writes its packet's length word; `carry` says whether the carry
check holds. For a downlink queue, whose packet a COMMIT completes, the command says only what the check finds. DESIGN CHOICE, log
entry 175. -/
def execSlqPacketComplete (q kind prio pad : Nat) (words : List Nat) (carry : Bool) (s : State) :
    Host.Outcome State Fault Refusal :=
  .next (s.working 0x1A fun s =>
    if q < 16 then s.slqPut q ⟨0, kind, prio, pad, words⟩ carry else if carry then s else s.slqDownSpoilt (q - 16))

/-- SLQ_STALL_RESUME (R444). -/
def execSlqStallResume (q : Nat) (s : State) : Host.Outcome State Fault Refusal :=
  .next (s.working 0x1A fun s => s.slqResumeN q (s.queue q).stalled.length)

/-- A read of an uplink queue's data as the port sees it: 0 while the page is not usable (R8, R110). -/
def State.slqPortRead (s : State) (port : Port) (q : Nat) : State :=
  if s.live 0x1A then (s.slqRead port q).2.setRead port [(s.slqRead port q).1] else s.setRead port [0]

/-- SLQ_UPLINK_READ (R436, R438 to R441): `spoiled` says that an uncorrectable error is found in the packet at this read. -/
def execSlqUplinkRead (port : Port) (q : Nat) (spoiled : Bool) (s : State) : Host.Outcome State Fault Refusal :=
  .next ((if spoiled && s.live 0x1A then s.slqSpoil port q else s).slqPortRead port q)

/-- SLQ_DROP (R442). -/
def execSlqDrop (port : Port) (q : Nat) (s : State) : Host.Outcome State Fault Refusal :=
  .next (s.effect port (SLQ_U_CMD q) fun s => s.slqDrop port q)

/-- SLQ_MARK (R445). -/
def execSlqMark (port : Port) (q : Nat) (s : State) : Host.Outcome State Fault Refusal :=
  .next (s.effect port (SLQ_U_CMD q) fun s => s.slqMark port q)

/-- SLQ_REWIND (R445). -/
def execSlqRewind (port : Port) (q : Nat) (s : State) : Host.Outcome State Fault Refusal :=
  .next (s.effect port (SLQ_U_CMD q) fun s => s.slqRewind port q)

/-- SLQ_CLEAR_MARK (R445). -/
def execSlqClearMark (port : Port) (q : Nat) (s : State) : Host.Outcome State Fault Refusal :=
  .next (s.effect port (SLQ_U_CMD q) fun s => s.slqClearMark port q)

/-- SLQ_CLR_MAX (R446), of any of the 24 queues. -/
def execSlqClrMax (port : Port) (q : Nat) (s : State) : Host.Outcome State Fault Refusal :=
  .next (s.effect port (SLQ_CMD q) fun s => s.slqClrMax q)

/-- SLQ_FLUSH (R445), of any of the 24 queues. -/
def execSlqFlush (port : Port) (q : Nat) (s : State) : Host.Outcome State Fault Refusal :=
  .next (s.effect port (SLQ_CMD q) fun s => s.slqFlush q)

/-- SLQ_DOWNLINK_COMMIT (R443). -/
def execSlqDownlinkCommit (port : Port) (d len : Nat) (s : State) : Host.Outcome State Fault Refusal :=
  .next (s.effect port (SLQ_D_COMMIT d) fun s => s.slqDownCommit port d len)

/-- SLQ_ABORT (R443). -/
def execSlqAbort (port : Port) (d : Nat) (s : State) : Host.Outcome State Fault Refusal :=
  .next (s.effect port (SLQ_CMD (16 + d)) fun s => s.slqAbort d)

/-- SLQ_CELLS_WRITE (R434). -/
def execSlqCellsWrite (port : Port) (q n : Nat) (s : State) : Host.Outcome State Fault Refusal :=
  .next (s.effect port (qCells q).addr fun s => s.slqSetCells q n)

/-- SLQ_TIMEOUT (R447). -/
def execSlqTimeout (q : Nat) (s : State) : Host.Outcome State Fault Refusal :=
  .next (s.working 0x1A fun s => s.slqTimerExpires q)

/-- SLQ_ENABLE_WRITE (R569). -/
def execSlqEnableWrite (port : Port) (en : Bool) (s : State) : Host.Outcome State Fault Refusal :=
  .next (s.effect port SLQ_CTRL_EN.addr fun s => s.slqEnable en)

end Sys2Proof.Machine
end

