-- ==== Sys2Proof/Machine/Silt.lean ====
section
/-! DEFINITION. The Silt event recorder (R507 to R517). -/

namespace Sys2Proof.Machine

/-- The eight words of a record's 32 bytes (R507). -/
def SiltRecord.words (r : SiltRecord) : List Nat :=
  let e := r.event
  [e.code % 2 ^ 16 + (if e.valid then 2 ^ 16 else 0) + (if e.deferred then 2 ^ 17 else 0),
   e.time.secs % 2 ^ 32, e.time.secs / 2 ^ 32 % 2 ^ 16 + 2 ^ 16 * (e.time.frac % 2 ^ 16),
   e.p0, e.p1, e.p2, e.p3, r.repeats % 2 ^ 16]

/-- Whether an event repeats the newest record: its CODE and parameters are equal and REPEAT is below 65,535 (R510). -/
def SiltRecord.repeatedBy (r : SiltRecord) (e : SiltEvent) : Bool :=
  r.event.code == e.code && r.event.p0 == e.p0 && r.event.p1 == e.p1 && r.event.p2 == e.p2 && r.event.p3 == e.p3 &&
  r.repeats < 65535

/-- The newest record's REPEAT rises (R510). -/
def bumpLast : List SiltRecord → List SiltRecord
  | [] => []
  | [r] => [{ r with repeats := r.repeats + 1 }]
  | r :: t => r :: bumpLast t

/-- SLT_CHANGE passes through the next odd value and comes to rest at the next even one (R515). -/
def State.siltChanged (s : State) : State := s.wr SLT_CHANGE (s.rd SLT_CHANGE / 2 * 2 + 2)

/-- An event finds the log full: it counts as lost, and FULL is set (R511). -/
def State.siltFull (s : State) : State :=
  ((((s.countSat SLT_LOST 1).notice SLT_NOTE_LOST).noticeIf (s.rd SLT_STATUS_FULL = 0) SLT_NOTE_FULL).wr SLT_STATUS_FULL 1)

/-- The log with a new record, which is copied to U5 with COPY_EN (R514). -/
def State.siltPut (s : State) (log : List SiltRecord) (r : SiltRecord) : State :=
  let s := ({ s with siltLog := log ++ [r] }.siltChanged).notice SLT_NOTE_RECORD
  if s.rdB SLT_CTRL_COPY_EN then s.slqPush 5 0x01 3 r.words else s

/-- A new record with REPEAT 1 (R510). -/
def State.siltNew (s : State) (e : SiltEvent) : State := s.siltPut s.siltLog ⟨e, 1⟩

/-- One event is written: as a repeat of the newest record, as a new record, or counted as lost (R509 to R511, R514). -/
def State.siltWrite (s : State) (e : SiltEvent) : State :=
  if 4096 ≤ s.siltLog.length then s.siltFull
  else
    match s.siltLog.getLast? with
    | some r =>
      if r.repeatedBy e then
        ({ s with siltLog := bumpLast s.siltLog }.siltChanged).wrAll
          [(SLT_REPEAT_TIME_LO, e.time.secs), (SLT_REPEAT_TIME_HI_SECONDS, e.time.secs / 2 ^ 32),
           (SLT_REPEAT_TIME_HI_FRACTION, e.time.frac)]
      else s.siltNew e
    | none => s.siltNew e

/-- Whether SLT may start a record now: SUP or the boot ROM serves the page, PWR_GOOD is high and the write guard is off
(R42, R513). -/
def State.siltMayWrite (s : State) : Bool := s.live 0x1E && s.startup.pwrGood && s.rd SLT_STATUS_GUARD == 0

/-- The next event of the intake is written (R509). -/
def State.siltNext (s : State) : State :=
  match s.siltIntake with
  | [] => s
  | e :: t => if s.siltMayWrite then { s with siltIntake := t }.siltWrite e else s

/-- Every event that waits is written, in order. -/
def State.siltDrain (s : State) : State := iterate State.siltNext s.siltIntake.length s

/-- The log restarts with a log-cleared record (R512, R516); `by_` is 0 LRP, 1 PCIe, 2 boot ROM. -/
def State.siltClear (s : State) (by_ : Nat) : State :=
  let e : SiltEvent := ⟨0x1E01, s.siltLog.length, s.rd SLT_LOST, by_, 0, s.calNow, s.calValid, false⟩
  (((s.siltPut [] ⟨e, 1⟩).wr SLT_LOST 0).wr SLT_STATUS_FULL 0).notice SLT_NOTE_CLEARED

/-- SILT_EVENT (R509). -/
def execSiltEvent (code p0 p1 p2 p3 : Nat) (s : State) : Host.Outcome State Fault Refusal :=
  .next (s.silt code p0 p1 p2 p3)

/-- SILT_RECORD_WRITE (R509 to R511). -/
def execSiltRecordWrite (s : State) : Host.Outcome State Fault Refusal :=
  .next s.siltNext

/-- A write of SLT_CMD with CLEAR 1 and the correct KEY clears the log; with any other KEY it is discarded (R516). -/
def State.sltCmd (s : State) (port : Port) (clear : Bool) (key : Nat) : State :=
  if clear && key == 0x51C7 then s.siltClear (if s.startup.phase == .halted false then 2 else port.code) else s

/-- SLT_CLEAR (R516). -/
def execSltClear (port : Port) (key : Nat) (s : State) : Host.Outcome State Fault Refusal :=
  .next (s.effect port SLT_CMD_CLEAR.addr fun s => s.sltCmd port true key)

end Sys2Proof.Machine
end

