-- ==== Sys2Proof/Machine/Rtc.lean ====
section
/-! DEFINITION. Calendar time: the RTC's count, its fields, the leap second, the trim and the alarms (R418 to R429). -/

namespace Sys2Proof.Machine

/-! ### Gregorian fields (R418, R419) -/

/-- A date with its weekday, 0 for Monday. -/
structure Civil where
  year : Nat
  month : Nat
  day : Nat
  weekday : Nat
deriving DecidableEq, Repr

/-- The date of a day number; day 0 is 2000-01-01, a Saturday (R419). Years are counted from March, in eras of 400. -/
def civilOf (d : Nat) : Civil :=
  let z := d + 730425
  let doe := z % 146097
  let yoe := (doe - doe / 1460 + doe / 36524 - doe / 146096) / 365
  let doy := doe - (365 * yoe + yoe / 4 - yoe / 100)
  let mp := (5 * doy + 2) / 153
  let m := if mp < 10 then mp + 3 else mp - 9
  let y := yoe + z / 146097 * 400
  ⟨if m ≤ 2 then y + 1 else y, m, doy - (153 * mp + 2) / 5 + 1, (d + 5) % 7⟩

/-- The Gregorian leap years (R419). -/
def isLeap (y : Nat) : Bool := y % 4 == 0 && (y % 100 != 0 || y % 400 == 0)

/-- Days of a month. -/
def daysIn (y m : Nat) : Nat :=
  if m = 2 then (if isLeap y then 29 else 28) else if m = 4 ∨ m = 6 ∨ m = 9 ∨ m = 11 then 30 else 31

/-- The day number of a date from 2000-01-01 on. -/
def dayOf (y m d : Nat) : Nat :=
  let y' := if m ≤ 2 then y - 1 else y
  let yoe := y' % 400
  let mp := if m ≤ 2 then m + 9 else m - 3
  let doy := (153 * mp + 2) / 5 + d - 1
  y' / 400 * 146097 + (yoe * 365 + yoe / 4 - yoe / 100 + doy) - 730425

/-- The last count with calendar fields: 2399-12-31 23:59:59 (R418). -/
def lastCount : Nat := 12622780799

/-- The day a second count falls in, and its second of the day. -/
def dayOfCount (c : Nat) : Nat := c / 86400

/-! ### Alarms (R426, R427) -/

/-- What an alarm compares: the fields of one second. -/
structure ClockFields where
  second : Nat
  minute : Nat
  hour : Nat
  date : Civil
deriving DecidableEq, Repr

/-- The fields of a second count. -/
def fieldsOf (c : Nat) : ClockFields := ⟨c % 60, c / 60 % 60, c / 3600 % 24, civilOf (dayOfCount c)⟩

/-- Whether alarm k matches: every field its MASK chooses equals its stored field; SECOND 60 matches no alarm value
(R426). -/
def State.alarmMatches (s : State) (k : Nat) (c : ClockFields) : Bool :=
  let m := s.rd (RTC_ALM_CFG_MASK k)
  (!bitAt m 0 || (c.second < 60 && c.second == s.rd (RTC_ALM_TIME_SECOND k))) &&
  (!bitAt m 1 || c.minute == s.rd (RTC_ALM_TIME_MINUTE k)) &&
  (!bitAt m 2 || c.hour == s.rd (RTC_ALM_TIME_HOUR k)) &&
  (!bitAt m 3 || c.date.day == s.rd (RTC_ALM_DATE_DAY k)) &&
  (!bitAt m 4 || c.date.weekday == s.rd (RTC_ALM_TIME_WEEKDAY k)) &&
  (!bitAt m 5 || c.date.month == s.rd (RTC_ALM_DATE_MONTH k)) &&
  (!bitAt m 6 || c.date.year == s.rd (RTC_ALM_DATE_YEAR k))

/-- The notice of an alarm. -/
def almNotice (k : Nat) : Notice := if k = 0 then RTC_NOTE_ALM0 else RTC_NOTE_ALM1

/-- Whether the registers of the RTC page are there to be written: CK_SYS is not off, and the state is not SCRAPPED (R110, R428, R429). -/
def State.rtcOn (s : State) : Bool := s.pageOn 0x19 && !s.startup.scrapped

/-- A notice of the RTC, which its page holds from the start of CK_SYS on. -/
def State.rtcNote (s : State) (n : Notice) : State := s.noticeIf s.rtcOn n

/-- Alarm k fires: FIRED, the notice, SKIP as given, and a wake from HOLD if WAKE is set (R426, R427). -/
def State.alarmFire (s : State) (k : Nat) (skip : Bool) : State :=
  let s := (s.wr (RTC_ALM_CFG_FIRED k) 1).wrB (RTC_ALM_CFG_SKIP k) skip
  let s := if s.startup.phase = .hold ∧ s.startup.vin ∧ s.rdB (RTC_ALM_CFG_WAKE k) ∧ s.startup.wake = none then
      { s with startup := { s.startup with wake := some 2 } } else s
  s.rtcNote (almNotice k)

/-- The comparison at a change of the second count (R426). -/
def State.alarmTick (s : State) (c : ClockFields) : State :=
  [0, 1].foldl (fun s k =>
    if s.rdB (RTC_ALM_CFG_EN k) && s.alarmMatches k c then s.alarmFire k false else s) s

/-- The comparison at an adjustment from second a to second b (R427). -/
def State.alarmAdjust (s : State) (a b : Nat) : State :=
  if a = b then s
  else
    [0, 1].foldl (fun s k =>
      if s.rdB (RTC_ALM_CFG_EN k) then
        if (List.range (b - a - 1)).any (fun i => s.alarmMatches k (fieldsOf (a + 1 + i))) then s.alarmFire k true
        else if s.alarmMatches k (fieldsOf b) then s.alarmFire k false else s
      else s) s

/-! ### The count -/

/-- The RTC publishes its block while its page's registers are on (R420). -/
def State.rtcPublish (s : State) : State := if s.rtcOn then s.publish 0x19 0 (SEQ_COUNT 0x19) else s

/-- The trim in force (R423). -/
def State.trim (s : State) : Int := clampInt (-549755) 549755 (s.rdS RTC_TRIM)

/-- Whether the next pulse is one of the |n| pulses of the 2^31-pulse window that the trim affects, spread evenly
(R423). -/
def trimHits (n k : Nat) : Bool := (k % 2 ^ 31 + 1) * n / 2 ^ 31 != k % 2 ^ 31 * n / 2 ^ 31

/-- What the next pulse adds to the fraction: 2, 4 or 0 (R418, R423). -/
def State.pulseAdds (s : State) : Nat :=
  if trimHits s.trim.natAbs s.cal.pulses then (if 0 ≤ s.trim then 4 else 0) else 2

/-- The end of a leap: the offset moves by 1, the leap is disarmed, and it is reported (R422). -/
def State.leapDone (s : State) (del : Bool) : State :=
  let o := s.rdS TIM_UTC_OFFSET + (if del then -1 else 1)
  let s := ((s.wrS TIM_UTC_OFFSET o).wr RTC_LEAP_ARM 0).wr RTC_STATUS_LEAP_NOW 0
  let s := { s with cal := { s.cal with utcOffset := codeOf 16 o, disturbed := true } }
  (s.silt 0x1902 0 (if del then 1 else 0)).rtcNote RTC_NOTE_LEAP_DONE

/-- Whether a leap of the given sign is armed for the day of the count. -/
def State.leapToday (s : State) (del : Bool) : Bool :=
  s.rdB RTC_LEAP_ARM && (s.rdB RTC_LEAP_SIGN == del) && s.rd RTC_LEAP_DATE == dayOfCount s.cal.secs

/-- The wrap of the fraction: the second count rises by 1, or the leap second acts (R418, R422), and the alarms compare
(R426, R427). -/
def State.rollover (s : State) : State :=
  let c := s.cal.secs
  let setSecs := fun (s : State) (n : Nat) => { s with cal := { s.cal with secs := n % 2 ^ 48 } }
  if s.rdB RTC_STATUS_LEAP_NOW then ((setSecs s (c + 1)).leapDone false).alarmTick (fieldsOf (c + 1))
  else if c % 86400 = 86399 ∧ s.leapToday false then
    (s.wr RTC_STATUS_LEAP_NOW 1).alarmTick { fieldsOf c with second := 60 }
  else if c % 86400 = 86398 ∧ s.leapToday true then
    ((setSecs s (c + 2)).leapDone true).alarmAdjust c (c + 2)
  else (setSecs s (c + 1)).alarmTick (fieldsOf (c + 1))

/-- The normal advance at a pulse of CK_AON: the fraction rises, wraps into the second count, and the block is published (R418, R420). -/
def State.advance (s : State) : State :=
  let f := s.cal.frac + s.pulseAdds
  let s1 := { s with cal := { s.cal with frac := f % 65536, pulses := s.cal.pulses + 1, load := none } }
  let s2 := if 65536 ≤ f then s1.rollover else s1
  if f = s.cal.frac then s2 else (s2.wrB RTC_STATUS_RANGE (lastCount < s2.cal.secs)).rtcPublish

/-! ### Loads and steps (R421, R424) -/

/-- UTC derived from module time, in ns since 2000-01-01, by R406 in reverse (R424). -/
def State.utcNs (s : State) : Int :=
  (s.moduleTime : Int) - (946684800 + s.rdS TIM_UTC_OFFSET) * 1000000000

/-- Calendar time in ns since 2000-01-01. -/
def State.calNs (s : State) : Int := (s.cal.secs : Int) * 1000000000 + (s.cal.frac * 1000000000 / 65536 : Nat)

/-- The phase error, in µs: calendar time minus UTC derived from module time (R424). -/
def State.phaseErr (s : State) : Int := (s.calNs - s.utcNs) / 1000

/-- Calendar time in 1/65,536 s. -/
def State.calTicks (s : State) : Nat := s.cal.secs * 65536 + s.cal.frac

/-- A window of R424 begins now, undisturbed. -/
def State.windowStart (s : State) : State :=
  { s with cal := { s.cal with disturbed := false, window := some (s.moduleTimeAt s.time.raw, s.calTicks) } }

/-- The value that a load gives: the one written, or UTC from module time; a UTC outside the calendar's range is not loaded. -/
def State.loadValue (s : State) : CalLoad → Option CalTime
  | .value t => some t
  | .step =>
    let u := s.utcNs
    if u < 0 ∨ (lastCount + 1 : Int) * 1000000000 ≤ u then none
    else some ⟨u.toNat / 1000000000, u.toNat % 1000000000 * 65536 / 1000000000⟩

/-- A load at t1: the value takes the place of the normal advance, OSF clears, the alarms compare (R421, R427). -/
def State.calLoad (s : State) (t : CalTime) : State :=
  let old := s.cal.secs
  let s := { s with cal := { s.cal with secs := t.secs, frac := t.frac, pulses := s.cal.pulses + 1, load := none, disturbed := true } }
  let s := ((s.wr RTC_STATUS_OSF 0).wr RTC_STATUS_LEAP_NOW 0).wrB RTC_STATUS_RANGE (lastCount < t.secs)
  (s.alarmAdjust old t.secs).rtcPublish

/-- An automatic step (R424): the load, its Silt record and the notice; the next window begins after it. -/
def State.calStep (s : State) (t : CalTime) : State :=
  let φ := s.phaseErr / 1000
  (((s.calLoad t).silt 0x1903 0 (codeOf 32 φ)).rtcNote RTC_NOTE_STEP).windowStart

/-- One pulse of CK_AON: a load that waits takes the place of the normal advance (R421). -/
def State.aonPulse (s : State) : State :=
  match s.cal.load, s.cal.load.bind s.loadValue with
  | some .step, some t => s.calStep t
  | _, some t => s.calLoad t
  | _, none => s.advance

/-- Pulses up to and including the next one at which the fraction wraps. -/
def State.pulsesToWrap (s : State) : Nat → State
  | 0 => s
  | n + 1 => if s.cal.load.isNone && decide (65536 ≤ s.cal.frac + s.pulseAdds) then s.aonPulse else s.aonPulse.pulsesToWrap n

/-- A load waits for the next CK_AON edge (R421). -/
def State.loadNext (s : State) (l : CalLoad) : State := { s with cal := { s.cal with load := some l } }

/-- A rejected value: WERR and the first failing item (R421). -/
def State.rtcReject (s : State) (reason : Nat) : State := (s.wr RTC_WERR_REASON reason).notice RTC_NOTE_WERR

/-- GO with SRC 0: the second count and fraction (R421). -/
def State.rtcSetCount (s : State) : State :=
  let c := s.rd RTC_SET_SEC_LO + 2 ^ 32 * s.rd RTC_SET_SEC_HI_SECONDS
  if lastCount < c then s.rtcReject 7 else s.loadNext <| .value ⟨c, s.rd RTC_SET_SEC_HI_FRACTION⟩

/-- GO with SRC 1: the date and time fields, checked in the order of R421's list; the weekday is not loaded. -/
def State.rtcSetFields (s : State) : State :=
  let y := s.rd RTC_SET_DATE_YEAR
  let m := s.rd RTC_SET_DATE_MONTH
  let d := s.rd RTC_SET_DATE_DAY
  let h := s.rd RTC_SET_TIME_HOUR
  let mi := s.rd RTC_SET_TIME_MINUTE
  let se := s.rd RTC_SET_TIME_SECOND
  if y < 2000 ∨ 2399 < y then s.rtcReject 1
  else if m = 0 ∨ 12 < m then s.rtcReject 2
  else if d = 0 ∨ daysIn y m < d then s.rtcReject 3
  else if 23 < h then s.rtcReject 4
  else if 59 < mi then s.rtcReject 5
  else if 59 < se then s.rtcReject 6
  else s.loadNext <| .value ⟨dayOf y m d * 86400 + h * 3600 + mi * 60 + se, s.rd RTC_SET_SEC_HI_FRACTION⟩

/-- An automatic step of calendar time to UTC from module time is asked for (R424). -/
def State.rtcStep (s : State) : State := s.loadNext .step

/-- The trim follows a window's rate error e and the phase error φ (R424). -/
def State.trimBy (s : State) (e φ : Int) : State :=
  let corr := roundAway ((e * 4096 + φ * 1000) * 10000000) (4096 * 4656613)
  (((s.wrS RTC_TRIM (clampInt (-549755) 549755 (s.rdS RTC_TRIM - corr))).wrS RTC_DISC
    (clampInt (-2 ^ 31) (2 ^ 31 - 1) e)).wrS RTC_PHASE_ERR (clampInt (-2 ^ 31) (2 ^ 31 - 1) φ)).notice RTC_NOTE_TRIM_UPDATE

/-- OSF is set: recorded at once when SLT runs, else marked for the next start (R425); the marker of R147 is raised. -/
def State.osfSet (s : State) : State :=
  let s := { s with mac := { s.mac with osfSinceCharge := true } }.wr RTC_STATUS_OSF 1
  let s := if s.live 0x1E then s.silt 0x1901 else { s with cal := { s.cal with osfMark := true } }
  s.rtcNote RTC_NOTE_OSF

/-- A write of RTC_LEAP: a date earlier than today is rejected with reason 8, whether it arms a leap or not (R422). -/
def State.rtcLeapWrite (s : State) (w : Nat) : State :=
  if bitsOf w 0 18 < dayOfCount s.cal.secs then s.rtcReject 8
  else s.wrAll [(RTC_LEAP_DATE, bitsOf w 0 18), (RTC_LEAP_SIGN, bitsOf w 24 1), (RTC_LEAP_ARM, bitsOf w 31 1)]

/-! ### The commands -/

/-- CALENDAR_FRACTION_ADVANCE (R418, R420, R423): one pulse of CK_AON. -/
def execCalendarFractionAdvance (s : State) : Host.Outcome State Fault Refusal :=
  .next (if s.aonRunning then s.aonPulse else s)

/-- RTC_SECOND_ROLLOVER (R418, R419, R422, R426): the pulses of the current second up to the wrap. -/
def execRtcSecondRollover (s : State) : Host.Outcome State Fault Refusal :=
  .next (if s.aonRunning then s.pulsesToWrap 40000 else s)

/-- RTC_SET_COUNT (R421). -/
def execRtcSetCount (port : Port) (s : State) : Host.Outcome State Fault Refusal :=
  .next (s.effect port RTC_SET_CMD_GO.addr State.rtcSetCount)

/-- RTC_SET_FIELDS (R421). -/
def execRtcSetFields (port : Port) (s : State) : Host.Outcome State Fault Refusal :=
  .next (s.effect port RTC_SET_CMD_GO.addr State.rtcSetFields)

/-- OSCILLATOR_STOPPED (R425). -/
def execOscillatorStopped (s : State) : Host.Outcome State Fault Refusal := .next s.osfSet

end Sys2Proof.Machine
end

