-- ==== Sys2Proof/Machine/Tim.lean ====
section
/-! DEFINITION. Module time: the raw counter, the rate and steps, the time states, the IEEE 1588 engine, the transmit
timestamp queue and the timing pins (R404 to R417). -/

namespace Sys2Proof.Machine

/-- Codes of the time axis (R30). -/
def TimeMode.code : TimeMode → Nat
  | .locked => 0
  | .holdover => 1
  | .free => 2

/-- The time state of a code. -/
def timeOf (n : Nat) : TimeMode := if n = 0 then .locked else if n = 1 then .holdover else .free

/-- Module time as it stood at the latest epoch tick, once the raw counter has come to c (R407). -/
def State.nowAt (s : State) (c : Nat) : Int := if s.time.raw / 250 < c / 250 then s.moduleTimeAt (c / 250 * 250) else s.time.now

/-- The raw counter at c. -/
def State.withRaw (s : State) (c : Nat) : State := { s with time := { s.time with raw := c, now := s.nowAt c } }

/-- Whether CK_TIME runs: the raw counter stands while it does not (R20, R28). -/
def State.timeRuns (s : State) : Bool := s.domain 11 == .running

/-- One period of the raw counter passes (R403). -/
def State.tick (s : State) : State := if s.timeRuns then s.withRaw (s.time.raw + 1) else s

/-- The raw counter reaches c: it never runs back (R404). -/
def State.reach (s : State) (c : Nat) : State := if s.timeRuns then s.withRaw (max s.time.raw c) else s

/-- The end of a window at raw count c (R424): 1,024 s of module time since its start. A window in which a write, a step or a leap fell
does not count, nor does one that ends in a step; the next one begins. -/
def State.trimWindow (s : State) (c : Nat) : State :=
  let s := s.reach c
  if s.time.state ≠ .locked then s
  else
    match s.cal.window with
    | none => s.windowStart
    | some (m, k) =>
      let mt := s.moduleTimeAt s.time.raw - m
      if mt < 1024000000000 then s
      else if s.cal.disturbed then s.windowStart
      else
        let e : Int := (((s.calTicks : Int) - k) * 1000000000 / 65536 - mt) * 1000000000 / mt
        let φ := s.phaseErr
        if s.rdB RTC_CTRL_AUTO_STEP && decide ((max 1 (s.rd RTC_STEP_THR) * 1000 : Nat) ≤ φ.natAbs) then s.rtcStep.windowStart
        else (if s.rdB RTC_CTRL_AUTO_TRIM then s.trimBy e φ else s).windowStart

/-- A change of rate: the reference pair moves to the present, so that module time does not step (R405). -/
def State.setRate (s : State) (r : Int) : State :=
  let t := s.moduleTimeAt s.time.raw
  ({ s with time := { s.time with ta := t, ca := s.time.raw } }).wrS TIM_RATE r

/-- The MAC, where it runs, meets a step of module time (R171): one of up to 5 ms is slewed; a larger one leaves the MAC on its own ASN
and phase, with ASN_DEV set. An ASN taken from the partner's beacons keeps its phase: module time's step is no step of it
(R173). -/
def State.macStep (s : State) (ns : Int) : State :=
  if !s.rdB MAC_CTRL_EN then s
  else if s.mac.follow.isSome then { s with mac := { s.mac with follow := s.mac.follow.map (· + ns) } }
  else if ns.natAbs ≤ 5000000 then { s with mac := { s.mac with slew := s.mac.slew + ns } }
  else ({ s with mac := { s.mac with dev := s.mac.dev + ns } }.wr MAC_STATUS_ASN_DEV 1).notice MAC_NOTE_ASN_DEV

/-- A step of module time: it counts in TIM_STEPS and sets the notice (R405, R409). The window of R424 is disturbed, its start moved with
module time. -/
def State.timeStep (s : State) (ns : Int) : State :=
  let s := { s with time := { s.time with ta := s.time.ta + ns },
                    cal := { s.cal with disturbed := true, window := s.cal.window.map fun (w : Int × Nat) => (w.1 + ns, w.2) } }
  ((s.count TIM_STEPS 1).notice TIM_NOTE_STEP).macStep ns

/-- A request for a value of the time axis. -/
def ModeReq.isTime (q : ModeReq) : Bool :=
  match q.value with
  | .time _ => true
  | _ => false

/-- The time axis of SYS_MODE is asked to follow TIM's state at the next decision step (R35, R408). -/
def State.askTime (s : State) (v : TimeMode) : State :=
  { s with modeReqs := (s.modeReqs.filter fun q => !q.isTime) ++ [⟨.time v, 0, 0⟩] }

/-- A change of TIM's state: the notice, one Silt record and the request for SYS_MODE; the trim is frozen unless LOCKED; where the state
becomes LOCKED, the first window of R424 begins, and calendar time is stepped at once while OSF is set (R408, R424). -/
def State.setTime (s : State) (v : TimeMode) : State :=
  if s.time.state = v then s
  else
    let old := s.time.state
    let s := { s with time := { s.time with state := v } }
    let s := (s.wrB RTC_STATUS_TRIM_FROZEN (v != .locked)).silt 0x1801 old.code v.code
    let s := (s.notice TIM_NOTE_STATE).askTime v
    if v ≠ .locked then s
    else
      let s := s.windowStart
      if s.rdB RTC_STATUS_OSF && s.rdB RTC_CTRL_AUTO_STEP then s.rtcStep else s

/-- Whether the role is HOST: code 3 acts as 0 (R430). -/
def State.timHost (s : State) : Bool := s.rd TIM_CTRL_ROLE == 0 || s.rd TIM_CTRL_ROLE == 3

/-- Whether the engine runs in a PTP role. -/
def State.ptpRuns (s : State) : Bool := s.rdB TIM_CTRL_PTP_EN && !s.timHost

/-- The PTP domain in force: above 127 acts as 0 (R430). -/
def State.ptpDomain (s : State) : Nat := if 127 < s.rd TIM_PTP_DOMAIN then 0 else s.rd TIM_PTP_DOMAIN

/-- The lowest set bit of a six-bit mask. -/
def lowestPort (m : Nat) : Nat :=
  match (List.range 6).find? (bitAt m) with
  | some k => k
  | none => 6

/-- Whether a port is a PTP port: all the named ones for a boundary clock, the lowest-numbered one for an ordinary clock
(R410). -/
def State.ptpPort (s : State) (k : Nat) : Bool :=
  bitAt (s.rd TIM_PTP_XPORT_PORTS) k && (s.rd TIM_CTRL_ROLE == 2 || k == lowestPort (s.rd TIM_PTP_XPORT_PORTS))

/-- A port's PTP state in TIM_PORT_STATE. -/
def State.ptpState (s : State) (k : Nat) : Nat := bitsOf (s.rd TIM_PORT_STATE) (3 * k) 3

/-- Put a port's PTP state. -/
def State.setPtpState (s : State) (k v : Nat) : State :=
  s.wr TIM_PORT_STATE (s.rd TIM_PORT_STATE - s.ptpState k * 2 ^ (3 * k) + v * 2 ^ (3 * k))

/-- The servo's integral and its run of offsets within the lock limit. -/
def State.setServo (s : State) (i : Int) (run : Nat) : State := { s with time := { s.time with servoI := i, lockRun := run } }

/-- The servo adjusts: I and R take their new values (R409). -/
def State.servoAdjust (s : State) (θ : Int) : State :=
  let i := s.time.servoI + s.rd TIM_SERVO_KI * θ / 16
  (s.setRate (clampInt (-1099511628) 1099511628 (-(s.rd TIM_SERVO_KP * θ + i)))).setServo i s.time.lockRun

/-- The servo of R409. In HOLDOVER and FREE it is frozen: I and R stand, and the run towards lock still counts. -/
def State.servo (s : State) (θ : Int) : State :=
  let s := s.wrS TIM_OFFSET_MEAS (clampInt (-(2 ^ 31 - 1)) (2 ^ 31 - 1) θ)
  if (s.rd TIM_SERVO_STEP_NS : Int) < θ.natAbs then
    let s := s.timeStep (-θ)
    (s.setServo 0 0).setTime .free
  else
    let s := if s.time.state = .locked then s.servoAdjust θ else s
    let run := if θ.natAbs ≤ s.rd TIM_LOCK_NS then s.time.lockRun + 1 else 0
    let s := s.setServo s.time.servoI run
    if max 1 (s.rd TIM_LOCK_COUNT) ≤ run then s.setTime .locked else s

/-- Module time at an instant of raw time, in ns since the raw counter started: the formula of R404 between the counter's edges, at the
1 ns resolution of a port's timestamp (R412). -/
def State.stampAt (s : State) (x : Int) : Int := s.time.ta + (x - 4 * s.time.ca) * (2 ^ 40 + s.rate) / 2 ^ 40

/-- The timestamp of an octet that crosses the J1 pins at the instant x of raw time, received: with the port's latency taken off (R412). -/
def State.rxStamp (s : State) (k : Nat) (x : Int) : Int := s.stampAt x - s.rdS (TIM_LAT_RX k)

/-- The timestamp of an octet sent at the instant x of raw time: with the port's latency added (R412). -/
def State.txStamp (s : State) (k : Nat) (x : Int) : Int := s.stampAt x + s.rdS (TIM_LAT_TX k)

/-- Whether a message comes from the parent on the local port, which is SLAVE or about to be (R409, R411). -/
def State.fromParent (s : State) (k sender senderPort domain : Nat) : Bool :=
  s.ptpRuns && s.ptpPort k && (s.ptpState k == 3 || s.ptpState k == 2) && domain == s.ptpDomain &&
  sender == s.rd TIM_PARENT_LO + 2 ^ 32 * s.rd TIM_PARENT_HI && senderPort == s.rd TIM_PARENT_PORT_NUMBER &&
  k == s.rd TIM_PARENT_PORT_LOCAL

/-- The Sync with its origin timestamp and corrections acts: θ is receive − origin − mean path delay − corrections
(R409). -/
def State.syncActs (s : State) (rx origin corr : Int) : State :=
  let s := { s with time := { s.time with t1 := origin + corr, t2 := rx } }
  s.servo (rx - origin - s.rd TIM_MEAN_DELAY - corr)

/-- The first Sync accepted from a new parent makes the UNCALIBRATED port SLAVE. -/
def State.calibrated (s : State) (k : Nat) : State := if s.ptpState k = 2 then s.setPtpState k 3 else s

/-- A Sync with its receive timestamp, accepted from the parent: it acts at once, or waits for its Follow_Up in two-step operation
(R409). -/
def State.syncTaken (s : State) (k sender senderPort domain seq : Nat) (rx origin corr : Int) (twoStep : Bool) : State :=
  if !s.fromParent k sender senderPort domain then s
  else
    let s := s.calibrated k
    if twoStep then { s with time := { s.time with held := some ⟨seq, rx, corr⟩ } } else s.syncActs rx origin corr

/-- A Follow_Up from the parent completes the held Sync of its sequence number (R409). -/
def State.followUpTaken (s : State) (k sender senderPort domain seq : Nat) (origin corr : Int) : State :=
  if !s.fromParent k sender senderPort domain then s
  else
    match s.time.held with
    | some h =>
      if h.seq = seq then { s with time := { s.time with held := none } }.syncActs h.rx origin (h.corr + corr) else s
    | none => s

/-- The transports that TIM_PTP_XPORT.TRANSPORT enables. -/
def State.ptpTransports (s : State) : List Nat := (List.range 3).filter (bitAt (s.rd TIM_PTP_XPORT_TRANSPORT))

/-- A message of the engine leaves by each enabled transport. -/
def State.ptpEmit (s : State) (k : Nat) (kind : PtpKind) (seq domain : Nat) (ns : Int) (data : Option Announce) : State :=
  s.ptpTransports.foldl (fun s x => s.emit (.ptp k x kind seq domain ns data)) s

/-- A Delay_Req on a MASTER port is answered with its receive timestamp (R410). -/
def State.delayReqTaken (s : State) (k domain seq : Nat) (rx : Int) : State :=
  if s.ptpRuns && s.ptpPort k && s.ptpState k == 5 && domain == s.ptpDomain then s.ptpEmit k .delayResp seq domain rx none else s

/-- A Delay_Req that the engine sent has its transmit timestamp. -/
def State.delaySent (s : State) (seq : Nat) (tx : Int) : State := { s with time := { s.time with t3 := some (seq, tx) } }

/-- A Delay_Resp on the SLAVE port updates the mean path delay from the four instants (IEEE 1588-2019, 11.3). -/
def State.delayRespTaken (s : State) (k sender senderPort domain seq : Nat) (t4 corr : Int) : State :=
  if !s.fromParent k sender senderPort domain then s
  else
    match s.time.t3 with
    | some (n, t3) =>
      if n = seq then
        let d := ((s.time.t2 - t3) + (t4 - s.time.t1) - corr) / 2
        { s with time := { s.time with t3 := none } }.wr TIM_MEAN_DELAY (clampInt 0 (2 ^ 32 - 1) d).toNat
      else s
    | none => s

/-! ### The best-master choice (R410, R411) -/

/-- The order of two data sets by the default algorithm: priority1, class, accuracy, variance, priority2, identity; for one
grandmaster, the fewer steps removed, then the sender (IEEE 1588-2019, 9.3.4). -/
def announceRank (a : Announce) : List Nat :=
  [a.prio1, a.clockClass, a.accuracy, a.variance, a.prio2, a.grandmaster, a.stepsRemoved, a.senderId, a.senderPort]

/-- Lexicographic order. -/
def lexLess : List Nat → List Nat → Bool
  | [], [] => false
  | [], _ => true
  | _, [] => false
  | a :: t, b :: u => if a < b then true else if b < a then false else lexLess t u

/-- The module's own data set (R410). -/
def State.ownClock (s : State) : Announce :=
  let id := s.rd TIM_CLOCK_ID_LO + 2 ^ 32 * s.rd TIM_CLOCK_ID_HI
  ⟨s.ptpDomain, id, 0, s.rd TIM_PTP_PRIO1, if s.rdB TIM_CTRL_SLAVE_ONLY then 255 else s.rd TIM_PTP_CLASS, 0xFE, 0xFFFF,
   s.rd TIM_PTP_PRIO2, id, 0, s.rd TIM_UTC_OFFSET, s.rdB TIM_UTC_VALID, 0xA0, false, false⟩

/-- The better of two qualified foreign masters. -/
def betterMaster (a : Option ForeignMaster) (b : ForeignMaster) : Option ForeignMaster :=
  match a with
  | none => some b
  | some x => if lexLess (announceRank b.data) (announceRank x.data) then some b else some x

/-- The best qualified foreign master among those given: two Announces qualify a master. -/
def bestMaster (l : List ForeignMaster) : Option ForeignMaster := (l.filter fun f => 2 ≤ f.count).foldl betterMaster none

/-- The announce interval in periods of the raw counter: 2 to the power of logAnnounceInterval seconds (R410). -/
def State.announceInterval (s : State) : Nat :=
  let e := s.rdS TIM_PTP_INT_ANNOUNCE
  if 0 ≤ e then 250000000 * 2 ^ e.toNat else 250000000 / 2 ^ (-e).toNat

/-- The announce receipt timeout in periods of the raw counter: TIMEOUT announce intervals, 3 where the field is outside 2 to 10 (R430). -/
def State.announceTimeout (s : State) : Nat :=
  let n := s.rd TIM_PTP_INT_TIMEOUT
  (if n < 2 ∨ 10 < n then 3 else n) * s.announceInterval

/-- Whether a master has been heard within the announce receipt timeout. -/
def State.stillHeard (s : State) (f : ForeignMaster) : Bool := decide (s.time.raw < f.heard + s.announceTimeout)

/-- Masters not heard for the announce receipt timeout are forgotten. -/
def State.ptpAge (s : State) : State := { s with time := { s.time with foreign := s.time.foreign.filter s.stillHeard } }

/-- The state that the decision recommends for a PTP port: 5 MASTER at once, 6 MASTER after PRE_MASTER (decision M3), 3 SLAVE, 4 PASSIVE
(IEEE 1588-2019, 9.3.3). -/
def State.portDecision (s : State) (k : Nat) : Nat :=
  let own := s.ownClock
  let mine := bestMaster (s.time.foreign.filter fun f => f.port == k)
  let all := bestMaster s.time.foreign
  let master := fun (d : Nat) => if s.rdB TIM_CTRL_SLAVE_ONLY then 1 else d
  match all with
  | none => master 5
  | some b =>
    if own.clockClass < 128 then
      match mine with
      | none => master 5
      | some m => if lexLess (announceRank own) (announceRank m.data) then master 5 else 4
    else if lexLess (announceRank own) (announceRank b.data) then master 5
    else if b.port = k then 3
    else
      match mine with
      | none => master 6
      | some m =>
        if m.data.grandmaster = b.data.grandmaster ∧ !lexLess (announceRank own) (announceRank m.data) then 4 else master 6

/-- The parent that the registers show. -/
def State.parentNow (s : State) : List Nat :=
  [s.rd TIM_PARENT_LO, s.rd TIM_PARENT_HI, s.rd TIM_PARENT_PORT_NUMBER, s.rd TIM_PARENT_PORT_LOCAL]

/-- The registers show a parent, or none. -/
def State.putParent (s : State) (b : Option ForeignMaster) : State :=
  match b with
  | some b => s.wrAll [(TIM_PARENT_LO, b.data.senderId), (TIM_PARENT_HI, b.data.senderId / 2 ^ 32),
      (TIM_PARENT_PORT_NUMBER, b.data.senderPort), (TIM_PARENT_PORT_LOCAL, b.port)]
  | none => s.wrAll [(TIM_PARENT_LO, 0), (TIM_PARENT_HI, 0), (TIM_PARENT_PORT_NUMBER, 0), (TIM_PARENT_PORT_LOCAL, 0)]

/-- Put the ports in PRE_MASTER with their instants. -/
def State.setPreMaster (s : State) (l : List (Nat × Nat)) : State := { s with time := { s.time with preMaster := l } }

/-- A port leaves PRE_MASTER, or never was in it. -/
def State.leavePre (s : State) (k : Nat) : State := s.setPreMaster (s.time.preMaster.filter fun p => p.1 != k)

/-- How long a port stays in PRE_MASTER: one announce interval more than the steps that the module is removed from the grandmaster
(IEEE 1588-2019, 9.2.6.11). -/
def State.qualification (s : State) : Nat :=
  let steps := match bestMaster s.time.foreign with
    | some b => b.data.stepsRemoved + 1
    | none => 0
  (steps + 1) * s.announceInterval

/-- A port takes what the decision recommends: SLAVE comes through UNCALIBRATED, and decision M3 through PRE_MASTER; `same` says that the
parent has not changed. -/
def State.takeDecision (s : State) (same : Bool) (k d : Nat) : State :=
  let cur := s.ptpState k
  if d = 3 then (if same && (cur == 3 || cur == 2) then s else (s.leavePre k).setPtpState k 2)
  else if d = 6 then
    if cur = 5 ∨ cur = 6 then s
    else (s.setPtpState k 6).setPreMaster (s.time.preMaster ++ [(k, s.time.raw + s.qualification)])
  else (s.leavePre k).setPtpState k d

/-- Whether the decision leaves a port as it is: a LISTENING one that has heard no master of its own, until its timeout. -/
def State.staysListening (s : State) (timeout : Bool) (k : Nat) : Bool :=
  !timeout && s.ptpState k == 1 && (bestMaster (s.time.foreign.filter fun f => f.port == k)).isNone

/-- The decision over every PTP port, the parent it gives, and the loss of lock when the parent changes or no port is
SLAVE any more (R408). `timeout` says that the announce receipt timeout has passed. -/
def State.bmca (s : State) (timeout : Bool) : State :=
  let s := s.ptpAge
  let take := (List.range 6).filter fun k => s.ptpPort k && !s.staysListening timeout k
  let l := take.map fun k => (k, s.portDecision k)
  let before := s.parentNow
  let s := s.putParent (if l.any (·.2 == 3) then bestMaster s.time.foreign else none)
  let same := decide (before = s.parentNow)
  let s := l.foldl (fun (s : State) p => s.takeDecision same p.1 p.2) s
  if same then s
  else
    let s' : State := { s with time := { s.time with lockRun := 0, held := none, t3 := none } }
    if s'.time.state = .locked then s'.setTime .holdover else s'

/-- Ports whose time in PRE_MASTER has passed are MASTER. -/
def State.preMasterEnds (s : State) : State :=
  s.time.preMaster.foldl (fun (s : State) p => if p.2 ≤ s.time.raw then (s.leavePre p.1).setPtpState p.1 5 else s) s

/-- What module time has brought since the last event of the engine: masters that have fallen silent, and ports that leave PRE_MASTER. -/
def State.ptpCatchUp (s : State) : State :=
  (if s.time.foreign.all s.stillHeard then s else s.bmca false).preMasterEnds

/-- An Announce at raw count c is remembered as its master's latest. -/
def hearMaster (k c : Nat) (a : Announce) : List ForeignMaster → List ForeignMaster
  | [] => [⟨k, 1, c, a⟩]
  | f :: t =>
    if f.port = k ∧ f.data.senderId = a.senderId ∧ f.data.senderPort = a.senderPort then ⟨k, f.count + 1, c, a⟩ :: t
    else f :: hearMaster k c a t

/-- The day whose end the parent's leap flags name: today in calendar time. -/
def State.armLeap (s : State) (del : Bool) : State :=
  s.wrAll [(RTC_LEAP_DATE, dayOfCount s.cal.secs), (RTC_LEAP_SIGN, if del then 1 else 0), (RTC_LEAP_ARM, 1)]

/-- What an Announce of the parent says of UTC: with AUTO_LEAP it arms a leap, and a valid offset is the calendar's (R411). -/
def State.announceUtc (s : State) (a : Announce) : State :=
  let s := if s.rdB RTC_CTRL_AUTO_LEAP && (a.leap61 || a.leap59) then s.armLeap a.leap59 else s
  if a.utcValid then
    { s with cal := { s.cal with utcOffset := a.utcOffset % 2 ^ 16 } }.wrAll
      [(TIM_UTC_OFFSET, a.utcOffset), (TIM_UTC_SRC_PTP, 1)]
  else s

/-- An Announce enters the foreign masters, and the decision is taken with it (R410). -/
def State.announceHeard (s : State) (k : Nat) (a : Announce) : State :=
  let s := s.ptpAge
  ({ s with time := { s.time with foreign := hearMaster k s.time.raw a s.time.foreign } }.bmca false).preMasterEnds

/-- An Announce feeds the choice, and from the parent in LOCKED arms a leap and sets the UTC offset (R411). -/
def State.announceRx (s : State) (k : Nat) (a : Announce) : State :=
  if !(s.ptpRuns && s.ptpPort k && a.domain == s.ptpDomain) then s
  else
    let s := s.announceHeard k a
    if s.fromParent k a.senderId a.senderPort a.domain && s.time.state == .locked then s.announceUtc a else s

/-- No Sync from the parent for the announce receipt timeout: LOCKED becomes HOLDOVER (R408). The decision is taken again, without the
masters that have fallen silent, and the ports that are still LISTENING leave it (R410). -/
def State.syncTimeout (s : State) : State :=
  if !s.ptpRuns then s
  else
    let s := if s.time.state = .locked then { s with time := { s.time with lockRun := 0 } }.setTime .holdover else s
    (s.bmca true).preMasterEnds

/-- What port k announces: the parent's data set with one more step removed where a port is SLAVE, else the module's own; timeSource is
0xA0 in either, and the UTC offset is TIM_UTC's (R410). -/
def State.announced (s : State) (k : Nat) : Announce :=
  let own := s.ownClock
  let data := if (List.range 6).any fun p => s.ptpState p == 3 || s.ptpState p == 2 then
      match bestMaster s.time.foreign with
      | some b => { b.data with stepsRemoved := b.data.stepsRemoved + 1 }
      | none => own
    else own
  { data with domain := own.domain, senderId := own.senderId, senderPort := k + 1, utcOffset := own.utcOffset,
              utcValid := own.utcValid, timeSource := own.timeSource }

/-- The engine forgets its masters and the data set of its own choice. -/
def State.ptpForget (s : State) : State :=
  { s with time := { s.time with foreign := [], preMaster := [], held := none, t3 := none, lockRun := 0 } }.putParent none

/-- Each PTP port of a running engine that was DISABLED is LISTENING; every other port is DISABLED. -/
def State.ptpPorts (s : State) : State :=
  (List.range 6).foldl (fun s k =>
    if s.ptpRuns && s.ptpPort k then (if s.ptpState k = 0 then s.setPtpState k 1 else s) else s.setPtpState k 0) s

/-- The engine follows a change of its role, of its enable or of its ports: a PTP port starts as LISTENING, another is DISABLED; an engine
that stops forgets its masters and loses its lock; in role HOST the state is the one that host software last wrote to TIM_HOST.STATE since
the start (R408, R410). -/
def State.ptpFollow (s : State) : State :=
  let s := s.ptpPorts
  let s := if s.ptpRuns then s else s.ptpForget
  if s.timHost then s.setTime s.time.host
  else if s.time.state = .locked ∧ !(s.ptpRuns && (List.range 6).any fun k => s.ptpState k == 3) then s.setTime .holdover
  else s

/-- The port states in which the engine sends a message: a Delay_Req where the port is SLAVE or about to be, every other one where it is
MASTER (R410). -/
def ptpSentIn : PtpKind → List Nat
  | .sync => [5]
  | .followUp => [5]
  | .delayReq => [2, 3]
  | .delayResp => [5]
  | .announce => [5]

/-! ### The transmit timestamp queue (R414 to R416) -/

/-- Publish the head, or an empty queue, as block 0 (R415). -/
def State.tsPublish (s : State) : State :=
  match s.time.tsQueue with
  | [] =>
    (s.wrAll [(TIM_TS_INFO_ID, 0), (TIM_TS_INFO_PORT, 0), (TIM_TS_INFO_VALID, 0), (TIM_TS_INFO_STATUS, 0), (TIM_TS_NS_LO, 0),
      (TIM_TS_NS_HI, 0)]).publish 0x18 0 (SEQ_COUNT 0x18)
  | e :: _ =>
    ((s.wrAll [(TIM_TS_INFO_ID, e.id), (TIM_TS_INFO_PORT, e.port), (TIM_TS_INFO_VALID, 1), (TIM_TS_INFO_STATUS, e.status),
      (TIM_TS_NS_LO, e.ns), (TIM_TS_NS_HI, e.ns / 2 ^ 32)]).publish 0x18 0 (SEQ_COUNT 0x18)).notice TIM_NOTE_TS_READY

/-- A new entry, or its loss where 64 are held (R414, R416). -/
def State.tsTaken (s : State) (e : TsEntry) : State :=
  if 64 ≤ s.time.tsQueue.length then
    ((s.count TIM_TS_LOST 1).wrAll [(TIM_TS_LOST_ID_ID, e.id), (TIM_TS_LOST_ID_PORT, e.port)]).notice TIM_NOTE_TS_OVERFLOW
  else
    let s' := { s with time := { s.time with tsQueue := s.time.tsQueue ++ [e] } }
    if s.time.tsQueue.isEmpty then s'.tsPublish else s'

/-- A pop with the head's COUNT removes the head; any other sets POP_ERR (R415). -/
def State.tsPop (s : State) (count : Nat) : State :=
  match s.time.tsQueue with
  | _ :: t =>
    if count = s.rd (SEQ_COUNT 0x18) then { s with time := { s.time with tsQueue := t } }.tsPublish
    else s.notice TIM_NOTE_POP_ERR
  | [] => s.notice TIM_NOTE_POP_ERR

/-! ### Timestamps held for a slice (R428) -/

/-- What waits for its timestamp goes on. -/
def State.stampActs (s : State) (h : HeldStamp) : State :=
  match h with
  | .entry e => s.tsTaken e
  | .sync k sender senderPort domain seq rx origin corr twoStep => s.syncTaken k sender senderPort domain seq rx origin corr twoStep
  | .followUp k sender senderPort domain seq origin corr => s.followUpTaken k sender senderPort domain seq origin corr
  | .delayReq k domain seq rx => s.delayReqTaken k domain seq rx
  | .delaySent seq tx => s.delaySent seq tx
  | .delayResp k sender senderPort domain seq t4 corr => s.delayRespTaken k sender senderPort domain seq t4 corr

/-- What takes a timestamp goes on at once, or is held by its port while a slice of the TIM region runs (R428). -/
def State.stamped (s : State) (h : HeldStamp) : State :=
  if s.isolated 0x18 then { s with time := { s.time with stamped := s.time.stamped ++ [h] } } else s.stampActs h

/-- The slice has ended: what the ports held is delivered in its order. -/
def State.stampsRelease (s : State) : State :=
  s.time.stamped.foldl State.stampActs { s with time := { s.time with stamped := [] } }

/-- A transmit timestamp for the queue (R414). -/
def State.tsPut (s : State) (e : TsEntry) : State := s.stamped (.entry e)

/-- A Sync whose timestamp octet crosses the pins at the instant rx of raw time (R409, R412). -/
def State.syncRx (s : State) (k sender senderPort domain seq : Nat) (rx origin corr : Int) (twoStep : Bool) : State :=
  s.stamped (.sync k sender senderPort domain seq (s.rxStamp k rx) origin corr twoStep)

/-- A Follow_Up (R409). -/
def State.followUpRx (s : State) (k sender senderPort domain seq : Nat) (origin corr : Int) : State :=
  s.stamped (.followUp k sender senderPort domain seq origin corr)

/-- A Delay_Req received at the instant rx of raw time (R410, R412). -/
def State.delayReqRx (s : State) (k domain seq : Nat) (rx : Int) : State := s.stamped (.delayReq k domain seq (s.rxStamp k rx))

/-- A Delay_Resp (R409, R410). -/
def State.delayRespRx (s : State) (k sender senderPort domain seq : Nat) (t4 corr : Int) : State :=
  s.stamped (.delayResp k sender senderPort domain seq t4 corr)

/-- The engine sends a message at the instant `ns` of raw time by each enabled transport (R410); a Delay_Req is remembered with its
timestamp. -/
def State.ptpTx (s : State) (k : Nat) (kind : PtpKind) (seq : Nat) (ns : Int) : State :=
  let s := if s.ptpRuns then s.ptpCatchUp else s
  if s.ptpRuns && s.ptpPort k && (ptpSentIn kind).contains (s.ptpState k) then
    let t := s.txStamp k ns
    let s := s.ptpEmit k kind seq s.ptpDomain t (if kind = .announce then some (s.announced k) else none)
    if kind = .delayReq then s.stamped (.delaySent seq t) else s
  else s

/-! ### Role HOST (R408, R409) -/

/-- A write refused because of the role or the value. -/
def State.timCfgErr (s : State) : State := s.notice TIM_NOTE_CFG_ERR

/-- A write of TIM_HOST.STATE. -/
def State.hostState (s : State) (v : Nat) : State :=
  if !s.timHost ∨ v = 3 then s.timCfgErr
  else ({ s with time := { s.time with host := timeOf v } }.wr TIM_HOST_STATE v).setTime (timeOf v)

/-- A write of TIM_RATE: the register holds what was written (R10), and the rate in force is limited (R405). -/
def State.hostRate (s : State) (w : Nat) : State :=
  if !s.timHost then s.timCfgErr else s.setRate (signed 32 w)

/-- A write of TIM_STEP_HI applies the step of TIM_STEP_HI and TIM_STEP_LO. -/
def State.hostStep (s : State) (w : Nat) : State :=
  if !s.timHost then s.timCfgErr
  else (s.wr TIM_STEP_HI w).timeStep (signed 64 (s.rd TIM_STEP_LO + 2 ^ 32 * (w % 2 ^ 32)))

/-- TIM_CAPTURE.GO: module time, raw counter and calendar time of one edge as block 1 (R407). -/
def State.capture (s : State) : State :=
  let t := s.moduleTime
  let s := s.wrAll [(TIM_CAP_RAW_LO, s.time.raw), (TIM_CAP_RAW_HI, s.time.raw / 2 ^ 32), (TIM_CAP_MT_LO, t),
    (TIM_CAP_MT_HI, t / 2 ^ 32), (TIM_CAP_CAL_LO, s.cal.secs), (TIM_CAP_END_SECONDS, s.cal.secs / 2 ^ 32),
    (TIM_CAP_END_FRACTION, s.cal.frac)]
  (s.publish 0x18 1 TIM_CAP_SEQ).notice TIM_NOTE_CAPTURE

/-! ### Timing pins (R417) -/

/-- Whether a whole second of module time plus TIM_PPS_OFS falls in the period that ends at raw count c. -/
def State.ppsDue (s : State) (c : Nat) : Bool :=
  let at_ := fun (c : Nat) => (s.moduleTimeAt c - s.rdS TIM_PPS_OFS) / 1000000000
  decide (at_ (c - 1) < at_ c) || decide ((s.moduleTimeAt c - s.rdS TIM_PPS_OFS) % 1000000000 = 0)

/-- The frequency of TIM_CLK_OUT in Hz of module time, its rising edges at the pulses; 0 while it is off (R417). -/
def State.timClkOut (s : State) : Nat :=
  if !s.live 0x18 then 0
  else if s.rd TIM_PPS_CFG_CLK = 1 then 10000000
  else if s.rd TIM_PPS_CFG_CLK = 2 then 25000000
  else 0

/-- A pulse of TIM_PPS_OUT at a whole second of module time plus TIM_PPS_OFS, at raw count c; never within 0.5 s of the
last one. -/
def State.ppsPulse (s : State) (c : Nat) : State :=
  let s := s.reach c
  let soon := match s.time.ppsLast with
    | some l => decide (s.time.raw < l + 125000000)
    | none => false
  if !s.rdB TIM_PPS_CFG_EN || soon || !s.ppsDue s.time.raw then s
  else { s with time := { s.time with ppsLast := some s.time.raw } }.emit
    (.ppsPulse s.moduleTime (max 1 (s.rd TIM_PPS_CFG_WIDTH)))

/-- An edge on TIM_PPS_IN at raw count c: edges within 1 ms of the last are ignored. -/
def State.ppsEdge (s : State) (falling : Bool) (c : Nat) : State :=
  let s := s.reach c
  if !s.rdB TIM_PPS_IN_EN || s.rdB TIM_PPS_IN_EDGE != falling then s
  else
    let soon := match s.time.ppsInLast with
      | some l => decide (s.time.raw < l + 250000)
      | none => false
    if soon then s
    else
      let t := s.moduleTime
      let s := { s with time := { s.time with ppsInLast := some s.time.raw } }
      (((s.wr TIM_PPSI_LO t).wr TIM_PPSI_HI (t / 2 ^ 32)).publish 0x18 2 TIM_PPSI_SEQ).notice TIM_NOTE_PPS_IN

/-- The start of CK_TIME, or a reset while it runs: the counter at 0, R at 0, module time from calendar time when that is
valid, the state FREE (R404, R406). -/
def State.timeStart (s : State) : State :=
  let base : Int := if s.calValid then
      ((s.cal.secs : Int) + 946684800 + signed 16 s.cal.utcOffset) * 1000000000 + (s.cal.frac * 1000000000 / 65536 : Nat)
    else 0
  let s := { s with time := .from base,
                    modes := { s.modes with time := .free } }
  s.wr TIM_UTC_OFFSET s.cal.utcOffset

/-! ### The commands -/

/-- PTP_SYNC_RECEIVED (R409): `rx` is the instant of the timestamp point in ns of raw time (log entry 160). -/
def execPtpSyncReceived (k sender senderPort domain seq : Nat) (rx origin corr : Int) (twoStep : Bool) (s : State) :
    Host.Outcome State Fault Refusal :=
  .next (s.whenLive 0x18 fun s => s.syncRx k sender senderPort domain seq rx origin corr twoStep)

/-- PTP_FOLLOW_UP_RECEIVED (R409). -/
def execPtpFollowUpReceived (k sender senderPort domain seq : Nat) (origin corr : Int) (s : State) :
    Host.Outcome State Fault Refusal :=
  .next (s.whenLive 0x18 fun s => s.followUpRx k sender senderPort domain seq origin corr)

/-- PTP_DELAY_REQ_RECEIVED (R410). -/
def execPtpDelayReqReceived (k domain seq : Nat) (rx : Int) (s : State) : Host.Outcome State Fault Refusal :=
  .next (s.whenLive 0x18 fun s => s.delayReqRx k domain seq rx)

/-- PTP_DELAY_RESP_RECEIVED (R409, R410). -/
def execPtpDelayRespReceived (k sender senderPort domain seq : Nat) (t4 corr : Int) (s : State) :
    Host.Outcome State Fault Refusal :=
  .next (s.whenLive 0x18 fun s => s.delayRespRx k sender senderPort domain seq t4 corr)

/-- PTP_ANNOUNCE_RECEIVED (R410, R411). -/
def execPtpAnnounceReceived (k : Nat) (a : Announce) (s : State) : Host.Outcome State Fault Refusal :=
  .next (s.whenLive 0x18 fun s => s.announceRx k a)

/-- ANNOUNCE_TIMEOUT (R408). -/
def execAnnounceTimeout (s : State) : Host.Outcome State Fault Refusal := .next (s.whenLive 0x18 State.syncTimeout)

/-- HOLDOVER_EXPIRY (R408). -/
def execHoldoverExpiry (s : State) : Host.Outcome State Fault Refusal :=
  .next (s.whenLive 0x18 fun s => if s.ptpRuns && s.time.state == .holdover then s.setTime .free else s)

/-- PTP_MESSAGE_TX (R410): `ns` is the instant of the timestamp point in ns of raw time (log entry 160). -/
def execPtpMessageTx (k : Nat) (kind : PtpKind) (seq : Nat) (ns : Int) (s : State) : Host.Outcome State Fault Refusal :=
  .next (s.whenLive 0x18 fun s => s.ptpTx k kind seq ns)

/-- TIM_HOST_STATE_WRITE (R408). -/
def execTimHostStateWrite (port : Port) (v : Nat) (s : State) : Host.Outcome State Fault Refusal :=
  .next (s.effect port TIM_HOST_STATE.addr fun s => s.hostState v)

/-- TIM_RATE_WRITE (R405, R409). -/
def execTimRateWrite (port : Port) (w : Nat) (s : State) : Host.Outcome State Fault Refusal :=
  .next (s.effect port TIM_RATE.addr fun s => s.hostRate w)

/-- TIM_STEP_HI_WRITE (R405, R409). -/
def execTimStepHiWrite (port : Port) (w : Nat) (s : State) : Host.Outcome State Fault Refusal :=
  .next (s.effect port TIM_STEP_HI.addr fun s => s.hostStep w)

/-- TIM_CAPTURE (R407). -/
def execTimCapture (port : Port) (s : State) : Host.Outcome State Fault Refusal :=
  .next (s.effect port TIM_CAPTURE_GO.addr State.capture)

/-- TIM_TS_POP (R415). -/
def execTimTsPop (port : Port) (count : Nat) (s : State) : Host.Outcome State Fault Refusal :=
  .next (s.effect port TIM_TS_POP_COUNT.addr fun s => s.tsPop count)

/-- RTC_TRIM_WINDOW_END (R424): a window of 1,024 s of module time ends at raw count c. -/
def execRtcTrimWindowEnd (c : Nat) (s : State) : Host.Outcome State Fault Refusal := .next (s.whenLive 0x19 fun s => s.trimWindow c)

/-- PPS_OUT_PULSE (R417). -/
def execPpsOutPulse (c : Nat) (s : State) : Host.Outcome State Fault Refusal :=
  .next (s.whenLive 0x18 fun s => s.ppsPulse c)

/-- PPS_IN_EDGE (R417). -/
def execPpsInEdge (falling : Bool) (c : Nat) (s : State) : Host.Outcome State Fault Refusal :=
  .next (s.whenLive 0x18 fun s => s.ppsEdge falling c)

end Sys2Proof.Machine
end

