-- ==== Sys2Proof/Machine/Matrix.lean ====
section
/-! DEFINITION. The mode matrix of R31 and what it lets the module do (R32). -/

namespace Sys2Proof.Machine

/-- Codes of the axes in SYS_MODE (R30). -/
def Power.code : Power → Nat
  | .run => 0
  | .quiet => 1
  | .doze => 2
  | .hold => 3

def Role.code : Role → Nat
  | .solo => 0
  | .primary => 1
  | .standby => 2
  | .swapping => 3

def Life.code : Life → Nat
  | .blank => 0
  | .provisioned => 1
  | .deployed => 2
  | .returned => 3
  | .scrapped => 4

def SieveMode.code : SieveMode → Nat
  | .off => 0
  | .sliced => 1
  | .full => 2

def GrogMode.code : GrogMode → Nat
  | .idle => 0
  | .staging => 1
  | .activating => 2

def Tamper.code : Tamper → Nat
  | .clear => 0
  | .alarm => 1

/-- SYS_MODE (R30). -/
def Modes.word (m : Modes) : Nat :=
  m.power.code + 2 ^ 4 * m.role.code + 2 ^ 8 * m.life.code + 2 ^ 12 * m.sieve.code + 2 ^ 16 * m.grog.code +
  2 ^ 20 * m.tamper.code + 2 ^ 24 * m.time.code

/-- Mesh and bus transmission takes place only if all seven values allow it, and never before t11 (R31, R32, R109). -/
def State.meshTx (s : State) : Bool :=
  s.startup.phase == .ready && s.modes.power != .hold && s.modes.role != .standby &&
  (s.modes.life == .provisioned || s.modes.life == .deployed) && s.modes.sieve != .full &&
  !s.startup.activationHold && s.modes.tamper == .clear

/-- The contactor gate is open only if all seven values leave it open (R31, R32, R109). -/
def State.gateOpen (s : State) : Bool :=
  s.startup.phase == .ready && s.modes.power != .hold && s.modes.life == .deployed && s.modes.sieve != .full &&
  s.modes.tamper == .clear

/-- Whether the light path computes: in full, on demand or in shadow (R31). -/
def State.lightPath (s : State) : Bool :=
  s.startup.phase == .ready && s.modes.power != .hold &&
  (s.modes.life == .provisioned || s.modes.life == .deployed) && s.modes.sieve != .full && !s.startup.activationHold

/-- Whether the module dispatches light, and does not only compute it in shadow (R31). -/
def State.dispatches (s : State) : Bool := s.lightPath && s.meshTx

end Sys2Proof.Machine
end

