-- ==== Sys2Proof/Machine/Drift.lean ====
section
/-! DEFINITION. The Drift field engine (R236 to R268). -/

namespace Sys2Proof.Machine

/-! ### Records of a window -/

/-- The records of n bytes each, from a page's window offset on, of which a given byte is not zero, in ascending order. -/
def State.listed (s : State) (page off size count n at_ : Nat) : List Nat :=
  (s.win.filter fun c =>
    winAddr page off ≤ c.1 && c.1 < winAddr page off + size * count && (c.1 - winAddr page off) % n == at_ && c.2 != 0).map
    fun c => (c.1 - winAddr page off) / n

/-- Bytes return to what they read as when nothing has written them. -/
def Memory.clear (m : List Host.Cell) (a n : Nat) : List Host.Cell := m.filter fun c => c.1 < a || a + n ≤ c.1

/-- Clear a part of a page's window. -/
def State.clearBytes (s : State) (page off n : Nat) : State := { s with win := Memory.clear s.win (winAddr page off) n }

/-- Insert by a key, behind the equal ones. -/
def insertBy {α : Type} (le_ : α → α → Bool) (x : α) : List α → List α
  | [] => [x]
  | y :: t => if le_ y x then y :: insertBy le_ x t else x :: y :: t

/-- Sort by a key, keeping the order of equal ones. -/
def sortBy {α : Type} (le_ : α → α → Bool) (l : List α) : List α := l.foldl (fun acc x => insertBy le_ x acc) []

/-! ### The graph (R236 to R241) -/

/-- A vertex record (R237). -/
structure Vertex where
  onLevel : Nat
  cls : Nat
  valid : Bool
  noSpawn : Bool
  program : Nat
deriving DecidableEq, Repr

def State.vertex (s : State) (bank v : Nat) : Vertex :=
  let o := 0x20000 * bank + 16 * v
  ⟨s.w16 0x07 o, s.w8 0x07 (o + 2) % 16, bitAt (s.w8 0x07 (o + 3)) 0, bitAt (s.w8 0x07 (o + 3)) 1, s.w16 0x07 (o + 4)⟩

/-- The vertices of a bank with VALID 1. -/
def State.vertices (s : State) (bank : Nat) : List Nat :=
  (s.listed 0x07 (0x20000 * bank) 16 8192 16 3).filter fun v => (s.vertex bank v).valid

/-- An edge record (R238) with its index. -/
structure Edge where
  index : Nat
  origin : Nat
  target : Nat
  length : Nat
  cap : Nat
  dir : Nat
deriving DecidableEq, Repr

def edgeBase (bank : Nat) : Nat := 0x100000 + 0x100000 * bank

def State.edge (s : State) (bank g : Nat) : Edge :=
  let o := edgeBase bank + 16 * g
  ⟨g, s.w16 0x07 o, s.w16 0x07 (o + 2), s.w32 0x07 (o + 4), s.w16 0x07 (o + 8), s.w8 0x07 (o + 10) % 4⟩

/-- The edges of a bank with VALID 1, in index order. -/
def State.edges (s : State) (bank : Nat) : List Edge :=
  ((s.listed 0x07 (edgeBase bank) 16 65536 16 11).filter fun g => bitAt (s.w8 0x07 (edgeBase bank + 16 * g + 11)) 0).map
    (s.edge bank)

/-- The vertex that an edge leads to from a vertex, if it is travelable from there (R239). -/
def Edge.away (g : Edge) (x : Nat) : Option Nat :=
  if g.dir = 0 then (if g.origin = x then some g.target else if g.target = x then some g.origin else none)
  else if g.dir = 1 ∧ g.origin = x then some g.target
  else none

/-- The edge that Drift uses from x to y: the shortest, and the lower index on a tie (R239). -/
def edgeBetween (es : List Edge) (x y : Nat) : Option Edge :=
  es.foldl (fun acc g =>
    if g.away x = some y then
      match acc with
      | none => some g
      | some h => if g.length < h.length then some g else some h
    else acc) none

/-- DRF_GRAPH_ERR and its notice. -/
def State.graphErr (s : State) (index kind reason : Nat) : State :=
  (s.wrAll [(DRF_GRAPH_ERR_INDEX, index), (DRF_GRAPH_ERR_KIND, kind), (DRF_GRAPH_ERR_REASON, reason)]).notice
    DRF_NOTE_GRAPH_ERR

/-- The lowest reason of R240 that an edge gives, or 0. -/
def State.edgeFault (s : State) (bank : Nat) (g : Edge) : Nat :=
  let bad := fun v => 8191 < v || !(s.vertex bank v).valid
  if bad g.origin || bad g.target then 1
  else if g.origin = g.target then 2
  else if g.length = 0 ∨ 100000 < g.length then 3
  else if g.cap ≠ 0 ∧ (g.cap < 30 ∨ 3000 < g.cap) then 4
  else if g.dir = 3 then 5
  else 0

/-- The first offending record of a bank: the edges in order, then the vertices (R240): index, kind, reason. -/
def State.graphFault (s : State) (bank : Nat) : Option (Nat × Nat × Nat) :=
  match (s.edges bank).find? fun g => s.edgeFault bank g != 0 with
  | some g => some (g.index, 1, s.edgeFault bank g)
  | none =>
    ((s.vertices bank).find? fun v => 256 ≤ (s.vertex bank v).program && (s.vertex bank v).program != 0xFFFF).map
      fun v => (v, 0, 6)

/-- A write of SWAP (R240): discarded while PENDING is 1. -/
def State.graphSwap (s : State) : State :=
  if s.rdB DRF_GRAPH_PENDING then s else { s with drf := { s.drf with checked := false } }.wr DRF_GRAPH_PENDING 1

/-- The check of the inactive bank completes (R240). -/
def State.graphChecked (s : State) : State :=
  if !s.rdB DRF_GRAPH_PENDING || s.drf.checked then s
  else
    match s.graphFault (1 - s.rd DRF_GRAPH_ACTIVE) with
    | some (i, k, r) => (s.wr DRF_GRAPH_PENDING 0).graphErr i k r
    | none => { s with drf := { s.drf with checked := true } }

/-- The bits of a word of a vertex, edge or override record that are not reserved (R237, R238, R257). -/
def drfMask (kind o : Nat) : Nat :=
  if kind = 0 then (if o = 0 then 0x030FFFFF else if o = 4 then 0xFFFF else if o = 8 then 0xFFFFFFFF else 0)
  else if kind = 1 then (if o = 8 then 0x0103FFFF else if o = 12 then 0 else 0xFFFFFFFF)
  else if o = 0 then 0x0001FFFF else if o = 4 then 0 else 0xFFFFFFFF

/-- A word write to the DRF window (R236, R267). -/
def State.drfWordWrite (s : State) (off w : Nat) : State :=
  let o := off / 4 * 4
  let put := fun kind => s.setN 0x07 o 4 (Nat.land w (drfMask kind (o % 16)))
  if o < 0x40000 then
    if o / 0x20000 = s.rd DRF_GRAPH_ACTIVE then s.graphErr (o % 0x20000 / 16) 0 7 else put 0
  else if 0x100000 ≤ o ∧ o < 0x300000 then
    if (o - 0x100000) / 0x100000 = s.rd DRF_GRAPH_ACTIVE then s.graphErr (o % 0x100000 / 16) 1 7 else put 1
  else if 0x300000 ≤ o ∧ o < 0x320000 then put 2
  else s

/-! ### Intake (R242 to R245) -/

/-- A later event takes an entry's place; the count rises either way (R245). -/
def DrfEvent.coalesce (old e : DrfEvent) : DrfEvent :=
  if old.tick < e.tick then { e with count := old.count + 1 } else { old with count := old.count + 1 }

/-- Coalesce into the latest entry of the same vertex, if there is one. The list is given latest first. -/
def coalesceLatest (e : DrfEvent) : List DrfEvent → Option (List DrfEvent)
  | [] => none
  | x :: t => if x.vertex = e.vertex then some (x.coalesce e :: t) else (coalesceLatest e t).map (x :: ·)

/-- An event enters the filling side (R245). -/
def State.drfFill (s : State) (e : DrfEvent) : State :=
  let d := s.drf
  if d.queue.length < 4096 then { s with drf := { d with queue := d.queue ++ [e] } }
  else
    let d' := match coalesceLatest e d.queue.reverse with
      | some q => { d with queue := q.reverse }
      | none =>
        match Sparse.get d.overflow e.vertex with
        | some x => { d with overflow := Sparse.insert d.overflow e.vertex (x.coalesce e) }
        | none => { d with overflow := Sparse.insert d.overflow e.vertex e }
    (({ s with drf := { d' with coalesced := d'.coalesced + 1 } }.count DRF_COALESCED 1).notice DRF_NOTE_COALESCE)

/-- The greatest age taken, in µs. -/
def State.drfMaxAge (s : State) : Nat := max 1 (min 10000 (s.rd DRF_INTAKE_MAX_AGE)) * 1000

/-- An event of a vertex with its age in µs, strength and sensor (R242, R243). -/
def State.drfEnter (s : State) (v age strength sensor : Nat) : State :=
  if 8191 < v ∨ !(s.vertex (s.rd DRF_GRAPH_ACTIVE) v).valid then (s.count DRF_BAD_EVENT 1).notice DRF_NOTE_BAD_EVENT
  else if s.drfMaxAge < age then s.count DRF_STALE 1
  else if strength < s.rd DRF_INTAKE_MIN_STRENGTH then s.count DRF_WEAK 1
  else if !s.rdB DRF_CTRL_EN then s.count DRF_BAD_EVENT 1
  else (s.count DRF_EVENTS_IN 1).drfFill ⟨v, s.epoch - age, strength, sensor, 1⟩

/-- A detection with its instant in module time: its age is rounded to whole µs (R242). It is work for the page's
clock domains (R28). -/
def State.drfDetect (s : State) (v instant strength sensor : Nat) : State :=
  (s.wakePage 0x07).drfEnter v ((s.moduleTime - instant + 500) / 1000) strength sensor

/-! ### Configuration (R259, R268) -/

def State.drfPeriod (s : State) : Nat := max 5 (min 200 (s.rd DRF_EVAL_PERIOD)) * 1000
def State.drfSpeedMin (s : State) : Nat := max 30 (min 3000 (s.rd DRF_SPEED_MIN))
def State.drfSpeedMax (s : State) : Nat := max s.drfSpeedMin (max 30 (min 3000 (s.rd DRF_SPEED_MAX)))
def State.drfClampSpeed (s : State) (v : Nat) : Nat := max s.drfSpeedMin (min s.drfSpeedMax v)
def State.drfAlpha (s : State) : Nat := max 1 (min 16 (s.rd DRF_WALKER_ALPHA))
def State.drfMaxLife (s : State) : Nat := max 1 (min 600 (s.rd DRF_WALKER_MAX_LIFE)) * 1000000
def State.drfGrace (s : State) : Nat := s.rd DRF_WALKER_GRACE * 100000
def State.drfVerts (s : State) : Nat :=
  if s.rd DRF_SEARCH_VERTS = 0 ∨ 256 < s.rd DRF_SEARCH_VERTS then 256 else s.rd DRF_SEARCH_VERTS
def State.drfEdges (s : State) : Nat :=
  if s.rd DRF_SEARCH_EDGES = 0 ∨ 2048 < s.rd DRF_SEARCH_EDGES then 2048 else s.rd DRF_SEARCH_EDGES
def State.drfLead (s : State) (c : Nat) : Nat := min 100 (s.rd (DRF_CLASS_LEAD c)) * 100000
def State.drfTaper (s : State) (c : Nat) : Nat := min 100 (s.rd (DRF_CLASS_TAPER c))
def State.drfTrail (s : State) (c : Nat) : Nat := min 600 (s.rd (DRF_CLASS_TRAIL c)) * 1000000
def State.drfMaxLead (s : State) : Nat := ((List.range 16).map s.drfLead).foldl max 0

/-- Division rounded up. -/
def ceilDiv (a b : Nat) : Nat := (a + b - 1) / b

/-! ### Walkers (R246 to R251) -/

/-- The longest edge travelable from a walker's vertex, leaving out edges to FROM when it is TRACKING (R251). -/
def Walker.longest (w : Walker) (es : List Edge) : Nat :=
  es.foldl (fun acc g =>
    match g.away w.vertex with
    | some y => if w.tracking && w.origin == some y then acc else max acc g.length
    | none => acc) 0

/-- A walker's horizon (R251). -/
def State.horizon (s : State) (es : List Edge) (w : Walker) : Nat :=
  w.last + min s.drfMaxLife (ceilDiv (w.longest es * 1000000) w.speed + s.drfGrace)

/-- The implied speed of a move along an edge in a tick difference, rounded (R248). -/
def impliedSpeed (length dt : Nat) : Nat := (2 * length * 1000000 + dt) / (2 * dt)

/-- A candidate's implied speed and its error against its own prediction (R248). -/
def State.candidate (s : State) (es : List Edge) (e : DrfEvent) (w : Walker) : Option (Nat × Nat) :=
  if w.vertex = e.vertex ∨ e.tick ≤ w.last ∨ s.horizon es w < e.tick then none
  else
    match edgeBetween es w.vertex e.vertex with
    | none => none
    | some g =>
      let sp := impliedSpeed g.length (e.tick - w.last)
      let due := w.last + ceilDiv (g.length * 1000000) w.speed
      if s.drfSpeedMin ≤ sp ∧ sp ≤ s.drfSpeedMax then some (sp, (e.tick - due) + (due - e.tick)) else none

/-- The best candidate: the smallest error, then the lower number (R248): its number and implied speed. -/
def State.bestCandidate (s : State) (es : List Edge) (e : DrfEvent) (ws : List Walker) : Option (Nat × Nat) :=
  (ws.foldl (fun (acc : Option (Nat × Nat × Nat)) w =>
    match s.candidate es e w, acc with
    | none, _ => acc
    | some (sp, err), none => some (w.num, sp, err)
    | some (sp, err), some a => if err < a.2.2 then some (w.num, sp, err) else acc) none).map fun a => (a.1, a.2.1)

/-- SPEED after a move (R250). -/
def State.smoothed (s : State) (w : Walker) (sp : Nat) : Nat :=
  s.drfClampSpeed (if w.tracking then (w.speed * (16 - s.drfAlpha) + sp * s.drfAlpha + 8) / 16 else sp)

/-- The lowest FREE walker number. -/
def freeWalker (ws : List Walker) : Option Nat :=
  (List.range 1024).find? fun n => !(ws.any fun w => w.num == n)

/-- The walker with the smallest T_LAST, the lower number on a tie (R249). -/
def oldestWalker : List Walker → Option Walker
  | [] => none
  | w :: t =>
    match oldestWalker t with
    | none => some w
    | some x => if x.last < w.last then some x else some w

/-- Put a walker at its number. -/
def putWalker (ws : List Walker) (w : Walker) : List Walker :=
  insertBy (fun a b => a.num ≤ b.num) w (ws.filter fun x => x.num != w.num)

/-- A walker takes its place, and the next walker's identity rises. -/
def State.placeWalker (s : State) (w : Walker) : State :=
  { s with drf := { s.drf with walkers := putWalker s.drf.walkers w, nextId := (s.drf.nextId + 1) % 2 ^ 32 } }.count DRF_CREATED 1

/-- Create a walker at an entry's vertex, evicting the oldest when none is FREE (R247, R249). -/
def State.createWalker (s : State) (e : DrfEvent) (cls : Nat) : State :=
  let w := fun n => (⟨n, false, e.vertex, none, e.tick, s.drfClampSpeed (s.rd (DRF_CLASS_SPD_SPEED_INIT cls)), 1,
    s.drf.nextId, none⟩ : Walker)
  match freeWalker s.drf.walkers with
  | some n => s.placeWalker (w n)
  | none =>
    match oldestWalker s.drf.walkers with
    | some x => ((s.count DRF_EVICT 1).notice DRF_NOTE_WALKER_FULL).placeWalker (w x.num)
    | none => s

/-- Whether an entry at a walker's vertex refreshes it (R247): it is later than the last detection, or of the tick at which the walker
moved there (R266). -/
def Walker.refreshable (w : Walker) (tick : Nat) : Bool := w.last < tick || (w.last == tick && w.moved == some tick)

/-- An entry is handled (R247, R254). The vertex record is read in the active bank; an entry whose vertex is not VALID in it
sets only its trail hold. -/
def State.handleEntry (es : List Edge) (s : State) (e : DrfEvent) : State :=
  let vx := s.vertex (s.rd DRF_GRAPH_ACTIVE) e.vertex
  let hold := max ((Sparse.get s.drf.trail e.vertex).getD 0) (e.tick + s.drfTrail vx.cls)
  let s := { s with drf := { s.drf with trail := Sparse.insert s.drf.trail e.vertex hold } }
  let change := fun (s : State) (p : Walker → Bool) (f : Walker → Walker) =>
    { s with drf := { s.drf with walkers := s.drf.walkers.map fun w => if p w then f w else w } }
  if !vx.valid then s
  else
    match s.bestCandidate es e s.drf.walkers with
    | some (n, sp) =>
      change s (fun w => w.num == n) fun w =>
        { w with origin := some w.vertex, vertex := e.vertex, speed := s.smoothed w sp, last := e.tick,
                 hits := min 255 (w.hits + 1), tracking := true, moved := some e.tick }
    | none =>
      if s.drf.walkers.any fun w => w.vertex == e.vertex then
        change s (fun w => w.vertex == e.vertex && w.refreshable e.tick) fun w =>
          { w with last := e.tick, hits := min 255 (w.hits + 1) }
      else if vx.noSpawn then s
      else s.createWalker e vx.cls

/-- The order of R247. -/
def entryOrder (a b : DrfEvent) : Bool := a.tick < b.tick || (a.tick == b.tick && decide (a.vertex ≤ b.vertex))

/-- Walkers whose horizon lies before t0 become FREE (R251). -/
def State.retireWalkers (s : State) (es : List Edge) (t0 : Nat) : State :=
  let keep := s.drf.walkers.filter fun w => t0 ≤ s.horizon es w
  { s with drf := { s.drf with walkers := keep } }.count DRF_RETIRED (s.drf.walkers.length - keep.length)

/-! ### Envelopes (R252, R253, R255) -/

/-- A walker's search: the vertices reached with their travel times, the settled vertices with theirs, in order, the edges
relaxed, and whether a limit was met. -/
structure Search where
  best : List (Nat × Nat)
  settled : List (Nat × Nat)
  relaxed : Nat
  trunc : Bool
deriving DecidableEq, Repr

/-- The vertex of least travel time, the lowest index on a tie. -/
def leastTau : List (Nat × Nat) → Option (Nat × Nat)
  | [] => none
  | p :: t =>
    match leastTau t with
    | none => some p
    | some q => if q.2 < p.2 then some q else some p

/-- Relax the edges travelable away from x, in index order (R252, R255); of parallel ones the one that Drift uses (R239). `es` are
all the edges. -/
def Search.relax (r : Search) (w : Walker) (es : List Edge) (limit x tau : Nat) : List Edge → Search
  | [] => r
  | g :: t =>
    match g.away x with
    | none => r.relax w es limit x tau t
    | some y =>
      if (x = w.vertex ∧ w.tracking ∧ w.origin = some y) ∨ edgeBetween es x y ≠ some g then r.relax w es limit x tau t
      else if r.relaxed = limit then { r with trunc := true }
      else
        let r := { r with relaxed := r.relaxed + 1 }
        let v := if g.cap = 0 then w.speed else min w.speed g.cap
        let n := tau + ceilDiv (g.length * 1000000) v
        let better := !(r.settled.any fun p => p.1 == y) &&
          (match Sparse.get r.best y with
           | none => true
           | some b => decide (n < b))
        (if better then { r with best := Sparse.insert r.best y n } else r).relax w es limit x tau t

/-- The search settles vertices until it must stop (R252, R255). -/
def searchFrom (w : Walker) (es : List Edge) (reach verts edges : Nat) : Nat → Search → Search
  | 0, r => r
  | n + 1, r =>
    match leastTau r.best with
    | none => r
    | some (x, tau) =>
      if reach < tau then r
      else
        let r := { r with best := Sparse.erase r.best x, settled := r.settled ++ [(x, tau)] }
        if r.settled.length = verts then { r with trunc := true }
        else
          let r := r.relax w es edges x tau es
          if r.trunc then r else searchFrom w es reach verts edges n r

/-- The contribution of a walker to a settled vertex, due in τ − E (R253). -/
def State.contribution (s : State) (x tau elapsed : Nat) : Nat :=
  let vx := s.vertex (s.rd DRF_GRAPH_ACTIVE) x
  let l := s.drfLead vx.cls
  let f := l * (100 - s.drfTaper vx.cls) / 100
  if tau ≤ elapsed + f then vx.onLevel
  else if tau ≤ elapsed + l then vx.onLevel * (l + elapsed - tau) / (l - f)
  else 0

/-- A walker's envelope: the vertices it lights with their contributions, and whether it was truncated. -/
def State.envelope (s : State) (es : List Edge) (t0 : Nat) (w : Walker) : List (Nat × Nat) × Bool :=
  let e := t0 - w.last
  let r := searchFrom w es (e + s.drfMaxLead) s.drfVerts s.drfEdges s.drfVerts ⟨[(w.vertex, 0)], [], 0, false⟩
  (r.settled.map fun p => (p.1, s.contribution p.1 p.2 e), r.trunc)

/-- The largest contribution to each vertex. -/
def maxInto (acc : List (Nat × Nat)) : List (Nat × Nat) → List (Nat × Nat)
  | [] => acc
  | (v, c) :: t => maxInto (Sparse.insert acc v (max c ((Sparse.get acc v).getD 0))) t

/-! ### Targets (R256 to R258) -/

/-- The floor and cap of a vertex, as its program last published them (R256). -/
def State.limits (s : State) (program : Nat) : Nat × Nat :=
  if 256 ≤ program then (0, 65535) else (s.w16 0x08 (0x80000 + 4 * program), s.w16 0x08 (0x80000 + 4 * program + 2))

/-- Whether a vertex's override applies at a module time (R257). -/
def State.overrideOn (s : State) (v now : Nat) : Bool :=
  bitAt (s.w8 0x07 (0x300000 + 16 * v + 2)) 0 &&
  (s.wN 0x07 (0x300000 + 16 * v + 8) 8 == 0 || decide (now < s.wN 0x07 (0x300000 + 16 * v + 8) 8))

/-- The target of a valid vertex from its walker contribution (R258), and whether the floor exceeds the cap. -/
def State.targetOf (s : State) (v walker t0 now : Nat) : Nat × Bool :=
  let vx := s.vertex (s.rd DRF_GRAPH_ACTIVE) v
  let trail := if t0 < (Sparse.get s.drf.trail v).getD 0 then vx.onLevel else 0
  let hostV := if s.overrideOn v now then s.w16 0x07 (0x300000 + 16 * v) else 0
  let (floor, cap) := s.limits vx.program
  let m := max floor (max walker (max trail hostV))
  if cap < floor then (floor, true) else (min m cap, false)

/-- The overrides with ACTIVE 1. -/
def State.overrides (s : State) : List Nat := s.listed 0x07 0x300000 16 8192 16 2

/-- ACTIVE of the overrides that have ended clears (R257). -/
def State.endOverrides (s : State) (now : Nat) : State :=
  s.overrides.foldl (fun s v => if s.overrideOn v now then s else s.setBytes 0x07 (0x300000 + 16 * v + 2) [0]) s

/-! ### The evaluation (R259 to R264) -/

/-- A walker's record in a target bank (R261). -/
def Walker.record (w : Walker) (t0 reached : Nat) (trunc : Bool) : List Nat :=
  toOctets 2 w.vertex ++ toOctets 2 (w.origin.getD 0xFFFF) ++ [if w.tracking then 2 else 1, w.hits] ++ toOctets 2 w.speed ++
  toOctets 4 (min 0xFFFFFFFF (t0 - w.last)) ++ toOctets 4 w.id ++ toOctets 2 reached ++ [if trunc then 1 else 0]

/-- A pending swap that has passed its check takes effect (R241): the walkers retire. -/
def State.applySwap (s : State) : Bool × State :=
  if s.rdB DRF_GRAPH_PENDING && s.drf.checked then
    let n := s.drf.walkers.length
    (true, ((({ s with drf := { s.drf with walkers := [], checked := false, graphBad := false } }.wr DRF_GRAPH_ACTIVE
      (1 - s.rd DRF_GRAPH_ACTIVE)).wr DRF_GRAPH_PENDING 0).count DRF_RETIRED n).notice DRF_NOTE_SWAP_DONE)
  else (false, s)

/-- At t0 the intake sides swap: the filling side is empty again (R244, R260). -/
def State.evalSwapSides (s : State) (dur : Nat) : State :=
  { s with drf := { s.drf with
      queue := [], overflow := [], coalesced := 0, lastDur := dur, lastPeriod := s.drfPeriod, storeBad := false, limitsChanged := false } }

/-- An uncorrectable memory error of an evaluation: 1 in walker, trail or intake storage, 2 in the active graph bank (R264). -/
def State.evalError (s : State) (mem : Nat) : State :=
  if mem = 0 then s
  else if mem = 2 then { s.itgReadError 0 0x07 with drf := { (s.itgReadError 0 0x07).drf with graphBad := true } }
  else s.itgReadError 1 0x07

/-- The errors that an evaluation meets: in the working storage, in the active graph bank, or in both. -/
def State.evalErrors (s : State) (store graph : Bool) : State :=
  let s := if graph then s.evalError 2 else s
  if store then s.evalError 1 else s

/-- The walkers take the entries, or are cleared in a degraded evaluation (R247, R264). -/
def State.evalWalk (s : State) (degraded : Bool) (taken : List DrfEvent) (t0 : Nat) : State :=
  if degraded then { s with drf := { s.drf with walkers := [], trail := [] } }
  else (taken.foldl (State.handleEntry (s.edges (s.rd DRF_GRAPH_ACTIVE))) s).retireWalkers (s.edges (s.rd DRF_GRAPH_ACTIVE)) t0

/-- The next target bank is written: its header, the targets and the walkers' records (R261). -/
def State.evalBank (s : State) (t0 now count : Nat) (targets : List (Nat × Nat × Bool))
    (envs : List (Walker × List (Nat × Nat) × Bool)) : State :=
  let b := s.drf.bank
  let base := 0x400000 + 0x10000 * b
  let s := ((s.clearBytes 0x07 base 0x10000).setN 0x07 base 4 count).setBytes 0x07 (base + 4) ([1, 0, 0, 0] ++ toOctets 8 now)
  let s := targets.foldl (fun s p => s.setN 0x07 (base + 0x40 + 2 * p.1) 2 p.2.1) s
  let s := envs.foldl (fun s p =>
    s.setBytes 0x07 (base + 0x8000 + 32 * p.1.num)
      (p.1.record t0 (p.2.1.filter fun q => q.2 != 0).length p.2.2)) s
  { s with drf := { s.drf with bank := (b + 1) % 3 } }

/-- The counters and notices of an evaluation (R250, R256, R263, R264). -/
def State.evalTell (s : State) (truncs above late mem count : Nat) (degraded : Bool) : State :=
  let s := (s.count DRF_TRUNC truncs).noticeIf (truncs != 0) DRF_NOTE_TRUNC
  let s := (s.count DRF_FLOOR_OVER_CAP above).noticeIf (above != 0) DRF_NOTE_FLOOR_OVER_CAP
  let s := if late = 0 then s else (s.count DRF_OVERRUNS 1).notice DRF_NOTE_OVERRUN
  let s := s.wrB DRF_STATUS_DEGRADED degraded
  if degraded then (s.notice DRF_NOTE_DEGRADED).silt 0x0701 count (if mem = 1 then 0 else 1) else s

/-- The targets of an evaluation: those of the valid vertices of the active bank, with whether the floor passed the cap. -/
def State.evalTargets (s : State) (envs : List (Walker × List (Nat × Nat) × Bool)) (t0 now : Nat) : List (Nat × Nat × Bool) :=
  let light := envs.foldl (fun acc p => maxInto acc p.2.1) []
  (s.vertices (s.rd DRF_GRAPH_ACTIVE)).map fun v => (v, s.targetOf v ((Sparse.get light v).getD 0) t0 now)

/-- The evaluation from the walkers on, and its publication: `taken` and `coal` are the entries taken and the coalescings, `late`
the duration beyond the period of the previous one. -/
def State.evalPublish (s : State) (taken coal late dur mem : Nat) (degraded swapped : Bool) : State :=
  let t0 := s.epoch
  let now := s.moduleTime
  let envs := s.drf.walkers.map fun w => (w, s.envelope (s.edges (s.rd DRF_GRAPH_ACTIVE)) t0 w)
  let truncs := (envs.filter fun p => p.2.2).length
  let targets := s.evalTargets envs t0 now
  let above := (targets.filter fun p => p.2.2).length
  let b := s.drf.bank
  let count := (s.rd (SEQ_COUNT 0x07) + 1) % 2 ^ 24
  ((((s.endOverrides now).evalBank t0 now count targets envs).evalTell truncs above late mem count degraded).wrAll
    [(DRF_SNAP_TIME_LO, now % 2 ^ 32), (DRF_SNAP_TIME_HI, now / 2 ^ 32), (DRF_SNAP_BANK_BANK, b),
     (DRF_SNAP_WALKERS_IN_USE, envs.length), (DRF_SNAP_WALKERS_TRUNC, truncs),
     (DRF_SNAP_EVENTS_TAKEN, if degraded then 0 else taken), (DRF_SNAP_EVENTS_COALESCED, min 65535 coal),
     (DRF_SNAP_DUR_DURATION, dur), (DRF_SNAP_DUR_STRETCH, min 65535 late),
     (DRF_SNAP_END_OVERRUN, if late = 0 then 0 else 1), (DRF_SNAP_END_DEGRADED, if degraded then 1 else 0),
     (DRF_SNAP_END_TRUNC, if truncs = 0 then 0 else 1), (DRF_SNAP_END_FLOOR_OVER_CAP, if above = 0 then 0 else 1),
     (DRF_SNAP_END_SWAPPED, if swapped then 1 else 0)]).publish 0x07 0 (SEQ_COUNT 0x07)

/-- The whole of an evaluation at its t0, of a duration in µs. `met` tells of an uncorrectable memory error: 1 in walker,
trail or intake storage, 2 in the active graph bank (R264). One that the scrubber has found in that storage is met here, and with it the
graph's. -/
def State.evaluate (s : State) (dur met : Nat) : State :=
  let store := s.drf.storeBad || met == 1
  let taken := sortBy entryOrder (s.drf.queue ++ s.drf.overflow.map Prod.snd)
  let late := s.drf.lastDur - s.drf.lastPeriod
  let swap := (s.evalSwapSides dur).applySwap
  let s' := swap.2.evalErrors store (met == 2)
  let degraded := store || s'.drf.graphBad
  (s'.evalWalk degraded taken s.epoch).evalPublish taken.length s.drf.coalesced late dur (if store then 1 else met) degraded swap.1

/-- Whether something can change at a tick of DOZE (R265). -/
def State.drfCanChange (s : State) : Bool :=
  let t0 := s.epoch
  !s.drf.queue.isEmpty || !s.drf.overflow.isEmpty || !s.drf.walkers.isEmpty ||
  (s.drf.trail.any fun p => t0 < p.2 && p.2 ≤ t0 + s.drfPeriod) ||
  (s.overrides.any fun v =>
    let u := s.wN 0x07 (0x300000 + 16 * v + 8) 8
    s.moduleTime < u && u ≤ s.moduleTime + 1000 * s.drfPeriod) ||
  s.drf.limitsChanged || s.rdB DRF_GRAPH_PENDING

/-- Whether evaluations run: Drift is enabled, the matrix lets the light path compute, and the schedule's first publication
is out (R31, R265, R278). -/
def State.drfRuns (s : State) : Bool :=
  s.rdB DRF_CTRL_EN && s.lightPath && (!s.rdB SCH_CTRL_EN || s.sch.published)

/-- A tick without an evaluation: no lateness reaches beyond it (R263). -/
def State.drfPass (s : State) : State := { s with drf := { s.drf with lastDur := 0 } }

/-- A period tick (R260, R265). -/
def State.drfTick (s : State) (dur mem : Nat) : State :=
  if !s.drfRuns then s.drfPass
  else if s.modes.power == .doze && !s.drfCanChange then s.drfPass.count DRF_SKIPPED 1
  else s.evaluate dur mem

/-- DRF_CTRL.EN (R265): 0 clears walkers, intake and trail holds. -/
def State.drfEnable (s : State) (en : Bool) : State :=
  let s := s.wrB DRF_CTRL_EN en
  if en then s
  else { s with drf := { s.drf with queue := [], overflow := [], coalesced := 0, walkers := [], trail := [], lastDur := 0 } }

/-! ### The commands -/

/-- DRF_EVENT_INTAKE (R242 to R245): a detection with its vertex, instant in module time, strength and sensor number. -/
def execDrfEventIntake (v instant strength sensor : Nat) (s : State) : Host.Outcome State Fault Refusal :=
  .next (s.working 0x07 fun s => s.drfDetect v instant strength sensor)

/-- DRF_INJECT (R242, R268). -/
def execDrfInject (port : Port) (v age : Nat) (s : State) : Host.Outcome State Fault Refusal :=
  .next (s.effect port DRF_INJECT_VERTEX.addr fun s => s.drfEnter (v % 8192) (age % 65536 * 1000) 255 0)

/-- DRF_EVALUATION (R252 to R265) at the raw count c, of a duration in µs. -/
def execDrfEvaluation (c dur mem : Nat) (s : State) : Host.Outcome State Fault Refusal :=
  .next (s.working 0x07 fun s => (s.reach c).drfTick dur mem)

/-- DRF_GRAPH_SWAP (R240). -/
def execDrfGraphSwap (port : Port) (s : State) : Host.Outcome State Fault Refusal :=
  .next (s.effect port DRF_GRAPH_SWAP.addr State.graphSwap)

/-- DRF_SWAP_CHECK_DONE (R240). -/
def execDrfSwapCheckDone (s : State) : Host.Outcome State Fault Refusal := .next (s.working 0x07 State.graphChecked)

/-- DRF_ENABLE_WRITE (R265). -/
def execDrfEnableWrite (port : Port) (en : Bool) (s : State) : Host.Outcome State Fault Refusal :=
  .next (s.effect port DRF_CTRL_EN.addr fun s => s.drfEnable en)

end Sys2Proof.Machine
end

