-- ==== Sys2Proof/Machine/Ntb.lean ====
section
/-! DEFINITION. The node table (R192 to R196). -/

namespace Sys2Proof.Machine

/-- The CRC-32C of octets (R194): the reflected polynomial 0x82F63B78, from all ones, inverted at the end. -/
def crc32cBit (c : Nat) : Nat := if c % 2 = 1 then Nat.xor (c / 2) 0x82F63B78 else c / 2

def crc32cOctet (c b : Nat) : Nat := iterate crc32cBit 8 (Nat.xor c (b % 256))

def crc32c (l : List Nat) : Nat := Nat.xor (l.foldl crc32cOctet 0xFFFFFFFF) 0xFFFFFFFF

/-- A value of n octets at a place of an entry. -/
def State.ent (s : State) (i off n : Nat) : Nat := s.wN 0x05 (256 * i + off) n

/-- Put a value of n octets at a place of an entry. -/
def State.setEnt (s : State) (i off n v : Nat) : State := s.setN 0x05 (256 * i + off) n v

/-- The STATE byte of an entry. -/
def State.entByte (s : State) (i : Nat) : Nat := s.ent i 0x0B 1

/-- An entry's state: BLOCKED while its CHECK fails (R194). -/
def State.entState (s : State) (i : Nat) : Nat := if s.ntbBad.contains i then 5 else s.entByte i

/-- The dispatch state of an entry, and its VALID (R318). -/
def State.dstate (s : State) (i : Nat) : Nat := s.ent i 0xBD 1
def State.dvalid (s : State) (i : Nat) : Bool := bitAt (s.dstate i) 0
def State.setDvalid (s : State) (i : Nat) (b : Bool) : State :=
  s.setEnt i 0xBD 1 (if b then setBit (s.dstate i) 0 else clrBit (s.dstate i) 0)

/-- Put an entry's state. One that leaves JOINED loses VALID (R341). -/
def State.setEntState (s : State) (i v : Nat) : State :=
  let s := if s.entByte i = 3 ∧ v ≠ 3 then s.setDvalid i false else s
  s.setEnt i 0x0B 1 v

def State.entType (s : State) (i : Nat) : Nat := s.ent i 0x0A 1
def State.entExt (s : State) (i : Nat) : Nat := s.ent i 0x00 8

/-- Whether a byte of an entry is written by host software (R192, R318, R368). -/
def ntbHostByte (off : Nat) : Bool :=
  off < 0x08 || off == 0x0A || off == 0x0C || off == 0x0D || off == 0x0E || off == 0x0F || (0x10 ≤ off && off ≤ 0x14) ||
  (0xA0 ≤ off && off ≤ 0xB3 && off != 0xA7) || off == 0xDC || off == 0xDD

/-- Whether a byte belongs to a field that is locked unless the entry is FREE or PROVISIONED (R193). -/
def ntbLockByte (off : Nat) : Bool := off < 0x08 || off == 0x0A || off == 0x0C || off == 0x0E || off == 0x0F

/-- The bits of a byte that host software writes: FLAGS bit 1 is the MAC's, and reserved bits stay 0 (R192, R8). -/
def ntbHostBits (off : Nat) : Nat := if off = 0x0D then 0x01 else if off = 0x0E then 0xF7 else if off = 0x0F then 0x03 else if off = 0xA0 then 0xF3
  else if off = 0xA1 then 0x0F else if off = 0xA6 then 0x8F else 0xFF

/-- NTB_ERR and the CFG_ERR notice. -/
def State.ntbErr (s : State) (i reason : Nat) : State :=
  ((s.wr NTB_ERR_INDEX i).wr NTB_ERR_REASON reason).notice NTB_NOTE_CFG_ERR

/-- One byte of a word write to an entry: the new value of the byte, as far as host software may write it (R193). -/
def State.ntbByteAfter (s : State) (i off v : Nat) : Nat :=
  let old := s.ent i off 1
  if !ntbHostByte off then old
  else if ntbLockByte off && s.entState i != 0 && s.entState i != 1 then old
  else Nat.land v (ntbHostBits off) + (old - Nat.land old (ntbHostBits off))

/-- Whether the write would have changed a locked byte (R193). -/
def State.ntbLockedChange (s : State) (i off v : Nat) : Bool :=
  ntbLockByte off && s.entState i != 0 && s.entState i != 1 &&
  Nat.land v (ntbHostBits off) != Nat.land (s.ent i off 1) (ntbHostBits off)

/-- A word write to the node table: byte by byte, the locked bytes kept (R193). A rewrite of an entry ends the CHECK
failure it stood under (R194). -/
def State.ntbWordWrite (s : State) (off w : Nat) : State :=
  let i := off / 256
  let o := off % 256 / 4 * 4
  let err := [0, 1, 2, 3].any fun k => s.ntbLockedChange i (o + k) (octet w k)
  let bytes := [0, 1, 2, 3].map fun k => s.ntbByteAfter i (o + k) (octet w k)
  let s := s.setBytes 0x05 (256 * i + o) bytes
  let s := { s with ntbBad := s.ntbBad.filter (· != i) }
  if err then s.ntbErr i 1 else s

/-- The entries that are not FREE, in ascending order: those whose STATE byte is listed. -/
def State.usedEntries (s : State) : List Nat :=
  (s.win.filter fun c => winAddr 0x05 0 ≤ c.1 && c.1 < winAddr 0x05 0x200000 && c.1 % 256 == 0x0B && c.2 != 0).map
    fun c => (c.1 - winAddr 0x05 0) / 256

/-- DPT follows what allows mesh and bus transmission: as it comes into control VALID clears in every entry (R328). IN_CONTROL as stored
is what it was told last. -/
def State.dptFollow (s : State) : State :=
  if s.meshTx = s.rdB DPT_STATUS_IN_CONTROL then s
  else if s.meshTx then
    ((s.usedEntries.foldl (fun s i => s.setDvalid i false) s).wr DPT_STATUS_IN_CONTROL 1).notice DPT_NOTE_TAKEOVER
  else s.wr DPT_STATUS_IN_CONTROL 0

/-- The entry that is not FREE and holds an extended address (R186, R196). -/
def State.ntbFind (s : State) (ext : Nat) : Option Nat := s.usedEntries.find? fun i => s.entExt i == ext

/-- The lowest-numbered FREE entry (R186). -/
def State.lowestFree (s : State) : Option Nat := (List.range 8192).find? fun i => s.entByte i == 0

/-- A command's result; anything but done sets CFG_ERR with reason 2 (R196). -/
def State.ntbResult (s : State) (i r : Nat) : State :=
  let s := s.wr NTB_CMD_STAT_RESULT r
  if r = 0 ∨ r = 5 then s else s.ntbErr i 2

/-- An entry enters the table: STATE PROVISIONED, no temperature reported and no group known (R196, R234). -/
def State.ntbEnter (s : State) (i : Nat) : State :=
  ((s.setEntState i 1).setBytes 0x05 (256 * i + 0x7C) [0, 0x80, 0, 0x80, 0, 0x80, 0, 0x80]).setBytes 0x05 (256 * i + 0x50)
    (List.replicate 16 0xFF)

/-- PROVISION (R196). -/
def State.ntbProvision (s : State) (i : Nat) : State :=
  if s.entByte i ≠ 0 then s.ntbResult i 1
  else if s.entType i = 0 then s.ntbResult i 3
  else if s.entType i = 1 ∧ (s.usedEntries.any fun j => j != i && s.entType j == 1 && s.entExt j == s.entExt i) then
    s.ntbResult i 2
  else (s.ntbEnter i).ntbResult i 0

/-- BLOCK (R196): the entry's queued frames are dropped at the next slot plan (R191). -/
def State.ntbBlock (s : State) (i : Nat) : State :=
  if s.entByte i = 0 then s.ntbResult i 1 else (s.setEntState i 5).ntbResult i 0

/-- UNBLOCK (R196). -/
def State.ntbUnblock (s : State) (i : Nat) : State :=
  if s.entByte i = 5 then (s.setEntState i 1).ntbResult i 0 else s.ntbResult i 1

/-- FREE: bytes 0x00 to 0xFB are zeroed (R196). -/
def State.ntbFree (s : State) (i : Nat) : State :=
  ({ s with ntbBad := s.ntbBad.filter (· != i) }.setBytes 0x05 (256 * i) (List.replicate 0xFC 0)).ntbResult i 0

/-- CLEAR_HEALTH (R196). -/
def State.ntbClearHealth (s : State) (i : Nat) : State :=
  (((s.setEnt i 0x31 1 0).setEnt i 0xE0 4 0).setEnt i 0xE4 4 0).ntbResult i 0

/-- A command write: not taken while NTB_CTRL.EN is 0 (R196). -/
def State.ntbCommand (s : State) (i : Nat) (k : State → State) : State :=
  if s.rdB NTB_CTRL_EN then k s else s.ntbResult i 5

/-- NTB_CMD by its OP (R196). An undefined OP and a write that is not taken set RESULT alone, neither CFG_ERR nor NTB_ERR: DESIGN CHOICE,
log entry 146. -/
def State.ntbCmd (s : State) (i op : Nat) : State :=
  s.ntbCommand i fun s =>
    if op = 1 then s.ntbProvision i
    else if op = 2 then s.ntbBlock i
    else if op = 3 then s.ntbUnblock i
    else if op = 4 then s.ntbFree i
    else if op = 5 then s.ntbClearHealth i
    else s.wr NTB_CMD_STAT_RESULT 4

/-- A write of NTB_FIND_HI starts a lookup (R196). -/
def State.ntbFindHi (s : State) (w : Nat) : State :=
  let s := s.wr NTB_FIND_HI w
  if !s.rdB NTB_CTRL_EN then s.wr NTB_FIND_RES_FOUND 0
  else
    match s.ntbFind (s.rd NTB_FIND_LO + 2 ^ 32 * s.rd NTB_FIND_HI) with
    | some i => (s.wr NTB_FIND_RES_INDEX i).wr NTB_FIND_RES_FOUND 1
    | none => s.wr NTB_FIND_RES_FOUND 0

/-- An entry's CHECK fails: it is treated as BLOCKED until host software rewrites it (R194), and so is no longer JOINED (R341). -/
def State.ntbCheckFails (s : State) (i : Nat) : State :=
  let s := { s with ntbBad := i :: s.ntbBad.filter (· != i) }
  let s := if s.entByte i = 3 then s.setDvalid i false else s
  (((s.wr NTB_ERR_INDEX i).wr NTB_ERR_REASON 3).notice NTB_NOTE_CHECK).silt 0x0501 i

/-- A window byte of the node table as it reads: SHORT_ADDR and CHECK follow from the entry (R158, R192). -/
def State.ntbReadByte (s : State) (off : Nat) : Nat :=
  let i := off / 256
  let o := off % 256
  let short := if s.entType i = 1 then 0x0100 + i else 0xFFFE
  if o = 8 then octet short 0
  else if o = 9 then octet short 1
  else if 0xFC ≤ o then
    octet (crc32c (((s.wBytes 0x05 (256 * i) 0xFC).set 8 (octet short 0)).set 9 (octet short 1))) (o - 0xFC)
  else s.w8 0x05 off

/-- NTB_PROVISION (R196). -/
def execNtbProvision (port : Port) (i : Nat) (s : State) : Host.Outcome State Fault Refusal :=
  .next (s.effect port NTB_CMD_OP.addr fun s => s.ntbCmd i 1)

/-- NTB_BLOCK (R191, R196). -/
def execNtbBlock (port : Port) (i : Nat) (s : State) : Host.Outcome State Fault Refusal :=
  .next (s.effect port NTB_CMD_OP.addr fun s => s.ntbCmd i 2)

/-- NTB_UNBLOCK (R196). -/
def execNtbUnblock (port : Port) (i : Nat) (s : State) : Host.Outcome State Fault Refusal :=
  .next (s.effect port NTB_CMD_OP.addr fun s => s.ntbCmd i 3)

/-- NTB_FREE (R196). -/
def execNtbFree (port : Port) (i : Nat) (s : State) : Host.Outcome State Fault Refusal :=
  .next (s.effect port NTB_CMD_OP.addr fun s => s.ntbCmd i 4)

/-- NTB_CLEAR_HEALTH (R196). -/
def execNtbClearHealth (port : Port) (i : Nat) (s : State) : Host.Outcome State Fault Refusal :=
  .next (s.effect port NTB_CMD_OP.addr fun s => s.ntbCmd i 5)

/-- NTB_FIND (R196). -/
def execNtbFind (port : Port) (w : Nat) (s : State) : Host.Outcome State Fault Refusal :=
  .next (s.effect port NTB_FIND_HI.addr fun s => s.ntbFindHi w)

/-- NODE_ENTRY_WRITE (R193): a word write at a window offset of the node table takes effect. -/
def execNodeEntryWrite (port : Port) (off w : Nat) (s : State) : Host.Outcome State Fault Refusal :=
  .next (s.working 0x05 fun s =>
    if s.pageRuns 0x05 then (s.hostWrote port true (winAddr 0x05 off)).ntbWordWrite off w else s)

end Sys2Proof.Machine
end

