-- ==== Sys2Proof/Machine/Emu.lean ====
section
/-! DEFINITION. Feeder metering (R346 to R361, R373). -/

namespace Sys2Proof.Machine

/-! ### Circuits and channels -/

def State.circuit (s : State) (c : Nat) : EmuCircuit := s.emu.circuits.getD c .empty
def State.setCircuit (s : State) (c : Nat) (x : EmuCircuit) : State :=
  { s with emu := { s.emu with circuits := putAt 12 .empty s.emu.circuits c x } }
def State.channel (s : State) (k : Nat) : EmuChannel := s.emu.channels.getD k .empty
def State.detector (s : State) (k : Nat) : EmuDetector := s.emu.detectors.getD k .empty
def State.setDetector (s : State) (k : Nat) (x : EmuDetector) : State :=
  { s with emu := { s.emu with detectors := putAt 4 .empty s.emu.detectors k x } }

/-- MTR_EN, as the module drives it: high while EMU_CTRL.EN is 1 and the power state is not HOLD (R346). -/
def State.mtrEn (s : State) : Bool := s.rdB EMU_CTRL_EN && s.modes.power != .hold && s.live 0x0D

/-- The frequency of MTR_MCLK0 and MTR_MCLK1 in Hz: 4.096 MHz, or 0 while they are held low (R346). -/
def State.mtrClock (s : State) : Nat := if s.mtrEn then 4096000 else 0

/-- Whether a channel may serve a circuit (R350). -/
def State.channelGood (s : State) (k : Nat) : Bool := s.rdB (EMU_CH_CFG_EN k) && s.rd (EMU_CH_FS k) != 0

def State.vch (s : State) (c : Nat) : Nat := s.rd (EMU_CIRC_CFG_VCH c)
def State.ich (s : State) (c : Nat) : Nat := s.rd (EMU_CIRC_CFG_ICH c)

/-- Whether a circuit accumulates (R346, R350, R351). -/
def State.circuitRuns (s : State) (c : Nat) : Bool :=
  s.rdB EMU_CTRL_EN && s.rdB (EMU_CIRC_CFG_EN c) && 4 ≤ s.ich c && s.channelGood (s.vch c) && s.channelGood (s.ich c)

/-- A circuit's N as it acts (R373). -/
def State.circuitN (s : State) (c : Nat) : Nat := max 1 (min 4096 (s.rd (EMU_CIRC_CFG_N c)))

/-- Whether a channel of a circuit is FAULT (R350). -/
def State.circuitFault (s : State) (c : Nat) : Bool := bitAt (s.rd EMU_FAULT) (s.vch c) || bitAt (s.rd EMU_FAULT) (s.ich c)

/-- PHASE as it acts (R349). -/
def State.phase (s : State) (k : Nat) : Int := clampInt (-2560) 2560 (s.rdS (EMU_CH_CFG_PHASE k))

/-- A circuit was disturbed in the current window: disabled, FAULT or cleared (R361, R367). -/
def State.disturb (s : State) (c : Nat) : State :=
  { s with emur := { s.emur with disturbed := putAt 12 false s.emur.disturbed c true } }

/-! ### The modulator path (R348, R349) -/

/-- The number of ways to choose three places of 512 whose distances add up to j: the weight of the j-th bit in a third-order sinc
filter with ratio 512, whose window is 1,534 bits long. -/
def sincWeight (j : Nat) : Nat :=
  let tri := fun n => (n + 1) * (n + 2) / 2
  if j < 512 then tri j
  else if j < 1024 then tri j - 3 * tri (j - 512)
  else tri j + 3 * tri (j - 1024) - 3 * tri (j - 512)

/-- The weighted number of ones in the window that ends with the newest of 1,536 bits; all ones give 2^27. -/
def sincOnes (bits : Nat) : Nat :=
  ((List.range 1534).map fun j => if bitAt bits (j + 2) then sincWeight j else 0).sum

/-- The code of a filter window (R348): round((2d − 1) × 2^23) with the weighted share d of ones, clamped. Halves go away from 0: DESIGN
CHOICE, log entry 85. -/
def sincCode (bits : Nat) : Int := clampInt (-(2 ^ 23 - 1)) (2 ^ 23 - 1) (roundAway ((sincOnes bits : Int) - 2 ^ 26) 8)

/-- One step of the first-order high-pass filter with its corner at 0.5 Hz, in 2^−32 of a code: y′ = (1 − t) / (1 + t) × y + (x′ − x) /
(1 + t), with t = tan(π × 0.5 / 8,000) (R348). Of the first-order filters with that corner this one stays within the bound of R353: DEDUCED,
log entry 180, where the rounding is free. -/
def highPass (y x x' : Int) : Int :=
  (4293280997 * y + 4294124147 * 2 ^ 32 * (x' - x)) / 2 ^ 32 + ((Config.highPassRounding y x x').val : Int) - 4096

/-- A channel takes the 512 bits of a sample, the oldest lowest (R348). -/
def EmuChannel.next (x : EmuChannel) (hpf : Bool) (block : Nat) : EmuChannel :=
  let bits := x.stream + 2 ^ 1024 * (block % 2 ^ 512)
  let code := sincCode bits
  let y := highPass x.passed x.code code
  ⟨bits / 2 ^ 512, code, y, ((if hpf then roundAway y (2 ^ 32) else code) :: x.hist).take 24⟩

/-- The samples by which every channel is held, so that PHASE can bring one up to ten samples forward and interpolate there: DEDUCED from
R349, log entry 181. T_END and the crossings are corrected for it. -/
def phaseHold : Nat := 11

/-- A channel's sample after PHASE (R349): the sample itself where the delay is whole, and else the straight line between the two samples
around the instant with a free bend, of at most their second differences (log entry 181). -/
def EmuChannel.out (x : EmuChannel) (phase : Int) : Int :=
  let at_ := (256 * phaseHold + phase).toNat
  let h := fun n => x.hist.getD n 0
  let n := at_ / 256
  let f := at_ % 256
  if f = 0 then h n
  else
    let a := h n
    let b := h (n + 1)
    let limit : Int := (max (h (n - 1) - 2 * a + b).natAbs (a - 2 * b + h (n + 2)).natAbs : Nat)
    a + roundAway ((b - a) * f) 256 + clampInt (-limit) limit (Config.bend f [h (n - 1), a, b, h (n + 2)])

/-- Every channel takes the bits of a sample. -/
def State.takeBits (s : State) (bits : List Nat) : State :=
  let l := (List.range 16).map fun k => (s.channel k).next (s.rdB (EMU_CH_CFG_HPF k)) (bits.getD k 0)
  { s with emu := { s.emu with channels := l } }

/-- The channels' samples after HPF and PHASE. -/
def State.samples (s : State) : List Int := (List.range 16).map fun k => (s.channel k).out (s.phase k)

/-! ### Accumulation (R352 to R354) -/

/-- Add energy in 2^−40 µWh to an accumulator: its whole part, fraction and WRAP flag. -/
def addEnergy (whole frac : Nat) (wrap : Bool) (e : Nat) : Nat × Nat × Bool :=
  let n := whole * 2 ^ 40 + frac + e
  (n / 2 ^ 40 % 2 ^ 64, n % 2 ^ 40, wrap || decide (2 ^ 104 ≤ n))

/-- A sample's energy to IMPORT or EXPORT (R352): p has the sign of the product. -/
def EmuTotals.add (t : EmuTotals) (sign : Int) (e : Nat) : EmuTotals :=
  if 0 < sign then
    let (w, f, b) := addEnergy t.imp t.impFrac t.impWrap e
    { t with imp := w, impFrac := f, impWrap := b }
  else if sign < 0 then
    let (w, f, b) := addEnergy t.exp t.expFrac t.expWrap e
    { t with exp := w, expFrac := f, expWrap := b }
  else t

/-- The energy of a sample in 2^−40 µWh: |p| / 28,800,000, with p the product of the two codes times FS / 2^23 each
(R348, R352). -/
def sampleEnergy (v i : Int) (fsv fsi : Nat) : Nat := (v * i).natAbs * fsv * fsi / (64 * 28800000)

/-! ### Latches (R357, R359, R360) -/

/-- The SEQ field of a circuit's block: its count stands in bits 31:8 (R373). -/
def emuSeq (c : Nat) : Field := if c = 0 then SEQ_COUNT 0x0D else ⟨(EMU_L_SEQ c).addr, 8, 24, .ro, 0, .stored⟩

/-- T_END: the module time of the input of the last sample, without the voltage channel's PHASE (R359). -/
def State.latchTime (s : State) (c : Nat) : Nat := codeOf 64 (s.emu.last - s.phase (s.vch c) * 125000 / 256)

/-- DUR: the interval's length in µs, from the last sample of the interval before it to its own, samples lost in it included (R373). -/
def State.latchDur (s : State) (x : EmuCircuit) : Nat :=
  match x.since with
  | some t => codeOf 32 ((s.emu.last - t) / 1000)
  | none => 0

/-- A latch of a circuit with the given marks, and a new interval (R357, R359, R360). -/
def State.latch (s : State) (c : Nat) (time part cleared : Bool) : State :=
  let x := s.circuit c
  let flags := flagBits [time, part, x.gap, cleared, x.clip, x.fault, x.now.impWrap, x.now.expWrap]
  let n := (s.rd (emuSeq c) + 1) % 2 ^ 24
  let t := s.latchTime c
  let dur := s.latchDur x
  let s := (s.wrAll
    [(EMU_L_T_END_LO c, t), (EMU_L_T_END_HI c, t / 2 ^ 32), (EMU_L_DUR c, dur), (EMU_L_CYCLES c, x.cycles),
     (EMU_L_IMP_LO c, x.now.imp), (EMU_L_IMP_HI c, x.now.imp / 2 ^ 32), (EMU_L_EXP_LO c, x.now.exp),
     (EMU_L_EXP_HI c, x.now.exp / 2 ^ 32), (EMU_L_LATCH_NO c, n), (EMU_L_END_FLAGS c, flags)]).publish 0x0D c (emuSeq c)
  let s := s.setBytes 0x0D (0x4000 * c + 48 * (n % 256))
    (toOctets 4 n ++ toOctets 4 flags ++ toOctets 8 t ++ toOctets 4 dur ++ toOctets 4 x.cycles ++
      toOctets 8 x.now.imp ++ toOctets 8 x.now.exp)
  (s.setCircuit c { x with samples := 0, cycles := 0, count := 0, clip := false, fault := s.circuitFault c, gap := false,
                           since := x.since.map fun _ => s.emu.last }).notice
    EMU_NOTE_LATCH

/-- Whether a voltage channel is in time mode (R358). -/
def State.timeMode (s : State) (k : Nat) : Bool := bitAt (s.rd EMU_STATUS_ZC_LOST) k

/-- The samples of an interval in time mode (R358). -/
def State.timeLimit (s : State) (c : Nat) : Nat :=
  if s.rdB (EMU_CIRC_CFG_LINE_HZ c) then (s.circuitN c * 800 + 3) / 6 else s.circuitN c * 160

/-- The circuits that run on a voltage channel. -/
def State.circuitsOn (s : State) (k : Nat) : List Nat := (List.range 12).filter fun c => s.circuitRuns c && s.vch c == k

/-- A crossing counts in the interval of every circuit of the channel; `fresh` starts its count toward N anew (R357). -/
def State.countCrossing (s : State) (k : Nat) (fresh : Bool) : State :=
  (s.circuitsOn k).foldl (fun s c =>
    let x := s.circuit c
    s.setCircuit c { x with cycles := x.cycles + 1, count := if fresh then 0 else x.count + 1 }) s

/-- A voltage channel leaves time mode: its circuits latch (R358). -/
def State.zcBack (s : State) (k : Nat) : State :=
  let s := (s.circuitsOn k).foldl (fun s c => s.latch c true false false) s
  ((s.setDetector k { s.detector k with row := 0 }).wr EMU_STATUS_ZC_LOST (clrBit (s.rd EMU_STATUS_ZC_LOST) k)).notice
    EMU_NOTE_ZC_BACK

/-- The circuits of a voltage channel that have counted N cycles latch (R357). -/
def State.latchFull (s : State) (k : Nat) : State :=
  (s.circuitsOn k).foldl (fun s c => if s.circuitN c ≤ (s.circuit c).count then s.latch c false false false else s) s

/-- A valid crossing of a voltage channel (R356 to R358); `fresh` starts the count anew. -/
def State.crossing (s : State) (k : Nat) (fresh : Bool) : State :=
  let d := s.detector k
  let row := if fresh then 0 else d.row + 1
  let s := (s.setDetector k { d with row := row }).countCrossing k fresh
  if s.timeMode k then
    if max 1 (s.rd EMU_ZC_RESUME) ≤ row then s.zcBack k else s
  else s.latchFull k

/-- One sample at a zero-crossing detector (R356): the channel's code after HPF and PHASE and its instant. -/
def State.detect (s : State) (k : Nat) (x at_ : Int) : State :=
  let d := s.detector k
  let next := { d with prev := x, prevAt := at_ }
  if x < -(s.rd EMU_ZC_HYST * 128 : Nat) then s.setDetector k { next with armed := true }
  else if d.armed && decide (0 ≤ x) then
    let cross := d.prevAt + (at_ - d.prevAt) * (-d.prev) / max 1 (x - d.prev)
    let next := { next with armed := false }
    match d.last with
    | none => (s.setDetector k { next with last := some cross }).crossing k true
    | some l =>
      if cross - l < 14000000 then (s.setDetector k next).count EMU_ZC_NOISE 1
      else (s.setDetector k { next with last := some cross }).crossing k (decide (28600000 < cross - l))
  else s.setDetector k next

/-- A circuit takes its sample (R350, R352): the codes after HPF and PHASE. -/
def State.accumulate (s : State) (filt : List Int) (clip : Nat → Bool) (c : Nat) : State :=
  if !s.circuitRuns c then s.disturb c
  else
    let x := s.circuit c
    let v := filt.getD (s.vch c) 0
    let i := (if s.rdB (EMU_CIRC_CFG_SIGN c) then -1 else 1) * filt.getD (s.ich c) 0
    let bad := s.circuitFault c
    let e := sampleEnergy v i (s.rd (EMU_CH_FS (s.vch c))) (s.rd (EMU_CH_FS (s.ich c)))
    let t := if bad then x.now else x.now.add (v * i) e
    let wrapped := (t.impWrap && !x.now.impWrap) || (t.expWrap && !x.now.expWrap)
    let s := s.setCircuit c
      { x with now := t, since := some (x.since.getD (s.emu.last - 125000)), samples := x.samples + 1, clip := x.clip || clip (s.vch c) || clip (s.ich c),
               fault := x.fault || bad }
    let s := if bad then s.disturb c else s
    let s := s.noticeIf wrapped EMU_NOTE_WRAP
    if s.timeMode (s.vch c) && decide (s.timeLimit c ≤ (s.circuit c).samples) then s.latch c true false false else s

/-- The group delay of the decimation filter: 766.5 periods of 4.096 MHz, in ns (R349). -/
def groupDelay : Int := 187134

/-- How far the input that a sample stands for lies before the sample (R349). -/
def inputLag : Int := groupDelay + phaseHold * 125000

/-- The instant of the last sample itself. -/
def State.sampledAt (s : State) : Int := s.emu.last + inputLag

/-- The instant of the last sample's input. -/
def State.emuStamp (s : State) (n : Int) : State := { s with emu := { s.emu with last := n } }

/-- One sample of every channel (R348 to R358) at the present, from the 512 bits of each channel's stream. -/
def State.emuSample (s : State) (bits : List Nat) : State :=
  if !s.rdB EMU_CTRL_EN then s
  else
    let s := s.takeBits bits
    let filt := s.samples
    let at_ := (s.moduleTime : Int) - inputLag
    let top := fun k => (s.channel k).code.natAbs == 2 ^ 23 - 1 && s.rdB (EMU_CH_CFG_EN k)
    let s := (List.range 16).foldl (fun s k => if top k then (s.count (EMU_OVR k) 1).notice EMU_NOTE_OVERRANGE else s) s
    let s := (List.range 4).foldl (fun s k => if s.rdB (EMU_CH_CFG_EN k) then s.detect k (filt.getD k 0) at_ else s) s
    let s := s.emuStamp at_
    let s := if s.emu.held then s else (List.range 12).foldl (fun s c => s.accumulate filt top c) s
    s.wr EMU_STATUS_ACTIVE (((List.range 12).filter s.circuitRuns).map (2 ^ ·)).sum

/-! ### Faults, time mode, saves, clears (R350, R355, R358, R361) -/

/-- Whether a channel samples: metering runs, and the channel (R346, R373). -/
def State.channelOn (s : State) (k : Nat) : Bool := s.rdB EMU_CTRL_EN && s.rdB (EMU_CH_CFG_EN k)

/-- A channel's stream stood still for 1 ms (R350). -/
def State.channelFault (s : State) (k : Nat) : State :=
  if bitAt (s.rd EMU_FAULT) k || !s.channelOn k then s
  else ((s.wr EMU_FAULT (setBit (s.rd EMU_FAULT) k)).notice EMU_NOTE_CH_FAULT).silt 0x0D01 k

/-- Whether EMU_ZC.TIMEOUT, which acts as 30 ms below 30, has passed at the last sample since the last valid crossing (R358, R373). -/
def State.zcLate (s : State) (k : Nat) : Bool :=
  match (s.detector k).last with
  | some l => decide (l + max 30 (s.rd EMU_ZC_TIMEOUT) * 1000000 ≤ s.emu.last)
  | none => true

/-- A voltage channel enters time mode (R358). -/
def State.zcTimeout (s : State) (k : Nat) : State :=
  if s.timeMode k || !s.channelOn k || !s.zcLate k then s
  else
    let s := (((s.wr EMU_STATUS_ZC_LOST (setBit (s.rd EMU_STATUS_ZC_LOST) k)).notice EMU_NOTE_ZC_LOST).silt 0x0D02 k).count
      EMU_ZC_LOSSES 1
    let s := s.setDetector k { s.detector k with row := 0 }
    (s.circuitsOn k).foldl (fun s c =>
      if s.timeLimit c ≤ (s.circuit c).samples then s.latch c true false false else s) s

/-- The accumulators are written to MRAM (R355). -/
def State.emuSave (s : State) : State :=
  { s with emu := { s.emu with circuits := s.emu.circuits.map fun x => { x with stored := x.now } } }

/-- CLEAR of a circuit (R361). -/
def State.emuClear (s : State) (c : Nat) : State :=
  if 12 ≤ c then s
  else
    let s := if s.circuitRuns c then s.latch c (s.timeMode (s.vch c)) false true else s
    (s.setCircuit c { s.circuit c with now := .zero }).disturb c

/-! ### Configuration writes (R349 to R351) -/

/-- EMU_CFG_ERR and its notice. -/
def State.emuErr (s : State) (item reason : Nat) : State :=
  ((s.wr EMU_CFG_ERR_ITEM item).wr EMU_CFG_ERR_REASON reason).notice EMU_NOTE_CFG_ERR

/-- The checks on an enabled circuit. -/
def State.circuitCheck (s : State) (c : Nat) : State :=
  if !s.rdB (EMU_CIRC_CFG_EN c) then s
  else if s.ich c < 4 then s.emuErr c 2
  else if !s.channelGood (s.vch c) then s.emuErr (s.vch c) 1
  else if !s.channelGood (s.ich c) then s.emuErr (s.ich c) 1
  else s

/-- EMU_CIRCc_CFG takes a value (R351): a change of VCH, ICH, SIGN or LINE_HZ ends the interval with PARTIAL. -/
def State.circuitStore (s : State) (c w : Nat) : State :=
  let cut := s.circuitRuns c &&
    (bitsOf w 1 2 != s.vch c || bitsOf w 4 4 != s.ich c || bitsOf w 8 1 != s.rd (EMU_CIRC_CFG_SIGN c) ||
      bitsOf w 9 1 != s.rd (EMU_CIRC_CFG_LINE_HZ c))
  let s := if cut then s.latch c (s.timeMode (s.vch c)) true false else s
  s.wrAll
    [(EMU_CIRC_CFG_EN c, w), (EMU_CIRC_CFG_VCH c, w / 2), (EMU_CIRC_CFG_ICH c, w / 16), (EMU_CIRC_CFG_SIGN c, w / 256),
     (EMU_CIRC_CFG_LINE_HZ c, w / 512), (EMU_CIRC_CFG_N c, w / 65536)]

/-- The circuits that use a channel are checked after a write to the channel. -/
def State.channelCheck (s : State) (k : Nat) : State :=
  ((List.range 12).filter fun c => s.vch c == k || s.ich c == k).foldl State.circuitCheck s

/-- EMU_CHk_CFG takes a value (R349). -/
def State.channelStore (s : State) (k w : Nat) : State :=
  let s := s.wrAll
    [(EMU_CH_CFG_EN k, w), (EMU_CH_CFG_EDGE k, w / 2), (EMU_CH_CFG_DELAY k, w / 4), (EMU_CH_CFG_HPF k, w / 32),
     (EMU_CH_CFG_PHASE k, w / 65536)]
  if 2560 < (s.rdS (EMU_CH_CFG_PHASE k)).natAbs then s.emuErr k 3 else s

/-- The words of the channels (CFG and FS), and of the circuits. -/
def emuChannelWord (addr : Nat) : Bool := 0x0D040 ≤ addr && addr < 0x0D0C0
def emuCircuitWord (addr : Nat) : Bool := 0x0D0C0 ≤ addr && addr < 0x0D0F0

/-- A word of the channels or circuits takes a value. -/
def State.emuStore (s : State) (addr w : Nat) : State :=
  if addr < 0x0D080 then s.channelStore ((addr - 0x0D040) / 4) w
  else if addr < 0x0D0C0 then s.wr (EMU_CH_FS ((addr - 0x0D080) / 4)) w
  else s.circuitStore ((addr - 0x0D0C0) / 4) w

/-- What is checked once a word of the channels or circuits has taken its value (R350, R351). -/
def State.emuCheck (s : State) (addr : Nat) : State :=
  if addr < 0x0D0C0 then s.channelCheck ((addr - 0x0D040) / 4 % 16) else s.circuitCheck ((addr - 0x0D0C0) / 4)

/-- EMU_CTRL.EN (R372): 0 makes every open window INCOMPLETE. -/
def State.emuEnable (s : State) (en : Bool) : State :=
  let s := s.wrB EMU_CTRL_EN en
  if en then s
  else
    let spoil := fun (w : EmurWindow) => { w with incomplete := true }
    { s with emur := { s.emur with disturbed := List.replicate 12 true, open_ := s.emur.open_.map spoil } }.wr
      EMU_STATUS_ACTIVE 0

/-- After a start (R355, R359): the accumulators return from MRAM, the next latches carry GAP, the latch numbers resume. -/
def State.emuStart (s : State) : State :=
  let back := fun (x : EmuCircuit) => { EmuCircuit.empty with now := x.stored, stored := x.stored }
  let s := { s with emu := ⟨List.replicate 16 .empty, s.emu.circuits.map back, List.replicate 4 .empty, 0, false⟩ }
  (List.range 12).foldl (fun s c =>
    let n := (s.rd (emuSeq c) + 4095) / 4096 * 4096 % 2 ^ 24
    let x := s.circuit c
    s.wrAll [(emuSeq c, n), (EMU_L_LATCH_NO c, n), (EMU_L_IMP_LO c, x.now.imp), (EMU_L_IMP_HI c, x.now.imp / 2 ^ 32),
      (EMU_L_EXP_LO c, x.now.exp), (EMU_L_EXP_HI c, x.now.exp / 2 ^ 32)]) s

/-! ### The commands -/

/-- EMU_CHANNEL_FAULT (R350). -/
def execEmuChannelFault (k : Nat) (s : State) : Host.Outcome State Fault Refusal :=
  .next (s.whenLive 0x0D fun s => s.channelFault k)

/-- EMU_CHANNEL_FAULT_END (R350). -/
def execEmuChannelFaultEnd (k : Nat) (s : State) : Host.Outcome State Fault Refusal :=
  .next (s.whenLive 0x0D fun s => s.wr EMU_FAULT (clrBit (s.rd EMU_FAULT) k))

/-- EMU_ZC_TIMEOUT (R358). -/
def execEmuZcTimeout (k : Nat) (s : State) : Host.Outcome State Fault Refusal :=
  .next (s.whenLive 0x0D fun s => s.zcTimeout k)

/-- EMU_ACCUMULATOR_SAVE (R355). -/
def execEmuAccumulatorSave (s : State) : Host.Outcome State Fault Refusal := .next (s.whenLive 0x0D State.emuSave)

/-- EMU_CLEAR (R361). -/
def execEmuClear (port : Port) (c : Nat) (s : State) : Host.Outcome State Fault Refusal :=
  .next (s.effect port EMU_CMD_CIRCUIT.addr fun s => s.emuClear c)

end Sys2Proof.Machine
end

