-- ==== Sys2Proof/Machine/Emur.lean ====
section
/-! DEFINITION. Energy reconciliation (R362 to R372, R374). -/

namespace Sys2Proof.Machine

/-! ### Groups (R362, R370) -/

/-- A group record as the window holds it. -/
def State.emurRecord (s : State) (g : Nat) : EmurRecord :=
  let h := fun o => s.w16 0x0E (32 * g + o)
  ⟨h 0 % 4096, bitAt (h 0) 15, h 2, h 4, max 1 (s.w8 0x0E (32 * g + 6) % 16), s.w8 0x0E (32 * g + 7), s.w32 0x0E (32 * g + 8),
   s.w32 0x0E (32 * g + 12)⟩

/-- The groups that reconcile: enabled, and sharing no circuit with a lower-numbered one (R362). -/
def groupsInForce (l : List EmurRecord) : List Nat :=
  (l.zipIdx.foldl (fun (acc : List Nat × Nat) p =>
    if p.1.en && Nat.land acc.2 p.1.mask == 0 then (acc.1 ++ [p.2], Nat.lor acc.2 p.1.mask) else acc) ([], 0)).1

/-- The group in force that contains a circuit. -/
def groupOf (l : List EmurRecord) (circuit : Nat) : Option Nat :=
  if 12 ≤ circuit then none
  else (groupsInForce l).find? fun g => bitAt ((l.map EmurRecord.mask).getD g 0) circuit

/-- The records of the twelve groups as the window holds them. -/
def State.emurRecords (s : State) : List EmurRecord := (List.range 12).map s.emurRecord

/-- The bits of EMUR_STATUS.RUN. -/
def State.showRuns (s : State) : State :=
  s.wr EMUR_STATUS_RUN ((s.emur.runs.zipIdx.filter fun p => p.1 != 0).map fun p => 2 ^ p.2).sum

/-- Put a group's run. -/
def State.setRun (s : State) (g n : Nat) : State :=
  { s with emur := { s.emur with runs := putAt 12 0 s.emur.runs g n } }.showRuns

/-- A word of the group records takes a value (R362, R367, R370). -/
def State.emurWordWrite (s : State) (off w : Nat) : State :=
  if 0x180 ≤ off then s
  else
    let g := off / 32
    let o := off % 32 / 4 * 4
    let mask := if o = 0 then 0xFFFF8FFF else if o = 4 then 0xFF0FFFFF else if o < 16 then 0xFFFFFFFF else 0
    s.setN 0x0E (32 * g + o) 4 (Nat.land w mask)

/-- The fields of a group's record, as written. -/
def State.emurFields (s : State) (g : Nat) : List Nat := (List.range 16).map fun o => s.w8 0x0E (32 * g + o)

/-- What a group does once its record has been written (R362, R367, R370): a change of a field returns the run to 0. -/
def State.emurSettle (s before : State) (off : Nat) : State :=
  if 0x180 ≤ off then s
  else
    let g := off / 32
    let had := groupsInForce before.emurRecords
    let s := if s.emurFields g = before.emurFields g then s else s.setRun g 0
    let out := (List.range 12).find? fun k => (s.emurRecord k).en && !(groupsInForce s.emurRecords).contains k && (had.contains k || k == g)
    match out with
    | some k => (s.wr EMUR_CFG_ERR_GROUP k).notice EMUR_NOTE_CFG_ERR
    | none => s

/-! ### Windows and boundaries (R363) -/

/-- The window's length in force, in s. -/
def State.emurLength (s : State) : Nat := max 900 (min 86400 (s.rd EMUR_WINDOW))

/-- The wait for late reports in force, in s. -/
def State.emurWait (s : State) : Nat := max 60 (min s.emurLength (s.rd EMUR_CLOSE_WAIT))

def State.emurOrigin (s : State) : Int := (s.rd EMUR_ORIGIN_LO + 2 ^ 32 * s.rd EMUR_ORIGIN_HI : Nat)

/-- Boundary j, in module time. -/
def State.boundary (s : State) (j : Int) : Int := s.emurOrigin + j * s.emurLength * 1000000000

/-- The number of the last boundary at or before an instant. -/
def State.boundaryNo (s : State) (t : Int) : Int := (t - s.emurOrigin) / (s.emurLength * 1000000000 : Nat)

/-- Epoch ticks from the present to the next boundary. -/
def State.ticksLeft (s : State) : Nat := ((s.boundary (s.boundaryNo s.moduleTime + 1) - s.moduleTime) / 1000).toNat

/-- The boundaries move with EMUR_WINDOW or EMUR_ORIGIN: the window in progress ends at the next of them. -/
def State.emurMoved (s : State) : State :=
  match s.emur.snapshot with
  | some (_, tick) =>
    { s with emur := { s.emur with opened := s.boundaryNo s.moduleTime, want := s.epoch - tick + s.ticksLeft } }
  | none => s

/-- Whether a window has the number, and its group as its record stood contains the circuit (R364). -/
def EmurWindow.holds (w : EmurWindow) (circuit : Nat) (num : Int) : Bool :=
  w.number == num && decide (circuit < 12) && bitAt w.record.mask circuit

/-- A node's energy goes to a window of the group of its circuit at the window's opening (R364, R365). -/
def State.contribute (s : State) (i : Nat) (circuit : Nat) (num : Int) (e : Nat) (est : Bool) : State :=
  let put := fun (w : EmurWindow) =>
    if w.holds circuit num then
      { w with nodes := w.nodes + e, contrib := w.contrib + 1, missing := w.missing.filter (· != i),
               estimated := w.estimated || est }
    else w
  { s with emur := { s.emur with open_ := s.emur.open_.map put } }

/-! ### Node bookkeeping (R364, R365, R368) -/

def State.eFlags (s : State) (i : Nat) : Nat := s.ent i 0xDA 1
def State.setEFlag (s : State) (i b : Nat) (v : Bool) : State :=
  s.setEnt i 0xDA 1 (if v then setBit (s.eFlags i) b else clrBit (s.eFlags i) b)

/-- A node is of a kind that reconciliation counts: a radio node or wired control gear in use. -/
def State.meterable (s : State) (i : Nat) : Bool := s.entType i == 1 || s.entType i == 2

/-- Whether a node is estimated (R365). -/
def State.estimated (s : State) (i : Nat) : Bool :=
  s.ent i 0x14 1 < 12 && s.ent i 0xDC 2 != 0 &&
  (s.entType i == 2 || (s.entType i == 1 && !bitAt (s.ent i 0x45 1) 3))

/-- The value of a node at a boundary opens its next window (R364). -/
def State.openNode (s : State) (i e : Nat) : State :=
  ((s.setEnt i 0xD0 8 e).setEnt i 0xDB 1 (s.ent i 0x14 1)).setEFlag i 1 true

/-- Whether the window that boundary j ended has closed for a circuit's group. -/
def State.windowClosed (s : State) (circuit : Nat) (j : Int) : Bool :=
  decide (circuit < 12) && s.emur.closed.any fun p => p.1 == j - 1 && bitAt p.2 circuit

/-- The value v of entry i at boundary j: it ends the window before, and opens the next (R364). -/
def State.crossOne (s : State) (i v : Nat) (j : Int) : State :=
  (if bitAt (s.eFlags i) 1 then s.contribute i (s.ent i 0xDB 1) (j - 1) (codeOf 64 ((v : Int) - s.ent i 0xD0 8)) false else s).openNode i v

/-- A report's values at the boundaries since the report before it, interpolated (R364). -/
def State.crossBoundaries (s : State) (i e ea : Nat) (t ta : Int) : State :=
  let first := s.boundaryNo ta + 1
  (List.range (s.boundaryNo t + 1 - first).toNat).foldl (fun s k =>
    s.crossOne i ((ea + codeOf 64 ((e : Int) - ea) * (s.boundary (first + (k : Int)) - ta).toNat / (t - ta).toNat) % 2 ^ 64)
      (first + (k : Int))) s

/-- Whether one of the windows that a report's boundaries end has closed: the window of the entry's group at the first of them, if the node
opened it, of its present group at the others (R364). -/
def State.crossLate (s : State) (i : Nat) (t ta : Int) : Bool :=
  let first := s.boundaryNo ta + 1
  (List.range (s.boundaryNo t + 1 - first).toNat).any fun k =>
    (k != 0 || bitAt (s.eFlags i) 1) && s.windowClosed (s.ent i (if k = 0 then 0xDB else 0x14) 1) (first + (k : Int))

/-- The report becomes the stored report. -/
def State.storeEnergy (s : State) (i e resets t : Nat) : State :=
  ((((s.setEnt i 0xC0 8 e).setEnt i 0xC8 8 t).setEnt i 0xD8 2 resets).setEFlag i 0 true).setEFlag i 2 false

/-- An accepted ENERGY report (R364): cumulative energy, RESETS and the module time of the SFD's end. -/
def State.emurEnergy (s : State) (i e resets t : Nat) : State :=
  let ea := s.ent i 0xC0 8
  let ta := s.ent i 0xC8 8
  let w := s.ent i 0xDC 2
  let bad := fun (s : State) => (s.setEFlag i 2 true).count EMUR_IMPLAUSIBLE 1
  if !bitAt (s.eFlags i) 0 then (s.setEFlag i 1 false).storeEnergy i e resets t
  else if resets ≠ s.ent i 0xD8 2 then ((s.setEFlag i 1 false).count EMUR_NODE_RESET 1).storeEnergy i e resets t
  else if t ≤ ta then bad s
  else if 0 < w ∧ 2 * w * (t - ta) < codeOf 64 ((e : Int) - ea) * 36000000 then bad s
  else
    let u := s.crossBoundaries i e ea t ta
    (if s.crossLate i t ta && s.rdB EMUR_CTRL_EN then u.count EMUR_LATE 1 else u).storeEnergy i e resets t

/-- ESTIMATED of an entry in use says whether it is estimated (R365, R368). -/
def State.showEstimated (s : State) : State :=
  (s.usedEntries.filter fun i => bitAt (s.eFlags i) 3 != s.estimated i).foldl (fun s i => s.setEFlag i 3 (s.estimated i)) s

/-- A whole second of module time: the estimated nodes' energy rises (R365), by whole µWh: a second's fraction is dropped. DESIGN CHOICE,
log entry 147. E_LAST then holds an estimate and no report any more, so that HAVE_LAST clears. -/
def State.estimateTick (s : State) : State :=
  let s := s.showEstimated
  if !s.rdB EMUR_CTRL_EN then s
  else
    (s.usedEntries.filter fun i => s.estimated i && bitAt (s.ent i 0xBD 1) 0).foldl (fun s i =>
      let e := s.ent i 0xDC 2 * s.ent i 0xBE 2 * 250 / (9 * 65535)
      ((s.setEnt i 0xC0 8 ((s.ent i 0xC0 8 + e) % 2 ^ 64)).setEnt i 0xC8 8 s.moduleTime).setEFlag i 0 false) s

/-! ### Boundaries and closing (R363, R366, R367) -/

/-- The metered energy of a circuit between two snapshots (R354, R363). -/
def meteredOf (a b : Nat × Nat) : Int :=
  ((codeOf 64 ((b.1 : Int) - a.1) : Nat) : Int) - (codeOf 64 ((b.2 : Int) - a.2) : Nat)

/-- IMPORT and EXPORT of the circuits. -/
def State.totals (s : State) : List (Nat × Nat) := (List.range 12).map fun c => ((s.circuit c).now.imp, (s.circuit c).now.exp)

/-- The window that ends at boundary j for a group. Its length in epoch ticks, against what it was to be, shows a step (R363). -/
def State.endedWindow (s : State) (j : Int) (before : List (Nat × Nat)) (tick g : Nat) : EmurWindow :=
  let r := s.emur.records.getD g (s.emurRecord g)
  let mine := (List.range 12).filter fun c => bitAt r.mask c
  let len := s.epoch - tick
  let want := s.emur.want
  { group := g, number := j - 1, ends := s.boundary j, length := s.emurLength, record := r
    metered := (mine.map fun c => meteredOf (before.getD c (0, 0)) (s.totals.getD c (0, 0))).foldl (· + ·) 0
    nodes := 0, contrib := 0
    missing := (s.emur.members.filter fun m => bitAt r.mask m.2).map Prod.fst
    incomplete := mine.any fun c => s.emur.disturbed.getD c false
    stepped := 1000000 < (len - want) + (want - len)
    gap := s.emur.gap, estimated := s.emur.members.any fun m => bitAt r.mask m.2 && s.estimated m.1 }

/-- What a boundary leaves for the window that opens: the snapshot, the nodes' mapping and the records in force. -/
def State.openWindow (s : State) : State :=
  let nodes := (s.usedEntries.filter fun i => s.meterable i && s.ent i 0x14 1 < 12).map fun i => (i, s.ent i 0x14 1)
  { s with emur := { s.emur with
      snapshot := some (s.totals, s.epoch), members := nodes, gap := s.emu.held, records := s.emurRecords
      disturbed := (List.range 12).map fun c => !s.circuitRuns c
      opened := s.boundaryNo s.moduleTime, want := s.ticksLeft } }

/-- The windows of the groups in force end at boundary j. -/
def State.endWindows (s : State) (j : Int) : State :=
  match s.emur.snapshot with
  | some (before, tick) =>
    { s with emur := { s.emur with
        open_ := s.emur.open_ ++ (groupsInForce s.emur.records).map (s.endedWindow j before tick), snapshot := none } }
  | none => s

/-- The snapshot of boundary j: its windows end, estimated nodes contribute, and the next windows open (R363, R365). -/
def State.takeSnapshot (s : State) (j : Int) : State :=
  let s := s.endWindows j
  let s := (s.usedEntries.filter s.estimated).foldl (fun s i =>
    let e := s.ent i 0xC0 8
    let s := if bitAt (s.eFlags i) 1 then
        s.contribute i (s.ent i 0xDB 1) (j - 1) (codeOf 64 ((e : Int) - s.ent i 0xD0 8)) true
      else s
    s.openNode i e) s
  s.openWindow

/-- A snapshot that waited for its sample is taken. -/
def State.snapshotDue (s : State) : State :=
  match s.emur.due with
  | some j =>
    let s := { s with emur := { s.emur with due := none } }
    if s.rdB EMUR_CTRL_EN then s.takeSnapshot j else s
  | none => s

/-- Whether the next sample lies nearer to the present than the last one (R363). -/
def State.nextNearer (s : State) : Bool :=
  s.rdB EMU_CTRL_EN && decide (62500 < s.moduleTime - s.sampledAt) && decide (s.moduleTime - s.sampledAt ≤ 125000)

/-- A boundary of windows (R363): its snapshot comes from the sample that lies nearest, the last one or the next. -/
def State.emurBoundary (s : State) : State :=
  if !s.rdB EMUR_CTRL_EN then s
  else
    let s := s.snapshotDue
    let j := s.boundaryNo s.moduleTime
    if s.nextNearer then { s with emur := { s.emur with due := some j } } else s.takeSnapshot j

/-- Q of R367: the base load over a window. -/
def EmurWindow.baseLoad (w : EmurWindow) : Int := (w.record.baseW * w.length * 250 / 9 : Nat)

/-- The verdict of a checkable window and the run after it (R367): 0 OK, 1 EXCESS, 2 LOSS, 3 GAIN. -/
def verdictOf (r : EmurRecord) (m l : Int) (run : Nat) : Nat × Nat :=
  let lo : Int := (max (m.natAbs * r.lossPct / 10000) (r.lossMin * 1000000) : Nat)
  let gn : Int := (max (m.natAbs * r.gainPct / 10000) (r.lossMin * 1000000) : Nat)
  if lo < l then (if r.lossCount ≤ run + 1 then 2 else 1, min 15 (run + 1))
  else if gn < -l then (3, 0)
  else (0, 0)

/-- A window closes (R366, R367, R371). -/
def State.closeWindow (s : State) (w : EmurWindow) : State :=
  let l := w.metered - w.nodes - w.baseLoad
  let run := s.emur.runs.getD w.group 0
  let checkable := !w.incomplete && !w.stepped && !w.gap && decide (w.missing.length ≤ w.record.missMax)
  let (v, run') := if checkable then verdictOf w.record w.metered l run else (4, run)
  let no := codeOf 32 w.number
  let m := codeOf 64 w.metered
  let lc := codeOf 64 l
  let s := s.setRun w.group run'
  let s := s.setBytes 0x0E (0x1000 + 2048 * w.group + 32 * (no % 64))
    (toOctets 4 no ++ toOctets 8 m ++ toOctets 8 w.nodes ++ toOctets 8 lc ++ toOctets 2 w.contrib ++
      toOctets 2 w.missing.length)
  let s := (s.wrAll
    [(EMUR_R_GROUP_GROUP, w.group), (EMUR_R_WINDOW, no), (EMUR_R_METERED_LO, m), (EMUR_R_METERED_HI, m / 2 ^ 32),
     (EMUR_R_NODES_LO, w.nodes), (EMUR_R_NODES_HI, w.nodes / 2 ^ 32), (EMUR_R_LOSS_LO, lc), (EMUR_R_LOSS_HI, lc / 2 ^ 32),
     (EMUR_R_COUNT_CONTRIB, w.contrib), (EMUR_R_COUNT_MISSING, w.missing.length), (EMUR_R_END_VERDICT, v),
     (EMUR_R_END_RUN, run'), (EMUR_R_END_INCOMPLETE, if w.incomplete then 1 else 0),
     (EMUR_R_END_STEPPED, if w.stepped then 1 else 0), (EMUR_R_END_GAP, if w.gap then 1 else 0),
     (EMUR_R_END_ESTIMATED, if w.estimated then 1 else 0)]).publish 0x0E 0 (SEQ_COUNT 0x0E)
  let s := s.notice EMUR_NOTE_CLOSED
  if v = 2 then (s.notice EMUR_NOTE_LOSS).silt 0x0E01 w.group no lc (lc / 2 ^ 32)
  else if v = 3 then s.notice EMUR_NOTE_GAIN
  else if v = 4 then s.notice EMUR_NOTE_INCOMPLETE
  else s

/-- The oldest open window of a group closes, when every node has contributed or the wait is over (R366). -/
def State.emurClose (s : State) (g : Nat) : State :=
  match s.emur.open_.find? fun w => w.group == g with
  | none => s
  | some w =>
    if w.missing.isEmpty ∨ w.ends + s.emurWait * 1000000000 ≤ s.moduleTime then
      { s with emur := { s.emur with
          open_ := s.emur.open_.filter fun x => x.group != g || x.number != w.number
          closed := (w.number, w.record.mask) :: s.emur.closed } }.closeWindow w
    else s

/-- EMUR_CTRL.EN: 0 stops reconciliation and returns every run to 0 (R367); the first window after it begins at a boundary. `was` is its
value before. -/
def State.emurEnable (s : State) (was en : Bool) : State :=
  let s := s.wrB EMUR_CTRL_EN en
  if en then (if was then s else { s with emur := { s.emur with snapshot := none } })
  else { s with emur := { s.emur with runs := List.replicate 12 0, open_ := [], snapshot := none, due := none } }.showRuns

/-- After a start (R369, R372): the windows open across the outage, `was`, carry GAP. The one in progress goes on, or ends if its boundary
has passed; the first window after the start carries GAP too. The nodes' bookkeeping reads 0, because the start has lost DRAM. -/
def State.emurStart (s : State) (was : EmurUnit) : State :=
  if !s.rdB EMUR_CTRL_EN then { s with emur := .empty }
  else
    let s := { s with emur := was }
    let s := if was.opened = s.boundaryNo s.moduleTime then s else s.endWindows (was.opened + 1)
    let s := match s.emur.snapshot with
      | some (before, _) =>
        { s with emur := { s.emur with snapshot := some (before, s.epoch), want := s.ticksLeft } }
      | none => s.openWindow
    { s with emur := { s.emur with gap := true } }

/-- EMU_SAMPLE (R348, R352, R356, R357) at the raw count c: the 512 bits that each of the sixteen streams has given since the previous
sample, as the channel's EDGE and DELAY take them (R347), the oldest lowest. -/
def execEmuSample (c : Nat) (bits : List Nat) (s : State) : Host.Outcome State Fault Refusal :=
  .next (s.whenLive 0x0D fun s => ((s.reach c).emuSample bits).snapshotDue)

/-- EMUR_BOUNDARY_SNAPSHOT (R363) at the raw count c. -/
def execEmurBoundarySnapshot (c : Nat) (s : State) : Host.Outcome State Fault Refusal :=
  .next (s.working 0x0E fun s => (s.reach c).emurBoundary)

/-- EMUR_ESTIMATE_TICK (R365) at the raw count c. -/
def execEmurEstimateTick (c : Nat) (s : State) : Host.Outcome State Fault Refusal :=
  .next (s.working 0x0E fun s => (s.reach c).estimateTick)

/-- EMUR_WINDOW_CLOSE (R366, R367) at the raw count c. -/
def execEmurWindowClose (c g : Nat) (s : State) : Host.Outcome State Fault Refusal :=
  .next (s.working 0x0E fun s => (s.reach c).emurClose g)

end Sys2Proof.Machine
end

