-- ==== Sys2Proof/Machine/Astro.lean ====
section
/-! DEFINITION. The sun's events of a local date (R273), in fixed-point arithmetic with 60 fractional bits. -/

namespace Sys2Proof.Machine

/-- The value 1 of the fixed-point numbers. -/
def fxOne : Int := 2 ^ 60

/-- π. -/
def fxPi : Int := 3622009729038561421

def fxMul (a b : Int) : Int := a * b / fxOne
def fxDiv (a b : Int) : Int := if b = 0 then 0 else a * fxOne / b

/-- Decimal constants: n / d. -/
def fxOf (n : Int) (d : Nat) : Int := n * fxOne / d

/-- The greatest natural number whose square is at most n, by Newton's steps from above. -/
def isqrtFrom (n : Nat) : Nat → Nat → Nat
  | 0, x => x
  | f + 1, x => let y := (x + n / max 1 x) / 2; if y < x then isqrtFrom n f y else x

/-- The square root of a number in 0 to 2^64. -/
def fxSqrt (a : Int) : Int := (isqrtFrom (a.toNat * 2 ^ 60) 200 (2 ^ 64) : Nat)

/-- The terms of the sine's series from a given power and term on. -/
def sinTerms (x2 : Int) : Nat → Nat → Int → Int
  | 0, _, _ => 0
  | f + 1, k, t => t + sinTerms x2 f (k + 2) (-(fxMul t x2 / ((k + 1) * (k + 2) : Nat)))

/-- The sine of an angle in radians, brought to −π to π first. -/
def fxSin (x : Int) : Int :=
  let r := (x + fxPi) % (2 * fxPi) - fxPi
  sinTerms (fxMul r r) 24 1 r

def fxCos (x : Int) : Int := fxSin (x + fxPi / 2)

/-- The terms of the arctangent's series. -/
def atanTerms (x2 : Int) : Nat → Nat → Int → Int
  | 0, _, _ => 0
  | f + 1, k, p => p / k + atanTerms x2 f (k + 2) (-(fxMul p x2))

/-- The angle of half the size: tan(a/2) from tan a. -/
def halfTan (x : Int) : Int := fxDiv x (fxOne + fxSqrt (fxOne + fxMul x x))

/-- The arctangent of a number in −1 to 1. -/
def fxAtan1 (x : Int) : Int :=
  let y := halfTan (halfTan (halfTan x))
  8 * atanTerms (fxMul y y) 20 1 y

/-- The angle of the point (x, y), in −π to π. -/
def fxAtan2 (y x : Int) : Int :=
  if x = 0 ∧ y = 0 then 0
  else if y.natAbs ≤ x.natAbs then
    let a := fxAtan1 (fxDiv y x)
    if 0 < x then a else if 0 ≤ y then a + fxPi else a - fxPi
  else
    let a := fxAtan1 (fxDiv x y)
    if 0 < y then fxPi / 2 - a else -(fxPi / 2) - a

def fxAsin (z : Int) : Int := fxAtan2 z (fxSqrt (fxOne - fxMul z z))
def fxAcos (z : Int) : Int := fxAtan2 (fxSqrt (fxOne - fxMul z z)) z

/-- Degrees to radians and back. -/
def radOf (deg : Int) : Int := fxMul deg fxPi / 180
def degOf (rad : Int) : Int := fxDiv (rad * 180) fxPi

/-- The nearest whole number. -/
def fxRound (a : Int) : Int := (a + fxOne / 2) / fxOne

/-- An angle brought to −180 to 180 degrees. -/
def wrap180 (a : Int) : Int := (a + 180 * fxOne) % (360 * fxOne) - 180 * fxOne

/-- The four events of a local date, in UTC seconds: dawn, sunrise, sunset, dusk; latitude and longitude in µ° (R273). -/
structure SunEvents where
  dawn : Option Int
  sunrise : Option Int
  sunset : Option Int
  dusk : Option Int
deriving DecidableEq, Repr

/-- The pair of events at a height of the sun, early and late. -/
def sunPair (d : Int) (phi delta noon h0 : Int) : Option Int × Option Int :=
  let den := fxMul (fxCos phi) (fxCos delta)
  let num := fxSin (radOf h0) - fxMul (fxSin phi) (fxSin delta)
  if den.natAbs < num.natAbs then (none, none)
  else
    let h := degOf (fxAcos (fxDiv num den))
    (some (d * 86400 + fxRound (60 * (noon - 4 * h))), some (d * 86400 + fxRound (60 * (noon + 4 * h))))

/-- sun_events of R273. -/
def sunEvents (lat lon : Int) (d : Int) : SunEvents :=
  let phi := radOf (fxOf lat 1000000)
  let lonD := fxOf lon 1000000
  let n := d * fxOne - lonD / 360
  let L := (fxOf 280460 1000 + fxMul (fxOf 9856474 10000000) n) % (360 * fxOne)
  let g := (fxOf 357528 1000 + fxMul (fxOf 9856003 10000000) n) % (360 * fxOne)
  let lam := radOf (L + fxMul (fxOf 1915 1000) (fxSin (radOf g)) + fxMul (fxOf 20 1000) (fxSin (radOf (2 * g))))
  let eps := radOf (fxOf 23439 1000 - fxMul (fxOf 4 10000000) n)
  let alpha := degOf (fxAtan2 (fxMul (fxCos eps) (fxSin lam)) (fxCos lam)) % (360 * fxOne)
  let delta := fxAsin (fxMul (fxSin eps) (fxSin lam))
  let eot := 4 * wrap180 (L - alpha)
  let noon := 720 * fxOne - 4 * lonD - eot
  let day := sunPair d phi delta noon (fxOf (-833) 1000)
  let twi := sunPair d phi delta noon (fxOf (-6) 1)
  ⟨twi.1, day.1, day.2, twi.2⟩

end Sys2Proof.Machine
end

