-- ==== Sys2Proof/Machine/Sch.lean ====
section
/-! DEFINITION. The schedule unit and its astronomical clock (R269 to R286). Instants are calendar time, in seconds, or in
eighths of a second where they are tick instants. -/

namespace Sys2Proof.Machine

/-! ### Tables (R269, R270, R274) -/

/-- A program record (R269). -/
structure Program where
  valid : Bool
  steps : Nat
  floor : Nat
  cap : Nat
deriving DecidableEq, Repr

def State.program (s : State) (p : Nat) : Program :=
  ⟨bitAt (s.w8 0x08 (16 * p)) 0, min 64 (s.w8 0x08 (16 * p + 1) % 128), s.w16 0x08 (16 * p + 2), s.w16 0x08 (16 * p + 4)⟩

/-- A step record (R270). -/
structure Step where
  kind : Nat
  days : Nat
  months : Nat
  at_ : Nat
  floor : Nat
  cap : Nat
  ramp : Nat
deriving DecidableEq, Repr

def stepBase (p k : Nat) : Nat := 0x10000 + 1024 * p + 16 * k

def State.step_ (s : State) (p k : Nat) : Step :=
  let o := stepBase p k
  ⟨s.w8 0x08 o % 16, s.w8 0x08 (o + 1) % 128, s.w16 0x08 (o + 2) % 4096, s.w32 0x08 (o + 4), s.w16 0x08 (o + 8),
   s.w16 0x08 (o + 10), s.w16 0x08 (o + 12)⟩

/-- What makes a step act as unused: 1 its KIND, 2 its AT, or nothing (R270). -/
def Step.fault (k : Step) : Nat :=
  if 6 ≤ k.kind then 1
  else if k.kind = 1 ∧ 86400 ≤ k.at_ then 2
  else if 2 ≤ k.kind ∧ 43200 < (signed 32 k.at_).natAbs then 2
  else 0

/-- SCH_CFG_ERR and its notice. -/
def State.schErr (s : State) (p k reason : Nat) : State :=
  (s.wrAll [(SCH_CFG_ERR_PROGRAM, p), (SCH_CFG_ERR_STEP, k), (SCH_CFG_ERR_REASON, reason)]).notice SCH_NOTE_CFG_ERR

/-- The steps in use of a valid program, among those given, that R270 finds wrong are named in order. -/
def State.schCheckSteps (s : State) (p : Nat) (ks : List Nat) : State :=
  ks.foldl (fun s k =>
    if k < (s.program p).steps ∧ (s.step_ p k).fault ≠ 0 then s.schErr p k (s.step_ p k).fault else s) s

/-- What a written word of the SCH window brings: of a program's record its STEPS and every step in use (R269, R270), of a step's
record that step. -/
def State.schCheck (s : State) (off : Nat) : State :=
  let p := if off < 0x1000 then off / 16 else (off - 0x10000) / 1024
  if !(s.program p).valid then s
  else if off < 0x1000 then
    (if 64 < s.w8 0x08 (16 * p + 1) % 128 then s.schErr p 0 3 else s).schCheckSteps p (List.range 64)
  else s.schCheckSteps p [(off - 0x10000) % 1024 / 16]

/-- A word of the SCH window takes a value (R269, R270, R285); reserved bits stay 0. -/
def State.schWordWrite (s : State) (off w : Nat) : State :=
  let o := off / 4 * 4
  let mask := if o < 0x1000 then [0xFFFF7F01, 0xFFFF, 0, 0] else [0x0FFF7F0F, 0xFFFFFFFF, 0xFFFFFFFF, 0xFFFF]
  if o < 0x1000 ∨ (0x10000 ≤ o ∧ o < 0x50000) then
    s.setN 0x08 o 4 (Nat.land w (mask.getD (o % 16 / 4) 0))
  else s

/-- A write of SCH_LAT or SCH_LON: out of range, it is discarded with reason 4 (R274). -/
def State.schPlace (s : State) (f : Field) (limit v : Nat) : State :=
  if limit < (signed 32 v).natAbs then s.schErr 0 0 4 else s.wr f v

/-- A write of SCH_LOCAL or SCH_LOCAL_NEXT: out of range, it is discarded with reason 5 (R271). -/
def State.schOffset (s : State) (f : Field) (v : Nat) : State :=
  if 840 < (signed 11 v).natAbs then s.schErr 0 0 5 else s.wr f v

/-! ### Local time (R271, R272) -/

/-- The offset in force, in seconds. -/
def State.schOffsetNow (s : State) : Int := s.rdS SCH_LOCAL_OFFSET * 60

/-- The instant of the last change of the offset. -/
def State.schChangeAt (s : State) : Nat := s.rd SCH_LOCAL_PREV_AT_LO + 2 ^ 32 * s.rd SCH_LOCAL_PREV_AT_HI

/-- The local date of an instant in seconds (R270). -/
def State.localDate (s : State) (secs : Int) : Int := (secs + s.schOffsetNow) / 86400

/-- An armed change of the offset, at the first tick at or after its instant (R271). -/
def State.schLocalChange (s : State) (secs : Nat) : State :=
  let at_ := s.rd SCH_LOCAL_AT_LO + 2 ^ 32 * s.rd SCH_LOCAL_AT_HI
  if at_ = 0 ∨ secs < at_ then s
  else
    (s.wrAll
      [(SCH_LOCAL_PREV_OFFSET, s.rd SCH_LOCAL_OFFSET), (SCH_LOCAL_PREV_AT_LO, s.rd SCH_LOCAL_AT_LO),
       (SCH_LOCAL_PREV_AT_HI, s.rd SCH_LOCAL_AT_HI), (SCH_LOCAL_OFFSET, s.rd SCH_LOCAL_NEXT_OFFSET),
       (SCH_LOCAL_AT_LO, 0), (SCH_LOCAL_AT_HI, 0)]).notice SCH_NOTE_OFFSET_CHANGE

/-- The UTC instant at which local time reads a date and second of the day (R272). -/
def State.localInstant (s : State) (d : Int) (sec : Nat) : Int :=
  let l := d * 86400 + sec
  let now := l - s.schOffsetNow
  let change := s.schChangeAt
  let old := l - s.rdS SCH_LOCAL_PREV_OFFSET * 60
  if change = 0 then now
  else if old < change then old
  else if (change : Int) ≤ now then now
  else change

/-! ### The astronomical table (R273, R274) -/

/-- An event as the table holds it. -/
def eventCode : Option Int → Nat
  | none => 0xFFFFFFFFFFFF
  | some t => codeOf 48 t

def eventOf (v : Nat) : Option Int := if v % 2 ^ 48 = 0xFFFFFFFFFFFF then none else some (v % 2 ^ 48 : Nat)

def SunEvents.lacks (e : SunEvents) : Bool := e.dawn.isNone || e.sunrise.isNone || e.sunset.isNone || e.dusk.isNone

/-- The events of a local date for the site. -/
def State.sunOf (s : State) (d : Int) : SunEvents := sunEvents (s.rdS SCH_LAT) (s.rdS SCH_LON) d

/-- Write an entry of the table. -/
def State.putAstro (s : State) (k : Nat) (d : Int) (e : SunEvents) : State :=
  s.setBytes 0x08 (0x90000 + 48 * k)
    (toOctets 4 (codeOf 18 d) ++ [0, 0, 0, 0] ++ toOctets 8 (eventCode e.dawn) ++ toOctets 8 (eventCode e.sunrise) ++
      toOctets 8 (eventCode e.sunset) ++ toOctets 8 (eventCode e.dusk))

/-- Put the unit's working state. -/
def State.withSch (s : State) (u : SchUnit) : State := { s with sch := u }

/-- The table for today, when the place, the offset or the date has changed (R274). At a local midnight that no jump crossed only the
new date is computed, and only it can lack an event anew. -/
def State.schAstro (s : State) (today : Int) (jump : Bool) : State :=
  let key := (s.rd SCH_LAT, s.rd SCH_LON, s.rd SCH_LOCAL_OFFSET, today)
  if s.sch.astro = some key then s
  else
    let next := !jump && s.sch.astro == some (s.rd SCH_LAT, s.rd SCH_LON, s.rd SCH_LOCAL_OFFSET, today - 1)
    let days := (List.range 10).map fun (k : Nat) => (k, today - 8 + (k : Int), s.sunOf (today - 8 + (k : Int)))
    let s := days.foldl (fun s e => s.putAstro e.1 e.2.1 e.2.2) s
    let s := (s.withSch { s.sch with astro := some key }).wr SCH_TODAY_DATE (codeOf 18 today)
    s.noticeIf ((if next then days.drop 9 else days).any fun e => e.2.2.lacks) SCH_NOTE_NO_EVENT

/-- The table's event of a kind for entry k. -/
def State.astroEvent (s : State) (k kind : Nat) : Option Int :=
  eventOf (s.wN 0x08 (0x90000 + 48 * k + 8 * (kind - 1)) 8)

/-! ### Governing steps and transitions (R275, R276) -/

/-- The instant of a step on the date of table entry k (R272). -/
def State.stepInstant (s : State) (today : Int) (st : Step) (k : Nat) : Option Int :=
  let d := today - 8 + (k : Int)
  let c := civilOf (d + 146097).toNat
  if !bitAt st.days c.weekday || !bitAt st.months (c.month - 1) then none
  else if st.kind = 1 then some (s.localInstant d st.at_)
  else (s.astroEvent k st.kind).map (· + signed 32 st.at_)

/-- The governing step of a program at a tick instant, with its instant in eighths (R275). -/
def State.governing (s : State) (p : Nat) (today now : Int) : Option (Nat × Int) :=
  (List.range (s.program p).steps).foldl (fun acc k =>
    let st := s.step_ p k
    if st.kind = 0 ∨ st.fault ≠ 0 then acc
    else
      (List.range 10).foldl (fun (acc : Option (Nat × Int)) e =>
        match s.stepInstant today st e, acc with
        | none, _ => acc
        | some i, none => if 8 * i ≤ now then some (k, 8 * i) else none
        | some i, some a => if 8 * i ≤ now ∧ a.2 ≤ 8 * i then some (k, 8 * i) else acc) acc) none

/-- A value on its way: rounded to the nearest, halves toward the target (R276). -/
def rampValue (a b : Nat) (num den : Nat) : Nat :=
  if a ≤ b then a + (2 * (b - a) * num + den) / (2 * den) else a - (2 * (a - b) * num + den) / (2 * den)

/-- The floor and cap of a program's transition at a tick. -/
def SchProgram.valueAt (q : SchProgram) (now : Int) : Nat × Nat :=
  if q.finish ≤ q.start ∨ q.finish ≤ now then (q.targetFloor, q.targetCap)
  else
    let num := (now - q.start).toNat
    let den := (q.finish - q.start).toNat
    (rampValue q.fromFloor q.targetFloor num den, rampValue q.fromCap q.targetCap num den)

/-- A transition that stands at its target. -/
def SchProgram.still (g : Option (Nat × Int)) (floor cap : Nat) : SchProgram := ⟨g, floor, cap, floor, cap, 0, 0⟩

/-- The published floor and cap of a program. -/
def State.schPublished (s : State) (p : Nat) : Nat × Nat :=
  (s.w16 0x08 (0x80000 + 4 * p), s.w16 0x08 (0x80000 + 4 * p + 2))

/-- A program at a tick (R275, R276, R278): its transition after the tick. -/
def State.schProgram (s : State) (p : Nat) (today now : Int) (first : Bool) : SchProgram :=
  let r := s.program p
  if !r.valid then .still none 0 65535
  else
    let g := s.governing p today now
    let (floor, cap) := match g with
      | none => (r.floor, r.cap)
      | some (k, _) => ((s.step_ p k).floor, (s.step_ p k).cap)
    let stop := match g with
      | none => now
      | some (k, i) => i + 8 * (s.step_ p k).ramp
    let (f0, c0) := s.schPublished p
    let start : SchProgram := ⟨g, floor, cap, f0, c0, now, stop⟩
    if first then .still g floor cap
    else
      match Sparse.get s.sch.programs p with
      | some q => if q.governing = g ∧ q.targetFloor = floor ∧ q.targetCap = cap then q else start
      | none => start

/-- A publication: the table and the result block change in one step (R277). -/
def State.schPublish (s : State) (now : Nat) (vals : List (Nat × Nat × Nat)) (first guarded noTime : Bool) : State :=
  let changed := (vals.filter fun v => s.schPublished v.1 != v.2).length
  let s := vals.foldl (fun s v =>
    if s.schPublished v.1 = v.2 then s else s.setBytes 0x08 (0x80000 + 4 * v.1) (toOctets 2 v.2.1 ++ toOctets 2 v.2.2)) s
  let s := if changed = 0 then s else { s with drf := { s.drf with limitsChanged := true } }
  (s.wrAll
    [(SCH_PUB_TIME_LO, now / 8), (SCH_PUB_TIME_HI_SECONDS, now / 8 / 2 ^ 32),
     (SCH_PUB_TIME_HI_FRACTION, now % 8 * 8192), (SCH_PUB_END_CHANGED, changed),
     (SCH_PUB_END_GUARDED, if guarded then 1 else 0), (SCH_PUB_END_NO_TIME, if noTime then 1 else 0),
     (SCH_PUB_END_FIRST, if first then 1 else 0)]).publish 0x08 0 (SEQ_COUNT 0x08)

/-- Evaluate every program at an instant and publish (R275 to R278): `tick` is the tick's own instant, `jump` says that it is a jump. -/
def State.schEvaluate (s : State) (now tick : Nat) (guarded jump : Bool) : State :=
  let first := s.sch.firstDue
  let today := s.localDate (now / 8 : Nat)
  let s := s.schAstro today jump
  let progs := (List.range 256).map fun p => (p, s.schProgram p today now first)
  let vals := progs.map fun q => (q.1, q.2.valueAt now)
  let ramping := progs.any fun q => decide (q.2.start < q.2.finish ∧ (now : Int) < q.2.finish)
  let s := { s with sch := { s.sch with programs := progs, firstDue := false, published := true } }
  (s.wrB SCH_STATUS_RAMPING ramping).schPublish tick vals first guarded false

/-- The high-water mark, and SCH_HIGH (R282). -/
def State.schHigh (s : State) (now : Nat) : State :=
  ({ s with sch := { s.sch with high := now } }.wr SCH_HIGH_LO (now / 8)).wr SCH_HIGH_HI (now / 8 / 2 ^ 32)

/-- A tick while calendar time is not valid: the fallbacks (R280). -/
def State.schNoTime (s : State) (now : Nat) : State :=
  let vals := (List.range 256).map fun p =>
    let r := s.program p
    (p, if r.valid then (r.floor, r.cap) else (0, 65535))
  let first := s.sch.firstDue && !s.sch.published
  let s := s.noticeIf (!s.rdB SCH_STATUS_NO_TIME) SCH_NOTE_NO_TIME
  let s := { s with sch := { s.sch with prev := none, firstDue := true, published := true, programs := [] } }
  (s.wrAll [(SCH_STATUS_NO_TIME, 1), (SCH_STATUS_GUARDED, 0), (SCH_STATUS_RAMPING, 0)]).schPublish now vals first false true

/-- The guard's span: while the unit is guarded, the one it was guarded under, for configuration writes wait (R282). -/
def State.guardSpan (s : State) : Nat := if s.rdB SCH_STATUS_GUARDED then s.sch.span else s.rd SCH_GUARD_SPAN

/-- A tick below the high-water mark, within the guard's span (R282, R283). -/
def State.schGuarded (s : State) (now : Nat) : State :=
  let s := if s.rdB SCH_STATUS_GUARDED then s
    else (((s.withSch { s.sch with span := s.rd SCH_GUARD_SPAN }).wr SCH_STATUS_GUARDED 1).count SCH_GUARDS 1).notice SCH_NOTE_GUARD
  if s.sch.firstDue then s.schEvaluate s.sch.high now true true else s.schPublish now [] false true false

/-- The nominal spacing of ticks, in eighths of a second (R277). -/
def State.schSpacing (s : State) : Nat := if s.modes.power = .doze then 8 else 1

/-- A tick (R277 to R283). -/
def State.schTick (s : State) : State :=
  if !s.rdB SCH_CTRL_EN || !s.lightPath then s
  else
    let now := s.calNow.secs * 8 + s.calNow.frac / 8192
    if !s.calValid then s.schNoTime now
    else
      let s := (s.schLocalChange (now / 8)).wr SCH_STATUS_NO_TIME 0
      let before := s.sch.prev
      let s := s.withSch { s.sch with prev := some now }
      if now < s.sch.high then
        if s.sch.high - now ≤ 8 * s.guardSpan then s.schGuarded now
        else
          let s := ((s.count SCH_JUMP_BACK 1).notice SCH_NOTE_JUMP_BACK).silt 0x0802 ((before.getD s.sch.high) / 8) (now / 8)
          ((s.withSch { s.sch with firstDue := true }).wr SCH_STATUS_GUARDED 0).schEvaluate now now false true |>.schHigh now
      else
        let s := if s.rdB SCH_STATUS_GUARDED then (s.wr SCH_STATUS_GUARDED 0).notice SCH_NOTE_GUARD_END else s
        let jump := before.any fun p => decide (p + s.schSpacing + 8 ≤ now)
        let s := if jump then ((s.count SCH_JUMP_FWD 1).notice SCH_NOTE_JUMP_FWD).silt 0x0801 (before.getD now / 8) (now / 8) else s
        (s.schEvaluate now now false jump).schHigh now

/-- SCH_CTRL.EN (R278, R286). -/
def State.schEnable (s : State) (en : Bool) : State :=
  let s := s.wrB SCH_CTRL_EN en
  if en then s else { s with sch := { s.sch with prev := none } }.wr SCH_STATUS_RAMPING 0

/-- The high-water mark is written to MRAM (R283). -/
def State.schSave (s : State) : State := { s with sch := { s.sch with highStored := s.sch.high } }

/-- SCH_TICK (R277 to R283). -/
def execSchTick (s : State) : Host.Outcome State Fault Refusal := .next (s.working 0x08 State.schTick)

/-- SCH_HIGH_WATER_SAVE (R283). -/
def execSchHighWaterSave (s : State) : Host.Outcome State Fault Refusal := .next (s.working 0x08 State.schSave)

end Sys2Proof.Machine
end

