-- ==== Sys2Proof/Machine/Clm.lean ====
section
/-! DEFINITION. Pairing, claims and fail-over: the claim, the comparator, the Bidues link, standby decisions, ordered handover,
periodic swaps and resignation (R453 to R477). Role changes are asked for here and decided in the decision step (R464). -/

namespace Sys2Proof.Machine

/-! ### Requests -/

/-- Ask for a value of an axis at the next decision step; a request that already waits is not repeated. -/
def State.request (s : State) (r : ModeReq) : State :=
  if s.modeReqs.any fun q => q.value == r.value && q.origin == r.origin then s else { s with modeReqs := s.modeReqs ++ [r] }

/-- Ask for a role (R464). -/
def State.askRole (s : State) (r : Role) (cause : Nat) (origin : Nat := 0) : State := s.request ⟨.role r, cause, origin⟩

/-- A request is refused, by the codes of R101: SYS_REQ_STAT, the notice and the Silt record (R34). -/
def State.refuseCode (s : State) (axis blocker code : Nat) : State :=
  let s := s.wrAll [(SYS_REQ_STAT_AXIS, axis), (SYS_REQ_STAT_BLOCKER, blocker), (SYS_REQ_STAT_RESULT, 3)]
  ((s.count SYS_REQ_STAT_REFUSALS 1).notice SYS_NOTE_REFUSED).silt 0x0003 axis blocker code

/-! ### Claim and comparator (R453 to R458) -/

/-- The module's serial number. -/
def State.serial (s : State) : Nat := s.rd SYS_SERIAL_LO + 2 ^ 32 * s.rd SYS_SERIAL_HI

def State.partnerSerial (s : State) : Nat := s.rd CLM_PARTNER_SERIAL_LO + 2 ^ 32 * s.rd CLM_PARTNER_SERIAL_HI

/-- The partner's EPOCH from its last valid frame. -/
def State.partnerEpoch (s : State) : Nat := (s.clm.partner.map Bidues.epoch).getD 0

def State.paired (s : State) : Bool := s.rdB CLM_CTRL_PAIRED

/-- A module is in control while its claim is not 0 (R464). -/
def State.holdsClaim (s : State) : Bool := s.rd CLM_CLAIM != 0

/-- The comparator's output: OWN against PARTNER, which SOLO forces to 0 (R457). -/
def State.comparator (s : State) : Bool :=
  let p := if s.modes.role = .solo then 0 else s.rd CLM_PARTNER_CLAIM
  s.clm.own != 0 && (p < s.clm.own || (p == s.clm.own && s.partnerSerial < s.serial))

/-- The comparator has been loaded: a latched driver is released when its enable rises again (R48). -/
def State.compare (s : State) : State :=
  let now := s.comparator
  let s' : State := { s with clm := { s.clm with enabled := now } }
  if now && !s.clm.enabled then s'.wr CLM_STATUS_LATCH 0 else s'

/-- Whether driver k conducts: the comparator enables it, its gate is open and it is not latched off (R32, R48, R457). -/
def State.driverOn (s : State) (k : Nat) : Bool :=
  s.comparator && s.gateOpen && !bitAt (s.rd CLM_STATUS_LATCH) k

/-- CLM_CLAIM takes a value, copied to SPR_CLAIM; a claim of 0 takes effect in the comparator at once (R453, R458). -/
def State.setClaim (s : State) (c : Nat) : State :=
  let s := (s.wr CLM_CLAIM c).wr SPR_CLAIM c
  (if c = 0 then { s with clm := { s.clm with own := 0 } } else s).compare

/-- RANK; 0 acts as 1. -/
def State.ownRank (s : State) : Nat := max 1 (s.rd CLM_CFG_RANK)

/-- Whether a new epoch exists (R456). -/
def State.mayTakeEpoch (s : State) : Bool := s.rd CLM_EPOCH != 0xFFFFFF && s.partnerEpoch != 0xFFFFFF

/-- A new epoch is stored (R454, R456). -/
def State.newEpoch (s : State) : State :=
  let e := max (s.rd CLM_EPOCH) s.partnerEpoch + 1
  (s.wr CLM_EPOCH e).noticeIf (decide (0xFFFFF0 ≤ e)) CLM_NOTE_EPOCH_LOW

/-- The claim under the stored epoch (R453). -/
def State.claimNow (s : State) : Nat := s.rd CLM_EPOCH * 256 + s.ownRank

/-- The module gains control (R454). -/
def State.gainControl (s : State) : State :=
  let s := s.newEpoch
  (s.setClaim s.claimNow).wr CLM_STATUS_WAITING 0

/-! ### Records (R475) -/

/-- An uplink record. -/
def State.clmRecord (s : State) (event from_ to_ cause : Nat) : State :=
  let t := s.moduleTime
  s.slqPush 2 event (if event = 1 ∨ event = 8 then 5 else 3)
    [event + 2 ^ 8 * from_ + 2 ^ 16 * to_ + 2 ^ 24 * cause, s.rd CLM_CLAIM, s.rd CLM_PARTNER_CLAIM, t % 2 ^ 32, t / 2 ^ 32, 0]

/-- A record of an event that is no role change. -/
def State.clmEvent (s : State) (event cause : Nat) : State := s.clmRecord event s.modes.role.code s.modes.role.code cause

/-- The day's number in local time (R270, R473). -/
def State.today (s : State) : Int := s.localDate s.cal.secs

/-- Put the unit's working state. -/
def State.withClm (s : State) (u : ClmUnit) : State := { s with clm := u }

/-- The frames of a handover that wait for a turn, and the QUERY that R466 calls for, are not sent: their cause is over (R466, R467,
R471). -/
def ClmUnit.withdraw (u : ClmUnit) : ClmUnit :=
  { u with out := u.out.filter fun q => q.1 != 4 && q.1 != 5 && q != (2, 0), wants := false, querying := false, settle := none }

/-- The role axis takes a value, which DPT follows (R328). What the old role asked of the partner ends with it. -/
def State.putRole (s : State) (r : Role) : State :=
  let s : State := { s.withClm s.clm.withdraw with modes := { s.modes with role := r } }
  s.dptFollow

/-- A change of role: notices, record and Silt record (R464, R475). The first PRIMARY with DAYS not 0 dates the periodic swap
(R473). -/
def State.setRole (s : State) (r : Role) (cause : Nat) : State :=
  if s.modes.role = r then s
  else
    let old := s.modes.role
    let s := s.putRole r
    let s := s.notices [CLM_NOTE_ROLE, SYS_NOTE_MODE]
    let s := (s.clmRecord 1 old.code r.code cause).silt 0x1B01 old.code r.code cause (s.rd CLM_CLAIM)
    let s := s.compare
    if r = .primary ∧ s.rd CLM_SWAP_DAYS ≠ 0 ∧ !s.clm.everPrimary then
      { s with clm := { s.clm with everPrimary := true, swapFrom := some s.today } }.wr CLM_SWAP_LAST s.today.toNat
    else s

/-- A handover is refused: the notice and its record (R471 to R473). -/
def State.swapRefused (s : State) (cause : Nat) : State := (s.notice CLM_NOTE_SWAP_REFUSED).clmEvent 9 cause

/-! ### Frames (R460, R461) -/

/-- The link engine runs (R460), in a start from t9 on (R109). -/
def State.linkRuns (s : State) : Bool := s.rdB CLM_CTRL_EN && s.paired && s.live 0x1B && Nat.ble 9 s.startup.line

/-- The last three ADVERTISING cells (R461). -/
def State.advert (s : State) (skipped : Bool) : State :=
  { s with clm := { s.clm with skips := (skipped :: s.clm.skips).take 3 } }

/-- ARG of a frame that the module sends. -/
def State.frameArg (s : State) (kind arg : Nat) : Nat :=
  if kind = 2 then s.rd MAC_PARTNER_MISS
  else if kind = 3 then flagBits [s.rdB MAC_CTRL_EB_EN && s.meshTx, s.clm.skips.any id]
  else arg

/-- The octets of a frame (R461): little-endian fields, reserved octets 0, and the CRC-32C of octets 1–31. -/
def biduesOctets (f : Bidues) : List Nat :=
  let body := [f.kind, f.seq, 0] ++ toOctets 4 f.claim ++
    [f.role + flagBits [false, false, f.inControl, f.preferred, f.heard, f.ready], f.rank] ++ toOctets 3 f.epoch ++ [0, 0, 0] ++
    toOctets 8 f.serial ++ toOctets 4 f.cfgId ++ [f.arg, 0, 0, 0]
  [f.sync] ++ body ++ toOctets 4 (crc32c body)

/-- Send a frame. -/
def State.sendBidues (s : State) (kind arg : Nat) : State :=
  let f : Bidues :=
    ⟨0xB5, kind, s.clm.seq, s.rd CLM_CLAIM, s.modes.role.code, s.comparator, s.rdB CLM_CTRL_PREFERRED,
     decide (s.rd MAC_PARTNER_MISS < 3), s.rdB SYS_STATUS_READY, s.rd CLM_CFG_RANK, s.rd CLM_EPOCH, s.serial, s.rd CLM_CFG_ID,
     s.frameArg kind arg, true⟩
  { s with clm := { s.clm with seq := (s.clm.seq + 1) % 256 } }.emit (.bidues f (biduesOctets f))

/-- A frame takes the place of a heartbeat in the module's turn. A QUERY waits with ARG 0 where R466 calls for it and with 1 where host
software does. -/
def State.queueBidues (s : State) (kind arg : Nat) : State :=
  if s.clm.out.contains (kind, arg) then s else { s with clm := { s.clm with out := s.clm.out ++ [(kind, arg)] } }

/-- Give up control, with RESIGN where the link engine runs (R474). In PRIMARY and SWAPPING the module asks for STANDBY, unless
tamper or a reset changes its role. -/
def State.resign (s : State) (arg : Nat) : State :=
  if !s.holdsClaim then s
  else
    let s := s.setClaim 0
    if s.linkRuns then s.sendBidues 7 arg else s

/-- A handover under way is forgotten, with what waits to be sent for it; an activation that waits for it is to be refused (R472). -/
def State.dropSwap (s : State) : State :=
  let failed := (s.clm.swap.map Handover.grog).getD false
  s.withClm { s.clm.withdraw with swap := none, barred := s.clm.barred || failed }

/-- A handover ends without success (R471): the module goes back to the role it held; a taking module whose SWAP_ACK has left is in
control. -/
def State.abandonSwap (s : State) : State :=
  match s.clm.swap with
  | none => s
  | some h => s.dropSwap.askRole (if !h.giving && h.sent then .primary else h.before) 5

/-! ### Standby decisions (R465 to R467) -/

/-- Frames in a row before a loss; below 2 acts as 2. -/
def State.hbLoss (s : State) : Nat := max 2 (s.rd CLM_CFG_HB_LOSS)

/-- Ask to take control. -/
def State.askControl (s : State) (cause : Nat) : State := s.askRole .primary cause

/-- The link is silent while the partner's beacons are heard: a link fault (R465, R466). -/
def State.linkFault (s : State) : State :=
  if s.rdB CLM_STATUS_LINK_FAULT then s
  else (((s.withClm { s.clm with settle := none }).wr CLM_STATUS_LINK_FAULT 1).notice CLM_NOTE_LINK_FAULT).clmEvent 4 0

/-- Whether 10 s of module time have passed since the last QUERY that R466 called for (R467). -/
def State.mayQuery (s : State) : Bool :=
  match s.clm.asked with
  | some t => Nat.ble (t + 10000000000) s.moduleTime
  | none => true

/-- The QUERY that R466 calls for takes the next turn; it is repeated at most once every 10 s while MISS stays at 3 (R467). -/
def State.wantQuery (s : State) : State :=
  if s.clm.wants && !s.clm.querying && s.mayQuery then s.queueBidues 2 0 else s

/-- The row of R466 for the partner's frames with claim 0, which stands at every frame of a link that is up. -/
def State.zeroClaims (s : State) : State :=
  if s.modes.role = .standby ∧ s.rdB CLM_STATUS_LINK_UP ∧ s.hbLoss ≤ s.clm.zeros then s.askControl 3 else s

/-- The decision of a STANDBY at a change of the link or of MISS (R466). -/
def State.standbyDecide (s : State) : State :=
  if s.modes.role ≠ .standby then s
  else if s.rdB CLM_STATUS_LINK_UP then
    if s.hbLoss ≤ s.clm.zeros then s.askControl 3
    else if s.rd MAC_PARTNER_MISS < 3 then s
    else (s.withClm { s.clm with wants := true }).wantQuery
  else if s.rd MAC_PARTNER_MISS < 3 then
    s.linkFault
  else s.askControl 1

/-- The outcomes of a start's wait for which the link is silent (R465): the first event of the wait that stands decides. -/
def State.waitSilent (s : State) : State :=
  if !s.rdB CLM_STATUS_WAITING || s.rdB CLM_STATUS_LINK_UP then s
  else if s.rd MAC_PARTNER_MISS = 3 then s.askRole .solo 1 5
  else if s.clm.heardBeacon then s.linkFault.askRole .standby 0 5
  else if s.clm.waited then s.askRole .solo 1 5
  else s

/-- CLM_START.WAIT has passed (R465): it counts where no valid beacon of the partner was heard. -/
def State.waitOver (s : State) : State :=
  if !s.rdB CLM_STATUS_WAITING || s.clm.heardBeacon then s else (s.withClm { s.clm with waited := true }).waitSilent

/-- MAC_PARTNER.MISS has changed (R176). Below 3 nothing is asked of the partner any more, and a later QUERY need not wait for the 10 s
of the last (R466, R467). -/
def State.clmMiss (s : State) : State :=
  let s := if s.rd MAC_PARTNER_MISS < 3 then
      s.withClm { s.clm with asked := none, wants := false, querying := false, out := s.clm.out.filter fun q => q != (2, 0) }
    else s
  if s.rdB CLM_STATUS_WAITING then s.waitSilent else s.standbyDecide

/-- A valid beacon of the partner (R465, R468). -/
def State.clmBeacon (s : State) : State :=
  if s.rdB CLM_STATUS_WAITING && s.paired then (s.withClm { s.clm with heardBeacon := true }).waitSilent
  else if s.modes.role = .primary then
    ((s.notice CLM_NOTE_DUAL_TX).clmEvent 11 0).silt 0x1B04 s.partnerSerial
  else s

/-- Control is given up (R468). -/
def State.giveUpClaim (s : State) (cause : Nat) : State := (s.setClaim 0).askRole .standby cause

/-- SPR passed a SUPERSEDED report (R468). -/
def State.clmSuperseded (s : State) : State :=
  if !s.holdsClaim then s
  else
    let s := s.notice CLM_NOTE_SUPERSEDED
    (if s.paired then s.giveUpClaim 7 else s).clmEvent 6 0

/-! ### Received frames (R462, R463, R465, R468) -/

/-- Whether a frame is valid (R462). -/
def State.biduesValid (s : State) (f : Bidues) : Bool :=
  f.sync == 0xB5 && f.checkOk && 1 ≤ f.kind && f.kind ≤ 7 && f.serial != s.serial

/-- What a frame shows of the two configurations (R455, R462, R473). -/
def State.mismatches (s : State) (f : Bidues) : Bool :=
  f.cfgId != s.rd CLM_CFG_ID || max 1 f.rank == s.ownRank || (f.preferred && s.rdB CLM_CTRL_PREFERRED)

/-- A valid frame's contents are loaded. -/
def State.loadPartner (s : State) (f : Bidues) : State :=
  let s := (s.count CLM_HB_RX 1).wrAll [(CLM_PARTNER_CLAIM, f.claim), (CLM_PARTNER_SERIAL_LO, f.serial),
    (CLM_PARTNER_SERIAL_HI, f.serial / 2 ^ 32), (CLM_PARTNER_CFG_ID, f.cfgId),
    (CLM_STATUS_CFG_MISMATCH, if f.cfgId = s.rd CLM_CFG_ID then 0 else 1)]
  let bad := s.mismatches f
  let first := bad && !s.clm.mismatch
  let s := s.withClm { s.clm with partner := some f, mismatch := bad, zeros := if f.claim = 0 then s.clm.zeros + 1 else 0 }
  let s := s.noticeIf bad CLM_NOTE_CFG_MISMATCH
  (if first then s.clmEvent 10 0 else s).compare

/-- The link returns to up at a valid frame (R463, R466). -/
def State.linkUp (s : State) : State :=
  if s.rdB CLM_STATUS_LINK_UP then s
  else (((s.wr CLM_STATUS_LINK_UP 1).wr CLM_STATUS_LINK_FAULT 0).notice CLM_NOTE_LINK_UP).clmEvent 3 0

/-- The claim rules of a valid frame for a module in control (R468). -/
def State.claimRules (s : State) (f : Bidues) : State :=
  let own := s.rd CLM_CLAIM
  if own < f.claim then s.giveUpClaim 6
  else
    let s := if own = f.claim then (s.notice CLM_NOTE_TIE).silt 0x1B03 f.serial else s
    let lower := own = f.claim ∧ s.serial < f.serial
    let s := if lower then s.giveUpClaim 8 else if own = f.claim ∧ s.mayTakeEpoch then s.gainControl else s
    let s := if own = f.claim then s.clmEvent 7 0 else s
    if ¬lower ∧ s.modes.role = .solo ∧ s.paired then s.askRole .primary 11 else s

/-- A valid frame for a module that waits at its start (R465). -/
def State.waitRules (s : State) (f : Bidues) : State :=
  if 0 < f.claim then s.askRole .standby 0 5
  else if (s.rdB CLM_CTRL_PREFERRED && !f.preferred) ||
      (s.rdB CLM_CTRL_PREFERRED == f.preferred && decide (f.serial < s.serial)) then s.askRole .primary 0 5
  else s

/-- An ordered handover is complete (R470); a periodic one dates the next (R473). -/
def State.swapDone (s : State) (periodic : Bool) : State :=
  let s := ({ s with clm := { s.clm with swap := none } }.notice CLM_NOTE_SWAP_DONE).count CLM_HANDOVERS 1
  if periodic then { s with clm := { s.clm with swapFrom := some s.today } }.wr CLM_SWAP_LAST s.today.toNat else s

/-- The meaning of a valid frame's TYPE (R466, R467, R470, R471). -/
def State.biduesKind (s : State) (f : Bidues) : State :=
  match f.kind with
  | 2 => s.queueBidues 3 0
  | 3 =>
    if !s.clm.querying then s
    else
      let s : State := { s with clm := { s.clm with querying := false } }
      if s.modes.role ≠ .standby then s
      else if f.inControl && bitAt f.arg 1 then s
      else if f.inControl && bitAt f.arg 0 then
        ((s.withClm { s.clm with settle := none }).notice CLM_NOTE_BEACON_FAULT).clmEvent 5 0
      else s.askControl 4
  | 4 =>
    if f.arg = 0 then
      if s.modes.role = .standby then s.askRole .swapping 5 4 else s.queueBidues 6 3
    else if s.modes.role = .primary then s.askRole .swapping 5 3
    else s.queueBidues 6 3
  | 5 =>
    match s.clm.swap with
    | some h => if h.giving then (s.setClaim 0).askRole .standby 5 else s
    | none => s
  | 6 =>
    match s.clm.swap with
    | some h => if h.giving then (s.swapRefused f.arg).wr CLM_CMD_STAT_RESULT 3 |>.abandonSwap else s
    | none => if s.modes.role = .standby then (s.swapRefused f.arg).wr CLM_CMD_STAT_RESULT 3 else s
  | 7 =>
    match s.clm.swap with
    | some h =>
      if (h.giving && s.holdsClaim) then s.abandonSwap
      else if h.giving || h.sent then s.dropSwap.askControl 2
      else s.abandonSwap.askControl 2
    | none => if s.modes.role = .standby then s.askControl 2 else s
  | _ => s

/-- The taking module's end of a handover: a frame of the giving module shows STANDBY (R470). -/
def State.takingEnds (s : State) (f : Bidues) : State :=
  match s.clm.swap with
  | some h => if !h.giving && h.sent && f.role == 2 then s.askRole .primary 5 else s
  | none => s

/-- The conditions that every handover needs: 2 the link is lost, 5 a module is not READY, 6 CFG_ID differs (R472). -/
def State.swapBar (s : State) : Nat :=
  if !s.rdB CLM_STATUS_LINK_UP then 2
  else
    match s.clm.partner with
    | none => 2
    | some f => if !(s.rdB SYS_STATUS_READY && f.ready) then 5 else if f.cfgId ≠ s.rd CLM_CFG_ID then 6 else 0

/-- Whether the conditions of a revert hold (R473). -/
def State.mayRevert (s : State) : Bool :=
  let other := match s.clm.partner with
    | some f => f.role == 1 && !f.preferred
    | none => false
  s.rdB CLM_CTRL_PREFERRED && s.rdB CLM_CTRL_REVERT_EN && s.modes.role == .standby && other && s.swapBar == 0

/-- The count of CLM_REVERT.SETTLE starts where the conditions begin to hold, and ends where they do not; a fault and a change of role
restart it (R473). -/
def State.revertWatch (s : State) : State :=
  if !s.mayRevert then s.withClm { s.clm with settle := none }
  else if s.clm.settle.isSome then s
  else s.withClm { s.clm with settle := some s.moduleTime }

/-- A frame ends on the line (R462). -/
def State.bidues (s : State) (f : Bidues) : State :=
  if !s.linkRuns then s
  else if !s.biduesValid f then s.count CLM_HB_BAD 1
  else
    let was := s.rdB CLM_STATUS_LINK_UP
    let s := (s.loadPartner f).linkUp
    let giving := f.kind = 5 ∧ (s.clm.swap.map Handover.giving) = some true
    let s := if giving then s
      else if s.holdsClaim then s.claimRules f
      else if s.rdB CLM_STATUS_WAITING then s.waitRules f
      else if f.kind = 7 then s
      else if was then s.zeroClaims
      else s.standbyDecide
    ((s.biduesKind f).takingEnds f).revertWatch

/-! ### Turns, loss and timeouts -/

/-- A frame that waited has been sent: the ANSWER to a QUERY is awaited, and a handover's frame has left (R467, R470). -/
def State.frameSent (s : State) (k a : Nat) : State :=
  if k = 2 then
    (s.withClm { s.clm with querying := true, asked := if a = 0 then some s.moduleTime else s.clm.asked }).count CLM_QUERIES 1
  else if k = 5 ∨ k = 4 ∧ a = 0 then s.withClm { s.clm with swap := s.clm.swap.map fun h => { h with sent := true } }
  else s

/-- This module's turn on the link (R460): the first frame that waits, or a heartbeat. A SWAP_ACK announces the new claim (R461, R470),
in a handover that this module takes. -/
def State.turn (s : State) : State :=
  if !s.linkRuns then s
  else
    let s := s.wantQuery
    match s.clm.out with
    | [] => s.sendBidues 1 0
    | (k, a) :: _ =>
      let s := s.withClm { s.clm with out := s.clm.out.erase (k, a) }
      let s := if k = 5 then s.setClaim s.claimNow else s
      (s.sendBidues k a).frameSent k a

/-- No valid frame for HB_LOSS periods (R463, R466, R470, R471). -/
def State.linkLost (s : State) : State :=
  if !s.rdB CLM_STATUS_LINK_UP then s
  else
    let s := (((s.wr CLM_STATUS_LINK_UP 0).count CLM_LINK_LOSSES 1).notice CLM_NOTE_LINK_LOST).clmEvent 2 0
    let s := s.withClm { s.clm with zeros := 0, querying := false, wants := false, out := s.clm.out.filter fun q => q != (2, 0) }
    let s := match s.clm.swap with
      | some h => if !h.giving && h.sent then s.askRole .primary 5 else s.abandonSwap
      | none => if s.rdB CLM_STATUS_WAITING then s.waitSilent else s.standbyDecide
    s.revertWatch

/-- A new claim that is not 0 takes effect in the comparator (R458). -/
def State.comparatorLoad (s : State) : State :=
  if s.holdsClaim then { s with clm := { s.clm with own := s.rd CLM_CLAIM } }.compare else s

/-- No valid ANSWER within QUERY_WAIT turns (R467). -/
def State.queryExpire (s : State) : State :=
  if !s.clm.querying then s
  else
    let s : State := { s with clm := { s.clm with querying := false } }
    if s.modes.role = .standby then s.askControl 4 else s

/-- No answer to SWAP_REQ within QUERY_WAIT turns (R471). -/
def State.swapExpire (s : State) : State :=
  match s.clm.swap with
  | some h => if h.giving && h.sent && s.holdsClaim then (s.swapRefused 8).abandonSwap else s
  | none => s

/-! ### Handovers (R472, R473) -/

/-- The cause of a refused swap in its record, by the bar. -/
def barCause (b : Nat) : Nat := if b = 2 then 8 else if b = 5 then 9 else 10

/-- This module starts to hand over (R472). -/
def State.handover (s : State) (origin : Nat) : State :=
  if s.modes.role ≠ .primary then s.wr CLM_CMD_STAT_RESULT 1
  else if s.swapBar ≠ 0 then (s.swapRefused (barCause s.swapBar)).wr CLM_CMD_STAT_RESULT s.swapBar
  else (s.askRole .swapping 5 origin).wr CLM_CMD_STAT_RESULT 0

/-- This module asks the partner to hand over (R472). -/
def State.take (s : State) : State :=
  if s.modes.role ≠ .standby then s.wr CLM_CMD_STAT_RESULT 1
  else if s.swapBar ≠ 0 then (s.swapRefused (barCause s.swapBar)).wr CLM_CMD_STAT_RESULT s.swapBar
  else (s.queueBidues 4 1).wr CLM_CMD_STAT_RESULT 0

/-- The stored epoch returns to 0, only in SOLO with claim 0 (R456). -/
def State.epochReset (s : State) : State :=
  if s.modes.role = .solo ∧ !s.holdsClaim then (s.wr CLM_EPOCH 0).wr CLM_CMD_STAT_RESULT 0 else s.wr CLM_CMD_STAT_RESULT 1

/-- The host's QUERY. -/
def State.hostQuery (s : State) : State :=
  if !s.rdB CLM_STATUS_LINK_UP then s.wr CLM_CMD_STAT_RESULT 2 else (s.queueBidues 2 1).wr CLM_CMD_STAT_RESULT 0

/-- A write of CLM_CMD (R477). -/
def State.clmCommand (s : State) (w : Nat) : State :=
  match w % 8 with
  | 1 => s.handover 1
  | 2 => s.take
  | 3 => s.epochReset
  | 4 => s.hostQuery
  | _ => s

/-- A write to CLM_SWAP or CLM_CTRL.SWAP_AUTO dates the next periodic swap; a PRIMARY is one with DAYS not 0 from then on where DAYS is
not 0 (R473). -/
def State.swapDated (s : State) : State :=
  { s with clm := { s.clm with
      swapFrom := some s.today
      everPrimary := s.clm.everPrimary || (s.modes.role == Role.primary && s.rd CLM_SWAP_DAYS != 0) } }.wr CLM_SWAP_LAST s.today.toNat

/-- The index of the least value, the first of equal ones. -/
def leastIndex : List Nat → Nat
  | [] => 0
  | a :: t => ((t.foldl (fun (p : Nat × Nat × Nat) x => if x < p.2.1 then (p.1 + 1, x, p.1 + 1) else (p.1 + 1, p.2)) (0, a, 0)).2).2

/-- A word of the quiet table (R476). -/
def State.quiet (s : State) (h : Nat) : Nat := s.w32 0x1B (4 * h)

/-- Whether the quiet table chooses the hour (R473). -/
def State.swapAuto (s : State) : Bool := s.rdB CLM_CTRL_SWAP_AUTO && 168 ≤ s.clm.hours

/-- The local date and hour of the periodic swap computed from a date (R473). -/
def State.swapAt (s : State) (from_ : Int) : Int × Nat :=
  let days := min 28 (s.rd CLM_SWAP_DAYS)
  let d := from_ + days
  if days % 7 = 0 then
    let how := if s.swapAuto then leastIndex ((List.range 168).map s.quiet)
      else 24 * min 6 (s.rd CLM_SWAP_WEEKDAY) + min 23 (s.rd CLM_SWAP_HOUR)
    (d + (((how / 24 : Nat) : Int) - (d + 5)) % 7, how % 24)
  else
    (d, if s.swapAuto then leastIndex ((List.range 24).map fun h => ((List.range 7).map fun w => s.quiet (24 * w + h)).sum)
        else min 23 (s.rd CLM_SWAP_HOUR))

/-- The local hour of the day. -/
def State.localHour (s : State) : Nat := (((s.cal.secs : Int) + s.schOffsetNow) % 86400 / 3600).toNat

/-- Periodic swaps whose hour has passed are skipped (R473). -/
def State.swapSkip (s : State) : Nat → State
  | 0 => s
  | n + 1 =>
    match s.clm.swapFrom with
    | none => s
    | some from_ =>
      let (d, h) := s.swapAt from_
      if s.rd CLM_SWAP_DAYS = 0 then s
      else if d < s.today ∨ d = s.today ∧ h < s.localHour then
        State.swapSkip { s with clm := { s.clm with swapFrom := some d } } n
      else s

/-- The days that have passed since the last swap date. -/
def State.swapDays (s : State) : Nat :=
  match s.clm.swapFrom with
  | some d => (s.today - d).toNat + 1
  | none => 0

/-- CLM_NEXT_SWAP: calendar time of the next swap, 0 where there is none (R473, R477). -/
def State.nextSwap (s : State) : Nat :=
  let s := s.swapSkip s.swapDays
  match s.clm.swapFrom with
  | none => 0
  | some from_ =>
    if s.rd CLM_SWAP_DAYS = 0 then 0
    else codeOf 32 (s.localInstant (s.swapAt from_).1 (3600 * (s.swapAt from_).2))

/-- The start of a local hour at which a periodic swap may fall due (R473). -/
def State.periodicSwap (s : State) : State :=
  let s := s.swapSkip s.swapDays
  match s.clm.swapFrom with
  | none => s
  | some from_ =>
    let d := (s.swapAt from_).1
    if s.rd CLM_SWAP_DAYS = 0 || !s.calValid || d != s.today || (s.swapAt from_).2 != s.localHour then s
    else if s.modes.role ≠ .primary then s
    else if s.swapBar ≠ 0 then { s with clm := { s.clm with swapFrom := some d } }.swapRefused (barCause s.swapBar)
    else s.askRole .swapping 5 2

/-- Whether this is the hour of the periodic swap: the taking module knows a periodic swap by it (R473). -/
def State.swapDue (s : State) : Bool :=
  let s := s.swapSkip s.swapDays
  match s.clm.swapFrom with
  | none => false
  | some from_ => s.rd CLM_SWAP_DAYS != 0 && (s.swapAt from_).1 == s.today && (s.swapAt from_).2 == s.localHour

/-- CLM_REVERT.SETTLE in ns; below 60 s acts as 60 s. -/
def State.settleTime (s : State) : Nat := max 60 (s.rd CLM_REVERT_SETTLE) * 1000000000

/-- A module whose conditions of a revert have held for CLM_REVERT.SETTLE asks to take, and counts again (R473). -/
def State.revertAsk (s : State) : State :=
  match s.clm.settle with
  | some t =>
    if t + s.settleTime ≤ s.moduleTime then (s.withClm { s.clm with settle := some s.moduleTime }).queueBidues 4 1 else s
  | none => s

/-- The count of CLM_REVERT.SETTLE ends: it holds only where the conditions have stood without a break (R473). -/
def State.revert (s : State) : State := s.revertWatch.revertAsk

/-- A write of CLM_CTRL.EN: 0 makes a module in control resign at once, before the engine stops (R474); a handover whose claim this module
does not hold yet is abandoned. The link is lost only when no frame has arrived for its time (R463). -/
def State.clmEnable (s : State) (en : Bool) : State :=
  if en then s.wr CLM_CTRL_EN 1
  else
    let held := s.holdsClaim
    let s := (s.resign 4).wr CLM_CTRL_EN 0
    if !held then s.abandonSwap else if s.modes.role ≠ .solo then s.askRole .standby 9 else s

/-- A local hour has ended: the quiet table's word for it takes the dispatch count (R476). -/
def State.quietHour (s : State) : State :=
  let total := (s.rd DPT_CHANGES + s.rd DPT_WIRED) % 2 ^ 32
  let h := (((s.cal.secs : Int) + s.schOffsetNow - 3600 + 5 * 86400) / 3600 % 168).toNat
  let s := s.setN 0x1B (4 * h) 4 ((total + 2 ^ 32 - s.clm.mark) % 2 ^ 32)
  s.withClm { s.clm with mark := total, hours := s.clm.hours + 1 }

/-- A driver latches off (R48, R459). -/
def State.driverLatch (s : State) (k : Nat) : State :=
  (((s.wr CLM_STATUS_LATCH (setBit (s.rd CLM_STATUS_LATCH) k)).notice CLM_NOTE_CON_LATCH).clmEvent 8 k).silt 0x1B02 k

/-! ### Roles granted by the decision step -/

/-- A granted role (R454, R465, R466, R470): the claim that it brings, then the change itself. A STANDBY to which an abandoned handover
returns decides at once (R471). -/
def State.grantRole (s : State) (q : ModeReq) (r : Role) : State :=
  let old := s.modes.role
  match r with
  | .swapping =>
    let giving := q.origin != 4
    let s := if giving then s else s.newEpoch
    let h : Handover := ⟨giving, old, q.origin == 2 || (!giving && s.swapDue), false, q.origin == 6⟩
    ((s.withClm { s.clm with swap := some h }).setRole r q.cause).queueBidues (if giving then 4 else 5) 0
  | .primary =>
    match s.clm.swap with
    | some h => if h.giving then s.setRole r q.cause else (s.swapDone h.periodic).setRole r q.cause
    | none =>
      if old = .swapping ∨ s.holdsClaim then s.setRole r q.cause
      else
        let s := s.gainControl
        (if old = .standby then s.count CLM_TAKEOVERS 1 else s).setRole r q.cause
  | .standby =>
    let abandoned := s.clm.swap.isNone && q.cause == 5
    let s := match s.clm.swap with
      | some h => if h.giving && !s.holdsClaim && q.cause == 5 then s.swapDone h.periodic else s.dropSwap
      | none => s
    let s := (s.setClaim 0).wr CLM_STATUS_WAITING 0 |>.setRole r q.cause
    if abandoned then s.standbyDecide else s
  | .solo => (if q.cause = 10 then s else s.gainControl).setRole r q.cause

/-! ### Starts -/

/-- A reset: what MRAM keeps is the date of the swaps (R473). -/
def State.clmReset (s : State) : State :=
  { s with clm := { ClmUnit.empty with swapFrom := s.clm.swapFrom, everPrimary := s.clm.everPrimary } }.clearBytes 0x1B 0 0x2A0

/-- At t11 a paired module waits with claim 0; an unpaired one takes a new epoch (R454, R465). -/
def State.clmReady (s : State) : State :=
  if s.paired then s.wr CLM_STATUS_WAITING 1
  else if s.mayTakeEpoch && s.modes.tamper == .clear then s.gainControl
  else s

/-! ### The commands -/

/-- HEARTBEAT (R460). -/
def execHeartbeat (c : Nat) (s : State) : Host.Outcome State Fault Refusal := .next ((s.reach c).whenLive 0x1B State.turn)

/-- BIDUES_FRAME_RECEIVED (R462): a frame of any type. -/
def execBiduesFrameReceived (f : Bidues) (s : State) : Host.Outcome State Fault Refusal :=
  .next (s.whenLive 0x1B fun s => s.bidues f)

/-- QUERY (R467): a frame of that type is received. -/
def execQuery (f : Bidues) (s : State) : Host.Outcome State Fault Refusal :=
  .next (s.whenLive 0x1B fun s => s.bidues { f with kind := 2 })

/-- ANSWER (R467). -/
def execAnswer (f : Bidues) (s : State) : Host.Outcome State Fault Refusal :=
  .next (s.whenLive 0x1B fun s => s.bidues { f with kind := 3 })

/-- SWAP_REQ (R470). -/
def execSwapReq (f : Bidues) (s : State) : Host.Outcome State Fault Refusal :=
  .next (s.whenLive 0x1B fun s => s.bidues { f with kind := 4 })

/-- SWAP_ACK (R470). -/
def execSwapAck (f : Bidues) (s : State) : Host.Outcome State Fault Refusal :=
  .next (s.whenLive 0x1B fun s => s.bidues { f with kind := 5 })

/-- SWAP_NAK (R471). -/
def execSwapNak (f : Bidues) (s : State) : Host.Outcome State Fault Refusal :=
  .next (s.whenLive 0x1B fun s => s.bidues { f with kind := 6 })

/-- RESIGN (R466). -/
def execResign (f : Bidues) (s : State) : Host.Outcome State Fault Refusal :=
  .next (s.whenLive 0x1B fun s => s.bidues { f with kind := 7 })

/-- BIDUES_LINK_LOST (R463). -/
def execBiduesLinkLost (s : State) : Host.Outcome State Fault Refusal := .next (s.whenLive 0x1B State.linkLost)

/-- COMPARATOR_LOAD (R458). -/
def execComparatorLoad (s : State) : Host.Outcome State Fault Refusal := .next (s.whenLive 0x1B State.comparatorLoad)

/-- START_WAIT_EXPIRY (R465). -/
def execStartWaitExpiry (s : State) : Host.Outcome State Fault Refusal := .next (s.whenLive 0x1B State.waitOver)

/-- QUERY_WAIT_EXPIRY (R467). -/
def execQueryWaitExpiry (s : State) : Host.Outcome State Fault Refusal := .next (s.whenLive 0x1B State.queryExpire)

/-- SWAP_ACK_TIMEOUT (R471). -/
def execSwapAckTimeout (s : State) : Host.Outcome State Fault Refusal := .next (s.whenLive 0x1B State.swapExpire)

/-- HANDOVER (R472). -/
def execHandover (port : Port) (s : State) : Host.Outcome State Fault Refusal :=
  .next (s.effect port CLM_CMD_OP.addr fun s => s.handover 1)

/-- TAKE (R472). -/
def execTake (port : Port) (s : State) : Host.Outcome State Fault Refusal := .next (s.effect port CLM_CMD_OP.addr State.take)

/-- EPOCH_RESET (R456). -/
def execEpochReset (port : Port) (s : State) : Host.Outcome State Fault Refusal :=
  .next (s.effect port CLM_CMD_OP.addr State.epochReset)

/-- CLM_QUERY (R477). -/
def execClmQuery (port : Port) (s : State) : Host.Outcome State Fault Refusal :=
  .next (s.effect port CLM_CMD_OP.addr State.hostQuery)

/-- PERIODIC_SWAP (R473). -/
def execPeriodicSwap (s : State) : Host.Outcome State Fault Refusal := .next (s.whenLive 0x1B State.periodicSwap)

/-- REVERT_SETTLE_EXPIRY (R473). -/
def execRevertSettleExpiry (s : State) : Host.Outcome State Fault Refusal := .next (s.whenLive 0x1B State.revert)

/-- CLM_ENABLE_WRITE (R474). -/
def execClmEnableWrite (port : Port) (en : Bool) (s : State) : Host.Outcome State Fault Refusal :=
  .next (s.effect port CLM_CTRL_EN.addr fun s => s.clmEnable en)

/-- QUIET_TABLE_HOUR (R476). -/
def execQuietTableHour (s : State) : Host.Outcome State Fault Refusal := .next (s.whenLive 0x1B State.quietHour)

/-- CONTACTOR_DRIVER_LATCH (R48, R459). -/
def execContactorDriverLatch (k : Nat) (s : State) : Host.Outcome State Fault Refusal :=
  .next (s.whenLive 0x1B fun s => s.driverLatch k)

end Sys2Proof.Machine
end

