-- ==== Sys2Proof/Machine/Frames.lean ====
section
/-! DEFINITION. What the switch and HDM read in an Ethernet frame: lengths and tags (R378, R385), MAC control frames (R389),
IEEE 1588 messages (R410, R413), and the internet checksums (R396). -/

namespace Sys2Proof

open Sys2Proof.Machine

/-! ### Octets in network order -/

/-- Octet i of a list, 0 beyond its end. -/
def oct (l : List Nat) (i : Nat) : Nat := l.getD i 0 % 256

/-- The value of n octets from i on, the first one the most significant. -/
def beN (l : List Nat) (i : Nat) : Nat → Nat
  | 0 => 0
  | n + 1 => beN l i n * 256 + oct l (i + n)

/-- The n octets of a value, most significant first. -/
def beOctets (n v : Nat) : List Nat := (toOctets n v).reverse

/-- Replace octets from i on. -/
def patch (l : List Nat) (i : Nat) (new : List Nat) : List Nat := l.take i ++ new ++ l.drop (i + new.length)

/-! ### Frames -/

/-- The frame's octets, FCS excluded. -/
def EthFrame.octets (f : EthFrame) : List Nat :=
  beOctets 6 f.dst ++ beOctets 6 f.src ++ (match f.tag with
    | some tci => 0x81 :: 0x00 :: beOctets 2 tci
    | none => []) ++ f.body

/-- The frame's length as R378 counts it, FCS included. -/
def EthFrame.size (f : EthFrame) : Nat := 12 + (if f.tag.isSome then 4 else 0) + f.body.length + 4

/-- Read a frame from octets without FCS. Only the outermost tag, of TPID 0x8100, is recognised (R385). -/
def ethParse (l : List Nat) : EthFrame :=
  if beN l 12 2 = 0x8100 ∧ 16 ≤ l.length then ⟨beN l 0 6, beN l 6 6, some (beN l 14 2), l.drop 16⟩
  else ⟨beN l 0 6, beN l 6 6, none, l.drop 12⟩

/-- Zero octets up to a length of 64, FCS included (R378). -/
def EthFrame.pad (f : EthFrame) : EthFrame := { f with body := f.body ++ List.replicate (64 - f.size) 0 }

/-- The VID of a tagged frame, 0 for an untagged one. -/
def EthFrame.vid (f : EthFrame) : Nat := f.tag.getD 0 % 4096

/-- The EtherType. -/
def EthFrame.etherType (f : EthFrame) : Nat := beN f.body 0 2

/-- A link-local destination (R387). -/
def EthFrame.linkLocal (f : EthFrame) : Bool := f.dst / 16 == 0x0180C200000

/-- A group destination. -/
def EthFrame.group (f : EthFrame) : Bool := bitAt f.dst 40

/-- A MAC control frame that the receiving MAC consumes: 1 for PAUSE, 0x101 for PFC (R387, R389). -/
def EthFrame.control (f : EthFrame) : Option Nat :=
  if f.dst = 0x0180C2000001 ∧ f.tag = none ∧ f.etherType = 0x8808 ∧ (beN f.body 2 2 = 1 ∨ beN f.body 2 2 = 0x101) then
    some (beN f.body 2 2)
  else none

/-! ### IEEE 1588 messages -/

/-- An IEEE 1588 message in a frame: the place of its header in the frame's body, its message type and domain, whether its
destination is one that R410 names, and the transport: 0 IEEE 802.3, 4 UDP/IPv4, 6 UDP/IPv6. -/
structure PtpAt where
  off : Nat
  kind : Nat
  domain : Nat
  known : Bool
  transport : Nat
deriving DecidableEq, Repr

def ptpHeader (b : List Nat) (off : Nat) (known : Bool) (transport : Nat) : Option PtpAt :=
  some ⟨off, oct b off % 16, oct b (off + 4), known, transport⟩

def ptpUdpPort (p : Nat) : Bool := p == 319 || p == 320

/-- Find the message (R410). -/
def EthFrame.ptp (f : EthFrame) : Option PtpAt :=
  let b := f.body
  let h := 2 + oct b 2 % 16 * 4
  if f.etherType = 0x88F7 then ptpHeader b 2 (f.dst == 0x011B19000000 || f.dst == 0x0180C200000E) 0
  else if f.etherType = 0x0800 ∧ oct b 2 / 16 = 4 ∧ oct b 11 = 17 ∧ beN b 8 2 % 0x4000 = 0 ∧ ptpUdpPort (beN b (h + 2) 2) then
    ptpHeader b (h + 8) (beN b 18 4 == 0xE0000181) 4
  else if f.etherType = 0x86DD ∧ oct b 8 = 17 ∧ ptpUdpPort (beN b 44 2) then
    ptpHeader b 50 (beN b 26 16 == 0xFF0E0000000000000000000000000181) 6
  else none

/-- The bit of TIM_PTP_XPORT.TRANSPORT for a message's transport: IEEE 802.3, UDP/IPv4, UDP/IPv6 (R410, R430). -/
def PtpAt.xport (m : PtpAt) : Nat := m.transport / 4 + m.transport / 6

/-- An event message: Sync, Delay_Req and the two of the peer delay mechanism (IEEE 1588-2019). -/
def EthFrame.ptpEvent (f : EthFrame) : Bool :=
  match f.ptp with
  | some m => m.kind < 4
  | none => false

/-- The messages that the engine supports: Sync, Delay_Req, Follow_Up, Delay_Resp, Announce (R410). -/
def ptpSupported (kind : Nat) : Bool := [0, 1, 8, 9, 11].contains kind

/-! ### Checksums (R396) -/

/-- Addition in ones' complement of 16 bits. -/
def ocAdd (a b : Nat) : Nat := if a + b < 65536 then a + b else a + b - 65535

/-- The ones' complement sum of octets as 16-bit words, the last one filled with a zero octet. -/
def ocSum : List Nat → Nat
  | [] => 0
  | [a] => a % 256 * 256
  | a :: b :: t => ocAdd (a % 256 * 256 + b % 256) (ocSum t)

/-- The complement. -/
def ocNot (a : Nat) : Nat := 65535 - a % 65536

/-- Add residence time to the correctionField, and settle the UDP checksum (R413). -/
def EthFrame.correct (f : EthFrame) (ns : Int) : EthFrame :=
  match f.ptp with
  | none => f
  | some m =>
    let old := (f.body.drop (m.off + 8)).take 8
    let new := beOctets 8 (codeOf 64 (signed 64 (beN f.body (m.off + 8) 8) + ns * 65536))
    let b := patch f.body (m.off + 8) new
    let c := ocNot (ocAdd (ocAdd (ocNot (beN f.body (m.off - 2) 2)) (ocNot (ocSum old))) (ocSum new))
    if m.transport = 4 then { f with body := patch b (m.off - 2) [0, 0] }
    else if m.transport = 6 then { f with body := patch b (m.off - 2) (beOctets 2 (if c = 0 then 65535 else c)) }
    else { f with body := b }

/-- What HDM finds of an IPv4 or IPv6 packet in a frame: the place and length of its IPv4 header, and its UDP or TCP segment:
protocol, place, length and the sum of the pseudo-header's addresses; none where L4 is not checked. -/
structure IpInfo where
  v4Header : Option Nat
  l4 : Option (Nat × Nat × Nat × Nat)
deriving DecidableEq, Repr

/-- Skip at most `n` IPv6 extension headers (hop-by-hop, routing, destination options) of at most `room` octets: the protocol
and the place behind them. -/
def skipExt (b : List Nat) (next off room : Nat) : Nat → Option (Nat × Nat)
  | 0 => if next = 0 ∨ next = 43 ∨ next = 60 then none else some (next, off)
  | n + 1 =>
    if next = 0 ∨ next = 43 ∨ next = 60 then
      let len := 8 + 8 * oct b (off + 1)
      if room < len then none else skipExt b (oct b off) (off + len) (room - len) n
    else some (next, off)

/-- A UDP or TCP segment that lies whole in the body. -/
def segment (b : List Nat) (proto off len addrs : Nat) : Option (Nat × Nat × Nat × Nat) :=
  if (proto = 17 ∧ 8 ≤ len ∨ proto = 6 ∧ 20 ≤ len) ∧ off + len ≤ b.length then some (proto, off, len, addrs) else none

/-- Parse a frame with no tag or one tag (R396). -/
def EthFrame.ip (f : EthFrame) : IpInfo :=
  let b := f.body
  let h := oct b 2 % 16 * 4
  if f.etherType = 0x0800 ∧ oct b 2 / 16 = 4 ∧ 20 ≤ h ∧ h ≤ beN b 4 2 ∧ 2 + h ≤ b.length then
    ⟨some h, if beN b 8 2 % 0x4000 = 0 then segment b (oct b 11) (2 + h) (beN b 4 2 - h) (ocSum ((b.drop 14).take 8)) else none⟩
  else if f.etherType = 0x86DD ∧ oct b 2 / 16 = 6 ∧ 42 ≤ b.length then
    match skipExt b (oct b 8) 42 128 2 with
    | some (p, off) => ⟨none, segment b p off (beN b 6 2 + 42 - off) (ocSum ((b.drop 10).take 32))⟩
    | none => ⟨none, none⟩
  else ⟨none, none⟩

/-- The place of the checksum in a segment. -/
def l4Place (proto off : Nat) : Nat := if proto = 17 then off + 6 else off + 16

/-- The sum of pseudo-header and segment. -/
def l4Sum (b : List Nat) (proto off len addrs : Nat) : Nat :=
  ocAdd (ocAdd addrs (ocAdd proto (len % 65536))) (ocSum ((b.drop off).take len))

/-- Insert the IPv4 header checksum (R396). -/
def EthFrame.insertIp (f : EthFrame) : EthFrame :=
  match f.ip.v4Header with
  | some h =>
    let b := patch f.body 12 [0, 0]
    { f with body := patch b 12 (beOctets 2 (ocNot (ocSum ((b.drop 2).take h)))) }
  | none => f

/-- Insert the UDP or TCP checksum; a UDP checksum that computes to 0 is inserted as 0xFFFF (R396). -/
def EthFrame.insertL4 (f : EthFrame) : EthFrame :=
  match f.ip.l4 with
  | some (p, off, len, addrs) =>
    let b := patch f.body (l4Place p off) [0, 0]
    let c := ocNot (l4Sum b p off len addrs)
    { f with body := patch b (l4Place p off) (beOctets 2 (if p = 17 ∧ c = 0 then 65535 else c)) }
  | none => f

/-- The received frame's checksum bits: IP_OK, IP_BAD, L4_OK, L4_BAD, L4_NA from bit 0 on (R395, R396). -/
def EthFrame.checks (f : EthFrame) : Nat :=
  let ip := match f.ip.v4Header with
    | some h => if ocSum ((f.body.drop 2).take h) = 65535 then 1 else 2
    | none => 0
  let l4 := match f.ip.l4 with
    | some (p, off, len, addrs) =>
      if p = 17 ∧ beN f.body (off + 6) 2 = 0 then (if f.ip.v4Header.isSome then 4 else 8)
      else if l4Sum f.body p off len addrs = 65535 then 4 else 8
    | none => 16
  ip + l4

end Sys2Proof
end

