-- ==== Sys2Proof/Machine/Aes.lean ====
section
/-! DEFINITION. AES-128 (FIPS 197), AES-CMAC (RFC 4493) and the AES key wrap (RFC 3394), as the rules of the mesh keys use them (R222,
R223, R486). The standards are named by the spec and not restated by it: PRESUMED, log entry 144. Keys, blocks and messages are octets in
the standards' order. -/

namespace Sys2Proof.Machine

/-! ### The field of 256 elements -/

/-- Multiply by x modulo x⁸ + x⁴ + x³ + x + 1. -/
def gfTimesX (a : Nat) : Nat := if a < 128 then 2 * a else Nat.xor (2 * a - 256) 0x1B

/-- Product of two elements, by the bits of the second from bit n - 1 down. -/
def gfProduct (a b : Nat) : Nat → Nat
  | 0 => 0
  | n + 1 => Nat.xor (gfTimesX (gfProduct a (b / 2) n)) (if b % 2 = 1 then a else 0)

def gfMul (a b : Nat) : Nat := gfProduct a b 8

/-- The product of the squares a², a⁴ and so on, n of them. -/
def gfSquares (a : Nat) : Nat → Nat
  | 0 => 1
  | n + 1 => let q := gfMul a a; gfMul q (gfSquares q n)

/-- The inverse, which is the 254th power; 0 for 0. -/
def gfInv (a : Nat) : Nat := gfSquares a 7

/-- Rotate an octet left. -/
def rotl8 (a n : Nat) : Nat := a * 2 ^ n % 256 + a / 2 ^ (8 - n)

/-- The substitution of an octet. -/
def subOctet (a : Nat) : Nat :=
  let b := gfInv a
  [1, 2, 3, 4].foldl (fun acc n => Nat.xor acc (rotl8 b n)) (Nat.xor b 0x63)

/-! ### The cipher -/

def xorOctets (a b : List Nat) : List Nat := List.zipWith Nat.xor a b

/-- Four words of the schedule from the four before: `t` is what the first of them takes. -/
def expandKey (k t : List Nat) : List Nat :=
  let w0 := xorOctets (k.take 4) t
  let w1 := xorOctets ((k.drop 4).take 4) w0
  let w2 := xorOctets ((k.drop 8).take 4) w1
  w0 ++ w1 ++ w2 ++ xorOctets (k.drop 12) w2

/-- The last word of a round's key, rotated and substituted, with the constant `rc`. -/
def keyCore (rc : Nat) (k : List Nat) : List Nat :=
  let last := k.drop 12
  xorOctets ((last.drop 1 ++ last.take 1).map subOctet) [rc, 0, 0, 0]

/-- The next round's key from a round's: its constant is `rc`. -/
def nextRoundKey (rc : Nat) (k : List Nat) : List Nat := expandKey k (keyCore rc k)

/-- Row r of the state, rotated left by r places. -/
def shiftRows (b : List Nat) : List Nat := (List.range 16).map fun i => b.getD ((i + 4 * (i % 4)) % 16) 0

/-- Octet i of a column's mixture. -/
def mixOctet (col : List Nat) (i : Nat) : Nat :=
  let at_ := fun k => col.getD ((i + k) % 4) 0
  Nat.xor (Nat.xor (gfTimesX (at_ 0)) (Nat.xor (gfTimesX (at_ 1)) (at_ 1))) (Nat.xor (at_ 2) (at_ 3))

def mixColumns (b : List Nat) : List Nat :=
  (List.range 16).map fun i => mixOctet ((b.drop (4 * (i / 4))).take 4) (i % 4)

/-- The rounds that are left, with the key of the round before and the constant of the next. -/
def aesRounds : Nat → Nat → List Nat → List Nat → List Nat
  | 0, _, _, b => b
  | n + 1, rc, k, b =>
    let k' := nextRoundKey rc k
    let c := shiftRows (b.map subOctet)
    aesRounds n (gfTimesX rc) k' (xorOctets (if n = 0 then c else mixColumns c) k')

/-- AES-128 of a block. -/
def aes (key block : List Nat) : List Nat := aesRounds 10 1 key (xorOctets block key)

/-! ### AES-CMAC -/

/-- Double a block in the field of 2¹²⁸ elements. -/
def dblBlock (b : List Nat) : List Nat :=
  let v := 2 * beN b 0 16
  beOctets 16 (if v < 2 ^ 128 then v else Nat.xor (v - 2 ^ 128) 0x87)

/-- The chain of blocks, the last one masked; `n` bounds their number. -/
def cmacChain (key k1 k2 : List Nat) : Nat → List Nat → List Nat → List Nat
  | 0, acc, _ => acc
  | n + 1, acc, m =>
    if 16 < m.length then cmacChain key k1 k2 n (aes key (xorOctets acc (m.take 16))) (m.drop 16)
    else if m.length = 16 then aes key (xorOctets acc (xorOctets m k1))
    else aes key (xorOctets acc (xorOctets (m ++ 0x80 :: List.replicate (15 - m.length) 0) k2))

/-- AES-CMAC of a message. -/
def cmac (key msg : List Nat) : List Nat :=
  let k1 := dblBlock (aes key (List.replicate 16 0))
  cmacChain key k1 (dblBlock k1) (msg.length / 16 + 1) (List.replicate 16 0) msg

/-! ### The key wrap -/

/-- Step t of the wrap of two semi-blocks: the semi-block of its turn is enciphered with the register A. -/
def wrapStep (kek : List Nat) (st : List Nat × List Nat × List Nat) (t : Nat) : List Nat × List Nat × List Nat :=
  let (a, r1, r2) := st
  let b := aes kek (a ++ (if t % 2 = 1 then r1 else r2))
  let a' := xorOctets (b.take 8) (beOctets 8 t)
  if t % 2 = 1 then (a', b.drop 8, r2) else (a', r1, b.drop 8)

/-- A key of 16 octets wrapped under another: 24 octets (R222). -/
def keyWrap (kek key : List Nat) : List Nat :=
  let (a, r1, r2) := ((List.range 12).map (· + 1)).foldl (wrapStep kek) (List.replicate 8 0xA6, key.take 8, key.drop 8)
  a ++ r1 ++ r2

/-! ### The keys of the mesh -/

/-- A derived working key: AES-CMAC under the class key over LABEL and GEN (R486). Keys are numbers whose octet i is the key's. -/
def derivedKey (parent label gen : Nat) : Nat := ofOctets (cmac (toOctets 16 parent) (toOctets 4 label ++ toOctets 4 gen))

/-- The node's key of index 4: AES-CMAC under the class key over 46 53 50 34 and the extended address, most significant octet first
(R223). -/
def nodeKey (classKey ext : Nat) : Nat := ofOctets (cmac (toOctets 16 classKey) ([0x46, 0x53, 0x50, 0x34] ++ beOctets 8 ext))

end Sys2Proof.Machine
end

