-- ==== Sys2Proof/Machine/Crypto.lean ====
section
/-! DEFINITION. SHA-256 (FIPS 180-4), HMAC-SHA-256 (RFC 2104), the curve P-256 with ECDSA (FIPS 186), AES-256-GCM (SP 800-38D) and the
unwrapping of RFC 3394, as Hardpan and Grog use them (R480, R483, R487, R493, R535, R539). The standards are named by the spec and not
restated by it: PRESUMED, log entry 144. Messages and keys are octets in the standards' order. -/

namespace Sys2Proof.Machine

/-! ### SHA-256 -/

/-- The integer part of a k-th root, its bits from bit n - 1 down. -/
def rootFrom (k v : Nat) : Nat → Nat → Nat
  | 0, acc => acc
  | n + 1, acc => rootFrom k v n (if (acc + 2 ^ n) ^ k ≤ v then acc + 2 ^ n else acc)

/-- The primes below 312: there are 64, and each other number below has a factor below 18. -/
def shaPrimes : List Nat := (List.range 312).filter fun m => 2 ≤ m && (List.range 18).all fun d => d < 2 || m % d != 0 || m == d

/-- The first 32 bits of the fraction of each prime's cube root. -/
def shaConstants : List Nat := shaPrimes.map fun p => rootFrom 3 (p * 2 ^ 96) 36 0 % 2 ^ 32

/-- The first 32 bits of the fraction of the square roots of the first eight primes. -/
def shaStart : List Nat := (shaPrimes.take 8).map fun p => rootFrom 2 (p * 2 ^ 64) 36 0 % 2 ^ 32

/-- Rotate a 32-bit word right. -/
def ror32 (x n : Nat) : Nat := x / 2 ^ n + x % 2 ^ n * 2 ^ (32 - n)

def xor3 (a b c : Nat) : Nat := Nat.xor (Nat.xor a b) c

/-- The message schedule: the words of the window and n - 16 more. -/
def shaSchedule : Nat → List Nat → List Nat
  | 0, _ => []
  | n + 1, w =>
    let at_ := fun i => w.getD i 0
    let lo := xor3 (ror32 (at_ 1) 7) (ror32 (at_ 1) 18) (at_ 1 / 2 ^ 3)
    let hi := xor3 (ror32 (at_ 14) 17) (ror32 (at_ 14) 19) (at_ 14 / 2 ^ 10)
    at_ 0 :: shaSchedule n (w.drop 1 ++ [(at_ 0 + lo + at_ 9 + hi) % 2 ^ 32])

/-- A round on the eight working words with its constant and its schedule word added. -/
def shaRound (v : List Nat) (kw : Nat) : List Nat :=
  let at_ := fun i => v.getD i 0
  let ch := Nat.xor (Nat.land (at_ 4) (at_ 5)) (Nat.land (2 ^ 32 - 1 - at_ 4) (at_ 6))
  let maj := xor3 (Nat.land (at_ 0) (at_ 1)) (Nat.land (at_ 0) (at_ 2)) (Nat.land (at_ 1) (at_ 2))
  let t := at_ 7 + xor3 (ror32 (at_ 4) 6) (ror32 (at_ 4) 11) (ror32 (at_ 4) 25) + ch + kw
  let u := xor3 (ror32 (at_ 0) 2) (ror32 (at_ 0) 13) (ror32 (at_ 0) 22) + maj
  [(t + u) % 2 ^ 32, at_ 0, at_ 1, at_ 2, (at_ 3 + t) % 2 ^ 32, at_ 4, at_ 5, at_ 6]

/-- One block of 64 octets. -/
def shaBlock (h block : List Nat) : List Nat :=
  let w := shaSchedule 64 ((List.range 16).map fun i => beN block (4 * i) 4)
  let v := (List.zipWith (· + ·) shaConstants w).foldl shaRound h
  List.zipWith (fun a b => (a + b) % 2 ^ 32) h v

def shaBlocks : Nat → List Nat → List Nat → List Nat
  | 0, h, _ => h
  | n + 1, h, m => shaBlocks n (shaBlock h (m.take 64)) (m.drop 64)

/-- SHA-256 of octets. -/
def sha256 (m : List Nat) : List Nat :=
  let pad := m ++ 0x80 :: List.replicate ((119 - m.length % 64) % 64) 0 ++ beOctets 8 (8 * m.length)
  (shaBlocks (pad.length / 64) shaStart pad).flatMap (beOctets 4)

/-- HMAC-SHA-256 under a key of at most 64 octets. -/
def hmac (key m : List Nat) : List Nat :=
  let k := key ++ List.replicate (64 - key.length) 0
  sha256 (k.map (Nat.xor 0x5C) ++ sha256 (k.map (Nat.xor 0x36) ++ m))

/-- The octets of an ASCII string. -/
def ascii (t : String) : List Nat := t.toList.map Char.toNat

/-! ### The curve P-256 -/

/-- The field's prime. -/
def fieldP : Nat := 2 ^ 256 - 2 ^ 224 + 2 ^ 192 + 2 ^ 96 - 1

/-- The order of the base point (R480). -/
def orderN : Nat := 2 ^ 256 - 2 ^ 224 + 2 ^ 192 - 0x4319055258E8617B0C46353D039CDAAF

/-- The curve's constant term. -/
def curveB : Nat := 0x5AC635D8AA3A93E7B3EBBD55769886BC651D06B0CC53B0F63BCE3C3E27D2604B

/-- Difference modulo m of two numbers below m. -/
def subMod (m a b : Nat) : Nat := (a + (m - b)) % m

/-- The power by the exponent's n low bits. -/
def powMod (m b : Nat) : Nat → Nat → Nat
  | 0, _ => 1
  | n + 1, e => powMod m b n (e / 2) ^ 2 * (if e % 2 = 1 then b else 1) % m

/-- The inverse modulo a prime. -/
def invMod (m a : Nat) : Nat := powMod m a 256 (m - 2)

/-- A point in Jacobian coordinates: it stands for X / Z², Y / Z³, and for the neutral element where Z is 0. -/
structure EcPoint where
  x : Nat
  y : Nat
  z : Nat
deriving DecidableEq, Repr

/-- The base point. -/
def basePoint : EcPoint :=
  ⟨0x6B17D1F2E12C4247F8BCE6E563A440F277037D812DEB33A0F4A13945D898C296,
   0x4FE342E2FE1A7F9B8EE7EB4A7C0F9E162BCE33576B315ECECBB6406837BF51F5, 1⟩

/-- Twice a point. -/
def EcPoint.double (a : EcPoint) : EcPoint :=
  let q := a.y ^ 2 % fieldP
  let s := 4 * a.x * q % fieldP
  let zz := a.z ^ 2 % fieldP
  let m := 3 * subMod fieldP a.x zz * (a.x + zz) % fieldP
  let x := subMod fieldP (m ^ 2 % fieldP) (2 * s % fieldP)
  ⟨x, subMod fieldP (m * subMod fieldP s x % fieldP) (8 * q ^ 2 % fieldP), 2 * a.y * a.z % fieldP⟩

/-- The sum of two points. -/
def EcPoint.add (a b : EcPoint) : EcPoint :=
  if a.z = 0 then b
  else if b.z = 0 then a
  else
    let u := a.x * b.z ^ 2 % fieldP
    let t := a.y * b.z ^ 3 % fieldP
    let h := subMod fieldP (b.x * a.z ^ 2 % fieldP) u
    let r := subMod fieldP (b.y * a.z ^ 3 % fieldP) t
    if h = 0 then (if r = 0 then a.double else ⟨1, 1, 0⟩)
    else
      let v := u * h ^ 2 % fieldP
      let w := h ^ 3 % fieldP
      let x := subMod fieldP (r ^ 2 % fieldP) ((w + 2 * v) % fieldP)
      ⟨x, subMod fieldP (r * subMod fieldP v x % fieldP) (t * w % fieldP), h * a.z * b.z % fieldP⟩

/-- A multiple of a point by the scalar's n low bits. -/
def EcPoint.times (a : EcPoint) : Nat → Nat → EcPoint
  | 0, _ => ⟨1, 1, 0⟩
  | n + 1, k =>
    let q := (a.times n (k / 2)).double
    if k % 2 = 1 then q.add a else q

/-- The affine coordinates. -/
def EcPoint.affine (a : EcPoint) : Nat × Nat :=
  let i := invMod fieldP a.z
  (a.x * i ^ 2 % fieldP, a.y * i ^ 3 % fieldP)

/-- The octets X ‖ Y of a point. -/
def EcPoint.octets (a : EcPoint) : List Nat := beOctets 32 a.affine.1 ++ beOctets 32 a.affine.2

/-- The point of 64 octets X ‖ Y, where it lies on the curve. -/
def pointOf (b : List Nat) : Option EcPoint :=
  let x := beN b 0 32
  let y := beN b 32 32
  if b.length = 64 ∧ x < fieldP ∧ y < fieldP ∧ (y ^ 2 + 3 * x) % fieldP = (x ^ 3 + curveB) % fieldP then some ⟨x, y, 1⟩ else none

/-- Whether a signature r ‖ s under a public key X ‖ Y is good for a message: ECDSA with SHA-256. -/
def ecdsaGood (pub msg sig : List Nat) : Bool :=
  match pointOf pub with
  | none => false
  | some q =>
    let r := beN sig 0 32
    let t := beN sig 32 32
    let w := invMod orderN t
    let a := (basePoint.times 256 (beN (sha256 msg) 0 32 * w % orderN)).add (q.times 256 (r * w % orderN))
    sig.length == 64 && 0 < r && r < orderN && 0 < t && t < orderN && a.z != 0 && a.affine.1 % orderN == r

/-! ### AES-256-GCM -/

/-- The cipher's rounds with a key of 256 bits: `k` and `k'` are the halves of the schedule, of which `k'` is this round's key. -/
def aes256Rounds : Nat → Bool → Nat → List Nat → List Nat → List Nat → List Nat
  | 0, _, _, _, _, b => b
  | n + 1, even, rc, k, k', b =>
    let c := shiftRows (b.map subOctet)
    let next := expandKey k (if even then keyCore rc k' else (k'.drop 12).map subOctet)
    aes256Rounds n (!even) (if even then gfTimesX rc else rc) k' next (xorOctets (if n = 0 then c else mixColumns c) k')

/-- AES-256 of a block. -/
def aes256 (key block : List Nat) : List Nat :=
  aes256Rounds 14 true 1 (key.take 16) (key.drop 16) (xorOctets block (key.take 16))

/-- Product of two elements of the field of 2¹²⁸ elements in GCM's order of bits: `v` is the second times x to the power of the bits
of the first that are gone. -/
def ghashMul (a : Nat) : Nat → Nat → Nat → Nat
  | 0, _, z => z
  | n + 1, v, z =>
    ghashMul a n (if v % 2 = 1 then Nat.xor (v / 2) (0xE1 * 2 ^ 120) else v / 2) (if a / 2 ^ n % 2 = 1 then Nat.xor z v else z)

/-- The hash of octets in blocks of 16, the last filled with zeros. -/
def ghash (h : Nat) : Nat → Nat → List Nat → Nat
  | 0, y, _ => y
  | n + 1, y, m => ghash h n (ghashMul (Nat.xor y (beN (m.take 16 ++ List.replicate (16 - m.length) 0) 0 16)) 128 h 0) (m.drop 16)

/-- The key stream over a number of blocks. -/
def gcmStream (key nonce : List Nat) (blocks : Nat) : List Nat :=
  (List.range blocks).flatMap fun i => aes256 key (nonce ++ beOctets 4 (i + 2))

/-- The tag over additional data and a ciphertext. -/
def gcmTag (key nonce aad text : List Nat) : List Nat :=
  let h := beN (aes256 key (List.replicate 16 0)) 0 16
  let n := fun (m : List Nat) => (m.length + 15) / 16
  let y := ghash h (n text) (ghash h (n aad) 0 aad) text
  let y := ghash h 1 y (beOctets 8 (8 * aad.length) ++ beOctets 8 (8 * text.length))
  xorOctets (beOctets 16 y) (aes256 key (nonce ++ [0, 0, 0, 1]))

/-- A text under the key stream: sealing and opening are the same. -/
def gcmText (key nonce text : List Nat) : List Nat := xorOctets text (gcmStream key nonce ((text.length + 15) / 16))

/-! ### The unwrapping of RFC 3394 -/

/-- The inverse substitution of an octet. -/
def unsubOctet (a : Nat) : Nat := gfInv (Nat.xor (xor3 (rotl8 a 1) (rotl8 a 3) (rotl8 a 6)) 5)

def unshiftRows (b : List Nat) : List Nat := (List.range 16).map fun i => b.getD ((i + 12 * (i % 4)) % 16) 0

/-- The inverse of the mixing of columns, which is its third power. -/
def unmixColumns (b : List Nat) : List Nat := mixColumns (mixColumns (mixColumns b))

/-- The round keys of AES-128, the last first. -/
def keysBack : Nat → Nat → List Nat → List (List Nat) → List (List Nat)
  | 0, _, k, l => k :: l
  | n + 1, rc, k, l => keysBack n (gfTimesX rc) (nextRoundKey rc k) (k :: l)

/-- AES-128 backwards, with the round keys that are left; the first of them has been added. -/
def unaesRounds : List (List Nat) → List Nat → List Nat
  | [], b => b
  | [k], b => xorOctets ((unshiftRows b).map unsubOctet) k
  | k :: t, b => unaesRounds t (unmixColumns (xorOctets ((unshiftRows b).map unsubOctet) k))

/-- The block that AES-128 enciphers to a block. -/
def unaes (key block : List Nat) : List Nat :=
  match keysBack 10 1 key [] with
  | k :: t => unaesRounds t (xorOctets block k)
  | [] => block

/-- Step t of the unwrapping, the steps counted down. -/
def unwrapStep (kek : List Nat) (st : List Nat × List Nat × List Nat) (t : Nat) : List Nat × List Nat × List Nat :=
  let (a, r1, r2) := st
  let b := unaes kek (xorOctets a (beOctets 8 t) ++ (if t % 2 = 1 then r1 else r2))
  if t % 2 = 1 then (b.take 8, b.drop 8, r2) else (b.take 8, r1, b.drop 8)

/-- The key wrapped in 24 octets, where the check value is right. -/
def keyUnwrap (kek c : List Nat) : Option (List Nat) :=
  let (a, r1, r2) := ((List.range 12).map (12 - ·)).foldl (unwrapStep kek) (c.take 8, (c.drop 8).take 8, c.drop 16)
  if c.length = 24 ∧ a = List.replicate 8 0xA6 then some (r1 ++ r2) else none

end Sys2Proof.Machine
end

