-- ==== Sys2Proof/Machine/Hpn.lean ====
section
/-! DEFINITION. Hardpan: key slots, key operations, life-cycle tokens and their results (R478 to R496, R504, R505). A key
is a number whose octet i is the key's; no port can read one. -/

namespace Sys2Proof.Machine

/-! ### Slots (R482 to R485) -/

def State.slot (s : State) (n : Nat) : Option KeySlot := Sparse.get s.hpn.slots n

/-- STATE of a slot; one that is not listed is EMPTY. -/
def State.slotState (s : State) (n : Nat) : Nat := ((s.slot n).map KeySlot.state).getD 0

/-- The slots change; HPN_STATUS shows how many are VALID and BAD. -/
def State.setSlots (s : State) (l : List (Nat × KeySlot)) : State :=
  { s with hpn := { s.hpn with slots := l } }.wrAll
    [(HPN_STATUS_VALID, (l.filter fun (p : Nat × KeySlot) => p.2.state == 1).length),
     (HPN_STATUS_BAD, (l.filter fun (p : Nat × KeySlot) => p.2.state == 3).length)]

/-- Whether a slot is a VALID CLASS slot with DERIVE_PARENT (R485). -/
def State.parentOk (s : State) (n : Nat) : Bool :=
  match s.slot n with
  | some k => k.state == 1 && k.cls == 1 && bitAt k.uses 3
  | none => false

/-- Whether Hardpan offers a slot's key of a class for a use: KS is held and the slot is VALID (R181, R485). -/
def State.keyGood (s : State) (n cls use : Nat) : Bool :=
  match s.slot n with
  | some k => s.rdB HPN_STATUS_READY && k.state == 1 && k.cls == cls && bitAt k.uses use
  | none => false

/-- The key of a slot in the key island, 0 where none is held (R481). -/
def State.keyOf (s : State) (n : Nat) : Nat := ((s.hpn.island.bind fun i => Sparse.get i.keys n)).getD 0

/-- The island takes or loses the key of a slot. -/
def State.setIsland (s : State) (f : List (Nat × Nat) → List (Nat × Nat)) : State :=
  { s with hpn := { s.hpn with island := s.hpn.island.map fun i => { i with keys := f i.keys } } }

/-! ### What the MAC learns of a change of keys (R182, R489) -/

/-- Host software has replaced the key of an index 1 to 3. Once MAC_TX_FC stands at its end and all three keys have been replaced,
the counter begins again at 0 (R182); replacements made before it stands there do not count: DESIGN CHOICE, log entry 188. -/
def State.keyReplaced (s : State) (index : Nat) : State :=
  if s.rd MAC_TX_FC ≠ 0xFFFFFFFF ∨ s.mac.keysNew.contains index then s
  else
    let l := index :: s.mac.keysNew
    if l.length = 3 then { s with mac := { s.mac with keysNew := [] } }.wr MAC_TX_FC 0
    else { s with mac := { s.mac with keysNew := l } }

/-- The key indices whose keys a Hardpan slot holds (R181). -/
def State.indicesOf (s : State) (slot : Nat) : List Nat :=
  (if s.rd MAC_KEY_JOIN = slot then [1] else []) ++ (if s.rd MAC_KEY_NET2 = slot then [2] else []) ++
  (if s.rd MAC_KEY_NET3 = slot then [3] else [])

/-- A Hardpan slot has taken a new key (R182, R489). -/
def State.slotRekeyed (s : State) (slot : Nat) : State := (s.indicesOf slot).foldl State.keyReplaced s

/-- The uses that a class allows (R485). -/
def usesOf (cls : Nat) : Nat := if cls = 1 then 0x18 else if cls = 2 then 0x07 else if cls = 3 then 0x03 else if cls = 4 then 0x20 else 0

/-- Whether a class allows the uses asked for. -/
def usesAllowed (cls uses : Nat) : Bool := 1 ≤ cls && cls ≤ 4 && uses &&& usesOf cls == uses

/-- The header of a slot's record (R482): octets 0 to 31. -/
def KeySlot.header (k : KeySlot) : List Nat :=
  [k.state, k.cls, k.parent, 0] ++ toOctets 2 k.uses ++ [0, 0] ++ toOctets 4 k.gen ++ toOctets 4 k.label ++ toOctets 4 k.lcCount ++
  toOctets 4 k.sealedAt ++ List.replicate 8 0

/-- The nonce of slot n's record: its number, three zero octets and the seal counter (R482). -/
def KeySlot.nonceOctets (k : KeySlot) (n : Nat) : List Nat := [n, 0, 0, 0] ++ toOctets 8 k.nonce

/-- What the tag authenticates: the header as it is while the slot is VALID, since ORPHANED keeps the seal. DEDUCED, log entry 150. -/
def KeySlot.aad (k : KeySlot) : List Nat := { k with state := 1 }.header

/-- The octets of a class's key: a point of P-256 for VERIFY, else a key of AES-128 (R482, R485). -/
def keySize (cls : Nat) : Nat := if cls = 4 then 64 else 16

/-- Slot n's record with a key sealed in it under KS by AES-256-GCM (R483). -/
def KeySlot.seal (k : KeySlot) (ks : List Nat) (n key : Nat) : KeySlot :=
  let text := gcmText ks (k.nonceOctets n) (toOctets (keySize k.cls) key)
  { k with body := text, tag := gcmTag ks (k.nonceOctets n) k.aad text }

/-- The key of slot n's record, where its tag passes under KS (R484). -/
def KeySlot.unseal (k : KeySlot) (ks : List Nat) (n : Nat) : Option Nat :=
  if gcmTag ks (k.nonceOctets n) k.aad k.body = k.tag then some (ofOctets (gcmText ks (k.nonceOctets n) k.body)) else none

/-- The octets of KS; none are held once the island is zeroised. -/
def State.sealing (s : State) : List Nat := (s.hpn.island.map KeyIsland.ks).getD []

/-- Seal a key into a slot (R483): it enters the island. -/
def State.sealKey (s : State) (n cls parent uses gen label key : Nat) : State :=
  let s : State := { s with hpn := { s.hpn with sealCount := s.hpn.sealCount + 1 } }
  let k : KeySlot := ⟨1, cls, parent, uses, gen, label, s.rd HPN_LC_COUNT, s.calNow.secs % 2 ^ 32, s.hpn.sealCount, [], []⟩
  ((s.setSlots (Sparse.insert s.hpn.slots n (k.seal s.sealing n key))).setIsland fun l => Sparse.insert l n key).slotRekeyed n

/-- A CLASS slot has left VALID: its VALID children become ORPHANED (R491). -/
def State.orphan (s : State) (n : Nat) : State :=
  let child := fun (k : KeySlot) => k.state == 1 && k.parent == n && (k.cls == 2 || k.cls == 3)
  if s.hpn.slots.any fun p => child p.2 then
    (s.setSlots (s.hpn.slots.map fun p => if child p.2 then (p.1, { p.2 with state := 2 }) else p)).notice HPN_NOTE_ORPHAN
  else s

/-- Slot n leaves its state: its key leaves the island, and a VALID CLASS slot's children follow (R489, R491). -/
def State.leaveSlot (s : State) (n : Nat) (l : List (Nat × KeySlot)) : State :=
  let was := match s.slot n with
    | some k => k.state == 1 && k.cls == 1
    | none => false
  let s := (s.setSlots l).setIsland fun l => Sparse.erase l n
  if was then s.orphan n else s

/-- A slot fails its tag or its symbol code, an EMPTY one included (R484); a BAD one stays so. -/
def State.badSlot (s : State) (n : Nat) : State :=
  if s.slotState n = 3 then s
  else
    let k := (s.slot n).getD ⟨0, 0, 0, 0, 0, 0, 0, 0, 0, [], []⟩
    ((((s.leaveSlot n (Sparse.insert s.hpn.slots n { k with state := 3 })).count HPN_BAD 1).notice HPN_NOTE_BAD_SLOT).silt 0x1C01 n)

/-- Every slot is overwritten as EMPTY (R124, R501). -/
def State.eraseSlots (s : State) : State := (s.setSlots []).setIsland fun _ => []

/-- One octet of the read-only window (R504). -/
def State.hpnByte (s : State) (off : Nat) : Nat :=
  if off < 0x800 then
    match s.slot (off / 32) with
    | none => 0
    | some k => k.header.getD (off % 32) 0
  else if off < 0x840 then s.hpn.xport.getD (off - 0x800) 0
  else if off < 0x880 then octet (s.hpn.anchor.getD 0) (off - 0x840)
  else 0

/-! ### Requests and results (R487, R488) -/

/-- A request of queue D2 as octets. -/
structure KeyRequest where
  kind : Nat
  tag : Nat
  slot : Nat
  parent : Nat
  cls : Nat
  uses : Nat
  label : Nat
  data : List Nat
deriving DecidableEq, Repr

/-- Read a request from a packet. -/
def requestOf (p : Packet) : KeyRequest :=
  let b := (p.words.flatMap (toOctets 4)).take (4 * p.words.length - p.pad)
  ⟨p.kind, ofOctets (b.take 2), b.getD 2 0, b.getD 3 0, b.getD 4 0, ofOctets ((b.drop 6).take 2), ofOctets ((b.drop 8).take 4),
   b.drop 12⟩

/-- A result packet (R488, R490): a refusal is counted and named in HPN_ERR. -/
def State.keyResult (s : State) (kind tag slot result : Nat) : State :=
  let k := s.slot slot
  let s := if result = 0 then s.count HPN_OPS 1
    else ((s.count HPN_REFUSED 1).wrAll [(HPN_ERR_SLOT, slot), (HPN_ERR_REASON, result)]).notice HPN_NOTE_REFUSED
  (s.slqPush 6 kind 3
    [tag % 2 ^ 16 + 2 ^ 16 * (slot % 256) + 2 ^ 24 * result, (k.map KeySlot.state).getD 0 + 2 ^ 8 * (k.map KeySlot.cls).getD 0,
     (k.map KeySlot.gen).getD 0]).notice HPN_NOTE_DONE

/-- Whether the life cycle allows a key operation: in PROVISIONED all of them, in DEPLOYED all but the loads of CLASS,
NETWORK and JOIN keys (R123, R485). -/
def State.lifeAllows (s : State) (load : Bool) (cls : Nat) : Bool :=
  match s.modes.life with
  | .provisioned => true
  | .deployed => !load || cls == 4
  | _ => false

/-- A working key's parent (R485, R489). -/
def hasParent (cls : Nat) : Bool := cls == 2 || cls == 3

/-- The octets of SYS_SERIAL as the keys and tokens hold them (R487). -/
def State.serialOctets (s : State) : List Nat := toOctets 8 s.serial

/-- The wrapping key of a LOAD: from the ECDH of the transport key and the ephemeral point (R487). -/
def State.loadKek (s : State) (eph : List Nat) : Option (List Nat) :=
  match s.hpn.island, pointOf eph with
  | some i, some q => some ((hmac (beOctets 32 (q.times 256 i.d).affine.1) (ascii "FSC8-XPORT" ++ s.serialOctets)).take 16)
  | _, _ => none

/-- A key of AES-128 that comes wrapped under the key that an ephemeral point gives (R487). -/
def State.unwrapped (s : State) (eph wrapped : List Nat) : Option Nat :=
  ((s.loadKek eph).bind fun kek => keyUnwrap kek wrapped).map ofOctets

/-- Whether the owner anchor has signed (R487, R494). -/
def State.anchorSigned (s : State) (msg sig : List Nat) : Bool :=
  match s.hpn.anchor with
  | some a => ecdsaGood (toOctets 64 a) msg sig
  | none => false

/-- The key that a LOAD brings: a VERIFY key signed by the owner anchor, or a key unwrapped; none where the check fails (R487). -/
def State.loadedKey (s : State) (r : KeyRequest) : Option Nat :=
  if r.cls = 4 then
    if s.anchorSigned (s.serialOctets ++ [r.slot] ++ r.data.take 64) (r.data.drop 64) then some (ofOctets (r.data.take 64)) else none
  else s.unwrapped (r.data.take 64) (r.data.drop 64)

/-- The result code of a LOAD: 0 lets it act. -/
def State.loadCode (s : State) (r : KeyRequest) : Nat :=
  if 64 ≤ r.slot ∨ r.data.length ≠ (if r.cls = 4 then 128 else 88) then 8
  else if !s.lifeAllows true r.cls then 1
  else if !usesAllowed r.cls r.uses then 6
  else if s.slotState r.slot ≠ 0 then 3
  else if hasParent r.cls && !s.parentOk r.parent then 4
  else if (s.loadedKey r).isNone then 5
  else 0

/-- The result code of a DERIVE. -/
def State.deriveCode (s : State) (r : KeyRequest) : Nat :=
  if 64 ≤ r.slot then 8
  else if !s.lifeAllows false r.cls then 1
  else if !hasParent r.cls || !usesAllowed r.cls r.uses then 6
  else if s.slotState r.slot ≠ 0 then 3
  else if !s.parentOk r.parent then 4
  else 0

/-- The result code of a ROTATE: an ORPHANED slot is taken when its parent stands again (R491). -/
def State.rotateCode (s : State) (r : KeyRequest) : Nat :=
  if 64 ≤ r.slot then 8
  else if !s.lifeAllows false 2 then 1
  else
    match s.slot r.slot with
    | none => 3
    | some k =>
      if k.state ≠ 1 ∧ k.state ≠ 2 then 3
      else if !hasParent k.cls then 6
      else if 0xFFFFFFFF ≤ k.gen then 3
      else if !s.parentOk k.parent then 4
      else 0

/-- The effect of a granted operation (R489). -/
def State.keyEffect (s : State) (r : KeyRequest) : State :=
  if r.kind = 1 then
    s.sealKey r.slot r.cls (if hasParent r.cls then r.parent else 0xFF) r.uses 0 r.label ((s.loadedKey r).getD 0)
  else if r.kind = 2 then s.sealKey r.slot r.cls r.parent r.uses 0 r.label (derivedKey (s.keyOf r.parent) r.label 0)
  else if r.kind = 3 then
    match s.slot r.slot with
    | some k =>
      s.sealKey r.slot k.cls k.parent k.uses (k.gen + 1) k.label (derivedKey (s.keyOf k.parent) k.label (k.gen + 1))
    | none => s
  else if r.kind = 4 then s.leaveSlot r.slot (Sparse.erase s.hpn.slots r.slot)
  else s

/-- The code of a key operation; a request of no known kind is malformed. -/
def State.keyCode (s : State) (r : KeyRequest) : Nat :=
  if r.kind = 1 then s.loadCode r
  else if r.kind = 2 then s.deriveCode r
  else if r.kind = 3 then s.rotateCode r
  else if r.kind = 4 ∨ r.kind = 6 then (if 64 ≤ r.slot then 8 else if s.lifeAllows false 2 then 0 else 1)
  else 8

/-- Whether a life-cycle request waits for the decision step; Hardpan takes requests one at a time (R493). -/
def State.lcWaits (s : State) : Bool :=
  s.modeReqs.any fun q => match q.value with
    | .life _ => true
    | _ => false

/-- Hardpan takes the first request of D2 when its KIND is the command's (R487 to R490). Key operations wait while an SPR slice runs
(R523). -/
def State.hpnTake (s : State) (mine : Nat → Bool) (k : State → KeyRequest → State) : State :=
  if s.lcWaits || s.isolated 0x06 then s
  else
    match s.slqTake 2 with
    | none => s
    | some (p, s') =>
      if !mine p.kind then s
      else
        let r := requestOf p
        if !s.rdB HPN_STATUS_READY || !s.rdB HPN_CTRL_EN then s'.keyResult r.kind r.tag r.slot 2 else k s' r

/-- A key operation. -/
def State.keyOperation (s : State) (r : KeyRequest) : State :=
  let code := s.keyCode r
  (if code = 0 then s.keyEffect r else s).keyResult r.kind r.tag r.slot code

/-! ### Life-cycle tokens (R493 to R495) -/

/-- The life-cycle state of a code. -/
def lifeOf (n : Nat) : Option Life :=
  if n = 0 then some .blank else if n = 1 then some .provisioned else if n = 2 then some .deployed
  else if n = 3 then some .returned else if n = 4 then some .scrapped else none

/-- The transitions of R122. -/
def lifeStep (a b : Life) : Bool :=
  match a, b with
  | .blank, .provisioned => true
  | .blank, .scrapped => true
  | .provisioned, .deployed => true
  | .provisioned, .scrapped => true
  | .deployed, .returned => true
  | .deployed, .scrapped => true
  | .returned, .provisioned => true
  | .returned, .scrapped => true
  | _, _ => false

/-- Whether the vendor key has signed (R494). -/
def vendorSigned (msg sig : List Nat) : Bool := ecdsaGood (toOctets 64 Config.vendorKey) msg sig

/-- Whether a transition's signer has signed a token's first 64 octets (R493, R494). -/
def State.signedBy (s : State) (a b : Life) (msg sig : List Nat) : Bool :=
  match a, b with
  | .blank, _ => vendorSigned msg sig
  | .returned, .provisioned => vendorSigned msg sig
  | _, .scrapped => vendorSigned msg sig || s.anchorSigned msg sig
  | _, _ => s.anchorSigned msg sig

/-- Whether DIGEST is the payload's: SHA-256, or zeros where there is none (R493). -/
def digestGood (d payload : List Nat) : Bool := d == if payload.isEmpty then List.replicate 32 0 else sha256 payload

/-- The octets of a bundle's entries fit its length (R496). -/
def bundleOk (l : List Nat) : Bool := 65 ≤ l.length && 1 ≤ l.getD 64 0 && l.getD 64 0 ≤ 32 && l.length == 65 + 32 * l.getD 64 0

/-- Whether a transition's payload has the form of R494. -/
def payloadOk (a b : Life) (l : List Nat) : Bool :=
  match a, b with
  | .blank, .provisioned => l.length == 64
  | .returned, .provisioned => l.length == 64
  | .provisioned, .deployed => bundleOk l
  | _, _ => l.isEmpty

/-- The nonce of the next token (R493). -/
def State.newNonce (s : State) : State :=
  let (n, s) := s.draw
  (s.wr HPN_LC_NONCE_LO n).wr HPN_LC_NONCE_HI (n / 2 ^ 32)

/-- The result code of a token's checks, and the state it asks for (R493 to R495). -/
def State.tokenCheck (s : State) (d : List Nat) : Nat × Life :=
  let num := fun (o n : Nat) => ofOctets ((d.drop o).take n)
  let payload := d.drop 128
  if d.length < 128 ∨ num 0 4 ≠ 0x3154434C ∨ num 4 8 ≠ s.serial ∨ num 12 4 ≠ s.rd HPN_LC_COUNT ∨
      num 16 1 ≠ s.modes.life.code ∨ num 20 8 ≠ s.rd HPN_LC_NONCE_LO + 2 ^ 32 * s.rd HPN_LC_NONCE_HI ∨
      num 28 4 ≠ payload.length ∨ 4096 < payload.length ∨ !digestGood ((d.drop 32).take 32) payload then (8, s.modes.life)
  else
  match lifeOf (num 17 1) with
  | none => (1, s.modes.life)
  | some to_ =>
    if !lifeStep s.modes.life to_ then (1, to_)
    else if !payloadOk s.modes.life to_ payload then (8, to_)
    else if !s.signedBy s.modes.life to_ (d.take 64) ((d.drop 64).take 64) then (5, to_)
    else (0, to_)

/-- The result of a life-cycle request (R493). -/
def State.lcResult (s : State) (tag slot result : Nat) : State :=
  ((s.wr HPN_LC_STAT_RESULT result).notice HPN_NOTE_LC_RESULT).keyResult 5 tag slot result

/-- A life-cycle request: a token that passes goes to the decision step (R493), and so does one that asks for a transition outside R122,
which the step refuses; a TO that codes no state is refused in the same way (R34, R122). -/
def State.lcRequest (s : State) (r : KeyRequest) : State :=
  let (code, to_) := s.tokenCheck r.data
  let s := s.newNonce
  if code = 1 then
    match lifeOf (r.data.getD 17 0) with
    | some v => { s with hpn := { s.hpn with payload := [] } }.request ⟨.life v, r.tag, r.slot⟩
    | none => (s.refuseCode 1 1 (r.data.getD 17 0)).lcResult r.tag r.slot 1
  else if code ≠ 0 then s.lcResult r.tag r.slot code
  else { s with hpn := { s.hpn with payload := r.data.drop 128 } }.request ⟨.life to_, r.tag, r.slot⟩

/-! ### Aborts, the key island and life-cycle changes (R124, R481, R492, R501) -/

/-- The check value of a root: the first 16 octets of HMAC-SHA-256(root, "CHECK") (R478). -/
def rootCheck (root : Nat) : List Nat := (hmac (toOctets 32 root) (ascii "CHECK")).take 16

/-- The helper data and the check value that the first start in BLANK writes (R478). -/
def enrolled : HelperData := ⟨[Config.helperData, Config.helperData], rootCheck Config.root⟩

/-- The root that the region gives, `flips` of whose bits differ, corrected with a copy of the helper data: up to 2,500 bits (R479). -/
def regionRoot (helper flips : Nat) : Option Nat := if helper = Config.helperData ∧ flips ≤ 2500 then some Config.root else none

/-- What a start finds with the helper data (R479): the number of the first copy that passes its symbol code, and the root where its
check agrees with the stored one. -/
def HelperData.recover (h : HelperData) (bad : List Nat) (flips : Nat) : Option (Nat × Nat) :=
  match (List.range 2).find? fun i => !bad.contains i with
  | none => none
  | some i => ((regionRoot (h.copies.getD i 0) flips).filter fun r => rootCheck r == h.check).map fun r => (i, r)

/-- The secrets that the root gives (R480): KS and the transport private key; the public key is published. -/
def State.deriveSecrets (s : State) (number : Nat) : State :=
  let root := toOctets 32 number
  let d := beN (hmac root (ascii "XPORT")) 0 32 % (orderN - 1) + 1
  let ks := hmac root (ascii "SEAL" ++ [s.modes.life.code] ++ toOctets 4 (s.rd HPN_LC_COUNT))
  { s with hpn := { s.hpn with island := some ⟨ks, d, []⟩, xport := (basePoint.times 256 d).octets } }

/-- Every word of the key island is overwritten (R481, R501). -/
def State.dropIsland (s : State) : State := { s with hpn := { s.hpn with island := none } }

/-- The island is zeroised: no key is held until the next start; the operation in progress is aborted with result 7 (R501). -/
def State.zeroise (s : State) (busy : Bool) : State :=
  let s := if busy && s.rdB HPN_STATUS_READY && s.rdB HPN_CTRL_EN then
      match s.slqTake 2 with
      | some (p, s') => ((s'.keyResult p.kind (requestOf p).tag (requestOf p).slot 7).count HPN_ABORTED 1).notice HPN_NOTE_ABORT
      | none => s
    else s
  s.dropIsland.wr HPN_STATUS_READY 0

/-- The number of octets little-endian (R494). -/
def anchorOf (l : List Nat) : Nat := ofOctets l

/-- A granted life-cycle change (R124, R494): a request that runs, the first of D2, is aborted with result 7 (R492); the slots are emptied, both copies of the word written, and for SCRAPPED the
helper data and the anchor erased. -/
def State.lifeChange (s : State) (to_ : Life) : State :=
  let from_ := s.modes.life
  let count := (s.rd HPN_LC_COUNT + 1) % 2 ^ 32
  let s := (s.zeroise true).eraseSlots
  let hpn := match from_, to_ with
    | .provisioned, .deployed => { s.hpn with bundle := s.hpn.payload }
    | _, .provisioned => { s.hpn with anchor := some (anchorOf s.hpn.payload) }
    | _, .scrapped => { s.hpn with anchor := none, helper := none }
    | _, _ => s.hpn
  let s : State := { s with
    hpn := { hpn with payload := [] }
    modes := { s.modes with life := to_ }
    startup := { s.startup with lifeCopies := [⟨to_, count, true⟩, ⟨to_, count, true⟩] } }
  let s := (s.wr HPN_LC_COUNT count).wrB HPN_STATUS_BUNDLE (!s.hpn.bundle.isEmpty)
  (s.dptFollow.notice SYS_NOTE_MODE).silt 0x000A from_.code to_.code count

/-! ### Starts (R117, R484, R496) -/

/-- The key of slot n at t8, none where its check fails: its words fail their symbol code, its tag fails under KS, or it was sealed under
another change count (R117, R484). -/
def State.opened (s : State) (bad : List Nat) (n : Nat) (k : KeySlot) : Option Nat :=
  if bad.contains n || k.lcCount != s.rd HPN_LC_COUNT then none else k.unseal s.sealing n

/-- At t8 every slot that is not EMPTY or BAD is unsealed into the island, or becomes BAD; an EMPTY one whose words fail becomes BAD as
well (R484). -/
def State.unsealSlots (s : State) (bad : List Nat) : State :=
  let s := (s.hpn.slots.filter fun p => p.2.state != 3).foldl (fun s p =>
    match s.opened bad p.1 p.2 with
    | some key => s.setIsland fun l => Sparse.insert l p.1 key
    | none => s.badSlot p.1) s
  bad.foldl State.badSlot s

/-- The write of a slot is cut short (R483): the key request at the head of D2 was about to change it. A new slot stays EMPTY, since STATE is
written last; a VALID one under ROTATE keeps a record whose tag fails. -/
def State.slotCut (s : State) : State :=
  match s.slqTake 2 with
  | none => s
  | some (p, _) =>
    let r := requestOf p
    if p.kind ≠ 3 ∨ !s.rdB HPN_STATUS_READY ∨ !s.rdB HPN_CTRL_EN ∨ s.keyCode r ≠ 0 then s
    else
      match s.slot r.slot with
      | some k => s.setSlots (Sparse.insert s.hpn.slots r.slot { k with tag := [] })
      | none => s

/-- A bundle's entry: SLOT, USES, LABEL. -/
def bundleEntry (l : List Nat) (i : Nat) : Nat × Nat × Nat :=
  let e := l.drop (65 + 32 * i)
  (e.getD 0 0, ofOctets ((e.drop 1).take 2), ofOctets ((e.drop 3).take 4))

/-- The key of a bundle's entry, none where its unwrapping fails (R496). -/
def State.bundleKey (s : State) (l : List Nat) (i : Nat) : Option Nat :=
  s.unwrapped (l.take 64) ((l.drop (65 + 32 * i + 8)).take 24)

/-- The bundle is unwrapped at t8 of the first start in DEPLOYED (R496). -/
def State.openBundle (s : State) : State :=
  let l := s.hpn.bundle
  if l.isEmpty || s.modes.life != .deployed then s
  else
    let n := l.getD 64 0
    let slots := (List.range n).map fun i => (bundleEntry l i).1
    let s := (List.range n).foldl (fun s i =>
      let (slot, uses, label) := bundleEntry l i
      match s.bundleKey l i with
      | some key =>
        if slot < 64 ∧ (slots.filter (· == slot)).length = 1 ∧ usesAllowed 1 uses ∧ s.slotState slot = 0 then
          s.sealKey slot 1 0xFF uses 0 label key
        else (s.notice HPN_NOTE_BUNDLE_ERR).silt 0x1C02 slot
      | none => (s.notice HPN_NOTE_BUNDLE_ERR).silt 0x1C02 slot) s
    { s with hpn := { s.hpn with bundle := [] } }.wr HPN_STATUS_BUNDLE 0

/-! ### The commands -/

/-- KEY_LOAD (R489). -/
def execKeyLoad (s : State) : Host.Outcome State Fault Refusal :=
  .next (s.working 0x1C fun s => s.hpnTake (· == 1) fun s r => s.keyOperation r)

/-- KEY_DERIVE (R489). -/
def execKeyDerive (s : State) : Host.Outcome State Fault Refusal :=
  .next (s.working 0x1C fun s => s.hpnTake (· == 2) fun s r => s.keyOperation r)

/-- KEY_ROTATE (R489). -/
def execKeyRotate (s : State) : Host.Outcome State Fault Refusal :=
  .next (s.working 0x1C fun s => s.hpnTake (· == 3) fun s r => s.keyOperation r)

/-- KEY_ERASE (R489). -/
def execKeyErase (s : State) : Host.Outcome State Fault Refusal :=
  .next (s.working 0x1C fun s => s.hpnTake (· == 4) fun s r => s.keyOperation r)

/-- LC_REQUEST (R493). -/
def execLcRequest (s : State) : Host.Outcome State Fault Refusal :=
  .next (s.working 0x1C fun s => s.hpnTake (· == 5) fun s r => s.lcRequest r)

/-- KEY_QUERY (R489), and every request of no known kind. -/
def execKeyQuery (s : State) : Host.Outcome State Fault Refusal :=
  .next (s.working 0x1C fun s => s.hpnTake (fun k => k == 0 || 6 ≤ k) fun s r => s.keyOperation r)

/-- KEY_ISLAND_ERROR (R492). -/
def execKeyIslandError (s : State) : Host.Outcome State Fault Refusal :=
  .next (s.working 0x1C fun s => (s.zeroise false).silt 0x1C03)

end Sys2Proof.Machine
end

