-- ==== Sys2Proof/Machine/GrgBase.lean ====
section
/-! DEFINITION. Grog's images, its progress packets and what node reports tell a campaign (R533 to R536, R549, R552, R553). -/

namespace Sys2Proof.Machine

/-! ### The NOR (R533) -/

/-- The active bank of a processor. -/
def State.activeBank (s : State) (p : Nat) : Nat := s.rd (GRG_BANK_ACTIVE p)

/-- The place of a processor's running image. -/
def State.runPlace (s : State) (p : Nat) : Nat := 2 * p + s.activeBank p

/-- The image that a place holds, verified. -/
def State.image (s : State) (place : Nat) : Option GrgHeader := Sparse.get s.grg.images place

/-- The version in a place; 0 where it is invalid (R553). -/
def State.imageVersion (s : State) (place : Nat) : Nat := ((s.image place).map GrgHeader.version).getD 0

/-- An octet of a place. -/
def State.norOctet (s : State) (place off : Nat) : Nat :=
  match Sparse.get s.grg.nor (4096 * place + off / 4096) with
  | some b => b.getD (off % 4096) 0
  | none => Config.norOctet place off % 256

/-- Octets of a place. -/
def State.norOctets (s : State) (place off n : Nat) : List Nat := (List.range n).map fun i => s.norOctet place (off + i)

/-- The other bank or copy. -/
def otherPlace (place : Nat) : Nat := if place % 2 = 0 then place + 1 else place - 1

/-- The place that a staging for a target writes: a processor's bank that is not active, or the copy of a node type that no
campaign uses, else the one that is not its offer image (R533). -/
def State.targetPlace (s : State) (target : Nat) : Nat :=
  if target < 3 then 2 * target + (1 - s.activeBank target)
  else
    match s.grg.campaign.filter fun c => c.type == target - 0x10 with
    | some c => otherPlace c.place
    | none =>
      6 + 2 * (target - 0x10) +
      match Sparse.get s.grg.offers (target - 0x10) with
      | some c => 1 - c
      | none => 0

/-- Whether any processor carries TRIAL. -/
def State.onTrial (s : State) : Bool := (List.range 3).any fun p => s.rdB (GRG_BANK_TRIAL p)

/-! ### Progress and records (R552) -/

/-- A progress packet to U3, and the event's Silt record. -/
def State.grgEvent (s : State) (event target result param version : Nat) : State :=
  let s := s.slqPush 3 event 3 [event + 2 ^ 8 * target + 2 ^ 16 * result, param % 2 ^ 32, version]
  if event = 1 then s.silt 0x2001
  else if event = 4 then s.silt (if s.rd GRG_STAGE_STAT_STATE = 2 then 0x2002 else 0x2003)
  else if event = 5 then s.silt 0x2004
  else if event = 6 then s.silt 0x2005
  else if event = 8 then s.silt 0x2006
  else s

/-- The Grog axis takes a value. -/
def State.setGrog (s : State) (v : GrogMode) : State :=
  if s.modes.grog = v then s else { s with modes := { s.modes with grog := v } }.notice SYS_NOTE_MODE

/-! ### Campaigns: targets and reports (R549, R553) -/

/-- How many targets have a code. -/
def State.targetsAt (s : State) (code : Nat) : Nat := (s.grg.targets.filter fun t => t.2 == code).length

/-- A pending target takes a code. -/
def State.setTarget (s : State) (i code : Nat) : State :=
  if Sparse.get s.grg.targets i = some 1 then
    { s with grg := { s.grg with targets := Sparse.insert s.grg.targets i code } }
  else s

/-- The blocks that an image takes at a block size. -/
def blockCount (size bs : Nat) : Nat := (size + bs - 1) / bs

/-- The blocks that an IMAGE_STATUS reports missing (R230). -/
def missingBlocks (base : Nat) (bitmap : List Nat) : List Nat :=
  ((List.range (8 * bitmap.length)).filter fun k => bitAt (bitmap.getD (k / 8) 0) (k % 8)).map (base + ·)

/-- An IMAGE_STATUS of entry i (R549). -/
def State.grgNodeStatus (s : State) (i : Nat) (b : List Nat) : State :=
  match s.grg.campaign with
  | none => s
  | some c =>
    if b.headD 0 ≠ c.type ∨ ofOctets ((b.drop 4).take 4) ≠ c.image.version ∨ Sparse.get s.grg.targets i ≠ some 1 then s
    else if b.getD 1 0 = 2 then s.setTarget i 2
    else if b.getD 1 0 = 3 then s.setTarget i 3
    else if c.waiting then
      let m := (missingBlocks (ofOctets ((b.drop 2).take 2)) ((b.drop 8).take 64)).filter (· < blockCount c.image.size c.blockSize)
      let new := m.filter fun k => !c.missing.contains k
      { s with grg := { s.grg with campaign := some { c with missing := c.missing ++ new } } }
    else s

/-- A STATUS of entry i names its firmware (R549). -/
def State.grgFirmware (s : State) (i version : Nat) : State :=
  match s.grg.campaign with
  | none => s
  | some c => if version = c.image.version then s.setTarget i 2 else s

/-- A campaign stops at once, its state staying readable (R551). -/
def State.campaignHalt (s : State) : State :=
  if s.grg.campaign.isSome && !s.dispatches then { s with grg := { s.grg with campaign := none } } else s

/-- A campaign ends: targets not complete are FAILED (R549). -/
def State.campaignEnd (s : State) : State :=
  match s.grg.campaign with
  | none => s
  | some c =>
    let s : State := { s with grg := { s.grg with
        campaign := none, targets := s.grg.targets.map fun t => if t.2 = 1 then (t.1, 3) else t } }
    let s : State := { s with grg := { s.grg with ended := if s.targetsAt 2 = 0 then none else some (c.type, c.image.version) } }
    (s.notice GRG_NOTE_CAMPAIGN_END).grgEvent 8 (0x10 + c.type) 0 (s.targetsAt 3) c.image.version

/-! ### The window (R553) -/

/-- An octet of the window: the block map, then the campaign state. -/
def State.grgByte (s : State) (off : Nat) : Nat :=
  if off < 0x200 then flagBits ((List.range 8).map fun k => s.grg.map.contains (8 * off + k))
  else if 0x1000 ≤ off ∧ off < 0x3000 then (Sparse.get s.grg.targets (off - 0x1000)).getD 0
  else 0

end Sys2Proof.Machine
end

