-- ==== Sys2Proof/Machine/Radio.lean ====
section
/-! DEFINITION. Radio front ends, channelizer, band tables and duty-cycle accounting (R127 to R156). -/

namespace Sys2Proof.Machine

/-! ### PHYs and spans (R127, R134) -/

/-- Occupied bandwidth of a PHY code, in kHz (R134). -/
def occupied (phy : Nat) : Nat := ([100, 200, 300, 400, 1200, 800, 400, 200]).getD phy 0

/-- FSK rate of a PHY code, in bit/s (R133). -/
def fskRate (phy : Nat) : Nat := 50000 * (phy + 1)

/-- A chain's centre (R127). -/
def State.chainFreq (s : State) (k : Nat) : Nat := s.rd (if k = 0 then RFE_CHAIN0_FREQ else RFE_CHAIN1_FREQ)

/-- Whether a channel with its occupied bandwidth lies wholly inside a chain's span (R127, R134). -/
def State.inSpan (s : State) (k freq phy : Nat) : Bool :=
  s.chainFreq k - 13800 ≤ freq - occupied phy / 2 && freq + occupied phy / 2 ≤ s.chainFreq k + 13800 &&
  occupied phy / 2 ≤ freq

/-! ### Demodulator slots (R133, R134) -/

def State.slotFreq (s : State) (n : Nat) : Nat := s.w32 0x03 (16 * n) % 2 ^ 20
def State.slotFlags (s : State) (n : Nat) : Nat := s.w8 0x03 (16 * n + 4)
def State.slotPhyByte (s : State) (n : Nat) : Nat := s.w8 0x03 (16 * n + 5)
def State.slotEnabled (s : State) (n : Nat) : Bool := bitAt (s.slotFlags n) 0
def State.slotChain (s : State) (n : Nat) : Nat := bitsOf (s.slotFlags n) 1 1
def State.slotOwned (s : State) (n : Nat) : Bool := bitAt (s.slotFlags n) 2
def State.slotPhy (s : State) (n : Nat) : Nat := s.slotPhyByte n % 16

/-- Why an enabled slot must be disabled: 1 outside the span, 2 a repeat of a lower enabled slot, 3 an invalid PHY
(R134, R156); 0 if it may stay. DESIGN CHOICE: the spec orders no reasons, and the model names an invalid PHY before a channel
outside the span, and that before a repeat (log entry 134). -/
def State.slotFault (s : State) (n : Nat) : Nat :=
  if 8 ≤ s.slotPhy n then 3
  else if !s.inSpan (s.slotChain n) (s.slotFreq n) (s.slotPhy n) then 1
  else if (List.range n).any fun m => s.slotEnabled m && s.slotChain m == s.slotChain n && s.slotFreq m == s.slotFreq n &&
      s.slotPhy m == s.slotPhy n then 2
  else 0

/-- CHN's CFG_ERR for a slot. -/
def State.chnErr (s : State) (n reason : Nat) : State :=
  ((s.wr CHN_CFG_ERR_SLOT_SLOT n).wr CHN_CFG_ERR_SLOT_REASON reason).notice CHN_NOTE_CFG_ERR

/-- A slot's ENABLE changes: the cell that the MAC receives with what the slot's record names follows it (R133, R134). -/
def State.cellEnable (s : State) (n : Nat) (on : Bool) : State :=
  { s with mac := { s.mac with
    rxCells := s.mac.rxCells.map fun c =>
      if c.slot = n ∧ c.chain = s.slotChain n ∧ c.freq = s.slotFreq n ∧ c.phy = s.slotPhy n then { c with on := on } else c } }

/-- Disable a slot that does not fit (R134). -/
def State.slotCheck (s : State) (n : Nat) : State :=
  if s.slotEnabled n && s.slotFault n != 0 then
    ((s.cellEnable n false).setBytes 0x03 (16 * n + 4) [clrBit (s.slotFlags n) 0]).chnErr n (s.slotFault n)
  else s

/-- Check every slot, in ascending order. -/
def State.slotsCheck (s : State) : State := (List.range 128).foldl State.slotCheck s

/-- The number of slots that the power state lets receive (R135). -/
def State.slotLimit (s : State) : Nat :=
  match s.modes.power with
  | .run => 128
  | .quiet => 32
  | .doze => 1
  | .hold => 0

/-- The PA of an antenna. -/
def paField (ant : Nat) : Field := if ant = 0 then RFE_STATUS_PA0_ON else RFE_STATUS_PA1_ON

/-- A chain receives nothing before a module time (R128, R130). -/
def State.deafen (s : State) (k until_ : Nat) : State :=
  { s with mac := { s.mac with deaf := putAt 2 0 s.mac.deaf k (max until_ (s.mac.deaf.getD k 0)) } }

/-- Whether a chain receives at a module time: it is enabled, its antenna's PA is off and it is not deaf after a retune or a ramp
(R128, R130, R135). -/
def State.chainHears (s : State) (k t : Nat) : Bool :=
  s.rdB (if k = 0 then RFE_CTRL_RX0_EN else RFE_CTRL_RX1_EN) && !s.rdB (paField k) && s.mac.deaf.getD k 0 ≤ t

/-- Whether a slot receives on a chain a frame whose SFD ends at a module time (R135). DEDUCED: a frame is heard by a chain that hears
the end of its SFD (log entry 133). -/
def State.slotHears (s : State) (n k sfd : Nat) : Bool := s.rdB CHN_CTRL_EN && n < s.slotLimit && s.chainHears k sfd

/-- Whether a slot receives now (R135). -/
def State.slotReceives (s : State) (n : Nat) : Bool := s.slotEnabled n && s.slotHears n (s.slotChain n) s.moduleTime

/-- The slots that the MAC owns (R135, R167): its pool while it runs, and in DOZE slot 0. -/
def State.macSlot (s : State) (n : Nat) : Bool :=
  s.rdB MAC_CTRL_EN &&
  (if s.modes.power = .doze then n == 0 else s.rd MAC_RX_POOL_FIRST ≤ n && n ≤ s.rd MAC_RX_POOL_LAST)

/-- The MAC sets OWNER in every slot it owns (R167). A slot that leaves the pool keeps its record, OWNER among it: log entry 135. -/
def State.ownSlots (s : State) : State :=
  (List.range 128).foldl (fun s n => if s.macSlot n then s.setBytes 0x03 (16 * n + 4) [setBit (s.slotFlags n) 2] else s) s

/-- DOZE sets slot 0's record aside; the MAC owns the slot for the duration (R135). -/
def State.slotToMac (s : State) : State :=
  match s.mac.slot0 with
  | some _ => s
  | none =>
    { s with mac := { s.mac with slot0 := some ((List.range 6).map fun k => s.w8 0x03 k) } }.setBytes 0x03 4 [setBit (s.slotFlags 0) 2]

/-- At exit from DOZE slot 0 returns to its own record (R135). -/
def State.slotBack (s : State) : State :=
  match s.mac.slot0 with
  | none => s
  | some l => ({ s with mac := { s.mac with slot0 := none } }.setBytes 0x03 0 l).slotsCheck

/-! ### Slot numbers (R159, R170 to R173) -/

def State.asnEpoch (s : State) : Nat := s.rd MAC_ASN_EPOCH_LO + 2 ^ 32 * s.rd MAC_ASN_EPOCH_HI

/-- The MAC's own time at a module time, in ns since ASN 0 (R170, R171, R173). -/
def State.macTime (s : State) (t : Nat) : Nat :=
  match s.mac.follow with
  | some z => codeOf 64 ((t : Int) - z)
  | none => codeOf 64 ((t : Int) - s.asnEpoch - s.mac.dev - s.mac.slew)

/-- The absolute slot number at a module time (R170). A STANDBY module has it from its own epoch until the first partner beacon (R173): DESIGN
CHOICE, log entry 189. -/
def State.asnAt (s : State) (t : Nat) : Nat := s.macTime t / 10000000 % 2 ^ 40

/-- Ns into the slot at a module time. -/
def State.intoSlot (s : State) (t : Nat) : Nat := s.macTime t % 10000000

/-- TxOffset in µs (R159). -/
def State.txOffset (s : State) : Nat := 10 * s.rd MAC_TS_TX_OFFSET

/-- Whether the end of an SFD lies in the module's receive window of its slot (R159). -/
def State.rxWindow (s : State) (sfd : Nat) : Bool :=
  1000 * s.txOffset ≤ s.intoSlot sfd + 1000000 && s.intoSlot sfd ≤ 1000 * s.txOffset + 1000000

/-- A word of the demodulator table takes a value (R133): bytes 0 to 5 are the host's; in a slot owned by the MAC, writes to
FREQ, CHAIN and PHY are discarded with reason 4: FREQ's always, those of CHAIN and PHY where they would change it. The slots are
checked after it. -/
def State.chnWordWrite (s : State) (off w : Nat) : State :=
  let n := off / 16
  let o := off % 16 / 4 * 4
  if o = 0 then
    if s.slotOwned n then s.chnErr n 4 else s.setN 0x03 (16 * n) 4 (w % 2 ^ 20)
  else if o = 4 then
    let flags := octet w 0 % 8
    let phy := octet w 1 % 32
    if s.slotOwned n then
      let s' := (s.cellEnable n (flags % 2 == 1)).setBytes 0x03 (16 * n + 4)
        [flags % 2 + 2 * s.slotChain n + flags / 4 * 4, s.slotPhy n + phy / 16 * 16]
      if flags / 2 % 2 = s.slotChain n ∧ phy % 16 = s.slotPhy n then s' else s'.chnErr n 4
    else s.setBytes 0x03 (16 * n + 4) [flags, phy]
  else s

/-- CHAIN_RETUNE: a new centre in range blanks the chain for 60 µs and disables the slots that no longer fit (R127, R128); `lost`
frames were in progress. A write of the present centre is no change of it. -/
def State.retune (s : State) (k freq lost : Nat) : State :=
  if freq < 792800 ∨ 946200 < freq then s.notice RFE_NOTE_CFG_ERR
  else if freq = s.chainFreq k then s
  else
    ((s.wr (if k = 0 then RFE_CHAIN0_FREQ else RFE_CHAIN1_FREQ) freq).count CHN_LOST_BLANK lost).deafen k (s.moduleTime + 60000) |>.slotsCheck

/-- What is on air is cut, and its full charge stands (R145). DESIGN CHOICE: the spec names no outcome for a queued frame so cut; it stands
in the queue again, to be planned anew, and no retry is counted (log entry 162). -/
def State.airCut (s : State) : State :=
  { s with mac := { s.mac with
    active := [],
    queue := s.mac.queue.map fun (f : QFrame) =>
      if s.mac.active.any (fun t => t.serial == some f.serial) then { f with planned := false } else f } }

/-- Both PAs are off (R43, R62): the chain of an antenna whose PA was on hears again 50 µs later (R130), and what is on air is cut. -/
def State.pasOff (s : State) : State :=
  let s := ([0, 1].foldl (fun (s : State) k => if s.rdB (paField k) then s.deafen k (s.moduleTime + 50000) else s) s).airCut
  s.wrAll ([(RFE_STATUS_PA0_ON, 0), (RFE_STATUS_PA1_ON, 0)] ++ (List.range 4).map fun c => (RFE_TXCH_STAT_ACTIVE c, 0))

def agcField (k : Nat) : Field := if k = 0 then RFE_AGC_ATT0 else RFE_AGC_ATT1
def clipNotice (k : Nat) : Notice := if k = 0 then RFE_NOTE_CLIP0 else RFE_NOTE_CLIP1

/-- The AGC's step of attenuation, while no frame is in progress (R129). -/
def State.agcStep (s : State) (k att : Nat) (inFrame : Bool) : State :=
  if inFrame ∨ 15 < att then s else s.wr (agcField k) att

/-- A clipping ADC forces a step at once; `lost` frames in progress are lost (R129). -/
def State.agcClip (s : State) (k att lost : Nat) : State :=
  let s := (s.wr (agcField k) (min 15 att)).notice (clipNotice k)
  if lost = 0 then s else (s.count CHN_LOST_AGC lost).notice CHN_NOTE_AGC_LOSS

/-- Whether the diversity partner of a frame was delivered already: the same channel and PHY on the other chain, the same
PSDU, ends within 50 µs (R136). -/
def State.isDiversityCopy (s : State) (f : RxFrame) : Bool :=
  s.mac.lastDelivered.any fun g =>
    g.chain != f.chain && g.freq == f.freq && g.phy == f.phy && g.frame == f.frame &&
    f.ends ≤ g.ends + 50000 && g.ends ≤ f.ends + 50000

/-- Put a frame into the buffer in the order of the frames' end instants (R137). -/
def byEnd (f : RxFrame) : List RxFrame → List RxFrame
  | [] => [f]
  | g :: t => if f.ends < g.ends then f :: g :: t else g :: byEnd f t

/-- A frame with a valid FCS enters the frame buffer: a diversity copy counts in CHN_DIV_DUP, and a frame that finds 256 waiting is
lost (R136, R137). -/
def State.bufferFrame (s : State) (f : RxFrame) : State :=
  if s.isDiversityCopy f then s.count CHN_DIV_DUP 1
  else if 256 ≤ s.mac.frameBuf.length then (s.count CHN_LOST_BUF 1).notice CHN_NOTE_OVERFLOW
  else
    { s with mac := { s.mac with
        frameBuf := byEnd f s.mac.frameBuf
        lastDelivered := (f :: s.mac.lastDelivered).take 128 } }.count CHN_RX_OK 1

/-- What a slot was tuned to for a frame: chain, centre and PHY. A slot of the host has its record; a slot of the MAC has the cell
whose first slot holds the end of the frame's SFD, inside its receive window, and which the frame does not outlast (R159, R165). -/
def State.tunedFor (s : State) (n sfd ends : Nat) : Option (Nat × Nat × Nat) :=
  if s.macSlot n then
    (s.mac.rxCells.find? fun c => c.slot == n && c.on && c.asn == s.asnAt sfd && s.rxWindow sfd && s.asnAt ends < c.endAsn).map fun c =>
      (c.chain, c.freq, c.phy)
  else if s.slotEnabled n then some (s.slotChain n, s.slotFreq n, s.slotPhy n)
  else none

/-- A demodulator completes a frame (R136, R137): slot, the module times of the end of its SFD and of its last symbol,
RSSI and LQI. The slot's status words count it (R133); a frame whose carry check fails at the hand-off to the MAC is lost (R563). DESIGN
CHOICE: a frame with a bad FCS leaves RSSI and LQI as they are; the spec does not say whether it is the slot's last frame (log
entry 136). -/
def State.chnReceive (s : State) (n sfd ends rssi lqi : Nat) (check : FrameCheck) (m : MeshFrame) : State :=
  match s.tunedFor n sfd ends with
  | none => s
  | some (k, freq, phy) =>
    if !s.slotHears n k sfd then s
    else if check = .badFcs then s.count CHN_FCS_ERR 1
    else
      let s := s.setN 0x03 (16 * n + 8) 6
        ((s.w32 0x03 (16 * n + 8) + 1) % 2 ^ 32 + 2 ^ 32 * (rssi % 256) + 2 ^ 40 * (lqi % 256))
      if check = .badCarry then s.itgCarry 0x04 0x03 else s.bufferFrame ⟨n, k, freq, phy, sfd, ends, rssi, lqi, m⟩

/-! ### Power (R139, R140) -/

/-- Enabled transmit channels on an antenna. -/
def State.enabledOn (s : State) (ant : Nat) : Nat :=
  ((List.range 4).filter fun c => s.rdB (RFE_TXCH_CFG_EN c) && s.rd (RFE_TXCH_CFG_ANT c) == ant).length

/-- The per-channel cap code of an antenna (R139). -/
def State.antCap (s : State) (ant : Nat) : Nat :=
  let n := s.enabledOn ant
  if n ≤ 1 then 160 else if n = 2 then 147 else if n = 3 then 140 else 135

/-! ### Band tables (R141 to R143) -/

/-- A band-table entry as the table holds it. -/
structure Band where
  lo : Nat
  hi : Nat
  maxPwr : Nat
  valid : Bool
  tx : Bool
  scope : Nat
  spacing : Nat
  window : Nat
  allow : Nat
  reserve : Nat
  count : Nat
deriving DecidableEq, Repr

/-- Entry e: 0 to 15 set A, 16 to 31 set B (R141). -/
def State.band (s : State) (e : Nat) : Band :=
  let at_ := fun o n => s.wN 0x02 (32 * e + o) n
  ⟨at_ 0 4, at_ 4 4, at_ 8 1, bitAt (at_ 9 1) 0, bitAt (at_ 9 1) 1, bitsOf (at_ 9 1) 2 2, at_ 10 2, at_ 12 2, at_ 16 4,
   at_ 20 4, at_ 24 2⟩

/-- The SCOPE 2 channels of the entry and of every lower entry of its set that has VALID 1 and SCOPE 2 (R142). -/
def State.channelSum (s : State) (e : Nat) : Nat :=
  (((List.range (e % 16 + 1)).map fun k => s.band (e / 16 * 16 + k)).filterMap fun b =>
    if b.valid && b.scope == 2 then some b.count else none).sum

/-- The checks of R142 on an entry with VALID 1. -/
def State.bandBad (s : State) (e : Nat) : Bool :=
  let b := s.band e
  b.hi ≤ b.lo ||
  ((List.range 16).any fun k =>
    let c := s.band (e / 16 * 16 + k)
    e / 16 * 16 + k != e && c.valid && b.lo < c.hi && c.lo < b.hi) ||
  b.scope == 3 || ((b.scope == 1 || b.scope == 2) && b.window == 0) || b.allow < b.reserve ||
  (b.scope == 2 && (b.hi - b.lo < b.count * b.spacing || 1024 < s.channelSum e))

/-- Whether an entry is in use (R142). -/
def State.bandUsable (s : State) (e : Nat) : Bool := (s.band e).valid && !s.bandBad e

/-- The channel of a SCOPE 2 entry on which a centre falls (R141, R143). -/
def bandChannel (b : Band) (freq : Nat) : Option Nat :=
  (List.range b.count).find? fun i => 2 * freq == 2 * b.lo + b.spacing + 2 * i * b.spacing

/-- Whether a transmission on a centre and PHY belongs to an entry (R143). -/
def bandHolds (b : Band) (freq phy : Nat) : Bool :=
  2 * b.lo + occupied phy ≤ 2 * freq && 2 * freq + occupied phy ≤ 2 * b.hi &&
  (b.scope != 2 || (bandChannel b freq).isSome)

/-- The set in force (R143, R144): code 3 acts as 0. -/
def State.region (s : State) : Nat := s.rd RFE_STATUS_REGION % 3

/-- The valid entry with TX 1 of a set that holds a transmission (R143); set 0 has none. -/
def State.bandIn (s : State) (set freq phy : Nat) : Option Nat :=
  if set = 0 then none
  else ((List.range 16).map (16 * (set - 1) + ·)).find? fun e =>
    s.bandUsable e && (s.band e).tx && bandHolds (s.band e) freq phy

/-- The entry that holds a transmission under the set in force. -/
def State.bandFor (s : State) (freq phy : Nat) : Option Nat := s.bandIn s.region freq phy

/-- The set in force from the next slot boundary on, against which that slot is planned (R143, R144). -/
def State.nextRegion (s : State) : Nat := s.mac.regionNext.getD s.region

/-! ### Budgets (R145 to R149) -/

/-- Data bits in an OFDM symbol, doubled, by option 1 to 4 and MCS 0 to 6 (PRESUMED from IEEE 802.15.4's SUN OFDM: log entry 137). -/
def ofdmBits2 (option mcs : Nat) : Nat :=
  ([[24, 48, 96, 192, 288, 384, 576], [12, 24, 48, 96, 144, 192, 288], [6, 12, 24, 48, 72, 96, 144],
    [3, 6, 12, 24, 36, 48, 72]].getD (option - 1) []).getD mcs 24

/-- The duration in µs of a SUN OFDM PPDU: symbols of 120 µs, four of the short and two of the long training field, the header's,
and the payload's with six tail bits (PRESUMED: log entry 137). -/
def ofdmAirTime (option mcs psdu : Nat) : Nat :=
  120 * (4 + 2 + (if option = 1 then 3 else 6) + (2 * (8 * psdu + 6) + ofdmBits2 option mcs - 1) / ofdmBits2 option mcs)

/-- Air time in µs, rounded up, without the ramps (R145). For OFDM it is the PPDU duration of IEEE 802.15.4 for the option, the
MCS and the length; which MCS the module sends with no rule says, and it is a constant of the specimen. -/
def State.airTime (s : State) (phy psdu : Nat) : Nat :=
  if phy < 4 then (8000000 * (max 4 (s.rd RFE_TX_PHY_PREAMBLE) + 4 + psdu) + fskRate phy - 1) / fskRate phy
  else ofdmAirTime (phy - 3) (Config.txMcs phy % 7) psdu

/-- The charge of a transmission (R145). -/
def State.chargeOf (s : State) (phy psdu : Nat) : Nat := s.airTime phy psdu + 40

/-- The number of a channel's budget: an entry in use has at most 1,024 channels (R142). DESIGN CHOICE: a CH_COUNT above 128 and a WINDOW
above 4,096, which R141 does not allow and R142 does not reject, act as written (log entry 163). -/
def budgetNo (e ch : Nat) : Nat := e * 1024 + ch

/-- The key of the budget that a transmission on an entry uses: the entry's own, or that of its channel (R141). -/
def State.budgetKey (s : State) (e freq : Nat) : Option Nat :=
  let b := s.band e
  if b.scope = 1 then some (budgetNo e 0)
  else if b.scope = 2 then (bandChannel b freq).map (budgetNo e)
  else none

/-- A budget's used figure: the current bucket and the 64 before it (R146). -/
def Budget.used (b : Budget) : Nat := (b.buckets.take 65).sum

def findBudget : List Budget → Nat → Option Budget
  | [], _ => none
  | b :: t, k => if budgetNo b.entry b.channel = k then some b else findBudget t k

def State.budgetUsed (s : State) (k : Nat) : Nat :=
  match findBudget s.mac.budgets k with
  | some b => b.used
  | none => 0

/-- Put a budget, in the place of the one of its entry and channel. -/
def putBudget (l : List Budget) (b : Budget) : List Budget :=
  b :: l.filter fun c => c.entry != b.entry || c.channel != b.channel

/-- Add to the current bucket of a list of buckets. -/
def addNewest (l : List Nat) (c : Nat) : List Nat :=
  match l with
  | [] => [c]
  | h :: t => (h + c) :: t

/-- LOW is set when the used figure of an entry's budget rises above its share of ALLOW (R148, R155). -/
def State.lowIf (s : State) (e old new : Nat) : State :=
  let pct := if s.rd RFE_BUDGET_CFG_LOW_PCT = 0 then 100 else s.rd RFE_BUDGET_CFG_LOW_PCT
  s.noticeIf (old * 100 ≤ (s.band e).allow * pct && (s.band e).allow * pct < new * 100) RFE_NOTE_LOW

/-- The fields of an entry whose change moves its used figure (R149). -/
def Band.shape (b : Band) : List Nat := [b.lo, b.hi, b.scope, b.window, b.spacing, b.count]

/-- The budget of a key before its first charge. -/
def State.newBudget (s : State) (k : Nat) : Budget :=
  let b := s.band (k / 1024)
  ⟨k / 1024, k % 1024, s.cal.pulses, [], b.window, b.scope, b.shape⟩

/-- A charge enters the current bucket (R146); it is written to MRAM, which clears the marker of an oscillator stop (R147);
LOW is set when used rises above its share of ALLOW (R148). -/
def State.charge (s : State) (k c : Nat) : State :=
  let b := (findBudget s.mac.budgets k).getD (s.newBudget k)
  let b' := { b with buckets := addNewest b.buckets c }
  let s := { s with mac := { s.mac with budgets := putBudget s.mac.budgets b', osfSinceCharge := false, chargedAt := s.cal.pulses } }
  (s.wr RFE_LAST_CHARGE c).lowIf (k / 1024) b.used b'.used

/-- The limit of a budget for a priority (R148). -/
def State.budgetLimit (s : State) (e prio : Nat) : Nat :=
  if prio = 3 then (s.band e).allow else (s.band e).allow - (s.band e).reserve

/-- Whether a frame may start: with SCOPE 0 always, else while used + charge is within the limit (R148). `extra` is what the
frames planned before it in this slot add. -/
def State.admits (s : State) (e : Nat) (key : Option Nat) (prio c extra : Nat) : Bool :=
  match key with
  | none => true
  | some k => s.budgetUsed k + extra + c ≤ s.budgetLimit e prio

/-- Whether the antenna may be used at all: TX_EN, no inhibit (R154). -/
def State.radioOn (s : State) : Bool := s.rdB RFE_CTRL_TX_EN && !s.rdB RFE_STATUS_INHIBIT

/-- The scope under which an entry holds budgets: 0 where it has none, for SCOPE 0 and for SCOPE 2 without a channel. -/
def Band.budgetScope (b : Band) : Nat := if b.scope = 2 ∧ b.count = 0 then 0 else b.scope

/-- The budgets of an entry whose shape is no longer the one they were last used under: the whole used figure stands in the newest
bucket; one budget becomes one for each channel with the whole figure, and the channels' budgets become one with their sum (R149). While
the entry has no budgets the figures stay as they are held, so no write clears them. LOW follows the figures (R148). -/
def State.moveBudgets (s : State) (e : Nat) : State :=
  let new := s.band e
  let mine := s.mac.budgets.filter fun b => b.entry == e
  let rest := s.mac.budgets.filter fun b => b.entry != e
  let old := (mine.head?.map Budget.scope).getD 0
  let scope := if new.budgetScope = 0 then old else new.budgetScope
  let fresh := fun (b : Budget) ch u => ({ b with
    channel := ch, start := s.cal.pulses, buckets := [u], window := if new.window = 0 then b.window else new.window,
    scope := scope, shape := new.shape } : Budget)
  let moved := match mine with
    | [] => []
    | b :: _ =>
      let sum := (mine.map Budget.used).sum
      if old = 1 ∧ scope = 2 then (List.range new.count).map fun ch => fresh b ch sum
      else if old = 2 ∧ scope = 1 then [fresh b 0 sum]
      else mine.map fun b => fresh b b.channel b.used
  moved.foldl (fun t b => t.lowIf e (s.budgetUsed (budgetNo e b.channel)) b.used)
    { s with mac := { s.mac with budgets := moved ++ rest } }

/-- What every write to the band table, and every commit after the whole of it, brings: the checks of R142 and the moves of R149. An
entry that has become invalid keeps its buckets; one that comes back into use with other fields moves them then. -/
def State.bandChanged (s : State) : State :=
  let s := (List.range 32).foldl (fun s e =>
    if s.bandUsable e && s.mac.budgets.any fun b => b.entry == e && b.shape != (s.band e).shape then s.moveBudgets e else s) s
  if (List.range 32).any fun e => (s.band e).valid && s.bandBad e then s.notice RFE_NOTE_TABLE_ERR else s

/-- The bits that a word of an entry has: reserved ones read 0 (R8, R141). -/
def bandBits (o : Nat) : Nat :=
  if o = 8 then 0xFFFF0FFF else if o = 12 ∨ o = 24 then 0xFFFF else if o = 28 then 0 else 0xFFFFFFFF

/-- A word of the band table takes a value (R141). -/
def State.bandWordWrite (s : State) (off w : Nat) : State :=
  s.setN 0x02 (off / 4 * 4) 4 (Nat.land w (bandBits (off % 32 / 4 * 4)))

/-- The current bucket of a budget ends: the oldest leaves the window (R146). -/
def State.bucketAdvance (s : State) (e ch : Nat) : State :=
  match findBudget s.mac.budgets (budgetNo e ch) with
  | none => s
  | some b =>
    { s with mac := { s.mac with
        budgets := putBudget s.mac.budgets { b with start := s.cal.pulses, buckets := (0 :: b.buckets).take 65 } } }

/-- Ms until the oldest bucket of a budget leaves the window: until the current one ends (R155). -/
def State.budgetAge (s : State) (k : Nat) : Nat :=
  match findBudget s.mac.budgets k with
  | none => 0
  | some b => (b.start + b.window * 512 - s.cal.pulses) * 1000 / 32768

/-- The buckets restored at a start, aged by the elapsed CK_AON count, or with no elapsed time when that is unknown
(R147). -/
def State.budgetsRestore (s : State) : State :=
  if s.mac.osfSinceCharge then
    let stay := fun (b : Budget) => { b with start := s.cal.pulses - (s.mac.chargedAt - b.start) }
    (({ s with mac := { s.mac with budgets := s.mac.budgets.map stay } }.wr RFE_STATUS_STALE 1).notice RFE_NOTE_STALE).silt 0x0201
  else
    let age := fun (b : Budget) =>
      let n := (s.cal.pulses - b.start) / max 1 (b.window * 512)
      { b with buckets := (List.replicate (min n 65) 0 ++ b.buckets).take 65, start := b.start + n * (b.window * 512) }
    { s with mac := { s.mac with budgets := s.mac.budgets.map age } }

/-- A write of RFE_CTRL.REGION: held until the next slot boundary once the MAC has started its slots, else at once (R144). -/
def State.regionWrite (s : State) (v : Nat) : State :=
  let s := s.wr RFE_CTRL_REGION v
  let r := if v % 4 = 3 then 0 else v % 4
  if s.rdB MAC_CTRL_EN && s.mac.slotting then { s with mac := { s.mac with regionNext := some r } } else s.wr RFE_STATUS_REGION r

/-- The next slot boundary after a change of REGION: the new set is in force (R144). -/
def State.regionTake (s : State) : State :=
  match s.mac.regionNext with
  | none => s
  | some v => { s with mac := { s.mac with regionNext := none } }.wr RFE_STATUS_REGION v

/-! ### The commands -/

/-- CHAIN_RETUNE (R127, R128). -/
def execChainRetune (port : Port) (k freq lost : Nat) (s : State) : Host.Outcome State Fault Refusal :=
  .next (s.effect port (if k = 0 then RFE_CHAIN0_FREQ else RFE_CHAIN1_FREQ).addr fun s => s.retune k freq lost)

/-- ADC_CLIP_AGC_STEP (R129). -/
def execAdcClipAgcStep (k att lost : Nat) (s : State) : Host.Outcome State Fault Refusal :=
  .next (s.working 0x02 fun s => s.agcClip k att lost)

/-- The MAC has stopped: its own ASN and phase are gone, and one that starts again counts by R170 (R171, R195). -/
def State.macStopped (s : State) : State :=
  ({ s with mac := { s.mac with
      slotting := false, rxCells := [], busy := [], follow := none, dev := 0, slew := 0, realign := false } }).wr MAC_STATUS_ASN_DEV 0

/-- A write of MAC_CTRL.EN has taken effect: the MAC owns its slots; with EN 0 no slot boundary comes, so a change of REGION that
waits for one acts at once (R144, R167). -/
def State.macEnable (s : State) : State := if s.rdB MAC_CTRL_EN then s.ownSlots else s.macStopped.regionTake

/-- AGC_STEP (R129): the wideband control moves to a step while no demodulator of the chain is inside a frame. -/
def execAgcStep (k att : Nat) (inFrame : Bool) (s : State) : Host.Outcome State Fault Refusal :=
  .next (s.working 0x02 fun s => s.agcStep k att inFrame)

/-- CHN_FRAME_RECEIVED (R136, R137). -/
def execChnFrameReceived (n sfd ends rssi lqi : Nat) (check : FrameCheck) (m : MeshFrame) (s : State) :
    Host.Outcome State Fault Refusal :=
  .next (s.working 0x03 fun s => s.wakeSys.chnReceive n sfd ends rssi lqi check m)

/-- REGION_CHANGE (R144): the slot boundary at which a new REGION takes effect. -/
def execRegionChange (s : State) : Host.Outcome State Fault Refusal := .next (s.working 0x02 State.regionTake)

/-- BUDGET_BUCKET_ADVANCE (R146, R147). -/
def execBudgetBucketAdvance (e ch : Nat) (s : State) : Host.Outcome State Fault Refusal := .next (s.bucketAdvance e ch)

end Sys2Proof.Machine
end

