-- ==== Sys2Proof/Machine/Temper.lean ====
section
/-! DEFINITION. The Temper loop engine (R287 to R313). -/

namespace Sys2Proof.Machine

/-! ### Records (R292) -/

/-- A loop slot record. -/
structure TmpRecord where
  enable : Bool
  host : Bool
  combine : Nat
  newOnly : Bool
  staleHold : Bool
  feAction : Nat
  sensor : Nat
  period : Nat
  phase : Nat
  setpoint : Nat
  upRate : Nat
  downRate : Nat
  kp : Nat
  ki : Nat
  lo : Nat
  hi : Nat
  feLimit : Nat
  feTime : Nat
  timeout : Nat
  staleOut : Nat
  initOut : Nat
deriving DecidableEq, Repr

def State.tmpRecord (s : State) (k : Nat) : TmpRecord :=
  let b := s.w8 0x09 (64 * k)
  let h := fun o => s.w16 0x09 (64 * k + o)
  let w := fun o => s.w32 0x09 (64 * k + o)
  ⟨bitAt b 0, bitAt b 1, bitsOf b 2 2, bitAt b 4, bitAt b 5, bitsOf b 6 2, s.w8 0x09 (64 * k + 1), max 1 (min 6000 (h 2)),
   h 4, w 8, w 12, w 16, w 20, w 24, h 28, h 30, w 32, h 36, max 1 (h 38), h 40, h 42⟩

/-- A slot that has not run. -/
def TmpSlot.off (no : Nat) : TmpSlot := ⟨0, false, true, none, 0, 65535, none, 0, no⟩

/-- What is left of Temper when its SRAM is lost: the slots' numbers, each at the multiple of 4,096 that MRAM holds (R308). -/
def TmpUnit.keepNumbers (u : TmpUnit) : TmpUnit :=
  ⟨u.slots.map fun e => (e.1, TmpSlot.off ((e.2.no + 4095) / 4096 * 4096 % 2 ^ 32)), [], [], none⟩

def State.tmpSlot (s : State) (k : Nat) : TmpSlot := (Sparse.get s.tmp.slots k).getD (.off 0)

def State.setTmpSlot (s : State) (k : Nat) (q : TmpSlot) : State :=
  { s with tmp := { s.tmp with slots := Sparse.insert s.tmp.slots k q } }

/-- OUT as the output table shows it (R288). -/
def State.tmpOut (s : State) (k : Nat) : Nat := if s.rdB TMP_CTRL_EN then (s.tmpSlot k).out else 65535

/-- TMP_CFG_ERR and its notice. -/
def State.tmpErr (s : State) (k reason : Nat) : State :=
  ((s.wr TMP_CFG_ERR_SLOT k).wr TMP_CFG_ERR_REASON reason).notice TMP_NOTE_CFG_ERR

/-- The slots with ENABLE 1. -/
def State.tmpEnabled (s : State) : List Nat :=
  (s.listed 0x09 0 64 2048 64 0).filter fun k => bitAt (s.w8 0x09 (64 * k)) 0

/-- A word of the TMP window takes a value (R292, R312). -/
def State.tmpWordWrite (s : State) (off w : Nat) : State :=
  if 0x20000 ≤ off then s
  else
    let k := off / 64
    let o := off % 64 / 4 * 4
    let mask := if o = 4 then 0xFFFF else if 44 ≤ o then 0 else 0xFFFFFFFF
    s.setN 0x09 (64 * k + o) 4 (Nat.land w mask)

/-- What a slot does once its record has been written (R292, R296, R305, R310): `was` is the record before. -/
def State.tmpSettle (s : State) (was : TmpRecord) (off : Nat) : State :=
  if 0x20000 ≤ off then s
  else
    let k := off / 64
    let o := off % 64 / 4 * 4
    let r := s.tmpRecord k
    let s := if !was.enable && r.enable then s.setTmpSlot k (.off (s.tmpSlot k).no)
      else if (s.tmpSlot k).state = 5 then s.setTmpSlot k { s.tmpSlot k with state := 1, entering := true } else s
    let p := s.w16 0x09 (64 * k + 2)
    let s := if o = 0 ∧ (p = 0 ∨ 6000 < p) then s.tmpErr k 1 else s
    let s := if was.lo ≤ was.hi ∧ r.hi < r.lo then s.tmpErr k 2 else s
    if o = 0 ∧ r.feAction = 3 then s.tmpErr k 3 else s

/-! ### Measurements (R287, R289 to R291) -/

/-- A DAYLIGHT report of a node: its zone, its entries of sensor and illuminance (R287, R289). -/
def State.tmpDaylight (s : State) (zone node : Nat) (l : List (Nat × Nat)) : State :=
  if 2048 ≤ zone then (s.count TMP_ZONE_BAD 1).notice TMP_NOTE_ZONE_BAD
  else
    let sensor := (s.tmpRecord zone).sensor
    match (if sensor = 0xFF then l.head? else l.find? fun e => e.1 == sensor) with
    | none => s.count TMP_MEAS_IGN 1
    | some e =>
      { s with tmp := { s.tmp with nodes := Sparse.insert s.tmp.nodes node (e.2 % 2 ^ 32, s.epoch) } }.count TMP_MEAS_IN 1

/-- A write of TMP_MEAS_SLOT (R290). -/
def State.tmpHostMeas (s : State) (k : Nat) : State :=
  if (s.tmpRecord k).host then
    { s with tmp := { s.tmp with host := Sparse.insert s.tmp.host k (s.rd TMP_MEAS_VALUE, s.epoch) } }
  else (s.count TMP_MEAS_REJ 1).notice TMP_NOTE_MEAS_REJ

/-- The contributions of a slot at t1, in node order (R291). -/
def State.contributions (s : State) (k : Nat) (r : TmpRecord) (t1 : Nat) : List (Nat × Nat) :=
  let all := if r.host then (match Sparse.get s.tmp.host k with
      | some m => [m]
      | none => [])
    else (s.tmp.nodes.filter fun e => s.ent e.1 0x12 2 == k).map Prod.snd
  all.filter fun m => t1 ≤ m.2 + r.timeout * 1000000

/-- The latest contribution, the first of several that arrived together. -/
def latestOf : List (Nat × Nat) → Nat
  | [] => 0
  | m :: t => (t.foldl (fun (a : Nat × Nat) x => if a.2 < x.2 then x else a) m).1

/-- Contributions combined (R291). -/
def combine (c : Nat) (l : List (Nat × Nat)) : Nat :=
  if c = 0 then latestOf l
  else if c = 1 then (l.map Prod.fst).foldl min ((l.headD (0, 0)).1)
  else if c = 2 then (l.map Prod.fst).sum / max 1 l.length
  else (l.map Prod.fst).foldl max 0

/-! ### One sample (R293 to R299) -/

/-- What a sample shows beside the slot's own values: FLAGS, y and e (R307). -/
structure TmpShow where
  flags : Nat
  meas : Nat
  err : Int
deriving DecidableEq, Repr

/-- SPL in 0.1 lx. -/
def TmpSlot.sp (q : TmpSlot) : Nat := q.spl.getD 0 / 65536

/-- SPL after a step toward SETPOINT (R293, R294). -/
def slewed (r : TmpRecord) (spl : Nat) : Nat :=
  let goal := r.setpoint * 65536
  let up := r.upRate * r.period * 65536 / 100
  let dn := r.downRate * r.period * 65536 / 100
  if spl < goal then (if r.upRate = 0 then goal else min goal (spl + up))
  else if goal < spl then (if r.downRate = 0 then goal else max goal (spl - dn))
  else spl

/-- Publish a sample: the state record, and the result block for the watched slot (R307, R309). -/
def State.tmpPublish (s : State) (k : Nat) (q : TmpSlot) (w : TmpShow) (t0ns : Nat) : State :=
  let q := { q with no := (q.no + 1) % 2 ^ 32 }
  let s := (s.setTmpSlot k q).setBytes 0x09 (0x40000 + 32 * k)
    (toOctets 4 q.no ++ toOctets 2 q.out ++ [q.state, w.flags] ++ toOctets 4 q.sp ++ toOctets 4 w.meas ++
      toOctets 4 (codeOf 32 w.err) ++ toOctets 6 (codeOf 48 q.integ) ++ [0, 0] ++ toOctets 4 q.no)
  let s := s.count TMP_SAMPLES 1
  if s.rd TMP_WATCH_SLOT = k then
    (s.wrAll
      [(TMP_W_SLOT_SLOT, k), (TMP_W_SAMPLE, q.no), (TMP_W_TIME_LO, t0ns), (TMP_W_TIME_HI, t0ns / 2 ^ 32), (TMP_W_SP, q.sp),
       (TMP_W_MEAS, w.meas), (TMP_W_ERR, codeOf 32 w.err), (TMP_W_I_LO, codeOf 48 q.integ),
       (TMP_W_I_HI, codeOf 48 q.integ / 2 ^ 32), (TMP_W_END_OUT, q.out), (TMP_W_END_STATE, q.state),
       (TMP_W_END_FLAGS, w.flags)]).publish 0x09 0 (SEQ_COUNT 0x09)
  else s

/-- TMP_EVENT with its notice, counter and Silt record: 1 FOLLOW, 2 STALE, 3 FAULT. -/
def State.tmpEvent (s : State) (k kind : Nat) : State :=
  let s := (s.wr TMP_EVENT_SLOT k).wr TMP_EVENT_KIND kind
  if kind = 1 then ((s.count TMP_FOLLOW 1).notice TMP_NOTE_FOLLOW).silt 0x0902 k
  else if kind = 2 then ((s.count TMP_STALE 1).notice TMP_NOTE_STALE).silt 0x0901 k
  else ((s.count TMP_FAULT 1).notice TMP_NOTE_FAULT).silt 0x0903 k

/-- What the slot's state record shows of y and e. -/
def State.tmpShown (s : State) (k flags : Nat) : TmpShow :=
  ⟨flags, s.w32 0x09 (0x40000 + 32 * k + 12), signed 32 (s.w32 0x09 (0x40000 + 32 * k + 16))⟩

/-- The integrator's bounds (R295). -/
def integLo : Int := -65535 * 65536
def integHi : Int := 131070 * 65536

/-- A sample in RUN (R293): the slot after it and its flags but for FE_TIMING. -/
def runSample (r : TmpRecord) (q : TmpSlot) (y : Nat) (fresh : Bool) : TmpSlot × TmpShow × Bool :=
  let i0 : Int := if q.entering then
      ((q.out : Int) - ((r.kp : Int) * ((q.sp : Int) - y)).tdiv 65536) * 65536
    else q.integ
  let spl := slewed r (q.spl.getD 0)
  let e := clampInt (-2 ^ 31 + 1) (2 ^ 31 - 1) (((spl / 65536 : Nat) : Int) - y)
  let p := ((r.kp : Int) * e).tdiv 65536
  let lo : Int := r.lo
  let hi : Int := max r.lo r.hi
  let v := p * 65536 + i0
  let atClamp := (decide (hi * 65536 ≤ v) && decide (0 < e)) || (decide (v ≤ lo * 65536) && decide (e < 0))
  let stop := q.entering || atClamp || (r.newOnly && !fresh)
  let i1 := if stop then i0 else clampInt integLo integHi (i0 + ((r.ki : Int) * e * r.period).tdiv 100)
  let sum := (p * 65536 + i1).tdiv 65536
  let out := clampInt lo hi sum
  let flags := flagBits [decide (hi < sum), decide (sum < lo), atClamp, decide (spl ≠ r.setpoint * 65536), fresh, false,
    !stop && (decide (i1 = integLo) || decide (i1 = integHi)), q.entering]
  ({ q with state := 1, entering := false, spl := some spl, integ := i1, out := out.toNat }, ⟨flags, y, e⟩, atClamp)

/-- The following-error check (R299): the timer after it, and whether it trips. -/
def followTimer (r : TmpRecord) (timer : Option Nat) (d t0 : Nat) : Option Nat × Bool :=
  if r.feLimit = 0 ∨ d ≤ r.feLimit then (none, false)
  else
    let from_ := timer.getD t0
    (some from_, decide (from_ + r.feTime * 100000 ≤ t0))

/-- The following-error check and its action (R299), and the publication. -/
def State.tmpFollow (s : State) (t0 ns k : Nat) (r : TmpRecord) (y : Nat) (q : TmpSlot) (w : TmpShow) : State :=
  let (timer, trip) := followTimer r q.timer ((q.sp - y) + (y - q.sp)) t0
  let s := if trip then s.tmpEvent k 1 else s
  let act := if trip then r.feAction else 0
  let timer := if act = 1 ∨ act = 2 then none else if trip then some t0 else timer
  let q := { q with
    timer := timer, last := t0,
    state := if act = 1 then 3 else if act = 2 then 4 else 1,
    out := if act = 2 then 65535 else q.out }
  s.tmpPublish k q { w with flags := w.flags + (if timer.isSome then 32 else 0) } ns

/-- A sample of a slot that is due (R293, R298, R299, R310). -/
def State.tmpSample (s : State) (t0 ns k : Nat) : State :=
  let r := s.tmpRecord k
  let q := s.tmpSlot k
  let q := { q with out := if q.starting then r.initOut else q.out, starting := false,
                    spl := some (q.spl.getD (r.setpoint * 65536)) }
  if q.state = 3 ∨ q.state = 4 ∨ q.state = 5 then s.tmpPublish k { q with last := t0 } (s.tmpShown k 0) ns
  else
    let c := s.contributions k r t0
    if c.isEmpty then
      let s := if q.state = 2 then s else s.tmpEvent k 2
      s.tmpPublish k
        { q with state := 2, entering := true, timer := none, last := t0, out := if r.staleHold then q.out else r.staleOut }
        (s.tmpShown k 0) ns
    else
      let y := combine r.combine c
      let fresh := c.any fun m => q.last < m.2
      let (q, w, froze) := runSample r q y fresh
      let s := if froze then s.count TMP_FROZEN 1 else s
      s.tmpFollow t0 ns k r y q w

/-- A slot whose ENABLE is 0 stops at the tick (R305): OFF with OUT 65,535. -/
def State.tmpStop (s : State) (k : Nat) : State :=
  if (s.tmpRecord k).enable ∨ (s.tmpSlot k).state = 0 then s
  else
    (s.setTmpSlot k (.off (s.tmpSlot k).no)).setBytes 0x09 (0x40000 + 32 * k + 4) [0xFF, 0xFF, 0]

/-- A slot's record or state has failed (R310). -/
def State.tmpFail (s : State) (k : Nat) : State :=
  (s.setTmpSlot k { s.tmpSlot k with state := 5, out := 65535, entering := true, starting := false, timer := none }).tmpEvent k 3

/-- Whether a slot is due at a 10 ms tick (R300). -/
def State.tmpDue (s : State) (tick k : Nat) : Bool :=
  let r := s.tmpRecord k
  r.enable && tick % r.period == r.phase % r.period

/-- A node's measurement entry is lost (R310): it is empty until the node's next report. -/
def State.tmpLose (s : State) (i : Nat) : State := { s with tmp := { s.tmp with nodes := s.tmp.nodes.filter fun e => e.1 ≠ i } }

/-- Whether the epoch tick count e is a 10 ms tick after that of the last samples (R300, R302). -/
def State.tmpTickNew (s : State) (e : Nat) : Bool :=
  e % 10000 == 0 && s.tmp.tick.all fun k => Nat.blt k (e / 10000)

/-- The samples of the 10 ms tick at the epoch tick count e, in ascending slot order (R300, R302). `bad` slots and `lost` node entries
met an uncorrectable memory error (R310), and `late` samples came after the next tick. -/
def State.tmpTick (s : State) (e : Nat) (bad lost : List Nat) (late : Nat) : State :=
  let tick := e / 10000
  let ns := codeOf 64 (s.moduleTimeAt (e * 250))
  if !s.rdB TMP_CTRL_EN || !s.lightPath || !s.tmpTickNew e then s
  else
    let s := lost.foldl State.tmpLose { s with tmp := { s.tmp with tick := some tick } }
    let s := iterate (fun s => s.itgReadError 1 0x09) lost.length s
    let s := bad.foldl (fun s k => (s.tmpFail k).itgReadError 1 0x09) s
    let s := (s.tmp.slots.map Prod.fst).foldl State.tmpStop s
    let s := (s.tmpEnabled.filter (s.tmpDue tick)).foldl (fun s k => s.tmpSample (tick * 10000) ns k) s
    if late = 0 then s else (s.count TMP_LATE late).notice TMP_NOTE_LATE

/-- TMP_CTRL.EN (R311). -/
def State.tmpEnable (s : State) (en : Bool) : State := s.wrB TMP_CTRL_EN en

/-- A window byte of Temper as it reads (R312): the output table and the measurement entries show the working values. -/
def State.tmpReadByte (s : State) (off : Nat) : Nat :=
  if 0x80000 ≤ off ∧ off < 0x81000 then octet (s.tmpOut ((off - 0x80000) / 2)) (off % 2)
  else if 0xC0000 ≤ off ∧ off < 0xD0000 then
    match Sparse.get s.tmp.nodes ((off - 0xC0000) / 8) with
    | some (v, t) => if off % 8 < 4 then octet v (off % 8) else octet t (off % 8 - 4)
    | none => if off % 8 < 4 then 0xFF else 0
  else s.w8 0x09 off

/-- After a start (R297, R308, R311): the numbers resume at their stored multiples, every enabled slot enters from INIT_OUT,
and the measurements are gone. -/
def State.tmpStart (s : State) : State :=
  let s := { s with tmp := s.tmp.keepNumbers }
  s.tmpEnabled.foldl (fun s k => s.setTmpSlot k { TmpSlot.off (s.tmpSlot k).no with starting := true }) s

/-- TMP_MEAS_SLOT (R290). -/
def execTmpMeasSlot (port : Port) (k : Nat) (s : State) : Host.Outcome State Fault Refusal :=
  .next (s.effect port TMP_MEAS_SLOT_SLOT.addr fun s => s.tmpHostMeas k)

/-- TMP_SLOT_DISABLE (R305): the 10 ms tick after ENABLE was written 0. -/
def execTmpSlotDisable (k : Nat) (s : State) : Host.Outcome State Fault Refusal :=
  .next (s.working 0x09 fun s => s.tmpStop k)

end Sys2Proof.Machine
end

