-- ==== Sys2Proof/Machine/Hooks.lean ====
section
/-! DEFINITION. What the MAC and SPR tell other units: lost level frames to the dispatcher, and the key
that Hardpan offers for a key index. -/

namespace Sys2Proof.Machine

/-- The MAC dropped a level frame: VALID clears for every node in it (R331). -/
def State.dptLost (s : State) (l : List Nat) : State :=
  ((l.foldl (fun s i => s.setEnt i 0xBD 1 (clrBit (s.ent i 0xBD 1) 0)) s).count DPT_LOST 1).notice DPT_NOTE_FRAME_LOST

/-- The Hardpan slot of key index 2 or 3 (R181). -/
def State.netSlot (s : State) (index : Nat) : Nat := if index = 3 then s.rd MAC_KEY_NET3 else s.rd MAC_KEY_NET2

/-- Whether Hardpan offers the key of an index for a use, 0 CCM_TX or 1 CCM_RX: of class JOIN or NETWORK, or for index 4 the
entry's CLASS slot with NODE_KEY (R181, R485). -/
def State.indexKey (s : State) (index use : Nat) (entry : Option Nat) : Bool :=
  if index = 1 then s.keyGood (s.rd MAC_KEY_JOIN) 3 use
  else if index = 2 ∨ index = 3 then s.keyGood (s.netSlot index) 2 use
  else if index = 4 then
    match entry with
    | some i => s.keyGood (s.ent i 0x0C 1 % 64) 1 4
    | none => false
  else false
end Sys2Proof.Machine
end

