-- ==== Sys2Proof/Machine/MacQueue.lean ====
section
/-! DEFINITION. The MAC transmit queue and the numbering of FSP messages (R150, R153, R178, R188, R191, R202, R203). -/

namespace Sys2Proof.Machine

/-- The MAC priority of an FSP type (R202). -/
def fspPrio (t : Nat) : Nat := if t ≤ 0x09 then 2 else if t = 0x0F then 0 else 1

/-- Whether a type carries a claim number: the commands (R202). -/
def fspClaimed (t : Nat) : Bool := 0x01 ≤ t && t ≤ 0x09

/-- The key index of a message of the module (R198). -/
def State.fspKey (s : State) (m : OutMessage) : Nat :=
  match m.dest with
  | .broadcast => 2 + s.rd MAC_KEY_NET_CUR
  | .node _ => 4
  | .joiner _ _ => 1

/-- The PSDU length of a message: header, claim, body and the MAC's overhead (R178, R201). -/
def psduOf (m : OutMessage) : Nat :=
  4 + (if fspClaimed m.type then 4 else 0) + m.body.length +
  (match m.dest with
   | .joiner _ _ => 37
   | _ => 25)

/-- A message's octets as the MAC payload carries them (R14, R201): TYPE, VERSION 1 with the CLAIM bit, SEQ, the claim number of a
command, and the body. -/
def fspOctets (m : OutMessage) (seq claim : Nat) : List Nat :=
  [m.type % 256, if fspClaimed m.type then 0x11 else 0x01] ++ toOctets 2 seq ++
  (if fspClaimed m.type then toOctets 4 claim else []) ++ m.body

/-- The entry that a message names. -/
def destEntry : MeshDest → Option Nat
  | .node i => some i
  | .joiner _ e => e
  | .broadcast => none


/-- A dropped frame that carried a block of the campaign: the block is sent again in the next round (R549). -/
def State.blockGone (s : State) (f : QFrame) : State :=
  match s.grg.campaign with
  | some c =>
    if f.msg.type = 0x0F then
      { s with grg := { s.grg with campaign := some { c with dropped := c.dropped ++ [ofOctets ((f.msg.body.drop 2).take 2)] } } }
    else s
  | none => s

/-- A drop under R153 counts in RFE_DROPp; frames of priority 0 are image blocks, which GRG_NODE_DROP counts too (R549). -/
def State.rfeDrop (s : State) (f : QFrame) : State :=
  let s := if f.prio = 0 then (s.count GRG_NODE_DROP 1).blockGone f else s
  (s.count (RFE_DROP f.prio) 1).notice RFE_NOTE_DROP

/-- A frame is gone without having been sent: DPT learns of the nodes whose levels it carried (R331). -/
def State.frameGone (s : State) (f : QFrame) : State := if f.msg.nodes.isEmpty then s else s.dptLost f.msg.nodes

/-- The oldest frame of the lowest priority among frames. -/
def lowestOldest : List QFrame → Option QFrame
  | [] => none
  | f :: t =>
    match lowestOldest t with
    | none => some f
    | some g => if g.prio < f.prio then some g else some f

/-- Remove a frame by its order number: a slot planned for it sends nothing (R153). -/
def State.dequeue (s : State) (n : Nat) : State :=
  { s with mac := { s.mac with
      queue := s.mac.queue.filter fun f => f.serial != n
      plan := s.mac.plan.filter fun t => t.serial != some n } }

/-- Change a queued frame. -/
def State.requeue (s : State) (n : Nat) (g : QFrame → QFrame) : State :=
  { s with mac := { s.mac with queue := s.mac.queue.map fun f => if f.serial = n then g f else f } }

/-- A frame enters the queue; a full queue drops the oldest frame of the lowest priority, the entering one counting as the
newest of its own (R150, R153). DESIGN CHOICE: the back-off exponent is the frame's own and begins at MIN_BE with every frame; the
spec does not say whether it belongs to the frame or the destination (log entry 139). -/
def State.enqueue (s : State) (m : OutMessage) (seq : Nat) : State :=
  let f : QFrame := ⟨s.mac.nextSerial, fspPrio m.type, m, seq, 0, s.rd MAC_RETRY_MIN_BE, 0, false, false, false, false, none⟩
  let s := { s with mac := { s.mac with queue := s.mac.queue ++ [f], nextSerial := s.mac.nextSerial + 1 } }
  if s.mac.queue.length ≤ 1024 then s
  else
    match lowestOldest s.mac.queue with
    | some g => ((s.dequeue g.serial).rfeDrop g).frameGone g
    | none => s

/-- A frame is not taken into the queue: it counts in MAC_TX_FAIL (R182, R191). -/
def State.notQueued (s : State) (m : OutMessage) : State :=
  let s := s.count MAC_TX_FAIL 1
  if m.nodes.isEmpty then s else s.dptLost m.nodes

/-- Whether frames to an entry are dropped before they enter the queue: BLOCKED, FREE, UNREACHABLE, PROVISIONED (R191). -/
def closedTo (state : Nat) : Bool := state == 5 || state == 0 || state == 4 || state == 1

/-- A message is offered to the queue (R154, R178, R182, R191): the state after it, and whether it was too long. -/
def State.macOffer (s : State) (m : OutMessage) (seq : Nat) : State :=
  if !s.meshTx then s
  else if 2048 ≤ psduOf m then (s.count MAC_TOO_LONG 1).notice MAC_NOTE_TOO_LONG
  else
    match m.dest with
    | .node i =>
      if closedTo (s.entState i) || s.rd MAC_TX_FC4 == 0xFFFFFFFF then s.notQueued m else s.enqueue m seq
    | _ => s.enqueue m seq

/-- The next multiple of a step at or above a count: what a start resumes at (R203). -/
def resumeAt (c step : Nat) : Nat := (c + step - 1) / step * step

/-- The number a message takes, and the counts after it (R203). DESIGN CHOICE: NTB FREE zeroes the bytes that show an entry's number and
not the running count, so numbering goes on from it where the entry is taken again (log entry 168). -/
def State.nextSeq (s : State) (d : MeshDest) : Nat × State :=
  let own := fun (i : Nat) =>
    let n := (Sparse.get s.spr.txSeq i).getD 0
    (n, ({ s with spr := { s.spr with txSeq := Sparse.insert s.spr.txSeq i ((n + 1) % 65536) } }.setEnt i 0x4C 2 n))
  let wide := (s.spr.bcSeq, { s with spr := { s.spr with bcSeq := (s.spr.bcSeq + 1) % 65536 } })
  match d with
  | .broadcast => wide
  | .node i => own i
  | .joiner _ (some i) => own i
  | .joiner _ none => wide

/-- SPR builds a message and hands it to the MAC (R203, R568). With SPR_CTRL.EN 0 nothing is built, and DPT takes a level
frame as lost; where mesh transmission is not allowed nothing is built for air (R154). -/
def State.sprSend (s : State) (m : OutMessage) : State :=
  if !s.rdB SPR_CTRL_EN then (if m.nodes.isEmpty then s else s.dptLost m.nodes)
  else if !s.meshTx then s
  else
    let (n, s) := s.nextSeq m.dest
    (s.count SPR_TX_MSG 1).macOffer m n

/-- The groups of a GROUP_SET body: eight numbers, 0xFFFF unused (R229, R234). -/
def groupOctets (body : List Nat) : List Nat :=
  ((body.drop 1).take (2 * min 8 (body.headD 0)) ++ List.replicate 16 0xFF).take 16

/-- TX_COUNT of an entry rises by 1. -/
def State.countSent (s : State) (i : Nat) : State := s.setEnt i 0xE4 4 ((s.ent i 0xE4 4 + 1) % 2 ^ 32)

/-- A completed broadcast counts for every radio node that is JOINED (R192; DESIGN CHOICE: log entry 167). -/
def State.broadcastSent (s : State) : State :=
  ((List.range 8192).filter fun i => s.entState i == 3 && s.entType i == 1).foldl State.countSent s

/-- A frame was delivered: sent, or acknowledged where that was asked for. The entry counts an acknowledged one, and a GROUP_SET's groups
are recorded (R192, R234). -/
def State.delivered (s : State) (f : QFrame) : State :=
  let s := (s.dequeue f.serial).count MAC_TX_OK 1
  match f.msg.dest, destEntry f.msg.dest with
  | .broadcast, _ => s.broadcastSent
  | _, some i =>
    let s := if f.waiting then (s.countSent i).setEnt i 0x31 1 0 else s
    if f.msg.type = 0x07 then s.setBytes 0x05 (256 * i + 0x50) (groupOctets f.msg.body) else s
  | _, none => s

/-- A frame has used up its retries (R189): it is dropped and counted, and the entry's run of failures may make it
UNREACHABLE, whether it is JOINED or still JOINING. -/
def State.txFailed (s : State) (f : QFrame) : State :=
  let s := ((s.dequeue f.serial).count MAC_TX_FAIL 1).frameGone f
  match destEntry f.msg.dest with
  | some i =>
    let n := satAdd (s.ent i 0x31 1) 1 255
    let s := s.setEnt i 0x31 1 n
    if s.rd MAC_HEALTH_UNREACH ≠ 0 ∧ s.rd MAC_HEALTH_UNREACH ≤ n ∧ (s.entState i = 3 ∨ s.entState i = 2) then
      (s.setEntState i 4).notices [MAC_NOTE_UNREACH, NTB_NOTE_UNREACH]
    else s
  | none => s

/-- The back-off exponent's ceiling: below MIN_BE it acts as MIN_BE (R195). -/
def State.maxBe (s : State) : Nat := max (s.rd MAC_RETRY_MAX_BE) (s.rd MAC_RETRY_MIN_BE)

/-- A frame was not acknowledged: it is retried with back-off in a shared cell, or dropped after its last retry (R188,
R189). The draw is a free value. -/
def State.ackMissed (s : State) (f : QFrame) : State :=
  if s.rd MAC_RETRY_MAX ≤ f.tries then s.txFailed f
  else
    let (d, s) := s.draw
    s.requeue f.serial fun f =>
      { f with tries := f.tries + 1, waiting := false, planned := false,
               skip := if f.shared then d % 2 ^ f.be else 0, be := min s.maxBe (f.be + 1) }

/-- MAC_QUEUE_ENQUEUE (R150, R153, R178, R191): a message enters the queue with its number. -/
def execMacQueueEnqueue (m : OutMessage) (seq : Nat) (s : State) : Host.Outcome State Fault Refusal :=
  .next (s.working 0x04 fun s => s.macOffer m seq)

end Sys2Proof.Machine
end

