-- ==== Sys2Proof/Machine/GrgFill.lean ====
section
/-! DEFINITION. A campaign's messages: offers, blocks and queries (R230, R549). -/

namespace Sys2Proof.Machine

/-- A count of a register where 0 acts as 1 (R553). -/
def State.atLeastOne (s : State) (f : Field) : Nat := max 1 (s.rd f)

/-- IMAGE_BLOCK messages in the MAC queue. -/
def State.blocksQueued (s : State) : Nat := (s.mac.queue.filter fun f => f.msg.type == 0x0F).length

/-- Send block n of the campaign's image. -/
def State.sendBlock (s : State) (c : Campaign) (n : Nat) : State :=
  let data := s.norOctets c.place (n * c.blockSize) (min c.blockSize (c.image.size - n * c.blockSize))
  (s.count GRG_NODE_BLOCKS 1).sprSend ⟨0x0F, .broadcast, [c.type, 0] ++ toOctets 2 n ++ toOctets 4 c.image.version ++ data, []⟩

/-- Send blocks while fewer than INFLIGHT are in the MAC queue. -/
def State.sendBlocks (s : State) (c : Campaign) : Nat → List Nat → List Nat × State
  | 0, l => (l, s)
  | _ + 1, [] => ([], s)
  | f + 1, n :: t =>
    if s.atLeastOne GRG_NODE_INFLIGHT ≤ s.blocksQueued then (n :: t, s)
    else (s.sendBlock c n).sendBlocks c f t

/-- QUERY with bit 5 to each target that is pending (R229, R549). -/
def State.sendQueries (s : State) : State :=
  (s.grg.targets.filter fun t => t.2 == 1).foldl (fun s t => s.sprSend ⟨0x0D, .node t.1, [0x20], []⟩) s

/-- The sweep of a round goes on: blocks as the queue takes them, then the queries (R549). -/
def State.campaignFill (s : State) : State :=
  match s.grg.campaign with
  | none => s
  | some c =>
    if c.offers ≠ 0 ∨ c.waiting then s
    else
      let (rest, s) := s.sendBlocks c c.todo.length c.todo
      if rest.isEmpty then
        { s with grg := { s.grg with campaign := some { c with todo := [], missing := [], waiting := true } } }.sendQueries
      else { s with grg := { s.grg with campaign := some { c with todo := rest } } }

end Sys2Proof.Machine
end

