-- ==== Sys2Proof/Machine/Psdu.lean ====
section
/-! DEFINITION. The octets of a mesh frame on air: the MAC header, the information elements, CCM* and the FCS (R174, R178 to R180). -/

namespace Sys2Proof.Machine

/-! ### CCM* with AES-128 and a nonce of 13 octets (R180; IEEE 802.15.4) -/

/-- CBC-MAC over octets in blocks of 16. -/
def cbcMac (key : List Nat) : Nat → List Nat → List Nat → List Nat
  | 0, x, _ => x
  | n + 1, x, m => if m.isEmpty then x else cbcMac key n (aes key (xorOctets x (m.take 16))) (m.drop 16)

/-- Octets filled up with zeros to whole blocks of 16. -/
def blocks16 (m : List Nat) : List Nat := m ++ List.replicate ((16 - m.length % 16) % 16) 0

/-- The authentication tag of CCM* before its encryption: `mic` octets over the authenticated and the encrypted data. -/
def ccmAuth (key nonce a m : List Nat) (mic : Nat) : List Nat :=
  let flags := (if a.isEmpty then 0 else 64) + 8 * ((mic - 2) / 2) + 1
  let head := [flags] ++ nonce ++ beOctets 2 m.length
  let data := head ++ (if a.isEmpty then [] else blocks16 (beOctets 2 a.length ++ a)) ++ blocks16 m
  (cbcMac key (data.length / 16) (List.replicate 16 0) data).take mic

/-- Block i of CCM*'s key stream. -/
def ccmBlock (key nonce : List Nat) (i : Nat) : List Nat := aes key ([1] ++ nonce ++ beOctets 2 i)

/-- The data encrypted, and the encrypted tag after it. -/
def ccmSeal (key nonce a m : List Nat) (mic : Nat) : List Nat :=
  xorOctets m ((List.range ((m.length + 15) / 16)).flatMap fun i => ccmBlock key nonce (i + 1)) ++
  xorOctets (ccmAuth key nonce a m mic) (ccmBlock key nonce 0)

/-- The nonce: the source's extended address, the frame counter and the security level (R180), the most significant octet of each first
(PRESUMED from IEEE 802.15.4: log entry 161). -/
def meshNonce (ext counter level : Nat) : List Nat := beOctets 8 ext ++ beOctets 4 counter ++ [level]

/-! ### The FCS: CRC-16 of IEEE 802.15.4 -/

def crc16Bit (c : Nat) : Nat := if c % 2 = 1 then Nat.xor (c / 2) 0x8408 else c / 2

def crc16Octet (c b : Nat) : Nat := iterate crc16Bit 8 (Nat.xor c (b % 256))

def crc16 (l : List Nat) : Nat := l.foldl crc16Octet 0

/-- A PSDU with its FCS of two octets (R177). -/
def withFcs (l : List Nat) : List Nat := l ++ toOctets 2 (crc16 l)

/-! ### Headers (R174, R178, R179; the bits of Frame Control are PRESUMED from IEEE 802.15.4: log entry 161) -/

/-- Frame Control: frame type, acknowledgement request, PAN ID compression, sequence number suppressed, IE present, and the addressing
modes of destination and source, 0 none, 2 short, 3 extended; security on, frame version 2. -/
def frameControl (kind : Nat) (ackReq panComp seqOff ie : Bool) (dst src : Nat) : List Nat :=
  let bit := fun (b : Bool) (i : Nat) => if b then 2 ^ i else 0
  toOctets 2 (kind + 8 + bit ackReq 5 + bit panComp 6 + bit seqOff 8 + bit ie 9 + 1024 * dst + 8192 + 16384 * src)

/-- The auxiliary security header: the level, key identifier mode 1 with a key index or mode 0 without, and the frame counter. -/
def auxHeader (level counter : Nat) (index : Option Nat) : List Nat :=
  match index with
  | some x => [level + 8] ++ toOctets 4 counter ++ [x]
  | none => [level] ++ toOctets 4 counter

/-- The PSDU of a data frame with short addresses (R178): `key` secures it at level 6. -/
def dataPsdu (key : List Nat) (ext pan src dst seq counter index : Nat) (ackReq : Bool) (payload : List Nat) : List Nat :=
  let head := frameControl 1 ackReq true false false 2 2 ++ [seq] ++ toOctets 2 pan ++ toOctets 2 dst ++ toOctets 2 src ++
    auxHeader 6 counter (some index)
  withFcs (head ++ ccmSeal key (meshNonce ext counter 6) head payload 8)

/-- The PSDU of a JOIN_RSP, with extended addresses (R178, R198). -/
def joinPsdu (key : List Nat) (ext pan dst seq counter index : Nat) (ackReq : Bool) (payload : List Nat) : List Nat :=
  let head := frameControl 1 ackReq false false false 3 3 ++ [seq] ++ toOctets 2 pan ++ toOctets 8 dst ++ toOctets 8 ext ++
    auxHeader 6 counter (some index)
  withFcs (head ++ ccmSeal key (meshNonce ext counter 6) head payload 8)

/-- The PSDU of an enhanced beacon (R174): header termination 1, then the MLME payload IE with the TSCH synchronisation, timeslot and
channel hopping IEs. -/
def beaconPsdu (key : List Nat) (ext counter pan dst src index asn metric slotId hopId : Nat) : List Nat :=
  let head := frameControl 0 false true true true 2 2 ++ toOctets 2 pan ++ toOctets 2 dst ++ toOctets 2 src ++
    auxHeader 1 counter (some index)
  let ies := toOctets 2 0x3F00 ++ toOctets 2 0x880E ++ toOctets 2 0x1A06 ++ toOctets 5 asn ++ [metric] ++
    toOctets 2 0x1C01 ++ [slotId % 256] ++ toOctets 2 0xC801 ++ [hopId % 256]
  withFcs (head ++ ies ++ ccmSeal key (meshNonce ext counter 1) (head ++ ies) [] 4)

/-- The PSDU of an enhanced acknowledgement (R179): the time correction IE carries the correction in bits 11:0. -/
def ackPsdu (key : List Nat) (ext counter pan dst seq : Nat) (correction : Int) (nack : Bool) : List Nat :=
  let head := frameControl 2 false false false true 2 0 ++ [seq] ++ toOctets 2 pan ++ toOctets 2 dst ++ auxHeader 1 counter none ++
    toOctets 2 0x0F02 ++ toOctets 2 (codeOf 12 correction + if nack then 32768 else 0)
  withFcs (head ++ ccmSeal key (meshNonce ext counter 1) head [] 4)

end Sys2Proof.Machine
end

