-- ==== Sys2Proof/Machine/Spr.lean ====
section
/-! DEFINITION. The Folgil Segment Protocol: parsing and handling of reports, joins, schedules, submissions and the claim
heartbeat (R197 to R235, R568). -/

namespace Sys2Proof.Machine

/-! ### Octets and packets -/

/-- Words of four octets, the last one filled up with zeros. -/
def packWords : List Nat → List Nat
  | [] => []
  | [a] => [ofOctets [a]]
  | [a, b] => [ofOctets [a, b]]
  | [a, b, c] => [ofOctets [a, b, c]]
  | a :: b :: c :: d :: t => ofOctets [a, b, c, d] :: packWords t

/-- The octets of a packet, its PAD taken off (R435). -/
def packetOctets (p : Packet) : List Nat :=
  (p.words.flatMap fun w => toOctets 4 w).take (4 * p.words.length - p.pad)

/-- A report to a Slip queue as octets. -/
def State.slqPushOctets (s : State) (q kind prio : Nat) (l : List Nat) : State :=
  s.slqPush q kind prio (packWords l) ((4 - l.length % 4) % 4)

/-- A little-endian value in octets. -/
def le (l : List Nat) (off n : Nat) : Nat := ofOctets ((l.drop off).take n)

/-! ### The mesh schedule's tables (R161 to R163) -/

/-- A slotframe's LENGTH; 0 where it is disabled. -/
def State.sfLength (s : State) (h : Nat) : Nat := if bitAt (s.w8 0x04 (8 * h + 2)) 0 then s.w16 0x04 (8 * h) else 0

/-- A link of the link table (R162). -/
structure MeshLink where
  index : Nat
  sf : Nat
  tx : Bool
  rx : Bool
  shared : Bool
  timekeeping : Bool
  advertising : Bool
  valid : Bool
  timeslot : Nat
  chOffset : Nat
  cells : Nat
  peer : Nat
  role : Nat
  phy : Nat
deriving DecidableEq, Repr

/-- MAC_HOP.LEN as it acts (R163). -/
def State.hopLen (s : State) : Nat := max 1 (min 128 (s.rd MAC_HOP_LEN))

def State.link (s : State) (n : Nat) : MeshLink :=
  let b := fun o => s.w8 0x04 (0x10000 + 16 * n + o)
  let role := b 8 % 8
  { index := n, sf := b 0 % 8, tx := bitAt (b 0) 3, rx := bitAt (b 0) 4, shared := bitAt (b 0) 5,
    timekeeping := bitAt (b 0) 6, advertising := bitAt (b 0) 7, valid := bitAt (b 1) 0,
    timeslot := s.w16 0x04 (0x10000 + 16 * n + 2), chOffset := b 4, cells := max 1 (b 5 % 64),
    peer := s.w16 0x04 (0x10000 + 16 * n + 6), role := if 5 ≤ role then 0 else role, phy := b 9 % 16 }

/-- A link that CH_OFFSET makes invalid (R163). -/
def State.linkBadOffset (s : State) (l : MeshLink) : Bool :=
  l.valid && ((l.chOffset != 0xFF && s.hopLen ≤ l.chOffset) || (l.chOffset == 0xFF && l.tx))

/-- The links in use: VALID, of an enabled slotframe, with a slot within its LENGTH and a channel offset of the hop list,
by slotframe handle and then index (R162, R163, R165). -/
def State.links (s : State) : List MeshLink :=
  let all := ((List.range 16384).map s.link).filter fun l =>
    l.valid && l.timeslot < s.sfLength l.sf && !s.linkBadOffset l
  (List.range 8).flatMap fun h => all.filter fun l => l.sf == h

/-- A channel centre of the hop list (R163). -/
def State.hopFreq (s : State) (k : Nat) : Nat := s.w32 0x04 (0x100 + 4 * k) % 2 ^ 20

/-! ### SCHEDULE (R225) -/

/-- Cut a list into parts of at most n elements. -/
def chunks {α : Type} (n : Nat) : Nat → List α → List (List α)
  | 0, _ => []
  | _ + 1, [] => []
  | f + 1, l => l.take n :: chunks n f (l.drop n)

/-- The bodies of one section's parts: SECTION, SEQ_ID, PART, LAST and the data. -/
def State.sectionBodies (s : State) (sec : Nat) (parts : List (List Nat)) : List (List Nat) :=
  parts.mapIdx fun k d => [sec, s.rd MAC_HOP_SEQ_ID, k, parts.length - 1] ++ d

/-- A link's record in the node's view: a module TX link is node RX (R225). -/
def linkRecord (l : MeshLink) : List Nat :=
  [l.sf, (if l.rx then 1 else 0) + (if l.tx then 2 else 0) + (if l.shared then 4 else 0) +
    (if l.timekeeping then 8 else 0) + (if l.advertising then 16 else 0)] ++
  toOctets 2 l.timeslot ++ [l.chOffset, l.cells, l.phy, 0]

/-- The node's view of the links: those for every peer or for this node, in link-index order, up to 64 (R225). -/
def State.nodeLinks (s : State) (i : Nat) : List MeshLink :=
  (((List.range 16384).map s.link).filter fun l =>
    l.valid && l.timeslot < s.sfLength l.sf && !s.linkBadOffset l && (l.peer == 0xFFFF || l.peer == 0x0100 + i)).take 64

/-- The module's own short address: values other than 0 and 1 act as 0 (R157, R195). -/
def State.selfShort (s : State) : Nat := if s.rd MAC_SELF_SHORT = 1 then 1 else 0

def State.ownExt (s : State) : Nat := s.rd MAC_EXT_LO + 2 ^ 32 * s.rd MAC_EXT_HI

/-- The extended addresses of modules 0x0000 and 0x0001 (R225). -/
def State.moduleExt (s : State) (k : Nat) : Nat :=
  if s.selfShort = k then s.ownExt else if s.rdB CLM_CTRL_PAIRED then Config.partnerExt else 0

/-- All four sections for a node (R225). -/
def State.scheduleBodies (s : State) (i : Nat) : List (List Nat) :=
  let hops := (List.range s.hopLen).map fun k => (k, s.hopFreq k)
  let frames := ((List.range 8).filter fun h => s.sfLength h != 0).flatMap fun h => [h, 0] ++ toOctets 2 (s.sfLength h)
  s.sectionBodies 0 [[s.hopLen, 0, 0, 0] ++ toOctets 8 (s.moduleExt 0) ++ toOctets 8 (s.moduleExt 1)] ++
  s.sectionBodies 1 [frames] ++
  s.sectionBodies 2 ((chunks 15 128 hops).map fun c =>
    [(c.headD (0, 0)).1, c.length] ++ c.flatMap fun h => toOctets 4 h.2) ++
  s.sectionBodies 3 ((chunks 7 64 (s.nodeLinks i)).map fun c => [c.length] ++ c.flatMap linkRecord)

/-- A node reported SCHED_STALE: all four sections, at most once per holdoff (R225). -/
def State.schedStale (s : State) (i : Nat) : State :=
  let now := s.moduleTime
  let hold := max 1 (s.rd SPR_SCHED_HOLDOFF) * 1000000000
  let soon := match Sparse.get s.spr.schedAt i with
    | some t => decide (now < t + hold)
    | none => false
  if !s.rdB SPR_CTRL_SCHED_AUTO || soon || !s.meshTx then s
  else
    let s := { s with spr := { s.spr with schedAt := Sparse.insert s.spr.schedAt i now } }
    (s.scheduleBodies i).foldl (fun s b => s.sprSend ⟨0x0B, .node i, b, []⟩) s

/-! ### Joins and keys (R186, R187, R222 to R224) -/

/-- A network key wrapped under a node's key of index 4 with the key wrap of RFC 3394 (R222, R223). -/
def State.wrapped (s : State) (index i : Nat) : List Nat :=
  keyWrap (toOctets 16 (nodeKey (s.keyOf (s.ent i 0x0C 1 % 64)) (s.entExt i))) (toOctets 16 (s.keyOf (s.netSlot index)))

/-- Whether a network key may leave wrapped for an entry's node: the key has WRAP_PAYLOAD, and the entry's KEY_SLOT names a good CLASS slot
with NODE_KEY (R181, R485, R486). -/
def State.wrapGood (s : State) (index i : Nat) : Bool := s.keyGood (s.netSlot index) 2 2 && s.indexKey 4 0 (some i)

/-- KEY_UPDATE of a key index for an entry (R224, R485). -/
def State.sendKeyUpdate (s : State) (i index : Nat) : State :=
  if !s.wrapGood index i then s else s.sprSend ⟨0x0C, .node i, [index, 0] ++ s.wrapped index i, []⟩

/-- JOIN_RSP with STATUS 0 for an entry, and KEY_UPDATE for the other network key (R222, R224). -/
def State.sendJoinOk (s : State) (i : Nat) : State :=
  let cur := 2 + s.rd MAC_KEY_NET_CUR
  if !s.wrapGood cur i then s
  else
    (s.sprSend ⟨0x0A, .joiner (s.entExt i) (some i), [0, cur] ++ toOctets 2 (0x0100 + i) ++ s.wrapped cur i, []⟩).sendKeyUpdate i (5 - cur)

/-- A JOIN_RSP that refuses a join: 1 UNKNOWN, 2 FULL (R222). -/
def State.sendJoinRefusal (s : State) (ext status : Nat) : State :=
  s.sprSend ⟨0x0A, .joiner ext none, [status, 0, 0xFF, 0xFF], []⟩

/-! ### Receiving (R204, R210, R221, R232 to R234) -/

/-- What the MAC passes to SPR: the entry, whether the source was an extended address, the destination, the key index, the module
time of the SFD's end, and the MAC payload. -/
structure FspRx where
  entry : Nat
  extSource : Bool
  dst : MeshAddr
  keyIndex : Nat
  sfd : Nat
  payload : List Nat
deriving DecidableEq, Repr

def FspRx.type (r : FspRx) : Nat := r.payload.headD 0
def FspRx.body (r : FspRx) : List Nat := r.payload.drop 4

/-- The least body length that a type requires (R218, R222, R230). -/
def bodyNeeds (t : Nat) (body : List Nat) : Nat :=
  let c := body.headD 0
  if t = 0x20 then 8
  else if t = 0x21 then 1 + 4 * c
  else if t = 0x22 then 1 + 6 * c
  else if t = 0x23 then 12
  else if t = 0x24 then 1 + 2 * c
  else if t = 0x25 then 8
  else if t = 0x26 then 12
  else 8

/-- Whether an address is of the short form. -/
def shortForm : MeshAddr → Bool
  | .short _ => true
  | _ => false

/-- Why a message is malformed: 2 for a wrong key index or address form, short or extended, 1 for every other case, 0 if it is well formed
(R204). -/
def FspRx.fault (r : FspRx) : Nat :=
  let t := r.type
  let c := r.body.headD 0
  if r.payload.length < 4 ∨ r.payload.getD 1 0 % 16 ≠ 1 ∨ t < 0x20 ∨ 0x27 < t ∨ bitAt (r.payload.getD 1 0) 4 then 1
  else if t = 0x20 ∧ (!r.extSource ∨ r.keyIndex ≠ 1 ∨ !shortForm r.dst) then 2
  else if t ≠ 0x20 ∧ (r.extSource ∨ r.keyIndex ≠ 4 ∨ !shortForm r.dst) then 2
  else if r.body.length < bodyNeeds t r.body then 1
  else if (t = 0x21 ∨ t = 0x22 ∨ t = 0x24) ∧ (c = 0 ∨ 4 < c) then 1
  else 0

/-- A record for queue U0 (R232). -/
def uplinkRecord (i t sfd len : Nat) (octets : List Nat) : List Nat :=
  toOctets 2 i ++ [t, 0] ++ toOctets 8 sfd ++ toOctets 2 len ++ [0, 0] ++ octets

/-- A malformed message is counted, recorded in SPR_ERR, and forwarded with FWD_BAD (R204, R232). -/
def State.sprMalformed (s : State) (r : FspRx) (reason : Nat) : State :=
  let s := ((s.count SPR_MALFORMED 1).wrAll
    [(SPR_ERR_INDEX, r.entry), (SPR_ERR_TYPE, r.type), (SPR_ERR_REASON, reason)]).notice SPR_NOTE_MALFORMED
  if s.rdB SPR_CTRL_FWD_BAD then
    s.slqPushOctets 0 r.type 1 (uplinkRecord r.entry r.type r.sfd r.payload.length r.payload)
  else s

/-- The events of a PRESENCE body: sensor, strength, age. -/
def presEvents (body : List Nat) : List (Nat × Nat × Nat) :=
  (List.range (body.headD 0)).map fun k => (le body (1 + 4 * k) 1, le body (2 + 4 * k) 1, le body (3 + 4 * k) 2)

/-- The latest event: the one of the smallest age. -/
def latestEvent : List (Nat × Nat × Nat) → Option (Nat × Nat × Nat)
  | [] => none
  | e :: t =>
    match latestEvent t with
    | none => some e
    | some g => if g.2.2 < e.2.2 then some g else some e

/-- The instant of an event: the SFD's end minus AGE ms (R221). -/
def eventTime (sfd age : Nat) : Nat := codeOf 64 ((sfd : Int) - age * 1000000)

/-- PRESENCE: each event with a known age goes to the Drift intake with the entry's vertex (R221). -/
def State.sprPresence (s : State) (i sfd : Nat) (body : List Nat) : State :=
  let evs := presEvents body
  let v := s.ent i 0x10 2
  let s := s.setEnt i 0x68 2 ((s.ent i 0x68 2 + evs.length) % 65536)
  let s := match latestEvent evs with
    | none => s
    | some (sensor, strength, age) =>
      let s := (s.setEnt i 0x6A 1 sensor).setEnt i 0x6B 1 strength
      if age = 0xFFFF then s else s.setEnt i 0x60 8 (eventTime sfd age)
  evs.foldl (fun s e =>
    if e.2.2 = 0xFFFF ∨ v = 0xFFFF then s.count SPR_PRES_STALE 1
    else (s.count SPR_PRES_EVENTS 1).drfDetect v (eventTime sfd e.2.2) e.2.1 e.1) s

/-- DAYLIGHT goes to Temper with the entry's zone (R221). -/
def State.sprDaylight (s : State) (i : Nat) (body : List Nat) : State :=
  let l := (List.range (body.headD 0)).map fun k => (le body (1 + 6 * k) 1, le body (3 + 6 * k) 4)
  let s := (s.setEnt i 0x6C 4 (l.headD (0, 0)).2).setEnt i 0x88 4 (s.calNow.secs % 2 ^ 32)
  if s.ent i 0x12 2 = 0xFFFF then s else s.tmpDaylight (s.ent i 0x12 2) i l

/-- ENERGY goes to EMU (R221). -/
def State.sprEnergy (s : State) (i sfd : Nat) (body : List Nat) : State :=
  (((s.setEnt i 0x70 8 (le body 0 8)).setEnt i 0x78 2 (le body 8 2)).setEnt i 0x8C 4 (s.calNow.secs % 2 ^ 32)).emurEnergy i
    (le body 0 8) (le body 8 2) sfd

/-- TEMPERATURE: the channels reported (R218, R234). -/
def State.sprTemperature (s : State) (i : Nat) (body : List Nat) : State :=
  (s.setBytes 0x05 (256 * i + 0x7C) ((body.drop 1).take (2 * body.headD 0))).setEnt i 0x90 4 (s.calNow.secs % 2 ^ 32)

/-- FAULT: a bit that rises sets the notice (R221). -/
def State.sprFault (s : State) (i : Nat) (body : List Nat) : State :=
  let new := le body 0 4
  let old := s.ent i 0x84 4
  (s.setEnt i 0x84 4 new).noticeIf ((List.range 32).any fun b => bitAt new b && !bitAt old b) SPR_NOTE_FAULT

/-- STATUS: the node's claim, the superseded and conflict bits, and its schedule (R210, R221). -/
def State.sprStatus (s : State) (i : Nat) (body : List Nat) : State :=
  let held := le body 0 4
  let flags := body.getD 4 0
  let sup := decide (s.rd SPR_CLAIM < held)
  let conf := bitAt flags 2
  let st := (if sup then 1 else 0) + (if conf then 2 else 0) + (if bitAt flags 1 then 4 else 0)
  let s := ((((s.setEnt i 0x40 4 held).setEnt i 0x44 1 st).setEnt i 0x47 1 (body.getD 5 0)).setEnt i 0x48 4 (le body 8 4)).setEnt
    i 0x94 4 (s.calNow.secs % 2 ^ 32)
  let s := if conf then (s.count SPR_CONFLICT 1).notice SPR_NOTE_CONFLICT else s
  let s := if sup then ((s.count SPR_SUPERSEDED 1).notice SPR_NOTE_SUPERSEDED).clmSuperseded else s
  if bitAt flags 3 then s.schedStale i else s

/-- JOIN_REQ: what the entry records (R222). -/
def State.sprJoinReq (s : State) (i : Nat) (body : List Nat) : State :=
  s.setBytes 0x05 (256 * i + 0x45) ([body.getD 0 0, body.getD 1 0, body.getD 2 0] ++ (body.drop 4).take 4)

/-- Forward an accepted report whose bit is set in SPR_FWD (R232). -/
def State.sprForward (s : State) (r : FspRx) : State :=
  if 0x21 ≤ r.type ∧ bitAt (s.rd SPR_FWD) (r.type - 0x21) then
    s.slqPushOctets 0 r.type (if r.type = 0x25 ∨ r.type = 0x26 then 4 else 2)
      (uplinkRecord r.entry r.type r.sfd r.body.length r.body)
  else s

/-- What SPR does with a frame that the MAC passes on (R204, R221, R568). -/
def State.sprReceive (s : State) (r : FspRx) : State :=
  if !s.rdB SPR_CTRL_EN then s
  else if r.fault ≠ 0 then s.sprMalformed r r.fault
  else
    let i := r.entry
    let b := r.body
    let s := (s.count SPR_RX_MSG 1).setEnt i 0x4E 2 (le r.payload 2 2)
    let s :=
      if r.type = 0x20 then s.sprJoinReq i b
      else if r.type = 0x21 then s.sprPresence i r.sfd b
      else if r.type = 0x22 then s.sprDaylight i b
      else if r.type = 0x23 then s.sprEnergy i r.sfd b
      else if r.type = 0x24 then s.sprTemperature i b
      else if r.type = 0x25 then s.sprFault i b
      else if r.type = 0x26 then (s.sprStatus i b).grgFirmware i (le b 8 4)
      else s.grgNodeStatus i b
    s.sprForward r

/-! ### Submissions (R231) -/

/-- Octets of values that a V code stands for (R212); code 3 is none. -/
def valueOctets (v : Nat) : Nat := if v = 0 then 2 else if v = 1 then 4 else if v = 2 then 8 else 0

/-- The size of a CONFIG_SET parameter (R229); 0 for an unknown one. -/
def paramSize (p : Nat) : Nat := if p = 0x0B then 1 else if 1 ≤ p ∧ p ≤ 0x0A then 2 else 0

/-- The range of a parameter's value (R229). -/
def paramRange (p : Nat) : Nat × Nat :=
  ([(1, 0), (10, 3600), (0, 65535), (50, 10000), (10, 3600), (1, 100), (60, 3600), (10, 3600), (5, 500), (60, 65535), (10, 600),
    (0, 127)]).getD p (1, 0)

/-- Whether octets are a sequence of one or more pairs of a known PARAM and a value in its range (R229). -/
def pairsWhole : Nat → List Nat → Bool
  | 0, _ => false
  | _ + 1, [] => false
  | n + 1, p :: t =>
    let k := paramSize p
    let v := le t 0 k
    if k = 0 ∨ t.length < k ∨ v < (paramRange p).1 ∨ (paramRange p).2 < v then false
    else if t.length = k then true else pairsWhole n (t.drop k)

/-- Whether a submission's body is as this chapter gives it for its type (R215, R228, R229, R231). -/
def bodyFits (t : Nat) (b : List Nat) : Bool :=
  if t = 0x02 then
    b.length == 4 + valueOctets (b.getD 3 0 % 4) && b.getD 3 0 % 4 != 3 && le b 0 2 < 1024
  else if t = 0x03 then b.length == 2 + valueOctets (b.getD 1 0 % 4) && b.getD 1 0 % 4 != 3
  else if t = 0x05 then b.length == 2 && le b 0 2 ≤ 3600
  else if t = 0x06 then pairsWhole b.length b
  else if t = 0x07 then
    b.headD 9 ≤ 8 && b.length == 1 + 2 * b.headD 0 &&
    (List.range (b.headD 0)).all fun k => le b (1 + 2 * k) 2 < 1024
  else if t = 0x08 then b.length == 2
  else if t = 0x0C then b.length == 1 && (b.headD 0 == 2 || b.headD 0 == 3)
  else b.length == 1

/-- A refused submission (R231). -/
def State.sprRefuse (s : State) (i t reason : Nat) : State :=
  ((s.count SPR_REFUSED 1).wrAll [(SPR_ERR_INDEX, i), (SPR_ERR_TYPE, t), (SPR_ERR_REASON, reason)]).notice SPR_NOTE_REFUSED

/-- A submission, judged by its header, its entry, its body and its length (R231). -/
def State.sprSubmit (s : State) (o : List Nat) : State :=
  let dest := le o 0 2
  let t := le o 2 1
  let b := o.drop 8
  if !s.meshTx then (s.count SPR_DROP_CLAIM 1).notice SPR_NOTE_DROP_CLAIM
  else if o.length < 8 ∨ le o 4 2 ≠ b.length then s.sprRefuse dest t 1
  else if !([0x02, 0x03, 0x05, 0x06, 0x07, 0x08, 0x0C, 0x0D].contains t) then s.sprRefuse dest t 2
  else if (t = 0x02 ∧ dest ≠ 0xFFFF) ∨ (t ≠ 0x02 ∧ t ≠ 0x05 ∧ dest = 0xFFFF) then s.sprRefuse dest t 2
  else if dest ≠ 0xFFFF ∧ (8192 ≤ dest ∨ s.entType dest ≠ 1 ∨ s.entByte dest = 0) then s.sprRefuse dest t 3
  else if !bodyFits t b then s.sprRefuse dest t 1
  else if t = 0x0C ∧ !s.keyGood (s.netSlot (b.headD 0)) 2 2 then s
  else
    let d : MeshDest := if dest = 0xFFFF then .broadcast else .node dest
    let m : OutMessage := ⟨t, d, if t = 0x0C then [b.headD 0, 0] ++ s.wrapped (b.headD 0) dest else b, []⟩
    if 2048 ≤ psduOf m then ((s.count MAC_TOO_LONG 1).notice MAC_NOTE_TOO_LONG).sprRefuse dest t 4
    else s.sprSend m

/-- SPR takes a submission from D0 (R231); with EN 0 it takes none (R568). -/
def State.sprTake (s : State) : State :=
  if !s.rdB SPR_CTRL_EN then s
  else
    match s.slqTake 0 with
    | none => s
    | some (p, s) => s.sprSubmit (packetOctets p)

/-! ### The commands -/

/-- CLAIM_HEARTBEAT (R211): a CLAIM command with an empty body. -/
def execClaimHeartbeat (s : State) : Host.Outcome State Fault Refusal :=
  .next (s.working 0x06 fun s =>
    if s.rdB SPR_CTRL_EN && s.rdB SPR_CTRL_HB_EN then s.sprSend ⟨0x04, .broadcast, [], []⟩ else s)

/-- SPR_SUBMISSION (R231, R568). -/
def execSprSubmission (s : State) : Host.Outcome State Fault Refusal := .next (s.working 0x06 State.sprTake)

/-- SPR_ENABLE_WRITE (R568). -/
def execSprEnableWrite (port : Port) (en : Bool) (s : State) : Host.Outcome State Fault Refusal :=
  .next (s.effect port SPR_CTRL_EN.addr fun s => s.wrB SPR_CTRL_EN en)

end Sys2Proof.Machine
end

