-- ==== Sys2Proof/Machine/Mac.lean ====
section
/-! DEFINITION. The time-slotted mesh MAC: slot numbers, slot plans, transmission, reception, joining (R157 to R191). -/

namespace Sys2Proof.Machine

/-! ### Slot numbers (R170 to R173) -/

/-- The part of a step still to be absorbed moves by at most 20 µs in a slot (R171). -/
def slewTo0 (x : Int) : Int := if x.natAbs ≤ 20000 then 0 else if 0 < x then x - 20000 else x + 20000

/-! ### Frame counters (R182) -/

def fcField (key : Nat) : Field := if key = 4 then MAC_TX_FC4 else MAC_TX_FC

/-- Whether a frame under a key index can still be secured. -/
def State.fcLeft (s : State) (key : Nat) : Bool := s.rd (fcField key) != 0xFFFFFFFF

/-- Secure a frame: the counter it uses rises by 1; a reservation stores the ASN, and FC_LOW is set at 0xFFFF_0000 (R172,
R182). -/
def State.fcUse (s : State) (key : Nat) : Nat × State :=
  let c := s.rd (fcField key)
  let s := if c % 65536 = 0 then
      { s with mac := { s.mac with asnStored := s.mac.asn, asnStoredAt := s.cal.pulses } } else s
  (c, (s.wr (fcField key) (c + 1)).noticeIf (c + 1 == 0xFFFF0000) MAC_NOTE_FC_LOW)

/-! ### Which cell carries which frame (R160, R165, R200) -/

/-- Whether the acknowledgement of a frame is requested (R188): of a unicast frame, a JOIN_RSP to an entry among them (R202). -/
def State.wantsAck (s : State) (m : OutMessage) : Bool :=
  match m.dest with
  | .node i => bitAt (s.ent i 0x0D 1) 0
  | .joiner _ (some i) => bitAt (s.ent i 0x0D 1) 0
  | _ => false

/-- Whether a cell fits a frame (R160). -/
def State.cellFits (s : State) (l : MeshLink) (psdu : Nat) (ack : Bool) : Bool :=
  s.txOffset + s.airTime l.phy psdu + (if ack then 1000 + s.airTime l.phy 22 else 0) + 400 ≤ l.cells * 10000

/-- Whether a link's PEER takes a message. -/
def peerTakes (l : MeshLink) (m : OutMessage) : Bool :=
  l.peer == 0xFFFF ||
  (match m.dest with
   | .node i => l.peer == 0x0100 + i
   | _ => false)

/-- The roles of links for a type, in order of preference (R200). -/
def rolesFor (t : Nat) : List Nat :=
  if t = 0x01 ∨ t = 0x02 ∨ t = 0x04 then [1]
  else if t = 0x0A then [3, 0, 1]
  else if t = 0x0E ∨ t = 0x0F then [4, 0]
  else [0, 1]

/-- The role that a message is placed on: the first of its list that offers a link which fits it (R160, R200). -/
def State.placeRole (s : State) (ls : List MeshLink) (m : OutMessage) : Option Nat :=
  (rolesFor m.type).find? fun r =>
    ls.any fun l => l.tx && l.role == r && peerTakes l m && s.cellFits l (psduOf m) (s.wantsAck m)

/-- Whether some link would carry a message but for its length (R160). -/
def offersAny (ls : List MeshLink) (m : OutMessage) : Bool :=
  ls.any fun l => l.tx && (rolesFor m.type).contains l.role && peerTakes l m

/-! ### The slot plan (R164 to R168) -/

/-- Whether MAC transmission may happen: the MAC runs with a PAN identifier, and the matrix allows it (R31, R195). -/
def State.macSends (s : State) : Bool := s.rdB MAC_CTRL_EN && s.rd MAC_PAN_PAN_ID != 0xFFFF && s.meshTx

/-- Whether a transmit cell keeps a channel in one of the slots from `first` to `last` (R165). -/
def State.cellBusy (s : State) (c first last : Nat) : Bool :=
  s.mac.busy.any fun p => p.1 == c && p.2.1 ≤ last && first < p.2.2

/-- The lowest enabled transmit channel that is free in a slot: no cell keeps it, and no transmission planned for the slot or on air
reaches into it (R165). -/
def State.freeChannel (s : State) (asn : Nat) : Option Nat :=
  (List.range 4).find? fun c =>
    s.rdB (RFE_TXCH_CFG_EN c) && !s.cellBusy c asn asn &&
    !((s.mac.plan ++ s.mac.active).any fun t => t.channel == c && asn < t.endAsn)

/-- The charges planned on a budget. -/
def State.plannedOn (s : State) (key : Option Nat) : Nat :=
  ((s.mac.plan.filter fun t => t.budget == key).map AirTx.charge).sum

/-- The centre of a cell in a slot (R163). -/
def State.cellFreq (s : State) (l : MeshLink) (asn : Nat) : Nat := s.hopFreq ((asn + l.chOffset) % s.hopLen)

/-- The power granted: the lowest of the channel's, the entry's and the antenna's (R140). -/
def State.granted (s : State) (c e : Nat) : Nat :=
  min (min 160 (s.rd (RFE_TXCH_CFG_PWR c))) (min (s.band e).maxPwr (s.antCap (s.rd (RFE_TXCH_CFG_ANT c))))

/-- A transmission of a slot to be planned: who sends it, on which channel and link, and what it is charged; its first symbol leaves
at TxOffset (R138, R159). `t` is a module time inside the slot. -/
def State.airTx (s : State) (c : Nat) (l : MeshLink) (asn t e : Nat) (key : Option Nat) (psdu prio fc : Nat) : AirTx :=
  let freq := s.cellFreq l asn
  let starts := codeOf 64 ((t : Int) - s.intoSlot t + 1000 * s.txOffset)
  { channel := c, serial := none, freq := freq, phy := l.phy, entry := e, budget := key, charge := s.chargeOf l.phy psdu,
    power := s.granted c e, claim := 0, counter := fc, psdu := psdu, prio := prio, shared := l.shared, endAsn := asn + l.cells,
    asn := asn, link := some l.index, antenna := s.rd (RFE_TXCH_CFG_ANT c), starts := starts,
    ends := starts + 1000 * s.airTime l.phy psdu, ack := none, beacon := none }

/-- The enhanced beacon of a slot (R174). -/
def State.beaconBody (s : State) (asn : Nat) : BeaconBody :=
  ⟨s.rd MAC_PAN_PAN_ID, 0xFFFF, s.selfShort, 1, asn, 0, s.rd MAC_TS_TX_OFFSET, s.rd MAC_HOP_SEQ_ID⟩

/-- Put a transmission on a channel into the plan. -/
def State.planTx (s : State) (t : AirTx) : State :=
  { s with mac := { s.mac with plan := s.mac.plan ++ [t], busy := s.mac.busy ++ [(t.channel, t.asn, t.endAsn)] } }

/-- A planned beacon that is skipped at its start (R154). -/
def State.lateSkip (s : State) : State :=
  { s with clm := { s.clm with skips := true :: s.clm.skips.drop 1 } }

/-- Whether a charge exceeds the limit of an entry's budget even when that is empty (R154). -/
def State.overLimit (s : State) (e : Nat) (key : Option Nat) (prio c : Nat) : Bool := key.isSome && decide (s.budgetLimit e prio < c)

/-- A beacon or an acknowledgement over its limit is dropped (R154). -/
def State.dropTop (s : State) : State := (s.count (RFE_DROP 3) 1).notice RFE_NOTE_DROP

/-- The beacon of an ADVERTISING cell (R152, R174): it is placed only on a cell that fits it (R160); skipped and counted if it is not
admitted. DESIGN CHOICE: R154 does not order its cases, and a beacon that belongs to no entry counts as out of band, one over its limit as
dropped, before TX_EN is looked at (log entry 164). -/
def State.planBeacon (s : State) (l : MeshLink) (asn c t : Nat) : State :=
  let freq := s.cellFreq l asn
  if !s.cellFits l 38 false then ((s.advert false).count MAC_NOFIT 1).notice MAC_NOTE_NOFIT
  else match s.bandIn s.nextRegion freq l.phy with
  | none => ((s.advert false).count RFE_OOB 1).notice RFE_NOTE_OUT_OF_BAND
  | some e =>
    let key := s.budgetKey e freq
    let ch := s.chargeOf l.phy 38
    if !s.indexKey 1 0 none then (s.advert false).count MAC_SEC_FAIL 1
    else if s.overLimit e key 3 ch then (s.advert false).dropTop
    else if s.radioOn && s.fcLeft 1 && s.admits e key 3 ch (s.plannedOn key) then
      let (fc, s) := s.fcUse 1
      (s.advert false).planTx { s.airTx c l asn t e key 38 3 fc with beacon := some (s.beaconBody asn) }
    else ((s.advert true).count RFE_SKIP 1).notice RFE_NOTE_SKIP

/-- A frame is blocked: it counts once (R151). `hold` is the budget behind which others wait: none where it is no budget that blocks
it (R154). -/
def State.holdFrame (s : State) (f : QFrame) (hold : Option Nat) : State :=
  let s := s.requeue f.serial fun f => { f with counted := true, hold := hold }
  if f.counted then s else (s.count RFE_BLOCKED 1).notice RFE_NOTE_BLOCK

/-- A frame fails the test of R148 and is blocked (R151). -/
def State.blockFrame (s : State) (f : QFrame) (key : Option Nat) : State :=
  s.holdFrame f (some (match key with | none => 0 | some k => k + 1))

/-- Whether a blocked frame of at least the frame's priority stands in the same budget (R151). -/
def State.behindBlocked (s : State) (f : QFrame) (key : Option Nat) : Bool :=
  s.mac.queue.any fun g =>
    g.serial != f.serial && f.prio ≤ g.prio && g.hold == some (match key with | none => 0 | some k => k + 1)

/-- A message that its link's test drops as out of band (R143). -/
def State.dropOob (s : State) (f : QFrame) : State :=
  (((s.dequeue f.serial).count RFE_OOB 1).notice RFE_NOTE_OUT_OF_BAND).frameGone f

/-- A command whose plan finds no claim, or no control, is discarded (R205). -/
def State.dropClaim (s : State) (f : QFrame) : State :=
  (((s.dequeue f.serial).count SPR_DROP_CLAIM 1).notice SPR_NOTE_DROP_CLAIM).frameGone f

/-- A frame whose key Hardpan does not offer fails and is counted (R181). -/
def State.dropKey (s : State) (f : QFrame) : State := ((s.dequeue f.serial).count MAC_SEC_FAIL 1).frameGone f

/-- Whether a frame may take a cell of a link: its destination is JOINED or no entry, and the link's peer takes it. -/
def State.frameReady (s : State) (l : MeshLink) (f : QFrame) : Bool :=
  (match f.msg.dest with
   | .node i => s.entState i == 3
   | _ => true) && !f.planned && !f.waiting && peerTakes l f.msg

/-- A frame takes the cell: its counter, its key and its place in the plan. -/
def State.planFrame (s : State) (l : MeshLink) (asn c t : Nat) (f : QFrame) (e : Nat) (key : Option Nat) : State :=
  let (fc, s) := s.fcUse (s.fspKey f.msg)
  let s := s.requeue f.serial fun f => { f with planned := true, hold := none, shared := l.shared }
  s.planTx { s.airTx c l asn t e key (psduOf f.msg) f.prio fc with
    serial := some f.serial, claim := if fspClaimed f.msg.type then s.rd SPR_CLAIM else 0 }

/-- A frame that fits a cell of band-table entry e is judged (R148, R151, R153, R154, R181, R205): whether it takes the cell, and the
state after. DESIGN CHOICE: R154 does not order its cases; a frame out of band or over its limit is dropped before TX_EN is looked at
(log entry 164). -/
def State.judgeFrame (s : State) (l : MeshLink) (asn c t : Nat) (f : QFrame) (e : Nat) (key : Option Nat) : Bool × State :=
  let ch := s.chargeOf l.phy (psduOf f.msg)
  if s.overLimit e key f.prio ch then (false, ((s.dequeue f.serial).rfeDrop f).frameGone f)
  else if !(s.radioOn && s.fcLeft (s.fspKey f.msg)) then (false, s.holdFrame f none)
  else if s.behindBlocked f key then (false, s)
  else if !s.admits e key f.prio ch (s.plannedOn key) then (false, s.blockFrame f key)
  else if fspClaimed f.msg.type && (s.rd SPR_CLAIM == 0 || !s.meshTx) then (false, s.dropClaim f)
  else if !s.indexKey (s.fspKey f.msg) 0 (destEntry f.msg.dest) then (false, s.dropKey f)
  else (true, s.planFrame l asn c t f e key)

/-- Try one queued frame on a link: whether the cell is taken, and the state after the try (R143, R188, R204). -/
def State.tryFrame (s : State) (ls : List MeshLink) (l : MeshLink) (asn c t : Nat) (f : QFrame) : Bool × State :=
  if !s.frameReady l f then (false, s)
  else
    match s.placeRole ls f.msg with
    | none =>
      if offersAny ls f.msg then
        (false, (((s.dequeue f.serial).count MAC_NOFIT 1).notice MAC_NOTE_NOFIT).frameGone f)
      else (false, s)
    | some r =>
      if r ≠ l.role ∨ !s.cellFits l (psduOf f.msg) (s.wantsAck f.msg) then (false, s)
      else if l.shared && 0 < f.skip then (false, s.requeue f.serial fun f => { f with skip := f.skip - 1 })
      else
        match s.bandIn s.nextRegion (s.cellFreq l asn) l.phy with
        | none => (false, s.dropOob f)
        | some e => s.judgeFrame l asn c t f e (s.budgetKey e (s.cellFreq l asn))

/-- Frames in the order in which a cell tries them: higher priority first, then the order of entry (R150). -/
def cellOrder (l : List QFrame) : List QFrame := [2, 1, 0].flatMap fun p => l.filter fun f => f.prio == p

/-- Try frames until one takes the cell. DESIGN CHOICE: a retry's back-off counts the shared cells in which the frame itself is tried; one
that another frame or a beacon takes, or that finds no free channel, does not count (log entry 165). -/
def State.tryFrames (s : State) (ls : List MeshLink) (l : MeshLink) (asn c at_ : Nat) : List QFrame → State
  | [] => s
  | f :: t =>
    match s.tryFrame ls l asn c at_ f with
    | (true, s) => s
    | (false, s) => s.tryFrames ls l asn c at_ t

/-- One transmit cell of the slot: skipped when no channel is free (R165). -/
def State.planLink (s : State) (ls : List MeshLink) (asn t : Nat) (l : MeshLink) : State :=
  match s.freeChannel asn with
  | none => if l.advertising then s.advert false else s
  | some c =>
    if l.advertising && s.rdB MAC_CTRL_EB_EN then s.planBeacon l asn c t
    else (if l.advertising then s.advert false else s).tryFrames ls l asn c t (cellOrder s.mac.queue)

/-- Where the module is not in control, the commands that wait are discarded at the plan (R205). -/
def State.dropCommands (s : State) : State :=
  (s.mac.queue.filter fun f => fspClaimed f.msg.type && !f.planned && !f.waiting).foldl State.dropClaim s

/-- Frames for entries that closed are dropped at the plan and count in MAC_TX_FAIL; one whose attempt is not over, planned or waiting for
its acknowledgement, completes that first (R191). -/
def State.dropClosed (s : State) : State :=
  s.mac.queue.foldl (fun s f =>
    match f.msg.dest with
    | .node i =>
      if closedTo (s.entState i) && !f.planned && !f.waiting then ((s.dequeue f.serial).count MAC_TX_FAIL 1).frameGone f else s
    | _ => s) s

/-- The channel offsets that an RX link receives in a slot, with their centres. -/
def State.rxChannels (s : State) (l : MeshLink) (asn : Nat) : List (Nat × Nat) :=
  let offs := if l.chOffset = 0xFF then List.range s.hopLen else [l.chOffset]
  let offs := if s.modes.power = .doze then offs.filter (· == s.rd MAC_DOZE_CH_OFFSET) else offs
  offs.map fun c => (c, s.hopFreq ((asn + c) % s.hopLen))

/-- Put a link in its place by link index. -/
def insertLink (l : MeshLink) : List MeshLink → List MeshLink
  | [] => [l]
  | g :: t => if l.index ≤ g.index then l :: g :: t else g :: insertLink l t

/-- Links by link index, whatever their slotframe (R168). -/
def linksByIndex (l : List MeshLink) : List MeshLink := l.foldr insertLink []

/-- The distinct pairs of channel and PHY that a slot's RX links need, by channel offset and then link index (R167,
R168). -/
def State.rxNeeds (s : State) (active : List MeshLink) (asn : Nat) : List (Nat × Nat) :=
  let all := (linksByIndex active).flatMap fun l => (s.rxChannels l asn).map fun p => (p.1, p.2, l.phy)
  ((List.range 128).flatMap fun c => (all.filter fun t => t.1 == c).map fun t => (t.2.1, t.2.2)).eraseDups

/-- The MAC's pool of demodulator slots, limited by the power state (R135, R167, R169). -/
def State.rxPool (s : State) : List Nat := (List.range 128).filter fun n => s.macSlot n && n < s.slotLimit

/-- The chain whose span contains a channel, chain 0 first, and the other one if it does too (R167). -/
def State.rxChains (s : State) (p : Nat × Nat) : List Nat := [0, 1].filter fun k => s.inSpan k p.1 p.2

/-- Primary copies, then diversity copies on the other chain (R167, R168). -/
def State.rxWanted (s : State) (needs : List (Nat × Nat)) : List (Nat × Nat × Nat) :=
  (needs.filterMap fun p => (s.rxChains p).head?.map fun k => (k, p)) ++
  (if s.rdB MAC_CTRL_DIVERSITY then needs.filterMap fun p => (s.rxChains p).tail.head?.map fun k => (k, p) else [])

/-- Retune a slot of the pool, or stop it (R133, R167). -/
def State.tuneSlot (s : State) (n : Nat) (w : Option (Nat × Nat × Nat)) : State :=
  match w with
  | some (k, f, phy) =>
    s.setBytes 0x03 (16 * n) (toOctets 4 f ++ [1 + 2 * k + 4, s.slotPhyByte n / 16 % 2 * 16 + phy])
  | none => s.setBytes 0x03 (16 * n + 4) [4]

/-- Tune the pool's slots in order. -/
def State.tunePool (s : State) : List Nat → List (Nat × Nat × Nat) → State
  | [], _ => s
  | n :: t, [] => (s.tuneSlot n none).tunePool t []
  | n :: t, w :: ws => (s.tuneSlot n (some w)).tunePool t ws

/-- The cells that the pool's slots receive, in order: those wanted, as far as the slots go. -/
def rxCellsOf (asn endAsn : Nat → Nat) : List Nat → List (Nat × Nat × Nat) → List RxCell
  | n :: t, w :: ws => ⟨n, asn n, endAsn (w.2.1 * 16 + w.2.2), w.1, w.2.1, w.2.2, true⟩ :: rxCellsOf asn endAsn t ws
  | _, _ => []

/-- The slot after the longest of the cells that need a channel and PHY. -/
def State.rxEnd (s : State) (active : List MeshLink) (asn : Nat) (freq phy : Nat) : Nat :=
  asn + ((active.filter fun l => l.phy == phy && ((s.rxChannels l asn).any fun p => p.2 == freq)).map MeshLink.cells).foldl max 1

/-- The cells in reception: those of earlier slots that have not ended, and those of the pool's enabled slots. -/
def State.receiving (s : State) (asn : Nat) (cells : List RxCell) : State :=
  { s with mac := { s.mac with
    rxCells := (s.mac.rxCells.filter fun c => asn ≤ c.endAsn) ++ cells.filter fun c => s.slotEnabled c.slot } }

/-- Reception in a slot: the pool is assigned, and the pairs it cannot serve count in MAC_RX_SHORT (R167, R168). A slot inside a frame
of a long cell keeps receiving it (R165): `inFrame` are the demodulator slots that are inside a frame. A pair that lies in neither
chain's span is served by no slot and counts too (DEDUCED: log entry 138). -/
def State.planRx (s : State) (active : List MeshLink) (asn : Nat) (inFrame : List Nat) : State :=
  let s := s.ownSlots
  let held := (s.mac.rxCells.filter fun c => asn < c.endAsn && inFrame.contains c.slot)
  let needs := s.rxNeeds active asn
  let wanted := s.rxWanted needs
  let pool := s.rxPool.filter fun n => !(held.any fun c => c.slot == n)
  let unserved := needs.length - min pool.length (needs.filterMap fun p => (s.rxChains p).head?).length
  let cells := rxCellsOf (fun _ => asn) (fun k => s.rxEnd active asn (k / 16) (k % 16)) pool wanted
  let s := ((s.tunePool pool wanted).slotsCheck).receiving asn cells
  if unserved = 0 then s else (s.count MAC_RX_SHORT unserved).notice MAC_NOTE_RX_SHORT

/-- Put the MAC's slot counting: what of the realignment is still to come, and the ASN of the slot planned. -/
def State.withSlot (s : State) (realign : Bool) (follow : Option Int) (dev slew : Int) (asn : Nat) : State :=
  { s with mac := { s.mac with realign := realign, follow := follow, dev := dev, slew := slew, asn := asn } }

/-- The MAC has started its slots (R144). -/
def State.slotsRun (s : State) : State := { s with mac := { s.mac with slotting := true } }

/-- The cells in hand as the count comes to a slot: transmit cells that have ended are forgotten, and all are where the count has moved
back (R165, R171). -/
def State.cellsAt (s : State) (asn : Nat) : State :=
  if asn < s.mac.asn then { s with mac := { s.mac with busy := [], rxCells := [] } }
  else { s with mac := { s.mac with busy := s.mac.busy.filter fun p => asn < p.2.2 } }

/-- The slot that starts 500 µs from now is counted (R164, R171): a realignment takes effect at its boundary, and the slew and the ASN
go on. -/
def State.countSlot (s : State) : State :=
  let asn := s.asnAt (s.moduleTime + 500000)
  let s := if s.mac.realign && (s.sfLength 0 == 0 || asn % s.sfLength 0 == 0) then
      (s.withSlot false none 0 0 s.mac.asn).wr MAC_STATUS_ASN_DEV 0
    else s.withSlot s.mac.realign s.mac.follow s.mac.dev (slewTo0 s.mac.slew) s.mac.asn
  let asn := s.asnAt (s.moduleTime + 500000)
  (s.cellsAt asn).withSlot s.mac.realign s.mac.follow s.mac.dev s.mac.slew asn

/-- The links of a slot that send are planned: first the frames that can no longer go are dropped (R165, R191, R205). -/
def State.planCells (s : State) (ls active : List MeshLink) (asn : Nat) : State :=
  let s := s.dropClosed
  let s := if s.meshTx then s else s.dropCommands
  (active.filter MeshLink.tx).foldl (fun s l =>
    if s.macSends then s.planLink ls asn (s.moduleTime + 500000) l else if l.advertising then s.advert false else s) s

/-- The plan of the next slot, built 500 µs before it starts (R164): c is the raw count of the instant, `inFrame` the demodulator
slots that are then inside a frame. A link that sends in the slot does not receive in it (R165). -/
def State.planSlot (s : State) (c : Nat) (inFrame : List Nat) : State :=
  let s := s.reach c
  if !s.rdB MAC_CTRL_EN then s
  else
    let s := s.slotsRun.countSlot
    let asn := s.mac.asn
    let s := s.noticeIf ((List.range 16384).any fun n => s.linkBadOffset (s.link n)) MAC_NOTE_CFG_ERR
    let ls := s.links
    let active := ls.filter fun l => asn % s.sfLength l.sf == l.timeslot
    let s := s.planCells ls active asn
    s.planRx (active.filter fun l => l.rx && !(s.mac.plan.any fun t => t.link == some l.index && t.asn == asn)) asn inFrame

/-! ### Transmission (R130, R138, R140, R146) -/

/-- The code of a band-table entry in RFE_TXCH_STAT.ENTRY. -/
def entryCode (e : Nat) : Nat := min e 30

/-- The queued frame of a transmission. -/
def State.frameOf (s : State) (t : AirTx) : Option QFrame :=
  match t.serial with
  | none => none
  | some n => s.mac.queue.find? fun f => f.serial == n

/-- A planned transmission leaves the plan without going on air: its frame stands in the queue again. -/
def State.unplan (s : State) (t : AirTx) : State :=
  match t.serial with
  | none => s
  | some n => s.requeue n fun f => { f with planned := false }

/-- A beacon or an acknowledgement is skipped at its start (R152). -/
def State.skipTx (s : State) (t : AirTx) : State :=
  let s := if t.beacon.isSome then s.lateSkip else s
  (s.count RFE_SKIP 1).notice RFE_NOTE_SKIP

/-- Where a planned transmission stands in the set in force at its start: the entry, and its budget (R143, R144). -/
def State.txPlace (s : State) (t : AirTx) : Option (Nat × Option Nat) :=
  (s.bandFor t.freq t.phy).map fun e => if e = t.entry then (e, t.budget) else (e, s.budgetKey e t.freq)

/-- The octets of the key of an index (R181): for index 4 the node's own. -/
def State.meshKey (s : State) (index : Nat) (entry : Option Nat) : List Nat :=
  toOctets 16 <|
    if index = 1 then s.keyOf (s.rd MAC_KEY_JOIN)
    else if index = 4 then (entry.map fun i => nodeKey (s.keyOf (s.ent i 0x0C 1 % 64)) (s.entExt i)).getD 0
    else s.keyOf (s.netSlot index)

/-- The PSDU of a queued frame, sent from MAC_SELF.SHORT in MAC_PAN.PAN_ID (R157, R178, R180). -/
def State.framePsdu (s : State) (t : AirTx) (f : QFrame) : List Nat :=
  let index := s.fspKey f.msg
  let key := s.meshKey index (destEntry f.msg.dest)
  let text := fspOctets f.msg f.seq t.claim
  let short := fun (dst : Nat) =>
    dataPsdu key s.ownExt (s.rd MAC_PAN_PAN_ID) s.selfShort dst (f.serial % 256) t.counter index (s.wantsAck f.msg) text
  match f.msg.dest with
  | .broadcast => short 0xFFFF
  | .node i => short (0x0100 + i)
  | .joiner ext _ => joinPsdu key s.ownExt (s.rd MAC_PAN_PAN_ID) ext (f.serial % 256) t.counter index (s.wantsAck f.msg) text

/-- The PSDU of a transmission (R174, R178 to R180). -/
def State.psduOctets (s : State) (t : AirTx) : List Nat :=
  match t.beacon, t.ack, s.frameOf t with
  | some b, _, _ =>
    beaconPsdu (s.meshKey 1 none) s.ownExt t.counter b.pan b.dst b.src b.keyIndex b.asn b.joinMetric b.timeslotId b.hopId
  | none, some a, _ =>
    ackPsdu (s.meshKey a.keyIndex (some (a.dst - 0x0100))) s.ownExt t.counter a.pan a.dst a.seqNo a.correction a.nack
  | none, none, some f => s.framePsdu t f
  | none, none, none => []

/-- A transmission goes on air: the charge, the power granted, the PA, and what is sent (R138, R140, R146). -/
def State.goAir (s : State) (t : AirTx) (lost : Nat) : State :=
  let s := match t.budget with
    | some k => s.charge k t.charge
    | none => s.wr RFE_LAST_CHARGE t.charge
  let s := s.wrAll [(RFE_TXCH_STAT_GRANTED t.channel, t.power), (RFE_TXCH_STAT_ENTRY t.channel, entryCode t.entry),
    (RFE_TXCH_STAT_ACTIVE t.channel, 1), (paField t.antenna, 1)]
  let s := { s with mac := { s.mac with active := s.mac.active ++ [t] } }.count CHN_LOST_BLANK lost
  s.emit (.air t ((s.frameOf t).map QFrame.msg) ((s.frameOf t).elim [] fun f => fspOctets f.msg f.seq t.claim) (s.psduOctets t))

/-- A transmission that another set's entry holds at its start is judged there (R144, R148, R151, R154): it goes on air, is dropped over its
limit, is skipped or blocked, or stands behind a blocked frame. -/
def State.goOther (s : State) (t : AirTx) (e : Nat) (key : Option Nat) (lost : Nat) : State :=
  let here := { t with entry := e, budget := key, power := s.granted t.channel e }
  match s.frameOf t with
  | none =>
    if s.overLimit e key t.prio t.charge then s.dropTop
    else if s.admits e key t.prio t.charge 0 then s.goAir here lost else s.skipTx t
  | some f =>
    if s.overLimit e key t.prio t.charge then ((s.dequeue f.serial).rfeDrop f).frameGone f
    else if s.behindBlocked f key then s.unplan t
    else if s.admits e key t.prio t.charge 0 then s.goAir here lost
    else (s.unplan t).blockFrame f key

/-- A planned transmission starts on air at its instant; `lost` frames were in progress on the antenna's chain. It is judged again
where the radio was turned off (R154), the module lost control (nothing is built for air) or the set in force has changed since the
plan (R144). -/
def State.txStart (s : State) (c lost : Nat) : State :=
  match s.mac.plan.find? fun t => t.channel == c with
  | none => s
  | some t =>
    let s := { s with mac := { s.mac with plan := s.mac.plan.eraseP fun u => u.channel == c } }
    if !s.meshTx then s.unplan t
    else if !s.radioOn then
      match s.frameOf t with
      | none => s.skipTx t
      | some f => (s.unplan t).holdFrame f none
    else
      match s.txPlace t with
      | none =>
        match s.frameOf t with
        | none => (s.count RFE_OOB 1).notice RFE_NOTE_OUT_OF_BAND
        | some f => s.dropOob f
      | some (e, key) => if e = t.entry then s.goAir t lost else s.goOther t e key lost

/-- A transmission ends at a raw count, its PA ramped down with its last channel: the channel is free, the chain stays blanked for
50 µs more, `load` says that the reflected power passed its level (R140), and a queued frame is done or waits for its acknowledgement
(R130, R188). MAC_TX_OK counts every frame sent to completion (R195). -/
def State.txEnd (s : State) (c at_ : Nat) (load : Bool) : State :=
  let s := (s.reach at_).noticeIf load RFE_NOTE_PA_LOAD
  match s.mac.active.find? fun t => t.channel == c with
  | none => s
  | some t =>
    let s := { s with mac := { s.mac with active := s.mac.active.eraseP fun u => u.channel == c } }
    let s := s.wr (RFE_TXCH_STAT_ACTIVE c) 0
    let s := if s.mac.active.any fun u => u.antenna == t.antenna then s
      else (s.wr (paField t.antenna) 0).deafen t.antenna (s.moduleTime + 50000)
    match s.frameOf t with
    | none => if t.serial.isNone then s.count MAC_TX_OK 1 else s
    | some f =>
      if s.wantsAck f.msg then s.requeue f.serial fun f => { f with waiting := true, planned := false } else s.delivered f

/-- Every held frame is discarded and counted, at a tamper alarm or on entry to HOLD (R154). -/
def State.discardHeld (s : State) : State :=
  let l := s.mac.queue
  let s := { s with mac := { s.mac with queue := [], plan := [] } }
  l.foldl (fun s f => (s.rfeDrop f).frameGone f) s

/-! ### Acknowledgements of the module (R179, R190) -/

/-- A transmit channel on the antenna of ACK_ANT that is free from an acknowledgement's first symbol to its last (R190). -/
def State.ackChannel (s : State) (first last : Nat) : Option Nat :=
  (List.range 4).find? fun c =>
    s.rdB (RFE_TXCH_CFG_EN c) && s.rd (RFE_TXCH_CFG_ANT c) == s.rd MAC_CTRL_ACK_ANT && !s.cellBusy c (s.asnAt first) (s.asnAt last) &&
    !((s.mac.plan ++ s.mac.active).any fun t => t.channel == c && t.starts ≤ last && first ≤ t.ends)

/-- The time correction of an acknowledgement: TxOffset minus the measured end of the SFD in its slot, in µs (R179). -/
def State.ackCorrection (s : State) (f : RxFrame) : Int := (s.txOffset : Int) - s.intoSlot f.sfd / 1000

/-- The acknowledgement of a received frame, if the module may send it (R152, R182, R185, R190): it takes a free channel at TxAckDelay
after the frame's last symbol, and starts there as any planned transmission. -/
def State.sendAck (s : State) (dst : Nat) (f : RxFrame) : State :=
  if !s.macSends then s
  else if !s.fcLeft f.frame.keyIndex then
    if f.frame.keyIndex = 4 then s else (s.count RFE_SKIP 1).notice RFE_NOTE_SKIP
  else if !s.indexKey f.frame.keyIndex 0 (some (dst - 0x0100)) then s.count MAC_SEC_FAIL 1
  else
    let first := f.ends + 1000000
    let last := first + 1000 * s.airTime f.phy 22
    match s.ackChannel first last with
    | none => s.count MAC_ACK_NOCH 1
    | some c =>
      match s.bandFor f.freq f.phy with
      | none => (s.count RFE_OOB 1).notice RFE_NOTE_OUT_OF_BAND
      | some e =>
        let key := s.budgetKey e f.freq
        let ch := s.chargeOf f.phy 22
        if s.overLimit e key 3 ch then s.dropTop
        else if s.radioOn && s.admits e key 3 ch (s.plannedOn key) then
          let (fc, s) := s.fcUse f.frame.keyIndex
          { s with mac := { s.mac with plan := s.mac.plan ++ [
            { channel := c, serial := none, freq := f.freq, phy := f.phy, entry := e, budget := key, charge := ch,
              power := s.granted c e, claim := 0, counter := fc, psdu := 22, prio := 3, shared := false,
              endAsn := s.asnAt last + 1, asn := s.asnAt first, link := none, antenna := s.rd (RFE_TXCH_CFG_ANT c),
              starts := first, ends := last, beacon := none,
              ack := some ⟨dst, f.frame.seqNo, f.frame.keyIndex, s.ackCorrection f, false, s.rd MAC_PAN_PAN_ID⟩ }] } }
        else (s.count RFE_SKIP 1).notice RFE_NOTE_SKIP

/-! ### Reception (R176 to R186) -/

/-- The partner's short address (R157, R176). -/
def State.partnerShort (s : State) : Nat := 1 - s.selfShort

/-- Octets of an address in a header. -/
def addrLen : MeshAddr → Nat
  | .none => 0
  | .short _ => 2
  | .ext _ => 8

/-- Octets of the MIC at a security level: none, 4, 8 or 16 (IEEE 802.15.4's levels, of which R180 uses 1 and 6). -/
def micLen (level : Nat) : Nat := [0, 4, 8, 16].getD (level % 4) 0

/-- How many PAN identifiers a header of frame version 2 has, by its addresses and PAN ID compression (IEEE 802.15.4: log entry 161). -/
def panCount (m : MeshFrame) : Nat :=
  match m.dst, m.src with
  | .none, .none => if m.panComp then 1 else 0
  | .none, _ => if m.panComp then 0 else 1
  | _, .none => if m.panComp then 0 else 1
  | .ext _, .ext _ => if m.panComp then 0 else 1
  | _, _ => if m.panComp then 1 else 2

/-- The least PSDU length for what the Frame Control and the PHR imply (R177): Frame Control, sequence number, PAN identifiers, addresses,
the descriptor of an information element, auxiliary security header, MIC and FCS. -/
def leastLen (m : MeshFrame) : Nat :=
  (if m.seqOff then 2 else 3) + 2 * panCount m + addrLen m.dst + addrLen m.src + (if m.ie then 2 else 0) +
  (if m.secLevel = 0 then 0 else if m.kind = 2 then 5 else 6) + micLen m.secLevel + (if m.fcs4 then 4 else 2)

/-- A frame that the MAC counts as malformed (R177, R178). -/
def State.macMalformed (s : State) (m : MeshFrame) : Bool :=
  m.version != 2 || 3 ≤ m.kind || m.len < leastLen m ||
  (m.kind == 0 && m.src != .short s.partnerShort)

/-- RX_FC of a key index, if it holds a value (R183, R192). -/
def State.rxFc (s : State) (i x : Nat) : Option Nat :=
  if bitAt (s.ent i 0x30 1) (x - 1) then some (s.ent i (0x20 + 4 * (x - 1)) 4) else none

def State.setRxFc (s : State) (i x c : Nat) : State :=
  (s.setEnt i (0x20 + 4 * (x - 1)) 4 c).setEnt i 0x30 1 (setBit (s.ent i 0x30 1) (x - 1))

/-- RX_FC2 to RX_FC4 become "none" (R183, R186). -/
def State.clearRxFc (s : State) (i : Nat) : State :=
  (s.setBytes 0x05 (256 * i + 0x24) (List.replicate 12 0xFF)).setEnt i 0x30 1 (s.ent i 0x30 1 % 2)

/-- The comparison of R183: 0 accepted, 1 duplicate, 2 replay. -/
def fcJudge (last : Option Nat) (c : Nat) : Nat :=
  match last with
  | none => 0
  | some l => if l < c then 0 else if c = l then 1 else 2

/-- The MAC follows the ASN and phase of a partner's beacon (R173). The end of the SFD lies after the preamble and SFD of an FSK frame,
or after the six training symbols of an OFDM one (PRESUMED: log entry 137). -/
def State.followBeacon (s : State) (f : RxFrame) : State :=
  let sync := if f.phy < 4 then 8000000 * (max 4 (s.rd RFE_TX_PHY_PREAMBLE) + 2) / fskRate f.phy else 720
  let start : Int := (f.sfd : Int) - 1000 * (s.txOffset + sync)
  { s with mac := { s.mac with follow := some (start - f.frame.asn * 10000000) } }

/-- A partner's beacon is accepted (R173, R176, R195): MISS returns to 0 and CLM learns of it; in STANDBY the MAC follows its ASN and
phase. -/
def State.partnerBeacon (s : State) (f : RxFrame) : State :=
  let s := s.count MAC_RX_OK 1
  let s := if s.rd MAC_PARTNER_MISS = 0 then s else (s.wr MAC_PARTNER_MISS 0).clmMiss
  let s := s.clmBeacon
  if s.modes.role = .standby then s.followBeacon f else s

/-- What the entry records of a frame accepted from its node under a key index (R183, R192, R195). -/
def State.nodeHeard (s : State) (i x : Nat) (f : RxFrame) : State :=
  let s := ((s.setRxFc i x f.frame.counter).setEnt i 0x32 1 f.rssi).setEnt i 0x33 1 f.lqi
  ((s.setEnt i 0x34 8 f.sfd).setEnt i 0xE0 4 ((s.ent i 0xE0 4 + 1) % 2 ^ 32)).count MAC_RX_OK 1

/-- An accepted frame makes an UNREACHABLE entry JOINED again, and one from the node's short address a JOINING entry (R186, R189). -/
def State.nodeAlive (s : State) (i : Nat) (short : Bool) : State :=
  if s.entState i = 4 ∨ (short ∧ s.entState i = 2) then s.setEntState i 3 else s

/-- Whether an address is that of a radio entry in use (R180). -/
def State.radioEntry (s : State) (a : Nat) : Bool :=
  0x0100 ≤ a && a ≤ 0x20FF && s.entByte (a - 0x0100) != 0 && s.entType (a - 0x0100) == 1

/-- Whether a frame's source address has an extended address for the nonce: an extended one has, and so has that of a radio entry in use;
a frame without a source is taken as its sender's (R180; DESIGN CHOICE: log entry 166). -/
def State.knownSource (s : State) : MeshAddr → Bool
  | .none => true
  | .short a => s.radioEntry a
  | .ext _ => true

/-- Whether a frame's source, where it has one, is the node of an entry. -/
def State.sourceIs (s : State) (src : MeshAddr) (i : Nat) : Bool :=
  match src with
  | .none => true
  | .short a => a == 0x0100 + i
  | .ext a => a == s.entExt i

/-- An acknowledgement from the node of an entry for the frame that waits for it, compared and recorded as every frame from a node
(R183, R188, R189). -/
def State.ackFrom (s : State) (i : Nat) (q : QFrame) (f : RxFrame) : State :=
  let x := s.fspKey q.msg
  let short := match f.frame.src with
    | .short _ => true
    | _ => false
  if s.entState i = 5 ∨ !s.sourceIs f.frame.src i then s
  else if !s.indexKey x 1 (some i) then s.count MAC_SEC_FAIL 1
  else
    match fcJudge (s.rxFc i x) f.frame.counter with
    | 0 => ((s.nodeHeard i x f).nodeAlive i short).delivered q
    | 1 => s.count MAC_DUP 1
    | _ => (s.count MAC_REPLAY 1).notice MAC_NOTE_REPLAY

/-- An acknowledgement completes the frame that waits for it under its sequence number, under the key of that frame (R179 to R181, R183,
R188). One that no frame waits for is dropped. -/
def State.macAckRx (s : State) (f : RxFrame) : State :=
  let m := f.frame
  if m.secLevel = 0 ∨ !m.micOk ∨ !s.knownSource m.src then s.count MAC_SEC_FAIL 1
  else
    match s.mac.queue.find? fun q => q.waiting && q.serial % 256 == m.seqNo with
    | some q =>
      match destEntry q.msg.dest with
      | some i => s.ackFrom i q f
      | none => s
    | none => s

/-- The node's FSP frame for SPR. -/
def fspOf (i : Nat) (f : RxFrame) : FspRx :=
  ⟨i, (match f.frame.src with | .ext _ => true | _ => false), f.frame.dst, f.frame.keyIndex, f.sfd, f.frame.payload⟩

/-- A data frame from a short address, after its checks (R180, R183, R185). DEDUCED: a BLOCKED entry's frames are refused before any
check, and no register counts them (R193: log entry 140). -/
def State.macFromNode (s : State) (i : Nat) (f : RxFrame) : State :=
  if s.entState i = 5 then s
  else if !s.indexKey f.frame.keyIndex 1 (some i) || !f.frame.micOk then s.count MAC_SEC_FAIL 1
  else
    match fcJudge (s.rxFc i f.frame.keyIndex) f.frame.counter with
    | 0 =>
      let s := (s.nodeHeard i f.frame.keyIndex f).nodeAlive i true
      let s := if f.frame.ackReq then s.sendAck (0x0100 + i) f else s
      s.sprReceive (fspOf i f)
    | 1 =>
      let s := s.count MAC_DUP 1
      if f.frame.ackReq then s.sendAck (0x0100 + i) f else s
    | _ => (s.count MAC_REPLAY 1).notice MAC_NOTE_REPLAY

/-- Join responses waiting (R187). -/
def State.joinsWaiting (s : State) : Nat := (s.mac.queue.filter fun q => q.msg.type == 0x0A).length

def State.joinRefused (s : State) : State := s.count MAC_JOIN_REFUSED 1

/-- The join of an entry that may join (R186). -/
def State.joinEntry (s : State) (i : Nat) (f : RxFrame) : State :=
  let re := s.entState i = 3 ∨ s.entState i = 4
  let s := (s.clearRxFc i).nodeHeard i f.frame.keyIndex f
  let s := (s.setEntState i 2).count MAC_JOIN_OK 1
  let s := if re then s.count MAC_REJOIN 1 else s
  (s.sprReceive (fspOf i f)).sendJoinOk i

/-- A join request whose replay check it has passed (R186, R187, R568). A request that gets no response changes no entry. -/
def State.macJoinReq (s : State) (ext : Nat) (found : Option Nat) (f : RxFrame) : State :=
  if !s.rdB SPR_CTRL_EN || 32 ≤ s.joinsWaiting then s.joinRefused
  else
    match found with
    | some i => if s.entState i = 5 ∨ s.entType i ≠ 1 then s.joinRefused else s.joinEntry i f
    | none =>
      if !s.rdB MAC_CTRL_AUTO_ADMIT then (s.joinRefused).sendJoinRefusal ext 1
      else
        match s.lowestFree with
        | some i =>
          let s := (((s.setEnt i 0x00 8 ext).setEnt i 0x0A 1 1).setEnt i 0x0C 1 (s.rd MAC_KEY_AUTO_CLASS)).setEnt i 0x0D 1
            (setBit (s.ent i 0x0D 1) 1)
          (s.ntbEnter i).joinEntry i f
        | none =>
          ((((s.count MAC_JOIN_FULL 1).notices [MAC_NOTE_JOIN_FULL, NTB_NOTE_FULL]).silt 0x0401 ext (ext / 2 ^ 32))).sendJoinRefusal
            ext 2

/-- Whether a frame from an extended address is a join request: a well-formed JOIN_REQ under key index 1 that asks for no
acknowledgement (R186, R204). -/
def isJoinReq (f : RxFrame) : Bool := (fspOf 0 f).fault == 0 && !f.frame.ackReq

/-- Any other frame from an extended address: accepted and passed on, for SPR to find malformed (R204). An address that no entry
holds is reported under index 0, and a JOIN_REQ that asks for an acknowledgement under reason 1 (DESIGN CHOICE: log entry 141). -/
def State.macFromExt (s : State) (found : Option Nat) (f : RxFrame) : State :=
  let s := match found with
    | some i => if s.entState i = 5 then s else (s.nodeHeard i f.frame.keyIndex f).nodeAlive i false
    | none => s.count MAC_RX_OK 1
  let r := fspOf (found.getD 0) f
  if !s.rdB SPR_CTRL_EN then s else s.sprMalformed r (max 1 r.fault)

/-- A data frame from an extended address (R180, R183, R186). -/
def State.macJoin (s : State) (ext : Nat) (f : RxFrame) : State :=
  let found := s.ntbFind ext
  if !s.indexKey f.frame.keyIndex 1 found || !f.frame.micOk then s.count MAC_SEC_FAIL 1
  else
    match found.elim 0 fun i => fcJudge (s.rxFc i f.frame.keyIndex) f.frame.counter with
    | 0 => if isJoinReq f then s.macJoinReq ext found f else s.macFromExt found f
    | 1 => s.count MAC_DUP 1
    | _ => (s.count MAC_REPLAY 1).notice MAC_NOTE_REPLAY

/-- Whether the module is an addressee of a data frame: of 0x0000 and 0x0001, of all, or by its own extended address; a frame with no
destination is its coordinator's (R199; PRESUMED from IEEE 802.15.4 beyond it: log entry 142). -/
def State.macAddressed (s : State) : MeshAddr → Bool
  | .none => true
  | .short a => a == 0 || a == 1 || a == 0xFFFF
  | .ext a => a == s.ownExt

/-- The MAC takes a received frame (R177 to R186). DESIGN CHOICE: a frame of another PAN, or for another station, is dropped and no
register counts it (log entry 142); a data frame from the partner's short address, for which R180 gives no outcome, counts in
MAC_SEC_FAIL (log entry 143). -/
def State.macTakes (s : State) (f : RxFrame) : State :=
  let m := f.frame
  if !s.rdB MAC_CTRL_EN || !s.rxWindow f.sfd then s
  else if s.macMalformed m then s.count MAC_MALFORMED 1
  else if m.pan ≠ s.rd MAC_PAN_PAN_ID then s
  else if m.kind = 0 then
    if m.secLevel = 0 ∨ m.keyIndex ≠ 1 ∨ !s.indexKey 1 1 none ∨ !m.micOk then s.count MAC_SEC_FAIL 1
    else s.partnerBeacon f
  else if m.kind = 2 then s.macAckRx f
  else if !s.macAddressed m.dst then s
  else if m.secLevel < 6 then s.count MAC_SEC_FAIL 1
  else
    match m.src with
    | .ext a => s.macJoin a f
    | .short a =>
      if s.radioEntry a then s.macFromNode (a - 0x0100) f
      else s.count MAC_SEC_FAIL 1
    | .none => s.count MAC_SEC_FAIL 1

/-- The MAC takes the oldest frame of the frame buffer; one `lost` to an uncorrectable memory error or a failed carry check is dropped,
and those after it keep their order (R233, R561, R563). -/
def State.macReceive (s : State) (lost : Bool) : State :=
  match s.mac.frameBuf with
  | [] => s
  | f :: t =>
    let s := { s with mac := { s.mac with frameBuf := t } }
    if lost then s.itgReadError 1 0x03 else s.macTakes f

/-- An ADVERTISING cell ends without a valid partner beacon, watched for in STANDBY and PRIMARY, and while a paired
module waits at its start (R176, R465). -/
def State.partnerMiss (s : State) : State :=
  if s.modes.role = .standby ∨ s.modes.role = .primary ∨ s.rdB CLM_STATUS_WAITING then
    let n := s.rd MAC_PARTNER_MISS
    if 3 ≤ n then s
    else
      let s := s.wr MAC_PARTNER_MISS (n + 1)
      (s.noticeIf (n == 0) MAC_NOTE_PARTNER_MISS).clmMiss
  else s

/-- The start of the MAC's numbering (R172): the greater of the computed ASN and the stored one aged by the elapsed count;
MAC_ASN_EPOCH moves by whole slots where the stored one is greater. A frame counter that has resumed at 0xFFFF_0000 or above sets FC_LOW
(R182). -/
def State.macStart (s : State) (unknown : Bool) : State :=
  let s := s.noticeIf (0xFFFF0000 ≤ s.rd MAC_TX_FC || 0xFFFF0000 ≤ s.rd MAC_TX_FC4) MAC_NOTE_FC_LOW
  let here := s.asnAt s.moduleTime
  let slots := ((s.cal.pulses - s.mac.asnStoredAt) * 100 + 32767) / 32768
  let stored := if unknown then s.mac.asnStored + 100000 else s.mac.asnStored + slots + 1
  if here < stored then
    let e := codeOf 64 ((s.asnEpoch : Int) - (stored - here) * 10000000)
    (s.wr MAC_ASN_EPOCH_LO e).wr MAC_ASN_EPOCH_HI (e / 2 ^ 32)
  else s

/-! ### The commands -/

/-- TSCH_SLOT_PLAN (R163 to R169, R191, R205). -/
def execTschSlotPlan (c : Nat) (inFrame : List Nat) (s : State) : Host.Outcome State Fault Refusal :=
  .next (s.working 0x04 fun s => (s.planSlot c inFrame).campaignFill)

/-- MAC_REALIGN (R171): taken at the next start of slotframe 0. -/
def execMacRealign (port : Port) (s : State) : Host.Outcome State Fault Refusal :=
  .next (s.effect port MAC_CTRL_REALIGN.addr fun s => { s with mac := { s.mac with realign := true } })

/-- TX_FRAME_START (R138, R140, R146, R154). -/
def execTxFrameStart (c lost : Nat) (s : State) : Host.Outcome State Fault Refusal :=
  .next (s.working 0x02 fun s => s.txStart c lost)

/-- TX_FRAME_END (R130, R188); a campaign hands over its next blocks (R549). -/
def execTxFrameEnd (c at_ : Nat) (load : Bool) (s : State) : Host.Outcome State Fault Refusal :=
  .next (s.working 0x02 fun s => (s.txEnd c at_ load).campaignFill)

/-- MAC_FRAME_RECEIVED (R176 to R187). -/
def execMacFrameReceived (lost : Bool) (s : State) : Host.Outcome State Fault Refusal :=
  .next (s.working 0x04 fun s => s.macReceive lost)

/-- PARTNER_BEACON_MISS (R176). -/
def execPartnerBeaconMiss (s : State) : Host.Outcome State Fault Refusal := .next (s.working 0x04 State.partnerMiss)

/-- JOIN_TIMEOUT (R186). -/
def execJoinTimeout (i : Nat) (s : State) : Host.Outcome State Fault Refusal :=
  .next (s.working 0x04 fun s => if s.entState i = 2 then s.setEntState i 1 else s)

/-- ACK_WAIT_EXPIRY (R188, R189): the frame with this order number was not acknowledged. -/
def execAckWaitExpiry (n : Nat) (s : State) : Host.Outcome State Fault Refusal :=
  .next (s.working 0x04 fun s =>
    match s.mac.queue.find? fun f => f.serial == n && f.waiting with
    | some f => s.ackMissed f
    | none => s)

end Sys2Proof.Machine
end

