-- ==== Sys2Proof/Machine/Grog.lean ====
section
/-! DEFINITION. Grog: staging, confirmation and node image campaigns (R533 to R553). -/

namespace Sys2Proof.Machine

/-! ### Containers (R534 to R536) -/

/-- The header of 192 octets (R534). -/
def grgHeaderOf (b : List Nat) : GrgHeader :=
  { target := le b 4 1, form := le b 5 1, secEpoch := le b 6 1, version := le b 8 4, baseVersion := le b 12 4, size := le b 16 4,
    blocks := le b 20 4, module := le b 24 4, reqs := [le b 32 4, le b 36 4, le b 40 4], hash := le b 48 32,
    baseHash := le b 80 32 }

/-- Cause 1 of R537: MAGIC, TARGET or FORM invalid, or SIZE or BLOCKS out of range. -/
def grgFormBad (b : List Nat) (h : GrgHeader) : Bool :=
  b.length != 192 || b.take 4 != [0x47, 0x52, 0x47, 0x31] || !(h.target < 3 || (0x10 ≤ h.target && h.target < 0x20)) || 2 ≤ h.form ||
  h.size == 0 || (if h.target < 3 then 2 ^ 24 else 2 ^ 21) < h.size || h.blocks != blockCount h.size 4096

/-- Whether MODULE matches SYS_VERSION: revision code 0x03, stepping 0xB1 or any (R1, R534). -/
def grgModuleOk (h : GrgHeader) : Bool := octet h.module 3 == 0x03 && (octet h.module 2 == 0xB1 || octet h.module 2 == 0xFF)

/-- Compatibility with the images that are running (R541); a node image's REQ fields are 0. -/
def State.grgCompatible (s : State) (h : GrgHeader) : Bool :=
  if 3 ≤ h.target then h.reqs == [0, 0, 0]
  else
    (List.range 3).all fun y =>
      y == h.target ||
      (h.reqs.getD y 0 ≤ s.imageVersion (s.runPlace y) &&
       (((s.image (s.runPlace y)).map fun i => i.reqs.getD h.target 0).getD 0) ≤ h.version)

/-- Whether the signature of a header is good (R534, R535): by the vendor key for a processor, and for a node type by the key of
GRG_CFG.VERIFY_SLOT, which must be VALID, of class VERIFY and with VERIFY_IMAGE. -/
def State.grgSigned (s : State) (b : List Nat) (h : GrgHeader) : Bool :=
  if h.target < 3 then vendorSigned (b.take 128) ((b.drop 128).take 64)
  else s.keyGood (s.rd GRG_CFG_VERIFY_SLOT) 4 5 &&
    ecdsaGood (toOctets 64 (s.keyOf (s.rd GRG_CFG_VERIFY_SLOT))) (b.take 128) ((b.drop 128).take 64)

/-- Whether `size` octets of a place have a hash (R539). -/
def State.hashed (s : State) (place size hash : Nat) : Bool := sha256 (s.norOctets place 0 size) == toOctets 32 hash

/-- The state of the staging (R553). -/
def State.stageState (s : State) : Nat := s.rd GRG_STAGE_STAT_STATE

/-- The cause for which a header is refused, 0 for none (R537). -/
def State.grgHeaderCause (s : State) (b : List Nat) (h : GrgHeader) : Nat :=
  if grgFormBad b h then 1
  else if !grgModuleOk h then 2
  else if !s.grgSigned b h then 3
  else if h.target < 3 ∧ h.secEpoch < s.rd GRG_SEC_EPOCH then 4
  else if h.form = 1 ∧ (h.baseVersion ≠ s.imageVersion (otherPlace (s.targetPlace h.target)) ∨
      (s.image (otherPlace (s.targetPlace h.target))).isNone) then 5
  else if !s.grgCompatible h then 6
  else if h.target < 3 ∧ s.onTrial then 7
  else if s.stageState = 1 ∨ s.stageState = 4 ∨ s.grg.asking.isSome then 8
  else 0

/-- A header is refused with a cause (R537). -/
def State.grgRefuse (s : State) (cause : Nat) : State := (s.wr GRG_STAGE_STAT_RESULT cause).notice GRG_NOTE_STAGE_FAIL

/-- A header: refused, or it asks for STAGING (R537). -/
def State.grgHeader (s : State) (b : List Nat) : State :=
  let h := grgHeaderOf b
  let cause := s.grgHeaderCause b h
  if cause ≠ 0 then s.grgRefuse cause
  else { s with grg := { s.grg with asking := some h }, modeReqs := s.modeReqs ++ [⟨.grog .staging, 0, 0⟩] }

/-- The target bank or copy is erased and left invalid. -/
def State.grgErase (s : State) (place : Nat) : State :=
  { s with grg := { s.grg with images := Sparse.erase s.grg.images place,
                               nor := s.grg.nor.filter fun e => e.1 / 4096 != place } }

/-- STAGING is granted to the header that asked (R537). -/
def State.stageBegin (s : State) : State :=
  match s.grg.asking with
  | none => s
  | some h =>
    let s := s.grgErase (s.targetPlace h.target)
    let s : State := { s with grg := { s.grg with header := some h, map := [], asking := none, fresh := s.moduleTime } }
    let s := s.wrAll [(GRG_STAGE_STAT_TARGET, h.target), (GRG_STAGE_STAT_STATE, 1), (GRG_STAGE_STAT_RESULT, 0), (GRG_STAGE_CNT_DONE, 0),
      (GRG_STAGE_CNT_TOTAL, h.blocks)]
    s.grgEvent 1 h.target 0 h.blocks h.version

/-- STAGING is granted again after a pause: the missing blocks are listed in U3 (R540). -/
def State.stageResume (s : State) (h : GrgHeader) : State :=
  let s := s.wrAll [(GRG_STAGE_STAT_TARGET, h.target), (GRG_STAGE_STAT_STATE, 1)]
  let s : State := { s with grg := { s.grg with fresh := s.moduleTime } }
  (((List.range h.blocks).filter fun b => !s.grg.map.contains b)).foldl (fun s b => s.grgEvent 3 h.target 0 b h.version) s

/-- A staging fails or is abandoned: the axis returns to IDLE and the bank or copy is left invalid (R539, R540). -/
def State.stageFail (s : State) (cause : Nat) : State :=
  match s.grg.header with
  | none => { s with grg := { s.grg with asking := none } }
  | some h =>
    let s : State := { s with grg := { s.grg with header := none, map := [], asking := none } }
    let s := s.wrAll [(GRG_STAGE_STAT_STATE, 3), (GRG_STAGE_STAT_RESULT, cause)]
    ((s.setGrog .idle).notice GRG_NOTE_STAGE_FAIL).grgEvent 4 h.target cause cause h.version

/-- Read the records of a block packet: the octets that they build, or none where one is malformed or reads beyond the base
(R536, R538). -/
def State.grgBuild (s : State) (h : GrgHeader) (base baseSize : Nat) : Nat → List Nat → List Nat → Option (List Nat)
  | _, out, [] => some out
  | 0, _, _ :: _ => none
  | f + 1, out, op :: r =>
    if op = 3 then
      let n := le r 0 2
      if n = 0 ∨ 4096 < n ∨ r.length < 2 + n then none
      else s.grgBuild h base baseSize f (out ++ (r.drop 2).take n) (r.drop (2 + n))
    else if h.form = 1 ∧ (op = 1 ∨ op = 2) then
      let src := le r 0 4
      let n := le r 4 2
      let d := if op = 2 then (r.drop 6).take n else List.replicate n 0
      if r.length < 6 ∨ n = 0 ∨ 4096 < n ∨ baseSize < src + n ∨ d.length ≠ n then none
      else
        let made := (s.norOctets base src n).zipWith (fun a b => (a + b) % 256) d
        s.grgBuild h base baseSize f (out ++ made) (r.drop (if op = 2 then 6 + n else 6))
    else none

/-- What a block packet builds for its block, checked (R538). -/
def State.grgBlockData (s : State) (h : GrgHeader) (b : List Nat) : Option (Nat × List Nat) :=
  let n := b.length
  let blk := le b 0 4
  if n < 12 ∨ crc32c (b.take (n - 4)) ≠ le b (n - 4) 4 ∨ le b 4 4 ≠ n - 12 ∨ h.blocks ≤ blk then none
  else
    let base := otherPlace (s.targetPlace h.target)
    match s.grgBuild h base (((s.image base).map GrgHeader.size).getD 0) n [] ((b.drop 8).take (n - 12)) with
    | none => none
    | some d => if d.length = min 4096 (h.size - 4096 * blk) then some (blk, d) else none

/-- A block packet (R538). One that arrives outside RECEIVING is discarded. -/
def State.grgBlock (s : State) (b : List Nat) : State :=
  match s.grg.header with
  | none => s
  | some h =>
    if s.stageState ≠ 1 then s
    else
      match s.grgBlockData h b with
      | none => (s.count GRG_BLOCK_BAD 1).grgEvent 2 h.target 0 (le b 0 4) h.version
      | some (blk, d) =>
        let new := !s.grg.map.contains blk
        let s : State := { s with grg := { s.grg with
            nor := Sparse.insert s.grg.nor (4096 * s.targetPlace h.target + blk) d,
            map := if new then s.grg.map ++ [blk] else s.grg.map,
            fresh := if new then s.moduleTime else s.grg.fresh } }
        s.wr GRG_STAGE_CNT_DONE s.grg.map.length

/-- Whether the finished bank or copy, and the base of a delta, have the hashes that the header names (R539). -/
def State.imageGood (s : State) (h : GrgHeader) : Bool :=
  let place := s.targetPlace h.target
  s.hashed place h.size h.hash &&
  (h.form != 1 || s.hashed (otherPlace place) (((s.image (otherPlace place)).map GrgHeader.size).getD 0) h.baseHash)

/-- The final check of a full block map (R539). -/
def State.grgVerify (s : State) : State :=
  match s.grg.header with
  | none => s
  | some h =>
    if s.stageState ≠ 1 ∨ s.grg.map.length ≠ h.blocks then s
    else if !s.imageGood h then s.stageFail 9
    else
      let place := s.targetPlace h.target
      let s : State := { s with grg := { s.grg with
          header := none, map := [], images := Sparse.insert s.grg.images place h,
          offers := if h.target < 3 then s.grg.offers else Sparse.insert s.grg.offers (h.target - 0x10) (place % 2) } }
      let s := s.wrAll [(GRG_STAGE_STAT_STATE, 2), (GRG_STAGE_STAT_RESULT, 0)]
      ((s.setGrog .idle).notice GRG_NOTE_VERIFIED).grgEvent 4 h.target 0 0 h.version

/-! ### Commands (R542, R544, R548, R550, R553) -/

/-- The result of ACTIVATE before the axis decides (R542). -/
def State.activateCode (s : State) (p : Nat) : Nat :=
  if 3 ≤ p then 1
  else
    match s.image (s.targetPlace p) with
    | none => 1
    | some h => if !s.grgCompatible h then 2 else if s.onTrial then 4 else 0

/-- ACTIVATE asks for ACTIVATING. -/
def State.grgActivate (s : State) (p : Nat) : State :=
  let code := s.activateCode p
  let s := s.wr GRG_CMD_STAT_RESULT code
  if code = 0 then { s with modeReqs := s.modeReqs ++ [⟨.grog .activating, p, 0⟩] } else s

/-- The image of a processor is confirmed (R544). -/
def State.grgConfirm (s : State) (p : Nat) : State :=
  let img := s.image (s.runPlace p)
  let se := (img.map GrgHeader.secEpoch).getD 0
  let s := (s.wr (GRG_BANK_TRIAL p) 0).wr GRG_SEC_EPOCH (max se (s.rd GRG_SEC_EPOCH))
  let s : State := { s with grg := { s.grg with trial := none } }
  ((s.setGrog .idle).notice GRG_NOTE_CONFIRMED).grgEvent 6 p 0 (s.rd GRG_SEC_EPOCH) ((img.map GrgHeader.version).getD 0)

/-- CONFIRM: after t11 and while the processor carries TRIAL. -/
def State.grgConfirmCmd (s : State) (p : Nat) : State :=
  if s.startup.phase = .ready ∧ p < 3 ∧ s.rdB (GRG_BANK_TRIAL p) then (s.wr GRG_CMD_STAT_RESULT 0).grgConfirm p
  else s.wr GRG_CMD_STAT_RESULT 3

/-- BLOCK_SIZE as it acts: within 64 to 1,024, a multiple of 16 (R553). -/
def State.grgBlockSize (s : State) : Nat := max 64 (min 1024 (s.rd GRG_NODE_BLOCK_SIZE)) / 16 * 16

/-- The targets of a campaign (R548). -/
def State.campaignTargets (s : State) (t version : Nat) : List Nat :=
  (List.range 8192).filter fun i => s.ent i 0x0A 1 == 1 && s.entState i == 3 && s.ent i 0x47 1 == t && s.ent i 0x48 4 != version

/-- Whether a link of ROLE image or general fits a block (R548). -/
def State.blockFits (s : State) (bs : Nat) : Bool :=
  s.links.any fun l => l.tx && (l.role == 4 || l.role == 0) && s.cellFits l (bs + 37) false

/-- A campaign is entered, and its targets with STATE 1. -/
def State.withCampaign (s : State) (c : Campaign) (targets : List Nat) : State :=
  { s with grg := { s.grg with campaign := some c, targets := targets.map fun i => (i, 1), ended := none } }

/-- CAMPAIGN (R548). While one runs a second is refused; the spec names no result for that, which is a free value. -/
def State.campaignStart (s : State) : State :=
  let t := s.rd GRG_NODE_TYPE
  let place := 6 + 2 * t + (Sparse.get s.grg.offers t).getD 0
  if s.grg.campaign.isSome then
    let (v, s) := s.draw
    s.wr GRG_CMD_STAT_RESULT v
  else
    match Sparse.get s.grg.offers t, s.image place with
    | some _, some h =>
      let targets := s.campaignTargets t h.version
      if !s.blockFits s.grgBlockSize then s.wr GRG_CMD_STAT_RESULT 6
      else if targets.isEmpty || !s.meshTx then s.wr GRG_CMD_STAT_RESULT 7
      else
        let s := s.withCampaign ⟨t, h, place, s.grgBlockSize, s.atLeastOne GRG_NODE_OFFER_REPEAT,
          List.range (blockCount h.size s.grgBlockSize), 1, [], false, []⟩ targets
        (s.wr GRG_CMD_STAT_RESULT 0).wr GRG_NODE_STAT_ROUND 1
    | _, _ => s.wr GRG_CMD_STAT_RESULT 1

/-- An IMAGE_OFFER is sent (R230, R549); the sweep follows the last one. -/
def State.campaignOffer (s : State) : State :=
  match s.grg.campaign with
  | none => s
  | some c =>
    if c.offers = 0 then s
    else
      let body := [c.type, 0] ++ toOctets 2 c.blockSize ++ toOctets 4 c.image.version ++ toOctets 4 c.image.size ++ toOctets 32 c.image.hash
      let s := s.sprSend ⟨0x0E, .broadcast, body, []⟩
      { s with grg := { s.grg with campaign := some { c with offers := c.offers - 1 } } }.campaignFill

/-- QUERY_WAIT ends: the campaign ends, or its next round starts (R549). -/
def State.campaignWait (s : State) : State :=
  match s.grg.campaign with
  | none => s
  | some c =>
    if !c.waiting then s
    else if s.targetsAt 1 = 0 ∨ s.atLeastOne GRG_NODE_ROUNDS ≤ c.round then s.campaignEnd
    else
      let all := List.range (blockCount c.image.size c.blockSize)
      let m := if c.missing.isEmpty then all else all.filter (c.missing ++ c.dropped).contains
      let s := (s.grgEvent 7 (0x10 + c.type) 0 m.length c.image.version).wr GRG_NODE_STAT_ROUND (c.round + 1)
      { s with grg := { s.grg with campaign := some { c with todo := m, missing := [], waiting := false, dropped := [], round := c.round + 1 } } }.campaignFill

/-- NODE_ACTIVATE (R550). -/
def State.nodeActivate (s : State) : State :=
  match s.grg.ended with
  | none => s.wr GRG_CMD_STAT_RESULT 7
  | some (t, v) =>
    let asn := s.mac.asn + s.rd GRG_NODE_ACT_SLOTS
    (s.wr GRG_CMD_STAT_RESULT 0).sprSend ⟨0x09, .broadcast, [t, 0, 0, 0] ++ toOctets 4 v ++ toOctets 5 asn, []⟩

/-- STOP. -/
def State.campaignStop (s : State) : State := s.campaignEnd.wr GRG_CMD_STAT_RESULT 0

/-! ### The commands -/

/-- Grog takes the head of D1 when its KIND is the command's (R537, R538). -/
def State.grgTake (s : State) (mine : Nat → Bool) (k : State → Packet → State) : State :=
  if !s.rdB GRG_CTRL_EN then s
  else
    match s.slqTake 1 with
    | none => s
    | some (p, s') => if mine p.kind then k s' p else s

/-- GRG_HEADER (R537). -/
def execGrgHeader (s : State) : Host.Outcome State Fault Refusal :=
  .next (s.working 0x20 fun s => s.grgTake (· == 1) fun s p => s.grgHeader (packetOctets p))

/-- GRG_BLOCK (R538). -/
def execGrgBlock (s : State) : Host.Outcome State Fault Refusal :=
  .next (s.working 0x20 fun s => s.grgTake (· == 2) fun s p => s.grgBlock (packetOctets p))

/-- GRG_ABANDON (R540): KIND 0x03; a packet of a KIND that Grog does not know is discarded. -/
def execGrgAbandon (s : State) : Host.Outcome State Fault Refusal :=
  .next (s.working 0x20 fun s => s.grgTake (fun k => k != 1 && k != 2) fun s p => if p.kind = 3 then s.stageFail 0 else s)

/-- GRG_VERIFY (R539). -/
def execGrgVerify (s : State) : Host.Outcome State Fault Refusal :=
  .next (s.working 0x20 State.grgVerify)

/-- Whether a staging has been idle in RECEIVING for IDLE_LIMIT seconds of module time since its start or last new block (R540);
an IDLE_LIMIT of 0 sets no limit (R553). -/
def State.stageIdle (s : State) : Bool :=
  s.stageState == 1 && s.rd GRG_CFG_IDLE_LIMIT != 0 &&
  decide (s.grg.fresh + s.rd GRG_CFG_IDLE_LIMIT * 1000000000 ≤ s.moduleTime)

/-- GRG_IDLE_LIMIT (R540). -/
def execGrgIdleLimit (s : State) : Host.Outcome State Fault Refusal :=
  .next (s.working 0x20 fun s => if s.stageIdle then s.stageFail 10 else s)

/-- ACTIVATE (R542). -/
def execActivate (port : Port) (p : Nat) (s : State) : Host.Outcome State Fault Refusal :=
  .next (s.effect port GRG_CMD_OP.addr fun s => s.whenSup fun s => s.grgActivate p)

/-- CONFIRM (R544). -/
def execConfirm (port : Port) (p : Nat) (s : State) : Host.Outcome State Fault Refusal :=
  .next (s.effect port GRG_CMD_OP.addr fun s => s.whenSup fun s => s.grgConfirmCmd p)

/-- CAMPAIGN (R548). -/
def execCampaign (port : Port) (s : State) : Host.Outcome State Fault Refusal :=
  .next (s.effect port GRG_CMD_OP.addr fun s => s.whenSup State.campaignStart)

/-- CAMPAIGN_OFFER (R549). -/
def execCampaignOffer (s : State) : Host.Outcome State Fault Refusal := .next (s.working 0x20 State.campaignOffer)

/-- CAMPAIGN_QUERY_WAIT (R549). -/
def execCampaignQueryWait (s : State) : Host.Outcome State Fault Refusal := .next (s.working 0x20 State.campaignWait)

/-- NODE_ACTIVATE (R550). -/
def execNodeActivate (port : Port) (s : State) : Host.Outcome State Fault Refusal :=
  .next (s.effect port GRG_CMD_OP.addr fun s => s.whenSup State.nodeActivate)

/-- STOP_CAMPAIGN (R553). -/
def execStopCampaign (port : Port) (s : State) : Host.Outcome State Fault Refusal :=
  .next (s.effect port GRG_CMD_OP.addr fun s => s.whenSup State.campaignStop)

/-! ### The boot ROM (R547) -/

/-- What the boot ROM does with a full container in a halted start without SUP: `failed` is 0 or 1 for the bank that failed to
start, 2 where both did. -/
def State.bootContainer (s : State) (b data : List Nat) (failed : Nat) : State :=
  let h := grgHeaderOf b
  let cause := if grgFormBad b h || h.form != 0 || 3 ≤ h.target then 1 else if !grgModuleOk h then 2 else if !s.grgSigned b h then 3
    else if h.secEpoch < s.rd GRG_SEC_EPOCH then 4 else 0
  if cause ≠ 0 then s.grgRefuse cause
  else
    let bank := if failed = 1 then 1 else 0
    let place := 2 * h.target + bank
    let s := (s.grgErase place).wrAll [(GRG_STAGE_STAT_TARGET, h.target), (GRG_STAGE_CNT_DONE, h.blocks), (GRG_STAGE_CNT_TOTAL, h.blocks)]
    if data.length ≠ h.size ∨ sha256 data ≠ toOctets 32 h.hash then ((s.wrAll [(GRG_STAGE_STAT_STATE, 3), (GRG_STAGE_STAT_RESULT, 9)]).notice GRG_NOTE_STAGE_FAIL).silt 0x2003
    else
      let s : State := { s with grg := { s.grg with
          images := Sparse.insert s.grg.images place h,
          nor := (List.range h.blocks).foldl
            (fun m k => Sparse.insert m (4096 * place + k) ((data.drop (4096 * k)).take (min 4096 (h.size - 4096 * k)))) s.grg.nor } }
      let s := s.wrAll [(GRG_STAGE_STAT_STATE, 2), (GRG_STAGE_STAT_RESULT, 0), (GRG_BANK_ACTIVE h.target, bank),
        (GRG_BANK_TRIAL h.target, 0)]
      (s.notice GRG_NOTE_VERIFIED).silt 0x2002

/-- BOOTROM_CONTAINER (R547). -/
def execBootromContainer (b data : List Nat) (failed : Nat) (s : State) : Host.Outcome State Fault Refusal :=
  .next (if s.startup.phase = .halted false then s.bootContainer b data failed else s)

end Sys2Proof.Machine
end

