-- ==== Sys2Proof/Machine/RegTable.lean ====
section
/-! DEFINITION. The register map as a whole: the fields of every page, result blocks, windows, and the pages' clock domains. -/

namespace Sys2Proof.Machine

/-- The fields of a page beyond its header (R63). -/
def pageFields (p : Nat) : List Field :=
  match p with
  | 0x00 => fieldsSYS
  | 0x01 => fieldsHIF
  | 0x02 => fieldsRFE
  | 0x03 => fieldsCHN
  | 0x04 => fieldsMAC
  | 0x05 => fieldsNTB
  | 0x06 => fieldsSPR
  | 0x07 => fieldsDRF
  | 0x08 => fieldsSCH
  | 0x09 => fieldsTMP
  | 0x0A => fieldsSHP
  | 0x0B => fieldsDPT
  | 0x0C => fieldsDAL
  | 0x0D => fieldsEMU
  | 0x0E => fieldsEMUR
  | 0x10 => fieldsSWF
  | 0x11 => fieldsETP 0
  | 0x12 => fieldsETP 1
  | 0x13 => fieldsETP 2
  | 0x14 => fieldsETP 3
  | 0x15 => fieldsETP 4
  | 0x16 => fieldsETP 5
  | 0x17 => fieldsHDM
  | 0x18 => fieldsTIM
  | 0x19 => fieldsRTC
  | 0x1A => fieldsSLQ
  | 0x1B => fieldsCLM
  | 0x1C => fieldsHPN
  | 0x1D => fieldsTPR
  | 0x1E => fieldsSLT
  | 0x1F => fieldsSIV
  | 0x20 => fieldsGRG
  | 0x21 => fieldsMRL
  | 0x22 => fieldsITG
  | _ => []

/-- The defined notice bits of a page. -/
def pageNotices (p : Nat) : Nat :=
  match p with
  | 0x00 => noticesSYS
  | 0x01 => noticesHIF
  | 0x02 => noticesRFE
  | 0x03 => noticesCHN
  | 0x04 => noticesMAC
  | 0x05 => noticesNTB
  | 0x06 => noticesSPR
  | 0x07 => noticesDRF
  | 0x08 => noticesSCH
  | 0x09 => noticesTMP
  | 0x0A => noticesSHP
  | 0x0B => noticesDPT
  | 0x0C => noticesDAL
  | 0x0D => noticesEMU
  | 0x0E => noticesEMUR
  | 0x10 => noticesSWF
  | 0x17 => noticesHDM
  | 0x18 => noticesTIM
  | 0x19 => noticesRTC
  | 0x1A => noticesSLQ
  | 0x1B => noticesCLM
  | 0x1C => noticesHPN
  | 0x1D => noticesTPR
  | 0x1E => noticesSLT
  | 0x1F => noticesSIV
  | 0x20 => noticesGRG
  | 0x21 => noticesMRL
  | 0x22 => noticesITG
  | _ => if 0x11 ≤ p ∧ p ≤ 0x16 then noticesETP else 0

/-- Every field of the map. -/
def allFields : List Field := assignedPages.flatMap pageFields

/-- The fields of one word. -/
def wordFields (addr : Nat) : List Field := (pageFields (addr / 0x1000)).filter fun f => f.addr == addr

/-- The unit type code of a page (R63). -/
def unitCode (p : Nat) : Nat :=
  if p ≤ 0x0D then p + 1 else if p = 0x0E then 0x0E else if p = 0x10 then 0x10 else if p ≤ 0x16 then 0x11 else p - 5

/-- The number of result blocks of a page (R64, R66). -/
def pageBlocks (p : Nat) : Nat :=
  if [0x07, 0x08, 0x09, 0x0E, 0x19, 0x22].contains p then 1 else if p = 0x0D then 12 else if p = 0x18 then 3
  else if p = 0x1F then 2 else 0

/-- A result block (R85): its page and number, its SEQ word's address, and the addresses of its first and last word. -/
structure ResultBlock where
  page : Nat
  block : Nat
  seq : Nat
  first : Nat
  last : Nat
deriving DecidableEq, Repr

/-- The result blocks of the map. -/
def resultBlocks : List ResultBlock :=
  [⟨0x07, 0, 0x0701C, 0x07100, 0x07118⟩, ⟨0x08, 0, 0x0801C, 0x08100, 0x08108⟩, ⟨0x09, 0, 0x0901C, 0x09100, 0x09124⟩] ++
  ((List.range 12).map fun c =>
    ⟨0x0D, c, if c = 0 then 0x0D01C else 0x0D100 + 0x40 * c, 0x0D104 + 0x40 * c, 0x0D12C + 0x40 * c⟩) ++
  [⟨0x0E, 0, 0x0E01C, 0x0E100, 0x0E124⟩, ⟨0x18, 0, 0x1801C, 0x18100, 0x18108⟩, ⟨0x18, 1, 0x18110, 0x18114, 0x18128⟩,
   ⟨0x18, 2, 0x18130, 0x18134, 0x18138⟩, ⟨0x19, 0, 0x1901C, 0x19100, 0x1910C⟩, ⟨0x1F, 0, 0x1F01C, 0x1F100, 0x1F114⟩,
   ⟨0x1F, 1, 0x1F120, 0x1F124, 0x1F130⟩, ⟨0x22, 0, 0x2201C, 0x22100, 0x22110⟩]

/-- The block's SEQ.COUNT. -/
def ResultBlock.count (b : ResultBlock) : Field := ⟨b.seq, 8, 24, .ro, 0, .cleared⟩

/-- The block that a word of results belongs to, and the one that a SEQ word belongs to. -/
def blockOf (addr : Nat) : Option ResultBlock := resultBlocks.find? fun b => b.first ≤ addr && addr ≤ b.last
def blockOfSeq (addr : Nat) : Option ResultBlock := resultBlocks.find? fun b => b.seq == addr

/-- The *_LO words whose read latches the *_HI word after them (R101, R170, R286, R402, R407). -/
def latchingLo : List Nat :=
  [0x00064, 0x18040, 0x04058, 0x08060] ++ (List.range 6).flatMap fun p => [0x110C0 + 0x1000 * p, 0x110C8 + 0x1000 * p]

/-- The units' *_WIN_ADDR fields; *_WIN_DATA is the word after each. -/
def winAddrs : List Field :=
  [RFE_WIN_ADDR_OFFSET, CHN_WIN_ADDR_OFFSET, MAC_WIN_ADDR_OFFSET, NTB_WIN_ADDR_OFFSET, DRF_WIN_ADDR_OFFSET, SCH_WIN_ADDR_OFFSET,
   TMP_WIN_ADDR_OFFSET, SHP_WIN_ADDR_OFFSET, EMU_WIN_ADDR_OFFSET, EMUR_WIN_ADDR_OFFSET, SWF_WIN_ADDR_OFFSET, CLM_WIN_ADDR_OFFSET,
   HPN_WIN_ADDR_OFFSET, SLT_WIN_ADDR_OFFSET, GRG_WIN_ADDR_OFFSET]

def winAddrOf (addr : Nat) : Option Field := winAddrs.find? fun f => f.addr == addr
def winDataOf (addr : Nat) : Option Field := winAddrs.find? fun f => f.addr + 4 == addr

/-- The keys of the fields that survive a reset (R102, R104, R429, R506, R530). The flags that follow the die's temperature survive a warm
one: DESIGN CHOICE, log entry 186. -/
def keptKeys (warm : Bool) : List Nat :=
  (allFields.filter fun f => f.survival == .alwaysOn || f.survival == .stored || (warm && (f.survival == .warm || f.access == .rws))).map
    Field.key

/-- The fields held in the always-on domain (R429, R506). -/
def alwaysOnKeys : List Nat := (allFields.filter fun f => f.survival == .alwaysOn).map Field.key

/-! ### The windows (R7) -/

/-- Whether a window's word holds something that a unit chapter assigns. -/
def winAssigned (page off : Nat) : Bool :=
  match page with
  | 0x02 => off < 0x400
  | 0x03 => off < 0x800
  | 0x04 => off < 0x40 || (0x100 ≤ off && off < 0x300) || (0x10000 ≤ off && off < 0x50000)
  | 0x05 => off < 0x200000
  | 0x07 => off < 0x40000 || (0x100000 ≤ off && off < 0x320000) || (0x400000 ≤ off && off < 0x430000)
  | 0x08 => off < 0x1000 || (0x10000 ≤ off && off < 0x50000) || (0x80000 ≤ off && off < 0x80400) || (0x90000 ≤ off && off < 0x901E0)
  | 0x09 => off < 0x20000 || (0x40000 ≤ off && off < 0x50000) || (0x80000 ≤ off && off < 0x81000) || (0xC0000 ≤ off && off < 0xD0000)
  | 0x0A => off < 0x4400 || (0x10000 ≤ off && off < 0x30000)
  | 0x0D => off < 0x30000
  | 0x0E => off < 0x180 || (0x1000 ≤ off && off < 0x7000)
  | 0x10 => off < 0x4000 || (0x10000 ≤ off && off < 0x50000)
  | 0x1A => off < 0x180000
  | 0x1B => off < 0x2A0
  | 0x1C => off < 0x880
  | 0x1E => off < 0x20000
  | 0x20 => off < 0x200 || (0x1000 ≤ off && off < 0x3000)
  | _ => false

/-- Whether a word of a window is transactable (R93): the regions that the unit chapters mark so. -/
def winTransactable (page off : Nat) : Bool :=
  match page with
  | 0x02 => off < 0x400
  | 0x03 => off < 0x800 && off % 16 < 8
  | 0x04 => off < 0x40 || (0x100 ≤ off && off < 0x300) || (0x10000 ≤ off && off < 0x50000)
  | 0x05 => off < 0x200000 && (List.range 4).any fun k => ntbHostByte (off / 4 * 4 % 256 + k)
  | 0x07 => 0x300000 ≤ off && off < 0x320000
  | 0x08 => off < 0x1000 || (0x10000 ≤ off && off < 0x50000)
  | 0x09 => off < 0x20000
  | 0x0A => off < 0x4400
  | 0x0E => off < 0x180
  | 0x10 => off < 0x4000
  | _ => false

end Sys2Proof.Machine
end

