-- ==== Sys2Proof/Machine/Shape.lean ====
section
/-! DEFINITION. The Shaper and the dispatcher (R314 to R331, R341 to R344). -/

namespace Sys2Proof.Machine

/-! ### An entry's shaping bytes (R318) -/

def State.mix (s : State) (i : Nat) : Nat := s.ent i 0xA0 1 % 4

/-- The number of an entry's channels; wired control gear counts as one (R316). -/
def State.channels (s : State) (i : Nat) : Nat := if s.entType i = 2 then 1 else s.ent i 0x46 1

/-- Whether an entry is of a kind that is shaped (R316). -/
def State.shapeable (s : State) (i : Nat) : Bool :=
  (s.entType i == 1 && s.entState i == 3 && [1, 2, 4].contains (s.channels i)) ||
  (s.entType i == 2 && s.entState i != 0 && s.entState i != 5)

/-- Why an entry is invalid for shaping, or 0 (R324). -/
def State.shapeFault (s : State) (i : Nat) : Nat :=
  let m := s.mix i
  if m = 3 then 1
  else if s.entType i = 2 ∧ m ≠ 0 then 4
  else if (m = 1 ∧ s.channels i ≠ 2) ∨ (m = 2 ∧ s.channels i ≠ 4) then 2
  else if m = 1 ∧ (s.ent i 0xA8 2 = 0 ∨ s.ent i 0xAA 2 = 0 ∨ s.ent i 0xAC 2 = 0 ∨ s.ent i 0xAA 2 ≤ s.ent i 0xA8 2) then 3
  else 0

/-! ### From the target to drive values (R317, R319 to R323) -/

/-- The vertex target of the latest published result, if there is one (R317). -/
def State.driftTarget (s : State) (v : Nat) : Option Nat :=
  let base := 0x400000 + 0x10000 * s.rd DRF_SNAP_BANK_BANK
  if s.w32 0x07 (base + 4) = 1 ∧ v < 8192 ∧ (s.vertex (s.rd DRF_GRAPH_ACTIVE) v).valid then
    some (s.w16 0x07 (base + 0x40 + 2 * v))
  else none

/-- The source level of an entry (R317). -/
def State.sourceLevel (s : State) (i : Nat) : Nat := (s.driftTarget (s.ent i 0x10 2)).getD (s.ent i 0xAE 2)

/-- Λ of an entry (R287, R288). -/
def State.lambda (s : State) (i : Nat) : Nat :=
  let z := s.ent i 0x12 2
  if z < 2048 then (s.sourceLevel i * s.tmpOut z + 32767) / 65535 else s.sourceLevel i

/-- The share of channel 0 of a tunable-white node, in 1/65,536 (R319). -/
def cctShare (warm cool cct : Nat) : Nat :=
  if cct ≤ warm then 65536
  else if cool ≤ cct then 0
  else min 65536 ((2 * 65536 * (cool - cct) * warm + (cool - warm) * cct) / (2 * ((cool - warm) * cct)))

/-- The linear value of a channel (R319). -/
def State.mixed (s : State) (i lam c : Nat) : Nat :=
  if s.mix i = 0 then lam
  else if s.mix i = 1 then
    let x0 := lam * cctShare (s.ent i 0xA8 2) (s.ent i 0xAA 2) (s.ent i 0xAC 2) / 65536
    if c = 0 then x0 else lam - x0
  else lam * s.ent i (0xB0 + c) 1 / 255

/-- The age in seconds of a reading; TEMP_AT holds the low 32 bits of its second count, so that a reading ahead of calendar time, by less
than 2^31 s, has age 0 (R234, R320; DESIGN CHOICE, log entry 182). -/
def State.tempAge (s : State) (i : Nat) : Nat :=
  let d := codeOf 32 ((s.calNow.secs : Int) - s.ent i 0x90 4)
  if d < 2 ^ 31 then d else 0

/-- Whether a reading lies more than MAX_AGE seconds before the present calendar time; 0 never ages (R320, R343). -/
def State.tempOld (s : State) (i : Nat) : Bool :=
  s.calValid && s.rd SHP_TEMP_MAX_AGE != 0 && decide (s.rd SHP_TEMP_MAX_AGE < s.tempAge i)

/-- The temperature reported for a channel, if it may be used (R320). -/
def State.reportedTemp (s : State) (i c : Nat) : Option Int :=
  let t := s.ent i (0x7C + 2 * c) 2
  let t0 := s.ent i 0x7C 2
  if s.tempOld i then none
  else if t ≠ 0x8000 then some (signed 16 t)
  else if t0 ≠ 0x8000 then some (signed 16 t0)
  else none

/-- The gain of a compensation table at a temperature (R320). -/
def State.gain (s : State) (table : Nat) (theta : Int) : Nat :=
  let u := (clampInt (-400) 1200 theta + 400).toNat
  let g := fun j => s.w16 0x0A (0x4000 + 64 * table + 2 * j)
  if u / 100 < 16 then
    ((g (u / 100) : Int) + roundAway (((g (u / 100 + 1) : Int) - g (u / 100)) * (u % 100 : Nat)) 100).toNat
  else g 16

/-- A channel's value after compensation, and whether the default temperature was used (R320). -/
def State.compensated (s : State) (i c x : Nat) : Nat × Bool :=
  if s.entType i = 2 ∨ !bitAt (s.ent i 0xA1 1) c then (x, false)
  else
    let t := s.reportedTemp i c
    let g := s.gain (bitsOf (s.ent i 0xA2 2) (4 * c) 4) (t.getD (s.rdS SHP_TEMP_DEFAULT))
    (min 65535 ((x * g + 16384) / 32768), t.isNone)

/-- The drive value of a curve (R321). -/
def State.curve (s : State) (table y : Nat) : Nat :=
  let p := fun k => s.w16 0x0A (1024 * table + 2 * k)
  if y = 65535 then p 256
  else ((p (y / 256) : Int) + (((p (y / 256 + 1) : Int) - p (y / 256)) * (y % 256 : Nat) + 128) / 256).toNat

/-- The arc power level of a drive value (R323): the number of levels whose rounding interval begins at or below it. The
interval of level n begins where d^506 × 10^(1527 − 6n) reaches 65,535^506. -/
def arcLevel (d : Nat) : Nat :=
  if d = 0 then 0
  else 1 + ((List.range 253).filter fun k => decide (65535 ^ 506 ≤ d ^ 506 * 10 ^ (1527 - 6 * (k + 2)))).length

/-! ### The pass (R314 to R317, R324) -/

/-- A node as a pass computed it. -/
structure Shaped where
  index : Nat
  wired : Bool
  values : List Nat
  lam : Nat
  arc : Nat
deriving DecidableEq, Repr

/-- Shape one entry, and tell whether the default temperature was used. -/
def State.shapeNode (s : State) (i : Nat) : Shaped × Bool :=
  let lam := s.lambda i
  let ys := (List.range (s.channels i)).map fun c => s.compensated i c (s.mixed i lam c)
  let ds := ys.map fun y => s.curve (s.ent i 0xA0 1 / 16) y.1
  let wired := decide (s.entType i = 2)
  (⟨i, wired, ds, lam, if wired then arcLevel (ds.headD 0) else 0⟩, ys.any Prod.snd)

/-- The reason that was last noticed of an entry. -/
def State.setFault (s : State) (i : Nat) (f : Option Nat) : State :=
  { s with dpt := { s.dpt with faults := match f with
      | some r => Sparse.insert s.dpt.faults i r
      | none => Sparse.erase s.dpt.faults i } }

/-- SHP_ERR of an entry follows R324: the notice is raised, and the entry named, as it becomes invalid and as its reason changes. -/
def State.shapeCheck (s : State) (i : Nat) : State :=
  let f := s.shapeFault i
  let d := s.dstate i
  if f = 0 then (if bitAt d 1 then (s.setEnt i 0xBD 1 (clrBit d 1)).setFault i none else s)
  else if bitAt d 1 && Sparse.get s.dpt.faults i == some f then s
  else
    ((((s.setFault i (some f)).setEnt i 0xBD 1 (setBit d 1)).wr SHP_CFG_ERR_INDEX i).wr SHP_CFG_ERR_REASON f).notice SHP_NOTE_CFG_ERR

/-- The record of a node in the output table (R342). -/
def Shaped.record (n : Shaped) : List Nat :=
  ((n.values.flatMap (toOctets 2)) ++ List.replicate 8 0).take 8 ++ toOctets 2 n.lam ++ [n.arc, 1]

/-- Whether a pass checks an entry: one that is shaped, and any whose SHP_ERR a write has ended (R324). -/
def State.shapeChecks (s : State) (i : Nat) : Bool := s.shapeable i || (bitAt (s.dstate i) 1 && s.shapeFault i == 0)

/-- The Shaper's part of a pass: every shaped node, in ascending entry index, with the output table written. -/
def State.shapeAll (s : State) : List Shaped × State :=
  let s := (s.usedEntries.filter s.shapeChecks).foldl State.shapeCheck s
  let nodes := ((s.usedEntries.filter s.shapeable).filter fun i => !bitAt (s.dstate i) 1).map s.shapeNode
  let s := s.clearBytes 0x0A 0x10000 0x20000
  let s := nodes.foldl (fun s n => s.setBytes 0x0A (0x10000 + 16 * n.1.index) n.1.record) s
  (nodes.map Prod.fst, (s.noticeIf (nodes.any Prod.snd) SHP_NOTE_TEMP_DEFAULT).wr SHP_STATUS_SHAPED nodes.length)

/-! ### Dispatch to the radio (R325 to R331) -/

/-- LAST_SENT of channel c. -/
def State.lastSent (s : State) (i c : Nat) : Nat := s.ent i (0xB4 + 2 * c) 2

/-- Whether a radio node has a change (R325). -/
def State.hasChange (s : State) (n : Shaped) : Bool :=
  !s.dvalid n.index ||
  ((n.values.zip (List.range 4)).any fun p =>
    let l := s.lastSent n.index p.2
    decide (s.rd DPT_HYST_DELTA < (p.1 - l) + (l - p.1)) || (p.1 == 0 && l != 0) || (p.1 == 65535 && l != 65535))

/-- Whether a radio node's values differ from what was last sent. -/
def State.differs (s : State) (n : Shaped) : Bool := (n.values.zip (List.range 4)).any fun p => p.1 != s.lastSent n.index p.2

/-- The FADE code of a node sent as a change (R326). -/
def State.fadeOf (s : State) (n : Shaped) : Nat :=
  if s.ent n.index 0xBE 2 ≤ n.lam ∨ !s.dvalid n.index then s.ent n.index 0xA4 1 else s.ent n.index 0xA5 1

/-- The largest PSDU that fits every dispatch link (R329); 0 with no such link. -/
def State.maxPsdu (s : State) : Nat :=
  let ls := s.links.filter fun l => l.tx && l.role == 1
  if ls.isEmpty then 0
  else
    match (List.range 2048).reverse.find? fun n => ls.all fun l => s.cellFits l n false with
    | some n => n
    | none => 0

/-- A node to pack: with its number of values and FADE code. -/
structure Packable where
  node : Shaped
  fade : Nat
deriving DecidableEq, Repr

def Packable.kind (p : Packable) : Nat × Nat := (p.node.values.length, p.fade)

/-- Whether indices are consecutive. -/
def consecutive : List Nat → Bool
  | a :: b :: t => b == a + 1 && consecutive (b :: t)
  | _ => true

/-- The PSDU of a level frame (R329). -/
def levelPsdu (l : List Packable) : Nat :=
  let v := (l.head?.map fun p => p.node.values.length).getD 0
  38 + (if consecutive (l.map fun p => p.node.index) then 2 * v * l.length else (1 + 2 * v) * l.length)

/-- Take one frame from the front of a group (R330). -/
def takeFrame (maxCount maxPsdu : Nat) (frame : List Packable) : List Packable → List Packable × List Packable
  | [] => (frame, [])
  | n :: t =>
    let b := (frame.head?.map fun p => p.node.index).getD n.node.index
    if !frame.isEmpty && (b + 255 < n.node.index || frame.length == maxCount || maxPsdu < levelPsdu (frame ++ [n])) then
      (frame, n :: t)
    else takeFrame maxCount maxPsdu (frame ++ [n]) t

/-- Cut a group into frames; the first argument bounds the number of frames. -/
def framesOf (maxCount maxPsdu : Nat) : Nat → List Packable → List (List Packable)
  | 0, _ => []
  | _ + 1, [] => []
  | f + 1, l =>
    let (frame, rest) := takeFrame maxCount maxPsdu [] l
    frame :: framesOf maxCount maxPsdu f rest

/-- The frames of a list of nodes in ascending index: by groups of equal number of values and FADE, in the order of their
lowest index (R330). -/
def packAll (maxCount maxPsdu : Nat) (l : List Packable) : List (List Packable) :=
  ((l.map Packable.kind).eraseDups).flatMap fun k => framesOf maxCount maxPsdu l.length (l.filter fun p => p.kind == k)

/-- The V code of a number of values (R212). -/
def valueCode (n : Nat) : Nat := if n = 1 then 0 else if n = 2 then 1 else 2

/-- The body of a LEVEL_FRAME (R214). -/
def levelBody (l : List Packable) : List Nat :=
  let b := (l.head?.map fun p => p.node.index).getD 0
  let v := (l.head?.map fun p => p.node.values.length).getD 0
  let dense := consecutive (l.map fun p => p.node.index)
  [(if dense then 0 else 1) + 4 * valueCode v, l.length] ++ toOctets 2 b ++ [(l.head?.map Packable.fade).getD 0] ++
  l.flatMap fun p => (if dense then [] else [p.node.index - b]) ++ p.node.values.flatMap (toOctets 2)

/-- What DPT records of a node that it hands to the MAC (R330). -/
def State.recordSent (s : State) (p : Packable) : State :=
  ((s.setBytes 0x05 (256 * p.node.index + 0xB4) (p.node.values.flatMap (toOctets 2))).setEnt p.node.index 0xBC 1 p.fade).setEnt
    p.node.index 0xBE 2 p.node.lam |>.setDvalid p.node.index true

/-- Hand a level frame to the MAC. -/
def State.sendLevel (s : State) (l : List Packable) : State :=
  ((l.foldl State.recordSent s).count DPT_FRAMES 1).sprSend ⟨0x01, .broadcast, levelBody l, l.map fun p => p.node.index⟩

/-- The refresh period in force, in s (R344). -/
def State.refreshPeriod (s : State) : Nat := max 30 (min 3600 (s.rd DPT_REFRESH_PERIOD))

/-- The refresh credit grows by N × Δ / PERIOD, Δ in ns (R327). -/
def DptUnit.grow (d : DptUnit) (n delta period : Nat) : DptUnit :=
  let den := period * 1000000000
  if d.den = den then { d with num := d.num + n * delta }
  else { d with num := d.num * den + n * delta * d.den, den := d.den * den }

/-- Nodes after the cursor, wrapping (R327). -/
def afterCursor (l : List Shaped) (pos : Nat) : List Shaped :=
  (l.filter fun n => pos < n.index) ++ l.filter fun n => n.index ≤ pos

/-- Sort nodes to pack by index. -/
def byIndex (l : List Packable) : List Packable := sortBy (fun a b => a.node.index ≤ b.node.index) l

/-- The longest front part of at most n nodes whose frames do not exceed a number. -/
def refreshPrefix (maxCount maxPsdu limit : Nat) (l : List Packable) : Nat → List Packable
  | 0 => []
  | n + 1 =>
    if (packAll maxCount maxPsdu (byIndex (l.take (n + 1)))).length ≤ limit then l.take (n + 1)
    else refreshPrefix maxCount maxPsdu limit l n

/-- The credit grows at a pass with n shaped radio nodes, by the module time since the previous pass (R327). -/
def State.dptGrow (s : State) (n : Nat) : State :=
  let now := s.moduleTime
  let delta := match s.dpt.last with
    | some t => (signed 64 (codeOf 64 ((now : Int) - t))).toNat
    | none => 0
  let d := if s.rdB DPT_CTRL_REFRESH_EN then s.dpt.grow n delta s.refreshPeriod else s.dpt
  { s with dpt := { d with last := some now } }

/-- The refresh frames of a pass (R327). -/
def State.refreshPass (s : State) (radio changes : List Shaped) (maxCount maxPsdu : Nat) : State :=
  if !s.rdB DPT_CTRL_REFRESH_EN then s
  else
    let d := s.dpt
    let pool := (afterCursor radio (s.rd DPT_REFRESH_POS)).filter fun n => !changes.contains n
    let want := (pool.take (d.num / max 1 d.den)).map fun n => (⟨n, s.ent n.index 0xBC 1⟩ : Packable)
    let sent := refreshPrefix maxCount maxPsdu (max 1 (s.rd DPT_REFRESH_MAX_FRAMES)) want want.length
    let frames := packAll maxCount maxPsdu (byIndex sent)
    let s := { s with dpt := { d with num := d.num - sent.length * d.den } }
    let s := s.noticeIf (sent.length < want.length) DPT_NOTE_REFRESH_LAG
    let s := match sent.getLast? with
      | some p => s.wr DPT_REFRESH_POS p.node.index
      | none => s
    frames.foldl (fun s l => (s.sendLevel l).count DPT_REFRESH_FRAMES 1) s

/-- The dispatcher's radio part of a pass (R325 to R330). -/
def State.dispatchRadio (s : State) (radio : List Shaped) : State :=
  let maxPsdu := s.maxPsdu
  let s := s.count DPT_SUPPRESSED (radio.filter fun n => s.differs n && !s.hasChange n).length
  if maxPsdu < 40 then s.notice DPT_NOTE_NO_LINK
  else
    let maxCount := if s.rd DPT_PACK_MAX_COUNT = 0 ∨ 48 < s.rd DPT_PACK_MAX_COUNT then 48 else s.rd DPT_PACK_MAX_COUNT
    let changes := radio.filter s.hasChange
    let frames := packAll maxCount maxPsdu (changes.map fun n => ⟨n, s.fadeOf n⟩)
    let s := (frames.foldl State.sendLevel s).count DPT_CHANGES changes.length
    s.refreshPass radio changes maxCount maxPsdu

end Sys2Proof.Machine
end

