-- ==== Sys2Proof/Machine/Dal.lean ====
section
/-! DEFINITION. The wired buses (R332 to R340, R345), and the shaping pass that feeds them (R314, R315). -/

namespace Sys2Proof.Machine

/-! ### Queues (R335) -/

def State.dalQueue (s : State) (k : Nat) : List DalCmd := s.dal.queues.getD k []
def State.setDalQueue (s : State) (k : Nat) (q : List DalCmd) : State :=
  { s with dal := { s.dal with queues := putAt 8 [] s.dal.queues k q } }

/-- Whether a port runs and its bus is up (R337, R345). -/
def State.dalRuns (s : State) (k : Nat) : Bool := bitAt (s.rd DAL_CTRL_EN) k && bitAt (s.rd DAL_STATUS_UP) k

/-- The port and address of a wired entry (R192). -/
def State.wiredPort (s : State) (i : Nat) : Nat := s.ent i 0x0E 2 % 8
def State.wiredAddr (s : State) (i : Nat) : Nat := bitsOf (s.ent i 0x0E 2) 4 6

/-- VALID clears for gear. -/
def State.invalidate (s : State) (l : List Nat) : State := l.foldl (fun s i => s.setDvalid i false) s

/-- The control gear of a port: its entries of TYPE 2, in ascending order (R332). -/
def State.gearOf (s : State) (k : Nat) : List Nat := s.usedEntries.filter fun i => s.entType i == 2 && s.wiredPort i == k

/-- Whether a gear stands in DALI group g (R318). -/
def State.inGroup (s : State) (g i : Nat) : Bool := bitAt (s.ent i 0xA6 1) 7 && s.ent i 0xA6 1 % 16 == g

/-- Whether a group or broadcast command of its port reaches a gear (R335). -/
def State.groupReaches (s : State) (i : Nat) (c : DalCmd) : Bool :=
  match c.kind with
  | .group g _ => s.inGroup g i
  | .broadcast _ => true
  | _ => false

/-- Replace a queued DAPC to a gear in its place, unless a group or broadcast command that reaches the gear stands later
(R335). The queue is given last first. -/
def State.replaceDapc (s : State) (c : DalCmd) (i : Nat) : List DalCmd → Option (List DalCmd)
  | [] => none
  | d :: t =>
    match d.kind with
    | .short _ _ => if d.gear = [i] then some (c :: t) else (s.replaceDapc c i t).map (d :: ·)
    | _ => if s.groupReaches i d then none else (s.replaceDapc c i t).map (d :: ·)

/-- Remove the first refresh command. -/
def dropRefresh : List DalCmd → Option (List DalCmd)
  | [] => none
  | d :: t => if d.refresh then some t else (dropRefresh t).map (d :: ·)

/-- A command meets the end of a queue of 128 places (R335): whether it was taken, and the state after. -/
def State.dalAppend (s : State) (k : Nat) (c : DalCmd) : Bool × State :=
  let q := s.dalQueue k
  if q.length < 128 then (true, s.setDalQueue k (q ++ [c]))
  else
    match dropRefresh q with
    | some q' => (true, s.setDalQueue k (q' ++ [c]))
    | none => (false, (((s.invalidate c.gear).count DAL_QUEUE_DROP 1).notice DAL_NOTE_QUEUE_FULL))

/-- A level command takes its place in a port's queue: a DAPC to one gear that of a queued one where it may, any other the end
(R335). -/
def State.dalPlace (s : State) (k : Nat) (c : DalCmd) : Bool × State :=
  match c.kind, c.gear with
  | .short _ _, [i] =>
    match s.replaceDapc c i (s.dalQueue k).reverse with
    | some q => (true, (s.setDalQueue k q.reverse).count DAL_COALESCED 1)
    | none => s.dalAppend k c
  | _, _ => s.dalAppend k c

/-- Queue a level command: as it is queued LAST_SENT, LAST_LAMBDA and VALID are written (R334, R335, R344). -/
def State.dalQueueLevel (s : State) (k : Nat) (c : DalCmd) (gear : List Shaped) : State :=
  let (queued, s) := s.dalPlace k c
  if queued then
    (gear.foldl (fun s n => ((s.setEnt n.index 0xB4 1 n.arc).setEnt n.index 0xBE 2 n.lam).setDvalid n.index true) s).count DPT_WIRED 1
  else s

/-! ### Wired changes (R325, R334) -/

/-- Whether a wired gear has a change (R325). -/
def State.wiredChange (s : State) (n : Shaped) : Bool := !s.dvalid n.index || n.arc != s.ent n.index 0xB4 1

/-- Whether gear all change to one level. -/
def sameArc : List Shaped → Bool
  | [] => false
  | n :: t => t.all fun m => m.arc == n.arc

/-- One group's DAPC, where every gear of the port in the group changes to one level (R334): the nodes left for their own commands, and
the state after. -/
def State.dalGroup (k : Nat) (acc : List Shaped × State) (g : Nat) : List Shaped × State :=
  let (left, s) := acc
  let mine := left.filter fun n => s.inGroup g n.index
  if 2 ≤ mine.length ∧ mine.length = ((s.gearOf k).filter (s.inGroup g)).length ∧ sameArc mine then
    (left.filter fun n => !mine.contains n,
     s.dalQueueLevel k ⟨.group g ((mine.map Shaped.arc).headD 0), 3, mine.map Shaped.index, false, 0⟩ mine)
  else (left, s)

/-- The wired commands of one port (R334). -/
def State.dalPort (nodes : List Shaped) (s : State) (k : Nat) : State :=
  let changes := (nodes.filter fun n => n.wired && s.wiredPort n.index == k).filter s.wiredChange
  if !s.dalRuns k || changes.isEmpty then s
  else if changes.length = (s.gearOf k).length ∧ sameArc changes then
    s.dalQueueLevel k ⟨.broadcast ((changes.map Shaped.arc).headD 0), 3, changes.map Shaped.index, false, 0⟩ changes
  else
    let (left, s) := (List.range 16).foldl (State.dalGroup k) (changes, s)
    left.foldl (fun s n => s.dalQueueLevel k ⟨.short (s.wiredAddr n.index) n.arc, 3, [n.index], false, 0⟩ [n]) s

/-! ### The pass (R314, R315) -/

/-- One pass: the Shaper, then the dispatcher while it is in control (R314, R328). -/
def State.shapingPass (s : State) (dur : Nat) (late : Bool) : State :=
  if !s.rdB SHP_CTRL_EN || !s.lightPath then s
  else
    let (nodes, s) := s.dptFollow.shapeAll
    let radio := nodes.filter fun n => !n.wired
    let s := s.dptGrow radio.length
    let s := if s.rdB DPT_CTRL_EN && s.meshTx then
        (List.range 8).foldl (State.dalPort nodes) (s.dispatchRadio radio)
      else s
    let s := (s.count SHP_PASSES 1).wr SHP_LAST_DURATION dur
    if late then (s.count SHP_LATE 1).notice SHP_NOTE_LATE else s

/-! ### Frames on the bus (R333, R336, R339) -/

/-- A raw request's outcome (R339). -/
def State.rawDone (s : State) (status answer : Nat) : State :=
  (({ s with dal := { s.dal with raw := none } }.wr DAL_RAW_RES_STATUS status).wr DAL_RAW_RES_ANSWER answer).notice
    DAL_NOTE_RAW_DONE

def DalCmd.isRaw (c : DalCmd) : Bool :=
  match c.kind with
  | .raw _ _ _ _ => true
  | _ => false

/-- How many forward frames a command sends (R339). -/
def DalCmd.frames (c : DalCmd) : Nat :=
  match c.kind with
  | .raw _ _ true _ => 2
  | _ => 1

/-- A port's next frame meets a collision (R336). -/
def State.dalCollide (s : State) (k : Nat) (c : DalCmd) (rest : List DalCmd) : State :=
  let s := s.count DAL_COLLISIONS 1
  if c.tries < s.rd DAL_CFG_RETRY then s.setDalQueue k ({ c with tries := c.tries + 1 } :: rest)
  else
    let s := ((((s.setDalQueue k rest).invalidate c.gear).count DAL_FAILS 1).notice DAL_NOTE_TX_FAIL)
    if c.isRaw then s.rawDone 5 0 else s

/-- A port sends its next queued forward frame, or meets a collision (R333, R336). A port out of control sends nothing
(R340). -/
def State.dalSend (s : State) (k : Nat) (collision : Bool) : State :=
  if !s.dalRuns k || !s.meshTx then s
  else
    match s.dalQueue k with
    | [] => s
    | c :: rest =>
      if collision then s.dalCollide k c rest
      else ((s.setDalQueue k rest).count DAL_TX_FRAMES c.frames).emit (.dali k c.kind c.prio)

/-- A priority-4 DAPC to the port's next gear, while its queue is empty (R335) and the Shaper runs (R341). -/
def State.dalRefresh (s : State) (k : Nat) : State :=
  if !s.dalRuns k || !s.meshTx || !s.rdB SHP_CTRL_EN || s.rd DAL_CFG_REFRESH == 0 || !(s.dalQueue k).isEmpty then s
  else
    let shaped := fun i => bitAt (s.w8 0x0A (0x10000 + 16 * i + 11)) 0
    let gear := (s.gearOf k).filter shaped
    let pos := s.dal.cursors.getD k 0
    match (gear.filter fun i => pos < i) ++ (gear.filter fun i => i ≤ pos) with
    | [] => s
    | i :: _ =>
      let n : Shaped := ⟨i, true, [], s.w16 0x0A (0x10000 + 16 * i + 8), s.w8 0x0A (0x10000 + 16 * i + 10)⟩
      { s with dal := { s.dal with cursors := putAt 8 0 s.dal.cursors k i } }.dalQueueLevel k
        ⟨.short (s.wiredAddr i) n.arc, 4, [i], true, 0⟩ [n]

/-- A write of DAL_RAW_CTRL (R339): refused while another request is outstanding or DPT is not in control, or where the queue
takes no further command. -/
def State.rawRequest (s : State) (k : Nat) (bits24 twice answer : Bool) (prio : Nat) : State :=
  let refuse := fun (s : State) => (s.wr DAL_RAW_RES_STATUS 6).notice DAL_NOTE_RAW_DONE
  if s.dal.raw.isSome || !s.meshTx then refuse s
  else
    let frame := if bits24 then s.rd DAL_RAW_FRAME else s.rd DAL_RAW_FRAME % 65536
    match s.dalAppend k ⟨.raw frame bits24 twice answer, if 1 ≤ prio ∧ prio ≤ 5 then prio else 5, [], false, 0⟩ with
    | (true, s) => ({ s with dal := { s.dal with raw := some (k, answer) } }.wr DAL_RAW_RES_STATUS 0).wr DAL_RAW_RES_ANSWER 0
    | (false, s) => refuse s

/-- Whether the outstanding raw frame has left its queue. -/
def State.rawSent (s : State) (k : Nat) : Bool := !((s.dalQueue k).any DalCmd.isRaw)

/-- A raw frame is done (R339): `answer` is none for no backward frame, and its octet otherwise; `bad` tells of a framing
error in it. -/
def State.rawComplete (s : State) (answer : Option Nat) (bad : Bool) : State :=
  match s.dal.raw with
  | none => s
  | some (k, wants) =>
    if !s.rawSent k then s
    else if !wants then s.rawDone 1 0
    else
      match answer with
      | none => s.rawDone 3 0
      | some b => if bad then s.rawDone 4 0 else s.rawDone 2 b

/-- A bus is down (R337), whether or not the port was up: its queue is emptied, an outstanding raw request on it has failed. -/
def State.busDown (s : State) (k : Nat) : State :=
  let had := (s.dalQueue k).any DalCmd.isRaw
  let s := ((s.wr DAL_STATUS_UP (clrBit (s.rd DAL_STATUS_UP) k)).notice DAL_NOTE_BUS_DOWN).silt 0x0C01 k
  let s := s.setDalQueue k []
  if had then s.rawDone 5 0 else s

/-- A bus is up again (R337): VALID clears for every gear of the port. -/
def State.busUp (s : State) (k : Nat) : State :=
  if bitAt (s.rd DAL_STATUS_UP) k then s
  else
    let s := (s.wr DAL_STATUS_UP (setBit (s.rd DAL_STATUS_UP) k)).notice DAL_NOTE_BUS_UP
    s.invalidate (s.gearOf k)

/-! ### Event messages (R338): the 24 bits as IEC 62386-103 lays them out (PRESUMED, log entry 145) -/

/-- The device short address of an event message, in the schemes that carry one: bits 22:17 with bit 23 at 0. -/
def eventAddr (frame : Nat) : Option Nat := if bitAt frame 23 then none else some (bitsOf frame 17 6)

/-- The instance type of an event message that carries it in bits 14:10: bit 15 is 0. -/
def eventType (frame : Nat) : Option Nat := if bitAt frame 15 then none else some (bitsOf frame 10 5)

/-- The event information: bits 9:0. -/
def eventInfo (frame : Nat) : Nat := frame % 1024

/-- A received event message (R338) of 24 bits, with the module time of its last edge. A frame with bit 16 set is a command and no event
message. An event message that carries an instance type does not carry the instance number, which is free (log entry 145). -/
def State.dalEvent (s : State) (k frame instant : Nat) : State :=
  if !s.dalRuns k || bitAt frame 16 then s
  else
    let s := if s.rdB DAL_CTRL_FWD_EVT then
        s.slqPush 1 0x01 3 (packWords ([k, 0, 0, 0] ++ toOctets 3 frame ++ [0] ++ toOctets 8 instant))
      else s
    let found := match eventAddr frame, eventType frame with
      | some a, some _ => s.usedEntries.find? fun i => s.entType i == 3 && s.wiredPort i == k && s.wiredAddr i == a
      | _, _ => none
    match found with
    | none => (s.count DAL_EVENTS_IGN 1).notice DAL_NOTE_EVENT_BAD
    | some i =>
      if eventType frame = some (s.rd DAL_PRES_ITYPE) ∧ Nat.land (eventInfo frame) (s.rd DAL_PRES_MASK) ≠ 0 then
        let (inst, s) := s.draw
        (s.count DAL_EVENTS 1).drfDetect (s.ent i 0x10 2) instant 255 (inst % 32)
      else s

/-! ### The commands -/

/-- SHAPING_PASS (R314 to R331) at the raw count c: its duration to t1 in µs, and whether its predecessor was late. -/
def execShapingPass (c dur : Nat) (late : Bool) (s : State) : Host.Outcome State Fault Refusal :=
  .next (s.working 0x0A fun s => (s.reach c).shapingPass dur late)

/-- DAL_FRAME_TX (R333, R336). -/
def execDalFrameTx (k : Nat) (collision : Bool) (s : State) : Host.Outcome State Fault Refusal :=
  .next (s.whenLive 0x0C fun s => s.dalSend k collision)

/-- DAL_REFRESH (R335). -/
def execDalRefresh (k : Nat) (s : State) : Host.Outcome State Fault Refusal :=
  .next (s.whenLive 0x0C fun s => s.dalRefresh k)

/-- DAL_BUS_DOWN (R337). -/
def execDalBusDown (k : Nat) (s : State) : Host.Outcome State Fault Refusal := .next (s.whenLive 0x0C fun s => s.busDown k)

/-- DAL_BUS_UP (R337). -/
def execDalBusUp (k : Nat) (s : State) : Host.Outcome State Fault Refusal := .next (s.whenLive 0x0C fun s => s.busUp k)

/-- DAL_EVENT_RECEIVED (R338). -/
def execDalEventReceived (k frame instant : Nat) (s : State) : Host.Outcome State Fault Refusal :=
  .next (s.whenLive 0x0C fun s => s.dalEvent k frame instant)

/-- DAL_RAW_REQUEST (R339): a write of DAL_RAW_CTRL. -/
def execDalRawRequest (port : Port) (k : Nat) (bits24 twice answer : Bool) (prio : Nat) (s : State) :
    Host.Outcome State Fault Refusal :=
  .next (s.effect port DAL_RAW_CTRL_PORT.addr fun s => s.rawRequest k bits24 twice answer prio)

/-- DAL_RAW_COMPLETE (R339). -/
def execDalRawComplete (answer : Option Nat) (bad : Bool) (s : State) : Host.Outcome State Fault Refusal :=
  .next (s.whenLive 0x0C fun s => s.rawComplete answer bad)

end Sys2Proof.Machine
end

