-- ==== Sys2Proof/Machine/Switch.lean ====
section
/-! DEFINITION. The backbone switch and its ports (R375 to R392, R398 to R402). -/

namespace Sys2Proof.Machine

/-! ### VLAN table and port states (R385, R386) -/

/-- The VLAN table's word of a VID; entries 0 and 4,095 are ignored (R385). -/
def State.vlan (s : State) (vid : Nat) : Nat := if vid = 0 ∨ vid = 4095 then 0 else s.w32 0x10 (4 * vid)

def State.vlanValid (s : State) (vid : Nat) : Bool := bitAt (s.vlan vid) 24
/-- The members of a VLAN in use. -/
def State.vlanMember (s : State) (vid k : Nat) : Bool := s.vlanValid vid && bitAt (s.vlan vid) k
def State.vlanUntag (s : State) (vid k : Nat) : Bool := s.vlanValid vid && bitAt (s.vlan vid) (8 + k)
/-- The instance that governs a VLAN's frames; 0 for a VLAN not in use. -/
def State.vlanInstance (s : State) (vid : Nat) : Nat := if s.vlanValid vid then bitsOf (s.vlan vid) 16 2 else 0

/-- A port's state in an instance; P6 forwards in every one (R386). -/
def State.fwdState (s : State) (k inst : Nat) : Nat := if k = 6 then 3 else bitsOf (s.rd (ETP_FWD_STATE k)) (2 * inst) 2

/-- Whether an external port runs: the fabric and the port enabled and the link up. -/
def State.portUp (s : State) (k : Nat) : Bool :=
  s.rdB SWF_CTRL_EN && s.rdB (ETP_CTRL_EN k) && s.rdB (ETP_STATUS_LINK k)

/-! ### Packet buffer (R380, R381) -/

/-- The cells of a stored frame. -/
def SwFrame.cells (f : SwFrame) : Nat := ceilDiv f.frame.size 256

def State.swQueue (s : State) (k c : Nat) : List SwFrame := s.swf.queues.getD (8 * k + c) []
def State.setSwQueue (s : State) (k c : Nat) (q : List SwFrame) : State :=
  { s with swf := { s.swf with queues := putAt 56 [] s.swf.queues (8 * k + c) q } }

/-- The stored frames: a frame flooded to several ports is stored once (R382). -/
def State.stored (s : State) : List SwFrame :=
  s.swf.queues.flatten.foldl (fun acc f => if acc.any (fun g => g.id == f.id) then acc else acc ++ [f]) []

def cellSum (l : List SwFrame) : Nat := (l.map SwFrame.cells).sum

/-- SWF_STATUS.USED. -/
def State.cellsUsed (s : State) : Nat := cellSum s.stored

/-- The cells in use by the frames of an ingress port. -/
def State.portCells (s : State) (k : Nat) : Nat := cellSum (s.stored.filter fun f => f.src == k)

/-- The cells that the buffer allocates: a running slice of region 0x41 takes out its piece's 64 (R380, R519). -/
def State.cellsTotal (s : State) : Nat := 32768 - 64 * (s.siv.slices.filter fun x => x.region == 0x41).length

/-- The reserve of an ingress port; P6 has none. -/
def State.reserve (s : State) (k : Nat) : Nat := if k < 6 then s.rd (ETP_RSV_CELLS k) else 0

/-- Cells of the shared pool in use when port `k` takes n more (R381). -/
def State.poolUse (s : State) (k n : Nat) : Nat :=
  ((List.range 7).map fun p => s.portCells p + (if p = k then n else 0) - s.reserve p).sum

/-- Whether the reserve or the shared pool, and the buffer itself, have room for n cells of port `k` (R380, R381). -/
def State.bufferRoom (s : State) (k n : Nat) : Bool :=
  decide (s.cellsUsed + n ≤ s.cellsTotal) && (decide (s.portCells k + n ≤ s.reserve k) ||
    decide (s.poolUse k n + ((List.range 6).map s.reserve).sum ≤ s.cellsTotal))

/-- The free count of R381. -/
def State.cellsFree (s : State) : Nat := s.cellsTotal - s.cellsUsed

/-- Set BUF_LOW when the free count has fallen below SWF_BUF_LOW from what it was (R381). -/
def State.bufLow (s : State) (before : Nat) : State :=
  s.noticeIf (s.rd SWF_BUF_LOW ≤ before && s.cellsFree < s.rd SWF_BUF_LOW) SWF_NOTE_BUF_LOW

/-! ### Flow control sent (R390) -/

/-- XON above XOFF acts as XOFF (R402). -/
def State.xon (s : State) (k : Nat) : Nat := min (s.rd (ETP_FC_THR_XON k)) (s.rd (ETP_FC_THR_XOFF k))

/-- Send PAUSE, or PFC with PFC_EN set. -/
def State.sendPause (s : State) (k quanta : Nat) : State :=
  let s := s.count (ETP_TX_PAUSE k) 1
  if s.rdB (ETP_FC_PFC_EN k) then s.emit (.pfc k (s.rd (ETP_FC_PFC_CLASSES k)) quanta) else s.emit (.pause k quanta)

def State.sendsPause (s : State) (k : Nat) : Bool := s.rdB (ETP_FC_PAUSE_TX k) || s.rdB (ETP_FC_PFC_EN k)

/-- Ingress use has risen: at XOFF cells the port sends its pause. -/
def State.pauseRise (s : State) (k : Nat) : State :=
  if k < 6 && s.sendsPause k && !s.swf.xoff.contains k && s.rd (ETP_FC_THR_XOFF k) ≤ s.portCells k then
    { s with swf := { s.swf with xoff := k :: s.swf.xoff } }.sendPause k (s.rd (ETP_FC_HEAD_QUANTA k))
  else s

/-- Ingress use has fallen: below XON the port sends quanta 0. -/
def State.pauseFall (s : State) (k : Nat) : State :=
  if s.swf.xoff.contains k && s.portCells k < s.xon k then
    { s with swf := { s.swf with xoff := s.swf.xoff.filter (· != k) } }.sendPause k 0
  else s

def State.pauseFalls (s : State) : State := (List.range 6).foldl State.pauseFall s

/-! ### Flow control received (R389) -/

/-- Tenths of a nanosecond of one quantum of 512 bit times, by SPEED. -/
def quantum (speed : Nat) : Nat :=
  if speed = 0 then 512000 else if speed = 1 then 51200 else if speed = 2 then 5120 else if speed = 3 then 2048 else 512

/-- Raw time in 0.1 ns. -/
def State.rawTenths (s : State) : Nat := s.time.raw * 40

/-- PAUSED and PFC_PAUSED as the running pauses give them. -/
def State.showPause (s : State) (k : Nat) : State :=
  let on := fun c => (Sparse.get s.swf.pauses (9 * k + c)).isSome
  (s.wrB (ETP_STATUS_PAUSED k) (on 8)).wr (ETP_STATUS_PFC_PAUSED k) (flagBits ((List.range 8).map on))

/-- A pause of class c (8 for IEEE 802.3x) starts now, or ends with quanta 0; it replaces the remaining time. -/
def State.pauseFor (s : State) (k c quanta : Nat) : State :=
  if quanta = 0 then { s with swf := { s.swf with pauses := Sparse.erase s.swf.pauses (9 * k + c) } }
  else { s with swf := { s.swf with
    pauses := Sparse.insert s.swf.pauses (9 * k + c) (s.rawTenths + quanta * quantum (s.rd (ETP_STATUS_SPEED k))) } }

/-- Pauses whose time has run out end. -/
def State.pauseSweep (s : State) (k : Nat) : State :=
  { s with swf := { s.swf with pauses := s.swf.pauses.filter fun p => p.1 / 9 != k || s.rawTenths < p.2 } }.showPause k

/-- A received PAUSE or PFC frame. -/
def State.controlRx (s : State) (k op : Nat) (b : List Nat) : State :=
  let s := s.count (ETP_RX_PAUSE k) 1
  if op = 1 then
    if s.rdB (ETP_FC_PAUSE_RX k) && !s.rdB (ETP_FC_PFC_EN k) then (s.pauseFor k 8 (beN b 4 2)).showPause k else s
  else if s.rdB (ETP_FC_PFC_EN k) then
    ((List.range 8).foldl (fun s c => if bitAt (oct b 5) c then s.pauseFor k c (beN b (6 + 2 * c) 2) else s) s).showPause k
  else s

/-! ### The address table (R388) -/

def FdbEntry.keyed (e : FdbEntry) (mac vid : Nat) : Bool := e.mac == mac && e.vid == vid

/-- The entry of an address and VID, with its index. -/
def State.fdbFind (s : State) (mac vid : Nat) : Option (Nat × FdbEntry) := s.swf.fdb.find? fun p => p.2.keyed mac vid

/-- Replace the table, and show the entries in use. -/
def State.setFdb (s : State) (l : List (Nat × FdbEntry)) : State :=
  { s with swf := { s.swf with fdb := l } }.wr SWF_FDB_USED l.length

/-- The place for a new entry in its bucket: a free one, or that of the dynamic entry seen least recently. -/
def State.fdbPlace (s : State) (mac vid : Nat) : Option Nat :=
  let base := 4 * (Config.fdbBucket mac vid % 4096)
  let slots := (List.range 4).map (base + ·)
  match slots.find? fun i => (Sparse.get s.swf.fdb i).isNone with
  | some i => some i
  | none =>
    let dynamic := slots.filterMap fun i => (Sparse.get s.swf.fdb i).bind fun e => if e.static_ then none else some (i, e.seen)
    ((sortBy (fun a b => a.2 ≤ b.2) dynamic).head?).map Prod.fst

/-- A source is learned, moved or seen again. -/
def State.learn (s : State) (mac vid k : Nat) : State :=
  if !s.rdB SWF_CTRL_LEARN_EN then s
  else
    match s.fdbFind mac vid with
    | some (i, e) =>
      let e := if e.static_ then { e with seen := s.time.raw, seenAt := s.moduleTime }
        else { e with ports := 2 ^ k, seen := s.time.raw, seenAt := s.moduleTime }
      s.setFdb (Sparse.insert s.swf.fdb i e)
    | none =>
      match s.fdbPlace mac vid with
      | some i => s.setFdb (Sparse.insert s.swf.fdb i ⟨mac, vid, 2 ^ k, false, s.time.raw, s.moduleTime⟩)
      | none => (s.count SWF_FDB_FULL 1).notice SWF_NOTE_FDB_FULL

/-- Whole seconds of module time since an entry was last seen: a step of module time moves the end of its life (R20). -/
def State.fdbAge (s : State) (e : FdbEntry) : Nat := (s.moduleTime - e.seenAt) / 1000000000

/-- Dynamic entries not seen for SWF_AGE.SECONDS go. -/
def State.fdbExpire (s : State) : State :=
  if s.rd SWF_AGE_SECONDS = 0 then s
  else s.setFdb (s.swf.fdb.filter fun p => p.2.static_ || s.fdbAge p.2 < s.rd SWF_AGE_SECONDS)

/-- One byte of the address table in the window (R388). -/
def State.fdbByte (s : State) (off : Nat) : Nat :=
  match Sparse.get s.swf.fdb (off / 16) with
  | none => 0
  | some e =>
    let o := off % 16
    if o < 6 then octet e.mac o
    else if o < 8 then octet e.vid (o - 6)
    else if o = 8 then e.ports
    else if o = 9 then 1 + (if e.static_ then 2 else 0)
    else if o < 12 then octet (min 65535 (s.fdbAge e)) (o - 10)
    else 0

/-- The address of SWF_FDB_MAC. -/
def State.fdbMac (s : State) : Nat := s.rd SWF_FDB_MAC_LO + 2 ^ 32 * s.rd SWF_FDB_MAC_HI

/-- The result of a command. -/
def State.fdbResult (s : State) (r : Nat) (index : Option Nat) : State :=
  let s := s.wr SWF_FDB_STAT_RESULT r
  match index with
  | some i => s.wr SWF_FDB_STAT_INDEX i
  | none => s

def State.fdbInsert (s : State) (vid : Nat) : State :=
  let place := match s.fdbFind s.fdbMac vid with
    | some (i, _) => some i
    | none => s.fdbPlace s.fdbMac vid
  match place with
  | some i => (s.setFdb (Sparse.insert s.swf.fdb i ⟨s.fdbMac, vid, s.rd SWF_FDB_PORTS, true, s.time.raw, s.moduleTime⟩)).fdbResult 0 (some i)
  | none => s.fdbResult 1 none

def State.fdbDelete (s : State) (vid : Nat) : State :=
  match s.fdbFind s.fdbMac vid with
  | some (i, _) => (s.setFdb (Sparse.erase s.swf.fdb i)).fdbResult 0 (some i)
  | none => s.fdbResult 2 none

def State.fdbLookup (s : State) (vid : Nat) : State :=
  match s.fdbFind s.fdbMac vid with
  | some (i, _) => s.fdbResult 0 (some i)
  | none => s.fdbResult 2 none

/-- Remove the dynamic entries that `p` names. -/
def State.fdbFlush (s : State) (p : FdbEntry → Bool) : State :=
  (s.setFdb (s.swf.fdb.filter fun e => e.2.static_ || !p e.2)).fdbResult 0 none

def State.fdbFlushPort (s : State) (k : Nat) : State := s.fdbFlush fun e => e.ports == 2 ^ k
def State.fdbFlushInstance (s : State) (i : Nat) : State := s.fdbFlush fun e => s.vlanInstance e.vid == i
def State.fdbFlushAll (s : State) : State := s.fdbFlush fun _ => true

/-- A write of SWF_FDB_CMD (R401). The commands end at once, so that BUSY reads 0. -/
def State.fdbCommand (s : State) (w : Nat) : State :=
  let vid := bitsOf w 16 12
  match bitsOf w 0 3 with
  | 1 => s.fdbInsert vid
  | 2 => s.fdbDelete vid
  | 3 => s.fdbFlushPort (bitsOf w 8 3)
  | 4 => s.fdbFlushInstance (bitsOf w 12 2)
  | 5 => s.fdbFlushAll
  | 6 => s.fdbLookup vid
  | _ => s

/-! ### Frames given up (R375, R386, R394, R414) -/

/-- A frame is given up for a port: a host frame with TS_REQ makes its entry with STATUS 1 and timestamp 0 (R414). -/
def State.giveUp (s : State) (k : Nat) (tsId : Option Nat) : State :=
  match tsId with
  | some id => s.tsPut ⟨id, k, 1, 0⟩
  | none => s

/-- Discard the frames of a port's queues that `p` names, counted in ETP_FLUSH_DROP. -/
def State.flushPort (s : State) (k : Nat) (p : SwFrame → Bool) : State :=
  let gone := (((List.range 8).map (s.swQueue k)).flatten).filter p
  let s := (List.range 8).foldl (fun s c => s.setSwQueue k c ((s.swQueue k c).filter fun f => !p f)) s
  (gone.foldl (fun s f => s.giveUp k f.tsId) (s.count (ETP_FLUSH_DROP k) gone.length)).pauseFalls

/-- The link of a port goes up or down: LINK_CHANGE; a lost link ends low-power idle and pauses (R402). -/
def State.setLink (s : State) (k : Nat) (up : Bool) : State :=
  if s.rdB (ETP_STATUS_LINK k) = up then s
  else
    let s := (s.wrB (ETP_STATUS_LINK k) up).notice (ETP_NOTE_LINK_CHANGE k)
    if up then s
    else { s with swf := { s.swf with pauses := s.swf.pauses.filter fun p => p.1 / 9 != k } }.wrAll
      [(ETP_STATUS_LPI_TX k, 0), (ETP_STATUS_LPI_RX k, 0), (ETP_STATUS_PAUSED k, 0), (ETP_STATUS_PFC_PAUSED k, 0)]

/-- The mode in force: 3 acts as 0 (R375). -/
def State.portMode (s : State) (k : Nat) : Nat := s.rd (ETP_CTRL_MODE k) % 3

/-- The speed of a mode; for SGMII the PHY's control word signals it, which a port reads with AN_EN. Without it the port keeps SGMII's own
1,000 Mbit/s (R375; DESIGN CHOICE, log 178). -/
def modeSpeed (k mode signalled : Nat) (an : Bool) : Nat :=
  if k < 2 then (if mode = 1 then 4 else 2) else if mode = 1 then (if an then min signalled 2 else 2) else 3

/-- A port's partner or medium changes the link. -/
def State.linkChange (s : State) (k : Nat) (up : Bool) (speed : Nat) : State :=
  if !up then s.setLink k false
  else if s.rdB (ETP_CTRL_EN k) && s.portMode k != 0 && s.modes.sieve != .full then
    (s.wr (ETP_STATUS_SPEED k) (modeSpeed k (s.portMode k) speed (s.rdB (ETP_LINK_AN_EN k)))).setLink k true
  else s

/-- A write of ETP_CTRL: a change of MODE drops the link and flushes the queue; without EN the port does not run (R375). -/
def State.etpCtrl (s : State) (k : Nat) (en : Bool) (mode : Nat) : State :=
  let changed := mode != s.rd (ETP_CTRL_MODE k)
  let s := (s.wrB (ETP_CTRL_EN k) en).wr (ETP_CTRL_MODE k) mode
  let s := s.noticeIf (mode == 3) (ETP_NOTE_CFG_ERR k)
  let s := if changed || !en then s.setLink k false else s
  if changed then s.flushPort k fun _ => true else s

/-- A write of ETP_FWD_STATE: the queued frames of an instance that leaves FORWARDING go, and those of one that is DISABLED, from which
not even DIRECT frames leave (R386). -/
def State.fwdWrite (s : State) (k w : Nat) : State :=
  let old := s.rd (ETP_FWD_STATE k)
  let s := s.wr (ETP_FWD_STATE k) w
  s.flushPort k fun f =>
    let i := s.vlanInstance f.vid
    (bitsOf old (2 * i) 2 == 3 && bitsOf w (2 * i) 2 != 3) || bitsOf w (2 * i) 2 == 0

/-! ### Reception and forwarding (R378, R382 to R388) -/

/-- Store a frame once and put it into the class queues of its egress ports, dropped toward full ones (R382). -/
def State.swEnqueue (s : State) (f : SwFrame) (ports : List Nat) : State :=
  let before := s.cellsFree
  let s := { s with swf := { s.swf with nextId := s.swf.nextId + 1 } }
  let s := ports.foldl (fun s k =>
    let q := s.swQueue k f.cls
    if k < 6 && s.rd (ETP_QLIM_CELLS k) ≤ cellSum q then
      if f.src < 6 then (s.count (ETP_RX_BUF_DROP f.src) 1).notice (ETP_NOTE_BUF_DROP f.src) else s
    else s.setSwQueue k f.cls (q ++ [{ f with id := s.swf.nextId }])) s
  (s.bufLow before).pauseRise f.src

/-- The ports a frame leaves by: its entry's ports, or the members of its VLAN; never its ingress port, and only where the
instance is FORWARDING (R386, R388). -/
def State.egressPorts (s : State) (f : EthFrame) (vid k : Nat) : List Nat :=
  let members := (List.range 7).filter (s.vlanMember vid)
  let to_ := match s.fdbFind f.dst vid with
    | some (_, e) => if f.dst = 2 ^ 48 - 1 then members else (List.range 7).filter (bitAt e.ports)
    | none => members
  to_.filter fun p => p != k && s.fwdState p (s.vlanInstance vid) == 3

/-- A frame's VID: VID 0 and an untagged frame take the PVID (R385). The host's untagged frames take VID 1. -/
def State.vidOf (s : State) (f : EthFrame) (k : Nat) : Nat :=
  if f.vid = 0 then (if k < 6 then s.rd (ETP_VLAN_PVID k) else 1) else f.vid

/-- A frame's traffic class (R383). -/
def State.classOf (s : State) (f : EthFrame) (k : Nat) : Nat :=
  let prio := if f.vid = 0 then s.rd (ETP_VLAN_PCP k) else f.tag.getD 0 / 8192 % 8
  bitsOf (s.rd (ETP_PCP_MAP k)) (3 * prio) 3

/-- Whether a received frame fails a VLAN rule (R385): VID 4,095, its own or the PVID it takes; ACCEPT; or the ingress filter. A
priority-tagged frame is not a tagged one. -/
def State.vlanDrops (s : State) (f : EthFrame) (k vid : Nat) : Bool :=
  vid == 4095 || (s.rd (ETP_VLAN_ACCEPT k) == 1 && f.vid == 0) || (s.rd (ETP_VLAN_ACCEPT k) == 2 && f.vid != 0) ||
  (s.rdB (ETP_VLAN_INGRESS_FILTER k) && !s.vlanMember vid k)

/-- Whether the engine consumes a frame: an IEEE 1588 message of its domain on one of its ports (R410, R411). -/
def State.engineTakes (s : State) (k : Nat) (f : EthFrame) : Bool :=
  s.ptpRuns && s.ptpPort k && (match f.ptp with
    | some m => m.known && bitAt (s.rd TIM_PTP_XPORT_TRANSPORT) m.xport && m.domain == s.ptpDomain && ptpSupported m.kind
    | none => false)

/-- Whether PFC admits a frame: beyond the headroom frames of the classes named are dropped (R390). -/
def State.pfcDrops (s : State) (k cls : Nat) : Bool :=
  s.rdB (ETP_FC_PFC_EN k) && bitAt (s.rd (ETP_FC_PFC_CLASSES k)) cls && s.swf.xoff.contains k &&
  decide (s.rd (ETP_FC_THR_XOFF k) + s.rd (ETP_FC_HEAD_HEADROOM k) ≤ s.portCells k)

/-- A frame that the buffer holds goes to egress ports. -/
def State.admitFrame (s : State) (f : SwFrame) (ports : List Nat) : State := if ports.isEmpty then s else s.swEnqueue f ports

/-- A good frame's way: link-local frames and the engine's messages first, then the VLAN rules, the port's state, learning and
the lookup (R385 to R388, R411). -/
def State.forward (s : State) (k : Nat) (f : EthFrame) (rx : Int) : State :=
  let vid := s.vidOf f k
  let st := s.fwdState k (s.vlanInstance vid)
  let fr : SwFrame := ⟨0, f, k, s.classOf f k, vid, rx, false, false, none⟩
  if s.engineTakes k f then
    if s.rdB TIM_CTRL_COPY_HOST && st != 0 then s.admitFrame { fr with asIs := true } [6] else s
  else if f.linkLocal then
    let s := if 2 ≤ st then s.learn f.src vid k else s
    if st = 0 then s else s.admitFrame { fr with asIs := true } [6]
  else if s.vlanDrops f k vid then s.count (ETP_RX_VLAN_DROP k) 1
  else
    let s := if 2 ≤ st then s.learn f.src vid k else s
    if st = 3 then s.admitFrame fr (s.egressPorts f vid k) else s

/-- Raise a 64-bit byte counter. -/
def State.countBytes (s : State) (lo hi : Field) (n : Nat) : State :=
  let v := s.rd lo + 2 ^ 32 * s.rd hi + n
  (s.wr lo v).wr hi (v / 2 ^ 32)

/-- A frame whose carry check fails at the hand-off from the port to the buffer is lost as R399 states (R379, R563). -/
def State.frameLost (s : State) (k : Nat) : State :=
  ((s.count SWF_ECC_DROP 1).notice SWF_NOTE_ECC_DROP).itgCarry 0x10 (0x11 + k)

/-- A port receives a frame of `len` octets (R378): `ns` is the instant of its start at the pins. Its cells are taken as it arrives, before
its FCS has come (R381); MAC control frames take none and are handed to no other unit (R389). -/
def State.frameRx (s : State) (k len : Nat) (f : EthFrame) (check : FrameCheck) (ns : Int) : State :=
  if !s.portUp k then s
  else if len < 64 then (s.count (ETP_RX_RUNT k) 1).notice (ETP_NOTE_SIZE_ERR k)
  else if 9216 < len then (s.count (ETP_RX_OVERSIZE k) 1).notice (ETP_NOTE_SIZE_ERR k)
  else
    match check != .badFcs, f.control with
    | true, some op => s.controlRx k op f.body
    | _, _ =>
      if !s.bufferRoom k (ceilDiv len 256) then (s.count (ETP_RX_BUF_DROP k) 1).notice (ETP_NOTE_BUF_DROP k)
      else if check = .badFcs then (s.count (ETP_RX_FCS_ERR k) 1).notice (ETP_NOTE_FCS_ERR k)
      else if check = .badCarry then s.frameLost k
      else if s.pfcDrops k (s.classOf f k) then s.count (ETP_PFC_DROP k) 1
      else ((s.count (ETP_RX_OK k) 1).countBytes (ETP_RX_BYTES_LO k) (ETP_RX_BYTES_HI k) len).forward k f (s.rxStamp k ns)

/-! ### Transmission (R378, R384, R389, R413) -/

/-- A frame as it leaves port k: tagged or untagged as the VLAN states, padded to 64 octets (R378, R385). -/
def State.egressForm (s : State) (f : SwFrame) (k : Nat) : EthFrame :=
  if f.asIs then f.frame
  else if s.vlanUntag f.vid k then { f.frame with tag := none }.pad
  else
    let prio := match f.frame.tag with
      | some t => if t % 4096 = 0 ∧ f.src < 6 then s.rd (ETP_VLAN_PCP f.src) else t / 8192 % 8
      | none => if f.src < 6 then s.rd (ETP_VLAN_PCP f.src) else 0
    { f.frame with tag := some (prio * 8192 + f.frame.tag.getD 0 / 4096 % 2 * 4096 + f.vid) }

/-- Whether a queue may be served: it holds a frame and its class is not paused (R389). -/
def State.ready (s : State) (k c : Nat) : Bool :=
  !(s.swQueue k c).isEmpty && (Sparse.get s.swf.pauses (9 * k + c)).isNone

/-- The next class below SP_MIN in turn, from c downwards and around, that is ready. -/
def nextTurn (ready : Nat → Bool) (spMin c : Nat) : Nat → Option Nat
  | 0 => none
  | n + 1 =>
    let d := if c = 0 ∨ spMin ≤ c then spMin - 1 else c - 1
    if ready d then some d else nextTurn ready spMin d n

/-- The weight of a class; 0 acts as 1 (R384). -/
def State.weight (s : State) (k c : Nat) : Nat := max 1 (bitsOf (s.rd (ETP_WEIGHT k)) (4 * c) 4)

/-- Deficit round robin (R384): the class in turn sends while its deficit holds the frame; else the next class is in turn and
gains its quantum. -/
def State.drr (s : State) (k spMin : Nat) (len : Nat → Nat) : Nat → Option (Nat × State)
  | 0 => none
  | n + 1 =>
    let c := s.swf.turns.getD k 0
    let d := s.swf.deficits.getD (8 * k + c) 0
    if c < spMin && s.ready k c && len c ≤ d then
      some (c, { s with swf := { s.swf with deficits := putAt 56 0 s.swf.deficits (8 * k + c) (d - len c) } })
    else
      match nextTurn (s.ready k) spMin c 8 with
      | none => none
      | some e =>
        State.drr { s with swf := { s.swf with
          turns := putAt 7 0 s.swf.turns k e,
          deficits := putAt 56 0 s.swf.deficits (8 * k + e) (s.swf.deficits.getD (8 * k + e) 0 + 1024 * s.weight k e) } } k spMin len n

/-- The class to be served: strictly the highest at or above SP_MIN, else by deficit round robin. A frame of 9,220 octets
needs at most ten turns of each of seven classes. -/
def State.chooseClass (s : State) (k : Nat) : Option (Nat × State) :=
  let spMin := s.rd (ETP_SCHED_SP_MIN k)
  match ((List.range 8).reverse.find? fun c => spMin ≤ c && s.ready k c) with
  | some c => some (c, s)
  | none =>
    s.drr k spMin (fun c => match s.swQueue k c with
      | f :: _ => (s.egressForm f k).size
      | [] => 0) 80

/-- A queue that has become empty loses its deficit. -/
def State.settleDeficit (s : State) (k c : Nat) : State :=
  if (s.swQueue k c).isEmpty then { s with swf := { s.swf with deficits := putAt 56 0 s.swf.deficits (8 * k + c) 0 } } else s

/-- Whether the switch corrects a forwarded message: a Sync or Delay_Req between external ports (R413). -/
def State.corrects (s : State) (f : SwFrame) : Bool :=
  s.rdB TIM_CTRL_TC_EN && f.src < 6 && (match f.frame.ptp with
    | some m => (m.kind == 0 || m.kind == 1) && !(s.rd TIM_CTRL_ROLE == 2 && m.domain == s.ptpDomain)
    | none => false)

/-- The frame's start leaves port k at `ns` of the pins. With `bad` its FCS is inverted (R399). -/
def State.sendFrame (s : State) (k : Nat) (f : SwFrame) (ns : Int) (bad : Bool) : State :=
  let e := s.egressForm f k
  if 9216 < e.size then ((s.count (ETP_TX_OVERSIZE k) 1).notice (ETP_NOTE_TX_OVERSIZE k)).giveUp k f.tsId
  else
    let t := s.txStamp k ns
    let fix := s.corrects f
    let s := if fix then s.count TIM_TC_FRAMES 1 else s
    let s := s.emit (.ether k (if fix then e.correct (t - f.rx) else e) t bad)
    let s := if bad then s else (s.count (ETP_TX_OK k) 1).countBytes (ETP_TX_BYTES_LO k) (ETP_TX_BYTES_HI k) e.size
    match f.tsId with
    | some id => s.tsPut ⟨id, k, 0, codeOf 64 t⟩
    | none => s

/-- A stored frame whose cells fail is dropped (R399): they fail the symbol code, or the carry check at the hand-off to the page that
sends the frame. -/
def State.eccDrop (s : State) (carry : Bool) (page : Nat) : State :=
  let s := (s.count SWF_ECC_DROP 1).notice SWF_NOTE_ECC_DROP
  if carry then s.itgCarry page 0x10 else s.itgReadError 1 0x10

/-- An egress port starts its next frame (R384). Its cells fail the symbol code before its first octet leaves (`ecc` 1) or during
transmission (2), or the carry check then (3, 4) (R399). -/
def State.transmit (s : State) (k : Nat) (ns : Int) (ecc : Nat) : State :=
  let s := s.pauseSweep k
  if !s.portUp k || s.rdB (ETP_STATUS_PAUSED k) || s.rdB (ETP_STATUS_LPI_TX k) then s
  else
    match s.chooseClass k with
    | none => s
    | some (c, s) =>
      match s.swQueue k c with
      | [] => s
      | f :: rest =>
        let s := (s.setSwQueue k c rest).settleDeficit k c
        let s := if ecc = 1 ∨ ecc = 3 then (s.eccDrop (ecc == 3) (0x11 + k)).giveUp k f.tsId
          else (if ecc = 0 then s else s.eccDrop (ecc == 4) (0x11 + k)).sendFrame k f ns (ecc != 0)
        s.pauseFalls

/-! ### Low-power idle and stepping (R391, R392) -/

def State.portIdle (s : State) (k : Nat) : Bool := (List.range 8).all fun c => (s.swQueue k c).isEmpty

/-- Enter low-power idle. -/
def State.lpiEnter (s : State) (k : Nat) : State :=
  if s.rdB (ETP_LPI_EN k) && s.portUp k && !s.rdB (ETP_STATUS_LPI_TX k) then
    (s.wr (ETP_STATUS_LPI_TX k) 1).count (ETP_LPI_ENTRIES k) 1
  else s

/-- DOZE forces every port with LPI.EN set into low-power idle (R28, R391). -/
def State.lpiForce (s : State) : State := (List.range 6).foldl State.lpiEnter s

/-- The wake time of a frame queued during low-power idle has passed. -/
def State.lpiWake (s : State) (k : Nat) : State := if s.portIdle k then s else s.wr (ETP_STATUS_LPI_TX k) 0

/-- Fabric capacity in Mbit/s, by SWF_STATUS.CLK. -/
def fabricMbits (clk : Nat) : Nat := 80000 / 2 ^ clk

/-- The highest clock allowed: CEIL, 3 acting as 2, and 156.25 MHz in QUIET whatever CEIL holds (R392). -/
def State.clkCeil (s : State) : Nat := if s.modes.power = .quiet then 1 else min 2 (s.rd SWF_STEP_CEIL)

/-- The clock never runs above its ceiling. -/
def State.clkClamp (s : State) : State := s.wr SWF_STATUS_CLK (max s.clkCeil (s.rd SWF_STATUS_CLK))

/-- The stepping decision on the loads of the last 100 µs and the last 1 µs in Mbit/s. -/
def State.speedStep (s : State) (load100 load1 : Nat) : State :=
  if !s.rdB SWF_STEP_EN || !s.rdB SWF_CTRL_EN then s
  else
    let s := s.clkClamp
    let l := s.rd SWF_STATUS_CLK
    if 75 * fabricMbits l < 100 * load1 || 1024 ≤ s.cellsUsed then (if s.clkCeil < l then s.wr SWF_STATUS_CLK (l - 1) else s)
    else if l < 2 && 100 * load100 < 40 * fabricMbits (l + 1) then s.wr SWF_STATUS_CLK (l + 1)
    else s

/-! ### MDIO (R376) -/

/-- A transaction starts; one asked for while BUSY is discarded. -/
def State.mdioStart (s : State) (op : Nat) (c45 : Bool) (phy reg : Nat) : State :=
  if s.rdB SWF_MDIO_CMD_BUSY then s
  else { s with swf := { s.swf with mdioRead := 2 ≤ op } }.wr SWF_MDIO_CMD_BUSY 1 |>.emit
    (.mdio op c45 phy reg (s.rd SWF_MDIO_DATA))

def State.mdioEnd (s : State) (data : Nat) : State :=
  if !s.rdB SWF_MDIO_CMD_BUSY then s
  else
    let s := s.wr SWF_MDIO_CMD_BUSY 0
    (if s.swf.mdioRead then s.wr SWF_MDIO_DATA data else s).notice SWF_NOTE_MDIO_DONE

/-- A write of SWF_MDIO_CMD. -/
def State.mdioCommand (s : State) (w : Nat) : State := s.mdioStart (bitsOf w 1 2) (bitAt w 3) (bitsOf w 4 5) (bitsOf w 9 5)

/-! ### Starts and stops (R400) -/

/-- Buffer and address table are lost (R400). -/
def State.swfStart (s : State) : State := { s with swf := .empty }

/-- Every link goes down (R400). -/
def State.linksDown (s : State) : State := (List.range 6).foldl (fun s k => s.setLink k false) s

/-! ### The commands -/

/-- Run while the switch and the port's page are usable. -/
def State.onPort (s : State) (k : Nat) (f : State → State) : State := s.working 0x10 fun s => s.working (0x11 + k) f

/-- ETP_FRAME_RECEIVED (R378 to R390): `c` is the raw count at the frame's last octet. -/
def execEtpFrameReceived (k c len : Nat) (f : EthFrame) (check : FrameCheck) (ns : Int) (s : State) : Host.Outcome State Fault Refusal :=
  .next ((s.reach c).onPort k fun s => s.wakeSys.frameRx k len f check ns)

/-- ETP_FRAME_TRANSMIT (R384). -/
def execEtpFrameTransmit (k c : Nat) (ns : Int) (ecc : Nat) (s : State) : Host.Outcome State Fault Refusal :=
  .next ((s.reach c).onPort k fun s => s.transmit k ns ecc)

/-- PAUSE_TIMER_EXPIRY (R389). -/
def execPauseTimerExpiry (k c : Nat) (s : State) : Host.Outcome State Fault Refusal :=
  .next ((s.reach c).onPort k fun s => s.pauseSweep k)

/-- PAUSE_REPEAT (R390). -/
def execPauseRepeat (k : Nat) (s : State) : Host.Outcome State Fault Refusal :=
  .next (s.onPort k fun s =>
    if s.sendsPause k && s.swf.xoff.contains k && s.xon k ≤ s.portCells k then s.sendPause k (s.rd (ETP_FC_HEAD_QUANTA k)) else s)

/-- Received low-power idle begins or ends on a link that is up (R402). -/
def State.lpiRx (s : State) (k : Nat) (on : Bool) : State := if s.portUp k then s.wrB (ETP_STATUS_LPI_RX k) on else s

/-- LPI_ENTRY (R391): of the port, or with `rx` of its link partner, which the port then receives. -/
def execLpiEntry (k : Nat) (rx : Bool) (s : State) : Host.Outcome State Fault Refusal :=
  .next (s.onPort k fun s => if rx then s.lpiRx k true else if s.portIdle k then s.lpiEnter k else s)

/-- LPI_WAKE (R391): of the port, or with `rx` of its link partner. -/
def execLpiWake (k : Nat) (rx : Bool) (s : State) : Host.Outcome State Fault Refusal :=
  .next (s.onPort k fun s => if rx then s.lpiRx k false else s.lpiWake k)

/-- SWF_SPEED_STEP (R392). -/
def execSwfSpeedStep (load100 load1 : Nat) (s : State) : Host.Outcome State Fault Refusal :=
  .next (s.working 0x10 fun s => s.speedStep load100 load1)

/-- ETP_LINK_CHANGE (R402). -/
def execEtpLinkChange (k : Nat) (up : Bool) (speed : Nat) (s : State) : Host.Outcome State Fault Refusal :=
  .next (s.onPort k fun s => s.linkChange k up speed)

/-- ETP_MODE_WRITE (R375). -/
def execEtpModeWrite (port : Port) (k mode : Nat) (s : State) : Host.Outcome State Fault Refusal :=
  .next (s.effect port (ETP_CTRL_MODE k).addr fun s => s.etpCtrl k (s.rdB (ETP_CTRL_EN k)) mode)

/-- ETP_FWD_STATE_WRITE (R386). -/
def execEtpFwdStateWrite (port : Port) (k w : Nat) (s : State) : Host.Outcome State Fault Refusal :=
  .next (s.effect port (ETP_FWD_STATE k).addr fun s => s.fwdWrite k w)

/-- FDB_AGE_EXPIRY (R388). -/
def execFdbAgeExpiry (c : Nat) (s : State) : Host.Outcome State Fault Refusal :=
  .next ((s.reach c).working 0x10 State.fdbExpire)

/-- FDB_INSERT (R401). -/
def execFdbInsert (port : Port) (vid : Nat) (s : State) : Host.Outcome State Fault Refusal :=
  .next (s.effect port SWF_FDB_CMD_OP.addr fun s => s.fdbInsert vid)

/-- FDB_DELETE (R401). -/
def execFdbDelete (port : Port) (vid : Nat) (s : State) : Host.Outcome State Fault Refusal :=
  .next (s.effect port SWF_FDB_CMD_OP.addr fun s => s.fdbDelete vid)

/-- FDB_FLUSH_PORT (R401). -/
def execFdbFlushPort (port : Port) (k : Nat) (s : State) : Host.Outcome State Fault Refusal :=
  .next (s.effect port SWF_FDB_CMD_OP.addr fun s => s.fdbFlushPort k)

/-- FDB_FLUSH_INSTANCE (R401). -/
def execFdbFlushInstance (port : Port) (i : Nat) (s : State) : Host.Outcome State Fault Refusal :=
  .next (s.effect port SWF_FDB_CMD_OP.addr fun s => s.fdbFlushInstance i)

/-- FDB_FLUSH_ALL (R401). -/
def execFdbFlushAll (port : Port) (s : State) : Host.Outcome State Fault Refusal :=
  .next (s.effect port SWF_FDB_CMD_OP.addr State.fdbFlushAll)

/-- FDB_LOOKUP (R401). -/
def execFdbLookup (port : Port) (vid : Nat) (s : State) : Host.Outcome State Fault Refusal :=
  .next (s.effect port SWF_FDB_CMD_OP.addr fun s => s.fdbLookup vid)

/-- MDIO_C45_ADDRESS (R376). -/
def execMdioC45Address (port : Port) (c45 : Bool) (phy reg : Nat) (s : State) : Host.Outcome State Fault Refusal :=
  .next (s.effect port SWF_MDIO_CMD_OP.addr fun s => s.mdioStart 0 c45 phy reg)

/-- MDIO_WRITE (R376). -/
def execMdioWrite (port : Port) (c45 : Bool) (phy reg : Nat) (s : State) : Host.Outcome State Fault Refusal :=
  .next (s.effect port SWF_MDIO_CMD_OP.addr fun s => s.mdioStart 1 c45 phy reg)

/-- MDIO_READ (R376). -/
def execMdioRead (port : Port) (c45 : Bool) (phy reg : Nat) (s : State) : Host.Outcome State Fault Refusal :=
  .next (s.effect port SWF_MDIO_CMD_OP.addr fun s => s.mdioStart 2 c45 phy reg)

/-- MDIO_C22_READ (R376). -/
def execMdioC22Read (port : Port) (c45 : Bool) (phy reg : Nat) (s : State) : Host.Outcome State Fault Refusal :=
  .next (s.effect port SWF_MDIO_CMD_OP.addr fun s => s.mdioStart 3 c45 phy reg)

/-- MDIO_DONE (R376). -/
def execMdioDone (data : Nat) (s : State) : Host.Outcome State Fault Refusal :=
  .next (s.working 0x10 fun s => s.mdioEnd data)

end Sys2Proof.Machine
end

