-- ==== Sys2Proof/Machine/Hdm.lean ====
section
/-! DEFINITION. The host DMA port: rings, descriptors, checksums and moderation (R393 to R397, R403). -/

namespace Sys2Proof.Machine

/-! ### Rings -/

/-- A ring's SIZE that is in force; other values act as 0 (R393). -/
def ringSize (n : Nat) : Nat := if 6 ≤ n ∧ n ≤ 12 then n else 0

def State.txOn (s : State) (r : Nat) : Bool := s.rdB HDM_CTRL_EN && ringSize (s.rd (HDM_TX_SIZE r)) != 0
def State.rxOn (s : State) (r : Nat) : Bool := s.rdB HDM_CTRL_EN && ringSize (s.rd (HDM_RX_SIZE r)) != 0

/-- HDM reads and writes host memory only while Bus Master Enable is 1, and not after an error (R397). -/
def State.hdmMoves (s : State) : Bool := s.rdB HIF_STATUS_BME && !s.hdm.stopped

/-- Descriptors handed over: from HEAD up to TAIL (R393). -/
def ringAvail (size head tail : Nat) : Nat := (tail % 2 ^ size + 2 ^ size - head) % 2 ^ size

/-- A frame completes on a ring: after HDM_MOD.COUNT of them the ring's notice is set (R397). -/
def State.moderate (s : State) (tx : Bool) (r : Nat) : State :=
  let l := if tx then s.hdm.tx else s.hdm.rx
  let n := l.getD r 0 + 1
  let due := max 1 (s.rd HDM_MOD_COUNT) ≤ n
  let l := putAt 8 0 l r (if due then 0 else n)
  let s : State := { s with hdm := if tx then { s.hdm with tx := l } else { s.hdm with rx := l } }
  s.noticeIf due (if tx then HDM_NOTE_TX r else HDM_NOTE_RX r)

/-! ### Transmit (R393, R394, R396) -/

/-- The descriptors of a frame behind its first: their number and whether a new SOP breaks it off; none while EOP has not
been handed over. -/
def spanRest (n : Nat) : List TxDesc → Option (Nat × Bool)
  | [] => none
  | d :: t => if d.sop then some (n, true) else if d.eop then some (n + 1, false) else spanRest (n + 1) t

/-- The descriptors of the next frame, and whether SOP or EOP is missing. -/
def frameSpan : List TxDesc → Option (Nat × Bool)
  | [] => none
  | d :: t => if !d.sop then some (1, true) else if d.eop then some (1, false) else spanRest 1 t

/-- The ERR of a frame's descriptors (R393). -/
def frameErr (l : List TxDesc) (missing readErr : Bool) : Nat :=
  if missing then 2
  else if 8 < l.length then 3
  else if l.any (fun d => d.len == 0) || 9212 < (l.map TxDesc.len).sum then 1
  else if readErr then 4
  else 0

/-- The frame that a host frame's octets give, with padding, checksums and the tag that its first descriptor asks for (R378,
R393, R396). -/
def hostFrame (d : TxDesc) (data : List Nat) : EthFrame :=
  let f := ethParse (data ++ List.replicate (60 - data.length) 0)
  let f := if d.ipCsum then f.insertIp else f
  let f := if d.l4Csum then f.insertL4 else f
  if !d.insTag then f
  else
    match f.tag with
    | none => { f with tag := some d.tci }
    | some t => { f with tag := some d.tci, body := 0x81 :: 0x00 :: (beOctets 2 t ++ f.body) }

/-- Complete n descriptors of a TX ring (R393). -/
def State.txComplete (s : State) (r n err : Nat) : State :=
  let size := ringSize (s.rd (HDM_TX_SIZE r))
  let s := (List.range n).foldl (fun s i => s.emit (.txDone r ((s.rd (HDM_TX_HEAD r) + i) % 2 ^ size) err)) s
  (s.wr (HDM_TX_HEAD r) ((s.rd (HDM_TX_HEAD r) + n) % 2 ^ size)).moderate true r

/-- Where a host frame goes: the DIRECT ports that are not DISABLED and have link, or as the lookup says (R388, R394). -/
def State.hostPorts (s : State) (d : TxDesc) (f : EthFrame) (vid : Nat) : List Nat :=
  if d.direct then
    (List.range 6).filter fun k => bitAt d.ports k && s.fwdState k (s.vlanInstance vid) != 0 && s.rdB (ETP_STATUS_LINK k)
  else if f.vid = 4095 then []
  else s.egressPorts f vid 6

/-- Whether the packet buffer can hold a host frame for its ports (R393). -/
def State.hostRoom (s : State) (f : SwFrame) (ports : List Nat) : Bool :=
  s.bufferRoom 6 f.cells && ports.all fun k => cellSum (s.swQueue k f.cls) < s.rd (ETP_QLIM_CELLS k)

/-- HDM fetches the next frame of a TX ring: `descs` are the descriptors from HEAD on as host memory holds them, `data` the
octets of the frame's buffers. -/
def State.hdmTx (s : State) (r : Nat) (descs : List TxDesc) (data : List Nat) (readErr : Bool) : State :=
  if !s.txOn r || !s.hdmMoves || !s.rdB SWF_CTRL_EN then s
  else
    let avail := ringAvail (ringSize (s.rd (HDM_TX_SIZE r))) (s.rd (HDM_TX_HEAD r)) (s.rd (HDM_TX_TAIL r))
    match frameSpan (descs.take avail), descs with
    | some (n, missing), d :: _ =>
      let l := descs.take n
      let err := frameErr l missing readErr
      if err != 0 then ((s.txComplete r n err).count HDM_DESC_ERR 1).notice HDM_NOTE_DESC_ERR
      else
        let f := hostFrame d (data.take (l.map TxDesc.len).sum)
        let vid := s.vidOf f 6
        let tsId := if d.tsReq then some d.tsId else none
        let fr : SwFrame := ⟨0, f, 6, r, vid, 0, d.direct, d.direct, tsId⟩
        let ports := s.hostPorts d f vid
        if !s.hostRoom fr ports then s
        else
          let s := s.txComplete r n 0
          let s := if d.direct then
              ((List.range 6).filter fun k => bitAt d.ports k && !ports.contains k).foldl
                (fun s k => (s.count (ETP_FLUSH_DROP k) 1).giveUp k tsId) s
            else s
          let s := if vid = 4095 then s else s.learn f.src vid 6
          if ports.isEmpty then s else s.swEnqueue fr ports
    | _, _ => s

/-! ### Receive (R395, R396) -/

/-- The fewest buffers, from the first on, that hold n octets. -/
def buffersFor (n : Nat) : List Nat → Option Nat
  | [] => none
  | b :: t => if n ≤ b then some 1 else (buffersFor (n - b) t).map (· + 1)

/-- Fill descriptors with a frame's octets in order. -/
def State.rxFill (s : State) (r size index : Nat) (first : Bool) (f : SwFrame) (data : List Nat) : List Nat → State
  | [] => s
  | b :: t =>
    let s := s.emit (.rxDone r (index % 2 ^ size) (data.take b) first (data.length ≤ b) f.src (f.frame.tag.getD 0) f.frame.tag.isSome
      f.frame.checks (if f.frame.ptpEvent then codeOf 64 f.rx else 0))
    s.rxFill r size (index + 1) false f (data.drop b) t

/-- A frame of the P6 queue leaves it. -/
def State.hostDequeue (s : State) (r : Nat) (rest : List SwFrame) : State := (s.setSwQueue 6 r rest).pauseFalls

/-- The first frame for an RX ring: `bufs` are the buffer sizes of the descriptors from HEAD on (R395). One that tag insertion takes above
9,216 octets is dropped (R378); P6 has no ETP page to count it. Its cells may fail the symbol code (`ecc` 1) or the carry check (2). -/
def State.hdmRx (s : State) (r : Nat) (bufs : List Nat) (ecc : Nat) : State :=
  match s.swQueue 6 r with
  | [] => s
  | f :: rest =>
    if !s.rxOn r then ((s.hostDequeue r rest).count HDM_RX_DROP 1).notice HDM_NOTE_RX_NORING
    else if 9216 < (s.egressForm f 6).size then s.hostDequeue r rest
    else if !s.hdmMoves then s
    else if ecc != 0 then (s.hostDequeue r rest).eccDrop (ecc == 2) 0x17
    else
      let size := ringSize (s.rd (HDM_RX_SIZE r))
      let bufs := bufs.take (ringAvail size (s.rd (HDM_RX_HEAD r)) (s.rd (HDM_RX_TAIL r)))
      let data := (s.egressForm f 6).octets
      match buffersFor data.length bufs with
      | none => s
      | some n =>
        let s := s.rxFill r size (s.rd (HDM_RX_HEAD r)) true f data (bufs.take n)
        let s := s.wr (HDM_RX_HEAD r) ((s.rd (HDM_RX_HEAD r) + n) % 2 ^ size)
        let s := if f.frame.checks / 2 % 2 = 1 ∨ f.frame.checks / 8 % 2 = 1 then s.count HDM_CSUM_BAD 1 else s
        (s.moderate false r).hostDequeue r rest

/-! ### Configuration, errors and reset (R397, R403) -/

/-- A write of a ring's SIZE: discarded while the ring is enabled; HEAD is 0 when the ring is enabled. -/
def State.ringSizeWrite (s : State) (size head : Field) (v : Nat) : State :=
  if s.rdB HDM_CTRL_EN && ringSize (s.rd size) != 0 then s.notice HDM_NOTE_DESC_ERR
  else
    let s := s.wr size v
    let s := s.noticeIf (v % 16 != 0 && ringSize (v % 16) == 0) HDM_NOTE_DESC_ERR
    if s.rdB HDM_CTRL_EN && ringSize (v % 16) != 0 then s.wr head 0 else s

/-- A write of HDM_CTRL.EN: 1 after 0 enables the rings, from HEAD 0, and ends the stop of an error. -/
def State.hdmEnable (s : State) (en : Bool) : State :=
  let rises := en && !s.rdB HDM_CTRL_EN
  let s := s.wrB HDM_CTRL_EN en
  if rises then
    (List.range 8).foldl (fun s r => (s.wr (HDM_TX_HEAD r) 0).wr (HDM_RX_HEAD r) 0)
      { s with hdm := ⟨false, List.replicate 8 0, List.replicate 8 0⟩ }
  else s

/-- A PCIe completion error or a clear BME stops every ring. -/
def State.dmaError (s : State) : State := { s with hdm := { s.hdm with stopped := true } }.notice HDM_NOTE_DMA_ERR

/-- The notice of a ring whose first uncounted completion is HDM_MOD.DELAY old. -/
def State.modExpire (s : State) (tx : Bool) (r : Nat) : State :=
  let l := if tx then s.hdm.tx else s.hdm.rx
  if l.getD r 0 = 0 then s
  else
    let s : State := { s with hdm := if tx then { s.hdm with tx := putAt 8 0 l r 0 } else { s.hdm with rx := putAt 8 0 l r 0 } }
    s.notice (if tx then HDM_NOTE_TX r else HDM_NOTE_RX r)

/-- Forget the registers of a page. -/
def State.forgetPage (s : State) (p : Nat) : State := s.forgetRegs fun k => k / 32 / 0x1000 != p

/-- PCIE_PERST_N resets HDM; frames queued for P6 are discarded and counted (R397). -/
def State.hdmReset (s : State) : State :=
  let n := ((List.range 8).map fun c => (s.swQueue 6 c).length).sum
  let s := (List.range 8).foldl (fun s c => s.setSwQueue 6 c []) ({ s with hdm := .empty }.forgetPage 0x17)
  (s.count HDM_RX_DROP n).pauseFalls

/-! ### The commands -/

/-- HDM_TX_TAIL_WRITE (R393). -/
def execHdmTxTailWrite (port : Port) (r v : Nat) (s : State) : Host.Outcome State Fault Refusal :=
  .next (s.effect port (HDM_TX_TAIL r).addr fun s => s.wr (HDM_TX_TAIL r) v)

/-- HDM_TX_FRAME (R393, R394). -/
def execHdmTxFrame (r : Nat) (descs : List TxDesc) (data : List Nat) (readErr : Bool) (s : State) :
    Host.Outcome State Fault Refusal :=
  .next (s.working 0x17 fun s => s.hdmTx r descs data readErr)

/-- HDM_RX_DELIVER (R395). -/
def execHdmRxDeliver (r : Nat) (bufs : List Nat) (ecc : Nat) (s : State) : Host.Outcome State Fault Refusal :=
  .next (s.working 0x17 fun s => s.hdmRx r bufs ecc)

/-- HDM_MOD_DELAY_EXPIRY (R397). -/
def execHdmModDelayExpiry (tx : Bool) (r : Nat) (s : State) : Host.Outcome State Fault Refusal :=
  .next (s.working 0x17 fun s => s.modExpire tx r)

/-- HDM_DMA_ERROR (R397). -/
def execHdmDmaError (s : State) : Host.Outcome State Fault Refusal := .next (s.working 0x17 State.dmaError)

/-- HDM_RX_TAIL_WRITE (R395): frames that wait for descriptors fill them, as HDM_RX_DELIVER states, with the buffers that
host memory then names. -/
def execHdmRxTailWrite (port : Port) (r v : Nat) (s : State) : Host.Outcome State Fault Refusal :=
  .next (s.effect port (HDM_RX_TAIL r).addr fun s => s.wr (HDM_RX_TAIL r) v)

end Sys2Proof.Machine
end

