-- ==== Sys2Proof/Machine/Sieve.lean ====
section
/-! DEFINITION. Sieve self-test: regions, slices, rounds, FULL and recovery tests (R518 to R532). -/

namespace Sys2Proof.Machine

/-! ### Regions (R518) -/

/-- A region tested in service: its ID, whether it is LOGIC, its pieces, and its power cost in mW. -/
structure SivRegion where
  id : Nat
  logic : Bool
  pieces : Nat
  cost : Nat
deriving DecidableEq, Repr

/-- The table of R518. -/
def sivRegions : List SivRegion :=
  [⟨0x0D, false, 48, 60⟩, ⟨0x11, false, 32, 60⟩, ⟨0x15, false, 16, 60⟩, ⟨0x18, true, 1, 200⟩, ⟨0x19, false, 16, 60⟩,
   ⟨0x1C, true, 8, 250⟩, ⟨0x1D, false, 192, 60⟩, ⟨0x21, false, 16, 60⟩, ⟨0x24, true, 1, 150⟩, ⟨0x25, false, 12, 60⟩,
   ⟨0x28, true, 1, 150⟩, ⟨0x29, false, 16, 60⟩, ⟨0x2D, false, 8, 60⟩, ⟨0x34, true, 1, 150⟩, ⟨0x41, false, 512, 60⟩,
   ⟨0x42, false, 17, 60⟩, ⟨0x60, true, 1, 100⟩, ⟨0x69, false, 32, 60⟩]

/-- The regions tested only in the start-up pass and at FULL; 0x01 only in the start-up pass (R518). -/
def sivStartOnly : List Nat :=
  [0x01, 0x02, 0x03, 0x08, 0x0C, 0x10, 0x14, 0x30, 0x40, 0x44, 0x48, 0x4C, 0x50, 0x54, 0x58, 0x5C, 0x70, 0x80, 0x84, 0x88]

/-- The regions marked SECRET (R518). -/
def sivSecret : List Nat := [0x10, 0x18, 0x70, 0x80]

/-- The units whose page has a CTRL.EN. -/
def pagesWithEn : List Nat :=
  [0x03, 0x04, 0x05, 0x06, 0x07, 0x08, 0x09, 0x0A, 0x0B, 0x0C, 0x0D, 0x0E, 0x10, 0x11, 0x12, 0x13, 0x14, 0x15, 0x16, 0x17, 0x1A,
   0x1B, 0x1C, 0x20]

def sivRegion (id : Nat) : Option SivRegion := sivRegions.find? fun r => r.id == id
def sivExists (id : Nat) : Bool := (sivRegion id).isSome || sivStartOnly.contains id

/-- Whether an in-service region is tested: EN 1 and not FAILED (R522). -/
def State.sivEnabled (s : State) (id : Nat) : Bool := !s.siv.disabled.contains id
def State.sivTestable (s : State) (id : Nat) : Bool := s.sivEnabled id && !s.siv.failed.contains id

/-- The pieces of a region that have been tested in the round. -/
def State.sivTestedOf (s : State) (id : Nat) : Nat := (s.siv.tested.filter fun p => p.1 == id).length

/-- A region's cost; a region without one costs nothing. -/
def sivCost (id : Nat) : Nat := ((sivRegion id).map SivRegion.cost).getD 0
def sivLogic (id : Nat) : Bool := ((sivRegion id).map SivRegion.logic).getD true

/-- The regions under test now: those of the slices and that of a recovery test (R522, R529). -/
def State.sivRunning (s : State) : List Nat := s.siv.slices.map SivSlice.region ++ s.siv.recover.toList

/-- Pieces of enabled, unfailed regions not yet tested and not under test, in ascending order (R522). -/
def State.sivUntested (s : State) : List (Nat × Nat) :=
  (sivRegions.filter fun r => s.sivTestable r.id).flatMap fun r =>
    ((List.range r.pieces).map fun p => (r.id, p)).filter fun p =>
      !s.siv.tested.contains p && !s.siv.slices.any fun x => x.region == p.1 && x.piece == p.2

/-! ### Records (R531) -/

/-- A Sieve record, with its copy to U4 under COPY_EN. -/
def State.sivRecord (s : State) (code p0 p1 p2 p3 : Nat) : State :=
  let s := s.silt code p0 p1 p2 p3
  if s.rdB SIV_CTRL_COPY_EN then
    s.slqPush 4 (code % 256) (if code = 0x1F02 then 5 else 3) [p0 % 2 ^ 32, p1 % 2 ^ 32, p2 % 2 ^ 32, p3 % 2 ^ 32]
  else s

/-- Block 1 and record 0x1F02 tell of a failure (R526, R530, R531). -/
def State.sivReport (s : State) (f : SivFailure) (source fails : Nat) : State :=
  let n := min fails 65535
  let s := s.wrAll [(SIV_F_WHERE_REGION, f.region), (SIV_F_WHERE_PIECE, f.piece), (SIV_F_WHERE_SOURCE, source), (SIV_F_ADDR, f.addr),
    (SIV_F_BIT_BIT, f.bit), (SIV_F_BIT_EXPECTED, if f.expected then 1 else 0), (SIV_F_BIT_READ, if f.read then 1 else 0),
    (SIV_F_BIT_STEP, f.step), (SIV_F_END_FAILS, n)]
  (s.publish 0x1F 1 SIV_F_SEQ).sivRecord 0x1F02 (f.region + 2 ^ 8 * f.piece + 2 ^ 24 * source) f.addr
    (f.bit + (if f.expected then 2 ^ 8 else 0) + (if f.read then 2 ^ 9 else 0)) n

/-! ### Rounds (R527) -/

/-- A new round begins. -/
def State.sivNewRound (s : State) : State :=
  { s with siv := { s.siv with round := (s.siv.round + 1) % 2 ^ 32, began := none, tested := [], passed := [], fails := 0 } }

/-- A round ends; `limit` says that it ends at LIMIT. With no enabled region COVERAGE has no stated value: a free value. -/
def State.sivRoundEnd (s : State) (limit : Bool) : State :=
  match s.siv.began with
  | none => s
  | some (at_, cal) =>
    let regions := sivRegions.filter fun r => s.sivEnabled r.id
    let tested := (regions.map fun r => s.sivTestedOf r.id).sum
    let total := (regions.map SivRegion.pieces).sum
    let (free, s) := if total = 0 then s.draw else (0, s)
    let coverage := if total = 0 then free % 2 ^ 14 else 10000 * tested / total
    let dur := ((s.moduleTimeAt s.time.raw - at_) / 1000000000).toNat
    let s := s.wrAll [(SIV_R_ROUND, s.siv.round), (SIV_R_START_LO, cal.secs), (SIV_R_START_HI, cal.secs / 2 ^ 32),
      (SIV_R_PIECES_TESTED, tested), (SIV_R_PIECES_TOTAL, total), (SIV_R_DUR, dur), (SIV_R_END_COVERAGE, coverage),
      (SIV_R_END_FAILED, s.siv.fails), (SIV_R_END_LIMIT, if limit then 1 else 0)]
    let s := ((s.publish 0x1F 0 (SEQ_COUNT 0x1F)).notice SIV_NOTE_ROUND).noticeIf limit SIV_NOTE_ROUND_LIMIT
    (s.sivRecord 0x1F01 s.siv.round coverage dur s.siv.fails).sivNewRound

/-- Whether LIMIT seconds have passed since the round's first slice; LIMIT acts within 60 to 86,400 (R527, R532). -/
def State.sivLimited (s : State) : Bool :=
  match s.siv.began with
  | none => false
  | some (at_, _) => decide (at_ + max 60 (min 86400 (s.rd SIV_ROUND_LIMIT)) * 1000000000 ≤ s.moduleTimeAt s.time.raw)

/-- The round ends once every piece of every enabled region without FAILED has been tested. -/
def State.sivRoundCheck (s : State) : State :=
  if s.siv.began.isSome && s.modes.sieve == .sliced && s.sivUntested.isEmpty && s.siv.slices.isEmpty then s.sivRoundEnd false else s

/-! ### Slices (R519 to R526) -/

/-- GAP in ns and the budget in mW as they act (R532). -/
def State.sivGap (s : State) : Nat := max 10 (min 60000 (s.rd SIV_PACE_GAP)) * 1000000
def State.sivBudget (s : State) : Nat := max 250 (s.rd SIV_BUDGET_MW)

/-- Whether a slice of the region may run beside what runs (R522). -/
def State.sivFits (s : State) (id : Nat) : Bool :=
  let run := id :: s.sivRunning
  (run.filter sivLogic).length ≤ 1 && (run.filter fun r => !sivLogic r).length ≤ 2 && (run.map sivCost).sum ≤ s.sivBudget

/-- The pieces in the order in which the scheduler takes them: the ones passed over come after the others (R522). -/
def State.sivOrder (s : State) : List (Nat × Nat) :=
  let l := s.sivUntested
  (l.filter fun p => !s.siv.passed.contains p) ++ s.siv.passed.filter l.contains

/-- Whether a slice of the region preserves the piece (R519): the MEM regions marked P, and 0x15 with DESTRUCTIVE 0. -/
def State.sivPreserves (s : State) (id : Nat) : Bool :=
  if id = 0x15 then !s.siv.destructive.contains id else !sivLogic id && !([0x0D, 0x41, 0x69].contains id)

/-- While the EMU slice runs the accumulators hold, and every latch and window of its interval carries GAP (R521). A slice of the packet
buffer takes 64 cells from the free count (R381, R519). -/
def State.sivHold (s : State) (id : Nat) : State :=
  if id = 0x34 then
    { s with emu := { s.emu with held := true, circuits := s.emu.circuits.map fun x => { x with gap := true } },
             emur := { s.emur with gap := true } }
  else if id = 0x41 then s.bufLow (s.cellsFree + 64)
  else s

def State.sivRelease (s : State) (id : Nat) : State :=
  if id = 0x34 then { s with emu := { s.emu with held := false } } else if id = 0x60 then s.stampsRelease else s

/-- The scheduler's decision at t0: `unplaced` are the pieces whose placement is not met (R522). -/
def State.sliceStart (s : State) (unplaced : List (Nat × Nat)) : State :=
  let now := s.moduleTimeAt s.time.raw
  let paced := match s.siv.last with
    | some t => decide (t + s.sivGap ≤ now)
    | none => true
  if s.modes.sieve != .sliced || s.rdB SIV_STATUS_SUSPENDED || !paced then s
  else
    let skipped := s.sivOrder.takeWhile unplaced.contains
    let s : State :=
      { s with siv := { s.siv with passed := (s.siv.passed.filter fun p => !skipped.contains p) ++ skipped } }
    match s.sivOrder.find? fun p => !unplaced.contains p with
    | none => s
    | some (id, p) =>
      if !s.sivFits id then s
      else
        let began := s.siv.began.getD (now, s.calNow)
        { s with siv := { s.siv with
            slices := s.siv.slices ++ [(⟨id, p, s.sivPreserves id⟩ : SivSlice)], last := some now, began := some began,
            passed := s.siv.passed.filter fun q => q != (id, p) } }.sivHold id

/-- A slice is abandoned (R525): cause 1 an error while saving or a failed secret check, 2 forced off. -/
def State.sivAbandon (s : State) (x : SivSlice) (cause : Nat) : State :=
  let s : State := { s with siv := { s.siv with slices := s.siv.slices.filter fun y => y != x } }
  ((((s.sivRelease x.region).count SIV_ABANDONED 1).notice SIV_NOTE_ABANDON).sivRecord 0x1F03 x.region x.piece cause 0)

/-- t5 of a slice, with what its test found: 0 passed, 1 failed, 2 an uncorrectable error while saving, 3 a failed check of R523
(R520, R525, R526). -/
def State.sliceEnd (s : State) (id p found : Nat) : State :=
  match s.siv.slices.find? fun x => x.region == id && x.piece == p with
  | none => s
  | some x =>
    if found = 2 then (s.sivAbandon x 1).itgReadError 1 (id / 4)
    else if 2 < found then s.sivAbandon x 1
    else
      let s : State := { s with siv := { s.siv with slices := s.siv.slices.filter fun y => y != x, tested := s.siv.tested ++ [(id, p)] } }
      let s := (s.sivRelease id).count SIV_SLICES 1
      let s :=
        if found = 0 then s
        else
          let new := if s.siv.failed.contains id then 0 else 1
          let s : State := { s with siv := { s.siv with failed := if new = 0 then s.siv.failed else s.siv.failed ++ [id],
                                                        fails := s.siv.fails + new } }
          (s.sivReport ⟨id, p, 0, 0, false, false, 0⟩ 1 1).notice SIV_NOTE_FAIL
      s.sivRoundCheck

/-- The axis is forced or requested to OFF, or HOLD begins: what runs is abandoned with cause 2 (R524). -/
def State.sivStop (s : State) : State := s.siv.slices.foldl (fun s x => s.sivAbandon x 2) s

/-- A write of SIV_REG_CFG for the region selected (R532). -/
def State.sivRegCfg (s : State) (en destructive : Bool) : State :=
  let id := s.rd SIV_REG_SEL_ID
  let put := fun (l : List Nat) (b : Bool) => if b then l.filter (· != id) ++ [id] else l.filter (· != id)
  { s with siv := { s.siv with disabled := put s.siv.disabled (!en), destructive := put s.siv.destructive destructive } }.sivRoundCheck

/-! ### FULL and recovery tests (R528, R529) -/

/-- Clear a page's window. -/
def State.forgetWindow (s : State) (p : Nat) : State := { s with win := s.win.filter fun c => c.1 / 0x1000000 != p }

/-- A region's SRAM is left at reset contents (R529); 0x15 is a cache and is filled again from DRAM (R519). -/
def State.sivClearRegion (s : State) (id : Nat) : State :=
  if id = 0x0D then { s with mac := { s.mac with frameBuf := [] } }
  else if id = 0x11 then { s with mac := s.mac.clear }.forgetWindow 0x04
  else if id = 0x19 then { s with spr := ⟨s.spr.bcSeq, s.spr.txSeq, []⟩ }
  else if id = 0x1D then { s with drf := .empty }.forgetWindow 0x07
  else if id = 0x21 then { s with sch := .from s.sch.highStored }.forgetWindow 0x08
  else if id = 0x25 then { s with tmp := s.tmp.keepNumbers }.forgetWindow 0x09
  else if id = 0x29 then s.forgetWindow 0x0A
  else if id = 0x2D then { s with dpt := .empty }
  else if id = 0x41 then { s with swf := { s.swf with queues := SwfUnit.empty.queues, deficits := SwfUnit.empty.deficits } }
  else if id = 0x42 then { s with swf := { s.swf with fdb := [] } }.forgetWindow 0x10
  else if id = 0x69 then { s with slqUp := s.slqUp.map fun _ => .empty, slqDown := s.slqDown.map fun _ => .empty }
  else s

/-- The pages of the units that a FULL test covers. -/
def sivTestedPages : List Nat :=
  [0x02, 0x03, 0x04, 0x05, 0x06, 0x07, 0x08, 0x09, 0x0A, 0x0B, 0x0C, 0x0D, 0x10, 0x11, 0x12, 0x13, 0x14, 0x15, 0x16, 0x17, 0x18,
   0x1A, 0x1C, 0x20, 0x21, 0x22]

/-- A page's registers return to their reset values, but for those held in MRAM (R104, R528). -/
def State.resetPage (s : State) (p : Nat) (kept : List Field) : State :=
  s.forgetRegs fun k => k / 32 / 0x1000 != p || kept.any fun f => f.key == k

/-- Whether a CTRL.EN of the region's unit is not 0. -/
def State.sivUnitEnabled (s : State) (id : Nat) : Bool :=
  if id / 4 = 0x02 then s.rdB RFE_CTRL_TX_EN || s.rdB RFE_CTRL_RX0_EN || s.rdB RFE_CTRL_RX1_EN
  else pagesWithEn.contains (id / 4) && s.rd ⟨id / 4 * 0x1000 + 8, 0, 1, .rw, 0, .cleared⟩ == 1

/-- The result of RECOVER (R529); 0x01 is tested only in the start-up pass, and is refused as no region. -/
def State.recoverCode (s : State) (id : Nat) : Nat :=
  if !sivExists id || id == 0x01 then 1
  else if sivSecret.contains id then 2
  else if s.sivUnitEnabled id then 3
  else if s.modes.sieve = .full then 4
  else if s.siv.recover.isSome then 5
  else 0

def State.recover (s : State) (id : Nat) : State :=
  let code := s.recoverCode id
  let s := s.wr SIV_CMD_STAT_RESULT code
  if code = 0 then { s with siv := { s.siv with recover := some id } } else s

/-- CLEAR_FAILED of a region (R526). -/
def State.clearFailed (s : State) (id : Nat) : State :=
  if !sivExists id then s.wr SIV_CMD_STAT_RESULT 1
  else { s with siv := { s.siv with failed := s.siv.failed.filter (· != id) } }.wr SIV_CMD_STAT_RESULT 0

/-- A write of SIV_CMD (R532). -/
def State.sivCommand (s : State) (w : Nat) : State :=
  if bitsOf w 8 3 = 1 then s.recover (w % 256) else if bitsOf w 8 3 = 2 then s.clearFailed (w % 256) else s

/-- A recovery test completes (R529). -/
def State.recoverDone (s : State) (found : Option SivFailure) (fails : Nat) : State :=
  match s.siv.recover with
  | none => s
  | some id =>
    let s := { s with siv := { s.siv with recover := none } }.sivClearRegion id
    (match found with
     | some f => s.sivReport { f with region := id } 3 fails
     | none => s).notice SIV_NOTE_RECOVER_DONE

/-- The pieces of the regions that FULL tests: all but 0x01 (R528). -/
def sivFullPieces : Nat := (sivRegions.map SivRegion.pieces).sum + (sivStartOnly.length - 1)

/-- The units that no region clears above. -/
def State.sivClearRest (s : State) : State :=
  { s with dal := .empty, swf := .empty,
           emu := ⟨List.replicate 16 .empty, s.emu.circuits.map fun x => { EmuCircuit.empty with stored := x.stored }, List.replicate 4 .empty, 0, false⟩ }

/-- Every tested unit holds its reset contents (R528). -/
def State.sivClearAll (s : State) (kept : List Field) : State :=
  let s := (sivRegions.map SivRegion.id).foldl State.sivClearRegion s
  (sivTestedPages.foldl (fun s p => s.resetPage p kept) s).sivClearRest

end Sys2Proof.Machine
end

