-- ==== Sys2Proof/Machine/Reads.lean ====
section
/-! DEFINITION. Reads: what a register word shows, the latches of result blocks and of *_LO words, and the windows (R12, R67, R72 to
R74, R79, R85 to R90, R95). -/

namespace Sys2Proof.Machine

/-- Of a value held by a truth value. -/
def oneIf (b : Bool) : Nat := if b then 1 else 0

/-! ### Fields that are computed, not held -/

def State.viewSYS (s : State) (f : Field) : Nat := s.rd f

/-- HIF_SUM over the pages from p on (R82). -/
def State.pendingBits (s : State) (p : Nat) : Nat :=
  flagBits ((List.range 32).map fun k => assignedPages.contains (p + k) && s.pagePending (p + k))

def State.viewHIF (s : State) (f : Field) : Nat :=
  if f.key = HIF_POST_LRP_LEVEL.key then s.lrp.posted.length
  else if f.key = HIF_POST_PCIE_LEVEL.key then s.pcie.posted.length
  else if f.key = HIF_SUM_LO.key then s.pendingBits 0
  else if f.key = HIF_SUM_HI.key then s.pendingBits 32
  else if f.key = HIF_VEC_PEND.key then flagBits ((List.range 32).map s.aggregate)
  else s.rd f

/-- The budget that RFE_BUDGET_SEL selects. -/
def State.selectedBudget (s : State) : Nat :=
  let e := s.rd RFE_BUDGET_SEL_ENTRY
  budgetNo e (if (s.band e).scope = 2 then s.rd RFE_BUDGET_SEL_CHANNEL else 0)

def State.viewRFE (s : State) (f : Field) : Nat :=
  if f.key = RFE_STATUS_RX0_ON.key then oneIf (s.chainHears 0 s.moduleTime && s.inService)
  else if f.key = RFE_STATUS_RX1_ON.key then oneIf (s.chainHears 1 s.moduleTime && s.inService)
  else if f.key = RFE_ANT_CAP_CAP0.key then s.antCap 0
  else if f.key = RFE_ANT_CAP_CAP1.key then s.antCap 1
  else if f.key = RFE_BUDGET_USED.key then s.budgetUsed s.selectedBudget
  else if f.key = RFE_BUDGET_LIMIT.key then s.budgetLimit (s.rd RFE_BUDGET_SEL_ENTRY) 0
  else if f.key = RFE_BUDGET_AGE.key then s.budgetAge s.selectedBudget
  else s.rd f

def State.viewCHN (s : State) (f : Field) : Nat :=
  if f.key = CHN_STATUS_ACTIVE.key then ((List.range 128).filter s.slotReceives).length
  else if f.key = CHN_STATUS_LIMIT.key then (if s.slotLimit = 128 then 0 else if s.slotLimit = 32 then 1 else 2)
  else s.rd f

/-- What the MAC's fields show. SYNC reads 2 while a followed phase stands, after a takeover as well, and 1 before there is one: DESIGN
CHOICE, log entry 190. -/
def State.viewMAC (s : State) (f : Field) : Nat :=
  if f.key = MAC_STATUS_SYNC.key then (if !s.rdB MAC_CTRL_EN then 0 else if s.mac.follow.isSome then 2 else 1)
  else if f.key = MAC_ASN_LO.key then s.asnAt s.moduleTime
  else if f.key = MAC_ASN_HI.key then s.asnAt s.moduleTime / 2 ^ 32
  else s.rd f

def State.viewEMUGroup (s : State) (f : Field) : Nat :=
  if f.key = NTB_STATUS_USED.key then ((List.range 8192).filter fun i => s.entByte i != 0).length
  else if f.key = SPR_STATUS_BUILDING.key then oneIf (s.rdB SPR_CTRL_EN && s.meshTx)
  else if f.key = DRF_STATUS_RUNNING.key then oneIf s.drfRuns
  else if f.key = SCH_STATUS_RUNNING.key then oneIf (s.rdB SCH_CTRL_EN && s.lightPath)
  else if f.key = TMP_STATUS_RUNNING.key then oneIf (s.rdB TMP_CTRL_EN && s.lightPath)
  else if f.key = TMP_STATUS_ENABLED.key then s.tmpEnabled.length
  else if f.key = SHP_STATUS_RUNNING.key then oneIf (s.rdB SHP_CTRL_EN && s.lightPath)
  else if f.key = DAL_STATUS_BUSY.key then flagBits ((List.range 8).map fun k => !(s.dalQueue k).isEmpty)
  else if f.key = SWF_STATUS_USED.key then s.cellsUsed
  else if f.key = HDM_STATUS_TX_ACTIVE.key then flagBits ((List.range 8).map s.txOn)
  else if f.key = HDM_STATUS_RX_ACTIVE.key then flagBits ((List.range 8).map s.rxOn)
  else s.rd f

def State.viewTIM (s : State) (f : Field) : Nat :=
  if f.key = TIM_STATUS_STATE.key then s.time.state.code
  else if f.key = TIM_NOW_LO.key then codeOf 64 s.time.now
  else if f.key = TIM_NOW_HI.key then codeOf 64 s.time.now / 2 ^ 32
  else if f.key = TIM_TS_LEVEL.key then s.time.tsQueue.length
  else s.rd f

/-- The calendar fields now; a leap second shows as second 60 (R418, R419, R422). -/
def State.clockNow (s : State) : ClockFields :=
  let c := fieldsOf s.cal.secs
  if s.rdB RTC_STATUS_LEAP_NOW then { c with second := 60 } else c

def State.viewRTC (s : State) (f : Field) : Nat :=
  let c := s.clockNow
  let ok := fun (v : Nat) => if s.rdB RTC_STATUS_RANGE then 0 else v
  if f.key = RTC_SEC_LO.key then s.cal.secs
  else if f.key = RTC_SEC_HI_SECONDS.key then s.cal.secs / 2 ^ 32
  else if f.key = RTC_SEC_HI_FRACTION.key then s.cal.frac
  else if f.key = RTC_DATE_DAY.key then ok c.date.day
  else if f.key = RTC_DATE_MONTH.key then ok c.date.month
  else if f.key = RTC_DATE_YEAR.key then ok c.date.year
  else if f.key = RTC_DATE_WEEKDAY.key then ok c.date.weekday
  else if f.key = RTC_TIME_SECOND.key then ok c.second
  else if f.key = RTC_TIME_MINUTE.key then ok c.minute
  else if f.key = RTC_TIME_HOUR.key then ok c.hour
  else if f.key = RTC_STATUS_LEAP_PENDING.key then s.rd RTC_LEAP_ARM
  else s.rd f

/-- A field of queue q's block of registers (R452), the downlink queues from 16 on. -/
def State.viewQueue (s : State) (q : Nat) (f : Field) : Nat :=
  let v := s.queue q
  if f.addr % 0x20 = 0x10 ∧ f.lo = 0 then s.slqLevel q
  else if f.addr % 0x20 = 0x14 then
    if f.lo = 4 then oneIf v.marked
    else if f.lo = 5 then oneIf (if q < 16 then v.owned.isSome else v.building.isSome)
    else if f.lo = 6 then
      (if q < 16 then (v.owned.map fun o => o.port.code).getD 0 else (v.building.map fun b => b.port.code).getD 0)
    else if f.lo = 16 then min 65535 v.ready.length
    else s.rd f
  else s.rd f

def State.viewSLQ (s : State) (f : Field) : Nat :=
  if f.key = SLQ_STATUS_FREE.key then 8192 - s.slqTotalCells
  else if 0x1A100 ≤ f.addr ∧ f.addr < 0x1A400 then s.viewQueue ((f.addr - 0x1A100) / 0x20) f
  else s.rd f

def State.viewCLM (s : State) (f : Field) : Nat :=
  if f.key = CLM_STATUS_ROLE.key then s.modes.role.code
  else if f.key = CLM_STATUS_IN_CONTROL.key then oneIf s.comparator
  else if f.key = CLM_STATUS_CON_ON.key then flagBits ((List.range 4).map s.driverOn)
  else if f.key = CLM_NEXT_SWAP.key then s.nextSwap
  else s.rd f

/-- DPT is in control while the matrix allows mesh and bus transmission (R328). -/
def State.viewDPT (s : State) (f : Field) : Nat :=
  if f.key = DPT_STATUS_IN_CONTROL.key then oneIf s.meshTx
  else if f.key = DPT_PACK_MAX_PSDU.key then s.maxPsdu
  else s.rd f

def State.viewSLT (s : State) (f : Field) : Nat :=
  if f.key = SLT_STATUS_INTAKE.key then s.siltIntake.length
  else if f.key = SLT_COUNT.key then s.siltLog.length
  else s.rd f

def State.viewSIV (s : State) (f : Field) : Nat :=
  let id := s.rd SIV_REG_SEL_ID
  if f.key = SIV_STATUS_LOGIC_ACTIVE.key then oneIf (s.siv.slices.any fun x => sivLogic x.region)
  else if f.key = SIV_STATUS_MEM_ACTIVE.key then (s.siv.slices.filter fun x => !sivLogic x.region).length
  else if f.key = SIV_STATUS_FAILED.key then s.siv.failed.length
  else if f.key = SIV_REG_CFG_EN.key then oneIf (s.sivEnabled id)
  else if f.key = SIV_REG_CFG_DESTRUCTIVE.key then oneIf (s.siv.destructive.contains id)
  else if f.key = SIV_REG_CFG_EXISTS.key then oneIf (sivExists id)
  else if f.key = SIV_REG_CFG_IN_SERVICE.key then oneIf (sivRegion id).isSome
  else if f.key = SIV_REG_CFG_FAILED.key then oneIf (s.siv.failed.contains id)
  else if f.key = SIV_REG_CFG_SECRET.key then oneIf (sivSecret.contains id)
  else if f.key = SIV_REG_CFG_TESTED.key then s.sivTestedOf id
  else s.rd f

/-- Seconds of the confirmation timer that remain, a started second counting as one (R119, R543). -/
def State.trialLeft (s : State) : Nat :=
  match s.grg.trial with
  | none => 0
  | some (_, c) => ceilDiv (120 * 250000000 - (s.time.raw - c)) 250000000

def State.viewGRG (s : State) (f : Field) : Nat :=
  if f.key = GRG_STATUS_CAMPAIGN.key then oneIf s.grg.campaign.isSome
  else if f.key = GRG_TRIAL_LEFT.key then s.trialLeft
  else if 0x20060 ≤ f.addr ∧ f.addr < 0x20078 then s.imageVersion ((f.addr - 0x20060) / 4)
  else if f.key = GRG_NODE_STAT_TARGETS.key then s.grg.targets.length
  else if f.key = GRG_NODE_DONE_COMPLETE.key then s.targetsAt 2
  else if f.key = GRG_NODE_DONE_FAILED.key then s.targetsAt 3
  else s.rd f

/-- The newest valid bank of two (R556). -/
def newestOf : List (Option StoreBank) → Option Nat
  | [some a, some b] => if a.seq = b.seq then some 0 else if (b.seq + 2 ^ 32 - a.seq) % 2 ^ 32 < 2 ^ 31 then some 1 else some 0
  | [some _, none] => some 0
  | [none, some _] => some 1
  | _ => none

/-- A bank of the store, none where it is invalid. -/
def State.bank (s : State) (b : Nat) : Option StoreBank := s.mrl.banks.getD b none

/-- The newest valid bank's contents. -/
def State.newestBank (s : State) : Option StoreBank := (newestOf s.mrl.banks).bind s.bank

def State.viewMRL (s : State) (f : Field) : Nat :=
  if f.key = MRL_STATUS_BUSY.key then oneIf s.mrl.saving.isSome
  else if f.key = MRL_STATUS_VALID0.key then oneIf (s.bank 0).isSome
  else if f.key = MRL_STATUS_VALID1.key then oneIf (s.bank 1).isSome
  else if f.key = MRL_STATUS_NEWEST.key then (newestOf s.mrl.banks).getD 0
  else if f.key = MRL_SEQ0.key then ((s.bank 0).map StoreBank.seq).getD 0
  else if f.key = MRL_SEQ1.key then ((s.bank 1).map StoreBank.seq).getD 0
  else if f.key = MRL_USED.key then (s.newestBank.map StoreBank.len).getD 0
  else if f.key = MRL_SNAP_EPOCH_LO.key then (s.newestBank.map StoreBank.epoch).getD 0
  else if f.key = MRL_SNAP_EPOCH_HI.key then (s.newestBank.map StoreBank.epoch).getD 0 / 2 ^ 32
  else s.rd f

/-- A field as a read shows it: computed where the unit computes it. -/
def State.view (s : State) (f : Field) : Nat :=
  (match f.addr / 0x1000 with
   | 0x01 => s.viewHIF f
   | 0x02 => s.viewRFE f
   | 0x03 => s.viewCHN f
   | 0x04 => s.viewMAC f
   | 0x0B => s.viewDPT f
   | 0x18 => s.viewTIM f
   | 0x19 => s.viewRTC f
   | 0x1A => s.viewSLQ f
   | 0x1B => s.viewCLM f
   | 0x1E => s.viewSLT f
   | 0x1F => s.viewSIV f
   | 0x20 => s.viewGRG f
   | 0x21 => s.viewMRL f
   | 0x22 => if f.key = ITG_STATUS_SCRUBBING.key then (if s.rdB ITG_CTRL_SCRUB_EN then 15 else 0) else s.rd f
   | _ => s.viewEMUGroup f) % 2 ^ f.width

/-- A word from its fields: a field that is write only reads 0 (R10), and so does a reserved bit (R8). -/
def State.fieldsWord (s : State) (addr : Nat) : Nat :=
  ((wordFields addr).map fun f => if f.access = .wo then 0 else s.view f * 2 ^ f.lo).sum

/-! ### The header (R64) -/

/-- The pages of a tag's staged writes: a BAR2 word belongs to its window's page. -/
def PortWrite.page (w : PortWrite) : Nat := if w.bar2 then w.addr / 0x1000000 else w.addr / 0x1000

/-- The tags of a port that hold a staged write to a page: those that are OPEN or COMMITTING. The spec does not say whether an ABORTED or
DONE one still holds its writes: DESIGN CHOICE, log entry 174. -/
def stagedTags (q : PortPath) (p : Nat) : Nat := flagBits (q.tags.map fun t => t.isOpen && t.staged.any fun w => w.page == p)

def State.statusWord (s : State) (p : Nat) : Nat :=
  s.fieldsWord (p * 0x1000 + 0x0C) + (if stagedTags s.lrp p != 0 || stagedTags s.pcie p != 0 then 2 ^ 30 else 0) +
  (if s.pageOn p then 2 ^ 31 else 0)

/-- A page's SEQ word of block 0; 0 in a page without result blocks (R66, R85). -/
def State.seqWord (s : State) (addr : Nat) : Nat := s.rd ⟨addr, 8, 24, .ro, 0, .cleared⟩ * 256 + pageBlocks (addr / 0x1000)

def State.headerWord (s : State) (p off : Nat) : Nat :=
  match off with
  | 0x00 => 0x5C080000 + 256 * p + unitCode p
  | 0x04 => 0x03B10100
  | 0x08 => s.fieldsWord (p * 0x1000 + 8)
  | 0x0C => s.statusWord p
  | 0x10 => s.rd (NOTE_RAW p)
  | 0x14 => s.rd (NOTE_EN p)
  | 0x18 => s.rd (NOTE_RAW p) &&& s.rd (NOTE_EN p)
  | 0x1C => if pageBlocks p = 0 then 0 else s.seqWord (p * 0x1000 + 0x1C)
  | 0x20 => if pageBlocks p = 0 then 0 else s.rd (FRESH p)
  | 0x24 => s.rd (TXN_COMMITS p) + 2 ^ 16 * stagedTags s.lrp p + 2 ^ 20 * stagedTags s.pcie p
  | _ => 0

/-! ### The words that belong to one port (R100), and MSI-X -/

def TagState.code : TagState → Nat
  | .free => 0
  | .opened => 1
  | .committing => 2
  | .done => 3
  | .aborted => 4

/-- A port's own registers in the HIF page. -/
def PortPath.word (q : PortPath) (off : Nat) : Nat :=
  if off = 0x44 then q.fence
  else if off = 0x4C then (if q.selected then q.curTag + 4 else 0) + 2 ^ 4 * q.err
  else if 0x50 ≤ off ∧ off < 0x60 then
    match q.tags[(off - 0x50) / 4]? with
    | some t => t.state.code + 2 ^ 8 * t.staged.length + 2 ^ 16 * t.cause
    | none => 0
  else if 0x60 ≤ off ∧ off < 0x70 then (q.tags[(off - 0x60) / 4]?.map Tag.info).getD 0
  else 0

/-- A word of the MSI-X table. -/
def msixField (off : Nat) : Field :=
  let v := (off - 0x800) / 16
  if off % 16 = 0 then MSIX_ADDR_LO v else if off % 16 = 4 then MSIX_ADDR_HI v else if off % 16 = 8 then MSIX_DATA v else MSIX_MASK v

def isMsixTable (addr : Nat) : Bool := 0x01800 ≤ addr && addr < 0x01A00

/-- A word of the register map as it stands, without any effect of a read. -/
def State.word (s : State) (port : Port) (addr : Nat) : Nat :=
  if addr = 0x00040 then (if 5 ≤ s.startup.line then s.modes.word else 0)
  else if addr = 0x0005C then flagBits ((s.domains.map fun d => d != .stopped) |>.set 4 (s.rdB HIF_STATUS_LRP_CLK))
  else if addr = 0x00064 then s.epoch % 2 ^ 32
  else if addr = 0x00068 then s.epoch / 2 ^ 32 % 2 ^ 32
  else if isMsixTable addr then s.rd (msixField (addr - 0x01000))
  else if addr = 0x01A00 then s.rd MSIX_PBA
  else if addr / 0x1000 = 0x01 ∧ 0x44 ≤ addr % 0x1000 ∧ addr % 0x1000 < 0x70 then (s.port port).word (addr % 0x1000)
  else if addr % 0x1000 < 0x40 then s.headerWord (addr / 0x1000) (addr % 0x1000)
  else
    match blockOfSeq addr with
    | some _ => s.seqWord addr
    | none => s.fieldsWord addr % 2 ^ 32

/-! ### Windows -/

/-- An octet of a Silt record as the window shows it (R507). -/
def State.siltByte (s : State) (off : Nat) : Nat :=
  match s.siltLog[off / 32]? with
  | some r => octet (r.words.getD (off % 32 / 4) 0) (off % 4)
  | none => 0

/-- An octet of a window. -/
def State.winByte (s : State) (page off : Nat) : Nat :=
  if !winAssigned page off then 0
  else
    match page with
    | 0x05 => s.ntbReadByte off
    | 0x09 => s.tmpReadByte off
    | 0x10 => if 0x10000 ≤ off then s.fdbByte (off - 0x10000) else s.w8 0x10 off
    | 0x1C => s.hpnByte off
    | 0x1E => s.siltByte off
    | 0x20 => s.grgByte off
    | _ => s.w8 page off

/-- A word of a window that is no queue's. -/
def State.winWord (s : State) (page off : Nat) : Nat :=
  ofOctets ((List.range 4).map fun k => s.winByte page (off / 4 * 4 + k))

/-- A read of a word of BAR2: a queue's word is consumed (R451); a page that is not usable reads 0. -/
def State.readBar2 (s : State) (port : Port) (addr : Nat) : Nat × State :=
  let page := addr / 0x1000000
  let off := addr % 0x1000000
  if !s.live page then (0, s)
  else if page = 0x1A then
    if off < 0x100000 then s.slqRead port (off / 0x10000)
    else if off < 0x180000 then (0, s.slqErr (16 + (off - 0x100000) / 0x10000) 4)
    else (0, s)
  else (s.winWord page off, s)

/-! ### Latches (R86 to R90) -/

/-- The latch that a port holds for a block. -/
def PortPath.latch (q : PortPath) (b : ResultBlock) : Option BlockLatch :=
  q.latches.find? fun l => l.page == b.page && l.block == b.block

/-- A port without its latch of a block. -/
def PortPath.release (q : PortPath) (b : ResultBlock) : PortPath :=
  { q with latches := q.latches.filter fun l => !(l.page == b.page && l.block == b.block) }

/-- The words of a block as they stand. -/
def State.blockWords (s : State) (port : Port) (b : ResultBlock) : List (Nat × Nat) :=
  (List.range ((b.last - b.first) / 4 + 1)).map fun k => (b.first + 4 * k, s.word port (b.first + 4 * k))

/-- A read of a block's SEQ word takes a latch (R86). -/
def State.takeLatch (s : State) (port : Port) (b : ResultBlock) : Nat × State :=
  let q := (s.port port).release b
  (s.seqWord b.seq,
   s.setPort port { q with latches :=
     ⟨b.page, b.block, s.rd b.count, bitAt (s.rd (FRESH b.page)) b.block, s.blockWords port b⟩ :: q.latches })

/-- A read of a word of a block: the latched copy where the port holds one (R86, R87); the last word releases it, and clears FRESH
where the counts agree (R88). -/
def State.readBlock (s : State) (port : Port) (b : ResultBlock) (addr : Nat) : Nat × State :=
  match (s.port port).latch b with
  | none => (s.word port addr, s)
  | some l =>
    let v := ((l.words.find? fun w => w.1 == addr).map Prod.snd).getD 0
    if addr ≠ b.last then (v, s)
    else
      let s := s.setPort port ((s.port port).release b)
      (v, if l.count = s.rd b.count then s.wr (FRESH b.page) (clrBit (s.rd (FRESH b.page)) b.block) else s)

/-- FRESH as a port reads it: the latched bit of every block for which it holds a latch (R86). -/
def State.readFresh (s : State) (port : Port) (p : Nat) : Nat :=
  ((s.port port).latches.filter fun l => l.page == p).foldl
    (fun v l => if l.fresh then setBit v l.block else clrBit v l.block) (s.word port (p * 0x1000 + 0x20))

/-- A read of a *_LO word latches its *_HI word for the port (R101). -/
def State.readLo (s : State) (port : Port) (addr : Nat) : Nat × State :=
  let q := s.port port
  (s.word port addr,
   s.setPort port { q with hiLatches := Sparse.insert q.hiLatches (addr + 4) (s.word port (addr + 4)) })

/-- A read of *_WIN_DATA: the window's word, and OFFSET advances by one word (R155). -/
def State.readWinData (s : State) (port : Port) (f : Field) : Nat × State :=
  let (v, s') := s.readBar2 port (f.addr / 0x1000 * 0x1000000 + 4 * s.rd f)
  (v, s'.wr f (s'.rd f + 1))

/-- RC fields of a word clear the bits that the read returned as 1 (R12). -/
def State.clearRc (s : State) (addr : Nat) : State :=
  ((wordFields addr).filter fun f => f.access == .rc).foldl (fun s f => s.wr f 0) s

/-- A read of a usable register word by a port, with its effects. -/
def State.readReg (s : State) (port : Port) (addr : Nat) : Nat × State :=
  if 0x1A100 ≤ addr ∧ addr < 0x1A300 ∧ addr % 0x20 = 8 then s.slqRead port ((addr - 0x1A100) / 0x20)
  else if latchingLo.contains addr then s.readLo port addr
  else
    match winDataOf addr, blockOfSeq addr, blockOf addr with
    | some f, _, _ => s.readWinData port f
    | none, some b, _ => s.takeLatch port b
    | none, none, some b => s.readBlock port b addr
    | none, none, none =>
      if addr % 0x1000 = 0x20 then (s.readFresh port (addr / 0x1000), s)
      else
        match Sparse.get (s.port port).hiLatches addr with
        | some v => (v, s)
        | none => (s.word port addr, s.clearRc addr)

/-- Whether a port's mirrors are valid: the LRP's need LRP_CLK and its 16 cycles (R71, R110). -/
def State.mirrorValid (s : State) : Port → Bool
  | .lrp => s.rdB HIF_STATUS_LRP_CLK
  | .pcie => true

/-- A read of a register by a port: 0 and without effect while the mirror is not valid, the page not usable, or the address not that
of a word (R4, R8, R71, R110). -/
def State.readPort (s : State) (port : Port) (addr : Nat) : State :=
  let s := s.wakePort port
  if !s.mirrorValid port || !s.live (addr / 0x1000) || addr % 4 != 0 then s.setRead port [0]
  else
    let (v, s) := s.readReg port addr
    s.setRead port [v % 2 ^ 32]

/-! ### The commands -/

/-- SEQ_WORD_READ (R86): block `b` of the map's result blocks, in their order. -/
def execSeqWordRead (port : Port) (b : Nat) (s : State) : Host.Outcome State Fault Refusal :=
  .next (s.readPort port ((resultBlocks[b]?.map ResultBlock.seq).getD 0))

/-- BLOCK_LAST_WORD_READ (R88). -/
def execBlockLastWordRead (port : Port) (b : Nat) (s : State) : Host.Outcome State Fault Refusal :=
  .next (s.readPort port ((resultBlocks[b]?.map ResultBlock.last).getD 0))

/-- RC_READ (R12): no field of the map is RC, so this is a plain read. -/
def execRcRead (port : Port) (addr : Nat) (s : State) : Host.Outcome State Fault Refusal :=
  .next (s.readPort port addr)

/-- SYS_EPOCH_LO_READ (R101). -/
def execSysEpochLoRead (port : Port) (s : State) : Host.Outcome State Fault Refusal := .next (s.readPort port 0x00064)

/-- TIM_NOW_LO_READ (R407). -/
def execTimNowLoRead (port : Port) (s : State) : Host.Outcome State Fault Refusal := .next (s.readPort port 0x18040)

/-- MAC_ASN_LO_READ (R170). -/
def execMacAsnLoRead (port : Port) (s : State) : Host.Outcome State Fault Refusal := .next (s.readPort port 0x04058)

/-- SCH_HIGH_LO_READ (R286). -/
def execSchHighLoRead (port : Port) (s : State) : Host.Outcome State Fault Refusal := .next (s.readPort port 0x08060)

/-- ETP_BYTES_LO_READ (R402): port k's received or transmitted bytes. -/
def execEtpBytesLoRead (port : Port) (k : Nat) (tx : Bool) (s : State) : Host.Outcome State Fault Refusal :=
  .next (s.readPort port ((if tx then 0x110C8 else 0x110C0) + 0x1000 * k))

/-- WIN_DATA_READ (R155): by a unit's page. -/
def execWinDataRead (port : Port) (page : Nat) (s : State) : Host.Outcome State Fault Refusal :=
  .next (s.readPort port (((winAddrs.find? fun f => f.addr / 0x1000 == page).map fun f => f.addr + 4).getD 0x3FFFC))

/-- BAR0_READ (R6, R78): `whole` says that the access is 32 bits wide and aligned. -/
def execBar0Read (addr : Nat) (whole : Bool) (s : State) : Host.Outcome State Fault Refusal :=
  .next (if whole && addr % 4 == 0 then s.readPort .pcie addr
    else (s.wakeLink.working 0x01 fun s => s.notice HIF_NOTE_BAD_ACCESS).setRead .pcie [0])

end Sys2Proof.Machine
end

