-- ==== Sys2Proof/Machine/Tpr.lean ====
section
/-! DEFINITION. The tamper unit: inputs, monitors, events and responses (R497 to R503, R506). It runs in the always-on domain. -/

namespace Sys2Proof.Machine

/-- A halted start (R120): `cause` as record 0x0009 gives it. SUP has started from t4 on. A start that halts before t5 lifts the
write guard of R513, so that its record can be written. -/
def State.haltStart (s : State) (cause : Nat) : State :=
  let s := { s with startup := { s.startup with phase := .halted (Nat.ble 4 s.startup.line) } }.wrAll
    [(SYS_STATUS_READY, 0), (SLT_STATUS_GUARD, 0)]
  s.silt 0x0009 cause

/-- A start that finds tamper before the root halts, with ALARM shown (R121, R502). -/
def State.tamperHalt (s : State) : State :=
  let s := { s with modes := { s.modes with tamper := .alarm } }.wr TPR_STATUS_ALARM 1
  ((s.notice TPR_NOTE_ALARM).noticeIf (Nat.ble 5 s.startup.line) SYS_NOTE_MODE).haltStart 2

/-- DEBOUNCE; 0 acts as 1 (R506). -/
def State.debounce (s : State) : Nat := max 1 (s.rd TPR_IN_CFG_DEBOUNCE)

/-- Every slot is emptied by an ERASE source (R501), or marked as due in HOLD (R502). -/
def State.tamperErase (s : State) : State :=
  if s.startup.phase = .hold ∨ s.startup.phase = .unpowered then s.wr TPR_LATCH_ERASE_PENDING 1
  else (s.eraseSlots.notice TPR_NOTE_ERASE_DONE).silt 0x1D02 (s.rd TPR_LATCH_IN) (s.rd TPR_LATCH_MON)

/-- ALARM stands; SYS_MODE shows it from t5 on. -/
def State.showAlarm (s : State) : State := { s with modes := { s.modes with tamper := .alarm } }.dptFollow.wr TPR_STATUS_ALARM 1

/-- ALARM is asked for. Before t5 it stands and halts the start at t5; from there to the read of the root it halts the start at once
(R121, R501, R502). -/
def State.tamperAlarm (s : State) : State :=
  match s.startup.phase with
  | .hold => s
  | .unpowered => s
  | .inReset => s.showAlarm
  | .phaseA => s.showAlarm
  | .halted _ => s.showAlarm
  | _ =>
    if s.startup.line < 7 then s.tamperHalt
    else s.request ⟨.tamper .alarm, 0, 0⟩

/-- The write of a slot that is in progress stops, and R483 decides the slot (R502); whether the operation had come to its write is free. -/
def State.tamperCut (s : State) : State :=
  let (b, s) := s.draw
  if bitAt b 0 then s.slotCut else s

/-- A tamper event of the inputs and monitors given (R501): `busy` says that a key operation is in progress. -/
def State.tamperEvent (s : State) (ins mons : Nat) (busy : Bool) : State :=
  let first := s.rd TPR_LATCH_IN = 0 ∧ s.rd TPR_LATCH_MON = 0
  let s := if busy && s.live 0x1C then s.tamperCut.zeroise true else s.zeroise false
  let s := s.wrAll [(TPR_LATCH_IN, s.rd TPR_LATCH_IN ||| ins), (TPR_LATCH_MON, s.rd TPR_LATCH_MON ||| mons)]
  let s := if first then s.wrAll [(TPR_LATCH_TIME_LO, s.calNow.secs), (TPR_LATCH_TIME_HI, s.calNow.secs / 2 ^ 32)] else s
  let s := (s.countSat TPR_EVENTS 1).silt 0x1D01 (s.rd TPR_LATCH_IN) (s.rd TPR_LATCH_MON)
  let s := if ins &&& s.rd TPR_IN_CFG_ERASE ≠ 0 ∨ mons &&& s.rd TPR_MON_CFG_ERASE ≠ 0 then s.tamperErase else s
  s.tamperAlarm

/-- The next count of an input's open rounds (R497, R498). -/
def State.openCount (s : State) (opened k : Nat) : Nat :=
  if bitAt (s.rd TPR_IN_CFG_EN) k && bitAt opened k then min 8 (s.tpr.counts.getD k 0 + 1) else 0

/-- The consecutive open samples of the four inputs. -/
def State.withCounts (s : State) (l : List Nat) : State := { s with tpr := ⟨l⟩ }

/-- A sampling round (R497 to R499): `opened` are the inputs that read open or differ from the mesh bit, `hot` whether the die is
outside its limits. An input's event is the round that completes DEBOUNCE. -/
def State.tamperRound (s : State) (opened : Nat) (hot busy : Bool) : State :=
  if !s.aonRunning then s
  else
    let (b, s) := s.draw
    let s := s.emit (.meshBit (bitAt b 0))
    let counts := (List.range 4).map (s.openCount opened)
    let ins := flagBits ((List.range 4).map fun k => counts.getD k 0 == s.debounce && s.tpr.counts.getD k 0 < s.debounce)
    let trip := hot && bitAt (s.rd TPR_MON_CFG_EN) 1 && !bitAt (s.rd TPR_STATUS_MON) 1
    let s := s.withCounts counts
    let s := s.wrAll [(TPR_STATUS_IN, opened &&& s.rd TPR_IN_CFG_EN), (TPR_STATUS_MON, if hot then 2 else 0)]
    if ins = 0 ∧ !trip then s else s.tamperEvent ins (if trip then 2 else 0) busy

/-- A monitor trips (R499): 0 voltage, 1 temperature, 2 clock; `aon` says that it is the always-on rail or CK_AON, which are
watched in HOLD too. -/
def State.monitorTrip (s : State) (m : Nat) (aon busy : Bool) : State :=
  let armed := aon || m == 1 || (s.startup.phase != .hold && s.startup.phase != .unpowered)
  if !s.aonRunning || !armed || !bitAt (s.rd TPR_MON_CFG_EN) m then s
  else (s.wr TPR_STATUS_MON (setBit (s.rd TPR_STATUS_MON) m)).tamperEvent 0 (2 ^ m) busy

/-- Whether a write clears a bit that is set. -/
def clearsBit (old new : Nat) : Bool := old &&& new != old

/-- A write of TPR_IN_CFG (false) or TPR_MON_CFG (true) (R500). -/
def State.tprCfg (s : State) (mon : Bool) (w : Nat) : State :=
  if mon then
    if s.modes.life == .deployed &&
        (clearsBit (s.rd TPR_MON_CFG_EN) (w % 8) || clearsBit (s.rd TPR_MON_CFG_ERASE) (bitsOf w 4 3)) then
      s.notice TPR_NOTE_CFG_LOCKED
    else s.wrAll [(TPR_MON_CFG_EN, w), (TPR_MON_CFG_ERASE, bitsOf w 4 3)]
  else if s.modes.life == .deployed &&
      (clearsBit (s.rd TPR_IN_CFG_EN) (w % 16) || clearsBit (s.rd TPR_IN_CFG_ERASE) (bitsOf w 4 4)) then
    s.notice TPR_NOTE_CFG_LOCKED
  else s.wrAll [(TPR_IN_CFG_EN, w), (TPR_IN_CFG_ERASE, bitsOf w 4 4), (TPR_IN_CFG_DEBOUNCE, bitsOf w 8 3)]

/-- Host software clears latched bits; both time words clear when TPR_LATCH becomes 0 (R506). -/
def State.tprClear (s : State) (w : Nat) : State :=
  let s := s.wrAll [(TPR_LATCH_IN, s.rd TPR_LATCH_IN - (s.rd TPR_LATCH_IN &&& w % 16)),
    (TPR_LATCH_MON, s.rd TPR_LATCH_MON - (s.rd TPR_LATCH_MON &&& bitsOf w 4 3))]
  if s.rd TPR_LATCH_IN = 0 ∧ s.rd TPR_LATCH_MON = 0 ∧ s.rd TPR_LATCH_ERASE_PENDING = 0 then
    s.wrAll [(TPR_LATCH_TIME_LO, 0), (TPR_LATCH_TIME_HI, 0)]
  else s

/-! ### The commands -/

/-- TAMPER_SAMPLING_ROUND (R497). -/
def execTamperSamplingRound (opened : Nat) (hot busy : Bool) (s : State) : Host.Outcome State Fault Refusal :=
  .next (s.tamperRound opened hot busy)

/-- TAMPER_MONITOR_TRIP (R499). -/
def execTamperMonitorTrip (m : Nat) (aon busy : Bool) (s : State) : Host.Outcome State Fault Refusal :=
  .next (s.monitorTrip m aon busy)

/-- TPR_CFG_WRITE (R500). -/
def execTprCfgWrite (port : Port) (mon : Bool) (w : Nat) (s : State) : Host.Outcome State Fault Refusal :=
  .next (s.effect port (if mon then TPR_MON_CFG_EN.addr else TPR_IN_CFG_EN.addr) fun s => s.tprCfg mon w)

end Sys2Proof.Machine
end

