-- ==== Sys2Proof/Machine/Reset.lean ====
section
/-! DEFINITION. What a reset does, what the supply and the die temperature do, and the clock domains (R23, R28, R43 to R53, R62,
R102 to R105, R567). -/

namespace Sys2Proof.Machine

/-- The result counts that units carry across every restart (R262, R308, R359). -/
def carriedKeys : List Nat := [(SEQ_COUNT 0x07).key, (SEQ_COUNT 0x09).key, (SEQ_COUNT 0x0D).key]

/-- The sequence counters of the Spreader resume at the multiples written to MRAM (R203). -/
def State.resumeSpr (s : State) : State :=
  { s with spr := { bcSeq := resumeAt s.spr.bcSeq 256 % 65536,
                    txSeq := s.spr.txSeq.map fun e => (e.1, resumeAt e.2 256 % 65536), schedAt := [] } }

/-- SCH_HIGH shows the mark that a start restores (R283, R286). -/
def State.resumeHigh (s : State) : State :=
  s.wrAll [(SCH_HIGH_LO, s.sch.highStored / 8), (SCH_HIGH_HI, s.sch.highStored / 8 / 2 ^ 32)]

/-- The counts resume at the multiples written to MRAM (R182, R203, R262, R308), and SLT_CHANGE at the next even value (R517). A MAC counter
whose next multiple exceeds 32 bits resumes at its end, 0xFFFF_FFFF: DESIGN CHOICE, log entry 187. -/
def State.resumeCounts (s : State) : State :=
  let s := s.siltChanged.resumeHigh
  let s := s.wr MAC_TX_FC (min 0xFFFFFFFF (resumeAt (s.rd MAC_TX_FC) 65536))
  let s := s.wr MAC_TX_FC4 (min 0xFFFFFFFF (resumeAt (s.rd MAC_TX_FC4) 65536))
  let s := s.wr (SEQ_COUNT 0x07) (resumeAt (s.rd (SEQ_COUNT 0x07)) 4096)
  (s.wr (SEQ_COUNT 0x09) (resumeAt (s.rd (SEQ_COUNT 0x09)) 4096)).resumeSpr

/-- CK_AON as it stands, and the thirteen other domains in one condition. -/
def State.besideAon (s : State) (v : DomainState) : List DomainState := s.domain 0 :: List.replicate 13 v

/-- The Silt intake is emptied. -/
def State.clearIntake (s : State) : State := { s with siltIntake := [] }

/-- The ports' posted writes, tags and latches are gone, and so are the requests that wait (R75, R99). -/
def State.clearPorts (s : State) : State :=
  { s with lrp := .empty, pcie := .empty, deferred := [], modeReqs := [], modeWaiting := [] }

/-- The windows return to their reset contents. -/
def State.clearWindows (s : State) : State := { s with win := [] }

/-- The MAC after a reset: what MRAM holds stands (R147, R174). -/
def State.clearMac (s : State) : State := { s with mac := s.mac.clear }

/-- The units after a reset: what MRAM, NOR and the always-on domain hold stands, everything else is gone (R104). -/
def State.resetUnits (s : State) : State :=
  { s.clearWindows.clearPorts.clearIntake.clearMac with
    slqUp := List.replicate 16 .empty, slqDown := List.replicate 8 .empty, ntbBad := [], drf := .empty,
    sch := .from s.sch.highStored, dpt := .empty, dal := .empty, emur := s.emur.outage, swf := .empty, hdm := .empty,
    clm := { ClmUnit.empty with swapFrom := s.clm.swapFrom, everPrimary := s.clm.everPrimary },
    hpn := { s.hpn with payload := [], island := none, xport := [] }, siv := .empty,
    cal := { s.cal with load := none, window := none },
    grg := { s.grg with asking := none, campaign := none, targets := [], ended := none, trial := none },
    mrl := { s.mrl with saving := none } }

/-- The modes and the start-up's state as a reset leaves them (R102, R104, R123). -/
def State.restart (s : State) (kind : StartKind) (runs : Nat) : State :=
  { s with
    modes := ⟨.run, .solo, s.modes.life, .off, .idle, .clear, .free⟩
    startup := { s.startup with
      phase := .inReset, line := if kind == .warm then 2 else 0, kind := kind, watchdogRuns := runs, lrpReady := false,
      activationHold := false, heldPower := none, wake := none, scrapped := false }
    domains := s.besideAon (if kind == .warm then .running else .stopped) }

/-- A reset (R102, R103, R104): the registers return to their reset values, cold or warm, and the start begins. A cold reset comes with
VIN present and CK_TIME stopped; at a warm reset the PLLs stay locked, and module time restarts at once (R108, R404). -/
def State.moduleReset (s : State) (kind : StartKind) (cause : Nat) : State :=
  let warm := kind == .warm
  let keys := keptKeys warm ++ carriedKeys
  let count := if warm then min 65535 (s.rd SYS_RESET_CAUSE_WARM_COUNT + 1) else 0
  let runs := if cause = 5 then s.startup.watchdogRuns + 1 else 0
  let was := s.time.state
  let s := (s.forgetRegs keys.contains).restart kind runs
  let s := s.resetUnits.resumeCounts.wrAll [(SYS_RESET_CAUSE_CAUSE, cause), (SYS_RESET_CAUSE_WARM_COUNT, count)]
  let s := if was = .free then s else s.silt 0x1801 was.code TimeMode.free.code
  if warm then s.timeStart else { s with time := .from 0 }

/-- A warm reset with its cause (R102, R108). -/
def State.warmReset (s : State) (cause : Nat) : State := s.moduleReset .warm cause

/-! ### HOLD and the supply (R43 to R46) -/

/-- The modes and the start-up's state in HOLD (R43): the key island has lost its power (R481), and so has what waits for the calendar
in CK_SYS. -/
def State.intoHold (s : State) (byRequest : Bool) : State :=
  { s with
    mrl := { s.mrl with saving := none }
    hpn := { s.hpn with island := none }
    cal := { s.cal with load := none, window := none }
    domains := s.besideAon .stopped
    modes := { s.modes with power := .hold, sieve := .off }
    startup := { s.startup with
      phase := .hold, holdByRequest := byRequest, wake := none, heldPower := none, pwrGood := false
      scratchCopy := if byRequest then s.rd SYS_SCRATCH else s.startup.scratchCopy } }

/-- What the entry to HOLD does in every case: transmitters and gate off, the marks saved, PWR_GOOD low and the write guard set, every
domain but CK_AON stopped, posted writes and tags gone (R43, R59, R75, R99, R283, R355). -/
def State.enterHold (s : State) (byRequest : Bool) : State :=
  let s := s.pasOff.schSave.emuSave
  (s.clearPorts.clearIntake.intoHold byRequest).wrAll [(SYS_STATUS_READY, 0), (HPN_STATUS_READY, 0), (SLT_STATUS_GUARD, 1)]

/-- A save in progress is abandoned: its target bank is left invalid (R44, R558). -/
def State.saveAbandon (s : State) : State :=
  match s.mrl.saving with
  | none => s
  | some (b, _) => { s with mrl := { s.mrl with saving := none, banks := putAt 2 none s.mrl.banks b none } }

/-- The VIN-loss record, which SLT starts at t0 in every state, unless the write guard stands or PWR_GOOD was low already (R42, R43,
R513). What waits in the intake is lost. -/
def State.vinRecord (s : State) : State :=
  let mode := if 5 ≤ s.startup.line then s.modes.word else 0
  let s := s.clearIntake
  if s.startup.pwrGood && s.rd SLT_STATUS_GUARD == 0 then
    s.siltWrite ⟨0x0005, mode % 2 ^ 32, 0, 0, 0, s.calNow, s.calValid, false⟩
  else s

/-- VIN is below the threshold. -/
def State.vinGone (s : State) : State := { s with startup := { s.startup with vin := false } }

/-- At a loss of VIN, control is given up (R474), what is held is discarded, a save not complete is abandoned, and Sieve stops. -/
def State.vinStop (s : State) : State := ((s.resign 2).discardHeld.saveAbandon).sivStop

/-- VIN has been below 5.6 V for 20 µs (R43): what runs stops; the VIN-loss record is the only one written (R513); then the write guard is
set. -/
def State.vinLoss (s : State) : State :=
  if s.startup.phase = .unpowered then s
  else if s.startup.phase = .hold then { s with startup := { s.startup with vin := false, wake := none } }
  else
    (s.vinStop.vinRecord.enterHold false).vinGone

/-- VBAK falls below 2.0 V while VIN is absent: the always-on domain's fields return to their reset values, OSF is set, and a HOLD is
forgotten (R46). -/
def State.vbakLoss (s : State) : State :=
  if s.startup.vin then s
  else
    let keys := alwaysOnKeys
    let s : State := { s.forgetRegs (fun k => !keys.contains k) with
      cal := .empty
      tpr := .empty
      time := { s.time with state := .free }
      mac := { s.mac with osfSinceCharge := true }
      domains := List.replicate 14 .stopped
      startup := { s.startup with phase := .unpowered, holdByRequest := false, scratchCopy := 0 } }
    s.wr RTC_STATUS_OSF 1

/-! ### Die temperature (R62, R101) -/

/-- Ask for QUIET, as SUP does at 110 °C once it has started (R106). -/
def State.dieHot (s : State) (t : Nat) : State :=
  let s := (s.wrAll [(SYS_TEMP_DIE, t), (SYS_TEMP_HOT, 1)]).notice SYS_NOTE_HOT
  let s := s.silt 0x0006 (codeOf 32 (signed 16 t))
  if 4 ≤ s.startup.line ∧ s.startup.phase ≠ .halted false then { s with modeReqs := s.modeReqs ++ [⟨.power .quiet, 0, 0⟩] } else s

/-- The die's temperature is watched wherever the module has power, in a start as well (R62); SYS serves the event. -/
def State.watched (s : State) (k : State → State) : State := if s.powered then k (s.wakePage 0x00) else s

/-- Both PAs are inhibited at 125 °C, which takes them off at once, or released below 115 °C. -/
def State.paInhibit (s : State) (on : Bool) (t : Nat) : State :=
  let b := if on then 1 else 0
  let s := s.wrAll [(SYS_TEMP_DIE, t), (SYS_TEMP_PA_INHIBIT, b), (RFE_STATUS_INHIBIT, b)]
  if on then (s.pasOff.notice SYS_NOTE_PA_INHIBIT).silt 0x0007 (codeOf 32 (signed 16 t)) else s

/-! ### Clock domains (R23, R28) -/

/-- An on-demand domain has been idle for 1 ms. -/
def State.domainStop (s : State) (d : Nat) : State :=
  if s.modes.power = .doze ∧ s.startup.phase = .ready then
    match dozeState d with
    | some v => { s with domains := putDomain s.domains d v }
    | none => s
  else s

/-- Leaving DOZE starts every domain (R28). -/
def State.domainsRun (s : State) : State := { s with domains := s.besideAon .running }

/-! ### The commands -/

/-- VBAK_LOSS (R46). -/
def execVbakLoss (s : State) : Host.Outcome State Fault Refusal := .next s.vbakLoss

/-- DIE_HOT (R62): the die temperature as SYS_TEMP.DIE codes it. -/
def execDieHot (t : Nat) (s : State) : Host.Outcome State Fault Refusal := .next (s.watched fun s => s.dieHot t)

/-- DIE_HOT_END (R101). -/
def execDieHotEnd (t : Nat) (s : State) : Host.Outcome State Fault Refusal :=
  .next (s.watched fun s => s.wrAll [(SYS_TEMP_DIE, t), (SYS_TEMP_HOT, 0)])

/-- PA_INHIBIT (R62). -/
def execPaInhibit (t : Nat) (s : State) : Host.Outcome State Fault Refusal := .next (s.watched fun s => s.paInhibit true t)

/-- PA_INHIBIT_END (R62). -/
def execPaInhibitEnd (t : Nat) (s : State) : Host.Outcome State Fault Refusal := .next (s.watched fun s => s.paInhibit false t)

end Sys2Proof.Machine
end

