-- ==== Sys2Proof/Machine/Modes.lean ====
section
/-! DEFINITION. The decision step: requests on the mode axes are granted, refused, made to wait or forced, in the order of R35
(R31, R34, R35, R59, R111, R122, R464, R524, R528, R540, R542, R543, R546). -/

namespace Sys2Proof.Machine

/-! ### Values and answers (R34, R101) -/

/-- The axis of a value, by the codes of R101. -/
def ModeValue.axis : ModeValue → Nat
  | .tamper _ => 0
  | .life _ => 1
  | .power _ => 2
  | .role _ => 3
  | .grog _ => 4
  | .sieve _ => 5
  | .time _ => 6

/-- The code of a value (R30). -/
def ModeValue.code : ModeValue → Nat
  | .tamper v => v.code
  | .life v => v.code
  | .power v => v.code
  | .role v => v.code
  | .grog v => v.code
  | .sieve v => v.code
  | .time v => v.code

/-- SYS_REQ_STAT of the last request. -/
def State.reqStat (s : State) (axis blocker result : Nat) : State :=
  s.wrAll [(SYS_REQ_STAT_AXIS, axis), (SYS_REQ_STAT_BLOCKER, blocker), (SYS_REQ_STAT_RESULT, result)]

/-- A request is granted. -/
def State.grantStat (s : State) (axis : Nat) : State := s.reqStat axis 7 1

/-- A request is refused: SYS_REQ_STAT, the notice and the Silt record (R34, R101). -/
def State.refuseStat (s : State) (v : ModeValue) (blocker : Nat) : State :=
  s.refuseCode v.axis blocker v.code

/-- A request waits; `old` says that it waited already. -/
def State.waitStat (s : State) (q : ModeReq) (old : Bool) (blocker : Nat) : State :=
  ({ s with modeWaiting := s.modeWaiting ++ [q] }.reqStat q.value.axis blocker 2).noticeIf (!old) SYS_NOTE_WAITING

/-- The Silt record of a forced change. -/
def State.forced (s : State) (v : ModeValue) (by_ : Nat) : State := s.silt 0x0004 v.axis by_ v.code

/-- A field of SYS_MODE has changed. -/
def State.modeChanged (s : State) : State := s.notice SYS_NOTE_MODE

/-- What a check says of a request. -/
inductive Verdict where
  | grant
  | wait (blocker : Nat)
  | refuse (blocker : Nat)
deriving DecidableEq, Repr

/-! ### Suspension and forced stops (R31, R524) -/

/-- The Sieve axis takes a value. FULL ends DPT's control, and its end may bring it back (R328). -/
def State.setSieve (s : State) (v : SieveMode) : State :=
  if s.modes.sieve = v then s
  else
    let full := v = .full ∨ s.modes.sieve = .full
    let s := { s with modes := { s.modes with sieve := v } }.modeChanged
    if full then s.dptFollow else s

/-- SLICED is suspended by DOZE or SWAPPING: the axis shows OFF, and a slice in progress runs on. -/
def State.sivSuspend (s : State) (by_ : Nat) : State :=
  if s.modes.sieve = .sliced then ((s.setSieve .off).wr SIV_STATUS_SUSPENDED 1).forced (.sieve .off) by_ else s

/-- SLICED returns with the same round at the exit from DOZE and SWAPPING. -/
def State.sivResume (s : State) : State :=
  if s.rdB SIV_STATUS_SUSPENDED && s.modes.power != .doze && s.modes.role != .swapping then
    (s.wr SIV_STATUS_SUSPENDED 0).setSieve .sliced
  else s

/-- The Sieve axis is forced to OFF. -/
def State.sivForceOff (s : State) (by_ : Nat) : State :=
  if s.modes.sieve = .off && !s.rdB SIV_STATUS_SUSPENDED then s
  else ((s.sivStop.wr SIV_STATUS_SUSPENDED 0).setSieve .off).forced (.sieve .off) by_

/-- The Grog axis is forced to IDLE, a staging being abandoned (R31, R540). -/
def State.grgForceIdle (s : State) (by_ : Nat) : State :=
  if s.modes.grog = .idle then s
  else
    let s := s.forced (.grog .idle) by_
    if s.modes.grog = .staging then (s.stageFail 0).setGrog .idle else s.setGrog .idle

/-! ### Tamper (R31, R501) -/

/-- The tamper axis is in ALARM. -/
def State.setAlarm (s : State) : State := { s with modes := { s.modes with tamper := .alarm } }.dptFollow

/-- ALARM is applied. -/
def State.takeAlarm (s : State) : State :=
  if s.modes.tamper = .alarm then s
  else
    let s := s.setAlarm.wrAll [(TPR_STATUS_ALARM, 1), (HPN_STATUS_READY, 0)]
    let s := ((s.notices [TPR_NOTE_ALARM, SYS_NOTE_MODE]).grantStat 0).resign 1
    let s := ((s.discardHeld.grgForceIdle 0).sivForceOff 0)
    let s := s.dropSwap
    if s.modes.role = .solo then s else (s.forced (.role .solo) 0).grantRole ⟨.role .solo, 10, 0⟩ .solo

/-! ### Life cycle (R31, R122, R124) -/

/-- The check of a life-cycle change. -/
def State.lifeVerdict (s : State) (to_ : Life) : Verdict :=
  if !lifeStep s.modes.life to_ then .refuse 1
  else if (to_ = .provisioned ∨ to_ = .returned) ∧ s.modes.role ≠ .solo then .refuse 3
  else if to_ = .deployed ∧ s.modes.sieve = .full ∧ s.modes.role = .solo then .refuse 5
  else .grant

/-- What a change to SCRAPPED forces on the other axes. -/
def State.scrapForces (s : State) : State :=
  let doze := s.modes.power = .doze
  let s := if s.modes.power = .run then s
    else
      let s := { s with modes := { s.modes with power := .run } }.domainsRun
      (if doze then s.slotBack else s).forced (.power .run) 1
  (s.sivForceOff 1).grgForceIdle 1

/-- Both banks of stored configuration are gone (R124). -/
def State.scrapBanks (s : State) : State := { s with mrl := ⟨[none, none], none⟩ }

/-- The payload of a request not granted is dropped. -/
def State.dropPayload (s : State) : State := { s with hpn := { s.hpn with payload := [] } }

/-- A life-cycle request is decided: its TAG and SLOT go back with the result (R493, R495). -/
def State.decideLife (s : State) (q : ModeReq) (to_ : Life) : State :=
  match s.lifeVerdict to_ with
  | .grant =>
    let s := s.grantStat 1
    let s := if to_ = .scrapped then
        s.scrapForces.scrapBanks.wr MRL_STATUS_PENDING 0
      else s
    (s.lifeChange to_).lcResult q.cause q.origin 0
  | .wait b => s.dropPayload.refuseStat q.value b |>.lcResult q.cause q.origin 9
  | .refuse b =>
    s.dropPayload.refuseStat q.value b |>.lcResult q.cause q.origin (if b = 1 then 1 else 9)

/-! ### Power (R31, R59, R111) -/

/-- The check of a power request. -/
def State.powerVerdict (s : State) (v : Power) : Verdict :=
  if s.startup.line < 11 then (if v = .hold then .wait 7 else .refuse 7)
  else if s.modes.power = v then .grant
  else if s.modes.life = .scrapped ∧ (v = .quiet ∨ v = .doze) then .refuse 1
  else if v = .hold ∧ (s.modes.role = .primary ∨ s.modes.role = .swapping) then .refuse 3
  else if v = .doze ∧ s.modes.role = .swapping then .refuse 3
  else if v ≠ .run ∧ s.modes.grog = .activating then .refuse 4
  else if v ≠ .run ∧ s.modes.sieve = .full then .refuse 5
  else .grant

/-- HOLD by request (R43 from t1, R474): control is given up, held frames are discarded, what waits for Silt is written. -/
def State.holdOnRequest (s : State) : State :=
  let s := ((s.resign 2).discardHeld).sivForceOff 2
  s.saveAbandon.siltDrain.enterHold true

/-- In DOZE the link is in L1, and CK_PCIE is gated (R28). -/
def State.linkSleeps (s : State) : State := { s with domains := putDomain s.domains 5 .gated }

/-- A power state is granted. -/
def State.grantPower (s : State) (v : Power) : State :=
  let old := s.modes.power
  if old = v then s
  else if v = .hold then s.holdOnRequest
  else
    let s := { s with modes := { s.modes with power := v } }.modeChanged
    let s := if old = .doze then s.domainsRun.slotBack else s
    (match v with
     | .quiet => s.clkClamp
     | .doze => s.slotToMac.lpiForce.linkSleeps.sivSuspend 2
     | _ => s).sivResume

def State.decidePower (s : State) (q : ModeReq) (old : Bool) (v : Power) : State :=
  match s.powerVerdict v with
  | .grant => (s.grantStat 2).grantPower v
  | .wait b => s.waitStat q old b
  | .refuse b =>
    let s := s.refuseStat q.value b
    if v = .hold ∧ s.modes.role = .swapping then s.abandonSwap else s

/-! ### Pairing role (R31, R456, R464, R471, R472, R546) -/

/-- Whether granting the role takes a new epoch (R454, R470). -/
def State.roleGains (s : State) (q : ModeReq) (r : Role) : Bool :=
  match r with
  | .primary => s.clm.swap.isNone && s.modes.role != .swapping && !s.holdsClaim
  | .solo => !s.holdsClaim
  | .swapping => q.origin == 4
  | .standby => false

/-- The check of a role. -/
def State.roleVerdict (s : State) (q : ModeReq) (r : Role) : Verdict :=
  if (r ≠ .solo ∨ !s.holdsClaim) ∧ s.modes.tamper = .alarm then .refuse 0
  else if r ≠ .solo ∧ s.modes.life ≠ .deployed ∧ s.modes.life ≠ .scrapped then .refuse 1
  else if r = .swapping ∧ s.modes.power = .doze then .wait 2
  else if s.roleGains q r && !s.mayTakeEpoch then .refuse 3
  else if (r = .primary ∨ r = .swapping) ∧ s.modes.grog = .activating then .refuse 4
  else if s.modes.sieve = .full ∧ (r = .primary ∨ r = .swapping ∨ (r = .solo ∧ s.modes.life = .deployed)) then .refuse 5
  else .grant

/-- A refused role: what CLM reports of a handover (R471 to R473). -/
def State.roleRefused (s : State) (q : ModeReq) (r : Role) (b : Nat) : State :=
  let s := s.refuseStat q.value b
  if r ≠ .swapping then s
  else if q.origin = 1 then (s.swapRefused b).wr CLM_CMD_STAT_RESULT 4
  else if q.origin = 2 then s.swapRefused b
  else if q.origin = 3 ∨ q.origin = 4 then s.queueBidues 6 b
  else s

/-- The processor whose image is on trial. -/
def State.trialProcessor (s : State) : Option Nat := (List.range 3).find? fun p => s.rdB (GRG_BANK_TRIAL p)

/-- A takeover that falls due while this module is on trial confirms the image, and is presented again (R546). -/
def State.autoConfirm (s : State) (q : ModeReq) : State :=
  let s := match s.trialProcessor with
    | some p => (s.grgConfirm p).wr GRG_STATUS_AUTO_CONFIRM 1
    | none => s
  { s with modeReqs := s.modeReqs ++ [q] }

/-- A granted role, with what SWAPPING does to Sieve. -/
def State.takeRole (s : State) (q : ModeReq) (r : Role) : State :=
  let s := s.grantRole q r
  if r = .swapping then s.sivSuspend 3 else s.sivResume

def State.decideRole (s : State) (q : ModeReq) (old : Bool) (r : Role) : State :=
  if s.modes.role = r ∧ !(r = .solo ∧ s.rdB CLM_STATUS_WAITING) then s.grantStat 3
  else if q.origin = 5 ∧ !s.rdB CLM_STATUS_WAITING then s
  else if s.modes.role = .standby ∧ r = .primary ∧ q.origin = 0 ∧ s.onTrial ∧ s.modes.tamper = .clear then s.autoConfirm q
  else
    match s.roleVerdict q r with
    | .grant => (s.grantStat 3).takeRole q r
    | .wait b => s.waitStat q old b
    | .refuse b => s.roleRefused q r b

/-! ### Grog (R31, R537, R540, R542, R543) -/

/-- The check of STAGING. -/
def State.stagingVerdict (s : State) : Verdict :=
  if s.modes.tamper = .alarm then .refuse 0
  else if s.modes.life = .scrapped then .refuse 1
  else if s.modes.grog = .activating then (if s.grg.asking.isSome then .refuse 4 else .wait 4)
  else if s.modes.sieve = .full then .refuse 5
  else .grant

/-- STAGING is decided, for a header that asks or a staging that was paused. -/
def State.decideStaging (s : State) (q : ModeReq) (old : Bool) : State :=
  match s.stagingVerdict with
  | .grant =>
    let s := (s.grantStat 4).setGrog .staging
    match s.grg.asking, s.grg.header with
    | some _, _ => s.stageBegin
    | none, some h => s.stageResume h
    | none, none => s.setGrog .idle
  | .wait b => s.waitStat q old b
  | .refuse b =>
    let asked := s.grg.asking.isSome
    let s := { s with grg := { s.grg with asking := none } }.refuseStat q.value b
    if asked then s.grgRefuse 8 else s

/-- The check of ACTIVATING; in PRIMARY a handover comes first. -/
def State.activateVerdict (s : State) : Verdict :=
  if s.modes.tamper = .alarm then .refuse 0
  else if s.modes.life = .scrapped then .refuse 1
  else if s.modes.power = .quiet then .refuse 2
  else if s.modes.power = .doze then .wait 2
  else if s.modes.role = .primary then (if s.clm.barred ∨ s.swapBar ≠ 0 then .refuse 3 else .wait 3)
  else if s.modes.role = .swapping then .wait 3
  else if s.modes.sieve = .full then .refuse 5
  else .grant

/-- The activation of R542: the boot record, the record, and the warm reset with cause 6. -/
def State.activateRun (s : State) (p : Nat) : State :=
  let bank := 1 - s.activeBank p
  let version := s.imageVersion (2 * p + bank)
  let s : State := { s with startup := { s.startup with activationHold := true } }
  let s := s.wrAll [(GRG_BANK_ACTIVE p, bank), (GRG_BANK_TRIAL p, 1)]
  (s.grgEvent 5 p 0 bank version).siltDrain.warmReset 6

/-- The handover that an activation needs is refused (R472): CLM_CMD_STAT reports the cause where one of a handover's conditions fails,
and SWAP_REFUSED is set. -/
def State.handoverBarred (s : State) (b : Nat) : State :=
  let bar := s.swapBar
  let fails := b = 3 ∧ ¬s.clm.barred ∧ bar ≠ 0
  let s := s.withClm { s.clm with barred := false }
  if fails then (s.swapRefused (barCause bar)).wr CLM_CMD_STAT_RESULT bar else s

def State.decideActivating (s : State) (q : ModeReq) (old : Bool) : State :=
  match s.activateVerdict with
  | .grant =>
    let s := ((s.grantStat 4).sivForceOff 4).setGrog .activating
    let s := s.withClm { s.clm with barred := false }
    if q.origin = 1 then s else s.activateRun q.cause
  | .wait b =>
    let s := if b = 3 ∧ s.modes.role = .primary then
        (s.forced (.role .swapping) 4).takeRole ⟨.role .swapping, 5, 6⟩ .swapping
      else s
    s.waitStat q old b
  | .refuse b =>
    let s := (s.refuseStat q.value b).handoverBarred b
    if q.origin = 1 then s else s.wr GRG_CMD_STAT_RESULT 5

/-! ### Sieve (R31, R524, R528) -/

/-- The check of a Sieve value. -/
def State.sieveVerdict (s : State) (v : SieveMode) : Verdict :=
  if v = .off then .grant
  else if s.modes.tamper = .alarm then .refuse 0
  else if s.modes.life = .scrapped then .refuse 1
  else if v = .full ∧ s.modes.role = .solo ∧ s.modes.life = .deployed then .refuse 1
  else if v = .full ∧ s.modes.power ≠ .run then .refuse 2
  else if v = .sliced ∧ s.modes.power = .doze then .refuse 2
  else if v = .full ∧ (s.modes.role = .primary ∨ s.modes.role = .swapping) then .refuse 3
  else if v = .sliced ∧ s.modes.role = .swapping then .refuse 3
  else if v = .full ∧ s.modes.grog ≠ .idle then .refuse 4
  else if v = .sliced ∧ s.modes.grog = .activating then .refuse 4
  else .grant

/-- A Sieve value is granted. -/
def State.grantSieve (s : State) (v : SieveMode) : State :=
  match v with
  | .off => (s.sivStop.wr SIV_STATUS_SUSPENDED 0).setSieve .off
  | .sliced => if s.modes.sieve = .sliced then s else ((s.wr SIV_STATUS_SUSPENDED 0).setSieve .sliced).sivNewRound
  | .full =>
    if s.modes.sieve = .full then s
    else (((s.sivStop.wr SIV_STATUS_SUSPENDED 0).setSieve .full).linksDown).zeroise false

def State.decideSieve (s : State) (q : ModeReq) (old : Bool) (v : SieveMode) : State :=
  match s.sieveVerdict v with
  | .grant => (s.grantStat 5).grantSieve v
  | .wait b => s.waitStat q old b
  | .refuse b => s.refuseStat q.value b

/-! ### Time (R35, R408) -/

/-- SYS_MODE takes the time state that TIM asked for; every row of R31 allows each of the three. -/
def State.takeTime (s : State) (v : TimeMode) : State :=
  let s := s.grantStat 6
  if s.modes.time = v then s else { s with modes := { s.modes with time := v } }.modeChanged

/-! ### The step (R35) -/

/-- SUP decides from t5 on (R111); not in HOLD, and not while a reset stands. -/
def State.mayDecide (s : State) : Bool :=
  decide (5 ≤ s.startup.line) &&
  match s.startup.phase with
  | .phaseB => true
  | .phaseC => true
  | .ready => true
  | .tested _ _ => true
  | .halted sup => sup
  | _ => false

/-- One request is decided; a reset or HOLD that an earlier one brought ends the step. -/
def State.decideOne (s : State) (q : ModeReq) (old : Bool) : State :=
  if !s.mayDecide then s
  else
    match q.value with
    | .tamper .alarm => s.takeAlarm
    | .tamper .clear => s
    | .life v => s.decideLife q v
    | .power v => s.decidePower q old v
    | .role v => s.decideRole q old v
    | .grog .staging => s.decideStaging q old
    | .grog .activating => s.decideActivating q old
    | .grog .idle => s
    | .sieve v => s.decideSieve q old v
    | .time v => s.takeTime v

/-- The requests in the order of R35: axis by axis, waiting ones first. -/
def inAxisOrder (l : List (ModeReq × Bool)) : List (ModeReq × Bool) :=
  (List.range 7).flatMap fun a => l.filter fun p => p.1.value.axis == a

/-- The decision step. -/
def State.decide (s : State) : State :=
  if !s.mayDecide then s
  else
    let l := inAxisOrder (s.modeWaiting.map (·, true) ++ s.modeReqs.map (·, false))
    (l.foldl (fun (s : State) p => s.decideOne p.1 p.2) { s with modeReqs := [], modeWaiting := [] }).campaignHalt

/-! ### Power lost in a life-cycle change (R126) -/

/-- The life-cycle state that the next decision step would take. -/
def State.lifeDue (s : State) : Option Life :=
  if !s.mayDecide then none
  else
    (s.modeWaiting ++ s.modeReqs).findSome? fun q =>
      match q.value with
      | .life v => if s.lifeVerdict v = .grant then some v else none
      | _ => none

/-- The first copy of the life-cycle word is written in the place of the older one (R124). -/
def firstCopy (l : List LifeCopy) (c : LifeCopy) : List LifeCopy :=
  match l with
  | [a, b] => if b.count < a.count then [a, c] else [c, b]
  | _ => [c]

/-- Put the two copies of the life-cycle word. -/
def State.putCopies (s : State) (l : List LifeCopy) : State := { s with startup := { s.startup with lifeCopies := l } }

/-- Put the helper data and the anchor. -/
def State.putAnchor (s : State) (u : HpnUnit) : State :=
  { s with hpn := { s.hpn with helper := u.helper, anchor := u.anchor } }

/-- A change of the life-cycle state is cut by the loss of power (R126): the slots are empty; the old state stands where the first copy
was not complete, and the new one where it was. Of SCRAPPED, the next start completes the erasure. The write of a key slot can be cut as
well (R483). -/
def State.lifeCut (s : State) (cut : LifeCut) : State :=
  match cut, s.lifeDue with
  | .none, _ => s
  | .slot, _ => s.slotCut
  | _, none => s
  | .beforeCopy, some _ => (s.zeroise false).eraseSlots
  | .afterCopy, some v =>
    (s.lifeChange v).putCopies (firstCopy s.startup.lifeCopies ⟨v, (s.lifeChange v).rd HPN_LC_COUNT, true⟩)
  | .erasing, some v =>
    if v = .scrapped then (s.lifeChange v).putAnchor s.hpn else s

/-- VIN_LOSS (R43, R126). -/
def execVinLoss (cut : LifeCut) (s : State) : Host.Outcome State Fault Refusal := .next (s.lifeCut cut).vinLoss

end Sys2Proof.Machine
end

