-- ==== Sys2Proof/Machine/MrlBase.lean ====
section
/-! DEFINITION. The Marl store: what a save keeps, saves, and clearing (R554 to R558, R565). -/

namespace Sys2Proof.Machine

/-! ### What is stored (R554) -/

/-- Whether a field is stored: an RW field of pages 0x02 to 0x20 that the always-on domain does not keep, or AUTO_SAVE and DELAY of
page 0x21. -/
def Field.storable (f : Field) : Bool :=
  f.access == .rw && f.survival == .cleared &&
  ((0x02 ≤ f.addr / 0x1000 && f.addr / 0x1000 ≤ 0x20) || f.key == MRL_CTRL_AUTO_SAVE.key || f.key == MRL_AUTO_DELAY.key)

/-- The keys of the stored fields; NOTE_EN of each page is one of them. -/
def storedKeys : List Nat :=
  (allFields.filter Field.storable).map Field.key ++
  ((assignedPages.filter fun p => 0x02 ≤ p && p ≤ 0x20).map fun p => (NOTE_EN p).key)

/-- Whether a window's byte is stored: the transactable regions, the RW bytes of the node table, and the active Drift graph. -/
def State.storedByte (s : State) (page off : Nat) : Bool :=
  match page with
  | 0x05 => winAssigned page off && ntbHostByte (off % 256)
  | 0x07 =>
    (0x300000 ≤ off && off < 0x320000) || (off < 0x40000 && off / 0x20000 == s.rd DRF_GRAPH_ACTIVE) ||
    (0x100000 ≤ off && off < 0x300000 && off / 0x100000 - 1 == s.rd DRF_GRAPH_ACTIVE)
  | _ => winTransactable page off

/-- The active graph is stored as one graph: at the place of bank A (R559). -/
def graphHome (a : Nat) : Nat :=
  let page := a / 0x1000000
  let off := a % 0x1000000
  if page ≠ 0x07 then a
  else if 0x20000 ≤ off ∧ off < 0x40000 then a - 0x20000
  else if 0x200000 ≤ off ∧ off < 0x300000 then a - 0x100000
  else a

/-- The register fields and the window bytes that differ from their reset values, as a save takes them. -/
def State.storedRegs (s : State) : List (Nat × Nat) := s.regs.filter fun c => storedKeys.contains c.1
def State.storedWin (s : State) : List Host.Cell :=
  (s.win.filter fun c => s.storedByte (c.1 / 0x1000000) (c.1 % 0x1000000)).map fun c => (graphHome c.1, c.2)

/-! ### Saves (R556 to R558) -/

/-- The bank that a save writes, and its SEQ. -/
def State.saveTarget (s : State) : Nat × Nat :=
  match newestOf s.mrl.banks with
  | none => (0, 1)
  | some b => (1 - b, (((s.bank b).map StoreBank.seq).getD 0 + 1) % 2 ^ 32)

/-- The snapshot at the next epoch tick. -/
def State.snapshot (s : State) (seq : Nat) : StoreBank :=
  ⟨seq, Config.storeLength s.storedRegs s.storedWin, 0x03B10100, s.epoch + 1, s.rd CLM_CFG_ID, s.storedRegs, s.storedWin, s.siv.disabled,
   s.siv.destructive⟩

/-- A save starts: its target bank holds nothing valid until its end; a snapshot larger than the body is refused. -/
def State.saveStart (s : State) : State :=
  let (b, seq) := s.saveTarget
  let snap := s.snapshot seq
  if 4194240 < snap.len then (s.wr MRL_CMD_STAT_RESULT 3).notice MRL_NOTE_SAVE_FAIL
  else { s with mrl := ⟨putAt 2 none s.mrl.banks b none, some (b, snap)⟩ }.wr MRL_CMD_STAT_RESULT 0

/-- A save is requested. -/
def State.saveRequest (s : State) : State :=
  if s.modes.life = .returned ∨ s.modes.life = .scrapped then s.wr MRL_CMD_STAT_RESULT 1
  else if s.mrl.saving.isSome then s.wrAll [(MRL_STATUS_PENDING, 1), (MRL_CMD_STAT_RESULT, 0)]
  else if !s.startup.pwrGood then s.wrAll [(MRL_STATUS_PENDING, 1), (MRL_CMD_STAT_RESULT, 2)]
  else s.saveStart

/-- A pending request starts. -/
def State.savePending (s : State) : State :=
  if s.rdB MRL_STATUS_PENDING then (s.wr MRL_STATUS_PENDING 0).saveRequest else s

/-- A save ends: `ok` says that its read-back agrees. -/
def State.saveDone (s : State) (ok : Bool) : State :=
  match s.mrl.saving with
  | none => s
  | some (b, snap) =>
    (if ok then
      ({ s with mrl := ⟨putAt 2 none s.mrl.banks b (some snap), none⟩ }.wr MRL_STATUS_EMPTY 0 |>.count MRL_SAVES 1).notice MRL_NOTE_SAVED
    else
      (({ s with mrl := ⟨putAt 2 none s.mrl.banks b none, none⟩ }.wr MRL_CMD_STAT_RESULT 5).notice MRL_NOTE_SAVE_FAIL).silt 0x2101 b snap.seq 5).savePending

/-- CLEAR erases both banks. -/
def State.storeClear (s : State) (key : Nat) : State :=
  if key ≠ 0x4D52 then s.wr MRL_CMD_STAT_RESULT 4
  else if s.modes.life = .returned ∨ s.modes.life = .scrapped then s.wr MRL_CMD_STAT_RESULT 1
  else { s with mrl := { s.mrl with banks := [none, none] } }.wrAll [(MRL_STATUS_EMPTY, 1), (MRL_CMD_STAT_RESULT, 0)]

/-- A write of MRL_CMD. -/
def State.mrlCommand (s : State) (w : Nat) : State :=
  if w % 4 = 1 then s.saveRequest else if w % 4 = 2 then s.storeClear (bitsOf w 16 16) else s

/-! ### The commands -/

/-- SAVE (R557). -/
def execSave (port : Port) (s : State) : Host.Outcome State Fault Refusal :=
  .next (s.effect port MRL_CMD_OP.addr State.saveRequest)

/-- MRL_AUTO_SAVE (R557): MRL_AUTO.DELAY seconds have passed without a further write to a stored item. -/
def execMrlAutoSave (s : State) : Host.Outcome State Fault Refusal :=
  .next (s.working 0x21 fun s => if s.rdB MRL_CTRL_AUTO_SAVE then s.saveRequest else s)

/-- MRL_SAVE_DONE (R557, R558): `ok` says that the body read back agrees and no word of the bank failed its symbol code. -/
def execMrlSaveDone (ok : Bool) (s : State) : Host.Outcome State Fault Refusal := .next (s.working 0x21 fun s => s.saveDone ok)

/-- CLEAR (R558, R565). -/
def execClear (port : Port) (key : Nat) (s : State) : Host.Outcome State Fault Refusal :=
  .next (s.effect port MRL_CMD_OP.addr fun s => s.storeClear key)

end Sys2Proof.Machine
end

