-- ==== Sys2Proof/Machine/Writes.lean ====
section
/-! DEFINITION. What a host write does in its unit: plain fields, the words that act, and the windows' words (R8, R10, R13, R59, R64,
R83, R100, R101, R155, and the unit chapters' command registers). -/

namespace Sys2Proof.Machine

/-! ### Words (R10, R13) -/

/-- The bits that the byte enables select. -/
def beMask (be : Nat) : Nat := (List.range 4).foldl (fun m k => if bitAt be k then m + 255 * 256 ^ k else m) 0

/-- A word's new value: the enabled bytes from the write, the others as they stood. -/
def mergeBytes (old v be : Nat) : Nat := ofOctets ((List.range 4).map fun k => if bitAt be k then octet v k else octet old k)

/-- A field's part of a written word. -/
def Field.cut (f : Field) (w : Nat) : Nat := bitsOf w f.lo f.width

/-- A write to one field: `w` is the merged word, `ones` the ones of the enabled bytes. -/
def State.fieldWrite (s : State) (f : Field) (w ones : Nat) : State :=
  match f.access with
  | .rw => s.wr f (f.cut w)
  | .rws => s.wr f (f.cut w)
  | .w1c => s.wr f (s.rd f - (s.rd f &&& f.cut ones))
  | .w1s => s.wr f (s.rd f ||| f.cut ones)
  | _ => s

/-- A write to a word whose fields only hold what is written. -/
def State.plainWrite (s : State) (addr w ones : Nat) : State :=
  (wordFields addr).foldl (fun s f => s.fieldWrite f w ones) s

/-- After a change of enables or routes: every vector whose aggregate has risen since `before` sends its message (R83). -/
def State.edgesSince (s before : State) : State :=
  (List.range 32).foldl (fun s v => s.vectorEdge v (before.aggregate v)) s

/-- LRP_IRQ_N0 and LRP_IRQ_N1: low while a pending page has LRP_EN and the line's LINE (R82); during a reset and in
HOLD the output is high-impedance (R55). True says low. -/
def State.lrpIrq (s : State) (k : Nat) : Bool :=
  s.live 0x01 && assignedPages.any fun p => s.pagePending p && bitAt (s.route p) 7 && (bitsOf (s.route p) 6 1 == k)

/-! ### SYS and HIF (R92, R100, R101) -/

/-- The power state of a code (R30). -/
def powerOf (n : Nat) : Power :=
  match n % 4 with
  | 0 => .run
  | 1 => .quiet
  | 2 => .doze
  | _ => .hold

/-- A write of SYS_POWER: one request (R59), held until t5 where it comes before (R111). -/
def State.powerWrite (s : State) (v : Nat) : State :=
  let s := s.wr SYS_POWER_REQ v
  if s.startup.line < 5 then { s with startup := { s.startup with heldPower := some (v % 4) } }
  else { s with modeReqs := s.modeReqs ++ [⟨.power (powerOf v), 0, 0⟩] }

/-- A write of SYS_RESET: control is given up, what waits for Silt is written, and the warm reset follows (R101, R474, R513). -/
def State.resetWrite (s : State) (warm : Bool) (key : Nat) : State :=
  if warm && key == 0x2B1D then (s.resign 3).siltDrain.warmReset 4 else s

/-- A tag of a port. -/
def PortPath.tag (q : PortPath) (t : Nat) : Tag := q.tags.getD t .none

/-- Change one tag of a port. -/
def PortPath.setTag (q : PortPath) (t : Nat) (f : Tag → Tag) : PortPath := { q with tags := putAt 4 .none q.tags t (f (q.tag t)) }

/-- HIF_TXN_CUR.ERR of a port. -/
def State.txnErr (s : State) (port : Port) (e : Nat) : State := s.setPort port { s.port port with err := e }

/-- OPEN (R92). -/
def State.txnOpen (s : State) (port : Port) (t : Nat) : State :=
  let q := s.port port
  if (q.tag t).isOpen then s.txnErr port 1
  else s.setPort port { q.setTag t (fun _ => ⟨.opened, [], 0, 0, 0⟩) with curTag := t, selected := true, err := 0 }

/-- SELECT (R92). -/
def State.txnSelect (s : State) (port : Port) (t : Nat) : State :=
  let q := s.port port
  if (q.tag t).state = .opened then s.setPort port { q with curTag := t, selected := true, err := 0 } else s.txnErr port 1

/-- DESELECT (R92). HIF_TXN_CUR.TAG then reads 0: the spec gives the field only while a tag is selected. DESIGN CHOICE, log entry 129. -/
def State.txnDeselect (s : State) (port : Port) : State :=
  s.setPort port { s.port port with selected := false, curTag := 0, err := 0 }

/-- The raw count that a COMMIT of a port takes: a port's writes take effect one at a time (R75), so no two have the same. -/
def commitSince (q : PortPath) (raw : Nat) : Nat :=
  (q.tags.filter fun t => t.state == .committing).foldl (fun m t => max m (t.since + 1)) raw

/-- COMMIT (R92, R97). -/
def State.txnCommit (s : State) (port : Port) (t : Nat) : State :=
  let q := s.port port
  if (q.tag t).state = .opened then
    let q' := q.setTag t fun x => { x with state := .committing, since := commitSince q s.time.raw }
    s.setPort port
      (if q.selected && q.curTag == t then { q' with selected := false, curTag := 0, err := 0 } else { q' with err := 0 })
  else s.txnErr port 1

/-- ABORT (R92): the tag keeps its place as the selected tag (R94). -/
def State.txnAbort (s : State) (port : Port) (t : Nat) : State :=
  let q := s.port port
  if (q.tag t).state = .opened then
    (s.setPort port { q.setTag t (fun x => ⟨.aborted, x.staged, 3, 0, 0⟩) with err := 0 }).notice HIF_NOTE_TXN_ABORT
  else s.txnErr port 1

/-- A write of HIF_TXN_CTRL. -/
def State.txnCtrl (s : State) (port : Port) (w : Nat) : State :=
  let t := w % 4
  match bitsOf w 4 3 with
  | 1 => s.txnOpen port t
  | 2 => s.txnSelect port t
  | 3 => s.txnDeselect port
  | 4 => s.txnCommit port t
  | 5 => s.txnAbort port t
  | _ => s.txnErr port 2

/-- A write of HIF_EOI (R83). -/
def State.eoi (s : State) (v : Nat) : State := if s.aggregate (v % 32) then s.msixSend (v % 32) else s

/-- A write to the MSI-X table, which the LRP cannot make (R100). -/
def State.msixWrite (s : State) (port : Port) (addr w : Nat) : State :=
  match port with
  | .lrp => s
  | .pcie => (s.wr (msixField (addr - 0x01000)) w).msixRetry ((addr - 0x01800) / 16)

def State.actSYS (s : State) (addr w ones : Nat) : State :=
  if addr = SYS_POWER_REQ.addr then s.powerWrite w
  else if addr = SYS_RESET_WARM.addr then s.resetWrite (bitAt ones 0) (bitsOf ones 16 16)
  else s.plainWrite addr w ones

def State.actHIF (s : State) (port : Port) (addr w ones : Nat) : State :=
  if addr = 0x01044 then s.setPort port { s.port port with fence := w }
  else if addr = HIF_TXN_CTRL_TAG.addr then s.txnCtrl port ones
  else if addr = HIF_EOI_VECTOR.addr then s.eoi ones
  else if isMsixTable addr then s.msixWrite port addr w
  else (s.plainWrite addr w ones).edgesSince s

/-! ### The units' words that act -/

def State.actRFE (s : State) (addr w ones : Nat) : State :=
  if addr = RFE_CTRL_REGION.addr then (s.plainWrite addr w ones).regionWrite (bitsOf w 4 2)
  else if addr = RFE_CHAIN0_FREQ.addr then
    let (lost, s) := s.draw
    s.retune 0 (bitsOf w 0 20) lost
  else if addr = RFE_CHAIN1_FREQ.addr then
    let (lost, s) := s.draw
    s.retune 1 (bitsOf w 0 20) lost
  else s.plainWrite addr w ones

/-- MAC_KEY has changed: an index that names another slot has another key (R181, R182). -/
def State.macKeys (before after : State) : State :=
  ([(1, MAC_KEY_JOIN), (2, MAC_KEY_NET2), (3, MAC_KEY_NET3)].filter fun p => before.rd p.2 != after.rd p.2).foldl
    (fun s p => s.keyReplaced p.1) after

def State.actMAC (s : State) (addr w ones : Nat) : State :=
  if addr = MAC_CTRL_EN.addr then
    let s := (s.plainWrite addr w ones).macEnable
    if bitAt ones 5 then { s with mac := { s.mac with realign := true } } else s
  else if addr = MAC_RX_POOL_FIRST.addr then (s.plainWrite addr w ones).ownSlots
  else if addr = MAC_KEY_JOIN.addr then s.macKeys (s.plainWrite addr w ones)
  else if addr = MAC_TS_TX_OFFSET.addr then
    if 120 ≤ w % 256 ∧ w % 256 ≤ 250 then s.plainWrite addr w ones else s.notice MAC_NOTE_CFG_ERR
  else s.plainWrite addr w ones

def State.actNTB (s : State) (addr w ones : Nat) : State :=
  if addr = NTB_CMD_INDEX.addr then s.ntbCmd (bitsOf ones 0 13) (bitsOf ones 16 3)
  else if addr = NTB_FIND_HI.addr then s.ntbFindHi w
  else s.plainWrite addr w ones

def State.actDRF (s : State) (addr w ones : Nat) : State :=
  if addr = DRF_CTRL_EN.addr then (s.plainWrite addr w ones).drfEnable (bitAt w 0)
  else if addr = DRF_GRAPH_SWAP.addr then (if bitAt ones 0 then s.graphSwap else s)
  else if addr = DRF_INJECT_VERTEX.addr then s.drfEnter (bitsOf ones 0 13) (bitsOf ones 16 16 * 1000) 255 0
  else s.plainWrite addr w ones

def State.actSCH (s : State) (addr w ones : Nat) : State :=
  if addr = SCH_CTRL_EN.addr then (s.plainWrite addr w ones).schEnable (bitAt w 0)
  else if addr = SCH_LAT.addr then s.schPlace SCH_LAT 89990000 w
  else if addr = SCH_LON.addr then s.schPlace SCH_LON 180000000 w
  else if addr = SCH_LOCAL_OFFSET.addr then s.schOffset SCH_LOCAL_OFFSET w
  else if addr = SCH_LOCAL_NEXT_OFFSET.addr then s.schOffset SCH_LOCAL_NEXT_OFFSET w
  else s.plainWrite addr w ones

def State.actTMP (s : State) (addr w ones : Nat) : State :=
  if addr = TMP_CTRL_EN.addr then (s.plainWrite addr w ones).tmpEnable (bitAt w 0)
  else if addr = TMP_MEAS_SLOT_SLOT.addr then s.tmpHostMeas (bitsOf ones 0 11)
  else s.plainWrite addr w ones

def State.actDAL (s : State) (addr w ones : Nat) : State :=
  if addr = DAL_RAW_CTRL_PORT.addr then
    s.rawRequest (bitsOf ones 0 3) (bitAt ones 4) (bitAt ones 5) (bitAt ones 6) (bitsOf ones 8 3)
  else s.plainWrite addr w ones

def State.actEMU (s : State) (addr w ones : Nat) : State :=
  if addr = EMU_CTRL_EN.addr then (s.plainWrite addr w ones).emuEnable (bitAt w 0)
  else if emuChannelWord addr || emuCircuitWord addr then (s.emuStore addr w).emuCheck addr
  else if addr = EMU_CMD_CIRCUIT.addr then (if bitAt ones 8 then s.emuClear (bitsOf ones 0 4) else s)
  else s.plainWrite addr w ones

def State.actEMUR (s : State) (addr w ones : Nat) : State :=
  if addr = EMUR_CTRL_EN.addr then (s.plainWrite addr w ones).emurEnable (s.rdB EMUR_CTRL_EN) (bitAt w 0)
  else if addr = EMUR_WINDOW.addr || addr = EMUR_ORIGIN_LO.addr || addr = EMUR_ORIGIN_HI.addr then (s.plainWrite addr w ones).emurMoved
  else s.plainWrite addr w ones

def State.actSWF (s : State) (addr w ones : Nat) : State :=
  if addr = SWF_STEP_EN.addr then (s.plainWrite addr w ones).clkClamp
  else if addr = SWF_FDB_CMD_OP.addr then s.fdbCommand ones
  else if addr = SWF_MDIO_CMD_OP.addr then s.mdioCommand ones
  else s.plainWrite addr w ones

def State.actETP (s : State) (k addr w ones : Nat) : State :=
  if addr = (ETP_CTRL_EN k).addr then (s.plainWrite addr (clrBit (clrBit w 4) 5 + 16 * s.rd (ETP_CTRL_MODE k)) ones).etpCtrl k (bitAt w 0) (bitsOf w 4 2)
  else if addr = (ETP_FWD_STATE k).addr then s.fwdWrite k (w % 256)
  else s.plainWrite addr w ones

def State.actHDM (s : State) (addr w ones : Nat) : State :=
  let r := addr % 0x100 / 0x20 % 8
  if addr = HDM_CTRL_EN.addr then
    (s.plainWrite addr (clrBit w 0 + s.rd HDM_CTRL_EN) ones).hdmEnable (bitAt w 0)
  else if addr = (HDM_TX_SIZE r).addr then s.ringSizeWrite (HDM_TX_SIZE r) (HDM_TX_HEAD r) (w % 16)
  else if addr = (HDM_RX_SIZE r).addr then s.ringSizeWrite (HDM_RX_SIZE r) (HDM_RX_HEAD r) (w % 16)
  else s.plainWrite addr w ones

def State.actTIM (s : State) (addr w ones : Nat) : State :=
  if addr = TIM_CTRL_ROLE.addr then
    let role := s.rd TIM_CTRL_ROLE
    let s := s.plainWrite addr w ones
    let s := if bitsOf w 1 2 = 3 then s.timCfgErr else s
    if role = bitsOf w 1 2 ∧ s.timHost then s else s.ptpFollow
  else if addr = TIM_PTP_XPORT_PORTS.addr then (s.plainWrite addr w ones).ptpFollow
  else if addr = TIM_RATE.addr then s.hostRate w
  else if addr = TIM_STEP_HI.addr then s.hostStep w
  else if addr = TIM_HOST_STATE.addr then s.hostState (w % 4)
  else if addr = TIM_UTC_OFFSET.addr then
    let s := s.plainWrite addr w ones
    { s with cal := { s.cal with utcOffset := w % 2 ^ 16 } }.wr TIM_UTC_SRC_PTP 0
  else if addr = TIM_CAPTURE_GO.addr then (if bitAt ones 0 then s.capture else s)
  else if addr = TIM_TS_POP_COUNT.addr then s.tsPop (bitsOf ones 0 24)
  else s.plainWrite addr w ones

def State.actRTC (s : State) (addr w ones : Nat) : State :=
  if addr = RTC_SET_CMD_GO.addr then
    if !bitAt ones 0 then s else if bitAt ones 1 then s.rtcSetFields else s.rtcSetCount
  else if addr = RTC_LEAP_DATE.addr then s.rtcLeapWrite w
  else s.plainWrite addr w ones

/-- A write to the CFG word of queue q (R434, R452): one whose CELLS is refused changes nothing. -/
def State.slqCfgWrite (s : State) (q w : Nat) : State :=
  if s.slqCellsOk q (w % 2 ^ 14) then (s.wr (qPolicy q) (bitsOf w 16 1)).wr (qCells q) (w % 2 ^ 14) else s.slqErr q 5

/-- A command of queue q (R452). -/
def State.slqCommand (s : State) (port : Port) (q op : Nat) : State :=
  if op = 5 then s.slqClrMax q
  else if op = 6 then s.slqFlush q
  else if q < 16 then
    if op = 1 then s.slqDrop port q
    else if op = 2 then s.slqMark port q
    else if op = 3 then s.slqRewind port q
    else if op = 4 then s.slqClearMark port q
    else s
  else if op = 1 then s.slqAbort (q - 16)
  else s

/-- The acting words of page 0x1A. A watermark that LEVEL still reaches sets STAT.WM again at once (R446, R448). -/
def State.actSLQ (s : State) (port : Port) (addr w ones : Nat) : State :=
  if 0x1A100 ≤ addr ∧ addr < 0x1A400 then
    let q := (addr - 0x1A100) / 0x20
    if addr % 0x20 = 0 then s.slqCfgWrite q w
    else if addr = SLQ_CMD q then s.slqCommand port q (ones % 8)
    else if 16 ≤ q ∧ addr % 0x20 = 0x08 then s.slqDownWord port (q - 16) w
    else if 16 ≤ q ∧ addr % 0x20 = 0x0C then s.slqDownCommit port (q - 16) w
    else (s.plainWrite addr w ones).slqSettle q
  else if addr = SLQ_CTRL_EN.addr then s.slqEnable (bitAt w 0)
  else s.plainWrite addr w ones

def State.actCLM (s : State) (addr w ones : Nat) : State :=
  if addr = CLM_CTRL_EN.addr then
    (((if bitAt w 0 then s else s.clmEnable false).plainWrite addr w ones).swapDated).revertWatch
  else if addr = CLM_CFG_ID.addr then (s.plainWrite addr w ones).revertWatch
  else if addr = CLM_SWAP_DAYS.addr then (s.plainWrite addr w ones).swapDated
  else if addr = CLM_CMD_OP.addr then s.clmCommand ones
  else s.plainWrite addr w ones

def State.actTPR (s : State) (addr w ones : Nat) : State :=
  if addr = TPR_IN_CFG_EN.addr then s.tprCfg false w
  else if addr = TPR_MON_CFG_EN.addr then s.tprCfg true w
  else if addr = TPR_LATCH_IN.addr then s.tprClear ones
  else s.plainWrite addr w ones

def State.actSLT (s : State) (port : Port) (addr w ones : Nat) : State :=
  if addr = SLT_CMD_CLEAR.addr then s.sltCmd port (bitAt ones 0) (bitsOf ones 16 16) else s.plainWrite addr w ones

/-- The Sieve value of a code (R30). -/
def sieveOf (n : Nat) : SieveMode := if n % 4 = 0 then .off else if n % 4 = 1 then .sliced else .full

/-- A write of SIV_MODE.REQ: one request; 3 has no effect (R524). -/
def State.sivModeWrite (s : State) (v : Nat) : State :=
  let s := s.wr SIV_MODE_REQ v
  if v % 4 = 3 then s else { s with modeReqs := s.modeReqs ++ [⟨.sieve (sieveOf v), 0, 0⟩] }

def State.actSIV (s : State) (addr w ones : Nat) : State :=
  if addr = SIV_MODE_REQ.addr then s.sivModeWrite (w % 4)
  else if addr = SIV_REG_CFG_EN.addr then s.sivRegCfg (bitAt w 0) (bitAt w 1)
  else if addr = SIV_CMD_REGION.addr then s.sivCommand ones
  else s.plainWrite addr w ones

/-- The processor's code in record 0x000B. -/
def fallbackCode (p : Nat) : Nat := if p = 0 then 2 else p - 1

/-- The fallback of R119 and R545: TRIAL is cleared, the other bank becomes active, and a warm reset with cause 6 follows. -/
def State.fallback (s : State) (p : Nat) : State :=
  let bank := 1 - s.activeBank p
  let s := s.wrAll [(GRG_BANK_TRIAL p, 0), (GRG_BANK_ACTIVE p, bank)]
  ({ s with grg := { s.grg with trial := none } }.silt 0x000B (fallbackCode p) bank).siltDrain.warmReset 6

/-- ROLLBACK (R545). -/
def State.grgRollback (s : State) (p : Nat) : State :=
  if p < 3 ∧ s.rdB (GRG_BANK_TRIAL p) then (s.wr GRG_CMD_STAT_RESULT 0).fallback p else s.wr GRG_CMD_STAT_RESULT 3

/-- A write of GRG_CMD (R553). -/
def State.grgCommand (s : State) (w : Nat) : State :=
  let p := bitsOf w 8 2
  match w % 8 with
  | 1 => s.grgActivate p
  | 2 => s.grgConfirmCmd p
  | 3 => s.grgRollback p
  | 4 => s.campaignStart
  | 5 => s.nodeActivate
  | 6 => s.campaignStop
  | _ => s

def State.actGRG (s : State) (addr w ones : Nat) : State :=
  if addr = GRG_CMD_OP.addr then s.whenSup fun s => s.grgCommand ones else s.plainWrite addr w ones

def State.actMRL (s : State) (addr w ones : Nat) : State :=
  if addr = MRL_CMD_OP.addr then s.mrlCommand ones else s.plainWrite addr w ones

/-- A write to a word beyond the header, by page. -/
def State.actPage (s : State) (port : Port) (addr w ones : Nat) : State :=
  match addr / 0x1000 with
  | 0x00 => s.actSYS addr w ones
  | 0x01 => s.actHIF port addr w ones
  | 0x02 => s.actRFE addr w ones
  | 0x04 => s.actMAC addr w ones
  | 0x05 => s.actNTB addr w ones
  | 0x07 => s.actDRF addr w ones
  | 0x08 => s.actSCH addr w ones
  | 0x09 => s.actTMP addr w ones
  | 0x0C => s.actDAL addr w ones
  | 0x0D => s.actEMU addr w ones
  | 0x0E => s.actEMUR addr w ones
  | 0x10 => s.actSWF addr w ones
  | 0x11 => s.actETP 0 addr w ones
  | 0x12 => s.actETP 1 addr w ones
  | 0x13 => s.actETP 2 addr w ones
  | 0x14 => s.actETP 3 addr w ones
  | 0x15 => s.actETP 4 addr w ones
  | 0x16 => s.actETP 5 addr w ones
  | 0x17 => s.actHDM addr w ones
  | 0x18 => s.actTIM addr w ones
  | 0x19 => s.actRTC addr w ones
  | 0x1A => s.actSLQ port addr w ones
  | 0x1B => s.actCLM addr w ones
  | 0x1D => s.actTPR addr w ones
  | 0x1E => s.actSLT port addr w ones
  | 0x1F => s.actSIV addr w ones
  | 0x20 => s.actGRG addr w ones
  | 0x21 => s.actMRL addr w ones
  | _ => s.plainWrite addr w ones

/-- A write to a register word: the notices and their enables in the header (R64), and the words of the page. A queue whose LEVEL still
reaches its watermark sets the notice again at once (R446). A bit of NOTE_EN at
whose place the page has no notice stays 0. DESIGN CHOICE, log entry 130. -/
def State.regAction (s : State) (port : Port) (addr w ones : Nat) : State :=
  let p := addr / 0x1000
  if addr % 0x1000 = 0x10 then
    let s := s.wr (NOTE_RAW p) (s.rd (NOTE_RAW p) - (s.rd (NOTE_RAW p) &&& ones))
    if p = 0x1A then (List.range 24).foldl State.slqSettle s else s
  else if addr % 0x1000 = 0x14 then (s.wr (NOTE_EN p) (w &&& pageNotices p)).edgesSince s
  else s.actPage port addr w ones

/-- The words that act, with the bytes that hold the field which acts: the enables of those bytes decide whether the word acts, and a
disabled byte stands as it was (R13). In a word that is not listed, any byte does. -/
def actBytes : List (Nat × Nat) :=
  [(SYS_POWER_REQ.addr, 1), (HIF_TXN_CTRL_OP.addr, 1), (HIF_EOI_VECTOR.addr, 1), (RFE_CTRL_REGION.addr, 1), (RFE_CHAIN0_FREQ.addr, 7),
   (RFE_CHAIN1_FREQ.addr, 7), (MAC_CTRL_EN.addr, 1), (MAC_TS_TX_OFFSET.addr, 1), (NTB_CMD_OP.addr, 4), (DRF_CTRL_EN.addr, 1),
   (DRF_GRAPH_SWAP.addr, 1), (DRF_INJECT_VERTEX.addr, 3), (SCH_CTRL_EN.addr, 1), (TMP_CTRL_EN.addr, 1), (TMP_MEAS_SLOT_SLOT.addr, 3),
   (DAL_RAW_CTRL_PORT.addr, 1), (EMU_CTRL_EN.addr, 1), (EMU_CMD_CIRCUIT.addr, 3), (EMUR_CTRL_EN.addr, 1), (SWF_FDB_CMD_OP.addr, 1),
   (SWF_MDIO_CMD_OP.addr, 1), (HDM_CTRL_EN.addr, 1), (TIM_CTRL_ROLE.addr, 1), (TIM_HOST_STATE.addr, 1), (TIM_CAPTURE_GO.addr, 1),
   (TIM_TS_POP_COUNT.addr, 7), (RTC_SET_CMD_GO.addr, 1), (CLM_CTRL_EN.addr, 1), (CLM_CMD_OP.addr, 1), (SIV_MODE_REQ.addr, 1),
   (SIV_REG_CFG_EN.addr, 1), (GRG_CMD_OP.addr, 1), (MRL_CMD_OP.addr, 1), (MAC_RX_POOL_FIRST.addr, 15), (MAC_KEY_JOIN.addr, 15),
   (NTB_FIND_HI.addr, 15), (SCH_LAT.addr, 15), (SCH_LON.addr, 15), (SCH_LOCAL_OFFSET.addr, 15), (SCH_LOCAL_NEXT_OFFSET.addr, 15),
   (SWF_STEP_EN.addr, 15), (TIM_PTP_XPORT_PORTS.addr, 15), (TIM_RATE.addr, 15), (TIM_STEP_HI.addr, 15), (TIM_UTC_OFFSET.addr, 3),
   (RTC_LEAP_DATE.addr, 7), (SLQ_CTRL_EN.addr, 1), (CLM_SWAP_DAYS.addr, 15), (CLM_CFG_ID.addr, 15), (TPR_IN_CFG_EN.addr, 15),
   (TPR_MON_CFG_EN.addr, 15), (TPR_LATCH_IN.addr, 15), (SLT_CMD_CLEAR.addr, 1)] ++
  ((List.range 6).flatMap fun k => [((ETP_CTRL_EN k).addr, 1), ((ETP_FWD_STATE k).addr, 1)]) ++
  ((List.range 8).flatMap fun r => [((HDM_TX_SIZE r).addr, 1), ((HDM_RX_SIZE r).addr, 1)]) ++
  ((List.range 24).map fun q => (0x1A100 + 0x20 * q, 3))

/-- Whether a write with these byte enables makes its word act. -/
def acts (addr be : Nat) : Bool := be % 16 &&& (Sparse.get actBytes addr).getD 15 != 0

/-- A write takes effect in a register: `be` names the enabled bytes. -/
def State.regWrite (s : State) (port : Port) (addr value be : Nat) : State :=
  s.effect port addr fun s =>
    let w := mergeBytes (s.word port addr) value be
    let ones := mergeBytes 0 value be
    if acts addr be then s.regAction port addr w ones else s.plainWrite addr w ones

/-! ### Words of the windows -/

/-- A word of the MAC's window: slotframes, hop list and links, without their reserved bits (R161, R163, R165). -/
def State.macWordWrite (s : State) (off w : Nat) : State :=
  let o := off / 4 * 4
  let mask :=
    if o < 0x40 then (if o % 8 = 0 then 0x0001FFFF else 0)
    else if o < 0x300 then 0x000FFFFF
    else [0xFFFF01FF, 0xFFFF3FFF, 0x00000F07, 0].getD (o % 16 / 4) 0
  s.setN 0x04 o 4 (w &&& mask)

/-- A word of SHP's window: curves of 257 points and compensation tables of 17 points of two octets (R320, R321). -/
def State.shpWordWrite (s : State) (off w : Nat) : State :=
  let o := off / 4 * 4
  let put := fun (size last : Nat) =>
    s.setN 0x0A o 4 (if o % size < last then w else if o % size = last then w % 2 ^ 16 else 0)
  if o < 0x4000 then put 1024 512 else if o < 0x4400 then put 64 32 else s

/-- The windows whose words host software writes (R155). -/
def windowsRW : List Nat := [0x02, 0x03, 0x04, 0x05, 0x07, 0x08, 0x09, 0x0A, 0x0E, 0x10]

/-- A word of a window that is no queue's takes a value. -/
def State.winStore (s : State) (page off w : Nat) : State :=
  if !winAssigned page off then s
  else
    match page with
    | 0x02 => s.bandWordWrite off w
    | 0x03 => s.chnWordWrite off w
    | 0x04 => s.macWordWrite off w
    | 0x05 => s.ntbWordWrite off w
    | 0x07 => s.drfWordWrite off w
    | 0x08 => s.schWordWrite off w
    | 0x09 => s.tmpWordWrite off w
    | 0x0A => s.shpWordWrite off w
    | 0x0E => s.emurWordWrite off w
    | 0x10 => if off < 0x4000 then s.setN 0x10 (off / 4 * 4) 4 (w &&& 0x01037F7F) else s
    | _ => s

/-- What a unit makes of its window's words once they are written, a single word or all those of a commit (R97, R142): the offsets
written, those that no unit chapter assigns apart (R8), and the state before. -/
def State.winSettle (s before : State) (page : Nat) (offs : List Nat) : State :=
  let offs := offs.filter (winAssigned page)
  match page with
  | 0x02 => if offs.isEmpty then s else s.bandChanged
  | 0x03 => if offs.isEmpty then s else s.slotsCheck
  | 0x08 => (offs.filter fun o => o < 0x1000 || (0x10000 ≤ o && o < 0x50000)).foldl State.schCheck s
  | 0x09 => offs.foldl (fun s o => s.tmpSettle (before.tmpRecord (o / 64)) o) s
  | 0x0E => offs.foldl (fun s o => s.emurSettle before o) s
  | _ => s

/-- Several words of the windows have been written together. -/
def State.settleWindows (s before : State) (addrs : List Nat) : State :=
  windowsRW.foldl (fun s p => s.winSettle before p ((addrs.filter fun a => a / 0x1000000 == p).map fun a => a % 0x1000000)) s

/-- A word of a window that is no queue's is written by itself. -/
def State.winAction (s : State) (page off w : Nat) : State := (s.winStore page off w).winSettle s page [off]

/-- A write takes effect in a word of a window; a queue's words go to the queue (R443, R451). -/
def State.winWrite (s : State) (port : Port) (addr value be : Nat) : State :=
  let page := addr / 0x1000000
  let off := addr % 0x1000000
  s.working page fun s =>
    if page = 0x1A then
      if off < 0x100000 then s.slqErr (off / 0x10000) 4
      else if off < 0x180000 then s.slqDownWord port ((off - 0x100000) / 0x10000) value
      else s
    else if !s.pageRuns page then s
    else (s.hostWrote port true addr).winAction page off (mergeBytes (s.winWord page off) value be)

end Sys2Proof.Machine
end

