-- ==== Sys2Proof/Machine/Scrub.lean ====
section
/-! DEFINITION. The scrubber's passes, and what the owner of a memory does about an item that an uncorrectable error has lost (R194, R233,
R264, R310, R399, R441, R484, R492, R556, R561, R562). -/

namespace Sys2Proof.Machine

/-- A frame that the switch stores is lost before its first octet leaves (R399): the item is the frame's number. -/
def State.swfLose (s : State) (id : Nat) : State :=
  let gone := (List.range 7).flatMap fun k => (((List.range 8).flatMap (s.swQueue k)).filter fun f => f.id == id).map fun f => (k, f.tsId)
  if gone.isEmpty then s
  else
    let s : State := { s with swf := { s.swf with queues := s.swf.queues.map fun (q : List SwFrame) => q.filter fun f => f.id != id } }
    (gone.foldl (fun s e => s.giveUp e.1 e.2) ((s.count SWF_ECC_DROP 1).notice SWF_NOTE_ECC_DROP)).pauseFalls

/-- Drift's storage has failed (R264): the graph banks and the target banks stand in DRAM, items 0 and 1 being graph banks A and B, of which
only the active one matters; the walkers, the trail and the intake stand in SRAM, where the next evaluation meets the error. -/
def State.drfLose (s : State) (m item : Nat) : State :=
  if m ≠ 0 then { s with drf := { s.drf with storeBad := true } }
  else if item = s.rd DRF_GRAPH_ACTIVE then { s with drf := { s.drf with graphBad := true } }
  else s

/-- A frame of the frame buffer is dropped, those after it keeping their order (R233). -/
def State.bufLose (s : State) (item : Nat) : State :=
  { s with mac := { s.mac with frameBuf := s.mac.frameBuf.eraseIdx item } }

/-- Hardpan's storage has failed: a key slot's words in MRAM (R484), or the key island (R492). -/
def State.hpnLose (s : State) (m item : Nat) : State :=
  if m = 2 then s.badSlot (item % 64) else (s.zeroise false).silt 0x1C03

/-- The owner of a codeword applies its own rule to an uncorrectable error in its item (R561). A page with no rule of its own loses the
data alone. -/
def State.ownerLoses (s : State) (m page item : Nat) : State :=
  if page = 0x03 then s.bufLose item
  else if page = 0x05 then s.ntbCheckFails (item % 8192)
  else if page = 0x07 then s.drfLose m item
  else if page = 0x09 then (if item % 10240 < 2048 then s.tmpFail (item % 10240) else s.tmpLose (item % 10240 - 2048))
  else if page = 0x10 then s.swfLose item
  else if page = 0x1A then s.slqLose (item % 16)
  else if page = 0x1C then s.hpnLose m item
  else if page = 0x21 then { s with mrl := { s.mrl with banks := putAt 2 none s.mrl.banks (item % 2) none } }
  else s

/-- One codeword of a pass: read, and what its owner makes of it. -/
def State.itgFound (s : State) (m : Nat) (e : ScrubFound) : State :=
  let (lost, s) := s.itgRead m e
  if lost then s.ownerLoses m e.page e.item else s

/-- A pass of the scrubber over a class (R562). -/
def State.itgPass (s : State) (m : Nat) (found : List ScrubFound) : State :=
  if s.rdB ITG_CTRL_SCRUB_EN then (found.foldl (fun s e => s.itgFound m e) s).notice ITG_NOTE_SCRUB_DONE else s

/-- ITG_SCRUB (R562): a completed pass of class m with the codewords that it met in error. -/
def execItgScrub (m : Nat) (found : List ScrubFound) (s : State) : Host.Outcome State Fault Refusal :=
  .next (s.working 0x22 fun s => s.itgPass m found)

end Sys2Proof.Machine
end

