-- ==== Sys2Proof/Machine/Ports.lean ====
section
/-! DEFINITION. The two host ports: posting buffers, staging, commits, the fence, and the endpoint's events (R23, R28, R67 to R84,
R91 to R100, R567). -/

namespace Sys2Proof.Machine

/-! ### Delivery (R73 to R75, R93 to R96) -/

/-- A posted write takes effect. -/
def State.applyWrite (s : State) (port : Port) (w : PortWrite) : State :=
  if w.bar2 then s.winWrite port w.addr w.value w.be else s.regWrite port w.addr w.value w.be

/-- Whether a word of BAR0 is defined: a writable place of the header, a word with fields, or an uplink queue's DATA (R8, R452). -/
def wordDefined (addr : Nat) : Bool :=
  let o := addr % 0x1000
  assignedPages.contains (addr / 0x1000) &&
    (if o < 0x40 then o < 0x28
     else (blockOfSeq addr).isSome || !(wordFields addr).isEmpty || (0x1A100 ≤ addr && addr < 0x1A300 && addr % 0x20 == 0x08))

/-- The Slip registers whose writes are applied directly (R93). -/
def slqDirect (addr : Nat) : Bool :=
  0x1A100 ≤ addr && addr < 0x1A400 &&
    (addr == SLQ_CMD ((addr - 0x1A100) / 0x20) || (0x1A300 ≤ addr && (addr % 0x20 == 0x08 || addr % 0x20 == 0x0C)))

/-- Whether a selected tag stages a write (R93). -/
def State.stageable (s : State) (w : PortWrite) : Bool :=
  if w.bar2 then s.live w.page && winTransactable w.page (w.addr % 0x1000000)
  else
    s.live w.page && w.page != 0x00 && w.page != 0x01 && wordDefined w.addr && (winAddrOf w.addr).isNone && !slqDirect w.addr

/-- A write is staged in the selected tag: the 65th aborts it with OVERFLOW; an aborted tag discards it (R94). -/
def State.stage (s : State) (port : Port) (w : PortWrite) : State :=
  let q := s.port port
  let t := q.tag q.curTag
  if t.state ≠ .opened then s
  else if 64 ≤ t.staged.length then
    (s.setPort port (q.setTag q.curTag fun _ => ⟨.aborted, t.staged, 2, 0, 0⟩)).notice HIF_NOTE_TXN_ABORT
  else s.setPort port (q.setTag q.curTag fun t => { t with staged := t.staged ++ [w] })

/-- A write of a unit's *_WIN_DATA counts as one to the window word that *_WIN_ADDR names (R93, R155). -/
def State.winDataTarget (s : State) (w : PortWrite) : Option (Field × PortWrite) :=
  if w.bar2 then none
  else
    match winDataOf w.addr with
    | some f => some (f, ⟨true, w.page * 0x1000000 + 4 * s.rd f, w.value, w.be⟩)
    | none => none

/-- A write that is neither a *_WIN_DATA nor blocked: staged or applied. -/
def State.deliverWord (s : State) (port : Port) (w : PortWrite) : State :=
  if (s.port port).selected && s.stageable w then s.stage port w else s.applyWrite port w

/-- A write of a port reaches its unit: it is staged or takes effect; a *_WIN_DATA write moves the offset at once. -/
def State.deliver (s : State) (port : Port) (w : PortWrite) : State :=
  match s.winDataTarget w with
  | some (f, t) => if s.live w.page then (s.wr f (s.rd f + 1)).deliverWord port t else s
  | none => s.deliverWord port w

/-- Whether a delivery stages: then the unit's clock does not matter. -/
def State.wouldStage (s : State) (port : Port) (w : PortWrite) : Bool :=
  (s.port port).selected && s.stageable (((s.winDataTarget w).map Prod.snd).getD w)

/-- Whether a tag of the port is between its COMMIT and its tick (R98). -/
def PortPath.committing (q : PortPath) : Bool := q.tags.any fun t => t.state == .committing

/-- Whether a downlink queue stalls its writer (R444). -/
def State.slqStallsWrite (s : State) (port : Port) (w : PortWrite) : Bool :=
  if w.bar2 then
    w.page == 0x1A && 0x100000 ≤ w.addr % 0x1000000 && w.addr % 0x1000000 < 0x180000 &&
      s.slqDownStalls port ((w.addr % 0x1000000 - 0x100000) / 0x10000)
  else 0x1A300 ≤ w.addr && w.addr < 0x1A400 && w.addr % 0x20 == 0x08 && s.slqDownStalls port ((w.addr - 0x1A300) / 0x20)

/-- Whether a write waits in the posting buffer: behind a commit, for a clock of its unit that does not yet run and that its work cannot
start, or for a stalled queue (R23, R28, R75, R98, R444). A write to a page that is not yet usable waits for nothing: it is discarded
(R110). -/
def State.blocked (s : State) (port : Port) (w : PortWrite) : Bool :=
  (s.port port).committing ||
    (!s.wouldStage port w && s.live w.page && (!(s.wakePage w.page).pageRuns w.page || s.slqStallsWrite port w))

/-- The oldest posted write is delivered, if nothing holds it. -/
def State.deliverNext (s : State) (port : Port) : State :=
  match (s.port port).posted with
  | [] => s
  | w :: t => if s.blocked port w then s else (s.setPort port { s.port port with posted := t }).deliver port w

/-- The notice of a full posting buffer (R76, R80). -/
def fullNotice : Port → Notice
  | .lrp => HIF_NOTE_WAIT
  | .pcie => HIF_NOTE_CREDIT_HOLD

/-- A write enters the posting buffer; one that finds 64 waiting is not taken, and the sender holds it (R68, R76, R80). -/
def State.post (s : State) (port : Port) (w : PortWrite) : State :=
  let q := s.port port
  if 64 ≤ q.posted.length then s
  else (s.setPort port { q with posted := q.posted ++ [w] }).noticeIf (q.posted.length == 63) (fullNotice port)

/-- Whether a port takes writes: the LRP from 16 cycles after t3 on, PCIe while the HIF page is usable (R110). -/
def State.portTakes (s : State) : Port → Bool
  | .lrp => s.live 0x01 && s.startup.lrpReady
  | .pcie => s.live 0x01

/-- A write is taken: staged at once under a selected tag where nothing waits before it, else posted. -/
def State.takeWrite (s : State) (port : Port) (w : PortWrite) : State :=
  let s := s.wakePort port
  if !s.portTakes port then s
  else if (s.port port).posted.isEmpty && !(s.port port).committing && s.wouldStage port w then s.deliver port w
  else s.post port w

/-- A fence value appears at once where nothing waits before it, else it waits its turn (R74). -/
def State.fenceWrite (s : State) (port : Port) (v : Nat) : State :=
  let s := s.wakePort port
  if !s.portTakes port then s
  else if (s.port port).posted.isEmpty && !(s.port port).committing then s.regWrite port 0x01044 v 15
  else s.post port ⟨false, 0x01044, v, 15⟩

/-! ### BAR2 requests (R79) -/

/-- Whether a word of BAR2 belongs to an uplink queue (R451). -/
def uplinkWord (addr : Nat) : Bool := addr / 0x1000000 == 0x1A && addr % 0x1000000 < 0x100000

/-- Whether the PCIe port owns a packet of the word's queue (R440). -/
def State.ownsPacket (s : State) (addr : Nat) : Bool :=
  ((s.queue (addr % 0x1000000 / 0x10000)).owned.map OwnedPacket.port) == some .pcie

/-- The words of a read request, with the words given; a partial word is read whole. Once the request has read a packet's last word, its
further words are idle words and consume nothing (R439). -/
def State.readWords (s : State) (addr : Nat) (ended : Bool) : List (Nat × Nat) → List Nat × State
  | [] => ([], s)
  | (_, be) :: t =>
    let s := s.noticeIf (be != 15) HIF_NOTE_BAD_ACCESS
    let (v, s') := if ended && uplinkWord addr then (idleWord, s) else s.readBar2 .pcie addr
    let (l, s) := s'.readWords (addr + 4) (ended || uplinkWord addr && s.ownsPacket addr && !s'.ownsPacket addr) t
    (v :: l, s)

/-- One word of a write request: a partial word is discarded. -/
def State.writeWord (s : State) (addr v be : Nat) : State :=
  if be ≠ 15 then s.notice HIF_NOTE_BAD_ACCESS
  else
    let w : PortWrite := ⟨true, addr, v, 15⟩
    if s.pcie.posted.isEmpty && !s.blocked .pcie w then s.deliver .pcie w else s.post .pcie w

/-- The words of a write request in order. -/
def State.writeWords (s : State) (addr : Nat) : List (Nat × Nat) → State
  | [] => s
  | (v, be) :: t => (s.writeWord addr v be).writeWords (addr + 4) t

/-- What a read returns where the spec gives the words no value: a free value for each. -/
def State.freeWords (s : State) (n : Nat) : List Nat × State :=
  match n with
  | 0 => ([], s)
  | n + 1 =>
    let (v, s) := s.draw
    let (l, s) := s.freeWords n
    (v % 2 ^ 32 :: l, s)

/-- The bytes that a request covers, which its first and last byte enables mark (R79). -/
def enabledBytes (words : List (Nat × Nat)) : Nat := (words.map fun w => ((List.range 4).filter (bitAt w.2)).length).sum

/-- A BAR2 request longer than 256 bytes breaks R79: BAD_ACCESS is set, a write is discarded and a read's words are free. DESIGN CHOICE,
log entry 131. -/
def State.bar2Long (s : State) (write : Bool) (n : Nat) : State :=
  let s := s.notice HIF_NOTE_BAD_ACCESS
  if write then s
  else
    let (l, s) := s.freeWords n
    s.setRead .pcie l

/-- A BAR2 request: a write for which the posting buffer has no room is withheld by flow control (R80). DESIGN CHOICE: a request of several
words for which the buffer has room only in part is withheld whole, and CREDIT_HOLD, which says that the buffer is full, stays as it is
(log entry 173). -/
def State.bar2 (s : State) (write : Bool) (addr : Nat) (words : List (Nat × Nat)) : State :=
  let s := s.wakeLink
  if !s.portTakes .pcie then s
  else if 256 < enabledBytes words ∨ 65 < words.length then s.bar2Long write words.length
  else if write then (if s.pcie.posted.length + words.length ≤ 64 then s.writeWords addr words else s)
  else
    let (l, s) := s.readWords addr false words
    s.setRead .pcie l

/-! ### Commits (R97, R98) -/

/-- The tick of a commit, as a count of epoch ticks. -/
def Tag.tick (t : Tag) : Nat := ceilDiv (t.since + 250) 250

/-- A port and a tag number. -/
abbrev TagPlace := Nat × Port × Nat

/-- The tags whose tick has come at the epoch tick count e, those whose COMMIT took effect first before the others, the LRP's first at
one instant. -/
def State.dueTags (s : State) (e : Nat) : List TagPlace :=
  let of := fun (p : Port) => ((List.range 4).filter fun t =>
      ((s.port p).tag t).state == .committing && Nat.ble ((s.port p).tag t).tick e).map
        fun t => (((s.port p).tag t).since, p, t)
  (of .lrp ++ of .pcie).mergeSort fun a b => a.1 ≤ b.1

/-- One of several writes that take effect at one edge: what its unit makes of a window's words, and the checks of metering's
configuration, come after the last of them. -/
def State.applyPart (s : State) (port : Port) (w : PortWrite) : State :=
  if w.bar2 && windowsRW.contains w.page then
    s.working w.page fun s =>
      let off := w.addr % 0x1000000
      (s.hostWrote port true w.addr).winStore w.page off (mergeBytes (s.winWord w.page off) w.value w.be)
  else if !w.bar2 && (emuChannelWord w.addr || emuCircuitWord w.addr) then
    s.effect port w.addr fun s => s.emuStore w.addr (mergeBytes (s.word port w.addr) w.value w.be)
  else s.applyWrite port w

/-- Whether a write clears bits of its word: a word of notices, or one with a W1C field (R10). -/
def PortWrite.clears (w : PortWrite) : Bool :=
  !w.bar2 && (w.addr % 0x1000 == 0x10 || (wordFields w.addr).any fun f => f.access == .w1c)

/-- Whether a word holds nothing but command fields. -/
def commandWord (addr : Nat) : Bool := !(wordFields addr).isEmpty && (wordFields addr).all fun f => f.access == .wo

/-- The turn of a write among several that take effect at one edge: a unit acts on the new values of all of them (R97), so what clears
bits comes first (R11), then what is only stored, then the words whose units act, and the commands last. -/
def PortWrite.turn (w : PortWrite) : Nat :=
  if w.clears then 0
  else if w.bar2 || emuCircuitWord w.addr then 1
  else if commandWord w.addr || w.addr == TIM_STEP_HI.addr then 3
  else if emuChannelWord w.addr || (Sparse.get actBytes w.addr).isSome || w.addr % 0x1000 == 0x14 then 2
  else 1

/-- Writes that take effect together (R97): turn by turn, each turn in order, and then what the units make of the whole. -/
def State.applyTogether (s : State) (l : List (Port × PortWrite)) : State :=
  let inTurn := (List.range 4).flatMap fun k => l.filter fun e => e.2.turn == k
  let emu := (l.filter fun e => !e.2.bar2 && (emuChannelWord e.2.addr || emuCircuitWord e.2.addr) && s.live 0x0D).map fun e => e.2.addr
  let after := (inTurn.foldl (fun s e => s.applyPart e.1 e.2) s).settleWindows s
    ((l.filter fun e => e.2.bar2 && s.live e.2.page).map fun e => e.2.addr)
  emu.foldl State.emuCheck after

/-- TXN_STAT.COMMITS of the pages that a commit changes (R64). -/
def State.countCommit (s : State) (l : List PortWrite) : State :=
  ((l.map PortWrite.page).eraseDups).foldl (fun s p => s.count (TXN_COMMITS p) 1) s

/-- The tag at a place. -/
def State.tagAt (s : State) (e : TagPlace) : Tag := (s.port e.2.1).tag e.2.2

/-- A commit reaches its tick: the tag becomes DONE with the tick's count. Its writes, one that is held for a clock of its unit included,
stand in staged order against the other port's transactions from here on (R96, R98). -/
def State.tagDone (s : State) (e : TagPlace) : State :=
  let t := s.tagAt e
  if t.state ≠ .committing then s
  else
    let s := s.setPort e.2.1 ((s.port e.2.1).setTag e.2.2 fun _ => ⟨.done, t.staged, 0, t.tick % 2 ^ 32, 0⟩)
    t.staged.foldl (fun s w => s.hostWrote e.2.1 w.bar2 w.addr) s

/-- A commit whose tick is a save's snapshot tick belongs to the snapshot (R557). -/
def State.snapshotAt (s : State) (tick : Nat) : State :=
  match s.mrl.saving with
  | some (b, snap) =>
    if snap.epoch = tick then { s with mrl := { s.mrl with saving := some (b, { s.snapshot snap.seq with epoch := tick }) } } else s
  | none => s

/-- The commits of one epoch tick take effect together (R97): those that an earlier one of them has not aborted (R98). A write to a unit
whose clock cannot run yet is held. -/
def State.commitsAt (s : State) (tick : Nat) : State :=
  let due := (s.dueTags tick).filter fun e => (s.tagAt e).tick == tick
  let s := due.foldl State.tagDone s
  let done := due.filter fun e => (s.tagAt e).state == .done
  let l := done.flatMap fun e => (s.tagAt e).staged.map fun w => (e.2.1, w)
  let (now, later) := l.partition fun e => (s.wakePage e.2.page).pageRuns e.2.page
  let s := { s with deferred := s.deferred ++ later }.applyTogether now
  (done.foldl (fun s e => (s.countCommit (s.tagAt e).staged).notice HIF_NOTE_TXN_DONE) s).snapshotAt tick

/-- Every commit whose tick has come at the epoch tick count e takes effect, tick by tick. -/
def State.commitsBy (s : State) (e : Nat) : State :=
  (((s.dueTags e).map fun p => (s.tagAt p).tick).eraseDups).foldl State.commitsAt s

/-- The staged writes held for a unit whose clock now runs take effect, in order (R23, R97). -/
def State.flushDeferred (s : State) : State :=
  let (now, later) := s.deferred.partition fun e => s.pageRuns e.2.page
  { s with deferred := later }.applyTogether now

/-! ### The endpoint (R81, R100, R567) -/

/-- The link leaves L0 and L1. -/
def State.linkDown (s : State) : State :=
  if s.rdB HIF_STATUS_LINK_UP then (s.wr HIF_STATUS_LINK_UP 0).notice HIF_NOTE_LINK_DOWN else s

/-- What the host has set in the configuration space: Memory Space Enable and the addresses of BAR0 and BAR2 (R77, R567). They are kept at
places of no register. -/
abbrev PCIE_MSE : Field := ⟨0x40004, 0, 1, .ro, 0, .cleared⟩
abbrev PCIE_BAR0 : Field := ⟨0x40010, 0, 32, .ro, 0, .cleared⟩
abbrev PCIE_BAR2 : Field := ⟨0x40018, 0, 64, .ro, 0, .cleared⟩

/-- A word of the endpoint's configuration space at a byte offset below 0x40, in the header that PCI Express 3.0 lays out (R77): IDs,
command, class code and revision, BAR0 of 256 KiB and BAR2 of 1 GiB in 64 bits, no other BAR, and Interrupt Pin 0. PRESUMED, log
entry 31. -/
def State.configWord (s : State) (off : Nat) : Nat :=
  match off / 4 with
  | 0 => 0x5C081F9B
  | 1 => 2 * s.rd PCIE_MSE + 4 * s.rd HIF_STATUS_BME
  | 2 => 0x11800003
  | 4 => s.rd PCIE_BAR0 / 2 ^ 18 * 2 ^ 18
  | 6 => s.rd PCIE_BAR2 / 2 ^ 30 * 2 ^ 30 % 2 ^ 32 + 4
  | 7 => s.rd PCIE_BAR2 / 2 ^ 32
  | _ => 0

/-- The endpoint's other figures of R77: the largest payload and read request in bytes, ASPM L0s and L1, and Advanced Error Reporting. -/
def pcieMaxPayload : Nat := 256
def pcieMaxReadRequest : Nat := 512
def pcieAspmL0s : Bool := false
def pcieAspmL1 : Bool := true
def pcieAer : Bool := true

/-- The endpoint's configuration space returns to its reset values. -/
def State.endpointReset (s : State) : State :=
  let s := s.wrAll [(HIF_STATUS_BME, 0), (HIF_STATUS_MSIX_EN, 0), (MSIX_FUNC_MASK, 0), (MSIX_PBA, 0), (PCIE_MSE, 0), (PCIE_BAR0, 0),
    (PCIE_BAR2, 0)]
  (List.range 32).foldl
    (fun s v => s.wrAll [(MSIX_ADDR_LO v, 0), (MSIX_ADDR_HI v, 0), (MSIX_DATA v, 0), (MSIX_MASK v, 1)]) s

/-- The PCIe port's path loses what it held but for the posted writes and the fence. -/
def State.perstPath (s : State) : State :=
  { s with pcie := { PortPath.empty with posted := s.pcie.posted, fence := s.pcie.fence } }

/-- PCIE_PERST_N is asserted: the endpoint, HDM and the PCIe mirror are reset; posted writes stay. -/
def State.perst (s : State) : State :=
  ((s.linkDown.endpointReset).hdmReset.slqPerst.perstPath).notice HIF_NOTE_PERST

/-- The host sets Memory Space Enable and the BARs. -/
def State.barConfig (s : State) (mse : Bool) (bar0 bar2 : Nat) : State :=
  ((s.wrB PCIE_MSE mse).wr PCIE_BAR0 bar0).wr PCIE_BAR2 bar2

/-- The host sets one vector's Mask bit where it is given, and the function's Bus Master Enable, MSI-X Enable and Function Mask: what
was pending and may now leave is sent or dropped (R83). -/
def State.msixConfig (s : State) (v : Option Nat) (masked bme en fmask : Bool) : State :=
  let s := match v with
    | some v => s.wrB (MSIX_MASK v) masked
    | none => s
  let s := if s.rdB HIF_STATUS_BME && !bme && s.rdB HDM_CTRL_EN then s.dmaError else s
  let s := ((s.wrB HIF_STATUS_BME bme).wrB HIF_STATUS_MSIX_EN en).wrB MSIX_FUNC_MASK fmask
  (List.range 32).foldl State.msixRetry s

/-! ### The commands -/

/-- MODE_DECISION_STEP (R35); what waited for a domain that leaves DOZE takes effect. -/
def execModeDecisionStep (s : State) : Host.Outcome State Fault Refusal := .next s.decide.flushDeferred

/-- LRP_WRITE (R13, R68, R76): a byte address, and the byte enables. -/
def execLrpWrite (addr value be : Nat) (s : State) : Host.Outcome State Fault Refusal :=
  .next (s.takeWrite .lrp ⟨false, addr, value, be⟩)

/-- BAR0_WRITE (R6, R78, R80): `whole` says that the access is 32 bits wide; one that is not, or is not aligned, is discarded. -/
def execBar0Write (addr value : Nat) (whole : Bool) (s : State) : Host.Outcome State Fault Refusal :=
  .next (if whole && addr % 4 == 0 then s.takeWrite .pcie ⟨false, addr, value, 15⟩
    else s.wakeLink.working 0x01 fun s => s.notice HIF_NOTE_BAD_ACCESS)

/-- BAR2_ACCESS (R79): the words of a request with their byte enables. -/
def execBar2Access (write : Bool) (addr : Nat) (words : List (Nat × Nat)) (s : State) : Host.Outcome State Fault Refusal :=
  .next (s.bar2 write addr words)

/-- REGISTER_WRITE (R73, R75): the port's oldest posted write. -/
def execRegisterWrite (port : Port) (s : State) : Host.Outcome State Fault Refusal := .next (s.deliverNext port)

/-- HIF_FENCE_WRITE (R74). -/
def execHifFenceWrite (port : Port) (v : Nat) (s : State) : Host.Outcome State Fault Refusal := .next (s.fenceWrite port v)

/-- LRP_CLK_LOST (R71). -/
def execLrpClkLost (s : State) : Host.Outcome State Fault Refusal :=
  .next (s.working 0x01 fun s =>
    if s.rdB HIF_STATUS_LRP_CLK then (s.wr HIF_STATUS_LRP_CLK 0).notice HIF_NOTE_CLK_LOST else s)

/-- LRP_CLK_RESUME (R71, R110): 16 cycles after the first new edge. -/
def execLrpClkResume (s : State) : Host.Outcome State Fault Refusal :=
  .next (s.working 0x01 fun s => { s with startup := { s.startup with lrpReady := true } }.wr HIF_STATUS_LRP_CLK 1)

/-- PCIE_PERST (R81). -/
def execPciePerst (s : State) : Host.Outcome State Fault Refusal := .next (s.working 0x01 State.perst)

/-- PCIE_LINK_UP (R100): the width and the speed as HIF_STATUS codes them. -/
def execPcieLinkUp (width speed : Nat) (s : State) : Host.Outcome State Fault Refusal :=
  .next (s.working 0x01 fun s =>
    s.wrAll [(HIF_STATUS_LINK_UP, 1), (HIF_STATUS_WIDTH, width), (HIF_STATUS_SPEED, speed)])

/-- PCIE_LINK_DOWN (R100). -/
def execPcieLinkDown (s : State) : Host.Outcome State Fault Refusal := .next (s.working 0x01 State.linkDown)

/-- HIF_EOI (R83). -/
def execHifEoi (port : Port) (v : Nat) (s : State) : Host.Outcome State Fault Refusal :=
  .next (s.effect port HIF_EOI_VECTOR.addr fun s => s.eoi v)

/-- MSIX_UNMASK (R77, R83): one vector's Mask bit, if any, and the endpoint's configuration space as the host leaves it: Bus Master
Enable, MSI-X Enable, the Function Mask, Memory Space Enable and the addresses of BAR0 and BAR2. -/
def execMsixUnmask (v : Option Nat) (masked bme en fmask mse : Bool) (bar0 bar2 : Nat) (s : State) : Host.Outcome State Fault Refusal :=
  .next (s.wakeLink.working 0x01 fun s => (s.barConfig mse bar0 bar2).msixConfig v masked bme en fmask)

/-- TXN_OPEN (R92). -/
def execTxnOpen (port : Port) (t : Nat) (s : State) : Host.Outcome State Fault Refusal :=
  .next (s.effect port HIF_TXN_CTRL_OP.addr fun s => s.txnOpen port (t % 4))

/-- TXN_SELECT (R92). -/
def execTxnSelect (port : Port) (t : Nat) (s : State) : Host.Outcome State Fault Refusal :=
  .next (s.effect port HIF_TXN_CTRL_OP.addr fun s => s.txnSelect port (t % 4))

/-- TXN_DESELECT (R92). -/
def execTxnDeselect (port : Port) (s : State) : Host.Outcome State Fault Refusal :=
  .next (s.effect port HIF_TXN_CTRL_OP.addr fun s => s.txnDeselect port)

/-- TXN_COMMIT (R92, R97, R98) at the raw count c. -/
def execTxnCommit (port : Port) (t c : Nat) (s : State) : Host.Outcome State Fault Refusal :=
  .next ((s.reach c).effect port HIF_TXN_CTRL_OP.addr fun s => s.txnCommit port (t % 4))

/-- TXN_ABORT (R92). -/
def execTxnAbort (port : Port) (t : Nat) (s : State) : Host.Outcome State Fault Refusal :=
  .next (s.effect port HIF_TXN_CTRL_OP.addr fun s => s.txnAbort port (t % 4))

/-- TXN_UNDEFINED_OP (R92, R100). -/
def execTxnUndefinedOp (port : Port) (s : State) : Host.Outcome State Fault Refusal :=
  .next (s.effect port HIF_TXN_CTRL_OP.addr fun s => s.txnErr port 2)

/-- TXN_APPLY (R97) at the raw count c: every commit whose tick has come. -/
def execTxnApply (c : Nat) (s : State) : Host.Outcome State Fault Refusal :=
  .next ((s.reach c).working 0x01 fun s => s.commitsBy s.epoch)

/-- TMP_SAMPLE (R293 to R302) at the raw count c: the samples of the epoch tick that c reaches, after every write that a commit at this
tick or an earlier one applies (R300, R304). -/
def execTmpSample (c : Nat) (bad lost : List Nat) (late : Nat) (s : State) : Host.Outcome State Fault Refusal :=
  .next ((s.reach c).working 0x09 fun s => (s.commitsBy (c / 250)).tmpTick (c / 250) bad lost late)

/-- DOMAIN_START_ON_DEMAND (R23, R28). -/
def execDomainStartOnDemand (d : Nat) (s : State) : Host.Outcome State Fault Refusal :=
  .next (if s.inService then { s with domains := putDomain s.domains d .running }.flushDeferred else s)

/-- DOMAIN_IDLE_STOP (R28). -/
def execDomainIdleStop (d : Nat) (s : State) : Host.Outcome State Fault Refusal := .next (s.domainStop d)

/-- SLQ_DOWNLINK_DATA (R443, R444): where the queue stalls its writer, the write stays in the posting path. -/
def execSlqDownlinkData (port : Port) (d w : Nat) (s : State) : Host.Outcome State Fault Refusal :=
  .next (if s.live 0x1A && s.slqDownStalls port d then s.post port ⟨false, SLQ_D_DATA d, w, 15⟩
    else s.effect port (SLQ_D_DATA d) fun s => s.slqDownWord port d w)

/-- SYS_POWER_REQ (R59, R111). -/
def execSysPowerReq (port : Port) (v : Nat) (s : State) : Host.Outcome State Fault Refusal :=
  .next (s.effect port SYS_POWER_REQ.addr fun s => s.powerWrite v)

/-- SYS_RESET_WARM (R101, R102). -/
def execSysResetWarm (port : Port) (key : Nat) (s : State) : Host.Outcome State Fault Refusal :=
  .next (s.effect port SYS_RESET_WARM.addr fun s => s.resetWrite true key)

/-- SIV_MODE_REQ (R524). -/
def execSivModeReq (port : Port) (v : Nat) (s : State) : Host.Outcome State Fault Refusal :=
  .next (s.effect port SIV_MODE_REQ.addr fun s => s.sivModeWrite v)

/-- SIEVE_SLICE_START (R520, R522, R525) at the raw count c: the pieces that cannot be placed now. -/
def execSieveSliceStart (c : Nat) (unplaced : List (Nat × Nat)) (s : State) : Host.Outcome State Fault Refusal :=
  .next ((s.reach c).working 0x1F fun s => s.sliceStart unplaced)

/-- A slice ends. An uncorrectable error that it met while saving is handled by the owner's rule as well (R525, R561); which of the owner's
items it hit is free. -/
def State.sliceEnds (s : State) (region piece found : Nat) : State :=
  let met := found = 2 ∧ s.siv.slices.any fun x => x.region == region && x.piece == piece
  let s := s.sliceEnd region piece found
  if met then
    let (item, s) := s.draw
    s.ownerLoses 1 (region / 4) item
  else s

/-- SIEVE_SLICE_END (R520, R521, R523) at the raw count c. -/
def execSieveSliceEnd (c region piece found : Nat) (s : State) : Host.Outcome State Fault Refusal :=
  .next ((s.reach c).working 0x1F fun s => (s.sliceEnds region piece found).flushDeferred)

/-- SIEVE_ROUND_LIMIT (R527) at the raw count c. -/
def execSieveRoundLimit (c : Nat) (s : State) : Host.Outcome State Fault Refusal :=
  .next ((s.reach c).working 0x1F fun s => if s.sivLimited then s.sivRoundEnd true else s)

/-- RECOVER (R529). -/
def execRecover (port : Port) (region : Nat) (s : State) : Host.Outcome State Fault Refusal :=
  .next (s.effect port SIV_CMD_REGION.addr fun s => s.recover region)

/-- RECOVER_DONE (R529). -/
def execRecoverDone (found : Option SivFailure) (fails : Nat) (s : State) : Host.Outcome State Fault Refusal :=
  .next (s.working 0x1F fun s => s.recoverDone found fails)

/-- CLEAR_FAILED (R526). -/
def execClearFailed (port : Port) (region : Nat) (s : State) : Host.Outcome State Fault Refusal :=
  .next (s.effect port SIV_CMD_REGION.addr fun s => s.clearFailed region)

/-- ROLLBACK (R545). -/
def execRollback (port : Port) (p : Nat) (s : State) : Host.Outcome State Fault Refusal :=
  .next (s.effect port GRG_CMD_OP.addr fun s => s.whenSup fun s => s.grgRollback p)

/-- TRIAL_TIMER_EXPIRY (R119): the processor whose timer runs. It runs on CK_REF, which is off in HOLD and without VIN (R28). -/
def execTrialTimerExpiry (s : State) : Host.Outcome State Fault Refusal :=
  .next (if s.refRuns then
    match s.grg.trial with
    | some (p, _) => s.fallback p
    | none => s
  else s)

end Sys2Proof.Machine
end

