-- ==== Sys2Proof/Machine/Apply.lean ====
section
/-! DEFINITION. The Marl store's part in a start: line t9 of R106 (R559). -/

namespace Sys2Proof.Machine

/-- Words whose stored value is put in place without the action of a host write: requests, steps and searches are not repeated, CLM
takes its stored EN at t9, and the queues take their cells together. -/
def appliedPlainly (addr : Nat) : Bool :=
  addr / 0x1000 == 0x1A ||
  [SIV_MODE_REQ.addr, NTB_FIND_HI.addr, TIM_STEP_HI.addr, TIM_HOST_STATE.addr, TIM_UTC_OFFSET.addr, CLM_CTRL_EN.addr,
    CLM_SWAP_DAYS.addr].contains addr

/-- The value that a bank holds for a stored field; one that it does not list is at its reset value. -/
def StoreBank.field (b : StoreBank) (f : Field) : Nat := (Sparse.get b.regs f.key).getD f.reset

/-- A stored word as a bank holds it. -/
def StoreBank.word (b : StoreBank) (addr : Nat) : Nat :=
  (((wordFields addr).filter Field.storable).map fun f => b.field f * 2 ^ f.lo).sum

/-- The register words that a bank is applied to, in rising order: those whose fields it lists, and those whose fields a host has changed
since the reset, for a bank holds every stored item and one that it does not list is at its reset value. -/
def StoreBank.words (b : StoreBank) (s : State) : List Nat :=
  (((b.regs.map (·.1)) ++ (s.storedRegs.map (·.1))).map fun k => k / 32).mergeSort.eraseDups

/-- One stored register word is applied. -/
def State.applyRegister (s : State) (b : StoreBank) (addr : Nat) : State :=
  if addr % 0x1000 = 0x14 then s.wr (NOTE_EN (addr / 0x1000)) (b.field (NOTE_EN (addr / 0x1000)))
  else if appliedPlainly addr then
    ((wordFields addr).filter Field.storable).foldl (fun s f => s.wr f (b.field f)) s
  else if addr = TIM_RATE.addr then (if s.timHost then s.setRate (signed 32 (b.field TIM_RATE)) else s)
  else if addr = RFE_CHAIN0_FREQ.addr then s.retune 0 (b.field RFE_CHAIN0_FREQ) 0
  else if addr = RFE_CHAIN1_FREQ.addr then s.retune 1 (b.field RFE_CHAIN1_FREQ) 0
  else s.actPage .lrp addr (b.word addr) 0

/-- Whether a window's byte belongs to the stored Drift graph. -/
def graphByte (a : Nat) : Bool := a / 0x1000000 == 0x07 && a % 0x1000000 < 0x300000

/-- The windows' words that a bank's bytes stand in, in rising order, the Drift graph apart. -/
def StoreBank.windowWords (b : StoreBank) : List Nat :=
  ((b.win.filter fun c => !graphByte c.1).map fun c => c.1 / 4 * 4).eraseDups

/-- A window's word as a bank holds it. -/
def StoreBank.windowWord (b : StoreBank) (a : Nat) : Nat :=
  ofOctets ((List.range 4).map fun k => (Memory.read b.win (a + k)).toNat)

/-- One stored window word is applied. -/
def State.applyWindow (s : State) (b : StoreBank) (a : Nat) : State :=
  s.winStore (a / 0x1000000) (a % 0x1000000) (b.windowWord a)

/-- The stored Drift graph is put into bank A. -/
def State.applyGraph (s : State) (b : StoreBank) : State :=
  { s with win := (b.win.filter fun c => graphByte c.1).foldl (fun m c => Memory.write m c.1 c.2) s.win }

/-- A bank's records are applied. -/
def State.applyBank (s : State) (b : StoreBank) : State :=
  let words := b.windowWords
  let s := words.foldl (fun s a => s.applyWindow b a) (s.applyGraph b) |>.settleWindows s words
  let s := (b.words s).foldl (fun s a => s.applyRegister b a) s
  { s with siv := { s.siv with disabled := b.disabled, destructive := b.destructive } }

/-- A bank found invalid (R559): the SEQ that is read from it is free. -/
def State.bankBad (s : State) (b : Nat) : State :=
  let (seq, s) := s.draw
  ({ s with mrl := { s.mrl with banks := putAt 2 none s.mrl.banks b none } }.notice MRL_NOTE_BANK_BAD).silt 0x2102 b (seq % 2 ^ 32)

/-- MRL at t9: `bad` are the banks whose check or symbol code fails, `strange` the records of the bank applied that name an offset which this
firmware does not define: they are skipped and counted (R559). -/
def State.mrlApply (s : State) (bad : List Nat) (strange : Nat) : State :=
  let invalid := (List.range 2).filter fun b => bad.contains b || (s.bank b).isNone
  let s := invalid.foldl State.bankBad s
  match s.newestBank with
  | some b => (s.applyBank b).count MRL_SKIPPED strange
  | none => (s.wr MRL_STATUS_EMPTY 1).silt 0x2103

end Sys2Proof.Machine
end

