-- ==== Sys2Proof/Machine/Start.lean ====
section
/-! DEFINITION. Start-up: the lines of R106 for the three kinds of start, halted starts, the wake from HOLD, the carrier's reset and the
supervisor's watchdog (R50 to R53, R102 to R121, R478, R479, R559); and the end of a FULL test (R528). -/

namespace Sys2Proof.Machine

/-! ### Image choice (R118, R541) -/

/-- Whether the image of a place verifies and is compatible with those of the processors already started. -/
def State.bootGood (s : State) (bad started : List Nat) (p place : Nat) : Bool :=
  !bad.contains place &&
  (match s.image place with
   | none => false
   | some h =>
     started.all fun y =>
       h.reqs.getD y 0 ≤ s.imageVersion (s.runPlace y) && ((s.image (s.runPlace y)).map fun i => i.reqs.getD p 0).getD 0 ≤ h.version)

/-- The bank choice of R118 for a processor: none where neither bank starts. -/
def State.bootChoose (s : State) (bad started : List Nat) (p : Nat) : Option State :=
  let b := s.activeBank p
  let s' :=
    if s.bootGood bad started p (2 * p + b) then some s
    else if s.bootGood bad started p (2 * p + (1 - b)) then
      some ((s.wrAll [(GRG_BANK_TRIAL p, 0), (GRG_BANK_ACTIVE p, 1 - b)]).silt 0x000B (fallbackCode p) (1 - b))
    else none
  s'.map fun s =>
    if s.rdB (GRG_BANK_TRIAL p) then { s with grg := { s.grg with trial := some (p, s.time.raw) } } else s

/-! ### The lines of R106 -/

/-- A line is reached; from its phase on the pages of R110 are usable. -/
def State.atLine (s : State) (n : Nat) (p : Phase) : State :=
  { s with startup := { s.startup with line := n, phase := p } }

/-- t1: PWR_GOOD is high. -/
def State.line1 (s : State) : State := { s with startup := { s.startup with pwrGood := true } }.atLine 1 .inReset

/-- The domains of PLN: CK_PCIE, CK_SWF, CK_MG and CK_TIME (R28). -/
def plnDomains : List Nat := [5, 6, 9, 11]

/-- Every domain runs but those of PLN. -/
def State.allButPln (s : State) : State :=
  { s with domains := plnDomains.foldl (fun l d => putDomain l d .stopped) (s.besideAon .running) }

/-- PLN has locked: its domains start, module time starts with CK_TIME (R406), and what was held for them takes effect (R97). -/
def State.plnLock (s : State) : State := if s.timeRuns then s else s.domainsRun.timeStart.flushDeferred

/-- t2: the clocks run, and module time starts (R406). The run says whether PLN locks later, by t4 at the latest: R28 bounds its lock
and ties it to no line. DESIGN CHOICE, log entry 132. -/
def State.line2 (s : State) (f : StartFound) : State :=
  (if f.plnLate then s.allButPln else s.domainsRun.timeStart).atLine 2 .inReset

/-- t3: RST_N is released, unless the carrier still drives it (R53). SYS_SCRATCH returns after a HOLD entered by request (R104). -/
def State.line3 (s : State) : State :=
  if s.startup.carrierRst then s
  else
    let s := s.atLine 3 .phaseA
    if s.startup.kind = .holdWake ∧ s.startup.holdByRequest then s.wr SYS_SCRATCH s.startup.scratchCopy else s

/-- t4: SUP starts; a pending ERASE is carried out (R502). -/
def State.line4 (s : State) (f : StartFound) : State :=
  let s := s.plnLock
  match s.bootChoose f.badImages [] 0 with
  | none => s.haltStart 5
  | some s =>
    let s := s.atLine 4 .phaseA
    if s.rdB TPR_LATCH_ERASE_PENDING then (s.wr TPR_LATCH_ERASE_PENDING 0).tamperErase else s

/-- The life-cycle word of a start: the valid copy with the higher change count (R121, R122). -/
def State.startLife (s : State) (bad : List Nat) : Option LifeCopy :=
  let ok := fun (i : Nat) => (s.startup.lifeCopies[i]?).filter fun c => c.ok && !bad.contains i
  match ok 0, ok 1 with
  | some a, some b => some (if a.count < b.count then b else a)
  | some a, none => some a
  | none, some b => some b
  | none, none => none

/-- The power request that was held until t5 (R111). -/
def State.presentPower (s : State) : State :=
  match s.startup.heldPower with
  | none => s
  | some v =>
    { s with startup := { s.startup with heldPower := none }, modeReqs := s.modeReqs ++ [⟨.power (powerOf v), 0, 0⟩] }

/-- The kind of a start as record 0x0001 codes it. -/
def StartKind.code : StartKind → Nat
  | .cold => 0
  | .holdWake => 1
  | .warm => 2

/-- An erasure that SCRAPPED began is complete after the start (R126). -/
def State.scrapRest (s : State) : State := { s with mrl := ⟨[none, none], none⟩, hpn := { s.hpn with helper := none, anchor := none } }

/-- What t5 does once the life-cycle state is known: deferred records and the start's own (R113, R513), the mode notice (R112), the
latch notice (R503), an erasure cut short (R126), a paused staging (R540). -/
def State.beginB (s : State) : State :=
  let s := (s.atLine 5 .phaseB).wrAll [(SLT_STATUS_GUARD, 0), (SIV_STATUS_STARTUP_OK, 1)]
  let s := (s.notice SYS_NOTE_MODE).noticeIf (s.rd TPR_LATCH_IN != 0 || s.rd TPR_LATCH_MON != 0) TPR_NOTE_LATCHED
  let s := (s.siltDrain.silt 0x0001 (s.rd SYS_RESET_CAUSE_CAUSE) s.startup.kind.code (s.rd SYS_RESET_CAUSE_WARM_COUNT)).siltDrain
  let s := if s.modes.life = .scrapped then s.scrapRest else s
  let s := match s.grg.header with
    | some h => s.wrAll [(GRG_STAGE_STAT_STATE, 4), (GRG_STAGE_STAT_TARGET, h.target)]
    | none => s
  s.presentPower

/-- The life-cycle state that the start has found (R111, R123). -/
def State.foundLife (s : State) (v : Life) : State :=
  { s with modes := { s.modes with life := v }, startup := { s.startup with scrapped := v == Life.scrapped } }

/-- t5: the start-up Sieve pass has ended; SYS_MODE becomes valid (R111, R114, R115). Tamper raised before it halts the start here
(R121). -/
def State.line5 (s : State) (f : StartFound) : State :=
  match f.sieve with
  | some x => (s.sivReport x 0 f.sieveFails).haltStart 1
  | none =>
    match s.startLife f.badLife with
    | some c =>
      let s := ((s.foundLife c.life).wr HPN_LC_COUNT c.count).beginB
      if s.modes.tamper = .alarm then s.tamperHalt else s
    | none => (s.foundLife .returned).beginB.haltStart 4

/-- t6: CK_AON runs, and the first complete sampling round is CLEAR (R116, R121, R503). An oscillator stop is recorded (R425). -/
def State.line6 (s : State) (f : StartFound) : State :=
  let s := { s with domains := putDomain s.domains 0 .running }.flushDeferred
  let s := if s.cal.osfMark then ({ s with cal := { s.cal with osfMark := false } }.notice RTC_NOTE_OSF).silt 0x1901 else s
  if f.tampered then s.tamperHalt else s.atLine 6 .phaseB

/-- t7: the root (R116, R478, R479). SCRAPPED reads no region; the first start in BLANK writes the helper data. -/
def State.line7 (s : State) (f : StartFound) : State :=
  if s.modes.life = .scrapped then s.atLine 7 .phaseB
  else
    match s.hpn.helper with
    | none =>
      if s.modes.life = .blank then
        ({ s with hpn := { s.hpn with helper := some enrolled } }.deriveSecrets Config.root).atLine 7 .phaseB
      else s.haltStart 3
    | some h =>
      match h.recover f.badHelper f.flips with
      | none => s.haltStart 3
      | some (copy, root) => ((s.wrAll [(HPN_PUF_FLIPS, f.flips), (HPN_PUF_COPY, copy)]).deriveSecrets root).atLine 7 .phaseB

/-- t8: the slots are checked and unsealed, and a deployment bundle is opened (R117, R484, R496). Where tamper has cleared the island
after t7, nothing is unsealed and HPN stays not READY (R121, R501). -/
def State.line8 (s : State) (f : StartFound) : State :=
  let s := s.atLine 8 .phaseC
  if s.modes.life = .scrapped ∨ s.hpn.island.isNone then s
  else
    let s := (s.setSlots s.hpn.slots).wrB HPN_STATUS_BUNDLE (!s.hpn.bundle.isEmpty)
    (((s.unsealSlots f.badSlots).wr HPN_STATUS_READY 1).openBundle).newNonce

/-- t9: the buckets are restored from MRAM and aged (R147); then the stored configuration is applied to every unit (R559), and so is what
units resume from MRAM (R172, R296, R355). -/
def State.line9 (s : State) (f : StartFound) : State :=
  let was := s.emur
  let s := ((s.atLine 9 .phaseC).budgetsRestore).mrlApply f.badBanks f.strange
  ((s.macStart f.asnUnknown).tmpStart.emuStart).emurStart was

/-- t10: RSQ starts, then PRP; what RSQ's choice did stands where PRP halts the start (R118). -/
def State.line10 (s : State) (f : StartFound) : State :=
  match s.bootChoose f.badImages [0] 1 with
  | none => s.haltStart 5
  | some s =>
    match s.bootChoose f.badImages [0, 1] 2 with
    | none => s.haltStart 5
    | some s => s.atLine 10 .phaseC

/-- What asks for a mode axis at t11: a staging that was paused, and an image on trial (R540, R543). -/
def State.askGrog (s : State) : State :=
  let ask := fun (s : State) (q : ModeReq) => { s with modeReqs := s.modeReqs ++ [q] }
  let s := if s.grg.header.isSome then ask s ⟨.grog .staging, 0, 0⟩ else s
  match s.trialProcessor with
  | some p => ask s ⟨.grog .activating, p, 1⟩
  | none => s

/-- t11: READY (R109, R112, R113). -/
def State.line11 (s : State) (f : StartFound) : State :=
  let s := s.atLine 11 .ready
  let s := { s with startup := { s.startup with watchdogRuns := 0, activationHold := false } }.wr SYS_STATUS_READY 1
  (((s.dptFollow.notice SYS_NOTE_MODE).silt 0x0002 f.elapsed).clmReady).askGrog

/-- Whether a start of the kind is in progress. -/
def State.starting (s : State) (k : StartKind) : Bool :=
  s.startup.kind == k &&
  match s.startup.phase with
  | .inReset => true
  | .phaseA => true
  | .phaseB => true
  | .phaseC => true
  | _ => false

/-- Line n, if it is the next one of a start of the kind. -/
def State.runLine (k : StartKind) (f : StartFound) (s : State) (n : Nat) : State :=
  if !s.starting k || s.startup.line + 1 != n then s
  else
    match n with
    | 1 => s.line1
    | 2 => s.line2 f
    | 3 => s.line3
    | 4 => s.line4 f
    | 5 => s.line5 f
    | 6 => s.line6 f
    | 7 => s.line7 f
    | 8 => s.line8 f
    | 9 => s.line9 f
    | 10 => s.line10 f
    | 11 => s.line11 f
    | _ => s

/-- A start of the kind runs on to line n. -/
def State.runTo (s : State) (k : StartKind) (f : StartFound) (n : Nat) : State :=
  (List.range n).foldl (fun s i => s.runLine k f (i + 1)) s

/-! ### What begins a start (R102, R106 to R108) -/

/-- VIN rises on an unpowered module; a start in progress goes on. -/
def State.coldStart (s : State) (f : StartFound) (n : Nat) : State :=
  let s := if s.startup.phase = .unpowered then
      { s with startup := { s.startup with vin := true, pwrGood := false } }.moduleReset .cold 0
    else s
  s.runTo .cold f n

/-- A wake source ends HOLD (R59, R60): VIN rises again, or with VIN present the alarm or RST_N that is noted. -/
def State.holdWake (s : State) (vinRise : Bool) (f : StartFound) (n : Nat) : State :=
  let s :=
    if s.startup.phase ≠ .hold then s
    else if vinRise && !s.startup.vin then
      { s with startup := { s.startup with vin := true, pwrGood := false } }.moduleReset .holdWake 1
    else
      match s.startup.vin, s.startup.wake with
      | true, some c => s.moduleReset .holdWake c
      | _, _ => s
  s.runTo .holdWake f n

/-! ### RST_N and the watchdog (R50 to R53, R121) -/

/-- The carrier drives RST_N low for 1 µs or more; a drive that begins in HOLD or without VIN lasts into the start that follows (R53). -/
def State.rstPulse (s : State) : State :=
  let low := fun (s : State) => { s with startup := { s.startup with carrierRst := true } }
  match s.startup.phase with
  | .unpowered => low s
  | .hold => low s
  | .inReset => low s
  | _ => low (s.warmReset 3)

/-- The carrier releases RST_N: where a start waits for it at t3, it goes on. -/
def State.rstRelease (s : State) : State :=
  let s := { s with startup := { s.startup with carrierRst := false } }
  if s.startup.phase = .inReset ∧ s.startup.line = 2 then s.line3 else s

/-- A line has exceeded twice its bound: SUP's watchdog resets, or the third start with cause 5 in a row halts. -/
def State.watchdog (s : State) (line : Nat) : State :=
  if !(s.starting .cold || s.starting .holdWake || s.starting .warm) then s
  else
    let n := s.startup.watchdogRuns + 1
    if 3 ≤ s.startup.watchdogRuns then (s.silt 0x0008 line n).haltStart 6
    else (s.warmReset 5).silt 0x0008 line n

/-! ### The end of a FULL test (R528) -/

/-- The fields that a FULL test leaves: those held in MRAM and in the always-on domain, the counts carried across every start, and what
the die's temperature says (R62). -/
def fullKept : List Field :=
  (allFields.filter fun f => f.survival == .stored || f.survival == .alwaysOn) ++
  [SEQ_COUNT 0x07, SEQ_COUNT 0x09, SEQ_COUNT 0x0D, SYS_TEMP_DIE, SYS_TEMP_HOT, SYS_TEMP_PA_INHIBIT, RFE_STATUS_INHIBIT]

/-- The phase after a FULL test: what was usable stays so, and a halted start stays one (R110, R120). -/
def Phase.afterFull : Phase → Phase
  | .phaseB => .tested false false
  | .phaseC => .tested true false
  | .ready => .tested true true
  | p => p

/-- t3 of FULL: `found` is the first failure, `fails` the number of failures, `regions` that of failed regions, `uncleared` that of
pieces that were not tested because a secret could not be cleared (R523). -/
def State.fullDone (s : State) (found : Option SivFailure) (fails regions uncleared : Nat) : State :=
  if s.modes.sieve ≠ .full then s
  else
    let s := match found with
      | some x => s.sivReport x 2 fails
      | none => s
    let s := (((s.sivRecord 0x1F04 (949 - uncleared) regions 0 0).setSieve .off).notice SIV_NOTE_FULL_DONE).sivClearAll fullKept
    { s with startup := { s.startup with phase := s.startup.phase.afterFull } }.wr SYS_STATUS_READY 0

/-! ### The commands -/

/-- COLD_START (R106): runs to line t_n. -/
def execColdStart (f : StartFound) (n : Nat) (s : State) : Host.Outcome State Fault Refusal := .next (s.coldStart f n)

/-- HOLD_WAKE (R60, R107): `vinRise` says that VIN has risen above 5.8 V again; runs to line t_n. -/
def execHoldWake (vinRise : Bool) (f : StartFound) (n : Nat) (s : State) : Host.Outcome State Fault Refusal :=
  .next (s.holdWake vinRise f n)

/-- WARM_START (R108): after a warm reset, runs to line t_n. -/
def execWarmStart (f : StartFound) (n : Nat) (s : State) : Host.Outcome State Fault Refusal := .next (s.runTo .warm f n)

/-- RST_N_PULSE (R50, R53, R121). -/
def execRstNPulse (s : State) : Host.Outcome State Fault Refusal := .next s.rstPulse

/-- RST_N_HOLD_WAKE (R51, R53): noted as the wake source while VIN is present; the carrier drives the line until RST_N_RELEASE. -/
def execRstNHoldWake (s : State) : Host.Outcome State Fault Refusal :=
  .next (if s.startup.phase = .hold ∧ s.startup.vin ∧ s.startup.wake = none then
    { s with startup := { s.startup with wake := some 3, carrierRst := true } } else s)

/-- RST_N_RELEASE (R52, R53). -/
def execRstNRelease (s : State) : Host.Outcome State Fault Refusal := .next s.rstRelease

/-- SUP_WATCHDOG_RESET (R121): the line that overran. -/
def execSupWatchdogReset (line : Nat) (s : State) : Host.Outcome State Fault Refusal := .next (s.watchdog line)

/-- SIEVE_FULL_DONE (R528). -/
def execSieveFullDone (found : Option SivFailure) (fails regions uncleared : Nat) (s : State) : Host.Outcome State Fault Refusal :=
  .next (s.working 0x1F fun s => s.fullDone found fails regions uncleared)

end Sys2Proof.Machine
end

