-- ==== Sys2Proof/Machine/Dispatch.lean ====
section
/-! DEFINITION. The dispatch of the commands: one arm for each constructor, one meaning for each arm. -/

namespace Sys2Proof.Machine

def exec (i : Instr) (s : State) : Host.Outcome State Fault Refusal :=
  match i with
  | .modeDecisionStep => Sys2Proof.Machine.execModeDecisionStep s
  | .domainStartOnDemand d => Sys2Proof.Machine.execDomainStartOnDemand d s
  | .domainIdleStop d => Sys2Proof.Machine.execDomainIdleStop d s
  | .coldStart f n => Sys2Proof.Machine.execColdStart f n s
  | .holdWake vinRise f n => Sys2Proof.Machine.execHoldWake vinRise f n s
  | .warmStart f n => Sys2Proof.Machine.execWarmStart f n s
  | .vinLoss cut => Sys2Proof.Machine.execVinLoss cut s
  | .vbakLoss => Sys2Proof.Machine.execVbakLoss s
  | .rstNPulse => Sys2Proof.Machine.execRstNPulse s
  | .rstNHoldWake => Sys2Proof.Machine.execRstNHoldWake s
  | .supWatchdogReset line => Sys2Proof.Machine.execSupWatchdogReset line s
  | .sysResetWarm port key => Sys2Proof.Machine.execSysResetWarm port key s
  | .sysPowerReq port v => Sys2Proof.Machine.execSysPowerReq port v s
  | .contactorDriverLatch k => Sys2Proof.Machine.execContactorDriverLatch k s
  | .dieHot t => Sys2Proof.Machine.execDieHot t s
  | .paInhibit t => Sys2Proof.Machine.execPaInhibit t s
  | .paInhibitEnd t => Sys2Proof.Machine.execPaInhibitEnd t s
  | .lrpWrite addr value be => Sys2Proof.Machine.execLrpWrite addr value be s
  | .bar0Write addr value whole => Sys2Proof.Machine.execBar0Write addr value whole s
  | .bar0Read addr whole => Sys2Proof.Machine.execBar0Read addr whole s
  | .bar2Access write addr words => Sys2Proof.Machine.execBar2Access write addr words s
  | .registerWrite port => Sys2Proof.Machine.execRegisterWrite port s
  | .seqWordRead port b => Sys2Proof.Machine.execSeqWordRead port b s
  | .blockLastWordRead port b => Sys2Proof.Machine.execBlockLastWordRead port b s
  | .rcRead port addr => Sys2Proof.Machine.execRcRead port addr s
  | .sysEpochLoRead port => Sys2Proof.Machine.execSysEpochLoRead port s
  | .hifFenceWrite port v => Sys2Proof.Machine.execHifFenceWrite port v s
  | .lrpClkLost => Sys2Proof.Machine.execLrpClkLost s
  | .lrpClkResume => Sys2Proof.Machine.execLrpClkResume s
  | .pciePerst => Sys2Proof.Machine.execPciePerst s
  | .pcieLinkDown => Sys2Proof.Machine.execPcieLinkDown s
  | .hifEoi port v => Sys2Proof.Machine.execHifEoi port v s
  | .msixUnmask v masked bme en fmask mse bar0 bar2 => Sys2Proof.Machine.execMsixUnmask v masked bme en fmask mse bar0 bar2 s
  | .txnOpen port t => Sys2Proof.Machine.execTxnOpen port t s
  | .txnSelect port t => Sys2Proof.Machine.execTxnSelect port t s
  | .txnDeselect port => Sys2Proof.Machine.execTxnDeselect port s
  | .txnCommit port t c => Sys2Proof.Machine.execTxnCommit port t c s
  | .txnAbort port t => Sys2Proof.Machine.execTxnAbort port t s
  | .txnUndefinedOp port => Sys2Proof.Machine.execTxnUndefinedOp port s
  | .txnApply c => Sys2Proof.Machine.execTxnApply c s
  | .trialTimerExpiry => Sys2Proof.Machine.execTrialTimerExpiry s
  | .chainRetune port k freq lost => Sys2Proof.Machine.execChainRetune port k freq lost s
  | .adcClipAgcStep k att lost => Sys2Proof.Machine.execAdcClipAgcStep k att lost s
  | .agcStep k att inFrame => Sys2Proof.Machine.execAgcStep k att inFrame s
  | .chnFrameReceived n sfd ends rssi lqi fcsOk m => Sys2Proof.Machine.execChnFrameReceived n sfd ends rssi lqi fcsOk m s
  | .regionChange => Sys2Proof.Machine.execRegionChange s
  | .budgetBucketAdvance e ch => Sys2Proof.Machine.execBudgetBucketAdvance e ch s
  | .txFrameStart c lost => Sys2Proof.Machine.execTxFrameStart c lost s
  | .macQueueEnqueue m seq => Sys2Proof.Machine.execMacQueueEnqueue m seq s
  | .tschSlotPlan c inFrame => Sys2Proof.Machine.execTschSlotPlan c inFrame s
  | .macRealign port => Sys2Proof.Machine.execMacRealign port s
  | .macFrameReceived lost => Sys2Proof.Machine.execMacFrameReceived lost s
  | .partnerBeaconMiss => Sys2Proof.Machine.execPartnerBeaconMiss s
  | .joinTimeout idx => Sys2Proof.Machine.execJoinTimeout idx s
  | .ackWaitExpiry n => Sys2Proof.Machine.execAckWaitExpiry n s
  | .ntbProvision port idx => Sys2Proof.Machine.execNtbProvision port idx s
  | .ntbBlock port idx => Sys2Proof.Machine.execNtbBlock port idx s
  | .ntbUnblock port idx => Sys2Proof.Machine.execNtbUnblock port idx s
  | .ntbFree port idx => Sys2Proof.Machine.execNtbFree port idx s
  | .ntbClearHealth port idx => Sys2Proof.Machine.execNtbClearHealth port idx s
  | .ntbFind port w => Sys2Proof.Machine.execNtbFind port w s
  | .nodeEntryWrite port off w => Sys2Proof.Machine.execNodeEntryWrite port off w s
  | .claimHeartbeat => Sys2Proof.Machine.execClaimHeartbeat s
  | .sprSubmission => Sys2Proof.Machine.execSprSubmission s
  | .sprEnableWrite port en => Sys2Proof.Machine.execSprEnableWrite port en s
  | .drfEventIntake v instant strength sensor => Sys2Proof.Machine.execDrfEventIntake v instant strength sensor s
  | .drfInject port v age => Sys2Proof.Machine.execDrfInject port v age s
  | .drfEvaluation c dur mem => Sys2Proof.Machine.execDrfEvaluation c dur mem s
  | .drfGraphSwap port => Sys2Proof.Machine.execDrfGraphSwap port s
  | .drfSwapCheckDone => Sys2Proof.Machine.execDrfSwapCheckDone s
  | .drfEnableWrite port en => Sys2Proof.Machine.execDrfEnableWrite port en s
  | .schTick => Sys2Proof.Machine.execSchTick s
  | .schHighWaterSave => Sys2Proof.Machine.execSchHighWaterSave s
  | .tmpSample c bad lost late => Sys2Proof.Machine.execTmpSample c bad lost late s
  | .tmpMeasSlot port k => Sys2Proof.Machine.execTmpMeasSlot port k s
  | .tmpSlotDisable k => Sys2Proof.Machine.execTmpSlotDisable k s
  | .shapingPass c dur late => Sys2Proof.Machine.execShapingPass c dur late s
  | .dalFrameTx k collision => Sys2Proof.Machine.execDalFrameTx k collision s
  | .dalRefresh k => Sys2Proof.Machine.execDalRefresh k s
  | .dalBusDown k => Sys2Proof.Machine.execDalBusDown k s
  | .dalBusUp k => Sys2Proof.Machine.execDalBusUp k s
  | .dalEventReceived k frame instant => Sys2Proof.Machine.execDalEventReceived k frame instant s
  | .dalRawRequest port k bits24 twice answer prio => Sys2Proof.Machine.execDalRawRequest port k bits24 twice answer prio s
  | .dalRawComplete answer bad => Sys2Proof.Machine.execDalRawComplete answer bad s
  | .emuSample c bits => Sys2Proof.Machine.execEmuSample c bits s
  | .emuChannelFault k => Sys2Proof.Machine.execEmuChannelFault k s
  | .emuChannelFaultEnd k => Sys2Proof.Machine.execEmuChannelFaultEnd k s
  | .emuZcTimeout k => Sys2Proof.Machine.execEmuZcTimeout k s
  | .emuAccumulatorSave => Sys2Proof.Machine.execEmuAccumulatorSave s
  | .emuClear port c => Sys2Proof.Machine.execEmuClear port c s
  | .emurBoundarySnapshot c => Sys2Proof.Machine.execEmurBoundarySnapshot c s
  | .emurEstimateTick c => Sys2Proof.Machine.execEmurEstimateTick c s
  | .emurWindowClose c g => Sys2Proof.Machine.execEmurWindowClose c g s
  | .etpFrameReceived k c len f fcsOk ns => Sys2Proof.Machine.execEtpFrameReceived k c len f fcsOk ns s
  | .etpFrameTransmit k c ns ecc => Sys2Proof.Machine.execEtpFrameTransmit k c ns ecc s
  | .pauseTimerExpiry k c => Sys2Proof.Machine.execPauseTimerExpiry k c s
  | .pauseRepeat k => Sys2Proof.Machine.execPauseRepeat k s
  | .lpiEntry k rx => Sys2Proof.Machine.execLpiEntry k rx s
  | .lpiWake k rx => Sys2Proof.Machine.execLpiWake k rx s
  | .swfSpeedStep load100 load1 => Sys2Proof.Machine.execSwfSpeedStep load100 load1 s
  | .etpLinkChange k up speed => Sys2Proof.Machine.execEtpLinkChange k up speed s
  | .etpModeWrite port k mode => Sys2Proof.Machine.execEtpModeWrite port k mode s
  | .etpFwdStateWrite port k w => Sys2Proof.Machine.execEtpFwdStateWrite port k w s
  | .fdbAgeExpiry c => Sys2Proof.Machine.execFdbAgeExpiry c s
  | .fdbInsert port vid => Sys2Proof.Machine.execFdbInsert port vid s
  | .fdbDelete port vid => Sys2Proof.Machine.execFdbDelete port vid s
  | .fdbFlushPort port k => Sys2Proof.Machine.execFdbFlushPort port k s
  | .fdbFlushInstance port idx => Sys2Proof.Machine.execFdbFlushInstance port idx s
  | .fdbFlushAll port => Sys2Proof.Machine.execFdbFlushAll port s
  | .fdbLookup port vid => Sys2Proof.Machine.execFdbLookup port vid s
  | .mdioC45Address port c45 phy reg => Sys2Proof.Machine.execMdioC45Address port c45 phy reg s
  | .mdioWrite port c45 phy reg => Sys2Proof.Machine.execMdioWrite port c45 phy reg s
  | .mdioRead port c45 phy reg => Sys2Proof.Machine.execMdioRead port c45 phy reg s
  | .mdioC22Read port c45 phy reg => Sys2Proof.Machine.execMdioC22Read port c45 phy reg s
  | .mdioDone data => Sys2Proof.Machine.execMdioDone data s
  | .hdmTxTailWrite port r v => Sys2Proof.Machine.execHdmTxTailWrite port r v s
  | .hdmTxFrame r descs data readErr => Sys2Proof.Machine.execHdmTxFrame r descs data readErr s
  | .hdmRxDeliver r bufs ecc => Sys2Proof.Machine.execHdmRxDeliver r bufs ecc s
  | .hdmModDelayExpiry tx r => Sys2Proof.Machine.execHdmModDelayExpiry tx r s
  | .hdmDmaError => Sys2Proof.Machine.execHdmDmaError s
  | .ptpSyncReceived k sender senderPort domain seq rx origin corr twoStep => Sys2Proof.Machine.execPtpSyncReceived k sender senderPort domain seq rx origin corr twoStep s
  | .ptpAnnounceReceived k a => Sys2Proof.Machine.execPtpAnnounceReceived k a s
  | .announceTimeout => Sys2Proof.Machine.execAnnounceTimeout s
  | .holdoverExpiry => Sys2Proof.Machine.execHoldoverExpiry s
  | .ptpMessageTx k kind seq ns => Sys2Proof.Machine.execPtpMessageTx k kind seq ns s
  | .timHostStateWrite port v => Sys2Proof.Machine.execTimHostStateWrite port v s
  | .timRateWrite port w => Sys2Proof.Machine.execTimRateWrite port w s
  | .timStepHiWrite port w => Sys2Proof.Machine.execTimStepHiWrite port w s
  | .timCapture port => Sys2Proof.Machine.execTimCapture port s
  | .timNowLoRead port => Sys2Proof.Machine.execTimNowLoRead port s
  | .timTsPop port count => Sys2Proof.Machine.execTimTsPop port count s
  | .ppsOutPulse c => Sys2Proof.Machine.execPpsOutPulse c s
  | .ppsInEdge falling c => Sys2Proof.Machine.execPpsInEdge falling c s
  | .rtcSecondRollover => Sys2Proof.Machine.execRtcSecondRollover s
  | .rtcSetCount port => Sys2Proof.Machine.execRtcSetCount port s
  | .rtcSetFields port => Sys2Proof.Machine.execRtcSetFields port s
  | .rtcTrimWindowEnd c => Sys2Proof.Machine.execRtcTrimWindowEnd c s
  | .oscillatorStopped => Sys2Proof.Machine.execOscillatorStopped s
  | .slqPacketComplete q kind prio pad words carry => Sys2Proof.Machine.execSlqPacketComplete q kind prio pad words carry s
  | .slqStallResume q => Sys2Proof.Machine.execSlqStallResume q s
  | .slqUplinkRead port q spoiled => Sys2Proof.Machine.execSlqUplinkRead port q spoiled s
  | .slqDrop port q => Sys2Proof.Machine.execSlqDrop port q s
  | .slqMark port q => Sys2Proof.Machine.execSlqMark port q s
  | .slqRewind port q => Sys2Proof.Machine.execSlqRewind port q s
  | .slqClearMark port q => Sys2Proof.Machine.execSlqClearMark port q s
  | .slqClrMax port q => Sys2Proof.Machine.execSlqClrMax port q s
  | .slqFlush port q => Sys2Proof.Machine.execSlqFlush port q s
  | .slqDownlinkData port d w => Sys2Proof.Machine.execSlqDownlinkData port d w s
  | .slqDownlinkCommit port d len => Sys2Proof.Machine.execSlqDownlinkCommit port d len s
  | .slqAbort port d => Sys2Proof.Machine.execSlqAbort port d s
  | .slqCellsWrite port q n => Sys2Proof.Machine.execSlqCellsWrite port q n s
  | .slqTimeout q => Sys2Proof.Machine.execSlqTimeout q s
  | .slqEnableWrite port en => Sys2Proof.Machine.execSlqEnableWrite port en s
  | .heartbeat c => Sys2Proof.Machine.execHeartbeat c s
  | .biduesFrameReceived f => Sys2Proof.Machine.execBiduesFrameReceived f s
  | .query f => Sys2Proof.Machine.execQuery f s
  | .answer f => Sys2Proof.Machine.execAnswer f s
  | .swapReq f => Sys2Proof.Machine.execSwapReq f s
  | .swapAck f => Sys2Proof.Machine.execSwapAck f s
  | .swapNak f => Sys2Proof.Machine.execSwapNak f s
  | .resign f => Sys2Proof.Machine.execResign f s
  | .biduesLinkLost => Sys2Proof.Machine.execBiduesLinkLost s
  | .comparatorLoad => Sys2Proof.Machine.execComparatorLoad s
  | .startWaitExpiry => Sys2Proof.Machine.execStartWaitExpiry s
  | .queryWaitExpiry => Sys2Proof.Machine.execQueryWaitExpiry s
  | .swapAckTimeout => Sys2Proof.Machine.execSwapAckTimeout s
  | .handover port => Sys2Proof.Machine.execHandover port s
  | .take port => Sys2Proof.Machine.execTake port s
  | .epochReset port => Sys2Proof.Machine.execEpochReset port s
  | .clmQuery port => Sys2Proof.Machine.execClmQuery port s
  | .periodicSwap => Sys2Proof.Machine.execPeriodicSwap s
  | .revertSettleExpiry => Sys2Proof.Machine.execRevertSettleExpiry s
  | .clmEnableWrite port en => Sys2Proof.Machine.execClmEnableWrite port en s
  | .quietTableHour => Sys2Proof.Machine.execQuietTableHour s
  | .keyLoad => Sys2Proof.Machine.execKeyLoad s
  | .keyDerive => Sys2Proof.Machine.execKeyDerive s
  | .keyRotate => Sys2Proof.Machine.execKeyRotate s
  | .keyErase => Sys2Proof.Machine.execKeyErase s
  | .lcRequest => Sys2Proof.Machine.execLcRequest s
  | .keyQuery => Sys2Proof.Machine.execKeyQuery s
  | .keyIslandError => Sys2Proof.Machine.execKeyIslandError s
  | .tamperSamplingRound opened hot busy => Sys2Proof.Machine.execTamperSamplingRound opened hot busy s
  | .tamperMonitorTrip m aon busy => Sys2Proof.Machine.execTamperMonitorTrip m aon busy s
  | .tprCfgWrite port mon w => Sys2Proof.Machine.execTprCfgWrite port mon w s
  | .siltEvent code p0 p1 p2 p3 => Sys2Proof.Machine.execSiltEvent code p0 p1 p2 p3 s
  | .siltRecordWrite => Sys2Proof.Machine.execSiltRecordWrite s
  | .sltClear port key => Sys2Proof.Machine.execSltClear port key s
  | .sivModeReq port v => Sys2Proof.Machine.execSivModeReq port v s
  | .sieveSliceStart c unplaced => Sys2Proof.Machine.execSieveSliceStart c unplaced s
  | .sieveSliceEnd c region piece found => Sys2Proof.Machine.execSieveSliceEnd c region piece found s
  | .sieveRoundLimit c => Sys2Proof.Machine.execSieveRoundLimit c s
  | .sieveFullDone found fails regions uncleared => Sys2Proof.Machine.execSieveFullDone found fails regions uncleared s
  | .recover port region => Sys2Proof.Machine.execRecover port region s
  | .recoverDone found fails => Sys2Proof.Machine.execRecoverDone found fails s
  | .clearFailed port region => Sys2Proof.Machine.execClearFailed port region s
  | .grgHeader => Sys2Proof.Machine.execGrgHeader s
  | .grgBlock => Sys2Proof.Machine.execGrgBlock s
  | .grgAbandon => Sys2Proof.Machine.execGrgAbandon s
  | .grgVerify => Sys2Proof.Machine.execGrgVerify s
  | .grgIdleLimit => Sys2Proof.Machine.execGrgIdleLimit s
  | .activate port p => Sys2Proof.Machine.execActivate port p s
  | .confirm port p => Sys2Proof.Machine.execConfirm port p s
  | .rollback port p => Sys2Proof.Machine.execRollback port p s
  | .campaign port => Sys2Proof.Machine.execCampaign port s
  | .campaignOffer => Sys2Proof.Machine.execCampaignOffer s
  | .campaignQueryWait => Sys2Proof.Machine.execCampaignQueryWait s
  | .nodeActivate port => Sys2Proof.Machine.execNodeActivate port s
  | .stopCampaign port => Sys2Proof.Machine.execStopCampaign port s
  | .bootromContainer b data failed => Sys2Proof.Machine.execBootromContainer b data failed s
  | .save port => Sys2Proof.Machine.execSave port s
  | .mrlAutoSave => Sys2Proof.Machine.execMrlAutoSave s
  | .mrlSaveDone ok => Sys2Proof.Machine.execMrlSaveDone ok s
  | .clear port key => Sys2Proof.Machine.execClear port key s
  | .itgScrub m found => Sys2Proof.Machine.execItgScrub m found s
  | .txFrameEnd c at_ load => Sys2Proof.Machine.execTxFrameEnd c at_ load s
  | .rstNRelease => Sys2Proof.Machine.execRstNRelease s
  | .winDataRead port page => Sys2Proof.Machine.execWinDataRead port page s
  | .macAsnLoRead port => Sys2Proof.Machine.execMacAsnLoRead port s
  | .schHighLoRead port => Sys2Proof.Machine.execSchHighLoRead port s
  | .etpBytesLoRead port k tx => Sys2Proof.Machine.execEtpBytesLoRead port k tx s
  | .pcieLinkUp width speed => Sys2Proof.Machine.execPcieLinkUp width speed s
  | .dieHotEnd t => Sys2Proof.Machine.execDieHotEnd t s
  | .hdmRxTailWrite port r v => Sys2Proof.Machine.execHdmRxTailWrite port r v s
  | .ptpFollowUpReceived k sender senderPort domain seq origin corr => Sys2Proof.Machine.execPtpFollowUpReceived k sender senderPort domain seq origin corr s
  | .ptpDelayReqReceived k domain seq rx => Sys2Proof.Machine.execPtpDelayReqReceived k domain seq rx s
  | .ptpDelayRespReceived k sender senderPort domain seq t4 corr => Sys2Proof.Machine.execPtpDelayRespReceived k sender senderPort domain seq t4 corr s
  | .calendarFractionAdvance => Sys2Proof.Machine.execCalendarFractionAdvance s

end Sys2Proof.Machine
end

