-- ==== Sys2Proof/Safety.lean ====
section
/-! DEFINITION. What the statements call safe: the canonical forms, and the invariant that every step keeps. -/

namespace Sys2Proof

open Machine

/-- The register store is in its canonical form: its keys rise, so that equal registers are equal data. -/
def RegsRising (s : State) : Prop := Sparse.rising s.regs = true

/-- The windows' memory is in its canonical form. -/
def WindowsWf (s : State) : Prop := Memory.wf s.win = true

/-- The invariant of the block: registers and windows in their canonical forms, and every store within its size: the Silt intake
holds at most 64 events (R509), the log at most 4,096 records (R507), a port's posting buffer at most 64 writes (R68, R80), the
frame buffer at most 256 frames (R137), and the MAC transmit queue at most 1,024 frames (R150). -/
structure Invariant (s : State) : Prop where
  regs : RegsRising s
  win : WindowsWf s
  intake : s.siltIntake.length ≤ 64
  log : s.siltLog.length ≤ 4096
  lrp : s.lrp.posted.length ≤ 64
  pcie : s.pcie.posted.length ≤ 64
  frames : s.mac.frameBuf.length ≤ 256
  queue : s.mac.queue.length ≤ 1024

/-- The page of a field's register: its byte address divided by 0x1000 (R4, R63). -/
def Machine.Field.page (f : Field) : Nat := f.key / 0x20000

/-- The parts of the state that a frame statement may name: the registers of one page, the windows, the record of what has left the
module, the count of the free values drawn, and the working state of each unit by the name of its field of the state. -/
inductive Part where
  | page (p : Nat)
  | windows
  | sent
  | draws
  | modes
  | modeReqs
  | modeWaiting
  | startup
  | domains
  | deferred
  | lrp
  | pcie
  | time
  | cal
  | slqUp
  | slqDown
  | mac
  | spr
  | ntbBad
  | drf
  | sch
  | tmp
  | dpt
  | dal
  | emu
  | emur
  | swf
  | hdm
  | clm
  | hpn
  | tpr
  | siv
  | grg
  | mrl
  | siltIntake
  | siltLog
deriving DecidableEq, Repr

/-- A part is the same in two states. -/
@[reducible] def Part.same (q : Part) (s t : State) : Prop :=
  match q with
  | .page p => ∀ f : Field, f.page = p → t.rd f = s.rd f
  | .windows => t.win = s.win
  | .sent => t.emitted = s.emitted
  | .draws => t.draws = s.draws
  | .modes => t.modes = s.modes
  | .modeReqs => t.modeReqs = s.modeReqs
  | .modeWaiting => t.modeWaiting = s.modeWaiting
  | .startup => t.startup = s.startup
  | .domains => t.domains = s.domains
  | .deferred => t.deferred = s.deferred
  | .lrp => t.lrp = s.lrp
  | .pcie => t.pcie = s.pcie
  | .time => t.time = s.time
  | .cal => t.cal = s.cal
  | .slqUp => t.slqUp = s.slqUp
  | .slqDown => t.slqDown = s.slqDown
  | .mac => t.mac = s.mac
  | .spr => t.spr = s.spr
  | .ntbBad => t.ntbBad = s.ntbBad
  | .drf => t.drf = s.drf
  | .sch => t.sch = s.sch
  | .tmp => t.tmp = s.tmp
  | .dpt => t.dpt = s.dpt
  | .dal => t.dal = s.dal
  | .emu => t.emu = s.emu
  | .emur => t.emur = s.emur
  | .swf => t.swf = s.swf
  | .hdm => t.hdm = s.hdm
  | .clm => t.clm = s.clm
  | .hpn => t.hpn = s.hpn
  | .tpr => t.tpr = s.tpr
  | .siv => t.siv = s.siv
  | .grg => t.grg = s.grg
  | .mrl => t.mrl = s.mrl
  | .siltIntake => t.siltIntake = s.siltIntake
  | .siltLog => t.siltLog = s.siltLog

/-- What is not among the parts named is the same in two states; the queue of commands is the same. -/
def Unchanged (touched : List Part) (s t : State) : Prop :=
  t.pending = s.pending ∧ ∀ q, q ∉ touched → q.same s t

/-- The command answers a next state, of which P holds. -/
def Completes (i : Instr) (s : State) (P : State → Prop) : Prop := ∃ t, exec i s = .next t ∧ P t

/-- The notice is set in the second state, and the page's other notices are as they were (R64). -/
def Raises (n : Notice) (s t : State) : Prop := t.rd (NOTE_RAW n.page) = setBit (s.rd (NOTE_RAW n.page)) n.bit

/-- Every register field reads as before, but for those listed. -/
def OnlyFields (l : List Field) (s t : State) : Prop := ∀ f : Field, (∀ g ∈ l, f.key ≠ g.key) → t.rd f = s.rd f

end Sys2Proof
end

