-- ==== Sys2Proof/Claims.lean ====
section
/-! DEFINITION. The terms that the statements share: the parts of the state that each command may touch, and what it means to raise,
publish, record and count. -/

namespace Sys2Proof

open Machine

/-- The parts of the state that a command may touch; none for a command of the whole machine (a reset, a start, the decision step, a
write or a read that any unit may answer). -/
def Machine.touches (i : Instr) : Option (List Part) :=
  match i with
  | .modeDecisionStep => none
  | .domainStartOnDemand _ => none
  | .domainIdleStop _ => some [.domains]
  | .coldStart _ _ => none
  | .holdWake _ _ _ => none
  | .warmStart _ _ => none
  | .vinLoss _ => some [.windows, .sent, .modes, .modeReqs, .modeWaiting, .startup, .deferred, .lrp, .pcie, .time, .cal, .slqUp, .slqDown, .mac, .sch, .emu, .clm, .hpn, .siv, .grg, .mrl, .siltIntake, .siltLog, .domains, .page 0x00, .page 0x01, .page 0x02, .page 0x04, .page 0x06, .page 0x0B, .page 0x18, .page 0x19, .page 0x1A, .page 0x1B, .page 0x1C, .page 0x1E, .page 0x1F, .page 0x20, .page 0x22]
  | .vbakLoss => none
  | .rstNPulse => none
  | .rstNHoldWake => some [.startup]
  | .supWatchdogReset _ => none
  | .sysResetWarm _ _ => none
  | .sysPowerReq _ _ => some [.sent, .modeReqs, .startup, .lrp, .pcie, .domains, .page 0x00, .page 0x01]
  | .contactorDriverLatch _ => some [.sent, .slqUp, .slqDown, .siltIntake, .page 0x01, .page 0x1A, .page 0x1B, .page 0x1E, .page 0x22]
  | .dieHot _ => some [.sent, .modeReqs, .siltIntake, .domains, .page 0x00, .page 0x01, .page 0x1E]
  | .paInhibit _ => some [.sent, .mac, .siltIntake, .domains, .page 0x00, .page 0x01, .page 0x02, .page 0x1E]
  | .paInhibitEnd _ => some [.sent, .mac, .siltIntake, .domains, .page 0x00, .page 0x01, .page 0x02, .page 0x1E]
  | .lrpWrite _ _ _ => none
  | .bar0Write _ _ _ => none
  | .bar0Read _ _ => none
  | .bar2Access _ _ _ => none
  | .registerWrite _ => none
  | .seqWordRead _ _ => none
  | .blockLastWordRead _ _ => none
  | .rcRead _ _ => none
  | .sysEpochLoRead _ => none
  | .hifFenceWrite _ _ => none
  | .lrpClkLost => some [.sent, .domains, .page 0x01]
  | .lrpClkResume => some [.startup, .domains, .page 0x01]
  | .pciePerst => none
  | .pcieLinkDown => some [.sent, .domains, .page 0x01]
  | .hifEoi _ _ => some [.sent, .lrp, .pcie, .domains, .page 0x01]
  | .msixUnmask _ _ _ _ _ _ _ _ => some [.sent, .hdm, .domains, .page 0x01, .page 0x17, .page 0x40]
  | .txnOpen _ _ => some [.sent, .lrp, .pcie, .domains, .page 0x01]
  | .txnSelect _ _ => some [.sent, .lrp, .pcie, .domains, .page 0x01]
  | .txnDeselect _ => some [.sent, .lrp, .pcie, .domains, .page 0x01]
  | .txnCommit _ _ _ => some [.sent, .lrp, .pcie, .time, .domains, .page 0x01]
  | .txnAbort _ _ => some [.sent, .lrp, .pcie, .domains, .page 0x01]
  | .txnUndefinedOp _ => some [.sent, .lrp, .pcie, .domains, .page 0x01]
  | .txnApply _ => none
  | .trialTimerExpiry => none
  | .chainRetune _ _ _ _ => some [.windows, .sent, .lrp, .pcie, .mac, .domains, .page 0x01, .page 0x02, .page 0x03]
  | .adcClipAgcStep _ _ _ => some [.sent, .domains, .page 0x01, .page 0x02, .page 0x03]
  | .agcStep _ _ _ => some [.domains, .page 0x02]
  | .chnFrameReceived _ _ _ _ _ _ _ => some [.windows, .sent, .mac, .siltIntake, .domains, .page 0x01, .page 0x03, .page 0x1E, .page 0x22]
  | .regionChange => some [.mac, .domains, .page 0x02]
  | .budgetBucketAdvance _ _ => some [.mac]
  | .txFrameStart _ _ => some [.windows, .sent, .slqUp, .slqDown, .mac, .clm, .grg, .siltIntake, .domains, .page 0x01, .page 0x02, .page 0x03, .page 0x0B, .page 0x1A, .page 0x1B, .page 0x1E, .page 0x20, .page 0x22]
  | .macQueueEnqueue _ _ => some [.windows, .sent, .slqUp, .slqDown, .mac, .clm, .grg, .siltIntake, .domains, .page 0x01, .page 0x02, .page 0x04, .page 0x0B, .page 0x1A, .page 0x1B, .page 0x1E, .page 0x20, .page 0x22]
  | .tschSlotPlan _ _ => some [.windows, .sent, .time, .slqUp, .slqDown, .mac, .spr, .clm, .grg, .siltIntake, .domains, .page 0x01, .page 0x02, .page 0x03, .page 0x04, .page 0x06, .page 0x0B, .page 0x1A, .page 0x1B, .page 0x1E, .page 0x20, .page 0x22]
  | .macRealign _ => some [.sent, .lrp, .pcie, .mac, .domains, .page 0x01, .page 0x04]
  | .macFrameReceived _ => some [.windows, .sent, .draws, .modeReqs, .slqUp, .slqDown, .mac, .spr, .drf, .tmp, .emur, .clm, .grg, .siltIntake, .domains, .page 0x01, .page 0x02, .page 0x04, .page 0x05, .page 0x06, .page 0x07, .page 0x09, .page 0x0B, .page 0x0E, .page 0x1A, .page 0x1B, .page 0x1E, .page 0x20, .page 0x22]
  | .partnerBeaconMiss => some [.sent, .modeReqs, .slqUp, .slqDown, .clm, .siltIntake, .domains, .page 0x01, .page 0x04, .page 0x1A, .page 0x1B, .page 0x1E, .page 0x22]
  | .joinTimeout _ => some [.windows, .domains]
  | .ackWaitExpiry _ => some [.windows, .sent, .draws, .mac, .domains, .page 0x01, .page 0x04, .page 0x05, .page 0x0B]
  | .ntbProvision _ _ => some [.windows, .sent, .lrp, .pcie, .ntbBad, .domains, .page 0x01, .page 0x05]
  | .ntbBlock _ _ => some [.windows, .sent, .lrp, .pcie, .ntbBad, .domains, .page 0x01, .page 0x05]
  | .ntbUnblock _ _ => some [.windows, .sent, .lrp, .pcie, .ntbBad, .domains, .page 0x01, .page 0x05]
  | .ntbFree _ _ => some [.windows, .sent, .lrp, .pcie, .ntbBad, .domains, .page 0x01, .page 0x05]
  | .ntbClearHealth _ _ => some [.windows, .sent, .lrp, .pcie, .ntbBad, .domains, .page 0x01, .page 0x05]
  | .ntbFind _ _ => some [.sent, .lrp, .pcie, .domains, .page 0x01, .page 0x05]
  | .nodeEntryWrite _ _ _ => some [.windows, .sent, .lrp, .pcie, .ntbBad, .domains, .page 0x01, .page 0x05]
  | .claimHeartbeat => some [.windows, .sent, .slqUp, .slqDown, .mac, .spr, .clm, .grg, .siltIntake, .domains, .page 0x01, .page 0x02, .page 0x04, .page 0x06, .page 0x0B, .page 0x1A, .page 0x1B, .page 0x1E, .page 0x20, .page 0x22]
  | .sprSubmission => some [.windows, .sent, .slqUp, .slqDown, .mac, .spr, .clm, .grg, .siltIntake, .domains, .page 0x01, .page 0x02, .page 0x04, .page 0x06, .page 0x0B, .page 0x1A, .page 0x1B, .page 0x1E, .page 0x20, .page 0x22]
  | .sprEnableWrite _ _ => some [.sent, .lrp, .pcie, .domains, .page 0x01, .page 0x06]
  | .drfEventIntake _ _ _ _ => some [.sent, .drf, .domains, .page 0x01, .page 0x07]
  | .drfInject _ _ _ => some [.sent, .lrp, .pcie, .drf, .domains, .page 0x01, .page 0x07]
  | .drfEvaluation _ _ _ => some [.windows, .sent, .draws, .time, .drf, .siltIntake, .domains, .page 0x01, .page 0x07, .page 0x1E, .page 0x22]
  | .drfGraphSwap _ => some [.sent, .lrp, .pcie, .drf, .domains, .page 0x01, .page 0x07]
  | .drfSwapCheckDone => some [.sent, .drf, .domains, .page 0x01, .page 0x07]
  | .drfEnableWrite _ _ => some [.sent, .lrp, .pcie, .drf, .domains, .page 0x01, .page 0x07]
  | .schTick => some [.windows, .sent, .drf, .sch, .siltIntake, .domains, .page 0x01, .page 0x08, .page 0x1E]
  | .schHighWaterSave => some [.sch, .domains]
  | .tmpSample _ _ _ _ => none
  | .tmpMeasSlot _ _ => some [.sent, .lrp, .pcie, .tmp, .domains, .page 0x01, .page 0x09]
  | .tmpSlotDisable _ => some [.windows, .tmp, .domains]
  | .shapingPass _ _ _ => some [.windows, .sent, .time, .slqUp, .slqDown, .mac, .spr, .dpt, .dal, .clm, .grg, .siltIntake, .domains, .page 0x01, .page 0x02, .page 0x04, .page 0x06, .page 0x0A, .page 0x0B, .page 0x0C, .page 0x1A, .page 0x1B, .page 0x1E, .page 0x20, .page 0x22]
  | .dalFrameTx _ _ => some [.windows, .sent, .dal, .page 0x01, .page 0x0C]
  | .dalRefresh _ => some [.windows, .sent, .dal, .page 0x01, .page 0x0B, .page 0x0C]
  | .dalBusDown _ => some [.sent, .dal, .siltIntake, .page 0x01, .page 0x0C, .page 0x1E]
  | .dalBusUp _ => some [.windows, .sent, .page 0x01, .page 0x0C]
  | .dalEventReceived _ _ _ => some [.sent, .draws, .slqUp, .slqDown, .drf, .siltIntake, .domains, .page 0x01, .page 0x07, .page 0x0C, .page 0x1A, .page 0x1E, .page 0x22]
  | .dalRawRequest _ _ _ _ _ _ => some [.windows, .sent, .lrp, .pcie, .dal, .domains, .page 0x01, .page 0x0C]
  | .dalRawComplete _ _ => some [.sent, .dal, .page 0x01, .page 0x0C]
  | .emuSample _ _ => some [.windows, .sent, .time, .emu, .emur, .page 0x01, .page 0x0D]
  | .emuChannelFault _ => some [.sent, .siltIntake, .page 0x01, .page 0x0D, .page 0x1E]
  | .emuChannelFaultEnd _ => some [.page 0x0D]
  | .emuZcTimeout _ => some [.windows, .sent, .emu, .siltIntake, .page 0x01, .page 0x0D, .page 0x1E]
  | .emuAccumulatorSave => some [.emu]
  | .emuClear _ _ => some [.windows, .sent, .lrp, .pcie, .emu, .emur, .domains, .page 0x01, .page 0x0D]
  | .emurBoundarySnapshot _ => some [.windows, .time, .emur, .domains]
  | .emurEstimateTick _ => some [.windows, .time, .domains]
  | .emurWindowClose _ _ => some [.windows, .sent, .time, .emur, .siltIntake, .domains, .page 0x01, .page 0x0E, .page 0x1E]
  | .etpFrameReceived _ _ _ _ _ _ => some [.sent, .time, .swf, .siltIntake, .domains, .page 0x01, .page 0x10, .page 0x11, .page 0x12, .page 0x13, .page 0x14, .page 0x15, .page 0x16, .page 0x1E, .page 0x22]
  | .etpFrameTransmit _ _ _ _ => some [.sent, .draws, .modeReqs, .time, .cal, .mac, .swf, .siltIntake, .domains, .page 0x01, .page 0x04, .page 0x10, .page 0x11, .page 0x12, .page 0x13, .page 0x14, .page 0x15, .page 0x16, .page 0x18, .page 0x19, .page 0x1E, .page 0x22]
  | .pauseTimerExpiry _ _ => some [.time, .swf, .domains, .page 0x11, .page 0x12, .page 0x13, .page 0x14, .page 0x15, .page 0x16]
  | .pauseRepeat _ => some [.sent, .domains, .page 0x11, .page 0x12, .page 0x13, .page 0x14, .page 0x15, .page 0x16]
  | .lpiEntry _ _ => some [.domains, .page 0x11, .page 0x12, .page 0x13, .page 0x14, .page 0x15, .page 0x16]
  | .lpiWake _ _ => some [.domains, .page 0x11, .page 0x12, .page 0x13, .page 0x14, .page 0x15, .page 0x16]
  | .swfSpeedStep _ _ => some [.domains, .page 0x10]
  | .etpLinkChange _ _ _ => some [.sent, .swf, .domains, .page 0x01, .page 0x11, .page 0x12, .page 0x13, .page 0x14, .page 0x15, .page 0x16]
  | .etpModeWrite _ _ _ => some [.sent, .modeReqs, .lrp, .pcie, .time, .cal, .mac, .swf, .siltIntake, .domains, .page 0x01, .page 0x04, .page 0x11, .page 0x12, .page 0x13, .page 0x14, .page 0x15, .page 0x16, .page 0x18, .page 0x19, .page 0x1E]
  | .etpFwdStateWrite _ _ _ => some [.sent, .modeReqs, .lrp, .pcie, .time, .cal, .mac, .swf, .siltIntake, .domains, .page 0x01, .page 0x04, .page 0x11, .page 0x12, .page 0x13, .page 0x14, .page 0x15, .page 0x16, .page 0x18, .page 0x19, .page 0x1E]
  | .fdbAgeExpiry _ => some [.time, .swf, .domains, .page 0x10]
  | .fdbInsert _ _ => some [.sent, .lrp, .pcie, .swf, .domains, .page 0x01, .page 0x10]
  | .fdbDelete _ _ => some [.sent, .lrp, .pcie, .swf, .domains, .page 0x01, .page 0x10]
  | .fdbFlushPort _ _ => some [.sent, .lrp, .pcie, .swf, .domains, .page 0x01, .page 0x10]
  | .fdbFlushInstance _ _ => some [.sent, .lrp, .pcie, .swf, .domains, .page 0x01, .page 0x10]
  | .fdbFlushAll _ => some [.sent, .lrp, .pcie, .swf, .domains, .page 0x01, .page 0x10]
  | .fdbLookup _ _ => some [.sent, .lrp, .pcie, .domains, .page 0x01, .page 0x10]
  | .mdioC45Address _ _ _ _ => some [.sent, .lrp, .pcie, .swf, .domains, .page 0x01, .page 0x10]
  | .mdioWrite _ _ _ _ => some [.sent, .lrp, .pcie, .swf, .domains, .page 0x01, .page 0x10]
  | .mdioRead _ _ _ _ => some [.sent, .lrp, .pcie, .swf, .domains, .page 0x01, .page 0x10]
  | .mdioC22Read _ _ _ _ => some [.sent, .lrp, .pcie, .swf, .domains, .page 0x01, .page 0x10]
  | .mdioDone _ => some [.sent, .domains, .page 0x01, .page 0x10]
  | .hdmTxTailWrite _ _ _ => some [.sent, .lrp, .pcie, .domains, .page 0x01, .page 0x17]
  | .hdmTxFrame _ _ _ _ => some [.sent, .modeReqs, .time, .cal, .slqUp, .slqDown, .mac, .swf, .hdm, .clm, .siltIntake, .domains, .page 0x01, .page 0x04, .page 0x10, .page 0x11, .page 0x12, .page 0x13, .page 0x14, .page 0x15, .page 0x16, .page 0x17, .page 0x18, .page 0x19, .page 0x1A, .page 0x1B, .page 0x1E, .page 0x22]
  | .hdmRxDeliver _ _ _ => some [.sent, .draws, .slqUp, .slqDown, .swf, .hdm, .clm, .siltIntake, .domains, .page 0x01, .page 0x10, .page 0x11, .page 0x12, .page 0x13, .page 0x14, .page 0x15, .page 0x16, .page 0x17, .page 0x1A, .page 0x1B, .page 0x1E, .page 0x22]
  | .hdmModDelayExpiry _ _ => some [.sent, .hdm, .domains, .page 0x01, .page 0x17]
  | .hdmDmaError => some [.sent, .hdm, .domains, .page 0x01, .page 0x17]
  | .ptpSyncReceived _ _ _ _ _ _ _ _ _ => some [.sent, .modeReqs, .time, .cal, .mac, .siltIntake, .page 0x01, .page 0x04, .page 0x18, .page 0x19, .page 0x1E]
  | .ptpAnnounceReceived _ _ => some [.sent, .modeReqs, .time, .cal, .siltIntake, .page 0x01, .page 0x18, .page 0x19, .page 0x1E]
  | .announceTimeout => some [.sent, .modeReqs, .time, .cal, .siltIntake, .page 0x01, .page 0x18, .page 0x19, .page 0x1E]
  | .holdoverExpiry => some [.sent, .modeReqs, .time, .cal, .siltIntake, .page 0x01, .page 0x18, .page 0x19, .page 0x1E]
  | .ptpMessageTx _ _ _ _ => some [.sent, .modeReqs, .time, .cal, .mac, .siltIntake, .page 0x01, .page 0x04, .page 0x18, .page 0x19, .page 0x1E]
  | .timHostStateWrite _ _ => some [.sent, .modeReqs, .lrp, .pcie, .time, .cal, .siltIntake, .domains, .page 0x01, .page 0x18, .page 0x19, .page 0x1E]
  | .timRateWrite _ _ => some [.sent, .lrp, .pcie, .time, .domains, .page 0x01, .page 0x18]
  | .timStepHiWrite _ _ => some [.sent, .lrp, .pcie, .time, .cal, .mac, .domains, .page 0x01, .page 0x04, .page 0x18]
  | .timCapture _ => some [.sent, .lrp, .pcie, .domains, .page 0x01, .page 0x18]
  | .timNowLoRead _ => none
  | .timTsPop _ _ => some [.sent, .lrp, .pcie, .time, .domains, .page 0x01, .page 0x18]
  | .ppsOutPulse _ => some [.sent, .time]
  | .ppsInEdge _ _ => some [.sent, .time, .page 0x01, .page 0x18]
  | .rtcSecondRollover => some [.sent, .startup, .cal, .siltIntake, .page 0x01, .page 0x18, .page 0x19, .page 0x1E]
  | .rtcSetCount _ => some [.sent, .lrp, .pcie, .cal, .domains, .page 0x01, .page 0x19]
  | .rtcSetFields _ => some [.sent, .lrp, .pcie, .cal, .domains, .page 0x01, .page 0x19]
  | .rtcTrimWindowEnd _ => some [.sent, .time, .cal, .page 0x01, .page 0x19]
  | .oscillatorStopped => some [.sent, .cal, .mac, .siltIntake, .page 0x01, .page 0x19, .page 0x1E]
  | .slqPacketComplete _ _ _ _ _ _ => some [.sent, .slqUp, .slqDown, .siltIntake, .domains, .page 0x01, .page 0x1A, .page 0x1E, .page 0x22]
  | .slqStallResume _ => some [.sent, .slqUp, .slqDown, .siltIntake, .domains, .page 0x01, .page 0x1A, .page 0x1E, .page 0x22]
  | .slqUplinkRead _ _ _ => some [.sent, .draws, .lrp, .pcie, .slqUp, .slqDown, .siltIntake, .page 0x01, .page 0x1A, .page 0x1E, .page 0x22]
  | .slqDrop _ _ => some [.sent, .lrp, .pcie, .slqUp, .slqDown, .siltIntake, .domains, .page 0x01, .page 0x1A, .page 0x1E, .page 0x22]
  | .slqMark _ _ => some [.sent, .lrp, .pcie, .slqUp, .slqDown, .siltIntake, .domains, .page 0x01, .page 0x1A, .page 0x1E, .page 0x22]
  | .slqRewind _ _ => some [.sent, .lrp, .pcie, .slqUp, .slqDown, .domains, .page 0x01]
  | .slqClearMark _ _ => some [.sent, .lrp, .pcie, .slqUp, .slqDown, .siltIntake, .domains, .page 0x01, .page 0x1A, .page 0x1E, .page 0x22]
  | .slqClrMax _ _ => some [.sent, .lrp, .pcie, .domains, .page 0x01, .page 0x1A]
  | .slqFlush _ _ => some [.sent, .lrp, .pcie, .slqUp, .slqDown, .siltIntake, .domains, .page 0x01, .page 0x1A, .page 0x1E, .page 0x22]
  | .slqDownlinkData _ _ _ => some [.sent, .lrp, .pcie, .slqUp, .slqDown, .domains, .page 0x01, .page 0x1A]
  | .slqDownlinkCommit _ _ _ => some [.sent, .lrp, .pcie, .slqUp, .slqDown, .domains, .page 0x01, .page 0x1A]
  | .slqAbort _ _ => some [.sent, .lrp, .pcie, .slqUp, .slqDown, .domains, .page 0x01, .page 0x1A]
  | .slqCellsWrite _ _ _ => some [.sent, .lrp, .pcie, .domains, .page 0x01, .page 0x1A]
  | .slqTimeout _ => some [.sent, .slqUp, .slqDown, .domains, .page 0x01, .page 0x1A]
  | .slqEnableWrite _ _ => some [.sent, .lrp, .pcie, .slqUp, .slqDown, .domains, .page 0x01, .page 0x1A]
  | .heartbeat _ => some [.sent, .time, .clm, .page 0x06, .page 0x1B]
  | .biduesFrameReceived _ => some [.sent, .modeReqs, .slqUp, .slqDown, .clm, .siltIntake, .page 0x01, .page 0x06, .page 0x1A, .page 0x1B, .page 0x1E, .page 0x22]
  | .query _ => some [.sent, .modeReqs, .slqUp, .slqDown, .clm, .siltIntake, .page 0x01, .page 0x06, .page 0x1A, .page 0x1B, .page 0x1E, .page 0x22]
  | .answer _ => some [.sent, .modeReqs, .slqUp, .slqDown, .clm, .siltIntake, .page 0x01, .page 0x06, .page 0x1A, .page 0x1B, .page 0x1E, .page 0x22]
  | .swapReq _ => some [.sent, .modeReqs, .slqUp, .slqDown, .clm, .siltIntake, .page 0x01, .page 0x06, .page 0x1A, .page 0x1B, .page 0x1E, .page 0x22]
  | .swapAck _ => some [.sent, .modeReqs, .slqUp, .slqDown, .clm, .siltIntake, .page 0x01, .page 0x06, .page 0x1A, .page 0x1B, .page 0x1E, .page 0x22]
  | .swapNak _ => some [.sent, .modeReqs, .slqUp, .slqDown, .clm, .siltIntake, .page 0x01, .page 0x06, .page 0x1A, .page 0x1B, .page 0x1E, .page 0x22]
  | .resign _ => some [.sent, .modeReqs, .slqUp, .slqDown, .clm, .siltIntake, .page 0x01, .page 0x06, .page 0x1A, .page 0x1B, .page 0x1E, .page 0x22]
  | .biduesLinkLost => some [.sent, .modeReqs, .slqUp, .slqDown, .clm, .siltIntake, .page 0x01, .page 0x1A, .page 0x1B, .page 0x1E, .page 0x22]
  | .comparatorLoad => some [.clm, .page 0x1B]
  | .startWaitExpiry => some [.sent, .modeReqs, .slqUp, .slqDown, .clm, .siltIntake, .page 0x01, .page 0x1A, .page 0x1B, .page 0x1E, .page 0x22]
  | .queryWaitExpiry => some [.modeReqs, .clm]
  | .swapAckTimeout => some [.sent, .modeReqs, .slqUp, .slqDown, .clm, .siltIntake, .page 0x01, .page 0x1A, .page 0x1B, .page 0x1E, .page 0x22]
  | .handover _ => some [.sent, .modeReqs, .lrp, .pcie, .slqUp, .slqDown, .siltIntake, .domains, .page 0x01, .page 0x1A, .page 0x1B, .page 0x1E, .page 0x22]
  | .take _ => some [.sent, .lrp, .pcie, .slqUp, .slqDown, .clm, .siltIntake, .domains, .page 0x01, .page 0x1A, .page 0x1B, .page 0x1E, .page 0x22]
  | .epochReset _ => some [.sent, .lrp, .pcie, .domains, .page 0x01, .page 0x1B]
  | .clmQuery _ => some [.sent, .lrp, .pcie, .clm, .domains, .page 0x01, .page 0x1B]
  | .periodicSwap => some [.sent, .modeReqs, .slqUp, .slqDown, .clm, .siltIntake, .page 0x01, .page 0x1A, .page 0x1B, .page 0x1E, .page 0x22]
  | .revertSettleExpiry => some [.clm]
  | .clmEnableWrite _ _ => some [.sent, .modeReqs, .lrp, .pcie, .clm, .domains, .page 0x01, .page 0x06, .page 0x1B]
  | .quietTableHour => some [.windows, .clm]
  | .keyLoad => some [.sent, .slqUp, .slqDown, .mac, .hpn, .siltIntake, .domains, .page 0x01, .page 0x04, .page 0x1A, .page 0x1C, .page 0x1E, .page 0x22]
  | .keyDerive => some [.sent, .slqUp, .slqDown, .mac, .hpn, .siltIntake, .domains, .page 0x01, .page 0x04, .page 0x1A, .page 0x1C, .page 0x1E, .page 0x22]
  | .keyRotate => some [.sent, .slqUp, .slqDown, .mac, .hpn, .siltIntake, .domains, .page 0x01, .page 0x04, .page 0x1A, .page 0x1C, .page 0x1E, .page 0x22]
  | .keyErase => some [.sent, .slqUp, .slqDown, .mac, .hpn, .siltIntake, .domains, .page 0x01, .page 0x04, .page 0x1A, .page 0x1C, .page 0x1E, .page 0x22]
  | .lcRequest => some [.sent, .draws, .modeReqs, .slqUp, .slqDown, .hpn, .siltIntake, .domains, .page 0x00, .page 0x01, .page 0x1A, .page 0x1C, .page 0x1E, .page 0x22]
  | .keyQuery => some [.sent, .slqUp, .slqDown, .mac, .hpn, .siltIntake, .domains, .page 0x01, .page 0x04, .page 0x1A, .page 0x1C, .page 0x1E, .page 0x22]
  | .keyIslandError => some [.sent, .slqUp, .slqDown, .hpn, .siltIntake, .domains, .page 0x01, .page 0x1A, .page 0x1C, .page 0x1E, .page 0x22]
  | .tamperSamplingRound _ _ _ => some [.windows, .sent, .draws, .modes, .modeReqs, .startup, .slqUp, .slqDown, .hpn, .tpr, .siltIntake, .page 0x00, .page 0x01, .page 0x0B, .page 0x1A, .page 0x1C, .page 0x1D, .page 0x1E, .page 0x22]
  | .tamperMonitorTrip _ _ _ => some [.windows, .sent, .draws, .modes, .modeReqs, .startup, .slqUp, .slqDown, .hpn, .siltIntake, .page 0x00, .page 0x01, .page 0x0B, .page 0x1A, .page 0x1C, .page 0x1D, .page 0x1E, .page 0x22]
  | .tprCfgWrite _ _ _ => some [.sent, .lrp, .pcie, .domains, .page 0x01, .page 0x1D]
  | .siltEvent _ _ _ _ _ => some [.sent, .siltIntake, .page 0x01, .page 0x1E]
  | .siltRecordWrite => some [.sent, .slqUp, .slqDown, .siltIntake, .siltLog, .page 0x01, .page 0x1A, .page 0x1E, .page 0x22]
  | .sltClear _ _ => some [.sent, .lrp, .pcie, .slqUp, .slqDown, .siltIntake, .siltLog, .domains, .page 0x01, .page 0x1A, .page 0x1E, .page 0x22]
  | .sivModeReq _ _ => some [.sent, .modeReqs, .lrp, .pcie, .domains, .page 0x01, .page 0x1F]
  | .sieveSliceStart _ _ => some [.sent, .time, .emu, .emur, .siv, .domains, .page 0x01, .page 0x10]
  | .sieveSliceEnd _ _ _ _ => none
  | .sieveRoundLimit _ => some [.sent, .draws, .time, .slqUp, .slqDown, .siv, .siltIntake, .domains, .page 0x01, .page 0x1A, .page 0x1E, .page 0x1F, .page 0x22]
  | .sieveFullDone _ _ _ _ => none
  | .recover _ _ => some [.sent, .lrp, .pcie, .siv, .domains, .page 0x01, .page 0x1F]
  | .recoverDone _ _ => some [.windows, .sent, .slqUp, .slqDown, .mac, .spr, .drf, .sch, .tmp, .dpt, .swf, .siv, .siltIntake, .domains, .page 0x01, .page 0x1A, .page 0x1E, .page 0x1F, .page 0x22]
  | .clearFailed _ _ => some [.sent, .lrp, .pcie, .siv, .domains, .page 0x01, .page 0x1F]
  | .grgHeader => some [.sent, .modeReqs, .slqUp, .slqDown, .grg, .domains, .page 0x01, .page 0x20]
  | .grgBlock => some [.sent, .slqUp, .slqDown, .grg, .siltIntake, .domains, .page 0x01, .page 0x1A, .page 0x1E, .page 0x20, .page 0x22]
  | .grgAbandon => some [.sent, .modes, .slqUp, .slqDown, .grg, .siltIntake, .domains, .page 0x00, .page 0x01, .page 0x1A, .page 0x1E, .page 0x20, .page 0x22]
  | .grgVerify => some [.sent, .modes, .slqUp, .slqDown, .grg, .siltIntake, .domains, .page 0x00, .page 0x01, .page 0x1A, .page 0x1E, .page 0x20, .page 0x22]
  | .grgIdleLimit => some [.sent, .modes, .slqUp, .slqDown, .grg, .siltIntake, .domains, .page 0x00, .page 0x01, .page 0x1A, .page 0x1E, .page 0x20, .page 0x22]
  | .activate _ _ => some [.sent, .modeReqs, .lrp, .pcie, .domains, .page 0x01, .page 0x20]
  | .confirm _ _ => some [.sent, .modes, .lrp, .pcie, .slqUp, .slqDown, .grg, .siltIntake, .domains, .page 0x00, .page 0x01, .page 0x1A, .page 0x1E, .page 0x20, .page 0x22]
  | .rollback _ _ => none
  | .campaign _ => some [.sent, .draws, .lrp, .pcie, .grg, .domains, .page 0x01, .page 0x20]
  | .campaignOffer => some [.windows, .sent, .slqUp, .slqDown, .mac, .spr, .clm, .grg, .siltIntake, .domains, .page 0x01, .page 0x02, .page 0x04, .page 0x06, .page 0x0B, .page 0x1A, .page 0x1B, .page 0x1E, .page 0x20, .page 0x22]
  | .campaignQueryWait => some [.windows, .sent, .slqUp, .slqDown, .mac, .spr, .clm, .grg, .siltIntake, .domains, .page 0x01, .page 0x02, .page 0x04, .page 0x06, .page 0x0B, .page 0x1A, .page 0x1B, .page 0x1E, .page 0x20, .page 0x22]
  | .nodeActivate _ => some [.windows, .sent, .lrp, .pcie, .slqUp, .slqDown, .mac, .spr, .clm, .grg, .siltIntake, .domains, .page 0x01, .page 0x02, .page 0x04, .page 0x06, .page 0x0B, .page 0x1A, .page 0x1B, .page 0x1E, .page 0x20, .page 0x22]
  | .stopCampaign _ => some [.sent, .lrp, .pcie, .slqUp, .slqDown, .grg, .siltIntake, .domains, .page 0x01, .page 0x1A, .page 0x1E, .page 0x20, .page 0x22]
  | .bootromContainer _ _ _ => some [.sent, .slqUp, .slqDown, .clm, .grg, .siltIntake, .page 0x01, .page 0x1A, .page 0x1B, .page 0x1E, .page 0x20, .page 0x22]
  | .save _ => some [.sent, .lrp, .pcie, .mrl, .domains, .page 0x01, .page 0x21]
  | .mrlAutoSave => some [.sent, .mrl, .domains, .page 0x01, .page 0x21]
  | .mrlSaveDone _ => some [.sent, .mrl, .siltIntake, .domains, .page 0x01, .page 0x1E, .page 0x21]
  | .clear _ _ => some [.sent, .lrp, .pcie, .mrl, .domains, .page 0x01, .page 0x21]
  | .itgScrub _ _ => some [.windows, .sent, .draws, .modeReqs, .time, .cal, .slqUp, .slqDown, .mac, .ntbBad, .drf, .tmp, .swf, .hpn, .mrl, .siltIntake, .domains, .page 0x01, .page 0x04, .page 0x05, .page 0x09, .page 0x10, .page 0x11, .page 0x12, .page 0x13, .page 0x14, .page 0x15, .page 0x16, .page 0x18, .page 0x19, .page 0x1A, .page 0x1C, .page 0x1E, .page 0x22]
  | .txFrameEnd _ _ _ => some [.windows, .sent, .time, .slqUp, .slqDown, .mac, .spr, .clm, .grg, .siltIntake, .domains, .page 0x01, .page 0x02, .page 0x04, .page 0x06, .page 0x0B, .page 0x1A, .page 0x1B, .page 0x1E, .page 0x20, .page 0x22]
  | .rstNRelease => some [.startup, .page 0x00]
  | .winDataRead _ _ => none
  | .macAsnLoRead _ => none
  | .schHighLoRead _ => none
  | .etpBytesLoRead _ _ _ => none
  | .pcieLinkUp _ _ => some [.domains, .page 0x01]
  | .dieHotEnd _ => some [.domains, .page 0x00]
  | .hdmRxTailWrite _ _ _ => some [.sent, .lrp, .pcie, .domains, .page 0x01, .page 0x17]
  | .ptpFollowUpReceived _ _ _ _ _ _ _ => some [.sent, .modeReqs, .time, .cal, .mac, .siltIntake, .page 0x01, .page 0x04, .page 0x18, .page 0x19, .page 0x1E]
  | .ptpDelayReqReceived _ _ _ _ => some [.sent, .modeReqs, .time, .cal, .mac, .siltIntake, .page 0x01, .page 0x04, .page 0x18, .page 0x19, .page 0x1E]
  | .ptpDelayRespReceived _ _ _ _ _ _ _ => some [.sent, .modeReqs, .time, .cal, .mac, .siltIntake, .page 0x01, .page 0x04, .page 0x18, .page 0x19, .page 0x1E]
  | .calendarFractionAdvance => some [.sent, .startup, .cal, .siltIntake, .page 0x01, .page 0x18, .page 0x19, .page 0x1E]

/-- The page is usable, the clocks of its unit run and no slice of Sieve isolates the unit (R28, R110, R521). -/
def Machine.State.atWork (s : State) (p : Nat) : Bool := s.live p && s.pageRuns p

/-- The event that the Silt intake takes now, with its code and parameters (R509). -/
def siltEvent (s : State) (code p0 p1 p2 p3 : Nat) : SiltEvent :=
  ⟨code, p0 % 2 ^ 32, p1 % 2 ^ 32, p2 % 2 ^ 32, p3 % 2 ^ 32, s.calNow, s.calValid, s.startup.phase.beforeB⟩

/-- The event joins the Silt intake, or is counted as lost where 64 wait (R509). -/
def Records (code p0 p1 p2 p3 : Nat) (s t : State) : Prop :=
  t.siltIntake = if s.siltIntake.length < 64 then s.siltIntake ++ [siltEvent s code p0 p1 p2 p3] else s.siltIntake

/-- The notice is set. -/
def Noted (n : Notice) (t : State) : Prop := bitAt (t.rd (NOTE_RAW n.page)) n.bit = true

/-- An event of the code waits in the Silt intake, unless the intake is full (R509). -/
def Recorded (code : Nat) (t : State) : Prop := 64 ≤ t.siltIntake.length ∨ ∃ e ∈ t.siltIntake, e.code = code

/-- A request for a value of a mode axis waits for the decision step. -/
def Asks (v : ModeValue) (t : State) : Prop := ∃ q ∈ t.modeReqs, q.value = v

/-- What every handover needs (R472): the link is up, both modules are READY, and their CFG_ID agree. -/
def MayHandOver (s : State) : Prop :=
  s.rd CLM_STATUS_LINK_UP = 1 ∧ s.rd SYS_STATUS_READY = 1 ∧ ∃ f ∈ s.clm.partner, f.ready = true ∧ f.cfgId = s.rd CLM_CFG_ID

/-- Block 0 of a page is published: its count rises by one modulo 2^24 and its FRESH bit is set (R85). -/
def Publishes (page : Nat) (s t : State) : Prop :=
  t.rd (SEQ_COUNT page) = (s.rd (SEQ_COUNT page) + 1) % 2 ^ 24 ∧ bitAt (t.rd (FRESH page)) 0 = true

/-- The port has read the word at `addr`, and holds its `_HI` word latched; nothing else has changed (the rows of SYS_EPOCH_LO and its like). -/
def ReadsLow (port : Port) (addr : Nat) (s t : State) : Prop :=
  (t.port port).readData = [s.word port addr % 2 ^ 32] ∧
  Sparse.get (t.port port).hiLatches (addr + 4) = some (s.word port (addr + 4)) ∧
  t.port port.other = s.port port.other ∧ OnlyFields [] s t

/-- The fields that a reset gives a value of its own: the cause, the count of warm resets, the copy of UTC_OFFSET, the change count of
SLT, and the counts that resume (R101, R182, R262, R308, R359, R404, R517). -/
def resetOwn : List Field :=
  [SYS_RESET_CAUSE_CAUSE, SYS_RESET_CAUSE_WARM_COUNT, TIM_UTC_OFFSET, SLT_CHANGE, MAC_TX_FC, MAC_TX_FC4, SCH_HIGH_LO, SCH_HIGH_HI, SEQ_COUNT 0x07,
   SEQ_COUNT 0x09, SEQ_COUNT 0x0D]

/-- What a reset of a kind and cause leaves (R102 to R104). -/
structure ResetOf (kind : StartKind) (cause : Nat) (s t : State) : Prop where
  of_cause : t.rd SYS_RESET_CAUSE_CAUSE = cause
  of_count : t.rd SYS_RESET_CAUSE_WARM_COUNT = if kind = .warm then min 65535 (s.rd SYS_RESET_CAUSE_WARM_COUNT + 1) else 0
  of_modes : t.modes = ⟨.run, .solo, s.modes.life, .off, .idle, .clear, .free⟩
  of_phase : t.startup.phase = .inReset
  of_line : t.startup.line = if kind = .warm then 2 else 0
  of_kind : t.startup.kind = kind
  of_ports : t.lrp = .empty ∧ t.pcie = .empty ∧ t.deferred = []
  of_requests : t.modeReqs = [] ∧ t.modeWaiting = []
  of_memory : t.win = [] ∧ t.slqUp = List.replicate 16 .empty ∧ t.slqDown = List.replicate 8 .empty
  of_stands : t.siltLog = s.siltLog ∧ t.cal = { s.cal with load := none, window := none } ∧ t.grg.images = s.grg.images ∧
    t.mrl.banks = s.mrl.banks ∧ t.hpn.slots = s.hpn.slots
  of_cleared : ∀ f ∈ allFields, f.survival = .cleared → f.access ≠ .rws → (∀ g ∈ resetOwn, f.key ≠ g.key) → t.rd f = f.reset % 2 ^ f.width
  of_kept : ∀ f ∈ allFields, (f.survival = .alwaysOn ∨ f.survival = .stored ∨ (kind = .warm ∧ (f.survival = .warm ∨ f.access = .rws))) →
    (∀ g ∈ resetOwn, f.key ≠ g.key) → t.rd f = s.rd f

end Sys2Proof
end

