-- ==== Sys2Proof/WellFormed.lean ====
section
/-! DEFINITION. The commands that the outside can send: every operand within the range that the spec gives it. -/

namespace Sys2Proof

/-- Whether a command's operands are within their ranges. -/
def WellFormed : Instr → Prop
  | .modeDecisionStep => True
  | .domainStartOnDemand d => d < 14
  | .domainIdleStop d => d < 14
  | .coldStart f n => ((∀ p ∈ f.badImages, p < 6) ∧ f.flips ≤ 32768 ∧ (∀ i ∈ f.badHelper, i < 2) ∧ (∀ i ∈ f.badSlots, i < 64) ∧ (∀ b ∈ f.badBanks, b < 2) ∧ f.strange < 2 ^ 32) ∧ n ≤ 11
  | .holdWake _ f n => ((∀ p ∈ f.badImages, p < 6) ∧ f.flips ≤ 32768 ∧ (∀ i ∈ f.badHelper, i < 2) ∧ (∀ i ∈ f.badSlots, i < 64) ∧ (∀ b ∈ f.badBanks, b < 2) ∧ f.strange < 2 ^ 32) ∧ n ≤ 11
  | .warmStart f n => ((∀ p ∈ f.badImages, p < 6) ∧ f.flips ≤ 32768 ∧ (∀ i ∈ f.badHelper, i < 2) ∧ (∀ i ∈ f.badSlots, i < 64) ∧ (∀ b ∈ f.badBanks, b < 2) ∧ f.strange < 2 ^ 32) ∧ n ≤ 11
  | .vinLoss _ => True
  | .vbakLoss => True
  | .rstNPulse => True
  | .rstNHoldWake => True
  | .supWatchdogReset line => 0 < line ∧ line ≤ 11
  | .sysResetWarm _ key => key < 2 ^ 16
  | .sysPowerReq _ v => v < 4
  | .contactorDriverLatch k => k < 4
  | .dieHot t => t < 2 ^ 16
  | .paInhibit t => t < 2 ^ 16
  | .paInhibitEnd t => t < 2 ^ 16
  | .lrpWrite addr value be => (addr < 2 ^ 18 ∧ addr % 4 = 0) ∧ value < 2 ^ 32 ∧ be < 16
  | .bar0Write addr value _ => addr < 2 ^ 18 ∧ value < 2 ^ 32
  | .bar0Read addr _ => addr < 2 ^ 18
  | .bar2Access _ addr words => (addr < 2 ^ 30 ∧ addr % 4 = 0) ∧ (0 < words.length ∧ words.length ≤ 128 ∧ ∀ w ∈ words, w.1 < 2 ^ 32 ∧ w.2 < 16)
  | .registerWrite _ => True
  | .seqWordRead _ b => b < 23
  | .blockLastWordRead _ b => b < 23
  | .rcRead _ addr => addr < 2 ^ 18
  | .sysEpochLoRead _ => True
  | .hifFenceWrite _ v => v < 2 ^ 32
  | .lrpClkLost => True
  | .lrpClkResume => True
  | .pciePerst => True
  | .pcieLinkDown => True
  | .hifEoi _ v => v < 32
  | .msixUnmask v _ _ _ _ _ bar0 bar2 => (∀ x ∈ v, x < 32) ∧ bar0 < 2 ^ 32 ∧ bar2 < 2 ^ 64
  | .txnOpen _ t => t < 4
  | .txnSelect _ t => t < 4
  | .txnDeselect _ => True
  | .txnCommit _ t _ => t < 4
  | .txnAbort _ t => t < 4
  | .txnUndefinedOp _ => True
  | .txnApply _ => True
  | .trialTimerExpiry => True
  | .chainRetune _ k freq _ => k < 2 ∧ freq < 2 ^ 20
  | .adcClipAgcStep k att _ => k < 2 ∧ att ≤ 15
  | .agcStep k att _ => k < 2 ∧ att ≤ 15
  | .chnFrameReceived n sfd ends rssi lqi _ m => n < 128 ∧ sfd < 2 ^ 64 ∧ ends < 2 ^ 64 ∧ rssi < 256 ∧ lqi < 256 ∧ (m.len < 2048 ∧ m.seqNo < 256 ∧ m.counter < 2 ^ 32 ∧ m.payload.length ≤ m.len)
  | .regionChange => True
  | .budgetBucketAdvance e ch => e < 32 ∧ ch < 128
  | .txFrameStart c _ => c < 4
  | .macQueueEnqueue m seq => (m.type < 256 ∧ ∀ b ∈ m.body, b < 256) ∧ seq < 65536
  | .tschSlotPlan _ inFrame => ∀ n ∈ inFrame, n < 128
  | .macRealign _ => True
  | .macFrameReceived _ => True
  | .partnerBeaconMiss => True
  | .joinTimeout i => i < 8192
  | .ackWaitExpiry _ => True
  | .ntbProvision _ i => i < 8192
  | .ntbBlock _ i => i < 8192
  | .ntbUnblock _ i => i < 8192
  | .ntbFree _ i => i < 8192
  | .ntbClearHealth _ i => i < 8192
  | .ntbFind _ w => w < 2 ^ 32
  | .nodeEntryWrite _ off w => off < 2 ^ 21 ∧ w < 2 ^ 32
  | .claimHeartbeat => True
  | .sprSubmission => True
  | .sprEnableWrite _ _ => True
  | .drfEventIntake v instant strength sensor => v < 65536 ∧ instant < 2 ^ 64 ∧ strength < 256 ∧ sensor < 256
  | .drfInject _ v age => v < 8192 ∧ age < 65536
  | .drfEvaluation _ dur mem => dur < 65536 ∧ mem < 3
  | .drfGraphSwap _ => True
  | .drfSwapCheckDone => True
  | .drfEnableWrite _ _ => True
  | .schTick => True
  | .schHighWaterSave => True
  | .tmpSample _ bad lost _ => (∀ k ∈ bad, k < 2048) ∧ (∀ i ∈ lost, i < 8192)
  | .tmpMeasSlot _ k => k < 2048
  | .tmpSlotDisable k => k < 2048
  | .shapingPass _ dur _ => dur < 65536
  | .dalFrameTx k _ => k < 8
  | .dalRefresh k => k < 8
  | .dalBusDown k => k < 8
  | .dalBusUp k => k < 8
  | .dalEventReceived k frame instant => k < 8 ∧ frame < 2 ^ 24 ∧ instant < 2 ^ 64
  | .dalRawRequest _ k _ _ _ prio => k < 8 ∧ prio < 8
  | .dalRawComplete answer _ => ∀ b ∈ answer, b < 256
  | .emuSample _ bits => ∀ x ∈ bits, x < 2 ^ 512
  | .emuChannelFault k => k < 16
  | .emuChannelFaultEnd k => k < 16
  | .emuZcTimeout k => k < 4
  | .emuAccumulatorSave => True
  | .emuClear _ c => c < 16
  | .emurBoundarySnapshot _ => True
  | .emurEstimateTick _ => True
  | .emurWindowClose _ g => g < 12
  | .etpFrameReceived k _ len f _ _ => k < 6 ∧ (len < 64 ∨ 9216 < len ∨ len = 16 + (if f.tag.isSome then 4 else 0) + f.body.length) ∧ (f.dst < 2 ^ 48 ∧ f.src < 2 ^ 48 ∧ (∀ t ∈ f.tag, t < 65536) ∧ (∀ b ∈ f.body, b < 256))
  | .etpFrameTransmit k _ _ ecc => k < 6 ∧ ecc < 5
  | .pauseTimerExpiry k _ => k < 6
  | .pauseRepeat k => k < 6
  | .lpiEntry k _ => k < 6
  | .lpiWake k _ => k < 6
  | .swfSpeedStep _ _ => True
  | .etpLinkChange k _ speed => k < 6 ∧ speed < 3
  | .etpModeWrite _ k mode => k < 6 ∧ mode < 4
  | .etpFwdStateWrite _ k w => k < 6 ∧ w < 256
  | .fdbAgeExpiry _ => True
  | .fdbInsert _ vid => vid < 4096
  | .fdbDelete _ vid => vid < 4096
  | .fdbFlushPort _ k => k < 8
  | .fdbFlushInstance _ i => i < 4
  | .fdbFlushAll _ => True
  | .fdbLookup _ vid => vid < 4096
  | .mdioC45Address _ _ phy reg => phy < 32 ∧ reg < 32
  | .mdioWrite _ _ phy reg => phy < 32 ∧ reg < 32
  | .mdioRead _ _ phy reg => phy < 32 ∧ reg < 32
  | .mdioC22Read _ _ phy reg => phy < 32 ∧ reg < 32
  | .mdioDone data => data < 65536
  | .hdmTxTailWrite _ r v => r < 8 ∧ v < 4096
  | .hdmTxFrame r descs data _ => r < 8 ∧ (∀ d ∈ descs, d.addr < 2 ^ 64 ∧ d.len < 65536 ∧ d.ports < 64 ∧ d.tci < 65536 ∧ d.tsId < 65536) ∧ (∀ b ∈ data, b < 256)
  | .hdmRxDeliver r bufs ecc => r < 8 ∧ ecc < 3 ∧ (∀ b ∈ bufs, b < 65536)
  | .hdmModDelayExpiry _ r => r < 8
  | .hdmDmaError => True
  | .ptpSyncReceived k sender senderPort domain seq _ _ _ _ => k < 6 ∧ sender < 2 ^ 64 ∧ senderPort < 2 ^ 16 ∧ domain < 256 ∧ seq < 2 ^ 16
  | .ptpAnnounceReceived k a => k < 6 ∧ (a.domain < 256 ∧ a.senderId < 2 ^ 64 ∧ a.senderPort < 2 ^ 16 ∧ a.utcOffset < 2 ^ 16)
  | .announceTimeout => True
  | .holdoverExpiry => True
  | .ptpMessageTx k _ seq _ => k < 6 ∧ seq < 2 ^ 16
  | .timHostStateWrite _ v => v < 4
  | .timRateWrite _ w => w < 2 ^ 32
  | .timStepHiWrite _ w => w < 2 ^ 32
  | .timCapture _ => True
  | .timNowLoRead _ => True
  | .timTsPop _ count => count < 2 ^ 24
  | .ppsOutPulse _ => True
  | .ppsInEdge _ _ => True
  | .rtcSecondRollover => True
  | .rtcSetCount _ => True
  | .rtcSetFields _ => True
  | .rtcTrimWindowEnd _ => True
  | .oscillatorStopped => True
  | .slqPacketComplete q kind prio pad words _ => q < 16 ∧ kind < 256 ∧ prio < 8 ∧ pad < 4 ∧ (0 < words.length ∧ words.length ≤ 4096 ∧ ∀ w ∈ words, w < 2 ^ 32)
  | .slqStallResume q => q < 16
  | .slqUplinkRead _ q _ => q < 16
  | .slqDrop _ q => q < 16
  | .slqMark _ q => q < 16
  | .slqRewind _ q => q < 16
  | .slqClearMark _ q => q < 16
  | .slqClrMax _ q => q < 24
  | .slqFlush _ q => q < 24
  | .slqDownlinkData _ d w => d < 8 ∧ w < 2 ^ 32
  | .slqDownlinkCommit _ d len => d < 8 ∧ len < 2 ^ 32
  | .slqAbort _ d => d < 8
  | .slqCellsWrite _ q n => q < 24 ∧ n < 2 ^ 14
  | .slqTimeout q => q < 24
  | .slqEnableWrite _ _ => True
  | .heartbeat _ => True
  | .biduesFrameReceived f => f.sync < 256 ∧ f.kind < 256 ∧ f.seq < 256 ∧ f.claim < 2 ^ 32 ∧ f.role < 4 ∧ f.rank < 256 ∧ f.epoch < 2 ^ 24 ∧ f.serial < 2 ^ 64 ∧ f.cfgId < 2 ^ 32 ∧ f.arg < 256
  | .query f => f.sync < 256 ∧ f.kind < 256 ∧ f.seq < 256 ∧ f.claim < 2 ^ 32 ∧ f.role < 4 ∧ f.rank < 256 ∧ f.epoch < 2 ^ 24 ∧ f.serial < 2 ^ 64 ∧ f.cfgId < 2 ^ 32 ∧ f.arg < 256
  | .answer f => f.sync < 256 ∧ f.kind < 256 ∧ f.seq < 256 ∧ f.claim < 2 ^ 32 ∧ f.role < 4 ∧ f.rank < 256 ∧ f.epoch < 2 ^ 24 ∧ f.serial < 2 ^ 64 ∧ f.cfgId < 2 ^ 32 ∧ f.arg < 256
  | .swapReq f => f.sync < 256 ∧ f.kind < 256 ∧ f.seq < 256 ∧ f.claim < 2 ^ 32 ∧ f.role < 4 ∧ f.rank < 256 ∧ f.epoch < 2 ^ 24 ∧ f.serial < 2 ^ 64 ∧ f.cfgId < 2 ^ 32 ∧ f.arg < 256
  | .swapAck f => f.sync < 256 ∧ f.kind < 256 ∧ f.seq < 256 ∧ f.claim < 2 ^ 32 ∧ f.role < 4 ∧ f.rank < 256 ∧ f.epoch < 2 ^ 24 ∧ f.serial < 2 ^ 64 ∧ f.cfgId < 2 ^ 32 ∧ f.arg < 256
  | .swapNak f => f.sync < 256 ∧ f.kind < 256 ∧ f.seq < 256 ∧ f.claim < 2 ^ 32 ∧ f.role < 4 ∧ f.rank < 256 ∧ f.epoch < 2 ^ 24 ∧ f.serial < 2 ^ 64 ∧ f.cfgId < 2 ^ 32 ∧ f.arg < 256
  | .resign f => f.sync < 256 ∧ f.kind < 256 ∧ f.seq < 256 ∧ f.claim < 2 ^ 32 ∧ f.role < 4 ∧ f.rank < 256 ∧ f.epoch < 2 ^ 24 ∧ f.serial < 2 ^ 64 ∧ f.cfgId < 2 ^ 32 ∧ f.arg < 256
  | .biduesLinkLost => True
  | .comparatorLoad => True
  | .startWaitExpiry => True
  | .queryWaitExpiry => True
  | .swapAckTimeout => True
  | .handover _ => True
  | .take _ => True
  | .epochReset _ => True
  | .clmQuery _ => True
  | .periodicSwap => True
  | .revertSettleExpiry => True
  | .clmEnableWrite _ _ => True
  | .quietTableHour => True
  | .keyLoad => True
  | .keyDerive => True
  | .keyRotate => True
  | .keyErase => True
  | .lcRequest => True
  | .keyQuery => True
  | .keyIslandError => True
  | .tamperSamplingRound opened _ _ => opened < 16
  | .tamperMonitorTrip m _ _ => m < 3
  | .tprCfgWrite _ _ w => w < 2 ^ 32
  | .siltEvent code p0 p1 p2 p3 => code < 2 ^ 16 ∧ p0 < 2 ^ 32 ∧ p1 < 2 ^ 32 ∧ p2 < 2 ^ 32 ∧ p3 < 2 ^ 32
  | .siltRecordWrite => True
  | .sltClear _ key => key < 2 ^ 16
  | .sivModeReq _ v => v < 4
  | .sieveSliceStart _ unplaced => ∀ x ∈ unplaced, x.1 < 256 ∧ x.2 < 1024
  | .sieveSliceEnd _ region piece found => region < 256 ∧ piece < 1024 ∧ found < 4
  | .sieveRoundLimit _ => True
  | .sieveFullDone found _ regions uncleared => (∀ x ∈ found, x.region < 256 ∧ x.piece < 1024 ∧ x.addr < 2 ^ 32 ∧ x.bit < 72 ∧ x.step < 256) ∧ regions < 256 ∧ uncleared ≤ 949
  | .recover _ region => region < 256
  | .recoverDone found _ => ∀ x ∈ found, x.region < 256 ∧ x.piece < 1024 ∧ x.addr < 2 ^ 32 ∧ x.bit < 72 ∧ x.step < 256
  | .clearFailed _ region => region < 256
  | .grgHeader => True
  | .grgBlock => True
  | .grgAbandon => True
  | .grgVerify => True
  | .grgIdleLimit => True
  | .activate _ p => p < 4
  | .confirm _ p => p < 4
  | .rollback _ p => p < 4
  | .campaign _ => True
  | .campaignOffer => True
  | .campaignQueryWait => True
  | .nodeActivate _ => True
  | .stopCampaign _ => True
  | .bootromContainer b data failed => (∀ o ∈ b, o < 256) ∧ (∀ o ∈ data, o < 256) ∧ failed < 3
  | .save _ => True
  | .mrlAutoSave => True
  | .mrlSaveDone _ => True
  | .clear _ key => key < 2 ^ 16
  | .itgScrub m found => m < 4 ∧ (∀ e ∈ found, e.error < 2 ^ 144 ∧ e.page < 256 ∧ e.word < (if m = 0 then 234881024 else 2 ^ 60))
  | .txFrameEnd c _ _ => c < 4
  | .rstNRelease => True
  | .winDataRead _ page => page < 64
  | .macAsnLoRead _ => True
  | .schHighLoRead _ => True
  | .etpBytesLoRead _ k _ => k < 6
  | .pcieLinkUp width speed => (width = 1 ∨ width = 2) ∧ (0 < speed ∧ speed < 4)
  | .dieHotEnd t => t < 2 ^ 16
  | .hdmRxTailWrite _ r v => r < 8 ∧ v < 4096
  | .ptpFollowUpReceived k sender senderPort domain seq _ _ => k < 6 ∧ sender < 2 ^ 64 ∧ senderPort < 2 ^ 16 ∧ domain < 256 ∧ seq < 2 ^ 16
  | .ptpDelayReqReceived k domain seq _ => k < 6 ∧ domain < 256 ∧ seq < 2 ^ 16
  | .ptpDelayRespReceived k sender senderPort domain seq _ _ => k < 6 ∧ sender < 2 ^ 64 ∧ senderPort < 2 ^ 16 ∧ domain < 256 ∧ seq < 2 ^ 16
  | .calendarFractionAdvance => True

end Sys2Proof
end

