-- ==== Sys2Proof/Certificates/Slice0/Obligations.lean ====
section
/-! DEFINITION. The statements for the provers. -/

open Sys2Proof Sys2Proof.Machine

/-- While the HIF page is usable: the loss of LRP_CLK clears LRP_CLK and raises CLK_LOST; its return sets LRP_CLK and lets the LRP take writes; a link in L0 shows LINK_UP with its width and speed; a link that leaves L0 clears LINK_UP and raises LINK_DOWN. No other field changes but those named, the notices of the HIF page and the Pending Bit Array. Width and speed keep their last values on a link that is down (the model's reading, log entry 20). -/
def Obligations.HostLinkEvents : Prop :=
  (∀ s : State, s.atWork 0x01 = true → s.rd HIF_STATUS_LRP_CLK = 1 →
    Completes .lrpClkLost s fun t =>
      t.rd HIF_STATUS_LRP_CLK = 0 ∧ Raises HIF_NOTE_CLK_LOST s t ∧ OnlyFields [HIF_STATUS_LRP_CLK, NOTE_RAW 0x01, MSIX_PBA] s t) ∧
  (∀ s : State, s.atWork 0x01 = true →
    Completes .lrpClkResume s fun t =>
      t.rd HIF_STATUS_LRP_CLK = 1 ∧ t.startup = { s.startup with lrpReady := true } ∧ OnlyFields [HIF_STATUS_LRP_CLK] s t) ∧
  (∀ (s : State) (width speed : Nat), s.atWork 0x01 = true → WellFormed (.pcieLinkUp width speed) →
    Completes (.pcieLinkUp width speed) s fun t =>
      t.rd HIF_STATUS_LINK_UP = 1 ∧ t.rd HIF_STATUS_WIDTH = width ∧ t.rd HIF_STATUS_SPEED = speed ∧
        OnlyFields [HIF_STATUS_LINK_UP, HIF_STATUS_WIDTH, HIF_STATUS_SPEED] s t) ∧
  (∀ s : State, s.atWork 0x01 = true → s.rd HIF_STATUS_LINK_UP = 1 →
    Completes .pcieLinkDown s fun t =>
      t.rd HIF_STATUS_LINK_UP = 0 ∧ Raises HIF_NOTE_LINK_DOWN s t ∧
        OnlyFields [HIF_STATUS_LINK_UP, NOTE_RAW 0x01, MSIX_PBA] s t)

/-- When the host sets a vector's Mask bit, the function's enables, Memory Space Enable and the BARs, they read so; every pending vector that may now leave loses its pending bit, and its message is sent if its aggregate is 1 and dropped if it is 0; a vector that may not leave keeps its bit; the messages leave in the order of the vectors. A write of HIF_EOI sends the vector's message again while its aggregate is 1, or sets its pending bit where it may not leave. Clearing Bus Master Enable while HDM runs stops its rings and raises DMA_ERR. The order of the messages is the model's choice (log entry 21). -/
def Obligations.MsixMessages : Prop :=
  (∀ (s : State) (v : Option Nat) (masked bme en fmask mse : Bool) (bar0 bar2 : Nat), s.atWork 0x01 = true →
    WellFormed (.msixUnmask v masked bme en fmask mse bar0 bar2) → (bme = true ∨ s.rd HIF_STATUS_BME = 0 ∨ s.rd HDM_CTRL_EN = 0) →
    Completes (.msixUnmask v masked bme en fmask mse bar0 bar2) s fun t =>
      t.rd PCIE_MSE = (if mse then 1 else 0) ∧ t.rd PCIE_BAR0 = bar0 ∧ t.rd PCIE_BAR2 = bar2 ∧
      (∀ x ∈ v, t.rd (MSIX_MASK x) = if masked then 1 else 0) ∧
      t.rd HIF_STATUS_BME = (if bme then 1 else 0) ∧ t.rd HIF_STATUS_MSIX_EN = (if en then 1 else 0) ∧
      t.rd MSIX_FUNC_MASK = (if fmask then 1 else 0) ∧
      (∀ x, x < 32 → bitAt (t.rd MSIX_PBA) x = (bitAt (s.rd MSIX_PBA) x && !t.msixOpen x)) ∧
      t.emitted = s.emitted ++
        (((List.range 32).filter fun x => bitAt (s.rd MSIX_PBA) x && t.msixOpen x && s.aggregate x).map fun x =>
          Emission.msix x (s.rd (MSIX_ADDR_LO x) + 2 ^ 32 * s.rd (MSIX_ADDR_HI x)) (s.rd (MSIX_DATA x))) ∧
      ∀ f : Field, (∀ x ∈ v, f.key ≠ (MSIX_MASK x).key) → f.key ≠ HIF_STATUS_BME.key → f.key ≠ HIF_STATUS_MSIX_EN.key →
        f.key ≠ MSIX_FUNC_MASK.key → f.key ≠ MSIX_PBA.key → f.key ≠ PCIE_MSE.key → f.key ≠ PCIE_BAR0.key →
        f.key ≠ PCIE_BAR2.key → t.rd f = s.rd f) ∧
  (∀ (s : State) (v : Option Nat) (masked en fmask mse : Bool) (bar0 bar2 : Nat), s.atWork 0x01 = true →
    WellFormed (.msixUnmask v masked false en fmask mse bar0 bar2) → s.rd HIF_STATUS_BME = 1 → s.rd HDM_CTRL_EN = 1 →
    Completes (.msixUnmask v masked false en fmask mse bar0 bar2) s fun t =>
      t.hdm.stopped = true ∧ Noted HDM_NOTE_DMA_ERR t ∧ t.rd HIF_STATUS_BME = 0 ∧ t.rd PCIE_MSE = (if mse then 1 else 0) ∧
      t.rd PCIE_BAR0 = bar0 ∧ t.rd PCIE_BAR2 = bar2) ∧
  (∀ (s : State) (port : Port) (v : Nat), s.atWork 0x01 = true → WellFormed (.hifEoi port v) → s.aggregate v = true →
    Completes (.hifEoi port v) s fun t =>
      let u := s.hostWrote port false HIF_EOI_VECTOR.addr
      OnlyFields [MSIX_PBA] u t ∧
      if s.msixOpen v then
        t.emitted = u.emitted ++ [.msix v (s.rd (MSIX_ADDR_LO v) + 2 ^ 32 * s.rd (MSIX_ADDR_HI v)) (s.rd (MSIX_DATA v))] ∧
          t.rd MSIX_PBA = u.rd MSIX_PBA
      else bitAt (t.rd MSIX_PBA) v = true ∧ t.emitted = u.emitted)

/-- While the HIF page is usable, an operation of a port on a tag does what its row says: OPEN empties a tag that is not open and selects it; SELECT selects an OPEN tag; DESELECT leaves no tag selected; COMMIT makes an OPEN tag COMMITTING at its raw count and deselects it if it is the selected one; ABORT makes an OPEN tag ABORTED with cause 3 and raises TXN_ABORT; an operation on a tag in another state sets ERR 1 and an undefined operation ERR 2, with no other effect. Every other tag of the port stands. An ABORTED tag's COUNT and the selected tag after an ABORT are the model's reading (log entries 17 and 22). -/
def Obligations.TransactionOperations : Prop :=
  (∀ (s : State) (port : Port) (k : Nat), s.atWork 0x01 = true → WellFormed (.txnOpen port k) →
    Completes (.txnOpen port k) s fun t =>
      if ((s.port port).tag k).isOpen then t.port port = { s.port port with err := 1 }
      else (t.port port).tag k = ⟨.opened, [], 0, 0, 0⟩ ∧ (t.port port).curTag = k ∧ (t.port port).selected = true ∧
        (t.port port).err = 0 ∧ ∀ j, j < 4 → j ≠ k → (t.port port).tag j = (s.port port).tag j) ∧
  (∀ (s : State) (port : Port) (k : Nat), s.atWork 0x01 = true → WellFormed (.txnSelect port k) →
    Completes (.txnSelect port k) s fun t =>
      t.port port =
        if ((s.port port).tag k).state = .opened then { s.port port with curTag := k, selected := true, err := 0 }
        else { s.port port with err := 1 }) ∧
  (∀ (s : State) (port : Port), s.atWork 0x01 = true →
    Completes (.txnDeselect port) s fun t => t.port port = { s.port port with selected := false, curTag := 0, err := 0 }) ∧
  (∀ (s : State) (port : Port) (k c : Nat), s.atWork 0x01 = true → WellFormed (.txnCommit port k c) →
    Completes (.txnCommit port k c) s fun t =>
      if ((s.port port).tag k).state = .opened then
        ((t.port port).tag k).state = .committing ∧ ((t.port port).tag k).staged = ((s.port port).tag k).staged ∧
        (s.reach c).time.raw ≤ ((t.port port).tag k).since ∧
        (t.port port).selected = ((s.port port).selected && (s.port port).curTag != k) ∧ (t.port port).err = 0 ∧
        ∀ j, j < 4 → j ≠ k → (t.port port).tag j = (s.port port).tag j
      else t.port port = { s.port port with err := 1 }) ∧
  (∀ (s : State) (port : Port) (k : Nat), s.atWork 0x01 = true → WellFormed (.txnAbort port k) →
    Completes (.txnAbort port k) s fun t =>
      if ((s.port port).tag k).state = .opened then
        (t.port port).tag k = ⟨.aborted, ((s.port port).tag k).staged, 3, 0, 0⟩ ∧ Noted HIF_NOTE_TXN_ABORT t ∧
        (t.port port).err = 0 ∧ ∀ j, j < 4 → j ≠ k → (t.port port).tag j = (s.port port).tag j
      else t.port port = { s.port port with err := 1 }) ∧
  (∀ (s : State) (port : Port), s.atWork 0x01 = true →
    Completes (.txnUndefinedOp port) s fun t => t.port port = { s.port port with err := 2 })

/-- When a write of a port takes effect in a word, every open tag of the other port that has staged that word becomes ABORTED with cause 1 and names the word; with at least one such tag TXN_ABORT is raised; the other port's other tags and everything of the writing port stand. What COUNT of the aborted tag shows is the model's reading (log entry 17). -/
def Obligations.ConflictAbortsTheOtherPort : Prop :=
  ∀ (s : State) (port : Port) (bar2 : Bool) (addr : Nat),
    let t := s.hostWrote port bar2 addr
    let hit := fun (x : Tag) => x.isOpen && x.stages bar2 addr
    (t.port port.other).tags = (s.port port.other).tags.map (fun x =>
      if hit x then ⟨.aborted, x.staged, 1, conflictInfo bar2 addr, 0⟩ else x) ∧
    t.port port = s.port port ∧
    ((∃ x ∈ (s.port port.other).tags, hit x = true) → Noted HIF_NOTE_TXN_ABORT t) ∧
    ((∀ x ∈ (s.port port.other).tags, hit x = false) → t = s) ∧
    OnlyFields [NOTE_RAW 0x01, MSIX_PBA] s t

/-- A write that a port takes joins the end of its posting buffer while fewer than 64 wait, unless it is staged at once; the 64th entry
raises the port's notice. A write that finds 64 waiting is not taken (the model's reading of the hold, log entry 23). A write under a
selected OPEN tag with nothing waiting before it joins the tag's staged writes, and the 65th aborts the tag with cause 2. A BAR0 access
that is not 32 bits wide or not aligned is discarded, reads 0, and raises BAD_ACCESS. Partial words of a BAR2 write request are
discarded with BAD_ACCESS; a whole word of a curve of SHP takes its value at once where nothing waits before it; a read request returns
the window's word, a partial one with BAD_ACCESS; a request of more than 256 enabled bytes sets BAD_ACCESS, and a write then stores
nothing (the model's choice, log entry 131). A fence value appears at once where nothing waits before it. (Where the spec leaves a
choice, it is the model's: log entry 173.) -/
def Obligations.HostAccesses : Prop :=
  (∀ (s : State) (addr value be : Nat), WellFormed (.lrpWrite addr value be) → s.portTakes .lrp = true →
    (s.lrp.posted ≠ [] ∨ s.wouldStage .lrp ⟨false, addr, value, be⟩ = false) →
    Completes (.lrpWrite addr value be) s fun t =>
      (if s.lrp.posted.length < 64 then t.lrp = { s.lrp with posted := s.lrp.posted ++ [⟨false, addr, value, be⟩] } else t = s) ∧
      (s.lrp.posted.length = 63 → Raises HIF_NOTE_WAIT s t) ∧ (s.lrp.posted.length ≠ 63 → t.regs = s.regs) ∧
      t.pcie = s.pcie ∧ t.win = s.win) ∧
  (∀ (s : State) (addr value : Nat), WellFormed (.bar0Write addr value true) → addr % 4 = 0 → s.portTakes .pcie = true →
    (s.pcie.posted ≠ [] ∨ s.wouldStage .pcie ⟨false, addr, value, 15⟩ = false) →
    Completes (.bar0Write addr value true) s fun t =>
      (if s.pcie.posted.length < 64 then t.pcie = { s.pcie with posted := s.pcie.posted ++ [⟨false, addr, value, 15⟩] }
       else t = s.wakeLink) ∧
      (s.pcie.posted.length = 63 → Raises HIF_NOTE_CREDIT_HOLD s t) ∧ (s.pcie.posted.length ≠ 63 → t.regs = s.regs) ∧
      t.lrp = s.lrp ∧ t.win = s.win) ∧
  (∀ (s : State) (addr value be : Nat), WellFormed (.lrpWrite addr value be) → s.portTakes .lrp = true → s.lrp.posted = [] →
    s.lrp.committing = false → s.wouldStage .lrp ⟨false, addr, value, be⟩ = true → winDataOf addr = none →
    (s.lrp.tag s.lrp.curTag).state = .opened →
    Completes (.lrpWrite addr value be) s fun t =>
      t.win = s.win ∧ t.pcie = s.pcie ∧
      if (s.lrp.tag s.lrp.curTag).staged.length < 64 then
        t.lrp = (s.lrp.setTag s.lrp.curTag fun x => { x with staged := x.staged ++ [⟨false, addr, value, be⟩] }) ∧ t.regs = s.regs
      else ((t.lrp.tag s.lrp.curTag).state = .aborted ∧ (t.lrp.tag s.lrp.curTag).cause = 2 ∧ Raises HIF_NOTE_TXN_ABORT s t)) ∧
  (∀ (s : State) (addr value : Nat), WellFormed (.bar0Write addr value true) → addr % 4 = 0 → s.portTakes .pcie = true →
    s.pcie.posted = [] → s.pcie.committing = false → s.wouldStage .pcie ⟨false, addr, value, 15⟩ = true → winDataOf addr = none →
    (s.pcie.tag s.pcie.curTag).state = .opened →
    Completes (.bar0Write addr value true) s fun t =>
      t.win = s.win ∧ t.lrp = s.lrp ∧
      if (s.pcie.tag s.pcie.curTag).staged.length < 64 then
        t.pcie = (s.pcie.setTag s.pcie.curTag fun x => { x with staged := x.staged ++ [⟨false, addr, value, 15⟩] }) ∧ t.regs = s.regs
      else ((t.pcie.tag s.pcie.curTag).state = .aborted ∧ (t.pcie.tag s.pcie.curTag).cause = 2 ∧ Raises HIF_NOTE_TXN_ABORT s t)) ∧
  (∀ (s : State) (addr value : Nat) (whole : Bool), s.atWork 0x01 = true → (whole = false ∨ addr % 4 ≠ 0) →
    Completes (.bar0Write addr value whole) s fun t =>
      Raises HIF_NOTE_BAD_ACCESS s t ∧ OnlyFields [NOTE_RAW 0x01, MSIX_PBA] s t ∧ t.pcie = s.pcie ∧ t.lrp = s.lrp ∧ t.win = s.win) ∧
  (∀ (s : State) (addr : Nat) (whole : Bool), s.atWork 0x01 = true → (whole = false ∨ addr % 4 ≠ 0) →
    Completes (.bar0Read addr whole) s fun t =>
      t.pcie = { s.pcie with readData := [0] } ∧ Raises HIF_NOTE_BAD_ACCESS s t ∧ OnlyFields [NOTE_RAW 0x01, MSIX_PBA] s t ∧
        t.win = s.win) ∧
  (∀ (s : State) (addr v be : Nat), s.portTakes .pcie = true → WellFormed (.bar2Access true addr [(v, be)]) → be ≠ 15 →
    s.pcie.posted.length < 64 →
    Completes (.bar2Access true addr [(v, be)]) s fun t =>
      Raises HIF_NOTE_BAD_ACCESS s t ∧ OnlyFields [NOTE_RAW 0x01, MSIX_PBA] s t ∧ t.pcie = s.pcie ∧ t.win = s.win) ∧
  (∀ (s : State) (addr v : Nat), s.portTakes .pcie = true → WellFormed (.bar2Access true addr [(v, 15)]) →
    s.pcie.posted ≠ [] → s.pcie.posted.length < 63 →
    Completes (.bar2Access true addr [(v, 15)]) s fun t =>
      t.pcie = { s.pcie with posted := s.pcie.posted ++ [⟨true, addr, v, 15⟩] } ∧ t.regs = s.regs ∧ t.win = s.win) ∧
  (∀ (s : State) (o v : Nat), s.portTakes .pcie = true → s.atWork 0x0A = true → o < 0x4000 → o % 4 = 0 → o % 1024 < 512 → v < 2 ^ 32 →
    s.pcie.posted = [] → s.pcie.committing = false → s.pcie.selected = false →
    Completes (.bar2Access true (0x0A000000 + o) [(v, 15)]) s fun t =>
      t.winWord 0x0A o = v ∧ t.pcie = s.pcie ∧ OnlyFields [NOTE_RAW 0x01, MSIX_PBA] s t ∧
      ∀ a, a < 0x0A000000 + o ∨ 0x0A000000 + o + 4 ≤ a → Memory.read t.win a = Memory.read s.win a) ∧
  (∀ (s : State) (addr v be : Nat), s.portTakes .pcie = true → WellFormed (.bar2Access false addr [(v, be)]) →
    s.live (addr / 0x1000000) = true → addr / 0x1000000 ≠ 0x1A →
    Completes (.bar2Access false addr [(v, be)]) s fun t =>
      (∃ u : State, t.pcie.readData = [u.winWord (addr / 0x1000000) (addr % 0x1000000)] ∧
        u = if be = 15 then s.wakeLink else s.wakeLink.notice HIF_NOTE_BAD_ACCESS) ∧
      (if be = 15 then t.regs = s.regs else Raises HIF_NOTE_BAD_ACCESS s t) ∧ t.win = s.win ∧ t.lrp = s.lrp) ∧
  (∀ (s : State) (write : Bool) (addr : Nat) (words : List (Nat × Nat)), s.portTakes .pcie = true → 256 < enabledBytes words →
    Completes (.bar2Access write addr words) s fun t =>
      Raises HIF_NOTE_BAD_ACCESS s t ∧ OnlyFields [NOTE_RAW 0x01, MSIX_PBA] s t ∧ t.win = s.win ∧
      if write then t.pcie = s.pcie else t.pcie = { s.pcie with readData := t.pcie.readData } ∧ t.pcie.readData.length = words.length) ∧
  (∀ (s : State) (port : Port) (v : Nat), s.portTakes port = true → s.pageRuns 0x01 = true → WellFormed (.hifFenceWrite port v) →
    (s.port port).posted = [] → (s.port port).committing = false →
    Completes (.hifFenceWrite port v) s fun t =>
      let u := s.hostWrote port false 0x01044
      t.port port = { u.port port with fence := v } ∧ t.port port.other = u.port port.other ∧ t.regs = u.regs ∧ t.win = s.win)

/-- The oldest posted write of a port takes effect when nothing holds it, and leaves the buffer; while it is held nothing changes. In the
pages CHN, SPR, SHP, DPT and ITG a write of a whole word gives every field of the word what its access type says, and leaves every
other field alone. At the first epoch tick at least one tick after its COMMIT, a COMMITTING tag becomes DONE with the tick's count, its
staged write takes effect and is counted in the page's COMMITS, and TXN_DONE is raised; a tag whose tick has not come stands. What
holds a write, and the order of ticks, are the model's reading (log entries 24 and 25). (Where the spec leaves a choice, it is the
model's: log entry 177.) -/
def Obligations.DeliveryAndCommit : Prop :=
  (∀ (s : State) (port : Port) (w : PortWrite) (l : List PortWrite), (s.port port).posted = w :: l → s.blocked port w = false →
    Completes (.registerWrite port) s fun t => t = (s.setPort port { s.port port with posted := l }).deliver port w) ∧
  (∀ (s : State) (port : Port) (w : PortWrite) (l : List PortWrite), (s.port port).posted = w :: l → s.blocked port w = true →
    Completes (.registerWrite port) s fun t => t = s) ∧
  (∀ (s : State) (port : Port) (addr v : Nat) (l : List PortWrite),
    (∃ p ∈ [0x03, 0x06, 0x0A, 0x0B, 0x22], ∃ f ∈ pageFields p, f.addr = addr) → winDataOf addr = none → v < 2 ^ 32 →
    (s.port port).posted = ⟨false, addr, v, 15⟩ :: l → (s.port port).committing = false → (s.port port).selected = false →
    s.live (addr / 0x1000) = true → s.pageRuns (addr / 0x1000) = true →
    Completes (.registerWrite port) s fun t =>
      (∀ g ∈ wordFields addr, t.rd g =
        match g.access with
        | .rw => bitsOf v g.lo g.width
        | .rws => bitsOf v g.lo g.width
        | .w1c => s.rd g - (s.rd g &&& bitsOf v g.lo g.width)
        | .w1s => s.rd g ||| bitsOf v g.lo g.width
        | _ => s.rd g) ∧
      (t.port port).posted = l ∧ OnlyFields ([NOTE_RAW 0x01, MSIX_PBA] ++ wordFields addr) s t) ∧
  (∀ (s : State) (c : Nat), s.atWork 0x01 = true →
    (∀ (p : Port) (k : Nat), k < 4 → ((s.port p).tag k).state = .committing → (s.reach c).time.raw < ((s.port p).tag k).tick * 250) →
    Completes (.txnApply c) s fun t => t = s.reach c) ∧
  (∀ (s : State) (c k : Nat) (port : Port), s.atWork 0x01 = true → k < 4 → ((s.port port).tag k).state = .committing →
    ((s.port port).tag k).staged = [] → ((s.port port).tag k).tick * 250 ≤ (s.reach c).time.raw →
    (∀ (p : Port) (j : Nat), j < 4 → ((s.port p).tag j).state = .committing → p = port ∧ j = k) →
    Completes (.txnApply c) s fun t =>
      (t.port port).tag k = ⟨.done, [], 0, ((s.port port).tag k).tick % 2 ^ 32, 0⟩ ∧ Raises HIF_NOTE_TXN_DONE s t ∧
        OnlyFields [NOTE_RAW 0x01, MSIX_PBA] s t) ∧
  (∀ (s : State) (c k addr v : Nat) (port : Port), s.atWork 0x01 = true → k < 4 → ((s.port port).tag k).state = .committing →
    (∃ p ∈ [0x03, 0x06, 0x0A, 0x0B, 0x22], ∃ f ∈ pageFields p, f.addr = addr) → winDataOf addr = none → v < 2 ^ 32 →
    s.live (addr / 0x1000) = true → s.pageRuns (addr / 0x1000) = true →
    ((s.port port).tag k).staged = [⟨false, addr, v, 15⟩] → ((s.port port).tag k).tick * 250 ≤ (s.reach c).time.raw →
    (∀ (p : Port) (j : Nat), j < 4 → ((s.port p).tag j).state = .committing → p = port ∧ j = k) →
    Completes (.txnApply c) s fun t =>
      ((t.port port).tag k).state = .done ∧ ((t.port port).tag k).info = ((s.port port).tag k).tick % 2 ^ 32 ∧
      Noted HIF_NOTE_TXN_DONE t ∧
      t.rd (TXN_COMMITS (addr / 0x1000)) = (s.rd (TXN_COMMITS (addr / 0x1000)) + 1) % 2 ^ 16 ∧
      (∀ g ∈ wordFields addr, t.rd g =
        match g.access with
        | .rw => bitsOf v g.lo g.width
        | .rws => bitsOf v g.lo g.width
        | .w1c => s.rd g - (s.rd g &&& bitsOf v g.lo g.width)
        | .w1s => s.rd g ||| bitsOf v g.lo g.width
        | _ => s.rd g) ∧
      OnlyFields ([NOTE_RAW 0x01, MSIX_PBA, TXN_COMMITS (addr / 0x1000)] ++ wordFields addr) s t)

/-- A read of a SEQ word returns it and takes the port's latch of the block: the words, the count and the FRESH bit as they stand. A read of a block's last word on a port that holds a latch returns the latched word, releases the latch, and clears FRESH exactly if the latched count is the block's count. A read of a *_LO word returns it and latches its *_HI word. A read of *_WIN_DATA returns the window's word at OFFSET and moves OFFSET by one word. Otherwise these reads change no field. -/
def Obligations.LatchingReads : Prop :=
  (∀ (s : State) (port : Port) (b : Nat) (r : ResultBlock), resultBlocks[b]? = some r → s.mirrorValid port = true →
    s.live r.page = true →
    Completes (.seqWordRead port b) s fun t =>
      (t.port port).readData = [s.seqWord r.seq % 2 ^ 32] ∧
      (t.port port).latch r =
        some ⟨r.page, r.block, s.rd r.count, bitAt (s.rd (FRESH r.page)) r.block, (s.wakePort port).blockWords port r⟩ ∧
      t.port port.other = s.port port.other ∧ OnlyFields [] s t) ∧
  (∀ (s : State) (port : Port) (b : Nat) (r : ResultBlock) (l : BlockLatch), resultBlocks[b]? = some r → s.mirrorValid port = true →
    s.live r.page = true → (s.port port).latch r = some l →
    Completes (.blockLastWordRead port b) s fun t =>
      (t.port port).readData = [((l.words.find? fun w => w.1 == r.last).map Prod.snd).getD 0 % 2 ^ 32] ∧
      (t.port port).latch r = none ∧ t.port port.other = s.port port.other ∧
      t.rd (FRESH r.page) = (if l.count = s.rd r.count then clrBit (s.rd (FRESH r.page)) r.block else s.rd (FRESH r.page)) ∧
      OnlyFields [FRESH r.page] s t) ∧
  (∀ (s : State) (port : Port), s.mirrorValid port = true →
    (s.live 0x00 = true → Completes (.sysEpochLoRead port) s fun t => ReadsLow port 0x00064 s t) ∧
    (s.live 0x18 = true → Completes (.timNowLoRead port) s fun t => ReadsLow port 0x18040 s t) ∧
    (s.live 0x04 = true → Completes (.macAsnLoRead port) s fun t => ReadsLow port 0x04058 s t) ∧
    (s.live 0x08 = true → Completes (.schHighLoRead port) s fun t => ReadsLow port 0x08060 s t) ∧
    ∀ k, k < 6 → s.live (0x11 + k) = true →
      (Completes (.etpBytesLoRead port k false) s fun t => ReadsLow port (0x110C0 + 0x1000 * k) s t) ∧
      Completes (.etpBytesLoRead port k true) s fun t => ReadsLow port (0x110C8 + 0x1000 * k) s t) ∧
  (∀ (s : State) (port : Port),
    s.word port 0x00064 = s.epoch % 2 ^ 32 ∧ s.word port 0x00068 = s.epoch / 2 ^ 32 % 2 ^ 32 ∧
    s.word port 0x18040 = codeOf 64 s.time.now % 2 ^ 32 ∧ s.word port 0x18044 = codeOf 64 s.time.now / 2 ^ 32 % 2 ^ 32 ∧
    s.word port 0x04058 = s.asnAt s.moduleTime % 2 ^ 32 ∧ s.word port 0x0405C = s.asnAt s.moduleTime / 2 ^ 32 % 2 ^ 8) ∧
  (∀ (s : State) (port : Port) (f : Field), f ∈ winAddrs → s.mirrorValid port = true → s.live (f.addr / 0x1000) = true →
    Completes (.winDataRead port (f.addr / 0x1000)) s fun t =>
      (t.port port).readData = [(s.wakePort port).winWord (f.addr / 0x1000) (4 * s.rd f) % 2 ^ 32] ∧
      t.rd f = (s.rd f + 1) % 2 ^ f.width ∧ OnlyFields [f] s t ∧ t.win = s.win) ∧
  (∀ (s : State) (port : Port) (addr : Nat), WellFormed (.rcRead port addr) → addr % 4 = 0 → s.mirrorValid port = true →
    s.live (addr / 0x1000) = true → ¬(0x1A100 ≤ addr ∧ addr < 0x1A300 ∧ addr % 0x20 = 8) → latchingLo.contains addr = false →
    winDataOf addr = none → blockOfSeq addr = none → blockOf addr = none → addr % 0x1000 ≠ 0x20 →
    Sparse.get (s.port port).hiLatches addr = none →
    Completes (.rcRead port addr) s fun t =>
      (t.port port).readData = [(s.wakePort port).word port addr % 2 ^ 32] ∧ t.port port.other = s.port port.other ∧ OnlyFields [] s t) ∧
  (∀ (s : State) (addr : Nat), WellFormed (.bar0Read addr true) → addr % 4 = 0 →
    Completes (.bar0Read addr true) s fun t => Completes (.rcRead .pcie addr) s fun u => t = u)

/-- On VIN loss out of HOLD the module enters HOLD: the gate's axis shows HOLD, Sieve is OFF, READY is 0, the write guard is on, posted
writes, tags and requests are gone, every domain but CK_AON is stopped, the PAs are off and what was on air is cut, the key island is
empty, the high-water mark and the accumulators are saved, and while PWR_GOOD is high and the guard is off the loss is recorded; in
HOLD it only forgets the wake source. VBAK loss without VIN returns the always-on fields to their reset values and sets OSF; no other
field changes. At 110 C the module shows HOT with the temperature, raises its notice, records it and, once SUP has started, asks for
QUIET; at 125 C it inhibits both PAs, which takes what is on air off, raises the notice and records it; each is released as the
temperature falls. (Where the spec leaves a choice, it is the model's: log entries 162 and 186.) -/
def Obligations.SupplyAndTemperature : Prop :=
  (∀ (s : State) (cut : LifeCut), s.startup.phase ≠ .unpowered → s.startup.phase ≠ .hold →
    Completes (.vinLoss cut) s fun t =>
      t.startup.phase = .hold ∧ t.startup.vin = false ∧ t.startup.pwrGood = false ∧ t.startup.holdByRequest = false ∧
      t.domains = s.besideAon .stopped ∧ t.modes.power = .hold ∧ t.modes.sieve = .off ∧ t.rd SYS_STATUS_READY = 0 ∧
      t.rd SLT_STATUS_GUARD = 1 ∧ t.lrp = .empty ∧ t.pcie = .empty ∧ t.deferred = [] ∧ t.modeReqs = [] ∧ t.modeWaiting = [] ∧
      t.siltIntake = [] ∧ t.mrl.saving = none ∧ t.hpn.island = none ∧ t.mac.active = [] ∧ t.rd RFE_STATUS_PA0_ON = 0 ∧
      t.rd RFE_STATUS_PA1_ON = 0 ∧ t.sch.highStored = t.sch.high ∧ (∀ c ∈ t.emu.circuits, c.stored = c.now) ∧
      (s.startup.pwrGood = true → s.rd SLT_STATUS_GUARD = 0 → s.siltLog.length < 4096 → ∃ r ∈ t.siltLog, r.event.code = 0x0005)) ∧
  (∀ (s : State) (cut : LifeCut), s.startup.phase = .hold →
    Completes (.vinLoss cut) s fun t => t.startup.phase = .hold ∧ t.startup.vin = false ∧ t.startup.wake = none) ∧
  (∀ s : State, s.startup.vin = false →
    Completes .vbakLoss s fun t =>
      t.startup.phase = .unpowered ∧ t.aonRunning = false ∧ t.startup.holdByRequest = false ∧
      t.cal = ⟨0, 0, 0, true, 0, none, none, false⟩ ∧ t.domains = List.replicate 14 .stopped ∧ t.rd RTC_STATUS_OSF = 1 ∧
      (∀ f ∈ allFields, f.survival = .alwaysOn → f.key ≠ RTC_STATUS_OSF.key → t.rd f = f.reset % 2 ^ f.width) ∧
      ∀ f : Field, (∀ g ∈ allFields, g.survival = .alwaysOn → f.key ≠ g.key) → t.rd f = s.rd f) ∧
  (∀ (s : State) (v : Nat), s.atWork 0x00 = true → WellFormed (.dieHot v) →
    Completes (.dieHot v) s fun t =>
      t.rd SYS_TEMP_DIE = v ∧ t.rd SYS_TEMP_HOT = 1 ∧ Raises SYS_NOTE_HOT s t ∧
      Records 0x0006 (codeOf 32 (signed 16 v)) 0 0 0 s t ∧
      t.modeReqs = (if 4 ≤ s.startup.line ∧ s.startup.phase ≠ .halted false then s.modeReqs ++ [⟨.power .quiet, 0, 0⟩] else s.modeReqs) ∧
      OnlyFields [SYS_TEMP_DIE, SYS_TEMP_HOT, NOTE_RAW 0x00, MSIX_PBA, SLT_LOST, NOTE_RAW 0x1E] s t) ∧
  (∀ (s : State) (v : Nat), s.atWork 0x00 = true → WellFormed (.dieHotEnd v) →
    Completes (.dieHotEnd v) s fun t =>
      t.rd SYS_TEMP_DIE = v ∧ t.rd SYS_TEMP_HOT = 0 ∧ OnlyFields [SYS_TEMP_DIE, SYS_TEMP_HOT] s t ∧ t.modeReqs = s.modeReqs) ∧
  (∀ (s : State) (v : Nat), s.atWork 0x00 = true → WellFormed (.paInhibit v) →
    Completes (.paInhibit v) s fun t =>
      t.rd SYS_TEMP_DIE = v ∧ t.rd SYS_TEMP_PA_INHIBIT = 1 ∧ t.rd RFE_STATUS_INHIBIT = 1 ∧ Raises SYS_NOTE_PA_INHIBIT s t ∧
      Records 0x0007 (codeOf 32 (signed 16 v)) 0 0 0 s t ∧
      t.rd RFE_STATUS_PA0_ON = 0 ∧ t.rd RFE_STATUS_PA1_ON = 0 ∧ t.mac.active = [] ∧ t.mac.budgets = s.mac.budgets ∧
      OnlyFields ([SYS_TEMP_DIE, SYS_TEMP_PA_INHIBIT, RFE_STATUS_INHIBIT, NOTE_RAW 0x00, MSIX_PBA, SLT_LOST, NOTE_RAW 0x1E,
        RFE_STATUS_PA0_ON, RFE_STATUS_PA1_ON] ++ (List.range 4).map RFE_TXCH_STAT_ACTIVE) s t) ∧
  (∀ (s : State) (v : Nat), s.atWork 0x00 = true → WellFormed (.paInhibitEnd v) →
    Completes (.paInhibitEnd v) s fun t =>
      t.rd SYS_TEMP_DIE = v ∧ t.rd SYS_TEMP_PA_INHIBIT = 0 ∧ t.rd RFE_STATUS_INHIBIT = 0 ∧
      OnlyFields [SYS_TEMP_DIE, SYS_TEMP_PA_INHIBIT, RFE_STATUS_INHIBIT] s t)

/-- A pulse of RST_N on a running module, SYS_RESET with its key, the watchdog of a start, VIN on an unpowered module, and a wake from HOLD
each reset the module with their own cause: the fields that a reset clears read their reset values, those that MRAM, the always-on
domain or (at a warm reset) the retention marks keep read as before, every mode axis but the life cycle returns to its value after
reset, and ports, requests and queues are empty. A drive of RST_N in HOLD, without VIN or in a reset lasts into the start; in HOLD it
is noted as the wake source too; its release lets a start that waits at t3 go on, with SYS_SCRATCH after a HOLD by request. SYS_RESET
first gives up control and writes what waits for Silt. The third overrun in a row halts the start instead. (Where the spec leaves a
choice, it is the model's: log entries 43 and 193.) -/
def Obligations.ResetsAndTheirCauses : Prop :=
  (∀ s : State, s.startup.phase ≠ .unpowered → s.startup.phase ≠ .hold → s.startup.phase ≠ .inReset →
    Completes .rstNPulse s fun t => ResetOf .warm 3 s t ∧ t.startup.carrierRst = true) ∧
  (∀ s : State, s.startup.phase = .unpowered ∨ s.startup.phase = .hold ∨ s.startup.phase = .inReset →
    Completes .rstNPulse s fun t => t = { s with startup := { s.startup with carrierRst := true } }) ∧
  (∀ (s : State) (port : Port), s.atWork 0x00 = true →
    Completes (.sysResetWarm port 0x2B1D) s fun t =>
      ResetOf .warm 4 ((s.hostWrote port false SYS_RESET_WARM.addr).resign 3).siltDrain t) ∧
  (∀ (s : State) (port : Port) (key : Nat), s.atWork 0x00 = true → WellFormed (.sysResetWarm port key) → key ≠ 0x2B1D →
    Completes (.sysResetWarm port key) s fun t => t = s.hostWrote port false SYS_RESET_WARM.addr) ∧
  (∀ (s : State) (f : StartFound), s.startup.phase = .unpowered →
    Completes (.coldStart f 0) s fun t => ResetOf .cold 0 s t ∧ t.startup.vin = true) ∧
  (∀ (s : State) (f : StartFound), s.startup.phase = .hold → s.startup.vin = false →
    Completes (.holdWake true f 0) s fun t => ResetOf .holdWake 1 s t ∧ t.startup.vin = true) ∧
  (∀ (s : State) (f : StartFound) (c : Nat), s.startup.phase = .hold → s.startup.vin = true → s.startup.wake = some c → c < 8 →
    Completes (.holdWake false f 0) s fun t => ResetOf .holdWake c s t) ∧
  (∀ s : State, s.startup.phase = .hold → s.startup.vin = true → s.startup.wake = none →
    Completes .rstNHoldWake s fun t => t = { s with startup := { s.startup with wake := some 3, carrierRst := true } }) ∧
  (∀ s : State, s.startup.phase = .inReset → s.startup.line = 2 → s.startup.kind ≠ .holdWake →
    Completes .rstNRelease s fun t =>
      t = { s with startup := { s.startup with carrierRst := false, line := 3, phase := .phaseA } }) ∧
  (∀ s : State, s.startup.phase = .inReset → s.startup.line = 2 → s.startup.kind = .holdWake → s.startup.holdByRequest = true →
    Completes .rstNRelease s fun t =>
      t.startup = { s.startup with carrierRst := false, line := 3, phase := .phaseA } ∧
      t.rd SYS_SCRATCH = s.startup.scratchCopy % 2 ^ 32 ∧ OnlyFields [SYS_SCRATCH] s t) ∧
  (∀ s : State, s.startup.phase ≠ .inReset ∨ s.startup.line ≠ 2 →
    Completes .rstNRelease s fun t => t = { s with startup := { s.startup with carrierRst := false } }) ∧
  (∀ (s : State) (line : Nat), WellFormed (.supWatchdogReset line) → s.starting s.startup.kind = true → s.startup.watchdogRuns < 3 →
    Completes (.supWatchdogReset line) s fun t =>
      ResetOf .warm 5 s t ∧ t.startup.watchdogRuns = s.startup.watchdogRuns + 1 ∧
      t.siltIntake.map SiltEvent.code = (if s.time.state = .free then [0x0008] else [0x1801, 0x0008]) ∧
      ∀ e ∈ t.siltIntake, e.deferred = true) ∧
  (∀ (s : State) (line : Nat), WellFormed (.supWatchdogReset line) → s.starting s.startup.kind = true → 3 ≤ s.startup.watchdogRuns →
    Completes (.supWatchdogReset line) s fun t =>
      t.startup.phase = .halted (Nat.ble 4 s.startup.line) ∧ t.rd SYS_STATUS_READY = 0 ∧ t.modes = s.modes ∧ t.win = s.win)

/-- A start of each kind runs line n once line n - 1 is reached: t1 finds PWR_GOOD, t2 starts the clocks and module time, or where PLN
locks late all clocks but PLN's, and then t4 starts those and module time (log entry 132), t3 makes the SYS and HIF pages usable unless
the carrier holds RST_N, t6 halts on tamper, t7 halts where neither copy of the helper data is good, more than 2,500 bits were
corrected, or the helper data is missing in another state than BLANK, and else shows the corrected bits and the copy used, t10 starts
RSQ and PRP from their active banks where these verify, and t11 sets READY with its notice and its record. What the run finds (the
failing images, the root, tamper) is the command's operand. (Where the spec leaves a choice, it is the model's: log entries 9, 195 and
197.) -/
def Obligations.StartLines : Prop :=
  (∀ (s : State) (f : StartFound) (n : Nat), s.startup.line + 1 = n → n ≤ 11 →
    (s.starting .cold = true → Completes (.coldStart f n) s fun t => t = s.runLine .cold f n) ∧
    (s.starting .holdWake = true → Completes (.holdWake false f n) s fun t => t = s.runLine .holdWake f n) ∧
    (s.starting .warm = true → Completes (.warmStart f n) s fun t => t = s.runLine .warm f n)) ∧
  (∀ (s : State) (f : StartFound), s.startup.line = 10 →
    let ready := fun (t : State) => t.startup.phase = .ready ∧ t.rd SYS_STATUS_READY = 1 ∧ Noted SYS_NOTE_MODE t
    (s.starting .cold = true → Completes (.coldStart f 11) s ready) ∧
    (s.starting .holdWake = true → Completes (.holdWake false f 11) s ready) ∧
    (s.starting .warm = true → Completes (.warmStart f 11) s ready)) ∧
  (∀ (k : StartKind) (s : State) (f : StartFound), s.starting k = true →
    (s.startup.line = 0 → (s.runLine k f 1).startup = { s.startup with pwrGood := true, line := 1, phase := .inReset }) ∧
    (s.startup.line = 1 →
      let t := s.runLine k f 2
      t.startup = { s.startup with line := 2, phase := .inReset } ∧ t.refRuns = true ∧ t.domain 2 = .running ∧
      if f.plnLate = true then t.timeRuns = false ∧ t.time = s.time ∧ t.modes = s.modes
      else
        t.domains = s.besideAon .running ∧ t.modes = { s.modes with time := .free } ∧ t.time.raw = 0 ∧
          (s.calValid = false → t.moduleTimeAt 0 = 0)) ∧
    (s.startup.line = 2 → s.startup.carrierRst = true → s.runLine k f 3 = s) ∧
    (s.startup.line = 2 → s.startup.carrierRst = false →
      let t := s.runLine k f 3
      t.startup = { s.startup with line := 3, phase := .phaseA } ∧ t.live 0x00 = true ∧ t.live 0x01 = true ∧ t.live 0x1E = false) ∧
    (s.startup.line = 3 → s.deferred = [] →
      let t := s.runLine k f 4
      t.timeRuns = true ∧ (s.timeRuns = false → t.time.raw = 0 ∧ t.modes.time = .free) ∧
      (s.bootGood f.badImages [] 0 (s.activeBank 0) = true → t.startup.line = 4 ∧ t.startup.phase = .phaseA)) ∧
    (s.startup.line = 5 → s.deferred = [] → f.tampered = true →
      let t := s.runLine k f 6
      t.startup.phase = .halted true ∧ t.modes.tamper = .alarm ∧ t.rd TPR_STATUS_ALARM = 1 ∧ Noted TPR_NOTE_ALARM t) ∧
    (s.startup.line = 6 → s.modes.life ≠ .scrapped →
      (s.hpn.helper = none ∧ s.modes.life ≠ .blank) ∨
        (s.hpn.helper ≠ none ∧ (f.badHelper.contains 0 && f.badHelper.contains 1 ∨ 2500 < f.flips)) →
      let t := s.runLine k f 7
      t.startup.phase = .halted true ∧ Records 0x0009 3 0 0 0 { s with startup := t.startup } t) ∧
    (s.startup.line = 6 → s.modes.life ≠ .scrapped → s.hpn.helper = some enrolled →
      (f.badHelper.contains 0 && f.badHelper.contains 1) = false → f.flips ≤ 2500 →
      let t := s.runLine k f 7
      t.startup = { s.startup with line := 7, phase := .phaseB } ∧ t.rd HPN_PUF_FLIPS = f.flips ∧
      t.rd HPN_PUF_COPY = (if f.badHelper.contains 0 then 1 else 0) ∧ t.hpn.island.isSome = true ∧
      OnlyFields [HPN_PUF_FLIPS, HPN_PUF_COPY] s t) ∧
    (s.startup.line = 9 → s.bootGood f.badImages [0] 1 (2 + s.activeBank 1) = true →
      s.bootGood f.badImages [0, 1] 2 (4 + s.activeBank 2) = true →
      let t := s.runLine k f 10
      t.startup = { s.startup with line := 10, phase := .phaseC } ∧ t.regs = s.regs ∧ t.grg.images = s.grg.images) ∧
    (s.startup.line = 10 →
      let t := s.runLine k f 11
      t.startup.phase = .ready ∧ t.startup.line = 11 ∧ t.startup.watchdogRuns = 0 ∧ t.startup.activationHold = false ∧
      t.rd SYS_STATUS_READY = 1 ∧ Noted SYS_NOTE_MODE t)) ∧
  (∀ (s : State) (f : StartFound), s.starting .warm = true → s.startup.line = 2 → s.startup.carrierRst = false →
    Completes (.warmStart f 3) s fun t =>
      t = { s with startup := { s.startup with line := 3, phase := .phaseA } } ∧ t.live 0x00 = true ∧ t.live 0x01 = true)

/-- With one request that has not been decided and no write held for a stopped domain: a request that the rules refuse leaves the modes as
they were, puts axis, blocker and result 3 into SYS_REQ_STAT, counts, raises REFUSED and is recorded, and a refused HOLD in SWAPPING
abandons the handover; one that must wait stays in the queue with result 2 and raises WAITING; a power state that is granted is the
power axis's new value with result 1. ALARM closes everything: Sieve OFF, Grog IDLE, role SOLO, ALARM shown and the key slots' READY
gone. Without requests the step does nothing. (Where the spec leaves a choice, it is the model's: log entries 26 and 172.) -/
def Obligations.DecisionStep : Prop :=
  (∀ s : State, s.modeReqs = [] → s.modeWaiting = [] → s.deferred = [] → s.grg.campaign = none →
    Completes .modeDecisionStep s fun t => t = s) ∧
  (∀ (s : State) (v : Power) (c o : Nat), s.mayDecide = true → s.modeWaiting = [] → s.modeReqs = [⟨.power v, c, o⟩] → s.deferred = [] →
    Completes .modeDecisionStep s fun t =>
      t.rd SYS_REQ_STAT_AXIS = 2 ∧
      match s.powerVerdict v with
      | .refuse b =>
        t.modes = s.modes ∧ t.rd SYS_REQ_STAT_BLOCKER = b ∧ t.rd SYS_REQ_STAT_RESULT = 3 ∧
        t.rd SYS_REQ_STAT_REFUSALS = (s.rd SYS_REQ_STAT_REFUSALS + 1) % 2 ^ SYS_REQ_STAT_REFUSALS.width ∧
        Raises SYS_NOTE_REFUSED s t ∧ Records 0x0003 2 b v.code 0 s t ∧ t.modeWaiting = [] ∧
        if v = .hold ∧ s.modes.role = .swapping then t.clm.swap = none ∧ ∀ h ∈ s.clm.swap, Asks (.role (if !h.giving && h.sent then .primary else h.before)) t
        else t.modeReqs = []
      | .wait b =>
        t.modes = s.modes ∧ t.rd SYS_REQ_STAT_BLOCKER = b ∧ t.rd SYS_REQ_STAT_RESULT = 2 ∧ Raises SYS_NOTE_WAITING s t ∧
        t.modeReqs = [] ∧ t.modeWaiting = [⟨.power v, c, o⟩]
      | .grant =>
        t.rd SYS_REQ_STAT_RESULT = 1 ∧ (v ≠ .hold → t.modes.power = v ∧ (v ≠ s.modes.power → Noted SYS_NOTE_MODE t)) ∧
        (v = .hold → s.modes.power ≠ .hold → t.modes.power = .hold ∧ t.startup.phase = .hold ∧ t.startup.holdByRequest = true)) ∧
  (∀ s : State, s.mayDecide = true → s.modeWaiting = [] → s.modeReqs = [⟨.tamper .alarm, 0, 0⟩] → s.deferred = [] →
    s.modes.tamper = .clear →
    Completes .modeDecisionStep s fun t =>
      t.modes.tamper = .alarm ∧ t.modes.sieve = .off ∧ t.modes.grog = .idle ∧ t.modes.role = .solo ∧ t.modes.life = s.modes.life ∧
      t.modes.power = s.modes.power ∧ t.rd TPR_STATUS_ALARM = 1 ∧ t.rd HPN_STATUS_READY = 0 ∧ Noted SYS_NOTE_MODE t ∧
      Noted TPR_NOTE_ALARM t) ∧
  (∀ (s : State) (v : SieveMode) (c o : Nat), s.mayDecide = true → s.modeWaiting = [] → s.modeReqs = [⟨.sieve v, c, o⟩] →
    s.deferred = [] → v ≠ .full →
    Completes .modeDecisionStep s fun t =>
      t.rd SYS_REQ_STAT_AXIS = 5 ∧
      match s.sieveVerdict v with
      | .refuse b => t.modes = s.modes ∧ t.rd SYS_REQ_STAT_BLOCKER = b ∧ t.rd SYS_REQ_STAT_RESULT = 3 ∧ Raises SYS_NOTE_REFUSED s t
      | .wait b => t.modes = s.modes ∧ t.rd SYS_REQ_STAT_BLOCKER = b ∧ t.rd SYS_REQ_STAT_RESULT = 2 ∧ t.modeWaiting = [⟨.sieve v, c, o⟩]
      | .grant => t.rd SYS_REQ_STAT_RESULT = 1 ∧ t.modes = { s.modes with sieve := v })

/-- After t11, a power request for the state in force is granted; QUIET and DOZE are refused with blocker 1 in SCRAPPED; HOLD is refused with blocker 3 in PRIMARY and SWAPPING, and DOZE in SWAPPING; any state but RUN is refused with blocker 4 while an image is activating and with blocker 5 in FULL; RUN is always granted. Before t11 HOLD waits and every other power request is refused, with blocker 7. SLICED is refused with blocker 2 in DOZE, SLICED and FULL with blocker 3 in SWAPPING; OFF is always granted. Which blocker is named where several hold is the model's reading of the order of the axes (log entry 26). -/
def Obligations.ModeMatrixOfPower : Prop :=
  ∀ (s : State) (v : Power),
    (s.startup.line < 11 → s.powerVerdict v = if v = .hold then .wait 7 else .refuse 7) ∧
    (11 ≤ s.startup.line →
      (s.modes.power = v → s.powerVerdict v = .grant) ∧ s.powerVerdict .run = .grant ∧
      (s.modes.power ≠ v → s.modes.life = .scrapped → v = .quiet ∨ v = .doze → s.powerVerdict v = .refuse 1) ∧
      (s.modes.power ≠ .hold → s.modes.role = .primary ∨ s.modes.role = .swapping → s.powerVerdict .hold = .refuse 3) ∧
      (s.modes.power ≠ .doze → s.modes.life ≠ .scrapped → s.modes.role = .swapping → s.powerVerdict .doze = .refuse 3) ∧
      (s.modes.power ≠ v → v ≠ .run → s.modes.life ≠ .scrapped → s.modes.role = .solo ∨ s.modes.role = .standby →
        s.powerVerdict v =
          if s.modes.grog = .activating then .refuse 4 else if s.modes.sieve = .full then .refuse 5 else .grant)) ∧
    s.sieveVerdict .off = .grant ∧
    (s.modes.tamper = .clear → s.modes.life ≠ .scrapped → s.modes.power = .doze → s.sieveVerdict .sliced = .refuse 2) ∧
    (s.modes.tamper = .clear → s.modes.life ≠ .scrapped → s.modes.power = .run → s.modes.role = .swapping →
      s.sieveVerdict .sliced = .refuse 3 ∧ s.sieveVerdict .full = .refuse 3)

/-- A write of SYS_POWER is one request for the decision step from t5 on and is held before it; a write of SIV_MODE is one request, and the value 3 none. Access to a stopped domain starts it; in DOZE a domain idle for 1 ms is gated or stopped as its row says, and other domains stand; work for a page starts the page's domains. -/
def Obligations.ModeRequestsAndDomains : Prop :=
  (∀ (s : State) (port : Port) (v : Nat), s.atWork 0x00 = true → WellFormed (.sysPowerReq port v) →
    Completes (.sysPowerReq port v) s fun t =>
      t.rd SYS_POWER_REQ = v ∧
      if s.startup.line < 5 then t.startup = { s.startup with heldPower := some v } ∧ t.modeReqs = s.modeReqs
      else t.startup = s.startup ∧ t.modeReqs = s.modeReqs ++ [⟨.power (powerOf v), 0, 0⟩]) ∧
  (∀ (s : State) (port : Port) (v : Nat), s.atWork 0x1F = true → WellFormed (.sivModeReq port v) →
    Completes (.sivModeReq port v) s fun t =>
      t.rd SIV_MODE_REQ = v ∧
      t.modeReqs = if v = 3 then s.modeReqs else s.modeReqs ++ [⟨.sieve (sieveOf v), 0, 0⟩]) ∧
  (∀ (s : State) (d : Nat), WellFormed (.domainStartOnDemand d) → s.inService = true → s.deferred = [] →
    Completes (.domainStartOnDemand d) s fun t =>
      t.domain d = .running ∧ (∀ j, j < 14 → j ≠ d → t.domain j = s.domain j) ∧ t.regs = s.regs) ∧
  (∀ (s : State) (d : Nat), WellFormed (.domainIdleStop d) →
    Completes (.domainIdleStop d) s fun t =>
      (∀ j, j < 14 → j ≠ d → t.domain j = s.domain j) ∧
      (s.modes.power = .doze → s.startup.phase = .ready →
        (d = 2 ∨ d = 5 ∨ d = 6 → t.domain d = .gated) ∧ (d = 3 → t.domain d = .stopped) ∧ (d ∉ [2, 3, 5, 6] → t = s)) ∧
      (s.modes.power ≠ .doze → t = s)) ∧
  (∀ (s : State) (p d : Nat), s.modes.power = .doze → s.startup.phase = .ready → d ∈ pageDomains p → (dozeState d).isSome = true →
    (s.wakePage p).domain d = .running)

/-- When the trial timer of an image on trial expires, or on ROLLBACK of a processor on trial, TRIAL is cleared, the other bank becomes active and a warm reset with cause 6 follows; ROLLBACK of a processor not on trial shows RESULT 3 and resets nothing, and in a start that halted before SUP it does nothing. The timer stands still while CK_REF does. PCIE_PERST_N resets the endpoint, HDM and the PCIe path: the link is down, Bus Master, Memory Space and MSI-X are disabled, the BARs are 0, every vector is masked, the HDM registers read their reset values but for the drop count of the frames discarded, the queues to the host are empty, posted writes and the fence stay, and the LRP's path is as before. -/
def Obligations.TrialsRollbackAndPerst : Prop :=
  (∀ s : State, s.grg.trial = none ∨ s.refRuns = false → Completes .trialTimerExpiry s fun t => t = s) ∧
  (∀ (s : State) (p at_ : Nat), s.grg.trial = some (p, at_) → p < 3 → s.refRuns = true →
    Completes .trialTimerExpiry s fun t =>
      t.rd (GRG_BANK_TRIAL p) = 0 ∧ t.rd (GRG_BANK_ACTIVE p) = 1 - s.rd (GRG_BANK_ACTIVE p) ∧ t.grg.trial = none ∧
      t.startup.phase = .inReset ∧ t.startup.kind = .warm ∧ t.startup.line = 2 ∧ t.rd SYS_RESET_CAUSE_CAUSE = 6 ∧
      t.rd SYS_RESET_CAUSE_WARM_COUNT = min 65535 (s.rd SYS_RESET_CAUSE_WARM_COUNT + 1) ∧
      t.modes = ⟨.run, .solo, s.modes.life, .off, .idle, .clear, .free⟩ ∧ t.grg.images = s.grg.images) ∧
  (∀ (s : State) (port : Port) (p : Nat), s.atWork 0x20 = true → p < 4 → s.startup.phase = .halted false →
    Completes (.rollback port p) s fun t => t = s.hostWrote port false GRG_CMD_OP.addr) ∧
  (∀ (s : State) (port : Port) (p : Nat), s.atWork 0x20 = true → p < 4 → s.startup.phase ≠ .halted false →
    Completes (.rollback port p) s fun t =>
      if p < 3 ∧ s.rd (GRG_BANK_TRIAL p) = 1 then
        t.rd (GRG_BANK_TRIAL p) = 0 ∧ t.rd (GRG_BANK_ACTIVE p) = 1 - s.rd (GRG_BANK_ACTIVE p) ∧ t.grg.trial = none ∧
        t.startup.phase = .inReset ∧ t.startup.kind = .warm ∧ t.startup.line = 2 ∧ t.rd SYS_RESET_CAUSE_CAUSE = 6 ∧
        t.rd SYS_RESET_CAUSE_WARM_COUNT = min 65535 (s.rd SYS_RESET_CAUSE_WARM_COUNT + 1) ∧
        t.modes = ⟨.run, .solo, s.modes.life, .off, .idle, .clear, .free⟩ ∧ t.grg.images = s.grg.images
      else t.rd GRG_CMD_STAT_RESULT = 3 ∧ t.grg = s.grg ∧ t.startup = s.startup ∧ t.modes = s.modes) ∧
  (∀ s : State, s.atWork 0x01 = true →
    Completes .pciePerst s fun t =>
      t.rd HIF_STATUS_LINK_UP = 0 ∧ t.rd HIF_STATUS_BME = 0 ∧ t.rd HIF_STATUS_MSIX_EN = 0 ∧ t.rd PCIE_MSE = 0 ∧ t.rd PCIE_BAR0 = 0 ∧
      t.rd PCIE_BAR2 = 0 ∧
      (∀ v, v < 32 → t.rd (MSIX_MASK v) = 1 ∧ t.rd (MSIX_ADDR_LO v) = 0 ∧ t.rd (MSIX_DATA v) = 0) ∧
      t.hdm = .empty ∧ (∀ c, c < 8 → t.swQueue 6 c = []) ∧
      t.rd HDM_RX_DROP = ((List.range 8).map fun c => (s.swQueue 6 c).length).sum % 2 ^ 32 ∧
      (∀ f : Field, f.page = 0x17 → f.key ≠ HDM_RX_DROP.key → t.rd f = f.reset % 2 ^ f.width) ∧
      t.pcie = { PortPath.empty with posted := s.pcie.posted, fence := s.pcie.fence } ∧ t.lrp = s.lrp ∧ Noted HIF_NOTE_PERST t)

/-- A write of a chain centre in range sets it; a new centre counts the frames lost, leaves the chain deaf for 60 us, and disables every
slot that no longer fits; one out of range leaves it and raises CFG_ERR. The AGC moves its attenuation only between frames, except on a
clip, which raises its notice and counts the frames lost. A frame with a good FCS on a slot that hears it counts in the slot and enters
the frame buffer in the order of the end instants; a chain that is deaf or whose antenna's PA is on hears none; one with a bad FCS
counts in FCS_ERR alone, and one that fails the carry check at the hand-off counts in its slot and is lost. A new region is in force
from the slot boundary. When a bucket of a budget ends a new one with 0 takes its place, the oldest leaves, and every other budget
stands. (Where the spec leaves a choice, it is the model's: log entries 133, 136, 163 and 179.) -/
def Obligations.RadioFrontEnds : Prop :=
  (∀ (s : State) (port : Port) (k freq lost : Nat), s.atWork 0x02 = true → WellFormed (.chainRetune port k freq lost) →
    Completes (.chainRetune port k freq lost) s fun t =>
      if 792800 ≤ freq ∧ freq ≤ 946200 then
        t.chainFreq k = freq ∧ t.chainFreq (1 - k) = s.chainFreq (1 - k) ∧
        (freq = s.chainFreq k → t.mac = s.mac ∧ t.win = s.win ∧ t.rd CHN_LOST_BLANK = s.rd CHN_LOST_BLANK) ∧
        (freq ≠ s.chainFreq k →
          s.moduleTime + 60000 ≤ t.mac.deaf.getD k 0 ∧
          t.rd CHN_LOST_BLANK = (s.rd CHN_LOST_BLANK + lost) % 2 ^ CHN_LOST_BLANK.width ∧
          ∀ n, n < 128 → t.slotEnabled n = true → s.slotEnabled n = true ∧ t.slotFault n = 0)
      else t.chainFreq k = s.chainFreq k ∧ Noted RFE_NOTE_CFG_ERR t ∧ t.win = s.win) ∧
  (∀ (s : State) (k att : Nat) (inFrame : Bool), s.atWork 0x02 = true → WellFormed (.agcStep k att inFrame) →
    Completes (.agcStep k att inFrame) s fun t =>
      if inFrame then t = s else t.rd (agcField k) = att ∧ OnlyFields [agcField k] s t) ∧
  (∀ (s : State) (k att lost : Nat), s.atWork 0x02 = true → WellFormed (.adcClipAgcStep k att lost) →
    Completes (.adcClipAgcStep k att lost) s fun t =>
      t.rd (agcField k) = att ∧ Raises (clipNotice k) s t ∧
      t.rd CHN_LOST_AGC = (s.rd CHN_LOST_AGC + lost) % 2 ^ CHN_LOST_AGC.width ∧ (lost ≠ 0 → Raises CHN_NOTE_AGC_LOSS s t)) ∧
  (∀ (s : State) (n sfd ends rssi lqi : Nat) (check : FrameCheck) (m : MeshFrame), s.atWork 0x03 = true →
    WellFormed (.chnFrameReceived n sfd ends rssi lqi check m) →
    Completes (.chnFrameReceived n sfd ends rssi lqi check m) s fun t =>
      match s.tunedFor n sfd ends with
      | none => t = s.wakeSys
      | some (k, freq, phy) =>
        let f : RxFrame := ⟨n, k, freq, phy, sfd, ends, rssi, lqi, m⟩
        (sfd < s.mac.deaf.getD k 0 ∨ s.rd (paField k) = 1 → t = s.wakeSys) ∧
        if s.slotHears n k sfd = false then t = s.wakeSys
        else if check = .badFcs then
          t.rd CHN_FCS_ERR = (s.rd CHN_FCS_ERR + 1) % 2 ^ CHN_FCS_ERR.width ∧ OnlyFields [CHN_FCS_ERR] s t ∧ t.win = s.win ∧
            t.mac = s.mac
        else
          t.w32 0x03 (16 * n + 8) = (s.w32 0x03 (16 * n + 8) + 1) % 2 ^ 32 ∧
          if check = .badCarry then t.mac = s.mac ∧ Noted ITG_NOTE_CARRY t ∧ t.rd CHN_RX_OK = s.rd CHN_RX_OK
          else if s.isDiversityCopy f then t.mac = s.mac ∧ t.rd CHN_DIV_DUP = (s.rd CHN_DIV_DUP + 1) % 2 ^ CHN_DIV_DUP.width
          else if 256 ≤ s.mac.frameBuf.length then
            t.mac = s.mac ∧ t.rd CHN_LOST_BUF = (s.rd CHN_LOST_BUF + 1) % 2 ^ CHN_LOST_BUF.width ∧ Raises CHN_NOTE_OVERFLOW s t
          else t.mac.frameBuf = byEnd f s.mac.frameBuf ∧ t.rd CHN_RX_OK = (s.rd CHN_RX_OK + 1) % 2 ^ CHN_RX_OK.width) ∧
  (∀ s : State, s.atWork 0x02 = true →
    Completes .regionChange s fun t =>
      match s.mac.regionNext with
      | none => t = s
      | some v => t.rd RFE_STATUS_REGION = v % 4 ∧ t.mac = { s.mac with regionNext := none } ∧ OnlyFields [RFE_STATUS_REGION] s t) ∧
  (∀ (s : State) (e ch : Nat) (b : Budget), WellFormed (.budgetBucketAdvance e ch) → findBudget s.mac.budgets (budgetNo e ch) = some b →
    Completes (.budgetBucketAdvance e ch) s fun t =>
      findBudget t.mac.budgets (budgetNo e ch) = some { b with start := s.cal.pulses, buckets := (0 :: b.buckets).take 65 } ∧
      (∀ k, k ≠ budgetNo e ch → findBudget t.mac.budgets k = findBudget s.mac.budgets k) ∧ t.regs = s.regs)

/-- While NTB runs, PROVISION gives a FREE entry with a type and no double address STATE 1, no temperature and no group; BLOCK sets STATE 5
of an entry that is not FREE; UNBLOCK sets STATE 1 of a blocked one; FREE zeroes bytes 0x00 to 0xFB; CLEAR_HEALTH zeroes the failure
run and the two counts; each shows RESULT 0 and every other byte of every window is as it was. A command on an entry in the wrong state
changes no window, shows RESULT 1 and raises CFG_ERR with the entry and reason 2. While EN is 0 each shows RESULT 5 and changes no
window. (Where the spec leaves a choice, it is the model's: log entries 14 and 146.) -/
def Obligations.NodeTableCommands : Prop :=
  (∀ (s : State) (port : Port) (i : Nat), s.atWork 0x05 = true → i < 8192 → s.rd NTB_CTRL_EN = 1 → s.entByte i = 0 → s.entType i ≠ 0 →
    (s.entType i = 1 → ∀ j ∈ s.usedEntries, j ≠ i → s.entType j = 1 → s.entExt j ≠ s.entExt i) →
    Completes (.ntbProvision port i) s fun t =>
      t.entByte i = 1 ∧ (∀ k, k < 4 → t.ent i (0x7C + 2 * k) 2 = 0x8000) ∧ (∀ k, k < 16 → t.ent i (0x50 + k) 1 = 0xFF) ∧
      t.rd NTB_CMD_STAT_RESULT = 0 ∧
      ∀ q a, q < 64 → a < 2 ^ 24 →
        ¬(q = 0x05 ∧ (a = 256 * i + 0x0B ∨ (256 * i + 0x50 ≤ a ∧ a < 256 * i + 0x60) ∨ (256 * i + 0x7C ≤ a ∧ a < 256 * i + 0x84))) →
        t.w8 q a = s.w8 q a) ∧
  (∀ (s : State) (port : Port) (i : Nat), s.atWork 0x05 = true → i < 8192 → s.rd NTB_CTRL_EN = 1 → s.entByte i ≠ 0 →
    Completes (.ntbBlock port i) s fun t =>
      t.entByte i = 5 ∧ t.rd NTB_CMD_STAT_RESULT = 0 ∧ (s.entByte i = 3 → t.dstate i = clrBit (s.dstate i) 0) ∧
      ∀ q a, q < 64 → a < 2 ^ 24 → ¬(q = 0x05 ∧ (a = 256 * i + 0x0B ∨ (s.entByte i = 3 ∧ a = 256 * i + 0xBD))) →
        t.w8 q a = s.w8 q a) ∧
  (∀ (s : State) (port : Port) (i : Nat), s.atWork 0x05 = true → i < 8192 → s.rd NTB_CTRL_EN = 1 → s.entByte i = 5 →
    Completes (.ntbUnblock port i) s fun t =>
      t.entByte i = 1 ∧ t.rd NTB_CMD_STAT_RESULT = 0 ∧
      ∀ q a, q < 64 → a < 2 ^ 24 → ¬(q = 0x05 ∧ a = 256 * i + 0x0B) → t.w8 q a = s.w8 q a) ∧
  (∀ (s : State) (port : Port) (i : Nat), s.atWork 0x05 = true → i < 8192 → s.rd NTB_CTRL_EN = 1 →
    Completes (.ntbFree port i) s fun t =>
      (∀ k, k < 0xFC → t.w8 0x05 (256 * i + k) = 0) ∧ t.rd NTB_CMD_STAT_RESULT = 0 ∧ i ∉ t.ntbBad ∧
      ∀ q a, q < 64 → a < 2 ^ 24 → ¬(q = 0x05 ∧ 256 * i ≤ a ∧ a < 256 * i + 0xFC) → t.w8 q a = s.w8 q a) ∧
  (∀ (s : State) (port : Port) (i : Nat), s.atWork 0x05 = true → i < 8192 → s.rd NTB_CTRL_EN = 1 →
    Completes (.ntbClearHealth port i) s fun t =>
      t.ent i 0x31 1 = 0 ∧ t.ent i 0xE0 4 = 0 ∧ t.ent i 0xE4 4 = 0 ∧ t.rd NTB_CMD_STAT_RESULT = 0 ∧
      ∀ q a, q < 64 → a < 2 ^ 24 → ¬(q = 0x05 ∧ (a = 256 * i + 0x31 ∨ (256 * i + 0xE0 ≤ a ∧ a < 256 * i + 0xE8))) →
        t.w8 q a = s.w8 q a) ∧
  (∀ (s : State) (port : Port) (i : Nat) (c : Instr), s.atWork 0x05 = true → i < 8192 → s.rd NTB_CTRL_EN = 1 →
    ((c = .ntbProvision port i ∧ s.entByte i ≠ 0) ∨ (c = .ntbBlock port i ∧ s.entByte i = 0) ∨
     (c = .ntbUnblock port i ∧ s.entByte i ≠ 5)) →
    Completes c s fun t =>
      t.rd NTB_CMD_STAT_RESULT = 1 ∧ t.rd NTB_ERR_INDEX = i ∧ t.rd NTB_ERR_REASON = 2 ∧ Noted NTB_NOTE_CFG_ERR t ∧ t.win = s.win) ∧
  (∀ (s : State) (port : Port) (i : Nat) (c : Instr), s.atWork 0x05 = true → i < 8192 → s.rd NTB_CTRL_EN = 0 →
    c ∈ [.ntbProvision port i, .ntbBlock port i, .ntbUnblock port i, .ntbFree port i, .ntbClearHealth port i] →
    Completes c s fun t => t.rd NTB_CMD_STAT_RESULT = 5 ∧ t.win = s.win ∧ t.ntbBad = s.ntbBad)

/-- A write of NTB_FIND_HI while NTB runs finds the entry in use with the extended address, and shows FOUND 1 with its index, or FOUND 0. A word written to an entry changes those of its bits that host software may write: locked bytes keep their value unless the entry is FREE or PROVISIONED, and a change of a locked byte raises CFG_ERR with reason 1; every byte outside the word is as it was. -/
def Obligations.NodeTableLookupAndWrites : Prop :=
  (∀ (s : State) (port : Port) (w : Nat), s.atWork 0x05 = true → WellFormed (.ntbFind port w) → s.rd NTB_CTRL_EN = 1 →
    Completes (.ntbFind port w) s fun t =>
      t.rd NTB_FIND_HI = w ∧ t.win = s.win ∧
      match s.usedEntries.find? (fun i => s.entExt i == s.rd NTB_FIND_LO + 2 ^ 32 * w) with
      | some i => t.rd NTB_FIND_RES_FOUND = 1 ∧ t.rd NTB_FIND_RES_INDEX = i % 2 ^ 13
      | none => t.rd NTB_FIND_RES_FOUND = 0) ∧
  (∀ (s : State) (port : Port) (off w : Nat), s.atWork 0x05 = true → WellFormed (.nodeEntryWrite port off w) →
    Completes (.nodeEntryWrite port off w) s fun t =>
      let i := off / 256
      let o := off % 256 / 4 * 4
      (∀ k, k < 4 → t.w8 0x05 (256 * i + o + k) = s.ntbByteAfter i (o + k) (octet w k) % 256) ∧
      (∀ k, k < 4 → ntbLockByte (o + k) = true → s.entState i ≠ 0 → s.entState i ≠ 1 →
        t.w8 0x05 (256 * i + o + k) = s.w8 0x05 (256 * i + o + k)) ∧
      (∀ q a, q < 64 → a < 2 ^ 24 → ¬(q = 0x05 ∧ 256 * i + o ≤ a ∧ a < 256 * i + o + 4) → t.w8 q a = s.w8 q a) ∧
      ((∃ k, k < 4 ∧ s.ntbLockedChange i (o + k) (octet w k) = true) →
        t.rd NTB_ERR_INDEX = i ∧ t.rd NTB_ERR_REASON = 1 ∧ Noted NTB_NOTE_CFG_ERR t) ∧
      t.ntbBad = s.ntbBad.filter (· != i))

/-- A message offered enters the queue as its newest frame, unless mesh transmission is off, it is too long, or its node's entry is closed
(counted); the 1,025th frame drops the oldest of the lowest priority. A slot plan sets the next slot's number, absorbs at most 20 us of
a step, drops the commands that wait where mesh transmission is off, and puts only frames on enabled channels at no more than 16 dBm
into the plan; a realignment is taken at a start of slotframe 0. A transmission that starts is charged to its budget, shows ACTIVE and
its PA, and leaves the module with its octets; where the radio is off, or the set in force has changed and does not admit it, it is
blocked or skipped; over the limit of the new entry even with an empty budget, or out of every entry, it is dropped, and behind a
blocked frame of its priority it stands back. At its end a frame is done, or waits for its acknowledgement, and after the antenna's
last one the PA is off and the chain deaf for 50 us; reflected power raises PA_LOAD. A missed acknowledgement leads to a retry or,
after the last one, to a counted failure. (Where the spec leaves a choice, it is the model's: log entries 58, 161, 164 and 165.) -/
def Obligations.MeshTransmission : Prop :=
  (∀ (s : State) (m : OutMessage) (seq : Nat), s.atWork 0x04 = true →
    Completes (.macQueueEnqueue m seq) s fun t =>
      let f : QFrame := ⟨s.mac.nextSerial, fspPrio m.type, m, seq, 0, s.rd MAC_RETRY_MIN_BE, 0, false, false, false, false, none⟩
      if s.meshTx = false then t = s
      else if 2048 ≤ psduOf m then t.mac = s.mac ∧ t.rd MAC_TOO_LONG = (s.rd MAC_TOO_LONG + 1) % 2 ^ 32 ∧ Noted MAC_NOTE_TOO_LONG t
      else if (match m.dest with
          | .node i => closedTo (s.entState i) || s.rd MAC_TX_FC4 == 0xFFFFFFFF
          | _ => false) = true then
        t.mac = s.mac ∧ t.rd MAC_TX_FAIL = (s.rd MAC_TX_FAIL + 1) % 2 ^ 32
      else if s.mac.queue.length < 1024 then t.mac.queue = s.mac.queue ++ [f] ∧ t.rd MAC_TX_FAIL = s.rd MAC_TX_FAIL
      else ∃ g, lowestOldest (s.mac.queue ++ [f]) = some g ∧
        t.mac.queue = (s.mac.queue ++ [f]).filter (fun q => q.serial != g.serial) ∧ Noted RFE_NOTE_DROP t) ∧
  (∀ (s : State) (c : Nat) (inFrame : List Nat), s.atWork 0x04 = true → s.rd MAC_CTRL_EN = 0 → s.grg.campaign = none →
    Completes (.tschSlotPlan c inFrame) s fun t => t = s.reach c) ∧
  (∀ (s : State) (c : Nat) (inFrame : List Nat), s.atWork 0x04 = true → s.rd MAC_CTRL_EN = 1 → s.grg.campaign = none →
    Completes (.tschSlotPlan c inFrame) s fun t =>
      let u := s.reach c
      let next := u.asnAt (u.moduleTime + 500000)
      (∀ x ∈ t.mac.plan, x ∈ s.mac.plan ∨ x.channel < 4 ∧ s.rd (RFE_TXCH_CFG_EN x.channel) = 1 ∧ x.power ≤ 160) ∧
      (s.macSends = false → ∀ x ∈ t.mac.plan, x ∈ s.mac.plan) ∧
      (s.meshTx = false → ∀ f ∈ t.mac.queue, fspClaimed f.msg.type = true → f.planned = true ∨ f.waiting = true) ∧
      t.mac.slotting = true ∧
      if s.mac.realign = true ∧ (s.sfLength 0 = 0 ∨ next % s.sfLength 0 = 0) then
        t.mac.realign = false ∧ t.mac.follow = none ∧ t.mac.dev = 0 ∧ t.mac.slew = 0 ∧ t.rd MAC_STATUS_ASN_DEV = 0
      else
        t.mac.realign = s.mac.realign ∧ t.mac.follow = s.mac.follow ∧ t.mac.dev = s.mac.dev ∧ t.mac.slew = slewTo0 s.mac.slew ∧
        t.mac.asn = { u with mac := { s.mac with slew := slewTo0 s.mac.slew } }.asnAt (u.moduleTime + 500000)) ∧
  (∀ (s : State) (port : Port), s.atWork 0x04 = true →
    Completes (.macRealign port) s fun t => t.mac = { s.mac with realign := true }) ∧
  (∀ (s : State) (c lost : Nat), s.atWork 0x02 = true → c < 4 →
    Completes (.txFrameStart c lost) s fun t =>
      match s.mac.plan.find? fun x => x.channel == c with
      | none => t = s
      | some x =>
        (∀ y ∈ t.mac.plan, y ∈ s.mac.plan.eraseP fun u => u.channel == c) ∧
        if s.meshTx = false then
          t.mac.active = s.mac.active ∧ t.regs = s.regs ∧ t.emitted = s.emitted ∧
            ∀ n, x.serial = some n → ∀ g ∈ t.mac.queue, g.serial = n → g.planned = false
        else if s.radioOn = false then
          t.mac.active = s.mac.active ∧
          match s.frameOf x with
          | none => t.mac.queue = s.mac.queue ∧ t.rd RFE_SKIP = (s.rd RFE_SKIP + 1) % 2 ^ 32 ∧ Noted RFE_NOTE_SKIP t
          | some f =>
            (∀ g ∈ t.mac.queue, g.serial = f.serial → g.planned = false ∧ g.hold = none ∧ g.counted = true) ∧
              (f.counted = false → t.rd RFE_BLOCKED = (s.rd RFE_BLOCKED + 1) % 2 ^ 32 ∧ Noted RFE_NOTE_BLOCK t)
        else
          match s.txPlace x with
          | none =>
            t.mac.active = s.mac.active ∧ t.rd RFE_OOB = (s.rd RFE_OOB + 1) % 2 ^ 32 ∧ Noted RFE_NOTE_OUT_OF_BAND t ∧
              ∀ f, s.frameOf x = some f → t.mac.queue = s.mac.queue.filter (fun g => g.serial != f.serial)
          | some (e, key) =>
            if e ≠ x.entry ∧ s.overLimit e key x.prio x.charge = true then
              t.mac.active = s.mac.active ∧ t.rd (RFE_DROP x.prio) = (s.rd (RFE_DROP x.prio) + 1) % 2 ^ 32 ∧ Noted RFE_NOTE_DROP t ∧
                ∀ f, s.frameOf x = some f → f.prio = x.prio → t.mac.queue = s.mac.queue.filter (fun g => g.serial != f.serial)
            else if e ≠ x.entry ∧ ((s.frameOf x).map fun f => s.behindBlocked f key) = some true then
              t.mac.active = s.mac.active ∧ t.regs = s.regs ∧ t.emitted = s.emitted ∧
                ∀ n, x.serial = some n → ∀ g ∈ t.mac.queue, g.serial = n → g.planned = false
            else if e = x.entry ∨ s.admits e key x.prio x.charge 0 = true then
              let y := if e = x.entry then x else { x with entry := e, budget := key, power := s.granted c e }
              t.mac.active = s.mac.active ++ [y] ∧ t.mac.queue = s.mac.queue ∧ t.rd (RFE_TXCH_STAT_ACTIVE c) = 1 ∧
              t.rd (RFE_TXCH_STAT_GRANTED c) = y.power % 256 ∧ t.rd (paField x.antenna) = 1 ∧
              t.rd CHN_LOST_BLANK = (s.rd CHN_LOST_BLANK + lost) % 2 ^ 32 ∧ t.rd RFE_LAST_CHARGE = x.charge % 2 ^ 32 ∧
              (∀ k, y.budget = some k → t.budgetUsed k = s.budgetUsed k + x.charge) ∧
              ∃ l, t.emitted = s.emitted ++ l ++
                [.air y ((s.frameOf x).map QFrame.msg) ((s.frameOf x).elim [] fun f => fspOctets f.msg f.seq x.claim) (s.psduOctets y)]
            else
              t.mac.active = s.mac.active ∧
              match s.frameOf x with
              | none => t.rd RFE_SKIP = (s.rd RFE_SKIP + 1) % 2 ^ 32 ∧ Noted RFE_NOTE_SKIP t
              | some f =>
                (∀ g ∈ t.mac.queue, g.serial = f.serial → g.planned = false ∧ g.hold.isSome = true ∧ g.counted = true) ∧
                  (f.counted = false → t.rd RFE_BLOCKED = (s.rd RFE_BLOCKED + 1) % 2 ^ 32 ∧ Noted RFE_NOTE_BLOCK t)) ∧
  (∀ (s : State) (c at_ : Nat) (load : Bool), s.atWork 0x02 = true → c < 4 → s.grg.campaign = none →
    Completes (.txFrameEnd c at_ load) s fun t =>
      (load = true → Noted RFE_NOTE_PA_LOAD t) ∧
      match s.mac.active.find? fun x => x.channel == c with
      | none => t = (s.reach at_).noticeIf load RFE_NOTE_PA_LOAD
      | some x =>
        let on := s.mac.active.eraseP fun u => u.channel == c
        t.mac.active = on ∧ t.rd (RFE_TXCH_STAT_ACTIVE c) = 0 ∧
        ((∀ u ∈ on, u.antenna ≠ x.antenna) → x.antenna < 2 →
          t.rd (paField x.antenna) = 0 ∧ (s.reach at_).moduleTime + 50000 ≤ t.mac.deaf.getD x.antenna 0) ∧
        match s.frameOf x with
        | none => t.mac.queue = s.mac.queue ∧ (x.serial = none → t.rd MAC_TX_OK = (s.rd MAC_TX_OK + 1) % 2 ^ 32)
        | some f =>
          if s.wantsAck f.msg then
            t.mac.queue = s.mac.queue.map (fun g => if g.serial = f.serial then { g with waiting := true, planned := false } else g) ∧
            t.rd MAC_TX_OK = s.rd MAC_TX_OK
          else
            t.mac.queue = s.mac.queue.filter (fun g => g.serial != f.serial) ∧ t.rd MAC_TX_OK = (s.rd MAC_TX_OK + 1) % 2 ^ 32) ∧
  (∀ (s : State) (n : Nat), s.atWork 0x04 = true →
    Completes (.ackWaitExpiry n) s fun t =>
      match s.mac.queue.find? fun f => f.serial == n && f.waiting with
      | none => t = s
      | some f =>
        if s.rd MAC_RETRY_MAX ≤ f.tries then
          t.mac.queue = s.mac.queue.filter (fun g => g.serial != n) ∧ t.rd MAC_TX_FAIL = (s.rd MAC_TX_FAIL + 1) % 2 ^ 32
        else
          t.mac.queue.length = s.mac.queue.length ∧ t.rd MAC_TX_FAIL = s.rd MAC_TX_FAIL ∧ t.draws = s.draws + 1 ∧
          ∀ g ∈ t.mac.queue, g.serial = n → g.waiting = false ∧ g.planned = false ∧ 1 ≤ g.tries ∧ g.be ≤ s.maxBe ∧
            (g.shared = false → g.skip = 0))

/-- The MAC takes the oldest frame of the buffer; one lost to a memory error is dropped. With EN 0, outside the receive window, of another
PAN or for another station it is dropped; a malformed frame, a frame that is not secured as required, a duplicate and a replay are each
counted and change no entry. A new frame from a node counts in MAC_RX_OK and its counter becomes the last one; an acknowledgement from
the node, under a good key and with a counter that is new, completes the frame that waits under its number, and a replayed one is
counted. A partner beacon counts in MAC_RX_OK and returns MISS to 0. A missed one raises MISS up to 3 where the module watches, with
the notice at the first. A join that times out returns its entry from JOINING to PROVISIONED. (Where the spec leaves a choice, it is
the model's: log entries 63, 142 and 166.) -/
def Obligations.MeshReception : Prop :=
  (∀ (s : State) (lost : Bool), s.atWork 0x04 = true → s.mac.frameBuf = [] → Completes (.macFrameReceived lost) s fun t => t = s) ∧
  (∀ (s : State) (f : RxFrame) (rest : List RxFrame), s.atWork 0x04 = true → s.mac.frameBuf = f :: rest →
    Completes (.macFrameReceived true) s fun t =>
      t.mac = { s.mac with frameBuf := rest } ∧ t.spr = s.spr ∧ t.win = s.win ∧ t.rd MAC_RX_OK = s.rd MAC_RX_OK) ∧
  (∀ (s : State) (f : RxFrame) (rest : List RxFrame), s.atWork 0x04 = true → s.mac.frameBuf = f :: rest →
    Completes (.macFrameReceived false) s fun t =>
      let u := { s with mac := { s.mac with frameBuf := rest } }
      t.mac.frameBuf = rest ∧
      if s.rd MAC_CTRL_EN = 0 ∨ s.rxWindow f.sfd = false then t = u
      else if s.macMalformed f.frame then t = u.count MAC_MALFORMED 1
      else if f.frame.pan ≠ s.rd MAC_PAN_PAN_ID then t = u
      else if f.frame.kind = 0 then
        if f.frame.keyIndex = 1 ∧ s.indexKey 1 1 none = true ∧ f.frame.secLevel ≠ 0 ∧ f.frame.micOk = true then
          t.rd MAC_PARTNER_MISS = 0 ∧ t.rd MAC_RX_OK = (s.rd MAC_RX_OK + 1) % 2 ^ 32 ∧
            (s.modes.role = .standby → t.mac.follow.isSome = true)
        else t = u.count MAC_SEC_FAIL 1
      else if f.frame.kind = 2 then
        if f.frame.secLevel = 0 ∨ f.frame.micOk = false ∨ s.knownSource f.frame.src = false then t = u.count MAC_SEC_FAIL 1
        else
          match s.mac.queue.find? fun q => q.waiting && q.serial % 256 == f.frame.seqNo with
          | none => t = u
          | some q =>
            match destEntry q.msg.dest with
            | none => t = u
            | some i =>
              let x := s.fspKey q.msg
              if s.entState i = 5 ∨ s.sourceIs f.frame.src i = false then t = u
              else if s.indexKey x 1 (some i) = false then t = u.count MAC_SEC_FAIL 1
              else if fcJudge (s.rxFc i x) f.frame.counter = 0 then
                t.mac.queue = s.mac.queue.filter (fun g => g.serial != q.serial) ∧ t.rd MAC_TX_OK = (s.rd MAC_TX_OK + 1) % 2 ^ 32 ∧
                  t.rd MAC_RX_OK = (s.rd MAC_RX_OK + 1) % 2 ^ 32
              else if fcJudge (s.rxFc i x) f.frame.counter = 1 then t = u.count MAC_DUP 1
              else
                t.rd MAC_REPLAY = (s.rd MAC_REPLAY + 1) % 2 ^ 32 ∧ Noted MAC_NOTE_REPLAY t ∧ t.win = s.win ∧
                  t.mac.queue = s.mac.queue
      else if s.macAddressed f.frame.dst = false then t = u
      else if f.frame.secLevel < 6 then t = u.count MAC_SEC_FAIL 1
      else True) ∧
  (∀ (s : State) (f : RxFrame) (rest : List RxFrame) (i : Nat), s.atWork 0x04 = true → s.mac.frameBuf = f :: rest →
    s.rd MAC_CTRL_EN = 1 → s.rxWindow f.sfd = true → s.macMalformed f.frame = false → f.frame.pan = s.rd MAC_PAN_PAN_ID →
    f.frame.kind = 1 → s.macAddressed f.frame.dst = true →
    6 ≤ f.frame.secLevel → f.frame.src = .short (0x0100 + i) → i < 8192 → s.entByte i ≠ 0 → s.entType i = 1 →
    Completes (.macFrameReceived false) s fun t =>
      if s.entState i = 5 then t = { s with mac := { s.mac with frameBuf := rest } }
      else if s.indexKey f.frame.keyIndex 1 (some i) = false ∨ f.frame.micOk = false then
        t = { s with mac := { s.mac with frameBuf := rest } }.count MAC_SEC_FAIL 1
      else if fcJudge (s.rxFc i f.frame.keyIndex) f.frame.counter = 0 then
        t.rd MAC_RX_OK = (s.rd MAC_RX_OK + 1) % 2 ^ 32 ∧
        (s.rd SPR_CTRL_EN = 0 → t.rxFc i f.frame.keyIndex = some (f.frame.counter % 2 ^ 32))
      else if fcJudge (s.rxFc i f.frame.keyIndex) f.frame.counter = 1 then
        t.rd MAC_DUP = (s.rd MAC_DUP + 1) % 2 ^ 32 ∧ t.win = s.win ∧ t.rd MAC_RX_OK = s.rd MAC_RX_OK
      else
        t.rd MAC_REPLAY = (s.rd MAC_REPLAY + 1) % 2 ^ 32 ∧ Noted MAC_NOTE_REPLAY t ∧ t.win = s.win ∧ t.rd MAC_RX_OK = s.rd MAC_RX_OK) ∧
  (∀ s : State, s.atWork 0x04 = true →
    Completes .partnerBeaconMiss s fun t =>
      if (s.modes.role = .standby ∨ s.modes.role = .primary ∨ s.rd CLM_STATUS_WAITING = 1) ∧ s.rd MAC_PARTNER_MISS < 3 then
        t.rd MAC_PARTNER_MISS = s.rd MAC_PARTNER_MISS + 1 ∧ (s.rd MAC_PARTNER_MISS = 0 → Noted MAC_NOTE_PARTNER_MISS t)
      else t = s) ∧
  (∀ (s : State) (i : Nat), s.atWork 0x04 = true → i < 8192 →
    Completes (.joinTimeout i) s fun t =>
      if s.entState i = 2 then t.entState i = 1 ∧ (∀ j, j ≠ i → t.entState j = s.entState j) ∧ OnlyFields [] s t else t = s)

/-- With EN and HB_EN set and mesh transmission on, a heartbeat puts a CLAIM command for every node into the queue under the next broadcast
number; otherwise nothing is sent. With EN 1, SPR takes the head of D0: while mesh transmission is off it drops and counts it; a
submission with a header that is too short or a length that does not agree, or with a type or destination that is not allowed, or for
an entry that is not in use, is refused with its reason; a valid PRESENCE_HOLD or other accepted body is sent under its number. With EN
0 none is taken. (Where the spec leaves a choice, it is the model's: log entries 67, 123 and 124.) -/
def Obligations.SegmentProtocolCommands : Prop :=
  (∀ s : State, s.atWork 0x06 = true →
    Completes .claimHeartbeat s fun t =>
      if s.rd SPR_CTRL_EN = 1 ∧ s.rd SPR_CTRL_HB_EN = 1 ∧ s.meshTx = true then
        t.spr = { s.spr with bcSeq := (s.spr.bcSeq + 1) % 65536 } ∧ t.rd SPR_TX_MSG = (s.rd SPR_TX_MSG + 1) % 2 ^ 32 ∧
        (s.mac.queue.length < 1024 → t.mac.queue = s.mac.queue ++
          [⟨s.mac.nextSerial, 2, ⟨0x04, .broadcast, [], []⟩, s.spr.bcSeq, 0, s.rd MAC_RETRY_MIN_BE, 0, false, false, false, false, none⟩])
      else t = s) ∧
  (∀ s : State, s.atWork 0x06 = true → (s.rd SPR_CTRL_EN = 0 ∨ s.slqTake 0 = none) → Completes .sprSubmission s fun t => t = s) ∧
  (∀ (s u : State) (p : Packet), s.atWork 0x06 = true → s.rd SPR_CTRL_EN = 1 → s.slqTake 0 = some (p, u) →
    Completes .sprSubmission s fun t =>
      let o := packetOctets p
      let dest := le o 0 2
      let type := le o 2 1
      t.slqDown = u.slqDown ∧
      if s.meshTx = false then
        t.rd SPR_DROP_CLAIM = (s.rd SPR_DROP_CLAIM + 1) % 2 ^ 32 ∧ Noted SPR_NOTE_DROP_CLAIM t ∧ t.mac = s.mac
      else if o.length < 8 ∨ le o 4 2 ≠ o.length - 8 then
        t.rd SPR_REFUSED = (s.rd SPR_REFUSED + 1) % 2 ^ 32 ∧ t.rd SPR_ERR_REASON = 1 ∧ t.rd SPR_ERR_TYPE = type % 256 ∧
        t.rd SPR_ERR_INDEX = dest % 2 ^ 13 ∧ Noted SPR_NOTE_REFUSED t ∧ t.mac = s.mac
      else if type ∉ [0x02, 0x03, 0x05, 0x06, 0x07, 0x08, 0x0C, 0x0D] ∨ (type = 0x02 ∧ dest ≠ 0xFFFF) ∨
          (type ≠ 0x02 ∧ type ≠ 0x05 ∧ dest = 0xFFFF) then
        t.rd SPR_REFUSED = (s.rd SPR_REFUSED + 1) % 2 ^ 32 ∧ t.rd SPR_ERR_REASON = 2 ∧ Noted SPR_NOTE_REFUSED t ∧ t.mac = s.mac
      else if dest ≠ 0xFFFF ∧ (8192 ≤ dest ∨ s.entType dest ≠ 1 ∨ s.entByte dest = 0) then
        t.rd SPR_REFUSED = (s.rd SPR_REFUSED + 1) % 2 ^ 32 ∧ t.rd SPR_ERR_REASON = 3 ∧ Noted SPR_NOTE_REFUSED t ∧ t.mac = s.mac
      else if bodyFits type (o.drop 8) = false then
        t.rd SPR_REFUSED = (s.rd SPR_REFUSED + 1) % 2 ^ 32 ∧ t.rd SPR_ERR_REASON = 1 ∧ Noted SPR_NOTE_REFUSED t ∧ t.mac = s.mac
      else if dest = 0xFFFF ∧ s.mac.queue.length < 1024 then
        t.rd SPR_TX_MSG = (s.rd SPR_TX_MSG + 1) % 2 ^ 32 ∧ t.spr = { s.spr with bcSeq := (s.spr.bcSeq + 1) % 65536 } ∧
        t.mac.queue = s.mac.queue ++
          [⟨s.mac.nextSerial, 2, ⟨type, .broadcast, o.drop 8, []⟩, s.spr.bcSeq, 0, s.rd MAC_RETRY_MIN_BE, 0, false, false, false, false, none⟩]
      else True) ∧
  (∀ (s : State) (port : Port) (en : Bool), s.atWork 0x06 = true →
    Completes (.sprEnableWrite port en) s fun t =>
      t.rd SPR_CTRL_EN = (if en then 1 else 0) ∧ t.spr = s.spr ∧ t.mac = s.mac ∧ t.win = s.win ∧
      OnlyFields [SPR_CTRL_EN, NOTE_RAW 0x01, MSIX_PBA] s t)

/-- While the link engine runs: in a turn with nothing waiting the module sends a heartbeat with its SEQ, claim, role and rank, and SEQ
rises by one; a frame that is not valid counts in HB_BAD and changes no other field; a valid frame counts in HB_RX, its claim, serial
and CFG_ID are loaded and the link is up. A QUERY is answered in a later turn; an ANSWER that shows control without beacons raises
BEACON_FAULT; a SWAP_REQ makes a STANDBY ask for SWAPPING and any other role refuse; a SWAP_ACK makes the giving module give up its
claim at once and ask for STANDBY; a SWAP_NAK ends the handover with result 3; a RESIGN makes a STANDBY ask for PRIMARY. (Where the
spec leaves a choice, it is the model's: log entries 100 and 172.) -/
def Obligations.BiduesFrames : Prop :=
  (∀ (s : State) (c : Nat), s.live 0x1B = true → s.linkRuns = true → s.clm.out = [] → s.clm.wants = false →
    Completes (.heartbeat c) s fun t =>
      t.clm = { s.clm with seq := (s.clm.seq + 1) % 256 } ∧ t.regs = s.regs ∧
      ∃ f : Bidues, t.emitted = s.emitted ++ [.bidues f (biduesOctets f)] ∧ f.sync = 0xB5 ∧ f.kind = 1 ∧ f.seq = s.clm.seq ∧
        f.claim = s.rd CLM_CLAIM ∧ f.role = s.modes.role.code ∧ f.inControl = s.comparator ∧ f.rank = s.rd CLM_CFG_RANK ∧
        f.epoch = s.rd CLM_EPOCH ∧ f.serial = s.serial ∧ f.cfgId = s.rd CLM_CFG_ID) ∧
  (∀ (s : State) (f : Bidues), s.live 0x1B = true → s.linkRuns = true → s.biduesValid f = false →
    Completes (.biduesFrameReceived f) s fun t =>
      t.rd CLM_HB_BAD = (s.rd CLM_HB_BAD + 1) % 2 ^ 32 ∧ OnlyFields [CLM_HB_BAD] s t ∧ t.clm = s.clm ∧ t.modeReqs = s.modeReqs) ∧
  (∀ (s : State) (f : Bidues), s.live 0x1B = true → s.linkRuns = true → s.biduesValid f = true →
    Completes (.biduesFrameReceived f) s fun t =>
      t.rd CLM_HB_RX = (s.rd CLM_HB_RX + 1) % 2 ^ 32 ∧ t.rd CLM_PARTNER_CLAIM = f.claim % 2 ^ 32 ∧
      t.rd CLM_PARTNER_SERIAL_LO = f.serial % 2 ^ 32 ∧ t.rd CLM_PARTNER_CFG_ID = f.cfgId % 2 ^ 32 ∧ t.rd CLM_STATUS_LINK_UP = 1 ∧
      t.clm.partner = some f) ∧
  (∀ (s : State) (f : Bidues), s.live 0x1B = true → s.linkRuns = true → s.biduesValid { f with kind := 2 } = true →
    Completes (.query f) s fun t => ∃ a, (3, a) ∈ t.clm.out) ∧
  (∀ (s : State) (f : Bidues), s.live 0x1B = true → s.linkRuns = true → s.biduesValid { f with kind := 3 } = true → s.clm.querying = true → s.modes.role = .standby →
    s.rd CLM_CLAIM = 0 → s.rd CLM_STATUS_WAITING = 0 → f.inControl = true → bitAt f.arg 1 = false → bitAt f.arg 0 = true →
    Completes (.answer f) s fun t => t.clm.querying = false ∧ Noted CLM_NOTE_BEACON_FAULT t) ∧
  (∀ (s : State) (f : Bidues), s.live 0x1B = true → s.linkRuns = true → s.biduesValid { f with kind := 4 } = true → f.arg = 0 →
    Completes (.swapReq f) s fun t =>
      if s.modes.role = .standby then Asks (.role .swapping) t else ∃ a, (6, a) ∈ t.clm.out) ∧
  (∀ (s : State) (f : Bidues), s.live 0x1B = true → s.linkRuns = true → s.biduesValid { f with kind := 5 } = true → (s.clm.swap.map Handover.giving) = some true →
    Completes (.swapAck f) s fun t => t.rd CLM_CLAIM = 0 ∧ t.rd SPR_CLAIM = 0 ∧ t.clm.own = 0 ∧ Asks (.role .standby) t) ∧
  (∀ (s : State) (f : Bidues), s.live 0x1B = true → s.linkRuns = true → s.biduesValid { f with kind := 6 } = true → (s.clm.swap.map Handover.giving) = some true →
    Completes (.swapNak f) s fun t =>
      t.clm.swap = none ∧ t.rd CLM_CMD_STAT_RESULT = 3 ∧ Noted CLM_NOTE_SWAP_REFUSED t) ∧
  (∀ (s : State) (f : Bidues), s.live 0x1B = true → s.linkRuns = true → s.biduesValid { f with kind := 7 } = true → s.modes.role = .standby →
    s.clm.swap = none →
    Completes (.resign f) s fun t => Asks (.role .primary) t)

/-- At HB_LOSS periods without a valid frame a link that is up goes down, counts and raises LINK_LOST. A new claim reaches the comparator
when it is loaded. A module that waits at its start without the link and without a beacon of the partner asks for SOLO; a STANDBY whose
QUERY is not answered asks for PRIMARY; a handover that is not acknowledged is refused and the module asks for the role it held. A
driver that its supervisor latches off shows its LATCH bit, raises CON_LATCH and is recorded. (Where the spec leaves a choice, it is
the model's: log entries 98 and 171.) -/
def Obligations.PairingTimersAndDrivers : Prop :=
  (∀ s : State, s.live 0x1B = true → s.rd CLM_STATUS_LINK_UP = 1 →
    Completes .biduesLinkLost s fun t =>
      t.rd CLM_STATUS_LINK_UP = 0 ∧ t.rd CLM_LINK_LOSSES = (s.rd CLM_LINK_LOSSES + 1) % 2 ^ 32 ∧ Noted CLM_NOTE_LINK_LOST t ∧
      t.clm.zeros = 0 ∧ t.clm.querying = false) ∧
  (∀ s : State, s.live 0x1B = true → s.rd CLM_CLAIM ≠ 0 →
    Completes .comparatorLoad s fun t =>
      t.clm.own = s.rd CLM_CLAIM ∧ t.clm.enabled = t.comparator ∧ OnlyFields [CLM_STATUS_LATCH] s t ∧ t.modes = s.modes) ∧
  (∀ s : State, s.live 0x1B = true → s.rd CLM_STATUS_WAITING = 1 → s.rd CLM_STATUS_LINK_UP = 0 → s.clm.heardBeacon = false →
    Completes .startWaitExpiry s fun t => Asks (.role .solo) t ∧ t.regs = s.regs ∧ t.modes = s.modes) ∧
  (∀ s : State, s.live 0x1B = true → s.rd CLM_STATUS_WAITING = 0 ∨ s.clm.heardBeacon = true →
    Completes .startWaitExpiry s fun t => t = s) ∧
  (∀ s : State, s.live 0x1B = true → s.clm.querying = true → s.modes.role = .standby →
    Completes .queryWaitExpiry s fun t =>
      Asks (.role .primary) t ∧ t.clm = { s.clm with querying := false } ∧ t.regs = s.regs ∧ t.modes = s.modes) ∧
  (∀ (s : State) (h : Handover), s.live 0x1B = true → s.clm.swap = some h → h.giving = true → h.sent = true → s.rd CLM_CLAIM ≠ 0 →
    Completes .swapAckTimeout s fun t =>
      t.clm.swap = none ∧ Noted CLM_NOTE_SWAP_REFUSED t ∧ Asks (.role h.before) t ∧ t.rd CLM_CLAIM = s.rd CLM_CLAIM) ∧
  (∀ (s : State) (k : Nat), s.live 0x1B = true → WellFormed (.contactorDriverLatch k) →
    Completes (.contactorDriverLatch k) s fun t =>
      t.rd CLM_STATUS_LATCH = setBit (s.rd CLM_STATUS_LATCH) k ∧ t.driverOn k = false ∧ Noted CLM_NOTE_CON_LATCH t ∧
      Recorded 0x1B02 t ∧ t.clm = s.clm)

/-- HANDOVER in PRIMARY and TAKE in STANDBY, with the link up, both modules READY and one CFG_ID, answer RESULT 0: HANDOVER asks for
SWAPPING, TAKE queues a SWAP_REQ. In another role RESULT is 1; where the link, READY or CFG_ID bars a handover RESULT names the bar and
SWAP_REFUSED is raised. EPOCH_RESET clears the epoch in SOLO with claim 0, else RESULT is 1. QUERY with the link up queues one, else
RESULT is 2. EN 1 starts the engine; EN 0 gives up the claim, with a RESIGN where the engine runs, and in a paired role asks for
STANDBY. A periodic swap whose local date and hour have come asks a PRIMARY that may hand over for SWAPPING; none falls due while DAYS
is 0. With the conditions of a revert held for SETTLE the STANDBY queues its SWAP_REQ. Each local hour the quiet table's word takes the
dispatch count of the hour, and every other word stands. (Where the spec leaves a choice, it is the model's: log entries 101, 102 and
170.) -/
def Obligations.PairingCommands : Prop :=
  (∀ (s : State) (port : Port), s.atWork 0x1B = true → s.modes.role = .primary → MayHandOver s →
    Completes (.handover port) s fun t =>
      t.rd CLM_CMD_STAT_RESULT = 0 ∧ Asks (.role .swapping) t ∧ t.clm = s.clm ∧
        OnlyFields [CLM_CMD_STAT_RESULT, NOTE_RAW 0x01, MSIX_PBA] s t) ∧
  (∀ (s : State) (port : Port), s.atWork 0x1B = true → s.modes.role ≠ .primary ∨ s.swapBar ≠ 0 →
    Completes (.handover port) s fun t =>
      t.modeReqs = s.modeReqs ∧ t.rd CLM_CMD_STAT_RESULT = (if s.modes.role ≠ .primary then 1 else s.swapBar) ∧
        (s.modes.role = .primary → Noted CLM_NOTE_SWAP_REFUSED t)) ∧
  (∀ (s : State) (port : Port), s.atWork 0x1B = true → s.modes.role = .standby → MayHandOver s →
    Completes (.take port) s fun t =>
      t.rd CLM_CMD_STAT_RESULT = 0 ∧ (4, 1) ∈ t.clm.out ∧ t.modeReqs = s.modeReqs ∧
        OnlyFields [CLM_CMD_STAT_RESULT, NOTE_RAW 0x01, MSIX_PBA] s t) ∧
  (∀ (s : State) (port : Port), s.atWork 0x1B = true → s.modes.role ≠ .standby ∨ s.swapBar ≠ 0 →
    Completes (.take port) s fun t =>
      t.clm = s.clm ∧ t.rd CLM_CMD_STAT_RESULT = (if s.modes.role ≠ .standby then 1 else s.swapBar) ∧
        (s.modes.role = .standby → Noted CLM_NOTE_SWAP_REFUSED t)) ∧
  (∀ (s : State) (port : Port), s.atWork 0x1B = true → s.modes.role = .solo → s.rd CLM_CLAIM = 0 →
    Completes (.epochReset port) s fun t =>
      t.rd CLM_EPOCH = 0 ∧ t.rd CLM_CMD_STAT_RESULT = 0 ∧ OnlyFields [CLM_EPOCH, CLM_CMD_STAT_RESULT, NOTE_RAW 0x01, MSIX_PBA] s t) ∧
  (∀ (s : State) (port : Port), s.atWork 0x1B = true → s.modes.role ≠ .solo ∨ s.rd CLM_CLAIM ≠ 0 →
    Completes (.epochReset port) s fun t => t.rd CLM_EPOCH = s.rd CLM_EPOCH ∧ t.rd CLM_CMD_STAT_RESULT = 1) ∧
  (∀ (s : State) (port : Port), s.atWork 0x1B = true → s.rd CLM_STATUS_LINK_UP = 1 →
    Completes (.clmQuery port) s fun t =>
      t.rd CLM_CMD_STAT_RESULT = 0 ∧ (2, 1) ∈ t.clm.out ∧ OnlyFields [CLM_CMD_STAT_RESULT, NOTE_RAW 0x01, MSIX_PBA] s t) ∧
  (∀ (s : State) (port : Port), s.atWork 0x1B = true → s.rd CLM_STATUS_LINK_UP = 0 →
    Completes (.clmQuery port) s fun t => t.rd CLM_CMD_STAT_RESULT = 2 ∧ t.clm = s.clm) ∧
  (∀ (s : State) (port : Port), s.atWork 0x1B = true →
    Completes (.clmEnableWrite port true) s fun t =>
      t.rd CLM_CTRL_EN = 1 ∧ t.clm = s.clm ∧ t.modeReqs = s.modeReqs ∧ OnlyFields [CLM_CTRL_EN, NOTE_RAW 0x01, MSIX_PBA] s t) ∧
  (∀ (s : State) (port : Port), s.atWork 0x1B = true → s.rd CLM_CLAIM ≠ 0 →
    Completes (.clmEnableWrite port false) s fun t =>
      t.rd CLM_CTRL_EN = 0 ∧ t.rd CLM_CLAIM = 0 ∧ t.rd SPR_CLAIM = 0 ∧ t.clm.own = 0 ∧
      (s.modes.role ≠ .solo → Asks (.role .standby) t) ∧
      (s.linkRuns = true → ∃ f : Bidues, .bidues f (biduesOctets f) ∈ t.emitted ∧ f.kind = 7 ∧ f.arg = 4 ∧ f.claim = 0)) ∧
  (∀ (s : State) (port : Port), s.atWork 0x1B = true → s.rd CLM_CLAIM = 0 →
    Completes (.clmEnableWrite port false) s fun t =>
      t.rd CLM_CTRL_EN = 0 ∧ t.clm.swap = none ∧ OnlyFields [CLM_CTRL_EN, NOTE_RAW 0x01, MSIX_PBA] s t) ∧
  (∀ (s : State) (d : Int), s.live 0x1B = true → s.rd CLM_SWAP_DAYS ≠ 0 → s.clm.swapFrom = some d → s.calValid = true →
    s.swapAt d = (s.today, s.localHour) → s.modes.role = .primary → MayHandOver s →
    Completes .periodicSwap s fun t =>
      Asks (.role .swapping) t ∧ t.clm = s.clm ∧ t.regs = s.regs ∧ t.modes = s.modes) ∧
  (∀ s : State, s.live 0x1B = true → s.rd CLM_SWAP_DAYS = 0 → Completes .periodicSwap s fun t => t = s) ∧
  (∀ (s : State) (f : Bidues) (at_ : Nat), s.live 0x1B = true → s.rd CLM_CTRL_PREFERRED = 1 → s.rd CLM_CTRL_REVERT_EN = 1 →
    s.modes.role = .standby → s.clm.partner = some f → f.role = 1 → f.preferred = false → MayHandOver s →
    s.clm.settle = some at_ → at_ + s.settleTime ≤ s.moduleTime →
    Completes .revertSettleExpiry s fun t =>
      (4, 1) ∈ t.clm.out ∧ t.clm.settle = some s.moduleTime ∧ t.regs = s.regs ∧ t.modes = s.modes) ∧
  (∀ s : State, s.live 0x1B = true →
    Completes .quietTableHour s fun t =>
      let h := (((s.cal.secs : Int) + s.schOffsetNow - 3600 + 5 * 86400) / 3600 % 168).toNat
      t.clm.mark = (s.rd DPT_CHANGES + s.rd DPT_WIRED) % 2 ^ 32 ∧ t.clm.hours = s.clm.hours + 1 ∧ t.regs = s.regs ∧
      t.quiet h = ((s.rd DPT_CHANGES + s.rd DPT_WIRED) % 2 ^ 32 + 2 ^ 32 - s.clm.mark) % 2 ^ 32 ∧
      ∀ q a, (q ≠ 0x1B ∨ a < 4 * h ∨ 4 * h + 4 ≤ a) → q < 64 → a < 2 ^ 24 → t.w8 q a = s.w8 q a)

/-- While EN is 1, a producer's packet that fits and whose carry check holds becomes the last eligible packet of its queue, and AVAIL is
raised if the queue had none; under STALL one that does not fit waits with its producer behind those that wait; one whose carry check
fails is dropped and counted. While EN is 0 the packet is dropped. A read of a queue gives its owner the next word; the first read
gives the length word of the head and makes the port its owner; the read of the last word consumes the packet, which is held while a
mark stands; a read by the other port gives the idle word with ERR reason 3; an empty queue gives the idle word. Other queues stand.
(Where the spec leaves a choice, it is the model's: log entries 18 and 96.) -/
def Obligations.UplinkQueues : Prop :=
  (∀ (s : State) (q kind prio pad : Nat) (words : List Nat) (carry : Bool), s.atWork 0x1A = true → q < 7 → s.rd SLQ_CTRL_EN = 1 →
    (s.queue q).stalled = [] → (s.queue q).level + cellsOf words.length ≤ s.rd (qCells q) →
    Completes (.slqPacketComplete q kind prio pad words carry) s fun t =>
      (∀ j, j < 24 → j ≠ q → t.queue j = s.queue j) ∧
      if carry then
        t.queue q = { s.queue q with
            eligible := (s.queue q).eligible ++ [⟨(s.queue q).nextSerial, kind, prio, pad, words⟩]
            timerFired := (s.queue q).timerFired && !(s.queue q).ready.isEmpty } ∧
          ((s.queue q).ready = [] → Noted (SLQ_NOTE_AVAIL q) t)
      else t.queue q = s.queue q ∧ t.rd (qStatCorrupt q) = 1 ∧ Noted SLQ_NOTE_CORRUPT t ∧
        t.rd (qDrops q) = (s.rd (qDrops q) + 1) % 2 ^ (qDrops q).width) ∧
  (∀ (s : State) (q kind prio pad : Nat) (words : List Nat) (carry : Bool), s.atWork 0x1A = true → 2 ≤ q → q < 7 →
    s.rd SLQ_CTRL_EN = 1 → s.rd (qPolicy q) = 0 →
    ((s.queue q).stalled ≠ [] ∨ s.rd (qCells q) < (s.queue q).level + cellsOf words.length) →
    Completes (.slqPacketComplete q kind prio pad words carry) s fun t =>
      t.queue q = { s.queue q with stalled := (s.queue q).stalled ++ [(⟨0, kind, prio, pad, words⟩, carry)] } ∧
      (∀ j, j < 24 → j ≠ q → t.queue j = s.queue j) ∧ t.rd (qDrops q) = s.rd (qDrops q)) ∧
  (∀ (s : State) (q kind prio pad : Nat) (words : List Nat) (carry : Bool), s.atWork 0x1A = true → q < 7 → s.rd SLQ_CTRL_EN = 0 →
    Completes (.slqPacketComplete q kind prio pad words carry) s fun t =>
      (∀ j, j < 24 → t.queue j = s.queue j) ∧ t.rd (qStatDropped q) = 1 ∧ Noted SLQ_NOTE_DROP t ∧
      t.rd (qDrops q) = (s.rd (qDrops q) + 1) % 2 ^ (qDrops q).width) ∧
  (∀ (s : State) (port : Port) (q : Nat), s.atWork 0x1A = true → WellFormed (.slqUplinkRead port q false) → s.rd SLQ_CTRL_EN = 1 →
    Completes (.slqUplinkRead port q false) s fun t =>
      (∀ j, j < 24 → j ≠ q → t.queue j = s.queue j) ∧
      match (s.queue q).owned with
      | none =>
        match (s.queue q).nextPacket with
        | none => (t.port port).readData = [0x8000] ∧ t.queue q = s.queue q
        | some p => (t.port port).readData = [p.lengthWord] ∧ (t.queue q).owned = some ⟨p, 0, port, false⟩ ∧
            (t.queue q).lastRead port = some p.serial ∧ (t.queue q).held = (s.queue q).held
      | some o =>
        if o.port ≠ port then
          (t.port port).readData = [0x8000] ∧ t.queue q = s.queue q ∧ t.rd SLQ_ERR_QUEUE = q ∧ t.rd SLQ_ERR_REASON = 3 ∧
            Noted SLQ_NOTE_ERR t
        else
          (t.port port).readData = [if o.corrupt then 0x8000 else o.packet.words.getD o.pos 0] ∧
          if o.pos + 1 < o.packet.words.length then t.queue q = { s.queue q with owned := some { o with pos := o.pos + 1 } }
          else (t.queue q).owned = none ∧ (t.queue q).marked = (s.queue q).marked ∧
            (t.queue q).held =
              if (s.queue q).marked && !(s.queue q).holds o.packet then (s.queue q).held ++ [o.packet] else (s.queue q).held)

/-- On a queue whose producer is not stalled: DROP consumes the packet that the port owns. MARK on the packet in progress holds it and
frees what was held before it. REWIND returns the held packets, and a packet in progress or to be read again that is not held goes back
to the eligible ones; the timer of the spell stands. CLEAR_MARK frees every held packet. FLUSH discards every packet and clears the
mark. A port that does not own the packet in progress changes nothing by MARK, REWIND or CLEAR_MARK. (The frame of each command leaves
every other queue's page and every other unit alone.) (Where the spec leaves a choice, it is the model's: log entry 18.) -/
def Obligations.RewindMarks : Prop :=
  (∀ (s : State) (port : Port) (q : Nat), s.atWork 0x1A = true → q < 16 → (s.queue q).stalled = [] →
    Completes (.slqDrop port q) s fun t =>
      (∀ j, j < 24 → j ≠ q → t.queue j = s.queue j) ∧
      t.queue q =
        match (s.queue q).owned with
        | some o => if o.port = port then (s.queue q).consume o.packet else s.queue q
        | none => s.queue q) ∧
  (∀ (s : State) (port : Port) (q : Nat) (o : OwnedPacket), s.atWork 0x1A = true → q < 16 → (s.queue q).stalled = [] →
    (s.queue q).owned = some o →
    Completes (.slqMark port q) s fun t =>
      (∀ j, j < 24 → j ≠ q → t.queue j = s.queue j) ∧
      t.queue q =
        if o.port = port then
          { s.queue q with
            marked := true
            held := if (s.queue q).holds o.packet then fromSerial (s.queue q).held o.packet.serial else [o.packet] }
        else s.queue q) ∧
  (∀ (s : State) (port : Port) (q : Nat), s.atWork 0x1A = true → q < 16 →
    Completes (.slqRewind port q) s fun t =>
      (∀ j, j < 24 → j ≠ q → t.queue j = s.queue j) ∧
      if (s.queue q).takesMark port = true ∧ (s.queue q).marked = true then
        (t.queue q).owned = none ∧ (t.queue q).replay = (s.queue q).held ∧ (t.queue q).held = (s.queue q).held ∧
        (t.queue q).timerFired = (s.queue q).timerFired ∧
        (t.queue q).eligible =
          (match (s.queue q).owned with
           | none => []
           | some o => if (s.queue q).holds o.packet then [] else [o.packet]) ++
          ((s.queue q).replay.filter fun p => !(s.queue q).holds p) ++ (s.queue q).eligible
      else t.queue q = s.queue q) ∧
  (∀ (s : State) (port : Port) (q : Nat), s.atWork 0x1A = true → q < 16 → (s.queue q).stalled = [] →
    Completes (.slqClearMark port q) s fun t =>
      (∀ j, j < 24 → j ≠ q → t.queue j = s.queue j) ∧
      if (s.queue q).takesMark port then
        (t.queue q).held = [] ∧ (t.queue q).marked = false ∧ (t.queue q).eligible = (s.queue q).eligible ∧
        (t.queue q).owned = (s.queue q).owned
      else t.queue q = s.queue q) ∧
  (∀ (s : State) (port : Port) (q : Nat), s.atWork 0x1A = true → q < 24 → (s.queue q).stalled = [] →
    Completes (.slqFlush port q) s fun t =>
      (∀ j, j < 24 → j ≠ q → t.queue j = s.queue j) ∧
      (t.queue q).eligible = [] ∧ (t.queue q).owned = none ∧ (t.queue q).held = [] ∧ (t.queue q).replay = [] ∧
      (t.queue q).marked = false ∧ (t.queue q).building = (s.queue q).building)

/-- A write to a downlink queue with a consumer opens a packet or appends to the port's own; while the other port's packet is open it is
discarded with ERR reason 3, and where the full queue stalls its writer it waits in the posting buffer. A COMMIT whose length agrees
completes the packet, and one whose carry check then fails is dropped whole; one that does not drops it with ERR reason 1. ABORT drops
the open packet. CELLS takes effect only at LEVEL 0 within 8,192 cells, else ERR reason 5. CLR_MAX takes the current level. A timer
that runs out sets TO and raises TIMEOUT once for a spell. A stalled producer whose first packet does not fit goes on waiting, and one
that fits is completed if its carry check holds; EN 0 drops and counts what waits with producers. LEVEL, to which CELLS and CLR_MAX
look, takes in every cell that a stalled producer has reserved. (Where the spec leaves a choice, it is the model's: log entries 96 and
175.) -/
def Obligations.DownlinkQueues : Prop :=
  (∀ (s : State) (port : Port) (d w : Nat), s.atWork 0x1A = true → d < 3 → w < 2 ^ 32 → s.rd SLQ_CTRL_EN = 1 →
    (s.queue (16 + d)).building = none → (s.queue (16 + d)).level + 1 ≤ s.rd (SLQ_D_CFG_CELLS d) →
    Completes (.slqDownlinkData port d w) s fun t =>
      t.queue (16 + d) = { s.queue (16 + d) with building := some ⟨[w], port, false⟩ } ∧
      ∀ j, j < 24 → j ≠ 16 + d → t.queue j = s.queue j) ∧
  (∀ (s : State) (port : Port) (d w : Nat) (b : OpenPacket), s.atWork 0x1A = true → d < 3 → w < 2 ^ 32 → s.rd SLQ_CTRL_EN = 1 →
    s.rd (SLQ_D_CFG_CELLS d) ≠ 0 → (s.queue (16 + d)).building = some b → b.port = port → b.dead = false →
    b.words.length < 4096 → cellsOf (b.words.length + 1) ≤ s.rd (SLQ_D_CFG_CELLS d) →
    (s.queue (16 + d)).level - cellsOf b.words.length + cellsOf (b.words.length + 1) ≤ s.rd (SLQ_D_CFG_CELLS d) →
    Completes (.slqDownlinkData port d w) s fun t =>
      t.queue (16 + d) = { s.queue (16 + d) with building := some { b with words := b.words ++ [w] } }) ∧
  (∀ (s : State) (port : Port) (d w : Nat) (b : OpenPacket), s.atWork 0x1A = true → d < 3 → w < 2 ^ 32 → s.rd SLQ_CTRL_EN = 1 →
    s.rd (SLQ_D_CFG_CELLS d) ≠ 0 → (s.queue (16 + d)).building = some b → b.port ≠ port →
    Completes (.slqDownlinkData port d w) s fun t =>
      t.queue (16 + d) = s.queue (16 + d) ∧ t.rd SLQ_ERR_QUEUE = 16 + d ∧ t.rd SLQ_ERR_REASON = 3 ∧ Noted SLQ_NOTE_ERR t) ∧
  (∀ (s : State) (port : Port) (d len : Nat) (b : OpenPacket), s.atWork 0x1A = true → d < 3 → len < 2 ^ 32 → s.rd SLQ_CTRL_EN = 1 →
    s.rd (SLQ_D_CFG_CELLS d) ≠ 0 → (s.queue (16 + d)).building = some b → b.port = port → b.dead = false →
    Completes (.slqDownlinkCommit port d len) s fun t =>
      (t.queue (16 + d)).building = none ∧
      if bitsOf len 0 13 = b.words.length then
        ∃ n, (t.queue (16 + d)).eligible =
          (s.queue (16 + d)).eligible ++ [⟨n, bitsOf len 24 8, bitsOf len 16 3, bitsOf len 13 2, b.words⟩]
      else (t.queue (16 + d)).eligible = (s.queue (16 + d)).eligible ∧ t.rd SLQ_ERR_REASON = 1 ∧ Noted SLQ_NOTE_ERR t ∧
        t.rd (SLQ_D_DROPS d) = (s.rd (SLQ_D_DROPS d) + 1) % 2 ^ 32) ∧
  (∀ (s : State) (port : Port) (d : Nat), s.atWork 0x1A = true → d < 8 →
    Completes (.slqAbort port d) s fun t =>
      t.queue (16 + d) = { s.queue (16 + d) with building := none } ∧
      t.rd (SLQ_D_DROPS d) =
        match (s.queue (16 + d)).building with
        | none => s.rd (SLQ_D_DROPS d)
        | some b => if b.dead then s.rd (SLQ_D_DROPS d) else (s.rd (SLQ_D_DROPS d) + 1) % 2 ^ 32) ∧
  (∀ (s : State) (port : Port) (q n : Nat), s.atWork 0x1A = true → WellFormed (.slqCellsWrite port q n) →
    Completes (.slqCellsWrite port q n) s fun t =>
      (∀ j, j < 24 → t.queue j = s.queue j) ∧
      if s.slqLevel q = 0 ∧ s.slqTotalCells - s.rd (qCells q) + n ≤ 8192 then t.rd (qCells q) = n
      else t.rd (qCells q) = s.rd (qCells q) ∧ t.rd SLQ_ERR_QUEUE = q ∧ t.rd SLQ_ERR_REASON = 5 ∧ Noted SLQ_NOTE_ERR t) ∧
  (∀ (s : State) (port : Port) (q : Nat), s.atWork 0x1A = true → q < 24 → s.slqLevel q < 2 ^ 14 →
    Completes (.slqClrMax port q) s fun t => t.rd (qMax q) = s.slqLevel q ∧ ∀ j, j < 24 → t.queue j = s.queue j) ∧
  (∀ (s : State) (q : Nat), s.atWork 0x1A = true → q < 24 → s.rd SLQ_CTRL_EN = 1 → s.rd (qTimeout q) ≠ 0 → (s.queue q).ready ≠ [] →
    (s.queue q).timerFired = false →
    Completes (.slqTimeout q) s fun t =>
      t.queue q = { s.queue q with timerFired := true } ∧ t.rd (qStatTo q) = 1 ∧ Raises SLQ_NOTE_TIMEOUT s t ∧
      OnlyFields [qStatTo q, NOTE_RAW 0x1A, MSIX_PBA] s t) ∧
  (∀ (s : State) (q : Nat) (p : Packet) (carry : Bool) (l : List (Packet × Bool)), s.atWork 0x1A = true → q < 16 →
    (s.queue q).stalled = (p, carry) :: l →
    Completes (.slqStallResume q) s fun t =>
      if s.rd (qCells q) < (s.queue q).level + p.cells then t = s
      else (t.queue q).stalled.length ≤ l.length ∧
        ∃ r, (t.queue q).eligible = (s.queue q).eligible ++
          (if carry then [{ p with serial := (s.queue q).nextSerial }] else []) ++ r) ∧
  (∀ (s : State) (d kind prio pad : Nat) (words : List Nat), s.atWork 0x1A = true → d < 8 → (s.queue (16 + d)).eligible ≠ [] →
    Completes (.slqPacketComplete (16 + d) kind prio pad words false) s fun t =>
      t.queue (16 + d) = { s.queue (16 + d) with eligible := (s.queue (16 + d)).eligible.dropLast } ∧
      t.rd (SLQ_D_STAT_CORRUPT d) = 1 ∧ Noted SLQ_NOTE_CORRUPT t ∧ Noted ITG_NOTE_CARRY t ∧
      t.rd (SLQ_D_DROPS d) = (s.rd (SLQ_D_DROPS d) + 1) % 2 ^ 32) ∧
  (∀ (s : State) (port : Port) (d w : Nat), s.live 0x1A = true → d < 3 → w < 2 ^ 32 → s.slqDownStalls port d = true →
    (s.port port).posted.length < 63 →
    Completes (.slqDownlinkData port d w) s fun t =>
      t.port port = { s.port port with posted := (s.port port).posted ++ [⟨false, SLQ_D_DATA d, w, 15⟩] } ∧ t.regs = s.regs ∧
      ∀ j, j < 24 → t.queue j = s.queue j) ∧
  (∀ (s : State) (port : Port) (en : Bool), s.atWork 0x1A = true →
    Completes (.slqEnableWrite port en) s fun t =>
      t.rd SLQ_CTRL_EN = (if en then 1 else 0) ∧
      (∀ j, j < 24 → t.queue j = if en = true ∨ 16 ≤ j then s.queue j else { s.queue j with stalled := [] }) ∧
      ∀ j, j < 16 → t.rd (qDrops j) =
        (s.rd (qDrops j) + if en then 0 else (s.queue j).stalled.length) % 2 ^ (qDrops j).width)

/-- A detection of a valid vertex, not too old, strong enough, while Drift is enabled, joins the intake with the epoch tick of its detection and counts in EVENTS_IN. With 4,096 entries waiting it is coalesced and counted, and the intake keeps its length. A vertex out of range or not VALID counts in BAD_EVENT with its notice; an age beyond the limit in STALE alone; a weak one in WEAK alone. DRF_INJECT is a detection of strength 255 and sensor 0 with its own age. (DRF_CTRL.EN 0 empties the intake and retires every walker.) -/
def Obligations.DetectionsEnterDrift : Prop :=
  (∀ (s : State) (v instant strength sensor : Nat), s.atWork 0x07 = true → WellFormed (.drfEventIntake v instant strength sensor) →
    Completes (.drfEventIntake v instant strength sensor) s fun t =>
      let age := (s.moduleTime - instant + 500) / 1000
      if 8191 < v ∨ (s.vertex (s.rd DRF_GRAPH_ACTIVE) v).valid = false then
        t.rd DRF_BAD_EVENT = (s.rd DRF_BAD_EVENT + 1) % 2 ^ 32 ∧ Raises DRF_NOTE_BAD_EVENT s t ∧ t.drf = s.drf
      else if max 1 (min 10000 (s.rd DRF_INTAKE_MAX_AGE)) * 1000 < age then
        t.rd DRF_STALE = (s.rd DRF_STALE + 1) % 2 ^ 32 ∧ OnlyFields [DRF_STALE] s t ∧ t.drf = s.drf
      else if strength < s.rd DRF_INTAKE_MIN_STRENGTH then
        t.rd DRF_WEAK = (s.rd DRF_WEAK + 1) % 2 ^ 32 ∧ OnlyFields [DRF_WEAK] s t ∧ t.drf = s.drf
      else if s.rd DRF_CTRL_EN = 0 then t.rd DRF_BAD_EVENT = (s.rd DRF_BAD_EVENT + 1) % 2 ^ 32 ∧ t.drf = s.drf
      else
        t.rd DRF_EVENTS_IN = (s.rd DRF_EVENTS_IN + 1) % 2 ^ 32 ∧ t.drf.walkers = s.drf.walkers ∧ t.drf.trail = s.drf.trail ∧
        if s.drf.queue.length < 4096 then
          t.drf = { s.drf with queue := s.drf.queue ++ [⟨v, s.epoch - age, strength, sensor, 1⟩] } ∧ OnlyFields [DRF_EVENTS_IN] s t
        else t.drf.queue.length = s.drf.queue.length ∧ t.drf.coalesced = s.drf.coalesced + 1 ∧
          t.rd DRF_COALESCED = (s.rd DRF_COALESCED + 1) % 2 ^ 32 ∧ Raises DRF_NOTE_COALESCE s t) ∧
  (∀ (s : State) (port : Port) (v age : Nat), s.atWork 0x07 = true → WellFormed (.drfInject port v age) →
    (s.vertex (s.rd DRF_GRAPH_ACTIVE) v).valid = true → age ≤ max 1 (min 10000 (s.rd DRF_INTAKE_MAX_AGE)) →
    s.rd DRF_CTRL_EN = 1 → s.drf.queue.length < 4096 →
    Completes (.drfInject port v age) s fun t =>
      t.drf = { s.drf with queue := s.drf.queue ++ [⟨v, s.epoch - age * 1000, 255, 0, 1⟩] } ∧
      t.rd DRF_EVENTS_IN = (s.rd DRF_EVENTS_IN + 1) % 2 ^ 32) ∧
  (∀ (s : State) (port : Port) (en : Bool), s.atWork 0x07 = true →
    Completes (.drfEnableWrite port en) s fun t =>
      t.rd DRF_CTRL_EN = (if en then 1 else 0) ∧
      if en then t.drf = s.drf
      else t.drfRuns = false ∧ t.drf.queue = [] ∧ t.drf.overflow = [] ∧ t.drf.walkers = [] ∧ t.drf.trail = [] ∧
        t.drf.bank = s.drf.bank)

/-- While Drift runs, an evaluation empties the intake, publishes the next of the three target banks with its bank number, time and
duration, and raises the block's count. In DOZE, when nothing can change, it is skipped and counted, and Drift keeps what it holds but
for the lateness. The previous evaluation was late by what its duration exceeded the period it was started under; then OVERRUN and
STRETCH say so. A first detection at a vertex that may spawn creates walker 0 there with the class's initial speed. SWAP sets PENDING
unless it is set; a check that finds a fault clears PENDING and shows the record and the reason; one that finds none leaves the swap to
the next evaluation, which changes the active bank and retires every walker. (Where the spec leaves a choice, it is the model's: log
entries 71 and 73.) -/
def Obligations.DriftEvaluations : Prop :=
  (∀ (s : State) (c dur : Nat), s.atWork 0x07 = true → dur < 65536 → s.drfRuns = true → s.modes.power ≠ .doze → s.drf.bank < 3 →
    Completes (.drfEvaluation c dur 0) s fun t =>
      t.drf.queue = [] ∧ t.drf.overflow = [] ∧ t.drf.coalesced = 0 ∧ t.drf.lastDur = dur ∧ t.drf.bank = (s.drf.bank + 1) % 3 ∧
      t.rd DRF_SNAP_BANK_BANK = s.drf.bank ∧ t.rd DRF_SNAP_TIME_LO = (s.reach c).moduleTime % 2 ^ 32 ∧
      t.rd DRF_SNAP_TIME_HI = (s.reach c).moduleTime / 2 ^ 32 ∧ t.rd DRF_SNAP_DUR_DURATION = dur ∧ Publishes 0x07 s t ∧
      t.drf.lastPeriod = s.drfPeriod ∧ t.rd DRF_SNAP_DUR_STRETCH = min 65535 (s.drf.lastDur - s.drf.lastPeriod) ∧
      t.rd DRF_SNAP_END_OVERRUN = (if s.drf.lastDur ≤ s.drf.lastPeriod then 0 else 1) ∧
      t.time.raw = (s.reach c).time.raw) ∧
  (∀ (s : State) (c dur mem : Nat), s.atWork 0x07 = true → dur < 65536 → s.drfRuns = true → s.modes.power = .doze →
    (s.reach c).drfCanChange = false →
    Completes (.drfEvaluation c dur mem) s fun t =>
      t.drf = { s.drf with lastDur := 0 } ∧ t.rd DRF_SKIPPED = (s.rd DRF_SKIPPED + 1) % 2 ^ 32 ∧
      OnlyFields [DRF_SKIPPED] s t ∧ t.win = s.win) ∧
  (∀ (s : State) (c dur : Nat) (e : DrfEvent), s.atWork 0x07 = true → dur < 65536 → s.drfRuns = true → s.modes.power ≠ .doze →
    s.rd DRF_GRAPH_PENDING = 0 → s.drf.graphBad = false → s.drf.storeBad = false → s.drf.walkers = [] → s.drf.queue = [e] → s.drf.overflow = [] →
    (s.vertex (s.rd DRF_GRAPH_ACTIVE) e.vertex).valid = true → (s.vertex (s.rd DRF_GRAPH_ACTIVE) e.vertex).noSpawn = false →
    (s.reach c).epoch = e.tick →
    Completes (.drfEvaluation c dur 0) s fun t =>
      t.drf.walkers = [⟨0, false, e.vertex, none, e.tick,
        max s.drfSpeedMin (min s.drfSpeedMax (s.rd (DRF_CLASS_SPD_SPEED_INIT (s.vertex (s.rd DRF_GRAPH_ACTIVE) e.vertex).cls))), 1,
        s.drf.nextId, none⟩] ∧
      t.rd DRF_CREATED = (s.rd DRF_CREATED + 1) % 2 ^ 32) ∧
  (∀ (s : State) (c dur : Nat), s.atWork 0x07 = true → dur < 65536 → s.drfRuns = true → s.modes.power ≠ .doze →
    s.rd DRF_GRAPH_PENDING = 1 → s.drf.checked = true → s.drf.queue = [] → s.drf.overflow = [] →
    Completes (.drfEvaluation c dur 0) s fun t =>
      t.rd DRF_GRAPH_ACTIVE = 1 - s.rd DRF_GRAPH_ACTIVE ∧ t.rd DRF_GRAPH_PENDING = 0 ∧ t.drf.walkers = [] ∧
      t.rd DRF_SNAP_END_SWAPPED = 1 ∧ Noted DRF_NOTE_SWAP_DONE t) ∧
  (∀ (s : State) (port : Port), s.atWork 0x07 = true →
    Completes (.drfGraphSwap port) s fun t =>
      t.rd DRF_GRAPH_PENDING = 1 ∧ t.drf = if s.rd DRF_GRAPH_PENDING = 0 then { s.drf with checked := false } else s.drf) ∧
  (∀ s : State, s.atWork 0x07 = true → s.rd DRF_GRAPH_PENDING = 1 → s.drf.checked = false →
    Completes .drfSwapCheckDone s fun t =>
      match s.graphFault (1 - s.rd DRF_GRAPH_ACTIVE) with
      | none => t = { s with drf := { s.drf with checked := true } }
      | some (i, _, r) => t.drf = s.drf ∧ t.rd DRF_GRAPH_PENDING = 0 ∧ t.rd DRF_GRAPH_ERR_INDEX = i % 2 ^ 16 ∧
          t.rd DRF_GRAPH_ERR_REASON = r ∧ Raises DRF_NOTE_GRAPH_ERR s t)

/-- While the unit is disabled or the light path does not compute, a tick changes nothing. While calendar time is not valid a tick
publishes every valid program's fallback floor and cap (0 and 65,535 for the others) with NO_TIME. At or above the high-water mark a
tick publishes, ends the guard, and takes the mark up to now; after a gap it counts a forward jump. Below the mark by no more than the
span (while guarded, the one that the guard began under) it is guarded: the mark stands. Further below it counts a backward jump and
the mark falls to now. The save stores the mark. (Where the spec leaves a choice, it is the model's: log entries 75 and 122.) -/
def Obligations.ScheduleTicks : Prop :=
  (∀ s : State, s.atWork 0x08 = true → (s.rd SCH_CTRL_EN = 0 ∨ s.lightPath = false) → Completes .schTick s fun t => t = s) ∧
  (∀ s : State, s.atWork 0x08 = true → s.rd SCH_CTRL_EN = 1 → s.lightPath = true → s.calValid = false →
    Completes .schTick s fun t =>
      t.rd SCH_STATUS_NO_TIME = 1 ∧ t.rd SCH_PUB_END_NO_TIME = 1 ∧ Publishes 0x08 s t ∧
      t.sch.published = true ∧ t.sch.firstDue = true ∧ t.sch.high = s.sch.high ∧
      (s.rd SCH_STATUS_NO_TIME = 0 → Noted SCH_NOTE_NO_TIME t) ∧
      ∀ p, p < 256 → t.schPublished p = if (s.program p).valid then ((s.program p).floor, (s.program p).cap) else (0, 65535)) ∧
  (∀ s : State, s.atWork 0x08 = true → s.rd SCH_CTRL_EN = 1 → s.lightPath = true → s.calValid = true →
    Completes .schTick s fun t =>
      let now := s.calNow.secs * 8 + s.calNow.frac / 8192
      t.rd SCH_STATUS_NO_TIME = 0 ∧ t.rd SCH_PUB_END_NO_TIME = 0 ∧ Publishes 0x08 s t ∧ t.rd SCH_PUB_TIME_LO = now / 8 % 2 ^ 32 ∧
      t.sch.prev = some now ∧ t.sch.highStored = s.sch.highStored ∧
      if now < s.sch.high ∧ s.sch.high - now ≤ 8 * (if s.rd SCH_STATUS_GUARDED = 1 then s.sch.span else s.rd SCH_GUARD_SPAN) then
        t.rd SCH_STATUS_GUARDED = 1 ∧ t.rd SCH_PUB_END_GUARDED = 1 ∧ t.sch.high = s.sch.high ∧
        (s.rd SCH_STATUS_GUARDED = 0 → t.rd SCH_GUARDS = (s.rd SCH_GUARDS + 1) % 2 ^ 32 ∧ Noted SCH_NOTE_GUARD t)
      else
        t.rd SCH_STATUS_GUARDED = 0 ∧ t.rd SCH_PUB_END_GUARDED = 0 ∧ t.sch.high = now ∧ t.rd SCH_HIGH_LO = now / 8 % 2 ^ 32 ∧
        if now < s.sch.high then t.rd SCH_JUMP_BACK = (s.rd SCH_JUMP_BACK + 1) % 2 ^ 32 ∧ Noted SCH_NOTE_JUMP_BACK t
        else
          t.rd SCH_JUMP_BACK = s.rd SCH_JUMP_BACK ∧ (s.rd SCH_STATUS_GUARDED = 1 → Noted SCH_NOTE_GUARD_END t) ∧
          ∀ p, s.sch.prev = some p → p + (if s.modes.power = .doze then 8 else 1) + 8 ≤ now →
            t.rd SCH_JUMP_FWD = (s.rd SCH_JUMP_FWD + 1) % 2 ^ 32 ∧ Noted SCH_NOTE_JUMP_FWD t) ∧
  (∀ s : State, s.atWork 0x08 = true →
    Completes .schHighWaterSave s fun t => t = { s with sch := { s.sch with highStored := s.sch.high } })

/-- At a 10 ms tick with no write still to commit: in RUN with no following-error limit, the one slot that is due moves its set point
toward SETPOINT by its rates, takes the combined measurement y, and puts out KP times the error plus the integrator, clamped to LO and
HI; the integrator stands at the clamp. A due slot with no contribution becomes STALE, with its event, and holds or takes STALE_OUT. A
host measurement is stored for a slot with HOST 1 and otherwise counted and refused. A slot whose ENABLE is 0 becomes OFF with OUT
65,535 at the tick. With Temper disabled, at a tick that is no 10 ms tick, or at one whose samples are done, nothing is sampled. (Where
the spec leaves a choice, it is the model's: log entry 79.) -/
def Obligations.TemperSamples : Prop :=
  (∀ (s : State) (c late : Nat) (bad lost : List Nat), s.atWork 0x09 = true →
    (s.rd TMP_CTRL_EN = 0 ∨ s.lightPath = false ∨ c / 250 % 10000 ≠ 0 ∨ s.tmp.tick = some (c / 2500000)) →
    (∀ (p : Port) (j : Nat), j < 4 → ((s.port p).tag j).state ≠ .committing) →
    Completes (.tmpSample c bad lost late) s fun t => t = s.reach c) ∧
  (∀ (s : State) (c n k v : Nat), s.atWork 0x09 = true → s.rd TMP_CTRL_EN = 1 → s.lightPath = true → k < 2048 →
    c / 250 = 10000 * n → (∀ m ∈ s.tmp.tick, m < n) → s.tmpEnabled.filter (s.tmpDue n) = [k] →
    (∀ (p : Port) (j : Nat), j < 4 → ((s.port p).tag j).state ≠ .committing) →
    (∀ j, (s.tmpRecord j).enable = true ∨ (s.tmpSlot j).state = 0) →
    (s.tmpSlot k).state = 1 → (s.tmpSlot k).entering = false → (s.tmpSlot k).starting = false → (s.tmpSlot k).spl = some v →
    (s.tmpRecord k).feLimit = 0 → s.contributions k (s.tmpRecord k) (10000 * n) ≠ [] →
    Completes (.tmpSample c [] [] 0) s fun t =>
      let r := s.tmpRecord k
      let q := s.tmpSlot k
      let cs := s.contributions k r (10000 * n)
      let y := combine r.combine cs
      let spl := slewed r v
      let e : Int := max (-2 ^ 31 + 1) (min (2 ^ 31 - 1) (((spl / 65536 : Nat) : Int) - y))
      let p := ((r.kp : Int) * e).tdiv 65536
      let hi : Int := max r.lo r.hi
      let stands := (hi * 65536 ≤ p * 65536 + q.integ ∧ 0 < e) ∨ (p * 65536 + q.integ ≤ (r.lo : Int) * 65536 ∧ e < 0) ∨
        (r.newOnly = true ∧ ∀ m ∈ cs, m.2 ≤ q.last)
      (t.tmpSlot k).spl = some spl ∧ (t.tmpSlot k).state = 1 ∧ (t.tmpSlot k).no = (q.no + 1) % 2 ^ 32 ∧
      (stands → (t.tmpSlot k).integ = q.integ) ∧
      (¬stands → (t.tmpSlot k).integ =
        max (-65535 * 65536) (min (131070 * 65536) (q.integ + ((r.ki : Int) * e * r.period).tdiv 100))) ∧
      ((t.tmpSlot k).out : Int) = max (r.lo : Int) (min hi ((p * 65536 + (t.tmpSlot k).integ).tdiv 65536)) ∧
      t.rd TMP_SAMPLES = (s.rd TMP_SAMPLES + 1) % 2 ^ 32 ∧ t.tmp.tick = some n ∧ ∀ j, j ≠ k → t.tmpSlot j = s.tmpSlot j) ∧
  (∀ (s : State) (c n k : Nat), s.atWork 0x09 = true → s.rd TMP_CTRL_EN = 1 → s.lightPath = true → k < 2048 →
    c / 250 = 10000 * n → (∀ m ∈ s.tmp.tick, m < n) → s.tmpEnabled.filter (s.tmpDue n) = [k] →
    (∀ (p : Port) (j : Nat), j < 4 → ((s.port p).tag j).state ≠ .committing) →
    (∀ j, (s.tmpRecord j).enable = true ∨ (s.tmpSlot j).state = 0) → (s.tmpSlot k).state = 1 → (s.tmpSlot k).starting = false →
    s.contributions k (s.tmpRecord k) (10000 * n) = [] →
    Completes (.tmpSample c [] [] 0) s fun t =>
      (t.tmpSlot k).state = 2 ∧
      (t.tmpSlot k).out = (if (s.tmpRecord k).staleHold then (s.tmpSlot k).out else (s.tmpRecord k).staleOut) ∧
      t.rd TMP_EVENT_SLOT = k ∧ t.rd TMP_EVENT_KIND = 2 ∧ t.rd TMP_STALE = (s.rd TMP_STALE + 1) % 2 ^ TMP_STALE.width ∧
      Noted TMP_NOTE_STALE t ∧ Records 0x0901 k 0 0 0 s t) ∧
  (∀ (s : State) (port : Port) (k : Nat), s.atWork 0x09 = true → k < 2048 →
    Completes (.tmpMeasSlot port k) s fun t =>
      if (s.tmpRecord k).host then
        Sparse.get t.tmp.host k = some (s.rd TMP_MEAS_VALUE, s.epoch) ∧ t.tmp.nodes = s.tmp.nodes ∧ t.tmp.slots = s.tmp.slots
      else t.tmp = s.tmp ∧ t.rd TMP_MEAS_REJ = (s.rd TMP_MEAS_REJ + 1) % 2 ^ TMP_MEAS_REJ.width ∧ Noted TMP_NOTE_MEAS_REJ t) ∧
  (∀ (s : State) (k : Nat), s.atWork 0x09 = true → k < 2048 →
    Completes (.tmpSlotDisable k) s fun t =>
      if (s.tmpRecord k).enable = false ∧ (s.tmpSlot k).state ≠ 0 then
        (t.tmpSlot k).state = 0 ∧ (t.tmpSlot k).no = (s.tmpSlot k).no ∧ t.tmpOut k = 65535 ∧
        t.w16 0x09 (0x40000 + 32 * k + 4) = 65535 ∧ t.w8 0x09 (0x40000 + 32 * k + 6) = 0 ∧ ∀ j, j ≠ k → t.tmpSlot j = s.tmpSlot j
      else t = s)

/-- While the Shaper is enabled and the light path computes, a pass counts in PASSES, shows its duration, keeps its instant for the next
pass, and counts in LATE with the notice if its predecessor was late. Out of control, a pass over a table of one JOINED single-channel
node with no colour mixing and no compensation writes that node's record: the curve's drive value of its level, the level, and VALID;
and it hands nothing to the radio. While the Shaper is disabled or the light path does not compute, a pass changes nothing. (Where the
spec leaves a choice, it is the model's: log entries 81 and 182.) -/
def Obligations.ShapingPasses : Prop :=
  (∀ (s : State) (c dur : Nat) (late : Bool), s.atWork 0x0A = true → (s.rd SHP_CTRL_EN = 0 ∨ s.lightPath = false) →
    Completes (.shapingPass c dur late) s fun t => t = s.reach c) ∧
  (∀ (s : State) (c dur : Nat) (late : Bool), s.atWork 0x0A = true → dur < 65536 → s.rd SHP_CTRL_EN = 1 → s.lightPath = true →
    Completes (.shapingPass c dur late) s fun t =>
      t.rd SHP_PASSES = (s.rd SHP_PASSES + 1) % 2 ^ SHP_PASSES.width ∧ t.rd SHP_LAST_DURATION = dur ∧
      t.dpt.last = some (s.reach c).moduleTime ∧
      t.rd SHP_LATE = (if late then (s.rd SHP_LATE + 1) % 2 ^ SHP_LATE.width else s.rd SHP_LATE) ∧
      (late = true → Noted SHP_NOTE_LATE t)) ∧
  (∀ (s : State) (c dur i : Nat), s.atWork 0x0A = true → dur < 65536 → s.rd SHP_CTRL_EN = 1 → s.lightPath = true → s.meshTx = false →
    i < 8192 → s.usedEntries = [i] → s.entType i = 1 → s.entState i = 3 → s.channels i = 1 → s.mix i = 0 →
    bitAt (s.ent i 0xA1 1) 0 = false → bitAt (s.dstate i) 1 = false →
    Completes (.shapingPass c dur false) s fun t =>
      t.w16 0x0A (0x10000 + 16 * i) = s.curve (s.ent i 0xA0 1 / 16) (s.lambda i) % 65536 ∧
      t.w16 0x0A (0x10000 + 16 * i + 8) = s.lambda i % 65536 ∧ t.w8 0x0A (0x10000 + 16 * i + 11) = 1 ∧
      t.rd SHP_STATUS_SHAPED = 1 ∧ t.rd DPT_STATUS_IN_CONTROL = 0 ∧ t.mac = s.mac ∧ t.spr = s.spr ∧ t.emitted = s.emitted ∧
      ∀ q a, q ≠ 0x0A → q < 64 → a < 2 ^ 24 → t.w8 q a = s.w8 q a)

/-- For a number of nodes per frame of at least 1 and any largest PSDU: the frames that DPT cuts a group into, joined, are the group; no frame is empty and none holds more nodes than the number; a frame of more than one node does not exceed the largest PSDU, and every node in a frame has an index at most 255 above the frame's first. -/
def Obligations.LevelFramesPartition : Prop :=
  ∀ (maxCount maxPsdu : Nat) (l : List Packable), 1 ≤ maxCount →
    (framesOf maxCount maxPsdu l.length l).flatten = l ∧
    ∀ f ∈ framesOf maxCount maxPsdu l.length l, f ≠ [] ∧ f.length ≤ maxCount ∧ (2 ≤ f.length → levelPsdu f ≤ maxPsdu) ∧
      ∀ p ∈ f, p.node.index ≤ (f.head?.map fun b => b.node.index).getD 0 + 255

/-- A running port in control sends the command at the front of its queue. A collision puts it back for another try while tries remain;
else it is dropped and counted in FAILS with its notice. A port that is down or out of control sends nothing. On an empty queue, while
the Shaper is enabled, a refresh queues the next gear's own level at priority 4. A bus that goes down loses its queue, with its notice
and record; one that comes back clears VALID of each of its gear. An event message from a sensor that the table maps, of the presence
type with a masked bit set, enters Drift; one that nothing maps is counted as ignored; a frame that is no event message does nothing.
Where the 24 bits hold address, type and information is the model's choice (log entry 145). (Where the spec leaves a choice, it is the
model's: log entry 84.) -/
def Obligations.WiredBuses : Prop :=
  (∀ (s : State) (k : Nat) (collision : Bool), s.live 0x0C = true → k < 8 →
    (s.dalRuns k = false ∨ s.meshTx = false ∨ s.dalQueue k = []) → Completes (.dalFrameTx k collision) s fun t => t = s) ∧
  (∀ (s : State) (k : Nat) (c : DalCmd) (rest : List DalCmd), s.live 0x0C = true → k < 8 → s.dalRuns k = true → s.meshTx = true →
    s.dalQueue k = c :: rest →
    Completes (.dalFrameTx k false) s fun t =>
      t.dalQueue k = rest ∧ (∀ j, j < 8 → j ≠ k → t.dalQueue j = s.dalQueue j) ∧ t.emitted = s.emitted ++ [.dali k c.kind c.prio] ∧
      t.rd DAL_TX_FRAMES = (s.rd DAL_TX_FRAMES + c.frames) % 2 ^ 32 ∧ t.win = s.win) ∧
  (∀ (s : State) (k : Nat) (c : DalCmd) (rest : List DalCmd), s.live 0x0C = true → k < 8 → s.dalRuns k = true → s.meshTx = true →
    s.dalQueue k = c :: rest →
    Completes (.dalFrameTx k true) s fun t =>
      t.rd DAL_COLLISIONS = (s.rd DAL_COLLISIONS + 1) % 2 ^ DAL_COLLISIONS.width ∧
      if c.tries < s.rd DAL_CFG_RETRY then t.dalQueue k = { c with tries := c.tries + 1 } :: rest ∧ t.emitted = s.emitted
      else t.dalQueue k = rest ∧ t.rd DAL_FAILS = (s.rd DAL_FAILS + 1) % 2 ^ DAL_FAILS.width ∧ Noted DAL_NOTE_TX_FAIL t) ∧
  (∀ (s : State) (k i : Nat), s.live 0x0C = true → k < 8 → i < 8192 → s.dalRuns k = true → s.meshTx = true → s.rd SHP_CTRL_EN = 1 →
    s.rd DAL_CFG_REFRESH ≠ 0 → s.dalQueue k = [] → s.usedEntries = [i] → s.entType i = 2 → s.wiredPort i = k →
    bitAt (s.w8 0x0A (0x10000 + 16 * i + 11)) 0 = true →
    Completes (.dalRefresh k) s fun t =>
      t.dalQueue k = [⟨.short (s.wiredAddr i) (s.w8 0x0A (0x10000 + 16 * i + 10)), 4, [i], true, 0⟩] ∧
      t.ent i 0xB4 1 = s.w8 0x0A (0x10000 + 16 * i + 10) ∧ t.ent i 0xBE 2 = s.w16 0x0A (0x10000 + 16 * i + 8) ∧ t.dvalid i = true ∧
      t.rd DPT_WIRED = (s.rd DPT_WIRED + 1) % 2 ^ DPT_WIRED.width) ∧
  (∀ (s : State) (k : Nat), s.live 0x0C = true → k < 8 →
    Completes (.dalBusDown k) s fun t =>
      t.rd DAL_STATUS_UP = clrBit (s.rd DAL_STATUS_UP) k ∧ t.dalQueue k = [] ∧ Noted DAL_NOTE_BUS_DOWN t ∧
      Records 0x0C01 k 0 0 0 s t ∧ ((s.dalQueue k).any DalCmd.isRaw = true → t.dal.raw = none ∧ t.rd DAL_RAW_RES_STATUS = 5)) ∧
  (∀ (s : State) (k : Nat), s.live 0x0C = true → k < 8 → bitAt (s.rd DAL_STATUS_UP) k = false →
    Completes (.dalBusUp k) s fun t =>
      t.rd DAL_STATUS_UP = setBit (s.rd DAL_STATUS_UP) k ∧ Raises DAL_NOTE_BUS_UP s t ∧ t.dal = s.dal ∧
      ∀ i ∈ s.usedEntries, s.entType i = 2 → s.wiredPort i = k → t.dvalid i = false) ∧
  (∀ (s : State) (k frame instant : Nat), s.live 0x0C = true → (s.dalRuns k = false ∨ bitAt frame 16 = true) →
    Completes (.dalEventReceived k frame instant) s fun t => t = s) ∧
  (∀ (s : State) (k frame instant : Nat), s.live 0x0C = true → WellFormed (.dalEventReceived k frame instant) → s.dalRuns k = true →
    bitAt frame 16 = false →
    (bitAt frame 23 = true ∨ bitAt frame 15 = true ∨
      ∀ i ∈ s.usedEntries, s.entType i = 3 → s.wiredPort i = k → s.wiredAddr i ≠ bitsOf frame 17 6) →
    Completes (.dalEventReceived k frame instant) s fun t =>
      t.rd DAL_EVENTS_IGN = (s.rd DAL_EVENTS_IGN + 1) % 2 ^ DAL_EVENTS_IGN.width ∧ Noted DAL_NOTE_EVENT_BAD t ∧ t.drf = s.drf) ∧
  (∀ (s : State) (k frame instant i : Nat), s.live 0x0C = true → WellFormed (.dalEventReceived k frame instant) → s.dalRuns k = true →
    bitAt frame 16 = false → bitAt frame 23 = false → bitAt frame 15 = false → s.usedEntries = [i] → s.entType i = 3 →
    s.wiredPort i = k → s.wiredAddr i = bitsOf frame 17 6 →
    bitsOf frame 10 5 = s.rd DAL_PRES_ITYPE → Nat.land (bitsOf frame 0 10) (s.rd DAL_PRES_MASK) ≠ 0 → s.ent i 0x10 2 < 8192 →
    (s.vertex (s.rd DRF_GRAPH_ACTIVE) (s.ent i 0x10 2)).valid = true →
    (s.moduleTime - instant + 500) / 1000 ≤ max 1 (min 10000 (s.rd DRF_INTAKE_MAX_AGE)) * 1000 → s.rd DRF_CTRL_EN = 1 →
    s.drf.queue.length < 4096 →
    Completes (.dalEventReceived k frame instant) s fun t =>
      (∃ n, n < 32 ∧ t.drf = { s.drf with
        queue := s.drf.queue ++ [⟨s.ent i 0x10 2, s.epoch - (s.moduleTime - instant + 500) / 1000, 255, n, 1⟩] }) ∧
      t.rd DAL_EVENTS = (s.rd DAL_EVENTS + 1) % 2 ^ DAL_EVENTS.width)

/-- While no raw request is outstanding, the module is in control and the queue of the port is not full (a full one gives up its first
refresh command), a write of DAL_RAW_CTRL puts the frame at the end of the port's queue and makes it outstanding with STATUS 0. While
one is outstanding, or out of control, or the queue takes no more, it is refused with STATUS 6 and RAW_DONE. When the outstanding frame
has left its queue its outcome is STATUS 1 where no answer is wanted, 3 for no answer, 2 with the answer's octet, and 4 for a framing
error; nothing is then outstanding. (Where the spec leaves a choice, it is the model's: log entry 83.) -/
def Obligations.RawWiredFrames : Prop :=
  (∀ (s : State) (port : Port) (k prio : Nat) (bits24 twice answer : Bool), s.atWork 0x0C = true →
    WellFormed (.dalRawRequest port k bits24 twice answer prio) →
    Completes (.dalRawRequest port k bits24 twice answer prio) s fun t =>
      if s.dal.raw.isSome = true ∨ s.meshTx = false then
        t.dal = s.dal ∧ t.rd DAL_RAW_RES_STATUS = 6 ∧ Noted DAL_NOTE_RAW_DONE t
      else if (s.dalQueue k).length < 128 then
        t.dal.raw = some (k, answer) ∧ t.rd DAL_RAW_RES_STATUS = 0 ∧ t.rd DAL_RAW_RES_ANSWER = 0 ∧
        t.dalQueue k = s.dalQueue k ++
          [⟨.raw (if bits24 then s.rd DAL_RAW_FRAME else s.rd DAL_RAW_FRAME % 65536) bits24 twice answer,
            if 1 ≤ prio ∧ prio ≤ 5 then prio else 5, [], false, 0⟩] ∧
        ∀ j, j < 8 → j ≠ k → t.dalQueue j = s.dalQueue j
      else match dropRefresh (s.dalQueue k) with
        | some q => t.dal.raw = some (k, answer) ∧ t.rd DAL_RAW_RES_STATUS = 0 ∧ (t.dalQueue k).length = q.length + 1
        | none => t.dal = s.dal ∧ t.rd DAL_RAW_RES_STATUS = 6 ∧ Noted DAL_NOTE_QUEUE_FULL t ∧ Noted DAL_NOTE_RAW_DONE t) ∧
  (∀ (s : State) (k : Nat) (wants bad : Bool) (answer : Option Nat), s.live 0x0C = true → WellFormed (.dalRawComplete answer bad) →
    s.dal.raw = some (k, wants) → s.rawSent k = true →
    Completes (.dalRawComplete answer bad) s fun t =>
      t.dal = { s.dal with raw := none } ∧ Raises DAL_NOTE_RAW_DONE s t ∧
      t.rd DAL_RAW_RES_STATUS = (if wants = false then 1 else match answer with
        | none => 3
        | some _ => if bad then 4 else 2) ∧
      t.rd DAL_RAW_RES_ANSWER = (match answer with
        | none => 0
        | some b => if wants = true ∧ bad = false then b else 0))

/-- With EMU disabled and no snapshot waiting a sample changes nothing. A sample takes the bits of each channel's stream through its
filter, high-pass filter and PHASE, and adds the energy of the voltage and current codes, in 2^-40 microwatt-hours, to the import or
export total of a running circuit whose channels are not in FAULT, and keeps the sample's instant. A fault of a channel that samples
sets its bit, notice and record; its end clears the bit. A voltage channel that samples and has had no crossing for its limit of
samples enters time mode, counted, with notice and record. The save stores every total. CLEAR zeroes the circuit's totals, after a
latch where it runs. (Where the spec leaves a choice, it is the model's: log entries 180 and 181.) -/
def Obligations.MeteringSamples : Prop :=
  (∀ (s : State) (c : Nat) (bits : List Nat), s.live 0x0D = true → s.rd EMU_CTRL_EN = 0 → s.emur.due = none →
    Completes (.emuSample c bits) s fun t => t = s.reach c) ∧
  (∀ (s : State) (c n : Nat) (bits : List Nat), s.live 0x0D = true → WellFormed (.emuSample c bits) → s.rd EMU_CTRL_EN = 1 →
    n < 12 → s.circuitRuns n = true → s.circuitFault n = false → s.emu.held = false →
    Completes (.emuSample c bits) s fun t =>
      let filt := (s.takeBits bits).samples
      let v := filt.getD (s.vch n) 0
      let i := (if s.rd (EMU_CIRC_CFG_SIGN n) = 1 then -1 else 1) * filt.getD (s.ich n) 0
      let e := (v * i).natAbs * s.rd (EMU_CH_FS (s.vch n)) * s.rd (EMU_CH_FS (s.ich n)) / (64 * 28800000)
      (t.circuit n).now = (s.circuit n).now.add (v * i) e ∧ t.emu.last = (s.reach c).moduleTime - inputLag) ∧
  (∀ (s : State) (k : Nat), s.live 0x0D = true → k < 16 →
    Completes (.emuChannelFault k) s fun t =>
      if bitAt (s.rd EMU_FAULT) k = true ∨ s.channelOn k = false then t = s
      else t.rd EMU_FAULT = setBit (s.rd EMU_FAULT) k ∧ Raises EMU_NOTE_CH_FAULT s t ∧ Records 0x0D01 k 0 0 0 s t ∧ t.emu = s.emu) ∧
  (∀ (s : State) (k : Nat), s.live 0x0D = true → k < 16 →
    Completes (.emuChannelFaultEnd k) s fun t => t.rd EMU_FAULT = clrBit (s.rd EMU_FAULT) k ∧ OnlyFields [EMU_FAULT] s t) ∧
  (∀ (s : State) (k : Nat), s.live 0x0D = true → k < 4 →
    Completes (.emuZcTimeout k) s fun t =>
      if bitAt (s.rd EMU_STATUS_ZC_LOST) k = true ∨ s.channelOn k = false ∨ s.zcLate k = false then t = s
      else t.rd EMU_STATUS_ZC_LOST = setBit (s.rd EMU_STATUS_ZC_LOST) k ∧ Noted EMU_NOTE_ZC_LOST t ∧ Records 0x0D02 k 0 0 0 s t ∧
        t.rd EMU_ZC_LOSSES = (s.rd EMU_ZC_LOSSES + 1) % 2 ^ 32 ∧ (t.detector k).row = 0) ∧
  (∀ s : State, s.live 0x0D = true →
    Completes .emuAccumulatorSave s fun t =>
      t = { s with emu := { s.emu with circuits := s.emu.circuits.map fun x => { x with stored := x.now } } }) ∧
  (∀ (s : State) (port : Port) (n : Nat), s.atWork 0x0D = true → n < 12 →
    Completes (.emuClear port n) s fun t =>
      (t.circuit n).now = .zero ∧ (∀ j, j < 12 → j ≠ n → t.circuit j = s.circuit j) ∧
      (s.circuitRuns n = true →
        t.rd (emuSeq n) = (s.rd (emuSeq n) + 1) % 2 ^ 24 ∧ bitAt (t.rd (FRESH 0x0D)) n = true ∧
        t.rd (EMU_L_IMP_LO n) = (s.circuit n).now.imp % 2 ^ 32 ∧ t.rd (EMU_L_EXP_LO n) = (s.circuit n).now.exp % 2 ^ 32 ∧
        Noted EMU_NOTE_LATCH t))

/-- With EMUR disabled, a boundary changes nothing and an estimate tick only makes ESTIMATED of every entry in use say whether it is
estimated. At a boundary whose nearest sample is the last one, a window opens for each group in force, and every circuit's totals, the
records in force and the circuits that do not run as disturbed are taken; where the next sample is nearer, the boundary waits for it,
and that sample takes the snapshot. An estimate tick adds the energy of a node's rated power at its last level to its stored energy,
which then holds no report any more. The oldest window of a group closes when no node is missing or the wait is over: its result is
published with the verdict: 4 where it cannot be checked, 3 for a gain, 1 or 2 for a loss by the run, else 0; a loss leaves its notice
and record. (Where the spec leaves a choice, it is the model's: log entries 147 and 183.) -/
def Obligations.EnergyReconciliation : Prop :=
  (∀ (s : State) (c : Nat), s.atWork 0x0E = true → s.rd EMUR_CTRL_EN = 0 →
    Completes (.emurBoundarySnapshot c) s fun t => t = s.reach c) ∧
  (∀ (s : State) (c : Nat), s.atWork 0x0E = true → s.rd EMUR_CTRL_EN = 0 →
    Completes (.emurEstimateTick c) s fun t =>
      t.emur = s.emur ∧ t.emu = s.emu ∧ (∀ i ∈ s.usedEntries, bitAt (t.eFlags i) 3 = s.estimated i) ∧
      ∀ i, t.ent i 0xC0 8 = s.ent i 0xC0 8) ∧
  (∀ (s : State) (c : Nat), s.atWork 0x0E = true → s.rd EMUR_CTRL_EN = 1 → s.emur.due = none → (s.reach c).nextNearer = false →
    Completes (.emurBoundarySnapshot c) s fun t =>
      t.emur.snapshot = some (s.totals, (s.reach c).epoch) ∧ t.emur.gap = s.emu.held ∧ t.emur.records = s.emurRecords ∧
      t.emur.disturbed = ((List.range 12).map fun k => !s.circuitRuns k) ∧ t.emur.runs = s.emur.runs ∧ t.emur.due = none ∧
      t.emur.opened = (s.reach c).boundaryNo (s.reach c).moduleTime ∧
      t.emur.open_.length =
        s.emur.open_.length + (if s.emur.snapshot.isSome then (groupsInForce s.emur.records).length else 0)) ∧
  (∀ (s : State) (c : Nat), s.atWork 0x0E = true → s.rd EMUR_CTRL_EN = 1 → s.emur.due = none → (s.reach c).nextNearer = true →
    Completes (.emurBoundarySnapshot c) s fun t =>
      t = { s.reach c with emur := { s.emur with due := some ((s.reach c).boundaryNo (s.reach c).moduleTime) } }) ∧
  (∀ (s : State) (c : Nat) (bits : List Nat) (j : Int), s.live 0x0D = true → s.rd EMUR_CTRL_EN = 1 → s.emur.due = some j →
    Completes (.emuSample c bits) s fun t =>
      t.emur.due = none ∧ t.emur.snapshot = some (t.totals, (s.reach c).epoch) ∧
      t.emur.open_.length =
        s.emur.open_.length + (if s.emur.snapshot.isSome then (groupsInForce s.emur.records).length else 0)) ∧
  (∀ (s : State) (c i : Nat), s.atWork 0x0E = true → s.rd EMUR_CTRL_EN = 1 → i < 8192 → s.usedEntries = [i] →
    Completes (.emurEstimateTick c) s fun t =>
      t.emur = s.emur ∧ bitAt (t.eFlags i) 3 = s.estimated i ∧
      if s.estimated i = true ∧ bitAt (s.ent i 0xBD 1) 0 = true then
        t.ent i 0xC0 8 = (s.ent i 0xC0 8 + s.ent i 0xDC 2 * s.ent i 0xBE 2 * 250 / (9 * 65535)) % 2 ^ 64 ∧
        t.ent i 0xC8 8 = (s.reach c).moduleTime ∧ bitAt (t.eFlags i) 0 = false
      else t.ent i 0xC0 8 = s.ent i 0xC0 8 ∧ t.ent i 0xC8 8 = s.ent i 0xC8 8 ∧ bitAt (t.eFlags i) 0 = bitAt (s.eFlags i) 0) ∧
  (∀ (s : State) (c g : Nat), s.atWork 0x0E = true → g < 12 →
    Completes (.emurWindowClose c g) s fun t =>
      match s.emur.open_.find? fun w => w.group == g with
      | none => t = s.reach c
      | some w =>
        if w.missing ≠ [] ∧ (s.reach c).moduleTime < w.ends + s.emurWait * 1000000000 then t = s.reach c
        else
          let l := w.metered - w.nodes - w.baseLoad
          let run := s.emur.runs.getD g 0
          let lossAt : Int := (max (w.metered.natAbs * w.record.lossPct / 10000) (w.record.lossMin * 1000000) : Nat)
          let gainAt : Int := (max (w.metered.natAbs * w.record.gainPct / 10000) (w.record.lossMin * 1000000) : Nat)
          t.emur.open_ = (s.emur.open_.filter fun x => x.group != g || x.number != w.number) ∧
          t.rd EMUR_R_GROUP_GROUP = g ∧ t.rd EMUR_R_WINDOW = codeOf 32 w.number ∧ t.rd EMUR_R_LOSS_LO = codeOf 64 l % 2 ^ 32 ∧
          Publishes 0x0E s t ∧ Noted EMUR_NOTE_CLOSED t ∧
          if w.incomplete = true ∨ w.stepped = true ∨ w.gap = true ∨ w.record.missMax < w.missing.length then
            t.rd EMUR_R_END_VERDICT = 4 ∧ t.emur.runs.getD g 0 = run ∧ Noted EMUR_NOTE_INCOMPLETE t
          else if lossAt < l then
            t.emur.runs.getD g 0 = min 15 (run + 1) ∧
            if w.record.lossCount ≤ run + 1 then
              t.rd EMUR_R_END_VERDICT = 2 ∧ Noted EMUR_NOTE_LOSS t ∧
              Records 0x0E01 g (codeOf 32 w.number) (codeOf 64 l) (codeOf 64 l / 2 ^ 32) s t
            else t.rd EMUR_R_END_VERDICT = 1
          else if gainAt < -l then t.rd EMUR_R_END_VERDICT = 3 ∧ t.emur.runs.getD g 0 = 0 ∧ Noted EMUR_NOTE_GAIN t
          else t.rd EMUR_R_END_VERDICT = 0 ∧ t.emur.runs.getD g 0 = 0)

/-- A Sync that is not the parent's changes nothing. While a slice of the TIM region runs, a Sync waits with its timestamp. Else a two-step
Sync waits for its Follow_Up; a one-step Sync, or the Follow_Up, gives the servo the offset, and makes an UNCALIBRATED port SLAVE.
Within the step limit module time does not step, and in LOCKED, only, the rate becomes minus the proportional and integral terms,
clamped; enough offsets in a row within the lock limit give LOCKED. Beyond the step limit module time steps by minus the offset,
counted, and the state becomes FREE. A Delay_Req on a MASTER port is answered with its timestamp by each enabled transport; a
Delay_Resp updates the mean delay. An Announce joins the masters heard. A sent message leaves with its timestamp by each enabled
transport, an Announce with its data set. (Where the spec leaves a choice, it is the model's: log entries 94, 160, 191 and 194.) -/
def Obligations.PrecisionTimeMessages : Prop :=
  (∀ (s : State) (k sender senderPort domain seq : Nat) (rx origin corr : Int) (two : Bool), s.live 0x18 = true →
    s.isolated 0x18 = false → s.fromParent k sender senderPort domain = false →
    Completes (.ptpSyncReceived k sender senderPort domain seq rx origin corr two) s fun t => t = s) ∧
  (∀ (s : State) (k sender senderPort domain seq : Nat) (rx origin corr : Int) (two : Bool), s.live 0x18 = true →
    s.isolated 0x18 = true →
    Completes (.ptpSyncReceived k sender senderPort domain seq rx origin corr two) s fun t =>
      t = { s with time := { s.time with
        stamped := s.time.stamped ++ [.sync k sender senderPort domain seq (s.rxStamp k rx) origin corr two] } }) ∧
  (∀ (s : State) (k sender senderPort domain seq : Nat) (rx origin corr : Int), s.live 0x18 = true → s.isolated 0x18 = false →
    k < 6 → s.fromParent k sender senderPort domain = true →
    Completes (.ptpSyncReceived k sender senderPort domain seq rx origin corr true) s fun t =>
      t.time = { s.time with held := some ⟨seq, s.rxStamp k rx, corr⟩ } ∧ t.ptpState k = 3 ∧ OnlyFields [TIM_PORT_STATE] s t) ∧
  (∀ (s : State) (k sender senderPort domain seq : Nat) (rx origin corr : Int), s.live 0x18 = true → s.isolated 0x18 = false →
    k < 6 → s.fromParent k sender senderPort domain = true →
    Completes (.ptpSyncReceived k sender senderPort domain seq rx origin corr false) s fun t =>
      let off := s.rxStamp k rx - origin - s.rd TIM_MEAN_DELAY - corr
      t.ptpState k = 3 ∧ t.rdS TIM_OFFSET_MEAS = max (-(2 ^ 31 - 1)) (min (2 ^ 31 - 1) off) ∧
      if off.natAbs ≤ s.rd TIM_SERVO_STEP_NS then
        t.moduleTimeAt t.time.raw = s.moduleTimeAt s.time.raw ∧
        t.time.lockRun = (if off.natAbs ≤ s.rd TIM_LOCK_NS then s.time.lockRun + 1 else 0) ∧
        (off.natAbs ≤ s.rd TIM_LOCK_NS → max 1 (s.rd TIM_LOCK_COUNT) ≤ s.time.lockRun + 1 → t.time.state = .locked) ∧
        if s.time.state = .locked then
          t.rdS TIM_RATE = max (-1099511628) (min 1099511628
            (-(s.rd TIM_SERVO_KP * off + (s.time.servoI + s.rd TIM_SERVO_KI * off / 16)))) ∧
          t.time.servoI = s.time.servoI + s.rd TIM_SERVO_KI * off / 16
        else t.rd TIM_RATE = s.rd TIM_RATE ∧ t.time.servoI = s.time.servoI
      else
        t.moduleTimeAt t.time.raw = s.moduleTimeAt s.time.raw - off ∧ t.time.state = .free ∧ t.time.servoI = 0 ∧ t.time.lockRun = 0 ∧
        t.rd TIM_STEPS = (s.rd TIM_STEPS + 1) % 2 ^ 32 ∧ Noted TIM_NOTE_STEP t) ∧
  (∀ (s : State) (k sender senderPort domain seq : Nat) (h : HeldSync) (origin corr : Int), s.live 0x18 = true →
    s.isolated 0x18 = false → s.fromParent k sender senderPort domain = true → s.time.held = some h → h.seq = seq →
    Completes (.ptpFollowUpReceived k sender senderPort domain seq origin corr) s fun t =>
      t.time.held = none ∧ t.time.t1 = origin + (h.corr + corr) ∧ t.time.t2 = h.rx ∧
      t.rdS TIM_OFFSET_MEAS =
        max (-(2 ^ 31 - 1)) (min (2 ^ 31 - 1) (h.rx - origin - s.rd TIM_MEAN_DELAY - (h.corr + corr)))) ∧
  (∀ (s : State) (k domain seq : Nat) (rx : Int), s.live 0x18 = true → s.isolated 0x18 = false →
    Completes (.ptpDelayReqReceived k domain seq rx) s fun t =>
      if (s.ptpRuns && s.ptpPort k && s.ptpState k == 5 && domain == s.ptpDomain) = true then
        t.emitted = s.emitted ++ s.ptpTransports.map (fun x => .ptp k x .delayResp seq domain (s.rxStamp k rx) none) ∧ t.time = s.time
      else t = s) ∧
  (∀ (s : State) (k sender senderPort domain seq : Nat) (t3 t4 corr : Int), s.live 0x18 = true → s.isolated 0x18 = false →
    s.fromParent k sender senderPort domain = true → s.time.t3 = some (seq, t3) →
    Completes (.ptpDelayRespReceived k sender senderPort domain seq t4 corr) s fun t =>
      t.time = { s.time with t3 := none } ∧ OnlyFields [TIM_MEAN_DELAY] s t ∧
      (t.rd TIM_MEAN_DELAY : Int) = max 0 (min (2 ^ 32 - 1) (((s.time.t2 - t3) + (t4 - s.time.t1) - corr) / 2))) ∧
  (∀ (s : State) (k : Nat) (a : Announce), s.live 0x18 = true → WellFormed (.ptpAnnounceReceived k a) →
    Completes (.ptpAnnounceReceived k a) s fun t =>
      if (s.ptpRuns && s.ptpPort k && a.domain == s.ptpDomain) = true then
        t.time.foreign = (hearMaster k s.time.raw a (s.time.foreign.filter s.stillHeard)).filter s.stillHeard
      else t = s) ∧
  (∀ (s : State) (k seq : Nat) (kind : PtpKind) (ns : Int), s.live 0x18 = true → s.isolated 0x18 = false →
    Completes (.ptpMessageTx k kind seq ns) s fun t =>
      let u := if s.ptpRuns then s.ptpCatchUp else s
      if (u.ptpRuns && u.ptpPort k && (ptpSentIn kind).contains (u.ptpState k)) = true then
        t.emitted = u.emitted ++ u.ptpTransports.map (fun x => .ptp k x kind seq u.ptpDomain (u.txStamp k ns)
          (if kind = .announce then some (u.announced k) else none)) ∧
        t.time.t3 = (if kind = .delayReq then some (seq, u.txStamp k ns) else u.time.t3)
      else t = u)

/-- While the engine runs and the module's own clock class is 128 or more, the second Announce of the only master heard, on a PTP port,
whose data set the module's own does not beat, makes the sender the parent and puts that port in UNCALIBRATED, unless it follows that
parent already. The announce timeout turns LOCKED into HOLDOVER with notice and record, asks for the time axis to follow, and forgets
the masters that have fallen silent; a port that is still LISTENING when it passes with no master heard becomes MASTER, unless the
module is slave only. The expiry of holdover turns HOLDOVER into FREE likewise; in any other state, or in role HOST, it changes
nothing. (The data-set comparison is IEEE 1588's: log entry 28.) (Where the spec leaves a choice, it is the model's: log entries 193
and 194.) -/
def Obligations.BestMasterChoice : Prop :=
  (∀ (s : State) (k r : Nat) (a b : Announce), s.live 0x18 = true → WellFormed (.ptpAnnounceReceived k a) → s.ptpRuns = true →
    s.ptpPort k = true → a.domain = s.ptpDomain → s.time.foreign = [⟨k, 1, r, b⟩] → s.stillHeard ⟨k, 1, r, b⟩ = true →
    0 < s.announceTimeout → s.time.preMaster = [] → b.senderId = a.senderId → b.senderPort = a.senderPort →
    128 ≤ s.ownClock.clockClass → lexLess (announceRank s.ownClock) (announceRank a) = false →
    Completes (.ptpAnnounceReceived k a) s fun t =>
      t.ptpState k = (if s.parentNow = [a.senderId % 2 ^ 32, a.senderId / 2 ^ 32, a.senderPort, k] ∧ (s.ptpState k = 2 ∨ s.ptpState k = 3)
        then s.ptpState k else 2) ∧
      t.rd TIM_PARENT_LO = a.senderId % 2 ^ 32 ∧ t.rd TIM_PARENT_HI = a.senderId / 2 ^ 32 ∧
      t.rd TIM_PARENT_PORT_NUMBER = a.senderPort ∧ t.rd TIM_PARENT_PORT_LOCAL = k ∧ t.time.foreign = [⟨k, 2, s.time.raw, a⟩]) ∧
  (∀ (s : State) (k : Nat), s.live 0x18 = true → s.ptpRuns = true → s.ptpPort k = true → k < 6 → s.ptpState k = 1 → s.time.foreign = [] →
    Completes .announceTimeout s fun t => t.ptpState k = if s.rd TIM_CTRL_SLAVE_ONLY = 1 then 1 else 5) ∧
  (∀ s : State, s.live 0x18 = true →
    Completes .announceTimeout s fun t =>
      if s.ptpRuns = true then
        t.time.foreign = s.time.foreign.filter s.stillHeard ∧ t.modes = s.modes ∧
        if s.time.state = .locked then
          t.time.state = .holdover ∧ t.modeReqs = (s.modeReqs.filter fun q => !q.isTime) ++ [⟨.time .holdover, 0, 0⟩] ∧
          Noted TIM_NOTE_STATE t ∧ Records 0x1801 0 1 0 0 s t
        else t.time.state = s.time.state ∧ t.modeReqs = s.modeReqs
      else t = s) ∧
  (∀ s : State, s.live 0x18 = true →
    Completes .holdoverExpiry s fun t =>
      if s.ptpRuns = true ∧ s.time.state = .holdover then
        t.time = { s.time with state := .free } ∧ t.modes = s.modes ∧
        t.modeReqs = (s.modeReqs.filter fun q => !q.isTime) ++ [⟨.time .free, 0, 0⟩] ∧ Noted TIM_NOTE_STATE t ∧
        Records 0x1801 1 2 0 0 s t
      else t = s)

/-- In role HOST a write of TIM_HOST.STATE sets the time state, one of TIM_RATE is stored and sets the rate in force, clamped, without stepping module time, and one of TIM_STEP_HI steps module time by the 64-bit step, counted; in a PTP role, or for state 3, each raises CFG_ERR and module time stands. TIM_CAPTURE publishes the raw counter, module time and calendar time of one edge. A pop with the head's count removes the head and publishes the next; any other raises POP_ERR. A pulse that is due leaves with its time unless too soon; an accepted input edge publishes module time. -/
def Obligations.HostTimeCommands : Prop :=
  (∀ (s : State) (port : Port) (v : Nat), s.atWork 0x18 = true → WellFormed (.timHostStateWrite port v) →
    Completes (.timHostStateWrite port v) s fun t =>
      t.modes = s.modes ∧
      if s.timHost = true ∧ v ≠ 3 then t.time.state = timeOf v ∧ t.time.host = timeOf v ∧ t.rd TIM_HOST_STATE = v
      else t.time = s.time ∧ Noted TIM_NOTE_CFG_ERR t) ∧
  (∀ (s : State) (port : Port) (w : Nat), s.atWork 0x18 = true → WellFormed (.timRateWrite port w) →
    Completes (.timRateWrite port w) s fun t =>
      t.moduleTimeAt t.time.raw = s.moduleTimeAt s.time.raw ∧
      if s.timHost then t.rdS TIM_RATE = signed 32 w ∧ t.rate = max (-1099511628) (min 1099511628 (signed 32 w))
      else t.time = s.time ∧ t.rd TIM_RATE = s.rd TIM_RATE ∧ Noted TIM_NOTE_CFG_ERR t) ∧
  (∀ (s : State) (port : Port) (w : Nat), s.atWork 0x18 = true → WellFormed (.timStepHiWrite port w) →
    Completes (.timStepHiWrite port w) s fun t =>
      if s.timHost then
        t.moduleTimeAt t.time.raw = s.moduleTimeAt s.time.raw + signed 64 (s.rd TIM_STEP_LO + 2 ^ 32 * w) ∧
        t.rd TIM_STEPS = (s.rd TIM_STEPS + 1) % 2 ^ 32 ∧ Noted TIM_NOTE_STEP t
      else t.time = s.time ∧ t.rd TIM_STEPS = s.rd TIM_STEPS ∧ Noted TIM_NOTE_CFG_ERR t) ∧
  (∀ (s : State) (port : Port), s.atWork 0x18 = true →
    Completes (.timCapture port) s fun t =>
      t.rd TIM_CAP_RAW_LO = s.time.raw % 2 ^ 32 ∧ t.rd TIM_CAP_MT_LO = s.moduleTime % 2 ^ 32 ∧
      t.rd TIM_CAP_MT_HI = s.moduleTime / 2 ^ 32 ∧ t.rd TIM_CAP_CAL_LO = s.cal.secs % 2 ^ 32 ∧
      t.rd TIM_CAP_END_FRACTION = s.cal.frac % 2 ^ 16 ∧ t.rd TIM_CAP_SEQ = (s.rd TIM_CAP_SEQ + 1) % 2 ^ 24 ∧
      bitAt (t.rd (FRESH 0x18)) 1 = true ∧ Noted TIM_NOTE_CAPTURE t ∧ t.time = s.time) ∧
  (∀ (s : State) (port : Port) (n : Nat), s.atWork 0x18 = true →
    Completes (.timTsPop port n) s fun t =>
      match s.time.tsQueue with
      | [] => t.time = s.time ∧ Noted TIM_NOTE_POP_ERR t
      | _ :: rest =>
        if n = s.rd (SEQ_COUNT 0x18) then
          t.time = { s.time with tsQueue := rest } ∧ Publishes 0x18 s t ∧
          t.rd TIM_TS_INFO_VALID = (if rest = [] then 0 else 1)
        else t.time = s.time ∧ t.rd (SEQ_COUNT 0x18) = s.rd (SEQ_COUNT 0x18) ∧ Noted TIM_NOTE_POP_ERR t) ∧
  (∀ (s : State) (c : Nat), s.live 0x18 = true →
    Completes (.ppsOutPulse c) s fun t =>
      if s.rd TIM_PPS_CFG_EN = 0 ∨ s.ppsDue (s.reach c).time.raw = false ∨ (∃ l, s.time.ppsLast = some l ∧ (s.reach c).time.raw < l + 125000000) then t = s.reach c
      else t.emitted = s.emitted ++ [.ppsPulse (s.reach c).moduleTime (max 1 (s.rd TIM_PPS_CFG_WIDTH))] ∧
        t.time = { (s.reach c).time with ppsLast := some ((s.reach c).time.raw) }) ∧
  (∀ (s : State) (c : Nat) (falling : Bool), s.live 0x18 = true →
    Completes (.ppsInEdge falling c) s fun t =>
      if s.rd TIM_PPS_IN_EN = 0 ∨ s.rd TIM_PPS_IN_EDGE ≠ (if falling then 1 else 0) ∨
        (∃ l, s.time.ppsInLast = some l ∧ (s.reach c).time.raw < l + 250000) then t = s.reach c
      else t.rd TIM_PPSI_LO = (s.reach c).moduleTime % 2 ^ 32 ∧ t.rd TIM_PPSI_SEQ = (s.rd TIM_PPSI_SEQ + 1) % 2 ^ 24 ∧
        Raises TIM_NOTE_PPS_IN s t ∧ t.time = { (s.reach c).time with ppsInLast := some ((s.reach c).time.raw) })

/-- With no trim and no load waiting, a pulse adds 2 to the fraction; at the wrap the second count rises by 1, but for the armed leap
second's end of day: an inserted one holds the count for a second with LEAP_NOW, and its end moves the UTC offset by 1; a deleted one
skips a second. The pulses of a second take the count to the next. A load in range waits for the next pulse, which takes its count and
fraction in place of the normal advance, clears OSF and publishes; one out of range shows its reason and changes no time. A step that
waits takes UTC from module time. The end of a trim window of 1,024 s of module time in LOCKED steers the trim, unless a load, a step
or a leap fell in it: then it does not count; with automatic steps a phase error beyond the threshold asks for a step instead. A
stopped oscillator sets OSF with its record or mark. For every Gregorian date from 2000-01-01 to 2399-12-31 and every time of day, the
count that a load of the fields gives has those fields again, with the weekday of the day; the first day is a Saturday and the last
second of the range is 12,622,780,799. (Where the spec leaves a choice, it is the model's: log entries 95, 153 and 192.) -/
def Obligations.CalendarPulses : Prop :=
  (∀ s : State, s.aonRunning = true → s.rd RTC_TRIM = 0 → s.cal.load = none →
    Completes .calendarFractionAdvance s fun t =>
      t.cal.frac = (s.cal.frac + 2) % 65536 ∧ t.cal.pulses = s.cal.pulses + 1 ∧ (s.rtcOn = true → Publishes 0x19 s t) ∧
      if s.cal.frac + 2 < 65536 then t.cal.secs = s.cal.secs
      else if s.rd RTC_STATUS_LEAP_NOW = 1 then
        t.cal.secs = (s.cal.secs + 1) % 2 ^ 48 ∧ t.rd RTC_STATUS_LEAP_NOW = 0 ∧ t.rd RTC_LEAP_ARM = 0 ∧
        t.cal.utcOffset = codeOf 16 (s.rdS TIM_UTC_OFFSET + 1)
      else if s.rd RTC_LEAP_ARM = 1 ∧ s.rd RTC_LEAP_DATE = s.cal.secs / 86400 ∧ s.rd RTC_LEAP_SIGN = 0 ∧ s.cal.secs % 86400 = 86399 then
        t.cal.secs = s.cal.secs ∧ t.rd RTC_STATUS_LEAP_NOW = 1
      else if s.rd RTC_LEAP_ARM = 1 ∧ s.rd RTC_LEAP_DATE = s.cal.secs / 86400 ∧ s.rd RTC_LEAP_SIGN = 1 ∧ s.cal.secs % 86400 = 86398 then
        t.cal.secs = (s.cal.secs + 2) % 2 ^ 48 ∧ t.rd RTC_LEAP_ARM = 0 ∧ t.cal.utcOffset = codeOf 16 (s.rdS TIM_UTC_OFFSET - 1)
      else t.cal.secs = (s.cal.secs + 1) % 2 ^ 48) ∧
  (∀ s : State, s.aonRunning = true → s.rd RTC_TRIM = 0 → s.rd RTC_STATUS_LEAP_NOW = 0 → s.rd RTC_LEAP_ARM = 0 →
    s.cal.frac < 65536 → s.cal.load = none →
    Completes .rtcSecondRollover s fun t =>
      t.cal.secs = (s.cal.secs + 1) % 2 ^ 48 ∧ t.cal.frac = s.cal.frac % 2 ∧ t.cal.pulses = s.cal.pulses + (65537 - s.cal.frac) / 2) ∧
  (∀ (s : State) (i : Instr), s.aonRunning = false → (i = .calendarFractionAdvance ∨ i = .rtcSecondRollover) →
    Completes i s fun t => t = s) ∧
  (∀ (s : State) (v : CalTime), s.aonRunning = true → s.cal.load = some (.value v) →
    Completes .calendarFractionAdvance s fun t =>
      t.cal = { s.cal with secs := v.secs, frac := v.frac, pulses := s.cal.pulses + 1, load := none, disturbed := true } ∧
      t.rd RTC_STATUS_OSF = 0 ∧ t.rd RTC_STATUS_LEAP_NOW = 0 ∧ (s.rtcOn = true → Publishes 0x19 s t)) ∧
  (∀ s : State, s.aonRunning = true → s.cal.load = some .step → 0 ≤ s.utcNs → s.utcNs < 12622780800 * 1000000000 →
    Completes .calendarFractionAdvance s fun t =>
      t.cal.secs = s.utcNs.toNat / 1000000000 ∧ t.cal.frac = s.utcNs.toNat % 1000000000 * 65536 / 1000000000 ∧ t.cal.load = none ∧
      t.rd RTC_STATUS_OSF = 0 ∧ (s.rtcOn = true → Noted RTC_NOTE_STEP t)) ∧
  (∀ (s : State) (port : Port), s.atWork 0x19 = true →
    Completes (.rtcSetCount port) s fun t =>
      let n := s.rd RTC_SET_SEC_LO + 2 ^ 32 * s.rd RTC_SET_SEC_HI_SECONDS
      if n ≤ 12622780799 then
        t.cal = { s.cal with load := some (.value ⟨n, s.rd RTC_SET_SEC_HI_FRACTION⟩) }
      else t.cal = s.cal ∧ t.rd RTC_WERR_REASON = 7 ∧ Noted RTC_NOTE_WERR t) ∧
  (∀ (s : State) (port : Port), s.atWork 0x19 = true →
    Completes (.rtcSetFields port) s fun t =>
      let y := s.rd RTC_SET_DATE_YEAR
      let m := s.rd RTC_SET_DATE_MONTH
      let d := s.rd RTC_SET_DATE_DAY
      let h := s.rd RTC_SET_TIME_HOUR
      let mi := s.rd RTC_SET_TIME_MINUTE
      let se := s.rd RTC_SET_TIME_SECOND
      if 2000 ≤ y ∧ y ≤ 2399 ∧ 1 ≤ m ∧ m ≤ 12 ∧ 1 ≤ d ∧ d ≤ daysIn y m ∧ h ≤ 23 ∧ mi ≤ 59 ∧ se ≤ 59 then
        t.cal = { s.cal with
          load := some (.value ⟨dayOf y m d * 86400 + h * 3600 + mi * 60 + se, s.rd RTC_SET_SEC_HI_FRACTION⟩) }
      else t.cal = s.cal ∧ Noted RTC_NOTE_WERR t ∧ 1 ≤ t.rd RTC_WERR_REASON ∧ t.rd RTC_WERR_REASON ≤ 6) ∧
  (∀ (s : State) (c : Nat), s.live 0x19 = true →
    (s.time.state ≠ .locked ∨ ∃ m k, s.cal.window = some (m, k) ∧ (s.reach c).moduleTimeAt (s.reach c).time.raw - m < 1024000000000) →
    Completes (.rtcTrimWindowEnd c) s fun t => t = s.reach c) ∧
  (∀ (s : State) (c : Nat), s.live 0x19 = true → s.time.state = .locked →
    (s.cal.window = none ∨ s.cal.disturbed = true ∧ ∃ m k, s.cal.window = some (m, k) ∧
      1024000000000 ≤ (s.reach c).moduleTimeAt (s.reach c).time.raw - m) →
    Completes (.rtcTrimWindowEnd c) s fun t =>
      t = { s.reach c with cal := { s.cal with
        disturbed := false, window := some ((s.reach c).moduleTimeAt (s.reach c).time.raw, s.calTicks) } }) ∧
  (∀ (s : State) (c k : Nat) (m : Int), s.live 0x19 = true → s.time.state = .locked → s.cal.disturbed = false → s.cal.window = some (m, k) →
    1024000000000 ≤ (s.reach c).moduleTimeAt (s.reach c).time.raw - m →
    Completes (.rtcTrimWindowEnd c) s fun t =>
      let mt := (s.reach c).moduleTimeAt (s.reach c).time.raw - m
      let e : Int := (((s.calTicks : Int) - k) * 1000000000 / 65536 - mt) * 1000000000 / mt
      let φ := (s.reach c).phaseErr
      if s.rd RTC_CTRL_AUTO_STEP = 1 ∧ (max 1 (s.rd RTC_STEP_THR) * 1000 : Nat) ≤ φ.natAbs then
        t.cal.load = some .step ∧ t.rd RTC_TRIM = s.rd RTC_TRIM
      else if s.rd RTC_CTRL_AUTO_TRIM = 1 then
        t.rdS RTC_TRIM = max (-549755) (min 549755
          (s.rdS RTC_TRIM - roundAway ((e * 4096 + φ * 1000) * 10000000) (4096 * 4656613))) ∧
        t.rdS RTC_DISC = max (-2 ^ 31) (min (2 ^ 31 - 1) e) ∧ t.rdS RTC_PHASE_ERR = max (-2 ^ 31) (min (2 ^ 31 - 1) φ) ∧
        Noted RTC_NOTE_TRIM_UPDATE t
      else t.rd RTC_TRIM = s.rd RTC_TRIM) ∧
  (∀ s : State, Completes .oscillatorStopped s fun t =>
      t.rd RTC_STATUS_OSF = 1 ∧ t.mac.osfSinceCharge = true ∧ (s.rtcOn = true → Noted RTC_NOTE_OSF t) ∧
      if s.live 0x1E then Recorded 0x1901 t ∧ t.cal = s.cal else t.cal = { s.cal with osfMark := true }) ∧
  (∀ y m d h mi se, 2000 ≤ y → y ≤ 2399 → 1 ≤ m → m ≤ 12 → 1 ≤ d → d ≤ daysIn y m → h ≤ 23 → mi ≤ 59 → se ≤ 59 →
    fieldsOf (dayOf y m d * 86400 + h * 3600 + mi * 60 + se) = ⟨se, mi, h, ⟨y, m, d, (dayOf y m d + 5) % 7⟩⟩ ∧
    dayOf y m d * 86400 + h * 3600 + mi * 60 + se ≤ 12622780799) ∧
  civilOf 0 = ⟨2000, 1, 1, 5⟩ ∧ fieldsOf 12622780799 = ⟨59, 59, 23, ⟨2399, 12, 31, 4⟩⟩

/-- While Hardpan holds its secret and is enabled, no life-cycle request waits and no slice holds key operations, it takes the head of D2.
A granted LOAD seals the key that it brings, unwrapped or verified, in its EMPTY slot, a granted DERIVE the derived key, a granted
ROTATE the next generation: the slot's record is sealed under the sealing key and the key island holds the key. ERASE empties the slot,
drops its key and orphans a CLASS slot's children; QUERY leaves every slot. Each counts in OPS and raises DONE, and every other slot
stands. A refused LOAD, DERIVE or ROTATE leaves every slot, shows its reason, counts in REFUSED and raises REFUSED. (The checks' order
is the model's reading: log entry 29.) (Where the spec leaves a choice, it is the model's: log entries 29 and 197.) -/
def Obligations.KeyOperations : Prop :=
  let takes (s s' : State) (p : Packet) (kind : Nat) : Prop := s.atWork 0x1C = true ∧ s.lcWaits = false ∧ s.isolated 0x06 = false ∧
    s.slqTake 2 = some (p, s') ∧ p.kind = kind ∧ s.rd HPN_STATUS_READY = 1 ∧ s.rd HPN_CTRL_EN = 1
  let done (s t : State) : Prop := t.rd HPN_OPS = (s.rd HPN_OPS + 1) % 2 ^ 32 ∧ Noted HPN_NOTE_DONE t
  let refused (s t : State) (code : Nat) : Prop := t.hpn = s.hpn ∧ t.rd HPN_ERR_REASON = code ∧
    t.rd HPN_REFUSED = (s.rd HPN_REFUSED + 1) % 2 ^ 32 ∧ Noted HPN_NOTE_REFUSED t ∧ Noted HPN_NOTE_DONE t
  let holds (s t : State) (n cls parent uses gen label key : Nat) : Prop :=
    t.slot n = some (KeySlot.seal ⟨1, cls, parent, uses, gen, label, s.rd HPN_LC_COUNT, s.calNow.secs % 2 ^ 32, s.hpn.sealCount + 1, [], []⟩
      s.sealing n key) ∧
    (s.hpn.island.isSome = true → t.keyOf n = key) ∧ (∀ j, j ≠ n → t.slot j = s.slot j ∧ t.keyOf j = s.keyOf j) ∧ done s t
  (∀ (s s' : State) (p : Packet) (key : Nat), takes s s' p 1 →
    let r := requestOf p
    r.slot < 64 → r.data.length = (if r.cls = 4 then 128 else 88) →
    (s.modes.life = .provisioned ∨ (s.modes.life = .deployed ∧ r.cls = 4)) → 1 ≤ r.cls → r.cls ≤ 4 → Nat.land r.uses (usesOf r.cls) = r.uses →
    s.slotState r.slot = 0 → (r.cls = 2 ∨ r.cls = 3 → s.parentOk r.parent = true) → s.loadedKey r = some key →
    Completes .keyLoad s fun t => holds s t r.slot r.cls (if r.cls = 2 ∨ r.cls = 3 then r.parent else 0xFF) r.uses 0 r.label key) ∧
  (∀ (s s' : State) (p : Packet), takes s s' p 1 → s.loadCode (requestOf p) ≠ 0 →
    Completes .keyLoad s fun t => refused s t (s.loadCode (requestOf p))) ∧
  (∀ (s s' : State) (p : Packet), takes s s' p 2 →
    let r := requestOf p
    r.slot < 64 → (s.modes.life = .provisioned ∨ s.modes.life = .deployed) → (r.cls = 2 ∨ r.cls = 3) →
    Nat.land r.uses (usesOf r.cls) = r.uses → s.slotState r.slot = 0 → s.parentOk r.parent = true →
    Completes .keyDerive s fun t =>
      holds s t r.slot r.cls r.parent r.uses 0 r.label (derivedKey (s.keyOf r.parent) r.label 0)) ∧
  (∀ (s s' : State) (p : Packet), takes s s' p 2 → s.deriveCode (requestOf p) ≠ 0 →
    Completes .keyDerive s fun t => refused s t (s.deriveCode (requestOf p))) ∧
  (∀ (s s' : State) (p : Packet) (k : KeySlot), takes s s' p 3 →
    let r := requestOf p
    r.slot < 64 → (s.modes.life = .provisioned ∨ s.modes.life = .deployed) → s.slot r.slot = some k → (k.state = 1 ∨ k.state = 2) →
    (k.cls = 2 ∨ k.cls = 3) → k.gen < 0xFFFFFFFF → s.parentOk k.parent = true →
    Completes .keyRotate s fun t =>
      holds s t r.slot k.cls k.parent k.uses (k.gen + 1) k.label (derivedKey (s.keyOf k.parent) k.label (k.gen + 1))) ∧
  (∀ (s s' : State) (p : Packet), takes s s' p 3 → s.rotateCode (requestOf p) ≠ 0 →
    Completes .keyRotate s fun t => refused s t (s.rotateCode (requestOf p))) ∧
  (∀ (s s' : State) (p : Packet), takes s s' p 4 → (requestOf p).slot < 64 → (s.modes.life = .provisioned ∨ s.modes.life = .deployed) →
    Completes .keyErase s fun t =>
      let n := (requestOf p).slot
      let cls1 := ∃ k, s.slot n = some k ∧ k.state = 1 ∧ k.cls = 1
      t.slot n = none ∧ t.keyOf n = 0 ∧ done s t ∧
      ∀ j k, j ≠ n → s.slot j = some k →
        (cls1 → k.state = 1 → k.parent = n → (k.cls = 2 ∨ k.cls = 3) → t.slot j = some { k with state := 2 }) ∧
        (¬cls1 ∨ k.state ≠ 1 ∨ k.parent ≠ n ∨ (k.cls ≠ 2 ∧ k.cls ≠ 3) → t.slot j = some k)) ∧
  (∀ (s s' : State) (p : Packet), takes s s' p 6 → (requestOf p).slot < 64 → (s.modes.life = .provisioned ∨ s.modes.life = .deployed) →
    Completes .keyQuery s fun t => t.hpn = s.hpn ∧ done s t)

/-- Each life-cycle request that Hardpan takes draws a new nonce. A token that passes every check asks the decision step for the state it
names and keeps its payload; one that asks for a transition which the life cycle does not have asks the decision step too, which
refuses it; one that names no state at all is refused at once in the same way; one that fails another check shows its result code, is
answered, and asks for nothing. While Hardpan holds no secret or is disabled, an operation is refused with code 2 and no slot changes.
An error of the key island leaves no key held and its record, and every slot stands. (Where the spec leaves a choice, it is the
model's: log entries 106 and 196.) -/
def Obligations.LifeCycleRequests : Prop :=
  (∀ (s s' : State) (p : Packet), s.atWork 0x1C = true → s.lcWaits = false → s.isolated 0x06 = false → s.slqTake 2 = some (p, s') →
    p.kind = 5 → s.rd HPN_STATUS_READY = 1 → s.rd HPN_CTRL_EN = 1 →
    Completes .lcRequest s fun t =>
      let c := s.tokenCheck (requestOf p).data
      t.draws = s.draws + 1 ∧ t.hpn.slots = s.hpn.slots ∧ t.modes = s.modes ∧
      if c.1 = 0 then Asks (.life c.2) t ∧ t.hpn.payload = (requestOf p).data.drop 128
      else if c.1 = 1 ∧ lifeOf ((requestOf p).data.getD 17 0) = some c.2 then Asks (.life c.2) t ∧ t.hpn.payload = []
      else t.modeReqs = s.modeReqs ∧ t.rd HPN_LC_STAT_RESULT = c.1 ∧ Noted HPN_NOTE_LC_RESULT t ∧ t.rd HPN_ERR_REASON = c.1 ∧
        t.hpn = s.hpn ∧ (c.1 = 1 → t.rd SYS_REQ_STAT_AXIS = 1 ∧ t.rd SYS_REQ_STAT_BLOCKER = 1 ∧ Noted SYS_NOTE_REFUSED t ∧ Recorded 0x0003 t)) ∧
  (∀ (s s' : State) (p : Packet) (i : Instr), s.atWork 0x1C = true → s.lcWaits = false → s.isolated 0x06 = false →
    s.slqTake 2 = some (p, s') → (s.rd HPN_STATUS_READY = 0 ∨ s.rd HPN_CTRL_EN = 0) →
    ((i = .keyLoad ∧ p.kind = 1) ∨ (i = .keyDerive ∧ p.kind = 2) ∨ (i = .keyRotate ∧ p.kind = 3) ∨ (i = .keyErase ∧ p.kind = 4) ∨
     (i = .lcRequest ∧ p.kind = 5) ∨ (i = .keyQuery ∧ p.kind = 6)) →
    Completes i s fun t => t.hpn = s.hpn ∧ t.draws = s.draws ∧ t.modeReqs = s.modeReqs ∧ t.rd HPN_ERR_REASON = 2 ∧
      Noted HPN_NOTE_REFUSED t) ∧
  (∀ s : State, s.atWork 0x1C = true →
    Completes .keyIslandError s fun t =>
      t.rd HPN_STATUS_READY = 0 ∧ t.hpn = { s.hpn with island := none } ∧ (∀ n, t.keyOf n = 0) ∧ Records 0x1C03 0 0 0 0 s t)

/-- A sampling round of the always-on domain draws the mesh bit and shows the enabled inputs that read open; while none completes its
debounce and the die is in limits it is no event. A round in which an input completes its debounce, and a monitor that trips while
armed and enabled, are events: latched, counted, with their record, the secret lost, and ALARM asked for after the root has been read;
an enabled ERASE source empties every slot. A write of TPR_IN_CFG or TPR_MON_CFG in DEPLOYED that would clear an EN or ERASE bit is
discarded as a whole and sets CFG_LOCKED: every field of both registers reads as before. Every other write, in every state, takes its
EN and ERASE bits, and the debounce count of TPR_IN_CFG. (Where the spec leaves a choice, it is the model's: log entries 104, 105 and
185.) -/
def Obligations.TamperUnit : Prop :=
  (∀ (s : State) (opened : Nat) (hot busy : Bool), s.aonRunning = false →
    Completes (.tamperSamplingRound opened hot busy) s fun t => t = s) ∧
  (∀ (s : State) (opened : Nat) (busy : Bool), s.aonRunning = true → opened < 16 →
    (∀ k, k < 4 → s.openCount opened k = s.debounce → s.debounce ≤ s.tpr.counts.getD k 0) →
    Completes (.tamperSamplingRound opened false busy) s fun t =>
      t.tpr.counts = (List.range 4).map (s.openCount opened) ∧ t.rd TPR_STATUS_IN = Nat.land opened (s.rd TPR_IN_CFG_EN) ∧
      t.rd TPR_STATUS_MON = 0 ∧ t.draws = s.draws + 1 ∧ t.emitted.length = s.emitted.length + 1 ∧ t.hpn = s.hpn ∧
      t.rd TPR_LATCH_IN = s.rd TPR_LATCH_IN ∧ t.modeReqs = s.modeReqs) ∧
  (∀ (s : State) (opened k : Nat) (hot busy : Bool), s.aonRunning = true → opened < 16 → k < 4 →
    s.openCount opened k = s.debounce → s.tpr.counts.getD k 0 < s.debounce → s.startup.phase = .ready → 7 ≤ s.startup.line →
    Completes (.tamperSamplingRound opened hot busy) s fun t =>
      bitAt (t.rd TPR_LATCH_IN) k = true ∧ t.rd TPR_EVENTS = min (2 ^ 32 - 1) (s.rd TPR_EVENTS + 1) ∧ t.rd HPN_STATUS_READY = 0 ∧
      Recorded 0x1D01 t ∧ Asks (.tamper .alarm) t ∧ (bitAt (s.rd TPR_IN_CFG_ERASE) k = true → t.hpn.slots = [])) ∧
  (∀ (s : State) (m : Nat) (aon busy : Bool), m < 3 → s.aonRunning = true → s.startup.phase = .ready → 7 ≤ s.startup.line →
    Completes (.tamperMonitorTrip m aon busy) s fun t =>
      if bitAt (s.rd TPR_MON_CFG_EN) m then
        bitAt (t.rd TPR_LATCH_MON) m = true ∧ bitAt (t.rd TPR_STATUS_MON) m = true ∧
        t.rd TPR_EVENTS = min (2 ^ 32 - 1) (s.rd TPR_EVENTS + 1) ∧ t.rd HPN_STATUS_READY = 0 ∧ Recorded 0x1D01 t ∧
        Asks (.tamper .alarm) t ∧ (bitAt (s.rd TPR_MON_CFG_ERASE) m = true → t.hpn.slots = [])
      else t = s) ∧
  (∀ (s : State) (port : Port) (mon : Bool) (w : Nat), s.atWork 0x1D = true → w < 2 ^ 32 →
    Completes (.tprCfgWrite port mon w) s fun t =>
      let en := if mon then TPR_MON_CFG_EN else TPR_IN_CFG_EN
      let er := if mon then TPR_MON_CFG_ERASE else TPR_IN_CFG_ERASE
      let e := w % 2 ^ en.width
      let r := w / 16 % 2 ^ en.width
      if s.modes.life = .deployed ∧ (Nat.land (s.rd en) e ≠ s.rd en ∨ Nat.land (s.rd er) r ≠ s.rd er) then
        OnlyFields [NOTE_RAW 0x1D, NOTE_RAW 0x01, MSIX_PBA] s t ∧ Noted TPR_NOTE_CFG_LOCKED t
      else
        t.rd en = e ∧ t.rd er = r ∧ (mon = false → t.rd TPR_IN_CFG_DEBOUNCE = w / 256 % 8) ∧
        t.rd (NOTE_RAW 0x1D) = s.rd (NOTE_RAW 0x1D))

/-- An event joins the intake, or counts in LOST with the notice where 64 wait. When SLT may write, the oldest event leaves the intake: an event equal to the newest record raises its repeat count, any other becomes a new record with repeat 1, and on a full log of 4,096 it counts as lost with FULL set; otherwise nothing changes. The change count comes to rest at the next even value. CLEAR with the right key leaves one record, of the clearing, and zero in LOST and FULL; with any other key the log stands. -/
def Obligations.SiltRecords : Prop :=
  (∀ (s : State) (code p0 p1 p2 p3 : Nat), WellFormed (.siltEvent code p0 p1 p2 p3) →
    Completes (.siltEvent code p0 p1 p2 p3) s fun t =>
      Records code p0 p1 p2 p3 s t ∧ t.siltLog = s.siltLog ∧
      (64 ≤ s.siltIntake.length → t.rd SLT_LOST = min (2 ^ SLT_LOST.width - 1) (s.rd SLT_LOST + 1) ∧ Raises SLT_NOTE_LOST s t)) ∧
  (∀ (s : State), (s.siltIntake = [] ∨ s.siltMayWrite = false) → Completes .siltRecordWrite s fun t => t = s) ∧
  (∀ (s : State) (e : SiltEvent) (rest : List SiltEvent), s.siltIntake = e :: rest → s.siltMayWrite = true →
    Completes .siltRecordWrite s fun t =>
      t.siltIntake = rest ∧
      if 4096 ≤ s.siltLog.length then
        t.siltLog = s.siltLog ∧ t.rd SLT_STATUS_FULL = 1 ∧ t.rd SLT_LOST = min (2 ^ SLT_LOST.width - 1) (s.rd SLT_LOST + 1) ∧
        Noted SLT_NOTE_LOST t ∧ (s.rd SLT_STATUS_FULL = 0 → Noted SLT_NOTE_FULL t)
      else
        t.rd SLT_CHANGE = (s.rd SLT_CHANGE / 2 * 2 + 2) % 2 ^ 32 ∧
        if ∃ r, s.siltLog.getLast? = some r ∧ r.event.code = e.code ∧ r.event.p0 = e.p0 ∧ r.event.p1 = e.p1 ∧ r.event.p2 = e.p2 ∧
            r.event.p3 = e.p3 ∧ r.repeats < 65535 then
          t.siltLog.length = s.siltLog.length ∧ t.siltLog.dropLast = s.siltLog.dropLast ∧
          (∀ r, s.siltLog.getLast? = some r → t.siltLog.getLast? = some ⟨r.event, r.repeats + 1⟩) ∧
          t.rd SLT_REPEAT_TIME_LO = e.time.secs % 2 ^ 32
        else t.siltLog = s.siltLog ++ [⟨e, 1⟩] ∧ Noted SLT_NOTE_RECORD t) ∧
  (∀ (s : State) (port : Port) (key : Nat), s.atWork 0x1E = true →
    Completes (.sltClear port key) s fun t =>
      if key = 0x51C7 then
        (∃ who, t.siltLog = [⟨⟨0x1E01, s.siltLog.length, s.rd SLT_LOST, who, 0, s.calNow, s.calValid, false⟩, 1⟩]) ∧
        t.rd SLT_LOST = 0 ∧ t.rd SLT_STATUS_FULL = 0 ∧ t.rd SLT_CHANGE = (s.rd SLT_CHANGE / 2 * 2 + 2) % 2 ^ 32 ∧
        Noted SLT_NOTE_CLEARED t ∧ Noted SLT_NOTE_RECORD t ∧ t.siltIntake = s.siltIntake
      else t.siltLog = s.siltLog ∧ t.siltIntake = s.siltIntake ∧ t.rd SLT_LOST = s.rd SLT_LOST)

/-- While the axis is SLICED, the scheduler starts a slice of the next untested piece when it fits. A slice that ends leaves what runs: a
pass marks its piece tested and counts it; a failure marks its region failed, publishes where, and leaves its notice and record; an
error while saving abandons it with the notice and record, and the piece stays untested. Once LIMIT seconds have passed since the
round's first slice, the round limit ends the round: it is published with LIMIT, and a new round begins with no piece tested. In
another mode no slice starts. (Where the spec leaves a choice, it is the model's: log entry 107.) -/
def Obligations.SieveSlices : Prop :=
  (∀ (s : State) (c : Nat) (un : List (Nat × Nat)), s.atWork 0x1F = true → (s.modes.sieve ≠ .sliced ∨ s.rd SIV_STATUS_SUSPENDED = 1) →
    Completes (.sieveSliceStart c un) s fun t => t = s.reach c) ∧
  (∀ (s : State) (c id p : Nat) (rest : List (Nat × Nat)), s.atWork 0x1F = true → s.modes.sieve = .sliced →
    s.rd SIV_STATUS_SUSPENDED = 0 → s.siv.last = none → s.siv.passed = [] → s.sivUntested = (id, p) :: rest → s.sivFits id = true →
    Completes (.sieveSliceStart c []) s fun t =>
      let now := (s.reach c).moduleTimeAt (s.reach c).time.raw
      t.siv.slices = s.siv.slices ++ [⟨id, p, s.sivPreserves id⟩] ∧ t.siv.last = some now ∧
      t.siv.began = some (s.siv.began.getD (now, s.calNow)) ∧ t.siv.tested = s.siv.tested ∧ (id = 0x34 → t.emu.held = true)) ∧
  (∀ (s : State) (c id p found : Nat) (x : SivSlice), s.atWork 0x1F = true → WellFormed (.sieveSliceEnd c id p found) →
    s.deferred = [] →
    (s.siv.slices.find? fun y => y.region == id && y.piece == p) = some x →
    Completes (.sieveSliceEnd c id p found) s fun t =>
      t.siv.slices = s.siv.slices.filter (fun y => y != x) ∧ (id = 0x34 → t.emu.held = false) ∧
      if 2 ≤ found then
        t.rd SIV_ABANDONED = (s.rd SIV_ABANDONED + 1) % 2 ^ 32 ∧ Noted SIV_NOTE_ABANDON t ∧ Recorded 0x1F03 t ∧
        t.siv.tested = s.siv.tested ∧ t.siv.failed = s.siv.failed ∧ t.rd SIV_SLICES = s.rd SIV_SLICES
      else
        t.rd SIV_SLICES = (s.rd SIV_SLICES + 1) % 2 ^ 32 ∧
        if found = 1 then
          id ∈ t.siv.failed ∧ Noted SIV_NOTE_FAIL t ∧ t.rd SIV_F_WHERE_REGION = id ∧ t.rd SIV_F_WHERE_PIECE = p ∧
          t.rd SIV_F_WHERE_SOURCE = 1 ∧ Recorded 0x1F02 t
        else t.siv.failed = s.siv.failed ∧
          (s.sivUntested ≠ [] → t.siv.tested = s.siv.tested ++ [(id, p)] ∧ t.siv.round = s.siv.round)) ∧
  (∀ (s : State) (c : Nat), s.atWork 0x1F = true →
    Completes (.sieveRoundLimit c) s fun t =>
      match s.siv.began with
      | none => t = s.reach c
      | some (from_, _) =>
        if (s.reach c).moduleTimeAt (s.reach c).time.raw < from_ + max 60 (min 86400 (s.rd SIV_ROUND_LIMIT)) * 1000000000 then t = s.reach c
        else t.siv.began = none ∧ t.siv.tested = [] ∧ t.siv.round = (s.siv.round + 1) % 2 ^ 32 ∧ t.siv.slices = s.siv.slices ∧
          t.rd SIV_R_ROUND = s.siv.round % 2 ^ 32 ∧ t.rd SIV_R_END_LIMIT = 1 ∧ Publishes 0x1F s t ∧ Noted SIV_NOTE_ROUND t ∧
          Noted SIV_NOTE_ROUND_LIMIT t)

/-- The end of a FULL test takes the axis to OFF, leaves the module tested and not READY, empties every queue and the frame buffer, with
FULL_DONE. RECOVER of a region that exists and is neither the boot ROM's nor SECRET, whose unit is disabled, while no FULL test and no
recovery runs, begins its test with RESULT 0; otherwise it shows its result and begins nothing. The end of a recovery test raises its
notice and reports a failure found with source 3. CLEAR_FAILED of a region that exists takes it out of the failed regions, else it
shows RESULT 1. (Where the spec leaves a choice, it is the model's: log entries 53, 109 and 110.) -/
def Obligations.SieveFullAndRecovery : Prop :=
  (∀ (s : State) (found : Option SivFailure) (fails regions un : Nat), s.atWork 0x1F = true →
    WellFormed (.sieveFullDone found fails regions un) →
    Completes (.sieveFullDone found fails regions un) s fun t =>
      if s.modes.sieve = .full then
        t.modes.sieve = .off ∧ t.startup.phase = s.startup.phase.afterFull ∧ t.rd SYS_STATUS_READY = 0 ∧ t.mac.frameBuf = [] ∧
        (∀ q, q < 24 → t.queue q = .empty) ∧ Noted SIV_NOTE_FULL_DONE t ∧ t.hpn = s.hpn ∧ t.siltLog = s.siltLog ∧ t.cal = s.cal
      else t = s) ∧
  (∀ (s : State) (port : Port) (id : Nat), s.atWork 0x1F = true → id < 256 → sivExists id = true → id ≠ 0x01 → id ∉ sivSecret →
    s.sivUnitEnabled id = false → s.modes.sieve ≠ .full → s.siv.recover = none →
    Completes (.recover port id) s fun t => t.siv = { s.siv with recover := some id } ∧ t.rd SIV_CMD_STAT_RESULT = 0) ∧
  (∀ (s : State) (port : Port) (id : Nat), s.atWork 0x1F = true → id < 256 →
    (sivExists id = false ∨ id = 0x01 ∨ id ∈ sivSecret ∨ s.sivUnitEnabled id = true ∨ s.modes.sieve = .full ∨ s.siv.recover ≠ none) →
    Completes (.recover port id) s fun t => t.siv = s.siv ∧ 1 ≤ t.rd SIV_CMD_STAT_RESULT ∧
      (sivExists id = false → t.rd SIV_CMD_STAT_RESULT = 1) ∧ (id ∈ sivSecret → t.rd SIV_CMD_STAT_RESULT = 2)) ∧
  (∀ (s : State) (found : Option SivFailure) (fails : Nat), s.atWork 0x1F = true → WellFormed (.recoverDone found fails) →
    Completes (.recoverDone found fails) s fun t =>
      match s.siv.recover with
      | none => t = s
      | some id => t.siv.recover = none ∧ Noted SIV_NOTE_RECOVER_DONE t ∧
          match found with
          | none => OnlyFields [NOTE_RAW 0x1F, MSIX_PBA] s t
          | some f => t.rd SIV_F_WHERE_REGION = id % 256 ∧ t.rd SIV_F_WHERE_PIECE = f.piece ∧ t.rd SIV_F_WHERE_SOURCE = 3 ∧
              t.rd SIV_F_ADDR = f.addr ∧ t.rd SIV_F_END_FAILS = min fails 65535 ∧ Recorded 0x1F02 t) ∧
  (∀ (s : State) (port : Port) (id : Nat), s.atWork 0x1F = true → id < 256 →
    Completes (.clearFailed port id) s fun t =>
      if sivExists id then id ∉ t.siv.failed ∧ (∀ j, j ≠ id → (j ∈ t.siv.failed ↔ j ∈ s.siv.failed)) ∧ t.rd SIV_CMD_STAT_RESULT = 0
      else t.siv = s.siv ∧ t.rd SIV_CMD_STAT_RESULT = 1)

/-- A port that is not up takes no frame; a frame that comes in DOZE starts CK_SYS. A runt, an oversize frame and one with a bad FCS are
counted with their notices and go nowhere; a PAUSE frame on a port with PAUSE_RX pauses it for its quanta. A frame that finds no room,
that PFC does not admit, or whose carry check fails on its way into the buffer, is counted and dropped. A good frame counts in RX_OK;
where its port is LEARNING it is learned and goes no further, and where FORWARDING it is stored once and joins, behind what waits, the
class queue of the one port it leaves by, as long as the queue has room; a frame that fails a VLAN rule is counted and dropped. (Where
the spec leaves a choice, it is the model's: log entries 87 and 179.) -/
def Obligations.SwitchReceivesFrames : Prop :=
  (∀ (s : State) (k c len : Nat) (f : EthFrame) (check : FrameCheck) (ns : Int), s.atWork 0x10 = true → s.live (0x11 + k) = true → k < 6 →
    s.portUp k = false → Completes (.etpFrameReceived k c len f check ns) s fun t => t = { s.reach c with domains := t.domains }) ∧
  (∀ (s : State) (k c len : Nat) (f : EthFrame) (check : FrameCheck) (ns : Int), s.atWork 0x10 = true → s.live (0x11 + k) = true → k < 6 →
    s.modes.power = .doze → s.startup.phase = .ready →
    Completes (.etpFrameReceived k c len f check ns) s fun t => t.domain 2 = .running) ∧
  (∀ (s : State) (k c len : Nat) (f : EthFrame) (check : FrameCheck) (ns : Int), s.atWork 0x10 = true → s.live (0x11 + k) = true → k < 6 →
    s.portUp k = true → (len < 64 ∨ 9216 < len ∨ check = .badFcs) →
    Completes (.etpFrameReceived k c len f check ns) s fun t =>
      t.swf = s.swf ∧ t.rd (ETP_RX_OK k) = s.rd (ETP_RX_OK k) ∧
      if len < 64 then t.rd (ETP_RX_RUNT k) = (s.rd (ETP_RX_RUNT k) + 1) % 2 ^ 32 ∧ Raises (ETP_NOTE_SIZE_ERR k) s t
      else if 9216 < len then t.rd (ETP_RX_OVERSIZE k) = (s.rd (ETP_RX_OVERSIZE k) + 1) % 2 ^ 32 ∧ Raises (ETP_NOTE_SIZE_ERR k) s t
      else if s.bufferRoom k (ceilDiv len 256) = false then
        t.rd (ETP_RX_BUF_DROP k) = (s.rd (ETP_RX_BUF_DROP k) + 1) % 2 ^ 32 ∧ Raises (ETP_NOTE_BUF_DROP k) s t
      else t.rd (ETP_RX_FCS_ERR k) = (s.rd (ETP_RX_FCS_ERR k) + 1) % 2 ^ 32 ∧ Raises (ETP_NOTE_FCS_ERR k) s t) ∧
  (∀ (s : State) (k c len : Nat) (f : EthFrame) (ns : Int), s.atWork 0x10 = true → s.live (0x11 + k) = true → k < 6 →
    s.portUp k = true → 64 ≤ len → len ≤ 9216 → f.control = some 1 → s.rd (ETP_FC_PAUSE_RX k) = 1 → s.rd (ETP_FC_PFC_EN k) = 0 →
    Completes (.etpFrameReceived k c len f .good ns) s fun t =>
      let quanta := beN f.body 4 2
      t.rd (ETP_RX_PAUSE k) = (s.rd (ETP_RX_PAUSE k) + 1) % 2 ^ 32 ∧ t.rd (ETP_RX_OK k) = s.rd (ETP_RX_OK k) ∧
      t.rd (ETP_STATUS_PAUSED k) = (if quanta = 0 then 0 else 1) ∧
      (quanta ≠ 0 → Sparse.get t.swf.pauses (9 * k + 8) =
        some ((s.reach c).time.raw * 40 + quanta * quantum (s.rd (ETP_STATUS_SPEED k)))) ∧ t.swf.queues = s.swf.queues) ∧
  (∀ (s : State) (k c len : Nat) (f : EthFrame) (ns : Int), s.atWork 0x10 = true → s.live (0x11 + k) = true → k < 6 →
    s.portUp k = true → 64 ≤ len → len ≤ 9216 → f.control = none → s.bufferRoom k (ceilDiv len 256) = true →
    Completes (.etpFrameReceived k c len f .badCarry ns) s fun t =>
      t.swf = s.swf ∧ t.rd (ETP_RX_OK k) = s.rd (ETP_RX_OK k) ∧ t.rd SWF_ECC_DROP = (s.rd SWF_ECC_DROP + 1) % 2 ^ 32 ∧
      Noted SWF_NOTE_ECC_DROP t) ∧
  (∀ (s : State) (k c len : Nat) (f : EthFrame) (ns : Int), s.atWork 0x10 = true → s.live (0x11 + k) = true → k < 6 →
    s.portUp k = true → 64 ≤ len → len ≤ 9216 → f.control = none →
    (s.bufferRoom k (ceilDiv len 256) = false ∨ s.pfcDrops k (s.classOf f k) = true) →
    Completes (.etpFrameReceived k c len f .good ns) s fun t =>
      t.swf = s.swf ∧ t.rd (ETP_RX_OK k) = s.rd (ETP_RX_OK k) ∧
      if s.bufferRoom k (ceilDiv len 256) = false then
        t.rd (ETP_RX_BUF_DROP k) = (s.rd (ETP_RX_BUF_DROP k) + 1) % 2 ^ 32 ∧ Raises (ETP_NOTE_BUF_DROP k) s t
      else t.rd (ETP_PFC_DROP k) = (s.rd (ETP_PFC_DROP k) + 1) % 2 ^ 32) ∧
  (∀ (s : State) (k c len : Nat) (f : EthFrame) (ns : Int), s.atWork 0x10 = true → s.live (0x11 + k) = true → k < 6 →
    s.portUp k = true → 64 ≤ len → len ≤ 9216 → f.control = none → s.bufferRoom k (ceilDiv len 256) = true →
    s.pfcDrops k (s.classOf f k) = false → s.engineTakes k f = false → f.linkLocal = false →
    Completes (.etpFrameReceived k c len f .good ns) s fun t =>
      let vid := s.vidOf f k
      let state := s.fwdState k (s.vlanInstance vid)
      let cls := s.classOf f k
      let fr : SwFrame := ⟨s.swf.nextId + 1, f, k, cls, vid, s.rxStamp k ns, false, false, none⟩
      t.rd (ETP_RX_OK k) = (s.rd (ETP_RX_OK k) + 1) % 2 ^ 32 ∧
      if s.vlanDrops f k vid = true then t.swf = s.swf ∧ t.rd (ETP_RX_VLAN_DROP k) = (s.rd (ETP_RX_VLAN_DROP k) + 1) % 2 ^ 32
      else if state < 2 then t.swf = s.swf
      else if state = 2 then
        t.swf.queues = s.swf.queues ∧
        (s.rd SWF_CTRL_LEARN_EN = 1 → s.fdbFind f.src vid = none → ∀ i, s.fdbPlace f.src vid = some i →
          t.swf.fdb = Sparse.insert s.swf.fdb i ⟨f.src, vid, 2 ^ k, false, (s.reach c).time.raw, (s.reach c).moduleTime⟩)
      else ∀ p, s.rd SWF_CTRL_LEARN_EN = 0 → s.egressPorts f vid k = [p] → (p = 6 ∨ cellSum (s.swQueue p cls) < s.rd (ETP_QLIM_CELLS p)) →
        t.swQueue p cls = s.swQueue p cls ++ [fr] ∧ t.swf.nextId = s.swf.nextId + 1 ∧
        ∀ q d, q < 7 → d < 8 → (q, d) ≠ (p, cls) → t.swQueue q d = s.swQueue q d)

/-- A port that is up and not paused sends the oldest frame of the highest ready class at or above SP_MIN, in its egress form with the
instant of its start, and counts it; one whose cells fail before its start is dropped and counted, and one whose cells fail later
leaves with a bad check sequence and counts likewise. An expired pause ends; a pause is repeated while use stays at XON or more. A port
whose queues are empty enters low-power idle where enabled, and wakes once a frame waits; a port that is up shows the idle that its
link partner begins and ends. The stepping decision raises or lowers the clock by one step at most and never above its ceiling. A lost
link ends pauses and idle with LINK_CHANGE; a change of MODE drops the link and flushes the queues; a FWD_STATE that leaves FORWARDING,
or makes the instance DISABLED, flushes that instance's frames. (Where the spec leaves a choice, it is the model's: log entries 91,
121, 148 and 179.) -/
def Obligations.SwitchSendsFrames : Prop :=
  (∀ (s : State) (k c : Nat) (ns : Int) (ecc : Nat), s.atWork 0x10 = true → s.live (0x11 + k) = true → k < 6 → ecc < 5 →
    s.swf.pauses = [] → (s.portUp k = false ∨ s.rd (ETP_STATUS_LPI_TX k) = 1 ∨ ∀ d, d < 8 → s.swQueue k d = []) →
    Completes (.etpFrameTransmit k c ns ecc) s fun t => t.swf = s.swf ∧ t.emitted = s.emitted ∧ t.rd (ETP_STATUS_PAUSED k) = 0) ∧
  (∀ (s : State) (k c d : Nat) (ns : Int) (f : SwFrame) (rest : List SwFrame), s.atWork 0x10 = true → s.live (0x11 + k) = true → k < 6 →
    s.swf.pauses = [] → s.portUp k = true → s.rd (ETP_STATUS_LPI_TX k) = 0 → d < 8 → s.rd (ETP_SCHED_SP_MIN k) ≤ d →
    s.swQueue k d = f :: rest → (∀ e, d < e → e < 8 → s.swQueue k e = []) → (s.egressForm f k).size ≤ 9216 →
    s.corrects f = false → f.tsId = none →
    (Completes (.etpFrameTransmit k c ns 0) s fun t =>
      t.swQueue k d = rest ∧ t.rd (ETP_TX_OK k) = (s.rd (ETP_TX_OK k) + 1) % 2 ^ 32 ∧
      (∃ l, t.emitted = s.emitted ++ .ether k (s.egressForm f k) (s.txStamp k ns) false :: l) ∧
      ∀ q e, q < 7 → e < 8 → (q, e) ≠ (k, d) → t.swQueue q e = s.swQueue q e) ∧
    ∀ ecc, 1 ≤ ecc → ecc < 5 → Completes (.etpFrameTransmit k c ns ecc) s fun t =>
      t.swQueue k d = rest ∧ t.rd (ETP_TX_OK k) = s.rd (ETP_TX_OK k) ∧ t.rd SWF_ECC_DROP = (s.rd SWF_ECC_DROP + 1) % 2 ^ 32 ∧
      Noted SWF_NOTE_ECC_DROP t ∧
      (ecc = 2 ∨ ecc = 4 → .ether k (s.egressForm f k) (s.txStamp k ns) true ∈ t.emitted)) ∧
  (∀ (s : State) (k c : Nat), s.atWork 0x10 = true → s.live (0x11 + k) = true → k < 6 →
    Completes (.pauseTimerExpiry k c) s fun t =>
      t.swf = { s.swf with pauses := s.swf.pauses.filter fun p => p.1 / 9 != k || (s.reach c).time.raw * 40 < p.2 } ∧
      t.rd (ETP_STATUS_PAUSED k) = (if (Sparse.get t.swf.pauses (9 * k + 8)).isSome then 1 else 0) ∧
      OnlyFields [ETP_STATUS_PAUSED k, ETP_STATUS_PFC_PAUSED k] s t) ∧
  (∀ (s : State) (k : Nat), s.atWork 0x10 = true → s.live (0x11 + k) = true → k < 6 →
    Completes (.pauseRepeat k) s fun t =>
      if s.sendsPause k = true ∧ s.swf.xoff.contains k = true ∧ s.xon k ≤ s.portCells k then
        t.swf = s.swf ∧ t.rd (ETP_TX_PAUSE k) = (s.rd (ETP_TX_PAUSE k) + 1) % 2 ^ 32 ∧
        t.emitted = s.emitted ++ [if s.rd (ETP_FC_PFC_EN k) = 1 then
          .pfc k (s.rd (ETP_FC_PFC_CLASSES k)) (s.rd (ETP_FC_HEAD_QUANTA k)) else .pause k (s.rd (ETP_FC_HEAD_QUANTA k))]
      else t = s) ∧
  (∀ (s : State) (k : Nat), s.atWork 0x10 = true → s.live (0x11 + k) = true → k < 6 →
    (∀ b : Bool, Completes (if b then .lpiEntry k true else .lpiWake k true) s fun t =>
      if s.portUp k = true then t.rd (ETP_STATUS_LPI_RX k) = (if b then 1 else 0) ∧ OnlyFields [ETP_STATUS_LPI_RX k] s t else t = s) ∧
    (Completes (.lpiEntry k false) s fun t =>
      if s.portIdle k = true ∧ s.rd (ETP_LPI_EN k) = 1 ∧ s.portUp k = true ∧ s.rd (ETP_STATUS_LPI_TX k) = 0 then
        t.rd (ETP_STATUS_LPI_TX k) = 1 ∧ t.rd (ETP_LPI_ENTRIES k) = (s.rd (ETP_LPI_ENTRIES k) + 1) % 2 ^ 32 ∧
        OnlyFields [ETP_STATUS_LPI_TX k, ETP_LPI_ENTRIES k] s t
      else t = s) ∧
    Completes (.lpiWake k false) s fun t =>
      if s.portIdle k then t = s
      else t.rd (ETP_STATUS_LPI_TX k) = 0 ∧ OnlyFields [ETP_STATUS_LPI_TX k] s t) ∧
  (∀ (s : State) (load100 load1 : Nat), s.atWork 0x10 = true →
    Completes (.swfSpeedStep load100 load1) s fun t =>
      if s.rd SWF_STEP_EN = 0 ∨ s.rd SWF_CTRL_EN = 0 then t = s
      else
        let l := max s.clkCeil (s.rd SWF_STATUS_CLK)
        OnlyFields [SWF_STATUS_CLK] s t ∧ s.clkCeil ≤ t.rd SWF_STATUS_CLK ∧
        t.rd SWF_STATUS_CLK =
          if 75 * fabricMbits l < 100 * load1 ∨ 1024 ≤ s.cellsUsed then (if s.clkCeil < l then l - 1 else l)
          else if l < 2 ∧ 100 * load100 < 40 * fabricMbits (l + 1) then l + 1 else l) ∧
  (∀ (s : State) (k speed : Nat) (up : Bool), s.atWork 0x10 = true → s.live (0x11 + k) = true → k < 6 → speed < 3 →
    Completes (.etpLinkChange k up speed) s fun t =>
      if up = true ∧ (s.rd (ETP_CTRL_EN k) = 0 ∨ s.portMode k = 0 ∨ s.modes.sieve = .full) then t = s
      else
        t.rd (ETP_STATUS_LINK k) = (if up then 1 else 0) ∧
        (up = true → t.rd (ETP_STATUS_SPEED k) = modeSpeed k (s.portMode k) speed (s.rdB (ETP_LINK_AN_EN k))) ∧
        (s.rdB (ETP_STATUS_LINK k) ≠ up → Noted (ETP_NOTE_LINK_CHANGE k) t) ∧
        (up = false → s.rd (ETP_STATUS_LINK k) = 1 →
          t.rd (ETP_STATUS_PAUSED k) = 0 ∧ t.rd (ETP_STATUS_LPI_TX k) = 0 ∧ ∀ p ∈ t.swf.pauses, p.1 / 9 ≠ k)) ∧
  (∀ (s : State) (port : Port) (k mode : Nat), s.atWork (0x11 + k) = true → k < 6 → mode < 4 →
    Completes (.etpModeWrite port k mode) s fun t =>
      t.rd (ETP_CTRL_MODE k) = mode ∧ t.rd (ETP_CTRL_EN k) = s.rd (ETP_CTRL_EN k) ∧ (mode = 3 → Noted (ETP_NOTE_CFG_ERR k) t) ∧
      (mode ≠ s.rd (ETP_CTRL_MODE k) → t.rd (ETP_STATUS_LINK k) = 0 ∧ ∀ d, d < 8 → t.swQueue k d = [])) ∧
  (∀ (s : State) (port : Port) (k w : Nat), s.atWork (0x11 + k) = true → k < 6 → w < 256 →
    Completes (.etpFwdStateWrite port k w) s fun t =>
      t.rd (ETP_FWD_STATE k) = w ∧
      ∀ d, d < 8 → t.swQueue k d = (s.swQueue k d).filter fun f =>
        let i := s.vlanInstance f.vid
        !((bitsOf (s.rd (ETP_FWD_STATE k)) (2 * i) 2 == 3 && bitsOf w (2 * i) 2 != 3) || bitsOf w (2 * i) 2 == 0))

/-- INSERT puts a static entry for SWF_FDB_MAC and the VID at its own place or a free or least recently used dynamic one of its bucket,
else shows RESULT 1; DELETE removes the entry and LOOKUP finds it, else RESULT 2; the flushes remove dynamic entries of a port, of an
instance, or all, and no static one. Ageing removes dynamic entries not seen for AGE seconds of module time, unless AGE is 0. An MDIO
transaction starts unless one is BUSY; it ends with its notice, a read with its data. (Where the spec leaves a choice, it is the
model's: log entry 89.) -/
def Obligations.AddressTableAndMdio : Prop :=
  (∀ (s : State) (port : Port) (vid : Nat), s.atWork 0x10 = true → vid < 4096 →
    Completes (.fdbInsert port vid) s fun t =>
      let e : FdbEntry := ⟨s.fdbMac, vid, s.rd SWF_FDB_PORTS, true, s.time.raw, s.moduleTime⟩
      let put := fun (i : Nat) => t.swf.fdb = Sparse.insert s.swf.fdb i e ∧ t.rd SWF_FDB_STAT_RESULT = 0 ∧
        t.rd SWF_FDB_STAT_INDEX = i % 2 ^ 14 ∧ t.rd SWF_FDB_USED = t.swf.fdb.length % 2 ^ 15
      match s.fdbFind s.fdbMac vid with
      | some (i, _) => put i
      | none =>
        match s.fdbPlace s.fdbMac vid with
        | some i => put i
        | none => t.swf = s.swf ∧ t.rd SWF_FDB_STAT_RESULT = 1) ∧
  (∀ (s : State) (port : Port) (vid : Nat), s.atWork 0x10 = true → vid < 4096 →
    (Completes (.fdbDelete port vid) s fun t =>
      match s.fdbFind s.fdbMac vid with
      | some (i, _) => t.swf.fdb = Sparse.erase s.swf.fdb i ∧ t.rd SWF_FDB_STAT_RESULT = 0 ∧ t.rd SWF_FDB_STAT_INDEX = i % 2 ^ 14
      | none => t.swf = s.swf ∧ t.rd SWF_FDB_STAT_RESULT = 2) ∧
    Completes (.fdbLookup port vid) s fun t =>
      t.swf = s.swf ∧
      match s.fdbFind s.fdbMac vid with
      | some (i, _) => t.rd SWF_FDB_STAT_RESULT = 0 ∧ t.rd SWF_FDB_STAT_INDEX = i % 2 ^ 14
      | none => t.rd SWF_FDB_STAT_RESULT = 2) ∧
  (∀ (s : State) (port : Port), s.atWork 0x10 = true →
    (∀ k, k < 8 → Completes (.fdbFlushPort port k) s fun t =>
      t.swf.fdb = s.swf.fdb.filter (fun e => e.2.static_ || e.2.ports != 2 ^ k) ∧ t.rd SWF_FDB_STAT_RESULT = 0) ∧
    (∀ i, i < 4 → Completes (.fdbFlushInstance port i) s fun t =>
      t.swf.fdb = s.swf.fdb.filter (fun e => e.2.static_ || s.vlanInstance e.2.vid != i) ∧ t.rd SWF_FDB_STAT_RESULT = 0) ∧
    Completes (.fdbFlushAll port) s fun t =>
      t.swf.fdb = s.swf.fdb.filter (fun e => e.2.static_) ∧ t.rd SWF_FDB_STAT_RESULT = 0 ∧
      t.rd SWF_FDB_USED = t.swf.fdb.length % 2 ^ 15) ∧
  (∀ (s : State) (c : Nat), s.atWork 0x10 = true →
    Completes (.fdbAgeExpiry c) s fun t =>
      if s.rd SWF_AGE_SECONDS = 0 then t = s.reach c
      else t.swf.fdb = s.swf.fdb.filter fun p =>
        p.2.static_ || ((s.reach c).moduleTime - p.2.seenAt) / 1000000000 < s.rd SWF_AGE_SECONDS) ∧
  (∀ (s : State) (port : Port) (phy reg : Nat) (c45 : Bool), s.atWork 0x10 = true → phy < 32 → reg < 32 →
    let starts := fun (op : Nat) (t : State) =>
      if s.rd SWF_MDIO_CMD_BUSY = 1 then t.swf = s.swf ∧ t.rd SWF_MDIO_CMD_BUSY = 1
      else t.rd SWF_MDIO_CMD_BUSY = 1 ∧ t.swf = { s.swf with mdioRead := decide (2 ≤ op) } ∧
        ∃ l, t.emitted = s.emitted ++ l ++ [.mdio op c45 phy reg (s.rd SWF_MDIO_DATA)]
    (Completes (.mdioC45Address port c45 phy reg) s fun t => starts 0 t) ∧ (Completes (.mdioWrite port c45 phy reg) s fun t => starts 1 t) ∧
    (Completes (.mdioRead port c45 phy reg) s fun t => starts 2 t) ∧ Completes (.mdioC22Read port c45 phy reg) s fun t => starts 3 t) ∧
  (∀ (s : State) (data : Nat), s.atWork 0x10 = true → data < 65536 →
    Completes (.mdioDone data) s fun t =>
      if s.rd SWF_MDIO_CMD_BUSY = 0 then t = s
      else t.rd SWF_MDIO_CMD_BUSY = 0 ∧ t.rd SWF_MDIO_DATA = (if s.swf.mdioRead then data else s.rd SWF_MDIO_DATA) ∧
        Raises SWF_NOTE_MDIO_DONE s t ∧ OnlyFields [SWF_MDIO_CMD_BUSY, SWF_MDIO_DATA, NOTE_RAW 0x10, MSIX_PBA] s t)

/-- A TAIL write sets the tail and nothing else. A TX frame moves only while its ring is enabled, HDM may move data and the switch runs:
descriptors in error complete with their ERR, counted and noted, with no frame sent; a good DIRECT frame for one port completes its
descriptors and joins that port's queue, and waits with no change while there is no room. The first frame for a ring that is off is
dropped, counted and noted; one that its tag takes above 9,216 octets is dropped; for one that is on, its octets fill the fewest
buffers that hold it, HEAD moves by their number, and it waits with no change where the buffers do not suffice. A ring's delay sets its
notice if a completion is uncounted; a DMA error stops every ring with its notice. (Where the spec leaves a choice, it is the model's:
log entries 93, 149 and 179.) -/
def Obligations.HostDma : Prop :=
  (∀ (s : State) (port : Port) (r v : Nat), s.atWork 0x17 = true → r < 8 → v < 4096 →
    (Completes (.hdmTxTailWrite port r v) s fun t =>
      t.rd (HDM_TX_TAIL r) = v ∧ t.hdm = s.hdm ∧ OnlyFields [HDM_TX_TAIL r, NOTE_RAW 0x01, MSIX_PBA] s t) ∧
    Completes (.hdmRxTailWrite port r v) s fun t =>
      t.rd (HDM_RX_TAIL r) = v ∧ t.hdm = s.hdm ∧ OnlyFields [HDM_RX_TAIL r, NOTE_RAW 0x01, MSIX_PBA] s t) ∧
  (∀ (s : State) (r : Nat) (descs : List TxDesc) (data : List Nat) (err : Bool), s.atWork 0x17 = true →
    WellFormed (.hdmTxFrame r descs data err) →
    (s.txOn r = false ∨ s.hdmMoves = false ∨ s.rd SWF_CTRL_EN = 0 ∨
      frameSpan (descs.take (ringAvail (ringSize (s.rd (HDM_TX_SIZE r))) (s.rd (HDM_TX_HEAD r)) (s.rd (HDM_TX_TAIL r)))) = none) →
    Completes (.hdmTxFrame r descs data err) s fun t => t = s) ∧
  (∀ (s : State) (r n : Nat) (d : TxDesc) (ds : List TxDesc) (data : List Nat) (err missing : Bool), s.atWork 0x17 = true →
    WellFormed (.hdmTxFrame r (d :: ds) data err) → s.txOn r = true → s.hdmMoves = true → s.rd SWF_CTRL_EN = 1 →
    frameSpan ((d :: ds).take (ringAvail (ringSize (s.rd (HDM_TX_SIZE r))) (s.rd (HDM_TX_HEAD r)) (s.rd (HDM_TX_TAIL r)))) = some (n, missing) →
    Completes (.hdmTxFrame r (d :: ds) data err) s fun t =>
      let size := ringSize (s.rd (HDM_TX_SIZE r))
      let head := s.rd (HDM_TX_HEAD r)
      let e := frameErr ((d :: ds).take n) missing err
      let f := hostFrame d (data.take ((((d :: ds).take n).map TxDesc.len).sum))
      let vid := s.vidOf f 6
      let fr : SwFrame := ⟨0, f, 6, r, vid, 0, d.direct, d.direct, if d.tsReq then some d.tsId else none⟩
      if e ≠ 0 then
        t.swf = s.swf ∧ t.rd HDM_DESC_ERR = (s.rd HDM_DESC_ERR + 1) % 2 ^ 32 ∧ t.rd (HDM_TX_HEAD r) = (head + n) % 2 ^ size ∧
        Noted HDM_NOTE_DESC_ERR t ∧ ∃ l, t.emitted = s.emitted ++ ((List.range n).map fun i => .txDone r ((head + i) % 2 ^ size) e) ++ l
      else if s.hostRoom fr (s.hostPorts d f vid) = false then t = s
      else d.direct = true → ∀ p, s.hostPorts d f vid = [p] →
        t.rd (HDM_TX_HEAD r) = (head + n) % 2 ^ size ∧ t.swQueue p r = s.swQueue p r ++ [{ fr with id := s.swf.nextId + 1 }] ∧
        t.rd HDM_DESC_ERR = s.rd HDM_DESC_ERR) ∧
  (∀ (s : State) (r : Nat) (bufs : List Nat) (ecc : Nat), s.atWork 0x17 = true → WellFormed (.hdmRxDeliver r bufs ecc) →
    s.swQueue 6 r = [] → Completes (.hdmRxDeliver r bufs ecc) s fun t => t = s) ∧
  (∀ (s : State) (r : Nat) (bufs : List Nat) (ecc : Nat) (f : SwFrame) (rest : List SwFrame), s.atWork 0x17 = true →
    WellFormed (.hdmRxDeliver r bufs ecc) → s.swQueue 6 r = f :: rest →
    Completes (.hdmRxDeliver r bufs ecc) s fun t =>
      let size := ringSize (s.rd (HDM_RX_SIZE r))
      let head := s.rd (HDM_RX_HEAD r)
      let octets := (s.egressForm f 6).octets
      if s.rxOn r = false then
        t.swQueue 6 r = rest ∧ t.rd HDM_RX_DROP = (s.rd HDM_RX_DROP + 1) % 2 ^ 32 ∧ Noted HDM_NOTE_RX_NORING t
      else if 9216 < (s.egressForm f 6).size then
        t.swQueue 6 r = rest ∧ t.rd (HDM_RX_HEAD r) = head ∧ t.rd HDM_RX_DROP = s.rd HDM_RX_DROP
      else if s.hdmMoves = false then t = s
      else if ecc ≠ 0 then t.swQueue 6 r = rest ∧ t.rd SWF_ECC_DROP = (s.rd SWF_ECC_DROP + 1) % 2 ^ 32 ∧ t.rd (HDM_RX_HEAD r) = head
      else
        match buffersFor octets.length (bufs.take (ringAvail size head (s.rd (HDM_RX_TAIL r)))) with
        | none => t = s
        | some n =>
          t.swQueue 6 r = rest ∧ t.rd (HDM_RX_HEAD r) = (head + n) % 2 ^ size ∧
          ∃ l m, t.emitted = s.emitted ++ l ++ m ∧ l.length = n ∧
            (l.flatMap fun e => match e with
              | .rxDone _ _ d _ _ _ _ _ _ _ => d
              | _ => []) = octets) ∧
  (∀ (s : State) (r : Nat) (tx : Bool), s.atWork 0x17 = true → r < 8 →
    Completes (.hdmModDelayExpiry tx r) s fun t =>
      if (if tx then s.hdm.tx else s.hdm.rx).getD r 0 = 0 then t = s
      else (if tx then t.hdm.tx else t.hdm.rx).getD r 0 = 0 ∧ Raises (if tx then HDM_NOTE_TX r else HDM_NOTE_RX r) s t) ∧
  (∀ s : State, s.atWork 0x17 = true →
    Completes .hdmDmaError s fun t =>
      t.hdm = { s.hdm with stopped := true } ∧ Raises HDM_NOTE_DMA_ERR s t ∧ OnlyFields [NOTE_RAW 0x17, MSIX_PBA] s t)

/-- Grog takes the head of D1 of the KIND that the command is for, and nothing while EN is 0. A header is refused with its cause and
STAGE_FAIL, or asks for STAGING; none is accepted without a good signature, none for a processor while an image is on trial, and none
while a staging runs, is paused or is asked for. A block that is malformed is counted and stores nothing; a good one is stored at its
place and joins the map, whose size DONE shows, and one that is new sets the idle time back. A full map whose bank has the header's
SHA-256, and whose base has the one of a delta, makes the image valid with STATE 2; another hash, KIND 0x03 or IDLE_LIMIT seconds of
module time without a new block end the staging with STATE 3, its cause, no header and the axis at IDLE, and leave the image that runs
as it is. (Where the spec leaves a choice, it is the model's: log entries 111 and 112.) -/
def Obligations.ImageStaging : Prop :=
  (∀ (s : State) (i : Instr), s.atWork 0x20 = true → (s.rd GRG_CTRL_EN = 0 ∨ s.slqTake 1 = none) →
    (i = .grgHeader ∨ i = .grgBlock ∨ i = .grgAbandon) → Completes i s fun t => t = s) ∧
  (∀ (s u : State) (p : Packet), s.atWork 0x20 = true → s.rd GRG_CTRL_EN = 1 → s.slqTake 1 = some (p, u) →
    Completes .grgHeader s fun t =>
      let h := grgHeaderOf (packetOctets p)
      let cause := u.grgHeaderCause (packetOctets p) h
      if p.kind ≠ 1 then t = s
      else
        t.slqDown = u.slqDown ∧ t.grg.header = s.grg.header ∧ t.modes = s.modes ∧
        (s.grgSigned (packetOctets p) h = false → cause ≠ 0) ∧ (h.target < 3 → s.onTrial = true → cause ≠ 0) ∧
        (s.stageState = 1 ∨ s.stageState = 4 ∨ s.grg.asking.isSome = true → cause ≠ 0) ∧
        if cause = 0 then t.grg.asking = some h ∧ t.modeReqs = s.modeReqs ++ [⟨.grog .staging, 0, 0⟩] ∧ OnlyFields [] s t
        else t.grg = s.grg ∧ t.modeReqs = s.modeReqs ∧ t.rd GRG_STAGE_STAT_RESULT = cause ∧ Raises GRG_NOTE_STAGE_FAIL s t) ∧
  (∀ (s u : State) (p : Packet), s.atWork 0x20 = true → s.rd GRG_CTRL_EN = 1 → s.slqTake 1 = some (p, u) →
    Completes .grgBlock s fun t =>
      if p.kind ≠ 2 then t = s
      else if s.stageState ≠ 1 then t = u
      else
        match s.grg.header with
        | none => t = u
        | some h =>
          t.grg.images = s.grg.images ∧
          match u.grgBlockData h (packetOctets p) with
          | none => t.grg = s.grg ∧ t.rd GRG_BLOCK_BAD = (s.rd GRG_BLOCK_BAD + 1) % 2 ^ 32
          | some (blk, d) =>
            Sparse.get t.grg.nor (4096 * s.targetPlace h.target + blk) = some d ∧ blk < h.blocks ∧ blk ∈ t.grg.map ∧
            (∀ b, b ∈ t.grg.map ↔ b = blk ∨ b ∈ s.grg.map) ∧ t.rd GRG_STAGE_CNT_DONE = t.grg.map.length % 2 ^ 13 ∧
            d.length = min 4096 (h.size - 4096 * blk) ∧ t.rd GRG_BLOCK_BAD = s.rd GRG_BLOCK_BAD ∧
            t.grg.fresh = if blk ∈ s.grg.map then s.grg.fresh else s.moduleTime) ∧
  (∀ (s u : State) (p : Packet) (h : GrgHeader), s.atWork 0x20 = true → s.rd GRG_CTRL_EN = 1 → s.slqTake 1 = some (p, u) →
    s.grg.header = some h →
    Completes .grgAbandon s fun t =>
      if p.kind = 1 ∨ p.kind = 2 then t = s
      else if p.kind = 3 then
        t.rd GRG_STAGE_STAT_STATE = 3 ∧ t.rd GRG_STAGE_STAT_RESULT = 0 ∧ t.grg.header = none ∧ t.grg.map = [] ∧
        t.grg.images = s.grg.images ∧ t.modes.grog = .idle ∧ Noted GRG_NOTE_STAGE_FAIL t ∧ Recorded 0x2003 t
      else t = u) ∧
  (∀ s : State, s.atWork 0x20 = true →
    Completes .grgVerify s fun t =>
      match s.grg.header with
      | none => t = s
      | some h =>
        if s.stageState ≠ 1 ∨ s.grg.map.length ≠ h.blocks then t = s
        else
          t.grg.header = none ∧ t.grg.map = [] ∧ t.modes.grog = .idle ∧
          if s.imageGood h = true then
            t.rd GRG_STAGE_STAT_STATE = 2 ∧ t.rd GRG_STAGE_STAT_RESULT = 0 ∧ t.image (s.targetPlace h.target) = some h ∧
            (∀ q, q ≠ s.targetPlace h.target → t.image q = s.image q) ∧ Noted GRG_NOTE_VERIFIED t ∧ Recorded 0x2002 t
          else
            t.rd GRG_STAGE_STAT_STATE = 3 ∧ t.rd GRG_STAGE_STAT_RESULT = 9 ∧ t.grg.images = s.grg.images ∧
            Noted GRG_NOTE_STAGE_FAIL t ∧ Recorded 0x2003 t) ∧
  (∀ (s : State) (h : GrgHeader), s.atWork 0x20 = true → s.grg.header = some h →
    Completes .grgIdleLimit s fun t =>
      if s.stageState = 1 ∧ s.rd GRG_CFG_IDLE_LIMIT ≠ 0 ∧ s.grg.fresh + s.rd GRG_CFG_IDLE_LIMIT * 1000000000 ≤ s.moduleTime then
        t.rd GRG_STAGE_STAT_STATE = 3 ∧ t.rd GRG_STAGE_STAT_RESULT = 10 ∧ t.grg.header = none ∧ t.grg.images = s.grg.images ∧
        t.modes.grog = .idle ∧ Noted GRG_NOTE_STAGE_FAIL t ∧ Recorded 0x2003 t
      else t = s)

/-- ACTIVATE of a processor whose other bank holds a compatible image while none is on trial asks for ACTIVATING with RESULT 0; otherwise
it shows 1 for no image, 2 for an incompatible one or 4 during a trial, and asks for nothing. CONFIRM after READY of a processor on
trial clears TRIAL, raises the security epoch to the image's, and takes the axis to IDLE with its notice and record; else RESULT 3. In
a halted start without SUP neither has an effect, and the boot ROM takes a full container: one with a good form, module, signature of
the vendor key and epoch, and whose image has the SHA-256 of its header, becomes the image of the bank that failed, and that bank
becomes active; another hash or length ends with STATE 3. (Where the spec leaves a choice, it is the model's: log entries 44 and 114.) -/
def Obligations.ActivationAndBootRom : Prop :=
  (∀ (s : State) (port : Port) (p : Nat), s.atWork 0x20 = true → s.startup.phase = .halted false → p < 4 →
    (Completes (.activate port p) s fun t => t = s.hostWrote port false GRG_CMD_OP.addr) ∧
    Completes (.confirm port p) s fun t => t = s.hostWrote port false GRG_CMD_OP.addr) ∧
  (∀ (s : State) (port : Port) (p : Nat), s.atWork 0x20 = true → s.startup.phase ≠ .halted false → p < 4 →
    Completes (.activate port p) s fun t =>
      t.grg = s.grg ∧
      if p < 3 ∧ (∃ h, s.image (s.targetPlace p) = some h ∧ s.grgCompatible h = true) ∧ s.onTrial = false then
        t.rd GRG_CMD_STAT_RESULT = 0 ∧ t.modeReqs = s.modeReqs ++ [⟨.grog .activating, p, 0⟩]
      else
        t.modeReqs = s.modeReqs ∧ (t.rd GRG_CMD_STAT_RESULT = 1 ↔ 3 ≤ p ∨ s.image (s.targetPlace p) = none) ∧
        (t.rd GRG_CMD_STAT_RESULT = 1 ∨ t.rd GRG_CMD_STAT_RESULT = 2 ∨ t.rd GRG_CMD_STAT_RESULT = 4)) ∧
  (∀ (s : State) (port : Port) (p : Nat), s.atWork 0x20 = true → s.startup.phase ≠ .halted false → p < 4 →
    Completes (.confirm port p) s fun t =>
      if s.startup.phase = .ready ∧ p < 3 ∧ s.rd (GRG_BANK_TRIAL p) = 1 then
        t.rd GRG_CMD_STAT_RESULT = 0 ∧ t.rd (GRG_BANK_TRIAL p) = 0 ∧ t.rd (GRG_BANK_ACTIVE p) = s.rd (GRG_BANK_ACTIVE p) ∧
        (∀ h, s.image (s.runPlace p) = some h → h.secEpoch < 256 → t.rd GRG_SEC_EPOCH = max h.secEpoch (s.rd GRG_SEC_EPOCH)) ∧
        t.grg.trial = none ∧ t.modes.grog = .idle ∧ Noted GRG_NOTE_CONFIRMED t ∧ Recorded 0x2005 t
      else t.rd GRG_CMD_STAT_RESULT = 3 ∧ t.grg = s.grg ∧ t.modes = s.modes) ∧
  (∀ (s : State) (b data : List Nat) (failed : Nat), WellFormed (.bootromContainer b data failed) →
    Completes (.bootromContainer b data failed) s fun t =>
      let h := grgHeaderOf b
      let bank := if failed = 1 then 1 else 0
      if s.startup.phase ≠ .halted false then t = s
      else if grgFormBad b h = true ∨ h.form ≠ 0 ∨ 3 ≤ h.target ∨ grgModuleOk h = false ∨
          vendorSigned (b.take 128) ((b.drop 128).take 64) = false ∨ h.secEpoch < s.rd GRG_SEC_EPOCH then
        t.grg = s.grg ∧ 1 ≤ t.rd GRG_STAGE_STAT_RESULT ∧ t.rd GRG_STAGE_STAT_RESULT ≤ 4 ∧ Noted GRG_NOTE_STAGE_FAIL t
      else if data.length ≠ h.size ∨ sha256 data ≠ toOctets 32 h.hash then
        t.rd GRG_STAGE_STAT_STATE = 3 ∧ t.rd GRG_STAGE_STAT_RESULT = 9 ∧ t.image (2 * h.target + bank) = none ∧
        t.rd (GRG_BANK_ACTIVE h.target) = s.rd (GRG_BANK_ACTIVE h.target) ∧ Recorded 0x2003 t
      else
        t.rd GRG_STAGE_STAT_STATE = 2 ∧ t.rd GRG_STAGE_STAT_RESULT = 0 ∧ t.image (2 * h.target + bank) = some h ∧
        (∀ q, q ≠ 2 * h.target + bank → t.image q = s.image q) ∧ t.rd (GRG_BANK_ACTIVE h.target) = bank ∧
        t.rd (GRG_BANK_TRIAL h.target) = 0 ∧ Noted GRG_NOTE_VERIFIED t ∧ Recorded 0x2002 t)

/-- CAMPAIGN with a staged offer image, a fitting link, mesh transmission and at least one target starts a campaign whose targets are
pending, with ROUND 1; otherwise it shows 1, 6 or 7 and starts none. Each offer is sent and leaves one fewer to send. When the wait for
answers ends with no target pending or after the last round, the campaign ends: the pending targets are FAILED, with the notice and the
record; else its next round starts. STOP ends it at once. NODE_ACTIVATE needs an ended campaign with a complete target, else RESULT 7.
In a halted start without SUP the three commands have no effect. (Where the spec leaves a choice, it is the model's: log entry 113.) -/
def Obligations.NodeCampaigns : Prop :=
  (∀ (s : State) (port : Port), s.atWork 0x20 = true → s.startup.phase ≠ .halted false → s.grg.campaign = none →
    Completes (.campaign port) s fun t =>
      let type := s.rd GRG_NODE_TYPE
      let place := 6 + 2 * type + (Sparse.get s.grg.offers type).getD 0
      match Sparse.get s.grg.offers type, s.image place with
      | some _, some h =>
        if s.blockFits s.grgBlockSize = false then t.rd GRG_CMD_STAT_RESULT = 6 ∧ t.grg = s.grg
        else if (s.campaignTargets type h.version).isEmpty = true ∨ s.meshTx = false then t.rd GRG_CMD_STAT_RESULT = 7 ∧ t.grg = s.grg
        else
          t.rd GRG_CMD_STAT_RESULT = 0 ∧ t.rd GRG_NODE_STAT_ROUND = 1 ∧ t.grg.ended = none ∧
          t.grg.targets = (s.campaignTargets type h.version).map (fun i => (i, 1)) ∧
          t.grg.campaign.map Campaign.todo = some (List.range (blockCount h.size s.grgBlockSize)) ∧
          t.grg.campaign.map Campaign.offers = some (max 1 (s.rd GRG_NODE_OFFER_REPEAT))
      | _, _ => t.rd GRG_CMD_STAT_RESULT = 1 ∧ t.grg = s.grg) ∧
  (∀ (s : State) (port : Port) (c : Campaign), s.atWork 0x20 = true → s.startup.phase ≠ .halted false → s.grg.campaign = some c →
    Completes (.campaign port) s fun t => t.grg = s.grg ∧ t.draws = s.draws + 1) ∧
  (∀ s : State, s.atWork 0x20 = true → s.grg.campaign = none →
    (Completes .campaignOffer s fun t => t = s) ∧ (Completes .campaignQueryWait s fun t => t = s)) ∧
  (∀ (s : State) (c : Campaign), s.atWork 0x20 = true → s.grg.campaign = some c →
    Completes .campaignOffer s fun t =>
      if c.offers = 0 then t = s
      else t.grg.campaign.map Campaign.offers = some (c.offers - 1) ∧ t.grg.targets = s.grg.targets ∧
        (1 < c.offers → t.grg.campaign = some { c with offers := c.offers - 1 } ∧
          (s.rd SPR_CTRL_EN = 1 → s.meshTx = true → s.mac.queue.length < 1024 →
            ∃ f, t.mac.queue = s.mac.queue ++ [f] ∧ f.msg.type = 0x0E ∧ f.msg.dest = .broadcast ∧
              f.msg.body.take 8 = [c.type, 0] ++ toOctets 2 c.blockSize ++ toOctets 4 c.image.version))) ∧
  (∀ (s : State) (c : Campaign), s.atWork 0x20 = true → s.grg.campaign = some c →
    Completes .campaignQueryWait s fun t =>
      if c.waiting = false then t = s
      else if s.targetsAt 1 = 0 ∨ max 1 (s.rd GRG_NODE_ROUNDS) ≤ c.round then
        t.grg.campaign = none ∧ t.grg.targets = s.grg.targets.map (fun x => if x.2 = 1 then (x.1, 3) else x) ∧
        t.grg.ended = (if s.targetsAt 2 = 0 then none else some (c.type, c.image.version)) ∧
        Noted GRG_NOTE_CAMPAIGN_END t ∧ Recorded 0x2006 t
      else
        t.grg.campaign.map Campaign.round = some (c.round + 1) ∧ t.rd GRG_NODE_STAT_ROUND = (c.round + 1) % 16 ∧
        t.grg.targets = s.grg.targets) ∧
  (∀ (s : State) (port : Port) (i : Instr), s.atWork 0x20 = true → s.startup.phase = .halted false →
    (i = .campaign port ∨ i = .stopCampaign port ∨ i = .nodeActivate port) →
    Completes i s fun t => t = s.hostWrote port false GRG_CMD_OP.addr) ∧
  (∀ (s : State) (port : Port), s.atWork 0x20 = true → s.startup.phase ≠ .halted false →
    Completes (.stopCampaign port) s fun t =>
      t.rd GRG_CMD_STAT_RESULT = 0 ∧ t.grg.campaign = none ∧
      match s.grg.campaign with
      | none => t.grg = s.grg
      | some _ => t.grg.targets = s.grg.targets.map (fun x => if x.2 = 1 then (x.1, 3) else x) ∧ Noted GRG_NOTE_CAMPAIGN_END t ∧
          Recorded 0x2006 t) ∧
  (∀ (s : State) (port : Port), s.atWork 0x20 = true → s.startup.phase ≠ .halted false →
    Completes (.nodeActivate port) s fun t =>
      t.grg = s.grg ∧
      match s.grg.ended with
      | none => t.rd GRG_CMD_STAT_RESULT = 7 ∧ t.mac = s.mac
      | some (ty, v) =>
        t.rd GRG_CMD_STAT_RESULT = 0 ∧
        (s.rd SPR_CTRL_EN = 1 → s.meshTx = true → s.mac.queue.length < 1024 →
          t.mac.queue = s.mac.queue ++ [⟨s.mac.nextSerial, 2,
            ⟨0x09, .broadcast, [ty, 0, 0, 0] ++ toOctets 4 v ++ toOctets 5 (s.mac.asn + s.rd GRG_NODE_ACT_SLOTS), []⟩, s.spr.bcSeq, 0,
            s.rd MAC_RETRY_MIN_BE, 0, false, false, false, false, none⟩]))

/-- A SAVE request in RETURNED or SCRAPPED shows RESULT 1; while a save runs it pends; without PWR_GOOD it pends with 2; else the save of a
snapshot that fits starts into the bank that is not the newest one, under the next SEQ, and that bank is invalid until its end.
AUTO_SAVE requests one where it is enabled. A save that ends well makes its bank valid with the snapshot and counts, one that fails
leaves it invalid with RESULT 5, its notice and its record. CLEAR with its key erases both banks; a wrong key shows 4. (Where the spec
leaves a choice, it is the model's: log entries 36 and 38.) -/
def Obligations.StoreSaves : Prop :=
  (∀ s : State, s.atWork 0x21 = true →
    let saves := fun (t : State) =>
      if s.modes.life = .returned ∨ s.modes.life = .scrapped then t.rd MRL_CMD_STAT_RESULT = 1 ∧ t.mrl = s.mrl
      else if s.mrl.saving.isSome = true then t.rd MRL_STATUS_PENDING = 1 ∧ t.rd MRL_CMD_STAT_RESULT = 0 ∧ t.mrl = s.mrl
      else if s.startup.pwrGood = false then t.rd MRL_STATUS_PENDING = 1 ∧ t.rd MRL_CMD_STAT_RESULT = 2 ∧ t.mrl = s.mrl
      else
        let b := s.saveTarget.1
        let snap := s.snapshot s.saveTarget.2
        if 4194240 < snap.len then t.rd MRL_CMD_STAT_RESULT = 3 ∧ t.mrl = s.mrl ∧ Noted MRL_NOTE_SAVE_FAIL t
        else
          t.rd MRL_CMD_STAT_RESULT = 0 ∧ t.mrl.saving = some (b, snap) ∧ t.bank b = none ∧ t.bank (1 - b) = s.bank (1 - b) ∧ b < 2 ∧
          newestOf s.mrl.banks ≠ some b
    (∀ port, Completes (.save port) s fun t => saves t) ∧ (s.rd MRL_CTRL_AUTO_SAVE = 1 → Completes .mrlAutoSave s fun t => saves t)) ∧
  (∀ s : State, s.atWork 0x21 = true → s.rd MRL_CTRL_AUTO_SAVE = 0 → Completes .mrlAutoSave s fun t => t = s) ∧
  (∀ (s : State) (ok : Bool), s.atWork 0x21 = true → s.mrl.saving = none → Completes (.mrlSaveDone ok) s fun t => t = s) ∧
  (∀ (s : State) (b : Nat) (snap : StoreBank), s.atWork 0x21 = true → s.mrl.saving = some (b, snap) → b < 2 →
    s.rd MRL_STATUS_PENDING = 0 →
    (Completes (.mrlSaveDone true) s fun t =>
      t.mrl.saving = none ∧ t.bank b = some snap ∧ t.bank (1 - b) = s.bank (1 - b) ∧ t.rd MRL_STATUS_EMPTY = 0 ∧
      t.rd MRL_SAVES = (s.rd MRL_SAVES + 1) % 2 ^ 32 ∧ Noted MRL_NOTE_SAVED t) ∧
    Completes (.mrlSaveDone false) s fun t =>
      t.mrl.saving = none ∧ t.bank b = none ∧ t.bank (1 - b) = s.bank (1 - b) ∧ t.rd MRL_CMD_STAT_RESULT = 5 ∧
      t.rd MRL_SAVES = s.rd MRL_SAVES ∧ Noted MRL_NOTE_SAVE_FAIL t ∧ Recorded 0x2101 t) ∧
  (∀ (s : State) (port : Port) (key : Nat), s.atWork 0x21 = true → key < 2 ^ 16 →
    Completes (.clear port key) s fun t =>
      if key ≠ 0x4D52 then t.rd MRL_CMD_STAT_RESULT = 4 ∧ t.mrl = s.mrl
      else if s.modes.life = .returned ∨ s.modes.life = .scrapped then t.rd MRL_CMD_STAT_RESULT = 1 ∧ t.mrl = s.mrl
      else t.rd MRL_CMD_STAT_RESULT = 0 ∧ t.bank 0 = none ∧ t.bank 1 = none ∧ t.rd MRL_STATUS_EMPTY = 1)

/-- Of a codeword's 36 symbols the code corrects any one and detects any two, naming the lower. DRAM holds 3.5 GiB of data in runs of 512
octets: the data of no two codewords overlap, nor do their check bits, and no octet of either lies in the last 8 of a run. A pass of
the scrubber while SCRUB_EN is 0 does nothing; a pass that meets one wrong symbol in each of some codewords counts each as corrected
and each third one as hot; a pass that meets two in each, in pages whose units have no rule of their own, counts and publishes each as
uncorrectable. A bank of the store with an uncorrectable error is valid no more. Each ends with SCRUB_DONE. (Where the spec leaves a
choice, it is the model's: log entries 115, 156 and 199.) -/
def Obligations.SymbolCodeAndScrubbing : Prop :=
  (∀ error draw : Nat,
    (symbolsHit error = [] → codeCheck error draw = .good) ∧ (∀ k, symbolsHit error = [k] → codeCheck error draw = .corrected) ∧
    ∀ k l, symbolsHit error = [k, l] → k < l ∧ codeCheck error draw = .failed k) ∧
  (∀ k v : Nat, k < 36 → 0 < v → v < 16 → symbolsHit (v * 16 ^ k) = [k]) ∧
  dramWords * 16 = 7 * 2 ^ 29 ∧
  (∀ n m : Nat, n < m → m < dramWords → dramData n + 16 ≤ dramData m ∧ dramCheck n + 2 ≤ dramCheck m ∧ dramData m + 16 ≤ 2 ^ 32) ∧
  (∀ n a : Nat, (dramData n ≤ a ∧ a < dramData n + 16 ∨ dramCheck n ≤ a ∧ a < dramCheck n + 2) →
    dramUnused a = false ∧ a / 512 = n / 28 ∧ (dramCheck n ≤ a ↔ 448 ≤ a % 512)) ∧
  (∀ (s : State) (m : Nat) (found : List ScrubFound), s.atWork 0x22 = true → s.rd ITG_CTRL_SCRUB_EN = 0 →
    Completes (.itgScrub m found) s fun t => t = s) ∧
  (∀ (s : State) (m : Nat) (found : List ScrubFound), s.atWork 0x22 = true → WellFormed (.itgScrub m found) → s.rd ITG_CTRL_SCRUB_EN = 1 →
    (∀ e ∈ found, (symbolsHit e.error).length = 1) →
    Completes (.itgScrub m found) s fun t =>
      Noted ITG_NOTE_SCRUB_DONE t ∧ t.rd (ITG_CORR m) = (s.rd (ITG_CORR m) + found.length) % 2 ^ 32 ∧
      t.rd (ITG_UNCORR m) = s.rd (ITG_UNCORR m) ∧ t.rd (SEQ_COUNT 0x22) = s.rd (SEQ_COUNT 0x22) ∧
      t.rd ITG_HOT = (s.rd ITG_HOT + (found.filter ScrubFound.third).length) % 2 ^ 32) ∧
  (∀ (s : State) (m : Nat) (found : List ScrubFound), s.atWork 0x22 = true → WellFormed (.itgScrub m found) → s.rd ITG_CTRL_SCRUB_EN = 1 →
    (∀ e ∈ found, (symbolsHit e.error).length = 2 ∧ e.page ∉ [0x03, 0x05, 0x07, 0x09, 0x10, 0x1A, 0x1C, 0x21]) →
    Completes (.itgScrub m found) s fun t =>
      Noted ITG_NOTE_SCRUB_DONE t ∧ t.rd (ITG_CORR m) = s.rd (ITG_CORR m) ∧
      t.rd (ITG_UNCORR m) = (s.rd (ITG_UNCORR m) + found.length) % 2 ^ 32 ∧
      t.rd (SEQ_COUNT 0x22) = (s.rd (SEQ_COUNT 0x22) + found.length) % 2 ^ 24 ∧ t.rd ITG_HOT = s.rd ITG_HOT) ∧
  (∀ (s : State) (m : Nat) (e : ScrubFound), s.atWork 0x22 = true → WellFormed (.itgScrub m [e]) → s.rd ITG_CTRL_SCRUB_EN = 1 →
    (symbolsHit e.error).length = 2 → e.page = 0x21 → e.item < 2 →
    Completes (.itgScrub m [e]) s fun t => t.bank e.item = none ∧ t.bank (1 - e.item) = s.bank (1 - e.item) ∧ Noted ITG_NOTE_SCRUB_DONE t)

/-- For every command and every state, the step of the state with that command in front of a queue is the command's meaning on the state with the rest of the queue. On an empty queue one period of the raw time counter passes, where CK_TIME runs, with module time noted at an epoch tick, and nothing else changes: the model's choice (log entry 2). -/
def Obligations.StepRunsTheFrontCommand : Prop :=
  (∀ (c : Instr) (rest : List Instr) (s : State), step { s with pending := c :: rest } = exec c { s with pending := rest }) ∧
  (∀ s : State, s.pending = [] → s.domain 11 = .running → 
    step s = .next { s with time := { s.time with
      raw := s.time.raw + 1,
      now := if s.time.raw / 250 < (s.time.raw + 1) / 250 then s.moduleTimeAt ((s.time.raw + 1) / 250 * 250) else s.time.now } }) ∧
  (∀ s : State, s.pending = [] → s.domain 11 ≠ .running → step s = .next s)

/-- Every command completes in every state: the spec gives each an effect, or says that it is discarded. -/
def Obligations.EveryCommandCompletes : Prop := ∀ (i : Instr) (s : State), ∃ t, exec i s = .next t

/-- After reset no command waits, the start has reached no line, the mode axes are RUN, SOLO, BLANK, OFF, IDLE, CLEAR and FREE, every
register field reads its reset value, every window byte reads as unlisted memory does, ports, queues and intake are empty, nothing has
left the module, the invariant holds, and no page is usable. The values that the spec does not give are the model's (the log's entries
on reset values). (Where the spec leaves a choice, it is the model's: log entries 4, 5, 6, 8 and 13.) -/
def Obligations.ResetState : Prop :=
  State.reset.pending = [] ∧ State.reset.startup.phase = .inReset ∧ State.reset.startup.line = 0 ∧
  State.reset.modes = ⟨.run, .solo, .blank, .off, .idle, .clear, .free⟩ ∧ State.reset.emitted = [] ∧ State.reset.siltIntake = [] ∧
  State.reset.lrp = .empty ∧ State.reset.pcie = .empty ∧ Invariant State.reset ∧
  (∀ f ∈ allFields, State.reset.rd f = f.reset % 2 ^ f.width) ∧
  (∀ a, Memory.read State.reset.win a = winReset a) ∧ (∀ q, q < 24 → State.reset.queue q = .empty) ∧
  ∀ p, State.reset.live p = false

/-- From every state in which registers and windows are in their canonical forms and the intake, the log, the posting buffers, the frame buffer and the transmit queue are within their sizes (64 events, 4,096 records, 64 writes each, 256 frames, 1,024 frames), every step that answers a next state answers one of which the same holds. -/
def Obligations.InvariantIsKept : Prop :=
  ∀ s t : State, Invariant s → step s = .next t → Invariant t

/-- Every command leaves the queue of commands as it is, takes back nothing that has left the module, and reuses no free value. A command with an entry in the table of touched parts leaves every other part of the state as it was: the registers of every other page, the windows, and the working state of every other unit. -/
def Obligations.CommandsTouchOnlyTheirParts : Prop :=
  (∀ (i : Instr) (s t : State), exec i s = .next t → t.pending = s.pending ∧ s.draws ≤ t.draws ∧ s.emitted <+: t.emitted) ∧
  (∀ (i : Instr) (s t : State) (l : List Part), exec i s = .next t → touches i = some l → Unchanged l s t)
end

