-- ==== Sys2Proof/Laws/Sparse.lean ====
section
/-! SUPPORT. Sparse maps: reading after a change, and the canonical form of registers and windows. -/

namespace Sys2Proof.Machine

variable {α : Type}

@[simp] theorem Sparse.get_nil (k : Nat) : Sparse.get ([] : List (Nat × α)) k = none := rfl

theorem Sparse.get_insert_self (l : List (Nat × α)) (k : Nat) (v : α) : Sparse.get (Sparse.insert l k v) k = some v := by
  induction l with
  | nil => simp [Sparse.insert, Sparse.get]
  | cons h t ih =>
    obtain ⟨k', v'⟩ := h
    unfold Sparse.insert
    split
    · simp [Sparse.get]
    · split
      · simp [Sparse.get]
      · simp [Sparse.get, *]

theorem Sparse.get_insert_ne (l : List (Nat × α)) {k j : Nat} (v : α) (h : j ≠ k) :
    Sparse.get (Sparse.insert l k v) j = Sparse.get l j := by
  induction l with
  | nil => simp [Sparse.insert, Sparse.get, h]
  | cons hd t ih =>
    obtain ⟨k', v'⟩ := hd
    unfold Sparse.insert
    split
    · simp [Sparse.get, h]
    · split
      · subst_vars; simp [Sparse.get, h]
      · simp [Sparse.get, ih]

theorem Sparse.get_erase_self (l : List (Nat × α)) (k : Nat) : Sparse.get (Sparse.erase l k) k = none := by
  induction l with
  | nil => rfl
  | cons hd t ih =>
    obtain ⟨k', v'⟩ := hd
    unfold Sparse.erase
    split
    · exact ih
    · simp [Sparse.get, *]

theorem Sparse.get_erase_ne (l : List (Nat × α)) {k j : Nat} (h : j ≠ k) : Sparse.get (Sparse.erase l k) j = Sparse.get l j := by
  induction l with
  | nil => rfl
  | cons hd t ih =>
    obtain ⟨k', v'⟩ := hd
    unfold Sparse.erase
    split
    · subst_vars; simp [Sparse.get, ih, h]
    · simp [Sparse.get, ih]

/-- The canonical form as an order of keys. -/
theorem Sparse.rising_iff (l : List (Nat × α)) : Sparse.rising l = true ↔ l.Pairwise fun a b => a.1 < b.1 := by
  induction l with
  | nil => simp [Sparse.rising]
  | cons a t ih =>
    cases t with
    | nil => simp [Sparse.rising]
    | cons b u =>
      simp only [Sparse.rising, Bool.and_eq_true, decide_eq_true_eq, ih, List.pairwise_cons, List.mem_cons]
      constructor
      · rintro ⟨h, h2, h3⟩
        refine ⟨?_, h2, h3⟩
        rintro c (rfl | hc)
        · exact h
        · exact lt_trans h (h2 c hc)
      · rintro ⟨h, h2⟩
        exact ⟨h b (Or.inl rfl), h2⟩

theorem Sparse.mem_insert {l : List (Nat × α)} {k : Nat} {v : α} {c : Nat × α} (h : c ∈ Sparse.insert l k v) : c = (k, v) ∨ c ∈ l := by
  induction l with
  | nil => simpa [Sparse.insert] using h
  | cons hd t ih =>
    obtain ⟨k', v'⟩ := hd
    unfold Sparse.insert at h
    split at h
    · simpa using h
    · split at h
      · rcases List.mem_cons.1 h with h | h
        · exact .inl h
        · exact .inr (List.mem_cons_of_mem _ h)
      · rcases List.mem_cons.1 h with h | h
        · exact .inr (h ▸ List.mem_cons_self)
        · exact (ih h).imp id (List.mem_cons_of_mem _)

theorem Sparse.mem_erase {l : List (Nat × α)} {k : Nat} {c : Nat × α} (h : c ∈ Sparse.erase l k) : c ∈ l := by
  induction l with
  | nil => simp [Sparse.erase] at h
  | cons hd t ih =>
    obtain ⟨k', v'⟩ := hd
    unfold Sparse.erase at h
    split at h
    · exact List.mem_cons_of_mem _ (ih h)
    · rcases List.mem_cons.1 h with h | h
      · exact h ▸ List.mem_cons_self
      · exact List.mem_cons_of_mem _ (ih h)

theorem Sparse.rising_insert {l : List (Nat × α)} (k : Nat) (v : α) (h : Sparse.rising l = true) :
    Sparse.rising (Sparse.insert l k v) = true := by
  rw [Sparse.rising_iff] at h ⊢
  induction l with
  | nil => simp [Sparse.insert]
  | cons hd t ih =>
    obtain ⟨k', v'⟩ := hd
    have h1 := (List.pairwise_cons.1 h).1
    have h2 := (List.pairwise_cons.1 h).2
    unfold Sparse.insert
    split
    · refine List.pairwise_cons.2 ⟨?_, h⟩
      intro c hc
      rcases List.mem_cons.1 hc with rfl | hc
      · assumption
      · exact lt_trans (by assumption) (h1 c hc)
    · split
      · subst_vars
        exact List.pairwise_cons.2 ⟨h1, h2⟩
      · refine List.pairwise_cons.2 ⟨?_, ih h2⟩
        intro c hc
        rcases Sparse.mem_insert hc with rfl | hc
        · show k' < k
          omega
        · exact h1 c hc

theorem Sparse.rising_erase {l : List (Nat × α)} (k : Nat) (h : Sparse.rising l = true) :
    Sparse.rising (Sparse.erase l k) = true := by
  rw [Sparse.rising_iff] at h ⊢
  induction l with
  | nil => simp [Sparse.erase]
  | cons hd t ih =>
    obtain ⟨k', v'⟩ := hd
    have h1 := (List.pairwise_cons.1 h).1
    unfold Sparse.erase
    split
    · exact ih (List.pairwise_cons.1 h).2
    · exact List.pairwise_cons.2 ⟨fun c hc => h1 c (Sparse.mem_erase hc), ih (List.pairwise_cons.1 h).2⟩

theorem Sparse.rising_filter {l : List (Nat × α)} (p : Nat × α → Bool) (h : Sparse.rising l = true) :
    Sparse.rising (l.filter p) = true := by
  rw [Sparse.rising_iff] at h ⊢
  exact h.filter p

/-! ### The registers' store -/

theorem Regs.rising_put {r : List (Nat × Nat)} (f : Field) (v : Nat) (h : Sparse.rising r = true) :
    Sparse.rising (Regs.put r f v) = true := by
  unfold Regs.put
  split
  · exact Sparse.rising_erase _ h
  · exact Sparse.rising_insert _ _ h

/-! ### The windows' memory -/

@[simp] theorem Memory.read_write_self (m : List Host.Cell) (a : Nat) (b : Byte) : Memory.read (Memory.write m a b) a = b := by
  unfold Memory.read Memory.write
  split
  · simp [Sparse.get_erase_self, *]
  · simp [Sparse.get_insert_self]

theorem Memory.read_write_ne (m : List Host.Cell) {a a' : Nat} (b : Byte) (h : a' ≠ a) :
    Memory.read (Memory.write m a b) a' = Memory.read m a' := by
  unfold Memory.read Memory.write
  split
  · rw [Sparse.get_erase_ne _ h]
  · rw [Sparse.get_insert_ne _ _ h]

theorem Memory.wf_iff (m : List Host.Cell) :
    Memory.wf m = true ↔ Sparse.rising m = true ∧ ∀ c ∈ m, c.2 ≠ winReset c.1 := by
  simp [Memory.wf, Memory.trimmed]

theorem Memory.wf_write {m : List Host.Cell} (a : Nat) (b : Byte) (h : Memory.wf m = true) : Memory.wf (Memory.write m a b) = true := by
  rw [Memory.wf_iff] at h ⊢
  unfold Memory.write
  split
  · exact ⟨Sparse.rising_erase _ h.1, fun c hc => h.2 c (Sparse.mem_erase hc)⟩
  · refine ⟨Sparse.rising_insert _ _ h.1, fun c hc => ?_⟩
    rcases Sparse.mem_insert hc with rfl | hc
    · assumption
    · exact h.2 c hc

theorem Memory.wf_writeAll {m : List Host.Cell} (a : Nat) (l : List Nat) (h : Memory.wf m = true) :
    Memory.wf (Memory.writeAll m a l) = true := by
  induction l generalizing m a with
  | nil => exact h
  | cons b t ih => exact ih (a + 1) (Memory.wf_write a _ h)

theorem Memory.wf_filter {m : List Host.Cell} (p : Host.Cell → Bool) (h : Memory.wf m = true) : Memory.wf (m.filter p) = true := by
  rw [Memory.wf_iff] at h ⊢
  exact ⟨Sparse.rising_filter p h.1, fun c hc => h.2 c (List.mem_filter.1 hc).1⟩

/-- Octets written from an address on leave every other place alone. -/
theorem Memory.read_writeAll_ne (l : List Nat) (m : List Host.Cell) {a a' : Nat} (h : a' < a ∨ a + l.length ≤ a') :
    Memory.read (Memory.writeAll m a l) a' = Memory.read m a' := by
  induction l generalizing m a with
  | nil => rfl
  | cons b t ih =>
    simp only [List.length_cons] at h
    rw [Memory.writeAll, ih _ (by omega), Memory.read_write_ne _ _ (by omega)]

/-- Octets written from an address on read back. -/
theorem Memory.read_writeAll (l : List Nat) (m : List Host.Cell) (a i : Nat) (h : i < l.length) :
    Memory.read (Memory.writeAll m a l) (a + i) = BitVec.ofNat 8 (l.getD i 0) := by
  induction l generalizing m a i with
  | nil => simp at h
  | cons b t ih =>
    cases i with
    | zero =>
      rw [Memory.writeAll, Memory.read_writeAll_ne _ _ (by omega)]
      simp
    | succ i =>
      rw [Memory.writeAll, show a + (i + 1) = a + 1 + i by omega, ih _ _ _ (by simpa using h)]
      simp

end Sys2Proof.Machine
end

