-- ==== Sys2Proof/Laws/State.lean ====
section
/-! SUPPORT. Reading a field after a change, and what each basic update leaves alone. -/

namespace Sys2Proof.Machine

@[simp] theorem State.rd_wr_self (s : State) (f : Field) (v : Nat) : (s.wr f v).rd f = v % 2 ^ f.width := by
  unfold State.rd State.wr Regs.put
  split
  · rename_i h
    simp [Sparse.get_erase_self, ← h]
  · simp [Sparse.get_insert_self]

theorem State.rd_wr_ne (s : State) {f g : Field} (v : Nat) (h : g.key ≠ f.key) : (s.wr f v).rd g = s.rd g := by
  unfold State.rd State.wr Regs.put
  split
  · simp [Sparse.get_erase_ne _ h]
  · simp [Sparse.get_insert_ne _ _ h]

theorem State.rd_lt (s : State) (f : Field) : s.rd f < 2 ^ f.width := Nat.mod_lt _ (Nat.two_pow_pos _)

/-- Two states with the same register store read alike. -/
theorem State.rd_congr {s t : State} (h : t.regs = s.regs) (f : Field) : t.rd f = s.rd f := by
  unfold State.rd
  rw [h]

/-! ### The updates that stand for others -/

@[simp] theorem State.wrB_eq (s : State) (f : Field) (b : Bool) : s.wrB f b = s.wr f (if b then 1 else 0) := rfl
@[simp] theorem State.count_eq (s : State) (f : Field) (d : Nat) : s.count f d = s.wr f (s.rd f + d) := rfl
@[simp] theorem State.countSat_eq (s : State) (f : Field) (d : Nat) :
    s.countSat f d = s.wr f (satAdd (s.rd f) d (2 ^ f.width - 1)) := rfl
@[simp] theorem State.wrAll_nil (s : State) : s.wrAll [] = s := rfl
@[simp] theorem State.wrAll_cons (s : State) (f : Field) (v : Nat) (l : List (Field × Nat)) :
    s.wrAll ((f, v) :: l) = (s.wr f v).wrAll l := rfl

/-! ### What each basic update leaves alone -/

@[simp] theorem State.wr_pending (s : State) (f : Field) (v : Nat) : (s.wr f v).pending = s.pending := rfl
@[simp] theorem State.wr_win (s : State) (f : Field) (v : Nat) : (s.wr f v).win = s.win := rfl
@[simp] theorem State.wr_emitted (s : State) (f : Field) (v : Nat) : (s.wr f v).emitted = s.emitted := rfl
@[simp] theorem State.wr_draws (s : State) (f : Field) (v : Nat) : (s.wr f v).draws = s.draws := rfl
@[simp] theorem State.wr_modes (s : State) (f : Field) (v : Nat) : (s.wr f v).modes = s.modes := rfl
@[simp] theorem State.wr_modeReqs (s : State) (f : Field) (v : Nat) : (s.wr f v).modeReqs = s.modeReqs := rfl
@[simp] theorem State.wr_modeWaiting (s : State) (f : Field) (v : Nat) : (s.wr f v).modeWaiting = s.modeWaiting := rfl
@[simp] theorem State.wr_startup (s : State) (f : Field) (v : Nat) : (s.wr f v).startup = s.startup := rfl
@[simp] theorem State.wr_deferred (s : State) (f : Field) (v : Nat) : (s.wr f v).deferred = s.deferred := rfl
@[simp] theorem State.wr_domains (s : State) (f : Field) (v : Nat) : (s.wr f v).domains = s.domains := rfl
@[simp] theorem State.wr_lrp (s : State) (f : Field) (v : Nat) : (s.wr f v).lrp = s.lrp := rfl
@[simp] theorem State.wr_pcie (s : State) (f : Field) (v : Nat) : (s.wr f v).pcie = s.pcie := rfl
@[simp] theorem State.wr_time (s : State) (f : Field) (v : Nat) : (s.wr f v).time = s.time := rfl
@[simp] theorem State.wr_cal (s : State) (f : Field) (v : Nat) : (s.wr f v).cal = s.cal := rfl
@[simp] theorem State.wr_slqUp (s : State) (f : Field) (v : Nat) : (s.wr f v).slqUp = s.slqUp := rfl
@[simp] theorem State.wr_slqDown (s : State) (f : Field) (v : Nat) : (s.wr f v).slqDown = s.slqDown := rfl
@[simp] theorem State.wr_mac (s : State) (f : Field) (v : Nat) : (s.wr f v).mac = s.mac := rfl
@[simp] theorem State.wr_spr (s : State) (f : Field) (v : Nat) : (s.wr f v).spr = s.spr := rfl
@[simp] theorem State.wr_ntbBad (s : State) (f : Field) (v : Nat) : (s.wr f v).ntbBad = s.ntbBad := rfl
@[simp] theorem State.wr_drf (s : State) (f : Field) (v : Nat) : (s.wr f v).drf = s.drf := rfl
@[simp] theorem State.wr_sch (s : State) (f : Field) (v : Nat) : (s.wr f v).sch = s.sch := rfl
@[simp] theorem State.wr_tmp (s : State) (f : Field) (v : Nat) : (s.wr f v).tmp = s.tmp := rfl
@[simp] theorem State.wr_dpt (s : State) (f : Field) (v : Nat) : (s.wr f v).dpt = s.dpt := rfl
@[simp] theorem State.wr_dal (s : State) (f : Field) (v : Nat) : (s.wr f v).dal = s.dal := rfl
@[simp] theorem State.wr_emu (s : State) (f : Field) (v : Nat) : (s.wr f v).emu = s.emu := rfl
@[simp] theorem State.wr_emur (s : State) (f : Field) (v : Nat) : (s.wr f v).emur = s.emur := rfl
@[simp] theorem State.wr_swf (s : State) (f : Field) (v : Nat) : (s.wr f v).swf = s.swf := rfl
@[simp] theorem State.wr_hdm (s : State) (f : Field) (v : Nat) : (s.wr f v).hdm = s.hdm := rfl
@[simp] theorem State.wr_clm (s : State) (f : Field) (v : Nat) : (s.wr f v).clm = s.clm := rfl
@[simp] theorem State.wr_hpn (s : State) (f : Field) (v : Nat) : (s.wr f v).hpn = s.hpn := rfl
@[simp] theorem State.wr_tpr (s : State) (f : Field) (v : Nat) : (s.wr f v).tpr = s.tpr := rfl
@[simp] theorem State.wr_siv (s : State) (f : Field) (v : Nat) : (s.wr f v).siv = s.siv := rfl
@[simp] theorem State.wr_grg (s : State) (f : Field) (v : Nat) : (s.wr f v).grg = s.grg := rfl
@[simp] theorem State.wr_mrl (s : State) (f : Field) (v : Nat) : (s.wr f v).mrl = s.mrl := rfl
@[simp] theorem State.wr_siltIntake (s : State) (f : Field) (v : Nat) : (s.wr f v).siltIntake = s.siltIntake := rfl
@[simp] theorem State.wr_siltLog (s : State) (f : Field) (v : Nat) : (s.wr f v).siltLog = s.siltLog := rfl

@[simp] theorem State.setBytes_pending (s : State) (p a : Nat) (l : List Nat) : (s.setBytes p a l).pending = s.pending := rfl
@[simp] theorem State.setBytes_regs (s : State) (p a : Nat) (l : List Nat) : (s.setBytes p a l).regs = s.regs := rfl
@[simp] theorem State.setBytes_emitted (s : State) (p a : Nat) (l : List Nat) : (s.setBytes p a l).emitted = s.emitted := rfl
@[simp] theorem State.setBytes_draws (s : State) (p a : Nat) (l : List Nat) : (s.setBytes p a l).draws = s.draws := rfl
@[simp] theorem State.setBytes_modes (s : State) (p a : Nat) (l : List Nat) : (s.setBytes p a l).modes = s.modes := rfl
@[simp] theorem State.setBytes_modeReqs (s : State) (p a : Nat) (l : List Nat) : (s.setBytes p a l).modeReqs = s.modeReqs := rfl
@[simp] theorem State.setBytes_modeWaiting (s : State) (p a : Nat) (l : List Nat) : (s.setBytes p a l).modeWaiting = s.modeWaiting := rfl
@[simp] theorem State.setBytes_startup (s : State) (p a : Nat) (l : List Nat) : (s.setBytes p a l).startup = s.startup := rfl
@[simp] theorem State.setBytes_deferred (s : State) (p a : Nat) (l : List Nat) : (s.setBytes p a l).deferred = s.deferred := rfl
@[simp] theorem State.setBytes_domains (s : State) (p a : Nat) (l : List Nat) : (s.setBytes p a l).domains = s.domains := rfl
@[simp] theorem State.setBytes_lrp (s : State) (p a : Nat) (l : List Nat) : (s.setBytes p a l).lrp = s.lrp := rfl
@[simp] theorem State.setBytes_pcie (s : State) (p a : Nat) (l : List Nat) : (s.setBytes p a l).pcie = s.pcie := rfl
@[simp] theorem State.setBytes_time (s : State) (p a : Nat) (l : List Nat) : (s.setBytes p a l).time = s.time := rfl
@[simp] theorem State.setBytes_cal (s : State) (p a : Nat) (l : List Nat) : (s.setBytes p a l).cal = s.cal := rfl
@[simp] theorem State.setBytes_slqUp (s : State) (p a : Nat) (l : List Nat) : (s.setBytes p a l).slqUp = s.slqUp := rfl
@[simp] theorem State.setBytes_slqDown (s : State) (p a : Nat) (l : List Nat) : (s.setBytes p a l).slqDown = s.slqDown := rfl
@[simp] theorem State.setBytes_mac (s : State) (p a : Nat) (l : List Nat) : (s.setBytes p a l).mac = s.mac := rfl
@[simp] theorem State.setBytes_spr (s : State) (p a : Nat) (l : List Nat) : (s.setBytes p a l).spr = s.spr := rfl
@[simp] theorem State.setBytes_ntbBad (s : State) (p a : Nat) (l : List Nat) : (s.setBytes p a l).ntbBad = s.ntbBad := rfl
@[simp] theorem State.setBytes_drf (s : State) (p a : Nat) (l : List Nat) : (s.setBytes p a l).drf = s.drf := rfl
@[simp] theorem State.setBytes_sch (s : State) (p a : Nat) (l : List Nat) : (s.setBytes p a l).sch = s.sch := rfl
@[simp] theorem State.setBytes_tmp (s : State) (p a : Nat) (l : List Nat) : (s.setBytes p a l).tmp = s.tmp := rfl
@[simp] theorem State.setBytes_dpt (s : State) (p a : Nat) (l : List Nat) : (s.setBytes p a l).dpt = s.dpt := rfl
@[simp] theorem State.setBytes_dal (s : State) (p a : Nat) (l : List Nat) : (s.setBytes p a l).dal = s.dal := rfl
@[simp] theorem State.setBytes_emu (s : State) (p a : Nat) (l : List Nat) : (s.setBytes p a l).emu = s.emu := rfl
@[simp] theorem State.setBytes_emur (s : State) (p a : Nat) (l : List Nat) : (s.setBytes p a l).emur = s.emur := rfl
@[simp] theorem State.setBytes_swf (s : State) (p a : Nat) (l : List Nat) : (s.setBytes p a l).swf = s.swf := rfl
@[simp] theorem State.setBytes_hdm (s : State) (p a : Nat) (l : List Nat) : (s.setBytes p a l).hdm = s.hdm := rfl
@[simp] theorem State.setBytes_clm (s : State) (p a : Nat) (l : List Nat) : (s.setBytes p a l).clm = s.clm := rfl
@[simp] theorem State.setBytes_hpn (s : State) (p a : Nat) (l : List Nat) : (s.setBytes p a l).hpn = s.hpn := rfl
@[simp] theorem State.setBytes_tpr (s : State) (p a : Nat) (l : List Nat) : (s.setBytes p a l).tpr = s.tpr := rfl
@[simp] theorem State.setBytes_siv (s : State) (p a : Nat) (l : List Nat) : (s.setBytes p a l).siv = s.siv := rfl
@[simp] theorem State.setBytes_grg (s : State) (p a : Nat) (l : List Nat) : (s.setBytes p a l).grg = s.grg := rfl
@[simp] theorem State.setBytes_mrl (s : State) (p a : Nat) (l : List Nat) : (s.setBytes p a l).mrl = s.mrl := rfl
@[simp] theorem State.setBytes_siltIntake (s : State) (p a : Nat) (l : List Nat) : (s.setBytes p a l).siltIntake = s.siltIntake := rfl
@[simp] theorem State.setBytes_siltLog (s : State) (p a : Nat) (l : List Nat) : (s.setBytes p a l).siltLog = s.siltLog := rfl

@[simp] theorem State.emit_pending (s : State) (e : Emission) : (s.emit e).pending = s.pending := rfl
@[simp] theorem State.emit_regs (s : State) (e : Emission) : (s.emit e).regs = s.regs := rfl
@[simp] theorem State.emit_win (s : State) (e : Emission) : (s.emit e).win = s.win := rfl
@[simp] theorem State.emit_draws (s : State) (e : Emission) : (s.emit e).draws = s.draws := rfl
@[simp] theorem State.emit_modes (s : State) (e : Emission) : (s.emit e).modes = s.modes := rfl
@[simp] theorem State.emit_modeReqs (s : State) (e : Emission) : (s.emit e).modeReqs = s.modeReqs := rfl
@[simp] theorem State.emit_modeWaiting (s : State) (e : Emission) : (s.emit e).modeWaiting = s.modeWaiting := rfl
@[simp] theorem State.emit_startup (s : State) (e : Emission) : (s.emit e).startup = s.startup := rfl
@[simp] theorem State.emit_deferred (s : State) (e : Emission) : (s.emit e).deferred = s.deferred := rfl
@[simp] theorem State.emit_domains (s : State) (e : Emission) : (s.emit e).domains = s.domains := rfl
@[simp] theorem State.emit_lrp (s : State) (e : Emission) : (s.emit e).lrp = s.lrp := rfl
@[simp] theorem State.emit_pcie (s : State) (e : Emission) : (s.emit e).pcie = s.pcie := rfl
@[simp] theorem State.emit_time (s : State) (e : Emission) : (s.emit e).time = s.time := rfl
@[simp] theorem State.emit_cal (s : State) (e : Emission) : (s.emit e).cal = s.cal := rfl
@[simp] theorem State.emit_slqUp (s : State) (e : Emission) : (s.emit e).slqUp = s.slqUp := rfl
@[simp] theorem State.emit_slqDown (s : State) (e : Emission) : (s.emit e).slqDown = s.slqDown := rfl
@[simp] theorem State.emit_mac (s : State) (e : Emission) : (s.emit e).mac = s.mac := rfl
@[simp] theorem State.emit_spr (s : State) (e : Emission) : (s.emit e).spr = s.spr := rfl
@[simp] theorem State.emit_ntbBad (s : State) (e : Emission) : (s.emit e).ntbBad = s.ntbBad := rfl
@[simp] theorem State.emit_drf (s : State) (e : Emission) : (s.emit e).drf = s.drf := rfl
@[simp] theorem State.emit_sch (s : State) (e : Emission) : (s.emit e).sch = s.sch := rfl
@[simp] theorem State.emit_tmp (s : State) (e : Emission) : (s.emit e).tmp = s.tmp := rfl
@[simp] theorem State.emit_dpt (s : State) (e : Emission) : (s.emit e).dpt = s.dpt := rfl
@[simp] theorem State.emit_dal (s : State) (e : Emission) : (s.emit e).dal = s.dal := rfl
@[simp] theorem State.emit_emu (s : State) (e : Emission) : (s.emit e).emu = s.emu := rfl
@[simp] theorem State.emit_emur (s : State) (e : Emission) : (s.emit e).emur = s.emur := rfl
@[simp] theorem State.emit_swf (s : State) (e : Emission) : (s.emit e).swf = s.swf := rfl
@[simp] theorem State.emit_hdm (s : State) (e : Emission) : (s.emit e).hdm = s.hdm := rfl
@[simp] theorem State.emit_clm (s : State) (e : Emission) : (s.emit e).clm = s.clm := rfl
@[simp] theorem State.emit_hpn (s : State) (e : Emission) : (s.emit e).hpn = s.hpn := rfl
@[simp] theorem State.emit_tpr (s : State) (e : Emission) : (s.emit e).tpr = s.tpr := rfl
@[simp] theorem State.emit_siv (s : State) (e : Emission) : (s.emit e).siv = s.siv := rfl
@[simp] theorem State.emit_grg (s : State) (e : Emission) : (s.emit e).grg = s.grg := rfl
@[simp] theorem State.emit_mrl (s : State) (e : Emission) : (s.emit e).mrl = s.mrl := rfl
@[simp] theorem State.emit_siltIntake (s : State) (e : Emission) : (s.emit e).siltIntake = s.siltIntake := rfl
@[simp] theorem State.emit_siltLog (s : State) (e : Emission) : (s.emit e).siltLog = s.siltLog := rfl

@[simp] theorem State.setPort_pending (s : State) (p : Port) (q : PortPath) : (s.setPort p q).pending = s.pending := by cases p <;> rfl
@[simp] theorem State.setPort_regs (s : State) (p : Port) (q : PortPath) : (s.setPort p q).regs = s.regs := by cases p <;> rfl
@[simp] theorem State.setPort_win (s : State) (p : Port) (q : PortPath) : (s.setPort p q).win = s.win := by cases p <;> rfl
@[simp] theorem State.setPort_emitted (s : State) (p : Port) (q : PortPath) : (s.setPort p q).emitted = s.emitted := by cases p <;> rfl
@[simp] theorem State.setPort_draws (s : State) (p : Port) (q : PortPath) : (s.setPort p q).draws = s.draws := by cases p <;> rfl
@[simp] theorem State.setPort_modes (s : State) (p : Port) (q : PortPath) : (s.setPort p q).modes = s.modes := by cases p <;> rfl
@[simp] theorem State.setPort_modeReqs (s : State) (p : Port) (q : PortPath) : (s.setPort p q).modeReqs = s.modeReqs := by cases p <;> rfl
@[simp] theorem State.setPort_modeWaiting (s : State) (p : Port) (q : PortPath) : (s.setPort p q).modeWaiting = s.modeWaiting := by cases p <;> rfl
@[simp] theorem State.setPort_startup (s : State) (p : Port) (q : PortPath) : (s.setPort p q).startup = s.startup := by cases p <;> rfl
@[simp] theorem State.setPort_deferred (s : State) (p : Port) (q : PortPath) : (s.setPort p q).deferred = s.deferred := by cases p <;> rfl
@[simp] theorem State.setPort_domains (s : State) (p : Port) (q : PortPath) : (s.setPort p q).domains = s.domains := by cases p <;> rfl
@[simp] theorem State.setPort_time (s : State) (p : Port) (q : PortPath) : (s.setPort p q).time = s.time := by cases p <;> rfl
@[simp] theorem State.setPort_cal (s : State) (p : Port) (q : PortPath) : (s.setPort p q).cal = s.cal := by cases p <;> rfl
@[simp] theorem State.setPort_slqUp (s : State) (p : Port) (q : PortPath) : (s.setPort p q).slqUp = s.slqUp := by cases p <;> rfl
@[simp] theorem State.setPort_slqDown (s : State) (p : Port) (q : PortPath) : (s.setPort p q).slqDown = s.slqDown := by cases p <;> rfl
@[simp] theorem State.setPort_mac (s : State) (p : Port) (q : PortPath) : (s.setPort p q).mac = s.mac := by cases p <;> rfl
@[simp] theorem State.setPort_spr (s : State) (p : Port) (q : PortPath) : (s.setPort p q).spr = s.spr := by cases p <;> rfl
@[simp] theorem State.setPort_ntbBad (s : State) (p : Port) (q : PortPath) : (s.setPort p q).ntbBad = s.ntbBad := by cases p <;> rfl
@[simp] theorem State.setPort_drf (s : State) (p : Port) (q : PortPath) : (s.setPort p q).drf = s.drf := by cases p <;> rfl
@[simp] theorem State.setPort_sch (s : State) (p : Port) (q : PortPath) : (s.setPort p q).sch = s.sch := by cases p <;> rfl
@[simp] theorem State.setPort_tmp (s : State) (p : Port) (q : PortPath) : (s.setPort p q).tmp = s.tmp := by cases p <;> rfl
@[simp] theorem State.setPort_dpt (s : State) (p : Port) (q : PortPath) : (s.setPort p q).dpt = s.dpt := by cases p <;> rfl
@[simp] theorem State.setPort_dal (s : State) (p : Port) (q : PortPath) : (s.setPort p q).dal = s.dal := by cases p <;> rfl
@[simp] theorem State.setPort_emu (s : State) (p : Port) (q : PortPath) : (s.setPort p q).emu = s.emu := by cases p <;> rfl
@[simp] theorem State.setPort_emur (s : State) (p : Port) (q : PortPath) : (s.setPort p q).emur = s.emur := by cases p <;> rfl
@[simp] theorem State.setPort_swf (s : State) (p : Port) (q : PortPath) : (s.setPort p q).swf = s.swf := by cases p <;> rfl
@[simp] theorem State.setPort_hdm (s : State) (p : Port) (q : PortPath) : (s.setPort p q).hdm = s.hdm := by cases p <;> rfl
@[simp] theorem State.setPort_clm (s : State) (p : Port) (q : PortPath) : (s.setPort p q).clm = s.clm := by cases p <;> rfl
@[simp] theorem State.setPort_hpn (s : State) (p : Port) (q : PortPath) : (s.setPort p q).hpn = s.hpn := by cases p <;> rfl
@[simp] theorem State.setPort_tpr (s : State) (p : Port) (q : PortPath) : (s.setPort p q).tpr = s.tpr := by cases p <;> rfl
@[simp] theorem State.setPort_siv (s : State) (p : Port) (q : PortPath) : (s.setPort p q).siv = s.siv := by cases p <;> rfl
@[simp] theorem State.setPort_grg (s : State) (p : Port) (q : PortPath) : (s.setPort p q).grg = s.grg := by cases p <;> rfl
@[simp] theorem State.setPort_mrl (s : State) (p : Port) (q : PortPath) : (s.setPort p q).mrl = s.mrl := by cases p <;> rfl
@[simp] theorem State.setPort_siltIntake (s : State) (p : Port) (q : PortPath) : (s.setPort p q).siltIntake = s.siltIntake := by cases p <;> rfl
@[simp] theorem State.setPort_siltLog (s : State) (p : Port) (q : PortPath) : (s.setPort p q).siltLog = s.siltLog := by cases p <;> rfl

@[simp] theorem State.rd_setBytes (s : State) (p a : Nat) (l : List Nat) (f : Field) : (s.setBytes p a l).rd f = s.rd f := rfl
@[simp] theorem State.rd_emit (s : State) (e : Emission) (f : Field) : (s.emit e).rd f = s.rd f := rfl
@[simp] theorem State.rd_setPort (s : State) (p : Port) (q : PortPath) (f : Field) : (s.setPort p q).rd f = s.rd f := by
  cases p <;> rfl

/-! ### The ports' paths -/

@[simp] theorem State.port_setPort (s : State) (p : Port) (q : PortPath) : (s.setPort p q).port p = q := by cases p <;> rfl
theorem State.port_setPort_ne (s : State) {p p' : Port} (q : PortPath) (h : p' ≠ p) : (s.setPort p q).port p' = s.port p' := by
  cases p <;> cases p' <;> first | rfl | exact absurd rfl h
@[simp] theorem State.port_wr (s : State) (f : Field) (v : Nat) (p : Port) : (s.wr f v).port p = s.port p := by cases p <;> rfl
@[simp] theorem portOther_ne (p : Port) : p.other ≠ p := by cases p <;> decide
@[simp] theorem port_ne_other (p : Port) : p ≠ p.other := by cases p <;> decide

/-! ### Windows -/

/-- Octets written to one place of a page's window leave the others alone. -/
theorem State.w8_setBytes_ne (s : State) (p a q b : Nat) (l : List Nat)
    (h : winAddr q b < winAddr p a ∨ winAddr p a + l.length ≤ winAddr q b) : (s.setBytes p a l).w8 q b = s.w8 q b := by
  unfold State.w8 State.setBytes
  simp only
  rw [Memory.read_writeAll_ne _ _ h]

/-- Octets written to a page's window read back. -/
theorem State.w8_setBytes (s : State) (p a i : Nat) (l : List Nat) (h : i < l.length) :
    (s.setBytes p a l).w8 p (a + i) = l.getD i 0 % 256 := by
  unfold State.w8 State.setBytes
  simp only
  rw [show winAddr p (a + i) = winAddr p a + i by unfold winAddr; omega, Memory.read_writeAll _ _ _ _ h]
  simp

end Sys2Proof.Machine
end

