-- ==== Sys2Proof/Laws/Notice.lean ====
section
/-! SUPPORT. What a notice, a message to the host and a host write's effect on the other port change, and what they leave alone. -/

namespace Sys2Proof.Machine

/-- What a usable page's unit does. -/
theorem State.whenLive_of {s : State} {p : Nat} (h : s.live p = true) (k : State → State) : s.whenLive p k = k s := by
  simp [State.whenLive, h]

theorem State.whenLive_not {s : State} {p : Nat} (h : s.live p = false) (k : State → State) : s.whenLive p k = s := by
  simp [State.whenLive, h]

theorem setBit_lt {v b n : Nat} (h : v < 2 ^ n) (hb : b < n) : setBit v b < 2 ^ n := by
  unfold setBit bitAt
  split
  · exact h
  · rename_i h1
    have h2 : v / 2 ^ b % 2 = 0 := by
      have := Nat.mod_lt (v / 2 ^ b) (y := 2) (by decide)
      simp at h1
      omega
    obtain ⟨c, hc⟩ : ∃ c, v / 2 ^ b = 2 * c := ⟨v / 2 ^ b / 2, by omega⟩
    obtain ⟨d, rfl⟩ : ∃ d, n = b + 1 + d := ⟨n - (b + 1), by omega⟩
    have e1 : v = 2 ^ b * (2 * c) + v % 2 ^ b := by rw [← hc, Nat.div_add_mod]
    have e2 : v % 2 ^ b < 2 ^ b := Nat.mod_lt _ (Nat.two_pow_pos _)
    have e3 : 2 ^ (b + 1 + d) = 2 ^ b * (2 * 2 ^ d) := by rw [Nat.pow_add, Nat.pow_succ]; ring
    have e4 : c < 2 ^ d := by
      by_contra h3
      have : 2 ^ d ≤ c := by omega
      have := Nat.mul_le_mul_left (2 ^ b) (Nat.mul_le_mul_left 2 this)
      omega
    have := Nat.mul_le_mul_left (2 ^ b) (show 2 * c + 2 ≤ 2 * 2 ^ d by omega)
    rw [Nat.mul_add] at this
    omega

/-- The fields that a notice of a page may change. -/
def noticeFields (p : Nat) : List Field := [NOTE_RAW p, MSIX_PBA]

theorem State.rd_msixSend_ne (s : State) (v : Nat) {f : Field} (h : f.key ≠ MSIX_PBA.key) : (s.msixSend v).rd f = s.rd f := by
  unfold State.msixSend
  split
  · rfl
  · exact State.rd_wr_ne _ _ h

theorem State.rd_vectorEdge_ne (s : State) (v : Nat) (b : Bool) {f : Field} (h : f.key ≠ MSIX_PBA.key) :
    (s.vectorEdge v b).rd f = s.rd f := by
  unfold State.vectorEdge
  split
  · exact State.rd_msixSend_ne _ _ h
  · rfl

/-- A notice changes its own register and, where the page has a vector, the Pending Bit Array. -/
theorem State.rd_notice_ne (s : State) (n : Notice) {f : Field} (h : f.key ≠ (NOTE_RAW n.page).key) (k : f.key ≠ MSIX_PBA.key) :
    (s.notice n).rd f = s.rd f := by
  unfold State.notice
  dsimp only
  split
  · rw [State.rd_vectorEdge_ne _ _ _ k, State.rd_wr_ne _ _ h]
  · exact State.rd_wr_ne _ _ h

theorem noteRaw_ne_pba (p : Nat) : (NOTE_RAW p).key ≠ MSIX_PBA.key := by
  simp only [Field.key]
  omega

/-- A notice sets its bit. -/
theorem State.raises_notice (s : State) (n : Notice) (h : n.bit < 32) : Raises n s (s.notice n) := by
  have e : (s.wr (NOTE_RAW n.page) (setBit (s.rd (NOTE_RAW n.page)) n.bit)).rd (NOTE_RAW n.page) =
      setBit (s.rd (NOTE_RAW n.page)) n.bit := by
    rw [State.rd_wr_self]
    exact Nat.mod_eq_of_lt (setBit_lt (State.rd_lt _ _) h)
  unfold Raises State.notice
  dsimp only
  split
  · rw [State.rd_vectorEdge_ne _ _ _ (noteRaw_ne_pba _), e]
  · exact e

@[simp] theorem State.msixSend_modes (s : State) (v : Nat) : (s.msixSend v).modes = s.modes := by unfold State.msixSend; split <;> rfl
@[simp] theorem State.msixSend_modeReqs (s : State) (v : Nat) : (s.msixSend v).modeReqs = s.modeReqs := by unfold State.msixSend; split <;> rfl
@[simp] theorem State.msixSend_modeWaiting (s : State) (v : Nat) : (s.msixSend v).modeWaiting = s.modeWaiting := by unfold State.msixSend; split <;> rfl
@[simp] theorem State.msixSend_startup (s : State) (v : Nat) : (s.msixSend v).startup = s.startup := by unfold State.msixSend; split <;> rfl
@[simp] theorem State.msixSend_deferred (s : State) (v : Nat) : (s.msixSend v).deferred = s.deferred := by unfold State.msixSend; split <;> rfl
@[simp] theorem State.msixSend_domains (s : State) (v : Nat) : (s.msixSend v).domains = s.domains := by unfold State.msixSend; split <;> rfl
@[simp] theorem State.msixSend_lrp (s : State) (v : Nat) : (s.msixSend v).lrp = s.lrp := by unfold State.msixSend; split <;> rfl
@[simp] theorem State.msixSend_pcie (s : State) (v : Nat) : (s.msixSend v).pcie = s.pcie := by unfold State.msixSend; split <;> rfl
@[simp] theorem State.msixSend_time (s : State) (v : Nat) : (s.msixSend v).time = s.time := by unfold State.msixSend; split <;> rfl
@[simp] theorem State.msixSend_cal (s : State) (v : Nat) : (s.msixSend v).cal = s.cal := by unfold State.msixSend; split <;> rfl
@[simp] theorem State.msixSend_slqUp (s : State) (v : Nat) : (s.msixSend v).slqUp = s.slqUp := by unfold State.msixSend; split <;> rfl
@[simp] theorem State.msixSend_slqDown (s : State) (v : Nat) : (s.msixSend v).slqDown = s.slqDown := by unfold State.msixSend; split <;> rfl
@[simp] theorem State.msixSend_mac (s : State) (v : Nat) : (s.msixSend v).mac = s.mac := by unfold State.msixSend; split <;> rfl
@[simp] theorem State.msixSend_spr (s : State) (v : Nat) : (s.msixSend v).spr = s.spr := by unfold State.msixSend; split <;> rfl
@[simp] theorem State.msixSend_ntbBad (s : State) (v : Nat) : (s.msixSend v).ntbBad = s.ntbBad := by unfold State.msixSend; split <;> rfl
@[simp] theorem State.msixSend_drf (s : State) (v : Nat) : (s.msixSend v).drf = s.drf := by unfold State.msixSend; split <;> rfl
@[simp] theorem State.msixSend_sch (s : State) (v : Nat) : (s.msixSend v).sch = s.sch := by unfold State.msixSend; split <;> rfl
@[simp] theorem State.msixSend_tmp (s : State) (v : Nat) : (s.msixSend v).tmp = s.tmp := by unfold State.msixSend; split <;> rfl
@[simp] theorem State.msixSend_dpt (s : State) (v : Nat) : (s.msixSend v).dpt = s.dpt := by unfold State.msixSend; split <;> rfl
@[simp] theorem State.msixSend_dal (s : State) (v : Nat) : (s.msixSend v).dal = s.dal := by unfold State.msixSend; split <;> rfl
@[simp] theorem State.msixSend_emu (s : State) (v : Nat) : (s.msixSend v).emu = s.emu := by unfold State.msixSend; split <;> rfl
@[simp] theorem State.msixSend_emur (s : State) (v : Nat) : (s.msixSend v).emur = s.emur := by unfold State.msixSend; split <;> rfl
@[simp] theorem State.msixSend_swf (s : State) (v : Nat) : (s.msixSend v).swf = s.swf := by unfold State.msixSend; split <;> rfl
@[simp] theorem State.msixSend_hdm (s : State) (v : Nat) : (s.msixSend v).hdm = s.hdm := by unfold State.msixSend; split <;> rfl
@[simp] theorem State.msixSend_clm (s : State) (v : Nat) : (s.msixSend v).clm = s.clm := by unfold State.msixSend; split <;> rfl
@[simp] theorem State.msixSend_hpn (s : State) (v : Nat) : (s.msixSend v).hpn = s.hpn := by unfold State.msixSend; split <;> rfl
@[simp] theorem State.msixSend_tpr (s : State) (v : Nat) : (s.msixSend v).tpr = s.tpr := by unfold State.msixSend; split <;> rfl
@[simp] theorem State.msixSend_siv (s : State) (v : Nat) : (s.msixSend v).siv = s.siv := by unfold State.msixSend; split <;> rfl
@[simp] theorem State.msixSend_grg (s : State) (v : Nat) : (s.msixSend v).grg = s.grg := by unfold State.msixSend; split <;> rfl
@[simp] theorem State.msixSend_mrl (s : State) (v : Nat) : (s.msixSend v).mrl = s.mrl := by unfold State.msixSend; split <;> rfl
@[simp] theorem State.msixSend_siltIntake (s : State) (v : Nat) : (s.msixSend v).siltIntake = s.siltIntake := by unfold State.msixSend; split <;> rfl
@[simp] theorem State.msixSend_siltLog (s : State) (v : Nat) : (s.msixSend v).siltLog = s.siltLog := by unfold State.msixSend; split <;> rfl
@[simp] theorem State.msixSend_win (s : State) (v : Nat) : (s.msixSend v).win = s.win := by unfold State.msixSend; split <;> rfl
@[simp] theorem State.msixSend_draws (s : State) (v : Nat) : (s.msixSend v).draws = s.draws := by unfold State.msixSend; split <;> rfl
@[simp] theorem State.msixSend_pending (s : State) (v : Nat) : (s.msixSend v).pending = s.pending := by unfold State.msixSend; split <;> rfl
@[simp] theorem State.vectorEdge_modes (s : State) (v : Nat) (b : Bool) : (s.vectorEdge v b).modes = s.modes := by unfold State.vectorEdge; split <;> simp
@[simp] theorem State.vectorEdge_modeReqs (s : State) (v : Nat) (b : Bool) : (s.vectorEdge v b).modeReqs = s.modeReqs := by unfold State.vectorEdge; split <;> simp
@[simp] theorem State.vectorEdge_modeWaiting (s : State) (v : Nat) (b : Bool) : (s.vectorEdge v b).modeWaiting = s.modeWaiting := by unfold State.vectorEdge; split <;> simp
@[simp] theorem State.vectorEdge_startup (s : State) (v : Nat) (b : Bool) : (s.vectorEdge v b).startup = s.startup := by unfold State.vectorEdge; split <;> simp
@[simp] theorem State.vectorEdge_deferred (s : State) (v : Nat) (b : Bool) : (s.vectorEdge v b).deferred = s.deferred := by unfold State.vectorEdge; split <;> simp
@[simp] theorem State.vectorEdge_domains (s : State) (v : Nat) (b : Bool) : (s.vectorEdge v b).domains = s.domains := by unfold State.vectorEdge; split <;> simp
@[simp] theorem State.vectorEdge_lrp (s : State) (v : Nat) (b : Bool) : (s.vectorEdge v b).lrp = s.lrp := by unfold State.vectorEdge; split <;> simp
@[simp] theorem State.vectorEdge_pcie (s : State) (v : Nat) (b : Bool) : (s.vectorEdge v b).pcie = s.pcie := by unfold State.vectorEdge; split <;> simp
@[simp] theorem State.vectorEdge_time (s : State) (v : Nat) (b : Bool) : (s.vectorEdge v b).time = s.time := by unfold State.vectorEdge; split <;> simp
@[simp] theorem State.vectorEdge_cal (s : State) (v : Nat) (b : Bool) : (s.vectorEdge v b).cal = s.cal := by unfold State.vectorEdge; split <;> simp
@[simp] theorem State.vectorEdge_slqUp (s : State) (v : Nat) (b : Bool) : (s.vectorEdge v b).slqUp = s.slqUp := by unfold State.vectorEdge; split <;> simp
@[simp] theorem State.vectorEdge_slqDown (s : State) (v : Nat) (b : Bool) : (s.vectorEdge v b).slqDown = s.slqDown := by unfold State.vectorEdge; split <;> simp
@[simp] theorem State.vectorEdge_mac (s : State) (v : Nat) (b : Bool) : (s.vectorEdge v b).mac = s.mac := by unfold State.vectorEdge; split <;> simp
@[simp] theorem State.vectorEdge_spr (s : State) (v : Nat) (b : Bool) : (s.vectorEdge v b).spr = s.spr := by unfold State.vectorEdge; split <;> simp
@[simp] theorem State.vectorEdge_ntbBad (s : State) (v : Nat) (b : Bool) : (s.vectorEdge v b).ntbBad = s.ntbBad := by unfold State.vectorEdge; split <;> simp
@[simp] theorem State.vectorEdge_drf (s : State) (v : Nat) (b : Bool) : (s.vectorEdge v b).drf = s.drf := by unfold State.vectorEdge; split <;> simp
@[simp] theorem State.vectorEdge_sch (s : State) (v : Nat) (b : Bool) : (s.vectorEdge v b).sch = s.sch := by unfold State.vectorEdge; split <;> simp
@[simp] theorem State.vectorEdge_tmp (s : State) (v : Nat) (b : Bool) : (s.vectorEdge v b).tmp = s.tmp := by unfold State.vectorEdge; split <;> simp
@[simp] theorem State.vectorEdge_dpt (s : State) (v : Nat) (b : Bool) : (s.vectorEdge v b).dpt = s.dpt := by unfold State.vectorEdge; split <;> simp
@[simp] theorem State.vectorEdge_dal (s : State) (v : Nat) (b : Bool) : (s.vectorEdge v b).dal = s.dal := by unfold State.vectorEdge; split <;> simp
@[simp] theorem State.vectorEdge_emu (s : State) (v : Nat) (b : Bool) : (s.vectorEdge v b).emu = s.emu := by unfold State.vectorEdge; split <;> simp
@[simp] theorem State.vectorEdge_emur (s : State) (v : Nat) (b : Bool) : (s.vectorEdge v b).emur = s.emur := by unfold State.vectorEdge; split <;> simp
@[simp] theorem State.vectorEdge_swf (s : State) (v : Nat) (b : Bool) : (s.vectorEdge v b).swf = s.swf := by unfold State.vectorEdge; split <;> simp
@[simp] theorem State.vectorEdge_hdm (s : State) (v : Nat) (b : Bool) : (s.vectorEdge v b).hdm = s.hdm := by unfold State.vectorEdge; split <;> simp
@[simp] theorem State.vectorEdge_clm (s : State) (v : Nat) (b : Bool) : (s.vectorEdge v b).clm = s.clm := by unfold State.vectorEdge; split <;> simp
@[simp] theorem State.vectorEdge_hpn (s : State) (v : Nat) (b : Bool) : (s.vectorEdge v b).hpn = s.hpn := by unfold State.vectorEdge; split <;> simp
@[simp] theorem State.vectorEdge_tpr (s : State) (v : Nat) (b : Bool) : (s.vectorEdge v b).tpr = s.tpr := by unfold State.vectorEdge; split <;> simp
@[simp] theorem State.vectorEdge_siv (s : State) (v : Nat) (b : Bool) : (s.vectorEdge v b).siv = s.siv := by unfold State.vectorEdge; split <;> simp
@[simp] theorem State.vectorEdge_grg (s : State) (v : Nat) (b : Bool) : (s.vectorEdge v b).grg = s.grg := by unfold State.vectorEdge; split <;> simp
@[simp] theorem State.vectorEdge_mrl (s : State) (v : Nat) (b : Bool) : (s.vectorEdge v b).mrl = s.mrl := by unfold State.vectorEdge; split <;> simp
@[simp] theorem State.vectorEdge_siltIntake (s : State) (v : Nat) (b : Bool) : (s.vectorEdge v b).siltIntake = s.siltIntake := by unfold State.vectorEdge; split <;> simp
@[simp] theorem State.vectorEdge_siltLog (s : State) (v : Nat) (b : Bool) : (s.vectorEdge v b).siltLog = s.siltLog := by unfold State.vectorEdge; split <;> simp
@[simp] theorem State.vectorEdge_win (s : State) (v : Nat) (b : Bool) : (s.vectorEdge v b).win = s.win := by unfold State.vectorEdge; split <;> simp
@[simp] theorem State.vectorEdge_draws (s : State) (v : Nat) (b : Bool) : (s.vectorEdge v b).draws = s.draws := by unfold State.vectorEdge; split <;> simp
@[simp] theorem State.vectorEdge_pending (s : State) (v : Nat) (b : Bool) : (s.vectorEdge v b).pending = s.pending := by unfold State.vectorEdge; split <;> simp
@[simp] theorem State.notice_modes (s : State) (n : Notice) : (s.notice n).modes = s.modes := by unfold State.notice; dsimp only; split <;> simp
@[simp] theorem State.notice_modeReqs (s : State) (n : Notice) : (s.notice n).modeReqs = s.modeReqs := by unfold State.notice; dsimp only; split <;> simp
@[simp] theorem State.notice_modeWaiting (s : State) (n : Notice) : (s.notice n).modeWaiting = s.modeWaiting := by unfold State.notice; dsimp only; split <;> simp
@[simp] theorem State.notice_startup (s : State) (n : Notice) : (s.notice n).startup = s.startup := by unfold State.notice; dsimp only; split <;> simp
@[simp] theorem State.notice_deferred (s : State) (n : Notice) : (s.notice n).deferred = s.deferred := by unfold State.notice; dsimp only; split <;> simp
@[simp] theorem State.notice_domains (s : State) (n : Notice) : (s.notice n).domains = s.domains := by unfold State.notice; dsimp only; split <;> simp
@[simp] theorem State.notice_lrp (s : State) (n : Notice) : (s.notice n).lrp = s.lrp := by unfold State.notice; dsimp only; split <;> simp
@[simp] theorem State.notice_pcie (s : State) (n : Notice) : (s.notice n).pcie = s.pcie := by unfold State.notice; dsimp only; split <;> simp
@[simp] theorem State.notice_time (s : State) (n : Notice) : (s.notice n).time = s.time := by unfold State.notice; dsimp only; split <;> simp
@[simp] theorem State.notice_cal (s : State) (n : Notice) : (s.notice n).cal = s.cal := by unfold State.notice; dsimp only; split <;> simp
@[simp] theorem State.notice_slqUp (s : State) (n : Notice) : (s.notice n).slqUp = s.slqUp := by unfold State.notice; dsimp only; split <;> simp
@[simp] theorem State.notice_slqDown (s : State) (n : Notice) : (s.notice n).slqDown = s.slqDown := by unfold State.notice; dsimp only; split <;> simp
@[simp] theorem State.notice_mac (s : State) (n : Notice) : (s.notice n).mac = s.mac := by unfold State.notice; dsimp only; split <;> simp
@[simp] theorem State.notice_spr (s : State) (n : Notice) : (s.notice n).spr = s.spr := by unfold State.notice; dsimp only; split <;> simp
@[simp] theorem State.notice_ntbBad (s : State) (n : Notice) : (s.notice n).ntbBad = s.ntbBad := by unfold State.notice; dsimp only; split <;> simp
@[simp] theorem State.notice_drf (s : State) (n : Notice) : (s.notice n).drf = s.drf := by unfold State.notice; dsimp only; split <;> simp
@[simp] theorem State.notice_sch (s : State) (n : Notice) : (s.notice n).sch = s.sch := by unfold State.notice; dsimp only; split <;> simp
@[simp] theorem State.notice_tmp (s : State) (n : Notice) : (s.notice n).tmp = s.tmp := by unfold State.notice; dsimp only; split <;> simp
@[simp] theorem State.notice_dpt (s : State) (n : Notice) : (s.notice n).dpt = s.dpt := by unfold State.notice; dsimp only; split <;> simp
@[simp] theorem State.notice_dal (s : State) (n : Notice) : (s.notice n).dal = s.dal := by unfold State.notice; dsimp only; split <;> simp
@[simp] theorem State.notice_emu (s : State) (n : Notice) : (s.notice n).emu = s.emu := by unfold State.notice; dsimp only; split <;> simp
@[simp] theorem State.notice_emur (s : State) (n : Notice) : (s.notice n).emur = s.emur := by unfold State.notice; dsimp only; split <;> simp
@[simp] theorem State.notice_swf (s : State) (n : Notice) : (s.notice n).swf = s.swf := by unfold State.notice; dsimp only; split <;> simp
@[simp] theorem State.notice_hdm (s : State) (n : Notice) : (s.notice n).hdm = s.hdm := by unfold State.notice; dsimp only; split <;> simp
@[simp] theorem State.notice_clm (s : State) (n : Notice) : (s.notice n).clm = s.clm := by unfold State.notice; dsimp only; split <;> simp
@[simp] theorem State.notice_hpn (s : State) (n : Notice) : (s.notice n).hpn = s.hpn := by unfold State.notice; dsimp only; split <;> simp
@[simp] theorem State.notice_tpr (s : State) (n : Notice) : (s.notice n).tpr = s.tpr := by unfold State.notice; dsimp only; split <;> simp
@[simp] theorem State.notice_siv (s : State) (n : Notice) : (s.notice n).siv = s.siv := by unfold State.notice; dsimp only; split <;> simp
@[simp] theorem State.notice_grg (s : State) (n : Notice) : (s.notice n).grg = s.grg := by unfold State.notice; dsimp only; split <;> simp
@[simp] theorem State.notice_mrl (s : State) (n : Notice) : (s.notice n).mrl = s.mrl := by unfold State.notice; dsimp only; split <;> simp
@[simp] theorem State.notice_siltIntake (s : State) (n : Notice) : (s.notice n).siltIntake = s.siltIntake := by unfold State.notice; dsimp only; split <;> simp
@[simp] theorem State.notice_siltLog (s : State) (n : Notice) : (s.notice n).siltLog = s.siltLog := by unfold State.notice; dsimp only; split <;> simp
@[simp] theorem State.notice_win (s : State) (n : Notice) : (s.notice n).win = s.win := by unfold State.notice; dsimp only; split <;> simp
@[simp] theorem State.notice_draws (s : State) (n : Notice) : (s.notice n).draws = s.draws := by unfold State.notice; dsimp only; split <;> simp
@[simp] theorem State.notice_pending (s : State) (n : Notice) : (s.notice n).pending = s.pending := by unfold State.notice; dsimp only; split <;> simp

/-- What a host write's taking effect changes: the other port's tags, and the notice of an aborted transaction (R96). -/
theorem State.rd_hostWrote_ne (s : State) (port : Port) (b : Bool) (a : Nat) {f : Field} (h : f.key ≠ (NOTE_RAW 0x01).key)
    (k : f.key ≠ MSIX_PBA.key) : (s.hostWrote port b a).rd f = s.rd f := by
  unfold State.hostWrote
  dsimp only
  split
  · exact (State.rd_notice_ne _ HIF_NOTE_TXN_ABORT h k).trans (State.rd_setPort _ _ _ _)
  · rfl

@[simp] theorem State.hostWrote_modes (s : State) (port : Port) (b : Bool) (a : Nat) : (s.hostWrote port b a).modes = s.modes := by
  unfold State.hostWrote; dsimp only; split <;> first | rfl | simp
@[simp] theorem State.hostWrote_modeReqs (s : State) (port : Port) (b : Bool) (a : Nat) : (s.hostWrote port b a).modeReqs = s.modeReqs := by
  unfold State.hostWrote; dsimp only; split <;> first | rfl | simp
@[simp] theorem State.hostWrote_modeWaiting (s : State) (port : Port) (b : Bool) (a : Nat) : (s.hostWrote port b a).modeWaiting = s.modeWaiting := by
  unfold State.hostWrote; dsimp only; split <;> first | rfl | simp
@[simp] theorem State.hostWrote_startup (s : State) (port : Port) (b : Bool) (a : Nat) : (s.hostWrote port b a).startup = s.startup := by
  unfold State.hostWrote; dsimp only; split <;> first | rfl | simp
@[simp] theorem State.hostWrote_deferred (s : State) (port : Port) (b : Bool) (a : Nat) : (s.hostWrote port b a).deferred = s.deferred := by
  unfold State.hostWrote; dsimp only; split <;> first | rfl | simp
@[simp] theorem State.hostWrote_domains (s : State) (port : Port) (b : Bool) (a : Nat) : (s.hostWrote port b a).domains = s.domains := by
  unfold State.hostWrote; dsimp only; split <;> first | rfl | simp
@[simp] theorem State.hostWrote_time (s : State) (port : Port) (b : Bool) (a : Nat) : (s.hostWrote port b a).time = s.time := by
  unfold State.hostWrote; dsimp only; split <;> first | rfl | simp
@[simp] theorem State.hostWrote_cal (s : State) (port : Port) (b : Bool) (a : Nat) : (s.hostWrote port b a).cal = s.cal := by
  unfold State.hostWrote; dsimp only; split <;> first | rfl | simp
@[simp] theorem State.hostWrote_slqUp (s : State) (port : Port) (b : Bool) (a : Nat) : (s.hostWrote port b a).slqUp = s.slqUp := by
  unfold State.hostWrote; dsimp only; split <;> first | rfl | simp
@[simp] theorem State.hostWrote_slqDown (s : State) (port : Port) (b : Bool) (a : Nat) : (s.hostWrote port b a).slqDown = s.slqDown := by
  unfold State.hostWrote; dsimp only; split <;> first | rfl | simp
@[simp] theorem State.hostWrote_mac (s : State) (port : Port) (b : Bool) (a : Nat) : (s.hostWrote port b a).mac = s.mac := by
  unfold State.hostWrote; dsimp only; split <;> first | rfl | simp
@[simp] theorem State.hostWrote_spr (s : State) (port : Port) (b : Bool) (a : Nat) : (s.hostWrote port b a).spr = s.spr := by
  unfold State.hostWrote; dsimp only; split <;> first | rfl | simp
@[simp] theorem State.hostWrote_ntbBad (s : State) (port : Port) (b : Bool) (a : Nat) : (s.hostWrote port b a).ntbBad = s.ntbBad := by
  unfold State.hostWrote; dsimp only; split <;> first | rfl | simp
@[simp] theorem State.hostWrote_drf (s : State) (port : Port) (b : Bool) (a : Nat) : (s.hostWrote port b a).drf = s.drf := by
  unfold State.hostWrote; dsimp only; split <;> first | rfl | simp
@[simp] theorem State.hostWrote_sch (s : State) (port : Port) (b : Bool) (a : Nat) : (s.hostWrote port b a).sch = s.sch := by
  unfold State.hostWrote; dsimp only; split <;> first | rfl | simp
@[simp] theorem State.hostWrote_tmp (s : State) (port : Port) (b : Bool) (a : Nat) : (s.hostWrote port b a).tmp = s.tmp := by
  unfold State.hostWrote; dsimp only; split <;> first | rfl | simp
@[simp] theorem State.hostWrote_dpt (s : State) (port : Port) (b : Bool) (a : Nat) : (s.hostWrote port b a).dpt = s.dpt := by
  unfold State.hostWrote; dsimp only; split <;> first | rfl | simp
@[simp] theorem State.hostWrote_dal (s : State) (port : Port) (b : Bool) (a : Nat) : (s.hostWrote port b a).dal = s.dal := by
  unfold State.hostWrote; dsimp only; split <;> first | rfl | simp
@[simp] theorem State.hostWrote_emu (s : State) (port : Port) (b : Bool) (a : Nat) : (s.hostWrote port b a).emu = s.emu := by
  unfold State.hostWrote; dsimp only; split <;> first | rfl | simp
@[simp] theorem State.hostWrote_emur (s : State) (port : Port) (b : Bool) (a : Nat) : (s.hostWrote port b a).emur = s.emur := by
  unfold State.hostWrote; dsimp only; split <;> first | rfl | simp
@[simp] theorem State.hostWrote_swf (s : State) (port : Port) (b : Bool) (a : Nat) : (s.hostWrote port b a).swf = s.swf := by
  unfold State.hostWrote; dsimp only; split <;> first | rfl | simp
@[simp] theorem State.hostWrote_hdm (s : State) (port : Port) (b : Bool) (a : Nat) : (s.hostWrote port b a).hdm = s.hdm := by
  unfold State.hostWrote; dsimp only; split <;> first | rfl | simp
@[simp] theorem State.hostWrote_clm (s : State) (port : Port) (b : Bool) (a : Nat) : (s.hostWrote port b a).clm = s.clm := by
  unfold State.hostWrote; dsimp only; split <;> first | rfl | simp
@[simp] theorem State.hostWrote_hpn (s : State) (port : Port) (b : Bool) (a : Nat) : (s.hostWrote port b a).hpn = s.hpn := by
  unfold State.hostWrote; dsimp only; split <;> first | rfl | simp
@[simp] theorem State.hostWrote_tpr (s : State) (port : Port) (b : Bool) (a : Nat) : (s.hostWrote port b a).tpr = s.tpr := by
  unfold State.hostWrote; dsimp only; split <;> first | rfl | simp
@[simp] theorem State.hostWrote_siv (s : State) (port : Port) (b : Bool) (a : Nat) : (s.hostWrote port b a).siv = s.siv := by
  unfold State.hostWrote; dsimp only; split <;> first | rfl | simp
@[simp] theorem State.hostWrote_grg (s : State) (port : Port) (b : Bool) (a : Nat) : (s.hostWrote port b a).grg = s.grg := by
  unfold State.hostWrote; dsimp only; split <;> first | rfl | simp
@[simp] theorem State.hostWrote_mrl (s : State) (port : Port) (b : Bool) (a : Nat) : (s.hostWrote port b a).mrl = s.mrl := by
  unfold State.hostWrote; dsimp only; split <;> first | rfl | simp
@[simp] theorem State.hostWrote_siltIntake (s : State) (port : Port) (b : Bool) (a : Nat) : (s.hostWrote port b a).siltIntake = s.siltIntake := by
  unfold State.hostWrote; dsimp only; split <;> first | rfl | simp
@[simp] theorem State.hostWrote_siltLog (s : State) (port : Port) (b : Bool) (a : Nat) : (s.hostWrote port b a).siltLog = s.siltLog := by
  unfold State.hostWrote; dsimp only; split <;> first | rfl | simp
@[simp] theorem State.hostWrote_win (s : State) (port : Port) (b : Bool) (a : Nat) : (s.hostWrote port b a).win = s.win := by
  unfold State.hostWrote; dsimp only; split <;> first | rfl | simp
@[simp] theorem State.hostWrote_draws (s : State) (port : Port) (b : Bool) (a : Nat) : (s.hostWrote port b a).draws = s.draws := by
  unfold State.hostWrote; dsimp only; split <;> first | rfl | simp
@[simp] theorem State.hostWrote_pending (s : State) (port : Port) (b : Bool) (a : Nat) : (s.hostWrote port b a).pending = s.pending := by
  unfold State.hostWrote; dsimp only; split <;> first | rfl | simp

@[simp] theorem State.port_notice (s : State) (n : Notice) (p : Port) : (s.notice n).port p = s.port p := by cases p <;> simp [State.port]

/-- A write leaves its own port's tags alone. -/
@[simp] theorem State.port_hostWrote (s : State) (p : Port) (b : Bool) (a : Nat) : (s.hostWrote p b a).port p = s.port p := by
  unfold State.hostWrote
  dsimp only
  split
  · rw [State.port_notice, State.port_setPort_ne _ _ (port_ne_other p)]
  · rfl

@[simp] theorem State.live_hostWrote (s : State) (port : Port) (b : Bool) (a p : Nat) : (s.hostWrote port b a).live p = s.live p := by
  simp [State.live]
@[simp] theorem State.live_notice (s : State) (n : Notice) (p : Nat) : (s.notice n).live p = s.live p := by simp [State.live]
@[simp] theorem State.live_wr (s : State) (f : Field) (v p : Nat) : (s.wr f v).live p = s.live p := rfl

/-- Whether a page runs depends on the domains and the slices alone. -/
theorem State.pageRuns_congr {s t : State} (d : t.domains = s.domains) (x : t.siv = s.siv) (p : Nat) : t.pageRuns p = s.pageRuns p := by
  simp only [State.pageRuns, State.domain, State.isolated, d, x]

@[simp] theorem State.pageRuns_hostWrote (s : State) (port : Port) (b : Bool) (a p : Nat) :
    (s.hostWrote port b a).pageRuns p = s.pageRuns p := State.pageRuns_congr (by simp) (by simp) p
@[simp] theorem State.pageRuns_notice (s : State) (n : Notice) (p : Nat) : (s.notice n).pageRuns p = s.pageRuns p :=
  State.pageRuns_congr (by simp) (by simp) p

@[simp] theorem State.wakePage_live (s : State) (p q : Nat) : (s.wakePage p).live q = s.live q := rfl

/-- A fold that may only start domains which do not run changes nothing where they all run. -/
theorem woken_fold {l : List DomainState} (ds : List Nat) (h : (ds.all fun d => l.getD d .stopped == .running) = true) :
    ds.foldl (fun l d => if (dozeState d).isSome && l.getD d .stopped != .running then putDomain l d .running else l) l = l := by
  induction ds with
  | nil => rfl
  | cons d t ih =>
    simp only [List.all_cons, Bool.and_eq_true, beq_iff_eq] at h
    have e : ((dozeState d).isSome && l.getD d .stopped != .running) = false := by rw [h.1]; simp
    rw [List.foldl_cons, if_neg (by rw [e]; decide)]
    exact ih h.2

/-- Domains that all run are not started anew. -/
theorem State.woken_of {s : State} {ds : List Nat} (h : (ds.all fun d => s.domain d == .running) = true) : s.woken ds = s.domains := by
  unfold State.woken
  split
  · exact woken_fold ds h
  · rfl

/-- Work for a page whose domains run starts nothing. -/
theorem State.wakePage_of {s : State} {p : Nat} (h : s.pageRuns p = true) : s.wakePage p = s := by
  unfold State.wakePage
  rw [State.woken_of (by rw [State.pageRuns, Bool.and_eq_true] at h; exact h.1)]

/-- What a usable page's unit does while it runs. -/
theorem State.working_of {s : State} {p : Nat} (h : s.live p = true) (r : s.pageRuns p = true) (k : State → State) :
    s.working p k = k s := by
  unfold State.working
  rw [if_pos h, State.wakePage_of r]

theorem State.working_not {s : State} {p : Nat} (h : s.live p = false) (k : State → State) : s.working p k = s := by
  simp [State.working, h]

/-- What a host write does where its page is usable and runs. -/
theorem State.effect_of {s : State} {addr : Nat} (port : Port) (h : s.live (addr / 0x1000) = true) (r : s.pageRuns (addr / 0x1000) = true)
    (k : State → State) : s.effect port addr k = k (s.hostWrote port false addr) := by
  unfold State.effect
  rw [State.working_of h r, if_pos r]

end Sys2Proof.Machine
end

