-- ==== Sys2Proof/Laws/Effects.lean ====
section
/-! SUPPORT. What a record, a publication and a notice leave: the lemmas that a result statement cites instead of unfolding them. -/

namespace Sys2Proof.Machine

/-- An event for Silt changes no field but the count of lost events and its notice. -/
theorem State.rd_silt_ne (s : State) (c p0 p1 p2 p3 : Nat) {f : Field} (h : f.key ≠ SLT_LOST.key) (k : f.key ≠ (NOTE_RAW 0x1E).key)
    (m : f.key ≠ MSIX_PBA.key) : (s.silt c p0 p1 p2 p3).rd f = s.rd f := by
  unfold State.silt
  split
  · rfl
  · rw [State.rd_notice_ne _ SLT_NOTE_LOST k m, State.countSat_eq, State.rd_wr_ne _ _ h]

/-- A publication raises the block's count by one (R85). -/
theorem State.rd_publish_seq (s : State) (p b : Nat) (seq : Field) (h : seq.key ≠ (FRESH p).key) :
    (s.publish p b seq).rd seq = (s.rd seq + 1) % 2 ^ seq.width := by
  unfold State.publish
  rw [State.rd_wr_ne _ _ h, State.rd_wr_self]

/-- A publication changes no field but the count and FRESH. -/
theorem State.rd_publish_ne (s : State) (p b : Nat) (seq : Field) {f : Field} (h : f.key ≠ (FRESH p).key) (k : f.key ≠ seq.key) :
    (s.publish p b seq).rd f = s.rd f := by
  unfold State.publish
  rw [State.rd_wr_ne _ _ h, State.rd_wr_ne _ _ k]

/-- A bit that was set is set. -/
theorem bitAt_setBit (v b : Nat) : bitAt (setBit v b) b = true := by
  unfold setBit
  split
  · assumption
  · rename_i h
    unfold bitAt at *
    simp only [beq_iff_eq] at h ⊢
    have : (v + 2 ^ b) / 2 ^ b = v / 2 ^ b + 1 := Nat.add_div_right _ (Nat.two_pow_pos _)
    omega

/-- A publication leaves the block fresh (R85). -/
theorem State.fresh_publish (s : State) (p b : Nat) (seq : Field) (hb : b < 32) : bitAt ((s.publish p b seq).rd (FRESH p)) b = true := by
  unfold State.publish
  rw [State.rd_wr_self, Nat.mod_eq_of_lt]
  · rw [bitAt_setBit]
  · exact setBit_lt (State.rd_lt _ _) hb

/-- An event joins the intake or is lost (R509). -/
theorem State.silt_records (s : State) (c p0 p1 p2 p3 : Nat) : Records c p0 p1 p2 p3 s (s.silt c p0 p1 p2 p3) := by
  unfold Records State.silt
  split
  · rfl
  · simp

/-- A notice that was raised is set. -/
theorem State.noted_notice (s : State) (n : Notice) (h : n.bit < 32) : Noted n (s.notice n) := by
  unfold Noted; rw [show _ = _ from State.raises_notice s n h, bitAt_setBit]

/-- A notice stays set where its word reads as before. -/
theorem Noted.congr {n : Notice} {s t : State} (h : Noted n s) (k : t.rd (NOTE_RAW n.page) = s.rd (NOTE_RAW n.page)) : Noted n t := by
  unfold Noted at *; rw [k]; exact h

/-- An event for Silt leaves the start-up alone. -/
@[simp] theorem State.silt_startup (s : State) (c p0 p1 p2 p3 : Nat) : (s.silt c p0 p1 p2 p3).startup = s.startup := by
  unfold State.silt; split <;> simp

/-- An event for Silt leaves the modes alone. -/
@[simp] theorem State.silt_modes (s : State) (c p0 p1 p2 p3 : Nat) : (s.silt c p0 p1 p2 p3).modes = s.modes := by
  unfold State.silt; split <;> simp

/-- An event for Silt leaves the mode requests alone. -/
@[simp] theorem State.silt_modeReqs (s : State) (c p0 p1 p2 p3 : Nat) : (s.silt c p0 p1 p2 p3).modeReqs = s.modeReqs := by
  unfold State.silt; split <;> simp

/-- A notice leaves the calendar alone. -/
@[simp] theorem State.notice_calNow (s : State) (n : Notice) : (s.notice n).cal = s.cal := by simp
end Sys2Proof.Machine
end

