-- ==== Sys2Proof/Laws/Keep.lean ====
section
/-! SUPPORT. What every operation of the model keeps: the queue of commands, the free values already drawn, the effects already
sent, the invariant, and every part of the state outside those it touches. The other Keep files show it of each operation. -/

namespace Sys2Proof.Machine

/-- The number of a part: its place in the masks below. -/
def partCode : Part → Nat
  | .windows => 0
  | .sent => 1
  | .draws => 2
  | .modes => 3
  | .modeReqs => 4
  | .modeWaiting => 5
  | .startup => 6
  | .deferred => 7
  | .lrp => 8
  | .pcie => 9
  | .time => 10
  | .cal => 11
  | .slqUp => 12
  | .slqDown => 13
  | .mac => 14
  | .spr => 15
  | .ntbBad => 16
  | .drf => 17
  | .sch => 18
  | .tmp => 19
  | .dpt => 20
  | .dal => 21
  | .emu => 22
  | .emur => 23
  | .swf => 24
  | .hdm => 25
  | .clm => 26
  | .hpn => 27
  | .tpr => 28
  | .siv => 29
  | .grg => 30
  | .mrl => 31
  | .siltIntake => 32
  | .siltLog => 33
  | .domains => 34
  | .page p => 40 + p

/-- The place of a field's page in the masks. -/
def Field.slot (f : Field) : Nat := 40 + f.page

/-- The parts of the mask m are among those that T holds for. -/
def Sub (m : Nat) (T : Nat → Prop) : Prop := ∀ i, m.testBit i = true → T i

theorem Sub.bit {m i : Nat} {T : Nat → Prop} (hp : Sub m T) (h : m.testBit i = true) : T i := hp i h
theorem Sub.bitEq {m i j : Nat} {T : Nat → Prop} (hp : Sub m T) (e : i = j) (h : m.testBit j = true) : T i := e ▸ hp j h
theorem Sub.trans {m n : Nat} {T : Nat → Prop} (hp : Sub n T) (h : m &&& n = m) : Sub m T := fun i hi =>
  hp i (by rw [← h, Nat.testBit_and, Bool.and_eq_true] at hi; exact hi.2)
theorem Sub.all {m : Nat} {T : Nat → Prop} (hp : ∀ i, T i) : Sub m T := fun i _ => hp i

/-- The state t is reached from s by touching the parts T alone: the queue is the same, no free value is drawn again, what has left
the module stands, the invariant is kept, and so is every other part. -/
structure Kept (T : Nat → Prop) (s t : State) : Prop where
  pend : t.pending = s.pending
  draws : s.draws ≤ t.draws
  emitted : s.emitted <+: t.emitted
  inv : Invariant s → Invariant t
  frame : ∀ q : Part, ¬ T (partCode q) → q.same s t

variable {T : Nat → Prop} {s₀ s t : State}

theorem Part.same_refl (q : Part) (s : State) : q.same s s := by
  cases q <;> first | rfl | exact fun _ _ => rfl

theorem Part.same_trans {q : Part} {s t u : State} (h : q.same s t) (k : q.same t u) : q.same s u := by
  cases q <;> first | exact Eq.trans k h | exact fun f hf => (k f hf).trans (h f hf)

/-- A state keeps of itself. -/
theorem Kept.refl (s : State) : Kept T s s :=
  ⟨rfl, le_refl _, List.prefix_refl _, id, fun q _ => Part.same_refl q s⟩

theorem Kept.cut (h : Kept T s₀ s) (k : Kept T s₀ s → Kept T s₀ t) : Kept T s₀ t := k h

theorem Kept.trans (h : Kept T s₀ s) (k : Kept T s t) : Kept T s₀ t :=
  ⟨k.pend.trans h.pend, h.draws.trans k.draws, h.emitted.trans k.emitted, fun i => k.inv (h.inv i),
   fun q hq => Part.same_trans (h.frame q hq) (k.frame q hq)⟩

/-- What is touched is the parts of a list: every other part is the same. -/
theorem Kept.unchanged {l : List Part} (h : Kept (fun i => i ∈ l.map partCode) s t) : Unchanged l s t :=
  ⟨h.pend, fun q hq => h.frame q fun hm => hq (by
    obtain ⟨r, hr, e⟩ := List.mem_map.1 hm
    have : r = q := by
      cases r <;> cases q <;> simp [partCode] at e ⊢ <;> omega
    exact this ▸ hr)⟩

/-- A mask whose parts are those of a list. -/
theorem Sub.ofList {m : Nat} {l : List Part} (h : m = (l.map partCode).foldr (fun i n => n ||| 2 ^ i) 0) :
    Sub m (fun i => i ∈ l.map partCode) := by
  subst h
  intro i hi
  generalize l.map partCode = l at hi ⊢
  induction l with
  | nil => simp at hi
  | cons a t ih =>
    rw [List.foldr_cons, Nat.testBit_or, Bool.or_eq_true, Nat.testBit_two_pow, decide_eq_true_eq] at hi
    rcases hi with hi | hi
    · exact List.mem_cons_of_mem _ (ih hi)
    · exact hi ▸ List.mem_cons_self

/-- A change of the working state of units other than the MAC's two stores. -/
theorem Kept.mkOther (h : Kept T s₀ s) {modes_ : Modes} {modeReqs_ : List ModeReq} {modeWaiting_ : List ModeReq} {startup_ : Startup} {domains_ : List DomainState} {deferred_ : List (Port × PortWrite)} {time_ : TimeUnit} {cal_ : Calendar} {slqUp_ : List SlipQueue} {slqDown_ : List SlipQueue} {mac_ : MacUnit} {spr_ : SprUnit} {ntbBad_ : List Nat} {drf_ : DrfUnit} {sch_ : SchUnit} {tmp_ : TmpUnit} {dpt_ : DptUnit} {dal_ : DalUnit} {emu_ : EmuUnit} {emur_ : EmurUnit} {swf_ : SwfUnit} {hdm_ : HdmUnit} {clm_ : ClmUnit} {hpn_ : HpnUnit} {tpr_ : TprUnit} {siv_ : SivUnit} {grg_ : GrgUnit} {mrl_ : MrlUnit}
    (hf : mac_.frameBuf = s.mac.frameBuf) (hq : mac_.queue = s.mac.queue)
    (hs : ∀ q : Part, ¬ T (partCode q) → q.same s ⟨s.pending, s.regs, s.win, s.emitted, s.draws, modes_, modeReqs_, modeWaiting_, startup_, domains_, deferred_, s.lrp, s.pcie, time_, cal_, slqUp_, slqDown_, mac_, spr_, ntbBad_, drf_, sch_, tmp_, dpt_, dal_, emu_, emur_, swf_, hdm_, clm_, hpn_, tpr_, siv_, grg_, mrl_, s.siltIntake, s.siltLog⟩) :
    Kept T s₀ ⟨s.pending, s.regs, s.win, s.emitted, s.draws, modes_, modeReqs_, modeWaiting_, startup_, domains_, deferred_, s.lrp, s.pcie, time_, cal_, slqUp_, slqDown_, mac_, spr_, ntbBad_, drf_, sch_, tmp_, dpt_, dal_, emu_, emur_, swf_, hdm_, clm_, hpn_, tpr_, siv_, grg_, mrl_, s.siltIntake, s.siltLog⟩ :=
  h.trans ⟨rfl, le_refl _, List.prefix_refl _, fun v =>
    ⟨v.regs, v.win, v.intake, v.log, v.lrp, v.pcie, hf ▸ v.frames, hq ▸ v.queue⟩, hs⟩

/-- A change that leaves the queue, the draws and the effects alone and keeps the invariant. -/
theorem Kept.of (h : Kept T s₀ s) (hp : t.pending = s.pending) (hd : s.draws ≤ t.draws) (he : s.emitted <+: t.emitted)
    (hi : Invariant s → Invariant t) (hs : ∀ q : Part, ¬ T (partCode q) → q.same s t) : Kept T s₀ t :=
  h.trans ⟨hp, hd, he, hi, hs⟩

theorem Kept.foldl {α : Type} (f : State → α → State) (l : List α) (h : Kept T s₀ s)
    (hf : ∀ s x, Kept T s₀ s → Kept T s₀ (f s x)) : Kept T s₀ (l.foldl f s) := by
  induction l generalizing s with
  | nil => exact h
  | cons x t ih => exact ih (hf _ _ h)

theorem Kept.iterate (f : State → State) (n : Nat) (h : Kept T s₀ s)
    (hf : ∀ s, Kept T s₀ s → Kept T s₀ (f s)) : Kept T s₀ (iterate f n s) := by
  induction n generalizing s with
  | zero => exact h
  | succ n ih => exact ih (hf _ h)

/-- The page of a notice's register. -/
theorem NOTE_RAW_slot (p : Nat) : (NOTE_RAW p).slot = 40 + p := by simp only [Field.slot, Field.page, Field.key]; omega
theorem NOTE_EN_slot (p : Nat) : (NOTE_EN p).slot = 40 + p := by simp only [Field.slot, Field.page, Field.key]; omega
theorem SEQ_COUNT_slot (p : Nat) : (SEQ_COUNT p).slot = 40 + p := by simp only [Field.slot, Field.page, Field.key]; omega
theorem FRESH_slot (p : Nat) : (FRESH p).slot = 40 + p := by simp only [Field.slot, Field.page, Field.key]; omega
theorem TXN_COMMITS_slot (p : Nat) : (TXN_COMMITS p).slot = 40 + p := by simp only [Field.slot, Field.page, Field.key]; omega

end Sys2Proof.Machine
end

