-- ==== Sys2Proof/Laws/Slots.lean ====
section
/-! SUPPORT. The page of every register field that has an index. -/

namespace Sys2Proof.Machine

variable {T : Nat → Prop}

/-- A field of one of the six port pages. -/
theorem Sub.etp {m i : Nat} {T : Nat → Prop} (hp : Sub m T) (e : 57 ≤ i ∧ i < 63) (h : m &&& 0x7E00000000000000 = 0x7E00000000000000) : T i := by
  refine hp _ ?_
  have hb : Nat.testBit 0x7E00000000000000 i = true := by
    obtain ⟨h1, h2⟩ := e
    interval_cases i <;> rfl
  rw [← h, Nat.testBit_and, Bool.and_eq_true] at hb
  exact hb.1

theorem SLQ_U_CFG_CELLS_slot (q : Nat) : (SLQ_U_CFG_CELLS q).slot = 66 := by simp only [Field.slot, Field.page, Field.key]; omega
theorem SLQ_D_CFG_CELLS_slot (q : Nat) : (SLQ_D_CFG_CELLS q).slot = 66 := by simp only [Field.slot, Field.page, Field.key]; omega
theorem SLQ_U_CFG_POLICY_slot (q : Nat) : (SLQ_U_CFG_POLICY q).slot = 66 := by simp only [Field.slot, Field.page, Field.key]; omega
theorem SLQ_D_CFG_POLICY_slot (q : Nat) : (SLQ_D_CFG_POLICY q).slot = 66 := by simp only [Field.slot, Field.page, Field.key]; omega
theorem SLQ_U_WM_WMARK_slot (q : Nat) : (SLQ_U_WM_WMARK q).slot = 66 := by simp only [Field.slot, Field.page, Field.key]; omega
theorem SLQ_D_WM_WMARK_slot (q : Nat) : (SLQ_D_WM_WMARK q).slot = 66 := by simp only [Field.slot, Field.page, Field.key]; omega
theorem SLQ_U_WM_TIMEOUT_slot (q : Nat) : (SLQ_U_WM_TIMEOUT q).slot = 66 := by simp only [Field.slot, Field.page, Field.key]; omega
theorem SLQ_D_WM_TIMEOUT_slot (q : Nat) : (SLQ_D_WM_TIMEOUT q).slot = 66 := by simp only [Field.slot, Field.page, Field.key]; omega
theorem SLQ_U_LEVEL_LEVEL_MAX_slot (q : Nat) : (SLQ_U_LEVEL_LEVEL_MAX q).slot = 66 := by simp only [Field.slot, Field.page, Field.key]; omega
theorem SLQ_D_LEVEL_LEVEL_MAX_slot (q : Nat) : (SLQ_D_LEVEL_LEVEL_MAX q).slot = 66 := by simp only [Field.slot, Field.page, Field.key]; omega
theorem SLQ_U_STAT_WM_slot (q : Nat) : (SLQ_U_STAT_WM q).slot = 66 := by simp only [Field.slot, Field.page, Field.key]; omega
theorem SLQ_D_STAT_WM_slot (q : Nat) : (SLQ_D_STAT_WM q).slot = 66 := by simp only [Field.slot, Field.page, Field.key]; omega
theorem SLQ_U_STAT_TO_slot (q : Nat) : (SLQ_U_STAT_TO q).slot = 66 := by simp only [Field.slot, Field.page, Field.key]; omega
theorem SLQ_D_STAT_TO_slot (q : Nat) : (SLQ_D_STAT_TO q).slot = 66 := by simp only [Field.slot, Field.page, Field.key]; omega
theorem SLQ_U_STAT_DROPPED_slot (q : Nat) : (SLQ_U_STAT_DROPPED q).slot = 66 := by simp only [Field.slot, Field.page, Field.key]; omega
theorem SLQ_D_STAT_DROPPED_slot (q : Nat) : (SLQ_D_STAT_DROPPED q).slot = 66 := by simp only [Field.slot, Field.page, Field.key]; omega
theorem SLQ_U_STAT_CORRUPT_slot (q : Nat) : (SLQ_U_STAT_CORRUPT q).slot = 66 := by simp only [Field.slot, Field.page, Field.key]; omega
theorem SLQ_D_STAT_CORRUPT_slot (q : Nat) : (SLQ_D_STAT_CORRUPT q).slot = 66 := by simp only [Field.slot, Field.page, Field.key]; omega
theorem SLQ_U_DROPS_slot (q : Nat) : (SLQ_U_DROPS q).slot = 66 := by simp only [Field.slot, Field.page, Field.key]; omega
theorem SLQ_D_DROPS_slot (q : Nat) : (SLQ_D_DROPS q).slot = 66 := by simp only [Field.slot, Field.page, Field.key]; omega
theorem MSIX_ADDR_LO_slot (v : Nat) : (MSIX_ADDR_LO v).slot = 41 := by simp only [Field.slot, Field.page, Field.key]; omega
theorem MSIX_ADDR_HI_slot (v : Nat) : (MSIX_ADDR_HI v).slot = 41 := by simp only [Field.slot, Field.page, Field.key]; omega
theorem MSIX_DATA_slot (v : Nat) : (MSIX_DATA v).slot = 41 := by simp only [Field.slot, Field.page, Field.key]; omega
theorem MSIX_MASK_slot (v : Nat) : (MSIX_MASK v).slot = 41 := by simp only [Field.slot, Field.page, Field.key]; omega
theorem qCells_slot (q : Nat) : (qCells q).slot = 66 := by
  unfold qCells qField
  split
  · exact SLQ_U_CFG_CELLS_slot _
  · exact SLQ_D_CFG_CELLS_slot _
theorem qPolicy_slot (q : Nat) : (qPolicy q).slot = 66 := by
  unfold qPolicy qField
  split
  · exact SLQ_U_CFG_POLICY_slot _
  · exact SLQ_D_CFG_POLICY_slot _
theorem qWmark_slot (q : Nat) : (qWmark q).slot = 66 := by
  unfold qWmark qField
  split
  · exact SLQ_U_WM_WMARK_slot _
  · exact SLQ_D_WM_WMARK_slot _
theorem qTimeout_slot (q : Nat) : (qTimeout q).slot = 66 := by
  unfold qTimeout qField
  split
  · exact SLQ_U_WM_TIMEOUT_slot _
  · exact SLQ_D_WM_TIMEOUT_slot _
theorem qMax_slot (q : Nat) : (qMax q).slot = 66 := by
  unfold qMax qField
  split
  · exact SLQ_U_LEVEL_LEVEL_MAX_slot _
  · exact SLQ_D_LEVEL_LEVEL_MAX_slot _
theorem qStatWm_slot (q : Nat) : (qStatWm q).slot = 66 := by
  unfold qStatWm qField
  split
  · exact SLQ_U_STAT_WM_slot _
  · exact SLQ_D_STAT_WM_slot _
theorem qStatTo_slot (q : Nat) : (qStatTo q).slot = 66 := by
  unfold qStatTo qField
  split
  · exact SLQ_U_STAT_TO_slot _
  · exact SLQ_D_STAT_TO_slot _
theorem qStatDropped_slot (q : Nat) : (qStatDropped q).slot = 66 := by
  unfold qStatDropped qField
  split
  · exact SLQ_U_STAT_DROPPED_slot _
  · exact SLQ_D_STAT_DROPPED_slot _
theorem qStatCorrupt_slot (q : Nat) : (qStatCorrupt q).slot = 66 := by
  unfold qStatCorrupt qField
  split
  · exact SLQ_U_STAT_CORRUPT_slot _
  · exact SLQ_D_STAT_CORRUPT_slot _
theorem qDrops_slot (q : Nat) : (qDrops q).slot = 66 := by
  unfold qDrops qField
  split
  · exact SLQ_U_DROPS_slot _
  · exact SLQ_D_DROPS_slot _
theorem almNotice_slot (k : Nat) : 40 + (almNotice k).page = 65 := by
  unfold almNotice
  try dsimp only
  repeat' split
  all_goals first | rfl
theorem paField_slot (ant : Nat) : (paField ant).slot = 42 := by
  unfold paField
  try dsimp only
  repeat' split
  all_goals first | rfl
theorem agcField_slot (k : Nat) : (agcField k).slot = 42 := by
  unfold agcField
  try dsimp only
  repeat' split
  all_goals first | rfl
theorem clipNotice_slot (k : Nat) : 40 + (clipNotice k).page = 42 := by
  unfold clipNotice
  try dsimp only
  repeat' split
  all_goals first | rfl
theorem emuSeq_slot (c : Nat) : (emuSeq c).slot = 53 := by
  unfold emuSeq
  try dsimp only
  repeat' split
  all_goals first | rfl | (simp only [Field.slot, Field.page, Field.key]; omega)
theorem fcField_slot (key : Nat) : (fcField key).slot = 44 := by
  unfold fcField
  try dsimp only
  repeat' split
  all_goals first | rfl
theorem msixField_slot (off : Nat) : (msixField off).slot = 41 := by
  unfold msixField
  dsimp only
  split
  · exact MSIX_ADDR_LO_slot _
  split
  · exact MSIX_ADDR_HI_slot _
  split
  · exact MSIX_DATA_slot _
  · exact MSIX_MASK_slot _

end Sys2Proof.Machine
end

