-- ==== Sys2Proof/Laws/KeepOps.lean ====
section
/-! SUPPORT. What the operations of Machine/Ops.lean keep. -/

set_option Elab.async false
set_option linter.unusedTactic false
set_option linter.unreachableTactic false
set_option linter.unusedVariables false

namespace Sys2Proof.Machine

variable {T : Nat → Prop} {s₀ : State}

theorem State.wr_kept {s : State} (h_s : Kept T s₀ s) (f : Field) (v : Nat) (hp : Sub 0x0 T := by first | exact Sub.trans (by assumption) rfl | exact Sub.all (by assumption)) (hf_f : T f.slot := by first | (refine Sub.bit (by assumption) ?_; rfl) | assumption) : Kept T s₀ (State.wr s f v) :=
  h_s.of rfl (le_refl _) (List.prefix_refl _)
    (fun k => ⟨Regs.rising_put f v k.regs, k.win, k.intake, k.log, k.lrp, k.pcie, k.frames, k.queue⟩)
    (fun q hq => by
      cases q <;> first
        | exact rfl
        | exact fun g hg => State.rd_wr_ne _ _ fun e => hq (by
            have : T f.slot := hf_f
            rwa [Field.slot, Field.page, ← e, ← Field.page, hg] at this))

theorem State.wrB_kept {s : State} (h_s : Kept T s₀ s) (f : Field) (b : Bool) (hp : Sub 0x0 T) (hf_f : T f.slot) : Kept T s₀ (State.wrB s f b) := by
  unfold State.wrB
  try dsimp only
  repeat' first
    | (with_reducible assumption)
    | ((with_reducible refine Sub.trans hp ?_); rfl)
    | ((with_reducible refine Sub.bit hp ?_); decide)
    | (with_reducible apply State.wr_kept)
    | split
    | (intro _)
    | (dsimp only)

theorem State.wrS_kept {s : State} (h_s : Kept T s₀ s) (f : Field) (i : Int) (hp : Sub 0x0 T) (hf_f : T f.slot) : Kept T s₀ (State.wrS s f i) := by
  unfold State.wrS
  try dsimp only
  repeat' first
    | (with_reducible assumption)
    | ((with_reducible refine Sub.trans hp ?_); rfl)
    | ((with_reducible refine Sub.bit hp ?_); decide)
    | (with_reducible apply State.wr_kept)
    | (intro _)
    | (dsimp only)

theorem State.count_kept {s : State} (h_s : Kept T s₀ s) (f : Field) (d : Nat) (hp : Sub 0x0 T := by first | exact Sub.trans (by assumption) rfl | exact Sub.all (by assumption)) (hf_f : T f.slot := by first | (refine Sub.bit (by assumption) ?_; rfl) | assumption) : Kept T s₀ (State.count s f d) := by
  unfold State.count
  try dsimp only
  repeat' first
    | (with_reducible assumption)
    | ((with_reducible refine Sub.trans hp ?_); rfl)
    | ((with_reducible refine Sub.bit hp ?_); decide)
    | (with_reducible apply State.wr_kept)
    | (intro _)
    | (dsimp only)

theorem State.countSat_kept {s : State} (h_s : Kept T s₀ s) (f : Field) (d : Nat) (hp : Sub 0x0 T := by first | exact Sub.trans (by assumption) rfl | exact Sub.all (by assumption)) (hf_f : T f.slot := by first | (refine Sub.bit (by assumption) ?_; rfl) | assumption) : Kept T s₀ (State.countSat s f d) := by
  unfold State.countSat
  try dsimp only
  repeat' first
    | (with_reducible assumption)
    | ((with_reducible refine Sub.trans hp ?_); rfl)
    | ((with_reducible refine Sub.bit hp ?_); decide)
    | (with_reducible apply State.wr_kept)
    | (intro _)
    | (dsimp only)

theorem State.wrAll_kept {s : State} (h_s : Kept T s₀ s) (l : List (Field × Nat)) (hl : ∀ c ∈ l, T c.1.slot) (hp : Sub 0x0 T := by first | exact Sub.trans (by assumption) rfl | exact Sub.all (by assumption)) : Kept T s₀ (s.wrAll l) := by
  induction l generalizing s with
  | nil => exact h_s
  | cons x t ih => exact ih (State.wr_kept h_s _ _ (hf_f := hl _ List.mem_cons_self) (hp := fun i hi => by simp at hi)) fun c hc => hl c (List.mem_cons_of_mem _ hc)

theorem State.wrAll_cons_kept {s : State} {f : Field} {v : Nat} {l : List (Field × Nat)} (h : Kept T s₀ ((s.wr f v).wrAll l)) :
    Kept T s₀ (s.wrAll ((f, v) :: l)) := h

theorem State.wrAll_nil_kept {s : State} (h : Kept T s₀ s) : Kept T s₀ (s.wrAll []) := h

theorem State.forgetRegs_kept {s : State} (h_s : Kept T s₀ s) (keep : Nat → Bool) (hp : ∀ i, T i) : Kept T s₀ (State.forgetRegs s keep) :=
  h_s.of rfl (le_refl _) (List.prefix_refl _) (fun k => ⟨Sparse.rising_filter _ k.regs, k.win, k.intake, k.log, k.lrp, k.pcie, k.frames, k.queue⟩) (fun q hq => absurd (hp _) hq)

theorem State.emit_kept {s : State} (h_s : Kept T s₀ s) (e : Emission) (hp : Sub 0x2 T := by first | exact Sub.trans (by assumption) rfl | exact Sub.all (by assumption)) : Kept T s₀ (State.emit s e) :=
  h_s.of rfl (le_refl _) (List.prefix_append _ _)
    (fun k => ⟨k.regs, k.win, k.intake, k.log, k.lrp, k.pcie, k.frames, k.queue⟩) (fun q hq => by cases q <;> first | exact rfl | exact fun f _ => State.rd_congr rfl f | exact absurd (Sub.bit hp rfl) hq)

theorem State.msixSend_kept {s : State} (h_s : Kept T s₀ s) (v : Nat) (hp : Sub 0x20000000002 T) : Kept T s₀ (State.msixSend s v) := by
  unfold State.msixSend
  try dsimp only
  repeat' first
    | (with_reducible assumption)
    | ((with_reducible refine Sub.trans hp ?_); rfl)
    | ((with_reducible refine Sub.bit hp ?_); decide)
    | ((with_reducible refine Sub.bitEq hp (j := 41) ?_ ?_) <;> [(first | (simp only [Field.slot, Field.page, Field.key]; omega) | rfl); rfl])
    | (with_reducible apply State.emit_kept)
    | (with_reducible apply State.wr_kept)
    | split
    | (intro _)
    | (dsimp only)

theorem State.msixRetry_kept {s : State} (h_s : Kept T s₀ s) (v : Nat) (hp : Sub 0x20000000002 T) : Kept T s₀ (State.msixRetry s v) := by
  unfold State.msixRetry
  try dsimp only
  repeat' first
    | (with_reducible assumption)
    | ((with_reducible refine Sub.trans hp ?_); rfl)
    | ((with_reducible refine Sub.bit hp ?_); decide)
    | (with_reducible apply State.wr_kept)
    | (with_reducible apply State.msixSend_kept)
    | split
    | (lift_lets; intro x; refine Kept.cut (s := x) ?_ (fun hx => ?_) <;> [subst x; clear_value x])
    | (intro x; refine Kept.cut (s := x) ?_ (fun hx => ?_) <;> [subst x; clear_value x])
    | (lift_lets; intro x; subst x)
    | (intro x; subst x)
    | (intro _)
    | (dsimp only)

theorem State.vectorEdge_kept {s : State} (h_s : Kept T s₀ s) (v : Nat) (before : Bool) (hp : Sub 0x20000000002 T) : Kept T s₀ (State.vectorEdge s v before) := by
  unfold State.vectorEdge
  try dsimp only
  repeat' first
    | (with_reducible assumption)
    | ((with_reducible refine Sub.trans hp ?_); rfl)
    | ((with_reducible refine Sub.bit hp ?_); decide)
    | (with_reducible apply State.msixSend_kept)
    | split
    | (intro _)
    | (dsimp only)

theorem State.notice_kept {s : State} (h_s : Kept T s₀ s) (n : Notice) (hp : Sub 0x20000000002 T := by first | exact Sub.trans (by assumption) rfl | exact Sub.all (by assumption)) (hf_n : T (40 + n.page) := by first | (refine Sub.bit (by assumption) ?_; rfl) | assumption) : Kept T s₀ (State.notice s n) := by
  unfold State.notice
  try dsimp only
  repeat' first
    | (with_reducible assumption)
    | ((with_reducible refine Sub.trans hp ?_); rfl)
    | ((with_reducible refine Sub.bit hp ?_); decide)
    | (rw [NOTE_RAW_slot]; assumption)
    | (with_reducible apply State.wr_kept)
    | (with_reducible apply State.vectorEdge_kept)
    | split
    | (lift_lets; intro x; refine Kept.cut (s := x) ?_ (fun hx => ?_) <;> [subst x; clear_value x])
    | (intro x; refine Kept.cut (s := x) ?_ (fun hx => ?_) <;> [subst x; clear_value x])
    | (lift_lets; intro x; subst x)
    | (intro x; subst x)
    | (intro _)
    | (dsimp only)

theorem State.notices_kept {s : State} (h_s : Kept T s₀ s) (l : List Notice) (hp : Sub 0x20000000002 T := by first | exact Sub.trans (by assumption) rfl | exact Sub.all (by assumption)) (hl : ∀ n ∈ l, T (40 + n.page)) : Kept T s₀ (s.notices l) := by
  induction l generalizing s with
  | nil => exact h_s
  | cons x t ih => exact ih (State.notice_kept h_s _ (hf_n := hl _ List.mem_cons_self)) fun c hc => hl c (List.mem_cons_of_mem _ hc)

theorem State.notices_cons_kept {s : State} {n : Notice} {l : List Notice} (h : Kept T s₀ ((s.notice n).notices l)) :
    Kept T s₀ (s.notices (n :: l)) := h

theorem State.notices_nil_kept {s : State} (h : Kept T s₀ s) : Kept T s₀ (s.notices []) := h

theorem State.noticeIf_kept {s : State} (h_s : Kept T s₀ s) (b : Bool) (n : Notice) (hp : Sub 0x20000000002 T := by first | exact Sub.trans (by assumption) rfl | exact Sub.all (by assumption)) (hf_n : T (40 + n.page) := by first | (refine Sub.bit (by assumption) ?_; rfl) | assumption) : Kept T s₀ (State.noticeIf s b n) := by
  unfold State.noticeIf
  try dsimp only
  repeat' first
    | (with_reducible assumption)
    | ((with_reducible refine Sub.trans hp ?_); rfl)
    | ((with_reducible refine Sub.bit hp ?_); decide)
    | (with_reducible apply State.notice_kept)
    | split
    | (intro _)
    | (dsimp only)

theorem State.publish_kept {s : State} (h_s : Kept T s₀ s) (page : Nat) (b : Nat) (seq : Field) (hp : Sub 0x0 T) (hf_seq : T seq.slot) (hf_page : T (40 + page)) : Kept T s₀ (State.publish s page b seq) := by
  unfold State.publish
  try dsimp only
  repeat' first
    | (with_reducible assumption)
    | ((with_reducible refine Sub.trans hp ?_); rfl)
    | ((with_reducible refine Sub.bit hp ?_); decide)
    | (rw [FRESH_slot]; assumption)
    | (with_reducible apply State.wr_kept)
    | (intro _)
    | (dsimp only)

theorem State.setBytes_kept {s : State} (h_s : Kept T s₀ s) (page : Nat) (off : Nat) (l : List Nat) (hp : Sub 0x1 T) : Kept T s₀ (State.setBytes s page off l) :=
  h_s.of rfl (le_refl _) (List.prefix_refl _) (fun k => ⟨k.regs, Memory.wf_writeAll _ _ k.win, k.intake, k.log, k.lrp, k.pcie, k.frames, k.queue⟩) (fun q hq => by cases q <;> first | exact rfl | exact fun f _ => State.rd_congr rfl f | exact absurd (Sub.bit hp rfl) hq)

theorem State.setN_kept {s : State} (h_s : Kept T s₀ s) (page : Nat) (off : Nat) (n : Nat) (v : Nat) (hp : Sub 0x1 T) : Kept T s₀ (State.setN s page off n v) := by
  unfold State.setN
  try dsimp only
  repeat' first
    | (with_reducible assumption)
    | ((with_reducible refine Sub.trans hp ?_); rfl)
    | ((with_reducible refine Sub.bit hp ?_); decide)
    | (with_reducible apply State.setBytes_kept)
    | (intro _)
    | (dsimp only)

theorem State.draw_kept {s : State} (h_s : Kept T s₀ s)  (hp : Sub 0x4 T := by first | exact Sub.trans (by assumption) rfl | exact Sub.all (by assumption)) : Kept T s₀ (State.draw s).2 :=
  h_s.of rfl (Nat.le_succ _) (List.prefix_refl _)
    (fun k => ⟨k.regs, k.win, k.intake, k.log, k.lrp, k.pcie, k.frames, k.queue⟩) (fun q hq => by cases q <;> first | exact rfl | exact fun f _ => State.rd_congr rfl f | exact absurd (Sub.bit hp rfl) hq)

theorem State.draw_pair {s : State} {v_ : Nat} {t_ : State} (q_ : (State.draw s) = (v_, t_)) (h_s : Kept T s₀ s) (hp : Sub 0x4 T := by first | exact Sub.trans (by assumption) rfl | exact Sub.all (by assumption)) : Kept T s₀ t_ := by
  have z := State.draw_kept h_s  (hp := hp)
  rw [q_] at z
  exact z

theorem State.silt_kept {s : State} (h_s : Kept T s₀ s) (code : Nat) (p0 : Nat) (p1 : Nat) (p2 : Nat) (p3 : Nat) (hp : Sub 0x400000020100000002 T := by first | exact Sub.trans (by assumption) rfl | exact Sub.all (by assumption)) : Kept T s₀ (State.silt s code p0 p1 p2 p3) := by
  unfold State.silt
  split
  · exact h_s.of rfl (le_refl _) (List.prefix_refl _)
      (fun k => ⟨k.regs, k.win, by simp; omega, k.log, k.lrp, k.pcie, k.frames, k.queue⟩) (fun q hq => by cases q <;> first | exact rfl | exact fun f _ => State.rd_congr rfl f | exact absurd (Sub.bit hp rfl) hq)
  · exact State.notice_kept (State.countSat_kept h_s _ _) _

theorem State.wakePage_kept {s : State} (h_s : Kept T s₀ s) (p : Nat) (hp : Sub 0x400000000 T) : Kept T s₀ (State.wakePage s p) := by
  unfold State.wakePage
  try dsimp only
  repeat' first
    | (with_reducible assumption)
    | ((with_reducible refine Sub.trans hp ?_); rfl)
    | ((with_reducible refine Sub.bit hp ?_); decide)
    | (fail_if_no_progress ((with_reducible refine Kept.mkOther ?_ ?_ ?_ (fun q hq => ?_)) <;> [skip; exact rfl; exact rfl; (cases q <;> first | with_reducible exact rfl | exact fun f _ => State.rd_congr rfl f | exact absurd (Sub.bit hp rfl) hq)]))
    | (intro _)
    | (dsimp only)

theorem State.wakeLink_kept {s : State} (h_s : Kept T s₀ s)  (hp : Sub 0x400000000 T) : Kept T s₀ (State.wakeLink s) := by
  unfold State.wakeLink
  try dsimp only
  repeat' first
    | (with_reducible assumption)
    | ((with_reducible refine Sub.trans hp ?_); rfl)
    | ((with_reducible refine Sub.bit hp ?_); decide)
    | (fail_if_no_progress ((with_reducible refine Kept.mkOther ?_ ?_ ?_ (fun q hq => ?_)) <;> [skip; exact rfl; exact rfl; (cases q <;> first | with_reducible exact rfl | exact fun f _ => State.rd_congr rfl f | exact absurd (Sub.bit hp rfl) hq)]))
    | (intro _)
    | (dsimp only)

theorem State.wakeSys_kept {s : State} (h_s : Kept T s₀ s)  (hp : Sub 0x400000000 T) : Kept T s₀ (State.wakeSys s) := by
  unfold State.wakeSys
  try dsimp only
  repeat' first
    | (with_reducible assumption)
    | ((with_reducible refine Sub.trans hp ?_); rfl)
    | ((with_reducible refine Sub.bit hp ?_); decide)
    | (fail_if_no_progress ((with_reducible refine Kept.mkOther ?_ ?_ ?_ (fun q hq => ?_)) <;> [skip; exact rfl; exact rfl; (cases q <;> first | with_reducible exact rfl | exact fun f _ => State.rd_congr rfl f | exact absurd (Sub.bit hp rfl) hq)]))
    | (intro _)
    | (dsimp only)

theorem State.working_kept {s : State} (h_s : Kept T s₀ s) (p : Nat) (k : State → State) (h_k : ∀ s, Kept T s₀ s → Kept T s₀ (k s)) (hp : Sub 0x400000000 T) : Kept T s₀ (State.working s p k) := by
  unfold State.working
  try dsimp only
  repeat' first
    | (with_reducible assumption)
    | ((with_reducible refine Sub.trans hp ?_); rfl)
    | ((with_reducible refine Sub.bit hp ?_); decide)
    | (with_reducible apply State.wakePage_kept)
    | (with_reducible apply h_k)
    | split
    | (intro _)
    | (dsimp only)

theorem State.whenLive_kept {s : State} (h_s : Kept T s₀ s) (p : Nat) (k : State → State) (h_k : ∀ s, Kept T s₀ s → Kept T s₀ (k s)) (hp : Sub 0x0 T) : Kept T s₀ (State.whenLive s p k) := by
  unfold State.whenLive
  try dsimp only
  repeat' first
    | (with_reducible assumption)
    | ((with_reducible refine Sub.trans hp ?_); rfl)
    | ((with_reducible refine Sub.bit hp ?_); decide)
    | (with_reducible apply h_k)
    | split
    | (intro _)
    | (dsimp only)

theorem State.whenSup_kept {s : State} (h_s : Kept T s₀ s) (k : State → State) (h_k : ∀ s, Kept T s₀ s → Kept T s₀ (k s)) (hp : Sub 0x0 T) : Kept T s₀ (State.whenSup s k) := by
  unfold State.whenSup
  try dsimp only
  repeat' first
    | (with_reducible assumption)
    | ((with_reducible refine Sub.trans hp ?_); rfl)
    | ((with_reducible refine Sub.bit hp ?_); decide)
    | (with_reducible apply h_k)
    | split
    | (intro _)
    | (dsimp only)

theorem State.wakePort_kept {s : State} (h_s : Kept T s₀ s) (port : Port) (hp : Sub 0x400000000 T) : Kept T s₀ (State.wakePort s port) := by
  unfold State.wakePort
  try dsimp only
  repeat' first
    | (with_reducible assumption)
    | ((with_reducible refine Sub.trans hp ?_); rfl)
    | ((with_reducible refine Sub.bit hp ?_); decide)
    | (with_reducible apply State.wakeLink_kept)
    | split
    | (intro _)
    | (dsimp only)

theorem State.setPort_kept {s : State} {r : Port} {w : PortPath}
    (hb : w.posted.length ≤ 64 ∨ w.posted.length ≤ (s.port r).posted.length) (h_s : Kept T s₀ s) (hp : Sub 0x300 T := by first | exact Sub.trans (by assumption) rfl | exact Sub.all (by assumption)) :
    Kept T s₀ (s.setPort r w) := by
  cases r
  · refine h_s.of rfl (le_refl _) (List.prefix_refl _) (fun k => ?_) (fun q hq => by cases q <;> first | exact rfl | exact fun f _ => State.rd_congr rfl f | exact absurd (Sub.bit hp rfl) hq)
    have := k.lrp
    simp only [State.port] at hb
    exact ⟨k.regs, k.win, k.intake, k.log, by simp only [State.setPort]; omega, k.pcie, k.frames, k.queue⟩
  · refine h_s.of rfl (le_refl _) (List.prefix_refl _) (fun k => ?_) (fun q hq => by cases q <;> first | exact rfl | exact fun f _ => State.rd_congr rfl f | exact absurd (Sub.bit hp rfl) hq)
    have := k.pcie
    simp only [State.port] at hb
    exact ⟨k.regs, k.win, k.intake, k.log, k.lrp, by simp only [State.setPort]; omega, k.frames, k.queue⟩

theorem State.setPort_same {s : State} {r : Port} {w : PortPath} (hq : w.posted = (s.port r).posted) (h_s : Kept T s₀ s) (hp : Sub 0x300 T := by first | exact Sub.trans (by assumption) rfl | exact Sub.all (by assumption)) :
    Kept T s₀ (s.setPort r w) :=
  State.setPort_kept (.inr (by rw [hq])) h_s

end Sys2Proof.Machine
end

