-- ==== Sys2Proof/Laws/KeepItg.lean ====
section
/-! SUPPORT. What the operations of Machine/Itg.lean keep. -/

set_option Elab.async false
set_option linter.unusedTactic false
set_option linter.unreachableTactic false
set_option linter.unusedVariables false

namespace Sys2Proof.Machine

variable {T : Nat → Prop} {s₀ : State}

theorem State.itgUncorr_kept {s : State} (h_s : Kept T s₀ s) (m : Nat) (page : Nat) (addr : Nat) (symbol : Nat) (scrub : Bool) (hp : Sub 0x4400000020100000002 T) : Kept T s₀ (State.itgUncorr s m page addr symbol scrub) := by
  unfold State.itgUncorr
  try dsimp only
  repeat' first
    | (with_reducible assumption)
    | ((with_reducible refine Sub.trans hp ?_); rfl)
    | ((with_reducible refine Sub.bit hp ?_); decide)
    | ((with_reducible refine Sub.bitEq hp (j := 74) ?_ ?_) <;> [(first | (simp only [Field.slot, Field.page, Field.key]; omega) | rfl); rfl])
    | (with_reducible apply State.count_kept)
    | (with_reducible refine State.wrAll_nil_kept ?_)
    | (with_reducible refine State.wrAll_cons_kept ?_)
    | (with_reducible refine State.wrAll_kept ?_ _ ?_ ?_)
    | (with_reducible apply State.wr_kept)
    | (with_reducible apply State.publish_kept)
    | (with_reducible apply State.notice_kept)
    | (with_reducible apply State.silt_kept)
    | split
    | (lift_lets; intro x; refine Kept.cut (s := x) ?_ (fun hx => ?_) <;> [subst x; clear_value x])
    | (intro x; refine Kept.cut (s := x) ?_ (fun hx => ?_) <;> [subst x; clear_value x])
    | (lift_lets; intro x; subst x)
    | (intro x; subst x)
    | (intro _)
    | (dsimp only)

theorem State.itgReadError_kept {s : State} (h_s : Kept T s₀ s) (m : Nat) (page : Nat) (hp : Sub 0x4400000020100000006 T := by first | exact Sub.trans (by assumption) rfl | exact Sub.all (by assumption)) : Kept T s₀ (State.itgReadError s m page) := by
  unfold State.itgReadError
  try dsimp only
  repeat' first
    | (with_reducible assumption)
    | ((with_reducible refine Sub.trans hp ?_); rfl)
    | ((with_reducible refine Sub.bit hp ?_); decide)
    | (with_reducible apply State.draw_kept)
    | (with_reducible apply State.draw_pair (by assumption))
    | (with_reducible apply State.itgUncorr_kept)
    | split
    | (lift_lets; intro x; refine Kept.cut (s := x) ?_ (fun hx => ?_) <;> [subst x; clear_value x])
    | (intro x; refine Kept.cut (s := x) ?_ (fun hx => ?_) <;> [subst x; clear_value x])
    | (lift_lets; intro x; subst x)
    | (intro x; subst x)
    | (intro _)
    | (dsimp only)

theorem State.itgCarry_kept {s : State} (h_s : Kept T s₀ s) (receiving : Nat) (sending : Nat) (hp : Sub 0x4400000020100000002 T) : Kept T s₀ (State.itgCarry s receiving sending) := by
  unfold State.itgCarry
  try dsimp only
  repeat' first
    | (with_reducible assumption)
    | ((with_reducible refine Sub.trans hp ?_); rfl)
    | ((with_reducible refine Sub.bit hp ?_); decide)
    | (with_reducible apply State.count_kept)
    | (with_reducible apply State.notice_kept)
    | (with_reducible apply State.silt_kept)
    | (intro _)
    | (dsimp only)

theorem State.itgHot_kept {s : State} (h_s : Kept T s₀ s) (m : Nat) (page : Nat) (addr : Nat) (hp : Sub 0x4400000020100000002 T) : Kept T s₀ (State.itgHot s m page addr) := by
  unfold State.itgHot
  try dsimp only
  repeat' first
    | (with_reducible assumption)
    | ((with_reducible refine Sub.trans hp ?_); rfl)
    | ((with_reducible refine Sub.bit hp ?_); decide)
    | (with_reducible apply State.count_kept)
    | (with_reducible apply State.notice_kept)
    | (with_reducible apply State.silt_kept)
    | (intro _)
    | (dsimp only)

theorem State.itgRead_kept {s : State} (h_s : Kept T s₀ s) (m : Nat) (e : ScrubFound) (hp : Sub 0x4400000020100000006 T) : Kept T s₀ (State.itgRead s m e).2 := by
  unfold State.itgRead
  try dsimp only
  repeat' first
    | (with_reducible assumption)
    | ((with_reducible refine Sub.trans hp ?_); rfl)
    | ((with_reducible refine Sub.bit hp ?_); decide)
    | ((with_reducible refine Sub.bitEq hp (j := 74) ?_ ?_) <;> [(first | (simp only [Field.slot, Field.page, Field.key]; omega) | rfl); rfl])
    | (with_reducible apply State.draw_kept)
    | (with_reducible apply State.draw_pair (by assumption))
    | (with_reducible apply State.count_kept)
    | (with_reducible apply State.itgHot_kept)
    | (with_reducible apply State.itgUncorr_kept)
    | split
    | (lift_lets; intro x; refine Kept.cut (s := x) ?_ (fun hx => ?_) <;> [subst x; clear_value x])
    | (intro x; refine Kept.cut (s := x) ?_ (fun hx => ?_) <;> [subst x; clear_value x])
    | (lift_lets; intro x; subst x)
    | (intro x; subst x)
    | (intro _)
    | (dsimp only)

theorem State.itgRead_pair {s : State} {m : Nat} {e : ScrubFound} {v_ : Bool} {t_ : State} (q_ : (State.itgRead s m e) = (v_, t_)) (h_s : Kept T s₀ s) (hp : Sub 0x4400000020100000006 T) : Kept T s₀ t_ := by
  have z := State.itgRead_kept h_s m e (hp := hp)
  rw [q_] at z
  exact z

end Sys2Proof.Machine
end

