-- ==== Sys2Proof/Laws/KeepHostBase.lean ====
section
/-! SUPPORT. What the operations of Machine/HostBase.lean keep. -/

set_option Elab.async false
set_option linter.unusedTactic false
set_option linter.unreachableTactic false
set_option linter.unusedVariables false

namespace Sys2Proof.Machine

variable {T : Nat → Prop} {s₀ : State}

theorem State.hostWrote_kept {s : State} (h_s : Kept T s₀ s) (port : Port) (bar2 : Bool) (addr : Nat) (hp : Sub 0x20000000302 T) : Kept T s₀ (State.hostWrote s port bar2 addr) := by
  unfold State.hostWrote
  try dsimp only
  repeat' first
    | (with_reducible assumption)
    | ((with_reducible refine Sub.trans hp ?_); rfl)
    | ((with_reducible refine Sub.bit hp ?_); decide)
    | (with_reducible refine State.setPort_same rfl ?_ ?_)
    | (with_reducible apply State.notice_kept)
    | split
    | (lift_lets; intro x; refine Kept.cut (s := x) ?_ (fun hx => ?_) <;> [subst x; clear_value x])
    | (intro x; refine Kept.cut (s := x) ?_ (fun hx => ?_) <;> [subst x; clear_value x])
    | (lift_lets; intro x; subst x)
    | (intro x; subst x)
    | (intro _)
    | (dsimp only)

theorem State.effect_kept {s : State} (h_s : Kept T s₀ s) (port : Port) (addr : Nat) (k : State → State) (h_k : ∀ s, Kept T s₀ s → Kept T s₀ (k s)) (hp : Sub 0x20400000302 T) : Kept T s₀ (State.effect s port addr k) := by
  unfold State.effect
  try dsimp only
  repeat' first
    | (with_reducible assumption)
    | ((with_reducible refine Sub.trans hp ?_); rfl)
    | ((with_reducible refine Sub.bit hp ?_); decide)
    | (with_reducible apply State.working_kept)
    | (with_reducible apply State.hostWrote_kept)
    | (with_reducible apply h_k)
    | split
    | (lift_lets; intro x; refine Kept.cut (s := x) ?_ (fun hx => ?_) <;> [subst x; clear_value x])
    | (intro x; refine Kept.cut (s := x) ?_ (fun hx => ?_) <;> [subst x; clear_value x])
    | (lift_lets; intro x; subst x)
    | (intro x; subst x)
    | (intro _)
    | (dsimp only)

theorem State.setRead_kept {s : State} (h_s : Kept T s₀ s) (port : Port) (l : List Nat) (hp : Sub 0x300 T) : Kept T s₀ (State.setRead s port l) := by
  unfold State.setRead
  exact State.setPort_same rfl h_s

end Sys2Proof.Machine
end

