-- ==== Sys2Proof/Laws/KeepSlip.lean ====
section
/-! SUPPORT. What the operations of Machine/Slip.lean keep. -/

set_option Elab.async false
set_option linter.unusedTactic false
set_option linter.unreachableTactic false
set_option linter.unusedVariables false

namespace Sys2Proof.Machine

variable {T : Nat → Prop} {s₀ : State}

theorem State.setQueue_kept {s : State} (h_s : Kept T s₀ s) (q : Nat) (v : SlipQueue) (hp : Sub 0x3000 T := by first | exact Sub.trans (by assumption) rfl | exact Sub.all (by assumption)) : Kept T s₀ (State.setQueue s q v) := by
  unfold State.setQueue
  try dsimp only
  repeat' first
    | (with_reducible assumption)
    | ((with_reducible refine Sub.trans hp ?_); rfl)
    | ((with_reducible refine Sub.bit hp ?_); decide)
    | (fail_if_no_progress ((with_reducible refine Kept.mkOther ?_ ?_ ?_ (fun q hq => ?_)) <;> [skip; exact rfl; exact rfl; (cases q <;> first | with_reducible exact rfl | exact fun f _ => State.rd_congr rfl f | exact absurd (Sub.bit hp rfl) hq)]))
    | split
    | (intro _)
    | (dsimp only)

theorem State.slqReached_kept {s : State} (h_s : Kept T s₀ s) (q : Nat) (lvl : Nat) (hp : Sub 0x40000020000000002 T) : Kept T s₀ (State.slqReached s q lvl) := by
  unfold State.slqReached
  try dsimp only
  repeat' first
    | (with_reducible assumption)
    | ((with_reducible refine Sub.trans hp ?_); rfl)
    | ((with_reducible refine Sub.bit hp ?_); decide)
    | ((with_reducible refine Sub.bitEq hp (qMax_slot _) ?_); rfl)
    | ((with_reducible refine Sub.bitEq hp (qWmark_slot _) ?_); rfl)
    | ((with_reducible refine Sub.bitEq hp (qStatWm_slot _) ?_); rfl)
    | (with_reducible apply State.wr_kept)
    | (with_reducible apply State.notice_kept)
    | split
    | (lift_lets; intro x; refine Kept.cut (s := x) ?_ (fun hx => ?_) <;> [subst x; clear_value x])
    | (intro x; refine Kept.cut (s := x) ?_ (fun hx => ?_) <;> [subst x; clear_value x])
    | (lift_lets; intro x; subst x)
    | (intro x; subst x)
    | (intro _)
    | (dsimp only)

theorem State.slqSettle_kept {s : State} (h_s : Kept T s₀ s) (q : Nat) (hp : Sub 0x40000020000000002 T) : Kept T s₀ (State.slqSettle s q) := by
  unfold State.slqSettle
  try dsimp only
  repeat' first
    | (with_reducible assumption)
    | ((with_reducible refine Sub.trans hp ?_); rfl)
    | ((with_reducible refine Sub.bit hp ?_); decide)
    | (with_reducible apply State.slqReached_kept)
    | (intro _)
    | (dsimp only)

theorem State.slqErr_kept {s : State} (h_s : Kept T s₀ s) (q : Nat) (reason : Nat) (hp : Sub 0x40000020000000002 T) : Kept T s₀ (State.slqErr s q reason) := by
  unfold State.slqErr
  try dsimp only
  repeat' first
    | (with_reducible assumption)
    | ((with_reducible refine Sub.trans hp ?_); rfl)
    | ((with_reducible refine Sub.bit hp ?_); decide)
    | (with_reducible apply State.wr_kept)
    | (with_reducible apply State.notice_kept)
    | (intro _)
    | (dsimp only)

theorem State.slqDropNewest_kept {s : State} (h_s : Kept T s₀ s) (q : Nat) (hp : Sub 0x40000020000000002 T) : Kept T s₀ (State.slqDropNewest s q) := by
  unfold State.slqDropNewest
  try dsimp only
  repeat' first
    | (with_reducible assumption)
    | ((with_reducible refine Sub.trans hp ?_); rfl)
    | ((with_reducible refine Sub.bit hp ?_); decide)
    | ((with_reducible refine Sub.bitEq hp (qDrops_slot _) ?_); rfl)
    | ((with_reducible refine Sub.bitEq hp (qStatDropped_slot _) ?_); rfl)
    | (with_reducible apply State.count_kept)
    | (with_reducible apply State.wr_kept)
    | (with_reducible apply State.notice_kept)
    | (intro _)
    | (dsimp only)

theorem State.slqAdmit_kept {s : State} (h_s : Kept T s₀ s) (q : Nat) (p : Packet) (hp : Sub 0x40000020000003002 T) : Kept T s₀ (State.slqAdmit s q p) := by
  unfold State.slqAdmit
  try dsimp only
  repeat' first
    | (with_reducible assumption)
    | ((with_reducible refine Sub.trans hp ?_); rfl)
    | ((with_reducible refine Sub.bit hp ?_); decide)
    | ((with_reducible refine Sub.bitEq hp (j := 66) ?_ ?_) <;> [(first | (simp only [Field.slot, Field.page, Field.key]; omega) | rfl); rfl])
    | (with_reducible apply State.setQueue_kept)
    | (with_reducible apply State.slqSettle_kept)
    | (with_reducible apply State.notice_kept)
    | split
    | (lift_lets; intro x; refine Kept.cut (s := x) ?_ (fun hx => ?_) <;> [subst x; clear_value x])
    | (intro x; refine Kept.cut (s := x) ?_ (fun hx => ?_) <;> [subst x; clear_value x])
    | (lift_lets; intro x; subst x)
    | (intro x; subst x)
    | (intro _)
    | (dsimp only)

theorem State.slqCorruptDrop_kept {s : State} (h_s : Kept T s₀ s) (q : Nat) (hp : Sub 0x4440000020100000002 T) : Kept T s₀ (State.slqCorruptDrop s q) := by
  unfold State.slqCorruptDrop
  try dsimp only
  repeat' first
    | (with_reducible assumption)
    | ((with_reducible refine Sub.trans hp ?_); rfl)
    | ((with_reducible refine Sub.bit hp ?_); decide)
    | ((with_reducible refine Sub.bitEq hp (qDrops_slot _) ?_); rfl)
    | ((with_reducible refine Sub.bitEq hp (qStatCorrupt_slot _) ?_); rfl)
    | (with_reducible apply State.count_kept)
    | (with_reducible apply State.wr_kept)
    | (with_reducible apply State.notice_kept)
    | (with_reducible apply State.itgCarry_kept)
    | (intro _)
    | (dsimp only)

theorem State.slqVerify_kept {s : State} (h_s : Kept T s₀ s) (q : Nat) (p : Packet) (carry : Bool) (hp : Sub 0x4440000020100003002 T := by first | exact Sub.trans (by assumption) rfl | exact Sub.all (by assumption)) : Kept T s₀ (State.slqVerify s q p carry) := by
  unfold State.slqVerify
  try dsimp only
  repeat' first
    | (with_reducible assumption)
    | ((with_reducible refine Sub.trans hp ?_); rfl)
    | ((with_reducible refine Sub.bit hp ?_); decide)
    | (with_reducible apply State.slqAdmit_kept)
    | (with_reducible apply State.slqReached_kept)
    | (with_reducible apply State.slqCorruptDrop_kept)
    | split
    | (intro _)
    | (dsimp only)

theorem State.slqPut_kept {s : State} (h_s : Kept T s₀ s) (q : Nat) (p : Packet) (carry : Bool) (hp : Sub 0x4440000020100003002 T) : Kept T s₀ (State.slqPut s q p carry) := by
  unfold State.slqPut
  try dsimp only
  repeat' first
    | (with_reducible assumption)
    | ((with_reducible refine Sub.trans hp ?_); rfl)
    | ((with_reducible refine Sub.bit hp ?_); decide)
    | ((with_reducible refine Sub.bitEq hp (qPolicy_slot _) ?_); rfl)
    | ((with_reducible refine Sub.bitEq hp (qCells_slot _) ?_); rfl)
    | (with_reducible apply State.slqDropNewest_kept)
    | (with_reducible apply State.setQueue_kept)
    | (with_reducible apply State.slqSettle_kept)
    | (with_reducible apply State.slqReached_kept)
    | (with_reducible apply State.slqVerify_kept)
    | (fail_if_no_progress ((with_reducible refine Kept.mkOther ?_ ?_ ?_ (fun q hq => ?_)) <;> [skip; exact rfl; exact rfl; (cases q <;> first | with_reducible exact rfl | exact fun f _ => State.rd_congr rfl f | exact absurd (Sub.bit hp rfl) hq)]))
    | split
    | (intro _)
    | (dsimp only)

theorem State.slqPush_kept {s : State} (h_s : Kept T s₀ s) (q : Nat) (kind : Nat) (prio : Nat) (words : List Nat) (pad : Nat) (hp : Sub 0x4440000020100003002 T := by first | exact Sub.trans (by assumption) rfl | exact Sub.all (by assumption)) : Kept T s₀ (State.slqPush s q kind prio words pad) := by
  unfold State.slqPush
  try dsimp only
  repeat' first
    | (with_reducible assumption)
    | ((with_reducible refine Sub.trans hp ?_); rfl)
    | ((with_reducible refine Sub.bit hp ?_); decide)
    | (with_reducible apply State.whenLive_kept)
    | (with_reducible apply State.slqPut_kept)
    | (lift_lets; intro x; refine Kept.cut (s := x) ?_ (fun hx => ?_) <;> [subst x; clear_value x])
    | (intro x; refine Kept.cut (s := x) ?_ (fun hx => ?_) <;> [subst x; clear_value x])
    | (lift_lets; intro x; subst x)
    | (intro x; subst x)
    | (intro _)
    | (dsimp only)

theorem State.slqResumeN_kept {s : State} (h_s : Kept T s₀ s) (q n : Nat) (hp : Sub 0x4440000020100003002 T := by first | exact Sub.trans (by assumption) rfl | exact Sub.all (by assumption)) : Kept T s₀ (s.slqResumeN q n) := by
  induction n generalizing s with
  | zero => exact h_s
  | succ n ih =>
    unfold State.slqResumeN
    split
    · exact h_s
    · split
      · exact h_s
      · exact ih (State.slqVerify_kept (State.setQueue_kept h_s _ _) _ _ _)

theorem State.slqRead_kept {s : State} (h_s : Kept T s₀ s) (port : Port) (q : Nat) (hp : Sub 0x4440000020100003002 T) : Kept T s₀ (State.slqRead s port q).2 := by
  unfold State.slqRead
  try dsimp only
  repeat' first
    | (with_reducible assumption)
    | ((with_reducible refine Sub.trans hp ?_); rfl)
    | ((with_reducible refine Sub.bit hp ?_); decide)
    | (with_reducible apply State.slqErr_kept)
    | (with_reducible apply State.setQueue_kept)
    | (with_reducible apply State.slqSettle_kept)
    | (with_reducible apply State.slqResumeN_kept)
    | split
    | (lift_lets; intro x; refine Kept.cut (s := x) ?_ (fun hx => ?_) <;> [subst x; clear_value x])
    | (intro x; refine Kept.cut (s := x) ?_ (fun hx => ?_) <;> [subst x; clear_value x])
    | (lift_lets; intro x; subst x)
    | (intro x; subst x)
    | (intro _)
    | (dsimp only)

theorem State.slqRead_pair {s : State} {port : Port} {q : Nat} {v_ : Nat} {t_ : State} (q_ : (State.slqRead s port q) = (v_, t_)) (h_s : Kept T s₀ s) (hp : Sub 0x4440000020100003002 T) : Kept T s₀ t_ := by
  have z := State.slqRead_kept h_s port q (hp := hp)
  rw [q_] at z
  exact z

theorem State.slqSpoil_kept {s : State} (h_s : Kept T s₀ s) (port : Port) (q : Nat) (hp : Sub 0x4440000020100003006 T) : Kept T s₀ (State.slqSpoil s port q) := by
  unfold State.slqSpoil
  try dsimp only
  repeat' first
    | (with_reducible assumption)
    | ((with_reducible refine Sub.trans hp ?_); rfl)
    | ((with_reducible refine Sub.bit hp ?_); decide)
    | ((with_reducible refine Sub.bitEq hp (qStatCorrupt_slot _) ?_); rfl)
    | (with_reducible apply State.setQueue_kept)
    | (with_reducible apply State.wr_kept)
    | (with_reducible apply State.notice_kept)
    | (with_reducible apply State.itgReadError_kept)
    | (fail_if_no_progress ((with_reducible refine Kept.mkOther ?_ ?_ ?_ (fun q hq => ?_)) <;> [skip; exact rfl; exact rfl; (cases q <;> first | with_reducible exact rfl | exact fun f _ => State.rd_congr rfl f | exact absurd (Sub.bit hp rfl) hq)]))
    | split
    | (intro _)
    | (dsimp only)

theorem State.slqLose_kept {s : State} (h_s : Kept T s₀ s) (q : Nat) (hp : Sub 0x40000020000003002 T) : Kept T s₀ (State.slqLose s q) := by
  unfold State.slqLose
  try dsimp only
  repeat' first
    | (with_reducible assumption)
    | ((with_reducible refine Sub.trans hp ?_); rfl)
    | ((with_reducible refine Sub.bit hp ?_); decide)
    | ((with_reducible refine Sub.bitEq hp (qStatCorrupt_slot _) ?_); rfl)
    | (with_reducible apply State.setQueue_kept)
    | (with_reducible apply State.wr_kept)
    | (with_reducible apply State.notice_kept)
    | (fail_if_no_progress ((with_reducible refine Kept.mkOther ?_ ?_ ?_ (fun q hq => ?_)) <;> [skip; exact rfl; exact rfl; (cases q <;> first | with_reducible exact rfl | exact fun f _ => State.rd_congr rfl f | exact absurd (Sub.bit hp rfl) hq)]))
    | split
    | (intro _)
    | (dsimp only)

theorem State.slqDrop_kept {s : State} (h_s : Kept T s₀ s) (port : Port) (q : Nat) (hp : Sub 0x4440000020100003002 T) : Kept T s₀ (State.slqDrop s port q) := by
  unfold State.slqDrop
  try dsimp only
  repeat' first
    | (with_reducible assumption)
    | ((with_reducible refine Sub.trans hp ?_); rfl)
    | ((with_reducible refine Sub.bit hp ?_); decide)
    | (with_reducible apply State.setQueue_kept)
    | (with_reducible apply State.slqSettle_kept)
    | (with_reducible apply State.slqResumeN_kept)
    | split
    | (lift_lets; intro x; refine Kept.cut (s := x) ?_ (fun hx => ?_) <;> [subst x; clear_value x])
    | (intro x; refine Kept.cut (s := x) ?_ (fun hx => ?_) <;> [subst x; clear_value x])
    | (lift_lets; intro x; subst x)
    | (intro x; subst x)
    | (intro _)
    | (dsimp only)

theorem State.slqMark_kept {s : State} (h_s : Kept T s₀ s) (port : Port) (q : Nat) (hp : Sub 0x4440000020100003002 T) : Kept T s₀ (State.slqMark s port q) := by
  unfold State.slqMark
  try dsimp only
  repeat' first
    | (with_reducible assumption)
    | ((with_reducible refine Sub.trans hp ?_); rfl)
    | ((with_reducible refine Sub.bit hp ?_); decide)
    | (with_reducible apply State.setQueue_kept)
    | (with_reducible apply State.slqSettle_kept)
    | (with_reducible apply State.slqResumeN_kept)
    | split
    | (lift_lets; intro x; refine Kept.cut (s := x) ?_ (fun hx => ?_) <;> [subst x; clear_value x])
    | (intro x; refine Kept.cut (s := x) ?_ (fun hx => ?_) <;> [subst x; clear_value x])
    | (lift_lets; intro x; subst x)
    | (intro x; subst x)
    | (intro _)
    | (dsimp only)

theorem State.slqRewind_kept {s : State} (h_s : Kept T s₀ s) (port : Port) (q : Nat) (hp : Sub 0x3000 T) : Kept T s₀ (State.slqRewind s port q) := by
  unfold State.slqRewind
  try dsimp only
  repeat' first
    | (with_reducible assumption)
    | ((with_reducible refine Sub.trans hp ?_); rfl)
    | ((with_reducible refine Sub.bit hp ?_); decide)
    | (with_reducible apply State.setQueue_kept)
    | split
    | (lift_lets; intro x; refine Kept.cut (s := x) ?_ (fun hx => ?_) <;> [subst x; clear_value x])
    | (intro x; refine Kept.cut (s := x) ?_ (fun hx => ?_) <;> [subst x; clear_value x])
    | (lift_lets; intro x; subst x)
    | (intro x; subst x)
    | (intro _)
    | (dsimp only)

theorem State.slqClearMark_kept {s : State} (h_s : Kept T s₀ s) (port : Port) (q : Nat) (hp : Sub 0x4440000020100003002 T) : Kept T s₀ (State.slqClearMark s port q) := by
  unfold State.slqClearMark
  try dsimp only
  repeat' first
    | (with_reducible assumption)
    | ((with_reducible refine Sub.trans hp ?_); rfl)
    | ((with_reducible refine Sub.bit hp ?_); decide)
    | (with_reducible apply State.setQueue_kept)
    | (with_reducible apply State.slqSettle_kept)
    | (with_reducible apply State.slqResumeN_kept)
    | split
    | (lift_lets; intro x; refine Kept.cut (s := x) ?_ (fun hx => ?_) <;> [subst x; clear_value x])
    | (intro x; refine Kept.cut (s := x) ?_ (fun hx => ?_) <;> [subst x; clear_value x])
    | (lift_lets; intro x; subst x)
    | (intro x; subst x)
    | (intro _)
    | (dsimp only)

theorem State.slqClrMax_kept {s : State} (h_s : Kept T s₀ s) (q : Nat) (hp : Sub 0x40000000000000000 T) : Kept T s₀ (State.slqClrMax s q) := by
  unfold State.slqClrMax
  try dsimp only
  repeat' first
    | (with_reducible assumption)
    | ((with_reducible refine Sub.trans hp ?_); rfl)
    | ((with_reducible refine Sub.bit hp ?_); decide)
    | ((with_reducible refine Sub.bitEq hp (qMax_slot _) ?_); rfl)
    | (with_reducible apply State.wr_kept)
    | (intro _)
    | (dsimp only)

theorem State.slqFlush_kept {s : State} (h_s : Kept T s₀ s) (q : Nat) (hp : Sub 0x4440000020100003002 T) : Kept T s₀ (State.slqFlush s q) := by
  unfold State.slqFlush
  try dsimp only
  repeat' first
    | (with_reducible assumption)
    | ((with_reducible refine Sub.trans hp ?_); rfl)
    | ((with_reducible refine Sub.bit hp ?_); decide)
    | (with_reducible apply State.setQueue_kept)
    | (with_reducible apply State.slqSettle_kept)
    | (with_reducible apply State.slqResumeN_kept)
    | (lift_lets; intro x; refine Kept.cut (s := x) ?_ (fun hx => ?_) <;> [subst x; clear_value x])
    | (intro x; refine Kept.cut (s := x) ?_ (fun hx => ?_) <;> [subst x; clear_value x])
    | (lift_lets; intro x; subst x)
    | (intro x; subst x)
    | (intro _)
    | (dsimp only)

theorem State.slqKillOpen_kept {s : State} (h_s : Kept T s₀ s) (d : Nat) (b : OpenPacket) (hp : Sub 0x40000000000003000 T) : Kept T s₀ (State.slqKillOpen s d b) := by
  unfold State.slqKillOpen
  try dsimp only
  repeat' first
    | (with_reducible assumption)
    | ((with_reducible refine Sub.trans hp ?_); rfl)
    | ((with_reducible refine Sub.bit hp ?_); decide)
    | ((with_reducible refine Sub.bitEq hp (j := 66) ?_ ?_) <;> [(first | (simp only [Field.slot, Field.page, Field.key]; omega) | rfl); rfl])
    | (with_reducible apply State.setQueue_kept)
    | (with_reducible apply State.count_kept)
    | (intro _)
    | (dsimp only)

theorem State.slqDownWord_kept {s : State} (h_s : Kept T s₀ s) (port : Port) (d : Nat) (w : Nat) (hp : Sub 0x40000020000003002 T) : Kept T s₀ (State.slqDownWord s port d w) := by
  unfold State.slqDownWord
  try dsimp only
  repeat' first
    | (with_reducible assumption)
    | ((with_reducible refine Sub.trans hp ?_); rfl)
    | ((with_reducible refine Sub.bit hp ?_); decide)
    | ((with_reducible refine Sub.bitEq hp (j := 66) ?_ ?_) <;> [(first | (simp only [Field.slot, Field.page, Field.key]; omega) | rfl); rfl])
    | (with_reducible apply State.slqErr_kept)
    | (with_reducible apply State.setQueue_kept)
    | (with_reducible apply State.slqDropNewest_kept)
    | (with_reducible apply State.slqSettle_kept)
    | (with_reducible apply State.slqKillOpen_kept)
    | split
    | (lift_lets; intro x; refine Kept.cut (s := x) ?_ (fun hx => ?_) <;> [subst x; clear_value x])
    | (intro x; refine Kept.cut (s := x) ?_ (fun hx => ?_) <;> [subst x; clear_value x])
    | (lift_lets; intro x; subst x)
    | (intro x; subst x)
    | (intro _)
    | (dsimp only)

theorem State.slqDownCommit_kept {s : State} (h_s : Kept T s₀ s) (port : Port) (d : Nat) (len : Nat) (hp : Sub 0x40000020000003002 T) : Kept T s₀ (State.slqDownCommit s port d len) := by
  unfold State.slqDownCommit
  try dsimp only
  repeat' first
    | (with_reducible assumption)
    | ((with_reducible refine Sub.trans hp ?_); rfl)
    | ((with_reducible refine Sub.bit hp ?_); decide)
    | ((with_reducible refine Sub.bitEq hp (j := 66) ?_ ?_) <;> [(first | (simp only [Field.slot, Field.page, Field.key]; omega) | rfl); rfl])
    | (with_reducible apply State.slqErr_kept)
    | (with_reducible apply State.count_kept)
    | (with_reducible apply State.setQueue_kept)
    | (with_reducible apply State.slqAdmit_kept)
    | split
    | (lift_lets; intro x; refine Kept.cut (s := x) ?_ (fun hx => ?_) <;> [subst x; clear_value x])
    | (intro x; refine Kept.cut (s := x) ?_ (fun hx => ?_) <;> [subst x; clear_value x])
    | (lift_lets; intro x; subst x)
    | (intro x; subst x)
    | (intro _)
    | (dsimp only)

theorem State.slqAbort_kept {s : State} (h_s : Kept T s₀ s) (d : Nat) (hp : Sub 0x40000000000003000 T) : Kept T s₀ (State.slqAbort s d) := by
  unfold State.slqAbort
  try dsimp only
  repeat' first
    | (with_reducible assumption)
    | ((with_reducible refine Sub.trans hp ?_); rfl)
    | ((with_reducible refine Sub.bit hp ?_); decide)
    | ((with_reducible refine Sub.bitEq hp (j := 66) ?_ ?_) <;> [(first | (simp only [Field.slot, Field.page, Field.key]; omega) | rfl); rfl])
    | (with_reducible apply State.setQueue_kept)
    | (with_reducible apply State.count_kept)
    | split
    | (lift_lets; intro x; refine Kept.cut (s := x) ?_ (fun hx => ?_) <;> [subst x; clear_value x])
    | (intro x; refine Kept.cut (s := x) ?_ (fun hx => ?_) <;> [subst x; clear_value x])
    | (lift_lets; intro x; subst x)
    | (intro x; subst x)
    | (intro _)
    | (dsimp only)

theorem State.slqTake_kept {s t : State} {d : Nat} {k : Packet} (h_s : Kept T s₀ s) (q_ : s.slqTake d = some (k, t)) (hp : Sub 0x3000 T := by first | exact Sub.trans (by assumption) rfl | exact Sub.all (by assumption)) :
    Kept T s₀ t := by
  unfold State.slqTake at q_
  split at q_
  · simp at q_
  · split at q_
    · simp at q_
    · simp only [Option.some.injEq, Prod.mk.injEq] at q_
      rw [← q_.2]
      exact State.setQueue_kept h_s _ _

theorem State.slqSetCells_kept {s : State} (h_s : Kept T s₀ s) (q : Nat) (n : Nat) (hp : Sub 0x40000020000000002 T) : Kept T s₀ (State.slqSetCells s q n) := by
  unfold State.slqSetCells
  try dsimp only
  repeat' first
    | (with_reducible assumption)
    | ((with_reducible refine Sub.trans hp ?_); rfl)
    | ((with_reducible refine Sub.bit hp ?_); decide)
    | ((with_reducible refine Sub.bitEq hp (qCells_slot _) ?_); rfl)
    | (with_reducible apply State.wr_kept)
    | (with_reducible apply State.slqErr_kept)
    | split
    | (intro _)
    | (dsimp only)

theorem State.slqEnable_kept {s : State} (h_s : Kept T s₀ s) (en : Bool) (hp : Sub 0x40000020000003002 T) : Kept T s₀ (State.slqEnable s en) := by
  unfold State.slqEnable
  try dsimp only
  repeat' first
    | (with_reducible assumption)
    | ((with_reducible refine Sub.trans hp ?_); rfl)
    | ((with_reducible refine Sub.bit hp ?_); decide)
    | ((with_reducible refine Sub.bitEq hp (qDrops_slot _) ?_); rfl)
    | (with_reducible apply State.wrB_kept)
    | (with_reducible apply State.setQueue_kept)
    | (with_reducible apply State.slqDropNewest_kept)
    | (with_reducible apply State.count_kept)
    | (with_reducible refine Kept.foldl _ _ ?_ (fun _ _ _ => ?_))
    | (fail_if_no_progress ((with_reducible refine Kept.mkOther ?_ ?_ ?_ (fun q hq => ?_)) <;> [skip; exact rfl; exact rfl; (cases q <;> first | with_reducible exact rfl | exact fun f _ => State.rd_congr rfl f | exact absurd (Sub.bit hp rfl) hq)]))
    | split
    | (lift_lets; intro x; refine Kept.cut (s := x) ?_ (fun hx => ?_) <;> [subst x; clear_value x])
    | (intro x; refine Kept.cut (s := x) ?_ (fun hx => ?_) <;> [subst x; clear_value x])
    | (lift_lets; intro x; subst x)
    | (intro x; subst x)
    | (intro _)
    | (dsimp only)

theorem State.slqTimerExpires_kept {s : State} (h_s : Kept T s₀ s) (q : Nat) (hp : Sub 0x40000020000003002 T) : Kept T s₀ (State.slqTimerExpires s q) := by
  unfold State.slqTimerExpires
  try dsimp only
  repeat' first
    | (with_reducible assumption)
    | ((with_reducible refine Sub.trans hp ?_); rfl)
    | ((with_reducible refine Sub.bit hp ?_); decide)
    | ((with_reducible refine Sub.bitEq hp (qTimeout_slot _) ?_); rfl)
    | ((with_reducible refine Sub.bitEq hp (qStatTo_slot _) ?_); rfl)
    | (with_reducible apply State.setQueue_kept)
    | (with_reducible apply State.wr_kept)
    | (with_reducible apply State.notice_kept)
    | split
    | (lift_lets; intro x; refine Kept.cut (s := x) ?_ (fun hx => ?_) <;> [subst x; clear_value x])
    | (intro x; refine Kept.cut (s := x) ?_ (fun hx => ?_) <;> [subst x; clear_value x])
    | (lift_lets; intro x; subst x)
    | (intro x; subst x)
    | (intro _)
    | (dsimp only)

theorem State.slqPerst_kept {s : State} (h_s : Kept T s₀ s)  (hp : Sub 0x40000000000003000 T) : Kept T s₀ (State.slqPerst s) := by
  unfold State.slqPerst
  try dsimp only
  repeat' first
    | (with_reducible assumption)
    | ((with_reducible refine Sub.trans hp ?_); rfl)
    | ((with_reducible refine Sub.bit hp ?_); decide)
    | (with_reducible apply State.slqAbort_kept)
    | (with_reducible refine Kept.foldl _ _ ?_ (fun _ _ _ => ?_))
    | (fail_if_no_progress ((with_reducible refine Kept.mkOther ?_ ?_ ?_ (fun q hq => ?_)) <;> [skip; exact rfl; exact rfl; (cases q <;> first | with_reducible exact rfl | exact fun f _ => State.rd_congr rfl f | exact absurd (Sub.bit hp rfl) hq)]))
    | split
    | (lift_lets; intro x; refine Kept.cut (s := x) ?_ (fun hx => ?_) <;> [subst x; clear_value x])
    | (intro x; refine Kept.cut (s := x) ?_ (fun hx => ?_) <;> [subst x; clear_value x])
    | (lift_lets; intro x; subst x)
    | (intro x; subst x)
    | (intro _)
    | (dsimp only)

theorem State.slqDownSpoilt_kept {s : State} (h_s : Kept T s₀ s) (d : Nat) (hp : Sub 0x4440000020100003002 T) : Kept T s₀ (State.slqDownSpoilt s d) := by
  unfold State.slqDownSpoilt
  try dsimp only
  repeat' first
    | (with_reducible assumption)
    | ((with_reducible refine Sub.trans hp ?_); rfl)
    | ((with_reducible refine Sub.bit hp ?_); decide)
    | (with_reducible apply State.setQueue_kept)
    | (with_reducible apply State.slqCorruptDrop_kept)
    | split
    | (lift_lets; intro x; refine Kept.cut (s := x) ?_ (fun hx => ?_) <;> [subst x; clear_value x])
    | (intro x; refine Kept.cut (s := x) ?_ (fun hx => ?_) <;> [subst x; clear_value x])
    | (lift_lets; intro x; subst x)
    | (intro x; subst x)
    | (intro _)
    | (dsimp only)

theorem State.slqPortRead_kept {s : State} (h_s : Kept T s₀ s) (port : Port) (q : Nat) (hp : Sub 0x4440000020100003302 T) : Kept T s₀ (State.slqPortRead s port q) := by
  unfold State.slqPortRead
  try dsimp only
  repeat' first
    | (with_reducible assumption)
    | ((with_reducible refine Sub.trans hp ?_); rfl)
    | ((with_reducible refine Sub.bit hp ?_); decide)
    | (with_reducible apply State.slqRead_kept)
    | (with_reducible apply State.slqRead_pair (by assumption))
    | (with_reducible apply State.setRead_kept)
    | split
    | (intro _)
    | (dsimp only)

end Sys2Proof.Machine
end

