-- ==== Sys2Proof/Laws/KeepSilt.lean ====
section
/-! SUPPORT. What the operations of Machine/Silt.lean keep. -/

set_option Elab.async false
set_option linter.unusedTactic false
set_option linter.unreachableTactic false
set_option linter.unusedVariables false

namespace Sys2Proof.Machine

variable {T : Nat → Prop} {s₀ : State}

theorem State.siltChanged_kept {s : State} (h_s : Kept T s₀ s)  (hp : Sub 0x400000000000000000 T := by first | exact Sub.trans (by assumption) rfl | exact Sub.all (by assumption)) : Kept T s₀ (State.siltChanged s) := by
  unfold State.siltChanged
  try dsimp only
  repeat' first
    | (with_reducible assumption)
    | ((with_reducible refine Sub.trans hp ?_); rfl)
    | ((with_reducible refine Sub.bit hp ?_); decide)
    | (with_reducible apply State.wr_kept)
    | (intro _)
    | (dsimp only)

theorem State.siltFull_kept {s : State} (h_s : Kept T s₀ s)  (hp : Sub 0x400000020000000002 T := by first | exact Sub.trans (by assumption) rfl | exact Sub.all (by assumption)) : Kept T s₀ (State.siltFull s) := by
  unfold State.siltFull
  try dsimp only
  repeat' first
    | (with_reducible assumption)
    | ((with_reducible refine Sub.trans hp ?_); rfl)
    | ((with_reducible refine Sub.bit hp ?_); decide)
    | (with_reducible apply State.countSat_kept)
    | (with_reducible apply State.notice_kept)
    | (with_reducible apply State.noticeIf_kept)
    | (with_reducible apply State.wr_kept)
    | (intro _)
    | (dsimp only)

theorem State.siltPut_kept {s : State} {log : List SiltRecord} (hl : log.length < 4096) (h_s : Kept T s₀ s) (r : SiltRecord) (hp : Sub 0x4440000020300003002 T := by first | exact Sub.trans (by assumption) rfl | exact Sub.all (by assumption)) : Kept T s₀ (s.siltPut log r) := by
  have h1 : Kept T s₀ { s with siltLog := log ++ [r] } :=
    h_s.of rfl (le_refl _) (List.prefix_refl _) (fun k =>
            ⟨k.regs, k.win, k.intake, by simp only [List.length_append, List.length_singleton]; omega, k.lrp, k.pcie, k.frames, k.queue⟩) (fun q hq => by cases q <;> first | exact rfl | exact fun f _ => State.rd_congr rfl f | exact absurd (Sub.bit hp rfl) hq)
  unfold State.siltPut
  have h2 := State.notice_kept (State.siltChanged_kept h1) SLT_NOTE_RECORD
  dsimp only
  split
  · exact State.slqPush_kept h2 _ _ _ _ _
  · exact h2

theorem State.siltNew_kept {s : State} (hl : s.siltLog.length < 4096) (h_s : Kept T s₀ s) (e : SiltEvent) (hp : Sub 0x4440000020300003002 T := by first | exact Sub.trans (by assumption) rfl | exact Sub.all (by assumption)) : Kept T s₀ (s.siltNew e) :=
  State.siltPut_kept hl h_s _

theorem bumpLast_length (l : List SiltRecord) : (bumpLast l).length = l.length := by
  induction l with
  | nil => rfl
  | cons a t ih =>
    cases t with
    | nil => rfl
    | cons b u =>
      show (bumpLast (b :: u)).length + 1 = _
      rw [ih]
      rfl

theorem State.siltWrite_kept {s : State} (h_s : Kept T s₀ s) (e : SiltEvent) (hp : Sub 0x4440000020300003002 T := by first | exact Sub.trans (by assumption) rfl | exact Sub.all (by assumption)) : Kept T s₀ (s.siltWrite e) := by
  unfold State.siltWrite
  split
  · exact State.siltFull_kept h_s
  · split
    · split
      · refine State.wr_kept (State.wr_kept (State.wr_kept (State.siltChanged_kept ?_) _ _) _ _) _ _
        exact h_s.of rfl (le_refl _) (List.prefix_refl _) (fun k =>
            ⟨k.regs, k.win, k.intake, (bumpLast_length _).trans_le k.log, k.lrp, k.pcie, k.frames, k.queue⟩) (fun q hq => by cases q <;> first | exact rfl | exact fun f _ => State.rd_congr rfl f | exact absurd (Sub.bit hp rfl) hq)
      · exact State.siltNew_kept (by omega) h_s _
    · exact State.siltNew_kept (by omega) h_s _

theorem State.siltNext_kept {s : State} (h_s : Kept T s₀ s) (hp : Sub 0x4440000020300003002 T := by first | exact Sub.trans (by assumption) rfl | exact Sub.all (by assumption)) : Kept T s₀ s.siltNext := by
  unfold State.siltNext
  split
  · exact h_s
  · rename_i e t q
    split
    · refine State.siltWrite_kept ?_ _
      refine h_s.of rfl (le_refl _) (List.prefix_refl _) (fun k => ?_) (fun q hq => by cases q <;> first | exact rfl | exact fun f _ => State.rd_congr rfl f | exact absurd (Sub.bit hp rfl) hq)
      have := k.intake
      rw [q, List.length_cons] at this
      exact ⟨k.regs, k.win, by simp only; omega, k.log, k.lrp, k.pcie, k.frames, k.queue⟩
    · exact h_s

theorem State.siltDrain_kept {s : State} (h_s : Kept T s₀ s)  (hp : Sub 0x4440000020300003002 T) : Kept T s₀ (State.siltDrain s) := by
  unfold State.siltDrain
  try dsimp only
  repeat' first
    | (with_reducible assumption)
    | ((with_reducible refine Sub.trans hp ?_); rfl)
    | ((with_reducible refine Sub.bit hp ?_); decide)
    | (with_reducible apply State.siltNext_kept)
    | (with_reducible refine Kept.iterate _ _ ?_ (fun _ _ => ?_))
    | (intro _)
    | (dsimp only)

theorem State.siltClear_kept {s : State} (h_s : Kept T s₀ s) (b : Nat) (hp : Sub 0x4440000020300003002 T := by first | exact Sub.trans (by assumption) rfl | exact Sub.all (by assumption)) : Kept T s₀ (s.siltClear b) := by
  unfold State.siltClear
  exact State.notice_kept (State.wr_kept (State.wr_kept (State.siltPut_kept (by decide) h_s _) _ _) _ _) _

theorem State.sltCmd_kept {s : State} (h_s : Kept T s₀ s) (port : Port) (clear : Bool) (key : Nat) (hp : Sub 0x4440000020300003002 T) : Kept T s₀ (State.sltCmd s port clear key) := by
  unfold State.sltCmd
  try dsimp only
  repeat' first
    | (with_reducible assumption)
    | ((with_reducible refine Sub.trans hp ?_); rfl)
    | ((with_reducible refine Sub.bit hp ?_); decide)
    | (with_reducible apply State.siltClear_kept)
    | split
    | (intro _)
    | (dsimp only)

end Sys2Proof.Machine
end

