-- ==== Sys2Proof/Laws/KeepRtc.lean ====
section
/-! SUPPORT. What the operations of Machine/Rtc.lean keep. -/

set_option Elab.async false
set_option linter.unusedTactic false
set_option linter.unreachableTactic false
set_option linter.unusedVariables false

namespace Sys2Proof.Machine

variable {T : Nat → Prop} {s₀ : State}

theorem State.rtcNote_kept {s : State} (h_s : Kept T s₀ s) (n : Notice) (hp : Sub 0x20000000002 T) (hf_n : T (40 + n.page)) : Kept T s₀ (State.rtcNote s n) := by
  unfold State.rtcNote
  try dsimp only
  repeat' first
    | (with_reducible assumption)
    | ((with_reducible refine Sub.trans hp ?_); rfl)
    | ((with_reducible refine Sub.bit hp ?_); decide)
    | (with_reducible apply State.noticeIf_kept)
    | (intro _)
    | (dsimp only)

theorem State.alarmFire_kept {s : State} (h_s : Kept T s₀ s) (k : Nat) (skip : Bool) (hp : Sub 0x20000020000000042 T) : Kept T s₀ (State.alarmFire s k skip) := by
  unfold State.alarmFire
  try dsimp only
  repeat' first
    | (with_reducible assumption)
    | ((with_reducible refine Sub.trans hp ?_); rfl)
    | ((with_reducible refine Sub.bit hp ?_); decide)
    | ((with_reducible refine Sub.bitEq hp (almNotice_slot _) ?_); rfl)
    | ((with_reducible refine Sub.bitEq hp (j := 65) ?_ ?_) <;> [(first | (simp only [Field.slot, Field.page, Field.key]; omega) | rfl); rfl])
    | (with_reducible apply State.wr_kept)
    | (with_reducible apply State.wrB_kept)
    | (with_reducible apply State.rtcNote_kept)
    | (fail_if_no_progress ((with_reducible refine Kept.mkOther ?_ ?_ ?_ (fun q hq => ?_)) <;> [skip; exact rfl; exact rfl; (cases q <;> first | with_reducible exact rfl | exact fun f _ => State.rd_congr rfl f | exact absurd (Sub.bit hp rfl) hq)]))
    | split
    | (lift_lets; intro x; refine Kept.cut (s := x) ?_ (fun hx => ?_) <;> [subst x; clear_value x])
    | (intro x; refine Kept.cut (s := x) ?_ (fun hx => ?_) <;> [subst x; clear_value x])
    | (lift_lets; intro x; subst x)
    | (intro x; subst x)
    | (intro _)
    | (dsimp only)

theorem State.alarmTick_kept {s : State} (h_s : Kept T s₀ s) (c : ClockFields) (hp : Sub 0x20000020000000042 T) : Kept T s₀ (State.alarmTick s c) := by
  unfold State.alarmTick
  try dsimp only
  repeat' first
    | (with_reducible assumption)
    | ((with_reducible refine Sub.trans hp ?_); rfl)
    | ((with_reducible refine Sub.bit hp ?_); decide)
    | ((with_reducible refine Sub.bitEq hp (j := 65) ?_ ?_) <;> [(first | (simp only [Field.slot, Field.page, Field.key]; omega) | rfl); rfl])
    | (with_reducible apply State.alarmFire_kept)
    | (with_reducible refine Kept.foldl _ _ ?_ (fun _ _ _ => ?_))
    | split
    | (lift_lets; intro x; refine Kept.cut (s := x) ?_ (fun hx => ?_) <;> [subst x; clear_value x])
    | (intro x; refine Kept.cut (s := x) ?_ (fun hx => ?_) <;> [subst x; clear_value x])
    | (lift_lets; intro x; subst x)
    | (intro x; subst x)
    | (intro _)
    | (dsimp only)

theorem State.alarmAdjust_kept {s : State} (h_s : Kept T s₀ s) (a : Nat) (b : Nat) (hp : Sub 0x20000020000000042 T) : Kept T s₀ (State.alarmAdjust s a b) := by
  unfold State.alarmAdjust
  try dsimp only
  repeat' first
    | (with_reducible assumption)
    | ((with_reducible refine Sub.trans hp ?_); rfl)
    | ((with_reducible refine Sub.bit hp ?_); decide)
    | ((with_reducible refine Sub.bitEq hp (j := 65) ?_ ?_) <;> [(first | (simp only [Field.slot, Field.page, Field.key]; omega) | rfl); rfl])
    | (with_reducible apply State.alarmFire_kept)
    | (with_reducible refine Kept.foldl _ _ ?_ (fun _ _ _ => ?_))
    | split
    | (lift_lets; intro x; refine Kept.cut (s := x) ?_ (fun hx => ?_) <;> [subst x; clear_value x])
    | (intro x; refine Kept.cut (s := x) ?_ (fun hx => ?_) <;> [subst x; clear_value x])
    | (lift_lets; intro x; subst x)
    | (intro x; subst x)
    | (intro _)
    | (dsimp only)

theorem State.rtcPublish_kept {s : State} (h_s : Kept T s₀ s)  (hp : Sub 0x20000000000000000 T) : Kept T s₀ (State.rtcPublish s) := by
  unfold State.rtcPublish
  try dsimp only
  repeat' first
    | (with_reducible assumption)
    | ((with_reducible refine Sub.trans hp ?_); rfl)
    | ((with_reducible refine Sub.bit hp ?_); decide)
    | (with_reducible apply State.publish_kept)
    | split
    | (intro _)
    | (dsimp only)

theorem State.leapDone_kept {s : State} (h_s : Kept T s₀ s) (del : Bool) (hp : Sub 0x430000020100000802 T) : Kept T s₀ (State.leapDone s del) := by
  unfold State.leapDone
  try dsimp only
  repeat' first
    | (with_reducible assumption)
    | ((with_reducible refine Sub.trans hp ?_); rfl)
    | ((with_reducible refine Sub.bit hp ?_); decide)
    | (with_reducible apply State.wrS_kept)
    | (with_reducible apply State.wr_kept)
    | (with_reducible apply State.silt_kept)
    | (with_reducible apply State.rtcNote_kept)
    | (fail_if_no_progress ((with_reducible refine Kept.mkOther ?_ ?_ ?_ (fun q hq => ?_)) <;> [skip; exact rfl; exact rfl; (cases q <;> first | with_reducible exact rfl | exact fun f _ => State.rd_congr rfl f | exact absurd (Sub.bit hp rfl) hq)]))
    | split
    | (lift_lets; intro x; refine Kept.cut (s := x) ?_ (fun hx => ?_) <;> [subst x; clear_value x])
    | (intro x; refine Kept.cut (s := x) ?_ (fun hx => ?_) <;> [subst x; clear_value x])
    | (lift_lets; intro x; subst x)
    | (intro x; subst x)
    | (intro _)
    | (dsimp only)

theorem State.rollover_kept {s : State} (h_s : Kept T s₀ s)  (hp : Sub 0x430000020100000842 T) : Kept T s₀ (State.rollover s) := by
  unfold State.rollover
  try dsimp only
  repeat' first
    | (with_reducible assumption)
    | ((with_reducible refine Sub.trans hp ?_); rfl)
    | ((with_reducible refine Sub.bit hp ?_); decide)
    | (with_reducible apply State.leapDone_kept)
    | (with_reducible apply State.alarmTick_kept)
    | (with_reducible apply State.wr_kept)
    | (with_reducible apply State.alarmAdjust_kept)
    | (fail_if_no_progress ((with_reducible refine Kept.mkOther ?_ ?_ ?_ (fun q hq => ?_)) <;> [skip; exact rfl; exact rfl; (cases q <;> first | with_reducible exact rfl | exact fun f _ => State.rd_congr rfl f | exact absurd (Sub.bit hp rfl) hq)]))
    | split
    | (lift_lets; intro x; refine Kept.cut (s := x) ?_ (fun hx => ?_) <;> [subst x; clear_value x])
    | (intro x; refine Kept.cut (s := x) ?_ (fun hx => ?_) <;> [subst x; clear_value x])
    | (lift_lets; intro x; subst x)
    | (intro x; subst x)
    | (intro _)
    | (dsimp only)

theorem State.advance_kept {s : State} (h_s : Kept T s₀ s)  (hp : Sub 0x430000020100000842 T) : Kept T s₀ (State.advance s) := by
  unfold State.advance
  try dsimp only
  repeat' first
    | (with_reducible assumption)
    | ((with_reducible refine Sub.trans hp ?_); rfl)
    | ((with_reducible refine Sub.bit hp ?_); decide)
    | (with_reducible apply State.rollover_kept)
    | (with_reducible apply State.wrB_kept)
    | (with_reducible apply State.rtcPublish_kept)
    | (fail_if_no_progress ((with_reducible refine Kept.mkOther ?_ ?_ ?_ (fun q hq => ?_)) <;> [skip; exact rfl; exact rfl; (cases q <;> first | with_reducible exact rfl | exact fun f _ => State.rd_congr rfl f | exact absurd (Sub.bit hp rfl) hq)]))
    | split
    | (lift_lets; intro x; refine Kept.cut (s := x) ?_ (fun hx => ?_) <;> [subst x; clear_value x])
    | (intro x; refine Kept.cut (s := x) ?_ (fun hx => ?_) <;> [subst x; clear_value x])
    | (lift_lets; intro x; subst x)
    | (intro x; subst x)
    | (intro _)
    | (dsimp only)

theorem State.windowStart_kept {s : State} (h_s : Kept T s₀ s)  (hp : Sub 0x800 T) : Kept T s₀ (State.windowStart s) := by
  unfold State.windowStart
  try dsimp only
  repeat' first
    | (with_reducible assumption)
    | ((with_reducible refine Sub.trans hp ?_); rfl)
    | ((with_reducible refine Sub.bit hp ?_); decide)
    | (fail_if_no_progress ((with_reducible refine Kept.mkOther ?_ ?_ ?_ (fun q hq => ?_)) <;> [skip; exact rfl; exact rfl; (cases q <;> first | with_reducible exact rfl | exact fun f _ => State.rd_congr rfl f | exact absurd (Sub.bit hp rfl) hq)]))
    | (intro _)
    | (dsimp only)

theorem State.calLoad_kept {s : State} (h_s : Kept T s₀ s) (t : CalTime) (hp : Sub 0x20000020000000842 T) : Kept T s₀ (State.calLoad s t) := by
  unfold State.calLoad
  try dsimp only
  repeat' first
    | (with_reducible assumption)
    | ((with_reducible refine Sub.trans hp ?_); rfl)
    | ((with_reducible refine Sub.bit hp ?_); decide)
    | (with_reducible apply State.wr_kept)
    | (with_reducible apply State.wrB_kept)
    | (with_reducible apply State.alarmAdjust_kept)
    | (with_reducible apply State.rtcPublish_kept)
    | (fail_if_no_progress ((with_reducible refine Kept.mkOther ?_ ?_ ?_ (fun q hq => ?_)) <;> [skip; exact rfl; exact rfl; (cases q <;> first | with_reducible exact rfl | exact fun f _ => State.rd_congr rfl f | exact absurd (Sub.bit hp rfl) hq)]))
    | (lift_lets; intro x; refine Kept.cut (s := x) ?_ (fun hx => ?_) <;> [subst x; clear_value x])
    | (intro x; refine Kept.cut (s := x) ?_ (fun hx => ?_) <;> [subst x; clear_value x])
    | (lift_lets; intro x; subst x)
    | (intro x; subst x)
    | (intro _)
    | (dsimp only)

theorem State.calStep_kept {s : State} (h_s : Kept T s₀ s) (t : CalTime) (hp : Sub 0x420000020100000842 T) : Kept T s₀ (State.calStep s t) := by
  unfold State.calStep
  try dsimp only
  repeat' first
    | (with_reducible assumption)
    | ((with_reducible refine Sub.trans hp ?_); rfl)
    | ((with_reducible refine Sub.bit hp ?_); decide)
    | (with_reducible apply State.calLoad_kept)
    | (with_reducible apply State.silt_kept)
    | (with_reducible apply State.rtcNote_kept)
    | (with_reducible apply State.windowStart_kept)
    | (lift_lets; intro x; refine Kept.cut (s := x) ?_ (fun hx => ?_) <;> [subst x; clear_value x])
    | (intro x; refine Kept.cut (s := x) ?_ (fun hx => ?_) <;> [subst x; clear_value x])
    | (lift_lets; intro x; subst x)
    | (intro x; subst x)
    | (intro _)
    | (dsimp only)

theorem State.aonPulse_kept {s : State} (h_s : Kept T s₀ s)  (hp : Sub 0x430000020100000842 T := by first | exact Sub.trans (by assumption) rfl | exact Sub.all (by assumption)) : Kept T s₀ (State.aonPulse s) := by
  unfold State.aonPulse
  try dsimp only
  repeat' first
    | (with_reducible assumption)
    | ((with_reducible refine Sub.trans hp ?_); rfl)
    | ((with_reducible refine Sub.bit hp ?_); decide)
    | (with_reducible apply State.calStep_kept)
    | (with_reducible apply State.calLoad_kept)
    | (with_reducible apply State.advance_kept)
    | split
    | (intro _)
    | (dsimp only)

theorem State.pulsesToWrap_kept {s : State} (h_s : Kept T s₀ s) (n : Nat) (hp : Sub 0x430000020100000842 T := by first | exact Sub.trans (by assumption) rfl | exact Sub.all (by assumption)) : Kept T s₀ (s.pulsesToWrap n) := by
  induction n generalizing s with
  | zero => exact h_s
  | succ n ih =>
    unfold State.pulsesToWrap
    split
    · exact State.aonPulse_kept h_s
    · exact ih (State.aonPulse_kept h_s)

theorem State.loadNext_kept {s : State} (h_s : Kept T s₀ s) (l : CalLoad) (hp : Sub 0x800 T) : Kept T s₀ (State.loadNext s l) := by
  unfold State.loadNext
  try dsimp only
  repeat' first
    | (with_reducible assumption)
    | ((with_reducible refine Sub.trans hp ?_); rfl)
    | ((with_reducible refine Sub.bit hp ?_); decide)
    | (fail_if_no_progress ((with_reducible refine Kept.mkOther ?_ ?_ ?_ (fun q hq => ?_)) <;> [skip; exact rfl; exact rfl; (cases q <;> first | with_reducible exact rfl | exact fun f _ => State.rd_congr rfl f | exact absurd (Sub.bit hp rfl) hq)]))
    | (intro _)
    | (dsimp only)

theorem State.rtcReject_kept {s : State} (h_s : Kept T s₀ s) (reason : Nat) (hp : Sub 0x20000020000000002 T) : Kept T s₀ (State.rtcReject s reason) := by
  unfold State.rtcReject
  try dsimp only
  repeat' first
    | (with_reducible assumption)
    | ((with_reducible refine Sub.trans hp ?_); rfl)
    | ((with_reducible refine Sub.bit hp ?_); decide)
    | (with_reducible apply State.wr_kept)
    | (with_reducible apply State.notice_kept)
    | (intro _)
    | (dsimp only)

theorem State.rtcSetCount_kept {s : State} (h_s : Kept T s₀ s)  (hp : Sub 0x20000020000000802 T) : Kept T s₀ (State.rtcSetCount s) := by
  unfold State.rtcSetCount
  try dsimp only
  repeat' first
    | (with_reducible assumption)
    | ((with_reducible refine Sub.trans hp ?_); rfl)
    | ((with_reducible refine Sub.bit hp ?_); decide)
    | (with_reducible apply State.rtcReject_kept)
    | (with_reducible apply State.loadNext_kept)
    | split
    | (lift_lets; intro x; refine Kept.cut (s := x) ?_ (fun hx => ?_) <;> [subst x; clear_value x])
    | (intro x; refine Kept.cut (s := x) ?_ (fun hx => ?_) <;> [subst x; clear_value x])
    | (lift_lets; intro x; subst x)
    | (intro x; subst x)
    | (intro _)
    | (dsimp only)

theorem State.rtcSetFields_kept {s : State} (h_s : Kept T s₀ s)  (hp : Sub 0x20000020000000802 T) : Kept T s₀ (State.rtcSetFields s) := by
  unfold State.rtcSetFields
  try dsimp only
  repeat' first
    | (with_reducible assumption)
    | ((with_reducible refine Sub.trans hp ?_); rfl)
    | ((with_reducible refine Sub.bit hp ?_); decide)
    | (with_reducible apply State.rtcReject_kept)
    | (with_reducible apply State.loadNext_kept)
    | split
    | (lift_lets; intro x; refine Kept.cut (s := x) ?_ (fun hx => ?_) <;> [subst x; clear_value x])
    | (intro x; refine Kept.cut (s := x) ?_ (fun hx => ?_) <;> [subst x; clear_value x])
    | (lift_lets; intro x; subst x)
    | (intro x; subst x)
    | (intro _)
    | (dsimp only)

theorem State.rtcStep_kept {s : State} (h_s : Kept T s₀ s)  (hp : Sub 0x800 T) : Kept T s₀ (State.rtcStep s) := by
  unfold State.rtcStep
  try dsimp only
  repeat' first
    | (with_reducible assumption)
    | ((with_reducible refine Sub.trans hp ?_); rfl)
    | ((with_reducible refine Sub.bit hp ?_); decide)
    | (with_reducible apply State.loadNext_kept)
    | (intro _)
    | (dsimp only)

theorem State.trimBy_kept {s : State} (h_s : Kept T s₀ s) (e : Int) (φ : Int) (hp : Sub 0x20000020000000002 T) : Kept T s₀ (State.trimBy s e φ) := by
  unfold State.trimBy
  try dsimp only
  repeat' first
    | (with_reducible assumption)
    | ((with_reducible refine Sub.trans hp ?_); rfl)
    | ((with_reducible refine Sub.bit hp ?_); decide)
    | (with_reducible apply State.wrS_kept)
    | (with_reducible apply State.notice_kept)
    | (lift_lets; intro x; refine Kept.cut (s := x) ?_ (fun hx => ?_) <;> [subst x; clear_value x])
    | (intro x; refine Kept.cut (s := x) ?_ (fun hx => ?_) <;> [subst x; clear_value x])
    | (lift_lets; intro x; subst x)
    | (intro x; subst x)
    | (intro _)
    | (dsimp only)

theorem State.osfSet_kept {s : State} (h_s : Kept T s₀ s)  (hp : Sub 0x420000020100004802 T) : Kept T s₀ (State.osfSet s) := by
  unfold State.osfSet
  try dsimp only
  repeat' first
    | (with_reducible assumption)
    | ((with_reducible refine Sub.trans hp ?_); rfl)
    | ((with_reducible refine Sub.bit hp ?_); decide)
    | (with_reducible apply State.wr_kept)
    | (with_reducible apply State.silt_kept)
    | (with_reducible apply State.rtcNote_kept)
    | (fail_if_no_progress ((with_reducible refine Kept.mkOther ?_ ?_ ?_ (fun q hq => ?_)) <;> [skip; exact rfl; exact rfl; (cases q <;> first | with_reducible exact rfl | exact fun f _ => State.rd_congr rfl f | exact absurd (Sub.bit hp rfl) hq)]))
    | split
    | (lift_lets; intro x; refine Kept.cut (s := x) ?_ (fun hx => ?_) <;> [subst x; clear_value x])
    | (intro x; refine Kept.cut (s := x) ?_ (fun hx => ?_) <;> [subst x; clear_value x])
    | (lift_lets; intro x; subst x)
    | (intro x; subst x)
    | (intro _)
    | (dsimp only)

theorem State.rtcLeapWrite_kept {s : State} (h_s : Kept T s₀ s) (w : Nat) (hp : Sub 0x20000020000000002 T) : Kept T s₀ (State.rtcLeapWrite s w) := by
  unfold State.rtcLeapWrite
  try dsimp only
  repeat' first
    | (with_reducible assumption)
    | ((with_reducible refine Sub.trans hp ?_); rfl)
    | ((with_reducible refine Sub.bit hp ?_); decide)
    | (with_reducible apply State.rtcReject_kept)
    | (with_reducible refine State.wrAll_nil_kept ?_)
    | (with_reducible refine State.wrAll_cons_kept ?_)
    | (with_reducible refine State.wrAll_kept ?_ _ ?_ ?_)
    | (with_reducible apply State.wr_kept)
    | split
    | (intro _)
    | (dsimp only)

end Sys2Proof.Machine
end

