-- ==== Sys2Proof/Laws/KeepTim.lean ====
section
/-! SUPPORT. What the operations of Machine/Tim.lean keep. -/

set_option Elab.async false
set_option linter.unusedTactic false
set_option linter.unreachableTactic false
set_option linter.unusedVariables false

namespace Sys2Proof.Machine

variable {T : Nat → Prop} {s₀ : State}

theorem State.withRaw_kept {s : State} (h_s : Kept T s₀ s) (c : Nat) (hp : Sub 0x400 T) : Kept T s₀ (State.withRaw s c) := by
  unfold State.withRaw
  try dsimp only
  repeat' first
    | (with_reducible assumption)
    | ((with_reducible refine Sub.trans hp ?_); rfl)
    | ((with_reducible refine Sub.bit hp ?_); decide)
    | (fail_if_no_progress ((with_reducible refine Kept.mkOther ?_ ?_ ?_ (fun q hq => ?_)) <;> [skip; exact rfl; exact rfl; (cases q <;> first | with_reducible exact rfl | exact fun f _ => State.rd_congr rfl f | exact absurd (Sub.bit hp rfl) hq)]))
    | (intro _)
    | (dsimp only)

theorem State.tick_kept {s : State} (h_s : Kept T s₀ s)  (hp : Sub 0x400 T) : Kept T s₀ (State.tick s) := by
  unfold State.tick
  try dsimp only
  repeat' first
    | (with_reducible assumption)
    | ((with_reducible refine Sub.trans hp ?_); rfl)
    | ((with_reducible refine Sub.bit hp ?_); decide)
    | (with_reducible apply State.withRaw_kept)
    | split
    | (intro _)
    | (dsimp only)

theorem State.reach_kept {s : State} (h_s : Kept T s₀ s) (c : Nat) (hp : Sub 0x400 T) : Kept T s₀ (State.reach s c) := by
  unfold State.reach
  try dsimp only
  repeat' first
    | (with_reducible assumption)
    | ((with_reducible refine Sub.trans hp ?_); rfl)
    | ((with_reducible refine Sub.bit hp ?_); decide)
    | (with_reducible apply State.withRaw_kept)
    | split
    | (intro _)
    | (dsimp only)

theorem State.trimWindow_kept {s : State} (h_s : Kept T s₀ s) (c : Nat) (hp : Sub 0x20000020000000c02 T) : Kept T s₀ (State.trimWindow s c) := by
  unfold State.trimWindow
  try dsimp only
  repeat' first
    | (with_reducible assumption)
    | ((with_reducible refine Sub.trans hp ?_); rfl)
    | ((with_reducible refine Sub.bit hp ?_); decide)
    | (with_reducible apply State.reach_kept)
    | (with_reducible apply State.windowStart_kept)
    | (with_reducible apply State.rtcStep_kept)
    | (with_reducible apply State.trimBy_kept)
    | split
    | (lift_lets; intro x; refine Kept.cut (s := x) ?_ (fun hx => ?_) <;> [subst x; clear_value x])
    | (intro x; refine Kept.cut (s := x) ?_ (fun hx => ?_) <;> [subst x; clear_value x])
    | (lift_lets; intro x; subst x)
    | (intro x; subst x)
    | (intro _)
    | (dsimp only)

theorem State.setRate_kept {s : State} (h_s : Kept T s₀ s) (r : Int) (hp : Sub 0x10000000000000400 T) : Kept T s₀ (State.setRate s r) := by
  unfold State.setRate
  try dsimp only
  repeat' first
    | (with_reducible assumption)
    | ((with_reducible refine Sub.trans hp ?_); rfl)
    | ((with_reducible refine Sub.bit hp ?_); decide)
    | (with_reducible apply State.wrS_kept)
    | (fail_if_no_progress ((with_reducible refine Kept.mkOther ?_ ?_ ?_ (fun q hq => ?_)) <;> [skip; exact rfl; exact rfl; (cases q <;> first | with_reducible exact rfl | exact fun f _ => State.rd_congr rfl f | exact absurd (Sub.bit hp rfl) hq)]))
    | (lift_lets; intro x; refine Kept.cut (s := x) ?_ (fun hx => ?_) <;> [subst x; clear_value x])
    | (intro x; refine Kept.cut (s := x) ?_ (fun hx => ?_) <;> [subst x; clear_value x])
    | (lift_lets; intro x; subst x)
    | (intro x; subst x)
    | (intro _)
    | (dsimp only)

theorem State.macStep_kept {s : State} (h_s : Kept T s₀ s) (ns : Int) (hp : Sub 0x120000004002 T) : Kept T s₀ (State.macStep s ns) := by
  unfold State.macStep
  try dsimp only
  repeat' first
    | (with_reducible assumption)
    | ((with_reducible refine Sub.trans hp ?_); rfl)
    | ((with_reducible refine Sub.bit hp ?_); decide)
    | (with_reducible apply State.wr_kept)
    | (with_reducible apply State.notice_kept)
    | (fail_if_no_progress ((with_reducible refine Kept.mkOther ?_ ?_ ?_ (fun q hq => ?_)) <;> [skip; exact rfl; exact rfl; (cases q <;> first | with_reducible exact rfl | exact fun f _ => State.rd_congr rfl f | exact absurd (Sub.bit hp rfl) hq)]))
    | split
    | (intro _)
    | (dsimp only)

theorem State.timeStep_kept {s : State} (h_s : Kept T s₀ s) (ns : Int) (hp : Sub 0x10000120000004c02 T) : Kept T s₀ (State.timeStep s ns) := by
  unfold State.timeStep
  try dsimp only
  repeat' first
    | (with_reducible assumption)
    | ((with_reducible refine Sub.trans hp ?_); rfl)
    | ((with_reducible refine Sub.bit hp ?_); decide)
    | (with_reducible apply State.count_kept)
    | (with_reducible apply State.notice_kept)
    | (with_reducible apply State.macStep_kept)
    | (fail_if_no_progress ((with_reducible refine Kept.mkOther ?_ ?_ ?_ (fun q hq => ?_)) <;> [skip; exact rfl; exact rfl; (cases q <;> first | with_reducible exact rfl | exact fun f _ => State.rd_congr rfl f | exact absurd (Sub.bit hp rfl) hq)]))
    | (lift_lets; intro x; refine Kept.cut (s := x) ?_ (fun hx => ?_) <;> [subst x; clear_value x])
    | (intro x; refine Kept.cut (s := x) ?_ (fun hx => ?_) <;> [subst x; clear_value x])
    | (lift_lets; intro x; subst x)
    | (intro x; subst x)
    | (intro _)
    | (dsimp only)

theorem State.askTime_kept {s : State} (h_s : Kept T s₀ s) (v : TimeMode) (hp : Sub 0x10 T) : Kept T s₀ (State.askTime s v) := by
  unfold State.askTime
  try dsimp only
  repeat' first
    | (with_reducible assumption)
    | ((with_reducible refine Sub.trans hp ?_); rfl)
    | ((with_reducible refine Sub.bit hp ?_); decide)
    | (fail_if_no_progress ((with_reducible refine Kept.mkOther ?_ ?_ ?_ (fun q hq => ?_)) <;> [skip; exact rfl; exact rfl; (cases q <;> first | with_reducible exact rfl | exact fun f _ => State.rd_congr rfl f | exact absurd (Sub.bit hp rfl) hq)]))
    | (lift_lets; intro x; refine Kept.cut (s := x) ?_ (fun hx => ?_) <;> [subst x; clear_value x])
    | (intro x; refine Kept.cut (s := x) ?_ (fun hx => ?_) <;> [subst x; clear_value x])
    | (lift_lets; intro x; subst x)
    | (intro x; subst x)
    | (intro _)
    | (dsimp only)

theorem State.setTime_kept {s : State} (h_s : Kept T s₀ s) (v : TimeMode) (hp : Sub 0x430000020100000c12 T) : Kept T s₀ (State.setTime s v) := by
  unfold State.setTime
  try dsimp only
  repeat' first
    | (with_reducible assumption)
    | ((with_reducible refine Sub.trans hp ?_); rfl)
    | ((with_reducible refine Sub.bit hp ?_); decide)
    | (with_reducible apply State.wrB_kept)
    | (with_reducible apply State.silt_kept)
    | (with_reducible apply State.notice_kept)
    | (with_reducible apply State.askTime_kept)
    | (with_reducible apply State.windowStart_kept)
    | (with_reducible apply State.rtcStep_kept)
    | (fail_if_no_progress ((with_reducible refine Kept.mkOther ?_ ?_ ?_ (fun q hq => ?_)) <;> [skip; exact rfl; exact rfl; (cases q <;> first | with_reducible exact rfl | exact fun f _ => State.rd_congr rfl f | exact absurd (Sub.bit hp rfl) hq)]))
    | split
    | (lift_lets; intro x; refine Kept.cut (s := x) ?_ (fun hx => ?_) <;> [subst x; clear_value x])
    | (intro x; refine Kept.cut (s := x) ?_ (fun hx => ?_) <;> [subst x; clear_value x])
    | (lift_lets; intro x; subst x)
    | (intro x; subst x)
    | (intro _)
    | (dsimp only)

theorem State.setPtpState_kept {s : State} (h_s : Kept T s₀ s) (k : Nat) (v : Nat) (hp : Sub 0x10000000000000000 T) : Kept T s₀ (State.setPtpState s k v) := by
  unfold State.setPtpState
  try dsimp only
  repeat' first
    | (with_reducible assumption)
    | ((with_reducible refine Sub.trans hp ?_); rfl)
    | ((with_reducible refine Sub.bit hp ?_); decide)
    | (with_reducible apply State.wr_kept)
    | (intro _)
    | (dsimp only)

theorem State.setServo_kept {s : State} (h_s : Kept T s₀ s) (i : Int) (run : Nat) (hp : Sub 0x400 T) : Kept T s₀ (State.setServo s i run) := by
  unfold State.setServo
  try dsimp only
  repeat' first
    | (with_reducible assumption)
    | ((with_reducible refine Sub.trans hp ?_); rfl)
    | ((with_reducible refine Sub.bit hp ?_); decide)
    | (fail_if_no_progress ((with_reducible refine Kept.mkOther ?_ ?_ ?_ (fun q hq => ?_)) <;> [skip; exact rfl; exact rfl; (cases q <;> first | with_reducible exact rfl | exact fun f _ => State.rd_congr rfl f | exact absurd (Sub.bit hp rfl) hq)]))
    | (intro _)
    | (dsimp only)

theorem State.servoAdjust_kept {s : State} (h_s : Kept T s₀ s) (θ : Int) (hp : Sub 0x10000000000000400 T) : Kept T s₀ (State.servoAdjust s θ) := by
  unfold State.servoAdjust
  try dsimp only
  repeat' first
    | (with_reducible assumption)
    | ((with_reducible refine Sub.trans hp ?_); rfl)
    | ((with_reducible refine Sub.bit hp ?_); decide)
    | (with_reducible apply State.setRate_kept)
    | (with_reducible apply State.setServo_kept)
    | (lift_lets; intro x; refine Kept.cut (s := x) ?_ (fun hx => ?_) <;> [subst x; clear_value x])
    | (intro x; refine Kept.cut (s := x) ?_ (fun hx => ?_) <;> [subst x; clear_value x])
    | (lift_lets; intro x; subst x)
    | (intro x; subst x)
    | (intro _)
    | (dsimp only)

theorem State.servo_kept {s : State} (h_s : Kept T s₀ s) (θ : Int) (hp : Sub 0x430000120100004c12 T) : Kept T s₀ (State.servo s θ) := by
  unfold State.servo
  try dsimp only
  repeat' first
    | (with_reducible assumption)
    | ((with_reducible refine Sub.trans hp ?_); rfl)
    | ((with_reducible refine Sub.bit hp ?_); decide)
    | (with_reducible apply State.wrS_kept)
    | (with_reducible apply State.timeStep_kept)
    | (with_reducible apply State.setServo_kept)
    | (with_reducible apply State.setTime_kept)
    | (with_reducible apply State.servoAdjust_kept)
    | split
    | (lift_lets; intro x; refine Kept.cut (s := x) ?_ (fun hx => ?_) <;> [subst x; clear_value x])
    | (intro x; refine Kept.cut (s := x) ?_ (fun hx => ?_) <;> [subst x; clear_value x])
    | (lift_lets; intro x; subst x)
    | (intro x; subst x)
    | (intro _)
    | (dsimp only)

theorem State.syncActs_kept {s : State} (h_s : Kept T s₀ s) (rx : Int) (origin : Int) (corr : Int) (hp : Sub 0x430000120100004c12 T) : Kept T s₀ (State.syncActs s rx origin corr) := by
  unfold State.syncActs
  try dsimp only
  repeat' first
    | (with_reducible assumption)
    | ((with_reducible refine Sub.trans hp ?_); rfl)
    | ((with_reducible refine Sub.bit hp ?_); decide)
    | (with_reducible apply State.servo_kept)
    | (fail_if_no_progress ((with_reducible refine Kept.mkOther ?_ ?_ ?_ (fun q hq => ?_)) <;> [skip; exact rfl; exact rfl; (cases q <;> first | with_reducible exact rfl | exact fun f _ => State.rd_congr rfl f | exact absurd (Sub.bit hp rfl) hq)]))
    | (lift_lets; intro x; refine Kept.cut (s := x) ?_ (fun hx => ?_) <;> [subst x; clear_value x])
    | (intro x; refine Kept.cut (s := x) ?_ (fun hx => ?_) <;> [subst x; clear_value x])
    | (lift_lets; intro x; subst x)
    | (intro x; subst x)
    | (intro _)
    | (dsimp only)

theorem State.calibrated_kept {s : State} (h_s : Kept T s₀ s) (k : Nat) (hp : Sub 0x10000000000000000 T) : Kept T s₀ (State.calibrated s k) := by
  unfold State.calibrated
  try dsimp only
  repeat' first
    | (with_reducible assumption)
    | ((with_reducible refine Sub.trans hp ?_); rfl)
    | ((with_reducible refine Sub.bit hp ?_); decide)
    | (with_reducible apply State.setPtpState_kept)
    | split
    | (intro _)
    | (dsimp only)

theorem State.syncTaken_kept {s : State} (h_s : Kept T s₀ s) (k : Nat) (sender : Nat) (senderPort : Nat) (domain : Nat) (seq : Nat) (rx : Int) (origin : Int) (corr : Int) (twoStep : Bool) (hp : Sub 0x430000120100004c12 T) : Kept T s₀ (State.syncTaken s k sender senderPort domain seq rx origin corr twoStep) := by
  unfold State.syncTaken
  try dsimp only
  repeat' first
    | (with_reducible assumption)
    | ((with_reducible refine Sub.trans hp ?_); rfl)
    | ((with_reducible refine Sub.bit hp ?_); decide)
    | (with_reducible apply State.calibrated_kept)
    | (with_reducible apply State.syncActs_kept)
    | (fail_if_no_progress ((with_reducible refine Kept.mkOther ?_ ?_ ?_ (fun q hq => ?_)) <;> [skip; exact rfl; exact rfl; (cases q <;> first | with_reducible exact rfl | exact fun f _ => State.rd_congr rfl f | exact absurd (Sub.bit hp rfl) hq)]))
    | split
    | (lift_lets; intro x; refine Kept.cut (s := x) ?_ (fun hx => ?_) <;> [subst x; clear_value x])
    | (intro x; refine Kept.cut (s := x) ?_ (fun hx => ?_) <;> [subst x; clear_value x])
    | (lift_lets; intro x; subst x)
    | (intro x; subst x)
    | (intro _)
    | (dsimp only)

theorem State.followUpTaken_kept {s : State} (h_s : Kept T s₀ s) (k : Nat) (sender : Nat) (senderPort : Nat) (domain : Nat) (seq : Nat) (origin : Int) (corr : Int) (hp : Sub 0x430000120100004c12 T) : Kept T s₀ (State.followUpTaken s k sender senderPort domain seq origin corr) := by
  unfold State.followUpTaken
  try dsimp only
  repeat' first
    | (with_reducible assumption)
    | ((with_reducible refine Sub.trans hp ?_); rfl)
    | ((with_reducible refine Sub.bit hp ?_); decide)
    | (with_reducible apply State.syncActs_kept)
    | (fail_if_no_progress ((with_reducible refine Kept.mkOther ?_ ?_ ?_ (fun q hq => ?_)) <;> [skip; exact rfl; exact rfl; (cases q <;> first | with_reducible exact rfl | exact fun f _ => State.rd_congr rfl f | exact absurd (Sub.bit hp rfl) hq)]))
    | split
    | (intro _)
    | (dsimp only)

theorem State.ptpEmit_kept {s : State} (h_s : Kept T s₀ s) (k : Nat) (kind : PtpKind) (seq : Nat) (domain : Nat) (ns : Int) (data : Option Announce) (hp : Sub 0x2 T) : Kept T s₀ (State.ptpEmit s k kind seq domain ns data) := by
  unfold State.ptpEmit
  try dsimp only
  repeat' first
    | (with_reducible assumption)
    | ((with_reducible refine Sub.trans hp ?_); rfl)
    | ((with_reducible refine Sub.bit hp ?_); decide)
    | (with_reducible apply State.emit_kept)
    | (with_reducible refine Kept.foldl _ _ ?_ (fun _ _ _ => ?_))
    | (lift_lets; intro x; refine Kept.cut (s := x) ?_ (fun hx => ?_) <;> [subst x; clear_value x])
    | (intro x; refine Kept.cut (s := x) ?_ (fun hx => ?_) <;> [subst x; clear_value x])
    | (lift_lets; intro x; subst x)
    | (intro x; subst x)
    | (intro _)
    | (dsimp only)

theorem State.delayReqTaken_kept {s : State} (h_s : Kept T s₀ s) (k : Nat) (domain : Nat) (seq : Nat) (rx : Int) (hp : Sub 0x2 T) : Kept T s₀ (State.delayReqTaken s k domain seq rx) := by
  unfold State.delayReqTaken
  try dsimp only
  repeat' first
    | (with_reducible assumption)
    | ((with_reducible refine Sub.trans hp ?_); rfl)
    | ((with_reducible refine Sub.bit hp ?_); decide)
    | (with_reducible apply State.ptpEmit_kept)
    | split
    | (intro _)
    | (dsimp only)

theorem State.delaySent_kept {s : State} (h_s : Kept T s₀ s) (seq : Nat) (tx : Int) (hp : Sub 0x400 T) : Kept T s₀ (State.delaySent s seq tx) := by
  unfold State.delaySent
  try dsimp only
  repeat' first
    | (with_reducible assumption)
    | ((with_reducible refine Sub.trans hp ?_); rfl)
    | ((with_reducible refine Sub.bit hp ?_); decide)
    | (fail_if_no_progress ((with_reducible refine Kept.mkOther ?_ ?_ ?_ (fun q hq => ?_)) <;> [skip; exact rfl; exact rfl; (cases q <;> first | with_reducible exact rfl | exact fun f _ => State.rd_congr rfl f | exact absurd (Sub.bit hp rfl) hq)]))
    | (intro _)
    | (dsimp only)

theorem State.delayRespTaken_kept {s : State} (h_s : Kept T s₀ s) (k : Nat) (sender : Nat) (senderPort : Nat) (domain : Nat) (seq : Nat) (t4 : Int) (corr : Int) (hp : Sub 0x10000000000000400 T) : Kept T s₀ (State.delayRespTaken s k sender senderPort domain seq t4 corr) := by
  unfold State.delayRespTaken
  try dsimp only
  repeat' first
    | (with_reducible assumption)
    | ((with_reducible refine Sub.trans hp ?_); rfl)
    | ((with_reducible refine Sub.bit hp ?_); decide)
    | (with_reducible apply State.wr_kept)
    | (fail_if_no_progress ((with_reducible refine Kept.mkOther ?_ ?_ ?_ (fun q hq => ?_)) <;> [skip; exact rfl; exact rfl; (cases q <;> first | with_reducible exact rfl | exact fun f _ => State.rd_congr rfl f | exact absurd (Sub.bit hp rfl) hq)]))
    | split
    | (lift_lets; intro x; refine Kept.cut (s := x) ?_ (fun hx => ?_) <;> [subst x; clear_value x])
    | (intro x; refine Kept.cut (s := x) ?_ (fun hx => ?_) <;> [subst x; clear_value x])
    | (lift_lets; intro x; subst x)
    | (intro x; subst x)
    | (intro _)
    | (dsimp only)

theorem State.ptpAge_kept {s : State} (h_s : Kept T s₀ s)  (hp : Sub 0x400 T) : Kept T s₀ (State.ptpAge s) := by
  unfold State.ptpAge
  try dsimp only
  repeat' first
    | (with_reducible assumption)
    | ((with_reducible refine Sub.trans hp ?_); rfl)
    | ((with_reducible refine Sub.bit hp ?_); decide)
    | (fail_if_no_progress ((with_reducible refine Kept.mkOther ?_ ?_ ?_ (fun q hq => ?_)) <;> [skip; exact rfl; exact rfl; (cases q <;> first | with_reducible exact rfl | exact fun f _ => State.rd_congr rfl f | exact absurd (Sub.bit hp rfl) hq)]))
    | (intro _)
    | (dsimp only)

theorem State.putParent_kept {s : State} (h_s : Kept T s₀ s) (b : Option ForeignMaster) (hp : Sub 0x10000000000000000 T) : Kept T s₀ (State.putParent s b) := by
  unfold State.putParent
  try dsimp only
  repeat' first
    | (with_reducible assumption)
    | ((with_reducible refine Sub.trans hp ?_); rfl)
    | ((with_reducible refine Sub.bit hp ?_); decide)
    | (with_reducible refine State.wrAll_nil_kept ?_)
    | (with_reducible refine State.wrAll_cons_kept ?_)
    | (with_reducible refine State.wrAll_kept ?_ _ ?_ ?_)
    | (with_reducible apply State.wr_kept)
    | split
    | (intro _)
    | (dsimp only)

theorem State.setPreMaster_kept {s : State} (h_s : Kept T s₀ s) (l : List (Nat × Nat)) (hp : Sub 0x400 T) : Kept T s₀ (State.setPreMaster s l) := by
  unfold State.setPreMaster
  try dsimp only
  repeat' first
    | (with_reducible assumption)
    | ((with_reducible refine Sub.trans hp ?_); rfl)
    | ((with_reducible refine Sub.bit hp ?_); decide)
    | (fail_if_no_progress ((with_reducible refine Kept.mkOther ?_ ?_ ?_ (fun q hq => ?_)) <;> [skip; exact rfl; exact rfl; (cases q <;> first | with_reducible exact rfl | exact fun f _ => State.rd_congr rfl f | exact absurd (Sub.bit hp rfl) hq)]))
    | (intro _)
    | (dsimp only)

theorem State.leavePre_kept {s : State} (h_s : Kept T s₀ s) (k : Nat) (hp : Sub 0x400 T) : Kept T s₀ (State.leavePre s k) := by
  unfold State.leavePre
  try dsimp only
  repeat' first
    | (with_reducible assumption)
    | ((with_reducible refine Sub.trans hp ?_); rfl)
    | ((with_reducible refine Sub.bit hp ?_); decide)
    | (with_reducible apply State.setPreMaster_kept)
    | (lift_lets; intro x; refine Kept.cut (s := x) ?_ (fun hx => ?_) <;> [subst x; clear_value x])
    | (intro x; refine Kept.cut (s := x) ?_ (fun hx => ?_) <;> [subst x; clear_value x])
    | (lift_lets; intro x; subst x)
    | (intro x; subst x)
    | (intro _)
    | (dsimp only)

theorem State.takeDecision_kept {s : State} (h_s : Kept T s₀ s) (same : Bool) (k : Nat) (d : Nat) (hp : Sub 0x10000000000000400 T) : Kept T s₀ (State.takeDecision s same k d) := by
  unfold State.takeDecision
  try dsimp only
  repeat' first
    | (with_reducible assumption)
    | ((with_reducible refine Sub.trans hp ?_); rfl)
    | ((with_reducible refine Sub.bit hp ?_); decide)
    | (with_reducible apply State.leavePre_kept)
    | (with_reducible apply State.setPtpState_kept)
    | (with_reducible apply State.setPreMaster_kept)
    | split
    | (lift_lets; intro x; refine Kept.cut (s := x) ?_ (fun hx => ?_) <;> [subst x; clear_value x])
    | (intro x; refine Kept.cut (s := x) ?_ (fun hx => ?_) <;> [subst x; clear_value x])
    | (lift_lets; intro x; subst x)
    | (intro x; subst x)
    | (intro _)
    | (dsimp only)

theorem State.bmca_kept {s : State} (h_s : Kept T s₀ s) (timeout : Bool) (hp : Sub 0x430000020100000c12 T) : Kept T s₀ (State.bmca s timeout) := by
  unfold State.bmca
  repeat' first
    | (with_reducible assumption)
    | ((with_reducible refine Sub.trans hp ?_); rfl)
    | ((with_reducible refine Sub.bit hp ?_); decide)
    | (with_reducible apply State.ptpAge_kept)
    | (with_reducible apply State.putParent_kept)
    | (with_reducible apply State.takeDecision_kept)
    | (with_reducible apply State.setTime_kept)
    | (with_reducible refine Kept.foldl _ _ ?_ (fun _ _ _ => ?_))
    | (fail_if_no_progress ((with_reducible refine Kept.mkOther ?_ ?_ ?_ (fun q hq => ?_)) <;> [skip; exact rfl; exact rfl; (cases q <;> first | with_reducible exact rfl | exact fun f _ => State.rd_congr rfl f | exact absurd (Sub.bit hp rfl) hq)]))
    | split
    | (lift_lets; intro x; refine Kept.cut (s := x) ?_ (fun hx => ?_) <;> [subst x; clear_value x])
    | (intro x; refine Kept.cut (s := x) ?_ (fun hx => ?_) <;> [subst x; clear_value x])
    | (lift_lets; intro x; subst x)
    | (intro x; subst x)
    | (intro _)
    | (dsimp only)

theorem State.preMasterEnds_kept {s : State} (h_s : Kept T s₀ s)  (hp : Sub 0x10000000000000400 T) : Kept T s₀ (State.preMasterEnds s) := by
  unfold State.preMasterEnds
  try dsimp only
  repeat' first
    | (with_reducible assumption)
    | ((with_reducible refine Sub.trans hp ?_); rfl)
    | ((with_reducible refine Sub.bit hp ?_); decide)
    | (with_reducible apply State.leavePre_kept)
    | (with_reducible apply State.setPtpState_kept)
    | (with_reducible refine Kept.foldl _ _ ?_ (fun _ _ _ => ?_))
    | split
    | (lift_lets; intro x; refine Kept.cut (s := x) ?_ (fun hx => ?_) <;> [subst x; clear_value x])
    | (intro x; refine Kept.cut (s := x) ?_ (fun hx => ?_) <;> [subst x; clear_value x])
    | (lift_lets; intro x; subst x)
    | (intro x; subst x)
    | (intro _)
    | (dsimp only)

theorem State.ptpCatchUp_kept {s : State} (h_s : Kept T s₀ s)  (hp : Sub 0x430000020100000c12 T) : Kept T s₀ (State.ptpCatchUp s) := by
  unfold State.ptpCatchUp
  try dsimp only
  repeat' first
    | (with_reducible assumption)
    | ((with_reducible refine Sub.trans hp ?_); rfl)
    | ((with_reducible refine Sub.bit hp ?_); decide)
    | (with_reducible apply State.bmca_kept)
    | (with_reducible apply State.preMasterEnds_kept)
    | split
    | (intro _)
    | (dsimp only)

theorem State.armLeap_kept {s : State} (h_s : Kept T s₀ s) (del : Bool) (hp : Sub 0x20000000000000000 T) : Kept T s₀ (State.armLeap s del) := by
  unfold State.armLeap
  try dsimp only
  repeat' first
    | (with_reducible assumption)
    | ((with_reducible refine Sub.trans hp ?_); rfl)
    | ((with_reducible refine Sub.bit hp ?_); decide)
    | (with_reducible refine State.wrAll_nil_kept ?_)
    | (with_reducible refine State.wrAll_cons_kept ?_)
    | (with_reducible refine State.wrAll_kept ?_ _ ?_ ?_)
    | (with_reducible apply State.wr_kept)
    | split
    | (intro _)
    | (dsimp only)

theorem State.announceUtc_kept {s : State} (h_s : Kept T s₀ s) (a : Announce) (hp : Sub 0x30000000000000800 T) : Kept T s₀ (State.announceUtc s a) := by
  unfold State.announceUtc
  try dsimp only
  repeat' first
    | (with_reducible assumption)
    | ((with_reducible refine Sub.trans hp ?_); rfl)
    | ((with_reducible refine Sub.bit hp ?_); decide)
    | (with_reducible apply State.armLeap_kept)
    | (with_reducible refine State.wrAll_nil_kept ?_)
    | (with_reducible refine State.wrAll_cons_kept ?_)
    | (with_reducible refine State.wrAll_kept ?_ _ ?_ ?_)
    | (with_reducible apply State.wr_kept)
    | (fail_if_no_progress ((with_reducible refine Kept.mkOther ?_ ?_ ?_ (fun q hq => ?_)) <;> [skip; exact rfl; exact rfl; (cases q <;> first | with_reducible exact rfl | exact fun f _ => State.rd_congr rfl f | exact absurd (Sub.bit hp rfl) hq)]))
    | split
    | (lift_lets; intro x; refine Kept.cut (s := x) ?_ (fun hx => ?_) <;> [subst x; clear_value x])
    | (intro x; refine Kept.cut (s := x) ?_ (fun hx => ?_) <;> [subst x; clear_value x])
    | (lift_lets; intro x; subst x)
    | (intro x; subst x)
    | (intro _)
    | (dsimp only)

theorem State.announceHeard_kept {s : State} (h_s : Kept T s₀ s) (k : Nat) (a : Announce) (hp : Sub 0x430000020100000c12 T) : Kept T s₀ (State.announceHeard s k a) := by
  unfold State.announceHeard
  try dsimp only
  repeat' first
    | (with_reducible assumption)
    | ((with_reducible refine Sub.trans hp ?_); rfl)
    | ((with_reducible refine Sub.bit hp ?_); decide)
    | (with_reducible apply State.ptpAge_kept)
    | (with_reducible apply State.bmca_kept)
    | (with_reducible apply State.preMasterEnds_kept)
    | (fail_if_no_progress ((with_reducible refine Kept.mkOther ?_ ?_ ?_ (fun q hq => ?_)) <;> [skip; exact rfl; exact rfl; (cases q <;> first | with_reducible exact rfl | exact fun f _ => State.rd_congr rfl f | exact absurd (Sub.bit hp rfl) hq)]))
    | (lift_lets; intro x; refine Kept.cut (s := x) ?_ (fun hx => ?_) <;> [subst x; clear_value x])
    | (intro x; refine Kept.cut (s := x) ?_ (fun hx => ?_) <;> [subst x; clear_value x])
    | (lift_lets; intro x; subst x)
    | (intro x; subst x)
    | (intro _)
    | (dsimp only)

theorem State.announceRx_kept {s : State} (h_s : Kept T s₀ s) (k : Nat) (a : Announce) (hp : Sub 0x430000020100000c12 T) : Kept T s₀ (State.announceRx s k a) := by
  unfold State.announceRx
  try dsimp only
  repeat' first
    | (with_reducible assumption)
    | ((with_reducible refine Sub.trans hp ?_); rfl)
    | ((with_reducible refine Sub.bit hp ?_); decide)
    | (with_reducible apply State.announceHeard_kept)
    | (with_reducible apply State.announceUtc_kept)
    | split
    | (lift_lets; intro x; refine Kept.cut (s := x) ?_ (fun hx => ?_) <;> [subst x; clear_value x])
    | (intro x; refine Kept.cut (s := x) ?_ (fun hx => ?_) <;> [subst x; clear_value x])
    | (lift_lets; intro x; subst x)
    | (intro x; subst x)
    | (intro _)
    | (dsimp only)

theorem State.syncTimeout_kept {s : State} (h_s : Kept T s₀ s)  (hp : Sub 0x430000020100000c12 T) : Kept T s₀ (State.syncTimeout s) := by
  unfold State.syncTimeout
  try dsimp only
  repeat' first
    | (with_reducible assumption)
    | ((with_reducible refine Sub.trans hp ?_); rfl)
    | ((with_reducible refine Sub.bit hp ?_); decide)
    | (with_reducible apply State.setTime_kept)
    | (with_reducible apply State.bmca_kept)
    | (with_reducible apply State.preMasterEnds_kept)
    | (fail_if_no_progress ((with_reducible refine Kept.mkOther ?_ ?_ ?_ (fun q hq => ?_)) <;> [skip; exact rfl; exact rfl; (cases q <;> first | with_reducible exact rfl | exact fun f _ => State.rd_congr rfl f | exact absurd (Sub.bit hp rfl) hq)]))
    | split
    | (lift_lets; intro x; refine Kept.cut (s := x) ?_ (fun hx => ?_) <;> [subst x; clear_value x])
    | (intro x; refine Kept.cut (s := x) ?_ (fun hx => ?_) <;> [subst x; clear_value x])
    | (lift_lets; intro x; subst x)
    | (intro x; subst x)
    | (intro _)
    | (dsimp only)

theorem State.ptpForget_kept {s : State} (h_s : Kept T s₀ s)  (hp : Sub 0x10000000000000400 T) : Kept T s₀ (State.ptpForget s) := by
  unfold State.ptpForget
  try dsimp only
  repeat' first
    | (with_reducible assumption)
    | ((with_reducible refine Sub.trans hp ?_); rfl)
    | ((with_reducible refine Sub.bit hp ?_); decide)
    | (with_reducible apply State.putParent_kept)
    | (fail_if_no_progress ((with_reducible refine Kept.mkOther ?_ ?_ ?_ (fun q hq => ?_)) <;> [skip; exact rfl; exact rfl; (cases q <;> first | with_reducible exact rfl | exact fun f _ => State.rd_congr rfl f | exact absurd (Sub.bit hp rfl) hq)]))
    | (intro _)
    | (dsimp only)

theorem State.ptpPorts_kept {s : State} (h_s : Kept T s₀ s)  (hp : Sub 0x10000000000000000 T) : Kept T s₀ (State.ptpPorts s) := by
  unfold State.ptpPorts
  try dsimp only
  repeat' first
    | (with_reducible assumption)
    | ((with_reducible refine Sub.trans hp ?_); rfl)
    | ((with_reducible refine Sub.bit hp ?_); decide)
    | (with_reducible apply State.setPtpState_kept)
    | (with_reducible refine Kept.foldl _ _ ?_ (fun _ _ _ => ?_))
    | split
    | (lift_lets; intro x; refine Kept.cut (s := x) ?_ (fun hx => ?_) <;> [subst x; clear_value x])
    | (intro x; refine Kept.cut (s := x) ?_ (fun hx => ?_) <;> [subst x; clear_value x])
    | (lift_lets; intro x; subst x)
    | (intro x; subst x)
    | (intro _)
    | (dsimp only)

theorem State.ptpFollow_kept {s : State} (h_s : Kept T s₀ s)  (hp : Sub 0x430000020100000c12 T) : Kept T s₀ (State.ptpFollow s) := by
  unfold State.ptpFollow
  try dsimp only
  repeat' first
    | (with_reducible assumption)
    | ((with_reducible refine Sub.trans hp ?_); rfl)
    | ((with_reducible refine Sub.bit hp ?_); decide)
    | (with_reducible apply State.ptpPorts_kept)
    | (with_reducible apply State.ptpForget_kept)
    | (with_reducible apply State.setTime_kept)
    | split
    | (lift_lets; intro x; refine Kept.cut (s := x) ?_ (fun hx => ?_) <;> [subst x; clear_value x])
    | (intro x; refine Kept.cut (s := x) ?_ (fun hx => ?_) <;> [subst x; clear_value x])
    | (lift_lets; intro x; subst x)
    | (intro x; subst x)
    | (intro _)
    | (dsimp only)

theorem State.tsPublish_kept {s : State} (h_s : Kept T s₀ s)  (hp : Sub 0x10000020000000002 T) : Kept T s₀ (State.tsPublish s) := by
  unfold State.tsPublish
  try dsimp only
  repeat' first
    | (with_reducible assumption)
    | ((with_reducible refine Sub.trans hp ?_); rfl)
    | ((with_reducible refine Sub.bit hp ?_); decide)
    | (with_reducible refine State.wrAll_nil_kept ?_)
    | (with_reducible refine State.wrAll_cons_kept ?_)
    | (with_reducible refine State.wrAll_kept ?_ _ ?_ ?_)
    | (with_reducible apply State.wr_kept)
    | (with_reducible apply State.publish_kept)
    | (with_reducible apply State.notice_kept)
    | split
    | (intro _)
    | (dsimp only)

theorem State.tsTaken_kept {s : State} (h_s : Kept T s₀ s) (e : TsEntry) (hp : Sub 0x10000020000000402 T) : Kept T s₀ (State.tsTaken s e) := by
  unfold State.tsTaken
  try dsimp only
  repeat' first
    | (with_reducible assumption)
    | ((with_reducible refine Sub.trans hp ?_); rfl)
    | ((with_reducible refine Sub.bit hp ?_); decide)
    | (with_reducible apply State.count_kept)
    | (with_reducible refine State.wrAll_nil_kept ?_)
    | (with_reducible refine State.wrAll_cons_kept ?_)
    | (with_reducible refine State.wrAll_kept ?_ _ ?_ ?_)
    | (with_reducible apply State.wr_kept)
    | (with_reducible apply State.notice_kept)
    | (with_reducible apply State.tsPublish_kept)
    | (fail_if_no_progress ((with_reducible refine Kept.mkOther ?_ ?_ ?_ (fun q hq => ?_)) <;> [skip; exact rfl; exact rfl; (cases q <;> first | with_reducible exact rfl | exact fun f _ => State.rd_congr rfl f | exact absurd (Sub.bit hp rfl) hq)]))
    | split
    | (lift_lets; intro x; refine Kept.cut (s := x) ?_ (fun hx => ?_) <;> [subst x; clear_value x])
    | (intro x; refine Kept.cut (s := x) ?_ (fun hx => ?_) <;> [subst x; clear_value x])
    | (lift_lets; intro x; subst x)
    | (intro x; subst x)
    | (intro _)
    | (dsimp only)

theorem State.tsPop_kept {s : State} (h_s : Kept T s₀ s) (count : Nat) (hp : Sub 0x10000020000000402 T) : Kept T s₀ (State.tsPop s count) := by
  unfold State.tsPop
  try dsimp only
  repeat' first
    | (with_reducible assumption)
    | ((with_reducible refine Sub.trans hp ?_); rfl)
    | ((with_reducible refine Sub.bit hp ?_); decide)
    | (with_reducible apply State.tsPublish_kept)
    | (with_reducible apply State.notice_kept)
    | (fail_if_no_progress ((with_reducible refine Kept.mkOther ?_ ?_ ?_ (fun q hq => ?_)) <;> [skip; exact rfl; exact rfl; (cases q <;> first | with_reducible exact rfl | exact fun f _ => State.rd_congr rfl f | exact absurd (Sub.bit hp rfl) hq)]))
    | split
    | (intro _)
    | (dsimp only)

theorem State.stampActs_kept {s : State} (h_s : Kept T s₀ s) (h : HeldStamp) (hp : Sub 0x430000120100004c12 T) : Kept T s₀ (State.stampActs s h) := by
  unfold State.stampActs
  try dsimp only
  repeat' first
    | (with_reducible assumption)
    | ((with_reducible refine Sub.trans hp ?_); rfl)
    | ((with_reducible refine Sub.bit hp ?_); decide)
    | (with_reducible apply State.tsTaken_kept)
    | (with_reducible apply State.syncTaken_kept)
    | (with_reducible apply State.followUpTaken_kept)
    | (with_reducible apply State.delayReqTaken_kept)
    | (with_reducible apply State.delaySent_kept)
    | (with_reducible apply State.delayRespTaken_kept)
    | split
    | (intro _)
    | (dsimp only)

theorem State.stamped_kept {s : State} (h_s : Kept T s₀ s) (h : HeldStamp) (hp : Sub 0x430000120100004c12 T) : Kept T s₀ (State.stamped s h) := by
  unfold State.stamped
  try dsimp only
  repeat' first
    | (with_reducible assumption)
    | ((with_reducible refine Sub.trans hp ?_); rfl)
    | ((with_reducible refine Sub.bit hp ?_); decide)
    | (with_reducible apply State.stampActs_kept)
    | (fail_if_no_progress ((with_reducible refine Kept.mkOther ?_ ?_ ?_ (fun q hq => ?_)) <;> [skip; exact rfl; exact rfl; (cases q <;> first | with_reducible exact rfl | exact fun f _ => State.rd_congr rfl f | exact absurd (Sub.bit hp rfl) hq)]))
    | split
    | (intro _)
    | (dsimp only)

theorem State.stampsRelease_kept {s : State} (h_s : Kept T s₀ s)  (hp : Sub 0x430000120100004c12 T) : Kept T s₀ (State.stampsRelease s) := by
  unfold State.stampsRelease
  try dsimp only
  repeat' first
    | (with_reducible assumption)
    | ((with_reducible refine Sub.trans hp ?_); rfl)
    | ((with_reducible refine Sub.bit hp ?_); decide)
    | (with_reducible apply State.stamped_kept)
    | (with_reducible apply State.stampActs_kept)
    | (with_reducible refine Kept.foldl _ _ ?_ (fun _ _ _ => ?_))
    | (fail_if_no_progress ((with_reducible refine Kept.mkOther ?_ ?_ ?_ (fun q hq => ?_)) <;> [skip; exact rfl; exact rfl; (cases q <;> first | with_reducible exact rfl | exact fun f _ => State.rd_congr rfl f | exact absurd (Sub.bit hp rfl) hq)]))
    | (intro _)
    | (dsimp only)

theorem State.tsPut_kept {s : State} (h_s : Kept T s₀ s) (e : TsEntry) (hp : Sub 0x430000120100004c12 T) : Kept T s₀ (State.tsPut s e) := by
  unfold State.tsPut
  try dsimp only
  repeat' first
    | (with_reducible assumption)
    | ((with_reducible refine Sub.trans hp ?_); rfl)
    | ((with_reducible refine Sub.bit hp ?_); decide)
    | (with_reducible apply State.stamped_kept)
    | (intro _)
    | (dsimp only)

theorem State.syncRx_kept {s : State} (h_s : Kept T s₀ s) (k : Nat) (sender : Nat) (senderPort : Nat) (domain : Nat) (seq : Nat) (rx : Int) (origin : Int) (corr : Int) (twoStep : Bool) (hp : Sub 0x430000120100004c12 T) : Kept T s₀ (State.syncRx s k sender senderPort domain seq rx origin corr twoStep) := by
  unfold State.syncRx
  try dsimp only
  repeat' first
    | (with_reducible assumption)
    | ((with_reducible refine Sub.trans hp ?_); rfl)
    | ((with_reducible refine Sub.bit hp ?_); decide)
    | (with_reducible apply State.stamped_kept)
    | (intro _)
    | (dsimp only)

theorem State.followUpRx_kept {s : State} (h_s : Kept T s₀ s) (k : Nat) (sender : Nat) (senderPort : Nat) (domain : Nat) (seq : Nat) (origin : Int) (corr : Int) (hp : Sub 0x430000120100004c12 T) : Kept T s₀ (State.followUpRx s k sender senderPort domain seq origin corr) := by
  unfold State.followUpRx
  try dsimp only
  repeat' first
    | (with_reducible assumption)
    | ((with_reducible refine Sub.trans hp ?_); rfl)
    | ((with_reducible refine Sub.bit hp ?_); decide)
    | (with_reducible apply State.stamped_kept)
    | (intro _)
    | (dsimp only)

theorem State.delayReqRx_kept {s : State} (h_s : Kept T s₀ s) (k : Nat) (domain : Nat) (seq : Nat) (rx : Int) (hp : Sub 0x430000120100004c12 T) : Kept T s₀ (State.delayReqRx s k domain seq rx) := by
  unfold State.delayReqRx
  try dsimp only
  repeat' first
    | (with_reducible assumption)
    | ((with_reducible refine Sub.trans hp ?_); rfl)
    | ((with_reducible refine Sub.bit hp ?_); decide)
    | (with_reducible apply State.stamped_kept)
    | (intro _)
    | (dsimp only)

theorem State.delayRespRx_kept {s : State} (h_s : Kept T s₀ s) (k : Nat) (sender : Nat) (senderPort : Nat) (domain : Nat) (seq : Nat) (t4 : Int) (corr : Int) (hp : Sub 0x430000120100004c12 T) : Kept T s₀ (State.delayRespRx s k sender senderPort domain seq t4 corr) := by
  unfold State.delayRespRx
  try dsimp only
  repeat' first
    | (with_reducible assumption)
    | ((with_reducible refine Sub.trans hp ?_); rfl)
    | ((with_reducible refine Sub.bit hp ?_); decide)
    | (with_reducible apply State.stamped_kept)
    | (intro _)
    | (dsimp only)

theorem State.ptpTx_kept {s : State} (h_s : Kept T s₀ s) (k : Nat) (kind : PtpKind) (seq : Nat) (ns : Int) (hp : Sub 0x430000120100004c12 T) : Kept T s₀ (State.ptpTx s k kind seq ns) := by
  unfold State.ptpTx
  try dsimp only
  repeat' first
    | (with_reducible assumption)
    | ((with_reducible refine Sub.trans hp ?_); rfl)
    | ((with_reducible refine Sub.bit hp ?_); decide)
    | (with_reducible apply State.ptpCatchUp_kept)
    | (with_reducible apply State.ptpEmit_kept)
    | (with_reducible apply State.stamped_kept)
    | (with_reducible apply State.delaySent_kept)
    | split
    | (lift_lets; intro x; refine Kept.cut (s := x) ?_ (fun hx => ?_) <;> [subst x; clear_value x])
    | (intro x; refine Kept.cut (s := x) ?_ (fun hx => ?_) <;> [subst x; clear_value x])
    | (lift_lets; intro x; subst x)
    | (intro x; subst x)
    | (intro _)
    | (dsimp only)

theorem State.timCfgErr_kept {s : State} (h_s : Kept T s₀ s)  (hp : Sub 0x10000020000000002 T) : Kept T s₀ (State.timCfgErr s) := by
  unfold State.timCfgErr
  try dsimp only
  repeat' first
    | (with_reducible assumption)
    | ((with_reducible refine Sub.trans hp ?_); rfl)
    | ((with_reducible refine Sub.bit hp ?_); decide)
    | (with_reducible apply State.notice_kept)
    | (intro _)
    | (dsimp only)

theorem State.hostState_kept {s : State} (h_s : Kept T s₀ s) (v : Nat) (hp : Sub 0x430000020100000c12 T) : Kept T s₀ (State.hostState s v) := by
  unfold State.hostState
  try dsimp only
  repeat' first
    | (with_reducible assumption)
    | ((with_reducible refine Sub.trans hp ?_); rfl)
    | ((with_reducible refine Sub.bit hp ?_); decide)
    | (with_reducible apply State.timCfgErr_kept)
    | (with_reducible apply State.wr_kept)
    | (with_reducible apply State.setTime_kept)
    | (fail_if_no_progress ((with_reducible refine Kept.mkOther ?_ ?_ ?_ (fun q hq => ?_)) <;> [skip; exact rfl; exact rfl; (cases q <;> first | with_reducible exact rfl | exact fun f _ => State.rd_congr rfl f | exact absurd (Sub.bit hp rfl) hq)]))
    | split
    | (intro _)
    | (dsimp only)

theorem State.hostRate_kept {s : State} (h_s : Kept T s₀ s) (w : Nat) (hp : Sub 0x10000020000000402 T) : Kept T s₀ (State.hostRate s w) := by
  unfold State.hostRate
  try dsimp only
  repeat' first
    | (with_reducible assumption)
    | ((with_reducible refine Sub.trans hp ?_); rfl)
    | ((with_reducible refine Sub.bit hp ?_); decide)
    | (with_reducible apply State.timCfgErr_kept)
    | (with_reducible apply State.setRate_kept)
    | split
    | (intro _)
    | (dsimp only)

theorem State.hostStep_kept {s : State} (h_s : Kept T s₀ s) (w : Nat) (hp : Sub 0x10000120000004c02 T) : Kept T s₀ (State.hostStep s w) := by
  unfold State.hostStep
  try dsimp only
  repeat' first
    | (with_reducible assumption)
    | ((with_reducible refine Sub.trans hp ?_); rfl)
    | ((with_reducible refine Sub.bit hp ?_); decide)
    | (with_reducible apply State.timCfgErr_kept)
    | (with_reducible apply State.wr_kept)
    | (with_reducible apply State.timeStep_kept)
    | split
    | (intro _)
    | (dsimp only)

theorem State.capture_kept {s : State} (h_s : Kept T s₀ s)  (hp : Sub 0x10000020000000002 T) : Kept T s₀ (State.capture s) := by
  unfold State.capture
  try dsimp only
  repeat' first
    | (with_reducible assumption)
    | ((with_reducible refine Sub.trans hp ?_); rfl)
    | ((with_reducible refine Sub.bit hp ?_); decide)
    | (with_reducible refine State.wrAll_nil_kept ?_)
    | (with_reducible refine State.wrAll_cons_kept ?_)
    | (with_reducible refine State.wrAll_kept ?_ _ ?_ ?_)
    | (with_reducible apply State.wr_kept)
    | (with_reducible apply State.publish_kept)
    | (with_reducible apply State.notice_kept)
    | (lift_lets; intro x; refine Kept.cut (s := x) ?_ (fun hx => ?_) <;> [subst x; clear_value x])
    | (intro x; refine Kept.cut (s := x) ?_ (fun hx => ?_) <;> [subst x; clear_value x])
    | (lift_lets; intro x; subst x)
    | (intro x; subst x)
    | (intro _)
    | (dsimp only)

theorem State.ppsPulse_kept {s : State} (h_s : Kept T s₀ s) (c : Nat) (hp : Sub 0x402 T) : Kept T s₀ (State.ppsPulse s c) := by
  unfold State.ppsPulse
  try dsimp only
  repeat' first
    | (with_reducible assumption)
    | ((with_reducible refine Sub.trans hp ?_); rfl)
    | ((with_reducible refine Sub.bit hp ?_); decide)
    | (with_reducible apply State.reach_kept)
    | (with_reducible apply State.emit_kept)
    | (fail_if_no_progress ((with_reducible refine Kept.mkOther ?_ ?_ ?_ (fun q hq => ?_)) <;> [skip; exact rfl; exact rfl; (cases q <;> first | with_reducible exact rfl | exact fun f _ => State.rd_congr rfl f | exact absurd (Sub.bit hp rfl) hq)]))
    | split
    | (lift_lets; intro x; refine Kept.cut (s := x) ?_ (fun hx => ?_) <;> [subst x; clear_value x])
    | (intro x; refine Kept.cut (s := x) ?_ (fun hx => ?_) <;> [subst x; clear_value x])
    | (lift_lets; intro x; subst x)
    | (intro x; subst x)
    | (intro _)
    | (dsimp only)

theorem State.ppsEdge_kept {s : State} (h_s : Kept T s₀ s) (falling : Bool) (c : Nat) (hp : Sub 0x10000020000000402 T) : Kept T s₀ (State.ppsEdge s falling c) := by
  unfold State.ppsEdge
  try dsimp only
  repeat' first
    | (with_reducible assumption)
    | ((with_reducible refine Sub.trans hp ?_); rfl)
    | ((with_reducible refine Sub.bit hp ?_); decide)
    | (with_reducible apply State.reach_kept)
    | (with_reducible apply State.wr_kept)
    | (with_reducible apply State.publish_kept)
    | (with_reducible apply State.notice_kept)
    | (fail_if_no_progress ((with_reducible refine Kept.mkOther ?_ ?_ ?_ (fun q hq => ?_)) <;> [skip; exact rfl; exact rfl; (cases q <;> first | with_reducible exact rfl | exact fun f _ => State.rd_congr rfl f | exact absurd (Sub.bit hp rfl) hq)]))
    | split
    | (lift_lets; intro x; refine Kept.cut (s := x) ?_ (fun hx => ?_) <;> [subst x; clear_value x])
    | (intro x; refine Kept.cut (s := x) ?_ (fun hx => ?_) <;> [subst x; clear_value x])
    | (lift_lets; intro x; subst x)
    | (intro x; subst x)
    | (intro _)
    | (dsimp only)

theorem State.timeStart_kept {s : State} (h_s : Kept T s₀ s)  (hp : Sub 0x10000000000000408 T) : Kept T s₀ (State.timeStart s) := by
  unfold State.timeStart
  try dsimp only
  repeat' first
    | (with_reducible assumption)
    | ((with_reducible refine Sub.trans hp ?_); rfl)
    | ((with_reducible refine Sub.bit hp ?_); decide)
    | (with_reducible apply State.wr_kept)
    | (fail_if_no_progress ((with_reducible refine Kept.mkOther ?_ ?_ ?_ (fun q hq => ?_)) <;> [skip; exact rfl; exact rfl; (cases q <;> first | with_reducible exact rfl | exact fun f _ => State.rd_congr rfl f | exact absurd (Sub.bit hp rfl) hq)]))
    | split
    | (lift_lets; intro x; refine Kept.cut (s := x) ?_ (fun hx => ?_) <;> [subst x; clear_value x])
    | (intro x; refine Kept.cut (s := x) ?_ (fun hx => ?_) <;> [subst x; clear_value x])
    | (lift_lets; intro x; subst x)
    | (intro x; subst x)
    | (intro _)
    | (dsimp only)

end Sys2Proof.Machine
end

