-- ==== Sys2Proof/Laws/KeepDrift.lean ====
section
/-! SUPPORT. What the operations of Machine/Drift.lean keep. -/

set_option Elab.async false
set_option linter.unusedTactic false
set_option linter.unreachableTactic false
set_option linter.unusedVariables false

namespace Sys2Proof.Machine

variable {T : Nat → Prop} {s₀ : State}

theorem State.clearBytes_kept {s : State} (h_s : Kept T s₀ s) (page : Nat) (off : Nat) (n : Nat) (hp : Sub 0x1 T) : Kept T s₀ (State.clearBytes s page off n) :=
  h_s.of rfl (le_refl _) (List.prefix_refl _) (fun k => ⟨k.regs, Memory.wf_filter _ k.win, k.intake, k.log, k.lrp, k.pcie, k.frames, k.queue⟩) (fun q hq => by cases q <;> first | exact rfl | exact fun f _ => State.rd_congr rfl f | exact absurd (Sub.bit hp rfl) hq)

theorem State.graphErr_kept {s : State} (h_s : Kept T s₀ s) (index : Nat) (kind : Nat) (reason : Nat) (hp : Sub 0x820000000002 T) : Kept T s₀ (State.graphErr s index kind reason) := by
  unfold State.graphErr
  try dsimp only
  repeat' first
    | (with_reducible assumption)
    | ((with_reducible refine Sub.trans hp ?_); rfl)
    | ((with_reducible refine Sub.bit hp ?_); decide)
    | (with_reducible refine State.wrAll_nil_kept ?_)
    | (with_reducible refine State.wrAll_cons_kept ?_)
    | (with_reducible refine State.wrAll_kept ?_ _ ?_ ?_)
    | (with_reducible apply State.wr_kept)
    | (with_reducible apply State.notice_kept)
    | (intro _)
    | (dsimp only)

theorem State.graphSwap_kept {s : State} (h_s : Kept T s₀ s)  (hp : Sub 0x800000020000 T) : Kept T s₀ (State.graphSwap s) := by
  unfold State.graphSwap
  try dsimp only
  repeat' first
    | (with_reducible assumption)
    | ((with_reducible refine Sub.trans hp ?_); rfl)
    | ((with_reducible refine Sub.bit hp ?_); decide)
    | (with_reducible apply State.wr_kept)
    | (fail_if_no_progress ((with_reducible refine Kept.mkOther ?_ ?_ ?_ (fun q hq => ?_)) <;> [skip; exact rfl; exact rfl; (cases q <;> first | with_reducible exact rfl | exact fun f _ => State.rd_congr rfl f | exact absurd (Sub.bit hp rfl) hq)]))
    | split
    | (intro _)
    | (dsimp only)

theorem State.graphChecked_kept {s : State} (h_s : Kept T s₀ s)  (hp : Sub 0x820000020002 T) : Kept T s₀ (State.graphChecked s) := by
  unfold State.graphChecked
  try dsimp only
  repeat' first
    | (with_reducible assumption)
    | ((with_reducible refine Sub.trans hp ?_); rfl)
    | ((with_reducible refine Sub.bit hp ?_); decide)
    | (with_reducible apply State.wr_kept)
    | (with_reducible apply State.graphErr_kept)
    | (fail_if_no_progress ((with_reducible refine Kept.mkOther ?_ ?_ ?_ (fun q hq => ?_)) <;> [skip; exact rfl; exact rfl; (cases q <;> first | with_reducible exact rfl | exact fun f _ => State.rd_congr rfl f | exact absurd (Sub.bit hp rfl) hq)]))
    | split
    | (intro _)
    | (dsimp only)

theorem State.drfWordWrite_kept {s : State} (h_s : Kept T s₀ s) (off : Nat) (w : Nat) (hp : Sub 0x820000000003 T) : Kept T s₀ (State.drfWordWrite s off w) := by
  unfold State.drfWordWrite
  try dsimp only
  repeat' first
    | (with_reducible assumption)
    | ((with_reducible refine Sub.trans hp ?_); rfl)
    | ((with_reducible refine Sub.bit hp ?_); decide)
    | (with_reducible apply State.setN_kept)
    | (with_reducible apply State.graphErr_kept)
    | split
    | (lift_lets; intro x; refine Kept.cut (s := x) ?_ (fun hx => ?_) <;> [subst x; clear_value x])
    | (intro x; refine Kept.cut (s := x) ?_ (fun hx => ?_) <;> [subst x; clear_value x])
    | (lift_lets; intro x; subst x)
    | (intro x; subst x)
    | (intro _)
    | (dsimp only)

theorem State.drfFill_kept {s : State} (h_s : Kept T s₀ s) (e : DrfEvent) (hp : Sub 0x820000020002 T) : Kept T s₀ (State.drfFill s e) := by
  unfold State.drfFill
  try dsimp only
  repeat' first
    | (with_reducible assumption)
    | ((with_reducible refine Sub.trans hp ?_); rfl)
    | ((with_reducible refine Sub.bit hp ?_); decide)
    | (with_reducible apply State.count_kept)
    | (with_reducible apply State.notice_kept)
    | (fail_if_no_progress ((with_reducible refine Kept.mkOther ?_ ?_ ?_ (fun q hq => ?_)) <;> [skip; exact rfl; exact rfl; (cases q <;> first | with_reducible exact rfl | exact fun f _ => State.rd_congr rfl f | exact absurd (Sub.bit hp rfl) hq)]))
    | split
    | (lift_lets; intro x; refine Kept.cut (s := x) ?_ (fun hx => ?_) <;> [subst x; clear_value x])
    | (intro x; refine Kept.cut (s := x) ?_ (fun hx => ?_) <;> [subst x; clear_value x])
    | (lift_lets; intro x; subst x)
    | (intro x; subst x)
    | (intro _)
    | (dsimp only)

theorem State.drfEnter_kept {s : State} (h_s : Kept T s₀ s) (v : Nat) (age : Nat) (strength : Nat) (sensor : Nat) (hp : Sub 0x820000020002 T) : Kept T s₀ (State.drfEnter s v age strength sensor) := by
  unfold State.drfEnter
  try dsimp only
  repeat' first
    | (with_reducible assumption)
    | ((with_reducible refine Sub.trans hp ?_); rfl)
    | ((with_reducible refine Sub.bit hp ?_); decide)
    | (with_reducible apply State.count_kept)
    | (with_reducible apply State.notice_kept)
    | (with_reducible apply State.drfFill_kept)
    | split
    | (intro _)
    | (dsimp only)

theorem State.drfDetect_kept {s : State} (h_s : Kept T s₀ s) (v : Nat) (instant : Nat) (strength : Nat) (sensor : Nat) (hp : Sub 0x820400020002 T) : Kept T s₀ (State.drfDetect s v instant strength sensor) := by
  unfold State.drfDetect
  try dsimp only
  repeat' first
    | (with_reducible assumption)
    | ((with_reducible refine Sub.trans hp ?_); rfl)
    | ((with_reducible refine Sub.bit hp ?_); decide)
    | (with_reducible apply State.wakePage_kept)
    | (with_reducible apply State.drfEnter_kept)
    | (intro _)
    | (dsimp only)

theorem State.placeWalker_kept {s : State} (h_s : Kept T s₀ s) (w : Walker) (hp : Sub 0x800000020000 T) : Kept T s₀ (State.placeWalker s w) := by
  unfold State.placeWalker
  try dsimp only
  repeat' first
    | (with_reducible assumption)
    | ((with_reducible refine Sub.trans hp ?_); rfl)
    | ((with_reducible refine Sub.bit hp ?_); decide)
    | (with_reducible apply State.count_kept)
    | (fail_if_no_progress ((with_reducible refine Kept.mkOther ?_ ?_ ?_ (fun q hq => ?_)) <;> [skip; exact rfl; exact rfl; (cases q <;> first | with_reducible exact rfl | exact fun f _ => State.rd_congr rfl f | exact absurd (Sub.bit hp rfl) hq)]))
    | (intro _)
    | (dsimp only)

theorem State.createWalker_kept {s : State} (h_s : Kept T s₀ s) (e : DrfEvent) (cls : Nat) (hp : Sub 0x820000020402 T) : Kept T s₀ (State.createWalker s e cls) := by
  unfold State.createWalker
  try dsimp only
  repeat' first
    | (with_reducible assumption)
    | ((with_reducible refine Sub.trans hp ?_); rfl)
    | ((with_reducible refine Sub.bit hp ?_); decide)
    | ((with_reducible refine Sub.bitEq hp (j := 47) ?_ ?_) <;> [(first | (simp only [Field.slot, Field.page, Field.key]; omega) | rfl); rfl])
    | (with_reducible apply State.tick_kept)
    | (with_reducible apply State.placeWalker_kept)
    | (with_reducible apply State.count_kept)
    | (with_reducible apply State.notice_kept)
    | split
    | (lift_lets; intro x; refine Kept.cut (s := x) ?_ (fun hx => ?_) <;> [subst x; clear_value x])
    | (intro x; refine Kept.cut (s := x) ?_ (fun hx => ?_) <;> [subst x; clear_value x])
    | (lift_lets; intro x; subst x)
    | (intro x; subst x)
    | (intro _)
    | (dsimp only)

theorem State.handleEntry_kept {s : State} (h_s : Kept T s₀ s) (es : List Edge) (e : DrfEvent) (hp : Sub 0x820000020402 T) : Kept T s₀ (State.handleEntry es s e) := by
  unfold State.handleEntry
  try dsimp only
  repeat' first
    | (with_reducible assumption)
    | ((with_reducible refine Sub.trans hp ?_); rfl)
    | ((with_reducible refine Sub.bit hp ?_); decide)
    | (with_reducible apply State.tick_kept)
    | (with_reducible apply State.createWalker_kept)
    | (fail_if_no_progress ((with_reducible refine Kept.mkOther ?_ ?_ ?_ (fun q hq => ?_)) <;> [skip; exact rfl; exact rfl; (cases q <;> first | with_reducible exact rfl | exact fun f _ => State.rd_congr rfl f | exact absurd (Sub.bit hp rfl) hq)]))
    | split
    | (lift_lets; intro x; refine Kept.cut (s := x) ?_ (fun hx => ?_) <;> [subst x; clear_value x])
    | (intro x; refine Kept.cut (s := x) ?_ (fun hx => ?_) <;> [subst x; clear_value x])
    | (lift_lets; intro x; subst x)
    | (intro x; subst x)
    | (intro _)
    | (dsimp only)

theorem State.retireWalkers_kept {s : State} (h_s : Kept T s₀ s) (es : List Edge) (t0 : Nat) (hp : Sub 0x800000020000 T) : Kept T s₀ (State.retireWalkers s es t0) := by
  unfold State.retireWalkers
  try dsimp only
  repeat' first
    | (with_reducible assumption)
    | ((with_reducible refine Sub.trans hp ?_); rfl)
    | ((with_reducible refine Sub.bit hp ?_); decide)
    | (with_reducible apply State.count_kept)
    | (fail_if_no_progress ((with_reducible refine Kept.mkOther ?_ ?_ ?_ (fun q hq => ?_)) <;> [skip; exact rfl; exact rfl; (cases q <;> first | with_reducible exact rfl | exact fun f _ => State.rd_congr rfl f | exact absurd (Sub.bit hp rfl) hq)]))
    | (lift_lets; intro x; refine Kept.cut (s := x) ?_ (fun hx => ?_) <;> [subst x; clear_value x])
    | (intro x; refine Kept.cut (s := x) ?_ (fun hx => ?_) <;> [subst x; clear_value x])
    | (lift_lets; intro x; subst x)
    | (intro x; subst x)
    | (intro _)
    | (dsimp only)

theorem State.endOverrides_kept {s : State} (h_s : Kept T s₀ s) (now : Nat) (hp : Sub 0x1 T) : Kept T s₀ (State.endOverrides s now) := by
  unfold State.endOverrides
  try dsimp only
  repeat' first
    | (with_reducible assumption)
    | ((with_reducible refine Sub.trans hp ?_); rfl)
    | ((with_reducible refine Sub.bit hp ?_); decide)
    | (with_reducible apply State.setBytes_kept)
    | (with_reducible refine Kept.foldl _ _ ?_ (fun _ _ _ => ?_))
    | split
    | (lift_lets; intro x; refine Kept.cut (s := x) ?_ (fun hx => ?_) <;> [subst x; clear_value x])
    | (intro x; refine Kept.cut (s := x) ?_ (fun hx => ?_) <;> [subst x; clear_value x])
    | (lift_lets; intro x; subst x)
    | (intro x; subst x)
    | (intro _)
    | (dsimp only)

theorem State.applySwap_kept {s : State} (h_s : Kept T s₀ s)  (hp : Sub 0x820000020002 T) : Kept T s₀ (State.applySwap s).2 := by
  unfold State.applySwap
  try dsimp only
  repeat' first
    | (with_reducible assumption)
    | ((with_reducible refine Sub.trans hp ?_); rfl)
    | ((with_reducible refine Sub.bit hp ?_); decide)
    | (with_reducible apply State.wr_kept)
    | (with_reducible apply State.count_kept)
    | (with_reducible apply State.notice_kept)
    | (fail_if_no_progress ((with_reducible refine Kept.mkOther ?_ ?_ ?_ (fun q hq => ?_)) <;> [skip; exact rfl; exact rfl; (cases q <;> first | with_reducible exact rfl | exact fun f _ => State.rd_congr rfl f | exact absurd (Sub.bit hp rfl) hq)]))
    | split
    | (lift_lets; intro x; refine Kept.cut (s := x) ?_ (fun hx => ?_) <;> [subst x; clear_value x])
    | (intro x; refine Kept.cut (s := x) ?_ (fun hx => ?_) <;> [subst x; clear_value x])
    | (lift_lets; intro x; subst x)
    | (intro x; subst x)
    | (intro _)
    | (dsimp only)

theorem State.applySwap_pair {s : State} {v_ : Bool} {t_ : State} (q_ : (State.applySwap s) = (v_, t_)) (h_s : Kept T s₀ s) (hp : Sub 0x820000020002 T) : Kept T s₀ t_ := by
  have z := State.applySwap_kept h_s  (hp := hp)
  rw [q_] at z
  exact z

theorem State.evalSwapSides_kept {s : State} (h_s : Kept T s₀ s) (dur : Nat) (hp : Sub 0x20000 T) : Kept T s₀ (State.evalSwapSides s dur) := by
  unfold State.evalSwapSides
  try dsimp only
  repeat' first
    | (with_reducible assumption)
    | ((with_reducible refine Sub.trans hp ?_); rfl)
    | ((with_reducible refine Sub.bit hp ?_); decide)
    | (fail_if_no_progress ((with_reducible refine Kept.mkOther ?_ ?_ ?_ (fun q hq => ?_)) <;> [skip; exact rfl; exact rfl; (cases q <;> first | with_reducible exact rfl | exact fun f _ => State.rd_congr rfl f | exact absurd (Sub.bit hp rfl) hq)]))
    | (intro _)
    | (dsimp only)

theorem State.evalError_kept {s : State} (h_s : Kept T s₀ s) (mem : Nat) (hp : Sub 0x4400000020100020006 T) : Kept T s₀ (State.evalError s mem) := by
  unfold State.evalError
  try dsimp only
  repeat' first
    | (with_reducible assumption)
    | ((with_reducible refine Sub.trans hp ?_); rfl)
    | ((with_reducible refine Sub.bit hp ?_); decide)
    | (with_reducible apply State.itgReadError_kept)
    | (fail_if_no_progress ((with_reducible refine Kept.mkOther ?_ ?_ ?_ (fun q hq => ?_)) <;> [skip; exact rfl; exact rfl; (cases q <;> first | with_reducible exact rfl | exact fun f _ => State.rd_congr rfl f | exact absurd (Sub.bit hp rfl) hq)]))
    | split
    | (intro _)
    | (dsimp only)

theorem State.evalErrors_kept {s : State} (h_s : Kept T s₀ s) (store : Bool) (graph : Bool) (hp : Sub 0x4400000020100020006 T) : Kept T s₀ (State.evalErrors s store graph) := by
  unfold State.evalErrors
  try dsimp only
  repeat' first
    | (with_reducible assumption)
    | ((with_reducible refine Sub.trans hp ?_); rfl)
    | ((with_reducible refine Sub.bit hp ?_); decide)
    | (with_reducible apply State.evalError_kept)
    | split
    | (lift_lets; intro x; refine Kept.cut (s := x) ?_ (fun hx => ?_) <;> [subst x; clear_value x])
    | (intro x; refine Kept.cut (s := x) ?_ (fun hx => ?_) <;> [subst x; clear_value x])
    | (lift_lets; intro x; subst x)
    | (intro x; subst x)
    | (intro _)
    | (dsimp only)

theorem State.evalWalk_kept {s : State} (h_s : Kept T s₀ s) (degraded : Bool) (taken : List DrfEvent) (t0 : Nat) (hp : Sub 0x820000020402 T) : Kept T s₀ (State.evalWalk s degraded taken t0) := by
  unfold State.evalWalk
  try dsimp only
  repeat' first
    | (with_reducible assumption)
    | ((with_reducible refine Sub.trans hp ?_); rfl)
    | ((with_reducible refine Sub.bit hp ?_); decide)
    | (with_reducible apply State.handleEntry_kept)
    | (with_reducible apply State.retireWalkers_kept)
    | (with_reducible refine Kept.foldl _ _ ?_ (fun _ _ _ => ?_))
    | (fail_if_no_progress ((with_reducible refine Kept.mkOther ?_ ?_ ?_ (fun q hq => ?_)) <;> [skip; exact rfl; exact rfl; (cases q <;> first | with_reducible exact rfl | exact fun f _ => State.rd_congr rfl f | exact absurd (Sub.bit hp rfl) hq)]))
    | split
    | (intro _)
    | (dsimp only)

theorem State.evalBank_kept {s : State} (h_s : Kept T s₀ s) (t0 : Nat) (now : Nat) (count : Nat) (targets : List (Nat × Nat × Bool)) (envs : List (Walker × List (Nat × Nat) × Bool)) (hp : Sub 0x20001 T) : Kept T s₀ (State.evalBank s t0 now count targets envs) := by
  unfold State.evalBank
  try dsimp only
  repeat' first
    | (with_reducible assumption)
    | ((with_reducible refine Sub.trans hp ?_); rfl)
    | ((with_reducible refine Sub.bit hp ?_); decide)
    | (with_reducible apply State.clearBytes_kept)
    | (with_reducible apply State.setN_kept)
    | (with_reducible apply State.setBytes_kept)
    | (with_reducible refine Kept.foldl _ _ ?_ (fun _ _ _ => ?_))
    | (fail_if_no_progress ((with_reducible refine Kept.mkOther ?_ ?_ ?_ (fun q hq => ?_)) <;> [skip; exact rfl; exact rfl; (cases q <;> first | with_reducible exact rfl | exact fun f _ => State.rd_congr rfl f | exact absurd (Sub.bit hp rfl) hq)]))
    | (lift_lets; intro x; refine Kept.cut (s := x) ?_ (fun hx => ?_) <;> [subst x; clear_value x])
    | (intro x; refine Kept.cut (s := x) ?_ (fun hx => ?_) <;> [subst x; clear_value x])
    | (lift_lets; intro x; subst x)
    | (intro x; subst x)
    | (intro _)
    | (dsimp only)

theorem State.evalTell_kept {s : State} (h_s : Kept T s₀ s) (truncs : Nat) (above : Nat) (late : Nat) (mem : Nat) (count : Nat) (degraded : Bool) (hp : Sub 0x400000820100000002 T) : Kept T s₀ (State.evalTell s truncs above late mem count degraded) := by
  unfold State.evalTell
  try dsimp only
  repeat' first
    | (with_reducible assumption)
    | ((with_reducible refine Sub.trans hp ?_); rfl)
    | ((with_reducible refine Sub.bit hp ?_); decide)
    | (with_reducible apply State.count_kept)
    | (with_reducible apply State.noticeIf_kept)
    | (with_reducible apply State.notice_kept)
    | (with_reducible apply State.wrB_kept)
    | (with_reducible apply State.silt_kept)
    | split
    | (lift_lets; intro x; refine Kept.cut (s := x) ?_ (fun hx => ?_) <;> [subst x; clear_value x])
    | (intro x; refine Kept.cut (s := x) ?_ (fun hx => ?_) <;> [subst x; clear_value x])
    | (lift_lets; intro x; subst x)
    | (intro x; subst x)
    | (intro _)
    | (dsimp only)

theorem State.evalPublish_kept {s : State} (h_s : Kept T s₀ s) (taken : Nat) (coal : Nat) (late : Nat) (dur : Nat) (mem : Nat) (degraded : Bool) (swapped : Bool) (hp : Sub 0x400000820100020003 T) : Kept T s₀ (State.evalPublish s taken coal late dur mem degraded swapped) := by
  unfold State.evalPublish
  try dsimp only
  repeat' first
    | (with_reducible assumption)
    | ((with_reducible refine Sub.trans hp ?_); rfl)
    | ((with_reducible refine Sub.bit hp ?_); decide)
    | (with_reducible apply State.count_kept)
    | (with_reducible apply State.endOverrides_kept)
    | (with_reducible apply State.evalBank_kept)
    | (with_reducible apply State.evalTell_kept)
    | (with_reducible refine State.wrAll_nil_kept ?_)
    | (with_reducible refine State.wrAll_cons_kept ?_)
    | (with_reducible refine State.wrAll_kept ?_ _ ?_ ?_)
    | (with_reducible apply State.wr_kept)
    | (with_reducible apply State.publish_kept)
    | split
    | (lift_lets; intro x; refine Kept.cut (s := x) ?_ (fun hx => ?_) <;> [subst x; clear_value x])
    | (intro x; refine Kept.cut (s := x) ?_ (fun hx => ?_) <;> [subst x; clear_value x])
    | (lift_lets; intro x; subst x)
    | (intro x; subst x)
    | (intro _)
    | (dsimp only)

theorem State.evaluate_kept {s : State} (h_s : Kept T s₀ s) (dur : Nat) (met : Nat) (hp : Sub 0x4400000820100020407 T) : Kept T s₀ (State.evaluate s dur met) := by
  unfold State.evaluate
  try dsimp only
  repeat' first
    | (with_reducible assumption)
    | ((with_reducible refine Sub.trans hp ?_); rfl)
    | ((with_reducible refine Sub.bit hp ?_); decide)
    | (with_reducible apply State.evalSwapSides_kept)
    | (with_reducible apply State.applySwap_kept)
    | (with_reducible apply State.applySwap_pair (by assumption))
    | (with_reducible apply State.evalErrors_kept)
    | (with_reducible apply State.evalWalk_kept)
    | (with_reducible apply State.evalPublish_kept)
    | split
    | (lift_lets; intro x; refine Kept.cut (s := x) ?_ (fun hx => ?_) <;> [subst x; clear_value x])
    | (intro x; refine Kept.cut (s := x) ?_ (fun hx => ?_) <;> [subst x; clear_value x])
    | (lift_lets; intro x; subst x)
    | (intro x; subst x)
    | (intro _)
    | (dsimp only)

theorem State.drfPass_kept {s : State} (h_s : Kept T s₀ s)  (hp : Sub 0x20000 T) : Kept T s₀ (State.drfPass s) := by
  unfold State.drfPass
  try dsimp only
  repeat' first
    | (with_reducible assumption)
    | ((with_reducible refine Sub.trans hp ?_); rfl)
    | ((with_reducible refine Sub.bit hp ?_); decide)
    | (fail_if_no_progress ((with_reducible refine Kept.mkOther ?_ ?_ ?_ (fun q hq => ?_)) <;> [skip; exact rfl; exact rfl; (cases q <;> first | with_reducible exact rfl | exact fun f _ => State.rd_congr rfl f | exact absurd (Sub.bit hp rfl) hq)]))
    | (intro _)
    | (dsimp only)

theorem State.drfTick_kept {s : State} (h_s : Kept T s₀ s) (dur : Nat) (mem : Nat) (hp : Sub 0x4400000820100020407 T) : Kept T s₀ (State.drfTick s dur mem) := by
  unfold State.drfTick
  try dsimp only
  repeat' first
    | (with_reducible assumption)
    | ((with_reducible refine Sub.trans hp ?_); rfl)
    | ((with_reducible refine Sub.bit hp ?_); decide)
    | (with_reducible apply State.drfPass_kept)
    | (with_reducible apply State.count_kept)
    | (with_reducible apply State.evaluate_kept)
    | split
    | (intro _)
    | (dsimp only)

theorem State.drfEnable_kept {s : State} (h_s : Kept T s₀ s) (en : Bool) (hp : Sub 0x800000020000 T) : Kept T s₀ (State.drfEnable s en) := by
  unfold State.drfEnable
  try dsimp only
  repeat' first
    | (with_reducible assumption)
    | ((with_reducible refine Sub.trans hp ?_); rfl)
    | ((with_reducible refine Sub.bit hp ?_); decide)
    | (with_reducible apply State.wrB_kept)
    | (fail_if_no_progress ((with_reducible refine Kept.mkOther ?_ ?_ ?_ (fun q hq => ?_)) <;> [skip; exact rfl; exact rfl; (cases q <;> first | with_reducible exact rfl | exact fun f _ => State.rd_congr rfl f | exact absurd (Sub.bit hp rfl) hq)]))
    | split
    | (lift_lets; intro x; refine Kept.cut (s := x) ?_ (fun hx => ?_) <;> [subst x; clear_value x])
    | (intro x; refine Kept.cut (s := x) ?_ (fun hx => ?_) <;> [subst x; clear_value x])
    | (lift_lets; intro x; subst x)
    | (intro x; subst x)
    | (intro _)
    | (dsimp only)

end Sys2Proof.Machine
end

