-- ==== Sys2Proof/Laws/KeepNtb.lean ====
section
/-! SUPPORT. What the operations of Machine/Ntb.lean keep. -/

set_option Elab.async false
set_option linter.unusedTactic false
set_option linter.unreachableTactic false
set_option linter.unusedVariables false

namespace Sys2Proof.Machine

variable {T : Nat → Prop} {s₀ : State}

theorem State.setEnt_kept {s : State} (h_s : Kept T s₀ s) (i : Nat) (off : Nat) (n : Nat) (v : Nat) (hp : Sub 0x1 T) : Kept T s₀ (State.setEnt s i off n v) := by
  unfold State.setEnt
  try dsimp only
  repeat' first
    | (with_reducible assumption)
    | ((with_reducible refine Sub.trans hp ?_); rfl)
    | ((with_reducible refine Sub.bit hp ?_); decide)
    | (with_reducible apply State.setN_kept)
    | (intro _)
    | (dsimp only)

theorem State.setDvalid_kept {s : State} (h_s : Kept T s₀ s) (i : Nat) (b : Bool) (hp : Sub 0x1 T) : Kept T s₀ (State.setDvalid s i b) := by
  unfold State.setDvalid
  try dsimp only
  repeat' first
    | (with_reducible assumption)
    | ((with_reducible refine Sub.trans hp ?_); rfl)
    | ((with_reducible refine Sub.bit hp ?_); decide)
    | (with_reducible apply State.setEnt_kept)
    | split
    | (intro _)
    | (dsimp only)

theorem State.setEntState_kept {s : State} (h_s : Kept T s₀ s) (i : Nat) (v : Nat) (hp : Sub 0x1 T) : Kept T s₀ (State.setEntState s i v) := by
  unfold State.setEntState
  try dsimp only
  repeat' first
    | (with_reducible assumption)
    | ((with_reducible refine Sub.trans hp ?_); rfl)
    | ((with_reducible refine Sub.bit hp ?_); decide)
    | (with_reducible apply State.setDvalid_kept)
    | (with_reducible apply State.setEnt_kept)
    | split
    | (lift_lets; intro x; refine Kept.cut (s := x) ?_ (fun hx => ?_) <;> [subst x; clear_value x])
    | (intro x; refine Kept.cut (s := x) ?_ (fun hx => ?_) <;> [subst x; clear_value x])
    | (lift_lets; intro x; subst x)
    | (intro x; subst x)
    | (intro _)
    | (dsimp only)

theorem State.ntbErr_kept {s : State} (h_s : Kept T s₀ s) (i : Nat) (reason : Nat) (hp : Sub 0x220000000002 T) : Kept T s₀ (State.ntbErr s i reason) := by
  unfold State.ntbErr
  try dsimp only
  repeat' first
    | (with_reducible assumption)
    | ((with_reducible refine Sub.trans hp ?_); rfl)
    | ((with_reducible refine Sub.bit hp ?_); decide)
    | (with_reducible apply State.wr_kept)
    | (with_reducible apply State.notice_kept)
    | (intro _)
    | (dsimp only)

theorem State.ntbWordWrite_kept {s : State} (h_s : Kept T s₀ s) (off : Nat) (w : Nat) (hp : Sub 0x220000010003 T) : Kept T s₀ (State.ntbWordWrite s off w) := by
  unfold State.ntbWordWrite
  try dsimp only
  repeat' first
    | (with_reducible assumption)
    | ((with_reducible refine Sub.trans hp ?_); rfl)
    | ((with_reducible refine Sub.bit hp ?_); decide)
    | (with_reducible apply State.setBytes_kept)
    | (with_reducible apply State.ntbErr_kept)
    | (fail_if_no_progress ((with_reducible refine Kept.mkOther ?_ ?_ ?_ (fun q hq => ?_)) <;> [skip; exact rfl; exact rfl; (cases q <;> first | with_reducible exact rfl | exact fun f _ => State.rd_congr rfl f | exact absurd (Sub.bit hp rfl) hq)]))
    | split
    | (lift_lets; intro x; refine Kept.cut (s := x) ?_ (fun hx => ?_) <;> [subst x; clear_value x])
    | (intro x; refine Kept.cut (s := x) ?_ (fun hx => ?_) <;> [subst x; clear_value x])
    | (lift_lets; intro x; subst x)
    | (intro x; subst x)
    | (intro _)
    | (dsimp only)

theorem State.dptFollow_kept {s : State} (h_s : Kept T s₀ s)  (hp : Sub 0x8020000000003 T) : Kept T s₀ (State.dptFollow s) := by
  unfold State.dptFollow
  try dsimp only
  repeat' first
    | (with_reducible assumption)
    | ((with_reducible refine Sub.trans hp ?_); rfl)
    | ((with_reducible refine Sub.bit hp ?_); decide)
    | (with_reducible apply State.setDvalid_kept)
    | (with_reducible apply State.wr_kept)
    | (with_reducible apply State.notice_kept)
    | (with_reducible refine Kept.foldl _ _ ?_ (fun _ _ _ => ?_))
    | split
    | (lift_lets; intro x; refine Kept.cut (s := x) ?_ (fun hx => ?_) <;> [subst x; clear_value x])
    | (intro x; refine Kept.cut (s := x) ?_ (fun hx => ?_) <;> [subst x; clear_value x])
    | (lift_lets; intro x; subst x)
    | (intro x; subst x)
    | (intro _)
    | (dsimp only)

theorem State.ntbResult_kept {s : State} (h_s : Kept T s₀ s) (i : Nat) (r : Nat) (hp : Sub 0x220000000002 T) : Kept T s₀ (State.ntbResult s i r) := by
  unfold State.ntbResult
  try dsimp only
  repeat' first
    | (with_reducible assumption)
    | ((with_reducible refine Sub.trans hp ?_); rfl)
    | ((with_reducible refine Sub.bit hp ?_); decide)
    | (with_reducible apply State.wr_kept)
    | (with_reducible apply State.ntbErr_kept)
    | split
    | (lift_lets; intro x; refine Kept.cut (s := x) ?_ (fun hx => ?_) <;> [subst x; clear_value x])
    | (intro x; refine Kept.cut (s := x) ?_ (fun hx => ?_) <;> [subst x; clear_value x])
    | (lift_lets; intro x; subst x)
    | (intro x; subst x)
    | (intro _)
    | (dsimp only)

theorem State.ntbEnter_kept {s : State} (h_s : Kept T s₀ s) (i : Nat) (hp : Sub 0x1 T) : Kept T s₀ (State.ntbEnter s i) := by
  unfold State.ntbEnter
  try dsimp only
  repeat' first
    | (with_reducible assumption)
    | ((with_reducible refine Sub.trans hp ?_); rfl)
    | ((with_reducible refine Sub.bit hp ?_); decide)
    | (with_reducible apply State.setEntState_kept)
    | (with_reducible apply State.setBytes_kept)
    | (intro _)
    | (dsimp only)

theorem State.ntbProvision_kept {s : State} (h_s : Kept T s₀ s) (i : Nat) (hp : Sub 0x220000000003 T) : Kept T s₀ (State.ntbProvision s i) := by
  unfold State.ntbProvision
  try dsimp only
  repeat' first
    | (with_reducible assumption)
    | ((with_reducible refine Sub.trans hp ?_); rfl)
    | ((with_reducible refine Sub.bit hp ?_); decide)
    | (with_reducible apply State.ntbResult_kept)
    | (with_reducible apply State.ntbEnter_kept)
    | split
    | (lift_lets; intro x; refine Kept.cut (s := x) ?_ (fun hx => ?_) <;> [subst x; clear_value x])
    | (intro x; refine Kept.cut (s := x) ?_ (fun hx => ?_) <;> [subst x; clear_value x])
    | (lift_lets; intro x; subst x)
    | (intro x; subst x)
    | (intro _)
    | (dsimp only)

theorem State.ntbBlock_kept {s : State} (h_s : Kept T s₀ s) (i : Nat) (hp : Sub 0x220000000003 T) : Kept T s₀ (State.ntbBlock s i) := by
  unfold State.ntbBlock
  try dsimp only
  repeat' first
    | (with_reducible assumption)
    | ((with_reducible refine Sub.trans hp ?_); rfl)
    | ((with_reducible refine Sub.bit hp ?_); decide)
    | (with_reducible apply State.ntbResult_kept)
    | (with_reducible apply State.setEntState_kept)
    | split
    | (intro _)
    | (dsimp only)

theorem State.ntbUnblock_kept {s : State} (h_s : Kept T s₀ s) (i : Nat) (hp : Sub 0x220000000003 T) : Kept T s₀ (State.ntbUnblock s i) := by
  unfold State.ntbUnblock
  try dsimp only
  repeat' first
    | (with_reducible assumption)
    | ((with_reducible refine Sub.trans hp ?_); rfl)
    | ((with_reducible refine Sub.bit hp ?_); decide)
    | (with_reducible apply State.setEntState_kept)
    | (with_reducible apply State.ntbResult_kept)
    | split
    | (intro _)
    | (dsimp only)

theorem State.ntbFree_kept {s : State} (h_s : Kept T s₀ s) (i : Nat) (hp : Sub 0x220000010003 T) : Kept T s₀ (State.ntbFree s i) := by
  unfold State.ntbFree
  try dsimp only
  repeat' first
    | (with_reducible assumption)
    | ((with_reducible refine Sub.trans hp ?_); rfl)
    | ((with_reducible refine Sub.bit hp ?_); decide)
    | (with_reducible apply State.setBytes_kept)
    | (with_reducible apply State.ntbResult_kept)
    | (fail_if_no_progress ((with_reducible refine Kept.mkOther ?_ ?_ ?_ (fun q hq => ?_)) <;> [skip; exact rfl; exact rfl; (cases q <;> first | with_reducible exact rfl | exact fun f _ => State.rd_congr rfl f | exact absurd (Sub.bit hp rfl) hq)]))
    | (intro _)
    | (dsimp only)

theorem State.ntbClearHealth_kept {s : State} (h_s : Kept T s₀ s) (i : Nat) (hp : Sub 0x220000000003 T) : Kept T s₀ (State.ntbClearHealth s i) := by
  unfold State.ntbClearHealth
  try dsimp only
  repeat' first
    | (with_reducible assumption)
    | ((with_reducible refine Sub.trans hp ?_); rfl)
    | ((with_reducible refine Sub.bit hp ?_); decide)
    | (with_reducible apply State.setEnt_kept)
    | (with_reducible apply State.ntbResult_kept)
    | (intro _)
    | (dsimp only)

theorem State.ntbCommand_kept {s : State} (h_s : Kept T s₀ s) (i : Nat) (k : State → State) (h_k : ∀ s, Kept T s₀ s → Kept T s₀ (k s)) (hp : Sub 0x220000000002 T) : Kept T s₀ (State.ntbCommand s i k) := by
  unfold State.ntbCommand
  try dsimp only
  repeat' first
    | (with_reducible assumption)
    | ((with_reducible refine Sub.trans hp ?_); rfl)
    | ((with_reducible refine Sub.bit hp ?_); decide)
    | (with_reducible apply State.ntbResult_kept)
    | (with_reducible apply h_k)
    | split
    | (intro _)
    | (dsimp only)

theorem State.ntbCmd_kept {s : State} (h_s : Kept T s₀ s) (i : Nat) (op : Nat) (hp : Sub 0x220000010003 T) : Kept T s₀ (State.ntbCmd s i op) := by
  unfold State.ntbCmd
  try dsimp only
  repeat' first
    | (with_reducible assumption)
    | ((with_reducible refine Sub.trans hp ?_); rfl)
    | ((with_reducible refine Sub.bit hp ?_); decide)
    | (with_reducible apply State.ntbCommand_kept)
    | (with_reducible apply State.ntbProvision_kept)
    | (with_reducible apply State.ntbBlock_kept)
    | (with_reducible apply State.ntbUnblock_kept)
    | (with_reducible apply State.ntbFree_kept)
    | (with_reducible apply State.ntbClearHealth_kept)
    | (with_reducible apply State.wr_kept)
    | split
    | (lift_lets; intro x; refine Kept.cut (s := x) ?_ (fun hx => ?_) <;> [subst x; clear_value x])
    | (intro x; refine Kept.cut (s := x) ?_ (fun hx => ?_) <;> [subst x; clear_value x])
    | (lift_lets; intro x; subst x)
    | (intro x; subst x)
    | (intro _)
    | (dsimp only)

theorem State.ntbFindHi_kept {s : State} (h_s : Kept T s₀ s) (w : Nat) (hp : Sub 0x200000000000 T) : Kept T s₀ (State.ntbFindHi s w) := by
  unfold State.ntbFindHi
  try dsimp only
  repeat' first
    | (with_reducible assumption)
    | ((with_reducible refine Sub.trans hp ?_); rfl)
    | ((with_reducible refine Sub.bit hp ?_); decide)
    | (with_reducible apply State.wr_kept)
    | split
    | (lift_lets; intro x; refine Kept.cut (s := x) ?_ (fun hx => ?_) <;> [subst x; clear_value x])
    | (intro x; refine Kept.cut (s := x) ?_ (fun hx => ?_) <;> [subst x; clear_value x])
    | (lift_lets; intro x; subst x)
    | (intro x; subst x)
    | (intro _)
    | (dsimp only)

theorem State.ntbCheckFails_kept {s : State} (h_s : Kept T s₀ s) (i : Nat) (hp : Sub 0x400000220100010003 T) : Kept T s₀ (State.ntbCheckFails s i) := by
  unfold State.ntbCheckFails
  try dsimp only
  repeat' first
    | (with_reducible assumption)
    | ((with_reducible refine Sub.trans hp ?_); rfl)
    | ((with_reducible refine Sub.bit hp ?_); decide)
    | (with_reducible apply State.setDvalid_kept)
    | (with_reducible apply State.wr_kept)
    | (with_reducible apply State.notice_kept)
    | (with_reducible apply State.silt_kept)
    | (fail_if_no_progress ((with_reducible refine Kept.mkOther ?_ ?_ ?_ (fun q hq => ?_)) <;> [skip; exact rfl; exact rfl; (cases q <;> first | with_reducible exact rfl | exact fun f _ => State.rd_congr rfl f | exact absurd (Sub.bit hp rfl) hq)]))
    | split
    | (lift_lets; intro x; refine Kept.cut (s := x) ?_ (fun hx => ?_) <;> [subst x; clear_value x])
    | (intro x; refine Kept.cut (s := x) ?_ (fun hx => ?_) <;> [subst x; clear_value x])
    | (lift_lets; intro x; subst x)
    | (intro x; subst x)
    | (intro _)
    | (dsimp only)

end Sys2Proof.Machine
end

