-- ==== Sys2Proof/Laws/KeepClm.lean ====
section
/-! SUPPORT. What the operations of Machine/Clm.lean keep. -/

set_option Elab.async false
set_option linter.unusedTactic false
set_option linter.unreachableTactic false
set_option linter.unusedVariables false

namespace Sys2Proof.Machine

variable {T : Nat → Prop} {s₀ : State}

theorem State.request_kept {s : State} (h_s : Kept T s₀ s) (r : ModeReq) (hp : Sub 0x10 T) : Kept T s₀ (State.request s r) := by
  unfold State.request
  try dsimp only
  repeat' first
    | (with_reducible assumption)
    | ((with_reducible refine Sub.trans hp ?_); rfl)
    | ((with_reducible refine Sub.bit hp ?_); decide)
    | (fail_if_no_progress ((with_reducible refine Kept.mkOther ?_ ?_ ?_ (fun q hq => ?_)) <;> [skip; exact rfl; exact rfl; (cases q <;> first | with_reducible exact rfl | exact fun f _ => State.rd_congr rfl f | exact absurd (Sub.bit hp rfl) hq)]))
    | split
    | (lift_lets; intro x; refine Kept.cut (s := x) ?_ (fun hx => ?_) <;> [subst x; clear_value x])
    | (intro x; refine Kept.cut (s := x) ?_ (fun hx => ?_) <;> [subst x; clear_value x])
    | (lift_lets; intro x; subst x)
    | (intro x; subst x)
    | (intro _)
    | (dsimp only)

theorem State.askRole_kept {s : State} (h_s : Kept T s₀ s) (r : Role) (cause : Nat) (origin : Nat) (hp : Sub 0x10 T) : Kept T s₀ (State.askRole s r cause origin) := by
  unfold State.askRole
  try dsimp only
  repeat' first
    | (with_reducible assumption)
    | ((with_reducible refine Sub.trans hp ?_); rfl)
    | ((with_reducible refine Sub.bit hp ?_); decide)
    | (with_reducible apply State.request_kept)
    | (intro _)
    | (dsimp only)

theorem State.refuseCode_kept {s : State} (h_s : Kept T s₀ s) (axis : Nat) (blocker : Nat) (code : Nat) (hp : Sub 0x400000030100000002 T) : Kept T s₀ (State.refuseCode s axis blocker code) := by
  unfold State.refuseCode
  try dsimp only
  repeat' first
    | (with_reducible assumption)
    | ((with_reducible refine Sub.trans hp ?_); rfl)
    | ((with_reducible refine Sub.bit hp ?_); decide)
    | (with_reducible refine State.wrAll_nil_kept ?_)
    | (with_reducible refine State.wrAll_cons_kept ?_)
    | (with_reducible refine State.wrAll_kept ?_ _ ?_ ?_)
    | (with_reducible apply State.wr_kept)
    | (with_reducible apply State.count_kept)
    | (with_reducible apply State.notice_kept)
    | (with_reducible apply State.silt_kept)
    | (lift_lets; intro x; refine Kept.cut (s := x) ?_ (fun hx => ?_) <;> [subst x; clear_value x])
    | (intro x; refine Kept.cut (s := x) ?_ (fun hx => ?_) <;> [subst x; clear_value x])
    | (lift_lets; intro x; subst x)
    | (intro x; subst x)
    | (intro _)
    | (dsimp only)

theorem State.compare_kept {s : State} (h_s : Kept T s₀ s)  (hp : Sub 0x80000000004000000 T) : Kept T s₀ (State.compare s) := by
  unfold State.compare
  try dsimp only
  repeat' first
    | (with_reducible assumption)
    | ((with_reducible refine Sub.trans hp ?_); rfl)
    | ((with_reducible refine Sub.bit hp ?_); decide)
    | (with_reducible apply State.wr_kept)
    | (fail_if_no_progress ((with_reducible refine Kept.mkOther ?_ ?_ ?_ (fun q hq => ?_)) <;> [skip; exact rfl; exact rfl; (cases q <;> first | with_reducible exact rfl | exact fun f _ => State.rd_congr rfl f | exact absurd (Sub.bit hp rfl) hq)]))
    | split
    | (lift_lets; intro x; refine Kept.cut (s := x) ?_ (fun hx => ?_) <;> [subst x; clear_value x])
    | (intro x; refine Kept.cut (s := x) ?_ (fun hx => ?_) <;> [subst x; clear_value x])
    | (lift_lets; intro x; subst x)
    | (intro x; subst x)
    | (intro _)
    | (dsimp only)

theorem State.setClaim_kept {s : State} (h_s : Kept T s₀ s) (c : Nat) (hp : Sub 0x80000400004000000 T) : Kept T s₀ (State.setClaim s c) := by
  unfold State.setClaim
  try dsimp only
  repeat' first
    | (with_reducible assumption)
    | ((with_reducible refine Sub.trans hp ?_); rfl)
    | ((with_reducible refine Sub.bit hp ?_); decide)
    | (with_reducible apply State.wr_kept)
    | (with_reducible apply State.compare_kept)
    | (fail_if_no_progress ((with_reducible refine Kept.mkOther ?_ ?_ ?_ (fun q hq => ?_)) <;> [skip; exact rfl; exact rfl; (cases q <;> first | with_reducible exact rfl | exact fun f _ => State.rd_congr rfl f | exact absurd (Sub.bit hp rfl) hq)]))
    | split
    | (lift_lets; intro x; refine Kept.cut (s := x) ?_ (fun hx => ?_) <;> [subst x; clear_value x])
    | (intro x; refine Kept.cut (s := x) ?_ (fun hx => ?_) <;> [subst x; clear_value x])
    | (lift_lets; intro x; subst x)
    | (intro x; subst x)
    | (intro _)
    | (dsimp only)

theorem State.newEpoch_kept {s : State} (h_s : Kept T s₀ s)  (hp : Sub 0x80000020000000002 T) : Kept T s₀ (State.newEpoch s) := by
  unfold State.newEpoch
  try dsimp only
  repeat' first
    | (with_reducible assumption)
    | ((with_reducible refine Sub.trans hp ?_); rfl)
    | ((with_reducible refine Sub.bit hp ?_); decide)
    | (with_reducible apply State.wr_kept)
    | (with_reducible apply State.noticeIf_kept)
    | (lift_lets; intro x; refine Kept.cut (s := x) ?_ (fun hx => ?_) <;> [subst x; clear_value x])
    | (intro x; refine Kept.cut (s := x) ?_ (fun hx => ?_) <;> [subst x; clear_value x])
    | (lift_lets; intro x; subst x)
    | (intro x; subst x)
    | (intro _)
    | (dsimp only)

theorem State.gainControl_kept {s : State} (h_s : Kept T s₀ s)  (hp : Sub 0x80000420004000002 T) : Kept T s₀ (State.gainControl s) := by
  unfold State.gainControl
  try dsimp only
  repeat' first
    | (with_reducible assumption)
    | ((with_reducible refine Sub.trans hp ?_); rfl)
    | ((with_reducible refine Sub.bit hp ?_); decide)
    | (with_reducible apply State.newEpoch_kept)
    | (with_reducible apply State.setClaim_kept)
    | (with_reducible apply State.wr_kept)
    | (lift_lets; intro x; refine Kept.cut (s := x) ?_ (fun hx => ?_) <;> [subst x; clear_value x])
    | (intro x; refine Kept.cut (s := x) ?_ (fun hx => ?_) <;> [subst x; clear_value x])
    | (lift_lets; intro x; subst x)
    | (intro x; subst x)
    | (intro _)
    | (dsimp only)

theorem State.clmRecord_kept {s : State} (h_s : Kept T s₀ s) (event : Nat) (from_ : Nat) (to_ : Nat) (cause : Nat) (hp : Sub 0x4440000020100003002 T) : Kept T s₀ (State.clmRecord s event from_ to_ cause) := by
  unfold State.clmRecord
  try dsimp only
  repeat' first
    | (with_reducible assumption)
    | ((with_reducible refine Sub.trans hp ?_); rfl)
    | ((with_reducible refine Sub.bit hp ?_); decide)
    | (with_reducible apply State.slqPush_kept)
    | split
    | (lift_lets; intro x; refine Kept.cut (s := x) ?_ (fun hx => ?_) <;> [subst x; clear_value x])
    | (intro x; refine Kept.cut (s := x) ?_ (fun hx => ?_) <;> [subst x; clear_value x])
    | (lift_lets; intro x; subst x)
    | (intro x; subst x)
    | (intro _)
    | (dsimp only)

theorem State.clmEvent_kept {s : State} (h_s : Kept T s₀ s) (event : Nat) (cause : Nat) (hp : Sub 0x4440000020100003002 T) : Kept T s₀ (State.clmEvent s event cause) := by
  unfold State.clmEvent
  try dsimp only
  repeat' first
    | (with_reducible assumption)
    | ((with_reducible refine Sub.trans hp ?_); rfl)
    | ((with_reducible refine Sub.bit hp ?_); decide)
    | (with_reducible apply State.clmRecord_kept)
    | (intro _)
    | (dsimp only)

theorem State.withClm_kept {s : State} (h_s : Kept T s₀ s) (u : ClmUnit) (hp : Sub 0x4000000 T) : Kept T s₀ (State.withClm s u) := by
  unfold State.withClm
  try dsimp only
  repeat' first
    | (with_reducible assumption)
    | ((with_reducible refine Sub.trans hp ?_); rfl)
    | ((with_reducible refine Sub.bit hp ?_); decide)
    | (fail_if_no_progress ((with_reducible refine Kept.mkOther ?_ ?_ ?_ (fun q hq => ?_)) <;> [skip; exact rfl; exact rfl; (cases q <;> first | with_reducible exact rfl | exact fun f _ => State.rd_congr rfl f | exact absurd (Sub.bit hp rfl) hq)]))
    | (intro _)
    | (dsimp only)

theorem State.putRole_kept {s : State} (h_s : Kept T s₀ s) (r : Role) (hp : Sub 0x802000400000b T) : Kept T s₀ (State.putRole s r) := by
  unfold State.putRole
  try dsimp only
  repeat' first
    | (with_reducible assumption)
    | ((with_reducible refine Sub.trans hp ?_); rfl)
    | ((with_reducible refine Sub.bit hp ?_); decide)
    | (with_reducible apply State.withClm_kept)
    | (with_reducible apply State.dptFollow_kept)
    | (fail_if_no_progress ((with_reducible refine Kept.mkOther ?_ ?_ ?_ (fun q hq => ?_)) <;> [skip; exact rfl; exact rfl; (cases q <;> first | with_reducible exact rfl | exact fun f _ => State.rd_congr rfl f | exact absurd (Sub.bit hp rfl) hq)]))
    | (lift_lets; intro x; refine Kept.cut (s := x) ?_ (fun hx => ?_) <;> [subst x; clear_value x])
    | (intro x; refine Kept.cut (s := x) ?_ (fun hx => ?_) <;> [subst x; clear_value x])
    | (lift_lets; intro x; subst x)
    | (intro x; subst x)
    | (intro _)
    | (dsimp only)

theorem State.setRole_kept {s : State} (h_s : Kept T s₀ s) (r : Role) (cause : Nat) (hp : Sub 0x44c000803010400300b T) : Kept T s₀ (State.setRole s r cause) := by
  unfold State.setRole
  try dsimp only
  repeat' first
    | (with_reducible assumption)
    | ((with_reducible refine Sub.trans hp ?_); rfl)
    | ((with_reducible refine Sub.bit hp ?_); decide)
    | (with_reducible apply State.putRole_kept)
    | (with_reducible refine State.notices_nil_kept ?_)
    | (with_reducible refine State.notices_cons_kept ?_)
    | (with_reducible refine State.notices_kept ?_ _ ?_ ?_)
    | (with_reducible apply State.notice_kept)
    | (with_reducible apply State.clmRecord_kept)
    | (with_reducible apply State.silt_kept)
    | (with_reducible apply State.compare_kept)
    | (with_reducible apply State.wr_kept)
    | (fail_if_no_progress ((with_reducible refine Kept.mkOther ?_ ?_ ?_ (fun q hq => ?_)) <;> [skip; exact rfl; exact rfl; (cases q <;> first | with_reducible exact rfl | exact fun f _ => State.rd_congr rfl f | exact absurd (Sub.bit hp rfl) hq)]))
    | split
    | (lift_lets; intro x; refine Kept.cut (s := x) ?_ (fun hx => ?_) <;> [subst x; clear_value x])
    | (intro x; refine Kept.cut (s := x) ?_ (fun hx => ?_) <;> [subst x; clear_value x])
    | (lift_lets; intro x; subst x)
    | (intro x; subst x)
    | (intro _)
    | (dsimp only)

theorem State.swapRefused_kept {s : State} (h_s : Kept T s₀ s) (cause : Nat) (hp : Sub 0x44c0000020100003002 T) : Kept T s₀ (State.swapRefused s cause) := by
  unfold State.swapRefused
  try dsimp only
  repeat' first
    | (with_reducible assumption)
    | ((with_reducible refine Sub.trans hp ?_); rfl)
    | ((with_reducible refine Sub.bit hp ?_); decide)
    | (with_reducible apply State.notice_kept)
    | (with_reducible apply State.clmEvent_kept)
    | (intro _)
    | (dsimp only)

theorem State.advert_kept {s : State} (h_s : Kept T s₀ s) (skipped : Bool) (hp : Sub 0x4000000 T) : Kept T s₀ (State.advert s skipped) := by
  unfold State.advert
  try dsimp only
  repeat' first
    | (with_reducible assumption)
    | ((with_reducible refine Sub.trans hp ?_); rfl)
    | ((with_reducible refine Sub.bit hp ?_); decide)
    | (fail_if_no_progress ((with_reducible refine Kept.mkOther ?_ ?_ ?_ (fun q hq => ?_)) <;> [skip; exact rfl; exact rfl; (cases q <;> first | with_reducible exact rfl | exact fun f _ => State.rd_congr rfl f | exact absurd (Sub.bit hp rfl) hq)]))
    | (intro _)
    | (dsimp only)

theorem State.sendBidues_kept {s : State} (h_s : Kept T s₀ s) (kind : Nat) (arg : Nat) (hp : Sub 0x4000002 T) : Kept T s₀ (State.sendBidues s kind arg) := by
  unfold State.sendBidues
  try dsimp only
  repeat' first
    | (with_reducible assumption)
    | ((with_reducible refine Sub.trans hp ?_); rfl)
    | ((with_reducible refine Sub.bit hp ?_); decide)
    | (with_reducible apply State.emit_kept)
    | (fail_if_no_progress ((with_reducible refine Kept.mkOther ?_ ?_ ?_ (fun q hq => ?_)) <;> [skip; exact rfl; exact rfl; (cases q <;> first | with_reducible exact rfl | exact fun f _ => State.rd_congr rfl f | exact absurd (Sub.bit hp rfl) hq)]))
    | (lift_lets; intro x; refine Kept.cut (s := x) ?_ (fun hx => ?_) <;> [subst x; clear_value x])
    | (intro x; refine Kept.cut (s := x) ?_ (fun hx => ?_) <;> [subst x; clear_value x])
    | (lift_lets; intro x; subst x)
    | (intro x; subst x)
    | (intro _)
    | (dsimp only)

theorem State.queueBidues_kept {s : State} (h_s : Kept T s₀ s) (kind : Nat) (arg : Nat) (hp : Sub 0x4000000 T) : Kept T s₀ (State.queueBidues s kind arg) := by
  unfold State.queueBidues
  try dsimp only
  repeat' first
    | (with_reducible assumption)
    | ((with_reducible refine Sub.trans hp ?_); rfl)
    | ((with_reducible refine Sub.bit hp ?_); decide)
    | (fail_if_no_progress ((with_reducible refine Kept.mkOther ?_ ?_ ?_ (fun q hq => ?_)) <;> [skip; exact rfl; exact rfl; (cases q <;> first | with_reducible exact rfl | exact fun f _ => State.rd_congr rfl f | exact absurd (Sub.bit hp rfl) hq)]))
    | split
    | (intro _)
    | (dsimp only)

theorem State.resign_kept {s : State} (h_s : Kept T s₀ s) (arg : Nat) (hp : Sub 0x80000400004000002 T) : Kept T s₀ (State.resign s arg) := by
  unfold State.resign
  try dsimp only
  repeat' first
    | (with_reducible assumption)
    | ((with_reducible refine Sub.trans hp ?_); rfl)
    | ((with_reducible refine Sub.bit hp ?_); decide)
    | (with_reducible apply State.setClaim_kept)
    | (with_reducible apply State.sendBidues_kept)
    | split
    | (lift_lets; intro x; refine Kept.cut (s := x) ?_ (fun hx => ?_) <;> [subst x; clear_value x])
    | (intro x; refine Kept.cut (s := x) ?_ (fun hx => ?_) <;> [subst x; clear_value x])
    | (lift_lets; intro x; subst x)
    | (intro x; subst x)
    | (intro _)
    | (dsimp only)

theorem State.dropSwap_kept {s : State} (h_s : Kept T s₀ s)  (hp : Sub 0x4000000 T) : Kept T s₀ (State.dropSwap s) := by
  unfold State.dropSwap
  try dsimp only
  repeat' first
    | (with_reducible assumption)
    | ((with_reducible refine Sub.trans hp ?_); rfl)
    | ((with_reducible refine Sub.bit hp ?_); decide)
    | (with_reducible apply State.withClm_kept)
    | (fail_if_no_progress ((with_reducible refine Kept.mkOther ?_ ?_ ?_ (fun q hq => ?_)) <;> [skip; exact rfl; exact rfl; (cases q <;> first | with_reducible exact rfl | exact fun f _ => State.rd_congr rfl f | exact absurd (Sub.bit hp rfl) hq)]))
    | (lift_lets; intro x; refine Kept.cut (s := x) ?_ (fun hx => ?_) <;> [subst x; clear_value x])
    | (intro x; refine Kept.cut (s := x) ?_ (fun hx => ?_) <;> [subst x; clear_value x])
    | (lift_lets; intro x; subst x)
    | (intro x; subst x)
    | (intro _)
    | (dsimp only)

theorem State.abandonSwap_kept {s : State} (h_s : Kept T s₀ s)  (hp : Sub 0x4000010 T) : Kept T s₀ (State.abandonSwap s) := by
  unfold State.abandonSwap
  try dsimp only
  repeat' first
    | (with_reducible assumption)
    | ((with_reducible refine Sub.trans hp ?_); rfl)
    | ((with_reducible refine Sub.bit hp ?_); decide)
    | (with_reducible apply State.dropSwap_kept)
    | (with_reducible apply State.askRole_kept)
    | split
    | (intro _)
    | (dsimp only)

theorem State.askControl_kept {s : State} (h_s : Kept T s₀ s) (cause : Nat) (hp : Sub 0x10 T) : Kept T s₀ (State.askControl s cause) := by
  unfold State.askControl
  try dsimp only
  repeat' first
    | (with_reducible assumption)
    | ((with_reducible refine Sub.trans hp ?_); rfl)
    | ((with_reducible refine Sub.bit hp ?_); decide)
    | (with_reducible apply State.askRole_kept)
    | (intro _)
    | (dsimp only)

theorem State.linkFault_kept {s : State} (h_s : Kept T s₀ s)  (hp : Sub 0x44c0000020104003002 T) : Kept T s₀ (State.linkFault s) := by
  unfold State.linkFault
  try dsimp only
  repeat' first
    | (with_reducible assumption)
    | ((with_reducible refine Sub.trans hp ?_); rfl)
    | ((with_reducible refine Sub.bit hp ?_); decide)
    | (with_reducible apply State.withClm_kept)
    | (with_reducible apply State.wr_kept)
    | (with_reducible apply State.notice_kept)
    | (with_reducible apply State.clmEvent_kept)
    | (fail_if_no_progress ((with_reducible refine Kept.mkOther ?_ ?_ ?_ (fun q hq => ?_)) <;> [skip; exact rfl; exact rfl; (cases q <;> first | with_reducible exact rfl | exact fun f _ => State.rd_congr rfl f | exact absurd (Sub.bit hp rfl) hq)]))
    | split
    | (intro _)
    | (dsimp only)

theorem State.wantQuery_kept {s : State} (h_s : Kept T s₀ s)  (hp : Sub 0x4000000 T) : Kept T s₀ (State.wantQuery s) := by
  unfold State.wantQuery
  try dsimp only
  repeat' first
    | (with_reducible assumption)
    | ((with_reducible refine Sub.trans hp ?_); rfl)
    | ((with_reducible refine Sub.bit hp ?_); decide)
    | (with_reducible apply State.queueBidues_kept)
    | split
    | (intro _)
    | (dsimp only)

theorem State.zeroClaims_kept {s : State} (h_s : Kept T s₀ s)  (hp : Sub 0x10 T) : Kept T s₀ (State.zeroClaims s) := by
  unfold State.zeroClaims
  try dsimp only
  repeat' first
    | (with_reducible assumption)
    | ((with_reducible refine Sub.trans hp ?_); rfl)
    | ((with_reducible refine Sub.bit hp ?_); decide)
    | (with_reducible apply State.askControl_kept)
    | split
    | (intro _)
    | (dsimp only)

theorem State.standbyDecide_kept {s : State} (h_s : Kept T s₀ s)  (hp : Sub 0x44c0000020104003012 T) : Kept T s₀ (State.standbyDecide s) := by
  unfold State.standbyDecide
  try dsimp only
  repeat' first
    | (with_reducible assumption)
    | ((with_reducible refine Sub.trans hp ?_); rfl)
    | ((with_reducible refine Sub.bit hp ?_); decide)
    | (with_reducible apply State.askControl_kept)
    | (with_reducible apply State.withClm_kept)
    | (with_reducible apply State.wantQuery_kept)
    | (with_reducible apply State.linkFault_kept)
    | (fail_if_no_progress ((with_reducible refine Kept.mkOther ?_ ?_ ?_ (fun q hq => ?_)) <;> [skip; exact rfl; exact rfl; (cases q <;> first | with_reducible exact rfl | exact fun f _ => State.rd_congr rfl f | exact absurd (Sub.bit hp rfl) hq)]))
    | split
    | (intro _)
    | (dsimp only)

theorem State.waitSilent_kept {s : State} (h_s : Kept T s₀ s)  (hp : Sub 0x44c0000020104003012 T) : Kept T s₀ (State.waitSilent s) := by
  unfold State.waitSilent
  try dsimp only
  repeat' first
    | (with_reducible assumption)
    | ((with_reducible refine Sub.trans hp ?_); rfl)
    | ((with_reducible refine Sub.bit hp ?_); decide)
    | (with_reducible apply State.askRole_kept)
    | (with_reducible apply State.linkFault_kept)
    | split
    | (intro _)
    | (dsimp only)

theorem State.waitOver_kept {s : State} (h_s : Kept T s₀ s)  (hp : Sub 0x44c0000020104003012 T) : Kept T s₀ (State.waitOver s) := by
  unfold State.waitOver
  try dsimp only
  repeat' first
    | (with_reducible assumption)
    | ((with_reducible refine Sub.trans hp ?_); rfl)
    | ((with_reducible refine Sub.bit hp ?_); decide)
    | (with_reducible apply State.withClm_kept)
    | (with_reducible apply State.waitSilent_kept)
    | (fail_if_no_progress ((with_reducible refine Kept.mkOther ?_ ?_ ?_ (fun q hq => ?_)) <;> [skip; exact rfl; exact rfl; (cases q <;> first | with_reducible exact rfl | exact fun f _ => State.rd_congr rfl f | exact absurd (Sub.bit hp rfl) hq)]))
    | split
    | (intro _)
    | (dsimp only)

theorem State.clmMiss_kept {s : State} (h_s : Kept T s₀ s)  (hp : Sub 0x44c0000020104003012 T) : Kept T s₀ (State.clmMiss s) := by
  unfold State.clmMiss
  try dsimp only
  repeat' first
    | (with_reducible assumption)
    | ((with_reducible refine Sub.trans hp ?_); rfl)
    | ((with_reducible refine Sub.bit hp ?_); decide)
    | (with_reducible apply State.withClm_kept)
    | (with_reducible apply State.waitSilent_kept)
    | (with_reducible apply State.standbyDecide_kept)
    | (fail_if_no_progress ((with_reducible refine Kept.mkOther ?_ ?_ ?_ (fun q hq => ?_)) <;> [skip; exact rfl; exact rfl; (cases q <;> first | with_reducible exact rfl | exact fun f _ => State.rd_congr rfl f | exact absurd (Sub.bit hp rfl) hq)]))
    | split
    | (lift_lets; intro x; refine Kept.cut (s := x) ?_ (fun hx => ?_) <;> [subst x; clear_value x])
    | (intro x; refine Kept.cut (s := x) ?_ (fun hx => ?_) <;> [subst x; clear_value x])
    | (lift_lets; intro x; subst x)
    | (intro x; subst x)
    | (intro _)
    | (dsimp only)

theorem State.clmBeacon_kept {s : State} (h_s : Kept T s₀ s)  (hp : Sub 0x44c0000020104003012 T) : Kept T s₀ (State.clmBeacon s) := by
  unfold State.clmBeacon
  try dsimp only
  repeat' first
    | (with_reducible assumption)
    | ((with_reducible refine Sub.trans hp ?_); rfl)
    | ((with_reducible refine Sub.bit hp ?_); decide)
    | (with_reducible apply State.withClm_kept)
    | (with_reducible apply State.waitSilent_kept)
    | (with_reducible apply State.notice_kept)
    | (with_reducible apply State.clmEvent_kept)
    | (with_reducible apply State.silt_kept)
    | (fail_if_no_progress ((with_reducible refine Kept.mkOther ?_ ?_ ?_ (fun q hq => ?_)) <;> [skip; exact rfl; exact rfl; (cases q <;> first | with_reducible exact rfl | exact fun f _ => State.rd_congr rfl f | exact absurd (Sub.bit hp rfl) hq)]))
    | split
    | (intro _)
    | (dsimp only)

theorem State.giveUpClaim_kept {s : State} (h_s : Kept T s₀ s) (cause : Nat) (hp : Sub 0x80000400004000010 T) : Kept T s₀ (State.giveUpClaim s cause) := by
  unfold State.giveUpClaim
  try dsimp only
  repeat' first
    | (with_reducible assumption)
    | ((with_reducible refine Sub.trans hp ?_); rfl)
    | ((with_reducible refine Sub.bit hp ?_); decide)
    | (with_reducible apply State.setClaim_kept)
    | (with_reducible apply State.askRole_kept)
    | (intro _)
    | (dsimp only)

theorem State.clmSuperseded_kept {s : State} (h_s : Kept T s₀ s)  (hp : Sub 0x44c0000420104003012 T) : Kept T s₀ (State.clmSuperseded s) := by
  unfold State.clmSuperseded
  try dsimp only
  repeat' first
    | (with_reducible assumption)
    | ((with_reducible refine Sub.trans hp ?_); rfl)
    | ((with_reducible refine Sub.bit hp ?_); decide)
    | (with_reducible apply State.notice_kept)
    | (with_reducible apply State.giveUpClaim_kept)
    | (with_reducible apply State.clmEvent_kept)
    | split
    | (lift_lets; intro x; refine Kept.cut (s := x) ?_ (fun hx => ?_) <;> [subst x; clear_value x])
    | (intro x; refine Kept.cut (s := x) ?_ (fun hx => ?_) <;> [subst x; clear_value x])
    | (lift_lets; intro x; subst x)
    | (intro x; subst x)
    | (intro _)
    | (dsimp only)

theorem State.loadPartner_kept {s : State} (h_s : Kept T s₀ s) (f : Bidues) (hp : Sub 0x44c0000020104003002 T) : Kept T s₀ (State.loadPartner s f) := by
  unfold State.loadPartner
  try dsimp only
  repeat' first
    | (with_reducible assumption)
    | ((with_reducible refine Sub.trans hp ?_); rfl)
    | ((with_reducible refine Sub.bit hp ?_); decide)
    | (with_reducible apply State.count_kept)
    | (with_reducible refine State.wrAll_nil_kept ?_)
    | (with_reducible refine State.wrAll_cons_kept ?_)
    | (with_reducible refine State.wrAll_kept ?_ _ ?_ ?_)
    | (with_reducible apply State.wr_kept)
    | (with_reducible apply State.withClm_kept)
    | (with_reducible apply State.noticeIf_kept)
    | (with_reducible apply State.clmEvent_kept)
    | (with_reducible apply State.compare_kept)
    | (fail_if_no_progress ((with_reducible refine Kept.mkOther ?_ ?_ ?_ (fun q hq => ?_)) <;> [skip; exact rfl; exact rfl; (cases q <;> first | with_reducible exact rfl | exact fun f _ => State.rd_congr rfl f | exact absurd (Sub.bit hp rfl) hq)]))
    | split
    | (lift_lets; intro x; refine Kept.cut (s := x) ?_ (fun hx => ?_) <;> [subst x; clear_value x])
    | (intro x; refine Kept.cut (s := x) ?_ (fun hx => ?_) <;> [subst x; clear_value x])
    | (lift_lets; intro x; subst x)
    | (intro x; subst x)
    | (intro _)
    | (dsimp only)

theorem State.linkUp_kept {s : State} (h_s : Kept T s₀ s)  (hp : Sub 0x44c0000020100003002 T) : Kept T s₀ (State.linkUp s) := by
  unfold State.linkUp
  try dsimp only
  repeat' first
    | (with_reducible assumption)
    | ((with_reducible refine Sub.trans hp ?_); rfl)
    | ((with_reducible refine Sub.bit hp ?_); decide)
    | (with_reducible apply State.wr_kept)
    | (with_reducible apply State.notice_kept)
    | (with_reducible apply State.clmEvent_kept)
    | split
    | (intro _)
    | (dsimp only)

theorem State.claimRules_kept {s : State} (h_s : Kept T s₀ s) (f : Bidues) (hp : Sub 0x44c0000420104003012 T) : Kept T s₀ (State.claimRules s f) := by
  unfold State.claimRules
  try dsimp only
  repeat' first
    | (with_reducible assumption)
    | ((with_reducible refine Sub.trans hp ?_); rfl)
    | ((with_reducible refine Sub.bit hp ?_); decide)
    | (with_reducible apply State.giveUpClaim_kept)
    | (with_reducible apply State.notice_kept)
    | (with_reducible apply State.silt_kept)
    | (with_reducible apply State.gainControl_kept)
    | (with_reducible apply State.clmEvent_kept)
    | (with_reducible apply State.askRole_kept)
    | split
    | (lift_lets; intro x; refine Kept.cut (s := x) ?_ (fun hx => ?_) <;> [subst x; clear_value x])
    | (intro x; refine Kept.cut (s := x) ?_ (fun hx => ?_) <;> [subst x; clear_value x])
    | (lift_lets; intro x; subst x)
    | (intro x; subst x)
    | (intro _)
    | (dsimp only)

theorem State.waitRules_kept {s : State} (h_s : Kept T s₀ s) (f : Bidues) (hp : Sub 0x10 T) : Kept T s₀ (State.waitRules s f) := by
  unfold State.waitRules
  try dsimp only
  repeat' first
    | (with_reducible assumption)
    | ((with_reducible refine Sub.trans hp ?_); rfl)
    | ((with_reducible refine Sub.bit hp ?_); decide)
    | (with_reducible apply State.askRole_kept)
    | split
    | (intro _)
    | (dsimp only)

theorem State.swapDone_kept {s : State} (h_s : Kept T s₀ s) (periodic : Bool) (hp : Sub 0x80000020004000002 T) : Kept T s₀ (State.swapDone s periodic) := by
  unfold State.swapDone
  try dsimp only
  repeat' first
    | (with_reducible assumption)
    | ((with_reducible refine Sub.trans hp ?_); rfl)
    | ((with_reducible refine Sub.bit hp ?_); decide)
    | (with_reducible apply State.notice_kept)
    | (with_reducible apply State.count_kept)
    | (with_reducible apply State.wr_kept)
    | (fail_if_no_progress ((with_reducible refine Kept.mkOther ?_ ?_ ?_ (fun q hq => ?_)) <;> [skip; exact rfl; exact rfl; (cases q <;> first | with_reducible exact rfl | exact fun f _ => State.rd_congr rfl f | exact absurd (Sub.bit hp rfl) hq)]))
    | split
    | (lift_lets; intro x; refine Kept.cut (s := x) ?_ (fun hx => ?_) <;> [subst x; clear_value x])
    | (intro x; refine Kept.cut (s := x) ?_ (fun hx => ?_) <;> [subst x; clear_value x])
    | (lift_lets; intro x; subst x)
    | (intro x; subst x)
    | (intro _)
    | (dsimp only)

theorem State.biduesKind_kept {s : State} (h_s : Kept T s₀ s) (f : Bidues) (hp : Sub 0x44c0000420104003012 T) : Kept T s₀ (State.biduesKind s f) := by
  unfold State.biduesKind
  try dsimp only
  repeat' first
    | (with_reducible assumption)
    | ((with_reducible refine Sub.trans hp ?_); rfl)
    | ((with_reducible refine Sub.bit hp ?_); decide)
    | (with_reducible apply State.queueBidues_kept)
    | (with_reducible apply State.withClm_kept)
    | (with_reducible apply State.notice_kept)
    | (with_reducible apply State.clmEvent_kept)
    | (with_reducible apply State.askControl_kept)
    | (with_reducible apply State.askRole_kept)
    | (with_reducible apply State.setClaim_kept)
    | (with_reducible apply State.swapRefused_kept)
    | (with_reducible apply State.wr_kept)
    | (with_reducible apply State.abandonSwap_kept)
    | (with_reducible apply State.dropSwap_kept)
    | (fail_if_no_progress ((with_reducible refine Kept.mkOther ?_ ?_ ?_ (fun q hq => ?_)) <;> [skip; exact rfl; exact rfl; (cases q <;> first | with_reducible exact rfl | exact fun f _ => State.rd_congr rfl f | exact absurd (Sub.bit hp rfl) hq)]))
    | split
    | (lift_lets; intro x; refine Kept.cut (s := x) ?_ (fun hx => ?_) <;> [subst x; clear_value x])
    | (intro x; refine Kept.cut (s := x) ?_ (fun hx => ?_) <;> [subst x; clear_value x])
    | (lift_lets; intro x; subst x)
    | (intro x; subst x)
    | (intro _)
    | (dsimp only)

theorem State.takingEnds_kept {s : State} (h_s : Kept T s₀ s) (f : Bidues) (hp : Sub 0x10 T) : Kept T s₀ (State.takingEnds s f) := by
  unfold State.takingEnds
  try dsimp only
  repeat' first
    | (with_reducible assumption)
    | ((with_reducible refine Sub.trans hp ?_); rfl)
    | ((with_reducible refine Sub.bit hp ?_); decide)
    | (with_reducible apply State.askRole_kept)
    | split
    | (intro _)
    | (dsimp only)

theorem State.revertWatch_kept {s : State} (h_s : Kept T s₀ s)  (hp : Sub 0x4000000 T) : Kept T s₀ (State.revertWatch s) := by
  unfold State.revertWatch
  try dsimp only
  repeat' first
    | (with_reducible assumption)
    | ((with_reducible refine Sub.trans hp ?_); rfl)
    | ((with_reducible refine Sub.bit hp ?_); decide)
    | (with_reducible apply State.withClm_kept)
    | (fail_if_no_progress ((with_reducible refine Kept.mkOther ?_ ?_ ?_ (fun q hq => ?_)) <;> [skip; exact rfl; exact rfl; (cases q <;> first | with_reducible exact rfl | exact fun f _ => State.rd_congr rfl f | exact absurd (Sub.bit hp rfl) hq)]))
    | split
    | (intro _)
    | (dsimp only)

theorem State.bidues_kept {s : State} (h_s : Kept T s₀ s) (f : Bidues) (hp : Sub 0x44c0000420104003012 T) : Kept T s₀ (State.bidues s f) := by
  unfold State.bidues
  try dsimp only
  repeat' first
    | (with_reducible assumption)
    | ((with_reducible refine Sub.trans hp ?_); rfl)
    | ((with_reducible refine Sub.bit hp ?_); decide)
    | (with_reducible apply State.count_kept)
    | (with_reducible apply State.loadPartner_kept)
    | (with_reducible apply State.linkUp_kept)
    | (with_reducible apply State.claimRules_kept)
    | (with_reducible apply State.waitRules_kept)
    | (with_reducible apply State.zeroClaims_kept)
    | (with_reducible apply State.standbyDecide_kept)
    | (with_reducible apply State.biduesKind_kept)
    | (with_reducible apply State.takingEnds_kept)
    | (with_reducible apply State.revertWatch_kept)
    | split
    | (lift_lets; intro x; refine Kept.cut (s := x) ?_ (fun hx => ?_) <;> [subst x; clear_value x])
    | (intro x; refine Kept.cut (s := x) ?_ (fun hx => ?_) <;> [subst x; clear_value x])
    | (lift_lets; intro x; subst x)
    | (intro x; subst x)
    | (intro _)
    | (dsimp only)

theorem State.frameSent_kept {s : State} (h_s : Kept T s₀ s) (k : Nat) (a : Nat) (hp : Sub 0x80000000004000000 T) : Kept T s₀ (State.frameSent s k a) := by
  unfold State.frameSent
  try dsimp only
  repeat' first
    | (with_reducible assumption)
    | ((with_reducible refine Sub.trans hp ?_); rfl)
    | ((with_reducible refine Sub.bit hp ?_); decide)
    | (with_reducible apply State.withClm_kept)
    | (with_reducible apply State.count_kept)
    | (fail_if_no_progress ((with_reducible refine Kept.mkOther ?_ ?_ ?_ (fun q hq => ?_)) <;> [skip; exact rfl; exact rfl; (cases q <;> first | with_reducible exact rfl | exact fun f _ => State.rd_congr rfl f | exact absurd (Sub.bit hp rfl) hq)]))
    | split
    | (lift_lets; intro x; refine Kept.cut (s := x) ?_ (fun hx => ?_) <;> [subst x; clear_value x])
    | (intro x; refine Kept.cut (s := x) ?_ (fun hx => ?_) <;> [subst x; clear_value x])
    | (lift_lets; intro x; subst x)
    | (intro x; subst x)
    | (intro _)
    | (dsimp only)

theorem State.turn_kept {s : State} (h_s : Kept T s₀ s)  (hp : Sub 0x80000400004000002 T) : Kept T s₀ (State.turn s) := by
  unfold State.turn
  try dsimp only
  repeat' first
    | (with_reducible assumption)
    | ((with_reducible refine Sub.trans hp ?_); rfl)
    | ((with_reducible refine Sub.bit hp ?_); decide)
    | (with_reducible apply State.wantQuery_kept)
    | (with_reducible apply State.sendBidues_kept)
    | (with_reducible apply State.withClm_kept)
    | (with_reducible apply State.setClaim_kept)
    | (with_reducible apply State.frameSent_kept)
    | (fail_if_no_progress ((with_reducible refine Kept.mkOther ?_ ?_ ?_ (fun q hq => ?_)) <;> [skip; exact rfl; exact rfl; (cases q <;> first | with_reducible exact rfl | exact fun f _ => State.rd_congr rfl f | exact absurd (Sub.bit hp rfl) hq)]))
    | split
    | (lift_lets; intro x; refine Kept.cut (s := x) ?_ (fun hx => ?_) <;> [subst x; clear_value x])
    | (intro x; refine Kept.cut (s := x) ?_ (fun hx => ?_) <;> [subst x; clear_value x])
    | (lift_lets; intro x; subst x)
    | (intro x; subst x)
    | (intro _)
    | (dsimp only)

theorem State.linkLost_kept {s : State} (h_s : Kept T s₀ s)  (hp : Sub 0x44c0000020104003012 T) : Kept T s₀ (State.linkLost s) := by
  unfold State.linkLost
  try dsimp only
  repeat' first
    | (with_reducible assumption)
    | ((with_reducible refine Sub.trans hp ?_); rfl)
    | ((with_reducible refine Sub.bit hp ?_); decide)
    | (with_reducible apply State.wr_kept)
    | (with_reducible apply State.count_kept)
    | (with_reducible apply State.notice_kept)
    | (with_reducible apply State.clmEvent_kept)
    | (with_reducible apply State.withClm_kept)
    | (with_reducible apply State.askRole_kept)
    | (with_reducible apply State.abandonSwap_kept)
    | (with_reducible apply State.waitSilent_kept)
    | (with_reducible apply State.standbyDecide_kept)
    | (with_reducible apply State.revertWatch_kept)
    | (fail_if_no_progress ((with_reducible refine Kept.mkOther ?_ ?_ ?_ (fun q hq => ?_)) <;> [skip; exact rfl; exact rfl; (cases q <;> first | with_reducible exact rfl | exact fun f _ => State.rd_congr rfl f | exact absurd (Sub.bit hp rfl) hq)]))
    | split
    | (lift_lets; intro x; refine Kept.cut (s := x) ?_ (fun hx => ?_) <;> [subst x; clear_value x])
    | (intro x; refine Kept.cut (s := x) ?_ (fun hx => ?_) <;> [subst x; clear_value x])
    | (lift_lets; intro x; subst x)
    | (intro x; subst x)
    | (intro _)
    | (dsimp only)

theorem State.comparatorLoad_kept {s : State} (h_s : Kept T s₀ s)  (hp : Sub 0x80000000004000000 T) : Kept T s₀ (State.comparatorLoad s) := by
  unfold State.comparatorLoad
  try dsimp only
  repeat' first
    | (with_reducible assumption)
    | ((with_reducible refine Sub.trans hp ?_); rfl)
    | ((with_reducible refine Sub.bit hp ?_); decide)
    | (with_reducible apply State.compare_kept)
    | (fail_if_no_progress ((with_reducible refine Kept.mkOther ?_ ?_ ?_ (fun q hq => ?_)) <;> [skip; exact rfl; exact rfl; (cases q <;> first | with_reducible exact rfl | exact fun f _ => State.rd_congr rfl f | exact absurd (Sub.bit hp rfl) hq)]))
    | split
    | (intro _)
    | (dsimp only)

theorem State.queryExpire_kept {s : State} (h_s : Kept T s₀ s)  (hp : Sub 0x4000010 T) : Kept T s₀ (State.queryExpire s) := by
  unfold State.queryExpire
  try dsimp only
  repeat' first
    | (with_reducible assumption)
    | ((with_reducible refine Sub.trans hp ?_); rfl)
    | ((with_reducible refine Sub.bit hp ?_); decide)
    | (with_reducible apply State.askControl_kept)
    | (fail_if_no_progress ((with_reducible refine Kept.mkOther ?_ ?_ ?_ (fun q hq => ?_)) <;> [skip; exact rfl; exact rfl; (cases q <;> first | with_reducible exact rfl | exact fun f _ => State.rd_congr rfl f | exact absurd (Sub.bit hp rfl) hq)]))
    | split
    | (lift_lets; intro x; refine Kept.cut (s := x) ?_ (fun hx => ?_) <;> [subst x; clear_value x])
    | (intro x; refine Kept.cut (s := x) ?_ (fun hx => ?_) <;> [subst x; clear_value x])
    | (lift_lets; intro x; subst x)
    | (intro x; subst x)
    | (intro _)
    | (dsimp only)

theorem State.swapExpire_kept {s : State} (h_s : Kept T s₀ s)  (hp : Sub 0x44c0000020104003012 T) : Kept T s₀ (State.swapExpire s) := by
  unfold State.swapExpire
  try dsimp only
  repeat' first
    | (with_reducible assumption)
    | ((with_reducible refine Sub.trans hp ?_); rfl)
    | ((with_reducible refine Sub.bit hp ?_); decide)
    | (with_reducible apply State.swapRefused_kept)
    | (with_reducible apply State.abandonSwap_kept)
    | split
    | (intro _)
    | (dsimp only)

theorem State.handover_kept {s : State} (h_s : Kept T s₀ s) (origin : Nat) (hp : Sub 0x44c0000020100003012 T) : Kept T s₀ (State.handover s origin) := by
  unfold State.handover
  try dsimp only
  repeat' first
    | (with_reducible assumption)
    | ((with_reducible refine Sub.trans hp ?_); rfl)
    | ((with_reducible refine Sub.bit hp ?_); decide)
    | (with_reducible apply State.wr_kept)
    | (with_reducible apply State.swapRefused_kept)
    | (with_reducible apply State.askRole_kept)
    | split
    | (intro _)
    | (dsimp only)

theorem State.take_kept {s : State} (h_s : Kept T s₀ s)  (hp : Sub 0x44c0000020104003002 T) : Kept T s₀ (State.take s) := by
  unfold State.take
  try dsimp only
  repeat' first
    | (with_reducible assumption)
    | ((with_reducible refine Sub.trans hp ?_); rfl)
    | ((with_reducible refine Sub.bit hp ?_); decide)
    | (with_reducible apply State.wr_kept)
    | (with_reducible apply State.swapRefused_kept)
    | (with_reducible apply State.queueBidues_kept)
    | split
    | (intro _)
    | (dsimp only)

theorem State.epochReset_kept {s : State} (h_s : Kept T s₀ s)  (hp : Sub 0x80000000000000000 T) : Kept T s₀ (State.epochReset s) := by
  unfold State.epochReset
  try dsimp only
  repeat' first
    | (with_reducible assumption)
    | ((with_reducible refine Sub.trans hp ?_); rfl)
    | ((with_reducible refine Sub.bit hp ?_); decide)
    | (with_reducible apply State.wr_kept)
    | split
    | (intro _)
    | (dsimp only)

theorem State.hostQuery_kept {s : State} (h_s : Kept T s₀ s)  (hp : Sub 0x80000000004000000 T) : Kept T s₀ (State.hostQuery s) := by
  unfold State.hostQuery
  try dsimp only
  repeat' first
    | (with_reducible assumption)
    | ((with_reducible refine Sub.trans hp ?_); rfl)
    | ((with_reducible refine Sub.bit hp ?_); decide)
    | (with_reducible apply State.wr_kept)
    | (with_reducible apply State.queueBidues_kept)
    | split
    | (intro _)
    | (dsimp only)

theorem State.clmCommand_kept {s : State} (h_s : Kept T s₀ s) (w : Nat) (hp : Sub 0x44c0000020104003012 T) : Kept T s₀ (State.clmCommand s w) := by
  unfold State.clmCommand
  try dsimp only
  repeat' first
    | (with_reducible assumption)
    | ((with_reducible refine Sub.trans hp ?_); rfl)
    | ((with_reducible refine Sub.bit hp ?_); decide)
    | (with_reducible apply State.handover_kept)
    | (with_reducible apply State.take_kept)
    | (with_reducible apply State.epochReset_kept)
    | (with_reducible apply State.hostQuery_kept)
    | split
    | (intro _)
    | (dsimp only)

theorem State.swapDated_kept {s : State} (h_s : Kept T s₀ s)  (hp : Sub 0x80000000004000000 T) : Kept T s₀ (State.swapDated s) := by
  unfold State.swapDated
  try dsimp only
  repeat' first
    | (with_reducible assumption)
    | ((with_reducible refine Sub.trans hp ?_); rfl)
    | ((with_reducible refine Sub.bit hp ?_); decide)
    | (with_reducible apply State.wr_kept)
    | (fail_if_no_progress ((with_reducible refine Kept.mkOther ?_ ?_ ?_ (fun q hq => ?_)) <;> [skip; exact rfl; exact rfl; (cases q <;> first | with_reducible exact rfl | exact fun f _ => State.rd_congr rfl f | exact absurd (Sub.bit hp rfl) hq)]))
    | (intro _)
    | (dsimp only)

theorem State.swapSkip_kept {s : State} (h_s : Kept T s₀ s) (n : Nat) (hp : Sub 0x4000000 T := by first | exact Sub.trans (by assumption) rfl | exact Sub.all (by assumption)) : Kept T s₀ (s.swapSkip n) := by
  induction n generalizing s with
  | zero => exact h_s
  | succ n ih =>
    unfold State.swapSkip
    split
    · exact h_s
    · dsimp only
      split
      · exact h_s
      · split
        · exact ih (h_s.mkOther rfl rfl (fun q hq => by cases q <;> first | exact rfl | exact fun f _ => State.rd_congr rfl f | exact absurd (Sub.bit hp rfl) hq))
        · exact h_s

theorem State.periodicSwap_kept {s : State} (h_s : Kept T s₀ s)  (hp : Sub 0x44c0000020104003012 T) : Kept T s₀ (State.periodicSwap s) := by
  unfold State.periodicSwap
  try dsimp only
  repeat' first
    | (with_reducible assumption)
    | ((with_reducible refine Sub.trans hp ?_); rfl)
    | ((with_reducible refine Sub.bit hp ?_); decide)
    | (with_reducible apply State.swapSkip_kept)
    | (with_reducible apply State.swapRefused_kept)
    | (with_reducible apply State.askRole_kept)
    | (fail_if_no_progress ((with_reducible refine Kept.mkOther ?_ ?_ ?_ (fun q hq => ?_)) <;> [skip; exact rfl; exact rfl; (cases q <;> first | with_reducible exact rfl | exact fun f _ => State.rd_congr rfl f | exact absurd (Sub.bit hp rfl) hq)]))
    | split
    | (lift_lets; intro x; refine Kept.cut (s := x) ?_ (fun hx => ?_) <;> [subst x; clear_value x])
    | (intro x; refine Kept.cut (s := x) ?_ (fun hx => ?_) <;> [subst x; clear_value x])
    | (lift_lets; intro x; subst x)
    | (intro x; subst x)
    | (intro _)
    | (dsimp only)

theorem State.revertAsk_kept {s : State} (h_s : Kept T s₀ s)  (hp : Sub 0x4000000 T) : Kept T s₀ (State.revertAsk s) := by
  unfold State.revertAsk
  try dsimp only
  repeat' first
    | (with_reducible assumption)
    | ((with_reducible refine Sub.trans hp ?_); rfl)
    | ((with_reducible refine Sub.bit hp ?_); decide)
    | (with_reducible apply State.withClm_kept)
    | (with_reducible apply State.queueBidues_kept)
    | (fail_if_no_progress ((with_reducible refine Kept.mkOther ?_ ?_ ?_ (fun q hq => ?_)) <;> [skip; exact rfl; exact rfl; (cases q <;> first | with_reducible exact rfl | exact fun f _ => State.rd_congr rfl f | exact absurd (Sub.bit hp rfl) hq)]))
    | split
    | (intro _)
    | (dsimp only)

theorem State.revert_kept {s : State} (h_s : Kept T s₀ s)  (hp : Sub 0x4000000 T) : Kept T s₀ (State.revert s) := by
  unfold State.revert
  try dsimp only
  repeat' first
    | (with_reducible assumption)
    | ((with_reducible refine Sub.trans hp ?_); rfl)
    | ((with_reducible refine Sub.bit hp ?_); decide)
    | (with_reducible apply State.revertWatch_kept)
    | (with_reducible apply State.revertAsk_kept)
    | (intro _)
    | (dsimp only)

theorem State.clmEnable_kept {s : State} (h_s : Kept T s₀ s) (en : Bool) (hp : Sub 0x80000400004000012 T) : Kept T s₀ (State.clmEnable s en) := by
  unfold State.clmEnable
  try dsimp only
  repeat' first
    | (with_reducible assumption)
    | ((with_reducible refine Sub.trans hp ?_); rfl)
    | ((with_reducible refine Sub.bit hp ?_); decide)
    | (with_reducible apply State.wr_kept)
    | (with_reducible apply State.resign_kept)
    | (with_reducible apply State.abandonSwap_kept)
    | (with_reducible apply State.askRole_kept)
    | split
    | (lift_lets; intro x; refine Kept.cut (s := x) ?_ (fun hx => ?_) <;> [subst x; clear_value x])
    | (intro x; refine Kept.cut (s := x) ?_ (fun hx => ?_) <;> [subst x; clear_value x])
    | (lift_lets; intro x; subst x)
    | (intro x; subst x)
    | (intro _)
    | (dsimp only)

theorem State.quietHour_kept {s : State} (h_s : Kept T s₀ s)  (hp : Sub 0x4000001 T) : Kept T s₀ (State.quietHour s) := by
  unfold State.quietHour
  try dsimp only
  repeat' first
    | (with_reducible assumption)
    | ((with_reducible refine Sub.trans hp ?_); rfl)
    | ((with_reducible refine Sub.bit hp ?_); decide)
    | (with_reducible apply State.setN_kept)
    | (with_reducible apply State.withClm_kept)
    | (fail_if_no_progress ((with_reducible refine Kept.mkOther ?_ ?_ ?_ (fun q hq => ?_)) <;> [skip; exact rfl; exact rfl; (cases q <;> first | with_reducible exact rfl | exact fun f _ => State.rd_congr rfl f | exact absurd (Sub.bit hp rfl) hq)]))
    | (lift_lets; intro x; refine Kept.cut (s := x) ?_ (fun hx => ?_) <;> [subst x; clear_value x])
    | (intro x; refine Kept.cut (s := x) ?_ (fun hx => ?_) <;> [subst x; clear_value x])
    | (lift_lets; intro x; subst x)
    | (intro x; subst x)
    | (intro _)
    | (dsimp only)

theorem State.driverLatch_kept {s : State} (h_s : Kept T s₀ s) (k : Nat) (hp : Sub 0x44c0000020100003002 T) : Kept T s₀ (State.driverLatch s k) := by
  unfold State.driverLatch
  try dsimp only
  repeat' first
    | (with_reducible assumption)
    | ((with_reducible refine Sub.trans hp ?_); rfl)
    | ((with_reducible refine Sub.bit hp ?_); decide)
    | (with_reducible apply State.wr_kept)
    | (with_reducible apply State.notice_kept)
    | (with_reducible apply State.clmEvent_kept)
    | (with_reducible apply State.silt_kept)
    | (intro _)
    | (dsimp only)

theorem State.grantRole_kept {s : State} (h_s : Kept T s₀ s) (q : ModeReq) (r : Role) (hp : Sub 0x44c000843010400301b T) : Kept T s₀ (State.grantRole s q r) := by
  unfold State.grantRole
  try dsimp only
  repeat' first
    | (with_reducible assumption)
    | ((with_reducible refine Sub.trans hp ?_); rfl)
    | ((with_reducible refine Sub.bit hp ?_); decide)
    | (with_reducible apply State.newEpoch_kept)
    | (with_reducible apply State.withClm_kept)
    | (with_reducible apply State.setRole_kept)
    | (with_reducible apply State.queueBidues_kept)
    | (with_reducible apply State.swapDone_kept)
    | (with_reducible apply State.gainControl_kept)
    | (with_reducible apply State.count_kept)
    | (with_reducible apply State.dropSwap_kept)
    | (with_reducible apply State.setClaim_kept)
    | (with_reducible apply State.wr_kept)
    | (with_reducible apply State.standbyDecide_kept)
    | (fail_if_no_progress ((with_reducible refine Kept.mkOther ?_ ?_ ?_ (fun q hq => ?_)) <;> [skip; exact rfl; exact rfl; (cases q <;> first | with_reducible exact rfl | exact fun f _ => State.rd_congr rfl f | exact absurd (Sub.bit hp rfl) hq)]))
    | split
    | (lift_lets; intro x; refine Kept.cut (s := x) ?_ (fun hx => ?_) <;> [subst x; clear_value x])
    | (intro x; refine Kept.cut (s := x) ?_ (fun hx => ?_) <;> [subst x; clear_value x])
    | (lift_lets; intro x; subst x)
    | (intro x; subst x)
    | (intro _)
    | (dsimp only)

theorem State.clmReset_kept {s : State} (h_s : Kept T s₀ s)  (hp : Sub 0x4000001 T) : Kept T s₀ (State.clmReset s) := by
  unfold State.clmReset
  try dsimp only
  repeat' first
    | (with_reducible assumption)
    | ((with_reducible refine Sub.trans hp ?_); rfl)
    | ((with_reducible refine Sub.bit hp ?_); decide)
    | (with_reducible apply State.clearBytes_kept)
    | (fail_if_no_progress ((with_reducible refine Kept.mkOther ?_ ?_ ?_ (fun q hq => ?_)) <;> [skip; exact rfl; exact rfl; (cases q <;> first | with_reducible exact rfl | exact fun f _ => State.rd_congr rfl f | exact absurd (Sub.bit hp rfl) hq)]))
    | (intro _)
    | (dsimp only)

theorem State.clmReady_kept {s : State} (h_s : Kept T s₀ s)  (hp : Sub 0x80000420004000002 T) : Kept T s₀ (State.clmReady s) := by
  unfold State.clmReady
  try dsimp only
  repeat' first
    | (with_reducible assumption)
    | ((with_reducible refine Sub.trans hp ?_); rfl)
    | ((with_reducible refine Sub.bit hp ?_); decide)
    | (with_reducible apply State.wr_kept)
    | (with_reducible apply State.gainControl_kept)
    | split
    | (intro _)
    | (dsimp only)

end Sys2Proof.Machine
end

