-- ==== Sys2Proof/Laws/KeepRadio.lean ====
section
/-! SUPPORT. What the operations of Machine/Radio.lean keep. -/

set_option Elab.async false
set_option linter.unusedTactic false
set_option linter.unreachableTactic false
set_option linter.unusedVariables false

namespace Sys2Proof.Machine

variable {T : Nat → Prop} {s₀ : State}

theorem State.chnErr_kept {s : State} (h_s : Kept T s₀ s) (n : Nat) (reason : Nat) (hp : Sub 0xa0000000002 T) : Kept T s₀ (State.chnErr s n reason) := by
  unfold State.chnErr
  try dsimp only
  repeat' first
    | (with_reducible assumption)
    | ((with_reducible refine Sub.trans hp ?_); rfl)
    | ((with_reducible refine Sub.bit hp ?_); decide)
    | (with_reducible apply State.wr_kept)
    | (with_reducible apply State.notice_kept)
    | (intro _)
    | (dsimp only)

theorem State.cellEnable_kept {s : State} (h_s : Kept T s₀ s) (n : Nat) (on : Bool) (hp : Sub 0x4000 T) : Kept T s₀ (State.cellEnable s n on) := by
  unfold State.cellEnable
  try dsimp only
  repeat' first
    | (with_reducible assumption)
    | ((with_reducible refine Sub.trans hp ?_); rfl)
    | ((with_reducible refine Sub.bit hp ?_); decide)
    | (fail_if_no_progress ((with_reducible refine Kept.mkOther ?_ ?_ ?_ (fun q hq => ?_)) <;> [skip; exact rfl; exact rfl; (cases q <;> first | with_reducible exact rfl | exact fun f _ => State.rd_congr rfl f | exact absurd (Sub.bit hp rfl) hq)]))
    | split
    | (lift_lets; intro x; refine Kept.cut (s := x) ?_ (fun hx => ?_) <;> [subst x; clear_value x])
    | (intro x; refine Kept.cut (s := x) ?_ (fun hx => ?_) <;> [subst x; clear_value x])
    | (lift_lets; intro x; subst x)
    | (intro x; subst x)
    | (intro _)
    | (dsimp only)

theorem State.slotCheck_kept {s : State} (h_s : Kept T s₀ s) (n : Nat) (hp : Sub 0xa0000004003 T) : Kept T s₀ (State.slotCheck s n) := by
  unfold State.slotCheck
  try dsimp only
  repeat' first
    | (with_reducible assumption)
    | ((with_reducible refine Sub.trans hp ?_); rfl)
    | ((with_reducible refine Sub.bit hp ?_); decide)
    | (with_reducible apply State.cellEnable_kept)
    | (with_reducible apply State.setBytes_kept)
    | (with_reducible apply State.chnErr_kept)
    | split
    | (intro _)
    | (dsimp only)

theorem State.slotsCheck_kept {s : State} (h_s : Kept T s₀ s)  (hp : Sub 0xa0000004003 T) : Kept T s₀ (State.slotsCheck s) := by
  unfold State.slotsCheck
  try dsimp only
  repeat' first
    | (with_reducible assumption)
    | ((with_reducible refine Sub.trans hp ?_); rfl)
    | ((with_reducible refine Sub.bit hp ?_); decide)
    | (with_reducible apply State.slotCheck_kept)
    | (with_reducible refine Kept.foldl _ _ ?_ (fun _ _ _ => ?_))
    | (intro _)
    | (dsimp only)

theorem State.deafen_kept {s : State} (h_s : Kept T s₀ s) (k : Nat) (until_ : Nat) (hp : Sub 0x4000 T := by first | exact Sub.trans (by assumption) rfl | exact Sub.all (by assumption)) : Kept T s₀ (State.deafen s k until_) := by
  unfold State.deafen
  try dsimp only
  repeat' first
    | (with_reducible assumption)
    | ((with_reducible refine Sub.trans hp ?_); rfl)
    | ((with_reducible refine Sub.bit hp ?_); decide)
    | (fail_if_no_progress ((with_reducible refine Kept.mkOther ?_ ?_ ?_ (fun q hq => ?_)) <;> [skip; exact rfl; exact rfl; (cases q <;> first | with_reducible exact rfl | exact fun f _ => State.rd_congr rfl f | exact absurd (Sub.bit hp rfl) hq)]))
    | (intro _)
    | (dsimp only)

theorem State.ownSlots_kept {s : State} (h_s : Kept T s₀ s)  (hp : Sub 0x1 T) : Kept T s₀ (State.ownSlots s) := by
  unfold State.ownSlots
  try dsimp only
  repeat' first
    | (with_reducible assumption)
    | ((with_reducible refine Sub.trans hp ?_); rfl)
    | ((with_reducible refine Sub.bit hp ?_); decide)
    | (with_reducible apply State.setBytes_kept)
    | (with_reducible refine Kept.foldl _ _ ?_ (fun _ _ _ => ?_))
    | split
    | (lift_lets; intro x; refine Kept.cut (s := x) ?_ (fun hx => ?_) <;> [subst x; clear_value x])
    | (intro x; refine Kept.cut (s := x) ?_ (fun hx => ?_) <;> [subst x; clear_value x])
    | (lift_lets; intro x; subst x)
    | (intro x; subst x)
    | (intro _)
    | (dsimp only)

theorem State.slotToMac_kept {s : State} (h_s : Kept T s₀ s)  (hp : Sub 0x4001 T) : Kept T s₀ (State.slotToMac s) := by
  unfold State.slotToMac
  try dsimp only
  repeat' first
    | (with_reducible assumption)
    | ((with_reducible refine Sub.trans hp ?_); rfl)
    | ((with_reducible refine Sub.bit hp ?_); decide)
    | (with_reducible apply State.setBytes_kept)
    | (fail_if_no_progress ((with_reducible refine Kept.mkOther ?_ ?_ ?_ (fun q hq => ?_)) <;> [skip; exact rfl; exact rfl; (cases q <;> first | with_reducible exact rfl | exact fun f _ => State.rd_congr rfl f | exact absurd (Sub.bit hp rfl) hq)]))
    | split
    | (lift_lets; intro x; refine Kept.cut (s := x) ?_ (fun hx => ?_) <;> [subst x; clear_value x])
    | (intro x; refine Kept.cut (s := x) ?_ (fun hx => ?_) <;> [subst x; clear_value x])
    | (lift_lets; intro x; subst x)
    | (intro x; subst x)
    | (intro _)
    | (dsimp only)

theorem State.slotBack_kept {s : State} (h_s : Kept T s₀ s)  (hp : Sub 0xa0000004003 T) : Kept T s₀ (State.slotBack s) := by
  unfold State.slotBack
  try dsimp only
  repeat' first
    | (with_reducible assumption)
    | ((with_reducible refine Sub.trans hp ?_); rfl)
    | ((with_reducible refine Sub.bit hp ?_); decide)
    | (with_reducible apply State.setBytes_kept)
    | (with_reducible apply State.slotsCheck_kept)
    | (fail_if_no_progress ((with_reducible refine Kept.mkOther ?_ ?_ ?_ (fun q hq => ?_)) <;> [skip; exact rfl; exact rfl; (cases q <;> first | with_reducible exact rfl | exact fun f _ => State.rd_congr rfl f | exact absurd (Sub.bit hp rfl) hq)]))
    | split
    | (intro _)
    | (dsimp only)

theorem State.chnWordWrite_kept {s : State} (h_s : Kept T s₀ s) (off : Nat) (w : Nat) (hp : Sub 0xa0000004003 T) : Kept T s₀ (State.chnWordWrite s off w) := by
  unfold State.chnWordWrite
  try dsimp only
  repeat' first
    | (with_reducible assumption)
    | ((with_reducible refine Sub.trans hp ?_); rfl)
    | ((with_reducible refine Sub.bit hp ?_); decide)
    | (with_reducible apply State.chnErr_kept)
    | (with_reducible apply State.setN_kept)
    | (with_reducible apply State.cellEnable_kept)
    | (with_reducible apply State.setBytes_kept)
    | split
    | (lift_lets; intro x; refine Kept.cut (s := x) ?_ (fun hx => ?_) <;> [subst x; clear_value x])
    | (intro x; refine Kept.cut (s := x) ?_ (fun hx => ?_) <;> [subst x; clear_value x])
    | (lift_lets; intro x; subst x)
    | (intro x; subst x)
    | (intro _)
    | (dsimp only)

theorem State.retune_kept {s : State} (h_s : Kept T s₀ s) (k : Nat) (freq : Nat) (lost : Nat) (hp : Sub 0xe0000004003 T) : Kept T s₀ (State.retune s k freq lost) := by
  unfold State.retune
  try dsimp only
  repeat' first
    | (with_reducible assumption)
    | ((with_reducible refine Sub.trans hp ?_); rfl)
    | ((with_reducible refine Sub.bit hp ?_); decide)
    | (with_reducible apply State.notice_kept)
    | (with_reducible apply State.wr_kept)
    | (with_reducible apply State.count_kept)
    | (with_reducible apply State.deafen_kept)
    | (with_reducible apply State.slotsCheck_kept)
    | split
    | (intro _)
    | (dsimp only)

theorem State.airCut_kept {s : State} (h_s : Kept T s₀ s) (hp : Sub 0x4000 T := by first | exact Sub.trans (by assumption) rfl | exact Sub.all (by assumption)) : Kept T s₀ s.airCut := by
  unfold State.airCut
  exact h_s.of rfl (le_refl _) (List.prefix_refl _) (fun k => ⟨k.regs, k.win, k.intake, k.log, k.lrp, k.pcie, k.frames, (List.length_map ..).trans_le k.queue⟩) (fun q hq => by cases q <;> first | exact rfl | exact fun f _ => State.rd_congr rfl f | exact absurd (Sub.bit hp rfl) hq)

theorem State.pasOff_kept {s : State} (h_s : Kept T s₀ s) (hp : Sub 0x40000004000 T := by first | exact Sub.trans (by assumption) rfl | exact Sub.all (by assumption)) : Kept T s₀ s.pasOff := by
  unfold State.pasOff
  refine State.wrAll_kept ?_ _ fun c hc => ?_
  · refine State.airCut_kept (Kept.foldl _ _ h_s fun _ _ h => ?_)
    split
    · exact State.deafen_kept h _ _
    · exact h
  · simp only [List.cons_append, List.nil_append, List.mem_cons, List.mem_map] at hc
    rcases hc with rfl | rfl | ⟨a, -, rfl⟩
    · exact Sub.bit hp rfl
    · exact Sub.bit hp rfl
    · exact Sub.bitEq hp (j := 42) (by simp only [Field.slot, Field.page, Field.key]; omega) rfl

theorem State.agcStep_kept {s : State} (h_s : Kept T s₀ s) (k : Nat) (att : Nat) (inFrame : Bool) (hp : Sub 0x40000000000 T) : Kept T s₀ (State.agcStep s k att inFrame) := by
  unfold State.agcStep
  try dsimp only
  repeat' first
    | (with_reducible assumption)
    | ((with_reducible refine Sub.trans hp ?_); rfl)
    | ((with_reducible refine Sub.bit hp ?_); decide)
    | ((with_reducible refine Sub.bitEq hp (agcField_slot _) ?_); rfl)
    | (with_reducible apply State.wr_kept)
    | split
    | (intro _)
    | (dsimp only)

theorem State.agcClip_kept {s : State} (h_s : Kept T s₀ s) (k : Nat) (att : Nat) (lost : Nat) (hp : Sub 0xe0000000002 T) : Kept T s₀ (State.agcClip s k att lost) := by
  unfold State.agcClip
  try dsimp only
  repeat' first
    | (with_reducible assumption)
    | ((with_reducible refine Sub.trans hp ?_); rfl)
    | ((with_reducible refine Sub.bit hp ?_); decide)
    | ((with_reducible refine Sub.bitEq hp (agcField_slot _) ?_); rfl)
    | ((with_reducible refine Sub.bitEq hp (clipNotice_slot _) ?_); rfl)
    | (with_reducible apply State.wr_kept)
    | (with_reducible apply State.notice_kept)
    | (with_reducible apply State.count_kept)
    | split
    | (lift_lets; intro x; refine Kept.cut (s := x) ?_ (fun hx => ?_) <;> [subst x; clear_value x])
    | (intro x; refine Kept.cut (s := x) ?_ (fun hx => ?_) <;> [subst x; clear_value x])
    | (lift_lets; intro x; subst x)
    | (intro x; subst x)
    | (intro _)
    | (dsimp only)

theorem byEnd_length (f : RxFrame) (l : List RxFrame) : (byEnd f l).length = l.length + 1 := by
  induction l with
  | nil => rfl
  | cons g t ih =>
    unfold byEnd
    split
    · rfl
    · rw [List.length_cons, ih, List.length_cons]

theorem State.bufferFrame_kept {s : State} (h_s : Kept T s₀ s) (f : RxFrame) (hp : Sub 0xa0000004002 T := by first | exact Sub.trans (by assumption) rfl | exact Sub.all (by assumption)) : Kept T s₀ (s.bufferFrame f) := by
  unfold State.bufferFrame
  split
  · exact State.count_kept h_s _ _
  · split
    · exact State.notice_kept (State.count_kept h_s _ _) _
    · refine State.count_kept ?_ _ _
      exact h_s.of rfl (le_refl _) (List.prefix_refl _) (fun k =>
            ⟨k.regs, k.win, k.intake, k.log, k.lrp, k.pcie, by simp only [byEnd_length]; omega, k.queue⟩) (fun q hq => by cases q <;> first | exact rfl | exact fun f _ => State.rd_congr rfl f | exact absurd (Sub.bit hp rfl) hq)

theorem State.chnReceive_kept {s : State} (h_s : Kept T s₀ s) (n : Nat) (sfd : Nat) (ends : Nat) (rssi : Nat) (lqi : Nat) (check : FrameCheck) (m : MeshFrame) (hp : Sub 0x44000000a0100004003 T) : Kept T s₀ (State.chnReceive s n sfd ends rssi lqi check m) := by
  unfold State.chnReceive
  try dsimp only
  repeat' first
    | (with_reducible assumption)
    | ((with_reducible refine Sub.trans hp ?_); rfl)
    | ((with_reducible refine Sub.bit hp ?_); decide)
    | (with_reducible apply State.count_kept)
    | (with_reducible apply State.setN_kept)
    | (with_reducible apply State.itgCarry_kept)
    | (with_reducible apply State.bufferFrame_kept)
    | split
    | (lift_lets; intro x; refine Kept.cut (s := x) ?_ (fun hx => ?_) <;> [subst x; clear_value x])
    | (intro x; refine Kept.cut (s := x) ?_ (fun hx => ?_) <;> [subst x; clear_value x])
    | (lift_lets; intro x; subst x)
    | (intro x; subst x)
    | (intro _)
    | (dsimp only)

theorem State.lowIf_kept {s : State} (h_s : Kept T s₀ s) (e : Nat) (old : Nat) (new : Nat) (hp : Sub 0x60000000002 T) : Kept T s₀ (State.lowIf s e old new) := by
  unfold State.lowIf
  try dsimp only
  repeat' first
    | (with_reducible assumption)
    | ((with_reducible refine Sub.trans hp ?_); rfl)
    | ((with_reducible refine Sub.bit hp ?_); decide)
    | (with_reducible apply State.noticeIf_kept)
    | split
    | (lift_lets; intro x; refine Kept.cut (s := x) ?_ (fun hx => ?_) <;> [subst x; clear_value x])
    | (intro x; refine Kept.cut (s := x) ?_ (fun hx => ?_) <;> [subst x; clear_value x])
    | (lift_lets; intro x; subst x)
    | (intro x; subst x)
    | (intro _)
    | (dsimp only)

theorem State.charge_kept {s : State} (h_s : Kept T s₀ s) (k : Nat) (c : Nat) (hp : Sub 0x60000004002 T) : Kept T s₀ (State.charge s k c) := by
  unfold State.charge
  try dsimp only
  repeat' first
    | (with_reducible assumption)
    | ((with_reducible refine Sub.trans hp ?_); rfl)
    | ((with_reducible refine Sub.bit hp ?_); decide)
    | (with_reducible apply State.wr_kept)
    | (with_reducible apply State.lowIf_kept)
    | (fail_if_no_progress ((with_reducible refine Kept.mkOther ?_ ?_ ?_ (fun q hq => ?_)) <;> [skip; exact rfl; exact rfl; (cases q <;> first | with_reducible exact rfl | exact fun f _ => State.rd_congr rfl f | exact absurd (Sub.bit hp rfl) hq)]))
    | (lift_lets; intro x; refine Kept.cut (s := x) ?_ (fun hx => ?_) <;> [subst x; clear_value x])
    | (intro x; refine Kept.cut (s := x) ?_ (fun hx => ?_) <;> [subst x; clear_value x])
    | (lift_lets; intro x; subst x)
    | (intro x; subst x)
    | (intro _)
    | (dsimp only)

theorem State.moveBudgets_kept {s : State} (h_s : Kept T s₀ s) (e : Nat) (hp : Sub 0x60000004002 T) : Kept T s₀ (State.moveBudgets s e) := by
  unfold State.moveBudgets
  try dsimp only
  repeat' first
    | (with_reducible assumption)
    | ((with_reducible refine Sub.trans hp ?_); rfl)
    | ((with_reducible refine Sub.bit hp ?_); decide)
    | (with_reducible apply State.count_kept)
    | (with_reducible apply State.lowIf_kept)
    | (with_reducible refine Kept.foldl _ _ ?_ (fun _ _ _ => ?_))
    | (fail_if_no_progress ((with_reducible refine Kept.mkOther ?_ ?_ ?_ (fun q hq => ?_)) <;> [skip; exact rfl; exact rfl; (cases q <;> first | with_reducible exact rfl | exact fun f _ => State.rd_congr rfl f | exact absurd (Sub.bit hp rfl) hq)]))
    | split
    | (lift_lets; intro x; refine Kept.cut (s := x) ?_ (fun hx => ?_) <;> [subst x; clear_value x])
    | (intro x; refine Kept.cut (s := x) ?_ (fun hx => ?_) <;> [subst x; clear_value x])
    | (lift_lets; intro x; subst x)
    | (intro x; subst x)
    | (intro _)
    | (dsimp only)

theorem State.bandChanged_kept {s : State} (h_s : Kept T s₀ s)  (hp : Sub 0x60000004002 T) : Kept T s₀ (State.bandChanged s) := by
  unfold State.bandChanged
  try dsimp only
  repeat' first
    | (with_reducible assumption)
    | ((with_reducible refine Sub.trans hp ?_); rfl)
    | ((with_reducible refine Sub.bit hp ?_); decide)
    | (with_reducible apply State.moveBudgets_kept)
    | (with_reducible apply State.notice_kept)
    | (with_reducible refine Kept.foldl _ _ ?_ (fun _ _ _ => ?_))
    | split
    | (lift_lets; intro x; refine Kept.cut (s := x) ?_ (fun hx => ?_) <;> [subst x; clear_value x])
    | (intro x; refine Kept.cut (s := x) ?_ (fun hx => ?_) <;> [subst x; clear_value x])
    | (lift_lets; intro x; subst x)
    | (intro x; subst x)
    | (intro _)
    | (dsimp only)

theorem State.bandWordWrite_kept {s : State} (h_s : Kept T s₀ s) (off : Nat) (w : Nat) (hp : Sub 0x1 T) : Kept T s₀ (State.bandWordWrite s off w) := by
  unfold State.bandWordWrite
  try dsimp only
  repeat' first
    | (with_reducible assumption)
    | ((with_reducible refine Sub.trans hp ?_); rfl)
    | ((with_reducible refine Sub.bit hp ?_); decide)
    | (with_reducible apply State.setN_kept)
    | (intro _)
    | (dsimp only)

theorem State.bucketAdvance_kept {s : State} (h_s : Kept T s₀ s) (e : Nat) (ch : Nat) (hp : Sub 0x4000 T) : Kept T s₀ (State.bucketAdvance s e ch) := by
  unfold State.bucketAdvance
  try dsimp only
  repeat' first
    | (with_reducible assumption)
    | ((with_reducible refine Sub.trans hp ?_); rfl)
    | ((with_reducible refine Sub.bit hp ?_); decide)
    | (fail_if_no_progress ((with_reducible refine Kept.mkOther ?_ ?_ ?_ (fun q hq => ?_)) <;> [skip; exact rfl; exact rfl; (cases q <;> first | with_reducible exact rfl | exact fun f _ => State.rd_congr rfl f | exact absurd (Sub.bit hp rfl) hq)]))
    | split
    | (intro _)
    | (dsimp only)

theorem State.budgetsRestore_kept {s : State} (h_s : Kept T s₀ s)  (hp : Sub 0x400000060100004002 T) : Kept T s₀ (State.budgetsRestore s) := by
  unfold State.budgetsRestore
  try dsimp only
  repeat' first
    | (with_reducible assumption)
    | ((with_reducible refine Sub.trans hp ?_); rfl)
    | ((with_reducible refine Sub.bit hp ?_); decide)
    | (with_reducible apply State.wr_kept)
    | (with_reducible apply State.notice_kept)
    | (with_reducible apply State.silt_kept)
    | (fail_if_no_progress ((with_reducible refine Kept.mkOther ?_ ?_ ?_ (fun q hq => ?_)) <;> [skip; exact rfl; exact rfl; (cases q <;> first | with_reducible exact rfl | exact fun f _ => State.rd_congr rfl f | exact absurd (Sub.bit hp rfl) hq)]))
    | split
    | (lift_lets; intro x; refine Kept.cut (s := x) ?_ (fun hx => ?_) <;> [subst x; clear_value x])
    | (intro x; refine Kept.cut (s := x) ?_ (fun hx => ?_) <;> [subst x; clear_value x])
    | (lift_lets; intro x; subst x)
    | (intro x; subst x)
    | (intro _)
    | (dsimp only)

theorem State.regionWrite_kept {s : State} (h_s : Kept T s₀ s) (v : Nat) (hp : Sub 0x40000004000 T) : Kept T s₀ (State.regionWrite s v) := by
  unfold State.regionWrite
  try dsimp only
  repeat' first
    | (with_reducible assumption)
    | ((with_reducible refine Sub.trans hp ?_); rfl)
    | ((with_reducible refine Sub.bit hp ?_); decide)
    | (with_reducible apply State.wr_kept)
    | (fail_if_no_progress ((with_reducible refine Kept.mkOther ?_ ?_ ?_ (fun q hq => ?_)) <;> [skip; exact rfl; exact rfl; (cases q <;> first | with_reducible exact rfl | exact fun f _ => State.rd_congr rfl f | exact absurd (Sub.bit hp rfl) hq)]))
    | split
    | (lift_lets; intro x; refine Kept.cut (s := x) ?_ (fun hx => ?_) <;> [subst x; clear_value x])
    | (intro x; refine Kept.cut (s := x) ?_ (fun hx => ?_) <;> [subst x; clear_value x])
    | (lift_lets; intro x; subst x)
    | (intro x; subst x)
    | (intro _)
    | (dsimp only)

theorem State.regionTake_kept {s : State} (h_s : Kept T s₀ s)  (hp : Sub 0x40000004000 T) : Kept T s₀ (State.regionTake s) := by
  unfold State.regionTake
  try dsimp only
  repeat' first
    | (with_reducible assumption)
    | ((with_reducible refine Sub.trans hp ?_); rfl)
    | ((with_reducible refine Sub.bit hp ?_); decide)
    | (with_reducible apply State.wr_kept)
    | (fail_if_no_progress ((with_reducible refine Kept.mkOther ?_ ?_ ?_ (fun q hq => ?_)) <;> [skip; exact rfl; exact rfl; (cases q <;> first | with_reducible exact rfl | exact fun f _ => State.rd_congr rfl f | exact absurd (Sub.bit hp rfl) hq)]))
    | split
    | (intro _)
    | (dsimp only)

theorem State.macStopped_kept {s : State} (h_s : Kept T s₀ s)  (hp : Sub 0x100000004000 T) : Kept T s₀ (State.macStopped s) := by
  unfold State.macStopped
  try dsimp only
  repeat' first
    | (with_reducible assumption)
    | ((with_reducible refine Sub.trans hp ?_); rfl)
    | ((with_reducible refine Sub.bit hp ?_); decide)
    | (with_reducible apply State.wr_kept)
    | (fail_if_no_progress ((with_reducible refine Kept.mkOther ?_ ?_ ?_ (fun q hq => ?_)) <;> [skip; exact rfl; exact rfl; (cases q <;> first | with_reducible exact rfl | exact fun f _ => State.rd_congr rfl f | exact absurd (Sub.bit hp rfl) hq)]))
    | (intro _)
    | (dsimp only)

theorem State.macEnable_kept {s : State} (h_s : Kept T s₀ s)  (hp : Sub 0x140000004001 T) : Kept T s₀ (State.macEnable s) := by
  unfold State.macEnable
  try dsimp only
  repeat' first
    | (with_reducible assumption)
    | ((with_reducible refine Sub.trans hp ?_); rfl)
    | ((with_reducible refine Sub.bit hp ?_); decide)
    | (with_reducible apply State.ownSlots_kept)
    | (with_reducible apply State.macStopped_kept)
    | (with_reducible apply State.regionTake_kept)
    | split
    | (intro _)
    | (dsimp only)

end Sys2Proof.Machine
end

