-- ==== Sys2Proof/Laws/KeepMacQueue.lean ====
section
/-! SUPPORT. What the operations of Machine/MacQueue.lean keep. -/

set_option Elab.async false
set_option linter.unusedTactic false
set_option linter.unreachableTactic false
set_option linter.unusedVariables false

namespace Sys2Proof.Machine

variable {T : Nat → Prop} {s₀ : State}

theorem State.blockGone_kept {s : State} (h_s : Kept T s₀ s) (f : QFrame) (hp : Sub 0x44c0000020144003002 T) : Kept T s₀ (State.blockGone s f) := by
  unfold State.blockGone
  try dsimp only
  repeat' first
    | (with_reducible assumption)
    | ((with_reducible refine Sub.trans hp ?_); rfl)
    | ((with_reducible refine Sub.bit hp ?_); decide)
    | (with_reducible apply State.take_kept)
    | (fail_if_no_progress ((with_reducible refine Kept.mkOther ?_ ?_ ?_ (fun q hq => ?_)) <;> [skip; exact rfl; exact rfl; (cases q <;> first | with_reducible exact rfl | exact fun f _ => State.rd_congr rfl f | exact absurd (Sub.bit hp rfl) hq)]))
    | split
    | (intro _)
    | (dsimp only)

theorem State.rfeDrop_kept {s : State} (h_s : Kept T s₀ s) (f : QFrame) (hp : Sub 0x54c0000060144003002 T := by first | exact Sub.trans (by assumption) rfl | exact Sub.all (by assumption)) : Kept T s₀ (State.rfeDrop s f) := by
  unfold State.rfeDrop
  try dsimp only
  repeat' first
    | (with_reducible assumption)
    | ((with_reducible refine Sub.trans hp ?_); rfl)
    | ((with_reducible refine Sub.bit hp ?_); decide)
    | ((with_reducible refine Sub.bitEq hp (j := 42) ?_ ?_) <;> [(first | (simp only [Field.slot, Field.page, Field.key]; omega) | rfl); rfl])
    | (with_reducible apply State.count_kept)
    | (with_reducible apply State.blockGone_kept)
    | (with_reducible apply State.notice_kept)
    | split
    | (lift_lets; intro x; refine Kept.cut (s := x) ?_ (fun hx => ?_) <;> [subst x; clear_value x])
    | (intro x; refine Kept.cut (s := x) ?_ (fun hx => ?_) <;> [subst x; clear_value x])
    | (lift_lets; intro x; subst x)
    | (intro x; subst x)
    | (intro _)
    | (dsimp only)

theorem State.frameGone_kept {s : State} (h_s : Kept T s₀ s) (f : QFrame) (hp : Sub 0x8020000000003 T := by first | exact Sub.trans (by assumption) rfl | exact Sub.all (by assumption)) : Kept T s₀ (State.frameGone s f) := by
  unfold State.frameGone
  try dsimp only
  repeat' first
    | (with_reducible assumption)
    | ((with_reducible refine Sub.trans hp ?_); rfl)
    | ((with_reducible refine Sub.bit hp ?_); decide)
    | (with_reducible apply State.dptLost_kept)
    | split
    | (intro _)
    | (dsimp only)

theorem State.dequeue_kept {s : State} (h_s : Kept T s₀ s) (n : Nat) (hp : Sub 0x4000 T) : Kept T s₀ (State.dequeue s n) :=
  h_s.of rfl (le_refl _) (List.prefix_refl _) (fun k => ⟨k.regs, k.win, k.intake, k.log, k.lrp, k.pcie, k.frames, (List.length_filter_le _ _).trans k.queue⟩) (fun q hq => by cases q <;> first | exact rfl | exact fun f _ => State.rd_congr rfl f | exact absurd (Sub.bit hp rfl) hq)

theorem State.requeue_kept {s : State} (h_s : Kept T s₀ s) (n : Nat) (g : QFrame → QFrame) (hp : Sub 0x4000 T) : Kept T s₀ (State.requeue s n g) :=
  h_s.of rfl (le_refl _) (List.prefix_refl _) (fun k => ⟨k.regs, k.win, k.intake, k.log, k.lrp, k.pcie, k.frames, (List.length_map ..).trans_le k.queue⟩) (fun q hq => by cases q <;> first | exact rfl | exact fun f _ => State.rd_congr rfl f | exact absurd (Sub.bit hp rfl) hq)

theorem lowestOldest_mem (l : List QFrame) (g : QFrame) (h : lowestOldest l = some g) : g ∈ l := by
  induction l generalizing g with
  | nil => simp [lowestOldest] at h
  | cons a t ih =>
    unfold lowestOldest at h
    split at h
    · cases h
      exact List.mem_cons_self
    · split at h
      · cases h
        exact List.mem_cons_of_mem _ (ih _ (by assumption))
      · cases h
        exact List.mem_cons_self

theorem State.enqueue_kept {s : State} (h_s : Kept T s₀ s) (m : OutMessage) (seq : Nat) (hp : Sub 0x54c0008060144007003 T := by first | exact Sub.trans (by assumption) rfl | exact Sub.all (by assumption)) : Kept T s₀ (s.enqueue m seq) := by
  unfold State.enqueue
  dsimp only
  split
  · exact h_s.of rfl (le_refl _) (List.prefix_refl _) (fun k => ⟨k.regs, k.win, k.intake, k.log, k.lrp, k.pcie, k.frames, by assumption⟩) (fun q hq => by cases q <;> first | exact rfl | exact fun f _ => State.rd_congr rfl f | exact absurd (Sub.bit hp rfl) hq)
  · split
    · rename_i g hg
      refine State.frameGone_kept (State.rfeDrop_kept ?_ _) _
      refine h_s.of rfl (le_refl _) (List.prefix_refl _) (fun k => ?_) (fun q hq => by cases q <;> first | exact rfl | exact fun f _ => State.rd_congr rfl f | exact absurd (Sub.bit hp rfl) hq)
      refine ⟨k.regs, k.win, k.intake, k.log, k.lrp, k.pcie, k.frames, ?_⟩
      have hm := lowestOldest_mem _ _ hg
      have hl := k.queue
      have hf := List.length_filter_lt_length_iff_exists (p := fun f : QFrame => f.serial != g.serial) |>.2 ⟨g, hm, by simp⟩
      rw [List.length_append, List.length_singleton] at hf
      exact Nat.le_trans (Nat.lt_succ_iff.1 hf) hl
    · rename_i hg
      exfalso
      generalize s.mac.queue = q at hg
      cases q with
      | nil => simp [lowestOldest] at hg
      | cons a t =>
        rw [List.cons_append, lowestOldest] at hg
        split at hg
        · simp at hg
        · split at hg <;> simp at hg

theorem State.notQueued_kept {s : State} (h_s : Kept T s₀ s) (m : OutMessage) (hp : Sub 0x8120000000003 T) : Kept T s₀ (State.notQueued s m) := by
  unfold State.notQueued
  try dsimp only
  repeat' first
    | (with_reducible assumption)
    | ((with_reducible refine Sub.trans hp ?_); rfl)
    | ((with_reducible refine Sub.bit hp ?_); decide)
    | (with_reducible apply State.count_kept)
    | (with_reducible apply State.dptLost_kept)
    | split
    | (lift_lets; intro x; refine Kept.cut (s := x) ?_ (fun hx => ?_) <;> [subst x; clear_value x])
    | (intro x; refine Kept.cut (s := x) ?_ (fun hx => ?_) <;> [subst x; clear_value x])
    | (lift_lets; intro x; subst x)
    | (intro x; subst x)
    | (intro _)
    | (dsimp only)

theorem State.macOffer_kept {s : State} (h_s : Kept T s₀ s) (m : OutMessage) (seq : Nat) (hp : Sub 0x54c0008160144007003 T) : Kept T s₀ (State.macOffer s m seq) := by
  unfold State.macOffer
  try dsimp only
  repeat' first
    | (with_reducible assumption)
    | ((with_reducible refine Sub.trans hp ?_); rfl)
    | ((with_reducible refine Sub.bit hp ?_); decide)
    | (with_reducible apply State.count_kept)
    | (with_reducible apply State.notice_kept)
    | (with_reducible apply State.notQueued_kept)
    | (with_reducible apply State.enqueue_kept)
    | split
    | (intro _)
    | (dsimp only)

theorem State.nextSeq_kept {s : State} (h_s : Kept T s₀ s) (d : MeshDest) (hp : Sub 0x8001 T) : Kept T s₀ (State.nextSeq s d).2 := by
  unfold State.nextSeq
  try dsimp only
  repeat' first
    | (with_reducible assumption)
    | ((with_reducible refine Sub.trans hp ?_); rfl)
    | ((with_reducible refine Sub.bit hp ?_); decide)
    | (with_reducible apply State.setEnt_kept)
    | (fail_if_no_progress ((with_reducible refine Kept.mkOther ?_ ?_ ?_ (fun q hq => ?_)) <;> [skip; exact rfl; exact rfl; (cases q <;> first | with_reducible exact rfl | exact fun f _ => State.rd_congr rfl f | exact absurd (Sub.bit hp rfl) hq)]))
    | split
    | (lift_lets; intro x; refine Kept.cut (s := x) ?_ (fun hx => ?_) <;> [subst x; clear_value x])
    | (intro x; refine Kept.cut (s := x) ?_ (fun hx => ?_) <;> [subst x; clear_value x])
    | (lift_lets; intro x; subst x)
    | (intro x; subst x)
    | (intro _)
    | (dsimp only)

theorem State.nextSeq_pair {s : State} {d : MeshDest} {v_ : Nat} {t_ : State} (q_ : (State.nextSeq s d) = (v_, t_)) (h_s : Kept T s₀ s) (hp : Sub 0x8001 T) : Kept T s₀ t_ := by
  have z := State.nextSeq_kept h_s d (hp := hp)
  rw [q_] at z
  exact z

theorem State.sprSend_kept {s : State} (h_s : Kept T s₀ s) (m : OutMessage) (hp : Sub 0x54c000856014400f003 T) : Kept T s₀ (State.sprSend s m) := by
  unfold State.sprSend
  try dsimp only
  repeat' first
    | (with_reducible assumption)
    | ((with_reducible refine Sub.trans hp ?_); rfl)
    | ((with_reducible refine Sub.bit hp ?_); decide)
    | (with_reducible apply State.dptLost_kept)
    | (with_reducible apply State.nextSeq_kept)
    | (with_reducible apply State.nextSeq_pair (by assumption))
    | (with_reducible apply State.count_kept)
    | (with_reducible apply State.macOffer_kept)
    | split
    | (lift_lets; intro x; refine Kept.cut (s := x) ?_ (fun hx => ?_) <;> [subst x; clear_value x])
    | (intro x; refine Kept.cut (s := x) ?_ (fun hx => ?_) <;> [subst x; clear_value x])
    | (lift_lets; intro x; subst x)
    | (intro x; subst x)
    | (intro _)
    | (dsimp only)

theorem State.countSent_kept {s : State} (h_s : Kept T s₀ s) (i : Nat) (hp : Sub 0x1 T) : Kept T s₀ (State.countSent s i) := by
  unfold State.countSent
  try dsimp only
  repeat' first
    | (with_reducible assumption)
    | ((with_reducible refine Sub.trans hp ?_); rfl)
    | ((with_reducible refine Sub.bit hp ?_); decide)
    | (with_reducible apply State.setEnt_kept)
    | (intro _)
    | (dsimp only)

theorem State.broadcastSent_kept {s : State} (h_s : Kept T s₀ s)  (hp : Sub 0x1 T) : Kept T s₀ (State.broadcastSent s) := by
  unfold State.broadcastSent
  try dsimp only
  repeat' first
    | (with_reducible assumption)
    | ((with_reducible refine Sub.trans hp ?_); rfl)
    | ((with_reducible refine Sub.bit hp ?_); decide)
    | (with_reducible apply State.countSent_kept)
    | (with_reducible refine Kept.foldl _ _ ?_ (fun _ _ _ => ?_))
    | (lift_lets; intro x; refine Kept.cut (s := x) ?_ (fun hx => ?_) <;> [subst x; clear_value x])
    | (intro x; refine Kept.cut (s := x) ?_ (fun hx => ?_) <;> [subst x; clear_value x])
    | (lift_lets; intro x; subst x)
    | (intro x; subst x)
    | (intro _)
    | (dsimp only)

theorem State.delivered_kept {s : State} (h_s : Kept T s₀ s) (f : QFrame) (hp : Sub 0x100000004001 T) : Kept T s₀ (State.delivered s f) := by
  unfold State.delivered
  try dsimp only
  repeat' first
    | (with_reducible assumption)
    | ((with_reducible refine Sub.trans hp ?_); rfl)
    | ((with_reducible refine Sub.bit hp ?_); decide)
    | (with_reducible apply State.dequeue_kept)
    | (with_reducible apply State.count_kept)
    | (with_reducible apply State.broadcastSent_kept)
    | (with_reducible apply State.countSent_kept)
    | (with_reducible apply State.setEnt_kept)
    | (with_reducible apply State.setBytes_kept)
    | split
    | (lift_lets; intro x; refine Kept.cut (s := x) ?_ (fun hx => ?_) <;> [subst x; clear_value x])
    | (intro x; refine Kept.cut (s := x) ?_ (fun hx => ?_) <;> [subst x; clear_value x])
    | (lift_lets; intro x; subst x)
    | (intro x; subst x)
    | (intro _)
    | (dsimp only)

theorem State.txFailed_kept {s : State} (h_s : Kept T s₀ s) (f : QFrame) (hp : Sub 0x8320000004003 T) : Kept T s₀ (State.txFailed s f) := by
  unfold State.txFailed
  try dsimp only
  repeat' first
    | (with_reducible assumption)
    | ((with_reducible refine Sub.trans hp ?_); rfl)
    | ((with_reducible refine Sub.bit hp ?_); decide)
    | (with_reducible apply State.dequeue_kept)
    | (with_reducible apply State.count_kept)
    | (with_reducible apply State.frameGone_kept)
    | (with_reducible apply State.setEnt_kept)
    | (with_reducible apply State.setEntState_kept)
    | (with_reducible refine State.notices_nil_kept ?_)
    | (with_reducible refine State.notices_cons_kept ?_)
    | (with_reducible refine State.notices_kept ?_ _ ?_ ?_)
    | (with_reducible apply State.notice_kept)
    | split
    | (lift_lets; intro x; refine Kept.cut (s := x) ?_ (fun hx => ?_) <;> [subst x; clear_value x])
    | (intro x; refine Kept.cut (s := x) ?_ (fun hx => ?_) <;> [subst x; clear_value x])
    | (lift_lets; intro x; subst x)
    | (intro x; subst x)
    | (intro _)
    | (dsimp only)

theorem State.ackMissed_kept {s : State} (h_s : Kept T s₀ s) (f : QFrame) (hp : Sub 0x8320000004007 T) : Kept T s₀ (State.ackMissed s f) := by
  unfold State.ackMissed
  try dsimp only
  repeat' first
    | (with_reducible assumption)
    | ((with_reducible refine Sub.trans hp ?_); rfl)
    | ((with_reducible refine Sub.bit hp ?_); decide)
    | (with_reducible apply State.txFailed_kept)
    | (with_reducible apply State.draw_kept)
    | (with_reducible apply State.draw_pair (by assumption))
    | (with_reducible apply State.requeue_kept)
    | split
    | (lift_lets; intro x; refine Kept.cut (s := x) ?_ (fun hx => ?_) <;> [subst x; clear_value x])
    | (intro x; refine Kept.cut (s := x) ?_ (fun hx => ?_) <;> [subst x; clear_value x])
    | (lift_lets; intro x; subst x)
    | (intro x; subst x)
    | (intro _)
    | (dsimp only)

end Sys2Proof.Machine
end

