-- ==== Sys2Proof/Laws/KeepGrgFill.lean ====
section
/-! SUPPORT. What the operations of Machine/GrgFill.lean keep. -/

set_option Elab.async false
set_option linter.unusedTactic false
set_option linter.unreachableTactic false
set_option linter.unusedVariables false

namespace Sys2Proof.Machine

variable {T : Nat → Prop} {s₀ : State}

theorem State.sendBlock_kept {s : State} (h_s : Kept T s₀ s) (c : Campaign) (n : Nat) (hp : Sub 0x54c000856014400f003 T := by first | exact Sub.trans (by assumption) rfl | exact Sub.all (by assumption)) : Kept T s₀ (State.sendBlock s c n) := by
  unfold State.sendBlock
  try dsimp only
  repeat' first
    | (with_reducible assumption)
    | ((with_reducible refine Sub.trans hp ?_); rfl)
    | ((with_reducible refine Sub.bit hp ?_); decide)
    | (with_reducible apply State.count_kept)
    | (with_reducible apply State.sprSend_kept)
    | (lift_lets; intro x; refine Kept.cut (s := x) ?_ (fun hx => ?_) <;> [subst x; clear_value x])
    | (intro x; refine Kept.cut (s := x) ?_ (fun hx => ?_) <;> [subst x; clear_value x])
    | (lift_lets; intro x; subst x)
    | (intro x; subst x)
    | (intro _)
    | (dsimp only)

theorem State.sendBlocks_kept {s : State} (h_s : Kept T s₀ s) (c : Campaign) (n : Nat) (l : List Nat) (hp : Sub 0x54c000856014400f003 T := by first | exact Sub.trans (by assumption) rfl | exact Sub.all (by assumption)) :
    Kept T s₀ (s.sendBlocks c n l).2 := by
  induction n generalizing s l with
  | zero => exact h_s
  | succ n ih =>
    cases l with
    | nil => exact h_s
    | cons a t =>
      unfold State.sendBlocks
      split
      · exact h_s
      · exact ih (State.sendBlock_kept h_s _ _) _

theorem State.sendBlocks_pair {s t : State} {c : Campaign} {n : Nat} {l m : List Nat} (q_ : s.sendBlocks c n l = (m, t))
    (h_s : Kept T s₀ s) (hp : Sub 0x54c000856014400f003 T := by first | exact Sub.trans (by assumption) rfl | exact Sub.all (by assumption)) : Kept T s₀ t := by
  have z := State.sendBlocks_kept h_s c n l
  rw [q_] at z
  exact z

theorem State.sendQueries_kept {s : State} (h_s : Kept T s₀ s)  (hp : Sub 0x54c000856014400f003 T) : Kept T s₀ (State.sendQueries s) := by
  unfold State.sendQueries
  try dsimp only
  repeat' first
    | (with_reducible assumption)
    | ((with_reducible refine Sub.trans hp ?_); rfl)
    | ((with_reducible refine Sub.bit hp ?_); decide)
    | (with_reducible apply State.sprSend_kept)
    | (with_reducible refine Kept.foldl _ _ ?_ (fun _ _ _ => ?_))
    | (lift_lets; intro x; refine Kept.cut (s := x) ?_ (fun hx => ?_) <;> [subst x; clear_value x])
    | (intro x; refine Kept.cut (s := x) ?_ (fun hx => ?_) <;> [subst x; clear_value x])
    | (lift_lets; intro x; subst x)
    | (intro x; subst x)
    | (intro _)
    | (dsimp only)

theorem State.campaignFill_kept {s : State} (h_s : Kept T s₀ s)  (hp : Sub 0x54c000856014400f003 T) : Kept T s₀ (State.campaignFill s) := by
  unfold State.campaignFill
  try dsimp only
  repeat' first
    | (with_reducible assumption)
    | ((with_reducible refine Sub.trans hp ?_); rfl)
    | ((with_reducible refine Sub.bit hp ?_); decide)
    | (with_reducible apply State.sendBlocks_kept)
    | (with_reducible apply State.sendQueries_kept)
    | (fail_if_no_progress ((with_reducible refine Kept.mkOther ?_ ?_ ?_ (fun q hq => ?_)) <;> [skip; exact rfl; exact rfl; (cases q <;> first | with_reducible exact rfl | exact fun f _ => State.rd_congr rfl f | exact absurd (Sub.bit hp rfl) hq)]))
    | split
    | (lift_lets; intro x; refine Kept.cut (s := x) ?_ (fun hx => ?_) <;> [subst x; clear_value x])
    | (intro x; refine Kept.cut (s := x) ?_ (fun hx => ?_) <;> [subst x; clear_value x])
    | (lift_lets; intro x; subst x)
    | (intro x; subst x)
    | (intro _)
    | (dsimp only)

end Sys2Proof.Machine
end

