-- ==== Sys2Proof/Laws/KeepSpr.lean ====
section
/-! SUPPORT. What the operations of Machine/Spr.lean keep. -/

set_option Elab.async false
set_option linter.unusedTactic false
set_option linter.unreachableTactic false
set_option linter.unusedVariables false

namespace Sys2Proof.Machine

variable {T : Nat → Prop} {s₀ : State}

theorem State.slqPushOctets_kept {s : State} (h_s : Kept T s₀ s) (q : Nat) (kind : Nat) (prio : Nat) (l : List Nat) (hp : Sub 0x4440000020100003002 T) : Kept T s₀ (State.slqPushOctets s q kind prio l) := by
  unfold State.slqPushOctets
  try dsimp only
  repeat' first
    | (with_reducible assumption)
    | ((with_reducible refine Sub.trans hp ?_); rfl)
    | ((with_reducible refine Sub.bit hp ?_); decide)
    | (with_reducible apply State.slqPush_kept)
    | (intro _)
    | (dsimp only)

theorem State.schedStale_kept {s : State} (h_s : Kept T s₀ s) (i : Nat) (hp : Sub 0x54c000856014400f003 T) : Kept T s₀ (State.schedStale s i) := by
  unfold State.schedStale
  try dsimp only
  repeat' first
    | (with_reducible assumption)
    | ((with_reducible refine Sub.trans hp ?_); rfl)
    | ((with_reducible refine Sub.bit hp ?_); decide)
    | (with_reducible apply State.sprSend_kept)
    | (with_reducible refine Kept.foldl _ _ ?_ (fun _ _ _ => ?_))
    | (fail_if_no_progress ((with_reducible refine Kept.mkOther ?_ ?_ ?_ (fun q hq => ?_)) <;> [skip; exact rfl; exact rfl; (cases q <;> first | with_reducible exact rfl | exact fun f _ => State.rd_congr rfl f | exact absurd (Sub.bit hp rfl) hq)]))
    | split
    | (lift_lets; intro x; refine Kept.cut (s := x) ?_ (fun hx => ?_) <;> [subst x; clear_value x])
    | (intro x; refine Kept.cut (s := x) ?_ (fun hx => ?_) <;> [subst x; clear_value x])
    | (lift_lets; intro x; subst x)
    | (intro x; subst x)
    | (intro _)
    | (dsimp only)

theorem State.sendKeyUpdate_kept {s : State} (h_s : Kept T s₀ s) (i : Nat) (index : Nat) (hp : Sub 0x54c000856014400f003 T) : Kept T s₀ (State.sendKeyUpdate s i index) := by
  unfold State.sendKeyUpdate
  try dsimp only
  repeat' first
    | (with_reducible assumption)
    | ((with_reducible refine Sub.trans hp ?_); rfl)
    | ((with_reducible refine Sub.bit hp ?_); decide)
    | (with_reducible apply State.sprSend_kept)
    | split
    | (intro _)
    | (dsimp only)

theorem State.sendJoinOk_kept {s : State} (h_s : Kept T s₀ s) (i : Nat) (hp : Sub 0x54c000856014400f003 T) : Kept T s₀ (State.sendJoinOk s i) := by
  unfold State.sendJoinOk
  try dsimp only
  repeat' first
    | (with_reducible assumption)
    | ((with_reducible refine Sub.trans hp ?_); rfl)
    | ((with_reducible refine Sub.bit hp ?_); decide)
    | (with_reducible apply State.sprSend_kept)
    | (with_reducible apply State.sendKeyUpdate_kept)
    | split
    | (lift_lets; intro x; refine Kept.cut (s := x) ?_ (fun hx => ?_) <;> [subst x; clear_value x])
    | (intro x; refine Kept.cut (s := x) ?_ (fun hx => ?_) <;> [subst x; clear_value x])
    | (lift_lets; intro x; subst x)
    | (intro x; subst x)
    | (intro _)
    | (dsimp only)

theorem State.sendJoinRefusal_kept {s : State} (h_s : Kept T s₀ s) (ext : Nat) (status : Nat) (hp : Sub 0x54c000856014400f003 T) : Kept T s₀ (State.sendJoinRefusal s ext status) := by
  unfold State.sendJoinRefusal
  try dsimp only
  repeat' first
    | (with_reducible assumption)
    | ((with_reducible refine Sub.trans hp ?_); rfl)
    | ((with_reducible refine Sub.bit hp ?_); decide)
    | (with_reducible apply State.sprSend_kept)
    | (intro _)
    | (dsimp only)

theorem State.sprMalformed_kept {s : State} (h_s : Kept T s₀ s) (r : FspRx) (reason : Nat) (hp : Sub 0x4440000420100003002 T) : Kept T s₀ (State.sprMalformed s r reason) := by
  unfold State.sprMalformed
  try dsimp only
  repeat' first
    | (with_reducible assumption)
    | ((with_reducible refine Sub.trans hp ?_); rfl)
    | ((with_reducible refine Sub.bit hp ?_); decide)
    | (with_reducible apply State.count_kept)
    | (with_reducible refine State.wrAll_nil_kept ?_)
    | (with_reducible refine State.wrAll_cons_kept ?_)
    | (with_reducible refine State.wrAll_kept ?_ _ ?_ ?_)
    | (with_reducible apply State.wr_kept)
    | (with_reducible apply State.notice_kept)
    | (with_reducible apply State.slqPushOctets_kept)
    | split
    | (lift_lets; intro x; refine Kept.cut (s := x) ?_ (fun hx => ?_) <;> [subst x; clear_value x])
    | (intro x; refine Kept.cut (s := x) ?_ (fun hx => ?_) <;> [subst x; clear_value x])
    | (lift_lets; intro x; subst x)
    | (intro x; subst x)
    | (intro _)
    | (dsimp only)

theorem State.sprPresence_kept {s : State} (h_s : Kept T s₀ s) (i : Nat) (sfd : Nat) (body : List Nat) (hp : Sub 0xc20400020003 T) : Kept T s₀ (State.sprPresence s i sfd body) := by
  unfold State.sprPresence
  try dsimp only
  repeat' first
    | (with_reducible assumption)
    | ((with_reducible refine Sub.trans hp ?_); rfl)
    | ((with_reducible refine Sub.bit hp ?_); decide)
    | (with_reducible apply State.setEnt_kept)
    | (with_reducible apply State.count_kept)
    | (with_reducible apply State.drfDetect_kept)
    | (with_reducible refine Kept.foldl _ _ ?_ (fun _ _ _ => ?_))
    | split
    | (lift_lets; intro x; refine Kept.cut (s := x) ?_ (fun hx => ?_) <;> [subst x; clear_value x])
    | (intro x; refine Kept.cut (s := x) ?_ (fun hx => ?_) <;> [subst x; clear_value x])
    | (lift_lets; intro x; subst x)
    | (intro x; subst x)
    | (intro _)
    | (dsimp only)

theorem State.sprDaylight_kept {s : State} (h_s : Kept T s₀ s) (i : Nat) (body : List Nat) (hp : Sub 0x2020000080003 T) : Kept T s₀ (State.sprDaylight s i body) := by
  unfold State.sprDaylight
  try dsimp only
  repeat' first
    | (with_reducible assumption)
    | ((with_reducible refine Sub.trans hp ?_); rfl)
    | ((with_reducible refine Sub.bit hp ?_); decide)
    | (with_reducible apply State.setEnt_kept)
    | (with_reducible apply State.tmpDaylight_kept)
    | split
    | (lift_lets; intro x; refine Kept.cut (s := x) ?_ (fun hx => ?_) <;> [subst x; clear_value x])
    | (intro x; refine Kept.cut (s := x) ?_ (fun hx => ?_) <;> [subst x; clear_value x])
    | (lift_lets; intro x; subst x)
    | (intro x; subst x)
    | (intro _)
    | (dsimp only)

theorem State.sprEnergy_kept {s : State} (h_s : Kept T s₀ s) (i : Nat) (sfd : Nat) (body : List Nat) (hp : Sub 0x40000000800001 T) : Kept T s₀ (State.sprEnergy s i sfd body) := by
  unfold State.sprEnergy
  try dsimp only
  repeat' first
    | (with_reducible assumption)
    | ((with_reducible refine Sub.trans hp ?_); rfl)
    | ((with_reducible refine Sub.bit hp ?_); decide)
    | (with_reducible apply State.setEnt_kept)
    | (with_reducible apply State.emurEnergy_kept)
    | (intro _)
    | (dsimp only)

theorem State.sprTemperature_kept {s : State} (h_s : Kept T s₀ s) (i : Nat) (body : List Nat) (hp : Sub 0x44c0000020104003003 T) : Kept T s₀ (State.sprTemperature s i body) := by
  unfold State.sprTemperature
  try dsimp only
  repeat' first
    | (with_reducible assumption)
    | ((with_reducible refine Sub.trans hp ?_); rfl)
    | ((with_reducible refine Sub.bit hp ?_); decide)
    | (with_reducible apply State.setBytes_kept)
    | (with_reducible apply State.take_kept)
    | (with_reducible apply State.setEnt_kept)
    | (intro _)
    | (dsimp only)

theorem State.sprFault_kept {s : State} (h_s : Kept T s₀ s) (i : Nat) (body : List Nat) (hp : Sub 0x420000000003 T) : Kept T s₀ (State.sprFault s i body) := by
  unfold State.sprFault
  try dsimp only
  repeat' first
    | (with_reducible assumption)
    | ((with_reducible refine Sub.trans hp ?_); rfl)
    | ((with_reducible refine Sub.bit hp ?_); decide)
    | (with_reducible apply State.setEnt_kept)
    | (with_reducible apply State.noticeIf_kept)
    | (lift_lets; intro x; refine Kept.cut (s := x) ?_ (fun hx => ?_) <;> [subst x; clear_value x])
    | (intro x; refine Kept.cut (s := x) ?_ (fun hx => ?_) <;> [subst x; clear_value x])
    | (lift_lets; intro x; subst x)
    | (intro x; subst x)
    | (intro _)
    | (dsimp only)

theorem State.sprStatus_kept {s : State} (h_s : Kept T s₀ s) (i : Nat) (body : List Nat) (hp : Sub 0x54c000856014400f013 T) : Kept T s₀ (State.sprStatus s i body) := by
  unfold State.sprStatus
  try dsimp only
  repeat' first
    | (with_reducible assumption)
    | ((with_reducible refine Sub.trans hp ?_); rfl)
    | ((with_reducible refine Sub.bit hp ?_); decide)
    | (with_reducible apply State.setEnt_kept)
    | (with_reducible apply State.count_kept)
    | (with_reducible apply State.notice_kept)
    | (with_reducible apply State.clmSuperseded_kept)
    | (with_reducible apply State.schedStale_kept)
    | split
    | (lift_lets; intro x; refine Kept.cut (s := x) ?_ (fun hx => ?_) <;> [subst x; clear_value x])
    | (intro x; refine Kept.cut (s := x) ?_ (fun hx => ?_) <;> [subst x; clear_value x])
    | (lift_lets; intro x; subst x)
    | (intro x; subst x)
    | (intro _)
    | (dsimp only)

theorem State.sprJoinReq_kept {s : State} (h_s : Kept T s₀ s) (i : Nat) (body : List Nat) (hp : Sub 0x44c0000020104003003 T) : Kept T s₀ (State.sprJoinReq s i body) := by
  unfold State.sprJoinReq
  try dsimp only
  repeat' first
    | (with_reducible assumption)
    | ((with_reducible refine Sub.trans hp ?_); rfl)
    | ((with_reducible refine Sub.bit hp ?_); decide)
    | (with_reducible apply State.setBytes_kept)
    | (with_reducible apply State.take_kept)
    | (intro _)
    | (dsimp only)

theorem State.sprForward_kept {s : State} (h_s : Kept T s₀ s) (r : FspRx) (hp : Sub 0x4440000020100003002 T) : Kept T s₀ (State.sprForward s r) := by
  unfold State.sprForward
  try dsimp only
  repeat' first
    | (with_reducible assumption)
    | ((with_reducible refine Sub.trans hp ?_); rfl)
    | ((with_reducible refine Sub.bit hp ?_); decide)
    | (with_reducible apply State.slqPushOctets_kept)
    | split
    | (intro _)
    | (dsimp only)

theorem State.sprReceive_kept {s : State} (h_s : Kept T s₀ s) (r : FspRx) (hp : Sub 0x54c004ad605448af013 T) : Kept T s₀ (State.sprReceive s r) := by
  unfold State.sprReceive
  try dsimp only
  repeat' first
    | (with_reducible assumption)
    | ((with_reducible refine Sub.trans hp ?_); rfl)
    | ((with_reducible refine Sub.bit hp ?_); decide)
    | (with_reducible apply State.sprMalformed_kept)
    | (with_reducible apply State.count_kept)
    | (with_reducible apply State.setEnt_kept)
    | (with_reducible apply State.sprJoinReq_kept)
    | (with_reducible apply State.sprPresence_kept)
    | (with_reducible apply State.sprDaylight_kept)
    | (with_reducible apply State.sprEnergy_kept)
    | (with_reducible apply State.sprTemperature_kept)
    | (with_reducible apply State.sprFault_kept)
    | (with_reducible apply State.sprStatus_kept)
    | (with_reducible apply State.grgFirmware_kept)
    | (with_reducible apply State.grgNodeStatus_kept)
    | (with_reducible apply State.sprForward_kept)
    | split
    | (lift_lets; intro x; refine Kept.cut (s := x) ?_ (fun hx => ?_) <;> [subst x; clear_value x])
    | (intro x; refine Kept.cut (s := x) ?_ (fun hx => ?_) <;> [subst x; clear_value x])
    | (lift_lets; intro x; subst x)
    | (intro x; subst x)
    | (intro _)
    | (dsimp only)

theorem State.sprRefuse_kept {s : State} (h_s : Kept T s₀ s) (i : Nat) (t : Nat) (reason : Nat) (hp : Sub 0x420000000002 T) : Kept T s₀ (State.sprRefuse s i t reason) := by
  unfold State.sprRefuse
  try dsimp only
  repeat' first
    | (with_reducible assumption)
    | ((with_reducible refine Sub.trans hp ?_); rfl)
    | ((with_reducible refine Sub.bit hp ?_); decide)
    | (with_reducible apply State.count_kept)
    | (with_reducible refine State.wrAll_nil_kept ?_)
    | (with_reducible refine State.wrAll_cons_kept ?_)
    | (with_reducible refine State.wrAll_kept ?_ _ ?_ ?_)
    | (with_reducible apply State.wr_kept)
    | (with_reducible apply State.notice_kept)
    | (intro _)
    | (dsimp only)

theorem State.sprSubmit_kept {s : State} (h_s : Kept T s₀ s) (o : List Nat) (hp : Sub 0x54c000856014400f003 T) : Kept T s₀ (State.sprSubmit s o) := by
  unfold State.sprSubmit
  try dsimp only
  repeat' first
    | (with_reducible assumption)
    | ((with_reducible refine Sub.trans hp ?_); rfl)
    | ((with_reducible refine Sub.bit hp ?_); decide)
    | (with_reducible apply State.count_kept)
    | (with_reducible apply State.notice_kept)
    | (with_reducible apply State.sprRefuse_kept)
    | (with_reducible apply State.sprSend_kept)
    | split
    | (lift_lets; intro x; refine Kept.cut (s := x) ?_ (fun hx => ?_) <;> [subst x; clear_value x])
    | (intro x; refine Kept.cut (s := x) ?_ (fun hx => ?_) <;> [subst x; clear_value x])
    | (lift_lets; intro x; subst x)
    | (intro x; subst x)
    | (intro _)
    | (dsimp only)

theorem State.sprTake_kept {s : State} (h_s : Kept T s₀ s)  (hp : Sub 0x54c000856014400f003 T) : Kept T s₀ (State.sprTake s) := by
  unfold State.sprTake
  try dsimp only
  repeat' first
    | (with_reducible assumption)
    | ((with_reducible refine Sub.trans hp ?_); rfl)
    | ((with_reducible refine Sub.bit hp ?_); decide)
    | (with_reducible refine State.slqTake_kept ?_ (by assumption) ?_)
    | (with_reducible apply State.sprSubmit_kept)
    | split
    | (intro _)
    | (dsimp only)

end Sys2Proof.Machine
end

