-- ==== Sys2Proof/Laws/KeepMac.lean ====
section
/-! SUPPORT. What the operations of Machine/Mac.lean keep. -/

set_option Elab.async false
set_option linter.unusedTactic false
set_option linter.unreachableTactic false
set_option linter.unusedVariables false

namespace Sys2Proof.Machine

variable {T : Nat → Prop} {s₀ : State}

theorem State.fcUse_kept {s : State} (h_s : Kept T s₀ s) (key : Nat) (hp : Sub 0x120000004002 T) : Kept T s₀ (State.fcUse s key).2 := by
  unfold State.fcUse
  try dsimp only
  repeat' first
    | (with_reducible assumption)
    | ((with_reducible refine Sub.trans hp ?_); rfl)
    | ((with_reducible refine Sub.bit hp ?_); decide)
    | ((with_reducible refine Sub.bitEq hp (fcField_slot _) ?_); rfl)
    | (with_reducible apply State.wr_kept)
    | (with_reducible apply State.noticeIf_kept)
    | (fail_if_no_progress ((with_reducible refine Kept.mkOther ?_ ?_ ?_ (fun q hq => ?_)) <;> [skip; exact rfl; exact rfl; (cases q <;> first | with_reducible exact rfl | exact fun f _ => State.rd_congr rfl f | exact absurd (Sub.bit hp rfl) hq)]))
    | split
    | (lift_lets; intro x; refine Kept.cut (s := x) ?_ (fun hx => ?_) <;> [subst x; clear_value x])
    | (intro x; refine Kept.cut (s := x) ?_ (fun hx => ?_) <;> [subst x; clear_value x])
    | (lift_lets; intro x; subst x)
    | (intro x; subst x)
    | (intro _)
    | (dsimp only)

theorem State.fcUse_pair {s : State} {key : Nat} {v_ : Nat} {t_ : State} (q_ : (State.fcUse s key) = (v_, t_)) (h_s : Kept T s₀ s) (hp : Sub 0x120000004002 T) : Kept T s₀ t_ := by
  have z := State.fcUse_kept h_s key (hp := hp)
  rw [q_] at z
  exact z

theorem State.planTx_kept {s : State} (h_s : Kept T s₀ s) (t : AirTx) (hp : Sub 0x4000 T) : Kept T s₀ (State.planTx s t) := by
  unfold State.planTx
  try dsimp only
  repeat' first
    | (with_reducible assumption)
    | ((with_reducible refine Sub.trans hp ?_); rfl)
    | ((with_reducible refine Sub.bit hp ?_); decide)
    | (fail_if_no_progress ((with_reducible refine Kept.mkOther ?_ ?_ ?_ (fun q hq => ?_)) <;> [skip; exact rfl; exact rfl; (cases q <;> first | with_reducible exact rfl | exact fun f _ => State.rd_congr rfl f | exact absurd (Sub.bit hp rfl) hq)]))
    | (intro _)
    | (dsimp only)

theorem State.lateSkip_kept {s : State} (h_s : Kept T s₀ s)  (hp : Sub 0x4000000 T) : Kept T s₀ (State.lateSkip s) := by
  unfold State.lateSkip
  try dsimp only
  repeat' first
    | (with_reducible assumption)
    | ((with_reducible refine Sub.trans hp ?_); rfl)
    | ((with_reducible refine Sub.bit hp ?_); decide)
    | (fail_if_no_progress ((with_reducible refine Kept.mkOther ?_ ?_ ?_ (fun q hq => ?_)) <;> [skip; exact rfl; exact rfl; (cases q <;> first | with_reducible exact rfl | exact fun f _ => State.rd_congr rfl f | exact absurd (Sub.bit hp rfl) hq)]))
    | (intro _)
    | (dsimp only)

theorem State.dropTop_kept {s : State} (h_s : Kept T s₀ s)  (hp : Sub 0x60000000002 T) : Kept T s₀ (State.dropTop s) := by
  unfold State.dropTop
  try dsimp only
  repeat' first
    | (with_reducible assumption)
    | ((with_reducible refine Sub.trans hp ?_); rfl)
    | ((with_reducible refine Sub.bit hp ?_); decide)
    | ((with_reducible refine Sub.bitEq hp (j := 42) ?_ ?_) <;> [(first | (simp only [Field.slot, Field.page, Field.key]; omega) | rfl); rfl])
    | (with_reducible apply State.count_kept)
    | (with_reducible apply State.notice_kept)
    | (intro _)
    | (dsimp only)

theorem State.planBeacon_kept {s : State} (h_s : Kept T s₀ s) (l : MeshLink) (asn : Nat) (c : Nat) (t : Nat) (hp : Sub 0x160004004002 T) : Kept T s₀ (State.planBeacon s l asn c t) := by
  unfold State.planBeacon
  try dsimp only
  repeat' first
    | (with_reducible assumption)
    | ((with_reducible refine Sub.trans hp ?_); rfl)
    | ((with_reducible refine Sub.bit hp ?_); decide)
    | (with_reducible apply State.advert_kept)
    | (with_reducible apply State.count_kept)
    | (with_reducible apply State.notice_kept)
    | (with_reducible apply State.dropTop_kept)
    | (with_reducible apply State.fcUse_kept)
    | (with_reducible apply State.fcUse_pair (by assumption))
    | (with_reducible apply State.planTx_kept)
    | (fail_if_no_progress ((with_reducible refine Kept.mkOther ?_ ?_ ?_ (fun q hq => ?_)) <;> [skip; exact rfl; exact rfl; (cases q <;> first | with_reducible exact rfl | exact fun f _ => State.rd_congr rfl f | exact absurd (Sub.bit hp rfl) hq)]))
    | split
    | (lift_lets; intro x; refine Kept.cut (s := x) ?_ (fun hx => ?_) <;> [subst x; clear_value x])
    | (intro x; refine Kept.cut (s := x) ?_ (fun hx => ?_) <;> [subst x; clear_value x])
    | (lift_lets; intro x; subst x)
    | (intro x; subst x)
    | (intro _)
    | (dsimp only)

theorem State.holdFrame_kept {s : State} (h_s : Kept T s₀ s) (f : QFrame) (hold : Option Nat) (hp : Sub 0x60000004002 T) : Kept T s₀ (State.holdFrame s f hold) := by
  unfold State.holdFrame
  try dsimp only
  repeat' first
    | (with_reducible assumption)
    | ((with_reducible refine Sub.trans hp ?_); rfl)
    | ((with_reducible refine Sub.bit hp ?_); decide)
    | (with_reducible apply State.requeue_kept)
    | (with_reducible apply State.count_kept)
    | (with_reducible apply State.notice_kept)
    | split
    | (lift_lets; intro x; refine Kept.cut (s := x) ?_ (fun hx => ?_) <;> [subst x; clear_value x])
    | (intro x; refine Kept.cut (s := x) ?_ (fun hx => ?_) <;> [subst x; clear_value x])
    | (lift_lets; intro x; subst x)
    | (intro x; subst x)
    | (intro _)
    | (dsimp only)

theorem State.blockFrame_kept {s : State} (h_s : Kept T s₀ s) (f : QFrame) (key : Option Nat) (hp : Sub 0x60000004002 T) : Kept T s₀ (State.blockFrame s f key) := by
  unfold State.blockFrame
  try dsimp only
  repeat' first
    | (with_reducible assumption)
    | ((with_reducible refine Sub.trans hp ?_); rfl)
    | ((with_reducible refine Sub.bit hp ?_); decide)
    | (with_reducible apply State.holdFrame_kept)
    | split
    | (intro _)
    | (dsimp only)

theorem State.dropOob_kept {s : State} (h_s : Kept T s₀ s) (f : QFrame) (hp : Sub 0x8060000004003 T) : Kept T s₀ (State.dropOob s f) := by
  unfold State.dropOob
  try dsimp only
  repeat' first
    | (with_reducible assumption)
    | ((with_reducible refine Sub.trans hp ?_); rfl)
    | ((with_reducible refine Sub.bit hp ?_); decide)
    | (with_reducible apply State.dequeue_kept)
    | (with_reducible apply State.count_kept)
    | (with_reducible apply State.notice_kept)
    | (with_reducible apply State.frameGone_kept)
    | (intro _)
    | (dsimp only)

theorem State.dropClaim_kept {s : State} (h_s : Kept T s₀ s) (f : QFrame) (hp : Sub 0x8420000004003 T) : Kept T s₀ (State.dropClaim s f) := by
  unfold State.dropClaim
  try dsimp only
  repeat' first
    | (with_reducible assumption)
    | ((with_reducible refine Sub.trans hp ?_); rfl)
    | ((with_reducible refine Sub.bit hp ?_); decide)
    | (with_reducible apply State.dequeue_kept)
    | (with_reducible apply State.count_kept)
    | (with_reducible apply State.notice_kept)
    | (with_reducible apply State.frameGone_kept)
    | (intro _)
    | (dsimp only)

theorem State.dropKey_kept {s : State} (h_s : Kept T s₀ s) (f : QFrame) (hp : Sub 0x8120000004003 T) : Kept T s₀ (State.dropKey s f) := by
  unfold State.dropKey
  try dsimp only
  repeat' first
    | (with_reducible assumption)
    | ((with_reducible refine Sub.trans hp ?_); rfl)
    | ((with_reducible refine Sub.bit hp ?_); decide)
    | (with_reducible apply State.dequeue_kept)
    | (with_reducible apply State.count_kept)
    | (with_reducible apply State.frameGone_kept)
    | (intro _)
    | (dsimp only)

theorem State.planFrame_kept {s : State} (h_s : Kept T s₀ s) (l : MeshLink) (asn : Nat) (c : Nat) (t : Nat) (f : QFrame) (e : Nat) (key : Option Nat) (hp : Sub 0x120000004002 T) : Kept T s₀ (State.planFrame s l asn c t f e key) := by
  unfold State.planFrame
  try dsimp only
  repeat' first
    | (with_reducible assumption)
    | ((with_reducible refine Sub.trans hp ?_); rfl)
    | ((with_reducible refine Sub.bit hp ?_); decide)
    | (with_reducible apply State.fcUse_kept)
    | (with_reducible apply State.fcUse_pair (by assumption))
    | (with_reducible apply State.requeue_kept)
    | (with_reducible apply State.planTx_kept)
    | (fail_if_no_progress ((with_reducible refine Kept.mkOther ?_ ?_ ?_ (fun q hq => ?_)) <;> [skip; exact rfl; exact rfl; (cases q <;> first | with_reducible exact rfl | exact fun f _ => State.rd_congr rfl f | exact absurd (Sub.bit hp rfl) hq)]))
    | split
    | (lift_lets; intro x; refine Kept.cut (s := x) ?_ (fun hx => ?_) <;> [subst x; clear_value x])
    | (intro x; refine Kept.cut (s := x) ?_ (fun hx => ?_) <;> [subst x; clear_value x])
    | (lift_lets; intro x; subst x)
    | (intro x; subst x)
    | (intro _)
    | (dsimp only)

theorem State.judgeFrame_kept {s : State} (h_s : Kept T s₀ s) (l : MeshLink) (asn : Nat) (c : Nat) (t : Nat) (f : QFrame) (e : Nat) (key : Option Nat) (hp : Sub 0x54c0008560144007003 T) : Kept T s₀ (State.judgeFrame s l asn c t f e key).2 := by
  unfold State.judgeFrame
  try dsimp only
  repeat' first
    | (with_reducible assumption)
    | ((with_reducible refine Sub.trans hp ?_); rfl)
    | ((with_reducible refine Sub.bit hp ?_); decide)
    | (with_reducible apply State.dequeue_kept)
    | (with_reducible apply State.rfeDrop_kept)
    | (with_reducible apply State.frameGone_kept)
    | (with_reducible apply State.holdFrame_kept)
    | (with_reducible apply State.blockFrame_kept)
    | (with_reducible apply State.dropClaim_kept)
    | (with_reducible apply State.dropKey_kept)
    | (with_reducible apply State.planFrame_kept)
    | split
    | (lift_lets; intro x; refine Kept.cut (s := x) ?_ (fun hx => ?_) <;> [subst x; clear_value x])
    | (intro x; refine Kept.cut (s := x) ?_ (fun hx => ?_) <;> [subst x; clear_value x])
    | (lift_lets; intro x; subst x)
    | (intro x; subst x)
    | (intro _)
    | (dsimp only)

theorem State.judgeFrame_pair {s : State} {l : MeshLink} {asn : Nat} {c : Nat} {t : Nat} {f : QFrame} {e : Nat} {key : Option Nat} {v_ : Bool} {t_ : State} (q_ : (State.judgeFrame s l asn c t f e key) = (v_, t_)) (h_s : Kept T s₀ s) (hp : Sub 0x54c0008560144007003 T) : Kept T s₀ t_ := by
  have z := State.judgeFrame_kept h_s l asn c t f e key (hp := hp)
  rw [q_] at z
  exact z

theorem State.tryFrame_kept {s : State} (h_s : Kept T s₀ s) (ls : List MeshLink) (l : MeshLink) (asn : Nat) (c : Nat) (t : Nat) (f : QFrame) (hp : Sub 0x54c0008560144007003 T := by first | exact Sub.trans (by assumption) rfl | exact Sub.all (by assumption)) : Kept T s₀ (State.tryFrame s ls l asn c t f).2 := by
  unfold State.tryFrame
  try dsimp only
  repeat' first
    | (with_reducible assumption)
    | ((with_reducible refine Sub.trans hp ?_); rfl)
    | ((with_reducible refine Sub.bit hp ?_); decide)
    | (with_reducible apply State.dequeue_kept)
    | (with_reducible apply State.count_kept)
    | (with_reducible apply State.notice_kept)
    | (with_reducible apply State.frameGone_kept)
    | (with_reducible apply State.requeue_kept)
    | (with_reducible apply State.dropOob_kept)
    | (with_reducible apply State.judgeFrame_kept)
    | (with_reducible apply State.judgeFrame_pair (by assumption))
    | split
    | (lift_lets; intro x; refine Kept.cut (s := x) ?_ (fun hx => ?_) <;> [subst x; clear_value x])
    | (intro x; refine Kept.cut (s := x) ?_ (fun hx => ?_) <;> [subst x; clear_value x])
    | (lift_lets; intro x; subst x)
    | (intro x; subst x)
    | (intro _)
    | (dsimp only)

theorem State.tryFrame_pair {s : State} {ls : List MeshLink} {l : MeshLink} {asn : Nat} {c : Nat} {t : Nat} {f : QFrame} {v_ : Bool} {t_ : State} (q_ : (State.tryFrame s ls l asn c t f) = (v_, t_)) (h_s : Kept T s₀ s) (hp : Sub 0x54c0008560144007003 T := by first | exact Sub.trans (by assumption) rfl | exact Sub.all (by assumption)) : Kept T s₀ t_ := by
  have z := State.tryFrame_kept h_s ls l asn c t f (hp := hp)
  rw [q_] at z
  exact z

theorem State.tryFrames_kept {s : State} (h_s : Kept T s₀ s) (ls : List MeshLink) (l : MeshLink) (asn c at_ : Nat) (fs : List QFrame) (hp : Sub 0x54c0008560144007003 T := by first | exact Sub.trans (by assumption) rfl | exact Sub.all (by assumption)) :
    Kept T s₀ (s.tryFrames ls l asn c at_ fs) := by
  induction fs generalizing s with
  | nil => exact h_s
  | cons f t ih =>
    unfold State.tryFrames
    split
    · exact State.tryFrame_pair (by assumption) h_s
    · exact ih (State.tryFrame_pair (by assumption) h_s)

theorem State.planLink_kept {s : State} (h_s : Kept T s₀ s) (ls : List MeshLink) (asn : Nat) (t : Nat) (l : MeshLink) (hp : Sub 0x54c0008560144007003 T) : Kept T s₀ (State.planLink s ls asn t l) := by
  unfold State.planLink
  try dsimp only
  repeat' first
    | (with_reducible assumption)
    | ((with_reducible refine Sub.trans hp ?_); rfl)
    | ((with_reducible refine Sub.bit hp ?_); decide)
    | (with_reducible apply State.advert_kept)
    | (with_reducible apply State.planBeacon_kept)
    | (with_reducible apply State.tryFrames_kept)
    | split
    | (intro _)
    | (dsimp only)

theorem State.dropCommands_kept {s : State} (h_s : Kept T s₀ s)  (hp : Sub 0x8420000004003 T) : Kept T s₀ (State.dropCommands s) := by
  unfold State.dropCommands
  try dsimp only
  repeat' first
    | (with_reducible assumption)
    | ((with_reducible refine Sub.trans hp ?_); rfl)
    | ((with_reducible refine Sub.bit hp ?_); decide)
    | (with_reducible apply State.dropClaim_kept)
    | (with_reducible refine Kept.foldl _ _ ?_ (fun _ _ _ => ?_))
    | (lift_lets; intro x; refine Kept.cut (s := x) ?_ (fun hx => ?_) <;> [subst x; clear_value x])
    | (intro x; refine Kept.cut (s := x) ?_ (fun hx => ?_) <;> [subst x; clear_value x])
    | (lift_lets; intro x; subst x)
    | (intro x; subst x)
    | (intro _)
    | (dsimp only)

theorem State.dropClosed_kept {s : State} (h_s : Kept T s₀ s)  (hp : Sub 0x8120000004003 T) : Kept T s₀ (State.dropClosed s) := by
  unfold State.dropClosed
  try dsimp only
  repeat' first
    | (with_reducible assumption)
    | ((with_reducible refine Sub.trans hp ?_); rfl)
    | ((with_reducible refine Sub.bit hp ?_); decide)
    | (with_reducible apply State.dequeue_kept)
    | (with_reducible apply State.count_kept)
    | (with_reducible apply State.frameGone_kept)
    | (with_reducible refine Kept.foldl _ _ ?_ (fun _ _ _ => ?_))
    | split
    | (lift_lets; intro x; refine Kept.cut (s := x) ?_ (fun hx => ?_) <;> [subst x; clear_value x])
    | (intro x; refine Kept.cut (s := x) ?_ (fun hx => ?_) <;> [subst x; clear_value x])
    | (lift_lets; intro x; subst x)
    | (intro x; subst x)
    | (intro _)
    | (dsimp only)

theorem State.tuneSlot_kept {s : State} (h_s : Kept T s₀ s) (n : Nat) (w : Option (Nat × Nat × Nat)) (hp : Sub 0x1 T := by first | exact Sub.trans (by assumption) rfl | exact Sub.all (by assumption)) : Kept T s₀ (State.tuneSlot s n w) := by
  unfold State.tuneSlot
  try dsimp only
  repeat' first
    | (with_reducible assumption)
    | ((with_reducible refine Sub.trans hp ?_); rfl)
    | ((with_reducible refine Sub.bit hp ?_); decide)
    | (with_reducible apply State.setBytes_kept)
    | split
    | (intro _)
    | (dsimp only)

theorem State.tunePool_kept {s : State} (h_s : Kept T s₀ s) (l : List Nat) (w : List (Nat × Nat × Nat)) (hp : Sub 0x1 T := by first | exact Sub.trans (by assumption) rfl | exact Sub.all (by assumption)) :
    Kept T s₀ (s.tunePool l w) := by
  induction l generalizing s w with
  | nil => exact h_s
  | cons a t ih =>
    cases w with
    | nil => exact ih (State.tuneSlot_kept h_s _ _) _
    | cons b u => exact ih (State.tuneSlot_kept h_s _ _) _

theorem State.receiving_kept {s : State} (h_s : Kept T s₀ s) (asn : Nat) (cells : List RxCell) (hp : Sub 0x4000 T) : Kept T s₀ (State.receiving s asn cells) := by
  unfold State.receiving
  try dsimp only
  repeat' first
    | (with_reducible assumption)
    | ((with_reducible refine Sub.trans hp ?_); rfl)
    | ((with_reducible refine Sub.bit hp ?_); decide)
    | (fail_if_no_progress ((with_reducible refine Kept.mkOther ?_ ?_ ?_ (fun q hq => ?_)) <;> [skip; exact rfl; exact rfl; (cases q <;> first | with_reducible exact rfl | exact fun f _ => State.rd_congr rfl f | exact absurd (Sub.bit hp rfl) hq)]))
    | (lift_lets; intro x; refine Kept.cut (s := x) ?_ (fun hx => ?_) <;> [subst x; clear_value x])
    | (intro x; refine Kept.cut (s := x) ?_ (fun hx => ?_) <;> [subst x; clear_value x])
    | (lift_lets; intro x; subst x)
    | (intro x; subst x)
    | (intro _)
    | (dsimp only)

theorem State.planRx_kept {s : State} (h_s : Kept T s₀ s) (active : List MeshLink) (asn : Nat) (inFrame : List Nat) (hp : Sub 0x1a0000004003 T) : Kept T s₀ (State.planRx s active asn inFrame) := by
  unfold State.planRx
  try dsimp only
  repeat' first
    | (with_reducible assumption)
    | ((with_reducible refine Sub.trans hp ?_); rfl)
    | ((with_reducible refine Sub.bit hp ?_); decide)
    | (with_reducible apply State.ownSlots_kept)
    | (with_reducible apply State.tunePool_kept)
    | (with_reducible apply State.slotsCheck_kept)
    | (with_reducible apply State.receiving_kept)
    | (with_reducible apply State.count_kept)
    | (with_reducible apply State.notice_kept)
    | split
    | (lift_lets; intro x; refine Kept.cut (s := x) ?_ (fun hx => ?_) <;> [subst x; clear_value x])
    | (intro x; refine Kept.cut (s := x) ?_ (fun hx => ?_) <;> [subst x; clear_value x])
    | (lift_lets; intro x; subst x)
    | (intro x; subst x)
    | (intro _)
    | (dsimp only)

theorem State.withSlot_kept {s : State} (h_s : Kept T s₀ s) (realign : Bool) (follow : Option Int) (dev : Int) (slew : Int) (asn : Nat) (hp : Sub 0x4000 T) : Kept T s₀ (State.withSlot s realign follow dev slew asn) := by
  unfold State.withSlot
  try dsimp only
  repeat' first
    | (with_reducible assumption)
    | ((with_reducible refine Sub.trans hp ?_); rfl)
    | ((with_reducible refine Sub.bit hp ?_); decide)
    | (fail_if_no_progress ((with_reducible refine Kept.mkOther ?_ ?_ ?_ (fun q hq => ?_)) <;> [skip; exact rfl; exact rfl; (cases q <;> first | with_reducible exact rfl | exact fun f _ => State.rd_congr rfl f | exact absurd (Sub.bit hp rfl) hq)]))
    | (intro _)
    | (dsimp only)

theorem State.slotsRun_kept {s : State} (h_s : Kept T s₀ s)  (hp : Sub 0x4000 T) : Kept T s₀ (State.slotsRun s) := by
  unfold State.slotsRun
  try dsimp only
  repeat' first
    | (with_reducible assumption)
    | ((with_reducible refine Sub.trans hp ?_); rfl)
    | ((with_reducible refine Sub.bit hp ?_); decide)
    | (fail_if_no_progress ((with_reducible refine Kept.mkOther ?_ ?_ ?_ (fun q hq => ?_)) <;> [skip; exact rfl; exact rfl; (cases q <;> first | with_reducible exact rfl | exact fun f _ => State.rd_congr rfl f | exact absurd (Sub.bit hp rfl) hq)]))
    | (intro _)
    | (dsimp only)

theorem State.cellsAt_kept {s : State} (h_s : Kept T s₀ s) (asn : Nat) (hp : Sub 0x4000 T) : Kept T s₀ (State.cellsAt s asn) := by
  unfold State.cellsAt
  try dsimp only
  repeat' first
    | (with_reducible assumption)
    | ((with_reducible refine Sub.trans hp ?_); rfl)
    | ((with_reducible refine Sub.bit hp ?_); decide)
    | (fail_if_no_progress ((with_reducible refine Kept.mkOther ?_ ?_ ?_ (fun q hq => ?_)) <;> [skip; exact rfl; exact rfl; (cases q <;> first | with_reducible exact rfl | exact fun f _ => State.rd_congr rfl f | exact absurd (Sub.bit hp rfl) hq)]))
    | split
    | (lift_lets; intro x; refine Kept.cut (s := x) ?_ (fun hx => ?_) <;> [subst x; clear_value x])
    | (intro x; refine Kept.cut (s := x) ?_ (fun hx => ?_) <;> [subst x; clear_value x])
    | (lift_lets; intro x; subst x)
    | (intro x; subst x)
    | (intro _)
    | (dsimp only)

theorem State.countSlot_kept {s : State} (h_s : Kept T s₀ s)  (hp : Sub 0x100000004000 T) : Kept T s₀ (State.countSlot s) := by
  unfold State.countSlot
  try dsimp only
  repeat' first
    | (with_reducible assumption)
    | ((with_reducible refine Sub.trans hp ?_); rfl)
    | ((with_reducible refine Sub.bit hp ?_); decide)
    | (with_reducible apply State.withSlot_kept)
    | (with_reducible apply State.wr_kept)
    | (with_reducible apply State.cellsAt_kept)
    | split
    | (lift_lets; intro x; refine Kept.cut (s := x) ?_ (fun hx => ?_) <;> [subst x; clear_value x])
    | (intro x; refine Kept.cut (s := x) ?_ (fun hx => ?_) <;> [subst x; clear_value x])
    | (lift_lets; intro x; subst x)
    | (intro x; subst x)
    | (intro _)
    | (dsimp only)

theorem State.planCells_kept {s : State} (h_s : Kept T s₀ s) (ls : List MeshLink) (active : List MeshLink) (asn : Nat) (hp : Sub 0x54c0008560144007003 T) : Kept T s₀ (State.planCells s ls active asn) := by
  unfold State.planCells
  try dsimp only
  repeat' first
    | (with_reducible assumption)
    | ((with_reducible refine Sub.trans hp ?_); rfl)
    | ((with_reducible refine Sub.bit hp ?_); decide)
    | (with_reducible apply State.dropClosed_kept)
    | (with_reducible apply State.dropCommands_kept)
    | (with_reducible apply State.planLink_kept)
    | (with_reducible apply State.advert_kept)
    | (with_reducible refine Kept.foldl _ _ ?_ (fun _ _ _ => ?_))
    | split
    | (lift_lets; intro x; refine Kept.cut (s := x) ?_ (fun hx => ?_) <;> [subst x; clear_value x])
    | (intro x; refine Kept.cut (s := x) ?_ (fun hx => ?_) <;> [subst x; clear_value x])
    | (lift_lets; intro x; subst x)
    | (intro x; subst x)
    | (intro _)
    | (dsimp only)

theorem State.planSlot_kept {s : State} (h_s : Kept T s₀ s) (c : Nat) (inFrame : List Nat) (hp : Sub 0x54c00085e0144007403 T) : Kept T s₀ (State.planSlot s c inFrame) := by
  unfold State.planSlot
  try dsimp only
  repeat' first
    | (with_reducible assumption)
    | ((with_reducible refine Sub.trans hp ?_); rfl)
    | ((with_reducible refine Sub.bit hp ?_); decide)
    | (with_reducible apply State.reach_kept)
    | (with_reducible apply State.slotsRun_kept)
    | (with_reducible apply State.countSlot_kept)
    | (with_reducible apply State.noticeIf_kept)
    | (with_reducible apply State.planCells_kept)
    | (with_reducible apply State.planRx_kept)
    | split
    | (lift_lets; intro x; refine Kept.cut (s := x) ?_ (fun hx => ?_) <;> [subst x; clear_value x])
    | (intro x; refine Kept.cut (s := x) ?_ (fun hx => ?_) <;> [subst x; clear_value x])
    | (lift_lets; intro x; subst x)
    | (intro x; subst x)
    | (intro _)
    | (dsimp only)

theorem State.unplan_kept {s : State} (h_s : Kept T s₀ s) (t : AirTx) (hp : Sub 0x4000 T) : Kept T s₀ (State.unplan s t) := by
  unfold State.unplan
  try dsimp only
  repeat' first
    | (with_reducible assumption)
    | ((with_reducible refine Sub.trans hp ?_); rfl)
    | ((with_reducible refine Sub.bit hp ?_); decide)
    | (with_reducible apply State.requeue_kept)
    | split
    | (lift_lets; intro x; refine Kept.cut (s := x) ?_ (fun hx => ?_) <;> [subst x; clear_value x])
    | (intro x; refine Kept.cut (s := x) ?_ (fun hx => ?_) <;> [subst x; clear_value x])
    | (lift_lets; intro x; subst x)
    | (intro x; subst x)
    | (intro _)
    | (dsimp only)

theorem State.skipTx_kept {s : State} (h_s : Kept T s₀ s) (t : AirTx) (hp : Sub 0x60004000002 T) : Kept T s₀ (State.skipTx s t) := by
  unfold State.skipTx
  try dsimp only
  repeat' first
    | (with_reducible assumption)
    | ((with_reducible refine Sub.trans hp ?_); rfl)
    | ((with_reducible refine Sub.bit hp ?_); decide)
    | (with_reducible apply State.lateSkip_kept)
    | (with_reducible apply State.count_kept)
    | (with_reducible apply State.notice_kept)
    | split
    | (lift_lets; intro x; refine Kept.cut (s := x) ?_ (fun hx => ?_) <;> [subst x; clear_value x])
    | (intro x; refine Kept.cut (s := x) ?_ (fun hx => ?_) <;> [subst x; clear_value x])
    | (lift_lets; intro x; subst x)
    | (intro x; subst x)
    | (intro _)
    | (dsimp only)

theorem State.goAir_kept {s : State} (h_s : Kept T s₀ s) (t : AirTx) (lost : Nat) (hp : Sub 0xe0000004002 T) : Kept T s₀ (State.goAir s t lost) := by
  unfold State.goAir
  try dsimp only
  repeat' first
    | (with_reducible assumption)
    | ((with_reducible refine Sub.trans hp ?_); rfl)
    | ((with_reducible refine Sub.bit hp ?_); decide)
    | ((with_reducible refine Sub.bitEq hp (paField_slot _) ?_); rfl)
    | ((with_reducible refine Sub.bitEq hp (j := 42) ?_ ?_) <;> [(first | (simp only [Field.slot, Field.page, Field.key]; omega) | rfl); rfl])
    | (with_reducible apply State.charge_kept)
    | (with_reducible apply State.wr_kept)
    | (with_reducible refine State.wrAll_nil_kept ?_)
    | (with_reducible refine State.wrAll_cons_kept ?_)
    | (with_reducible refine State.wrAll_kept ?_ _ ?_ ?_)
    | (with_reducible apply State.wr_kept)
    | (with_reducible apply State.count_kept)
    | (with_reducible apply State.emit_kept)
    | (fail_if_no_progress ((with_reducible refine Kept.mkOther ?_ ?_ ?_ (fun q hq => ?_)) <;> [skip; exact rfl; exact rfl; (cases q <;> first | with_reducible exact rfl | exact fun f _ => State.rd_congr rfl f | exact absurd (Sub.bit hp rfl) hq)]))
    | split
    | (lift_lets; intro x; refine Kept.cut (s := x) ?_ (fun hx => ?_) <;> [subst x; clear_value x])
    | (intro x; refine Kept.cut (s := x) ?_ (fun hx => ?_) <;> [subst x; clear_value x])
    | (lift_lets; intro x; subst x)
    | (intro x; subst x)
    | (intro _)
    | (dsimp only)

theorem State.goOther_kept {s : State} (h_s : Kept T s₀ s) (t : AirTx) (e : Nat) (key : Option Nat) (lost : Nat) (hp : Sub 0x54c00080e0144007003 T) : Kept T s₀ (State.goOther s t e key lost) := by
  unfold State.goOther
  try dsimp only
  repeat' first
    | (with_reducible assumption)
    | ((with_reducible refine Sub.trans hp ?_); rfl)
    | ((with_reducible refine Sub.bit hp ?_); decide)
    | (with_reducible apply State.charge_kept)
    | (with_reducible apply State.dropTop_kept)
    | (with_reducible apply State.goAir_kept)
    | (with_reducible apply State.skipTx_kept)
    | (with_reducible apply State.dequeue_kept)
    | (with_reducible apply State.rfeDrop_kept)
    | (with_reducible apply State.frameGone_kept)
    | (with_reducible apply State.unplan_kept)
    | (with_reducible apply State.blockFrame_kept)
    | split
    | (lift_lets; intro x; refine Kept.cut (s := x) ?_ (fun hx => ?_) <;> [subst x; clear_value x])
    | (intro x; refine Kept.cut (s := x) ?_ (fun hx => ?_) <;> [subst x; clear_value x])
    | (lift_lets; intro x; subst x)
    | (intro x; subst x)
    | (intro _)
    | (dsimp only)

theorem State.txStart_kept {s : State} (h_s : Kept T s₀ s) (c : Nat) (lost : Nat) (hp : Sub 0x54c00080e0144007003 T) : Kept T s₀ (State.txStart s c lost) := by
  unfold State.txStart
  try dsimp only
  repeat' first
    | (with_reducible assumption)
    | ((with_reducible refine Sub.trans hp ?_); rfl)
    | ((with_reducible refine Sub.bit hp ?_); decide)
    | (with_reducible apply State.unplan_kept)
    | (with_reducible apply State.skipTx_kept)
    | (with_reducible apply State.holdFrame_kept)
    | (with_reducible apply State.count_kept)
    | (with_reducible apply State.notice_kept)
    | (with_reducible apply State.dropOob_kept)
    | (with_reducible apply State.goAir_kept)
    | (with_reducible apply State.goOther_kept)
    | (fail_if_no_progress ((with_reducible refine Kept.mkOther ?_ ?_ ?_ (fun q hq => ?_)) <;> [skip; exact rfl; exact rfl; (cases q <;> first | with_reducible exact rfl | exact fun f _ => State.rd_congr rfl f | exact absurd (Sub.bit hp rfl) hq)]))
    | split
    | (lift_lets; intro x; refine Kept.cut (s := x) ?_ (fun hx => ?_) <;> [subst x; clear_value x])
    | (intro x; refine Kept.cut (s := x) ?_ (fun hx => ?_) <;> [subst x; clear_value x])
    | (lift_lets; intro x; subst x)
    | (intro x; subst x)
    | (intro _)
    | (dsimp only)

theorem State.txEnd_kept {s : State} (h_s : Kept T s₀ s) (c : Nat) (at_ : Nat) (load : Bool) (hp : Sub 0x160000004403 T) : Kept T s₀ (State.txEnd s c at_ load) := by
  unfold State.txEnd
  try dsimp only
  repeat' first
    | (with_reducible assumption)
    | ((with_reducible refine Sub.trans hp ?_); rfl)
    | ((with_reducible refine Sub.bit hp ?_); decide)
    | ((with_reducible refine Sub.bitEq hp (paField_slot _) ?_); rfl)
    | ((with_reducible refine Sub.bitEq hp (j := 42) ?_ ?_) <;> [(first | (simp only [Field.slot, Field.page, Field.key]; omega) | rfl); rfl])
    | (with_reducible apply State.reach_kept)
    | (with_reducible apply State.noticeIf_kept)
    | (with_reducible apply State.wr_kept)
    | (with_reducible apply State.deafen_kept)
    | (with_reducible apply State.count_kept)
    | (with_reducible apply State.requeue_kept)
    | (with_reducible apply State.delivered_kept)
    | (fail_if_no_progress ((with_reducible refine Kept.mkOther ?_ ?_ ?_ (fun q hq => ?_)) <;> [skip; exact rfl; exact rfl; (cases q <;> first | with_reducible exact rfl | exact fun f _ => State.rd_congr rfl f | exact absurd (Sub.bit hp rfl) hq)]))
    | split
    | (lift_lets; intro x; refine Kept.cut (s := x) ?_ (fun hx => ?_) <;> [subst x; clear_value x])
    | (intro x; refine Kept.cut (s := x) ?_ (fun hx => ?_) <;> [subst x; clear_value x])
    | (lift_lets; intro x; subst x)
    | (intro x; subst x)
    | (intro _)
    | (dsimp only)

theorem State.discardHeld_kept {s : State} (h_s : Kept T s₀ s) (hp : Sub 0x54c0008060144007003 T := by first | exact Sub.trans (by assumption) rfl | exact Sub.all (by assumption)) : Kept T s₀ s.discardHeld := by
  unfold State.discardHeld
  dsimp only
  refine Kept.foldl _ _ ?_ fun _ _ h => State.frameGone_kept (State.rfeDrop_kept h _) _
  exact h_s.of rfl (le_refl _) (List.prefix_refl _) (fun k => ⟨k.regs, k.win, k.intake, k.log, k.lrp, k.pcie, k.frames, by simp⟩) (fun q hq => by cases q <;> first | exact rfl | exact fun f _ => State.rd_congr rfl f | exact absurd (Sub.bit hp rfl) hq)

theorem State.sendAck_kept {s : State} (h_s : Kept T s₀ s) (dst : Nat) (f : RxFrame) (hp : Sub 0x160000004002 T) : Kept T s₀ (State.sendAck s dst f) := by
  unfold State.sendAck
  try dsimp only
  repeat' first
    | (with_reducible assumption)
    | ((with_reducible refine Sub.trans hp ?_); rfl)
    | ((with_reducible refine Sub.bit hp ?_); decide)
    | ((with_reducible refine Sub.bitEq hp (j := 42) ?_ ?_) <;> [(first | (simp only [Field.slot, Field.page, Field.key]; omega) | rfl); rfl])
    | (with_reducible apply State.count_kept)
    | (with_reducible apply State.notice_kept)
    | (with_reducible apply State.dropTop_kept)
    | (with_reducible apply State.fcUse_kept)
    | (with_reducible apply State.fcUse_pair (by assumption))
    | (with_reducible apply State.charge_kept)
    | (fail_if_no_progress ((with_reducible refine Kept.mkOther ?_ ?_ ?_ (fun q hq => ?_)) <;> [skip; exact rfl; exact rfl; (cases q <;> first | with_reducible exact rfl | exact fun f _ => State.rd_congr rfl f | exact absurd (Sub.bit hp rfl) hq)]))
    | split
    | (lift_lets; intro x; refine Kept.cut (s := x) ?_ (fun hx => ?_) <;> [subst x; clear_value x])
    | (intro x; refine Kept.cut (s := x) ?_ (fun hx => ?_) <;> [subst x; clear_value x])
    | (lift_lets; intro x; subst x)
    | (intro x; subst x)
    | (intro _)
    | (dsimp only)

theorem State.setRxFc_kept {s : State} (h_s : Kept T s₀ s) (i : Nat) (x : Nat) (c : Nat) (hp : Sub 0x1 T) : Kept T s₀ (State.setRxFc s i x c) := by
  unfold State.setRxFc
  try dsimp only
  repeat' first
    | (with_reducible assumption)
    | ((with_reducible refine Sub.trans hp ?_); rfl)
    | ((with_reducible refine Sub.bit hp ?_); decide)
    | (with_reducible apply State.setEnt_kept)
    | (intro _)
    | (dsimp only)

theorem State.clearRxFc_kept {s : State} (h_s : Kept T s₀ s) (i : Nat) (hp : Sub 0x1 T) : Kept T s₀ (State.clearRxFc s i) := by
  unfold State.clearRxFc
  try dsimp only
  repeat' first
    | (with_reducible assumption)
    | ((with_reducible refine Sub.trans hp ?_); rfl)
    | ((with_reducible refine Sub.bit hp ?_); decide)
    | (with_reducible apply State.setBytes_kept)
    | (with_reducible apply State.setEnt_kept)
    | (intro _)
    | (dsimp only)

theorem State.followBeacon_kept {s : State} (h_s : Kept T s₀ s) (f : RxFrame) (hp : Sub 0x4000 T) : Kept T s₀ (State.followBeacon s f) := by
  unfold State.followBeacon
  try dsimp only
  repeat' first
    | (with_reducible assumption)
    | ((with_reducible refine Sub.trans hp ?_); rfl)
    | ((with_reducible refine Sub.bit hp ?_); decide)
    | (fail_if_no_progress ((with_reducible refine Kept.mkOther ?_ ?_ ?_ (fun q hq => ?_)) <;> [skip; exact rfl; exact rfl; (cases q <;> first | with_reducible exact rfl | exact fun f _ => State.rd_congr rfl f | exact absurd (Sub.bit hp rfl) hq)]))
    | split
    | (lift_lets; intro x; refine Kept.cut (s := x) ?_ (fun hx => ?_) <;> [subst x; clear_value x])
    | (intro x; refine Kept.cut (s := x) ?_ (fun hx => ?_) <;> [subst x; clear_value x])
    | (lift_lets; intro x; subst x)
    | (intro x; subst x)
    | (intro _)
    | (dsimp only)

theorem State.partnerBeacon_kept {s : State} (h_s : Kept T s₀ s) (f : RxFrame) (hp : Sub 0x44c0000120104007012 T) : Kept T s₀ (State.partnerBeacon s f) := by
  unfold State.partnerBeacon
  try dsimp only
  repeat' first
    | (with_reducible assumption)
    | ((with_reducible refine Sub.trans hp ?_); rfl)
    | ((with_reducible refine Sub.bit hp ?_); decide)
    | (with_reducible apply State.count_kept)
    | (with_reducible apply State.wr_kept)
    | (with_reducible apply State.clmMiss_kept)
    | (with_reducible apply State.clmBeacon_kept)
    | (with_reducible apply State.followBeacon_kept)
    | split
    | (lift_lets; intro x; refine Kept.cut (s := x) ?_ (fun hx => ?_) <;> [subst x; clear_value x])
    | (intro x; refine Kept.cut (s := x) ?_ (fun hx => ?_) <;> [subst x; clear_value x])
    | (lift_lets; intro x; subst x)
    | (intro x; subst x)
    | (intro _)
    | (dsimp only)

theorem State.nodeHeard_kept {s : State} (h_s : Kept T s₀ s) (i : Nat) (x : Nat) (f : RxFrame) (hp : Sub 0x100000000001 T) : Kept T s₀ (State.nodeHeard s i x f) := by
  unfold State.nodeHeard
  try dsimp only
  repeat' first
    | (with_reducible assumption)
    | ((with_reducible refine Sub.trans hp ?_); rfl)
    | ((with_reducible refine Sub.bit hp ?_); decide)
    | (with_reducible apply State.setRxFc_kept)
    | (with_reducible apply State.setEnt_kept)
    | (with_reducible apply State.count_kept)
    | (lift_lets; intro x; refine Kept.cut (s := x) ?_ (fun hx => ?_) <;> [subst x; clear_value x])
    | (intro x; refine Kept.cut (s := x) ?_ (fun hx => ?_) <;> [subst x; clear_value x])
    | (lift_lets; intro x; subst x)
    | (intro x; subst x)
    | (intro _)
    | (dsimp only)

theorem State.nodeAlive_kept {s : State} (h_s : Kept T s₀ s) (i : Nat) (short : Bool) (hp : Sub 0x1 T) : Kept T s₀ (State.nodeAlive s i short) := by
  unfold State.nodeAlive
  try dsimp only
  repeat' first
    | (with_reducible assumption)
    | ((with_reducible refine Sub.trans hp ?_); rfl)
    | ((with_reducible refine Sub.bit hp ?_); decide)
    | (with_reducible apply State.setEntState_kept)
    | split
    | (intro _)
    | (dsimp only)

theorem State.ackFrom_kept {s : State} (h_s : Kept T s₀ s) (i : Nat) (q : QFrame) (f : RxFrame) (hp : Sub 0x120000004003 T) : Kept T s₀ (State.ackFrom s i q f) := by
  unfold State.ackFrom
  try dsimp only
  repeat' first
    | (with_reducible assumption)
    | ((with_reducible refine Sub.trans hp ?_); rfl)
    | ((with_reducible refine Sub.bit hp ?_); decide)
    | (with_reducible apply State.count_kept)
    | (with_reducible apply State.nodeHeard_kept)
    | (with_reducible apply State.nodeAlive_kept)
    | (with_reducible apply State.delivered_kept)
    | (with_reducible apply State.notice_kept)
    | split
    | (lift_lets; intro x; refine Kept.cut (s := x) ?_ (fun hx => ?_) <;> [subst x; clear_value x])
    | (intro x; refine Kept.cut (s := x) ?_ (fun hx => ?_) <;> [subst x; clear_value x])
    | (lift_lets; intro x; subst x)
    | (intro x; subst x)
    | (intro _)
    | (dsimp only)

theorem State.macAckRx_kept {s : State} (h_s : Kept T s₀ s) (f : RxFrame) (hp : Sub 0x120000004003 T) : Kept T s₀ (State.macAckRx s f) := by
  unfold State.macAckRx
  try dsimp only
  repeat' first
    | (with_reducible assumption)
    | ((with_reducible refine Sub.trans hp ?_); rfl)
    | ((with_reducible refine Sub.bit hp ?_); decide)
    | (with_reducible apply State.count_kept)
    | (with_reducible apply State.ackFrom_kept)
    | split
    | (lift_lets; intro x; refine Kept.cut (s := x) ?_ (fun hx => ?_) <;> [subst x; clear_value x])
    | (intro x; refine Kept.cut (s := x) ?_ (fun hx => ?_) <;> [subst x; clear_value x])
    | (lift_lets; intro x; subst x)
    | (intro x; subst x)
    | (intro _)
    | (dsimp only)

theorem State.macFromNode_kept {s : State} (h_s : Kept T s₀ s) (i : Nat) (f : RxFrame) (hp : Sub 0x54c004ad605448af013 T) : Kept T s₀ (State.macFromNode s i f) := by
  unfold State.macFromNode
  try dsimp only
  repeat' first
    | (with_reducible assumption)
    | ((with_reducible refine Sub.trans hp ?_); rfl)
    | ((with_reducible refine Sub.bit hp ?_); decide)
    | (with_reducible apply State.count_kept)
    | (with_reducible apply State.nodeHeard_kept)
    | (with_reducible apply State.nodeAlive_kept)
    | (with_reducible apply State.sendAck_kept)
    | (with_reducible apply State.sprReceive_kept)
    | (with_reducible apply State.notice_kept)
    | split
    | (lift_lets; intro x; refine Kept.cut (s := x) ?_ (fun hx => ?_) <;> [subst x; clear_value x])
    | (intro x; refine Kept.cut (s := x) ?_ (fun hx => ?_) <;> [subst x; clear_value x])
    | (lift_lets; intro x; subst x)
    | (intro x; subst x)
    | (intro _)
    | (dsimp only)

theorem State.joinRefused_kept {s : State} (h_s : Kept T s₀ s)  (hp : Sub 0x100000000000 T) : Kept T s₀ (State.joinRefused s) := by
  unfold State.joinRefused
  try dsimp only
  repeat' first
    | (with_reducible assumption)
    | ((with_reducible refine Sub.trans hp ?_); rfl)
    | ((with_reducible refine Sub.bit hp ?_); decide)
    | (with_reducible apply State.count_kept)
    | (intro _)
    | (dsimp only)

theorem State.joinEntry_kept {s : State} (h_s : Kept T s₀ s) (i : Nat) (f : RxFrame) (hp : Sub 0x54c004ad605448af013 T) : Kept T s₀ (State.joinEntry s i f) := by
  unfold State.joinEntry
  try dsimp only
  repeat' first
    | (with_reducible assumption)
    | ((with_reducible refine Sub.trans hp ?_); rfl)
    | ((with_reducible refine Sub.bit hp ?_); decide)
    | (with_reducible apply State.clearRxFc_kept)
    | (with_reducible apply State.nodeHeard_kept)
    | (with_reducible apply State.setEntState_kept)
    | (with_reducible apply State.count_kept)
    | (with_reducible apply State.sprReceive_kept)
    | (with_reducible apply State.sendJoinOk_kept)
    | split
    | (lift_lets; intro x; refine Kept.cut (s := x) ?_ (fun hx => ?_) <;> [subst x; clear_value x])
    | (intro x; refine Kept.cut (s := x) ?_ (fun hx => ?_) <;> [subst x; clear_value x])
    | (lift_lets; intro x; subst x)
    | (intro x; subst x)
    | (intro _)
    | (dsimp only)

theorem State.macJoinReq_kept {s : State} (h_s : Kept T s₀ s) (ext : Nat) (found : Option Nat) (f : RxFrame) (hp : Sub 0x54c004af605448af013 T) : Kept T s₀ (State.macJoinReq s ext found f) := by
  unfold State.macJoinReq
  try dsimp only
  repeat' first
    | (with_reducible assumption)
    | ((with_reducible refine Sub.trans hp ?_); rfl)
    | ((with_reducible refine Sub.bit hp ?_); decide)
    | (with_reducible apply State.joinRefused_kept)
    | (with_reducible apply State.joinEntry_kept)
    | (with_reducible apply State.sendJoinRefusal_kept)
    | (with_reducible apply State.setEnt_kept)
    | (with_reducible apply State.ntbEnter_kept)
    | (with_reducible apply State.count_kept)
    | (with_reducible refine State.notices_nil_kept ?_)
    | (with_reducible refine State.notices_cons_kept ?_)
    | (with_reducible refine State.notices_kept ?_ _ ?_ ?_)
    | (with_reducible apply State.notice_kept)
    | (with_reducible apply State.silt_kept)
    | split
    | (lift_lets; intro x; refine Kept.cut (s := x) ?_ (fun hx => ?_) <;> [subst x; clear_value x])
    | (intro x; refine Kept.cut (s := x) ?_ (fun hx => ?_) <;> [subst x; clear_value x])
    | (lift_lets; intro x; subst x)
    | (intro x; subst x)
    | (intro _)
    | (dsimp only)

theorem State.macFromExt_kept {s : State} (h_s : Kept T s₀ s) (found : Option Nat) (f : RxFrame) (hp : Sub 0x4440000520100003003 T) : Kept T s₀ (State.macFromExt s found f) := by
  unfold State.macFromExt
  try dsimp only
  repeat' first
    | (with_reducible assumption)
    | ((with_reducible refine Sub.trans hp ?_); rfl)
    | ((with_reducible refine Sub.bit hp ?_); decide)
    | (with_reducible apply State.nodeHeard_kept)
    | (with_reducible apply State.nodeAlive_kept)
    | (with_reducible apply State.count_kept)
    | (with_reducible apply State.sprMalformed_kept)
    | split
    | (lift_lets; intro x; refine Kept.cut (s := x) ?_ (fun hx => ?_) <;> [subst x; clear_value x])
    | (intro x; refine Kept.cut (s := x) ?_ (fun hx => ?_) <;> [subst x; clear_value x])
    | (lift_lets; intro x; subst x)
    | (intro x; subst x)
    | (intro _)
    | (dsimp only)

theorem State.macJoin_kept {s : State} (h_s : Kept T s₀ s) (ext : Nat) (f : RxFrame) (hp : Sub 0x54c004af605448af013 T) : Kept T s₀ (State.macJoin s ext f) := by
  unfold State.macJoin
  try dsimp only
  repeat' first
    | (with_reducible assumption)
    | ((with_reducible refine Sub.trans hp ?_); rfl)
    | ((with_reducible refine Sub.bit hp ?_); decide)
    | (with_reducible apply State.count_kept)
    | (with_reducible apply State.macJoinReq_kept)
    | (with_reducible apply State.macFromExt_kept)
    | (with_reducible apply State.notice_kept)
    | split
    | (lift_lets; intro x; refine Kept.cut (s := x) ?_ (fun hx => ?_) <;> [subst x; clear_value x])
    | (intro x; refine Kept.cut (s := x) ?_ (fun hx => ?_) <;> [subst x; clear_value x])
    | (lift_lets; intro x; subst x)
    | (intro x; subst x)
    | (intro _)
    | (dsimp only)

theorem State.macTakes_kept {s : State} (h_s : Kept T s₀ s) (f : RxFrame) (hp : Sub 0x54c004af605448af013 T := by first | exact Sub.trans (by assumption) rfl | exact Sub.all (by assumption)) : Kept T s₀ (State.macTakes s f) := by
  unfold State.macTakes
  try dsimp only
  repeat' first
    | (with_reducible assumption)
    | ((with_reducible refine Sub.trans hp ?_); rfl)
    | ((with_reducible refine Sub.bit hp ?_); decide)
    | (with_reducible apply State.count_kept)
    | (with_reducible apply State.partnerBeacon_kept)
    | (with_reducible apply State.macAckRx_kept)
    | (with_reducible apply State.macJoin_kept)
    | (with_reducible apply State.macFromNode_kept)
    | split
    | (lift_lets; intro x; refine Kept.cut (s := x) ?_ (fun hx => ?_) <;> [subst x; clear_value x])
    | (intro x; refine Kept.cut (s := x) ?_ (fun hx => ?_) <;> [subst x; clear_value x])
    | (lift_lets; intro x; subst x)
    | (intro x; subst x)
    | (intro _)
    | (dsimp only)

theorem State.macReceive_kept {s : State} (h_s : Kept T s₀ s) (lost : Bool) (hp : Sub 0x54c004af605448af017 T) : Kept T s₀ (State.macReceive s lost) := by
  unfold State.macReceive
  split
  · exact h_s
  · rename_i f t q
    have h1 : Kept T s₀ { s with mac := { s.mac with frameBuf := t } } := by
      refine h_s.of rfl (le_refl _) (List.prefix_refl _) (fun k => ?_) (fun q hq => by cases q <;> first | exact rfl | exact fun f _ => State.rd_congr rfl f | exact absurd (Sub.bit hp rfl) hq)
      have := k.frames
      rw [q, List.length_cons] at this
      exact ⟨k.regs, k.win, k.intake, k.log, k.lrp, k.pcie, by simp only; omega, k.queue⟩
    dsimp only
    split
    · exact State.itgReadError_kept h1 _ _
    · exact State.macTakes_kept h1 _

theorem State.partnerMiss_kept {s : State} (h_s : Kept T s₀ s)  (hp : Sub 0x44c0000120104003012 T) : Kept T s₀ (State.partnerMiss s) := by
  unfold State.partnerMiss
  try dsimp only
  repeat' first
    | (with_reducible assumption)
    | ((with_reducible refine Sub.trans hp ?_); rfl)
    | ((with_reducible refine Sub.bit hp ?_); decide)
    | (with_reducible apply State.wr_kept)
    | (with_reducible apply State.noticeIf_kept)
    | (with_reducible apply State.clmMiss_kept)
    | split
    | (lift_lets; intro x; refine Kept.cut (s := x) ?_ (fun hx => ?_) <;> [subst x; clear_value x])
    | (intro x; refine Kept.cut (s := x) ?_ (fun hx => ?_) <;> [subst x; clear_value x])
    | (lift_lets; intro x; subst x)
    | (intro x; subst x)
    | (intro _)
    | (dsimp only)

theorem State.macStart_kept {s : State} (h_s : Kept T s₀ s) (unknown : Bool) (hp : Sub 0x120000000002 T) : Kept T s₀ (State.macStart s unknown) := by
  unfold State.macStart
  try dsimp only
  repeat' first
    | (with_reducible assumption)
    | ((with_reducible refine Sub.trans hp ?_); rfl)
    | ((with_reducible refine Sub.bit hp ?_); decide)
    | (with_reducible apply State.noticeIf_kept)
    | (with_reducible apply State.wr_kept)
    | split
    | (lift_lets; intro x; refine Kept.cut (s := x) ?_ (fun hx => ?_) <;> [subst x; clear_value x])
    | (intro x; refine Kept.cut (s := x) ?_ (fun hx => ?_) <;> [subst x; clear_value x])
    | (lift_lets; intro x; subst x)
    | (intro x; subst x)
    | (intro _)
    | (dsimp only)

end Sys2Proof.Machine
end

