-- ==== Sys2Proof/Laws/KeepGrog.lean ====
section
/-! SUPPORT. What the operations of Machine/Grog.lean keep. -/

set_option Elab.async false
set_option linter.unusedTactic false
set_option linter.unreachableTactic false
set_option linter.unusedVariables false

namespace Sys2Proof.Machine

variable {T : Nat → Prop} {s₀ : State}

theorem State.grgRefuse_kept {s : State} (h_s : Kept T s₀ s) (cause : Nat) (hp : Sub 0x1000000020000000002 T) : Kept T s₀ (State.grgRefuse s cause) := by
  unfold State.grgRefuse
  try dsimp only
  repeat' first
    | (with_reducible assumption)
    | ((with_reducible refine Sub.trans hp ?_); rfl)
    | ((with_reducible refine Sub.bit hp ?_); decide)
    | (with_reducible apply State.wr_kept)
    | (with_reducible apply State.notice_kept)
    | (intro _)
    | (dsimp only)

theorem State.grgHeader_kept {s : State} (h_s : Kept T s₀ s) (b : List Nat) (hp : Sub 0x1000000020040000012 T) : Kept T s₀ (State.grgHeader s b) := by
  unfold State.grgHeader
  try dsimp only
  repeat' first
    | (with_reducible assumption)
    | ((with_reducible refine Sub.trans hp ?_); rfl)
    | ((with_reducible refine Sub.bit hp ?_); decide)
    | (with_reducible apply State.grgRefuse_kept)
    | (fail_if_no_progress ((with_reducible refine Kept.mkOther ?_ ?_ ?_ (fun q hq => ?_)) <;> [skip; exact rfl; exact rfl; (cases q <;> first | with_reducible exact rfl | exact fun f _ => State.rd_congr rfl f | exact absurd (Sub.bit hp rfl) hq)]))
    | split
    | (lift_lets; intro x; refine Kept.cut (s := x) ?_ (fun hx => ?_) <;> [subst x; clear_value x])
    | (intro x; refine Kept.cut (s := x) ?_ (fun hx => ?_) <;> [subst x; clear_value x])
    | (lift_lets; intro x; subst x)
    | (intro x; subst x)
    | (intro _)
    | (dsimp only)

theorem State.grgErase_kept {s : State} (h_s : Kept T s₀ s) (place : Nat) (hp : Sub 0x40000000 T) : Kept T s₀ (State.grgErase s place) := by
  unfold State.grgErase
  try dsimp only
  repeat' first
    | (with_reducible assumption)
    | ((with_reducible refine Sub.trans hp ?_); rfl)
    | ((with_reducible refine Sub.bit hp ?_); decide)
    | (fail_if_no_progress ((with_reducible refine Kept.mkOther ?_ ?_ ?_ (fun q hq => ?_)) <;> [skip; exact rfl; exact rfl; (cases q <;> first | with_reducible exact rfl | exact fun f _ => State.rd_congr rfl f | exact absurd (Sub.bit hp rfl) hq)]))
    | (lift_lets; intro x; refine Kept.cut (s := x) ?_ (fun hx => ?_) <;> [subst x; clear_value x])
    | (intro x; refine Kept.cut (s := x) ?_ (fun hx => ?_) <;> [subst x; clear_value x])
    | (lift_lets; intro x; subst x)
    | (intro x; subst x)
    | (intro _)
    | (dsimp only)

theorem State.stageBegin_kept {s : State} (h_s : Kept T s₀ s)  (hp : Sub 0x5440000020140003002 T) : Kept T s₀ (State.stageBegin s) := by
  unfold State.stageBegin
  try dsimp only
  repeat' first
    | (with_reducible assumption)
    | ((with_reducible refine Sub.trans hp ?_); rfl)
    | ((with_reducible refine Sub.bit hp ?_); decide)
    | (with_reducible apply State.grgErase_kept)
    | (with_reducible refine State.wrAll_nil_kept ?_)
    | (with_reducible refine State.wrAll_cons_kept ?_)
    | (with_reducible refine State.wrAll_kept ?_ _ ?_ ?_)
    | (with_reducible apply State.wr_kept)
    | (with_reducible apply State.grgEvent_kept)
    | (fail_if_no_progress ((with_reducible refine Kept.mkOther ?_ ?_ ?_ (fun q hq => ?_)) <;> [skip; exact rfl; exact rfl; (cases q <;> first | with_reducible exact rfl | exact fun f _ => State.rd_congr rfl f | exact absurd (Sub.bit hp rfl) hq)]))
    | split
    | (lift_lets; intro x; refine Kept.cut (s := x) ?_ (fun hx => ?_) <;> [subst x; clear_value x])
    | (intro x; refine Kept.cut (s := x) ?_ (fun hx => ?_) <;> [subst x; clear_value x])
    | (lift_lets; intro x; subst x)
    | (intro x; subst x)
    | (intro _)
    | (dsimp only)

theorem State.stageResume_kept {s : State} (h_s : Kept T s₀ s) (h : GrgHeader) (hp : Sub 0x5440000020140003002 T) : Kept T s₀ (State.stageResume s h) := by
  unfold State.stageResume
  try dsimp only
  repeat' first
    | (with_reducible assumption)
    | ((with_reducible refine Sub.trans hp ?_); rfl)
    | ((with_reducible refine Sub.bit hp ?_); decide)
    | (with_reducible refine State.wrAll_nil_kept ?_)
    | (with_reducible refine State.wrAll_cons_kept ?_)
    | (with_reducible refine State.wrAll_kept ?_ _ ?_ ?_)
    | (with_reducible apply State.wr_kept)
    | (with_reducible apply State.grgEvent_kept)
    | (with_reducible refine Kept.foldl _ _ ?_ (fun _ _ _ => ?_))
    | (fail_if_no_progress ((with_reducible refine Kept.mkOther ?_ ?_ ?_ (fun q hq => ?_)) <;> [skip; exact rfl; exact rfl; (cases q <;> first | with_reducible exact rfl | exact fun f _ => State.rd_congr rfl f | exact absurd (Sub.bit hp rfl) hq)]))
    | (lift_lets; intro x; refine Kept.cut (s := x) ?_ (fun hx => ?_) <;> [subst x; clear_value x])
    | (intro x; refine Kept.cut (s := x) ?_ (fun hx => ?_) <;> [subst x; clear_value x])
    | (lift_lets; intro x; subst x)
    | (intro x; subst x)
    | (intro _)
    | (dsimp only)

theorem State.stageFail_kept {s : State} (h_s : Kept T s₀ s) (cause : Nat) (hp : Sub 0x544000003014000300a T) : Kept T s₀ (State.stageFail s cause) := by
  unfold State.stageFail
  try dsimp only
  repeat' first
    | (with_reducible assumption)
    | ((with_reducible refine Sub.trans hp ?_); rfl)
    | ((with_reducible refine Sub.bit hp ?_); decide)
    | (with_reducible refine State.wrAll_nil_kept ?_)
    | (with_reducible refine State.wrAll_cons_kept ?_)
    | (with_reducible refine State.wrAll_kept ?_ _ ?_ ?_)
    | (with_reducible apply State.wr_kept)
    | (with_reducible apply State.setGrog_kept)
    | (with_reducible apply State.notice_kept)
    | (with_reducible apply State.grgEvent_kept)
    | (fail_if_no_progress ((with_reducible refine Kept.mkOther ?_ ?_ ?_ (fun q hq => ?_)) <;> [skip; exact rfl; exact rfl; (cases q <;> first | with_reducible exact rfl | exact fun f _ => State.rd_congr rfl f | exact absurd (Sub.bit hp rfl) hq)]))
    | split
    | (lift_lets; intro x; refine Kept.cut (s := x) ?_ (fun hx => ?_) <;> [subst x; clear_value x])
    | (intro x; refine Kept.cut (s := x) ?_ (fun hx => ?_) <;> [subst x; clear_value x])
    | (lift_lets; intro x; subst x)
    | (intro x; subst x)
    | (intro _)
    | (dsimp only)

theorem State.grgBlock_kept {s : State} (h_s : Kept T s₀ s) (b : List Nat) (hp : Sub 0x5440000020140003002 T) : Kept T s₀ (State.grgBlock s b) := by
  unfold State.grgBlock
  try dsimp only
  repeat' first
    | (with_reducible assumption)
    | ((with_reducible refine Sub.trans hp ?_); rfl)
    | ((with_reducible refine Sub.bit hp ?_); decide)
    | (with_reducible apply State.count_kept)
    | (with_reducible apply State.grgEvent_kept)
    | (with_reducible apply State.wr_kept)
    | (fail_if_no_progress ((with_reducible refine Kept.mkOther ?_ ?_ ?_ (fun q hq => ?_)) <;> [skip; exact rfl; exact rfl; (cases q <;> first | with_reducible exact rfl | exact fun f _ => State.rd_congr rfl f | exact absurd (Sub.bit hp rfl) hq)]))
    | split
    | (lift_lets; intro x; refine Kept.cut (s := x) ?_ (fun hx => ?_) <;> [subst x; clear_value x])
    | (intro x; refine Kept.cut (s := x) ?_ (fun hx => ?_) <;> [subst x; clear_value x])
    | (lift_lets; intro x; subst x)
    | (intro x; subst x)
    | (intro _)
    | (dsimp only)

theorem State.grgVerify_kept {s : State} (h_s : Kept T s₀ s)  (hp : Sub 0x544000003014000300a T) : Kept T s₀ (State.grgVerify s) := by
  unfold State.grgVerify
  try dsimp only
  repeat' first
    | (with_reducible assumption)
    | ((with_reducible refine Sub.trans hp ?_); rfl)
    | ((with_reducible refine Sub.bit hp ?_); decide)
    | (with_reducible apply State.stageFail_kept)
    | (with_reducible refine State.wrAll_nil_kept ?_)
    | (with_reducible refine State.wrAll_cons_kept ?_)
    | (with_reducible refine State.wrAll_kept ?_ _ ?_ ?_)
    | (with_reducible apply State.wr_kept)
    | (with_reducible apply State.setGrog_kept)
    | (with_reducible apply State.notice_kept)
    | (with_reducible apply State.grgEvent_kept)
    | (fail_if_no_progress ((with_reducible refine Kept.mkOther ?_ ?_ ?_ (fun q hq => ?_)) <;> [skip; exact rfl; exact rfl; (cases q <;> first | with_reducible exact rfl | exact fun f _ => State.rd_congr rfl f | exact absurd (Sub.bit hp rfl) hq)]))
    | split
    | (lift_lets; intro x; refine Kept.cut (s := x) ?_ (fun hx => ?_) <;> [subst x; clear_value x])
    | (intro x; refine Kept.cut (s := x) ?_ (fun hx => ?_) <;> [subst x; clear_value x])
    | (lift_lets; intro x; subst x)
    | (intro x; subst x)
    | (intro _)
    | (dsimp only)

theorem State.grgActivate_kept {s : State} (h_s : Kept T s₀ s) (p : Nat) (hp : Sub 0x1000000000000000010 T) : Kept T s₀ (State.grgActivate s p) := by
  unfold State.grgActivate
  try dsimp only
  repeat' first
    | (with_reducible assumption)
    | ((with_reducible refine Sub.trans hp ?_); rfl)
    | ((with_reducible refine Sub.bit hp ?_); decide)
    | (with_reducible apply State.wr_kept)
    | (fail_if_no_progress ((with_reducible refine Kept.mkOther ?_ ?_ ?_ (fun q hq => ?_)) <;> [skip; exact rfl; exact rfl; (cases q <;> first | with_reducible exact rfl | exact fun f _ => State.rd_congr rfl f | exact absurd (Sub.bit hp rfl) hq)]))
    | split
    | (lift_lets; intro x; refine Kept.cut (s := x) ?_ (fun hx => ?_) <;> [subst x; clear_value x])
    | (intro x; refine Kept.cut (s := x) ?_ (fun hx => ?_) <;> [subst x; clear_value x])
    | (lift_lets; intro x; subst x)
    | (intro x; subst x)
    | (intro _)
    | (dsimp only)

theorem State.grgConfirm_kept {s : State} (h_s : Kept T s₀ s) (p : Nat) (hp : Sub 0x544000003014000300a T) : Kept T s₀ (State.grgConfirm s p) := by
  unfold State.grgConfirm
  try dsimp only
  repeat' first
    | (with_reducible assumption)
    | ((with_reducible refine Sub.trans hp ?_); rfl)
    | ((with_reducible refine Sub.bit hp ?_); decide)
    | ((with_reducible refine Sub.bitEq hp (j := 72) ?_ ?_) <;> [(first | (simp only [Field.slot, Field.page, Field.key]; omega) | rfl); rfl])
    | (with_reducible apply State.wr_kept)
    | (with_reducible apply State.setGrog_kept)
    | (with_reducible apply State.notice_kept)
    | (with_reducible apply State.grgEvent_kept)
    | (fail_if_no_progress ((with_reducible refine Kept.mkOther ?_ ?_ ?_ (fun q hq => ?_)) <;> [skip; exact rfl; exact rfl; (cases q <;> first | with_reducible exact rfl | exact fun f _ => State.rd_congr rfl f | exact absurd (Sub.bit hp rfl) hq)]))
    | (lift_lets; intro x; refine Kept.cut (s := x) ?_ (fun hx => ?_) <;> [subst x; clear_value x])
    | (intro x; refine Kept.cut (s := x) ?_ (fun hx => ?_) <;> [subst x; clear_value x])
    | (lift_lets; intro x; subst x)
    | (intro x; subst x)
    | (intro _)
    | (dsimp only)

theorem State.grgConfirmCmd_kept {s : State} (h_s : Kept T s₀ s) (p : Nat) (hp : Sub 0x544000003014000300a T) : Kept T s₀ (State.grgConfirmCmd s p) := by
  unfold State.grgConfirmCmd
  try dsimp only
  repeat' first
    | (with_reducible assumption)
    | ((with_reducible refine Sub.trans hp ?_); rfl)
    | ((with_reducible refine Sub.bit hp ?_); decide)
    | ((with_reducible refine Sub.bitEq hp (j := 72) ?_ ?_) <;> [(first | (simp only [Field.slot, Field.page, Field.key]; omega) | rfl); rfl])
    | (with_reducible apply State.wr_kept)
    | (with_reducible apply State.grgConfirm_kept)
    | split
    | (intro _)
    | (dsimp only)

theorem State.withCampaign_kept {s : State} (h_s : Kept T s₀ s) (c : Campaign) (targets : List Nat) (hp : Sub 0x40000000 T) : Kept T s₀ (State.withCampaign s c targets) := by
  unfold State.withCampaign
  try dsimp only
  repeat' first
    | (with_reducible assumption)
    | ((with_reducible refine Sub.trans hp ?_); rfl)
    | ((with_reducible refine Sub.bit hp ?_); decide)
    | (fail_if_no_progress ((with_reducible refine Kept.mkOther ?_ ?_ ?_ (fun q hq => ?_)) <;> [skip; exact rfl; exact rfl; (cases q <;> first | with_reducible exact rfl | exact fun f _ => State.rd_congr rfl f | exact absurd (Sub.bit hp rfl) hq)]))
    | (lift_lets; intro x; refine Kept.cut (s := x) ?_ (fun hx => ?_) <;> [subst x; clear_value x])
    | (intro x; refine Kept.cut (s := x) ?_ (fun hx => ?_) <;> [subst x; clear_value x])
    | (lift_lets; intro x; subst x)
    | (intro x; subst x)
    | (intro _)
    | (dsimp only)

theorem State.campaignStart_kept {s : State} (h_s : Kept T s₀ s)  (hp : Sub 0x1000000000040000004 T) : Kept T s₀ (State.campaignStart s) := by
  unfold State.campaignStart
  try dsimp only
  repeat' first
    | (with_reducible assumption)
    | ((with_reducible refine Sub.trans hp ?_); rfl)
    | ((with_reducible refine Sub.bit hp ?_); decide)
    | (with_reducible apply State.draw_kept)
    | (with_reducible apply State.draw_pair (by assumption))
    | (with_reducible apply State.wr_kept)
    | (with_reducible apply State.withCampaign_kept)
    | split
    | (lift_lets; intro x; refine Kept.cut (s := x) ?_ (fun hx => ?_) <;> [subst x; clear_value x])
    | (intro x; refine Kept.cut (s := x) ?_ (fun hx => ?_) <;> [subst x; clear_value x])
    | (lift_lets; intro x; subst x)
    | (intro x; subst x)
    | (intro _)
    | (dsimp only)

theorem State.campaignOffer_kept {s : State} (h_s : Kept T s₀ s)  (hp : Sub 0x54c000856014400f003 T) : Kept T s₀ (State.campaignOffer s) := by
  unfold State.campaignOffer
  try dsimp only
  repeat' first
    | (with_reducible assumption)
    | ((with_reducible refine Sub.trans hp ?_); rfl)
    | ((with_reducible refine Sub.bit hp ?_); decide)
    | (with_reducible apply State.sprSend_kept)
    | (with_reducible apply State.campaignFill_kept)
    | (fail_if_no_progress ((with_reducible refine Kept.mkOther ?_ ?_ ?_ (fun q hq => ?_)) <;> [skip; exact rfl; exact rfl; (cases q <;> first | with_reducible exact rfl | exact fun f _ => State.rd_congr rfl f | exact absurd (Sub.bit hp rfl) hq)]))
    | split
    | (lift_lets; intro x; refine Kept.cut (s := x) ?_ (fun hx => ?_) <;> [subst x; clear_value x])
    | (intro x; refine Kept.cut (s := x) ?_ (fun hx => ?_) <;> [subst x; clear_value x])
    | (lift_lets; intro x; subst x)
    | (intro x; subst x)
    | (intro _)
    | (dsimp only)

theorem State.campaignWait_kept {s : State} (h_s : Kept T s₀ s)  (hp : Sub 0x54c000856014400f003 T) : Kept T s₀ (State.campaignWait s) := by
  unfold State.campaignWait
  try dsimp only
  repeat' first
    | (with_reducible assumption)
    | ((with_reducible refine Sub.trans hp ?_); rfl)
    | ((with_reducible refine Sub.bit hp ?_); decide)
    | (with_reducible apply State.campaignEnd_kept)
    | (with_reducible apply State.grgEvent_kept)
    | (with_reducible apply State.wr_kept)
    | (with_reducible apply State.campaignFill_kept)
    | (fail_if_no_progress ((with_reducible refine Kept.mkOther ?_ ?_ ?_ (fun q hq => ?_)) <;> [skip; exact rfl; exact rfl; (cases q <;> first | with_reducible exact rfl | exact fun f _ => State.rd_congr rfl f | exact absurd (Sub.bit hp rfl) hq)]))
    | split
    | (lift_lets; intro x; refine Kept.cut (s := x) ?_ (fun hx => ?_) <;> [subst x; clear_value x])
    | (intro x; refine Kept.cut (s := x) ?_ (fun hx => ?_) <;> [subst x; clear_value x])
    | (lift_lets; intro x; subst x)
    | (intro x; subst x)
    | (intro _)
    | (dsimp only)

theorem State.nodeActivate_kept {s : State} (h_s : Kept T s₀ s)  (hp : Sub 0x54c000856014400f003 T) : Kept T s₀ (State.nodeActivate s) := by
  unfold State.nodeActivate
  try dsimp only
  repeat' first
    | (with_reducible assumption)
    | ((with_reducible refine Sub.trans hp ?_); rfl)
    | ((with_reducible refine Sub.bit hp ?_); decide)
    | (with_reducible apply State.wr_kept)
    | (with_reducible apply State.sprSend_kept)
    | split
    | (lift_lets; intro x; refine Kept.cut (s := x) ?_ (fun hx => ?_) <;> [subst x; clear_value x])
    | (intro x; refine Kept.cut (s := x) ?_ (fun hx => ?_) <;> [subst x; clear_value x])
    | (lift_lets; intro x; subst x)
    | (intro x; subst x)
    | (intro _)
    | (dsimp only)

theorem State.campaignStop_kept {s : State} (h_s : Kept T s₀ s)  (hp : Sub 0x5440000020140003002 T) : Kept T s₀ (State.campaignStop s) := by
  unfold State.campaignStop
  try dsimp only
  repeat' first
    | (with_reducible assumption)
    | ((with_reducible refine Sub.trans hp ?_); rfl)
    | ((with_reducible refine Sub.bit hp ?_); decide)
    | (with_reducible apply State.campaignEnd_kept)
    | (with_reducible apply State.wr_kept)
    | (intro _)
    | (dsimp only)

theorem State.grgTake_kept {s : State} (h_s : Kept T s₀ s) (mine : Nat → Bool) (k : State → Packet → State)
    (h_k : ∀ s r, Kept T s₀ s → Kept T s₀ (k s r)) (hp : Sub 0x3000 T := by first | exact Sub.trans (by assumption) rfl | exact Sub.all (by assumption)) : Kept T s₀ (s.grgTake mine k) := by
  unfold State.grgTake
  split
  · exact h_s
  · split
    · exact h_s
    · split
      · exact h_k _ _ (State.slqTake_kept h_s (by assumption))
      · exact h_s

theorem State.bootContainer_kept {s : State} (h_s : Kept T s₀ s) (b : List Nat) (data : List Nat) (failed : Nat) (hp : Sub 0x54c0000020144003002 T) : Kept T s₀ (State.bootContainer s b data failed) := by
  unfold State.bootContainer
  try dsimp only
  repeat' first
    | (with_reducible assumption)
    | ((with_reducible refine Sub.trans hp ?_); rfl)
    | ((with_reducible refine Sub.bit hp ?_); decide)
    | ((with_reducible refine Sub.bitEq hp (j := 72) ?_ ?_) <;> [(first | (simp only [Field.slot, Field.page, Field.key]; omega) | rfl); rfl])
    | (with_reducible apply State.grgRefuse_kept)
    | (with_reducible apply State.grgErase_kept)
    | (with_reducible refine State.wrAll_nil_kept ?_)
    | (with_reducible refine State.wrAll_cons_kept ?_)
    | (with_reducible refine State.wrAll_kept ?_ _ ?_ ?_)
    | (with_reducible apply State.wr_kept)
    | (with_reducible apply State.notice_kept)
    | (with_reducible apply State.silt_kept)
    | (with_reducible apply State.take_kept)
    | (with_reducible refine Kept.foldl _ _ ?_ (fun _ _ _ => ?_))
    | (fail_if_no_progress ((with_reducible refine Kept.mkOther ?_ ?_ ?_ (fun q hq => ?_)) <;> [skip; exact rfl; exact rfl; (cases q <;> first | with_reducible exact rfl | exact fun f _ => State.rd_congr rfl f | exact absurd (Sub.bit hp rfl) hq)]))
    | split
    | (lift_lets; intro x; refine Kept.cut (s := x) ?_ (fun hx => ?_) <;> [subst x; clear_value x])
    | (intro x; refine Kept.cut (s := x) ?_ (fun hx => ?_) <;> [subst x; clear_value x])
    | (lift_lets; intro x; subst x)
    | (intro x; subst x)
    | (intro _)
    | (dsimp only)

end Sys2Proof.Machine
end

