-- ==== Sys2Proof/Laws/KeepShape.lean ====
section
/-! SUPPORT. What the operations of Machine/Shape.lean keep. -/

set_option Elab.async false
set_option linter.unusedTactic false
set_option linter.unreachableTactic false
set_option linter.unusedVariables false

namespace Sys2Proof.Machine

variable {T : Nat → Prop} {s₀ : State}

theorem State.setFault_kept {s : State} (h_s : Kept T s₀ s) (i : Nat) (f : Option Nat) (hp : Sub 0x100000 T) : Kept T s₀ (State.setFault s i f) := by
  unfold State.setFault
  try dsimp only
  repeat' first
    | (with_reducible assumption)
    | ((with_reducible refine Sub.trans hp ?_); rfl)
    | ((with_reducible refine Sub.bit hp ?_); decide)
    | (fail_if_no_progress ((with_reducible refine Kept.mkOther ?_ ?_ ?_ (fun q hq => ?_)) <;> [skip; exact rfl; exact rfl; (cases q <;> first | with_reducible exact rfl | exact fun f _ => State.rd_congr rfl f | exact absurd (Sub.bit hp rfl) hq)]))
    | split
    | (intro _)
    | (dsimp only)

theorem State.shapeCheck_kept {s : State} (h_s : Kept T s₀ s) (i : Nat) (hp : Sub 0x4020000100003 T) : Kept T s₀ (State.shapeCheck s i) := by
  unfold State.shapeCheck
  try dsimp only
  repeat' first
    | (with_reducible assumption)
    | ((with_reducible refine Sub.trans hp ?_); rfl)
    | ((with_reducible refine Sub.bit hp ?_); decide)
    | (with_reducible apply State.setEnt_kept)
    | (with_reducible apply State.setFault_kept)
    | (with_reducible apply State.wr_kept)
    | (with_reducible apply State.notice_kept)
    | split
    | (lift_lets; intro x; refine Kept.cut (s := x) ?_ (fun hx => ?_) <;> [subst x; clear_value x])
    | (intro x; refine Kept.cut (s := x) ?_ (fun hx => ?_) <;> [subst x; clear_value x])
    | (lift_lets; intro x; subst x)
    | (intro x; subst x)
    | (intro _)
    | (dsimp only)

theorem State.shapeAll_kept {s : State} (h_s : Kept T s₀ s)  (hp : Sub 0x4020000100003 T) : Kept T s₀ (State.shapeAll s).2 := by
  unfold State.shapeAll
  try dsimp only
  repeat' first
    | (with_reducible assumption)
    | ((with_reducible refine Sub.trans hp ?_); rfl)
    | ((with_reducible refine Sub.bit hp ?_); decide)
    | (with_reducible apply State.shapeCheck_kept)
    | (with_reducible apply State.clearBytes_kept)
    | (with_reducible apply State.setBytes_kept)
    | (with_reducible apply State.noticeIf_kept)
    | (with_reducible apply State.wr_kept)
    | (with_reducible refine Kept.foldl _ _ ?_ (fun _ _ _ => ?_))
    | (lift_lets; intro x; refine Kept.cut (s := x) ?_ (fun hx => ?_) <;> [subst x; clear_value x])
    | (intro x; refine Kept.cut (s := x) ?_ (fun hx => ?_) <;> [subst x; clear_value x])
    | (lift_lets; intro x; subst x)
    | (intro x; subst x)
    | (intro _)
    | (dsimp only)

theorem State.shapeAll_pair {s : State} {v_ : List Shaped} {t_ : State} (q_ : (State.shapeAll s) = (v_, t_)) (h_s : Kept T s₀ s) (hp : Sub 0x4020000100003 T) : Kept T s₀ t_ := by
  have z := State.shapeAll_kept h_s  (hp := hp)
  rw [q_] at z
  exact z

theorem State.recordSent_kept {s : State} (h_s : Kept T s₀ s) (p : Packable) (hp : Sub 0x1 T) : Kept T s₀ (State.recordSent s p) := by
  unfold State.recordSent
  try dsimp only
  repeat' first
    | (with_reducible assumption)
    | ((with_reducible refine Sub.trans hp ?_); rfl)
    | ((with_reducible refine Sub.bit hp ?_); decide)
    | (with_reducible apply State.setBytes_kept)
    | (with_reducible apply State.setEnt_kept)
    | (with_reducible apply State.setDvalid_kept)
    | (intro _)
    | (dsimp only)

theorem State.sendLevel_kept {s : State} (h_s : Kept T s₀ s) (l : List Packable) (hp : Sub 0x54c000856014400f003 T) : Kept T s₀ (State.sendLevel s l) := by
  unfold State.sendLevel
  try dsimp only
  repeat' first
    | (with_reducible assumption)
    | ((with_reducible refine Sub.trans hp ?_); rfl)
    | ((with_reducible refine Sub.bit hp ?_); decide)
    | (with_reducible apply State.recordSent_kept)
    | (with_reducible apply State.count_kept)
    | (with_reducible apply State.sprSend_kept)
    | (with_reducible refine Kept.foldl _ _ ?_ (fun _ _ _ => ?_))
    | (lift_lets; intro x; refine Kept.cut (s := x) ?_ (fun hx => ?_) <;> [subst x; clear_value x])
    | (intro x; refine Kept.cut (s := x) ?_ (fun hx => ?_) <;> [subst x; clear_value x])
    | (lift_lets; intro x; subst x)
    | (intro x; subst x)
    | (intro _)
    | (dsimp only)

theorem State.dptGrow_kept {s : State} (h_s : Kept T s₀ s) (n : Nat) (hp : Sub 0x100000 T) : Kept T s₀ (State.dptGrow s n) := by
  unfold State.dptGrow
  try dsimp only
  repeat' first
    | (with_reducible assumption)
    | ((with_reducible refine Sub.trans hp ?_); rfl)
    | ((with_reducible refine Sub.bit hp ?_); decide)
    | (fail_if_no_progress ((with_reducible refine Kept.mkOther ?_ ?_ ?_ (fun q hq => ?_)) <;> [skip; exact rfl; exact rfl; (cases q <;> first | with_reducible exact rfl | exact fun f _ => State.rd_congr rfl f | exact absurd (Sub.bit hp rfl) hq)]))
    | split
    | (lift_lets; intro x; refine Kept.cut (s := x) ?_ (fun hx => ?_) <;> [subst x; clear_value x])
    | (intro x; refine Kept.cut (s := x) ?_ (fun hx => ?_) <;> [subst x; clear_value x])
    | (lift_lets; intro x; subst x)
    | (intro x; subst x)
    | (intro _)
    | (dsimp only)

theorem State.refreshPass_kept {s : State} (h_s : Kept T s₀ s) (radio : List Shaped) (changes : List Shaped) (maxCount : Nat) (maxPsdu : Nat) (hp : Sub 0x54c000856014410f003 T) : Kept T s₀ (State.refreshPass s radio changes maxCount maxPsdu) := by
  unfold State.refreshPass
  try dsimp only
  repeat' first
    | (with_reducible assumption)
    | ((with_reducible refine Sub.trans hp ?_); rfl)
    | ((with_reducible refine Sub.bit hp ?_); decide)
    | (with_reducible apply State.take_kept)
    | (with_reducible apply State.noticeIf_kept)
    | (with_reducible apply State.wr_kept)
    | (with_reducible apply State.sendLevel_kept)
    | (with_reducible apply State.count_kept)
    | (with_reducible refine Kept.foldl _ _ ?_ (fun _ _ _ => ?_))
    | (fail_if_no_progress ((with_reducible refine Kept.mkOther ?_ ?_ ?_ (fun q hq => ?_)) <;> [skip; exact rfl; exact rfl; (cases q <;> first | with_reducible exact rfl | exact fun f _ => State.rd_congr rfl f | exact absurd (Sub.bit hp rfl) hq)]))
    | split
    | (lift_lets; intro x; refine Kept.cut (s := x) ?_ (fun hx => ?_) <;> [subst x; clear_value x])
    | (intro x; refine Kept.cut (s := x) ?_ (fun hx => ?_) <;> [subst x; clear_value x])
    | (lift_lets; intro x; subst x)
    | (intro x; subst x)
    | (intro _)
    | (dsimp only)

theorem State.dispatchRadio_kept {s : State} (h_s : Kept T s₀ s) (radio : List Shaped) (hp : Sub 0x54c000856014410f003 T) : Kept T s₀ (State.dispatchRadio s radio) := by
  unfold State.dispatchRadio
  try dsimp only
  repeat' first
    | (with_reducible assumption)
    | ((with_reducible refine Sub.trans hp ?_); rfl)
    | ((with_reducible refine Sub.bit hp ?_); decide)
    | (with_reducible apply State.count_kept)
    | (with_reducible apply State.notice_kept)
    | (with_reducible apply State.sendLevel_kept)
    | (with_reducible apply State.refreshPass_kept)
    | (with_reducible refine Kept.foldl _ _ ?_ (fun _ _ _ => ?_))
    | split
    | (lift_lets; intro x; refine Kept.cut (s := x) ?_ (fun hx => ?_) <;> [subst x; clear_value x])
    | (intro x; refine Kept.cut (s := x) ?_ (fun hx => ?_) <;> [subst x; clear_value x])
    | (lift_lets; intro x; subst x)
    | (intro x; subst x)
    | (intro _)
    | (dsimp only)

end Sys2Proof.Machine
end

