-- ==== Sys2Proof/Laws/KeepDal.lean ====
section
/-! SUPPORT. What the operations of Machine/Dal.lean keep. -/

set_option Elab.async false
set_option linter.unusedTactic false
set_option linter.unreachableTactic false
set_option linter.unusedVariables false

namespace Sys2Proof.Machine

variable {T : Nat → Prop} {s₀ : State}

theorem State.setDalQueue_kept {s : State} (h_s : Kept T s₀ s) (k : Nat) (q : List DalCmd) (hp : Sub 0x200000 T) : Kept T s₀ (State.setDalQueue s k q) := by
  unfold State.setDalQueue
  try dsimp only
  repeat' first
    | (with_reducible assumption)
    | ((with_reducible refine Sub.trans hp ?_); rfl)
    | ((with_reducible refine Sub.bit hp ?_); decide)
    | (fail_if_no_progress ((with_reducible refine Kept.mkOther ?_ ?_ ?_ (fun q hq => ?_)) <;> [skip; exact rfl; exact rfl; (cases q <;> first | with_reducible exact rfl | exact fun f _ => State.rd_congr rfl f | exact absurd (Sub.bit hp rfl) hq)]))
    | (intro _)
    | (dsimp only)

theorem State.invalidate_kept {s : State} (h_s : Kept T s₀ s) (l : List Nat) (hp : Sub 0x1 T) : Kept T s₀ (State.invalidate s l) := by
  unfold State.invalidate
  try dsimp only
  repeat' first
    | (with_reducible assumption)
    | ((with_reducible refine Sub.trans hp ?_); rfl)
    | ((with_reducible refine Sub.bit hp ?_); decide)
    | (with_reducible apply State.setDvalid_kept)
    | (with_reducible refine Kept.foldl _ _ ?_ (fun _ _ _ => ?_))
    | (lift_lets; intro x; refine Kept.cut (s := x) ?_ (fun hx => ?_) <;> [subst x; clear_value x])
    | (intro x; refine Kept.cut (s := x) ?_ (fun hx => ?_) <;> [subst x; clear_value x])
    | (lift_lets; intro x; subst x)
    | (intro x; subst x)
    | (intro _)
    | (dsimp only)

theorem State.dalAppend_kept {s : State} (h_s : Kept T s₀ s) (k : Nat) (c : DalCmd) (hp : Sub 0x10020000200003 T) : Kept T s₀ (State.dalAppend s k c).2 := by
  unfold State.dalAppend
  try dsimp only
  repeat' first
    | (with_reducible assumption)
    | ((with_reducible refine Sub.trans hp ?_); rfl)
    | ((with_reducible refine Sub.bit hp ?_); decide)
    | (with_reducible apply State.setDalQueue_kept)
    | (with_reducible apply State.invalidate_kept)
    | (with_reducible apply State.count_kept)
    | (with_reducible apply State.notice_kept)
    | split
    | (lift_lets; intro x; refine Kept.cut (s := x) ?_ (fun hx => ?_) <;> [subst x; clear_value x])
    | (intro x; refine Kept.cut (s := x) ?_ (fun hx => ?_) <;> [subst x; clear_value x])
    | (lift_lets; intro x; subst x)
    | (intro x; subst x)
    | (intro _)
    | (dsimp only)

theorem State.dalAppend_pair {s : State} {k : Nat} {c : DalCmd} {v_ : Bool} {t_ : State} (q_ : (State.dalAppend s k c) = (v_, t_)) (h_s : Kept T s₀ s) (hp : Sub 0x10020000200003 T) : Kept T s₀ t_ := by
  have z := State.dalAppend_kept h_s k c (hp := hp)
  rw [q_] at z
  exact z

theorem State.dalPlace_kept {s : State} (h_s : Kept T s₀ s) (k : Nat) (c : DalCmd) (hp : Sub 0x10020000200003 T) : Kept T s₀ (State.dalPlace s k c).2 := by
  unfold State.dalPlace
  try dsimp only
  repeat' first
    | (with_reducible assumption)
    | ((with_reducible refine Sub.trans hp ?_); rfl)
    | ((with_reducible refine Sub.bit hp ?_); decide)
    | (with_reducible apply State.setDalQueue_kept)
    | (with_reducible apply State.count_kept)
    | (with_reducible apply State.dalAppend_kept)
    | (with_reducible apply State.dalAppend_pair (by assumption))
    | split
    | (intro _)
    | (dsimp only)

theorem State.dalPlace_pair {s : State} {k : Nat} {c : DalCmd} {v_ : Bool} {t_ : State} (q_ : (State.dalPlace s k c) = (v_, t_)) (h_s : Kept T s₀ s) (hp : Sub 0x10020000200003 T) : Kept T s₀ t_ := by
  have z := State.dalPlace_kept h_s k c (hp := hp)
  rw [q_] at z
  exact z

theorem State.dalQueueLevel_kept {s : State} (h_s : Kept T s₀ s) (k : Nat) (c : DalCmd) (gear : List Shaped) (hp : Sub 0x18020000200003 T := by first | exact Sub.trans (by assumption) rfl | exact Sub.all (by assumption)) : Kept T s₀ (State.dalQueueLevel s k c gear) := by
  unfold State.dalQueueLevel
  try dsimp only
  repeat' first
    | (with_reducible assumption)
    | ((with_reducible refine Sub.trans hp ?_); rfl)
    | ((with_reducible refine Sub.bit hp ?_); decide)
    | (with_reducible apply State.dalPlace_kept)
    | (with_reducible apply State.dalPlace_pair (by assumption))
    | (with_reducible apply State.setEnt_kept)
    | (with_reducible apply State.setDvalid_kept)
    | (with_reducible apply State.count_kept)
    | (with_reducible refine Kept.foldl _ _ ?_ (fun _ _ _ => ?_))
    | split
    | (lift_lets; intro x; refine Kept.cut (s := x) ?_ (fun hx => ?_) <;> [subst x; clear_value x])
    | (intro x; refine Kept.cut (s := x) ?_ (fun hx => ?_) <;> [subst x; clear_value x])
    | (lift_lets; intro x; subst x)
    | (intro x; subst x)
    | (intro _)
    | (dsimp only)

theorem State.dalGroup_kept {c : List Shaped × State} (h : Kept T s₀ c.2) (k g : Nat) (hp : Sub 0x18020000200003 T := by first | exact Sub.trans (by assumption) rfl | exact Sub.all (by assumption)) :
    Kept T s₀ (State.dalGroup k c g).2 := by
  obtain ⟨left, s⟩ := c
  unfold State.dalGroup
  dsimp only
  split
  · dsimp only
    exact State.dalQueueLevel_kept (s := s) h _ _ _
  · exact h

theorem State.dalPort_kept {s : State} (h_s : Kept T s₀ s) (nodes : List Shaped) (k : Nat) (hp : Sub 0x18020000200003 T := by first | exact Sub.trans (by assumption) rfl | exact Sub.all (by assumption)) : Kept T s₀ (State.dalPort nodes s k) := by
  have key : ∀ (l : List Nat) (c : List Shaped × State), Kept T s₀ c.2 →
      Kept T s₀ (l.foldl (State.dalGroup k) c).2 := by
    intro l
    induction l with
    | nil => exact fun _ h => h
    | cons a t ih => exact fun c h => ih _ (State.dalGroup_kept h _ _)
  unfold State.dalPort
  dsimp only
  split
  · exact h_s
  · split
    · exact State.dalQueueLevel_kept h_s _ _ _
    · exact Kept.foldl _ _ (key _ _ h_s) fun _ _ h => State.dalQueueLevel_kept h _ _ _

theorem State.shapingPass_kept {s : State} (h_s : Kept T s₀ s) (dur : Nat) (late : Bool) (hp : Sub 0x54c001c56014430f003 T) : Kept T s₀ (State.shapingPass s dur late) := by
  unfold State.shapingPass
  try dsimp only
  repeat' first
    | (with_reducible assumption)
    | ((with_reducible refine Sub.trans hp ?_); rfl)
    | ((with_reducible refine Sub.bit hp ?_); decide)
    | (with_reducible apply State.dptFollow_kept)
    | (with_reducible apply State.shapeAll_kept)
    | (with_reducible apply State.shapeAll_pair (by assumption))
    | (with_reducible apply State.dptGrow_kept)
    | (with_reducible apply State.dalPort_kept)
    | (with_reducible apply State.dispatchRadio_kept)
    | (with_reducible apply State.count_kept)
    | (with_reducible apply State.wr_kept)
    | (with_reducible apply State.notice_kept)
    | (with_reducible refine Kept.foldl _ _ ?_ (fun _ _ _ => ?_))
    | split
    | (lift_lets; intro x; refine Kept.cut (s := x) ?_ (fun hx => ?_) <;> [subst x; clear_value x])
    | (intro x; refine Kept.cut (s := x) ?_ (fun hx => ?_) <;> [subst x; clear_value x])
    | (lift_lets; intro x; subst x)
    | (intro x; subst x)
    | (intro _)
    | (dsimp only)

theorem State.rawDone_kept {s : State} (h_s : Kept T s₀ s) (status : Nat) (answer : Nat) (hp : Sub 0x10020000200002 T) : Kept T s₀ (State.rawDone s status answer) := by
  unfold State.rawDone
  try dsimp only
  repeat' first
    | (with_reducible assumption)
    | ((with_reducible refine Sub.trans hp ?_); rfl)
    | ((with_reducible refine Sub.bit hp ?_); decide)
    | (with_reducible apply State.wr_kept)
    | (with_reducible apply State.notice_kept)
    | (fail_if_no_progress ((with_reducible refine Kept.mkOther ?_ ?_ ?_ (fun q hq => ?_)) <;> [skip; exact rfl; exact rfl; (cases q <;> first | with_reducible exact rfl | exact fun f _ => State.rd_congr rfl f | exact absurd (Sub.bit hp rfl) hq)]))
    | (intro _)
    | (dsimp only)

theorem State.dalCollide_kept {s : State} (h_s : Kept T s₀ s) (k : Nat) (c : DalCmd) (rest : List DalCmd) (hp : Sub 0x10020000200003 T) : Kept T s₀ (State.dalCollide s k c rest) := by
  unfold State.dalCollide
  try dsimp only
  repeat' first
    | (with_reducible assumption)
    | ((with_reducible refine Sub.trans hp ?_); rfl)
    | ((with_reducible refine Sub.bit hp ?_); decide)
    | (with_reducible apply State.count_kept)
    | (with_reducible apply State.setDalQueue_kept)
    | (with_reducible apply State.invalidate_kept)
    | (with_reducible apply State.notice_kept)
    | (with_reducible apply State.rawDone_kept)
    | split
    | (lift_lets; intro x; refine Kept.cut (s := x) ?_ (fun hx => ?_) <;> [subst x; clear_value x])
    | (intro x; refine Kept.cut (s := x) ?_ (fun hx => ?_) <;> [subst x; clear_value x])
    | (lift_lets; intro x; subst x)
    | (intro x; subst x)
    | (intro _)
    | (dsimp only)

theorem State.dalSend_kept {s : State} (h_s : Kept T s₀ s) (k : Nat) (collision : Bool) (hp : Sub 0x10020000200003 T) : Kept T s₀ (State.dalSend s k collision) := by
  unfold State.dalSend
  try dsimp only
  repeat' first
    | (with_reducible assumption)
    | ((with_reducible refine Sub.trans hp ?_); rfl)
    | ((with_reducible refine Sub.bit hp ?_); decide)
    | (with_reducible apply State.dalCollide_kept)
    | (with_reducible apply State.setDalQueue_kept)
    | (with_reducible apply State.count_kept)
    | (with_reducible apply State.emit_kept)
    | split
    | (intro _)
    | (dsimp only)

theorem State.dalRefresh_kept {s : State} (h_s : Kept T s₀ s) (k : Nat) (hp : Sub 0x18020000200003 T) : Kept T s₀ (State.dalRefresh s k) := by
  unfold State.dalRefresh
  try dsimp only
  repeat' first
    | (with_reducible assumption)
    | ((with_reducible refine Sub.trans hp ?_); rfl)
    | ((with_reducible refine Sub.bit hp ?_); decide)
    | (with_reducible apply State.dalQueueLevel_kept)
    | (fail_if_no_progress ((with_reducible refine Kept.mkOther ?_ ?_ ?_ (fun q hq => ?_)) <;> [skip; exact rfl; exact rfl; (cases q <;> first | with_reducible exact rfl | exact fun f _ => State.rd_congr rfl f | exact absurd (Sub.bit hp rfl) hq)]))
    | split
    | (lift_lets; intro x; refine Kept.cut (s := x) ?_ (fun hx => ?_) <;> [subst x; clear_value x])
    | (intro x; refine Kept.cut (s := x) ?_ (fun hx => ?_) <;> [subst x; clear_value x])
    | (lift_lets; intro x; subst x)
    | (intro x; subst x)
    | (intro _)
    | (dsimp only)

theorem State.rawRequest_kept {s : State} (h_s : Kept T s₀ s) (k : Nat) (bits24 : Bool) (twice : Bool) (answer : Bool) (prio : Nat) (hp : Sub 0x10020000200003 T) : Kept T s₀ (State.rawRequest s k bits24 twice answer prio) := by
  unfold State.rawRequest
  try dsimp only
  repeat' first
    | (with_reducible assumption)
    | ((with_reducible refine Sub.trans hp ?_); rfl)
    | ((with_reducible refine Sub.bit hp ?_); decide)
    | (with_reducible apply State.wr_kept)
    | (with_reducible apply State.notice_kept)
    | (with_reducible apply State.dalAppend_kept)
    | (with_reducible apply State.dalAppend_pair (by assumption))
    | (fail_if_no_progress ((with_reducible refine Kept.mkOther ?_ ?_ ?_ (fun q hq => ?_)) <;> [skip; exact rfl; exact rfl; (cases q <;> first | with_reducible exact rfl | exact fun f _ => State.rd_congr rfl f | exact absurd (Sub.bit hp rfl) hq)]))
    | split
    | (lift_lets; intro x; refine Kept.cut (s := x) ?_ (fun hx => ?_) <;> [subst x; clear_value x])
    | (intro x; refine Kept.cut (s := x) ?_ (fun hx => ?_) <;> [subst x; clear_value x])
    | (lift_lets; intro x; subst x)
    | (intro x; subst x)
    | (intro _)
    | (dsimp only)

theorem State.rawComplete_kept {s : State} (h_s : Kept T s₀ s) (answer : Option Nat) (bad : Bool) (hp : Sub 0x10020000200002 T) : Kept T s₀ (State.rawComplete s answer bad) := by
  unfold State.rawComplete
  try dsimp only
  repeat' first
    | (with_reducible assumption)
    | ((with_reducible refine Sub.trans hp ?_); rfl)
    | ((with_reducible refine Sub.bit hp ?_); decide)
    | (with_reducible apply State.rawDone_kept)
    | split
    | (intro _)
    | (dsimp only)

theorem State.busDown_kept {s : State} (h_s : Kept T s₀ s) (k : Nat) (hp : Sub 0x400010020100200002 T) : Kept T s₀ (State.busDown s k) := by
  unfold State.busDown
  try dsimp only
  repeat' first
    | (with_reducible assumption)
    | ((with_reducible refine Sub.trans hp ?_); rfl)
    | ((with_reducible refine Sub.bit hp ?_); decide)
    | (with_reducible apply State.wr_kept)
    | (with_reducible apply State.notice_kept)
    | (with_reducible apply State.silt_kept)
    | (with_reducible apply State.setDalQueue_kept)
    | (with_reducible apply State.rawDone_kept)
    | split
    | (lift_lets; intro x; refine Kept.cut (s := x) ?_ (fun hx => ?_) <;> [subst x; clear_value x])
    | (intro x; refine Kept.cut (s := x) ?_ (fun hx => ?_) <;> [subst x; clear_value x])
    | (lift_lets; intro x; subst x)
    | (intro x; subst x)
    | (intro _)
    | (dsimp only)

theorem State.busUp_kept {s : State} (h_s : Kept T s₀ s) (k : Nat) (hp : Sub 0x10020000000003 T) : Kept T s₀ (State.busUp s k) := by
  unfold State.busUp
  try dsimp only
  repeat' first
    | (with_reducible assumption)
    | ((with_reducible refine Sub.trans hp ?_); rfl)
    | ((with_reducible refine Sub.bit hp ?_); decide)
    | (with_reducible apply State.wr_kept)
    | (with_reducible apply State.notice_kept)
    | (with_reducible apply State.invalidate_kept)
    | split
    | (lift_lets; intro x; refine Kept.cut (s := x) ?_ (fun hx => ?_) <;> [subst x; clear_value x])
    | (intro x; refine Kept.cut (s := x) ?_ (fun hx => ?_) <;> [subst x; clear_value x])
    | (lift_lets; intro x; subst x)
    | (intro x; subst x)
    | (intro _)
    | (dsimp only)

theorem State.dalEvent_kept {s : State} (h_s : Kept T s₀ s) (k : Nat) (frame : Nat) (instant : Nat) (hp : Sub 0x4440010820500023006 T) : Kept T s₀ (State.dalEvent s k frame instant) := by
  unfold State.dalEvent
  try dsimp only
  repeat' first
    | (with_reducible assumption)
    | ((with_reducible refine Sub.trans hp ?_); rfl)
    | ((with_reducible refine Sub.bit hp ?_); decide)
    | (with_reducible apply State.slqPush_kept)
    | (with_reducible apply State.count_kept)
    | (with_reducible apply State.notice_kept)
    | (with_reducible apply State.draw_kept)
    | (with_reducible apply State.draw_pair (by assumption))
    | (with_reducible apply State.drfDetect_kept)
    | split
    | (lift_lets; intro x; refine Kept.cut (s := x) ?_ (fun hx => ?_) <;> [subst x; clear_value x])
    | (intro x; refine Kept.cut (s := x) ?_ (fun hx => ?_) <;> [subst x; clear_value x])
    | (lift_lets; intro x; subst x)
    | (intro x; subst x)
    | (intro _)
    | (dsimp only)

end Sys2Proof.Machine
end

