-- ==== Sys2Proof/Laws/KeepSwitch.lean ====
section
/-! SUPPORT. What the operations of Machine/Switch.lean keep. -/

set_option Elab.async false
set_option linter.unusedTactic false
set_option linter.unreachableTactic false
set_option linter.unusedVariables false

namespace Sys2Proof.Machine

variable {T : Nat → Prop} {s₀ : State}

theorem State.setSwQueue_kept {s : State} (h_s : Kept T s₀ s) (k : Nat) (c : Nat) (q : List SwFrame) (hp : Sub 0x1000000 T) : Kept T s₀ (State.setSwQueue s k c q) := by
  unfold State.setSwQueue
  try dsimp only
  repeat' first
    | (with_reducible assumption)
    | ((with_reducible refine Sub.trans hp ?_); rfl)
    | ((with_reducible refine Sub.bit hp ?_); decide)
    | (fail_if_no_progress ((with_reducible refine Kept.mkOther ?_ ?_ ?_ (fun q hq => ?_)) <;> [skip; exact rfl; exact rfl; (cases q <;> first | with_reducible exact rfl | exact fun f _ => State.rd_congr rfl f | exact absurd (Sub.bit hp rfl) hq)]))
    | (intro _)
    | (dsimp only)

theorem State.bufLow_kept {s : State} (h_s : Kept T s₀ s) (before : Nat) (hp : Sub 0x100020000000002 T) : Kept T s₀ (State.bufLow s before) := by
  unfold State.bufLow
  try dsimp only
  repeat' first
    | (with_reducible assumption)
    | ((with_reducible refine Sub.trans hp ?_); rfl)
    | ((with_reducible refine Sub.bit hp ?_); decide)
    | (with_reducible apply State.noticeIf_kept)
    | (intro _)
    | (dsimp only)

theorem State.sendPause_kept {s : State} (h_s : Kept T s₀ s) (k : Nat) (quanta : Nat) (hp : Sub 0x7e00000000000002 T) : Kept T s₀ (State.sendPause s k quanta) := by
  unfold State.sendPause
  try dsimp only
  repeat' first
    | (with_reducible assumption)
    | ((with_reducible refine Sub.trans hp ?_); rfl)
    | ((with_reducible refine Sub.bit hp ?_); decide)
    | ((with_reducible refine Sub.etp hp ?_ ?_) <;> [(first | (simp only [Field.slot, Field.page, Field.key]; omega) | (dsimp only; omega)); rfl])
    | (with_reducible apply State.count_kept)
    | (with_reducible apply State.emit_kept)
    | split
    | (lift_lets; intro x; refine Kept.cut (s := x) ?_ (fun hx => ?_) <;> [subst x; clear_value x])
    | (intro x; refine Kept.cut (s := x) ?_ (fun hx => ?_) <;> [subst x; clear_value x])
    | (lift_lets; intro x; subst x)
    | (intro x; subst x)
    | (intro _)
    | (dsimp only)

theorem State.pauseRise_kept {s : State} (h_s : Kept T s₀ s) (k : Nat) (hp : Sub 0x7e00000001000002 T) : Kept T s₀ (State.pauseRise s k) := by
  unfold State.pauseRise
  try dsimp only
  repeat' first
    | (with_reducible assumption)
    | ((with_reducible refine Sub.trans hp ?_); rfl)
    | ((with_reducible refine Sub.bit hp ?_); decide)
    | ((with_reducible refine Sub.etp hp ?_ ?_) <;> [(first | (simp only [Field.slot, Field.page, Field.key]; omega) | (dsimp only; omega)); rfl])
    | (with_reducible apply State.sendPause_kept)
    | (fail_if_no_progress ((with_reducible refine Kept.mkOther ?_ ?_ ?_ (fun q hq => ?_)) <;> [skip; exact rfl; exact rfl; (cases q <;> first | with_reducible exact rfl | exact fun f _ => State.rd_congr rfl f | exact absurd (Sub.bit hp rfl) hq)]))
    | split
    | (intro _)
    | (dsimp only)

theorem State.pauseFall_kept {s : State} (h_s : Kept T s₀ s) (k : Nat) (hp : Sub 0x7e00000001000002 T) : Kept T s₀ (State.pauseFall s k) := by
  unfold State.pauseFall
  try dsimp only
  repeat' first
    | (with_reducible assumption)
    | ((with_reducible refine Sub.trans hp ?_); rfl)
    | ((with_reducible refine Sub.bit hp ?_); decide)
    | (with_reducible apply State.sendPause_kept)
    | (fail_if_no_progress ((with_reducible refine Kept.mkOther ?_ ?_ ?_ (fun q hq => ?_)) <;> [skip; exact rfl; exact rfl; (cases q <;> first | with_reducible exact rfl | exact fun f _ => State.rd_congr rfl f | exact absurd (Sub.bit hp rfl) hq)]))
    | split
    | (intro _)
    | (dsimp only)

theorem State.pauseFalls_kept {s : State} (h_s : Kept T s₀ s)  (hp : Sub 0x7e00000001000002 T) : Kept T s₀ (State.pauseFalls s) := by
  unfold State.pauseFalls
  try dsimp only
  repeat' first
    | (with_reducible assumption)
    | ((with_reducible refine Sub.trans hp ?_); rfl)
    | ((with_reducible refine Sub.bit hp ?_); decide)
    | (with_reducible apply State.pauseFall_kept)
    | (with_reducible refine Kept.foldl _ _ ?_ (fun _ _ _ => ?_))
    | (intro _)
    | (dsimp only)

theorem State.showPause_kept {s : State} (h_s : Kept T s₀ s) (k : Nat) (hp : Sub 0x7e00000000000000 T) : Kept T s₀ (State.showPause s k) := by
  unfold State.showPause
  try dsimp only
  repeat' first
    | (with_reducible assumption)
    | ((with_reducible refine Sub.trans hp ?_); rfl)
    | ((with_reducible refine Sub.bit hp ?_); decide)
    | ((with_reducible refine Sub.etp hp ?_ ?_) <;> [(first | (simp only [Field.slot, Field.page, Field.key]; omega) | (dsimp only; omega)); rfl])
    | (with_reducible apply State.wrB_kept)
    | (with_reducible apply State.wr_kept)
    | (lift_lets; intro x; refine Kept.cut (s := x) ?_ (fun hx => ?_) <;> [subst x; clear_value x])
    | (intro x; refine Kept.cut (s := x) ?_ (fun hx => ?_) <;> [subst x; clear_value x])
    | (lift_lets; intro x; subst x)
    | (intro x; subst x)
    | (intro _)
    | (dsimp only)

theorem State.pauseFor_kept {s : State} (h_s : Kept T s₀ s) (k : Nat) (c : Nat) (quanta : Nat) (hp : Sub 0x1000000 T) : Kept T s₀ (State.pauseFor s k c quanta) := by
  unfold State.pauseFor
  try dsimp only
  repeat' first
    | (with_reducible assumption)
    | ((with_reducible refine Sub.trans hp ?_); rfl)
    | ((with_reducible refine Sub.bit hp ?_); decide)
    | ((with_reducible refine Sub.etp hp ?_ ?_) <;> [(first | (simp only [Field.slot, Field.page, Field.key]; omega) | (dsimp only; omega)); rfl])
    | (fail_if_no_progress ((with_reducible refine Kept.mkOther ?_ ?_ ?_ (fun q hq => ?_)) <;> [skip; exact rfl; exact rfl; (cases q <;> first | with_reducible exact rfl | exact fun f _ => State.rd_congr rfl f | exact absurd (Sub.bit hp rfl) hq)]))
    | split
    | (intro _)
    | (dsimp only)

theorem State.pauseSweep_kept {s : State} (h_s : Kept T s₀ s) (k : Nat) (hp : Sub 0x7e00000001000000 T) : Kept T s₀ (State.pauseSweep s k) := by
  unfold State.pauseSweep
  try dsimp only
  repeat' first
    | (with_reducible assumption)
    | ((with_reducible refine Sub.trans hp ?_); rfl)
    | ((with_reducible refine Sub.bit hp ?_); decide)
    | (with_reducible apply State.showPause_kept)
    | (fail_if_no_progress ((with_reducible refine Kept.mkOther ?_ ?_ ?_ (fun q hq => ?_)) <;> [skip; exact rfl; exact rfl; (cases q <;> first | with_reducible exact rfl | exact fun f _ => State.rd_congr rfl f | exact absurd (Sub.bit hp rfl) hq)]))
    | (lift_lets; intro x; refine Kept.cut (s := x) ?_ (fun hx => ?_) <;> [subst x; clear_value x])
    | (intro x; refine Kept.cut (s := x) ?_ (fun hx => ?_) <;> [subst x; clear_value x])
    | (lift_lets; intro x; subst x)
    | (intro x; subst x)
    | (intro _)
    | (dsimp only)

theorem State.controlRx_kept {s : State} (h_s : Kept T s₀ s) (k : Nat) (op : Nat) (b : List Nat) (hp : Sub 0x7e00000001000000 T) : Kept T s₀ (State.controlRx s k op b) := by
  unfold State.controlRx
  try dsimp only
  repeat' first
    | (with_reducible assumption)
    | ((with_reducible refine Sub.trans hp ?_); rfl)
    | ((with_reducible refine Sub.bit hp ?_); decide)
    | ((with_reducible refine Sub.etp hp ?_ ?_) <;> [(first | (simp only [Field.slot, Field.page, Field.key]; omega) | (dsimp only; omega)); rfl])
    | (with_reducible apply State.count_kept)
    | (with_reducible apply State.pauseFor_kept)
    | (with_reducible apply State.showPause_kept)
    | (with_reducible refine Kept.foldl _ _ ?_ (fun _ _ _ => ?_))
    | split
    | (lift_lets; intro x; refine Kept.cut (s := x) ?_ (fun hx => ?_) <;> [subst x; clear_value x])
    | (intro x; refine Kept.cut (s := x) ?_ (fun hx => ?_) <;> [subst x; clear_value x])
    | (lift_lets; intro x; subst x)
    | (intro x; subst x)
    | (intro _)
    | (dsimp only)

theorem State.setFdb_kept {s : State} (h_s : Kept T s₀ s) (l : List (Nat × FdbEntry)) (hp : Sub 0x100000001000000 T) : Kept T s₀ (State.setFdb s l) := by
  unfold State.setFdb
  try dsimp only
  repeat' first
    | (with_reducible assumption)
    | ((with_reducible refine Sub.trans hp ?_); rfl)
    | ((with_reducible refine Sub.bit hp ?_); decide)
    | (with_reducible apply State.wr_kept)
    | (fail_if_no_progress ((with_reducible refine Kept.mkOther ?_ ?_ ?_ (fun q hq => ?_)) <;> [skip; exact rfl; exact rfl; (cases q <;> first | with_reducible exact rfl | exact fun f _ => State.rd_congr rfl f | exact absurd (Sub.bit hp rfl) hq)]))
    | (intro _)
    | (dsimp only)

theorem State.learn_kept {s : State} (h_s : Kept T s₀ s) (mac : Nat) (vid : Nat) (k : Nat) (hp : Sub 0x100020001000002 T) : Kept T s₀ (State.learn s mac vid k) := by
  unfold State.learn
  try dsimp only
  repeat' first
    | (with_reducible assumption)
    | ((with_reducible refine Sub.trans hp ?_); rfl)
    | ((with_reducible refine Sub.bit hp ?_); decide)
    | (with_reducible apply State.setFdb_kept)
    | (with_reducible apply State.count_kept)
    | (with_reducible apply State.notice_kept)
    | split
    | (lift_lets; intro x; refine Kept.cut (s := x) ?_ (fun hx => ?_) <;> [subst x; clear_value x])
    | (intro x; refine Kept.cut (s := x) ?_ (fun hx => ?_) <;> [subst x; clear_value x])
    | (lift_lets; intro x; subst x)
    | (intro x; subst x)
    | (intro _)
    | (dsimp only)

theorem State.fdbExpire_kept {s : State} (h_s : Kept T s₀ s)  (hp : Sub 0x100000001000000 T) : Kept T s₀ (State.fdbExpire s) := by
  unfold State.fdbExpire
  try dsimp only
  repeat' first
    | (with_reducible assumption)
    | ((with_reducible refine Sub.trans hp ?_); rfl)
    | ((with_reducible refine Sub.bit hp ?_); decide)
    | (with_reducible apply State.setFdb_kept)
    | split
    | (lift_lets; intro x; refine Kept.cut (s := x) ?_ (fun hx => ?_) <;> [subst x; clear_value x])
    | (intro x; refine Kept.cut (s := x) ?_ (fun hx => ?_) <;> [subst x; clear_value x])
    | (lift_lets; intro x; subst x)
    | (intro x; subst x)
    | (intro _)
    | (dsimp only)

theorem State.fdbResult_kept {s : State} (h_s : Kept T s₀ s) (r : Nat) (index : Option Nat) (hp : Sub 0x100000000000000 T) : Kept T s₀ (State.fdbResult s r index) := by
  unfold State.fdbResult
  try dsimp only
  repeat' first
    | (with_reducible assumption)
    | ((with_reducible refine Sub.trans hp ?_); rfl)
    | ((with_reducible refine Sub.bit hp ?_); decide)
    | (with_reducible apply State.wr_kept)
    | split
    | (lift_lets; intro x; refine Kept.cut (s := x) ?_ (fun hx => ?_) <;> [subst x; clear_value x])
    | (intro x; refine Kept.cut (s := x) ?_ (fun hx => ?_) <;> [subst x; clear_value x])
    | (lift_lets; intro x; subst x)
    | (intro x; subst x)
    | (intro _)
    | (dsimp only)

theorem State.fdbInsert_kept {s : State} (h_s : Kept T s₀ s) (vid : Nat) (hp : Sub 0x100000001000000 T) : Kept T s₀ (State.fdbInsert s vid) := by
  unfold State.fdbInsert
  try dsimp only
  repeat' first
    | (with_reducible assumption)
    | ((with_reducible refine Sub.trans hp ?_); rfl)
    | ((with_reducible refine Sub.bit hp ?_); decide)
    | (with_reducible apply State.setFdb_kept)
    | (with_reducible apply State.fdbResult_kept)
    | split
    | (lift_lets; intro x; refine Kept.cut (s := x) ?_ (fun hx => ?_) <;> [subst x; clear_value x])
    | (intro x; refine Kept.cut (s := x) ?_ (fun hx => ?_) <;> [subst x; clear_value x])
    | (lift_lets; intro x; subst x)
    | (intro x; subst x)
    | (intro _)
    | (dsimp only)

theorem State.fdbDelete_kept {s : State} (h_s : Kept T s₀ s) (vid : Nat) (hp : Sub 0x100000001000000 T) : Kept T s₀ (State.fdbDelete s vid) := by
  unfold State.fdbDelete
  try dsimp only
  repeat' first
    | (with_reducible assumption)
    | ((with_reducible refine Sub.trans hp ?_); rfl)
    | ((with_reducible refine Sub.bit hp ?_); decide)
    | (with_reducible apply State.setFdb_kept)
    | (with_reducible apply State.fdbResult_kept)
    | split
    | (intro _)
    | (dsimp only)

theorem State.fdbLookup_kept {s : State} (h_s : Kept T s₀ s) (vid : Nat) (hp : Sub 0x100000000000000 T) : Kept T s₀ (State.fdbLookup s vid) := by
  unfold State.fdbLookup
  try dsimp only
  repeat' first
    | (with_reducible assumption)
    | ((with_reducible refine Sub.trans hp ?_); rfl)
    | ((with_reducible refine Sub.bit hp ?_); decide)
    | (with_reducible apply State.fdbResult_kept)
    | split
    | (intro _)
    | (dsimp only)

theorem State.fdbFlush_kept {s : State} (h_s : Kept T s₀ s) (p : FdbEntry → Bool) (hp : Sub 0x100000001000000 T) : Kept T s₀ (State.fdbFlush s p) := by
  unfold State.fdbFlush
  try dsimp only
  repeat' first
    | (with_reducible assumption)
    | ((with_reducible refine Sub.trans hp ?_); rfl)
    | ((with_reducible refine Sub.bit hp ?_); decide)
    | (with_reducible apply State.setFdb_kept)
    | (with_reducible apply State.fdbResult_kept)
    | (lift_lets; intro x; refine Kept.cut (s := x) ?_ (fun hx => ?_) <;> [subst x; clear_value x])
    | (intro x; refine Kept.cut (s := x) ?_ (fun hx => ?_) <;> [subst x; clear_value x])
    | (lift_lets; intro x; subst x)
    | (intro x; subst x)
    | (intro _)
    | (dsimp only)

theorem State.fdbFlushPort_kept {s : State} (h_s : Kept T s₀ s) (k : Nat) (hp : Sub 0x100000001000000 T) : Kept T s₀ (State.fdbFlushPort s k) := by
  unfold State.fdbFlushPort
  try dsimp only
  repeat' first
    | (with_reducible assumption)
    | ((with_reducible refine Sub.trans hp ?_); rfl)
    | ((with_reducible refine Sub.bit hp ?_); decide)
    | (with_reducible apply State.fdbFlush_kept)
    | (lift_lets; intro x; refine Kept.cut (s := x) ?_ (fun hx => ?_) <;> [subst x; clear_value x])
    | (intro x; refine Kept.cut (s := x) ?_ (fun hx => ?_) <;> [subst x; clear_value x])
    | (lift_lets; intro x; subst x)
    | (intro x; subst x)
    | (intro _)
    | (dsimp only)

theorem State.fdbFlushInstance_kept {s : State} (h_s : Kept T s₀ s) (i : Nat) (hp : Sub 0x100000001000000 T) : Kept T s₀ (State.fdbFlushInstance s i) := by
  unfold State.fdbFlushInstance
  try dsimp only
  repeat' first
    | (with_reducible assumption)
    | ((with_reducible refine Sub.trans hp ?_); rfl)
    | ((with_reducible refine Sub.bit hp ?_); decide)
    | (with_reducible apply State.fdbFlush_kept)
    | (lift_lets; intro x; refine Kept.cut (s := x) ?_ (fun hx => ?_) <;> [subst x; clear_value x])
    | (intro x; refine Kept.cut (s := x) ?_ (fun hx => ?_) <;> [subst x; clear_value x])
    | (lift_lets; intro x; subst x)
    | (intro x; subst x)
    | (intro _)
    | (dsimp only)

theorem State.fdbFlushAll_kept {s : State} (h_s : Kept T s₀ s)  (hp : Sub 0x100000001000000 T) : Kept T s₀ (State.fdbFlushAll s) := by
  unfold State.fdbFlushAll
  try dsimp only
  repeat' first
    | (with_reducible assumption)
    | ((with_reducible refine Sub.trans hp ?_); rfl)
    | ((with_reducible refine Sub.bit hp ?_); decide)
    | (with_reducible apply State.fdbFlush_kept)
    | (lift_lets; intro x; refine Kept.cut (s := x) ?_ (fun hx => ?_) <;> [subst x; clear_value x])
    | (intro x; refine Kept.cut (s := x) ?_ (fun hx => ?_) <;> [subst x; clear_value x])
    | (lift_lets; intro x; subst x)
    | (intro x; subst x)
    | (intro _)
    | (dsimp only)

theorem State.fdbCommand_kept {s : State} (h_s : Kept T s₀ s) (w : Nat) (hp : Sub 0x100000001000000 T) : Kept T s₀ (State.fdbCommand s w) := by
  unfold State.fdbCommand
  try dsimp only
  repeat' first
    | (with_reducible assumption)
    | ((with_reducible refine Sub.trans hp ?_); rfl)
    | ((with_reducible refine Sub.bit hp ?_); decide)
    | (with_reducible apply State.fdbInsert_kept)
    | (with_reducible apply State.fdbDelete_kept)
    | (with_reducible apply State.fdbFlushPort_kept)
    | (with_reducible apply State.fdbFlushInstance_kept)
    | (with_reducible apply State.fdbFlushAll_kept)
    | (with_reducible apply State.fdbLookup_kept)
    | split
    | (lift_lets; intro x; refine Kept.cut (s := x) ?_ (fun hx => ?_) <;> [subst x; clear_value x])
    | (intro x; refine Kept.cut (s := x) ?_ (fun hx => ?_) <;> [subst x; clear_value x])
    | (lift_lets; intro x; subst x)
    | (intro x; subst x)
    | (intro _)
    | (dsimp only)

theorem State.giveUp_kept {s : State} (h_s : Kept T s₀ s) (k : Nat) (tsId : Option Nat) (hp : Sub 0x430000120100004c12 T) : Kept T s₀ (State.giveUp s k tsId) := by
  unfold State.giveUp
  try dsimp only
  repeat' first
    | (with_reducible assumption)
    | ((with_reducible refine Sub.trans hp ?_); rfl)
    | ((with_reducible refine Sub.bit hp ?_); decide)
    | (with_reducible apply State.tsPut_kept)
    | split
    | (intro _)
    | (dsimp only)

theorem State.flushPort_kept {s : State} (h_s : Kept T s₀ s) (k : Nat) (p : SwFrame → Bool) (hp : Sub 0x437e00120101004c12 T) : Kept T s₀ (State.flushPort s k p) := by
  unfold State.flushPort
  try dsimp only
  repeat' first
    | (with_reducible assumption)
    | ((with_reducible refine Sub.trans hp ?_); rfl)
    | ((with_reducible refine Sub.bit hp ?_); decide)
    | ((with_reducible refine Sub.etp hp ?_ ?_) <;> [(first | (simp only [Field.slot, Field.page, Field.key]; omega) | (dsimp only; omega)); rfl])
    | (with_reducible apply State.setSwQueue_kept)
    | (with_reducible apply State.giveUp_kept)
    | (with_reducible apply State.count_kept)
    | (with_reducible apply State.pauseFalls_kept)
    | (with_reducible refine Kept.foldl _ _ ?_ (fun _ _ _ => ?_))
    | (lift_lets; intro x; refine Kept.cut (s := x) ?_ (fun hx => ?_) <;> [subst x; clear_value x])
    | (intro x; refine Kept.cut (s := x) ?_ (fun hx => ?_) <;> [subst x; clear_value x])
    | (lift_lets; intro x; subst x)
    | (intro x; subst x)
    | (intro _)
    | (dsimp only)

theorem State.setLink_kept {s : State} (h_s : Kept T s₀ s) (k : Nat) (up : Bool) (hp : Sub 0x7e00020001000002 T) : Kept T s₀ (State.setLink s k up) := by
  unfold State.setLink
  try dsimp only
  repeat' first
    | (with_reducible assumption)
    | ((with_reducible refine Sub.trans hp ?_); rfl)
    | ((with_reducible refine Sub.bit hp ?_); decide)
    | ((with_reducible refine Sub.etp hp ?_ ?_) <;> [(first | (simp only [Field.slot, Field.page, Field.key]; omega) | (dsimp only; omega)); rfl])
    | (with_reducible apply State.wrB_kept)
    | (with_reducible apply State.notice_kept)
    | (with_reducible refine State.wrAll_nil_kept ?_)
    | (with_reducible refine State.wrAll_cons_kept ?_)
    | (with_reducible refine State.wrAll_kept ?_ _ ?_ ?_)
    | (with_reducible apply State.wr_kept)
    | (fail_if_no_progress ((with_reducible refine Kept.mkOther ?_ ?_ ?_ (fun q hq => ?_)) <;> [skip; exact rfl; exact rfl; (cases q <;> first | with_reducible exact rfl | exact fun f _ => State.rd_congr rfl f | exact absurd (Sub.bit hp rfl) hq)]))
    | split
    | (lift_lets; intro x; refine Kept.cut (s := x) ?_ (fun hx => ?_) <;> [subst x; clear_value x])
    | (intro x; refine Kept.cut (s := x) ?_ (fun hx => ?_) <;> [subst x; clear_value x])
    | (lift_lets; intro x; subst x)
    | (intro x; subst x)
    | (intro _)
    | (dsimp only)

theorem State.linkChange_kept {s : State} (h_s : Kept T s₀ s) (k : Nat) (up : Bool) (speed : Nat) (hp : Sub 0x7e00020001000002 T) : Kept T s₀ (State.linkChange s k up speed) := by
  unfold State.linkChange
  try dsimp only
  repeat' first
    | (with_reducible assumption)
    | ((with_reducible refine Sub.trans hp ?_); rfl)
    | ((with_reducible refine Sub.bit hp ?_); decide)
    | ((with_reducible refine Sub.etp hp ?_ ?_) <;> [(first | (simp only [Field.slot, Field.page, Field.key]; omega) | (dsimp only; omega)); rfl])
    | (with_reducible apply State.setLink_kept)
    | (with_reducible apply State.wr_kept)
    | split
    | (intro _)
    | (dsimp only)

theorem State.etpCtrl_kept {s : State} (h_s : Kept T s₀ s) (k : Nat) (en : Bool) (mode : Nat) (hp : Sub 0x437e00120101004c12 T) : Kept T s₀ (State.etpCtrl s k en mode) := by
  unfold State.etpCtrl
  try dsimp only
  repeat' first
    | (with_reducible assumption)
    | ((with_reducible refine Sub.trans hp ?_); rfl)
    | ((with_reducible refine Sub.bit hp ?_); decide)
    | ((with_reducible refine Sub.etp hp ?_ ?_) <;> [(first | (simp only [Field.slot, Field.page, Field.key]; omega) | (dsimp only; omega)); rfl])
    | (with_reducible apply State.wrB_kept)
    | (with_reducible apply State.wr_kept)
    | (with_reducible apply State.noticeIf_kept)
    | (with_reducible apply State.setLink_kept)
    | (with_reducible apply State.flushPort_kept)
    | split
    | (lift_lets; intro x; refine Kept.cut (s := x) ?_ (fun hx => ?_) <;> [subst x; clear_value x])
    | (intro x; refine Kept.cut (s := x) ?_ (fun hx => ?_) <;> [subst x; clear_value x])
    | (lift_lets; intro x; subst x)
    | (intro x; subst x)
    | (intro _)
    | (dsimp only)

theorem State.fwdWrite_kept {s : State} (h_s : Kept T s₀ s) (k : Nat) (w : Nat) (hp : Sub 0x437e00120101004c12 T) : Kept T s₀ (State.fwdWrite s k w) := by
  unfold State.fwdWrite
  try dsimp only
  repeat' first
    | (with_reducible assumption)
    | ((with_reducible refine Sub.trans hp ?_); rfl)
    | ((with_reducible refine Sub.bit hp ?_); decide)
    | ((with_reducible refine Sub.etp hp ?_ ?_) <;> [(first | (simp only [Field.slot, Field.page, Field.key]; omega) | (dsimp only; omega)); rfl])
    | (with_reducible apply State.wr_kept)
    | (with_reducible apply State.flushPort_kept)
    | (lift_lets; intro x; refine Kept.cut (s := x) ?_ (fun hx => ?_) <;> [subst x; clear_value x])
    | (intro x; refine Kept.cut (s := x) ?_ (fun hx => ?_) <;> [subst x; clear_value x])
    | (lift_lets; intro x; subst x)
    | (intro x; subst x)
    | (intro _)
    | (dsimp only)

theorem State.swEnqueue_kept {s : State} (h_s : Kept T s₀ s) (f : SwFrame) (ports : List Nat) (hp : Sub 0x7f00020001000002 T) : Kept T s₀ (State.swEnqueue s f ports) := by
  unfold State.swEnqueue
  try dsimp only
  repeat' first
    | (with_reducible assumption)
    | ((with_reducible refine Sub.trans hp ?_); rfl)
    | ((with_reducible refine Sub.bit hp ?_); decide)
    | ((with_reducible refine Sub.etp hp ?_ ?_) <;> [(first | (simp only [Field.slot, Field.page, Field.key]; omega) | (dsimp only; omega)); rfl])
    | (with_reducible apply State.count_kept)
    | (with_reducible apply State.notice_kept)
    | (with_reducible apply State.setSwQueue_kept)
    | (with_reducible apply State.bufLow_kept)
    | (with_reducible apply State.pauseRise_kept)
    | (with_reducible refine Kept.foldl _ _ ?_ (fun _ _ _ => ?_))
    | (fail_if_no_progress ((with_reducible refine Kept.mkOther ?_ ?_ ?_ (fun q hq => ?_)) <;> [skip; exact rfl; exact rfl; (cases q <;> first | with_reducible exact rfl | exact fun f _ => State.rd_congr rfl f | exact absurd (Sub.bit hp rfl) hq)]))
    | split
    | (lift_lets; intro x; refine Kept.cut (s := x) ?_ (fun hx => ?_) <;> [subst x; clear_value x])
    | (intro x; refine Kept.cut (s := x) ?_ (fun hx => ?_) <;> [subst x; clear_value x])
    | (lift_lets; intro x; subst x)
    | (intro x; subst x)
    | (intro _)
    | (dsimp only)

theorem State.admitFrame_kept {s : State} (h_s : Kept T s₀ s) (f : SwFrame) (ports : List Nat) (hp : Sub 0x7f00020001000002 T) : Kept T s₀ (State.admitFrame s f ports) := by
  unfold State.admitFrame
  try dsimp only
  repeat' first
    | (with_reducible assumption)
    | ((with_reducible refine Sub.trans hp ?_); rfl)
    | ((with_reducible refine Sub.bit hp ?_); decide)
    | (with_reducible apply State.swEnqueue_kept)
    | split
    | (intro _)
    | (dsimp only)

theorem State.forward_kept {s : State} (h_s : Kept T s₀ s) (k : Nat) (f : EthFrame) (rx : Int) (hp : Sub 0x7f00020001000002 T) : Kept T s₀ (State.forward s k f rx) := by
  unfold State.forward
  try dsimp only
  repeat' first
    | (with_reducible assumption)
    | ((with_reducible refine Sub.trans hp ?_); rfl)
    | ((with_reducible refine Sub.bit hp ?_); decide)
    | ((with_reducible refine Sub.etp hp ?_ ?_) <;> [(first | (simp only [Field.slot, Field.page, Field.key]; omega) | (dsimp only; omega)); rfl])
    | (with_reducible apply State.admitFrame_kept)
    | (with_reducible apply State.learn_kept)
    | (with_reducible apply State.count_kept)
    | split
    | (lift_lets; intro x; refine Kept.cut (s := x) ?_ (fun hx => ?_) <;> [subst x; clear_value x])
    | (intro x; refine Kept.cut (s := x) ?_ (fun hx => ?_) <;> [subst x; clear_value x])
    | (lift_lets; intro x; subst x)
    | (intro x; subst x)
    | (intro _)
    | (dsimp only)

theorem State.countBytes_kept {s : State} (h_s : Kept T s₀ s) (lo : Field) (hi : Field) (n : Nat) (hp : Sub 0x0 T) (hf_lo : T lo.slot) (hf_hi : T hi.slot) : Kept T s₀ (State.countBytes s lo hi n) := by
  unfold State.countBytes
  try dsimp only
  repeat' first
    | (with_reducible assumption)
    | ((with_reducible refine Sub.trans hp ?_); rfl)
    | ((with_reducible refine Sub.bit hp ?_); decide)
    | (with_reducible apply State.wr_kept)
    | (lift_lets; intro x; refine Kept.cut (s := x) ?_ (fun hx => ?_) <;> [subst x; clear_value x])
    | (intro x; refine Kept.cut (s := x) ?_ (fun hx => ?_) <;> [subst x; clear_value x])
    | (lift_lets; intro x; subst x)
    | (intro x; subst x)
    | (intro _)
    | (dsimp only)

theorem State.frameLost_kept {s : State} (h_s : Kept T s₀ s) (k : Nat) (hp : Sub 0x4400100020100000002 T) : Kept T s₀ (State.frameLost s k) := by
  unfold State.frameLost
  try dsimp only
  repeat' first
    | (with_reducible assumption)
    | ((with_reducible refine Sub.trans hp ?_); rfl)
    | ((with_reducible refine Sub.bit hp ?_); decide)
    | (with_reducible apply State.count_kept)
    | (with_reducible apply State.notice_kept)
    | (with_reducible apply State.itgCarry_kept)
    | (intro _)
    | (dsimp only)

theorem State.frameRx_kept {s : State} (h_s : Kept T s₀ s) (k : Nat) (len : Nat) (f : EthFrame) (check : FrameCheck) (ns : Int) (hp : Sub 0x4407f00020101000002 T) : Kept T s₀ (State.frameRx s k len f check ns) := by
  unfold State.frameRx
  try dsimp only
  repeat' first
    | (with_reducible assumption)
    | ((with_reducible refine Sub.trans hp ?_); rfl)
    | ((with_reducible refine Sub.bit hp ?_); decide)
    | ((with_reducible refine Sub.etp hp ?_ ?_) <;> [(first | (simp only [Field.slot, Field.page, Field.key]; omega) | (dsimp only; omega)); rfl])
    | (with_reducible apply State.count_kept)
    | (with_reducible apply State.notice_kept)
    | (with_reducible apply State.controlRx_kept)
    | (with_reducible apply State.frameLost_kept)
    | (with_reducible apply State.countBytes_kept)
    | (with_reducible apply State.forward_kept)
    | split
    | (intro _)
    | (dsimp only)

theorem State.drr_kept {s t : State} {k m c : Nat} {len : Nat → Nat} {n : Nat} (q_ : s.drr k m len n = some (c, t))
    (h_s : Kept T s₀ s) (hp : Sub 0x1000000 T := by first | exact Sub.trans (by assumption) rfl | exact Sub.all (by assumption)) : Kept T s₀ t := by
  induction n generalizing s with
  | zero => simp [State.drr] at q_
  | succ n ih =>
    unfold State.drr at q_
    dsimp only at q_
    split at q_
    · simp only [Option.some.injEq, Prod.mk.injEq] at q_
      rw [← q_.2]
      exact h_s.mkOther rfl rfl (fun q hq => by cases q <;> first | exact rfl | exact fun f _ => State.rd_congr rfl f | exact absurd (Sub.bit hp rfl) hq)
    · split at q_
      · simp at q_
      · exact ih q_ (h_s.mkOther rfl rfl (fun q hq => by cases q <;> first | exact rfl | exact fun f _ => State.rd_congr rfl f | exact absurd (Sub.bit hp rfl) hq))

theorem State.chooseClass_kept {s t : State} {k c : Nat} (q_ : s.chooseClass k = some (c, t))
    (h_s : Kept T s₀ s) (hp : Sub 0x1000000 T := by first | exact Sub.trans (by assumption) rfl | exact Sub.all (by assumption)) : Kept T s₀ t := by
  unfold State.chooseClass at q_
  dsimp only at q_
  split at q_
  · simp only [Option.some.injEq, Prod.mk.injEq] at q_
    rw [← q_.2]
    exact h_s
  · exact State.drr_kept q_ h_s

theorem State.settleDeficit_kept {s : State} (h_s : Kept T s₀ s) (k : Nat) (c : Nat) (hp : Sub 0x1000000 T) : Kept T s₀ (State.settleDeficit s k c) := by
  unfold State.settleDeficit
  try dsimp only
  repeat' first
    | (with_reducible assumption)
    | ((with_reducible refine Sub.trans hp ?_); rfl)
    | ((with_reducible refine Sub.bit hp ?_); decide)
    | (fail_if_no_progress ((with_reducible refine Kept.mkOther ?_ ?_ ?_ (fun q hq => ?_)) <;> [skip; exact rfl; exact rfl; (cases q <;> first | with_reducible exact rfl | exact fun f _ => State.rd_congr rfl f | exact absurd (Sub.bit hp rfl) hq)]))
    | split
    | (intro _)
    | (dsimp only)

theorem State.sendFrame_kept {s : State} (h_s : Kept T s₀ s) (k : Nat) (f : SwFrame) (ns : Int) (bad : Bool) (hp : Sub 0x437e00120100004c12 T) : Kept T s₀ (State.sendFrame s k f ns bad) := by
  unfold State.sendFrame
  try dsimp only
  repeat' first
    | (with_reducible assumption)
    | ((with_reducible refine Sub.trans hp ?_); rfl)
    | ((with_reducible refine Sub.bit hp ?_); decide)
    | ((with_reducible refine Sub.etp hp ?_ ?_) <;> [(first | (simp only [Field.slot, Field.page, Field.key]; omega) | (dsimp only; omega)); rfl])
    | (with_reducible apply State.count_kept)
    | (with_reducible apply State.notice_kept)
    | (with_reducible apply State.giveUp_kept)
    | (with_reducible apply State.emit_kept)
    | (with_reducible apply State.countBytes_kept)
    | (with_reducible apply State.tsPut_kept)
    | split
    | (lift_lets; intro x; refine Kept.cut (s := x) ?_ (fun hx => ?_) <;> [subst x; clear_value x])
    | (intro x; refine Kept.cut (s := x) ?_ (fun hx => ?_) <;> [subst x; clear_value x])
    | (lift_lets; intro x; subst x)
    | (intro x; subst x)
    | (intro _)
    | (dsimp only)

theorem State.eccDrop_kept {s : State} (h_s : Kept T s₀ s) (carry : Bool) (page : Nat) (hp : Sub 0x4400100020100000006 T) : Kept T s₀ (State.eccDrop s carry page) := by
  unfold State.eccDrop
  try dsimp only
  repeat' first
    | (with_reducible assumption)
    | ((with_reducible refine Sub.trans hp ?_); rfl)
    | ((with_reducible refine Sub.bit hp ?_); decide)
    | (with_reducible apply State.count_kept)
    | (with_reducible apply State.notice_kept)
    | (with_reducible apply State.itgCarry_kept)
    | (with_reducible apply State.itgReadError_kept)
    | split
    | (lift_lets; intro x; refine Kept.cut (s := x) ?_ (fun hx => ?_) <;> [subst x; clear_value x])
    | (intro x; refine Kept.cut (s := x) ?_ (fun hx => ?_) <;> [subst x; clear_value x])
    | (lift_lets; intro x; subst x)
    | (intro x; subst x)
    | (intro _)
    | (dsimp only)

theorem State.transmit_kept {s : State} (h_s : Kept T s₀ s) (k : Nat) (ns : Int) (ecc : Nat) (hp : Sub 0x4437f00120101004c16 T) : Kept T s₀ (State.transmit s k ns ecc) := by
  unfold State.transmit
  try dsimp only
  repeat' first
    | (with_reducible assumption)
    | ((with_reducible refine Sub.trans hp ?_); rfl)
    | ((with_reducible refine Sub.bit hp ?_); decide)
    | ((with_reducible refine Sub.etp hp ?_ ?_) <;> [(first | (simp only [Field.slot, Field.page, Field.key]; omega) | (dsimp only; omega)); rfl])
    | (with_reducible apply State.pauseSweep_kept)
    | (with_reducible refine State.chooseClass_kept (by assumption) ?_ ?_)
    | (with_reducible apply State.setSwQueue_kept)
    | (with_reducible apply State.settleDeficit_kept)
    | (with_reducible apply State.eccDrop_kept)
    | (with_reducible apply State.giveUp_kept)
    | (with_reducible apply State.sendFrame_kept)
    | (with_reducible apply State.pauseFalls_kept)
    | split
    | (lift_lets; intro x; refine Kept.cut (s := x) ?_ (fun hx => ?_) <;> [subst x; clear_value x])
    | (intro x; refine Kept.cut (s := x) ?_ (fun hx => ?_) <;> [subst x; clear_value x])
    | (lift_lets; intro x; subst x)
    | (intro x; subst x)
    | (intro _)
    | (dsimp only)

theorem State.lpiEnter_kept {s : State} (h_s : Kept T s₀ s) (k : Nat) (hp : Sub 0x7e00000000000000 T) : Kept T s₀ (State.lpiEnter s k) := by
  unfold State.lpiEnter
  try dsimp only
  repeat' first
    | (with_reducible assumption)
    | ((with_reducible refine Sub.trans hp ?_); rfl)
    | ((with_reducible refine Sub.bit hp ?_); decide)
    | ((with_reducible refine Sub.etp hp ?_ ?_) <;> [(first | (simp only [Field.slot, Field.page, Field.key]; omega) | (dsimp only; omega)); rfl])
    | (with_reducible apply State.wr_kept)
    | (with_reducible apply State.count_kept)
    | split
    | (intro _)
    | (dsimp only)

theorem State.lpiForce_kept {s : State} (h_s : Kept T s₀ s)  (hp : Sub 0x7e00000000000000 T) : Kept T s₀ (State.lpiForce s) := by
  unfold State.lpiForce
  try dsimp only
  repeat' first
    | (with_reducible assumption)
    | ((with_reducible refine Sub.trans hp ?_); rfl)
    | ((with_reducible refine Sub.bit hp ?_); decide)
    | (with_reducible apply State.lpiEnter_kept)
    | (with_reducible refine Kept.foldl _ _ ?_ (fun _ _ _ => ?_))
    | (intro _)
    | (dsimp only)

theorem State.lpiWake_kept {s : State} (h_s : Kept T s₀ s) (k : Nat) (hp : Sub 0x7e00000000000000 T) : Kept T s₀ (State.lpiWake s k) := by
  unfold State.lpiWake
  try dsimp only
  repeat' first
    | (with_reducible assumption)
    | ((with_reducible refine Sub.trans hp ?_); rfl)
    | ((with_reducible refine Sub.bit hp ?_); decide)
    | ((with_reducible refine Sub.etp hp ?_ ?_) <;> [(first | (simp only [Field.slot, Field.page, Field.key]; omega) | (dsimp only; omega)); rfl])
    | (with_reducible apply State.wr_kept)
    | split
    | (intro _)
    | (dsimp only)

theorem State.clkClamp_kept {s : State} (h_s : Kept T s₀ s)  (hp : Sub 0x100000000000000 T) : Kept T s₀ (State.clkClamp s) := by
  unfold State.clkClamp
  try dsimp only
  repeat' first
    | (with_reducible assumption)
    | ((with_reducible refine Sub.trans hp ?_); rfl)
    | ((with_reducible refine Sub.bit hp ?_); decide)
    | (with_reducible apply State.wr_kept)
    | (intro _)
    | (dsimp only)

theorem State.speedStep_kept {s : State} (h_s : Kept T s₀ s) (load100 : Nat) (load1 : Nat) (hp : Sub 0x100000000000000 T) : Kept T s₀ (State.speedStep s load100 load1) := by
  unfold State.speedStep
  try dsimp only
  repeat' first
    | (with_reducible assumption)
    | ((with_reducible refine Sub.trans hp ?_); rfl)
    | ((with_reducible refine Sub.bit hp ?_); decide)
    | (with_reducible apply State.clkClamp_kept)
    | (with_reducible apply State.wr_kept)
    | split
    | (lift_lets; intro x; refine Kept.cut (s := x) ?_ (fun hx => ?_) <;> [subst x; clear_value x])
    | (intro x; refine Kept.cut (s := x) ?_ (fun hx => ?_) <;> [subst x; clear_value x])
    | (lift_lets; intro x; subst x)
    | (intro x; subst x)
    | (intro _)
    | (dsimp only)

theorem State.mdioStart_kept {s : State} (h_s : Kept T s₀ s) (op : Nat) (c45 : Bool) (phy : Nat) (reg : Nat) (hp : Sub 0x100000001000002 T) : Kept T s₀ (State.mdioStart s op c45 phy reg) := by
  unfold State.mdioStart
  try dsimp only
  repeat' first
    | (with_reducible assumption)
    | ((with_reducible refine Sub.trans hp ?_); rfl)
    | ((with_reducible refine Sub.bit hp ?_); decide)
    | (with_reducible apply State.wr_kept)
    | (with_reducible apply State.emit_kept)
    | (fail_if_no_progress ((with_reducible refine Kept.mkOther ?_ ?_ ?_ (fun q hq => ?_)) <;> [skip; exact rfl; exact rfl; (cases q <;> first | with_reducible exact rfl | exact fun f _ => State.rd_congr rfl f | exact absurd (Sub.bit hp rfl) hq)]))
    | split
    | (intro _)
    | (dsimp only)

theorem State.mdioEnd_kept {s : State} (h_s : Kept T s₀ s) (data : Nat) (hp : Sub 0x100020000000002 T) : Kept T s₀ (State.mdioEnd s data) := by
  unfold State.mdioEnd
  try dsimp only
  repeat' first
    | (with_reducible assumption)
    | ((with_reducible refine Sub.trans hp ?_); rfl)
    | ((with_reducible refine Sub.bit hp ?_); decide)
    | (with_reducible apply State.wr_kept)
    | (with_reducible apply State.notice_kept)
    | split
    | (lift_lets; intro x; refine Kept.cut (s := x) ?_ (fun hx => ?_) <;> [subst x; clear_value x])
    | (intro x; refine Kept.cut (s := x) ?_ (fun hx => ?_) <;> [subst x; clear_value x])
    | (lift_lets; intro x; subst x)
    | (intro x; subst x)
    | (intro _)
    | (dsimp only)

theorem State.mdioCommand_kept {s : State} (h_s : Kept T s₀ s) (w : Nat) (hp : Sub 0x100000001000002 T) : Kept T s₀ (State.mdioCommand s w) := by
  unfold State.mdioCommand
  try dsimp only
  repeat' first
    | (with_reducible assumption)
    | ((with_reducible refine Sub.trans hp ?_); rfl)
    | ((with_reducible refine Sub.bit hp ?_); decide)
    | (with_reducible apply State.mdioStart_kept)
    | (intro _)
    | (dsimp only)

theorem State.swfStart_kept {s : State} (h_s : Kept T s₀ s)  (hp : Sub 0x1000000 T) : Kept T s₀ (State.swfStart s) := by
  unfold State.swfStart
  try dsimp only
  repeat' first
    | (with_reducible assumption)
    | ((with_reducible refine Sub.trans hp ?_); rfl)
    | ((with_reducible refine Sub.bit hp ?_); decide)
    | (fail_if_no_progress ((with_reducible refine Kept.mkOther ?_ ?_ ?_ (fun q hq => ?_)) <;> [skip; exact rfl; exact rfl; (cases q <;> first | with_reducible exact rfl | exact fun f _ => State.rd_congr rfl f | exact absurd (Sub.bit hp rfl) hq)]))
    | (intro _)
    | (dsimp only)

theorem State.linksDown_kept {s : State} (h_s : Kept T s₀ s)  (hp : Sub 0x7e00020001000002 T) : Kept T s₀ (State.linksDown s) := by
  unfold State.linksDown
  try dsimp only
  repeat' first
    | (with_reducible assumption)
    | ((with_reducible refine Sub.trans hp ?_); rfl)
    | ((with_reducible refine Sub.bit hp ?_); decide)
    | (with_reducible apply State.setLink_kept)
    | (with_reducible refine Kept.foldl _ _ ?_ (fun _ _ _ => ?_))
    | (lift_lets; intro x; refine Kept.cut (s := x) ?_ (fun hx => ?_) <;> [subst x; clear_value x])
    | (intro x; refine Kept.cut (s := x) ?_ (fun hx => ?_) <;> [subst x; clear_value x])
    | (lift_lets; intro x; subst x)
    | (intro x; subst x)
    | (intro _)
    | (dsimp only)

theorem State.onPort_kept {s : State} (h_s : Kept T s₀ s) (k : Nat) (f : State → State) (h_f : ∀ s, Kept T s₀ s → Kept T s₀ (f s)) (hp : Sub 0x400000000 T) : Kept T s₀ (State.onPort s k f) := by
  unfold State.onPort
  try dsimp only
  repeat' first
    | (with_reducible assumption)
    | ((with_reducible refine Sub.trans hp ?_); rfl)
    | ((with_reducible refine Sub.bit hp ?_); decide)
    | (with_reducible apply State.working_kept)
    | (with_reducible apply h_f)
    | (lift_lets; intro x; refine Kept.cut (s := x) ?_ (fun hx => ?_) <;> [subst x; clear_value x])
    | (intro x; refine Kept.cut (s := x) ?_ (fun hx => ?_) <;> [subst x; clear_value x])
    | (lift_lets; intro x; subst x)
    | (intro x; subst x)
    | (intro _)
    | (dsimp only)

theorem State.lpiRx_kept {s : State} (h_s : Kept T s₀ s) (k : Nat) (on : Bool) (hp : Sub 0x7e00000000000000 T) : Kept T s₀ (State.lpiRx s k on) := by
  unfold State.lpiRx
  try dsimp only
  repeat' first
    | (with_reducible assumption)
    | ((with_reducible refine Sub.trans hp ?_); rfl)
    | ((with_reducible refine Sub.bit hp ?_); decide)
    | ((with_reducible refine Sub.etp hp ?_ ?_) <;> [(first | (simp only [Field.slot, Field.page, Field.key]; omega) | (dsimp only; omega)); rfl])
    | (with_reducible apply State.wrB_kept)
    | split
    | (intro _)
    | (dsimp only)

end Sys2Proof.Machine
end

