-- ==== Sys2Proof/Laws/KeepHdm.lean ====
section
/-! SUPPORT. What the operations of Machine/Hdm.lean keep. -/

set_option Elab.async false
set_option linter.unusedTactic false
set_option linter.unreachableTactic false
set_option linter.unusedVariables false

namespace Sys2Proof.Machine

variable {T : Nat → Prop} {s₀ : State}

theorem State.moderate_kept {s : State} (h_s : Kept T s₀ s) (tx : Bool) (r : Nat) (hp : Sub 0x8000020002000002 T) : Kept T s₀ (State.moderate s tx r) := by
  unfold State.moderate
  try dsimp only
  repeat' first
    | (with_reducible assumption)
    | ((with_reducible refine Sub.trans hp ?_); rfl)
    | ((with_reducible refine Sub.bit hp ?_); decide)
    | ((with_reducible refine Sub.bitEq hp (j := 63) ?_ ?_) <;> [(first | (simp only [Field.slot, Field.page, Field.key]; omega) | rfl); rfl])
    | ((with_reducible refine Sub.bit hp ?_); rfl)
    | (with_reducible apply State.noticeIf_kept)
    | (fail_if_no_progress ((with_reducible refine Kept.mkOther ?_ ?_ ?_ (fun q hq => ?_)) <;> [skip; exact rfl; exact rfl; (cases q <;> first | with_reducible exact rfl | exact fun f _ => State.rd_congr rfl f | exact absurd (Sub.bit hp rfl) hq)]))
    | split
    | (lift_lets; intro x; refine Kept.cut (s := x) ?_ (fun hx => ?_) <;> [subst x; clear_value x])
    | (intro x; refine Kept.cut (s := x) ?_ (fun hx => ?_) <;> [subst x; clear_value x])
    | (lift_lets; intro x; subst x)
    | (intro x; subst x)
    | (intro _)
    | (dsimp only)

theorem State.txComplete_kept {s : State} (h_s : Kept T s₀ s) (r : Nat) (n : Nat) (err : Nat) (hp : Sub 0x8000020002000002 T) : Kept T s₀ (State.txComplete s r n err) := by
  unfold State.txComplete
  try dsimp only
  repeat' first
    | (with_reducible assumption)
    | ((with_reducible refine Sub.trans hp ?_); rfl)
    | ((with_reducible refine Sub.bit hp ?_); decide)
    | ((with_reducible refine Sub.bitEq hp (j := 63) ?_ ?_) <;> [(first | (simp only [Field.slot, Field.page, Field.key]; omega) | rfl); rfl])
    | ((with_reducible refine Sub.bit hp ?_); rfl)
    | (with_reducible apply State.emit_kept)
    | (with_reducible apply State.wr_kept)
    | (with_reducible apply State.moderate_kept)
    | (with_reducible refine Kept.foldl _ _ ?_ (fun _ _ _ => ?_))
    | (lift_lets; intro x; refine Kept.cut (s := x) ?_ (fun hx => ?_) <;> [subst x; clear_value x])
    | (intro x; refine Kept.cut (s := x) ?_ (fun hx => ?_) <;> [subst x; clear_value x])
    | (lift_lets; intro x; subst x)
    | (intro x; subst x)
    | (intro _)
    | (dsimp only)

theorem State.hdmTx_kept {s : State} (h_s : Kept T s₀ s) (r : Nat) (descs : List TxDesc) (data : List Nat) (readErr : Bool) (hp : Sub 0x44fff00120107007c12 T) : Kept T s₀ (State.hdmTx s r descs data readErr) := by
  unfold State.hdmTx
  try dsimp only
  repeat' first
    | (with_reducible assumption)
    | ((with_reducible refine Sub.trans hp ?_); rfl)
    | ((with_reducible refine Sub.bit hp ?_); decide)
    | ((with_reducible refine Sub.bitEq hp (j := 63) ?_ ?_) <;> [(first | (simp only [Field.slot, Field.page, Field.key]; omega) | rfl); rfl])
    | ((with_reducible refine Sub.etp hp ?_ ?_) <;> [(first | (simp only [Field.slot, Field.page, Field.key]; omega) | (dsimp only; omega)); rfl])
    | ((with_reducible refine Sub.bit hp ?_); rfl)
    | (with_reducible apply State.take_kept)
    | (with_reducible apply State.txComplete_kept)
    | (with_reducible apply State.count_kept)
    | (with_reducible apply State.notice_kept)
    | (with_reducible apply State.giveUp_kept)
    | (with_reducible apply State.learn_kept)
    | (with_reducible apply State.swEnqueue_kept)
    | (with_reducible refine Kept.foldl _ _ ?_ (fun _ _ _ => ?_))
    | split
    | (lift_lets; intro x; refine Kept.cut (s := x) ?_ (fun hx => ?_) <;> [subst x; clear_value x])
    | (intro x; refine Kept.cut (s := x) ?_ (fun hx => ?_) <;> [subst x; clear_value x])
    | (lift_lets; intro x; subst x)
    | (intro x; subst x)
    | (intro _)
    | (dsimp only)

theorem State.rxFill_kept {s : State} (h_s : Kept T s₀ s) (r size index : Nat) (first : Bool) (f : SwFrame) (data l : List Nat) (hp : Sub 0x44c0000020104003002 T := by first | exact Sub.trans (by assumption) rfl | exact Sub.all (by assumption)) :
    Kept T s₀ (s.rxFill r size index first f data l) := by
  induction l generalizing s index first data with
  | nil => exact h_s
  | cons b t ih => exact ih (State.emit_kept h_s _) _ _ _

theorem State.hostDequeue_kept {s : State} (h_s : Kept T s₀ s) (r : Nat) (rest : List SwFrame) (hp : Sub 0x7e00000001000002 T) : Kept T s₀ (State.hostDequeue s r rest) := by
  unfold State.hostDequeue
  try dsimp only
  repeat' first
    | (with_reducible assumption)
    | ((with_reducible refine Sub.trans hp ?_); rfl)
    | ((with_reducible refine Sub.bit hp ?_); decide)
    | ((with_reducible refine Sub.bit hp ?_); rfl)
    | (with_reducible apply State.setSwQueue_kept)
    | (with_reducible apply State.pauseFalls_kept)
    | (intro _)
    | (dsimp only)

theorem State.hdmRx_kept {s : State} (h_s : Kept T s₀ s) (r : Nat) (bufs : List Nat) (ecc : Nat) (hp : Sub 0x44cff00020107003006 T) : Kept T s₀ (State.hdmRx s r bufs ecc) := by
  unfold State.hdmRx
  try dsimp only
  repeat' first
    | (with_reducible assumption)
    | ((with_reducible refine Sub.trans hp ?_); rfl)
    | ((with_reducible refine Sub.bit hp ?_); decide)
    | ((with_reducible refine Sub.bitEq hp (j := 63) ?_ ?_) <;> [(first | (simp only [Field.slot, Field.page, Field.key]; omega) | rfl); rfl])
    | ((with_reducible refine Sub.bit hp ?_); rfl)
    | (with_reducible apply State.hostDequeue_kept)
    | (with_reducible apply State.count_kept)
    | (with_reducible apply State.notice_kept)
    | (with_reducible apply State.eccDrop_kept)
    | (with_reducible apply State.take_kept)
    | (with_reducible apply State.rxFill_kept)
    | (with_reducible apply State.wr_kept)
    | (with_reducible apply State.moderate_kept)
    | split
    | (lift_lets; intro x; refine Kept.cut (s := x) ?_ (fun hx => ?_) <;> [subst x; clear_value x])
    | (intro x; refine Kept.cut (s := x) ?_ (fun hx => ?_) <;> [subst x; clear_value x])
    | (lift_lets; intro x; subst x)
    | (intro x; subst x)
    | (intro _)
    | (dsimp only)

theorem State.ringSizeWrite_kept {s : State} (h_s : Kept T s₀ s) (size : Field) (head : Field) (v : Nat) (hp : Sub 0x8000020000000002 T) (hf_size : T size.slot) (hf_head : T head.slot) : Kept T s₀ (State.ringSizeWrite s size head v) := by
  unfold State.ringSizeWrite
  try dsimp only
  repeat' first
    | (with_reducible assumption)
    | ((with_reducible refine Sub.trans hp ?_); rfl)
    | ((with_reducible refine Sub.bit hp ?_); decide)
    | ((with_reducible refine Sub.bit hp ?_); rfl)
    | (with_reducible apply State.notice_kept)
    | (with_reducible apply State.wr_kept)
    | (with_reducible apply State.noticeIf_kept)
    | split
    | (lift_lets; intro x; refine Kept.cut (s := x) ?_ (fun hx => ?_) <;> [subst x; clear_value x])
    | (intro x; refine Kept.cut (s := x) ?_ (fun hx => ?_) <;> [subst x; clear_value x])
    | (lift_lets; intro x; subst x)
    | (intro x; subst x)
    | (intro _)
    | (dsimp only)

theorem State.hdmEnable_kept {s : State} (h_s : Kept T s₀ s) (en : Bool) (hp : Sub 0x8000000002000000 T) : Kept T s₀ (State.hdmEnable s en) := by
  unfold State.hdmEnable
  try dsimp only
  repeat' first
    | (with_reducible assumption)
    | ((with_reducible refine Sub.trans hp ?_); rfl)
    | ((with_reducible refine Sub.bit hp ?_); decide)
    | ((with_reducible refine Sub.bitEq hp (j := 63) ?_ ?_) <;> [(first | (simp only [Field.slot, Field.page, Field.key]; omega) | rfl); rfl])
    | ((with_reducible refine Sub.bit hp ?_); rfl)
    | (with_reducible apply State.wrB_kept)
    | (with_reducible apply State.wr_kept)
    | (with_reducible refine Kept.foldl _ _ ?_ (fun _ _ _ => ?_))
    | (fail_if_no_progress ((with_reducible refine Kept.mkOther ?_ ?_ ?_ (fun q hq => ?_)) <;> [skip; exact rfl; exact rfl; (cases q <;> first | with_reducible exact rfl | exact fun f _ => State.rd_congr rfl f | exact absurd (Sub.bit hp rfl) hq)]))
    | split
    | (lift_lets; intro x; refine Kept.cut (s := x) ?_ (fun hx => ?_) <;> [subst x; clear_value x])
    | (intro x; refine Kept.cut (s := x) ?_ (fun hx => ?_) <;> [subst x; clear_value x])
    | (lift_lets; intro x; subst x)
    | (intro x; subst x)
    | (intro _)
    | (dsimp only)

theorem State.dmaError_kept {s : State} (h_s : Kept T s₀ s)  (hp : Sub 0x8000020002000002 T) : Kept T s₀ (State.dmaError s) := by
  unfold State.dmaError
  try dsimp only
  repeat' first
    | (with_reducible assumption)
    | ((with_reducible refine Sub.trans hp ?_); rfl)
    | ((with_reducible refine Sub.bit hp ?_); decide)
    | ((with_reducible refine Sub.bit hp ?_); rfl)
    | (with_reducible apply State.notice_kept)
    | (fail_if_no_progress ((with_reducible refine Kept.mkOther ?_ ?_ ?_ (fun q hq => ?_)) <;> [skip; exact rfl; exact rfl; (cases q <;> first | with_reducible exact rfl | exact fun f _ => State.rd_congr rfl f | exact absurd (Sub.bit hp rfl) hq)]))
    | (intro _)
    | (dsimp only)

theorem State.modExpire_kept {s : State} (h_s : Kept T s₀ s) (tx : Bool) (r : Nat) (hp : Sub 0x8000020002000002 T) : Kept T s₀ (State.modExpire s tx r) := by
  unfold State.modExpire
  try dsimp only
  repeat' first
    | (with_reducible assumption)
    | ((with_reducible refine Sub.trans hp ?_); rfl)
    | ((with_reducible refine Sub.bit hp ?_); decide)
    | ((with_reducible refine Sub.bitEq hp (j := 63) ?_ ?_) <;> [(first | (simp only [Field.slot, Field.page, Field.key]; omega) | rfl); rfl])
    | ((with_reducible refine Sub.bit hp ?_); rfl)
    | (with_reducible apply State.notice_kept)
    | (fail_if_no_progress ((with_reducible refine Kept.mkOther ?_ ?_ ?_ (fun q hq => ?_)) <;> [skip; exact rfl; exact rfl; (cases q <;> first | with_reducible exact rfl | exact fun f _ => State.rd_congr rfl f | exact absurd (Sub.bit hp rfl) hq)]))
    | split
    | (lift_lets; intro x; refine Kept.cut (s := x) ?_ (fun hx => ?_) <;> [subst x; clear_value x])
    | (intro x; refine Kept.cut (s := x) ?_ (fun hx => ?_) <;> [subst x; clear_value x])
    | (lift_lets; intro x; subst x)
    | (intro x; subst x)
    | (intro _)
    | (dsimp only)

theorem State.forgetPage_kept {s : State} (h_s : Kept T s₀ s) (p : Nat) (hp : ∀ i, T i) : Kept T s₀ (State.forgetPage s p) := by
  unfold State.forgetPage
  try dsimp only
  repeat' first
    | (with_reducible assumption)
    | (with_reducible exact Sub.all hp)
    | (with_reducible exact hp)
    | (with_reducible exact hp _)
    | (with_reducible apply State.forgetRegs_kept)
    | (lift_lets; intro x; refine Kept.cut (s := x) ?_ (fun hx => ?_) <;> [subst x; clear_value x])
    | (intro x; refine Kept.cut (s := x) ?_ (fun hx => ?_) <;> [subst x; clear_value x])
    | (lift_lets; intro x; subst x)
    | (intro x; subst x)
    | (intro _)
    | (dsimp only)

theorem State.hdmReset_kept {s : State} (h_s : Kept T s₀ s)  (hp : ∀ i, T i) : Kept T s₀ (State.hdmReset s) := by
  unfold State.hdmReset
  try dsimp only
  repeat' first
    | (with_reducible assumption)
    | (with_reducible exact Sub.all hp)
    | (with_reducible exact hp)
    | (with_reducible exact hp _)
    | (with_reducible apply State.setSwQueue_kept)
    | (with_reducible apply State.forgetPage_kept)
    | (with_reducible apply State.count_kept)
    | (with_reducible apply State.pauseFalls_kept)
    | (with_reducible refine Kept.foldl _ _ ?_ (fun _ _ _ => ?_))
    | (fail_if_no_progress ((with_reducible refine Kept.mkOther ?_ ?_ ?_ (fun q hq => absurd (hp _) hq)) <;> [skip; exact rfl; exact rfl]))
    | (lift_lets; intro x; refine Kept.cut (s := x) ?_ (fun hx => ?_) <;> [subst x; clear_value x])
    | (intro x; refine Kept.cut (s := x) ?_ (fun hx => ?_) <;> [subst x; clear_value x])
    | (lift_lets; intro x; subst x)
    | (intro x; subst x)
    | (intro _)
    | (dsimp only)

end Sys2Proof.Machine
end

