-- ==== Sys2Proof/Laws/KeepSieve.lean ====
section
/-! SUPPORT. What the operations of Machine/Sieve.lean keep. -/

set_option Elab.async false
set_option linter.unusedTactic false
set_option linter.unreachableTactic false
set_option linter.unusedVariables false

namespace Sys2Proof.Machine

variable {T : Nat → Prop} {s₀ : State}

theorem State.sivRecord_kept {s : State} (h_s : Kept T s₀ s) (code : Nat) (p0 : Nat) (p1 : Nat) (p2 : Nat) (p3 : Nat) (hp : Sub 0x4440000020100003002 T) : Kept T s₀ (State.sivRecord s code p0 p1 p2 p3) := by
  unfold State.sivRecord
  try dsimp only
  repeat' first
    | (with_reducible assumption)
    | ((with_reducible refine Sub.trans hp ?_); rfl)
    | ((with_reducible refine Sub.bit hp ?_); decide)
    | (with_reducible apply State.silt_kept)
    | (with_reducible apply State.slqPush_kept)
    | split
    | (lift_lets; intro x; refine Kept.cut (s := x) ?_ (fun hx => ?_) <;> [subst x; clear_value x])
    | (intro x; refine Kept.cut (s := x) ?_ (fun hx => ?_) <;> [subst x; clear_value x])
    | (lift_lets; intro x; subst x)
    | (intro x; subst x)
    | (intro _)
    | (dsimp only)

theorem State.sivReport_kept {s : State} (h_s : Kept T s₀ s) (f : SivFailure) (source : Nat) (fails : Nat) (hp : Sub 0x4c40000020100003002 T) : Kept T s₀ (State.sivReport s f source fails) := by
  unfold State.sivReport
  try dsimp only
  repeat' first
    | (with_reducible assumption)
    | ((with_reducible refine Sub.trans hp ?_); rfl)
    | ((with_reducible refine Sub.bit hp ?_); decide)
    | (with_reducible refine State.wrAll_nil_kept ?_)
    | (with_reducible refine State.wrAll_cons_kept ?_)
    | (with_reducible refine State.wrAll_kept ?_ _ ?_ ?_)
    | (with_reducible apply State.wr_kept)
    | (with_reducible apply State.publish_kept)
    | (with_reducible apply State.sivRecord_kept)
    | split
    | (lift_lets; intro x; refine Kept.cut (s := x) ?_ (fun hx => ?_) <;> [subst x; clear_value x])
    | (intro x; refine Kept.cut (s := x) ?_ (fun hx => ?_) <;> [subst x; clear_value x])
    | (lift_lets; intro x; subst x)
    | (intro x; subst x)
    | (intro _)
    | (dsimp only)

theorem State.sivNewRound_kept {s : State} (h_s : Kept T s₀ s)  (hp : Sub 0x20000000 T) : Kept T s₀ (State.sivNewRound s) := by
  unfold State.sivNewRound
  try dsimp only
  repeat' first
    | (with_reducible assumption)
    | ((with_reducible refine Sub.trans hp ?_); rfl)
    | ((with_reducible refine Sub.bit hp ?_); decide)
    | (fail_if_no_progress ((with_reducible refine Kept.mkOther ?_ ?_ ?_ (fun q hq => ?_)) <;> [skip; exact rfl; exact rfl; (cases q <;> first | with_reducible exact rfl | exact fun f _ => State.rd_congr rfl f | exact absurd (Sub.bit hp rfl) hq)]))
    | (intro _)
    | (dsimp only)

theorem State.sivRoundEnd_kept {s : State} (h_s : Kept T s₀ s) (limit : Bool) (hp : Sub 0x4c40000020120003006 T) : Kept T s₀ (State.sivRoundEnd s limit) := by
  unfold State.sivRoundEnd
  try dsimp only
  repeat' first
    | (with_reducible assumption)
    | ((with_reducible refine Sub.trans hp ?_); rfl)
    | ((with_reducible refine Sub.bit hp ?_); decide)
    | (with_reducible apply State.draw_kept)
    | (with_reducible apply State.draw_pair (by assumption))
    | (with_reducible refine State.wrAll_nil_kept ?_)
    | (with_reducible refine State.wrAll_cons_kept ?_)
    | (with_reducible refine State.wrAll_kept ?_ _ ?_ ?_)
    | (with_reducible apply State.wr_kept)
    | (with_reducible apply State.publish_kept)
    | (with_reducible apply State.notice_kept)
    | (with_reducible apply State.noticeIf_kept)
    | (with_reducible apply State.sivRecord_kept)
    | (with_reducible apply State.sivNewRound_kept)
    | split
    | (lift_lets; intro x; refine Kept.cut (s := x) ?_ (fun hx => ?_) <;> [subst x; clear_value x])
    | (intro x; refine Kept.cut (s := x) ?_ (fun hx => ?_) <;> [subst x; clear_value x])
    | (lift_lets; intro x; subst x)
    | (intro x; subst x)
    | (intro _)
    | (dsimp only)

theorem State.sivRoundCheck_kept {s : State} (h_s : Kept T s₀ s)  (hp : Sub 0x4c40000020120003006 T) : Kept T s₀ (State.sivRoundCheck s) := by
  unfold State.sivRoundCheck
  try dsimp only
  repeat' first
    | (with_reducible assumption)
    | ((with_reducible refine Sub.trans hp ?_); rfl)
    | ((with_reducible refine Sub.bit hp ?_); decide)
    | (with_reducible apply State.sivRoundEnd_kept)
    | split
    | (intro _)
    | (dsimp only)

theorem State.sivHold_kept {s : State} (h_s : Kept T s₀ s) (id : Nat) (hp : Sub 0x100020000c00002 T) : Kept T s₀ (State.sivHold s id) := by
  unfold State.sivHold
  try dsimp only
  repeat' first
    | (with_reducible assumption)
    | ((with_reducible refine Sub.trans hp ?_); rfl)
    | ((with_reducible refine Sub.bit hp ?_); decide)
    | (with_reducible apply State.bufLow_kept)
    | (fail_if_no_progress ((with_reducible refine Kept.mkOther ?_ ?_ ?_ (fun q hq => ?_)) <;> [skip; exact rfl; exact rfl; (cases q <;> first | with_reducible exact rfl | exact fun f _ => State.rd_congr rfl f | exact absurd (Sub.bit hp rfl) hq)]))
    | split
    | (lift_lets; intro x; refine Kept.cut (s := x) ?_ (fun hx => ?_) <;> [subst x; clear_value x])
    | (intro x; refine Kept.cut (s := x) ?_ (fun hx => ?_) <;> [subst x; clear_value x])
    | (lift_lets; intro x; subst x)
    | (intro x; subst x)
    | (intro _)
    | (dsimp only)

theorem State.sivRelease_kept {s : State} (h_s : Kept T s₀ s) (id : Nat) (hp : Sub 0x430000120100404c12 T) : Kept T s₀ (State.sivRelease s id) := by
  unfold State.sivRelease
  try dsimp only
  repeat' first
    | (with_reducible assumption)
    | ((with_reducible refine Sub.trans hp ?_); rfl)
    | ((with_reducible refine Sub.bit hp ?_); decide)
    | (with_reducible apply State.stampsRelease_kept)
    | (fail_if_no_progress ((with_reducible refine Kept.mkOther ?_ ?_ ?_ (fun q hq => ?_)) <;> [skip; exact rfl; exact rfl; (cases q <;> first | with_reducible exact rfl | exact fun f _ => State.rd_congr rfl f | exact absurd (Sub.bit hp rfl) hq)]))
    | split
    | (intro _)
    | (dsimp only)

theorem State.sliceStart_kept {s : State} (h_s : Kept T s₀ s) (unplaced : List (Nat × Nat)) (hp : Sub 0x100020020c00002 T) : Kept T s₀ (State.sliceStart s unplaced) := by
  unfold State.sliceStart
  try dsimp only
  repeat' first
    | (with_reducible assumption)
    | ((with_reducible refine Sub.trans hp ?_); rfl)
    | ((with_reducible refine Sub.bit hp ?_); decide)
    | (with_reducible apply State.sivHold_kept)
    | (fail_if_no_progress ((with_reducible refine Kept.mkOther ?_ ?_ ?_ (fun q hq => ?_)) <;> [skip; exact rfl; exact rfl; (cases q <;> first | with_reducible exact rfl | exact fun f _ => State.rd_congr rfl f | exact absurd (Sub.bit hp rfl) hq)]))
    | split
    | (lift_lets; intro x; refine Kept.cut (s := x) ?_ (fun hx => ?_) <;> [subst x; clear_value x])
    | (intro x; refine Kept.cut (s := x) ?_ (fun hx => ?_) <;> [subst x; clear_value x])
    | (lift_lets; intro x; subst x)
    | (intro x; subst x)
    | (intro _)
    | (dsimp only)

theorem State.sivAbandon_kept {s : State} (h_s : Kept T s₀ s) (x : SivSlice) (cause : Nat) (hp : Sub 0x4c70000120120407c12 T) : Kept T s₀ (State.sivAbandon s x cause) := by
  unfold State.sivAbandon
  try dsimp only
  repeat' first
    | (with_reducible assumption)
    | ((with_reducible refine Sub.trans hp ?_); rfl)
    | ((with_reducible refine Sub.bit hp ?_); decide)
    | (with_reducible apply State.sivRelease_kept)
    | (with_reducible apply State.count_kept)
    | (with_reducible apply State.notice_kept)
    | (with_reducible apply State.sivRecord_kept)
    | (fail_if_no_progress ((with_reducible refine Kept.mkOther ?_ ?_ ?_ (fun q hq => ?_)) <;> [skip; exact rfl; exact rfl; (cases q <;> first | with_reducible exact rfl | exact fun f _ => State.rd_congr rfl f | exact absurd (Sub.bit hp rfl) hq)]))
    | (lift_lets; intro x; refine Kept.cut (s := x) ?_ (fun hx => ?_) <;> [subst x; clear_value x])
    | (intro x; refine Kept.cut (s := x) ?_ (fun hx => ?_) <;> [subst x; clear_value x])
    | (lift_lets; intro x; subst x)
    | (intro x; subst x)
    | (intro _)
    | (dsimp only)

theorem State.sliceEnd_kept {s : State} (h_s : Kept T s₀ s) (id : Nat) (p : Nat) (found : Nat) (hp : Sub 0x4c70000120120407c16 T) : Kept T s₀ (State.sliceEnd s id p found) := by
  unfold State.sliceEnd
  try dsimp only
  repeat' first
    | (with_reducible assumption)
    | ((with_reducible refine Sub.trans hp ?_); rfl)
    | ((with_reducible refine Sub.bit hp ?_); decide)
    | (with_reducible apply State.sivAbandon_kept)
    | (with_reducible apply State.itgReadError_kept)
    | (with_reducible apply State.sivRelease_kept)
    | (with_reducible apply State.count_kept)
    | (with_reducible apply State.sivReport_kept)
    | (with_reducible apply State.notice_kept)
    | (with_reducible apply State.sivRoundCheck_kept)
    | (fail_if_no_progress ((with_reducible refine Kept.mkOther ?_ ?_ ?_ (fun q hq => ?_)) <;> [skip; exact rfl; exact rfl; (cases q <;> first | with_reducible exact rfl | exact fun f _ => State.rd_congr rfl f | exact absurd (Sub.bit hp rfl) hq)]))
    | split
    | (lift_lets; intro x; refine Kept.cut (s := x) ?_ (fun hx => ?_) <;> [subst x; clear_value x])
    | (intro x; refine Kept.cut (s := x) ?_ (fun hx => ?_) <;> [subst x; clear_value x])
    | (lift_lets; intro x; subst x)
    | (intro x; subst x)
    | (intro _)
    | (dsimp only)

theorem State.sivStop_kept {s : State} (h_s : Kept T s₀ s)  (hp : Sub 0x4c70000120120407c12 T) : Kept T s₀ (State.sivStop s) := by
  unfold State.sivStop
  try dsimp only
  repeat' first
    | (with_reducible assumption)
    | ((with_reducible refine Sub.trans hp ?_); rfl)
    | ((with_reducible refine Sub.bit hp ?_); decide)
    | (with_reducible apply State.sivAbandon_kept)
    | (with_reducible refine Kept.foldl _ _ ?_ (fun _ _ _ => ?_))
    | (lift_lets; intro x; refine Kept.cut (s := x) ?_ (fun hx => ?_) <;> [subst x; clear_value x])
    | (intro x; refine Kept.cut (s := x) ?_ (fun hx => ?_) <;> [subst x; clear_value x])
    | (lift_lets; intro x; subst x)
    | (intro x; subst x)
    | (intro _)
    | (dsimp only)

theorem State.sivRegCfg_kept {s : State} (h_s : Kept T s₀ s) (en : Bool) (destructive : Bool) (hp : Sub 0x4c40000020120003006 T) : Kept T s₀ (State.sivRegCfg s en destructive) := by
  unfold State.sivRegCfg
  try dsimp only
  repeat' first
    | (with_reducible assumption)
    | ((with_reducible refine Sub.trans hp ?_); rfl)
    | ((with_reducible refine Sub.bit hp ?_); decide)
    | (with_reducible apply State.sivRoundCheck_kept)
    | (fail_if_no_progress ((with_reducible refine Kept.mkOther ?_ ?_ ?_ (fun q hq => ?_)) <;> [skip; exact rfl; exact rfl; (cases q <;> first | with_reducible exact rfl | exact fun f _ => State.rd_congr rfl f | exact absurd (Sub.bit hp rfl) hq)]))
    | split
    | (lift_lets; intro x; refine Kept.cut (s := x) ?_ (fun hx => ?_) <;> [subst x; clear_value x])
    | (intro x; refine Kept.cut (s := x) ?_ (fun hx => ?_) <;> [subst x; clear_value x])
    | (lift_lets; intro x; subst x)
    | (intro x; subst x)
    | (intro _)
    | (dsimp only)

theorem State.forgetWindow_kept {s : State} (h_s : Kept T s₀ s) (p : Nat) (hp : Sub 0x1 T := by first | exact Sub.trans (by assumption) rfl | exact Sub.all (by assumption)) : Kept T s₀ (State.forgetWindow s p) :=
  h_s.of rfl (le_refl _) (List.prefix_refl _) (fun k => ⟨k.regs, Memory.wf_filter _ k.win, k.intake, k.log, k.lrp, k.pcie, k.frames, k.queue⟩) (fun q hq => by cases q <;> first | exact rfl | exact fun f _ => State.rd_congr rfl f | exact absurd (Sub.bit hp rfl) hq)

theorem State.sivClearRegion_kept {s : State} (h_s : Kept T s₀ s) (id : Nat) (hp : Sub 0x11ef001 T) : Kept T s₀ (State.sivClearRegion s id) := by
  have h1 : Kept T s₀ { s with mac := { s.mac with frameBuf := [] } } :=
    h_s.of rfl (le_refl _) (List.prefix_refl _) (fun k => ⟨k.regs, k.win, k.intake, k.log, k.lrp, k.pcie, by simp, k.queue⟩) (fun q hq => by cases q <;> first | exact rfl | exact fun f _ => State.rd_congr rfl f | exact absurd (Sub.bit hp rfl) hq)
  have h2 : Kept T s₀ { s with mac := s.mac.clear } :=
    h_s.of rfl (le_refl _) (List.prefix_refl _) (fun k => ⟨k.regs, k.win, k.intake, k.log, k.lrp, k.pcie, by simp [MacUnit.clear], by simp [MacUnit.clear]⟩) (fun q hq => by cases q <;> first | exact rfl | exact fun f _ => State.rd_congr rfl f | exact absurd (Sub.bit hp rfl) hq)
  unfold State.sivClearRegion
  repeat' refine iteInduction (motive := Kept T s₀) (fun _ => ?_) (fun _ => ?_)
  · exact h1
  · exact State.forgetWindow_kept h2 _
  · exact h_s.mkOther rfl rfl (fun q hq => by cases q <;> first | exact rfl | exact fun f _ => State.rd_congr rfl f | exact absurd (Sub.bit hp rfl) hq)
  · exact State.forgetWindow_kept (h_s.mkOther rfl rfl (fun q hq => by cases q <;> first | exact rfl | exact fun f _ => State.rd_congr rfl f | exact absurd (Sub.bit hp rfl) hq)) _
  · exact State.forgetWindow_kept (h_s.mkOther rfl rfl (fun q hq => by cases q <;> first | exact rfl | exact fun f _ => State.rd_congr rfl f | exact absurd (Sub.bit hp rfl) hq)) _
  · exact State.forgetWindow_kept (h_s.mkOther rfl rfl (fun q hq => by cases q <;> first | exact rfl | exact fun f _ => State.rd_congr rfl f | exact absurd (Sub.bit hp rfl) hq)) _
  · exact State.forgetWindow_kept h_s _
  · exact h_s.mkOther rfl rfl (fun q hq => by cases q <;> first | exact rfl | exact fun f _ => State.rd_congr rfl f | exact absurd (Sub.bit hp rfl) hq)
  · exact h_s.mkOther rfl rfl (fun q hq => by cases q <;> first | exact rfl | exact fun f _ => State.rd_congr rfl f | exact absurd (Sub.bit hp rfl) hq)
  · exact State.forgetWindow_kept (h_s.mkOther rfl rfl (fun q hq => by cases q <;> first | exact rfl | exact fun f _ => State.rd_congr rfl f | exact absurd (Sub.bit hp rfl) hq)) _
  · exact h_s.mkOther rfl rfl (fun q hq => by cases q <;> first | exact rfl | exact fun f _ => State.rd_congr rfl f | exact absurd (Sub.bit hp rfl) hq)
  · exact h_s

theorem State.resetPage_kept {s : State} (h_s : Kept T s₀ s) (p : Nat) (kept : List Field) (hp : ∀ i, T i) : Kept T s₀ (State.resetPage s p kept) := by
  unfold State.resetPage
  try dsimp only
  repeat' first
    | (with_reducible assumption)
    | (with_reducible exact Sub.all hp)
    | (with_reducible exact hp)
    | (with_reducible exact hp _)
    | (with_reducible apply State.forgetRegs_kept)
    | (lift_lets; intro x; refine Kept.cut (s := x) ?_ (fun hx => ?_) <;> [subst x; clear_value x])
    | (intro x; refine Kept.cut (s := x) ?_ (fun hx => ?_) <;> [subst x; clear_value x])
    | (lift_lets; intro x; subst x)
    | (intro x; subst x)
    | (intro _)
    | (dsimp only)

theorem State.recover_kept {s : State} (h_s : Kept T s₀ s) (id : Nat) (hp : Sub 0x800000000020000000 T) : Kept T s₀ (State.recover s id) := by
  unfold State.recover
  try dsimp only
  repeat' first
    | (with_reducible assumption)
    | ((with_reducible refine Sub.trans hp ?_); rfl)
    | ((with_reducible refine Sub.bit hp ?_); decide)
    | (with_reducible apply State.wr_kept)
    | (fail_if_no_progress ((with_reducible refine Kept.mkOther ?_ ?_ ?_ (fun q hq => ?_)) <;> [skip; exact rfl; exact rfl; (cases q <;> first | with_reducible exact rfl | exact fun f _ => State.rd_congr rfl f | exact absurd (Sub.bit hp rfl) hq)]))
    | split
    | (lift_lets; intro x; refine Kept.cut (s := x) ?_ (fun hx => ?_) <;> [subst x; clear_value x])
    | (intro x; refine Kept.cut (s := x) ?_ (fun hx => ?_) <;> [subst x; clear_value x])
    | (lift_lets; intro x; subst x)
    | (intro x; subst x)
    | (intro _)
    | (dsimp only)

theorem State.clearFailed_kept {s : State} (h_s : Kept T s₀ s) (id : Nat) (hp : Sub 0x800000000020000000 T) : Kept T s₀ (State.clearFailed s id) := by
  unfold State.clearFailed
  try dsimp only
  repeat' first
    | (with_reducible assumption)
    | ((with_reducible refine Sub.trans hp ?_); rfl)
    | ((with_reducible refine Sub.bit hp ?_); decide)
    | (with_reducible apply State.wr_kept)
    | (fail_if_no_progress ((with_reducible refine Kept.mkOther ?_ ?_ ?_ (fun q hq => ?_)) <;> [skip; exact rfl; exact rfl; (cases q <;> first | with_reducible exact rfl | exact fun f _ => State.rd_congr rfl f | exact absurd (Sub.bit hp rfl) hq)]))
    | split
    | (intro _)
    | (dsimp only)

theorem State.sivCommand_kept {s : State} (h_s : Kept T s₀ s) (w : Nat) (hp : Sub 0x800000000020000000 T) : Kept T s₀ (State.sivCommand s w) := by
  unfold State.sivCommand
  try dsimp only
  repeat' first
    | (with_reducible assumption)
    | ((with_reducible refine Sub.trans hp ?_); rfl)
    | ((with_reducible refine Sub.bit hp ?_); decide)
    | (with_reducible apply State.recover_kept)
    | (with_reducible apply State.clearFailed_kept)
    | split
    | (intro _)
    | (dsimp only)

theorem State.recoverDone_kept {s : State} (h_s : Kept T s₀ s) (found : Option SivFailure) (fails : Nat) (hp : Sub 0x4c400000201211ef003 T) : Kept T s₀ (State.recoverDone s found fails) := by
  unfold State.recoverDone
  try dsimp only
  repeat' first
    | (with_reducible assumption)
    | ((with_reducible refine Sub.trans hp ?_); rfl)
    | ((with_reducible refine Sub.bit hp ?_); decide)
    | (with_reducible apply State.recover_kept)
    | (with_reducible apply State.sivClearRegion_kept)
    | (with_reducible apply State.sivReport_kept)
    | (with_reducible apply State.notice_kept)
    | (fail_if_no_progress ((with_reducible refine Kept.mkOther ?_ ?_ ?_ (fun q hq => ?_)) <;> [skip; exact rfl; exact rfl; (cases q <;> first | with_reducible exact rfl | exact fun f _ => State.rd_congr rfl f | exact absurd (Sub.bit hp rfl) hq)]))
    | split
    | (lift_lets; intro x; refine Kept.cut (s := x) ?_ (fun hx => ?_) <;> [subst x; clear_value x])
    | (intro x; refine Kept.cut (s := x) ?_ (fun hx => ?_) <;> [subst x; clear_value x])
    | (lift_lets; intro x; subst x)
    | (intro x; subst x)
    | (intro _)
    | (dsimp only)

theorem State.sivClearRest_kept {s : State} (h_s : Kept T s₀ s)  (hp : Sub 0x1600000 T) : Kept T s₀ (State.sivClearRest s) := by
  unfold State.sivClearRest
  try dsimp only
  repeat' first
    | (with_reducible assumption)
    | ((with_reducible refine Sub.trans hp ?_); rfl)
    | ((with_reducible refine Sub.bit hp ?_); decide)
    | (fail_if_no_progress ((with_reducible refine Kept.mkOther ?_ ?_ ?_ (fun q hq => ?_)) <;> [skip; exact rfl; exact rfl; (cases q <;> first | with_reducible exact rfl | exact fun f _ => State.rd_congr rfl f | exact absurd (Sub.bit hp rfl) hq)]))
    | (lift_lets; intro x; refine Kept.cut (s := x) ?_ (fun hx => ?_) <;> [subst x; clear_value x])
    | (intro x; refine Kept.cut (s := x) ?_ (fun hx => ?_) <;> [subst x; clear_value x])
    | (lift_lets; intro x; subst x)
    | (intro x; subst x)
    | (intro _)
    | (dsimp only)

theorem State.sivClearAll_kept {s : State} (h_s : Kept T s₀ s) (kept : List Field) (hp : ∀ i, T i) : Kept T s₀ (State.sivClearAll s kept) := by
  unfold State.sivClearAll
  try dsimp only
  repeat' first
    | (with_reducible assumption)
    | (with_reducible exact Sub.all hp)
    | (with_reducible exact hp)
    | (with_reducible exact hp _)
    | (with_reducible apply State.sivClearRegion_kept)
    | (with_reducible apply State.resetPage_kept)
    | (with_reducible apply State.sivClearRest_kept)
    | (with_reducible refine Kept.foldl _ _ ?_ (fun _ _ _ => ?_))
    | (lift_lets; intro x; refine Kept.cut (s := x) ?_ (fun hx => ?_) <;> [subst x; clear_value x])
    | (intro x; refine Kept.cut (s := x) ?_ (fun hx => ?_) <;> [subst x; clear_value x])
    | (lift_lets; intro x; subst x)
    | (intro x; subst x)
    | (intro _)
    | (dsimp only)

end Sys2Proof.Machine
end

