-- ==== Sys2Proof/Laws/KeepReads.lean ====
section
/-! SUPPORT. What the operations of Machine/Reads.lean keep. -/

set_option Elab.async false
set_option linter.unusedTactic false
set_option linter.unreachableTactic false
set_option linter.unusedVariables false

namespace Sys2Proof.Machine

variable {T : Nat → Prop} {s₀ : State}

theorem State.readBar2_kept {s : State} (h_s : Kept T s₀ s) (port : Port) (addr : Nat) (hp : Sub 0x4440000020100003002 T := by first | exact Sub.trans (by assumption) rfl | exact Sub.all (by assumption)) : Kept T s₀ (State.readBar2 s port addr).2 := by
  unfold State.readBar2
  try dsimp only
  repeat' first
    | (with_reducible assumption)
    | ((with_reducible refine Sub.trans hp ?_); rfl)
    | ((with_reducible refine Sub.bit hp ?_); decide)
    | (with_reducible apply State.slqRead_kept)
    | (with_reducible apply State.slqRead_pair (by assumption))
    | (with_reducible apply State.slqErr_kept)
    | split
    | (lift_lets; intro x; refine Kept.cut (s := x) ?_ (fun hx => ?_) <;> [subst x; clear_value x])
    | (intro x; refine Kept.cut (s := x) ?_ (fun hx => ?_) <;> [subst x; clear_value x])
    | (lift_lets; intro x; subst x)
    | (intro x; subst x)
    | (intro _)
    | (dsimp only)

theorem State.readBar2_pair {s : State} {port : Port} {addr : Nat} {v_ : Nat} {t_ : State} (q_ : (State.readBar2 s port addr) = (v_, t_)) (h_s : Kept T s₀ s) (hp : Sub 0x4440000020100003002 T := by first | exact Sub.trans (by assumption) rfl | exact Sub.all (by assumption)) : Kept T s₀ t_ := by
  have z := State.readBar2_kept h_s port addr (hp := hp)
  rw [q_] at z
  exact z

theorem State.takeLatch_kept {s : State} (h_s : Kept T s₀ s) (port : Port) (b : ResultBlock) (hp : Sub 0x300 T) : Kept T s₀ (State.takeLatch s port b).2 := by
  unfold State.takeLatch
  try dsimp only
  repeat' first
    | (with_reducible assumption)
    | ((with_reducible refine Sub.trans hp ?_); rfl)
    | ((with_reducible refine Sub.bit hp ?_); decide)
    | (rw [FRESH_slot]; assumption)
    | (with_reducible refine State.setPort_same rfl ?_ ?_)
    | (with_reducible apply State.count_kept)
    | (lift_lets; intro x; refine Kept.cut (s := x) ?_ (fun hx => ?_) <;> [subst x; clear_value x])
    | (intro x; refine Kept.cut (s := x) ?_ (fun hx => ?_) <;> [subst x; clear_value x])
    | (lift_lets; intro x; subst x)
    | (intro x; subst x)
    | (intro _)
    | (dsimp only)

theorem State.takeLatch_pair {s : State} {port : Port} {b : ResultBlock} {v_ : Nat} {t_ : State} (q_ : (State.takeLatch s port b) = (v_, t_)) (h_s : Kept T s₀ s) (hp : Sub 0x300 T) : Kept T s₀ t_ := by
  have z := State.takeLatch_kept h_s port b (hp := hp)
  rw [q_] at z
  exact z

theorem State.readBlock_kept {s : State} (h_s : Kept T s₀ s) (port : Port) (b : ResultBlock) (addr : Nat) (hp : ∀ i, T i) : Kept T s₀ (State.readBlock s port b addr).2 := by
  unfold State.readBlock
  try dsimp only
  repeat' first
    | (with_reducible assumption)
    | (with_reducible exact Sub.all hp)
    | (with_reducible exact hp)
    | (with_reducible exact hp _)
    | (with_reducible apply State.latch_kept)
    | (with_reducible refine State.setPort_same rfl ?_ ?_)
    | (with_reducible apply State.count_kept)
    | (with_reducible apply State.wr_kept)
    | split
    | (lift_lets; intro x; refine Kept.cut (s := x) ?_ (fun hx => ?_) <;> [subst x; clear_value x])
    | (intro x; refine Kept.cut (s := x) ?_ (fun hx => ?_) <;> [subst x; clear_value x])
    | (lift_lets; intro x; subst x)
    | (intro x; subst x)
    | (intro _)
    | (dsimp only)

theorem State.readBlock_pair {s : State} {port : Port} {b : ResultBlock} {addr : Nat} {v_ : Nat} {t_ : State} (q_ : (State.readBlock s port b addr) = (v_, t_)) (h_s : Kept T s₀ s) (hp : ∀ i, T i) : Kept T s₀ t_ := by
  have z := State.readBlock_kept h_s port b addr (hp := hp)
  rw [q_] at z
  exact z

theorem State.readLo_kept {s : State} (h_s : Kept T s₀ s) (port : Port) (addr : Nat) (hp : Sub 0x300 T) : Kept T s₀ (State.readLo s port addr).2 := by
  unfold State.readLo
  try dsimp only
  repeat' first
    | (with_reducible assumption)
    | ((with_reducible refine Sub.trans hp ?_); rfl)
    | ((with_reducible refine Sub.bit hp ?_); decide)
    | (with_reducible refine State.setPort_same rfl ?_ ?_)
    | (lift_lets; intro x; refine Kept.cut (s := x) ?_ (fun hx => ?_) <;> [subst x; clear_value x])
    | (intro x; refine Kept.cut (s := x) ?_ (fun hx => ?_) <;> [subst x; clear_value x])
    | (lift_lets; intro x; subst x)
    | (intro x; subst x)
    | (intro _)
    | (dsimp only)

theorem State.readLo_pair {s : State} {port : Port} {addr : Nat} {v_ : Nat} {t_ : State} (q_ : (State.readLo s port addr) = (v_, t_)) (h_s : Kept T s₀ s) (hp : Sub 0x300 T) : Kept T s₀ t_ := by
  have z := State.readLo_kept h_s port addr (hp := hp)
  rw [q_] at z
  exact z

theorem State.readWinData_kept {s : State} (h_s : Kept T s₀ s) (port : Port) (f : Field) (hp : ∀ i, T i) : Kept T s₀ (State.readWinData s port f).2 := by
  unfold State.readWinData
  try dsimp only
  repeat' first
    | (with_reducible assumption)
    | (with_reducible exact Sub.all hp)
    | (with_reducible exact hp)
    | (with_reducible exact hp _)
    | (with_reducible apply State.readBar2_kept)
    | (with_reducible apply State.readBar2_pair (by assumption))
    | (with_reducible apply State.wr_kept)
    | split
    | (lift_lets; intro x; refine Kept.cut (s := x) ?_ (fun hx => ?_) <;> [subst x; clear_value x])
    | (intro x; refine Kept.cut (s := x) ?_ (fun hx => ?_) <;> [subst x; clear_value x])
    | (lift_lets; intro x; subst x)
    | (intro x; subst x)
    | (intro _)
    | (dsimp only)

theorem State.readWinData_pair {s : State} {port : Port} {f : Field} {v_ : Nat} {t_ : State} (q_ : (State.readWinData s port f) = (v_, t_)) (h_s : Kept T s₀ s) (hp : ∀ i, T i) : Kept T s₀ t_ := by
  have z := State.readWinData_kept h_s port f (hp := hp)
  rw [q_] at z
  exact z

theorem State.clearRc_kept {s : State} (h_s : Kept T s₀ s) (addr : Nat) (hp : ∀ i, T i) : Kept T s₀ (State.clearRc s addr) := by
  unfold State.clearRc
  try dsimp only
  repeat' first
    | (with_reducible assumption)
    | (with_reducible exact Sub.all hp)
    | (with_reducible exact hp)
    | (with_reducible exact hp _)
    | (with_reducible apply State.wr_kept)
    | (with_reducible refine Kept.foldl _ _ ?_ (fun _ _ _ => ?_))
    | (lift_lets; intro x; refine Kept.cut (s := x) ?_ (fun hx => ?_) <;> [subst x; clear_value x])
    | (intro x; refine Kept.cut (s := x) ?_ (fun hx => ?_) <;> [subst x; clear_value x])
    | (lift_lets; intro x; subst x)
    | (intro x; subst x)
    | (intro _)
    | (dsimp only)

theorem State.readReg_kept {s : State} (h_s : Kept T s₀ s) (port : Port) (addr : Nat) (hp : ∀ i, T i) : Kept T s₀ (State.readReg s port addr).2 := by
  unfold State.readReg
  try dsimp only
  repeat' first
    | (with_reducible assumption)
    | (with_reducible exact Sub.all hp)
    | (with_reducible exact hp)
    | (with_reducible exact hp _)
    | (with_reducible apply State.slqRead_kept)
    | (with_reducible apply State.slqRead_pair (by assumption))
    | (with_reducible apply State.readLo_kept)
    | (with_reducible apply State.readLo_pair (by assumption))
    | (with_reducible apply State.readWinData_kept)
    | (with_reducible apply State.readWinData_pair (by assumption))
    | (with_reducible apply State.takeLatch_kept)
    | (with_reducible apply State.takeLatch_pair (by assumption))
    | (with_reducible apply State.readBlock_kept)
    | (with_reducible apply State.readBlock_pair (by assumption))
    | (with_reducible apply State.clearRc_kept)
    | split
    | (intro _)
    | (dsimp only)

theorem State.readReg_pair {s : State} {port : Port} {addr : Nat} {v_ : Nat} {t_ : State} (q_ : (State.readReg s port addr) = (v_, t_)) (h_s : Kept T s₀ s) (hp : ∀ i, T i) : Kept T s₀ t_ := by
  have z := State.readReg_kept h_s port addr (hp := hp)
  rw [q_] at z
  exact z

theorem State.readPort_kept {s : State} (h_s : Kept T s₀ s) (port : Port) (addr : Nat) (hp : ∀ i, T i) : Kept T s₀ (State.readPort s port addr) := by
  unfold State.readPort
  try dsimp only
  repeat' first
    | (with_reducible assumption)
    | (with_reducible exact Sub.all hp)
    | (with_reducible exact hp)
    | (with_reducible exact hp _)
    | (with_reducible apply State.wakePort_kept)
    | (with_reducible apply State.setRead_kept)
    | (with_reducible apply State.readReg_kept)
    | (with_reducible apply State.readReg_pair (by assumption))
    | split
    | (lift_lets; intro x; refine Kept.cut (s := x) ?_ (fun hx => ?_) <;> [subst x; clear_value x])
    | (intro x; refine Kept.cut (s := x) ?_ (fun hx => ?_) <;> [subst x; clear_value x])
    | (lift_lets; intro x; subst x)
    | (intro x; subst x)
    | (intro _)
    | (dsimp only)

end Sys2Proof.Machine
end

