-- ==== Sys2Proof/Laws/KeepTpr.lean ====
section
/-! SUPPORT. What the operations of Machine/Tpr.lean keep. -/

set_option Elab.async false
set_option linter.unusedTactic false
set_option linter.unreachableTactic false
set_option linter.unusedVariables false

namespace Sys2Proof.Machine

variable {T : Nat → Prop} {s₀ : State}

theorem State.haltStart_kept {s : State} (h_s : Kept T s₀ s) (cause : Nat) (hp : Sub 0x400000030100000042 T := by first | exact Sub.trans (by assumption) rfl | exact Sub.all (by assumption)) : Kept T s₀ (State.haltStart s cause) := by
  unfold State.haltStart
  try dsimp only
  repeat' first
    | (with_reducible assumption)
    | ((with_reducible refine Sub.trans hp ?_); rfl)
    | ((with_reducible refine Sub.bit hp ?_); decide)
    | (with_reducible refine State.wrAll_nil_kept ?_)
    | (with_reducible refine State.wrAll_cons_kept ?_)
    | (with_reducible refine State.wrAll_kept ?_ _ ?_ ?_)
    | (with_reducible apply State.wr_kept)
    | (with_reducible apply State.silt_kept)
    | (fail_if_no_progress ((with_reducible refine Kept.mkOther ?_ ?_ ?_ (fun q hq => ?_)) <;> [skip; exact rfl; exact rfl; (cases q <;> first | with_reducible exact rfl | exact fun f _ => State.rd_congr rfl f | exact absurd (Sub.bit hp rfl) hq)]))
    | (lift_lets; intro x; refine Kept.cut (s := x) ?_ (fun hx => ?_) <;> [subst x; clear_value x])
    | (intro x; refine Kept.cut (s := x) ?_ (fun hx => ?_) <;> [subst x; clear_value x])
    | (lift_lets; intro x; subst x)
    | (intro x; subst x)
    | (intro _)
    | (dsimp only)

theorem State.tamperHalt_kept {s : State} (h_s : Kept T s₀ s)  (hp : Sub 0x60000003010000004a T) : Kept T s₀ (State.tamperHalt s) := by
  unfold State.tamperHalt
  try dsimp only
  repeat' first
    | (with_reducible assumption)
    | ((with_reducible refine Sub.trans hp ?_); rfl)
    | ((with_reducible refine Sub.bit hp ?_); decide)
    | (with_reducible apply State.wr_kept)
    | (with_reducible apply State.notice_kept)
    | (with_reducible apply State.noticeIf_kept)
    | (with_reducible apply State.haltStart_kept)
    | (fail_if_no_progress ((with_reducible refine Kept.mkOther ?_ ?_ ?_ (fun q hq => ?_)) <;> [skip; exact rfl; exact rfl; (cases q <;> first | with_reducible exact rfl | exact fun f _ => State.rd_congr rfl f | exact absurd (Sub.bit hp rfl) hq)]))
    | (lift_lets; intro x; refine Kept.cut (s := x) ?_ (fun hx => ?_) <;> [subst x; clear_value x])
    | (intro x; refine Kept.cut (s := x) ?_ (fun hx => ?_) <;> [subst x; clear_value x])
    | (lift_lets; intro x; subst x)
    | (intro x; subst x)
    | (intro _)
    | (dsimp only)

theorem State.tamperErase_kept {s : State} (h_s : Kept T s₀ s)  (hp : Sub 0x700000020108000002 T) : Kept T s₀ (State.tamperErase s) := by
  unfold State.tamperErase
  try dsimp only
  repeat' first
    | (with_reducible assumption)
    | ((with_reducible refine Sub.trans hp ?_); rfl)
    | ((with_reducible refine Sub.bit hp ?_); decide)
    | (with_reducible apply State.wr_kept)
    | (with_reducible apply State.eraseSlots_kept)
    | (with_reducible apply State.notice_kept)
    | (with_reducible apply State.silt_kept)
    | split
    | (intro _)
    | (dsimp only)

theorem State.showAlarm_kept {s : State} (h_s : Kept T s₀ s)  (hp : Sub 0x20000802000000000b T) : Kept T s₀ (State.showAlarm s) := by
  unfold State.showAlarm
  try dsimp only
  repeat' first
    | (with_reducible assumption)
    | ((with_reducible refine Sub.trans hp ?_); rfl)
    | ((with_reducible refine Sub.bit hp ?_); decide)
    | (with_reducible apply State.dptFollow_kept)
    | (with_reducible apply State.wr_kept)
    | (fail_if_no_progress ((with_reducible refine Kept.mkOther ?_ ?_ ?_ (fun q hq => ?_)) <;> [skip; exact rfl; exact rfl; (cases q <;> first | with_reducible exact rfl | exact fun f _ => State.rd_congr rfl f | exact absurd (Sub.bit hp rfl) hq)]))
    | (intro _)
    | (dsimp only)

theorem State.tamperAlarm_kept {s : State} (h_s : Kept T s₀ s)  (hp : Sub 0x60000803010000005b T) : Kept T s₀ (State.tamperAlarm s) := by
  unfold State.tamperAlarm
  try dsimp only
  repeat' first
    | (with_reducible assumption)
    | ((with_reducible refine Sub.trans hp ?_); rfl)
    | ((with_reducible refine Sub.bit hp ?_); decide)
    | (with_reducible apply State.showAlarm_kept)
    | (with_reducible apply State.tamperHalt_kept)
    | (with_reducible apply State.request_kept)
    | split
    | (intro _)
    | (dsimp only)

theorem State.tamperCut_kept {s : State} (h_s : Kept T s₀ s)  (hp : Sub 0x100000000008003004 T) : Kept T s₀ (State.tamperCut s) := by
  unfold State.tamperCut
  try dsimp only
  repeat' first
    | (with_reducible assumption)
    | ((with_reducible refine Sub.trans hp ?_); rfl)
    | ((with_reducible refine Sub.bit hp ?_); decide)
    | (with_reducible apply State.draw_kept)
    | (with_reducible apply State.draw_pair (by assumption))
    | (with_reducible apply State.slotCut_kept)
    | split
    | (lift_lets; intro x; refine Kept.cut (s := x) ?_ (fun hx => ?_) <;> [subst x; clear_value x])
    | (intro x; refine Kept.cut (s := x) ?_ (fun hx => ?_) <;> [subst x; clear_value x])
    | (lift_lets; intro x; subst x)
    | (intro x; subst x)
    | (intro _)
    | (dsimp only)

theorem State.tamperEvent_kept {s : State} (h_s : Kept T s₀ s) (ins : Nat) (mons : Nat) (busy : Bool) (hp : Sub 0x474000803010800305f T) : Kept T s₀ (State.tamperEvent s ins mons busy) := by
  unfold State.tamperEvent
  try dsimp only
  repeat' first
    | (with_reducible assumption)
    | ((with_reducible refine Sub.trans hp ?_); rfl)
    | ((with_reducible refine Sub.bit hp ?_); decide)
    | (with_reducible apply State.tamperCut_kept)
    | (with_reducible apply State.zeroise_kept)
    | (with_reducible refine State.wrAll_nil_kept ?_)
    | (with_reducible refine State.wrAll_cons_kept ?_)
    | (with_reducible refine State.wrAll_kept ?_ _ ?_ ?_)
    | (with_reducible apply State.wr_kept)
    | (with_reducible apply State.countSat_kept)
    | (with_reducible apply State.silt_kept)
    | (with_reducible apply State.tamperErase_kept)
    | (with_reducible apply State.tamperAlarm_kept)
    | split
    | (lift_lets; intro x; refine Kept.cut (s := x) ?_ (fun hx => ?_) <;> [subst x; clear_value x])
    | (intro x; refine Kept.cut (s := x) ?_ (fun hx => ?_) <;> [subst x; clear_value x])
    | (lift_lets; intro x; subst x)
    | (intro x; subst x)
    | (intro _)
    | (dsimp only)

theorem State.withCounts_kept {s : State} (h_s : Kept T s₀ s) (l : List Nat) (hp : Sub 0x10000000 T) : Kept T s₀ (State.withCounts s l) := by
  unfold State.withCounts
  try dsimp only
  repeat' first
    | (with_reducible assumption)
    | ((with_reducible refine Sub.trans hp ?_); rfl)
    | ((with_reducible refine Sub.bit hp ?_); decide)
    | (fail_if_no_progress ((with_reducible refine Kept.mkOther ?_ ?_ ?_ (fun q hq => ?_)) <;> [skip; exact rfl; exact rfl; (cases q <;> first | with_reducible exact rfl | exact fun f _ => State.rd_congr rfl f | exact absurd (Sub.bit hp rfl) hq)]))
    | (intro _)
    | (dsimp only)

theorem State.tamperRound_kept {s : State} (h_s : Kept T s₀ s) (opened : Nat) (hot : Bool) (busy : Bool) (hp : Sub 0x474000803011800305f T) : Kept T s₀ (State.tamperRound s opened hot busy) := by
  unfold State.tamperRound
  try dsimp only
  repeat' first
    | (with_reducible assumption)
    | ((with_reducible refine Sub.trans hp ?_); rfl)
    | ((with_reducible refine Sub.bit hp ?_); decide)
    | (with_reducible apply State.draw_kept)
    | (with_reducible apply State.draw_pair (by assumption))
    | (with_reducible apply State.emit_kept)
    | (with_reducible apply State.withCounts_kept)
    | (with_reducible refine State.wrAll_nil_kept ?_)
    | (with_reducible refine State.wrAll_cons_kept ?_)
    | (with_reducible refine State.wrAll_kept ?_ _ ?_ ?_)
    | (with_reducible apply State.wr_kept)
    | (with_reducible apply State.tamperEvent_kept)
    | split
    | (lift_lets; intro x; refine Kept.cut (s := x) ?_ (fun hx => ?_) <;> [subst x; clear_value x])
    | (intro x; refine Kept.cut (s := x) ?_ (fun hx => ?_) <;> [subst x; clear_value x])
    | (lift_lets; intro x; subst x)
    | (intro x; subst x)
    | (intro _)
    | (dsimp only)

theorem State.monitorTrip_kept {s : State} (h_s : Kept T s₀ s) (m : Nat) (aon : Bool) (busy : Bool) (hp : Sub 0x474000803010800305f T) : Kept T s₀ (State.monitorTrip s m aon busy) := by
  unfold State.monitorTrip
  try dsimp only
  repeat' first
    | (with_reducible assumption)
    | ((with_reducible refine Sub.trans hp ?_); rfl)
    | ((with_reducible refine Sub.bit hp ?_); decide)
    | (with_reducible apply State.wr_kept)
    | (with_reducible apply State.tamperEvent_kept)
    | split
    | (lift_lets; intro x; refine Kept.cut (s := x) ?_ (fun hx => ?_) <;> [subst x; clear_value x])
    | (intro x; refine Kept.cut (s := x) ?_ (fun hx => ?_) <;> [subst x; clear_value x])
    | (lift_lets; intro x; subst x)
    | (intro x; subst x)
    | (intro _)
    | (dsimp only)

theorem State.tprCfg_kept {s : State} (h_s : Kept T s₀ s) (mon : Bool) (w : Nat) (hp : Sub 0x200000020000000002 T) : Kept T s₀ (State.tprCfg s mon w) := by
  unfold State.tprCfg
  try dsimp only
  repeat' first
    | (with_reducible assumption)
    | ((with_reducible refine Sub.trans hp ?_); rfl)
    | ((with_reducible refine Sub.bit hp ?_); decide)
    | (with_reducible apply State.notice_kept)
    | (with_reducible refine State.wrAll_nil_kept ?_)
    | (with_reducible refine State.wrAll_cons_kept ?_)
    | (with_reducible refine State.wrAll_kept ?_ _ ?_ ?_)
    | (with_reducible apply State.wr_kept)
    | split
    | (intro _)
    | (dsimp only)

theorem State.tprClear_kept {s : State} (h_s : Kept T s₀ s) (w : Nat) (hp : Sub 0x200000000000000000 T) : Kept T s₀ (State.tprClear s w) := by
  unfold State.tprClear
  try dsimp only
  repeat' first
    | (with_reducible assumption)
    | ((with_reducible refine Sub.trans hp ?_); rfl)
    | ((with_reducible refine Sub.bit hp ?_); decide)
    | (with_reducible refine State.wrAll_nil_kept ?_)
    | (with_reducible refine State.wrAll_cons_kept ?_)
    | (with_reducible refine State.wrAll_kept ?_ _ ?_ ?_)
    | (with_reducible apply State.wr_kept)
    | split
    | (lift_lets; intro x; refine Kept.cut (s := x) ?_ (fun hx => ?_) <;> [subst x; clear_value x])
    | (intro x; refine Kept.cut (s := x) ?_ (fun hx => ?_) <;> [subst x; clear_value x])
    | (lift_lets; intro x; subst x)
    | (intro x; subst x)
    | (intro _)
    | (dsimp only)

end Sys2Proof.Machine
end

