-- ==== Sys2Proof/Laws/KeepReset.lean ====
section
/-! SUPPORT. What the operations of Machine/Reset.lean keep. -/

set_option Elab.async false
set_option linter.unusedTactic false
set_option linter.unreachableTactic false
set_option linter.unusedVariables false

namespace Sys2Proof.Machine

variable {T : Nat → Prop} {s₀ : State}

theorem State.resumeSpr_kept {s : State} (h_s : Kept T s₀ s)  (hp : Sub 0x8000 T) : Kept T s₀ (State.resumeSpr s) := by
  unfold State.resumeSpr
  try dsimp only
  repeat' first
    | (with_reducible assumption)
    | ((with_reducible refine Sub.trans hp ?_); rfl)
    | ((with_reducible refine Sub.bit hp ?_); decide)
    | (fail_if_no_progress ((with_reducible refine Kept.mkOther ?_ ?_ ?_ (fun q hq => ?_)) <;> [skip; exact rfl; exact rfl; (cases q <;> first | with_reducible exact rfl | exact fun f _ => State.rd_congr rfl f | exact absurd (Sub.bit hp rfl) hq)]))
    | (lift_lets; intro x; refine Kept.cut (s := x) ?_ (fun hx => ?_) <;> [subst x; clear_value x])
    | (intro x; refine Kept.cut (s := x) ?_ (fun hx => ?_) <;> [subst x; clear_value x])
    | (lift_lets; intro x; subst x)
    | (intro x; subst x)
    | (intro _)
    | (dsimp only)

theorem State.resumeHigh_kept {s : State} (h_s : Kept T s₀ s)  (hp : Sub 0x1000000000000 T) : Kept T s₀ (State.resumeHigh s) := by
  unfold State.resumeHigh
  try dsimp only
  repeat' first
    | (with_reducible assumption)
    | ((with_reducible refine Sub.trans hp ?_); rfl)
    | ((with_reducible refine Sub.bit hp ?_); decide)
    | (with_reducible refine State.wrAll_nil_kept ?_)
    | (with_reducible refine State.wrAll_cons_kept ?_)
    | (with_reducible refine State.wrAll_kept ?_ _ ?_ ?_)
    | (with_reducible apply State.wr_kept)
    | (intro _)
    | (dsimp only)

theorem State.resumeCounts_kept {s : State} (h_s : Kept T s₀ s)  (hp : Sub 0x400003900000008000 T) : Kept T s₀ (State.resumeCounts s) := by
  unfold State.resumeCounts
  try dsimp only
  repeat' first
    | (with_reducible assumption)
    | ((with_reducible refine Sub.trans hp ?_); rfl)
    | ((with_reducible refine Sub.bit hp ?_); decide)
    | (with_reducible apply State.siltChanged_kept)
    | (with_reducible apply State.resumeHigh_kept)
    | (with_reducible apply State.wr_kept)
    | (with_reducible apply State.resumeSpr_kept)
    | (lift_lets; intro x; refine Kept.cut (s := x) ?_ (fun hx => ?_) <;> [subst x; clear_value x])
    | (intro x; refine Kept.cut (s := x) ?_ (fun hx => ?_) <;> [subst x; clear_value x])
    | (lift_lets; intro x; subst x)
    | (intro x; subst x)
    | (intro _)
    | (dsimp only)

theorem State.clearIntake_kept {s : State} (h_s : Kept T s₀ s)  (hp : Sub 0x100000000 T) : Kept T s₀ (State.clearIntake s) :=
  h_s.of rfl (le_refl _) (List.prefix_refl _) (fun k => ⟨k.regs, k.win, (Nat.zero_le 64), k.log, k.lrp, k.pcie, k.frames, k.queue⟩) (fun q hq => by cases q <;> first | exact rfl | exact fun f _ => State.rd_congr rfl f | exact absurd (Sub.bit hp rfl) hq)

theorem State.clearPorts_kept {s : State} (h_s : Kept T s₀ s)  (hp : Sub 0x3b0 T) : Kept T s₀ (State.clearPorts s) :=
  h_s.of rfl (le_refl _) (List.prefix_refl _) (fun k => ⟨k.regs, k.win, k.intake, k.log, (Nat.zero_le 64), (Nat.zero_le 64), k.frames, k.queue⟩) (fun q hq => by cases q <;> first | exact rfl | exact fun f _ => State.rd_congr rfl f | exact absurd (Sub.bit hp rfl) hq)

theorem State.clearWindows_kept {s : State} (h_s : Kept T s₀ s)  (hp : Sub 0x1 T) : Kept T s₀ (State.clearWindows s) :=
  h_s.of rfl (le_refl _) (List.prefix_refl _) (fun k => ⟨k.regs, rfl, k.intake, k.log, k.lrp, k.pcie, k.frames, k.queue⟩) (fun q hq => by cases q <;> first | exact rfl | exact fun f _ => State.rd_congr rfl f | exact absurd (Sub.bit hp rfl) hq)

theorem State.clearMac_kept {s : State} (h_s : Kept T s₀ s)  (hp : Sub 0x4000 T) : Kept T s₀ (State.clearMac s) :=
  h_s.of rfl (le_refl _) (List.prefix_refl _) (fun k => ⟨k.regs, k.win, k.intake, k.log, k.lrp, k.pcie, (Nat.zero_le 256), (Nat.zero_le 1024)⟩) (fun q hq => by cases q <;> first | exact rfl | exact fun f _ => State.rd_congr rfl f | exact absurd (Sub.bit hp rfl) hq)

theorem State.resetUnits_kept {s : State} (h_s : Kept T s₀ s)  (hp : Sub 0x1efb77bb1 T) : Kept T s₀ (State.resetUnits s) := by
  unfold State.resetUnits
  try dsimp only
  repeat' first
    | (with_reducible assumption)
    | ((with_reducible refine Sub.trans hp ?_); rfl)
    | ((with_reducible refine Sub.bit hp ?_); decide)
    | (with_reducible apply State.clearWindows_kept)
    | (with_reducible apply State.clearPorts_kept)
    | (with_reducible apply State.clearIntake_kept)
    | (with_reducible apply State.clearMac_kept)
    | (fail_if_no_progress ((with_reducible refine Kept.mkOther ?_ ?_ ?_ (fun q hq => ?_)) <;> [skip; exact rfl; exact rfl; (cases q <;> first | with_reducible exact rfl | exact fun f _ => State.rd_congr rfl f | exact absurd (Sub.bit hp rfl) hq)]))
    | (intro _)
    | (dsimp only)

theorem State.restart_kept {s : State} (h_s : Kept T s₀ s) (kind : StartKind) (runs : Nat) (hp : Sub 0x400000048 T) : Kept T s₀ (State.restart s kind runs) := by
  unfold State.restart
  try dsimp only
  repeat' first
    | (with_reducible assumption)
    | ((with_reducible refine Sub.trans hp ?_); rfl)
    | ((with_reducible refine Sub.bit hp ?_); decide)
    | (fail_if_no_progress ((with_reducible refine Kept.mkOther ?_ ?_ ?_ (fun q hq => ?_)) <;> [skip; exact rfl; exact rfl; (cases q <;> first | with_reducible exact rfl | exact fun f _ => State.rd_congr rfl f | exact absurd (Sub.bit hp rfl) hq)]))
    | split
    | (intro _)
    | (dsimp only)

theorem State.moduleReset_kept {s : State} (h_s : Kept T s₀ s) (kind : StartKind) (cause : Nat) (hp : ∀ i, T i) : Kept T s₀ (State.moduleReset s kind cause) := by
  unfold State.moduleReset
  try dsimp only
  repeat' first
    | (with_reducible assumption)
    | (with_reducible exact Sub.all hp)
    | (with_reducible exact hp)
    | (with_reducible exact hp _)
    | (with_reducible apply State.count_kept)
    | (with_reducible apply State.forgetRegs_kept)
    | (with_reducible apply State.restart_kept)
    | (with_reducible apply State.resetUnits_kept)
    | (with_reducible apply State.resumeCounts_kept)
    | (with_reducible refine State.wrAll_nil_kept ?_)
    | (with_reducible refine State.wrAll_cons_kept ?_)
    | (with_reducible refine State.wrAll_kept ?_ _ ?_ ?_)
    | (with_reducible apply State.wr_kept)
    | (with_reducible apply State.silt_kept)
    | (with_reducible apply State.timeStart_kept)
    | (fail_if_no_progress ((with_reducible refine Kept.mkOther ?_ ?_ ?_ (fun q hq => absurd (hp _) hq)) <;> [skip; exact rfl; exact rfl]))
    | split
    | (lift_lets; intro x; refine Kept.cut (s := x) ?_ (fun hx => ?_) <;> [subst x; clear_value x])
    | (intro x; refine Kept.cut (s := x) ?_ (fun hx => ?_) <;> [subst x; clear_value x])
    | (lift_lets; intro x; subst x)
    | (intro x; subst x)
    | (intro _)
    | (dsimp only)

theorem State.warmReset_kept {s : State} (h_s : Kept T s₀ s) (cause : Nat) (hp : ∀ i, T i) : Kept T s₀ (State.warmReset s cause) := by
  unfold State.warmReset
  try dsimp only
  repeat' first
    | (with_reducible assumption)
    | (with_reducible exact Sub.all hp)
    | (with_reducible exact hp)
    | (with_reducible exact hp _)
    | (with_reducible apply State.moduleReset_kept)
    | (intro _)
    | (dsimp only)

theorem State.intoHold_kept {s : State} (h_s : Kept T s₀ s) (byRequest : Bool) (hp : Sub 0x488000848 T) : Kept T s₀ (State.intoHold s byRequest) := by
  unfold State.intoHold
  try dsimp only
  repeat' first
    | (with_reducible assumption)
    | ((with_reducible refine Sub.trans hp ?_); rfl)
    | ((with_reducible refine Sub.bit hp ?_); decide)
    | (fail_if_no_progress ((with_reducible refine Kept.mkOther ?_ ?_ ?_ (fun q hq => ?_)) <;> [skip; exact rfl; exact rfl; (cases q <;> first | with_reducible exact rfl | exact fun f _ => State.rd_congr rfl f | exact absurd (Sub.bit hp rfl) hq)]))
    | split
    | (intro _)
    | (dsimp only)

theorem State.enterHold_kept {s : State} (h_s : Kept T s₀ s) (byRequest : Bool) (hp : Sub 0x500000050588444bf8 T) : Kept T s₀ (State.enterHold s byRequest) := by
  unfold State.enterHold
  try dsimp only
  repeat' first
    | (with_reducible assumption)
    | ((with_reducible refine Sub.trans hp ?_); rfl)
    | ((with_reducible refine Sub.bit hp ?_); decide)
    | (with_reducible apply State.pasOff_kept)
    | (with_reducible apply State.schSave_kept)
    | (with_reducible apply State.emuSave_kept)
    | (with_reducible apply State.clearPorts_kept)
    | (with_reducible apply State.clearIntake_kept)
    | (with_reducible apply State.intoHold_kept)
    | (with_reducible refine State.wrAll_nil_kept ?_)
    | (with_reducible refine State.wrAll_cons_kept ?_)
    | (with_reducible refine State.wrAll_kept ?_ _ ?_ ?_)
    | (with_reducible apply State.wr_kept)
    | (lift_lets; intro x; refine Kept.cut (s := x) ?_ (fun hx => ?_) <;> [subst x; clear_value x])
    | (intro x; refine Kept.cut (s := x) ?_ (fun hx => ?_) <;> [subst x; clear_value x])
    | (lift_lets; intro x; subst x)
    | (intro x; subst x)
    | (intro _)
    | (dsimp only)

theorem State.saveAbandon_kept {s : State} (h_s : Kept T s₀ s)  (hp : Sub 0x80000000 T) : Kept T s₀ (State.saveAbandon s) := by
  unfold State.saveAbandon
  try dsimp only
  repeat' first
    | (with_reducible assumption)
    | ((with_reducible refine Sub.trans hp ?_); rfl)
    | ((with_reducible refine Sub.bit hp ?_); decide)
    | (fail_if_no_progress ((with_reducible refine Kept.mkOther ?_ ?_ ?_ (fun q hq => ?_)) <;> [skip; exact rfl; exact rfl; (cases q <;> first | with_reducible exact rfl | exact fun f _ => State.rd_congr rfl f | exact absurd (Sub.bit hp rfl) hq)]))
    | split
    | (intro _)
    | (dsimp only)

theorem State.vinRecord_kept {s : State} (h_s : Kept T s₀ s)  (hp : Sub 0x4440000020300003002 T) : Kept T s₀ (State.vinRecord s) := by
  unfold State.vinRecord
  try dsimp only
  repeat' first
    | (with_reducible assumption)
    | ((with_reducible refine Sub.trans hp ?_); rfl)
    | ((with_reducible refine Sub.bit hp ?_); decide)
    | (with_reducible apply State.clearIntake_kept)
    | (with_reducible apply State.siltWrite_kept)
    | split
    | (lift_lets; intro x; refine Kept.cut (s := x) ?_ (fun hx => ?_) <;> [subst x; clear_value x])
    | (intro x; refine Kept.cut (s := x) ?_ (fun hx => ?_) <;> [subst x; clear_value x])
    | (lift_lets; intro x; subst x)
    | (intro x; subst x)
    | (intro _)
    | (dsimp only)

theorem State.vinGone_kept {s : State} (h_s : Kept T s₀ s)  (hp : Sub 0x40 T) : Kept T s₀ (State.vinGone s) := by
  unfold State.vinGone
  try dsimp only
  repeat' first
    | (with_reducible assumption)
    | ((with_reducible refine Sub.trans hp ?_); rfl)
    | ((with_reducible refine Sub.bit hp ?_); decide)
    | (fail_if_no_progress ((with_reducible refine Kept.mkOther ?_ ?_ ?_ (fun q hq => ?_)) <;> [skip; exact rfl; exact rfl; (cases q <;> first | with_reducible exact rfl | exact fun f _ => State.rd_congr rfl f | exact absurd (Sub.bit hp rfl) hq)]))
    | (intro _)
    | (dsimp only)

theorem State.vinStop_kept {s : State} (h_s : Kept T s₀ s)  (hp : Sub 0x5cf00085601e4407c13 T) : Kept T s₀ (State.vinStop s) := by
  unfold State.vinStop
  try dsimp only
  repeat' first
    | (with_reducible assumption)
    | ((with_reducible refine Sub.trans hp ?_); rfl)
    | ((with_reducible refine Sub.bit hp ?_); decide)
    | (with_reducible apply State.resign_kept)
    | (with_reducible apply State.discardHeld_kept)
    | (with_reducible apply State.saveAbandon_kept)
    | (with_reducible apply State.sivStop_kept)
    | (intro _)
    | (dsimp only)

theorem State.vinLoss_kept {s : State} (h_s : Kept T s₀ s)  (hp : Sub 0x5df00085707ec447ffb T) : Kept T s₀ (State.vinLoss s) := by
  unfold State.vinLoss
  try dsimp only
  repeat' first
    | (with_reducible assumption)
    | ((with_reducible refine Sub.trans hp ?_); rfl)
    | ((with_reducible refine Sub.bit hp ?_); decide)
    | (with_reducible apply State.vinStop_kept)
    | (with_reducible apply State.vinRecord_kept)
    | (with_reducible apply State.enterHold_kept)
    | (with_reducible apply State.vinGone_kept)
    | (fail_if_no_progress ((with_reducible refine Kept.mkOther ?_ ?_ ?_ (fun q hq => ?_)) <;> [skip; exact rfl; exact rfl; (cases q <;> first | with_reducible exact rfl | exact fun f _ => State.rd_congr rfl f | exact absurd (Sub.bit hp rfl) hq)]))
    | split
    | (intro _)
    | (dsimp only)

theorem State.vbakLoss_kept {s : State} (h_s : Kept T s₀ s)  (hp : ∀ i, T i) : Kept T s₀ (State.vbakLoss s) := by
  unfold State.vbakLoss
  try dsimp only
  repeat' first
    | (with_reducible assumption)
    | (with_reducible exact Sub.all hp)
    | (with_reducible exact hp)
    | (with_reducible exact hp _)
    | (with_reducible apply State.forgetRegs_kept)
    | (with_reducible apply State.wr_kept)
    | (fail_if_no_progress ((with_reducible refine Kept.mkOther ?_ ?_ ?_ (fun q hq => absurd (hp _) hq)) <;> [skip; exact rfl; exact rfl]))
    | split
    | (lift_lets; intro x; refine Kept.cut (s := x) ?_ (fun hx => ?_) <;> [subst x; clear_value x])
    | (intro x; refine Kept.cut (s := x) ?_ (fun hx => ?_) <;> [subst x; clear_value x])
    | (lift_lets; intro x; subst x)
    | (intro x; subst x)
    | (intro _)
    | (dsimp only)

theorem State.dieHot_kept {s : State} (h_s : Kept T s₀ s) (t : Nat) (hp : Sub 0x400000030100000012 T) : Kept T s₀ (State.dieHot s t) := by
  unfold State.dieHot
  try dsimp only
  repeat' first
    | (with_reducible assumption)
    | ((with_reducible refine Sub.trans hp ?_); rfl)
    | ((with_reducible refine Sub.bit hp ?_); decide)
    | (with_reducible refine State.wrAll_nil_kept ?_)
    | (with_reducible refine State.wrAll_cons_kept ?_)
    | (with_reducible refine State.wrAll_kept ?_ _ ?_ ?_)
    | (with_reducible apply State.wr_kept)
    | (with_reducible apply State.notice_kept)
    | (with_reducible apply State.silt_kept)
    | (fail_if_no_progress ((with_reducible refine Kept.mkOther ?_ ?_ ?_ (fun q hq => ?_)) <;> [skip; exact rfl; exact rfl; (cases q <;> first | with_reducible exact rfl | exact fun f _ => State.rd_congr rfl f | exact absurd (Sub.bit hp rfl) hq)]))
    | split
    | (lift_lets; intro x; refine Kept.cut (s := x) ?_ (fun hx => ?_) <;> [subst x; clear_value x])
    | (intro x; refine Kept.cut (s := x) ?_ (fun hx => ?_) <;> [subst x; clear_value x])
    | (lift_lets; intro x; subst x)
    | (intro x; subst x)
    | (intro _)
    | (dsimp only)

theorem State.watched_kept {s : State} (h_s : Kept T s₀ s) (k : State → State) (h_k : ∀ s, Kept T s₀ s → Kept T s₀ (k s)) (hp : Sub 0x400000000 T) : Kept T s₀ (State.watched s k) := by
  unfold State.watched
  try dsimp only
  repeat' first
    | (with_reducible assumption)
    | ((with_reducible refine Sub.trans hp ?_); rfl)
    | ((with_reducible refine Sub.bit hp ?_); decide)
    | (with_reducible apply State.wakePage_kept)
    | (with_reducible apply h_k)
    | split
    | (intro _)
    | (dsimp only)

theorem State.paInhibit_kept {s : State} (h_s : Kept T s₀ s) (on : Bool) (t : Nat) (hp : Sub 0x400000070100004002 T) : Kept T s₀ (State.paInhibit s on t) := by
  unfold State.paInhibit
  try dsimp only
  repeat' first
    | (with_reducible assumption)
    | ((with_reducible refine Sub.trans hp ?_); rfl)
    | ((with_reducible refine Sub.bit hp ?_); decide)
    | (with_reducible refine State.wrAll_nil_kept ?_)
    | (with_reducible refine State.wrAll_cons_kept ?_)
    | (with_reducible refine State.wrAll_kept ?_ _ ?_ ?_)
    | (with_reducible apply State.wr_kept)
    | (with_reducible apply State.pasOff_kept)
    | (with_reducible apply State.notice_kept)
    | (with_reducible apply State.silt_kept)
    | split
    | (lift_lets; intro x; refine Kept.cut (s := x) ?_ (fun hx => ?_) <;> [subst x; clear_value x])
    | (intro x; refine Kept.cut (s := x) ?_ (fun hx => ?_) <;> [subst x; clear_value x])
    | (lift_lets; intro x; subst x)
    | (intro x; subst x)
    | (intro _)
    | (dsimp only)

theorem State.domainStop_kept {s : State} (h_s : Kept T s₀ s) (d : Nat) (hp : Sub 0x400000000 T) : Kept T s₀ (State.domainStop s d) := by
  unfold State.domainStop
  try dsimp only
  repeat' first
    | (with_reducible assumption)
    | ((with_reducible refine Sub.trans hp ?_); rfl)
    | ((with_reducible refine Sub.bit hp ?_); decide)
    | (fail_if_no_progress ((with_reducible refine Kept.mkOther ?_ ?_ ?_ (fun q hq => ?_)) <;> [skip; exact rfl; exact rfl; (cases q <;> first | with_reducible exact rfl | exact fun f _ => State.rd_congr rfl f | exact absurd (Sub.bit hp rfl) hq)]))
    | split
    | (intro _)
    | (dsimp only)

theorem State.domainsRun_kept {s : State} (h_s : Kept T s₀ s)  (hp : Sub 0x400000000 T) : Kept T s₀ (State.domainsRun s) := by
  unfold State.domainsRun
  try dsimp only
  repeat' first
    | (with_reducible assumption)
    | ((with_reducible refine Sub.trans hp ?_); rfl)
    | ((with_reducible refine Sub.bit hp ?_); decide)
    | (fail_if_no_progress ((with_reducible refine Kept.mkOther ?_ ?_ ?_ (fun q hq => ?_)) <;> [skip; exact rfl; exact rfl; (cases q <;> first | with_reducible exact rfl | exact fun f _ => State.rd_congr rfl f | exact absurd (Sub.bit hp rfl) hq)]))
    | (intro _)
    | (dsimp only)

end Sys2Proof.Machine
end

