-- ==== Sys2Proof/Laws/KeepModes.lean ====
section
/-! SUPPORT. What the operations of Machine/Modes.lean keep. -/

set_option Elab.async false
set_option linter.unusedTactic false
set_option linter.unreachableTactic false
set_option linter.unusedVariables false

namespace Sys2Proof.Machine

variable {T : Nat → Prop} {s₀ : State}

theorem State.reqStat_kept {s : State} (h_s : Kept T s₀ s) (axis : Nat) (blocker : Nat) (result : Nat) (hp : Sub 0x10000000000 T) : Kept T s₀ (State.reqStat s axis blocker result) := by
  unfold State.reqStat
  try dsimp only
  repeat' first
    | (with_reducible assumption)
    | ((with_reducible refine Sub.trans hp ?_); rfl)
    | ((with_reducible refine Sub.bit hp ?_); decide)
    | (with_reducible refine State.wrAll_nil_kept ?_)
    | (with_reducible refine State.wrAll_cons_kept ?_)
    | (with_reducible refine State.wrAll_kept ?_ _ ?_ ?_)
    | (with_reducible apply State.wr_kept)
    | (intro _)
    | (dsimp only)

theorem State.grantStat_kept {s : State} (h_s : Kept T s₀ s) (axis : Nat) (hp : Sub 0x10000000000 T) : Kept T s₀ (State.grantStat s axis) := by
  unfold State.grantStat
  try dsimp only
  repeat' first
    | (with_reducible assumption)
    | ((with_reducible refine Sub.trans hp ?_); rfl)
    | ((with_reducible refine Sub.bit hp ?_); decide)
    | (with_reducible apply State.reqStat_kept)
    | (intro _)
    | (dsimp only)

theorem State.refuseStat_kept {s : State} (h_s : Kept T s₀ s) (v : ModeValue) (blocker : Nat) (hp : Sub 0x400000030100000002 T) : Kept T s₀ (State.refuseStat s v blocker) := by
  unfold State.refuseStat
  try dsimp only
  repeat' first
    | (with_reducible assumption)
    | ((with_reducible refine Sub.trans hp ?_); rfl)
    | ((with_reducible refine Sub.bit hp ?_); decide)
    | (with_reducible apply State.refuseCode_kept)
    | (intro _)
    | (dsimp only)

theorem State.waitStat_kept {s : State} (h_s : Kept T s₀ s) (q : ModeReq) (old : Bool) (blocker : Nat) (hp : Sub 0x30000000022 T) : Kept T s₀ (State.waitStat s q old blocker) := by
  unfold State.waitStat
  try dsimp only
  repeat' first
    | (with_reducible assumption)
    | ((with_reducible refine Sub.trans hp ?_); rfl)
    | ((with_reducible refine Sub.bit hp ?_); decide)
    | (with_reducible apply State.reqStat_kept)
    | (with_reducible apply State.noticeIf_kept)
    | (fail_if_no_progress ((with_reducible refine Kept.mkOther ?_ ?_ ?_ (fun q hq => ?_)) <;> [skip; exact rfl; exact rfl; (cases q <;> first | with_reducible exact rfl | exact fun f _ => State.rd_congr rfl f | exact absurd (Sub.bit hp rfl) hq)]))
    | (intro _)
    | (dsimp only)

theorem State.forced_kept {s : State} (h_s : Kept T s₀ s) (v : ModeValue) (by_ : Nat) (hp : Sub 0x400000020100000002 T) : Kept T s₀ (State.forced s v by_) := by
  unfold State.forced
  try dsimp only
  repeat' first
    | (with_reducible assumption)
    | ((with_reducible refine Sub.trans hp ?_); rfl)
    | ((with_reducible refine Sub.bit hp ?_); decide)
    | (with_reducible apply State.silt_kept)
    | (intro _)
    | (dsimp only)

theorem State.modeChanged_kept {s : State} (h_s : Kept T s₀ s)  (hp : Sub 0x30000000002 T) : Kept T s₀ (State.modeChanged s) := by
  unfold State.modeChanged
  try dsimp only
  repeat' first
    | (with_reducible assumption)
    | ((with_reducible refine Sub.trans hp ?_); rfl)
    | ((with_reducible refine Sub.bit hp ?_); decide)
    | (with_reducible apply State.notice_kept)
    | (intro _)
    | (dsimp only)

theorem State.setSieve_kept {s : State} (h_s : Kept T s₀ s) (v : SieveMode) (hp : Sub 0x803000000000b T) : Kept T s₀ (State.setSieve s v) := by
  unfold State.setSieve
  try dsimp only
  repeat' first
    | (with_reducible assumption)
    | ((with_reducible refine Sub.trans hp ?_); rfl)
    | ((with_reducible refine Sub.bit hp ?_); decide)
    | (with_reducible apply State.modeChanged_kept)
    | (with_reducible apply State.dptFollow_kept)
    | (fail_if_no_progress ((with_reducible refine Kept.mkOther ?_ ?_ ?_ (fun q hq => ?_)) <;> [skip; exact rfl; exact rfl; (cases q <;> first | with_reducible exact rfl | exact fun f _ => State.rd_congr rfl f | exact absurd (Sub.bit hp rfl) hq)]))
    | split
    | (lift_lets; intro x; refine Kept.cut (s := x) ?_ (fun hx => ?_) <;> [subst x; clear_value x])
    | (intro x; refine Kept.cut (s := x) ?_ (fun hx => ?_) <;> [subst x; clear_value x])
    | (lift_lets; intro x; subst x)
    | (intro x; subst x)
    | (intro _)
    | (dsimp only)

theorem State.sivSuspend_kept {s : State} (h_s : Kept T s₀ s) (by_ : Nat) (hp : Sub 0xc0000803010000000b T) : Kept T s₀ (State.sivSuspend s by_) := by
  unfold State.sivSuspend
  try dsimp only
  repeat' first
    | (with_reducible assumption)
    | ((with_reducible refine Sub.trans hp ?_); rfl)
    | ((with_reducible refine Sub.bit hp ?_); decide)
    | (with_reducible apply State.setSieve_kept)
    | (with_reducible apply State.wr_kept)
    | (with_reducible apply State.forced_kept)
    | split
    | (intro _)
    | (dsimp only)

theorem State.sivResume_kept {s : State} (h_s : Kept T s₀ s)  (hp : Sub 0x80000803000000000b T) : Kept T s₀ (State.sivResume s) := by
  unfold State.sivResume
  try dsimp only
  repeat' first
    | (with_reducible assumption)
    | ((with_reducible refine Sub.trans hp ?_); rfl)
    | ((with_reducible refine Sub.bit hp ?_); decide)
    | (with_reducible apply State.wr_kept)
    | (with_reducible apply State.setSieve_kept)
    | split
    | (intro _)
    | (dsimp only)

theorem State.sivForceOff_kept {s : State} (h_s : Kept T s₀ s) (by_ : Nat) (hp : Sub 0x4c70008130120407c1b T) : Kept T s₀ (State.sivForceOff s by_) := by
  unfold State.sivForceOff
  try dsimp only
  repeat' first
    | (with_reducible assumption)
    | ((with_reducible refine Sub.trans hp ?_); rfl)
    | ((with_reducible refine Sub.bit hp ?_); decide)
    | (with_reducible apply State.sivStop_kept)
    | (with_reducible apply State.wr_kept)
    | (with_reducible apply State.setSieve_kept)
    | (with_reducible apply State.forced_kept)
    | split
    | (intro _)
    | (dsimp only)

theorem State.grgForceIdle_kept {s : State} (h_s : Kept T s₀ s) (by_ : Nat) (hp : Sub 0x544000003014000300a T) : Kept T s₀ (State.grgForceIdle s by_) := by
  unfold State.grgForceIdle
  try dsimp only
  repeat' first
    | (with_reducible assumption)
    | ((with_reducible refine Sub.trans hp ?_); rfl)
    | ((with_reducible refine Sub.bit hp ?_); decide)
    | (with_reducible apply State.forced_kept)
    | (with_reducible apply State.stageFail_kept)
    | (with_reducible apply State.setGrog_kept)
    | split
    | (lift_lets; intro x; refine Kept.cut (s := x) ?_ (fun hx => ?_) <;> [subst x; clear_value x])
    | (intro x; refine Kept.cut (s := x) ?_ (fun hx => ?_) <;> [subst x; clear_value x])
    | (lift_lets; intro x; subst x)
    | (intro x; subst x)
    | (intro _)
    | (dsimp only)

theorem State.setAlarm_kept {s : State} (h_s : Kept T s₀ s)  (hp : Sub 0x802000000000b T) : Kept T s₀ (State.setAlarm s) := by
  unfold State.setAlarm
  try dsimp only
  repeat' first
    | (with_reducible assumption)
    | ((with_reducible refine Sub.trans hp ?_); rfl)
    | ((with_reducible refine Sub.bit hp ?_); decide)
    | (with_reducible apply State.dptFollow_kept)
    | (fail_if_no_progress ((with_reducible refine Kept.mkOther ?_ ?_ ?_ (fun q hq => ?_)) <;> [skip; exact rfl; exact rfl; (cases q <;> first | with_reducible exact rfl | exact fun f _ => State.rd_congr rfl f | exact absurd (Sub.bit hp rfl) hq)]))
    | (intro _)
    | (dsimp only)

theorem State.takeAlarm_kept {s : State} (h_s : Kept T s₀ s)  (hp : Sub 0x5ff0008570164407c1b T) : Kept T s₀ (State.takeAlarm s) := by
  unfold State.takeAlarm
  try dsimp only
  repeat' first
    | (with_reducible assumption)
    | ((with_reducible refine Sub.trans hp ?_); rfl)
    | ((with_reducible refine Sub.bit hp ?_); decide)
    | (with_reducible apply State.setAlarm_kept)
    | (with_reducible refine State.wrAll_nil_kept ?_)
    | (with_reducible refine State.wrAll_cons_kept ?_)
    | (with_reducible refine State.wrAll_kept ?_ _ ?_ ?_)
    | (with_reducible apply State.wr_kept)
    | (with_reducible refine State.notices_nil_kept ?_)
    | (with_reducible refine State.notices_cons_kept ?_)
    | (with_reducible refine State.notices_kept ?_ _ ?_ ?_)
    | (with_reducible apply State.notice_kept)
    | (with_reducible apply State.grantStat_kept)
    | (with_reducible apply State.resign_kept)
    | (with_reducible apply State.discardHeld_kept)
    | (with_reducible apply State.grgForceIdle_kept)
    | (with_reducible apply State.sivForceOff_kept)
    | (with_reducible apply State.dropSwap_kept)
    | (with_reducible apply State.forced_kept)
    | (with_reducible apply State.grantRole_kept)
    | split
    | (lift_lets; intro x; refine Kept.cut (s := x) ?_ (fun hx => ?_) <;> [subst x; clear_value x])
    | (intro x; refine Kept.cut (s := x) ?_ (fun hx => ?_) <;> [subst x; clear_value x])
    | (lift_lets; intro x; subst x)
    | (intro x; subst x)
    | (intro _)
    | (dsimp only)

theorem State.scrapForces_kept {s : State} (h_s : Kept T s₀ s)  (hp : Sub 0x5c700081b0560407c1b T) : Kept T s₀ (State.scrapForces s) := by
  unfold State.scrapForces
  try dsimp only
  repeat' first
    | (with_reducible assumption)
    | ((with_reducible refine Sub.trans hp ?_); rfl)
    | ((with_reducible refine Sub.bit hp ?_); decide)
    | (with_reducible apply State.domainsRun_kept)
    | (with_reducible apply State.slotBack_kept)
    | (with_reducible apply State.forced_kept)
    | (with_reducible apply State.sivForceOff_kept)
    | (with_reducible apply State.grgForceIdle_kept)
    | (fail_if_no_progress ((with_reducible refine Kept.mkOther ?_ ?_ ?_ (fun q hq => ?_)) <;> [skip; exact rfl; exact rfl; (cases q <;> first | with_reducible exact rfl | exact fun f _ => State.rd_congr rfl f | exact absurd (Sub.bit hp rfl) hq)]))
    | split
    | (lift_lets; intro x; refine Kept.cut (s := x) ?_ (fun hx => ?_) <;> [subst x; clear_value x])
    | (intro x; refine Kept.cut (s := x) ?_ (fun hx => ?_) <;> [subst x; clear_value x])
    | (lift_lets; intro x; subst x)
    | (intro x; subst x)
    | (intro _)
    | (dsimp only)

theorem State.scrapBanks_kept {s : State} (h_s : Kept T s₀ s)  (hp : Sub 0x80000000 T) : Kept T s₀ (State.scrapBanks s) := by
  unfold State.scrapBanks
  try dsimp only
  repeat' first
    | (with_reducible assumption)
    | ((with_reducible refine Sub.trans hp ?_); rfl)
    | ((with_reducible refine Sub.bit hp ?_); decide)
    | (fail_if_no_progress ((with_reducible refine Kept.mkOther ?_ ?_ ?_ (fun q hq => ?_)) <;> [skip; exact rfl; exact rfl; (cases q <;> first | with_reducible exact rfl | exact fun f _ => State.rd_congr rfl f | exact absurd (Sub.bit hp rfl) hq)]))
    | (intro _)
    | (dsimp only)

theorem State.dropPayload_kept {s : State} (h_s : Kept T s₀ s)  (hp : Sub 0x8000000 T) : Kept T s₀ (State.dropPayload s) := by
  unfold State.dropPayload
  try dsimp only
  repeat' first
    | (with_reducible assumption)
    | ((with_reducible refine Sub.trans hp ?_); rfl)
    | ((with_reducible refine Sub.bit hp ?_); decide)
    | (fail_if_no_progress ((with_reducible refine Kept.mkOther ?_ ?_ ?_ (fun q hq => ?_)) <;> [skip; exact rfl; exact rfl; (cases q <;> first | with_reducible exact rfl | exact fun f _ => State.rd_congr rfl f | exact absurd (Sub.bit hp rfl) hq)]))
    | (intro _)
    | (dsimp only)

theorem State.decideLife_kept {s : State} (h_s : Kept T s₀ s) (q : ModeReq) (to_ : Life) (hp : Sub 0x7d700081b05e8407c5b T) : Kept T s₀ (State.decideLife s q to_) := by
  unfold State.decideLife
  try dsimp only
  repeat' first
    | (with_reducible assumption)
    | ((with_reducible refine Sub.trans hp ?_); rfl)
    | ((with_reducible refine Sub.bit hp ?_); decide)
    | (with_reducible apply State.grantStat_kept)
    | (with_reducible apply State.scrapForces_kept)
    | (with_reducible apply State.scrapBanks_kept)
    | (with_reducible apply State.wr_kept)
    | (with_reducible apply State.lifeChange_kept)
    | (with_reducible apply State.lcResult_kept)
    | (with_reducible apply State.dropPayload_kept)
    | (with_reducible apply State.refuseStat_kept)
    | split
    | (lift_lets; intro x; refine Kept.cut (s := x) ?_ (fun hx => ?_) <;> [subst x; clear_value x])
    | (intro x; refine Kept.cut (s := x) ?_ (fun hx => ?_) <;> [subst x; clear_value x])
    | (lift_lets; intro x; subst x)
    | (intro x; subst x)
    | (intro _)
    | (dsimp only)

theorem State.holdOnRequest_kept {s : State} (h_s : Kept T s₀ s)  (hp : Sub 0x5df00085707ec447ffb T) : Kept T s₀ (State.holdOnRequest s) := by
  unfold State.holdOnRequest
  try dsimp only
  repeat' first
    | (with_reducible assumption)
    | ((with_reducible refine Sub.trans hp ?_); rfl)
    | ((with_reducible refine Sub.bit hp ?_); decide)
    | (with_reducible apply State.resign_kept)
    | (with_reducible apply State.discardHeld_kept)
    | (with_reducible apply State.sivForceOff_kept)
    | (with_reducible apply State.saveAbandon_kept)
    | (with_reducible apply State.siltDrain_kept)
    | (with_reducible apply State.enterHold_kept)
    | (lift_lets; intro x; refine Kept.cut (s := x) ?_ (fun hx => ?_) <;> [subst x; clear_value x])
    | (intro x; refine Kept.cut (s := x) ?_ (fun hx => ?_) <;> [subst x; clear_value x])
    | (lift_lets; intro x; subst x)
    | (intro x; subst x)
    | (intro _)
    | (dsimp only)

theorem State.linkSleeps_kept {s : State} (h_s : Kept T s₀ s)  (hp : Sub 0x400000000 T) : Kept T s₀ (State.linkSleeps s) := by
  unfold State.linkSleeps
  try dsimp only
  repeat' first
    | (with_reducible assumption)
    | ((with_reducible refine Sub.trans hp ?_); rfl)
    | ((with_reducible refine Sub.bit hp ?_); decide)
    | (fail_if_no_progress ((with_reducible refine Kept.mkOther ?_ ?_ ?_ (fun q hq => ?_)) <;> [skip; exact rfl; exact rfl; (cases q <;> first | with_reducible exact rfl | exact fun f _ => State.rd_congr rfl f | exact absurd (Sub.bit hp rfl) hq)]))
    | (intro _)
    | (dsimp only)

theorem State.grantPower_kept {s : State} (h_s : Kept T s₀ s) (v : Power) (hp : Sub 0x5df7f085f07ec447ffb T) : Kept T s₀ (State.grantPower s v) := by
  unfold State.grantPower
  try dsimp only
  repeat' first
    | (with_reducible assumption)
    | ((with_reducible refine Sub.trans hp ?_); rfl)
    | ((with_reducible refine Sub.bit hp ?_); decide)
    | (with_reducible apply State.holdOnRequest_kept)
    | (with_reducible apply State.modeChanged_kept)
    | (with_reducible apply State.domainsRun_kept)
    | (with_reducible apply State.slotBack_kept)
    | (with_reducible apply State.clkClamp_kept)
    | (with_reducible apply State.slotToMac_kept)
    | (with_reducible apply State.lpiForce_kept)
    | (with_reducible apply State.linkSleeps_kept)
    | (with_reducible apply State.sivSuspend_kept)
    | (with_reducible apply State.sivResume_kept)
    | (fail_if_no_progress ((with_reducible refine Kept.mkOther ?_ ?_ ?_ (fun q hq => ?_)) <;> [skip; exact rfl; exact rfl; (cases q <;> first | with_reducible exact rfl | exact fun f _ => State.rd_congr rfl f | exact absurd (Sub.bit hp rfl) hq)]))
    | split
    | (lift_lets; intro x; refine Kept.cut (s := x) ?_ (fun hx => ?_) <;> [subst x; clear_value x])
    | (intro x; refine Kept.cut (s := x) ?_ (fun hx => ?_) <;> [subst x; clear_value x])
    | (lift_lets; intro x; subst x)
    | (intro x; subst x)
    | (intro _)
    | (dsimp only)

theorem State.decidePower_kept {s : State} (h_s : Kept T s₀ s) (q : ModeReq) (old : Bool) (v : Power) (hp : Sub 0x5df7f085f07ec447ffb T) : Kept T s₀ (State.decidePower s q old v) := by
  unfold State.decidePower
  try dsimp only
  repeat' first
    | (with_reducible assumption)
    | ((with_reducible refine Sub.trans hp ?_); rfl)
    | ((with_reducible refine Sub.bit hp ?_); decide)
    | (with_reducible apply State.grantStat_kept)
    | (with_reducible apply State.grantPower_kept)
    | (with_reducible apply State.waitStat_kept)
    | (with_reducible apply State.refuseStat_kept)
    | (with_reducible apply State.abandonSwap_kept)
    | split
    | (lift_lets; intro x; refine Kept.cut (s := x) ?_ (fun hx => ?_) <;> [subst x; clear_value x])
    | (intro x; refine Kept.cut (s := x) ?_ (fun hx => ?_) <;> [subst x; clear_value x])
    | (lift_lets; intro x; subst x)
    | (intro x; subst x)
    | (intro _)
    | (dsimp only)

theorem State.roleRefused_kept {s : State} (h_s : Kept T s₀ s) (q : ModeReq) (r : Role) (b : Nat) (hp : Sub 0x44c0000030104003002 T) : Kept T s₀ (State.roleRefused s q r b) := by
  unfold State.roleRefused
  try dsimp only
  repeat' first
    | (with_reducible assumption)
    | ((with_reducible refine Sub.trans hp ?_); rfl)
    | ((with_reducible refine Sub.bit hp ?_); decide)
    | (with_reducible apply State.refuseStat_kept)
    | (with_reducible apply State.swapRefused_kept)
    | (with_reducible apply State.wr_kept)
    | (with_reducible apply State.queueBidues_kept)
    | split
    | (lift_lets; intro x; refine Kept.cut (s := x) ?_ (fun hx => ?_) <;> [subst x; clear_value x])
    | (intro x; refine Kept.cut (s := x) ?_ (fun hx => ?_) <;> [subst x; clear_value x])
    | (lift_lets; intro x; subst x)
    | (intro x; subst x)
    | (intro _)
    | (dsimp only)

theorem State.autoConfirm_kept {s : State} (h_s : Kept T s₀ s) (q : ModeReq) (hp : Sub 0x544000003014000301a T) : Kept T s₀ (State.autoConfirm s q) := by
  unfold State.autoConfirm
  try dsimp only
  repeat' first
    | (with_reducible assumption)
    | ((with_reducible refine Sub.trans hp ?_); rfl)
    | ((with_reducible refine Sub.bit hp ?_); decide)
    | (with_reducible apply State.grgConfirm_kept)
    | (with_reducible apply State.wr_kept)
    | (fail_if_no_progress ((with_reducible refine Kept.mkOther ?_ ?_ ?_ (fun q hq => ?_)) <;> [skip; exact rfl; exact rfl; (cases q <;> first | with_reducible exact rfl | exact fun f _ => State.rd_congr rfl f | exact absurd (Sub.bit hp rfl) hq)]))
    | split
    | (lift_lets; intro x; refine Kept.cut (s := x) ?_ (fun hx => ?_) <;> [subst x; clear_value x])
    | (intro x; refine Kept.cut (s := x) ?_ (fun hx => ?_) <;> [subst x; clear_value x])
    | (lift_lets; intro x; subst x)
    | (intro x; subst x)
    | (intro _)
    | (dsimp only)

theorem State.takeRole_kept {s : State} (h_s : Kept T s₀ s) (q : ModeReq) (r : Role) (hp : Sub 0x4cc000843010400301b T) : Kept T s₀ (State.takeRole s q r) := by
  unfold State.takeRole
  try dsimp only
  repeat' first
    | (with_reducible assumption)
    | ((with_reducible refine Sub.trans hp ?_); rfl)
    | ((with_reducible refine Sub.bit hp ?_); decide)
    | (with_reducible apply State.grantRole_kept)
    | (with_reducible apply State.sivSuspend_kept)
    | (with_reducible apply State.sivResume_kept)
    | split
    | (lift_lets; intro x; refine Kept.cut (s := x) ?_ (fun hx => ?_) <;> [subst x; clear_value x])
    | (intro x; refine Kept.cut (s := x) ?_ (fun hx => ?_) <;> [subst x; clear_value x])
    | (lift_lets; intro x; subst x)
    | (intro x; subst x)
    | (intro _)
    | (dsimp only)

theorem State.decideRole_kept {s : State} (h_s : Kept T s₀ s) (q : ModeReq) (old : Bool) (r : Role) (hp : Sub 0x5cc000843014400303b T) : Kept T s₀ (State.decideRole s q old r) := by
  unfold State.decideRole
  try dsimp only
  repeat' first
    | (with_reducible assumption)
    | ((with_reducible refine Sub.trans hp ?_); rfl)
    | ((with_reducible refine Sub.bit hp ?_); decide)
    | (with_reducible apply State.grantStat_kept)
    | (with_reducible apply State.autoConfirm_kept)
    | (with_reducible apply State.takeRole_kept)
    | (with_reducible apply State.waitStat_kept)
    | (with_reducible apply State.roleRefused_kept)
    | split
    | (intro _)
    | (dsimp only)

theorem State.decideStaging_kept {s : State} (h_s : Kept T s₀ s) (q : ModeReq) (old : Bool) (hp : Sub 0x544000003014000302a T) : Kept T s₀ (State.decideStaging s q old) := by
  unfold State.decideStaging
  try dsimp only
  repeat' first
    | (with_reducible assumption)
    | ((with_reducible refine Sub.trans hp ?_); rfl)
    | ((with_reducible refine Sub.bit hp ?_); decide)
    | (with_reducible apply State.grantStat_kept)
    | (with_reducible apply State.setGrog_kept)
    | (with_reducible apply State.stageBegin_kept)
    | (with_reducible apply State.stageResume_kept)
    | (with_reducible apply State.waitStat_kept)
    | (with_reducible apply State.refuseStat_kept)
    | (with_reducible apply State.grgRefuse_kept)
    | (fail_if_no_progress ((with_reducible refine Kept.mkOther ?_ ?_ ?_ (fun q hq => ?_)) <;> [skip; exact rfl; exact rfl; (cases q <;> first | with_reducible exact rfl | exact fun f _ => State.rd_congr rfl f | exact absurd (Sub.bit hp rfl) hq)]))
    | split
    | (lift_lets; intro x; refine Kept.cut (s := x) ?_ (fun hx => ?_) <;> [subst x; clear_value x])
    | (intro x; refine Kept.cut (s := x) ?_ (fun hx => ?_) <;> [subst x; clear_value x])
    | (lift_lets; intro x; subst x)
    | (intro x; subst x)
    | (intro _)
    | (dsimp only)

theorem State.activateRun_kept {s : State} (h_s : Kept T s₀ s) (p : Nat) (hp : ∀ i, T i) : Kept T s₀ (State.activateRun s p) := by
  unfold State.activateRun
  try dsimp only
  repeat' first
    | (with_reducible assumption)
    | (with_reducible exact Sub.all hp)
    | (with_reducible exact hp)
    | (with_reducible exact hp _)
    | (with_reducible refine State.wrAll_nil_kept ?_)
    | (with_reducible refine State.wrAll_cons_kept ?_)
    | (with_reducible refine State.wrAll_kept ?_ _ ?_ ?_)
    | (with_reducible apply State.wr_kept)
    | (with_reducible apply State.grgEvent_kept)
    | (with_reducible apply State.siltDrain_kept)
    | (with_reducible apply State.warmReset_kept)
    | (fail_if_no_progress ((with_reducible refine Kept.mkOther ?_ ?_ ?_ (fun q hq => absurd (hp _) hq)) <;> [skip; exact rfl; exact rfl]))
    | (lift_lets; intro x; refine Kept.cut (s := x) ?_ (fun hx => ?_) <;> [subst x; clear_value x])
    | (intro x; refine Kept.cut (s := x) ?_ (fun hx => ?_) <;> [subst x; clear_value x])
    | (lift_lets; intro x; subst x)
    | (intro x; subst x)
    | (intro _)
    | (dsimp only)

theorem State.handoverBarred_kept {s : State} (h_s : Kept T s₀ s) (b : Nat) (hp : Sub 0x44c0000020104003002 T) : Kept T s₀ (State.handoverBarred s b) := by
  unfold State.handoverBarred
  try dsimp only
  repeat' first
    | (with_reducible assumption)
    | ((with_reducible refine Sub.trans hp ?_); rfl)
    | ((with_reducible refine Sub.bit hp ?_); decide)
    | (with_reducible apply State.withClm_kept)
    | (with_reducible apply State.swapRefused_kept)
    | (with_reducible apply State.wr_kept)
    | (fail_if_no_progress ((with_reducible refine Kept.mkOther ?_ ?_ ?_ (fun q hq => ?_)) <;> [skip; exact rfl; exact rfl; (cases q <;> first | with_reducible exact rfl | exact fun f _ => State.rd_congr rfl f | exact absurd (Sub.bit hp rfl) hq)]))
    | split
    | (lift_lets; intro x; refine Kept.cut (s := x) ?_ (fun hx => ?_) <;> [subst x; clear_value x])
    | (intro x; refine Kept.cut (s := x) ?_ (fun hx => ?_) <;> [subst x; clear_value x])
    | (lift_lets; intro x; subst x)
    | (intro x; subst x)
    | (intro _)
    | (dsimp only)

theorem State.decideActivating_kept {s : State} (h_s : Kept T s₀ s) (q : ModeReq) (old : Bool) (hp : ∀ i, T i) : Kept T s₀ (State.decideActivating s q old) := by
  unfold State.decideActivating
  try dsimp only
  repeat' first
    | (with_reducible assumption)
    | (with_reducible exact Sub.all hp)
    | (with_reducible exact hp)
    | (with_reducible exact hp _)
    | (with_reducible apply State.grantStat_kept)
    | (with_reducible apply State.sivForceOff_kept)
    | (with_reducible apply State.setGrog_kept)
    | (with_reducible apply State.withClm_kept)
    | (with_reducible apply State.activateRun_kept)
    | (with_reducible apply State.forced_kept)
    | (with_reducible apply State.takeRole_kept)
    | (with_reducible apply State.waitStat_kept)
    | (with_reducible apply State.refuseStat_kept)
    | (with_reducible apply State.handoverBarred_kept)
    | (with_reducible apply State.wr_kept)
    | (fail_if_no_progress ((with_reducible refine Kept.mkOther ?_ ?_ ?_ (fun q hq => absurd (hp _) hq)) <;> [skip; exact rfl; exact rfl]))
    | split
    | (lift_lets; intro x; refine Kept.cut (s := x) ?_ (fun hx => ?_) <;> [subst x; clear_value x])
    | (intro x; refine Kept.cut (s := x) ?_ (fun hx => ?_) <;> [subst x; clear_value x])
    | (lift_lets; intro x; subst x)
    | (intro x; subst x)
    | (intro _)
    | (dsimp only)

theorem State.grantSieve_kept {s : State} (h_s : Kept T s₀ s) (v : SieveMode) (hp : Sub 0x4d77e08130129407c1b T) : Kept T s₀ (State.grantSieve s v) := by
  unfold State.grantSieve
  try dsimp only
  repeat' first
    | (with_reducible assumption)
    | ((with_reducible refine Sub.trans hp ?_); rfl)
    | ((with_reducible refine Sub.bit hp ?_); decide)
    | (with_reducible apply State.sivStop_kept)
    | (with_reducible apply State.wr_kept)
    | (with_reducible apply State.setSieve_kept)
    | (with_reducible apply State.sivNewRound_kept)
    | (with_reducible apply State.linksDown_kept)
    | (with_reducible apply State.zeroise_kept)
    | split
    | (intro _)
    | (dsimp only)

theorem State.decideSieve_kept {s : State} (h_s : Kept T s₀ s) (q : ModeReq) (old : Bool) (v : SieveMode) (hp : Sub 0x4d77e08130129407c3b T) : Kept T s₀ (State.decideSieve s q old v) := by
  unfold State.decideSieve
  try dsimp only
  repeat' first
    | (with_reducible assumption)
    | ((with_reducible refine Sub.trans hp ?_); rfl)
    | ((with_reducible refine Sub.bit hp ?_); decide)
    | (with_reducible apply State.grantStat_kept)
    | (with_reducible apply State.grantSieve_kept)
    | (with_reducible apply State.waitStat_kept)
    | (with_reducible apply State.refuseStat_kept)
    | split
    | (intro _)
    | (dsimp only)

theorem State.takeTime_kept {s : State} (h_s : Kept T s₀ s) (v : TimeMode) (hp : Sub 0x3000000040a T) : Kept T s₀ (State.takeTime s v) := by
  unfold State.takeTime
  try dsimp only
  repeat' first
    | (with_reducible assumption)
    | ((with_reducible refine Sub.trans hp ?_); rfl)
    | ((with_reducible refine Sub.bit hp ?_); decide)
    | (with_reducible apply State.grantStat_kept)
    | (with_reducible apply State.modeChanged_kept)
    | (fail_if_no_progress ((with_reducible refine Kept.mkOther ?_ ?_ ?_ (fun q hq => ?_)) <;> [skip; exact rfl; exact rfl; (cases q <;> first | with_reducible exact rfl | exact fun f _ => State.rd_congr rfl f | exact absurd (Sub.bit hp rfl) hq)]))
    | split
    | (lift_lets; intro x; refine Kept.cut (s := x) ?_ (fun hx => ?_) <;> [subst x; clear_value x])
    | (intro x; refine Kept.cut (s := x) ?_ (fun hx => ?_) <;> [subst x; clear_value x])
    | (lift_lets; intro x; subst x)
    | (intro x; subst x)
    | (intro _)
    | (dsimp only)

theorem State.decideOne_kept {s : State} (h_s : Kept T s₀ s) (q : ModeReq) (old : Bool) (hp : ∀ i, T i) : Kept T s₀ (State.decideOne s q old) := by
  unfold State.decideOne
  try dsimp only
  repeat' first
    | (with_reducible assumption)
    | (with_reducible exact Sub.all hp)
    | (with_reducible exact hp)
    | (with_reducible exact hp _)
    | (with_reducible apply State.takeAlarm_kept)
    | (with_reducible apply State.decideLife_kept)
    | (with_reducible apply State.decidePower_kept)
    | (with_reducible apply State.decideRole_kept)
    | (with_reducible apply State.decideStaging_kept)
    | (with_reducible apply State.decideActivating_kept)
    | (with_reducible apply State.decideSieve_kept)
    | (with_reducible apply State.takeTime_kept)
    | split
    | (intro _)
    | (dsimp only)

theorem State.decide_kept {s : State} (h_s : Kept T s₀ s)  (hp : ∀ i, T i) : Kept T s₀ (State.decide s) := by
  unfold State.decide
  try dsimp only
  repeat' first
    | (with_reducible assumption)
    | (with_reducible exact Sub.all hp)
    | (with_reducible exact hp)
    | (with_reducible exact hp _)
    | (with_reducible apply State.decideOne_kept)
    | (with_reducible apply State.campaignHalt_kept)
    | (with_reducible refine Kept.foldl _ _ ?_ (fun _ _ _ => ?_))
    | (fail_if_no_progress ((with_reducible refine Kept.mkOther ?_ ?_ ?_ (fun q hq => absurd (hp _) hq)) <;> [skip; exact rfl; exact rfl]))
    | split
    | (lift_lets; intro x; refine Kept.cut (s := x) ?_ (fun hx => ?_) <;> [subst x; clear_value x])
    | (intro x; refine Kept.cut (s := x) ?_ (fun hx => ?_) <;> [subst x; clear_value x])
    | (lift_lets; intro x; subst x)
    | (intro x; subst x)
    | (intro _)
    | (dsimp only)

theorem State.putCopies_kept {s : State} (h_s : Kept T s₀ s) (l : List LifeCopy) (hp : Sub 0x40 T) : Kept T s₀ (State.putCopies s l) := by
  unfold State.putCopies
  try dsimp only
  repeat' first
    | (with_reducible assumption)
    | ((with_reducible refine Sub.trans hp ?_); rfl)
    | ((with_reducible refine Sub.bit hp ?_); decide)
    | (fail_if_no_progress ((with_reducible refine Kept.mkOther ?_ ?_ ?_ (fun q hq => ?_)) <;> [skip; exact rfl; exact rfl; (cases q <;> first | with_reducible exact rfl | exact fun f _ => State.rd_congr rfl f | exact absurd (Sub.bit hp rfl) hq)]))
    | (intro _)
    | (dsimp only)

theorem State.putAnchor_kept {s : State} (h_s : Kept T s₀ s) (u : HpnUnit) (hp : Sub 0x8000000 T) : Kept T s₀ (State.putAnchor s u) := by
  unfold State.putAnchor
  try dsimp only
  repeat' first
    | (with_reducible assumption)
    | ((with_reducible refine Sub.trans hp ?_); rfl)
    | ((with_reducible refine Sub.bit hp ?_); decide)
    | (fail_if_no_progress ((with_reducible refine Kept.mkOther ?_ ?_ ?_ (fun q hq => ?_)) <;> [skip; exact rfl; exact rfl; (cases q <;> first | with_reducible exact rfl | exact fun f _ => State.rd_congr rfl f | exact absurd (Sub.bit hp rfl) hq)]))
    | (intro _)
    | (dsimp only)

theorem State.lifeCut_kept {s : State} (h_s : Kept T s₀ s) (cut : LifeCut) (hp : Sub 0x454000803010800304b T) : Kept T s₀ (State.lifeCut s cut) := by
  unfold State.lifeCut
  try dsimp only
  repeat' first
    | (with_reducible assumption)
    | ((with_reducible refine Sub.trans hp ?_); rfl)
    | ((with_reducible refine Sub.bit hp ?_); decide)
    | (with_reducible apply State.slotCut_kept)
    | (with_reducible apply State.zeroise_kept)
    | (with_reducible apply State.eraseSlots_kept)
    | (with_reducible apply State.lifeChange_kept)
    | (with_reducible apply State.putCopies_kept)
    | (with_reducible apply State.putAnchor_kept)
    | split
    | (intro _)
    | (dsimp only)

end Sys2Proof.Machine
end

