-- ==== Sys2Proof/Laws/KeepMrlBase.lean ====
section
/-! SUPPORT. What the operations of Machine/MrlBase.lean keep. -/

set_option Elab.async false
set_option linter.unusedTactic false
set_option linter.unreachableTactic false
set_option linter.unusedVariables false

namespace Sys2Proof.Machine

variable {T : Nat → Prop} {s₀ : State}

theorem State.saveStart_kept {s : State} (h_s : Kept T s₀ s)  (hp : Sub 0x2000000020080000002 T) : Kept T s₀ (State.saveStart s) := by
  unfold State.saveStart
  try dsimp only
  repeat' first
    | (with_reducible assumption)
    | ((with_reducible refine Sub.trans hp ?_); rfl)
    | ((with_reducible refine Sub.bit hp ?_); decide)
    | (with_reducible apply State.wr_kept)
    | (with_reducible apply State.notice_kept)
    | (fail_if_no_progress ((with_reducible refine Kept.mkOther ?_ ?_ ?_ (fun q hq => ?_)) <;> [skip; exact rfl; exact rfl; (cases q <;> first | with_reducible exact rfl | exact fun f _ => State.rd_congr rfl f | exact absurd (Sub.bit hp rfl) hq)]))
    | split
    | (lift_lets; intro x; refine Kept.cut (s := x) ?_ (fun hx => ?_) <;> [subst x; clear_value x])
    | (intro x; refine Kept.cut (s := x) ?_ (fun hx => ?_) <;> [subst x; clear_value x])
    | (lift_lets; intro x; subst x)
    | (intro x; subst x)
    | (intro _)
    | (dsimp only)

theorem State.saveRequest_kept {s : State} (h_s : Kept T s₀ s)  (hp : Sub 0x2000000020080000002 T) : Kept T s₀ (State.saveRequest s) := by
  unfold State.saveRequest
  try dsimp only
  repeat' first
    | (with_reducible assumption)
    | ((with_reducible refine Sub.trans hp ?_); rfl)
    | ((with_reducible refine Sub.bit hp ?_); decide)
    | (with_reducible apply State.wr_kept)
    | (with_reducible refine State.wrAll_nil_kept ?_)
    | (with_reducible refine State.wrAll_cons_kept ?_)
    | (with_reducible refine State.wrAll_kept ?_ _ ?_ ?_)
    | (with_reducible apply State.wr_kept)
    | (with_reducible apply State.saveStart_kept)
    | split
    | (intro _)
    | (dsimp only)

theorem State.savePending_kept {s : State} (h_s : Kept T s₀ s)  (hp : Sub 0x2000000020080000002 T) : Kept T s₀ (State.savePending s) := by
  unfold State.savePending
  try dsimp only
  repeat' first
    | (with_reducible assumption)
    | ((with_reducible refine Sub.trans hp ?_); rfl)
    | ((with_reducible refine Sub.bit hp ?_); decide)
    | (with_reducible apply State.wr_kept)
    | (with_reducible apply State.saveRequest_kept)
    | split
    | (intro _)
    | (dsimp only)

theorem State.saveDone_kept {s : State} (h_s : Kept T s₀ s) (ok : Bool) (hp : Sub 0x2400000020180000002 T) : Kept T s₀ (State.saveDone s ok) := by
  unfold State.saveDone
  try dsimp only
  repeat' first
    | (with_reducible assumption)
    | ((with_reducible refine Sub.trans hp ?_); rfl)
    | ((with_reducible refine Sub.bit hp ?_); decide)
    | (with_reducible apply State.wr_kept)
    | (with_reducible apply State.count_kept)
    | (with_reducible apply State.notice_kept)
    | (with_reducible apply State.silt_kept)
    | (with_reducible apply State.savePending_kept)
    | (fail_if_no_progress ((with_reducible refine Kept.mkOther ?_ ?_ ?_ (fun q hq => ?_)) <;> [skip; exact rfl; exact rfl; (cases q <;> first | with_reducible exact rfl | exact fun f _ => State.rd_congr rfl f | exact absurd (Sub.bit hp rfl) hq)]))
    | split
    | (intro _)
    | (dsimp only)

theorem State.storeClear_kept {s : State} (h_s : Kept T s₀ s) (key : Nat) (hp : Sub 0x2000000000080000000 T) : Kept T s₀ (State.storeClear s key) := by
  unfold State.storeClear
  try dsimp only
  repeat' first
    | (with_reducible assumption)
    | ((with_reducible refine Sub.trans hp ?_); rfl)
    | ((with_reducible refine Sub.bit hp ?_); decide)
    | (with_reducible apply State.wr_kept)
    | (with_reducible refine State.wrAll_nil_kept ?_)
    | (with_reducible refine State.wrAll_cons_kept ?_)
    | (with_reducible refine State.wrAll_kept ?_ _ ?_ ?_)
    | (with_reducible apply State.wr_kept)
    | (fail_if_no_progress ((with_reducible refine Kept.mkOther ?_ ?_ ?_ (fun q hq => ?_)) <;> [skip; exact rfl; exact rfl; (cases q <;> first | with_reducible exact rfl | exact fun f _ => State.rd_congr rfl f | exact absurd (Sub.bit hp rfl) hq)]))
    | split
    | (intro _)
    | (dsimp only)

theorem State.mrlCommand_kept {s : State} (h_s : Kept T s₀ s) (w : Nat) (hp : Sub 0x2000000020080000002 T) : Kept T s₀ (State.mrlCommand s w) := by
  unfold State.mrlCommand
  try dsimp only
  repeat' first
    | (with_reducible assumption)
    | ((with_reducible refine Sub.trans hp ?_); rfl)
    | ((with_reducible refine Sub.bit hp ?_); decide)
    | (with_reducible apply State.saveRequest_kept)
    | (with_reducible apply State.storeClear_kept)
    | split
    | (intro _)
    | (dsimp only)

end Sys2Proof.Machine
end

