-- ==== Sys2Proof/Laws/KeepWrites.lean ====
section
/-! SUPPORT. What the operations of Machine/Writes.lean keep. -/

set_option Elab.async false
set_option linter.unusedTactic false
set_option linter.unreachableTactic false
set_option linter.unusedVariables false

namespace Sys2Proof.Machine

variable {T : Nat → Prop} {s₀ : State}

theorem State.fieldWrite_kept {s : State} (h_s : Kept T s₀ s) (f : Field) (w : Nat) (ones : Nat) (hp : ∀ i, T i) : Kept T s₀ (State.fieldWrite s f w ones) := by
  unfold State.fieldWrite
  try dsimp only
  repeat' first
    | (with_reducible assumption)
    | (with_reducible exact Sub.all hp)
    | (with_reducible exact hp)
    | (with_reducible exact hp _)
    | (with_reducible apply State.wr_kept)
    | split
    | (intro _)
    | (dsimp only)

theorem State.plainWrite_kept {s : State} (h_s : Kept T s₀ s) (addr : Nat) (w : Nat) (ones : Nat) (hp : ∀ i, T i) : Kept T s₀ (State.plainWrite s addr w ones) := by
  unfold State.plainWrite
  try dsimp only
  repeat' first
    | (with_reducible assumption)
    | (with_reducible exact Sub.all hp)
    | (with_reducible exact hp)
    | (with_reducible exact hp _)
    | (with_reducible apply State.fieldWrite_kept)
    | (with_reducible refine Kept.foldl _ _ ?_ (fun _ _ _ => ?_))
    | (lift_lets; intro x; refine Kept.cut (s := x) ?_ (fun hx => ?_) <;> [subst x; clear_value x])
    | (intro x; refine Kept.cut (s := x) ?_ (fun hx => ?_) <;> [subst x; clear_value x])
    | (lift_lets; intro x; subst x)
    | (intro x; subst x)
    | (intro _)
    | (dsimp only)

theorem State.edgesSince_kept {s : State} {before : State} (h_s : Kept T s₀ s) (h_before : Kept T s₀ before)  (hp : Sub 0x20000000002 T) : Kept T s₀ (State.edgesSince s before) := by
  unfold State.edgesSince
  try dsimp only
  repeat' first
    | (with_reducible assumption)
    | ((with_reducible refine Sub.trans hp ?_); rfl)
    | ((with_reducible refine Sub.bit hp ?_); decide)
    | (with_reducible apply State.vectorEdge_kept)
    | (with_reducible refine Kept.foldl _ _ ?_ (fun _ _ _ => ?_))
    | (lift_lets; intro x; refine Kept.cut (s := x) ?_ (fun hx => ?_) <;> [subst x; clear_value x])
    | (intro x; refine Kept.cut (s := x) ?_ (fun hx => ?_) <;> [subst x; clear_value x])
    | (lift_lets; intro x; subst x)
    | (intro x; subst x)
    | (intro _)
    | (dsimp only)

theorem State.powerWrite_kept {s : State} (h_s : Kept T s₀ s) (v : Nat) (hp : Sub 0x10000000050 T) : Kept T s₀ (State.powerWrite s v) := by
  unfold State.powerWrite
  try dsimp only
  repeat' first
    | (with_reducible assumption)
    | ((with_reducible refine Sub.trans hp ?_); rfl)
    | ((with_reducible refine Sub.bit hp ?_); decide)
    | (with_reducible apply State.wr_kept)
    | (fail_if_no_progress ((with_reducible refine Kept.mkOther ?_ ?_ ?_ (fun q hq => ?_)) <;> [skip; exact rfl; exact rfl; (cases q <;> first | with_reducible exact rfl | exact fun f _ => State.rd_congr rfl f | exact absurd (Sub.bit hp rfl) hq)]))
    | split
    | (lift_lets; intro x; refine Kept.cut (s := x) ?_ (fun hx => ?_) <;> [subst x; clear_value x])
    | (intro x; refine Kept.cut (s := x) ?_ (fun hx => ?_) <;> [subst x; clear_value x])
    | (lift_lets; intro x; subst x)
    | (intro x; subst x)
    | (intro _)
    | (dsimp only)

theorem State.resetWrite_kept {s : State} (h_s : Kept T s₀ s) (warm : Bool) (key : Nat) (hp : ∀ i, T i) : Kept T s₀ (State.resetWrite s warm key) := by
  unfold State.resetWrite
  try dsimp only
  repeat' first
    | (with_reducible assumption)
    | (with_reducible exact Sub.all hp)
    | (with_reducible exact hp)
    | (with_reducible exact hp _)
    | (with_reducible apply State.resign_kept)
    | (with_reducible apply State.siltDrain_kept)
    | (with_reducible apply State.warmReset_kept)
    | split
    | (intro _)
    | (dsimp only)

theorem State.txnErr_kept {s : State} (h_s : Kept T s₀ s) (port : Port) (e : Nat) (hp : Sub 0x300 T) : Kept T s₀ (State.txnErr s port e) := by
  unfold State.txnErr
  try dsimp only
  repeat' first
    | (with_reducible assumption)
    | ((with_reducible refine Sub.trans hp ?_); rfl)
    | ((with_reducible refine Sub.bit hp ?_); decide)
    | (with_reducible refine State.setPort_same rfl ?_ ?_)
    | (fail_if_no_progress ((with_reducible refine Kept.mkOther ?_ ?_ ?_ (fun q hq => ?_)) <;> [skip; exact rfl; exact rfl; (cases q <;> first | with_reducible exact rfl | exact fun f _ => State.rd_congr rfl f | exact absurd (Sub.bit hp rfl) hq)]))
    | (intro _)
    | (dsimp only)

theorem State.txnOpen_kept {s : State} (h_s : Kept T s₀ s) (port : Port) (t : Nat) (hp : Sub 0x300 T) : Kept T s₀ (State.txnOpen s port t) := by
  unfold State.txnOpen
  try dsimp only
  repeat' first
    | (with_reducible assumption)
    | ((with_reducible refine Sub.trans hp ?_); rfl)
    | ((with_reducible refine Sub.bit hp ?_); decide)
    | (with_reducible apply State.txnErr_kept)
    | (with_reducible refine State.setPort_same rfl ?_ ?_)
    | split
    | (lift_lets; intro x; refine Kept.cut (s := x) ?_ (fun hx => ?_) <;> [subst x; clear_value x])
    | (intro x; refine Kept.cut (s := x) ?_ (fun hx => ?_) <;> [subst x; clear_value x])
    | (lift_lets; intro x; subst x)
    | (intro x; subst x)
    | (intro _)
    | (dsimp only)

theorem State.txnSelect_kept {s : State} (h_s : Kept T s₀ s) (port : Port) (t : Nat) (hp : Sub 0x300 T) : Kept T s₀ (State.txnSelect s port t) := by
  unfold State.txnSelect
  try dsimp only
  repeat' first
    | (with_reducible assumption)
    | ((with_reducible refine Sub.trans hp ?_); rfl)
    | ((with_reducible refine Sub.bit hp ?_); decide)
    | (with_reducible refine State.setPort_same rfl ?_ ?_)
    | (with_reducible apply State.txnErr_kept)
    | split
    | (lift_lets; intro x; refine Kept.cut (s := x) ?_ (fun hx => ?_) <;> [subst x; clear_value x])
    | (intro x; refine Kept.cut (s := x) ?_ (fun hx => ?_) <;> [subst x; clear_value x])
    | (lift_lets; intro x; subst x)
    | (intro x; subst x)
    | (intro _)
    | (dsimp only)

theorem State.txnDeselect_kept {s : State} (h_s : Kept T s₀ s) (port : Port) (hp : Sub 0x300 T) : Kept T s₀ (State.txnDeselect s port) := by
  unfold State.txnDeselect
  try dsimp only
  repeat' first
    | (with_reducible assumption)
    | ((with_reducible refine Sub.trans hp ?_); rfl)
    | ((with_reducible refine Sub.bit hp ?_); decide)
    | (with_reducible refine State.setPort_same rfl ?_ ?_)
    | (fail_if_no_progress ((with_reducible refine Kept.mkOther ?_ ?_ ?_ (fun q hq => ?_)) <;> [skip; exact rfl; exact rfl; (cases q <;> first | with_reducible exact rfl | exact fun f _ => State.rd_congr rfl f | exact absurd (Sub.bit hp rfl) hq)]))
    | (intro _)
    | (dsimp only)

theorem State.txnCommit_kept {s : State} (h_s : Kept T s₀ s) (port : Port) (t : Nat) (hp : Sub 0x300 T) : Kept T s₀ (State.txnCommit s port t) := by
  unfold State.txnCommit
  try dsimp only
  repeat' first
    | (with_reducible assumption)
    | ((with_reducible refine Sub.trans hp ?_); rfl)
    | ((with_reducible refine Sub.bit hp ?_); decide)
    | (with_reducible refine State.setPort_same rfl ?_ ?_)
    | (with_reducible apply State.txnErr_kept)
    | split
    | (lift_lets; intro x; refine Kept.cut (s := x) ?_ (fun hx => ?_) <;> [subst x; clear_value x])
    | (intro x; refine Kept.cut (s := x) ?_ (fun hx => ?_) <;> [subst x; clear_value x])
    | (lift_lets; intro x; subst x)
    | (intro x; subst x)
    | (intro _)
    | (dsimp only)

theorem State.txnAbort_kept {s : State} (h_s : Kept T s₀ s) (port : Port) (t : Nat) (hp : Sub 0x20000000302 T) : Kept T s₀ (State.txnAbort s port t) := by
  unfold State.txnAbort
  try dsimp only
  repeat' first
    | (with_reducible assumption)
    | ((with_reducible refine Sub.trans hp ?_); rfl)
    | ((with_reducible refine Sub.bit hp ?_); decide)
    | (with_reducible refine State.setPort_same rfl ?_ ?_)
    | (with_reducible apply State.notice_kept)
    | (with_reducible apply State.txnErr_kept)
    | split
    | (lift_lets; intro x; refine Kept.cut (s := x) ?_ (fun hx => ?_) <;> [subst x; clear_value x])
    | (intro x; refine Kept.cut (s := x) ?_ (fun hx => ?_) <;> [subst x; clear_value x])
    | (lift_lets; intro x; subst x)
    | (intro x; subst x)
    | (intro _)
    | (dsimp only)

theorem State.txnCtrl_kept {s : State} (h_s : Kept T s₀ s) (port : Port) (w : Nat) (hp : Sub 0x20000000302 T) : Kept T s₀ (State.txnCtrl s port w) := by
  unfold State.txnCtrl
  try dsimp only
  repeat' first
    | (with_reducible assumption)
    | ((with_reducible refine Sub.trans hp ?_); rfl)
    | ((with_reducible refine Sub.bit hp ?_); decide)
    | (with_reducible apply State.txnOpen_kept)
    | (with_reducible apply State.txnSelect_kept)
    | (with_reducible apply State.txnDeselect_kept)
    | (with_reducible apply State.txnCommit_kept)
    | (with_reducible apply State.txnAbort_kept)
    | (with_reducible apply State.txnErr_kept)
    | split
    | (lift_lets; intro x; refine Kept.cut (s := x) ?_ (fun hx => ?_) <;> [subst x; clear_value x])
    | (intro x; refine Kept.cut (s := x) ?_ (fun hx => ?_) <;> [subst x; clear_value x])
    | (lift_lets; intro x; subst x)
    | (intro x; subst x)
    | (intro _)
    | (dsimp only)

theorem State.eoi_kept {s : State} (h_s : Kept T s₀ s) (v : Nat) (hp : Sub 0x20000000002 T) : Kept T s₀ (State.eoi s v) := by
  unfold State.eoi
  try dsimp only
  repeat' first
    | (with_reducible assumption)
    | ((with_reducible refine Sub.trans hp ?_); rfl)
    | ((with_reducible refine Sub.bit hp ?_); decide)
    | (with_reducible apply State.msixSend_kept)
    | split
    | (intro _)
    | (dsimp only)

theorem State.msixWrite_kept {s : State} (h_s : Kept T s₀ s) (port : Port) (addr : Nat) (w : Nat) (hp : Sub 0x20000000002 T) : Kept T s₀ (State.msixWrite s port addr w) := by
  unfold State.msixWrite
  try dsimp only
  repeat' first
    | (with_reducible assumption)
    | ((with_reducible refine Sub.trans hp ?_); rfl)
    | ((with_reducible refine Sub.bit hp ?_); decide)
    | ((with_reducible refine Sub.bitEq hp (msixField_slot _) ?_); rfl)
    | (with_reducible apply State.wr_kept)
    | (with_reducible apply State.msixRetry_kept)
    | split
    | (intro _)
    | (dsimp only)

theorem State.actSYS_kept {s : State} (h_s : Kept T s₀ s) (addr : Nat) (w : Nat) (ones : Nat) (hp : ∀ i, T i) : Kept T s₀ (State.actSYS s addr w ones) := by
  unfold State.actSYS
  try dsimp only
  repeat' first
    | (with_reducible assumption)
    | (with_reducible exact Sub.all hp)
    | (with_reducible exact hp)
    | (with_reducible exact hp _)
    | (with_reducible apply State.powerWrite_kept)
    | (with_reducible apply State.resetWrite_kept)
    | (with_reducible apply State.plainWrite_kept)
    | split
    | (intro _)
    | (dsimp only)

theorem State.actHIF_kept {s : State} (h_s : Kept T s₀ s) (port : Port) (addr : Nat) (w : Nat) (ones : Nat) (hp : ∀ i, T i) : Kept T s₀ (State.actHIF s port addr w ones) := by
  unfold State.actHIF
  try dsimp only
  repeat' first
    | (with_reducible assumption)
    | (with_reducible exact Sub.all hp)
    | (with_reducible exact hp)
    | (with_reducible exact hp _)
    | (with_reducible refine State.setPort_same rfl ?_ ?_)
    | (with_reducible apply State.txnCtrl_kept)
    | (with_reducible apply State.eoi_kept)
    | (with_reducible apply State.msixWrite_kept)
    | (with_reducible apply State.plainWrite_kept)
    | (with_reducible apply State.edgesSince_kept)
    | (fail_if_no_progress ((with_reducible refine Kept.mkOther ?_ ?_ ?_ (fun q hq => absurd (hp _) hq)) <;> [skip; exact rfl; exact rfl]))
    | split
    | (intro _)
    | (dsimp only)

theorem State.actRFE_kept {s : State} (h_s : Kept T s₀ s) (addr : Nat) (w : Nat) (ones : Nat) (hp : ∀ i, T i) : Kept T s₀ (State.actRFE s addr w ones) := by
  unfold State.actRFE
  try dsimp only
  repeat' first
    | (with_reducible assumption)
    | (with_reducible exact Sub.all hp)
    | (with_reducible exact hp)
    | (with_reducible exact hp _)
    | (with_reducible apply State.plainWrite_kept)
    | (with_reducible apply State.regionWrite_kept)
    | (with_reducible apply State.draw_kept)
    | (with_reducible apply State.draw_pair (by assumption))
    | (with_reducible apply State.retune_kept)
    | split
    | (lift_lets; intro x; refine Kept.cut (s := x) ?_ (fun hx => ?_) <;> [subst x; clear_value x])
    | (intro x; refine Kept.cut (s := x) ?_ (fun hx => ?_) <;> [subst x; clear_value x])
    | (lift_lets; intro x; subst x)
    | (intro x; subst x)
    | (intro _)
    | (dsimp only)

theorem State.macKeys_kept {before : State} {after : State} (h_before : Kept T s₀ before) (h_after : Kept T s₀ after)  (hp : Sub 0x100000004000 T) : Kept T s₀ (State.macKeys before after) := by
  unfold State.macKeys
  try dsimp only
  repeat' first
    | (with_reducible assumption)
    | ((with_reducible refine Sub.trans hp ?_); rfl)
    | ((with_reducible refine Sub.bit hp ?_); decide)
    | (with_reducible apply State.keyReplaced_kept)
    | (with_reducible refine Kept.foldl _ _ ?_ (fun _ _ _ => ?_))
    | (lift_lets; intro x; refine Kept.cut (s := x) ?_ (fun hx => ?_) <;> [subst x; clear_value x])
    | (intro x; refine Kept.cut (s := x) ?_ (fun hx => ?_) <;> [subst x; clear_value x])
    | (lift_lets; intro x; subst x)
    | (intro x; subst x)
    | (intro _)
    | (dsimp only)

theorem State.actMAC_kept {s : State} (h_s : Kept T s₀ s) (addr : Nat) (w : Nat) (ones : Nat) (hp : ∀ i, T i) : Kept T s₀ (State.actMAC s addr w ones) := by
  unfold State.actMAC
  try dsimp only
  repeat' first
    | (with_reducible assumption)
    | (with_reducible exact Sub.all hp)
    | (with_reducible exact hp)
    | (with_reducible exact hp _)
    | (with_reducible apply State.plainWrite_kept)
    | (with_reducible apply State.macEnable_kept)
    | (with_reducible apply State.ownSlots_kept)
    | (with_reducible apply State.macKeys_kept)
    | (with_reducible apply State.notice_kept)
    | (fail_if_no_progress ((with_reducible refine Kept.mkOther ?_ ?_ ?_ (fun q hq => absurd (hp _) hq)) <;> [skip; exact rfl; exact rfl]))
    | split
    | (lift_lets; intro x; refine Kept.cut (s := x) ?_ (fun hx => ?_) <;> [subst x; clear_value x])
    | (intro x; refine Kept.cut (s := x) ?_ (fun hx => ?_) <;> [subst x; clear_value x])
    | (lift_lets; intro x; subst x)
    | (intro x; subst x)
    | (intro _)
    | (dsimp only)

theorem State.actNTB_kept {s : State} (h_s : Kept T s₀ s) (addr : Nat) (w : Nat) (ones : Nat) (hp : ∀ i, T i) : Kept T s₀ (State.actNTB s addr w ones) := by
  unfold State.actNTB
  try dsimp only
  repeat' first
    | (with_reducible assumption)
    | (with_reducible exact Sub.all hp)
    | (with_reducible exact hp)
    | (with_reducible exact hp _)
    | (with_reducible apply State.ntbCmd_kept)
    | (with_reducible apply State.ntbFindHi_kept)
    | (with_reducible apply State.plainWrite_kept)
    | split
    | (intro _)
    | (dsimp only)

theorem State.actDRF_kept {s : State} (h_s : Kept T s₀ s) (addr : Nat) (w : Nat) (ones : Nat) (hp : ∀ i, T i) : Kept T s₀ (State.actDRF s addr w ones) := by
  unfold State.actDRF
  try dsimp only
  repeat' first
    | (with_reducible assumption)
    | (with_reducible exact Sub.all hp)
    | (with_reducible exact hp)
    | (with_reducible exact hp _)
    | (with_reducible apply State.plainWrite_kept)
    | (with_reducible apply State.drfEnable_kept)
    | (with_reducible apply State.graphSwap_kept)
    | (with_reducible apply State.drfEnter_kept)
    | split
    | (intro _)
    | (dsimp only)

theorem State.actSCH_kept {s : State} (h_s : Kept T s₀ s) (addr : Nat) (w : Nat) (ones : Nat) (hp : ∀ i, T i) : Kept T s₀ (State.actSCH s addr w ones) := by
  unfold State.actSCH
  try dsimp only
  repeat' first
    | (with_reducible assumption)
    | (with_reducible exact Sub.all hp)
    | (with_reducible exact hp)
    | (with_reducible exact hp _)
    | (with_reducible apply State.plainWrite_kept)
    | (with_reducible apply State.schEnable_kept)
    | (with_reducible apply State.schPlace_kept)
    | (with_reducible apply State.schOffset_kept)
    | split
    | (intro _)
    | (dsimp only)

theorem State.actTMP_kept {s : State} (h_s : Kept T s₀ s) (addr : Nat) (w : Nat) (ones : Nat) (hp : ∀ i, T i) : Kept T s₀ (State.actTMP s addr w ones) := by
  unfold State.actTMP
  try dsimp only
  repeat' first
    | (with_reducible assumption)
    | (with_reducible exact Sub.all hp)
    | (with_reducible exact hp)
    | (with_reducible exact hp _)
    | (with_reducible apply State.plainWrite_kept)
    | (with_reducible apply State.tmpEnable_kept)
    | (with_reducible apply State.tmpHostMeas_kept)
    | split
    | (intro _)
    | (dsimp only)

theorem State.actDAL_kept {s : State} (h_s : Kept T s₀ s) (addr : Nat) (w : Nat) (ones : Nat) (hp : ∀ i, T i) : Kept T s₀ (State.actDAL s addr w ones) := by
  unfold State.actDAL
  try dsimp only
  repeat' first
    | (with_reducible assumption)
    | (with_reducible exact Sub.all hp)
    | (with_reducible exact hp)
    | (with_reducible exact hp _)
    | (with_reducible apply State.rawRequest_kept)
    | (with_reducible apply State.plainWrite_kept)
    | split
    | (intro _)
    | (dsimp only)

theorem State.actEMU_kept {s : State} (h_s : Kept T s₀ s) (addr : Nat) (w : Nat) (ones : Nat) (hp : ∀ i, T i) : Kept T s₀ (State.actEMU s addr w ones) := by
  unfold State.actEMU
  try dsimp only
  repeat' first
    | (with_reducible assumption)
    | (with_reducible exact Sub.all hp)
    | (with_reducible exact hp)
    | (with_reducible exact hp _)
    | (with_reducible apply State.plainWrite_kept)
    | (with_reducible apply State.emuEnable_kept)
    | (with_reducible apply State.emuStore_kept)
    | (with_reducible apply State.emuCheck_kept)
    | (with_reducible apply State.emuClear_kept)
    | split
    | (intro _)
    | (dsimp only)

theorem State.actEMUR_kept {s : State} (h_s : Kept T s₀ s) (addr : Nat) (w : Nat) (ones : Nat) (hp : ∀ i, T i) : Kept T s₀ (State.actEMUR s addr w ones) := by
  unfold State.actEMUR
  try dsimp only
  repeat' first
    | (with_reducible assumption)
    | (with_reducible exact Sub.all hp)
    | (with_reducible exact hp)
    | (with_reducible exact hp _)
    | (with_reducible apply State.plainWrite_kept)
    | (with_reducible apply State.emurEnable_kept)
    | (with_reducible apply State.emurMoved_kept)
    | split
    | (intro _)
    | (dsimp only)

theorem State.actSWF_kept {s : State} (h_s : Kept T s₀ s) (addr : Nat) (w : Nat) (ones : Nat) (hp : ∀ i, T i) : Kept T s₀ (State.actSWF s addr w ones) := by
  unfold State.actSWF
  try dsimp only
  repeat' first
    | (with_reducible assumption)
    | (with_reducible exact Sub.all hp)
    | (with_reducible exact hp)
    | (with_reducible exact hp _)
    | (with_reducible apply State.plainWrite_kept)
    | (with_reducible apply State.clkClamp_kept)
    | (with_reducible apply State.fdbCommand_kept)
    | (with_reducible apply State.mdioCommand_kept)
    | split
    | (intro _)
    | (dsimp only)

theorem State.actETP_kept {s : State} (h_s : Kept T s₀ s) (k : Nat) (addr : Nat) (w : Nat) (ones : Nat) (hp : ∀ i, T i) : Kept T s₀ (State.actETP s k addr w ones) := by
  unfold State.actETP
  try dsimp only
  repeat' first
    | (with_reducible assumption)
    | (with_reducible exact Sub.all hp)
    | (with_reducible exact hp)
    | (with_reducible exact hp _)
    | (with_reducible apply State.plainWrite_kept)
    | (with_reducible apply State.etpCtrl_kept)
    | (with_reducible apply State.fwdWrite_kept)
    | split
    | (intro _)
    | (dsimp only)

theorem State.actHDM_kept {s : State} (h_s : Kept T s₀ s) (addr : Nat) (w : Nat) (ones : Nat) (hp : ∀ i, T i) : Kept T s₀ (State.actHDM s addr w ones) := by
  unfold State.actHDM
  try dsimp only
  repeat' first
    | (with_reducible assumption)
    | (with_reducible exact Sub.all hp)
    | (with_reducible exact hp)
    | (with_reducible exact hp _)
    | (with_reducible apply State.plainWrite_kept)
    | (with_reducible apply State.hdmEnable_kept)
    | (with_reducible apply State.ringSizeWrite_kept)
    | split
    | (lift_lets; intro x; refine Kept.cut (s := x) ?_ (fun hx => ?_) <;> [subst x; clear_value x])
    | (intro x; refine Kept.cut (s := x) ?_ (fun hx => ?_) <;> [subst x; clear_value x])
    | (lift_lets; intro x; subst x)
    | (intro x; subst x)
    | (intro _)
    | (dsimp only)

theorem State.actTIM_kept {s : State} (h_s : Kept T s₀ s) (addr : Nat) (w : Nat) (ones : Nat) (hp : ∀ i, T i) : Kept T s₀ (State.actTIM s addr w ones) := by
  unfold State.actTIM
  try dsimp only
  repeat' first
    | (with_reducible assumption)
    | (with_reducible exact Sub.all hp)
    | (with_reducible exact hp)
    | (with_reducible exact hp _)
    | (with_reducible apply State.plainWrite_kept)
    | (with_reducible apply State.timCfgErr_kept)
    | (with_reducible apply State.ptpFollow_kept)
    | (with_reducible apply State.hostRate_kept)
    | (with_reducible apply State.hostStep_kept)
    | (with_reducible apply State.hostState_kept)
    | (with_reducible apply State.wr_kept)
    | (with_reducible apply State.capture_kept)
    | (with_reducible apply State.tsPop_kept)
    | (fail_if_no_progress ((with_reducible refine Kept.mkOther ?_ ?_ ?_ (fun q hq => absurd (hp _) hq)) <;> [skip; exact rfl; exact rfl]))
    | split
    | (lift_lets; intro x; refine Kept.cut (s := x) ?_ (fun hx => ?_) <;> [subst x; clear_value x])
    | (intro x; refine Kept.cut (s := x) ?_ (fun hx => ?_) <;> [subst x; clear_value x])
    | (lift_lets; intro x; subst x)
    | (intro x; subst x)
    | (intro _)
    | (dsimp only)

theorem State.actRTC_kept {s : State} (h_s : Kept T s₀ s) (addr : Nat) (w : Nat) (ones : Nat) (hp : ∀ i, T i) : Kept T s₀ (State.actRTC s addr w ones) := by
  unfold State.actRTC
  try dsimp only
  repeat' first
    | (with_reducible assumption)
    | (with_reducible exact Sub.all hp)
    | (with_reducible exact hp)
    | (with_reducible exact hp _)
    | (with_reducible apply State.rtcSetFields_kept)
    | (with_reducible apply State.rtcSetCount_kept)
    | (with_reducible apply State.rtcLeapWrite_kept)
    | (with_reducible apply State.plainWrite_kept)
    | split
    | (intro _)
    | (dsimp only)

theorem State.slqCfgWrite_kept {s : State} (h_s : Kept T s₀ s) (q : Nat) (w : Nat) (hp : Sub 0x40000020000000002 T) : Kept T s₀ (State.slqCfgWrite s q w) := by
  unfold State.slqCfgWrite
  try dsimp only
  repeat' first
    | (with_reducible assumption)
    | ((with_reducible refine Sub.trans hp ?_); rfl)
    | ((with_reducible refine Sub.bit hp ?_); decide)
    | ((with_reducible refine Sub.bitEq hp (qPolicy_slot _) ?_); rfl)
    | ((with_reducible refine Sub.bitEq hp (qCells_slot _) ?_); rfl)
    | (with_reducible apply State.wr_kept)
    | (with_reducible apply State.slqErr_kept)
    | split
    | (intro _)
    | (dsimp only)

theorem State.slqCommand_kept {s : State} (h_s : Kept T s₀ s) (port : Port) (q : Nat) (op : Nat) (hp : Sub 0x4440000020100003002 T) : Kept T s₀ (State.slqCommand s port q op) := by
  unfold State.slqCommand
  try dsimp only
  repeat' first
    | (with_reducible assumption)
    | ((with_reducible refine Sub.trans hp ?_); rfl)
    | ((with_reducible refine Sub.bit hp ?_); decide)
    | (with_reducible apply State.slqClrMax_kept)
    | (with_reducible apply State.slqFlush_kept)
    | (with_reducible apply State.slqDrop_kept)
    | (with_reducible apply State.slqMark_kept)
    | (with_reducible apply State.slqRewind_kept)
    | (with_reducible apply State.slqClearMark_kept)
    | (with_reducible apply State.slqAbort_kept)
    | split
    | (intro _)
    | (dsimp only)

theorem State.actSLQ_kept {s : State} (h_s : Kept T s₀ s) (port : Port) (addr : Nat) (w : Nat) (ones : Nat) (hp : ∀ i, T i) : Kept T s₀ (State.actSLQ s port addr w ones) := by
  unfold State.actSLQ
  try dsimp only
  repeat' first
    | (with_reducible assumption)
    | (with_reducible exact Sub.all hp)
    | (with_reducible exact hp)
    | (with_reducible exact hp _)
    | (with_reducible apply State.slqCfgWrite_kept)
    | (with_reducible apply State.slqCommand_kept)
    | (with_reducible apply State.slqDownWord_kept)
    | (with_reducible apply State.slqDownCommit_kept)
    | (with_reducible apply State.plainWrite_kept)
    | (with_reducible apply State.slqSettle_kept)
    | (with_reducible apply State.slqEnable_kept)
    | split
    | (lift_lets; intro x; refine Kept.cut (s := x) ?_ (fun hx => ?_) <;> [subst x; clear_value x])
    | (intro x; refine Kept.cut (s := x) ?_ (fun hx => ?_) <;> [subst x; clear_value x])
    | (lift_lets; intro x; subst x)
    | (intro x; subst x)
    | (intro _)
    | (dsimp only)

theorem State.actCLM_kept {s : State} (h_s : Kept T s₀ s) (addr : Nat) (w : Nat) (ones : Nat) (hp : ∀ i, T i) : Kept T s₀ (State.actCLM s addr w ones) := by
  unfold State.actCLM
  try dsimp only
  repeat' first
    | (with_reducible assumption)
    | (with_reducible exact Sub.all hp)
    | (with_reducible exact hp)
    | (with_reducible exact hp _)
    | (with_reducible apply State.clmEnable_kept)
    | (with_reducible apply State.plainWrite_kept)
    | (with_reducible apply State.swapDated_kept)
    | (with_reducible apply State.revertWatch_kept)
    | (with_reducible apply State.clmCommand_kept)
    | split
    | (intro _)
    | (dsimp only)

theorem State.actTPR_kept {s : State} (h_s : Kept T s₀ s) (addr : Nat) (w : Nat) (ones : Nat) (hp : ∀ i, T i) : Kept T s₀ (State.actTPR s addr w ones) := by
  unfold State.actTPR
  try dsimp only
  repeat' first
    | (with_reducible assumption)
    | (with_reducible exact Sub.all hp)
    | (with_reducible exact hp)
    | (with_reducible exact hp _)
    | (with_reducible apply State.tprCfg_kept)
    | (with_reducible apply State.tprClear_kept)
    | (with_reducible apply State.plainWrite_kept)
    | split
    | (intro _)
    | (dsimp only)

theorem State.actSLT_kept {s : State} (h_s : Kept T s₀ s) (port : Port) (addr : Nat) (w : Nat) (ones : Nat) (hp : ∀ i, T i) : Kept T s₀ (State.actSLT s port addr w ones) := by
  unfold State.actSLT
  try dsimp only
  repeat' first
    | (with_reducible assumption)
    | (with_reducible exact Sub.all hp)
    | (with_reducible exact hp)
    | (with_reducible exact hp _)
    | (with_reducible apply State.sltCmd_kept)
    | (with_reducible apply State.plainWrite_kept)
    | split
    | (intro _)
    | (dsimp only)

theorem State.sivModeWrite_kept {s : State} (h_s : Kept T s₀ s) (v : Nat) (hp : Sub 0x800000000000000010 T) : Kept T s₀ (State.sivModeWrite s v) := by
  unfold State.sivModeWrite
  try dsimp only
  repeat' first
    | (with_reducible assumption)
    | ((with_reducible refine Sub.trans hp ?_); rfl)
    | ((with_reducible refine Sub.bit hp ?_); decide)
    | (with_reducible apply State.wr_kept)
    | (fail_if_no_progress ((with_reducible refine Kept.mkOther ?_ ?_ ?_ (fun q hq => ?_)) <;> [skip; exact rfl; exact rfl; (cases q <;> first | with_reducible exact rfl | exact fun f _ => State.rd_congr rfl f | exact absurd (Sub.bit hp rfl) hq)]))
    | split
    | (lift_lets; intro x; refine Kept.cut (s := x) ?_ (fun hx => ?_) <;> [subst x; clear_value x])
    | (intro x; refine Kept.cut (s := x) ?_ (fun hx => ?_) <;> [subst x; clear_value x])
    | (lift_lets; intro x; subst x)
    | (intro x; subst x)
    | (intro _)
    | (dsimp only)

theorem State.actSIV_kept {s : State} (h_s : Kept T s₀ s) (addr : Nat) (w : Nat) (ones : Nat) (hp : ∀ i, T i) : Kept T s₀ (State.actSIV s addr w ones) := by
  unfold State.actSIV
  try dsimp only
  repeat' first
    | (with_reducible assumption)
    | (with_reducible exact Sub.all hp)
    | (with_reducible exact hp)
    | (with_reducible exact hp _)
    | (with_reducible apply State.sivModeWrite_kept)
    | (with_reducible apply State.sivRegCfg_kept)
    | (with_reducible apply State.sivCommand_kept)
    | (with_reducible apply State.plainWrite_kept)
    | split
    | (intro _)
    | (dsimp only)

theorem State.fallback_kept {s : State} (h_s : Kept T s₀ s) (p : Nat) (hp : ∀ i, T i) : Kept T s₀ (State.fallback s p) := by
  unfold State.fallback
  try dsimp only
  repeat' first
    | (with_reducible assumption)
    | (with_reducible exact Sub.all hp)
    | (with_reducible exact hp)
    | (with_reducible exact hp _)
    | (with_reducible refine State.wrAll_nil_kept ?_)
    | (with_reducible refine State.wrAll_cons_kept ?_)
    | (with_reducible refine State.wrAll_kept ?_ _ ?_ ?_)
    | (with_reducible apply State.wr_kept)
    | (with_reducible apply State.silt_kept)
    | (with_reducible apply State.siltDrain_kept)
    | (with_reducible apply State.warmReset_kept)
    | (fail_if_no_progress ((with_reducible refine Kept.mkOther ?_ ?_ ?_ (fun q hq => absurd (hp _) hq)) <;> [skip; exact rfl; exact rfl]))
    | (lift_lets; intro x; refine Kept.cut (s := x) ?_ (fun hx => ?_) <;> [subst x; clear_value x])
    | (intro x; refine Kept.cut (s := x) ?_ (fun hx => ?_) <;> [subst x; clear_value x])
    | (lift_lets; intro x; subst x)
    | (intro x; subst x)
    | (intro _)
    | (dsimp only)

theorem State.grgRollback_kept {s : State} (h_s : Kept T s₀ s) (p : Nat) (hp : ∀ i, T i) : Kept T s₀ (State.grgRollback s p) := by
  unfold State.grgRollback
  try dsimp only
  repeat' first
    | (with_reducible assumption)
    | (with_reducible exact Sub.all hp)
    | (with_reducible exact hp)
    | (with_reducible exact hp _)
    | (with_reducible apply State.wr_kept)
    | (with_reducible apply State.fallback_kept)
    | split
    | (intro _)
    | (dsimp only)

theorem State.grgCommand_kept {s : State} (h_s : Kept T s₀ s) (w : Nat) (hp : ∀ i, T i) : Kept T s₀ (State.grgCommand s w) := by
  unfold State.grgCommand
  try dsimp only
  repeat' first
    | (with_reducible assumption)
    | (with_reducible exact Sub.all hp)
    | (with_reducible exact hp)
    | (with_reducible exact hp _)
    | (with_reducible apply State.grgActivate_kept)
    | (with_reducible apply State.grgConfirmCmd_kept)
    | (with_reducible apply State.grgRollback_kept)
    | (with_reducible apply State.campaignStart_kept)
    | (with_reducible apply State.nodeActivate_kept)
    | (with_reducible apply State.campaignStop_kept)
    | split
    | (lift_lets; intro x; refine Kept.cut (s := x) ?_ (fun hx => ?_) <;> [subst x; clear_value x])
    | (intro x; refine Kept.cut (s := x) ?_ (fun hx => ?_) <;> [subst x; clear_value x])
    | (lift_lets; intro x; subst x)
    | (intro x; subst x)
    | (intro _)
    | (dsimp only)

theorem State.actGRG_kept {s : State} (h_s : Kept T s₀ s) (addr : Nat) (w : Nat) (ones : Nat) (hp : ∀ i, T i) : Kept T s₀ (State.actGRG s addr w ones) := by
  unfold State.actGRG
  try dsimp only
  repeat' first
    | (with_reducible assumption)
    | (with_reducible exact Sub.all hp)
    | (with_reducible exact hp)
    | (with_reducible exact hp _)
    | (with_reducible apply State.whenSup_kept)
    | (with_reducible apply State.grgCommand_kept)
    | (with_reducible apply State.plainWrite_kept)
    | split
    | (lift_lets; intro x; refine Kept.cut (s := x) ?_ (fun hx => ?_) <;> [subst x; clear_value x])
    | (intro x; refine Kept.cut (s := x) ?_ (fun hx => ?_) <;> [subst x; clear_value x])
    | (lift_lets; intro x; subst x)
    | (intro x; subst x)
    | (intro _)
    | (dsimp only)

theorem State.actMRL_kept {s : State} (h_s : Kept T s₀ s) (addr : Nat) (w : Nat) (ones : Nat) (hp : ∀ i, T i) : Kept T s₀ (State.actMRL s addr w ones) := by
  unfold State.actMRL
  try dsimp only
  repeat' first
    | (with_reducible assumption)
    | (with_reducible exact Sub.all hp)
    | (with_reducible exact hp)
    | (with_reducible exact hp _)
    | (with_reducible apply State.mrlCommand_kept)
    | (with_reducible apply State.plainWrite_kept)
    | split
    | (intro _)
    | (dsimp only)

theorem State.actPage_kept {s : State} (h_s : Kept T s₀ s) (port : Port) (addr : Nat) (w : Nat) (ones : Nat) (hp : ∀ i, T i) : Kept T s₀ (State.actPage s port addr w ones) := by
  unfold State.actPage
  try dsimp only
  repeat' first
    | (with_reducible assumption)
    | (with_reducible exact Sub.all hp)
    | (with_reducible exact hp)
    | (with_reducible exact hp _)
    | (with_reducible apply State.actSYS_kept)
    | (with_reducible apply State.actHIF_kept)
    | (with_reducible apply State.actRFE_kept)
    | (with_reducible apply State.actMAC_kept)
    | (with_reducible apply State.actNTB_kept)
    | (with_reducible apply State.actDRF_kept)
    | (with_reducible apply State.actSCH_kept)
    | (with_reducible apply State.actTMP_kept)
    | (with_reducible apply State.actDAL_kept)
    | (with_reducible apply State.actEMU_kept)
    | (with_reducible apply State.actEMUR_kept)
    | (with_reducible apply State.actSWF_kept)
    | (with_reducible apply State.actETP_kept)
    | (with_reducible apply State.actHDM_kept)
    | (with_reducible apply State.actTIM_kept)
    | (with_reducible apply State.actRTC_kept)
    | (with_reducible apply State.actSLQ_kept)
    | (with_reducible apply State.actCLM_kept)
    | (with_reducible apply State.actTPR_kept)
    | (with_reducible apply State.actSLT_kept)
    | (with_reducible apply State.actSIV_kept)
    | (with_reducible apply State.actGRG_kept)
    | (with_reducible apply State.actMRL_kept)
    | (with_reducible apply State.plainWrite_kept)
    | split
    | (intro _)
    | (dsimp only)

theorem State.regAction_kept {s : State} (h_s : Kept T s₀ s) (port : Port) (addr : Nat) (w : Nat) (ones : Nat) (hp : ∀ i, T i) : Kept T s₀ (State.regAction s port addr w ones) := by
  unfold State.regAction
  try dsimp only
  repeat' first
    | (with_reducible assumption)
    | (with_reducible exact Sub.all hp)
    | (with_reducible exact hp)
    | (with_reducible exact hp _)
    | (with_reducible apply State.wr_kept)
    | (with_reducible apply State.slqSettle_kept)
    | (with_reducible apply State.edgesSince_kept)
    | (with_reducible apply State.actPage_kept)
    | (with_reducible refine Kept.foldl _ _ ?_ (fun _ _ _ => ?_))
    | split
    | (lift_lets; intro x; refine Kept.cut (s := x) ?_ (fun hx => ?_) <;> [subst x; clear_value x])
    | (intro x; refine Kept.cut (s := x) ?_ (fun hx => ?_) <;> [subst x; clear_value x])
    | (lift_lets; intro x; subst x)
    | (intro x; subst x)
    | (intro _)
    | (dsimp only)

theorem State.regWrite_kept {s : State} (h_s : Kept T s₀ s) (port : Port) (addr : Nat) (value : Nat) (be : Nat) (hp : ∀ i, T i) : Kept T s₀ (State.regWrite s port addr value be) := by
  unfold State.regWrite
  try dsimp only
  repeat' first
    | (with_reducible assumption)
    | (with_reducible exact Sub.all hp)
    | (with_reducible exact hp)
    | (with_reducible exact hp _)
    | (with_reducible apply State.effect_kept)
    | (with_reducible apply State.regAction_kept)
    | (with_reducible apply State.plainWrite_kept)
    | split
    | (lift_lets; intro x; refine Kept.cut (s := x) ?_ (fun hx => ?_) <;> [subst x; clear_value x])
    | (intro x; refine Kept.cut (s := x) ?_ (fun hx => ?_) <;> [subst x; clear_value x])
    | (lift_lets; intro x; subst x)
    | (intro x; subst x)
    | (intro _)
    | (dsimp only)

theorem State.macWordWrite_kept {s : State} (h_s : Kept T s₀ s) (off : Nat) (w : Nat) (hp : Sub 0x1 T) : Kept T s₀ (State.macWordWrite s off w) := by
  unfold State.macWordWrite
  try dsimp only
  repeat' first
    | (with_reducible assumption)
    | ((with_reducible refine Sub.trans hp ?_); rfl)
    | ((with_reducible refine Sub.bit hp ?_); decide)
    | (with_reducible apply State.setN_kept)
    | split
    | (lift_lets; intro x; refine Kept.cut (s := x) ?_ (fun hx => ?_) <;> [subst x; clear_value x])
    | (intro x; refine Kept.cut (s := x) ?_ (fun hx => ?_) <;> [subst x; clear_value x])
    | (lift_lets; intro x; subst x)
    | (intro x; subst x)
    | (intro _)
    | (dsimp only)

theorem State.shpWordWrite_kept {s : State} (h_s : Kept T s₀ s) (off : Nat) (w : Nat) (hp : Sub 0x1 T) : Kept T s₀ (State.shpWordWrite s off w) := by
  unfold State.shpWordWrite
  try dsimp only
  repeat' first
    | (with_reducible assumption)
    | ((with_reducible refine Sub.trans hp ?_); rfl)
    | ((with_reducible refine Sub.bit hp ?_); decide)
    | (with_reducible apply State.setN_kept)
    | split
    | (lift_lets; intro x; refine Kept.cut (s := x) ?_ (fun hx => ?_) <;> [subst x; clear_value x])
    | (intro x; refine Kept.cut (s := x) ?_ (fun hx => ?_) <;> [subst x; clear_value x])
    | (lift_lets; intro x; subst x)
    | (intro x; subst x)
    | (intro _)
    | (dsimp only)

theorem State.winStore_kept {s : State} (h_s : Kept T s₀ s) (page : Nat) (off : Nat) (w : Nat) (hp : Sub 0xaa0000014003 T) : Kept T s₀ (State.winStore s page off w) := by
  unfold State.winStore
  try dsimp only
  repeat' first
    | (with_reducible assumption)
    | ((with_reducible refine Sub.trans hp ?_); rfl)
    | ((with_reducible refine Sub.bit hp ?_); decide)
    | (with_reducible apply State.bandWordWrite_kept)
    | (with_reducible apply State.chnWordWrite_kept)
    | (with_reducible apply State.macWordWrite_kept)
    | (with_reducible apply State.ntbWordWrite_kept)
    | (with_reducible apply State.drfWordWrite_kept)
    | (with_reducible apply State.schWordWrite_kept)
    | (with_reducible apply State.tmpWordWrite_kept)
    | (with_reducible apply State.shpWordWrite_kept)
    | (with_reducible apply State.emurWordWrite_kept)
    | (with_reducible apply State.setN_kept)
    | split
    | (intro _)
    | (dsimp only)

theorem State.winSettle_kept {s : State} {before : State} (h_s : Kept T s₀ s) (h_before : Kept T s₀ before) (page : Nat) (offs : List Nat) (hp : Sub 0x430e0000884003 T) : Kept T s₀ (State.winSettle s before page offs) := by
  unfold State.winSettle
  try dsimp only
  repeat' first
    | (with_reducible assumption)
    | ((with_reducible refine Sub.trans hp ?_); rfl)
    | ((with_reducible refine Sub.bit hp ?_); decide)
    | (with_reducible apply State.bandChanged_kept)
    | (with_reducible apply State.slotsCheck_kept)
    | (with_reducible apply State.schCheck_kept)
    | (with_reducible apply State.tmpSettle_kept)
    | (with_reducible apply State.emurSettle_kept)
    | (with_reducible refine Kept.foldl _ _ ?_ (fun _ _ _ => ?_))
    | split
    | (lift_lets; intro x; refine Kept.cut (s := x) ?_ (fun hx => ?_) <;> [subst x; clear_value x])
    | (intro x; refine Kept.cut (s := x) ?_ (fun hx => ?_) <;> [subst x; clear_value x])
    | (lift_lets; intro x; subst x)
    | (intro x; subst x)
    | (intro _)
    | (dsimp only)

theorem State.settleWindows_kept {s : State} {before : State} (h_s : Kept T s₀ s) (h_before : Kept T s₀ before) (addrs : List Nat) (hp : Sub 0x430e0000884003 T) : Kept T s₀ (State.settleWindows s before addrs) := by
  unfold State.settleWindows
  try dsimp only
  repeat' first
    | (with_reducible assumption)
    | ((with_reducible refine Sub.trans hp ?_); rfl)
    | ((with_reducible refine Sub.bit hp ?_); decide)
    | (with_reducible apply State.winSettle_kept)
    | (with_reducible refine Kept.foldl _ _ ?_ (fun _ _ _ => ?_))
    | (lift_lets; intro x; refine Kept.cut (s := x) ?_ (fun hx => ?_) <;> [subst x; clear_value x])
    | (intro x; refine Kept.cut (s := x) ?_ (fun hx => ?_) <;> [subst x; clear_value x])
    | (lift_lets; intro x; subst x)
    | (intro x; subst x)
    | (intro _)
    | (dsimp only)

theorem State.winAction_kept {s : State} (h_s : Kept T s₀ s) (page : Nat) (off : Nat) (w : Nat) (hp : Sub 0x43ae0000894003 T) : Kept T s₀ (State.winAction s page off w) := by
  unfold State.winAction
  try dsimp only
  repeat' first
    | (with_reducible assumption)
    | ((with_reducible refine Sub.trans hp ?_); rfl)
    | ((with_reducible refine Sub.bit hp ?_); decide)
    | (with_reducible apply State.winStore_kept)
    | (with_reducible apply State.winSettle_kept)
    | (intro _)
    | (dsimp only)

theorem State.winWrite_kept {s : State} (h_s : Kept T s₀ s) (port : Port) (addr : Nat) (value : Nat) (be : Nat) (hp : Sub 0x40043ae0400897303 T) : Kept T s₀ (State.winWrite s port addr value be) := by
  unfold State.winWrite
  try dsimp only
  repeat' first
    | (with_reducible assumption)
    | ((with_reducible refine Sub.trans hp ?_); rfl)
    | ((with_reducible refine Sub.bit hp ?_); decide)
    | (with_reducible apply State.working_kept)
    | (with_reducible apply State.slqErr_kept)
    | (with_reducible apply State.slqDownWord_kept)
    | (with_reducible apply State.hostWrote_kept)
    | (with_reducible apply State.winAction_kept)
    | split
    | (lift_lets; intro x; refine Kept.cut (s := x) ?_ (fun hx => ?_) <;> [subst x; clear_value x])
    | (intro x; refine Kept.cut (s := x) ?_ (fun hx => ?_) <;> [subst x; clear_value x])
    | (lift_lets; intro x; subst x)
    | (intro x; subst x)
    | (intro _)
    | (dsimp only)

end Sys2Proof.Machine
end

