-- ==== Sys2Proof/Laws/KeepScrub.lean ====
section
/-! SUPPORT. What the operations of Machine/Scrub.lean keep. -/

set_option Elab.async false
set_option linter.unusedTactic false
set_option linter.unreachableTactic false
set_option linter.unusedVariables false

namespace Sys2Proof.Machine

variable {T : Nat → Prop} {s₀ : State}

theorem State.swfLose_kept {s : State} (h_s : Kept T s₀ s) (id : Nat) (hp : Sub 0x437f00120101004c12 T) : Kept T s₀ (State.swfLose s id) := by
  unfold State.swfLose
  try dsimp only
  repeat' first
    | (with_reducible assumption)
    | ((with_reducible refine Sub.trans hp ?_); rfl)
    | ((with_reducible refine Sub.bit hp ?_); decide)
    | (with_reducible apply State.giveUp_kept)
    | (with_reducible apply State.count_kept)
    | (with_reducible apply State.notice_kept)
    | (with_reducible apply State.pauseFalls_kept)
    | (with_reducible refine Kept.foldl _ _ ?_ (fun _ _ _ => ?_))
    | (fail_if_no_progress ((with_reducible refine Kept.mkOther ?_ ?_ ?_ (fun q hq => ?_)) <;> [skip; exact rfl; exact rfl; (cases q <;> first | with_reducible exact rfl | exact fun f _ => State.rd_congr rfl f | exact absurd (Sub.bit hp rfl) hq)]))
    | split
    | (lift_lets; intro x; refine Kept.cut (s := x) ?_ (fun hx => ?_) <;> [subst x; clear_value x])
    | (intro x; refine Kept.cut (s := x) ?_ (fun hx => ?_) <;> [subst x; clear_value x])
    | (lift_lets; intro x; subst x)
    | (intro x; subst x)
    | (intro _)
    | (dsimp only)

theorem State.drfLose_kept {s : State} (h_s : Kept T s₀ s) (m : Nat) (item : Nat) (hp : Sub 0x20000 T) : Kept T s₀ (State.drfLose s m item) := by
  unfold State.drfLose
  try dsimp only
  repeat' first
    | (with_reducible assumption)
    | ((with_reducible refine Sub.trans hp ?_); rfl)
    | ((with_reducible refine Sub.bit hp ?_); decide)
    | (fail_if_no_progress ((with_reducible refine Kept.mkOther ?_ ?_ ?_ (fun q hq => ?_)) <;> [skip; exact rfl; exact rfl; (cases q <;> first | with_reducible exact rfl | exact fun f _ => State.rd_congr rfl f | exact absurd (Sub.bit hp rfl) hq)]))
    | split
    | (intro _)
    | (dsimp only)

theorem State.bufLose_kept {s : State} (h_s : Kept T s₀ s) (item : Nat) (hp : Sub 0x4000 T) : Kept T s₀ (State.bufLose s item) :=
  h_s.of rfl (le_refl _) (List.prefix_refl _) (fun k => ⟨k.regs, k.win, k.intake, k.log, k.lrp, k.pcie, (List.eraseIdx_sublist _ _).length_le.trans k.frames, k.queue⟩) (fun q hq => by cases q <;> first | exact rfl | exact fun f _ => State.rd_congr rfl f | exact absurd (Sub.bit hp rfl) hq)

theorem State.hpnLose_kept {s : State} (h_s : Kept T s₀ s) (m : Nat) (item : Nat) (hp : Sub 0x4540000020108003002 T) : Kept T s₀ (State.hpnLose s m item) := by
  unfold State.hpnLose
  try dsimp only
  repeat' first
    | (with_reducible assumption)
    | ((with_reducible refine Sub.trans hp ?_); rfl)
    | ((with_reducible refine Sub.bit hp ?_); decide)
    | (with_reducible apply State.badSlot_kept)
    | (with_reducible apply State.zeroise_kept)
    | (with_reducible apply State.silt_kept)
    | split
    | (intro _)
    | (dsimp only)

theorem State.ownerLoses_kept {s : State} (h_s : Kept T s₀ s) (m : Nat) (page : Nat) (item : Nat) (hp : Sub 0x4577f023201890b7c13 T) : Kept T s₀ (State.ownerLoses s m page item) := by
  unfold State.ownerLoses
  try dsimp only
  repeat' first
    | (with_reducible assumption)
    | ((with_reducible refine Sub.trans hp ?_); rfl)
    | ((with_reducible refine Sub.bit hp ?_); decide)
    | (with_reducible apply State.bufLose_kept)
    | (with_reducible apply State.ntbCheckFails_kept)
    | (with_reducible apply State.drfLose_kept)
    | (with_reducible apply State.tmpFail_kept)
    | (with_reducible apply State.tmpLose_kept)
    | (with_reducible apply State.swfLose_kept)
    | (with_reducible apply State.slqLose_kept)
    | (with_reducible apply State.hpnLose_kept)
    | (fail_if_no_progress ((with_reducible refine Kept.mkOther ?_ ?_ ?_ (fun q hq => ?_)) <;> [skip; exact rfl; exact rfl; (cases q <;> first | with_reducible exact rfl | exact fun f _ => State.rd_congr rfl f | exact absurd (Sub.bit hp rfl) hq)]))
    | split
    | (intro _)
    | (dsimp only)

theorem State.itgFound_kept {s : State} (h_s : Kept T s₀ s) (m : Nat) (e : ScrubFound) (hp : Sub 0x4577f023201890b7c17 T) : Kept T s₀ (State.itgFound s m e) := by
  unfold State.itgFound
  try dsimp only
  repeat' first
    | (with_reducible assumption)
    | ((with_reducible refine Sub.trans hp ?_); rfl)
    | ((with_reducible refine Sub.bit hp ?_); decide)
    | (with_reducible apply State.itgRead_kept)
    | (with_reducible apply State.itgRead_pair (by assumption))
    | (with_reducible apply State.ownerLoses_kept)
    | split
    | (lift_lets; intro x; refine Kept.cut (s := x) ?_ (fun hx => ?_) <;> [subst x; clear_value x])
    | (intro x; refine Kept.cut (s := x) ?_ (fun hx => ?_) <;> [subst x; clear_value x])
    | (lift_lets; intro x; subst x)
    | (intro x; subst x)
    | (intro _)
    | (dsimp only)

theorem State.itgPass_kept {s : State} (h_s : Kept T s₀ s) (m : Nat) (found : List ScrubFound) (hp : Sub 0x4577f023201890b7c17 T) : Kept T s₀ (State.itgPass s m found) := by
  unfold State.itgPass
  try dsimp only
  repeat' first
    | (with_reducible assumption)
    | ((with_reducible refine Sub.trans hp ?_); rfl)
    | ((with_reducible refine Sub.bit hp ?_); decide)
    | (with_reducible apply State.itgFound_kept)
    | (with_reducible apply State.notice_kept)
    | (with_reducible refine Kept.foldl _ _ ?_ (fun _ _ _ => ?_))
    | split
    | (lift_lets; intro x; refine Kept.cut (s := x) ?_ (fun hx => ?_) <;> [subst x; clear_value x])
    | (intro x; refine Kept.cut (s := x) ?_ (fun hx => ?_) <;> [subst x; clear_value x])
    | (lift_lets; intro x; subst x)
    | (intro x; subst x)
    | (intro _)
    | (dsimp only)

end Sys2Proof.Machine
end

