-- ==== Sys2Proof/Laws/KeepPorts.lean ====
section
/-! SUPPORT. What the operations of Machine/Ports.lean keep. -/

set_option Elab.async false
set_option linter.unusedTactic false
set_option linter.unreachableTactic false
set_option linter.unusedVariables false

namespace Sys2Proof.Machine

variable {T : Nat → Prop} {s₀ : State}

theorem State.applyWrite_kept {s : State} (h_s : Kept T s₀ s) (port : Port) (w : PortWrite) (hp : ∀ i, T i) : Kept T s₀ (State.applyWrite s port w) := by
  unfold State.applyWrite
  try dsimp only
  repeat' first
    | (with_reducible assumption)
    | (with_reducible exact Sub.all hp)
    | (with_reducible exact hp)
    | (with_reducible exact hp _)
    | (with_reducible apply State.winWrite_kept)
    | (with_reducible apply State.regWrite_kept)
    | split
    | (intro _)
    | (dsimp only)

theorem State.stage_kept {s : State} (h_s : Kept T s₀ s) (port : Port) (w : PortWrite) (hp : Sub 0x20000000302 T) : Kept T s₀ (State.stage s port w) := by
  unfold State.stage
  try dsimp only
  repeat' first
    | (with_reducible assumption)
    | ((with_reducible refine Sub.trans hp ?_); rfl)
    | ((with_reducible refine Sub.bit hp ?_); decide)
    | (with_reducible refine State.setPort_same rfl ?_ ?_)
    | (with_reducible apply State.notice_kept)
    | split
    | (lift_lets; intro x; refine Kept.cut (s := x) ?_ (fun hx => ?_) <;> [subst x; clear_value x])
    | (intro x; refine Kept.cut (s := x) ?_ (fun hx => ?_) <;> [subst x; clear_value x])
    | (lift_lets; intro x; subst x)
    | (intro x; subst x)
    | (intro _)
    | (dsimp only)

theorem State.deliverWord_kept {s : State} (h_s : Kept T s₀ s) (port : Port) (w : PortWrite) (hp : ∀ i, T i) : Kept T s₀ (State.deliverWord s port w) := by
  unfold State.deliverWord
  try dsimp only
  repeat' first
    | (with_reducible assumption)
    | (with_reducible exact Sub.all hp)
    | (with_reducible exact hp)
    | (with_reducible exact hp _)
    | (with_reducible apply State.stage_kept)
    | (with_reducible apply State.applyWrite_kept)
    | split
    | (intro _)
    | (dsimp only)

theorem State.deliver_kept {s : State} (h_s : Kept T s₀ s) (port : Port) (w : PortWrite) (hp : ∀ i, T i := by assumption) : Kept T s₀ (State.deliver s port w) := by
  unfold State.deliver
  try dsimp only
  repeat' first
    | (with_reducible assumption)
    | (with_reducible exact Sub.all hp)
    | (with_reducible exact hp)
    | (with_reducible exact hp _)
    | (with_reducible apply State.wr_kept)
    | (with_reducible apply State.deliverWord_kept)
    | split
    | (intro _)
    | (dsimp only)

theorem State.deliverNext_kept {s : State} (h_s : Kept T s₀ s) (port : Port) (hp : ∀ i, T i) : Kept T s₀ (State.deliverNext s port) := by
  unfold State.deliverNext
  split
  · exact h_s
  · rename_i w t q
    split
    · exact h_s
    · refine State.deliver_kept (State.setPort_kept (.inr ?_) h_s) _ _
      rw [q, List.length_cons]
      exact Nat.le_succ _

theorem State.post_kept {s : State} (h_s : Kept T s₀ s) (port : Port) (w : PortWrite) (hp : Sub 0x20000000302 T) : Kept T s₀ (State.post s port w) := by
  unfold State.post
  dsimp only
  split
  · exact h_s
  · refine State.noticeIf_kept (State.setPort_kept (.inl ?_) h_s) _ _ (hf_n := by cases port <;> exact Sub.bit hp rfl)
    simp only [List.length_append, List.length_singleton]
    omega

theorem State.takeWrite_kept {s : State} (h_s : Kept T s₀ s) (port : Port) (w : PortWrite) (hp : ∀ i, T i) : Kept T s₀ (State.takeWrite s port w) := by
  unfold State.takeWrite
  try dsimp only
  repeat' first
    | (with_reducible assumption)
    | (with_reducible exact Sub.all hp)
    | (with_reducible exact hp)
    | (with_reducible exact hp _)
    | (with_reducible apply State.wakePort_kept)
    | (with_reducible apply State.deliver_kept)
    | (with_reducible apply State.post_kept)
    | split
    | (lift_lets; intro x; refine Kept.cut (s := x) ?_ (fun hx => ?_) <;> [subst x; clear_value x])
    | (intro x; refine Kept.cut (s := x) ?_ (fun hx => ?_) <;> [subst x; clear_value x])
    | (lift_lets; intro x; subst x)
    | (intro x; subst x)
    | (intro _)
    | (dsimp only)

theorem State.fenceWrite_kept {s : State} (h_s : Kept T s₀ s) (port : Port) (v : Nat) (hp : ∀ i, T i) : Kept T s₀ (State.fenceWrite s port v) := by
  unfold State.fenceWrite
  try dsimp only
  repeat' first
    | (with_reducible assumption)
    | (with_reducible exact Sub.all hp)
    | (with_reducible exact hp)
    | (with_reducible exact hp _)
    | (with_reducible apply State.wakePort_kept)
    | (with_reducible apply State.regWrite_kept)
    | (with_reducible apply State.post_kept)
    | split
    | (lift_lets; intro x; refine Kept.cut (s := x) ?_ (fun hx => ?_) <;> [subst x; clear_value x])
    | (intro x; refine Kept.cut (s := x) ?_ (fun hx => ?_) <;> [subst x; clear_value x])
    | (lift_lets; intro x; subst x)
    | (intro x; subst x)
    | (intro _)
    | (dsimp only)

theorem State.readWords_kept {s : State} (h_s : Kept T s₀ s) (a : Nat) (e : Bool) (l : List (Nat × Nat)) (hp : Sub 0x4440000020100003002 T := by first | exact Sub.trans (by assumption) rfl | exact Sub.all (by assumption)) :
    Kept T s₀ (s.readWords a e l).2 := by
  induction l generalizing s a e with
  | nil => exact h_s
  | cons w t ih =>
    unfold State.readWords
    dsimp only
    refine ih ?_ _ _
    split
    · exact State.noticeIf_kept h_s _ HIF_NOTE_BAD_ACCESS
    · exact State.readBar2_kept (State.noticeIf_kept h_s _ HIF_NOTE_BAD_ACCESS) _ _

theorem State.readWords_pair {s t : State} {a : Nat} {e : Bool} {l : List (Nat × Nat)} {m : List Nat} (q_ : s.readWords a e l = (m, t))
    (h_s : Kept T s₀ s) (hp : Sub 0x4440000020100003002 T := by first | exact Sub.trans (by assumption) rfl | exact Sub.all (by assumption)) : Kept T s₀ t := by
  have z := State.readWords_kept h_s a e l
  rw [q_] at z
  exact z

theorem State.writeWord_kept {s : State} (h_s : Kept T s₀ s) (addr : Nat) (v : Nat) (be : Nat) (hp : ∀ i, T i := by assumption) : Kept T s₀ (State.writeWord s addr v be) := by
  unfold State.writeWord
  try dsimp only
  repeat' first
    | (with_reducible assumption)
    | (with_reducible exact Sub.all hp)
    | (with_reducible exact hp)
    | (with_reducible exact hp _)
    | (with_reducible apply State.notice_kept)
    | (with_reducible apply State.deliver_kept)
    | (with_reducible apply State.post_kept)
    | split
    | (lift_lets; intro x; refine Kept.cut (s := x) ?_ (fun hx => ?_) <;> [subst x; clear_value x])
    | (intro x; refine Kept.cut (s := x) ?_ (fun hx => ?_) <;> [subst x; clear_value x])
    | (lift_lets; intro x; subst x)
    | (intro x; subst x)
    | (intro _)
    | (dsimp only)

theorem State.writeWords_kept {s : State} (h_s : Kept T s₀ s) (a : Nat) (l : List (Nat × Nat)) (hp : ∀ i, T i := by assumption) :
    Kept T s₀ (s.writeWords a l) := by
  induction l generalizing s a with
  | nil => exact h_s
  | cons w t ih => exact ih (State.writeWord_kept h_s _ _ _) _

theorem State.freeWords_kept {s : State} (h_s : Kept T s₀ s) (n : Nat) (hp : Sub 0x4 T := by first | exact Sub.trans (by assumption) rfl | exact Sub.all (by assumption)) : Kept T s₀ (s.freeWords n).2 := by
  induction n generalizing s with
  | zero => exact h_s
  | succ n ih =>
    unfold State.freeWords
    exact ih (State.draw_kept h_s)

theorem State.freeWords_pair {s t : State} {n : Nat} {m : List Nat} (q_ : s.freeWords n = (m, t)) (h_s : Kept T s₀ s) (hp : Sub 0x4 T := by first | exact Sub.trans (by assumption) rfl | exact Sub.all (by assumption)) :
    Kept T s₀ t := by
  have z := State.freeWords_kept h_s n
  rw [q_] at z
  exact z

theorem State.bar2Long_kept {s : State} (h_s : Kept T s₀ s) (write : Bool) (n : Nat) (hp : Sub 0x20000000306 T) : Kept T s₀ (State.bar2Long s write n) := by
  unfold State.bar2Long
  try dsimp only
  repeat' first
    | (with_reducible assumption)
    | ((with_reducible refine Sub.trans hp ?_); rfl)
    | ((with_reducible refine Sub.bit hp ?_); decide)
    | (with_reducible apply State.notice_kept)
    | (with_reducible apply State.freeWords_kept)
    | (with_reducible apply State.freeWords_pair (by assumption))
    | (with_reducible apply State.setRead_kept)
    | split
    | (lift_lets; intro x; refine Kept.cut (s := x) ?_ (fun hx => ?_) <;> [subst x; clear_value x])
    | (intro x; refine Kept.cut (s := x) ?_ (fun hx => ?_) <;> [subst x; clear_value x])
    | (lift_lets; intro x; subst x)
    | (intro x; subst x)
    | (intro _)
    | (dsimp only)

theorem State.bar2_kept {s : State} (h_s : Kept T s₀ s) (write : Bool) (addr : Nat) (words : List (Nat × Nat)) (hp : ∀ i, T i) : Kept T s₀ (State.bar2 s write addr words) := by
  unfold State.bar2
  try dsimp only
  repeat' first
    | (with_reducible assumption)
    | (with_reducible exact Sub.all hp)
    | (with_reducible exact hp)
    | (with_reducible exact hp _)
    | (with_reducible apply State.wakeLink_kept)
    | (with_reducible apply State.bar2Long_kept)
    | (with_reducible apply State.writeWords_kept)
    | (with_reducible apply State.readWords_kept)
    | (with_reducible apply State.setRead_kept)
    | split
    | (lift_lets; intro x; refine Kept.cut (s := x) ?_ (fun hx => ?_) <;> [subst x; clear_value x])
    | (intro x; refine Kept.cut (s := x) ?_ (fun hx => ?_) <;> [subst x; clear_value x])
    | (lift_lets; intro x; subst x)
    | (intro x; subst x)
    | (intro _)
    | (dsimp only)

theorem State.applyPart_kept {s : State} (h_s : Kept T s₀ s) (port : Port) (w : PortWrite) (hp : ∀ i, T i) : Kept T s₀ (State.applyPart s port w) := by
  unfold State.applyPart
  try dsimp only
  repeat' first
    | (with_reducible assumption)
    | (with_reducible exact Sub.all hp)
    | (with_reducible exact hp)
    | (with_reducible exact hp _)
    | (with_reducible apply State.bar2_kept)
    | (with_reducible apply State.working_kept)
    | (with_reducible apply State.hostWrote_kept)
    | (with_reducible apply State.winStore_kept)
    | (with_reducible apply State.effect_kept)
    | (with_reducible apply State.emuStore_kept)
    | (with_reducible apply State.applyWrite_kept)
    | split
    | (lift_lets; intro x; refine Kept.cut (s := x) ?_ (fun hx => ?_) <;> [subst x; clear_value x])
    | (intro x; refine Kept.cut (s := x) ?_ (fun hx => ?_) <;> [subst x; clear_value x])
    | (lift_lets; intro x; subst x)
    | (intro x; subst x)
    | (intro _)
    | (dsimp only)

theorem State.applyTogether_kept {s : State} (h_s : Kept T s₀ s) (l : List (Port × PortWrite)) (hp : ∀ i, T i) : Kept T s₀ (State.applyTogether s l) := by
  unfold State.applyTogether
  try dsimp only
  repeat' first
    | (with_reducible assumption)
    | (with_reducible exact Sub.all hp)
    | (with_reducible exact hp)
    | (with_reducible exact hp _)
    | (with_reducible apply State.turn_kept)
    | (with_reducible apply State.bar2_kept)
    | (with_reducible apply State.applyPart_kept)
    | (with_reducible apply State.settleWindows_kept)
    | (with_reducible apply State.emuCheck_kept)
    | (with_reducible refine Kept.foldl _ _ ?_ (fun _ _ _ => ?_))
    | (lift_lets; intro x; refine Kept.cut (s := x) ?_ (fun hx => ?_) <;> [subst x; clear_value x])
    | (intro x; refine Kept.cut (s := x) ?_ (fun hx => ?_) <;> [subst x; clear_value x])
    | (lift_lets; intro x; subst x)
    | (intro x; subst x)
    | (intro _)
    | (dsimp only)

theorem State.countCommit_kept {s : State} (h_s : Kept T s₀ s) (l : List PortWrite) (hp : ∀ i, T i) : Kept T s₀ (State.countCommit s l) := by
  unfold State.countCommit
  try dsimp only
  repeat' first
    | (with_reducible assumption)
    | (with_reducible exact Sub.all hp)
    | (with_reducible exact hp)
    | (with_reducible exact hp _)
    | (with_reducible apply State.count_kept)
    | (with_reducible refine Kept.foldl _ _ ?_ (fun _ _ _ => ?_))
    | (lift_lets; intro x; refine Kept.cut (s := x) ?_ (fun hx => ?_) <;> [subst x; clear_value x])
    | (intro x; refine Kept.cut (s := x) ?_ (fun hx => ?_) <;> [subst x; clear_value x])
    | (lift_lets; intro x; subst x)
    | (intro x; subst x)
    | (intro _)
    | (dsimp only)

theorem State.tagDone_kept {s : State} (h_s : Kept T s₀ s) (e : TagPlace) (hp : ∀ i, T i) : Kept T s₀ (State.tagDone s e) := by
  unfold State.tagDone
  try dsimp only
  repeat' first
    | (with_reducible assumption)
    | (with_reducible exact Sub.all hp)
    | (with_reducible exact hp)
    | (with_reducible exact hp _)
    | (with_reducible refine State.setPort_same rfl ?_ ?_)
    | (with_reducible apply State.tick_kept)
    | (with_reducible apply State.hostWrote_kept)
    | (with_reducible apply State.bar2_kept)
    | (with_reducible refine Kept.foldl _ _ ?_ (fun _ _ _ => ?_))
    | split
    | (lift_lets; intro x; refine Kept.cut (s := x) ?_ (fun hx => ?_) <;> [subst x; clear_value x])
    | (intro x; refine Kept.cut (s := x) ?_ (fun hx => ?_) <;> [subst x; clear_value x])
    | (lift_lets; intro x; subst x)
    | (intro x; subst x)
    | (intro _)
    | (dsimp only)

theorem State.snapshotAt_kept {s : State} (h_s : Kept T s₀ s) (tick : Nat) (hp : Sub 0x80000000 T) : Kept T s₀ (State.snapshotAt s tick) := by
  unfold State.snapshotAt
  try dsimp only
  repeat' first
    | (with_reducible assumption)
    | ((with_reducible refine Sub.trans hp ?_); rfl)
    | ((with_reducible refine Sub.bit hp ?_); decide)
    | (fail_if_no_progress ((with_reducible refine Kept.mkOther ?_ ?_ ?_ (fun q hq => ?_)) <;> [skip; exact rfl; exact rfl; (cases q <;> first | with_reducible exact rfl | exact fun f _ => State.rd_congr rfl f | exact absurd (Sub.bit hp rfl) hq)]))
    | split
    | (intro _)
    | (dsimp only)

theorem State.commitsAt_kept {s : State} (h_s : Kept T s₀ s) (tick : Nat) (hp : ∀ i, T i) : Kept T s₀ (State.commitsAt s tick) := by
  unfold State.commitsAt
  try dsimp only
  repeat' first
    | (with_reducible assumption)
    | (with_reducible exact Sub.all hp)
    | (with_reducible exact hp)
    | (with_reducible exact hp _)
    | (with_reducible apply State.tick_kept)
    | (with_reducible apply State.tagDone_kept)
    | (with_reducible apply State.wakePage_kept)
    | (with_reducible apply State.applyTogether_kept)
    | (with_reducible apply State.countCommit_kept)
    | (with_reducible apply State.notice_kept)
    | (with_reducible apply State.snapshotAt_kept)
    | (with_reducible refine Kept.foldl _ _ ?_ (fun _ _ _ => ?_))
    | (fail_if_no_progress ((with_reducible refine Kept.mkOther ?_ ?_ ?_ (fun q hq => absurd (hp _) hq)) <;> [skip; exact rfl; exact rfl]))
    | split
    | (lift_lets; intro x; refine Kept.cut (s := x) ?_ (fun hx => ?_) <;> [subst x; clear_value x])
    | (intro x; refine Kept.cut (s := x) ?_ (fun hx => ?_) <;> [subst x; clear_value x])
    | (lift_lets; intro x; subst x)
    | (intro x; subst x)
    | (intro _)
    | (dsimp only)

theorem State.commitsBy_kept {s : State} (h_s : Kept T s₀ s) (e : Nat) (hp : ∀ i, T i) : Kept T s₀ (State.commitsBy s e) := by
  unfold State.commitsBy
  try dsimp only
  repeat' first
    | (with_reducible assumption)
    | (with_reducible exact Sub.all hp)
    | (with_reducible exact hp)
    | (with_reducible exact hp _)
    | (with_reducible apply State.tick_kept)
    | (with_reducible apply State.commitsAt_kept)
    | (with_reducible refine Kept.foldl _ _ ?_ (fun _ _ _ => ?_))
    | (lift_lets; intro x; refine Kept.cut (s := x) ?_ (fun hx => ?_) <;> [subst x; clear_value x])
    | (intro x; refine Kept.cut (s := x) ?_ (fun hx => ?_) <;> [subst x; clear_value x])
    | (lift_lets; intro x; subst x)
    | (intro x; subst x)
    | (intro _)
    | (dsimp only)

theorem State.flushDeferred_kept {s : State} (h_s : Kept T s₀ s)  (hp : ∀ i, T i) : Kept T s₀ (State.flushDeferred s) := by
  unfold State.flushDeferred
  try dsimp only
  repeat' first
    | (with_reducible assumption)
    | (with_reducible exact Sub.all hp)
    | (with_reducible exact hp)
    | (with_reducible exact hp _)
    | (with_reducible apply State.applyTogether_kept)
    | (fail_if_no_progress ((with_reducible refine Kept.mkOther ?_ ?_ ?_ (fun q hq => absurd (hp _) hq)) <;> [skip; exact rfl; exact rfl]))
    | split
    | (lift_lets; intro x; refine Kept.cut (s := x) ?_ (fun hx => ?_) <;> [subst x; clear_value x])
    | (intro x; refine Kept.cut (s := x) ?_ (fun hx => ?_) <;> [subst x; clear_value x])
    | (lift_lets; intro x; subst x)
    | (intro x; subst x)
    | (intro _)
    | (dsimp only)

theorem State.linkDown_kept {s : State} (h_s : Kept T s₀ s)  (hp : Sub 0x20000000002 T) : Kept T s₀ (State.linkDown s) := by
  unfold State.linkDown
  try dsimp only
  repeat' first
    | (with_reducible assumption)
    | ((with_reducible refine Sub.trans hp ?_); rfl)
    | ((with_reducible refine Sub.bit hp ?_); decide)
    | (with_reducible apply State.wr_kept)
    | (with_reducible apply State.notice_kept)
    | split
    | (intro _)
    | (dsimp only)

theorem State.endpointReset_kept {s : State} (h_s : Kept T s₀ s)  (hp : Sub 0x100000000000000020000000000 T) : Kept T s₀ (State.endpointReset s) := by
  unfold State.endpointReset
  try dsimp only
  repeat' first
    | (with_reducible assumption)
    | ((with_reducible refine Sub.trans hp ?_); rfl)
    | ((with_reducible refine Sub.bit hp ?_); decide)
    | ((with_reducible refine Sub.bitEq hp (j := 41) ?_ ?_) <;> [(first | (simp only [Field.slot, Field.page, Field.key]; omega) | rfl); rfl])
    | (with_reducible refine State.wrAll_nil_kept ?_)
    | (with_reducible refine State.wrAll_cons_kept ?_)
    | (with_reducible refine State.wrAll_kept ?_ _ ?_ ?_)
    | (with_reducible apply State.wr_kept)
    | (with_reducible refine Kept.foldl _ _ ?_ (fun _ _ _ => ?_))
    | (lift_lets; intro x; refine Kept.cut (s := x) ?_ (fun hx => ?_) <;> [subst x; clear_value x])
    | (intro x; refine Kept.cut (s := x) ?_ (fun hx => ?_) <;> [subst x; clear_value x])
    | (lift_lets; intro x; subst x)
    | (intro x; subst x)
    | (intro _)
    | (dsimp only)

theorem State.perstPath_kept {s : State} (h_s : Kept T s₀ s)  (hp : Sub 0x200 T) : Kept T s₀ (State.perstPath s) :=
  h_s.of rfl (le_refl _) (List.prefix_refl _) (fun k => ⟨k.regs, k.win, k.intake, k.log, k.lrp, k.pcie, k.frames, k.queue⟩) (fun q hq => by cases q <;> first | exact rfl | exact fun f _ => State.rd_congr rfl f | exact absurd (Sub.bit hp rfl) hq)

theorem State.perst_kept {s : State} (h_s : Kept T s₀ s)  (hp : ∀ i, T i) : Kept T s₀ (State.perst s) := by
  unfold State.perst
  try dsimp only
  repeat' first
    | (with_reducible assumption)
    | (with_reducible exact Sub.all hp)
    | (with_reducible exact hp)
    | (with_reducible exact hp _)
    | (with_reducible apply State.linkDown_kept)
    | (with_reducible apply State.endpointReset_kept)
    | (with_reducible apply State.hdmReset_kept)
    | (with_reducible apply State.slqPerst_kept)
    | (with_reducible apply State.perstPath_kept)
    | (with_reducible apply State.notice_kept)
    | (intro _)
    | (dsimp only)

theorem State.barConfig_kept {s : State} (h_s : Kept T s₀ s) (mse : Bool) (bar0 : Nat) (bar2 : Nat) (hp : Sub 0x100000000000000000000000000 T) : Kept T s₀ (State.barConfig s mse bar0 bar2) := by
  unfold State.barConfig
  try dsimp only
  repeat' first
    | (with_reducible assumption)
    | ((with_reducible refine Sub.trans hp ?_); rfl)
    | ((with_reducible refine Sub.bit hp ?_); decide)
    | (with_reducible apply State.wrB_kept)
    | (with_reducible apply State.wr_kept)
    | (intro _)
    | (dsimp only)

theorem State.msixConfig_kept {s : State} (h_s : Kept T s₀ s) (v : Option Nat) (masked : Bool) (bme : Bool) (en : Bool) (fmask : Bool) (hp : Sub 0x100000000008000020002000002 T) : Kept T s₀ (State.msixConfig s v masked bme en fmask) := by
  unfold State.msixConfig
  try dsimp only
  repeat' first
    | (with_reducible assumption)
    | ((with_reducible refine Sub.trans hp ?_); rfl)
    | ((with_reducible refine Sub.bit hp ?_); decide)
    | ((with_reducible refine Sub.bitEq hp (j := 41) ?_ ?_) <;> [(first | (simp only [Field.slot, Field.page, Field.key]; omega) | rfl); rfl])
    | (with_reducible apply State.wrB_kept)
    | (with_reducible apply State.dmaError_kept)
    | (with_reducible apply State.msixRetry_kept)
    | (with_reducible refine Kept.foldl _ _ ?_ (fun _ _ _ => ?_))
    | split
    | (lift_lets; intro x; refine Kept.cut (s := x) ?_ (fun hx => ?_) <;> [subst x; clear_value x])
    | (intro x; refine Kept.cut (s := x) ?_ (fun hx => ?_) <;> [subst x; clear_value x])
    | (lift_lets; intro x; subst x)
    | (intro x; subst x)
    | (intro _)
    | (dsimp only)

theorem State.sliceEnds_kept {s : State} (h_s : Kept T s₀ s) (region : Nat) (piece : Nat) (found : Nat) (hp : Sub 0x4d77f023201a94b7c17 T) : Kept T s₀ (State.sliceEnds s region piece found) := by
  unfold State.sliceEnds
  try dsimp only
  repeat' first
    | (with_reducible assumption)
    | ((with_reducible refine Sub.trans hp ?_); rfl)
    | ((with_reducible refine Sub.bit hp ?_); decide)
    | (with_reducible apply State.sliceEnd_kept)
    | (with_reducible apply State.draw_kept)
    | (with_reducible apply State.draw_pair (by assumption))
    | (with_reducible apply State.ownerLoses_kept)
    | split
    | (lift_lets; intro x; refine Kept.cut (s := x) ?_ (fun hx => ?_) <;> [subst x; clear_value x])
    | (intro x; refine Kept.cut (s := x) ?_ (fun hx => ?_) <;> [subst x; clear_value x])
    | (lift_lets; intro x; subst x)
    | (intro x; subst x)
    | (intro _)
    | (dsimp only)

end Sys2Proof.Machine
end

