-- ==== Sys2Proof/Laws/KeepApply.lean ====
section
/-! SUPPORT. What the operations of Machine/Apply.lean keep. -/

set_option Elab.async false
set_option linter.unusedTactic false
set_option linter.unreachableTactic false
set_option linter.unusedVariables false

namespace Sys2Proof.Machine

variable {T : Nat → Prop} {s₀ : State}

theorem State.applyRegister_kept {s : State} (h_s : Kept T s₀ s) (b : StoreBank) (addr : Nat) (hp : ∀ i, T i) : Kept T s₀ (State.applyRegister s b addr) := by
  unfold State.applyRegister
  try dsimp only
  repeat' first
    | (with_reducible assumption)
    | (with_reducible exact Sub.all hp)
    | (with_reducible exact hp)
    | (with_reducible exact hp _)
    | (with_reducible apply State.wr_kept)
    | (with_reducible apply State.setRate_kept)
    | (with_reducible apply State.retune_kept)
    | (with_reducible apply State.actPage_kept)
    | (with_reducible refine Kept.foldl _ _ ?_ (fun _ _ _ => ?_))
    | split
    | (lift_lets; intro x; refine Kept.cut (s := x) ?_ (fun hx => ?_) <;> [subst x; clear_value x])
    | (intro x; refine Kept.cut (s := x) ?_ (fun hx => ?_) <;> [subst x; clear_value x])
    | (lift_lets; intro x; subst x)
    | (intro x; subst x)
    | (intro _)
    | (dsimp only)

theorem State.applyWindow_kept {s : State} (h_s : Kept T s₀ s) (b : StoreBank) (a : Nat) (hp : Sub 0xaa0000014003 T) : Kept T s₀ (State.applyWindow s b a) := by
  unfold State.applyWindow
  try dsimp only
  repeat' first
    | (with_reducible assumption)
    | ((with_reducible refine Sub.trans hp ?_); rfl)
    | ((with_reducible refine Sub.bit hp ?_); decide)
    | (with_reducible apply State.winStore_kept)
    | (intro _)
    | (dsimp only)

theorem Memory.wf_foldl {m : List Host.Cell} (l : List Host.Cell) (h : Memory.wf m = true) :
    Memory.wf (l.foldl (fun m c => Memory.write m c.1 c.2) m) = true := by
  induction l generalizing m with
  | nil => exact h
  | cons c t ih => exact ih (Memory.wf_write _ _ h)

theorem State.applyGraph_kept {s : State} (h_s : Kept T s₀ s) (b : StoreBank) (hp : ∀ i, T i := by assumption) : Kept T s₀ (s.applyGraph b) :=
  h_s.of rfl (le_refl _) (List.prefix_refl _) (fun k => ⟨k.regs, Memory.wf_foldl _ k.win, k.intake, k.log, k.lrp, k.pcie, k.frames, k.queue⟩) (fun q hq => absurd (hp _) hq)

theorem State.applyBank_kept {s : State} (h_s : Kept T s₀ s) (b : StoreBank) (hp : ∀ i, T i) : Kept T s₀ (State.applyBank s b) := by
  unfold State.applyBank
  try dsimp only
  repeat' first
    | (with_reducible assumption)
    | (with_reducible exact Sub.all hp)
    | (with_reducible exact hp)
    | (with_reducible exact hp _)
    | (with_reducible apply State.applyWindow_kept)
    | (with_reducible apply State.applyGraph_kept)
    | (with_reducible apply State.settleWindows_kept)
    | (with_reducible apply State.applyRegister_kept)
    | (with_reducible refine Kept.foldl _ _ ?_ (fun _ _ _ => ?_))
    | (fail_if_no_progress ((with_reducible refine Kept.mkOther ?_ ?_ ?_ (fun q hq => absurd (hp _) hq)) <;> [skip; exact rfl; exact rfl]))
    | (lift_lets; intro x; refine Kept.cut (s := x) ?_ (fun hx => ?_) <;> [subst x; clear_value x])
    | (intro x; refine Kept.cut (s := x) ?_ (fun hx => ?_) <;> [subst x; clear_value x])
    | (lift_lets; intro x; subst x)
    | (intro x; subst x)
    | (intro _)
    | (dsimp only)

theorem State.bankBad_kept {s : State} (h_s : Kept T s₀ s) (b : Nat) (hp : Sub 0x2400000020180000006 T) : Kept T s₀ (State.bankBad s b) := by
  unfold State.bankBad
  try dsimp only
  repeat' first
    | (with_reducible assumption)
    | ((with_reducible refine Sub.trans hp ?_); rfl)
    | ((with_reducible refine Sub.bit hp ?_); decide)
    | (with_reducible apply State.draw_kept)
    | (with_reducible apply State.draw_pair (by assumption))
    | (with_reducible apply State.notice_kept)
    | (with_reducible apply State.silt_kept)
    | (fail_if_no_progress ((with_reducible refine Kept.mkOther ?_ ?_ ?_ (fun q hq => ?_)) <;> [skip; exact rfl; exact rfl; (cases q <;> first | with_reducible exact rfl | exact fun f _ => State.rd_congr rfl f | exact absurd (Sub.bit hp rfl) hq)]))
    | split
    | (lift_lets; intro x; refine Kept.cut (s := x) ?_ (fun hx => ?_) <;> [subst x; clear_value x])
    | (intro x; refine Kept.cut (s := x) ?_ (fun hx => ?_) <;> [subst x; clear_value x])
    | (lift_lets; intro x; subst x)
    | (intro x; subst x)
    | (intro _)
    | (dsimp only)

theorem State.mrlApply_kept {s : State} (h_s : Kept T s₀ s) (bad : List Nat) (strange : Nat) (hp : ∀ i, T i) : Kept T s₀ (State.mrlApply s bad strange) := by
  unfold State.mrlApply
  try dsimp only
  repeat' first
    | (with_reducible assumption)
    | (with_reducible exact Sub.all hp)
    | (with_reducible exact hp)
    | (with_reducible exact hp _)
    | (with_reducible apply State.bankBad_kept)
    | (with_reducible apply State.applyBank_kept)
    | (with_reducible apply State.count_kept)
    | (with_reducible apply State.wr_kept)
    | (with_reducible apply State.silt_kept)
    | (with_reducible refine Kept.foldl _ _ ?_ (fun _ _ _ => ?_))
    | split
    | (lift_lets; intro x; refine Kept.cut (s := x) ?_ (fun hx => ?_) <;> [subst x; clear_value x])
    | (intro x; refine Kept.cut (s := x) ?_ (fun hx => ?_) <;> [subst x; clear_value x])
    | (lift_lets; intro x; subst x)
    | (intro x; subst x)
    | (intro _)
    | (dsimp only)

end Sys2Proof.Machine
end

