-- ==== Sys2Proof/Laws/KeepStart.lean ====
section
/-! SUPPORT. What the operations of Machine/Start.lean keep. -/

set_option Elab.async false
set_option linter.unusedTactic false
set_option linter.unreachableTactic false
set_option linter.unusedVariables false

namespace Sys2Proof.Machine

variable {T : Nat → Prop} {s₀ : State}

theorem State.bootChoose_kept {s t : State} {bad started : List Nat} {p : Nat} (q_ : s.bootChoose bad started p = some t)
    (h_s : Kept T s₀ s) (hp : Sub 0x1400000020140000002 T := by first | exact Sub.trans (by assumption) rfl | exact Sub.all (by assumption)) : Kept T s₀ t := by
  unfold State.bootChoose at q_
  dsimp only at q_
  simp only [Option.map_eq_some_iff] at q_
  obtain ⟨u, hu, rfl⟩ := q_
  have hk : Kept T s₀ u := by
    split at hu
    · cases hu
      exact h_s
    · split at hu
      · cases hu
        exact State.silt_kept (State.wr_kept (State.wr_kept h_s (GRG_BANK_TRIAL p) _ (hf_f := Sub.bitEq hp (j := 72) (by simp only [Field.slot, Field.page, Field.key]; omega) rfl)) (GRG_BANK_ACTIVE p) _ (hf_f := Sub.bitEq hp (j := 72) (by simp only [Field.slot, Field.page, Field.key]; omega) rfl)) _ _ _ _ _
      · simp at hu
  split
  · exact hk.mkOther rfl rfl (fun q hq => by cases q <;> first | exact rfl | exact fun f _ => State.rd_congr rfl f | exact absurd (Sub.bit hp rfl) hq)
  · exact hk

theorem State.atLine_kept {s : State} (h_s : Kept T s₀ s) (n : Nat) (p : Phase) (hp : Sub 0x40 T := by first | exact Sub.trans (by assumption) rfl | exact Sub.all (by assumption)) : Kept T s₀ (State.atLine s n p) := by
  unfold State.atLine
  try dsimp only
  repeat' first
    | (with_reducible assumption)
    | ((with_reducible refine Sub.trans hp ?_); rfl)
    | ((with_reducible refine Sub.bit hp ?_); decide)
    | (fail_if_no_progress ((with_reducible refine Kept.mkOther ?_ ?_ ?_ (fun q hq => ?_)) <;> [skip; exact rfl; exact rfl; (cases q <;> first | with_reducible exact rfl | exact fun f _ => State.rd_congr rfl f | exact absurd (Sub.bit hp rfl) hq)]))
    | (intro _)
    | (dsimp only)

theorem State.line1_kept {s : State} (h_s : Kept T s₀ s)  (hp : Sub 0x40 T) : Kept T s₀ (State.line1 s) := by
  unfold State.line1
  try dsimp only
  repeat' first
    | (with_reducible assumption)
    | ((with_reducible refine Sub.trans hp ?_); rfl)
    | ((with_reducible refine Sub.bit hp ?_); decide)
    | (with_reducible apply State.atLine_kept)
    | (fail_if_no_progress ((with_reducible refine Kept.mkOther ?_ ?_ ?_ (fun q hq => ?_)) <;> [skip; exact rfl; exact rfl; (cases q <;> first | with_reducible exact rfl | exact fun f _ => State.rd_congr rfl f | exact absurd (Sub.bit hp rfl) hq)]))
    | (intro _)
    | (dsimp only)

theorem State.allButPln_kept {s : State} (h_s : Kept T s₀ s)  (hp : Sub 0x400000000 T) : Kept T s₀ (State.allButPln s) := by
  unfold State.allButPln
  try dsimp only
  repeat' first
    | (with_reducible assumption)
    | ((with_reducible refine Sub.trans hp ?_); rfl)
    | ((with_reducible refine Sub.bit hp ?_); decide)
    | (with_reducible refine Kept.foldl _ _ ?_ (fun _ _ _ => ?_))
    | (fail_if_no_progress ((with_reducible refine Kept.mkOther ?_ ?_ ?_ (fun q hq => ?_)) <;> [skip; exact rfl; exact rfl; (cases q <;> first | with_reducible exact rfl | exact fun f _ => State.rd_congr rfl f | exact absurd (Sub.bit hp rfl) hq)]))
    | (lift_lets; intro x; refine Kept.cut (s := x) ?_ (fun hx => ?_) <;> [subst x; clear_value x])
    | (intro x; refine Kept.cut (s := x) ?_ (fun hx => ?_) <;> [subst x; clear_value x])
    | (lift_lets; intro x; subst x)
    | (intro x; subst x)
    | (intro _)
    | (dsimp only)

theorem State.plnLock_kept {s : State} (h_s : Kept T s₀ s)  (hp : ∀ i, T i) : Kept T s₀ (State.plnLock s) := by
  unfold State.plnLock
  try dsimp only
  repeat' first
    | (with_reducible assumption)
    | (with_reducible exact Sub.all hp)
    | (with_reducible exact hp)
    | (with_reducible exact hp _)
    | (with_reducible apply State.domainsRun_kept)
    | (with_reducible apply State.timeStart_kept)
    | (with_reducible apply State.flushDeferred_kept)
    | split
    | (intro _)
    | (dsimp only)

theorem State.line2_kept {s : State} (h_s : Kept T s₀ s) (f : StartFound) (hp : Sub 0x10000000400000448 T) : Kept T s₀ (State.line2 s f) := by
  unfold State.line2
  try dsimp only
  repeat' first
    | (with_reducible assumption)
    | ((with_reducible refine Sub.trans hp ?_); rfl)
    | ((with_reducible refine Sub.bit hp ?_); decide)
    | (with_reducible apply State.allButPln_kept)
    | (with_reducible apply State.domainsRun_kept)
    | (with_reducible apply State.timeStart_kept)
    | (with_reducible apply State.atLine_kept)
    | split
    | (intro _)
    | (dsimp only)

theorem State.line3_kept {s : State} (h_s : Kept T s₀ s)  (hp : Sub 0x10000000040 T) : Kept T s₀ (State.line3 s) := by
  unfold State.line3
  try dsimp only
  repeat' first
    | (with_reducible assumption)
    | ((with_reducible refine Sub.trans hp ?_); rfl)
    | ((with_reducible refine Sub.bit hp ?_); decide)
    | (with_reducible apply State.atLine_kept)
    | (with_reducible apply State.wr_kept)
    | split
    | (lift_lets; intro x; refine Kept.cut (s := x) ?_ (fun hx => ?_) <;> [subst x; clear_value x])
    | (intro x; refine Kept.cut (s := x) ?_ (fun hx => ?_) <;> [subst x; clear_value x])
    | (lift_lets; intro x; subst x)
    | (intro x; subst x)
    | (intro _)
    | (dsimp only)

theorem State.line4_kept {s : State} (h_s : Kept T s₀ s) (f : StartFound) (hp : ∀ i, T i) : Kept T s₀ (State.line4 s f) := by
  unfold State.line4
  try dsimp only
  repeat' first
    | (with_reducible assumption)
    | (with_reducible exact Sub.all hp)
    | (with_reducible exact hp)
    | (with_reducible exact hp _)
    | (with_reducible apply State.plnLock_kept)
    | (with_reducible refine State.bootChoose_kept (by assumption) ?_ ?_)
    | (with_reducible apply State.haltStart_kept)
    | (with_reducible apply State.atLine_kept)
    | (with_reducible apply State.wr_kept)
    | (with_reducible apply State.tamperErase_kept)
    | split
    | (lift_lets; intro x; refine Kept.cut (s := x) ?_ (fun hx => ?_) <;> [subst x; clear_value x])
    | (intro x; refine Kept.cut (s := x) ?_ (fun hx => ?_) <;> [subst x; clear_value x])
    | (lift_lets; intro x; subst x)
    | (intro x; subst x)
    | (intro _)
    | (dsimp only)

theorem State.presentPower_kept {s : State} (h_s : Kept T s₀ s)  (hp : Sub 0x50 T) : Kept T s₀ (State.presentPower s) := by
  unfold State.presentPower
  try dsimp only
  repeat' first
    | (with_reducible assumption)
    | ((with_reducible refine Sub.trans hp ?_); rfl)
    | ((with_reducible refine Sub.bit hp ?_); decide)
    | (fail_if_no_progress ((with_reducible refine Kept.mkOther ?_ ?_ ?_ (fun q hq => ?_)) <;> [skip; exact rfl; exact rfl; (cases q <;> first | with_reducible exact rfl | exact fun f _ => State.rd_congr rfl f | exact absurd (Sub.bit hp rfl) hq)]))
    | split
    | (intro _)
    | (dsimp only)

theorem State.scrapRest_kept {s : State} (h_s : Kept T s₀ s)  (hp : Sub 0x88000000 T) : Kept T s₀ (State.scrapRest s) := by
  unfold State.scrapRest
  try dsimp only
  repeat' first
    | (with_reducible assumption)
    | ((with_reducible refine Sub.trans hp ?_); rfl)
    | ((with_reducible refine Sub.bit hp ?_); decide)
    | (fail_if_no_progress ((with_reducible refine Kept.mkOther ?_ ?_ ?_ (fun q hq => ?_)) <;> [skip; exact rfl; exact rfl; (cases q <;> first | with_reducible exact rfl | exact fun f _ => State.rd_congr rfl f | exact absurd (Sub.bit hp rfl) hq)]))
    | (intro _)
    | (dsimp only)

theorem State.beginB_kept {s : State} (h_s : Kept T s₀ s)  (hp : Sub 0x5e40000030388003052 T) : Kept T s₀ (State.beginB s) := by
  unfold State.beginB
  try dsimp only
  repeat' first
    | (with_reducible assumption)
    | ((with_reducible refine Sub.trans hp ?_); rfl)
    | ((with_reducible refine Sub.bit hp ?_); decide)
    | (with_reducible apply State.atLine_kept)
    | (with_reducible refine State.wrAll_nil_kept ?_)
    | (with_reducible refine State.wrAll_cons_kept ?_)
    | (with_reducible refine State.wrAll_kept ?_ _ ?_ ?_)
    | (with_reducible apply State.wr_kept)
    | (with_reducible apply State.notice_kept)
    | (with_reducible apply State.noticeIf_kept)
    | (with_reducible apply State.siltDrain_kept)
    | (with_reducible apply State.silt_kept)
    | (with_reducible apply State.scrapRest_kept)
    | (with_reducible apply State.presentPower_kept)
    | split
    | (lift_lets; intro x; refine Kept.cut (s := x) ?_ (fun hx => ?_) <;> [subst x; clear_value x])
    | (intro x; refine Kept.cut (s := x) ?_ (fun hx => ?_) <;> [subst x; clear_value x])
    | (lift_lets; intro x; subst x)
    | (intro x; subst x)
    | (intro _)
    | (dsimp only)

theorem State.foundLife_kept {s : State} (h_s : Kept T s₀ s) (v : Life) (hp : Sub 0x48 T) : Kept T s₀ (State.foundLife s v) := by
  unfold State.foundLife
  try dsimp only
  repeat' first
    | (with_reducible assumption)
    | ((with_reducible refine Sub.trans hp ?_); rfl)
    | ((with_reducible refine Sub.bit hp ?_); decide)
    | (fail_if_no_progress ((with_reducible refine Kept.mkOther ?_ ?_ ?_ (fun q hq => ?_)) <;> [skip; exact rfl; exact rfl; (cases q <;> first | with_reducible exact rfl | exact fun f _ => State.rd_congr rfl f | exact absurd (Sub.bit hp rfl) hq)]))
    | (intro _)
    | (dsimp only)

theorem State.line5_kept {s : State} (h_s : Kept T s₀ s) (f : StartFound) (hp : Sub 0x5f4000003038800305a T) : Kept T s₀ (State.line5 s f) := by
  unfold State.line5
  try dsimp only
  repeat' first
    | (with_reducible assumption)
    | ((with_reducible refine Sub.trans hp ?_); rfl)
    | ((with_reducible refine Sub.bit hp ?_); decide)
    | (with_reducible apply State.sivReport_kept)
    | (with_reducible apply State.haltStart_kept)
    | (with_reducible apply State.foundLife_kept)
    | (with_reducible apply State.wr_kept)
    | (with_reducible apply State.count_kept)
    | (with_reducible apply State.beginB_kept)
    | (with_reducible apply State.tamperHalt_kept)
    | split
    | (lift_lets; intro x; refine Kept.cut (s := x) ?_ (fun hx => ?_) <;> [subst x; clear_value x])
    | (intro x; refine Kept.cut (s := x) ?_ (fun hx => ?_) <;> [subst x; clear_value x])
    | (lift_lets; intro x; subst x)
    | (intro x; subst x)
    | (intro _)
    | (dsimp only)

theorem State.line6_kept {s : State} (h_s : Kept T s₀ s) (f : StartFound) (hp : ∀ i, T i) : Kept T s₀ (State.line6 s f) := by
  unfold State.line6
  try dsimp only
  repeat' first
    | (with_reducible assumption)
    | (with_reducible exact Sub.all hp)
    | (with_reducible exact hp)
    | (with_reducible exact hp _)
    | (with_reducible apply State.flushDeferred_kept)
    | (with_reducible apply State.notice_kept)
    | (with_reducible apply State.silt_kept)
    | (with_reducible apply State.tamperHalt_kept)
    | (with_reducible apply State.atLine_kept)
    | (fail_if_no_progress ((with_reducible refine Kept.mkOther ?_ ?_ ?_ (fun q hq => absurd (hp _) hq)) <;> [skip; exact rfl; exact rfl]))
    | split
    | (lift_lets; intro x; refine Kept.cut (s := x) ?_ (fun hx => ?_) <;> [subst x; clear_value x])
    | (intro x; refine Kept.cut (s := x) ?_ (fun hx => ?_) <;> [subst x; clear_value x])
    | (lift_lets; intro x; subst x)
    | (intro x; subst x)
    | (intro _)
    | (dsimp only)

theorem State.line7_kept {s : State} (h_s : Kept T s₀ s) (f : StartFound) (hp : Sub 0xd00000030128000042 T) : Kept T s₀ (State.line7 s f) := by
  unfold State.line7
  try dsimp only
  repeat' first
    | (with_reducible assumption)
    | ((with_reducible refine Sub.trans hp ?_); rfl)
    | ((with_reducible refine Sub.bit hp ?_); decide)
    | (with_reducible apply State.atLine_kept)
    | (with_reducible apply State.deriveSecrets_kept)
    | (with_reducible apply State.haltStart_kept)
    | (with_reducible apply State.recover_kept)
    | (with_reducible refine State.wrAll_nil_kept ?_)
    | (with_reducible refine State.wrAll_cons_kept ?_)
    | (with_reducible refine State.wrAll_kept ?_ _ ?_ ?_)
    | (with_reducible apply State.wr_kept)
    | (fail_if_no_progress ((with_reducible refine Kept.mkOther ?_ ?_ ?_ (fun q hq => ?_)) <;> [skip; exact rfl; exact rfl; (cases q <;> first | with_reducible exact rfl | exact fun f _ => State.rd_congr rfl f | exact absurd (Sub.bit hp rfl) hq)]))
    | split
    | (intro _)
    | (dsimp only)

theorem State.line8_kept {s : State} (h_s : Kept T s₀ s) (f : StartFound) (hp : Sub 0x500000120108004046 T) : Kept T s₀ (State.line8 s f) := by
  unfold State.line8
  try dsimp only
  repeat' first
    | (with_reducible assumption)
    | ((with_reducible refine Sub.trans hp ?_); rfl)
    | ((with_reducible refine Sub.bit hp ?_); decide)
    | (with_reducible apply State.atLine_kept)
    | (with_reducible apply State.setSlots_kept)
    | (with_reducible apply State.wrB_kept)
    | (with_reducible apply State.unsealSlots_kept)
    | (with_reducible apply State.wr_kept)
    | (with_reducible apply State.openBundle_kept)
    | (with_reducible apply State.newNonce_kept)
    | split
    | (lift_lets; intro x; refine Kept.cut (s := x) ?_ (fun hx => ?_) <;> [subst x; clear_value x])
    | (intro x; refine Kept.cut (s := x) ?_ (fun hx => ?_) <;> [subst x; clear_value x])
    | (lift_lets; intro x; subst x)
    | (intro x; subst x)
    | (intro _)
    | (dsimp only)

theorem State.line9_kept {s : State} (h_s : Kept T s₀ s) (f : StartFound) (hp : ∀ i, T i) : Kept T s₀ (State.line9 s f) := by
  unfold State.line9
  try dsimp only
  repeat' first
    | (with_reducible assumption)
    | (with_reducible exact Sub.all hp)
    | (with_reducible exact hp)
    | (with_reducible exact hp _)
    | (with_reducible apply State.atLine_kept)
    | (with_reducible apply State.budgetsRestore_kept)
    | (with_reducible apply State.mrlApply_kept)
    | (with_reducible apply State.macStart_kept)
    | (with_reducible apply State.tmpStart_kept)
    | (with_reducible apply State.emuStart_kept)
    | (with_reducible apply State.emurStart_kept)
    | (lift_lets; intro x; refine Kept.cut (s := x) ?_ (fun hx => ?_) <;> [subst x; clear_value x])
    | (intro x; refine Kept.cut (s := x) ?_ (fun hx => ?_) <;> [subst x; clear_value x])
    | (lift_lets; intro x; subst x)
    | (intro x; subst x)
    | (intro _)
    | (dsimp only)

theorem State.line10_kept {s : State} (h_s : Kept T s₀ s) (f : StartFound) (hp : Sub 0x1400000030140000042 T) : Kept T s₀ (State.line10 s f) := by
  unfold State.line10
  split
  · exact State.haltStart_kept h_s _
  · have h1 := State.bootChoose_kept (by assumption) h_s
    split
    · exact State.haltStart_kept h1 _
    · exact State.atLine_kept (State.bootChoose_kept (by assumption) h1) _ _

theorem State.askGrog_kept {s : State} (h_s : Kept T s₀ s)  (hp : Sub 0x10 T) : Kept T s₀ (State.askGrog s) := by
  unfold State.askGrog
  try dsimp only
  repeat' first
    | (with_reducible assumption)
    | ((with_reducible refine Sub.trans hp ?_); rfl)
    | ((with_reducible refine Sub.bit hp ?_); decide)
    | (fail_if_no_progress ((with_reducible refine Kept.mkOther ?_ ?_ ?_ (fun q hq => ?_)) <;> [skip; exact rfl; exact rfl; (cases q <;> first | with_reducible exact rfl | exact fun f _ => State.rd_congr rfl f | exact absurd (Sub.bit hp rfl) hq)]))
    | split
    | (lift_lets; intro x; refine Kept.cut (s := x) ?_ (fun hx => ?_) <;> [subst x; clear_value x])
    | (intro x; refine Kept.cut (s := x) ?_ (fun hx => ?_) <;> [subst x; clear_value x])
    | (lift_lets; intro x; subst x)
    | (intro x; subst x)
    | (intro _)
    | (dsimp only)

theorem State.line11_kept {s : State} (h_s : Kept T s₀ s) (f : StartFound) (hp : Sub 0x480008430104000053 T) : Kept T s₀ (State.line11 s f) := by
  unfold State.line11
  try dsimp only
  repeat' first
    | (with_reducible assumption)
    | ((with_reducible refine Sub.trans hp ?_); rfl)
    | ((with_reducible refine Sub.bit hp ?_); decide)
    | (with_reducible apply State.atLine_kept)
    | (with_reducible apply State.wr_kept)
    | (with_reducible apply State.dptFollow_kept)
    | (with_reducible apply State.notice_kept)
    | (with_reducible apply State.silt_kept)
    | (with_reducible apply State.clmReady_kept)
    | (with_reducible apply State.askGrog_kept)
    | (fail_if_no_progress ((with_reducible refine Kept.mkOther ?_ ?_ ?_ (fun q hq => ?_)) <;> [skip; exact rfl; exact rfl; (cases q <;> first | with_reducible exact rfl | exact fun f _ => State.rd_congr rfl f | exact absurd (Sub.bit hp rfl) hq)]))
    | (lift_lets; intro x; refine Kept.cut (s := x) ?_ (fun hx => ?_) <;> [subst x; clear_value x])
    | (intro x; refine Kept.cut (s := x) ?_ (fun hx => ?_) <;> [subst x; clear_value x])
    | (lift_lets; intro x; subst x)
    | (intro x; subst x)
    | (intro _)
    | (dsimp only)

theorem State.runLine_kept {s : State} (h_s : Kept T s₀ s) (k : StartKind) (f : StartFound) (n : Nat) (hp : ∀ i, T i) : Kept T s₀ (State.runLine k f s n) := by
  unfold State.runLine
  try dsimp only
  repeat' first
    | (with_reducible assumption)
    | (with_reducible exact Sub.all hp)
    | (with_reducible exact hp)
    | (with_reducible exact hp _)
    | (with_reducible apply State.line1_kept)
    | (with_reducible apply State.line2_kept)
    | (with_reducible apply State.line3_kept)
    | (with_reducible apply State.line4_kept)
    | (with_reducible apply State.line5_kept)
    | (with_reducible apply State.line6_kept)
    | (with_reducible apply State.line7_kept)
    | (with_reducible apply State.line8_kept)
    | (with_reducible apply State.line9_kept)
    | (with_reducible apply State.line10_kept)
    | (with_reducible apply State.line11_kept)
    | split
    | (intro _)
    | (dsimp only)

theorem State.runTo_kept {s : State} (h_s : Kept T s₀ s) (k : StartKind) (f : StartFound) (n : Nat) (hp : ∀ i, T i) : Kept T s₀ (State.runTo s k f n) := by
  unfold State.runTo
  try dsimp only
  repeat' first
    | (with_reducible assumption)
    | (with_reducible exact Sub.all hp)
    | (with_reducible exact hp)
    | (with_reducible exact hp _)
    | (with_reducible apply State.runLine_kept)
    | (with_reducible refine Kept.foldl _ _ ?_ (fun _ _ _ => ?_))
    | (lift_lets; intro x; refine Kept.cut (s := x) ?_ (fun hx => ?_) <;> [subst x; clear_value x])
    | (intro x; refine Kept.cut (s := x) ?_ (fun hx => ?_) <;> [subst x; clear_value x])
    | (lift_lets; intro x; subst x)
    | (intro x; subst x)
    | (intro _)
    | (dsimp only)

theorem State.coldStart_kept {s : State} (h_s : Kept T s₀ s) (f : StartFound) (n : Nat) (hp : ∀ i, T i) : Kept T s₀ (State.coldStart s f n) := by
  unfold State.coldStart
  try dsimp only
  repeat' first
    | (with_reducible assumption)
    | (with_reducible exact Sub.all hp)
    | (with_reducible exact hp)
    | (with_reducible exact hp _)
    | (with_reducible apply State.moduleReset_kept)
    | (with_reducible apply State.runTo_kept)
    | (fail_if_no_progress ((with_reducible refine Kept.mkOther ?_ ?_ ?_ (fun q hq => absurd (hp _) hq)) <;> [skip; exact rfl; exact rfl]))
    | split
    | (lift_lets; intro x; refine Kept.cut (s := x) ?_ (fun hx => ?_) <;> [subst x; clear_value x])
    | (intro x; refine Kept.cut (s := x) ?_ (fun hx => ?_) <;> [subst x; clear_value x])
    | (lift_lets; intro x; subst x)
    | (intro x; subst x)
    | (intro _)
    | (dsimp only)

theorem State.holdWake_kept {s : State} (h_s : Kept T s₀ s) (vinRise : Bool) (f : StartFound) (n : Nat) (hp : ∀ i, T i) : Kept T s₀ (State.holdWake s vinRise f n) := by
  unfold State.holdWake
  try dsimp only
  repeat' first
    | (with_reducible assumption)
    | (with_reducible exact Sub.all hp)
    | (with_reducible exact hp)
    | (with_reducible exact hp _)
    | (with_reducible apply State.moduleReset_kept)
    | (with_reducible apply State.runTo_kept)
    | (fail_if_no_progress ((with_reducible refine Kept.mkOther ?_ ?_ ?_ (fun q hq => absurd (hp _) hq)) <;> [skip; exact rfl; exact rfl]))
    | split
    | (lift_lets; intro x; refine Kept.cut (s := x) ?_ (fun hx => ?_) <;> [subst x; clear_value x])
    | (intro x; refine Kept.cut (s := x) ?_ (fun hx => ?_) <;> [subst x; clear_value x])
    | (lift_lets; intro x; subst x)
    | (intro x; subst x)
    | (intro _)
    | (dsimp only)

theorem State.rstPulse_kept {s : State} (h_s : Kept T s₀ s)  (hp : ∀ i, T i) : Kept T s₀ (State.rstPulse s) := by
  unfold State.rstPulse
  try dsimp only
  repeat' first
    | (with_reducible assumption)
    | (with_reducible exact Sub.all hp)
    | (with_reducible exact hp)
    | (with_reducible exact hp _)
    | (with_reducible apply State.warmReset_kept)
    | (fail_if_no_progress ((with_reducible refine Kept.mkOther ?_ ?_ ?_ (fun q hq => absurd (hp _) hq)) <;> [skip; exact rfl; exact rfl]))
    | split
    | (lift_lets; intro x; refine Kept.cut (s := x) ?_ (fun hx => ?_) <;> [subst x; clear_value x])
    | (intro x; refine Kept.cut (s := x) ?_ (fun hx => ?_) <;> [subst x; clear_value x])
    | (lift_lets; intro x; subst x)
    | (intro x; subst x)
    | (intro _)
    | (dsimp only)

theorem State.rstRelease_kept {s : State} (h_s : Kept T s₀ s)  (hp : Sub 0x10000000040 T) : Kept T s₀ (State.rstRelease s) := by
  unfold State.rstRelease
  try dsimp only
  repeat' first
    | (with_reducible assumption)
    | ((with_reducible refine Sub.trans hp ?_); rfl)
    | ((with_reducible refine Sub.bit hp ?_); decide)
    | (with_reducible apply State.line3_kept)
    | (fail_if_no_progress ((with_reducible refine Kept.mkOther ?_ ?_ ?_ (fun q hq => ?_)) <;> [skip; exact rfl; exact rfl; (cases q <;> first | with_reducible exact rfl | exact fun f _ => State.rd_congr rfl f | exact absurd (Sub.bit hp rfl) hq)]))
    | split
    | (lift_lets; intro x; refine Kept.cut (s := x) ?_ (fun hx => ?_) <;> [subst x; clear_value x])
    | (intro x; refine Kept.cut (s := x) ?_ (fun hx => ?_) <;> [subst x; clear_value x])
    | (lift_lets; intro x; subst x)
    | (intro x; subst x)
    | (intro _)
    | (dsimp only)

theorem State.watchdog_kept {s : State} (h_s : Kept T s₀ s) (line : Nat) (hp : ∀ i, T i) : Kept T s₀ (State.watchdog s line) := by
  unfold State.watchdog
  try dsimp only
  repeat' first
    | (with_reducible assumption)
    | (with_reducible exact Sub.all hp)
    | (with_reducible exact hp)
    | (with_reducible exact hp _)
    | (with_reducible apply State.holdWake_kept)
    | (with_reducible apply State.silt_kept)
    | (with_reducible apply State.haltStart_kept)
    | (with_reducible apply State.warmReset_kept)
    | split
    | (lift_lets; intro x; refine Kept.cut (s := x) ?_ (fun hx => ?_) <;> [subst x; clear_value x])
    | (intro x; refine Kept.cut (s := x) ?_ (fun hx => ?_) <;> [subst x; clear_value x])
    | (lift_lets; intro x; subst x)
    | (intro x; subst x)
    | (intro _)
    | (dsimp only)

theorem State.fullDone_kept {s : State} (h_s : Kept T s₀ s) (found : Option SivFailure) (fails : Nat) (regions : Nat) (uncleared : Nat) (hp : ∀ i, T i) : Kept T s₀ (State.fullDone s found fails regions uncleared) := by
  unfold State.fullDone
  try dsimp only
  repeat' first
    | (with_reducible assumption)
    | (with_reducible exact Sub.all hp)
    | (with_reducible exact hp)
    | (with_reducible exact hp _)
    | (with_reducible apply State.sivReport_kept)
    | (with_reducible apply State.sivRecord_kept)
    | (with_reducible apply State.setSieve_kept)
    | (with_reducible apply State.notice_kept)
    | (with_reducible apply State.sivClearAll_kept)
    | (with_reducible apply State.wr_kept)
    | (fail_if_no_progress ((with_reducible refine Kept.mkOther ?_ ?_ ?_ (fun q hq => absurd (hp _) hq)) <;> [skip; exact rfl; exact rfl]))
    | split
    | (lift_lets; intro x; refine Kept.cut (s := x) ?_ (fun hx => ?_) <;> [subst x; clear_value x])
    | (intro x; refine Kept.cut (s := x) ?_ (fun hx => ?_) <;> [subst x; clear_value x])
    | (lift_lets; intro x; subst x)
    | (intro x; subst x)
    | (intro _)
    | (dsimp only)

end Sys2Proof.Machine
end

