-- ==== Sys2Proof/Laws/KeepExec.lean ====
section
/-! SUPPORT. What the meaning of each command keeps. -/

set_option Elab.async false
set_option linter.unusedTactic false
set_option linter.unreachableTactic false
set_option linter.unusedVariables false

namespace Sys2Proof.Machine

variable {T : Nat → Prop} {s₀ : State}

/-- A command that answers a next state keeps. -/
def Outcome.Kept (T : Nat → Prop) (s₀ : State) (o : Host.Outcome State Fault Refusal) : Prop :=
  ∀ t, o = .next t → Machine.Kept T s₀ t

theorem Outcome.Kept.next {s : State} (h : Machine.Kept T s₀ s) : Outcome.Kept T s₀ (.next s) := by
  intro t q
  cases q
  exact h

theorem Outcome.Kept.cut {s : State} {o : Host.Outcome State Fault Refusal} (h : Machine.Kept T s₀ s)
    (k : Machine.Kept T s₀ s → Outcome.Kept T s₀ o) : Outcome.Kept T s₀ o := k h

theorem execModeDecisionStep_kept {s : State} (h_s : Kept T s₀ s)  (hp : ∀ i, T i) : Outcome.Kept T s₀ (execModeDecisionStep s) := by
  unfold execModeDecisionStep
  try dsimp only
  repeat' first
    | (with_reducible assumption)
    | (with_reducible refine Outcome.Kept.next ?_)
    | (with_reducible exact Sub.all hp)
    | (with_reducible exact hp)
    | (with_reducible exact hp _)
    | (with_reducible apply State.decide_kept)
    | (with_reducible apply State.flushDeferred_kept)
    | (intro _)
    | (dsimp only)

theorem execDomainStartOnDemand_kept {s : State} (h_s : Kept T s₀ s) (d : Nat) (hp : ∀ i, T i) : Outcome.Kept T s₀ (execDomainStartOnDemand d s) := by
  unfold execDomainStartOnDemand
  try dsimp only
  repeat' first
    | (with_reducible assumption)
    | (with_reducible refine Outcome.Kept.next ?_)
    | (with_reducible exact Sub.all hp)
    | (with_reducible exact hp)
    | (with_reducible exact hp _)
    | (with_reducible apply State.flushDeferred_kept)
    | (fail_if_no_progress ((with_reducible refine Kept.mkOther ?_ ?_ ?_ (fun q hq => absurd (hp _) hq)) <;> [skip; exact rfl; exact rfl]))
    | split
    | (intro _)
    | (dsimp only)

theorem execDomainIdleStop_kept {s : State} (h_s : Kept T s₀ s) (d : Nat) (hp : Sub 0x400000000 T) : Outcome.Kept T s₀ (execDomainIdleStop d s) := by
  unfold execDomainIdleStop
  try dsimp only
  repeat' first
    | (with_reducible assumption)
    | (with_reducible refine Outcome.Kept.next ?_)
    | ((with_reducible refine Sub.trans hp ?_); rfl)
    | ((with_reducible refine Sub.bit hp ?_); decide)
    | (with_reducible apply State.domainStop_kept)
    | (intro _)
    | (dsimp only)

theorem execColdStart_kept {s : State} (h_s : Kept T s₀ s) (f : StartFound) (n : Nat) (hp : ∀ i, T i) : Outcome.Kept T s₀ (execColdStart f n s) := by
  unfold execColdStart
  try dsimp only
  repeat' first
    | (with_reducible assumption)
    | (with_reducible refine Outcome.Kept.next ?_)
    | (with_reducible exact Sub.all hp)
    | (with_reducible exact hp)
    | (with_reducible exact hp _)
    | (with_reducible apply State.coldStart_kept)
    | (intro _)
    | (dsimp only)

theorem execHoldWake_kept {s : State} (h_s : Kept T s₀ s) (vinRise : Bool) (f : StartFound) (n : Nat) (hp : ∀ i, T i) : Outcome.Kept T s₀ (execHoldWake vinRise f n s) := by
  unfold execHoldWake
  try dsimp only
  repeat' first
    | (with_reducible assumption)
    | (with_reducible refine Outcome.Kept.next ?_)
    | (with_reducible exact Sub.all hp)
    | (with_reducible exact hp)
    | (with_reducible exact hp _)
    | (with_reducible apply State.holdWake_kept)
    | (intro _)
    | (dsimp only)

theorem execWarmStart_kept {s : State} (h_s : Kept T s₀ s) (f : StartFound) (n : Nat) (hp : ∀ i, T i) : Outcome.Kept T s₀ (execWarmStart f n s) := by
  unfold execWarmStart
  try dsimp only
  repeat' first
    | (with_reducible assumption)
    | (with_reducible refine Outcome.Kept.next ?_)
    | (with_reducible exact Sub.all hp)
    | (with_reducible exact hp)
    | (with_reducible exact hp _)
    | (with_reducible apply State.runTo_kept)
    | (intro _)
    | (dsimp only)

theorem execVinLoss_kept {s : State} (h_s : Kept T s₀ s) (cut : LifeCut) (hp : Sub 0x5df00085707ec447ffb T) : Outcome.Kept T s₀ (execVinLoss cut s) := by
  unfold execVinLoss
  try dsimp only
  repeat' first
    | (with_reducible assumption)
    | (with_reducible refine Outcome.Kept.next ?_)
    | ((with_reducible refine Sub.trans hp ?_); rfl)
    | ((with_reducible refine Sub.bit hp ?_); decide)
    | (with_reducible apply State.lifeCut_kept)
    | (with_reducible apply State.vinLoss_kept)
    | (intro _)
    | (dsimp only)

theorem execVbakLoss_kept {s : State} (h_s : Kept T s₀ s)  (hp : ∀ i, T i) : Outcome.Kept T s₀ (execVbakLoss s) := by
  unfold execVbakLoss
  try dsimp only
  repeat' first
    | (with_reducible assumption)
    | (with_reducible refine Outcome.Kept.next ?_)
    | (with_reducible exact Sub.all hp)
    | (with_reducible exact hp)
    | (with_reducible exact hp _)
    | (with_reducible apply State.vbakLoss_kept)
    | (intro _)
    | (dsimp only)

theorem execRstNPulse_kept {s : State} (h_s : Kept T s₀ s)  (hp : ∀ i, T i) : Outcome.Kept T s₀ (execRstNPulse s) := by
  unfold execRstNPulse
  try dsimp only
  repeat' first
    | (with_reducible assumption)
    | (with_reducible refine Outcome.Kept.next ?_)
    | (with_reducible exact Sub.all hp)
    | (with_reducible exact hp)
    | (with_reducible exact hp _)
    | (with_reducible apply State.rstPulse_kept)
    | (intro _)
    | (dsimp only)

theorem execRstNHoldWake_kept {s : State} (h_s : Kept T s₀ s)  (hp : Sub 0x40 T) : Outcome.Kept T s₀ (execRstNHoldWake s) := by
  unfold execRstNHoldWake
  try dsimp only
  repeat' first
    | (with_reducible assumption)
    | (with_reducible refine Outcome.Kept.next ?_)
    | ((with_reducible refine Sub.trans hp ?_); rfl)
    | ((with_reducible refine Sub.bit hp ?_); decide)
    | (fail_if_no_progress ((with_reducible refine Kept.mkOther ?_ ?_ ?_ (fun q hq => ?_)) <;> [skip; exact rfl; exact rfl; (cases q <;> first | with_reducible exact rfl | exact fun f _ => State.rd_congr rfl f | exact absurd (Sub.bit hp rfl) hq)]))
    | split
    | (intro _)
    | (dsimp only)

theorem execSupWatchdogReset_kept {s : State} (h_s : Kept T s₀ s) (line : Nat) (hp : ∀ i, T i) : Outcome.Kept T s₀ (execSupWatchdogReset line s) := by
  unfold execSupWatchdogReset
  try dsimp only
  repeat' first
    | (with_reducible assumption)
    | (with_reducible refine Outcome.Kept.next ?_)
    | (with_reducible exact Sub.all hp)
    | (with_reducible exact hp)
    | (with_reducible exact hp _)
    | (with_reducible apply State.watchdog_kept)
    | (intro _)
    | (dsimp only)

theorem execSysResetWarm_kept {s : State} (h_s : Kept T s₀ s) (port : Port) (key : Nat) (hp : ∀ i, T i) : Outcome.Kept T s₀ (execSysResetWarm port key s) := by
  unfold execSysResetWarm
  try dsimp only
  repeat' first
    | (with_reducible assumption)
    | (with_reducible refine Outcome.Kept.next ?_)
    | (with_reducible exact Sub.all hp)
    | (with_reducible exact hp)
    | (with_reducible exact hp _)
    | (with_reducible apply State.effect_kept)
    | (with_reducible apply State.resetWrite_kept)
    | (intro _)
    | (dsimp only)

theorem execSysPowerReq_kept {s : State} (h_s : Kept T s₀ s) (port : Port) (v : Nat) (hp : Sub 0x30400000352 T) : Outcome.Kept T s₀ (execSysPowerReq port v s) := by
  unfold execSysPowerReq
  try dsimp only
  repeat' first
    | (with_reducible assumption)
    | (with_reducible refine Outcome.Kept.next ?_)
    | ((with_reducible refine Sub.trans hp ?_); rfl)
    | ((with_reducible refine Sub.bit hp ?_); decide)
    | (with_reducible apply State.effect_kept)
    | (with_reducible apply State.powerWrite_kept)
    | (intro _)
    | (dsimp only)

theorem execContactorDriverLatch_kept {s : State} (h_s : Kept T s₀ s) (k : Nat) (hp : Sub 0x44c0000020100003002 T) : Outcome.Kept T s₀ (execContactorDriverLatch k s) := by
  unfold execContactorDriverLatch
  try dsimp only
  repeat' first
    | (with_reducible assumption)
    | (with_reducible refine Outcome.Kept.next ?_)
    | ((with_reducible refine Sub.trans hp ?_); rfl)
    | ((with_reducible refine Sub.bit hp ?_); decide)
    | (with_reducible apply State.whenLive_kept)
    | (with_reducible apply State.driverLatch_kept)
    | (intro _)
    | (dsimp only)

theorem execDieHot_kept {s : State} (h_s : Kept T s₀ s) (t : Nat) (hp : Sub 0x400000030500000012 T) : Outcome.Kept T s₀ (execDieHot t s) := by
  unfold execDieHot
  try dsimp only
  repeat' first
    | (with_reducible assumption)
    | (with_reducible refine Outcome.Kept.next ?_)
    | ((with_reducible refine Sub.trans hp ?_); rfl)
    | ((with_reducible refine Sub.bit hp ?_); decide)
    | (with_reducible apply State.watched_kept)
    | (with_reducible apply State.dieHot_kept)
    | (intro _)
    | (dsimp only)

theorem execPaInhibit_kept {s : State} (h_s : Kept T s₀ s) (t : Nat) (hp : Sub 0x400000070500004002 T) : Outcome.Kept T s₀ (execPaInhibit t s) := by
  unfold execPaInhibit
  try dsimp only
  repeat' first
    | (with_reducible assumption)
    | (with_reducible refine Outcome.Kept.next ?_)
    | ((with_reducible refine Sub.trans hp ?_); rfl)
    | ((with_reducible refine Sub.bit hp ?_); decide)
    | (with_reducible apply State.watched_kept)
    | (with_reducible apply State.paInhibit_kept)
    | (intro _)
    | (dsimp only)

theorem execPaInhibitEnd_kept {s : State} (h_s : Kept T s₀ s) (t : Nat) (hp : Sub 0x400000070500004002 T) : Outcome.Kept T s₀ (execPaInhibitEnd t s) := by
  unfold execPaInhibitEnd
  try dsimp only
  repeat' first
    | (with_reducible assumption)
    | (with_reducible refine Outcome.Kept.next ?_)
    | ((with_reducible refine Sub.trans hp ?_); rfl)
    | ((with_reducible refine Sub.bit hp ?_); decide)
    | (with_reducible apply State.watched_kept)
    | (with_reducible apply State.paInhibit_kept)
    | (intro _)
    | (dsimp only)

theorem execLrpWrite_kept {s : State} (h_s : Kept T s₀ s) (addr : Nat) (value : Nat) (be : Nat) (hp : ∀ i, T i) : Outcome.Kept T s₀ (execLrpWrite addr value be s) := by
  unfold execLrpWrite
  try dsimp only
  repeat' first
    | (with_reducible assumption)
    | (with_reducible refine Outcome.Kept.next ?_)
    | (with_reducible exact Sub.all hp)
    | (with_reducible exact hp)
    | (with_reducible exact hp _)
    | (with_reducible apply State.takeWrite_kept)
    | (intro _)
    | (dsimp only)

theorem execBar0Write_kept {s : State} (h_s : Kept T s₀ s) (addr : Nat) (value : Nat) (whole : Bool) (hp : ∀ i, T i) : Outcome.Kept T s₀ (execBar0Write addr value whole s) := by
  unfold execBar0Write
  try dsimp only
  repeat' first
    | (with_reducible assumption)
    | (with_reducible refine Outcome.Kept.next ?_)
    | (with_reducible exact Sub.all hp)
    | (with_reducible exact hp)
    | (with_reducible exact hp _)
    | (with_reducible apply State.takeWrite_kept)
    | (with_reducible apply State.wakeLink_kept)
    | (with_reducible apply State.working_kept)
    | (with_reducible apply State.notice_kept)
    | split
    | (intro _)
    | (dsimp only)

theorem execBar0Read_kept {s : State} (h_s : Kept T s₀ s) (addr : Nat) (whole : Bool) (hp : ∀ i, T i) : Outcome.Kept T s₀ (execBar0Read addr whole s) := by
  unfold execBar0Read
  try dsimp only
  repeat' first
    | (with_reducible assumption)
    | (with_reducible refine Outcome.Kept.next ?_)
    | (with_reducible exact Sub.all hp)
    | (with_reducible exact hp)
    | (with_reducible exact hp _)
    | (with_reducible apply State.readPort_kept)
    | (with_reducible apply State.wakeLink_kept)
    | (with_reducible apply State.working_kept)
    | (with_reducible apply State.notice_kept)
    | (with_reducible apply State.setRead_kept)
    | split
    | (intro _)
    | (dsimp only)

theorem execBar2Access_kept {s : State} (h_s : Kept T s₀ s) (write : Bool) (addr : Nat) (words : List (Nat × Nat)) (hp : ∀ i, T i) : Outcome.Kept T s₀ (execBar2Access write addr words s) := by
  unfold execBar2Access
  try dsimp only
  repeat' first
    | (with_reducible assumption)
    | (with_reducible refine Outcome.Kept.next ?_)
    | (with_reducible exact Sub.all hp)
    | (with_reducible exact hp)
    | (with_reducible exact hp _)
    | (with_reducible apply State.bar2_kept)
    | (intro _)
    | (dsimp only)

theorem execRegisterWrite_kept {s : State} (h_s : Kept T s₀ s) (port : Port) (hp : ∀ i, T i) : Outcome.Kept T s₀ (execRegisterWrite port s) := by
  unfold execRegisterWrite
  try dsimp only
  repeat' first
    | (with_reducible assumption)
    | (with_reducible refine Outcome.Kept.next ?_)
    | (with_reducible exact Sub.all hp)
    | (with_reducible exact hp)
    | (with_reducible exact hp _)
    | (with_reducible apply State.deliverNext_kept)
    | (intro _)
    | (dsimp only)

theorem execSeqWordRead_kept {s : State} (h_s : Kept T s₀ s) (port : Port) (b : Nat) (hp : ∀ i, T i) : Outcome.Kept T s₀ (execSeqWordRead port b s) := by
  unfold execSeqWordRead
  try dsimp only
  repeat' first
    | (with_reducible assumption)
    | (with_reducible refine Outcome.Kept.next ?_)
    | (with_reducible exact Sub.all hp)
    | (with_reducible exact hp)
    | (with_reducible exact hp _)
    | (with_reducible apply State.readPort_kept)
    | (intro _)
    | (dsimp only)

theorem execBlockLastWordRead_kept {s : State} (h_s : Kept T s₀ s) (port : Port) (b : Nat) (hp : ∀ i, T i) : Outcome.Kept T s₀ (execBlockLastWordRead port b s) := by
  unfold execBlockLastWordRead
  try dsimp only
  repeat' first
    | (with_reducible assumption)
    | (with_reducible refine Outcome.Kept.next ?_)
    | (with_reducible exact Sub.all hp)
    | (with_reducible exact hp)
    | (with_reducible exact hp _)
    | (with_reducible apply State.readPort_kept)
    | (intro _)
    | (dsimp only)

theorem execRcRead_kept {s : State} (h_s : Kept T s₀ s) (port : Port) (addr : Nat) (hp : ∀ i, T i) : Outcome.Kept T s₀ (execRcRead port addr s) := by
  unfold execRcRead
  try dsimp only
  repeat' first
    | (with_reducible assumption)
    | (with_reducible refine Outcome.Kept.next ?_)
    | (with_reducible exact Sub.all hp)
    | (with_reducible exact hp)
    | (with_reducible exact hp _)
    | (with_reducible apply State.readPort_kept)
    | (intro _)
    | (dsimp only)

theorem execSysEpochLoRead_kept {s : State} (h_s : Kept T s₀ s) (port : Port) (hp : ∀ i, T i) : Outcome.Kept T s₀ (execSysEpochLoRead port s) := by
  unfold execSysEpochLoRead
  try dsimp only
  repeat' first
    | (with_reducible assumption)
    | (with_reducible refine Outcome.Kept.next ?_)
    | (with_reducible exact Sub.all hp)
    | (with_reducible exact hp)
    | (with_reducible exact hp _)
    | (with_reducible apply State.readPort_kept)
    | (intro _)
    | (dsimp only)

theorem execHifFenceWrite_kept {s : State} (h_s : Kept T s₀ s) (port : Port) (v : Nat) (hp : ∀ i, T i) : Outcome.Kept T s₀ (execHifFenceWrite port v s) := by
  unfold execHifFenceWrite
  try dsimp only
  repeat' first
    | (with_reducible assumption)
    | (with_reducible refine Outcome.Kept.next ?_)
    | (with_reducible exact Sub.all hp)
    | (with_reducible exact hp)
    | (with_reducible exact hp _)
    | (with_reducible apply State.fenceWrite_kept)
    | (intro _)
    | (dsimp only)

theorem execLrpClkLost_kept {s : State} (h_s : Kept T s₀ s)  (hp : Sub 0x20400000002 T) : Outcome.Kept T s₀ (execLrpClkLost s) := by
  unfold execLrpClkLost
  try dsimp only
  repeat' first
    | (with_reducible assumption)
    | (with_reducible refine Outcome.Kept.next ?_)
    | ((with_reducible refine Sub.trans hp ?_); rfl)
    | ((with_reducible refine Sub.bit hp ?_); decide)
    | (with_reducible apply State.working_kept)
    | (with_reducible apply State.wr_kept)
    | (with_reducible apply State.notice_kept)
    | split
    | (intro _)
    | (dsimp only)

theorem execLrpClkResume_kept {s : State} (h_s : Kept T s₀ s)  (hp : Sub 0x20400000040 T) : Outcome.Kept T s₀ (execLrpClkResume s) := by
  unfold execLrpClkResume
  try dsimp only
  repeat' first
    | (with_reducible assumption)
    | (with_reducible refine Outcome.Kept.next ?_)
    | ((with_reducible refine Sub.trans hp ?_); rfl)
    | ((with_reducible refine Sub.bit hp ?_); decide)
    | (with_reducible apply State.working_kept)
    | (with_reducible apply State.wr_kept)
    | (fail_if_no_progress ((with_reducible refine Kept.mkOther ?_ ?_ ?_ (fun q hq => ?_)) <;> [skip; exact rfl; exact rfl; (cases q <;> first | with_reducible exact rfl | exact fun f _ => State.rd_congr rfl f | exact absurd (Sub.bit hp rfl) hq)]))
    | (intro _)
    | (dsimp only)

theorem execPciePerst_kept {s : State} (h_s : Kept T s₀ s)  (hp : ∀ i, T i) : Outcome.Kept T s₀ (execPciePerst s) := by
  unfold execPciePerst
  try dsimp only
  repeat' first
    | (with_reducible assumption)
    | (with_reducible refine Outcome.Kept.next ?_)
    | (with_reducible exact Sub.all hp)
    | (with_reducible exact hp)
    | (with_reducible exact hp _)
    | (with_reducible apply State.working_kept)
    | (with_reducible apply State.perst_kept)
    | (intro _)
    | (dsimp only)

theorem execPcieLinkDown_kept {s : State} (h_s : Kept T s₀ s)  (hp : Sub 0x20400000002 T) : Outcome.Kept T s₀ (execPcieLinkDown s) := by
  unfold execPcieLinkDown
  try dsimp only
  repeat' first
    | (with_reducible assumption)
    | (with_reducible refine Outcome.Kept.next ?_)
    | ((with_reducible refine Sub.trans hp ?_); rfl)
    | ((with_reducible refine Sub.bit hp ?_); decide)
    | (with_reducible apply State.working_kept)
    | (with_reducible apply State.linkDown_kept)
    | (intro _)
    | (dsimp only)

theorem execHifEoi_kept {s : State} (h_s : Kept T s₀ s) (port : Port) (v : Nat) (hp : Sub 0x20400000302 T) : Outcome.Kept T s₀ (execHifEoi port v s) := by
  unfold execHifEoi
  try dsimp only
  repeat' first
    | (with_reducible assumption)
    | (with_reducible refine Outcome.Kept.next ?_)
    | ((with_reducible refine Sub.trans hp ?_); rfl)
    | ((with_reducible refine Sub.bit hp ?_); decide)
    | (with_reducible apply State.effect_kept)
    | (with_reducible apply State.eoi_kept)
    | (intro _)
    | (dsimp only)

theorem execMsixUnmask_kept {s : State} (h_s : Kept T s₀ s) (v : Option Nat) (masked : Bool) (bme : Bool) (en : Bool) (fmask : Bool) (mse : Bool) (bar0 : Nat) (bar2 : Nat) (hp : Sub 0x100000000008000020402000002 T) : Outcome.Kept T s₀ (execMsixUnmask v masked bme en fmask mse bar0 bar2 s) := by
  unfold execMsixUnmask
  try dsimp only
  repeat' first
    | (with_reducible assumption)
    | (with_reducible refine Outcome.Kept.next ?_)
    | ((with_reducible refine Sub.trans hp ?_); rfl)
    | ((with_reducible refine Sub.bit hp ?_); decide)
    | (with_reducible apply State.wakeLink_kept)
    | (with_reducible apply State.working_kept)
    | (with_reducible apply State.barConfig_kept)
    | (with_reducible apply State.msixConfig_kept)
    | (intro _)
    | (dsimp only)

theorem execTxnOpen_kept {s : State} (h_s : Kept T s₀ s) (port : Port) (t : Nat) (hp : Sub 0x20400000302 T) : Outcome.Kept T s₀ (execTxnOpen port t s) := by
  unfold execTxnOpen
  try dsimp only
  repeat' first
    | (with_reducible assumption)
    | (with_reducible refine Outcome.Kept.next ?_)
    | ((with_reducible refine Sub.trans hp ?_); rfl)
    | ((with_reducible refine Sub.bit hp ?_); decide)
    | (with_reducible apply State.effect_kept)
    | (with_reducible apply State.txnOpen_kept)
    | (intro _)
    | (dsimp only)

theorem execTxnSelect_kept {s : State} (h_s : Kept T s₀ s) (port : Port) (t : Nat) (hp : Sub 0x20400000302 T) : Outcome.Kept T s₀ (execTxnSelect port t s) := by
  unfold execTxnSelect
  try dsimp only
  repeat' first
    | (with_reducible assumption)
    | (with_reducible refine Outcome.Kept.next ?_)
    | ((with_reducible refine Sub.trans hp ?_); rfl)
    | ((with_reducible refine Sub.bit hp ?_); decide)
    | (with_reducible apply State.effect_kept)
    | (with_reducible apply State.txnSelect_kept)
    | (intro _)
    | (dsimp only)

theorem execTxnDeselect_kept {s : State} (h_s : Kept T s₀ s) (port : Port) (hp : Sub 0x20400000302 T) : Outcome.Kept T s₀ (execTxnDeselect port s) := by
  unfold execTxnDeselect
  try dsimp only
  repeat' first
    | (with_reducible assumption)
    | (with_reducible refine Outcome.Kept.next ?_)
    | ((with_reducible refine Sub.trans hp ?_); rfl)
    | ((with_reducible refine Sub.bit hp ?_); decide)
    | (with_reducible apply State.effect_kept)
    | (with_reducible apply State.txnDeselect_kept)
    | (intro _)
    | (dsimp only)

theorem execTxnCommit_kept {s : State} (h_s : Kept T s₀ s) (port : Port) (t : Nat) (c : Nat) (hp : Sub 0x20400000702 T) : Outcome.Kept T s₀ (execTxnCommit port t c s) := by
  unfold execTxnCommit
  try dsimp only
  repeat' first
    | (with_reducible assumption)
    | (with_reducible refine Outcome.Kept.next ?_)
    | ((with_reducible refine Sub.trans hp ?_); rfl)
    | ((with_reducible refine Sub.bit hp ?_); decide)
    | (with_reducible apply State.reach_kept)
    | (with_reducible apply State.effect_kept)
    | (with_reducible apply State.txnCommit_kept)
    | (intro _)
    | (dsimp only)

theorem execTxnAbort_kept {s : State} (h_s : Kept T s₀ s) (port : Port) (t : Nat) (hp : Sub 0x20400000302 T) : Outcome.Kept T s₀ (execTxnAbort port t s) := by
  unfold execTxnAbort
  try dsimp only
  repeat' first
    | (with_reducible assumption)
    | (with_reducible refine Outcome.Kept.next ?_)
    | ((with_reducible refine Sub.trans hp ?_); rfl)
    | ((with_reducible refine Sub.bit hp ?_); decide)
    | (with_reducible apply State.effect_kept)
    | (with_reducible apply State.txnAbort_kept)
    | (intro _)
    | (dsimp only)

theorem execTxnUndefinedOp_kept {s : State} (h_s : Kept T s₀ s) (port : Port) (hp : Sub 0x20400000302 T) : Outcome.Kept T s₀ (execTxnUndefinedOp port s) := by
  unfold execTxnUndefinedOp
  try dsimp only
  repeat' first
    | (with_reducible assumption)
    | (with_reducible refine Outcome.Kept.next ?_)
    | ((with_reducible refine Sub.trans hp ?_); rfl)
    | ((with_reducible refine Sub.bit hp ?_); decide)
    | (with_reducible apply State.effect_kept)
    | (with_reducible apply State.txnErr_kept)
    | (intro _)
    | (dsimp only)

theorem execTxnApply_kept {s : State} (h_s : Kept T s₀ s) (c : Nat) (hp : ∀ i, T i) : Outcome.Kept T s₀ (execTxnApply c s) := by
  unfold execTxnApply
  try dsimp only
  repeat' first
    | (with_reducible assumption)
    | (with_reducible refine Outcome.Kept.next ?_)
    | (with_reducible exact Sub.all hp)
    | (with_reducible exact hp)
    | (with_reducible exact hp _)
    | (with_reducible apply State.reach_kept)
    | (with_reducible apply State.working_kept)
    | (with_reducible apply State.commitsBy_kept)
    | (intro _)
    | (dsimp only)

theorem execTrialTimerExpiry_kept {s : State} (h_s : Kept T s₀ s)  (hp : ∀ i, T i) : Outcome.Kept T s₀ (execTrialTimerExpiry s) := by
  unfold execTrialTimerExpiry
  try dsimp only
  repeat' first
    | (with_reducible assumption)
    | (with_reducible refine Outcome.Kept.next ?_)
    | (with_reducible exact Sub.all hp)
    | (with_reducible exact hp)
    | (with_reducible exact hp _)
    | (with_reducible apply State.fallback_kept)
    | split
    | (intro _)
    | (dsimp only)

theorem execChainRetune_kept {s : State} (h_s : Kept T s₀ s) (port : Port) (k : Nat) (freq : Nat) (lost : Nat) (hp : Sub 0xe0400004303 T) : Outcome.Kept T s₀ (execChainRetune port k freq lost s) := by
  unfold execChainRetune
  try dsimp only
  repeat' first
    | (with_reducible assumption)
    | (with_reducible refine Outcome.Kept.next ?_)
    | ((with_reducible refine Sub.trans hp ?_); rfl)
    | ((with_reducible refine Sub.bit hp ?_); decide)
    | (with_reducible apply State.effect_kept)
    | (with_reducible apply State.retune_kept)
    | split
    | (intro _)
    | (dsimp only)

theorem execAdcClipAgcStep_kept {s : State} (h_s : Kept T s₀ s) (k : Nat) (att : Nat) (lost : Nat) (hp : Sub 0xe0400000002 T) : Outcome.Kept T s₀ (execAdcClipAgcStep k att lost s) := by
  unfold execAdcClipAgcStep
  try dsimp only
  repeat' first
    | (with_reducible assumption)
    | (with_reducible refine Outcome.Kept.next ?_)
    | ((with_reducible refine Sub.trans hp ?_); rfl)
    | ((with_reducible refine Sub.bit hp ?_); decide)
    | (with_reducible apply State.working_kept)
    | (with_reducible apply State.agcClip_kept)
    | (intro _)
    | (dsimp only)

theorem execAgcStep_kept {s : State} (h_s : Kept T s₀ s) (k : Nat) (att : Nat) (inFrame : Bool) (hp : Sub 0x40400000000 T) : Outcome.Kept T s₀ (execAgcStep k att inFrame s) := by
  unfold execAgcStep
  try dsimp only
  repeat' first
    | (with_reducible assumption)
    | (with_reducible refine Outcome.Kept.next ?_)
    | ((with_reducible refine Sub.trans hp ?_); rfl)
    | ((with_reducible refine Sub.bit hp ?_); decide)
    | (with_reducible apply State.working_kept)
    | (with_reducible apply State.agcStep_kept)
    | (intro _)
    | (dsimp only)

theorem execChnFrameReceived_kept {s : State} (h_s : Kept T s₀ s) (n : Nat) (sfd : Nat) (ends : Nat) (rssi : Nat) (lqi : Nat) (check : FrameCheck) (m : MeshFrame) (hp : Sub 0x44000000a0500004003 T) : Outcome.Kept T s₀ (execChnFrameReceived n sfd ends rssi lqi check m s) := by
  unfold execChnFrameReceived
  try dsimp only
  repeat' first
    | (with_reducible assumption)
    | (with_reducible refine Outcome.Kept.next ?_)
    | ((with_reducible refine Sub.trans hp ?_); rfl)
    | ((with_reducible refine Sub.bit hp ?_); decide)
    | (with_reducible apply State.working_kept)
    | (with_reducible apply State.wakeSys_kept)
    | (with_reducible apply State.chnReceive_kept)
    | (intro _)
    | (dsimp only)

theorem execRegionChange_kept {s : State} (h_s : Kept T s₀ s)  (hp : Sub 0x40400004000 T) : Outcome.Kept T s₀ (execRegionChange s) := by
  unfold execRegionChange
  try dsimp only
  repeat' first
    | (with_reducible assumption)
    | (with_reducible refine Outcome.Kept.next ?_)
    | ((with_reducible refine Sub.trans hp ?_); rfl)
    | ((with_reducible refine Sub.bit hp ?_); decide)
    | (with_reducible apply State.working_kept)
    | (with_reducible apply State.regionTake_kept)
    | (intro _)
    | (dsimp only)

theorem execBudgetBucketAdvance_kept {s : State} (h_s : Kept T s₀ s) (e : Nat) (ch : Nat) (hp : Sub 0x4000 T) : Outcome.Kept T s₀ (execBudgetBucketAdvance e ch s) := by
  unfold execBudgetBucketAdvance
  try dsimp only
  repeat' first
    | (with_reducible assumption)
    | (with_reducible refine Outcome.Kept.next ?_)
    | ((with_reducible refine Sub.trans hp ?_); rfl)
    | ((with_reducible refine Sub.bit hp ?_); decide)
    | (with_reducible apply State.bucketAdvance_kept)
    | (intro _)
    | (dsimp only)

theorem execTxFrameStart_kept {s : State} (h_s : Kept T s₀ s) (c : Nat) (lost : Nat) (hp : Sub 0x54c00080e0544007003 T) : Outcome.Kept T s₀ (execTxFrameStart c lost s) := by
  unfold execTxFrameStart
  try dsimp only
  repeat' first
    | (with_reducible assumption)
    | (with_reducible refine Outcome.Kept.next ?_)
    | ((with_reducible refine Sub.trans hp ?_); rfl)
    | ((with_reducible refine Sub.bit hp ?_); decide)
    | (with_reducible apply State.working_kept)
    | (with_reducible apply State.txStart_kept)
    | (intro _)
    | (dsimp only)

theorem execMacQueueEnqueue_kept {s : State} (h_s : Kept T s₀ s) (m : OutMessage) (seq : Nat) (hp : Sub 0x54c0008160544007003 T) : Outcome.Kept T s₀ (execMacQueueEnqueue m seq s) := by
  unfold execMacQueueEnqueue
  try dsimp only
  repeat' first
    | (with_reducible assumption)
    | (with_reducible refine Outcome.Kept.next ?_)
    | ((with_reducible refine Sub.trans hp ?_); rfl)
    | ((with_reducible refine Sub.bit hp ?_); decide)
    | (with_reducible apply State.working_kept)
    | (with_reducible apply State.macOffer_kept)
    | (intro _)
    | (dsimp only)

theorem execTschSlotPlan_kept {s : State} (h_s : Kept T s₀ s) (c : Nat) (inFrame : List Nat) (hp : Sub 0x54c00085e054400f403 T) : Outcome.Kept T s₀ (execTschSlotPlan c inFrame s) := by
  unfold execTschSlotPlan
  try dsimp only
  repeat' first
    | (with_reducible assumption)
    | (with_reducible refine Outcome.Kept.next ?_)
    | ((with_reducible refine Sub.trans hp ?_); rfl)
    | ((with_reducible refine Sub.bit hp ?_); decide)
    | (with_reducible apply State.working_kept)
    | (with_reducible apply State.planSlot_kept)
    | (with_reducible apply State.campaignFill_kept)
    | (intro _)
    | (dsimp only)

theorem execMacRealign_kept {s : State} (h_s : Kept T s₀ s) (port : Port) (hp : Sub 0x120400004302 T) : Outcome.Kept T s₀ (execMacRealign port s) := by
  unfold execMacRealign
  try dsimp only
  repeat' first
    | (with_reducible assumption)
    | (with_reducible refine Outcome.Kept.next ?_)
    | ((with_reducible refine Sub.trans hp ?_); rfl)
    | ((with_reducible refine Sub.bit hp ?_); decide)
    | (with_reducible apply State.effect_kept)
    | (fail_if_no_progress ((with_reducible refine Kept.mkOther ?_ ?_ ?_ (fun q hq => ?_)) <;> [skip; exact rfl; exact rfl; (cases q <;> first | with_reducible exact rfl | exact fun f _ => State.rd_congr rfl f | exact absurd (Sub.bit hp rfl) hq)]))
    | (intro _)
    | (dsimp only)

theorem execMacFrameReceived_kept {s : State} (h_s : Kept T s₀ s) (lost : Bool) (hp : Sub 0x54c004af605448af017 T) : Outcome.Kept T s₀ (execMacFrameReceived lost s) := by
  unfold execMacFrameReceived
  try dsimp only
  repeat' first
    | (with_reducible assumption)
    | (with_reducible refine Outcome.Kept.next ?_)
    | ((with_reducible refine Sub.trans hp ?_); rfl)
    | ((with_reducible refine Sub.bit hp ?_); decide)
    | (with_reducible apply State.working_kept)
    | (with_reducible apply State.macReceive_kept)
    | (intro _)
    | (dsimp only)

theorem execPartnerBeaconMiss_kept {s : State} (h_s : Kept T s₀ s)  (hp : Sub 0x44c0000120504003012 T) : Outcome.Kept T s₀ (execPartnerBeaconMiss s) := by
  unfold execPartnerBeaconMiss
  try dsimp only
  repeat' first
    | (with_reducible assumption)
    | (with_reducible refine Outcome.Kept.next ?_)
    | ((with_reducible refine Sub.trans hp ?_); rfl)
    | ((with_reducible refine Sub.bit hp ?_); decide)
    | (with_reducible apply State.working_kept)
    | (with_reducible apply State.partnerMiss_kept)
    | (intro _)
    | (dsimp only)

theorem execJoinTimeout_kept {s : State} (h_s : Kept T s₀ s) (i : Nat) (hp : Sub 0x400000001 T) : Outcome.Kept T s₀ (execJoinTimeout i s) := by
  unfold execJoinTimeout
  try dsimp only
  repeat' first
    | (with_reducible assumption)
    | (with_reducible refine Outcome.Kept.next ?_)
    | ((with_reducible refine Sub.trans hp ?_); rfl)
    | ((with_reducible refine Sub.bit hp ?_); decide)
    | (with_reducible apply State.working_kept)
    | (with_reducible apply State.setEntState_kept)
    | split
    | (intro _)
    | (dsimp only)

theorem execAckWaitExpiry_kept {s : State} (h_s : Kept T s₀ s) (n : Nat) (hp : Sub 0x8320400004007 T) : Outcome.Kept T s₀ (execAckWaitExpiry n s) := by
  unfold execAckWaitExpiry
  try dsimp only
  repeat' first
    | (with_reducible assumption)
    | (with_reducible refine Outcome.Kept.next ?_)
    | ((with_reducible refine Sub.trans hp ?_); rfl)
    | ((with_reducible refine Sub.bit hp ?_); decide)
    | (with_reducible apply State.working_kept)
    | (with_reducible apply State.ackMissed_kept)
    | split
    | (intro _)
    | (dsimp only)

theorem execNtbProvision_kept {s : State} (h_s : Kept T s₀ s) (port : Port) (i : Nat) (hp : Sub 0x220400010303 T) : Outcome.Kept T s₀ (execNtbProvision port i s) := by
  unfold execNtbProvision
  try dsimp only
  repeat' first
    | (with_reducible assumption)
    | (with_reducible refine Outcome.Kept.next ?_)
    | ((with_reducible refine Sub.trans hp ?_); rfl)
    | ((with_reducible refine Sub.bit hp ?_); decide)
    | (with_reducible apply State.effect_kept)
    | (with_reducible apply State.ntbCmd_kept)
    | (intro _)
    | (dsimp only)

theorem execNtbBlock_kept {s : State} (h_s : Kept T s₀ s) (port : Port) (i : Nat) (hp : Sub 0x220400010303 T) : Outcome.Kept T s₀ (execNtbBlock port i s) := by
  unfold execNtbBlock
  try dsimp only
  repeat' first
    | (with_reducible assumption)
    | (with_reducible refine Outcome.Kept.next ?_)
    | ((with_reducible refine Sub.trans hp ?_); rfl)
    | ((with_reducible refine Sub.bit hp ?_); decide)
    | (with_reducible apply State.effect_kept)
    | (with_reducible apply State.ntbCmd_kept)
    | (intro _)
    | (dsimp only)

theorem execNtbUnblock_kept {s : State} (h_s : Kept T s₀ s) (port : Port) (i : Nat) (hp : Sub 0x220400010303 T) : Outcome.Kept T s₀ (execNtbUnblock port i s) := by
  unfold execNtbUnblock
  try dsimp only
  repeat' first
    | (with_reducible assumption)
    | (with_reducible refine Outcome.Kept.next ?_)
    | ((with_reducible refine Sub.trans hp ?_); rfl)
    | ((with_reducible refine Sub.bit hp ?_); decide)
    | (with_reducible apply State.effect_kept)
    | (with_reducible apply State.ntbCmd_kept)
    | (intro _)
    | (dsimp only)

theorem execNtbFree_kept {s : State} (h_s : Kept T s₀ s) (port : Port) (i : Nat) (hp : Sub 0x220400010303 T) : Outcome.Kept T s₀ (execNtbFree port i s) := by
  unfold execNtbFree
  try dsimp only
  repeat' first
    | (with_reducible assumption)
    | (with_reducible refine Outcome.Kept.next ?_)
    | ((with_reducible refine Sub.trans hp ?_); rfl)
    | ((with_reducible refine Sub.bit hp ?_); decide)
    | (with_reducible apply State.effect_kept)
    | (with_reducible apply State.ntbCmd_kept)
    | (intro _)
    | (dsimp only)

theorem execNtbClearHealth_kept {s : State} (h_s : Kept T s₀ s) (port : Port) (i : Nat) (hp : Sub 0x220400010303 T) : Outcome.Kept T s₀ (execNtbClearHealth port i s) := by
  unfold execNtbClearHealth
  try dsimp only
  repeat' first
    | (with_reducible assumption)
    | (with_reducible refine Outcome.Kept.next ?_)
    | ((with_reducible refine Sub.trans hp ?_); rfl)
    | ((with_reducible refine Sub.bit hp ?_); decide)
    | (with_reducible apply State.effect_kept)
    | (with_reducible apply State.ntbCmd_kept)
    | (intro _)
    | (dsimp only)

theorem execNtbFind_kept {s : State} (h_s : Kept T s₀ s) (port : Port) (w : Nat) (hp : Sub 0x220400000302 T) : Outcome.Kept T s₀ (execNtbFind port w s) := by
  unfold execNtbFind
  try dsimp only
  repeat' first
    | (with_reducible assumption)
    | (with_reducible refine Outcome.Kept.next ?_)
    | ((with_reducible refine Sub.trans hp ?_); rfl)
    | ((with_reducible refine Sub.bit hp ?_); decide)
    | (with_reducible apply State.effect_kept)
    | (with_reducible apply State.ntbFindHi_kept)
    | (intro _)
    | (dsimp only)

theorem execNodeEntryWrite_kept {s : State} (h_s : Kept T s₀ s) (port : Port) (off : Nat) (w : Nat) (hp : Sub 0x220400010303 T) : Outcome.Kept T s₀ (execNodeEntryWrite port off w s) := by
  unfold execNodeEntryWrite
  try dsimp only
  repeat' first
    | (with_reducible assumption)
    | (with_reducible refine Outcome.Kept.next ?_)
    | ((with_reducible refine Sub.trans hp ?_); rfl)
    | ((with_reducible refine Sub.bit hp ?_); decide)
    | (with_reducible apply State.working_kept)
    | (with_reducible apply State.hostWrote_kept)
    | (with_reducible apply State.ntbWordWrite_kept)
    | split
    | (intro _)
    | (dsimp only)

theorem execClaimHeartbeat_kept {s : State} (h_s : Kept T s₀ s)  (hp : Sub 0x54c000856054400f003 T) : Outcome.Kept T s₀ (execClaimHeartbeat s) := by
  unfold execClaimHeartbeat
  try dsimp only
  repeat' first
    | (with_reducible assumption)
    | (with_reducible refine Outcome.Kept.next ?_)
    | ((with_reducible refine Sub.trans hp ?_); rfl)
    | ((with_reducible refine Sub.bit hp ?_); decide)
    | (with_reducible apply State.working_kept)
    | (with_reducible apply State.sprSend_kept)
    | split
    | (intro _)
    | (dsimp only)

theorem execSprSubmission_kept {s : State} (h_s : Kept T s₀ s)  (hp : Sub 0x54c000856054400f003 T) : Outcome.Kept T s₀ (execSprSubmission s) := by
  unfold execSprSubmission
  try dsimp only
  repeat' first
    | (with_reducible assumption)
    | (with_reducible refine Outcome.Kept.next ?_)
    | ((with_reducible refine Sub.trans hp ?_); rfl)
    | ((with_reducible refine Sub.bit hp ?_); decide)
    | (with_reducible apply State.working_kept)
    | (with_reducible apply State.sprTake_kept)
    | (intro _)
    | (dsimp only)

theorem execSprEnableWrite_kept {s : State} (h_s : Kept T s₀ s) (port : Port) (en : Bool) (hp : Sub 0x420400000302 T) : Outcome.Kept T s₀ (execSprEnableWrite port en s) := by
  unfold execSprEnableWrite
  try dsimp only
  repeat' first
    | (with_reducible assumption)
    | (with_reducible refine Outcome.Kept.next ?_)
    | ((with_reducible refine Sub.trans hp ?_); rfl)
    | ((with_reducible refine Sub.bit hp ?_); decide)
    | (with_reducible apply State.effect_kept)
    | (with_reducible apply State.wrB_kept)
    | (intro _)
    | (dsimp only)

theorem execDrfEventIntake_kept {s : State} (h_s : Kept T s₀ s) (v : Nat) (instant : Nat) (strength : Nat) (sensor : Nat) (hp : Sub 0x820400020002 T) : Outcome.Kept T s₀ (execDrfEventIntake v instant strength sensor s) := by
  unfold execDrfEventIntake
  try dsimp only
  repeat' first
    | (with_reducible assumption)
    | (with_reducible refine Outcome.Kept.next ?_)
    | ((with_reducible refine Sub.trans hp ?_); rfl)
    | ((with_reducible refine Sub.bit hp ?_); decide)
    | (with_reducible apply State.working_kept)
    | (with_reducible apply State.drfDetect_kept)
    | (intro _)
    | (dsimp only)

theorem execDrfInject_kept {s : State} (h_s : Kept T s₀ s) (port : Port) (v : Nat) (age : Nat) (hp : Sub 0x820400020302 T) : Outcome.Kept T s₀ (execDrfInject port v age s) := by
  unfold execDrfInject
  try dsimp only
  repeat' first
    | (with_reducible assumption)
    | (with_reducible refine Outcome.Kept.next ?_)
    | ((with_reducible refine Sub.trans hp ?_); rfl)
    | ((with_reducible refine Sub.bit hp ?_); decide)
    | (with_reducible apply State.effect_kept)
    | (with_reducible apply State.drfEnter_kept)
    | (intro _)
    | (dsimp only)

theorem execDrfEvaluation_kept {s : State} (h_s : Kept T s₀ s) (c : Nat) (dur : Nat) (mem : Nat) (hp : Sub 0x4400000820500020407 T) : Outcome.Kept T s₀ (execDrfEvaluation c dur mem s) := by
  unfold execDrfEvaluation
  try dsimp only
  repeat' first
    | (with_reducible assumption)
    | (with_reducible refine Outcome.Kept.next ?_)
    | ((with_reducible refine Sub.trans hp ?_); rfl)
    | ((with_reducible refine Sub.bit hp ?_); decide)
    | (with_reducible apply State.working_kept)
    | (with_reducible apply State.reach_kept)
    | (with_reducible apply State.drfTick_kept)
    | (intro _)
    | (dsimp only)

theorem execDrfGraphSwap_kept {s : State} (h_s : Kept T s₀ s) (port : Port) (hp : Sub 0x820400020302 T) : Outcome.Kept T s₀ (execDrfGraphSwap port s) := by
  unfold execDrfGraphSwap
  try dsimp only
  repeat' first
    | (with_reducible assumption)
    | (with_reducible refine Outcome.Kept.next ?_)
    | ((with_reducible refine Sub.trans hp ?_); rfl)
    | ((with_reducible refine Sub.bit hp ?_); decide)
    | (with_reducible apply State.effect_kept)
    | (with_reducible apply State.graphSwap_kept)
    | (intro _)
    | (dsimp only)

theorem execDrfSwapCheckDone_kept {s : State} (h_s : Kept T s₀ s)  (hp : Sub 0x820400020002 T) : Outcome.Kept T s₀ (execDrfSwapCheckDone s) := by
  unfold execDrfSwapCheckDone
  try dsimp only
  repeat' first
    | (with_reducible assumption)
    | (with_reducible refine Outcome.Kept.next ?_)
    | ((with_reducible refine Sub.trans hp ?_); rfl)
    | ((with_reducible refine Sub.bit hp ?_); decide)
    | (with_reducible apply State.working_kept)
    | (with_reducible apply State.graphChecked_kept)
    | (intro _)
    | (dsimp only)

theorem execDrfEnableWrite_kept {s : State} (h_s : Kept T s₀ s) (port : Port) (en : Bool) (hp : Sub 0x820400020302 T) : Outcome.Kept T s₀ (execDrfEnableWrite port en s) := by
  unfold execDrfEnableWrite
  try dsimp only
  repeat' first
    | (with_reducible assumption)
    | (with_reducible refine Outcome.Kept.next ?_)
    | ((with_reducible refine Sub.trans hp ?_); rfl)
    | ((with_reducible refine Sub.bit hp ?_); decide)
    | (with_reducible apply State.effect_kept)
    | (with_reducible apply State.drfEnable_kept)
    | (intro _)
    | (dsimp only)

theorem execSchTick_kept {s : State} (h_s : Kept T s₀ s)  (hp : Sub 0x400001020500060003 T) : Outcome.Kept T s₀ (execSchTick s) := by
  unfold execSchTick
  try dsimp only
  repeat' first
    | (with_reducible assumption)
    | (with_reducible refine Outcome.Kept.next ?_)
    | ((with_reducible refine Sub.trans hp ?_); rfl)
    | ((with_reducible refine Sub.bit hp ?_); decide)
    | (with_reducible apply State.working_kept)
    | (with_reducible apply State.schTick_kept)
    | (intro _)
    | (dsimp only)

theorem execSchHighWaterSave_kept {s : State} (h_s : Kept T s₀ s)  (hp : Sub 0x400040000 T) : Outcome.Kept T s₀ (execSchHighWaterSave s) := by
  unfold execSchHighWaterSave
  try dsimp only
  repeat' first
    | (with_reducible assumption)
    | (with_reducible refine Outcome.Kept.next ?_)
    | ((with_reducible refine Sub.trans hp ?_); rfl)
    | ((with_reducible refine Sub.bit hp ?_); decide)
    | (with_reducible apply State.working_kept)
    | (with_reducible apply State.schSave_kept)
    | (intro _)
    | (dsimp only)

theorem execTmpSample_kept {s : State} (h_s : Kept T s₀ s) (c : Nat) (bad : List Nat) (lost : List Nat) (late : Nat) (hp : ∀ i, T i) : Outcome.Kept T s₀ (execTmpSample c bad lost late s) := by
  unfold execTmpSample
  try dsimp only
  repeat' first
    | (with_reducible assumption)
    | (with_reducible refine Outcome.Kept.next ?_)
    | (with_reducible exact Sub.all hp)
    | (with_reducible exact hp)
    | (with_reducible exact hp _)
    | (with_reducible apply State.reach_kept)
    | (with_reducible apply State.working_kept)
    | (with_reducible apply State.commitsBy_kept)
    | (with_reducible apply State.tmpTick_kept)
    | (intro _)
    | (dsimp only)

theorem execTmpMeasSlot_kept {s : State} (h_s : Kept T s₀ s) (port : Port) (k : Nat) (hp : Sub 0x2020400080302 T) : Outcome.Kept T s₀ (execTmpMeasSlot port k s) := by
  unfold execTmpMeasSlot
  try dsimp only
  repeat' first
    | (with_reducible assumption)
    | (with_reducible refine Outcome.Kept.next ?_)
    | ((with_reducible refine Sub.trans hp ?_); rfl)
    | ((with_reducible refine Sub.bit hp ?_); decide)
    | (with_reducible apply State.effect_kept)
    | (with_reducible apply State.tmpHostMeas_kept)
    | (intro _)
    | (dsimp only)

theorem execTmpSlotDisable_kept {s : State} (h_s : Kept T s₀ s) (k : Nat) (hp : Sub 0x400080001 T) : Outcome.Kept T s₀ (execTmpSlotDisable k s) := by
  unfold execTmpSlotDisable
  try dsimp only
  repeat' first
    | (with_reducible assumption)
    | (with_reducible refine Outcome.Kept.next ?_)
    | ((with_reducible refine Sub.trans hp ?_); rfl)
    | ((with_reducible refine Sub.bit hp ?_); decide)
    | (with_reducible apply State.working_kept)
    | (with_reducible apply State.tmpStop_kept)
    | (intro _)
    | (dsimp only)

theorem execShapingPass_kept {s : State} (h_s : Kept T s₀ s) (c : Nat) (dur : Nat) (late : Bool) (hp : Sub 0x54c001c56054430f403 T) : Outcome.Kept T s₀ (execShapingPass c dur late s) := by
  unfold execShapingPass
  try dsimp only
  repeat' first
    | (with_reducible assumption)
    | (with_reducible refine Outcome.Kept.next ?_)
    | ((with_reducible refine Sub.trans hp ?_); rfl)
    | ((with_reducible refine Sub.bit hp ?_); decide)
    | (with_reducible apply State.working_kept)
    | (with_reducible apply State.reach_kept)
    | (with_reducible apply State.shapingPass_kept)
    | (intro _)
    | (dsimp only)

theorem execDalFrameTx_kept {s : State} (h_s : Kept T s₀ s) (k : Nat) (collision : Bool) (hp : Sub 0x10020000200003 T) : Outcome.Kept T s₀ (execDalFrameTx k collision s) := by
  unfold execDalFrameTx
  try dsimp only
  repeat' first
    | (with_reducible assumption)
    | (with_reducible refine Outcome.Kept.next ?_)
    | ((with_reducible refine Sub.trans hp ?_); rfl)
    | ((with_reducible refine Sub.bit hp ?_); decide)
    | (with_reducible apply State.whenLive_kept)
    | (with_reducible apply State.dalSend_kept)
    | (intro _)
    | (dsimp only)

theorem execDalRefresh_kept {s : State} (h_s : Kept T s₀ s) (k : Nat) (hp : Sub 0x18020000200003 T) : Outcome.Kept T s₀ (execDalRefresh k s) := by
  unfold execDalRefresh
  try dsimp only
  repeat' first
    | (with_reducible assumption)
    | (with_reducible refine Outcome.Kept.next ?_)
    | ((with_reducible refine Sub.trans hp ?_); rfl)
    | ((with_reducible refine Sub.bit hp ?_); decide)
    | (with_reducible apply State.whenLive_kept)
    | (with_reducible apply State.dalRefresh_kept)
    | (intro _)
    | (dsimp only)

theorem execDalBusDown_kept {s : State} (h_s : Kept T s₀ s) (k : Nat) (hp : Sub 0x400010020100200002 T) : Outcome.Kept T s₀ (execDalBusDown k s) := by
  unfold execDalBusDown
  try dsimp only
  repeat' first
    | (with_reducible assumption)
    | (with_reducible refine Outcome.Kept.next ?_)
    | ((with_reducible refine Sub.trans hp ?_); rfl)
    | ((with_reducible refine Sub.bit hp ?_); decide)
    | (with_reducible apply State.whenLive_kept)
    | (with_reducible apply State.busDown_kept)
    | (intro _)
    | (dsimp only)

theorem execDalBusUp_kept {s : State} (h_s : Kept T s₀ s) (k : Nat) (hp : Sub 0x10020000000003 T) : Outcome.Kept T s₀ (execDalBusUp k s) := by
  unfold execDalBusUp
  try dsimp only
  repeat' first
    | (with_reducible assumption)
    | (with_reducible refine Outcome.Kept.next ?_)
    | ((with_reducible refine Sub.trans hp ?_); rfl)
    | ((with_reducible refine Sub.bit hp ?_); decide)
    | (with_reducible apply State.whenLive_kept)
    | (with_reducible apply State.busUp_kept)
    | (intro _)
    | (dsimp only)

theorem execDalEventReceived_kept {s : State} (h_s : Kept T s₀ s) (k : Nat) (frame : Nat) (instant : Nat) (hp : Sub 0x4440010820500023006 T) : Outcome.Kept T s₀ (execDalEventReceived k frame instant s) := by
  unfold execDalEventReceived
  try dsimp only
  repeat' first
    | (with_reducible assumption)
    | (with_reducible refine Outcome.Kept.next ?_)
    | ((with_reducible refine Sub.trans hp ?_); rfl)
    | ((with_reducible refine Sub.bit hp ?_); decide)
    | (with_reducible apply State.whenLive_kept)
    | (with_reducible apply State.dalEvent_kept)
    | (intro _)
    | (dsimp only)

theorem execDalRawRequest_kept {s : State} (h_s : Kept T s₀ s) (port : Port) (k : Nat) (bits24 : Bool) (twice : Bool) (answer : Bool) (prio : Nat) (hp : Sub 0x10020400200303 T) : Outcome.Kept T s₀ (execDalRawRequest port k bits24 twice answer prio s) := by
  unfold execDalRawRequest
  try dsimp only
  repeat' first
    | (with_reducible assumption)
    | (with_reducible refine Outcome.Kept.next ?_)
    | ((with_reducible refine Sub.trans hp ?_); rfl)
    | ((with_reducible refine Sub.bit hp ?_); decide)
    | (with_reducible apply State.effect_kept)
    | (with_reducible apply State.rawRequest_kept)
    | (intro _)
    | (dsimp only)

theorem execDalRawComplete_kept {s : State} (h_s : Kept T s₀ s) (answer : Option Nat) (bad : Bool) (hp : Sub 0x10020000200002 T) : Outcome.Kept T s₀ (execDalRawComplete answer bad s) := by
  unfold execDalRawComplete
  try dsimp only
  repeat' first
    | (with_reducible assumption)
    | (with_reducible refine Outcome.Kept.next ?_)
    | ((with_reducible refine Sub.trans hp ?_); rfl)
    | ((with_reducible refine Sub.bit hp ?_); decide)
    | (with_reducible apply State.whenLive_kept)
    | (with_reducible apply State.rawComplete_kept)
    | (intro _)
    | (dsimp only)

theorem execEmuSample_kept {s : State} (h_s : Kept T s₀ s) (c : Nat) (bits : List Nat) (hp : Sub 0x20020000c00403 T) : Outcome.Kept T s₀ (execEmuSample c bits s) := by
  unfold execEmuSample
  try dsimp only
  repeat' first
    | (with_reducible assumption)
    | (with_reducible refine Outcome.Kept.next ?_)
    | ((with_reducible refine Sub.trans hp ?_); rfl)
    | ((with_reducible refine Sub.bit hp ?_); decide)
    | (with_reducible apply State.whenLive_kept)
    | (with_reducible apply State.reach_kept)
    | (with_reducible apply State.emuSample_kept)
    | (with_reducible apply State.snapshotDue_kept)
    | (intro _)
    | (dsimp only)

theorem execEmuChannelFault_kept {s : State} (h_s : Kept T s₀ s) (k : Nat) (hp : Sub 0x400020020100000002 T) : Outcome.Kept T s₀ (execEmuChannelFault k s) := by
  unfold execEmuChannelFault
  try dsimp only
  repeat' first
    | (with_reducible assumption)
    | (with_reducible refine Outcome.Kept.next ?_)
    | ((with_reducible refine Sub.trans hp ?_); rfl)
    | ((with_reducible refine Sub.bit hp ?_); decide)
    | (with_reducible apply State.whenLive_kept)
    | (with_reducible apply State.channelFault_kept)
    | (intro _)
    | (dsimp only)

theorem execEmuChannelFaultEnd_kept {s : State} (h_s : Kept T s₀ s) (k : Nat) (hp : Sub 0x20000000000000 T) : Outcome.Kept T s₀ (execEmuChannelFaultEnd k s) := by
  unfold execEmuChannelFaultEnd
  try dsimp only
  repeat' first
    | (with_reducible assumption)
    | (with_reducible refine Outcome.Kept.next ?_)
    | ((with_reducible refine Sub.trans hp ?_); rfl)
    | ((with_reducible refine Sub.bit hp ?_); decide)
    | (with_reducible apply State.whenLive_kept)
    | (with_reducible apply State.wr_kept)
    | (intro _)
    | (dsimp only)

theorem execEmuZcTimeout_kept {s : State} (h_s : Kept T s₀ s) (k : Nat) (hp : Sub 0x400020020100400003 T) : Outcome.Kept T s₀ (execEmuZcTimeout k s) := by
  unfold execEmuZcTimeout
  try dsimp only
  repeat' first
    | (with_reducible assumption)
    | (with_reducible refine Outcome.Kept.next ?_)
    | ((with_reducible refine Sub.trans hp ?_); rfl)
    | ((with_reducible refine Sub.bit hp ?_); decide)
    | (with_reducible apply State.whenLive_kept)
    | (with_reducible apply State.zcTimeout_kept)
    | (intro _)
    | (dsimp only)

theorem execEmuAccumulatorSave_kept {s : State} (h_s : Kept T s₀ s)  (hp : Sub 0x400000 T) : Outcome.Kept T s₀ (execEmuAccumulatorSave s) := by
  unfold execEmuAccumulatorSave
  try dsimp only
  repeat' first
    | (with_reducible assumption)
    | (with_reducible refine Outcome.Kept.next ?_)
    | ((with_reducible refine Sub.trans hp ?_); rfl)
    | ((with_reducible refine Sub.bit hp ?_); decide)
    | (with_reducible apply State.whenLive_kept)
    | (with_reducible apply State.emuSave_kept)
    | (intro _)
    | (dsimp only)

theorem execEmuClear_kept {s : State} (h_s : Kept T s₀ s) (port : Port) (c : Nat) (hp : Sub 0x20020400c00303 T) : Outcome.Kept T s₀ (execEmuClear port c s) := by
  unfold execEmuClear
  try dsimp only
  repeat' first
    | (with_reducible assumption)
    | (with_reducible refine Outcome.Kept.next ?_)
    | ((with_reducible refine Sub.trans hp ?_); rfl)
    | ((with_reducible refine Sub.bit hp ?_); decide)
    | (with_reducible apply State.effect_kept)
    | (with_reducible apply State.emuClear_kept)
    | (intro _)
    | (dsimp only)

theorem execEmurBoundarySnapshot_kept {s : State} (h_s : Kept T s₀ s) (c : Nat) (hp : Sub 0x400800401 T) : Outcome.Kept T s₀ (execEmurBoundarySnapshot c s) := by
  unfold execEmurBoundarySnapshot
  try dsimp only
  repeat' first
    | (with_reducible assumption)
    | (with_reducible refine Outcome.Kept.next ?_)
    | ((with_reducible refine Sub.trans hp ?_); rfl)
    | ((with_reducible refine Sub.bit hp ?_); decide)
    | (with_reducible apply State.working_kept)
    | (with_reducible apply State.reach_kept)
    | (with_reducible apply State.emurBoundary_kept)
    | (intro _)
    | (dsimp only)

theorem execEmurEstimateTick_kept {s : State} (h_s : Kept T s₀ s) (c : Nat) (hp : Sub 0x400000401 T) : Outcome.Kept T s₀ (execEmurEstimateTick c s) := by
  unfold execEmurEstimateTick
  try dsimp only
  repeat' first
    | (with_reducible assumption)
    | (with_reducible refine Outcome.Kept.next ?_)
    | ((with_reducible refine Sub.trans hp ?_); rfl)
    | ((with_reducible refine Sub.bit hp ?_); decide)
    | (with_reducible apply State.working_kept)
    | (with_reducible apply State.reach_kept)
    | (with_reducible apply State.estimateTick_kept)
    | (intro _)
    | (dsimp only)

theorem execEmurWindowClose_kept {s : State} (h_s : Kept T s₀ s) (c : Nat) (g : Nat) (hp : Sub 0x400040020500800403 T) : Outcome.Kept T s₀ (execEmurWindowClose c g s) := by
  unfold execEmurWindowClose
  try dsimp only
  repeat' first
    | (with_reducible assumption)
    | (with_reducible refine Outcome.Kept.next ?_)
    | ((with_reducible refine Sub.trans hp ?_); rfl)
    | ((with_reducible refine Sub.bit hp ?_); decide)
    | (with_reducible apply State.working_kept)
    | (with_reducible apply State.reach_kept)
    | (with_reducible apply State.emurClose_kept)
    | (intro _)
    | (dsimp only)

theorem execEtpFrameReceived_kept {s : State} (h_s : Kept T s₀ s) (k : Nat) (c : Nat) (len : Nat) (f : EthFrame) (check : FrameCheck) (ns : Int) (hp : Sub 0x4407f00020501000402 T) : Outcome.Kept T s₀ (execEtpFrameReceived k c len f check ns s) := by
  unfold execEtpFrameReceived
  try dsimp only
  repeat' first
    | (with_reducible assumption)
    | (with_reducible refine Outcome.Kept.next ?_)
    | ((with_reducible refine Sub.trans hp ?_); rfl)
    | ((with_reducible refine Sub.bit hp ?_); decide)
    | (with_reducible apply State.reach_kept)
    | (with_reducible apply State.onPort_kept)
    | (with_reducible apply State.wakeSys_kept)
    | (with_reducible apply State.frameRx_kept)
    | (intro _)
    | (dsimp only)

theorem execEtpFrameTransmit_kept {s : State} (h_s : Kept T s₀ s) (k : Nat) (c : Nat) (ns : Int) (ecc : Nat) (hp : Sub 0x4437f00120501004c16 T) : Outcome.Kept T s₀ (execEtpFrameTransmit k c ns ecc s) := by
  unfold execEtpFrameTransmit
  try dsimp only
  repeat' first
    | (with_reducible assumption)
    | (with_reducible refine Outcome.Kept.next ?_)
    | ((with_reducible refine Sub.trans hp ?_); rfl)
    | ((with_reducible refine Sub.bit hp ?_); decide)
    | (with_reducible apply State.reach_kept)
    | (with_reducible apply State.onPort_kept)
    | (with_reducible apply State.transmit_kept)
    | (intro _)
    | (dsimp only)

theorem execPauseTimerExpiry_kept {s : State} (h_s : Kept T s₀ s) (k : Nat) (c : Nat) (hp : Sub 0x7e00000401000400 T) : Outcome.Kept T s₀ (execPauseTimerExpiry k c s) := by
  unfold execPauseTimerExpiry
  try dsimp only
  repeat' first
    | (with_reducible assumption)
    | (with_reducible refine Outcome.Kept.next ?_)
    | ((with_reducible refine Sub.trans hp ?_); rfl)
    | ((with_reducible refine Sub.bit hp ?_); decide)
    | (with_reducible apply State.reach_kept)
    | (with_reducible apply State.onPort_kept)
    | (with_reducible apply State.pauseSweep_kept)
    | (intro _)
    | (dsimp only)

theorem execPauseRepeat_kept {s : State} (h_s : Kept T s₀ s) (k : Nat) (hp : Sub 0x7e00000400000002 T) : Outcome.Kept T s₀ (execPauseRepeat k s) := by
  unfold execPauseRepeat
  try dsimp only
  repeat' first
    | (with_reducible assumption)
    | (with_reducible refine Outcome.Kept.next ?_)
    | ((with_reducible refine Sub.trans hp ?_); rfl)
    | ((with_reducible refine Sub.bit hp ?_); decide)
    | ((with_reducible refine Sub.etp hp ?_ ?_) <;> [(first | (simp only [Field.slot, Field.page, Field.key]; omega) | (dsimp only; omega)); rfl])
    | (with_reducible apply State.onPort_kept)
    | (with_reducible apply State.sendPause_kept)
    | split
    | (intro _)
    | (dsimp only)

theorem execLpiEntry_kept {s : State} (h_s : Kept T s₀ s) (k : Nat) (rx : Bool) (hp : Sub 0x7e00000400000000 T) : Outcome.Kept T s₀ (execLpiEntry k rx s) := by
  unfold execLpiEntry
  try dsimp only
  repeat' first
    | (with_reducible assumption)
    | (with_reducible refine Outcome.Kept.next ?_)
    | ((with_reducible refine Sub.trans hp ?_); rfl)
    | ((with_reducible refine Sub.bit hp ?_); decide)
    | (with_reducible apply State.onPort_kept)
    | (with_reducible apply State.lpiRx_kept)
    | (with_reducible apply State.lpiEnter_kept)
    | split
    | (intro _)
    | (dsimp only)

theorem execLpiWake_kept {s : State} (h_s : Kept T s₀ s) (k : Nat) (rx : Bool) (hp : Sub 0x7e00000400000000 T) : Outcome.Kept T s₀ (execLpiWake k rx s) := by
  unfold execLpiWake
  try dsimp only
  repeat' first
    | (with_reducible assumption)
    | (with_reducible refine Outcome.Kept.next ?_)
    | ((with_reducible refine Sub.trans hp ?_); rfl)
    | ((with_reducible refine Sub.bit hp ?_); decide)
    | (with_reducible apply State.onPort_kept)
    | (with_reducible apply State.lpiRx_kept)
    | (with_reducible apply State.lpiWake_kept)
    | split
    | (intro _)
    | (dsimp only)

theorem execSwfSpeedStep_kept {s : State} (h_s : Kept T s₀ s) (load100 : Nat) (load1 : Nat) (hp : Sub 0x100000400000000 T) : Outcome.Kept T s₀ (execSwfSpeedStep load100 load1 s) := by
  unfold execSwfSpeedStep
  try dsimp only
  repeat' first
    | (with_reducible assumption)
    | (with_reducible refine Outcome.Kept.next ?_)
    | ((with_reducible refine Sub.trans hp ?_); rfl)
    | ((with_reducible refine Sub.bit hp ?_); decide)
    | (with_reducible apply State.working_kept)
    | (with_reducible apply State.speedStep_kept)
    | (intro _)
    | (dsimp only)

theorem execEtpLinkChange_kept {s : State} (h_s : Kept T s₀ s) (k : Nat) (up : Bool) (speed : Nat) (hp : Sub 0x7e00020401000002 T) : Outcome.Kept T s₀ (execEtpLinkChange k up speed s) := by
  unfold execEtpLinkChange
  try dsimp only
  repeat' first
    | (with_reducible assumption)
    | (with_reducible refine Outcome.Kept.next ?_)
    | ((with_reducible refine Sub.trans hp ?_); rfl)
    | ((with_reducible refine Sub.bit hp ?_); decide)
    | (with_reducible apply State.onPort_kept)
    | (with_reducible apply State.linkChange_kept)
    | (intro _)
    | (dsimp only)

theorem execEtpModeWrite_kept {s : State} (h_s : Kept T s₀ s) (port : Port) (k : Nat) (mode : Nat) (hp : Sub 0x437e00120501004f12 T) : Outcome.Kept T s₀ (execEtpModeWrite port k mode s) := by
  unfold execEtpModeWrite
  try dsimp only
  repeat' first
    | (with_reducible assumption)
    | (with_reducible refine Outcome.Kept.next ?_)
    | ((with_reducible refine Sub.trans hp ?_); rfl)
    | ((with_reducible refine Sub.bit hp ?_); decide)
    | ((with_reducible refine Sub.etp hp ?_ ?_) <;> [(first | (simp only [Field.slot, Field.page, Field.key]; omega) | (dsimp only; omega)); rfl])
    | (with_reducible apply State.effect_kept)
    | (with_reducible apply State.etpCtrl_kept)
    | (intro _)
    | (dsimp only)

theorem execEtpFwdStateWrite_kept {s : State} (h_s : Kept T s₀ s) (port : Port) (k : Nat) (w : Nat) (hp : Sub 0x437e00120501004f12 T) : Outcome.Kept T s₀ (execEtpFwdStateWrite port k w s) := by
  unfold execEtpFwdStateWrite
  try dsimp only
  repeat' first
    | (with_reducible assumption)
    | (with_reducible refine Outcome.Kept.next ?_)
    | ((with_reducible refine Sub.trans hp ?_); rfl)
    | ((with_reducible refine Sub.bit hp ?_); decide)
    | ((with_reducible refine Sub.etp hp ?_ ?_) <;> [(first | (simp only [Field.slot, Field.page, Field.key]; omega) | (dsimp only; omega)); rfl])
    | (with_reducible apply State.effect_kept)
    | (with_reducible apply State.fwdWrite_kept)
    | (intro _)
    | (dsimp only)

theorem execFdbAgeExpiry_kept {s : State} (h_s : Kept T s₀ s) (c : Nat) (hp : Sub 0x100000401000400 T) : Outcome.Kept T s₀ (execFdbAgeExpiry c s) := by
  unfold execFdbAgeExpiry
  try dsimp only
  repeat' first
    | (with_reducible assumption)
    | (with_reducible refine Outcome.Kept.next ?_)
    | ((with_reducible refine Sub.trans hp ?_); rfl)
    | ((with_reducible refine Sub.bit hp ?_); decide)
    | (with_reducible apply State.reach_kept)
    | (with_reducible apply State.working_kept)
    | (with_reducible apply State.fdbExpire_kept)
    | (intro _)
    | (dsimp only)

theorem execFdbInsert_kept {s : State} (h_s : Kept T s₀ s) (port : Port) (vid : Nat) (hp : Sub 0x100020401000302 T) : Outcome.Kept T s₀ (execFdbInsert port vid s) := by
  unfold execFdbInsert
  try dsimp only
  repeat' first
    | (with_reducible assumption)
    | (with_reducible refine Outcome.Kept.next ?_)
    | ((with_reducible refine Sub.trans hp ?_); rfl)
    | ((with_reducible refine Sub.bit hp ?_); decide)
    | (with_reducible apply State.effect_kept)
    | (with_reducible apply State.fdbInsert_kept)
    | (intro _)
    | (dsimp only)

theorem execFdbDelete_kept {s : State} (h_s : Kept T s₀ s) (port : Port) (vid : Nat) (hp : Sub 0x100020401000302 T) : Outcome.Kept T s₀ (execFdbDelete port vid s) := by
  unfold execFdbDelete
  try dsimp only
  repeat' first
    | (with_reducible assumption)
    | (with_reducible refine Outcome.Kept.next ?_)
    | ((with_reducible refine Sub.trans hp ?_); rfl)
    | ((with_reducible refine Sub.bit hp ?_); decide)
    | (with_reducible apply State.effect_kept)
    | (with_reducible apply State.fdbDelete_kept)
    | (intro _)
    | (dsimp only)

theorem execFdbFlushPort_kept {s : State} (h_s : Kept T s₀ s) (port : Port) (k : Nat) (hp : Sub 0x100020401000302 T) : Outcome.Kept T s₀ (execFdbFlushPort port k s) := by
  unfold execFdbFlushPort
  try dsimp only
  repeat' first
    | (with_reducible assumption)
    | (with_reducible refine Outcome.Kept.next ?_)
    | ((with_reducible refine Sub.trans hp ?_); rfl)
    | ((with_reducible refine Sub.bit hp ?_); decide)
    | (with_reducible apply State.effect_kept)
    | (with_reducible apply State.fdbFlushPort_kept)
    | (intro _)
    | (dsimp only)

theorem execFdbFlushInstance_kept {s : State} (h_s : Kept T s₀ s) (port : Port) (i : Nat) (hp : Sub 0x100020401000302 T) : Outcome.Kept T s₀ (execFdbFlushInstance port i s) := by
  unfold execFdbFlushInstance
  try dsimp only
  repeat' first
    | (with_reducible assumption)
    | (with_reducible refine Outcome.Kept.next ?_)
    | ((with_reducible refine Sub.trans hp ?_); rfl)
    | ((with_reducible refine Sub.bit hp ?_); decide)
    | (with_reducible apply State.effect_kept)
    | (with_reducible apply State.fdbFlushInstance_kept)
    | (intro _)
    | (dsimp only)

theorem execFdbFlushAll_kept {s : State} (h_s : Kept T s₀ s) (port : Port) (hp : Sub 0x100020401000302 T) : Outcome.Kept T s₀ (execFdbFlushAll port s) := by
  unfold execFdbFlushAll
  try dsimp only
  repeat' first
    | (with_reducible assumption)
    | (with_reducible refine Outcome.Kept.next ?_)
    | ((with_reducible refine Sub.trans hp ?_); rfl)
    | ((with_reducible refine Sub.bit hp ?_); decide)
    | (with_reducible apply State.effect_kept)
    | (with_reducible apply State.fdbFlushAll_kept)
    | (intro _)
    | (dsimp only)

theorem execFdbLookup_kept {s : State} (h_s : Kept T s₀ s) (port : Port) (vid : Nat) (hp : Sub 0x100020400000302 T) : Outcome.Kept T s₀ (execFdbLookup port vid s) := by
  unfold execFdbLookup
  try dsimp only
  repeat' first
    | (with_reducible assumption)
    | (with_reducible refine Outcome.Kept.next ?_)
    | ((with_reducible refine Sub.trans hp ?_); rfl)
    | ((with_reducible refine Sub.bit hp ?_); decide)
    | (with_reducible apply State.effect_kept)
    | (with_reducible apply State.fdbLookup_kept)
    | (intro _)
    | (dsimp only)

theorem execMdioC45Address_kept {s : State} (h_s : Kept T s₀ s) (port : Port) (c45 : Bool) (phy : Nat) (reg : Nat) (hp : Sub 0x100020401000302 T) : Outcome.Kept T s₀ (execMdioC45Address port c45 phy reg s) := by
  unfold execMdioC45Address
  try dsimp only
  repeat' first
    | (with_reducible assumption)
    | (with_reducible refine Outcome.Kept.next ?_)
    | ((with_reducible refine Sub.trans hp ?_); rfl)
    | ((with_reducible refine Sub.bit hp ?_); decide)
    | (with_reducible apply State.effect_kept)
    | (with_reducible apply State.mdioStart_kept)
    | (intro _)
    | (dsimp only)

theorem execMdioWrite_kept {s : State} (h_s : Kept T s₀ s) (port : Port) (c45 : Bool) (phy : Nat) (reg : Nat) (hp : Sub 0x100020401000302 T) : Outcome.Kept T s₀ (execMdioWrite port c45 phy reg s) := by
  unfold execMdioWrite
  try dsimp only
  repeat' first
    | (with_reducible assumption)
    | (with_reducible refine Outcome.Kept.next ?_)
    | ((with_reducible refine Sub.trans hp ?_); rfl)
    | ((with_reducible refine Sub.bit hp ?_); decide)
    | (with_reducible apply State.effect_kept)
    | (with_reducible apply State.mdioStart_kept)
    | (intro _)
    | (dsimp only)

theorem execMdioRead_kept {s : State} (h_s : Kept T s₀ s) (port : Port) (c45 : Bool) (phy : Nat) (reg : Nat) (hp : Sub 0x100020401000302 T) : Outcome.Kept T s₀ (execMdioRead port c45 phy reg s) := by
  unfold execMdioRead
  try dsimp only
  repeat' first
    | (with_reducible assumption)
    | (with_reducible refine Outcome.Kept.next ?_)
    | ((with_reducible refine Sub.trans hp ?_); rfl)
    | ((with_reducible refine Sub.bit hp ?_); decide)
    | (with_reducible apply State.effect_kept)
    | (with_reducible apply State.mdioStart_kept)
    | (intro _)
    | (dsimp only)

theorem execMdioC22Read_kept {s : State} (h_s : Kept T s₀ s) (port : Port) (c45 : Bool) (phy : Nat) (reg : Nat) (hp : Sub 0x100020401000302 T) : Outcome.Kept T s₀ (execMdioC22Read port c45 phy reg s) := by
  unfold execMdioC22Read
  try dsimp only
  repeat' first
    | (with_reducible assumption)
    | (with_reducible refine Outcome.Kept.next ?_)
    | ((with_reducible refine Sub.trans hp ?_); rfl)
    | ((with_reducible refine Sub.bit hp ?_); decide)
    | (with_reducible apply State.effect_kept)
    | (with_reducible apply State.mdioStart_kept)
    | (intro _)
    | (dsimp only)

theorem execMdioDone_kept {s : State} (h_s : Kept T s₀ s) (data : Nat) (hp : Sub 0x100020400000002 T) : Outcome.Kept T s₀ (execMdioDone data s) := by
  unfold execMdioDone
  try dsimp only
  repeat' first
    | (with_reducible assumption)
    | (with_reducible refine Outcome.Kept.next ?_)
    | ((with_reducible refine Sub.trans hp ?_); rfl)
    | ((with_reducible refine Sub.bit hp ?_); decide)
    | (with_reducible apply State.working_kept)
    | (with_reducible apply State.mdioEnd_kept)
    | (intro _)
    | (dsimp only)

theorem execHdmTxTailWrite_kept {s : State} (h_s : Kept T s₀ s) (port : Port) (r : Nat) (v : Nat) (hp : Sub 0x8000020400000302 T) : Outcome.Kept T s₀ (execHdmTxTailWrite port r v s) := by
  unfold execHdmTxTailWrite
  try dsimp only
  repeat' first
    | (with_reducible assumption)
    | (with_reducible refine Outcome.Kept.next ?_)
    | ((with_reducible refine Sub.trans hp ?_); rfl)
    | ((with_reducible refine Sub.bit hp ?_); decide)
    | ((with_reducible refine Sub.bitEq hp (j := 63) ?_ ?_) <;> [(first | (simp only [Field.slot, Field.page, Field.key]; omega) | rfl); rfl])
    | ((with_reducible refine Sub.bit hp ?_); rfl)
    | (with_reducible apply State.effect_kept)
    | (with_reducible apply State.wr_kept)
    | (intro _)
    | (dsimp only)

theorem execHdmTxFrame_kept {s : State} (h_s : Kept T s₀ s) (r : Nat) (descs : List TxDesc) (data : List Nat) (readErr : Bool) (hp : Sub 0x44fff00120507007c12 T) : Outcome.Kept T s₀ (execHdmTxFrame r descs data readErr s) := by
  unfold execHdmTxFrame
  try dsimp only
  repeat' first
    | (with_reducible assumption)
    | (with_reducible refine Outcome.Kept.next ?_)
    | ((with_reducible refine Sub.trans hp ?_); rfl)
    | ((with_reducible refine Sub.bit hp ?_); decide)
    | ((with_reducible refine Sub.bit hp ?_); rfl)
    | (with_reducible apply State.working_kept)
    | (with_reducible apply State.hdmTx_kept)
    | (intro _)
    | (dsimp only)

theorem execHdmRxDeliver_kept {s : State} (h_s : Kept T s₀ s) (r : Nat) (bufs : List Nat) (ecc : Nat) (hp : Sub 0x44cff00020507003006 T) : Outcome.Kept T s₀ (execHdmRxDeliver r bufs ecc s) := by
  unfold execHdmRxDeliver
  try dsimp only
  repeat' first
    | (with_reducible assumption)
    | (with_reducible refine Outcome.Kept.next ?_)
    | ((with_reducible refine Sub.trans hp ?_); rfl)
    | ((with_reducible refine Sub.bit hp ?_); decide)
    | ((with_reducible refine Sub.bit hp ?_); rfl)
    | (with_reducible apply State.working_kept)
    | (with_reducible apply State.hdmRx_kept)
    | (intro _)
    | (dsimp only)

theorem execHdmModDelayExpiry_kept {s : State} (h_s : Kept T s₀ s) (tx : Bool) (r : Nat) (hp : Sub 0x8000020402000002 T) : Outcome.Kept T s₀ (execHdmModDelayExpiry tx r s) := by
  unfold execHdmModDelayExpiry
  try dsimp only
  repeat' first
    | (with_reducible assumption)
    | (with_reducible refine Outcome.Kept.next ?_)
    | ((with_reducible refine Sub.trans hp ?_); rfl)
    | ((with_reducible refine Sub.bit hp ?_); decide)
    | ((with_reducible refine Sub.bit hp ?_); rfl)
    | (with_reducible apply State.working_kept)
    | (with_reducible apply State.modExpire_kept)
    | (intro _)
    | (dsimp only)

theorem execHdmDmaError_kept {s : State} (h_s : Kept T s₀ s)  (hp : Sub 0x8000020402000002 T) : Outcome.Kept T s₀ (execHdmDmaError s) := by
  unfold execHdmDmaError
  try dsimp only
  repeat' first
    | (with_reducible assumption)
    | (with_reducible refine Outcome.Kept.next ?_)
    | ((with_reducible refine Sub.trans hp ?_); rfl)
    | ((with_reducible refine Sub.bit hp ?_); decide)
    | ((with_reducible refine Sub.bit hp ?_); rfl)
    | (with_reducible apply State.working_kept)
    | (with_reducible apply State.dmaError_kept)
    | (intro _)
    | (dsimp only)

theorem execPtpSyncReceived_kept {s : State} (h_s : Kept T s₀ s) (k : Nat) (sender : Nat) (senderPort : Nat) (domain : Nat) (seq : Nat) (rx : Int) (origin : Int) (corr : Int) (twoStep : Bool) (hp : Sub 0x430000120100004c12 T) : Outcome.Kept T s₀ (execPtpSyncReceived k sender senderPort domain seq rx origin corr twoStep s) := by
  unfold execPtpSyncReceived
  try dsimp only
  repeat' first
    | (with_reducible assumption)
    | (with_reducible refine Outcome.Kept.next ?_)
    | ((with_reducible refine Sub.trans hp ?_); rfl)
    | ((with_reducible refine Sub.bit hp ?_); decide)
    | (with_reducible apply State.whenLive_kept)
    | (with_reducible apply State.syncRx_kept)
    | (intro _)
    | (dsimp only)

theorem execPtpAnnounceReceived_kept {s : State} (h_s : Kept T s₀ s) (k : Nat) (a : Announce) (hp : Sub 0x430000020100000c12 T) : Outcome.Kept T s₀ (execPtpAnnounceReceived k a s) := by
  unfold execPtpAnnounceReceived
  try dsimp only
  repeat' first
    | (with_reducible assumption)
    | (with_reducible refine Outcome.Kept.next ?_)
    | ((with_reducible refine Sub.trans hp ?_); rfl)
    | ((with_reducible refine Sub.bit hp ?_); decide)
    | (with_reducible apply State.whenLive_kept)
    | (with_reducible apply State.announceRx_kept)
    | (intro _)
    | (dsimp only)

theorem execAnnounceTimeout_kept {s : State} (h_s : Kept T s₀ s)  (hp : Sub 0x430000020100000c12 T) : Outcome.Kept T s₀ (execAnnounceTimeout s) := by
  unfold execAnnounceTimeout
  try dsimp only
  repeat' first
    | (with_reducible assumption)
    | (with_reducible refine Outcome.Kept.next ?_)
    | ((with_reducible refine Sub.trans hp ?_); rfl)
    | ((with_reducible refine Sub.bit hp ?_); decide)
    | (with_reducible apply State.whenLive_kept)
    | (with_reducible apply State.syncTimeout_kept)
    | (intro _)
    | (dsimp only)

theorem execHoldoverExpiry_kept {s : State} (h_s : Kept T s₀ s)  (hp : Sub 0x430000020100000c12 T) : Outcome.Kept T s₀ (execHoldoverExpiry s) := by
  unfold execHoldoverExpiry
  try dsimp only
  repeat' first
    | (with_reducible assumption)
    | (with_reducible refine Outcome.Kept.next ?_)
    | ((with_reducible refine Sub.trans hp ?_); rfl)
    | ((with_reducible refine Sub.bit hp ?_); decide)
    | (with_reducible apply State.whenLive_kept)
    | (with_reducible apply State.setTime_kept)
    | split
    | (intro _)
    | (dsimp only)

theorem execPtpMessageTx_kept {s : State} (h_s : Kept T s₀ s) (k : Nat) (kind : PtpKind) (seq : Nat) (ns : Int) (hp : Sub 0x430000120100004c12 T) : Outcome.Kept T s₀ (execPtpMessageTx k kind seq ns s) := by
  unfold execPtpMessageTx
  try dsimp only
  repeat' first
    | (with_reducible assumption)
    | (with_reducible refine Outcome.Kept.next ?_)
    | ((with_reducible refine Sub.trans hp ?_); rfl)
    | ((with_reducible refine Sub.bit hp ?_); decide)
    | (with_reducible apply State.whenLive_kept)
    | (with_reducible apply State.ptpTx_kept)
    | (intro _)
    | (dsimp only)

theorem execTimHostStateWrite_kept {s : State} (h_s : Kept T s₀ s) (port : Port) (v : Nat) (hp : Sub 0x430000020500000f12 T) : Outcome.Kept T s₀ (execTimHostStateWrite port v s) := by
  unfold execTimHostStateWrite
  try dsimp only
  repeat' first
    | (with_reducible assumption)
    | (with_reducible refine Outcome.Kept.next ?_)
    | ((with_reducible refine Sub.trans hp ?_); rfl)
    | ((with_reducible refine Sub.bit hp ?_); decide)
    | (with_reducible apply State.effect_kept)
    | (with_reducible apply State.hostState_kept)
    | (intro _)
    | (dsimp only)

theorem execTimRateWrite_kept {s : State} (h_s : Kept T s₀ s) (port : Port) (w : Nat) (hp : Sub 0x10000020400000702 T) : Outcome.Kept T s₀ (execTimRateWrite port w s) := by
  unfold execTimRateWrite
  try dsimp only
  repeat' first
    | (with_reducible assumption)
    | (with_reducible refine Outcome.Kept.next ?_)
    | ((with_reducible refine Sub.trans hp ?_); rfl)
    | ((with_reducible refine Sub.bit hp ?_); decide)
    | (with_reducible apply State.effect_kept)
    | (with_reducible apply State.hostRate_kept)
    | (intro _)
    | (dsimp only)

theorem execTimStepHiWrite_kept {s : State} (h_s : Kept T s₀ s) (port : Port) (w : Nat) (hp : Sub 0x10000120400004f02 T) : Outcome.Kept T s₀ (execTimStepHiWrite port w s) := by
  unfold execTimStepHiWrite
  try dsimp only
  repeat' first
    | (with_reducible assumption)
    | (with_reducible refine Outcome.Kept.next ?_)
    | ((with_reducible refine Sub.trans hp ?_); rfl)
    | ((with_reducible refine Sub.bit hp ?_); decide)
    | (with_reducible apply State.effect_kept)
    | (with_reducible apply State.hostStep_kept)
    | (intro _)
    | (dsimp only)

theorem execTimCapture_kept {s : State} (h_s : Kept T s₀ s) (port : Port) (hp : Sub 0x10000020400000302 T) : Outcome.Kept T s₀ (execTimCapture port s) := by
  unfold execTimCapture
  try dsimp only
  repeat' first
    | (with_reducible assumption)
    | (with_reducible refine Outcome.Kept.next ?_)
    | ((with_reducible refine Sub.trans hp ?_); rfl)
    | ((with_reducible refine Sub.bit hp ?_); decide)
    | (with_reducible apply State.effect_kept)
    | (with_reducible apply State.capture_kept)
    | (intro _)
    | (dsimp only)

theorem execTimNowLoRead_kept {s : State} (h_s : Kept T s₀ s) (port : Port) (hp : ∀ i, T i) : Outcome.Kept T s₀ (execTimNowLoRead port s) := by
  unfold execTimNowLoRead
  try dsimp only
  repeat' first
    | (with_reducible assumption)
    | (with_reducible refine Outcome.Kept.next ?_)
    | (with_reducible exact Sub.all hp)
    | (with_reducible exact hp)
    | (with_reducible exact hp _)
    | (with_reducible apply State.readPort_kept)
    | (intro _)
    | (dsimp only)

theorem execTimTsPop_kept {s : State} (h_s : Kept T s₀ s) (port : Port) (count : Nat) (hp : Sub 0x10000020400000702 T) : Outcome.Kept T s₀ (execTimTsPop port count s) := by
  unfold execTimTsPop
  try dsimp only
  repeat' first
    | (with_reducible assumption)
    | (with_reducible refine Outcome.Kept.next ?_)
    | ((with_reducible refine Sub.trans hp ?_); rfl)
    | ((with_reducible refine Sub.bit hp ?_); decide)
    | (with_reducible apply State.effect_kept)
    | (with_reducible apply State.tsPop_kept)
    | (intro _)
    | (dsimp only)

theorem execPpsOutPulse_kept {s : State} (h_s : Kept T s₀ s) (c : Nat) (hp : Sub 0x402 T) : Outcome.Kept T s₀ (execPpsOutPulse c s) := by
  unfold execPpsOutPulse
  try dsimp only
  repeat' first
    | (with_reducible assumption)
    | (with_reducible refine Outcome.Kept.next ?_)
    | ((with_reducible refine Sub.trans hp ?_); rfl)
    | ((with_reducible refine Sub.bit hp ?_); decide)
    | (with_reducible apply State.whenLive_kept)
    | (with_reducible apply State.ppsPulse_kept)
    | (intro _)
    | (dsimp only)

theorem execPpsInEdge_kept {s : State} (h_s : Kept T s₀ s) (falling : Bool) (c : Nat) (hp : Sub 0x10000020000000402 T) : Outcome.Kept T s₀ (execPpsInEdge falling c s) := by
  unfold execPpsInEdge
  try dsimp only
  repeat' first
    | (with_reducible assumption)
    | (with_reducible refine Outcome.Kept.next ?_)
    | ((with_reducible refine Sub.trans hp ?_); rfl)
    | ((with_reducible refine Sub.bit hp ?_); decide)
    | (with_reducible apply State.whenLive_kept)
    | (with_reducible apply State.ppsEdge_kept)
    | (intro _)
    | (dsimp only)

theorem execRtcSecondRollover_kept {s : State} (h_s : Kept T s₀ s)  (hp : Sub 0x430000020100000842 T) : Outcome.Kept T s₀ (execRtcSecondRollover s) := by
  unfold execRtcSecondRollover
  try dsimp only
  repeat' first
    | (with_reducible assumption)
    | (with_reducible refine Outcome.Kept.next ?_)
    | ((with_reducible refine Sub.trans hp ?_); rfl)
    | ((with_reducible refine Sub.bit hp ?_); decide)
    | (with_reducible apply State.pulsesToWrap_kept)
    | split
    | (intro _)
    | (dsimp only)

theorem execRtcSetCount_kept {s : State} (h_s : Kept T s₀ s) (port : Port) (hp : Sub 0x20000020400000b02 T) : Outcome.Kept T s₀ (execRtcSetCount port s) := by
  unfold execRtcSetCount
  try dsimp only
  repeat' first
    | (with_reducible assumption)
    | (with_reducible refine Outcome.Kept.next ?_)
    | ((with_reducible refine Sub.trans hp ?_); rfl)
    | ((with_reducible refine Sub.bit hp ?_); decide)
    | (with_reducible apply State.effect_kept)
    | (with_reducible apply State.rtcSetCount_kept)
    | (intro _)
    | (dsimp only)

theorem execRtcSetFields_kept {s : State} (h_s : Kept T s₀ s) (port : Port) (hp : Sub 0x20000020400000b02 T) : Outcome.Kept T s₀ (execRtcSetFields port s) := by
  unfold execRtcSetFields
  try dsimp only
  repeat' first
    | (with_reducible assumption)
    | (with_reducible refine Outcome.Kept.next ?_)
    | ((with_reducible refine Sub.trans hp ?_); rfl)
    | ((with_reducible refine Sub.bit hp ?_); decide)
    | (with_reducible apply State.effect_kept)
    | (with_reducible apply State.rtcSetFields_kept)
    | (intro _)
    | (dsimp only)

theorem execRtcTrimWindowEnd_kept {s : State} (h_s : Kept T s₀ s) (c : Nat) (hp : Sub 0x20000020000000c02 T) : Outcome.Kept T s₀ (execRtcTrimWindowEnd c s) := by
  unfold execRtcTrimWindowEnd
  try dsimp only
  repeat' first
    | (with_reducible assumption)
    | (with_reducible refine Outcome.Kept.next ?_)
    | ((with_reducible refine Sub.trans hp ?_); rfl)
    | ((with_reducible refine Sub.bit hp ?_); decide)
    | (with_reducible apply State.whenLive_kept)
    | (with_reducible apply State.trimWindow_kept)
    | (intro _)
    | (dsimp only)

theorem execOscillatorStopped_kept {s : State} (h_s : Kept T s₀ s)  (hp : Sub 0x420000020100004802 T) : Outcome.Kept T s₀ (execOscillatorStopped s) := by
  unfold execOscillatorStopped
  try dsimp only
  repeat' first
    | (with_reducible assumption)
    | (with_reducible refine Outcome.Kept.next ?_)
    | ((with_reducible refine Sub.trans hp ?_); rfl)
    | ((with_reducible refine Sub.bit hp ?_); decide)
    | (with_reducible apply State.osfSet_kept)
    | (intro _)
    | (dsimp only)

theorem execSlqPacketComplete_kept {s : State} (h_s : Kept T s₀ s) (q : Nat) (kind : Nat) (prio : Nat) (pad : Nat) (words : List Nat) (carry : Bool) (hp : Sub 0x4440000020500003002 T) : Outcome.Kept T s₀ (execSlqPacketComplete q kind prio pad words carry s) := by
  unfold execSlqPacketComplete
  try dsimp only
  repeat' first
    | (with_reducible assumption)
    | (with_reducible refine Outcome.Kept.next ?_)
    | ((with_reducible refine Sub.trans hp ?_); rfl)
    | ((with_reducible refine Sub.bit hp ?_); decide)
    | (with_reducible apply State.working_kept)
    | (with_reducible apply State.slqPut_kept)
    | (with_reducible apply State.slqDownSpoilt_kept)
    | split
    | (intro _)
    | (dsimp only)

theorem execSlqStallResume_kept {s : State} (h_s : Kept T s₀ s) (q : Nat) (hp : Sub 0x4440000020500003002 T) : Outcome.Kept T s₀ (execSlqStallResume q s) := by
  unfold execSlqStallResume
  try dsimp only
  repeat' first
    | (with_reducible assumption)
    | (with_reducible refine Outcome.Kept.next ?_)
    | ((with_reducible refine Sub.trans hp ?_); rfl)
    | ((with_reducible refine Sub.bit hp ?_); decide)
    | (with_reducible apply State.working_kept)
    | (with_reducible apply State.slqResumeN_kept)
    | (intro _)
    | (dsimp only)

theorem execSlqUplinkRead_kept {s : State} (h_s : Kept T s₀ s) (port : Port) (q : Nat) (spoiled : Bool) (hp : Sub 0x4440000020100003306 T) : Outcome.Kept T s₀ (execSlqUplinkRead port q spoiled s) := by
  unfold execSlqUplinkRead
  try dsimp only
  repeat' first
    | (with_reducible assumption)
    | (with_reducible refine Outcome.Kept.next ?_)
    | ((with_reducible refine Sub.trans hp ?_); rfl)
    | ((with_reducible refine Sub.bit hp ?_); decide)
    | (with_reducible apply State.slqSpoil_kept)
    | (with_reducible apply State.slqPortRead_kept)
    | split
    | (intro _)
    | (dsimp only)

theorem execSlqDrop_kept {s : State} (h_s : Kept T s₀ s) (port : Port) (q : Nat) (hp : Sub 0x4440000020500003302 T) : Outcome.Kept T s₀ (execSlqDrop port q s) := by
  unfold execSlqDrop
  try dsimp only
  repeat' first
    | (with_reducible assumption)
    | (with_reducible refine Outcome.Kept.next ?_)
    | ((with_reducible refine Sub.trans hp ?_); rfl)
    | ((with_reducible refine Sub.bit hp ?_); decide)
    | (with_reducible apply State.effect_kept)
    | (with_reducible apply State.slqDrop_kept)
    | (intro _)
    | (dsimp only)

theorem execSlqMark_kept {s : State} (h_s : Kept T s₀ s) (port : Port) (q : Nat) (hp : Sub 0x4440000020500003302 T) : Outcome.Kept T s₀ (execSlqMark port q s) := by
  unfold execSlqMark
  try dsimp only
  repeat' first
    | (with_reducible assumption)
    | (with_reducible refine Outcome.Kept.next ?_)
    | ((with_reducible refine Sub.trans hp ?_); rfl)
    | ((with_reducible refine Sub.bit hp ?_); decide)
    | (with_reducible apply State.effect_kept)
    | (with_reducible apply State.slqMark_kept)
    | (intro _)
    | (dsimp only)

theorem execSlqRewind_kept {s : State} (h_s : Kept T s₀ s) (port : Port) (q : Nat) (hp : Sub 0x20400003302 T) : Outcome.Kept T s₀ (execSlqRewind port q s) := by
  unfold execSlqRewind
  try dsimp only
  repeat' first
    | (with_reducible assumption)
    | (with_reducible refine Outcome.Kept.next ?_)
    | ((with_reducible refine Sub.trans hp ?_); rfl)
    | ((with_reducible refine Sub.bit hp ?_); decide)
    | (with_reducible apply State.effect_kept)
    | (with_reducible apply State.slqRewind_kept)
    | (intro _)
    | (dsimp only)

theorem execSlqClearMark_kept {s : State} (h_s : Kept T s₀ s) (port : Port) (q : Nat) (hp : Sub 0x4440000020500003302 T) : Outcome.Kept T s₀ (execSlqClearMark port q s) := by
  unfold execSlqClearMark
  try dsimp only
  repeat' first
    | (with_reducible assumption)
    | (with_reducible refine Outcome.Kept.next ?_)
    | ((with_reducible refine Sub.trans hp ?_); rfl)
    | ((with_reducible refine Sub.bit hp ?_); decide)
    | (with_reducible apply State.effect_kept)
    | (with_reducible apply State.slqClearMark_kept)
    | (intro _)
    | (dsimp only)

theorem execSlqClrMax_kept {s : State} (h_s : Kept T s₀ s) (port : Port) (q : Nat) (hp : Sub 0x40000020400000302 T) : Outcome.Kept T s₀ (execSlqClrMax port q s) := by
  unfold execSlqClrMax
  try dsimp only
  repeat' first
    | (with_reducible assumption)
    | (with_reducible refine Outcome.Kept.next ?_)
    | ((with_reducible refine Sub.trans hp ?_); rfl)
    | ((with_reducible refine Sub.bit hp ?_); decide)
    | (with_reducible apply State.effect_kept)
    | (with_reducible apply State.slqClrMax_kept)
    | (intro _)
    | (dsimp only)

theorem execSlqFlush_kept {s : State} (h_s : Kept T s₀ s) (port : Port) (q : Nat) (hp : Sub 0x4440000020500003302 T) : Outcome.Kept T s₀ (execSlqFlush port q s) := by
  unfold execSlqFlush
  try dsimp only
  repeat' first
    | (with_reducible assumption)
    | (with_reducible refine Outcome.Kept.next ?_)
    | ((with_reducible refine Sub.trans hp ?_); rfl)
    | ((with_reducible refine Sub.bit hp ?_); decide)
    | (with_reducible apply State.effect_kept)
    | (with_reducible apply State.slqFlush_kept)
    | (intro _)
    | (dsimp only)

theorem execSlqDownlinkData_kept {s : State} (h_s : Kept T s₀ s) (port : Port) (d : Nat) (w : Nat) (hp : Sub 0x40000020400003302 T) : Outcome.Kept T s₀ (execSlqDownlinkData port d w s) := by
  unfold execSlqDownlinkData
  try dsimp only
  repeat' first
    | (with_reducible assumption)
    | (with_reducible refine Outcome.Kept.next ?_)
    | ((with_reducible refine Sub.trans hp ?_); rfl)
    | ((with_reducible refine Sub.bit hp ?_); decide)
    | (with_reducible apply State.post_kept)
    | (with_reducible apply State.effect_kept)
    | (with_reducible apply State.slqDownWord_kept)
    | split
    | (intro _)
    | (dsimp only)

theorem execSlqDownlinkCommit_kept {s : State} (h_s : Kept T s₀ s) (port : Port) (d : Nat) (len : Nat) (hp : Sub 0x40000020400003302 T) : Outcome.Kept T s₀ (execSlqDownlinkCommit port d len s) := by
  unfold execSlqDownlinkCommit
  try dsimp only
  repeat' first
    | (with_reducible assumption)
    | (with_reducible refine Outcome.Kept.next ?_)
    | ((with_reducible refine Sub.trans hp ?_); rfl)
    | ((with_reducible refine Sub.bit hp ?_); decide)
    | (with_reducible apply State.effect_kept)
    | (with_reducible apply State.slqDownCommit_kept)
    | (intro _)
    | (dsimp only)

theorem execSlqAbort_kept {s : State} (h_s : Kept T s₀ s) (port : Port) (d : Nat) (hp : Sub 0x40000020400003302 T) : Outcome.Kept T s₀ (execSlqAbort port d s) := by
  unfold execSlqAbort
  try dsimp only
  repeat' first
    | (with_reducible assumption)
    | (with_reducible refine Outcome.Kept.next ?_)
    | ((with_reducible refine Sub.trans hp ?_); rfl)
    | ((with_reducible refine Sub.bit hp ?_); decide)
    | (with_reducible apply State.effect_kept)
    | (with_reducible apply State.slqAbort_kept)
    | (intro _)
    | (dsimp only)

theorem execSlqCellsWrite_kept {s : State} (h_s : Kept T s₀ s) (port : Port) (q : Nat) (n : Nat) (hp : Sub 0x40000020400000302 T) : Outcome.Kept T s₀ (execSlqCellsWrite port q n s) := by
  unfold execSlqCellsWrite
  try dsimp only
  repeat' first
    | (with_reducible assumption)
    | (with_reducible refine Outcome.Kept.next ?_)
    | ((with_reducible refine Sub.trans hp ?_); rfl)
    | ((with_reducible refine Sub.bit hp ?_); decide)
    | ((with_reducible refine Sub.bitEq hp (qCells_slot _) ?_); rfl)
    | (with_reducible apply State.effect_kept)
    | (with_reducible apply State.slqSetCells_kept)
    | (intro _)
    | (dsimp only)

theorem execSlqTimeout_kept {s : State} (h_s : Kept T s₀ s) (q : Nat) (hp : Sub 0x40000020400003002 T) : Outcome.Kept T s₀ (execSlqTimeout q s) := by
  unfold execSlqTimeout
  try dsimp only
  repeat' first
    | (with_reducible assumption)
    | (with_reducible refine Outcome.Kept.next ?_)
    | ((with_reducible refine Sub.trans hp ?_); rfl)
    | ((with_reducible refine Sub.bit hp ?_); decide)
    | (with_reducible apply State.working_kept)
    | (with_reducible apply State.slqTimerExpires_kept)
    | (intro _)
    | (dsimp only)

theorem execSlqEnableWrite_kept {s : State} (h_s : Kept T s₀ s) (port : Port) (en : Bool) (hp : Sub 0x40000020400003302 T) : Outcome.Kept T s₀ (execSlqEnableWrite port en s) := by
  unfold execSlqEnableWrite
  try dsimp only
  repeat' first
    | (with_reducible assumption)
    | (with_reducible refine Outcome.Kept.next ?_)
    | ((with_reducible refine Sub.trans hp ?_); rfl)
    | ((with_reducible refine Sub.bit hp ?_); decide)
    | (with_reducible apply State.effect_kept)
    | (with_reducible apply State.slqEnable_kept)
    | (intro _)
    | (dsimp only)

theorem execHeartbeat_kept {s : State} (h_s : Kept T s₀ s) (c : Nat) (hp : Sub 0x80000400004000402 T) : Outcome.Kept T s₀ (execHeartbeat c s) := by
  unfold execHeartbeat
  try dsimp only
  repeat' first
    | (with_reducible assumption)
    | (with_reducible refine Outcome.Kept.next ?_)
    | ((with_reducible refine Sub.trans hp ?_); rfl)
    | ((with_reducible refine Sub.bit hp ?_); decide)
    | (with_reducible apply State.reach_kept)
    | (with_reducible apply State.whenLive_kept)
    | (with_reducible apply State.turn_kept)
    | (intro _)
    | (dsimp only)

theorem execBiduesFrameReceived_kept {s : State} (h_s : Kept T s₀ s) (f : Bidues) (hp : Sub 0x44c0000420104003012 T) : Outcome.Kept T s₀ (execBiduesFrameReceived f s) := by
  unfold execBiduesFrameReceived
  try dsimp only
  repeat' first
    | (with_reducible assumption)
    | (with_reducible refine Outcome.Kept.next ?_)
    | ((with_reducible refine Sub.trans hp ?_); rfl)
    | ((with_reducible refine Sub.bit hp ?_); decide)
    | (with_reducible apply State.whenLive_kept)
    | (with_reducible apply State.bidues_kept)
    | (intro _)
    | (dsimp only)

theorem execQuery_kept {s : State} (h_s : Kept T s₀ s) (f : Bidues) (hp : Sub 0x44c0000420104003012 T) : Outcome.Kept T s₀ (execQuery f s) := by
  unfold execQuery
  try dsimp only
  repeat' first
    | (with_reducible assumption)
    | (with_reducible refine Outcome.Kept.next ?_)
    | ((with_reducible refine Sub.trans hp ?_); rfl)
    | ((with_reducible refine Sub.bit hp ?_); decide)
    | (with_reducible apply State.whenLive_kept)
    | (with_reducible apply State.bidues_kept)
    | (intro _)
    | (dsimp only)

theorem execAnswer_kept {s : State} (h_s : Kept T s₀ s) (f : Bidues) (hp : Sub 0x44c0000420104003012 T) : Outcome.Kept T s₀ (execAnswer f s) := by
  unfold execAnswer
  try dsimp only
  repeat' first
    | (with_reducible assumption)
    | (with_reducible refine Outcome.Kept.next ?_)
    | ((with_reducible refine Sub.trans hp ?_); rfl)
    | ((with_reducible refine Sub.bit hp ?_); decide)
    | (with_reducible apply State.whenLive_kept)
    | (with_reducible apply State.bidues_kept)
    | (intro _)
    | (dsimp only)

theorem execSwapReq_kept {s : State} (h_s : Kept T s₀ s) (f : Bidues) (hp : Sub 0x44c0000420104003012 T) : Outcome.Kept T s₀ (execSwapReq f s) := by
  unfold execSwapReq
  try dsimp only
  repeat' first
    | (with_reducible assumption)
    | (with_reducible refine Outcome.Kept.next ?_)
    | ((with_reducible refine Sub.trans hp ?_); rfl)
    | ((with_reducible refine Sub.bit hp ?_); decide)
    | (with_reducible apply State.whenLive_kept)
    | (with_reducible apply State.bidues_kept)
    | (intro _)
    | (dsimp only)

theorem execSwapAck_kept {s : State} (h_s : Kept T s₀ s) (f : Bidues) (hp : Sub 0x44c0000420104003012 T) : Outcome.Kept T s₀ (execSwapAck f s) := by
  unfold execSwapAck
  try dsimp only
  repeat' first
    | (with_reducible assumption)
    | (with_reducible refine Outcome.Kept.next ?_)
    | ((with_reducible refine Sub.trans hp ?_); rfl)
    | ((with_reducible refine Sub.bit hp ?_); decide)
    | (with_reducible apply State.whenLive_kept)
    | (with_reducible apply State.bidues_kept)
    | (intro _)
    | (dsimp only)

theorem execSwapNak_kept {s : State} (h_s : Kept T s₀ s) (f : Bidues) (hp : Sub 0x44c0000420104003012 T) : Outcome.Kept T s₀ (execSwapNak f s) := by
  unfold execSwapNak
  try dsimp only
  repeat' first
    | (with_reducible assumption)
    | (with_reducible refine Outcome.Kept.next ?_)
    | ((with_reducible refine Sub.trans hp ?_); rfl)
    | ((with_reducible refine Sub.bit hp ?_); decide)
    | (with_reducible apply State.whenLive_kept)
    | (with_reducible apply State.bidues_kept)
    | (intro _)
    | (dsimp only)

theorem execResign_kept {s : State} (h_s : Kept T s₀ s) (f : Bidues) (hp : Sub 0x44c0000420104003012 T) : Outcome.Kept T s₀ (execResign f s) := by
  unfold execResign
  try dsimp only
  repeat' first
    | (with_reducible assumption)
    | (with_reducible refine Outcome.Kept.next ?_)
    | ((with_reducible refine Sub.trans hp ?_); rfl)
    | ((with_reducible refine Sub.bit hp ?_); decide)
    | (with_reducible apply State.whenLive_kept)
    | (with_reducible apply State.bidues_kept)
    | (intro _)
    | (dsimp only)

theorem execBiduesLinkLost_kept {s : State} (h_s : Kept T s₀ s)  (hp : Sub 0x44c0000020104003012 T) : Outcome.Kept T s₀ (execBiduesLinkLost s) := by
  unfold execBiduesLinkLost
  try dsimp only
  repeat' first
    | (with_reducible assumption)
    | (with_reducible refine Outcome.Kept.next ?_)
    | ((with_reducible refine Sub.trans hp ?_); rfl)
    | ((with_reducible refine Sub.bit hp ?_); decide)
    | (with_reducible apply State.whenLive_kept)
    | (with_reducible apply State.linkLost_kept)
    | (intro _)
    | (dsimp only)

theorem execComparatorLoad_kept {s : State} (h_s : Kept T s₀ s)  (hp : Sub 0x80000000004000000 T) : Outcome.Kept T s₀ (execComparatorLoad s) := by
  unfold execComparatorLoad
  try dsimp only
  repeat' first
    | (with_reducible assumption)
    | (with_reducible refine Outcome.Kept.next ?_)
    | ((with_reducible refine Sub.trans hp ?_); rfl)
    | ((with_reducible refine Sub.bit hp ?_); decide)
    | (with_reducible apply State.whenLive_kept)
    | (with_reducible apply State.comparatorLoad_kept)
    | (intro _)
    | (dsimp only)

theorem execStartWaitExpiry_kept {s : State} (h_s : Kept T s₀ s)  (hp : Sub 0x44c0000020104003012 T) : Outcome.Kept T s₀ (execStartWaitExpiry s) := by
  unfold execStartWaitExpiry
  try dsimp only
  repeat' first
    | (with_reducible assumption)
    | (with_reducible refine Outcome.Kept.next ?_)
    | ((with_reducible refine Sub.trans hp ?_); rfl)
    | ((with_reducible refine Sub.bit hp ?_); decide)
    | (with_reducible apply State.whenLive_kept)
    | (with_reducible apply State.waitOver_kept)
    | (intro _)
    | (dsimp only)

theorem execQueryWaitExpiry_kept {s : State} (h_s : Kept T s₀ s)  (hp : Sub 0x4000010 T) : Outcome.Kept T s₀ (execQueryWaitExpiry s) := by
  unfold execQueryWaitExpiry
  try dsimp only
  repeat' first
    | (with_reducible assumption)
    | (with_reducible refine Outcome.Kept.next ?_)
    | ((with_reducible refine Sub.trans hp ?_); rfl)
    | ((with_reducible refine Sub.bit hp ?_); decide)
    | (with_reducible apply State.whenLive_kept)
    | (with_reducible apply State.queryExpire_kept)
    | (intro _)
    | (dsimp only)

theorem execSwapAckTimeout_kept {s : State} (h_s : Kept T s₀ s)  (hp : Sub 0x44c0000020104003012 T) : Outcome.Kept T s₀ (execSwapAckTimeout s) := by
  unfold execSwapAckTimeout
  try dsimp only
  repeat' first
    | (with_reducible assumption)
    | (with_reducible refine Outcome.Kept.next ?_)
    | ((with_reducible refine Sub.trans hp ?_); rfl)
    | ((with_reducible refine Sub.bit hp ?_); decide)
    | (with_reducible apply State.whenLive_kept)
    | (with_reducible apply State.swapExpire_kept)
    | (intro _)
    | (dsimp only)

theorem execHandover_kept {s : State} (h_s : Kept T s₀ s) (port : Port) (hp : Sub 0x44c0000020500003312 T) : Outcome.Kept T s₀ (execHandover port s) := by
  unfold execHandover
  try dsimp only
  repeat' first
    | (with_reducible assumption)
    | (with_reducible refine Outcome.Kept.next ?_)
    | ((with_reducible refine Sub.trans hp ?_); rfl)
    | ((with_reducible refine Sub.bit hp ?_); decide)
    | (with_reducible apply State.effect_kept)
    | (with_reducible apply State.handover_kept)
    | (intro _)
    | (dsimp only)

theorem execTake_kept {s : State} (h_s : Kept T s₀ s) (port : Port) (hp : Sub 0x44c0000020504003302 T) : Outcome.Kept T s₀ (execTake port s) := by
  unfold execTake
  try dsimp only
  repeat' first
    | (with_reducible assumption)
    | (with_reducible refine Outcome.Kept.next ?_)
    | ((with_reducible refine Sub.trans hp ?_); rfl)
    | ((with_reducible refine Sub.bit hp ?_); decide)
    | (with_reducible apply State.effect_kept)
    | (with_reducible apply State.take_kept)
    | (intro _)
    | (dsimp only)

theorem execEpochReset_kept {s : State} (h_s : Kept T s₀ s) (port : Port) (hp : Sub 0x80000020400000302 T) : Outcome.Kept T s₀ (execEpochReset port s) := by
  unfold execEpochReset
  try dsimp only
  repeat' first
    | (with_reducible assumption)
    | (with_reducible refine Outcome.Kept.next ?_)
    | ((with_reducible refine Sub.trans hp ?_); rfl)
    | ((with_reducible refine Sub.bit hp ?_); decide)
    | (with_reducible apply State.effect_kept)
    | (with_reducible apply State.epochReset_kept)
    | (intro _)
    | (dsimp only)

theorem execClmQuery_kept {s : State} (h_s : Kept T s₀ s) (port : Port) (hp : Sub 0x80000020404000302 T) : Outcome.Kept T s₀ (execClmQuery port s) := by
  unfold execClmQuery
  try dsimp only
  repeat' first
    | (with_reducible assumption)
    | (with_reducible refine Outcome.Kept.next ?_)
    | ((with_reducible refine Sub.trans hp ?_); rfl)
    | ((with_reducible refine Sub.bit hp ?_); decide)
    | (with_reducible apply State.effect_kept)
    | (with_reducible apply State.hostQuery_kept)
    | (intro _)
    | (dsimp only)

theorem execPeriodicSwap_kept {s : State} (h_s : Kept T s₀ s)  (hp : Sub 0x44c0000020104003012 T) : Outcome.Kept T s₀ (execPeriodicSwap s) := by
  unfold execPeriodicSwap
  try dsimp only
  repeat' first
    | (with_reducible assumption)
    | (with_reducible refine Outcome.Kept.next ?_)
    | ((with_reducible refine Sub.trans hp ?_); rfl)
    | ((with_reducible refine Sub.bit hp ?_); decide)
    | (with_reducible apply State.whenLive_kept)
    | (with_reducible apply State.periodicSwap_kept)
    | (intro _)
    | (dsimp only)

theorem execRevertSettleExpiry_kept {s : State} (h_s : Kept T s₀ s)  (hp : Sub 0x4000000 T) : Outcome.Kept T s₀ (execRevertSettleExpiry s) := by
  unfold execRevertSettleExpiry
  try dsimp only
  repeat' first
    | (with_reducible assumption)
    | (with_reducible refine Outcome.Kept.next ?_)
    | ((with_reducible refine Sub.trans hp ?_); rfl)
    | ((with_reducible refine Sub.bit hp ?_); decide)
    | (with_reducible apply State.whenLive_kept)
    | (with_reducible apply State.revert_kept)
    | (intro _)
    | (dsimp only)

theorem execClmEnableWrite_kept {s : State} (h_s : Kept T s₀ s) (port : Port) (en : Bool) (hp : Sub 0x80000420404000312 T) : Outcome.Kept T s₀ (execClmEnableWrite port en s) := by
  unfold execClmEnableWrite
  try dsimp only
  repeat' first
    | (with_reducible assumption)
    | (with_reducible refine Outcome.Kept.next ?_)
    | ((with_reducible refine Sub.trans hp ?_); rfl)
    | ((with_reducible refine Sub.bit hp ?_); decide)
    | (with_reducible apply State.effect_kept)
    | (with_reducible apply State.clmEnable_kept)
    | (intro _)
    | (dsimp only)

theorem execQuietTableHour_kept {s : State} (h_s : Kept T s₀ s)  (hp : Sub 0x4000001 T) : Outcome.Kept T s₀ (execQuietTableHour s) := by
  unfold execQuietTableHour
  try dsimp only
  repeat' first
    | (with_reducible assumption)
    | (with_reducible refine Outcome.Kept.next ?_)
    | ((with_reducible refine Sub.trans hp ?_); rfl)
    | ((with_reducible refine Sub.bit hp ?_); decide)
    | (with_reducible apply State.whenLive_kept)
    | (with_reducible apply State.quietHour_kept)
    | (intro _)
    | (dsimp only)

theorem execKeyLoad_kept {s : State} (h_s : Kept T s₀ s)  (hp : Sub 0x4540000120508007002 T) : Outcome.Kept T s₀ (execKeyLoad s) := by
  unfold execKeyLoad
  try dsimp only
  repeat' first
    | (with_reducible assumption)
    | (with_reducible refine Outcome.Kept.next ?_)
    | ((with_reducible refine Sub.trans hp ?_); rfl)
    | ((with_reducible refine Sub.bit hp ?_); decide)
    | (with_reducible apply State.working_kept)
    | (with_reducible apply State.hpnTake_kept)
    | (with_reducible apply State.keyOperation_kept)
    | (intro _)
    | (dsimp only)

theorem execKeyDerive_kept {s : State} (h_s : Kept T s₀ s)  (hp : Sub 0x4540000120508007002 T) : Outcome.Kept T s₀ (execKeyDerive s) := by
  unfold execKeyDerive
  try dsimp only
  repeat' first
    | (with_reducible assumption)
    | (with_reducible refine Outcome.Kept.next ?_)
    | ((with_reducible refine Sub.trans hp ?_); rfl)
    | ((with_reducible refine Sub.bit hp ?_); decide)
    | (with_reducible apply State.working_kept)
    | (with_reducible apply State.hpnTake_kept)
    | (with_reducible apply State.keyOperation_kept)
    | (intro _)
    | (dsimp only)

theorem execKeyRotate_kept {s : State} (h_s : Kept T s₀ s)  (hp : Sub 0x4540000120508007002 T) : Outcome.Kept T s₀ (execKeyRotate s) := by
  unfold execKeyRotate
  try dsimp only
  repeat' first
    | (with_reducible assumption)
    | (with_reducible refine Outcome.Kept.next ?_)
    | ((with_reducible refine Sub.trans hp ?_); rfl)
    | ((with_reducible refine Sub.bit hp ?_); decide)
    | (with_reducible apply State.working_kept)
    | (with_reducible apply State.hpnTake_kept)
    | (with_reducible apply State.keyOperation_kept)
    | (intro _)
    | (dsimp only)

theorem execKeyErase_kept {s : State} (h_s : Kept T s₀ s)  (hp : Sub 0x4540000120508007002 T) : Outcome.Kept T s₀ (execKeyErase s) := by
  unfold execKeyErase
  try dsimp only
  repeat' first
    | (with_reducible assumption)
    | (with_reducible refine Outcome.Kept.next ?_)
    | ((with_reducible refine Sub.trans hp ?_); rfl)
    | ((with_reducible refine Sub.bit hp ?_); decide)
    | (with_reducible apply State.working_kept)
    | (with_reducible apply State.hpnTake_kept)
    | (with_reducible apply State.keyOperation_kept)
    | (intro _)
    | (dsimp only)

theorem execLcRequest_kept {s : State} (h_s : Kept T s₀ s)  (hp : Sub 0x4540000030508003016 T) : Outcome.Kept T s₀ (execLcRequest s) := by
  unfold execLcRequest
  try dsimp only
  repeat' first
    | (with_reducible assumption)
    | (with_reducible refine Outcome.Kept.next ?_)
    | ((with_reducible refine Sub.trans hp ?_); rfl)
    | ((with_reducible refine Sub.bit hp ?_); decide)
    | (with_reducible apply State.working_kept)
    | (with_reducible apply State.hpnTake_kept)
    | (with_reducible apply State.lcRequest_kept)
    | (intro _)
    | (dsimp only)

theorem execKeyQuery_kept {s : State} (h_s : Kept T s₀ s)  (hp : Sub 0x4540000120508007002 T) : Outcome.Kept T s₀ (execKeyQuery s) := by
  unfold execKeyQuery
  try dsimp only
  repeat' first
    | (with_reducible assumption)
    | (with_reducible refine Outcome.Kept.next ?_)
    | ((with_reducible refine Sub.trans hp ?_); rfl)
    | ((with_reducible refine Sub.bit hp ?_); decide)
    | (with_reducible apply State.working_kept)
    | (with_reducible apply State.hpnTake_kept)
    | (with_reducible apply State.keyOperation_kept)
    | (intro _)
    | (dsimp only)

theorem execKeyIslandError_kept {s : State} (h_s : Kept T s₀ s)  (hp : Sub 0x4540000020508003002 T) : Outcome.Kept T s₀ (execKeyIslandError s) := by
  unfold execKeyIslandError
  try dsimp only
  repeat' first
    | (with_reducible assumption)
    | (with_reducible refine Outcome.Kept.next ?_)
    | ((with_reducible refine Sub.trans hp ?_); rfl)
    | ((with_reducible refine Sub.bit hp ?_); decide)
    | (with_reducible apply State.working_kept)
    | (with_reducible apply State.zeroise_kept)
    | (with_reducible apply State.silt_kept)
    | (intro _)
    | (dsimp only)

theorem execTamperSamplingRound_kept {s : State} (h_s : Kept T s₀ s) (opened : Nat) (hot : Bool) (busy : Bool) (hp : Sub 0x474000803011800305f T) : Outcome.Kept T s₀ (execTamperSamplingRound opened hot busy s) := by
  unfold execTamperSamplingRound
  try dsimp only
  repeat' first
    | (with_reducible assumption)
    | (with_reducible refine Outcome.Kept.next ?_)
    | ((with_reducible refine Sub.trans hp ?_); rfl)
    | ((with_reducible refine Sub.bit hp ?_); decide)
    | (with_reducible apply State.tamperRound_kept)
    | (intro _)
    | (dsimp only)

theorem execTamperMonitorTrip_kept {s : State} (h_s : Kept T s₀ s) (m : Nat) (aon : Bool) (busy : Bool) (hp : Sub 0x474000803010800305f T) : Outcome.Kept T s₀ (execTamperMonitorTrip m aon busy s) := by
  unfold execTamperMonitorTrip
  try dsimp only
  repeat' first
    | (with_reducible assumption)
    | (with_reducible refine Outcome.Kept.next ?_)
    | ((with_reducible refine Sub.trans hp ?_); rfl)
    | ((with_reducible refine Sub.bit hp ?_); decide)
    | (with_reducible apply State.monitorTrip_kept)
    | (intro _)
    | (dsimp only)

theorem execTprCfgWrite_kept {s : State} (h_s : Kept T s₀ s) (port : Port) (mon : Bool) (w : Nat) (hp : Sub 0x200000020400000302 T) : Outcome.Kept T s₀ (execTprCfgWrite port mon w s) := by
  unfold execTprCfgWrite
  try dsimp only
  repeat' first
    | (with_reducible assumption)
    | (with_reducible refine Outcome.Kept.next ?_)
    | ((with_reducible refine Sub.trans hp ?_); rfl)
    | ((with_reducible refine Sub.bit hp ?_); decide)
    | (with_reducible apply State.effect_kept)
    | (with_reducible apply State.tprCfg_kept)
    | split
    | (intro _)
    | (dsimp only)

theorem execSiltEvent_kept {s : State} (h_s : Kept T s₀ s) (code : Nat) (p0 : Nat) (p1 : Nat) (p2 : Nat) (p3 : Nat) (hp : Sub 0x400000020100000002 T) : Outcome.Kept T s₀ (execSiltEvent code p0 p1 p2 p3 s) := by
  unfold execSiltEvent
  try dsimp only
  repeat' first
    | (with_reducible assumption)
    | (with_reducible refine Outcome.Kept.next ?_)
    | ((with_reducible refine Sub.trans hp ?_); rfl)
    | ((with_reducible refine Sub.bit hp ?_); decide)
    | (with_reducible apply State.silt_kept)
    | (intro _)
    | (dsimp only)

theorem execSiltRecordWrite_kept {s : State} (h_s : Kept T s₀ s)  (hp : Sub 0x4440000020300003002 T) : Outcome.Kept T s₀ (execSiltRecordWrite s) := by
  unfold execSiltRecordWrite
  try dsimp only
  repeat' first
    | (with_reducible assumption)
    | (with_reducible refine Outcome.Kept.next ?_)
    | ((with_reducible refine Sub.trans hp ?_); rfl)
    | ((with_reducible refine Sub.bit hp ?_); decide)
    | (with_reducible apply State.siltNext_kept)
    | (intro _)
    | (dsimp only)

theorem execSltClear_kept {s : State} (h_s : Kept T s₀ s) (port : Port) (key : Nat) (hp : Sub 0x4440000020700003302 T) : Outcome.Kept T s₀ (execSltClear port key s) := by
  unfold execSltClear
  try dsimp only
  repeat' first
    | (with_reducible assumption)
    | (with_reducible refine Outcome.Kept.next ?_)
    | ((with_reducible refine Sub.trans hp ?_); rfl)
    | ((with_reducible refine Sub.bit hp ?_); decide)
    | (with_reducible apply State.effect_kept)
    | (with_reducible apply State.sltCmd_kept)
    | (intro _)
    | (dsimp only)

theorem execSivModeReq_kept {s : State} (h_s : Kept T s₀ s) (port : Port) (v : Nat) (hp : Sub 0x800000020400000312 T) : Outcome.Kept T s₀ (execSivModeReq port v s) := by
  unfold execSivModeReq
  try dsimp only
  repeat' first
    | (with_reducible assumption)
    | (with_reducible refine Outcome.Kept.next ?_)
    | ((with_reducible refine Sub.trans hp ?_); rfl)
    | ((with_reducible refine Sub.bit hp ?_); decide)
    | (with_reducible apply State.effect_kept)
    | (with_reducible apply State.sivModeWrite_kept)
    | (intro _)
    | (dsimp only)

theorem execSieveSliceStart_kept {s : State} (h_s : Kept T s₀ s) (c : Nat) (unplaced : List (Nat × Nat)) (hp : Sub 0x100020420c00402 T) : Outcome.Kept T s₀ (execSieveSliceStart c unplaced s) := by
  unfold execSieveSliceStart
  try dsimp only
  repeat' first
    | (with_reducible assumption)
    | (with_reducible refine Outcome.Kept.next ?_)
    | ((with_reducible refine Sub.trans hp ?_); rfl)
    | ((with_reducible refine Sub.bit hp ?_); decide)
    | (with_reducible apply State.reach_kept)
    | (with_reducible apply State.working_kept)
    | (with_reducible apply State.sliceStart_kept)
    | (intro _)
    | (dsimp only)

theorem execSieveSliceEnd_kept {s : State} (h_s : Kept T s₀ s) (c : Nat) (region : Nat) (piece : Nat) (found : Nat) (hp : ∀ i, T i) : Outcome.Kept T s₀ (execSieveSliceEnd c region piece found s) := by
  unfold execSieveSliceEnd
  try dsimp only
  repeat' first
    | (with_reducible assumption)
    | (with_reducible refine Outcome.Kept.next ?_)
    | (with_reducible exact Sub.all hp)
    | (with_reducible exact hp)
    | (with_reducible exact hp _)
    | (with_reducible apply State.reach_kept)
    | (with_reducible apply State.working_kept)
    | (with_reducible apply State.sliceEnds_kept)
    | (with_reducible apply State.flushDeferred_kept)
    | (intro _)
    | (dsimp only)

theorem execSieveRoundLimit_kept {s : State} (h_s : Kept T s₀ s) (c : Nat) (hp : Sub 0x4c40000020520003406 T) : Outcome.Kept T s₀ (execSieveRoundLimit c s) := by
  unfold execSieveRoundLimit
  try dsimp only
  repeat' first
    | (with_reducible assumption)
    | (with_reducible refine Outcome.Kept.next ?_)
    | ((with_reducible refine Sub.trans hp ?_); rfl)
    | ((with_reducible refine Sub.bit hp ?_); decide)
    | (with_reducible apply State.reach_kept)
    | (with_reducible apply State.working_kept)
    | (with_reducible apply State.sivRoundEnd_kept)
    | split
    | (intro _)
    | (dsimp only)

theorem execSieveFullDone_kept {s : State} (h_s : Kept T s₀ s) (found : Option SivFailure) (fails : Nat) (regions : Nat) (uncleared : Nat) (hp : ∀ i, T i) : Outcome.Kept T s₀ (execSieveFullDone found fails regions uncleared s) := by
  unfold execSieveFullDone
  try dsimp only
  repeat' first
    | (with_reducible assumption)
    | (with_reducible refine Outcome.Kept.next ?_)
    | (with_reducible exact Sub.all hp)
    | (with_reducible exact hp)
    | (with_reducible exact hp _)
    | (with_reducible apply State.working_kept)
    | (with_reducible apply State.fullDone_kept)
    | (intro _)
    | (dsimp only)

theorem execRecover_kept {s : State} (h_s : Kept T s₀ s) (port : Port) (region : Nat) (hp : Sub 0x800000020420000302 T) : Outcome.Kept T s₀ (execRecover port region s) := by
  unfold execRecover
  try dsimp only
  repeat' first
    | (with_reducible assumption)
    | (with_reducible refine Outcome.Kept.next ?_)
    | ((with_reducible refine Sub.trans hp ?_); rfl)
    | ((with_reducible refine Sub.bit hp ?_); decide)
    | (with_reducible apply State.effect_kept)
    | (with_reducible apply State.recover_kept)
    | (intro _)
    | (dsimp only)

theorem execRecoverDone_kept {s : State} (h_s : Kept T s₀ s) (found : Option SivFailure) (fails : Nat) (hp : Sub 0x4c400000205211ef003 T) : Outcome.Kept T s₀ (execRecoverDone found fails s) := by
  unfold execRecoverDone
  try dsimp only
  repeat' first
    | (with_reducible assumption)
    | (with_reducible refine Outcome.Kept.next ?_)
    | ((with_reducible refine Sub.trans hp ?_); rfl)
    | ((with_reducible refine Sub.bit hp ?_); decide)
    | (with_reducible apply State.working_kept)
    | (with_reducible apply State.recoverDone_kept)
    | (intro _)
    | (dsimp only)

theorem execClearFailed_kept {s : State} (h_s : Kept T s₀ s) (port : Port) (region : Nat) (hp : Sub 0x800000020420000302 T) : Outcome.Kept T s₀ (execClearFailed port region s) := by
  unfold execClearFailed
  try dsimp only
  repeat' first
    | (with_reducible assumption)
    | (with_reducible refine Outcome.Kept.next ?_)
    | ((with_reducible refine Sub.trans hp ?_); rfl)
    | ((with_reducible refine Sub.bit hp ?_); decide)
    | (with_reducible apply State.effect_kept)
    | (with_reducible apply State.clearFailed_kept)
    | (intro _)
    | (dsimp only)

theorem execGrgHeader_kept {s : State} (h_s : Kept T s₀ s)  (hp : Sub 0x1000000020440003012 T) : Outcome.Kept T s₀ (execGrgHeader s) := by
  unfold execGrgHeader
  try dsimp only
  repeat' first
    | (with_reducible assumption)
    | (with_reducible refine Outcome.Kept.next ?_)
    | ((with_reducible refine Sub.trans hp ?_); rfl)
    | ((with_reducible refine Sub.bit hp ?_); decide)
    | (with_reducible apply State.working_kept)
    | (with_reducible apply State.grgTake_kept)
    | (with_reducible apply State.grgHeader_kept)
    | (intro _)
    | (dsimp only)

theorem execGrgBlock_kept {s : State} (h_s : Kept T s₀ s)  (hp : Sub 0x5440000020540003002 T) : Outcome.Kept T s₀ (execGrgBlock s) := by
  unfold execGrgBlock
  try dsimp only
  repeat' first
    | (with_reducible assumption)
    | (with_reducible refine Outcome.Kept.next ?_)
    | ((with_reducible refine Sub.trans hp ?_); rfl)
    | ((with_reducible refine Sub.bit hp ?_); decide)
    | (with_reducible apply State.working_kept)
    | (with_reducible apply State.grgTake_kept)
    | (with_reducible apply State.grgBlock_kept)
    | (intro _)
    | (dsimp only)

theorem execGrgAbandon_kept {s : State} (h_s : Kept T s₀ s)  (hp : Sub 0x544000003054000300a T) : Outcome.Kept T s₀ (execGrgAbandon s) := by
  unfold execGrgAbandon
  try dsimp only
  repeat' first
    | (with_reducible assumption)
    | (with_reducible refine Outcome.Kept.next ?_)
    | ((with_reducible refine Sub.trans hp ?_); rfl)
    | ((with_reducible refine Sub.bit hp ?_); decide)
    | (with_reducible apply State.working_kept)
    | (with_reducible apply State.grgTake_kept)
    | (with_reducible apply State.stageFail_kept)
    | split
    | (intro _)
    | (dsimp only)

theorem execGrgVerify_kept {s : State} (h_s : Kept T s₀ s)  (hp : Sub 0x544000003054000300a T) : Outcome.Kept T s₀ (execGrgVerify s) := by
  unfold execGrgVerify
  try dsimp only
  repeat' first
    | (with_reducible assumption)
    | (with_reducible refine Outcome.Kept.next ?_)
    | ((with_reducible refine Sub.trans hp ?_); rfl)
    | ((with_reducible refine Sub.bit hp ?_); decide)
    | (with_reducible apply State.working_kept)
    | (with_reducible apply State.grgVerify_kept)
    | (intro _)
    | (dsimp only)

theorem execGrgIdleLimit_kept {s : State} (h_s : Kept T s₀ s)  (hp : Sub 0x544000003054000300a T) : Outcome.Kept T s₀ (execGrgIdleLimit s) := by
  unfold execGrgIdleLimit
  try dsimp only
  repeat' first
    | (with_reducible assumption)
    | (with_reducible refine Outcome.Kept.next ?_)
    | ((with_reducible refine Sub.trans hp ?_); rfl)
    | ((with_reducible refine Sub.bit hp ?_); decide)
    | (with_reducible apply State.working_kept)
    | (with_reducible apply State.stageFail_kept)
    | split
    | (intro _)
    | (dsimp only)

theorem execActivate_kept {s : State} (h_s : Kept T s₀ s) (port : Port) (p : Nat) (hp : Sub 0x1000000020400000312 T) : Outcome.Kept T s₀ (execActivate port p s) := by
  unfold execActivate
  try dsimp only
  repeat' first
    | (with_reducible assumption)
    | (with_reducible refine Outcome.Kept.next ?_)
    | ((with_reducible refine Sub.trans hp ?_); rfl)
    | ((with_reducible refine Sub.bit hp ?_); decide)
    | (with_reducible apply State.effect_kept)
    | (with_reducible apply State.whenSup_kept)
    | (with_reducible apply State.grgActivate_kept)
    | (intro _)
    | (dsimp only)

theorem execConfirm_kept {s : State} (h_s : Kept T s₀ s) (port : Port) (p : Nat) (hp : Sub 0x544000003054000330a T) : Outcome.Kept T s₀ (execConfirm port p s) := by
  unfold execConfirm
  try dsimp only
  repeat' first
    | (with_reducible assumption)
    | (with_reducible refine Outcome.Kept.next ?_)
    | ((with_reducible refine Sub.trans hp ?_); rfl)
    | ((with_reducible refine Sub.bit hp ?_); decide)
    | (with_reducible apply State.effect_kept)
    | (with_reducible apply State.whenSup_kept)
    | (with_reducible apply State.grgConfirmCmd_kept)
    | (intro _)
    | (dsimp only)

theorem execRollback_kept {s : State} (h_s : Kept T s₀ s) (port : Port) (p : Nat) (hp : ∀ i, T i) : Outcome.Kept T s₀ (execRollback port p s) := by
  unfold execRollback
  try dsimp only
  repeat' first
    | (with_reducible assumption)
    | (with_reducible refine Outcome.Kept.next ?_)
    | (with_reducible exact Sub.all hp)
    | (with_reducible exact hp)
    | (with_reducible exact hp _)
    | (with_reducible apply State.effect_kept)
    | (with_reducible apply State.whenSup_kept)
    | (with_reducible apply State.grgRollback_kept)
    | (intro _)
    | (dsimp only)

theorem execCampaign_kept {s : State} (h_s : Kept T s₀ s) (port : Port) (hp : Sub 0x1000000020440000306 T) : Outcome.Kept T s₀ (execCampaign port s) := by
  unfold execCampaign
  try dsimp only
  repeat' first
    | (with_reducible assumption)
    | (with_reducible refine Outcome.Kept.next ?_)
    | ((with_reducible refine Sub.trans hp ?_); rfl)
    | ((with_reducible refine Sub.bit hp ?_); decide)
    | (with_reducible apply State.effect_kept)
    | (with_reducible apply State.whenSup_kept)
    | (with_reducible apply State.campaignStart_kept)
    | (intro _)
    | (dsimp only)

theorem execCampaignOffer_kept {s : State} (h_s : Kept T s₀ s)  (hp : Sub 0x54c000856054400f003 T) : Outcome.Kept T s₀ (execCampaignOffer s) := by
  unfold execCampaignOffer
  try dsimp only
  repeat' first
    | (with_reducible assumption)
    | (with_reducible refine Outcome.Kept.next ?_)
    | ((with_reducible refine Sub.trans hp ?_); rfl)
    | ((with_reducible refine Sub.bit hp ?_); decide)
    | (with_reducible apply State.working_kept)
    | (with_reducible apply State.campaignOffer_kept)
    | (intro _)
    | (dsimp only)

theorem execCampaignQueryWait_kept {s : State} (h_s : Kept T s₀ s)  (hp : Sub 0x54c000856054400f003 T) : Outcome.Kept T s₀ (execCampaignQueryWait s) := by
  unfold execCampaignQueryWait
  try dsimp only
  repeat' first
    | (with_reducible assumption)
    | (with_reducible refine Outcome.Kept.next ?_)
    | ((with_reducible refine Sub.trans hp ?_); rfl)
    | ((with_reducible refine Sub.bit hp ?_); decide)
    | (with_reducible apply State.working_kept)
    | (with_reducible apply State.campaignWait_kept)
    | (intro _)
    | (dsimp only)

theorem execNodeActivate_kept {s : State} (h_s : Kept T s₀ s) (port : Port) (hp : Sub 0x54c000856054400f303 T) : Outcome.Kept T s₀ (execNodeActivate port s) := by
  unfold execNodeActivate
  try dsimp only
  repeat' first
    | (with_reducible assumption)
    | (with_reducible refine Outcome.Kept.next ?_)
    | ((with_reducible refine Sub.trans hp ?_); rfl)
    | ((with_reducible refine Sub.bit hp ?_); decide)
    | (with_reducible apply State.effect_kept)
    | (with_reducible apply State.whenSup_kept)
    | (with_reducible apply State.nodeActivate_kept)
    | (intro _)
    | (dsimp only)

theorem execStopCampaign_kept {s : State} (h_s : Kept T s₀ s) (port : Port) (hp : Sub 0x5440000020540003302 T) : Outcome.Kept T s₀ (execStopCampaign port s) := by
  unfold execStopCampaign
  try dsimp only
  repeat' first
    | (with_reducible assumption)
    | (with_reducible refine Outcome.Kept.next ?_)
    | ((with_reducible refine Sub.trans hp ?_); rfl)
    | ((with_reducible refine Sub.bit hp ?_); decide)
    | (with_reducible apply State.effect_kept)
    | (with_reducible apply State.whenSup_kept)
    | (with_reducible apply State.campaignStop_kept)
    | (intro _)
    | (dsimp only)

theorem execBootromContainer_kept {s : State} (h_s : Kept T s₀ s) (b : List Nat) (data : List Nat) (failed : Nat) (hp : Sub 0x54c0000020144003002 T) : Outcome.Kept T s₀ (execBootromContainer b data failed s) := by
  unfold execBootromContainer
  try dsimp only
  repeat' first
    | (with_reducible assumption)
    | (with_reducible refine Outcome.Kept.next ?_)
    | ((with_reducible refine Sub.trans hp ?_); rfl)
    | ((with_reducible refine Sub.bit hp ?_); decide)
    | (with_reducible apply State.bootContainer_kept)
    | split
    | (intro _)
    | (dsimp only)

theorem execSave_kept {s : State} (h_s : Kept T s₀ s) (port : Port) (hp : Sub 0x2000000020480000302 T) : Outcome.Kept T s₀ (execSave port s) := by
  unfold execSave
  try dsimp only
  repeat' first
    | (with_reducible assumption)
    | (with_reducible refine Outcome.Kept.next ?_)
    | ((with_reducible refine Sub.trans hp ?_); rfl)
    | ((with_reducible refine Sub.bit hp ?_); decide)
    | (with_reducible apply State.effect_kept)
    | (with_reducible apply State.saveRequest_kept)
    | (intro _)
    | (dsimp only)

theorem execMrlAutoSave_kept {s : State} (h_s : Kept T s₀ s)  (hp : Sub 0x2000000020480000002 T) : Outcome.Kept T s₀ (execMrlAutoSave s) := by
  unfold execMrlAutoSave
  try dsimp only
  repeat' first
    | (with_reducible assumption)
    | (with_reducible refine Outcome.Kept.next ?_)
    | ((with_reducible refine Sub.trans hp ?_); rfl)
    | ((with_reducible refine Sub.bit hp ?_); decide)
    | (with_reducible apply State.working_kept)
    | (with_reducible apply State.saveRequest_kept)
    | split
    | (intro _)
    | (dsimp only)

theorem execMrlSaveDone_kept {s : State} (h_s : Kept T s₀ s) (ok : Bool) (hp : Sub 0x2400000020580000002 T) : Outcome.Kept T s₀ (execMrlSaveDone ok s) := by
  unfold execMrlSaveDone
  try dsimp only
  repeat' first
    | (with_reducible assumption)
    | (with_reducible refine Outcome.Kept.next ?_)
    | ((with_reducible refine Sub.trans hp ?_); rfl)
    | ((with_reducible refine Sub.bit hp ?_); decide)
    | (with_reducible apply State.working_kept)
    | (with_reducible apply State.saveDone_kept)
    | (intro _)
    | (dsimp only)

theorem execClear_kept {s : State} (h_s : Kept T s₀ s) (port : Port) (key : Nat) (hp : Sub 0x2000000020480000302 T) : Outcome.Kept T s₀ (execClear port key s) := by
  unfold execClear
  try dsimp only
  repeat' first
    | (with_reducible assumption)
    | (with_reducible refine Outcome.Kept.next ?_)
    | ((with_reducible refine Sub.trans hp ?_); rfl)
    | ((with_reducible refine Sub.bit hp ?_); decide)
    | (with_reducible apply State.effect_kept)
    | (with_reducible apply State.storeClear_kept)
    | (intro _)
    | (dsimp only)

theorem execItgScrub_kept {s : State} (h_s : Kept T s₀ s) (m : Nat) (found : List ScrubFound) (hp : Sub 0x4577f023205890b7c17 T) : Outcome.Kept T s₀ (execItgScrub m found s) := by
  unfold execItgScrub
  try dsimp only
  repeat' first
    | (with_reducible assumption)
    | (with_reducible refine Outcome.Kept.next ?_)
    | ((with_reducible refine Sub.trans hp ?_); rfl)
    | ((with_reducible refine Sub.bit hp ?_); decide)
    | (with_reducible apply State.working_kept)
    | (with_reducible apply State.itgPass_kept)
    | (intro _)
    | (dsimp only)

theorem execTxFrameEnd_kept {s : State} (h_s : Kept T s₀ s) (c : Nat) (at_ : Nat) (load : Bool) (hp : Sub 0x54c000856054400f403 T) : Outcome.Kept T s₀ (execTxFrameEnd c at_ load s) := by
  unfold execTxFrameEnd
  try dsimp only
  repeat' first
    | (with_reducible assumption)
    | (with_reducible refine Outcome.Kept.next ?_)
    | ((with_reducible refine Sub.trans hp ?_); rfl)
    | ((with_reducible refine Sub.bit hp ?_); decide)
    | (with_reducible apply State.working_kept)
    | (with_reducible apply State.txEnd_kept)
    | (with_reducible apply State.campaignFill_kept)
    | (intro _)
    | (dsimp only)

theorem execRstNRelease_kept {s : State} (h_s : Kept T s₀ s)  (hp : Sub 0x10000000040 T) : Outcome.Kept T s₀ (execRstNRelease s) := by
  unfold execRstNRelease
  try dsimp only
  repeat' first
    | (with_reducible assumption)
    | (with_reducible refine Outcome.Kept.next ?_)
    | ((with_reducible refine Sub.trans hp ?_); rfl)
    | ((with_reducible refine Sub.bit hp ?_); decide)
    | (with_reducible apply State.rstRelease_kept)
    | (intro _)
    | (dsimp only)

theorem execWinDataRead_kept {s : State} (h_s : Kept T s₀ s) (port : Port) (page : Nat) (hp : ∀ i, T i) : Outcome.Kept T s₀ (execWinDataRead port page s) := by
  unfold execWinDataRead
  try dsimp only
  repeat' first
    | (with_reducible assumption)
    | (with_reducible refine Outcome.Kept.next ?_)
    | (with_reducible exact Sub.all hp)
    | (with_reducible exact hp)
    | (with_reducible exact hp _)
    | (with_reducible apply State.readPort_kept)
    | (intro _)
    | (dsimp only)

theorem execMacAsnLoRead_kept {s : State} (h_s : Kept T s₀ s) (port : Port) (hp : ∀ i, T i) : Outcome.Kept T s₀ (execMacAsnLoRead port s) := by
  unfold execMacAsnLoRead
  try dsimp only
  repeat' first
    | (with_reducible assumption)
    | (with_reducible refine Outcome.Kept.next ?_)
    | (with_reducible exact Sub.all hp)
    | (with_reducible exact hp)
    | (with_reducible exact hp _)
    | (with_reducible apply State.readPort_kept)
    | (intro _)
    | (dsimp only)

theorem execSchHighLoRead_kept {s : State} (h_s : Kept T s₀ s) (port : Port) (hp : ∀ i, T i) : Outcome.Kept T s₀ (execSchHighLoRead port s) := by
  unfold execSchHighLoRead
  try dsimp only
  repeat' first
    | (with_reducible assumption)
    | (with_reducible refine Outcome.Kept.next ?_)
    | (with_reducible exact Sub.all hp)
    | (with_reducible exact hp)
    | (with_reducible exact hp _)
    | (with_reducible apply State.readPort_kept)
    | (intro _)
    | (dsimp only)

theorem execEtpBytesLoRead_kept {s : State} (h_s : Kept T s₀ s) (port : Port) (k : Nat) (tx : Bool) (hp : ∀ i, T i) : Outcome.Kept T s₀ (execEtpBytesLoRead port k tx s) := by
  unfold execEtpBytesLoRead
  try dsimp only
  repeat' first
    | (with_reducible assumption)
    | (with_reducible refine Outcome.Kept.next ?_)
    | (with_reducible exact Sub.all hp)
    | (with_reducible exact hp)
    | (with_reducible exact hp _)
    | (with_reducible apply State.readPort_kept)
    | split
    | (intro _)
    | (dsimp only)

theorem execPcieLinkUp_kept {s : State} (h_s : Kept T s₀ s) (width : Nat) (speed : Nat) (hp : Sub 0x20400000000 T) : Outcome.Kept T s₀ (execPcieLinkUp width speed s) := by
  unfold execPcieLinkUp
  try dsimp only
  repeat' first
    | (with_reducible assumption)
    | (with_reducible refine Outcome.Kept.next ?_)
    | ((with_reducible refine Sub.trans hp ?_); rfl)
    | ((with_reducible refine Sub.bit hp ?_); decide)
    | (with_reducible apply State.working_kept)
    | (with_reducible refine State.wrAll_nil_kept ?_)
    | (with_reducible refine State.wrAll_cons_kept ?_)
    | (with_reducible refine State.wrAll_kept ?_ _ ?_ ?_)
    | (with_reducible apply State.wr_kept)
    | (intro _)
    | (dsimp only)

theorem execDieHotEnd_kept {s : State} (h_s : Kept T s₀ s) (t : Nat) (hp : Sub 0x10400000000 T) : Outcome.Kept T s₀ (execDieHotEnd t s) := by
  unfold execDieHotEnd
  try dsimp only
  repeat' first
    | (with_reducible assumption)
    | (with_reducible refine Outcome.Kept.next ?_)
    | ((with_reducible refine Sub.trans hp ?_); rfl)
    | ((with_reducible refine Sub.bit hp ?_); decide)
    | (with_reducible apply State.watched_kept)
    | (with_reducible refine State.wrAll_nil_kept ?_)
    | (with_reducible refine State.wrAll_cons_kept ?_)
    | (with_reducible refine State.wrAll_kept ?_ _ ?_ ?_)
    | (with_reducible apply State.wr_kept)
    | (intro _)
    | (dsimp only)

theorem execHdmRxTailWrite_kept {s : State} (h_s : Kept T s₀ s) (port : Port) (r : Nat) (v : Nat) (hp : Sub 0x8000020400000302 T) : Outcome.Kept T s₀ (execHdmRxTailWrite port r v s) := by
  unfold execHdmRxTailWrite
  try dsimp only
  repeat' first
    | (with_reducible assumption)
    | (with_reducible refine Outcome.Kept.next ?_)
    | ((with_reducible refine Sub.trans hp ?_); rfl)
    | ((with_reducible refine Sub.bit hp ?_); decide)
    | ((with_reducible refine Sub.bitEq hp (j := 63) ?_ ?_) <;> [(first | (simp only [Field.slot, Field.page, Field.key]; omega) | rfl); rfl])
    | ((with_reducible refine Sub.bit hp ?_); rfl)
    | (with_reducible apply State.effect_kept)
    | (with_reducible apply State.wr_kept)
    | (intro _)
    | (dsimp only)

theorem execPtpFollowUpReceived_kept {s : State} (h_s : Kept T s₀ s) (k : Nat) (sender : Nat) (senderPort : Nat) (domain : Nat) (seq : Nat) (origin : Int) (corr : Int) (hp : Sub 0x430000120100004c12 T) : Outcome.Kept T s₀ (execPtpFollowUpReceived k sender senderPort domain seq origin corr s) := by
  unfold execPtpFollowUpReceived
  try dsimp only
  repeat' first
    | (with_reducible assumption)
    | (with_reducible refine Outcome.Kept.next ?_)
    | ((with_reducible refine Sub.trans hp ?_); rfl)
    | ((with_reducible refine Sub.bit hp ?_); decide)
    | (with_reducible apply State.whenLive_kept)
    | (with_reducible apply State.followUpRx_kept)
    | (intro _)
    | (dsimp only)

theorem execPtpDelayReqReceived_kept {s : State} (h_s : Kept T s₀ s) (k : Nat) (domain : Nat) (seq : Nat) (rx : Int) (hp : Sub 0x430000120100004c12 T) : Outcome.Kept T s₀ (execPtpDelayReqReceived k domain seq rx s) := by
  unfold execPtpDelayReqReceived
  try dsimp only
  repeat' first
    | (with_reducible assumption)
    | (with_reducible refine Outcome.Kept.next ?_)
    | ((with_reducible refine Sub.trans hp ?_); rfl)
    | ((with_reducible refine Sub.bit hp ?_); decide)
    | (with_reducible apply State.whenLive_kept)
    | (with_reducible apply State.delayReqRx_kept)
    | (intro _)
    | (dsimp only)

theorem execPtpDelayRespReceived_kept {s : State} (h_s : Kept T s₀ s) (k : Nat) (sender : Nat) (senderPort : Nat) (domain : Nat) (seq : Nat) (t4 : Int) (corr : Int) (hp : Sub 0x430000120100004c12 T) : Outcome.Kept T s₀ (execPtpDelayRespReceived k sender senderPort domain seq t4 corr s) := by
  unfold execPtpDelayRespReceived
  try dsimp only
  repeat' first
    | (with_reducible assumption)
    | (with_reducible refine Outcome.Kept.next ?_)
    | ((with_reducible refine Sub.trans hp ?_); rfl)
    | ((with_reducible refine Sub.bit hp ?_); decide)
    | (with_reducible apply State.whenLive_kept)
    | (with_reducible apply State.delayRespRx_kept)
    | (intro _)
    | (dsimp only)

theorem execCalendarFractionAdvance_kept {s : State} (h_s : Kept T s₀ s)  (hp : Sub 0x430000020100000842 T) : Outcome.Kept T s₀ (execCalendarFractionAdvance s) := by
  unfold execCalendarFractionAdvance
  try dsimp only
  repeat' first
    | (with_reducible assumption)
    | (with_reducible refine Outcome.Kept.next ?_)
    | ((with_reducible refine Sub.trans hp ?_); rfl)
    | ((with_reducible refine Sub.bit hp ?_); decide)
    | (with_reducible apply State.aonPulse_kept)
    | split
    | (intro _)
    | (dsimp only)

end Sys2Proof.Machine
end

