-- ==== Sys2Proof/Laws/PerInstr.lean ====
section
/-! SUPPORT. What holds of every command as syntax, one lemma for each constructor. -/

namespace Sys2Proof.Laws.Touched

open Sys2Proof.Machine

/-- The parts that a command touches are listed once each, and the record of what has left the module is among them wherever a page's
notices are, since a notice may send a message (R83). -/
def Statement (i : Instr) : Prop :=
  ∀ l, touches i = some l → l.Nodup ∧ (Part.page 0x01 ∈ l → Part.sent ∈ l ∨ l.all fun p => p == .page 0x01 || p == .startup || p == .domains)

/-- Discharge a command of the whole machine: it names no parts. -/
theorem of_none {i : Instr} (h : touches i = none) : Statement i := fun l e => by rw [h] at e; cases e

/-- Discharge a command that names its parts. -/
theorem of_some {i : Instr} {l : List Part} (h : touches i = some l)
    (d : (decide l.Nodup && (!l.contains (.page 0x01) || l.contains .sent || l.all fun p => p == .page 0x01 || p == .startup || p == .domains)) = true) :
    Statement i := fun m e => by
  rw [h] at e
  cases e
  rw [Bool.and_eq_true, decide_eq_true_eq, Bool.or_eq_true, Bool.or_eq_true] at d
  refine ⟨d.1, fun hm => ?_⟩
  rcases d.2 with (k | k) | k
  · simp [hm] at k
  · exact .inl (by simpa using k)
  · exact .inr k

theorem modeDecisionStep : Statement (.modeDecisionStep) := of_none rfl
theorem domainStartOnDemand (d : Nat) : Statement (.domainStartOnDemand d) := of_none rfl
theorem domainIdleStop (d : Nat) : Statement (.domainIdleStop d) := of_some rfl (by decide)
theorem coldStart (f : StartFound) (n : Nat) : Statement (.coldStart f n) := of_none rfl
theorem holdWake (vinRise : Bool) (f : StartFound) (n : Nat) : Statement (.holdWake vinRise f n) := of_none rfl
theorem warmStart (f : StartFound) (n : Nat) : Statement (.warmStart f n) := of_none rfl
theorem vinLoss (cut : LifeCut) : Statement (.vinLoss cut) := of_some rfl (by decide)
theorem vbakLoss : Statement (.vbakLoss) := of_none rfl
theorem rstNPulse : Statement (.rstNPulse) := of_none rfl
theorem rstNHoldWake : Statement (.rstNHoldWake) := of_some rfl (by decide)
theorem supWatchdogReset (line : Nat) : Statement (.supWatchdogReset line) := of_none rfl
theorem sysResetWarm (port : Port) (key : Nat) : Statement (.sysResetWarm port key) := of_none rfl
theorem sysPowerReq (port : Port) (v : Nat) : Statement (.sysPowerReq port v) := of_some rfl (by decide)
theorem contactorDriverLatch (k : Nat) : Statement (.contactorDriverLatch k) := of_some rfl (by decide)
theorem dieHot (t : Nat) : Statement (.dieHot t) := of_some rfl (by decide)
theorem paInhibit (t : Nat) : Statement (.paInhibit t) := of_some rfl (by decide)
theorem paInhibitEnd (t : Nat) : Statement (.paInhibitEnd t) := of_some rfl (by decide)
theorem lrpWrite (addr : Nat) (value : Nat) (be : Nat) : Statement (.lrpWrite addr value be) := of_none rfl
theorem bar0Write (addr : Nat) (value : Nat) (whole : Bool) : Statement (.bar0Write addr value whole) := of_none rfl
theorem bar0Read (addr : Nat) (whole : Bool) : Statement (.bar0Read addr whole) := of_none rfl
theorem bar2Access (write : Bool) (addr : Nat) (words : List (Nat × Nat)) : Statement (.bar2Access write addr words) := of_none rfl
theorem registerWrite (port : Port) : Statement (.registerWrite port) := of_none rfl
theorem seqWordRead (port : Port) (b : Nat) : Statement (.seqWordRead port b) := of_none rfl
theorem blockLastWordRead (port : Port) (b : Nat) : Statement (.blockLastWordRead port b) := of_none rfl
theorem rcRead (port : Port) (addr : Nat) : Statement (.rcRead port addr) := of_none rfl
theorem sysEpochLoRead (port : Port) : Statement (.sysEpochLoRead port) := of_none rfl
theorem hifFenceWrite (port : Port) (v : Nat) : Statement (.hifFenceWrite port v) := of_none rfl
theorem lrpClkLost : Statement (.lrpClkLost) := of_some rfl (by decide)
theorem lrpClkResume : Statement (.lrpClkResume) := of_some rfl (by decide)
theorem pciePerst : Statement (.pciePerst) := of_none rfl
theorem pcieLinkDown : Statement (.pcieLinkDown) := of_some rfl (by decide)
theorem hifEoi (port : Port) (v : Nat) : Statement (.hifEoi port v) := of_some rfl (by decide)
theorem msixUnmask (v : Option Nat) (masked : Bool) (bme : Bool) (en : Bool) (fmask : Bool) (mse : Bool) (bar0 : Nat) (bar2 : Nat) : Statement (.msixUnmask v masked bme en fmask mse bar0 bar2) := of_some rfl (by decide)
theorem txnOpen (port : Port) (t : Nat) : Statement (.txnOpen port t) := of_some rfl (by decide)
theorem txnSelect (port : Port) (t : Nat) : Statement (.txnSelect port t) := of_some rfl (by decide)
theorem txnDeselect (port : Port) : Statement (.txnDeselect port) := of_some rfl (by decide)
theorem txnCommit (port : Port) (t : Nat) (c : Nat) : Statement (.txnCommit port t c) := of_some rfl (by decide)
theorem txnAbort (port : Port) (t : Nat) : Statement (.txnAbort port t) := of_some rfl (by decide)
theorem txnUndefinedOp (port : Port) : Statement (.txnUndefinedOp port) := of_some rfl (by decide)
theorem txnApply (c : Nat) : Statement (.txnApply c) := of_none rfl
theorem trialTimerExpiry : Statement (.trialTimerExpiry) := of_none rfl
theorem chainRetune (port : Port) (k : Nat) (freq : Nat) (lost : Nat) : Statement (.chainRetune port k freq lost) := of_some rfl (by decide)
theorem adcClipAgcStep (k : Nat) (att : Nat) (lost : Nat) : Statement (.adcClipAgcStep k att lost) := of_some rfl (by decide)
theorem agcStep (k : Nat) (att : Nat) (inFrame : Bool) : Statement (.agcStep k att inFrame) := of_some rfl (by decide)
theorem chnFrameReceived (n : Nat) (sfd : Nat) (ends : Nat) (rssi : Nat) (lqi : Nat) (check : FrameCheck) (m : MeshFrame) : Statement (.chnFrameReceived n sfd ends rssi lqi check m) := of_some rfl (by decide)
theorem regionChange : Statement (.regionChange) := of_some rfl (by decide)
theorem budgetBucketAdvance (e : Nat) (ch : Nat) : Statement (.budgetBucketAdvance e ch) := of_some rfl (by decide)
theorem txFrameStart (c : Nat) (lost : Nat) : Statement (.txFrameStart c lost) := of_some rfl (by decide)
theorem macQueueEnqueue (m : OutMessage) (seq : Nat) : Statement (.macQueueEnqueue m seq) := of_some rfl (by decide)
theorem tschSlotPlan (c : Nat) (inFrame : List Nat) : Statement (.tschSlotPlan c inFrame) := of_some rfl (by decide)
theorem macRealign (port : Port) : Statement (.macRealign port) := of_some rfl (by decide)
theorem macFrameReceived (lost : Bool) : Statement (.macFrameReceived lost) := of_some rfl (by decide)
theorem partnerBeaconMiss : Statement (.partnerBeaconMiss) := of_some rfl (by decide)
theorem joinTimeout (i : Nat) : Statement (.joinTimeout i) := of_some rfl (by decide)
theorem ackWaitExpiry (n : Nat) : Statement (.ackWaitExpiry n) := of_some rfl (by decide)
theorem ntbProvision (port : Port) (i : Nat) : Statement (.ntbProvision port i) := of_some rfl (by decide)
theorem ntbBlock (port : Port) (i : Nat) : Statement (.ntbBlock port i) := of_some rfl (by decide)
theorem ntbUnblock (port : Port) (i : Nat) : Statement (.ntbUnblock port i) := of_some rfl (by decide)
theorem ntbFree (port : Port) (i : Nat) : Statement (.ntbFree port i) := of_some rfl (by decide)
theorem ntbClearHealth (port : Port) (i : Nat) : Statement (.ntbClearHealth port i) := of_some rfl (by decide)
theorem ntbFind (port : Port) (w : Nat) : Statement (.ntbFind port w) := of_some rfl (by decide)
theorem nodeEntryWrite (port : Port) (off : Nat) (w : Nat) : Statement (.nodeEntryWrite port off w) := of_some rfl (by decide)
theorem claimHeartbeat : Statement (.claimHeartbeat) := of_some rfl (by decide)
theorem sprSubmission : Statement (.sprSubmission) := of_some rfl (by decide)
theorem sprEnableWrite (port : Port) (en : Bool) : Statement (.sprEnableWrite port en) := of_some rfl (by decide)
theorem drfEventIntake (v : Nat) (instant : Nat) (strength : Nat) (sensor : Nat) : Statement (.drfEventIntake v instant strength sensor) := of_some rfl (by decide)
theorem drfInject (port : Port) (v : Nat) (age : Nat) : Statement (.drfInject port v age) := of_some rfl (by decide)
theorem drfEvaluation (c : Nat) (dur : Nat) (mem : Nat) : Statement (.drfEvaluation c dur mem) := of_some rfl (by decide)
theorem drfGraphSwap (port : Port) : Statement (.drfGraphSwap port) := of_some rfl (by decide)
theorem drfSwapCheckDone : Statement (.drfSwapCheckDone) := of_some rfl (by decide)
theorem drfEnableWrite (port : Port) (en : Bool) : Statement (.drfEnableWrite port en) := of_some rfl (by decide)
theorem schTick : Statement (.schTick) := of_some rfl (by decide)
theorem schHighWaterSave : Statement (.schHighWaterSave) := of_some rfl (by decide)
theorem tmpSample (c : Nat) (bad : List Nat) (lost : List Nat) (late : Nat) : Statement (.tmpSample c bad lost late) := of_none rfl
theorem tmpMeasSlot (port : Port) (k : Nat) : Statement (.tmpMeasSlot port k) := of_some rfl (by decide)
theorem tmpSlotDisable (k : Nat) : Statement (.tmpSlotDisable k) := of_some rfl (by decide)
theorem shapingPass (c : Nat) (dur : Nat) (late : Bool) : Statement (.shapingPass c dur late) := of_some rfl (by decide)
theorem dalFrameTx (k : Nat) (collision : Bool) : Statement (.dalFrameTx k collision) := of_some rfl (by decide)
theorem dalRefresh (k : Nat) : Statement (.dalRefresh k) := of_some rfl (by decide)
theorem dalBusDown (k : Nat) : Statement (.dalBusDown k) := of_some rfl (by decide)
theorem dalBusUp (k : Nat) : Statement (.dalBusUp k) := of_some rfl (by decide)
theorem dalEventReceived (k : Nat) (frame : Nat) (instant : Nat) : Statement (.dalEventReceived k frame instant) := of_some rfl (by decide)
theorem dalRawRequest (port : Port) (k : Nat) (bits24 : Bool) (twice : Bool) (answer : Bool) (prio : Nat) : Statement (.dalRawRequest port k bits24 twice answer prio) := of_some rfl (by decide)
theorem dalRawComplete (answer : Option Nat) (bad : Bool) : Statement (.dalRawComplete answer bad) := of_some rfl (by decide)
theorem emuSample (c : Nat) (bits : List Nat) : Statement (.emuSample c bits) := of_some rfl (by decide)
theorem emuChannelFault (k : Nat) : Statement (.emuChannelFault k) := of_some rfl (by decide)
theorem emuChannelFaultEnd (k : Nat) : Statement (.emuChannelFaultEnd k) := of_some rfl (by decide)
theorem emuZcTimeout (k : Nat) : Statement (.emuZcTimeout k) := of_some rfl (by decide)
theorem emuAccumulatorSave : Statement (.emuAccumulatorSave) := of_some rfl (by decide)
theorem emuClear (port : Port) (c : Nat) : Statement (.emuClear port c) := of_some rfl (by decide)
theorem emurBoundarySnapshot (c : Nat) : Statement (.emurBoundarySnapshot c) := of_some rfl (by decide)
theorem emurEstimateTick (c : Nat) : Statement (.emurEstimateTick c) := of_some rfl (by decide)
theorem emurWindowClose (c : Nat) (g : Nat) : Statement (.emurWindowClose c g) := of_some rfl (by decide)
theorem etpFrameReceived (k : Nat) (c : Nat) (len : Nat) (f : EthFrame) (check : FrameCheck) (ns : Int) : Statement (.etpFrameReceived k c len f check ns) := of_some rfl (by decide)
theorem etpFrameTransmit (k : Nat) (c : Nat) (ns : Int) (ecc : Nat) : Statement (.etpFrameTransmit k c ns ecc) := of_some rfl (by decide)
theorem pauseTimerExpiry (k : Nat) (c : Nat) : Statement (.pauseTimerExpiry k c) := of_some rfl (by decide)
theorem pauseRepeat (k : Nat) : Statement (.pauseRepeat k) := of_some rfl (by decide)
theorem lpiEntry (k : Nat) (rx : Bool) : Statement (.lpiEntry k rx) := of_some rfl (by decide)
theorem lpiWake (k : Nat) (rx : Bool) : Statement (.lpiWake k rx) := of_some rfl (by decide)
theorem swfSpeedStep (load100 : Nat) (load1 : Nat) : Statement (.swfSpeedStep load100 load1) := of_some rfl (by decide)
theorem etpLinkChange (k : Nat) (up : Bool) (speed : Nat) : Statement (.etpLinkChange k up speed) := of_some rfl (by decide)
theorem etpModeWrite (port : Port) (k : Nat) (mode : Nat) : Statement (.etpModeWrite port k mode) := of_some rfl (by decide)
theorem etpFwdStateWrite (port : Port) (k : Nat) (w : Nat) : Statement (.etpFwdStateWrite port k w) := of_some rfl (by decide)
theorem fdbAgeExpiry (c : Nat) : Statement (.fdbAgeExpiry c) := of_some rfl (by decide)
theorem fdbInsert (port : Port) (vid : Nat) : Statement (.fdbInsert port vid) := of_some rfl (by decide)
theorem fdbDelete (port : Port) (vid : Nat) : Statement (.fdbDelete port vid) := of_some rfl (by decide)
theorem fdbFlushPort (port : Port) (k : Nat) : Statement (.fdbFlushPort port k) := of_some rfl (by decide)
theorem fdbFlushInstance (port : Port) (i : Nat) : Statement (.fdbFlushInstance port i) := of_some rfl (by decide)
theorem fdbFlushAll (port : Port) : Statement (.fdbFlushAll port) := of_some rfl (by decide)
theorem fdbLookup (port : Port) (vid : Nat) : Statement (.fdbLookup port vid) := of_some rfl (by decide)
theorem mdioC45Address (port : Port) (c45 : Bool) (phy : Nat) (reg : Nat) : Statement (.mdioC45Address port c45 phy reg) := of_some rfl (by decide)
theorem mdioWrite (port : Port) (c45 : Bool) (phy : Nat) (reg : Nat) : Statement (.mdioWrite port c45 phy reg) := of_some rfl (by decide)
theorem mdioRead (port : Port) (c45 : Bool) (phy : Nat) (reg : Nat) : Statement (.mdioRead port c45 phy reg) := of_some rfl (by decide)
theorem mdioC22Read (port : Port) (c45 : Bool) (phy : Nat) (reg : Nat) : Statement (.mdioC22Read port c45 phy reg) := of_some rfl (by decide)
theorem mdioDone (data : Nat) : Statement (.mdioDone data) := of_some rfl (by decide)
theorem hdmTxTailWrite (port : Port) (r : Nat) (v : Nat) : Statement (.hdmTxTailWrite port r v) := of_some rfl (by decide)
theorem hdmTxFrame (r : Nat) (descs : List TxDesc) (data : List Nat) (readErr : Bool) : Statement (.hdmTxFrame r descs data readErr) := of_some rfl (by decide)
theorem hdmRxDeliver (r : Nat) (bufs : List Nat) (ecc : Nat) : Statement (.hdmRxDeliver r bufs ecc) := of_some rfl (by decide)
theorem hdmModDelayExpiry (tx : Bool) (r : Nat) : Statement (.hdmModDelayExpiry tx r) := of_some rfl (by decide)
theorem hdmDmaError : Statement (.hdmDmaError) := of_some rfl (by decide)
theorem ptpSyncReceived (k : Nat) (sender : Nat) (senderPort : Nat) (domain : Nat) (seq : Nat) (rx : Int) (origin : Int) (corr : Int) (twoStep : Bool) : Statement (.ptpSyncReceived k sender senderPort domain seq rx origin corr twoStep) := of_some rfl (by decide)
theorem ptpAnnounceReceived (k : Nat) (a : Announce) : Statement (.ptpAnnounceReceived k a) := of_some rfl (by decide)
theorem announceTimeout : Statement (.announceTimeout) := of_some rfl (by decide)
theorem holdoverExpiry : Statement (.holdoverExpiry) := of_some rfl (by decide)
theorem ptpMessageTx (k : Nat) (kind : PtpKind) (seq : Nat) (ns : Int) : Statement (.ptpMessageTx k kind seq ns) := of_some rfl (by decide)
theorem timHostStateWrite (port : Port) (v : Nat) : Statement (.timHostStateWrite port v) := of_some rfl (by decide)
theorem timRateWrite (port : Port) (w : Nat) : Statement (.timRateWrite port w) := of_some rfl (by decide)
theorem timStepHiWrite (port : Port) (w : Nat) : Statement (.timStepHiWrite port w) := of_some rfl (by decide)
theorem timCapture (port : Port) : Statement (.timCapture port) := of_some rfl (by decide)
theorem timNowLoRead (port : Port) : Statement (.timNowLoRead port) := of_none rfl
theorem timTsPop (port : Port) (count : Nat) : Statement (.timTsPop port count) := of_some rfl (by decide)
theorem ppsOutPulse (c : Nat) : Statement (.ppsOutPulse c) := of_some rfl (by decide)
theorem ppsInEdge (falling : Bool) (c : Nat) : Statement (.ppsInEdge falling c) := of_some rfl (by decide)
theorem rtcSecondRollover : Statement (.rtcSecondRollover) := of_some rfl (by decide)
theorem rtcSetCount (port : Port) : Statement (.rtcSetCount port) := of_some rfl (by decide)
theorem rtcSetFields (port : Port) : Statement (.rtcSetFields port) := of_some rfl (by decide)
theorem rtcTrimWindowEnd (c : Nat) : Statement (.rtcTrimWindowEnd c) := of_some rfl (by decide)
theorem oscillatorStopped : Statement (.oscillatorStopped) := of_some rfl (by decide)
theorem slqPacketComplete (q : Nat) (kind : Nat) (prio : Nat) (pad : Nat) (words : List Nat) (carry : Bool) : Statement (.slqPacketComplete q kind prio pad words carry) := of_some rfl (by decide)
theorem slqStallResume (q : Nat) : Statement (.slqStallResume q) := of_some rfl (by decide)
theorem slqUplinkRead (port : Port) (q : Nat) (spoiled : Bool) : Statement (.slqUplinkRead port q spoiled) := of_some rfl (by decide)
theorem slqDrop (port : Port) (q : Nat) : Statement (.slqDrop port q) := of_some rfl (by decide)
theorem slqMark (port : Port) (q : Nat) : Statement (.slqMark port q) := of_some rfl (by decide)
theorem slqRewind (port : Port) (q : Nat) : Statement (.slqRewind port q) := of_some rfl (by decide)
theorem slqClearMark (port : Port) (q : Nat) : Statement (.slqClearMark port q) := of_some rfl (by decide)
theorem slqClrMax (port : Port) (q : Nat) : Statement (.slqClrMax port q) := of_some rfl (by decide)
theorem slqFlush (port : Port) (q : Nat) : Statement (.slqFlush port q) := of_some rfl (by decide)
theorem slqDownlinkData (port : Port) (d : Nat) (w : Nat) : Statement (.slqDownlinkData port d w) := of_some rfl (by decide)
theorem slqDownlinkCommit (port : Port) (d : Nat) (len : Nat) : Statement (.slqDownlinkCommit port d len) := of_some rfl (by decide)
theorem slqAbort (port : Port) (d : Nat) : Statement (.slqAbort port d) := of_some rfl (by decide)
theorem slqCellsWrite (port : Port) (q : Nat) (n : Nat) : Statement (.slqCellsWrite port q n) := of_some rfl (by decide)
theorem slqTimeout (q : Nat) : Statement (.slqTimeout q) := of_some rfl (by decide)
theorem slqEnableWrite (port : Port) (en : Bool) : Statement (.slqEnableWrite port en) := of_some rfl (by decide)
theorem heartbeat (c : Nat) : Statement (.heartbeat c) := of_some rfl (by decide)
theorem biduesFrameReceived (f : Bidues) : Statement (.biduesFrameReceived f) := of_some rfl (by decide)
theorem query (f : Bidues) : Statement (.query f) := of_some rfl (by decide)
theorem answer (f : Bidues) : Statement (.answer f) := of_some rfl (by decide)
theorem swapReq (f : Bidues) : Statement (.swapReq f) := of_some rfl (by decide)
theorem swapAck (f : Bidues) : Statement (.swapAck f) := of_some rfl (by decide)
theorem swapNak (f : Bidues) : Statement (.swapNak f) := of_some rfl (by decide)
theorem resign (f : Bidues) : Statement (.resign f) := of_some rfl (by decide)
theorem biduesLinkLost : Statement (.biduesLinkLost) := of_some rfl (by decide)
theorem comparatorLoad : Statement (.comparatorLoad) := of_some rfl (by decide)
theorem startWaitExpiry : Statement (.startWaitExpiry) := of_some rfl (by decide)
theorem queryWaitExpiry : Statement (.queryWaitExpiry) := of_some rfl (by decide)
theorem swapAckTimeout : Statement (.swapAckTimeout) := of_some rfl (by decide)
theorem handover (port : Port) : Statement (.handover port) := of_some rfl (by decide)
theorem take (port : Port) : Statement (.take port) := of_some rfl (by decide)
theorem epochReset (port : Port) : Statement (.epochReset port) := of_some rfl (by decide)
theorem clmQuery (port : Port) : Statement (.clmQuery port) := of_some rfl (by decide)
theorem periodicSwap : Statement (.periodicSwap) := of_some rfl (by decide)
theorem revertSettleExpiry : Statement (.revertSettleExpiry) := of_some rfl (by decide)
theorem clmEnableWrite (port : Port) (en : Bool) : Statement (.clmEnableWrite port en) := of_some rfl (by decide)
theorem quietTableHour : Statement (.quietTableHour) := of_some rfl (by decide)
theorem keyLoad : Statement (.keyLoad) := of_some rfl (by decide)
theorem keyDerive : Statement (.keyDerive) := of_some rfl (by decide)
theorem keyRotate : Statement (.keyRotate) := of_some rfl (by decide)
theorem keyErase : Statement (.keyErase) := of_some rfl (by decide)
theorem lcRequest : Statement (.lcRequest) := of_some rfl (by decide)
theorem keyQuery : Statement (.keyQuery) := of_some rfl (by decide)
theorem keyIslandError : Statement (.keyIslandError) := of_some rfl (by decide)
theorem tamperSamplingRound (opened : Nat) (hot : Bool) (busy : Bool) : Statement (.tamperSamplingRound opened hot busy) := of_some rfl (by decide)
theorem tamperMonitorTrip (m : Nat) (aon : Bool) (busy : Bool) : Statement (.tamperMonitorTrip m aon busy) := of_some rfl (by decide)
theorem tprCfgWrite (port : Port) (mon : Bool) (w : Nat) : Statement (.tprCfgWrite port mon w) := of_some rfl (by decide)
theorem siltEvent (code : Nat) (p0 : Nat) (p1 : Nat) (p2 : Nat) (p3 : Nat) : Statement (.siltEvent code p0 p1 p2 p3) := of_some rfl (by decide)
theorem siltRecordWrite : Statement (.siltRecordWrite) := of_some rfl (by decide)
theorem sltClear (port : Port) (key : Nat) : Statement (.sltClear port key) := of_some rfl (by decide)
theorem sivModeReq (port : Port) (v : Nat) : Statement (.sivModeReq port v) := of_some rfl (by decide)
theorem sieveSliceStart (c : Nat) (unplaced : List (Nat × Nat)) : Statement (.sieveSliceStart c unplaced) := of_some rfl (by decide)
theorem sieveSliceEnd (c : Nat) (region : Nat) (piece : Nat) (found : Nat) : Statement (.sieveSliceEnd c region piece found) := of_none rfl
theorem sieveRoundLimit (c : Nat) : Statement (.sieveRoundLimit c) := of_some rfl (by decide)
theorem sieveFullDone (found : Option SivFailure) (fails : Nat) (regions : Nat) (uncleared : Nat) : Statement (.sieveFullDone found fails regions uncleared) := of_none rfl
theorem recover (port : Port) (region : Nat) : Statement (.recover port region) := of_some rfl (by decide)
theorem recoverDone (found : Option SivFailure) (fails : Nat) : Statement (.recoverDone found fails) := of_some rfl (by decide)
theorem clearFailed (port : Port) (region : Nat) : Statement (.clearFailed port region) := of_some rfl (by decide)
theorem grgHeader : Statement (.grgHeader) := of_some rfl (by decide)
theorem grgBlock : Statement (.grgBlock) := of_some rfl (by decide)
theorem grgAbandon : Statement (.grgAbandon) := of_some rfl (by decide)
theorem grgVerify : Statement (.grgVerify) := of_some rfl (by decide)
theorem grgIdleLimit : Statement (.grgIdleLimit) := of_some rfl (by decide)
theorem activate (port : Port) (p : Nat) : Statement (.activate port p) := of_some rfl (by decide)
theorem confirm (port : Port) (p : Nat) : Statement (.confirm port p) := of_some rfl (by decide)
theorem rollback (port : Port) (p : Nat) : Statement (.rollback port p) := of_none rfl
theorem campaign (port : Port) : Statement (.campaign port) := of_some rfl (by decide)
theorem campaignOffer : Statement (.campaignOffer) := of_some rfl (by decide)
theorem campaignQueryWait : Statement (.campaignQueryWait) := of_some rfl (by decide)
theorem nodeActivate (port : Port) : Statement (.nodeActivate port) := of_some rfl (by decide)
theorem stopCampaign (port : Port) : Statement (.stopCampaign port) := of_some rfl (by decide)
theorem bootromContainer (b : List Nat) (data : List Nat) (failed : Nat) : Statement (.bootromContainer b data failed) := of_some rfl (by decide)
theorem save (port : Port) : Statement (.save port) := of_some rfl (by decide)
theorem mrlAutoSave : Statement (.mrlAutoSave) := of_some rfl (by decide)
theorem mrlSaveDone (ok : Bool) : Statement (.mrlSaveDone ok) := of_some rfl (by decide)
theorem clear (port : Port) (key : Nat) : Statement (.clear port key) := of_some rfl (by decide)
theorem itgScrub (m : Nat) (found : List ScrubFound) : Statement (.itgScrub m found) := of_some rfl (by decide)
theorem txFrameEnd (c : Nat) (at_ : Nat) (load : Bool) : Statement (.txFrameEnd c at_ load) := of_some rfl (by decide)
theorem rstNRelease : Statement (.rstNRelease) := of_some rfl (by decide)
theorem winDataRead (port : Port) (page : Nat) : Statement (.winDataRead port page) := of_none rfl
theorem macAsnLoRead (port : Port) : Statement (.macAsnLoRead port) := of_none rfl
theorem schHighLoRead (port : Port) : Statement (.schHighLoRead port) := of_none rfl
theorem etpBytesLoRead (port : Port) (k : Nat) (tx : Bool) : Statement (.etpBytesLoRead port k tx) := of_none rfl
theorem pcieLinkUp (width : Nat) (speed : Nat) : Statement (.pcieLinkUp width speed) := of_some rfl (by decide)
theorem dieHotEnd (t : Nat) : Statement (.dieHotEnd t) := of_some rfl (by decide)
theorem hdmRxTailWrite (port : Port) (r : Nat) (v : Nat) : Statement (.hdmRxTailWrite port r v) := of_some rfl (by decide)
theorem ptpFollowUpReceived (k : Nat) (sender : Nat) (senderPort : Nat) (domain : Nat) (seq : Nat) (origin : Int) (corr : Int) : Statement (.ptpFollowUpReceived k sender senderPort domain seq origin corr) := of_some rfl (by decide)
theorem ptpDelayReqReceived (k : Nat) (domain : Nat) (seq : Nat) (rx : Int) : Statement (.ptpDelayReqReceived k domain seq rx) := of_some rfl (by decide)
theorem ptpDelayRespReceived (k : Nat) (sender : Nat) (senderPort : Nat) (domain : Nat) (seq : Nat) (t4 : Int) (corr : Int) : Statement (.ptpDelayRespReceived k sender senderPort domain seq t4 corr) := of_some rfl (by decide)
theorem calendarFractionAdvance : Statement (.calendarFractionAdvance) := of_some rfl (by decide)

end Sys2Proof.Laws.Touched
end

