-- ==== Sys2Proof/Tests/Slice0.lean ====
section
/-! SUPPORT. Tests of single commands, ill-formed commands that are refused, and, for each statement with premises, a state and
operands that meet the premises of each of its clauses. -/

open Sys2Proof Sys2Proof.Machine

section

set_option maxRecDepth 100000
set_option Elab.async false
set_option linter.unreachableTactic false
set_option linter.unusedTactic false

/-- A start that finds nothing amiss. -/
def clean : StartFound where
  badImages := []
  sieve := none
  sieveFails := 0
  tampered := false
  badHelper := []
  flips := 0
  badSlots := []
  badLife := []
  badBanks := []
  strange := 0
  asnUnknown := false
  plnLate := false
  elapsed := 0

/-- The module in service, straight after its first start. -/
def ready : State :=
  { State.reset with startup := { State.reset.startup with
    phase := .ready, line := 11, pwrGood := true, lrpReady := true },
                      domains := List.replicate 14 .running }

/-- A start at a line. -/
def at_ (p : Phase) (n : Nat) (k : StartKind) : State :=
  { ready with startup := { ready.startup with phase := p, line := n, kind := k } }

/-- The module in service in a mode. -/
def inMode (m : Modes) : State := { ready with modes := m }

/-- The LRP's tag 3 in a condition. -/
def tagged (t : Tag) : State := { ready with lrp := { ready.lrp with tags := [.none, .none, .none, t] } }

/-- Both ports with their tag 3 OPEN, selected and full. -/
def full : PortPath :=
  { PortPath.empty with
    tags := [.none, .none, .none, ⟨.opened, List.replicate 64 ⟨false, SHP_CTRL_EN.addr, 1, 15⟩, 0, 0, 0⟩]
    curTag := 3
    selected := true }
def opening : State := { ready with lrp := full, pcie := full }

/-- PCIe writes that wait. -/
def posting (n : Nat) : State := { ready with pcie := { ready.pcie with posted := List.replicate n ⟨false, 0x01100, 0, 15⟩ } }

/-- A table entry in a state, with a type. -/
def node (i st ty : Nat) : State := ((ready.wr NTB_CTRL_EN 1).setEnt i 0x0B 1 st).setEnt i 0x0A 1 ty

/-- A data frame of the node at entry 8191 and the same in the frame buffer. -/
def meshFrame : MeshFrame := ⟨40, 2, 1, false, false, false, 0xFFFF, 0, .none, .short 0x20FF, true, 6, 1, 0, true, 0, false, []⟩
def rxFrame : RxFrame := ⟨0, 0, 0, 0, 2200000, 2200000, 0, 0, meshFrame⟩
def received : State :=
  { (node 8191 3 1).wr MAC_CTRL_EN 1 with mac := { ready.mac with frameBuf := [rxFrame] } }

/-- A packet with a kind and words. -/
def packet (kind : Nat) (words : List Nat) : Packet := ⟨0, kind, 0, 0, words⟩

/-- A paired module in STANDBY and a frame of its partner. -/
def paired : State :=
  { ready.wrAll [(CLM_CTRL_EN, 1), (CLM_CTRL_PAIRED, 1)] with modes := ⟨.run, .standby, .deployed, .off, .idle, .clear, .free⟩ }
def bidues (role : Nat) : Bidues :=
  ⟨0xB5, 1, 0, 0, role, false, false, true, true, 2, 0, if ready.serial = 0 then 1 else 0, 0, 0, true⟩

theorem bidues_valid (s : State) (f : Bidues) (k : Nat) (h1 : 1 ≤ k) (h7 : k ≤ 7)
    (h : s.serial = ready.serial ∧ f.sync = 0xB5 ∧ f.checkOk = true ∧ f.serial = (bidues 1).serial) :
    s.biduesValid { f with kind := k } = true := by
  obtain ⟨hs, hf, hc, hn⟩ := h
  have hne : (bidues 1).serial ≠ ready.serial := by
    show (if ready.serial = 0 then 1 else 0) ≠ ready.serial
    split <;> omega
  simp [State.biduesValid, hs, hf, hc, hn, h1, h7, hne]

/-- Modules that light runs in, in control and in STANDBY. -/
def light : State := inMode ⟨.run, .solo, .deployed, .off, .idle, .clear, .free⟩
def standby : State := inMode ⟨.run, .standby, .deployed, .off, .idle, .clear, .free⟩

/-- Drift with vertex 8191 valid and one detection on it. -/
def event : DrfEvent := ⟨8191, 10, 1, 1, 1⟩
def drifting : State := (light.wr DRF_CTRL_EN 1).setBytes 0x07 (16 * 8191 + 3) [1]
def detected : State := { drifting with drf := { drifting.drf with queue := [event] } }

/-- Loop slot 2047, enabled, tracking, fed by the host. -/
def loopSlot : TmpSlot := ⟨1, false, false, some 5, 0, 65535, none, 0, 0⟩
def looping (host : List (Nat × Nat × Nat)) : State :=
  { (light.wr TMP_CTRL_EN 1).setBytes 0x09 (64 * 2047) [3] with tmp := ⟨[(2047, loopSlot)], [], host, none⟩ }

theorem looping_slots (host : List (Nat × Nat × Nat)) (j : Nat) :
    ((looping host).tmpRecord j).enable = true ∨ ((looping host).tmpSlot j).state = 0 := by
  by_cases h : j = 2047
  · subst h; left; show ((looping []).tmpRecord 2047).enable = true; decide +kernel
  · right
    simp [State.tmpSlot, looping, Sparse.get, h, TmpSlot.off]

/-- Wired port 7, up, with a command that waits, and a gear or a sensor on it. -/
def dapc : DalCmd := ⟨.short 0 100, 0, [], false, 0⟩
def wired (ty : Nat) : State :=
  ((node 8191 1 ty).wrAll [(DAL_CTRL_EN, 0x80), (DAL_STATUS_UP, 0x80), (DPT_CTRL_EN, 1), (DRF_CTRL_EN, 1)]).setEnt 8191 0x0E 2 (63 * 16 + 7)
def lightWired (ty : Nat) (q : List DalCmd) : State :=
  { wired ty with
    modes := light.modes
    dal := { DalUnit.empty with queues := List.replicate 7 [] ++ [q] } }

/-- A metered circuit, and a slave port of the PTP engine with its parent. -/
def metered : State :=
  ready.wrAll [(EMU_CTRL_EN, 1), (EMU_CIRC_CFG_EN 11, 1), (EMU_CIRC_CFG_VCH 11, 3), (EMU_CIRC_CFG_ICH 11, 15), (EMU_CH_CFG_EN 3, 1),
    (EMU_CH_CFG_EN 15, 1), (EMU_CH_FS 3, 1), (EMU_CH_FS 15, 1)]
def slave : State :=
  ready.wrAll [(TIM_CTRL_PTP_EN, 1), (TIM_CTRL_ROLE, 1), (TIM_PTP_XPORT_PORTS, 0x20), (TIM_PORT_STATE, 3 * 2 ^ 15), (TIM_PARENT_PORT_LOCAL, 5)]
def announce : Announce := ⟨0, 1, 1, 0, 6, 0, 0, 0, 1, 0, 37, true, 0xA0, false, false⟩

/-- Hardpan holding its secret, with requests in queue D2. -/
def parent : KeySlot := ⟨1, 1, 0xFF, 0x18, 0, 0, 0, 0, 1, [], []⟩
def child : KeySlot := ⟨1, 2, 1, 7, 0, 0, 0, 0, 2, [], []⟩
def asking (kind : Nat) (words : List Nat) (slots : List (Nat × KeySlot)) : State :=
  { (light.wrAll [(SLQ_CTRL_EN, 1), (HPN_CTRL_EN, 1), (HPN_STATUS_READY, 1)]).setQueue 18
      { SlipQueue.empty with eligible := [packet kind words] } with
    modes := ⟨.run, .solo, .provisioned, .off, .idle, .clear, .free⟩
    hpn := { HpnUnit.empty with slots := slots } }
def asked (kind : Nat) (words : List Nat) (slots : List (Nat × KeySlot)) : State := (asking kind words slots).setQueue 18 .empty
def keyTakes (s s' : State) (p : Packet) (kind : Nat) : Prop :=
  s.atWork 0x1C = true ∧ s.lcWaits = false ∧ s.isolated 0x06 = false ∧ s.slqTake 2 = some (p, s') ∧ p.kind = kind ∧ s.rd HPN_STATUS_READY = 1 ∧ s.rd HPN_CTRL_EN = 1
/-- A VERIFY key of the octets 0 to 63 for slot 63, signed with the owner key 1 for the module of serial number 0x7_0000_0005: the
signature is a calculation outside the model by FIPS 186-4. -/
def loadWords : List Nat :=
  [63 * 2 ^ 16, 4 + 0x20 * 2 ^ 16, 7] ++ ((List.range 16).map fun k => 0x03020100 + 0x04040404 * k) ++
  [0x187BF27C, 0x7E4F038D, 0x0338528A, 0xC31AB504, 0xE26989C0, 0x351BF277, 0xFC480BA6, 0x78996647,
   0x65516480, 0x8C637AD6, 0x9B3387E2, 0xBCDC999B, 0x28D0F7A5, 0xBCE50471, 0x85C9E5E3, 0x539F43F6]
def loadedKeyNumber : Nat := ofOctets (List.range 64)
def signer (s : State) : State :=
  { s with
    regs := (SYS_SERIAL_LO.key, 5) :: (SYS_SERIAL_HI.key, 7) :: s.regs
    hpn := { s.hpn with anchor := some (ofOctets basePoint.octets) } }
def deriveWords : List Nat := [63 * 2 ^ 16 + 1 * 2 ^ 24, 2 + 7 * 2 ^ 16, 0]

/-- Switch port 5 up, and frames. -/
def up5 : State := ready.wrAll [(SWF_CTRL_EN, 1), (ETP_CTRL_EN 5, 1), (ETP_STATUS_LINK 5, 1), (ETP_FC_PAUSE_RX 5, 1)]
def plain : EthFrame := ⟨1, 2, none, List.replicate 48 0⟩
def pause : EthFrame := ⟨0x0180C2000001, 2, none, [0x88, 0x08, 0, 1] ++ List.replicate 44 0⟩
def stored : SwFrame := ⟨0, plain, 0, 7, 1, 0, false, false, none⟩
def queued (k : Nat) : State := { up5 with swf := { SwfUnit.empty with queues := List.replicate (8 * k + 7) [] ++ [[stored]] } }
def desc : TxDesc := ⟨0, 60, true, true, false, false, false, false, false, 0, 0, 0⟩
def ring : State :=
  ready.wrAll [(HDM_CTRL_EN, 1), (HDM_TX_SIZE 7, 6), (HDM_TX_TAIL 7, 1), (HIF_STATUS_BME, 1), (SWF_CTRL_EN, 1)]

/-- Grog with a block in queue D1, an image header and a campaign. -/
def header : GrgHeader := ⟨2, 0, 0, 1, 0, 4096, 1, 0x03B1FFFF, [0, 0, 0], 0, 0⟩
def grog (kind : Nat) : State :=
  { (ready.wrAll [(SLQ_CTRL_EN, 1), (GRG_CTRL_EN, 1)]).setQueue 17 { SlipQueue.empty with eligible := [packet kind [0]] } with
    grg := { ready.grg with header := some header } }
def campaign : Campaign := ⟨63, header, 6, 64, 3, [], 0, [], false, []⟩
def campaigning : State := { ready with grg := { ready.grg with campaign := some campaign } }
def bank : StoreBank := ⟨1, 32, 0x03B1FFFF, 0, 0, [], [], [], []⟩
def saving : State := { ready with mrl := { ready.mrl with saving := some (1, bank) } }
def frame0 : Bidues := ⟨0xB5, 1, 0, 0, 0, false, false, true, true, 2, 0, 0, 0, 0, true⟩
def message : OutMessage := ⟨1, .broadcast, [], []⟩

/-! ### Ill-formed commands: one for each check -/

theorem test_ill_formed_1 :
    ¬WellFormed (.domainStartOnDemand 14) ∧
    ¬WellFormed (.domainIdleStop 14) ∧
    ¬WellFormed (.coldStart { clean with flips := 32769 } 0) ∧
    ¬WellFormed (.coldStart { clean with strange := 2 ^ 32 } 0) ∧
    ¬WellFormed (.coldStart clean 12) ∧
    ¬WellFormed (.holdWake false { clean with flips := 32769 } 0) ∧
    ¬WellFormed (.holdWake false { clean with strange := 2 ^ 32 } 0) ∧
    ¬WellFormed (.holdWake false clean 12) ∧
    ¬WellFormed (.warmStart { clean with flips := 32769 } 0) ∧
    ¬WellFormed (.warmStart { clean with strange := 2 ^ 32 } 0) ∧
    ¬WellFormed (.warmStart clean 12) ∧
    ¬WellFormed (.supWatchdogReset 0) ∧
    ¬WellFormed (.supWatchdogReset 12) ∧
    ¬WellFormed (.sysResetWarm .lrp (2 ^ 16)) ∧
    ¬WellFormed (.sysPowerReq .lrp 4) ∧
    ¬WellFormed (.contactorDriverLatch 4) ∧
    ¬WellFormed (.dieHot (2 ^ 16)) ∧
    ¬WellFormed (.paInhibit (2 ^ 16)) ∧
    ¬WellFormed (.paInhibitEnd (2 ^ 16)) ∧
    ¬WellFormed (.lrpWrite (2 ^ 18) 0 0) ∧
    ¬WellFormed (.lrpWrite 2 0 0) ∧
    ¬WellFormed (.lrpWrite 0 (2 ^ 32) 0) ∧
    ¬WellFormed (.lrpWrite 0 0 16) ∧
    ¬WellFormed (.bar0Write (2 ^ 18) 0 false) := by
  repeat' apply And.intro
  all_goals (unfold WellFormed; decide +kernel)

theorem test_ill_formed_2 :
    ¬WellFormed (.bar0Write 0 (2 ^ 32) false) ∧
    ¬WellFormed (.bar0Read (2 ^ 18) false) ∧
    ¬WellFormed (.bar2Access false (2 ^ 30) [(0, 15)]) ∧
    ¬WellFormed (.bar2Access false 2 [(0, 15)]) ∧
    ¬WellFormed (.seqWordRead .lrp 23) ∧
    ¬WellFormed (.blockLastWordRead .lrp 23) ∧
    ¬WellFormed (.rcRead .lrp (2 ^ 18)) ∧
    ¬WellFormed (.hifFenceWrite .lrp (2 ^ 32)) ∧
    ¬WellFormed (.hifEoi .lrp 32) ∧
    ¬WellFormed (.msixUnmask none false false false false false (2 ^ 32) 0) ∧
    ¬WellFormed (.msixUnmask none false false false false false 0 (2 ^ 64)) ∧
    ¬WellFormed (.txnOpen .lrp 4) ∧
    ¬WellFormed (.txnSelect .lrp 4) ∧
    ¬WellFormed (.txnCommit .lrp 4 0) ∧
    ¬WellFormed (.txnAbort .lrp 4) ∧
    ¬WellFormed (.chainRetune .lrp 2 0 0) ∧
    ¬WellFormed (.chainRetune .lrp 0 (2 ^ 20) 0) ∧
    ¬WellFormed (.adcClipAgcStep 2 0 0) ∧
    ¬WellFormed (.adcClipAgcStep 0 16 0) ∧
    ¬WellFormed (.agcStep 2 0 false) ∧
    ¬WellFormed (.agcStep 0 16 false) ∧
    ¬WellFormed (.chnFrameReceived 128 0 0 0 0 .badFcs meshFrame) ∧
    ¬WellFormed (.chnFrameReceived 0 (2 ^ 64) 0 0 0 .badFcs meshFrame) ∧
    ¬WellFormed (.chnFrameReceived 0 0 (2 ^ 64) 0 0 .badFcs meshFrame) := by
  repeat' apply And.intro
  all_goals (unfold WellFormed; decide +kernel)

theorem test_ill_formed_3 :
    ¬WellFormed (.chnFrameReceived 0 0 0 256 0 .badFcs meshFrame) ∧
    ¬WellFormed (.chnFrameReceived 0 0 0 0 256 .badFcs meshFrame) ∧
    ¬WellFormed (.chnFrameReceived 0 0 0 0 0 .badFcs { meshFrame with len := 2048 }) ∧
    ¬WellFormed (.chnFrameReceived 0 0 0 0 0 .badFcs { meshFrame with seqNo := 256 }) ∧
    ¬WellFormed (.chnFrameReceived 0 0 0 0 0 .badFcs { meshFrame with counter := 2 ^ 32 }) ∧
    ¬WellFormed (.budgetBucketAdvance 32 0) ∧
    ¬WellFormed (.budgetBucketAdvance 0 128) ∧
    ¬WellFormed (.txFrameStart 4 0) ∧
    ¬WellFormed (.macQueueEnqueue { message with type := 256 } 0) ∧
    ¬WellFormed (.macQueueEnqueue ⟨1, .broadcast, [], []⟩ 65536) ∧
    ¬WellFormed (.joinTimeout 8192) ∧
    ¬WellFormed (.ntbProvision .lrp 8192) ∧
    ¬WellFormed (.ntbBlock .lrp 8192) ∧
    ¬WellFormed (.ntbUnblock .lrp 8192) ∧
    ¬WellFormed (.ntbFree .lrp 8192) ∧
    ¬WellFormed (.ntbClearHealth .lrp 8192) ∧
    ¬WellFormed (.ntbFind .lrp (2 ^ 32)) ∧
    ¬WellFormed (.nodeEntryWrite .lrp (2 ^ 21) 0) ∧
    ¬WellFormed (.nodeEntryWrite .lrp 0 (2 ^ 32)) ∧
    ¬WellFormed (.drfEventIntake 65536 0 0 0) ∧
    ¬WellFormed (.drfEventIntake 0 (2 ^ 64) 0 0) ∧
    ¬WellFormed (.drfEventIntake 0 0 256 0) ∧
    ¬WellFormed (.drfEventIntake 0 0 0 256) ∧
    ¬WellFormed (.drfInject .lrp 8192 0) := by
  repeat' apply And.intro
  all_goals (unfold WellFormed; decide +kernel)

theorem test_ill_formed_4 :
    ¬WellFormed (.drfInject .lrp 0 65536) ∧
    ¬WellFormed (.drfEvaluation 0 65536 0) ∧
    ¬WellFormed (.drfEvaluation 0 0 3) ∧
    ¬WellFormed (.tmpMeasSlot .lrp 2048) ∧
    ¬WellFormed (.tmpSlotDisable 2048) ∧
    ¬WellFormed (.shapingPass 0 65536 false) ∧
    ¬WellFormed (.dalFrameTx 8 false) ∧
    ¬WellFormed (.dalRefresh 8) ∧
    ¬WellFormed (.dalBusDown 8) ∧
    ¬WellFormed (.dalBusUp 8) ∧
    ¬WellFormed (.dalEventReceived 8 0 0) ∧
    ¬WellFormed (.dalEventReceived 0 (2 ^ 24) 0) ∧
    ¬WellFormed (.dalEventReceived 0 0 (2 ^ 64)) ∧
    ¬WellFormed (.dalRawRequest .lrp 8 false false false 0) ∧
    ¬WellFormed (.dalRawRequest .lrp 0 false false false 8) ∧
    ¬WellFormed (.emuChannelFault 16) ∧
    ¬WellFormed (.emuChannelFaultEnd 16) ∧
    ¬WellFormed (.emuZcTimeout 4) ∧
    ¬WellFormed (.emuClear .lrp 16) ∧
    ¬WellFormed (.emurWindowClose 0 12) ∧
    ¬WellFormed (.etpFrameReceived 6 0 64 plain .badFcs 0) ∧
    ¬WellFormed (.etpFrameReceived 0 0 64 { plain with dst := 2 ^ 48 } .badFcs 0) ∧
    ¬WellFormed (.etpFrameReceived 0 0 64 { plain with src := 2 ^ 48 } .badFcs 0) ∧
    ¬WellFormed (.etpFrameTransmit 6 0 0 0) := by
  repeat' apply And.intro
  all_goals (unfold WellFormed; decide +kernel)

theorem test_ill_formed_5 :
    ¬WellFormed (.etpFrameTransmit 0 0 0 5) ∧
    ¬WellFormed (.pauseTimerExpiry 6 0) ∧
    ¬WellFormed (.pauseRepeat 6) ∧
    ¬WellFormed (.lpiEntry 6 false) ∧
    ¬WellFormed (.lpiWake 6 false) ∧
    ¬WellFormed (.etpLinkChange 6 false 0) ∧
    ¬WellFormed (.etpLinkChange 0 false 3) ∧
    ¬WellFormed (.etpModeWrite .lrp 6 0) ∧
    ¬WellFormed (.etpModeWrite .lrp 0 4) ∧
    ¬WellFormed (.etpFwdStateWrite .lrp 6 0) ∧
    ¬WellFormed (.etpFwdStateWrite .lrp 0 256) ∧
    ¬WellFormed (.fdbInsert .lrp 4096) ∧
    ¬WellFormed (.fdbDelete .lrp 4096) ∧
    ¬WellFormed (.fdbFlushPort .lrp 8) ∧
    ¬WellFormed (.fdbFlushInstance .lrp 4) ∧
    ¬WellFormed (.fdbLookup .lrp 4096) ∧
    ¬WellFormed (.mdioC45Address .lrp false 32 0) ∧
    ¬WellFormed (.mdioC45Address .lrp false 0 32) ∧
    ¬WellFormed (.mdioWrite .lrp false 32 0) ∧
    ¬WellFormed (.mdioWrite .lrp false 0 32) ∧
    ¬WellFormed (.mdioRead .lrp false 32 0) ∧
    ¬WellFormed (.mdioRead .lrp false 0 32) ∧
    ¬WellFormed (.mdioC22Read .lrp false 32 0) ∧
    ¬WellFormed (.mdioC22Read .lrp false 0 32) := by
  repeat' apply And.intro
  all_goals (unfold WellFormed; decide +kernel)

theorem test_ill_formed_6 :
    ¬WellFormed (.mdioDone 65536) ∧
    ¬WellFormed (.hdmTxTailWrite .lrp 8 0) ∧
    ¬WellFormed (.hdmTxTailWrite .lrp 0 4096) ∧
    ¬WellFormed (.hdmTxFrame 8 [] [] false) ∧
    ¬WellFormed (.hdmRxDeliver 8 [] 0) ∧
    ¬WellFormed (.hdmRxDeliver 0 [] 3) ∧
    ¬WellFormed (.hdmModDelayExpiry false 8) ∧
    ¬WellFormed (.ptpSyncReceived 6 0 0 0 0 0 0 0 false) ∧
    ¬WellFormed (.ptpSyncReceived 0 (2 ^ 64) 0 0 0 0 0 0 false) ∧
    ¬WellFormed (.ptpSyncReceived 0 0 (2 ^ 16) 0 0 0 0 0 false) ∧
    ¬WellFormed (.ptpSyncReceived 0 0 0 256 0 0 0 0 false) ∧
    ¬WellFormed (.ptpSyncReceived 0 0 0 0 (2 ^ 16) 0 0 0 false) ∧
    ¬WellFormed (.ptpAnnounceReceived 6 announce) ∧
    ¬WellFormed (.ptpAnnounceReceived 0 { announce with domain := 256 }) ∧
    ¬WellFormed (.ptpAnnounceReceived 0 { announce with senderId := 2 ^ 64 }) ∧
    ¬WellFormed (.ptpAnnounceReceived 0 { announce with senderPort := 2 ^ 16 }) ∧
    ¬WellFormed (.ptpAnnounceReceived 0 { announce with utcOffset := 2 ^ 16 }) ∧
    ¬WellFormed (.ptpMessageTx 6 .sync 0 0) ∧
    ¬WellFormed (.ptpMessageTx 0 .sync (2 ^ 16) 0) ∧
    ¬WellFormed (.timHostStateWrite .lrp 4) ∧
    ¬WellFormed (.timRateWrite .lrp (2 ^ 32)) ∧
    ¬WellFormed (.timStepHiWrite .lrp (2 ^ 32)) ∧
    ¬WellFormed (.timTsPop .lrp (2 ^ 24)) ∧
    ¬WellFormed (.slqPacketComplete 16 0 0 0 [0] false) := by
  repeat' apply And.intro
  all_goals (unfold WellFormed; decide +kernel)

theorem test_ill_formed_7 :
    ¬WellFormed (.slqPacketComplete 0 256 0 0 [0] false) ∧
    ¬WellFormed (.slqPacketComplete 0 0 8 0 [0] false) ∧
    ¬WellFormed (.slqPacketComplete 0 0 0 4 [0] false) ∧
    ¬WellFormed (.slqStallResume 16) ∧
    ¬WellFormed (.slqUplinkRead .lrp 16 false) ∧
    ¬WellFormed (.slqDrop .lrp 16) ∧
    ¬WellFormed (.slqMark .lrp 16) ∧
    ¬WellFormed (.slqRewind .lrp 16) ∧
    ¬WellFormed (.slqClearMark .lrp 16) ∧
    ¬WellFormed (.slqClrMax .lrp 24) ∧
    ¬WellFormed (.slqFlush .lrp 24) ∧
    ¬WellFormed (.slqDownlinkData .lrp 8 0) ∧
    ¬WellFormed (.slqDownlinkData .lrp 0 (2 ^ 32)) ∧
    ¬WellFormed (.slqDownlinkCommit .lrp 8 0) ∧
    ¬WellFormed (.slqDownlinkCommit .lrp 0 (2 ^ 32)) ∧
    ¬WellFormed (.slqAbort .lrp 8) ∧
    ¬WellFormed (.slqCellsWrite .lrp 24 0) ∧
    ¬WellFormed (.slqCellsWrite .lrp 0 (2 ^ 14)) ∧
    ¬WellFormed (.slqTimeout 24) ∧
    ¬WellFormed (.biduesFrameReceived { frame0 with sync := 256 }) ∧
    ¬WellFormed (.biduesFrameReceived { frame0 with kind := 256 }) ∧
    ¬WellFormed (.biduesFrameReceived { frame0 with seq := 256 }) ∧
    ¬WellFormed (.biduesFrameReceived { frame0 with claim := 2 ^ 32 }) ∧
    ¬WellFormed (.biduesFrameReceived { frame0 with role := 4 }) := by
  repeat' apply And.intro
  all_goals (unfold WellFormed; decide +kernel)

theorem test_ill_formed_8 :
    ¬WellFormed (.biduesFrameReceived { frame0 with rank := 256 }) ∧
    ¬WellFormed (.biduesFrameReceived { frame0 with epoch := 2 ^ 24 }) ∧
    ¬WellFormed (.biduesFrameReceived { frame0 with serial := 2 ^ 64 }) ∧
    ¬WellFormed (.biduesFrameReceived { frame0 with cfgId := 2 ^ 32 }) ∧
    ¬WellFormed (.biduesFrameReceived { frame0 with arg := 256 }) ∧
    ¬WellFormed (.query { frame0 with sync := 256 }) ∧
    ¬WellFormed (.query { frame0 with kind := 256 }) ∧
    ¬WellFormed (.query { frame0 with seq := 256 }) ∧
    ¬WellFormed (.query { frame0 with claim := 2 ^ 32 }) ∧
    ¬WellFormed (.query { frame0 with role := 4 }) ∧
    ¬WellFormed (.query { frame0 with rank := 256 }) ∧
    ¬WellFormed (.query { frame0 with epoch := 2 ^ 24 }) ∧
    ¬WellFormed (.query { frame0 with serial := 2 ^ 64 }) ∧
    ¬WellFormed (.query { frame0 with cfgId := 2 ^ 32 }) ∧
    ¬WellFormed (.query { frame0 with arg := 256 }) ∧
    ¬WellFormed (.answer { frame0 with sync := 256 }) ∧
    ¬WellFormed (.answer { frame0 with kind := 256 }) ∧
    ¬WellFormed (.answer { frame0 with seq := 256 }) ∧
    ¬WellFormed (.answer { frame0 with claim := 2 ^ 32 }) ∧
    ¬WellFormed (.answer { frame0 with role := 4 }) ∧
    ¬WellFormed (.answer { frame0 with rank := 256 }) ∧
    ¬WellFormed (.answer { frame0 with epoch := 2 ^ 24 }) ∧
    ¬WellFormed (.answer { frame0 with serial := 2 ^ 64 }) ∧
    ¬WellFormed (.answer { frame0 with cfgId := 2 ^ 32 }) := by
  repeat' apply And.intro
  all_goals (unfold WellFormed; decide +kernel)

theorem test_ill_formed_9 :
    ¬WellFormed (.answer { frame0 with arg := 256 }) ∧
    ¬WellFormed (.swapReq { frame0 with sync := 256 }) ∧
    ¬WellFormed (.swapReq { frame0 with kind := 256 }) ∧
    ¬WellFormed (.swapReq { frame0 with seq := 256 }) ∧
    ¬WellFormed (.swapReq { frame0 with claim := 2 ^ 32 }) ∧
    ¬WellFormed (.swapReq { frame0 with role := 4 }) ∧
    ¬WellFormed (.swapReq { frame0 with rank := 256 }) ∧
    ¬WellFormed (.swapReq { frame0 with epoch := 2 ^ 24 }) ∧
    ¬WellFormed (.swapReq { frame0 with serial := 2 ^ 64 }) ∧
    ¬WellFormed (.swapReq { frame0 with cfgId := 2 ^ 32 }) ∧
    ¬WellFormed (.swapReq { frame0 with arg := 256 }) ∧
    ¬WellFormed (.swapAck { frame0 with sync := 256 }) ∧
    ¬WellFormed (.swapAck { frame0 with kind := 256 }) ∧
    ¬WellFormed (.swapAck { frame0 with seq := 256 }) ∧
    ¬WellFormed (.swapAck { frame0 with claim := 2 ^ 32 }) ∧
    ¬WellFormed (.swapAck { frame0 with role := 4 }) ∧
    ¬WellFormed (.swapAck { frame0 with rank := 256 }) ∧
    ¬WellFormed (.swapAck { frame0 with epoch := 2 ^ 24 }) ∧
    ¬WellFormed (.swapAck { frame0 with serial := 2 ^ 64 }) ∧
    ¬WellFormed (.swapAck { frame0 with cfgId := 2 ^ 32 }) ∧
    ¬WellFormed (.swapAck { frame0 with arg := 256 }) ∧
    ¬WellFormed (.swapNak { frame0 with sync := 256 }) ∧
    ¬WellFormed (.swapNak { frame0 with kind := 256 }) ∧
    ¬WellFormed (.swapNak { frame0 with seq := 256 }) := by
  repeat' apply And.intro
  all_goals (unfold WellFormed; decide +kernel)

theorem test_ill_formed_10 :
    ¬WellFormed (.swapNak { frame0 with claim := 2 ^ 32 }) ∧
    ¬WellFormed (.swapNak { frame0 with role := 4 }) ∧
    ¬WellFormed (.swapNak { frame0 with rank := 256 }) ∧
    ¬WellFormed (.swapNak { frame0 with epoch := 2 ^ 24 }) ∧
    ¬WellFormed (.swapNak { frame0 with serial := 2 ^ 64 }) ∧
    ¬WellFormed (.swapNak { frame0 with cfgId := 2 ^ 32 }) ∧
    ¬WellFormed (.swapNak { frame0 with arg := 256 }) ∧
    ¬WellFormed (.resign { frame0 with sync := 256 }) ∧
    ¬WellFormed (.resign { frame0 with kind := 256 }) ∧
    ¬WellFormed (.resign { frame0 with seq := 256 }) ∧
    ¬WellFormed (.resign { frame0 with claim := 2 ^ 32 }) ∧
    ¬WellFormed (.resign { frame0 with role := 4 }) ∧
    ¬WellFormed (.resign { frame0 with rank := 256 }) ∧
    ¬WellFormed (.resign { frame0 with epoch := 2 ^ 24 }) ∧
    ¬WellFormed (.resign { frame0 with serial := 2 ^ 64 }) ∧
    ¬WellFormed (.resign { frame0 with cfgId := 2 ^ 32 }) ∧
    ¬WellFormed (.resign { frame0 with arg := 256 }) ∧
    ¬WellFormed (.tamperSamplingRound 16 false false) ∧
    ¬WellFormed (.tamperMonitorTrip 3 false false) ∧
    ¬WellFormed (.tprCfgWrite .lrp false (2 ^ 32)) ∧
    ¬WellFormed (.siltEvent (2 ^ 16) 0 0 0 0) ∧
    ¬WellFormed (.siltEvent 0 (2 ^ 32) 0 0 0) ∧
    ¬WellFormed (.siltEvent 0 0 (2 ^ 32) 0 0) ∧
    ¬WellFormed (.siltEvent 0 0 0 (2 ^ 32) 0) := by
  repeat' apply And.intro
  all_goals (unfold WellFormed; decide +kernel)

theorem test_ill_formed_11 :
    ¬WellFormed (.siltEvent 0 0 0 0 (2 ^ 32)) ∧
    ¬WellFormed (.sltClear .lrp (2 ^ 16)) ∧
    ¬WellFormed (.sivModeReq .lrp 4) ∧
    ¬WellFormed (.sieveSliceEnd 0 256 0 0) ∧
    ¬WellFormed (.sieveSliceEnd 0 0 1024 0) ∧
    ¬WellFormed (.sieveSliceEnd 0 0 0 4) ∧
    ¬WellFormed (.sieveFullDone none 0 256 0) ∧
    ¬WellFormed (.sieveFullDone none 0 0 950) ∧
    ¬WellFormed (.recover .lrp 256) ∧
    ¬WellFormed (.clearFailed .lrp 256) ∧
    ¬WellFormed (.activate .lrp 4) ∧
    ¬WellFormed (.confirm .lrp 4) ∧
    ¬WellFormed (.rollback .lrp 4) ∧
    ¬WellFormed (.bootromContainer [] [] 3) ∧
    ¬WellFormed (.clear .lrp (2 ^ 16)) ∧
    ¬WellFormed (.itgScrub 4 []) ∧
    ¬WellFormed (.txFrameEnd 4 0 false) ∧
    ¬WellFormed (.winDataRead .lrp 64) ∧
    ¬WellFormed (.etpBytesLoRead .lrp 6 false) ∧
    ¬WellFormed (.pcieLinkUp 1 0) ∧
    ¬WellFormed (.pcieLinkUp 1 4) ∧
    ¬WellFormed (.dieHotEnd (2 ^ 16)) ∧
    ¬WellFormed (.hdmRxTailWrite .lrp 8 0) ∧
    ¬WellFormed (.hdmRxTailWrite .lrp 0 4096) := by
  repeat' apply And.intro
  all_goals (unfold WellFormed; decide +kernel)

theorem test_ill_formed_12 :
    ¬WellFormed (.ptpFollowUpReceived 6 0 0 0 0 0 0) ∧
    ¬WellFormed (.ptpFollowUpReceived 0 (2 ^ 64) 0 0 0 0 0) ∧
    ¬WellFormed (.ptpFollowUpReceived 0 0 (2 ^ 16) 0 0 0 0) ∧
    ¬WellFormed (.ptpFollowUpReceived 0 0 0 256 0 0 0) ∧
    ¬WellFormed (.ptpFollowUpReceived 0 0 0 0 (2 ^ 16) 0 0) ∧
    ¬WellFormed (.ptpDelayReqReceived 6 0 0 0) ∧
    ¬WellFormed (.ptpDelayReqReceived 0 256 0 0) ∧
    ¬WellFormed (.ptpDelayReqReceived 0 0 (2 ^ 16) 0) ∧
    ¬WellFormed (.ptpDelayRespReceived 6 0 0 0 0 0 0) ∧
    ¬WellFormed (.ptpDelayRespReceived 0 (2 ^ 64) 0 0 0 0 0) ∧
    ¬WellFormed (.ptpDelayRespReceived 0 0 (2 ^ 16) 0 0 0 0) ∧
    ¬WellFormed (.ptpDelayRespReceived 0 0 0 256 0 0 0) ∧
    ¬WellFormed (.ptpDelayRespReceived 0 0 0 0 (2 ^ 16) 0 0) ∧
    ¬WellFormed (.coldStart { clean with badImages := [6] } 0) ∧
    ¬WellFormed (.coldStart { clean with badSlots := [64] } 0) ∧
    ¬WellFormed (.coldStart { clean with badBanks := [2] } 0) ∧
    ¬WellFormed (.coldStart { clean with badHelper := [2] } 0) ∧
    ¬WellFormed (.coldStart { clean with flips := 32769 } 0) ∧
    ¬WellFormed (.coldStart { clean with strange := 2 ^ 32 } 0) ∧
    ¬WellFormed (.holdWake false { clean with badImages := [6] } 0) ∧
    ¬WellFormed (.holdWake false { clean with badSlots := [64] } 0) ∧
    ¬WellFormed (.holdWake false { clean with badBanks := [2] } 0) ∧
    ¬WellFormed (.holdWake false { clean with badHelper := [2] } 0) ∧
    ¬WellFormed (.holdWake false { clean with flips := 32769 } 0) := by
  repeat' apply And.intro
  all_goals (unfold WellFormed; decide +kernel)

theorem test_ill_formed_13 :
    ¬WellFormed (.holdWake false { clean with strange := 2 ^ 32 } 0) ∧
    ¬WellFormed (.warmStart { clean with badImages := [6] } 0) ∧
    ¬WellFormed (.warmStart { clean with badSlots := [64] } 0) ∧
    ¬WellFormed (.warmStart { clean with badBanks := [2] } 0) ∧
    ¬WellFormed (.warmStart { clean with badHelper := [2] } 0) ∧
    ¬WellFormed (.warmStart { clean with flips := 32769 } 0) ∧
    ¬WellFormed (.warmStart { clean with strange := 2 ^ 32 } 0) ∧
    ¬WellFormed (.bar2Access false 0 []) ∧
    ¬WellFormed (.bar2Access false 0 (List.replicate 129 (0, 15))) ∧
    ¬WellFormed (.bar2Access false 0 [(2 ^ 32, 15)]) ∧
    ¬WellFormed (.bar2Access false 0 [(0, 16)]) ∧
    ¬WellFormed (.msixUnmask (some 32) false false false false false 0 0) ∧
    ¬WellFormed (.chnFrameReceived 0 0 0 0 0 .badFcs { meshFrame with len := 0, payload := [1] }) ∧
    ¬WellFormed (.macQueueEnqueue ⟨1, .broadcast, [256], []⟩ 0) ∧
    ¬WellFormed (.tmpSample 0 [2048] [] 0) ∧
    ¬WellFormed (.tmpSample 0 [] [8192] 0) ∧
    ¬WellFormed (.dalRawComplete (some 256) false) ∧
    ¬WellFormed (.emuSample 0 [2 ^ 512]) ∧
    ¬WellFormed (.etpFrameReceived 0 0 65 plain .badFcs 0) ∧
    ¬WellFormed (.etpFrameReceived 0 0 68 { plain with tag := some 65536 } .badFcs 0) ∧
    ¬WellFormed (.etpFrameReceived 0 0 17 { plain with body := [256] } .badFcs 0) ∧
    ¬WellFormed (.hdmTxFrame 0 [{ desc with addr := 2 ^ 64 }] [] false) ∧
    ¬WellFormed (.hdmTxFrame 0 [{ desc with len := 65536 }] [] false) ∧
    ¬WellFormed (.hdmTxFrame 0 [{ desc with ports := 64 }] [] false) := by
  repeat' apply And.intro
  all_goals (unfold WellFormed; decide +kernel)

theorem test_ill_formed_14 :
    ¬WellFormed (.hdmTxFrame 0 [{ desc with tci := 65536 }] [] false) ∧
    ¬WellFormed (.hdmTxFrame 0 [{ desc with tsId := 65536 }] [] false) ∧
    ¬WellFormed (.hdmTxFrame 0 [] [256] false) ∧
    ¬WellFormed (.hdmRxDeliver 0 [65536] 0) ∧
    ¬WellFormed (.slqPacketComplete 0 0 0 0 [] false) ∧
    ¬WellFormed (.slqPacketComplete 0 0 0 0 (List.replicate 4097 0) false) ∧
    ¬WellFormed (.slqPacketComplete 0 0 0 0 [2 ^ 32] false) ∧
    ¬WellFormed (.sieveSliceStart 0 [(256, 0)]) ∧
    ¬WellFormed (.sieveSliceStart 0 [(0, 1024)]) ∧
    ¬WellFormed (.sieveFullDone (some ⟨256, 0, 0, 0, true, false, 0⟩) 0 0 0) ∧
    ¬WellFormed (.recoverDone (some ⟨256, 0, 0, 0, true, false, 0⟩) 0) ∧
    ¬WellFormed (.sieveFullDone (some ⟨0, 1024, 0, 0, true, false, 0⟩) 0 0 0) ∧
    ¬WellFormed (.recoverDone (some ⟨0, 1024, 0, 0, true, false, 0⟩) 0) ∧
    ¬WellFormed (.sieveFullDone (some ⟨0, 0, 2 ^ 32, 0, true, false, 0⟩) 0 0 0) ∧
    ¬WellFormed (.recoverDone (some ⟨0, 0, 2 ^ 32, 0, true, false, 0⟩) 0) ∧
    ¬WellFormed (.sieveFullDone (some ⟨0, 0, 0, 72, true, false, 0⟩) 0 0 0) ∧
    ¬WellFormed (.recoverDone (some ⟨0, 0, 0, 72, true, false, 0⟩) 0) ∧
    ¬WellFormed (.sieveFullDone (some ⟨0, 0, 0, 0, true, false, 256⟩) 0 0 0) ∧
    ¬WellFormed (.recoverDone (some ⟨0, 0, 0, 0, true, false, 256⟩) 0) ∧
    ¬WellFormed (.bootromContainer [256] [] 0) ∧
    ¬WellFormed (.bootromContainer [] [256] 0) ∧
    ¬WellFormed (.itgScrub 0 [⟨234881024, 0, 0, 0, false⟩]) ∧
    ¬WellFormed (.itgScrub 1 [⟨2 ^ 60, 0, 0, 0, false⟩]) ∧
    ¬WellFormed (.itgScrub 0 [⟨0, 2 ^ 144, 0, 0, false⟩]) := by
  repeat' apply And.intro
  all_goals (unfold WellFormed; decide +kernel)

theorem test_ill_formed_15 :
    ¬WellFormed (.itgScrub 0 [⟨0, 0, 256, 0, false⟩]) ∧
    ¬WellFormed (.pcieLinkUp 0 1) ∧
    ¬WellFormed (.tschSlotPlan 0 [128]) := by
  repeat' apply And.intro
  all_goals (unfold WellFormed; decide +kernel)

/-! ### Single commands

The values expected come from the spec: its worked examples, its tables, and its register map. -/

/-- Whether a command answers a next state of which a test holds. -/
def answers (i : Instr) (s : State) (p : State → Bool) : Bool :=
  match exec i s with
  | .next t => p t
  | _ => false

/-- The table gives no row any bits. -/
theorem test_no_word_spells_a_command : decodeTableWord 32 0xFFFFFFFF = none := by decide

/-- On an empty queue the block idles, and the raw counter counts on. -/
theorem test_idle_step_counts :
    (match step ready with | .next t => t.time.raw | _ => 0) = 1 := by decide +kernel

/-- The front command is taken off the queue. -/
theorem test_step_takes_the_front :
    (match step { ready with pending := [.txnOpen .lrp 2, .vinLoss .none] } with
      | .next t => (t.pending, t.lrp.curTag, (t.lrp.tag 2).state)
      | _ => ([], 0, .free)) = ([.vinLoss .none], 2, .opened) := by decide +kernel

/-- R110, R121: after t5 the pages of phase B are usable, and Hardpan's is not. -/
theorem test_cold_start_reaches_phase_B :
    answers (.coldStart clean 5) State.reset (fun t => t.startup.phase == .phaseB && t.live 0x1E && !t.live 0x1C) = true := by
  decide +kernel

/-- R6, R78: a BAR0 write that is not 32 bits wide is discarded, with HIF_NOTE_RAW.BAD_ACCESS, bit 3. -/
theorem test_narrow_write_is_discarded :
    answers (.bar0Write 0x0A008 1 false) ready
      (fun t => t.pcie.posted == [] && t.rd (NOTE_RAW 0x01) == 8) = true := by
  decide +kernel

/-- R75: the oldest posted write takes effect. -/
theorem test_posted_write_arrives :
    answers (.registerWrite .pcie) { ready with pcie := { ready.pcie with posted := [⟨false, 0x0A008, 1, 15⟩] } }
      (fun t => t.pcie.posted == [] && t.rd SHP_CTRL_EN == 1) = true := by decide +kernel

/-- The worked example of the FRESH rules: COUNT 0x1267 with BLOCKS 1 reads 0x0012_6701, and the read takes the latch. -/
theorem test_seq_word_of_drift :
    answers (.seqWordRead .pcie 0) (ready.wr (SEQ_COUNT 0x07) 0x1267)
      (fun t => t.pcie.readData == [0x00126701] && t.pcie.latches.length == 1) = true := by decide +kernel

/-- R92: OPEN of a tag that is open sets ERR 1. -/
theorem test_open_twice_is_an_error :
    answers (.txnOpen .lrp 3) (tagged ⟨.opened, [], 0, 0, 0⟩) (fun t => t.lrp.err == 1) = true := by decide +kernel

/-- R508: at 110 °C the module records 0x0006 with the temperature. -/
theorem test_hot_die_is_recorded :
    answers (.dieHot 110) ready (fun t => t.siltIntake.any fun e => e.code == 0x0006 && e.p0 == 110) = true := by decide +kernel

/-- R127: a chain centre one step above the range is discarded. -/
theorem test_retune_above_the_range :
    answers (.chainRetune .lrp 0 946201 0) ready (fun t => t.chainFreq 0 == ready.chainFreq 0) = true := by decide +kernel

/-- The reversed ramp: SPL steps from 5,000 to 4,750 downwards, and from 4,250 to 4,750 upwards. -/
theorem test_set_point_ramp :
    let r : TmpRecord := ⟨true, false, 0, false, false, 0, 0, 50, 0, 3000, 1000, 500, 0, 0, 0, 65535, 0, 1, 0, 0, 0⟩
    slewed r (5000 * 65536) = 4750 * 65536 ∧ slewed { r with setpoint := 6000 } (4250 * 65536) = 4750 * 65536 := by decide

/-- A record of 6 or of 7 payload words takes one cell. -/
theorem test_records_take_one_cell : cellsOf 6 = 1 ∧ cellsOf 7 = 1 ∧ cellsOf 16 = 2 := by decide

/-- The length word of a packet (R435): the payload words in bits 12:0, PRIO in 18:16, KIND in 31:24. -/
theorem test_length_word : Packet.lengthWord ⟨0, 0x21, 5, 0, [1, 2, 3]⟩ = 0x21050003 := by decide

/-- The table of R329: under MAX_PSDU 80 a dense frame of one-value nodes holds 21, a sparse one 14. -/
theorem test_level_frame_lengths :
    let node := fun (i : Nat) => (⟨⟨i, false, [0], 0, 0⟩, 0⟩ : Packable)
    levelPsdu ((List.range 21).map node) = 80 ∧ levelPsdu ((List.range 14).map fun i => node (2 * i)) = 80 := by decide +kernel

/-- The power cut: B takes epoch 0x4D with rank 1, claim 0x0000_4D01. -/
theorem test_claim_after_the_power_cut :
    (paired.wrAll [(CLM_EPOCH, 0x4D), (CLM_CFG_RANK, 1)]).claimNow = 0x4D01 := by decide +kernel

/-- R18: calendar count 0 is 2000-01-01; the worked example of the alarms: count 828,079,200 is 2026-03-29 06:00:00, WEEKDAY 6. -/
theorem test_dates :
    fieldsOf 0 = ⟨0, 0, 0, ⟨2000, 1, 1, 5⟩⟩ ∧ fieldsOf 828079200 = ⟨0, 0, 6, ⟨2026, 3, 29, 6⟩⟩ := by decide

/-- The walk up the ramp: two speeds of 250 and 261 at ALPHA 8 give 256 cm/s. -/
theorem test_smoothed_speed :
    (ready.wr DRF_WALKER_ALPHA 8).smoothed ⟨17, true, 401, some 400, 0, 250, 2, 17, none⟩ 261 = 256 := by decide +kernel

/-- FIPS 180-4: the hash of "abc". -/
theorem test_sha256_abc :
    sha256 [0x61, 0x62, 0x63] = beOctets 32 0xba7816bf8f01cfea414140de5dae2223b00361a396177a9cb410ff61f20015ad := by decide +kernel

/-- FIPS 197, appendix C.1. -/
theorem test_aes_block :
    aes (List.range 16) ((List.range 16).map (17 * ·)) = beOctets 16 0x69c4e0d86a7b0430d8cdb78070b4c55a := by decide +kernel

/-- RFC 4493, examples 1 and 2. -/
theorem test_cmac :
    cmac (beOctets 16 0x2b7e151628aed2a6abf7158809cf4f3c) [] = beOctets 16 0xbb1d6929e95937287fa37d129b756746 ∧
    cmac (beOctets 16 0x2b7e151628aed2a6abf7158809cf4f3c) (beOctets 16 0x6bc1bee22e409f96e93d7e117393172a) =
      beOctets 16 0x070a16b46b4d4144f79bdd9dd04a287c := by decide +kernel

/-- R560: the data of the 28th codeword of a run end at octet 448, and the check bits follow. -/
theorem test_dram_run : dramData 27 + 16 = 448 ∧ dramCheck 0 = 448 ∧ dramCheck 27 + 2 = 504 ∧ dramData 28 = 512 := by decide

/-- R501: a monitor that trips while armed and enabled is latched. -/
theorem test_monitor_trip_is_latched :
    answers (.tamperMonitorTrip 1 true false) (ready.wrAll [(TPR_MON_CFG_EN, 7)]) (fun t => bitAt (t.rd TPR_LATCH_MON) 1) = true := by
  decide +kernel

/-! ### Premises: for each statement with premises, a state and operands that meet those of each clause -/

theorem witness_HostLinkEvents :
    (∃ (s : State), s.atWork 0x01 = true ∧ s.rd HIF_STATUS_LRP_CLK = 1) ∧
    (∃ (s : State), s.atWork 0x01 = true) ∧
    (∃ (s : State) (width : Nat) (speed : Nat), s.atWork 0x01 = true ∧ WellFormed (.pcieLinkUp width speed)) ∧
    (∃ (s : State), s.atWork 0x01 = true ∧ s.rd HIF_STATUS_LINK_UP = 1) :=
  ⟨⟨ready.wr HIF_STATUS_LRP_CLK 1, by decide +kernel, by decide +kernel⟩,
   ⟨ready, by decide +kernel⟩,
   ⟨ready, 2, 3, by decide +kernel, by unfold WellFormed; decide +kernel⟩,
   ⟨ready.wr HIF_STATUS_LINK_UP 1, by decide +kernel, by decide +kernel⟩⟩

theorem witness_MsixMessages :
    (∃ (s : State) (v : Option Nat) (masked : Bool) (bme : Bool) (en : Bool) (fmask : Bool) (mse : Bool) (bar0 : Nat) (bar2 : Nat), s.atWork 0x01 = true ∧ WellFormed (.msixUnmask v masked bme en fmask mse bar0 bar2) ∧ (bme = true ∨ s.rd HIF_STATUS_BME = 0 ∨ s.rd HDM_CTRL_EN = 0)) ∧
    (∃ (s : State) (v : Option Nat) (masked : Bool) (en : Bool) (fmask : Bool) (mse : Bool) (bar0 : Nat) (bar2 : Nat), s.atWork 0x01 = true ∧ WellFormed (.msixUnmask v masked false en fmask mse bar0 bar2) ∧ s.rd HIF_STATUS_BME = 1 ∧ s.rd HDM_CTRL_EN = 1) ∧
    (∃ (s : State) (port : Port) (v : Nat), s.atWork 0x01 = true ∧ WellFormed (.hifEoi port v) ∧ s.aggregate v = true) :=
  ⟨⟨ready, some 31, true, true, true, true, true, 0xFFFFFFFF, 0xFFFFFFFFFFFFFFFF, by decide +kernel, by unfold WellFormed; decide +kernel, by decide +kernel⟩,
   ⟨(ready.wrAll [(HIF_STATUS_BME, 1), (HDM_CTRL_EN, 1)]), none, true, true, true, true, 0, 0, by decide +kernel, by unfold WellFormed; decide +kernel, by decide +kernel, by decide +kernel⟩,
   ⟨(ready.wrAll [(NOTE_RAW 0x01, 1), (NOTE_EN 0x01, 1), (HIF_ROUTE 0, 63 * 256)]), .pcie, 31, by decide +kernel, by unfold WellFormed; decide +kernel, by decide +kernel⟩⟩

theorem witness_TransactionOperations :
    (∃ (s : State) (port : Port) (k : Nat), s.atWork 0x01 = true ∧ WellFormed (.txnOpen port k)) ∧
    (∃ (s : State) (port : Port) (k : Nat), s.atWork 0x01 = true ∧ WellFormed (.txnSelect port k)) ∧
    (∃ (s : State), s.atWork 0x01 = true) ∧
    (∃ (s : State) (port : Port) (k : Nat) (c : Nat), s.atWork 0x01 = true ∧ WellFormed (.txnCommit port k c)) ∧
    (∃ (s : State) (port : Port) (k : Nat), s.atWork 0x01 = true ∧ WellFormed (.txnAbort port k)) :=
  ⟨⟨ready, .pcie, 3, by decide +kernel, by unfold WellFormed; decide +kernel⟩,
   ⟨ready, .pcie, 3, by decide +kernel, by unfold WellFormed; decide +kernel⟩,
   ⟨ready, by decide +kernel⟩,
   ⟨ready, .pcie, 3, 0, by decide +kernel, by unfold WellFormed; decide +kernel⟩,
   ⟨ready, .pcie, 3, by decide +kernel, by unfold WellFormed; decide +kernel⟩⟩

theorem witness_ConflictAbortsTheOtherPort : (∃ s : State, ∃ x ∈ (s.port .lrp).tags, (x.isOpen && x.stages false 0x01000) = true) ∧ ∀ x ∈ (ready.port .lrp).tags, (x.isOpen && x.stages false 0x01000) = false :=
  ⟨⟨tagged ⟨.opened, [⟨false, 0x01000, 0, 15⟩], 0, 0, 0⟩, _, List.mem_of_getElem? (i := 3) rfl, by decide +kernel⟩, by decide +kernel⟩

theorem witness_HostAccesses :
    (∃ (s : State) (addr : Nat) (value : Nat) (be : Nat), WellFormed (.lrpWrite addr value be) ∧ s.portTakes .lrp = true ∧ (s.lrp.posted ≠ [] ∨ s.wouldStage .lrp ⟨false, addr, value, be⟩ = false)) ∧
    (∃ (s : State) (addr : Nat) (value : Nat), WellFormed (.bar0Write addr value true) ∧ addr % 4 = 0 ∧ s.portTakes .pcie = true ∧ (s.pcie.posted ≠ [] ∨ s.wouldStage .pcie ⟨false, addr, value, 15⟩ = false)) ∧
    (∃ (s : State) (addr : Nat) (value : Nat) (be : Nat), WellFormed (.lrpWrite addr value be) ∧ s.portTakes .lrp = true ∧ s.lrp.posted = [] ∧ s.lrp.committing = false ∧ s.wouldStage .lrp ⟨false, addr, value, be⟩ = true ∧ winDataOf addr = none ∧ (s.lrp.tag s.lrp.curTag).state = .opened) ∧
    (∃ (s : State) (addr : Nat) (value : Nat), WellFormed (.bar0Write addr value true) ∧ addr % 4 = 0 ∧ s.portTakes .pcie = true ∧ s.pcie.posted = [] ∧ s.pcie.committing = false ∧ s.wouldStage .pcie ⟨false, addr, value, 15⟩ = true ∧ winDataOf addr = none ∧ (s.pcie.tag s.pcie.curTag).state = .opened) ∧
    (∃ (s : State) (addr : Nat) (whole : Bool), s.atWork 0x01 = true ∧ (whole = false ∨ addr % 4 ≠ 0)) ∧
    (∃ (s : State) (addr : Nat) (whole : Bool), s.atWork 0x01 = true ∧ (whole = false ∨ addr % 4 ≠ 0)) ∧
    (∃ (s : State) (addr : Nat) (v : Nat) (be : Nat), s.portTakes .pcie = true ∧ WellFormed (.bar2Access true addr [(v, be)]) ∧ be ≠ 15 ∧ s.pcie.posted.length < 64) ∧
    (∃ (s : State) (addr : Nat) (v : Nat), s.portTakes .pcie = true ∧ WellFormed (.bar2Access true addr [(v, 15)]) ∧ s.pcie.posted ≠ [] ∧ s.pcie.posted.length < 63) ∧
    (∃ (s : State) (o : Nat) (v : Nat), s.portTakes .pcie = true ∧ s.atWork 0x0A = true ∧ o < 0x4000 ∧ o % 4 = 0 ∧ o % 1024 < 512 ∧ v < 2 ^ 32 ∧ s.pcie.posted = [] ∧ s.pcie.committing = false ∧ s.pcie.selected = false) ∧
    (∃ (s : State) (addr : Nat) (v : Nat) (be : Nat), s.portTakes .pcie = true ∧ WellFormed (.bar2Access false addr [(v, be)]) ∧ s.live (addr / 0x1000000) = true ∧ addr / 0x1000000 ≠ 0x1A) ∧
    (∃ (s : State) (words : List (Nat × Nat)), s.portTakes .pcie = true ∧ 256 < enabledBytes words) ∧
    (∃ (s : State) (port : Port) (v : Nat), s.portTakes port = true ∧ s.pageRuns 0x01 = true ∧ WellFormed (.hifFenceWrite port v) ∧ (s.port port).posted = [] ∧ (s.port port).committing = false) :=
  ⟨⟨ready, 0x3FFFC, 0xFFFFFFFF, 15, by unfold WellFormed; decide +kernel, by decide +kernel, by decide +kernel⟩,
   ⟨ready, 0x3FFFC, 0, by unfold WellFormed; decide +kernel, by decide +kernel, by decide +kernel, by decide +kernel⟩,
   ⟨opening, SHP_CTRL_EN.addr, 1, 15, by and_intros <;> first | decide +kernel | (unfold WellFormed; decide +kernel)⟩,
   ⟨opening, SHP_CTRL_EN.addr, 1, by and_intros <;> first | decide +kernel | (unfold WellFormed; decide +kernel)⟩,
   ⟨ready, 2, true, by decide +kernel, by decide +kernel⟩,
   ⟨ready, 0, false, by decide +kernel, by decide +kernel⟩,
   ⟨ready, 0x3FFFFFFC, 0, 14, by decide +kernel, by unfold WellFormed; decide +kernel, by decide +kernel, by decide +kernel⟩,
   ⟨(posting 62), 0x3FFFFFFC, 0, by decide +kernel, by unfold WellFormed; decide +kernel, by decide +kernel, by decide +kernel⟩,
   ⟨ready, 0x3DFC, 0xFFFFFFFF, by and_intros <;> decide +kernel⟩,
   ⟨ready, 0x0A003DFC, 0, 14, by decide +kernel, by unfold WellFormed; decide +kernel, by decide +kernel, by decide +kernel⟩,
   ⟨ready, List.replicate 65 (0, 15), by decide +kernel, by decide +kernel⟩,
   ⟨ready, .pcie, 0xFFFFFFFF, by and_intros <;> first | decide +kernel | (unfold WellFormed; decide +kernel)⟩⟩

theorem witness_DeliveryAndCommit :
    (∃ (s : State) (port : Port) (w : PortWrite) (l : List PortWrite), (s.port port).posted = w :: l ∧ s.blocked port w = false) ∧
    (∃ (s : State) (port : Port) (w : PortWrite) (l : List PortWrite), (s.port port).posted = w :: l ∧ s.blocked port w = true) ∧
    (∃ (s : State) (port : Port) (addr : Nat) (v : Nat) (l : List PortWrite), (∃ p ∈ [0x03, 0x06, 0x0A, 0x0B, 0x22], ∃ f ∈ pageFields p, f.addr = addr) ∧ winDataOf addr = none ∧ v < 2 ^ 32 ∧ (s.port port).posted = ⟨false, addr, v, 15⟩ :: l ∧ (s.port port).committing = false ∧ (s.port port).selected = false ∧ s.live (addr / 0x1000) = true ∧ s.pageRuns (addr / 0x1000) = true) ∧
    (∃ (s : State) (c : Nat), s.atWork 0x01 = true ∧ ((∀ (p : Port) (k : Nat), k < 4 → ((s.port p).tag k).state = .committing → (s.reach c).time.raw < ((s.port p).tag k).tick * 250))) ∧
    (∃ (s : State) (c : Nat) (k : Nat) (port : Port), s.atWork 0x01 = true ∧ k < 4 ∧ ((s.port port).tag k).state = .committing ∧ ((s.port port).tag k).staged = [] ∧ ((s.port port).tag k).tick * 250 ≤ (s.reach c).time.raw ∧ ((∀ (p : Port) (j : Nat), j < 4 → ((s.port p).tag j).state = .committing → p = port ∧ j = k))) ∧
    (∃ (s : State) (c : Nat) (k : Nat) (addr : Nat) (v : Nat) (port : Port), s.atWork 0x01 = true ∧ k < 4 ∧ ((s.port port).tag k).state = .committing ∧ (∃ p ∈ [0x03, 0x06, 0x0A, 0x0B, 0x22], ∃ f ∈ pageFields p, f.addr = addr) ∧ winDataOf addr = none ∧ v < 2 ^ 32 ∧ s.live (addr / 0x1000) = true ∧ s.pageRuns (addr / 0x1000) = true ∧ ((s.port port).tag k).staged = [⟨false, addr, v, 15⟩] ∧ ((s.port port).tag k).tick * 250 ≤ (s.reach c).time.raw ∧ ((∀ (p : Port) (j : Nat), j < 4 → ((s.port p).tag j).state = .committing → p = port ∧ j = k))) :=
  ⟨⟨(posting 1), .pcie, ⟨false, 0x01100, 0, 15⟩, [], by decide +kernel, by decide +kernel⟩,
   ⟨{ tagged ⟨.committing, [], 0, 0, 0⟩ with pcie := { (tagged ⟨.committing, [], 0, 0, 0⟩).lrp with posted := [⟨false, 0x01100, 0, 15⟩] } }, .pcie, ⟨false, 0x01100, 0, 15⟩, [], by decide +kernel, by decide +kernel⟩,
   ⟨{ ready with pcie := { ready.pcie with posted := [⟨false, SHP_CTRL_EN.addr, 1, 15⟩] } }, .pcie, SHP_CTRL_EN.addr, 1, [], by and_intros <;> decide +kernel⟩,
   ⟨tagged ⟨.committing, [], 0, 0, 0⟩, 249, by decide +kernel, by intro p; cases p <;> decide +kernel⟩,
   ⟨tagged ⟨.committing, [], 0, 0, 0⟩, 250, 3, .lrp, by and_intros <;> first | decide +kernel | (intro p; cases p <;> decide +kernel)⟩,
   ⟨tagged ⟨.committing, [⟨false, SHP_CTRL_EN.addr, 1, 15⟩], 0, 0, 0⟩, 250, 3, SHP_CTRL_EN.addr, 1, .lrp, by and_intros <;> first | decide +kernel | (intro p; cases p <;> decide +kernel)⟩⟩

theorem witness_LatchingReads :
    (∃ (s : State) (port : Port) (b : Nat) (r : ResultBlock), resultBlocks[b]? = some r ∧ s.mirrorValid port = true ∧ s.live r.page = true) ∧
    (∃ (s : State) (port : Port) (b : Nat) (r : ResultBlock) (l : BlockLatch), resultBlocks[b]? = some r ∧ s.mirrorValid port = true ∧ s.live r.page = true ∧ (s.port port).latch r = some l) ∧
    (∃ (s : State) (port : Port), s.mirrorValid port = true) ∧
    (∃ (s : State) (port : Port) (f : Field), f ∈ winAddrs ∧ s.mirrorValid port = true ∧ s.live (f.addr / 0x1000) = true) ∧
    (∃ (s : State) (port : Port) (addr : Nat), WellFormed (.rcRead port addr) ∧ addr % 4 = 0 ∧ s.mirrorValid port = true ∧ s.live (addr / 0x1000) = true ∧ ¬(0x1A100 ≤ addr ∧ addr < 0x1A300 ∧ addr % 0x20 = 8) ∧ latchingLo.contains addr = false ∧ winDataOf addr = none ∧ blockOfSeq addr = none ∧ blockOf addr = none ∧ addr % 0x1000 ≠ 0x20 ∧ Sparse.get (s.port port).hiLatches addr = none) ∧
    (∃ (addr : Nat), WellFormed (.bar0Read addr true) ∧ addr % 4 = 0) :=
  ⟨⟨ready, .pcie, 22, ⟨0x22, 0, 0x2201C, 0x22100, 0x22110⟩, by and_intros <;> decide +kernel⟩,
   ⟨{ ready with pcie := { ready.pcie with latches := [⟨0x07, 0, 0, true, []⟩] } }, .pcie, 0, ⟨0x07, 0, 0x0701C, 0x07100, 0x07118⟩, ⟨0x07, 0, 0, true, []⟩, by and_intros <;> decide +kernel⟩,
   ⟨ready, .pcie, by decide +kernel⟩,
   ⟨ready, .pcie, GRG_WIN_ADDR_OFFSET, by and_intros <;> decide +kernel⟩,
   ⟨ready, .pcie, 0x22FFC, by and_intros <;> first | decide +kernel | (unfold WellFormed; decide +kernel)⟩,
   ⟨0x3FFFC, by unfold WellFormed; decide +kernel, by decide +kernel⟩⟩

theorem witness_SupplyAndTemperature :
    (∃ (s : State), s.startup.phase ≠ .unpowered ∧ s.startup.phase ≠ .hold) ∧
    (∃ (s : State), s.startup.phase = .hold) ∧
    (∃ (s : State), s.startup.vin = false) ∧
    (∃ (s : State) (v : Nat), s.atWork 0x00 = true ∧ WellFormed (.dieHot v)) ∧
    (∃ (s : State) (v : Nat), s.atWork 0x00 = true ∧ WellFormed (.dieHotEnd v)) ∧
    (∃ (s : State) (v : Nat), s.atWork 0x00 = true ∧ WellFormed (.paInhibit v)) ∧
    (∃ (s : State) (v : Nat), s.atWork 0x00 = true ∧ WellFormed (.paInhibitEnd v)) :=
  ⟨⟨ready, by decide +kernel, by decide +kernel⟩,
   ⟨at_ .hold 11 .cold, by decide +kernel⟩,
   ⟨{ ready with startup := { ready.startup with vin := false } }, by decide +kernel⟩,
   ⟨ready, 0xFFFF, by decide +kernel, by unfold WellFormed; decide +kernel⟩,
   ⟨ready, 0, by decide +kernel, by unfold WellFormed; decide +kernel⟩,
   ⟨ready, 0xFFFF, by decide +kernel, by unfold WellFormed; decide +kernel⟩,
   ⟨ready, 0, by decide +kernel, by unfold WellFormed; decide +kernel⟩⟩

theorem witness_ResetsAndTheirCauses :
    (∃ (s : State), s.startup.phase ≠ .unpowered ∧ s.startup.phase ≠ .hold ∧ s.startup.phase ≠ .inReset) ∧
    (∃ (s : State), (s.startup.phase = .unpowered ∨ s.startup.phase = .hold ∨ s.startup.phase = .inReset)) ∧
    (∃ (s : State), s.atWork 0x00 = true) ∧
    (∃ (s : State) (port : Port) (key : Nat), s.atWork 0x00 = true ∧ WellFormed (.sysResetWarm port key) ∧ key ≠ 0x2B1D) ∧
    (∃ (s : State), s.startup.phase = .unpowered) ∧
    (∃ (s : State), s.startup.phase = .hold ∧ s.startup.vin = false) ∧
    (∃ (s : State) (c : Nat), s.startup.phase = .hold ∧ s.startup.vin = true ∧ s.startup.wake = some c ∧ c < 8) ∧
    (∃ (s : State), s.startup.phase = .hold ∧ s.startup.vin = true ∧ s.startup.wake = none) ∧
    (∃ (s : State), s.startup.phase = .inReset ∧ s.startup.line = 2 ∧ s.startup.kind ≠ .holdWake) ∧
    (∃ (s : State), s.startup.phase = .inReset ∧ s.startup.line = 2 ∧ s.startup.kind = .holdWake ∧ s.startup.holdByRequest = true) ∧
    (∃ (s : State), (s.startup.phase ≠ .inReset ∨ s.startup.line ≠ 2)) ∧
    (∃ (s : State) (line : Nat), WellFormed (.supWatchdogReset line) ∧ s.starting s.startup.kind = true ∧ s.startup.watchdogRuns < 3) ∧
    (∃ (s : State) (line : Nat), WellFormed (.supWatchdogReset line) ∧ s.starting s.startup.kind = true ∧ 3 ≤ s.startup.watchdogRuns) :=
  ⟨⟨ready, by and_intros <;> decide +kernel⟩,
   ⟨at_ .hold 11 .cold, by decide +kernel⟩,
   ⟨ready, by decide +kernel⟩,
   ⟨ready, .pcie, 0x2B1C, by decide +kernel, by unfold WellFormed; decide +kernel, by decide +kernel⟩,
   ⟨at_ .unpowered 0 .cold, by decide +kernel⟩,
   ⟨{ at_ .hold 11 .cold with startup := { (at_ .hold 11 .cold).startup with vin := false } }, by decide +kernel, by decide +kernel⟩,
   ⟨{ at_ .hold 11 .cold with startup := { (at_ .hold 11 .cold).startup with wake := some 7 } }, 7, by and_intros <;> decide +kernel⟩,
   ⟨at_ .hold 11 .cold, by and_intros <;> decide +kernel⟩,
   ⟨at_ .inReset 2 .warm, by and_intros <;> decide +kernel⟩,
   ⟨{ at_ .inReset 2 .holdWake with startup := { (at_ .inReset 2 .holdWake).startup with holdByRequest := true } }, by and_intros <;> decide +kernel⟩,
   ⟨ready, by decide +kernel⟩,
   ⟨at_ .phaseA 3 .warm, 11, by unfold WellFormed; decide +kernel, by decide +kernel, by decide +kernel⟩,
   ⟨{ at_ .phaseA 3 .warm with startup := { (at_ .phaseA 3 .warm).startup with watchdogRuns := 3 } }, 1, by unfold WellFormed; decide +kernel, by decide +kernel, by decide +kernel⟩⟩

theorem witness_StartLines :
    (∃ (s : State) (n : Nat), s.startup.line + 1 = n ∧ n ≤ 11) ∧
    (∃ (s : State), s.startup.line = 10) ∧
    (State.reset.starting .cold = true ∧ State.reset.startup.line = 0 ∧ (∀ n ∈ [1, 2, 3, 5, 6, 9, 10], (at_ .phaseA n .warm).starting .warm = true ∧ (at_ .phaseA n .warm).startup.line = n) ∧ (at_ .inReset 2 .warm).startup.carrierRst = false ∧ (∃ f : StartFound, f.tampered = true ∧ (f.badHelper.contains 0 && f.badHelper.contains 1) = true ∧ 2500 < f.flips) ∧ (∃ s : State, s.startup.line = 6 ∧ s.starting .warm = true ∧ s.modes.life ≠ .scrapped ∧ s.hpn.helper = some enrolled) ∧ (∃ s : State, s.startup.line = 6 ∧ s.starting .warm = true ∧ s.modes.life ≠ .scrapped ∧ s.hpn.helper = none ∧ s.modes.life ≠ .blank) ∧ (clean.badHelper.contains 0 && clean.badHelper.contains 1) = false ∧ clean.flips ≤ 2500 ∧ (at_ .phaseA 3 .warm).bootGood [] [] 0 ((at_ .phaseA 3 .warm).activeBank 0) = true ∧ (at_ .phaseC 9 .warm).bootGood [] [0] 1 (2 + (at_ .phaseC 9 .warm).activeBank 1) = true ∧ (at_ .phaseC 9 .warm).bootGood [] [0, 1] 2 (4 + (at_ .phaseC 9 .warm).activeBank 2) = true) ∧
    (∃ (s : State), s.starting .warm = true ∧ s.startup.line = 2 ∧ s.startup.carrierRst = false) :=
  ⟨⟨at_ .phaseC 10 .warm, 11, by decide +kernel, by decide +kernel⟩,
   ⟨at_ .phaseC 10 .warm, by decide +kernel⟩,
   ⟨by decide +kernel, by decide +kernel, by decide +kernel, by decide +kernel,
    ⟨{ clean with tampered := true, badHelper := [0, 1], flips := 2501 }, by and_intros <;> decide +kernel⟩,
    ⟨{ at_ .phaseB 6 .warm with hpn := { HpnUnit.empty with helper := some enrolled } }, by and_intros <;> first | rfl | decide +kernel⟩,
    ⟨{ at_ .phaseB 6 .warm with modes := light.modes, hpn := { HpnUnit.empty with helper := none } }, by and_intros <;> decide +kernel⟩,
    by decide +kernel, by decide +kernel, by decide +kernel, by decide +kernel, by decide +kernel⟩,
   ⟨at_ .inReset 2 .warm, by and_intros <;> decide +kernel⟩⟩

theorem witness_DecisionStep :
    (∃ (s : State), s.modeReqs = [] ∧ s.modeWaiting = [] ∧ s.deferred = [] ∧ s.grg.campaign = none) ∧
    (∃ (s : State) (v : Power) (c : Nat) (o : Nat), s.mayDecide = true ∧ s.modeWaiting = [] ∧ s.modeReqs = [⟨.power v, c, o⟩] ∧ s.deferred = []) ∧
    (∃ (s : State), s.mayDecide = true ∧ s.modeWaiting = [] ∧ s.modeReqs = [⟨.tamper .alarm, 0, 0⟩] ∧ s.deferred = [] ∧ s.modes.tamper = .clear) ∧
    (∃ (s : State) (v : SieveMode) (c : Nat) (o : Nat), s.mayDecide = true ∧ s.modeWaiting = [] ∧ s.modeReqs = [⟨.sieve v, c, o⟩] ∧ s.deferred = [] ∧ v ≠ .full) :=
  ⟨⟨ready, by and_intros <;> decide +kernel⟩,
   ⟨{ ready with modeReqs := [⟨.power .quiet, 1, 2⟩] }, .quiet, 1, 2, by and_intros <;> decide +kernel⟩,
   ⟨{ ready with modeReqs := [⟨.tamper .alarm, 0, 0⟩] }, by and_intros <;> decide +kernel⟩,
   ⟨{ ready with modeReqs := [⟨.sieve .sliced, 0, 0⟩] }, .sliced, 0, 0, by and_intros <;> decide +kernel⟩⟩

theorem witness_ModeMatrixOfPower : (at_ .phaseC 10 .warm).startup.line < 11 ∧ 11 ≤ ready.startup.line ∧ ready.modes.life ≠ .scrapped ∧ ready.modes.role = .solo ∧ (inMode ⟨.run, .swapping, .scrapped, .off, .idle, .clear, .free⟩).modes.life = .scrapped ∧ (inMode ⟨.run, .swapping, .deployed, .off, .idle, .clear, .free⟩).modes.role = .swapping :=
  by decide +kernel

theorem witness_ModeRequestsAndDomains :
    (∃ (s : State) (port : Port) (v : Nat), s.atWork 0x00 = true ∧ WellFormed (.sysPowerReq port v)) ∧
    (∃ (s : State) (port : Port) (v : Nat), s.atWork 0x1F = true ∧ WellFormed (.sivModeReq port v)) ∧
    (∃ (s : State) (d : Nat), WellFormed (.domainStartOnDemand d) ∧ s.inService = true ∧ s.deferred = []) ∧
    (∃ (d : Nat), WellFormed (.domainIdleStop d)) ∧
    ((inMode ⟨.doze, .solo, .blank, .off, .idle, .clear, .free⟩).modes.power = .doze ∧ (inMode ⟨.doze, .solo, .blank, .off, .idle, .clear, .free⟩).startup.phase = .ready ∧ 6 ∈ pageDomains 0x10 ∧ (dozeState 6).isSome = true) :=
  ⟨⟨ready, .pcie, 3, by decide +kernel, by unfold WellFormed; decide +kernel⟩,
   ⟨ready, .pcie, 3, by decide +kernel, by unfold WellFormed; decide +kernel⟩,
   ⟨ready, 13, by unfold WellFormed; decide +kernel, by decide +kernel, by decide +kernel⟩,
   ⟨13, by unfold WellFormed; decide +kernel⟩,
   by and_intros <;> decide +kernel⟩

theorem witness_TrialsRollbackAndPerst :
    (∃ (s : State), (s.grg.trial = none ∨ s.refRuns = false)) ∧
    (∃ (s : State) (p : Nat) (at_ : Nat), s.grg.trial = some (p, at_) ∧ p < 3 ∧ s.refRuns = true) ∧
    (∃ (s : State) (p : Nat), s.atWork 0x20 = true ∧ p < 4 ∧ s.startup.phase = .halted false) ∧
    (∃ (s : State) (p : Nat), s.atWork 0x20 = true ∧ p < 4 ∧ s.startup.phase ≠ .halted false) ∧
    (∃ (s : State), s.atWork 0x01 = true) :=
  ⟨⟨ready, by decide +kernel⟩,
   ⟨{ ready with grg := { ready.grg with trial := some (2, 0) } }, 2, 0, by and_intros <;> decide +kernel⟩,
   ⟨at_ (.halted false) 4 .warm, 3, by and_intros <;> decide +kernel⟩,
   ⟨ready, 3, by and_intros <;> decide +kernel⟩,
   ⟨ready, by decide +kernel⟩⟩

theorem witness_RadioFrontEnds :
    (∃ (s : State) (port : Port) (k : Nat) (freq : Nat) (lost : Nat), s.atWork 0x02 = true ∧ WellFormed (.chainRetune port k freq lost)) ∧
    (∃ (s : State) (k : Nat) (att : Nat) (inFrame : Bool), s.atWork 0x02 = true ∧ WellFormed (.agcStep k att inFrame)) ∧
    (∃ (s : State) (k : Nat) (att : Nat) (lost : Nat), s.atWork 0x02 = true ∧ WellFormed (.adcClipAgcStep k att lost)) ∧
    (∃ (s : State) (n : Nat) (sfd : Nat) (ends : Nat) (rssi : Nat) (lqi : Nat) (check : FrameCheck) (m : MeshFrame), s.atWork 0x03 = true ∧ WellFormed (.chnFrameReceived n sfd ends rssi lqi check m)) ∧
    (∃ (s : State), s.atWork 0x02 = true) ∧
    (∃ (s : State) (e : Nat) (ch : Nat) (b : Budget), WellFormed (.budgetBucketAdvance e ch) ∧ findBudget s.mac.budgets (budgetNo e ch) = some b) :=
  ⟨⟨ready, .pcie, 1, 946200, 1, by decide +kernel, by unfold WellFormed; decide +kernel⟩,
   ⟨ready, 1, 15, true, by decide +kernel, by unfold WellFormed; decide +kernel⟩,
   ⟨ready, 1, 15, 1, by decide +kernel, by unfold WellFormed; decide +kernel⟩,
   ⟨ready, 127, 0, 0, 255, 255, .good, meshFrame, by decide +kernel, by unfold WellFormed; decide +kernel⟩,
   ⟨ready, by decide +kernel⟩,
   ⟨{ ready with mac := { ready.mac with budgets := [⟨31, 127, 0, [5], 0, 0, []⟩] } }, 31, 127, ⟨31, 127, 0, [5], 0, 0, []⟩, by unfold WellFormed; decide +kernel, by decide +kernel⟩⟩

theorem witness_NodeTableCommands :
    (∃ (s : State) (i : Nat), s.atWork 0x05 = true ∧ i < 8192 ∧ s.rd NTB_CTRL_EN = 1 ∧ s.entByte i = 0 ∧ s.entType i ≠ 0 ∧ ((s.entType i = 1 → ∀ j ∈ s.usedEntries, j ≠ i → s.entType j = 1 → s.entExt j ≠ s.entExt i))) ∧
    (∃ (s : State) (i : Nat), s.atWork 0x05 = true ∧ i < 8192 ∧ s.rd NTB_CTRL_EN = 1 ∧ s.entByte i ≠ 0) ∧
    (∃ (s : State) (i : Nat), s.atWork 0x05 = true ∧ i < 8192 ∧ s.rd NTB_CTRL_EN = 1 ∧ s.entByte i = 5) ∧
    (∃ (s : State) (i : Nat), s.atWork 0x05 = true ∧ i < 8192 ∧ s.rd NTB_CTRL_EN = 1) ∧
    (∃ (s : State) (i : Nat), s.atWork 0x05 = true ∧ i < 8192 ∧ s.rd NTB_CTRL_EN = 1) ∧
    (∃ (s : State) (port : Port) (i : Nat) (c : Instr), s.atWork 0x05 = true ∧ i < 8192 ∧ s.rd NTB_CTRL_EN = 1 ∧ ((c = .ntbProvision port i ∧ s.entByte i ≠ 0) ∨ (c = .ntbBlock port i ∧ s.entByte i = 0) ∨ (c = .ntbUnblock port i ∧ s.entByte i ≠ 5))) ∧
    (∃ (s : State) (port : Port) (i : Nat) (c : Instr), s.atWork 0x05 = true ∧ i < 8192 ∧ s.rd NTB_CTRL_EN = 0 ∧ c ∈ [.ntbProvision port i, .ntbBlock port i, .ntbUnblock port i, .ntbFree port i, .ntbClearHealth port i]) :=
  ⟨⟨(((ready.wr NTB_CTRL_EN 1).setEnt 8191 0x0A 1 1)), 8191, by and_intros <;> decide +kernel⟩,
   ⟨node 8191 5 1, 8191, by and_intros <;> decide +kernel⟩,
   ⟨node 8182 5 1, 8182, by and_intros <;> decide +kernel⟩,
   ⟨node 8183 5 1, 8183, by and_intros <;> decide +kernel⟩,
   ⟨node 8184 5 1, 8184, by and_intros <;> decide +kernel⟩,
   ⟨node 8191 1 1, .pcie, 8191, .ntbProvision .pcie 8191, by and_intros <;> decide +kernel⟩,
   ⟨ready, .pcie, 8191, .ntbClearHealth .pcie 8191, by and_intros <;> decide +kernel⟩⟩

theorem witness_NodeTableLookupAndWrites :
    (∃ (s : State) (port : Port) (w : Nat), s.atWork 0x05 = true ∧ WellFormed (.ntbFind port w) ∧ s.rd NTB_CTRL_EN = 1) ∧
    (∃ (s : State) (port : Port) (off : Nat) (w : Nat), s.atWork 0x05 = true ∧ WellFormed (.nodeEntryWrite port off w)) :=
  ⟨⟨ready.wr NTB_CTRL_EN 1, .pcie, 0xFFFFFFFF, by decide +kernel, by unfold WellFormed; decide +kernel, by decide +kernel⟩,
   ⟨ready, .pcie, 0x1FFFFF, 0xFFFFFFFF, by decide +kernel, by unfold WellFormed; decide +kernel⟩⟩

theorem witness_MeshTransmission :
    (∃ (s : State), s.atWork 0x04 = true) ∧
    (∃ (s : State), s.atWork 0x04 = true ∧ s.rd MAC_CTRL_EN = 0 ∧ s.grg.campaign = none) ∧
    (∃ (s : State), s.atWork 0x04 = true ∧ s.rd MAC_CTRL_EN = 1 ∧ s.grg.campaign = none) ∧
    (∃ (s : State) (c : Nat), s.atWork 0x02 = true ∧ c < 4) ∧
    (∃ (s : State) (c : Nat), s.atWork 0x02 = true ∧ c < 4 ∧ s.grg.campaign = none) :=
  ⟨⟨ready, by decide +kernel⟩,
   ⟨ready, by and_intros <;> decide +kernel⟩,
   ⟨ready.wr MAC_CTRL_EN 1, by and_intros <;> decide +kernel⟩,
   ⟨ready, 3, by decide +kernel, by decide +kernel⟩,
   ⟨ready, 3, by and_intros <;> decide +kernel⟩⟩

theorem witness_MeshReception :
    (∃ (s : State), s.atWork 0x04 = true ∧ s.mac.frameBuf = []) ∧
    (∃ (s : State) (f : RxFrame) (rest : List RxFrame), s.atWork 0x04 = true ∧ s.mac.frameBuf = f :: rest) ∧
    (∃ (s : State) (f : RxFrame) (rest : List RxFrame) (i : Nat), s.atWork 0x04 = true ∧ s.mac.frameBuf = f :: rest ∧ s.rd MAC_CTRL_EN = 1 ∧ s.rxWindow f.sfd = true ∧ s.macMalformed f.frame = false ∧ f.frame.pan = s.rd MAC_PAN_PAN_ID ∧ f.frame.kind = 1 ∧ s.macAddressed f.frame.dst = true ∧ 6 ≤ f.frame.secLevel ∧ f.frame.src = .short (0x0100 + i) ∧ i < 8192 ∧ s.entByte i ≠ 0 ∧ s.entType i = 1) ∧
    (∃ (s : State), s.atWork 0x04 = true) ∧
    (∃ (s : State) (i : Nat), s.atWork 0x04 = true ∧ i < 8192) :=
  ⟨⟨ready, by decide +kernel, by decide +kernel⟩,
   ⟨received, rxFrame, [], by decide +kernel, by decide +kernel⟩,
   ⟨received, rxFrame, [], 8191, by and_intros <;> decide +kernel⟩,
   ⟨ready, by decide +kernel⟩,
   ⟨ready, 8191, by decide +kernel, by decide +kernel⟩⟩

theorem witness_SegmentProtocolCommands :
    (∃ (s : State), s.atWork 0x06 = true) ∧
    (∃ (s : State), s.atWork 0x06 = true ∧ (s.rd SPR_CTRL_EN = 0 ∨ s.slqTake 0 = none)) ∧
    (∃ (s : State) (u : State) (p : Packet), s.atWork 0x06 = true ∧ s.rd SPR_CTRL_EN = 1 ∧ s.slqTake 0 = some (p, u)) :=
  ⟨⟨ready, by decide +kernel⟩,
   ⟨ready, by decide +kernel, by decide +kernel⟩,
   ⟨((ready.wrAll [(SLQ_CTRL_EN, 1), (SPR_CTRL_EN, 1)]).setQueue 16 { SlipQueue.empty with eligible := [packet 1 []] }), (((ready.wrAll [(SLQ_CTRL_EN, 1), (SPR_CTRL_EN, 1)]).setQueue 16 .empty)), packet 1 [], by decide +kernel, by decide +kernel, rfl⟩⟩

theorem witness_BiduesFrames :
    (∃ (s : State), s.live 0x1B = true ∧ s.linkRuns = true ∧ s.clm.out = [] ∧ s.clm.wants = false) ∧
    (∃ (s : State) (f : Bidues), s.live 0x1B = true ∧ s.linkRuns = true ∧ s.biduesValid f = false) ∧
    (∃ (s : State) (f : Bidues), s.live 0x1B = true ∧ s.linkRuns = true ∧ s.biduesValid f = true) ∧
    (∃ (s : State) (f : Bidues), s.live 0x1B = true ∧ s.linkRuns = true ∧ s.biduesValid { f with kind := 2 } = true) ∧
    (∃ (s : State) (f : Bidues), s.live 0x1B = true ∧ s.linkRuns = true ∧ s.biduesValid { f with kind := 3 } = true ∧ s.clm.querying = true ∧ s.modes.role = .standby ∧ s.rd CLM_CLAIM = 0 ∧ s.rd CLM_STATUS_WAITING = 0 ∧ f.inControl = true ∧ bitAt f.arg 1 = false ∧ bitAt f.arg 0 = true) ∧
    (∃ (s : State) (f : Bidues), s.live 0x1B = true ∧ s.linkRuns = true ∧ s.biduesValid { f with kind := 4 } = true ∧ f.arg = 0) ∧
    (∃ (s : State) (f : Bidues), s.live 0x1B = true ∧ s.linkRuns = true ∧ s.biduesValid { f with kind := 5 } = true ∧ (s.clm.swap.map Handover.giving) = some true) ∧
    (∃ (s : State) (f : Bidues), s.live 0x1B = true ∧ s.linkRuns = true ∧ s.biduesValid { f with kind := 6 } = true ∧ (s.clm.swap.map Handover.giving) = some true) ∧
    (∃ (s : State) (f : Bidues), s.live 0x1B = true ∧ s.linkRuns = true ∧ s.biduesValid { f with kind := 7 } = true ∧ s.modes.role = .standby ∧ s.clm.swap = none) :=
  ⟨⟨paired, by and_intros <;> decide +kernel⟩,
   ⟨paired, { bidues 1 with sync := 0 }, by and_intros <;> decide +kernel⟩,
   ⟨paired, bidues 1, by decide +kernel, by decide +kernel, bidues_valid _ _ _ (by decide) (by decide) ⟨rfl, rfl, rfl, rfl⟩⟩,
   ⟨paired, bidues 1, by decide +kernel, by decide +kernel, bidues_valid _ _ _ (by decide) (by decide) ⟨rfl, rfl, rfl, rfl⟩⟩,
   ⟨{ paired with clm := { paired.clm with querying := true } }, { bidues 1 with inControl := true, arg := 1 }, by and_intros <;> first | decide +kernel | exact bidues_valid _ _ _ (by decide) (by decide) ⟨rfl, rfl, rfl, rfl⟩⟩,
   ⟨paired, bidues 1, by decide +kernel, by decide +kernel, bidues_valid _ _ _ (by decide) (by decide) ⟨rfl, rfl, rfl, rfl⟩, by decide +kernel⟩,
   ⟨{ paired with clm := { paired.clm with swap := some ⟨true, .primary, false, false, false⟩ } }, bidues 1, by decide +kernel, by decide +kernel, bidues_valid _ _ _ (by decide) (by decide) ⟨rfl, rfl, rfl, rfl⟩, by decide +kernel⟩,
   ⟨{ paired with clm := { paired.clm with swap := some ⟨true, .primary, false, false, false⟩ } }, bidues 1, by decide +kernel, by decide +kernel, bidues_valid _ _ _ (by decide) (by decide) ⟨rfl, rfl, rfl, rfl⟩, by decide +kernel⟩,
   ⟨paired, bidues 1, by and_intros <;> first | decide +kernel | exact bidues_valid _ _ _ (by decide) (by decide) ⟨rfl, rfl, rfl, rfl⟩⟩⟩

theorem witness_PairingTimersAndDrivers :
    (∃ (s : State), s.live 0x1B = true ∧ s.rd CLM_STATUS_LINK_UP = 1) ∧
    (∃ (s : State), s.live 0x1B = true ∧ s.rd CLM_CLAIM ≠ 0) ∧
    (∃ (s : State), s.live 0x1B = true ∧ s.rd CLM_STATUS_WAITING = 1 ∧ s.rd CLM_STATUS_LINK_UP = 0 ∧ s.clm.heardBeacon = false) ∧
    (∃ (s : State), s.live 0x1B = true ∧ (s.rd CLM_STATUS_WAITING = 0 ∨ s.clm.heardBeacon = true)) ∧
    (∃ (s : State), s.live 0x1B = true ∧ s.clm.querying = true ∧ s.modes.role = .standby) ∧
    (∃ (s : State) (h : Handover), s.live 0x1B = true ∧ s.clm.swap = some h ∧ h.giving = true ∧ h.sent = true ∧ s.rd CLM_CLAIM ≠ 0) ∧
    (∃ (s : State) (k : Nat), s.live 0x1B = true ∧ WellFormed (.contactorDriverLatch k)) :=
  ⟨⟨paired.wr CLM_STATUS_LINK_UP 1, by decide +kernel, by decide +kernel⟩,
   ⟨paired.wr CLM_CLAIM 1, by decide +kernel, by decide +kernel⟩,
   ⟨paired.wr CLM_STATUS_WAITING 1, by and_intros <;> decide +kernel⟩,
   ⟨{ paired with clm := { paired.clm with heardBeacon := true } }, by decide +kernel, by decide +kernel⟩,
   ⟨{ paired with clm := { paired.clm with querying := true } }, by and_intros <;> decide +kernel⟩,
   ⟨{ paired.wr CLM_CLAIM 1 with clm := { paired.clm with swap := some ⟨true, .primary, false, true, false⟩ } }, ⟨true, .primary, false, true, false⟩, by and_intros <;> decide +kernel⟩,
   ⟨ready, 3, by decide +kernel, by unfold WellFormed; decide +kernel⟩⟩

theorem witness_PairingCommands :
    (∃ (s : State), s.atWork 0x1B = true ∧ s.modes.role = .primary ∧ MayHandOver s) ∧
    (∃ (s : State), s.atWork 0x1B = true ∧ (s.modes.role ≠ .primary ∨ s.swapBar ≠ 0)) ∧
    (∃ (s : State), s.atWork 0x1B = true ∧ s.modes.role = .standby ∧ MayHandOver s) ∧
    (∃ (s : State), s.atWork 0x1B = true ∧ (s.modes.role ≠ .standby ∨ s.swapBar ≠ 0)) ∧
    (∃ (s : State), s.atWork 0x1B = true ∧ s.modes.role = .solo ∧ s.rd CLM_CLAIM = 0) ∧
    (∃ (s : State), s.atWork 0x1B = true ∧ (s.modes.role ≠ .solo ∨ s.rd CLM_CLAIM ≠ 0)) ∧
    (∃ (s : State), s.atWork 0x1B = true ∧ s.rd CLM_STATUS_LINK_UP = 1) ∧
    (∃ (s : State), s.atWork 0x1B = true ∧ s.rd CLM_STATUS_LINK_UP = 0) ∧
    (∃ (s : State), s.atWork 0x1B = true) ∧
    (∃ (s : State), s.atWork 0x1B = true ∧ s.rd CLM_CLAIM ≠ 0) ∧
    (∃ (s : State), s.atWork 0x1B = true ∧ s.rd CLM_CLAIM = 0) ∧
    (∃ (s : State) (d : Int), s.live 0x1B = true ∧ s.rd CLM_SWAP_DAYS ≠ 0 ∧ s.clm.swapFrom = some d ∧ s.calValid = true ∧ s.swapAt d = (s.today, s.localHour) ∧ s.modes.role = .primary ∧ MayHandOver s) ∧
    (∃ (s : State), s.live 0x1B = true ∧ s.rd CLM_SWAP_DAYS = 0) ∧
    (∃ (s : State) (f : Bidues) (at_ : Nat), s.live 0x1B = true ∧ s.rd CLM_CTRL_PREFERRED = 1 ∧ s.rd CLM_CTRL_REVERT_EN = 1 ∧ s.modes.role = .standby ∧ s.clm.partner = some f ∧ f.role = 1 ∧ f.preferred = false ∧ MayHandOver s ∧ s.clm.settle = some at_ ∧ at_ + s.settleTime ≤ s.moduleTime) ∧
    (∃ (s : State), s.live 0x1B = true) :=
  ⟨⟨{ paired.wrAll [(CLM_STATUS_LINK_UP, 1), (SYS_STATUS_READY, 1)] with modes := ⟨.run, .primary, .deployed, .off, .idle, .clear, .free⟩, clm := { paired.clm with partner := some (bidues 1) } }, by decide +kernel, by decide +kernel, ⟨by decide +kernel, by decide +kernel, bidues 1, rfl, by decide +kernel, by decide +kernel⟩⟩,
   ⟨paired, by decide +kernel, by decide +kernel⟩,
   ⟨{ paired.wrAll [(CLM_STATUS_LINK_UP, 1), (SYS_STATUS_READY, 1)] with modes := ⟨.run, .standby, .deployed, .off, .idle, .clear, .free⟩, clm := { paired.clm with partner := some (bidues 1) } }, by decide +kernel, by decide +kernel, ⟨by decide +kernel, by decide +kernel, bidues 1, rfl, by decide +kernel, by decide +kernel⟩⟩,
   ⟨ready, by decide +kernel, by decide +kernel⟩,
   ⟨light, by and_intros <;> decide +kernel⟩,
   ⟨paired, by decide +kernel, by decide +kernel⟩,
   ⟨ready.wr CLM_STATUS_LINK_UP 1, by decide +kernel, by decide +kernel⟩,
   ⟨ready, by decide +kernel, by decide +kernel⟩,
   ⟨ready, by decide +kernel⟩,
   ⟨ready.wr CLM_CLAIM 1, by decide +kernel, by decide +kernel⟩,
   ⟨ready, by decide +kernel, by decide +kernel⟩,
   ⟨{ paired.wrAll [(CLM_STATUS_LINK_UP, 1), (SYS_STATUS_READY, 1), (CLM_SWAP_DAYS, 1), (CLM_SWAP_HOUR, 0), (RTC_STATUS_OSF, 0)] with modes := ⟨.run, .primary, .deployed, .off, .idle, .clear, .free⟩, clm := { paired.clm with partner := some (bidues 1), swapFrom := some (-1) } }, (-1), by and_intros <;> first | decide +kernel | exact ⟨by decide +kernel, by decide +kernel, bidues 1, rfl, by decide +kernel, by decide +kernel⟩⟩,
   ⟨ready.wr CLM_SWAP_DAYS 0, by decide +kernel, by decide +kernel⟩,
   ⟨{ paired.wrAll [(CLM_CTRL_PREFERRED, 1), (CLM_CTRL_REVERT_EN, 1), (CLM_STATUS_LINK_UP, 1), (SYS_STATUS_READY, 1)] with clm := { paired.clm with partner := some (bidues 1), settle := some 0 }, time := { paired.time with ta := 2 ^ 60 } }, bidues 1, 0, by and_intros <;> first | decide +kernel | exact rfl | exact ⟨by decide +kernel, by decide +kernel, bidues 1, rfl, by decide +kernel, by decide +kernel⟩⟩,
   ⟨ready, by decide +kernel⟩⟩

theorem witness_UplinkQueues :
    (∃ (s : State) (q : Nat) (words : List Nat), s.atWork 0x1A = true ∧ q < 7 ∧ s.rd SLQ_CTRL_EN = 1 ∧ (s.queue q).stalled = [] ∧ (s.queue q).level + cellsOf words.length ≤ s.rd (qCells q)) ∧
    (∃ (s : State) (q : Nat) (words : List Nat), s.atWork 0x1A = true ∧ 2 ≤ q ∧ q < 7 ∧ s.rd SLQ_CTRL_EN = 1 ∧ s.rd (qPolicy q) = 0 ∧ ((s.queue q).stalled ≠ [] ∨ s.rd (qCells q) < (s.queue q).level + cellsOf words.length)) ∧
    (∃ (s : State) (q : Nat), s.atWork 0x1A = true ∧ q < 7 ∧ s.rd SLQ_CTRL_EN = 0) ∧
    (∃ (s : State) (port : Port) (q : Nat), s.atWork 0x1A = true ∧ WellFormed (.slqUplinkRead port q false) ∧ s.rd SLQ_CTRL_EN = 1) :=
  ⟨⟨((ready.wr SLQ_CTRL_EN 1).wr (qCells 6) 2), 6, [1, 2], by and_intros <;> decide +kernel⟩,
   ⟨(ready.wrAll [(SLQ_CTRL_EN, 1), (qPolicy 6, 0), (qCells 6, 0)]), 6, [1], by and_intros <;> decide +kernel⟩,
   ⟨ready, 6, by and_intros <;> decide +kernel⟩,
   ⟨ready.wr SLQ_CTRL_EN 1, .pcie, 15, by decide +kernel, by unfold WellFormed; decide +kernel, by decide +kernel⟩⟩

theorem witness_RewindMarks :
    (∃ (s : State) (q : Nat), s.atWork 0x1A = true ∧ q < 16 ∧ (s.queue q).stalled = []) ∧
    (∃ (s : State) (q : Nat) (o : OwnedPacket), s.atWork 0x1A = true ∧ q < 16 ∧ (s.queue q).stalled = [] ∧ (s.queue q).owned = some o) ∧
    (∃ (s : State) (q : Nat), s.atWork 0x1A = true ∧ q < 16) ∧
    (∃ (s : State) (q : Nat), s.atWork 0x1A = true ∧ q < 24 ∧ (s.queue q).stalled = []) :=
  ⟨⟨ready, 15, by and_intros <;> decide +kernel⟩,
   ⟨ready.setQueue 15 { SlipQueue.empty with owned := some ⟨packet 1 [], 0, .lrp, false⟩ }, 15, ⟨packet 1 [], 0, .lrp, false⟩, by and_intros <;> decide +kernel⟩,
   ⟨ready, 15, by decide +kernel, by decide +kernel⟩,
   ⟨ready, 23, by and_intros <;> decide +kernel⟩⟩

theorem witness_DownlinkQueues :
    (∃ (s : State) (d : Nat) (w : Nat), s.atWork 0x1A = true ∧ d < 3 ∧ w < 2 ^ 32 ∧ s.rd SLQ_CTRL_EN = 1 ∧ (s.queue (16 + d)).building = none ∧ (s.queue (16 + d)).level + 1 ≤ s.rd (SLQ_D_CFG_CELLS d)) ∧
    (∃ (s : State) (port : Port) (d : Nat) (w : Nat) (b : OpenPacket), s.atWork 0x1A = true ∧ d < 3 ∧ w < 2 ^ 32 ∧ s.rd SLQ_CTRL_EN = 1 ∧ s.rd (SLQ_D_CFG_CELLS d) ≠ 0 ∧ (s.queue (16 + d)).building = some b ∧ b.port = port ∧ b.dead = false ∧ b.words.length < 4096 ∧ cellsOf (b.words.length + 1) ≤ s.rd (SLQ_D_CFG_CELLS d) ∧ (s.queue (16 + d)).level - cellsOf b.words.length + cellsOf (b.words.length + 1) ≤ s.rd (SLQ_D_CFG_CELLS d)) ∧
    (∃ (s : State) (port : Port) (d : Nat) (w : Nat) (b : OpenPacket), s.atWork 0x1A = true ∧ d < 3 ∧ w < 2 ^ 32 ∧ s.rd SLQ_CTRL_EN = 1 ∧ s.rd (SLQ_D_CFG_CELLS d) ≠ 0 ∧ (s.queue (16 + d)).building = some b ∧ b.port ≠ port) ∧
    (∃ (s : State) (port : Port) (d : Nat) (len : Nat) (b : OpenPacket), s.atWork 0x1A = true ∧ d < 3 ∧ len < 2 ^ 32 ∧ s.rd SLQ_CTRL_EN = 1 ∧ s.rd (SLQ_D_CFG_CELLS d) ≠ 0 ∧ (s.queue (16 + d)).building = some b ∧ b.port = port ∧ b.dead = false) ∧
    (∃ (s : State) (d : Nat), s.atWork 0x1A = true ∧ d < 8) ∧
    (∃ (s : State) (port : Port) (q : Nat) (n : Nat), s.atWork 0x1A = true ∧ WellFormed (.slqCellsWrite port q n)) ∧
    (∃ (s : State) (q : Nat), s.atWork 0x1A = true ∧ q < 24 ∧ s.slqLevel q < 2 ^ 14) ∧
    (∃ (s : State) (q : Nat), s.atWork 0x1A = true ∧ q < 24 ∧ s.rd SLQ_CTRL_EN = 1 ∧ s.rd (qTimeout q) ≠ 0 ∧ (s.queue q).ready ≠ [] ∧ (s.queue q).timerFired = false) ∧
    (∃ (s : State) (q : Nat) (p : Packet) (carry : Bool) (l : List (Packet × Bool)), s.atWork 0x1A = true ∧ q < 16 ∧ (s.queue q).stalled = (p, carry) :: l) ∧
    (∃ (s : State) (d : Nat), s.atWork 0x1A = true ∧ d < 8 ∧ (s.queue (16 + d)).eligible ≠ []) ∧
    (∃ (s : State) (port : Port) (d : Nat) (w : Nat), s.live 0x1A = true ∧ d < 3 ∧ w < 2 ^ 32 ∧ s.slqDownStalls port d = true ∧ (s.port port).posted.length < 63) ∧
    (∃ (s : State), s.atWork 0x1A = true) :=
  ⟨⟨((ready.wr SLQ_CTRL_EN 1).wr (SLQ_D_CFG_CELLS 2) 1), 2, 0xFFFFFFFF, by and_intros <;> decide +kernel⟩,
   ⟨(((ready.wr SLQ_CTRL_EN 1).wr (SLQ_D_CFG_CELLS 2) 1).setQueue 18 { SlipQueue.empty with building := some ⟨[7], .pcie, false⟩ }), .pcie, 2, 0, ⟨[7], .pcie, false⟩, by and_intros <;> decide +kernel⟩,
   ⟨(((ready.wr SLQ_CTRL_EN 1).wr (SLQ_D_CFG_CELLS 2) 1).setQueue 18 { SlipQueue.empty with building := some ⟨[7], .lrp, false⟩ }), .pcie, 2, 0, ⟨[7], .lrp, false⟩, by and_intros <;> decide +kernel⟩,
   ⟨(((ready.wr SLQ_CTRL_EN 1).wr (SLQ_D_CFG_CELLS 2) 1).setQueue 18 { SlipQueue.empty with building := some ⟨[7], .pcie, false⟩ }), .pcie, 2, 0xFFFFFFFF, ⟨[7], .pcie, false⟩, by and_intros <;> decide +kernel⟩,
   ⟨ready, 7, by decide +kernel, by decide +kernel⟩,
   ⟨ready, .pcie, 23, 0x3FFF, by decide +kernel, by unfold WellFormed; decide +kernel⟩,
   ⟨ready, 23, by and_intros <;> decide +kernel⟩,
   ⟨(((ready.wr SLQ_CTRL_EN 1).wr (qTimeout 15) 1).setQueue 15 { SlipQueue.empty with eligible := [packet 1 []] }), 15, by and_intros <;> decide +kernel⟩,
   ⟨(ready.setQueue 15 { SlipQueue.empty with stalled := [(packet 1 [], true)] }), 15, packet 1 [], true, [], by and_intros <;> decide +kernel⟩,
   ⟨(ready.setQueue 23 { SlipQueue.empty with eligible := [packet 1 []] }), 7, by and_intros <;> decide +kernel⟩,
   ⟨((ready.wrAll [(SLQ_CTRL_EN, 1), (SLQ_D_CFG_CELLS 2, 1), (SLQ_D_CFG_POLICY 2, 0)]).setQueue 18 { SlipQueue.empty with eligible := [packet 1 []] }), .pcie, 2, 4294967295, by and_intros <;> decide +kernel⟩,
   ⟨ready, by decide +kernel⟩⟩

theorem witness_DetectionsEnterDrift :
    (∃ (s : State) (v : Nat) (instant : Nat) (strength : Nat) (sensor : Nat), s.atWork 0x07 = true ∧ WellFormed (.drfEventIntake v instant strength sensor)) ∧
    (∃ (s : State) (port : Port) (v : Nat) (age : Nat), s.atWork 0x07 = true ∧ WellFormed (.drfInject port v age) ∧ (s.vertex (s.rd DRF_GRAPH_ACTIVE) v).valid = true ∧ age ≤ max 1 (min 10000 (s.rd DRF_INTAKE_MAX_AGE)) ∧ s.rd DRF_CTRL_EN = 1 ∧ s.drf.queue.length < 4096) ∧
    (∃ (s : State), s.atWork 0x07 = true) :=
  ⟨⟨ready, 65535, 0xFFFFFFFFFFFFFFFF, 255, 255, by decide +kernel, by unfold WellFormed; decide +kernel⟩,
   ⟨drifting, .pcie, 8191, 2000, by and_intros <;> first | decide +kernel | (unfold WellFormed; decide +kernel)⟩,
   ⟨ready, by decide +kernel⟩⟩

theorem witness_DriftEvaluations :
    (∃ (s : State) (dur : Nat), s.atWork 0x07 = true ∧ dur < 65536 ∧ s.drfRuns = true ∧ s.modes.power ≠ .doze ∧ s.drf.bank < 3) ∧
    (∃ (s : State) (c : Nat) (dur : Nat), s.atWork 0x07 = true ∧ dur < 65536 ∧ s.drfRuns = true ∧ s.modes.power = .doze ∧ (s.reach c).drfCanChange = false) ∧
    (∃ (s : State) (c : Nat) (dur : Nat) (e : DrfEvent), s.atWork 0x07 = true ∧ dur < 65536 ∧ s.drfRuns = true ∧ s.modes.power ≠ .doze ∧ s.rd DRF_GRAPH_PENDING = 0 ∧ s.drf.graphBad = false ∧ s.drf.storeBad = false ∧ s.drf.walkers = [] ∧ s.drf.queue = [e] ∧ s.drf.overflow = [] ∧ (s.vertex (s.rd DRF_GRAPH_ACTIVE) e.vertex).valid = true ∧ (s.vertex (s.rd DRF_GRAPH_ACTIVE) e.vertex).noSpawn = false ∧ (s.reach c).epoch = e.tick) ∧
    (∃ (s : State) (dur : Nat), s.atWork 0x07 = true ∧ dur < 65536 ∧ s.drfRuns = true ∧ s.modes.power ≠ .doze ∧ s.rd DRF_GRAPH_PENDING = 1 ∧ s.drf.checked = true ∧ s.drf.queue = [] ∧ s.drf.overflow = []) ∧
    (∃ (s : State), s.atWork 0x07 = true) ∧
    (∃ (s : State), s.atWork 0x07 = true ∧ s.rd DRF_GRAPH_PENDING = 1 ∧ s.drf.checked = false) :=
  ⟨⟨{ drifting with drf := { drifting.drf with bank := 2 } }, 65535, by and_intros <;> decide +kernel⟩,
   ⟨{ drifting with modes := { light.modes with power := .doze } }, 0, 0, by and_intros <;> decide +kernel⟩,
   ⟨detected, 2500, 65535, event, by and_intros <;> decide +kernel⟩,
   ⟨{ drifting.wr DRF_GRAPH_PENDING 1 with drf := { drifting.drf with checked := true } }, 65535, by and_intros <;> decide +kernel⟩,
   ⟨ready, by decide +kernel⟩,
   ⟨ready.wr DRF_GRAPH_PENDING 1, by and_intros <;> decide +kernel⟩⟩

theorem witness_ScheduleTicks :
    (∃ (s : State), s.atWork 0x08 = true ∧ (s.rd SCH_CTRL_EN = 0 ∨ s.lightPath = false)) ∧
    (∃ (s : State), s.atWork 0x08 = true ∧ s.rd SCH_CTRL_EN = 1 ∧ s.lightPath = true ∧ s.calValid = false) ∧
    (∃ (s : State), s.atWork 0x08 = true ∧ s.rd SCH_CTRL_EN = 1 ∧ s.lightPath = true ∧ s.calValid = true) ∧
    (∃ (s : State), s.atWork 0x08 = true) :=
  ⟨⟨ready, by decide +kernel, by decide +kernel⟩,
   ⟨light.wrAll [(SCH_CTRL_EN, 1), (RTC_STATUS_OSF, 1)], by and_intros <;> decide +kernel⟩,
   ⟨light.wrAll [(SCH_CTRL_EN, 1), (RTC_STATUS_OSF, 0)], by and_intros <;> decide +kernel⟩,
   ⟨ready, by decide +kernel⟩⟩

theorem witness_TemperSamples :
    (∃ (s : State) (c : Nat), s.atWork 0x09 = true ∧ (s.rd TMP_CTRL_EN = 0 ∨ s.lightPath = false ∨ c / 250 % 10000 ≠ 0 ∨ s.tmp.tick = some (c / 2500000)) ∧ ((∀ (p : Port) (j : Nat), j < 4 → ((s.port p).tag j).state ≠ .committing))) ∧
    (∃ (s : State) (c : Nat) (n : Nat) (k : Nat) (v : Nat), s.atWork 0x09 = true ∧ s.rd TMP_CTRL_EN = 1 ∧ s.lightPath = true ∧ k < 2048 ∧ c / 250 = 10000 * n ∧ (∀ m ∈ s.tmp.tick, m < n) ∧ s.tmpEnabled.filter (s.tmpDue n) = [k] ∧ ((∀ (p : Port) (j : Nat), j < 4 → ((s.port p).tag j).state ≠ .committing)) ∧ (∀ j, (s.tmpRecord j).enable = true ∨ (s.tmpSlot j).state = 0) ∧ (s.tmpSlot k).state = 1 ∧ (s.tmpSlot k).entering = false ∧ (s.tmpSlot k).starting = false ∧ (s.tmpSlot k).spl = some v ∧ (s.tmpRecord k).feLimit = 0 ∧ s.contributions k (s.tmpRecord k) (10000 * n) ≠ []) ∧
    (∃ (s : State) (c : Nat) (n : Nat) (k : Nat), s.atWork 0x09 = true ∧ s.rd TMP_CTRL_EN = 1 ∧ s.lightPath = true ∧ k < 2048 ∧ c / 250 = 10000 * n ∧ (∀ m ∈ s.tmp.tick, m < n) ∧ s.tmpEnabled.filter (s.tmpDue n) = [k] ∧ ((∀ (p : Port) (j : Nat), j < 4 → ((s.port p).tag j).state ≠ .committing)) ∧ (∀ j, (s.tmpRecord j).enable = true ∨ (s.tmpSlot j).state = 0) ∧ (s.tmpSlot k).state = 1 ∧ (s.tmpSlot k).starting = false ∧ s.contributions k (s.tmpRecord k) (10000 * n) = []) ∧
    (∃ (s : State) (k : Nat), s.atWork 0x09 = true ∧ k < 2048) :=
  ⟨⟨ready, 0, by decide +kernel, by decide +kernel, by intro p; cases p <;> decide +kernel⟩,
   ⟨(looping [(2047, 5, 0)]), 0, 0, 2047, 5, by and_intros <;> first | decide +kernel | (intro p; cases p <;> decide +kernel) | exact looping_slots _⟩,
   ⟨(looping []), 0, 0, 2047, by and_intros <;> first | decide +kernel | (intro p; cases p <;> decide +kernel) | exact looping_slots _⟩,
   ⟨ready, 2047, by decide +kernel, by decide +kernel⟩⟩

theorem witness_ShapingPasses :
    (∃ (s : State), s.atWork 0x0A = true ∧ (s.rd SHP_CTRL_EN = 0 ∨ s.lightPath = false)) ∧
    (∃ (s : State) (dur : Nat), s.atWork 0x0A = true ∧ dur < 65536 ∧ s.rd SHP_CTRL_EN = 1 ∧ s.lightPath = true) ∧
    (∃ (s : State) (dur : Nat) (i : Nat), s.atWork 0x0A = true ∧ dur < 65536 ∧ s.rd SHP_CTRL_EN = 1 ∧ s.lightPath = true ∧ s.meshTx = false ∧ i < 8192 ∧ s.usedEntries = [i] ∧ s.entType i = 1 ∧ s.entState i = 3 ∧ s.channels i = 1 ∧ s.mix i = 0 ∧ bitAt (s.ent i 0xA1 1) 0 = false ∧ bitAt (s.dstate i) 1 = false) :=
  ⟨⟨ready, by decide +kernel, by decide +kernel⟩,
   ⟨light.wr SHP_CTRL_EN 1, 65535, by and_intros <;> decide +kernel⟩,
   ⟨{ ((node 8191 3 1).wr SHP_CTRL_EN 1).setEnt 8191 0x46 1 1 with modes := standby.modes }, 65535, 8191, by and_intros <;> decide +kernel⟩⟩

theorem witness_LevelFramesPartition : ∃ maxCount : Nat, 1 ≤ maxCount :=
  ⟨1, by decide⟩

theorem witness_WiredBuses :
    (∃ (s : State) (k : Nat), s.live 0x0C = true ∧ k < 8 ∧ (s.dalRuns k = false ∨ s.meshTx = false ∨ s.dalQueue k = [])) ∧
    (∃ (s : State) (k : Nat) (c : DalCmd) (rest : List DalCmd), s.live 0x0C = true ∧ k < 8 ∧ s.dalRuns k = true ∧ s.meshTx = true ∧ s.dalQueue k = c :: rest) ∧
    (∃ (s : State) (k : Nat) (i : Nat), s.live 0x0C = true ∧ k < 8 ∧ i < 8192 ∧ s.dalRuns k = true ∧ s.meshTx = true ∧ s.rd SHP_CTRL_EN = 1 ∧ s.rd DAL_CFG_REFRESH ≠ 0 ∧ s.dalQueue k = [] ∧ s.usedEntries = [i] ∧ s.entType i = 2 ∧ s.wiredPort i = k ∧ bitAt (s.w8 0x0A (0x10000 + 16 * i + 11)) 0 = true) ∧
    (∃ (s : State) (k : Nat), s.live 0x0C = true ∧ k < 8) ∧
    (∃ (s : State) (k : Nat), s.live 0x0C = true ∧ k < 8 ∧ bitAt (s.rd DAL_STATUS_UP) k = false) ∧
    (∃ (s : State) (k : Nat) (frame : Nat), s.live 0x0C = true ∧ (s.dalRuns k = false ∨ bitAt frame 16 = true)) ∧
    (∃ (s : State) (k : Nat) (frame : Nat) (instant : Nat), s.live 0x0C = true ∧ WellFormed (.dalEventReceived k frame instant) ∧ s.dalRuns k = true ∧ bitAt frame 16 = false ∧ ((bitAt frame 23 = true ∨ bitAt frame 15 = true ∨ ∀ i ∈ s.usedEntries, s.entType i = 3 → s.wiredPort i = k → s.wiredAddr i ≠ bitsOf frame 17 6))) ∧
    (∃ (s : State) (k : Nat) (frame : Nat) (instant : Nat) (i : Nat), s.live 0x0C = true ∧ WellFormed (.dalEventReceived k frame instant) ∧ s.dalRuns k = true ∧ bitAt frame 16 = false ∧ bitAt frame 23 = false ∧ bitAt frame 15 = false ∧ s.usedEntries = [i] ∧ s.entType i = 3 ∧ s.wiredPort i = k ∧ s.wiredAddr i = bitsOf frame 17 6 ∧ bitsOf frame 10 5 = s.rd DAL_PRES_ITYPE ∧ Nat.land (bitsOf frame 0 10) (s.rd DAL_PRES_MASK) ≠ 0 ∧ s.ent i 0x10 2 < 8192 ∧ (s.vertex (s.rd DRF_GRAPH_ACTIVE) (s.ent i 0x10 2)).valid = true ∧ (s.moduleTime - instant + 500) / 1000 ≤ max 1 (min 10000 (s.rd DRF_INTAKE_MAX_AGE)) * 1000 ∧ s.rd DRF_CTRL_EN = 1 ∧ s.drf.queue.length < 4096) :=
  ⟨⟨ready, 7, by and_intros <;> decide +kernel⟩,
   ⟨lightWired 2 [dapc], 7, dapc, [], by and_intros <;> decide +kernel⟩,
   ⟨((lightWired 2 []).wr SHP_CTRL_EN 1).setBytes 0x0A (0x10000 + 16 * 8191 + 11) [1], 7, 8191, by and_intros <;> decide +kernel⟩,
   ⟨ready, 7, by decide +kernel, by decide +kernel⟩,
   ⟨ready.wr DAL_STATUS_UP 0x7F, 7, by and_intros <;> decide +kernel⟩,
   ⟨ready, 0, 0, by decide +kernel, by decide +kernel⟩,
   ⟨lightWired 3 [], 7, 0x800000, 0xFFFFFFFFFFFFFFFF, by and_intros <;> first | decide +kernel | (unfold WellFormed; decide +kernel)⟩,
   ⟨((lightWired 3 []).setBytes 0x07 3 [1]), 7, 63 * 2 ^ 17 + 3 * 2 ^ 10 + 1023, 0, 8191, by and_intros <;> first | decide +kernel | (unfold WellFormed; decide +kernel)⟩⟩

theorem witness_RawWiredFrames :
    (∃ (s : State) (port : Port) (k : Nat) (prio : Nat) (bits24 : Bool) (twice : Bool) (answer : Bool), s.atWork 0x0C = true ∧ WellFormed (.dalRawRequest port k bits24 twice answer prio)) ∧
    (∃ (s : State) (k : Nat) (wants : Bool) (bad : Bool) (answer : Option Nat), s.live 0x0C = true ∧ WellFormed (.dalRawComplete answer bad) ∧ s.dal.raw = some (k, wants) ∧ s.rawSent k = true) :=
  ⟨⟨ready, .pcie, 7, 7, true, true, true, by decide +kernel, by unfold WellFormed; decide +kernel⟩,
   ⟨{ ready with dal := { DalUnit.empty with raw := some (7, true) } }, 7, true, true, some 255, by decide +kernel, by unfold WellFormed; decide +kernel, by decide +kernel, by decide +kernel⟩⟩

theorem witness_MeteringSamples :
    (∃ (s : State), s.live 0x0D = true ∧ s.rd EMU_CTRL_EN = 0 ∧ s.emur.due = none) ∧
    (∃ (s : State) (c : Nat) (n : Nat) (bits : List Nat), s.live 0x0D = true ∧ WellFormed (.emuSample c bits) ∧ s.rd EMU_CTRL_EN = 1 ∧ n < 12 ∧ s.circuitRuns n = true ∧ s.circuitFault n = false ∧ s.emu.held = false) ∧
    (∃ (s : State) (k : Nat), s.live 0x0D = true ∧ k < 16) ∧
    (∃ (s : State) (k : Nat), s.live 0x0D = true ∧ k < 4) ∧
    (∃ (s : State), s.live 0x0D = true) ∧
    (∃ (s : State) (n : Nat), s.atWork 0x0D = true ∧ n < 12) :=
  ⟨⟨ready, by and_intros <;> decide +kernel⟩,
   ⟨metered, 0, 11, [], by and_intros <;> first | decide +kernel | (unfold WellFormed; decide +kernel)⟩,
   ⟨ready, 15, by decide +kernel, by decide +kernel⟩,
   ⟨ready, 3, by decide +kernel, by decide +kernel⟩,
   ⟨ready, by decide +kernel⟩,
   ⟨ready, 11, by decide +kernel, by decide +kernel⟩⟩

theorem witness_EnergyReconciliation :
    (∃ (s : State), s.atWork 0x0E = true ∧ s.rd EMUR_CTRL_EN = 0) ∧
    (∃ (s : State), s.atWork 0x0E = true ∧ s.rd EMUR_CTRL_EN = 0) ∧
    (∃ (s : State) (c : Nat), s.atWork 0x0E = true ∧ s.rd EMUR_CTRL_EN = 1 ∧ s.emur.due = none ∧ (s.reach c).nextNearer = false) ∧
    (∃ (s : State) (c : Nat), s.atWork 0x0E = true ∧ s.rd EMUR_CTRL_EN = 1 ∧ s.emur.due = none ∧ (s.reach c).nextNearer = true) ∧
    (∃ (s : State) (j : Int), s.live 0x0D = true ∧ s.rd EMUR_CTRL_EN = 1 ∧ s.emur.due = some j) ∧
    (∃ (s : State) (i : Nat), s.atWork 0x0E = true ∧ s.rd EMUR_CTRL_EN = 1 ∧ i < 8192 ∧ s.usedEntries = [i]) ∧
    (∃ (s : State) (g : Nat), s.atWork 0x0E = true ∧ g < 12) :=
  ⟨⟨ready, by decide +kernel, by decide +kernel⟩,
   ⟨ready.wr EMUR_CTRL_EN 0, by decide +kernel, by decide +kernel⟩,
   ⟨ready.wr EMUR_CTRL_EN 1, 0, by and_intros <;> decide +kernel⟩,
   ⟨{ ready.wrAll [(EMUR_CTRL_EN, 1), (EMU_CTRL_EN, 1)] with time := { ready.time with ta := 2 ^ 40 }, emu := { ready.emu with last := 2 ^ 40 - inputLag - 100000 } }, 0, by and_intros <;> decide +kernel⟩,
   ⟨{ ready.wr EMUR_CTRL_EN 1 with emur := { ready.emur with due := some 7 } }, 7, by and_intros <;> decide +kernel⟩,
   ⟨((node 8191 1 1).wr EMUR_CTRL_EN 1), 8191, by and_intros <;> decide +kernel⟩,
   ⟨ready, 11, by decide +kernel, by decide +kernel⟩⟩

theorem witness_PrecisionTimeMessages :
    (∃ (s : State) (k : Nat) (sender : Nat) (senderPort : Nat) (domain : Nat), s.live 0x18 = true ∧ s.isolated 0x18 = false ∧ s.fromParent k sender senderPort domain = false) ∧
    (∃ (s : State), s.live 0x18 = true ∧ s.isolated 0x18 = true) ∧
    (∃ (s : State) (k : Nat) (sender : Nat) (senderPort : Nat) (domain : Nat), s.live 0x18 = true ∧ s.isolated 0x18 = false ∧ k < 6 ∧ s.fromParent k sender senderPort domain = true) ∧
    (∃ (s : State) (k : Nat) (sender : Nat) (senderPort : Nat) (domain : Nat) (seq : Nat) (h : HeldSync), s.live 0x18 = true ∧ s.isolated 0x18 = false ∧ s.fromParent k sender senderPort domain = true ∧ s.time.held = some h ∧ h.seq = seq) ∧
    (∃ (s : State), s.live 0x18 = true ∧ s.isolated 0x18 = false) ∧
    (∃ (s : State) (k : Nat) (sender : Nat) (senderPort : Nat) (domain : Nat) (seq : Nat) (t3 : Int), s.live 0x18 = true ∧ s.isolated 0x18 = false ∧ s.fromParent k sender senderPort domain = true ∧ s.time.t3 = some (seq, t3)) ∧
    (∃ (s : State) (k : Nat) (a : Announce), s.live 0x18 = true ∧ WellFormed (.ptpAnnounceReceived k a)) :=
  ⟨⟨ready, 5, 0, 0, 0, by and_intros <;> decide +kernel⟩,
   ⟨{ slave with siv := { slave.siv with slices := [⟨0x60, 0, true⟩] } }, by decide +kernel, by decide +kernel⟩,
   ⟨slave, 5, 0, 0, 0, by and_intros <;> decide +kernel⟩,
   ⟨{ slave with time := { slave.time with held := some ⟨65535, 0, 0⟩ } }, 5, 0, 0, 0, 65535, ⟨65535, 0, 0⟩, by and_intros <;> decide +kernel⟩,
   ⟨ready, by decide +kernel, by decide +kernel⟩,
   ⟨{ slave with time := { slave.time with t3 := some (65535, 7) } }, 5, 0, 0, 0, 65535, 7, by and_intros <;> decide +kernel⟩,
   ⟨ready, 5, announce, by decide +kernel, by unfold WellFormed; decide +kernel⟩⟩

theorem witness_BestMasterChoice :
    (∃ (s : State) (k : Nat) (r : Nat) (a : Announce) (b : Announce), s.live 0x18 = true ∧ WellFormed (.ptpAnnounceReceived k a) ∧ s.ptpRuns = true ∧ s.ptpPort k = true ∧ a.domain = s.ptpDomain ∧ s.time.foreign = [⟨k, 1, r, b⟩] ∧ s.stillHeard ⟨k, 1, r, b⟩ = true ∧ 0 < s.announceTimeout ∧ s.time.preMaster = [] ∧ b.senderId = a.senderId ∧ b.senderPort = a.senderPort ∧ 128 ≤ s.ownClock.clockClass ∧ lexLess (announceRank s.ownClock) (announceRank a) = false) ∧
    (∃ (s : State) (k : Nat), s.live 0x18 = true ∧ s.ptpRuns = true ∧ s.ptpPort k = true ∧ k < 6 ∧ s.ptpState k = 1 ∧ s.time.foreign = []) ∧
    (∃ (s : State), s.live 0x18 = true) :=
  ⟨⟨{ slave with time := { slave.time with foreign := [⟨5, 1, 0, announce⟩] } }, 5, 0, announce, announce, by and_intros <;> first | decide +kernel | (unfold WellFormed; decide +kernel)⟩,
   ⟨(slave.wr TIM_PORT_STATE (2 ^ 15)), 5, by and_intros <;> decide +kernel⟩,
   ⟨ready, by decide +kernel⟩⟩

theorem witness_HostTimeCommands :
    (∃ (s : State) (port : Port) (v : Nat), s.atWork 0x18 = true ∧ WellFormed (.timHostStateWrite port v)) ∧
    (∃ (s : State) (port : Port) (w : Nat), s.atWork 0x18 = true ∧ WellFormed (.timRateWrite port w)) ∧
    (∃ (s : State) (port : Port) (w : Nat), s.atWork 0x18 = true ∧ WellFormed (.timStepHiWrite port w)) ∧
    (∃ (s : State), s.atWork 0x18 = true) ∧
    (∃ (s : State), s.live 0x18 = true) :=
  ⟨⟨ready, .pcie, 3, by decide +kernel, by unfold WellFormed; decide +kernel⟩,
   ⟨ready, .pcie, 0xFFFFFFFF, by decide +kernel, by unfold WellFormed; decide +kernel⟩,
   ⟨ready, .pcie, 0xFFFFFFFF, by decide +kernel, by unfold WellFormed; decide +kernel⟩,
   ⟨ready, by decide +kernel⟩,
   ⟨ready, by decide +kernel⟩⟩

theorem witness_CalendarPulses :
    (∃ (s : State), s.aonRunning = true ∧ s.rd RTC_TRIM = 0 ∧ s.cal.load = none) ∧
    (∃ (s : State), s.aonRunning = true ∧ s.rd RTC_TRIM = 0 ∧ s.rd RTC_STATUS_LEAP_NOW = 0 ∧ s.rd RTC_LEAP_ARM = 0 ∧ s.cal.frac < 65536 ∧ s.cal.load = none) ∧
    (∃ (s : State) (i : Instr), s.aonRunning = false ∧ (i = .calendarFractionAdvance ∨ i = .rtcSecondRollover)) ∧
    (∃ (s : State) (v : CalTime), s.aonRunning = true ∧ s.cal.load = some (.value v)) ∧
    (∃ (s : State), s.aonRunning = true ∧ s.cal.load = some .step ∧ 0 ≤ s.utcNs ∧ s.utcNs < 12622780800 * 1000000000) ∧
    (∃ (s : State), s.atWork 0x19 = true) ∧
    ((∃ (s : State) (c : Nat), s.live 0x19 = true ∧ s.time.state ≠ .locked) ∧ ∃ (s : State) (c : Nat), s.live 0x19 = true ∧ s.time.state = .locked ∧ ∃ m k, s.cal.window = some (m, k) ∧ (s.reach c).moduleTimeAt (s.reach c).time.raw - m < 1024000000000) ∧
    ((∃ s : State, s.live 0x19 = true ∧ s.time.state = .locked ∧ s.cal.window = none) ∧ ∃ (s : State) (c : Nat), s.live 0x19 = true ∧ s.time.state = .locked ∧ s.cal.disturbed = true ∧ ∃ m k, s.cal.window = some (m, k) ∧ 1024000000000 ≤ (s.reach c).moduleTimeAt (s.reach c).time.raw - m) ∧
    (∃ (s : State) (c : Nat) (k : Nat) (m : Int), s.live 0x19 = true ∧ s.time.state = .locked ∧ s.cal.disturbed = false ∧ s.cal.window = some (m, k) ∧ 1024000000000 ≤ (s.reach c).moduleTimeAt (s.reach c).time.raw - m) ∧
    (∃ y m d : Nat, 2000 ≤ y ∧ y ≤ 2399 ∧ 1 ≤ m ∧ m ≤ 12 ∧ 1 ≤ d ∧ d ≤ daysIn y m) :=
  ⟨⟨ready, by and_intros <;> decide +kernel⟩,
   ⟨ready, by and_intros <;> decide +kernel⟩,
   ⟨{ ready with domains := List.replicate 14 .stopped }, .rtcSecondRollover, by decide +kernel, by decide +kernel⟩,
   ⟨{ ready with cal := { ready.cal with load := some (.value ⟨7, 9⟩) } }, ⟨7, 9⟩, by decide +kernel, by decide +kernel⟩,
   ⟨{ ready with cal := { ready.cal with load := some .step }, time := { ready.time with ta := 10 ^ 18 } }, by and_intros <;> decide +kernel⟩,
   ⟨ready, by decide +kernel⟩,
   ⟨⟨ready, 0, by decide +kernel, by decide +kernel⟩, { ready with time := { ready.time with state := .locked }, cal := { ready.cal with disturbed := false, window := some (0, 0) } }, 0, by decide +kernel, by decide +kernel, 0, 0, by decide +kernel, by decide +kernel⟩,
   ⟨⟨{ ready with time := { ready.time with state := .locked } }, by decide +kernel, by decide +kernel, by decide +kernel⟩, { ready with time := { ready.time with state := .locked, ta := 1024000000000 }, cal := { ready.cal with disturbed := true, window := some (0, 0) } }, 0, by decide +kernel, by decide +kernel, by decide +kernel, 0, 0, by decide +kernel, by decide +kernel⟩,
   ⟨{ ready with time := { ready.time with state := .locked, ta := 1024000000000 }, cal := { ready.cal with disturbed := false, window := some (0, 0) } }, 0, 0, 0, by and_intros <;> decide +kernel⟩,
   ⟨2396, 2, 29, by decide⟩⟩

theorem witness_KeyOperations :
    (∃ (s : State) (s' : State) (p : Packet) (key : Nat), keyTakes s s' p 1 ∧ (requestOf p).slot < 64 ∧ (requestOf p).data.length = (if (requestOf p).cls = 4 then 128 else 88) ∧ (s.modes.life = .provisioned ∨ (s.modes.life = .deployed ∧ (requestOf p).cls = 4)) ∧ 1 ≤ (requestOf p).cls ∧ (requestOf p).cls ≤ 4 ∧ Nat.land (requestOf p).uses (usesOf (requestOf p).cls) = (requestOf p).uses ∧ s.slotState (requestOf p).slot = 0 ∧ (((requestOf p).cls = 2 ∨ (requestOf p).cls = 3 → s.parentOk (requestOf p).parent = true)) ∧ s.loadedKey (requestOf p) = some key) ∧
    (∃ (s : State) (s' : State) (p : Packet), keyTakes s s' p 1 ∧ s.loadCode (requestOf p) ≠ 0) ∧
    (∃ (s : State) (s' : State) (p : Packet), keyTakes s s' p 2 ∧ (requestOf p).slot < 64 ∧ (s.modes.life = .provisioned ∨ s.modes.life = .deployed) ∧ ((requestOf p).cls = 2 ∨ (requestOf p).cls = 3) ∧ Nat.land (requestOf p).uses (usesOf (requestOf p).cls) = (requestOf p).uses ∧ s.slotState (requestOf p).slot = 0 ∧ s.parentOk (requestOf p).parent = true) ∧
    (∃ (s : State) (s' : State) (p : Packet), keyTakes s s' p 2 ∧ s.deriveCode (requestOf p) ≠ 0) ∧
    (∃ (s : State) (s' : State) (p : Packet) (k : KeySlot), keyTakes s s' p 3 ∧ (requestOf p).slot < 64 ∧ (s.modes.life = .provisioned ∨ s.modes.life = .deployed) ∧ s.slot (requestOf p).slot = some k ∧ (k.state = 1 ∨ k.state = 2) ∧ (k.cls = 2 ∨ k.cls = 3) ∧ k.gen < 0xFFFFFFFF ∧ s.parentOk k.parent = true) ∧
    (∃ (s : State) (s' : State) (p : Packet), keyTakes s s' p 3 ∧ s.rotateCode (requestOf p) ≠ 0) ∧
    (∃ (s : State) (s' : State) (p : Packet), keyTakes s s' p 4 ∧ (requestOf p).slot < 64 ∧ (s.modes.life = .provisioned ∨ s.modes.life = .deployed)) ∧
    (∃ (s : State) (s' : State) (p : Packet), keyTakes s s' p 6 ∧ (requestOf p).slot < 64 ∧ (s.modes.life = .provisioned ∨ s.modes.life = .deployed)) :=
  ⟨⟨signer (asking 1 loadWords []), signer (asked 1 loadWords []), packet 1 loadWords, loadedKeyNumber, by and_intros <;> first | decide +kernel | rfl⟩,
   ⟨asking 1 [0] [], asked 1 [0] [], packet 1 [0], by unfold keyTakes; and_intros <;> first | decide +kernel | rfl, by decide +kernel⟩,
   ⟨asking 2 deriveWords [(1, parent)], asked 2 deriveWords [(1, parent)], packet 2 deriveWords, by and_intros <;> first | decide +kernel | rfl⟩,
   ⟨asking 2 deriveWords [], asked 2 deriveWords [], packet 2 deriveWords, by unfold keyTakes; and_intros <;> first | decide +kernel | rfl, by decide +kernel⟩,
   ⟨asking 3 deriveWords [(1, parent), (63, child)], asked 3 deriveWords [(1, parent), (63, child)], packet 3 deriveWords, child, by and_intros <;> first | decide +kernel | rfl⟩,
   ⟨asking 3 deriveWords [], asked 3 deriveWords [], packet 3 deriveWords, by unfold keyTakes; and_intros <;> first | decide +kernel | rfl, by decide +kernel⟩,
   ⟨asking 4 deriveWords [], asked 4 deriveWords [], packet 4 deriveWords, by unfold keyTakes; and_intros <;> first | decide +kernel | rfl, by decide +kernel, by decide +kernel⟩,
   ⟨asking 6 deriveWords [], asked 6 deriveWords [], packet 6 deriveWords, by unfold keyTakes; and_intros <;> first | decide +kernel | rfl, by decide +kernel, by decide +kernel⟩⟩

theorem witness_LifeCycleRequests :
    (∃ (s : State) (s' : State) (p : Packet), s.atWork 0x1C = true ∧ s.lcWaits = false ∧ s.isolated 0x06 = false ∧ s.slqTake 2 = some (p, s') ∧ p.kind = 5 ∧ s.rd HPN_STATUS_READY = 1 ∧ s.rd HPN_CTRL_EN = 1) ∧
    (∃ (s : State) (s' : State) (p : Packet) (i : Instr), s.atWork 0x1C = true ∧ s.lcWaits = false ∧ s.isolated 0x06 = false ∧ s.slqTake 2 = some (p, s') ∧ (s.rd HPN_STATUS_READY = 0 ∨ s.rd HPN_CTRL_EN = 0) ∧ ((i = .keyLoad ∧ p.kind = 1) ∨ (i = .keyDerive ∧ p.kind = 2) ∨ (i = .keyRotate ∧ p.kind = 3) ∨ (i = .keyErase ∧ p.kind = 4) ∨ (i = .lcRequest ∧ p.kind = 5) ∨ (i = .keyQuery ∧ p.kind = 6))) ∧
    (∃ (s : State), s.atWork 0x1C = true) :=
  ⟨⟨asking 5 [0] [], asked 5 [0] [], packet 5 [0], by and_intros <;> first | decide +kernel | exact rfl⟩,
   ⟨(asking 2 deriveWords []).wr HPN_STATUS_READY 0, ((asking 2 deriveWords []).wr HPN_STATUS_READY 0).setQueue 18 .empty, packet 2 deriveWords, .keyDerive, by and_intros <;> first | decide +kernel | exact rfl | exact Or.inr (Or.inl ⟨rfl, rfl⟩)⟩,
   ⟨ready, by decide +kernel⟩⟩

theorem witness_TamperUnit :
    (∃ (s : State), s.aonRunning = false) ∧
    (∃ (s : State) (opened : Nat), s.aonRunning = true ∧ opened < 16 ∧ ((∀ k, k < 4 → s.openCount opened k = s.debounce → s.debounce ≤ s.tpr.counts.getD k 0))) ∧
    (∃ (s : State) (opened : Nat) (k : Nat), s.aonRunning = true ∧ opened < 16 ∧ k < 4 ∧ s.openCount opened k = s.debounce ∧ s.tpr.counts.getD k 0 < s.debounce ∧ s.startup.phase = .ready ∧ 7 ≤ s.startup.line) ∧
    (∃ (s : State) (m : Nat), m < 3 ∧ s.aonRunning = true ∧ s.startup.phase = .ready ∧ 7 ≤ s.startup.line) ∧
    (∃ (s : State) (w : Nat), s.atWork 0x1D = true ∧ w < 2 ^ 32) :=
  ⟨⟨{ ready with domains := List.replicate 14 .stopped }, by decide +kernel⟩,
   ⟨ready, 15, by and_intros <;> decide +kernel⟩,
   ⟨{ ready.wrAll [(TPR_IN_CFG_EN, 15), (TPR_IN_CFG_DEBOUNCE, 7)] with tpr := ⟨[0, 0, 0, 6]⟩ }, 15, 3, by and_intros <;> decide +kernel⟩,
   ⟨ready, 2, by and_intros <;> decide +kernel⟩,
   ⟨ready, 4294967295, by decide +kernel, by decide +kernel⟩⟩

theorem witness_SiltRecords :
    (∃ (code : Nat) (p0 : Nat) (p1 : Nat) (p2 : Nat) (p3 : Nat), WellFormed (.siltEvent code p0 p1 p2 p3)) ∧
    (∃ (s : State), (s.siltIntake = [] ∨ s.siltMayWrite = false)) ∧
    (∃ (s : State) (e : SiltEvent) (rest : List SiltEvent), s.siltIntake = e :: rest ∧ s.siltMayWrite = true) ∧
    (∃ (s : State), s.atWork 0x1E = true) :=
  ⟨⟨0xFFFF, 0xFFFFFFFF, 0, 0, 0, by unfold WellFormed; decide +kernel⟩,
   ⟨ready, by decide +kernel⟩,
   ⟨{ ready with siltIntake := [⟨1, 0, 0, 0, 0, ⟨0, 0⟩, false, false⟩] }, ⟨1, 0, 0, 0, 0, ⟨0, 0⟩, false, false⟩, [], by decide +kernel, by decide +kernel⟩,
   ⟨ready, by decide +kernel⟩⟩

theorem witness_SieveSlices :
    (∃ (s : State), s.atWork 0x1F = true ∧ (s.modes.sieve ≠ .sliced ∨ s.rd SIV_STATUS_SUSPENDED = 1)) ∧
    (∃ (s : State) (id : Nat) (p : Nat) (rest : List (Nat × Nat)), s.atWork 0x1F = true ∧ s.modes.sieve = .sliced ∧ s.rd SIV_STATUS_SUSPENDED = 0 ∧ s.siv.last = none ∧ s.siv.passed = [] ∧ s.sivUntested = (id, p) :: rest ∧ s.sivFits id = true) ∧
    (∃ (s : State) (c : Nat) (id : Nat) (p : Nat) (found : Nat) (x : SivSlice), s.atWork 0x1F = true ∧ WellFormed (.sieveSliceEnd c id p found) ∧ s.deferred = [] ∧ (s.siv.slices.find? fun y => y.region == id && y.piece == p) = some x) ∧
    (∃ (s : State), s.atWork 0x1F = true) :=
  ⟨⟨ready, by decide +kernel, by decide +kernel⟩,
   ⟨inMode ⟨.run, .solo, .blank, .sliced, .idle, .clear, .free⟩, 13, 0, (inMode ⟨.run, .solo, .blank, .sliced, .idle, .clear, .free⟩).sivUntested.tail, by and_intros <;> decide +kernel⟩,
   ⟨{ ready with siv := { ready.siv with slices := [⟨255, 1023, true⟩] } }, 0, 255, 1023, 3, ⟨255, 1023, true⟩, by decide +kernel, by unfold WellFormed; decide +kernel, by decide +kernel, by decide +kernel⟩,
   ⟨ready, by decide +kernel⟩⟩

theorem witness_SieveFullAndRecovery :
    (∃ (s : State) (found : Option SivFailure) (fails : Nat) (regions : Nat) (un : Nat), s.atWork 0x1F = true ∧ WellFormed (.sieveFullDone found fails regions un)) ∧
    (∃ (s : State) (id : Nat), s.atWork 0x1F = true ∧ id < 256 ∧ sivExists id = true ∧ id ≠ 0x01 ∧ id ∉ sivSecret ∧ s.sivUnitEnabled id = false ∧ s.modes.sieve ≠ .full ∧ s.siv.recover = none) ∧
    (∃ (s : State) (id : Nat), s.atWork 0x1F = true ∧ id < 256 ∧ (sivExists id = false ∨ id = 0x01 ∨ id ∈ sivSecret ∨ s.sivUnitEnabled id = true ∨ s.modes.sieve = .full ∨ s.siv.recover ≠ none)) ∧
    (∃ (s : State) (found : Option SivFailure) (fails : Nat), s.atWork 0x1F = true ∧ WellFormed (.recoverDone found fails)) ∧
    (∃ (s : State) (id : Nat), s.atWork 0x1F = true ∧ id < 256) :=
  ⟨⟨ready, some ⟨255, 1023, 0xFFFFFFFF, 71, true, true, 255⟩, 0, 255, 949, by decide +kernel, by unfold WellFormed; decide +kernel⟩,
   ⟨ready, 13, by and_intros <;> decide +kernel⟩,
   ⟨ready, 255, by and_intros <;> decide +kernel⟩,
   ⟨ready, some ⟨255, 1023, 0xFFFFFFFF, 71, true, true, 255⟩, 0, by decide +kernel, by unfold WellFormed; decide +kernel⟩,
   ⟨ready, 255, by decide +kernel, by decide +kernel⟩⟩

theorem witness_SwitchReceivesFrames :
    (∃ (s : State) (k : Nat), s.atWork 0x10 = true ∧ s.live (0x11 + k) = true ∧ k < 6 ∧ s.portUp k = false) ∧
    (∃ (s : State) (k : Nat), s.atWork 0x10 = true ∧ s.live (0x11 + k) = true ∧ k < 6 ∧ s.modes.power = .doze ∧ s.startup.phase = .ready) ∧
    (∃ (s : State) (k : Nat) (len : Nat) (check : FrameCheck), s.atWork 0x10 = true ∧ s.live (0x11 + k) = true ∧ k < 6 ∧ s.portUp k = true ∧ (len < 64 ∨ 9216 < len ∨ check = .badFcs)) ∧
    (∃ (s : State) (k : Nat) (len : Nat) (f : EthFrame), s.atWork 0x10 = true ∧ s.live (0x11 + k) = true ∧ k < 6 ∧ s.portUp k = true ∧ 64 ≤ len ∧ len ≤ 9216 ∧ f.control = some 1 ∧ s.rd (ETP_FC_PAUSE_RX k) = 1 ∧ s.rd (ETP_FC_PFC_EN k) = 0) ∧
    (∃ (s : State) (k : Nat) (len : Nat) (f : EthFrame), s.atWork 0x10 = true ∧ s.live (0x11 + k) = true ∧ k < 6 ∧ s.portUp k = true ∧ 64 ≤ len ∧ len ≤ 9216 ∧ f.control = none ∧ s.bufferRoom k (ceilDiv len 256) = true) ∧
    (∃ (s : State) (k : Nat) (len : Nat) (f : EthFrame), s.atWork 0x10 = true ∧ s.live (0x11 + k) = true ∧ k < 6 ∧ s.portUp k = true ∧ 64 ≤ len ∧ len ≤ 9216 ∧ f.control = none ∧ (s.bufferRoom k (ceilDiv len 256) = false ∨ s.pfcDrops k (s.classOf f k) = true)) ∧
    (∃ (s : State) (k : Nat) (len : Nat) (f : EthFrame), s.atWork 0x10 = true ∧ s.live (0x11 + k) = true ∧ k < 6 ∧ s.portUp k = true ∧ 64 ≤ len ∧ len ≤ 9216 ∧ f.control = none ∧ s.bufferRoom k (ceilDiv len 256) = true ∧ s.pfcDrops k (s.classOf f k) = false ∧ s.engineTakes k f = false ∧ f.linkLocal = false) :=
  ⟨⟨ready, 5, by and_intros <;> decide +kernel⟩,
   ⟨{ up5 with modes := ⟨.doze, .solo, .deployed, .off, .idle, .clear, .free⟩ }, 5, by and_intros <;> decide +kernel⟩,
   ⟨up5, 5, 63, .good, by and_intros <;> decide +kernel⟩,
   ⟨up5, 5, 64, pause, by and_intros <;> decide +kernel⟩,
   ⟨up5, 5, 64, plain, by and_intros <;> decide +kernel⟩,
   ⟨{ up5.wrAll [(ETP_FC_PFC_EN 5, 1), (ETP_FC_PFC_CLASSES 5, 255), (ETP_FC_THR_XOFF 5, 0), (ETP_FC_HEAD_HEADROOM 5, 0)] with swf := { SwfUnit.empty with xoff := [5] } }, 5, 9216, plain, by and_intros <;> decide +kernel⟩,
   ⟨up5, 5, 9216, plain, by and_intros <;> decide +kernel⟩⟩

theorem witness_SwitchSendsFrames :
    (∃ (s : State) (k : Nat) (ecc : Nat), s.atWork 0x10 = true ∧ s.live (0x11 + k) = true ∧ k < 6 ∧ ecc < 5 ∧ s.swf.pauses = [] ∧ ((s.portUp k = false ∨ s.rd (ETP_STATUS_LPI_TX k) = 1 ∨ ∀ d, d < 8 → s.swQueue k d = []))) ∧
    (∃ (s : State) (k : Nat) (d : Nat) (f : SwFrame) (rest : List SwFrame), s.atWork 0x10 = true ∧ s.live (0x11 + k) = true ∧ k < 6 ∧ s.swf.pauses = [] ∧ s.portUp k = true ∧ s.rd (ETP_STATUS_LPI_TX k) = 0 ∧ d < 8 ∧ s.rd (ETP_SCHED_SP_MIN k) ≤ d ∧ s.swQueue k d = f :: rest ∧ ((∀ e, d < e → e < 8 → s.swQueue k e = [])) ∧ (s.egressForm f k).size ≤ 9216 ∧ s.corrects f = false ∧ f.tsId = none) ∧
    (∃ (s : State) (k : Nat), s.atWork 0x10 = true ∧ s.live (0x11 + k) = true ∧ k < 6) ∧
    (∃ (s : State), s.atWork 0x10 = true) ∧
    (∃ (s : State) (k : Nat) (speed : Nat), s.atWork 0x10 = true ∧ s.live (0x11 + k) = true ∧ k < 6 ∧ speed < 3) ∧
    (∃ (s : State) (k : Nat) (mode : Nat), s.atWork (0x11 + k) = true ∧ k < 6 ∧ mode < 4) ∧
    (∃ (s : State) (k : Nat) (w : Nat), s.atWork (0x11 + k) = true ∧ k < 6 ∧ w < 256) :=
  ⟨⟨queued 5, 4, 4, by and_intros <;> decide +kernel⟩,
   ⟨queued 5, 5, 7, stored, [], by and_intros <;> first | decide +kernel | (intro e h1 h2; omega)⟩,
   ⟨ready, 5, by and_intros <;> decide +kernel⟩,
   ⟨ready, by decide +kernel⟩,
   ⟨ready, 5, 2, by and_intros <;> decide +kernel⟩,
   ⟨ready, 5, 3, by and_intros <;> decide +kernel⟩,
   ⟨ready, 5, 255, by and_intros <;> decide +kernel⟩⟩

theorem witness_AddressTableAndMdio :
    (∃ (s : State) (vid : Nat), s.atWork 0x10 = true ∧ vid < 4096) ∧
    (∃ (s : State), s.atWork 0x10 = true) ∧
    (∃ (s : State) (phy : Nat) (reg : Nat), s.atWork 0x10 = true ∧ phy < 32 ∧ reg < 32) ∧
    (∃ (s : State) (data : Nat), s.atWork 0x10 = true ∧ data < 65536) :=
  ⟨⟨ready, 4095, by decide +kernel, by decide +kernel⟩,
   ⟨ready, by decide +kernel⟩,
   ⟨ready, 31, 31, by and_intros <;> decide +kernel⟩,
   ⟨ready, 65535, by decide +kernel, by decide +kernel⟩⟩

theorem witness_HostDma :
    (∃ (s : State) (r : Nat) (v : Nat), s.atWork 0x17 = true ∧ r < 8 ∧ v < 4096) ∧
    (∃ (s : State) (r : Nat) (descs : List TxDesc) (data : List Nat) (err : Bool), s.atWork 0x17 = true ∧ WellFormed (.hdmTxFrame r descs data err) ∧ (s.txOn r = false ∨ s.hdmMoves = false ∨ s.rd SWF_CTRL_EN = 0 ∨ frameSpan (descs.take (ringAvail (ringSize (s.rd (HDM_TX_SIZE r))) (s.rd (HDM_TX_HEAD r)) (s.rd (HDM_TX_TAIL r)))) = none)) ∧
    (∃ (s : State) (r : Nat) (n : Nat) (d : TxDesc) (ds : List TxDesc) (data : List Nat) (err : Bool) (missing : Bool), s.atWork 0x17 = true ∧ WellFormed (.hdmTxFrame r (d :: ds) data err) ∧ s.txOn r = true ∧ s.hdmMoves = true ∧ s.rd SWF_CTRL_EN = 1 ∧ frameSpan ((d :: ds).take (ringAvail (ringSize (s.rd (HDM_TX_SIZE r))) (s.rd (HDM_TX_HEAD r)) (s.rd (HDM_TX_TAIL r)))) = some (n, missing)) ∧
    (∃ (s : State) (r : Nat) (bufs : List Nat) (ecc : Nat), s.atWork 0x17 = true ∧ WellFormed (.hdmRxDeliver r bufs ecc) ∧ s.swQueue 6 r = []) ∧
    (∃ (s : State) (r : Nat) (bufs : List Nat) (ecc : Nat) (f : SwFrame) (rest : List SwFrame), s.atWork 0x17 = true ∧ WellFormed (.hdmRxDeliver r bufs ecc) ∧ s.swQueue 6 r = f :: rest) ∧
    (∃ (s : State) (r : Nat), s.atWork 0x17 = true ∧ r < 8) ∧
    (∃ (s : State), s.atWork 0x17 = true) :=
  ⟨⟨ready, 7, 4095, by and_intros <;> decide +kernel⟩,
   ⟨ready, 7, [desc], [], true, by decide +kernel, by unfold WellFormed; decide +kernel, by decide +kernel⟩,
   ⟨ring, 7, 1, desc, [], [], true, false, by and_intros <;> first | decide +kernel | (unfold WellFormed; decide +kernel)⟩,
   ⟨ready, 7, [], 0, by decide +kernel, by unfold WellFormed; decide +kernel, by decide +kernel⟩,
   ⟨queued 6, 7, [], 0, stored, [], by decide +kernel, by unfold WellFormed; decide +kernel, by decide +kernel⟩,
   ⟨ready, 7, by decide +kernel, by decide +kernel⟩,
   ⟨ready, by decide +kernel⟩⟩

theorem witness_ImageStaging :
    (∃ (s : State) (i : Instr), s.atWork 0x20 = true ∧ (s.rd GRG_CTRL_EN = 0 ∨ s.slqTake 1 = none) ∧ (i = .grgHeader ∨ i = .grgBlock ∨ i = .grgAbandon)) ∧
    (∃ (s : State) (u : State) (p : Packet), s.atWork 0x20 = true ∧ s.rd GRG_CTRL_EN = 1 ∧ s.slqTake 1 = some (p, u)) ∧
    (∃ (s : State) (u : State) (p : Packet) (h : GrgHeader), s.atWork 0x20 = true ∧ s.rd GRG_CTRL_EN = 1 ∧ s.slqTake 1 = some (p, u) ∧ s.grg.header = some h) ∧
    (∃ (s : State), s.atWork 0x20 = true) ∧
    (∃ (s : State) (h : GrgHeader), s.atWork 0x20 = true ∧ s.grg.header = some h) :=
  ⟨⟨ready, .grgAbandon, by and_intros <;> decide +kernel⟩,
   ⟨grog 2, (grog 2).setQueue 17 .empty, packet 2 [0], by decide +kernel, by decide +kernel, rfl⟩,
   ⟨grog 2, (grog 2).setQueue 17 .empty, packet 2 [0], header, by decide +kernel, by decide +kernel, rfl, by decide +kernel⟩,
   ⟨ready, by decide +kernel⟩,
   ⟨grog 2, header, by decide +kernel, by decide +kernel⟩⟩

theorem witness_ActivationAndBootRom :
    (∃ (s : State) (p : Nat), s.atWork 0x20 = true ∧ s.startup.phase = .halted false ∧ p < 4) ∧
    (∃ (s : State) (p : Nat), s.atWork 0x20 = true ∧ s.startup.phase ≠ .halted false ∧ p < 4) ∧
    (∃ (b : List Nat) (data : List Nat) (failed : Nat), WellFormed (.bootromContainer b data failed)) :=
  ⟨⟨at_ (.halted false) 4 .warm, 3, by and_intros <;> decide +kernel⟩,
   ⟨ready, 3, by and_intros <;> decide +kernel⟩,
   ⟨[255], [255], 2, by unfold WellFormed; decide +kernel⟩⟩

theorem witness_NodeCampaigns :
    (∃ (s : State), s.atWork 0x20 = true ∧ s.startup.phase ≠ .halted false ∧ s.grg.campaign = none) ∧
    (∃ (s : State) (c : Campaign), s.atWork 0x20 = true ∧ s.startup.phase ≠ .halted false ∧ s.grg.campaign = some c) ∧
    (∃ (s : State), s.atWork 0x20 = true ∧ s.grg.campaign = none) ∧
    (∃ (s : State) (c : Campaign), s.atWork 0x20 = true ∧ s.grg.campaign = some c) ∧
    (∃ (s : State) (port : Port) (i : Instr), s.atWork 0x20 = true ∧ s.startup.phase = .halted false ∧ (i = .campaign port ∨ i = .stopCampaign port ∨ i = .nodeActivate port)) ∧
    (∃ (s : State), s.atWork 0x20 = true ∧ s.startup.phase ≠ .halted false) :=
  ⟨⟨ready, by and_intros <;> decide +kernel⟩,
   ⟨campaigning, campaign, by and_intros <;> decide +kernel⟩,
   ⟨ready, by decide +kernel, by decide +kernel⟩,
   ⟨campaigning, campaign, by decide +kernel, by decide +kernel⟩,
   ⟨at_ (.halted false) 4 .warm, .pcie, .stopCampaign .pcie, by and_intros <;> decide +kernel⟩,
   ⟨ready, by decide +kernel, by decide +kernel⟩⟩

theorem witness_StoreSaves :
    (∃ (s : State), s.atWork 0x21 = true) ∧
    (∃ (s : State), s.atWork 0x21 = true ∧ s.rd MRL_CTRL_AUTO_SAVE = 0) ∧
    (∃ (s : State), s.atWork 0x21 = true ∧ s.mrl.saving = none) ∧
    (∃ (s : State) (b : Nat) (snap : StoreBank), s.atWork 0x21 = true ∧ s.mrl.saving = some (b, snap) ∧ b < 2 ∧ s.rd MRL_STATUS_PENDING = 0) ∧
    (∃ (s : State) (key : Nat), s.atWork 0x21 = true ∧ key < 2 ^ 16) :=
  ⟨⟨ready, by decide +kernel⟩,
   ⟨ready, by decide +kernel, by decide +kernel⟩,
   ⟨ready, by decide +kernel, by decide +kernel⟩,
   ⟨saving, 1, bank, by and_intros <;> decide +kernel⟩,
   ⟨ready, 65535, by decide +kernel, by decide +kernel⟩⟩

theorem witness_SymbolCodeAndScrubbing :
    (symbolsHit 0 = [] ∧ symbolsHit (15 * 16 ^ 35) = [35] ∧ symbolsHit (1 + 16 ^ 35) = [0, 35]) ∧
    (∃ k v : Nat, k < 36 ∧ 0 < v ∧ v < 16) ∧
    (∃ n m : Nat, n < m ∧ m < dramWords) ∧
    ((dramData 27 ≤ 447 ∧ 447 < dramData 27 + 16) ∧ dramCheck 27 ≤ 503 ∧ 503 < dramCheck 27 + 2) ∧
    (∃ (s : State), s.atWork 0x22 = true ∧ s.rd ITG_CTRL_SCRUB_EN = 0) ∧
    (∃ (s : State) (m : Nat) (found : List ScrubFound), s.atWork 0x22 = true ∧ WellFormed (.itgScrub m found) ∧ s.rd ITG_CTRL_SCRUB_EN = 1 ∧ (∀ e ∈ found, (symbolsHit e.error).length = 1)) ∧
    (∃ (s : State) (m : Nat) (found : List ScrubFound), s.atWork 0x22 = true ∧ WellFormed (.itgScrub m found) ∧ s.rd ITG_CTRL_SCRUB_EN = 1 ∧ (∀ e ∈ found, (symbolsHit e.error).length = 2 ∧ e.page ∉ [0x03, 0x05, 0x07, 0x09, 0x10, 0x1A, 0x1C, 0x21])) ∧
    (∃ (s : State) (m : Nat) (e : ScrubFound), s.atWork 0x22 = true ∧ WellFormed (.itgScrub m [e]) ∧ s.rd ITG_CTRL_SCRUB_EN = 1 ∧ (symbolsHit e.error).length = 2 ∧ e.page = 0x21 ∧ e.item < 2) :=
  ⟨by decide +kernel,
   ⟨35, 15, by decide⟩,
   ⟨0, dramWords - 1, by decide⟩,
   by decide,
   ⟨ready.wr ITG_CTRL_SCRUB_EN 0, by decide +kernel, by decide +kernel⟩,
   ⟨ready.wr ITG_CTRL_SCRUB_EN 1, 3, [⟨2 ^ 60 - 1, 15 * 16 ^ 35, 0x21, 0, true⟩], by decide +kernel, by unfold WellFormed; decide +kernel, by decide +kernel, by decide +kernel⟩,
   ⟨ready.wr ITG_CTRL_SCRUB_EN 1, 0, [⟨dramWords - 1, 1 + 16 ^ 35, 255, 0, true⟩], by decide +kernel, by unfold WellFormed; decide +kernel, by decide +kernel, by decide +kernel⟩,
   ⟨ready.wr ITG_CTRL_SCRUB_EN 1, 2, ⟨0, 3 + 5 * 16, 0x21, 1, false⟩, by and_intros <;> first | decide +kernel | (unfold WellFormed; decide +kernel)⟩⟩

theorem witness_StepRunsTheFrontCommand : (ready.pending = [] ∧ ready.domain 11 = .running) ∧ State.reset.pending = [] ∧ State.reset.domain 11 ≠ .running :=
  by decide +kernel

theorem witness_InvariantIsKept : Invariant State.reset ∧ ∃ t, step State.reset = .next t :=
  ⟨⟨rfl, rfl, by decide, by decide, by decide, by decide, by decide, by decide⟩, _, rfl⟩

theorem witness_CommandsTouchOnlyTheirParts :
    (∃ t : State, exec .lrpClkLost ready = .next t) ∧
    (∃ (t : State) (l : List Part), exec .lrpClkLost ready = .next t ∧ touches .lrpClkLost = some l) :=
  ⟨⟨_, rfl⟩,
   ⟨_, _, rfl, rfl⟩⟩

end
end

section
/-! SUPPORT. The tamper unit: the bits of a set of flags, what a sampling round shows, what an event in service leaves, and what a write
of the configuration takes (R497 to R501). -/

namespace Sys2Proof.Machine

/-! ### Bits -/

theorem bitAt_eq_testBit (v i : Nat) : bitAt v i = v.testBit i := by
  rw [bitAt, Nat.testBit_eq_decide_div_mod_eq]
  rfl

/-- Bit i of a set of flags is flag i. -/
theorem testBit_flagBits (l : List Bool) (i : Nat) : (flagBits l).testBit i = l.getD i false := by
  induction l generalizing i with
  | nil => simp [flagBits]
  | cons b l ih =>
    cases i with
    | zero => cases b <;> simp [flagBits, Nat.testBit_zero]
    | succ i =>
      have tail : ((if b then 1 else 0) + 2 * flagBits l) / 2 = flagBits l := by split <;> omega
      rw [flagBits, Nat.testBit_succ, tail, ih, List.getD_cons_succ]

theorem testBit_flagBits_map_range (p : Nat → Bool) {n i : Nat} (h : i < n) : (flagBits ((List.range n).map p)).testBit i = p i := by
  rw [testBit_flagBits, List.getD_eq_getElem _ _ (by simpa using h)]
  simp

theorem flagBits_map_eq_zero {p : Nat → Bool} {l : List Nat} (h : ∀ k ∈ l, p k = false) : flagBits (l.map p) = 0 := by
  induction l with
  | nil => rfl
  | cons k l ih =>
    rw [List.map_cons, flagBits, h k List.mem_cons_self, ih fun j hj => h j (List.mem_cons_of_mem _ hj)]
    rfl

theorem land_ne_zero_of_testBit {a b i : Nat} (ha : a.testBit i = true) (hb : b.testBit i = true) : a &&& b ≠ 0 := fun h => by
  have both : (a &&& b).testBit i = true := by rw [Nat.testBit_and, ha, hb]; rfl
  rw [h, Nat.zero_testBit] at both
  exact Bool.false_ne_true both

/-! ### Fields outside the pages that an operation touches -/

/-- A field of a page that is not touched reads as before. -/
theorem Kept.rd_eq {T : Nat → Prop} {s t : State} (h : Kept T s t) (f : Field) (hf : ¬ T f.slot) : t.rd f = s.rd f :=
  h.frame (.page f.page) hf f rfl

theorem Recorded.silt {code : Nat} {s : State} (h : Recorded code s) (c p0 p1 p2 p3 : Nat) :
    Recorded code (s.silt c p0 p1 p2 p3) := by
  unfold Recorded
  rw [show _ = _ from s.silt_records c p0 p1 p2 p3]
  split
  case isTrue room =>
    obtain full | ⟨e, he, hc⟩ := h
    · omega
    · exact .inr ⟨e, List.mem_append_left _ he, hc⟩
  case isFalse => exact h

/-- An event for Silt waits in the intake, unless the intake is full (R509). -/
theorem State.recorded_silt (s : State) (c p0 p1 p2 p3 : Nat) : Recorded c (s.silt c p0 p1 p2 p3) := by
  unfold Recorded
  rw [show _ = _ from s.silt_records c p0 p1 p2 p3]
  split
  case isTrue => exact .inr ⟨_, List.mem_append_right _ List.mem_cons_self, rfl⟩
  case isFalse full => exact .inl (Nat.le_of_not_lt full)

theorem Recorded.congr {code : Nat} {s t : State} (h : Recorded code s) (e : t.siltIntake = s.siltIntake) : Recorded code t := by
  unfold Recorded
  rw [e]
  exact h

/-- A request waits for the decision step, whether or not one for the value waited before. -/
theorem State.asks_request (s : State) (r : ModeReq) : Asks r.value (s.request r) := by
  unfold State.request
  split
  case isTrue waits =>
    obtain ⟨q, hq, same⟩ := List.any_eq_true.1 waits
    rw [Bool.and_eq_true, beq_iff_eq] at same
    exact ⟨q, hq, same.1⟩
  case isFalse => exact ⟨r, List.mem_append_right _ List.mem_cons_self, rfl⟩

@[simp] theorem State.request_siltIntake (s : State) (r : ModeReq) : (s.request r).siltIntake = s.siltIntake := by
  unfold State.request; split <;> rfl
@[simp] theorem State.request_hpn (s : State) (r : ModeReq) : (s.request r).hpn = s.hpn := by
  unfold State.request; split <;> rfl
@[simp] theorem State.rd_request (s : State) (r : ModeReq) (f : Field) : (s.request r).rd f = s.rd f := by
  unfold State.request; split <;> rfl
@[simp] theorem State.silt_hpn (s : State) (c p0 p1 p2 p3 : Nat) : (s.silt c p0 p1 p2 p3).hpn = s.hpn := by
  unfold State.silt; split <;> simp

@[simp] theorem State.eraseSlots_siltIntake (s : State) : s.eraseSlots.siltIntake = s.siltIntake := rfl
@[simp] theorem State.eraseSlots_startup (s : State) : s.eraseSlots.startup = s.startup := rfl
@[simp] theorem State.eraseSlots_slots (s : State) : s.eraseSlots.hpn.slots = [] := rfl

theorem State.rd_eraseSlots_ne (s : State) {f : Field} (hvalid : f.key ≠ HPN_STATUS_VALID.key) (hbad : f.key ≠ HPN_STATUS_BAD.key) :
    s.eraseSlots.rd f = s.rd f := by
  have shown : s.eraseSlots.regs = ((s.wr HPN_STATUS_VALID 0).wr HPN_STATUS_BAD 0).regs := rfl
  rw [State.rd_congr shown, State.rd_wr_ne _ _ hbad, State.rd_wr_ne _ _ hvalid]

/-! ### A tamper event (R501) -/

/-- The secret is lost: the island is zeroised, and the operation in progress stops. -/
def State.tamperLoss (s : State) (busy : Bool) : State := if busy && s.live 0x1C then s.tamperCut.zeroise true else s.zeroise false

/-- The sources are latched, with the time of the first, and the event is counted and recorded. -/
def State.tamperLatch (s : State) (ins mons : Nat) (first : Prop) [Decidable first] : State :=
  let s := s.wrAll [(TPR_LATCH_IN, s.rd TPR_LATCH_IN ||| ins), (TPR_LATCH_MON, s.rd TPR_LATCH_MON ||| mons)]
  let s := if first then s.wrAll [(TPR_LATCH_TIME_LO, s.calNow.secs), (TPR_LATCH_TIME_HI, s.calNow.secs / 2 ^ 32)] else s
  (s.countSat TPR_EVENTS 1).silt 0x1D01 (s.rd TPR_LATCH_IN) (s.rd TPR_LATCH_MON)

/-- An event once the secret is lost and its sources are latched. -/
def State.tamperMarked (s : State) (ins mons : Nat) (busy : Bool) : State :=
  (s.tamperLoss busy).tamperLatch ins mons (s.rd TPR_LATCH_IN = 0 ∧ s.rd TPR_LATCH_MON = 0)

/-- Whether a source of an event has its ERASE bit set. -/
abbrev State.tamperErases (s : State) (ins mons : Nat) : Prop :=
  ins &&& s.rd TPR_IN_CFG_ERASE ≠ 0 ∨ mons &&& s.rd TPR_MON_CFG_ERASE ≠ 0

/-- Once it is latched, an event erases the slots where a source's ERASE bit is set, and asks for ALARM. -/
theorem State.tamperEvent_eq (s : State) (ins mons : Nat) (busy : Bool) :
    s.tamperEvent ins mons busy =
      (if (s.tamperMarked ins mons busy).tamperErases ins mons then (s.tamperMarked ins mons busy).tamperErase
        else s.tamperMarked ins mons busy).tamperAlarm := rfl

/-- The parts that the loss of the secret touches: what has been sent, the draws, the queues, Hardpan and the Silt intake. -/
abbrev lossParts (i : Nat) : Prop := Nat.testBit 0x4540000020108003006 i = true

theorem State.tamperLoss_kept (s : State) (busy : Bool) : Kept lossParts s (s.tamperLoss busy) := by
  have hp (m : Nat) (h : m &&& 0x4540000020108003006 = m) : Sub m lossParts := Sub.trans (fun _ => id) h
  unfold State.tamperLoss
  split
  · exact State.zeroise_kept (State.tamperCut_kept (Kept.refl s) (hp _ rfl)) true (hp _ rfl)
  · exact State.zeroise_kept (Kept.refl s) false (hp _ rfl)

theorem State.ready_zeroise (s : State) (busy : Bool) : (s.zeroise busy).rd HPN_STATUS_READY = 0 := State.rd_wr_self _ _ _

theorem State.ready_tamperLoss (s : State) (busy : Bool) : (s.tamperLoss busy).rd HPN_STATUS_READY = 0 := by
  unfold State.tamperLoss
  split <;> exact State.ready_zeroise _ _

/-- The fields that the latch of an event may change. -/
def latchFields : List Field :=
  [TPR_LATCH_IN, TPR_LATCH_MON, TPR_LATCH_TIME_LO, TPR_LATCH_TIME_HI, TPR_EVENTS, SLT_LOST, NOTE_RAW 0x1E, MSIX_PBA]

section
variable (s : State) (ins mons : Nat) (first : Prop) [Decidable first]

theorem State.onlyFields_tamperLatch : OnlyFields latchFields s (s.tamperLatch ins mons first) := by
  intro f hf
  simp only [latchFields, List.forall_mem_cons] at hf
  obtain ⟨hin, hmon, hlo, hhi, hev, hlost, hnote, hpba, -⟩ := hf
  unfold State.tamperLatch
  dsimp only
  rw [State.rd_silt_ne _ _ _ _ _ _ hlost hnote hpba, State.countSat_eq, State.rd_wr_ne _ _ hev]
  split <;> simp only [State.wrAll_cons, State.wrAll_nil, State.rd_wr_ne _ _ hin, State.rd_wr_ne _ _ hmon, State.rd_wr_ne _ _ hlo,
    State.rd_wr_ne _ _ hhi]

theorem State.latchIn_tamperLatch : (s.tamperLatch ins mons first).rd TPR_LATCH_IN = (s.rd TPR_LATCH_IN ||| ins) % 2 ^ 4 := by
  unfold State.tamperLatch
  dsimp only
  rw [State.rd_silt_ne _ _ _ _ _ _ (by decide) (by decide) (by decide), State.countSat_eq, State.rd_wr_ne _ _ (by decide)]
  split <;> simp (disch := decide) only [State.wrAll_cons, State.wrAll_nil, State.rd_wr_ne, State.rd_wr_self]

theorem State.latchMon_tamperLatch : (s.tamperLatch ins mons first).rd TPR_LATCH_MON = (s.rd TPR_LATCH_MON ||| mons) % 2 ^ 3 := by
  unfold State.tamperLatch
  dsimp only
  rw [State.rd_silt_ne _ _ _ _ _ _ (by decide) (by decide) (by decide), State.countSat_eq, State.rd_wr_ne _ _ (by decide)]
  split <;> simp (disch := decide) only [State.wrAll_cons, State.wrAll_nil, State.rd_wr_ne, State.rd_wr_self]

theorem State.events_tamperLatch : (s.tamperLatch ins mons first).rd TPR_EVENTS = min (2 ^ 32 - 1) (s.rd TPR_EVENTS + 1) := by
  unfold State.tamperLatch
  dsimp only
  rw [State.rd_silt_ne _ _ _ _ _ _ (by decide) (by decide) (by decide), State.countSat_eq, State.rd_wr_self, satAdd,
    Nat.mod_eq_of_lt (by simp only; omega)]
  split <;> simp (disch := decide) only [State.wrAll_cons, State.wrAll_nil, State.rd_wr_ne]

theorem State.recorded_tamperLatch : Recorded 0x1D01 (s.tamperLatch ins mons first) := State.recorded_silt _ _ _ _ _ _

theorem State.startup_tamperLatch : (s.tamperLatch ins mons first).startup = s.startup := by
  unfold State.tamperLatch
  dsimp only
  rw [State.silt_startup]
  split <;> rfl
end

/-- The fields that the erasure of every slot in service may change. -/
def eraseFields : List Field := [HPN_STATUS_VALID, HPN_STATUS_BAD, NOTE_RAW 0x1D, SLT_LOST, NOTE_RAW 0x1E, MSIX_PBA]

section
variable {s : State} (hready : s.startup.phase = .ready)
include hready

/-- In service an ERASE source empties every slot at once (R501). -/
theorem State.tamperErase_of_ready :
    s.tamperErase =
      (s.eraseSlots.notice TPR_NOTE_ERASE_DONE).silt 0x1D02 (s.rd TPR_LATCH_IN) (s.rd TPR_LATCH_MON) := by
  unfold State.tamperErase
  rw [if_neg (by simp [hready])]

theorem State.onlyFields_tamperErase : OnlyFields eraseFields s s.tamperErase := by
  intro f hf
  simp only [eraseFields, List.forall_mem_cons] at hf
  obtain ⟨hvalid, hbad, hnote, hlost, hslt, hpba, -⟩ := hf
  rw [State.tamperErase_of_ready hready, State.rd_silt_ne _ _ _ _ _ _ hlost hslt hpba, State.rd_notice_ne _ TPR_NOTE_ERASE_DONE hnote hpba]
  exact s.rd_eraseSlots_ne hvalid hbad

theorem State.slots_tamperErase : s.tamperErase.hpn.slots = [] := by
  rw [State.tamperErase_of_ready hready, State.silt_hpn, State.notice_hpn, State.eraseSlots_slots]

theorem State.startup_tamperErase : s.tamperErase.startup = s.startup := by
  rw [State.tamperErase_of_ready hready, State.silt_startup, State.notice_startup, State.eraseSlots_startup]

theorem Recorded.tamperErase {code : Nat} (h : Recorded code s) : Recorded code s.tamperErase := by
  rw [State.tamperErase_of_ready hready]
  exact Recorded.silt (Recorded.congr h ((State.notice_siltIntake _ _).trans s.eraseSlots_siltIntake)) _ _ _ _ _

/-- In service, once the root has been read, ALARM waits for the decision step (R501). -/
theorem State.tamperAlarm_of_ready (hline : 7 ≤ s.startup.line) : s.tamperAlarm = s.request ⟨.tamper .alarm, 0, 0⟩ := by
  unfold State.tamperAlarm
  rw [hready]
  exact if_neg (Nat.not_lt.2 hline)
end

/-- What an event of the inputs and monitors given leaves, in any state of the start: its sources latched, itself counted and recorded,
and no secret held. -/
structure TamperMarks (ins mons : Nat) (s t : State) : Prop where
  latchIn : t.rd TPR_LATCH_IN = (s.rd TPR_LATCH_IN ||| ins) % 2 ^ 4
  latchMon : t.rd TPR_LATCH_MON = (s.rd TPR_LATCH_MON ||| mons) % 2 ^ 3
  statusMon : t.rd TPR_STATUS_MON = s.rd TPR_STATUS_MON
  events : t.rd TPR_EVENTS = min (2 ^ 32 - 1) (s.rd TPR_EVENTS + 1)
  keysGone : t.rd HPN_STATUS_READY = 0
  recorded : Recorded 0x1D01 t

/-- The marks stand where nothing but the fields of an erasure changes and the record still waits. -/
theorem TamperMarks.of_onlyFields {ins mons : Nat} {s t u : State} (h : TamperMarks ins mons s t) (same : OnlyFields eraseFields t u)
    (recorded : Recorded 0x1D01 u) : TamperMarks ins mons s u where
  latchIn := (same _ (by decide)).trans h.latchIn
  latchMon := (same _ (by decide)).trans h.latchMon
  statusMon := (same _ (by decide)).trans h.statusMon
  events := (same _ (by decide)).trans h.events
  keysGone := (same _ (by decide)).trans h.keysGone
  recorded := recorded

section
variable (s : State) (ins mons : Nat) (busy : Bool)

/-- A field that neither the loss nor the latch may change reads as before. -/
theorem State.rd_tamperMarked_ne {f : Field} (hloss : ¬ lossParts f.slot) (hlatch : ∀ g ∈ latchFields, f.key ≠ g.key) :
    (s.tamperMarked ins mons busy).rd f = s.rd f :=
  (State.onlyFields_tamperLatch _ _ _ _ f hlatch).trans ((s.tamperLoss_kept busy).rd_eq f hloss)

theorem State.marks_tamperMarked : TamperMarks ins mons s (s.tamperMarked ins mons busy) where
  latchIn := by
    rw [State.tamperMarked, State.latchIn_tamperLatch, (s.tamperLoss_kept busy).rd_eq _ (by decide)]
  latchMon := by
    rw [State.tamperMarked, State.latchMon_tamperLatch, (s.tamperLoss_kept busy).rd_eq _ (by decide)]
  statusMon := s.rd_tamperMarked_ne ins mons busy (by decide) (by decide)
  events := by
    rw [State.tamperMarked, State.events_tamperLatch, (s.tamperLoss_kept busy).rd_eq _ (by decide)]
  keysGone := by
    rw [State.tamperMarked, State.onlyFields_tamperLatch _ _ _ _ _ (by decide), State.ready_tamperLoss]
  recorded := State.recorded_tamperLatch _ _ _ _

theorem State.startup_tamperMarked : (s.tamperMarked ins mons busy).startup = s.startup :=
  (State.startup_tamperLatch _ _ _ _).trans ((s.tamperLoss_kept busy).frame .startup (by decide))

theorem State.tamperErases_tamperMarked : (s.tamperMarked ins mons busy).tamperErases ins mons ↔ s.tamperErases ins mons := by
  unfold State.tamperErases
  rw [State.rd_tamperMarked_ne _ _ _ _ (by decide) (by decide), State.rd_tamperMarked_ne _ _ _ _ (by decide) (by decide)]
end

/-- What an event leaves in service: its marks, the request for ALARM, and no slot where an ERASE source is among its sources. -/
theorem State.tamperEvent_leaves {s : State} (hready : s.startup.phase = .ready) (hline : 7 ≤ s.startup.line) (ins mons : Nat)
    (busy : Bool) :
    TamperMarks ins mons s (s.tamperEvent ins mons busy) ∧ Asks (.tamper .alarm) (s.tamperEvent ins mons busy) ∧
      (s.tamperErases ins mons → (s.tamperEvent ins mons busy).hpn.slots = []) := by
  have marks := s.marks_tamperMarked ins mons busy
  have start := s.startup_tamperMarked ins mons busy
  have alarm {u : State} (h : u.startup = s.startup) : u.tamperAlarm = u.request ⟨.tamper .alarm, 0, 0⟩ :=
    State.tamperAlarm_of_ready (h ▸ hready) (h ▸ hline)
  have asked {u : State} (h : TamperMarks ins mons s u) : TamperMarks ins mons s (u.request ⟨.tamper .alarm, 0, 0⟩) :=
    h.of_onlyFields (fun f _ => u.rd_request _ f) (Recorded.congr h.recorded (u.request_siltIntake _))
  have erases := s.tamperErases_tamperMarked ins mons busy
  rw [State.tamperEvent_eq]
  generalize s.tamperMarked ins mons busy = u at *
  have hu : u.startup.phase = .ready := start ▸ hready
  split
  case isTrue =>
    rw [alarm ((State.startup_tamperErase hu).trans start)]
    refine ⟨asked (marks.of_onlyFields (State.onlyFields_tamperErase hu) (Recorded.tamperErase hu marks.recorded)),
      State.asks_request _ _, fun _ => ?_⟩
    rw [State.request_hpn, State.slots_tamperErase hu]
  case isFalse none =>
    rw [alarm start]
    exact ⟨asked marks, State.asks_request _ _, fun due => absurd (erases.2 due) none⟩

/-! ### A sampling round (R497 to R499) -/

/-- The counts of open rounds that a round leaves. -/
def State.roundCounts (s : State) (opened : Nat) : List Nat := (List.range 4).map (s.openCount opened)

/-- The inputs that complete their debounce in a round. -/
def State.roundInputs (s : State) (opened : Nat) : Nat :=
  flagBits ((List.range 4).map fun k => (s.roundCounts opened).getD k 0 == s.debounce && s.tpr.counts.getD k 0 < s.debounce)

/-- A round once it has drawn the mesh bit, counted, and shown the inputs and the die. -/
def State.roundShown (s : State) (opened : Nat) (hot : Bool) : State :=
  ((s.draw.2.emit (.meshBit (bitAt s.draw.1 0))).withCounts (s.roundCounts opened)).wrAll
    [(TPR_STATUS_IN, opened &&& s.rd TPR_IN_CFG_EN), (TPR_STATUS_MON, if hot then 2 else 0)]

/-- Whether the temperature monitor trips in a round. -/
def State.roundTrips (s : State) (hot : Bool) : Bool := hot && bitAt (s.rd TPR_MON_CFG_EN) 1 && !bitAt (s.rd TPR_STATUS_MON) 1

theorem State.tamperRound_stopped {s : State} (h : s.aonRunning = false) (opened : Nat) (hot busy : Bool) :
    s.tamperRound opened hot busy = s := by
  unfold State.tamperRound
  rw [h]
  rfl

theorem State.tamperRound_running {s : State} (h : s.aonRunning = true) (opened : Nat) (hot busy : Bool) :
    s.tamperRound opened hot busy =
      if s.roundInputs opened = 0 ∧ !s.roundTrips hot then s.roundShown opened hot
      else (s.roundShown opened hot).tamperEvent (s.roundInputs opened) (if s.roundTrips hot then 2 else 0) busy := by
  unfold State.tamperRound
  rw [h]
  rfl

theorem State.getD_roundCounts (s : State) (opened : Nat) {k : Nat} (h : k < 4) :
    (s.roundCounts opened).getD k 0 = s.openCount opened k := by
  rw [State.roundCounts, List.getD_eq_getElem _ _ (by simpa using h)]
  simp

/-- An input is among a round's events just when the round completes its debounce. -/
theorem State.testBit_roundInputs (s : State) (opened : Nat) {k : Nat} (h : k < 4) :
    (s.roundInputs opened).testBit k = (s.openCount opened k == s.debounce && s.tpr.counts.getD k 0 < s.debounce) := by
  rw [State.roundInputs, testBit_flagBits_map_range _ h, State.getD_roundCounts _ _ h]

/-- A round in which no input completes its debounce has no event of an input. -/
theorem State.roundInputs_eq_zero {s : State} {opened : Nat}
    (h : ∀ k, k < 4 → s.openCount opened k = s.debounce → s.debounce ≤ s.tpr.counts.getD k 0) : s.roundInputs opened = 0 := by
  refine flagBits_map_eq_zero fun k hk => ?_
  have hk4 : k < 4 := List.mem_range.1 hk
  rw [State.getD_roundCounts _ _ hk4, Bool.and_eq_false_iff, beq_eq_false_iff_ne, decide_eq_false_iff_not, Nat.not_lt]
  by_cases done : s.openCount opened k = s.debounce
  · exact .inr (h k hk4 done)
  · exact .inl done

theorem State.rd_roundShown_ne (s : State) (opened : Nat) (hot : Bool) {f : Field} (hin : f.key ≠ TPR_STATUS_IN.key)
    (hmon : f.key ≠ TPR_STATUS_MON.key) : (s.roundShown opened hot).rd f = s.rd f :=
  (State.rd_wr_ne _ _ hmon).trans (State.rd_wr_ne _ _ hin)

theorem State.statusIn_roundShown (s : State) (opened : Nat) (hot : Bool) :
    (s.roundShown opened hot).rd TPR_STATUS_IN = opened &&& s.rd TPR_IN_CFG_EN := by
  have small : opened &&& s.rd TPR_IN_CFG_EN < 2 ^ 4 := Nat.and_lt_two_pow _ (s.rd_lt TPR_IN_CFG_EN)
  rw [State.roundShown, State.wrAll_cons, State.wrAll_cons, State.wrAll_nil, State.rd_wr_ne _ _ (by decide), State.rd_wr_self,
    Nat.mod_eq_of_lt small]

theorem State.statusMon_roundShown (s : State) (opened : Nat) (hot : Bool) :
    (s.roundShown opened hot).rd TPR_STATUS_MON = if hot then 2 else 0 := by
  rw [State.roundShown, State.wrAll_cons, State.wrAll_cons, State.wrAll_nil, State.rd_wr_self]
  cases hot <;> rfl

/-! ### A monitor's trip (R499) -/

/-- In service every monitor is armed: one that is enabled shows its trip, and the trip is an event. -/
theorem State.monitorTrip_of_ready {s : State} (haon : s.aonRunning = true) (hready : s.startup.phase = .ready) (m : Nat)
    (aon busy : Bool) :
    s.monitorTrip m aon busy =
      if bitAt (s.rd TPR_MON_CFG_EN) m then (s.wr TPR_STATUS_MON (setBit (s.rd TPR_STATUS_MON) m)).tamperEvent 0 (2 ^ m) busy else s := by
  have armed : (aon || m == 1 || (s.startup.phase != .hold && s.startup.phase != .unpowered)) = true := by rw [hready]; simp
  unfold State.monitorTrip
  dsimp only
  rw [haon, armed]
  cases bitAt (s.rd TPR_MON_CFG_EN) m <;> rfl

/-! ### A write of the configuration (R500) -/

/-- EN of the register that a write of the configuration names. -/
abbrev tprEn (mon : Bool) : Field := if mon then TPR_MON_CFG_EN else TPR_IN_CFG_EN
/-- ERASE of the register that a write of the configuration names. -/
abbrev tprErase (mon : Bool) : Field := if mon then TPR_MON_CFG_ERASE else TPR_IN_CFG_ERASE

/-- Whether a write would clear an EN or ERASE bit. -/
abbrev State.tprClears (s : State) (mon : Bool) (w : Nat) : Prop :=
  Nat.land (s.rd (tprEn mon)) (w % 2 ^ (tprEn mon).width) ≠ s.rd (tprEn mon) ∨
    Nat.land (s.rd (tprErase mon)) (w / 16 % 2 ^ (tprEn mon).width) ≠ s.rd (tprErase mon)

/-- The fields that a write of the configuration takes, with their values. -/
def tprTaken (mon : Bool) (w : Nat) : List (Field × Nat) :=
  (tprEn mon, w) :: (tprErase mon, bitsOf w 4 (tprEn mon).width) :: if mon then [] else [(TPR_IN_CFG_DEBOUNCE, bitsOf w 8 3)]

theorem clearsBit_iff (old new : Nat) : clearsBit old new = true ↔ Nat.land old new ≠ old := bne_iff_ne

/-- In DEPLOYED a write that would clear a bit is discarded as a whole; every other write is taken. -/
theorem State.tprCfg_eq (s : State) (mon : Bool) (w : Nat) :
    s.tprCfg mon w =
      if s.modes.life = .deployed ∧ s.tprClears mon w then s.notice TPR_NOTE_CFG_LOCKED else s.wrAll (tprTaken mon w) := by
  have locked (a b c d : Nat) : (s.modes.life == .deployed && (clearsBit a b || clearsBit c d)) = true ↔
      s.modes.life = .deployed ∧ (Nat.land a b ≠ a ∨ Nat.land c d ≠ c) := by
    rw [Bool.and_eq_true, Bool.or_eq_true, beq_iff_eq, clearsBit_iff, clearsBit_iff]
  unfold State.tprCfg
  cases mon
  case false =>
    rw [if_neg Bool.false_ne_true]
    exact if_congr (locked _ _ _ _) rfl rfl
  case true =>
    rw [if_pos rfl]
    exact if_congr (locked _ _ _ _) rfl rfl

section
variable (s : State) (mon : Bool) (w : Nat)

theorem State.en_tprTaken : (s.wrAll (tprTaken mon w)).rd (tprEn mon) = w % 2 ^ (tprEn mon).width := by
  cases mon <;> simp (disch := decide) [tprTaken, State.rd_wr_ne]

theorem State.erase_tprTaken : (s.wrAll (tprTaken mon w)).rd (tprErase mon) = w / 16 % 2 ^ (tprEn mon).width := by
  cases mon <;> simp (disch := decide) [tprTaken, tprEn, tprErase, State.rd_wr_ne, bitsOf]

theorem State.debounce_tprTaken : (s.wrAll (tprTaken false w)).rd TPR_IN_CFG_DEBOUNCE = w / 256 % 8 := by
  simp [tprTaken, bitsOf]

theorem State.note_tprTaken : (s.wrAll (tprTaken mon w)).rd (NOTE_RAW 0x1D) = s.rd (NOTE_RAW 0x1D) := by
  cases mon <;> simp (disch := decide) [tprTaken, State.rd_wr_ne]
end

/-- A host write's effect on the other port leaves the tamper unit's page alone. -/
theorem State.rd_hostWrote_tpr (s : State) (port : Port) (b : Bool) (a : Nat) {f : Field} (h : f.page = 0x1D) :
    (s.hostWrote port b a).rd f = s.rd f :=
  State.rd_hostWrote_ne _ _ _ _ (fun e => by rw [Field.page, e] at h; exact absurd h (by decide))
    (fun e => by rw [Field.page, e] at h; exact absurd h (by decide))

theorem tprEn_page (mon : Bool) : (tprEn mon).page = 0x1D := by cases mon <;> rfl
theorem tprErase_page (mon : Bool) : (tprErase mon).page = 0x1D := by cases mon <;> rfl

theorem State.tprClears_hostWrote (s : State) (port : Port) (b : Bool) (a : Nat) (mon : Bool) (w : Nat) :
    (s.hostWrote port b a).tprClears mon w ↔ s.tprClears mon w := by
  unfold State.tprClears
  rw [State.rd_hostWrote_tpr _ _ _ _ (tprEn_page mon), State.rd_hostWrote_tpr _ _ _ _ (tprErase_page mon)]

/-! ### The commands -/

theorem tamperSamplingRound_stopped (s : State) (opened : Nat) (hot busy : Bool) (h : s.aonRunning = false) :
    Completes (.tamperSamplingRound opened hot busy) s fun t => t = s :=
  ⟨_, rfl, State.tamperRound_stopped h opened hot busy⟩

theorem tamperSamplingRound_quiet (s : State) (opened : Nat) (busy : Bool) (haon : s.aonRunning = true)
    (hquiet : ∀ k, k < 4 → s.openCount opened k = s.debounce → s.debounce ≤ s.tpr.counts.getD k 0) :
    Completes (.tamperSamplingRound opened false busy) s fun t =>
      t.tpr.counts = (List.range 4).map (s.openCount opened) ∧ t.rd TPR_STATUS_IN = Nat.land opened (s.rd TPR_IN_CFG_EN) ∧
      t.rd TPR_STATUS_MON = 0 ∧ t.draws = s.draws + 1 ∧ t.emitted.length = s.emitted.length + 1 ∧ t.hpn = s.hpn ∧
      t.rd TPR_LATCH_IN = s.rd TPR_LATCH_IN ∧ t.modeReqs = s.modeReqs := by
  have shown : s.tamperRound opened false busy = s.roundShown opened false := by
    rw [State.tamperRound_running haon, if_pos ⟨State.roundInputs_eq_zero hquiet, rfl⟩]
  refine ⟨s.roundShown opened false, congrArg Host.Outcome.next shown, rfl, s.statusIn_roundShown opened false,
    s.statusMon_roundShown opened false, rfl, ?_, rfl, s.rd_roundShown_ne opened false (by decide) (by decide), rfl⟩
  exact List.length_append

theorem tamperSamplingRound_event (s : State) (opened k : Nat) (hot busy : Bool) (haon : s.aonRunning = true) (hk : k < 4)
    (hdone : s.openCount opened k = s.debounce) (hnew : s.tpr.counts.getD k 0 < s.debounce) (hready : s.startup.phase = .ready)
    (hline : 7 ≤ s.startup.line) :
    Completes (.tamperSamplingRound opened hot busy) s fun t =>
      bitAt (t.rd TPR_LATCH_IN) k = true ∧ t.rd TPR_EVENTS = min (2 ^ 32 - 1) (s.rd TPR_EVENTS + 1) ∧ t.rd HPN_STATUS_READY = 0 ∧
      Recorded 0x1D01 t ∧ Asks (.tamper .alarm) t ∧ (bitAt (s.rd TPR_IN_CFG_ERASE) k = true → t.hpn.slots = []) := by
  have source : (s.roundInputs opened).testBit k = true := by
    rw [State.testBit_roundInputs _ _ hk, hdone, beq_self_eq_true, Bool.true_and, decide_eq_true hnew]
  have event : s.roundInputs opened ≠ 0 := fun h => by
    rw [h, Nat.zero_testBit] at source
    exact Bool.false_ne_true source
  have run := State.tamperRound_running haon opened hot busy
  rw [if_neg fun h => event h.1] at run
  obtain ⟨marks, asks, erased⟩ := State.tamperEvent_leaves (s := s.roundShown opened hot) hready hline (s.roundInputs opened)
    (if s.roundTrips hot then 2 else 0) busy
  refine ⟨_, congrArg Host.Outcome.next run, ?_, ?_, marks.keysGone, marks.recorded, asks, fun due => erased (.inl ?_)⟩
  · rw [marks.latchIn, bitAt_eq_testBit, Nat.testBit_mod_two_pow, Nat.testBit_or, source, Bool.or_true, decide_eq_true hk]
    rfl
  · rw [marks.events, State.rd_roundShown_ne _ _ _ (by decide) (by decide)]
  · rw [State.rd_roundShown_ne _ _ _ (by decide) (by decide)]
    exact land_ne_zero_of_testBit source (bitAt_eq_testBit _ _ ▸ due)

theorem tamperMonitorTrip_inService (s : State) (m : Nat) (aon busy : Bool) (hm : m < 3) (haon : s.aonRunning = true)
    (hready : s.startup.phase = .ready) (hline : 7 ≤ s.startup.line) :
    Completes (.tamperMonitorTrip m aon busy) s fun t =>
      if bitAt (s.rd TPR_MON_CFG_EN) m then
        bitAt (t.rd TPR_LATCH_MON) m = true ∧ bitAt (t.rd TPR_STATUS_MON) m = true ∧
        t.rd TPR_EVENTS = min (2 ^ 32 - 1) (s.rd TPR_EVENTS + 1) ∧ t.rd HPN_STATUS_READY = 0 ∧ Recorded 0x1D01 t ∧
        Asks (.tamper .alarm) t ∧ (bitAt (s.rd TPR_MON_CFG_ERASE) m = true → t.hpn.slots = [])
      else t = s := by
  have run := State.monitorTrip_of_ready haon hready m aon busy
  refine ⟨_, congrArg Host.Outcome.next run, ?_⟩
  dsimp only
  by_cases enabled : bitAt (s.rd TPR_MON_CFG_EN) m = true
  case neg => rw [if_neg enabled, if_neg enabled]
  rw [if_pos enabled, if_pos enabled]
  obtain ⟨marks, asks, erased⟩ := State.tamperEvent_leaves (s := s.wr TPR_STATUS_MON (setBit (s.rd TPR_STATUS_MON) m)) hready hline
    0 (2 ^ m) busy
  have source : (2 ^ m).testBit m = true := Nat.testBit_two_pow_self
  refine ⟨?_, ?_, ?_, marks.keysGone, marks.recorded, asks, fun due => erased (.inr ?_)⟩
  · rw [marks.latchMon, bitAt_eq_testBit, Nat.testBit_mod_two_pow, Nat.testBit_or, source, Bool.or_true, decide_eq_true hm]
    rfl
  · rw [marks.statusMon, State.rd_wr_self, Nat.mod_eq_of_lt (setBit_lt (s.rd_lt TPR_STATUS_MON) hm), bitAt_setBit]
  · rw [marks.events, State.rd_wr_ne _ _ (by decide)]
  · rw [State.rd_wr_ne _ _ (by decide)]
    exact land_ne_zero_of_testBit source (bitAt_eq_testBit _ _ ▸ due)

theorem tprCfgWrite_atWork (s : State) (port : Port) (mon : Bool) (w : Nat) (h : s.atWork 0x1D = true) :
    Completes (.tprCfgWrite port mon w) s fun t =>
      if s.modes.life = .deployed ∧ s.tprClears mon w then
        OnlyFields [NOTE_RAW 0x1D, NOTE_RAW 0x01, MSIX_PBA] s t ∧ Noted TPR_NOTE_CFG_LOCKED t
      else
        t.rd (tprEn mon) = w % 2 ^ (tprEn mon).width ∧ t.rd (tprErase mon) = w / 16 % 2 ^ (tprEn mon).width ∧
        (mon = false → t.rd TPR_IN_CFG_DEBOUNCE = w / 256 % 8) ∧ t.rd (NOTE_RAW 0x1D) = s.rd (NOTE_RAW 0x1D) := by
  obtain ⟨live, runs⟩ := Bool.and_eq_true_iff.1 h
  have page : (if mon then TPR_MON_CFG_EN.addr else TPR_IN_CFG_EN.addr) / 0x1000 = 0x1D := by cases mon <;> rfl
  refine ⟨_, congrArg Host.Outcome.next (State.effect_of port (page ▸ live) (page ▸ runs) _), ?_⟩
  generalize (if mon then TPR_MON_CFG_EN.addr else TPR_IN_CFG_EN.addr) = addr
  have same : (s.hostWrote port false addr).modes.life = .deployed ∧ (s.hostWrote port false addr).tprClears mon w ↔
      s.modes.life = .deployed ∧ s.tprClears mon w := by
    rw [State.hostWrote_modes, State.tprClears_hostWrote]
  rw [State.tprCfg_eq]
  by_cases locked : s.modes.life = .deployed ∧ s.tprClears mon w
  case pos =>
    rw [if_pos (same.2 locked), if_pos locked]
    refine ⟨fun f hf => ?_, State.noted_notice _ _ (by decide)⟩
    simp only [List.forall_mem_cons] at hf
    obtain ⟨hnote, hhif, hpba, -⟩ := hf
    rw [State.rd_notice_ne _ TPR_NOTE_CFG_LOCKED hnote hpba, State.rd_hostWrote_ne _ _ _ _ hhif hpba]
  case neg =>
    rw [if_neg (mt same.1 locked), if_neg locked]
    refine ⟨State.en_tprTaken _ _ _, State.erase_tprTaken _ _ _, fun input => ?_, ?_⟩
    · subst input
      exact State.debounce_tprTaken _ _
    · rw [State.note_tprTaken, State.rd_hostWrote_tpr _ _ _ _ rfl]

/-- Settles O43: each clause by the lemma of its command. A round that completes no debounce only shows and counts; a round that does,
and an enabled monitor's trip, are events, whose stages keep what the stages before them left; a write of the configuration is
discarded as a whole or taken as a whole. -/
theorem tamperUnit : Obligations.TamperUnit :=
  ⟨tamperSamplingRound_stopped,
   fun s opened busy haon _ hquiet => tamperSamplingRound_quiet s opened busy haon hquiet,
   fun s opened k hot busy haon _ hk hdone hnew hready hline =>
     tamperSamplingRound_event s opened k hot busy haon hk hdone hnew hready hline,
   tamperMonitorTrip_inService,
   fun s port mon w h _ => tprCfgWrite_atWork s port mon w h⟩

end Sys2Proof.Machine
end

section
/-! SUPPORT. The Silt event recorder: what a notice leaves of the others, what the copy of a record on U5 touches, what a write to the
log and its clearing leave, and what each command of SLT does (R509 to R516). -/

namespace Sys2Proof.Machine

/-! ### Notices and counts -/

/-- Setting a clear bit does not carry into the bits above it. -/
theorem add_two_pow_div {v b i : Nat} (clear : bitAt v b = false) (above : b < i) : (v + 2 ^ b) / 2 ^ i = v / 2 ^ i := by
  obtain ⟨d, rfl⟩ : ∃ d, i = b + 1 + d := ⟨i - (b + 1), by omega⟩
  have even : v / 2 ^ b % 2 ≠ 1 := by simpa [bitAt] using clear
  rw [Nat.pow_add, Nat.pow_succ, ← Nat.div_div_eq_div_mul, ← Nat.div_div_eq_div_mul, ← Nat.div_div_eq_div_mul,
    ← Nat.div_div_eq_div_mul, Nat.add_div_right _ (Nat.two_pow_pos b)]
  congr 1
  omega

/-- A bit that is set stays so where another is set. -/
theorem bitAt_setBit_of_bitAt {v b i : Nat} (h : bitAt v i = true) : bitAt (setBit v b) i = true := by
  unfold setBit
  split
  case isTrue => exact h
  case isFalse clear =>
    rw [Bool.not_eq_true] at clear
    obtain below | rfl | above := Nat.lt_trichotomy i b
    · rw [bitAt_eq_testBit, Nat.add_comm, Nat.testBit_two_pow_add_gt below, ← bitAt_eq_testBit, h]
    · exact absurd h (by rw [clear]; exact Bool.false_ne_true)
    · rw [bitAt, add_two_pow_div clear above]
      exact h

/-- A notice stays set where another of its page is raised. -/
theorem Noted.notice {m : Notice} {s : State} (h : Noted m s) (n : Notice) (page : n.page = m.page) (hn : n.bit < 32) :
    Noted m (s.notice n) := by
  have raised : (s.notice n).rd (NOTE_RAW m.page) = setBit (s.rd (NOTE_RAW m.page)) n.bit := page ▸ State.raises_notice s n hn
  unfold Noted
  rw [raised]
  exact bitAt_setBit_of_bitAt h

theorem Noted.wr {m : Notice} {s : State} (h : Noted m s) {f : Field} (v : Nat) (hf : (NOTE_RAW m.page).key ≠ f.key) :
    Noted m (s.wr f v) := Noted.congr h (State.rd_wr_ne _ _ hf)

theorem Noted.noticeIf {m : Notice} {s : State} (h : Noted m s) (b : Bool) (n : Notice) (page : n.page = m.page) (hn : n.bit < 32) :
    Noted m (s.noticeIf b n) := by
  cases b
  case false => exact h
  case true => exact Noted.notice h n page hn

theorem State.rd_noticeIf_ne (s : State) (b : Bool) (n : Notice) {f : Field} (h : f.key ≠ (NOTE_RAW n.page).key)
    (k : f.key ≠ MSIX_PBA.key) : (s.noticeIf b n).rd f = s.rd f := by
  cases b
  case false => rfl
  case true => exact s.rd_notice_ne n h k

@[simp] theorem State.noticeIf_siltIntake (s : State) (b : Bool) (n : Notice) : (s.noticeIf b n).siltIntake = s.siltIntake := by
  cases b
  case false => rfl
  case true => exact s.notice_siltIntake n
@[simp] theorem State.noticeIf_siltLog (s : State) (b : Bool) (n : Notice) : (s.noticeIf b n).siltLog = s.siltLog := by
  cases b
  case false => rfl
  case true => exact s.notice_siltLog n

/-- A saturating count rises by what it counts, up to its field's largest value. -/
theorem State.rd_countSat_self (s : State) (f : Field) (d : Nat) :
    (s.countSat f d).rd f = min (2 ^ f.width - 1) (s.rd f + d) := by
  have small : min (2 ^ f.width - 1) (s.rd f + d) < 2 ^ f.width := by
    have := Nat.two_pow_pos f.width
    omega
  rw [State.countSat_eq, State.rd_wr_self, satAdd, Nat.mod_eq_of_lt small]

/-! ### The intake (R509) -/

@[simp] theorem State.silt_siltLog (s : State) (c p0 p1 p2 p3 : Nat) : (s.silt c p0 p1 p2 p3).siltLog = s.siltLog := by
  unfold State.silt; split <;> simp

/-- An event that finds 64 waiting counts as lost. -/
theorem State.silt_of_full {s : State} (h : 64 ≤ s.siltIntake.length) (c p0 p1 p2 p3 : Nat) :
    s.silt c p0 p1 p2 p3 = (s.countSat SLT_LOST 1).notice SLT_NOTE_LOST := if_neg (Nat.not_lt.2 h)

/-! ### The copy of a record on U5 (R514) -/

/-- The parts that a verified packet touches: what has been sent, the queues, and the pages of HIF and SLQ. -/
abbrev packetParts (i : Nat) : Prop := Nat.testBit 0x40000020000003002 i = true

theorem packetParts_sub {m : Nat} (h : m &&& 0x40000020000003002 = m) : Sub m packetParts := Sub.trans (fun _ => id) h

/-- A packet that a unit reports passes its carry check, so it records no event. -/
theorem State.slqPush_kept_packetParts (s : State) (q kind prio : Nat) (words : List Nat) (pad : Nat) :
    Kept packetParts s (s.slqPush q kind prio words pad) := by
  refine State.whenLive_kept (Kept.refl s) _ _ (fun t ht => ?_) (packetParts_sub rfl)
  have queue := packetParts_sub (m := 0x3000) rfl
  have page := packetParts_sub (m := 0x40000020000000002) rfl
  unfold State.slqPut
  split
  case isTrue => exact ht
  split
  case isTrue => exact State.slqDropNewest_kept ht q page
  split
  case isTrue => exact State.slqSettle_kept (State.setQueue_kept ht q _ queue) q page
  split
  case isTrue => exact State.slqDropNewest_kept (State.slqReached_kept ht q _ page) q page
  exact State.slqAdmit_kept ht q _ (packetParts_sub rfl)

/-! ### A new record (R510, R514, R515) -/

/-- The log with a new record, before its copy. -/
def State.siltAppended (s : State) (log : List SiltRecord) (r : SiltRecord) : State :=
  ({ s with siltLog := log ++ [r] }.siltChanged).notice SLT_NOTE_RECORD

section
variable (s : State) (log : List SiltRecord) (r : SiltRecord)

theorem State.siltPut_kept_packetParts : Kept packetParts (s.siltAppended log r) (s.siltPut log r) := by
  have put : s.siltPut log r =
      if (s.siltAppended log r).rdB SLT_CTRL_COPY_EN then (s.siltAppended log r).slqPush 5 0x01 3 r.words else s.siltAppended log r := rfl
  rw [put]
  split
  case isTrue => exact State.slqPush_kept_packetParts _ _ _ _ _ _
  case isFalse => exact Kept.refl _

@[simp] theorem State.siltPut_siltLog : (s.siltPut log r).siltLog = log ++ [r] :=
  ((s.siltPut_kept_packetParts log r).frame .siltLog (by decide)).trans (State.notice_siltLog _ _)

@[simp] theorem State.siltPut_siltIntake : (s.siltPut log r).siltIntake = s.siltIntake :=
  ((s.siltPut_kept_packetParts log r).frame .siltIntake (by decide)).trans (State.notice_siltIntake _ _)

theorem State.change_siltPut : (s.siltPut log r).rd SLT_CHANGE = (s.rd SLT_CHANGE / 2 * 2 + 2) % 2 ^ 32 := by
  rw [(s.siltPut_kept_packetParts log r).rd_eq _ (by decide), State.siltAppended, State.rd_notice_ne _ _ (by decide) (by decide),
    State.siltChanged, State.rd_wr_self]
  rfl

theorem State.noted_siltPut : Noted SLT_NOTE_RECORD (s.siltPut log r) :=
  Noted.congr (State.noted_notice _ SLT_NOTE_RECORD (by decide)) ((s.siltPut_kept_packetParts log r).rd_eq _ (by decide))
end

/-! ### A repeat (R510, R515) -/

theorem SiltRecord.repeatedBy_iff (r : SiltRecord) (e : SiltEvent) :
    r.repeatedBy e = true ↔ r.event.code = e.code ∧ r.event.p0 = e.p0 ∧ r.event.p1 = e.p1 ∧ r.event.p2 = e.p2 ∧ r.event.p3 = e.p3 ∧
      r.repeats < 65535 := by
  simp only [SiltRecord.repeatedBy, Bool.and_eq_true, beq_iff_eq, decide_eq_true_eq, and_assoc]

/-- Only the newest record changes. -/
theorem bumpLast_concat (l : List SiltRecord) (r : SiltRecord) : bumpLast (l ++ [r]) = l ++ [⟨r.event, r.repeats + 1⟩] := by
  induction l with
  | nil => rfl
  | cons a l ih =>
    have step : bumpLast (a :: (l ++ [r])) = a :: bumpLast (l ++ [r]) := by cases l <;> rfl
    rw [List.cons_append, step, ih, List.cons_append]

theorem dropLast_bumpLast (l : List SiltRecord) : (bumpLast l).dropLast = l.dropLast := by
  obtain rfl | ⟨l, r, rfl⟩ := l.eq_nil_or_concat'
  · rfl
  · rw [bumpLast_concat, List.dropLast_concat, List.dropLast_concat]

theorem getLast?_bumpLast {l : List SiltRecord} {r : SiltRecord} (h : l.getLast? = some r) :
    (bumpLast l).getLast? = some ⟨r.event, r.repeats + 1⟩ := by
  obtain ⟨l, rfl⟩ := List.getLast?_eq_some_iff.1 h
  rw [bumpLast_concat, List.getLast?_concat]

/-- The log with its newest record repeated, and the time of the repeat. -/
def State.siltRepeated (s : State) (e : SiltEvent) : State :=
  ({ s with siltLog := bumpLast s.siltLog }.siltChanged).wrAll
    [(SLT_REPEAT_TIME_LO, e.time.secs), (SLT_REPEAT_TIME_HI_SECONDS, e.time.secs / 2 ^ 32), (SLT_REPEAT_TIME_HI_FRACTION, e.time.frac)]

section
variable (s : State) (e : SiltEvent)

theorem State.change_siltRepeated : (s.siltRepeated e).rd SLT_CHANGE = (s.rd SLT_CHANGE / 2 * 2 + 2) % 2 ^ 32 := by
  simp (disch := decide) only [State.siltRepeated, State.wrAll_cons, State.wrAll_nil, State.rd_wr_ne]
  exact State.rd_wr_self _ SLT_CHANGE _

theorem State.time_siltRepeated : (s.siltRepeated e).rd SLT_REPEAT_TIME_LO = e.time.secs % 2 ^ 32 := by
  simp (disch := decide) only [State.siltRepeated, State.wrAll_cons, State.wrAll_nil, State.rd_wr_ne, State.rd_wr_self]
end

/-! ### An event that finds the log full (R511) -/

section
variable (s : State)

@[simp] theorem State.siltFull_siltLog : s.siltFull.siltLog = s.siltLog := by simp [State.siltFull]
@[simp] theorem State.siltFull_siltIntake : s.siltFull.siltIntake = s.siltIntake := by simp [State.siltFull]

theorem State.full_siltFull : s.siltFull.rd SLT_STATUS_FULL = 1 := State.rd_wr_self _ _ _

theorem State.lost_siltFull : s.siltFull.rd SLT_LOST = min (2 ^ SLT_LOST.width - 1) (s.rd SLT_LOST + 1) := by
  rw [State.siltFull, State.rd_wr_ne _ _ (by decide), State.rd_noticeIf_ne _ _ _ (by decide) (by decide),
    State.rd_notice_ne _ _ (by decide) (by decide), State.rd_countSat_self]

theorem State.notedLost_siltFull : Noted SLT_NOTE_LOST s.siltFull :=
  Noted.wr (Noted.noticeIf (State.noted_notice _ SLT_NOTE_LOST (by decide)) _ SLT_NOTE_FULL rfl (by decide)) _ (by decide)

theorem State.notedFull_siltFull (first : s.rd SLT_STATUS_FULL = 0) : Noted SLT_NOTE_FULL s.siltFull := by
  unfold State.siltFull
  rw [decide_eq_true first]
  exact Noted.wr (State.noted_notice _ SLT_NOTE_FULL (by decide)) _ (by decide)
end

/-! ### What a write to the log does (R510, R511) -/

/-- Whether the event repeats the newest record. -/
abbrev State.siltRepeats (s : State) (e : SiltEvent) : Prop :=
  ∃ r, s.siltLog.getLast? = some r ∧ r.event.code = e.code ∧ r.event.p0 = e.p0 ∧ r.event.p1 = e.p1 ∧ r.event.p2 = e.p2 ∧
    r.event.p3 = e.p3 ∧ r.repeats < 65535

section
variable {s : State} {e : SiltEvent}

theorem State.siltWrite_of_full (full : 4096 ≤ s.siltLog.length) : s.siltWrite e = s.siltFull := if_pos full

theorem State.siltWrite_of_repeats (room : ¬ 4096 ≤ s.siltLog.length) (same : s.siltRepeats e) : s.siltWrite e = s.siltRepeated e := by
  obtain ⟨r, newest, equal⟩ := same
  unfold State.siltWrite
  rw [if_neg room, newest]
  exact if_pos ((r.repeatedBy_iff e).2 equal)

theorem State.siltWrite_of_not_repeats (room : ¬ 4096 ≤ s.siltLog.length) (other : ¬ s.siltRepeats e) : s.siltWrite e = s.siltNew e := by
  unfold State.siltWrite
  rw [if_neg room]
  cases newest : s.siltLog.getLast? with
  | none => rfl
  | some r => exact if_neg fun same => other ⟨r, newest, (r.repeatedBy_iff e).1 same⟩
end

/-- What the write of an event leaves of the log: on a full log the event is lost; in a log with room it repeats the newest record or
becomes a new one. -/
def SiltWritten (e : SiltEvent) (s t : State) : Prop :=
  if 4096 ≤ s.siltLog.length then
    t.siltLog = s.siltLog ∧ t.rd SLT_STATUS_FULL = 1 ∧ t.rd SLT_LOST = min (2 ^ SLT_LOST.width - 1) (s.rd SLT_LOST + 1) ∧
    Noted SLT_NOTE_LOST t ∧ (s.rd SLT_STATUS_FULL = 0 → Noted SLT_NOTE_FULL t)
  else
    t.rd SLT_CHANGE = (s.rd SLT_CHANGE / 2 * 2 + 2) % 2 ^ 32 ∧
    if s.siltRepeats e then
      t.siltLog.length = s.siltLog.length ∧ t.siltLog.dropLast = s.siltLog.dropLast ∧
      (∀ r, s.siltLog.getLast? = some r → t.siltLog.getLast? = some ⟨r.event, r.repeats + 1⟩) ∧
      t.rd SLT_REPEAT_TIME_LO = e.time.secs % 2 ^ 32
    else t.siltLog = s.siltLog ++ [⟨e, 1⟩] ∧ Noted SLT_NOTE_RECORD t

section
variable (s : State) (e : SiltEvent)

theorem State.siltWrite_written : SiltWritten e s (s.siltWrite e) := by
  unfold SiltWritten
  split
  case isTrue full =>
    rw [State.siltWrite_of_full full]
    exact ⟨s.siltFull_siltLog, s.full_siltFull, s.lost_siltFull, s.notedLost_siltFull, s.notedFull_siltFull⟩
  case isFalse room =>
    split
    case isTrue same =>
      rw [State.siltWrite_of_repeats room same]
      exact ⟨s.change_siltRepeated e, bumpLast_length _, dropLast_bumpLast _, fun _ => getLast?_bumpLast, s.time_siltRepeated e⟩
    case isFalse other =>
      rw [State.siltWrite_of_not_repeats room other]
      exact ⟨s.change_siltPut _ _, s.siltPut_siltLog _ _, s.noted_siltPut _ _⟩

/-- The write of an event, which has left the intake, does not change the intake. -/
theorem State.siltWrite_siltIntake : (s.siltWrite e).siltIntake = s.siltIntake := by
  by_cases full : 4096 ≤ s.siltLog.length
  case pos => rw [State.siltWrite_of_full full, State.siltFull_siltIntake]
  by_cases same : s.siltRepeats e
  case pos =>
    rw [State.siltWrite_of_repeats full same]
    rfl
  case neg => rw [State.siltWrite_of_not_repeats full same, State.siltNew, State.siltPut_siltIntake]
end

/-! ### The clearing (R512, R516) -/

section
variable (s : State) (who : Nat)

@[simp] theorem State.siltClear_siltLog :
    (s.siltClear who).siltLog = [⟨⟨0x1E01, s.siltLog.length, s.rd SLT_LOST, who, 0, s.calNow, s.calValid, false⟩, 1⟩] := by
  simp [State.siltClear]

@[simp] theorem State.siltClear_siltIntake : (s.siltClear who).siltIntake = s.siltIntake := by simp [State.siltClear]

theorem State.lost_siltClear : (s.siltClear who).rd SLT_LOST = 0 := by
  rw [State.siltClear, State.rd_notice_ne _ _ (by decide) (by decide), State.rd_wr_ne _ _ (by decide), State.rd_wr_self]
  rfl

theorem State.full_siltClear : (s.siltClear who).rd SLT_STATUS_FULL = 0 := by
  rw [State.siltClear, State.rd_notice_ne _ _ (by decide) (by decide), State.rd_wr_self]
  rfl

theorem State.change_siltClear : (s.siltClear who).rd SLT_CHANGE = (s.rd SLT_CHANGE / 2 * 2 + 2) % 2 ^ 32 := by
  rw [State.siltClear, State.rd_notice_ne _ _ (by decide) (by decide), State.rd_wr_ne _ _ (by decide), State.rd_wr_ne _ _ (by decide),
    State.change_siltPut]

theorem State.notedCleared_siltClear : Noted SLT_NOTE_CLEARED (s.siltClear who) := State.noted_notice _ _ (by decide)

theorem State.notedRecord_siltClear : Noted SLT_NOTE_RECORD (s.siltClear who) :=
  Noted.notice (Noted.wr (Noted.wr (State.noted_siltPut _ _ _) _ (by decide)) _ (by decide)) _ rfl (by decide)
end

/-- The right key clears the log. -/
theorem State.sltCmd_of_key {s : State} (port : Port) {key : Nat} (h : key = 0x51C7) :
    s.sltCmd port true key = s.siltClear (if s.startup.phase == .halted false then 2 else port.code) := by
  rw [h]
  rfl

theorem State.sltCmd_of_not_key {s : State} (port : Port) {key : Nat} (h : key ≠ 0x51C7) : s.sltCmd port true key = s :=
  if_neg (by simpa using h)

@[simp] theorem State.calNow_hostWrote (s : State) (port : Port) (b : Bool) (a : Nat) : (s.hostWrote port b a).calNow = s.calNow := by
  simp [State.calNow, State.aonRunning]

/-- A host write leaves the calendar valid or not, as it was, for OSF is on a page of its own. -/
@[simp] theorem State.calValid_hostWrote (s : State) (port : Port) (b : Bool) (a : Nat) : (s.hostWrote port b a).calValid = s.calValid := by
  rw [State.calValid, State.rdB, s.rd_hostWrote_ne port b a (by decide) (by decide)]
  simp [State.calValid, State.aonRunning, State.rdB]

/-! ### The commands -/

theorem siltEvent_intake (s : State) (code p0 p1 p2 p3 : Nat) :
    Completes (.siltEvent code p0 p1 p2 p3) s fun t =>
      Records code p0 p1 p2 p3 s t ∧ t.siltLog = s.siltLog ∧
      (64 ≤ s.siltIntake.length → t.rd SLT_LOST = min (2 ^ SLT_LOST.width - 1) (s.rd SLT_LOST + 1) ∧ Raises SLT_NOTE_LOST s t) := by
  refine ⟨_, rfl, s.silt_records _ _ _ _ _, s.silt_siltLog _ _ _ _ _, fun full => ?_⟩
  rw [State.silt_of_full full]
  constructor
  · rw [State.rd_notice_ne _ _ (by decide) (by decide), State.rd_countSat_self]
  · exact (State.raises_notice _ SLT_NOTE_LOST (by decide)).trans (congrArg (setBit · _) (State.rd_wr_ne _ _ (by decide)))

theorem siltRecordWrite_idle (s : State) (h : s.siltIntake = [] ∨ s.siltMayWrite = false) :
    Completes .siltRecordWrite s fun t => t = s := by
  refine ⟨_, rfl, ?_⟩
  unfold State.siltNext
  cases waiting : s.siltIntake with
  | nil => rfl
  | cons e rest =>
    have barred : s.siltMayWrite = false := h.resolve_left (by rw [waiting]; exact List.cons_ne_nil _ _)
    rw [barred]
    rfl

/-- Where SLT may write, the oldest event leaves the intake and is written. -/
theorem State.siltNext_of_cons {s : State} {e : SiltEvent} {rest : List SiltEvent} (waiting : s.siltIntake = e :: rest)
    (may : s.siltMayWrite = true) : s.siltNext = { s with siltIntake := rest }.siltWrite e := by
  unfold State.siltNext
  rw [waiting]
  exact if_pos may

theorem siltRecordWrite_mayWrite (s : State) (e : SiltEvent) (rest : List SiltEvent) (waiting : s.siltIntake = e :: rest)
    (may : s.siltMayWrite = true) : Completes .siltRecordWrite s fun t => t.siltIntake = rest ∧ SiltWritten e s t :=
  ⟨_, congrArg Host.Outcome.next (State.siltNext_of_cons waiting may), State.siltWrite_siltIntake _ e,
    State.siltWrite_written { s with siltIntake := rest } e⟩

theorem sltClear_atWork (s : State) (port : Port) (key : Nat) (h : s.atWork 0x1E = true) :
    Completes (.sltClear port key) s fun t =>
      if key = 0x51C7 then
        (∃ who, t.siltLog = [⟨⟨0x1E01, s.siltLog.length, s.rd SLT_LOST, who, 0, s.calNow, s.calValid, false⟩, 1⟩]) ∧
        t.rd SLT_LOST = 0 ∧ t.rd SLT_STATUS_FULL = 0 ∧ t.rd SLT_CHANGE = (s.rd SLT_CHANGE / 2 * 2 + 2) % 2 ^ 32 ∧
        Noted SLT_NOTE_CLEARED t ∧ Noted SLT_NOTE_RECORD t ∧ t.siltIntake = s.siltIntake
      else t.siltLog = s.siltLog ∧ t.siltIntake = s.siltIntake ∧ t.rd SLT_LOST = s.rd SLT_LOST := by
  obtain ⟨live, runs⟩ := Bool.and_eq_true_iff.1 h
  refine ⟨_, congrArg Host.Outcome.next (State.effect_of port live runs _), ?_⟩
  dsimp only
  have lost : (s.hostWrote port false SLT_CMD_CLEAR.addr).rd SLT_LOST = s.rd SLT_LOST := s.rd_hostWrote_ne _ _ _ (by decide) (by decide)
  have change : (s.hostWrote port false SLT_CMD_CLEAR.addr).rd SLT_CHANGE = s.rd SLT_CHANGE :=
    s.rd_hostWrote_ne _ _ _ (by decide) (by decide)
  by_cases keyed : key = 0x51C7
  case pos =>
    rw [if_pos keyed, State.sltCmd_of_key port keyed]
    generalize (if (s.hostWrote port false SLT_CMD_CLEAR.addr).startup.phase == .halted false then 2 else port.code) = who
    refine ⟨⟨who, ?_⟩, State.lost_siltClear _ _, State.full_siltClear _ _, ?_, State.notedCleared_siltClear _ _,
      State.notedRecord_siltClear _ _, ?_⟩
    · rw [State.siltClear_siltLog, State.hostWrote_siltLog, lost, State.calNow_hostWrote, State.calValid_hostWrote]
    · rw [State.change_siltClear, change]
    · rw [State.siltClear_siltIntake, State.hostWrote_siltIntake]
  case neg =>
    rw [if_neg keyed, State.sltCmd_of_not_key port keyed]
    exact ⟨State.hostWrote_siltLog _ _ _ _, State.hostWrote_siltIntake _ _ _ _, lost⟩

/-- Settles O44: each clause by the lemma of its command. A write to the log is the loss of the event, a repeat or a new record, and the
copy of a new record on U5 passes its carry check, so that it leaves the recorder's own page, the intake and the log alone; the clearing
is a new record in an empty log. -/
theorem siltRecords : Obligations.SiltRecords :=
  ⟨fun s code p0 p1 p2 p3 _ => siltEvent_intake s code p0 p1 p2 p3, siltRecordWrite_idle, siltRecordWrite_mayWrite, sltClear_atWork⟩

end Sys2Proof.Machine
end

section
/-! SUPPORT. The end of an image's trial and the assertion of PCIE_PERST_N: what a field reads once registers are forgotten or take their
reset values, what a warm reset leaves of the modes, the start, Grog and the stored fields, and what each reset unit of the PCIe side
holds after PERST (R81, R102 to R104, R119, R397, R440, R545). -/

namespace Sys2Proof.Machine

/-! ### Registers forgotten, or at their reset values (R10) -/

/-- A filter by key keeps what it lists at the keys that it keeps. -/
theorem Sparse.get_filter {α : Type} (l : List (Nat × α)) (keep : Nat → Bool) (k : Nat) :
    Sparse.get (l.filter fun c => keep c.1) k = if keep k then Sparse.get l k else none := by
  induction l with
  | nil => simp
  | cons c l ih =>
    obtain ⟨j, v⟩ := c
    by_cases same : k = j
    case pos =>
      subst same
      cases kept : keep k <;> simp [Sparse.get, kept, ih]
    case neg =>
      rw [List.filter_cons]
      cases keep j <;> simp [Sparse.get, same, ih]

theorem State.rd_forgetRegs (s : State) (keep : Nat → Bool) (f : Field) :
    (s.forgetRegs keep).rd f = if keep f.key then s.rd f else f.reset % 2 ^ f.width := by
  rw [State.rd, State.forgetRegs, Sparse.get_filter]
  split <;> rfl

/-- A field reads its reset value. -/
def State.AtReset (s : State) (f : Field) : Prop := s.rd f = f.reset % 2 ^ f.width

/-- Forgetting registers brings no field away from its reset value. -/
theorem State.AtReset.forgetRegs {s : State} {f : Field} (h : s.AtReset f) (keep : Nat → Bool) : (s.forgetRegs keep).AtReset f := by
  rw [State.AtReset, State.rd_forgetRegs]
  split
  case isTrue => exact h
  case isFalse => rfl

theorem State.atReset_forgetRegs (s : State) {keep : Nat → Bool} {f : Field} (h : keep f.key = false) :
    (s.forgetRegs keep).AtReset f := by
  rw [State.AtReset, State.rd_forgetRegs, h]
  rfl

theorem State.AtReset.of_rd_eq {s t : State} {f : Field} (h : s.AtReset f) (e : t.rd f = s.rd f) : t.AtReset f := e.trans h

/-- A field that takes its reset value is not listed any more, so that whatever is read at its place is at its reset value. -/
theorem State.atReset_wr (s : State) {f g : Field} (same : f.key = g.key) (fits : g.reset < 2 ^ g.width) : (s.wr g g.reset).AtReset f := by
  rw [State.AtReset, State.rd, State.wr, Regs.put, if_pos (Nat.mod_eq_of_lt fits), same, Sparse.get_erase_self]
  rfl

theorem State.AtReset.wr {s : State} {f g : Field} (h : s.AtReset f) (fits : g.reset < 2 ^ g.width) : (s.wr g g.reset).AtReset f := by
  by_cases same : f.key = g.key
  case pos => exact s.atReset_wr same fits
  case neg => exact h.of_rd_eq (State.rd_wr_ne _ _ same)

/-- The fields of a list take their reset values. -/
def State.resetFields (s : State) (l : List Field) : State := s.wrAll (l.map fun g => (g, g.reset))

theorem State.AtReset.resetFields {s : State} {f : Field} (h : s.AtReset f) {l : List Field} (fits : ∀ g ∈ l, g.reset < 2 ^ g.width) :
    (s.resetFields l).AtReset f := by
  induction l generalizing s with
  | nil => exact h
  | cons g l ih => exact ih (h.wr (fits g List.mem_cons_self)) fun x hx => fits x (List.mem_cons_of_mem _ hx)

theorem State.atReset_resetFields (s : State) {l : List Field} (fits : ∀ g ∈ l, g.reset < 2 ^ g.width) {f : Field} (mem : f ∈ l) :
    (s.resetFields l).AtReset f := by
  induction l generalizing s with
  | nil => cases mem
  | cons g l ih =>
    have rest : ∀ x ∈ l, x.reset < 2 ^ x.width := fun x hx => fits x (List.mem_cons_of_mem _ hx)
    cases mem with
    | head => exact (s.atReset_wr rfl (fits f List.mem_cons_self)).resetFields rest
    | tail _ later => exact ih _ rest later

theorem State.wrAll_append (s : State) (l m : List (Field × Nat)) : s.wrAll (l ++ m) = (s.wrAll l).wrAll m := by
  induction l generalizing s with
  | nil => rfl
  | cons c l ih => exact ih _

/-- Writing lists of fields one after the other is writing their concatenation. -/
theorem State.foldl_wrAll {α : Type} (g : α → List (Field × Nat)) (l : List α) (s : State) :
    l.foldl (fun s x => s.wrAll (g x)) s = s.wrAll (l.flatMap g) := by
  induction l generalizing s with
  | nil => rfl
  | cons x l ih => rw [List.foldl_cons, ih, List.flatMap_cons, State.wrAll_append]

/-- What touches some parts alone touches no more than those of a larger choice. -/
theorem Kept.mono {T U : Nat → Prop} {s t : State} (h : Kept T s t) (sub : ∀ i, T i → U i) : Kept U s t :=
  ⟨h.pend, h.draws, h.emitted, h.inv, fun q hq => h.frame q fun touched => hq (sub _ touched)⟩

/-! ### A warm reset (R102 to R104, R108) -/

/-- A warm reset before the counts resume: what does not survive is forgotten, and the start begins. -/
def State.restarted (s : State) (cause : Nat) : State :=
  ((s.forgetRegs (keptKeys true ++ carriedKeys).contains).restart .warm
    (if cause = 5 then s.startup.watchdogRuns + 1 else 0)).resetUnits

/-- A warm reset before module time starts again: its cause and the count of warm resets stand. -/
def State.restartCounted (s : State) (cause : Nat) : State :=
  (s.restarted cause).resumeCounts.wrAll
    [(SYS_RESET_CAUSE_CAUSE, cause), (SYS_RESET_CAUSE_WARM_COUNT, min 65535 (s.rd SYS_RESET_CAUSE_WARM_COUNT + 1))]

/-- A warm reset ends with the record of a time state that was not FREE, and the start of module time. -/
theorem State.warmReset_eq (s : State) (cause : Nat) :
    s.warmReset cause =
      (if s.time.state = .free then s.restartCounted cause
        else (s.restartCounted cause).silt 0x1801 s.time.state.code TimeMode.free.code).timeStart := rfl

/-- The parts that the last steps of a reset touch: what has been sent, the modes, module time, the Silt intake, and the pages of HIF, TIM
and SLT. -/
abbrev clockParts (i : Nat) : Prop := Nat.testBit 0x41000002010000040a i = true

/-- The parts that the counts which resume touch: the Spreader, and the pages of SYS, MAC, DRF, SCH, TMP and SLT. -/
abbrev countParts (i : Nat) : Prop := Nat.testBit 0x400003910000008000 i = true

/-- The parts that a reset touches once the start has begun. -/
abbrev resumeParts (i : Nat) : Prop := countParts i ∨ clockParts i

section
variable (s : State) (cause : Nat)

theorem State.warmReset_kept_restartCounted : Kept clockParts (s.restartCounted cause) (s.warmReset cause) := by
  have within (m : Nat) (h : m &&& 0x41000002010000040a = m) : Sub m clockParts := Sub.trans (fun _ => id) h
  rw [State.warmReset_eq]
  refine State.timeStart_kept ?_ (within _ rfl)
  split
  case isTrue => exact Kept.refl _
  case isFalse => exact State.silt_kept (Kept.refl _) _ _ _ _ _ (within _ rfl)

theorem State.restartCounted_kept_restarted : Kept countParts (s.restarted cause) (s.restartCounted cause) := by
  have within (m : Nat) (h : m &&& 0x400003910000008000 = m) : Sub m countParts := Sub.trans (fun _ => id) h
  refine State.wrAll_kept (State.resumeCounts_kept (Kept.refl _) (within _ rfl)) _ ?_ (within _ rfl)
  simp only [List.forall_mem_cons, List.not_mem_nil, false_imp_iff, implies_true, and_true]
  exact ⟨by decide, by decide⟩

theorem State.warmReset_kept_restarted : Kept resumeParts (s.restarted cause) (s.warmReset cause) :=
  ((s.restartCounted_kept_restarted cause).mono fun _ => .inl).trans ((s.warmReset_kept_restartCounted cause).mono fun _ => .inr)

theorem State.cause_warmReset : (s.warmReset cause).rd SYS_RESET_CAUSE_CAUSE = cause % 16 := by
  rw [(s.warmReset_kept_restartCounted cause).rd_eq _ (by decide), State.restartCounted, State.wrAll_cons, State.wrAll_cons,
    State.wrAll_nil, State.rd_wr_ne _ _ (by decide), State.rd_wr_self]
  rfl

theorem State.warmCount_warmReset :
    (s.warmReset cause).rd SYS_RESET_CAUSE_WARM_COUNT = min 65535 (s.rd SYS_RESET_CAUSE_WARM_COUNT + 1) := by
  rw [(s.warmReset_kept_restartCounted cause).rd_eq _ (by decide), State.restartCounted, State.wrAll_cons, State.wrAll_cons,
    State.wrAll_nil, State.rd_wr_self]
  exact Nat.mod_eq_of_lt (by show _ < 65536; omega)

/-- Every axis but the life cycle starts anew. -/
theorem State.warmReset_modes : (s.warmReset cause).modes = ⟨.run, .solo, s.modes.life, .off, .idle, .clear, .free⟩ := by
  have counted : (s.restartCounted cause).modes = (s.restarted cause).modes :=
    (s.restartCounted_kept_restarted cause).frame .modes (by decide)
  have started (u : State) : u.timeStart.modes = { u.modes with time := .free } := rfl
  rw [State.warmReset_eq, started]
  split
  case isTrue => rw [counted]; rfl
  case isFalse => rw [State.silt_modes, counted]; rfl

theorem State.warmReset_startup : (s.warmReset cause).startup = (s.restarted cause).startup :=
  (s.warmReset_kept_restarted cause).frame .startup (by decide)

theorem State.warmReset_grg :
    (s.warmReset cause).grg = { s.grg with asking := none, campaign := none, targets := [], ended := none, trial := none } :=
  (s.warmReset_kept_restarted cause).frame .grg (by decide)

/-- A field that survives a warm reset reads as before, where no count of its page resumes. -/
theorem State.rd_warmReset_of_mem {f : Field} (kept : f.key ∈ keptKeys true) (page : ¬ resumeParts f.slot) :
    (s.warmReset cause).rd f = s.rd f := by
  have survives : (keptKeys true ++ carriedKeys).contains f.key = true := List.contains_iff_mem.2 (List.mem_append_left _ kept)
  calc (s.warmReset cause).rd f
      = (s.restarted cause).rd f := (s.warmReset_kept_restarted cause).rd_eq f page
    _ = (s.forgetRegs (keptKeys true ++ carriedKeys).contains).rd f := State.rd_congr rfl f
    _ = s.rd f := by rw [State.rd_forgetRegs, survives, if_pos rfl]
end

/-- A field of the map that MRAM holds survives every reset (R104). -/
theorem mem_keptKeys_of_stored {f : Field} (warm : Bool) {p : Nat} (page : p ∈ assignedPages) (mem : f ∈ pageFields p)
    (stored : f.survival = .stored) : f.key ∈ keptKeys warm := by
  refine List.mem_map.2 ⟨f, List.mem_filter.2 ⟨List.mem_flatMap.2 ⟨p, page, mem⟩, ?_⟩, rfl⟩
  rw [stored]
  simp

/-! ### The end of a trial (R119, R545) -/

/-- The fallback before its record: TRIAL is cleared, the other bank is active and no timer runs. -/
def State.bankSwitched (s : State) (p : Nat) : State :=
  { s.wrAll [(GRG_BANK_TRIAL p, 0), (GRG_BANK_ACTIVE p, 1 - s.activeBank p)] with grg := { s.grg with trial := none } }

/-- The fallback before its reset: what waits for SLT has been written. -/
def State.trialOver (s : State) (p : Nat) : State :=
  ((s.bankSwitched p).silt 0x000B (fallbackCode p) (1 - s.activeBank p)).siltDrain

theorem State.fallback_eq (s : State) (p : Nat) : s.fallback p = (s.trialOver p).warmReset 6 := rfl

/-- The parts that the recorder touches: what has been sent, the queues, Silt, and the pages of HIF, SLQ, SLT and ITG. -/
abbrev recorderParts (i : Nat) : Prop := Nat.testBit 0x4440000020300003002 i = true

/-- What the fallback of a processor leaves (R119, R545): TRIAL is cleared, the other bank is active, no timer runs, and a warm reset with
cause 6 has begun. -/
def FallsBack (p : Nat) (s t : State) : Prop :=
  t.rd (GRG_BANK_TRIAL p) = 0 ∧ t.rd (GRG_BANK_ACTIVE p) = 1 - s.rd (GRG_BANK_ACTIVE p) ∧ t.grg.trial = none ∧
  t.startup.phase = .inReset ∧ t.startup.kind = .warm ∧ t.startup.line = 2 ∧ t.rd SYS_RESET_CAUSE_CAUSE = 6 ∧
  t.rd SYS_RESET_CAUSE_WARM_COUNT = min 65535 (s.rd SYS_RESET_CAUSE_WARM_COUNT + 1) ∧
  t.modes = ⟨.run, .solo, s.modes.life, .off, .idle, .clear, .free⟩ ∧ t.grg.images = s.grg.images

theorem GRG_BANK_ACTIVE_slot (p : Nat) : (GRG_BANK_ACTIVE p).slot = 72 := by simp only [Field.slot, Field.page, Field.key]; omega
theorem GRG_BANK_TRIAL_slot (p : Nat) : (GRG_BANK_TRIAL p).slot = 72 := by simp only [Field.slot, Field.page, Field.key]; omega

/-- The index of a bank's register counts modulo 3. -/
theorem GRG_BANK_ACTIVE_mod (p : Nat) : GRG_BANK_ACTIVE (p % 3) = GRG_BANK_ACTIVE p := by simp [GRG_BANK_ACTIVE]
theorem GRG_BANK_TRIAL_mod (p : Nat) : GRG_BANK_TRIAL (p % 3) = GRG_BANK_TRIAL p := by simp [GRG_BANK_TRIAL]

theorem GRG_BANK_ACTIVE_kept (p : Nat) : (GRG_BANK_ACTIVE p).key ∈ keptKeys true :=
  mem_keptKeys_of_stored true (p := 0x20) (by decide)
    (List.mem_append_left _ (List.mem_append_right _ (List.mem_map.2
      ⟨p % 3, List.mem_range.2 (Nat.mod_lt _ (by decide)), GRG_BANK_ACTIVE_mod p⟩))) rfl

theorem GRG_BANK_TRIAL_kept (p : Nat) : (GRG_BANK_TRIAL p).key ∈ keptKeys true :=
  mem_keptKeys_of_stored true (p := 0x20) (by decide)
    (List.mem_append_right _ (List.mem_map.2 ⟨p % 3, List.mem_range.2 (Nat.mod_lt _ (by decide)), GRG_BANK_TRIAL_mod p⟩)) rfl

section
variable (s : State) (p : Nat)

theorem State.trialOver_kept : Kept recorderParts (s.bankSwitched p) (s.trialOver p) := by
  have within (m : Nat) (h : m &&& 0x4440000020300003002 = m) : Sub m recorderParts := Sub.trans (fun _ => id) h
  exact State.siltDrain_kept (State.silt_kept (Kept.refl _) _ _ _ _ _ (within _ rfl)) (within _ rfl)

theorem State.active_bankSwitched : (s.bankSwitched p).rd (GRG_BANK_ACTIVE p) = 1 - s.rd (GRG_BANK_ACTIVE p) :=
  (State.rd_wr_self _ _ _).trans (Nat.mod_eq_of_lt (Nat.lt_of_le_of_lt (Nat.sub_le _ _) Nat.one_lt_two))

theorem State.trial_bankSwitched : (s.bankSwitched p).rd (GRG_BANK_TRIAL p) = 0 :=
  (State.rd_wr_ne _ _ (by simp only [Field.key]; omega)).trans (State.rd_wr_self _ _ _)

theorem State.rd_bankSwitched_ne {f : Field} (h : f.slot ≠ 72) : (s.bankSwitched p).rd f = s.rd f := by
  have away (g : Field) (hg : g.slot = 72) : f.key ≠ g.key := fun same => h (by rwa [Field.slot, Field.page, same])
  exact (State.rd_wr_ne _ _ (away _ (GRG_BANK_ACTIVE_slot p))).trans (State.rd_wr_ne _ _ (away _ (GRG_BANK_TRIAL_slot p)))

/-- A field of GRG that MRAM holds reads after the fallback as it does once the banks are switched. -/
theorem State.rd_fallback_of_mem {f : Field} (page : f.slot = 72) (kept : f.key ∈ keptKeys true) :
    (s.fallback p).rd f = (s.bankSwitched p).rd f := by
  rw [State.fallback_eq, State.rd_warmReset_of_mem _ _ kept (by rw [page]; decide), (s.trialOver_kept p).rd_eq _ (by rw [page]; decide)]

theorem State.fallback_fallsBack : FallsBack p s (s.fallback p) := by
  have life : (s.trialOver p).modes = s.modes := (s.trialOver_kept p).frame .modes (by decide)
  have grog : (s.trialOver p).grg = { s.grg with trial := none } := (s.trialOver_kept p).frame .grg (by decide)
  have count : (s.trialOver p).rd SYS_RESET_CAUSE_WARM_COUNT = s.rd SYS_RESET_CAUSE_WARM_COUNT :=
    ((s.trialOver_kept p).rd_eq _ (by decide)).trans (s.rd_bankSwitched_ne p (by decide))
  have start := State.warmReset_startup (s.trialOver p) 6
  have units := State.warmReset_grg (s.trialOver p) 6
  refine ⟨?_, ?_, ?_, ?_, ?_, ?_, ?_, ?_, ?_, ?_⟩
  · rw [s.rd_fallback_of_mem p (GRG_BANK_TRIAL_slot p) (GRG_BANK_TRIAL_kept p), s.trial_bankSwitched]
  · rw [s.rd_fallback_of_mem p (GRG_BANK_ACTIVE_slot p) (GRG_BANK_ACTIVE_kept p), s.active_bankSwitched]
  · rw [s.fallback_eq, units]
  · rw [s.fallback_eq, start]; rfl
  · rw [s.fallback_eq, start]; rfl
  · rw [s.fallback_eq, start]; rfl
  · rw [s.fallback_eq, State.cause_warmReset]
  · rw [s.fallback_eq, State.warmCount_warmReset, count]
  · rw [s.fallback_eq, State.warmReset_modes, life]
  · rw [s.fallback_eq, units, grog]
end

/-- A fallback is one of every state that agrees with the first in the processor's bank, the count of warm resets, the life cycle and the
images. -/
theorem FallsBack.congr {p : Nat} {s u t : State} (h : FallsBack p u t) (bank : u.rd (GRG_BANK_ACTIVE p) = s.rd (GRG_BANK_ACTIVE p))
    (count : u.rd SYS_RESET_CAUSE_WARM_COUNT = s.rd SYS_RESET_CAUSE_WARM_COUNT) (modes : u.modes = s.modes) (grog : u.grg = s.grg) :
    FallsBack p s t := by
  unfold FallsBack at h ⊢
  rwa [bank, count, modes, grog] at h

/-! ### The commands of the trial -/

theorem trialTimerExpiry_idle (s : State) (h : s.grg.trial = none ∨ s.refRuns = false) :
    Completes .trialTimerExpiry s fun t => t = s := by
  refine ⟨_, rfl, ?_⟩
  cases runs : s.refRuns with
  | false => rfl
  | true =>
    rw [if_pos rfl, h.resolve_right (by rw [runs]; exact Bool.noConfusion)]

theorem trialTimerExpiry_falls (s : State) (p at_ : Nat) (trial : s.grg.trial = some (p, at_)) (runs : s.refRuns = true) :
    Completes .trialTimerExpiry s (FallsBack p s) := by
  refine ⟨_, rfl, ?_⟩
  rw [if_pos runs, trial]
  exact s.fallback_fallsBack p

/-- ROLLBACK where GRG is at work: SUP takes it, unless the start halted before SUP. -/
theorem exec_rollback_of {s : State} (port : Port) (p : Nat) (h : s.atWork 0x20 = true) :
    exec (.rollback port p) s = .next ((s.hostWrote port false GRG_CMD_OP.addr).whenSup fun s => s.grgRollback p) := by
  obtain ⟨live, runs⟩ := Bool.and_eq_true_iff.1 h
  exact congrArg Host.Outcome.next (State.effect_of port live runs _)

theorem State.grgRollback_of_trial {s : State} {p : Nat} (h : p < 3 ∧ s.rd (GRG_BANK_TRIAL p) = 1) :
    s.grgRollback p = (s.wr GRG_CMD_STAT_RESULT 0).fallback p := if_pos ⟨h.1, beq_iff_eq.2 h.2⟩

theorem State.grgRollback_of_not_trial {s : State} {p : Nat} (h : ¬(p < 3 ∧ s.rd (GRG_BANK_TRIAL p) = 1)) :
    s.grgRollback p = s.wr GRG_CMD_STAT_RESULT 3 := if_neg fun c => h ⟨c.1, beq_iff_eq.1 c.2⟩

theorem rollback_halted (s : State) (port : Port) (p : Nat) (h : s.atWork 0x20 = true) (halted : s.startup.phase = .halted false) :
    Completes (.rollback port p) s fun t => t = s.hostWrote port false GRG_CMD_OP.addr := by
  refine ⟨_, exec_rollback_of port p h, ?_⟩
  rw [State.whenSup, State.hostWrote_startup, halted]
  rfl

theorem rollback_atWork (s : State) (port : Port) (p : Nat) (h : s.atWork 0x20 = true) (sup : s.startup.phase ≠ .halted false) :
    Completes (.rollback port p) s fun t =>
      if p < 3 ∧ s.rd (GRG_BANK_TRIAL p) = 1 then FallsBack p s t
      else t.rd GRG_CMD_STAT_RESULT = 3 ∧ t.grg = s.grg ∧ t.startup = s.startup ∧ t.modes = s.modes := by
  refine ⟨_, exec_rollback_of port p h, ?_⟩
  have wrote {f : Field} (page : f.slot = 72) : (s.hostWrote port false GRG_CMD_OP.addr).rd f = s.rd f :=
    (State.hostWrote_kept (T := fun i => Nat.testBit 0x20000000302 i = true) (Kept.refl s) _ _ _ fun _ => id).rd_eq f (by rw [page]; decide)
  rw [State.whenSup, State.hostWrote_startup, if_neg (by simpa using sup)]
  have trial := wrote (GRG_BANK_TRIAL_slot p)
  split
  case isTrue onTrial =>
    rw [State.grgRollback_of_trial (by rwa [trial])]
    refine (State.fallback_fallsBack _ p).congr ?_ ?_ ?_ ?_
    · rw [State.rd_wr_ne _ _ (by simp only [Field.key]; omega), wrote (GRG_BANK_ACTIVE_slot p)]
    · rw [State.rd_wr_ne _ _ (by decide), State.rd_hostWrote_ne _ _ _ _ (by decide) (by decide)]
    · exact State.hostWrote_modes _ _ _ _
    · exact State.hostWrote_grg _ _ _ _
  case isFalse noTrial =>
    rw [State.grgRollback_of_not_trial (by rwa [trial])]
    exact ⟨State.rd_wr_self _ _ _, State.hostWrote_grg _ _ _ _, State.hostWrote_startup _ _ _ _, State.hostWrote_modes _ _ _ _⟩

/-! ### PCIE_PERST_N: the endpoint (R81, R100, R567) -/

/-- The fields of a vector in the MSI-X table. -/
def vectorFields (v : Nat) : List Field := [MSIX_ADDR_LO v, MSIX_ADDR_HI v, MSIX_DATA v, MSIX_MASK v]

/-- The fields of the configuration space and of the MSI-X table, which PERST resets. -/
def endpointFields : List Field :=
  [HIF_STATUS_BME, HIF_STATUS_MSIX_EN, MSIX_FUNC_MASK, MSIX_PBA, PCIE_MSE, PCIE_BAR0, PCIE_BAR2] ++ (List.range 32).flatMap vectorFields

theorem vectorFields_fit (v : Nat) : ∀ g ∈ vectorFields v, g.reset < 2 ^ g.width := by
  simp only [vectorFields, List.forall_mem_cons, List.not_mem_nil, false_imp_iff, implies_true, and_true]
  decide

/-- The MSI-X table is on the page of HIF, beside its notices and the pending vectors. -/
theorem vectorFields_place (v : Nat) :
    ∀ g ∈ vectorFields v, g.slot = 41 ∧ g.key ≠ (NOTE_RAW 0x01).key ∧ g.key ≠ MSIX_PBA.key := by
  simp only [vectorFields, List.forall_mem_cons, List.not_mem_nil, false_imp_iff, implies_true, and_true, Field.slot, Field.page, Field.key]
  omega

theorem endpointFields_fit : ∀ g ∈ endpointFields, g.reset < 2 ^ g.width := by
  refine List.forall_mem_append.2 ⟨by decide, fun g hg => ?_⟩
  obtain ⟨v, _, hv⟩ := List.mem_flatMap.1 hg
  exact vectorFields_fit v g hv

theorem mem_endpointFields_of_vector {v : Nat} (hv : v < 32) {f : Field} (h : f ∈ vectorFields v) : f ∈ endpointFields :=
  List.mem_append_right _ (List.mem_flatMap.2 ⟨v, List.mem_range.2 hv, h⟩)

theorem State.endpointReset_eq (s : State) : s.endpointReset = s.resetFields endpointFields := by
  rw [State.endpointReset, State.foldl_wrAll, ← State.wrAll_append, State.resetFields, endpointFields, List.map_append, List.map_flatMap]
  rfl

/-- The endpoint and the link, before HDM is reset. -/
def State.endpointDown (s : State) : State := s.linkDown.endpointReset

theorem State.linkUp_linkDown (s : State) : s.linkDown.AtReset HIF_STATUS_LINK_UP := by
  unfold State.linkDown
  split
  case isTrue => exact (State.rd_notice_ne _ _ (by decide) (by decide)).trans (State.rd_wr_self _ _ _)
  case isFalse down =>
    have bit := s.rd_lt HIF_STATUS_LINK_UP
    have zero : s.rd HIF_STATUS_LINK_UP ≠ 1 := fun up => down (beq_iff_eq.2 up)
    show s.rd HIF_STATUS_LINK_UP = 0
    change _ < 2 at bit
    omega

/-- The parts that the reset of the endpoint touches: what has been sent, and the places of HIF and of the configuration space. -/
abbrev endpointParts (i : Nat) : Prop := Nat.testBit 0x100000000000000020000000002 i = true

theorem State.endpointDown_kept (s : State) : Kept endpointParts s s.endpointDown := by
  have within (m : Nat) (h : m &&& 0x100000000000000020000000002 = m) : Sub m endpointParts := Sub.trans (fun _ => id) h
  exact State.endpointReset_kept (State.linkDown_kept (Kept.refl _) (within _ rfl)) (within _ rfl)

theorem State.linkUp_endpointDown (s : State) : s.endpointDown.AtReset HIF_STATUS_LINK_UP := by
  rw [State.endpointDown, State.endpointReset_eq]
  exact s.linkUp_linkDown.resetFields endpointFields_fit

theorem State.atReset_endpointDown (s : State) {f : Field} (h : f ∈ endpointFields) : s.endpointDown.AtReset f := by
  rw [State.endpointDown, State.endpointReset_eq]
  exact State.atReset_resetFields _ endpointFields_fit h

/-! ### PCIE_PERST_N: HDM and the queues (R397, R440) -/

theorem getD_putAt {α : Type} {n i : Nat} (d : α) (l : List α) (k : Nat) (v e : α) (h : i < n) :
    (putAt n d l k v).getD i e = if i = k then v else l.getD i d := by
  rw [putAt, List.getD_eq_getElem _ _ (by simpa using h)]
  simp

/-- What a step of a fold attains at an element, and every step keeps, holds at the end. -/
theorem foldl_attains {α σ : Type} {step : σ → α → σ} {P : σ → Prop} (keeps : ∀ s x, P s → P (step s x)) {w : α}
    (attains : ∀ s, P (step s w)) {l : List α} (mem : w ∈ l) (s : σ) : P (l.foldl step s) := by
  induction l generalizing s with
  | nil => cases mem
  | cons x l ih =>
    cases mem with
    | head => exact List.foldlRecOn l step (attains s) fun s hs x _ => keeps s x hs
    | tail _ later => exact ih later _

/-- HDM with its registers and its work forgotten. -/
def State.hdmForgot (s : State) : State := { s with hdm := .empty }.forgetPage 0x17

/-- HDM forgotten, and the queues of the host port empty. -/
def State.hdmEmptied (s : State) : State := (List.range 8).foldl (fun s c => s.setSwQueue 6 c []) s.hdmForgot

/-- The frames that wait for the host port. -/
def State.hostFrames (s : State) : Nat := ((List.range 8).map fun c => (s.swQueue 6 c).length).sum

theorem State.hdmReset_eq (s : State) : s.hdmReset = (s.hdmEmptied.count HDM_RX_DROP s.hostFrames).pauseFalls := rfl

theorem State.AtReset.hdmForgot {s : State} {f : Field} (h : s.AtReset f) : s.hdmForgot.AtReset f :=
  (h.of_rd_eq (t := { s with hdm := .empty }) rfl).forgetRegs _

theorem State.atReset_hdmForgot (s : State) {f : Field} (h : f.page = 0x17) : s.hdmForgot.AtReset f :=
  State.atReset_forgetRegs _ (by
    have place : f.key / 32 / 0x1000 = 0x17 := by rwa [Nat.div_div_eq_div_mul]
    simp [place])

/-- The frames' queues alone change as the host port's are emptied. -/
theorem State.hdmEmptied_kept (s : State) : Kept (· = 24) s.hdmForgot s.hdmEmptied :=
  Kept.foldl _ _ (Kept.refl _) fun _ _ h => State.setSwQueue_kept h _ _ _ fun i hi => by
    rwa [show 0x1000000 = 2 ^ 24 from rfl, Nat.testBit_two_pow, decide_eq_true_eq, eq_comm] at hi

theorem State.rd_hdmEmptied (s : State) (f : Field) : s.hdmEmptied.rd f = s.hdmForgot.rd f :=
  s.hdmEmptied_kept.rd_eq f (by unfold Field.slot; omega)

theorem State.swQueue_setSwQueue (s : State) {c d : Nat} (hd : d < 8) :
    (s.setSwQueue 6 c []).swQueue 6 d = if d = c then [] else s.swQueue 6 d := by
  rw [State.swQueue, State.setSwQueue, getD_putAt _ _ _ _ _ (by omega)]
  simp only [Nat.add_left_cancel_iff]
  rfl

theorem State.swQueue_hdmEmptied (s : State) {c : Nat} (hc : c < 8) : s.hdmEmptied.swQueue 6 c = [] :=
  foldl_attains (P := fun t : State => t.swQueue 6 c = [])
    (fun s d empty => by rw [s.swQueue_setSwQueue hc, empty, ite_self])
    (fun s => by rw [s.swQueue_setSwQueue hc, if_pos rfl]) (List.mem_range.2 hc) _

/-- The end of a pause leaves the frames where they are. -/
theorem State.pauseFall_queues (s : State) (k : Nat) : (s.pauseFall k).swf.queues = s.swf.queues := by
  unfold State.pauseFall
  split
  case isTrue => unfold State.sendPause; dsimp only; split <;> rfl
  case isFalse => rfl

theorem State.pauseFalls_queues (s : State) : s.pauseFalls.swf.queues = s.swf.queues :=
  List.foldlRecOn (motive := fun t : State => t.swf.queues = s.swf.queues) _ _ rfl fun t h k _ => (t.pauseFall_queues k).trans h

/-! ### PCIE_PERST_N: what it leaves -/

/-- HDM is reset, and the queues' packets are released. -/
def State.hostReleased (s : State) : State := s.hdmReset.slqPerst

theorem State.perst_eq (s : State) : s.perst = s.endpointDown.hostReleased.perstPath.notice HIF_NOTE_PERST := by
  rw [State.perst, State.hostReleased, State.endpointDown]

@[simp] theorem State.rd_perstPath (s : State) (f : Field) : s.perstPath.rd f = s.rd f := rfl
@[simp] theorem State.perstPath_lrp (s : State) : s.perstPath.lrp = s.lrp := rfl
@[simp] theorem State.perstPath_swf (s : State) : s.perstPath.swf = s.swf := rfl
@[simp] theorem State.perstPath_hdm (s : State) : s.perstPath.hdm = s.hdm := rfl

/-- PERST's notice and the path of the PCIe port change no field but the notices of HIF and the pending vectors. -/
theorem State.rd_perst_ne (s : State) {f : Field} (note : f.key ≠ (NOTE_RAW 0x01).key) (pba : f.key ≠ MSIX_PBA.key) :
    s.perst.rd f = s.endpointDown.hostReleased.rd f := by
  rw [State.perst_eq, State.rd_notice_ne _ HIF_NOTE_PERST note pba, State.rd_perstPath]

/-- The parts that are touched once HDM has counted the frames that it discards: what has been sent, the Slip queues, the switch, and the
pages of the external ports and SLQ. -/
abbrev releaseParts (i : Nat) : Prop := Nat.testBit 0x47e00000001003002 i = true

/-- The parts that are touched once HDM is forgotten: those, and the page of HDM. -/
abbrev hostParts (i : Nat) : Prop := Nat.testBit 0x4fe00000001003002 i = true

section
variable (s : State)

theorem State.hostReleased_kept : Kept releaseParts (s.hdmEmptied.count HDM_RX_DROP s.hostFrames) s.hostReleased := by
  have within (m : Nat) (h : m &&& 0x47e00000001003002 = m) : Sub m releaseParts := Sub.trans (fun _ => id) h
  rw [State.hostReleased, State.hdmReset_eq]
  exact State.slqPerst_kept (State.pauseFalls_kept (Kept.refl _) (within _ rfl)) (within _ rfl)

theorem State.hostReleased_kept_hdmForgot : Kept hostParts s.hdmForgot s.hostReleased := by
  have emptied : Kept hostParts s.hdmForgot s.hdmEmptied := s.hdmEmptied_kept.mono fun i h => by rw [h]; decide
  have wider (i : Nat) (h : releaseParts i) : hostParts i := Sub.trans (n := 0x4fe00000001003002) (fun _ => id) (by decide) i h
  exact (State.count_kept emptied HDM_RX_DROP s.hostFrames (Sub.trans (fun _ => id) rfl) (by decide)).trans (s.hostReleased_kept.mono wider)

theorem State.drop_hostReleased : s.hostReleased.rd HDM_RX_DROP = s.hostFrames % 2 ^ 32 := by
  have fresh : s.hdmEmptied.rd HDM_RX_DROP = 0 := (s.rd_hdmEmptied _).trans (s.atReset_hdmForgot (by decide))
  rw [s.hostReleased_kept.rd_eq _ (by decide), State.count_eq, State.rd_wr_self, fresh, Nat.zero_add]

theorem State.hostReleased_hdm : s.hostReleased.hdm = .empty := s.hostReleased_kept_hdmForgot.frame .hdm (by decide)
theorem State.hostReleased_lrp : s.hostReleased.lrp = s.lrp := s.hostReleased_kept_hdmForgot.frame .lrp (by decide)
theorem State.hostReleased_pcie : s.hostReleased.pcie = s.pcie := s.hostReleased_kept_hdmForgot.frame .pcie (by decide)

/-- HDM's fields but the count of dropped frames read their reset values. -/
theorem State.atReset_hostReleased {f : Field} (page : f.page = 0x17) (drop : f.key ≠ HDM_RX_DROP.key) : s.hostReleased.AtReset f := by
  have slot : f.slot = 63 := by rw [Field.slot, page]
  exact (s.atReset_hdmForgot page).of_rd_eq <|
    calc s.hostReleased.rd f
        = (s.hdmEmptied.count HDM_RX_DROP s.hostFrames).rd f := s.hostReleased_kept.rd_eq f (by rw [slot]; decide)
      _ = s.hdmEmptied.rd f := State.rd_wr_ne _ _ drop
      _ = s.hdmForgot.rd f := s.rd_hdmEmptied f

theorem State.hdmReset_queues : s.hdmReset.swf.queues = s.hdmEmptied.swf.queues := by
  rw [State.hdmReset_eq, State.pauseFalls_queues, State.count_eq, State.wr_swf]

theorem State.slqPerst_swf : s.slqPerst.swf = s.swf :=
  (State.slqPerst_kept (T := fun i => Nat.testBit 0x40000000000003000 i = true) (Kept.refl s) fun _ => id).frame .swf (by decide)

theorem State.swQueue_hostReleased {c : Nat} (hc : c < 8) : s.hostReleased.swQueue 6 c = [] := by
  rw [State.swQueue, State.hostReleased, State.slqPerst_swf, State.hdmReset_queues, ← State.swQueue, s.swQueue_hdmEmptied hc]

/-- A field that is at its reset value once the endpoint is down is so after PERST, beside the notices of HIF and the pending vectors. -/
theorem State.AtReset.perst {s : State} {f : Field} (h : s.endpointDown.AtReset f) (page : f.slot = 41 ∨ f.slot = 104)
    (note : f.key ≠ (NOTE_RAW 0x01).key) (pba : f.key ≠ MSIX_PBA.key) : s.perst.AtReset f := by
  have apart : ¬ hostParts f.slot := by
    obtain hif | config := page
    · rw [hif]; decide
    · rw [config]; decide
  exact (h.hdmForgot.of_rd_eq (s.endpointDown.hostReleased_kept_hdmForgot.rd_eq f apart)).of_rd_eq (s.rd_perst_ne note pba)

theorem State.perst_vector {v : Nat} (hv : v < 32) {f : Field} (mem : f ∈ vectorFields v) : s.perst.AtReset f := by
  obtain ⟨page, note, pba⟩ := vectorFields_place v f mem
  exact (s.atReset_endpointDown (mem_endpointFields_of_vector hv mem)).perst (.inl page) note pba

theorem State.perst_hdmPage {f : Field} (page : f.page = 0x17) (drop : f.key ≠ HDM_RX_DROP.key) : s.perst.AtReset f := by
  have away (g : Field) (hg : g.page ≠ 0x17) : f.key ≠ g.key := fun same => hg (by rwa [Field.page, ← same])
  exact (s.endpointDown.atReset_hostReleased page drop).of_rd_eq (s.rd_perst_ne (away _ (by decide)) (away _ (by decide)))

theorem State.drop_perst : s.perst.rd HDM_RX_DROP = s.hostFrames % 2 ^ 32 := by
  have queues : s.endpointDown.swf = s.swf := s.endpointDown_kept.frame .swf (by decide)
  have frames : s.endpointDown.hostFrames = s.hostFrames := by simp only [State.hostFrames, State.swQueue, queues]
  rw [State.rd_perst_ne _ (by decide) (by decide), State.drop_hostReleased, frames]

/-- Of the PCIe port's path the posted writes and the fence stay. -/
theorem State.perst_pcie : s.perst.pcie = { PortPath.empty with posted := s.pcie.posted, fence := s.pcie.fence } := by
  have port : s.endpointDown.pcie = s.pcie := s.endpointDown_kept.frame .pcie (by decide)
  rw [State.perst_eq, State.notice_pcie, State.perstPath, State.hostReleased_pcie, port]

theorem State.perst_lrp : s.perst.lrp = s.lrp := by
  have port : s.endpointDown.lrp = s.lrp := s.endpointDown_kept.frame .lrp (by decide)
  rw [State.perst_eq, State.notice_lrp, State.perstPath_lrp, State.hostReleased_lrp, port]

theorem State.perst_hdm : s.perst.hdm = .empty := by
  rw [State.perst_eq, State.notice_hdm, State.perstPath_hdm, State.hostReleased_hdm]

theorem State.noted_perst : Noted HIF_NOTE_PERST s.perst := by
  rw [State.perst_eq]
  exact State.noted_notice _ _ (by decide)

theorem State.swQueue_perst {c : Nat} (hc : c < 8) : s.perst.swQueue 6 c = [] := by
  rw [State.perst_eq, State.swQueue, State.notice_swf, State.perstPath_swf]
  exact s.endpointDown.swQueue_hostReleased hc
end

theorem pciePerst_atWork (s : State) (h : s.atWork 0x01 = true) :
    Completes .pciePerst s fun t =>
      t.rd HIF_STATUS_LINK_UP = 0 ∧ t.rd HIF_STATUS_BME = 0 ∧ t.rd HIF_STATUS_MSIX_EN = 0 ∧ t.rd PCIE_MSE = 0 ∧
      t.rd PCIE_BAR0 = 0 ∧ t.rd PCIE_BAR2 = 0 ∧
      (∀ v, v < 32 → t.rd (MSIX_MASK v) = 1 ∧ t.rd (MSIX_ADDR_LO v) = 0 ∧ t.rd (MSIX_DATA v) = 0) ∧
      t.hdm = .empty ∧ (∀ c, c < 8 → t.swQueue 6 c = []) ∧ t.rd HDM_RX_DROP = s.hostFrames % 2 ^ 32 ∧
      (∀ f : Field, f.page = 0x17 → f.key ≠ HDM_RX_DROP.key → t.AtReset f) ∧
      t.pcie = { PortPath.empty with posted := s.pcie.posted, fence := s.pcie.fence } ∧ t.lrp = s.lrp ∧ Noted HIF_NOTE_PERST t := by
  obtain ⟨live, runs⟩ := Bool.and_eq_true_iff.1 h
  have table (v : Nat) (hv : v < 32) {f : Field} (mem : f ∈ vectorFields v) := s.perst_vector hv mem
  have config {f : Field} (mem : f ∈ endpointFields) := (s.atReset_endpointDown mem).perst
  exact ⟨_, congrArg Host.Outcome.next (State.working_of live runs _),
    s.linkUp_endpointDown.perst (.inl rfl) (by decide) (by decide),
    config (by decide) (.inl rfl) (by decide) (by decide), config (by decide) (.inl rfl) (by decide) (by decide),
    config (by decide) (.inr rfl) (by decide) (by decide), config (by decide) (.inr rfl) (by decide) (by decide),
    config (by decide) (.inr rfl) (by decide) (by decide),
    fun v hv => ⟨table v hv (by simp [vectorFields]), table v hv (by simp [vectorFields]), table v hv (by simp [vectorFields])⟩,
    s.perst_hdm, fun _ hc => s.swQueue_perst hc, s.drop_perst,
    fun _ page drop => s.perst_hdmPage page drop, s.perst_pcie, s.perst_lrp, s.noted_perst⟩

/-- Settles O14: each clause by the lemma of its command. The timer's expiry and ROLLBACK end in the one fallback, whose warm reset keeps
the banks' fields, for MRAM holds them; PERST gives the endpoint's fields their reset values and forgets the page of HDM, and what follows
touches neither. -/
theorem trialsRollbackAndPerst : Obligations.TrialsRollbackAndPerst :=
  ⟨trialTimerExpiry_idle, fun s p at_ trial _ runs => trialTimerExpiry_falls s p at_ trial runs,
    fun s port p h _ halted => rollback_halted s port p h halted, fun s port p h _ sup => rollback_atWork s port p h sup,
    pciePerst_atWork⟩

end Sys2Proof.Machine
end

section
/-! SUPPORT. The symbol code, the places of DRAM's codewords, and the scrubber's passes: which symbols a pattern hits, and what one
codeword and a whole pass add to the counts of ITG (R560 to R562). -/

namespace Sys2Proof.Machine

/-! ### The symbol code (R560) -/

theorem symbolsHit_sorted (error : Nat) : (symbolsHit error).Pairwise (· < ·) := List.pairwise_lt_range.filter _

theorem codeCheck_of_none {error : Nat} (h : symbolsHit error = []) (draw : Nat) : codeCheck error draw = .good := by
  rw [codeCheck, h]

theorem codeCheck_of_one {error k : Nat} (h : symbolsHit error = [k]) (draw : Nat) : codeCheck error draw = .corrected := by
  rw [codeCheck, h]

theorem codeCheck_of_two {error k l : Nat} (h : symbolsHit error = [k, l]) (draw : Nat) : codeCheck error draw = .failed k := by
  rw [codeCheck, h]

theorem symbolsHit_two_lt {error k l : Nat} (h : symbolsHit error = [k, l]) : k < l := by
  simpa [h] using symbolsHit_sorted error

/-- Of a value that stands at symbol k alone, every other symbol is 0. -/
theorem symbol_shifted (v : Nat) {k j : Nat} (hv : v < 16) : v * 16 ^ k / 16 ^ j % 16 = if j = k then v else 0 := by
  obtain below | rfl | above := lt_trichotomy j k
  · obtain ⟨d, rfl⟩ := Nat.exists_eq_add_of_lt below
    have regrouped : v * 16 ^ (j + d + 1) = v * 16 ^ d * 16 * 16 ^ j := by ring
    rw [if_neg (by omega), regrouped, Nat.mul_div_cancel _ (by positivity), Nat.mul_mod_left]
  · rw [if_pos rfl, Nat.mul_div_cancel _ (by positivity), Nat.mod_eq_of_lt hv]
  · obtain ⟨d, rfl⟩ := Nat.exists_eq_add_of_lt above
    have small : v * 16 ^ k < 16 ^ (k + d + 1) :=
      calc v * 16 ^ k < 16 * 16 ^ k := Nat.mul_lt_mul_of_pos_right hv (by positivity)
        _ = 16 ^ (k + 1) := by ring
        _ ≤ 16 ^ (k + d + 1) := Nat.pow_le_pow_right (by decide) (by omega)
    rw [if_neg (by omega), Nat.div_eq_of_lt small]

theorem symbolsHit_single {k v : Nat} (hk : k < 36) (pos : 0 < v) (hv : v < 16) : symbolsHit (v * 16 ^ k) = [k] := by
  have hit : (fun j => v * 16 ^ k / 16 ^ j % 16 != 0) = fun j => j == k := by
    funext j
    rw [symbol_shifted v hv]
    by_cases same : j = k
    · simp [same, pos.ne']
    · simp [same]
  rw [symbolsHit, hit, List.filter_beq, List.count_eq_one_of_mem List.nodup_range (List.mem_range.2 hk), List.replicate_one]

/-! ### Where DRAM keeps codewords (R560) -/

theorem dramWords_octets : dramWords * 16 = 7 * 2 ^ 29 := by decide

/-- The codewords of DRAM lie in ascending order, apart, in data and in check bits, and end within the device. -/
theorem dram_ascending {n m : Nat} (h : n < m) (hm : m < dramWords) :
    dramData n + 16 ≤ dramData m ∧ dramCheck n + 2 ≤ dramCheck m ∧ dramData m + 16 ≤ 2 ^ 32 := by
  unfold dramWords at hm
  unfold dramData dramCheck
  omega

/-- An octet of a codeword lies in the codeword's run, not in the run's unused octets, and it is one of check bits where it lies in the
run's eighth burst. -/
theorem dram_octet {n a : Nat} (h : dramData n ≤ a ∧ a < dramData n + 16 ∨ dramCheck n ≤ a ∧ a < dramCheck n + 2) :
    dramUnused a = false ∧ a / 512 = n / 28 ∧ (dramCheck n ≤ a ↔ 448 ≤ a % 512) := by
  unfold dramData dramCheck at *
  unfold dramUnused
  rw [decide_eq_false_iff_not]
  omega

/-! ### Counting -/

/-- The counter has risen by n from the first state to the second, wrapping at its width. -/
def Counts (f : Field) (n : Nat) (s t : State) : Prop := t.rd f = (s.rd f + n) % 2 ^ f.width

theorem Counts.of_rd_eq {f : Field} {s t : State} (h : t.rd f = s.rd f) : Counts f 0 s t := by
  rw [Counts, h, Nat.add_zero, Nat.mod_eq_of_lt (State.rd_lt _ _)]

theorem Counts.rd_eq {f : Field} {s t : State} (h : Counts f 0 s t) : t.rd f = s.rd f := by
  rw [show t.rd f = _ from h, Nat.add_zero, Nat.mod_eq_of_lt (State.rd_lt _ _)]

theorem Counts.trans {f : Field} {a b : Nat} {s t u : State} (h : Counts f a s t) (k : Counts f b t u) : Counts f (a + b) s u := by
  rw [Counts, show u.rd f = _ from k, show t.rd f = _ from h, Nat.mod_add_mod, Nat.add_assoc]

theorem Counts.count (s : State) (f : Field) (d : Nat) : Counts f d s (s.count f d) := State.rd_wr_self _ _ _

theorem Counts.count_ne (s : State) {f g : Field} (d : Nat) (h : f.key ≠ g.key) : Counts f 0 s (s.count g d) :=
  .of_rd_eq (State.rd_wr_ne _ _ h)

/-- Where each step of a fold raises a counter by an amount, the fold raises it by their sum. -/
theorem Counts.foldl {α : Type} {f : Field} {step : State → α → State} {n : α → Nat} {l : List α}
    (h : ∀ s, ∀ x ∈ l, Counts f (n x) s (step s x)) (s : State) : Counts f (l.map n).sum s (l.foldl step s) := by
  induction l generalizing s with
  | nil => exact .of_rd_eq rfl
  | cons x l ih =>
    rw [List.map_cons, List.sum_cons, List.foldl_cons]
    exact (h s x List.mem_cons_self).trans (ih (fun s y hy => h s y (List.mem_cons_of_mem _ hy)) _)

/-- Flags that are counted as numbers sum to the number of the set ones. -/
theorem sum_map_toNat {α : Type} (p : α → Bool) (l : List α) : (l.map fun x => (p x).toNat).sum = (l.filter p).length := by
  induction l with
  | nil => rfl
  | cons x l ih =>
    rw [List.map_cons, List.sum_cons, ih, List.filter_cons]
    cases p x with
    | false => simp
    | true => simp [Nat.add_comm]

/-! ### The counts of ITG (R561, R566) -/

/-- What the counters of ITG for a memory class have risen by: corrected errors, uncorrectable errors, results published, and hot
locations. -/
structure Tallies (m corr uncorr published hot : Nat) (s t : State) : Prop where
  corr : Counts (ITG_CORR m) corr s t
  uncorr : Counts (ITG_UNCORR m) uncorr s t
  published : Counts (SEQ_COUNT 0x22) published s t
  hot : Counts ITG_HOT hot s t

/-- The counters of ITG for a memory class. -/
def itgCounters (m : Nat) : List Field := [ITG_CORR m, ITG_UNCORR m, SEQ_COUNT 0x22, ITG_HOT]

/-- The fields that a notice of ITG and its record in Silt may change, and those in which an uncorrectable error is described. -/
def itgReportFields : List Field :=
  [NOTE_RAW 0x22, MSIX_PBA, SLT_LOST, NOTE_RAW 0x1E, ITG_E_WHERE_MEM, ITG_E_WHERE_PAGE, ITG_E_ADDR_LO, ITG_E_ADDR_HI, ITG_E_TIME_LO,
    ITG_E_END_SYMBOLS, ITG_E_END_SCRUB, FRESH 0x22]

theorem itgCounters_distinct (m : Nat) :
    ((ITG_CORR m).key ≠ (ITG_UNCORR m).key ∧ (ITG_CORR m).key ≠ (SEQ_COUNT 0x22).key ∧ (ITG_CORR m).key ≠ ITG_HOT.key) ∧
      ((ITG_UNCORR m).key ≠ (SEQ_COUNT 0x22).key ∧ (ITG_UNCORR m).key ≠ ITG_HOT.key) ∧ (SEQ_COUNT 0x22).key ≠ ITG_HOT.key := by
  simp only [Field.key]
  omega

theorem itgCounters_apart (m : Nat) : ∀ f ∈ itgCounters m, ∀ g ∈ itgReportFields, f.key ≠ g.key := by
  simp only [itgCounters, itgReportFields, List.forall_mem_cons, List.not_mem_nil, false_imp_iff, implies_true, and_true, Field.key]
  omega

theorem Tallies.trans {m a b c d a' b' c' d' : Nat} {s t u : State} (h : Tallies m a b c d s t) (k : Tallies m a' b' c' d' t u) :
    Tallies m (a + a') (b + b') (c + c') (d + d') s u :=
  ⟨h.corr.trans k.corr, h.uncorr.trans k.uncorr, h.published.trans k.published, h.hot.trans k.hot⟩

/-- Nothing is counted where the counters read as before. -/
theorem Tallies.of_rd_eq {m : Nat} {s t : State} (h : ∀ f ∈ itgCounters m, t.rd f = s.rd f) : Tallies m 0 0 0 0 s t := by
  simp only [itgCounters, List.forall_mem_cons] at h
  obtain ⟨corr, uncorr, published, hot, -⟩ := h
  exact ⟨.of_rd_eq corr, .of_rd_eq uncorr, .of_rd_eq published, .of_rd_eq hot⟩

/-- A report of ITG counts nothing. -/
theorem Tallies.of_onlyFields {m : Nat} {s t : State} (h : OnlyFields itgReportFields s t) : Tallies m 0 0 0 0 s t :=
  .of_rd_eq fun f hf => h f (itgCounters_apart m f hf)

section
variable (s : State) (m : Nat)

theorem State.tallies_count_corr : Tallies m 1 0 0 0 s (s.count (ITG_CORR m) 1) :=
  let ⟨⟨uncorr, published, hot⟩, _⟩ := itgCounters_distinct m
  ⟨.count .., .count_ne _ _ uncorr.symm, .count_ne _ _ published.symm, .count_ne _ _ hot.symm⟩

theorem State.tallies_count_uncorr : Tallies m 0 1 0 0 s (s.count (ITG_UNCORR m) 1) :=
  let ⟨⟨corr, _⟩, ⟨published, hot⟩, _⟩ := itgCounters_distinct m
  ⟨.count_ne _ _ corr, .count .., .count_ne _ _ published.symm, .count_ne _ _ hot.symm⟩

theorem State.tallies_count_published : Tallies m 0 0 1 0 s (s.count (SEQ_COUNT 0x22) 1) :=
  let ⟨⟨_, corr, _⟩, ⟨uncorr, _⟩, hot⟩ := itgCounters_distinct m
  ⟨.count_ne _ _ corr, .count_ne _ _ uncorr, .count .., .count_ne _ _ hot.symm⟩

theorem State.tallies_count_hot : Tallies m 0 0 0 1 s (s.count ITG_HOT 1) :=
  let ⟨⟨_, _, corr⟩, ⟨_, uncorr⟩, published⟩ := itgCounters_distinct m
  ⟨.count_ne _ _ corr, .count_ne _ _ uncorr, .count_ne _ _ published, .count ..⟩

theorem State.tallies_notice (n : Notice) (page : n.page = 0x22) : Tallies m 0 0 0 0 s (s.notice n) :=
  .of_onlyFields fun f hf => State.rd_notice_ne _ _ (page ▸ hf _ (by simp [itgReportFields])) (hf _ (by simp [itgReportFields]))

theorem State.tallies_silt (c p0 p1 p2 p3 : Nat) : Tallies m 0 0 0 0 s (s.silt c p0 p1 p2 p3) :=
  .of_onlyFields fun f hf => by
    simp only [itgReportFields, List.forall_mem_cons] at hf
    obtain ⟨-, pba, lost, note, -⟩ := hf
    exact State.rd_silt_ne _ _ _ _ _ _ lost note pba

/-- The description of an uncorrectable error counts nothing. -/
theorem State.tallies_wrAll {l : List (Field × Nat)} (h : ∀ x ∈ l, x.1 ∈ itgReportFields) : Tallies m 0 0 0 0 s (s.wrAll l) :=
  .of_onlyFields fun f hf => by
    induction l generalizing s with
    | nil => rfl
    | cons x l ih =>
      obtain ⟨hx, hl⟩ := List.forall_mem_cons.1 h
      rw [State.wrAll_cons, ih _ hl, State.rd_wr_ne _ _ (hf _ hx)]

theorem State.tallies_publish : Tallies m 0 0 1 0 s (s.publish 0x22 0 (SEQ_COUNT 0x22)) :=
  (s.tallies_count_published m).trans (.of_onlyFields fun _ hf => State.rd_wr_ne _ _ (hf _ (by simp [itgReportFields])))

theorem State.tallies_itgHot (cls page addr : Nat) : Tallies m 0 0 0 1 s (s.itgHot cls page addr) :=
  ((s.tallies_count_hot m).trans (State.tallies_notice _ m _ rfl)).trans (State.tallies_silt _ m _ _ _ _ _)

theorem State.tallies_itgUncorr (page addr symbol : Nat) (scrub : Bool) :
    Tallies m 0 1 1 0 s (s.itgUncorr m page addr symbol scrub) :=
  ((((s.tallies_count_uncorr m).trans (State.tallies_wrAll _ m (by simp [itgReportFields]))).trans (State.tallies_publish _ m)).trans
    (State.tallies_notice _ m _ rfl)).trans (State.tallies_silt _ m _ _ _ _ _)

/-! ### One codeword of a pass (R561, R562) -/

/-- The scrubber reads a codeword with one wrong symbol: it is corrected, and its owner loses nothing. -/
theorem State.itgFound_of_one {e : ScrubFound} {k : Nat} (h : symbolsHit e.error = [k]) :
    s.itgFound m e =
      if e.third then (s.draw.2.count (ITG_CORR m) 1).itgHot m e.page (codewordAddr m e.word) else s.draw.2.count (ITG_CORR m) 1 := by
  simp only [State.itgFound, State.itgRead, codeCheck_of_one h, Bool.false_eq_true, if_false]

/-- The scrubber reads a codeword with two wrong symbols: the error is reported, and the owner loses what the codeword holds. -/
theorem State.itgFound_of_two {e : ScrubFound} {k l : Nat} (h : symbolsHit e.error = [k, l]) :
    s.itgFound m e = (s.draw.2.itgUncorr m e.page (codewordAddr m e.word) k true).ownerLoses m e.page e.item := by
  simp only [State.itgFound, State.itgRead, codeCheck_of_two h, if_true]

theorem State.tallies_draw : Tallies m 0 0 0 0 s s.draw.2 := .of_rd_eq fun _ _ => rfl

theorem State.tallies_itgFound_of_one {e : ScrubFound} (h : (symbolsHit e.error).length = 1) :
    Tallies m 1 0 0 e.third.toNat s (s.itgFound m e) := by
  obtain ⟨k, hit⟩ := List.length_eq_one_iff.1 h
  have corrected := (s.tallies_draw m).trans (State.tallies_count_corr _ m)
  rw [s.itgFound_of_one m hit]
  cases e.third with
  | false => exact corrected
  | true => exact corrected.trans (State.tallies_itgHot _ m _ _ _)

/-- The pages whose units have a rule of their own for a lost item. -/
def ownerPages : List Nat := [0x03, 0x05, 0x07, 0x09, 0x10, 0x1A, 0x1C, 0x21]

theorem State.ownerLoses_of_not_mem {page : Nat} (h : page ∉ ownerPages) (item : Nat) : s.ownerLoses m page item = s := by
  simp only [ownerPages, List.mem_cons, List.not_mem_nil, or_false, not_or] at h
  simp only [State.ownerLoses, h, if_false]

theorem State.tallies_itgFound_of_two {e : ScrubFound} (h : (symbolsHit e.error).length = 2) (page : e.page ∉ ownerPages) :
    Tallies m 0 1 1 0 s (s.itgFound m e) := by
  obtain ⟨k, l, hit⟩ := List.length_eq_two.1 h
  rw [s.itgFound_of_two m hit, State.ownerLoses_of_not_mem _ _ page]
  exact (s.tallies_draw m).trans (State.tallies_itgUncorr _ m _ _ _ _)

/-- An uncorrectable error that the scrubber finds in a bank of the store leaves that bank invalid, and the other one as it is. -/
theorem State.bank_itgFound_of_two {e : ScrubFound} (h : (symbolsHit e.error).length = 2) (page : e.page = 0x21) (item : e.item < 2) :
    (s.itgFound m e).bank e.item = none ∧ (s.itgFound m e).bank (1 - e.item) = s.bank (1 - e.item) := by
  obtain ⟨k, l, hit⟩ := List.length_eq_two.1 h
  have reported : (s.draw.2.itgUncorr m e.page (codewordAddr m e.word) k true).mrl = s.mrl :=
    (State.itgUncorr_kept (T := fun i => Nat.testBit 0x4400000020100000002 i = true) (Kept.refl s.draw.2) _ _ _ _ _ fun _ => id).frame
      .mrl (by decide)
  have banks : (s.itgFound m e).mrl.banks = putAt 2 none s.mrl.banks e.item none := by
    rw [s.itgFound_of_two m hit, ← reported, page, State.ownerLoses, Nat.mod_eq_of_lt item]
    rfl
  rw [State.bank, State.bank, State.bank, banks, getD_putAt _ _ _ _ _ item, getD_putAt _ _ _ _ _ (by omega), if_pos rfl,
    if_neg (by omega)]
  exact ⟨rfl, rfl⟩

/-! ### A pass (R562) -/

/-- What a pass leaves of the codewords that it met in error. -/
def State.itgScrubbed (s : State) (m : Nat) (found : List ScrubFound) : State := found.foldl (fun s e => s.itgFound m e) s

/-- What each codeword adds to the counters, the pass adds in sum. -/
theorem Tallies.itgScrubbed {m : Nat} {corr uncorr published hot : ScrubFound → Nat} {found : List ScrubFound}
    (h : ∀ s : State, ∀ e ∈ found, Tallies m (corr e) (uncorr e) (published e) (hot e) s (s.itgFound m e)) :
    Tallies m (found.map corr).sum (found.map uncorr).sum (found.map published).sum (found.map hot).sum s (s.itgScrubbed m found) :=
  ⟨.foldl (fun s e he => (h s e he).corr) s, .foldl (fun s e he => (h s e he).uncorr) s,
    .foldl (fun s e he => (h s e he).published) s, .foldl (fun s e he => (h s e he).hot) s⟩

theorem State.tallies_itgScrubbed_of_one {found : List ScrubFound} (h : ∀ e ∈ found, (symbolsHit e.error).length = 1) :
    Tallies m found.length 0 0 (found.filter ScrubFound.third).length s (s.itgScrubbed m found) := by
  simpa [sum_map_toNat] using Tallies.itgScrubbed s fun s e he => s.tallies_itgFound_of_one m (h e he)

theorem State.tallies_itgScrubbed_of_two {found : List ScrubFound}
    (h : ∀ e ∈ found, (symbolsHit e.error).length = 2 ∧ e.page ∉ ownerPages) :
    Tallies m 0 found.length found.length 0 s (s.itgScrubbed m found) := by
  simpa using Tallies.itgScrubbed s fun s e he => s.tallies_itgFound_of_two m (h e he).1 (h e he).2
end

/-! ### The command -/

/-- While ITG is at work, the command runs a pass. -/
theorem exec_itgScrub_of {s : State} (h : s.atWork 0x22 = true) (m : Nat) (found : List ScrubFound) :
    exec (.itgScrub m found) s = .next (s.itgPass m found) := by
  obtain ⟨live, runs⟩ := Bool.and_eq_true_iff.1 h
  exact congrArg Host.Outcome.next (State.working_of live runs _)

theorem itgScrub_disabled (s : State) (m : Nat) (found : List ScrubFound) (h : s.atWork 0x22 = true) (off : s.rd ITG_CTRL_SCRUB_EN = 0) :
    Completes (.itgScrub m found) s fun t => t = s :=
  ⟨_, exec_itgScrub_of h m found, by rw [State.itgPass, State.rdB, off]; rfl⟩

/-- A pass while SCRUB_EN is 1 ends with SCRUB_DONE. -/
theorem exec_itgScrub_enabled {s : State} (h : s.atWork 0x22 = true) (on : s.rd ITG_CTRL_SCRUB_EN = 1) (m : Nat) (found : List ScrubFound) :
    exec (.itgScrub m found) s = .next ((s.itgScrubbed m found).notice ITG_NOTE_SCRUB_DONE) := by
  rw [exec_itgScrub_of h, State.itgPass, State.rdB, on]
  rfl

theorem itgScrub_corrects (s : State) (m : Nat) (found : List ScrubFound) (h : s.atWork 0x22 = true) (on : s.rd ITG_CTRL_SCRUB_EN = 1)
    (one : ∀ e ∈ found, (symbolsHit e.error).length = 1) :
    Completes (.itgScrub m found) s fun t =>
      Noted ITG_NOTE_SCRUB_DONE t ∧ t.rd (ITG_CORR m) = (s.rd (ITG_CORR m) + found.length) % 2 ^ 32 ∧
      t.rd (ITG_UNCORR m) = s.rd (ITG_UNCORR m) ∧ t.rd (SEQ_COUNT 0x22) = s.rd (SEQ_COUNT 0x22) ∧
      t.rd ITG_HOT = (s.rd ITG_HOT + (found.filter ScrubFound.third).length) % 2 ^ 32 := by
  have pass := (s.tallies_itgScrubbed_of_one m one).trans (State.tallies_notice _ m ITG_NOTE_SCRUB_DONE rfl)
  exact ⟨_, exec_itgScrub_enabled h on m found, State.noted_notice _ _ (by decide), pass.corr, pass.uncorr.rd_eq, pass.published.rd_eq,
    pass.hot⟩

theorem itgScrub_reports (s : State) (m : Nat) (found : List ScrubFound) (h : s.atWork 0x22 = true) (on : s.rd ITG_CTRL_SCRUB_EN = 1)
    (two : ∀ e ∈ found, (symbolsHit e.error).length = 2 ∧ e.page ∉ ownerPages) :
    Completes (.itgScrub m found) s fun t =>
      Noted ITG_NOTE_SCRUB_DONE t ∧ t.rd (ITG_CORR m) = s.rd (ITG_CORR m) ∧
      t.rd (ITG_UNCORR m) = (s.rd (ITG_UNCORR m) + found.length) % 2 ^ 32 ∧
      t.rd (SEQ_COUNT 0x22) = (s.rd (SEQ_COUNT 0x22) + found.length) % 2 ^ 24 ∧ t.rd ITG_HOT = s.rd ITG_HOT := by
  have pass := (s.tallies_itgScrubbed_of_two m two).trans (State.tallies_notice _ m ITG_NOTE_SCRUB_DONE rfl)
  exact ⟨_, exec_itgScrub_enabled h on m found, State.noted_notice _ _ (by decide), pass.corr.rd_eq, pass.uncorr, pass.published,
    pass.hot.rd_eq⟩

theorem itgScrub_losesBank (s : State) (m : Nat) (e : ScrubFound) (h : s.atWork 0x22 = true) (on : s.rd ITG_CTRL_SCRUB_EN = 1)
    (two : (symbolsHit e.error).length = 2) (page : e.page = 0x21) (item : e.item < 2) :
    Completes (.itgScrub m [e]) s fun t =>
      t.bank e.item = none ∧ t.bank (1 - e.item) = s.bank (1 - e.item) ∧ Noted ITG_NOTE_SCRUB_DONE t := by
  obtain ⟨lost, stands⟩ := s.bank_itgFound_of_two m two page item
  have same (b : Nat) : ((s.itgScrubbed m [e]).notice ITG_NOTE_SCRUB_DONE).bank b = (s.itgFound m e).bank b := by
    rw [State.bank, State.notice_mrl]
    rfl
  exact ⟨_, exec_itgScrub_enabled h on m [e], (same _).trans lost, (same _).trans stands, State.noted_notice _ _ (by decide)⟩

/-- Settles O55: the clauses on the code by the sorted list of the symbols hit, those on DRAM by arithmetic within a run of 512 octets, and
those on a pass by what one codeword adds to each counter, summed over the codewords. -/
theorem symbolCodeAndScrubbing : Obligations.SymbolCodeAndScrubbing :=
  ⟨fun _ draw => ⟨fun h => codeCheck_of_none h draw, fun _ h => codeCheck_of_one h draw,
      fun _ _ h => ⟨symbolsHit_two_lt h, codeCheck_of_two h draw⟩⟩,
    fun _ _ => symbolsHit_single, dramWords_octets, fun _ _ => dram_ascending, fun _ _ => dram_octet, itgScrub_disabled,
    fun s m found h _ => itgScrub_corrects s m found h, fun s m found h _ => itgScrub_reports s m found h,
    fun s m e h _ => itgScrub_losesBank s m e h⟩

end Sys2Proof.Machine
end

section
/-! SUPPORT. What a command keeps, whichever it is: the queue of commands, the free values drawn, what has left the module, the
invariant, and every part of the state that it does not name. -/

namespace Sys2Proof.Machine

/-- The places of the parts that a command may touch: those of its list, and every place for a command of the whole machine. -/
def mayTouch (i : Instr) : Nat → Prop :=
  match touches i with
  | none => fun _ => True
  | some l => fun p => p ∈ l.map partCode

theorem mayTouch_of_some {i : Instr} {l : List Part} (h : touches i = some l) : mayTouch i = fun p => p ∈ l.map partCode := by
  rw [mayTouch, h]

theorem Outcome.Kept.whole {i : Instr} {s : State} {o : Host.Outcome State Fault Refusal} (none : touches i = none)
    (kept : ∀ {T : Nat → Prop}, (∀ p, T p) → Outcome.Kept T s o) : Outcome.Kept (mayTouch i) s o :=
  kept fun p => by rw [mayTouch, none]; trivial

theorem Outcome.Kept.listed {i : Instr} {s : State} {o : Host.Outcome State Fault Refusal} {l : List Part} {m : Nat}
    (names : touches i = some l) (kept : ∀ {T : Nat → Prop}, Sub m T → Outcome.Kept T s o)
    (mask : m = (l.map partCode).foldr (fun i n => n ||| 2 ^ i) 0) : Outcome.Kept (mayTouch i) s o := by
  rw [mayTouch_of_some names]
  exact kept (.ofList mask)

/-- One line for each command: its own lemma, and the mask of that lemma is its list of parts. -/
theorem exec_kept (i : Instr) (s : State) : Outcome.Kept (mayTouch i) s (exec i s) := by
  cases i with
  | modeDecisionStep => exact .whole rfl fun hp => execModeDecisionStep_kept (.refl s) hp
  | domainStartOnDemand d => exact .whole rfl fun hp => execDomainStartOnDemand_kept (.refl s) d hp
  | domainIdleStop d => exact .listed rfl (fun hp => execDomainIdleStop_kept (.refl s) d hp) rfl
  | coldStart f n => exact .whole rfl fun hp => execColdStart_kept (.refl s) f n hp
  | holdWake vinRise f n => exact .whole rfl fun hp => execHoldWake_kept (.refl s) vinRise f n hp
  | warmStart f n => exact .whole rfl fun hp => execWarmStart_kept (.refl s) f n hp
  | vinLoss cut => exact .listed rfl (fun hp => execVinLoss_kept (.refl s) cut hp) rfl
  | vbakLoss => exact .whole rfl fun hp => execVbakLoss_kept (.refl s) hp
  | rstNPulse => exact .whole rfl fun hp => execRstNPulse_kept (.refl s) hp
  | rstNHoldWake => exact .listed rfl (fun hp => execRstNHoldWake_kept (.refl s) hp) rfl
  | supWatchdogReset line => exact .whole rfl fun hp => execSupWatchdogReset_kept (.refl s) line hp
  | sysResetWarm port key => exact .whole rfl fun hp => execSysResetWarm_kept (.refl s) port key hp
  | sysPowerReq port v => exact .listed rfl (fun hp => execSysPowerReq_kept (.refl s) port v hp) rfl
  | contactorDriverLatch k => exact .listed rfl (fun hp => execContactorDriverLatch_kept (.refl s) k hp) rfl
  | dieHot t => exact .listed rfl (fun hp => execDieHot_kept (.refl s) t hp) rfl
  | paInhibit t => exact .listed rfl (fun hp => execPaInhibit_kept (.refl s) t hp) rfl
  | paInhibitEnd t => exact .listed rfl (fun hp => execPaInhibitEnd_kept (.refl s) t hp) rfl
  | lrpWrite addr value be => exact .whole rfl fun hp => execLrpWrite_kept (.refl s) addr value be hp
  | bar0Write addr value whole => exact .whole rfl fun hp => execBar0Write_kept (.refl s) addr value whole hp
  | bar0Read addr whole => exact .whole rfl fun hp => execBar0Read_kept (.refl s) addr whole hp
  | bar2Access write addr words => exact .whole rfl fun hp => execBar2Access_kept (.refl s) write addr words hp
  | registerWrite port => exact .whole rfl fun hp => execRegisterWrite_kept (.refl s) port hp
  | seqWordRead port b => exact .whole rfl fun hp => execSeqWordRead_kept (.refl s) port b hp
  | blockLastWordRead port b => exact .whole rfl fun hp => execBlockLastWordRead_kept (.refl s) port b hp
  | rcRead port addr => exact .whole rfl fun hp => execRcRead_kept (.refl s) port addr hp
  | sysEpochLoRead port => exact .whole rfl fun hp => execSysEpochLoRead_kept (.refl s) port hp
  | hifFenceWrite port v => exact .whole rfl fun hp => execHifFenceWrite_kept (.refl s) port v hp
  | lrpClkLost => exact .listed rfl (fun hp => execLrpClkLost_kept (.refl s) hp) rfl
  | lrpClkResume => exact .listed rfl (fun hp => execLrpClkResume_kept (.refl s) hp) rfl
  | pciePerst => exact .whole rfl fun hp => execPciePerst_kept (.refl s) hp
  | pcieLinkDown => exact .listed rfl (fun hp => execPcieLinkDown_kept (.refl s) hp) rfl
  | hifEoi port v => exact .listed rfl (fun hp => execHifEoi_kept (.refl s) port v hp) rfl
  | msixUnmask v masked bme en fmask mse bar0 bar2 => exact .listed rfl (fun hp => execMsixUnmask_kept (.refl s) v masked bme en fmask mse bar0 bar2 hp) rfl
  | txnOpen port t => exact .listed rfl (fun hp => execTxnOpen_kept (.refl s) port t hp) rfl
  | txnSelect port t => exact .listed rfl (fun hp => execTxnSelect_kept (.refl s) port t hp) rfl
  | txnDeselect port => exact .listed rfl (fun hp => execTxnDeselect_kept (.refl s) port hp) rfl
  | txnCommit port t c => exact .listed rfl (fun hp => execTxnCommit_kept (.refl s) port t c hp) rfl
  | txnAbort port t => exact .listed rfl (fun hp => execTxnAbort_kept (.refl s) port t hp) rfl
  | txnUndefinedOp port => exact .listed rfl (fun hp => execTxnUndefinedOp_kept (.refl s) port hp) rfl
  | txnApply c => exact .whole rfl fun hp => execTxnApply_kept (.refl s) c hp
  | trialTimerExpiry => exact .whole rfl fun hp => execTrialTimerExpiry_kept (.refl s) hp
  | chainRetune port k freq lost => exact .listed rfl (fun hp => execChainRetune_kept (.refl s) port k freq lost hp) rfl
  | adcClipAgcStep k att lost => exact .listed rfl (fun hp => execAdcClipAgcStep_kept (.refl s) k att lost hp) rfl
  | agcStep k att inFrame => exact .listed rfl (fun hp => execAgcStep_kept (.refl s) k att inFrame hp) rfl
  | chnFrameReceived n sfd ends rssi lqi fcsOk m => exact .listed rfl (fun hp => execChnFrameReceived_kept (.refl s) n sfd ends rssi lqi fcsOk m hp) rfl
  | regionChange => exact .listed rfl (fun hp => execRegionChange_kept (.refl s) hp) rfl
  | budgetBucketAdvance e ch => exact .listed rfl (fun hp => execBudgetBucketAdvance_kept (.refl s) e ch hp) rfl
  | txFrameStart c lost => exact .listed rfl (fun hp => execTxFrameStart_kept (.refl s) c lost hp) rfl
  | macQueueEnqueue m seq => exact .listed rfl (fun hp => execMacQueueEnqueue_kept (.refl s) m seq hp) rfl
  | tschSlotPlan c inFrame => exact .listed rfl (fun hp => execTschSlotPlan_kept (.refl s) c inFrame hp) rfl
  | macRealign port => exact .listed rfl (fun hp => execMacRealign_kept (.refl s) port hp) rfl
  | macFrameReceived lost => exact .listed rfl (fun hp => execMacFrameReceived_kept (.refl s) lost hp) rfl
  | partnerBeaconMiss => exact .listed rfl (fun hp => execPartnerBeaconMiss_kept (.refl s) hp) rfl
  | joinTimeout idx => exact .listed rfl (fun hp => execJoinTimeout_kept (.refl s) idx hp) rfl
  | ackWaitExpiry n => exact .listed rfl (fun hp => execAckWaitExpiry_kept (.refl s) n hp) rfl
  | ntbProvision port idx => exact .listed rfl (fun hp => execNtbProvision_kept (.refl s) port idx hp) rfl
  | ntbBlock port idx => exact .listed rfl (fun hp => execNtbBlock_kept (.refl s) port idx hp) rfl
  | ntbUnblock port idx => exact .listed rfl (fun hp => execNtbUnblock_kept (.refl s) port idx hp) rfl
  | ntbFree port idx => exact .listed rfl (fun hp => execNtbFree_kept (.refl s) port idx hp) rfl
  | ntbClearHealth port idx => exact .listed rfl (fun hp => execNtbClearHealth_kept (.refl s) port idx hp) rfl
  | ntbFind port w => exact .listed rfl (fun hp => execNtbFind_kept (.refl s) port w hp) rfl
  | nodeEntryWrite port off w => exact .listed rfl (fun hp => execNodeEntryWrite_kept (.refl s) port off w hp) rfl
  | claimHeartbeat => exact .listed rfl (fun hp => execClaimHeartbeat_kept (.refl s) hp) rfl
  | sprSubmission => exact .listed rfl (fun hp => execSprSubmission_kept (.refl s) hp) rfl
  | sprEnableWrite port en => exact .listed rfl (fun hp => execSprEnableWrite_kept (.refl s) port en hp) rfl
  | drfEventIntake v instant strength sensor => exact .listed rfl (fun hp => execDrfEventIntake_kept (.refl s) v instant strength sensor hp) rfl
  | drfInject port v age => exact .listed rfl (fun hp => execDrfInject_kept (.refl s) port v age hp) rfl
  | drfEvaluation c dur mem => exact .listed rfl (fun hp => execDrfEvaluation_kept (.refl s) c dur mem hp) rfl
  | drfGraphSwap port => exact .listed rfl (fun hp => execDrfGraphSwap_kept (.refl s) port hp) rfl
  | drfSwapCheckDone => exact .listed rfl (fun hp => execDrfSwapCheckDone_kept (.refl s) hp) rfl
  | drfEnableWrite port en => exact .listed rfl (fun hp => execDrfEnableWrite_kept (.refl s) port en hp) rfl
  | schTick => exact .listed rfl (fun hp => execSchTick_kept (.refl s) hp) rfl
  | schHighWaterSave => exact .listed rfl (fun hp => execSchHighWaterSave_kept (.refl s) hp) rfl
  | tmpSample c bad lost late => exact .whole rfl fun hp => execTmpSample_kept (.refl s) c bad lost late hp
  | tmpMeasSlot port k => exact .listed rfl (fun hp => execTmpMeasSlot_kept (.refl s) port k hp) rfl
  | tmpSlotDisable k => exact .listed rfl (fun hp => execTmpSlotDisable_kept (.refl s) k hp) rfl
  | shapingPass c dur late => exact .listed rfl (fun hp => execShapingPass_kept (.refl s) c dur late hp) rfl
  | dalFrameTx k collision => exact .listed rfl (fun hp => execDalFrameTx_kept (.refl s) k collision hp) rfl
  | dalRefresh k => exact .listed rfl (fun hp => execDalRefresh_kept (.refl s) k hp) rfl
  | dalBusDown k => exact .listed rfl (fun hp => execDalBusDown_kept (.refl s) k hp) rfl
  | dalBusUp k => exact .listed rfl (fun hp => execDalBusUp_kept (.refl s) k hp) rfl
  | dalEventReceived k frame instant => exact .listed rfl (fun hp => execDalEventReceived_kept (.refl s) k frame instant hp) rfl
  | dalRawRequest port k bits24 twice answer prio => exact .listed rfl (fun hp => execDalRawRequest_kept (.refl s) port k bits24 twice answer prio hp) rfl
  | dalRawComplete answer bad => exact .listed rfl (fun hp => execDalRawComplete_kept (.refl s) answer bad hp) rfl
  | emuSample c bits => exact .listed rfl (fun hp => execEmuSample_kept (.refl s) c bits hp) rfl
  | emuChannelFault k => exact .listed rfl (fun hp => execEmuChannelFault_kept (.refl s) k hp) rfl
  | emuChannelFaultEnd k => exact .listed rfl (fun hp => execEmuChannelFaultEnd_kept (.refl s) k hp) rfl
  | emuZcTimeout k => exact .listed rfl (fun hp => execEmuZcTimeout_kept (.refl s) k hp) rfl
  | emuAccumulatorSave => exact .listed rfl (fun hp => execEmuAccumulatorSave_kept (.refl s) hp) rfl
  | emuClear port c => exact .listed rfl (fun hp => execEmuClear_kept (.refl s) port c hp) rfl
  | emurBoundarySnapshot c => exact .listed rfl (fun hp => execEmurBoundarySnapshot_kept (.refl s) c hp) rfl
  | emurEstimateTick c => exact .listed rfl (fun hp => execEmurEstimateTick_kept (.refl s) c hp) rfl
  | emurWindowClose c g => exact .listed rfl (fun hp => execEmurWindowClose_kept (.refl s) c g hp) rfl
  | etpFrameReceived k c len f fcsOk ns => exact .listed rfl (fun hp => execEtpFrameReceived_kept (.refl s) k c len f fcsOk ns hp) rfl
  | etpFrameTransmit k c ns ecc => exact .listed rfl (fun hp => execEtpFrameTransmit_kept (.refl s) k c ns ecc hp) rfl
  | pauseTimerExpiry k c => exact .listed rfl (fun hp => execPauseTimerExpiry_kept (.refl s) k c hp) rfl
  | pauseRepeat k => exact .listed rfl (fun hp => execPauseRepeat_kept (.refl s) k hp) rfl
  | lpiEntry k rx => exact .listed rfl (fun hp => execLpiEntry_kept (.refl s) k rx hp) rfl
  | lpiWake k rx => exact .listed rfl (fun hp => execLpiWake_kept (.refl s) k rx hp) rfl
  | swfSpeedStep load100 load1 => exact .listed rfl (fun hp => execSwfSpeedStep_kept (.refl s) load100 load1 hp) rfl
  | etpLinkChange k up speed => exact .listed rfl (fun hp => execEtpLinkChange_kept (.refl s) k up speed hp) rfl
  | etpModeWrite port k mode => exact .listed rfl (fun hp => execEtpModeWrite_kept (.refl s) port k mode hp) rfl
  | etpFwdStateWrite port k w => exact .listed rfl (fun hp => execEtpFwdStateWrite_kept (.refl s) port k w hp) rfl
  | fdbAgeExpiry c => exact .listed rfl (fun hp => execFdbAgeExpiry_kept (.refl s) c hp) rfl
  | fdbInsert port vid => exact .listed rfl (fun hp => execFdbInsert_kept (.refl s) port vid hp) rfl
  | fdbDelete port vid => exact .listed rfl (fun hp => execFdbDelete_kept (.refl s) port vid hp) rfl
  | fdbFlushPort port k => exact .listed rfl (fun hp => execFdbFlushPort_kept (.refl s) port k hp) rfl
  | fdbFlushInstance port idx => exact .listed rfl (fun hp => execFdbFlushInstance_kept (.refl s) port idx hp) rfl
  | fdbFlushAll port => exact .listed rfl (fun hp => execFdbFlushAll_kept (.refl s) port hp) rfl
  | fdbLookup port vid => exact .listed rfl (fun hp => execFdbLookup_kept (.refl s) port vid hp) rfl
  | mdioC45Address port c45 phy reg => exact .listed rfl (fun hp => execMdioC45Address_kept (.refl s) port c45 phy reg hp) rfl
  | mdioWrite port c45 phy reg => exact .listed rfl (fun hp => execMdioWrite_kept (.refl s) port c45 phy reg hp) rfl
  | mdioRead port c45 phy reg => exact .listed rfl (fun hp => execMdioRead_kept (.refl s) port c45 phy reg hp) rfl
  | mdioC22Read port c45 phy reg => exact .listed rfl (fun hp => execMdioC22Read_kept (.refl s) port c45 phy reg hp) rfl
  | mdioDone data => exact .listed rfl (fun hp => execMdioDone_kept (.refl s) data hp) rfl
  | hdmTxTailWrite port r v => exact .listed rfl (fun hp => execHdmTxTailWrite_kept (.refl s) port r v hp) rfl
  | hdmTxFrame r descs data readErr => exact .listed rfl (fun hp => execHdmTxFrame_kept (.refl s) r descs data readErr hp) rfl
  | hdmRxDeliver r bufs ecc => exact .listed rfl (fun hp => execHdmRxDeliver_kept (.refl s) r bufs ecc hp) rfl
  | hdmModDelayExpiry tx r => exact .listed rfl (fun hp => execHdmModDelayExpiry_kept (.refl s) tx r hp) rfl
  | hdmDmaError => exact .listed rfl (fun hp => execHdmDmaError_kept (.refl s) hp) rfl
  | ptpSyncReceived k sender senderPort domain seq rx origin corr twoStep => exact .listed rfl (fun hp => execPtpSyncReceived_kept (.refl s) k sender senderPort domain seq rx origin corr twoStep hp) rfl
  | ptpAnnounceReceived k a => exact .listed rfl (fun hp => execPtpAnnounceReceived_kept (.refl s) k a hp) rfl
  | announceTimeout => exact .listed rfl (fun hp => execAnnounceTimeout_kept (.refl s) hp) rfl
  | holdoverExpiry => exact .listed rfl (fun hp => execHoldoverExpiry_kept (.refl s) hp) rfl
  | ptpMessageTx k kind seq ns => exact .listed rfl (fun hp => execPtpMessageTx_kept (.refl s) k kind seq ns hp) rfl
  | timHostStateWrite port v => exact .listed rfl (fun hp => execTimHostStateWrite_kept (.refl s) port v hp) rfl
  | timRateWrite port w => exact .listed rfl (fun hp => execTimRateWrite_kept (.refl s) port w hp) rfl
  | timStepHiWrite port w => exact .listed rfl (fun hp => execTimStepHiWrite_kept (.refl s) port w hp) rfl
  | timCapture port => exact .listed rfl (fun hp => execTimCapture_kept (.refl s) port hp) rfl
  | timNowLoRead port => exact .whole rfl fun hp => execTimNowLoRead_kept (.refl s) port hp
  | timTsPop port count => exact .listed rfl (fun hp => execTimTsPop_kept (.refl s) port count hp) rfl
  | ppsOutPulse c => exact .listed rfl (fun hp => execPpsOutPulse_kept (.refl s) c hp) rfl
  | ppsInEdge falling c => exact .listed rfl (fun hp => execPpsInEdge_kept (.refl s) falling c hp) rfl
  | rtcSecondRollover => exact .listed rfl (fun hp => execRtcSecondRollover_kept (.refl s) hp) rfl
  | rtcSetCount port => exact .listed rfl (fun hp => execRtcSetCount_kept (.refl s) port hp) rfl
  | rtcSetFields port => exact .listed rfl (fun hp => execRtcSetFields_kept (.refl s) port hp) rfl
  | rtcTrimWindowEnd c => exact .listed rfl (fun hp => execRtcTrimWindowEnd_kept (.refl s) c hp) rfl
  | oscillatorStopped => exact .listed rfl (fun hp => execOscillatorStopped_kept (.refl s) hp) rfl
  | slqPacketComplete q kind prio pad words carry => exact .listed rfl (fun hp => execSlqPacketComplete_kept (.refl s) q kind prio pad words carry hp) rfl
  | slqStallResume q => exact .listed rfl (fun hp => execSlqStallResume_kept (.refl s) q hp) rfl
  | slqUplinkRead port q spoiled => exact .listed rfl (fun hp => execSlqUplinkRead_kept (.refl s) port q spoiled hp) rfl
  | slqDrop port q => exact .listed rfl (fun hp => execSlqDrop_kept (.refl s) port q hp) rfl
  | slqMark port q => exact .listed rfl (fun hp => execSlqMark_kept (.refl s) port q hp) rfl
  | slqRewind port q => exact .listed rfl (fun hp => execSlqRewind_kept (.refl s) port q hp) rfl
  | slqClearMark port q => exact .listed rfl (fun hp => execSlqClearMark_kept (.refl s) port q hp) rfl
  | slqClrMax port q => exact .listed rfl (fun hp => execSlqClrMax_kept (.refl s) port q hp) rfl
  | slqFlush port q => exact .listed rfl (fun hp => execSlqFlush_kept (.refl s) port q hp) rfl
  | slqDownlinkData port d w => exact .listed rfl (fun hp => execSlqDownlinkData_kept (.refl s) port d w hp) rfl
  | slqDownlinkCommit port d len => exact .listed rfl (fun hp => execSlqDownlinkCommit_kept (.refl s) port d len hp) rfl
  | slqAbort port d => exact .listed rfl (fun hp => execSlqAbort_kept (.refl s) port d hp) rfl
  | slqCellsWrite port q n => exact .listed rfl (fun hp => execSlqCellsWrite_kept (.refl s) port q n hp) rfl
  | slqTimeout q => exact .listed rfl (fun hp => execSlqTimeout_kept (.refl s) q hp) rfl
  | slqEnableWrite port en => exact .listed rfl (fun hp => execSlqEnableWrite_kept (.refl s) port en hp) rfl
  | heartbeat c => exact .listed rfl (fun hp => execHeartbeat_kept (.refl s) c hp) rfl
  | biduesFrameReceived f => exact .listed rfl (fun hp => execBiduesFrameReceived_kept (.refl s) f hp) rfl
  | query f => exact .listed rfl (fun hp => execQuery_kept (.refl s) f hp) rfl
  | answer f => exact .listed rfl (fun hp => execAnswer_kept (.refl s) f hp) rfl
  | swapReq f => exact .listed rfl (fun hp => execSwapReq_kept (.refl s) f hp) rfl
  | swapAck f => exact .listed rfl (fun hp => execSwapAck_kept (.refl s) f hp) rfl
  | swapNak f => exact .listed rfl (fun hp => execSwapNak_kept (.refl s) f hp) rfl
  | resign f => exact .listed rfl (fun hp => execResign_kept (.refl s) f hp) rfl
  | biduesLinkLost => exact .listed rfl (fun hp => execBiduesLinkLost_kept (.refl s) hp) rfl
  | comparatorLoad => exact .listed rfl (fun hp => execComparatorLoad_kept (.refl s) hp) rfl
  | startWaitExpiry => exact .listed rfl (fun hp => execStartWaitExpiry_kept (.refl s) hp) rfl
  | queryWaitExpiry => exact .listed rfl (fun hp => execQueryWaitExpiry_kept (.refl s) hp) rfl
  | swapAckTimeout => exact .listed rfl (fun hp => execSwapAckTimeout_kept (.refl s) hp) rfl
  | handover port => exact .listed rfl (fun hp => execHandover_kept (.refl s) port hp) rfl
  | take port => exact .listed rfl (fun hp => execTake_kept (.refl s) port hp) rfl
  | epochReset port => exact .listed rfl (fun hp => execEpochReset_kept (.refl s) port hp) rfl
  | clmQuery port => exact .listed rfl (fun hp => execClmQuery_kept (.refl s) port hp) rfl
  | periodicSwap => exact .listed rfl (fun hp => execPeriodicSwap_kept (.refl s) hp) rfl
  | revertSettleExpiry => exact .listed rfl (fun hp => execRevertSettleExpiry_kept (.refl s) hp) rfl
  | clmEnableWrite port en => exact .listed rfl (fun hp => execClmEnableWrite_kept (.refl s) port en hp) rfl
  | quietTableHour => exact .listed rfl (fun hp => execQuietTableHour_kept (.refl s) hp) rfl
  | keyLoad => exact .listed rfl (fun hp => execKeyLoad_kept (.refl s) hp) rfl
  | keyDerive => exact .listed rfl (fun hp => execKeyDerive_kept (.refl s) hp) rfl
  | keyRotate => exact .listed rfl (fun hp => execKeyRotate_kept (.refl s) hp) rfl
  | keyErase => exact .listed rfl (fun hp => execKeyErase_kept (.refl s) hp) rfl
  | lcRequest => exact .listed rfl (fun hp => execLcRequest_kept (.refl s) hp) rfl
  | keyQuery => exact .listed rfl (fun hp => execKeyQuery_kept (.refl s) hp) rfl
  | keyIslandError => exact .listed rfl (fun hp => execKeyIslandError_kept (.refl s) hp) rfl
  | tamperSamplingRound opened hot busy => exact .listed rfl (fun hp => execTamperSamplingRound_kept (.refl s) opened hot busy hp) rfl
  | tamperMonitorTrip m aon busy => exact .listed rfl (fun hp => execTamperMonitorTrip_kept (.refl s) m aon busy hp) rfl
  | tprCfgWrite port mon w => exact .listed rfl (fun hp => execTprCfgWrite_kept (.refl s) port mon w hp) rfl
  | siltEvent code p0 p1 p2 p3 => exact .listed rfl (fun hp => execSiltEvent_kept (.refl s) code p0 p1 p2 p3 hp) rfl
  | siltRecordWrite => exact .listed rfl (fun hp => execSiltRecordWrite_kept (.refl s) hp) rfl
  | sltClear port key => exact .listed rfl (fun hp => execSltClear_kept (.refl s) port key hp) rfl
  | sivModeReq port v => exact .listed rfl (fun hp => execSivModeReq_kept (.refl s) port v hp) rfl
  | sieveSliceStart c unplaced => exact .listed rfl (fun hp => execSieveSliceStart_kept (.refl s) c unplaced hp) rfl
  | sieveSliceEnd c region piece found => exact .whole rfl fun hp => execSieveSliceEnd_kept (.refl s) c region piece found hp
  | sieveRoundLimit c => exact .listed rfl (fun hp => execSieveRoundLimit_kept (.refl s) c hp) rfl
  | sieveFullDone found fails regions uncleared => exact .whole rfl fun hp => execSieveFullDone_kept (.refl s) found fails regions uncleared hp
  | recover port region => exact .listed rfl (fun hp => execRecover_kept (.refl s) port region hp) rfl
  | recoverDone found fails => exact .listed rfl (fun hp => execRecoverDone_kept (.refl s) found fails hp) rfl
  | clearFailed port region => exact .listed rfl (fun hp => execClearFailed_kept (.refl s) port region hp) rfl
  | grgHeader => exact .listed rfl (fun hp => execGrgHeader_kept (.refl s) hp) rfl
  | grgBlock => exact .listed rfl (fun hp => execGrgBlock_kept (.refl s) hp) rfl
  | grgAbandon => exact .listed rfl (fun hp => execGrgAbandon_kept (.refl s) hp) rfl
  | grgVerify => exact .listed rfl (fun hp => execGrgVerify_kept (.refl s) hp) rfl
  | grgIdleLimit => exact .listed rfl (fun hp => execGrgIdleLimit_kept (.refl s) hp) rfl
  | activate port p => exact .listed rfl (fun hp => execActivate_kept (.refl s) port p hp) rfl
  | confirm port p => exact .listed rfl (fun hp => execConfirm_kept (.refl s) port p hp) rfl
  | rollback port p => exact .whole rfl fun hp => execRollback_kept (.refl s) port p hp
  | campaign port => exact .listed rfl (fun hp => execCampaign_kept (.refl s) port hp) rfl
  | campaignOffer => exact .listed rfl (fun hp => execCampaignOffer_kept (.refl s) hp) rfl
  | campaignQueryWait => exact .listed rfl (fun hp => execCampaignQueryWait_kept (.refl s) hp) rfl
  | nodeActivate port => exact .listed rfl (fun hp => execNodeActivate_kept (.refl s) port hp) rfl
  | stopCampaign port => exact .listed rfl (fun hp => execStopCampaign_kept (.refl s) port hp) rfl
  | bootromContainer b data failed => exact .listed rfl (fun hp => execBootromContainer_kept (.refl s) b data failed hp) rfl
  | save port => exact .listed rfl (fun hp => execSave_kept (.refl s) port hp) rfl
  | mrlAutoSave => exact .listed rfl (fun hp => execMrlAutoSave_kept (.refl s) hp) rfl
  | mrlSaveDone ok => exact .listed rfl (fun hp => execMrlSaveDone_kept (.refl s) ok hp) rfl
  | clear port key => exact .listed rfl (fun hp => execClear_kept (.refl s) port key hp) rfl
  | itgScrub m found => exact .listed rfl (fun hp => execItgScrub_kept (.refl s) m found hp) rfl
  | txFrameEnd c at_ load => exact .listed rfl (fun hp => execTxFrameEnd_kept (.refl s) c at_ load hp) rfl
  | rstNRelease => exact .listed rfl (fun hp => execRstNRelease_kept (.refl s) hp) rfl
  | winDataRead port page => exact .whole rfl fun hp => execWinDataRead_kept (.refl s) port page hp
  | macAsnLoRead port => exact .whole rfl fun hp => execMacAsnLoRead_kept (.refl s) port hp
  | schHighLoRead port => exact .whole rfl fun hp => execSchHighLoRead_kept (.refl s) port hp
  | etpBytesLoRead port k tx => exact .whole rfl fun hp => execEtpBytesLoRead_kept (.refl s) port k tx hp
  | pcieLinkUp width speed => exact .listed rfl (fun hp => execPcieLinkUp_kept (.refl s) width speed hp) rfl
  | dieHotEnd t => exact .listed rfl (fun hp => execDieHotEnd_kept (.refl s) t hp) rfl
  | hdmRxTailWrite port r v => exact .listed rfl (fun hp => execHdmRxTailWrite_kept (.refl s) port r v hp) rfl
  | ptpFollowUpReceived k sender senderPort domain seq origin corr => exact .listed rfl (fun hp => execPtpFollowUpReceived_kept (.refl s) k sender senderPort domain seq origin corr hp) rfl
  | ptpDelayReqReceived k domain seq rx => exact .listed rfl (fun hp => execPtpDelayReqReceived_kept (.refl s) k domain seq rx hp) rfl
  | ptpDelayRespReceived k sender senderPort domain seq t4 corr => exact .listed rfl (fun hp => execPtpDelayRespReceived_kept (.refl s) k sender senderPort domain seq t4 corr hp) rfl
  | calendarFractionAdvance => exact .listed rfl (fun hp => execCalendarFractionAdvance_kept (.refl s) hp) rfl

/-- A command that answers a next state keeps the invariant. -/
theorem invariant_exec {i : Instr} {s t : State} (h : Invariant s) (e : exec i s = .next t) : Invariant t :=
  (exec_kept i s t e).inv h

/-- The invariant does not speak of the queue of commands. -/
theorem invariant_withPending {s : State} (h : Invariant s) (l : List Instr) : Invariant { s with pending := l } :=
  ⟨h.regs, h.win, h.intake, h.log, h.lrp, h.pcie, h.frames, h.queue⟩

/-- A tick of the raw counter changes the time unit alone. -/
theorem invariant_tick {s : State} (h : Invariant s) : Invariant s.tick := by
  unfold State.tick
  split
  · exact ⟨h.regs, h.win, h.intake, h.log, h.lrp, h.pcie, h.frames, h.queue⟩
  · exact h

/-- Settles O59: a step is a tick of the raw counter or the command at the front of the queue, and each keeps the invariant. -/
theorem invariantIsKept : Obligations.InvariantIsKept := by
  intro s t inv next
  unfold step at next
  split at next
  case h_1 => exact Host.Outcome.next.inj next ▸ invariant_tick inv
  case h_2 i rest _ => exact invariant_exec (invariant_withPending inv rest) next

/-- Settles O60: what a command keeps, restated without the masks of the parts. -/
theorem commandsTouchOnlyTheirParts : Obligations.CommandsTouchOnlyTheirParts := by
  refine ⟨fun i s t next => ?_, fun i s t l next names => ?_⟩
  · obtain ⟨pend, draws, emitted, -, -⟩ := exec_kept i s t next
    exact ⟨pend, draws, emitted⟩
  · have kept := exec_kept i s t next
    rw [mayTouch_of_some names] at kept
    exact kept.unchanged

end Sys2Proof.Machine
end

section
/-! SUPPORT. The step, the state after reset, and the verdicts of the mode matrix (R31, R111). -/

namespace Sys2Proof.Machine

/-- Settles O57: each command's meaning is written as the one next state. -/
theorem everyCommandCompletes : Obligations.EveryCommandCompletes := by
  intro i s
  cases i <;> exact ⟨_, rfl⟩

theorem State.timeRuns_of_domain {s : State} (h : s.domain 11 = .running) : s.timeRuns = true := by
  simp [State.timeRuns, h]

theorem State.timeRuns_of_domain_ne {s : State} (h : s.domain 11 ≠ .running) : s.timeRuns = false := by
  simp [State.timeRuns, h]

theorem step_of_idle {s : State} (h : s.pending = []) : step s = .next s.tick := by
  rw [step, h]

/-- Settles O56: a waiting command is taken by definition, and an idle step is a tick of the raw counter. -/
theorem stepRunsTheFrontCommand : Obligations.StepRunsTheFrontCommand := by
  refine ⟨fun c rest s => rfl, fun s idle runs => ?_, fun s idle stopped => ?_⟩
  · rw [step_of_idle idle, State.tick, if_pos (State.timeRuns_of_domain runs)]
    rfl
  · rw [step_of_idle idle, State.tick, State.timeRuns_of_domain_ne stopped, if_neg Bool.false_ne_true]

theorem State.queue_reset (q : Nat) (h : q < 24) : State.reset.queue q = .empty := by
  unfold State.queue
  split
  · exact List.getD_replicate _ ‹_›
  · exact List.getD_replicate _ (by omega)

/-- Settles O58: after reset no register and no window octet is listed, so that each reads its reset value. -/
theorem resetState : Obligations.ResetState :=
  ⟨rfl, rfl, rfl, rfl, rfl, rfl, rfl, rfl, ⟨rfl, rfl, by decide, by decide, by decide, by decide, by decide, by decide⟩,
    fun _ _ => rfl, fun _ => rfl, State.queue_reset, fun _ => rfl⟩

/-- Settles O12: after t11 the rows of the matrix are asked one after the other, and each clause names the row that answers. -/
theorem modeMatrixOfPower : Obligations.ModeMatrixOfPower := by
  intro s v
  have rows (late : 11 ≤ s.startup.line) (v : Power) : s.powerVerdict v =
      if s.modes.power = v then .grant
      else if s.modes.life = .scrapped ∧ (v = .quiet ∨ v = .doze) then .refuse 1
      else if v = .hold ∧ (s.modes.role = .primary ∨ s.modes.role = .swapping) then .refuse 3
      else if v = .doze ∧ s.modes.role = .swapping then .refuse 3
      else if v ≠ .run ∧ s.modes.grog = .activating then .refuse 4
      else if v ≠ .run ∧ s.modes.sieve = .full then .refuse 5
      else .grant := if_neg (by omega)
  refine ⟨fun early => if_pos early, fun late => ⟨fun same => ?_, ?_, fun other scrapped saves => ?_, fun other pair => ?_,
    fun other life swapping => ?_, fun other saves life role => ?_⟩, if_pos rfl, fun clear life doze => ?_,
    fun clear life run swapping => ?_⟩
  · rw [rows late, if_pos same]
  · rw [rows late]
    simp
  · rw [rows late, if_neg other, if_pos ⟨scrapped, saves⟩]
  · rw [rows late, if_neg other, if_neg (by simp), if_pos ⟨rfl, pair⟩]
  · rw [rows late, if_neg other, if_neg (by simp [life]), if_neg (by simp), if_pos ⟨rfl, swapping⟩]
  · have free : s.modes.role ≠ .primary ∧ s.modes.role ≠ .swapping := by
      rcases role with role | role <;> simp [role]
    rw [rows late, if_neg other, if_neg (by simp [life]), if_neg (by simp [free]), if_neg (by simp [free])]
    simp [saves]
  · simp [State.sieveVerdict, clear, life, doze]
  · simp [State.sieveVerdict, clear, life, run, swapping]

end Sys2Proof.Machine
end

section
/-! SUPPORT. The rules that the proofs of the statements share: what a command at work completes with, and which fields a chain of
updates leaves alone. -/

namespace Sys2Proof

open Machine

/-! ### What a command completes with -/

theorem Machine.State.live_of_atWork {s : State} {p : Nat} (h : s.atWork p = true) : s.live p = true := by
  rw [State.atWork, Bool.and_eq_true] at h
  exact h.1

theorem Machine.State.pageRuns_of_atWork {s : State} {p : Nat} (h : s.atWork p = true) : s.pageRuns p = true := by
  rw [State.atWork, Bool.and_eq_true] at h
  exact h.2

theorem Machine.State.working_atWork {s : State} {p : Nat} (h : s.atWork p = true) (k : State → State) : s.working p k = k s :=
  State.working_of (State.live_of_atWork h) (State.pageRuns_of_atWork h) k

theorem Machine.State.effect_atWork {s : State} {addr : Nat} (port : Port) (h : s.atWork (addr / 0x1000) = true) (k : State → State) :
    s.effect port addr k = k (s.hostWrote port false addr) :=
  State.effect_of port (State.live_of_atWork h) (State.pageRuns_of_atWork h) k

theorem Completes.working {i : Instr} {s u : State} {p : Nat} {k : State → State} {P : State → Prop}
    (e : exec i s = .next (u.working p k)) (h : u.atWork p = true) (post : P (k u)) : Completes i s P :=
  ⟨k u, by rw [e, State.working_atWork h], post⟩

theorem Completes.effect {i : Instr} {s u : State} {port : Port} {addr : Nat} {k : State → State} {P : State → Prop}
    (e : exec i s = .next (u.effect port addr k)) (h : u.atWork (addr / 0x1000) = true)
    (post : P (k (u.hostWrote port false addr))) : Completes i s P :=
  ⟨k (u.hostWrote port false addr), by rw [e, State.effect_atWork port h], post⟩

theorem Completes.mono {i : Instr} {s : State} {P Q : State → Prop} (h : Completes i s P) (sub : ∀ t, P t → Q t) : Completes i s Q :=
  h.imp fun t ht => ⟨ht.1, sub t ht.2⟩

/-- Whether a page is at work depends on its start, its domains and the slices alone. -/
theorem Machine.State.atWork_congr {s t : State} {p : Nat} (live : t.live p = s.live p) (d : t.domains = s.domains) (x : t.siv = s.siv) :
    t.atWork p = s.atWork p := by
  rw [State.atWork, State.atWork, live, State.pageRuns_congr d x]

/-! ### Which fields a change leaves alone -/

section
variable {l m : List Field} {s t u : State}

theorem OnlyFields.refl (l : List Field) (s : State) : OnlyFields l s s := fun _ _ => rfl

theorem OnlyFields.trans (h : OnlyFields l s t) (k : OnlyFields l t u) : OnlyFields l s u := fun f hf => (k f hf).trans (h f hf)

theorem OnlyFields.mono (h : OnlyFields l s t) (sub : l ⊆ m) : OnlyFields m s t := fun f hf => h f fun g hg => hf g (sub hg)

theorem OnlyFields.of_regs (h : t.regs = s.regs) : OnlyFields l s t := fun f _ => State.rd_congr h f

theorem OnlyFields.congr (h : OnlyFields l s t) (e : u.regs = t.regs) : OnlyFields l s u := h.trans (.of_regs e)

theorem OnlyFields.wr (h : OnlyFields l s t) {f : Field} (v : Nat) (mem : f ∈ l) : OnlyFields l s (t.wr f v) :=
  h.trans fun _ hg => State.rd_wr_ne _ _ (hg f mem)

theorem OnlyFields.wrAll (h : OnlyFields l s t) {vs : List (Field × Nat)} (mem : ∀ x ∈ vs, x.1 ∈ l) : OnlyFields l s (t.wrAll vs) := by
  induction vs generalizing t with
  | nil => exact h
  | cons x vs ih =>
    obtain ⟨f, v⟩ := x
    exact ih (h.wr v (mem _ List.mem_cons_self)) fun y hy => mem y (List.mem_cons_of_mem _ hy)

theorem OnlyFields.notice (h : OnlyFields l s t) (n : Notice) (note : NOTE_RAW n.page ∈ l) (pba : MSIX_PBA ∈ l) :
    OnlyFields l s (t.notice n) :=
  h.trans fun _ hg => State.rd_notice_ne _ n (hg _ note) (hg _ pba)

theorem OnlyFields.silt (h : OnlyFields l s t) (c p0 p1 p2 p3 : Nat) (lost : SLT_LOST ∈ l) (note : NOTE_RAW 0x1E ∈ l)
    (pba : MSIX_PBA ∈ l) : OnlyFields l s (t.silt c p0 p1 p2 p3) :=
  h.trans fun _ hg => State.rd_silt_ne _ _ _ _ _ _ (hg _ lost) (hg _ note) (hg _ pba)

theorem OnlyFields.publish (h : OnlyFields l s t) (p b : Nat) (seq : Field) (fresh : FRESH p ∈ l) (count : seq ∈ l) :
    OnlyFields l s (t.publish p b seq) :=
  h.trans fun _ hg => State.rd_publish_ne _ _ _ _ (hg _ fresh) (hg _ count)

theorem OnlyFields.hostWrote (h : OnlyFields l s t) (port : Port) (b : Bool) (a : Nat) (note : NOTE_RAW 0x01 ∈ l) (pba : MSIX_PBA ∈ l) :
    OnlyFields l s (t.hostWrote port b a) :=
  h.trans fun _ hg => State.rd_hostWrote_ne _ _ _ _ (hg _ note) (hg _ pba)

end

/-- What a write leaves at its own field, as the value itself where it fits. -/
theorem Machine.State.rd_wr_of_lt (s : State) {f : Field} {v : Nat} (h : v < 2 ^ f.width) : (s.wr f v).rd f = v := by
  rw [State.rd_wr_self, Nat.mod_eq_of_lt h]

/-- A notice after an update of other fields is the same notice of the state before. -/
theorem Raises.of_rd {n : Notice} {s t u : State} (h : Raises n t u) (e : t.rd (NOTE_RAW n.page) = s.rd (NOTE_RAW n.page)) :
    Raises n s u := by
  rw [Raises, ← e]
  exact h

end Sys2Proof
end

section
/-! SUPPORT. The host interface: the clock and the link, MSI-X messages, transaction tags, and conflicts between the ports. -/

namespace Sys2Proof.Machine

/-! ### The clock of the LRP and the PCIe link (R71, R77) -/

theorem State.rdB_of {s : State} {f : Field} (h : s.rd f = 1) : s.rdB f = true := by rw [State.rdB, h]; rfl

theorem State.rdB_of_zero {s : State} {f : Field} (h : s.rd f = 0) : s.rdB f = false := by rw [State.rdB, h]; rfl

/-- A bit that falls with its notice changes itself, the notices of its page and the Pending Bit Array alone. -/
theorem State.clear_notice (s : State) (f : Field) (n : Notice) (note : f.key ≠ (NOTE_RAW n.page).key) (pba : f.key ≠ MSIX_PBA.key)
    (bit : n.bit < 32) :
    ((s.wr f 0).notice n).rd f = 0 ∧ Raises n s ((s.wr f 0).notice n) ∧
      OnlyFields [f, NOTE_RAW n.page, MSIX_PBA] s ((s.wr f 0).notice n) := by
  refine ⟨?_, ?_, ?_⟩
  · rw [State.rd_notice_ne _ _ note pba, State.rd_wr_self, Nat.zero_mod]
  · exact (State.raises_notice _ n bit).of_rd (State.rd_wr_ne _ _ note.symm)
  · exact ((OnlyFields.refl _ s).wr 0 (by simp)).notice n (by simp) (by simp)

/-- Settles O1: each event is one chain of updates of the HIF page. -/
theorem hostLinkEvents : Obligations.HostLinkEvents := by
  refine ⟨fun s h clk => .working rfl h ?_, fun s h => .working rfl h ⟨?_, rfl, ?_⟩,
    fun s width speed h wf => .working rfl h ?_, fun s h up => .working rfl h ?_⟩
  · rw [if_pos (State.rdB_of clk)]
    exact s.clear_notice HIF_STATUS_LRP_CLK HIF_NOTE_CLK_LOST (by decide) (by decide) (by decide)
  · exact State.rd_wr_self _ _ _
  · exact (OnlyFields.of_regs rfl).wr 1 (by simp)
  · obtain ⟨hw, hs⟩ : width < 4 ∧ speed < 4 := by
      simp only [WellFormed] at wf
      omega
    refine ⟨?_, ?_, State.rd_wr_of_lt _ hs, (OnlyFields.refl _ s).wrAll (by simp)⟩
    · simp (disch := decide) [State.rd_wr_ne]
    · simp (disch := decide) [State.rd_wr_ne, Nat.mod_eq_of_lt hw]
  · rw [State.linkDown, if_pos (State.rdB_of up)]
    exact s.clear_notice HIF_STATUS_LINK_UP HIF_NOTE_LINK_DOWN (by decide) (by decide) (by decide)

/-! ### Transaction tags (R90 to R97) -/

theorem PortPath.tag_setTag_same (q : PortPath) {k : Nat} (f : Tag → Tag) (h : k < 4) : (q.setTag k f).tag k = f (q.tag k) := by
  rw [PortPath.tag, PortPath.setTag, getD_putAt _ _ _ _ _ h, if_pos rfl]

theorem PortPath.tag_setTag_ne (q : PortPath) {j k : Nat} (f : Tag → Tag) (h : j < 4) (ne : j ≠ k) : (q.setTag k f).tag j = q.tag j := by
  rw [PortPath.tag, PortPath.setTag, getD_putAt _ _ _ _ _ h, if_neg ne]
  rfl

theorem State.port_txnErr (s : State) (port : Port) (e : Nat) : (s.txnErr port e).port port = { s.port port with err := e } :=
  State.port_setPort _ _ _

section
variable (s : State) (port : Port) {k : Nat}

theorem State.txnOpen_row (h : k < 4) :
    if ((s.port port).tag k).isOpen then (s.txnOpen port k).port port = { s.port port with err := 1 }
    else ((s.txnOpen port k).port port).tag k = ⟨.opened, [], 0, 0, 0⟩ ∧ ((s.txnOpen port k).port port).curTag = k ∧
      ((s.txnOpen port k).port port).selected = true ∧ ((s.txnOpen port k).port port).err = 0 ∧
      ∀ j, j < 4 → j ≠ k → ((s.txnOpen port k).port port).tag j = (s.port port).tag j := by
  unfold State.txnOpen
  split
  case isTrue held => simp only [held, if_true, State.port_txnErr]
  case isFalse free =>
    simp only [free, Bool.false_eq_true, if_false, State.port_setPort]
    exact ⟨(s.port port).tag_setTag_same (fun _ => ⟨.opened, [], 0, 0, 0⟩) h, trivial, trivial, trivial, fun j hj ne => (s.port port).tag_setTag_ne (fun _ => ⟨.opened, [], 0, 0, 0⟩) hj ne⟩

theorem State.txnSelect_row : (s.txnSelect port k).port port =
    if ((s.port port).tag k).state = .opened then { s.port port with curTag := k, selected := true, err := 0 }
    else { s.port port with err := 1 } := by
  unfold State.txnSelect
  split
  case isTrue opened => simp only [opened, if_true, State.port_setPort]
  case isFalse other => simp only [other, if_false, State.port_txnErr]

theorem commitSince_ge (q : PortPath) (raw : Nat) : raw ≤ commitSince q raw := by
  rw [commitSince]
  generalize q.tags.filter _ = l
  induction l generalizing raw with
  | nil => exact le_refl _
  | cons t l ih => exact le_trans (le_max_left _ _) (ih _)

/-- What a COMMIT makes of its tag. -/
def Tag.committed (since : Nat) (x : Tag) : Tag := { x with state := .committing, since := since }

/-- What a COMMIT leaves: the deselection of the current tag touches no tag. -/
theorem State.txnCommit_row (h : k < 4) :
    if ((s.port port).tag k).state = .opened then
      (((s.txnCommit port k).port port).tag k).state = .committing ∧
      (((s.txnCommit port k).port port).tag k).staged = ((s.port port).tag k).staged ∧
      s.time.raw ≤ (((s.txnCommit port k).port port).tag k).since ∧
      ((s.txnCommit port k).port port).selected = ((s.port port).selected && (s.port port).curTag != k) ∧
      ((s.txnCommit port k).port port).err = 0 ∧
      ∀ j, j < 4 → j ≠ k → ((s.txnCommit port k).port port).tag j = (s.port port).tag j
    else (s.txnCommit port k).port port = { s.port port with err := 1 } := by
  unfold State.txnCommit
  split
  case isFalse other => simp only [other, if_false, State.port_txnErr]
  case isTrue opened =>
    simp only [opened, if_true, State.port_setPort]
    have set := (s.port port).tag_setTag_same (Tag.committed (commitSince (s.port port) s.time.raw)) h
    have others (j : Nat) (hj : j < 4) (ne : j ≠ k) :=
      (s.port port).tag_setTag_ne (Tag.committed (commitSince (s.port port) s.time.raw)) hj ne
    have since := le_of_le_of_eq (commitSince_ge (s.port port) s.time.raw) (congrArg Tag.since set).symm
    split
    case isTrue current =>
      rw [Bool.and_eq_true, beq_iff_eq] at current
      exact ⟨(congrArg Tag.state set :), (congrArg Tag.staged set :), since, by simp [current], rfl, others⟩
    case isFalse other =>
      refine ⟨(congrArg Tag.state set :), (congrArg Tag.staged set :), since, ?_, rfl, others⟩
      show (s.port port).selected = _
      cases sel : (s.port port).selected <;> simp_all

theorem State.txnAbort_row (h : k < 4) :
    if ((s.port port).tag k).state = .opened then
      ((s.txnAbort port k).port port).tag k = ⟨.aborted, ((s.port port).tag k).staged, 3, 0, 0⟩ ∧
      Noted HIF_NOTE_TXN_ABORT (s.txnAbort port k) ∧ ((s.txnAbort port k).port port).err = 0 ∧
      ∀ j, j < 4 → j ≠ k → ((s.txnAbort port k).port port).tag j = (s.port port).tag j
    else (s.txnAbort port k).port port = { s.port port with err := 1 } := by
  unfold State.txnAbort
  split
  case isFalse other => simp only [other, if_false, State.port_txnErr]
  case isTrue opened =>
    simp only [opened, if_true, State.port_notice, State.port_setPort]
    exact ⟨(s.port port).tag_setTag_same (fun x => ⟨.aborted, x.staged, 3, 0, 0⟩) h, State.noted_notice _ _ (by decide), trivial,
      fun j hj ne => (s.port port).tag_setTag_ne (fun x => ⟨.aborted, x.staged, 3, 0, 0⟩) hj ne⟩

end

theorem State.atWork_reach (s : State) (c p : Nat) : (s.reach c).atWork p = s.atWork p := by
  unfold State.reach
  split <;> rfl

/-- Settles O3: each operation by the row of its table, on the port that the host wrote. -/
theorem transactionOperations : Obligations.TransactionOperations := by
  refine ⟨fun s port k h wf => .effect rfl h ?_, fun s port k h wf => .effect rfl h ?_, fun s port h => .effect rfl h ?_,
    fun s port k c h wf => .effect rfl ((s.atWork_reach c _).trans h) ?_, fun s port k h wf => .effect rfl h ?_,
    fun s port h => .effect rfl h ?_⟩
  · simpa only [Nat.mod_eq_of_lt wf, State.port_hostWrote] using (s.hostWrote port false HIF_TXN_CTRL_OP.addr).txnOpen_row port wf
  · simpa only [Nat.mod_eq_of_lt wf, State.port_hostWrote] using (s.hostWrote port false HIF_TXN_CTRL_OP.addr).txnSelect_row port
  · exact (State.port_setPort _ _ _).trans (by rw [State.port_hostWrote])
  · have same : (s.reach c).port port = s.port port := by
      unfold State.reach
      split <;> rfl
    simpa only [Nat.mod_eq_of_lt wf, State.port_hostWrote, State.hostWrote_time, same] using
      ((s.reach c).hostWrote port false HIF_TXN_CTRL_OP.addr).txnCommit_row port wf
  · simpa only [Nat.mod_eq_of_lt wf, State.port_hostWrote] using (s.hostWrote port false HIF_TXN_CTRL_OP.addr).txnAbort_row port wf
  · rw [State.port_txnErr, State.port_hostWrote]

/-- Settles O4: the other port's tags are mapped where one of them has staged the word, and nothing is done otherwise. -/
theorem conflictAbortsTheOtherPort : Obligations.ConflictAbortsTheOtherPort := by
  intro s port bar2 addr
  have only : OnlyFields [NOTE_RAW 0x01, MSIX_PBA] s (s.hostWrote port bar2 addr) :=
    (OnlyFields.refl _ s).hostWrote port bar2 addr (by simp) (by simp)
  refine ⟨?_, State.port_hostWrote _ _ _ _, ?_, ?_, only⟩
  · unfold State.hostWrote
    dsimp only
    split
    case isTrue hit => rw [State.port_notice, State.port_setPort]; rfl
    case isFalse none =>
      rw [Bool.not_eq_true, List.any_eq_false] at none
      exact ((List.map_congr_left fun x mem => if_neg (none x mem)).trans (List.map_id _)).symm
  · rintro ⟨x, mem, hit⟩
    unfold State.hostWrote
    rw [if_pos (List.any_eq_true.2 ⟨x, mem, hit⟩)]
    exact State.noted_notice _ _ (by decide)
  · intro none
    unfold State.hostWrote
    rw [if_neg (by simpa using none)]

end Sys2Proof.Machine
end

section
/-! SUPPORT. MSI-X messages: what a vector's message depends on, and what the host's configuration of the vectors sends (R83). -/

namespace Sys2Proof.Machine

/-! ### Clearing a bit -/

theorem testBit_clrBit (v i j : Nat) : (clrBit v i).testBit j = (v.testBit j && decide (j ≠ i)) := by
  unfold clrBit
  split
  case isFalse clear =>
    rw [bitAt_eq_testBit] at clear
    by_cases same : j = i
    · simp [same, clear]
    · simp [same]
  case isTrue set =>
    rw [bitAt_eq_testBit] at set
    obtain ⟨x, rfl⟩ : ∃ x, v = 2 ^ i + x := ⟨v - 2 ^ i, by have := Nat.ge_two_pow_of_testBit set; omega⟩
    rw [Nat.testBit_two_pow_add_eq, Bool.not_eq_true'] at set
    rw [Nat.add_sub_cancel_left]
    obtain below | rfl | above := Nat.lt_trichotomy j i
    · rw [Nat.testBit_two_pow_add_gt below]
      simp [below.ne]
    · simp [set]
    · rw [← bitAt_eq_testBit, ← bitAt_eq_testBit, bitAt, bitAt, Nat.add_comm (2 ^ i),
        add_two_pow_div ((bitAt_eq_testBit _ _).trans set) above]
      simp [above.ne']

theorem clrBit_lt {v i n : Nat} (h : v < 2 ^ n) : clrBit v i < 2 ^ n := by
  unfold clrBit
  split
  · exact lt_of_le_of_lt (Nat.sub_le _ _) h
  · exact h

/-! ### What a message depends on -/

section
variable {s t : State}

theorem assignedPages_lt {p : Nat} (h : p ∈ assignedPages) : p < 64 := by
  revert p
  decide

theorem State.aggregate_congr (raw : ∀ p, p < 64 → t.rd (NOTE_RAW p) = s.rd (NOTE_RAW p))
    (en : ∀ p, p < 64 → t.rd (NOTE_EN p) = s.rd (NOTE_EN p)) (route : ∀ i, t.rd (HIF_ROUTE i) = s.rd (HIF_ROUTE i)) (v : Nat) :
    t.aggregate v = s.aggregate v := by
  rw [Bool.eq_iff_iff, State.aggregate, State.aggregate, List.any_eq_true, List.any_eq_true]
  refine exists_congr fun p => and_congr_right fun mem => ?_
  simp only [State.pagePending, State.route, raw p (assignedPages_lt mem), en p (assignedPages_lt mem), route]

theorem State.msixOpen_congr {v : Nat} (mask : t.rd (MSIX_MASK v) = s.rd (MSIX_MASK v)) (fmask : t.rd MSIX_FUNC_MASK = s.rd MSIX_FUNC_MASK)
    (bme : t.rd HIF_STATUS_BME = s.rd HIF_STATUS_BME) (en : t.rd HIF_STATUS_MSIX_EN = s.rd HIF_STATUS_MSIX_EN) :
    t.msixOpen v = s.msixOpen v := by
  simp only [State.msixOpen, State.rdB, mask, fmask, bme, en]

/-- The message of a vector, as its table entry stands. -/
def State.msixMessage (s : State) (v : Nat) : Emission :=
  .msix v (s.rd (MSIX_ADDR_LO v) + 2 ^ 32 * s.rd (MSIX_ADDR_HI v)) (s.rd (MSIX_DATA v))

theorem State.msixMessage_congr {v : Nat} (lo : t.rd (MSIX_ADDR_LO v) = s.rd (MSIX_ADDR_LO v))
    (hi : t.rd (MSIX_ADDR_HI v) = s.rd (MSIX_ADDR_HI v)) (data : t.rd (MSIX_DATA v) = s.rd (MSIX_DATA v)) :
    t.msixMessage v = s.msixMessage v := by
  simp only [State.msixMessage, lo, hi, data]

/-- The fields that the aggregate of a vector and its message are made of lie apart from those that the configuration and the Pending
Bit Array take. -/
def msixSources (f : Field) : Prop :=
  (∃ p < 64, f = NOTE_RAW p) ∨ (∃ p < 64, f = NOTE_EN p) ∨ (∃ i, f = HIF_ROUTE i) ∨ (∃ v, f = MSIX_ADDR_LO v) ∨ (∃ v, f = MSIX_ADDR_HI v) ∨
    (∃ v, f = MSIX_DATA v)

theorem msixSources_ne_pba {f : Field} (h : msixSources f) : f.key ≠ MSIX_PBA.key := by
  rcases h with ⟨_, _, rfl⟩ | ⟨_, _, rfl⟩ | ⟨_, rfl⟩ | ⟨_, rfl⟩ | ⟨_, rfl⟩ | ⟨_, rfl⟩ <;> simp only [Field.key] <;> omega

theorem msixSources_ne_config {f : Field} (h : msixSources f) :
    (∀ x, f.key ≠ (MSIX_MASK x).key) ∧ f.key ≠ HIF_STATUS_BME.key ∧ f.key ≠ HIF_STATUS_MSIX_EN.key ∧ f.key ≠ MSIX_FUNC_MASK.key ∧
      f.key ≠ PCIE_MSE.key ∧ f.key ≠ PCIE_BAR0.key ∧ f.key ≠ PCIE_BAR2.key := by
  rcases h with ⟨_, _, rfl⟩ | ⟨_, _, rfl⟩ | ⟨_, rfl⟩ | ⟨_, rfl⟩ | ⟨_, rfl⟩ | ⟨_, rfl⟩ <;> simp only [Field.key] <;>
    exact ⟨fun _ => by omega, by omega, by omega, by omega, by omega, by omega, by omega⟩

/-- Where the sources stand, so do the aggregate and the message. -/
theorem State.msix_of_sources (h : ∀ f, msixSources f → t.rd f = s.rd f) (v : Nat) :
    t.aggregate v = s.aggregate v ∧ t.msixMessage v = s.msixMessage v := by
  refine ⟨State.aggregate_congr (fun p hp => h _ ?_) (fun p hp => h _ ?_) (fun i => h _ ?_) v,
    State.msixMessage_congr (h _ ?_) (h _ ?_) (h _ ?_)⟩ <;> simp only [msixSources]
  · exact .inl ⟨p, hp, rfl⟩
  · exact .inr (.inl ⟨p, hp, rfl⟩)
  · exact .inr (.inr (.inl ⟨i, rfl⟩))
  · exact .inr (.inr (.inr (.inl ⟨v, rfl⟩)))
  · exact .inr (.inr (.inr (.inr (.inl ⟨v, rfl⟩))))
  · exact .inr (.inr (.inr (.inr (.inr ⟨v, rfl⟩))))

/-- Where no field but the Pending Bit Array has changed, the vectors are as open as before. -/
theorem State.msixOpen_of_onlyFields (h : OnlyFields [MSIX_PBA] s t) (v : Nat) : t.msixOpen v = s.msixOpen v := by
  refine State.msixOpen_congr (h _ ?_) (h _ ?_) (h _ ?_) (h _ ?_) <;> simp only [List.forall_mem_singleton, Field.key] <;> omega

end

/-! ### The vectors one after the other -/

theorem State.msixRetry_of (s : State) (v : Nat) :
    s.msixRetry v =
      if bitAt (s.rd MSIX_PBA) v && s.msixOpen v then
        let u := s.wr MSIX_PBA (clrBit (s.rd MSIX_PBA) v)
        if s.aggregate v then u.emit (s.msixMessage v) else u
      else s := by
  unfold State.msixRetry
  split
  case isFalse => rfl
  case isTrue h =>
    rw [Bool.and_eq_true] at h
    have only : OnlyFields [MSIX_PBA] s (s.wr MSIX_PBA (clrBit (s.rd MSIX_PBA) v)) := (OnlyFields.refl _ s).wr _ (by simp)
    have message := (State.msix_of_sources (fun f hf => only f (by simpa using msixSources_ne_pba hf)) v).2
    dsimp only
    rw [State.msixSend, if_pos ((State.msixOpen_of_onlyFields only v).trans h.2), ← message]
    rfl

/-- What the first n vectors leave once they have been tried: their bits, the messages in their order, and every other field. -/
structure MsixTried (n : Nat) (s t : State) : Prop where
  only : OnlyFields [MSIX_PBA] s t
  bits : ∀ x, bitAt (t.rd MSIX_PBA) x = (bitAt (s.rd MSIX_PBA) x && !(decide (x < n) && s.msixOpen x))
  sent : t.emitted = s.emitted ++
    ((List.range n).filter fun x => bitAt (s.rd MSIX_PBA) x && s.msixOpen x && s.aggregate x).map s.msixMessage

theorem MsixTried.retry {n : Nat} {s t : State} (h : MsixTried n s t) : MsixTried (n + 1) s (t.msixRetry n) := by
  obtain ⟨only, bits, sent⟩ := h
  have opens := State.msixOpen_of_onlyFields only n
  obtain ⟨aggregate, message⟩ := State.msix_of_sources (fun f hf => only f (by simpa using msixSources_ne_pba hf)) n
  have pending : bitAt (t.rd MSIX_PBA) n = bitAt (s.rd MSIX_PBA) n := by rw [bits]; simp
  rw [State.msixRetry_of, opens, aggregate, message, pending]
  by_cases leaves : (bitAt (s.rd MSIX_PBA) n && s.msixOpen n) = true
  case neg =>
    rw [if_neg leaves]
    refine ⟨only, fun x => ?_, ?_⟩
    · rw [bits]
      by_cases same : x = n
      · subst same
        cases hb : bitAt (s.rd MSIX_PBA) x <;> simp_all
      · simp [show x < n + 1 ↔ x < n by omega]
    · rw [sent, List.range_succ, List.filter_append]
      simp [leaves]
  case pos =>
    rw [if_pos leaves]
    have bits' (x : Nat) : bitAt ((t.wr MSIX_PBA (clrBit (t.rd MSIX_PBA) n)).rd MSIX_PBA) x =
        (bitAt (s.rd MSIX_PBA) x && !(decide (x < n + 1) && s.msixOpen x)) := by
      rw [State.rd_wr_of_lt _ (clrBit_lt (State.rd_lt _ _)), bitAt_eq_testBit, testBit_clrBit, ← bitAt_eq_testBit, bits]
      by_cases same : x = n
      · subst same
        rw [Bool.and_eq_true] at leaves
        simp [leaves]
      · simp [same, show x < n + 1 ↔ x < n by omega]
    rw [Bool.and_eq_true] at leaves
    dsimp only
    split
    case isTrue raised =>
      refine ⟨(only.wr _ (by simp)).congr rfl, bits', ?_⟩
      show t.emitted ++ [_] = _
      rw [sent, List.range_succ, List.filter_append]
      simp [leaves, raised]
    case isFalse low =>
      refine ⟨only.wr _ (by simp), bits', ?_⟩
      show t.emitted = _
      rw [sent, List.range_succ, List.filter_append]
      simp [low]

theorem State.msixTried (s : State) (n : Nat) : MsixTried n s ((List.range n).foldl State.msixRetry s) := by
  induction n with
  | zero => exact ⟨.refl _ s, fun x => by simp, by simp⟩
  | succ n ih =>
    rw [List.range_succ, List.foldl_append]
    exact ih.retry

/-! ### The host's configuration -/

/-- The state with the enables, the masks and the BARs that the host has set, before the vectors are tried. -/
def State.msixSet (s : State) (v : Option Nat) (masked bme en fmask : Bool) : State :=
  let s := match v with
    | some v => s.wrB (MSIX_MASK v) masked
    | none => s
  ((s.wrB HIF_STATUS_BME bme).wrB HIF_STATUS_MSIX_EN en).wrB MSIX_FUNC_MASK fmask

/-- The fields of the configuration. -/
def msixSetFields (v : Option Nat) : List Field :=
  v.toList.map MSIX_MASK ++ [HIF_STATUS_BME, HIF_STATUS_MSIX_EN, MSIX_FUNC_MASK]

theorem State.onlyFields_msixSet (s : State) (v : Option Nat) (masked bme en fmask : Bool) :
    OnlyFields (msixSetFields v) s (s.msixSet v masked bme en fmask) := by
  cases v
  · exact (((OnlyFields.refl _ s).wr _ (by simp [msixSetFields])).wr _ (by simp [msixSetFields])).wr _ (by simp [msixSetFields])
  · exact ((((OnlyFields.refl _ s).wr _ (by simp [msixSetFields])).wr _ (by simp [msixSetFields])).wr _
      (by simp [msixSetFields])).wr _ (by simp [msixSetFields])

theorem bool_lt_two (b : Bool) : (if b then 1 else 0) < 2 := by cases b <;> decide

theorem State.msixSet_reads (s : State) (v : Option Nat) (masked bme en fmask : Bool) :
    let t := s.msixSet v masked bme en fmask
    (∀ x ∈ v, t.rd (MSIX_MASK x) = if masked then 1 else 0) ∧ t.rd HIF_STATUS_BME = (if bme then 1 else 0) ∧
      t.rd HIF_STATUS_MSIX_EN = (if en then 1 else 0) ∧ t.rd MSIX_FUNC_MASK = (if fmask then 1 else 0) := by
  refine ⟨fun x hx => ?_, ?_, ?_, State.rd_wr_of_lt _ (bool_lt_two _)⟩
  · cases hx
    have apart : (MSIX_MASK x).key ≠ MSIX_FUNC_MASK.key ∧ (MSIX_MASK x).key ≠ HIF_STATUS_MSIX_EN.key ∧
        (MSIX_MASK x).key ≠ HIF_STATUS_BME.key := by
      simp only [Field.key]
      omega
    exact (State.rd_wr_ne _ _ apart.1).trans ((State.rd_wr_ne _ _ apart.2.1).trans ((State.rd_wr_ne _ _ apart.2.2).trans
      (State.rd_wr_of_lt _ (bool_lt_two _))))
  · exact (State.rd_wr_ne _ _ (by decide)).trans ((State.rd_wr_ne _ _ (by decide)).trans (State.rd_wr_of_lt _ (bool_lt_two _)))
  · exact (State.rd_wr_ne _ _ (by decide)).trans (State.rd_wr_of_lt _ (bool_lt_two _))

/-- The vector's Mask bit alone. -/
def State.msixMasked (s : State) (v : Option Nat) (masked : Bool) : State :=
  match v with
  | some v => s.wrB (MSIX_MASK v) masked
  | none => s

theorem State.rd_msixMasked (s : State) (v : Option Nat) (masked : Bool) {f : Field} (h : ∀ x, f.key ≠ (MSIX_MASK x).key) :
    (s.msixMasked v masked).rd f = s.rd f := by
  cases v
  · rfl
  · exact State.rd_wr_ne _ _ (h _)

theorem State.hdmEnabled_msixMasked (s : State) (v : Option Nat) (masked : Bool) :
    (s.msixMasked v masked).rdB HIF_STATUS_BME = s.rdB HIF_STATUS_BME ∧ (s.msixMasked v masked).rdB HDM_CTRL_EN = s.rdB HDM_CTRL_EN := by
  constructor <;> rw [State.rdB, State.rdB, State.rd_msixMasked _ _ _ fun x => by simp only [Field.key]; omega]

theorem State.msixConfig_quiet {s : State} {bme : Bool} (h : (s.rdB HIF_STATUS_BME && !bme && s.rdB HDM_CTRL_EN) = false)
    (v : Option Nat) (masked en fmask : Bool) :
    s.msixConfig v masked bme en fmask = (List.range 32).foldl State.msixRetry (s.msixSet v masked bme en fmask) := by
  obtain ⟨enabled, hdm⟩ := s.hdmEnabled_msixMasked v masked
  rw [← enabled, ← hdm] at h
  cases v <;> exact congrArg (List.foldl _ · _) (by rw [if_neg (by simpa [State.msixMasked] using h)]; rfl)

theorem State.msixConfig_stops {s : State} (bme : s.rdB HIF_STATUS_BME = true) (hdm : s.rdB HDM_CTRL_EN = true)
    (v : Option Nat) (masked en fmask : Bool) :
    s.msixConfig v masked false en fmask =
      (List.range 32).foldl State.msixRetry ((s.msixMasked v masked).dmaError.msixSet none masked false en fmask) := by
  obtain ⟨enabled, running⟩ := s.hdmEnabled_msixMasked v masked
  rw [bme] at enabled
  rw [hdm] at running
  cases v <;> exact congrArg (List.foldl _ · _) (by rw [if_pos (by simpa [State.msixMasked] using ⟨enabled, running⟩)]; rfl)

theorem State.hdm_msixRetries (s : State) : ((List.range 32).foldl State.msixRetry s).hdm = s.hdm :=
  (Kept.foldl (T := (· ∈ [1, 41])) _ _ (.refl s) fun _ v k => State.msixRetry_kept k v (.ofList (l := [.sent, .page 1]) rfl)).frame
    .hdm (by decide)

/-- The BARs and Memory Space Enable are what the host sets, and nothing else changes. -/
theorem State.barConfig_reads (s : State) (mse : Bool) {bar0 bar2 : Nat} (h0 : bar0 < 2 ^ 32) (h2 : bar2 < 2 ^ 64) :
    let t := s.barConfig mse bar0 bar2
    t.rd PCIE_MSE = (if mse then 1 else 0) ∧ t.rd PCIE_BAR0 = bar0 ∧ t.rd PCIE_BAR2 = bar2 ∧
      OnlyFields [PCIE_MSE, PCIE_BAR0, PCIE_BAR2] s t :=
  ⟨(State.rd_wr_ne _ _ (by decide)).trans ((State.rd_wr_ne _ _ (by decide)).trans (State.rd_wr_of_lt _ (bool_lt_two _))),
    (State.rd_wr_ne _ _ (by decide)).trans (State.rd_wr_of_lt _ h0), State.rd_wr_of_lt _ h2,
    (((OnlyFields.refl _ s).wr _ (by simp)).wr _ (by simp)).wr _ (by simp)⟩

theorem barFields_apart {f : Field} (h : f ∈ [PCIE_MSE, PCIE_BAR0, PCIE_BAR2]) (v : Option Nat) :
    (∀ g ∈ msixSetFields v, f.key ≠ g.key) ∧ ∀ g ∈ [MSIX_PBA], f.key ≠ g.key := by
  simp only [List.mem_cons, List.not_mem_nil, or_false] at h
  rcases h with rfl | rfl | rfl <;> cases v <;> simp [msixSetFields, Field.key] <;> omega

/-! ### Domains that run -/

theorem pageDomains_lt {p d : Nat} (h : d ∈ pageDomains p) : d < 14 := by
  by_cases small : p < 0x22
  · have table : ∀ p < 0x22, ∀ d ∈ pageDomains p, d < 14 := by decide
    exact table p small d h
  · have rest : pageDomains p = [2] := by
      unfold pageDomains
      iterate 12 rw [if_neg (by omega)]
    rw [rest, List.mem_singleton] at h
    omega

theorem woken_fold_running {d : Nat} (hd : d < 14) (ds : List Nat) {l : List DomainState} (h : l.getD d .stopped = .running) :
    (ds.foldl (fun l d => if (dozeState d).isSome && l.getD d .stopped != .running then putDomain l d .running else l) l).getD d .stopped
      = .running := by
  induction ds generalizing l with
  | nil => exact h
  | cons e ds ih =>
    refine ih ?_
    dsimp only
    split
    · rw [putDomain, getD_putAt _ _ _ _ _ hd]
      split
      · rfl
      · exact h
    · exact h

/-- A domain that runs goes on while others are started. -/
theorem State.running_woken {s : State} {d : Nat} (hd : d < 14) (h : s.domain d = .running) (ds : List Nat) :
    (s.woken ds).getD d .stopped = .running := by
  unfold State.woken
  split
  · exact woken_fold_running hd ds h
  · exact h

theorem State.atWork_woken {s : State} {p : Nat} (h : s.atWork p = true) (ds : List Nat) :
    State.atWork { s with domains := s.woken ds } p = true := by
  rw [State.atWork, State.pageRuns, Bool.and_eq_true, Bool.and_eq_true, List.all_eq_true] at h ⊢
  obtain ⟨live, runs, free⟩ := h
  refine ⟨live, fun d mem => ?_, free⟩
  have running := State.running_woken (pageDomains_lt mem) (by simpa using runs d mem) ds
  exact beq_iff_eq.2 running

theorem State.atWork_wakeLink {s : State} {p : Nat} (h : s.atWork p = true) : s.wakeLink.atWork p = true := State.atWork_woken h [5]

@[simp] theorem State.rd_wakeLink (s : State) (f : Field) : s.wakeLink.rd f = s.rd f := rfl

/-! ### The two commands -/

/-- A notice leaves a vector's aggregate set: it only sets a bit of its page (R83). -/
theorem State.aggregate_notice {s : State} {v : Nat} (h : s.aggregate v = true) (n : Notice) (bit : n.bit < 32) :
    (s.notice n).aggregate v = true := by
  rw [State.aggregate, List.any_eq_true] at h ⊢
  obtain ⟨p, mem, raised⟩ := h
  refine ⟨p, mem, ?_⟩
  have apart (f : Field) (hf : (∃ q < 64, f = NOTE_EN q) ∨ ∃ i, f = HIF_ROUTE i) : (s.notice n).rd f = s.rd f := by
    refine State.rd_notice_ne _ _ ?_ ?_ <;> rcases hf with ⟨_, _, rfl⟩ | ⟨_, rfl⟩ <;> simp only [Field.key] <;> omega
  have pending : s.pagePending p = true → (s.notice n).pagePending p = true := by
    simp only [State.pagePending, bne_iff_ne, apart _ (.inl ⟨p, assignedPages_lt mem, rfl⟩)]
    intro both
    by_cases same : p = n.page
    · subst same
      obtain ⟨i, hi⟩ := Nat.exists_testBit_of_ne_zero both
      rw [Nat.testBit_and, Bool.and_eq_true] at hi
      rw [show _ = _ from State.raises_notice s n bit]
      refine land_ne_zero_of_testBit ?_ hi.2
      rw [← bitAt_eq_testBit]
      exact bitAt_setBit_of_bitAt ((bitAt_eq_testBit _ _).trans hi.1)
    · rw [State.rd_notice_ne _ _ (by simp only [Field.key]; omega) (by simp only [Field.key]; omega)]
      exact both
  simp only [Bool.and_eq_true, State.route, apart _ (.inr ⟨_, rfl⟩)] at raised ⊢
  exact ⟨⟨pending raised.1.1, raised.1.2⟩, raised.2⟩

theorem State.aggregate_hostWrote {s : State} {v : Nat} (h : s.aggregate v = true) (port : Port) (b : Bool) (a : Nat) :
    (s.hostWrote port b a).aggregate v = true := by
  unfold State.hostWrote
  dsimp only
  split
  · refine State.aggregate_notice ?_ _ (by decide)
    rw [← h]
    exact State.aggregate_congr (fun _ _ => State.rd_setPort _ _ _ _) (fun _ _ => State.rd_setPort _ _ _ _)
      (fun _ => State.rd_setPort _ _ _ _) v
  · exact h

theorem State.eoi_hostWrote (s : State) (port : Port) {v : Nat} (hv : v < 32) (raised : s.aggregate v = true) :
    let u := s.hostWrote port false HIF_EOI_VECTOR.addr
    OnlyFields [MSIX_PBA] u (u.eoi v) ∧
      if s.msixOpen v then
        (u.eoi v).emitted = u.emitted ++ [s.msixMessage v] ∧ (u.eoi v).rd MSIX_PBA = u.rd MSIX_PBA
      else bitAt ((u.eoi v).rd MSIX_PBA) v = true ∧ (u.eoi v).emitted = u.emitted := by
  have wrote : OnlyFields [NOTE_RAW 0x01, MSIX_PBA] s (s.hostWrote port false HIF_EOI_VECTOR.addr) :=
    (OnlyFields.refl _ s).hostWrote _ _ _ (by simp) (by simp)
  have opens : (s.hostWrote port false HIF_EOI_VECTOR.addr).msixOpen v = s.msixOpen v := by
    refine State.msixOpen_congr (wrote _ ?_) (wrote _ ?_) (wrote _ ?_) (wrote _ ?_) <;>
      (simp only [List.forall_mem_cons, Field.key]; simp; try omega)
  have message : (s.hostWrote port false HIF_EOI_VECTOR.addr).msixMessage v = s.msixMessage v := by
    refine State.msixMessage_congr (wrote _ ?_) (wrote _ ?_) (wrote _ ?_) <;>
      simp only [List.forall_mem_cons, Field.key] <;> simp <;> omega
  dsimp only
  rw [State.eoi, Nat.mod_eq_of_lt hv, if_pos (State.aggregate_hostWrote raised _ _ _), State.msixSend, opens]
  split
  case isTrue leaves => exact ⟨.of_regs rfl, by rw [← message]; rfl, rfl⟩
  case isFalse held =>
    refine ⟨(OnlyFields.refl _ _).wr _ (by simp), ?_, rfl⟩
    rw [State.rd_wr_of_lt _ (setBit_lt (State.rd_lt _ _) hv), bitAt_setBit]

/-- Settles O2: the configuration sets its fields and then tries the 32 vectors in their order, which `MsixTried` follows. -/
theorem msixMessages : Obligations.MsixMessages := by
  refine ⟨fun s v masked bme en fmask mse bar0 bar2 h wf quiet => .working rfl (State.atWork_wakeLink h) ?_,
    fun s v masked en fmask mse bar0 bar2 h wf bme hdm => .working rfl (State.atWork_wakeLink h) ?_,
    fun s port v h wf raised => .effect rfl h (s.eoi_hostWrote port wf raised)⟩
  · obtain ⟨h0, h2⟩ : bar0 < 2 ^ 32 ∧ bar2 < 2 ^ 64 := wf.2
    obtain ⟨mseSet, bar0Set, bar2Set, bars⟩ := s.wakeLink.barConfig_reads mse h0 h2
    obtain ⟨mask, bmeSet, enSet, fmaskSet⟩ := (s.wakeLink.barConfig mse bar0 bar2).msixSet_reads v masked bme en fmask
    have set := (s.wakeLink.barConfig mse bar0 bar2).onlyFields_msixSet v masked bme en fmask
    rw [State.msixConfig_quiet (by
      rcases quiet with rfl | off | off
      · simp
      · rw [State.rdB, bars _ (by decide), State.rd_wakeLink, off]; rfl
      · rw [State.rdB, State.rdB, bars HDM_CTRL_EN (by decide), State.rd_wakeLink, off]; simp)]
    have kept (f : Field) (hb : ∀ g ∈ [PCIE_MSE, PCIE_BAR0, PCIE_BAR2], f.key ≠ g.key) (hs : ∀ g ∈ msixSetFields v, f.key ≠ g.key) :
        ((s.wakeLink.barConfig mse bar0 bar2).msixSet v masked bme en fmask).rd f = s.rd f := (set f hs).trans (bars f hb)
    have emitted : ((s.wakeLink.barConfig mse bar0 bar2).msixSet v masked bme en fmask).emitted = s.emitted := by cases v <;> rfl
    generalize (s.wakeLink.barConfig mse bar0 bar2).msixSet v masked bme en fmask = u at *
    have bar (f : Field) (hf : f ∈ [PCIE_MSE, PCIE_BAR0, PCIE_BAR2]) :=
      ((u.msixTried 32).only f (barFields_apart hf v).2).trans (set f (barFields_apart hf v).1)
    obtain ⟨only, bits, sent⟩ := u.msixTried 32
    have opens := State.msixOpen_of_onlyFields only
    have sources (f : Field) (hf : msixSources f) : u.rd f = s.rd f := by
      obtain ⟨hmask, hbme, hen, hfmask, hmse, hbar0, hbar2⟩ := msixSources_ne_config hf
      refine kept f (by simp [hmse, hbar0, hbar2]) fun g hg => ?_
      simp only [msixSetFields, List.mem_append, List.mem_map, List.mem_cons, List.not_mem_nil, or_false] at hg
      rcases hg with ⟨x, -, rfl⟩ | rfl | rfl | rfl
      exacts [hmask x, hbme, hen, hfmask]
    have pba : u.rd MSIX_PBA = s.rd MSIX_PBA := by
      refine kept _ (by decide) fun g hg => ?_
      simp only [msixSetFields, List.mem_append, List.mem_map, List.mem_cons, List.not_mem_nil, or_false] at hg
      rcases hg with ⟨x, -, rfl⟩ | rfl | rfl | rfl <;> simp only [Field.key] <;> omega
    refine ⟨(bar _ (by simp)).trans mseSet, (bar _ (by simp)).trans bar0Set, (bar _ (by simp)).trans bar2Set,
      fun x hx => (only _ ?_).trans (mask x hx), (only _ (by decide)).trans bmeSet, (only _ (by decide)).trans enSet,
      (only _ (by decide)).trans fmaskSet, fun x hx => ?_, ?_, fun f hv hbme hen hfmask hpba hmse hbar0 hbar2 => ?_⟩
    · simp only [List.forall_mem_singleton, Field.key]
      omega
    · rw [bits, opens, pba]
      simp [hx]
    · rw [sent, emitted]
      simp only [opens, pba, fun x => (State.msix_of_sources sources x).1, funext fun x => (State.msix_of_sources sources x).2]
      rfl
    · refine (only f (by simpa using hpba)).trans (kept f (by simp [hmse, hbar0, hbar2]) fun g hg => ?_)
      simp only [msixSetFields, List.mem_append, List.mem_map, List.mem_cons, List.not_mem_nil, or_false, Option.mem_toList] at hg
      rcases hg with ⟨x, hx, rfl⟩ | rfl | rfl | rfl
      exacts [hv x hx, hbme, hen, hfmask]
  · obtain ⟨h0, h2⟩ : bar0 < 2 ^ 32 ∧ bar2 < 2 ^ 64 := wf.2
    obtain ⟨mseSet, bar0Set, bar2Set, bars⟩ := s.wakeLink.barConfig_reads mse h0 h2
    rw [State.msixConfig_stops (State.rdB_of ((bars _ (by decide)).trans bme)) (State.rdB_of ((bars _ (by decide)).trans hdm))]
    generalize s.wakeLink.barConfig mse bar0 bar2 = u at *
    have only := (((u.msixMasked v masked).dmaError.msixSet none masked false en fmask).msixTried 32).only
    have set := (u.msixMasked v masked).dmaError.onlyFields_msixSet none masked false en fmask
    have rest (f : Field) (hf : f ∈ [PCIE_MSE, PCIE_BAR0, PCIE_BAR2]) :
        ((List.range 32).foldl State.msixRetry ((u.msixMasked v masked).dmaError.msixSet none masked false en fmask)).rd f = u.rd f := by
      refine (only f (barFields_apart hf v).2).trans ((set f (barFields_apart hf none).1).trans ?_)
      refine (State.rd_notice_ne _ _ ?_ ?_).trans (State.rd_msixMasked _ _ _ fun x => ?_) <;>
        simp only [List.mem_cons, List.not_mem_nil, or_false] at hf <;> rcases hf with rfl | rfl | rfl <;>
        simp only [Field.key] <;> omega
    refine ⟨?_, ?_, (only _ (by decide)).trans (State.msixSet_reads _ none masked false en fmask).2.1, (rest _ (by simp)).trans mseSet,
      (rest _ (by simp)).trans bar0Set, (rest _ (by simp)).trans bar2Set⟩
    · rw [State.hdm_msixRetries]
      exact congrArg HdmUnit.stopped (State.notice_hdm _ _)
    · exact Noted.congr (n := HDM_NOTE_DMA_ERR) (State.noted_notice _ _ (by decide))
        ((only (NOTE_RAW 0x17) (by decide)).trans (set (NOTE_RAW 0x17) (by decide)))

end Sys2Proof.Machine
end

section
/-! SUPPORT. Host accesses: the overflow of a tag where the port's path lists more than four tags. -/

namespace Sys2Proof.Machine

/-- The module in service straight after its first start, with every clock domain running. -/
def State.serving : State :=
  { State.reset with
    startup := { State.reset.startup with phase := .ready, line := 11, pwrGood := true, lrpReady := true }
    domains := List.replicate 14 .running }

/-- A path of five OPEN tags, each with 64 writes staged, the fifth of which is selected. -/
def fiveTags : PortPath :=
  { PortPath.empty with
    tags := List.replicate 5 ⟨.opened, List.replicate 64 ⟨false, SHP_CTRL_EN.addr, 1, 15⟩, 0, 0, 0⟩
    curTag := 4
    selected := true }

/-- Refutes O5: nothing in the statement holds the selected tag below 4. Where a fifth tag is OPEN, full and selected, a 65th write keeps
the four tags of the path alone (R90), so that the tag named by `curTag` reads FREE and not ABORTED. -/
theorem not_hostAccesses : ¬ Obligations.HostAccesses := by
  rintro ⟨-, -, overflow, -⟩
  obtain ⟨t, next, -, -, staged⟩ := overflow { State.serving with lrp := fiveTags } SHP_CTRL_EN.addr 1 15
    (by unfold WellFormed; decide) (by decide +kernel) rfl (by decide +kernel) (by decide +kernel) (by decide +kernel) rfl
  rw [if_neg (by decide +kernel)] at staged
  cases next
  exact absurd staged.1 (by decide +kernel)

end Sys2Proof.Machine
end

section
/-! SUPPORT. Delivery of posted writes, and the tick that applies a transaction (R10, R73 to R75, R93 to R98). -/

namespace Sys2Proof.Machine

/-! ### Words and octets -/

theorem ofOctets_four (v : Nat) : ofOctets ((List.range 4).map (octet v)) = v % 2 ^ 32 := by
  simp only [octet, show List.range 4 = [0, 1, 2, 3] from rfl, List.map_cons, List.map_nil, ofOctets]
  omega

/-- A write of a whole word leaves nothing of the old one. -/
theorem mergeBytes_whole (old : Nat) {v : Nat} (h : v < 2 ^ 32) : mergeBytes old v 15 = v := by
  have whole : mergeBytes old v 15 = ofOctets ((List.range 4).map (octet v)) := rfl
  rw [whole, ofOctets_four, Nat.mod_eq_of_lt h]

/-! ### A word whose fields hold what is written (R10) -/

/-- What a field reads after a write of a word, by its access type. -/
def State.fieldTakes (s : State) (g : Field) (v : Nat) : Nat :=
  match g.access with
  | .rw => bitsOf v g.lo g.width
  | .rws => bitsOf v g.lo g.width
  | .w1c => s.rd g - (s.rd g &&& bitsOf v g.lo g.width)
  | .w1s => s.rd g ||| bitsOf v g.lo g.width
  | _ => s.rd g

theorem bitsOf_lt (v lo width : Nat) : bitsOf v lo width < 2 ^ width := Nat.mod_lt _ (Nat.two_pow_pos _)

theorem State.rd_fieldWrite_ne (s : State) (f : Field) (w ones : Nat) {g : Field} (h : g.key ≠ f.key) :
    (s.fieldWrite f w ones).rd g = s.rd g := by
  unfold State.fieldWrite
  split <;> first | exact State.rd_wr_ne _ _ h | rfl

theorem State.rd_fieldWrite_self (s : State) (f : Field) (v : Nat) : (s.fieldWrite f v v).rd f = s.fieldTakes f v := by
  unfold State.fieldWrite State.fieldTakes Field.cut
  generalize f.access = access
  cases access with
  | rw | rws => exact State.rd_wr_of_lt _ (bitsOf_lt _ _ _)
  | w1c => exact State.rd_wr_of_lt _ (lt_of_le_of_lt (Nat.sub_le _ _) (State.rd_lt _ _))
  | w1s => exact State.rd_wr_of_lt _ (Nat.or_lt_two_pow (State.rd_lt _ _) (bitsOf_lt _ _ _))
  | _ => rfl

theorem State.fieldTakes_congr {s t : State} {g : Field} (h : t.rd g = s.rd g) (v : Nat) : t.fieldTakes g v = s.fieldTakes g v := by
  simp only [State.fieldTakes, h]

/-- Fields at distinct places each take their own part of the word, and the others stand. -/
theorem State.rd_foldl_fieldWrite (l : List Field) (apart : l.Pairwise fun f g => f.key ≠ g.key) (v : Nat) (s : State) :
    (∀ g ∈ l, (l.foldl (fun s f => s.fieldWrite f v v) s).rd g = s.fieldTakes g v) ∧
      OnlyFields l s (l.foldl (fun s f => s.fieldWrite f v v) s) := by
  induction l generalizing s with
  | nil => exact ⟨by simp, .refl _ s⟩
  | cons f l ih =>
    obtain ⟨first, rest⟩ := List.pairwise_cons.1 apart
    obtain ⟨takes, only⟩ := ih rest (s.fieldWrite f v v)
    refine ⟨fun g hg => ?_, fun g hg => ?_⟩
    · rcases List.mem_cons.1 hg with rfl | mem
      · exact (only g first).trans (s.rd_fieldWrite_self g v)
      · exact (takes g mem).trans (State.fieldTakes_congr (s.rd_fieldWrite_ne _ _ _ (first g mem).symm) v)
    · obtain ⟨ne, others⟩ := List.forall_mem_cons.1 hg
      exact (only g others).trans (s.rd_fieldWrite_ne _ _ _ ne)

/-- The pages whose words only hold what is written. -/
def plainPages : List Nat := [0x03, 0x06, 0x0A, 0x0B, 0x22]

/-- A word of one of these pages: a place of a field of the page. -/
def PlainWord (addr : Nat) : Prop := ∃ p ∈ plainPages, ∃ f ∈ pageFields p, f.addr = addr

theorem plainPages_fields : ∀ p ∈ plainPages, (∀ f ∈ pageFields p, f.addr / 0x1000 = p ∧ f.addr % 0x1000 ≠ 0x10 ∧
    f.addr % 0x1000 ≠ 0x14 ∧ f.addr % 0x1000 ≠ 0x24 ∧ f.lo < 32) ∧ (pageFields p).Pairwise fun f g => f.key ≠ g.key := by
  decide

section
variable {addr : Nat}

theorem PlainWord.page (h : PlainWord addr) : addr / 0x1000 ∈ plainPages := by
  obtain ⟨p, hp, f, hf, rfl⟩ := h
  rw [((plainPages_fields p hp).1 f hf).1]
  exact hp

/-- The word is neither the page's notices, nor their enables, nor the count of its commits. -/
theorem PlainWord.offset (h : PlainWord addr) : addr % 0x1000 ≠ 0x10 ∧ addr % 0x1000 ≠ 0x14 ∧ addr % 0x1000 ≠ 0x24 := by
  obtain ⟨p, hp, f, hf, rfl⟩ := h
  obtain ⟨-, notes, enables, commits, -⟩ := (plainPages_fields p hp).1 f hf
  exact ⟨notes, enables, commits⟩

theorem PlainWord.apart (h : PlainWord addr) : (wordFields addr).Pairwise fun f g => f.key ≠ g.key :=
  (plainPages_fields _ h.page).2.filter _

theorem PlainWord.field (h : PlainWord addr) {g : Field} (hg : g ∈ wordFields addr) : g.addr = addr ∧ g.lo < 32 := by
  rw [wordFields, List.mem_filter, beq_iff_eq] at hg
  exact ⟨hg.2, ((plainPages_fields _ h.page).1 g hg.1).2.2.2.2⟩

/-- The word's fields lie apart from what a conflict raises and from the count of commits. -/
theorem PlainWord.apart_hif (h : PlainWord addr) {g : Field} (hg : g ∈ wordFields addr) :
    g.key ≠ (NOTE_RAW 0x01).key ∧ g.key ≠ MSIX_PBA.key ∧ g.key ≠ (TXN_COMMITS (addr / 0x1000)).key := by
  obtain ⟨place, lo⟩ := h.field hg
  have page : addr / 0x1000 ≠ 1 := fun one => by
    have := h.page
    rw [one] at this
    exact absurd this (by decide)
  have := h.offset
  simp only [Field.key, place]
  omega

theorem PlainWord.actPage (h : PlainWord addr) (s : State) (port : Port) (w ones : Nat) :
    s.actPage port addr w ones = s.plainWrite addr w ones := by
  have page := h.page
  unfold State.actPage
  generalize addr / 0x1000 = p at page
  revert p
  simp [plainPages]

/-- A write of a whole word of such a page, with everything else that it changes. -/
theorem PlainWord.regWrite (h : PlainWord addr) {s : State} (work : s.atWork (addr / 0x1000) = true) (port : Port) {v : Nat}
    (hv : v < 2 ^ 32) : s.regWrite port addr v 15 = (s.hostWrote port false addr).plainWrite addr v v := by
  obtain ⟨notes, enables, -⟩ := h.offset
  rw [State.regWrite, State.effect_atWork port work]
  simp only [mergeBytes_whole _ hv]
  split
  · simp only [State.regAction, if_neg notes, if_neg enables, h.actPage]
  · rfl

/-- What such a write leaves: every field of the word takes its part, and nothing else changes but what a conflict raises. -/
theorem PlainWord.reads (h : PlainWord addr) (s : State) (port : Port) (v : Nat) :
    let t := (s.hostWrote port false addr).plainWrite addr v v
    (∀ g ∈ wordFields addr, t.rd g = s.fieldTakes g v) ∧ OnlyFields ([NOTE_RAW 0x01, MSIX_PBA] ++ wordFields addr) s t := by
  obtain ⟨takes, only⟩ := State.rd_foldl_fieldWrite (wordFields addr) h.apart v (s.hostWrote port false addr)
  refine ⟨fun g hg => (takes g hg).trans (State.fieldTakes_congr ?_ v), ?_⟩
  · obtain ⟨note, pba, -⟩ := h.apart_hif hg
    exact State.rd_hostWrote_ne _ _ _ _ note pba
  · exact ((OnlyFields.refl _ s).hostWrote port false addr (by simp) (by simp)).trans
      (OnlyFields.mono only (List.subset_append_right _ _))

theorem PlainWord.plainWrite_port (s : State) (w ones : Nat) (p : Port) : (s.plainWrite addr w ones).port p = s.port p := by
  unfold State.plainWrite
  induction wordFields addr generalizing s with
  | nil => rfl
  | cons f l ih =>
    refine (ih _).trans ?_
    show (s.fieldWrite f w ones).port p = s.port p
    unfold State.fieldWrite
    split <;> first | exact State.port_wr _ _ _ _ | rfl

end

/-! ### Delivery (R73, R75) -/

theorem exec_registerWrite_held {s : State} {port : Port} {w : PortWrite} {l : List PortWrite} (oldest : (s.port port).posted = w :: l)
    (held : s.blocked port w = true) : exec (.registerWrite port) s = .next s := by
  show Host.Outcome.next (s.deliverNext port) = _
  rw [State.deliverNext, oldest]
  exact congrArg _ (if_pos held)

theorem exec_registerWrite_free {s : State} {port : Port} {w : PortWrite} {l : List PortWrite} (oldest : (s.port port).posted = w :: l)
    (free : s.blocked port w = false) :
    exec (.registerWrite port) s = .next ((s.setPort port { s.port port with posted := l }).deliver port w) := by
  show Host.Outcome.next (s.deliverNext port) = _
  rw [State.deliverNext, oldest]
  exact congrArg _ (if_neg (by simp [free]))

theorem State.blocked_plain {s : State} {port : Port} {addr v : Nat} (h : PlainWord addr) (commit : (s.port port).committing = false)
    (selected : (s.port port).selected = false) (runs : s.pageRuns (addr / 0x1000) = true) :
    s.blocked port ⟨false, addr, v, 15⟩ = false := by
  have page := h.page
  have stalls : s.slqStallsWrite port ⟨false, addr, v, 15⟩ = false := by
    unfold State.slqStallsWrite
    simp only [Bool.false_eq_true, if_false]
    by_cases queue : 0x1A300 ≤ addr ∧ addr < 0x1A400
    · rw [show addr / 0x1000 = 0x1A by omega] at page
      exact absurd page (by decide)
    · simp only [Bool.and_eq_false_iff, decide_eq_false_iff_not]
      omega
  have runs' : (s.wakePage (addr / 0x1000)).pageRuns (addr / 0x1000) = true := by rw [State.wakePage_of runs, runs]
  simp [State.blocked, commit, State.wouldStage, selected, stalls, PortWrite.page, runs']

theorem State.deliver_plain {s : State} {port : Port} {addr v : Nat} (plain : winDataOf addr = none)
    (selected : (s.port port).selected = false) : s.deliver port ⟨false, addr, v, 15⟩ = s.regWrite port addr v 15 := by
  have none : s.winDataTarget ⟨false, addr, v, 15⟩ = none := by simp [State.winDataTarget, plain]
  rw [State.deliver, none]
  simp [State.deliverWord, selected, State.applyWrite]

/-! ### The tick of a commit (R97, R98) -/

theorem State.commitsBy_none {s : State} {e : Nat} (h : s.dueTags e = []) : s.commitsBy e = s := by
  rw [State.commitsBy, h]
  rfl

theorem filter_range_eq_singleton {n k : Nat} (hk : k < n) {p : Nat → Bool} (hp : p k = true) (only : ∀ j < n, p j = true → j = k) :
    (List.range n).filter p = [k] := by
  have same : (List.range n).filter p = (List.range n).filter (· == k) := List.filter_congr fun j hj => by
    rw [Bool.eq_iff_iff, beq_iff_eq]
    exact ⟨only j (List.mem_range.1 hj), fun h => h ▸ hp⟩
  rw [same, List.filter_beq, List.count_eq_one_of_mem List.nodup_range (List.mem_range.2 hk)]
  rfl

/-- The tags of one port whose tick has come at the epoch tick count e. -/
def State.duePort (s : State) (e : Nat) (p : Port) : List TagPlace :=
  ((List.range 4).filter fun t => ((s.port p).tag t).state == .committing && Nat.ble ((s.port p).tag t).tick e).map
    fun t => (((s.port p).tag t).since, p, t)

theorem State.dueTags_eq (s : State) (e : Nat) :
    s.dueTags e = (s.duePort e .lrp ++ s.duePort e .pcie).mergeSort fun a b => a.1 ≤ b.1 := rfl

theorem State.duePort_nil {s : State} {e : Nat} {p : Port}
    (h : ∀ k, k < 4 → ((s.port p).tag k).state = .committing → e < ((s.port p).tag k).tick) : s.duePort e p = [] := by
  rw [State.duePort, List.map_eq_nil_iff, List.filter_eq_nil_iff]
  intro k hk due
  rw [Bool.and_eq_true, beq_iff_eq, Nat.ble_eq] at due
  exact absurd due.2 (Nat.not_le.2 (h k (List.mem_range.1 hk) due.1))

theorem State.dueTags_nil {s : State} {e : Nat}
    (h : ∀ (p : Port) (k : Nat), k < 4 → ((s.port p).tag k).state = .committing → e < ((s.port p).tag k).tick) : s.dueTags e = [] := by
  rw [State.dueTags_eq, State.duePort_nil (h .lrp), State.duePort_nil (h .pcie)]
  exact List.mergeSort_nil

/-- One tag alone is COMMITTING, and its tick has come. -/
structure SoleCommit (s : State) (port : Port) (k e : Nat) : Prop where
  tag : k < 4
  state : ((s.port port).tag k).state = .committing
  due : ((s.port port).tag k).tick ≤ e
  sole : ∀ (p : Port) (j : Nat), j < 4 → ((s.port p).tag j).state = .committing → p = port ∧ j = k

theorem SoleCommit.dueTags {s : State} {port : Port} {k e : Nat} (h : SoleCommit s port k e) :
    s.dueTags e = [(((s.port port).tag k).since, port, k)] := by
  have own : s.duePort e port = [(((s.port port).tag k).since, port, k)] := by
    rw [State.duePort, filter_range_eq_singleton h.tag]
    · rfl
    · rw [Bool.and_eq_true, beq_iff_eq, Nat.ble_eq]
      exact ⟨h.state, h.due⟩
    · intro j hj due
      rw [Bool.and_eq_true, beq_iff_eq] at due
      exact (h.sole port j hj due.1).2
  have other (p : Port) (ne : p ≠ port) : s.duePort e p = [] :=
    State.duePort_nil fun j hj commits => absurd (h.sole p j hj commits).1 ne
  rw [State.dueTags_eq]
  cases port
  · rw [own, other .pcie (by decide)]
    exact List.mergeSort_singleton _
  · rw [own, other .lrp (by decide)]
    exact List.mergeSort_singleton _

/-- What the tick of one commit does once its tag is DONE: the writes of the tag that need not wait take effect together, and are
counted. -/
def State.commitEnds (s : State) (e : TagPlace) (tick : Nat) : State :=
  let parts := ((s.tagAt e).staged.map fun w => (e.2.1, w)).partition fun e => (s.wakePage e.2.page).pageRuns e.2.page
  let t := State.applyTogether { s with deferred := s.deferred ++ parts.2 } parts.1
  ((t.countCommit (t.tagAt e).staged).notice HIF_NOTE_TXN_DONE).snapshotAt tick

theorem SoleCommit.commitsBy {s : State} {port : Port} {k e : Nat} (h : SoleCommit s port k e)
    (done : ((s.tagDone (((s.port port).tag k).since, port, k)).tagAt (((s.port port).tag k).since, port, k)).state = .done) :
    s.commitsBy e = (s.tagDone (((s.port port).tag k).since, port, k)).commitEnds (((s.port port).tag k).since, port, k)
      ((s.port port).tag k).tick := by
  have ticks : ((s.dueTags e).map fun p => (s.tagAt p).tick).eraseDups = [((s.port port).tag k).tick] := by
    rw [h.dueTags]
    rfl
  have due : (s.dueTags ((s.port port).tag k).tick).filter
      (fun e => (s.tagAt e).tick == ((s.port port).tag k).tick) = [(((s.port port).tag k).since, port, k)] := by
    rw [SoleCommit.dueTags ⟨h.tag, h.state, le_refl _, h.sole⟩]
    exact List.filter_eq_self.2 (by simp [State.tagAt])
  rw [State.commitsBy, ticks, List.foldl_cons, List.foldl_nil, State.commitsAt]
  simp only [due, List.foldl_cons, List.foldl_nil]
  rw [List.filter_cons_of_pos (by simp [done]), List.filter_nil]
  simp only [List.flatMap_cons, List.flatMap_nil, List.append_nil, List.foldl_cons, List.foldl_nil]
  rfl

theorem State.applyTogether_nil (s : State) : s.applyTogether [] = s := by
  have none : ((List.range 4).flatMap fun _ => ([] : List (Port × PortWrite))) = [] := rfl
  simp [State.applyTogether, none, State.settleWindows, windowsRW, State.winSettle]

theorem PortWrite.turn_lt (w : PortWrite) : w.turn < 4 := by
  unfold PortWrite.turn
  split_ifs <;> omega

/-- Of several writes, one alone takes effect as it does at its delivery. -/
theorem PlainWord.applyTogether {addr : Nat} (h : PlainWord addr) (s : State) (port : Port) (v : Nat) :
    s.applyTogether [(port, ⟨false, addr, v, 15⟩)] = s.regWrite port addr v 15 := by
  have page := h.page
  obtain ⟨channel, circuit⟩ : emuChannelWord addr = false ∧ emuCircuitWord addr = false := by
    have other : addr / 0x1000 ≠ 0x0D := fun e => by
      rw [e] at page
      exact absurd page (by decide)
    simp only [emuChannelWord, emuCircuitWord, Bool.and_eq_false_iff, decide_eq_false_iff_not]
    omega
  have inTurn : ((List.range 4).flatMap fun k => [(port, (⟨false, addr, v, 15⟩ : PortWrite))].filter fun e => e.2.turn == k) =
      [(port, ⟨false, addr, v, 15⟩)] := by
    have lt := PortWrite.turn_lt ⟨false, addr, v, 15⟩
    simp only [List.filter_cons, List.filter_nil]
    generalize PortWrite.turn ⟨false, addr, v, 15⟩ = n at lt
    interval_cases n <;> rfl
  unfold State.applyTogether
  simp only [inTurn]
  simp [channel, circuit, State.applyPart, State.settleWindows, windowsRW, State.winSettle, State.applyWrite]

section
variable (s : State) (tick : Nat)

theorem State.rd_snapshotAt (f : Field) : (s.snapshotAt tick).rd f = s.rd f := by
  unfold State.snapshotAt
  split
  · split <;> rfl
  · rfl

theorem State.port_snapshotAt (p : Port) : (s.snapshotAt tick).port p = s.port p := by
  unfold State.snapshotAt
  split
  · split <;> cases p <;> rfl
  · rfl

end

section
variable {s : State} {port : Port} {k e : Nat}

/-- The tag of a commit that has come to its tick. -/
def Tag.ended (x : Tag) : Tag := ⟨.done, x.staged, 0, x.tick % 2 ^ 32, 0⟩

/-- The state with that tag DONE. -/
def State.tagEnded (s : State) (port : Port) (k : Nat) : State :=
  s.setPort port ((s.port port).setTag k fun _ => ((s.port port).tag k).ended)

theorem SoleCommit.tagDone (h : SoleCommit s port k e) :
    s.tagDone (((s.port port).tag k).since, port, k) =
      ((s.port port).tag k).staged.foldl (fun s w => s.hostWrote port w.bar2 w.addr) (s.tagEnded port k) := by
  unfold State.tagDone
  exact if_neg (by simp [State.tagAt, h.state])

theorem SoleCommit.tag_tagEnded (h : SoleCommit s port k e) : ((s.tagEnded port k).port port).tag k = ((s.port port).tag k).ended := by
  rw [State.tagEnded, State.port_setPort, PortPath.tag_setTag_same _ _ h.tag]

/-- A commit without staged writes. -/
theorem SoleCommit.empty (h : SoleCommit s port k e) (staged : ((s.port port).tag k).staged = []) :
    s.commitsBy e = ((s.tagEnded port k).notice HIF_NOTE_TXN_DONE).snapshotAt ((s.port port).tag k).tick := by
  have done := h.tagDone
  rw [staged, List.foldl_nil] at done
  have ended := h.tag_tagEnded
  rw [h.commitsBy (by rw [done, State.tagAt, ended]; rfl), done]
  generalize s.tagEnded port k = t at *
  have none : (t.tagAt (((s.port port).tag k).since, port, k)).staged = [] := (congrArg Tag.staged ended).trans staged
  unfold State.commitEnds
  simp only [none, List.map_nil, List.partition_eq_filter_filter, List.filter_nil, List.append_nil, State.applyTogether_nil]
  rfl

/-- A commit with one staged write to a word that only holds what is written. -/
theorem SoleCommit.single (h : SoleCommit s port k e) {addr v : Nat} (plain : PlainWord addr) (hv : v < 2 ^ 32)
    (work : s.atWork (addr / 0x1000) = true) (staged : ((s.port port).tag k).staged = [⟨false, addr, v, 15⟩]) :
    s.commitsBy e =
      ((((((s.tagEnded port k).hostWrote port false addr).hostWrote port false addr).plainWrite addr v v).count
        (TXN_COMMITS (addr / 0x1000)) 1).notice HIF_NOTE_TXN_DONE).snapshotAt ((s.port port).tag k).tick := by
  have done := h.tagDone
  rw [staged, List.foldl_cons, List.foldl_nil] at done
  have ended := h.tag_tagEnded
  rw [← State.port_hostWrote _ port false addr] at ended
  have work' : ((s.tagEnded port k).hostWrote port false addr).atWork (addr / 0x1000) = true :=
    (State.atWork_congr (by simp [State.tagEnded, State.live]) (by simp [State.tagEnded]) (by simp [State.tagEnded])).trans work
  rw [h.commitsBy (by rw [done, State.tagAt, ended]; rfl), done]
  generalize (s.tagEnded port k).hostWrote port false addr = t at *
  have write (u : State) (same : u.port port = t.port port) :
      (u.tagAt (((s.port port).tag k).since, port, k)).staged = [⟨false, addr, v, 15⟩] := by
    rw [State.tagAt, same]
    exact (congrArg Tag.staged ended).trans staged
  have now : ([((port : Port), (⟨false, addr, v, 15⟩ : PortWrite))].partition fun e => (t.wakePage e.2.page).pageRuns e.2.page) =
      ([(port, ⟨false, addr, v, 15⟩)], []) := by
    have runs : (t.wakePage (addr / 0x1000)).pageRuns (addr / 0x1000) = true := by
      rw [State.wakePage_of (State.pageRuns_of_atWork work'), State.pageRuns_of_atWork work']
    rw [List.partition_eq_filter_filter]
    simp [PortWrite.page, runs]
  have applied : (t.applyTogether [(port, ⟨false, addr, v, 15⟩)]) = (t.hostWrote port false addr).plainWrite addr v v := by
    rw [plain.applyTogether, plain.regWrite work' _ hv]
  unfold State.commitEnds
  simp only [write t rfl, List.map_cons, List.map_nil, now, List.append_nil]
  rw [applied, write _ (by rw [PlainWord.plainWrite_port, State.port_hostWrote])]
  rfl

/-- What the end of a commit leaves of the tag: a conflict of its own port's writes touches the other port alone. -/
theorem SoleCommit.tag_ended (h : SoleCommit s port k e) {t : State} (same : t.port port = (s.tagEnded port k).port port) (n : Notice)
    (tick : Nat) : (((t.notice n).snapshotAt tick).port port).tag k = ((s.port port).tag k).ended := by
  rw [State.port_snapshotAt, State.port_notice, same, h.tag_tagEnded]

end

theorem ended_of_empty {x : Tag} (h : x.staged = []) : x.ended = ⟨.done, [], 0, x.tick % 2 ^ 32, 0⟩ := by rw [Tag.ended, h]

theorem State.port_reach (s : State) (c : Nat) (p : Port) : (s.reach c).port p = s.port p := by
  unfold State.reach
  split <;> cases p <;> rfl

theorem State.rd_reach (s : State) (c : Nat) (f : Field) : (s.reach c).rd f = s.rd f := by
  unfold State.reach
  split <;> rfl

theorem State.soleCommit_reach {s : State} {c k : Nat} {port : Port} (hk : k < 4) (commits : ((s.port port).tag k).state = .committing)
    (due : ((s.port port).tag k).tick * 250 ≤ (s.reach c).time.raw)
    (sole : ∀ (p : Port) (j : Nat), j < 4 → ((s.port p).tag j).state = .committing → p = port ∧ j = k) :
    SoleCommit (s.reach c) port k (s.reach c).epoch where
  tag := hk
  state := by rw [State.port_reach, commits]
  due := by rw [State.port_reach, State.epoch, Nat.le_div_iff_mul_le (by decide)]; exact due
  sole p j hj commits := sole p j hj (by rwa [State.port_reach] at commits)

/-- Settles O6: delivery is the one write of the buffer's front, and the tick of the only commit that is due is that commit's. -/
theorem deliveryAndCommit : Obligations.DeliveryAndCommit := by
  refine ⟨fun s port w l oldest free => ⟨_, exec_registerWrite_free oldest free, rfl⟩,
    fun s port w l oldest held => ⟨_, exec_registerWrite_held oldest held, rfl⟩,
    fun s port addr v l plain data hv oldest commit selected live runs => ?_,
    fun s c h waits => .working rfl ((s.atWork_reach c _).trans h) (State.commitsBy_none (State.dueTags_nil fun p k hk commits => ?_)),
    fun s c k port h hk commits staged due sole => .working rfl ((s.atWork_reach c _).trans h) ?_,
    fun s c k addr v port h hk commits plain data hv live runs staged due sole => .working rfl ((s.atWork_reach c _).trans h) ?_⟩
  · refine ⟨_, exec_registerWrite_free oldest (State.blocked_plain plain commit selected runs), ?_⟩
    have work : (s.setPort port { s.port port with posted := l }).atWork (addr / 0x1000) = true :=
      (State.atWork_congr (by simp [State.live]) (by simp) (by simp)).trans
        (by rw [State.atWork, live, runs]; rfl : s.atWork (addr / 0x1000) = true)
    rw [State.deliver_plain data (by rw [State.port_setPort]; exact selected), PlainWord.regWrite plain work _ hv]
    obtain ⟨takes, only⟩ := PlainWord.reads plain (s.setPort port { s.port port with posted := l }) port v
    refine ⟨fun g hg => (takes g hg).trans (State.fieldTakes_congr (State.rd_setPort _ _ _ _) v), ?_,
      fun f hf => (only f hf).trans (State.rd_setPort _ _ _ _)⟩
    rw [PlainWord.plainWrite_port, State.port_hostWrote, State.port_setPort]
  · have later := waits p k hk (by rwa [State.port_reach] at commits)
    rw [State.port_reach, State.epoch, Nat.div_lt_iff_lt_mul (by decide)]
    exact later
  · have sole' := State.soleCommit_reach hk commits due sole
    rw [sole'.empty (by rw [State.port_reach, staged]), State.port_reach]
    refine ⟨?_, ?_, ?_⟩
    · rw [sole'.tag_ended rfl, State.port_reach, ended_of_empty staged]
    · refine Raises.of_rd (t := (s.reach c).tagEnded port k) ?_ ((State.rd_setPort _ _ _ _).trans (State.rd_reach _ _ _))
      exact (State.rd_snapshotAt _ _ _).trans (State.raises_notice _ HIF_NOTE_TXN_DONE (by decide))
    · intro f hf
      rw [State.rd_snapshotAt, (OnlyFields.refl _ _).notice HIF_NOTE_TXN_DONE (by simp) (by simp) f hf]
      exact (State.rd_setPort _ _ _ _).trans (State.rd_reach _ _ _)
  · have sole' := State.soleCommit_reach hk commits due sole
    have work : (s.reach c).atWork (addr / 0x1000) = true := by
      rw [State.atWork_reach, State.atWork, live, runs]
      rfl
    rw [sole'.single plain hv work (by rw [State.port_reach, staged]), State.port_reach]
    obtain ⟨takes, only⟩ := PlainWord.reads plain (((s.reach c).tagEnded port k).hostWrote port false addr) port v
    have start (f : Field) (note : f.key ≠ (NOTE_RAW 0x01).key) (pba : f.key ≠ MSIX_PBA.key) :
        (((s.reach c).tagEnded port k).hostWrote port false addr).rd f = s.rd f :=
      (State.rd_hostWrote_ne _ _ _ _ note pba).trans ((State.rd_setPort _ _ _ _).trans (State.rd_reach _ _ _))
    have ended := sole'.tag_ended (t := (((((s.reach c).tagEnded port k).hostWrote port false addr).hostWrote port false addr).plainWrite
      addr v v).count (TXN_COMMITS (addr / 0x1000)) 1)
      (by rw [State.count_eq, State.port_wr, PlainWord.plainWrite_port, State.port_hostWrote, State.port_hostWrote])
      HIF_NOTE_TXN_DONE ((s.port port).tag k).tick
    rw [State.port_reach] at ended
    have commitsKey : (TXN_COMMITS (addr / 0x1000)).key ≠ (NOTE_RAW 0x01).key ∧ (TXN_COMMITS (addr / 0x1000)).key ≠ MSIX_PBA.key := by
      simp only [Field.key]
      omega
    refine ⟨congrArg Tag.state ended, congrArg Tag.info ended, ?_, ?_, fun g hg => ?_, fun f hf => ?_⟩
    · exact Noted.congr (n := HIF_NOTE_TXN_DONE) (State.noted_notice _ _ (by decide)) (State.rd_snapshotAt _ _ _)
    · rw [State.rd_snapshotAt, State.rd_notice_ne _ HIF_NOTE_TXN_DONE commitsKey.1 commitsKey.2, State.count_eq, State.rd_wr_self,
        only _ fun g hg => ?_, start _ commitsKey.1 commitsKey.2]
      rcases List.mem_append.1 hg with hif | word
      · simp only [List.mem_cons, List.not_mem_nil, or_false] at hif
        rcases hif with rfl | rfl
        exacts [commitsKey.1, commitsKey.2]
      · exact (PlainWord.apart_hif plain word).2.2.symm
    · obtain ⟨note, pba, commits⟩ := PlainWord.apart_hif plain hg
      rw [State.rd_snapshotAt, State.rd_notice_ne _ HIF_NOTE_TXN_DONE note pba, State.count_eq, State.rd_wr_ne _ _ commits, takes g hg]
      exact State.fieldTakes_congr (start g note pba) v
    · have note := hf (NOTE_RAW 0x01) (by simp)
      have pba := hf MSIX_PBA (by simp)
      rw [State.rd_snapshotAt, State.rd_notice_ne _ HIF_NOTE_TXN_DONE note pba, State.count_eq, State.rd_wr_ne _ _ (hf _ (by simp)),
        only f fun g hg => hf g ?_, start f note pba]
      rcases List.mem_append.1 hg with hif | word
      · simp only [List.mem_cons, List.not_mem_nil, or_false] at hif
        rcases hif with rfl | rfl <;> simp
      · exact List.mem_append_right _ word

end Sys2Proof.Machine
end

section
/-! SUPPORT. Reads that take and release latches (R12, R86 to R90, R101, R155). -/

namespace Sys2Proof.Machine

/-! ### What a port's access wakes (R28) -/

/-- The state with its clock domains put aside for others. -/
def State.withDomains (d : List DomainState) (s : State) : State := { s with domains := d }

/-- A port's access may start domains, and does nothing else. -/
theorem State.wakePort_eq (s : State) (port : Port) : ∃ d, s.wakePort port = s.withDomains d := by
  cases port
  · exact ⟨s.domains, rfl⟩
  · exact ⟨_, rfl⟩

@[simp] theorem State.port_withDomains (s : State) (d : List DomainState) (p : Port) : (s.withDomains d).port p = s.port p := by
  cases p <;> rfl

theorem State.setRead_row (s : State) (port : Port) (l : List Nat) :
    ((s.setRead port l).port port).readData = l ∧ (s.setRead port l).port port.other = s.port port.other ∧
      ((s.setRead port l).port port).latches = (s.port port).latches ∧
      ((s.setRead port l).port port).hiLatches = (s.port port).hiLatches ∧ (s.setRead port l).win = s.win ∧
      ∀ f : Field, (s.setRead port l).rd f = s.rd f := by
  unfold State.setRead
  refine ⟨by simp, State.port_setPort_ne _ _ (by cases port <;> decide), by simp, by simp, by simp, by simp⟩

/-- A read of a word of a usable page through a valid mirror. -/
theorem State.readPort_of {s : State} {port : Port} {addr : Nat} (valid : s.mirrorValid port = true)
    (live : s.live (addr / 0x1000) = true) (aligned : addr % 4 = 0) :
    s.readPort port addr = ((s.wakePort port).readReg port addr).2.setRead port [((s.wakePort port).readReg port addr).1 % 2 ^ 32] := by
  have valid' : (s.wakePort port).mirrorValid port = true := by cases port <;> exact valid
  have live' : (s.wakePort port).live (addr / 0x1000) = true := by cases port <;> exact live
  unfold State.readPort
  dsimp only
  rw [if_neg (by simp [valid', live', aligned])]

/-! ### SEQ words and the last words of blocks (R86 to R88) -/

/-- An address whose read is neither of an uplink queue, nor latches a `_HI` word, nor moves a window. -/
def quietRead (addr : Nat) : Bool :=
  !(0x1A100 ≤ addr && addr < 0x1A300 && addr % 0x20 == 8) && !latchingLo.contains addr && (winDataOf addr).isNone

theorem State.readReg_of_quiet {s : State} {port : Port} {addr : Nat} (h : quietRead addr = true) :
    s.readReg port addr =
      match blockOfSeq addr, blockOf addr with
      | some b, _ => s.takeLatch port b
      | none, some b => s.readBlock port b addr
      | none, none =>
        if addr % 0x1000 = 0x20 then (s.readFresh port (addr / 0x1000), s)
        else
          match Sparse.get (s.port port).hiLatches addr with
          | some v => (v, s)
          | none => (s.word port addr, s.clearRc addr) := by
  simp only [quietRead, Bool.and_eq_true, Bool.not_eq_true', Option.isNone_iff_eq_none] at h
  obtain ⟨⟨queue, low⟩, data⟩ := h
  unfold State.readReg
  rw [if_neg (by simpa using queue), if_neg (by simpa using low), data]
  cases blockOfSeq addr <;> cases blockOf addr <;> rfl

theorem resultBlocks_places : ∀ r ∈ resultBlocks,
    quietRead r.seq = true ∧ blockOfSeq r.seq = some r ∧ r.seq % 4 = 0 ∧ r.seq / 0x1000 = r.page ∧
    quietRead r.last = true ∧ blockOfSeq r.last = none ∧ blockOf r.last = some r ∧ r.last % 4 = 0 ∧ r.last / 0x1000 = r.page := by
  decide

section
variable {s : State} {port : Port} {b : Nat} {r : ResultBlock}

theorem PortPath.latch_release (q : PortPath) (r : ResultBlock) : (q.release r).latch r = none := by
  rw [PortPath.latch, PortPath.release, List.find?_eq_none]
  intro l hl
  simpa [imp_iff_not_or] using (List.mem_filter.1 hl).2

theorem seqWordRead_latches (block : resultBlocks[b]? = some r) (valid : s.mirrorValid port = true) (live : s.live r.page = true) :
    Completes (.seqWordRead port b) s fun t =>
      (t.port port).readData = [s.seqWord r.seq % 2 ^ 32] ∧
      (t.port port).latch r =
        some ⟨r.page, r.block, s.rd r.count, bitAt (s.rd (FRESH r.page)) r.block, (s.wakePort port).blockWords port r⟩ ∧
      t.port port.other = s.port port.other ∧ OnlyFields [] s t := by
  obtain ⟨quiet, place, aligned, page, -⟩ := resultBlocks_places r (List.mem_of_getElem? block)
  have read : exec (.seqWordRead port b) s = .next (s.readPort port r.seq) := by
    show Host.Outcome.next (s.readPort port _) = _
    rw [block]
    rfl
  refine ⟨_, read, ?_⟩
  rw [State.readPort_of valid (page ▸ live) aligned, State.readReg_of_quiet quiet, place]
  obtain ⟨d, wakes⟩ := s.wakePort_eq port
  rw [wakes]
  obtain ⟨data, other, latches, -, -, reads⟩ :=
    ((s.withDomains d).takeLatch port r).2.setRead_row port [((s.withDomains d).takeLatch port r).1 % 2 ^ 32]
  refine ⟨data, ?_, other.trans ?_, fun f _ => (reads f).trans (State.rd_setPort _ _ _ _)⟩
  · rw [PortPath.latch, latches, State.takeLatch, State.port_setPort, List.find?_cons_of_pos (by simp)]
    rfl
  · rw [State.takeLatch, State.port_setPort_ne _ _ (by cases port <;> decide), State.port_withDomains]

theorem blockLastWordRead_releases {l : BlockLatch} (block : resultBlocks[b]? = some r) (valid : s.mirrorValid port = true)
    (live : s.live r.page = true) (latched : (s.port port).latch r = some l) :
    Completes (.blockLastWordRead port b) s fun t =>
      (t.port port).readData = [((l.words.find? fun w => w.1 == r.last).map Prod.snd).getD 0 % 2 ^ 32] ∧
      (t.port port).latch r = none ∧ t.port port.other = s.port port.other ∧
      t.rd (FRESH r.page) = (if l.count = s.rd r.count then clrBit (s.rd (FRESH r.page)) r.block else s.rd (FRESH r.page)) ∧
      OnlyFields [FRESH r.page] s t := by
  obtain ⟨-, -, -, -, quiet, seq, place, aligned, page⟩ := resultBlocks_places r (List.mem_of_getElem? block)
  have read : exec (.blockLastWordRead port b) s = .next (s.readPort port r.last) := by
    show Host.Outcome.next (s.readPort port _) = _
    rw [block]
    rfl
  refine ⟨_, read, ?_⟩
  rw [State.readPort_of valid (page ▸ live) aligned, State.readReg_of_quiet quiet, seq, place]
  obtain ⟨d, wakes⟩ := s.wakePort_eq port
  rw [wakes]
  have value : (s.withDomains d).readBlock port r r.last =
      (((l.words.find? fun w => w.1 == r.last).map Prod.snd).getD 0,
        let u := (s.withDomains d).setPort port ((s.port port).release r)
        if l.count = u.rd r.count then u.wr (FRESH r.page) (clrBit (u.rd (FRESH r.page)) r.block) else u) := by
    rw [State.readBlock, State.port_withDomains, latched]
    exact if_neg (fun h => h rfl)
  simp only [value]
  have same (f : Field) : ((s.withDomains d).setPort port ((s.port port).release r)).rd f = s.rd f := State.rd_setPort _ _ _ _
  have own : ((s.withDomains d).setPort port ((s.port port).release r)).port port = (s.port port).release r := State.port_setPort _ _ _
  have other : ((s.withDomains d).setPort port ((s.port port).release r)).port port.other = s.port port.other := by
    rw [State.port_setPort_ne _ _ (by cases port <;> decide), State.port_withDomains]
  generalize (s.withDomains d).setPort port ((s.port port).release r) = u at *
  rw [same, same]
  split
  case isTrue =>
    obtain ⟨data, others, latches, -, -, reads⟩ := (u.wr (FRESH r.page) (clrBit (s.rd (FRESH r.page)) r.block)).setRead_row port
      [((l.words.find? fun w => w.1 == r.last).map Prod.snd).getD 0 % 2 ^ 32]
    refine ⟨data, ?_, others.trans ((State.port_wr _ _ _ _).trans other), ?_, fun f hf => ?_⟩
    · rw [PortPath.latch, latches, State.port_wr, own]
      exact PortPath.latch_release _ _
    · rw [reads, State.rd_wr_of_lt _ (clrBit_lt (State.rd_lt _ _))]
    · rw [reads, State.rd_wr_ne _ _ (hf _ (by simp)), same]
  case isFalse =>
    obtain ⟨data, others, latches, -, -, reads⟩ := u.setRead_row port
      [((l.words.find? fun w => w.1 == r.last).map Prod.snd).getD 0 % 2 ^ 32]
    refine ⟨data, ?_, others.trans other, (reads _).trans (same _), fun f _ => (reads f).trans (same f)⟩
    rw [PortPath.latch, latches, own]
    exact PortPath.latch_release _ _

end

/-! ### `_LO` words (R101) -/

/-- A word that no unit but its page's fields makes up. -/
def fieldsOnly (addr : Nat) : Bool :=
  0x1000 ≤ addr && addr / 0x1000 != 1 && 0x40 ≤ addr % 0x1000 && (blockOfSeq addr).isNone

theorem State.word_of_fieldsOnly (s : State) (port : Port) {addr : Nat} (h : fieldsOnly addr = true) :
    s.word port addr = s.fieldsWord addr % 2 ^ 32 := by
  simp only [fieldsOnly, Bool.and_eq_true, decide_eq_true_eq, bne_iff_ne, Option.isNone_iff_eq_none] at h
  obtain ⟨⟨⟨past, page⟩, off⟩, seq⟩ := h
  have table : isMsixTable addr = false := by
    simp only [isMsixTable, Bool.and_eq_false_iff, decide_eq_false_iff_not]
    omega
  unfold State.word
  rw [if_neg (by omega), if_neg (by omega), if_neg (by omega), if_neg (by omega), table, if_neg Bool.false_ne_true, if_neg (by omega),
    if_neg (by omega), if_neg (by omega), seq]

theorem State.fieldsWord_of_single (s : State) {addr : Nat} {f : Field} (h : wordFields addr = [f]) (reads : f.access ≠ .wo) :
    s.fieldsWord addr = s.view f * 2 ^ f.lo := by
  simp [State.fieldsWord, h, reads]

/-- The low words that a unit's fields make up, each with its field and the field of its high word. -/
def lowWords : List (Nat × Field × Field) :=
  [(0x18040, TIM_NOW_LO, TIM_NOW_HI), (0x04058, MAC_ASN_LO, MAC_ASN_HI), (0x08060, SCH_HIGH_LO, SCH_HIGH_HI)] ++
    (List.range 6).flatMap fun k => [(0x110C0 + 0x1000 * k, ETP_RX_BYTES_LO k, ETP_RX_BYTES_HI k),
      (0x110C8 + 0x1000 * k, ETP_TX_BYTES_LO k, ETP_TX_BYTES_HI k)]

theorem lowWords_places : ∀ x ∈ lowWords, wordFields x.1 = [x.2.1] ∧ wordFields (x.1 + 4) = [x.2.2] ∧ fieldsOnly x.1 = true ∧
    fieldsOnly (x.1 + 4) = true ∧ x.2.1.access ≠ .wo ∧ x.2.2.access ≠ .wo ∧ x.2.1.lo = 0 ∧ x.2.2.lo = 0 := by
  decide

/-- What these fields show does not depend on the clock domains. -/
theorem State.view_withDomains_of_low (s : State) (d : List DomainState) :
    ∀ x ∈ lowWords, (s.withDomains d).view x.2.1 = s.view x.2.1 ∧ (s.withDomains d).view x.2.2 = s.view x.2.2 := by
  have now : (s.withDomains d).time.now = s.time.now := rfl
  have asn : (s.withDomains d).asnAt (s.withDomains d).moduleTime = s.asnAt s.moduleTime := rfl
  have reads (f : Field) : (s.withDomains d).rd f = s.rd f := rfl
  intro x hx
  fin_cases hx <;> simp [State.view, State.viewTIM, State.viewMAC, State.viewEMUGroup, Field.key, now, asn, reads]

/-- A word that a read latches the next one of, and that does not depend on the clock domains, with the one it latches. -/
def LowWord (addr : Nat) : Prop :=
  latchingLo.contains addr = true ∧ addr % 4 = 0 ∧ ¬(0x1A100 ≤ addr ∧ addr < 0x1A300 ∧ addr % 0x20 = 8) ∧
    ∀ (s : State) (port : Port) (d : List DomainState), (s.withDomains d).word port addr = s.word port addr ∧
      (s.withDomains d).word port (addr + 4) = s.word port (addr + 4)

theorem State.word_epoch (s : State) (port : Port) :
    s.word port 0x00064 = s.epoch % 2 ^ 32 ∧ s.word port 0x00068 = s.epoch / 2 ^ 32 % 2 ^ 32 := by
  constructor
  · rw [State.word, if_neg (by decide), if_neg (by decide), if_pos rfl]
  · rw [State.word, if_neg (by decide), if_neg (by decide), if_neg (by decide), if_pos rfl]

theorem lowWord_epoch : LowWord 0x00064 :=
  ⟨by decide, by decide, by decide, fun s port d => by
    obtain ⟨lo, hi⟩ := s.word_epoch port
    obtain ⟨lo', hi'⟩ := (s.withDomains d).word_epoch port
    exact ⟨lo'.trans lo.symm, hi'.trans hi.symm⟩⟩

theorem lowWords_latching : ∀ x ∈ lowWords, latchingLo.contains x.1 = true ∧ x.1 % 4 = 0 ∧
    ¬(0x1A100 ≤ x.1 ∧ x.1 < 0x1A300 ∧ x.1 % 0x20 = 8) := by
  decide

theorem lowWord_of_mem {x : Nat × Field × Field} (h : x ∈ lowWords) : LowWord x.1 := by
  obtain ⟨low, aligned, queue⟩ := lowWords_latching x h
  refine ⟨low, aligned, queue, fun s port d => ?_⟩
  obtain ⟨fields, high, plain, plainHigh, reads, readsHigh, -, -⟩ := lowWords_places x h
  obtain ⟨lo, hi⟩ := s.view_withDomains_of_low d x h
  simp only [State.word_of_fieldsOnly _ _ plain, State.word_of_fieldsOnly _ _ plainHigh, State.fieldsWord_of_single _ fields reads,
    State.fieldsWord_of_single _ high readsHigh, lo, hi]
  trivial

theorem readsLow_readPort {s : State} {port : Port} {addr : Nat} (low : LowWord addr) (valid : s.mirrorValid port = true)
    (live : s.live (addr / 0x1000) = true) : ReadsLow port addr s (s.readPort port addr) := by
  obtain ⟨latches, aligned, queue, words⟩ := low
  obtain ⟨d, wakes⟩ := s.wakePort_eq port
  have read : (s.wakePort port).readReg port addr = (s.withDomains d).readLo port addr := by
    rw [wakes, State.readReg, if_neg queue, if_pos latches]
  rw [State.readPort_of valid live aligned, read, State.readLo]
  dsimp only
  rw [(words s port d).1, (words s port d).2]
  obtain ⟨data, other, -, his, -, reads⟩ := State.setRead_row ((s.withDomains d).setPort port { (s.withDomains d).port port with
    hiLatches := Sparse.insert ((s.withDomains d).port port).hiLatches (addr + 4) (s.word port (addr + 4)) }) port
    [s.word port addr % 2 ^ 32]
  refine ⟨data, ?_, other.trans ?_, fun f _ => (reads f).trans (State.rd_setPort _ _ _ _)⟩
  · rw [his, State.port_setPort]
    exact Sparse.get_insert_self _ _ _
  · rw [State.port_setPort_ne _ _ (by cases port <;> decide), State.port_withDomains]

theorem mem_lowWords_etp {k : Nat} (hk : k < 6) :
    (0x110C0 + 0x1000 * k, ETP_RX_BYTES_LO k, ETP_RX_BYTES_HI k) ∈ lowWords ∧
      (0x110C8 + 0x1000 * k, ETP_TX_BYTES_LO k, ETP_TX_BYTES_HI k) ∈ lowWords := by
  constructor <;> refine List.mem_append_right _ (List.mem_flatMap.2 ⟨k, List.mem_range.2 hk, ?_⟩) <;> simp

/-! ### Windows, and words without an effect (R12, R155) -/

theorem winAddrs_places : ∀ f ∈ winAddrs, (winAddrs.find? fun g => g.addr / 0x1000 == f.addr / 0x1000) = some f ∧
    winDataOf (f.addr + 4) = some f ∧ f.width ≤ 22 ∧ ¬(0x1A100 ≤ f.addr + 4 ∧ f.addr + 4 < 0x1A300 ∧ (f.addr + 4) % 0x20 = 8) ∧
    latchingLo.contains (f.addr + 4) = false ∧ (f.addr + 4) % 4 = 0 ∧ (f.addr + 4) / 0x1000 = f.addr / 0x1000 ∧
    f.addr / 0x1000 ≠ 0x1A := by
  decide

theorem winDataRead_advances {s : State} {port : Port} {f : Field} (mem : f ∈ winAddrs) (valid : s.mirrorValid port = true)
    (live : s.live (f.addr / 0x1000) = true) :
    Completes (.winDataRead port (f.addr / 0x1000)) s fun t =>
      (t.port port).readData = [(s.wakePort port).winWord (f.addr / 0x1000) (4 * s.rd f) % 2 ^ 32] ∧
      t.rd f = (s.rd f + 1) % 2 ^ f.width ∧ OnlyFields [f] s t ∧ t.win = s.win := by
  obtain ⟨place, data, width, queue, low, aligned, page, other⟩ := winAddrs_places f mem
  have read : exec (.winDataRead port (f.addr / 0x1000)) s = .next (s.readPort port (f.addr + 4)) := by
    show Host.Outcome.next (s.readPort port _) = _
    rw [place]
    rfl
  refine ⟨_, read, ?_⟩
  obtain ⟨d, wakes⟩ := s.wakePort_eq port
  have offset : 4 * s.rd f < 0x1000000 := by
    have := Nat.lt_of_lt_of_le (s.rd_lt f) (Nat.pow_le_pow_right (by decide) width)
    omega
  have word : (s.wakePort port).readReg port (f.addr + 4) =
      ((s.wakePort port).winWord (f.addr / 0x1000) (4 * s.rd f), (s.withDomains d).wr f (s.rd f + 1)) := by
    have bar2 : (s.withDomains d).readBar2 port (f.addr / 0x1000 * 0x1000000 + 4 * s.rd f) =
        ((s.withDomains d).winWord (f.addr / 0x1000) (4 * s.rd f), s.withDomains d) := by
      have usable : (s.withDomains d).live (f.addr / 0x1000) = true := live
      rw [State.readBar2, show (f.addr / 0x1000 * 0x1000000 + 4 * s.rd f) / 0x1000000 = f.addr / 0x1000 by omega,
        show (f.addr / 0x1000 * 0x1000000 + 4 * s.rd f) % 0x1000000 = 4 * s.rd f by omega]
      simp [usable, other]
    rw [State.readReg, if_neg queue, if_neg (by rw [low]; decide), data, wakes]
    show State.readWinData _ _ _ = _
    rw [State.readWinData, show (s.withDomains d).rd f = s.rd f from rfl, bar2]
    rfl
  rw [State.readPort_of valid (page.symm ▸ live) aligned, word]
  obtain ⟨shown, -, -, -, win, reads⟩ := ((s.withDomains d).wr f (s.rd f + 1)).setRead_row port
    [(s.wakePort port).winWord (f.addr / 0x1000) (4 * s.rd f) % 2 ^ 32]
  refine ⟨shown, (reads f).trans (State.rd_wr_self _ _ _), fun g hg => (reads g).trans ?_, win⟩
  exact (State.rd_wr_ne _ _ (hg f (by simp))).trans rfl

/-- No field of the map is cleared by its read. -/
theorem pageFields_access (p : Nat) : ∀ f ∈ pageFields p, f.access ≠ .rc := by
  by_cases small : p < 0x23
  · have table : ∀ p < 0x23, ∀ f ∈ pageFields p, f.access ≠ .rc := by decide +kernel
    exact table p small
  · have none : pageFields p = [] := by
      unfold pageFields
      split <;> first | omega | rfl
    simp [none]

theorem State.clearRc_eq (s : State) (addr : Nat) : s.clearRc addr = s := by
  have none : ((wordFields addr).filter fun f => f.access == .rc) = [] := by
    rw [List.filter_eq_nil_iff]
    intro f hf
    simpa using pageFields_access _ f (List.mem_filter.1 hf).1
  rw [State.clearRc, none]
  rfl

/-- Settles O7: each read by what its address is to the port: a block's SEQ or last word, a low word, a window, or none of these. -/
theorem latchingReads : Obligations.LatchingReads := by
  refine ⟨fun s port b r block valid live => seqWordRead_latches block valid live,
    fun s port b r l block valid live latched => blockLastWordRead_releases block valid live latched,
    fun s port valid => ⟨fun live => ⟨_, rfl, readsLow_readPort lowWord_epoch valid live⟩,
      fun live => ⟨_, rfl, readsLow_readPort (lowWord_of_mem (x := (0x18040, TIM_NOW_LO, TIM_NOW_HI)) (by decide)) valid live⟩,
      fun live => ⟨_, rfl, readsLow_readPort (lowWord_of_mem (x := (0x04058, MAC_ASN_LO, MAC_ASN_HI)) (by decide)) valid live⟩,
      fun live => ⟨_, rfl, readsLow_readPort (lowWord_of_mem (x := (0x08060, SCH_HIGH_LO, SCH_HIGH_HI)) (by decide)) valid live⟩,
      fun k hk live => ?_⟩,
    fun s port => ?_, fun s port f mem valid live => winDataRead_advances mem valid live,
    fun s port addr _ aligned valid live queue low data seq block fresh his => ?_,
    fun s addr _ aligned => ⟨_, rfl, _, rfl, if_pos (by simp [aligned])⟩⟩
  · obtain ⟨rx, tx⟩ := mem_lowWords_etp hk
    exact ⟨⟨_, rfl, readsLow_readPort (lowWord_of_mem rx) valid (by rwa [show (0x110C0 + 0x1000 * k) / 0x1000 = 0x11 + k by omega])⟩,
      ⟨_, rfl, readsLow_readPort (lowWord_of_mem tx) valid (by rwa [show (0x110C8 + 0x1000 * k) / 0x1000 = 0x11 + k by omega])⟩⟩
  · have word {addr : Nat} {f : Field} (plain : fieldsOnly addr = true) (fields : wordFields addr = [f]) (reads : f.access ≠ .wo)
        (lo : f.lo = 0) : s.word port addr = s.view f % 2 ^ 32 := by
      rw [State.word_of_fieldsOnly _ _ plain, State.fieldsWord_of_single _ fields reads, lo, Nat.pow_zero, Nat.mul_one]
    refine ⟨(s.word_epoch port).1, (s.word_epoch port).2, ?_, ?_, ?_, ?_⟩
    · exact (word (f := TIM_NOW_LO) (by decide) (by decide) (by decide) rfl).trans (Nat.mod_mod _ _)
    · exact (word (f := TIM_NOW_HI) (by decide) (by decide) (by decide) rfl).trans (Nat.mod_mod _ _)
    · exact (word (f := MAC_ASN_LO) (by decide) (by decide) (by decide) rfl).trans (Nat.mod_mod _ _)
    · exact (word (f := MAC_ASN_HI) (by decide) (by decide) (by decide) rfl).trans (Nat.mod_eq_of_lt (lt_trans (Nat.mod_lt _ (by decide)) (by decide : 2 ^ 8 < 2 ^ 32)))
  · refine ⟨_, rfl, ?_⟩
    obtain ⟨d, wakes⟩ := s.wakePort_eq port
    have latch : Sparse.get ((s.withDomains d).port port).hiLatches addr = none := by rw [State.port_withDomains, his]
    have read : (s.wakePort port).readReg port addr = ((s.wakePort port).word port addr, s.withDomains d) := by
      rw [wakes, State.readReg, if_neg queue, if_neg (by simpa using low), data, seq, block]
      show ite _ _ _ = _
      rw [if_neg fresh, latch]
      exact congrArg _ (State.clearRc_eq _ _)
    rw [State.readPort_of valid live aligned, read]
    obtain ⟨shown, other, -, -, -, reads⟩ := (s.withDomains d).setRead_row port [(s.wakePort port).word port addr % 2 ^ 32]
    exact ⟨shown, other.trans (State.port_withDomains _ _ _), fun f _ => (reads f).trans rfl⟩

end Sys2Proof.Machine
end

section
/-! SUPPORT. Requests by SYS_POWER and SIV_MODE and the clock domains (O13); the level frames of a group (O32). -/

namespace Sys2Proof.Machine

/-! ### Domains that are started and stopped -/

theorem getD_putDomain {l : List DomainState} {d j : Nat} (v : DomainState) (h : j < 14) :
    (putDomain l d v).getD j .stopped = if j = d then v else l.getD j .stopped :=
  getD_putAt _ _ _ _ _ h

/-- Access starts every domain of the list that DOZE can stop. -/
theorem woken_fold_starts {d : Nat} (hd : d < 14) (stops : (dozeState d).isSome = true) :
    ∀ (ds : List Nat) (l : List DomainState), d ∈ ds →
      (ds.foldl (fun l d => if (dozeState d).isSome && l.getD d .stopped != .running then putDomain l d .running else l) l).getD d .stopped = .running := by
  intro ds
  induction ds with
  | nil => intro l h; cases h
  | cons e ds ih =>
    intro l h
    rw [List.foldl_cons]
    rcases List.mem_cons.mp h with rfl | later
    · refine woken_fold_running hd ds ?_
      by_cases runs : l.getD d .stopped = .running
      · rw [if_neg (by rw [runs, stops]; decide)]
        exact runs
      · rw [if_pos (by rw [stops, Bool.true_and, bne_iff_ne]; exact runs), getD_putDomain _ hd, if_pos rfl]
    · exact ih _ later

theorem State.wakePage_starts {s : State} {p d : Nat} (doze : s.modes.power = .doze) (ready : s.startup.phase = .ready)
    (mem : d ∈ pageDomains p) (stops : (dozeState d).isSome = true) : (s.wakePage p).domain d = .running := by
  simp only [State.domain, State.wakePage, State.woken, doze, ready, beq_self_eq_true, Bool.and_self, if_true]
  exact woken_fold_starts (pageDomains_lt mem) stops _ _ mem

/-- An idle domain stops in DOZE alone, and as its row says (R30). -/
theorem State.domainStop_eq (s : State) (d : Nat) :
    s.domainStop d = if s.modes.power = .doze ∧ s.startup.phase = .ready then
        { s with domains := ((dozeState d).map fun v => putDomain s.domains d v).getD s.domains } else s := by
  rw [State.domainStop]
  cases dozeState d <;> rfl

theorem State.domain_domainStop_ne (s : State) {d j : Nat} (hj : j < 14) (ne : j ≠ d) : (s.domainStop d).domain j = s.domain j := by
  rw [State.domainStop_eq]
  split
  · cases dozeState d with
    | none => rfl
    | some v => exact (getD_putDomain v hj).trans (if_neg ne)
  · rfl

theorem State.domain_domainStop_same {s : State} {d : Nat} {v : DomainState} (hd : d < 14) (doze : s.modes.power = .doze)
    (ready : s.startup.phase = .ready) (stops : dozeState d = some v) : (s.domainStop d).domain d = v := by
  rw [State.domainStop_eq, if_pos ⟨doze, ready⟩, stops]
  exact (getD_putDomain v hd).trans (if_pos rfl)

theorem State.flushDeferred_nil {s : State} (h : s.deferred = []) : s.flushDeferred = s := by
  have e : ({ s with deferred := [] } : State) = s := by cases s; cases h; rfl
  simp only [State.flushDeferred, h, List.partition_eq_filter_filter, List.filter_nil, State.applyTogether_nil, e]

/-! ### Requests -/

theorem State.powerWrite_spec {s : State} {v : Nat} (hv : v < 4) :
    (s.powerWrite v).rd SYS_POWER_REQ = v ∧
    if s.startup.line < 5 then (s.powerWrite v).startup = { s.startup with heldPower := some v } ∧ (s.powerWrite v).modeReqs = s.modeReqs
    else (s.powerWrite v).startup = s.startup ∧ (s.powerWrite v).modeReqs = s.modeReqs ++ [⟨.power (powerOf v), 0, 0⟩] := by
  have reads : (s.wr SYS_POWER_REQ v).rd SYS_POWER_REQ = v := State.rd_wr_of_lt s hv
  rw [State.powerWrite]
  by_cases early : s.startup.line < 5
  · simp only [State.wr_startup, early, if_true, Nat.mod_eq_of_lt hv]
    exact ⟨(State.rd_congr rfl _).trans reads, trivial, rfl⟩
  · simp only [State.wr_startup, early, if_false]
    exact ⟨(State.rd_congr rfl _).trans reads, trivial, rfl⟩

theorem State.sivModeWrite_spec {s : State} {v : Nat} (hv : v < 4) :
    (s.sivModeWrite v).rd SIV_MODE_REQ = v ∧
    (s.sivModeWrite v).modeReqs = if v = 3 then s.modeReqs else s.modeReqs ++ [⟨.sieve (sieveOf v), 0, 0⟩] := by
  have reads : (s.wr SIV_MODE_REQ v).rd SIV_MODE_REQ = v := State.rd_wr_of_lt s hv
  rw [State.sivModeWrite]
  simp only [Nat.mod_eq_of_lt hv]
  by_cases none : v = 3
  · simp only [none, if_true]
    exact ⟨none ▸ reads, rfl⟩
  · simp only [none, if_false]
    exact ⟨(State.rd_congr rfl _).trans reads, rfl⟩

/-- Settles O13: each command is one update of the request list or of the list of domains. -/
theorem modeRequestsAndDomains : Obligations.ModeRequestsAndDomains := by
  refine ⟨?_, ?_, ?_, ?_, ?_⟩
  · intro s port v h wf
    refine Completes.effect rfl h ?_
    have spec := State.powerWrite_spec (s := s.hostWrote port false SYS_POWER_REQ.addr) wf
    simpa only [State.hostWrote_startup, State.hostWrote_modeReqs] using spec
  · intro s port v h wf
    refine Completes.effect rfl h ?_
    simpa only [State.hostWrote_modeReqs] using State.sivModeWrite_spec (s := s.hostWrote port false SIV_MODE_REQ.addr) wf
  · intro s d wf ready none
    have hd : d < 14 := wf
    refine ⟨{ s with domains := putDomain s.domains d .running }, ?_, ?_, ?_, rfl⟩
    · change Host.Outcome.next _ = _
      rw [ready, if_pos rfl, State.flushDeferred_nil (by exact none)]
    · exact (getD_putDomain _ hd).trans (if_pos rfl)
    · exact fun j hj ne => (getD_putDomain _ hj).trans (if_neg ne)
  · intro s d wf
    have hd : d < 14 := wf
    refine ⟨s.domainStop d, rfl, fun j hj ne => State.domain_domainStop_ne s hj ne, fun doze ready => ⟨?_, ?_, ?_⟩, fun awake => ?_⟩
    · intro gates
      exact State.domain_domainStop_same hd doze ready (if_pos gates)
    · rintro rfl
      exact State.domain_domainStop_same hd doze ready rfl
    · intro other
      have stands : dozeState d = none := by simp_all [dozeState]
      rw [State.domainStop, if_pos ⟨doze, ready⟩, stands]
    · rw [State.domainStop, if_neg fun h => awake h.1]
  · intro s p d doze ready mem stops
    exact State.wakePage_starts doze ready mem stops

/-! ### The level frames of a group -/

/-- What every frame of DPT meets (R332, R333): it stays within the limits, and each index is at most 255 above the first. -/
def FrameFits (maxCount maxPsdu : Nat) (f : List Packable) : Prop :=
  f.length ≤ maxCount ∧ (2 ≤ f.length → levelPsdu f ≤ maxPsdu) ∧
    ∀ p ∈ f, p.node.index ≤ (f.head?.map fun b => b.node.index).getD 0 + 255

theorem takeFrame_parts (maxCount maxPsdu : Nat) (l frame : List Packable) :
    (takeFrame maxCount maxPsdu frame l).1 ++ (takeFrame maxCount maxPsdu frame l).2 = frame ++ l := by
  induction l generalizing frame with
  | nil => rfl
  | cons n t ih =>
    rw [takeFrame]
    split
    · rfl
    · rw [ih, List.append_assoc]; rfl

theorem takeFrame_ne_nil (maxCount maxPsdu : Nat) (l : List Packable) {frame : List Packable} (h : frame ≠ []) :
    (takeFrame maxCount maxPsdu frame l).1 ≠ [] := by
  induction l generalizing frame with
  | nil => exact h
  | cons n t ih =>
    rw [takeFrame]
    split
    · exact h
    · exact ih (by simp)

theorem FrameFits.snoc {maxCount maxPsdu : Nat} {frame : List Packable} {n : Packable} (some_ : 1 ≤ maxCount) (h : FrameFits maxCount maxPsdu frame)
    (room : ¬(!frame.isEmpty && (decide ((frame.head?.map fun p => p.node.index).getD n.node.index + 255 < n.node.index) ||
      frame.length == maxCount || decide (maxPsdu < levelPsdu (frame ++ [n])))) = true) : FrameFits maxCount maxPsdu (frame ++ [n]) := by
  cases frame with
  | nil => exact ⟨some_, by simp, by simp⟩
  | cons b frame =>
    obtain ⟨count, -, near⟩ := h
    have ⟨⟨close, short⟩, small⟩ : (n.node.index ≤ b.node.index + 255 ∧ (b :: frame).length ≠ maxCount) ∧
        levelPsdu (b :: frame ++ [n]) ≤ maxPsdu := by
      simp only [List.isEmpty_cons, Bool.not_false, Bool.true_and, Bool.or_eq_true, decide_eq_true_eq, beq_iff_eq, not_or, Nat.not_lt] at room
      exact room
    refine ⟨?_, fun _ => small, fun p mem => ?_⟩
    · rw [List.length_append, List.length_singleton]
      exact Nat.succ_le_of_lt (Nat.lt_of_le_of_ne count short)
    · rcases List.mem_append.mp mem with old | new
      · exact near p old
      · rw [List.mem_singleton.mp new]
        exact close

theorem takeFrame_fits {maxCount maxPsdu : Nat} (some_ : 1 ≤ maxCount) (l : List Packable) {frame : List Packable}
    (h : FrameFits maxCount maxPsdu frame) : FrameFits maxCount maxPsdu (takeFrame maxCount maxPsdu frame l).1 := by
  induction l generalizing frame with
  | nil => exact h
  | cons n t ih =>
    rw [takeFrame]
    split
    · exact h
    · next room => exact ih (h.snoc some_ room)

/-- From an empty frame the first node is always taken. -/
theorem takeFrame_cons_ne_nil (maxCount maxPsdu : Nat) (n : Packable) (t : List Packable) :
    (takeFrame maxCount maxPsdu [] (n :: t)).1 ≠ [] := by
  rw [takeFrame, if_neg (by simp)]
  exact takeFrame_ne_nil _ _ _ (by simp)

theorem framesOf_spec {maxCount maxPsdu : Nat} (some_ : 1 ≤ maxCount) (fuel : Nat) {l : List Packable} (enough : l.length ≤ fuel) :
    (framesOf maxCount maxPsdu fuel l).flatten = l ∧ ∀ f ∈ framesOf maxCount maxPsdu fuel l, f ≠ [] ∧ FrameFits maxCount maxPsdu f := by
  induction fuel generalizing l with
  | zero => rw [List.eq_nil_of_length_eq_zero (Nat.le_zero.mp enough)]; simp [framesOf]
  | succ fuel ih =>
    cases l with
    | nil => simp [framesOf]
    | cons n t =>
      rw [framesOf]
      have parts := takeFrame_parts maxCount maxPsdu (n :: t) []
      have taken := takeFrame_cons_ne_nil maxCount maxPsdu n t
      have fits := takeFrame_fits (maxPsdu := maxPsdu) some_ (n :: t) (frame := []) ⟨Nat.zero_le _, by simp, by simp⟩
      have ⟨joined, each⟩ := ih (l := (takeFrame maxCount maxPsdu [] (n :: t)).2) (by
        have total := congrArg List.length parts
        have pos := List.length_pos_of_ne_nil taken
        simp only [List.length_append, List.length_nil, Nat.zero_add] at total
        omega)
      refine ⟨?_, fun f mem => ?_⟩
      · rw [List.flatten_cons, joined]
        exact parts
      · rcases List.mem_cons.mp mem with rfl | later
        · exact ⟨taken, fits⟩
        · exact each f later
      · exact fun h => by cases h

/-- Settles O32, by induction on the nodes that are left. -/
theorem levelFramesPartition : Obligations.LevelFramesPartition :=
  fun _ _ _ some_ => framesOf_spec some_ _ (Nat.le_refl _)

end Sys2Proof.Machine
end

section
/-! SUPPORT. The bytes of the node table, its commands, its lookup and its word writes (O16, O17). -/

namespace Sys2Proof

open Machine

/-! ### Bytes of the windows -/

theorem Machine.State.w8_congr {s t : State} (h : t.win = s.win) (q a : Nat) : t.w8 q a = s.w8 q a := by
  rw [State.w8, State.w8, h]

theorem Machine.State.w8_lt (s : State) (q a : Nat) : s.w8 q a < 256 := BitVec.isLt _

theorem Machine.State.wN_congr {s t : State} (h : t.win = s.win) (q a n : Nat) : t.wN q a n = s.wN q a n := by
  simp only [State.wN, State.wBytes, State.w8_congr h]

theorem Machine.State.w8_setBytes_outside {s : State} {p a q b : Nat} {l : List Nat} (hb : b < 2 ^ 24) (ha : a + l.length ≤ 2 ^ 24)
    (h : ¬(q = p ∧ a ≤ b ∧ b < a + l.length)) : (s.setBytes p a l).w8 q b = s.w8 q b := by
  refine State.w8_setBytes_ne s p a q b l ?_
  simp only [winAddr]
  omega

theorem Machine.State.w8_setBytes_inside (s : State) {p a b : Nat} {l : List Nat} (lo : a ≤ b) (hi : b < a + l.length) :
    (s.setBytes p a l).w8 p b = l.getD (b - a) 0 % 256 := by
  have at_ := State.w8_setBytes s p a (b - a) l (by omega)
  rwa [Nat.add_sub_cancel' lo] at at_

/-- A change of the node table's window writes bytes of `P` alone. -/
def OnlyBytes (P : Nat → Prop) (s t : State) : Prop :=
  ∀ q a, q < 64 → a < 2 ^ 24 → ¬(q = 0x05 ∧ P a) → t.w8 q a = s.w8 q a

section
variable {P Q : Nat → Prop} {s t u : State}

theorem OnlyBytes.of_win (h : t.win = s.win) : OnlyBytes P s t := fun q a _ _ _ => State.w8_congr h q a

theorem OnlyBytes.trans (h : OnlyBytes P s t) (k : OnlyBytes P t u) : OnlyBytes P s u :=
  fun q a hq ha out => (k q a hq ha out).trans (h q a hq ha out)

theorem OnlyBytes.congr (h : OnlyBytes P s t) (e : u.win = t.win) : OnlyBytes P s u := h.trans (.of_win e)

theorem OnlyBytes.setBytes (h : OnlyBytes P s t) {a : Nat} {l : List Nat} (ha : a + l.length ≤ 2 ^ 24)
    (sub : ∀ b, a ≤ b → b < a + l.length → P b) : OnlyBytes P s (t.setBytes 0x05 a l) :=
  h.trans fun _ b _ hb out => State.w8_setBytes_outside hb ha fun ⟨page, lo, hi⟩ => out ⟨page, sub b lo hi⟩

end

end Sys2Proof

namespace Sys2Proof.Machine

/-! ### Values of an entry -/

@[simp] theorem length_toOctets (n v : Nat) : (toOctets n v).length = n := by simp [toOctets]

theorem getD_toOctets {n i : Nat} (v : Nat) (h : i < n) : (toOctets n v).getD i 0 = octet v i := by
  simp [toOctets, h]

theorem State.ent_one (s : State) (i o : Nat) : s.ent i o 1 = s.w8 0x05 (256 * i + o) := by
  have small := State.w8_lt s 0x05 (256 * i + o)
  simp only [State.ent, State.wN, State.wBytes, List.range_succ, List.range_zero, List.nil_append, List.map_cons, List.map_nil, ofOctets,
    Nat.add_zero, Nat.mul_zero, Nat.mod_eq_of_lt small]

theorem State.ent_two (s : State) (i o : Nat) : s.ent i o 2 = s.w8 0x05 (256 * i + o) + 256 * s.w8 0x05 (256 * i + o + 1) := by
  have small := State.w8_lt s 0x05
  simp only [State.ent, State.wN, State.wBytes, List.range_succ, List.range_zero, List.nil_append, List.map_cons,
    List.map_nil, List.cons_append, ofOctets, Nat.add_zero, Nat.mul_zero, Nat.mod_eq_of_lt (small _)]

theorem State.entByte_eq (s : State) (i : Nat) : s.entByte i = s.w8 0x05 (256 * i + 0x0B) := State.ent_one s i 0x0B

theorem State.dstate_eq (s : State) (i : Nat) : s.dstate i = s.w8 0x05 (256 * i + 0xBD) := State.ent_one s i 0xBD

theorem State.ent_congr {s t : State} (h : t.win = s.win) (i o n : Nat) : t.ent i o n = s.ent i o n := State.wN_congr h _ _ _

theorem State.entByte_congr {s t : State} (h : t.win = s.win) (i : Nat) : t.entByte i = s.entByte i := State.ent_congr h _ _ _

theorem State.dstate_congr {s t : State} (h : t.win = s.win) (i : Nat) : t.dstate i = s.dstate i := State.ent_congr h _ _ _

theorem ofOctets_replicate_zero (n : Nat) : ofOctets (List.replicate n 0) = 0 := by
  induction n with
  | zero => rfl
  | succ n ih => rw [List.replicate_succ, ofOctets, ih]

/-- A value of bytes that are all 0 is 0. -/
theorem State.ent_zero {s : State} {i o n : Nat} (h : ∀ k, k < n → s.w8 0x05 (256 * i + o + k) = 0) : s.ent i o n = 0 := by
  have bytes : s.wBytes 0x05 (256 * i + o) n = List.replicate n 0 := by
    refine List.eq_replicate_iff.mpr ⟨by simp [State.wBytes], fun b mem => ?_⟩
    obtain ⟨k, hk, rfl⟩ := List.mem_map.mp mem
    exact h k (List.mem_range.mp hk)
  rw [State.ent, State.wN, bytes, ofOctets_replicate_zero]

/-! ### The state of an entry -/

theorem State.setEntState_entByte (s : State) {i v : Nat} (hv : v < 256) : (s.setEntState i v).entByte i = v := by
  rw [State.entByte_eq, State.setEntState, State.setEnt, State.setN, State.w8_setBytes_inside _ (Nat.le_refl _) (by simp), Nat.sub_self,
    getD_toOctets _ Nat.one_pos, octet, Nat.pow_zero, Nat.div_one, Nat.mod_mod, Nat.mod_eq_of_lt hv]

/-- The bytes that a change of an entry's state may write: the state, and the dispatch state of one that leaves JOINED. -/
theorem State.setEntState_bytes (s : State) {i : Nat} (v : Nat) (hi : i < 8192) :
    OnlyBytes (fun a => a = 256 * i + 0x0B ∨ (s.entByte i = 3 ∧ a = 256 * i + 0xBD)) s (s.setEntState i v) := by
  rw [State.setEntState]
  refine OnlyBytes.setBytes ?_ (by simp; omega) fun b lo hi => Or.inl (by simp at hi; omega)
  split
  · next joined =>
    exact OnlyBytes.setBytes (.of_win rfl) (by simp; omega) fun b lo hi => Or.inr ⟨joined.1, by simp at hi; omega⟩
  · exact .of_win rfl

theorem State.setEntState_dstate {s : State} {i v : Nat} (joined : s.entByte i = 3) (leaves : v ≠ 3) (hi : i < 8192) :
    (s.setEntState i v).dstate i = clrBit (s.dstate i) 0 := by
  have small : clrBit (s.dstate i) 0 < 256 :=
    clrBit_lt (n := 8) (by rw [State.dstate_eq]; exact State.w8_lt _ _ _)
  rw [State.setEntState, if_pos ⟨joined, leaves⟩, State.dstate_eq, State.setEnt, State.setN,
    State.w8_setBytes_outside (by omega) (by simp; omega) (by simp), State.setDvalid, if_neg (by decide), State.setEnt, State.setN,
    State.w8_setBytes_inside _ (Nat.le_refl _) (by simp), Nat.sub_self, getD_toOctets _ Nat.one_pos, octet, Nat.pow_zero, Nat.div_one,
    Nat.mod_mod, Nat.mod_eq_of_lt small]

/-! ### The result of a command -/

@[simp] theorem State.ntbErr_win (s : State) (i r : Nat) : (s.ntbErr i r).win = s.win := by simp [State.ntbErr]

@[simp] theorem State.ntbResult_win (s : State) (i r : Nat) : (s.ntbResult i r).win = s.win := by
  rw [State.ntbResult]
  split <;> simp

theorem State.ntbErr_shows (s : State) {i r : Nat} (hi : i < 8192) (hr : r < 8) :
    (s.ntbErr i r).rd NTB_ERR_INDEX = i ∧ (s.ntbErr i r).rd NTB_ERR_REASON = r ∧ Noted NTB_NOTE_CFG_ERR (s.ntbErr i r) := by
  refine ⟨?_, ?_, State.noted_notice _ NTB_NOTE_CFG_ERR (by decide)⟩
  · rw [State.ntbErr, State.rd_notice_ne _ NTB_NOTE_CFG_ERR (by decide) (by decide), State.rd_wr_ne _ _ (by decide), State.rd_wr_of_lt _ hi]
  · rw [State.ntbErr, State.rd_notice_ne _ NTB_NOTE_CFG_ERR (by decide) (by decide), State.rd_wr_of_lt _ hr]

theorem State.ntbResult_quiet (s : State) {i r : Nat} (h : r = 0 ∨ r = 5) : s.ntbResult i r = s.wr NTB_CMD_STAT_RESULT r := by
  rw [State.ntbResult, if_pos h]

theorem State.rd_ntbResult_quiet (s : State) {i r : Nat} (h : r = 0 ∨ r = 5) : (s.ntbResult i r).rd NTB_CMD_STAT_RESULT = r := by
  rw [State.ntbResult_quiet s h]
  exact State.rd_wr_of_lt s (by rcases h with rfl | rfl <;> decide)

/-- What a command refused with code 1 shows. -/
theorem State.ntbResult_refused (s : State) {i : Nat} (hi : i < 8192) :
    (s.ntbResult i 1).rd NTB_CMD_STAT_RESULT = 1 ∧ (s.ntbResult i 1).rd NTB_ERR_INDEX = i ∧ (s.ntbResult i 1).rd NTB_ERR_REASON = 2 ∧
    Noted NTB_NOTE_CFG_ERR (s.ntbResult i 1) ∧ (s.ntbResult i 1).win = s.win := by
  obtain ⟨index, reason, note⟩ := State.ntbErr_shows (s.wr NTB_CMD_STAT_RESULT 1) hi (r := 2) (by decide)
  refine ⟨?_, index, reason, note, by simp⟩
  change ((s.wr NTB_CMD_STAT_RESULT 1).ntbErr i 2).rd _ = 1
  rw [State.ntbErr, State.rd_notice_ne _ NTB_NOTE_CFG_ERR (by decide) (by decide), State.rd_wr_ne _ _ (by decide),
    State.rd_wr_ne _ _ (by decide), State.rd_wr_of_lt _ (by decide)]

/-! ### The commands of the table -/

theorem State.ntbCommand_taken {s : State} (run : s.rd NTB_CTRL_EN = 1) (i : Nat) (k : State → State) : s.ntbCommand i k = k s := by
  rw [State.ntbCommand, if_pos (by rw [State.rdB, run]; rfl)]

theorem State.ntbCommand_stopped {s : State} (stopped : s.rd NTB_CTRL_EN = 0) (i : Nat) (k : State → State) :
    s.ntbCommand i k = s.ntbResult i 5 := by
  rw [State.ntbCommand, if_neg (by rw [State.rdB, stopped]; decide)]

theorem State.usedEntries_congr {s t : State} (h : t.win = s.win) : t.usedEntries = s.usedEntries := by
  rw [State.usedEntries, State.usedEntries, h]

theorem State.ntbProvision_granted {s : State} {i : Nat} (free : s.entByte i = 0) (typed : s.entType i ≠ 0)
    (sole : s.entType i = 1 → ∀ j ∈ s.usedEntries, j ≠ i → s.entType j = 1 → s.entExt j ≠ s.entExt i) :
    s.ntbProvision i = (s.ntbEnter i).ntbResult i 0 := by
  rw [State.ntbProvision, if_neg (not_not_intro free), if_neg typed, if_neg]
  rintro ⟨coordinator, found⟩
  obtain ⟨j, mem, same⟩ := List.any_eq_true.mp found
  simp only [Bool.and_eq_true, bne_iff_ne, beq_iff_eq] at same
  exact sole coordinator j mem same.1.1 same.1.2 same.2

theorem State.ntbEnter_entByte (s : State) {i : Nat} (hi : i < 8192) : (s.ntbEnter i).entByte i = 1 := by
  rw [State.ntbEnter, State.entByte_eq, State.w8_setBytes_outside (by omega) (by simp; omega) (by simp),
    State.w8_setBytes_outside (by omega) (by simp; omega) (by simp), ← State.entByte_eq, State.setEntState_entByte _ (by decide)]

theorem State.ntbEnter_temperature (s : State) {i k : Nat} (hi : i < 8192) (hk : k < 4) : (s.ntbEnter i).ent i (0x7C + 2 * k) 2 = 0x8000 := by
  have bytes : ∀ j, j < 8 → (s.ntbEnter i).w8 0x05 (256 * i + 0x7C + j) = if j % 2 = 1 then 0x80 else 0 := by
    intro j hj
    rw [State.ntbEnter, State.w8_setBytes_outside (by omega) (by simp; omega) (by simp; omega),
      State.w8_setBytes_inside _ (by omega) (by simp; omega), Nat.add_sub_cancel_left]
    interval_cases j <;> rfl
  rw [State.ent_two, ← Nat.add_assoc, bytes _ (by omega), Nat.add_assoc _ _ 1, bytes _ (by omega)]
  simp [Nat.add_mod]

theorem State.ntbEnter_groups (s : State) {i k : Nat} (hk : k < 16) : (s.ntbEnter i).ent i (0x50 + k) 1 = 0xFF := by
  rw [State.ent_one, State.ntbEnter, State.w8_setBytes_inside _ (by omega) (by simp; omega), ← Nat.add_assoc, Nat.add_sub_cancel_left,
    List.getD_replicate _ hk]

theorem State.ntbEnter_bytes {s : State} {i : Nat} (free : s.entByte i = 0) (hi : i < 8192) :
    OnlyBytes (fun a => a = 256 * i + 0x0B ∨ (256 * i + 0x50 ≤ a ∧ a < 256 * i + 0x60) ∨ (256 * i + 0x7C ≤ a ∧ a < 256 * i + 0x84)) s
      (s.ntbEnter i) := by
  have entered : OnlyBytes (fun a => a = 256 * i + 0x0B ∨ (256 * i + 0x50 ≤ a ∧ a < 256 * i + 0x60) ∨
      (256 * i + 0x7C ≤ a ∧ a < 256 * i + 0x84)) s (s.setEntState i 1) := fun q a hq ha out =>
    s.setEntState_bytes 1 hi q a hq ha fun ⟨page, byte⟩ => out ⟨page, Or.inl (byte.resolve_right fun joined => by omega)⟩
  exact (entered.setBytes (by simp; omega) fun b lo hi => Or.inr (Or.inr ⟨lo, by simp at hi; omega⟩)).setBytes (by simp; omega)
    fun b lo hi => Or.inr (Or.inl ⟨lo, by simp at hi; omega⟩)

theorem State.ntbFree_zero (s : State) {i k : Nat} (hk : k < 0xFC) : (s.ntbFree i).w8 0x05 (256 * i + k) = 0 := by
  rw [State.ntbFree, State.w8_congr (State.ntbResult_win _ _ _), State.w8_setBytes_inside _ (by omega) (by rw [List.length_replicate]; omega),
    Nat.add_sub_cancel_left, List.getD_replicate _ hk]

theorem State.ntbFree_bytes (s : State) {i : Nat} (hi : i < 8192) :
    OnlyBytes (fun a => 256 * i ≤ a ∧ a < 256 * i + 0xFC) s (s.ntbFree i) :=
  ((OnlyBytes.of_win rfl).setBytes (by rw [List.length_replicate]; omega) fun b lo hi => ⟨lo, by rwa [List.length_replicate] at hi⟩).congr (State.ntbResult_win _ _ _)

theorem State.setEnt_bytes {P : Nat → Prop} {s t : State} (h : OnlyBytes P s t) {i o n : Nat} (v : Nat) (hi : i < 8192) (fits : o + n ≤ 256)
    (sub : ∀ b, 256 * i + o ≤ b → b < 256 * i + o + n → P b) : OnlyBytes P s (t.setEnt i o n v) :=
  h.setBytes (by simp; omega) fun b lo hi => sub b lo (by simpa using hi)

theorem State.w8_setEnt_inside (s : State) {i o n k : Nat} (hk : k < n) : (s.setEnt i o n 0).w8 0x05 (256 * i + o + k) = 0 := by
  rw [State.setEnt, State.setN, State.w8_setBytes_inside _ (by omega) (by simp; omega), Nat.add_sub_cancel_left, getD_toOctets _ hk, octet,
    Nat.zero_div]

theorem State.w8_setEnt_outside (s : State) {i o n v a : Nat} (ha : a < 2 ^ 24) (hi : i < 8192) (fits : o + n ≤ 256)
    (out : a < 256 * i + o ∨ 256 * i + o + n ≤ a) : (s.setEnt i o n v).w8 0x05 a = s.w8 0x05 a :=
  State.w8_setBytes_outside ha (by simp; omega) (by simp; omega)

theorem State.ntbClearHealth_win (s : State) (i : Nat) :
    (s.ntbClearHealth i).win = (((s.setEnt i 0x31 1 0).setEnt i 0xE0 4 0).setEnt i 0xE4 4 0).win := State.ntbResult_win _ _ _

theorem State.ntbClearHealth_zero (s : State) {i : Nat} (hi : i < 8192) :
    (s.ntbClearHealth i).ent i 0x31 1 = 0 ∧ (s.ntbClearHealth i).ent i 0xE0 4 = 0 ∧ (s.ntbClearHealth i).ent i 0xE4 4 = 0 := by
  have win := State.ntbClearHealth_win s i
  refine ⟨State.ent_zero fun k hk => ?_, State.ent_zero fun k hk => ?_, State.ent_zero fun k hk => ?_⟩
  · rw [State.w8_congr win, State.w8_setEnt_outside _ (by omega) hi (by decide) (by omega),
      State.w8_setEnt_outside _ (by omega) hi (by decide) (by omega), State.w8_setEnt_inside _ hk]
  · rw [State.w8_congr win, State.w8_setEnt_outside _ (by omega) hi (by decide) (by omega), State.w8_setEnt_inside _ hk]
  · rw [State.w8_congr win, State.w8_setEnt_inside _ hk]

theorem State.ntbClearHealth_bytes (s : State) {i : Nat} (hi : i < 8192) :
    OnlyBytes (fun a => a = 256 * i + 0x31 ∨ (256 * i + 0xE0 ≤ a ∧ a < 256 * i + 0xE8)) s (s.ntbClearHealth i) :=
  (State.setEnt_bytes (State.setEnt_bytes (State.setEnt_bytes (.of_win rfl) 0 hi (by decide) fun b lo hi => Or.inl (by omega)) 0 hi
    (by decide) fun b lo hi => Or.inr (by omega)) 0 hi (by decide) fun b lo hi => Or.inr (by omega)).congr
    (State.ntbClearHealth_win s i)

/-- A command that works on an enabled table, from the state that the host's write leaves. -/
theorem State.ntbCmd_taken {s : State} (run : s.rd NTB_CTRL_EN = 1) (i : Nat) :
    s.ntbCmd i 1 = s.ntbProvision i ∧ s.ntbCmd i 2 = s.ntbBlock i ∧ s.ntbCmd i 3 = s.ntbUnblock i ∧ s.ntbCmd i 4 = s.ntbFree i ∧
    s.ntbCmd i 5 = s.ntbClearHealth i := by
  simp only [State.ntbCmd, State.ntbCommand_taken run, Nat.reduceEqDiff, if_true, if_false, and_self]

theorem State.rd_ntbEn_hostWrote (s : State) (port : Port) (a : Nat) :
    (s.hostWrote port false a).rd NTB_CTRL_EN = s.rd NTB_CTRL_EN :=
  State.rd_hostWrote_ne _ _ _ _ (by decide) (by decide)

/-- Settles O16: each command is at most three writes to its entry's bytes and its result. -/
theorem nodeTableCommands : Obligations.NodeTableCommands := by
  refine ⟨?_, ?_, ?_, ?_, ?_, ?_, ?_⟩
  · intro s port i h hi run free typed sole
    refine Completes.effect rfl h ?_
    have win := s.hostWrote_win port false NTB_CMD_OP.addr
    obtain ⟨provision, -⟩ := State.ntbCmd_taken ((State.rd_ntbEn_hostWrote s port NTB_CMD_OP.addr).trans run) i
    generalize s.hostWrote port false NTB_CMD_OP.addr = u at win provision ⊢
    have ext j : u.entExt j = s.entExt j := State.ent_congr win _ _ _
    have type j : u.entType j = s.entType j := State.ent_congr win _ _ _
    have free' : u.entByte i = 0 := (State.entByte_congr win i).trans free
    have enters := State.ntbProvision_granted free' (by rwa [type]) (by simpa only [ext, type, State.usedEntries_congr win] using sole)
    rw [provision, enters]
    have same : ((u.ntbEnter i).ntbResult i 0).win = (u.ntbEnter i).win := State.ntbResult_win _ _ _
    refine ⟨?_, fun k hk => ?_, fun k hk => ?_, State.rd_ntbResult_quiet _ (Or.inl rfl), ?_⟩
    · rw [State.entByte_congr same, State.ntbEnter_entByte u hi]
    · rw [State.ent_congr same, State.ntbEnter_temperature u hi hk]
    · rw [State.ent_congr same, State.ntbEnter_groups u hk]
    · exact ((OnlyBytes.of_win win).trans (State.ntbEnter_bytes free' hi)).congr same
  · intro s port i h hi run used
    refine Completes.effect rfl h ?_
    have win := s.hostWrote_win port false NTB_CMD_OP.addr
    obtain ⟨-, block, -⟩ := State.ntbCmd_taken ((State.rd_ntbEn_hostWrote s port NTB_CMD_OP.addr).trans run) i
    generalize s.hostWrote port false NTB_CMD_OP.addr = u at win block ⊢
    have used' : u.entByte i ≠ 0 := by rwa [State.entByte_congr win]
    rw [block, State.ntbBlock, if_neg used']
    have same : ((u.setEntState i 5).ntbResult i 0).win = (u.setEntState i 5).win := State.ntbResult_win _ _ _
    refine ⟨?_, State.rd_ntbResult_quiet _ (Or.inl rfl), fun joined => ?_, ?_⟩
    · rw [State.entByte_congr same, State.setEntState_entByte u (by decide)]
    · rw [State.dstate_congr same, State.setEntState_dstate (by rwa [State.entByte_congr win]) (by decide) hi, State.dstate_congr win]
    · rw [← State.entByte_congr win]
      exact ((OnlyBytes.of_win win).trans (State.setEntState_bytes u 5 hi)).congr same
  · intro s port i h hi run blocked
    refine Completes.effect rfl h ?_
    have win := s.hostWrote_win port false NTB_CMD_OP.addr
    obtain ⟨-, -, unblock, -⟩ := State.ntbCmd_taken ((State.rd_ntbEn_hostWrote s port NTB_CMD_OP.addr).trans run) i
    generalize s.hostWrote port false NTB_CMD_OP.addr = u at win unblock ⊢
    have blocked' : u.entByte i = 5 := (State.entByte_congr win i).trans blocked
    rw [unblock, State.ntbUnblock, if_pos blocked']
    have same : ((u.setEntState i 1).ntbResult i 0).win = (u.setEntState i 1).win := State.ntbResult_win _ _ _
    refine ⟨?_, State.rd_ntbResult_quiet _ (Or.inl rfl), fun q a hq ha out => ?_⟩
    · rw [State.entByte_congr same, State.setEntState_entByte u (by decide)]
    · rw [State.w8_congr same, ← State.w8_congr win]
      exact State.setEntState_bytes u 1 hi q a hq ha fun ⟨page, byte⟩ => out ⟨page, byte.resolve_right fun joined => by omega⟩
  · intro s port i h hi run
    refine Completes.effect rfl h ?_
    have win := s.hostWrote_win port false NTB_CMD_OP.addr
    obtain ⟨-, -, -, free, -⟩ := State.ntbCmd_taken ((State.rd_ntbEn_hostWrote s port NTB_CMD_OP.addr).trans run) i
    generalize s.hostWrote port false NTB_CMD_OP.addr = u at win free ⊢
    rw [free]
    refine ⟨fun k hk => State.ntbFree_zero u hk, State.rd_ntbResult_quiet _ (Or.inl rfl), ?_,
      (OnlyBytes.of_win win).trans (State.ntbFree_bytes u hi)⟩
    change i ∉ u.ntbBad.filter (· != i)
    simp
  · intro s port i h hi run
    refine Completes.effect rfl h ?_
    have win := s.hostWrote_win port false NTB_CMD_OP.addr
    obtain ⟨-, -, -, -, clear⟩ := State.ntbCmd_taken ((State.rd_ntbEn_hostWrote s port NTB_CMD_OP.addr).trans run) i
    generalize s.hostWrote port false NTB_CMD_OP.addr = u at win clear ⊢
    rw [clear]
    obtain ⟨run0, fails0, counts0⟩ := State.ntbClearHealth_zero u hi
    exact ⟨run0, fails0, counts0, State.rd_ntbResult_quiet _ (Or.inl rfl), (OnlyBytes.of_win win).trans (State.ntbClearHealth_bytes u hi)⟩
  · intro s port i c h hi run wrong
    have win := s.hostWrote_win port false NTB_CMD_OP.addr
    have state := State.entByte_congr win i
    obtain ⟨provision, block, unblock, -⟩ := State.ntbCmd_taken ((State.rd_ntbEn_hostWrote s port NTB_CMD_OP.addr).trans run) i
    have refused := State.ntbResult_refused (s.hostWrote port false NTB_CMD_OP.addr) hi
    rw [win] at refused
    rcases wrong with ⟨rfl, used⟩ | ⟨rfl, free⟩ | ⟨rfl, other⟩
    · exact Completes.effect rfl h (by rwa [provision, State.ntbProvision, if_pos (by rwa [state])])
    · exact Completes.effect rfl h (by rwa [block, State.ntbBlock, if_pos (by rwa [state])])
    · exact Completes.effect rfl h (by rwa [unblock, State.ntbUnblock, if_neg (by rwa [state])])
  · intro s port i c h hi stopped mem
    have stopped' := (State.rd_ntbEn_hostWrote s port NTB_CMD_OP.addr).trans stopped
    have post : ∀ op, ((s.hostWrote port false NTB_CMD_OP.addr).ntbCmd i op).rd NTB_CMD_STAT_RESULT = 5 ∧
        ((s.hostWrote port false NTB_CMD_OP.addr).ntbCmd i op).win = s.win ∧
        ((s.hostWrote port false NTB_CMD_OP.addr).ntbCmd i op).ntbBad = s.ntbBad := by
      intro op
      rw [State.ntbCmd, State.ntbCommand_stopped stopped']
      exact ⟨State.rd_ntbResult_quiet _ (Or.inr rfl), by simp, by rw [State.ntbResult_quiet _ (Or.inr rfl)]; simp⟩
    simp only [List.mem_cons, List.not_mem_nil, or_false] at mem
    rcases mem with rfl | rfl | rfl | rfl | rfl
    · exact Completes.effect rfl h (post 1)
    · exact Completes.effect rfl h (post 2)
    · exact Completes.effect rfl h (post 3)
    · exact Completes.effect rfl h (post 4)
    · exact Completes.effect rfl h (post 5)

/-! ### The lookup and the word writes -/

theorem State.ntbFindHi_spec {s : State} {w : Nat} (hw : w < 2 ^ 32) (run : s.rd NTB_CTRL_EN = 1) :
    (s.ntbFindHi w).rd NTB_FIND_HI = w ∧ (s.ntbFindHi w).win = s.win ∧
    match s.usedEntries.find? (fun i => s.entExt i == s.rd NTB_FIND_LO + 2 ^ 32 * w) with
    | some i => (s.ntbFindHi w).rd NTB_FIND_RES_FOUND = 1 ∧ (s.ntbFindHi w).rd NTB_FIND_RES_INDEX = i % 2 ^ 13
    | none => (s.ntbFindHi w).rd NTB_FIND_RES_FOUND = 0 := by
  have enabled : (s.wr NTB_FIND_HI w).rdB NTB_CTRL_EN = true := by
    rw [State.rdB, State.rd_wr_ne _ _ (by decide), run]; rfl
  have looks : (s.wr NTB_FIND_HI w).ntbFind ((s.wr NTB_FIND_HI w).rd NTB_FIND_LO + 2 ^ 32 * (s.wr NTB_FIND_HI w).rd NTB_FIND_HI) =
      s.usedEntries.find? (fun i => s.entExt i == s.rd NTB_FIND_LO + 2 ^ 32 * w) := by
    rw [State.rd_wr_of_lt s hw, State.rd_wr_ne _ _ (by decide)]; rfl
  simp only [State.ntbFindHi, enabled, looks, Bool.not_true, Bool.false_eq_true, if_false]
  cases s.usedEntries.find? (fun i => s.entExt i == s.rd NTB_FIND_LO + 2 ^ 32 * w) with
  | none =>
    exact ⟨by rw [State.rd_wr_ne _ _ (by decide), State.rd_wr_of_lt s hw], rfl, State.rd_wr_of_lt _ (by decide)⟩
  | some i =>
    refine ⟨?_, rfl, State.rd_wr_of_lt _ (by decide), ?_⟩
    · rw [State.rd_wr_ne _ _ (by decide), State.rd_wr_ne _ _ (by decide), State.rd_wr_of_lt s hw]
    · rw [State.rd_wr_ne _ _ (by decide), State.rd_wr_self]

/-- What a word write leaves in the windows: the four bytes after the locks (R193). -/
theorem State.ntbWordWrite_win (s : State) (off w : Nat) :
    (s.ntbWordWrite off w).win = (s.setBytes 0x05 (256 * (off / 256) + off % 256 / 4 * 4)
      ([0, 1, 2, 3].map fun k => s.ntbByteAfter (off / 256) (off % 256 / 4 * 4 + k) (octet w k))).win := by
  rw [State.ntbWordWrite]
  split
  · exact State.ntbErr_win _ _ _
  · rfl

theorem State.ntbWordWrite_byte (s : State) (off w : Nat) {k : Nat} (hk : k < 4) :
    (s.ntbWordWrite off w).w8 0x05 (256 * (off / 256) + off % 256 / 4 * 4 + k) =
      s.ntbByteAfter (off / 256) (off % 256 / 4 * 4 + k) (octet w k) % 256 := by
  rw [State.w8_congr (State.ntbWordWrite_win s off w), State.w8_setBytes_inside _ (by omega) (by simp; omega), Nat.add_sub_cancel_left]
  interval_cases k <;> rfl

theorem State.ntbByteAfter_locked {s : State} {i o v : Nat} (lock : ntbLockByte o = true) (used : s.entState i ≠ 0) (live : s.entState i ≠ 1) :
    s.ntbByteAfter i o v = s.w8 0x05 (256 * i + o) := by
  rw [State.ntbByteAfter, ← State.ent_one]
  simp [lock, used, live]

theorem State.ntbWordWrite_bad (s : State) (off w : Nat) : (s.ntbWordWrite off w).ntbBad = s.ntbBad.filter (· != off / 256) := by
  rw [State.ntbWordWrite]
  split
  · simp [State.ntbErr, State.setBytes]
  · rfl

theorem State.ntbWordWrite_err {s : State} {off w : Nat} (hoff : off < 2 ^ 21)
    (h : ∃ k, k < 4 ∧ s.ntbLockedChange (off / 256) (off % 256 / 4 * 4 + k) (octet w k) = true) :
    (s.ntbWordWrite off w).rd NTB_ERR_INDEX = off / 256 ∧ (s.ntbWordWrite off w).rd NTB_ERR_REASON = 1 ∧
    Noted NTB_NOTE_CFG_ERR (s.ntbWordWrite off w) := by
  have err : ([0, 1, 2, 3].any fun k => s.ntbLockedChange (off / 256) (off % 256 / 4 * 4 + k) (octet w k)) = true := by
    obtain ⟨k, hk, change⟩ := h
    exact List.any_eq_true.mpr ⟨k, by interval_cases k <;> simp, change⟩
  simp only [State.ntbWordWrite, err, if_true]
  exact State.ntbErr_shows _ (by omega) (by decide)

/-- Settles O17: the lookup reads the table as it stands, and a word write is one write of four bytes. -/
theorem nodeTableLookupAndWrites : Obligations.NodeTableLookupAndWrites := by
  refine ⟨?_, ?_⟩
  · intro s port w h wf run
    refine Completes.effect rfl h ?_
    have win := s.hostWrote_win port false NTB_FIND_HI.addr
    have lo : (s.hostWrote port false NTB_FIND_HI.addr).rd NTB_FIND_LO = s.rd NTB_FIND_LO :=
      State.rd_hostWrote_ne _ _ _ _ (by decide) (by decide)
    have spec := State.ntbFindHi_spec (w := w) wf ((State.rd_ntbEn_hostWrote s port NTB_FIND_HI.addr).trans run)
    have ext j : (s.hostWrote port false NTB_FIND_HI.addr).entExt j = s.entExt j := State.ent_congr win _ _ _
    simp only [win, lo, ext, State.usedEntries_congr win] at spec
    exact spec
  · intro s port off w h wf
    obtain ⟨hoff, -⟩ := wf
    have win := s.hostWrote_win port true (winAddr 0x05 off)
    have bad := s.hostWrote_ntbBad port true (winAddr 0x05 off)
    refine Completes.working rfl h ?_
    dsimp only
    rw [if_pos (State.pageRuns_of_atWork h)]
    generalize s.hostWrote port true (winAddr 0x05 off) = u at win bad ⊢
    have state i : u.entState i = s.entState i := by rw [State.entState, State.entState, bad, State.entByte_congr win]
    have after i o v : u.ntbByteAfter i o v = s.ntbByteAfter i o v := by
      simp only [State.ntbByteAfter, State.ent_congr win, state]
    have changed i o v : u.ntbLockedChange i o v = s.ntbLockedChange i o v := by
      simp only [State.ntbLockedChange, State.ent_congr win, state]
    refine ⟨fun k hk => ?_, fun k hk lock used live => ?_, fun q a hq ha out => ?_, fun ⟨k, hk, change⟩ => ?_, ?_⟩
    · rw [← after, State.ntbWordWrite_byte u off w hk]
    · rw [State.ntbWordWrite_byte u off w hk, after, State.ntbByteAfter_locked lock used live, ← Nat.add_assoc, Nat.mod_eq_of_lt (State.w8_lt _ _ _)]
    · rw [State.w8_congr (State.ntbWordWrite_win u off w), State.w8_setBytes_outside ha (by simp; omega) (by simpa using out), State.w8_congr win]
    · exact State.ntbWordWrite_err hoff ⟨k, hk, by rwa [changed]⟩
    · rw [State.ntbWordWrite_bad, bad]

end Sys2Proof.Machine
end

section
/-! SUPPORT. Saves of the store, their end, and CLEAR (O54). -/

namespace Sys2Proof.Machine

/-! ### Parts that notices and events leave alone -/

theorem State.msixSend_eq (s : State) (v : Nat) : ∃ r e, s.msixSend v = { s with regs := r, emitted := e } := by
  rw [State.msixSend]
  split
  · exact ⟨_, _, rfl⟩
  · exact ⟨_, _, rfl⟩

/-- A notice changes registers and what has left the module, nothing else. -/
theorem State.notice_eq (s : State) (n : Notice) : ∃ r e, s.notice n = { s with regs := r, emitted := e } := by
  rw [State.notice]
  split
  · rw [State.vectorEdge]
    split
    · obtain ⟨r, e, sent⟩ := State.msixSend_eq (s.wr (NOTE_RAW n.page) (setBit (s.rd (NOTE_RAW n.page)) n.bit)) (s.route n.page % 32)
      exact ⟨r, e, sent⟩
    · exact ⟨_, _, rfl⟩
  · exact ⟨_, _, rfl⟩

/-- An event for the Silt recorder changes registers, what has left the module and the intake, nothing else. -/
theorem State.silt_eq (s : State) (c p0 p1 p2 p3 : Nat) :
    ∃ r e i, s.silt c p0 p1 p2 p3 = { s with regs := r, emitted := e, siltIntake := i } := by
  rw [State.silt]
  split
  · exact ⟨_, _, _, rfl⟩
  · obtain ⟨r, e, noted⟩ := State.notice_eq (s.countSat SLT_LOST 1) SLT_NOTE_LOST
    exact ⟨r, e, _, noted⟩

theorem State.rd_count_ne (s : State) {f g : Field} (d : Nat) (h : g.key ≠ f.key) : (s.count f d).rd g = s.rd g := State.rd_wr_ne _ _ h

theorem State.rd_count_self (s : State) (f : Field) (d : Nat) : (s.count f d).rd f = (s.rd f + d) % 2 ^ f.width := State.rd_wr_self _ _ _

/-! ### What a save keeps -/

theorem Sparse.filter_insert {α : Type} {P : Nat × α → Bool} {k : Nat} (out : ∀ v, P (k, v) = false) (l : List (Nat × α)) (v : α) :
    (Sparse.insert l k v).filter P = l.filter P := by
  induction l with
  | nil => simp [Sparse.insert, out]
  | cons x l ih =>
    obtain ⟨k', v'⟩ := x
    rw [Sparse.insert]
    split
    · simp [out]
    · split
      · next same => subst same; simp [out]
      · simp [List.filter_cons, ih]

theorem Sparse.filter_erase {α : Type} {P : Nat × α → Bool} {k : Nat} (out : ∀ v, P (k, v) = false) (l : List (Nat × α)) :
    (Sparse.erase l k).filter P = l.filter P := by
  induction l with
  | nil => rfl
  | cons x l ih =>
    obtain ⟨k', v'⟩ := x
    rw [Sparse.erase]
    split
    · next same => subst same; simp [out, ih]
    · simp [List.filter_cons, ih]

theorem State.storedRegs_wr (s : State) {f : Field} (v : Nat) (h : storedKeys.contains f.key = false) :
    (s.wr f v).storedRegs = s.storedRegs := by
  simp only [State.storedRegs, State.wr, Regs.put]
  split
  · exact Sparse.filter_erase (fun _ => h) _
  · exact Sparse.filter_insert (fun _ => h) _ _

theorem State.storedRegs_congr {s t : State} (h : t.regs = s.regs) : t.storedRegs = s.storedRegs := by
  rw [State.storedRegs, State.storedRegs, h]

theorem State.storedRegs_notice (s : State) (n : Notice) (raw : storedKeys.contains (NOTE_RAW n.page).key = false) :
    (s.notice n).storedRegs = s.storedRegs := by
  have sends : ∀ (u : State) v, (u.msixSend v).storedRegs = u.storedRegs := by
    intro u v
    rw [State.msixSend]
    split
    · exact State.storedRegs_congr rfl
    · exact State.storedRegs_wr _ _ (by decide +kernel)
  rw [State.notice]
  split
  · rw [State.vectorEdge]
    split
    · rw [sends, State.storedRegs_wr _ _ raw]
    · exact State.storedRegs_wr _ _ raw
  · exact State.storedRegs_wr _ _ raw

theorem State.storedRegs_hostWrote (s : State) (port : Port) (a : Nat) : (s.hostWrote port false a).storedRegs = s.storedRegs := by
  rw [State.hostWrote]
  split
  · rw [State.storedRegs_notice _ _ (by decide +kernel)]
    cases port <;> rfl
  · rfl

theorem State.snapshot_hostWrote (s : State) (port : Port) (a seq : Nat) :
    (s.hostWrote port false a).snapshot seq = s.snapshot seq := by
  have win : (s.hostWrote port false a).storedWin = s.storedWin := by
    have active : (s.hostWrote port false a).rd DRF_GRAPH_ACTIVE = s.rd DRF_GRAPH_ACTIVE :=
      State.rd_hostWrote_ne _ _ _ _ (by decide) (by decide)
    simp only [State.storedWin, State.hostWrote_win]
    congr 2
    funext c
    simp only [State.storedByte, active]
  simp only [State.snapshot, State.storedRegs_hostWrote, win, State.epoch, State.hostWrote_time, State.hostWrote_siv,
    State.rd_hostWrote_ne s port false a (f := CLM_CFG_ID) (by decide) (by decide)]

/-! ### Requests -/

/-- What a request for a save leaves, by the state it finds (R556, R557). -/
def SaveAsked (s t : State) : Prop :=
  if s.modes.life = .returned ∨ s.modes.life = .scrapped then t.rd MRL_CMD_STAT_RESULT = 1 ∧ t.mrl = s.mrl
  else if s.mrl.saving.isSome = true then t.rd MRL_STATUS_PENDING = 1 ∧ t.rd MRL_CMD_STAT_RESULT = 0 ∧ t.mrl = s.mrl
  else if s.startup.pwrGood = false then t.rd MRL_STATUS_PENDING = 1 ∧ t.rd MRL_CMD_STAT_RESULT = 2 ∧ t.mrl = s.mrl
  else
    let b := s.saveTarget.1
    let snap := s.snapshot s.saveTarget.2
    if 4194240 < snap.len then t.rd MRL_CMD_STAT_RESULT = 3 ∧ t.mrl = s.mrl ∧ Noted MRL_NOTE_SAVE_FAIL t
    else
      t.rd MRL_CMD_STAT_RESULT = 0 ∧ t.mrl.saving = some (b, snap) ∧ t.bank b = none ∧ t.bank (1 - b) = s.bank (1 - b) ∧ b < 2 ∧
      newestOf s.mrl.banks ≠ some b

theorem newestOf_lt {l : List (Option StoreBank)} {b : Nat} (h : newestOf l = some b) : b < 2 := by
  unfold newestOf at h
  split at h
  · split at h
    · cases h; decide
    · split at h <;> (cases h; decide)
  · cases h; decide
  · cases h; decide
  · cases h

theorem State.saveTarget_other (s : State) : s.saveTarget.1 < 2 ∧ newestOf s.mrl.banks ≠ some s.saveTarget.1 := by
  rw [State.saveTarget]
  cases newest : newestOf s.mrl.banks with
  | none => simp
  | some b =>
    have := newestOf_lt newest
    simp only [ne_eq, Option.some.injEq]
    omega

theorem State.saveStart_spec (s : State) :
    if 4194240 < (s.snapshot s.saveTarget.2).len then
      s.saveStart.rd MRL_CMD_STAT_RESULT = 3 ∧ s.saveStart.mrl = s.mrl ∧ Noted MRL_NOTE_SAVE_FAIL s.saveStart
    else
      s.saveStart.rd MRL_CMD_STAT_RESULT = 0 ∧ s.saveStart.mrl.saving = some (s.saveTarget.1, s.snapshot s.saveTarget.2) ∧
      s.saveStart.bank s.saveTarget.1 = none ∧ s.saveStart.bank (1 - s.saveTarget.1) = s.bank (1 - s.saveTarget.1) := by
  obtain ⟨small, -⟩ := s.saveTarget_other
  rw [State.saveStart]
  by_cases large : 4194240 < (s.snapshot s.saveTarget.2).len
  · simp only [large, if_true]
    refine ⟨?_, by simp, State.noted_notice _ MRL_NOTE_SAVE_FAIL (by decide)⟩
    rw [State.rd_notice_ne _ MRL_NOTE_SAVE_FAIL (by decide) (by decide), State.rd_wr_of_lt _ (by decide)]
  · simp only [large, if_false]
    refine ⟨State.rd_wr_of_lt _ (by decide), rfl, ?_, ?_⟩
    · exact (getD_putAt none _ _ none none small).trans (if_pos rfl)
    · exact (getD_putAt none _ _ none none (by omega)).trans (if_neg (by omega))

theorem State.saveRequest_spec (s : State) : SaveAsked s s.saveRequest := by
  rw [SaveAsked, State.saveRequest]
  by_cases ended : s.modes.life = .returned ∨ s.modes.life = .scrapped
  · rw [if_pos ended, if_pos ended]
    exact ⟨State.rd_wr_of_lt _ (by decide), rfl⟩
  rw [if_neg ended, if_neg ended]
  have pends (v : Nat) (hv : v < 8) : (s.wrAll [(MRL_STATUS_PENDING, 1), (MRL_CMD_STAT_RESULT, v)]).rd MRL_STATUS_PENDING = 1 ∧
      (s.wrAll [(MRL_STATUS_PENDING, 1), (MRL_CMD_STAT_RESULT, v)]).rd MRL_CMD_STAT_RESULT = v := by
    refine ⟨?_, State.rd_wr_of_lt _ hv⟩
    exact (State.rd_wr_ne _ _ (by decide)).trans (State.rd_wr_of_lt _ (by decide))
  by_cases saving : s.mrl.saving.isSome = true
  · rw [if_pos saving, if_pos saving]
    exact ⟨(pends 0 (by decide)).1, (pends 0 (by decide)).2, rfl⟩
  rw [if_neg saving, if_neg saving]
  by_cases power : s.startup.pwrGood = false
  · rw [if_pos power, if_pos (by rw [power]; rfl)]
    exact ⟨(pends 2 (by decide)).1, (pends 2 (by decide)).2, rfl⟩
  rw [if_neg power, if_neg (c := (!s.startup.pwrGood) = true) (by simpa using power)]
  have start := s.saveStart_spec
  have target := s.saveTarget_other
  by_cases large : 4194240 < (s.snapshot s.saveTarget.2).len
  · rw [if_pos large] at start ⊢
    exact start
  · rw [if_neg large] at start ⊢
    obtain ⟨result, saves, gone, other⟩ := start
    exact ⟨result, saves, gone, other, target⟩

theorem SaveAsked.of_hostWrote {s t : State} {port : Port} {a : Nat} (h : SaveAsked (s.hostWrote port false a) t) : SaveAsked s t := by
  have target : (s.hostWrote port false a).saveTarget = s.saveTarget := by
    simp only [State.saveTarget, State.bank, State.hostWrote_mrl]
  simpa only [SaveAsked, target, State.snapshot_hostWrote, State.bank, State.hostWrote_mrl, State.hostWrote_modes,
    State.hostWrote_startup] using h

/-! ### The end of a save -/

theorem State.savePending_idle {s : State} (h : s.rd MRL_STATUS_PENDING = 0) : s.savePending = s := by
  rw [State.savePending, if_neg (by rw [State.rdB, h]; decide)]

theorem State.saveDone_good {s : State} {b : Nat} {snap : StoreBank} (saving : s.mrl.saving = some (b, snap)) (hb : b < 2)
    (idle : s.rd MRL_STATUS_PENDING = 0) :
    (s.saveDone true).mrl.saving = none ∧ (s.saveDone true).bank b = some snap ∧ (s.saveDone true).bank (1 - b) = s.bank (1 - b) ∧
    (s.saveDone true).rd MRL_STATUS_EMPTY = 0 ∧ (s.saveDone true).rd MRL_SAVES = (s.rd MRL_SAVES + 1) % 2 ^ 32 ∧
    Noted MRL_NOTE_SAVED (s.saveDone true) := by
  let u : State := ({ s with mrl := ⟨putAt 2 none s.mrl.banks b (some snap), none⟩ }.wr MRL_STATUS_EMPTY 0).count MRL_SAVES 1
  have done : s.saveDone true = u.notice MRL_NOTE_SAVED := by
    rw [State.saveDone, saving]
    refine State.savePending_idle ?_
    rw [if_pos rfl, State.rd_notice_ne _ MRL_NOTE_SAVED (by decide) (by decide), State.rd_count_ne _ _ (by decide),
      State.rd_wr_ne _ _ (by decide)]
    exact idle
  have mrl : (s.saveDone true).mrl = ⟨putAt 2 none s.mrl.banks b (some snap), none⟩ := by rw [done]; simp [u]
  refine ⟨by rw [mrl], ?_, ?_, ?_, ?_, by rw [done]; exact State.noted_notice _ MRL_NOTE_SAVED (by decide)⟩
  · rw [State.bank, mrl]
    exact (getD_putAt none _ _ (some snap) none hb).trans (if_pos rfl)
  · rw [State.bank, mrl]
    exact (getD_putAt none _ _ (some snap) none (by omega)).trans (if_neg (by omega))
  · rw [done, State.rd_notice_ne _ MRL_NOTE_SAVED (by decide) (by decide), State.rd_count_ne _ _ (by decide),
      State.rd_wr_of_lt _ (by decide)]
  · rw [done, State.rd_notice_ne _ MRL_NOTE_SAVED (by decide) (by decide), State.rd_count_self, State.rd_wr_ne _ _ (by decide)]
    rfl

theorem State.saveDone_bad {s : State} {b : Nat} {snap : StoreBank} (saving : s.mrl.saving = some (b, snap)) (hb : b < 2)
    (idle : s.rd MRL_STATUS_PENDING = 0) :
    (s.saveDone false).mrl.saving = none ∧ (s.saveDone false).bank b = none ∧ (s.saveDone false).bank (1 - b) = s.bank (1 - b) ∧
    (s.saveDone false).rd MRL_CMD_STAT_RESULT = 5 ∧ (s.saveDone false).rd MRL_SAVES = s.rd MRL_SAVES ∧
    Noted MRL_NOTE_SAVE_FAIL (s.saveDone false) ∧ Recorded 0x2101 (s.saveDone false) := by
  let u : State := { s with mrl := ⟨putAt 2 none s.mrl.banks b none, none⟩ }.wr MRL_CMD_STAT_RESULT 5
  have fields (f : Field) (raw : f.key ≠ (NOTE_RAW 0x21).key) (pba : f.key ≠ MSIX_PBA.key) (lost : f.key ≠ SLT_LOST.key)
      (slt : f.key ≠ (NOTE_RAW 0x1E).key) :
      ((u.notice MRL_NOTE_SAVE_FAIL).silt 0x2101 b snap.seq 5).rd f = u.rd f := by
    rw [State.rd_silt_ne _ _ _ _ _ _ lost slt pba, State.rd_notice_ne _ MRL_NOTE_SAVE_FAIL raw pba]
  have done : s.saveDone false = (u.notice MRL_NOTE_SAVE_FAIL).silt 0x2101 b snap.seq 5 := by
    rw [State.saveDone, saving]
    refine State.savePending_idle ?_
    change ((u.notice MRL_NOTE_SAVE_FAIL).silt 0x2101 b snap.seq 5).rd _ = 0
    rw [fields _ (by decide) (by decide) (by decide) (by decide), State.rd_wr_ne _ _ (by decide)]
    exact idle
  have mrl : (s.saveDone false).mrl = ⟨putAt 2 none s.mrl.banks b none, none⟩ := by
    obtain ⟨r, e, i, silt⟩ := State.silt_eq (u.notice MRL_NOTE_SAVE_FAIL) 0x2101 b snap.seq 5 0
    rw [done, silt]
    exact State.notice_mrl u MRL_NOTE_SAVE_FAIL
  refine ⟨by rw [mrl], ?_, ?_, ?_, ?_, ?_, by rw [done]; exact State.recorded_silt _ _ _ _ _ _⟩
  · rw [State.bank, mrl]
    exact (getD_putAt none _ _ none none hb).trans (if_pos rfl)
  · rw [State.bank, mrl]
    exact (getD_putAt none _ _ none none (by omega)).trans (if_neg (by omega))
  · rw [done, fields _ (by decide) (by decide) (by decide) (by decide), State.rd_wr_of_lt _ (by decide)]
  · rw [done, fields _ (by decide) (by decide) (by decide) (by decide), State.rd_wr_ne _ _ (by decide)]
    rfl
  · rw [done]
    exact Noted.congr (n := MRL_NOTE_SAVE_FAIL) (State.noted_notice u MRL_NOTE_SAVE_FAIL (by decide))
      (State.rd_silt_ne _ _ _ _ _ _ (by decide) (by decide) (by decide))

/-- Settles O54: a request and the end of a save by the case that each finds. -/
theorem storeSaves : Obligations.StoreSaves := by
  refine ⟨fun s h => ⟨fun port => ?_, fun auto => ?_⟩, fun s h off => ?_, fun s ok h idle => ?_, fun s b snap h saving hb idle => ⟨?_, ?_⟩,
    fun s port key h hk => ?_⟩
  · exact Completes.effect rfl h (State.saveRequest_spec _).of_hostWrote
  · refine Completes.working rfl h ?_
    rw [if_pos (by rw [State.rdB, auto]; rfl)]
    exact State.saveRequest_spec s
  · refine Completes.working rfl h ?_
    rw [if_neg (by rw [State.rdB, off]; decide)]
  · refine Completes.working rfl h ?_
    rw [State.saveDone, idle]
  · exact Completes.working rfl h (State.saveDone_good saving hb idle)
  · exact Completes.working rfl h (State.saveDone_bad saving hb idle)
  · refine Completes.effect rfl h ?_
    rw [State.storeClear, State.hostWrote_modes]
    split
    · exact ⟨State.rd_wr_of_lt _ (by decide), by simp⟩
    · split
      · exact ⟨State.rd_wr_of_lt _ (by decide), by simp⟩
      · refine ⟨State.rd_wr_of_lt _ (by decide), rfl, rfl, ?_⟩
        exact (State.rd_wr_ne _ _ (by decide)).trans (State.rd_wr_of_lt _ (by decide))

end Sys2Proof.Machine
end

section
/-! SUPPORT. Commands of the address table, its ageing, and MDIO transactions (O49). -/

namespace Sys2Proof.Machine

/-! ### What a host write leaves alone -/

/-- A host write takes nothing back that has left the module. -/
theorem State.hostWrote_sent (s : State) (port : Port) (b : Bool) (a : Nat) : ∃ l, (s.hostWrote port b a).emitted = s.emitted ++ l := by
  obtain ⟨l, h⟩ := (State.hostWrote_kept (T := fun _ => True) (.refl s) port b a (.all fun _ => trivial)).emitted
  exact ⟨l, h.symm⟩

theorem State.moduleTime_hostWrote (s : State) (port : Port) (b : Bool) (a : Nat) :
    (s.hostWrote port b a).moduleTime = s.moduleTime := by
  have rate : (s.hostWrote port b a).rd TIM_RATE = s.rd TIM_RATE := State.rd_hostWrote_ne _ _ _ _ (by decide) (by decide)
  simp only [State.moduleTime, State.moduleTimeAt, State.rate, State.rdS, rate, State.hostWrote_time]

/-! ### The address table -/

theorem State.fdbFind_congr {s t : State} (h : t.swf = s.swf) (mac vid : Nat) : t.fdbFind mac vid = s.fdbFind mac vid := by
  rw [State.fdbFind, State.fdbFind, h]

theorem State.fdbPlace_congr {s t : State} (h : t.swf = s.swf) (mac vid : Nat) : t.fdbPlace mac vid = s.fdbPlace mac vid := by
  simp only [State.fdbPlace, h]

theorem State.fdbResult_swf (s : State) (r : Nat) (index : Option Nat) : (s.fdbResult r index).swf = s.swf := by
  cases index <;> rfl

theorem State.rd_fdbResult (s : State) {r : Nat} (hr : r < 8) (index : Option Nat) : (s.fdbResult r index).rd SWF_FDB_STAT_RESULT = r := by
  cases index with
  | none => exact State.rd_wr_of_lt _ hr
  | some i => exact (State.rd_wr_ne _ _ (by decide)).trans (State.rd_wr_of_lt _ hr)

theorem State.rd_fdbResult_index (s : State) (r i : Nat) : (s.fdbResult r (some i)).rd SWF_FDB_STAT_INDEX = i % 2 ^ 14 :=
  State.rd_wr_self _ _ _

theorem State.rd_fdbResult_ne (s : State) (r : Nat) (index : Option Nat) {f : Field} (h : f.key ≠ SWF_FDB_STAT_RESULT.key)
    (k : f.key ≠ SWF_FDB_STAT_INDEX.key) : (s.fdbResult r index).rd f = s.rd f := by
  cases index with
  | none => exact State.rd_wr_ne _ _ h
  | some i => exact (State.rd_wr_ne _ _ k).trans (State.rd_wr_ne _ _ h)

/-- A table put in place, and the result of the command that put it. -/
theorem State.setFdb_result (s : State) (l : List (Nat × FdbEntry)) (index : Option Nat) :
    ((s.setFdb l).fdbResult 0 index).swf.fdb = l ∧ ((s.setFdb l).fdbResult 0 index).rd SWF_FDB_STAT_RESULT = 0 ∧
    ((s.setFdb l).fdbResult 0 index).rd SWF_FDB_USED = l.length % 2 ^ 15 := by
  refine ⟨by rw [State.fdbResult_swf]; rfl, State.rd_fdbResult _ (by decide) _, ?_⟩
  rw [State.rd_fdbResult_ne _ _ _ (by decide) (by decide)]
  exact State.rd_wr_self _ _ _

/-- What INSERT leaves, by the place that it finds (R388). -/
def FdbInserted (s t : State) (vid : Nat) : Prop :=
  let e : FdbEntry := ⟨s.fdbMac, vid, s.rd SWF_FDB_PORTS, true, s.time.raw, s.moduleTime⟩
  let put := fun (i : Nat) => t.swf.fdb = Sparse.insert s.swf.fdb i e ∧ t.rd SWF_FDB_STAT_RESULT = 0 ∧
    t.rd SWF_FDB_STAT_INDEX = i % 2 ^ 14 ∧ t.rd SWF_FDB_USED = t.swf.fdb.length % 2 ^ 15
  match s.fdbFind s.fdbMac vid with
  | some (i, _) => put i
  | none =>
    match s.fdbPlace s.fdbMac vid with
    | some i => put i
    | none => t.swf = s.swf ∧ t.rd SWF_FDB_STAT_RESULT = 1

theorem State.fdbInsert_spec (s : State) (vid : Nat) : FdbInserted s (s.fdbInsert vid) vid := by
  have put (i : Nat) (l : List (Nat × FdbEntry)) :
      ((s.setFdb l).fdbResult 0 (some i)).swf.fdb = l ∧ ((s.setFdb l).fdbResult 0 (some i)).rd SWF_FDB_STAT_RESULT = 0 ∧
      ((s.setFdb l).fdbResult 0 (some i)).rd SWF_FDB_STAT_INDEX = i % 2 ^ 14 ∧
      ((s.setFdb l).fdbResult 0 (some i)).rd SWF_FDB_USED = ((s.setFdb l).fdbResult 0 (some i)).swf.fdb.length % 2 ^ 15 := by
    obtain ⟨table, result, used⟩ := State.setFdb_result s l (some i)
    exact ⟨table, result, State.rd_fdbResult_index _ _ _, by rw [table, used]⟩
  rw [FdbInserted, State.fdbInsert]
  cases found : s.fdbFind s.fdbMac vid with
  | some p => exact put p.1 _
  | none =>
    cases place : s.fdbPlace s.fdbMac vid with
    | some i => exact put i _
    | none => exact ⟨State.fdbResult_swf _ _ _, State.rd_fdbResult _ (by decide) _⟩

theorem State.fdbMac_hostWrote (s : State) (port : Port) (a : Nat) : (s.hostWrote port false a).fdbMac = s.fdbMac := by
  rw [State.fdbMac, State.fdbMac, State.rd_hostWrote_ne _ _ _ _ (by decide) (by decide), State.rd_hostWrote_ne _ _ _ _ (by decide) (by decide)]

theorem FdbInserted.of_hostWrote {s t : State} {port : Port} {a vid : Nat} (h : FdbInserted (s.hostWrote port false a) t vid) :
    FdbInserted s t vid := by
  simpa only [FdbInserted, State.fdbMac_hostWrote, State.fdbFind_congr (s.hostWrote_swf port false a),
    State.fdbPlace_congr (s.hostWrote_swf port false a), State.moduleTime_hostWrote, State.hostWrote_time, State.hostWrote_swf,
    State.rd_hostWrote_ne s port false a (f := SWF_FDB_PORTS) (by decide) (by decide)] using h

theorem State.fdbFlush_spec (s : State) (p : FdbEntry → Bool) :
    (s.fdbFlush p).swf.fdb = s.swf.fdb.filter (fun e => e.2.static_ || !p e.2) ∧ (s.fdbFlush p).rd SWF_FDB_STAT_RESULT = 0 ∧
    (s.fdbFlush p).rd SWF_FDB_USED = (s.fdbFlush p).swf.fdb.length % 2 ^ 15 := by
  obtain ⟨table, result, used⟩ := State.setFdb_result s (s.swf.fdb.filter fun e => e.2.static_ || !p e.2) none
  exact ⟨table, result, used.trans (by rw [State.fdbFlush, table])⟩

theorem State.vlanInstance_hostWrote (s : State) (port : Port) (b : Bool) (a vid : Nat) :
    (s.hostWrote port b a).vlanInstance vid = s.vlanInstance vid := by
  have vlan : (s.hostWrote port b a).vlan vid = s.vlan vid := by
    rw [State.vlan, State.vlan, State.w32, State.w32, State.wN_congr (s.hostWrote_win port b a)]
  rw [State.vlanInstance, State.vlanInstance, State.vlanValid, State.vlanValid, vlan]

/-! ### MDIO -/

theorem State.mdioStart_spec (s : State) (op : Nat) (c45 : Bool) (phy reg : Nat) :
    if s.rd SWF_MDIO_CMD_BUSY = 1 then s.mdioStart op c45 phy reg = s
    else (s.mdioStart op c45 phy reg).rd SWF_MDIO_CMD_BUSY = 1 ∧
      (s.mdioStart op c45 phy reg).swf = { s.swf with mdioRead := Decidable.decide (2 ≤ op) } ∧
      (s.mdioStart op c45 phy reg).emitted = s.emitted ++ [.mdio op c45 phy reg (s.rd SWF_MDIO_DATA)] := by
  rw [State.mdioStart, State.rdB]
  by_cases busy : s.rd SWF_MDIO_CMD_BUSY = 1
  · simp only [busy, if_true, beq_self_eq_true]
  · simp only [busy, if_false, beq_iff_eq]
    exact ⟨State.rd_wr_of_lt (f := SWF_MDIO_CMD_BUSY) (v := 1) { s with swf := { s.swf with mdioRead := Decidable.decide (2 ≤ op) } }
      (by decide), rfl, rfl⟩

/-- What a command that starts a transaction leaves. -/
def MdioStarted (s t : State) (op : Nat) (c45 : Bool) (phy reg : Nat) : Prop :=
  if s.rd SWF_MDIO_CMD_BUSY = 1 then t.swf = s.swf ∧ t.rd SWF_MDIO_CMD_BUSY = 1
  else t.rd SWF_MDIO_CMD_BUSY = 1 ∧ t.swf = { s.swf with mdioRead := Decidable.decide (2 ≤ op) } ∧
    ∃ l, t.emitted = s.emitted ++ l ++ [.mdio op c45 phy reg (s.rd SWF_MDIO_DATA)]

theorem State.mdioStarted (s : State) (port : Port) (a op : Nat) (c45 : Bool) (phy reg : Nat) :
    MdioStarted s ((s.hostWrote port false a).mdioStart op c45 phy reg) op c45 phy reg := by
  have spec := State.mdioStart_spec (s.hostWrote port false a) op c45 phy reg
  have busy : (s.hostWrote port false a).rd SWF_MDIO_CMD_BUSY = s.rd SWF_MDIO_CMD_BUSY :=
    State.rd_hostWrote_ne _ _ _ _ (by decide) (by decide)
  have data : (s.hostWrote port false a).rd SWF_MDIO_DATA = s.rd SWF_MDIO_DATA :=
    State.rd_hostWrote_ne _ _ _ _ (by decide) (by decide)
  rw [busy, data, State.hostWrote_swf] at spec
  rw [MdioStarted]
  split
  · next is =>
    rw [if_pos is] at spec
    rw [spec]
    exact ⟨State.hostWrote_swf _ _ _ _, busy.trans is⟩
  · next free =>
    rw [if_neg free] at spec
    obtain ⟨starts, unit_, sent⟩ := spec
    obtain ⟨l, before⟩ := s.hostWrote_sent port false a
    exact ⟨starts, unit_, l, by rw [sent, before]⟩

theorem State.mdioEnd_spec (s : State) {data : Nat} (hd : data < 65536) :
    if s.rd SWF_MDIO_CMD_BUSY = 0 then s.mdioEnd data = s
    else (s.mdioEnd data).rd SWF_MDIO_CMD_BUSY = 0 ∧
      (s.mdioEnd data).rd SWF_MDIO_DATA = (if s.swf.mdioRead then data else s.rd SWF_MDIO_DATA) ∧
      Raises SWF_NOTE_MDIO_DONE s (s.mdioEnd data) ∧
      OnlyFields [SWF_MDIO_CMD_BUSY, SWF_MDIO_DATA, NOTE_RAW 0x10, MSIX_PBA] s (s.mdioEnd data) := by
  by_cases idle : s.rd SWF_MDIO_CMD_BUSY = 0
  · rw [if_pos idle, State.mdioEnd, State.rdB, idle]; rfl
  have busy : s.rd SWF_MDIO_CMD_BUSY = 1 := by
    have := State.rd_lt s SWF_MDIO_CMD_BUSY
    simp at this
    omega
  let u : State := if s.swf.mdioRead then (s.wr SWF_MDIO_CMD_BUSY 0).wr SWF_MDIO_DATA data else s.wr SWF_MDIO_CMD_BUSY 0
  have ends : s.mdioEnd data = u.notice SWF_NOTE_MDIO_DONE := by
    rw [State.mdioEnd, State.rdB, busy]; rfl
  have only : OnlyFields [SWF_MDIO_CMD_BUSY, SWF_MDIO_DATA, NOTE_RAW 0x10, MSIX_PBA] s u := by
    have first : OnlyFields [SWF_MDIO_CMD_BUSY, SWF_MDIO_DATA, NOTE_RAW 0x10, MSIX_PBA] s (s.wr SWF_MDIO_CMD_BUSY 0) :=
      (OnlyFields.refl _ s).wr 0 (by simp)
    by_cases read : s.swf.mdioRead <;> simp only [u, read, Bool.false_eq_true, if_true, if_false]
    · exact first.wr data (by simp)
    · exact first
  have raw : u.rd (NOTE_RAW 0x10) = s.rd (NOTE_RAW 0x10) := by
    by_cases read : s.swf.mdioRead <;> simp only [u, read, Bool.false_eq_true, if_true, if_false]
    · rw [State.rd_wr_ne _ _ (by decide), State.rd_wr_ne _ _ (by decide)]
    · rw [State.rd_wr_ne _ _ (by decide)]
  rw [if_neg idle, ends]
  refine ⟨?_, ?_, Raises.of_rd (State.raises_notice u SWF_NOTE_MDIO_DONE (by decide)) raw, only.notice _ (by simp) (by simp)⟩
  · rw [State.rd_notice_ne _ SWF_NOTE_MDIO_DONE (by decide) (by decide)]
    by_cases read : s.swf.mdioRead <;> simp only [u, read, Bool.false_eq_true, if_true, if_false]
    · rw [State.rd_wr_ne _ _ (by decide), State.rd_wr_of_lt _ (by decide)]
    · exact State.rd_wr_of_lt _ (by decide)
  · rw [State.rd_notice_ne _ SWF_NOTE_MDIO_DONE (by decide) (by decide)]
    by_cases read : s.swf.mdioRead <;> simp only [u, read, Bool.false_eq_true, if_true, if_false]
    · exact State.rd_wr_of_lt _ hd
    · exact State.rd_wr_ne _ _ (by decide)

/-- Settles O49: each command is one change of the table or of the transaction, and its result. -/
theorem addressTableAndMdio : Obligations.AddressTableAndMdio := by
  refine ⟨fun s port vid h hv => ?_, fun s port vid h hv => ⟨?_, ?_⟩, fun s port h => ⟨fun k hk => ?_, fun i hi => ?_, ?_⟩,
    fun s c h => ?_, fun s port phy reg c45 h hp hr => ⟨?_, ?_, ?_, ?_⟩, fun s data h hd => ?_⟩
  · exact Completes.effect rfl h (State.fdbInsert_spec _ vid).of_hostWrote
  · refine Completes.effect rfl h ?_
    have swf := s.hostWrote_swf port false SWF_FDB_CMD_OP.addr
    rw [State.fdbDelete, State.fdbMac_hostWrote, State.fdbFind_congr swf, swf]
    cases s.fdbFind s.fdbMac vid with
    | none => exact ⟨(State.fdbResult_swf _ _ _).trans swf, State.rd_fdbResult _ (by decide) _⟩
    | some p =>
      obtain ⟨table, result, -⟩ := State.setFdb_result (s.hostWrote port false SWF_FDB_CMD_OP.addr) (Sparse.erase s.swf.fdb p.1) (some p.1)
      exact ⟨table, result, State.rd_fdbResult_index _ _ _⟩
  · refine Completes.effect rfl h ?_
    have swf := s.hostWrote_swf port false SWF_FDB_CMD_OP.addr
    rw [State.fdbLookup, State.fdbMac_hostWrote, State.fdbFind_congr swf]
    cases s.fdbFind s.fdbMac vid with
    | none => exact ⟨(State.fdbResult_swf _ _ _).trans swf, State.rd_fdbResult _ (by decide) _⟩
    | some p => exact ⟨(State.fdbResult_swf _ _ _).trans swf, State.rd_fdbResult _ (by decide) _, State.rd_fdbResult_index _ _ _⟩
  · refine Completes.effect rfl h ?_
    obtain ⟨table, result, -⟩ := State.fdbFlush_spec (s.hostWrote port false SWF_FDB_CMD_OP.addr) fun e => e.ports == 2 ^ k
    exact ⟨by rwa [State.hostWrote_swf] at table, result⟩
  · refine Completes.effect rfl h ?_
    obtain ⟨table, result, -⟩ := State.fdbFlush_spec (s.hostWrote port false SWF_FDB_CMD_OP.addr) fun e =>
      (s.hostWrote port false SWF_FDB_CMD_OP.addr).vlanInstance e.vid == i
    refine ⟨table.trans ?_, result⟩
    simp only [State.hostWrote_swf, State.vlanInstance_hostWrote]
    rfl
  · refine Completes.effect rfl h ?_
    obtain ⟨table, result, used⟩ := State.fdbFlush_spec (s.hostWrote port false SWF_FDB_CMD_OP.addr) fun _ => true
    simp only [State.hostWrote_swf, Bool.not_true, Bool.or_false] at table
    exact ⟨table, result, used⟩
  · refine Completes.working rfl ((State.atWork_reach s c 0x10).trans h) ?_
    rw [State.fdbExpire, State.rd_reach]
    split
    · rfl
    · have swf : (s.reach c).swf = s.swf := by rw [State.reach]; split <;> rfl
      rw [swf]
      rfl
  · exact Completes.effect rfl h (State.mdioStarted s port _ 0 c45 phy reg)
  · exact Completes.effect rfl h (State.mdioStarted s port _ 1 c45 phy reg)
  · exact Completes.effect rfl h (State.mdioStarted s port _ 2 c45 phy reg)
  · exact Completes.effect rfl h (State.mdioStarted s port _ 3 c45 phy reg)
  · exact Completes.working rfl h (by simpa only using State.mdioEnd_spec s hd)

end Sys2Proof.Machine
end

section
/-! SUPPORT. Detections at the Drift intake (O27). -/

namespace Sys2Proof

open Machine

theorem OnlyFields.count {l : List Field} {s t : State} (h : OnlyFields l s t) {f : Field} (d : Nat) (mem : f ∈ l) :
    OnlyFields l s (t.count f d) := h.wr _ mem

end Sys2Proof

namespace Sys2Proof.Machine

theorem State.drfMaxAge_eq (s : State) : s.drfMaxAge = max 1 (min 10000 (s.rd DRF_INTAKE_MAX_AGE)) * 1000 := rfl

theorem length_coalesceLatest {e : DrfEvent} {l l' : List DrfEvent} (h : coalesceLatest e l = some l') : l'.length = l.length := by
  induction l generalizing l' with
  | nil => cases h
  | cons x t ih =>
    rw [coalesceLatest] at h
    split at h
    · cases h; rfl
    · obtain ⟨t', ht, rfl⟩ := Option.map_eq_some_iff.mp h
      simp [ih ht]

/-- The intake after an event that finds it full: the latest entry of the vertex, or its place outside, takes it in (R245). -/
def DrfUnit.merged (d : DrfUnit) (e : DrfEvent) : DrfUnit :=
  match coalesceLatest e d.queue.reverse with
  | some q => { d with queue := q.reverse }
  | none =>
    match Sparse.get d.overflow e.vertex with
    | some x => { d with overflow := Sparse.insert d.overflow e.vertex (x.coalesce e) }
    | none => { d with overflow := Sparse.insert d.overflow e.vertex e }

theorem DrfUnit.merged_spec (d : DrfUnit) (e : DrfEvent) :
    (d.merged e).walkers = d.walkers ∧ (d.merged e).trail = d.trail ∧ (d.merged e).queue.length = d.queue.length ∧
    (d.merged e).coalesced = d.coalesced := by
  unfold DrfUnit.merged
  split
  · next found => exact ⟨rfl, rfl, by simpa using length_coalesceLatest found, rfl⟩
  · split <;> exact ⟨rfl, rfl, rfl, rfl⟩

theorem State.drfFill_full {s : State} (full : ¬s.drf.queue.length < 4096) (e : DrfEvent) :
    s.drfFill e = ({ s with drf := { s.drf.merged e with coalesced := (s.drf.merged e).coalesced + 1 } }.count DRF_COALESCED 1).notice
      DRF_NOTE_COALESCE := by
  rw [State.drfFill, if_neg full]
  rfl

/-- An event that may enter: it joins the intake, or is coalesced where 4,096 wait (R245). -/
theorem State.drfFill_spec (s : State) (e : DrfEvent) :
    (s.drfFill e).drf.walkers = s.drf.walkers ∧ (s.drfFill e).drf.trail = s.drf.trail ∧
    if s.drf.queue.length < 4096 then s.drfFill e = { s with drf := { s.drf with queue := s.drf.queue ++ [e] } }
    else (s.drfFill e).drf.queue.length = s.drf.queue.length ∧ (s.drfFill e).drf.coalesced = s.drf.coalesced + 1 ∧
      (s.drfFill e).rd DRF_COALESCED = (s.rd DRF_COALESCED + 1) % 2 ^ 32 ∧ Raises DRF_NOTE_COALESCE s (s.drfFill e) ∧
      OnlyFields [DRF_COALESCED, NOTE_RAW 0x07, MSIX_PBA] s (s.drfFill e) := by
  by_cases room : s.drf.queue.length < 4096
  · simp only [State.drfFill, room, if_true, and_self]
  obtain ⟨walkers, trail, queue, coalesced⟩ := s.drf.merged_spec e
  rw [if_neg room, State.drfFill_full room, State.notice_drf]
  refine ⟨walkers, trail, queue, congrArg (· + 1) coalesced, ?_, ?_, ?_⟩
  · rw [State.rd_notice_ne _ DRF_NOTE_COALESCE (by decide) (by decide), State.rd_count_self]
    rfl
  · exact Raises.of_rd (State.raises_notice _ DRF_NOTE_COALESCE (by decide)) (State.rd_count_ne _ _ (by decide))
  · exact OnlyFields.notice (OnlyFields.count (OnlyFields.of_regs rfl) 1 (by simp)) DRF_NOTE_COALESCE (by simp) (by simp)

/-- What an event leaves at the intake, by the case that it meets (R242 to R245). -/
def DrfEntered (s t : State) (v age strength sensor : Nat) : Prop :=
  if 8191 < v ∨ (s.vertex (s.rd DRF_GRAPH_ACTIVE) v).valid = false then
    t.rd DRF_BAD_EVENT = (s.rd DRF_BAD_EVENT + 1) % 2 ^ 32 ∧ Raises DRF_NOTE_BAD_EVENT s t ∧ t.drf = s.drf
  else if max 1 (min 10000 (s.rd DRF_INTAKE_MAX_AGE)) * 1000 < age then
    t.rd DRF_STALE = (s.rd DRF_STALE + 1) % 2 ^ 32 ∧ OnlyFields [DRF_STALE] s t ∧ t.drf = s.drf
  else if strength < s.rd DRF_INTAKE_MIN_STRENGTH then
    t.rd DRF_WEAK = (s.rd DRF_WEAK + 1) % 2 ^ 32 ∧ OnlyFields [DRF_WEAK] s t ∧ t.drf = s.drf
  else if s.rd DRF_CTRL_EN = 0 then t.rd DRF_BAD_EVENT = (s.rd DRF_BAD_EVENT + 1) % 2 ^ 32 ∧ t.drf = s.drf
  else
    t.rd DRF_EVENTS_IN = (s.rd DRF_EVENTS_IN + 1) % 2 ^ 32 ∧ t.drf.walkers = s.drf.walkers ∧ t.drf.trail = s.drf.trail ∧
    if s.drf.queue.length < 4096 then
      t.drf = { s.drf with queue := s.drf.queue ++ [⟨v, s.epoch - age, strength, sensor, 1⟩] } ∧ OnlyFields [DRF_EVENTS_IN] s t
    else t.drf.queue.length = s.drf.queue.length ∧ t.drf.coalesced = s.drf.coalesced + 1 ∧
      t.rd DRF_COALESCED = (s.rd DRF_COALESCED + 1) % 2 ^ 32 ∧ Raises DRF_NOTE_COALESCE s t

theorem State.drfEnter_spec (s : State) (v age strength sensor : Nat) : DrfEntered s (s.drfEnter v age strength sensor) v age strength sensor := by
  have counts (f : Field) (h : f.width = 32) : (s.count f 1).rd f = (s.rd f + 1) % 2 ^ 32 := by rw [State.rd_count_self, h]
  have only (f : Field) : OnlyFields [f] s (s.count f 1) := (OnlyFields.refl _ s).wr _ (List.mem_singleton.mpr rfl)
  rw [DrfEntered, State.drfEnter, State.drfMaxAge_eq]
  simp only [Bool.not_eq_true']
  by_cases bad : 8191 < v ∨ (s.vertex (s.rd DRF_GRAPH_ACTIVE) v).valid = false
  · simp only [bad, if_true]
    refine ⟨?_, Raises.of_rd (State.raises_notice _ DRF_NOTE_BAD_EVENT (by decide)) (State.rd_count_ne _ _ (by decide)), State.notice_drf _ _⟩
    rw [State.rd_notice_ne _ DRF_NOTE_BAD_EVENT (by decide) (by decide), counts _ rfl]
  simp only [bad, if_false]
  by_cases stale : max 1 (min 10000 (s.rd DRF_INTAKE_MAX_AGE)) * 1000 < age
  · simp only [stale, if_true]
    exact ⟨counts _ rfl, only _, rfl⟩
  simp only [stale, if_false]
  by_cases weak : strength < s.rd DRF_INTAKE_MIN_STRENGTH
  · simp only [weak, if_true]
    exact ⟨counts _ rfl, only _, rfl⟩
  simp only [weak, if_false]
  by_cases off : s.rd DRF_CTRL_EN = 0
  · simp only [off, if_true, State.rdB, Nat.reduceBEq]
    exact ⟨counts _ rfl, rfl⟩
  have on : s.rd DRF_CTRL_EN = 1 := by
    have := State.rd_lt s DRF_CTRL_EN
    simp at this
    omega
  simp only [on, State.rdB, Nat.one_ne_zero, if_false, Nat.reduceBEq, Bool.true_eq_false]
  obtain ⟨walkers, trail, fill⟩ := (s.count DRF_EVENTS_IN 1).drfFill_spec ⟨v, s.epoch - age, strength, sensor, 1⟩
  have queue : (s.count DRF_EVENTS_IN 1).drf.queue.length = s.drf.queue.length := rfl
  rw [queue] at fill
  by_cases room : s.drf.queue.length < 4096
  · rw [if_pos room] at fill ⊢
    rw [fill]
    exact ⟨(State.rd_congr rfl _).trans (counts DRF_EVENTS_IN rfl), rfl, rfl, rfl, (only _).congr rfl⟩
  · rw [if_neg room] at fill ⊢
    obtain ⟨length, coalesced, number, raised, fields⟩ := fill
    refine ⟨?_, walkers, trail, length, coalesced, ?_, Raises.of_rd raised (State.rd_count_ne _ _ (by decide))⟩
    · rw [fields _ (by decide), counts _ rfl]
    · rw [number, State.rd_count_ne _ _ (by decide)]

/-- An event that meets none of the bars joins the intake. -/
theorem State.drfEnter_joins {s : State} {v age strength : Nat} (sensor : Nat) (hv : v < 8192)
    (valid : (s.vertex (s.rd DRF_GRAPH_ACTIVE) v).valid = true) (fresh : age ≤ max 1 (min 10000 (s.rd DRF_INTAKE_MAX_AGE)) * 1000)
    (strong : s.rd DRF_INTAKE_MIN_STRENGTH ≤ strength) (on : s.rd DRF_CTRL_EN = 1) (room : s.drf.queue.length < 4096) :
    (s.drfEnter v age strength sensor).drf = { s.drf with queue := s.drf.queue ++ [⟨v, s.epoch - age, strength, sensor, 1⟩] } ∧
    (s.drfEnter v age strength sensor).rd DRF_EVENTS_IN = (s.rd DRF_EVENTS_IN + 1) % 2 ^ 32 ∧
    OnlyFields [DRF_EVENTS_IN] s (s.drfEnter v age strength sensor) := by
  have spec := s.drfEnter_spec v age strength sensor
  rw [DrfEntered, if_neg (by simp [valid]; omega), if_neg (by omega), if_neg (by omega), if_neg (by omega)] at spec
  obtain ⟨count, -, -, enters⟩ := spec
  rw [if_pos room] at enters
  exact ⟨enters.1, count, enters.2⟩

theorem State.vertex_congr {s t : State} (h : t.win = s.win) (b v : Nat) : t.vertex b v = s.vertex b v := by
  simp only [State.vertex, State.w16, State.wN_congr h, State.w8_congr h]

/-- Settles O27: a detection and DRF_INJECT are one entry at the intake, each with its age. -/
theorem detectionsEnterDrift : Obligations.DetectionsEnterDrift := by
  refine ⟨fun s v instant strength sensor h wf => ?_, fun s port v age h wf valid fresh on room => ?_, fun s port en h => ?_⟩
  · refine Completes.working rfl h ?_
    have enters : s.drfDetect v instant strength sensor = s.drfEnter v ((s.moduleTime - instant + 500) / 1000) strength sensor := by
      rw [State.drfDetect, State.wakePage_of (State.pageRuns_of_atWork h)]
    rw [enters]
    exact s.drfEnter_spec v _ strength sensor
  · obtain ⟨hv, hage⟩ := wf
    refine Completes.effect rfl h ?_
    have rd (f : Field) (raw : f.key ≠ (NOTE_RAW 0x01).key) (pba : f.key ≠ MSIX_PBA.key) :=
      State.rd_hostWrote_ne s port false DRF_INJECT_VERTEX.addr raw pba
    have enters := State.drfEnter_joins (s := s.hostWrote port false DRF_INJECT_VERTEX.addr) (v := v) (age := age * 1000) (strength := 255) 0 hv
      (by rw [State.vertex_congr (s.hostWrote_win _ _ _), rd _ (by decide) (by decide), valid])
      (by rw [rd _ (by decide) (by decide)]; omega)
      (Nat.le_of_lt_succ (State.rd_lt _ DRF_INTAKE_MIN_STRENGTH))
      (by rw [rd _ (by decide) (by decide), on]) (by rw [State.hostWrote_drf]; exact room)
    obtain ⟨drf, count, -⟩ := enters
    dsimp only
    rw [Nat.mod_eq_of_lt hv, Nat.mod_eq_of_lt hage, drf, count, rd _ (by decide) (by decide), State.hostWrote_drf, State.epoch, State.hostWrote_time]
    exact ⟨rfl, rfl⟩
  · refine Completes.effect rfl h ?_
    have drf := s.hostWrote_drf port false DRF_CTRL_EN.addr
    have reads (b : Bool) (u : State) : (u.wrB DRF_CTRL_EN b).rd DRF_CTRL_EN = if b then 1 else 0 := by
      cases b <;> exact State.rd_wr_of_lt _ (by decide)
    cases en with
    | true => exact ⟨reads true _, drf⟩
    | false =>
      have off : ((s.hostWrote port false DRF_CTRL_EN.addr).drfEnable false).rd DRF_CTRL_EN = 0 :=
        (State.rd_congr rfl _).trans (reads false _)
      refine ⟨off, ?_, rfl, rfl, rfl, rfl, ?_⟩
      · rw [State.drfRuns, State.rdB, off]; rfl
      · exact (congrArg DrfUnit.bank drf :)

end Sys2Proof.Machine
end

section
/-! SUPPORT. The queues of the wired buses, and raw frames of the host (O34). -/

namespace Sys2Proof.Machine

/-! ### Queues -/

theorem State.dalQueue_setDalQueue (s : State) {j : Nat} (k : Nat) (q : List DalCmd) (hj : j < 8) :
    (s.setDalQueue k q).dalQueue j = if j = k then q else s.dalQueue j :=
  getD_putAt _ _ _ _ _ hj

theorem State.dalQueue_same (s : State) {k : Nat} (q : List DalCmd) (hk : k < 8) : (s.setDalQueue k q).dalQueue k = q :=
  (State.dalQueue_setDalQueue s k q hk).trans (if_pos rfl)

theorem State.dalQueue_congr {s t : State} (h : t.dal.queues = s.dal.queues) (k : Nat) : t.dalQueue k = s.dalQueue k := by
  rw [State.dalQueue, State.dalQueue, h]

theorem State.meshTx_congr {s t : State} (h : t.startup = s.startup) (m : t.modes = s.modes) : t.meshTx = s.meshTx := by
  rw [State.meshTx, State.meshTx, h, m]

theorem State.whenLive_completes {i : Instr} {s : State} {p : Nat} {k : State → State} {P : State → Prop}
    (e : exec i s = .next (s.whenLive p k)) (h : s.live p = true) (post : P (k s)) : Completes i s P :=
  ⟨k s, by rw [e, State.whenLive_of h], post⟩

/-! ### Raw requests -/

/-- What a write of DAL_RAW_CTRL leaves, by the case that it meets (R339). -/
def RawAsked (s t : State) (k : Nat) (bits24 twice answer : Bool) (prio : Nat) : Prop :=
  if s.dal.raw.isSome = true ∨ s.meshTx = false then
    t.dal = s.dal ∧ t.rd DAL_RAW_RES_STATUS = 6 ∧ Noted DAL_NOTE_RAW_DONE t
  else if (s.dalQueue k).length < 128 then
    t.dal.raw = some (k, answer) ∧ t.rd DAL_RAW_RES_STATUS = 0 ∧ t.rd DAL_RAW_RES_ANSWER = 0 ∧
    t.dalQueue k = s.dalQueue k ++
      [⟨.raw (if bits24 then s.rd DAL_RAW_FRAME else s.rd DAL_RAW_FRAME % 65536) bits24 twice answer,
        if 1 ≤ prio ∧ prio ≤ 5 then prio else 5, [], false, 0⟩] ∧
    ∀ j, j < 8 → j ≠ k → t.dalQueue j = s.dalQueue j
  else match dropRefresh (s.dalQueue k) with
    | some q => t.dal.raw = some (k, answer) ∧ t.rd DAL_RAW_RES_STATUS = 0 ∧ (t.dalQueue k).length = q.length + 1
    | none => t.dal = s.dal ∧ t.rd DAL_RAW_RES_STATUS = 6 ∧ Noted DAL_NOTE_QUEUE_FULL t ∧ Noted DAL_NOTE_RAW_DONE t

theorem State.rawRefused (s : State) :
    ((s.wr DAL_RAW_RES_STATUS 6).notice DAL_NOTE_RAW_DONE).dal = s.dal ∧
    ((s.wr DAL_RAW_RES_STATUS 6).notice DAL_NOTE_RAW_DONE).rd DAL_RAW_RES_STATUS = 6 ∧
    Noted DAL_NOTE_RAW_DONE ((s.wr DAL_RAW_RES_STATUS 6).notice DAL_NOTE_RAW_DONE) :=
  ⟨State.notice_dal _ _, by
    rw [State.rd_notice_ne _ DAL_NOTE_RAW_DONE (by decide) (by decide), State.rd_wr_of_lt _ (by decide)],
    State.noted_notice _ DAL_NOTE_RAW_DONE (by decide)⟩

/-- The end of a queue with room takes the command. -/
theorem State.dalAppend_room {s : State} {k : Nat} (room : (s.dalQueue k).length < 128) (c : DalCmd) :
    s.dalAppend k c = (true, s.setDalQueue k (s.dalQueue k ++ [c])) := if_pos room

theorem State.dalAppend_full {s : State} {k : Nat} (full : ¬(s.dalQueue k).length < 128) (c : DalCmd) :
    s.dalAppend k c = match dropRefresh (s.dalQueue k) with
      | some q => (true, s.setDalQueue k (q ++ [c]))
      | none => (false, ((s.invalidate c.gear).count DAL_QUEUE_DROP 1).notice DAL_NOTE_QUEUE_FULL) := by
  rw [State.dalAppend, if_neg full] <;> rfl

/-- A request that its queue takes is outstanding. -/
theorem State.rawTaken (s : State) (k : Nat) (answer : Bool) :
    ((({ s with dal := { s.dal with raw := some (k, answer) } }.wr DAL_RAW_RES_STATUS 0).wr DAL_RAW_RES_ANSWER 0).rd DAL_RAW_RES_STATUS = 0) ∧
    ((({ s with dal := { s.dal with raw := some (k, answer) } }.wr DAL_RAW_RES_STATUS 0).wr DAL_RAW_RES_ANSWER 0).rd DAL_RAW_RES_ANSWER = 0) :=
  ⟨(State.rd_wr_ne _ _ (by decide)).trans (State.rd_wr_of_lt _ (by decide)), State.rd_wr_of_lt _ (by decide)⟩

theorem State.rawRequest_spec (s : State) {k : Nat} (hk : k < 8) (bits24 twice answer : Bool) (prio : Nat) :
    RawAsked s (s.rawRequest k bits24 twice answer prio) k bits24 twice answer prio := by
  rw [RawAsked, State.rawRequest]
  by_cases bar : s.dal.raw.isSome = true ∨ s.meshTx = false
  · rw [if_pos bar, if_pos (by simpa using bar)]
    exact s.rawRefused
  rw [if_neg bar, if_neg (c := (s.dal.raw.isSome || !s.meshTx) = true) (by simpa using bar)]
  by_cases room : (s.dalQueue k).length < 128
  · rw [if_pos room]
    simp only [State.dalAppend_room room]
    obtain ⟨status, octet⟩ := State.rawTaken (s.setDalQueue k (s.dalQueue k ++
      [⟨.raw (if bits24 then s.rd DAL_RAW_FRAME else s.rd DAL_RAW_FRAME % 65536) bits24 twice answer,
        if 1 ≤ prio ∧ prio ≤ 5 then prio else 5, [], false, 0⟩])) k answer
    exact ⟨rfl, status, octet, State.dalQueue_same s _ hk, fun j hj ne => (State.dalQueue_setDalQueue s k _ hj).trans (if_neg ne)⟩
  · rw [if_neg room]
    simp only [State.dalAppend_full room]
    cases dropRefresh (s.dalQueue k) with
    | some q =>
      refine ⟨rfl, (State.rawTaken _ k answer).1, ?_⟩
      change ((s.setDalQueue k _).dalQueue k).length = _
      rw [State.dalQueue_same s _ hk, List.length_append, List.length_singleton]
    | none =>
      obtain ⟨dal, status, done⟩ := State.rawRefused ((s.count DAL_QUEUE_DROP 1).notice DAL_NOTE_QUEUE_FULL)
      refine ⟨dal.trans (State.notice_dal _ _), status, ?_, done⟩
      exact Noted.notice (Noted.wr (State.noted_notice _ DAL_NOTE_QUEUE_FULL (by decide)) 6 (by decide)) DAL_NOTE_RAW_DONE rfl (by decide)

theorem RawAsked.of_hostWrote {s t : State} {port : Port} {a k : Nat} {bits24 twice answer : Bool} {prio : Nat}
    (h : RawAsked (s.hostWrote port false a) t k bits24 twice answer prio) : RawAsked s t k bits24 twice answer prio := by
  have dal := s.hostWrote_dal port false a
  have queue j : (s.hostWrote port false a).dalQueue j = s.dalQueue j := State.dalQueue_congr (by rw [dal]) j
  have mesh : (s.hostWrote port false a).meshTx = s.meshTx := State.meshTx_congr (by simp) (by simp)
  have frame : (s.hostWrote port false a).rd DAL_RAW_FRAME = s.rd DAL_RAW_FRAME := State.rd_hostWrote_ne _ _ _ _ (by decide) (by decide)
  simp only [RawAsked, dal, queue, mesh, frame] at h
  exact h

/-! ### The outcome of a raw frame -/

theorem State.rawDone_spec (s : State) {status answer : Nat} (hs : status < 8) (ha : answer < 256) :
    (s.rawDone status answer).dal = { s.dal with raw := none } ∧ Raises DAL_NOTE_RAW_DONE s (s.rawDone status answer) ∧
    (s.rawDone status answer).rd DAL_RAW_RES_STATUS = status ∧ (s.rawDone status answer).rd DAL_RAW_RES_ANSWER = answer := by
  refine ⟨State.notice_dal _ _, Raises.of_rd (State.raises_notice _ DAL_NOTE_RAW_DONE (by decide)) ?_, ?_, ?_⟩
  · exact (State.rd_wr_ne _ _ (by decide)).trans (State.rd_wr_ne _ _ (by decide))
  · rw [State.rawDone, State.rd_notice_ne _ DAL_NOTE_RAW_DONE (by decide) (by decide), State.rd_wr_ne _ _ (by decide), State.rd_wr_of_lt _ hs]
  · rw [State.rawDone, State.rd_notice_ne _ DAL_NOTE_RAW_DONE (by decide) (by decide), State.rd_wr_of_lt _ ha]

/-- Settles O34: a request by the case that its queue gives, and an outcome by the answer. -/
theorem rawWiredFrames : Obligations.RawWiredFrames := by
  refine ⟨fun s port k prio bits24 twice answer h wf => ?_, fun s k wants bad answer h wf raw sent => ?_⟩
  · exact Completes.effect rfl h (State.rawRequest_spec _ wf.1 bits24 twice answer prio).of_hostWrote
  · refine State.whenLive_completes rfl h ?_
    simp only [State.rawComplete, raw, sent, Bool.not_true, Bool.false_eq_true, if_false]
    cases wants with
    | false =>
      cases answer with
      | none => exact s.rawDone_spec (status := 1) (answer := 0) (by decide) (by decide)
      | some b => exact s.rawDone_spec (status := 1) (answer := 0) (by decide) (by decide)
    | true =>
      cases answer with
      | none => exact s.rawDone_spec (status := 3) (answer := 0) (by decide) (by decide)
      | some b =>
        cases bad with
        | true => exact s.rawDone_spec (status := 4) (answer := 0) (by decide) (by decide)
        | false => exact s.rawDone_spec (status := 2) (answer := b) (by decide) (by simpa [WellFormed] using wf)

end Sys2Proof.Machine
end

section
/-! SUPPORT. Values of the windows, the dispatch state of entries, and the wired buses (O33). -/

namespace Sys2Proof

open Machine

/-- An event recorded after changes that leave the intake, the calendar and the start alone is the event of the state before. -/
theorem Records.of_before {code p0 p1 p2 p3 : Nat} {s u t : State} (h : Records code p0 p1 p2 p3 u t) (intake : u.siltIntake = s.siltIntake)
    (cal : u.cal = s.cal) (domains : u.domains = s.domains) (osf : u.rd RTC_STATUS_OSF = s.rd RTC_STATUS_OSF)
    (startup : u.startup = s.startup) : Records code p0 p1 p2 p3 s t := by
  have runs : u.aonRunning = s.aonRunning := by rw [State.aonRunning, State.aonRunning, domains]
  have event : siltEvent u code p0 p1 p2 p3 = siltEvent s code p0 p1 p2 p3 := by
    simp only [siltEvent, State.calNow, State.calValid, State.rdB, runs, cal, osf, startup]
  rw [Records, intake, event] at h
  exact h

theorem Records.congr {code p0 p1 p2 p3 : Nat} {s t u : State} (h : Records code p0 p1 p2 p3 s t) (e : u.siltIntake = t.siltIntake) :
    Records code p0 p1 p2 p3 s u := by
  rw [Records, e]
  exact h

end Sys2Proof

namespace Sys2Proof.Machine

/-! ### Little-endian values -/

theorem toOctets_succ (n v : Nat) : toOctets (n + 1) v = v % 256 :: toOctets n (v / 256) := by
  have rest : (octet v) ∘ Nat.succ = octet (v / 256) := by
    funext i
    simp only [Function.comp, octet, Nat.succ_eq_add_one, Nat.pow_succ', Nat.div_div_eq_div_mul]
  rw [toOctets, List.range_succ_eq_map, List.map_cons, List.map_map, rest, octet, Nat.pow_zero, Nat.div_one, toOctets]

theorem ofOctets_toOctets (n v : Nat) : ofOctets (toOctets n v) = v % 256 ^ n := by
  induction n generalizing v with
  | zero => rw [Nat.pow_zero, Nat.mod_one]; rfl
  | succ n ih => rw [toOctets_succ, ofOctets, ih, Nat.mod_mod, Nat.pow_succ', Nat.mod_mul]

theorem octet_lt (v i : Nat) : octet v i < 256 := Nat.mod_lt _ (by decide)

theorem State.wN_setN_same (s : State) (q a n v : Nat) : (s.setN q a n v).wN q a n = v % 256 ^ n := by
  have bytes : (s.setN q a n v).wBytes q a n = toOctets n v := by
    refine List.map_congr_left fun k hk => ?_
    have inside : k < n := List.mem_range.mp hk
    rw [State.setN, State.w8_setBytes_inside _ (Nat.le_add_right a k) (by simp; omega), Nat.add_sub_cancel_left, getD_toOctets _ inside,
      Nat.mod_eq_of_lt (octet_lt v k)]
  rw [State.wN, bytes, ofOctets_toOctets]

theorem State.wN_eq {s t : State} {q a n : Nat} (h : ∀ k, k < n → t.w8 q (a + k) = s.w8 q (a + k)) : t.wN q a n = s.wN q a n := by
  rw [State.wN, State.wN, State.wBytes, State.wBytes, List.map_congr_left fun k hk => h k (List.mem_range.mp hk)]

theorem ofOctets_lt (l : List Nat) : ofOctets l < 256 ^ l.length := by
  induction l with
  | nil => simp [ofOctets]
  | cons b t ih =>
    have := Nat.mod_lt b (show 0 < 256 by decide)
    rw [ofOctets, List.length_cons, Nat.pow_succ']
    omega

theorem State.wN_lt (s : State) (q a n : Nat) : s.wN q a n < 256 ^ n := by
  have := ofOctets_lt (s.wBytes q a n)
  rwa [State.wBytes, List.length_map, List.length_range] at this

theorem State.ent_setEnt_same (s : State) (i o n v : Nat) : (s.setEnt i o n v).ent i o n = v % 256 ^ n := State.wN_setN_same s _ _ _ _

theorem State.ent_setEnt_ne (s : State) {i o n v p m : Nat} (hi : i < 8192) (fits : o + n ≤ 256) (fits' : p + m ≤ 256)
    (out : p + m ≤ o ∨ o + n ≤ p) : (s.setEnt i o n v).ent i p m = s.ent i p m :=
  State.wN_eq fun _ _ => State.w8_setEnt_outside s (by omega) hi fits (by omega)

/-! ### The dispatch state of entries -/

theorem State.usedEntries_lt {s : State} {i : Nat} (h : i ∈ s.usedEntries) : i < 8192 := by
  obtain ⟨c, mem, rfl⟩ := List.mem_map.mp h
  have range := (List.mem_filter.mp mem).2
  simp only [Bool.and_eq_true, decide_eq_true_eq] at range
  simp only [winAddr] at range ⊢
  omega

theorem State.dvalid_setDvalid (s : State) {i j : Nat} (b : Bool) (hi : i < 8192) (hj : j < 8192) :
    (s.setDvalid j b).dvalid i = if i = j then b else s.dvalid i := by
  split
  · next same =>
    subst same
    have small : s.dstate i < 2 ^ 8 := by rw [State.dstate_eq]; exact State.w8_lt _ _ _
    have byte : (s.setDvalid i b).dstate i = if b then setBit (s.dstate i) 0 else clrBit (s.dstate i) 0 := by
      rw [State.dstate, State.setDvalid, State.ent_setEnt_same]
      cases b
      · exact Nat.mod_eq_of_lt (clrBit_lt small)
      · exact Nat.mod_eq_of_lt (setBit_lt small (by decide))
    rw [State.dvalid, byte]
    cases b
    · rw [if_neg (by decide), bitAt_eq_testBit, testBit_clrBit]
      simp
    · exact bitAt_setBit _ _
  · next other =>
    have byte : (s.setDvalid j b).dstate i = s.dstate i := by
      rw [State.dstate_eq, State.dstate_eq]
      exact State.w8_setEnt_outside s (by omega) hj (by decide) (by omega)
    rw [State.dvalid, State.dvalid, byte]

/-- VALID clears in every entry of a list, and stays where it is clear. -/
theorem State.dvalid_invalidate {i : Nat} (hi : i < 8192) (l : List Nat) (hl : ∀ j ∈ l, j < 8192) {s : State}
    (h : i ∈ l ∨ s.dvalid i = false) : (s.invalidate l).dvalid i = false := by
  induction l generalizing s with
  | nil => exact h.resolve_left (by simp)
  | cons j l ih =>
    refine ih (fun k hk => hl k (List.mem_cons_of_mem _ hk)) ?_
    rw [State.dvalid_setDvalid s false hi (hl j List.mem_cons_self)]
    rcases h with mem | clear
    · rcases List.mem_cons.mp mem with rfl | later
      · exact Or.inr (if_pos rfl)
      · exact Or.inl later
    · exact Or.inr (by rw [clear, ite_self])

theorem State.invalidate_eq (s : State) (l : List Nat) : ∃ w, s.invalidate l = { s with win := w } := by
  induction l generalizing s with
  | nil => exact ⟨_, rfl⟩
  | cons j l ih => exact ih (s.setDvalid j false)

/-! ### Frames on a bus -/

theorem State.dalSend_idle {s : State} {k : Nat} (h : s.dalRuns k = false ∨ s.meshTx = false ∨ s.dalQueue k = []) (collision : Bool) :
    s.dalSend k collision = s := by
  rw [State.dalSend]
  rcases h with stopped | out | idle
  · rw [stopped]; rfl
  · rw [out, Bool.not_false, Bool.or_true]; rfl
  · rw [idle]
    split <;> rfl

theorem State.dalSend_next {s : State} {k : Nat} {c : DalCmd} {rest : List DalCmd} (runs : s.dalRuns k = true) (mesh : s.meshTx = true)
    (queue : s.dalQueue k = c :: rest) (collision : Bool) :
    s.dalSend k collision = if collision then s.dalCollide k c rest
      else ((s.setDalQueue k rest).count DAL_TX_FRAMES c.frames).emit (.dali k c.kind c.prio) := by
  rw [State.dalSend, runs, mesh, queue]
  rfl

/-- A raw request's outcome leaves the queues as they are, and the notices of its page set. -/
theorem State.rawDone_keeps (s : State) (status answer : Nat) :
    (s.rawDone status answer).dal.queues = s.dal.queues ∧
    OnlyFields [DAL_RAW_RES_STATUS, DAL_RAW_RES_ANSWER, NOTE_RAW 0x0C, MSIX_PBA] s (s.rawDone status answer) ∧
    ∀ n : Notice, n.page = 0x0C → Noted n s → Noted n (s.rawDone status answer) := by
  rw [State.rawDone]
  refine ⟨by rw [State.notice_dal]; rfl, ?_, fun n page noted => ?_⟩
  · have status : OnlyFields [DAL_RAW_RES_STATUS, DAL_RAW_RES_ANSWER, NOTE_RAW 0x0C, MSIX_PBA] s
        ({ s with dal := { s.dal with raw := none } }.wr DAL_RAW_RES_STATUS status) := (OnlyFields.of_regs rfl).wr _ (by simp)
    exact (status.wr answer (by simp)).notice DAL_NOTE_RAW_DONE (by simp) (by simp)
  · have written (f : Field) (h : (NOTE_RAW 0x0C).key ≠ f.key) (v : Nat) (u : State) (hu : Noted n u) : Noted n (u.wr f v) :=
      Noted.wr hu v (by rwa [page])
    refine Noted.notice ?_ DAL_NOTE_RAW_DONE page.symm (by decide)
    exact written _ (by decide) _ _ (written _ (by decide) _ _ (Noted.congr (n := n) noted (State.rd_congr rfl _)))

theorem State.dalCollide_spec {s : State} {k : Nat} (hk : k < 8) (c : DalCmd) (rest : List DalCmd) :
    (s.dalCollide k c rest).rd DAL_COLLISIONS = (s.rd DAL_COLLISIONS + 1) % 2 ^ DAL_COLLISIONS.width ∧
    if c.tries < s.rd DAL_CFG_RETRY then
      (s.dalCollide k c rest).dalQueue k = { c with tries := c.tries + 1 } :: rest ∧ (s.dalCollide k c rest).emitted = s.emitted
    else (s.dalCollide k c rest).dalQueue k = rest ∧
      (s.dalCollide k c rest).rd DAL_FAILS = (s.rd DAL_FAILS + 1) % 2 ^ DAL_FAILS.width ∧ Noted DAL_NOTE_TX_FAIL (s.dalCollide k c rest) := by
  have retry : (s.count DAL_COLLISIONS 1).rd DAL_CFG_RETRY = s.rd DAL_CFG_RETRY := State.rd_count_ne _ _ (by decide)
  rw [State.dalCollide, retry]
  by_cases again : c.tries < s.rd DAL_CFG_RETRY
  · simp only [again, if_true]
    exact ⟨(State.rd_congr rfl _).trans (State.rd_count_self s _ _), State.dalQueue_same _ _ hk, rfl⟩
  simp only [again, if_false]
  obtain ⟨w, gone⟩ := State.invalidate_eq ((s.count DAL_COLLISIONS 1).setDalQueue k rest) c.gear
  have regs : (((s.count DAL_COLLISIONS 1).setDalQueue k rest).invalidate c.gear).regs = (s.count DAL_COLLISIONS 1).regs := by rw [gone]; rfl
  have queue : (((s.count DAL_COLLISIONS 1).setDalQueue k rest).invalidate c.gear).dalQueue k = rest := by
    rw [gone]
    exact State.dalQueue_same _ _ hk
  generalize ((s.count DAL_COLLISIONS 1).setDalQueue k rest).invalidate c.gear = u at regs queue ⊢
  have failed : ((u.count DAL_FAILS 1).notice DAL_NOTE_TX_FAIL).rd DAL_COLLISIONS = (s.rd DAL_COLLISIONS + 1) % 2 ^ DAL_COLLISIONS.width ∧
      ((u.count DAL_FAILS 1).notice DAL_NOTE_TX_FAIL).dalQueue k = rest ∧
      ((u.count DAL_FAILS 1).notice DAL_NOTE_TX_FAIL).rd DAL_FAILS = (s.rd DAL_FAILS + 1) % 2 ^ DAL_FAILS.width ∧
      Noted DAL_NOTE_TX_FAIL ((u.count DAL_FAILS 1).notice DAL_NOTE_TX_FAIL) := by
    refine ⟨?_, ?_, ?_, State.noted_notice _ DAL_NOTE_TX_FAIL (by decide)⟩
    · rw [State.rd_notice_ne _ DAL_NOTE_TX_FAIL (by decide) (by decide), State.rd_count_ne _ _ (by decide), State.rd_congr regs,
        State.rd_count_self]
    · rw [State.dalQueue_congr (congrArg DalUnit.queues (State.notice_dal _ _))]
      exact queue
    · rw [State.rd_notice_ne _ DAL_NOTE_TX_FAIL (by decide) (by decide), State.rd_count_self, State.rd_congr regs,
        State.rd_count_ne _ _ (by decide)]
  split
  · obtain ⟨queues, fields, noted⟩ := State.rawDone_keeps ((u.count DAL_FAILS 1).notice DAL_NOTE_TX_FAIL) 5 0
    obtain ⟨collisions, left, fails, note⟩ := failed
    exact ⟨(fields _ (by decide)).trans collisions, (State.dalQueue_congr queues k).trans left, (fields _ (by decide)).trans fails,
      noted _ rfl note⟩
  · exact failed

/-! ### Refresh -/

theorem State.gearOf_single {s : State} {i k : Nat} (used : s.usedEntries = [i]) (gear : s.entType i = 2) (port : s.wiredPort i = k) :
    s.gearOf k = [i] := by
  rw [State.gearOf, used]
  simp [gear, port]

/-- The state of a gear as its level command is queued (R334, R344). -/
def State.levelSent (s : State) (n : Shaped) : State :=
  ((s.setEnt n.index 0xB4 1 n.arc).setEnt n.index 0xBE 2 n.lam).setDvalid n.index true

theorem State.levelSent_spec (s : State) {n : Shaped} (hi : n.index < 8192) (harc : n.arc < 256) (hlam : n.lam < 65536) :
    (s.levelSent n).ent n.index 0xB4 1 = n.arc ∧ (s.levelSent n).ent n.index 0xBE 2 = n.lam ∧ (s.levelSent n).dvalid n.index = true := by
  refine ⟨?_, ?_, ?_⟩
  · rw [State.levelSent, State.setDvalid, State.ent_setEnt_ne _ hi (by decide) (by decide) (by decide),
      State.ent_setEnt_ne _ hi (by decide) (by decide) (by decide), State.ent_setEnt_same]
    exact Nat.mod_eq_of_lt harc
  · rw [State.levelSent, State.setDvalid, State.ent_setEnt_ne _ hi (by decide) (by decide) (by decide), State.ent_setEnt_same]
    exact Nat.mod_eq_of_lt hlam
  · rw [State.levelSent, State.dvalid_setDvalid _ _ hi hi, if_pos rfl]

/-- A DAPC to one gear, on an empty queue: it is queued as it is (R334, R335). -/
theorem State.dalQueueLevel_empty {s : State} {k : Nat} (empty : s.dalQueue k = []) (a l prio : Nat) (refresh wired : Bool) (i lam arc : Nat)
    (values : List Nat) :
    s.dalQueueLevel k ⟨.short a l, prio, [i], refresh, 0⟩ [⟨i, wired, values, lam, arc⟩] =
      ((s.setDalQueue k [⟨.short a l, prio, [i], refresh, 0⟩]).levelSent ⟨i, wired, values, lam, arc⟩).count DPT_WIRED 1 := by
  have placed : s.dalPlace k ⟨.short a l, prio, [i], refresh, 0⟩ = (true, s.setDalQueue k [⟨.short a l, prio, [i], refresh, 0⟩]) := by
    simp only [State.dalPlace, empty, List.reverse_nil, State.replaceDapc]
    rw [State.dalAppend_room (by rw [empty]; decide), empty, List.nil_append]
  simp only [State.dalQueueLevel, placed, if_true, List.foldl_cons, List.foldl_nil]
  rfl

/-- The refresh of a port with one gear that the Shaper has shaped. -/
theorem State.dalRefresh_single {s : State} {k i : Nat} (runs : s.dalRuns k = true) (mesh : s.meshTx = true) (en : s.rd SHP_CTRL_EN = 1)
    (refresh : s.rd DAL_CFG_REFRESH ≠ 0) (empty : s.dalQueue k = []) (gear : s.gearOf k = [i])
    (shaped : bitAt (s.w8 0x0A (0x10000 + 16 * i + 11)) 0 = true) :
    s.dalRefresh k = { s with dal := { s.dal with cursors := putAt 8 0 s.dal.cursors k i } }.dalQueueLevel k
      ⟨.short (s.wiredAddr i) (s.w8 0x0A (0x10000 + 16 * i + 10)), 4, [i], true, 0⟩
      [⟨i, true, [], s.w16 0x0A (0x10000 + 16 * i + 8), s.w8 0x0A (0x10000 + 16 * i + 10)⟩] := by
  have first : ([i].filter fun j => Decidable.decide (s.dal.cursors.getD k 0 < j)) ++
      ([i].filter fun j => Decidable.decide (j ≤ s.dal.cursors.getD k 0)) = [i] := by
    by_cases after : s.dal.cursors.getD k 0 < i
    · rw [List.filter_singleton, List.filter_singleton, decide_eq_true after, decide_eq_false (Nat.not_le.mpr after)]
      rfl
    · rw [List.filter_singleton, List.filter_singleton, decide_eq_false after, decide_eq_true (Nat.not_lt.mp after)]
      rfl
  have on : s.rdB SHP_CTRL_EN = true := by rw [State.rdB, en]; rfl
  have due : (s.rd DAL_CFG_REFRESH == 0) = false := by simpa using refresh
  have mine : [i].filter (fun i => bitAt (s.w8 0x0A (0x10000 + 16 * i + 11)) 0) = [i] := by simp [shaped]
  simp only [State.dalRefresh, runs, mesh, on, due, empty, gear, mine, first, Bool.not_true, List.isEmpty_nil, Bool.or_self,
    Bool.false_eq_true, if_false]

/-! ### A bus goes down, and comes back -/

/-- What a bus that goes down shows, before its queue is emptied. -/
def State.busGone (s : State) (k : Nat) : State :=
  ((s.wr DAL_STATUS_UP (clrBit (s.rd DAL_STATUS_UP) k)).notice DAL_NOTE_BUS_DOWN).silt 0x0C01 k

theorem State.busGone_spec (s : State) (k : Nat) :
    (s.busGone k).rd DAL_STATUS_UP = clrBit (s.rd DAL_STATUS_UP) k ∧ Noted DAL_NOTE_BUS_DOWN (s.busGone k) ∧
    Records 0x0C01 k 0 0 0 s (s.busGone k) := by
  refine ⟨?_, ?_, ?_⟩
  · rw [State.busGone, State.rd_silt_ne _ _ _ _ _ _ (by decide) (by decide) (by decide),
      State.rd_notice_ne _ DAL_NOTE_BUS_DOWN (by decide) (by decide), State.rd_wr_of_lt _ (clrBit_lt (State.rd_lt s DAL_STATUS_UP))]
  · exact Noted.congr (n := DAL_NOTE_BUS_DOWN) (State.noted_notice _ DAL_NOTE_BUS_DOWN (by decide))
      (State.rd_silt_ne _ _ _ _ _ _ (by decide) (by decide) (by decide))
  · refine Records.of_before (State.silt_records _ 0x0C01 k 0 0 0) (by simp) (by simp) (by simp) ?_ (by simp)
    rw [State.rd_notice_ne _ DAL_NOTE_BUS_DOWN (by decide) (by decide), State.rd_wr_ne _ _ (by decide)]

theorem State.busDown_spec (s : State) {k : Nat} (hk : k < 8) :
    (s.busDown k).rd DAL_STATUS_UP = clrBit (s.rd DAL_STATUS_UP) k ∧ (s.busDown k).dalQueue k = [] ∧
    Noted DAL_NOTE_BUS_DOWN (s.busDown k) ∧ Records 0x0C01 k 0 0 0 s (s.busDown k) ∧
    ((s.dalQueue k).any DalCmd.isRaw = true → (s.busDown k).dal.raw = none ∧ (s.busDown k).rd DAL_RAW_RES_STATUS = 5) := by
  have down : s.busDown k = if (s.dalQueue k).any DalCmd.isRaw then ((s.busGone k).setDalQueue k []).rawDone 5 0
      else (s.busGone k).setDalQueue k [] := rfl
  obtain ⟨up, noted, records⟩ := s.busGone_spec k
  have queue : ((s.busGone k).setDalQueue k []).dalQueue k = [] := State.dalQueue_same _ _ hk
  rw [down]
  split
  · obtain ⟨queues, fields, notes⟩ := State.rawDone_keeps ((s.busGone k).setDalQueue k []) 5 0
    obtain ⟨dal, -, status, -⟩ := State.rawDone_spec ((s.busGone k).setDalQueue k []) (status := 5) (answer := 0) (by decide) (by decide)
    have intake : (((s.busGone k).setDalQueue k []).rawDone 5 0).siltIntake = (s.busGone k).siltIntake := State.notice_siltIntake _ _
    exact ⟨(fields _ (by decide)).trans up, (State.dalQueue_congr queues k).trans queue, notes _ rfl noted, records.congr intake,
      fun _ => ⟨congrArg DalUnit.raw dal, status⟩⟩
  · next quiet => exact ⟨up, queue, noted, records, fun raw => absurd raw quiet⟩

theorem State.busUp_spec {s : State} {k : Nat} (hk : k < 8) (down : bitAt (s.rd DAL_STATUS_UP) k = false) :
    (s.busUp k).rd DAL_STATUS_UP = setBit (s.rd DAL_STATUS_UP) k ∧ Raises DAL_NOTE_BUS_UP s (s.busUp k) ∧ (s.busUp k).dal = s.dal ∧
    ∀ i ∈ s.usedEntries, s.entType i = 2 → s.wiredPort i = k → (s.busUp k).dvalid i = false := by
  let u : State := (s.wr DAL_STATUS_UP (setBit (s.rd DAL_STATUS_UP) k)).notice DAL_NOTE_BUS_UP
  have ups : s.busUp k = u.invalidate (u.gearOf k) := by rw [State.busUp, down]; rfl
  have win : u.win = s.win := by simp [u]
  have gear : ∀ i, i ∈ u.gearOf k ↔ i ∈ s.usedEntries ∧ s.entType i = 2 ∧ s.wiredPort i = k := by
    intro i
    simp [State.gearOf, State.usedEntries_congr win, State.entType, State.wiredPort, State.ent_congr win]
  obtain ⟨w, same⟩ := u.invalidate_eq (u.gearOf k)
  rw [ups]
  refine ⟨?_, ?_, ?_, fun i used type port => ?_⟩
  · refine (congrArg (State.rd · DAL_STATUS_UP) same).trans ?_
    change u.rd _ = _
    rw [State.rd_notice_ne _ DAL_NOTE_BUS_UP (by decide) (by decide),
      State.rd_wr_of_lt _ (setBit_lt (State.rd_lt s DAL_STATUS_UP) hk)]
  · have raised : Raises DAL_NOTE_BUS_UP s u := Raises.of_rd (State.raises_notice _ DAL_NOTE_BUS_UP (by decide)) (State.rd_wr_ne _ _ (by decide))
    rw [same]
    exact raised
  · rw [same]
    exact State.notice_dal _ _
  · refine State.dvalid_invalidate (State.usedEntries_lt used) _ (fun j mem => State.usedEntries_lt ((gear j).mp mem).1) (Or.inl ?_)
    exact (gear i).mpr ⟨used, type, port⟩

theorem State.moduleTime_congr {s t : State} (time : t.time = s.time) (rate : t.rd TIM_RATE = s.rd TIM_RATE) :
    t.moduleTime = s.moduleTime := by
  simp only [State.moduleTime, State.moduleTimeAt, State.rate, State.rdS, rate, time]

/-! ### Event messages -/

/-- What an event message leaves before it is looked up: its packet, where events go on. -/
def State.eventForwarded (s : State) (k frame instant : Nat) : State :=
  if s.rdB DAL_CTRL_FWD_EVT then s.slqPush 1 0x01 3 (packWords ([k, 0, 0, 0] ++ toOctets 3 frame ++ [0] ++ toOctets 8 instant)) else s

theorem State.eventForwarded_kept (s : State) (k frame instant : Nat) : Kept packetParts s (s.eventForwarded k frame instant) := by
  rw [State.eventForwarded]
  split
  · exact State.slqPush_kept_packetParts _ _ _ _ _ _
  · exact Kept.refl _

theorem State.dalEvent_running {s : State} {k frame : Nat} (runs : s.dalRuns k = true) (event : bitAt frame 16 = false) (instant : Nat) :
    s.dalEvent k frame instant =
      match (match eventAddr frame, eventType frame with
        | some a, some _ => s.usedEntries.find? fun i => s.entType i == 3 && s.wiredPort i == k && s.wiredAddr i == a
        | _, _ => none) with
      | none => ((s.eventForwarded k frame instant).count DAL_EVENTS_IGN 1).notice DAL_NOTE_EVENT_BAD
      | some i =>
        if eventType frame = some (s.rd DAL_PRES_ITYPE) ∧ Nat.land (eventInfo frame) (s.rd DAL_PRES_MASK) ≠ 0 then
          ((s.eventForwarded k frame instant).draw.2.count DAL_EVENTS 1).drfDetect (s.ent i 0x10 2) instant 255
            ((s.eventForwarded k frame instant).draw.1 % 32)
        else s.eventForwarded k frame instant := by
  have kept := s.eventForwarded_kept k frame instant
  have win := kept.frame .windows (by decide)
  have type := kept.rd_eq DAL_PRES_ITYPE (by decide)
  have mask := kept.rd_eq DAL_PRES_MASK (by decide)
  have whole : s.dalEvent k frame instant =
      let s := s.eventForwarded k frame instant
      match (match eventAddr frame, eventType frame with
        | some a, some _ => s.usedEntries.find? fun i => s.entType i == 3 && s.wiredPort i == k && s.wiredAddr i == a
        | _, _ => none) with
      | none => (s.count DAL_EVENTS_IGN 1).notice DAL_NOTE_EVENT_BAD
      | some i =>
        if eventType frame = some (s.rd DAL_PRES_ITYPE) ∧ Nat.land (eventInfo frame) (s.rd DAL_PRES_MASK) ≠ 0 then
          (s.draw.2.count DAL_EVENTS 1).drfDetect (s.draw.2.ent i 0x10 2) instant 255 (s.draw.1 % 32)
        else s := by
    rw [State.dalEvent, runs, event]
    rfl
  rw [whole]
  have entry i o n : (s.eventForwarded k frame instant).draw.2.ent i o n = s.ent i o n := State.ent_congr win i o n
  simp only [type, mask, entry, State.usedEntries_congr win, State.entType, State.wiredPort, State.wiredAddr, State.ent_congr win]

/-- The entry that an event message is from: the first of its port with its address. -/
theorem State.dalEvent_ignored {s : State} {k frame : Nat} (runs : s.dalRuns k = true) (event : bitAt frame 16 = false) (instant : Nat)
    (unmapped : bitAt frame 23 = true ∨ bitAt frame 15 = true ∨
      ∀ i ∈ s.usedEntries, s.entType i = 3 → s.wiredPort i = k → s.wiredAddr i ≠ bitsOf frame 17 6) :
    s.dalEvent k frame instant = ((s.eventForwarded k frame instant).count DAL_EVENTS_IGN 1).notice DAL_NOTE_EVENT_BAD := by
  rw [State.dalEvent_running runs event]
  by_cases scheme : bitAt frame 23 = true
  · simp only [eventAddr, scheme, if_true]
  by_cases numbered : bitAt frame 15 = true
  · simp only [eventType, numbered, if_true]
    cases eventAddr frame <;> rfl
  have sensors := (unmapped.resolve_left scheme).resolve_left numbered
  have nobody : s.usedEntries.find? (fun i => s.entType i == 3 && s.wiredPort i == k && s.wiredAddr i == bitsOf frame 17 6) = none := by
    refine List.find?_eq_none.mpr fun i used found => ?_
    simp only [Bool.and_eq_true, beq_iff_eq] at found
    exact sensors i used found.1.1 found.1.2 found.2
  have addressed : eventAddr frame = some (bitsOf frame 17 6) := if_neg scheme
  have typed : eventType frame = some (bitsOf frame 10 5) := if_neg numbered
  simp only [addressed, typed, nobody]

theorem State.dalEvent_detected {s : State} {k frame i : Nat} (runs : s.dalRuns k = true) (event : bitAt frame 16 = false) (instant : Nat)
    (addressed : bitAt frame 23 = false) (typed : bitAt frame 15 = false) (used : s.usedEntries = [i]) (sensor : s.entType i = 3)
    (port : s.wiredPort i = k) (addr : s.wiredAddr i = bitsOf frame 17 6) (presence : bitsOf frame 10 5 = s.rd DAL_PRES_ITYPE)
    (mask : Nat.land (bitsOf frame 0 10) (s.rd DAL_PRES_MASK) ≠ 0) :
    s.dalEvent k frame instant = ((s.eventForwarded k frame instant).draw.2.count DAL_EVENTS 1).drfDetect (s.ent i 0x10 2) instant 255
      ((s.eventForwarded k frame instant).draw.1 % 32) := by
  have info : eventInfo frame = bitsOf frame 0 10 := by simp [eventInfo, bitsOf]
  have present : eventType frame = some (s.rd DAL_PRES_ITYPE) ∧ Nat.land (eventInfo frame) (s.rd DAL_PRES_MASK) ≠ 0 :=
    ⟨by rw [eventType, typed, ← presence]; rfl, by rwa [info]⟩
  have found : s.usedEntries.find? (fun i => s.entType i == 3 && s.wiredPort i == k && s.wiredAddr i == bitsOf frame 17 6) = some i := by
    simp [used, sensor, port, addr]
  have from_ : eventAddr frame = some (bitsOf frame 17 6) := by rw [eventAddr, addressed]; rfl
  rw [State.dalEvent_running runs event, from_, present.1]
  simp only [found]
  rw [if_pos ⟨trivial, present.2⟩]

/-- Settles O33: each command by the state of its bus, its queue and the entries of its port. -/
theorem wiredBuses : Obligations.WiredBuses := by
  refine ⟨fun s k collision live hk idle => ?_, fun s k c rest live hk runs mesh queue => ?_, fun s k c rest live hk runs mesh queue => ?_,
    fun s k i live hk hi runs mesh en refresh empty used gear port shaped => ?_, fun s k live hk => ?_, fun s k live hk down => ?_,
    fun s k frame instant live none => ?_, fun s k frame instant live wf runs event unmapped => ?_,
    fun s k frame instant i live wf runs event addressed typed used sensor port addr presence mask vertex valid fresh on room => ?_⟩
  · exact State.whenLive_completes rfl live (State.dalSend_idle idle collision)
  · refine State.whenLive_completes rfl live ?_
    rw [State.dalSend_next runs mesh queue]
    refine ⟨State.dalQueue_same _ _ hk, fun j hj ne => (State.dalQueue_setDalQueue s k rest hj).trans (if_neg ne), rfl, ?_, rfl⟩
    exact State.rd_count_self (s.setDalQueue k rest) DAL_TX_FRAMES c.frames
  · refine State.whenLive_completes rfl live ?_
    rw [State.dalSend_next runs mesh queue]
    exact State.dalCollide_spec hk c rest
  · refine State.whenLive_completes rfl live ?_
    rw [State.dalRefresh_single runs mesh en refresh empty (State.gearOf_single used gear port) shaped,
      State.dalQueueLevel_empty (k := k) (by exact empty)]
    obtain ⟨level, colour, valid⟩ := State.levelSent_spec
      ({ s with dal := { s.dal with cursors := putAt 8 0 s.dal.cursors k i } }.setDalQueue k
        [⟨.short (s.wiredAddr i) (s.w8 0x0A (0x10000 + 16 * i + 10)), 4, [i], true, 0⟩])
      (n := ⟨i, true, [], s.w16 0x0A (0x10000 + 16 * i + 8), s.w8 0x0A (0x10000 + 16 * i + 10)⟩) hi (State.w8_lt _ _ _) (State.wN_lt _ _ _ 2)
    exact ⟨State.dalQueue_same _ _ hk, level, colour, valid, State.rd_count_self _ DPT_WIRED 1⟩
  · exact State.whenLive_completes rfl live (s.busDown_spec hk)
  · exact State.whenLive_completes rfl live (State.busUp_spec hk down)
  · refine State.whenLive_completes rfl live ?_
    rw [State.dalEvent]
    rcases none with stopped | command
    · rw [stopped]; rfl
    · rw [command, Bool.or_true]; rfl
  · refine State.whenLive_completes rfl live ?_
    have kept := s.eventForwarded_kept k frame instant
    rw [State.dalEvent_ignored runs event instant unmapped]
    refine ⟨?_, State.noted_notice _ DAL_NOTE_EVENT_BAD (by decide), (State.notice_drf _ _).trans (kept.frame .drf (by decide))⟩
    rw [State.rd_notice_ne _ DAL_NOTE_EVENT_BAD (by decide) (by decide), State.rd_count_self, kept.rd_eq _ (by decide)]
  · refine State.whenLive_completes rfl live ?_
    have kept := s.eventForwarded_kept k frame instant
    rw [State.dalEvent_detected runs event instant addressed typed used sensor port addr presence mask]
    have win := kept.frame .windows (by decide)
    have drf := kept.frame .drf (by decide)
    have time := kept.frame .time (by decide)
    have rd (f : Field) (h : ¬packetParts f.slot) := kept.rd_eq f h
    generalize s.eventForwarded k frame instant = u at win drf time rd ⊢
    have now : (u.draw.2.count DAL_EVENTS 1).moduleTime = s.moduleTime := by
      refine State.moduleTime_congr time ?_
      exact (State.rd_count_ne _ _ (by decide)).trans (rd _ (by decide))
    have page (f : Field) (h : f.key ≠ DAL_EVENTS.key) (p : ¬packetParts f.slot) :
        ((u.draw.2.count DAL_EVENTS 1).wakePage 0x07).rd f = s.rd f := (State.rd_count_ne _ _ h).trans (rd f p)
    obtain ⟨queue, -, fields⟩ := State.drfEnter_joins (s := (u.draw.2.count DAL_EVENTS 1).wakePage 0x07) (v := s.ent i 0x10 2)
      (age := (s.moduleTime - instant + 500) / 1000) (strength := 255) (u.draw.1 % 32) vertex
      (by rw [State.vertex_congr (s := s) (t := (u.draw.2.count DAL_EVENTS 1).wakePage 0x07) win, page _ (by decide) (by decide), valid]) (by rwa [page _ (by decide) (by decide)])
      (Nat.le_of_lt_succ (State.rd_lt _ DRF_INTAKE_MIN_STRENGTH)) (by rw [page _ (by decide) (by decide), on]) (by rw [← drf] at room; exact room)
    rw [State.drfDetect, now]
    refine ⟨⟨u.draw.1 % 32, Nat.mod_lt _ (by decide), ?_⟩, ?_⟩
    · rw [queue, State.epoch, State.epoch]
      change _ = DrfUnit.mk _ _ _ _ _ _ _ _ _ _ _ _ _
      rw [← drf, ← time]
      rfl
    · rw [fields _ (by decide)]
      refine (State.rd_count_self u.draw.2 DAL_EVENTS 1).trans ?_
      rw [State.rd_congr (s := u) (t := u.draw.2) rfl, rd _ (by decide)]

end Sys2Proof.Machine
end

section
/-! SUPPORT. Changes of the time state, of the rate and of module time; host writes, capture, timestamps and pulse pins (O39). -/

namespace Sys2Proof.Machine

/-! ### Fields of one bit -/

theorem State.rd_bit (s : State) {f : Field} (h : f.width = 1) : s.rd f = 0 ∨ s.rd f = 1 := by
  have := State.rd_lt s f
  rw [h] at this
  omega

theorem State.rdB_false {s : State} {f : Field} (h : f.width = 1) : s.rdB f = false ↔ s.rd f = 0 := by
  rw [State.rdB]
  rcases State.rd_bit s h with zero | one
  · simp [zero]
  · simp [one]

/-! ### Signed values -/

theorem codeOf_lt (n : Nat) (i : Int) : codeOf n i < 2 ^ n := by
  have pos : (0 : Int) < 2 ^ n := by positivity
  have := Int.emod_lt_of_pos i pos
  have := Int.emod_nonneg i (ne_of_gt pos)
  rw [codeOf]
  zify
  omega

/-- The code of a signed value reads as the value itself. -/
theorem signed_codeOf {n : Nat} {i : Int} (hn : 0 < n) (lo : -2 ^ (n - 1) ≤ i) (hi : i < 2 ^ (n - 1)) : signed n (codeOf n i) = i := by
  obtain ⟨m, rfl⟩ : ∃ m, n = m + 1 := ⟨n - 1, by omega⟩
  simp only [Nat.add_sub_cancel] at lo hi ⊢
  have whole : (2 : Int) ^ (m + 1) = 2 * 2 ^ m := by ring
  have pos : (0 : Int) < 2 ^ m := by positivity
  have code : ((codeOf (m + 1) i : Nat) : Int) = i % 2 ^ (m + 1) := Int.toNat_of_nonneg (Int.emod_nonneg i (by positivity))
  rw [signed, Nat.mod_eq_of_lt (codeOf_lt _ _)]
  simp only [Nat.add_sub_cancel]
  rcases Int.lt_or_le i 0 with neg | nonneg
  · have value : i % 2 ^ (m + 1) = i + 2 ^ (m + 1) := by
      rw [← Int.add_emod_right, Int.emod_eq_of_lt (by omega) (by omega)]
    rw [if_neg, code, value]
    · ring
    · zify
      omega
  · have value : i % 2 ^ (m + 1) = i := Int.emod_eq_of_lt nonneg (by omega)
    rw [if_pos, code, value]
    zify
    omega

theorem signed_bounds (n v : Nat) (hn : 0 < n) : -2 ^ (n - 1) ≤ signed n v ∧ signed n v < 2 ^ (n - 1) := by
  obtain ⟨m, rfl⟩ : ∃ m, n = m + 1 := ⟨n - 1, by omega⟩
  have whole : (2 : Int) ^ (m + 1) = 2 * 2 ^ m := by ring
  have bound : ((v % 2 ^ (m + 1) : Nat) : Int) < 2 ^ (m + 1) := by exact_mod_cast Nat.mod_lt v (by positivity)
  rw [signed]
  simp only [Nat.add_sub_cancel]
  split
  · next small =>
    zify at small bound ⊢
    exact ⟨by have : (0 : Int) ≤ (v : Int) % 2 ^ (m + 1) := Int.emod_nonneg _ (by positivity)
              have : (0 : Int) < 2 ^ m := by positivity
              omega, small⟩
  · next large =>
    zify at large bound ⊢
    omega

theorem State.rdS_wrS {s : State} {f : Field} {i : Int} (hw : 0 < f.width) (lo : -2 ^ (f.width - 1) ≤ i) (hi : i < 2 ^ (f.width - 1)) :
    (s.wrS f i).rdS f = i := by
  rw [State.rdS, State.wrS, State.rd_wr_of_lt _ (codeOf_lt _ _), signed_codeOf hw lo hi]

/-! ### The time state, the rate and steps -/

/-- The fields that a change of the time state may change. -/
def timeStateFields : List Field := [RTC_STATUS_TRIM_FROZEN, SLT_LOST, NOTE_RAW 0x1E, MSIX_PBA, NOTE_RAW 0x18]

/-- A change of the time state before the calendar follows it. -/
def State.timeChanged (s : State) (v : TimeMode) : State :=
  ((({ s with time := { s.time with state := v } }.wrB RTC_STATUS_TRIM_FROZEN (v != TimeMode.locked)).silt 0x1801 s.time.state.code v.code).notice
    TIM_NOTE_STATE).askTime v

theorem State.setTime_same {s : State} {v : TimeMode} (h : s.time.state = v) : s.setTime v = s := if_pos h

/-- A change of the time state; LOCKED begins a window of the trim, and may ask for a step of calendar time. -/
theorem State.setTime_cases {s : State} {v : TimeMode} (h : s.time.state ≠ v) : ∃ c, s.setTime v = { s.timeChanged v with cal := c } := by
  have change : s.setTime v = if v ≠ .locked then s.timeChanged v
      else if (s.timeChanged v).windowStart.rdB RTC_STATUS_OSF && (s.timeChanged v).windowStart.rdB RTC_CTRL_AUTO_STEP then
        (s.timeChanged v).windowStart.rtcStep else (s.timeChanged v).windowStart := if_neg h
  rw [change]
  split
  · exact ⟨_, rfl⟩
  · split <;> exact ⟨_, rfl⟩

theorem State.timeChanged_parts (s : State) (v : TimeMode) :
    (s.timeChanged v).time = { s.time with state := v } ∧ (s.timeChanged v).modes = s.modes ∧
    OnlyFields timeStateFields s (s.timeChanged v) := by
  obtain ⟨r, e, i, silted⟩ := State.silt_eq ({ s with time := { s.time with state := v } }.wrB RTC_STATUS_TRIM_FROZEN (v != TimeMode.locked)) 0x1801
    s.time.state.code v.code 0 0
  refine ⟨?_, ?_, ?_⟩
  · refine (State.notice_time _ _).trans ?_
    rw [silted]; rfl
  · refine (State.notice_modes _ _).trans ?_
    rw [silted]; rfl
  · have written : OnlyFields timeStateFields s ({ s with time := { s.time with state := v } }.wrB RTC_STATUS_TRIM_FROZEN (v != TimeMode.locked)) :=
      OnlyFields.wr (OnlyFields.of_regs rfl) _ (by simp [timeStateFields])
    exact (OnlyFields.notice (written.silt _ _ _ _ _ (by simp [timeStateFields]) (by simp [timeStateFields]) (by simp [timeStateFields]))
      TIM_NOTE_STATE (by simp [timeStateFields]) (by simp [timeStateFields])).congr rfl

theorem State.setTime_parts (s : State) (v : TimeMode) :
    (s.setTime v).time = { s.time with state := v } ∧ (s.setTime v).modes = s.modes ∧ OnlyFields timeStateFields s (s.setTime v) := by
  by_cases same : s.time.state = v
  · rw [State.setTime_same same]
    refine ⟨?_, rfl, OnlyFields.refl _ _⟩
    rw [← same]
  · obtain ⟨c, change⟩ := State.setTime_cases same
    obtain ⟨time, modes, fields⟩ := s.timeChanged_parts v
    rw [change]
    exact ⟨time, modes, fields.congr rfl⟩

theorem State.moduleTimeAt_congr {s t : State} (time : t.time = s.time) (rate : t.rd TIM_RATE = s.rd TIM_RATE) (c : Nat) :
    t.moduleTimeAt c = s.moduleTimeAt c := by
  simp only [State.moduleTimeAt, State.rate, State.rdS, rate, time]

/-- A change of the rate does not step module time (R405). -/
theorem State.setRate_spec (s : State) {r : Int} (lo : -2 ^ 31 ≤ r) (hi : r < 2 ^ 31) :
    (s.setRate r).moduleTimeAt (s.setRate r).time.raw = s.moduleTimeAt s.time.raw ∧ (s.setRate r).rdS TIM_RATE = r ∧
    (s.setRate r).rate = clampInt (-1099511628) 1099511628 r := by
  have holds : (s.setRate r).rdS TIM_RATE = r := State.rdS_wrS (by decide) lo hi
  refine ⟨?_, holds, by rw [State.rate, holds]⟩
  have pair : (s.setRate r).time = { s.time with ta := s.moduleTimeAt s.time.raw, ca := s.time.raw } := rfl
  rw [State.moduleTimeAt, pair]
  simp

/-- What the MAC does at a step of module time leaves the other units alone (R171). -/
theorem State.macStep_kept_mac (s : State) (ns : Int) :
    Kept (fun i => Nat.testBit 0x120000004002 i = true) s (s.macStep ns) :=
  State.macStep_kept (.refl s) ns fun _ h => h

/-- A step of module time moves it by the step, counts and sets the notice. -/
theorem State.timeStep_spec (s : State) (ns : Int) :
    (s.timeStep ns).time = { s.time with ta := s.time.ta + ns } ∧
    (∀ c, (s.timeStep ns).moduleTimeAt c = s.moduleTimeAt c + ns) ∧
    (s.timeStep ns).rd TIM_STEPS = (s.rd TIM_STEPS + 1) % 2 ^ 32 ∧ Noted TIM_NOTE_STEP (s.timeStep ns) ∧
    (∀ f : Field, f.page = 0x18 → f.key ≠ TIM_STEPS.key → f.key ≠ (NOTE_RAW 0x18).key → (s.timeStep ns).rd f = s.rd f) := by
  let u : State := { s with
    time := { s.time with ta := s.time.ta + ns }
    cal := { s.cal with disturbed := true, window := s.cal.window.map fun (w : Int × Nat) => (w.1 + ns, w.2) } }
  have step : s.timeStep ns = ((u.count TIM_STEPS 1).notice TIM_NOTE_STEP).macStep ns := rfl
  have kept := State.macStep_kept_mac ((u.count TIM_STEPS 1).notice TIM_NOTE_STEP) ns
  have time : (s.timeStep ns).time = { s.time with ta := s.time.ta + ns } := by
    rw [step]
    exact (kept.frame .time (by decide)).trans (State.notice_time _ _)
  have page (f : Field) (h : f.page = 0x18) : (s.timeStep ns).rd f = ((u.count TIM_STEPS 1).notice TIM_NOTE_STEP).rd f :=
    kept.frame (.page 0x18) (by decide) f h
  have others (f : Field) (h : f.page = 0x18) (count : f.key ≠ TIM_STEPS.key) (note : f.key ≠ (NOTE_RAW 0x18).key) :
      (s.timeStep ns).rd f = s.rd f := by
    have pba : f.key ≠ MSIX_PBA.key := fun same => by
      rw [Field.page, same] at h
      exact absurd h (by decide)
    rw [page f h, State.rd_notice_ne _ TIM_NOTE_STEP note pba, State.rd_count_ne _ _ count]
    rfl
  refine ⟨time, fun c => ?_, ?_, ?_, others⟩
  · have rate : (s.timeStep ns).rd TIM_RATE = s.rd TIM_RATE := others _ (by decide) (by decide) (by decide)
    simp only [State.moduleTimeAt, State.rate, State.rdS, rate, time]
    ring
  · rw [page _ (by decide), State.rd_notice_ne _ TIM_NOTE_STEP (by decide) (by decide), State.rd_count_self]
    rfl
  · exact Noted.congr (n := TIM_NOTE_STEP) (State.noted_notice _ TIM_NOTE_STEP (by decide)) (page _ (by decide))

/-! ### Role HOST -/

theorem State.timHost_hostWrote (s : State) (port : Port) (a : Nat) : (s.hostWrote port false a).timHost = s.timHost := by
  rw [State.timHost, State.timHost, State.rd_hostWrote_ne _ _ _ _ (by decide) (by decide)]

theorem State.timCfgErr_spec (s : State) : s.timCfgErr.time = s.time ∧ s.timCfgErr.modes = s.modes ∧ Noted TIM_NOTE_CFG_ERR s.timCfgErr ∧
    OnlyFields [NOTE_RAW 0x18, MSIX_PBA] s s.timCfgErr :=
  ⟨State.notice_time _ _, State.notice_modes _ _, State.noted_notice _ TIM_NOTE_CFG_ERR (by decide),
    (OnlyFields.refl _ s).notice TIM_NOTE_CFG_ERR (by simp) (by simp)⟩

theorem State.hostState_spec (s : State) {v : Nat} (hv : v < 4) :
    (s.hostState v).modes = s.modes ∧
    if s.timHost = true ∧ v ≠ 3 then
      (s.hostState v).time.state = timeOf v ∧ (s.hostState v).time.host = timeOf v ∧ (s.hostState v).rd TIM_HOST_STATE = v
    else (s.hostState v).time = s.time ∧ Noted TIM_NOTE_CFG_ERR (s.hostState v) := by
  by_cases taken : s.timHost = true ∧ v ≠ 3
  · obtain ⟨time, modes, fields⟩ := State.setTime_parts ({ s with time := { s.time with host := timeOf v } }.wr TIM_HOST_STATE v) (timeOf v)
    rw [if_pos taken, State.hostState, if_neg (by simpa using taken)]
    refine ⟨modes, by rw [time], by rw [time]; rfl, ?_⟩
    rw [fields _ (by decide), State.rd_wr_of_lt _ hv]
  · obtain ⟨time, modes, noted, -⟩ := s.timCfgErr_spec
    rw [if_neg taken, State.hostState, if_pos (by cases host : s.timHost <;> simp_all)]
    exact ⟨modes, time, noted⟩

theorem State.hostRate_spec (s : State) (w : Nat) :
    (s.hostRate w).moduleTimeAt (s.hostRate w).time.raw = s.moduleTimeAt s.time.raw ∧
    if s.timHost then (s.hostRate w).rdS TIM_RATE = signed 32 w ∧
      (s.hostRate w).rate = max (-1099511628) (min 1099511628 (signed 32 w))
    else (s.hostRate w).time = s.time ∧ (s.hostRate w).rd TIM_RATE = s.rd TIM_RATE ∧ Noted TIM_NOTE_CFG_ERR (s.hostRate w) := by
  cases host : s.timHost with
  | true =>
    obtain ⟨lo, hi⟩ := signed_bounds 32 w (by decide)
    obtain ⟨stands, holds, force⟩ := s.setRate_spec lo hi
    simp only [State.hostRate, host, Bool.not_true, Bool.false_eq_true, if_false, if_true]
    exact ⟨stands, holds, force⟩
  | false =>
    obtain ⟨time, -, noted, fields⟩ := s.timCfgErr_spec
    have rate := fields TIM_RATE (by decide)
    simp only [State.hostRate, host, Bool.not_false, Bool.false_eq_true, if_false, if_true]
    exact ⟨by rw [State.moduleTimeAt_congr time rate, time], time, rate, noted⟩

theorem State.hostStep_spec (s : State) {w : Nat} (hw : w < 2 ^ 32) :
    if s.timHost then
      (s.hostStep w).moduleTimeAt (s.hostStep w).time.raw = s.moduleTimeAt s.time.raw + signed 64 (s.rd TIM_STEP_LO + 2 ^ 32 * w) ∧
      (s.hostStep w).rd TIM_STEPS = (s.rd TIM_STEPS + 1) % 2 ^ 32 ∧ Noted TIM_NOTE_STEP (s.hostStep w)
    else (s.hostStep w).time = s.time ∧ (s.hostStep w).rd TIM_STEPS = s.rd TIM_STEPS ∧ Noted TIM_NOTE_CFG_ERR (s.hostStep w) := by
  cases host : s.timHost with
  | true =>
    obtain ⟨time, moves, count, noted, -⟩ := (s.wr TIM_STEP_HI w).timeStep_spec (signed 64 (s.rd TIM_STEP_LO + 2 ^ 32 * w))
    simp only [State.hostStep, host, Bool.not_true, Bool.false_eq_true, if_false, if_true, Nat.mod_eq_of_lt hw]
    refine ⟨?_, by rw [count, State.rd_wr_ne _ _ (by decide)], noted⟩
    rw [moves, time, State.moduleTimeAt_congr (State.wr_time _ _ _) (State.rd_wr_ne _ _ (by decide))]
    rfl
  | false =>
    obtain ⟨time, -, noted, fields⟩ := s.timCfgErr_spec
    simp only [State.hostStep, host, Bool.not_false, Bool.false_eq_true, if_false, if_true]
    exact ⟨time, fields _ (by decide), noted⟩

/-! ### Capture and timestamps -/

theorem State.moduleTime_lt (s : State) : s.moduleTime < 2 ^ 64 := codeOf_lt _ _

/-- The values that TIM_CAPTURE publishes. -/
def State.captured (s : State) : State :=
  s.wrAll [(TIM_CAP_RAW_LO, s.time.raw), (TIM_CAP_RAW_HI, s.time.raw / 2 ^ 32), (TIM_CAP_MT_LO, s.moduleTime),
    (TIM_CAP_MT_HI, s.moduleTime / 2 ^ 32), (TIM_CAP_CAL_LO, s.cal.secs), (TIM_CAP_END_SECONDS, s.cal.secs / 2 ^ 32),
    (TIM_CAP_END_FRACTION, s.cal.frac)]

theorem State.capture_field (s : State) {f : Field} (page : f.key ≠ (NOTE_RAW 0x18).key) (pba : f.key ≠ MSIX_PBA.key)
    (fresh : f.key ≠ (FRESH 0x18).key) (seq : f.key ≠ TIM_CAP_SEQ.key) : s.capture.rd f = s.captured.rd f := by
  change ((s.captured.publish 0x18 1 TIM_CAP_SEQ).notice TIM_NOTE_CAPTURE).rd f = _
  rw [State.rd_notice_ne _ TIM_NOTE_CAPTURE page pba, State.rd_publish_ne _ _ _ _ fresh seq]

theorem State.capture_spec (s : State) :
    s.capture.rd TIM_CAP_RAW_LO = s.time.raw % 2 ^ 32 ∧ s.capture.rd TIM_CAP_MT_LO = s.moduleTime % 2 ^ 32 ∧
    s.capture.rd TIM_CAP_MT_HI = s.moduleTime / 2 ^ 32 ∧ s.capture.rd TIM_CAP_CAL_LO = s.cal.secs % 2 ^ 32 ∧
    s.capture.rd TIM_CAP_END_FRACTION = s.cal.frac % 2 ^ 16 ∧ s.capture.rd TIM_CAP_SEQ = (s.rd TIM_CAP_SEQ + 1) % 2 ^ 24 ∧
    bitAt (s.capture.rd (FRESH 0x18)) 1 = true ∧ Noted TIM_NOTE_CAPTURE s.capture ∧ s.capture.time = s.time := by
  have high : s.moduleTime / 2 ^ 32 < 2 ^ 32 := by have := s.moduleTime_lt; omega
  have whole : s.capture = (s.captured.publish 0x18 1 TIM_CAP_SEQ).notice TIM_NOTE_CAPTURE := rfl
  refine ⟨?_, ?_, ?_, ?_, ?_, ?_, ?_, ?_, ?_⟩
  · rw [s.capture_field (by decide) (by decide) (by decide) (by decide)]
    simp (disch := decide) only [State.captured, State.wrAll, State.rd_wr_ne, State.rd_wr_self]
  · rw [s.capture_field (by decide) (by decide) (by decide) (by decide)]
    simp (disch := decide) only [State.captured, State.wrAll, State.rd_wr_ne, State.rd_wr_self]
  · rw [s.capture_field (by decide) (by decide) (by decide) (by decide)]
    simp (disch := decide) only [State.captured, State.wrAll, State.rd_wr_ne, State.rd_wr_self]
    exact Nat.mod_eq_of_lt high
  · rw [s.capture_field (by decide) (by decide) (by decide) (by decide)]
    simp (disch := decide) only [State.captured, State.wrAll, State.rd_wr_ne, State.rd_wr_self]
  · rw [s.capture_field (by decide) (by decide) (by decide) (by decide)]
    simp (disch := decide) only [State.captured, State.wrAll, State.rd_wr_self]
  · rw [whole, State.rd_notice_ne _ TIM_NOTE_CAPTURE (by decide) (by decide), State.rd_publish_seq _ _ _ _ (by decide)]
    simp (disch := decide) only [State.captured, State.wrAll, State.rd_wr_ne]
  · rw [whole, State.rd_notice_ne _ TIM_NOTE_CAPTURE (by decide) (by decide)]
    exact State.fresh_publish _ _ _ _ (by decide)
  · exact State.noted_notice _ TIM_NOTE_CAPTURE (by decide)
  · exact State.notice_time _ _

/-- What the publication of the queue's head leaves (R415). -/
theorem State.tsPublish_spec (s : State) :
    s.tsPublish.time = s.time ∧ Publishes 0x18 s s.tsPublish ∧ s.tsPublish.rd TIM_TS_INFO_VALID = if s.time.tsQueue = [] then 0 else 1 := by
  rw [State.tsPublish]
  cases queue : s.time.tsQueue with
  | nil =>
    refine ⟨rfl, ⟨?_, State.fresh_publish _ _ _ _ (by decide)⟩, ?_⟩
    · rw [State.rd_publish_seq _ _ _ _ (by decide)]
      simp (disch := decide) only [State.wrAll, State.rd_wr_ne]
    · rw [State.rd_publish_ne _ _ _ _ (by decide) (by decide)]
      simp (disch := decide) only [State.wrAll, State.rd_wr_ne, State.rd_wr_self, if_true, Nat.zero_mod]
  | cons e l =>
    refine ⟨State.notice_time _ _, ⟨?_, ?_⟩, ?_⟩
    · rw [State.rd_notice_ne _ TIM_NOTE_TS_READY (by decide) (by decide), State.rd_publish_seq _ _ _ _ (by decide)]
      simp (disch := decide) only [State.wrAll, State.rd_wr_ne]
    · rw [State.rd_notice_ne _ TIM_NOTE_TS_READY (by decide) (by decide)]
      exact State.fresh_publish _ _ _ _ (by decide)
    · rw [State.rd_notice_ne _ TIM_NOTE_TS_READY (by decide) (by decide), State.rd_publish_ne _ _ _ _ (by decide) (by decide)]
      simp (disch := decide) only [State.wrAll, State.rd_wr_ne, State.rd_wr_self, reduceCtorEq, if_false]
      rfl

/-- What a pop leaves, by the queue that it finds (R415). -/
def TsPopped (s t : State) (n : Nat) : Prop :=
  match s.time.tsQueue with
  | [] => t.time = s.time ∧ Noted TIM_NOTE_POP_ERR t
  | _ :: rest =>
    if n = s.rd (SEQ_COUNT 0x18) then
      t.time = { s.time with tsQueue := rest } ∧ Publishes 0x18 s t ∧ t.rd TIM_TS_INFO_VALID = (if rest = [] then 0 else 1)
    else t.time = s.time ∧ t.rd (SEQ_COUNT 0x18) = s.rd (SEQ_COUNT 0x18) ∧ Noted TIM_NOTE_POP_ERR t

theorem State.tsPop_spec (s : State) (n : Nat) : TsPopped s (s.tsPop n) n := by
  rw [TsPopped, State.tsPop]
  cases queue : s.time.tsQueue with
  | nil => exact ⟨State.notice_time _ _, State.noted_notice _ TIM_NOTE_POP_ERR (by decide)⟩
  | cons e rest =>
    dsimp only
    by_cases head : n = s.rd (SEQ_COUNT 0x18)
    · rw [if_pos head, if_pos head]
      exact State.tsPublish_spec { s with time := { s.time with tsQueue := rest } }
    · rw [if_neg head, if_neg head]
      exact ⟨State.notice_time _ _, State.rd_notice_ne _ TIM_NOTE_POP_ERR (by decide) (by decide),
        State.noted_notice _ TIM_NOTE_POP_ERR (by decide)⟩

theorem TsPopped.of_hostWrote {s t : State} {port : Port} {a n : Nat} (h : TsPopped (s.hostWrote port false a) t n) : TsPopped s t n := by
  have count : (s.hostWrote port false a).rd (SEQ_COUNT 0x18) = s.rd (SEQ_COUNT 0x18) := State.rd_hostWrote_ne _ _ _ _ (by decide) (by decide)
  simp only [TsPopped, Publishes, State.hostWrote_time, count] at h
  exact h

/-! ### Pulse pins -/

theorem State.ppsDue_reach (s : State) (c d : Nat) : (s.reach c).ppsDue d = s.ppsDue d := by
  have pair : (s.reach c).time.ta = s.time.ta ∧ (s.reach c).time.ca = s.time.ca := by
    rw [State.reach]
    split <;> exact ⟨rfl, rfl⟩
  have at_ (d : Nat) : (s.reach c).moduleTimeAt d = s.moduleTimeAt d := by
    simp only [State.moduleTimeAt, State.rate, State.rdS, State.rd_reach, pair]
  have offset : (s.reach c).rdS TIM_PPS_OFS = s.rdS TIM_PPS_OFS := by rw [State.rdS, State.rdS, State.rd_reach]
  rw [State.ppsDue, State.ppsDue, offset, show (s.reach c).moduleTimeAt = s.moduleTimeAt from funext at_]

theorem State.reach_pins (s : State) (c : Nat) : (s.reach c).time.ppsLast = s.time.ppsLast ∧ (s.reach c).time.ppsInLast = s.time.ppsInLast ∧
    (s.reach c).emitted = s.emitted := by
  rw [State.reach]
  split <;> exact ⟨rfl, rfl, rfl⟩

/-- An instant within an interval of the last one. -/
theorem soon_iff (last : Option Nat) (raw n : Nat) :
    (match last with
      | some l => Decidable.decide (raw < l + n)
      | none => false) = true ↔ ∃ l, last = some l ∧ raw < l + n := by
  cases last <;> simp

theorem State.ppsPulse_spec (s : State) (c : Nat) :
    if s.rd TIM_PPS_CFG_EN = 0 ∨ s.ppsDue (s.reach c).time.raw = false ∨
        (∃ l, s.time.ppsLast = some l ∧ (s.reach c).time.raw < l + 125000000) then s.ppsPulse c = s.reach c
    else (s.ppsPulse c).emitted = s.emitted ++ [.ppsPulse (s.reach c).moduleTime (max 1 (s.rd TIM_PPS_CFG_WIDTH))] ∧
      (s.ppsPulse c).time = { (s.reach c).time with ppsLast := some ((s.reach c).time.raw) } := by
  obtain ⟨last, -, sent⟩ := s.reach_pins c
  have soon := soon_iff (s.reach c).time.ppsLast (s.reach c).time.raw 125000000
  have stays : (!(s.reach c).rdB TIM_PPS_CFG_EN || (match (s.reach c).time.ppsLast with
      | some l => Decidable.decide ((s.reach c).time.raw < l + 125000000)
      | none => false) || !(s.reach c).ppsDue (s.reach c).time.raw) = true ↔
      s.rd TIM_PPS_CFG_EN = 0 ∨ s.ppsDue (s.reach c).time.raw = false ∨
        (∃ l, s.time.ppsLast = some l ∧ (s.reach c).time.raw < l + 125000000) := by
    rw [Bool.or_eq_true, Bool.or_eq_true, soon, last, State.ppsDue_reach, Bool.not_eq_true', Bool.not_eq_true', State.rdB_false rfl,
      State.rd_reach, or_assoc, or_comm (a := ∃ l, _)]
  split
  · next still => exact if_pos (stays.mpr still)
  · next due =>
    have pulse : s.ppsPulse c = { s.reach c with time := { (s.reach c).time with ppsLast := some (s.reach c).time.raw } }.emit
        (.ppsPulse (s.reach c).moduleTime (max 1 ((s.reach c).rd TIM_PPS_CFG_WIDTH))) := if_neg fun h => due (stays.mp h)
    rw [pulse, State.rd_reach]
    exact ⟨by rw [← sent]; rfl, rfl⟩

theorem State.ppsEdge_spec (s : State) (falling : Bool) (c : Nat) :
    if s.rd TIM_PPS_IN_EN = 0 ∨ s.rd TIM_PPS_IN_EDGE ≠ (if falling then 1 else 0) ∨
        (∃ l, s.time.ppsInLast = some l ∧ (s.reach c).time.raw < l + 250000) then s.ppsEdge falling c = s.reach c
    else (s.ppsEdge falling c).rd TIM_PPSI_LO = (s.reach c).moduleTime % 2 ^ 32 ∧
      (s.ppsEdge falling c).rd TIM_PPSI_SEQ = (s.rd TIM_PPSI_SEQ + 1) % 2 ^ 24 ∧ Raises TIM_NOTE_PPS_IN s (s.ppsEdge falling c) ∧
      (s.ppsEdge falling c).time = { (s.reach c).time with ppsInLast := some ((s.reach c).time.raw) } := by
  obtain ⟨-, last, -⟩ := s.reach_pins c
  have soon := soon_iff (s.reach c).time.ppsInLast (s.reach c).time.raw 250000
  have passes : (!(s.reach c).rdB TIM_PPS_IN_EN || (s.reach c).rdB TIM_PPS_IN_EDGE != falling) = true ↔
      s.rd TIM_PPS_IN_EN = 0 ∨ s.rd TIM_PPS_IN_EDGE ≠ (if falling then 1 else 0) := by
    rw [Bool.or_eq_true, Bool.not_eq_true', State.rdB_false rfl, State.rd_reach, State.rdB, State.rd_reach]
    rcases State.rd_bit s (f := TIM_PPS_IN_EDGE) rfl with edge | edge <;> cases falling <;> simp [edge]
  by_cases other : s.rd TIM_PPS_IN_EN = 0 ∨ s.rd TIM_PPS_IN_EDGE ≠ (if falling then 1 else 0)
  · rw [if_pos (by tauto)]
    exact if_pos (passes.mpr other)
  by_cases near : ∃ l, s.time.ppsInLast = some l ∧ (s.reach c).time.raw < l + 250000
  · rw [if_pos (by tauto)]
    rw [← last] at near
    exact (if_neg fun h => other (passes.mp h)).trans (if_pos (soon.mpr near))
  rw [if_neg fun h => h.elim (other ∘ .inl) fun k => k.elim (other ∘ .inr) near]
  let u : State := { s.reach c with time := { (s.reach c).time with ppsInLast := some (s.reach c).time.raw } }
  have edge : s.ppsEdge falling c = (((u.wr TIM_PPSI_LO (s.reach c).moduleTime).wr TIM_PPSI_HI ((s.reach c).moduleTime / 2 ^ 32)).publish
      0x18 2 TIM_PPSI_SEQ).notice TIM_NOTE_PPS_IN := by
    rw [← last] at near
    exact (if_neg fun h => other (passes.mp h)).trans (if_neg fun h => near (soon.mp h))
  have fields (f : Field) : u.rd f = s.rd f := (State.rd_congr rfl f).trans (State.rd_reach s c f)
  rw [edge]
  refine ⟨?_, ?_, Raises.of_rd (State.raises_notice _ TIM_NOTE_PPS_IN (by decide)) ?_, State.notice_time _ _⟩
  · rw [State.rd_notice_ne _ TIM_NOTE_PPS_IN (by decide) (by decide), State.rd_publish_ne _ _ _ _ (by decide) (by decide),
      State.rd_wr_ne _ _ (by decide), State.rd_wr_self]
  · rw [State.rd_notice_ne _ TIM_NOTE_PPS_IN (by decide) (by decide), State.rd_publish_seq _ _ _ _ (by decide),
      State.rd_wr_ne _ _ (by decide), State.rd_wr_ne _ _ (by decide), fields]
  · rw [State.rd_publish_ne _ _ _ _ (by decide) (by decide), State.rd_wr_ne _ _ (by decide), State.rd_wr_ne _ _ (by decide)]
    exact fields _

/-- Settles O39: each command by the role, the head or the pins that it finds. -/
theorem hostTimeCommands : Obligations.HostTimeCommands := by
  refine ⟨fun s port v h wf => ?_, fun s port w h wf => ?_, fun s port w h wf => ?_, fun s port h => ?_, fun s port n h => ?_,
    fun s c live => ?_, fun s c falling live => ?_⟩
  · refine Completes.effect rfl h ?_
    have spec := State.hostState_spec (s.hostWrote port false TIM_HOST_STATE.addr) wf
    simpa only [State.timHost_hostWrote, State.hostWrote_modes, State.hostWrote_time] using spec
  · refine Completes.effect rfl h ?_
    have rate : (s.hostWrote port false TIM_RATE.addr).rd TIM_RATE = s.rd TIM_RATE := State.rd_hostWrote_ne _ _ _ _ (by decide) (by decide)
    have spec := (s.hostWrote port false TIM_RATE.addr).hostRate_spec w
    simpa only [State.timHost_hostWrote, State.hostWrote_time, rate, State.moduleTimeAt_congr (s.hostWrote_time port false TIM_RATE.addr) rate]
      using spec
  · refine Completes.effect rfl h ?_
    have rate : (s.hostWrote port false TIM_STEP_HI.addr).rd TIM_RATE = s.rd TIM_RATE := State.rd_hostWrote_ne _ _ _ _ (by decide) (by decide)
    have lo : (s.hostWrote port false TIM_STEP_HI.addr).rd TIM_STEP_LO = s.rd TIM_STEP_LO :=
      State.rd_hostWrote_ne _ _ _ _ (by decide) (by decide)
    have steps : (s.hostWrote port false TIM_STEP_HI.addr).rd TIM_STEPS = s.rd TIM_STEPS :=
      State.rd_hostWrote_ne _ _ _ _ (by decide) (by decide)
    have spec := (s.hostWrote port false TIM_STEP_HI.addr).hostStep_spec (w := w) wf
    simpa only [State.timHost_hostWrote, State.hostWrote_time, lo, steps,
      State.moduleTimeAt_congr (s.hostWrote_time port false TIM_STEP_HI.addr) rate] using spec
  · refine Completes.effect rfl h ?_
    have seq : (s.hostWrote port false TIM_CAPTURE_GO.addr).rd TIM_CAP_SEQ = s.rd TIM_CAP_SEQ :=
      State.rd_hostWrote_ne _ _ _ _ (by decide) (by decide)
    have spec := (s.hostWrote port false TIM_CAPTURE_GO.addr).capture_spec
    simpa only [State.hostWrote_time, State.hostWrote_cal, State.moduleTime_hostWrote, seq] using spec
  · exact Completes.effect rfl h (State.tsPop_spec _ n).of_hostWrote
  · refine State.whenLive_completes rfl live ?_
    simpa only using s.ppsPulse_spec c
  · refine State.whenLive_completes rfl live ?_
    simpa only using s.ppsEdge_spec falling c

end Sys2Proof.Machine
end

section
/-! SUPPORT. Messages of the IEEE 1588 engine and its servo (O37). -/

namespace Sys2Proof.Machine

/-- A change of the time state leaves the notices of its page set. -/
theorem State.setTime_noted {n : Notice} {s : State} (page : n.page = 0x18) (h : Noted n s) (v : TimeMode) : Noted n (s.setTime v) := by
  by_cases same : s.time.state = v
  · rwa [State.setTime_same same]
  obtain ⟨c, change⟩ := State.setTime_cases same
  let u : State := ({ s with time := { s.time with state := v } }.wrB RTC_STATUS_TRIM_FROZEN (v != TimeMode.locked)).silt 0x1801
    s.time.state.code v.code
  have before : Noted n u := by
    refine Noted.congr (n := n) h ?_
    rw [page, State.rd_silt_ne _ _ _ _ _ _ (by decide) (by decide) (by decide)]
    exact State.rd_wr_ne _ _ (by decide)
  rw [change]
  exact Noted.congr (n := n) (Noted.notice before TIM_NOTE_STATE page.symm (by decide)) (State.rd_congr rfl _)

/-! ### The servo -/

theorem State.moduleTimeAt_of_pair {s t : State} (ta : t.time.ta = s.time.ta) (ca : t.time.ca = s.time.ca)
    (rate : t.rd TIM_RATE = s.rd TIM_RATE) (c : Nat) : t.moduleTimeAt c = s.moduleTimeAt c := by
  simp only [State.moduleTimeAt, State.rate, State.rdS, rate, ta, ca]

theorem clampInt_bounds {lo hi : Int} (h : lo ≤ hi) (x : Int) : lo ≤ clampInt lo hi x ∧ clampInt lo hi x ≤ hi := by
  simp only [clampInt]
  omega

/-- The offset that the servo takes is shown, within its register. -/
def State.offsetShown (s : State) (θ : Int) : State := s.wrS TIM_OFFSET_MEAS (clampInt (-(2 ^ 31 - 1)) (2 ^ 31 - 1) θ)

theorem State.offsetShown_reads (s : State) (θ : Int) :
    (s.offsetShown θ).rdS TIM_OFFSET_MEAS = max (-(2 ^ 31 - 1)) (min (2 ^ 31 - 1) θ) := by
  obtain ⟨lo, hi⟩ := clampInt_bounds (lo := -(2 ^ 31 - 1)) (hi := 2 ^ 31 - 1) (by decide) θ
  have fits : clampInt (-(2 ^ 31 - 1)) (2 ^ 31 - 1) θ < 2 ^ (TIM_OFFSET_MEAS.width - 1) := Int.lt_of_le_of_lt hi (by decide)
  exact State.rdS_wrS (by decide) (Int.le_trans (by decide) lo) fits

theorem State.offsetShown_fields (s : State) (θ : Int) {f : Field} (h : f.key ≠ TIM_OFFSET_MEAS.key) : (s.offsetShown θ).rd f = s.rd f :=
  State.rd_wr_ne _ _ h

/-- The rate and the integral after an adjustment (R409). -/
theorem State.servoAdjust_spec (s : State) (θ : Int) :
    (s.servoAdjust θ).rdS TIM_RATE = max (-1099511628) (min 1099511628
      (-(s.rd TIM_SERVO_KP * θ + (s.time.servoI + s.rd TIM_SERVO_KI * θ / 16)))) ∧
    (s.servoAdjust θ).time.servoI = s.time.servoI + s.rd TIM_SERVO_KI * θ / 16 := by
  obtain ⟨lo, hi⟩ := clampInt_bounds (lo := -1099511628) (hi := 1099511628) (by decide)
    (-(s.rd TIM_SERVO_KP * θ + (s.time.servoI + s.rd TIM_SERVO_KI * θ / 16)))
  obtain ⟨-, holds, -⟩ := s.setRate_spec (Int.le_trans (by decide) lo) (Int.lt_of_le_of_lt hi (by decide))
  exact ⟨holds, rfl⟩

/-- Beyond the step limit (R409). -/
def State.servoStepped (s : State) (θ : Int) : State := (((s.offsetShown θ).timeStep (-θ)).setServo 0 0).setTime .free

/-- Within the step limit the rate follows in LOCKED alone (R409). -/
def State.servoRated (s : State) (θ : Int) : State :=
  if s.time.state = .locked then (s.offsetShown θ).servoAdjust θ else s.offsetShown θ

/-- The run of offsets within the lock limit after an offset. -/
def State.runAfter (s : State) (θ : Int) : Nat := if θ.natAbs ≤ s.rd TIM_LOCK_NS then s.time.lockRun + 1 else 0

theorem State.servoRated_parts (s : State) (θ : Int) :
    (s.servoRated θ).time.lockRun = s.time.lockRun ∧ (s.servoRated θ).time.state = s.time.state ∧
    (s.servoRated θ).time.held = s.time.held ∧ (s.servoRated θ).time.t1 = s.time.t1 ∧ (s.servoRated θ).time.t2 = s.time.t2 ∧
    (s.servoRated θ).moduleTimeAt (s.servoRated θ).time.raw = s.moduleTimeAt s.time.raw ∧
    OnlyFields [TIM_OFFSET_MEAS, TIM_RATE] s (s.servoRated θ) ∧
    (s.servoRated θ).rdS TIM_OFFSET_MEAS = max (-(2 ^ 31 - 1)) (min (2 ^ 31 - 1) θ) := by
  have stays : (s.offsetShown θ).moduleTimeAt (s.offsetShown θ).time.raw = s.moduleTimeAt s.time.raw :=
    State.moduleTimeAt_of_pair (s := s) (t := s.offsetShown θ) rfl rfl (s.offsetShown_fields θ (by decide)) _
  have shown : OnlyFields [TIM_OFFSET_MEAS, TIM_RATE] s (s.offsetShown θ) := (OnlyFields.refl _ s).wr _ (by simp)
  rw [State.servoRated]
  split
  · obtain ⟨stands, -, -⟩ := (s.offsetShown θ).setRate_spec
      (r := clampInt (-1099511628) 1099511628 (-((s.offsetShown θ).rd TIM_SERVO_KP * θ + ((s.offsetShown θ).time.servoI +
        (s.offsetShown θ).rd TIM_SERVO_KI * θ / 16))))
      (by have := (clampInt_bounds (lo := -1099511628) (hi := 1099511628) (by decide) (-((s.offsetShown θ).rd TIM_SERVO_KP * θ +
            ((s.offsetShown θ).time.servoI + (s.offsetShown θ).rd TIM_SERVO_KI * θ / 16)))).1
          omega)
      (by have := (clampInt_bounds (lo := -1099511628) (hi := 1099511628) (by decide) (-((s.offsetShown θ).rd TIM_SERVO_KP * θ +
            ((s.offsetShown θ).time.servoI + (s.offsetShown θ).rd TIM_SERVO_KI * θ / 16)))).2
          omega)
    refine ⟨rfl, rfl, rfl, rfl, rfl, ?_, ?_, ?_⟩
    · refine Eq.trans ?_ (stands.trans stays)
      exact State.moduleTimeAt_of_pair rfl rfl rfl _
    · exact (shown.wr _ (by simp)).congr rfl
    · rw [← s.offsetShown_reads θ, State.rdS, State.rdS]
      exact congrArg _ (State.rd_wr_ne _ _ (by decide))
  · exact ⟨rfl, rfl, rfl, rfl, rfl, stays, shown, s.offsetShown_reads θ⟩

theorem State.servo_cases (s : State) (θ : Int) :
    s.servo θ = if (s.rd TIM_SERVO_STEP_NS : Int) < θ.natAbs then s.servoStepped θ
      else if max 1 (s.rd TIM_LOCK_COUNT) ≤ s.runAfter θ then
        ((s.servoRated θ).setServo (s.servoRated θ).time.servoI (s.runAfter θ)).setTime .locked
      else (s.servoRated θ).setServo (s.servoRated θ).time.servoI (s.runAfter θ) := by
  obtain ⟨run, -, -, -, -, -, fields, -⟩ := s.servoRated_parts θ
  have limit : (s.offsetShown θ).rd TIM_SERVO_STEP_NS = s.rd TIM_SERVO_STEP_NS := s.offsetShown_fields θ (by decide)
  have lock : (s.servoRated θ).rd TIM_LOCK_NS = s.rd TIM_LOCK_NS := fields _ (by decide)
  have count : ((s.servoRated θ).setServo (s.servoRated θ).time.servoI (s.runAfter θ)).rd TIM_LOCK_COUNT = s.rd TIM_LOCK_COUNT :=
    fields TIM_LOCK_COUNT (by decide)
  have whole : s.servo θ = if ((s.offsetShown θ).rd TIM_SERVO_STEP_NS : Int) < θ.natAbs then s.servoStepped θ
      else
        let run := if θ.natAbs ≤ (s.servoRated θ).rd TIM_LOCK_NS then (s.servoRated θ).time.lockRun + 1 else 0
        let u := (s.servoRated θ).setServo (s.servoRated θ).time.servoI run
        if max 1 (u.rd TIM_LOCK_COUNT) ≤ run then u.setTime .locked else u := rfl
  rw [whole, limit, lock, run]
  dsimp only
  rw [← State.runAfter, count]

/-- What the servo does within the step limit. -/
theorem State.servo_within {s : State} {θ : Int} (h : θ.natAbs ≤ s.rd TIM_SERVO_STEP_NS) :
    (s.servo θ).moduleTimeAt (s.servo θ).time.raw = s.moduleTimeAt s.time.raw ∧ (s.servo θ).time.lockRun = s.runAfter θ ∧
    (max 1 (s.rd TIM_LOCK_COUNT) ≤ s.runAfter θ → (s.servo θ).time.state = .locked) ∧
    (s.servo θ).rd TIM_RATE = (s.servoRated θ).rd TIM_RATE ∧ (s.servo θ).time.servoI = (s.servoRated θ).time.servoI := by
  obtain ⟨-, -, -, -, -, stands, -, -⟩ := s.servoRated_parts θ
  rw [s.servo_cases, if_neg (by omega)]
  split
  · next locks =>
    obtain ⟨time, -, fields⟩ := ((s.servoRated θ).setServo (s.servoRated θ).time.servoI (s.runAfter θ)).setTime_parts .locked
    have rate := fields TIM_RATE (by decide)
    refine ⟨?_, by rw [time]; rfl, fun _ => by rw [time], rate, by rw [time]; rfl⟩
    rw [State.moduleTimeAt_of_pair (s := s.servoRated θ) (by rw [time]; rfl) (by rw [time]; rfl) rate, time]
    exact stands
  · next short => exact ⟨stands, rfl, fun locks => absurd locks short, rfl, rfl⟩

/-- What the servo does beyond the step limit. -/
theorem State.servo_beyond {s : State} {θ : Int} (h : s.rd TIM_SERVO_STEP_NS < θ.natAbs) :
    (s.servo θ).moduleTimeAt (s.servo θ).time.raw = s.moduleTimeAt s.time.raw - θ ∧ (s.servo θ).time.state = .free ∧
    (s.servo θ).time.servoI = 0 ∧ (s.servo θ).time.lockRun = 0 ∧ (s.servo θ).rd TIM_STEPS = (s.rd TIM_STEPS + 1) % 2 ^ 32 ∧
    Noted TIM_NOTE_STEP (s.servo θ) := by
  obtain ⟨stepped, moves, count, noted, page⟩ := (s.offsetShown θ).timeStep_spec (-θ)
  obtain ⟨time, -, fields⟩ := (((s.offsetShown θ).timeStep (-θ)).setServo 0 0).setTime_parts .free
  have rate : (s.servoStepped θ).rd TIM_RATE = ((s.offsetShown θ).timeStep (-θ)).rd TIM_RATE := fields _ (by decide)
  have ta : (s.servoStepped θ).time.ta = ((s.offsetShown θ).timeStep (-θ)).time.ta := by rw [State.servoStepped, time]; rfl
  have ca : (s.servoStepped θ).time.ca = ((s.offsetShown θ).timeStep (-θ)).time.ca := by rw [State.servoStepped, time]; rfl
  have raw : (s.servoStepped θ).time.raw = s.time.raw := by
    rw [State.servoStepped, time]
    exact (congrArg TimeUnit.raw stepped :)
  rw [s.servo_cases, if_pos (by exact_mod_cast h)]
  refine ⟨?_, ?_, ?_, ?_, ?_, ?_⟩
  · rw [State.moduleTimeAt_of_pair ta ca rate, raw, moves,
      State.moduleTimeAt_of_pair (s := s) (t := s.offsetShown θ) rfl rfl (s.offsetShown_fields θ (by decide))]
    ring
  · rw [State.servoStepped, time]
  · rw [State.servoStepped, time]; rfl
  · rw [State.servoStepped, time]; rfl
  · exact (fields TIM_STEPS (by decide)).trans (count.trans (by rw [s.offsetShown_fields θ (f := TIM_STEPS) (by decide)]))
  · have kept : Noted TIM_NOTE_STEP (((s.offsetShown θ).timeStep (-θ)).setServo 0 0) :=
      Noted.congr (n := TIM_NOTE_STEP) noted (State.rd_congr rfl _)
    exact State.setTime_noted (n := TIM_NOTE_STEP) rfl kept .free

/-- What every offset leaves: it is shown, and what the messages have brought stands. -/
theorem State.servo_leaves (s : State) (θ : Int) :
    (s.servo θ).rdS TIM_OFFSET_MEAS = max (-(2 ^ 31 - 1)) (min (2 ^ 31 - 1) θ) ∧ (s.servo θ).time.held = s.time.held ∧
    (s.servo θ).time.t1 = s.time.t1 ∧ (s.servo θ).time.t2 = s.time.t2 ∧ (s.servo θ).rd TIM_PORT_STATE = s.rd TIM_PORT_STATE := by
  obtain ⟨-, -, held, t1, t2, -, rated, shown⟩ := s.servoRated_parts θ
  rw [s.servo_cases]
  split
  · obtain ⟨stepped, -, -, -, page⟩ := (s.offsetShown θ).timeStep_spec (-θ)
    obtain ⟨time, -, fields⟩ := (((s.offsetShown θ).timeStep (-θ)).setServo 0 0).setTime_parts .free
    have parts : (s.servoStepped θ).time.held = s.time.held ∧ (s.servoStepped θ).time.t1 = s.time.t1 ∧
        (s.servoStepped θ).time.t2 = s.time.t2 := by
      rw [State.servoStepped, time, State.setServo, stepped]
      exact ⟨rfl, rfl, rfl⟩
    refine ⟨?_, parts.1, parts.2.1, parts.2.2, ?_⟩
    · rw [← s.offsetShown_reads θ, State.rdS, State.rdS]
      exact congrArg _ ((fields TIM_OFFSET_MEAS (by decide)).trans (page TIM_OFFSET_MEAS (by decide) (by decide) (by decide)))
    · exact ((fields TIM_PORT_STATE (by decide)).trans (page TIM_PORT_STATE (by decide) (by decide) (by decide))).trans
        (s.offsetShown_fields θ (by decide))
  · split
    · obtain ⟨time, -, fields⟩ := ((s.servoRated θ).setServo (s.servoRated θ).time.servoI (s.runAfter θ)).setTime_parts .locked
      refine ⟨?_, by rw [time]; exact held, by rw [time]; exact t1, by rw [time]; exact t2, ?_⟩
      · rw [← shown, State.rdS, State.rdS]
        exact congrArg _ (fields TIM_OFFSET_MEAS (by decide))
      · exact (fields TIM_PORT_STATE (by decide)).trans (rated TIM_PORT_STATE (by decide))
    · exact ⟨shown, held, t1, t2, rated TIM_PORT_STATE (by decide)⟩

/-! ### Port states -/

/-- A three-bit state put in place of another in a word of six leaves the word within its register, and every other state alone. -/
theorem bitsOf_put {w k v : Nat} (hk : k < 6) (hw : w < 2 ^ 18) (hv : v < 8) :
    w - bitsOf w (3 * k) 3 * 2 ^ (3 * k) + v * 2 ^ (3 * k) < 2 ^ 18 ∧
    ∀ j, j < 6 → bitsOf (w - bitsOf w (3 * k) 3 * 2 ^ (3 * k) + v * 2 ^ (3 * k)) (3 * j) 3 = if j = k then v else bitsOf w (3 * j) 3 := by
  simp only [bitsOf]
  refine ⟨by interval_cases k <;> omega, fun j hj => ?_⟩
  interval_cases k <;> interval_cases j <;> simp <;> omega

theorem State.ptpState_setPtpState (s : State) {j k v : Nat} (hk : k < 6) (hj : j < 6) (hv : v < 8) :
    (s.setPtpState k v).ptpState j = if j = k then v else s.ptpState j := by
  obtain ⟨fits, states⟩ := bitsOf_put (w := s.rd TIM_PORT_STATE) hk (State.rd_lt s TIM_PORT_STATE) hv
  rw [State.ptpState, State.setPtpState, State.ptpState, State.rd_wr_of_lt _ fits, states j hj, State.ptpState]

theorem State.fromParent_state {s : State} {k sender senderPort domain : Nat} (h : s.fromParent k sender senderPort domain = true) :
    s.ptpState k = 3 ∨ s.ptpState k = 2 := by
  simp only [State.fromParent, Bool.and_eq_true, Bool.or_eq_true, beq_iff_eq] at h
  exact h.1.1.1.1.2

/-- The port that hears its parent is SLAVE after its first Sync. -/
theorem State.calibrated_spec {s : State} {k : Nat} (hk : k < 6) (h : s.ptpState k = 3 ∨ s.ptpState k = 2) :
    (s.calibrated k).ptpState k = 3 ∧ (s.calibrated k).time = s.time ∧ OnlyFields [TIM_PORT_STATE] s (s.calibrated k) := by
  rw [State.calibrated]
  split
  · exact ⟨(s.ptpState_setPtpState hk hk (by decide)).trans (if_pos rfl), rfl, (OnlyFields.refl _ s).wr _ (by simp)⟩
  · next other => exact ⟨h.resolve_right other, rfl, OnlyFields.refl _ s⟩

/-! ### Messages -/

theorem State.stamped_now {s : State} (h : s.isolated 0x18 = false) (x : HeldStamp) : s.stamped x = s.stampActs x := by
  rw [State.stamped, if_neg (by rw [h]; decide)]

theorem State.stamped_held {s : State} (h : s.isolated 0x18 = true) (x : HeldStamp) :
    s.stamped x = { s with time := { s.time with stamped := s.time.stamped ++ [x] } } := if_pos h

theorem State.ptpState_congr {s t : State} (h : t.rd TIM_PORT_STATE = s.rd TIM_PORT_STATE) (k : Nat) : t.ptpState k = s.ptpState k := by
  rw [State.ptpState, State.ptpState, h]

/-- A one-step Sync from the parent: the port is SLAVE and the servo takes the offset (R409). -/
theorem State.syncTaken_oneStep {s : State} {k sender senderPort domain : Nat} (h : s.fromParent k sender senderPort domain = true)
    (hk : k < 6) (seq : Nat) (rx origin corr : Int) :
    let off := rx - origin - s.rd TIM_MEAN_DELAY - corr
    let t := s.syncTaken k sender senderPort domain seq rx origin corr false
    t.ptpState k = 3 ∧ t.rdS TIM_OFFSET_MEAS = max (-(2 ^ 31 - 1)) (min (2 ^ 31 - 1) off) ∧
    if off.natAbs ≤ s.rd TIM_SERVO_STEP_NS then
      t.moduleTimeAt t.time.raw = s.moduleTimeAt s.time.raw ∧
      t.time.lockRun = (if off.natAbs ≤ s.rd TIM_LOCK_NS then s.time.lockRun + 1 else 0) ∧
      (off.natAbs ≤ s.rd TIM_LOCK_NS → max 1 (s.rd TIM_LOCK_COUNT) ≤ s.time.lockRun + 1 → t.time.state = .locked) ∧
      if s.time.state = .locked then
        t.rdS TIM_RATE = max (-1099511628) (min 1099511628
          (-(s.rd TIM_SERVO_KP * off + (s.time.servoI + s.rd TIM_SERVO_KI * off / 16)))) ∧
        t.time.servoI = s.time.servoI + s.rd TIM_SERVO_KI * off / 16
      else t.rd TIM_RATE = s.rd TIM_RATE ∧ t.time.servoI = s.time.servoI
    else
      t.moduleTimeAt t.time.raw = s.moduleTimeAt s.time.raw - off ∧ t.time.state = .free ∧ t.time.servoI = 0 ∧ t.time.lockRun = 0 ∧
      t.rd TIM_STEPS = (s.rd TIM_STEPS + 1) % 2 ^ 32 ∧ Noted TIM_NOTE_STEP t := by
  obtain ⟨slave, time, fields⟩ := State.calibrated_spec hk (State.fromParent_state h)
  let u : State := { s.calibrated k with time := { (s.calibrated k).time with t1 := origin + corr, t2 := rx } }
  have rd (f : Field) (hf : f.key ≠ TIM_PORT_STATE.key) : u.rd f = s.rd f := fields f (by simpa using hf)
  have taken : s.syncTaken k sender senderPort domain seq rx origin corr false = u.servo (rx - origin - s.rd TIM_MEAN_DELAY - corr) := by
    rw [State.syncTaken, h, ← rd TIM_MEAN_DELAY (by decide)]
    rfl
  have parts : u.time.state = s.time.state ∧ u.time.lockRun = s.time.lockRun ∧ u.time.servoI = s.time.servoI ∧ u.time.raw = s.time.raw ∧
      u.time.ta = s.time.ta ∧ u.time.ca = s.time.ca := by
    simp only [u, time, and_self]
  obtain ⟨state, lockRun, servoI, raw, ta, ca⟩ := parts
  have stays : u.moduleTimeAt u.time.raw = s.moduleTimeAt s.time.raw := by
    rw [raw, State.moduleTimeAt_of_pair ta ca (rd _ (by decide))]
  dsimp only
  rw [taken]
  generalize rx - origin - s.rd TIM_MEAN_DELAY - corr = off
  obtain ⟨shown, -, -, -, ports⟩ := u.servo_leaves off
  refine ⟨?_, shown, ?_⟩
  · exact (State.ptpState_congr ports k).trans slave
  have limit := rd TIM_SERVO_STEP_NS (by decide)
  by_cases within : off.natAbs ≤ s.rd TIM_SERVO_STEP_NS
  · obtain ⟨mt, run, locks, rate, integral⟩ := State.servo_within (s := u) (θ := off) (by rwa [limit])
    have after : u.runAfter off = if off.natAbs ≤ s.rd TIM_LOCK_NS then s.time.lockRun + 1 else 0 := by
      rw [State.runAfter, rd _ (by decide), lockRun]
    rw [if_pos within]
    refine ⟨mt.trans stays, run.trans after, fun near enough => locks ?_, ?_⟩
    · rw [after, if_pos near, rd _ (by decide)]
      exact enough
    · have kp := (u.offsetShown_fields off (f := TIM_SERVO_KP) (by decide)).trans (rd _ (by decide))
      have ki := (u.offsetShown_fields off (f := TIM_SERVO_KI) (by decide)).trans (rd _ (by decide))
      rw [integral, State.rdS, rate, ← State.rdS, State.servoRated, state]
      split
      · obtain ⟨rated, integrated⟩ := (u.offsetShown off).servoAdjust_spec off
        have before : (u.offsetShown off).time.servoI = s.time.servoI := servoI
        rw [kp, ki, before] at rated
        rw [ki, before] at integrated
        exact ⟨rated, integrated⟩
      · exact ⟨(u.offsetShown_fields off (by decide)).trans (rd _ (by decide)), servoI⟩
  · rw [if_neg within]
    obtain ⟨mt, free, integral, run, steps, noted⟩ := State.servo_beyond (s := u) (θ := off) (by rw [limit]; omega)
    exact ⟨by rw [mt, stays], free, integral, run, by rw [steps, rd _ (by decide)], noted⟩

/-- A message leaves once by each transport. -/
theorem State.ptpEmit_spec (s : State) (k : Nat) (kind : PtpKind) (seq domain : Nat) (ns : Int) (data : Option Announce) :
    s.ptpEmit k kind seq domain ns data =
      { s with emitted := s.emitted ++ s.ptpTransports.map fun x => .ptp k x kind seq domain ns data } := by
  have sends : ∀ (l : List Nat) (u : State), l.foldl (fun u x => u.emit (.ptp k x kind seq domain ns data)) u =
      { u with emitted := u.emitted ++ l.map fun x => .ptp k x kind seq domain ns data } := by
    intro l
    induction l with
    | nil => intro u; simp
    | cons x l ih => intro u; rw [List.foldl_cons, ih]; simp [State.emit]
  exact sends _ s

/-- What a Delay_Resp from the parent leaves. -/
theorem State.delayRespTaken_spec {s : State} {k sender senderPort domain seq : Nat} {t3 : Int}
    (h : s.fromParent k sender senderPort domain = true) (sent : s.time.t3 = some (seq, t3)) (t4 corr : Int) :
    let t := s.delayRespTaken k sender senderPort domain seq t4 corr
    t.time = { s.time with t3 := none } ∧ OnlyFields [TIM_MEAN_DELAY] s t ∧
    (t.rd TIM_MEAN_DELAY : Int) = max 0 (min (2 ^ 32 - 1) (((s.time.t2 - t3) + (t4 - s.time.t1) - corr) / 2)) := by
  have taken : s.delayRespTaken k sender senderPort domain seq t4 corr =
      { s with time := { s.time with t3 := none } }.wr TIM_MEAN_DELAY
        (clampInt 0 (2 ^ 32 - 1) (((s.time.t2 - t3) + (t4 - s.time.t1) - corr) / 2)).toNat := by
    rw [State.delayRespTaken, h, sent]
    simp
  obtain ⟨lo, hi⟩ := clampInt_bounds (lo := 0) (hi := 2 ^ 32 - 1) (by decide) (((s.time.t2 - t3) + (t4 - s.time.t1) - corr) / 2)
  dsimp only
  rw [taken]
  refine ⟨rfl, (OnlyFields.of_regs rfl).wr _ (by simp), ?_⟩
  rw [State.rd_wr_of_lt _ (by change _ < 2 ^ 32; omega), Int.toNat_of_nonneg lo]
  rfl

theorem State.followUpTaken_spec {s : State} {k sender senderPort domain seq : Nat} {h : HeldSync}
    (parent : s.fromParent k sender senderPort domain = true) (held : s.time.held = some h) (same : h.seq = seq) (origin corr : Int) :
    let t := s.followUpTaken k sender senderPort domain seq origin corr
    t.time.held = none ∧ t.time.t1 = origin + (h.corr + corr) ∧ t.time.t2 = h.rx ∧
    t.rdS TIM_OFFSET_MEAS = max (-(2 ^ 31 - 1)) (min (2 ^ 31 - 1) (h.rx - origin - s.rd TIM_MEAN_DELAY - (h.corr + corr))) := by
  let u : State := { s with time := { s.time with held := none, t1 := origin + (h.corr + corr), t2 := h.rx } }
  have taken : s.followUpTaken k sender senderPort domain seq origin corr =
      u.servo (h.rx - origin - s.rd TIM_MEAN_DELAY - (h.corr + corr)) := by
    simp only [State.followUpTaken, parent, held, same, if_true, Bool.not_true, Bool.false_eq_true, if_false]
    rfl
  obtain ⟨shown, nothing, t1, t2, -⟩ := u.servo_leaves (h.rx - origin - s.rd TIM_MEAN_DELAY - (h.corr + corr))
  dsimp only
  rw [taken]
  exact ⟨nothing, t1, t2, shown⟩

/-! ### The choice keeps the masters that are still heard -/

theorem State.setTime_foreign (s : State) (v : TimeMode) : (s.setTime v).time.foreign = s.time.foreign := by
  rw [(s.setTime_parts v).1]

theorem State.takeDecision_foreign (s : State) (same : Bool) (k d : Nat) : (s.takeDecision same k d).time.foreign = s.time.foreign := by
  rw [State.takeDecision]
  split
  · split <;> rfl
  · split
    · split <;> rfl
    · rfl

theorem State.putParent_time (s : State) (b : Option ForeignMaster) : (s.putParent b).time = s.time := by
  cases b <;> rfl

/-- The ports that take a decision, with what is recommended to each. -/
def State.portsDecided (s : State) (timeout : Bool) : List (Nat × Nat) :=
  ((List.range 6).filter fun k => s.ptpPort k && !s.staysListening timeout k).map fun k => (k, s.portDecision k)

/-- The parent that the decision gives. -/
def State.parentChosen (s : State) (timeout : Bool) : State :=
  s.putParent (if (s.portsDecided timeout).any (·.2 == 3) then bestMaster s.time.foreign else none)

def State.sameParent (s : State) (timeout : Bool) : Bool := Decidable.decide (s.parentNow = (s.parentChosen timeout).parentNow)

/-- The ports have taken what the decision recommends. -/
def State.decisionsTaken (s : State) (timeout : Bool) : State :=
  (s.portsDecided timeout).foldl (fun (u : State) p => u.takeDecision (s.sameParent timeout) p.1 p.2) (s.parentChosen timeout)

/-- A change of parent forgets what the old one has sent, and loses the lock (R408). -/
def State.parentLost (s : State) : State :=
  let s' : State := { s with time := { s.time with lockRun := 0, held := none, t3 := none } }
  if s'.time.state = .locked then s'.setTime .holdover else s'

theorem State.bmca_eq (s : State) (timeout : Bool) :
    s.bmca timeout = if s.ptpAge.sameParent timeout then s.ptpAge.decisionsTaken timeout
      else (s.ptpAge.decisionsTaken timeout).parentLost := rfl

theorem State.decisionsTaken_foreign (s : State) (timeout : Bool) : (s.decisionsTaken timeout).time.foreign = s.time.foreign := by
  have takes : ∀ (l : List (Nat × Nat)) (same : Bool) (u : State),
      (l.foldl (fun (s : State) p => s.takeDecision same p.1 p.2) u).time.foreign = u.time.foreign := by
    intro l same
    induction l with
    | nil => intro u; rfl
    | cons p l ih => intro u; rw [List.foldl_cons, ih, State.takeDecision_foreign]
  rw [State.decisionsTaken, takes, State.parentChosen, State.putParent_time]

theorem State.parentLost_foreign (s : State) : s.parentLost.time.foreign = s.time.foreign := by
  rw [State.parentLost]
  split
  · rw [State.setTime_foreign]
  · rfl

theorem State.bmca_foreign (s : State) (timeout : Bool) : (s.bmca timeout).time.foreign = s.time.foreign.filter s.stillHeard := by
  rw [State.bmca_eq]
  split
  · exact State.decisionsTaken_foreign _ _
  · exact (State.parentLost_foreign _).trans (State.decisionsTaken_foreign _ _)

theorem State.preMasterEnds_foreign (s : State) : s.preMasterEnds.time.foreign = s.time.foreign := by
  have ends : ∀ (l : List (Nat × Nat)) (u : State), (l.foldl (fun (s : State) p =>
      if p.2 ≤ s.time.raw then (s.leavePre p.1).setPtpState p.1 5 else s) u).time.foreign = u.time.foreign := by
    intro l
    induction l with
    | nil => intro u; rfl
    | cons p l ih =>
      intro u
      rw [List.foldl_cons, ih]
      split <;> rfl
  exact ends _ s

theorem State.announceHeard_foreign (s : State) (k : Nat) (a : Announce) :
    (s.announceHeard k a).time.foreign = (hearMaster k s.time.raw a (s.time.foreign.filter s.stillHeard)).filter s.stillHeard := by
  rw [State.announceHeard]
  dsimp only
  rw [State.preMasterEnds_foreign, State.bmca_foreign]
  rfl

/-- Settles O37: each message by the rule for its kind. -/
theorem precisionTimeMessages : Obligations.PrecisionTimeMessages := by
  refine ⟨fun s k sender senderPort domain seq rx origin corr two live now other => ?_,
    fun s k sender senderPort domain seq rx origin corr two live held => ?_,
    fun s k sender senderPort domain seq rx origin corr live now hk parent => ?_,
    fun s k sender senderPort domain seq rx origin corr live now hk parent => ?_,
    fun s k sender senderPort domain seq h origin corr live now parent held same => ?_,
    fun s k domain seq rx live now => ?_,
    fun s k sender senderPort domain seq t3 t4 corr live now parent sent => ?_,
    fun s k a live wf => ?_, fun s k seq kind ns live now => ?_⟩
  · refine State.whenLive_completes rfl live ?_
    rw [State.syncRx, State.stamped_now now, State.stampActs, State.syncTaken, other]
    rfl
  · exact State.whenLive_completes rfl live (State.stamped_held held _)
  · refine State.whenLive_completes rfl live ?_
    obtain ⟨slave, time, fields⟩ := State.calibrated_spec hk (State.fromParent_state parent)
    have taken : s.syncRx k sender senderPort domain seq rx origin corr true =
        { s.calibrated k with time := { (s.calibrated k).time with held := some ⟨seq, s.rxStamp k rx, corr⟩ } } := by
      rw [State.syncRx, State.stamped_now now, State.stampActs, State.syncTaken, parent]
      rfl
    rw [taken]
    exact ⟨by rw [time], slave, fields.congr rfl⟩
  · refine State.whenLive_completes rfl live ?_
    rw [State.syncRx, State.stamped_now now]
    exact State.syncTaken_oneStep parent hk seq (s.rxStamp k rx) origin corr
  · refine State.whenLive_completes rfl live ?_
    rw [State.followUpRx, State.stamped_now now]
    exact State.followUpTaken_spec parent held same origin corr
  · refine State.whenLive_completes rfl live ?_
    rw [State.delayReqRx, State.stamped_now now, State.stampActs, State.delayReqTaken]
    split
    · rw [State.ptpEmit_spec]
      exact ⟨rfl, rfl⟩
    · rfl
  · refine State.whenLive_completes rfl live ?_
    rw [State.delayRespRx, State.stamped_now now]
    exact State.delayRespTaken_spec parent sent t4 corr
  · refine State.whenLive_completes rfl live ?_
    rw [State.announceRx]
    cases heard : s.ptpRuns && s.ptpPort k && a.domain == s.ptpDomain with
    | false => rfl
    | true =>
      have utc : ∀ u : State, (u.announceUtc a).time = u.time := by
        intro u
        rw [State.announceUtc]
        split <;> split <;> rfl
      rw [if_pos rfl]
      dsimp only [Bool.not_true]
      rw [if_neg (by decide)]
      split
      · rw [utc, State.announceHeard_foreign]
      · exact State.announceHeard_foreign s k a
  · refine State.whenLive_completes rfl live ?_
    have siv : (if s.ptpRuns then s.ptpCatchUp else s).siv = s.siv := by
      split
      · exact (State.ptpCatchUp_kept (T := fun i => Nat.testBit 0x430000020100000c12 i = true) (.refl s) fun _ h => h).frame .siv (by decide)
      · rfl
    rw [State.ptpTx]
    dsimp only
    generalize (if s.ptpRuns then s.ptpCatchUp else s) = u at siv ⊢
    split
    · rw [State.ptpEmit_spec]
      cases kind with
      | delayReq =>
        rw [if_pos rfl, State.stamped_now (by rw [← now, State.isolated, State.isolated, ← siv])]
        exact ⟨rfl, rfl⟩
      | _ => exact ⟨rfl, rfl⟩
    · rfl

end Sys2Proof.Machine
end

section
/-! SUPPORT. The best-master choice and the time states (O38). -/

namespace Sys2Proof.Machine

/-! ### One port's state, as the ports take their decisions -/

theorem bitsOf_put_above {w j v k : Nat} (hj : 6 ≤ j) (hw : w < 2 ^ 18) :
    bitsOf ((w - bitsOf w (3 * j) 3 * 2 ^ (3 * j) + v * 2 ^ (3 * j)) % 2 ^ 18) (3 * k) 3 = bitsOf w (3 * k) 3 := by
  have high : 2 ^ (3 * j) = 2 ^ 18 * 2 ^ (3 * j - 18) := by rw [← Nat.pow_add]; congr 1; omega
  have none : bitsOf w (3 * j) 3 = 0 := by
    have : w < 2 ^ (3 * j) := lt_of_lt_of_le hw (Nat.pow_le_pow_right (by decide) (by omega))
    rw [bitsOf, Nat.div_eq_of_lt this, Nat.zero_mod]
  rw [none, Nat.zero_mul, Nat.sub_zero, high, ← Nat.mul_assoc, Nat.mul_comm v, Nat.mul_assoc, Nat.add_mul_mod_self_left, Nat.mod_eq_of_lt hw]

/-- A port's state is not another's. -/
theorem State.ptpState_setPtpState_ne (s : State) {j k v : Nat} (hk : k < 6) (hv : v < 8) (ne : j ≠ k) :
    (s.setPtpState j v).ptpState k = s.ptpState k := by
  rcases Nat.lt_or_ge j 6 with low | high
  · rw [State.ptpState_setPtpState s low hk hv, if_neg (Ne.symm ne)]
  · rw [State.ptpState, State.setPtpState, State.rd_wr_self]
    exact bitsOf_put_above high (State.rd_lt s TIM_PORT_STATE)

/-- No port of PRE_MASTER is k. -/
def State.NotPre (s : State) (k : Nat) : Prop := ∀ p ∈ s.time.preMaster, p.1 ≠ k

theorem State.notPre_leavePre (s : State) (k : Nat) : (s.leavePre k).NotPre k := fun p mem => by
  simpa using (List.mem_filter.mp mem).2

theorem State.NotPre.leavePre {s : State} {k : Nat} (h : s.NotPre k) (j : Nat) : (s.leavePre j).NotPre k :=
  fun p mem => h p (List.mem_filter.mp mem).1

/-- What another port takes leaves this one's state, and it out of PRE_MASTER. -/
theorem State.takeDecision_other {s : State} {j k d : Nat} (same : Bool) (hk : k < 6) (hd : d < 8) (ne : j ≠ k) :
    (s.takeDecision same j d).ptpState k = s.ptpState k ∧ (s.NotPre k → (s.takeDecision same j d).NotPre k) := by
  rw [State.takeDecision]
  split
  · split
    · exact ⟨rfl, id⟩
    · exact ⟨State.ptpState_setPtpState_ne (s.leavePre j) hk (by decide) ne, fun h => State.NotPre.leavePre h j⟩
  · split
    · split
      · exact ⟨rfl, id⟩
      · refine ⟨State.ptpState_setPtpState_ne s hk (by decide) ne, fun h p mem => ?_⟩
        rcases List.mem_append.mp mem with old | new
        · exact h p old
        · rw [List.mem_singleton.mp new]
          exact ne
    · exact ⟨State.ptpState_setPtpState_ne (s.leavePre j) hk hd ne, fun h => State.NotPre.leavePre h j⟩

theorem State.takeDecisions_other {k : Nat} (same : Bool) (hk : k < 6) (l : List (Nat × Nat)) (hl : ∀ p ∈ l, p.1 ≠ k ∧ p.2 < 8) (s : State) :
    (l.foldl (fun (u : State) p => u.takeDecision same p.1 p.2) s).ptpState k = s.ptpState k ∧
    (s.NotPre k → (l.foldl (fun (u : State) p => u.takeDecision same p.1 p.2) s).NotPre k) := by
  induction l generalizing s with
  | nil => exact ⟨rfl, id⟩
  | cons p l ih =>
    obtain ⟨ne, hd⟩ := hl p List.mem_cons_self
    obtain ⟨stands, out⟩ := State.takeDecision_other (s := s) same hk hd ne
    obtain ⟨later, outLater⟩ := ih (fun q hq => hl q (List.mem_cons_of_mem _ hq)) (s.takeDecision same p.1 p.2)
    exact ⟨later.trans stands, fun h => outLater (out h)⟩

theorem State.portDecision_lt (s : State) (k : Nat) : s.portDecision k < 8 := by
  simp only [State.portDecision]
  cases bestMaster s.time.foreign with
  | none =>
    dsimp only
    split_ifs <;> decide
  | some b =>
    cases bestMaster (s.time.foreign.filter fun f => f.port == k) with
    | none =>
      dsimp only
      split_ifs <;> decide
    | some m =>
      dsimp only
      split_ifs <;> decide

/-- Of the ports that decide, k takes its own decision and the others leave it alone. -/
theorem State.decisionsTaken_port {s : State} {k : Nat} {timeout : Bool} (hk : k < 6) (mine : s.ptpPort k = true)
    (decides : s.staysListening timeout k = false) :
    ∃ u : State, u.ptpState k = (s.parentChosen timeout).ptpState k ∧ ((s.parentChosen timeout).NotPre k → u.NotPre k) ∧
      (s.decisionsTaken timeout).ptpState k = (u.takeDecision (s.sameParent timeout) k (s.portDecision k)).ptpState k ∧
      ((u.takeDecision (s.sameParent timeout) k (s.portDecision k)).NotPre k → (s.decisionsTaken timeout).NotPre k) := by
  have mem : k ∈ (List.range 6).filter fun k => s.ptpPort k && !s.staysListening timeout k := by
    simp [hk, mine, decides]
  have nodup : ((List.range 6).filter fun k => s.ptpPort k && !s.staysListening timeout k).Nodup := List.nodup_range.filter _
  obtain ⟨before, after, split⟩ := List.append_of_mem mem
  rw [split, List.nodup_append] at nodup
  obtain ⟨-, tail, apart⟩ := nodup
  have out (l : List Nat) (hl : ∀ j ∈ l, j ≠ k) : ∀ p ∈ l.map fun j => (j, s.portDecision j), p.1 ≠ k ∧ p.2 < 8 := by
    intro p hp
    obtain ⟨j, hj, rfl⟩ := List.mem_map.mp hp
    exact ⟨hl j hj, s.portDecision_lt j⟩
  have first := State.takeDecisions_other (s.sameParent timeout) hk _
    (out before fun j hj => apart j hj k List.mem_cons_self) (s.parentChosen timeout)
  have last := State.takeDecisions_other (s.sameParent timeout) hk _
    (out after fun j hj same => (List.nodup_cons.mp tail).1 (same ▸ hj))
  refine ⟨_, first.1, first.2, ?_⟩
  rw [State.decisionsTaken, State.portsDecided, split, List.map_append, List.map_cons, List.foldl_append, List.foldl_cons]
  exact last _

theorem State.setTime_ptpState (s : State) (v : TimeMode) (k : Nat) : (s.setTime v).ptpState k = s.ptpState k :=
  State.ptpState_congr ((s.setTime_parts v).2.2 _ (by decide)) k

theorem State.parentLost_port (s : State) (k : Nat) : s.parentLost.ptpState k = s.ptpState k ∧ (s.NotPre k → s.parentLost.NotPre k) := by
  rw [State.parentLost]
  split
  · refine ⟨State.setTime_ptpState _ _ _, fun h p mem => h p ?_⟩
    rwa [(State.setTime_parts _ _).1] at mem
  · exact ⟨rfl, id⟩

theorem State.preMasterEnds_port {s : State} {k : Nat} (hk : k < 6) (h : s.NotPre k) : s.preMasterEnds.ptpState k = s.ptpState k := by
  have ends : ∀ (l : List (Nat × Nat)), (∀ p ∈ l, p.1 ≠ k) → ∀ u : State, (l.foldl (fun (s : State) p =>
      if p.2 ≤ s.time.raw then (s.leavePre p.1).setPtpState p.1 5 else s) u).ptpState k = u.ptpState k := by
    intro l
    induction l with
    | nil => intro _ u; rfl
    | cons p l ih =>
      intro hl u
      rw [List.foldl_cons, ih fun q hq => hl q (List.mem_cons_of_mem _ hq)]
      split
      · exact State.ptpState_setPtpState_ne (u.leavePre p.1) hk (by decide) (hl p List.mem_cons_self)
      · rfl
  exact ends _ h s

/-- A port that a choice leaves out of PRE_MASTER keeps the state that it took. -/
theorem State.bmca_port {s : State} {k : Nat} {timeout : Bool} (hk : k < 6) (h : (s.ptpAge.decisionsTaken timeout).NotPre k) :
    (s.bmca timeout).preMasterEnds.ptpState k = (s.ptpAge.decisionsTaken timeout).ptpState k := by
  rw [State.bmca_eq]
  split
  · exact State.preMasterEnds_port hk h
  · obtain ⟨stands, out⟩ := State.parentLost_port (s.ptpAge.decisionsTaken timeout) k
    exact (State.preMasterEnds_port hk (out h)).trans stands

/-! ### Which fields and parts a choice leaves alone -/

/-- The fields that the choice of a parent may change. -/
def parentFields : List Field := [TIM_PORT_STATE, TIM_PARENT_LO, TIM_PARENT_HI, TIM_PARENT_PORT_NUMBER, TIM_PARENT_PORT_LOCAL]

/-- A state of which only the time unit and the registers differ. -/
def OnlyTime (l : List Field) (s t : State) : Prop := (∃ r u, t = { s with regs := r, time := u }) ∧ OnlyFields l s t ∧ t.time.state = s.time.state

theorem OnlyTime.refl (l : List Field) (s : State) : OnlyTime l s s := ⟨⟨s.regs, s.time, rfl⟩, OnlyFields.refl l s, rfl⟩

theorem OnlyTime.trans {l : List Field} {s t u : State} (h : OnlyTime l s t) (k : OnlyTime l t u) : OnlyTime l s u := by
  obtain ⟨⟨r, x, rfl⟩, fields, state⟩ := h
  obtain ⟨⟨r', x', rfl⟩, fields', state'⟩ := k
  exact ⟨⟨r', x', rfl⟩, fields.trans fields', state'.trans state⟩

theorem OnlyTime.wr {l : List Field} {s t : State} (h : OnlyTime l s t) {f : Field} (v : Nat) (mem : f ∈ l) : OnlyTime l s (t.wr f v) :=
  h.trans ⟨⟨_, _, rfl⟩, (OnlyFields.refl _ _).wr v mem, rfl⟩

theorem OnlyTime.setPreMaster {l : List Field} {s t : State} (h : OnlyTime l s t) (p : List (Nat × Nat)) : OnlyTime l s (t.setPreMaster p) :=
  h.trans ⟨⟨_, _, rfl⟩, OnlyFields.of_regs rfl, rfl⟩

theorem OnlyTime.takeDecision {s t : State} (h : OnlyTime [TIM_PORT_STATE] s t) (same : Bool) (k d : Nat) :
    OnlyTime [TIM_PORT_STATE] s (t.takeDecision same k d) := by
  rw [State.takeDecision]
  split
  · split
    · exact h
    · exact (h.setPreMaster _).wr _ (by simp)
  · split
    · split
      · exact h
      · exact (h.wr _ (by simp)).setPreMaster _
    · exact (h.setPreMaster _).wr _ (by simp)

theorem State.decisionsTaken_only (s : State) (timeout : Bool) :
    OnlyTime [TIM_PORT_STATE] (s.parentChosen timeout) (s.decisionsTaken timeout) := by
  have takes : ∀ (l : List (Nat × Nat)) (same : Bool) (t : State), OnlyTime [TIM_PORT_STATE] (s.parentChosen timeout) t →
      OnlyTime [TIM_PORT_STATE] (s.parentChosen timeout) (l.foldl (fun (u : State) p => u.takeDecision same p.1 p.2) t) := by
    intro l same
    induction l with
    | nil => exact fun t h => h
    | cons p l ih => exact fun t h => ih _ (h.takeDecision same p.1 p.2)
  exact takes _ _ _ (OnlyTime.refl _ _)

theorem State.preMasterEnds_only (s : State) : OnlyTime [TIM_PORT_STATE] s s.preMasterEnds := by
  have ends : ∀ (l : List (Nat × Nat)) (t : State), OnlyTime [TIM_PORT_STATE] s t → OnlyTime [TIM_PORT_STATE] s (l.foldl (fun (s : State) p =>
      if p.2 ≤ s.time.raw then (s.leavePre p.1).setPtpState p.1 5 else s) t) := by
    intro l
    induction l with
    | nil => exact fun t h => h
    | cons p l ih =>
      intro t h
      refine ih _ ?_
      dsimp only
      split
      · exact (h.setPreMaster _).wr _ (by simp)
      · exact h
  exact ends _ _ (OnlyTime.refl _ _)

/-! ### A second Announce -/

/-- The only master heard, by two Announces, is the best, and its port the one recommended to be SLAVE. -/
theorem State.portDecision_slave {s : State} {k r : Nat} {a : Announce} (heard : s.time.foreign = [⟨k, 2, r, a⟩])
    (cls : 128 ≤ s.ownClock.clockClass) (better : lexLess (announceRank s.ownClock) (announceRank a) = false) :
    s.portDecision k = 3 := by
  have best : bestMaster s.time.foreign = some ⟨k, 2, r, a⟩ := by rw [heard]; rfl
  simp only [State.portDecision, best, better, Nat.not_lt.mpr cls, if_false, if_true, Bool.false_eq_true]

/-- The parent that the only master heard becomes. -/
theorem State.parentChosen_slave {s : State} {k r : Nat} {a : Announce} (heard : s.time.foreign = [⟨k, 2, r, a⟩]) (hk : k < 6)
    (mine : s.ptpPort k = true) (slave : s.portDecision k = 3) :
    s.parentChosen false = s.putParent (some ⟨k, 2, r, a⟩) ∧ s.staysListening false k = false := by
  have stays : s.staysListening false k = false := by
    rw [State.staysListening, heard]
    simp [bestMaster, betterMaster]
  have any : (s.portsDecided false).any (·.2 == 3) = true := by
    refine List.any_eq_true.mpr ⟨(k, s.portDecision k), List.mem_map.mpr ⟨k, ?_, rfl⟩, by rw [slave]; rfl⟩
    simp [hk, mine, stays]
  rw [State.parentChosen, any, if_pos rfl, heard]
  exact ⟨rfl, stays⟩

theorem State.putParent_reads (s : State) {k r : Nat} {a : Announce} (hk : k < 6) (id : a.senderId < 2 ^ 64) (port : a.senderPort < 2 ^ 16) :
    let t := s.putParent (some ⟨k, 2, r, a⟩)
    t.rd TIM_PARENT_LO = a.senderId % 2 ^ 32 ∧ t.rd TIM_PARENT_HI = a.senderId / 2 ^ 32 ∧
    t.rd TIM_PARENT_PORT_NUMBER = a.senderPort ∧ t.rd TIM_PARENT_PORT_LOCAL = k ∧ t.rd TIM_PORT_STATE = s.rd TIM_PORT_STATE := by
  simp (disch := decide) only [State.putParent, State.wrAll, State.rd_wr_ne, State.rd_wr_self]
  refine ⟨trivial, Nat.mod_eq_of_lt ?_, Nat.mod_eq_of_lt port, Nat.mod_eq_of_lt ?_, trivial⟩
  · omega
  · omega

/-- What the choice leaves where the only master heard has been heard twice (R410, R411). -/
theorem State.bmca_slave {s : State} {k r : Nat} {a : Announce} (heard : s.time.foreign = [⟨k, 2, r, a⟩]) (still : s.stillHeard ⟨k, 2, r, a⟩ = true)
    (pre : s.time.preMaster = []) (hk : k < 6) (id : a.senderId < 2 ^ 64) (port : a.senderPort < 2 ^ 16) (mine : s.ptpPort k = true)
    (cls : 128 ≤ s.ownClock.clockClass) (better : lexLess (announceRank s.ownClock) (announceRank a) = false) :
    let t := (s.bmca false).preMasterEnds
    t.ptpState k = (if s.parentNow = [a.senderId % 2 ^ 32, a.senderId / 2 ^ 32, a.senderPort, k] ∧ (s.ptpState k = 2 ∨ s.ptpState k = 3)
      then s.ptpState k else 2) ∧
    t.rd TIM_PARENT_LO = a.senderId % 2 ^ 32 ∧ t.rd TIM_PARENT_HI = a.senderId / 2 ^ 32 ∧
    t.rd TIM_PARENT_PORT_NUMBER = a.senderPort ∧ t.rd TIM_PARENT_PORT_LOCAL = k ∧ t.time.foreign = [⟨k, 2, r, a⟩] := by
  have aged : s.ptpAge = s := by
    have list : s.time.foreign.filter s.stillHeard = s.time.foreign := by rw [heard]; simp [still]
    rw [State.ptpAge, list]
  have slave := State.portDecision_slave heard cls better
  obtain ⟨chosen, decides⟩ := State.parentChosen_slave heard hk mine slave
  obtain ⟨lo, hi, number, here, states⟩ := s.putParent_reads (r := r) hk id port
  have same : s.sameParent false = Decidable.decide (s.parentNow = [a.senderId % 2 ^ 32, a.senderId / 2 ^ 32, a.senderPort, k]) := by
    simp only [State.sameParent, chosen]
    rw [State.parentNow, State.parentNow, lo, hi, number, here]
  obtain ⟨u, before, outBefore, takes, outAfter⟩ := State.decisionsTaken_port hk mine decides
  have start : u.ptpState k = s.ptpState k := by rw [before, chosen, State.ptpState_congr states]
  have out : u.NotPre k := outBefore (by rw [chosen, State.NotPre, State.putParent_time, pre]; simp)
  rw [slave] at takes outAfter
  have taken : (u.takeDecision (s.sameParent false) k 3).ptpState k =
      (if s.parentNow = [a.senderId % 2 ^ 32, a.senderId / 2 ^ 32, a.senderPort, k] ∧ (s.ptpState k = 2 ∨ s.ptpState k = 3)
        then s.ptpState k else 2) ∧ (u.takeDecision (s.sameParent false) k 3).NotPre k := by
    rw [State.takeDecision, if_pos rfl, start, same]
    by_cases follows : s.parentNow = [a.senderId % 2 ^ 32, a.senderId / 2 ^ 32, a.senderPort, k] ∧ (s.ptpState k = 2 ∨ s.ptpState k = 3)
    · rw [if_pos follows, if_pos (by simp [follows.1, follows.2.symm])]
      exact ⟨start, out⟩
    · rw [if_neg follows, if_neg (by simpa [or_comm] using follows)]
      exact ⟨(State.ptpState_setPtpState _ hk hk (by decide)).trans (if_pos rfl), State.notPre_leavePre u k⟩
  have ended : ∀ f ∈ [TIM_PARENT_LO, TIM_PARENT_HI, TIM_PARENT_PORT_NUMBER, TIM_PARENT_PORT_LOCAL],
      (s.bmca false).preMasterEnds.rd f = (s.putParent (some ⟨k, 2, r, a⟩)).rd f := by
    have lost : ∀ f ∈ [TIM_PARENT_LO, TIM_PARENT_HI, TIM_PARENT_PORT_NUMBER, TIM_PARENT_PORT_LOCAL],
        (s.bmca false).rd f = (s.decisionsTaken false).rd f := by
      intro f mem
      rw [State.bmca_eq, aged]
      split
      · rfl
      · rw [State.parentLost]
        split
        · refine (State.setTime_parts _ _).2.2 f ?_
          simp only [List.mem_cons, List.not_mem_nil, or_false] at mem
          rcases mem with rfl | rfl | rfl | rfl <;> decide
        · rfl
    intro f mem
    have other : f.key ≠ TIM_PORT_STATE.key := by
      simp only [List.mem_cons, List.not_mem_nil, or_false] at mem
      rcases mem with rfl | rfl | rfl | rfl <;> decide
    rw [(State.preMasterEnds_only _).2.1 f (by simpa using other), lost f mem, ← chosen]
    exact (s.decisionsTaken_only false).2.1 f (by simpa using other)
  refine ⟨?_, (ended _ (by simp)).trans lo, (ended _ (by simp)).trans hi, (ended _ (by simp)).trans number, (ended _ (by simp)).trans here, ?_⟩
  · rw [State.bmca_port hk (by rw [aged]; exact outAfter taken.2), aged, takes, taken.1]
  · rw [State.preMasterEnds_foreign, State.bmca_foreign, heard]
    simp [still]

theorem State.announceUtc_fields (s : State) (a : Announce) :
    (s.announceUtc a).time = s.time ∧
    OnlyFields [RTC_LEAP_DATE, RTC_LEAP_SIGN, RTC_LEAP_ARM, TIM_UTC_OFFSET, TIM_UTC_SRC_PTP] s (s.announceUtc a) := by
  have leap : ∀ b : Bool, OnlyFields [RTC_LEAP_DATE, RTC_LEAP_SIGN, RTC_LEAP_ARM, TIM_UTC_OFFSET, TIM_UTC_SRC_PTP] s
      (if b then s.armLeap a.leap59 else s) := by
    intro b
    cases b
    · exact OnlyFields.refl _ _
    · exact (OnlyFields.refl _ s).wrAll (by simp)
  rw [State.announceUtc]
  refine ⟨by split <;> split <;> rfl, ?_⟩
  have armed := leap (s.rdB RTC_CTRL_AUTO_LEAP && (a.leap61 || a.leap59))
  dsimp only
  split
  · exact OnlyFields.wrAll (vs := [(TIM_UTC_OFFSET, a.utcOffset), (TIM_UTC_SRC_PTP, 1)]) (armed.congr rfl) (by simp)
  · exact armed

/-! ### The announce timeout -/

/-- A port that is LISTENING as the timeout passes, with no master heard. -/
theorem State.bmca_timeout {s : State} {k : Nat} (hk : k < 6) (mine : s.ptpPort k = true) (nobody : s.time.foreign = []) :
    (s.bmca true).preMasterEnds.ptpState k = if s.rd TIM_CTRL_SLAVE_ONLY = 1 then 1 else 5 := by
  have aged : s.ptpAge = s := by rw [State.ptpAge, nobody, List.filter_nil, ← nobody]
  have decision : s.portDecision k = if s.rd TIM_CTRL_SLAVE_ONLY = 1 then 1 else 5 := by
    simp only [State.portDecision, nobody, State.rdB, beq_iff_eq]
    rfl
  have stays : s.staysListening true k = false := rfl
  obtain ⟨u, -, -, takes, out⟩ := State.decisionsTaken_port hk mine stays
  have taken : ∀ d, d = 1 ∨ d = 5 → (u.takeDecision (s.sameParent true) k d).ptpState k = d ∧
      (u.takeDecision (s.sameParent true) k d).NotPre k := by
    intro d hd
    rw [State.takeDecision, if_neg (by omega), if_neg (by omega)]
    exact ⟨(State.ptpState_setPtpState _ hk hk (by omega)).trans (if_pos rfl), State.notPre_leavePre u k⟩
  have mineTaken := taken (s.portDecision k) (by rw [decision]; split <;> simp)
  rw [State.bmca_port hk (by rw [aged]; exact out mineTaken.2), aged, takes, mineTaken.1, decision]

/-- What a change of the time state asks for and leaves behind (R408). -/
theorem State.setTime_reports {s : State} {v : TimeMode} (h : s.time.state ≠ v) :
    (s.setTime v).modeReqs = (s.modeReqs.filter fun q => !q.isTime) ++ [⟨.time v, 0, 0⟩] ∧ Noted TIM_NOTE_STATE (s.setTime v) ∧
    Records 0x1801 s.time.state.code v.code 0 0 s (s.setTime v) := by
  obtain ⟨c, change⟩ := State.setTime_cases h
  let u : State := { s with time := { s.time with state := v } }.wrB RTC_STATUS_TRIM_FROZEN (v != TimeMode.locked)
  rw [change]
  refine ⟨?_, ?_, ?_⟩
  · have reqs : ((u.silt 0x1801 s.time.state.code v.code).notice TIM_NOTE_STATE).modeReqs = s.modeReqs :=
      (State.notice_modeReqs _ _).trans (State.silt_modeReqs _ _ _ _ _ _)
    change (((u.silt 0x1801 s.time.state.code v.code).notice TIM_NOTE_STATE).modeReqs.filter fun q => !q.isTime) ++ _ = _
    rw [reqs]
  · exact Noted.congr (n := TIM_NOTE_STATE) (State.noted_notice (u.silt 0x1801 s.time.state.code v.code) TIM_NOTE_STATE (by decide))
      (State.rd_congr rfl _)
  · have recorded : Records 0x1801 s.time.state.code v.code 0 0 s (u.silt 0x1801 s.time.state.code v.code) :=
      (State.silt_records u 0x1801 s.time.state.code v.code 0 0).of_before rfl rfl rfl (State.rd_wr_ne _ _ (by decide)) rfl
    exact recorded.congr (State.notice_siltIntake _ _)

theorem State.bmca_only {s : State} (timeout : Bool) (unlocked : s.time.state ≠ .locked) :
    OnlyTime (parentFields) s (s.bmca timeout).preMasterEnds := by
  have widen {t u : State} (h : OnlyTime [TIM_PORT_STATE] t u) : OnlyTime parentFields t u := ⟨h.1, h.2.1.mono (by simp [parentFields]), h.2.2⟩
  have chosen : OnlyTime parentFields s (s.ptpAge.parentChosen timeout) := by
    refine OnlyTime.trans (t := s.ptpAge) ⟨⟨_, _, rfl⟩, OnlyFields.of_regs rfl, rfl⟩ ?_
    rw [State.parentChosen]
    cases (if (s.ptpAge.portsDecided timeout).any (·.2 == 3) then bestMaster s.ptpAge.time.foreign else none) with
    | none => exact ⟨⟨_, _, rfl⟩, (OnlyFields.refl _ _).wrAll (by simp [parentFields]), rfl⟩
    | some b => exact ⟨⟨_, _, rfl⟩, (OnlyFields.refl _ _).wrAll (by simp [parentFields]), rfl⟩
  have taken := chosen.trans (widen (s.ptpAge.decisionsTaken_only timeout))
  refine OnlyTime.trans ?_ (widen (State.preMasterEnds_only _))
  rw [State.bmca_eq]
  split
  · exact taken
  · rw [State.parentLost, if_neg (by exact fun locked => unlocked (taken.2.2 ▸ locked))]
    exact taken.trans ⟨⟨_, _, rfl⟩, OnlyFields.of_regs rfl, rfl⟩

theorem State.syncTimeout_locked {s : State} (runs : s.ptpRuns = true) (locked : s.time.state = .locked) :
    s.syncTimeout = (({ s with time := { s.time with lockRun := 0 } }.setTime .holdover).bmca true).preMasterEnds := by
  rw [State.syncTimeout, runs, if_neg (by decide), if_pos locked]

theorem State.syncTimeout_unlocked {s : State} (runs : s.ptpRuns = true) (unlocked : s.time.state ≠ .locked) :
    s.syncTimeout = (s.bmca true).preMasterEnds := by
  rw [State.syncTimeout, runs, if_neg (by decide), if_neg unlocked]

/-- The announce timeout of a module that is LOCKED (R408, R409). -/
theorem State.announceTimeout_locked {s : State} (locked : s.time.state = .locked) :
    let t := (({ s with time := { s.time with lockRun := 0 } }.setTime .holdover).bmca true).preMasterEnds
    t.time.foreign = s.time.foreign.filter s.stillHeard ∧ t.modes = s.modes ∧ t.time.state = .holdover ∧
    t.modeReqs = (s.modeReqs.filter fun q => !q.isTime) ++ [⟨.time .holdover, 0, 0⟩] ∧ Noted TIM_NOTE_STATE t ∧ Records 0x1801 0 1 0 0 s t := by
  intro t
  let u : State := { s with time := { s.time with lockRun := 0 } }
  have differs : u.time.state ≠ .holdover := by
    change s.time.state ≠ .holdover
    rw [locked]
    decide
  obtain ⟨time, modes, fields⟩ := u.setTime_parts .holdover
  obtain ⟨reqs, noted, records⟩ := State.setTime_reports differs
  have here : (u.setTime .holdover).time.state = .holdover := by rw [time]
  obtain ⟨⟨r, x, parts⟩, only, state⟩ := State.bmca_only (s := u.setTime .holdover) true (by rw [here]; decide)
  have heard : (u.setTime .holdover).stillHeard = s.stillHeard := by
    have now : (u.setTime .holdover).time.raw = s.time.raw := by rw [time]
    funext f
    rw [State.stillHeard, State.stillHeard, now, State.announceTimeout, State.announceTimeout, State.announceInterval, State.announceInterval]
    simp only [State.rdS, fields _ (show ∀ g ∈ timeStateFields, TIM_PTP_INT_TIMEOUT.key ≠ g.key by decide),
      fields _ (show ∀ g ∈ timeStateFields, TIM_PTP_INT_ANNOUNCE.key ≠ g.key by decide)]
    rfl
  have early : Records 0x1801 0 1 0 0 s (u.setTime .holdover) := by
    have before : u.time.state = .locked := locked
    rw [before] at records
    exact records.of_before rfl rfl rfl rfl rfl
  refine ⟨?_, ?_, state.trans here, ?_, ?_, ?_⟩
  · rw [State.preMasterEnds_foreign, State.bmca_foreign, heard, time]
  · rw [show t = _ from parts]
    exact modes
  · rw [show t = _ from parts]
    exact reqs
  · exact Noted.congr (n := TIM_NOTE_STATE) noted (only _ (by decide))
  · exact early.congr (by rw [show t = _ from parts])

/-- Settles O38: the decision at one port, with the other ports and the time state apart. -/
theorem bestMasterChoice : Obligations.BestMasterChoice := by
  refine ⟨fun s k r a b live wf runs mine domain heard still wait pre sender port cls better => ?_,
    fun s k live runs mine hk listening nobody => ?_, fun s live => ?_, fun s live => ?_⟩
  · obtain ⟨hk, -, hid, hport, -⟩ := wf
    refine State.whenLive_completes rfl live ?_
    let u : State := { s.ptpAge with time := { s.ptpAge.time with foreign := hearMaster k s.time.raw a s.ptpAge.time.foreign } }
    have known : u.time.foreign = [⟨k, 2, s.time.raw, a⟩] := by
      have list : s.time.foreign.filter s.stillHeard = [⟨k, 1, r, b⟩] := by rw [heard]; simp [still]
      change hearMaster k s.time.raw a (s.time.foreign.filter s.stillHeard) = _
      rw [list]
      exact if_pos ⟨rfl, sender, port⟩
    have fresh : u.stillHeard ⟨k, 2, s.time.raw, a⟩ = true := decide_eq_true (Nat.lt_add_of_pos_right wait)
    have slave := State.bmca_slave (s := u) known fresh pre hk hid hport mine cls better
    have heardNow : s.announceHeard k a = (u.bmca false).preMasterEnds := rfl
    have taken : s.announceRx k a = if (s.announceHeard k a).fromParent k a.senderId a.senderPort a.domain &&
        (s.announceHeard k a).time.state == .locked then (s.announceHeard k a).announceUtc a else s.announceHeard k a := by
      rw [State.announceRx, runs, mine, domain]
      simp
    rw [taken, heardNow]
    obtain ⟨time, fields⟩ := (u.bmca false).preMasterEnds.announceUtc_fields a
    split
    · obtain ⟨state, lo, hi, number, here, masters⟩ := slave
      exact ⟨(State.ptpState_congr (fields _ (by decide)) k).trans state, (fields _ (by decide)).trans lo, (fields _ (by decide)).trans hi,
        (fields _ (by decide)).trans number, (fields _ (by decide)).trans here, by rw [time]; exact masters⟩
    · exact slave
  · refine State.whenLive_completes rfl live ?_
    rw [State.syncTimeout, runs]
    simp only [Bool.not_true, Bool.false_eq_true, if_false]
    split
    · obtain ⟨time, -, fields⟩ := ({ s with time := { s.time with lockRun := 0 } } : State).setTime_parts .holdover
      have same (f : Field) (h : ∀ g ∈ timeStateFields, f.key ≠ g.key) := fields f h
      rw [State.bmca_timeout hk ?_ (by rw [time]; exact nobody), same _ (by decide)]
      · rfl
      · rw [State.ptpPort, same _ (by decide), same _ (by decide)]
        exact mine
    · exact State.bmca_timeout hk mine nobody
  · refine State.whenLive_completes rfl live ?_
    by_cases runs : s.ptpRuns = true
    · rw [if_pos runs]
      by_cases locked : s.time.state = .locked
      · rw [if_pos locked, State.syncTimeout_locked runs locked]
        exact State.announceTimeout_locked locked
      · rw [if_neg locked, State.syncTimeout_unlocked runs locked]
        obtain ⟨⟨r, u, parts⟩, -, state⟩ := State.bmca_only true locked
        refine ⟨by rw [State.preMasterEnds_foreign, State.bmca_foreign], ?_, state, ?_⟩ <;> rw [parts]
    · rw [if_neg runs, State.syncTimeout, if_pos (by simpa using runs)]
  · refine State.whenLive_completes rfl live ?_
    cases runs : s.ptpRuns && s.time.state == .holdover with
    | false =>
      have idle : ¬(s.ptpRuns = true ∧ s.time.state = .holdover) := by simpa using runs
      rw [if_neg idle]
      rfl
    | true =>
      simp only [Bool.and_eq_true, beq_iff_eq] at runs
      obtain ⟨time, modes, -⟩ := s.setTime_parts .free
      obtain ⟨reqs, noted, records⟩ := State.setTime_reports (s := s) (v := .free) (by rw [runs.2]; decide)
      rw [runs.2] at records
      rw [if_pos rfl, if_pos runs]
      exact ⟨time, modes, reqs, noted, records⟩

end Sys2Proof.Machine
end

section
/-! SUPPORT. Life-cycle requests (O42). -/

namespace Sys2Proof.Machine

/-- What a mask of parts lets a change touch. -/
abbrev Touches (m : Nat) : Nat → Prop := fun i => Nat.testBit m i = true

/-! ### The requests that Hardpan takes -/

/-- A packet taken from a downlink queue leaves every other part alone. -/
theorem State.slqTake_down {s s' : State} {d : Nat} {p : Packet} (h : s.slqTake d = some (p, s')) :
    ∃ l, s' = { s with slqDown := l } := by
  rw [State.slqTake] at h
  split at h
  · cases h
  · split at h
    · cases h
    · obtain ⟨-, rfl⟩ := Prod.mk.inj (Option.some.inj h)
      exact ⟨_, by rw [State.setQueue, if_neg (by omega)]⟩

/-- What Hardpan does with the request that it takes (R487). -/
theorem State.hpnTake_of {s s' : State} {p : Packet} (free : s.lcWaits = false) (runs : s.isolated 0x06 = false) (head : s.slqTake 2 = some (p, s'))
    {mine : Nat → Bool} (kind : mine p.kind = true) (k : State → KeyRequest → State) :
    s.hpnTake mine k = if s.rd HPN_STATUS_READY = 1 ∧ s.rd HPN_CTRL_EN = 1 then k s' (requestOf p)
      else s'.keyResult p.kind (requestOf p).tag (requestOf p).slot 2 := by
  obtain ⟨l, rfl⟩ := State.slqTake_down head
  rw [State.hpnTake, free, runs, if_neg (by decide), head]
  dsimp only
  rw [kind, if_neg (by decide)]
  by_cases on : s.rd HPN_STATUS_READY = 1 ∧ s.rd HPN_CTRL_EN = 1
  · rw [if_pos on, if_neg]
    simp [State.rdB, on]
  · rw [if_neg on, if_pos]
    · rfl
    · rw [Decidable.not_and_iff_or_not] at on
      simpa [State.rdB] using on

/-! ### Result packets (R488) -/

theorem State.keyResult_parts (s : State) (kind tag slot result : Nat) :
    Kept (Touches 0x4540000020100003002) s (s.keyResult kind tag slot result) :=
  State.keyResult_kept (.refl s) kind tag slot result fun _ h => h

theorem State.keyResult_siltIntake (s : State) (kind tag slot result : Nat) : (s.keyResult kind tag slot result).siltIntake = s.siltIntake := by
  rw [State.keyResult, State.notice_siltIntake]
  refine (((State.slqPush_kept_packetParts _ _ _ _ _ _).frame .siltIntake (by decide) : _ = _)).trans ?_
  split
  · rfl
  · exact State.notice_siltIntake _ _

/-- A refusal is counted and named. -/
theorem State.keyResult_refused (s : State) (kind tag slot : Nat) {code : Nat} (some_ : code ≠ 0) (hc : code < 16) :
    (s.keyResult kind tag slot code).rd HPN_ERR_REASON = code ∧
    (s.keyResult kind tag slot code).rd HPN_REFUSED = (s.rd HPN_REFUSED + 1) % 2 ^ 32 ∧
    Noted HPN_NOTE_REFUSED (s.keyResult kind tag slot code) ∧ Noted HPN_NOTE_DONE (s.keyResult kind tag slot code) := by
  rw [State.keyResult, if_neg some_]
  have pushed := State.slqPush_kept_packetParts
    ((((s.count HPN_REFUSED 1).wrAll [(HPN_ERR_SLOT, slot), (HPN_ERR_REASON, code)]).notice HPN_NOTE_REFUSED)) 6 kind 3
    [tag % 2 ^ 16 + 2 ^ 16 * (slot % 256) + 2 ^ 24 * code, ((s.slot slot).map KeySlot.state).getD 0 + 2 ^ 8 * ((s.slot slot).map KeySlot.cls).getD 0,
     ((s.slot slot).map KeySlot.gen).getD 0] 0
  refine ⟨?_, ?_, ?_, State.noted_notice _ HPN_NOTE_DONE (by decide)⟩
  · rw [State.rd_notice_ne _ HPN_NOTE_DONE (by decide) (by decide), pushed.rd_eq _ (by decide),
      State.rd_notice_ne _ HPN_NOTE_REFUSED (by decide) (by decide)]
    exact State.rd_wr_of_lt _ hc
  · rw [State.rd_notice_ne _ HPN_NOTE_DONE (by decide) (by decide), pushed.rd_eq _ (by decide),
      State.rd_notice_ne _ HPN_NOTE_REFUSED (by decide) (by decide)]
    exact ((State.rd_wr_ne _ _ (by decide)).trans (State.rd_wr_ne _ _ (by decide))).trans (State.rd_count_self _ _ _)
  · refine Noted.notice ?_ HPN_NOTE_DONE rfl (by decide)
    exact Noted.congr (n := HPN_NOTE_REFUSED) (State.noted_notice _ HPN_NOTE_REFUSED (by decide)) (pushed.rd_eq _ (by decide))

/-- A granted operation is counted. -/
theorem State.keyResult_granted (s : State) (kind tag slot : Nat) :
    (s.keyResult kind tag slot 0).rd HPN_OPS = (s.rd HPN_OPS + 1) % 2 ^ 32 ∧ Noted HPN_NOTE_DONE (s.keyResult kind tag slot 0) := by
  rw [State.keyResult, if_pos rfl]
  refine ⟨?_, State.noted_notice _ HPN_NOTE_DONE (by decide)⟩
  rw [State.rd_notice_ne _ HPN_NOTE_DONE (by decide) (by decide), (State.slqPush_kept_packetParts _ _ _ _ _ _).rd_eq _ (by decide),
    State.rd_count_self]

/-! ### Life-cycle requests -/

theorem ofOctets_lt_of_octet {l : List Nat} (h : ∀ b ∈ l, b < 256) (i : Nat) : ofOctets ((l.drop i).take 1) = l.getD i 0 := by
  induction l generalizing i with
  | nil => simp [ofOctets]
  | cons b t ih =>
    cases i with
    | zero => simp [ofOctets, Nat.mod_eq_of_lt (h b List.mem_cons_self)]
    | succ i => simpa using ih (fun c hc => h c (List.mem_cons_of_mem _ hc)) i

theorem requestOf_octets (p : Packet) : ∀ b ∈ (requestOf p).data, b < 256 := by
  intro b mem
  obtain ⟨w, -, hb⟩ := List.mem_flatMap.mp (List.mem_of_mem_take (List.mem_of_mem_drop mem))
  obtain ⟨i, -, rfl⟩ := List.mem_map.mp hb
  exact Nat.mod_lt _ (by decide)

/-- The codes of a token's checks, and the state it names where the code is 1 (R493 to R495). -/
theorem State.tokenCheck_codes (s : State) {d : List Nat} (h : ∀ b ∈ d, b < 256) :
    ((s.tokenCheck d).1 = 0 ∨ (s.tokenCheck d).1 = 1 ∨ (s.tokenCheck d).1 = 5 ∨ (s.tokenCheck d).1 = 8) ∧
    ∀ v, (s.tokenCheck d).1 = 1 → lifeOf (d.getD 17 0) = some v → (s.tokenCheck d).2 = v := by
  rw [State.tokenCheck]
  dsimp only
  split
  · simp
  · rw [ofOctets_lt_of_octet h]
    cases lifeOf (d.getD 17 0) with
    | none => simp
    | some v =>
      dsimp only
      split_ifs <;> simp

/-- What a life-cycle request leaves, by the code of its token (R493). -/
def LifeCycleAsked (s t : State) (d : List Nat) : Prop :=
  let c := s.tokenCheck d
  t.draws = s.draws + 1 ∧ t.hpn.slots = s.hpn.slots ∧ t.modes = s.modes ∧
  if c.1 = 0 then Asks (.life c.2) t ∧ t.hpn.payload = d.drop 128
  else if c.1 = 1 ∧ lifeOf (d.getD 17 0) = some c.2 then Asks (.life c.2) t ∧ t.hpn.payload = []
  else t.modeReqs = s.modeReqs ∧ t.rd HPN_LC_STAT_RESULT = c.1 ∧ Noted HPN_NOTE_LC_RESULT t ∧ t.rd HPN_ERR_REASON = c.1 ∧
    t.hpn = s.hpn ∧ (c.1 = 1 → t.rd SYS_REQ_STAT_AXIS = 1 ∧ t.rd SYS_REQ_STAT_BLOCKER = 1 ∧ Noted SYS_NOTE_REFUSED t ∧ Recorded 0x0003 t)

theorem State.lcResult_parts (s : State) (tag slot result : Nat) :
    Kept (Touches 0x4540000020100003002) s (s.lcResult tag slot result) :=
  State.lcResult_kept (.refl s) tag slot result fun _ h => h

theorem State.rd_keyResult (s : State) (kind tag slot result : Nat) {f : Field} (out : ¬packetParts f.slot)
    (h : ∀ g ∈ [HPN_OPS, HPN_REFUSED, HPN_ERR_SLOT, HPN_ERR_REASON, NOTE_RAW 0x1C, MSIX_PBA], f.key ≠ g.key) :
    (s.keyResult kind tag slot result).rd f = s.rd f := by
  simp only [List.mem_cons, List.not_mem_nil, or_false, forall_eq_or_imp, forall_eq] at h
  obtain ⟨ops, refused, errSlot, reason, note, pba⟩ := h
  rw [State.keyResult, State.rd_notice_ne _ HPN_NOTE_DONE note pba, (State.slqPush_kept_packetParts _ _ _ _ _ _).rd_eq _ out]
  split
  · exact State.rd_wr_ne _ _ ops
  · rw [State.rd_notice_ne _ HPN_NOTE_REFUSED note pba]
    exact ((State.rd_wr_ne _ _ reason).trans (State.rd_wr_ne _ _ errSlot)).trans (State.rd_wr_ne _ _ refused)

theorem Noted.keyResult {n : Notice} {s : State} (h : Noted n s) (page : n.page = 0x1C) (kind tag slot result : Nat) :
    Noted n (s.keyResult kind tag slot result) := by
  have pushed {t : State} (k : Noted n t) (q kd pr : Nat) (w : List Nat) (pad : Nat) : Noted n (t.slqPush q kd pr w pad) :=
    Noted.congr (n := n) k ((State.slqPush_kept_packetParts t q kd pr w pad).rd_eq (NOTE_RAW n.page) (by rw [page]; decide))
  have other {g : Field} (ne : (NOTE_RAW 0x1C).key ≠ g.key) : (NOTE_RAW n.page).key ≠ g.key := by rwa [page]
  rw [State.keyResult]
  refine Noted.notice (pushed ?_ _ _ _ _ _) HPN_NOTE_DONE page.symm (by decide)
  split
  · exact Noted.wr h _ (other (by decide))
  · exact Noted.notice (Noted.wr (Noted.wr (Noted.wr h _ (other (by decide))) _ (other (by decide))) _ (other (by decide)))
      HPN_NOTE_REFUSED page.symm (by decide)

theorem State.lcResult_refused (s : State) (tag slot : Nat) {code : Nat} (some_ : code ≠ 0) (hc : code < 16) :
    (s.lcResult tag slot code).rd HPN_LC_STAT_RESULT = code ∧ Noted HPN_NOTE_LC_RESULT (s.lcResult tag slot code) ∧
    (s.lcResult tag slot code).rd HPN_ERR_REASON = code := by
  rw [State.lcResult]
  refine ⟨?_, Noted.keyResult (State.noted_notice _ HPN_NOTE_LC_RESULT (by decide)) rfl _ _ _ _, (State.keyResult_refused _ _ _ _ some_ hc).1⟩
  rw [State.rd_keyResult _ _ _ _ _ (by decide) (by decide), State.rd_notice_ne _ HPN_NOTE_LC_RESULT (by decide) (by decide)]
  exact State.rd_wr_of_lt _ hc

/-- A request that names no state is refused at once (R34, R122). -/
theorem State.refuseCode_refused (s : State) {axis blocker : Nat} (code : Nat) (ha : axis < 8) (hb : blocker < 8) :
    (s.refuseCode axis blocker code).rd SYS_REQ_STAT_AXIS = axis ∧ (s.refuseCode axis blocker code).rd SYS_REQ_STAT_BLOCKER = blocker ∧
    Noted SYS_NOTE_REFUSED (s.refuseCode axis blocker code) ∧ Recorded 0x0003 (s.refuseCode axis blocker code) := by
  refine ⟨?_, ?_, ?_, State.recorded_silt _ _ _ _ _ _⟩
  · rw [State.refuseCode, State.rd_silt_ne _ _ _ _ _ _ (by decide) (by decide) (by decide),
      State.rd_notice_ne _ SYS_NOTE_REFUSED (by decide) (by decide), State.rd_count_ne _ _ (by decide)]
    exact ((State.rd_wr_ne _ _ (by decide)).trans (State.rd_wr_ne _ _ (by decide))).trans (State.rd_wr_of_lt _ ha)
  · rw [State.refuseCode, State.rd_silt_ne _ _ _ _ _ _ (by decide) (by decide) (by decide),
      State.rd_notice_ne _ SYS_NOTE_REFUSED (by decide) (by decide), State.rd_count_ne _ _ (by decide)]
    exact (State.rd_wr_ne _ _ (by decide)).trans (State.rd_wr_of_lt _ hb)
  · exact Noted.congr (n := SYS_NOTE_REFUSED) (State.noted_notice _ SYS_NOTE_REFUSED (by decide))
      (State.rd_silt_ne _ _ _ _ _ _ (by decide) (by decide) (by decide))

theorem State.request_parts (s : State) (r : ModeReq) :
    (s.request r).draws = s.draws ∧ (s.request r).hpn = s.hpn ∧ (s.request r).modes = s.modes :=
  have kept := State.request_kept (T := Touches 0x10) (.refl s) r fun _ h => h
  ⟨kept.frame .draws (by decide), kept.frame .hpn (by decide), kept.frame .modes (by decide)⟩

theorem State.lcRequest_spec (s : State) {r : KeyRequest} (h : ∀ b ∈ r.data, b < 256) : LifeCycleAsked s (s.lcRequest r) r.data := by
  obtain ⟨codes, named⟩ := s.tokenCheck_codes h
  have refused (u : State) (draws : u.draws = s.draws + 1) (hpn : u.hpn = s.hpn) (modes : u.modes = s.modes) (reqs : u.modeReqs = s.modeReqs)
      (some_ : (s.tokenCheck r.data).1 ≠ 0) (why : (s.tokenCheck r.data).1 = 1 →
        u.rd SYS_REQ_STAT_AXIS = 1 ∧ u.rd SYS_REQ_STAT_BLOCKER = 1 ∧ Noted SYS_NOTE_REFUSED u ∧ Recorded 0x0003 u)
      (unnamed : ¬((s.tokenCheck r.data).1 = 1 ∧ lifeOf (r.data.getD 17 0) = some (s.tokenCheck r.data).2)) :
      LifeCycleAsked s (u.lcResult r.tag r.slot (s.tokenCheck r.data).1) r.data := by
    have kept := u.lcResult_parts r.tag r.slot (s.tokenCheck r.data).1
    obtain ⟨result, noted, reason⟩ := u.lcResult_refused r.tag r.slot some_ (by omega)
    have hpnStands : (u.lcResult r.tag r.slot (s.tokenCheck r.data).1).hpn = s.hpn := (kept.frame .hpn (by decide)).trans hpn
    rw [LifeCycleAsked]
    refine ⟨(kept.frame .draws (by decide)).trans draws, by rw [hpnStands], (kept.frame .modes (by decide)).trans modes, ?_⟩
    rw [if_neg some_, if_neg unnamed]
    refine ⟨(kept.frame .modeReqs (by decide)).trans reqs, result, noted, reason, hpnStands, fun one => ?_⟩
    obtain ⟨axis, blocker, note, record⟩ := why one
    refine ⟨(kept.rd_eq _ (by decide)).trans axis, (kept.rd_eq _ (by decide)).trans blocker,
      Noted.congr (n := SYS_NOTE_REFUSED) note (kept.rd_eq _ (by decide)), ?_⟩
    rwa [Recorded, State.lcResult, State.keyResult_siltIntake, State.notice_siltIntake]
  rw [State.lcRequest]
  generalize check : s.tokenCheck r.data = c at *
  obtain ⟨code, to_⟩ := c
  dsimp only at codes named refused ⊢
  have asked (v : Life) (payload : List Nat) :
      let t := ({ s.newNonce with hpn := { s.newNonce.hpn with payload := payload } }.request ⟨.life v, r.tag, r.slot⟩)
      t.draws = s.draws + 1 ∧ t.hpn.slots = s.hpn.slots ∧ t.modes = s.modes ∧ Asks (.life v) t ∧ t.hpn.payload = payload := by
    obtain ⟨draws, hpn, modes⟩ := ({ s.newNonce with hpn := { s.newNonce.hpn with payload := payload } } : State).request_parts ⟨.life v, r.tag, r.slot⟩
    exact ⟨draws, by rw [hpn]; rfl, modes, State.asks_request _ _, by rw [hpn]⟩
  by_cases one : code = 1
  · rw [if_pos one]
    cases name : lifeOf (r.data.getD 17 0) with
    | some v =>
      dsimp only
      obtain ⟨draws, slots, modes, asks, payload⟩ := asked v []
      have same : to_ = v := named v one name
      rw [LifeCycleAsked, check]
      refine ⟨draws, slots, modes, ?_⟩
      rw [if_neg (by omega), if_pos ⟨one, by rw [name, same]⟩, same]
      exact ⟨asks, payload⟩
    | none =>
      dsimp only
      have kept := State.refuseCode_kept (T := Touches 0x400000030100000002) (.refl s.newNonce) 1 1 (r.data.getD 17 0) fun _ h => h
      have := refused (s.newNonce.refuseCode 1 1 (r.data.getD 17 0)) (kept.frame .draws (by decide)) (kept.frame .hpn (by decide))
        (kept.frame .modes (by decide)) (kept.frame .modeReqs (by decide)) (by omega)
        (fun _ => State.refuseCode_refused _ _ (by decide) (by decide)) (by rw [name]; simp)
      rwa [one] at this
  · rw [if_neg one]
    by_cases zero : code = 0
    · rw [if_neg (by omega)]
      obtain ⟨draws, slots, modes, asks, payload⟩ := asked to_ (r.data.drop 128)
      rw [LifeCycleAsked, check]
      refine ⟨draws, slots, modes, ?_⟩
      rw [if_pos zero]
      exact ⟨asks, payload⟩
    · rw [if_pos zero]
      exact refused s.newNonce rfl rfl rfl rfl zero (fun k => absurd k one) (fun k => one k.1)

/-! ### An operation that Hardpan cannot take, and an error of the key island -/

theorem State.keyResult_off (s : State) (kind tag slot : Nat) :
    (s.keyResult kind tag slot 2).hpn = s.hpn ∧ (s.keyResult kind tag slot 2).draws = s.draws ∧
    (s.keyResult kind tag slot 2).modeReqs = s.modeReqs ∧ (s.keyResult kind tag slot 2).rd HPN_ERR_REASON = 2 ∧
    Noted HPN_NOTE_REFUSED (s.keyResult kind tag slot 2) := by
  have kept := s.keyResult_parts kind tag slot 2
  obtain ⟨reason, -, noted, -⟩ := s.keyResult_refused kind tag slot (code := 2) (by decide) (by decide)
  exact ⟨kept.frame .hpn (by decide), kept.frame .draws (by decide), kept.frame .modeReqs (by decide), reason, noted⟩

/-- Settles O42: by the token's code, the kind of the request that waits, and the cut of the island. -/
theorem lifeCycleRequests : Obligations.LifeCycleRequests := by
  refine ⟨fun s s' p work free runs head kind ready enabled => ?_, fun s s' p i work free runs head off kinds => ?_, fun s work => ?_⟩
  · refine Completes.working rfl work ?_
    rw [State.hpnTake_of free runs head (by rw [kind]; rfl), if_pos ⟨ready, enabled⟩]
    obtain ⟨l, rfl⟩ := State.slqTake_down head
    exact State.lcRequest_spec { s with slqDown := l } (requestOf_octets p)
  · have idle : ¬(s.rd HPN_STATUS_READY = 1 ∧ s.rd HPN_CTRL_EN = 1) := by omega
    have refused (mine : Nat → Bool) (k : State → KeyRequest → State) (kind : mine p.kind = true) :
        let t := s.hpnTake mine k
        t.hpn = s.hpn ∧ t.draws = s.draws ∧ t.modeReqs = s.modeReqs ∧ t.rd HPN_ERR_REASON = 2 ∧ Noted HPN_NOTE_REFUSED t := by
      rw [State.hpnTake_of free runs head kind, if_neg idle]
      obtain ⟨l, rfl⟩ := State.slqTake_down head
      exact State.keyResult_off { s with slqDown := l } _ _ _
    rcases kinds with ⟨rfl, kind⟩ | ⟨rfl, kind⟩ | ⟨rfl, kind⟩ | ⟨rfl, kind⟩ | ⟨rfl, kind⟩ | ⟨rfl, kind⟩
    all_goals exact Completes.working rfl work (refused _ _ (by rw [kind]; rfl))
  · refine Completes.working rfl work ?_
    refine ⟨?_, State.silt_hpn _ _ _ _ _ _, fun n => ?_, ?_⟩
    · rw [State.rd_silt_ne _ _ _ _ _ _ (by decide) (by decide) (by decide)]
      exact State.ready_zeroise _ _
    · rw [State.keyOf, State.silt_hpn]
      rfl
    · exact (State.silt_records (s.zeroise false) 0x1C03 0 0 0 0).of_before rfl rfl rfl (State.rd_wr_ne _ _ (by decide)) rfl

end Sys2Proof.Machine
end

section
/-! SUPPORT. Key operations (O41). -/

namespace Sys2Proof.Machine

/-! ### What an operation leaves of the slots and of the island -/

theorem State.slotRekeyed_parts (s : State) (n : Nat) :
    (s.slotRekeyed n).hpn = s.hpn ∧ ∀ f : Field, f.page = 0x1C → (s.slotRekeyed n).rd f = s.rd f := by
  have kept := State.slotRekeyed_kept (T := Touches 0x100000004000) (.refl s) n fun _ h => h
  exact ⟨kept.frame .hpn (by decide), fun f hf => kept.rd_eq f (by rw [Field.slot, hf]; decide)⟩

/-- The record that a sealed key makes (R482, R483). -/
def State.sealedRecord (s : State) (n cls parent uses gen label key : Nat) : KeySlot :=
  KeySlot.seal ⟨1, cls, parent, uses, gen, label, s.rd HPN_LC_COUNT, s.calNow.secs % 2 ^ 32, s.hpn.sealCount + 1, [], []⟩ s.sealing n key

theorem State.sealKey_parts (s : State) (n cls parent uses gen label key : Nat) :
    (s.sealKey n cls parent uses gen label key).hpn = { s.hpn with
      sealCount := s.hpn.sealCount + 1
      slots := Sparse.insert s.hpn.slots n (s.sealedRecord n cls parent uses gen label key)
      island := s.hpn.island.map fun i => { i with keys := Sparse.insert i.keys n key } } ∧
    (s.sealKey n cls parent uses gen label key).rd HPN_OPS = s.rd HPN_OPS := by
  rw [State.sealKey]
  dsimp only
  obtain ⟨hpn, fields⟩ := State.slotRekeyed_parts ((State.setSlots { s with hpn := { s.hpn with sealCount := s.hpn.sealCount + 1 } }
    (Sparse.insert s.hpn.slots n (s.sealedRecord n cls parent uses gen label key))).setIsland fun l => Sparse.insert l n key) n
  exact ⟨hpn, (fields _ rfl).trans ((State.rd_wr_ne _ _ (by decide)).trans (State.rd_wr_ne _ _ (by decide)))⟩

theorem Sparse.get_map {α : Type} (l : List (Nat × α)) (g : α → α) (k : Nat) :
    Sparse.get (l.map fun p => (p.1, g p.2)) k = (Sparse.get l k).map g := by
  induction l with
  | nil => rfl
  | cons p l ih =>
    obtain ⟨j, v⟩ := p
    simp only [List.map_cons, Sparse.get]
    split
    · rfl
    · exact ih

theorem Sparse.mem_of_get {α : Type} {l : List (Nat × α)} {k : Nat} {v : α} (h : Sparse.get l k = some v) : (k, v) ∈ l := by
  induction l with
  | nil => cases h
  | cons p l ih =>
    obtain ⟨j, w⟩ := p
    rw [Sparse.get] at h
    split at h
    next same =>
      rw [same, Option.some.inj h]
      exact List.mem_cons_self
    next => exact List.mem_cons_of_mem _ (ih h)

/-- The record of a slot whose CLASS slot has left VALID (R491). -/
def orphanOf (n : Nat) (k : KeySlot) : KeySlot :=
  if k.state == 1 && k.parent == n && (k.cls == 2 || k.cls == 3) then { k with state := 2 } else k

theorem State.orphan_parts (s : State) (n : Nat) :
    (∀ j, (s.orphan n).slot j = (s.slot j).map (orphanOf n)) ∧ (s.orphan n).hpn.island = s.hpn.island ∧
    (s.orphan n).rd HPN_OPS = s.rd HPN_OPS := by
  rw [State.orphan]
  dsimp only
  split
  · refine ⟨fun j => ?_, by rw [State.notice_hpn]; rfl, ?_⟩
    · rw [State.slot, State.notice_hpn]
      change Sparse.get (s.hpn.slots.map _) j = (Sparse.get s.hpn.slots j).map (orphanOf n)
      rw [← Sparse.get_map]
      congr 1
      refine List.map_congr_left fun p _ => ?_
      rw [orphanOf]
      split <;> rfl
    · rw [State.rd_notice_ne _ HPN_NOTE_ORPHAN (by decide) (by decide)]
      exact (State.rd_wr_ne _ _ (by decide)).trans (State.rd_wr_ne _ _ (by decide))
  next none_ =>
    refine ⟨fun j => ?_, rfl, rfl⟩
    cases h : s.slot j with
    | none => rfl
    | some k =>
      refine congrArg some ?_
      rw [orphanOf, if_neg]
      exact fun child => none_ (List.any_eq_true.mpr ⟨(j, k), Sparse.mem_of_get h, child⟩)

/-- Whether a slot is a VALID CLASS slot (R491). -/
def State.validClass (s : State) (n : Nat) : Bool :=
  match s.slot n with
  | some k => k.state == 1 && k.cls == 1
  | none => false

theorem State.leaveSlot_parts (s : State) (n : Nat) (l : List (Nat × KeySlot)) :
    (∀ j, (s.leaveSlot n l).slot j = (Sparse.get l j).map (if s.validClass n then orphanOf n else id)) ∧
    (s.leaveSlot n l).hpn.island = s.hpn.island.map (fun i => { i with keys := Sparse.erase i.keys n }) ∧
    (s.leaveSlot n l).rd HPN_OPS = s.rd HPN_OPS := by
  have counted : ((s.setSlots l).setIsland fun l => Sparse.erase l n).rd HPN_OPS = s.rd HPN_OPS :=
    (State.rd_wr_ne _ _ (by decide)).trans (State.rd_wr_ne _ _ (by decide))
  have case_ : s.leaveSlot n l = if s.validClass n then ((s.setSlots l).setIsland fun l => Sparse.erase l n).orphan n
    else (s.setSlots l).setIsland fun l => Sparse.erase l n := rfl
  rw [case_]
  split
  · obtain ⟨slots, island, ops⟩ := State.orphan_parts ((s.setSlots l).setIsland fun l => Sparse.erase l n) n
    exact ⟨slots, island, ops.trans counted⟩
  · exact ⟨fun j => by rw [Option.map_id]; rfl, rfl, counted⟩

/-! ### The result codes (R485, R487, R491) -/

theorem usesAllowed_of {cls uses : Nat} (lo : 1 ≤ cls) (hi : cls ≤ 4) (h : Nat.land uses (usesOf cls) = uses) : usesAllowed cls uses = true := by
  rw [usesAllowed, show (uses &&& usesOf cls) = uses from h]
  simp [lo, hi]

theorem State.lifeAllows_of {s : State} (load : Bool) (cls : Nat)
    (h : s.modes.life = .provisioned ∨ (s.modes.life = .deployed ∧ (load = true → cls = 4))) : s.lifeAllows load cls = true := by
  rw [State.lifeAllows]
  rcases h with life | ⟨life, only⟩
  · rw [life]
  · rw [life]
    cases load <;> simp_all

theorem hasParent_iff (cls : Nat) : hasParent cls = true ↔ cls = 2 ∨ cls = 3 := by simp [hasParent]

theorem State.loadCode_zero {s : State} {r : KeyRequest} {key : Nat} (slot : r.slot < 64) (len : r.data.length = if r.cls = 4 then 128 else 88)
    (life : s.lifeAllows true r.cls = true) (uses : usesAllowed r.cls r.uses = true) (empty : s.slotState r.slot = 0)
    (parent : r.cls = 2 ∨ r.cls = 3 → s.parentOk r.parent = true) (brings : s.loadedKey r = some key) : s.loadCode r = 0 := by
  have stands : ¬(hasParent r.cls && !s.parentOk r.parent) = true := by
    intro bad
    rw [Bool.and_eq_true, hasParent_iff] at bad
    rw [parent bad.1] at bad
    cases bad.2
  rw [State.loadCode, if_neg (by omega), life, if_neg (by decide), uses, if_neg (by decide), if_neg (by omega), if_neg stands, brings]
  rfl

theorem State.deriveCode_zero {s : State} {r : KeyRequest} (slot : r.slot < 64) (life : s.lifeAllows false r.cls = true)
    (cls : r.cls = 2 ∨ r.cls = 3) (uses : usesAllowed r.cls r.uses = true) (empty : s.slotState r.slot = 0)
    (parent : s.parentOk r.parent = true) : s.deriveCode r = 0 := by
  rw [State.deriveCode, if_neg (by omega), life, if_neg (by decide), (hasParent_iff _).mpr cls, uses, if_neg (by decide), if_neg (by omega), parent]
  rfl

theorem State.rotateCode_zero {s : State} {r : KeyRequest} {k : KeySlot} (slot : r.slot < 64) (life : s.lifeAllows false 2 = true)
    (holds : s.slot r.slot = some k) (state : k.state = 1 ∨ k.state = 2) (cls : k.cls = 2 ∨ k.cls = 3) (gen : k.gen < 0xFFFFFFFF)
    (parent : s.parentOk k.parent = true) : s.rotateCode r = 0 := by
  rw [State.rotateCode, if_neg (by omega), life, if_neg (by decide), holds]
  dsimp only
  rw [if_neg (by omega), (hasParent_iff _).mpr cls, if_neg (by decide), if_neg (by omega), parent]
  rfl

theorem State.codes_lt (s : State) (r : KeyRequest) : s.loadCode r < 16 ∧ s.deriveCode r < 16 ∧ s.rotateCode r < 16 := by
  refine ⟨?_, ?_, ?_⟩
  · rw [State.loadCode]
    split_ifs <;> decide
  · rw [State.deriveCode]
    split_ifs <;> decide
  · rw [State.rotateCode]
    cases s.slot r.slot with
    | none =>
      dsimp only
      split_ifs <;> decide
    | some k =>
      dsimp only
      split_ifs <;> decide

/-! ### An operation as a whole -/

/-- A slot holds the key, and every other one stands (R483). -/
def KeyHeld (s t : State) (n cls parent uses gen label key : Nat) : Prop :=
  t.slot n = some (s.sealedRecord n cls parent uses gen label key) ∧ (s.hpn.island.isSome = true → t.keyOf n = key) ∧
  (∀ j, j ≠ n → t.slot j = s.slot j ∧ t.keyOf j = s.keyOf j) ∧ t.rd HPN_OPS = (s.rd HPN_OPS + 1) % 2 ^ 32 ∧ Noted HPN_NOTE_DONE t

theorem State.sealKey_held (s : State) (kind tag n cls parent uses gen label key : Nat) :
    KeyHeld s ((s.sealKey n cls parent uses gen label key).keyResult kind tag n 0) n cls parent uses gen label key := by
  obtain ⟨hpn, ops⟩ := s.sealKey_parts n cls parent uses gen label key
  obtain ⟨counted, noted⟩ := (s.sealKey n cls parent uses gen label key).keyResult_granted kind tag n
  have after := ((State.keyResult_parts (s.sealKey n cls parent uses gen label key) kind tag n 0).frame .hpn (by decide) : _ = _).trans hpn
  have keys (j : Nat) : ((s.sealKey n cls parent uses gen label key).keyResult kind tag n 0).keyOf j =
      ((s.hpn.island.bind fun i => Sparse.get (Sparse.insert i.keys n key) j)).getD 0 := by
    rw [State.keyOf, after]
    cases s.hpn.island <;> rfl
  refine ⟨?_, fun held => ?_, fun j ne => ⟨?_, ?_⟩, by rw [counted, ops], noted⟩
  · rw [State.slot, after]
    exact Sparse.get_insert_self _ _ _
  · obtain ⟨i, island⟩ := Option.isSome_iff_exists.mp held
    rw [keys, island, Option.bind_some, Sparse.get_insert_self]
    rfl
  · rw [State.slot, after]
    exact Sparse.get_insert_ne _ _ ne
  · rw [keys, State.keyOf]
    simp only [Sparse.get_insert_ne _ _ ne]

/-- A refused operation changes no slot (R488). -/
def KeyRefused (s t : State) (code : Nat) : Prop :=
  t.hpn = s.hpn ∧ t.rd HPN_ERR_REASON = code ∧ t.rd HPN_REFUSED = (s.rd HPN_REFUSED + 1) % 2 ^ 32 ∧ Noted HPN_NOTE_REFUSED t ∧ Noted HPN_NOTE_DONE t

theorem State.keyOperation_refused {s : State} {r : KeyRequest} {code : Nat} (is : s.keyCode r = code) (some_ : code ≠ 0) (hc : code < 16) :
    KeyRefused s (s.keyOperation r) code := by
  have done : s.keyOperation r = s.keyResult r.kind r.tag r.slot code := by
    simp only [State.keyOperation, is, if_neg some_]
  rw [done]
  exact ⟨(s.keyResult_parts r.kind r.tag r.slot code).frame .hpn (by decide), s.keyResult_refused _ _ _ some_ hc⟩

theorem State.keyOperation_granted {s : State} {r : KeyRequest} (is : s.keyCode r = 0) :
    s.keyOperation r = (s.keyEffect r).keyResult r.kind r.tag r.slot 0 := by
  simp only [State.keyOperation, is, if_true]

/-- What ERASE leaves (R489, R491). -/
def SlotErased (s t : State) (n : Nat) : Prop :=
  let cls1 := ∃ k, s.slot n = some k ∧ k.state = 1 ∧ k.cls = 1
  t.slot n = none ∧ t.keyOf n = 0 ∧ (t.rd HPN_OPS = (s.rd HPN_OPS + 1) % 2 ^ 32 ∧ Noted HPN_NOTE_DONE t) ∧
  ∀ j k, j ≠ n → s.slot j = some k →
    (cls1 → k.state = 1 → k.parent = n → (k.cls = 2 ∨ k.cls = 3) → t.slot j = some { k with state := 2 }) ∧
    (¬cls1 ∨ k.state ≠ 1 ∨ k.parent ≠ n ∨ (k.cls ≠ 2 ∧ k.cls ≠ 3) → t.slot j = some k)

theorem State.validClass_iff (s : State) (n : Nat) : s.validClass n = true ↔ ∃ k, s.slot n = some k ∧ k.state = 1 ∧ k.cls = 1 := by
  rw [State.validClass]
  cases s.slot n <;> simp

theorem State.leaveSlot_erased (s : State) (kind tag n : Nat) :
    SlotErased s ((s.leaveSlot n (Sparse.erase s.hpn.slots n)).keyResult kind tag n 0) n := by
  obtain ⟨slots, island, ops⟩ := s.leaveSlot_parts n (Sparse.erase s.hpn.slots n)
  obtain ⟨counted, noted⟩ := (s.leaveSlot n (Sparse.erase s.hpn.slots n)).keyResult_granted kind tag n
  have after : ((s.leaveSlot n (Sparse.erase s.hpn.slots n)).keyResult kind tag n 0).hpn = (s.leaveSlot n (Sparse.erase s.hpn.slots n)).hpn :=
    (State.keyResult_parts (s.leaveSlot n (Sparse.erase s.hpn.slots n)) kind tag n 0).frame .hpn (by decide)
  have slot (j : Nat) : ((s.leaveSlot n (Sparse.erase s.hpn.slots n)).keyResult kind tag n 0).slot j =
      (Sparse.get (Sparse.erase s.hpn.slots n) j).map (if s.validClass n then orphanOf n else id) := by
    rw [State.slot, after]
    exact slots j
  refine ⟨?_, ?_, ⟨by rw [counted, ops], noted⟩, fun j k ne holds => ?_⟩
  · rw [slot, Sparse.get_erase_self]
    rfl
  · rw [State.keyOf, after, island]
    cases s.hpn.island with
    | none => rfl
    | some i => simp [Sparse.get_erase_self]
  · have stands : Sparse.get (Sparse.erase s.hpn.slots n) j = some k := (Sparse.get_erase_ne _ ne).trans holds
    rw [slot, stands, ← s.validClass_iff]
    refine ⟨fun was state parent cls => ?_, fun apart => ?_⟩
    · rw [if_pos was, Option.map_some, orphanOf, if_pos (by simp [state, parent, cls])]
    · by_cases was : s.validClass n = true
      · rw [if_pos was, Option.map_some, orphanOf, if_neg]
        simp only [Bool.and_eq_true, Bool.or_eq_true, beq_iff_eq]
        rintro ⟨⟨state, parent⟩, cls⟩
        rcases apart with no | no | no | ⟨no2, no3⟩
        · exact no was
        · exact no state
        · exact no parent
        · exact cls.elim no2 no3
      · rw [if_neg was]
        rfl

/-- What Hardpan does with the operation that it takes, of the state before. -/
theorem State.taken_operation {s s' : State} {p : Packet} {P : State → State → Prop} (free : s.lcWaits = false) (runs : s.isolated 0x06 = false)
    (head : s.slqTake 2 = some (p, s')) (ready : s.rd HPN_STATUS_READY = 1) (enabled : s.rd HPN_CTRL_EN = 1) {mine : Nat → Bool}
    (kind : mine p.kind = true) (all : ∀ l, P s (State.keyOperation { s with slqDown := l } (requestOf p))) :
    P s (s.hpnTake mine fun s r => s.keyOperation r) := by
  rw [State.hpnTake_of free runs head kind, if_pos ⟨ready, enabled⟩]
  obtain ⟨l, rfl⟩ := State.slqTake_down head
  exact all l

theorem State.keyCode_of {s : State} {r : KeyRequest} : (r.kind = 1 → s.keyCode r = s.loadCode r) ∧ (r.kind = 2 → s.keyCode r = s.deriveCode r) ∧
    (r.kind = 3 → s.keyCode r = s.rotateCode r) ∧
    (r.kind = 4 ∨ r.kind = 6 → s.keyCode r = if 64 ≤ r.slot then 8 else if s.lifeAllows false 2 then 0 else 1) := by
  refine ⟨fun k => ?_, fun k => ?_, fun k => ?_, fun k => ?_⟩
  · rw [State.keyCode, if_pos k]
  · rw [State.keyCode, if_neg (by omega), if_pos k]
  · rw [State.keyCode, if_neg (by omega), if_neg (by omega), if_pos k]
  · rw [State.keyCode, if_neg (by omega), if_neg (by omega), if_neg (by omega), if_pos k]

/-- An operation that seals a key. -/
theorem State.keyOperation_seals {s : State} {r : KeyRequest} {cls parent uses gen label key : Nat} (is : s.keyCode r = 0)
    (effect : s.keyEffect r = s.sealKey r.slot cls parent uses gen label key) :
    KeyHeld s (s.keyOperation r) r.slot cls parent uses gen label key := by
  rw [State.keyOperation_granted is, effect]
  exact s.sealKey_held _ _ _ _ _ _ _ _ _

theorem State.codes_down (s : State) (l : List SlipQueue) (r : KeyRequest) : State.loadCode { s with slqDown := l } r = s.loadCode r ∧
    State.deriveCode { s with slqDown := l } r = s.deriveCode r ∧ State.rotateCode { s with slqDown := l } r = s.rotateCode r := ⟨rfl, rfl, rfl⟩

theorem State.taken_refused {s s' : State} {p : Packet} {code : Nat} (free : s.lcWaits = false) (runs : s.isolated 0x06 = false)
    (head : s.slqTake 2 = some (p, s')) (ready : s.rd HPN_STATUS_READY = 1) (enabled : s.rd HPN_CTRL_EN = 1) {mine : Nat → Bool}
    (kind : mine p.kind = true) (is : ∀ l, State.keyCode { s with slqDown := l } (requestOf p) = code) (some_ : code ≠ 0) (hc : code < 16) :
    KeyRefused s (s.hpnTake mine fun s r => s.keyOperation r) code :=
  State.taken_operation (P := fun s t => KeyRefused s t code) free runs head ready enabled kind
    fun l => State.keyOperation_refused (s := { s with slqDown := l }) (is l) some_ hc

/-- Settles O41: each operation by its code. -/
theorem keyOperations : Obligations.KeyOperations := by
  refine ⟨fun s s' p key takes => ?_, fun s s' p takes bad => ?_, fun s s' p takes => ?_, fun s s' p takes bad => ?_,
    fun s s' p k takes => ?_, fun s s' p takes bad => ?_, fun s s' p takes slot life => ?_, fun s s' p takes slot life => ?_⟩
  all_goals obtain ⟨work, free, runs, head, kind, ready, enabled⟩ := takes
  · intro r slot len life lo hi uses empty parent brings
    refine Completes.working rfl work (State.taken_operation (P := fun s t => KeyHeld s t r.slot r.cls _ r.uses 0 r.label key)
      free runs head ready enabled (by rw [kind]; rfl) fun l => ?_)
    have code : s.loadCode r = 0 := State.loadCode_zero slot len (State.lifeAllows_of _ _ (life.imp id fun d => ⟨d.1, fun _ => d.2⟩))
      (usesAllowed_of lo hi uses) empty parent brings
    refine State.keyOperation_seals (s := { s with slqDown := l }) (r := r) ((State.keyCode_of.1 kind).trans ((State.codes_down s l r).1.trans code)) ?_
    rw [State.keyEffect, if_pos (show r.kind = 1 from kind), show State.loadedKey { s with slqDown := l } r = some key from brings]
    simp only [hasParent_iff]
    rfl
  · exact Completes.working rfl work (State.taken_refused free runs head ready enabled (by rw [kind]; rfl)
      (fun l => (State.keyCode_of.1 kind).trans (State.codes_down s l _).1) bad (State.codes_lt s _).1)
  · intro r slot life cls uses empty parent
    refine Completes.working rfl work (State.taken_operation (P := fun s t => KeyHeld s t r.slot r.cls r.parent r.uses 0 r.label (derivedKey (s.keyOf r.parent) r.label 0))
      free runs head ready enabled (by rw [kind]; rfl) fun l => ?_)
    have code : s.deriveCode r = 0 := State.deriveCode_zero slot (State.lifeAllows_of _ _ (life.imp id fun d => ⟨d, nofun⟩)) cls
      (usesAllowed_of (by omega) (by omega) uses) empty parent
    refine State.keyOperation_seals (s := { s with slqDown := l }) (r := r) ((State.keyCode_of.2.1 kind).trans ((State.codes_down s l r).2.1.trans code)) ?_
    rw [State.keyEffect, if_neg (by rw [show r.kind = 2 from kind]; decide), if_pos (show r.kind = 2 from kind)]
    rfl
  · exact Completes.working rfl work (State.taken_refused free runs head ready enabled (by rw [kind]; rfl)
      (fun l => (State.keyCode_of.2.1 kind).trans (State.codes_down s l _).2.1) bad (State.codes_lt s _).2.1)
  · intro r slot life holds state cls gen parent
    refine Completes.working rfl work (State.taken_operation (P := fun s t => KeyHeld s t r.slot k.cls k.parent k.uses (k.gen + 1) k.label
        (derivedKey (s.keyOf k.parent) k.label (k.gen + 1)))
      free runs head ready enabled (by rw [kind]; rfl) fun l => ?_)
    have code : s.rotateCode r = 0 := State.rotateCode_zero slot (State.lifeAllows_of _ _ (life.imp id fun d => ⟨d, nofun⟩)) holds state cls
      gen parent
    refine State.keyOperation_seals (s := { s with slqDown := l }) (r := r) ((State.keyCode_of.2.2.1 kind).trans ((State.codes_down s l r).2.2.trans code)) ?_
    have is : r.kind = 3 := kind
    rw [State.keyEffect, if_neg (by omega), if_neg (by omega), if_pos is, show State.slot { s with slqDown := l } r.slot = some k from holds]
    rfl
  · exact Completes.working rfl work (State.taken_refused free runs head ready enabled (by rw [kind]; rfl)
      (fun l => (State.keyCode_of.2.2.1 kind).trans (State.codes_down s l _).2.2) bad (State.codes_lt s _).2.2)
  · have is : (requestOf p).kind = 4 := kind
    refine Completes.working rfl work (State.taken_operation (P := fun s t => SlotErased s t (requestOf p).slot)
      free runs head ready enabled (by rw [kind]; rfl) fun l => ?_)
    have allowed : State.lifeAllows { s with slqDown := l } false 2 = true := State.lifeAllows_of _ _ (life.imp id fun d => ⟨d, nofun⟩)
    rw [State.keyOperation_granted ((State.keyCode_of.2.2.2 (.inl is)).trans (by rw [if_neg (by omega), if_pos allowed])), State.keyEffect,
      if_neg (by omega), if_neg (by omega), if_neg (by omega), if_pos is]
    exact State.leaveSlot_erased { s with slqDown := l } _ _ _
  · have is : (requestOf p).kind = 6 := kind
    refine Completes.working rfl work (State.taken_operation
      (P := fun s t => t.hpn = s.hpn ∧ t.rd HPN_OPS = (s.rd HPN_OPS + 1) % 2 ^ 32 ∧ Noted HPN_NOTE_DONE t)
      free runs head ready enabled (by rw [kind]; rfl) fun l => ?_)
    have allowed : State.lifeAllows { s with slqDown := l } false 2 = true := State.lifeAllows_of _ _ (life.imp id fun d => ⟨d, nofun⟩)
    rw [State.keyOperation_granted ((State.keyCode_of.2.2.2 (.inr is)).trans (by rw [if_neg (by omega), if_pos allowed])), State.keyEffect,
      if_neg (by omega), if_neg (by omega), if_neg (by omega), if_neg (by omega)]
    exact ⟨(State.keyResult_parts _ _ _ _ _).frame .hpn (by decide), State.keyResult_granted _ _ _ _⟩

end Sys2Proof.Machine
end

section
/-! SUPPORT. The end of a FULL test, recovery tests and failed regions (O46). -/

namespace Sys2Proof.Machine

/-! ### Records and reports (R530, R531) -/

/-- The parts that a Sieve record may touch. -/
theorem State.sivRecord_parts (s : State) (code p0 p1 p2 p3 : Nat) :
    Kept (Touches 0x4440000020100003002) s (s.sivRecord code p0 p1 p2 p3) :=
  State.sivRecord_kept (.refl s) code p0 p1 p2 p3 fun _ h => h

/-- A packet leaves the Silt intake alone. -/
theorem State.slqPush_siltIntake (s : State) (q kind prio : Nat) (words : List Nat) (pad : Nat) :
    (s.slqPush q kind prio words pad).siltIntake = s.siltIntake :=
  (State.slqPush_kept_packetParts s q kind prio words pad).frame .siltIntake (by decide)

theorem State.recorded_sivRecord (s : State) (code p0 p1 p2 p3 : Nat) : Recorded code (s.sivRecord code p0 p1 p2 p3) := by
  rw [State.sivRecord]
  split
  · exact Recorded.congr (State.recorded_silt _ _ _ _ _ _) (State.slqPush_siltIntake _ _ _ _ _ _)
  · exact State.recorded_silt _ _ _ _ _ _

/-- What a report shows (R526, R530). -/
theorem State.sivReport_shows (s : State) {f : SivFailure} {source : Nat} (fails : Nat) (hp : f.piece < 2 ^ 10) (ha : f.addr < 2 ^ 32) (hs : source < 4) :
    let t := s.sivReport f source fails
    t.rd SIV_F_WHERE_REGION = f.region % 256 ∧ t.rd SIV_F_WHERE_PIECE = f.piece ∧ t.rd SIV_F_WHERE_SOURCE = source ∧
    t.rd SIV_F_ADDR = f.addr ∧ t.rd SIV_F_END_FAILS = min fails 65535 ∧ Recorded 0x1F02 t := by
  intro t
  have page (g : Field) (hg : g.page = 0x1F) : t.rd g = _ := (State.sivRecord_parts _ _ _ _ _ _).rd_eq g (by rw [Field.slot, hg]; decide)
  refine ⟨?_, ?_, ?_, ?_, ?_, State.recorded_sivRecord _ _ _ _ _ _⟩
  all_goals
    rw [page _ rfl]
    simp (disch := decide) only [State.wrAll, State.rd_publish_ne, State.rd_wr_ne, State.rd_wr_self]
  · rfl
  · exact Nat.mod_eq_of_lt hp
  · exact Nat.mod_eq_of_lt (lt_trans hs (by decide))
  · exact Nat.mod_eq_of_lt ha
  · exact Nat.mod_eq_of_lt (Nat.lt_succ_of_le (Nat.min_le_right _ _))

theorem State.sivReport_parts (s : State) (f : SivFailure) (source fails : Nat) :
    Kept (Touches 0x4c40000020100003002) s (s.sivReport f source fails) :=
  State.sivReport_kept (.refl s) f source fails fun _ h => h

/-! ### What a FULL test clears (R528) -/

/-- What the memories of a region leave at reset contents. -/
theorem State.sivClearRegion_parts (s : State) (id : Nat) : ∃ w m p d c k x f u v, s.sivClearRegion id =
    { s with win := w, mac := m, spr := p, drf := d, sch := c, tmp := k, dpt := x, swf := f, slqUp := u, slqDown := v } ∧
    (s.mac.frameBuf = [] → m.frameBuf = []) := by
  rw [State.sivClearRegion]
  iterate 11
    refine iteInduction (motive := fun t : State => ∃ w m p d c k x f u v, t =
      { s with win := w, mac := m, spr := p, drf := d, sch := c, tmp := k, dpt := x, swf := f, slqUp := u, slqDown := v } ∧
      (s.mac.frameBuf = [] → m.frameBuf = [])) (fun _ => ⟨_, _, _, _, _, _, _, _, _, _, rfl, fun h => ?_⟩) fun _ => ?_
    · simp [MacUnit.clear, h]
  exact ⟨_, _, _, _, _, _, _, _, _, _, rfl, fun h => h⟩

theorem State.sivClearRegions_parts (l : List Nat) (s : State) : ∃ w m p d c k x f u v, l.foldl State.sivClearRegion s =
    { s with win := w, mac := m, spr := p, drf := d, sch := c, tmp := k, dpt := x, swf := f, slqUp := u, slqDown := v } ∧
    (s.mac.frameBuf = [] → m.frameBuf = []) := by
  induction l generalizing s with
  | nil => exact ⟨_, _, _, _, _, _, _, _, _, _, rfl, fun h => h⟩
  | cons id l ih =>
    obtain ⟨w, m, p, d, c, k, x, f, u, v, first, empty⟩ := s.sivClearRegion_parts id
    obtain ⟨w', m', p', d', c', k', x', f', u', v', rest, empty'⟩ := ih (s.sivClearRegion id)
    refine ⟨w', m', p', d', c', k', x', f', u', v', ?_, fun h => empty' ?_⟩
    · rw [List.foldl_cons, rest, first]
    · rw [first]
      exact empty h

theorem State.resetPages_parts (l : List Nat) (kept : List Field) (s : State) : ∃ r, l.foldl (fun s p => s.resetPage p kept) s = { s with regs := r } := by
  induction l generalizing s with
  | nil => exact ⟨_, rfl⟩
  | cons p l ih =>
    obtain ⟨r, rest⟩ := ih (s.resetPage p kept)
    exact ⟨r, rest⟩

/-- A field of a page that no test covers keeps its value. -/
theorem State.rd_resetPages {f : Field} {l : List Nat} (out : f.key / 32 / 0x1000 ∉ l) (kept : List Field) (s : State) :
    (l.foldl (fun s p => s.resetPage p kept) s).rd f = s.rd f := by
  induction l generalizing s with
  | nil => rfl
  | cons p l ih =>
    rw [List.foldl_cons, ih (List.not_mem_of_not_mem_cons out), State.resetPage, State.rd_forgetRegs, if_pos]
    have ne : f.key / 32 / 0x1000 ≠ p := fun same => out (List.mem_cons.mpr (.inl same))
    simp [ne]

theorem State.sivClearRest_regs (s : State) : s.sivClearRest.regs = s.regs := rfl

theorem State.sivClearRegions_regs (l : List Nat) (s : State) : (l.foldl State.sivClearRegion s).regs = s.regs := by
  obtain ⟨w, m, p, d, c, k, x, f, u, v, parts, -⟩ := State.sivClearRegions_parts l s
  rw [parts]

/-- The registers replaced as a whole. -/
def State.setRegs (s : State) (r : List (Nat × Nat)) : State := { s with regs := r }

/-- The regions between the frame buffer's and that of the queues. -/
def regionsBetween : List Nat := ((sivRegions.map SivRegion.id).drop 1).dropLast

theorem getD_map_empty (l : List SlipQueue) (q : Nat) : (l.map fun _ => SlipQueue.empty).getD q .empty = .empty := by
  rw [List.getD_eq_getElem?_getD, List.getElem?_map]
  cases l[q]? <;> rfl

/-- Every tested unit at its reset contents, and what stands (R528). -/
theorem State.sivClearAll_parts (s : State) (kept : List Field) :
    let t := s.sivClearAll kept
    t.mac.frameBuf = [] ∧ (∀ q, t.queue q = .empty) ∧ t.hpn = s.hpn ∧ t.siltLog = s.siltLog ∧ t.cal = s.cal ∧
    t.modes = s.modes ∧ t.startup = s.startup ∧ ∀ f : Field, f.key / 32 / 0x1000 ∉ sivTestedPages → t.rd f = s.rd f := by
  intro t
  obtain ⟨w, m, p, d, c, k, x, f, u, v, between, empty⟩ := State.sivClearRegions_parts regionsBetween (s.sivClearRegion 0x0D)
  have cleared : (sivRegions.map SivRegion.id).foldl State.sivClearRegion s =
      (regionsBetween.foldl State.sivClearRegion (s.sivClearRegion 0x0D)).sivClearRegion 0x69 := by
    rw [show sivRegions.map SivRegion.id = 0x0D :: (regionsBetween ++ [0x69]) by decide, List.foldl_cons, List.foldl_append]
    rfl
  rw [between] at cleared
  obtain ⟨r, reset⟩ := State.resetPages_parts sivTestedPages kept ((sivRegions.map SivRegion.id).foldl State.sivClearRegion s)
  have parts : t = (((sivRegions.map SivRegion.id).foldl State.sivClearRegion s).setRegs r).sivClearRest := by
    rw [show t = s.sivClearAll kept from rfl, State.sivClearAll, reset]
    rfl
  have fields : ∀ f : Field, f.key / 32 / 0x1000 ∉ sivTestedPages → t.rd f = s.rd f := by
    intro f out
    refine (State.rd_congr (show t.regs = _ from State.sivClearRest_regs _) f).trans ((State.rd_resetPages out kept _).trans ?_)
    exact State.rd_congr (State.sivClearRegions_regs _ s) f
  rw [cleared] at parts
  refine ⟨?_, fun q => ?_, ?_, ?_, ?_, ?_, ?_, fields⟩
  · rw [parts]
    exact empty rfl
  · rw [State.queue, parts]
    split
    · exact getD_map_empty _ _
    · exact getD_map_empty _ _
  all_goals
    rw [parts]
    rfl

theorem State.setSieve_parts (s : State) (v : SieveMode) :
    (s.setSieve v).modes.sieve = v ∧ Kept (Touches 0x803000000000b) s (s.setSieve v) := by
  refine ⟨?_, State.setSieve_kept (.refl s) v fun _ h => h⟩
  rw [State.setSieve]
  split
  next same => exact same
  next =>
    have noted : (State.modeChanged { s with modes := { s.modes with sieve := v } }).modes.sieve = v := by
      rw [State.modeChanged, State.notice_modes]
    dsimp only
    split
    · have kept := State.dptFollow_kept (T := Touches 0x8020000000003)
        (.refl (State.modeChanged { s with modes := { s.modes with sieve := v } })) fun _ h => h
      exact (congrArg Modes.sieve (kept.frame .modes (by decide))).trans noted
    · exact noted

/-- The records of a FULL test: its first failure, and its end (R528, R531). -/
def State.fullRecorded (s : State) (found : Option SivFailure) (fails regions uncleared : Nat) : State :=
  (match found with
   | some x => s.sivReport x 2 fails
   | none => s).sivRecord 0x1F04 (949 - uncleared) regions 0 0

theorem State.fullRecorded_parts (s : State) (found : Option SivFailure) (fails regions uncleared : Nat) :
    Kept (Touches 0x4c40000020100003002) s (s.fullRecorded found fails regions uncleared) := by
  have reported : Kept (Touches 0x4c40000020100003002) s (match found with
      | some x => s.sivReport x 2 fails
      | none => s) := by
    cases found with
    | none => exact .refl s
    | some x => exact s.sivReport_parts x 2 fails
  exact State.sivRecord_kept reported _ _ _ _ _ fun i h => Sub.trans (fun _ k => k) (by decide) i h

/-- The state in which a FULL test clears: its report is written and the axis is OFF. -/
def State.fullReported (s : State) (found : Option SivFailure) (fails regions uncleared : Nat) : State :=
  ((s.fullRecorded found fails regions uncleared).setSieve .off).notice SIV_NOTE_FULL_DONE

theorem State.fullReported_parts (s : State) (found : Option SivFailure) (fails regions uncleared : Nat) :
    let t := s.fullReported found fails regions uncleared
    t.hpn = s.hpn ∧ t.siltLog = s.siltLog ∧ t.cal = s.cal ∧ t.startup = s.startup ∧ t.modes.sieve = .off ∧ Noted SIV_NOTE_FULL_DONE t := by
  intro t
  have recorded := s.fullRecorded_parts found fails regions uncleared
  obtain ⟨axis, off⟩ := (s.fullRecorded found fails regions uncleared).setSieve_parts .off
  refine ⟨?_, ?_, ?_, ?_, ?_, State.noted_notice _ SIV_NOTE_FULL_DONE (by decide)⟩
  · exact (State.notice_hpn _ _).trans ((off.frame .hpn (by decide) : _ = _).trans (recorded.frame .hpn (by decide)))
  · exact (State.notice_siltLog _ _).trans ((off.frame .siltLog (by decide) : _ = _).trans (recorded.frame .siltLog (by decide)))
  · exact (State.notice_cal _ _).trans ((off.frame .cal (by decide) : _ = _).trans (recorded.frame .cal (by decide)))
  · exact (State.notice_startup _ _).trans ((off.frame .startup (by decide) : _ = _).trans (recorded.frame .startup (by decide)))
  · exact (congrArg Modes.sieve (State.notice_modes _ _)).trans axis

/-- The module that a FULL test leaves: tested, and not READY. -/
def State.testedModule (s : State) : State :=
  { s with startup := { s.startup with phase := s.startup.phase.afterFull } }.wr SYS_STATUS_READY 0

theorem State.fullDone_of {s : State} (full : s.modes.sieve = .full) (found : Option SivFailure) (fails regions un : Nat) :
    s.fullDone found fails regions un = ((s.fullReported found fails regions un).sivClearAll fullKept).testedModule := by
  unfold State.fullDone
  rw [if_neg (not_not_intro full)]
  cases found <;> rfl

/-- The end of a FULL test (R528). -/
theorem State.fullDone_spec {s : State} (full : s.modes.sieve = .full) (found : Option SivFailure) (fails regions un : Nat) :
    let t := s.fullDone found fails regions un
    t.modes.sieve = .off ∧ t.startup.phase = s.startup.phase.afterFull ∧ t.rd SYS_STATUS_READY = 0 ∧ t.mac.frameBuf = [] ∧
    (∀ q, q < 24 → t.queue q = .empty) ∧ Noted SIV_NOTE_FULL_DONE t ∧ t.hpn = s.hpn ∧ t.siltLog = s.siltLog ∧ t.cal = s.cal := by
  obtain ⟨hpn, log, cal, startup, axis, noted⟩ := s.fullReported_parts found fails regions un
  have clear := (s.fullReported found fails regions un).sivClearAll_parts fullKept
  rw [State.fullDone_of full]
  generalize (s.fullReported found fails regions un).sivClearAll fullKept = u at clear ⊢
  obtain ⟨frames, queues, hpn', log', cal', modes', startup', fields⟩ := clear
  refine ⟨(congrArg Modes.sieve modes').trans axis, ?_, State.rd_wr_of_lt _ (by decide), frames, fun q _ => queues q, ?_,
    hpn'.trans hpn, log'.trans log, cal'.trans cal⟩
  · exact congrArg (fun x : Startup => x.phase.afterFull) (startup'.trans startup)
  · have stands : Noted SIV_NOTE_FULL_DONE u := Noted.congr (n := SIV_NOTE_FULL_DONE) noted (fields (NOTE_RAW 0x1F) (by decide))
    exact Noted.congr (n := SIV_NOTE_FULL_DONE) stands (State.rd_wr_ne _ _ (by decide))

/-! ### Recovery tests and failed regions (R526, R529) -/

/-- A page's CTRL.EN is no register that a write of the host port notes. -/
theorem State.control_hostWrote (s : State) (port : Port) (a p : Nat) :
    (s.hostWrote port false a).rd ⟨p * 0x1000 + 8, 0, 1, .rw, 0, .cleared⟩ = s.rd ⟨p * 0x1000 + 8, 0, 1, .rw, 0, .cleared⟩ := by
  refine State.rd_hostWrote_ne _ _ _ _ ?_ ?_
  · change (p * 0x1000 + 8) * 32 + 0 ≠ (0x01 * 0x1000 + 0x10) * 32 + 0
    omega
  · change (p * 0x1000 + 8) * 32 + 0 ≠ 0x01A00 * 32 + 0
    omega

theorem State.recoverCode_hostWrote (s : State) (port : Port) (a id : Nat) : (s.hostWrote port false a).recoverCode id = s.recoverCode id := by
  have plain (f : Field) (note : f.key ≠ (NOTE_RAW 0x01).key) (pba : f.key ≠ MSIX_PBA.key) : (s.hostWrote port false a).rdB f = s.rdB f := by
    rw [State.rdB, State.rdB, State.rd_hostWrote_ne _ _ _ _ note pba]
  have enabled : (s.hostWrote port false a).sivUnitEnabled id = s.sivUnitEnabled id := by
    simp only [State.sivUnitEnabled, State.control_hostWrote, plain RFE_CTRL_TX_EN (by decide) (by decide),
      plain RFE_CTRL_RX0_EN (by decide) (by decide), plain RFE_CTRL_RX1_EN (by decide) (by decide)]
  simp only [State.recoverCode, enabled, State.hostWrote_modes, State.hostWrote_siv]

theorem sivSecret_exist {id : Nat} (h : id ∈ sivSecret) : sivExists id = true ∧ id ≠ 0x01 := by
  simp only [sivSecret, List.mem_cons, List.not_mem_nil, or_false] at h
  rcases h with rfl | rfl | rfl | rfl <;> decide

/-- RECOVER of a region that a recovery test may take. -/
theorem State.recoverCode_zero {s : State} {id : Nat} (exists_ : sivExists id = true) (boot : id ≠ 0x01) (secret : id ∉ sivSecret)
    (enabled : s.sivUnitEnabled id = false) (full : s.modes.sieve ≠ .full) (idle : s.siv.recover = none) : s.recoverCode id = 0 := by
  simp [State.recoverCode, exists_, boot, secret, enabled, full, idle]

/-- RECOVER of any other is refused. -/
theorem State.recoverCode_pos {s : State} {id : Nat} (bar : sivExists id = false ∨ id = 0x01 ∨ id ∈ sivSecret ∨ s.sivUnitEnabled id = true ∨
    s.modes.sieve = .full ∨ s.siv.recover ≠ none) : 1 ≤ s.recoverCode id := by
  rw [State.recoverCode]
  split_ifs with unknown secret enabled full busy
  iterate 5 decide
  simp only [Bool.or_eq_true, Bool.not_eq_true', beq_iff_eq, not_or, Bool.not_eq_false] at unknown
  simp only [List.contains_eq_mem, decide_eq_true_eq] at secret
  rcases bar with no | no | no | no | no | no
  · rw [unknown.1] at no
    cases no
  · exact absurd no unknown.2
  · exact absurd no secret
  · exact absurd no enabled
  · exact absurd no full
  · exact absurd (Option.isSome_iff_ne_none.mpr no) busy

theorem State.recoverCode_lt (s : State) (id : Nat) : s.recoverCode id < 8 := by
  rw [State.recoverCode]
  split_ifs <;> decide

theorem State.recover_spec (s : State) (id : Nat) : (s.recover id).rd SIV_CMD_STAT_RESULT = s.recoverCode id ∧
    (s.recover id).siv = if s.recoverCode id = 0 then { s.siv with recover := some id } else s.siv := by
  have result : (s.wr SIV_CMD_STAT_RESULT (s.recoverCode id)).rd SIV_CMD_STAT_RESULT = s.recoverCode id :=
    State.rd_wr_of_lt _ (s.recoverCode_lt id)
  rw [State.recover]
  dsimp only
  split
  · exact ⟨result, rfl⟩
  · exact ⟨result, rfl⟩

theorem State.recover_hostWrote (s : State) (port : Port) (a id : Nat) :
    ((s.hostWrote port false a).recover id).rd SIV_CMD_STAT_RESULT = s.recoverCode id ∧
    ((s.hostWrote port false a).recover id).siv = if s.recoverCode id = 0 then { s.siv with recover := some id } else s.siv := by
  have spec := (s.hostWrote port false a).recover_spec id
  rwa [State.recoverCode_hostWrote, State.hostWrote_siv] at spec

/-- The end of a recovery test (R529). -/
theorem State.recoverDone_spec {s : State} {id : Nat} (runs : s.siv.recover = some id) {found : Option SivFailure} (fails : Nat)
    (wf : ∀ x ∈ found, x.piece < 1024 ∧ x.addr < 2 ^ 32) :
    let t := s.recoverDone found fails
    t.siv.recover = none ∧ Noted SIV_NOTE_RECOVER_DONE t ∧
    match (generalizing := false) found with
    | none => OnlyFields [NOTE_RAW 0x1F, MSIX_PBA] s t
    | some f => t.rd SIV_F_WHERE_REGION = id % 256 ∧ t.rd SIV_F_WHERE_PIECE = f.piece ∧ t.rd SIV_F_WHERE_SOURCE = 3 ∧
        t.rd SIV_F_ADDR = f.addr ∧ t.rd SIV_F_END_FAILS = min fails 65535 ∧ Recorded 0x1F02 t := by
  have begins : ∃ u : State, s.recoverDone found fails = (match found with
      | some f => u.sivReport { f with region := id } 3 fails
      | none => u).notice SIV_NOTE_RECOVER_DONE ∧ u.siv.recover = none ∧ u.regs = s.regs := by
    obtain ⟨w, m, p, d, c, k, x, f, u, v, cleared, -⟩ := State.sivClearRegion_parts { s with siv := { s.siv with recover := none } } id
    refine ⟨_, by rw [State.recoverDone, runs] <;> rfl, ?_⟩
    rw [cleared]
    exact ⟨rfl, rfl⟩
  obtain ⟨u, done, idle, regs⟩ := begins
  rw [done]
  cases found with
  | none =>
    refine ⟨by rw [State.notice_siv]; exact idle, State.noted_notice _ SIV_NOTE_RECOVER_DONE (by decide), ?_⟩
    exact OnlyFields.notice (OnlyFields.of_regs regs) SIV_NOTE_RECOVER_DONE (by decide) (by decide)
  | some g =>
    obtain ⟨piece, addr⟩ := wf g rfl
    obtain ⟨region, shown, source, at_, count, recorded⟩ := u.sivReport_shows (f := { g with region := id }) (source := 3) fails piece addr (by decide)
    have siv := (u.sivReport_parts { g with region := id } 3 fails).frame .siv (by decide)
    have stands (f : Field) (note : f.key ≠ (NOTE_RAW 0x1F).key) (pba : f.key ≠ MSIX_PBA.key) {v : Nat}
        (h : (u.sivReport { g with region := id } 3 fails).rd f = v) :
        ((u.sivReport { g with region := id } 3 fails).notice SIV_NOTE_RECOVER_DONE).rd f = v :=
      (State.rd_notice_ne _ SIV_NOTE_RECOVER_DONE note pba).trans h
    refine ⟨?_, State.noted_notice _ SIV_NOTE_RECOVER_DONE (by decide), stands _ (by decide) (by decide) region,
      stands _ (by decide) (by decide) shown, stands _ (by decide) (by decide) source, stands _ (by decide) (by decide) at_,
      stands _ (by decide) (by decide) count, Recorded.congr recorded (State.notice_siltIntake _ _)⟩
    rw [State.notice_siv, show _ = u.siv from siv]
    exact idle

/-- CLEAR_FAILED (R526). -/
theorem State.clearFailed_spec (s : State) (id : Nat) :
    if sivExists id then id ∉ (s.clearFailed id).siv.failed ∧ (∀ j, j ≠ id → (j ∈ (s.clearFailed id).siv.failed ↔ j ∈ s.siv.failed)) ∧
      (s.clearFailed id).rd SIV_CMD_STAT_RESULT = 0
    else (s.clearFailed id).siv = s.siv ∧ (s.clearFailed id).rd SIV_CMD_STAT_RESULT = 1 := by
  rw [State.clearFailed]
  cases sivExists id with
  | true =>
    refine ⟨fun mem => ?_, fun j ne => ?_, State.rd_wr_of_lt _ (by decide)⟩
    · have ne : id ≠ id := by simpa using (List.mem_filter.mp mem).2
      exact ne rfl
    · exact ⟨fun mem => (List.mem_filter.mp mem).1, fun mem => List.mem_filter.mpr ⟨mem, by simpa using ne⟩⟩
  | false => exact ⟨rfl, State.rd_wr_of_lt _ (by decide)⟩

/-- Settles O46: the end of FULL, RECOVER by its code, the end of a recovery test, and CLEAR_FAILED. -/
theorem sieveFullAndRecovery : Obligations.SieveFullAndRecovery := by
  refine ⟨fun s found fails regions un work wf => ?_, fun s port id work hid exists_ boot secret enabled full idle => ?_,
    fun s port id work hid bar => ?_, fun s found fails work wf => ?_, fun s port id work hid => ?_⟩
  · refine Completes.working rfl work ?_
    by_cases full : s.modes.sieve = .full
    · rw [if_pos full]
      exact State.fullDone_spec full found fails regions un
    · rw [if_neg full]
      unfold State.fullDone
      rw [if_pos full]
  · refine Completes.effect rfl work ?_
    obtain ⟨result, siv⟩ := s.recover_hostWrote port SIV_CMD_REGION.addr id
    rw [State.recoverCode_zero exists_ boot secret enabled full idle] at result siv
    exact ⟨siv, result⟩
  · refine Completes.effect rfl work ?_
    obtain ⟨result, siv⟩ := s.recover_hostWrote port SIV_CMD_REGION.addr id
    have pos := State.recoverCode_pos bar
    rw [if_neg (by omega)] at siv
    refine ⟨siv, by rw [result]; exact pos, fun unknown => ?_, fun secret => ?_⟩
    · rw [result, State.recoverCode, if_pos (by simp [unknown])]
    · obtain ⟨known, boot⟩ := sivSecret_exist secret
      rw [result, State.recoverCode, if_neg (by simp [known, boot]), if_pos (by simpa using secret)]
  · refine Completes.working rfl work ?_
    cases runs : s.siv.recover with
    | none => rw [State.recoverDone, runs]
    | some id => exact State.recoverDone_spec runs fails fun x mem => ⟨(wf x mem).2.1, (wf x mem).2.2.1⟩
  · refine Completes.effect rfl work ?_
    have spec := (s.hostWrote port false SIV_CMD_REGION.addr).clearFailed_spec id
    rwa [State.hostWrote_siv] at spec

end Sys2Proof.Machine
end

section
/-! SUPPORT. Slices, their results, and rounds of the in-service self-test (O45). -/

namespace Sys2Proof.Machine

/-! ### Time that a command names -/

theorem State.reach_eq (s : State) (c : Nat) : ∃ t, s.reach c = { s with time := t } := by
  rw [State.reach]
  split
  · exact ⟨_, rfl⟩
  · exact ⟨s.time, rfl⟩

/-! ### The end of a round (R527) -/

end Sys2Proof.Machine

namespace Sys2Proof
open Machine

theorem Recorded.sivRecord {code : Nat} {s : State} (h : Recorded code s) (c p0 p1 p2 p3 : Nat) : Recorded code (s.sivRecord c p0 p1 p2 p3) := by
  rw [State.sivRecord]
  split
  · exact Recorded.congr (Recorded.silt h _ _ _ _ _) (State.slqPush_siltIntake _ _ _ _ _ _)
  · exact Recorded.silt h _ _ _ _ _

end Sys2Proof

namespace Sys2Proof.Machine

theorem Noted.noticeIf_set {n : Notice} (s : State) (hn : n.bit < 32) : Noted n (s.noticeIf true n) := State.noted_notice s n hn

/-- The fields of a round's result. -/
def roundFields : List Field := [SIV_R_ROUND, SIV_R_START_LO, SIV_R_START_HI, SIV_R_PIECES_TESTED, SIV_R_PIECES_TOTAL, SIV_R_DUR,
  SIV_R_END_COVERAGE, SIV_R_END_FAILED, SIV_R_END_LIMIT]

/-- A round's result as it is published. -/
def State.roundResult (s : State) (vs : List Nat) (limit : Bool) : State :=
  (((s.wrAll (roundFields.zip vs)).publish 0x1F 0 (SEQ_COUNT 0x1F)).notice SIV_NOTE_ROUND).noticeIf limit SIV_NOTE_ROUND_LIMIT

theorem State.sivRoundEnd_of {s : State} {x : Int × CalTime} (h : s.siv.began = some x) (limit : Bool) :
    ∃ u a b c d e f k p0 p1 p2 p3, (u = s ∨ u = s.draw.2) ∧ s.sivRoundEnd limit =
      ((u.roundResult [s.siv.round, a, b, c, d, e, f, k, if limit then 1 else 0] limit).sivRecord 0x1F01 p0 p1 p2 p3).sivNewRound := by
  obtain ⟨at_, cal⟩ := x
  unfold State.sivRoundEnd
  rw [h]
  dsimp only
  split
  · exact ⟨s.draw.2, _, _, _, _, _, _, _, _, _, _, _, .inr rfl, rfl⟩
  · exact ⟨s, _, _, _, _, _, _, _, _, _, _, _, .inl rfl, rfl⟩

/-- What publishing a round's result leaves, of the fields and of the unit. -/
theorem State.roundResult_spec (u : State) {n a b c d e f k : Nat} (limit : Bool) :
    let t := u.roundResult [n, a, b, c, d, e, f, k, if limit then 1 else 0] limit
    t.siv = u.siv ∧ t.rd SIV_R_ROUND = n % 2 ^ 32 ∧ t.rd SIV_R_END_LIMIT = (if limit then 1 else 0) ∧ Publishes 0x1F u t ∧
    Noted SIV_NOTE_ROUND t ∧ (limit = true → Noted SIV_NOTE_ROUND_LIMIT t) ∧
    OnlyFields (roundFields ++ [SEQ_COUNT 0x1F, FRESH 0x1F, NOTE_RAW 0x1F, MSIX_PBA]) u t ∧ t.siltIntake = u.siltIntake ∧
    (∀ n : Notice, n.page = 0x1F → Noted n u → Noted n t) := by
  intro t
  have shown (g : Field) (note : g.key ≠ (NOTE_RAW 0x1F).key) (pba : g.key ≠ MSIX_PBA.key) : t.rd g =
      ((u.wrAll (roundFields.zip [n, a, b, c, d, e, f, k, if limit then 1 else 0])).publish 0x1F 0 (SEQ_COUNT 0x1F)).rd g := by
    have twice (v : State) : ((v.notice SIV_NOTE_ROUND).noticeIf limit SIV_NOTE_ROUND_LIMIT).rd g = v.rd g := by
      cases limit
      · exact State.rd_notice_ne _ SIV_NOTE_ROUND note pba
      · exact (State.rd_notice_ne _ SIV_NOTE_ROUND_LIMIT note pba).trans (State.rd_notice_ne _ SIV_NOTE_ROUND note pba)
    exact twice _
  refine ⟨?_, ?_, ?_, ⟨?_, ?_⟩, ?_, fun on => ?_, ?_, ?_, fun m page noted => ?_⟩
  · cases limit
    · exact State.notice_siv _ _
    · exact (State.notice_siv _ _).trans (State.notice_siv _ _)
  · rw [shown _ (by decide) (by decide)]
    simp (disch := decide) only [roundFields, List.zip_cons_cons, List.zip_nil_right, State.wrAll, State.rd_publish_ne, State.rd_wr_ne, State.rd_wr_self]
  · rw [shown _ (by decide) (by decide)]
    simp (disch := decide) only [roundFields, List.zip_cons_cons, List.zip_nil_right, State.wrAll, State.rd_publish_ne, State.rd_wr_self]
    cases limit <;> rfl
  · rw [shown _ (by decide) (by decide), State.rd_publish_seq _ _ _ _ (by decide)]
    simp (disch := decide) only [roundFields, List.zip_cons_cons, List.zip_nil_right, State.wrAll, State.rd_wr_ne]
  · rw [shown _ (by decide) (by decide)]
    exact State.fresh_publish _ _ _ _ (by decide)
  · exact Noted.noticeIf (State.noted_notice _ SIV_NOTE_ROUND (by decide)) limit SIV_NOTE_ROUND_LIMIT rfl (by decide)
  · subst on
    exact State.noted_notice _ SIV_NOTE_ROUND_LIMIT (by decide)
  · have written : OnlyFields (roundFields ++ [SEQ_COUNT 0x1F, FRESH 0x1F, NOTE_RAW 0x1F, MSIX_PBA]) u
        (u.wrAll (roundFields.zip [n, a, b, c, d, e, f, k, if limit then 1 else 0])) :=
      (OnlyFields.refl _ u).wrAll fun x mem => List.mem_append_left _ (List.of_mem_zip mem).1
    have noted := (written.publish 0x1F 0 (SEQ_COUNT 0x1F) (by decide) (by decide)).notice SIV_NOTE_ROUND (by decide) (by decide)
    cases limit
    · exact noted
    · exact noted.notice SIV_NOTE_ROUND_LIMIT (by decide) (by decide)
  · cases limit
    · exact State.notice_siltIntake _ _
    · exact (State.notice_siltIntake _ _).trans (State.notice_siltIntake _ _)
  · refine Noted.noticeIf (Noted.notice (Noted.congr (n := m) noted ?_) SIV_NOTE_ROUND page.symm (by decide)) limit SIV_NOTE_ROUND_LIMIT page.symm
      (by decide)
    rw [page]
    simp (disch := decide) only [roundFields, List.zip_cons_cons, List.zip_nil_right, State.wrAll, State.rd_publish_ne, State.rd_wr_ne]

/-- A new round's unit (R527). -/
def SivUnit.newRound (v : SivUnit) : SivUnit :=
  { v with round := (v.round + 1) % 2 ^ 32, began := none, tested := [], passed := [], fails := 0 }

/-- What the end of a round leaves (R527). -/
theorem State.sivRoundEnd_spec {s : State} {x : Int × CalTime} (h : s.siv.began = some x) (limit : Bool) :
    let t := s.sivRoundEnd limit
    t.siv = s.siv.newRound ∧ t.rd SIV_R_ROUND = s.siv.round % 2 ^ 32 ∧ t.rd SIV_R_END_LIMIT = (if limit then 1 else 0) ∧
    Publishes 0x1F s t ∧ Noted SIV_NOTE_ROUND t ∧ (limit = true → Noted SIV_NOTE_ROUND_LIMIT t) ∧
    (∀ f : Field, f.page = 0x1F → (∀ g ∈ roundFields ++ [SEQ_COUNT 0x1F, FRESH 0x1F, NOTE_RAW 0x1F, MSIX_PBA], f.key ≠ g.key) → t.rd f = s.rd f) ∧
    (∀ n : Notice, n.page = 0x1F → Noted n s → Noted n t) ∧ (∀ code, Recorded code s → Recorded code t) := by
  obtain ⟨u, a, b, c, d, e, f, k, p0, p1, p2, p3, drawn, done⟩ := State.sivRoundEnd_of h limit
  have same : u.siv = s.siv ∧ u.regs = s.regs ∧ u.siltIntake = s.siltIntake := by
    rcases drawn with rfl | rfl
    · exact ⟨rfl, rfl, rfl⟩
    · exact ⟨rfl, rfl, rfl⟩
  obtain ⟨unit, regs, intake⟩ := same
  have fieldsBefore (g : Field) : u.rd g = s.rd g := State.rd_congr regs g
  obtain ⟨siv, round, ended, ⟨count, fresh⟩, noted, late, only, silt, notes⟩ :=
    u.roundResult_spec (n := s.siv.round) (a := a) (b := b) (c := c) (d := d) (e := e) (f := f) (k := k) limit
  rw [done]
  generalize u.roundResult _ limit = v at *
  have kept := v.sivRecord_parts 0x1F01 p0 p1 p2 p3
  have shown (g : Field) (page : g.page = 0x1F) : ((v.sivRecord 0x1F01 p0 p1 p2 p3).sivNewRound).rd g = v.rd g :=
    (State.rd_congr rfl g).trans (kept.rd_eq g (by rw [Field.slot, page]; decide))
  refine ⟨?_, (shown _ rfl).trans round, (shown _ rfl).trans ended, ⟨?_, ?_⟩, Noted.congr (n := SIV_NOTE_ROUND) noted (shown _ rfl),
    fun on => Noted.congr (n := SIV_NOTE_ROUND_LIMIT) (late on) (shown _ rfl), fun g page out => ?_, fun m page before => ?_, fun code before => ?_⟩
  · change (v.sivRecord 0x1F01 p0 p1 p2 p3).siv.newRound = _
    rw [show _ = v.siv from kept.frame .siv (by decide), siv, unit]
  · rw [shown _ rfl, count, fieldsBefore]
  · rw [shown _ rfl]
    exact fresh
  · rw [shown _ page, only _ out, fieldsBefore]
  · exact Noted.congr (n := m) (notes m page (Noted.congr (n := m) before (fieldsBefore _))) (shown _ (by rw [page]; rfl))
  · have early : Recorded code v := Recorded.congr before (silt.trans intake)
    have record : Recorded code (v.sivRecord 0x1F01 p0 p1 p2 p3) := early.sivRecord _ _ _ _ _
    exact Recorded.congr record rfl

end Sys2Proof.Machine
end

section
/-! SUPPORT. Slices of the in-service self-test, as they start and end (O45). -/

namespace Sys2Proof
open Machine

/-! ### Records that stand -/

theorem Recorded.notice {code : Nat} {s : State} (h : Recorded code s) (n : Notice) : Recorded code (s.notice n) :=
  Recorded.congr h (State.notice_siltIntake _ _)

theorem Recorded.of_kept {code m : Nat} {s t : State} (h : Recorded code s) (kept : Kept (Touches m) s t) (out : Nat.testBit m 32 = false) :
    Recorded code t :=
  Recorded.congr h (kept.frame .siltIntake (by rw [Touches, show partCode .siltIntake = 32 from rfl, out]; decide))

theorem Recorded.wr {code : Nat} {s : State} (h : Recorded code s) (f : Field) (v : Nat) : Recorded code (s.wr f v) := Recorded.congr h rfl

theorem Recorded.tmpEvent {code : Nat} {s : State} (h : Recorded code s) (k kind : Nat) : Recorded code (s.tmpEvent k kind) := by
  have event (f : Field) (n : Notice) (c : Nat) :
      Recorded code (((((s.wr TMP_EVENT_SLOT k).wr TMP_EVENT_KIND kind).count f 1).notice n).silt c k) :=
    Recorded.silt ((((h.wr _ _).wr _ _).wr _ _).notice n) _ _ _ _ _
  rw [State.tmpEvent]
  split
  · exact event _ _ _
  · split
    · exact event _ _ _
    · exact event _ _ _

theorem Recorded.giveUp {code : Nat} {s : State} (h : Recorded code s) (k : Nat) (stamp : Option Nat) : Recorded code (s.giveUp k stamp) := by
  cases stamp with
  | none => exact h
  | some id =>
    change Recorded code (s.stamped _)
    rw [State.stamped]
    split
    · exact Recorded.congr h rfl
    exact h.of_kept (State.tsTaken_kept (T := Touches 0x10000020000000402) (.refl s) _ fun _ k => k) (by decide)

theorem Recorded.swfLose {code : Nat} {s : State} (h : Recorded code s) (id : Nat) : Recorded code (s.swfLose id) := by
  have gives (l : List (Nat × Option Nat)) (u : State) (before : Recorded code u) : Recorded code (l.foldl (fun s e => s.giveUp e.1 e.2) u) := by
    induction l generalizing u with
    | nil => exact before
    | cons e l ih => exact ih _ (before.giveUp _ _)
  rw [State.swfLose]
  dsimp only
  split
  · exact h
  refine Recorded.of_kept (gives _ _ ?_) (State.pauseFalls_kept (T := Touches 0x7e00000001000002) (.refl _) fun _ k => k) (by decide)
  exact Recorded.congr h ((State.notice_siltIntake _ _).trans rfl)

theorem Recorded.setDvalid {code : Nat} {s : State} (h : Recorded code s) (i : Nat) (b : Bool) : Recorded code (s.setDvalid i b) := Recorded.congr h rfl

theorem Recorded.itgUncorr {code : Nat} {s : State} (h : Recorded code s) (m page addr symbol : Nat) (scrub : Bool) :
    Recorded code (s.itgUncorr m page addr symbol scrub) := by
  rw [State.itgUncorr]
  refine Recorded.silt (Recorded.notice ?_ _) _ _ _ _ _
  exact Recorded.congr h rfl

theorem Recorded.ntbCheckFails {code : Nat} {s : State} (h : Recorded code s) (i : Nat) : Recorded code (s.ntbCheckFails i) := by
  rw [State.ntbCheckFails]
  refine Recorded.silt (Recorded.notice (Recorded.wr (Recorded.wr ?_ _ _) _ _) _) _ _ _ _ _
  split
  · exact Recorded.congr h rfl
  · exact Recorded.congr h rfl

theorem Recorded.slqLose {code : Nat} {s : State} (h : Recorded code s) (q : Nat) : Recorded code (s.slqLose q) := by
  have set (v : SlipQueue) : (s.setQueue q v).siltIntake = s.siltIntake := by
    rw [State.setQueue]
    split <;> rfl
  rw [State.slqLose]
  split
  · exact ((Recorded.congr h (set _)).wr _ _).notice _
  · exact h

/-- A memory's loss leaves every record in place (R551). -/
theorem Recorded.ownerLoses {code : Nat} {s : State} (h : Recorded code s) (page item : Nat) : Recorded code (s.ownerLoses 1 page item) := by
  rw [State.ownerLoses]
  split
  · exact Recorded.congr h rfl
  split
  · exact h.ntbCheckFails _
  split
  · exact Recorded.congr h rfl
  split
  · split
    · rw [State.tmpFail]
      have put (v : TmpSlot) : Recorded code (s.setTmpSlot (item % 10240) v) := Recorded.congr h rfl
      exact (put _).tmpEvent _ _
    · exact Recorded.congr h rfl
  split
  · exact h.swfLose item
  split
  · exact h.slqLose _
  split
  · rw [State.hpnLose, if_neg (by decide)]
    have dropped : Recorded code (s.zeroise false) := Recorded.congr h rfl
    exact Recorded.silt dropped _ _ _ _ _
  split
  · exact Recorded.congr h rfl
  · exact h

end Sys2Proof

namespace Sys2Proof.Machine

/-! ### The start of a slice (R522) -/

theorem State.sliceStart_idle {s : State} (h : s.modes.sieve ≠ .sliced ∨ s.rd SIV_STATUS_SUSPENDED = 1) (un : List (Nat × Nat)) :
    s.sliceStart un = s := by
  unfold State.sliceStart
  dsimp only
  refine if_pos ?_
  rcases h with axis | held
  · simp [axis]
  · simp [State.rdB, held]

/-- A slice that starts holds what its region needs and leaves the unit's scheduler alone. -/
theorem State.sivHold_parts (s : State) (id : Nat) : (s.sivHold id).siv = s.siv ∧ (id = 0x34 → (s.sivHold id).emu.held = true) := by
  rw [State.sivHold]
  split
  · exact ⟨rfl, fun _ => rfl⟩
  next other =>
    refine ⟨?_, fun is => absurd is other⟩
    split
    · rw [State.bufLow, State.noticeIf]
      split
      · exact State.notice_siv _ _
      · rfl
    · rfl

/-- The pieces passed over, replaced as a whole. -/
def State.putPassed (s : State) (l : List (Nat × Nat)) : State := { s with siv := { s.siv with passed := l } }

theorem State.putPassed_same {s : State} {l : List (Nat × Nat)} (h : s.siv.passed = l) : s.putPassed l = s := by
  subst h
  rfl

/-- A slice that starts, as the unit shows it. -/
def State.sliceBegun (s : State) (id p : Nat) : State :=
  let now := s.moduleTimeAt s.time.raw
  { s with siv := { s.siv with
      slices := s.siv.slices ++ [⟨id, p, s.sivPreserves id⟩], last := some now, began := some (s.siv.began.getD (now, s.calNow)),
      passed := s.siv.passed.filter fun q => q != (id, p) } }

/-- The first piece that the scheduler takes. -/
theorem State.sliceStart_first {s : State} {id p : Nat} {rest : List (Nat × Nat)} (axis : s.modes.sieve = .sliced)
    (runs : s.rd SIV_STATUS_SUSPENDED = 0) (first : s.siv.last = none) (passed : s.siv.passed = [])
    (untested : s.sivUntested = (id, p) :: rest) (fits : s.sivFits id = true) : s.sliceStart [] = (s.sliceBegun id p).sivHold id := by
  have order : s.sivOrder = (id, p) :: rest := by
    rw [State.sivOrder, untested, passed]
    simp
  have goes : ¬(s.modes.sieve != .sliced || s.rdB SIV_STATUS_SUSPENDED || !true) = true := by simp [axis, State.rdB, runs]
  have none_ : s.siv.passed.filter (fun p => !(s.sivOrder.takeWhile List.nil.contains).contains p) ++ s.sivOrder.takeWhile List.nil.contains = [] := by
    rw [order, passed]
    rfl
  have same : ({ s with siv := { s.siv with passed := [] } } : State) = s := State.putPassed_same passed
  dsimp only at same
  rw [first] at same
  unfold State.sliceStart
  dsimp only
  rw [first]
  dsimp only
  rw [if_neg goes, none_, same, order]
  simp only [List.find?_cons, List.contains_nil, Bool.not_false, fits, Bool.not_true, Bool.false_eq_true, if_false]
  rw [State.sliceBegun, passed]

/-! ### The end of a slice (R520, R525, R526) -/

theorem State.sivRelease_parts (s : State) (id : Nat) :
    Kept (Touches 0x430000120100404c12) s (s.sivRelease id) ∧ (id = 0x34 → (s.sivRelease id).emu.held = false) := by
  refine ⟨State.sivRelease_kept (.refl s) id fun _ h => h, fun is => ?_⟩
  rw [State.sivRelease, if_pos is]

/-- A slice that is taken off. -/
def State.sliceGone (s : State) (x : SivSlice) : State := { s with siv := { s.siv with slices := s.siv.slices.filter fun y => y != x } }

/-- A slice that is abandoned leaves its piece untested (R525). -/
theorem State.sivAbandon_spec (s : State) (x : SivSlice) (cause : Nat) :
    let t := s.sivAbandon x cause
    t.siv = (s.sliceGone x).siv ∧ (x.region = 0x34 → t.emu.held = false) ∧ t.rd SIV_ABANDONED = (s.rd SIV_ABANDONED + 1) % 2 ^ 32 ∧
    Noted SIV_NOTE_ABANDON t ∧ Recorded 0x1F03 t ∧ t.rd SIV_SLICES = s.rd SIV_SLICES := by
  obtain ⟨released, held⟩ := (s.sliceGone x).sivRelease_parts x.region
  have done : s.sivAbandon x cause = ((((s.sliceGone x).sivRelease x.region).count SIV_ABANDONED 1).notice SIV_NOTE_ABANDON).sivRecord 0x1F03
    x.region x.piece cause 0 := rfl
  have recorded := State.sivRecord_parts ((((s.sliceGone x).sivRelease x.region).count SIV_ABANDONED 1).notice SIV_NOTE_ABANDON) 0x1F03
    x.region x.piece cause 0
  rw [done]
  refine ⟨?_, fun is => ?_, ?_, ?_, State.recorded_sivRecord _ _ _ _ _ _, ?_⟩
  · exact (recorded.frame .siv (by decide) : _ = _).trans ((State.notice_siv _ _).trans (released.frame .siv (by decide)))
  · refine Eq.trans (congrArg EmuUnit.held ((recorded.frame .emu (by decide) : _ = _).trans (State.notice_emu _ _))) (held is)
  · rw [recorded.rd_eq _ (by decide), State.rd_notice_ne _ SIV_NOTE_ABANDON (by decide) (by decide), State.rd_count_self,
      released.rd_eq _ (by decide)]
    rfl
  · exact Noted.congr (n := SIV_NOTE_ABANDON) (State.noted_notice _ SIV_NOTE_ABANDON (by decide)) (recorded.rd_eq _ (by decide))
  · rw [recorded.rd_eq _ (by decide), State.rd_notice_ne _ SIV_NOTE_ABANDON (by decide) (by decide), State.rd_count_ne _ _ (by decide),
      released.rd_eq _ (by decide)]
    rfl

/-- An uncorrectable error leaves what the slice's end shows (R551). -/
theorem State.itgReadError_stands (s : State) (page : Nat) :
    let t := s.itgReadError 1 page
    t.siv = s.siv ∧ t.emu = s.emu ∧ (∀ f : Field, f.page = 0x1F → t.rd f = s.rd f) ∧ (∀ code, Recorded code s → Recorded code t) := by
  have kept := State.itgReadError_kept (T := Touches 0x4400000020100000006) (.refl s) 1 page fun _ h => h
  refine ⟨kept.frame .siv (by decide), kept.frame .emu (by decide), fun f page => kept.rd_eq f (by rw [Field.slot, page]; decide), fun code h => ?_⟩
  exact Recorded.itgUncorr (s := s.draw.2.draw.2) (Recorded.congr h rfl) _ _ _ _ _

/-- What a lost memory leaves of what the slice's end shows. -/
theorem State.ownerLoses_stands (s : State) (page item : Nat) :
    let t := s.ownerLoses 1 page item
    t.siv = s.siv ∧ t.emu = s.emu ∧ (∀ f : Field, f.page = 0x1F → t.rd f = s.rd f) ∧ (∀ code, Recorded code s → Recorded code t) := by
  have kept := State.ownerLoses_kept (T := Touches 0x4577f023201890b7c13) (.refl s) 1 page item fun _ h => h
  exact ⟨kept.frame .siv (by decide), kept.frame .emu (by decide), fun f page => kept.rd_eq f (by rw [Field.slot, page]; decide),
    fun code h => h.ownerLoses page item⟩

/-- A slice that is given up by what its test found (R525). -/
def SliceAbandoned (s t : State) (id : Nat) (x : SivSlice) : Prop :=
  t.siv = (s.sliceGone x).siv ∧ (id = 0x34 → t.emu.held = false) ∧ t.rd SIV_ABANDONED = (s.rd SIV_ABANDONED + 1) % 2 ^ 32 ∧
  Noted SIV_NOTE_ABANDON t ∧ Recorded 0x1F03 t ∧ t.rd SIV_SLICES = s.rd SIV_SLICES

theorem SliceAbandoned.stands {s t u : State} {id : Nat} {x : SivSlice} (h : SliceAbandoned s t id x) (siv : u.siv = t.siv) (emu : u.emu = t.emu)
    (fields : ∀ f : Field, f.page = 0x1F → u.rd f = t.rd f) (records : ∀ code, Recorded code t → Recorded code u) : SliceAbandoned s u id x := by
  obtain ⟨unit, held, count, noted, recorded, slices⟩ := h
  exact ⟨siv.trans unit, fun is => by rw [emu]; exact held is, (fields _ rfl).trans count, Noted.congr (n := SIV_NOTE_ABANDON) noted (fields _ rfl),
    records _ recorded, (fields _ rfl).trans slices⟩

theorem State.sliceEnds_abandons {s : State} {id p found : Nat} {x : SivSlice}
    (runs : (s.siv.slices.find? fun y => y.region == id && y.piece == p) = some x) (bad : 2 ≤ found) :
    SliceAbandoned s (s.sliceEnds id p found) id x := by
  have found_ : (x.region == id && x.piece == p) = true := List.find?_some (p := fun y : SivSlice => y.region == id && y.piece == p) runs
  have region : x.region = id := by
    rw [Bool.and_eq_true, beq_iff_eq] at found_
    exact found_.1
  have abandoned : SliceAbandoned s (s.sivAbandon x 1) id x := region ▸ s.sivAbandon_spec x 1
  have ends : s.sliceEnd id p found = if found = 2 then (s.sivAbandon x 1).itgReadError 1 (id / 4) else s.sivAbandon x 1 := by
    rw [State.sliceEnd, runs]
    dsimp only
    split
    · rfl
    · rw [if_pos (by omega)]
  by_cases two : found = 2
  · have met : (s.siv.slices.any fun x => x.region == id && x.piece == p) = true := by
      rw [List.any_eq_true]
      exact ⟨x, List.mem_of_find?_eq_some runs, found_⟩
    rw [if_pos two] at ends
    have done : s.sliceEnds id p found =
        ((s.sivAbandon x 1).itgReadError 1 (id / 4)).draw.2.ownerLoses 1 (id / 4) ((s.sivAbandon x 1).itgReadError 1 (id / 4)).draw.1 := by
      simp only [State.sliceEnds, two, met, and_self, if_true]
      rw [← two, ends]
    obtain ⟨siv, emu, fields, records⟩ := (s.sivAbandon x 1).itgReadError_stands (id / 4)
    obtain ⟨siv', emu', fields', records'⟩ := ((s.sivAbandon x 1).itgReadError 1 (id / 4)).draw.2.ownerLoses_stands (id / 4)
      ((s.sivAbandon x 1).itgReadError 1 (id / 4)).draw.1
    rw [done]
    exact (abandoned.stands siv emu fields records).stands siv' emu' fields' fun code h => records' code (Recorded.congr h rfl)
  · rw [if_neg two] at ends
    have done : s.sliceEnds id p found = s.sivAbandon x 1 := by
      simp only [State.sliceEnds, two, false_and, if_false]
      exact ends
    rw [done]
    exact abandoned

/-- A round's check keeps what a slice's end shows. -/
theorem State.sivRoundCheck_spec (s : State) :
    let t := s.sivRoundCheck
    t.siv.slices = s.siv.slices ∧ t.siv.failed = s.siv.failed ∧ t.emu = s.emu ∧
    (∀ f : Field, f.page = 0x1F → (∀ g ∈ roundFields ++ [SEQ_COUNT 0x1F, FRESH 0x1F, NOTE_RAW 0x1F, MSIX_PBA], f.key ≠ g.key) → t.rd f = s.rd f) ∧
    (∀ n : Notice, n.page = 0x1F → Noted n s → Noted n t) ∧ (∀ code, Recorded code s → Recorded code t) ∧
    (s.sivUntested ≠ [] → t = s) := by
  have kept := State.sivRoundCheck_kept (T := Touches 0x4c40000020120003006) (.refl s) fun _ h => h
  have emu : s.sivRoundCheck.emu = s.emu := kept.frame .emu (by decide)
  unfold State.sivRoundCheck at emu ⊢
  cases over_ : s.siv.began.isSome && s.modes.sieve == .sliced && s.sivUntested.isEmpty && s.siv.slices.isEmpty with
  | false => exact ⟨rfl, rfl, rfl, fun _ _ _ => rfl, fun _ _ h => h, fun _ h => h, fun _ => rfl⟩
  | true =>
    rw [over_] at emu
    simp only [Bool.and_eq_true] at over_
    obtain ⟨⟨⟨began, -⟩, none_⟩, -⟩ := over_
    obtain ⟨x, hx⟩ := Option.isSome_iff_exists.mp began
    obtain ⟨siv, -, -, -, -, -, fields, notes, records⟩ := State.sivRoundEnd_spec hx false
    rw [if_pos rfl] at emu ⊢
    exact ⟨by rw [siv]; rfl, by rw [siv]; rfl, emu, fields, notes, records, fun some_ => absurd (List.isEmpty_iff.mp none_) some_⟩

/-- A piece that is tested, and its slice taken off (R520). -/
def State.sliceTested (s : State) (x : SivSlice) (id p : Nat) : State :=
  { s with siv := { s.siv with slices := s.siv.slices.filter fun y => y != x, tested := s.siv.tested ++ [(id, p)] } }

theorem State.sliceTested_counted (s : State) (x : SivSlice) (id p : Nat) :
    let t := ((s.sliceTested x id p).sivRelease id).count SIV_SLICES 1
    t.siv = (s.sliceTested x id p).siv ∧ (id = 0x34 → t.emu.held = false) ∧ t.rd SIV_SLICES = (s.rd SIV_SLICES + 1) % 2 ^ 32 := by
  obtain ⟨kept, held⟩ := (s.sliceTested x id p).sivRelease_parts id
  refine ⟨kept.frame .siv (by decide), held, ?_⟩
  rw [State.rd_count_self, kept.rd_eq _ (by decide)]
  rfl

/-- The failure of a slice, as the unit takes it (R526). -/
def State.sliceFailed (s : State) (id p : Nat) : State :=
  let new := if s.siv.failed.contains id then 0 else 1
  let u : State := { s with siv := { s.siv with failed := if new = 0 then s.siv.failed else s.siv.failed ++ [id], fails := s.siv.fails + new } }
  (u.sivReport ⟨id, p, 0, 0, false, false, 0⟩ 1 1).notice SIV_NOTE_FAIL

theorem State.sliceFailed_spec (s : State) {id p : Nat} (hid : id < 256) (hp : p < 1024) :
    let t := s.sliceFailed id p
    t.siv.slices = s.siv.slices ∧ id ∈ t.siv.failed ∧ t.emu = s.emu ∧ Noted SIV_NOTE_FAIL t ∧ t.rd SIV_F_WHERE_REGION = id ∧
    t.rd SIV_F_WHERE_PIECE = p ∧ t.rd SIV_F_WHERE_SOURCE = 1 ∧ Recorded 0x1F02 t ∧ t.rd SIV_SLICES = s.rd SIV_SLICES := by
  obtain ⟨u, done, slices, failed, emu, regs⟩ : ∃ u : State,
      s.sliceFailed id p = (u.sivReport ⟨id, p, 0, 0, false, false, 0⟩ 1 1).notice SIV_NOTE_FAIL ∧
      u.siv.slices = s.siv.slices ∧ id ∈ u.siv.failed ∧ u.emu = s.emu ∧ u.regs = s.regs := by
    refine ⟨_, rfl, rfl, ?_, rfl, rfl⟩
    by_cases listed : s.siv.failed.contains id = true
    · simp only [listed, if_true]
      simpa using listed
    · rw [if_neg listed]
      exact List.mem_append_right _ List.mem_cons_self
  obtain ⟨region, piece, source, -, -, recorded⟩ := u.sivReport_shows (f := ⟨id, p, 0, 0, false, false, 0⟩) (source := 1) 1 hp (Nat.two_pow_pos 32) (by decide)
  have kept := u.sivReport_parts ⟨id, p, 0, 0, false, false, 0⟩ 1 1
  have unit : ((u.sivReport ⟨id, p, 0, 0, false, false, 0⟩ 1 1).notice SIV_NOTE_FAIL).siv = u.siv :=
    (State.notice_siv _ _).trans (kept.frame .siv (by decide))
  have shown (f : Field) (note : f.key ≠ (NOTE_RAW 0x1F).key) (pba : f.key ≠ MSIX_PBA.key) :
      ((u.sivReport ⟨id, p, 0, 0, false, false, 0⟩ 1 1).notice SIV_NOTE_FAIL).rd f = (u.sivReport ⟨id, p, 0, 0, false, false, 0⟩ 1 1).rd f :=
    State.rd_notice_ne _ SIV_NOTE_FAIL note pba
  rw [done]
  refine ⟨by rw [unit]; exact slices, by rw [unit]; exact failed, ?_, State.noted_notice _ SIV_NOTE_FAIL (by decide), ?_, ?_, ?_,
    recorded.notice _, ?_⟩
  · exact (State.notice_emu _ _).trans ((kept.frame .emu (by decide) : _ = _).trans emu)
  · rw [shown _ (by decide) (by decide), region, Nat.mod_eq_of_lt hid]
  · rw [shown _ (by decide) (by decide), piece]
  · rw [shown _ (by decide) (by decide), source]
  · rw [shown _ (by decide) (by decide), State.sivReport, (State.sivRecord_parts _ _ _ _ _ _).rd_eq _ (by decide)]
    simp (disch := decide) only [State.wrAll, State.rd_publish_ne, State.rd_wr_ne]
    exact State.rd_congr regs _

/-- A piece that passes leaves the others as they were untested. -/
theorem State.sliceTested_untested {s : State} {x : SivSlice} {id p : Nat} (runs : (s.siv.slices.any fun x => x.region == id && x.piece == p) = true)
    (some_ : s.sivUntested ≠ []) : (s.sliceTested x id p).sivUntested ≠ [] := by
  obtain ⟨q, mem⟩ := List.exists_mem_of_ne_nil _ some_
  refine List.ne_nil_of_mem (a := q) ?_
  simp only [State.sivUntested, List.mem_flatMap, List.mem_filter, List.mem_map] at mem ⊢
  obtain ⟨r, testable, piece, waits⟩ := mem
  refine ⟨r, testable, piece, ?_⟩
  simp only [Bool.and_eq_true, Bool.not_eq_true', List.any_eq_false] at waits ⊢
  obtain ⟨untested, idle⟩ := waits
  have other : q ≠ (id, p) := by
    rintro rfl
    rw [List.any_eq_true] at runs
    obtain ⟨y, hy, is⟩ := runs
    exact idle y hy (by simpa using is)
  refine ⟨?_, fun y hy => idle y (List.mem_filter.mp hy).1⟩
  simp only [State.sliceTested, List.contains_eq_mem, List.mem_append, List.mem_singleton, decide_eq_false_iff_not, not_or] at untested ⊢
  exact ⟨untested, other⟩

/-- What a slice leaves whose test is complete (R520, R526). -/
def SliceComplete (s t : State) (id p found : Nat) (x : SivSlice) : Prop :=
  t.siv.slices = s.siv.slices.filter (fun y => y != x) ∧ (id = 0x34 → t.emu.held = false) ∧ t.rd SIV_SLICES = (s.rd SIV_SLICES + 1) % 2 ^ 32 ∧
  if found = 1 then
    id ∈ t.siv.failed ∧ Noted SIV_NOTE_FAIL t ∧ t.rd SIV_F_WHERE_REGION = id ∧ t.rd SIV_F_WHERE_PIECE = p ∧
    t.rd SIV_F_WHERE_SOURCE = 1 ∧ Recorded 0x1F02 t
  else t.siv.failed = s.siv.failed ∧ (s.sivUntested ≠ [] → t.siv.tested = s.siv.tested ++ [(id, p)] ∧ t.siv.round = s.siv.round)

theorem State.sliceEnds_completes {s : State} {id p found : Nat} {x : SivSlice} (hid : id < 256) (hp : p < 1024)
    (runs : (s.siv.slices.find? fun y => y.region == id && y.piece == p) = some x) (good : found < 2) :
    SliceComplete s (s.sliceEnds id p found) id p found x := by
  have met : (s.siv.slices.any fun x => x.region == id && x.piece == p) = true :=
    List.any_eq_true.mpr ⟨x, List.mem_of_find?_eq_some runs, List.find?_some (p := fun y : SivSlice => y.region == id && y.piece == p) runs⟩
  have ends : s.sliceEnds id p found = (if found = 0 then ((s.sliceTested x id p).sivRelease id).count SIV_SLICES 1
      else (((s.sliceTested x id p).sivRelease id).count SIV_SLICES 1).sliceFailed id p).sivRoundCheck := by
    have two : found ≠ 2 := by omega
    simp only [State.sliceEnds, two, false_and, if_false]
    rw [State.sliceEnd, runs]
    dsimp only
    rw [if_neg two, if_neg (by omega)]
    rfl
  obtain ⟨siv, held, count⟩ := s.sliceTested_counted x id p
  rw [ends]
  generalize ((s.sliceTested x id p).sivRelease id).count SIV_SLICES 1 = u at *
  by_cases zero : found = 0
  · obtain ⟨slices, failed, emu, fields, -, -, stays⟩ := u.sivRoundCheck_spec
    rw [if_pos zero]
    refine ⟨slices.trans (by rw [siv]; rfl), fun is => by rw [emu]; exact held is, (fields _ rfl (by decide)).trans count, ?_⟩
    rw [if_neg (by omega)]
    refine ⟨failed.trans (by rw [siv]; rfl), fun some_ => ?_⟩
    have untested : u.sivUntested ≠ [] := by
      have same : u.sivUntested = (s.sliceTested x id p).sivUntested := by
        simp only [State.sivUntested, State.sivTestable, State.sivEnabled, siv]
      rw [same]
      exact State.sliceTested_untested met some_
    rw [stays untested, siv]
    exact ⟨rfl, rfl⟩
  · obtain ⟨slicesF, failedF, emuF, notedF, region, piece, source, recorded, countF⟩ := u.sliceFailed_spec hid hp
    obtain ⟨slices, failed, emu, fields, notes, records, -⟩ := (u.sliceFailed id p).sivRoundCheck_spec
    rw [if_neg zero]
    refine ⟨(slices.trans slicesF).trans (by rw [siv]; rfl), fun is => by rw [emu, emuF]; exact held is,
      (fields _ rfl (by decide)).trans (countF.trans count), ?_⟩
    rw [if_pos (by omega)]
    exact ⟨by rw [failed]; exact failedF, notes _ rfl notedF, (fields _ rfl (by decide)).trans region, (fields _ rfl (by decide)).trans piece,
      (fields _ rfl (by decide)).trans source, records _ recorded⟩

/-! ### The round limit (R527) -/

theorem State.sivLimited_iff {s : State} {from_ : Int} {cal : CalTime} (began : s.siv.began = some (from_, cal)) :
    s.sivLimited = true ↔ ¬s.moduleTimeAt s.time.raw < from_ + max 60 (min 86400 (s.rd SIV_ROUND_LIMIT)) * 1000000000 := by
  rw [State.sivLimited, began]
  simp

/-- Settles O45: a start by the axis and the first piece, an end by what the test found, and the round limit by the time that has passed. -/
theorem sieveSlices : Obligations.SieveSlices := by
  refine ⟨fun s c un work idle => ?_, fun s c id p rest work axis runs first passed untested fits => ?_,
    fun s c id p found x work wf none_ runs => ?_, fun s c work => ?_⟩
  all_goals obtain ⟨time, at_⟩ := s.reach_eq c
  · refine Completes.working rfl ((s.atWork_reach c 0x1F).trans work) (State.sliceStart_idle ?_ un)
    rw [at_]
    exact idle
  · refine Completes.working rfl ((s.atWork_reach c 0x1F).trans work) ?_
    have begun : (s.reach c).sliceStart [] = ((s.reach c).sliceBegun id p).sivHold id := by
      rw [at_]
      exact State.sliceStart_first (s := { s with time := time }) axis runs first passed untested fits
    obtain ⟨siv, held⟩ := ((s.reach c).sliceBegun id p).sivHold_parts id
    have before : (s.reach c).siv = s.siv := by rw [at_]
    have cal : (s.reach c).calNow = s.calNow := by rw [at_]; rfl
    have preserves : (s.reach c).sivPreserves id = s.sivPreserves id := by rw [at_]; rfl
    rw [begun, siv]
    refine ⟨?_, rfl, ?_, ?_, held⟩
    · change (s.reach c).siv.slices ++ [⟨id, p, (s.reach c).sivPreserves id⟩] = _
      rw [before, preserves]
    · change some ((s.reach c).siv.began.getD (_, (s.reach c).calNow)) = _
      rw [before, cal]
    · change (s.reach c).siv.tested = _
      rw [before]
  · obtain ⟨hid, hp, -⟩ := wf
    refine Completes.working rfl ((s.atWork_reach c 0x1F).trans work) ?_
    have deferred : ((s.reach c).sliceEnds id p found).deferred = [] := by
      refine ((State.sliceEnds_kept (T := Touches 0x4d77f023201a94b7c17) (.refl (s.reach c)) id p found fun _ h => h).frame .deferred (by decide) : _ = _).trans ?_
      rw [at_]
      exact none_
    rw [State.flushDeferred_nil deferred, at_]
    by_cases bad : 2 ≤ found
    · obtain ⟨siv, held, count, noted, recorded, slices⟩ := State.sliceEnds_abandons (s := { s with time := time }) runs bad
      refine ⟨by rw [siv]; rfl, held, ?_⟩
      rw [if_pos bad]
      exact ⟨count, noted, recorded, by rw [siv]; rfl, by rw [siv]; rfl, slices⟩
    · obtain ⟨slices, held, count, rest⟩ := State.sliceEnds_completes (s := { s with time := time }) (found := found) hid hp runs (by omega)
      refine ⟨slices, held, ?_⟩
      rw [if_neg bad]
      exact ⟨count, rest⟩
  · refine Completes.working rfl ((s.atWork_reach c 0x1F).trans work) ?_
    have before : (s.reach c).siv = s.siv := by rw [at_]
    cases began : s.siv.began with
    | none =>
      have idle : (s.reach c).sivLimited = false := by rw [State.sivLimited, before, began]
      rw [idle]
      rfl
    | some x =>
      obtain ⟨from_, cal⟩ := x
      have limit := State.sivLimited_iff (s := s.reach c) (by rw [before]; exact began)
      rw [State.rd_reach] at limit
      dsimp only
      by_cases early : (s.reach c).moduleTimeAt (s.reach c).time.raw < from_ + max 60 (min 86400 (s.rd SIV_ROUND_LIMIT)) * 1000000000
      · rw [if_pos early, if_neg (fun k => limit.mp k early)]
      · rw [if_neg early, if_pos (limit.mpr early)]
        obtain ⟨siv, round, ended, ⟨count, fresh⟩, noted, late, -⟩ := State.sivRoundEnd_spec (s := s.reach c) (x := (from_, cal)) (by rw [before]; exact began) true
        rw [before] at siv round
        refine ⟨by rw [siv]; rfl, by rw [siv]; rfl, by rw [siv]; rfl, by rw [siv]; rfl, round, ended, ⟨?_, fresh⟩, noted, late rfl⟩
        rw [count, State.rd_reach]

end Sys2Proof.Machine
end

section
/-! SUPPORT. Pairing: what its operations leave alone; loss of the link, waits, the comparator and the drivers (O22). -/

namespace Sys2Proof.Machine

/-! ### What the rules of claims leave alone -/

/-- The fields of CLM that a decision of the pairing may change. -/
def pairFields : List Field :=
  [CLM_CLAIM, CLM_STATUS_LATCH, CLM_EPOCH, CLM_STATUS_WAITING, CLM_STATUS_LINK_FAULT, CLM_CMD_STAT_RESULT, NOTE_RAW 0x1B]

/-- What every decision of the pairing leaves alone: it asks for modes and sets notices, but takes neither back. -/
structure PairKeeps (s t : State) : Prop where
  modes : t.modes = s.modes
  asks : ∀ v, Asks v s → Asks v t
  fields : ∀ f : Field, f.page = 0x1B → (∀ g ∈ pairFields, f.key ≠ g.key) → t.rd f = s.rd f
  noted : ∀ n : Notice, n.page = 0x1B → Noted n s → Noted n t
  partner : t.clm.partner = s.clm.partner

/-- What a decision leaves alone that neither ends nor starts a handover or a QUERY. -/
structure PairRules (s t : State) : Prop extends PairKeeps s t where
  swap : t.clm.swap = s.clm.swap
  querying : t.clm.querying = s.clm.querying
  zeros : t.clm.zeros = s.clm.zeros
  out : ∀ q ∈ s.clm.out, q ∈ t.clm.out

section
variable {s t u : State}

theorem PairKeeps.refl (s : State) : PairKeeps s s := ⟨rfl, fun _ h => h, fun _ _ _ => rfl, fun _ _ h => h, rfl⟩

theorem PairKeeps.trans (h : PairKeeps s t) (k : PairKeeps t u) : PairKeeps s u :=
  ⟨k.modes.trans h.modes, fun v a => k.asks v (h.asks v a), fun f page out => (k.fields f page out).trans (h.fields f page out),
   fun n page a => k.noted n page (h.noted n page a), k.partner.trans h.partner⟩

theorem PairRules.refl (s : State) : PairRules s s := ⟨.refl s, rfl, rfl, rfl, fun _ h => h⟩

theorem PairRules.trans (h : PairRules s t) (k : PairRules t u) : PairRules s u :=
  ⟨h.toPairKeeps.trans k.toPairKeeps, k.swap.trans h.swap, k.querying.trans h.querying, k.zeros.trans h.zeros, fun q hq => k.out q (h.out q hq)⟩

/-- An operation of other units. -/
theorem PairRules.of_kept {m : Nat} (kept : Kept (Touches m) s t) (modes : m.testBit 3 = false) (reqs : m.testBit 4 = false)
    (clm : m.testBit 26 = false) (page : m.testBit (40 + 0x1B) = false) : PairRules s t := by
  have unit : t.clm = s.clm := kept.frame .clm (by rw [Touches, show partCode .clm = 26 from rfl, clm]; decide)
  have asked : t.modeReqs = s.modeReqs := kept.frame .modeReqs (by rw [Touches, show partCode .modeReqs = 4 from rfl, reqs]; decide)
  have fields (f : Field) (h : f.page = 0x1B) : t.rd f = s.rd f := kept.rd_eq f (by rw [Field.slot, h, Touches, page]; decide)
  refine ⟨⟨kept.frame .modes (by rw [Touches, show partCode .modes = 3 from rfl, modes]; decide), fun v a => by rwa [Asks, asked],
    fun f h _ => fields f h, fun n h a => Noted.congr (n := n) a (fields _ (by rw [h]; rfl)), by rw [unit]⟩, by rw [unit], by rw [unit], by rw [unit],
    fun q hq => by rwa [unit]⟩

/-- A change of the unit's working state alone. -/
theorem PairKeeps.of_clm {v : ClmUnit} (partner : v.partner = s.clm.partner) : PairKeeps s (s.withClm v) :=
  ⟨rfl, fun _ h => h, fun _ _ _ => rfl, fun _ _ h => h, partner⟩

theorem PairRules.of_clm {v : ClmUnit} (partner : v.partner = s.clm.partner) (swap : v.swap = s.clm.swap) (querying : v.querying = s.clm.querying)
    (zeros : v.zeros = s.clm.zeros) (out : ∀ q ∈ s.clm.out, q ∈ v.out) : PairRules s (s.withClm v) := ⟨.of_clm partner, swap, querying, zeros, out⟩

theorem key_ne_of_clm {f g : Field} (page : f.page = 0x1B) (h : g.key < 0x1B * 0x20000) : f.key ≠ g.key := by
  have low : f.key / 0x20000 = 0x1B := page
  omega

theorem PairRules.wr {f : Field} (v : Nat) (mem : f ∈ pairFields.dropLast) : PairRules s (s.wr f v) := by
  refine ⟨⟨rfl, fun _ h => h, fun g _ out => State.rd_wr_ne _ _ (out f (List.mem_of_mem_dropLast mem)), fun n page a => Noted.wr a v ?_, rfl⟩,
    rfl, rfl, rfl, fun _ h => h⟩
  rw [page]
  revert f
  decide

theorem PairRules.notice {n : Notice} (page : n.page = 0x1B) (hn : n.bit < 32) : PairRules s (s.notice n) := by
  have unit : (s.notice n).clm = s.clm := State.notice_clm _ _
  have asked : (s.notice n).modeReqs = s.modeReqs := State.notice_modeReqs _ _
  refine ⟨⟨State.notice_modes _ _, fun v a => by rwa [Asks, asked], fun f h out => State.rd_notice_ne _ n ?_ (key_ne_of_clm h (by decide)),
    fun m h a => Noted.notice a n (page.trans h.symm) hn, by rw [unit]⟩, by rw [unit], by rw [unit], by rw [unit], fun q hq => by rwa [unit]⟩
  rw [page]
  exact out _ (by decide)

theorem PairRules.ask (r : ModeReq) : PairRules s (s.request r) := by
  have kept := State.request_kept (T := Touches 0x10) (.refl s) r fun _ h => h
  have unit : (s.request r).clm = s.clm := kept.frame .clm (by decide)
  refine ⟨⟨kept.frame .modes (by decide), fun v a => ?_, fun f h _ => State.rd_request _ _ _, fun n h a => Noted.congr (n := n) a (State.rd_request _ _ _),
    by rw [unit]⟩, by rw [unit], by rw [unit], by rw [unit], fun q hq => by rwa [unit]⟩
  rw [State.request]
  split
  · exact a
  · obtain ⟨q, hq, is⟩ := a
    exact ⟨q, List.mem_append_left _ hq, is⟩

theorem PairRules.event (event cause : Nat) : PairRules s (s.clmEvent event cause) :=
  .of_kept (State.clmEvent_kept (T := Touches 0x4440000020100003002) (.refl s) event cause fun _ h => h) (by decide) (by decide) (by decide) (by decide)

theorem PairRules.silt (code p0 p1 p2 p3 : Nat) : PairRules s (s.silt code p0 p1 p2 p3) :=
  .of_kept (State.silt_kept (T := Touches 0x400000020100000002) (.refl s) code p0 p1 p2 p3 fun _ h => h) (by decide) (by decide) (by decide) (by decide)

theorem PairRules.ite {c : Prop} [Decidable c] (h : PairRules s t) (k : PairRules s u) : PairRules s (if c then t else u) := by
  split
  · exact h
  · exact k

end

@[simp] theorem State.rd_withClm (s : State) (u : ClmUnit) (f : Field) : (s.withClm u).rd f = s.rd f := rfl

@[simp] theorem State.withClm_clm (s : State) (u : ClmUnit) : (s.withClm u).clm = u := rfl

@[simp] theorem State.withClm_modes (s : State) (u : ClmUnit) : (s.withClm u).modes = s.modes := rfl

/-! ### The operations -/

theorem State.compare_clm (s : State) : s.compare.clm = { s.clm with enabled := s.comparator } := by
  rw [State.compare]
  dsimp only
  split <;> rfl

theorem State.compare_rules (s : State) : PairRules s s.compare := by
  have set : PairRules s (s.withClm { s.clm with enabled := s.comparator }) := .of_clm rfl rfl rfl rfl fun _ h => h
  exact .ite (set.trans (.wr 0 (by decide))) set

theorem State.compare_fields (s : State) : OnlyFields [CLM_STATUS_LATCH] s s.compare := by
  rw [State.compare]
  dsimp only
  split
  · exact (OnlyFields.of_regs rfl : OnlyFields [CLM_STATUS_LATCH] s _).wr 0 (by decide)
  · exact OnlyFields.of_regs rfl

theorem State.queueBidues_mem (s : State) (kind arg : Nat) : (kind, arg) ∈ (s.queueBidues kind arg).clm.out := by
  rw [State.queueBidues]
  split
  next has => simpa using has
  next => exact List.mem_append_right _ List.mem_cons_self

theorem State.queueBidues_rules (s : State) (kind arg : Nat) : PairRules s (s.queueBidues kind arg) :=
  .ite (.refl s) (.of_clm (v := { s.clm with out := s.clm.out ++ [(kind, arg)] }) rfl rfl rfl rfl fun _ h => List.mem_append_left _ h)

theorem State.linkFault_rules (s : State) : PairRules s s.linkFault := by
  have set : PairRules s (s.withClm { s.clm with settle := none }) := .of_clm rfl rfl rfl rfl fun _ h => h
  exact .ite (.refl s) (((set.trans (.wr 1 (by decide))).trans (.notice rfl (by decide))).trans (.event 4 0))

theorem State.waitSilent_rules (s : State) : PairRules s s.waitSilent :=
  .ite (.refl s) (.ite (.ask _) (.ite (s.linkFault_rules.trans (.ask _)) (.ite (.ask _) (.refl s))))

theorem State.wantQuery_rules (s : State) : PairRules s s.wantQuery := .ite (s.queueBidues_rules 2 0) (.refl s)

theorem State.standbyDecide_rules (s : State) : PairRules s s.standbyDecide := by
  have want : PairRules s (s.withClm { s.clm with wants := true }) := .of_clm rfl rfl rfl rfl fun _ h => h
  exact .ite (.refl s) (.ite (.ite (.ask _) (.ite (.refl s) (want.trans (State.wantQuery_rules _)))) (.ite s.linkFault_rules (.ask _)))

theorem State.zeroClaims_rules (s : State) : PairRules s s.zeroClaims := .ite (.ask _) (.refl s)

theorem State.revertWatch_clm (s : State) : ∃ v, s.revertWatch = s.withClm { s.clm with settle := v } := by
  rw [State.revertWatch]
  split
  · exact ⟨none, rfl⟩
  · split
    · exact ⟨s.clm.settle, rfl⟩
    · exact ⟨some s.moduleTime, rfl⟩

theorem State.revertWatch_rules (s : State) : PairRules s s.revertWatch := by
  obtain ⟨v, is⟩ := s.revertWatch_clm
  rw [is]
  exact .of_clm rfl rfl rfl rfl fun _ h => h

theorem State.abandonSwap_keeps (s : State) : PairKeeps s s.abandonSwap := by
  rw [State.abandonSwap]
  split
  · exact .refl s
  · have dropped : PairKeeps s s.dropSwap := .of_clm rfl
    exact dropped.trans (PairRules.ask _).toPairKeeps

theorem State.abandonSwap_swap (s : State) : s.abandonSwap.clm.swap = none := by
  rw [State.abandonSwap]
  cases h : s.clm.swap with
  | none => exact h
  | some x => exact congrArg ClmUnit.swap ((State.request_kept (T := Touches 0x10) (.refl s.dropSwap) _ fun _ h => h).frame .clm (by decide))

/-! ### Loss of the link (R463) -/

/-- A link that has gone down: counted, with its notice and record. -/
def State.lossNoted (s : State) : State := (((s.wr CLM_STATUS_LINK_UP 0).count CLM_LINK_LOSSES 1).notice CLM_NOTE_LINK_LOST).clmEvent 2 0

/-- What waited on the link that is lost is forgotten (R466, R467). -/
def State.lossForgotten (s : State) : State :=
  s.withClm { s.clm with zeros := 0, querying := false, wants := false, out := s.clm.out.filter fun q => q != (2, 0) }

/-- What the module does without the link (R465, R466, R470, R471). -/
def State.lossDecided (s : State) : State :=
  match s.clm.swap with
  | some h => if !h.giving && h.sent then s.askRole .primary 5 else s.abandonSwap
  | none => if s.rdB CLM_STATUS_WAITING then s.waitSilent else s.standbyDecide

theorem State.linkLost_of {s : State} (up : s.rd CLM_STATUS_LINK_UP = 1) : s.linkLost = s.lossNoted.lossForgotten.lossDecided.revertWatch := by
  rw [State.linkLost, State.rdB, up]
  rfl

theorem State.lossNoted_spec (s : State) :
    s.lossNoted.rd CLM_STATUS_LINK_UP = 0 ∧ s.lossNoted.rd CLM_LINK_LOSSES = (s.rd CLM_LINK_LOSSES + 1) % 2 ^ 32 ∧ Noted CLM_NOTE_LINK_LOST s.lossNoted := by
  have event := State.clmEvent_kept (T := Touches 0x4440000020100003002)
    (.refl (((s.wr CLM_STATUS_LINK_UP 0).count CLM_LINK_LOSSES 1).notice CLM_NOTE_LINK_LOST)) 2 0 fun _ h => h
  have shown (f : Field) (page : f.page = 0x1B) (note : f.key ≠ (NOTE_RAW 0x1B).key) :
      s.lossNoted.rd f = ((s.wr CLM_STATUS_LINK_UP 0).count CLM_LINK_LOSSES 1).rd f :=
    (event.rd_eq f (by rw [Field.slot, page]; decide)).trans (State.rd_notice_ne _ CLM_NOTE_LINK_LOST note (key_ne_of_clm page (by decide)))
  refine ⟨?_, ?_, ?_⟩
  · rw [shown _ rfl (by decide), State.rd_count_ne _ _ (by decide), State.rd_wr_of_lt _ (by decide)]
  · rw [shown _ rfl (by decide), State.rd_count_self, State.rd_wr_ne _ _ (by decide)]
  · exact Noted.congr (n := CLM_NOTE_LINK_LOST) (State.noted_notice _ CLM_NOTE_LINK_LOST (by decide)) (event.rd_eq _ (by decide))

theorem State.request_clm (s : State) (r : ModeReq) : (s.request r).clm = s.clm :=
  (State.request_kept (T := Touches 0x10) (.refl s) r fun _ h => h).frame .clm (by decide)

/-- An end of a handover asks no QUERY and counts no frame. -/
theorem State.abandonSwap_timers (s : State) : s.abandonSwap.clm.zeros = s.clm.zeros ∧ (s.clm.querying = false → s.abandonSwap.clm.querying = false) := by
  rw [State.abandonSwap]
  cases s.clm.swap with
  | none => exact ⟨rfl, fun h => h⟩
  | some x =>
    dsimp only [State.askRole]
    rw [State.request_clm]
    exact ⟨rfl, fun _ => rfl⟩

theorem State.lossDecided_keeps (s : State) : PairKeeps s s.lossDecided ∧ s.lossDecided.clm.zeros = s.clm.zeros ∧
    (s.clm.querying = false → s.lossDecided.clm.querying = false) := by
  have rules {t : State} (h : PairRules s t) : PairKeeps s t ∧ t.clm.zeros = s.clm.zeros ∧ (s.clm.querying = false → t.clm.querying = false) :=
    ⟨h.toPairKeeps, h.zeros, fun idle => h.querying.trans idle⟩
  rw [State.lossDecided]
  split
  · split
    · exact rules (.ask _)
    · exact ⟨s.abandonSwap_keeps, s.abandonSwap_timers⟩
  · exact rules (.ite s.waitSilent_rules s.standbyDecide_rules)

theorem State.linkLost_spec {s : State} (up : s.rd CLM_STATUS_LINK_UP = 1) :
    let t := s.linkLost
    t.rd CLM_STATUS_LINK_UP = 0 ∧ t.rd CLM_LINK_LOSSES = (s.rd CLM_LINK_LOSSES + 1) % 2 ^ 32 ∧ Noted CLM_NOTE_LINK_LOST t ∧
    t.clm.zeros = 0 ∧ t.clm.querying = false := by
  obtain ⟨down, counted, noted⟩ := s.lossNoted_spec
  have forgets : PairKeeps s.lossNoted s.lossNoted.lossForgotten := .of_clm rfl
  obtain ⟨decides, zeros, querying⟩ := s.lossNoted.lossForgotten.lossDecided_keeps
  have watches := s.lossNoted.lossForgotten.lossDecided.revertWatch_rules
  have keeps := (forgets.trans decides).trans watches.toPairKeeps
  rw [State.linkLost_of up]
  exact ⟨(keeps.fields _ rfl (by decide)).trans down, (keeps.fields _ rfl (by decide)).trans counted, keeps.noted _ rfl noted,
    watches.zeros.trans zeros, watches.querying.trans (querying rfl)⟩

/-! ### The comparator and the drivers (R48, R458) -/

theorem State.comparator_compare (s : State) : s.compare.comparator = s.comparator := by
  have fields := s.compare_fields
  rw [State.comparator, State.comparator, State.partnerSerial, State.partnerSerial, State.serial, State.serial, s.compare_clm, s.compare_rules.modes,
    fields _ (by decide), fields _ (by decide), fields _ (by decide), fields _ (by decide), fields _ (by decide)]

/-- A driver that its supervisor latches off (R48, R459). -/
theorem State.driverLatch_spec (s : State) {k : Nat} (hk : k < 4) :
    let t := s.driverLatch k
    t.rd CLM_STATUS_LATCH = setBit (s.rd CLM_STATUS_LATCH) k ∧ t.driverOn k = false ∧ Noted CLM_NOTE_CON_LATCH t ∧
    Recorded 0x1B02 t ∧ t.clm = s.clm := by
  have event := State.clmEvent_kept (T := Touches 0x4440000020100003002)
    (.refl ((s.wr CLM_STATUS_LATCH (setBit (s.rd CLM_STATUS_LATCH) k)).notice CLM_NOTE_CON_LATCH)) 8 k fun _ h => h
  have record := State.silt_kept (T := Touches 0x4440000020100003002) event 0x1B02 k 0 0 0 fun i h => Sub.trans (fun _ k => k) (by decide) i h
  have shown : (s.driverLatch k).rd CLM_STATUS_LATCH = setBit (s.rd CLM_STATUS_LATCH) k := by
    refine (record.rd_eq CLM_STATUS_LATCH (by decide)).trans ?_
    rw [State.rd_notice_ne _ CLM_NOTE_CON_LATCH (by decide) (by decide), State.rd_wr_of_lt]
    exact setBit_lt (State.rd_lt s CLM_STATUS_LATCH) hk
  refine ⟨shown, ?_, ?_, State.recorded_silt _ _ _ _ _ _, ?_⟩
  · rw [State.driverOn, shown, bitAt_setBit]
    simp
  · exact Noted.congr (n := CLM_NOTE_CON_LATCH) (State.noted_notice _ CLM_NOTE_CON_LATCH (by decide)) (record.rd_eq _ (by decide))
  · exact (record.frame .clm (by decide) : _ = _).trans (State.notice_clm _ _)

/-- A claim that the comparator loads (R458). -/
theorem State.comparatorLoad_spec {s : State} (holds : s.rd CLM_CLAIM ≠ 0) :
    let t := s.comparatorLoad
    t.clm.own = s.rd CLM_CLAIM ∧ t.clm.enabled = t.comparator ∧ OnlyFields [CLM_STATUS_LATCH] s t ∧ t.modes = s.modes := by
  have loads : s.comparatorLoad = (s.withClm { s.clm with own := s.rd CLM_CLAIM }).compare := if_pos (by simpa [State.holdsClaim] using holds)
  rw [loads]
  refine ⟨?_, ?_, OnlyFields.trans (OnlyFields.of_regs rfl) (State.compare_fields _), (State.compare_rules _).modes⟩
  · rw [State.compare_clm]
    rfl
  · rw [State.comparator_compare, State.compare_clm]

/-! ### The waits (R465, R467, R471) -/

theorem State.request_regs (s : State) (r : ModeReq) : (s.request r).regs = s.regs := by
  rw [State.request]
  split <;> rfl

theorem State.waitOver_spec {s : State} (waits : s.rd CLM_STATUS_WAITING = 1) (down : s.rd CLM_STATUS_LINK_UP = 0) (silent : s.clm.heardBeacon = false) :
    Asks (.role .solo) s.waitOver ∧ s.waitOver.regs = s.regs ∧ s.waitOver.modes = s.modes := by
  have over_ : s.waitOver = (s.withClm { s.clm with waited := true }).askRole .solo 1 5 := by
    have waitsB : (s.withClm { s.clm with waited := true }).rdB CLM_STATUS_WAITING = true := by simp [State.rdB, waits]
    have downB : (s.withClm { s.clm with waited := true }).rdB CLM_STATUS_LINK_UP = false := by simp [State.rdB, down]
    rw [State.waitOver, if_neg (by simpa [State.rdB, silent] using waits), State.waitSilent, waitsB, downB, if_neg (by decide)]
    split
    · rfl
    · rw [if_neg (by simp [silent])]
      rfl
  rw [over_]
  exact ⟨State.asks_request _ ⟨.role .solo, 1, 5⟩, State.request_regs _ _, (PairRules.ask _).modes⟩

theorem State.queryExpire_spec {s : State} (asked : s.clm.querying = true) (standby : s.modes.role = .standby) :
    let t := s.queryExpire
    Asks (.role .primary) t ∧ t.clm = { s.clm with querying := false } ∧ t.regs = s.regs ∧ t.modes = s.modes := by
  have expires : s.queryExpire = (s.withClm { s.clm with querying := false }).askControl 4 := by
    rw [State.queryExpire, asked, if_neg (by decide), if_pos standby]
    rfl
  rw [expires]
  exact ⟨State.asks_request _ ⟨.role .primary, 4, 0⟩, State.request_clm _ _, State.request_regs _ _, (PairRules.ask _).modes⟩

theorem State.swapRefused_clm (s : State) (cause : Nat) : (s.swapRefused cause).clm = s.clm :=
  (State.swapRefused_kept (T := Touches 0x44c0000020100003002) (.refl s) cause fun _ h => h).frame .clm (by decide)

theorem State.swapRefused_noted (s : State) (cause : Nat) : Noted CLM_NOTE_SWAP_REFUSED (s.swapRefused cause) :=
  (PairRules.event 9 cause).noted _ rfl (State.noted_notice _ CLM_NOTE_SWAP_REFUSED (by decide))

/-- A handover that is given up asks for the role that the module held (R471). -/
theorem State.abandonSwap_asks {s : State} {h : Handover} (is : s.clm.swap = some h) (giving : h.giving = true) :
    Asks (.role h.before) s.abandonSwap ∧ s.abandonSwap.regs = s.regs := by
  have ends : s.abandonSwap = s.dropSwap.askRole h.before 5 := by
    rw [State.abandonSwap, is]
    dsimp only
    rw [giving]
    rfl
  rw [ends]
  exact ⟨State.asks_request _ ⟨.role h.before, 5, 0⟩, State.request_regs _ _⟩

theorem State.swapExpire_spec {s : State} {h : Handover} (is : s.clm.swap = some h) (giving : h.giving = true) (sent : h.sent = true)
    (holds : s.rd CLM_CLAIM ≠ 0) :
    let t := s.swapExpire
    t.clm.swap = none ∧ Noted CLM_NOTE_SWAP_REFUSED t ∧ Asks (.role h.before) t ∧ t.rd CLM_CLAIM = s.rd CLM_CLAIM := by
  have claims : s.holdsClaim = true := by simpa [State.holdsClaim] using holds
  have expires : s.swapExpire = (s.swapRefused 8).abandonSwap := by
    rw [State.swapExpire, is]
    dsimp only
    rw [giving, sent, claims]
    rfl
  obtain ⟨asks, regs⟩ := State.abandonSwap_asks (s := s.swapRefused 8) (h := h) (by rw [State.swapRefused_clm]; exact is) giving
  rw [expires]
  refine ⟨State.abandonSwap_swap _, (State.abandonSwap_keeps _).noted _ rfl (s.swapRefused_noted 8), asks, ?_⟩
  rw [State.rd_congr regs]
  refine ((State.clmEvent_kept (T := Touches 0x4440000020100003002) (.refl (s.notice CLM_NOTE_SWAP_REFUSED)) 9 8 fun _ h => h).rd_eq CLM_CLAIM (by decide)).trans ?_
  exact State.rd_notice_ne _ CLM_NOTE_SWAP_REFUSED (by decide) (by decide)

/-- Settles O22: each event by what it finds. -/
theorem pairingTimersAndDrivers : Obligations.PairingTimersAndDrivers := by
  refine ⟨fun s live up => ?_, fun s live holds => ?_, fun s live waits down silent => ?_, fun s live idle => ?_, fun s live asked standby => ?_,
    fun s h live is giving sent holds => ?_, fun s k live hk => ?_⟩
  · exact State.whenLive_completes rfl live (State.linkLost_spec up)
  · exact State.whenLive_completes rfl live (State.comparatorLoad_spec holds)
  · exact State.whenLive_completes rfl live (State.waitOver_spec waits down silent)
  · refine State.whenLive_completes rfl live (if_pos ?_)
    rcases idle with off | heard
    · simp [State.rdB, off]
    · simp [heard]
  · exact State.whenLive_completes rfl live (State.queryExpire_spec asked standby)
  · exact State.whenLive_completes rfl live (State.swapExpire_spec is giving sent holds)
  · exact State.whenLive_completes rfl live (s.driverLatch_spec hk)

end Sys2Proof.Machine
end

section
/-! SUPPORT. Frames of the Bidues link (O21). -/

namespace Sys2Proof.Machine

/-! ### The rules of claims (R468) -/

theorem PairRules.wr_other {s : State} {f : Field} (v : Nat) (page : f.page ≠ 0x1B) : PairRules s (s.wr f v) := by
  have other {g : Field} (h : g.page = 0x1B) : g.key ≠ f.key := fun same => page (by rw [← h, Field.page, Field.page, same])
  refine ⟨⟨rfl, fun _ h => h, fun g h _ => State.rd_wr_ne _ _ (other h), fun n h a => Noted.wr a v (other ?_), rfl⟩, rfl, rfl, rfl, fun _ h => h⟩
  rw [h]
  rfl

theorem PairRules.noticeIf {s : State} (b : Bool) {n : Notice} (page : n.page = 0x1B) (hn : n.bit < 32) : PairRules s (s.noticeIf b n) :=
  .ite (.notice page hn) (.refl s)

theorem State.setClaim_rules (s : State) (c : Nat) : PairRules s (s.setClaim c) := by
  have claimed : PairRules s ((s.wr CLM_CLAIM c).wr SPR_CLAIM c) := (PairRules.wr c (by decide)).trans (.wr_other c (by decide))
  have zero : PairRules ((s.wr CLM_CLAIM c).wr SPR_CLAIM c) (((s.wr CLM_CLAIM c).wr SPR_CLAIM c).withClm { s.clm with own := 0 }) :=
    .of_clm rfl rfl rfl rfl fun _ h => h
  exact (claimed.trans (.ite zero (.refl _))).trans (State.compare_rules _)

theorem State.newEpoch_rules (s : State) : PairRules s s.newEpoch := (PairRules.wr _ (by decide)).trans (.noticeIf _ rfl (by decide))

theorem State.gainControl_rules (s : State) : PairRules s s.gainControl :=
  (s.newEpoch_rules.trans (State.setClaim_rules _ _)).trans (.wr 0 (by decide))

theorem State.giveUpClaim_rules (s : State) (cause : Nat) : PairRules s (s.giveUpClaim cause) := (s.setClaim_rules 0).trans (.ask _)

theorem State.claimRules_rules (s : State) (f : Bidues) : PairRules s (s.claimRules f) := by
  refine .ite (s.giveUpClaim_rules 6) ?_
  have tie : PairRules s (if s.rd CLM_CLAIM = f.claim then (s.notice CLM_NOTE_TIE).silt 0x1B03 f.serial else s) :=
    .ite ((PairRules.notice rfl (by decide)).trans (.silt _ _ _ _ _)) (.refl s)
  exact ((tie.trans (.ite (State.giveUpClaim_rules _ 8) (.ite (State.gainControl_rules _) (.refl _)))).trans (.ite (.event 7 0) (.refl _))).trans
    (.ite (.ask _) (.refl _))

theorem State.waitRules_rules (s : State) (f : Bidues) : PairRules s (s.waitRules f) := .ite (.ask _) (.ite (.ask _) (.refl s))

/-- The rules of a valid frame before its TYPE: `was` says that the link was up. -/
def State.frameRules (s : State) (f : Bidues) (was : Bool) : State :=
  if f.kind = 5 ∧ (s.clm.swap.map Handover.giving) = some true then s
  else if s.holdsClaim then s.claimRules f
  else if s.rdB CLM_STATUS_WAITING then s.waitRules f
  else if f.kind = 7 then s
  else if was then s.zeroClaims
  else s.standbyDecide

theorem State.frameRules_rules (s : State) (f : Bidues) (was : Bool) : PairRules s (s.frameRules f was) :=
  .ite (.refl s) (.ite (s.claimRules_rules f) (.ite (s.waitRules_rules f) (.ite (.refl s) (.ite s.zeroClaims_rules s.standbyDecide_rules))))

theorem State.takingEnds_rules (s : State) (f : Bidues) : PairRules s (s.takingEnds f) := by
  rw [State.takingEnds]
  split
  · exact .ite (.ask _) (.refl s)
  · exact .refl s

/-- What follows the meaning of a frame's TYPE asks for roles, and counts the time of a revert. -/
theorem State.frameEnds_parts (s : State) (f : Bidues) : (s.takingEnds f).revertWatch.regs = s.regs ∧
    ∃ v, (s.takingEnds f).revertWatch.clm = { s.clm with settle := v } := by
  obtain ⟨v, watched⟩ := (s.takingEnds f).revertWatch_clm
  have taken : (s.takingEnds f).regs = s.regs ∧ (s.takingEnds f).clm = s.clm := by
    rw [State.takingEnds]
    split
    · split
      · exact ⟨State.request_regs _ _, State.request_clm _ _⟩
      · exact ⟨rfl, rfl⟩
    · exact ⟨rfl, rfl⟩
  rw [watched]
  exact ⟨taken.1, v, by rw [State.withClm_clm, taken.2]⟩

/-! ### A valid frame (R462, R463) -/

theorem State.bidues_of {s : State} {f : Bidues} (runs : s.linkRuns = true) (valid : s.biduesValid f = true) :
    s.bidues f = ((((s.loadPartner f).linkUp.frameRules f (s.rdB CLM_STATUS_LINK_UP)).biduesKind f).takingEnds f).revertWatch := by
  rw [State.bidues, runs, valid]
  rfl

/-- The contents of a valid frame, as the registers take them. -/
def State.partnerShown (s : State) (f : Bidues) : State :=
  (s.count CLM_HB_RX 1).wrAll [(CLM_PARTNER_CLAIM, f.claim), (CLM_PARTNER_SERIAL_LO, f.serial), (CLM_PARTNER_SERIAL_HI, f.serial / 2 ^ 32),
    (CLM_PARTNER_CFG_ID, f.cfgId), (CLM_STATUS_CFG_MISMATCH, if f.cfgId = s.rd CLM_CFG_ID then 0 else 1)]

/-- The unit that takes a valid frame. -/
def State.partnerUnit (s : State) (f : Bidues) : ClmUnit :=
  { s.clm with partner := some f, mismatch := (s.partnerShown f).mismatches f, zeros := if f.claim = 0 then s.clm.zeros + 1 else 0 }

theorem State.loadPartner_of (s : State) (f : Bidues) : ∃ v : ClmUnit, v.partner = some f ∧ v.swap = s.clm.swap ∧ v.querying = s.clm.querying ∧
    v.out = s.clm.out ∧ PairRules ((s.partnerShown f).withClm v) (s.loadPartner f) := by
  have loads : s.loadPartner f = (if (s.partnerShown f).mismatches f && !(s.partnerShown f).clm.mismatch then
      (((s.partnerShown f).withClm (s.partnerUnit f)).noticeIf ((s.partnerShown f).mismatches f) CLM_NOTE_CFG_MISMATCH).clmEvent 10 0
    else ((s.partnerShown f).withClm (s.partnerUnit f)).noticeIf ((s.partnerShown f).mismatches f) CLM_NOTE_CFG_MISMATCH).compare := rfl
  have noted : PairRules ((s.partnerShown f).withClm (s.partnerUnit f))
      (((s.partnerShown f).withClm (s.partnerUnit f)).noticeIf ((s.partnerShown f).mismatches f) CLM_NOTE_CFG_MISMATCH) := .noticeIf _ rfl (by decide)
  refine ⟨s.partnerUnit f, rfl, rfl, rfl, rfl, ?_⟩
  rw [loads]
  exact (noted.trans (.ite (.event 10 0) (.refl _))).trans (State.compare_rules _)

/-- What a valid frame shows once it is loaded and the link is up. -/
structure FrameLoaded (s t : State) (f : Bidues) : Prop where
  counted : t.rd CLM_HB_RX = (s.rd CLM_HB_RX + 1) % 2 ^ 32
  claim : t.rd CLM_PARTNER_CLAIM = f.claim % 2 ^ 32
  serial : t.rd CLM_PARTNER_SERIAL_LO = f.serial % 2 ^ 32
  cfgId : t.rd CLM_PARTNER_CFG_ID = f.cfgId % 2 ^ 32
  up : t.rd CLM_STATUS_LINK_UP = 1
  partner : t.clm.partner = some f

theorem FrameLoaded.keeps {s t u : State} {f : Bidues} (h : FrameLoaded s t f) (k : PairKeeps t u) : FrameLoaded s u f :=
  ⟨(k.fields _ rfl (by decide)).trans h.counted, (k.fields _ rfl (by decide)).trans h.claim, (k.fields _ rfl (by decide)).trans h.serial,
   (k.fields _ rfl (by decide)).trans h.cfgId, (k.fields _ rfl (by decide)).trans h.up, k.partner.trans h.partner⟩

theorem State.linkUp_of (s : State) : ∃ u : State, (u = s ∨ u = s.wr CLM_STATUS_LINK_UP 1) ∧ u.rd CLM_STATUS_LINK_UP = 1 ∧ PairRules u s.linkUp := by
  rw [State.linkUp]
  by_cases up : s.rdB CLM_STATUS_LINK_UP = true
  · rw [if_pos up]
    exact ⟨s, .inl rfl, by simpa [State.rdB] using up, .refl s⟩
  · rw [if_neg up]
    exact ⟨_, .inr rfl, State.rd_wr_of_lt _ (by decide), ((PairRules.wr 0 (by decide)).trans (.notice rfl (by decide))).trans (.event 3 0)⟩

/-- A frame that is loaded leaves the handover, the QUERY, the modes and what waits to be sent. -/
theorem State.frameLoaded (s : State) (f : Bidues) : let t := (s.loadPartner f).linkUp
    FrameLoaded s t f ∧ t.modes = s.modes ∧ t.clm.swap = s.clm.swap ∧ t.clm.querying = s.clm.querying ∧ ∀ q ∈ s.clm.out, q ∈ t.clm.out := by
  obtain ⟨v, partner, swap, querying, out, loads⟩ := s.loadPartner_of f
  obtain ⟨u, begins, up, ends⟩ := (s.loadPartner f).linkUp_of
  have shown : (s.loadPartner f).rd CLM_HB_RX = (s.rd CLM_HB_RX + 1) % 2 ^ 32 ∧ (s.loadPartner f).rd CLM_PARTNER_CLAIM = f.claim % 2 ^ 32 ∧
      (s.loadPartner f).rd CLM_PARTNER_SERIAL_LO = f.serial % 2 ^ 32 ∧ (s.loadPartner f).rd CLM_PARTNER_CFG_ID = f.cfgId % 2 ^ 32 := by
    refine ⟨(loads.fields _ rfl (by decide)).trans ?_, (loads.fields _ rfl (by decide)).trans ?_, (loads.fields _ rfl (by decide)).trans ?_,
      (loads.fields _ rfl (by decide)).trans ?_⟩
    all_goals simp (disch := decide) only [State.rd_withClm, State.partnerShown, State.wrAll, State.rd_wr_ne, State.rd_wr_self, State.rd_count_self]
  have same : u.clm = (s.loadPartner f).clm ∧ u.modes = (s.loadPartner f).modes ∧
      ∀ g : Field, g.key ≠ CLM_STATUS_LINK_UP.key → u.rd g = (s.loadPartner f).rd g := by
    rcases begins with rfl | rfl
    · exact ⟨rfl, rfl, fun _ _ => rfl⟩
    · exact ⟨rfl, rfl, fun g ne => State.rd_wr_ne _ _ ne⟩
  obtain ⟨clm, modes, fields⟩ := same
  obtain ⟨rx, claim, serial, cfg⟩ := shown
  have loaded : FrameLoaded s u f := ⟨(fields _ (by decide)).trans rx, (fields _ (by decide)).trans claim, (fields _ (by decide)).trans serial,
    (fields _ (by decide)).trans cfg, up, by rw [clm, loads.partner]; exact partner⟩
  refine ⟨loaded.keeps ends.toPairKeeps, ends.modes.trans (modes.trans loads.modes), ends.swap.trans ?_, ends.querying.trans ?_, fun q hq => ends.out q ?_⟩
  · rw [clm, loads.swap]
    exact swap
  · rw [clm, loads.querying]
    exact querying
  · rw [clm]
    refine loads.out q ?_
    rwa [State.withClm_clm, out]

/-- What holds before the TYPE of a valid frame takes effect. -/
theorem State.frameTaken {s : State} {f : Bidues} (runs : s.linkRuns = true) (valid : s.biduesValid f = true) :
    ∃ u : State, s.bidues f = ((u.biduesKind f).takingEnds f).revertWatch ∧ FrameLoaded s u f ∧ u.modes = s.modes ∧ u.clm.swap = s.clm.swap ∧
      u.clm.querying = s.clm.querying := by
  obtain ⟨loaded, modes, swap, querying, -⟩ := s.frameLoaded f
  have rules := (s.loadPartner f).linkUp.frameRules_rules f (s.rdB CLM_STATUS_LINK_UP)
  exact ⟨_, State.bidues_of runs valid, loaded.keeps rules.toPairKeeps, rules.modes.trans modes, rules.swap.trans swap, rules.querying.trans querying⟩

theorem State.frameEnds_rules (s : State) (f : Bidues) : PairRules s (s.takingEnds f).revertWatch :=
  (s.takingEnds_rules f).trans (State.revertWatch_rules _)

/-! ### The meaning of TYPE (R466, R467, R470, R471) -/

theorem PairKeeps.ite {s t u : State} {c : Prop} [Decidable c] (h : PairKeeps s t) (k : PairKeeps s u) : PairKeeps s (if c then t else u) := by
  split
  · exact h
  · exact k

theorem State.swapRefused_rules (s : State) (cause : Nat) : PairRules s (s.swapRefused cause) :=
  (PairRules.notice rfl (by decide)).trans (.event 9 cause)

/-- A partner in control whose beacons are not heard (R467). -/
def State.beaconFault (s : State) : State := ((s.withClm { s.clm with settle := none }).notice CLM_NOTE_BEACON_FAULT).clmEvent 5 0

theorem State.beaconFault_keeps (s : State) : PairKeeps s s.beaconFault :=
  ((PairKeeps.of_clm (v := { s.clm with settle := none }) rfl).trans
    (PairRules.notice (n := CLM_NOTE_BEACON_FAULT) rfl (by decide)).toPairKeeps).trans (PairRules.event 5 0).toPairKeeps

theorem State.biduesKind_keeps (s : State) (f : Bidues) : PairKeeps s (s.biduesKind f) := by
  have quiet : PairKeeps s (s.withClm { s.clm with querying := false }) := .of_clm rfl
  have settled := (s.withClm { s.clm with querying := false }).beaconFault_keeps
  have refused : PairKeeps s ((s.swapRefused f.arg).wr CLM_CMD_STAT_RESULT 3) := ((s.swapRefused_rules f.arg).trans (.wr 3 (by decide))).toPairKeeps
  have dropped : PairKeeps s s.dropSwap := .of_clm rfl
  have asks (u : State) (h : PairKeeps s u) (r : ModeReq) : PairKeeps s (u.request r) := h.trans (PairRules.ask r).toPairKeeps
  rw [State.biduesKind]
  split
  · exact (s.queueBidues_rules 3 0).toPairKeeps
  · exact .ite (.refl s) (.ite quiet (.ite quiet (.ite (quiet.trans settled) (asks _ quiet _))))
  · exact .ite (.ite (asks s (.refl s) _) (s.queueBidues_rules 6 3).toPairKeeps) (.ite (asks s (.refl s) _) (s.queueBidues_rules 6 3).toPairKeeps)
  · split
    · exact .ite (asks _ (s.setClaim_rules 0).toPairKeeps _) (.refl s)
    · exact .refl s
  · split
    · exact .ite (refused.trans (State.abandonSwap_keeps _)) (.refl s)
    · exact .ite refused (.refl s)
  · split
    · exact .ite s.abandonSwap_keeps (.ite (asks _ dropped _) (asks _ s.abandonSwap_keeps _))
    · exact .ite (asks s (.refl s) _) (.refl s)
  · exact .refl s

/-- A partner that answers that it is in control without beacons (R467). -/
theorem State.answer_beaconFault {s : State} {f : Bidues} (kind : f.kind = 3) (asked : s.clm.querying = true) (standby : s.modes.role = .standby)
    (control : f.inControl = true) (skips : bitAt f.arg 1 = false) (beacons : bitAt f.arg 0 = true) :
    s.biduesKind f = (s.withClm { s.clm with querying := false }).beaconFault := by
  rw [State.biduesKind, kind]
  dsimp only
  rw [asked, if_neg (by decide), control, skips, beacons, if_neg (not_not_intro standby)]
  rfl

theorem State.beaconFault_spec (s : State) : s.beaconFault.clm = { s.clm with settle := none } ∧ Noted CLM_NOTE_BEACON_FAULT s.beaconFault := by
  refine ⟨?_, (PairRules.event 5 0).noted _ rfl (State.noted_notice _ CLM_NOTE_BEACON_FAULT (by decide))⟩
  rw [State.beaconFault]
  refine ((State.clmEvent_kept (T := Touches 0x4440000020100003002) (.refl _) 5 0 fun _ h => h).frame .clm (by decide) : _ = _).trans ?_
  exact State.notice_clm _ _

/-- A claim that is given up takes effect in the comparator at once (R458). -/
theorem State.setClaim_zero (s : State) : (s.setClaim 0).rd CLM_CLAIM = 0 ∧ (s.setClaim 0).rd SPR_CLAIM = 0 ∧ (s.setClaim 0).clm.own = 0 := by
  have is : s.setClaim 0 = (((s.wr CLM_CLAIM 0).wr SPR_CLAIM 0).withClm { s.clm with own := 0 }).compare := rfl
  have fields := (((s.wr CLM_CLAIM 0).wr SPR_CLAIM 0).withClm { s.clm with own := 0 }).compare_fields
  rw [is]
  refine ⟨(fields _ (by decide)).trans ?_, (fields _ (by decide)).trans ?_, by rw [State.compare_clm]; rfl⟩
  · rw [State.rd_withClm, State.rd_wr_ne _ _ (by decide), State.rd_wr_of_lt _ (by decide)]
  · rw [State.rd_withClm, State.rd_wr_of_lt _ (by decide)]

/-! ### The module's own turn (R460, R461) -/

/-- A heartbeat that leaves the module (R461). -/
theorem State.heartbeat_spec {s : State} (runs : s.linkRuns = true) (out : s.clm.out = []) (wants : s.clm.wants = false) :
    let t := s.turn
    t.clm = { s.clm with seq := (s.clm.seq + 1) % 256 } ∧ t.regs = s.regs ∧
    ∃ f : Bidues, t.emitted = s.emitted ++ [.bidues f (biduesOctets f)] ∧ f.sync = 0xB5 ∧ f.kind = 1 ∧ f.seq = s.clm.seq ∧
      f.claim = s.rd CLM_CLAIM ∧ f.role = s.modes.role.code ∧ f.inControl = s.comparator ∧ f.rank = s.rd CLM_CFG_RANK ∧
      f.epoch = s.rd CLM_EPOCH ∧ f.serial = s.serial ∧ f.cfgId = s.rd CLM_CFG_ID := by
  have sends : s.turn = s.sendBidues 1 0 := by
    have idle : s.wantQuery = s := if_neg (by simp [wants])
    rw [State.turn, runs, if_neg (by decide)]
    dsimp only
    rw [idle, out]
  rw [sends]
  exact ⟨rfl, rfl, _, rfl, rfl, rfl, rfl, rfl, rfl, rfl, rfl, rfl, rfl, rfl⟩

/-- Settles O21: the module's turn, and received frames by their TYPE. -/
theorem biduesFrames : Obligations.BiduesFrames := by
  refine ⟨fun s c live runs out wants => ?_, fun s f live runs bad => ?_, fun s f live runs valid => ?_, fun s f live runs valid => ?_,
    fun s f live runs valid asked standby claim waiting control skips beacons => ?_, fun s f live runs valid arg => ?_,
    fun s f live runs valid giving => ?_, fun s f live runs valid giving => ?_, fun s f live runs valid standby swap => ?_⟩
  · obtain ⟨time, at_⟩ := s.reach_eq c
    have liveThen : (s.reach c).live 0x1B = true := by rw [at_]; exact live
    have turns : exec (.heartbeat c) s = .next (s.reach c).turn := congrArg Host.Outcome.next (State.whenLive_of liveThen State.turn)
    refine ⟨(s.reach c).turn, turns, ?_⟩
    rw [at_]
    exact State.heartbeat_spec (s := { s with time := time }) runs out wants
  · refine State.whenLive_completes rfl live ?_
    have discards : s.bidues f = s.count CLM_HB_BAD 1 := by rw [State.bidues, runs, bad]; rfl
    rw [discards]
    exact ⟨State.rd_count_self _ _ _, (OnlyFields.refl _ s).wr _ (by decide), rfl, rfl⟩
  · refine State.whenLive_completes rfl live ?_
    obtain ⟨u, done, loaded, -⟩ := State.frameTaken runs valid
    rw [done]
    have shown := (loaded.keeps (u.biduesKind_keeps f)).keeps (State.frameEnds_rules (u.biduesKind f) f).toPairKeeps
    exact ⟨shown.counted, shown.claim, shown.serial, shown.cfgId, shown.up, shown.partner⟩
  · refine State.whenLive_completes rfl live ?_
    obtain ⟨u, done, -⟩ := State.frameTaken runs valid
    rw [done]
    exact ⟨0, (State.frameEnds_rules _ _).out _ (u.queueBidues_mem 3 0)⟩
  · refine State.whenLive_completes rfl live ?_
    obtain ⟨u, done, -, modes, -, querying⟩ := State.frameTaken runs valid
    rw [done, State.answer_beaconFault (f := { f with kind := 3 }) rfl (querying.trans asked) (by rw [modes]; exact standby) control skips beacons]
    obtain ⟨clm, noted⟩ := (u.withClm { u.clm with querying := false }).beaconFault_spec
    have ends := State.frameEnds_rules (u.withClm { u.clm with querying := false }).beaconFault { f with kind := 3 }
    exact ⟨ends.querying.trans (by rw [clm]; rfl), ends.noted _ rfl noted⟩
  · refine State.whenLive_completes rfl live ?_
    obtain ⟨u, done, -, modes, -⟩ := State.frameTaken runs valid
    have asks : u.biduesKind { f with kind := 4 } = if u.modes.role = .standby then u.askRole .swapping 5 4 else u.queueBidues 6 3 := if_pos arg
    rw [done, asks, modes]
    have ends := State.frameEnds_rules (if s.modes.role = .standby then u.askRole .swapping 5 4 else u.queueBidues 6 3) { f with kind := 4 }
    split at ends
    next standby =>
      rw [if_pos standby, if_pos standby]
      exact ends.asks _ (State.asks_request u ⟨.role .swapping, 5, 4⟩)
    next other =>
      rw [if_neg other, if_neg other]
      exact ⟨3, ends.out _ (u.queueBidues_mem 6 3)⟩
  · refine State.whenLive_completes rfl live ?_
    obtain ⟨u, done, -, -, swap, -⟩ := State.frameTaken runs valid
    obtain ⟨h, is, gives⟩ := Option.map_eq_some_iff.mp giving
    have ends : u.biduesKind { f with kind := 5 } = (u.setClaim 0).askRole .standby 5 := by
      rw [State.biduesKind]
      dsimp only
      rw [swap, is]
      exact if_pos gives
    rw [done, ends]
    obtain ⟨regs, v, clm⟩ := State.frameEnds_parts ((u.setClaim 0).askRole .standby 5) { f with kind := 5 }
    obtain ⟨claim, copy, own⟩ := u.setClaim_zero
    refine ⟨(State.rd_congr (regs.trans (State.request_regs _ _)) _).trans claim, (State.rd_congr (regs.trans (State.request_regs _ _)) _).trans copy, ?_,
      (State.frameEnds_rules _ _).asks _ (State.asks_request _ ⟨.role .standby, 5, 0⟩)⟩
    rw [clm]
    exact (congrArg ClmUnit.own (State.request_clm _ _)).trans own
  · refine State.whenLive_completes rfl live ?_
    obtain ⟨u, done, -, -, swap, -⟩ := State.frameTaken runs valid
    obtain ⟨h, is, gives⟩ := Option.map_eq_some_iff.mp giving
    have ends : u.biduesKind { f with kind := 6 } = ((u.swapRefused f.arg).wr CLM_CMD_STAT_RESULT 3).abandonSwap := by
      rw [State.biduesKind]
      dsimp only
      rw [swap, is]
      exact if_pos gives
    have held : ((u.swapRefused f.arg).wr CLM_CMD_STAT_RESULT 3).clm.swap = some h := by
      change (u.swapRefused f.arg).clm.swap = some h
      rw [State.swapRefused_clm, swap, is]
    obtain ⟨-, regs⟩ := State.abandonSwap_asks held gives
    rw [done, ends]
    obtain ⟨later, v, clm⟩ := State.frameEnds_parts ((u.swapRefused f.arg).wr CLM_CMD_STAT_RESULT 3).abandonSwap { f with kind := 6 }
    refine ⟨by rw [clm]; exact State.abandonSwap_swap _, (State.rd_congr (later.trans regs) _).trans (State.rd_wr_of_lt _ (by decide)), ?_⟩
    exact Noted.congr (n := CLM_NOTE_SWAP_REFUSED) (Noted.wr (u.swapRefused_noted f.arg) 3 (by decide)) (State.rd_congr (later.trans regs) _)
  · refine State.whenLive_completes rfl live ?_
    obtain ⟨u, done, -, modes, none_, -⟩ := State.frameTaken runs valid
    have asks : u.biduesKind { f with kind := 7 } = u.askControl 2 := by
      rw [State.biduesKind]
      dsimp only
      rw [none_, swap]
      exact if_pos (by rw [modes]; exact standby)
    rw [done, asks]
    exact (State.frameEnds_rules _ _).asks _ (State.asks_request u ⟨.role .primary, 2, 0⟩)

end Sys2Proof.Machine
end

section
/-! SUPPORT. Commands of the pairing, periodic swaps, reverts and the quiet table (O23). -/

namespace Sys2Proof.Machine

/-! ### HANDOVER and TAKE (R472) -/

/-- No condition bars a handover of a module that may hand over. -/
theorem State.swapBar_zero {s : State} (h : MayHandOver s) : s.swapBar = 0 := by
  obtain ⟨up, ready, f, mem, other, cfg⟩ := h
  have partner : s.clm.partner = some f := mem
  rw [State.swapBar, State.rdB, up, partner]
  simp [State.rdB, ready, other, cfg]

/-- The bars of a handover. -/
theorem State.swapBar_lt (s : State) : s.swapBar < 8 := by
  rw [State.swapBar]
  split_ifs
  · decide
  · cases s.clm.partner with
    | none => exact (by decide : (2 : Nat) < 8)
    | some f =>
      dsimp only
      split_ifs <;> decide

theorem State.swapBar_hostWrote (s : State) (port : Port) (a : Nat) : (s.hostWrote port false a).swapBar = s.swapBar := by
  simp only [State.swapBar, State.rdB, State.hostWrote_clm, State.rd_hostWrote_ne s port false a (f := CLM_STATUS_LINK_UP) (by decide) (by decide),
    State.rd_hostWrote_ne s port false a (f := SYS_STATUS_READY) (by decide) (by decide),
    State.rd_hostWrote_ne s port false a (f := CLM_CFG_ID) (by decide) (by decide)]
  rfl

/-- A bar is refused with its notice, and asks for nothing. -/
theorem State.barred_spec (s : State) {cause code : Nat} (hc : code < 8) :
    let t := (s.swapRefused cause).wr CLM_CMD_STAT_RESULT code
    t.clm = s.clm ∧ t.modeReqs = s.modeReqs ∧ t.rd CLM_CMD_STAT_RESULT = code ∧ Noted CLM_NOTE_SWAP_REFUSED t :=
  ⟨s.swapRefused_clm cause, (State.swapRefused_kept (T := Touches 0x44c0000020100003002) (.refl s) cause fun _ h => h).frame .modeReqs (by decide),
   State.rd_wr_of_lt _ hc, Noted.wr (s.swapRefused_noted cause) code (by decide)⟩

theorem State.handover_spec (s : State) (origin : Nat) :
    (s.modes.role = .primary → s.swapBar = 0 → s.handover origin = (s.askRole .swapping 5 origin).wr CLM_CMD_STAT_RESULT 0) ∧
    (s.modes.role ≠ .primary ∨ s.swapBar ≠ 0 →
      (s.handover origin).modeReqs = s.modeReqs ∧ (s.handover origin).rd CLM_CMD_STAT_RESULT = (if s.modes.role ≠ .primary then 1 else s.swapBar) ∧
      (s.modes.role = .primary → Noted CLM_NOTE_SWAP_REFUSED (s.handover origin))) := by
  rw [State.handover]
  refine ⟨fun primary free => by rw [if_neg (not_not_intro primary), if_neg (not_not_intro free)], fun bar => ?_⟩
  by_cases primary : s.modes.role = .primary
  · have barred : s.swapBar ≠ 0 := bar.resolve_left (not_not_intro primary)
    rw [if_neg (not_not_intro primary), if_pos barred, if_neg (not_not_intro primary)]
    obtain ⟨-, reqs, result, noted⟩ := s.barred_spec (cause := barCause s.swapBar) s.swapBar_lt
    exact ⟨reqs, result, fun _ => noted⟩
  · rw [if_pos primary, if_pos primary]
    exact ⟨rfl, State.rd_wr_of_lt _ (by decide), fun is => absurd is primary⟩

theorem State.take_spec (s : State) :
    (s.modes.role = .standby → s.swapBar = 0 → s.take = (s.queueBidues 4 1).wr CLM_CMD_STAT_RESULT 0) ∧
    (s.modes.role ≠ .standby ∨ s.swapBar ≠ 0 →
      s.take.clm = s.clm ∧ s.take.rd CLM_CMD_STAT_RESULT = (if s.modes.role ≠ .standby then 1 else s.swapBar) ∧
      (s.modes.role = .standby → Noted CLM_NOTE_SWAP_REFUSED s.take)) := by
  rw [State.take]
  refine ⟨fun standby free => by rw [if_neg (not_not_intro standby), if_neg (not_not_intro free)], fun bar => ?_⟩
  by_cases standby : s.modes.role = .standby
  · have barred : s.swapBar ≠ 0 := bar.resolve_left (not_not_intro standby)
    rw [if_neg (not_not_intro standby), if_pos barred, if_neg (not_not_intro standby)]
    obtain ⟨clm, -, result, noted⟩ := s.barred_spec (cause := barCause s.swapBar) s.swapBar_lt
    exact ⟨clm, result, fun _ => noted⟩
  · rw [if_pos standby, if_pos standby]
    exact ⟨rfl, State.rd_wr_of_lt _ (by decide), fun is => absurd is standby⟩

theorem State.queueBidues_regs (s : State) (kind arg : Nat) :
    (s.queueBidues kind arg).regs = s.regs ∧ (s.queueBidues kind arg).modeReqs = s.modeReqs ∧ (s.queueBidues kind arg).modes = s.modes := by
  rw [State.queueBidues]
  split <;> exact ⟨rfl, rfl, rfl⟩

/-- The fields that an accepted command of CLM may change, beside its own. -/
theorem OnlyFields.command {s : State} {l : List Field} (port : Port) (a : Nat) {t : State} (note : NOTE_RAW 0x01 ∈ l) (pba : MSIX_PBA ∈ l)
    (h : OnlyFields l (s.hostWrote port false a) t) : OnlyFields l s t :=
  ((OnlyFields.refl l s).hostWrote port false a note pba).trans h

/-! ### EPOCH_RESET, QUERY and EN (R456, R474, R477) -/

theorem State.holdsClaim_iff (s : State) : s.holdsClaim = true ↔ s.rd CLM_CLAIM ≠ 0 := by simp [State.holdsClaim]

theorem State.epochReset_spec (s : State) :
    (s.modes.role = .solo → s.rd CLM_CLAIM = 0 → s.epochReset = (s.wr CLM_EPOCH 0).wr CLM_CMD_STAT_RESULT 0) ∧
    (s.modes.role ≠ .solo ∨ s.rd CLM_CLAIM ≠ 0 → s.epochReset = s.wr CLM_CMD_STAT_RESULT 1) := by
  refine ⟨fun solo zero => if_pos ⟨solo, by simpa [State.holdsClaim] using zero⟩, fun bar => if_neg ?_⟩
  rintro ⟨solo, idle⟩
  rcases bar with other | holds
  · exact other solo
  · rw [s.holdsClaim_iff.mpr holds] at idle
    cases idle

/-- A module that gives up its claim, with RESIGN where the link engine runs (R474). -/
theorem State.resign_spec {s : State} (holds : s.rd CLM_CLAIM ≠ 0) (arg : Nat) :
    let t := s.resign arg
    t.rd CLM_CLAIM = 0 ∧ t.rd SPR_CLAIM = 0 ∧ t.clm.own = 0 ∧ t.modes = s.modes ∧
    (s.linkRuns = true → ∃ f : Bidues, .bidues f (biduesOctets f) ∈ t.emitted ∧ f.kind = 7 ∧ f.arg = arg ∧ f.claim = 0) := by
  obtain ⟨claim, copy, own⟩ := s.setClaim_zero
  have rules := s.setClaim_rules 0
  have runs : (s.setClaim 0).linkRuns = s.linkRuns := by
    have kept := State.setClaim_kept (T := Touches 0x80000400004000000) (.refl s) 0 fun _ h => h
    have startup : (s.setClaim 0).startup = s.startup := kept.frame .startup (by decide)
    simp only [State.linkRuns, State.paired, State.rdB, State.live, rules.fields CLM_CTRL_EN rfl (by decide), rules.fields CLM_CTRL_PAIRED rfl (by decide),
      startup]
  have resigns : s.resign arg = if s.linkRuns then (s.setClaim 0).sendBidues 7 arg else s.setClaim 0 := by
    rw [State.resign, s.holdsClaim_iff.mpr holds, ← runs]
    rfl
  rw [resigns]
  cases s.linkRuns with
  | false => exact ⟨claim, copy, own, rules.modes, nofun⟩
  | true =>
    refine ⟨claim, copy, own, rules.modes, fun _ => ⟨_, List.mem_append_right _ List.mem_cons_self, rfl, rfl, claim⟩⟩

theorem State.clmEnable_holding {s : State} (holds : s.rd CLM_CLAIM ≠ 0) :
    let t := s.clmEnable false
    t.rd CLM_CTRL_EN = 0 ∧ t.rd CLM_CLAIM = 0 ∧ t.rd SPR_CLAIM = 0 ∧ t.clm.own = 0 ∧ (s.modes.role ≠ .solo → Asks (.role .standby) t) ∧
    (s.linkRuns = true → ∃ f : Bidues, .bidues f (biduesOctets f) ∈ t.emitted ∧ f.kind = 7 ∧ f.arg = 4 ∧ f.claim = 0) := by
  obtain ⟨claim, copy, own, modes, resigns⟩ := State.resign_spec holds 4
  have ends : s.clmEnable false = if s.modes.role ≠ .solo then ((s.resign 4).wr CLM_CTRL_EN 0).askRole .standby 9 else (s.resign 4).wr CLM_CTRL_EN 0 := by
    rw [State.clmEnable, s.holdsClaim_iff.mpr holds]
    dsimp only
    rw [if_neg (by decide), if_neg (by decide)]
    change (if (s.resign 4).modes.role ≠ .solo then _ else _) = _
    rw [modes]
  have off : ((s.resign 4).wr CLM_CTRL_EN 0).rd CLM_CTRL_EN = 0 := State.rd_wr_of_lt _ (by decide)
  have claimOff : ((s.resign 4).wr CLM_CTRL_EN 0).rd CLM_CLAIM = 0 := (State.rd_wr_ne _ _ (by decide)).trans claim
  have copyOff : ((s.resign 4).wr CLM_CTRL_EN 0).rd SPR_CLAIM = 0 := (State.rd_wr_ne _ _ (by decide)).trans copy
  rw [ends]
  by_cases solo : s.modes.role = .solo
  · rw [if_neg (not_not_intro solo)]
    exact ⟨off, claimOff, copyOff, own, fun other => absurd solo other, resigns⟩
  · rw [if_pos solo]
    refine ⟨(State.rd_request _ _ _).trans off, (State.rd_request _ _ _).trans claimOff, (State.rd_request _ _ _).trans copyOff,
      (congrArg ClmUnit.own (State.request_clm _ _)).trans own, fun _ => State.asks_request _ ⟨.role .standby, 9, 0⟩, fun runs => ?_⟩
    have sent : (((s.resign 4).wr CLM_CTRL_EN 0).askRole .standby 9).emitted = (s.resign 4).emitted := by
      rw [State.askRole, State.request]
      split <;> rfl
    rw [sent]
    exact resigns runs

theorem State.clmEnable_free {s : State} (free : s.rd CLM_CLAIM = 0) :
    (s.clmEnable false).rd CLM_CTRL_EN = 0 ∧ (s.clmEnable false).clm.swap = none ∧ OnlyFields [CLM_CTRL_EN, NOTE_RAW 0x01, MSIX_PBA] s (s.clmEnable false) := by
  have idle : s.holdsClaim = false := by simp [State.holdsClaim, free]
  have ends : s.clmEnable false = (s.wr CLM_CTRL_EN 0).abandonSwap := by
    have stays : s.resign 4 = s := if_pos (by simp [idle])
    rw [State.clmEnable, idle, stays]
    rfl
  have regs : (s.wr CLM_CTRL_EN 0).abandonSwap.regs = (s.wr CLM_CTRL_EN 0).regs := by
    rw [State.abandonSwap]
    split
    · rfl
    · exact State.request_regs _ _
  rw [ends]
  exact ⟨(State.rd_congr regs _).trans (State.rd_wr_of_lt _ (by decide)), State.abandonSwap_swap _, ((OnlyFields.refl _ s).wr 0 (by decide)).congr regs⟩

/-! ### Periodic swaps and reverts (R473) -/

/-- A swap whose hour has not passed is not skipped. -/
theorem State.swapSkip_now {s : State} {d : Int} (from_ : s.clm.swapFrom = some d) (now : s.swapAt d = (s.today, s.localHour)) (n : Nat) :
    s.swapSkip n = s := by
  cases n with
  | zero => rfl
  | succ n =>
    rw [State.swapSkip, from_]
    dsimp only
    rw [now]
    dsimp only
    split
    · rfl
    · rw [if_neg (by omega)]

theorem State.swapSkip_off {s : State} (off : s.rd CLM_SWAP_DAYS = 0) (n : Nat) : s.swapSkip n = s := by
  cases n with
  | zero => rfl
  | succ n =>
    rw [State.swapSkip]
    split
    · rfl
    · dsimp only
      rw [if_pos off]

theorem State.periodicSwap_due {s : State} {d : Int} (days : s.rd CLM_SWAP_DAYS ≠ 0) (from_ : s.clm.swapFrom = some d) (valid : s.calValid = true)
    (now : s.swapAt d = (s.today, s.localHour)) (primary : s.modes.role = .primary) (may : MayHandOver s) :
    s.periodicSwap = s.askRole .swapping 5 2 := by
  rw [State.periodicSwap]
  dsimp only
  rw [State.swapSkip_now from_ now, from_]
  dsimp only
  rw [now, valid, if_neg (by simp [days]), if_neg (not_not_intro primary), State.swapBar_zero may, if_neg (by decide)]

theorem State.periodicSwap_off {s : State} (off : s.rd CLM_SWAP_DAYS = 0) : s.periodicSwap = s := by
  rw [State.periodicSwap]
  dsimp only
  rw [State.swapSkip_off off]
  split
  · rfl
  · rw [if_pos (by simp [off])]

/-- A revert whose conditions have held for SETTLE. -/
theorem State.revert_settled {s : State} {f : Bidues} {at_ : Nat} (preferred : s.rd CLM_CTRL_PREFERRED = 1) (enabled : s.rd CLM_CTRL_REVERT_EN = 1)
    (standby : s.modes.role = .standby) (partner : s.clm.partner = some f) (role : f.role = 1) (other : f.preferred = false) (may : MayHandOver s)
    (settle : s.clm.settle = some at_) (passed : at_ + s.settleTime ≤ s.moduleTime) :
    s.revert = (s.withClm { s.clm with settle := some s.moduleTime }).queueBidues 4 1 := by
  have holds : s.mayRevert = true := by
    rw [State.mayRevert, partner, State.swapBar_zero may]
    simp [State.rdB, preferred, enabled, standby, role, other]
  have watched : s.revertWatch = s := by
    rw [State.revertWatch, holds, settle]
    rfl
  rw [State.revert, watched, State.revertAsk, settle]
  exact if_pos passed

/-! ### The quiet table (R476) -/

/-- The hour's word of the quiet table, and every other byte of every window. -/
theorem State.quietWord (s : State) {h : Nat} (v : Nat) (hh : h < 168) :
    (s.setN 0x1B (4 * h) 4 v).quiet h = v % 2 ^ 32 ∧
    ∀ q a, (q ≠ 0x1B ∨ a < 4 * h ∨ 4 * h + 4 ≤ a) → q < 64 → a < 2 ^ 24 → (s.setN 0x1B (4 * h) 4 v).w8 q a = s.w8 q a := by
  refine ⟨State.wN_setN_same s 0x1B (4 * h) 4 v, fun q a out hq ha => ?_⟩
  rw [State.setN]
  exact State.w8_setBytes_outside ha (by simp; omega) (by simp; omega)

/-- The hour that ends, in hours since the start of its week. -/
def State.endedHour (s : State) : Nat := (((s.cal.secs : Int) + s.schOffsetNow - 3600 + 5 * 86400) / 3600 % 168).toNat

theorem State.endedHour_lt (s : State) : s.endedHour < 168 := by
  rw [State.endedHour]
  omega

/-- The dispatches so far. -/
def State.dispatchTotal (s : State) : Nat := (s.rd DPT_CHANGES + s.rd DPT_WIRED) % 2 ^ 32

/-- The state with the word of the hour that ends. -/
def State.hourWritten (s : State) : State := s.setN 0x1B (4 * s.endedHour) 4 ((s.dispatchTotal + 2 ^ 32 - s.clm.mark) % 2 ^ 32)

theorem State.withClm_regs (s : State) (u : ClmUnit) : (s.withClm u).regs = s.regs := rfl

theorem State.withClm_w8 (s : State) (u : ClmUnit) (q a : Nat) : (s.withClm u).w8 q a = s.w8 q a := rfl

theorem State.withClm_quiet (s : State) (u : ClmUnit) (h : Nat) : (s.withClm u).quiet h = s.quiet h := rfl

theorem State.quietHour_of (s : State) :
    s.quietHour = s.hourWritten.withClm { s.hourWritten.clm with mark := s.dispatchTotal, hours := s.hourWritten.clm.hours + 1 } := by
  rw [State.quietHour, State.hourWritten, State.endedHour, State.dispatchTotal]

theorem State.hourWritten_parts (s : State) : s.hourWritten.clm = s.clm ∧ s.hourWritten.regs = s.regs := by
  rw [State.hourWritten, State.setN]
  exact ⟨State.setBytes_clm _ _ _ _, State.setBytes_regs _ _ _ _⟩

theorem State.quietHour_spec (s : State) :
    s.quietHour.clm.mark = s.dispatchTotal ∧ s.quietHour.clm.hours = s.clm.hours + 1 ∧ s.quietHour.regs = s.regs ∧
    s.quietHour.quiet s.endedHour = (s.dispatchTotal + 2 ^ 32 - s.clm.mark) % 2 ^ 32 ∧
    ∀ q a, (q ≠ 0x1B ∨ a < 4 * s.endedHour ∨ 4 * s.endedHour + 4 ≤ a) → q < 64 → a < 2 ^ 24 → s.quietHour.w8 q a = s.w8 q a := by
  have written := s.quietWord ((s.dispatchTotal + 2 ^ 32 - s.clm.mark) % 2 ^ 32) s.endedHour_lt
  rw [Nat.mod_mod, ← State.hourWritten] at written
  obtain ⟨clm, regs⟩ := s.hourWritten_parts
  rw [s.quietHour_of, clm, State.withClm_clm, State.withClm_regs, State.withClm_quiet]
  exact ⟨rfl, rfl, regs, written.1, fun q a out hq ha => (State.withClm_w8 _ _ q a).trans (written.2 q a out hq ha)⟩

/-! ### The obligation -/

/-- A condition that bars a handover before the command bars it at its effect. -/
theorem State.bar_hostWrote {s : State} {r : Role} (port : Port) (a : Nat) (h : s.modes.role ≠ r ∨ s.swapBar ≠ 0) :
    (s.hostWrote port false a).modes.role ≠ r ∨ (s.hostWrote port false a).swapBar ≠ 0 := by
  rwa [State.hostWrote_modes, State.swapBar_hostWrote]

theorem State.claim_hostWrote (s : State) (port : Port) (a : Nat) : (s.hostWrote port false a).rd CLM_CLAIM = s.rd CLM_CLAIM :=
  State.rd_hostWrote_ne s port false a (by decide) (by decide)

theorem State.linkRuns_hostWrote (s : State) (port : Port) (a : Nat) : (s.hostWrote port false a).linkRuns = s.linkRuns := by
  simp only [State.linkRuns, State.paired, State.rdB, State.live_hostWrote, State.hostWrote_startup,
    State.rd_hostWrote_ne s port false a (f := CLM_CTRL_EN) (by decide) (by decide),
    State.rd_hostWrote_ne s port false a (f := CLM_CTRL_PAIRED) (by decide) (by decide)]

/-- Settles O23: the commands of the pairing, by the conditions that bar them, and what falls due by itself. -/
theorem pairingCommands : Obligations.PairingCommands := by
  refine ⟨fun s port work primary may => ?_, fun s port work bar => ?_, fun s port work standby may => ?_, fun s port work bar => ?_,
    fun s port work solo zero => ?_, fun s port work bar => ?_, fun s port work up => ?_, fun s port work down => ?_, fun s port work => ?_,
    fun s port work holds => ?_, fun s port work free => ?_, fun s d live days from_ valid now primary may => ?_, fun s live off => ?_,
    fun s f at_ live preferred enabled standby partner role other may settle passed => ?_, fun s live => ?_⟩
  · refine Completes.effect rfl work ?_
    have runs := (State.handover_spec (s.hostWrote port false CLM_CMD_OP.addr) 1).1 (by rw [State.hostWrote_modes]; exact primary)
      (by rw [State.swapBar_hostWrote]; exact State.swapBar_zero may)
    rw [runs]
    refine ⟨State.rd_wr_of_lt _ (by decide), State.asks_request _ ⟨.role .swapping, 5, 1⟩, (State.request_clm _ _).trans (State.hostWrote_clm _ _ _ _), ?_⟩
    exact OnlyFields.command port _ (by decide) (by decide) (((OnlyFields.refl _ _).congr (State.request_regs _ _)).wr 0 (by decide))
  · refine Completes.effect rfl work ?_
    obtain ⟨reqs, result, noted⟩ := (State.handover_spec (s.hostWrote port false CLM_CMD_OP.addr) 1).2 (s.bar_hostWrote port _ bar)
    rw [State.hostWrote_modes, State.swapBar_hostWrote] at result
    rw [State.hostWrote_modes] at noted
    exact ⟨reqs.trans (State.hostWrote_modeReqs _ _ _ _), result, noted⟩
  · refine Completes.effect rfl work ?_
    have runs := (State.take_spec (s.hostWrote port false CLM_CMD_OP.addr)).1 (by rw [State.hostWrote_modes]; exact standby)
      (by rw [State.swapBar_hostWrote]; exact State.swapBar_zero may)
    obtain ⟨regs, reqs, -⟩ := (s.hostWrote port false CLM_CMD_OP.addr).queueBidues_regs 4 1
    rw [runs]
    refine ⟨State.rd_wr_of_lt _ (by decide), State.queueBidues_mem _ 4 1, reqs.trans (State.hostWrote_modeReqs _ _ _ _), ?_⟩
    exact OnlyFields.command port _ (by decide) (by decide) (((OnlyFields.refl _ _).congr regs).wr 0 (by decide))
  · refine Completes.effect rfl work ?_
    obtain ⟨clm, result, noted⟩ := (State.take_spec (s.hostWrote port false CLM_CMD_OP.addr)).2 (s.bar_hostWrote port _ bar)
    rw [State.hostWrote_modes, State.swapBar_hostWrote] at result
    rw [State.hostWrote_modes] at noted
    exact ⟨clm.trans (State.hostWrote_clm _ _ _ _), result, noted⟩
  · refine Completes.effect rfl work ?_
    have runs := (State.epochReset_spec (s.hostWrote port false CLM_CMD_OP.addr)).1 (by rw [State.hostWrote_modes]; exact solo)
      ((s.claim_hostWrote port _).trans zero)
    rw [runs]
    refine ⟨(State.rd_wr_ne _ _ (by decide)).trans (State.rd_wr_of_lt _ (by decide)), State.rd_wr_of_lt _ (by decide), ?_⟩
    exact OnlyFields.command port _ (by decide) (by decide) (((OnlyFields.refl _ _).wr 0 (by decide)).wr 0 (by decide))
  · refine Completes.effect rfl work ?_
    have runs := (State.epochReset_spec (s.hostWrote port false CLM_CMD_OP.addr)).2 (by rwa [State.hostWrote_modes, State.claim_hostWrote])
    rw [runs]
    exact ⟨(State.rd_wr_ne _ _ (by decide)).trans (State.rd_hostWrote_ne _ _ _ _ (by decide) (by decide)), State.rd_wr_of_lt _ (by decide)⟩
  · refine Completes.effect rfl work ?_
    have linked : (s.hostWrote port false CLM_CMD_OP.addr).rd CLM_STATUS_LINK_UP = 1 :=
      (State.rd_hostWrote_ne _ _ _ _ (by decide) (by decide)).trans up
    have runs : (s.hostWrote port false CLM_CMD_OP.addr).hostQuery = ((s.hostWrote port false CLM_CMD_OP.addr).queueBidues 2 1).wr CLM_CMD_STAT_RESULT 0 :=
      if_neg (by simp [State.rdB, linked])
    obtain ⟨regs, -, -⟩ := (s.hostWrote port false CLM_CMD_OP.addr).queueBidues_regs 2 1
    rw [runs]
    refine ⟨State.rd_wr_of_lt _ (by decide), State.queueBidues_mem _ 2 1, ?_⟩
    exact OnlyFields.command port _ (by decide) (by decide) (((OnlyFields.refl _ _).congr regs).wr 0 (by decide))
  · refine Completes.effect rfl work ?_
    have broken : (s.hostWrote port false CLM_CMD_OP.addr).rd CLM_STATUS_LINK_UP = 0 :=
      (State.rd_hostWrote_ne _ _ _ _ (by decide) (by decide)).trans down
    have runs : (s.hostWrote port false CLM_CMD_OP.addr).hostQuery = (s.hostWrote port false CLM_CMD_OP.addr).wr CLM_CMD_STAT_RESULT 2 :=
      if_pos (by simp [State.rdB, broken])
    rw [runs]
    exact ⟨State.rd_wr_of_lt _ (by decide), State.hostWrote_clm _ _ _ _⟩
  · refine Completes.effect rfl work ?_
    refine ⟨State.rd_wr_of_lt _ (by decide), State.hostWrote_clm _ _ _ _, State.hostWrote_modeReqs _ _ _ _, ?_⟩
    exact OnlyFields.command port _ (by decide) (by decide) ((OnlyFields.refl _ _).wr 1 (by decide))
  · refine Completes.effect rfl work ?_
    obtain ⟨en, claim, copy, own, asks, resigns⟩ := State.clmEnable_holding (s := s.hostWrote port false CLM_CTRL_EN.addr)
      (by rwa [State.claim_hostWrote])
    rw [State.hostWrote_modes] at asks
    rw [State.linkRuns_hostWrote] at resigns
    exact ⟨en, claim, copy, own, asks, resigns⟩
  · refine Completes.effect rfl work ?_
    obtain ⟨en, swap, fields⟩ := State.clmEnable_free (s := s.hostWrote port false CLM_CTRL_EN.addr) ((s.claim_hostWrote port _).trans free)
    exact ⟨en, swap, OnlyFields.command port _ (by decide) (by decide) fields⟩
  · refine State.whenLive_completes rfl live ?_
    rw [State.periodicSwap_due days from_ valid now primary may]
    exact ⟨State.asks_request _ ⟨.role .swapping, 5, 2⟩, State.request_clm _ _, State.request_regs _ _, (PairRules.ask _).modes⟩
  · exact State.whenLive_completes rfl live (State.periodicSwap_off off)
  · refine State.whenLive_completes rfl live ?_
    rw [State.revert_settled preferred enabled standby partner role other may settle passed]
    obtain ⟨regs, -, modes⟩ := (s.withClm { s.clm with settle := some s.moduleTime }).queueBidues_regs 4 1
    refine ⟨State.queueBidues_mem _ 4 1, ?_, regs, modes⟩
    rw [State.queueBidues]
    split <;> rfl
  · refine State.whenLive_completes rfl live ?_
    exact s.quietHour_spec

end Sys2Proof.Machine
end

section
/-! SUPPORT. The rings of the host DMA port (O50). -/

namespace Sys2Proof.Machine

/-! ### The class queues of the switch -/

theorem State.swQueue_congr {s t : State} (h : t.swf.queues = s.swf.queues) (k c : Nat) : t.swQueue k c = s.swQueue k c := by
  rw [State.swQueue, State.swQueue, h]

theorem State.swQueue_setSwQueue_same (s : State) {k c : Nat} (q : List SwFrame) (h : 8 * k + c < 56) : (s.setSwQueue k c q).swQueue k c = q := by
  rw [State.swQueue, State.setSwQueue, getD_putAt _ _ _ _ _ h, if_pos rfl]

theorem State.swQueue_setSwQueue_ne (s : State) {k c i j : Nat} (q : List SwFrame) (h : 8 * i + j < 56) (ne : 8 * i + j ≠ 8 * k + c) :
    (s.setSwQueue k c q).swQueue i j = s.swQueue i j := by
  rw [State.swQueue, State.setSwQueue, getD_putAt _ _ _ _ _ h, if_neg ne, State.swQueue]

/-- The frame that leaves the host's queue. -/
theorem State.swQueue_hostDequeue (s : State) {r : Nat} (hr : r < 8) (rest : List SwFrame) : (s.hostDequeue r rest).swQueue 6 r = rest := by
  rw [State.hostDequeue, State.swQueue_congr (State.pauseFalls_queues _), State.swQueue_setSwQueue_same _ _ (by omega)]

/-- The pauses that a frame's leaving ends touch the pages of the external ports alone. -/
theorem State.hostDequeue_kept_swf (s : State) (r : Nat) (rest : List SwFrame) : Kept (Touches 0x7e00000001000002) s (s.hostDequeue r rest) :=
  State.hostDequeue_kept (T := Touches 0x7e00000001000002) (.refl s) r rest fun _ h => h

/-! ### Completions (R393, R395, R397) -/

theorem State.moderate_of (s : State) (tx : Bool) (r : Nat) : ∃ (u : HdmUnit) (b : Bool),
    s.moderate tx r = State.noticeIf { s with hdm := u } b (if tx then HDM_NOTE_TX r else HDM_NOTE_RX r) := ⟨_, _, rfl⟩

theorem notePage (tx : Bool) (r : Nat) : (if tx then HDM_NOTE_TX r else HDM_NOTE_RX r).page = 0x17 := by
  cases tx <;> rfl

/-- Moderation sets no field but the notices of HDM. -/
theorem State.rd_moderate (s : State) (tx : Bool) (r : Nat) {f : Field} (note : f.key ≠ (NOTE_RAW 0x17).key) (pba : f.key ≠ MSIX_PBA.key) :
    (s.moderate tx r).rd f = s.rd f := by
  obtain ⟨u, b, is⟩ := s.moderate_of tx r
  rw [is, State.rd_noticeIf_ne _ _ _ (by rwa [notePage]) pba]
  rfl

theorem State.moderate_kept_hdm (s : State) (tx : Bool) (r : Nat) : Kept (Touches 0x8000020002000002) s (s.moderate tx r) :=
  State.moderate_kept (T := Touches 0x8000020002000002) (.refl s) tx r fun _ h => h

theorem State.emit_foldl {α : Type} (e : α → Emission) (l : List α) (s : State) :
    l.foldl (fun s i => s.emit (e i)) s = { s with emitted := s.emitted ++ l.map e } := by
  induction l generalizing s with
  | nil => rw [List.map_nil, List.append_nil]; rfl
  | cons x l ih =>
    rw [List.foldl_cons, ih, List.map_cons, ← List.singleton_append, ← List.append_assoc]
    rfl

/-- The completions of n descriptors from HEAD on. -/
def State.txDones (s : State) (r n err : Nat) : List Emission :=
  (List.range n).map fun i => .txDone r ((s.rd (HDM_TX_HEAD r) + i) % 2 ^ ringSize (s.rd (HDM_TX_SIZE r))) err

/-- HEAD behind n descriptors. -/
def State.txHead (s : State) (r n : Nat) : Nat := (s.rd (HDM_TX_HEAD r) + n) % 2 ^ ringSize (s.rd (HDM_TX_SIZE r))

/-- The descriptors complete, before moderation. -/
def State.txDoneState (s : State) (r n err : Nat) : State :=
  { s with emitted := s.emitted ++ s.txDones r n err }.wr (HDM_TX_HEAD r) (s.txHead r n)

theorem State.txComplete_of (s : State) (r n err : Nat) : s.txComplete r n err = (s.txDoneState r n err).moderate true r := by
  have emits : (List.range n).foldl (fun t i => t.emit (.txDone r ((t.rd (HDM_TX_HEAD r) + i) % 2 ^ ringSize (s.rd (HDM_TX_SIZE r))) err)) s =
      { s with emitted := s.emitted ++ s.txDones r n err } := by
    rw [State.txDones, ← State.emit_foldl]
    have same (t : State) (l : List Nat) (h : t.rd (HDM_TX_HEAD r) = s.rd (HDM_TX_HEAD r)) :
        l.foldl (fun t i => t.emit (.txDone r ((t.rd (HDM_TX_HEAD r) + i) % 2 ^ ringSize (s.rd (HDM_TX_SIZE r))) err)) t =
        l.foldl (fun t i => t.emit (.txDone r ((s.rd (HDM_TX_HEAD r) + i) % 2 ^ ringSize (s.rd (HDM_TX_SIZE r))) err)) t := by
      induction l generalizing t with
      | nil => rfl
      | cons x l ih => 
        rw [List.foldl_cons, List.foldl_cons, h]
        exact ih _ h
    exact same s _ rfl
  rw [State.txComplete]
  rw [emits]
  rfl

theorem ringSize_le (n : Nat) : ringSize n ≤ 12 := by
  rw [ringSize]
  split_ifs with h
  · exact h.2
  · decide

theorem ringHead_lt (n m : Nat) : n % 2 ^ ringSize m < 2 ^ 12 :=
  lt_of_lt_of_le (Nat.mod_lt _ (Nat.two_pow_pos _)) (Nat.pow_le_pow_right (by decide) (ringSize_le m))

/-- What completed descriptors leave. -/
theorem State.txComplete_spec (s : State) (r n err : Nat) :
    let t := s.txComplete r n err
    t.rd (HDM_TX_HEAD r) = s.txHead r n ∧ t.swf = s.swf ∧ (∃ l, t.emitted = s.emitted ++ s.txDones r n err ++ l) ∧
    ∀ f : Field, f.key ≠ (HDM_TX_HEAD r).key → f.key ≠ (NOTE_RAW 0x17).key → f.key ≠ MSIX_PBA.key → t.rd f = s.rd f := by
  have kept := (s.txDoneState r n err).moderate_kept_hdm true r
  have keyNote : (HDM_TX_HEAD r).key ≠ (NOTE_RAW 0x17).key := by simp only [Field.key]; omega
  have keyPba : (HDM_TX_HEAD r).key ≠ MSIX_PBA.key := by simp only [Field.key]; omega
  rw [State.txComplete_of]
  refine ⟨?_, kept.frame .swf (by decide), ?_, fun f head note pba => ?_⟩
  · rw [State.rd_moderate _ _ _ keyNote keyPba]
    exact State.rd_wr_of_lt _ (ringHead_lt _ _)
  · obtain ⟨l, is⟩ := kept.emitted
    exact ⟨l, is.symm⟩
  · rw [State.rd_moderate _ _ _ note pba]
    exact State.rd_wr_ne _ _ head

/-! ### A frame of the host (R393, R394) -/

/-- Learning changes the address table alone of the switch. -/
theorem State.learn_swf (s : State) (mac vid k : Nat) : ∃ l, (s.learn mac vid k).swf = { s.swf with fdb := l } := by
  rw [State.learn]
  split
  · exact ⟨s.swf.fdb, rfl⟩
  · split
    · exact ⟨_, rfl⟩
    · split
      · exact ⟨_, rfl⟩
      · exact ⟨s.swf.fdb, State.notice_swf _ _⟩

theorem State.pauseRise_queues (s : State) (k : Nat) : (s.pauseRise k).swf.queues = s.swf.queues := by
  rw [State.pauseRise]
  split
  · rw [State.sendPause]
    split <;> rfl
  · rfl

theorem State.noticeIf_swf (s : State) (b : Bool) (n : Notice) : (s.noticeIf b n).swf = s.swf := by
  cases b with
  | false => rfl
  | true => exact State.notice_swf s n

/-- A frame for one external port whose queue has room joins it. -/
theorem State.swEnqueue_one (s : State) (f : SwFrame) {p : Nat} (hp : p < 6) (hc : f.cls < 8) (room : cellSum (s.swQueue p f.cls) < s.rd (ETP_QLIM_CELLS p)) :
    (s.swEnqueue f [p]).swQueue p f.cls = s.swQueue p f.cls ++ [{ f with id := s.swf.nextId + 1 }] := by
  have stored : (State.setSwQueue { s with swf := { s.swf with nextId := s.swf.nextId + 1 } } p f.cls
      (s.swQueue p f.cls ++ [{ f with id := s.swf.nextId + 1 }])).swQueue p f.cls = s.swQueue p f.cls ++ [{ f with id := s.swf.nextId + 1 }] :=
    State.swQueue_setSwQueue_same _ _ (by omega)
  have full : ¬((p < 6 && s.rd (ETP_QLIM_CELLS p) ≤ cellSum (s.swQueue p f.cls)) = true) := by simp [room]
  have joins : s.swEnqueue f [p] = ((State.setSwQueue { s with swf := { s.swf with nextId := s.swf.nextId + 1 } } p f.cls
      (s.swQueue p f.cls ++ [{ f with id := s.swf.nextId + 1 }])).bufLow s.cellsFree).pauseRise f.src := by
    rw [State.swEnqueue]
    exact congrArg (fun t => (State.bufLow t s.cellsFree).pauseRise f.src) (if_neg full)
  rw [joins, State.swQueue_congr (State.pauseRise_queues _ _), State.bufLow, State.swQueue_congr (congrArg SwfUnit.queues (State.noticeIf_swf _ _ _)), stored]

/-- The frame that a host frame's descriptors give (R393). -/
def State.hostSwFrame (s : State) (r : Nat) (d : TxDesc) (l : List TxDesc) (data : List Nat) : SwFrame :=
  ⟨0, hostFrame d (data.take (l.map TxDesc.len).sum), 6, r, s.vidOf (hostFrame d (data.take (l.map TxDesc.len).sum)) 6, 0, d.direct, d.direct,
    if d.tsReq then some d.tsId else none⟩

def State.hostSwPorts (s : State) (d : TxDesc) (l : List TxDesc) (data : List Nat) : List Nat :=
  s.hostPorts d (hostFrame d (data.take (l.map TxDesc.len).sum)) (s.vidOf (hostFrame d (data.take (l.map TxDesc.len).sum)) 6)

/-- The ports that a DIRECT frame names and cannot leave by count it. -/
def State.directDrops (s : State) (d : TxDesc) (ports : List Nat) (tsId : Option Nat) : State :=
  ((List.range 6).filter fun k => bitAt d.ports k && !ports.contains k).foldl (fun s k => (s.count (ETP_FLUSH_DROP k) 1).giveUp k tsId) s

/-- A host frame is counted and learned, and ready to be stored. -/
def State.hostFrameTaken (s : State) (d : TxDesc) (ports : List Nat) (f : SwFrame) : State :=
  let s := if d.direct then s.directDrops d ports f.tsId else s
  if f.vid = 4095 then s else s.learn f.frame.src f.vid 6

/-- The fate of the next frame of a ring that is on. -/
theorem State.hdmTx_of {s : State} {r n : Nat} {d : TxDesc} {ds : List TxDesc} {err missing : Bool} (data : List Nat) (on : s.txOn r = true)
    (moves : s.hdmMoves = true) (runs : s.rd SWF_CTRL_EN = 1)
    (span : frameSpan ((d :: ds).take (ringAvail (ringSize (s.rd (HDM_TX_SIZE r))) (s.rd (HDM_TX_HEAD r)) (s.rd (HDM_TX_TAIL r)))) = some (n, missing)) :
    s.hdmTx r (d :: ds) data err =
      if frameErr ((d :: ds).take n) missing err != 0 then
        ((s.txComplete r n (frameErr ((d :: ds).take n) missing err)).count HDM_DESC_ERR 1).notice HDM_NOTE_DESC_ERR
      else if !s.hostRoom (s.hostSwFrame r d ((d :: ds).take n) data) (s.hostSwPorts d ((d :: ds).take n) data) then s
      else
        let f := s.hostSwFrame r d ((d :: ds).take n) data
        let ports := s.hostSwPorts d ((d :: ds).take n) data
        let s := (s.txComplete r n 0).hostFrameTaken d ports f
        if ports.isEmpty then s else s.swEnqueue f ports := by
  rw [State.hdmTx, on, moves]
  dsimp only
  rw [span]
  exact if_neg (by simp [State.rdB, runs])

/-- The ports of a DIRECT frame are external ones. -/
theorem State.hostPorts_lt {s : State} {d : TxDesc} {f : EthFrame} {vid p : Nat} (direct : d.direct = true) (h : s.hostPorts d f vid = [p]) : p < 6 := by
  have mem : p ∈ s.hostPorts d f vid := by rw [h]; exact List.mem_singleton_self p
  rw [State.hostPorts, if_pos direct] at mem
  exact List.mem_range.1 (List.mem_filter.1 mem).1

/-- Descriptors in error (R393). -/
theorem State.descErr_spec (s : State) (r n e : Nat) :
    let t := ((s.txComplete r n e).count HDM_DESC_ERR 1).notice HDM_NOTE_DESC_ERR
    t.swf = s.swf ∧ t.rd HDM_DESC_ERR = (s.rd HDM_DESC_ERR + 1) % 2 ^ 32 ∧ t.rd (HDM_TX_HEAD r) = s.txHead r n ∧
    Noted HDM_NOTE_DESC_ERR t ∧ ∃ l, t.emitted = s.emitted ++ s.txDones r n e ++ l := by
  obtain ⟨head, swf, ⟨l, emitted⟩, fields⟩ := s.txComplete_spec r n e
  have notes : Kept (Touches 0x8000020000000002) _ (((s.txComplete r n e).count HDM_DESC_ERR 1).notice HDM_NOTE_DESC_ERR) :=
    State.notice_kept (.refl _) HDM_NOTE_DESC_ERR (Sub.trans (fun _ => id) rfl) (by decide)
  obtain ⟨m, more⟩ := notes.emitted
  refine ⟨(State.notice_swf _ _).trans swf, ?_, ?_, State.noted_notice _ HDM_NOTE_DESC_ERR (by decide), l ++ m, ?_⟩
  · rw [State.rd_notice_ne _ _ (by decide) (by decide), State.rd_count_self,
      fields _ (by simp only [Field.key]; omega) (by decide) (by decide)]
  · rw [State.rd_notice_ne _ _ (by simp only [Field.key]; omega) (by simp only [Field.key]; omega),
      State.rd_count_ne _ _ (by simp only [Field.key]; omega), head]
  · rw [← more, ← List.append_assoc]
    exact congrArg (· ++ m) emitted

/-- What a host frame leaves alone until it is stored: the class queues, the counts of HDM and the ports' limits. -/
structure HostFrameKeeps (s t : State) : Prop where
  queues : t.swf.queues = s.swf.queues
  nextId : t.swf.nextId = s.swf.nextId
  hdm : ∀ f : Field, f.page = 0x17 → t.rd f = s.rd f
  limit : ∀ p < 6, t.rd (ETP_QLIM_CELLS p) = s.rd (ETP_QLIM_CELLS p)

theorem HostFrameKeeps.refl (s : State) : HostFrameKeeps s s := ⟨rfl, rfl, fun _ _ => rfl, fun _ _ => rfl⟩

theorem HostFrameKeeps.trans {s t u : State} (h : HostFrameKeeps s t) (k : HostFrameKeeps t u) : HostFrameKeeps s u :=
  ⟨k.queues.trans h.queues, k.nextId.trans h.nextId, fun f p => (k.hdm f p).trans (h.hdm f p), fun p hp => (k.limit p hp).trans (h.limit p hp)⟩

theorem State.flushCount_keeps (s : State) (k : Nat) : HostFrameKeeps s (s.count (ETP_FLUSH_DROP k) 1) := by
  refine ⟨rfl, rfl, fun f page => State.rd_count_ne s _ ?_, fun p _ => State.rd_count_ne s _ ?_⟩
  · rw [Field.page] at page
    intro same
    rw [same] at page
    simp only [Field.key] at page
    omega
  · simp only [Field.key]
    omega

theorem State.giveUp_keeps (s : State) (k : Nat) (stamp : Option Nat) : HostFrameKeeps s (s.giveUp k stamp) := by
  have kept := State.giveUp_kept (T := Touches 0x430000120100004c12) (.refl s) k stamp fun _ h => h
  have swf : (s.giveUp k stamp).swf = s.swf := kept.frame .swf (by decide)
  refine ⟨by rw [swf], by rw [swf], fun f page => kept.rd_eq f (by rw [Field.slot, page]; decide), fun p hp => kept.rd_eq _ ?_⟩
  interval_cases p <;> decide

theorem State.directDrops_keeps (s : State) (d : TxDesc) (ports : List Nat) (stamp : Option Nat) : HostFrameKeeps s (s.directDrops d ports stamp) :=
  List.foldlRecOn (motive := HostFrameKeeps s) _ _ (.refl s) fun t h k _ => (h.trans (t.flushCount_keeps k)).trans (State.giveUp_keeps _ k stamp)

theorem State.learn_keeps (s : State) (mac vid k : Nat) : HostFrameKeeps s (s.learn mac vid k) := by
  have kept := State.learn_kept (T := Touches 0x100020001000002) (.refl s) mac vid k fun _ h => h
  obtain ⟨l, swf⟩ := s.learn_swf mac vid k
  refine ⟨by rw [swf], by rw [swf], fun f page => kept.rd_eq f (by rw [Field.slot, page]; decide), fun p hp => kept.rd_eq _ ?_⟩
  interval_cases p <;> decide

theorem State.hostFrameTaken_keeps (s : State) (d : TxDesc) (ports : List Nat) (f : SwFrame) : HostFrameKeeps s (s.hostFrameTaken d ports f) := by
  rw [State.hostFrameTaken]
  have drops : HostFrameKeeps s (if d.direct then s.directDrops d ports f.tsId else s) := by
    split
    · exact s.directDrops_keeps d ports f.tsId
    · exact .refl s
  split
  · exact drops
  · exact drops.trans (State.learn_keeps _ _ _ _)

theorem HDM_TX_HEAD_page (r : Nat) : (HDM_TX_HEAD r).page = 0x17 := by rw [Field.page, Field.key]; dsimp only; omega

theorem HDM_RX_HEAD_page (r : Nat) : (HDM_RX_HEAD r).page = 0x17 := by rw [Field.page, Field.key]; dsimp only; omega

/-- A good DIRECT frame for one port (R394). -/
theorem State.hdmTx_direct (s : State) (r n : Nat) (d : TxDesc) {f : SwFrame} {p : Nat} (hp : p < 6) (hc : f.cls < 8) (room : s.hostRoom f [p] = true) :
    let t := ((s.txComplete r n 0).hostFrameTaken d [p] f).swEnqueue f [p]
    t.rd (HDM_TX_HEAD r) = s.txHead r n ∧ t.swQueue p f.cls = s.swQueue p f.cls ++ [{ f with id := s.swf.nextId + 1 }] ∧
    t.rd HDM_DESC_ERR = s.rd HDM_DESC_ERR := by
  obtain ⟨head, swf, -, fields⟩ := s.txComplete_spec r n 0
  have ready := (s.txComplete r n 0).hostFrameTaken_keeps d [p] f
  have stores := State.swEnqueue_kept (T := Touches 0x7f00020001000002) (.refl ((s.txComplete r n 0).hostFrameTaken d [p] f)) f [p] fun _ h => h
  have hdm (g : Field) (page : g.page = 0x17) : (((s.txComplete r n 0).hostFrameTaken d [p] f).swEnqueue f [p]).rd g = (s.txComplete r n 0).rd g :=
    (stores.rd_eq g (by rw [Field.slot, page]; decide)).trans (ready.hdm g page)
  have less : cellSum (s.swQueue p f.cls) < s.rd (ETP_QLIM_CELLS p) := by simpa [State.hostRoom] using (Bool.and_eq_true_iff.1 room).2
  have queue : ((s.txComplete r n 0).hostFrameTaken d [p] f).swQueue p f.cls = s.swQueue p f.cls :=
    State.swQueue_congr (ready.queues.trans (congrArg SwfUnit.queues swf)) p f.cls
  have limit : ((s.txComplete r n 0).hostFrameTaken d [p] f).rd (ETP_QLIM_CELLS p) = s.rd (ETP_QLIM_CELLS p) :=
    (ready.limit p hp).trans (fields _ (by simp only [Field.key]; omega) (by simp only [Field.key]; omega) (by simp only [Field.key]; omega))
  refine ⟨(hdm _ (HDM_TX_HEAD_page r)).trans head, ?_,
    (hdm _ rfl).trans (fields _ (by simp only [Field.key]; omega) (by decide) (by decide))⟩
  rw [State.swEnqueue_one _ f hp hc (by rw [queue, limit]; exact less), queue, ready.nextId, swf]

/-! ### A frame for the host (R395) -/

/-- The octets that a completed receive descriptor holds. -/
def Emission.rxOctets : Emission → List Nat
  | .rxDone _ _ d _ _ _ _ _ _ _ => d
  | _ => []

/-- A descriptor that takes the next octets of a frame. -/
def rxEntry (r size i : Nat) (first : Bool) (f : SwFrame) (data : List Nat) (b : Nat) : Emission :=
  .rxDone r (i % 2 ^ size) (data.take b) first (data.length ≤ b) f.src (f.frame.tag.getD 0) f.frame.tag.isSome f.frame.checks
    (if f.frame.ptpEvent then codeOf 64 f.rx else 0)

/-- Descriptors filled in order hold the octets in order. -/
theorem State.rxFill_spec (s : State) (r size i : Nat) (first : Bool) (f : SwFrame) (data bufs : List Nat) :
    ∃ l : List Emission, s.rxFill r size i first f data bufs = { s with emitted := s.emitted ++ l } ∧ l.length = bufs.length ∧
      l.flatMap Emission.rxOctets = data.take bufs.sum := by
  induction bufs generalizing s i first data with
  | nil => exact ⟨[], by rw [State.rxFill, List.append_nil], rfl, by simp⟩
  | cons b t ih =>
    rw [State.rxFill]
    obtain ⟨l, fills, length, octets⟩ := ih (s.emit (rxEntry r size i first f data b)) (i + 1) false (data.drop b)
    refine ⟨rxEntry r size i first f data b :: l, fills.trans ?_, congrArg (· + 1) length, ?_⟩
    · rw [State.emit]
      dsimp only
      rw [List.append_assoc, List.singleton_append]
    · rw [List.flatMap_cons, octets, List.sum_cons, List.take_add]
      rfl

/-- The buffers that are enough hold every octet. -/
theorem buffersFor_spec {m n : Nat} {bufs : List Nat} (h : buffersFor m bufs = some n) : n ≤ bufs.length ∧ m ≤ (bufs.take n).sum := by
  induction bufs generalizing m n with
  | nil => cases h
  | cons b t ih =>
    rw [buffersFor] at h
    split at h
    next fits =>
      cases h
      exact ⟨Nat.succ_le_succ (Nat.zero_le _), by simpa using fits⟩
    next =>
      obtain ⟨k, found, rfl⟩ := Option.map_eq_some_iff.1 h
      obtain ⟨le, holds⟩ := ih found
      refine ⟨Nat.succ_le_succ le, ?_⟩
      rw [List.take_succ_cons, List.sum_cons]
      omega

/-- A frame that has filled its buffers, before moderation. -/
def State.rxFilled (s : State) (r n : Nat) (f : SwFrame) (bufs : List Nat) : State :=
  let t := s.rxFill r (ringSize (s.rd (HDM_RX_SIZE r))) (s.rd (HDM_RX_HEAD r)) true f (s.egressForm f 6).octets (bufs.take n)
  let t := t.wr (HDM_RX_HEAD r) ((t.rd (HDM_RX_HEAD r) + n) % 2 ^ ringSize (s.rd (HDM_RX_SIZE r)))
  if f.frame.checks / 2 % 2 = 1 ∨ f.frame.checks / 8 % 2 = 1 then t.count HDM_CSUM_BAD 1 else t

theorem State.rxFilled_spec (s : State) (r : Nat) {n : Nat} (f : SwFrame) {bufs : List Nat}
    (fits : buffersFor (s.egressForm f 6).octets.length bufs = some n) :
    (s.rxFilled r n f bufs).rd (HDM_RX_HEAD r) = (s.rd (HDM_RX_HEAD r) + n) % 2 ^ ringSize (s.rd (HDM_RX_SIZE r)) ∧
    ∃ l : List Emission, (s.rxFilled r n f bufs).emitted = s.emitted ++ l ∧ l.length = n ∧ l.flatMap Emission.rxOctets = (s.egressForm f 6).octets := by
  obtain ⟨le, enough⟩ := buffersFor_spec fits
  obtain ⟨l, fills, length, octets⟩ := s.rxFill_spec r (ringSize (s.rd (HDM_RX_SIZE r))) (s.rd (HDM_RX_HEAD r)) true f (s.egressForm f 6).octets (bufs.take n)
  rw [List.take_of_length_le enough] at octets
  rw [List.length_take, Nat.min_eq_left le] at length
  have key : (HDM_RX_HEAD r).key ≠ HDM_CSUM_BAD.key := by simp only [Field.key]; omega
  rw [State.rxFilled, fills]
  split
  · exact ⟨(State.rd_count_ne _ _ key).trans (State.rd_wr_of_lt _ (ringHead_lt _ _)), l, rfl, length, octets⟩
  · exact ⟨State.rd_wr_of_lt _ (ringHead_lt _ _), l, rfl, length, octets⟩

/-- A frame whose buffers suffice. -/
theorem State.hdmRx_fits {s : State} {r n : Nat} {bufs : List Nat} {f : SwFrame} {rest : List SwFrame} (queue : s.swQueue 6 r = f :: rest)
    (on : s.rxOn r = true) (small : ¬9216 < (s.egressForm f 6).size) (moves : s.hdmMoves = true)
    (fits : buffersFor (s.egressForm f 6).octets.length
      (bufs.take (ringAvail (ringSize (s.rd (HDM_RX_SIZE r))) (s.rd (HDM_RX_HEAD r)) (s.rd (HDM_RX_TAIL r)))) = some n) :
    s.hdmRx r bufs 0 =
      ((s.rxFilled r n f (bufs.take (ringAvail (ringSize (s.rd (HDM_RX_SIZE r))) (s.rd (HDM_RX_HEAD r)) (s.rd (HDM_RX_TAIL r))))).moderate false r).hostDequeue
        r rest := by
  rw [State.hdmRx, queue]
  dsimp only
  rw [on, if_neg (by decide), if_neg small, moves, if_neg (by decide), if_neg (by decide), fits]
  rw [State.rxFilled]

/-- A stored frame that fails leaves the class queues and the fields of HDM (R399). -/
theorem State.eccDrop_spec (s : State) (carry : Bool) : let t := s.eccDrop carry 0x17
    t.swf = s.swf ∧ t.rd SWF_ECC_DROP = (s.rd SWF_ECC_DROP + 1) % 2 ^ 32 ∧ ∀ f : Field, f.page = 0x17 → t.rd f = s.rd f := by
  have counted : ((s.count SWF_ECC_DROP 1).notice SWF_NOTE_ECC_DROP).rd SWF_ECC_DROP = (s.rd SWF_ECC_DROP + 1) % 2 ^ 32 :=
    (State.rd_notice_ne _ _ (by decide) (by decide)).trans (State.rd_count_self _ _ _)
  have swf : ((s.count SWF_ECC_DROP 1).notice SWF_NOTE_ECC_DROP).swf = s.swf := State.notice_swf _ _
  have kept : Kept (Touches 0x100020000000002) s ((s.count SWF_ECC_DROP 1).notice SWF_NOTE_ECC_DROP) :=
    State.notice_kept (State.count_kept (.refl s) SWF_ECC_DROP 1 (Sub.trans (fun _ => id) rfl) (by decide)) SWF_NOTE_ECC_DROP
      (Sub.trans (fun _ => id) rfl) (by decide)
  have before : ∀ f : Field, f.page = 0x17 → ((s.count SWF_ECC_DROP 1).notice SWF_NOTE_ECC_DROP).rd f = s.rd f := fun f page =>
    kept.rd_eq f (by rw [Field.slot, page]; decide)
  rw [State.eccDrop]
  dsimp only
  split
  · have carries := State.itgCarry_kept (T := Touches 0x4400000020100000002) (.refl ((s.count SWF_ECC_DROP 1).notice SWF_NOTE_ECC_DROP)) 0x17 0x10
      fun _ h => h
    exact ⟨(carries.frame .swf (by decide)).trans swf, (carries.rd_eq _ (by decide)).trans counted, fun f page =>
      (carries.rd_eq f (by rw [Field.slot, page]; decide)).trans (before f page)⟩
  · have reads := State.itgReadError_kept (T := Touches 0x4400000020100000006) (.refl ((s.count SWF_ECC_DROP 1).notice SWF_NOTE_ECC_DROP)) 1 0x10
      fun _ h => h
    exact ⟨(reads.frame .swf (by decide)).trans swf, (reads.rd_eq _ (by decide)).trans counted, fun f page =>
      (reads.rd_eq f (by rw [Field.slot, page]; decide)).trans (before f page)⟩

/-- The fate of the first frame for a ring (R395). -/
theorem State.hdmRx_spec (s : State) {r : Nat} (hr : r < 8) (bufs : List Nat) (ecc : Nat) {f : SwFrame} {rest : List SwFrame}
    (queue : s.swQueue 6 r = f :: rest) :
    let size := ringSize (s.rd (HDM_RX_SIZE r))
    let head := s.rd (HDM_RX_HEAD r)
    let octets := (s.egressForm f 6).octets
    if s.rxOn r = false then
      (s.hdmRx r bufs ecc).swQueue 6 r = rest ∧ (s.hdmRx r bufs ecc).rd HDM_RX_DROP = (s.rd HDM_RX_DROP + 1) % 2 ^ 32 ∧
        Noted HDM_NOTE_RX_NORING (s.hdmRx r bufs ecc)
    else if 9216 < (s.egressForm f 6).size then
      (s.hdmRx r bufs ecc).swQueue 6 r = rest ∧ (s.hdmRx r bufs ecc).rd (HDM_RX_HEAD r) = head ∧
        (s.hdmRx r bufs ecc).rd HDM_RX_DROP = s.rd HDM_RX_DROP
    else if s.hdmMoves = false then s.hdmRx r bufs ecc = s
    else if ecc ≠ 0 then
      (s.hdmRx r bufs ecc).swQueue 6 r = rest ∧ (s.hdmRx r bufs ecc).rd SWF_ECC_DROP = (s.rd SWF_ECC_DROP + 1) % 2 ^ 32 ∧
        (s.hdmRx r bufs ecc).rd (HDM_RX_HEAD r) = head
    else
      match buffersFor octets.length (bufs.take (ringAvail size head (s.rd (HDM_RX_TAIL r)))) with
      | none => s.hdmRx r bufs ecc = s
      | some n =>
        (s.hdmRx r bufs ecc).swQueue 6 r = rest ∧ (s.hdmRx r bufs ecc).rd (HDM_RX_HEAD r) = (head + n) % 2 ^ size ∧
        ∃ l m, (s.hdmRx r bufs ecc).emitted = s.emitted ++ l ++ m ∧ l.length = n ∧ l.flatMap Emission.rxOctets = octets := by
  intro size head octets
  by_cases on : s.rxOn r = true
  · rw [if_neg (by simp [on])]
    by_cases large : 9216 < (s.egressForm f 6).size
    · have is : s.hdmRx r bufs ecc = s.hostDequeue r rest := by
        rw [State.hdmRx, queue]
        dsimp only
        rw [on, if_neg (by decide), if_pos large]
      have kept := s.hostDequeue_kept_swf r rest
      rw [if_pos large, is]
      exact ⟨s.swQueue_hostDequeue hr rest, kept.rd_eq _ (by rw [Field.slot, HDM_RX_HEAD_page]; decide), kept.rd_eq _ (by decide)⟩
    · rw [if_neg large]
      by_cases moves : s.hdmMoves = true
      · rw [if_neg (by simp [moves])]
        by_cases sound : ecc = 0
        · subst sound
          rw [if_neg (not_not_intro rfl)]
          match fits : buffersFor octets.length (bufs.take (ringAvail size head (s.rd (HDM_RX_TAIL r)))) with
          | none =>
            rw [State.hdmRx, queue]
            dsimp only
            rw [on, if_neg (by decide), if_neg large, moves, if_neg (by decide), if_neg (by decide), fits]
          | some n =>
            obtain ⟨headNow, l, emitted, length, filled⟩ := s.rxFilled_spec r f fits
            have moderates := (s.rxFilled r n f (bufs.take (ringAvail size head (s.rd (HDM_RX_TAIL r))))).moderate_kept_hdm false r
            have leaves := ((s.rxFilled r n f (bufs.take (ringAvail size head (s.rd (HDM_RX_TAIL r))))).moderate false r).hostDequeue_kept_swf r rest
            obtain ⟨m, more⟩ := moderates.emitted.trans leaves.emitted
            rw [State.hdmRx_fits queue on large moves fits]
            refine ⟨State.swQueue_hostDequeue _ hr rest, ?_, l, m, ?_, length, filled⟩
            · rw [leaves.rd_eq _ (by rw [Field.slot, HDM_RX_HEAD_page]; decide),
                State.rd_moderate _ _ _ (by simp only [Field.key]; omega) (by simp only [Field.key]; omega), headNow]
            · rw [← more, emitted]
        · have is : s.hdmRx r bufs ecc = (s.hostDequeue r rest).eccDrop (ecc == 2) 0x17 := by
            rw [State.hdmRx, queue]
            dsimp only
            rw [on, if_neg (by decide), if_neg large, moves, if_neg (by decide), if_pos (by simpa using sound)]
          have kept := s.hostDequeue_kept_swf r rest
          obtain ⟨swf, dropped, fields⟩ := (s.hostDequeue r rest).eccDrop_spec (ecc == 2)
          rw [if_pos sound, is]
          refine ⟨(State.swQueue_congr (congrArg SwfUnit.queues swf) _ _).trans (s.swQueue_hostDequeue hr rest), ?_,
            (fields _ (HDM_RX_HEAD_page r)).trans (kept.rd_eq _ (by rw [Field.slot, HDM_RX_HEAD_page]; decide))⟩
          rw [dropped, kept.rd_eq _ (by decide)]
      · have stopped : s.hdmMoves = false := by simpa using moves
        rw [if_pos stopped, State.hdmRx, queue]
        dsimp only
        rw [on, if_neg (by decide), if_neg large, stopped, if_pos (by decide)]
  · have off : s.rxOn r = false := by simpa using on
    have is : s.hdmRx r bufs ecc = ((s.hostDequeue r rest).count HDM_RX_DROP 1).notice HDM_NOTE_RX_NORING := by
      rw [State.hdmRx, queue]
      dsimp only
      rw [off, if_pos (by decide)]
    have kept := s.hostDequeue_kept_swf r rest
    rw [if_pos off, is]
    have same : (((s.hostDequeue r rest).count HDM_RX_DROP 1).notice HDM_NOTE_RX_NORING).swf.queues = (s.hostDequeue r rest).swf.queues := by
      rw [State.notice_swf, State.count_eq, State.wr_swf]
    refine ⟨(State.swQueue_congr same _ _).trans (s.swQueue_hostDequeue hr rest), ?_, State.noted_notice _ HDM_NOTE_RX_NORING (by decide)⟩
    rw [State.rd_notice_ne _ _ (by decide) (by decide), State.rd_count_self, kept.rd_eq _ (by decide)]

/-! ### The obligation -/

/-- The notice of a ring whose completions are still uncounted (R397). -/
theorem State.modExpire_spec (s : State) (tx : Bool) {r : Nat} (hr : r < 8) :
    let t := s.modExpire tx r
    if (if tx then s.hdm.tx else s.hdm.rx).getD r 0 = 0 then t = s
    else (if tx then t.hdm.tx else t.hdm.rx).getD r 0 = 0 ∧ Raises (if tx then HDM_NOTE_TX r else HDM_NOTE_RX r) s t := by
  rw [State.modExpire]
  dsimp only
  by_cases idle : (if tx then s.hdm.tx else s.hdm.rx).getD r 0 = 0
  · rw [if_pos idle, if_pos idle]
  · rw [if_neg idle, if_neg idle]
    cases tx with
    | false =>
      refine ⟨?_, Raises.of_rd (State.raises_notice _ (HDM_NOTE_RX r) (by dsimp only; omega)) rfl⟩
      rw [if_neg (by decide), if_neg (by decide), State.notice_hdm]
      exact (getD_putAt 0 _ _ _ _ hr).trans (if_pos rfl)
    | true =>
      refine ⟨?_, Raises.of_rd (State.raises_notice _ (HDM_NOTE_TX r) (by dsimp only; omega)) rfl⟩
      rw [if_pos rfl, if_pos rfl, State.notice_hdm]
      exact (getD_putAt 0 _ _ _ _ hr).trans (if_pos rfl)

theorem State.dmaError_spec (s : State) : s.dmaError.hdm = { s.hdm with stopped := true } ∧ Raises HDM_NOTE_DMA_ERR s s.dmaError ∧
    OnlyFields [NOTE_RAW 0x17, MSIX_PBA] s s.dmaError := by
  have stops : OnlyFields [NOTE_RAW 0x17, MSIX_PBA] s { s with hdm := { s.hdm with stopped := true } } := fun _ _ => rfl
  rw [State.dmaError]
  exact ⟨State.notice_hdm _ _, Raises.of_rd (State.raises_notice _ HDM_NOTE_DMA_ERR (by decide)) rfl,
    stops.notice HDM_NOTE_DMA_ERR (by decide) (by decide)⟩

theorem State.hdmTailWrite_spec (s : State) (port : Port) (a : Nat) {f : Field} {v : Nat} (h : v < 2 ^ f.width) :
    let t := (s.hostWrote port false a).wr f v
    t.rd f = v ∧ t.hdm = s.hdm ∧ OnlyFields [f, NOTE_RAW 0x01, MSIX_PBA] s t :=
  ⟨State.rd_wr_of_lt _ h, State.hostWrote_hdm _ _ _ _, OnlyFields.command port a (by simp) (by simp) ((OnlyFields.refl _ _).wr v (by simp))⟩

/-- Settles O50: tails, frames of both directions, moderation and errors of the host DMA port. -/
theorem hostDma : Obligations.HostDma := by
  refine ⟨fun s port r v work hr hv => ⟨?_, ?_⟩, fun s r descs data err work _ bar => ?_, fun s r n d ds data err missing work wf on moves runs span => ?_,
    fun s r bufs ecc work _ empty => ?_, fun s r bufs ecc f rest work wf queue => ?_, fun s r tx work hr => ?_, fun s work => ?_⟩
  · have page : (HDM_TX_TAIL r).addr / 0x1000 = 0x17 := by dsimp only; omega
    exact Completes.effect rfl (by rwa [page]) (s.hdmTailWrite_spec port _ hv)
  · have page : (HDM_RX_TAIL r).addr / 0x1000 = 0x17 := by dsimp only; omega
    exact Completes.effect rfl (by rwa [page]) (s.hdmTailWrite_spec port _ hv)
  · refine Completes.working rfl work ?_
    rw [State.hdmTx]
    split
    · rfl
    next goes =>
      simp only [Bool.or_eq_true, Bool.not_eq_true', not_or, Bool.not_eq_false] at goes
      obtain ⟨⟨on, moves⟩, runs⟩ := goes
      have none_ := ((bar.resolve_left (by simp [on])).resolve_left (by simp [moves])).resolve_left (by simp [show s.rd SWF_CTRL_EN = 1 by simpa [State.rdB] using runs])
      dsimp only
      rw [none_]
  · refine Completes.working rfl work ?_
    obtain ⟨hr, -⟩ := wf
    rw [State.hdmTx_of data on moves runs span]
    intro size head e f vid fr
    by_cases bad : e = 0
    · rw [if_neg (c := (frameErr _ _ _ != 0) = true) (by simpa using bad), if_neg (not_not_intro bad)]
      by_cases room : s.hostRoom fr (s.hostPorts d f vid) = false
      · rw [if_pos room]
        exact if_pos (congrArg (!·) room)
      · rw [if_neg room]
        intro direct p one
        have some_ : s.hostRoom fr [p] = true := by rw [← one]; simpa using room
        have same : s.hostSwPorts d ((d :: ds).take n) data = [p] := one
        have has : s.hostRoom (s.hostSwFrame r d ((d :: ds).take n) data) [p] = true := some_
        rw [if_neg (c := (!s.hostRoom _ _) = true) (by rw [same, has]; decide), same]
        exact s.hdmTx_direct r n d (State.hostPorts_lt direct one) hr some_
    · rw [if_pos (c := (frameErr _ _ _ != 0) = true) (by simpa using bad), if_pos bad]
      exact s.descErr_spec r n e
  · refine Completes.working rfl work ?_
    rw [State.hdmRx, empty]
  · refine Completes.working rfl work ?_
    obtain ⟨hr, -⟩ := wf
    exact s.hdmRx_spec hr bufs ecc queue
  · exact Completes.working rfl work (s.modExpire_spec tx hr)
  · exact Completes.working rfl work s.dmaError_spec

end Sys2Proof.Machine
end

section
/-! SUPPORT. NODE_ACTIVATE where a campaign runs beside one that has ended (O53). -/

namespace Sys2Proof.Machine

/-- A block of a campaign that waits in the transmit queue. -/
def waitingBlock : QFrame := ⟨0, 0, ⟨0x0F, .broadcast, [], []⟩, 0, 0, 0, 0, false, false, false, false, none⟩

/-- A campaign that is running. -/
def runningCampaign : Campaign := ⟨0, grgHeaderOf [], 0, 64, 0, [], 1, [], false, []⟩

/-- The module in service with a full transmit queue, a campaign that runs, and one that has ended. -/
def State.twoCampaigns : State :=
  let s := State.serving.wr SPR_CTRL_EN 1
  { s with
    modes := { s.modes with life := .deployed }
    mac := { s.mac with queue := List.replicate 1024 waitingBlock }
    grg := { s.grg with campaign := some runningCampaign, ended := some (0, 0) } }

/-- The blocks that the running campaign notes as dropped, in the state that a command answers. -/
def droppedOf : Host.Outcome State Fault Refusal → Option (List Nat)
  | .next s => s.grg.campaign.map Campaign.dropped
  | _ => none

/-- Refutes O53: nothing in the statement keeps a campaign from running while `ended` names another. Where the transmit queue is full of its
blocks, NODE_ACTIVATE's message drops one, which the running campaign notes (R153, R549), so that Grog's state changes. -/
theorem not_nodeCampaigns : ¬ Obligations.NodeCampaigns := by
  rintro ⟨-, -, -, -, -, -, -, activates⟩
  obtain ⟨t, next, grg, -⟩ := activates State.twoCampaigns .lrp (by decide +kernel) (by decide +kernel)
  have same := (congrArg droppedOf next).trans (congrArg (fun g : GrgUnit => g.campaign.map Campaign.dropped) grg)
  exact absurd same (by decide +kernel)

end Sys2Proof.Machine
end

section
/-! SUPPORT. A planned beacon whose priority is not the highest (O18). -/

namespace Sys2Proof.Machine

/-- A transmission without a queued frame, planned on an entry that is not the one in force, with priority 0. -/
def lowBeacon : AirTx where
  channel := 0
  serial := none
  freq := 868300
  phy := 0
  entry := 31
  budget := none
  charge := 1
  power := 0
  claim := 0
  counter := 0
  psdu := 38
  prio := 0
  shared := false
  endAsn := 0
  asn := 0
  link := none
  antenna := 0
  starts := 0
  ends := 0
  ack := none
  beacon := none

/-- The module in control, its radio on, with a band of one budget that allows nothing, and such a transmission planned. -/
def State.lowPlanned : State :=
  let s := (State.serving.wrAll [(RFE_CTRL_TX_EN, 1), (RFE_STATUS_REGION, 1)]).setBytes 0x02 0
    (toOctets 4 868000 ++ toOctets 4 868600 ++ [100, 7] ++ toOctets 2 100 ++ toOctets 2 1)
  { s with
    modes := { s.modes with life := .deployed }
    mac := { s.mac with plan := [lowBeacon] } }

/-- The dropped frames of priority 0, in the state that a command answers. -/
def lowDrops : Host.Outcome State Fault Refusal → Nat
  | .next s => s.rd (RFE_DROP 0)
  | _ => 0

/-- Refutes O18: nothing in the statement gives a transmission without a queued frame the priority 3 that beacons and acknowledgements have.
Over the limit of its new entry it counts as one of priority 3 (R154), and not in the count of the priority that the plan names. -/
theorem not_meshTransmission : ¬ Obligations.MeshTransmission := by
  rintro ⟨-, -, -, -, starts, -⟩
  obtain ⟨t, next, spec⟩ := starts State.lowPlanned 0 0 (by decide +kernel) (by decide)
  have planned : (State.lowPlanned.mac.plan.find? fun x => x.channel == 0) = some lowBeacon := by decide +kernel
  rw [planned] at spec
  obtain ⟨-, spec⟩ := spec
  have place : State.lowPlanned.txPlace lowBeacon = some (0, some 0) := by decide +kernel
  rw [if_neg (by decide +kernel), if_neg (by decide +kernel), place] at spec
  dsimp only at spec
  rw [if_pos (by decide +kernel)] at spec
  obtain ⟨-, drops, -⟩ := spec
  have counted := (congrArg lowDrops next).trans drops
  exact absurd counted (by decide +kernel)

end Sys2Proof.Machine
end

section
/-! SUPPORT. Frames received at the external ports of the switch (O47). -/

namespace Sys2Proof

open Machine

theorem OnlyFields.noticeIf {l : List Field} {s t : State} (h : OnlyFields l s t) (b : Bool) (n : Notice) (note : NOTE_RAW n.page ∈ l) (pba : MSIX_PBA ∈ l) :
    OnlyFields l s (t.noticeIf b n) := by
  cases b with
  | false => exact h
  | true => exact h.notice n note pba

end Sys2Proof

namespace Sys2Proof.Machine

/-! ### A port at work -/

/-- The domains of a port's page are none that DOZE stops. -/
theorem State.wakePage_port (s : State) {k : Nat} (hk : k < 6) : s.wakePage (0x11 + k) = s := by
  have domains : ∃ d, pageDomains (0x11 + k) = [d] ∧ dozeState d = none := by
    interval_cases k
    · exact ⟨7, rfl, rfl⟩
    · exact ⟨8, rfl, rfl⟩
    all_goals exact ⟨9, rfl, rfl⟩
  obtain ⟨d, one, stays⟩ := domains
  rw [State.wakePage, one, State.woken]
  split
  · simp only [List.foldl_cons, List.foldl_nil, stays]
    rfl
  · rfl

theorem State.onPort_of {s : State} {k : Nat} (fabric : s.atWork 0x10 = true) (live : s.live (0x11 + k) = true) (hk : k < 6) (f : State → State) :
    s.onPort k f = f s := by
  rw [State.onPort, State.working_atWork fabric, State.working, if_pos live, State.wakePage_port _ hk]

theorem State.live_reach (s : State) (c p : Nat) : (s.reach c).live p = s.live p := by
  obtain ⟨t, is⟩ := s.reach_eq c
  rw [is]
  rfl

theorem State.onPort_reach {s : State} {k : Nat} (c : Nat) (fabric : s.atWork 0x10 = true) (live : s.live (0x11 + k) = true) (hk : k < 6)
    (f : State → State) : (s.reach c).onPort k f = f (s.reach c) :=
  State.onPort_of (by rwa [State.atWork_reach]) (by rwa [State.live_reach]) hk f

/-- The raw counter rises on the time line that stands. -/
theorem State.reach_base (s : State) (c : Nat) : (s.reach c).time.ta = s.time.ta ∧ (s.reach c).time.ca = s.time.ca := by
  rw [State.reach]
  split
  · exact ⟨rfl, rfl⟩
  · exact ⟨rfl, rfl⟩

/-- The state in which a port takes a frame at the raw count c. -/
def State.awakeAt (s : State) (c : Nat) : State := (s.reach c).wakeSys

theorem State.awakeAt_eq (s : State) (c : Nat) : ∃ d, s.awakeAt c = { s with time := (s.reach c).time, domains := d } := by
  obtain ⟨t, is⟩ := s.reach_eq c
  rw [State.awakeAt, State.wakeSys, is]
  exact ⟨_, rfl⟩

theorem State.etpFrameReceived_next {s : State} {k : Nat} (c len : Nat) (f : EthFrame) (check : FrameCheck) (ns : Int) (fabric : s.atWork 0x10 = true)
    (live : s.live (0x11 + k) = true) (hk : k < 6) {P : State → Prop} (post : P ((s.awakeAt c).frameRx k len f check ns)) :
    Completes (.etpFrameReceived k c len f check ns) s P :=
  ⟨_, congrArg Host.Outcome.next (State.onPort_reach c fabric live hk _), post⟩

/-! ### What a port counts -/

/-- A counter rises and its notice is raised, and the fabric stands. -/
theorem State.counted_noticed (s : State) {f : Field} {n : Notice} (hn : n.bit < 32) (note : f.key ≠ (NOTE_RAW n.page).key) (pba : f.key ≠ MSIX_PBA.key) :
    let t := (s.count f 1).notice n
    t.swf = s.swf ∧ t.rd f = (s.rd f + 1) % 2 ^ f.width ∧ Raises n s t ∧ OnlyFields [f, NOTE_RAW n.page, MSIX_PBA] s t :=
  ⟨State.notice_swf _ _, (State.rd_notice_ne _ _ note pba).trans (State.rd_count_self _ _ _),
    Raises.of_rd (State.raises_notice _ n hn) (State.rd_count_ne s 1 note.symm),
    ((OnlyFields.refl _ s).count 1 (by simp)).notice n (by simp) (by simp)⟩

theorem State.countBytes_only {l : List Field} {s t : State} (h : OnlyFields l s t) {lo hi : Field} (n : Nat) (mlo : lo ∈ l) (mhi : hi ∈ l) :
    OnlyFields l s (t.countBytes lo hi n) := by
  rw [State.countBytes]
  exact (h.wr _ mlo).wr _ mhi

theorem State.countBytes_swf (s : State) (lo hi : Field) (n : Nat) : (s.countBytes lo hi n).swf = s.swf := rfl

theorem State.frameLost_spec (s : State) {k : Nat} (hk : k < 6) : let t := s.frameLost k
    t.swf = s.swf ∧ t.rd SWF_ECC_DROP = (s.rd SWF_ECC_DROP + 1) % 2 ^ 32 ∧ Noted SWF_NOTE_ECC_DROP t ∧ t.rd (ETP_RX_OK k) = s.rd (ETP_RX_OK k) := by
  obtain ⟨swf, count, -, only⟩ := s.counted_noticed (f := SWF_ECC_DROP) (n := SWF_NOTE_ECC_DROP) (by decide) (by decide) (by decide)
  have kept := State.itgCarry_kept (T := Touches 0x4400000020100000002) (.refl ((s.count SWF_ECC_DROP 1).notice SWF_NOTE_ECC_DROP)) 0x10 (0x11 + k)
    fun _ h => h
  rw [State.frameLost]
  refine ⟨(kept.frame .swf (by decide)).trans swf, (kept.rd_eq _ (by decide)).trans count,
    Noted.congr (State.noted_notice _ SWF_NOTE_ECC_DROP (by decide)) (kept.rd_eq _ (by decide)), (kept.rd_eq _ ?_).trans (only _ ?_)⟩
  · interval_cases k <;> decide
  · interval_cases k <;> decide

/-! ### A frame that goes no further -/

section
variable (s : State) {k len : Nat} (f : EthFrame) (ns : Int)

/-- A frame of a wrong length or with a bad FCS (R378, R381). -/
theorem State.frameRx_faulty (check : FrameCheck) (up : s.portUp k = true) (bad : len < 64 ∨ 9216 < len ∨ check = .badFcs) :
    s.frameRx k len f check ns =
      if len < 64 then (s.count (ETP_RX_RUNT k) 1).notice (ETP_NOTE_SIZE_ERR k)
      else if 9216 < len then (s.count (ETP_RX_OVERSIZE k) 1).notice (ETP_NOTE_SIZE_ERR k)
      else if s.bufferRoom k (ceilDiv len 256) = false then (s.count (ETP_RX_BUF_DROP k) 1).notice (ETP_NOTE_BUF_DROP k)
      else (s.count (ETP_RX_FCS_ERR k) 1).notice (ETP_NOTE_FCS_ERR k) := by
  rw [State.frameRx, up, if_neg (by decide)]
  by_cases short : len < 64
  · rw [if_pos short, if_pos short]
  rw [if_neg short, if_neg short]
  by_cases long : 9216 < len
  · rw [if_pos long, if_pos long]
  obtain rfl : check = .badFcs := (bad.resolve_left short).resolve_left long
  rw [if_neg long, if_neg long]
  by_cases room : s.bufferRoom k (ceilDiv len 256) = false
  · rw [if_pos room, room]
    rfl
  · rw [if_neg room, (Bool.not_eq_false _).mp room]
    rfl

/-- What a frame meets that is no control frame and has a good FCS (R380, R381, R390). -/
theorem State.frameRx_data (check : FrameCheck) (fcs : check ≠ .badFcs) (up : s.portUp k = true) (short : 64 ≤ len) (long : len ≤ 9216)
    (data : f.control = none) :
    s.frameRx k len f check ns =
      if s.bufferRoom k (ceilDiv len 256) = false then (s.count (ETP_RX_BUF_DROP k) 1).notice (ETP_NOTE_BUF_DROP k)
      else if check = .badCarry then s.frameLost k
      else if s.pfcDrops k (s.classOf f k) = true then s.count (ETP_PFC_DROP k) 1
      else ((s.count (ETP_RX_OK k) 1).countBytes (ETP_RX_BYTES_LO k) (ETP_RX_BYTES_HI k) len).forward k f (s.rxStamp k ns) := by
  rw [State.frameRx, up, if_neg (by decide), if_neg (by omega), if_neg (by omega), data]
  cases s.bufferRoom k (ceilDiv len 256) <;> simp [fcs]

/-- A MAC control frame (R389). -/
theorem State.frameRx_control {op : Nat} (up : s.portUp k = true) (short : 64 ≤ len) (long : len ≤ 9216) (control : f.control = some op) :
    s.frameRx k len f .good ns = s.controlRx k op f.body := by
  rw [State.frameRx, up, if_neg (by decide), if_neg (by omega), if_neg (by omega), control]
  rfl

end

/-! ### A frame that the fabric takes (R382 to R388) -/

theorem State.learn_only (s : State) (mac vid k : Nat) : OnlyFields [SWF_FDB_USED, SWF_FDB_FULL, NOTE_RAW 0x10, MSIX_PBA] s (s.learn mac vid k) := by
  rw [State.learn]
  split
  · exact .refl _ s
  · split
    · exact (OnlyFields.of_regs rfl).wr _ (by simp)
    · split
      · exact (OnlyFields.of_regs rfl).wr _ (by simp)
      · exact ((OnlyFields.refl _ s).count 1 (by simp)).notice _ (by simp) (by simp)

/-- A source that the table does not hold takes its place (R388). -/
theorem State.learn_new {s : State} {mac vid : Nat} (k : Nat) {i : Nat} (on : s.rd SWF_CTRL_LEARN_EN = 1) (new : s.fdbFind mac vid = none)
    (place : s.fdbPlace mac vid = some i) :
    (s.learn mac vid k).swf.fdb = Sparse.insert s.swf.fdb i ⟨mac, vid, 2 ^ k, false, s.time.raw, s.moduleTime⟩ := by
  rw [State.learn, State.rdB_of on, new, place]
  rfl

theorem State.sendPause_only (s : State) (k n : Nat) : OnlyFields [ETP_TX_PAUSE k] s (s.sendPause k n) := by
  have counted : OnlyFields [ETP_TX_PAUSE k] s (s.count (ETP_TX_PAUSE k) 1) := (OnlyFields.refl _ s).count 1 (by simp)
  rw [State.sendPause]
  split
  · exact counted.congr rfl
  · exact counted.congr rfl

theorem State.pauseRise_only (s : State) (k : Nat) : OnlyFields [ETP_TX_PAUSE k] s (s.pauseRise k) := by
  rw [State.pauseRise]
  split
  · exact (OnlyFields.of_regs rfl).trans (State.sendPause_only _ k _)
  · exact .refl _ s

theorem State.pauseRise_nextId (s : State) (k : Nat) : (s.pauseRise k).swf.nextId = s.swf.nextId := by
  rw [State.pauseRise]
  split
  · rw [State.sendPause]
    split <;> rfl
  · rfl

/-- The fields of a port's ingress that a stored frame may change. -/
def ingressFields (k : Nat) : List Field :=
  [ETP_RX_BUF_DROP k, NOTE_RAW (0x11 + k % 6), NOTE_RAW 0x10, MSIX_PBA, ETP_TX_PAUSE k]

theorem State.swEnqueue_only (s : State) (f : SwFrame) (ports : List Nat) : OnlyFields (ingressFields f.src) s (s.swEnqueue f ports) := by
  rw [State.swEnqueue]
  have stored : OnlyFields (ingressFields f.src) s (ports.foldl (fun (s : State) k =>
      let q := s.swQueue k f.cls
      if k < 6 && s.rd (ETP_QLIM_CELLS k) ≤ cellSum q then
        if f.src < 6 then (s.count (ETP_RX_BUF_DROP f.src) 1).notice (ETP_NOTE_BUF_DROP f.src) else s
      else s.setSwQueue k f.cls (q ++ [{ f with id := s.swf.nextId }])) { s with swf := { s.swf with nextId := s.swf.nextId + 1 } }) := by
    refine List.foldlRecOn (motive := OnlyFields (ingressFields f.src) s) _ _ (.of_regs rfl) fun t h k _ => ?_
    dsimp only
    split
    · split
      · exact (h.count 1 (by simp [ingressFields])).notice _ (by simp [ingressFields]) (by simp [ingressFields])
      · exact h
    · exact h.congr rfl
  exact (stored.noticeIf _ SWF_NOTE_BUF_LOW (by simp [ingressFields]) (by simp [ingressFields])).trans
    ((State.pauseRise_only _ f.src).mono (by simp [ingressFields]))

theorem State.admitFrame_only (s : State) (f : SwFrame) (ports : List Nat) : OnlyFields (ingressFields f.src) s (s.admitFrame f ports) := by
  rw [State.admitFrame]
  split
  · exact .refl _ s
  · exact s.swEnqueue_only f ports

/-- A frame for one port whose queue has room joins it, behind what waits. -/
theorem State.swEnqueue_room (s : State) (f : SwFrame) {p : Nat} (hp : p < 7) (hc : f.cls < 8)
    (room : p = 6 ∨ cellSum (s.swQueue p f.cls) < s.rd (ETP_QLIM_CELLS p)) : let t := s.swEnqueue f [p]
    t.swQueue p f.cls = s.swQueue p f.cls ++ [{ f with id := s.swf.nextId + 1 }] ∧ t.swf.nextId = s.swf.nextId + 1 ∧
      ∀ q d, q < 7 → d < 8 → (q, d) ≠ (p, f.cls) → t.swQueue q d = s.swQueue q d := by
  have full : ¬((p < 6 && s.rd (ETP_QLIM_CELLS p) ≤ cellSum (s.swQueue p f.cls)) = true) := by
    rcases room with rfl | room
    · simp
    · simp [room]
  have joins : s.swEnqueue f [p] = ((State.setSwQueue { s with swf := { s.swf with nextId := s.swf.nextId + 1 } } p f.cls
      (s.swQueue p f.cls ++ [{ f with id := s.swf.nextId + 1 }])).bufLow s.cellsFree).pauseRise f.src := by
    rw [State.swEnqueue]
    exact congrArg (fun t => (State.bufLow t s.cellsFree).pauseRise f.src) (if_neg full)
  have queues : ∀ q d, (s.swEnqueue f [p]).swQueue q d = (State.setSwQueue { s with swf := { s.swf with nextId := s.swf.nextId + 1 } } p f.cls
      (s.swQueue p f.cls ++ [{ f with id := s.swf.nextId + 1 }])).swQueue q d := fun q d => by
    rw [joins, State.swQueue_congr (State.pauseRise_queues _ _), State.bufLow, State.swQueue_congr (congrArg SwfUnit.queues (State.noticeIf_swf _ _ _))]
  refine ⟨?_, ?_, fun q d hq hd other => ?_⟩
  · rw [queues, State.swQueue_setSwQueue_same _ _ (by omega)]
  · rw [joins, State.pauseRise_nextId, State.bufLow, State.noticeIf_swf]
    rfl
  · rw [queues, State.swQueue_setSwQueue_ne _ _ (by omega) (by simp only [ne_eq, Prod.mk.injEq] at other; omega)]
    rfl

theorem State.egressPorts_lt {s : State} {f : EthFrame} {vid k p : Nat} (h : p ∈ s.egressPorts f vid k) : p < 7 := by
  rw [State.egressPorts] at h
  have all := List.mem_of_mem_filter h
  have members : ∀ q : Nat → Bool, p ∈ (List.range 7).filter q → p < 7 := fun q h => List.mem_range.mp (List.mem_of_mem_filter h)
  split at all
  · split at all
    · exact members _ all
    · exact members _ all
  · exact members _ all

theorem State.fwdState_le (s : State) (k i : Nat) : s.fwdState k i ≤ 3 := by
  rw [State.fwdState]
  split
  · exact Nat.le_refl 3
  · exact Nat.le_of_lt_succ (bitsOf_lt _ _ 2)

/-- The stored form of a frame that a port takes. -/
def State.rxFrame (s : State) (k : Nat) (f : EthFrame) (rx : Int) : SwFrame := ⟨0, f, k, s.classOf f k, s.vidOf f k, rx, false, false, none⟩

/-- The way of a good frame that is neither link-local nor the engine's (R385 to R388). -/
theorem State.forward_data {s : State} {k : Nat} {f : EthFrame} (rx : Int) (engine : s.engineTakes k f = false) (local_ : f.linkLocal = false) :
    let state := s.fwdState k (s.vlanInstance (s.vidOf f k))
    s.forward k f rx =
      if s.vlanDrops f k (s.vidOf f k) = true then s.count (ETP_RX_VLAN_DROP k) 1
      else if state < 2 then s
      else if state = 2 then s.learn f.src (s.vidOf f k) k
      else (s.learn f.src (s.vidOf f k) k).admitFrame (s.rxFrame k f rx)
        ((s.learn f.src (s.vidOf f k) k).egressPorts f (s.vidOf f k) k) := by
  dsimp only
  have bound := s.fwdState_le k (s.vlanInstance (s.vidOf f k))
  rw [State.forward, engine, local_, if_neg (by decide), if_neg (by decide)]
  dsimp only
  split
  · rfl
  · generalize s.fwdState k (s.vlanInstance (s.vidOf f k)) = state at bound
    interval_cases state <;> rfl

theorem State.forward_only (s : State) (k : Nat) (f : EthFrame) (rx : Int) (engine : s.engineTakes k f = false) (local_ : f.linkLocal = false) :
    OnlyFields (ETP_RX_VLAN_DROP k :: SWF_FDB_USED :: SWF_FDB_FULL :: ingressFields k) s (s.forward k f rx) := by
  have learned : OnlyFields (ETP_RX_VLAN_DROP k :: SWF_FDB_USED :: SWF_FDB_FULL :: ingressFields k) s (s.learn f.src (s.vidOf f k) k) :=
    (s.learn_only _ _ _).mono (by simp [ingressFields])
  rw [State.forward_data rx engine local_]
  split
  · exact (OnlyFields.refl _ s).count 1 (by simp)
  split
  · exact .refl _ s
  split
  · exact learned
  · exact learned.trans ((State.admitFrame_only _ (s.rxFrame k f rx) _).mono fun _ h => by
      simp only [List.mem_cons]
      exact .inr (.inr (.inr h)))

/-! ### The statement, clause by clause -/

section
variable {s : State} {k : Nat} (c len : Nat) (f : EthFrame) (ns : Int)

/-- A port that is not up takes no frame. -/
theorem State.frameRx_down (check : FrameCheck) (down : s.portUp k = false) :
    (s.awakeAt c).frameRx k len f check ns = { s.reach c with domains := ((s.awakeAt c).frameRx k len f check ns).domains } := by
  obtain ⟨d, is⟩ := s.awakeAt_eq c
  have stays : (s.awakeAt c).frameRx k len f check ns = s.awakeAt c := by
    have down' : (s.awakeAt c).portUp k = false := by
      rw [is]
      exact down
    rw [State.frameRx, down']
    rfl
  rw [stays]
  rfl

theorem State.domain_awakeAt (doze : s.modes.power = .doze) (ready : s.startup.phase = .ready) : (s.awakeAt c).domain 2 = .running := by
  obtain ⟨t, is⟩ := s.reach_eq c
  rw [State.awakeAt, is]
  exact State.wakePage_starts (s := { s with time := t }) (p := 0x01) doze ready (by decide) (by decide)

theorem State.rd_showPause (s : State) (hk : k < 6) :
    (s.showPause k).rd (ETP_STATUS_PAUSED k) = if (Sparse.get s.swf.pauses (9 * k + 8)).isSome then 1 else 0 := by
  rw [State.showPause]
  refine ((State.rd_wr_ne _ _ (by interval_cases k <;> decide)).trans (State.rd_wr_self _ _ _)).trans ?_
  dsimp only
  split <;> rfl

/-- A frame that its port counts and drops. -/
theorem State.dropped (s : State) {g : Field} {n : Notice} (hn : n.bit < 32) (note : g.key ≠ (NOTE_RAW n.page).key) (pba : g.key ≠ MSIX_PBA.key)
    (ok : ∀ x ∈ [g, NOTE_RAW n.page, MSIX_PBA], (ETP_RX_OK k).key ≠ x.key) : let t := (s.count g 1).notice n
    t.swf = s.swf ∧ t.rd (ETP_RX_OK k) = s.rd (ETP_RX_OK k) ∧ t.rd g = (s.rd g + 1) % 2 ^ g.width ∧ Raises n s t := by
  obtain ⟨swf, count, raises, only⟩ := s.counted_noticed hn note pba
  exact ⟨swf, only _ ok, count, raises⟩

/-- A frame of a wrong length or with a bad FCS is counted with its notice and goes nowhere. -/
theorem State.frameRx_faulty_spec (s : State) (hk : k < 6) (check : FrameCheck) (up : s.portUp k = true) (bad : len < 64 ∨ 9216 < len ∨ check = .badFcs) :
    let t := s.frameRx k len f check ns
    t.swf = s.swf ∧ t.rd (ETP_RX_OK k) = s.rd (ETP_RX_OK k) ∧
      if len < 64 then t.rd (ETP_RX_RUNT k) = (s.rd (ETP_RX_RUNT k) + 1) % 2 ^ 32 ∧ Raises (ETP_NOTE_SIZE_ERR k) s t
      else if 9216 < len then t.rd (ETP_RX_OVERSIZE k) = (s.rd (ETP_RX_OVERSIZE k) + 1) % 2 ^ 32 ∧ Raises (ETP_NOTE_SIZE_ERR k) s t
      else if s.bufferRoom k (ceilDiv len 256) = false then
        t.rd (ETP_RX_BUF_DROP k) = (s.rd (ETP_RX_BUF_DROP k) + 1) % 2 ^ 32 ∧ Raises (ETP_NOTE_BUF_DROP k) s t
      else t.rd (ETP_RX_FCS_ERR k) = (s.rd (ETP_RX_FCS_ERR k) + 1) % 2 ^ 32 ∧ Raises (ETP_NOTE_FCS_ERR k) s t := by
  dsimp only
  rw [State.frameRx_faulty s f ns check up bad]
  split
  · exact s.dropped (n := ETP_NOTE_SIZE_ERR k) (by interval_cases k <;> decide) (by interval_cases k <;> decide) (by interval_cases k <;> decide) (by interval_cases k <;> decide)
  split
  · exact s.dropped (n := ETP_NOTE_SIZE_ERR k) (by interval_cases k <;> decide) (by interval_cases k <;> decide) (by interval_cases k <;> decide) (by interval_cases k <;> decide)
  split
  · exact s.dropped (n := ETP_NOTE_BUF_DROP k) (by interval_cases k <;> decide) (by interval_cases k <;> decide) (by interval_cases k <;> decide) (by interval_cases k <;> decide)
  · exact s.dropped (n := ETP_NOTE_FCS_ERR k) (by interval_cases k <;> decide) (by interval_cases k <;> decide) (by interval_cases k <;> decide) (by interval_cases k <;> decide)

/-- A frame that finds no room, or that PFC keeps out, is counted and dropped. -/
theorem State.frameRx_full (s : State) (hk : k < 6) (up : s.portUp k = true) (short : 64 ≤ len) (long : len ≤ 9216) (data : f.control = none)
    (full : s.bufferRoom k (ceilDiv len 256) = false ∨ s.pfcDrops k (s.classOf f k) = true) : let t := s.frameRx k len f .good ns
    t.swf = s.swf ∧ t.rd (ETP_RX_OK k) = s.rd (ETP_RX_OK k) ∧
      if s.bufferRoom k (ceilDiv len 256) = false then
        t.rd (ETP_RX_BUF_DROP k) = (s.rd (ETP_RX_BUF_DROP k) + 1) % 2 ^ 32 ∧ Raises (ETP_NOTE_BUF_DROP k) s t
      else t.rd (ETP_PFC_DROP k) = (s.rd (ETP_PFC_DROP k) + 1) % 2 ^ 32 := by
  dsimp only
  rw [State.frameRx_data s f ns .good (by decide) up short long data]
  split
  · exact s.dropped (n := ETP_NOTE_BUF_DROP k) (by interval_cases k <;> decide) (by interval_cases k <;> decide) (by interval_cases k <;> decide) (by interval_cases k <;> decide)
  next room =>
    rw [if_neg (by decide), if_pos (full.resolve_left room)]
    exact ⟨rfl, State.rd_count_ne s 1 (by interval_cases k <;> decide), State.rd_count_self _ _ _⟩

/-- A frame whose carry check fails on its way into the buffer is counted and dropped. -/
theorem State.frameRx_lost (s : State) (hk : k < 6) (up : s.portUp k = true) (short : 64 ≤ len) (long : len ≤ 9216) (data : f.control = none)
    (room : s.bufferRoom k (ceilDiv len 256) = true) : let t := s.frameRx k len f .badCarry ns
    t.swf = s.swf ∧ t.rd (ETP_RX_OK k) = s.rd (ETP_RX_OK k) ∧ t.rd SWF_ECC_DROP = (s.rd SWF_ECC_DROP + 1) % 2 ^ 32 ∧ Noted SWF_NOTE_ECC_DROP t := by
  obtain ⟨swf, count, note, ok⟩ := s.frameLost_spec hk
  dsimp only
  rw [State.frameRx_data s f ns .badCarry (by decide) up short long data, room, if_neg (by decide), if_pos rfl]
  exact ⟨swf, ok, count, note⟩

/-- What a received PAUSE does to a port that takes it (R389). -/
theorem State.controlRx_pause (b : List Nat) (rx : s.rd (ETP_FC_PAUSE_RX k) = 1) (pfc : s.rd (ETP_FC_PFC_EN k) = 0) (hk : k < 6) :
    let t := s.controlRx k 1 b
    t.rd (ETP_RX_PAUSE k) = (s.rd (ETP_RX_PAUSE k) + 1) % 2 ^ 32 ∧ t.rd (ETP_RX_OK k) = s.rd (ETP_RX_OK k) ∧
      t.rd (ETP_STATUS_PAUSED k) = (if beN b 4 2 = 0 then 0 else 1) ∧
      (beN b 4 2 ≠ 0 → Sparse.get t.swf.pauses (9 * k + 8) = some (s.time.raw * 40 + beN b 4 2 * quantum (s.rd (ETP_STATUS_SPEED k)))) ∧
      t.swf.queues = s.swf.queues := by
  have rx' : (s.count (ETP_RX_PAUSE k) 1).rdB (ETP_FC_PAUSE_RX k) = true :=
    State.rdB_of ((State.rd_count_ne s 1 (by interval_cases k <;> decide)).trans rx)
  have pfc' : (s.count (ETP_RX_PAUSE k) 1).rdB (ETP_FC_PFC_EN k) = false :=
    State.rdB_of_zero ((State.rd_count_ne s 1 (by interval_cases k <;> decide)).trans pfc)
  have speed : (s.count (ETP_RX_PAUSE k) 1).rd (ETP_STATUS_SPEED k) = s.rd (ETP_STATUS_SPEED k) :=
    State.rd_count_ne s 1 (by interval_cases k <;> decide)
  have is : s.controlRx k 1 b = ((s.count (ETP_RX_PAUSE k) 1).pauseFor k 8 (beN b 4 2)).showPause k := by
    rw [State.controlRx, rx', pfc']
    rfl
  rw [is]
  generalize paused : (s.count (ETP_RX_PAUSE k) 1).pauseFor k 8 (beN b 4 2) = u
  have regs : u.regs = (s.count (ETP_RX_PAUSE k) 1).regs := by
    rw [← paused, State.pauseFor]
    split <;> rfl
  have queues : u.swf.queues = s.swf.queues := by
    rw [← paused, State.pauseFor]
    split <;> rfl
  have pauses : Sparse.get u.swf.pauses (9 * k + 8) =
      if beN b 4 2 = 0 then none else some (s.time.raw * 40 + beN b 4 2 * quantum (s.rd (ETP_STATUS_SPEED k))) := by
    rw [← paused, State.pauseFor]
    split
    · exact Sparse.get_erase_self _ _
    · rw [speed]
      exact Sparse.get_insert_self _ _ _
  have only : OnlyFields [ETP_STATUS_PAUSED k, ETP_STATUS_PFC_PAUSED k] u (u.showPause k) := by
    rw [State.showPause]
    exact ((OnlyFields.refl _ u).wr _ (by simp)).wr _ (by simp)
  refine ⟨?_, ?_, ?_, fun some_ => by rw [if_neg some_] at pauses; exact pauses, queues⟩
  · rw [only _ (by interval_cases k <;> decide), State.rd_congr regs, State.rd_count_self]
  · rw [only _ (by interval_cases k <;> decide), State.rd_congr regs, State.rd_count_ne s 1 (by interval_cases k <;> decide)]
  · rw [State.rd_showPause _ hk, pauses]
    split <;> rfl

/-- The fields that count a good frame. -/
def goodFields (k : Nat) : List Field := [ETP_RX_OK k, ETP_RX_BYTES_LO k, ETP_RX_BYTES_HI k]

/-- What becomes of a frame rests on nothing that a port counts. -/
theorem State.frameWay_congr {u : State} (hk : k < 6) (only : OnlyFields (goodFields k) s u) (swf : u.swf = s.swf) (win : u.win = s.win) :
    u.vidOf f k = s.vidOf f k ∧ u.classOf f k = s.classOf f k ∧ (∀ vid, u.vlanInstance vid = s.vlanInstance vid) ∧
      (∀ p i, p < 7 → u.fwdState p i = s.fwdState p i) ∧ (∀ vid, u.vlanDrops f k vid = s.vlanDrops f k vid) ∧ u.engineTakes k f = s.engineTakes k f ∧
      ∀ vid, u.egressPorts f vid k = s.egressPorts f vid k := by
  have vlan : ∀ vid, u.vlan vid = s.vlan vid := fun vid => by rw [State.vlan, State.vlan, State.w32, State.w32, State.wN_congr win]
  have inst : ∀ vid, u.vlanInstance vid = s.vlanInstance vid := fun vid => by
    rw [State.vlanInstance, State.vlanInstance, State.vlanValid, State.vlanValid, vlan]
  have member : ∀ vid p, u.vlanMember vid p = s.vlanMember vid p := fun vid p => by simp only [State.vlanMember, State.vlanValid, vlan]
  have fwd : ∀ p i, p < 7 → u.fwdState p i = s.fwdState p i := fun p i hp => by
    rw [State.fwdState, State.fwdState]
    split
    · rfl
    · rw [only _ (by interval_cases k <;> interval_cases p <;> decide)]
  refine ⟨?_, ?_, inst, fwd, fun vid => ?_, ?_, fun vid => ?_⟩
  · rw [State.vidOf, State.vidOf, only _ (by interval_cases k <;> decide)]
  · rw [State.classOf, State.classOf, only (ETP_VLAN_PCP k) (by interval_cases k <;> decide), only (ETP_PCP_MAP k) (by interval_cases k <;> decide)]
  · rw [State.vlanDrops, State.vlanDrops, State.rdB, State.rdB, member, only (ETP_VLAN_ACCEPT k) (by interval_cases k <;> decide),
      only (ETP_VLAN_INGRESS_FILTER k) (by interval_cases k <;> decide)]
  · have tim : ∀ g : Field, g.page = 0x18 → u.rd g = s.rd g := fun g page => only g fun h mem => by
      intro same
      rw [Field.page, same, ← Field.page] at page
      simp only [goodFields, List.mem_cons, List.not_mem_nil, or_false] at mem
      rcases mem with rfl | rfl | rfl <;> interval_cases k <;> revert page <;> decide
    have ports := tim TIM_PTP_XPORT_PORTS rfl
    have role := tim TIM_CTRL_ROLE rfl
    have domain : u.ptpDomain = s.ptpDomain := by rw [State.ptpDomain, State.ptpDomain, tim TIM_PTP_DOMAIN rfl]
    have runs : u.ptpRuns = s.ptpRuns := by
      rw [State.ptpRuns, State.ptpRuns, State.timHost, State.timHost, State.rdB, State.rdB, role, tim TIM_CTRL_PTP_EN rfl]
    have port : u.ptpPort k = s.ptpPort k := by rw [State.ptpPort, State.ptpPort, ports, role]
    rw [State.engineTakes, State.engineTakes, runs, port, domain, tim TIM_PTP_XPORT_TRANSPORT rfl]
  · have to_ : ∀ p, p ∈ List.range 7 → u.fwdState p (u.vlanInstance vid) = s.fwdState p (s.vlanInstance vid) := fun p hp => by
      rw [inst, fwd p _ (List.mem_range.mp hp)]
    have members : (List.range 7).filter (u.vlanMember vid) = (List.range 7).filter (s.vlanMember vid) := by
      rw [show u.vlanMember vid = s.vlanMember vid from funext (member vid)]
    have find : u.fdbFind f.dst vid = s.fdbFind f.dst vid := by rw [State.fdbFind, State.fdbFind, swf]
    rw [State.egressPorts, State.egressPorts, members, find]
    refine List.filter_congr fun p mem => ?_
    have small : p ∈ List.range 7 := by
      revert mem
      split
      · split <;> exact List.mem_of_mem_filter
      · exact List.mem_of_mem_filter
    rw [to_ p small]

/-- A good frame's way past the port's counters. -/
theorem State.frameRx_good (hk : k < 6) (up : s.portUp k = true) (short : 64 ≤ len) (long : len ≤ 9216) (data : f.control = none)
    (room : s.bufferRoom k (ceilDiv len 256) = true) (pfc : s.pfcDrops k (s.classOf f k) = false) (engine : s.engineTakes k f = false)
    (local_ : f.linkLocal = false) :
    let vid := s.vidOf f k
    let state := s.fwdState k (s.vlanInstance vid)
    let cls := s.classOf f k
    let t := s.frameRx k len f .good ns
    t.rd (ETP_RX_OK k) = (s.rd (ETP_RX_OK k) + 1) % 2 ^ 32 ∧
      if s.vlanDrops f k vid = true then t.swf = s.swf ∧ t.rd (ETP_RX_VLAN_DROP k) = (s.rd (ETP_RX_VLAN_DROP k) + 1) % 2 ^ 32
      else if state < 2 then t.swf = s.swf
      else if state = 2 then
        t.swf.queues = s.swf.queues ∧
        (s.rd SWF_CTRL_LEARN_EN = 1 → s.fdbFind f.src vid = none → ∀ i, s.fdbPlace f.src vid = some i →
          t.swf.fdb = Sparse.insert s.swf.fdb i ⟨f.src, vid, 2 ^ k, false, s.time.raw, s.moduleTime⟩)
      else ∀ p, s.rd SWF_CTRL_LEARN_EN = 0 → s.egressPorts f vid k = [p] → (p = 6 ∨ cellSum (s.swQueue p cls) < s.rd (ETP_QLIM_CELLS p)) →
        t.swQueue p cls = s.swQueue p cls ++ [⟨s.swf.nextId + 1, f, k, cls, vid, s.rxStamp k ns, false, false, none⟩] ∧
        t.swf.nextId = s.swf.nextId + 1 ∧ ∀ q d, q < 7 → d < 8 → (q, d) ≠ (p, cls) → t.swQueue q d = s.swQueue q d := by
  generalize counts : (s.count (ETP_RX_OK k) 1).countBytes (ETP_RX_BYTES_LO k) (ETP_RX_BYTES_HI k) len = u
  have only : OnlyFields (goodFields k) s u := by
    rw [← counts]
    exact State.countBytes_only ((OnlyFields.refl _ s).count 1 (by simp [goodFields])) len (by simp [goodFields]) (by simp [goodFields])
  have ok : u.rd (ETP_RX_OK k) = (s.rd (ETP_RX_OK k) + 1) % 2 ^ 32 := by
    rw [← counts, State.countBytes_only (l := [ETP_RX_BYTES_LO k, ETP_RX_BYTES_HI k]) (.refl _ _) len (by simp) (by simp) _
      (by interval_cases k <;> decide)]
    exact State.rd_count_self _ _ _
  have swf : u.swf = s.swf := by rw [← counts]; rfl
  have win : u.win = s.win := by rw [← counts]; rfl
  have time : u.time = s.time := by rw [← counts]; rfl
  have is : s.frameRx k len f .good ns = u.forward k f (s.rxStamp k ns) := by
    rw [State.frameRx_data s f ns .good (by decide) up short long data, room, pfc, counts]
    rfl
  obtain ⟨vid, cls, inst, fwd, drops, engine', ports⟩ := State.frameWay_congr f hk only swf win
  rw [is]
  refine ⟨?_, ?_⟩
  · rw [State.forward_only u k f _ (engine'.trans engine) local_ _ ?_, ok]
    interval_cases k <;> decide
  have inst' : u.fwdState k (u.vlanInstance (u.vidOf f k)) = s.fwdState k (s.vlanInstance (s.vidOf f k)) := by rw [vid, inst, fwd k _ (by omega)]
  have way := State.forward_data (s.rxStamp k ns) (engine'.trans engine) local_
  rw [inst', vid, drops] at way
  rw [way]
  have bound := s.fwdState_le k (s.vlanInstance (s.vidOf f k))
  split
  · refine ⟨swf, ?_⟩
    rw [State.rd_count_self, only _ (by interval_cases k <;> decide)]
  split
  · exact swf
  split
  · obtain ⟨l, learned⟩ := u.learn_swf f.src (s.vidOf f k) k
    refine ⟨by rw [learned, swf], fun on new i place => ?_⟩
    have on' : u.rd SWF_CTRL_LEARN_EN = 1 := (only _ (by interval_cases k <;> decide)).trans on
    have rate : u.rd TIM_RATE = s.rd TIM_RATE := only _ (by interval_cases k <;> decide)
    have new' : u.fdbFind f.src (s.vidOf f k) = none := by rw [State.fdbFind, swf]; exact new
    have place' : u.fdbPlace f.src (s.vidOf f k) = some i := by rw [State.fdbPlace, swf]; exact place
    rw [State.learn_new k on' new' place', swf, time, State.moduleTime_congr time rate]
  · intro p off one room'
    have off' : u.rdB SWF_CTRL_LEARN_EN = false := State.rdB_of_zero ((only _ (by interval_cases k <;> decide)).trans off)
    have learned : u.learn f.src (s.vidOf f k) k = u := by
      rw [State.learn, off']
      rfl
    have hp : p < 7 := State.egressPorts_lt (by rw [one]; exact List.mem_singleton_self p)
    have same : u.swQueue p (s.classOf f k) = s.swQueue p (s.classOf f k) := State.swQueue_congr (by rw [swf]) _ _
    have limit : u.rd (ETP_QLIM_CELLS p) = s.rd (ETP_QLIM_CELLS p) := only _ (by interval_cases k <;> interval_cases p <;> decide)
    have joins := State.swEnqueue_room u (u.rxFrame k f (s.rxStamp k ns)) hp (by rw [State.rxFrame, cls]; exact bitsOf_lt _ _ 3)
      (by rw [State.rxFrame, cls, same, limit]; exact room')
    rw [learned, ports, one, State.admitFrame, if_neg (by simp), State.rxFrame, cls, vid]
    rw [State.rxFrame, cls, vid, swf, same] at joins
    obtain ⟨queue, next, others⟩ := joins
    exact ⟨queue, next, fun q d hq hd ne => (others q d hq hd ne).trans (State.swQueue_congr (by rw [swf]) _ _)⟩

end

end Sys2Proof.Machine

namespace Sys2Proof

open Machine

/-- Settles O47: the reception of a frame, branch by branch, in the state that its port takes it in. -/
theorem switchReceivesFrames : Obligations.SwitchReceivesFrames := by
  unfold Obligations.SwitchReceivesFrames
  refine ⟨fun s k c len f check ns fabric live hk down => ?_, fun s k c len f check ns fabric live hk doze ready => ?_,
    fun s k c len f check ns fabric live hk up bad => ?_, fun s k c len f ns fabric live hk up short long control rx pfc => ?_,
    fun s k c len f ns fabric live hk up short long data room => ?_, fun s k c len f ns fabric live hk up short long data full => ?_,
    fun s k c len f ns fabric live hk up short long data room pfc engine local_ => ?_⟩
  all_goals
    refine State.etpFrameReceived_next c len f _ ns fabric live hk ?_
  · exact State.frameRx_down c len f ns check down
  · have kept := State.frameRx_kept (T := Touches 0x4407f00020101000002) (.refl (s.awakeAt c)) k len f check ns fun _ h => h
    have domains : ((s.awakeAt c).frameRx k len f check ns).domains = (s.awakeAt c).domains := kept.frame .domains (by decide)
    rw [State.domain, domains]
    exact State.domain_awakeAt c doze ready
  all_goals
    obtain ⟨d, is⟩ := s.awakeAt_eq c
    rw [is]
  · exact State.frameRx_faulty_spec len f ns _ hk check up bad
  · have pause := State.controlRx_pause (s := { s with time := (s.reach c).time, domains := d }) f.body rx pfc hk
    rw [State.frameRx_control { s with time := (s.reach c).time, domains := d } f ns up short long control]
    exact pause
  · exact State.frameRx_lost len f ns _ hk up short long data room
  · exact State.frameRx_full len f ns _ hk up short long data full
  · have good := State.frameRx_good (s := { s with time := (s.reach c).time, domains := d }) len f ns hk up short long data room pfc engine local_
    have now : State.moduleTime { s with time := (s.reach c).time, domains := d } = (s.reach c).moduleTime :=
      State.moduleTime_congr rfl (State.rd_reach s c _).symm
    have stamp : State.rxStamp { s with time := (s.reach c).time, domains := d } k ns = s.rxStamp k ns := by
      obtain ⟨ta, ca⟩ := s.reach_base c
      simp only [State.rxStamp, State.stampAt, ta, ca]
      rfl
    rw [now, stamp] at good
    exact good

end Sys2Proof
end

section
/-! SUPPORT. Frames sent at the external ports of the switch, pauses, low-power idle, stepping and link changes (O48). -/

namespace Sys2Proof.Machine

/-! ### The class to be served (R384) -/

theorem State.ready_of {s : State} (none_ : s.swf.pauses = []) (k c : Nat) : s.ready k c = !(s.swQueue k c).isEmpty := by
  rw [State.ready, none_]
  exact Bool.and_true _

theorem nextTurn_none {ready : Nat → Bool} {spMin : Nat} (small : spMin ≤ 8) (idle : ∀ d < 8, ready d = false) (n c : Nat) :
    nextTurn ready spMin c n = none := by
  induction n generalizing c with
  | zero => rfl
  | succ n ih =>
    have d : (if c = 0 ∨ spMin ≤ c then spMin - 1 else c - 1) < 8 := by
      split <;> omega
    rw [nextTurn, idle _ d, if_neg (by decide), ih]

theorem State.chooseClass_none {s : State} {k : Nat} (idle : ∀ d < 8, s.ready k d = false) : s.chooseClass k = none := by
  have small : s.rd (ETP_SCHED_SP_MIN k) < 8 := State.rd_lt s (ETP_SCHED_SP_MIN k)
  have strict : ((List.range 8).reverse.find? fun c => s.rd (ETP_SCHED_SP_MIN k) ≤ c && s.ready k c) = none :=
    List.find?_eq_none.mpr fun c mem => by simp [idle c (List.mem_range.mp (List.mem_reverse.mp mem))]
  have turn : ¬((s.swf.turns.getD k 0 < s.rd (ETP_SCHED_SP_MIN k) && s.ready k (s.swf.turns.getD k 0)) = true) := fun h => by
    simp only [Bool.and_eq_true, decide_eq_true_eq] at h
    have busy := h.2
    rw [idle _ (by omega)] at busy
    cases busy
  rw [State.chooseClass, strict]
  dsimp only
  rw [State.drr, if_neg (by rw [Bool.and_eq_true]; exact fun h => turn h.1), nextTurn_none (by omega) idle]

/-- The highest class from SP_MIN on that is ready is served. -/
theorem State.chooseClass_strict {s : State} {k d : Nat} (hd : d < 8) (min_ : s.rd (ETP_SCHED_SP_MIN k) ≤ d) (ready : s.ready k d = true)
    (above : ∀ e, d < e → e < 8 → s.ready k e = false) : s.chooseClass k = some (d, s) := by
  have first : ((List.range 8).reverse.find? fun c => s.rd (ETP_SCHED_SP_MIN k) ≤ c && s.ready k c) = some d := by
    have order : (List.range 8).reverse = (List.range 8).reverse.takeWhile (fun c => Decidable.decide (d < c)) ++ d :: (List.range d).reverse := by
      clear ready above min_
      interval_cases d <;> decide
    rw [order, List.find?_append, List.find?_eq_none.mpr, Option.none_or, List.find?_cons_of_pos]
    · simp [min_, ready]
    · intro c mem
      have big : d < c := by simpa using List.mem_takeWhile_imp mem
      have small : c < 8 := List.mem_range.mp (List.mem_reverse.mp ((List.takeWhile_sublist _).mem mem))
      simp [above c big small]
  rw [State.chooseClass, first]

/-! ### Pauses -/

/-- The pauses of a port whose time has run out are gone. -/
def State.pausesEnded (s : State) (k : Nat) : State :=
  { s with swf := { s.swf with pauses := s.swf.pauses.filter fun p => p.1 / 9 != k || s.time.raw * 40 < p.2 } }

theorem State.pauseSweep_eq (s : State) (k : Nat) : s.pauseSweep k = (s.pausesEnded k).showPause k := rfl

theorem State.showPause_swf (s : State) (k : Nat) : (s.showPause k).swf = s.swf := by
  rw [State.showPause, State.wrB, State.wr_swf, State.wr_swf]

theorem State.showPause_only (s : State) (k : Nat) : OnlyFields [ETP_STATUS_PAUSED k, ETP_STATUS_PFC_PAUSED k] s (s.showPause k) := by
  rw [State.showPause]
  exact ((OnlyFields.refl _ s).wr _ (by simp)).wr _ (by simp)

theorem State.pauseSweep_only (s : State) (k : Nat) : OnlyFields [ETP_STATUS_PAUSED k, ETP_STATUS_PFC_PAUSED k] s (s.pauseSweep k) := by
  have ended : OnlyFields [ETP_STATUS_PAUSED k, ETP_STATUS_PFC_PAUSED k] s (s.pausesEnded k) := OnlyFields.of_regs rfl
  exact ended.trans ((s.pausesEnded k).showPause_only k)

/-- With no pause running, the sweep shows so. -/
theorem State.pauseSweep_none {s : State} {k : Nat} (hk : k < 6) (none_ : s.swf.pauses = []) :
    (s.pauseSweep k).swf = s.swf ∧ (s.pauseSweep k).rd (ETP_STATUS_PAUSED k) = 0 := by
  have empty : (s.pauseSweep k).swf.pauses = [] := by
    rw [State.pauseSweep_eq, State.showPause_swf, State.pausesEnded, none_]
    rfl
  refine ⟨?_, ?_⟩
  · rw [State.pauseSweep_eq, State.showPause_swf, State.pausesEnded, none_]
    cases h : s.swf
    rw [h] at none_
    dsimp only at none_
    rw [none_]
    rfl
  · rw [State.pauseSweep_eq, State.rd_showPause _ hk, State.pausesEnded, none_]
    rfl

theorem State.pauseFall_only (s : State) (k : Nat) : OnlyFields [ETP_TX_PAUSE k] s (s.pauseFall k) := by
  rw [State.pauseFall]
  split
  · exact (OnlyFields.of_regs rfl).trans (State.sendPause_only _ k _)
  · exact .refl _ s

/-- The counters of the pauses that the ports send. -/
def pauseCounts : List Field := (List.range 6).map ETP_TX_PAUSE

theorem State.pauseFalls_only (s : State) : OnlyFields pauseCounts s s.pauseFalls :=
  List.foldlRecOn (motive := OnlyFields pauseCounts s) _ _ (.refl _ s) fun t h k mem =>
    h.trans ((t.pauseFall_only k).mono (List.cons_subset.mpr ⟨List.mem_map_of_mem mem, List.nil_subset _⟩))

theorem State.pauseFalls_pauses (s : State) : s.pauseFalls.swf.pauses = s.swf.pauses :=
  List.foldlRecOn (motive := fun t : State => t.swf.pauses = s.swf.pauses) _ _ rfl fun t h k _ => by
    refine Eq.trans ?_ h
    rw [State.pauseFall]
    split
    · rw [State.sendPause]
      split <;> rfl
    · rfl

/-- What has left the module before the pauses fall has left it after. -/
theorem State.pauseFalls_emitted (s : State) : s.emitted <+: s.pauseFalls.emitted :=
  (State.pauseFalls_kept (T := Touches 0x7e00000001000002) (.refl s) fun _ h => h).emitted

/-! ### A frame leaves (R384, R399, R413) -/

/-- Two states in which a frame leaves a port alike: the VLAN table, the time line and the fields that its egress form and stamp read. -/
structure SameEgress (s u : State) : Prop where
  tim : ∀ g : Field, g.page = 0x18 → u.rd g = s.rd g
  pcp : ∀ j, u.rd (ETP_VLAN_PCP j) = s.rd (ETP_VLAN_PCP j)
  win : u.win = s.win
  time : u.time = s.time

theorem SameEgress.trans {s t u : State} (h : SameEgress s t) (k : SameEgress t u) : SameEgress s u :=
  ⟨fun g page => (k.tim g page).trans (h.tim g page), fun j => (k.pcp j).trans (h.pcp j), k.win.trans h.win, k.time.trans h.time⟩

theorem SameEgress.form {s u : State} (h : SameEgress s u) (f : SwFrame) (k : Nat) : u.egressForm f k = s.egressForm f k := by
  have untag : u.vlanUntag f.vid k = s.vlanUntag f.vid k := by
    rw [State.vlanUntag, State.vlanUntag, State.vlanValid, State.vlanValid, State.vlan, State.vlan, State.w32, State.w32, State.wN_congr h.win]
  rw [State.egressForm, State.egressForm, untag, h.pcp]

theorem SameEgress.corrects {s u : State} (h : SameEgress s u) (f : SwFrame) : u.corrects f = s.corrects f := by
  have domain : u.ptpDomain = s.ptpDomain := by rw [State.ptpDomain, State.ptpDomain, h.tim TIM_PTP_DOMAIN rfl]
  rw [State.corrects, State.corrects, domain, State.rdB, State.rdB, h.tim TIM_CTRL_TC_EN rfl, h.tim TIM_CTRL_ROLE rfl]

theorem SameEgress.stamp {s u : State} (h : SameEgress s u) {k : Nat} (hk : k < 6) (ns : Int) : u.txStamp k ns = s.txStamp k ns := by
  have rate : u.rate = s.rate := by rw [State.rate, State.rate, State.rdS, State.rdS, h.tim TIM_RATE rfl]
  have lat : u.rdS (TIM_LAT_TX k) = s.rdS (TIM_LAT_TX k) := by
    rw [State.rdS, State.rdS, h.tim _ (by interval_cases k <;> rfl)]
  rw [State.txStamp, State.txStamp, lat, State.stampAt, State.stampAt, rate, h.time]

/-- A frame that fits leaves in its egress form with the instant of its start, and counts unless its check sequence is inverted. -/
theorem State.sendFrame_of {s : State} {k : Nat} {f : SwFrame} (ns : Int) (bad : Bool) (fits : (s.egressForm f k).size ≤ 9216)
    (plain : s.corrects f = false) (unnamed : f.tsId = none) :
    s.sendFrame k f ns bad =
      let t := s.emit (.ether k (s.egressForm f k) (s.txStamp k ns) bad)
      if bad then t else (t.count (ETP_TX_OK k) 1).countBytes (ETP_TX_BYTES_LO k) (ETP_TX_BYTES_HI k) (s.egressForm f k).size := by
  rw [State.sendFrame, if_neg (by omega), plain, unnamed]
  rfl

/-- The queue gives its first frame, and a class that has become empty loses its deficit. -/
def State.dequeued (s : State) (k d : Nat) (rest : List SwFrame) : State := (s.setSwQueue k d rest).settleDeficit k d

theorem State.settleDeficit_parts (s : State) (k c : Nat) : ∃ l, s.settleDeficit k c = { s with swf := { s.swf with deficits := l } } := by
  rw [State.settleDeficit]
  split
  · exact ⟨_, rfl⟩
  · exact ⟨s.swf.deficits, rfl⟩

theorem State.dequeued_spec (s : State) {k d : Nat} (hk : k < 7) (hd : d < 8) (rest : List SwFrame) : let t := s.dequeued k d rest
    t.regs = s.regs ∧ t.emitted = s.emitted ∧ t.win = s.win ∧ t.time = s.time ∧ t.swQueue k d = rest ∧
      ∀ q e, q < 7 → e < 8 → (q, e) ≠ (k, d) → t.swQueue q e = s.swQueue q e := by
  obtain ⟨l, is⟩ := (s.setSwQueue k d rest).settleDeficit_parts k d
  have queues : (s.dequeued k d rest).swf.queues = (s.setSwQueue k d rest).swf.queues := by rw [State.dequeued, is]
  dsimp only
  refine ⟨by rw [State.dequeued, is]; rfl, by rw [State.dequeued, is]; rfl, by rw [State.dequeued, is]; rfl, by rw [State.dequeued, is]; rfl, ?_,
    fun q e hq he ne => ?_⟩
  · rw [State.swQueue_congr queues, State.swQueue_setSwQueue_same _ _ (by omega)]
  · rw [State.swQueue_congr queues, State.swQueue_setSwQueue_ne _ _ (by omega) (by simp only [ne_eq, Prod.mk.injEq] at ne; omega)]

/-- What a cell error of a stored frame changes: its count and notice, and nothing that a frame's leaving reads (R399). -/
theorem State.cellError_spec (s : State) (carry : Bool) {k : Nat} : let t := s.eccDrop carry (0x11 + k)
    t.swf = s.swf ∧ SameEgress s t ∧ s.emitted <+: t.emitted ∧ t.rd SWF_ECC_DROP = (s.rd SWF_ECC_DROP + 1) % 2 ^ 32 ∧ Noted SWF_NOTE_ECC_DROP t ∧
      ∀ g : Field, 0x11 ≤ g.page → g.page ≤ 0x16 → t.rd g = s.rd g := by
  have kept := State.eccDrop_kept (T := Touches 0x4400100020100000006) (.refl s) carry (0x11 + k) fun _ h => h
  obtain ⟨swf, count, -, -⟩ := s.counted_noticed (f := SWF_ECC_DROP) (n := SWF_NOTE_ECC_DROP) (by decide) (by decide) (by decide)
  have noted := State.noted_notice (s.count SWF_ECC_DROP 1) SWF_NOTE_ECC_DROP (by decide)
  have ports : ∀ g : Field, 0x11 ≤ g.page → g.page ≤ 0x16 → (s.eccDrop carry (0x11 + k)).rd g = s.rd g := fun g low high =>
    kept.rd_eq g (by rw [Field.slot]; interval_cases g.page <;> decide)
  have tail : (s.eccDrop carry (0x11 + k)).rd SWF_ECC_DROP = ((s.count SWF_ECC_DROP 1).notice SWF_NOTE_ECC_DROP).rd SWF_ECC_DROP ∧
      (s.eccDrop carry (0x11 + k)).rd (NOTE_RAW 0x10) = ((s.count SWF_ECC_DROP 1).notice SWF_NOTE_ECC_DROP).rd (NOTE_RAW 0x10) := by
    rw [State.eccDrop]
    split
    · have carries := State.itgCarry_kept (T := Touches 0x4400000020100000002) (.refl ((s.count SWF_ECC_DROP 1).notice SWF_NOTE_ECC_DROP)) (0x11 + k) 0x10
        fun _ h => h
      exact ⟨carries.rd_eq _ (by decide), carries.rd_eq _ (by decide)⟩
    · have reads := State.itgReadError_kept (T := Touches 0x4400000020100000006) (.refl ((s.count SWF_ECC_DROP 1).notice SWF_NOTE_ECC_DROP)) 1 0x10
        fun _ h => h
      exact ⟨reads.rd_eq _ (by decide), reads.rd_eq _ (by decide)⟩
  refine ⟨kept.frame .swf (by decide), ⟨fun g page => kept.rd_eq g (by rw [Field.slot, page]; decide), fun j => ports _ ?_ ?_, ?_, ?_⟩, kept.emitted,
    tail.1.trans count, Noted.congr noted tail.2, ports⟩
  · rw [Field.page, Field.key]
    dsimp only
    omega
  · rw [Field.page, Field.key]
    dsimp only
    omega
  · exact kept.frame .windows (by decide)
  · exact kept.frame .time (by decide)

/-- The sweep of a port's pauses changes nothing that a frame's leaving reads. -/
theorem State.pauseSweep_same (s : State) {k : Nat} : SameEgress s (s.pauseSweep k) := by
  have kept := State.pauseSweep_kept (T := Touches 0x7e00000001000000) (.refl s) k fun _ h => h
  refine ⟨fun g page => kept.rd_eq g (by rw [Field.slot, page]; decide), fun j => s.pauseSweep_only k _ ?_, kept.frame .windows (by decide),
    kept.frame .time (by decide)⟩
  simp only [List.mem_cons, List.not_mem_nil, or_false, forall_eq_or_imp, forall_eq, Field.key]
  omega

theorem State.pauseSweep_emitted (s : State) (k : Nat) : (s.pauseSweep k).emitted = s.emitted := by
  rw [State.pauseSweep_eq, State.showPause, State.wrB, State.wr_emitted, State.wr_emitted]
  rfl

/-- A port that has nothing to send, or may not. -/
theorem State.transmit_idle {s : State} {k : Nat} (hk : k < 6) (ns : Int) (ecc : Nat) (none_ : s.swf.pauses = [])
    (idle : s.portUp k = false ∨ s.rd (ETP_STATUS_LPI_TX k) = 1 ∨ ∀ d, d < 8 → s.swQueue k d = []) : s.transmit k ns ecc = s.pauseSweep k := by
  obtain ⟨swf, -⟩ := State.pauseSweep_none hk none_
  have only := s.pauseSweep_only k
  have up : (s.pauseSweep k).portUp k = s.portUp k := by
    rw [State.portUp, State.portUp, State.rdB, State.rdB, State.rdB, only _ (by interval_cases k <;> decide),
      only (ETP_CTRL_EN k) (by interval_cases k <;> decide), only (ETP_STATUS_LINK k) (by interval_cases k <;> decide)]
    rfl
  rw [State.transmit]
  split
  · rfl
  next go =>
    rcases idle with down | sleeps | empty
    · rw [up, down] at go
      exact absurd rfl go
    · have lpi : (s.pauseSweep k).rdB (ETP_STATUS_LPI_TX k) = true := State.rdB_of ((only _ (by interval_cases k <;> decide)).trans sleeps)
      rw [lpi, Bool.or_true] at go
      exact absurd rfl go
    · rw [State.chooseClass_none fun d hd => ?_]
      rw [State.ready_of (by rw [swf]; exact none_), State.swQueue_congr (congrArg SwfUnit.queues swf), empty d hd]
      rfl

/-- The state in which a port has taken the frame that it serves. -/
def State.served (s : State) (k d : Nat) (rest : List SwFrame) : State := (s.pauseSweep k).dequeued k d rest

theorem State.transmit_serves {s : State} {k d : Nat} (hk : k < 6) (ns : Int) (ecc : Nat) {f : SwFrame} {rest : List SwFrame} (none_ : s.swf.pauses = [])
    (up : s.portUp k = true) (awake : s.rd (ETP_STATUS_LPI_TX k) = 0) (hd : d < 8) (min_ : s.rd (ETP_SCHED_SP_MIN k) ≤ d)
    (head : s.swQueue k d = f :: rest) (above : ∀ e, d < e → e < 8 → s.swQueue k e = []) :
    s.transmit k ns ecc =
      (if ecc = 1 ∨ ecc = 3 then ((s.served k d rest).eccDrop (ecc == 3) (0x11 + k)).giveUp k f.tsId
        else (if ecc = 0 then s.served k d rest else (s.served k d rest).eccDrop (ecc == 4) (0x11 + k)).sendFrame k f ns (ecc != 0)).pauseFalls := by
  obtain ⟨swf, paused⟩ := State.pauseSweep_none hk none_
  have only := s.pauseSweep_only k
  have up' : (s.pauseSweep k).portUp k = true := by
    rw [← up, State.portUp, State.portUp, State.rdB, State.rdB, State.rdB, only _ (by interval_cases k <;> decide),
      only (ETP_CTRL_EN k) (by interval_cases k <;> decide), only (ETP_STATUS_LINK k) (by interval_cases k <;> decide)]
    rfl
  have queue : ∀ e, (s.pauseSweep k).swQueue k e = s.swQueue k e := fun e => State.swQueue_congr (by rw [swf]) k e
  have ready : ∀ e, (s.pauseSweep k).ready k e = !(s.swQueue k e).isEmpty := fun e => by
    rw [State.ready_of (by rw [swf]; exact none_), queue]
  have chosen : (s.pauseSweep k).chooseClass k = some (d, s.pauseSweep k) :=
    State.chooseClass_strict hd (by rw [only _ (by interval_cases k <;> decide)]; exact min_) (by rw [ready, head]; rfl)
      fun e low high => by rw [ready, above e low high]; rfl
  have go : ¬((!(s.pauseSweep k).portUp k || (s.pauseSweep k).rdB (ETP_STATUS_PAUSED k) || (s.pauseSweep k).rdB (ETP_STATUS_LPI_TX k)) = true) := by
    rw [up', State.rdB_of_zero paused, State.rdB_of_zero ((only _ (by interval_cases k <;> decide)).trans awake)]
    decide
  rw [State.transmit, if_neg go, chosen]
  dsimp only
  rw [queue, head]
  rfl

/-- What stands in the state in which the frame has been taken. -/
theorem State.served_spec (s : State) {k d : Nat} (hk : k < 6) (hd : d < 8) (rest : List SwFrame) (none_ : s.swf.pauses = []) : let t := s.served k d rest
    OnlyFields [ETP_STATUS_PAUSED k, ETP_STATUS_PFC_PAUSED k] s t ∧ SameEgress s t ∧ t.emitted = s.emitted ∧ t.swQueue k d = rest ∧
      ∀ q e, q < 7 → e < 8 → (q, e) ≠ (k, d) → t.swQueue q e = s.swQueue q e := by
  obtain ⟨regs, emitted, win, time, queue, others⟩ := (s.pauseSweep k).dequeued_spec (k := k) (by omega) hd rest
  obtain ⟨swf, -⟩ := State.pauseSweep_none hk none_
  have same : SameEgress (s.pauseSweep k) ((s.pauseSweep k).dequeued k d rest) :=
    ⟨fun g _ => State.rd_congr regs g, fun j => State.rd_congr regs _, win, time⟩
  exact ⟨(s.pauseSweep_only k).congr regs, s.pauseSweep_same.trans same, emitted.trans (s.pauseSweep_emitted k), queue,
    fun q e hq he ne => (others q e hq he ne).trans (State.swQueue_congr (congrArg SwfUnit.queues swf) q e)⟩

section
variable {s : State} {k d : Nat} (ns : Int) {f : SwFrame} {rest : List SwFrame} (hk : k < 6) (none_ : s.swf.pauses = []) (up : s.portUp k = true)
  (awake : s.rd (ETP_STATUS_LPI_TX k) = 0) (hd : d < 8) (min_ : s.rd (ETP_SCHED_SP_MIN k) ≤ d) (head : s.swQueue k d = f :: rest)
  (above : ∀ e, d < e → e < 8 → s.swQueue k e = []) (fits : (s.egressForm f k).size ≤ 9216) (plain : s.corrects f = false) (unnamed : f.tsId = none)
include hk none_ up awake hd min_ head above fits plain unnamed

/-- A frame whose cells are good. -/
theorem State.transmit_good : let t := s.transmit k ns 0
    t.swQueue k d = rest ∧ t.rd (ETP_TX_OK k) = (s.rd (ETP_TX_OK k) + 1) % 2 ^ 32 ∧
      (∃ l, t.emitted = s.emitted ++ .ether k (s.egressForm f k) (s.txStamp k ns) false :: l) ∧
      ∀ q e, q < 7 → e < 8 → (q, e) ≠ (k, d) → t.swQueue q e = s.swQueue q e := by
  obtain ⟨only, same, emitted, queue, others⟩ := s.served_spec hk hd rest none_
  have sent := State.sendFrame_of (s := s.served k d rest) (k := k) (f := f) ns false (by rw [same.form]; exact fits) (by rw [same.corrects]; exact plain)
    unnamed
  rw [same.form, same.stamp hk] at sent
  dsimp only at sent
  rw [if_neg (by decide)] at sent
  dsimp only
  rw [State.transmit_serves hk ns 0 none_ up awake hd min_ head above, if_neg (by decide), if_pos rfl, show ((0 : Nat) != 0) = false from rfl, sent]
  generalize left : ((s.served k d rest).emit (.ether k (s.egressForm f k) (s.txStamp k ns) false)).count (ETP_TX_OK k) 1 = v
  have queues : ∀ q e, ((v.countBytes (ETP_TX_BYTES_LO k) (ETP_TX_BYTES_HI k) (s.egressForm f k).size).pauseFalls).swQueue q e = (s.served k d rest).swQueue q e :=
    fun q e => by
      rw [State.swQueue_congr (State.pauseFalls_queues _), ← left]
      rfl
  refine ⟨(queues k d).trans queue, ?_, ?_, fun q e hq he ne => (queues q e).trans (others q e hq he ne)⟩
  · rw [State.pauseFalls_only _ _ (by interval_cases k <;> decide),
      State.countBytes_only (l := [ETP_TX_BYTES_LO k, ETP_TX_BYTES_HI k]) (.refl _ v) _ (by simp) (by simp) _ (by interval_cases k <;> decide), ← left,
      State.rd_count_self]
    exact congrArg (fun n => (n + 1) % 2 ^ 32) (only _ (by interval_cases k <;> decide))
  · obtain ⟨l, more⟩ := State.pauseFalls_emitted (v.countBytes (ETP_TX_BYTES_LO k) (ETP_TX_BYTES_HI k) (s.egressForm f k).size)
    refine ⟨l, ?_⟩
    rw [← more, ← left, ← emitted]
    exact List.append_assoc _ _ _

/-- A frame whose cells fail: dropped before its start, or sent with a bad check sequence. -/
theorem State.transmit_bad {ecc : Nat} (low : 1 ≤ ecc) (high : ecc < 5) : let t := s.transmit k ns ecc
    t.swQueue k d = rest ∧ t.rd (ETP_TX_OK k) = s.rd (ETP_TX_OK k) ∧ t.rd SWF_ECC_DROP = (s.rd SWF_ECC_DROP + 1) % 2 ^ 32 ∧
      Noted SWF_NOTE_ECC_DROP t ∧ (ecc = 2 ∨ ecc = 4 → .ether k (s.egressForm f k) (s.txStamp k ns) true ∈ t.emitted) := by
  obtain ⟨only, same, emitted, queue, -⟩ := s.served_spec hk hd rest none_
  dsimp only
  rw [State.transmit_serves hk ns ecc none_ up awake hd min_ head above]
  have drops : ∀ (carry : Bool) (v : State), v.regs = ((s.served k d rest).eccDrop carry (0x11 + k)).regs →
      v.swf = ((s.served k d rest).eccDrop carry (0x11 + k)).swf →
      v.pauseFalls.swQueue k d = rest ∧ v.pauseFalls.rd (ETP_TX_OK k) = s.rd (ETP_TX_OK k) ∧
        v.pauseFalls.rd SWF_ECC_DROP = (s.rd SWF_ECC_DROP + 1) % 2 ^ 32 ∧ Noted SWF_NOTE_ECC_DROP v.pauseFalls := fun carry v regs fabric => by
    obtain ⟨swf, -, -, count, note, ports⟩ := (s.served k d rest).cellError_spec carry (k := k)
    have falls := v.pauseFalls_only
    refine ⟨?_, ?_, ?_, Noted.congr note ((falls _ (by decide)).trans (State.rd_congr regs _))⟩
    · rw [State.swQueue_congr (State.pauseFalls_queues _), State.swQueue_congr (congrArg SwfUnit.queues (fabric.trans swf)), queue]
    · rw [falls _ (by interval_cases k <;> decide), State.rd_congr regs, ports _ (by interval_cases k <;> decide) (by interval_cases k <;> decide),
        only _ (by interval_cases k <;> decide)]
    · rw [falls _ (by decide), State.rd_congr regs, count, only _ (by interval_cases k <;> decide)]
  have leaves : ∀ carry : Bool, let u := (s.served k d rest).eccDrop carry (0x11 + k)
      u.sendFrame k f ns true = u.emit (.ether k (s.egressForm f k) (s.txStamp k ns) true) := fun carry => by
    obtain ⟨-, same', -⟩ := (s.served k d rest).cellError_spec carry (k := k)
    have all := same.trans same'
    have sent := State.sendFrame_of (s := (s.served k d rest).eccDrop carry (0x11 + k)) (k := k) (f := f) ns true (by rw [all.form]; exact fits)
      (by rw [all.corrects]; exact plain) unnamed
    rw [all.form, all.stamp hk] at sent
    exact sent
  have gone : .ether k (s.egressForm f k) (s.txStamp k ns) true ∈
      (((s.served k d rest).eccDrop (ecc == 4) (0x11 + k)).emit (.ether k (s.egressForm f k) (s.txStamp k ns) true)).pauseFalls.emitted :=
    (State.pauseFalls_emitted _).subset (List.mem_append_right _ (List.mem_singleton_self _))
  by_cases before : ecc = 1 ∨ ecc = 3
  · rw [if_pos before, unnamed]
    obtain ⟨q, ok, count, note⟩ := drops (ecc == 3) _ rfl rfl
    exact ⟨q, ok, count, note, fun during => by omega⟩
  · have set_ : (ecc != 0) = true := by
      rw [bne_iff_ne]
      omega
    rw [if_neg before, if_neg (by omega), set_, leaves]
    obtain ⟨q, ok, count, note⟩ := drops (ecc == 4) (((s.served k d rest).eccDrop (ecc == 4) (0x11 + k)).emit
      (.ether k (s.egressForm f k) (s.txStamp k ns) true)) rfl rfl
    exact ⟨q, ok, count, note, fun _ => gone⟩

end

/-! ### Pauses sent again, low-power idle, and stepping (R390 to R392) -/

theorem State.sendPause_spec {s : State} {k : Nat} (hk : k < 6) (n : Nat) : let t := s.sendPause k n
    t.swf = s.swf ∧ t.rd (ETP_TX_PAUSE k) = (s.rd (ETP_TX_PAUSE k) + 1) % 2 ^ 32 ∧
      t.emitted = s.emitted ++ [if s.rd (ETP_FC_PFC_EN k) = 1 then .pfc k (s.rd (ETP_FC_PFC_CLASSES k)) n else .pause k n] := by
  have pfc : (s.count (ETP_TX_PAUSE k) 1).rd (ETP_FC_PFC_EN k) = s.rd (ETP_FC_PFC_EN k) := State.rd_count_ne s 1 (by interval_cases k <;> decide)
  have classes : (s.count (ETP_TX_PAUSE k) 1).rd (ETP_FC_PFC_CLASSES k) = s.rd (ETP_FC_PFC_CLASSES k) :=
    State.rd_count_ne s 1 (by interval_cases k <;> decide)
  have count := State.rd_count_self s (ETP_TX_PAUSE k) 1
  dsimp only
  rw [State.sendPause]
  by_cases on : s.rd (ETP_FC_PFC_EN k) = 1
  · rw [State.rdB_of (pfc.trans on), if_pos rfl, if_pos on, classes]
    exact ⟨rfl, count, rfl⟩
  · rw [State.rdB, pfc, if_neg (by simpa using on), if_neg on]
    exact ⟨rfl, count, rfl⟩

theorem State.lpiRx_spec (s : State) (k : Nat) (b : Bool) : let t := s.lpiRx k b
    if s.portUp k = true then t.rd (ETP_STATUS_LPI_RX k) = (if b then 1 else 0) ∧ OnlyFields [ETP_STATUS_LPI_RX k] s t else t = s := by
  dsimp only
  rw [State.lpiRx]
  split
  · rw [State.wrB]
    refine ⟨(State.rd_wr_self _ _ _).trans ?_, (OnlyFields.refl _ s).wr _ (by simp)⟩
    cases b <;> rfl
  · rfl

theorem State.lpiEnter_spec {s : State} {k : Nat} (hk : k < 6) : let t := if s.portIdle k then s.lpiEnter k else s
    if s.portIdle k = true ∧ s.rd (ETP_LPI_EN k) = 1 ∧ s.portUp k = true ∧ s.rd (ETP_STATUS_LPI_TX k) = 0 then
      t.rd (ETP_STATUS_LPI_TX k) = 1 ∧ t.rd (ETP_LPI_ENTRIES k) = (s.rd (ETP_LPI_ENTRIES k) + 1) % 2 ^ 32 ∧
      OnlyFields [ETP_STATUS_LPI_TX k, ETP_LPI_ENTRIES k] s t
    else t = s := by
  have enters : (s.rdB (ETP_LPI_EN k) && s.portUp k && !s.rdB (ETP_STATUS_LPI_TX k)) = true ↔
      s.rd (ETP_LPI_EN k) = 1 ∧ s.portUp k = true ∧ s.rd (ETP_STATUS_LPI_TX k) = 0 := by
    rw [Bool.and_eq_true, Bool.and_eq_true, Bool.not_eq_true', State.rdB_false (show (ETP_STATUS_LPI_TX k).width = 1 from rfl), State.rdB, beq_iff_eq, and_assoc]
  dsimp only
  by_cases idle : s.portIdle k = true
  · rw [if_pos idle, State.lpiEnter]
    by_cases go : s.rd (ETP_LPI_EN k) = 1 ∧ s.portUp k = true ∧ s.rd (ETP_STATUS_LPI_TX k) = 0
    · rw [if_pos ⟨idle, go⟩, if_pos (enters.mpr go)]
      refine ⟨(State.rd_count_ne _ 1 (by interval_cases k <;> decide)).trans (State.rd_wr_self _ _ _), (State.rd_count_self _ _ _).trans ?_,
        ((OnlyFields.refl _ s).wr 1 (by simp)).count 1 (by simp)⟩
      rw [State.rd_wr_ne _ _ (by interval_cases k <;> decide)]
    · rw [if_neg fun h => go h.2, if_neg fun h => go (enters.mp h)]
  · rw [if_neg idle, if_neg fun h => idle h.1]

theorem State.lpiWake_spec (s : State) (k : Nat) : let t := s.lpiWake k
    if s.portIdle k = true then t = s else t.rd (ETP_STATUS_LPI_TX k) = 0 ∧ OnlyFields [ETP_STATUS_LPI_TX k] s t := by
  dsimp only
  rw [State.lpiWake]
  split
  · rfl
  · exact ⟨State.rd_wr_self _ _ _, (OnlyFields.refl _ s).wr 0 (by simp)⟩

theorem State.clkCeil_le (s : State) : s.clkCeil ≤ 2 := by
  rw [State.clkCeil]
  split <;> omega

/-- The stepping decision (R392). -/
theorem State.speedStep_spec (s : State) (load100 load1 : Nat) : let t := s.speedStep load100 load1
    if s.rd SWF_STEP_EN = 0 ∨ s.rd SWF_CTRL_EN = 0 then t = s
    else
      let l := max s.clkCeil (s.rd SWF_STATUS_CLK)
      OnlyFields [SWF_STATUS_CLK] s t ∧ s.clkCeil ≤ t.rd SWF_STATUS_CLK ∧
      t.rd SWF_STATUS_CLK =
        if 75 * fabricMbits l < 100 * load1 ∨ 1024 ≤ s.cellsUsed then (if s.clkCeil < l then l - 1 else l)
        else if l < 2 ∧ 100 * load100 < 40 * fabricMbits (l + 1) then l + 1 else l := by
  have stops : (!s.rdB SWF_STEP_EN || !s.rdB SWF_CTRL_EN) = true ↔ s.rd SWF_STEP_EN = 0 ∨ s.rd SWF_CTRL_EN = 0 := by
    rw [Bool.or_eq_true, Bool.not_eq_true', Bool.not_eq_true', State.rdB_false rfl, State.rdB_false rfl]
  dsimp only
  rw [State.speedStep]
  by_cases off : s.rd SWF_STEP_EN = 0 ∨ s.rd SWF_CTRL_EN = 0
  · rw [if_pos off, if_pos (stops.mpr off)]
  rw [if_neg off, if_neg fun h => off (stops.mp h)]
  have small : s.rd SWF_STATUS_CLK < 4 := State.rd_lt s SWF_STATUS_CLK
  have ceil := s.clkCeil_le
  have clamped : s.clkClamp.rd SWF_STATUS_CLK = max s.clkCeil (s.rd SWF_STATUS_CLK) :=
    State.rd_wr_of_lt s (show max s.clkCeil (s.rd SWF_STATUS_CLK) < 4 by omega)
  have top : s.clkClamp.clkCeil = s.clkCeil := by
    rw [State.clkCeil, State.clkCeil, State.clkClamp, State.rd_wr_ne _ _ (by decide)]
    rfl
  have only : OnlyFields [SWF_STATUS_CLK] s s.clkClamp := (OnlyFields.refl _ s).wr _ (by simp)
  have used : s.clkClamp.cellsUsed = s.cellsUsed := rfl
  dsimp only
  rw [clamped, top, used]
  simp only [Bool.or_eq_true, Bool.and_eq_true, decide_eq_true_eq]
  have low : s.clkCeil ≤ max s.clkCeil (s.rd SWF_STATUS_CLK) := Nat.le_max_left _ _
  have high : max s.clkCeil (s.rd SWF_STATUS_CLK) < 4 := by omega
  generalize max s.clkCeil (s.rd SWF_STATUS_CLK) = l at clamped low high
  have writes : ∀ v < 4, s.clkCeil ≤ v → OnlyFields [SWF_STATUS_CLK] s (s.clkClamp.wr SWF_STATUS_CLK v) ∧
      s.clkCeil ≤ (s.clkClamp.wr SWF_STATUS_CLK v).rd SWF_STATUS_CLK ∧ (s.clkClamp.wr SWF_STATUS_CLK v).rd SWF_STATUS_CLK = v := fun v fits above => by
    rw [State.rd_wr_of_lt _ (show v < 2 ^ SWF_STATUS_CLK.width from fits)]
    exact ⟨only.wr v (by simp), above, rfl⟩
  have stays : OnlyFields [SWF_STATUS_CLK] s s.clkClamp ∧ s.clkCeil ≤ s.clkClamp.rd SWF_STATUS_CLK ∧ s.clkClamp.rd SWF_STATUS_CLK = l := by
    rw [clamped]
    exact ⟨only, low, rfl⟩
  split
  · split
    · exact writes _ (by omega) (by omega)
    · exact stays
  · split
    · exact writes _ (by omega) (by omega)
    · exact stays

/-! ### Link changes, port modes and forwarding states (R375, R386, R402) -/

/-- The fields that a change of a port's link may change. -/
def linkFields (k : Nat) : List Field :=
  [ETP_STATUS_LINK k, NOTE_RAW (0x11 + k % 6), MSIX_PBA, ETP_STATUS_LPI_TX k, ETP_STATUS_LPI_RX k, ETP_STATUS_PAUSED k, ETP_STATUS_PFC_PAUSED k]

/-- A lost link ends pauses and low-power idle. -/
def State.portLinkLost (s : State) (k : Nat) : State :=
  State.wrAll { s with swf := { s.swf with pauses := s.swf.pauses.filter fun p => p.1 / 9 != k } }
    [(ETP_STATUS_LPI_TX k, 0), (ETP_STATUS_LPI_RX k, 0), (ETP_STATUS_PAUSED k, 0), (ETP_STATUS_PFC_PAUSED k, 0)]

theorem State.portLinkLost_spec (s : State) {k : Nat} (hk : k < 6) : let t := s.portLinkLost k
    t.rd (ETP_STATUS_PAUSED k) = 0 ∧ t.rd (ETP_STATUS_LPI_TX k) = 0 ∧ (∀ p ∈ t.swf.pauses, p.1 / 9 ≠ k) ∧
      OnlyFields [ETP_STATUS_LPI_TX k, ETP_STATUS_LPI_RX k, ETP_STATUS_PAUSED k, ETP_STATUS_PFC_PAUSED k] s t ∧ t.swf.queues = s.swf.queues := by
  refine ⟨?_, ?_, fun p mem => ?_, ?_, rfl⟩
  · exact (State.rd_wr_ne _ _ (by interval_cases k <;> decide)).trans (State.rd_wr_self _ _ _)
  · exact (State.rd_wr_ne _ _ (by interval_cases k <;> decide)).trans ((State.rd_wr_ne _ _ (by interval_cases k <;> decide)).trans
      ((State.rd_wr_ne _ _ (by interval_cases k <;> decide)).trans (State.rd_wr_self _ _ _)))
  · have kept : p ∈ s.swf.pauses.filter fun p => p.1 / 9 != k := mem
    simpa using (List.mem_filter.mp kept).2
  · exact OnlyFields.trans (t := { s with swf := { s.swf with pauses := s.swf.pauses.filter fun p => p.1 / 9 != k } }) (.of_regs rfl)
      (OnlyFields.wrAll (.refl _ _) (by simp))

theorem State.setLink_spec (s : State) {k : Nat} (hk : k < 6) (up : Bool) : let t := s.setLink k up
    t.rd (ETP_STATUS_LINK k) = (if up then 1 else 0) ∧ (s.rdB (ETP_STATUS_LINK k) ≠ up → Noted (ETP_NOTE_LINK_CHANGE k) t) ∧
      (up = false → s.rd (ETP_STATUS_LINK k) = 1 →
        t.rd (ETP_STATUS_PAUSED k) = 0 ∧ t.rd (ETP_STATUS_LPI_TX k) = 0 ∧ ∀ p ∈ t.swf.pauses, p.1 / 9 ≠ k) ∧
      OnlyFields (linkFields k) s t ∧ t.swf.queues = s.swf.queues := by
  have one : (ETP_STATUS_LINK k).width = 1 := rfl
  dsimp only
  rw [State.setLink]
  by_cases same : s.rdB (ETP_STATUS_LINK k) = up
  · rw [if_pos same]
    refine ⟨?_, fun ne => absurd same ne, fun down is => ?_, .refl _ s, rfl⟩
    · cases up with
      | false => exact (State.rdB_false one).mp same
      | true => exact beq_iff_eq.mp same
    · rw [State.rdB_of is, down] at same
      cases same
  rw [if_neg same]
  generalize changed : (s.wrB (ETP_STATUS_LINK k) up).notice (ETP_NOTE_LINK_CHANGE k) = v
  have link : v.rd (ETP_STATUS_LINK k) = if up then 1 else 0 := by
    rw [← changed]
    refine ((State.rd_notice_ne _ _ (by interval_cases k <;> decide) (by interval_cases k <;> decide)).trans (State.rd_wr_self _ _ _)).trans ?_
    cases up <;> rfl
  have noted : Noted (ETP_NOTE_LINK_CHANGE k) v := by
    rw [← changed]
    exact State.noted_notice _ _ (by interval_cases k <;> decide)
  have only : OnlyFields (linkFields k) s v := by
    rw [← changed]
    exact ((OnlyFields.refl _ s).wr _ (by simp [linkFields])).notice _ (by simp [linkFields]) (by simp [linkFields])
  have queues : v.swf.queues = s.swf.queues := by
    rw [← changed, State.notice_swf]
    rfl
  cases up with
  | true =>
    rw [if_pos rfl]
    exact ⟨link, fun _ => noted, fun down => (by cases down), only, queues⟩
  | false =>
    rw [if_neg (by decide)]
    obtain ⟨paused, lpi, pauses, only', queues'⟩ := v.portLinkLost_spec hk
    refine ⟨(only' _ (by interval_cases k <;> decide)).trans link, fun _ => Noted.congr noted (only' _ (by interval_cases k <;> decide)),
      fun _ _ => ⟨paused, lpi, pauses⟩, only.trans (only'.mono (by simp [linkFields])), queues'.trans queues⟩

/-- A notice of the port stands through a change of its link. -/
theorem State.setLink_noted {s : State} {k : Nat} (hk : k < 6) (up : Bool) {n : Notice} (h : Noted n s) (page : n.page = 0x11 + k % 6 := by rfl) :
    Noted n (s.setLink k up) := by
  rw [State.setLink]
  split
  · exact h
  · have told : Noted n ((s.wrB (ETP_STATUS_LINK k) up).notice (ETP_NOTE_LINK_CHANGE k)) :=
      Noted.notice (Noted.wr h _ (by rw [page]; interval_cases k <;> decide)) _ page.symm (by interval_cases k <;> decide)
    split
    · exact told
    · obtain ⟨-, -, -, only, -⟩ := ((s.wrB (ETP_STATUS_LINK k) up).notice (ETP_NOTE_LINK_CHANGE k)).portLinkLost_spec hk
      exact Noted.congr told (only (NOTE_RAW n.page) (by rw [page]; interval_cases k <;> decide))

theorem State.linkChange_spec (s : State) {k : Nat} (hk : k < 6) (up : Bool) (speed : Nat) : let t := s.linkChange k up speed
    if up = true ∧ (s.rd (ETP_CTRL_EN k) = 0 ∨ s.portMode k = 0 ∨ s.modes.sieve = .full) then t = s
    else
      t.rd (ETP_STATUS_LINK k) = (if up then 1 else 0) ∧
      (up = true → t.rd (ETP_STATUS_SPEED k) = modeSpeed k (s.portMode k) speed (s.rdB (ETP_LINK_AN_EN k))) ∧
      (s.rdB (ETP_STATUS_LINK k) ≠ up → Noted (ETP_NOTE_LINK_CHANGE k) t) ∧
      (up = false → s.rd (ETP_STATUS_LINK k) = 1 →
        t.rd (ETP_STATUS_PAUSED k) = 0 ∧ t.rd (ETP_STATUS_LPI_TX k) = 0 ∧ ∀ p ∈ t.swf.pauses, p.1 / 9 ≠ k) := by
  cases up with
  | false =>
    obtain ⟨link, noted, falls, -, -⟩ := s.setLink_spec hk false
    have is : s.linkChange k false speed = s.setLink k false := rfl
    dsimp only
    rw [if_neg (fun h => by cases h.1), is]
    exact ⟨link, fun h => (by cases h), noted, falls⟩
  | true =>
    have goes : (s.rdB (ETP_CTRL_EN k) && s.portMode k != 0 && s.modes.sieve != .full) = true ↔
        ¬(s.rd (ETP_CTRL_EN k) = 0 ∨ s.portMode k = 0 ∨ s.modes.sieve = .full) := by
      rw [← State.rdB_false (show (ETP_CTRL_EN k).width = 1 from rfl)]
      cases s.rdB (ETP_CTRL_EN k) <;> simp
    have is : s.linkChange k true speed = if (s.rdB (ETP_CTRL_EN k) && s.portMode k != 0 && s.modes.sieve != .full) = true then
        (s.wr (ETP_STATUS_SPEED k) (modeSpeed k (s.portMode k) speed (s.rdB (ETP_LINK_AN_EN k)))).setLink k true else s := rfl
    dsimp only
    rw [is]
    by_cases bars : s.rd (ETP_CTRL_EN k) = 0 ∨ s.portMode k = 0 ∨ s.modes.sieve = .full
    · rw [if_pos ⟨rfl, bars⟩, if_neg fun h => goes.mp h bars]
    rw [if_neg fun h => bars h.2, if_pos (goes.mpr bars)]
    have fits : modeSpeed k (s.portMode k) speed (s.rdB (ETP_LINK_AN_EN k)) < 8 := by
      rw [modeSpeed]
      split
      · split <;> omega
      · split
        · split <;> omega
        · omega
    generalize modeSpeed k (s.portMode k) speed (s.rdB (ETP_LINK_AN_EN k)) = m at fits
    obtain ⟨link, noted, -, only, -⟩ := (s.wr (ETP_STATUS_SPEED k) m).setLink_spec hk true
    have before : (s.wr (ETP_STATUS_SPEED k) m).rdB (ETP_STATUS_LINK k) = s.rdB (ETP_STATUS_LINK k) := by
      rw [State.rdB, State.rdB, State.rd_wr_ne _ _ (by interval_cases k <;> decide)]
    rw [before] at noted
    exact ⟨link, fun _ => (only _ (by interval_cases k <;> decide)).trans (State.rd_wr_of_lt s fits), noted, fun h => (by cases h)⟩

/-- The class queues of a port lose the frames that `p` names. -/
def State.purged (s : State) (k : Nat) (p : SwFrame → Bool) (n : Nat) : State :=
  (List.range n).foldl (fun s c => s.setSwQueue k c ((s.swQueue k c).filter fun f => !p f)) s

theorem State.purged_spec (s : State) {k n : Nat} (hk : k < 7) (hn : n ≤ 8) (p : SwFrame → Bool) :
    (s.purged k p n).regs = s.regs ∧ ∀ d < 8, (s.purged k p n).swQueue k d = if d < n then (s.swQueue k d).filter fun f => !p f else s.swQueue k d := by
  induction n with
  | zero => exact ⟨rfl, fun d _ => rfl⟩
  | succ n ih =>
    obtain ⟨regs, queues⟩ := ih (by omega)
    have next : s.purged k p (n + 1) = (s.purged k p n).setSwQueue k n (((s.purged k p n).swQueue k n).filter fun f => !p f) := by
      rw [State.purged, List.range_succ, List.foldl_append]
      rfl
    refine ⟨by rw [next]; exact regs, fun d hd => ?_⟩
    rw [next]
    by_cases same : d = n
    · subst same
      rw [State.swQueue_setSwQueue_same _ _ (by omega), queues d hd, if_neg (Nat.lt_irrefl d), if_pos (Nat.lt_succ_self d)]
    · rw [State.swQueue_setSwQueue_ne _ _ (by omega) (by omega), queues d hd]
      by_cases low : d < n
      · rw [if_pos low, if_pos (by omega)]
      · rw [if_neg low, if_neg (by omega)]

/-- A flush empties the port's queues of the frames that `p` names, and changes no field of the ports but its own counters. -/
theorem State.flushPort_spec (s : State) {k : Nat} (hk : k < 6) (p : SwFrame → Bool) : let t := s.flushPort k p
    (∀ d < 8, t.swQueue k d = (s.swQueue k d).filter fun f => !p f) ∧
      ∀ g : Field, 0x11 ≤ g.page → g.page ≤ 0x16 → g.key ≠ (ETP_FLUSH_DROP k).key → (∀ j < 6, g.key ≠ (ETP_TX_PAUSE j).key) → t.rd g = s.rd g := by
  generalize lost : (((List.range 8).map (s.swQueue k)).flatten).filter p = gone
  have is : s.flushPort k p = (gone.foldl (fun s f => s.giveUp k f.tsId) ((s.purged k p 8).count (ETP_FLUSH_DROP k) gone.length)).pauseFalls := by
    rw [State.flushPort, State.purged, ← lost]
  have counted : ∀ d n, ((s.purged k p 8).count (ETP_FLUSH_DROP k) n).swQueue k d = (s.purged k p 8).swQueue k d := fun d n =>
    State.swQueue_congr (by rw [State.count_eq, State.wr_swf]) k d
  obtain ⟨regs, queues⟩ := s.purged_spec (k := k) (by omega) (Nat.le_refl 8) p
  have given : ∀ u : State, (gone.foldl (fun s f => s.giveUp k f.tsId) u).swf = u.swf ∧
      ∀ g : Field, 0x11 ≤ g.page → g.page ≤ 0x16 → (gone.foldl (fun s f => s.giveUp k f.tsId) u).rd g = u.rd g := fun u =>
    List.foldlRecOn (motive := fun t : State => t.swf = u.swf ∧ ∀ g : Field, 0x11 ≤ g.page → g.page ≤ 0x16 → t.rd g = u.rd g) _ _ ⟨rfl, fun _ _ _ => rfl⟩
      fun t h f _ => by
        have kept := State.giveUp_kept (T := Touches 0x430000120100004c12) (.refl t) k f.tsId fun _ h => h
        exact ⟨(kept.frame .swf (by decide)).trans h.1, fun g low high =>
          (kept.rd_eq g (by rw [Field.slot]; interval_cases g.page <;> decide)).trans (h.2 g low high)⟩
  obtain ⟨swf, fields⟩ := given ((s.purged k p 8).count (ETP_FLUSH_DROP k) gone.length)
  dsimp only
  rw [is]
  refine ⟨fun d hd => ?_, fun g low high drop pause => ?_⟩
  · rw [State.swQueue_congr (State.pauseFalls_queues _), State.swQueue_congr (congrArg SwfUnit.queues swf)]
    rw [counted, queues d hd, if_pos hd]
  · rw [State.pauseFalls_only _ g (by simpa [pauseCounts] using pause), fields g low high, State.rd_count_ne _ _ drop, State.rd_congr regs]

/-- A write of a port's mode (R375). -/
theorem State.etpCtrl_spec (s : State) {k mode : Nat} (hk : k < 6) (hm : mode < 4) : let t := s.etpCtrl k (s.rdB (ETP_CTRL_EN k)) mode
    t.rd (ETP_CTRL_MODE k) = mode ∧ t.rd (ETP_CTRL_EN k) = s.rd (ETP_CTRL_EN k) ∧ (mode = 3 → Noted (ETP_NOTE_CFG_ERR k) t) ∧
      (mode ≠ s.rd (ETP_CTRL_MODE k) → t.rd (ETP_STATUS_LINK k) = 0 ∧ ∀ d, d < 8 → t.swQueue k d = []) := by
  generalize written : (s.wrB (ETP_CTRL_EN k) (s.rdB (ETP_CTRL_EN k))).wr (ETP_CTRL_MODE k) mode = u
  have mode_ : u.rd (ETP_CTRL_MODE k) = mode := by
    rw [← written]
    exact State.rd_wr_of_lt _ hm
  have en : u.rd (ETP_CTRL_EN k) = s.rd (ETP_CTRL_EN k) := by
    rw [← written, State.rd_wr_ne _ _ (by interval_cases k <;> decide), State.wrB, State.rd_wr_self]
    rcases State.rd_bit s (show (ETP_CTRL_EN k).width = 1 from rfl) with zero | one
    · rw [State.rdB_of_zero zero, zero]
      rfl
    · rw [State.rdB_of one, one]
      rfl
  generalize told : u.noticeIf (mode == 3) (ETP_NOTE_CFG_ERR k) = v
  have only₁ : OnlyFields [NOTE_RAW (0x11 + k % 6), MSIX_PBA] u v := by
    rw [← told]
    exact (OnlyFields.refl _ u).noticeIf _ _ (by simp) (by simp)
  have noted : mode = 3 → Noted (ETP_NOTE_CFG_ERR k) v := by
    rintro rfl
    rw [← told]
    exact State.noted_notice u _ (by interval_cases k <;> decide)
  generalize linked : (if (mode != s.rd (ETP_CTRL_MODE k) || !s.rdB (ETP_CTRL_EN k)) = true then v.setLink k false else v) = w
  obtain ⟨link, -, -, falls, -⟩ := v.setLink_spec hk false
  have only₂ : OnlyFields (linkFields k) v w := by
    rw [← linked]
    split
    · exact falls
    · exact .refl _ v
  have down : mode ≠ s.rd (ETP_CTRL_MODE k) → w.rd (ETP_STATUS_LINK k) = 0 := fun changed => by
    rw [← linked, if_pos (by rw [bne_iff_ne.mpr changed, Bool.true_or])]
    exact link
  have raised : mode = 3 → Noted (ETP_NOTE_CFG_ERR k) w := fun is => by
    rw [← linked]
    split
    · exact State.setLink_noted hk false (noted is)
    · exact noted is
  have is : s.etpCtrl k (s.rdB (ETP_CTRL_EN k)) mode =
      if (mode != s.rd (ETP_CTRL_MODE k)) = true then w.flushPort k fun _ => true else w := by
    rw [← linked, ← told, ← written]
    rfl
  obtain ⟨queues, fields⟩ := w.flushPort_spec hk fun _ => true
  have ctrl : w.rd (ETP_CTRL_MODE k) = mode ∧ w.rd (ETP_CTRL_EN k) = s.rd (ETP_CTRL_EN k) :=
    ⟨by rw [only₂ _ (by interval_cases k <;> decide), only₁ _ (by interval_cases k <;> decide), mode_],
      by rw [only₂ _ (by interval_cases k <;> decide), only₁ _ (by interval_cases k <;> decide), en]⟩
  dsimp only
  rw [is]
  split
  next changed =>
    have keeps : ∀ g ∈ [ETP_CTRL_MODE k, ETP_CTRL_EN k, NOTE_RAW (0x11 + k % 6), ETP_STATUS_LINK k],
        (w.flushPort k fun _ => true).rd g = w.rd g := fun g mem => by
      simp only [List.mem_cons, List.not_mem_nil, or_false] at mem
      rcases mem with rfl | rfl | rfl | rfl <;>
        exact fields _ (by interval_cases k <;> decide) (by interval_cases k <;> decide) (by interval_cases k <;> decide) (by interval_cases k <;> decide)
    refine ⟨(keeps _ (by simp)).trans ctrl.1, (keeps _ (by simp)).trans ctrl.2, fun is => Noted.congr (raised is) (keeps _ (by simp)),
      fun _ => ⟨(keeps _ (by simp)).trans (down (bne_iff_ne.mp changed)), fun d hd => ?_⟩⟩
    rw [queues d hd]
    exact List.filter_eq_nil_iff.mpr fun _ _ => by simp
  next same =>
    exact ⟨ctrl.1, ctrl.2, raised, fun ne => absurd (bne_iff_ne.mpr ne) same⟩

/-- A write of the forwarding states (R386). -/
theorem State.fwdWrite_spec (s : State) {k w : Nat} (hk : k < 6) (hw : w < 256) : let t := s.fwdWrite k w
    t.rd (ETP_FWD_STATE k) = w ∧
      ∀ d, d < 8 → t.swQueue k d = (s.swQueue k d).filter fun f =>
        let i := s.vlanInstance f.vid
        !((bitsOf (s.rd (ETP_FWD_STATE k)) (2 * i) 2 == 3 && bitsOf w (2 * i) 2 != 3) || bitsOf w (2 * i) 2 == 0) := by
  obtain ⟨queues, fields⟩ := (s.wr (ETP_FWD_STATE k) w).flushPort_spec hk fun f =>
    let i := (s.wr (ETP_FWD_STATE k) w).vlanInstance f.vid
    (bitsOf (s.rd (ETP_FWD_STATE k)) (2 * i) 2 == 3 && bitsOf w (2 * i) 2 != 3) || bitsOf w (2 * i) 2 == 0
  refine ⟨(fields _ ?_ ?_ ?_ ?_).trans (State.rd_wr_of_lt s hw), fun d hd => queues d hd⟩ <;> interval_cases k <;> decide

end Sys2Proof.Machine
end

section
namespace Sys2Proof

open Machine

theorem Completes.onPort {i : Instr} {s : State} {k : Nat} {f : State → State} {P : State → Prop} (e : exec i s = .next (s.onPort k f))
    (fabric : s.atWork 0x10 = true) (live : s.live (0x11 + k) = true) (hk : k < 6) (post : P (f s)) : Completes i s P :=
  ⟨f s, by rw [e, State.onPort_of fabric live hk], post⟩

theorem Completes.onPortAt {i : Instr} {s : State} {k c : Nat} {f : State → State} {P : State → Prop}
    (e : exec i s = .next ((s.reach c).onPort k f)) (fabric : s.atWork 0x10 = true) (live : s.live (0x11 + k) = true) (hk : k < 6)
    (post : P (f (s.reach c))) : Completes i s P :=
  ⟨f (s.reach c), by rw [e, State.onPort_reach c fabric live hk], post⟩

theorem Machine.State.pauseRepeat_spec (s : State) {k : Nat} (hk : k < 6) :
    let t := if s.sendsPause k && s.swf.xoff.contains k && s.xon k ≤ s.portCells k then s.sendPause k (s.rd (ETP_FC_HEAD_QUANTA k)) else s
    if s.sendsPause k = true ∧ s.swf.xoff.contains k = true ∧ s.xon k ≤ s.portCells k then
      t.swf = s.swf ∧ t.rd (ETP_TX_PAUSE k) = (s.rd (ETP_TX_PAUSE k) + 1) % 2 ^ 32 ∧
      t.emitted = s.emitted ++ [if s.rd (ETP_FC_PFC_EN k) = 1 then
        .pfc k (s.rd (ETP_FC_PFC_CLASSES k)) (s.rd (ETP_FC_HEAD_QUANTA k)) else .pause k (s.rd (ETP_FC_HEAD_QUANTA k))]
    else t = s := by
  have sends : (s.sendsPause k && s.swf.xoff.contains k && s.xon k ≤ s.portCells k) = true ↔
      s.sendsPause k = true ∧ s.swf.xoff.contains k = true ∧ s.xon k ≤ s.portCells k := by
    rw [Bool.and_eq_true, Bool.and_eq_true, decide_eq_true_iff, and_assoc]
  dsimp only
  by_cases go : s.sendsPause k = true ∧ s.swf.xoff.contains k = true ∧ s.xon k ≤ s.portCells k
  · rw [if_pos go, if_pos (sends.mpr go)]
    exact State.sendPause_spec hk _
  · rw [if_neg go, if_neg fun h => go (sends.mp h)]

theorem Machine.State.reach_self (s : State) (c : Nat) : s.reach c = { s with time := (s.reach c).time } := by
  obtain ⟨t, is⟩ := s.reach_eq c
  rw [is]

theorem Machine.State.txStamp_reach (s : State) (c k : Nat) (ns : Int) : State.txStamp { s with time := (s.reach c).time } k ns = s.txStamp k ns := by
  obtain ⟨ta, ca⟩ := s.reach_base c
  simp only [State.txStamp, State.stampAt, ta, ca]
  rfl

theorem Machine.State.pauseSweep_spec (s : State) {k : Nat} (hk : k < 6) : let t := s.pauseSweep k
    t.swf = { s.swf with pauses := s.swf.pauses.filter fun p => p.1 / 9 != k || s.time.raw * 40 < p.2 } ∧
      t.rd (ETP_STATUS_PAUSED k) = (if (Sparse.get t.swf.pauses (9 * k + 8)).isSome then 1 else 0) ∧
      OnlyFields [ETP_STATUS_PAUSED k, ETP_STATUS_PFC_PAUSED k] s t :=
  ⟨(s.pausesEnded k).showPause_swf k, ((s.pausesEnded k).rd_showPause hk).trans (by rw [State.pauseSweep_eq, State.showPause_swf]),
    s.pauseSweep_only k⟩

/-- A write of a port's register that its unit takes. -/
theorem Machine.State.atWork_port {s : State} {k : Nat} {addr : Nat} (h : s.atWork (0x11 + k) = true) (page : addr / 0x1000 = 0x11 + k) :
    s.atWork (addr / 0x1000) = true := by rwa [page]

/-- Settles O48: what a port sends, its pauses and its low-power idle, the stepping decision, and the writes that change a port's link or queues. -/
theorem switchSendsFrames : Obligations.SwitchSendsFrames := by
  unfold Obligations.SwitchSendsFrames
  refine ⟨fun s k c ns ecc fabric live hk _ none_ idle => ?_,
    fun s k c d ns f rest fabric live hk none_ up awake hd min_ head above fits plain unnamed => ⟨?_, fun ecc low high => ?_⟩,
    fun s k c fabric live hk => ?_, fun s k fabric live hk => ?_, fun s k fabric live hk => ⟨fun b => ?_, ?_, ?_⟩, fun s a b fabric => ?_,
    fun s k speed up fabric live hk _ => ?_, fun s port k mode work hk hm => ?_, fun s port k w work hk hw => ?_⟩
  · refine Completes.onPortAt rfl fabric live hk ?_
    rw [s.reach_self c]
    obtain ⟨swf, paused⟩ := State.pauseSweep_none (s := { s with time := (s.reach c).time }) hk none_
    rw [State.transmit_idle (s := { s with time := (s.reach c).time }) hk ns ecc none_ idle]
    exact ⟨swf, State.pauseSweep_emitted _ _, paused⟩
  · refine Completes.onPortAt rfl fabric live hk ?_
    rw [s.reach_self c, ← s.txStamp_reach c]
    exact State.transmit_good (s := { s with time := (s.reach c).time }) ns hk none_ up awake hd min_ head above fits plain unnamed
  · refine Completes.onPortAt rfl fabric live hk ?_
    rw [s.reach_self c, ← s.txStamp_reach c]
    exact State.transmit_bad (s := { s with time := (s.reach c).time }) ns hk none_ up awake hd min_ head above fits plain unnamed low high
  · refine Completes.onPortAt rfl fabric live hk ?_
    obtain ⟨swf, paused, only⟩ := (s.reach c).pauseSweep_spec hk
    rw [s.reach_self c] at swf
    exact ⟨by rw [s.reach_self c]; exact swf, paused, (OnlyFields.of_regs (by rw [s.reach_self c])).trans only⟩
  · exact Completes.onPort rfl fabric live hk (s.pauseRepeat_spec hk)
  · cases b with
    | true => exact Completes.onPort rfl fabric live hk (s.lpiRx_spec k true)
    | false => exact Completes.onPort rfl fabric live hk (s.lpiRx_spec k false)
  · exact Completes.onPort rfl fabric live hk (State.lpiEnter_spec hk)
  · exact Completes.onPort rfl fabric live hk (s.lpiWake_spec k)
  · exact Completes.working rfl fabric (s.speedStep_spec a b)
  · exact Completes.onPort rfl fabric live hk (s.linkChange_spec hk up speed)
  · refine Completes.effect rfl (State.atWork_port work (by dsimp only; omega)) ?_
    have spec := (s.hostWrote port false (ETP_CTRL_MODE k).addr).etpCtrl_spec hk hm
    rw [State.rd_hostWrote_ne _ _ _ _ (by interval_cases k <;> decide) (by interval_cases k <;> decide)] at spec
    rw [State.rd_hostWrote_ne _ _ _ _ (by interval_cases k <;> decide) (by interval_cases k <;> decide)] at spec
    exact spec
  · refine Completes.effect rfl (State.atWork_port work (by dsimp only; omega)) ?_
    obtain ⟨word, queues⟩ := (s.hostWrote port false (ETP_FWD_STATE k).addr).fwdWrite_spec hk hw
    refine ⟨word, fun d hd => (queues d hd).trans ?_⟩
    have before : (s.hostWrote port false (ETP_FWD_STATE k).addr).swQueue k d = s.swQueue k d :=
      State.swQueue_congr (by rw [State.hostWrote_swf]) k d
    simp only [State.vlanInstance_hostWrote, before,
      State.rd_hostWrote_ne s port false (ETP_FWD_STATE k).addr (f := ETP_FWD_STATE k) (by interval_cases k <;> decide) (by interval_cases k <;> decide)]

end Sys2Proof
end

section
/-! SUPPORT. Samples of Temper's loop slots (O30). -/

namespace Sys2Proof.Machine

/-! ### The publication of a sample (R307, R309) -/

/-- The fields that the publication of a sample may change. -/
def sampleFields : List Field :=
  [TMP_SAMPLES, TMP_W_SLOT_SLOT, TMP_W_SAMPLE, TMP_W_TIME_LO, TMP_W_TIME_HI, TMP_W_SP, TMP_W_MEAS, TMP_W_ERR, TMP_W_I_LO, TMP_W_I_HI, TMP_W_END_OUT,
    TMP_W_END_STATE, TMP_W_END_FLAGS, SEQ_COUNT 0x09, FRESH 0x09]

/-- The slot that a sample leaves: its number rises. -/
def TmpSlot.numbered (q : TmpSlot) : TmpSlot := { q with no := (q.no + 1) % 2 ^ 32 }

/-- The watched slot's block is published (R309). -/
def State.tmpWatch (s : State) (k : Nat) (q : TmpSlot) (w : TmpShow) (ns : Nat) : State :=
  if s.rd TMP_WATCH_SLOT = k then
    (s.wrAll
      [(TMP_W_SLOT_SLOT, k), (TMP_W_SAMPLE, q.no), (TMP_W_TIME_LO, ns), (TMP_W_TIME_HI, ns / 2 ^ 32), (TMP_W_SP, q.sp),
       (TMP_W_MEAS, w.meas), (TMP_W_ERR, codeOf 32 w.err), (TMP_W_I_LO, codeOf 48 q.integ),
       (TMP_W_I_HI, codeOf 48 q.integ / 2 ^ 32), (TMP_W_END_OUT, q.out), (TMP_W_END_STATE, q.state),
       (TMP_W_END_FLAGS, w.flags)]).publish 0x09 0 (SEQ_COUNT 0x09)
  else s

theorem State.wrAll_parts (s : State) (l : List (Field × Nat)) : ∃ m, s.wrAll l = { s with regs := m } := by
  induction l generalizing s with
  | nil => exact ⟨s.regs, rfl⟩
  | cons x l ih =>
    obtain ⟨m, is⟩ := ih (s.wr x.1 x.2)
    exact ⟨m, is⟩

theorem State.publish_parts (s : State) (page b : Nat) (seq : Field) : ∃ m, s.publish page b seq = { s with regs := m } := ⟨_, rfl⟩

theorem State.tmpWatch_parts (s : State) (k : Nat) (q : TmpSlot) (w : TmpShow) (ns : Nat) : ∃ m, s.tmpWatch k q w ns = { s with regs := m } := by
  rw [State.tmpWatch]
  split
  · obtain ⟨m, is⟩ := s.wrAll_parts [(TMP_W_SLOT_SLOT, k), (TMP_W_SAMPLE, q.no), (TMP_W_TIME_LO, ns), (TMP_W_TIME_HI, ns / 2 ^ 32), (TMP_W_SP, q.sp),
       (TMP_W_MEAS, w.meas), (TMP_W_ERR, codeOf 32 w.err), (TMP_W_I_LO, codeOf 48 q.integ),
       (TMP_W_I_HI, codeOf 48 q.integ / 2 ^ 32), (TMP_W_END_OUT, q.out), (TMP_W_END_STATE, q.state), (TMP_W_END_FLAGS, w.flags)]
    rw [is]
    exact State.publish_parts _ 0x09 0 (SEQ_COUNT 0x09)
  · exact ⟨s.regs, rfl⟩

theorem State.tmpWatch_only (s : State) (k : Nat) (q : TmpSlot) (w : TmpShow) (ns : Nat) :
    OnlyFields (sampleFields.erase TMP_SAMPLES) s (s.tmpWatch k q w ns) := by
  rw [State.tmpWatch]
  split
  · refine (OnlyFields.wrAll (.refl _ s) ?_).publish _ _ _ (by decide) (by decide)
    intro x mem
    simp only [List.mem_cons, List.not_mem_nil, or_false] at mem
    rcases mem with rfl | rfl | rfl | rfl | rfl | rfl | rfl | rfl | rfl | rfl | rfl | rfl <;> dsimp only <;> decide
  · exact .refl _ s

/-- The octets of a slot's state record. -/
def TmpSlot.octets (q : TmpSlot) (w : TmpShow) : List Nat :=
  toOctets 4 q.no ++ toOctets 2 q.out ++ [q.state, w.flags] ++ toOctets 4 q.sp ++ toOctets 4 w.meas ++
    toOctets 4 (codeOf 32 w.err) ++ toOctets 6 (codeOf 48 q.integ) ++ [0, 0] ++ toOctets 4 q.no

theorem State.tmpPublish_of (s : State) (k : Nat) (q : TmpSlot) (w : TmpShow) (ns : Nat) :
    s.tmpPublish k q w ns =
      (((s.setTmpSlot k q.numbered).setBytes 0x09 (0x40000 + 32 * k) (q.numbered.octets w)).count TMP_SAMPLES 1).tmpWatch k q.numbered w ns := rfl

/-- What the publication of a sample leaves. -/
theorem State.tmpPublish_spec (s : State) (k : Nat) (q : TmpSlot) (w : TmpShow) (ns : Nat) : let t := s.tmpPublish k q w ns
    t.tmp = { s.tmp with slots := Sparse.insert s.tmp.slots k q.numbered } ∧ t.rd TMP_SAMPLES = (s.rd TMP_SAMPLES + 1) % 2 ^ 32 ∧
      OnlyFields sampleFields s t ∧ t.siltIntake = s.siltIntake := by
  have only₁ : OnlyFields sampleFields s ((s.setTmpSlot k q.numbered).setBytes 0x09 (0x40000 + 32 * k) (q.numbered.octets w)) :=
    OnlyFields.of_regs (by rw [State.setBytes_regs]; rfl)
  generalize stored : (s.setTmpSlot k q.numbered).setBytes 0x09 (0x40000 + 32 * k) (q.numbered.octets w) = u at only₁
  have tmp : u.tmp = { s.tmp with slots := Sparse.insert s.tmp.slots k q.numbered } := by
    rw [← stored, State.setBytes_tmp]
    rfl
  have intake : u.siltIntake = s.siltIntake := by
    rw [← stored, State.setBytes_siltIntake]
    rfl
  have samples : u.rd TMP_SAMPLES = s.rd TMP_SAMPLES := State.rd_congr (by rw [← stored, State.setBytes_regs]; rfl) _
  obtain ⟨m, watch⟩ := (u.count TMP_SAMPLES 1).tmpWatch_parts k q.numbered w ns
  have only₂ := (u.count TMP_SAMPLES 1).tmpWatch_only k q.numbered w ns
  dsimp only
  rw [State.tmpPublish_of, stored]
  refine ⟨by rw [watch]; exact tmp, ?_, (only₁.count 1 (by decide)).trans (only₂.mono (List.erase_subset)), by rw [watch]; exact intake⟩
  rw [only₂ _ (by decide), State.rd_count_self, samples]

theorem State.tmpSlot_insert {s t : State} {k : Nat} {q : TmpSlot} (h : t.tmp.slots = Sparse.insert s.tmp.slots k q) :
    t.tmpSlot k = q ∧ ∀ j, j ≠ k → t.tmpSlot j = s.tmpSlot j := by
  refine ⟨by rw [State.tmpSlot, h, Sparse.get_insert_self]; rfl, fun j ne => ?_⟩
  rw [State.tmpSlot, h, Sparse.get_insert_ne _ _ ne, State.tmpSlot]

/-! ### The samples of a tick (R293, R298, R299, R300) -/

/-- The state in which the samples of tick n are taken. -/
def State.sampling (s : State) (c n : Nat) : State := { s with time := (s.reach c).time, tmp := { s.tmp with tick := some n } }

theorem State.commitsBy_reach {s : State} (c : Nat) (h : ∀ (p : Port) (j : Nat), j < 4 → ((s.port p).tag j).state ≠ .committing) (e : Nat) :
    (s.reach c).commitsBy e = s.reach c := by
  refine State.commitsBy_none (State.dueTags_nil fun p j lt committing => ?_)
  rw [State.port_reach] at committing
  exact absurd committing (h p j lt)

theorem State.tmpTick_stands {s : State} {e : Nat} (bad lost : List Nat) (late : Nat)
    (h : s.rd TMP_CTRL_EN = 0 ∨ s.lightPath = false ∨ e % 10000 ≠ 0 ∨ s.tmp.tick = some (e / 10000)) : s.tmpTick e bad lost late = s := by
  have idle : (!s.rdB TMP_CTRL_EN || !s.lightPath || !s.tmpTickNew e) = true := by
    rcases h with off | dark | between | done
    · rw [State.rdB_of_zero off]
      rfl
    · rw [dark]
      simp
    · simp [State.tmpTickNew, between]
    · have same : Nat.blt (e / 10000) (e / 10000) = false := by
        rw [Bool.eq_false_iff, ne_eq, Nat.blt_eq]
        exact Nat.lt_irrefl _
      simp [State.tmpTickNew, done, same]
  rw [State.tmpTick]
  exact if_pos idle

theorem State.tmpTickNew_of {s : State} {n : Nat} (h : ∀ m ∈ s.tmp.tick, m < n) : s.tmpTickNew (10000 * n) = true := by
  rw [State.tmpTickNew, show 10000 * n / 10000 = n by omega, Bool.and_eq_true]
  refine ⟨by rw [show 10000 * n % 10000 = 0 by omega]; rfl, ?_⟩
  cases at_ : s.tmp.tick with
  | none => rfl
  | some m => exact Nat.blt_eq.mpr (h m at_)

theorem State.tmpStop_stands {s : State} {k : Nat} (h : (s.tmpRecord k).enable = true ∨ (s.tmpSlot k).state = 0) : s.tmpStop k = s := by
  rw [State.tmpStop]
  exact if_pos h

theorem State.lightPath_reach (s : State) (c : Nat) : (s.reach c).lightPath = s.lightPath := by
  rw [s.reach_self c]
  rfl

theorem State.tmpRecord_sampling (s : State) (c n k : Nat) : (s.sampling c n).tmpRecord k = s.tmpRecord k := rfl

/-- The samples of a new tick at which one slot is due. -/
theorem State.tmpTick_one {s : State} {c n k : Nat} (on : s.rd TMP_CTRL_EN = 1) (light : s.lightPath = true) (new : ∀ m ∈ s.tmp.tick, m < n)
    (due : s.tmpEnabled.filter (s.tmpDue n) = [k]) (stops : ∀ j, (s.tmpRecord j).enable = true ∨ (s.tmpSlot j).state = 0) :
    ∃ ns, (s.reach c).tmpTick (10000 * n) [] [] 0 = (s.sampling c n).tmpSample (10000 * n) ns k := by
  refine ⟨codeOf 64 ((s.reach c).moduleTimeAt (10000 * n * 250)), ?_⟩
  have works : ¬(!(s.reach c).rdB TMP_CTRL_EN || !(s.reach c).lightPath || !(s.reach c).tmpTickNew (10000 * n)) = true := by
    have new' : (s.reach c).tmpTickNew (10000 * n) = true := by
      rw [s.reach_self c]
      exact State.tmpTickNew_of (s := { s with time := (s.reach c).time }) new
    rw [State.rdB_of (by rw [State.rd_reach]; exact on), State.lightPath_reach, light, new']
    decide
  have shown : { s.reach c with tmp := { (s.reach c).tmp with tick := some n } } = s.sampling c n := by
    rw [s.reach_self c]
    rfl
  rw [State.tmpTick, if_neg works, if_pos rfl, show 10000 * n / 10000 = n by omega]
  simp only [List.foldl_nil, List.length_nil, iterate]
  rw [shown]
  have stopped : ∀ l : List Nat, l.foldl State.tmpStop (s.sampling c n) = s.sampling c n :=
    List.foldl_fixed' fun j => State.tmpStop_stands (s := s.sampling c n) (stops j)
  have one : (s.sampling c n).tmpEnabled.filter ((s.sampling c n).tmpDue n) = [k] := due
  rw [stopped, one, Nat.mul_comm n]
  rfl

/-- The slot as a sample finds it. -/
def TmpSlot.taken (q : TmpSlot) (r : TmpRecord) : TmpSlot :=
  { q with out := if q.starting then r.initOut else q.out, starting := false, spl := some (q.spl.getD (r.setpoint * 65536)) }

theorem TmpSlot.taken_steady {q : TmpSlot} {r : TmpRecord} {v : Nat} (started : q.starting = false) (spl : q.spl = some v) : q.taken r = q := by
  cases q
  subst started spl
  rfl

theorem State.tmpSample_stale {s : State} {t0 ns k : Nat} (running : (s.tmpSlot k).state = 1) (silent : s.contributions k (s.tmpRecord k) t0 = []) :
    s.tmpSample t0 ns k = (s.tmpEvent k 2).tmpPublish k
      { (s.tmpSlot k).taken (s.tmpRecord k) with
        state := 2, entering := true, timer := none, last := t0,
        out := if (s.tmpRecord k).staleHold then ((s.tmpSlot k).taken (s.tmpRecord k)).out else (s.tmpRecord k).staleOut }
      ((s.tmpEvent k 2).tmpShown k 0) ns := by
  rw [State.tmpSample]
  have alive : ¬((s.tmpSlot k).state = 3 ∨ (s.tmpSlot k).state = 4 ∨ (s.tmpSlot k).state = 5) := by omega
  have known : ¬(s.tmpSlot k).state = 2 := by omega
  dsimp only
  rw [if_neg alive, silent, if_pos (c := List.isEmpty [] = true) rfl, if_neg known]
  rfl

theorem State.tmpSample_run {s : State} {t0 ns k : Nat} (running : (s.tmpSlot k).state = 1) (some_ : s.contributions k (s.tmpRecord k) t0 ≠ []) :
    s.tmpSample t0 ns k =
      let r := s.tmpRecord k
      let cs := s.contributions k r t0
      let x := runSample r ((s.tmpSlot k).taken r) (combine r.combine cs) (cs.any fun m => ((s.tmpSlot k).taken r).last < m.2)
      (if x.2.2 then s.count TMP_FROZEN 1 else s).tmpFollow t0 ns k r (combine r.combine cs) x.1 x.2.1 := by
  rw [State.tmpSample]
  have alive : ¬((s.tmpSlot k).state = 3 ∨ (s.tmpSlot k).state = 4 ∨ (s.tmpSlot k).state = 5) := by omega
  dsimp only
  rw [if_neg alive, if_neg (by rw [List.isEmpty_iff]; exact some_)]
  rfl

/-- Without a following-error limit the sample is published as it is. -/
theorem State.tmpFollow_none {s : State} {t0 ns k y : Nat} {r : TmpRecord} {q : TmpSlot} {w : TmpShow} (h : r.feLimit = 0) :
    s.tmpFollow t0 ns k r y q w = s.tmpPublish k { q with timer := none, last := t0, state := 1 } w ns := by
  have quiet : followTimer r q.timer ((q.sp - y) + (y - q.sp)) t0 = (none, false) := by
    rw [followTimer]
    exact if_pos (.inl h)
  rw [State.tmpFollow, quiet]
  rfl

/-- The control law's clamped error. -/
def sampleErr (r : TmpRecord) (v y : Nat) : Int := max (-2 ^ 31 + 1) (min (2 ^ 31 - 1) (((slewed r v / 65536 : Nat) : Int) - y))

/-- The proportional term. -/
def sampleProp (r : TmpRecord) (v y : Nat) : Int := ((r.kp : Int) * sampleErr r v y).tdiv 65536

/-- Whether the integrator stands: at a clamp that the error would leave farther behind, or with no new contribution. -/
def integStands (r : TmpRecord) (q : TmpSlot) (v y : Nat) (fresh : Bool) : Prop :=
  (max (r.lo : Int) r.hi * 65536 ≤ sampleProp r v y * 65536 + q.integ ∧ 0 < sampleErr r v y) ∨
    (sampleProp r v y * 65536 + q.integ ≤ (r.lo : Int) * 65536 ∧ sampleErr r v y < 0) ∨ (r.newOnly = true ∧ fresh = false)

/-- What a sample in RUN of a slot that is not entering leaves (R293). -/
theorem runSample_spec {r : TmpRecord} {q : TmpSlot} {v y : Nat} {fresh : Bool} (steady : q.entering = false) (spl : q.spl = some v) :
    let x := (runSample r q y fresh).1
    x.spl = some (slewed r v) ∧ x.no = q.no ∧ (integStands r q v y fresh → x.integ = q.integ) ∧
      (¬integStands r q v y fresh → x.integ =
        max (-65535 * 65536) (min (131070 * 65536) (q.integ + ((r.ki : Int) * sampleErr r v y * r.period).tdiv 100))) ∧
      (x.out : Int) = max (r.lo : Int) (min (max (r.lo : Int) r.hi) ((sampleProp r v y * 65536 + x.integ).tdiv 65536)) := by
  have value : q.spl.getD 0 = v := by rw [spl]; rfl
  have nonneg : ∀ a : Int, 0 ≤ clampInt (r.lo : Int) (max r.lo r.hi) a := fun a => le_max_of_le_left (Int.natCast_nonneg _)
  simp only [runSample, steady, value, Bool.false_or]
  refine ⟨trivial, trivial, fun stands => if_pos ?_, fun moves => if_neg ?_, Int.toNat_of_nonneg (nonneg _)⟩
  · rcases stands with ⟨top, up⟩ | ⟨bottom, down⟩ | ⟨only, old⟩
    · simp only [Bool.or_eq_true, Bool.and_eq_true, decide_eq_true_eq]
      exact .inl (.inl ⟨top, up⟩)
    · simp only [Bool.or_eq_true, Bool.and_eq_true, decide_eq_true_eq]
      exact .inl (.inr ⟨bottom, down⟩)
    · rw [only, old]
      simp
  · intro stop
    simp only [Bool.or_eq_true, Bool.and_eq_true, decide_eq_true_eq, Bool.not_eq_true'] at stop
    refine moves ?_
    rcases stop with (⟨top, up⟩ | ⟨bottom, down⟩) | ⟨only, old⟩
    · exact .inl ⟨top, up⟩
    · exact .inr (.inl ⟨bottom, down⟩)
    · exact .inr (.inr ⟨only, old⟩)

theorem any_newer_false {cs : List (Nat × Nat)} {last : Nat} : (cs.any fun m => last < m.2) = false ↔ ∀ m ∈ cs, m.2 ≤ last := by
  simp

/-! ### The clauses -/

section Sample
variable {s : State} {c n k : Nat}

theorem State.tmpSample_nothing (bad lost : List Nat) (late : Nat) (work : s.atWork 0x09 = true)
    (h : s.rd TMP_CTRL_EN = 0 ∨ s.lightPath = false ∨ c / 250 % 10000 ≠ 0 ∨ s.tmp.tick = some (c / 2500000))
    (tags : ∀ (p : Port) (j : Nat), j < 4 → ((s.port p).tag j).state ≠ .committing) :
    Completes (.tmpSample c bad lost late) s fun t => t = s.reach c := by
  refine Completes.working (u := s.reach c) rfl (by rw [State.atWork_reach]; exact work) ?_
  rw [State.commitsBy_reach c tags]
  refine State.tmpTick_stands _ _ _ ?_
  rw [State.rd_reach, State.lightPath_reach, s.reach_self c, Nat.div_div_eq_div_mul]
  exact h

/-- The one slot that is due is sampled, and nothing else. -/
theorem State.tmpSample_one {P : State → Prop} (work : s.atWork 0x09 = true) (on : s.rd TMP_CTRL_EN = 1) (light : s.lightPath = true)
    (tick : c / 250 = 10000 * n) (new : ∀ m ∈ s.tmp.tick, m < n) (due : s.tmpEnabled.filter (s.tmpDue n) = [k])
    (tags : ∀ (p : Port) (j : Nat), j < 4 → ((s.port p).tag j).state ≠ .committing)
    (stops : ∀ j, (s.tmpRecord j).enable = true ∨ (s.tmpSlot j).state = 0)
    (post : ∀ ns, P ((s.sampling c n).tmpSample (10000 * n) ns k)) : Completes (.tmpSample c [] [] 0) s P := by
  obtain ⟨ns, is⟩ := State.tmpTick_one (c := c) on light new due stops
  refine Completes.working (u := s.reach c) rfl (by rw [State.atWork_reach]; exact work) ?_
  rw [State.commitsBy_reach c tags, tick, is]
  exact post ns

theorem State.tmpSample_silent (lt : k < 2048) (running : (s.tmpSlot k).state = 1) (started : (s.tmpSlot k).starting = false)
    (silent : s.contributions k (s.tmpRecord k) (10000 * n) = []) (ns : Nat) : let t := (s.sampling c n).tmpSample (10000 * n) ns k
    (t.tmpSlot k).state = 2 ∧
      (t.tmpSlot k).out = (if (s.tmpRecord k).staleHold then (s.tmpSlot k).out else (s.tmpRecord k).staleOut) ∧
      t.rd TMP_EVENT_SLOT = k ∧ t.rd TMP_EVENT_KIND = 2 ∧ t.rd TMP_STALE = (s.rd TMP_STALE + 1) % 2 ^ TMP_STALE.width ∧
      Noted TMP_NOTE_STALE t ∧ Records 0x0901 k 0 0 0 s t := by
  have is := State.tmpSample_stale (s := s.sampling c n) (t0 := 10000 * n) (ns := ns) (k := k) running silent
  have out : ((s.tmpSlot k).taken (s.tmpRecord k)).out = (s.tmpSlot k).out := by
    rw [TmpSlot.taken, started]
    rfl
  dsimp only
  rw [is]
  generalize published : ({ ((s.sampling c n).tmpSlot k).taken ((s.sampling c n).tmpRecord k) with
        state := 2, entering := true, timer := none, last := 10000 * n,
        out := if ((s.sampling c n).tmpRecord k).staleHold then (((s.sampling c n).tmpSlot k).taken ((s.sampling c n).tmpRecord k)).out else
          ((s.sampling c n).tmpRecord k).staleOut } : TmpSlot) = q
  have fields : ∀ f : Field, f.key ≠ TMP_EVENT_SLOT.key → f.key ≠ TMP_EVENT_KIND.key → f.key ≠ TMP_STALE.key →
      (((((s.sampling c n).wr TMP_EVENT_SLOT k).wr TMP_EVENT_KIND 2).count TMP_STALE 1)).rd f = s.rd f := fun f h₁ h₂ h₃ => by
    rw [State.rd_count_ne _ _ h₃, State.rd_wr_ne _ _ h₂, State.rd_wr_ne _ _ h₁]
    rfl
  have slot : (((((s.sampling c n).wr TMP_EVENT_SLOT k).wr TMP_EVENT_KIND 2).count TMP_STALE 1)).rd TMP_EVENT_SLOT = k := by
    rw [State.rd_count_ne _ _ (by decide), State.rd_wr_ne _ _ (by decide), State.rd_wr_of_lt _ (show k < 2 ^ TMP_EVENT_SLOT.width by
      rw [show TMP_EVENT_SLOT.width = 11 from rfl]; omega)]
  have kind : (((((s.sampling c n).wr TMP_EVENT_SLOT k).wr TMP_EVENT_KIND 2).count TMP_STALE 1)).rd TMP_EVENT_KIND = 2 := by
    rw [State.rd_count_ne _ _ (by decide), State.rd_wr_self]
    rfl
  have stale : (((((s.sampling c n).wr TMP_EVENT_SLOT k).wr TMP_EVENT_KIND 2).count TMP_STALE 1)).rd TMP_STALE =
      (s.rd TMP_STALE + 1) % 2 ^ TMP_STALE.width := by
    rw [State.rd_count_self, State.rd_wr_ne _ _ (by decide), State.rd_wr_ne _ _ (by decide)]
    rfl
  have event : (s.sampling c n).tmpEvent k 2 =
      ((((((s.sampling c n).wr TMP_EVENT_SLOT k).wr TMP_EVENT_KIND 2).count TMP_STALE 1)).notice TMP_NOTE_STALE).silt 0x0901 k := rfl
  have parts : let v := ((((s.sampling c n).wr TMP_EVENT_SLOT k).wr TMP_EVENT_KIND 2).count TMP_STALE 1)
      v.siltIntake = s.siltIntake ∧ v.cal = s.cal ∧ v.domains = s.domains ∧ v.startup = s.startup ∧ v.rd RTC_STATUS_OSF = s.rd RTC_STATUS_OSF :=
    ⟨rfl, rfl, rfl, rfl, fields _ (by decide) (by decide) (by decide)⟩
  rw [event]
  generalize ((((s.sampling c n).wr TMP_EVENT_SLOT k).wr TMP_EVENT_KIND 2).count TMP_STALE 1) = v at slot kind stale parts
  obtain ⟨intake, cal, domains, startup, osf⟩ := parts
  have records : Records 0x0901 k 0 0 0 s ((v.notice TMP_NOTE_STALE).silt 0x0901 k) :=
    ((v.notice TMP_NOTE_STALE).silt_records 0x0901 k 0 0 0).of_before (by rw [State.notice_siltIntake, intake])
      (by rw [State.notice_cal, cal]) (by rw [State.notice_domains, domains])
      (by rw [State.rd_notice_ne _ TMP_NOTE_STALE (by decide) (by decide), osf]) (by rw [State.notice_startup, startup])
  have noted : Noted TMP_NOTE_STALE ((v.notice TMP_NOTE_STALE).silt 0x0901 k) :=
    Noted.congr (State.noted_notice v TMP_NOTE_STALE (by decide)) (State.rd_silt_ne _ _ _ _ _ _ (by decide) (by decide) (by decide))
  have before : ∀ f : Field, (∀ g ∈ sampleFields, f.key ≠ g.key) → f.key ≠ SLT_LOST.key → f.key ≠ (NOTE_RAW 0x1E).key → f.key ≠ MSIX_PBA.key →
      f.key ≠ (NOTE_RAW 9).key → ∀ w,
      ((((v.notice TMP_NOTE_STALE).silt 0x0901 k)).tmpPublish k q w ns).rd f = v.rd f := fun f h₁ h₂ h₃ h₄ h₅ w => by
    rw [(State.tmpPublish_spec ((v.notice TMP_NOTE_STALE).silt 0x0901 k) k q w ns).2.2.1 f h₁,
      State.rd_silt_ne _ _ _ _ _ _ h₂ h₃ h₄, State.rd_notice_ne _ TMP_NOTE_STALE h₅ h₄]
  obtain ⟨slots, -, only, same⟩ := State.tmpPublish_spec ((v.notice TMP_NOTE_STALE).silt 0x0901 k) k q
    (((v.notice TMP_NOTE_STALE).silt 0x0901 k).tmpShown k 0) ns
  obtain ⟨left, -⟩ := State.tmpSlot_insert (s := (v.notice TMP_NOTE_STALE).silt 0x0901 k) (congrArg TmpUnit.slots slots)
  refine ⟨by rw [left, ← published]; rfl, by rw [left, ← published, ← out]; rfl, ?_, ?_, ?_, ?_, ?_⟩
  · rw [before _ (by decide) (by decide) (by decide) (by decide) (by decide), slot]
  · rw [before _ (by decide) (by decide) (by decide) (by decide) (by decide), kind]
  · rw [before _ (by decide) (by decide) (by decide) (by decide) (by decide), stale]
  · exact Noted.congr noted (only _ (by decide))
  · rw [Records, same]
    exact records

/-- A steady slot in RUN with contributions. -/
theorem State.tmpSample_steady {v : Nat} (running : (s.tmpSlot k).state = 1) (started : (s.tmpSlot k).starting = false) (spl : (s.tmpSlot k).spl = some v) (limit : (s.tmpRecord k).feLimit = 0)
    (some_ : s.contributions k (s.tmpRecord k) (10000 * n) ≠ []) (ns : Nat) : let t := (s.sampling c n).tmpSample (10000 * n) ns k
    let r := s.tmpRecord k
    let q := s.tmpSlot k
    let cs := s.contributions k r (10000 * n)
    let y := combine r.combine cs
    let x := (runSample r q y (cs.any fun m => q.last < m.2)).1
    t.tmpSlot k = { x with timer := none, last := 10000 * n, state := 1, no := (x.no + 1) % 2 ^ 32 } ∧
      t.rd TMP_SAMPLES = (s.rd TMP_SAMPLES + 1) % 2 ^ 32 ∧ t.tmp.tick = some n ∧ ∀ j, j ≠ k → t.tmpSlot j = s.tmpSlot j := by
  have same : (s.tmpSlot k).taken (s.tmpRecord k) = s.tmpSlot k := TmpSlot.taken_steady started spl
  have is := State.tmpSample_run (s := s.sampling c n) (t0 := 10000 * n) (ns := ns) (k := k) running some_
  dsimp only at is ⊢
  rw [is]
  have found : ((s.sampling c n).tmpSlot k).taken ((s.sampling c n).tmpRecord k) = s.tmpSlot k := same
  have given : (s.sampling c n).contributions k ((s.sampling c n).tmpRecord k) (10000 * n) = s.contributions k (s.tmpRecord k) (10000 * n) := rfl
  rw [found, given, State.tmpRecord_sampling, State.tmpFollow_none limit]
  generalize runSample (s.tmpRecord k) (s.tmpSlot k) (combine (s.tmpRecord k).combine (s.contributions k (s.tmpRecord k) (10000 * n)))
    ((s.contributions k (s.tmpRecord k) (10000 * n)).any fun m => (s.tmpSlot k).last < m.2) = x
  have before : ∀ froze : Bool, let u := if froze then (s.sampling c n).count TMP_FROZEN 1 else s.sampling c n
      u.tmp = (s.sampling c n).tmp ∧ u.rd TMP_SAMPLES = s.rd TMP_SAMPLES := by
    intro froze
    cases froze
    · exact ⟨rfl, rfl⟩
    · exact ⟨rfl, by rw [if_pos rfl, State.rd_count_ne _ _ (by decide)]; rfl⟩
  obtain ⟨tmp, samples⟩ := before x.2.2
  generalize (if x.2.2 then (s.sampling c n).count TMP_FROZEN 1 else s.sampling c n) = u at tmp samples
  obtain ⟨slots, counted, -, -⟩ := State.tmpPublish_spec u k { x.1 with timer := none, last := 10000 * n, state := 1 } x.2.1 ns
  have inserted := congrArg TmpUnit.slots slots
  obtain ⟨here, others⟩ := State.tmpSlot_insert (s := u) inserted
  refine ⟨here, by rw [counted, samples], by rw [slots, tmp]; rfl, fun j ne => ?_⟩
  rw [others j ne, State.tmpSlot, tmp]
  rfl

/-- R293, R294, R295: a steady sample in RUN. -/
theorem State.tmpSample_runs {v : Nat} (running : (s.tmpSlot k).state = 1) (steady : (s.tmpSlot k).entering = false)
    (started : (s.tmpSlot k).starting = false) (spl : (s.tmpSlot k).spl = some v) (limit : (s.tmpRecord k).feLimit = 0)
    (some_ : s.contributions k (s.tmpRecord k) (10000 * n) ≠ []) (ns : Nat) : let t := (s.sampling c n).tmpSample (10000 * n) ns k
    let r := s.tmpRecord k
    let q := s.tmpSlot k
    let cs := s.contributions k r (10000 * n)
    let y := combine r.combine cs
    let stands := (max (r.lo : Int) r.hi * 65536 ≤ sampleProp r v y * 65536 + q.integ ∧ 0 < sampleErr r v y) ∨
      (sampleProp r v y * 65536 + q.integ ≤ (r.lo : Int) * 65536 ∧ sampleErr r v y < 0) ∨ (r.newOnly = true ∧ ∀ m ∈ cs, m.2 ≤ q.last)
    (t.tmpSlot k).spl = some (slewed r v) ∧ (t.tmpSlot k).state = 1 ∧ (t.tmpSlot k).no = (q.no + 1) % 2 ^ 32 ∧
      (stands → (t.tmpSlot k).integ = q.integ) ∧
      (¬stands → (t.tmpSlot k).integ =
        max (-65535 * 65536) (min (131070 * 65536) (q.integ + ((r.ki : Int) * sampleErr r v y * r.period).tdiv 100))) ∧
      ((t.tmpSlot k).out : Int) = max (r.lo : Int) (min (max (r.lo : Int) r.hi) ((sampleProp r v y * 65536 + (t.tmpSlot k).integ).tdiv 65536)) ∧
      t.rd TMP_SAMPLES = (s.rd TMP_SAMPLES + 1) % 2 ^ 32 ∧ t.tmp.tick = some n ∧ ∀ j, j ≠ k → t.tmpSlot j = s.tmpSlot j := by
  obtain ⟨slot, samples, tick, others⟩ := State.tmpSample_steady (c := c) running started spl limit some_ ns
  obtain ⟨moved, no, stays, moves, out⟩ := runSample_spec (r := s.tmpRecord k)
    (y := combine (s.tmpRecord k).combine (s.contributions k (s.tmpRecord k) (10000 * n)))
    (fresh := (s.contributions k (s.tmpRecord k) (10000 * n)).any fun m => (s.tmpSlot k).last < m.2) steady spl
  have old := any_newer_false (cs := s.contributions k (s.tmpRecord k) (10000 * n)) (last := (s.tmpSlot k).last)
  rw [integStands, old] at stays moves
  dsimp only
  rw [slot]
  exact ⟨moved, rfl, by rw [← no], stays, moves, out, samples, tick, others⟩

end Sample

/-- A slot's record is read from the windows alone. -/
theorem State.tmpRecord_congr {s t : State} (h : t.win = s.win) (k : Nat) : t.tmpRecord k = s.tmpRecord k := by
  have bytes : ∀ a, t.w8 0x09 a = s.w8 0x09 a := State.w8_congr h 0x09
  have words : ∀ a n, t.wN 0x09 a n = s.wN 0x09 a n := State.wN_congr h 0x09
  simp only [State.tmpRecord, State.w16, State.w32, bytes, words]

/-- R290: a write of TMP_MEAS_SLOT. -/
theorem State.tmpMeasSlot_takes (s : State) (port : Port) (k : Nat) (work : s.atWork 0x09 = true) :
    Completes (.tmpMeasSlot port k) s fun t =>
      if (s.tmpRecord k).host then
        Sparse.get t.tmp.host k = some (s.rd TMP_MEAS_VALUE, s.epoch) ∧ t.tmp.nodes = s.tmp.nodes ∧ t.tmp.slots = s.tmp.slots
      else t.tmp = s.tmp ∧ t.rd TMP_MEAS_REJ = (s.rd TMP_MEAS_REJ + 1) % 2 ^ TMP_MEAS_REJ.width ∧ Noted TMP_NOTE_MEAS_REJ t := by
  refine Completes.effect (u := s) rfl work ?_
  have record : (s.hostWrote port false TMP_MEAS_SLOT_SLOT.addr).tmpRecord k = s.tmpRecord k := State.tmpRecord_congr (by simp) k
  have epoch : (s.hostWrote port false TMP_MEAS_SLOT_SLOT.addr).epoch = s.epoch := by
    rw [State.epoch, State.hostWrote_time, State.epoch]
  dsimp only
  rw [State.tmpHostMeas, record]
  split
  · refine ⟨?_, by rw [State.hostWrote_tmp], by rw [State.hostWrote_tmp]⟩
    rw [Sparse.get_insert_self, epoch, State.rd_hostWrote_ne _ _ _ _ (by decide) (by decide)]
  · refine ⟨by rw [State.notice_tmp]; exact State.hostWrote_tmp s port false _, ?_, State.noted_notice _ TMP_NOTE_MEAS_REJ (by decide)⟩
    rw [State.rd_notice_ne _ TMP_NOTE_MEAS_REJ (by decide) (by decide), State.rd_count_self, State.rd_hostWrote_ne _ _ _ _ (by decide) (by decide)]

/-- R305: a slot whose ENABLE is 0. -/
theorem State.tmpSlotDisable_stops (s : State) (k : Nat) (work : s.atWork 0x09 = true) :
    Completes (.tmpSlotDisable k) s fun t =>
      if (s.tmpRecord k).enable = false ∧ (s.tmpSlot k).state ≠ 0 then
        (t.tmpSlot k).state = 0 ∧ (t.tmpSlot k).no = (s.tmpSlot k).no ∧ t.tmpOut k = 65535 ∧
        t.w16 0x09 (0x40000 + 32 * k + 4) = 65535 ∧ t.w8 0x09 (0x40000 + 32 * k + 6) = 0 ∧ ∀ j, j ≠ k → t.tmpSlot j = s.tmpSlot j
      else t = s := by
  refine Completes.working (u := s) rfl work ?_
  split
  · next stops =>
    obtain ⟨off, runs⟩ := stops
    rw [State.tmpStop, if_neg (by rw [off]; simp [runs])]
    obtain ⟨here, others⟩ := State.tmpSlot_insert (s := s) (k := k) (q := .off (s.tmpSlot k).no)
      (t := (s.setTmpSlot k (.off (s.tmpSlot k).no)).setBytes 0x09 (0x40000 + 32 * k + 4) [0xFF, 0xFF, 0])
      (by rw [State.setBytes_tmp]; rfl)
    have byte : ∀ b, b < 3 → ((s.setTmpSlot k (.off (s.tmpSlot k).no)).setBytes 0x09 (0x40000 + 32 * k + 4) [0xFF, 0xFF, 0]).w8 0x09
        (0x40000 + 32 * k + 4 + b) = [0xFF, 0xFF, 0].getD b 0 % 256 := fun b hb => by
      rw [State.w8_setBytes_inside _ (by omega) (by simp only [List.length_cons, List.length_nil]; omega),
        show 0x40000 + 32 * k + 4 + b - (0x40000 + 32 * k + 4) = b by omega]
    refine ⟨by rw [here]; rfl, by rw [here]; rfl, ?_, ?_, byte 2 (by decide), others⟩
    · rw [State.tmpOut, here]
      split <;> rfl
    · rw [State.w16, State.wN, State.wBytes]
      simp only [List.range_succ, List.range_zero, List.nil_append, List.cons_append, List.map_cons, List.map_nil]
      rw [byte 0 (by decide), byte 1 (by decide)]
      rfl
  · next stands =>
    refine State.tmpStop_stands ?_
    cases en : (s.tmpRecord k).enable
    · exact .inr (by by_contra ne; exact stands ⟨en, ne⟩)
    · exact .inl rfl

/-- Settles O30: a sample is taken apart once (`tmpSample_stale`, `tmpSample_run`), the control law has its own rule
(`runSample_spec`), and the publication's (`tmpPublish_spec`) says what it leaves. -/
theorem temperSamples : Obligations.TemperSamples := by
  unfold Obligations.TemperSamples
  refine ⟨fun s c late bad lost work idle tags => State.tmpSample_nothing bad lost late work idle tags, ?_, ?_,
    fun s port k work _ => State.tmpMeasSlot_takes s port k work, fun s k work _ => State.tmpSlotDisable_stops s k work⟩
  · intro s c n k v work on light _ tick new due tags stops running steady started spl limit some_
    exact State.tmpSample_one work on light tick new due tags stops fun ns =>
      State.tmpSample_runs running steady started spl limit some_ ns
  · intro s c n k work on light lt tick new due tags stops running started silent
    exact State.tmpSample_one work on light tick new due tags stops fun ns => State.tmpSample_silent lt running started silent ns

end Sys2Proof.Machine
end

section
/-! SUPPORT. The ticks of the schedule unit (O29). -/

namespace Sys2Proof.Machine

/-! ### The publication of the programs' values (R277) -/

/-- The fields that a publication may change. -/
def publishFields : List Field :=
  [SCH_PUB_TIME_LO, SCH_PUB_TIME_HI_SECONDS, SCH_PUB_TIME_HI_FRACTION, SCH_PUB_END_CHANGED, SCH_PUB_END_GUARDED, SCH_PUB_END_NO_TIME,
    SCH_PUB_END_FIRST, SEQ_COUNT 0x08, FRESH 0x08]

/-- One value of the table. -/
def State.schPut (s : State) (v : Nat × Nat × Nat) : State :=
  if s.schPublished v.1 = v.2 then s else s.setBytes 0x08 (0x80000 + 4 * v.1) (toOctets 2 v.2.1 ++ toOctets 2 v.2.2)

/-- The table takes its values. -/
def State.schTable (s : State) (vals : List (Nat × Nat × Nat)) : State := vals.foldl State.schPut s

theorem State.schPut_parts (s : State) (v : Nat × Nat × Nat) : (s.schPut v).regs = s.regs ∧ (s.schPut v).sch = s.sch := by
  rw [State.schPut]
  split
  · exact ⟨rfl, rfl⟩
  · exact ⟨State.setBytes_regs _ _ _ _, State.setBytes_sch _ _ _ _⟩

theorem State.schTable_parts (s : State) (vals : List (Nat × Nat × Nat)) : (s.schTable vals).regs = s.regs ∧ (s.schTable vals).sch = s.sch := by
  rw [State.schTable]
  induction vals generalizing s with
  | nil => exact ⟨rfl, rfl⟩
  | cons v vals ih =>
    obtain ⟨regs, sch⟩ := ih (s.schPut v)
    exact ⟨regs.trans (s.schPut_parts v).1, sch.trans (s.schPut_parts v).2⟩

theorem toOctets_two (v : Nat) : toOctets 2 v = [octet v 0, octet v 1] := rfl

theorem State.w16_eq (s : State) (p a : Nat) : s.w16 p a = s.w8 p a % 256 + 256 * (s.w8 p (a + 1) % 256) := rfl

/-- The entry of the table takes its value, and every other keeps its own. -/
theorem State.schPublished_schPut (s : State) {v : Nat × Nat × Nat} (lt : v.1 < 256) (floor : v.2.1 < 65536) (cap : v.2.2 < 65536) :
    (s.schPut v).schPublished v.1 = v.2 ∧ ∀ q, q < 256 → q ≠ v.1 → (s.schPut v).schPublished q = s.schPublished q := by
  rw [State.schPut]
  split
  · next same => exact ⟨same, fun _ _ _ => rfl⟩
  · have byte : ∀ b, b < 4 → (s.setBytes 0x08 (0x80000 + 4 * v.1) (toOctets 2 v.2.1 ++ toOctets 2 v.2.2)).w8 0x08 (0x80000 + 4 * v.1 + b) =
        (toOctets 2 v.2.1 ++ toOctets 2 v.2.2).getD b 0 % 256 := fun b hb => by
      rw [State.w8_setBytes_inside _ (by omega) (by rw [toOctets_two, toOctets_two]; simp only [List.length_append, List.length_cons, List.length_nil]; omega),
        show 0x80000 + 4 * v.1 + b - (0x80000 + 4 * v.1) = b by omega]
    refine ⟨?_, fun q hq ne => ?_⟩
    · rw [State.schPublished, State.w16_eq, State.w16_eq, byte 1 (by decide), byte 2 (by decide),
        show 0x80000 + 4 * v.1 + 2 + 1 = 0x80000 + 4 * v.1 + 3 by omega, byte 3 (by decide)]
      have first := byte 0 (by decide)
      rw [Nat.add_zero] at first
      rw [first, toOctets_two, toOctets_two]
      refine Prod.ext ?_ ?_
      · show octet v.2.1 0 % 256 % 256 + 256 * (octet v.2.1 1 % 256 % 256) = v.2.1
        simp only [octet]
        omega
      · show octet v.2.2 0 % 256 % 256 + 256 * (octet v.2.2 1 % 256 % 256) = v.2.2
        simp only [octet]
        omega
    · have away : ∀ b, b < 4 → (s.setBytes 0x08 (0x80000 + 4 * v.1) (toOctets 2 v.2.1 ++ toOctets 2 v.2.2)).w8 0x08 (0x80000 + 4 * q + b) =
          s.w8 0x08 (0x80000 + 4 * q + b) := fun b hb => by
        refine State.w8_setBytes_outside (by omega) ?_ ?_ <;>
          rw [toOctets_two, toOctets_two] <;> simp only [List.length_append, List.length_cons, List.length_nil] <;> omega
      have first := away 0 (by decide)
      rw [Nat.add_zero] at first
      rw [State.schPublished, State.schPublished, State.w16_eq, State.w16_eq, State.w16_eq, State.w16_eq, first, away 1 (by decide),
        away 2 (by decide), show 0x80000 + 4 * q + 2 + 1 = 0x80000 + 4 * q + 3 by omega, away 3 (by decide)]

/-- The table shows every program's value. -/
theorem State.schPublished_schTable (s : State) (f : Nat → Nat × Nat) (small : ∀ p, (f p).1 < 65536 ∧ (f p).2 < 65536) {n : Nat} (le : n ≤ 256) :
    ∀ p, p < n → (s.schTable ((List.range n).map fun p => (p, f p))).schPublished p = f p := by
  induction n with
  | zero => exact fun p lt => absurd lt (Nat.not_lt_zero p)
  | succ n ih =>
    intro p lt
    have unfolded : s.schTable ((List.range (n + 1)).map fun p => (p, f p)) =
        (s.schTable ((List.range n).map fun p => (p, f p))).schPut (n, f n) := by
      rw [State.schTable, State.schTable, List.range_succ, List.map_append, List.foldl_append]
      rfl
    obtain ⟨here, others⟩ := (s.schTable ((List.range n).map fun p => (p, f p))).schPublished_schPut (v := (n, f n)) (by dsimp only; omega)
      (small n).1 (small n).2
    rw [unfolded]
    by_cases last : p = n
    · rw [last]
      exact here
    · rw [others p (by omega) last]
      exact ih (by omega) p (by omega)

/-- The result block of a publication. -/
def publishBlock (now changed : Nat) (first guarded noTime : Bool) : List (Field × Nat) :=
  [(SCH_PUB_TIME_LO, now / 8), (SCH_PUB_TIME_HI_SECONDS, now / 8 / 2 ^ 32),
     (SCH_PUB_TIME_HI_FRACTION, now % 8 * 8192), (SCH_PUB_END_CHANGED, changed),
     (SCH_PUB_END_GUARDED, if guarded then 1 else 0), (SCH_PUB_END_NO_TIME, if noTime then 1 else 0),
     (SCH_PUB_END_FIRST, if first then 1 else 0)]

theorem State.schPublish_eq (s : State) (now : Nat) (vals : List (Nat × Nat × Nat)) (first guarded noTime : Bool) :
    ∃ (changed : Nat) (u : State), u.regs = s.regs ∧ u.sch = s.sch ∧ (∀ p, u.schPublished p = (s.schTable vals).schPublished p) ∧
      s.schPublish now vals first guarded noTime = (u.wrAll (publishBlock now changed first guarded noTime)).publish 0x08 0 (SEQ_COUNT 0x08) := by
  obtain ⟨regs, sch⟩ := s.schTable_parts vals
  rw [State.schPublish]
  by_cases changed : (vals.filter fun v => s.schPublished v.1 != v.2).length = 0
  · exact ⟨_, s.schTable vals, regs, sch, fun _ => rfl, by dsimp only; rw [if_pos changed]; rfl⟩
  · exact ⟨_, { s.schTable vals with drf := { (s.schTable vals).drf with limitsChanged := true } }, regs, sch, fun _ => rfl,
      by dsimp only; rw [if_neg changed]; rfl⟩

/-- What a publication leaves. -/
theorem State.schPublish_spec (s : State) (now : Nat) (vals : List (Nat × Nat × Nat)) (first guarded noTime : Bool) :
    let t := s.schPublish now vals first guarded noTime
    t.sch = s.sch ∧ OnlyFields publishFields s t ∧ t.rd SCH_PUB_TIME_LO = now / 8 % 2 ^ 32 ∧
      t.rd SCH_PUB_END_GUARDED = (if guarded then 1 else 0) ∧ t.rd SCH_PUB_END_NO_TIME = (if noTime then 1 else 0) ∧ Publishes 0x08 s t ∧
      ∀ p, t.schPublished p = (s.schTable vals).schPublished p := by
  obtain ⟨changed, u, regs, sch, table, is⟩ := s.schPublish_eq now vals first guarded noTime
  dsimp only
  rw [is]
  have block : OnlyFields publishFields u (u.wrAll (publishBlock now changed first guarded noTime)) := by
    refine (OnlyFields.refl _ u).wrAll fun x mem => ?_
    simp only [publishBlock, List.mem_cons, List.not_mem_nil, or_false] at mem
    rcases mem with rfl | rfl | rfl | rfl | rfl | rfl | rfl <;> dsimp only <;> decide
  have count : (u.wrAll (publishBlock now changed first guarded noTime)).rd (SEQ_COUNT 0x08) = s.rd (SEQ_COUNT 0x08) := by
    simp only [publishBlock, State.wrAll_cons, State.wrAll_nil]
    simp (disch := decide) only [State.rd_wr_ne]
    exact State.rd_congr regs _
  obtain ⟨m, parts⟩ := u.wrAll_parts (publishBlock now changed first guarded noTime)
  refine ⟨?_, (OnlyFields.of_regs regs).trans (block.publish _ _ _ (by decide) (by decide)), ?_, ?_, ?_, ⟨?_, State.fresh_publish _ _ _ _ (by decide)⟩, fun p => ?_⟩
  · rw [parts]
    exact sch
  · rw [State.rd_publish_ne _ _ _ _ (by decide) (by decide), publishBlock]
    simp only [State.wrAll_cons, State.wrAll_nil]
    simp (disch := decide) only [State.rd_wr_ne, State.rd_wr_self]
  · rw [State.rd_publish_ne _ _ _ _ (by decide) (by decide), publishBlock]
    simp only [State.wrAll_cons, State.wrAll_nil]
    simp (disch := decide) only [State.rd_wr_ne, State.rd_wr_self]
    cases guarded <;> rfl
  · rw [State.rd_publish_ne _ _ _ _ (by decide) (by decide), publishBlock]
    simp only [State.wrAll_cons, State.wrAll_nil]
    simp (disch := decide) only [State.rd_wr_ne, State.rd_wr_self]
    cases noTime <;> rfl
  · rw [State.rd_publish_seq _ _ _ _ (by decide), count]
  · rw [← table, parts]
    rfl

/-! ### The evaluation of the programs (R274 to R276) -/

/-- The fields that the astronomical table's computation and the ramps may change. -/
def astroFields : List Field := [SCH_TODAY_DATE, SCH_STATUS_RAMPING, NOTE_RAW 0x08, MSIX_PBA]

/-- The fields that an evaluation may change. -/
def evaluateFields : List Field := astroFields ++ publishFields

theorem State.putAstro_foldl (s : State) (days : List (Nat × Int × SunEvents)) :
    (days.foldl (fun s e => s.putAstro e.1 e.2.1 e.2.2) s).regs = s.regs ∧ (days.foldl (fun s e => s.putAstro e.1 e.2.1 e.2.2) s).sch = s.sch := by
  induction days generalizing s with
  | nil => exact ⟨rfl, rfl⟩
  | cons e days ih =>
    obtain ⟨regs, sch⟩ := ih (s.putAstro e.1 e.2.1 e.2.2)
    exact ⟨regs.trans (State.setBytes_regs _ _ _ _), sch.trans (State.setBytes_sch _ _ _ _)⟩

/-- The table computed for the days given. -/
def State.astroTable (s : State) (days : List (Nat × Int × SunEvents)) : State := days.foldl (fun s e => s.putAstro e.1 e.2.1 e.2.2) s

theorem State.schAstro_eq (s : State) (today : Int) (jump : Bool) : s.schAstro today jump = s ∨
    ∃ (days : List (Nat × Int × SunEvents)) (key : Nat × Nat × Nat × Int) (lacks : Bool), s.schAstro today jump =
      (((s.astroTable days).withSch { (s.astroTable days).sch with astro := some key }).wr SCH_TODAY_DATE (codeOf 18 today)).noticeIf lacks
        SCH_NOTE_NO_EVENT := by
  rw [State.schAstro]
  by_cases known : s.sch.astro = some (s.rd SCH_LAT, s.rd SCH_LON, s.rd SCH_LOCAL_OFFSET, today)
  · exact .inl (if_pos known)
  · exact .inr ⟨_, _, _, if_neg known⟩

/-- What the astronomical table's computation leaves. -/
theorem State.schAstro_spec (s : State) (today : Int) (jump : Bool) : let t := s.schAstro today jump
    (∃ a, t.sch = { s.sch with astro := a }) ∧ OnlyFields astroFields s t ∧ ∀ n : Notice, n.page = 0x08 → Noted n s → Noted n t := by
  dsimp only
  rcases s.schAstro_eq today jump with is | ⟨days, key, lacks, is⟩ <;> rw [is]
  · exact ⟨⟨s.sch.astro, rfl⟩, .refl _ s, fun _ _ h => h⟩
  · obtain ⟨regs, sch⟩ : (s.astroTable days).regs = s.regs ∧ (s.astroTable days).sch = s.sch := s.putAstro_foldl days
    generalize s.astroTable days = u at regs sch
    have only : OnlyFields astroFields s ((u.withSch { u.sch with astro := some key }).wr SCH_TODAY_DATE (codeOf 18 today)) :=
      (OnlyFields.of_regs (t := u.withSch { u.sch with astro := some key }) regs).wr _ (by decide)
    have sch' : ((u.withSch { u.sch with astro := some key }).wr SCH_TODAY_DATE (codeOf 18 today)).sch = { s.sch with astro := some key } := by
      rw [← sch]
      rfl
    have raw : ((u.withSch { u.sch with astro := some key }).wr SCH_TODAY_DATE (codeOf 18 today)).rd (NOTE_RAW 0x08) = s.rd (NOTE_RAW 0x08) := by
      rw [State.rd_wr_ne _ _ (by decide)]
      exact State.rd_congr (s := s) (t := u.withSch { u.sch with astro := some key }) regs _
    generalize (u.withSch { u.sch with astro := some key }).wr SCH_TODAY_DATE (codeOf 18 today) = v at only sch' raw
    refine ⟨⟨some key, ?_⟩, only.noticeIf lacks SCH_NOTE_NO_EVENT (by decide) (by decide), fun n page noted => ?_⟩
    · rw [State.noticeIf]
      split
      · rw [State.notice_sch, sch']
      · exact sch'
    · exact Noted.noticeIf (Noted.congr noted (by rw [page]; exact raw)) lacks SCH_NOTE_NO_EVENT page.symm (by decide)

/-- What an evaluation with valid time, or the publication alone, leaves. -/
structure Evaluated (now : Nat) (guarded : Bool) (s t : State) : Prop where
  prev : t.sch.prev = s.sch.prev
  high : t.sch.high = s.sch.high
  stored : t.sch.highStored = s.sch.highStored
  only : OnlyFields evaluateFields s t
  time : t.rd SCH_PUB_TIME_LO = now / 8 % 2 ^ 32
  guard : t.rd SCH_PUB_END_GUARDED = if guarded then 1 else 0
  noTime : t.rd SCH_PUB_END_NO_TIME = 0
  publishes : Publishes 0x08 s t
  notes : ∀ n : Notice, n.page = 0x08 → Noted n s → Noted n t

theorem State.schPublish_evaluated (s : State) (now : Nat) (vals : List (Nat × Nat × Nat)) (first guarded : Bool) :
    Evaluated now guarded s (s.schPublish now vals first guarded false) := by
  obtain ⟨same, fields, time, guard, noTime, publishes, -⟩ := s.schPublish_spec now vals first guarded false
  exact ⟨by rw [same], by rw [same], by rw [same], fields.mono (List.subset_append_right _ _), time, guard, noTime, publishes,
    fun n page noted => Noted.congr noted (fields _ (by rw [page]; decide))⟩

theorem State.schEvaluate_evaluated (s : State) (now tick : Nat) (guarded jump : Bool) : Evaluated tick guarded s (s.schEvaluate now tick guarded jump) := by
  rw [State.schEvaluate]
  dsimp only
  obtain ⟨⟨a, sch⟩, only, notes⟩ := s.schAstro_spec (s.localDate (now / 8 : Nat)) jump
  generalize s.schAstro (s.localDate (now / 8 : Nat)) jump = u at sch only notes
  generalize progs_ : (List.range 256).map (fun p => (p, u.schProgram p _ _ _)) = progs
  generalize ramp_ : (progs.any _) = ramping
  generalize vals_ : progs.map _ = vals
  have only₁ : OnlyFields astroFields s
      ({ u with sch := { u.sch with programs := progs, firstDue := false, published := true } }.wrB SCH_STATUS_RAMPING ramping) :=
    (only.congr rfl).wr (t := { u with sch := { u.sch with programs := progs, firstDue := false, published := true } }) _ (by decide)
  have sch₁ : ({ u with sch := { u.sch with programs := progs, firstDue := false, published := true } }.wrB SCH_STATUS_RAMPING ramping).sch =
      { u.sch with programs := progs, firstDue := false, published := true } := rfl
  have notes₁ : ∀ n : Notice, n.page = 0x08 → Noted n s →
      Noted n ({ u with sch := { u.sch with programs := progs, firstDue := false, published := true } }.wrB SCH_STATUS_RAMPING ramping) :=
    fun n page noted => Noted.congr (notes n page noted) (State.rd_wr_ne _ _ (by rw [page]; decide))
  generalize { u with sch := { u.sch with programs := progs, firstDue := false, published := true } }.wrB SCH_STATUS_RAMPING ramping = v at *
  have published := v.schPublish_evaluated tick vals s.sch.firstDue guarded
  have sch₂ : v.sch.prev = s.sch.prev ∧ v.sch.high = s.sch.high ∧ v.sch.highStored = s.sch.highStored := by
    rw [sch₁, sch]
    exact ⟨rfl, rfl, rfl⟩
  obtain ⟨prev, high, stored⟩ := sch₂
  obtain ⟨count, fresh⟩ := published.publishes
  exact ⟨published.prev.trans prev, published.high.trans high, published.stored.trans stored,
    (only₁.mono (List.subset_append_left _ _)).trans published.only, published.time, published.guard, published.noTime,
    ⟨by rw [count, only₁ _ (by decide)], fresh⟩, fun n page noted => published.notes n page (notes₁ n page noted)⟩

/-! ### The parts of a tick (R271, R277 to R283) -/

/-- The fields that an armed change of the offset may change. -/
def changeFields : List Field :=
  [SCH_LOCAL_PREV_OFFSET, SCH_LOCAL_PREV_AT_LO, SCH_LOCAL_PREV_AT_HI, SCH_LOCAL_OFFSET, SCH_LOCAL_AT_LO, SCH_LOCAL_AT_HI, NOTE_RAW 0x08, MSIX_PBA]

theorem State.schLocalChange_spec (s : State) (secs : Nat) : let t := s.schLocalChange secs
    t.sch = s.sch ∧ t.modes = s.modes ∧ OnlyFields changeFields s t := by
  rw [State.schLocalChange]
  dsimp only
  split
  · exact ⟨rfl, rfl, .refl _ s⟩
  · refine ⟨by rw [State.notice_sch]; rfl, by rw [State.notice_modes]; rfl, OnlyFields.notice ((OnlyFields.refl _ s).wrAll ?_) _ (by decide) (by decide)⟩
    intro x mem
    simp only [List.mem_cons, List.not_mem_nil, or_false] at mem
    rcases mem with rfl | rfl | rfl | rfl | rfl | rfl <;> dsimp only <;> decide

/-- The state in which a tick with valid time is taken. -/
def State.ticking (s : State) (now : Nat) : State :=
  ((s.schLocalChange (now / 8)).wr SCH_STATUS_NO_TIME 0).withSch { ((s.schLocalChange (now / 8)).wr SCH_STATUS_NO_TIME 0).sch with prev := some now }

theorem State.ticking_spec (s : State) (now : Nat) : let t := s.ticking now
    t.sch = { s.sch with prev := some now } ∧ t.modes = s.modes ∧ t.rd SCH_STATUS_NO_TIME = 0 ∧ OnlyFields (SCH_STATUS_NO_TIME :: changeFields) s t := by
  obtain ⟨sch, modes, only⟩ := s.schLocalChange_spec (now / 8)
  dsimp only
  rw [State.ticking]
  refine ⟨?_, modes, ?_, ?_⟩
  · show { (s.schLocalChange (now / 8)).sch with prev := some now } = _
    rw [sch]
  · show ((s.schLocalChange (now / 8)).wr SCH_STATUS_NO_TIME 0).rd SCH_STATUS_NO_TIME = 0
    rw [State.rd_wr_self]
    rfl
  · exact ((only.mono (List.subset_cons_self _ _)).wr (f := SCH_STATUS_NO_TIME) 0 List.mem_cons_self).congr rfl

/-- The high-water mark takes its value. -/
theorem State.schHigh_spec (s : State) (now : Nat) : let t := s.schHigh now
    t.sch = { s.sch with high := now } ∧ OnlyFields [SCH_HIGH_LO, SCH_HIGH_HI] s t ∧ t.rd SCH_HIGH_LO = now / 8 % 2 ^ 32 := by
  dsimp only
  rw [State.schHigh]
  refine ⟨rfl, ((OnlyFields.of_regs (t := { s with sch := { s.sch with high := now } }) rfl).wr _ (by decide)).wr _ (by decide), ?_⟩
  rw [State.rd_wr_ne _ _ (by decide), State.rd_wr_self]

/-- What a tick with valid time leaves, whatever it finds. -/
structure Ticked (s : State) (now : Nat) (t : State) : Prop where
  noTime : t.rd SCH_STATUS_NO_TIME = 0
  blockTime : t.rd SCH_PUB_END_NO_TIME = 0
  publishes : Publishes 0x08 s t
  time : t.rd SCH_PUB_TIME_LO = now / 8 % 2 ^ 32
  prev : t.sch.prev = some now
  stored : t.sch.highStored = s.sch.highStored

/-- The state in which a tick of a unit with valid time evaluates. -/
structure Ready (s : State) (now : Nat) (u : State) : Prop where
  noTime : u.rd SCH_STATUS_NO_TIME = 0
  prev : u.sch.prev = some now
  stored : u.sch.highStored = s.sch.highStored
  count : u.rd (SEQ_COUNT 0x08) = s.rd (SEQ_COUNT 0x08)

theorem Evaluated.ticked {s u t : State} {now : Nat} {guarded : Bool} (h : Evaluated now guarded u t) (ready : Ready s now u) : Ticked s now t := by
  obtain ⟨count, fresh⟩ := h.publishes
  exact ⟨by rw [h.only _ (by decide), ready.noTime], h.noTime, ⟨by rw [count, ready.count], fresh⟩, h.time, by rw [h.prev, ready.prev],
    by rw [h.stored, ready.stored]⟩

/-- The guard begins, unless it runs (R282). -/
def State.guarding (s : State) : State :=
  if s.rdB SCH_STATUS_GUARDED then s
  else (((s.withSch { s.sch with span := s.rd SCH_GUARD_SPAN }).wr SCH_STATUS_GUARDED 1).count SCH_GUARDS 1).notice SCH_NOTE_GUARD

theorem State.rdB_eq_false {s : State} {f : Field} (h : s.rdB f = false) (w : f.width = 1) : s.rd f = 0 := by
  have lt := s.rd_lt f
  rw [w] at lt
  have ne : s.rd f ≠ 1 := fun one => by rw [State.rdB_of one] at h; cases h
  omega

theorem State.rdB_eq_true {s : State} {f : Field} (h : s.rdB f = true) (w : f.width = 1) : s.rd f = 1 := by
  have lt := s.rd_lt f
  rw [w] at lt
  have ne : s.rd f ≠ 0 := fun zero => by rw [State.rdB_of_zero zero] at h; cases h
  omega

theorem State.guarding_spec (s : State) : let t := s.guarding
    (∃ span, t.sch = { s.sch with span := span }) ∧ OnlyFields [SCH_STATUS_GUARDED, SCH_GUARDS, NOTE_RAW 0x08, MSIX_PBA] s t ∧
      t.rd SCH_STATUS_GUARDED = 1 ∧
      (s.rd SCH_STATUS_GUARDED = 0 → t.rd SCH_GUARDS = (s.rd SCH_GUARDS + 1) % 2 ^ 32 ∧ Noted SCH_NOTE_GUARD t) := by
  rw [State.guarding]
  dsimp only
  split
  · next runs =>
    have one := State.rdB_eq_true runs rfl
    exact ⟨⟨s.sch.span, rfl⟩, .refl _ s, one, fun zero => absurd (one.symm.trans zero) (by decide)⟩
  · have only : OnlyFields [SCH_STATUS_GUARDED, SCH_GUARDS, NOTE_RAW 0x08, MSIX_PBA] s
        (((s.withSch { s.sch with span := s.rd SCH_GUARD_SPAN }).wr SCH_STATUS_GUARDED 1).count SCH_GUARDS 1) :=
      ((OnlyFields.of_regs (t := s.withSch { s.sch with span := s.rd SCH_GUARD_SPAN }) rfl).wr _ (by decide)).count 1 (by decide)
    refine ⟨⟨s.rd SCH_GUARD_SPAN, by rw [State.notice_sch]; rfl⟩, only.notice _ (by decide) (by decide), ?_, fun _ =>
      ⟨?_, State.noted_notice _ _ (by decide)⟩⟩
    · rw [State.rd_notice_ne _ _ (by decide) (by decide), State.rd_count_ne _ _ (by decide), State.rd_wr_self]
      rfl
    · rw [State.rd_notice_ne _ _ (by decide) (by decide), State.rd_count_self, State.rd_wr_ne _ _ (by decide)]
      rfl

/-- A tick within the guard's span (R282, R283). -/
theorem State.schGuarded_spec {s u : State} {now : Nat} (sch : u.sch = { s.sch with prev := some now }) (time : u.rd SCH_STATUS_NO_TIME = 0)
    (only : OnlyFields (SCH_STATUS_NO_TIME :: changeFields) s u) : let t := u.schGuarded now
    Ticked s now t ∧ t.rd SCH_STATUS_GUARDED = 1 ∧ t.rd SCH_PUB_END_GUARDED = 1 ∧ t.sch.high = s.sch.high ∧
      (s.rd SCH_STATUS_GUARDED = 0 → t.rd SCH_GUARDS = (s.rd SCH_GUARDS + 1) % 2 ^ 32 ∧ Noted SCH_NOTE_GUARD t) := by
  obtain ⟨⟨span, sch'⟩, only', guarded, began⟩ := u.guarding_spec
  rw [only _ (by decide), only _ (by decide)] at began
  have evaluated : Evaluated now true u.guarding (u.schGuarded now) := by
    show Evaluated now true u.guarding (if u.guarding.sch.firstDue then u.guarding.schEvaluate u.guarding.sch.high now true true
      else u.guarding.schPublish now [] false true false)
    split
    · exact State.schEvaluate_evaluated _ _ _ _ _
    · exact State.schPublish_evaluated _ _ _ _ _
  generalize u.guarding = v at *
  have ready : Ready s now v := ⟨by rw [only' _ (by decide), time], by rw [sch', sch], by rw [sch', sch],
    by rw [only' _ (by decide), only _ (by decide)]⟩
  refine ⟨evaluated.ticked ready, by rw [evaluated.only _ (by decide), guarded], evaluated.guard, by rw [evaluated.high, sch', sch], fun zero => ?_⟩
  obtain ⟨count, noted⟩ := began zero
  exact ⟨by rw [evaluated.only _ (by decide), count], evaluated.notes _ rfl noted⟩

/-- An evaluation outside the guard, and the high-water mark (R282). -/
theorem State.schEvaluate_schHigh_spec {s u : State} {now : Nat} (ready : Ready s now u) (guard : u.rd SCH_STATUS_GUARDED = 0) (jump : Bool) :
    let t := (u.schEvaluate now now false jump).schHigh now
    Ticked s now t ∧ t.rd SCH_STATUS_GUARDED = 0 ∧ t.rd SCH_PUB_END_GUARDED = 0 ∧ t.sch.high = now ∧ t.rd SCH_HIGH_LO = now / 8 % 2 ^ 32 ∧
      (∀ n : Notice, n.page = 0x08 → Noted n u → Noted n t) ∧
      ∀ f : Field, (∀ g ∈ SCH_HIGH_LO :: SCH_HIGH_HI :: evaluateFields, f.key ≠ g.key) → t.rd f = u.rd f := by
  have evaluated := u.schEvaluate_evaluated now now false jump
  generalize u.schEvaluate now now false jump = v at evaluated
  obtain ⟨sch, only, mark⟩ := v.schHigh_spec now
  obtain ⟨noTime, blockTime, ⟨count, fresh⟩, time, prev, stored⟩ := evaluated.ticked ready
  refine ⟨⟨by rw [only _ (by decide), noTime], by rw [only _ (by decide), blockTime], ⟨by rw [only _ (by decide), count],
      by rw [only _ (by decide)]; exact fresh⟩, by rw [only _ (by decide), time], by rw [sch]; exact prev, by rw [sch]; exact stored⟩,
    by rw [only _ (by decide), evaluated.only _ (by decide), guard], by rw [only _ (by decide), evaluated.guard]; rfl, by rw [sch], mark,
    fun n page noted => Noted.congr (evaluated.notes n page noted) (only _ (by rw [page]; decide)), fun f hf => ?_⟩
  rw [only f fun g mem => hf g ?_, evaluated.only f fun g mem => hf g ?_]
  · exact List.mem_cons_of_mem _ (List.mem_cons_of_mem _ mem)
  · simp only [List.mem_cons, List.not_mem_nil, or_false] at mem ⊢
    rcases mem with rfl | rfl
    · exact .inl rfl
    · exact .inr (.inl rfl)

/-- An event for Silt leaves the schedule unit alone. -/
theorem State.silt_sch (s : State) (c p0 p1 p2 p3 : Nat) : (s.silt c p0 p1 p2 p3).sch = s.sch := by
  obtain ⟨r, e, i, is⟩ := s.silt_eq c p0 p1 p2 p3
  rw [is]

/-- A jump back (R282): the mark falls to now. -/
def State.jumpedBack (s : State) (p0 p1 : Nat) : State :=
  ((((s.count SCH_JUMP_BACK 1).notice SCH_NOTE_JUMP_BACK).silt 0x0802 p0 p1).withSch
    { (((s.count SCH_JUMP_BACK 1).notice SCH_NOTE_JUMP_BACK).silt 0x0802 p0 p1).sch with firstDue := true }).wr SCH_STATUS_GUARDED 0

theorem State.jumpedBack_spec (s : State) (p0 p1 : Nat) : let t := s.jumpedBack p0 p1
    t.sch = { s.sch with firstDue := true } ∧
      OnlyFields [SCH_JUMP_BACK, SCH_STATUS_GUARDED, SLT_LOST, NOTE_RAW 0x1E, NOTE_RAW 0x08, MSIX_PBA] s t ∧ t.rd SCH_STATUS_GUARDED = 0 ∧
      t.rd SCH_JUMP_BACK = (s.rd SCH_JUMP_BACK + 1) % 2 ^ 32 ∧ Noted SCH_NOTE_JUMP_BACK t := by
  have only : OnlyFields [SCH_JUMP_BACK, SCH_STATUS_GUARDED, SLT_LOST, NOTE_RAW 0x1E, NOTE_RAW 0x08, MSIX_PBA] s
      (((s.count SCH_JUMP_BACK 1).notice SCH_NOTE_JUMP_BACK).silt 0x0802 p0 p1) :=
    ((((OnlyFields.refl _ s).count 1 (by decide)).notice _ (by decide) (by decide)).silt _ _ _ _ _ (by decide) (by decide) (by decide))
  have counted : (((s.count SCH_JUMP_BACK 1).notice SCH_NOTE_JUMP_BACK).silt 0x0802 p0 p1).rd SCH_JUMP_BACK = (s.rd SCH_JUMP_BACK + 1) % 2 ^ 32 := by
    rw [State.rd_silt_ne _ _ _ _ _ _ (by decide) (by decide) (by decide), State.rd_notice_ne _ _ (by decide) (by decide), State.rd_count_self]
  have noted : Noted SCH_NOTE_JUMP_BACK (((s.count SCH_JUMP_BACK 1).notice SCH_NOTE_JUMP_BACK).silt 0x0802 p0 p1) :=
    Noted.congr (State.noted_notice _ _ (by decide)) (State.rd_silt_ne _ _ _ _ _ _ (by decide) (by decide) (by decide))
  have sch : (((s.count SCH_JUMP_BACK 1).notice SCH_NOTE_JUMP_BACK).silt 0x0802 p0 p1).sch = s.sch := by
    rw [State.silt_sch, State.notice_sch]
    rfl
  rw [State.jumpedBack]
  generalize ((s.count SCH_JUMP_BACK 1).notice SCH_NOTE_JUMP_BACK).silt 0x0802 p0 p1 = u at *
  refine ⟨by rw [← sch]; rfl, (only.congr (u := u.withSch { u.sch with firstDue := true }) rfl).wr _ (by decide), State.rd_wr_self _ _ _, ?_,
    Noted.congr noted (State.rd_wr_ne _ _ (by decide))⟩
  rw [State.rd_wr_ne _ _ (by decide), ← counted]
  rfl

/-- A guard that runs ends (R282). -/
def State.guardEnds (s : State) : State := if s.rdB SCH_STATUS_GUARDED then (s.wr SCH_STATUS_GUARDED 0).notice SCH_NOTE_GUARD_END else s

theorem State.guardEnds_spec (s : State) : let t := s.guardEnds
    t.sch = s.sch ∧ t.modes = s.modes ∧ OnlyFields [SCH_STATUS_GUARDED, NOTE_RAW 0x08, MSIX_PBA] s t ∧ t.rd SCH_STATUS_GUARDED = 0 ∧
      (s.rd SCH_STATUS_GUARDED = 1 → Noted SCH_NOTE_GUARD_END t) := by
  rw [State.guardEnds]
  dsimp only
  split
  · refine ⟨by simp, by simp, ((OnlyFields.refl _ s).wr _ (by decide)).notice _ (by decide) (by decide), ?_, fun _ => State.noted_notice _ _ (by decide)⟩
    rw [State.rd_notice_ne _ _ (by decide) (by decide), State.rd_wr_self]
    rfl
  · next off => exact ⟨rfl, rfl, .refl _ s, State.rdB_eq_false (by simpa using off) rfl, fun one => absurd (State.rdB_of one) off⟩

/-- A jump forward counts (R282). -/
def State.jumpedOn (s : State) (jump : Bool) (p0 p1 : Nat) : State :=
  if jump then ((s.count SCH_JUMP_FWD 1).notice SCH_NOTE_JUMP_FWD).silt 0x0801 p0 p1 else s

theorem State.jumpedOn_spec (s : State) (jump : Bool) (p0 p1 : Nat) : let t := s.jumpedOn jump p0 p1
    t.sch = s.sch ∧ OnlyFields [SCH_JUMP_FWD, SLT_LOST, NOTE_RAW 0x1E, NOTE_RAW 0x08, MSIX_PBA] s t ∧ (∀ n : Notice, n.page = 0x08 → Noted n s → Noted n t) ∧
      (jump = true → t.rd SCH_JUMP_FWD = (s.rd SCH_JUMP_FWD + 1) % 2 ^ 32 ∧ Noted SCH_NOTE_JUMP_FWD t) := by
  rw [State.jumpedOn]
  dsimp only
  split
  · refine ⟨by rw [State.silt_sch, State.notice_sch]; rfl, (((OnlyFields.refl _ s).count 1 (by decide)).notice _ (by decide) (by decide)).silt _ _ _ _ _ (by decide) (by decide) (by decide),
      fun n page noted => ?_, fun _ => ⟨?_, Noted.congr (State.noted_notice _ _ (by decide)) (State.rd_silt_ne _ _ _ _ _ _ (by decide) (by decide) (by decide))⟩⟩
    · refine Noted.congr (Noted.notice (Noted.wr (f := SCH_JUMP_FWD) noted (s.rd SCH_JUMP_FWD + 1) (by rw [page]; decide)) SCH_NOTE_JUMP_FWD page.symm (by decide)) ?_
      exact State.rd_silt_ne _ _ _ _ _ _ (by rw [page]; decide) (by rw [page]; decide) (by rw [page]; decide)
    · rw [State.rd_silt_ne _ _ _ _ _ _ (by decide) (by decide) (by decide), State.rd_notice_ne _ _ (by decide) (by decide), State.rd_count_self]
  · next still => exact ⟨rfl, .refl _ s, fun _ _ h => h, fun jumps => absurd jumps still⟩

theorem State.schTick_valid {s : State} (on : s.rd SCH_CTRL_EN = 1) (light : s.lightPath = true) (valid : s.calValid = true) :
    s.schTick =
      let now := s.calNow.secs * 8 + s.calNow.frac / 8192
      let u := s.ticking now
      if now < u.sch.high then
        if u.sch.high - now ≤ 8 * u.guardSpan then u.schGuarded now
        else ((u.jumpedBack ((s.schLocalChange (now / 8)).sch.prev.getD u.sch.high / 8) (now / 8)).schEvaluate now now false true).schHigh now
      else
        let jump := (s.schLocalChange (now / 8)).sch.prev.any fun p => Decidable.decide (p + u.guardEnds.schSpacing + 8 ≤ now)
        ((u.guardEnds.jumpedOn jump ((s.schLocalChange (now / 8)).sch.prev.getD now / 8) (now / 8)).schEvaluate now now false jump).schHigh now := by
  rw [State.schTick, if_neg (by rw [State.rdB_of on, light]; decide), valid]
  rfl

/-- R277, R282, R283: a tick with valid time. -/
theorem State.schTick_takes {s : State} (on : s.rd SCH_CTRL_EN = 1) (light : s.lightPath = true) (valid : s.calValid = true) :
    let t := s.schTick
    let now := s.calNow.secs * 8 + s.calNow.frac / 8192
    Ticked s now t ∧
      if now < s.sch.high ∧ s.sch.high - now ≤ 8 * (if s.rd SCH_STATUS_GUARDED = 1 then s.sch.span else s.rd SCH_GUARD_SPAN) then
        t.rd SCH_STATUS_GUARDED = 1 ∧ t.rd SCH_PUB_END_GUARDED = 1 ∧ t.sch.high = s.sch.high ∧
        (s.rd SCH_STATUS_GUARDED = 0 → t.rd SCH_GUARDS = (s.rd SCH_GUARDS + 1) % 2 ^ 32 ∧ Noted SCH_NOTE_GUARD t)
      else
        t.rd SCH_STATUS_GUARDED = 0 ∧ t.rd SCH_PUB_END_GUARDED = 0 ∧ t.sch.high = now ∧ t.rd SCH_HIGH_LO = now / 8 % 2 ^ 32 ∧
        if now < s.sch.high then t.rd SCH_JUMP_BACK = (s.rd SCH_JUMP_BACK + 1) % 2 ^ 32 ∧ Noted SCH_NOTE_JUMP_BACK t
        else
          t.rd SCH_JUMP_BACK = s.rd SCH_JUMP_BACK ∧ (s.rd SCH_STATUS_GUARDED = 1 → Noted SCH_NOTE_GUARD_END t) ∧
          ∀ p, s.sch.prev = some p → p + (if s.modes.power = .doze then 8 else 1) + 8 ≤ now →
            t.rd SCH_JUMP_FWD = (s.rd SCH_JUMP_FWD + 1) % 2 ^ 32 ∧ Noted SCH_NOTE_JUMP_FWD t := by
  rw [State.schTick_valid on light valid]
  dsimp only
  generalize s.calNow.secs * 8 + s.calNow.frac / 8192 = now
  obtain ⟨sch, modes, noTime, only⟩ := s.ticking_spec now
  have before : (s.schLocalChange (now / 8)).sch.prev = s.sch.prev := by rw [(s.schLocalChange_spec (now / 8)).1]
  rw [before]
  generalize s.ticking now = u at sch modes noTime only
  have high : u.sch.high = s.sch.high := by rw [sch]
  have guard : u.rd SCH_STATUS_GUARDED = s.rd SCH_STATUS_GUARDED := only _ (by decide)
  have span : u.guardSpan = if s.rd SCH_STATUS_GUARDED = 1 then s.sch.span else s.rd SCH_GUARD_SPAN := by
    rw [State.guardSpan, sch, only SCH_GUARD_SPAN (by decide)]
    cases running : u.rdB SCH_STATUS_GUARDED
    · rw [if_neg (c := false = true) (by decide), if_neg (by rw [← guard, State.rdB_eq_false running rfl]; decide)]
    · rw [if_pos (c := true = true) rfl, if_pos (by rw [← guard, State.rdB_eq_true running rfl])]
  rw [high, span]
  by_cases below : now < s.sch.high
  · rw [if_pos below]
    by_cases within : s.sch.high - now ≤ 8 * (if s.rd SCH_STATUS_GUARDED = 1 then s.sch.span else s.rd SCH_GUARD_SPAN)
    · rw [if_pos within, if_pos ⟨below, within⟩]
      exact State.schGuarded_spec sch noTime only
    · rw [if_neg within, if_neg (fun h => within h.2), if_pos below]
      obtain ⟨sch', only', guard', count, noted⟩ := u.jumpedBack_spec (s.sch.prev.getD s.sch.high / 8) (now / 8)
      generalize u.jumpedBack (s.sch.prev.getD s.sch.high / 8) (now / 8) = v at *
      have ready : Ready s now v := ⟨by rw [only' _ (by decide), noTime], by rw [sch', sch], by rw [sch', sch],
        by rw [only' _ (by decide), only _ (by decide)]⟩
      obtain ⟨ticked, off, shown, mark, low, notes, rest⟩ := State.schEvaluate_schHigh_spec ready guard' true
      exact ⟨ticked, off, shown, mark, low, by rw [rest _ (by decide), count, only _ (by decide)], notes _ rfl noted⟩
  · rw [if_neg below, if_neg (fun h => below h.1), if_neg below]
    obtain ⟨sch₁, modes₁, only₁, guard₁, ended⟩ := u.guardEnds_spec
    rw [guard] at ended
    have spacing : u.guardEnds.schSpacing = if s.modes.power = .doze then 8 else 1 := by rw [State.schSpacing, modes₁, modes]
    rw [spacing]
    generalize jump_ : (s.sch.prev.any fun p => Decidable.decide (p + (if s.modes.power = .doze then 8 else 1) + 8 ≤ now)) = jump
    generalize u.guardEnds = v at *
    obtain ⟨sch₂, only₂, notes₂, jumped⟩ := v.jumpedOn_spec jump (s.sch.prev.getD now / 8) (now / 8)
    generalize v.jumpedOn jump (s.sch.prev.getD now / 8) (now / 8) = w at *
    have ready : Ready s now w := ⟨by rw [only₂ _ (by decide), only₁ _ (by decide), noTime], by rw [sch₂, sch₁, sch], by rw [sch₂, sch₁, sch],
      by rw [only₂ _ (by decide), only₁ _ (by decide), only _ (by decide)]⟩
    obtain ⟨ticked, off, shown, mark, low, notes, rest⟩ := State.schEvaluate_schHigh_spec ready (by rw [only₂ _ (by decide), guard₁]) jump
    refine ⟨ticked, off, shown, mark, low, ?_, fun one => notes _ rfl (notes₂ _ rfl (ended one)), fun p some_ far => ?_⟩
    · rw [rest _ (by decide), only₂ _ (by decide), only₁ _ (by decide), only _ (by decide)]
    · have jumps : jump = true := by
        rw [← jump_, some_]
        exact decide_eq_true far
      obtain ⟨count, noted⟩ := jumped jumps
      exact ⟨by rw [rest _ (by decide), count, only₁ _ (by decide), only _ (by decide)], notes _ rfl noted⟩

theorem State.program_small (s : State) (p : Nat) : (s.program p).floor < 65536 ∧ (s.program p).cap < 65536 :=
  ⟨State.wN_lt _ _ _ 2, State.wN_lt _ _ _ 2⟩

/-- The value of a program while calendar time is not valid (R280). -/
def State.noTimeValue (s : State) (p : Nat) : Nat × Nat := if (s.program p).valid then ((s.program p).floor, (s.program p).cap) else (0, 65535)

/-- R280: a tick while calendar time is not valid. -/
theorem State.schNoTime_spec (s : State) (now : Nat) : let t := s.schNoTime now
    t.rd SCH_STATUS_NO_TIME = 1 ∧ t.rd SCH_PUB_END_NO_TIME = 1 ∧ Publishes 0x08 s t ∧
      t.sch.published = true ∧ t.sch.firstDue = true ∧ t.sch.high = s.sch.high ∧
      (s.rd SCH_STATUS_NO_TIME = 0 → Noted SCH_NOTE_NO_TIME t) ∧ ∀ p, p < 256 → t.schPublished p = s.noTimeValue p := by
  have is : s.schNoTime now =
      (((s.noticeIf (!s.rdB SCH_STATUS_NO_TIME) SCH_NOTE_NO_TIME).withSch
        { (s.noticeIf (!s.rdB SCH_STATUS_NO_TIME) SCH_NOTE_NO_TIME).sch with prev := none, firstDue := true, published := true, programs := [] }).wrAll
          [(SCH_STATUS_NO_TIME, 1), (SCH_STATUS_GUARDED, 0), (SCH_STATUS_RAMPING, 0)]).schPublish now
            ((List.range 256).map fun p => (p, s.noTimeValue p)) (s.sch.firstDue && !s.sch.published) false true := rfl
  have noted : s.rd SCH_STATUS_NO_TIME = 0 → Noted SCH_NOTE_NO_TIME (s.noticeIf (!s.rdB SCH_STATUS_NO_TIME) SCH_NOTE_NO_TIME) := fun zero => by
    rw [State.rdB_of_zero zero]
    exact State.noted_notice _ _ (by decide)
  have only : OnlyFields [NOTE_RAW 0x08, MSIX_PBA] s (s.noticeIf (!s.rdB SCH_STATUS_NO_TIME) SCH_NOTE_NO_TIME) :=
    (OnlyFields.refl _ s).noticeIf _ _ (by decide) (by decide)
  have high : (s.noticeIf (!s.rdB SCH_STATUS_NO_TIME) SCH_NOTE_NO_TIME).sch = s.sch := by
    rw [State.noticeIf]
    split <;> simp
  dsimp only
  rw [is]
  generalize s.noticeIf (!s.rdB SCH_STATUS_NO_TIME) SCH_NOTE_NO_TIME = u at noted only high
  generalize taken : (u.withSch { u.sch with prev := none, firstDue := true, published := true, programs := [] }).wrAll
    [(SCH_STATUS_NO_TIME, 1), (SCH_STATUS_GUARDED, 0), (SCH_STATUS_RAMPING, 0)] = v
  have rest : ∀ f : Field, f.key ≠ SCH_STATUS_NO_TIME.key → f.key ≠ SCH_STATUS_GUARDED.key → f.key ≠ SCH_STATUS_RAMPING.key → v.rd f = u.rd f := by
    intro f h₁ h₂ h₃
    rw [← taken]
    simp only [State.wrAll_cons, State.wrAll_nil]
    rw [State.rd_wr_ne _ _ h₃, State.rd_wr_ne _ _ h₂, State.rd_wr_ne _ _ h₁]
    rfl
  have shown : v.rd SCH_STATUS_NO_TIME = 1 := by
    rw [← taken]
    simp only [State.wrAll_cons, State.wrAll_nil]
    rw [State.rd_wr_ne _ _ (by decide), State.rd_wr_ne _ _ (by decide), State.rd_wr_self]
    rfl
  have sch : v.sch = { s.sch with prev := none, firstDue := true, published := true, programs := [] } := by
    rw [← taken, ← high]
    rfl
  obtain ⟨same, fields, -, -, noTime, ⟨count, fresh⟩, table⟩ := v.schPublish_spec now ((List.range 256).map fun p => (p, s.noTimeValue p))
    (s.sch.firstDue && !s.sch.published) false true
  refine ⟨by rw [fields _ (by decide), shown], noTime, ⟨?_, fresh⟩, by rw [same, sch], by rw [same, sch], by rw [same, sch], fun zero => ?_, fun p lt => ?_⟩
  · rw [count, rest _ (by decide) (by decide) (by decide), only _ (by decide)]
  · exact Noted.congr (noted zero) ((fields _ (by decide)).trans (rest _ (by decide) (by decide) (by decide)))
  · rw [table, State.schPublished_schTable _ _ _ (Nat.le_refl 256) p lt]
    intro q
    rw [State.noTimeValue]
    split
    · exact s.program_small q
    · exact ⟨by decide, by decide⟩

/-- Settles O29: a publication and an evaluation have one rule each (`schPublish_spec`, `schEvaluate_evaluated`); the tick is split as the
mark splits it. -/
theorem scheduleTicks : Obligations.ScheduleTicks := by
  unfold Obligations.ScheduleTicks
  refine ⟨fun s work idle => ?_, fun s work on light invalid => ?_, fun s work on light valid => ?_, fun s work => ?_⟩
  · refine Completes.working (u := s) rfl work ?_
    have stands : (!s.rdB SCH_CTRL_EN || !s.lightPath) = true := by
      rcases idle with off | dark
      · rw [State.rdB_of_zero off]
        rfl
      · rw [dark]
        simp
    rw [State.schTick]
    exact if_pos stands
  · refine Completes.working (u := s) rfl work ?_
    have is : s.schTick = s.schNoTime (s.calNow.secs * 8 + s.calNow.frac / 8192) := by
      rw [State.schTick, if_neg (by rw [State.rdB_of on, light]; decide), invalid]
      rfl
    rw [is]
    exact State.schNoTime_spec s _
  · refine Completes.working (u := s) rfl work ?_
    obtain ⟨⟨noTime, blockTime, publishes, time, prev, stored⟩, rest⟩ := State.schTick_takes on light valid
    exact ⟨noTime, blockTime, publishes, time, prev, stored, rest⟩
  · exact Completes.working (u := s) rfl work rfl

end Sys2Proof.Machine
end

section
/-! SUPPORT. The evaluations of Drift (O28). -/

namespace Sys2Proof.Machine

/-! ### The publication of an evaluation (R261, R263) -/

/-- The fields of the snapshot block. -/
def snapFields : List Field :=
  [DRF_SNAP_TIME_LO, DRF_SNAP_TIME_HI, DRF_SNAP_BANK_BANK, DRF_SNAP_WALKERS_IN_USE, DRF_SNAP_WALKERS_TRUNC, DRF_SNAP_EVENTS_TAKEN,
    DRF_SNAP_EVENTS_COALESCED, DRF_SNAP_DUR_DURATION, DRF_SNAP_DUR_STRETCH, DRF_SNAP_END_OVERRUN, DRF_SNAP_END_DEGRADED, DRF_SNAP_END_TRUNC,
    DRF_SNAP_END_FLOOR_OVER_CAP, DRF_SNAP_END_SWAPPED]

/-- The fields that the counters and notices of an evaluation may change. -/
def tellFields : List Field :=
  [DRF_TRUNC, DRF_FLOOR_OVER_CAP, DRF_OVERRUNS, DRF_STATUS_DEGRADED, NOTE_RAW 0x07, MSIX_PBA, SLT_LOST, NOTE_RAW 0x1E]

/-- The fields that the publication of an evaluation may change. -/
def drfPublishFields : List Field := tellFields ++ snapFields ++ [SEQ_COUNT 0x07, FRESH 0x07]

/-- A part of the windows takes bytes, and nothing else changes. -/
def OnlyWin (s t : State) : Prop := ∃ w, t = { s with win := w }

theorem OnlyWin.refl (s : State) : OnlyWin s s := ⟨s.win, rfl⟩

theorem OnlyWin.setBytes {s t : State} (h : OnlyWin s t) (p a : Nat) (l : List Nat) : OnlyWin s (t.setBytes p a l) := by
  obtain ⟨w, rfl⟩ := h
  exact ⟨_, rfl⟩

theorem OnlyWin.clearBytes {s t : State} (h : OnlyWin s t) (p a n : Nat) : OnlyWin s (t.clearBytes p a n) := by
  obtain ⟨w, rfl⟩ := h
  exact ⟨_, rfl⟩

theorem OnlyWin.foldl {α : Type} {s t : State} (h : OnlyWin s t) {f : State → α → State} (step : ∀ u x, OnlyWin s u → OnlyWin s (f u x)) (l : List α) :
    OnlyWin s (l.foldl f t) := by
  induction l generalizing t with
  | nil => exact h
  | cons x l ih => exact ih (step t x h)

theorem State.endOverrides_only (s : State) (now : Nat) : OnlyWin s (s.endOverrides now) := by
  rw [State.endOverrides]
  refine (OnlyWin.refl s).foldl (fun u v h => ?_) _
  split
  · exact h
  · exact h.setBytes _ _ _

theorem OnlyWin.banked {s t : State} (h : OnlyWin s t) (b : Nat) :
    ∃ w, { t with drf := { t.drf with bank := b } } = { s with win := w, drf := { s.drf with bank := b } } := by
  obtain ⟨w, rfl⟩ := h
  exact ⟨w, rfl⟩

/-- The target bank's bytes. -/
theorem State.evalBank_eq (s : State) (t0 now count : Nat) (targets : List (Nat × Nat × Bool)) (envs : List (Walker × List (Nat × Nat) × Bool)) :
    ∃ w, s.evalBank t0 now count targets envs = { s with win := w, drf := { s.drf with bank := (s.drf.bank + 1) % 3 } } := by
  rw [State.evalBank]
  have header : OnlyWin s (((s.clearBytes 0x07 (0x400000 + 0x10000 * s.drf.bank) 0x10000).setN 0x07 (0x400000 + 0x10000 * s.drf.bank) 4 count).setBytes
      0x07 (0x400000 + 0x10000 * s.drf.bank + 4) ([1, 0, 0, 0] ++ toOctets 8 now)) :=
    (((OnlyWin.refl s).clearBytes _ _ _).setBytes _ _ _).setBytes _ _ _
  exact ((header.foldl (fun u x h => h.setBytes _ _ _) targets).foldl (fun u x h => h.setBytes _ _ _) envs).banked _

/-- What the counters and notices of an evaluation leave. -/
structure DrfTold (s t : State) : Prop where
  drf : t.drf = s.drf
  time : t.time = s.time
  only : OnlyFields tellFields s t
  notes : ∀ n : Notice, n.page = 0x07 → Noted n s → Noted n t

namespace DrfTold
variable {s t : State}

theorem refl (s : State) : DrfTold s s := ⟨rfl, rfl, .refl _ s, fun _ _ h => h⟩

theorem wr (h : DrfTold s t) {f : Field} (v : Nat) (mem : f ∈ tellFields) (plain : (NOTE_RAW 0x07).key ≠ f.key) : DrfTold s (t.wr f v) :=
  ⟨h.drf, h.time, h.only.wr v mem, fun n page noted => Noted.wr (h.notes n page noted) v (by rw [page]; exact plain)⟩

theorem notice (h : DrfTold s t) (n : Notice) (page : n.page = 0x07) (hn : n.bit < 32) : DrfTold s (t.notice n) :=
  ⟨by rw [State.notice_drf, h.drf], by rw [State.notice_time, h.time],
    h.only.notice n (by rw [page]; decide) (by decide), fun m page' noted => Noted.notice (h.notes m page' noted) n (page.trans page'.symm) hn⟩

theorem noticeIf (h : DrfTold s t) (b : Bool) (n : Notice) (page : n.page = 0x07) (hn : n.bit < 32) : DrfTold s (t.noticeIf b n) := by
  cases b
  · exact h
  · exact h.notice n page hn

theorem silt (h : DrfTold s t) (c p0 p1 p2 p3 : Nat) : DrfTold s (t.silt c p0 p1 p2 p3) := by
  have only := h.only.silt c p0 p1 p2 p3 (by decide) (by decide) (by decide)
  have raw : (t.silt c p0 p1 p2 p3).rd (NOTE_RAW 0x07) = t.rd (NOTE_RAW 0x07) := State.rd_silt_ne _ _ _ _ _ _ (by decide) (by decide) (by decide)
  obtain ⟨r, e, i, is⟩ := t.silt_eq c p0 p1 p2 p3
  exact ⟨by rw [is]; exact h.drf, by rw [is]; exact h.time, only, fun n page noted => Noted.congr (h.notes n page noted) (by rw [page]; exact raw)⟩

end DrfTold

theorem State.evalTell_told (s : State) (truncs above late mem count : Nat) (degraded : Bool) : DrfTold s (s.evalTell truncs above late mem count degraded) := by
  have counted : DrfTold s ((((s.count DRF_TRUNC truncs).noticeIf (truncs != 0) DRF_NOTE_TRUNC).count DRF_FLOOR_OVER_CAP above).noticeIf
      (above != 0) DRF_NOTE_FLOOR_OVER_CAP) :=
    ((((DrfTold.refl s).wr (f := DRF_TRUNC) _ (by decide) (by decide)).noticeIf _ _ rfl (by decide)).wr (f := DRF_FLOOR_OVER_CAP) _ (by decide)
      (by decide)).noticeIf _ _ rfl (by decide)
  rw [State.evalTell]
  generalize (((s.count DRF_TRUNC truncs).noticeIf (truncs != 0) DRF_NOTE_TRUNC).count DRF_FLOOR_OVER_CAP above).noticeIf
      (above != 0) DRF_NOTE_FLOOR_OVER_CAP = u at counted
  have overrun : DrfTold s (if late = 0 then u else (u.count DRF_OVERRUNS 1).notice DRF_NOTE_OVERRUN) := by
    split
    · exact counted
    · exact (counted.wr (f := DRF_OVERRUNS) _ (by decide) (by decide)).notice _ rfl (by decide)
  generalize (if late = 0 then u else (u.count DRF_OVERRUNS 1).notice DRF_NOTE_OVERRUN) = v at overrun
  have shown : DrfTold s (v.wrB DRF_STATUS_DEGRADED degraded) := overrun.wr _ (by decide) (by decide)
  split
  · exact (shown.notice _ rfl (by decide)).silt _ _ _ _ _
  · exact shown

/-- The snapshot block. -/
def snapBlock (now bank walkers truncs taken coal dur late above : Nat) (degraded swapped : Bool) : List (Field × Nat) :=
  [(DRF_SNAP_TIME_LO, now % 2 ^ 32), (DRF_SNAP_TIME_HI, now / 2 ^ 32), (DRF_SNAP_BANK_BANK, bank),
     (DRF_SNAP_WALKERS_IN_USE, walkers), (DRF_SNAP_WALKERS_TRUNC, truncs),
     (DRF_SNAP_EVENTS_TAKEN, if degraded then 0 else taken), (DRF_SNAP_EVENTS_COALESCED, min 65535 coal),
     (DRF_SNAP_DUR_DURATION, dur), (DRF_SNAP_DUR_STRETCH, min 65535 late),
     (DRF_SNAP_END_OVERRUN, if late = 0 then 0 else 1), (DRF_SNAP_END_DEGRADED, if degraded then 1 else 0),
     (DRF_SNAP_END_TRUNC, if truncs = 0 then 0 else 1), (DRF_SNAP_END_FLOOR_OVER_CAP, if above = 0 then 0 else 1),
     (DRF_SNAP_END_SWAPPED, if swapped then 1 else 0)]

/-- What the snapshot block shows. -/
theorem State.snapBlock_reads (s : State) (now bank walkers truncs taken coal dur late above : Nat) (degraded swapped : Bool) :
    let t := s.wrAll (snapBlock now bank walkers truncs taken coal dur late above degraded swapped)
    t.rd DRF_SNAP_TIME_LO = now % 2 ^ 32 ∧ t.rd DRF_SNAP_TIME_HI = now / 2 ^ 32 % 2 ^ 32 ∧ t.rd DRF_SNAP_BANK_BANK = bank % 4 ∧
      t.rd DRF_SNAP_DUR_DURATION = dur % 65536 ∧ t.rd DRF_SNAP_DUR_STRETCH = min 65535 late ∧
      t.rd DRF_SNAP_END_OVERRUN = (if late = 0 then 0 else 1) ∧ t.rd DRF_SNAP_END_SWAPPED = if swapped then 1 else 0 := by
  simp only [snapBlock, State.wrAll_cons, State.wrAll_nil]
  refine ⟨?_, ?_, ?_, ?_, ?_, ?_, ?_⟩
  · simp (disch := decide) only [State.rd_wr_ne, State.rd_wr_self, Nat.mod_mod]
  · simp (disch := decide) only [State.rd_wr_ne, State.rd_wr_self]
  · simp (disch := decide) only [State.rd_wr_ne, State.rd_wr_self]
    rfl
  · simp (disch := decide) only [State.rd_wr_ne, State.rd_wr_self]
    rfl
  · simp (disch := decide) only [State.rd_wr_ne, State.rd_wr_self]
    exact Nat.mod_eq_of_lt (Nat.lt_succ_of_le (Nat.min_le_left _ _))
  · simp (disch := decide) only [State.rd_wr_ne, State.rd_wr_self]
    split <;> rfl
  · rw [State.rd_wr_self]
    split <;> rfl

theorem State.snapBlock_only (s : State) (now bank walkers truncs taken coal dur late above : Nat) (degraded swapped : Bool) :
    OnlyFields snapFields s (s.wrAll (snapBlock now bank walkers truncs taken coal dur late above degraded swapped)) := by
  refine (OnlyFields.refl _ s).wrAll fun x mem => ?_
  simp only [snapBlock, List.mem_cons, List.not_mem_nil, or_false] at mem
  rcases mem with rfl | rfl | rfl | rfl | rfl | rfl | rfl | rfl | rfl | rfl | rfl | rfl | rfl | rfl <;> dsimp only <;> decide

/-- What the publication of an evaluation leaves. -/
theorem State.evalPublish_spec (s : State) (taken coal late dur mem : Nat) (degraded swapped : Bool) :
    let t := s.evalPublish taken coal late dur mem degraded swapped
    t.drf = { s.drf with bank := (s.drf.bank + 1) % 3 } ∧ t.time = s.time ∧ OnlyFields drfPublishFields s t ∧
      (∀ n : Notice, n.page = 0x07 → Noted n s → Noted n t) ∧ Publishes 0x07 s t ∧
      t.rd DRF_SNAP_TIME_LO = s.moduleTime % 2 ^ 32 ∧ t.rd DRF_SNAP_TIME_HI = s.moduleTime / 2 ^ 32 % 2 ^ 32 ∧
      t.rd DRF_SNAP_BANK_BANK = s.drf.bank % 4 ∧ t.rd DRF_SNAP_DUR_DURATION = dur % 65536 ∧ t.rd DRF_SNAP_DUR_STRETCH = min 65535 late ∧
      t.rd DRF_SNAP_END_OVERRUN = (if late = 0 then 0 else 1) ∧ t.rd DRF_SNAP_END_SWAPPED = if swapped then 1 else 0 := by
  obtain ⟨now, count, targets, envs, truncs, above, is⟩ : ∃ (t0 count : Nat) (targets : List (Nat × Nat × Bool)) (envs : List (Walker × List (Nat × Nat) × Bool))
      (truncs above : Nat), s.evalPublish taken coal late dur mem degraded swapped =
        ((((s.endOverrides s.moduleTime).evalBank t0 s.moduleTime count targets envs).evalTell truncs above late mem count degraded).wrAll
          (snapBlock s.moduleTime s.drf.bank envs.length truncs taken coal dur late above degraded swapped)).publish 0x07 0 (SEQ_COUNT 0x07) :=
    ⟨_, _, _, _, _, _, rfl⟩
  dsimp only
  rw [is]
  obtain ⟨w, ended⟩ := s.endOverrides_only s.moduleTime
  obtain ⟨w', banked⟩ := (s.endOverrides s.moduleTime).evalBank_eq now s.moduleTime count targets envs
  rw [ended] at banked
  have told := State.evalTell_told { s with win := w', drf := { s.drf with bank := (s.drf.bank + 1) % 3 } } truncs above late mem count degraded
  rw [ended, banked]
  generalize State.evalTell { s with win := w', drf := { s.drf with bank := (s.drf.bank + 1) % 3 } } truncs above late mem count degraded = u at told
  have only : OnlyFields tellFields s u := told.only
  have notes : ∀ n : Notice, n.page = 0x07 → Noted n s → Noted n u := told.notes
  obtain ⟨m, same⟩ := u.wrAll_parts (snapBlock s.moduleTime s.drf.bank envs.length truncs taken coal dur late above degraded swapped)
  have block := u.snapBlock_only s.moduleTime s.drf.bank envs.length truncs taken coal dur late above degraded swapped
  obtain ⟨lo, hi, bank, took, stretch, over_, swaps⟩ := u.snapBlock_reads s.moduleTime s.drf.bank envs.length truncs taken coal dur late above degraded swapped
  have parts : ((u.wrAll (snapBlock s.moduleTime s.drf.bank envs.length truncs taken coal dur late above degraded swapped)).publish 0x07 0
      (SEQ_COUNT 0x07)).drf = u.drf ∧ ((u.wrAll (snapBlock s.moduleTime s.drf.bank envs.length truncs taken coal dur late above degraded swapped)).publish
        0x07 0 (SEQ_COUNT 0x07)).time = u.time := by
    rw [same]
    exact ⟨rfl, rfl⟩
  generalize u.wrAll (snapBlock s.moduleTime s.drf.bank envs.length truncs taken coal dur late above degraded swapped) = v at *
  have shown : ∀ f : Field, f.key ≠ (FRESH 7).key → f.key ≠ (SEQ_COUNT 7).key → (v.publish 0x07 0 (SEQ_COUNT 0x07)).rd f = v.rd f :=
    fun f h₁ h₂ => State.rd_publish_ne _ _ _ _ h₁ h₂
  refine ⟨parts.1.trans told.drf, parts.2.trans told.time, ?_, fun n page noted => ?_, ⟨?_, State.fresh_publish _ _ _ _ (by decide)⟩,
    (shown _ (by decide) (by decide)).trans lo, (shown _ (by decide) (by decide)).trans hi, (shown _ (by decide) (by decide)).trans bank,
    (shown _ (by decide) (by decide)).trans took, (shown _ (by decide) (by decide)).trans stretch, (shown _ (by decide) (by decide)).trans over_,
    (shown _ (by decide) (by decide)).trans swaps⟩
  · exact (((only.mono (by decide)).trans (block.mono (by decide))).publish _ _ _ (by decide) (by decide))
  · refine Noted.congr (notes n page noted) ((shown _ (by rw [page]; decide) (by rw [page]; decide)).trans (block _ ?_))
    rw [page]
    decide
  · rw [State.rd_publish_seq _ _ _ _ (by decide), block _ (by decide), only _ (by decide)]

/-! ### The walkers take the entries (R247, R260, R264) -/

/-- The fields of Drift that an evaluation may change before its publication. -/
def walkFields : List Field := [DRF_GRAPH_ACTIVE, DRF_GRAPH_PENDING, DRF_RETIRED, DRF_CREATED, DRF_EVICT, NOTE_RAW 0x07, MSIX_PBA]

/-- What the parts of an evaluation before its publication leave of the intake, of module time and of Drift's fields. -/
structure EvalKeeps (s t : State) : Prop where
  queue : t.drf.queue = s.drf.queue
  overflow : t.drf.overflow = s.drf.overflow
  coalesced : t.drf.coalesced = s.drf.coalesced
  lastDur : t.drf.lastDur = s.drf.lastDur
  lastPeriod : t.drf.lastPeriod = s.drf.lastPeriod
  bank : t.drf.bank = s.drf.bank
  time : t.time = s.time
  rate : t.rd TIM_RATE = s.rd TIM_RATE
  fields : ∀ f : Field, f.page = 0x07 → (∀ g ∈ walkFields, f.key ≠ g.key) → t.rd f = s.rd f
  notes : ∀ n : Notice, n.page = 0x07 → Noted n s → Noted n t

namespace EvalKeeps
variable {s t u : State}

theorem refl (s : State) : EvalKeeps s s := ⟨rfl, rfl, rfl, rfl, rfl, rfl, rfl, rfl, fun _ _ _ => rfl, fun _ _ h => h⟩

theorem trans (h : EvalKeeps s t) (k : EvalKeeps t u) : EvalKeeps s u :=
  ⟨k.queue.trans h.queue, k.overflow.trans h.overflow, k.coalesced.trans h.coalesced, k.lastDur.trans h.lastDur, k.lastPeriod.trans h.lastPeriod,
    k.bank.trans h.bank, k.time.trans h.time, k.rate.trans h.rate, fun f page out => (k.fields f page out).trans (h.fields f page out),
    fun n page noted => k.notes n page (h.notes n page noted)⟩

/-- The walkers, the trail and what else is no intake may change. -/
theorem withDrf (h : EvalKeeps s t) {d : DrfUnit} (queue : d.queue = t.drf.queue) (overflow : d.overflow = t.drf.overflow)
    (coalesced : d.coalesced = t.drf.coalesced) (lastDur : d.lastDur = t.drf.lastDur) (lastPeriod : d.lastPeriod = t.drf.lastPeriod)
    (bank : d.bank = t.drf.bank) : EvalKeeps s { t with drf := d } :=
  h.trans ⟨queue, overflow, coalesced, lastDur, lastPeriod, bank, rfl, rfl, fun _ _ _ => rfl, fun _ _ noted => noted⟩

theorem wr (h : EvalKeeps s t) {f : Field} (v : Nat) (mem : f ∈ walkFields) (plain : (NOTE_RAW 0x07).key ≠ f.key) (clock : TIM_RATE.key ≠ f.key) :
    EvalKeeps s (t.wr f v) :=
  h.trans ⟨rfl, rfl, rfl, rfl, rfl, rfl, rfl, State.rd_wr_ne _ _ clock, fun g _ out => State.rd_wr_ne _ _ (out f mem),
    fun n page noted => Noted.wr noted v (by rw [page]; exact plain)⟩

theorem notice (h : EvalKeeps s t) (n : Notice) (page : n.page = 0x07) (hn : n.bit < 32) : EvalKeeps s (t.notice n) := by
  have drf : (t.notice n).drf = t.drf := State.notice_drf _ _
  refine h.trans ⟨by rw [drf], by rw [drf], by rw [drf], by rw [drf], by rw [drf], by rw [drf], State.notice_time _ _,
    State.rd_notice_ne _ _ (by rw [page]; decide) (by decide), fun g _ out => State.rd_notice_ne _ _ ?_ (out _ (by decide)),
    fun m page' noted => Noted.notice noted n (page.trans page'.symm) hn⟩
  rw [page]
  exact out _ (by decide)

end EvalKeeps

theorem State.placeWalker_keeps (s : State) (w : Walker) : EvalKeeps s (s.placeWalker w) :=
  ((EvalKeeps.refl s).withDrf (d := { s.drf with walkers := putWalker s.drf.walkers w, nextId := (s.drf.nextId + 1) % 2 ^ 32 }) rfl rfl rfl rfl rfl
    rfl).wr _ (by decide) (by decide) (by decide)

theorem State.createWalker_cases (s : State) (e : DrfEvent) (cls : Nat) : s.createWalker e cls = s ∨ (∃ w, s.createWalker e cls = s.placeWalker w) ∨
    ∃ w, s.createWalker e cls = ((s.count DRF_EVICT 1).notice DRF_NOTE_WALKER_FULL).placeWalker w := by
  unfold State.createWalker
  generalize freeWalker s.drf.walkers = free
  generalize oldestWalker s.drf.walkers = oldest
  cases free with
  | some n => exact .inr (.inl ⟨_, rfl⟩)
  | none =>
    cases oldest with
    | some n => exact .inr (.inr ⟨_, rfl⟩)
    | none => exact .inl rfl

theorem State.createWalker_keeps (s : State) (e : DrfEvent) (cls : Nat) : EvalKeeps s (s.createWalker e cls) := by
  rcases s.createWalker_cases e cls with is | ⟨w, is⟩ | ⟨w, is⟩ <;> rw [is]
  · exact .refl s
  · exact s.placeWalker_keeps w
  · exact (((EvalKeeps.refl s).wr (f := DRF_EVICT) _ (by decide) (by decide) (by decide)).notice _ rfl (by decide)).trans (State.placeWalker_keeps _ w)

theorem State.handleEntry_keeps (es : List Edge) (s : State) (e : DrfEvent) : EvalKeeps s (s.handleEntry es e) := by
  have trail : ∀ l, EvalKeeps s { s with drf := { s.drf with trail := l } } := fun l => (EvalKeeps.refl s).withDrf rfl rfl rfl rfl rfl rfl
  rw [State.handleEntry]
  dsimp only
  split
  · exact trail _
  · split
    · exact (trail _).withDrf rfl rfl rfl rfl rfl rfl
    · split
      · exact (trail _).withDrf rfl rfl rfl rfl rfl rfl
      · split
        · exact trail _
        · exact (trail _).trans (State.createWalker_keeps _ _ _)

theorem State.handleEntries_keeps (es : List Edge) (s : State) (l : List DrfEvent) : EvalKeeps s (l.foldl (State.handleEntry es) s) := by
  induction l generalizing s with
  | nil => exact .refl s
  | cons e l ih => exact (s.handleEntry_keeps es e).trans (ih _)

theorem State.retireWalkers_keeps (s : State) (es : List Edge) (t0 : Nat) : EvalKeeps s (s.retireWalkers es t0) :=
  ((EvalKeeps.refl s).withDrf (d := { s.drf with walkers := s.drf.walkers.filter fun w => t0 ≤ s.horizon es w }) rfl rfl rfl rfl rfl
    rfl).wr _ (by decide) (by decide) (by decide)

theorem State.evalWalk_keeps (s : State) (degraded : Bool) (taken : List DrfEvent) (t0 : Nat) : EvalKeeps s (s.evalWalk degraded taken t0) := by
  rw [State.evalWalk]
  split
  · exact (EvalKeeps.refl s).withDrf rfl rfl rfl rfl rfl rfl
  · exact (State.handleEntries_keeps _ _ _).trans (State.retireWalkers_keeps _ _ _)

theorem State.itgReadError_keeps (s : State) (m : Nat) : EvalKeeps s (s.itgReadError m 0x07) := by
  have kept := State.itgReadError_kept (T := Touches 0x4400000020100000006) (.refl s) m 0x07 fun _ h => h
  have drf : (s.itgReadError m 0x07).drf = s.drf := kept.frame .drf (by decide)
  have fields : ∀ f : Field, f.page = 0x07 → (s.itgReadError m 0x07).rd f = s.rd f := fun f page => kept.rd_eq f (by rw [Field.slot, page]; decide)
  exact ⟨by rw [drf], by rw [drf], by rw [drf], by rw [drf], by rw [drf], by rw [drf], kept.frame .time (by decide), kept.rd_eq TIM_RATE (by decide),
    fun f page _ => fields f page, fun n page noted => Noted.congr noted (fields _ (by rw [page]; rfl))⟩

theorem State.evalError_keeps (s : State) (mem : Nat) : EvalKeeps s (s.evalError mem) := by
  rw [State.evalError]
  split
  · exact .refl s
  · split
    · exact (s.itgReadError_keeps 0).withDrf rfl rfl rfl rfl rfl rfl
    · exact s.itgReadError_keeps 1

theorem State.evalErrors_keeps (s : State) (store graph : Bool) : EvalKeeps s (s.evalErrors store graph) := by
  have first : EvalKeeps s (if graph then s.evalError 2 else s) := by
    split
    · exact s.evalError_keeps 2
    · exact .refl s
  rw [State.evalErrors]
  generalize (if graph then s.evalError 2 else s) = u at first
  split
  · exact first.trans (u.evalError_keeps 1)
  · exact first

theorem State.applySwap_keeps (s : State) : EvalKeeps s s.applySwap.2 := by
  rw [State.applySwap]
  split
  · exact ((((EvalKeeps.refl s).withDrf (d := { s.drf with walkers := [], checked := false, graphBad := false }) rfl rfl rfl rfl rfl rfl).wr
      (f := DRF_GRAPH_ACTIVE) _ (by decide) (by decide) (by decide)).wr (f := DRF_GRAPH_PENDING) _ (by decide) (by decide) (by decide)).wr
      (f := DRF_RETIRED) _ (by decide) (by decide) (by decide) |>.notice _ rfl (by decide)
  · exact .refl s

/-- The state before the publication of an evaluation. -/
def State.evalWalked (s : State) (dur met : Nat) : State :=
  let store := s.drf.storeBad || met == 1
  let s' := (s.evalSwapSides dur).applySwap.2.evalErrors store (met == 2)
  s'.evalWalk (store || s'.drf.graphBad) (sortBy entryOrder (s.drf.queue ++ s.drf.overflow.map Prod.snd)) s.epoch

theorem State.evaluate_eq (s : State) (dur met : Nat) : ∃ taken mem degraded, s.evaluate dur met =
    (s.evalWalked dur met).evalPublish taken s.drf.coalesced (s.drf.lastDur - s.drf.lastPeriod) dur mem degraded (s.evalSwapSides dur).applySwap.1 :=
  ⟨_, _, _, rfl⟩

theorem State.evalWalked_keeps (s : State) (dur met : Nat) : EvalKeeps (s.evalSwapSides dur) (s.evalWalked dur met) :=
  (State.applySwap_keeps _).trans ((State.evalErrors_keeps _ _ _).trans (State.evalWalk_keeps _ _ _ _))


/-! ### The clauses -/

section Evaluate
variable {s : State} {c dur : Nat}

theorem State.drfRuns_reach (s : State) (c : Nat) : (s.reach c).drfRuns = s.drfRuns := by
  rw [s.reach_self c]
  rfl

/-- An evaluation takes place at the tick. -/
theorem State.drfTick_evaluates {P : State → Prop} {mem : Nat} (work : s.atWork 0x07 = true) (runs : s.drfRuns = true) (awake : s.modes.power ≠ .doze)
    (post : P ((s.reach c).evaluate dur mem)) : Completes (.drfEvaluation c dur mem) s P := by
  refine Completes.working (u := s) rfl work ?_
  have is : (s.reach c).drfTick dur mem = (s.reach c).evaluate dur mem := by
    have power : ((s.reach c).modes.power == .doze) = false := by
      rw [s.reach_self c]
      exact beq_eq_false_iff_ne.mpr awake
    rw [State.drfTick, State.drfRuns_reach, runs, power]
    rfl
  rw [is]
  exact post

/-- R260, R261, R263: what an evaluation publishes. -/
theorem State.evaluate_publishes (lt : dur < 65536) (bank : s.drf.bank < 3) (met : Nat) : let t := s.evaluate dur met
    t.drf.queue = [] ∧ t.drf.overflow = [] ∧ t.drf.coalesced = 0 ∧ t.drf.lastDur = dur ∧ t.drf.bank = (s.drf.bank + 1) % 3 ∧
      t.rd DRF_SNAP_BANK_BANK = s.drf.bank ∧ t.rd DRF_SNAP_TIME_LO = s.moduleTime % 2 ^ 32 ∧
      t.rd DRF_SNAP_TIME_HI = s.moduleTime / 2 ^ 32 ∧ t.rd DRF_SNAP_DUR_DURATION = dur ∧ Publishes 0x07 s t ∧
      t.drf.lastPeriod = s.drfPeriod ∧ t.rd DRF_SNAP_DUR_STRETCH = min 65535 (s.drf.lastDur - s.drf.lastPeriod) ∧
      t.rd DRF_SNAP_END_OVERRUN = (if s.drf.lastDur ≤ s.drf.lastPeriod then 0 else 1) ∧ t.time.raw = s.time.raw := by
  obtain ⟨taken, mem, degraded, is⟩ := s.evaluate_eq dur met
  have keeps := s.evalWalked_keeps dur met
  have clock : (s.evalWalked dur met).moduleTime = s.moduleTime := State.moduleTime_congr keeps.time keeps.rate
  have lt64 := s.moduleTime_lt
  dsimp only
  rw [is]
  generalize s.evalWalked dur met = u at keeps clock
  obtain ⟨drf, time, -, -, ⟨count, fresh⟩, lo, hi, shown, took, stretch, over_, -⟩ := u.evalPublish_spec taken s.drf.coalesced
    (s.drf.lastDur - s.drf.lastPeriod) dur mem degraded (s.evalSwapSides dur).applySwap.1
  refine ⟨by rw [drf]; exact keeps.queue, by rw [drf]; exact keeps.overflow, by rw [drf]; exact keeps.coalesced, by rw [drf]; exact keeps.lastDur,
    by rw [drf]; show (u.drf.bank + 1) % 3 = _; rw [keeps.bank]; rfl, ?_, by rw [lo, clock], ?_, by rw [took, Nat.mod_eq_of_lt lt], ⟨?_, fresh⟩,
    by rw [drf]; exact keeps.lastPeriod, stretch, ?_, by rw [time, keeps.time]; rfl⟩
  · rw [shown, keeps.bank]
    exact Nat.mod_eq_of_lt (Nat.lt_of_lt_of_le bank (by decide))
  · rw [hi, clock, Nat.mod_eq_of_lt (by omega)]
  · rw [count, keeps.fields _ rfl (by decide)]
    rfl
  · rw [over_]
    by_cases late : s.drf.lastDur ≤ s.drf.lastPeriod
    · rw [if_pos late, if_pos (Nat.sub_eq_zero_of_le late)]
    · rw [if_neg late, if_neg (by omega)]

/-- R265: a tick of DOZE at which nothing can change. -/
theorem State.drfTick_skips {mem : Nat} (work : s.atWork 0x07 = true) (runs : s.drfRuns = true) (doze : s.modes.power = .doze)
    (still : (s.reach c).drfCanChange = false) : Completes (.drfEvaluation c dur mem) s fun t =>
      t.drf = { s.drf with lastDur := 0 } ∧ t.rd DRF_SKIPPED = (s.rd DRF_SKIPPED + 1) % 2 ^ 32 ∧
      OnlyFields [DRF_SKIPPED] s t ∧ t.win = s.win := by
  refine Completes.working (u := s) rfl work ?_
  have is : (s.reach c).drfTick dur mem = (s.reach c).drfPass.count DRF_SKIPPED 1 := by
    have power : ((s.reach c).modes.power == .doze) = true := by
      rw [s.reach_self c]
      exact beq_iff_eq.mpr doze
    rw [State.drfTick, State.drfRuns_reach, runs, power, still]
    rfl
  rw [is, s.reach_self c]
  refine ⟨rfl, State.rd_wr_self _ _ _, ?_, rfl⟩
  exact (OnlyFields.of_regs (s := s) (t := State.drfPass { s with time := (s.reach c).time }) rfl).count 1 (by decide)

end Evaluate

/-- The first walker created is number 0 (R247). -/
theorem freeWalker_nil : freeWalker [] = some 0 := by
  rw [freeWalker, show List.range 1024 = 0 :: (List.range 1023).map Nat.succ from List.range_succ_eq_map]
  rfl

/-- The walker that a first detection creates (R247). -/
def State.firstWalker (s : State) (e : DrfEvent) : Walker :=
  ⟨0, false, e.vertex, none, e.tick, s.drfClampSpeed (s.rd (DRF_CLASS_SPD_SPEED_INIT (s.vertex (s.rd DRF_GRAPH_ACTIVE) e.vertex).cls)), 1,
    s.drf.nextId, none⟩

theorem State.createWalker_first {s : State} (none_ : s.drf.walkers = []) (e : DrfEvent) (cls : Nat) : s.createWalker e cls =
    s.placeWalker ⟨0, false, e.vertex, none, e.tick, s.drfClampSpeed (s.rd (DRF_CLASS_SPD_SPEED_INIT cls)), 1, s.drf.nextId, none⟩ := by
  unfold State.createWalker
  generalize found : freeWalker s.drf.walkers = free
  rw [none_, freeWalker_nil] at found
  subst found
  rfl

/-- The trail hold that an entry leaves (R254). -/
def State.trailHold (s : State) (e : DrfEvent) : List (Nat × Nat) :=
  Sparse.insert s.drf.trail e.vertex
    (max ((Sparse.get s.drf.trail e.vertex).getD 0) (e.tick + s.drfTrail (s.vertex (s.rd DRF_GRAPH_ACTIVE) e.vertex).cls))

/-- R247: the first entry at a vertex that may spawn, when there is no walker. -/
theorem State.handleEntry_first {s : State} {es : List Edge} {e : DrfEvent} (none_ : s.drf.walkers = [])
    (valid : (s.vertex (s.rd DRF_GRAPH_ACTIVE) e.vertex).valid = true) (spawns : (s.vertex (s.rd DRF_GRAPH_ACTIVE) e.vertex).noSpawn = false) :
    s.handleEntry es e = State.placeWalker { s with drf := { s.drf with trail := s.trailHold e } } (s.firstWalker e) := by
  rw [State.handleEntry]
  dsimp only
  have unmatched : ∀ u : State, u.bestCandidate es e s.drf.walkers = none := by
    rw [none_]
    exact fun _ => rfl
  have alone : ¬(s.drf.walkers.any fun w => w.vertex == e.vertex) = true := by
    rw [none_]
    exact Bool.false_ne_true
  rw [valid, spawns, if_neg (c := (!true) = true) (by decide), unmatched]
  dsimp only
  rw [if_neg alone, if_neg (c := false = true) (by decide)]
  exact State.createWalker_first (s := { s with drf := { s.drf with trail := s.trailHold e } }) none_ e _

theorem State.placeWalker_walkers {s : State} (none_ : s.drf.walkers = []) (w : Walker) : (s.placeWalker w).drf.walkers = [w] := by
  show putWalker s.drf.walkers w = [w]
  rw [none_]
  rfl

theorem State.applySwap_none {s : State} (h : s.rd DRF_GRAPH_PENDING = 0) : s.applySwap = (false, s) := by
  rw [State.applySwap, State.rdB_of_zero h]
  rfl

/-- A walker of which the last detection is at t0 stays (R251). -/
theorem State.retireWalkers_one {s : State} {es : List Edge} {t0 : Nat} {w : Walker} (one : s.drf.walkers = [w]) (last : w.last = t0) :
    (s.retireWalkers es t0).drf.walkers = [w] := by
  show (s.drf.walkers.filter fun w => t0 ≤ s.horizon es w) = [w]
  have stays : t0 ≤ s.horizon es w := by
    rw [State.horizon, last]
    exact Nat.le_add_right _ _
  rw [one, List.filter_cons_of_pos (by simpa using stays), List.filter_nil]

theorem State.retireWalkers_none {s : State} {es : List Edge} {t0 : Nat} (none_ : s.drf.walkers = []) : (s.retireWalkers es t0).drf.walkers = [] := by
  show (s.drf.walkers.filter fun w => t0 ≤ s.horizon es w) = []
  rw [none_]
  rfl

theorem State.retireWalkers_only (s : State) (es : List Edge) (t0 : Nat) : OnlyFields [DRF_RETIRED] s (s.retireWalkers es t0) :=
  (OnlyFields.of_regs (t := { s with drf := { s.drf with walkers := s.drf.walkers.filter fun w => t0 ≤ s.horizon es w } }) rfl).count _ (by decide)

/-- The walkers of a first entry at t0 (R247, R251). -/
theorem State.evalWalk_first {s : State} {e : DrfEvent} {t0 : Nat} (none_ : s.drf.walkers = [])
    (valid : (s.vertex (s.rd DRF_GRAPH_ACTIVE) e.vertex).valid = true) (spawns : (s.vertex (s.rd DRF_GRAPH_ACTIVE) e.vertex).noSpawn = false)
    (tick : t0 = e.tick) : let t := s.evalWalk false [e] t0
    t.drf.walkers = [s.firstWalker e] ∧ t.rd DRF_CREATED = (s.rd DRF_CREATED + 1) % 2 ^ 32 := by
  have is : s.evalWalk false [e] t0 =
      (s.handleEntry (s.edges (s.rd DRF_GRAPH_ACTIVE)) e).retireWalkers (s.edges (s.rd DRF_GRAPH_ACTIVE)) t0 := rfl
  have one : (State.placeWalker { s with drf := { s.drf with trail := s.trailHold e } } (s.firstWalker e)).drf.walkers = [s.firstWalker e] :=
    State.placeWalker_walkers (s := { s with drf := { s.drf with trail := s.trailHold e } }) none_ _
  dsimp only
  rw [is, State.handleEntry_first none_ valid spawns]
  refine ⟨State.retireWalkers_one one tick.symm, ?_⟩
  rw [State.retireWalkers_only _ _ _ _ (by decide)]
  exact State.rd_wr_self _ _ _

/-- R247: the first detection at a vertex that may spawn creates walker 0. -/
theorem State.evaluate_creates {s : State} {dur : Nat} {e : DrfEvent} (pending : s.rd DRF_GRAPH_PENDING = 0) (sound : s.drf.graphBad = false)
    (stored : s.drf.storeBad = false) (none_ : s.drf.walkers = []) (queue : s.drf.queue = [e]) (overflow : s.drf.overflow = [])
    (valid : (s.vertex (s.rd DRF_GRAPH_ACTIVE) e.vertex).valid = true) (spawns : (s.vertex (s.rd DRF_GRAPH_ACTIVE) e.vertex).noSpawn = false)
    (tick : s.epoch = e.tick) : let t := s.evaluate dur 0
    t.drf.walkers = [⟨0, false, e.vertex, none, e.tick,
        max s.drfSpeedMin (min s.drfSpeedMax (s.rd (DRF_CLASS_SPD_SPEED_INIT (s.vertex (s.rd DRF_GRAPH_ACTIVE) e.vertex).cls))), 1,
        s.drf.nextId, none⟩] ∧
      t.rd DRF_CREATED = (s.rd DRF_CREATED + 1) % 2 ^ 32 := by
  obtain ⟨taken, mem, degraded, is⟩ := s.evaluate_eq dur 0
  have swap : (s.evalSwapSides dur).applySwap = (false, s.evalSwapSides dur) := State.applySwap_none pending
  have walked : s.evalWalked dur 0 = (s.evalSwapSides dur).evalWalk false [e] s.epoch := by
    have plain : (s.evalSwapSides dur).evalErrors (false || false) false = s.evalSwapSides dur := rfl
    have clear : (s.evalSwapSides dur).drf.graphBad = false := sound
    rw [State.evalWalked, swap, stored]
    dsimp only
    rw [show ((0 : Nat) == 1) = false from rfl, show ((0 : Nat) == 2) = false from rfl, plain, clear, queue, overflow]
    rfl
  obtain ⟨one, count⟩ := State.evalWalk_first (s := s.evalSwapSides dur) none_ valid spawns tick
  dsimp only
  rw [is]
  rw [← walked] at one count
  generalize s.evalWalked dur 0 = u at *
  obtain ⟨drf, -, only, -⟩ := u.evalPublish_spec taken s.drf.coalesced (s.drf.lastDur - s.drf.lastPeriod) dur mem degraded (s.evalSwapSides dur).applySwap.1
  exact ⟨by rw [drf]; exact one, (only _ (by decide)).trans count⟩

theorem State.evalErrors_stands (s : State) (store graph : Bool) : let t := s.evalErrors store graph
    t.drf.walkers = s.drf.walkers ∧ ∀ f : Field, f.page = 0x07 → t.rd f = s.rd f := by
  have kept := State.evalErrors_kept (T := Touches 0x4400000020100020006) (.refl s) store graph fun _ h => h
  refine ⟨?_, fun f page => kept.rd_eq f (by rw [Field.slot, page]; decide)⟩
  have read : ∀ (u : State) (m : Nat), (u.itgReadError m 0x07).drf = u.drf := fun u m =>
    (State.itgReadError_kept (T := Touches 0x4400000020100000006) (.refl u) m 0x07 fun _ h => h).frame .drf (by decide)
  have first : (if graph then s.evalError 2 else s).drf.walkers = s.drf.walkers := by
    split
    · show (s.itgReadError 0 0x07).drf.walkers = _
      rw [read]
    · rfl
  rw [State.evalErrors]
  generalize (if graph then s.evalError 2 else s) = u at first
  split
  · show (u.itgReadError 1 0x07).drf.walkers = _
    rw [read, first]
  · exact first

/-- Without walkers and entries nothing walks. -/
theorem State.evalWalk_none {s : State} (none_ : s.drf.walkers = []) (degraded : Bool) (t0 : Nat) : let t := s.evalWalk degraded [] t0
    t.drf.walkers = [] ∧ OnlyFields [DRF_RETIRED] s t := by
  rw [State.evalWalk]
  dsimp only
  split
  · exact ⟨rfl, OnlyFields.of_regs rfl⟩
  · exact ⟨State.retireWalkers_none none_, s.retireWalkers_only _ _⟩

/-- R241: a swap that has passed its check takes effect. -/
theorem State.evaluate_swaps {s : State} {dur : Nat} (pending : s.rd DRF_GRAPH_PENDING = 1) (checked : s.drf.checked = true) (queue : s.drf.queue = [])
    (overflow : s.drf.overflow = []) : let t := s.evaluate dur 0
    t.rd DRF_GRAPH_ACTIVE = 1 - s.rd DRF_GRAPH_ACTIVE ∧ t.rd DRF_GRAPH_PENDING = 0 ∧ t.drf.walkers = [] ∧
      t.rd DRF_SNAP_END_SWAPPED = 1 ∧ Noted DRF_NOTE_SWAP_DONE t := by
  obtain ⟨taken, mem, degraded, is⟩ := s.evaluate_eq dur 0
  have swap : (s.evalSwapSides dur).applySwap = (true, ((({ s.evalSwapSides dur with
      drf := { (s.evalSwapSides dur).drf with walkers := [], checked := false, graphBad := false } }.wr DRF_GRAPH_ACTIVE
        (1 - s.rd DRF_GRAPH_ACTIVE)).wr DRF_GRAPH_PENDING 0).count DRF_RETIRED (s.evalSwapSides dur).drf.walkers.length).notice DRF_NOTE_SWAP_DONE) := by
    have goes : ((s.evalSwapSides dur).rdB DRF_GRAPH_PENDING && (s.evalSwapSides dur).drf.checked) = true := by
      rw [State.rdB_of (show (s.evalSwapSides dur).rd DRF_GRAPH_PENDING = 1 from pending), show (s.evalSwapSides dur).drf.checked = true from checked]
      rfl
    rw [State.applySwap, if_pos goes]
    rfl
  have errors := State.evalErrors_stands (s.evalSwapSides dur).applySwap.2 (s.drf.storeBad || (0 : Nat) == 1) ((0 : Nat) == 2)
  have walkers₁ : (s.evalSwapSides dur).applySwap.2.drf.walkers = [] := by
    rw [swap, State.notice_drf]
    rfl
  have active₁ : (s.evalSwapSides dur).applySwap.2.rd DRF_GRAPH_ACTIVE = 1 - s.rd DRF_GRAPH_ACTIVE := by
    rw [swap, State.rd_notice_ne _ _ (by decide) (by decide), State.rd_count_ne _ _ (by decide), State.rd_wr_ne _ _ (by decide),
      State.rd_wr_of_lt _ (Nat.lt_of_le_of_lt (Nat.sub_le _ _) (by decide))]
  have pending₁ : (s.evalSwapSides dur).applySwap.2.rd DRF_GRAPH_PENDING = 0 := by
    rw [swap, State.rd_notice_ne _ _ (by decide) (by decide), State.rd_count_ne _ _ (by decide), State.rd_wr_self]
    rfl
  have noted₁ : Noted DRF_NOTE_SWAP_DONE (s.evalSwapSides dur).applySwap.2 := by
    rw [swap]
    exact State.noted_notice _ _ (by decide)
  have did : (s.evalSwapSides dur).applySwap.1 = true := by rw [swap]
  have walked : s.evalWalked dur 0 = ((s.evalSwapSides dur).applySwap.2.evalErrors (s.drf.storeBad || (0 : Nat) == 1) ((0 : Nat) == 2)).evalWalk
      ((s.drf.storeBad || (0 : Nat) == 1) || ((s.evalSwapSides dur).applySwap.2.evalErrors (s.drf.storeBad || (0 : Nat) == 1) ((0 : Nat) == 2)).drf.graphBad) []
      s.epoch := by
    rw [State.evalWalked, queue, overflow]
    rfl
  obtain ⟨walkers₂, fields₂⟩ := errors
  generalize (s.evalSwapSides dur).applySwap.2 = u at *
  generalize u.evalErrors (s.drf.storeBad || (0 : Nat) == 1) ((0 : Nat) == 2) = v at *
  obtain ⟨walkers₃, only₃⟩ := State.evalWalk_none (walkers₂.trans walkers₁) ((s.drf.storeBad || (0 : Nat) == 1) || v.drf.graphBad) s.epoch
  rw [← walked] at walkers₃ only₃
  dsimp only
  rw [is, did]
  generalize s.evalWalked dur 0 = w at *
  obtain ⟨drf, -, only, notes, -, -, -, -, -, -, -, swapped⟩ := w.evalPublish_spec taken s.drf.coalesced (s.drf.lastDur - s.drf.lastPeriod) dur mem degraded true
  refine ⟨?_, ?_, by rw [drf]; exact walkers₃, swapped, notes _ rfl (Noted.congr noted₁ ?_)⟩
  · rw [only _ (by decide), only₃ _ (by decide), fields₂ _ rfl, active₁]
  · rw [only _ (by decide), only₃ _ (by decide), fields₂ _ rfl, pending₁]
  · exact (only₃ _ (by decide)).trans (fields₂ _ rfl)

/-- Why an edge is at fault (R240). -/
theorem State.edgeFault_le (s : State) (bank : Nat) (g : Edge) : s.edgeFault bank g ≤ 5 := by
  rw [State.edgeFault]
  repeat' split
  all_goals decide

theorem State.graphFault_le {s : State} {bank i k r : Nat} (h : s.graphFault bank = some (i, k, r)) : r ≤ 6 := by
  rw [State.graphFault] at h
  split at h
  · cases h
    exact (s.edgeFault_le _ _).trans (by decide)
  · obtain ⟨v, -, is⟩ := Option.map_eq_some_iff.mp h
    cases is
    exact Nat.le_refl 6

/-- R240: a write of SWAP. -/
theorem State.graphSwap_spec (s : State) (port : Port) (work : s.atWork 0x07 = true) : Completes (.drfGraphSwap port) s fun t =>
    t.rd DRF_GRAPH_PENDING = 1 ∧ t.drf = if s.rd DRF_GRAPH_PENDING = 0 then { s.drf with checked := false } else s.drf := by
  refine Completes.effect (u := s) rfl work ?_
  have pending : (s.hostWrote port false DRF_GRAPH_SWAP.addr).rd DRF_GRAPH_PENDING = s.rd DRF_GRAPH_PENDING :=
    State.rd_hostWrote_ne _ _ _ _ (by decide) (by decide)
  rw [State.graphSwap]
  cases on : (s.hostWrote port false DRF_GRAPH_SWAP.addr).rdB DRF_GRAPH_PENDING
  · rw [if_neg (c := false = true) (by decide), if_pos (pending.symm.trans (State.rdB_eq_false on rfl))]
    refine ⟨State.rd_wr_self _ _ _, ?_⟩
    rw [← State.hostWrote_drf s port false DRF_GRAPH_SWAP.addr]
    rfl
  · have one := State.rdB_eq_true on rfl
    rw [if_pos (c := true = true) rfl, if_neg (by rw [← pending, one]; decide)]
    exact ⟨one, State.hostWrote_drf s port false _⟩

/-- R240: the check of the inactive bank. -/
theorem State.graphChecked_spec {s : State} (pending : s.rd DRF_GRAPH_PENDING = 1) (open_ : s.drf.checked = false) : let t := s.graphChecked
    match s.graphFault (1 - s.rd DRF_GRAPH_ACTIVE) with
      | none => t = { s with drf := { s.drf with checked := true } }
      | some (i, _, r) => t.drf = s.drf ∧ t.rd DRF_GRAPH_PENDING = 0 ∧ t.rd DRF_GRAPH_ERR_INDEX = i % 2 ^ 16 ∧
          t.rd DRF_GRAPH_ERR_REASON = r ∧ Raises DRF_NOTE_GRAPH_ERR s t := by
  rw [State.graphChecked, if_neg (by rw [State.rdB_of pending, open_]; decide)]
  dsimp only
  cases found : s.graphFault (1 - s.rd DRF_GRAPH_ACTIVE) with
  | none => rfl
  | some x =>
    obtain ⟨i, k, r⟩ := x
    dsimp only
    rw [State.graphErr]
    simp only [State.wrAll_cons, State.wrAll_nil]
    have small : r < 2 ^ 3 := Nat.lt_of_le_of_lt (State.graphFault_le found) (by decide)
    refine ⟨by rw [State.notice_drf]; rfl, ?_, ?_, ?_, ?_⟩
    · rw [State.rd_notice_ne _ _ (by decide) (by decide)]
      simp (disch := decide) only [State.rd_wr_ne, State.rd_wr_self]
      rfl
    · rw [State.rd_notice_ne _ _ (by decide) (by decide)]
      simp (disch := decide) only [State.rd_wr_ne, State.rd_wr_self]
    · rw [State.rd_notice_ne _ _ (by decide) (by decide), State.rd_wr_of_lt _ small]
    · refine Raises.of_rd (State.raises_notice _ _ (by decide)) ?_
      simp (disch := decide) only [State.rd_wr_ne]

/-- Settles O28: the parts of an evaluation before its publication keep the intake (`EvalKeeps`); the publication has its own rule
(`evalPublish_spec`). -/
theorem driftEvaluations : Obligations.DriftEvaluations := by
  unfold Obligations.DriftEvaluations
  refine ⟨fun s c dur work lt runs awake bank => State.drfTick_evaluates work runs awake ?_,
    fun s c dur mem work _ runs doze still => State.drfTick_skips work runs doze still,
    fun s c dur e work _ runs awake pending sound stored none_ queue overflow valid spawns tick => State.drfTick_evaluates work runs awake ?_,
    fun s c dur work _ runs awake pending checked queue overflow => State.drfTick_evaluates work runs awake ?_,
    fun s port work => s.graphSwap_spec port work, fun s work pending open_ => Completes.working (u := s) rfl work (State.graphChecked_spec pending open_)⟩
  · have published := State.evaluate_publishes (s := s.reach c) lt (by rw [s.reach_self c]; exact bank) 0
    rw [s.reach_self c] at published ⊢
    exact published
  · have created := State.evaluate_creates (s := s.reach c) (dur := dur) (e := e)
    rw [s.reach_self c] at created tick ⊢
    exact created pending sound stored none_ queue overflow valid spawns tick
  · have swapped := State.evaluate_swaps (s := s.reach c) (dur := dur)
    rw [s.reach_self c] at swapped ⊢
    exact swapped pending checked queue overflow

end Sys2Proof.Machine
end

section
/-! SUPPORT. A pass of the Shaper (O31). -/

namespace Sys2Proof.Machine

/-! ### The parts of a pass -/

/-- The fields that the Shaper's part of a pass may change. -/
def shapeFields : List Field := [SHP_CFG_ERR_INDEX, SHP_CFG_ERR_REASON, SHP_STATUS_SHAPED, NOTE_RAW 0x0A, MSIX_PBA]

theorem State.shapeCheck_only (s : State) (i : Nat) : OnlyFields shapeFields s (s.shapeCheck i) := by
  rw [State.shapeCheck]
  split
  · split
    · refine .of_regs ?_
      show (s.setEnt i 0xBD 1 (clrBit (s.dstate i) 1)).regs = s.regs
      exact State.setBytes_regs _ _ _ _
    · exact .refl _ s
  · split
    · exact .refl _ s
    · refine ((OnlyFields.wr (OnlyFields.of_regs ?_) _ (by decide)).wr _ (by decide)).notice _ (by decide) (by decide)
      exact State.setBytes_regs _ _ _ _

theorem OnlyFields_foldl {α : Type} {l : List Field} {f : State → α → State} (step : ∀ u x, OnlyFields l u (f u x)) (s : State) (xs : List α) :
    OnlyFields l s (xs.foldl f s) := by
  induction xs generalizing s with
  | nil => exact .refl _ s
  | cons x xs ih => exact (step s x).trans (ih _)

theorem State.shapeAll_only (s : State) : OnlyFields shapeFields s s.shapeAll.2 := by
  have checked := OnlyFields_foldl (f := State.shapeCheck) State.shapeCheck_only s (s.usedEntries.filter s.shapeChecks)
  rw [State.shapeAll]
  dsimp only
  generalize (s.usedEntries.filter s.shapeChecks).foldl State.shapeCheck s = u at checked
  refine OnlyFields.wr (OnlyFields.noticeIf (checked.trans (OnlyFields.trans (t := u.clearBytes 0x0A 0x10000 0x20000) (.of_regs rfl) ?_)) _ _ (by decide) (by decide)) _ (by decide)
  exact OnlyFields_foldl (fun v n => .of_regs (State.setBytes_regs _ _ _ _)) _ _


/-! ### What the dispatcher leaves of the pass -/

/-- What the dispatcher leaves of a pass: the Shaper's fields and the instant of the pass. -/
structure PassKeeps (s t : State) : Prop where
  last : t.dpt.last = s.dpt.last
  fields : ∀ f : Field, f.page = 0x0A → t.rd f = s.rd f

namespace PassKeeps
variable {s t u : State}

theorem refl (s : State) : PassKeeps s s := ⟨rfl, fun _ _ => rfl⟩

theorem trans (h : PassKeeps s t) (k : PassKeeps t u) : PassKeeps s u :=
  ⟨k.last.trans h.last, fun f page => (k.fields f page).trans (h.fields f page)⟩

theorem foldl {α : Type} {f : State → α → State} (step : ∀ u x, PassKeeps u (f u x)) (s : State) (xs : List α) : PassKeeps s (xs.foldl f s) := by
  induction xs generalizing s with
  | nil => exact .refl s
  | cons x xs ih => exact (step s x).trans (ih _)

end PassKeeps

theorem State.sendLevel_passKeeps (s : State) (l : List Packable) : PassKeeps s (s.sendLevel l) := by
  have kept := State.sendLevel_kept (T := Touches 0x54c000856014400f003) (.refl s) l fun _ h => h
  exact ⟨by rw [kept.frame .dpt (by decide)], fun f page => kept.rd_eq f (by rw [Field.slot, page]; decide)⟩

theorem State.count_passKeeps (s : State) {f : Field} (d : Nat) (page : f.page ≠ 0x0A) : PassKeeps s (s.count f d) :=
  ⟨rfl, fun g is => State.rd_count_ne _ _ fun same => page (by rw [← is, Field.page, Field.page, same])⟩

theorem State.wr_passKeeps (s : State) {f : Field} (v : Nat) (page : f.page ≠ 0x0A) : PassKeeps s (s.wr f v) :=
  ⟨rfl, fun g is => State.rd_wr_ne _ _ fun same => page (by rw [← is, Field.page, Field.page, same])⟩

theorem State.noticeIf_passKeeps (s : State) (b : Bool) (n : Notice) (page : n.page = 0x0B) : PassKeeps s (s.noticeIf b n) := by
  cases b
  · exact .refl s
  · refine ⟨congrArg DptUnit.last (State.notice_dpt s n), fun f is => State.rd_notice_ne _ _ (fun same => ?_) (fun same => ?_)⟩
    · rw [Field.page, same, page] at is
      exact absurd is (by decide)
    · rw [Field.page, same] at is
      exact absurd is (by decide)

theorem State.refreshPass_passKeeps (s : State) (radio changes : List Shaped) (maxCount maxPsdu : Nat) :
    PassKeeps s (s.refreshPass radio changes maxCount maxPsdu) := by
  rw [State.refreshPass]
  split
  · exact .refl s
  · have started : ∀ num b, PassKeeps s (State.noticeIf { s with dpt := { s.dpt with num := num } } b DPT_NOTE_REFRESH_LAG) := fun num b =>
      PassKeeps.trans (t := { s with dpt := { s.dpt with num := num } }) ⟨rfl, fun _ _ => rfl⟩ (State.noticeIf_passKeeps _ _ _ rfl)
    refine PassKeeps.trans ?_ (PassKeeps.foldl (f := fun s l => (s.sendLevel l).count DPT_REFRESH_FRAMES 1)
      (fun u l => (u.sendLevel_passKeeps l).trans (State.count_passKeeps _ _ (by decide))) _ _)
    split
    · exact (started _ _).trans (State.wr_passKeeps (f := DPT_REFRESH_POS) _ _ (by decide))
    · exact started _ _

theorem State.dispatchRadio_passKeeps (s : State) (radio : List Shaped) : PassKeeps s (s.dispatchRadio radio) := by
  rw [State.dispatchRadio]
  dsimp only
  have suppressed := s.count_passKeeps (f := DPT_SUPPRESSED) (radio.filter fun n => s.differs n && !s.hasChange n).length (by decide)
  generalize s.count DPT_SUPPRESSED (radio.filter fun n => s.differs n && !s.hasChange n).length = u at suppressed
  split
  · exact suppressed.trans (u.noticeIf_passKeeps true _ rfl)
  · exact (suppressed.trans ((PassKeeps.foldl State.sendLevel_passKeeps u _).trans (State.count_passKeeps _ _ (by decide)))).trans
      (State.refreshPass_passKeeps _ _ _ _ _)

theorem State.dalPort_passKeeps (nodes : List Shaped) (s : State) (k : Nat) : PassKeeps s (s.dalPort nodes k) := by
  have kept := State.dalPort_kept (T := Touches 0x18020000200003) (.refl s) nodes k fun _ h => h
  exact ⟨by rw [kept.frame .dpt (by decide)], fun f page => kept.rd_eq f (by rw [Field.slot, page]; decide)⟩

/-! ### The clauses -/

/-- The dispatcher's part of a pass. -/
def State.dispatched (s : State) (nodes : List Shaped) : State :=
  if s.rdB DPT_CTRL_EN && s.meshTx then (List.range 8).foldl (State.dalPort nodes) (s.dispatchRadio (nodes.filter fun n => !n.wired)) else s

/-- The counters of a pass. -/
def State.passed (s : State) (dur : Nat) (late : Bool) : State :=
  if late then (((s.count SHP_PASSES 1).wr SHP_LAST_DURATION dur).count SHP_LATE 1).notice SHP_NOTE_LATE
  else (s.count SHP_PASSES 1).wr SHP_LAST_DURATION dur

theorem State.shapingPass_runs {s : State} (on : s.rd SHP_CTRL_EN = 1) (light : s.lightPath = true) (dur : Nat) (late : Bool) :
    s.shapingPass dur late =
      ((s.dptFollow.shapeAll.2.dptGrow (s.dptFollow.shapeAll.1.filter fun n => !n.wired).length).dispatched s.dptFollow.shapeAll.1).passed dur late := by
  rw [State.shapingPass, if_neg (by rw [State.rdB_of on, light]; decide)]
  rfl

theorem State.dispatched_passKeeps (s : State) (nodes : List Shaped) : PassKeeps s (s.dispatched nodes) := by
  rw [State.dispatched]
  split
  · exact (s.dispatchRadio_passKeeps _).trans (PassKeeps.foldl (State.dalPort_passKeeps nodes) _ _)
  · exact .refl s

theorem State.dptGrow_eq (s : State) (n : Nat) : ∃ d : DptUnit, d.last = some s.moduleTime ∧ s.dptGrow n = { s with dpt := d } := ⟨_, rfl, rfl⟩

/-- R314: the counts of a pass. -/
theorem State.passed_counts {s : State} {dur : Nat} (lt : dur < 65536) (late : Bool) : let t := s.passed dur late
    t.dpt = s.dpt ∧ t.rd SHP_PASSES = (s.rd SHP_PASSES + 1) % 2 ^ SHP_PASSES.width ∧ t.rd SHP_LAST_DURATION = dur ∧
      t.rd SHP_LATE = (if late then (s.rd SHP_LATE + 1) % 2 ^ SHP_LATE.width else s.rd SHP_LATE) ∧ (late = true → Noted SHP_NOTE_LATE t) := by
  cases late with
  | false =>
    refine ⟨rfl, ?_, State.rd_wr_of_lt _ lt, ?_, fun h => (by cases h)⟩
    · exact (State.rd_wr_ne _ _ (by decide)).trans (State.rd_wr_self _ _ _)
    · exact (State.rd_wr_ne _ _ (by decide)).trans (State.rd_wr_ne _ _ (by decide))
  | true =>
    refine ⟨by rw [State.passed, if_pos rfl, State.notice_dpt]; rfl, ?_, ?_, ?_, fun _ => State.noted_notice _ _ (by decide)⟩
    · rw [State.passed, if_pos rfl, State.rd_notice_ne _ _ (by decide) (by decide), State.rd_count_ne _ _ (by decide), State.rd_wr_ne _ _ (by decide),
        State.rd_count_self]
    · rw [State.passed, if_pos rfl, State.rd_notice_ne _ _ (by decide) (by decide), State.rd_count_ne _ _ (by decide), State.rd_wr_of_lt _ lt]
    · rw [State.passed, if_pos rfl, State.rd_notice_ne _ _ (by decide) (by decide), State.rd_count_self, State.rd_wr_ne _ _ (by decide),
        State.rd_count_ne _ _ (by decide)]
      rfl

theorem State.shapingPass_counts {s : State} {dur : Nat} (lt : dur < 65536) (on : s.rd SHP_CTRL_EN = 1) (light : s.lightPath = true) (late : Bool) :
    let t := s.shapingPass dur late
    t.rd SHP_PASSES = (s.rd SHP_PASSES + 1) % 2 ^ SHP_PASSES.width ∧ t.rd SHP_LAST_DURATION = dur ∧ t.dpt.last = some s.moduleTime ∧
      t.rd SHP_LATE = (if late then (s.rd SHP_LATE + 1) % 2 ^ SHP_LATE.width else s.rd SHP_LATE) ∧ (late = true → Noted SHP_NOTE_LATE t) := by
  have followed := State.dptFollow_kept (T := Touches 0x8020000000003) (.refl s) fun _ h => h
  have shaped := State.shapeAll_kept (T := Touches 0x4020000100003) (.refl s.dptFollow) fun _ h => h
  have only := s.dptFollow.shapeAll_only
  have clock : s.dptFollow.shapeAll.2.moduleTime = s.moduleTime :=
    State.moduleTime_congr ((shaped.frame .time (by decide)).trans (followed.frame .time (by decide)))
      ((shaped.rd_eq TIM_RATE (by decide)).trans (followed.rd_eq TIM_RATE (by decide)))
  have before : ∀ f : Field, f.page = 0x0A → (∀ g ∈ shapeFields, f.key ≠ g.key) → s.dptFollow.shapeAll.2.rd f = s.rd f := fun f page out =>
    (only f out).trans (followed.rd_eq f (by rw [Field.slot, page]; decide))
  rw [State.shapingPass_runs on light]
  dsimp only
  generalize s.dptFollow.shapeAll.1 = nodes
  generalize s.dptFollow.shapeAll.2 = u at clock before
  obtain ⟨d, last, grown⟩ := u.dptGrow_eq (nodes.filter fun n => !n.wired).length
  rw [grown]
  have keeps := State.dispatched_passKeeps { u with dpt := d } nodes
  generalize State.dispatched { u with dpt := d } nodes = v at keeps
  obtain ⟨dpt, passes, took, lates, noted⟩ := State.passed_counts (s := v) lt late
  have shp : ∀ f : Field, f.page = 0x0A → (∀ g ∈ shapeFields, f.key ≠ g.key) → v.rd f = s.rd f := fun f page out =>
    (keeps.fields f page).trans (before f page out)
  refine ⟨by rw [passes, shp _ rfl (by decide)], took, ?_, by rw [lates, shp _ rfl (by decide)], noted⟩
  rw [dpt, keeps.last, ← clock]
  exact last

/-! ### A pass over one node, out of control -/

/-- What is asked of the one node of a table: it is JOINED, of one channel, with no colour mixing, no compensation and no SHP_ERR. -/
structure OneNode (s : State) (i : Nat) : Prop where
  used : s.usedEntries = [i]
  type : s.entType i = 1
  joined : s.entState i = 3
  channels : s.channels i = 1
  mix : s.mix i = 0
  plain : bitAt (s.ent i 0xA1 1) 0 = false
  sound : bitAt (s.dstate i) 1 = false

/-- The node as the pass computes it. -/
def State.oneShaped (s : State) (i : Nat) : Shaped := ⟨i, false, [s.curve (s.ent i 0xA0 1 / 16) (s.lambda i)], s.lambda i, 0⟩

section OneNode
variable {s : State} {i : Nat}

theorem OneNode.shapeable (h : OneNode s i) : s.shapeable i = true := by
  rw [State.shapeable, h.type, h.joined, h.channels]
  rfl

theorem OneNode.shapeFault (h : OneNode s i) : s.shapeFault i = 0 := by
  rw [State.shapeFault, h.mix, h.type]
  simp

theorem OneNode.shapeCheck (h : OneNode s i) : s.shapeCheck i = s := by
  rw [State.shapeCheck, h.shapeFault, h.sound]
  rfl

theorem OneNode.shapeNode (h : OneNode s i) : s.shapeNode i = (s.oneShaped i, false) := by
  have value : s.compensated i 0 (s.mixed i (s.lambda i) 0) = (s.lambda i, false) := by
    rw [State.compensated, State.mixed, h.plain, h.mix]
    simp
  have wireless : Decidable.decide (s.entType i = 2) = false := by
    rw [h.type]
    rfl
  rw [State.shapeNode, wireless, h.channels, show List.range 1 = [0] from rfl, List.map_cons, List.map_nil, value]
  rfl

/-- The state after the Shaper's part of a pass over the node. -/
def State.oneTable (s : State) (i : Nat) : State :=
  (s.clearBytes 0x0A 0x10000 0x20000).setBytes 0x0A (0x10000 + 16 * i) (s.oneShaped i).record

theorem OneNode.shapeAll (h : OneNode s i) : s.shapeAll = ([s.oneShaped i], (s.oneTable i).wr SHP_STATUS_SHAPED 1) := by
  have checks : s.shapeChecks i = true := by
    rw [State.shapeChecks, h.shapeable]
    rfl
  rw [State.shapeAll, h.used, List.filter_cons_of_pos checks, List.filter_nil, List.foldl_cons, List.foldl_nil, h.shapeCheck, h.used]
  rw [List.filter_cons_of_pos h.shapeable, List.filter_nil, List.filter_cons_of_pos (by rw [h.sound]; rfl), List.filter_nil, List.map_cons, List.map_nil,
    h.shapeNode]
  rfl

theorem w8_clearBytes_outside (s : State) {p a n q b : Nat} (ne : q ≠ p) (hb : b < 2 ^ 24) (ha : a + n ≤ 2 ^ 24) :
    (s.clearBytes p a n).w8 q b = s.w8 q b := by
  have kept : (Decidable.decide (winAddr q b < winAddr p a) || Decidable.decide (winAddr p a + n ≤ winAddr q b)) = true := by
    rcases Nat.lt_or_gt_of_ne ne with below | above
    · exact Bool.or_eq_true_iff.mpr (.inl (decide_eq_true (by simp only [winAddr]; omega)))
    · exact Bool.or_eq_true_iff.mpr (.inr (decide_eq_true (by simp only [winAddr]; omega)))
  have got := Sparse.get_filter s.win (fun k => Decidable.decide (k < winAddr p a) || Decidable.decide (winAddr p a + n ≤ k)) (winAddr q b)
  rw [if_pos kept] at got
  rw [State.w8, State.clearBytes, Memory.clear, Memory.read, got]
  rfl

theorem length_record (s : State) (i : Nat) : (s.oneShaped i).record.length = 12 := rfl

/-- The node's record in the output table (R342). -/
theorem State.oneTable_bytes (s : State) {i k : Nat} (hk : k < 12) :
    (s.oneTable i).w8 0x0A (0x10000 + 16 * i + k) = (s.oneShaped i).record.getD k 0 % 256 := by
  rw [State.oneTable, State.w8_setBytes_inside _ (Nat.le_add_right _ _) (by rw [length_record]; omega), Nat.add_sub_cancel_left]

theorem State.oneTable_outside (s : State) {i q a : Nat} (hi : i < 8192) (ne : q ≠ 0x0A) (ha : a < 2 ^ 24) : (s.oneTable i).w8 q a = s.w8 q a := by
  rw [State.oneTable, State.w8_setBytes_outside ha (by rw [length_record]; omega) (fun h => ne h.1), w8_clearBytes_outside s ne ha (by decide)]

end OneNode

/-- R328: out of control. -/
theorem State.dptFollow_out {s : State} (out : s.meshTx = false) : ∃ m, s.dptFollow = { s with regs := m } ∧
    OnlyFields [DPT_STATUS_IN_CONTROL] s s.dptFollow ∧ s.dptFollow.rd DPT_STATUS_IN_CONTROL = 0 := by
  rw [State.dptFollow, out]
  cases shown : s.rdB DPT_STATUS_IN_CONTROL
  · exact ⟨s.regs, rfl, .refl _ s, State.rdB_eq_false shown rfl⟩
  · exact ⟨_, rfl, (OnlyFields.refl _ s).wr _ (by decide), State.rd_wr_self _ _ _⟩

theorem State.lambda_congr {s t : State} (win : t.win = s.win) (tmp : t.tmp = s.tmp) (only : OnlyFields [DPT_STATUS_IN_CONTROL] s t) (i : Nat) :
    t.lambda i = s.lambda i := by
  have bytes : ∀ q a, t.w8 q a = s.w8 q a := State.w8_congr win
  have words : ∀ q a n, t.wN q a n = s.wN q a n := State.wN_congr win
  have out : ∀ k, t.tmpOut k = s.tmpOut k := fun k => by
    rw [State.tmpOut, State.rdB, only TMP_CTRL_EN (by decide), State.tmpSlot, tmp]
    rfl
  have target : ∀ v, t.driftTarget v = s.driftTarget v := fun v => by
    simp only [State.driftTarget, State.w32, State.w16, words, only DRF_SNAP_BANK_BANK (by decide), only DRF_GRAPH_ACTIVE (by decide),
      State.vertex_congr win]
    rfl
  simp only [State.lambda, State.sourceLevel, State.ent, words, out, target]
  rfl


theorem OneNode.congr {s t : State} {i : Nat} (h : OneNode s i) (win : t.win = s.win) (bad : t.ntbBad = s.ntbBad) : OneNode t i := by
  obtain ⟨used, type, joined, channels, mix, plain, sound⟩ := h
  have ent : ∀ j o n, t.ent j o n = s.ent j o n := State.ent_congr win
  exact ⟨by rw [State.usedEntries_congr win, used], by rw [State.entType, ent]; exact type,
    by rw [State.entState, State.entByte, ent, bad]; exact joined, by rw [State.channels, State.entType, ent, ent]; exact channels,
    by rw [State.mix, ent]; exact mix, by rw [ent, plain], by rw [State.dstate, ent]; exact sound⟩

/-- The node's record after a pass out of control (R328, R342). -/
theorem State.shapingPass_one {s : State} {i dur : Nat} (on : s.rd SHP_CTRL_EN = 1) (light : s.lightPath = true) (out : s.meshTx = false) (hi : i < 8192)
    (one : OneNode s i) : let t := s.shapingPass dur false
    t.w16 0x0A (0x10000 + 16 * i) = s.curve (s.ent i 0xA0 1 / 16) (s.lambda i) % 65536 ∧
      t.w16 0x0A (0x10000 + 16 * i + 8) = s.lambda i % 65536 ∧ t.w8 0x0A (0x10000 + 16 * i + 11) = 1 ∧
      t.rd SHP_STATUS_SHAPED = 1 ∧ t.rd DPT_STATUS_IN_CONTROL = 0 ∧ t.mac = s.mac ∧ t.spr = s.spr ∧ t.emitted = s.emitted ∧
      ∀ q a, q ≠ 0x0A → q < 64 → a < 2 ^ 24 → t.w8 q a = s.w8 q a := by
  obtain ⟨m, followed, only, control⟩ := State.dptFollow_out out
  have lam := State.lambda_congr (t := s.dptFollow) (by rw [followed]) (by rw [followed]) only i
  rw [followed] at control lam
  have one' : OneNode { s with regs := m } i := one.congr rfl rfl
  have node : State.oneShaped { s with regs := m } i = s.oneShaped i := by
    rw [State.oneShaped, lam]
    rfl
  obtain ⟨d, -, grown⟩ := (((State.oneTable { s with regs := m } i).wr SHP_STATUS_SHAPED 1)).dptGrow_eq
    (([State.oneShaped { s with regs := m } i].filter fun n => !n.wired).length)
  have idle : ∀ nodes, State.dispatched { ((State.oneTable { s with regs := m } i).wr SHP_STATUS_SHAPED 1) with dpt := d } nodes =
      { ((State.oneTable { s with regs := m } i).wr SHP_STATUS_SHAPED 1) with dpt := d } := fun nodes => by
    have mesh : State.meshTx { ((State.oneTable { s with regs := m } i).wr SHP_STATUS_SHAPED 1) with dpt := d } = false :=
      (State.meshTx_congr rfl rfl).trans out
    rw [State.dispatched, mesh, Bool.and_false]
    rfl
  have is : s.shapingPass dur false = State.passed { ((State.oneTable { s with regs := m } i).wr SHP_STATUS_SHAPED 1) with dpt := d } dur false := by
    rw [State.shapingPass_runs on light, followed, one'.shapeAll]
    dsimp only
    rw [grown, idle]
  have byte : ∀ k, k < 12 → (State.oneTable { s with regs := m } i).w8 0x0A (0x10000 + 16 * i + k) = (s.oneShaped i).record.getD k 0 % 256 := fun k hk => by
    rw [State.oneTable_bytes _ hk, node]
  have away : ∀ q a, q ≠ 0x0A → a < 2 ^ 24 → (State.oneTable { s with regs := m } i).w8 q a = s.w8 q a := fun q a ne ha =>
    State.oneTable_outside _ hi ne ha
  have same : (State.oneTable { s with regs := m } i).mac = s.mac ∧ (State.oneTable { s with regs := m } i).spr = s.spr ∧
      (State.oneTable { s with regs := m } i).emitted = s.emitted ∧ (State.oneTable { s with regs := m } i).regs = m := by
    rw [State.oneTable]
    exact ⟨rfl, rfl, rfl, rfl⟩
  have value : (s.oneShaped i).record = toOctets 2 (s.curve (s.ent i 0xA0 1 / 16) (s.lambda i)) ++ [0, 0, 0, 0, 0, 0] ++ toOctets 2 (s.lambda i) ++ [0, 1] := rfl
  dsimp only
  rw [is]
  generalize State.oneTable { s with regs := m } i = u at *
  obtain ⟨mac, spr, emitted, regs⟩ := same
  let v : State := { u.wr SHP_STATUS_SHAPED 1 with dpt := d }
  have parts : (v.passed dur false).win = u.win ∧ (v.passed dur false).mac = u.mac ∧ (v.passed dur false).spr = u.spr ∧
      (v.passed dur false).emitted = u.emitted := ⟨rfl, rfl, rfl, rfl⟩
  have rest : ∀ f : Field, f.key ≠ SHP_PASSES.key → f.key ≠ SHP_LAST_DURATION.key → (v.passed dur false).rd f = (u.wr SHP_STATUS_SHAPED 1).rd f :=
    fun f h₁ h₂ => (State.rd_wr_ne _ _ h₂).trans (State.rd_wr_ne _ _ h₁)
  have bytes : ∀ q a, (v.passed dur false).w8 q a = u.w8 q a := State.w8_congr parts.1
  refine ⟨?_, ?_, ?_, ?_, ?_, parts.2.1.trans mac, parts.2.2.1.trans spr, parts.2.2.2.trans emitted, fun q a ne _ ha => (bytes q a).trans (away q a ne ha)⟩
  · have low := byte 0 (by decide)
    rw [Nat.add_zero] at low
    rw [State.w16_eq, bytes, bytes, low, byte 1 (by decide), value]
    show octet (s.curve _ _) 0 % 256 % 256 + 256 * (octet (s.curve _ _) 1 % 256 % 256) = _
    simp only [octet]
    omega
  · rw [State.w16_eq, bytes, bytes, byte 8 (by decide), Nat.add_assoc _ 8 1, byte 9 (by decide), value]
    show octet (s.lambda i) 0 % 256 % 256 + 256 * (octet (s.lambda i) 1 % 256 % 256) = _
    simp only [octet]
    omega
  · rw [bytes, byte 11 (by decide), value]
    rfl
  · rw [rest _ (by decide) (by decide), State.rd_wr_self]
    rfl
  · rw [rest _ (by decide) (by decide), State.rd_wr_ne _ _ (by decide), ← control]
    exact State.rd_congr regs _

/-- Settles O31: the dispatcher leaves the Shaper's fields and the instant of the pass (`PassKeeps`); the pass over one node is computed
(`OneNode.shapeAll`). -/
theorem shapingPasses : Obligations.ShapingPasses := by
  unfold Obligations.ShapingPasses
  refine ⟨fun s c dur late work idle => ?_, fun s c dur late work lt on light => ?_,
    fun s c dur i work _ on light out hi used type joined channels mix plain sound => ?_⟩
  · refine Completes.working (u := s) rfl work ?_
    have stands : (!(s.reach c).rdB SHP_CTRL_EN || !(s.reach c).lightPath) = true := by
      rcases idle with off | dark
      · rw [State.rdB_of_zero ((s.rd_reach c _).trans off)]
        rfl
      · rw [s.lightPath_reach, dark]
        simp
    rw [State.shapingPass]
    exact if_pos stands
  · refine Completes.working (u := s) rfl work ?_
    have counts := State.shapingPass_counts (s := s.reach c) lt ((s.rd_reach c _).trans on) ((s.lightPath_reach c).trans light) late
    rw [s.rd_reach, s.rd_reach] at counts
    exact counts
  · refine Completes.working (u := s) rfl work ?_
    have done := State.shapingPass_one (s := s.reach c) (dur := dur) (i := i)
    rw [s.reach_self c] at done ⊢
    exact done on light out hi ⟨used, type, joined, channels, mix, plain, sound⟩

end Sys2Proof.Machine
end

section
/-! SUPPORT. Resets and what brings one (O9). -/

namespace Sys2Proof.Machine

/-! ### The survival of the fields of the map (R104) -/

/-- Whether a field survives a reset: at a cold one, or at a warm one. -/
def Field.survives (f : Field) (warm : Bool) : Bool :=
  f.survival == .alwaysOn || f.survival == .stored || (warm && (f.survival == .warm || f.access == .rws))

/-- Whether a field is cleared by every reset. -/
def Field.clears (f : Field) : Bool := f.survival == .cleared && f.access != .rws

theorem mem_keptKeys {warm : Bool} {k : Nat} : k ∈ keptKeys warm ↔ ∃ f ∈ allFields, f.survives warm = true ∧ f.key = k := by
  simp only [keptKeys, List.mem_map, List.mem_filter, and_assoc]
  rfl

/-- A field lies in the page that lists it. -/
theorem page_of_listed : (assignedPages.all fun p => (pageFields p).all fun f => f.page == p) = true := by decide +kernel

/-- In a page, no field that every reset clears has the place of one that survives. -/
theorem clears_apart_survives :
    (assignedPages.all fun p => ((pageFields p).filter fun g => g.survives true).all fun g =>
      (pageFields p).all fun f => !f.clears || f.key != g.key) = true := by decide +kernel

theorem survives_of_cold {f : Field} (warm : Bool) (h : f.survives warm = true) : f.survives true = true := by
  cases warm
  · rw [Field.survives, Bool.false_and, Bool.or_false] at h
    rw [Field.survives, h]
    rfl
  · exact h

/-- A field that every reset clears is none of the kept ones. -/
theorem not_mem_keptKeys_of_clears {f : Field} (mem : f ∈ allFields) (clears : f.clears = true) (warm : Bool) : f.key ∉ keptKeys warm := by
  intro kept
  obtain ⟨g, gmem, survives, same⟩ := mem_keptKeys.mp kept
  obtain ⟨p, page, inPage⟩ := List.mem_flatMap.mp mem
  obtain ⟨q, gpage, ginPage⟩ := List.mem_flatMap.mp gmem
  have fp : f.page = p := beq_iff_eq.mp (List.all_eq_true.mp (List.all_eq_true.mp page_of_listed p page) f inPage)
  have gq : g.page = q := beq_iff_eq.mp (List.all_eq_true.mp (List.all_eq_true.mp page_of_listed q gpage) g ginPage)
  have here : q = p := by
    rw [← fp, ← gq, Field.page, Field.page, same]
  rw [here] at ginPage
  have apart := List.all_eq_true.mp (List.all_eq_true.mp (List.all_eq_true.mp clears_apart_survives p page) g
    (List.mem_filter.mpr ⟨ginPage, survives_of_cold warm survives⟩)) f inPage
  rw [clears, same] at apart
  simp at apart

/-! ### What a reset leaves (R102 to R104) -/

/-- A reset before the counts resume. -/
def State.resetBase (s : State) (kind : StartKind) (cause : Nat) : State :=
  ((s.forgetRegs (keptKeys (kind == .warm) ++ carriedKeys).contains).restart kind (if cause = 5 then s.startup.watchdogRuns + 1 else 0)).resetUnits

/-- The count of warm resets after a reset. -/
def State.warmCount (s : State) (kind : StartKind) : Nat := if kind == .warm then min 65535 (s.rd SYS_RESET_CAUSE_WARM_COUNT + 1) else 0

/-- A reset before its record. -/
def State.resetCounted (s : State) (kind : StartKind) (cause : Nat) : State :=
  (s.resetBase kind cause).resumeCounts.wrAll [(SYS_RESET_CAUSE_CAUSE, cause), (SYS_RESET_CAUSE_WARM_COUNT, s.warmCount kind)]

/-- A reset before module time. -/
def State.resetTold (s : State) (kind : StartKind) (cause : Nat) : State :=
  if s.time.state = .free then s.resetCounted kind cause else (s.resetCounted kind cause).silt 0x1801 s.time.state.code TimeMode.free.code

theorem State.moduleReset_eq (s : State) (kind : StartKind) (cause : Nat) :
    s.moduleReset kind cause =
      if kind == .warm then (s.resetTold kind cause).timeStart else { s.resetTold kind cause with time := .from 0 } := rfl

theorem State.resetCounted_parts (s : State) (kind : StartKind) (cause : Nat) :
    ∃ m u, s.resetCounted kind cause = { s.resetBase kind cause with regs := m, spr := u } := ⟨_, _, rfl⟩

/-- The codes of the records that a reset leaves in the intake (R513). -/
def State.resetCodes (s : State) : List Nat := if s.time.state = .free then [] else [0x1801]

/-- A record that finds room in the intake. -/
theorem State.silt_of_room {s : State} (room : s.siltIntake.length < 64) (c p0 p1 p2 p3 : Nat) :
    s.silt c p0 p1 p2 p3 = { s with siltIntake := s.siltIntake ++ [siltEvent s c p0 p1 p2 p3] } := if_pos room

theorem State.resetTold_parts (s : State) (kind : StartKind) (cause : Nat) :
    ∃ u i, s.resetTold kind cause = { s.resetBase kind cause with regs := (s.resetCounted kind cause).regs, spr := u, siltIntake := i } ∧
      i.map SiltEvent.code = s.resetCodes ∧ ∀ e ∈ i, e.deferred = true := by
  obtain ⟨m, u, is⟩ := s.resetCounted_parts kind cause
  have empty : (s.resetCounted kind cause).siltIntake = [] := by rw [is]; rfl
  have phase : (s.resetCounted kind cause).startup.phase = .inReset := by rw [is]; rfl
  rw [State.resetTold, State.resetCodes]
  split
  · refine ⟨u, [], ?_, rfl, fun e mem => absurd mem List.not_mem_nil⟩
    rw [is]
    rfl
  · have told := State.silt_of_room (s := s.resetCounted kind cause) (by rw [empty]; decide) 0x1801 s.time.state.code TimeMode.free.code 0 0
    rw [empty] at told
    refine ⟨u, [siltEvent (s.resetCounted kind cause) 0x1801 s.time.state.code TimeMode.free.code 0 0], ?_, rfl, fun e mem => ?_⟩
    · rw [told, is]
      rfl
    · rw [List.mem_singleton.mp mem, siltEvent, phase]
      rfl

/-- The fields that the counts which resume change (R104). -/
theorem State.resumeCounts_only (u : State) : OnlyFields resetOwn u u.resumeCounts := by
  have high : ∀ v : State, OnlyFields resetOwn u v → OnlyFields resetOwn u v.resumeHigh := fun v h =>
    (h.wr (f := SCH_HIGH_LO) (v.sch.highStored / 8) (by decide)).wr (f := SCH_HIGH_HI) (v.sch.highStored / 8 / 2 ^ 32) (by decide)
  have high := high u.siltChanged ((OnlyFields.refl _ u).wr (f := SLT_CHANGE) (u.rd SLT_CHANGE / 2 * 2 + 2) (by decide))
  rw [State.resumeCounts]
  generalize u.siltChanged.resumeHigh = v at high
  have tx := high.wr (f := MAC_TX_FC) (min 0xFFFFFFFF (resumeAt (v.rd MAC_TX_FC) 65536)) (by decide)
  generalize v.wr MAC_TX_FC (min 0xFFFFFFFF (resumeAt (v.rd MAC_TX_FC) 65536)) = w at tx
  have tx4 := tx.wr (f := MAC_TX_FC4) (min 0xFFFFFFFF (resumeAt (w.rd MAC_TX_FC4) 65536)) (by decide)
  generalize w.wr MAC_TX_FC4 (min 0xFFFFFFFF (resumeAt (w.rd MAC_TX_FC4) 65536)) = x at tx4
  have drf := tx4.wr (f := SEQ_COUNT 0x07) (resumeAt (x.rd (SEQ_COUNT 0x07)) 4096) (by decide)
  generalize x.wr (SEQ_COUNT 0x07) (resumeAt (x.rd (SEQ_COUNT 0x07)) 4096) = y at drf
  exact (drf.wr (f := SEQ_COUNT 0x09) (resumeAt (y.rd (SEQ_COUNT 0x09)) 4096) (by decide)).congr rfl

/-- The fields that the counts which resume, and the cause, change. -/
theorem State.resetCounted_only (s : State) (kind : StartKind) (cause : Nat) : OnlyFields resetOwn (s.resetBase kind cause) (s.resetCounted kind cause) := by
  rw [State.resetCounted]
  generalize s.resetBase kind cause = u
  exact (u.resumeCounts_only.wr (f := SYS_RESET_CAUSE_CAUSE) _ (by decide)).wr (f := SYS_RESET_CAUSE_WARM_COUNT) _ (by decide)

theorem State.moduleReset_parts (s : State) (kind : StartKind) (cause : Nat) : ∃ m u i w, s.moduleReset kind cause =
      { s.resetBase kind cause with regs := m, spr := u, siltIntake := i, time := w } ∧
      i.map SiltEvent.code = s.resetCodes ∧ ∀ e ∈ i, e.deferred = true := by
  obtain ⟨u, i, is, codes, deferred⟩ := s.resetTold_parts kind cause
  rw [State.moduleReset_eq]
  split
  · exact ⟨_, u, i, _, by rw [is]; rfl, codes, deferred⟩
  · exact ⟨_, u, i, _, by rw [is], codes, deferred⟩

theorem State.moduleReset_regs (s : State) (kind : StartKind) (cause : Nat) : OnlyFields [TIM_UTC_OFFSET] (s.resetCounted kind cause) (s.moduleReset kind cause) := by
  obtain ⟨u, i, is, -, -⟩ := s.resetTold_parts kind cause
  have told : OnlyFields [TIM_UTC_OFFSET] (s.resetCounted kind cause) (s.resetTold kind cause) := .of_regs (by rw [is])
  rw [State.moduleReset_eq]
  split
  · exact (told.congr (u := { s.resetTold kind cause with time := _, modes := _ }) rfl).wr _ (by decide)
  · exact told.congr rfl

theorem State.rd_resetBase (s : State) (kind : StartKind) (cause : Nat) (f : Field) : (s.resetBase kind cause).rd f =
    if (keptKeys (kind == .warm) ++ carriedKeys).contains f.key then s.rd f else f.reset % 2 ^ f.width :=
  (State.rd_congr (s := s.forgetRegs (keptKeys (kind == .warm) ++ carriedKeys).contains) rfl f).trans (State.rd_forgetRegs _ _ _)

/-- A field that no count of the reset changes reads as after the forgetting. -/
theorem State.rd_moduleReset (s : State) (kind : StartKind) (cause : Nat) {f : Field} (own : ∀ g ∈ resetOwn, f.key ≠ g.key) :
    (s.moduleReset kind cause).rd f = (s.resetBase kind cause).rd f := by
  rw [s.moduleReset_regs kind cause f fun g mem => own g (by rw [List.mem_singleton.mp mem]; decide), s.resetCounted_only kind cause f own]

theorem carriedKeys_own {k : Nat} (own : ∀ g ∈ resetOwn, k ≠ g.key) : k ∉ carriedKeys := by
  intro mem
  simp only [carriedKeys, List.mem_cons, List.not_mem_nil, or_false] at mem
  rcases mem with is | is | is
  · exact own (SEQ_COUNT 0x07) (by decide) is
  · exact own (SEQ_COUNT 0x09) (by decide) is
  · exact own (SEQ_COUNT 0x0D) (by decide) is

/-- What a reset leaves (R102 to R104). -/
theorem State.moduleReset_resetOf (s : State) (kind : StartKind) {cause : Nat} (small : cause < 16) : ResetOf kind cause s (s.moduleReset kind cause) := by
  have shown : (s.moduleReset kind cause).rd SYS_RESET_CAUSE_CAUSE = cause := by
    rw [s.moduleReset_regs kind cause _ (by decide), State.resetCounted, State.wrAll_cons, State.wrAll_cons, State.wrAll_nil,
      State.rd_wr_ne _ _ (by decide), State.rd_wr_of_lt _ small]
  have bound : s.warmCount kind < 2 ^ 16 := by
    rw [State.warmCount]
    split
    · exact Nat.lt_succ_of_le (Nat.min_le_left _ _)
    · decide
  have count : (s.moduleReset kind cause).rd SYS_RESET_CAUSE_WARM_COUNT = s.warmCount kind := by
    rw [s.moduleReset_regs kind cause _ (by decide), State.resetCounted, State.wrAll_cons, State.wrAll_cons, State.wrAll_nil,
      State.rd_wr_of_lt _ bound]
  have counts : s.warmCount kind = if kind = .warm then min 65535 (s.rd SYS_RESET_CAUSE_WARM_COUNT + 1) else 0 := by
    cases kind <;> rfl
  have cleared : ∀ f ∈ allFields, f.survival = .cleared → f.access ≠ .rws → (∀ g ∈ resetOwn, f.key ≠ g.key) →
      (s.moduleReset kind cause).rd f = f.reset % 2 ^ f.width := fun f mem survival access own => by
    have clears : f.clears = true := by
      rw [Field.clears, survival, Bool.and_eq_true]
      exact ⟨rfl, bne_iff_ne.mpr access⟩
    rw [s.rd_moduleReset kind cause own, s.rd_resetBase, if_neg]
    rw [List.contains_iff_mem, List.mem_append]
    exact not_or.mpr ⟨not_mem_keptKeys_of_clears mem clears _, carriedKeys_own own⟩
  have kept : ∀ f ∈ allFields, (f.survival = .alwaysOn ∨ f.survival = .stored ∨ (kind = .warm ∧ (f.survival = .warm ∨ f.access = .rws))) →
      (∀ g ∈ resetOwn, f.key ≠ g.key) → (s.moduleReset kind cause).rd f = s.rd f := fun f mem survival own => by
    have survives : f.survives (kind == .warm) = true := by
      rw [Field.survives]
      rcases survival with on | stored | ⟨warm, marked | access⟩
      · rw [on]
        rfl
      · rw [stored]
        rfl
      · rw [warm, marked]
        rfl
      · rw [warm, access]
        simp
    rw [s.rd_moduleReset kind cause own, s.rd_resetBase, if_pos]
    rw [List.contains_iff_mem, List.mem_append]
    exact .inl (mem_keptKeys.mpr ⟨f, mem, survives, rfl⟩)
  rw [counts] at count
  obtain ⟨m, u, i, w, is, -, -⟩ := s.moduleReset_parts kind cause
  generalize s.moduleReset kind cause = t at *
  subst is
  exact ⟨shown, count, rfl, rfl, by cases kind <;> rfl, rfl, ⟨rfl, rfl, rfl⟩, ⟨rfl, rfl⟩, ⟨rfl, rfl, rfl⟩, ⟨rfl, rfl, rfl, rfl, rfl⟩, cleared, kept⟩

/-- The start-up's state after a reset. -/
theorem State.moduleReset_startup (s : State) (kind : StartKind) (cause : Nat) : (s.moduleReset kind cause).startup = (s.resetBase kind cause).startup := by
  obtain ⟨m, u, i, w, is, -, -⟩ := s.moduleReset_parts kind cause
  rw [is]

/-! ### The clauses -/

/-- A line of the carrier changes nothing of a reset. -/
theorem resetOf_carrier {kind : StartKind} {cause : Nat} {s t : State} (h : ResetOf kind cause s t) (b : Bool) :
    ResetOf kind cause s { t with startup := { t.startup with carrierRst := b } } :=
  ⟨h.of_cause, h.of_count, h.of_modes, h.of_phase, h.of_line, h.of_kind, h.of_ports, h.of_requests, h.of_memory, h.of_stands, h.of_cleared, h.of_kept⟩

/-- What the supply's pins say before a reset is nothing that the reset reads. -/
theorem resetOf_supply {kind : StartKind} {cause : Nat} {s t : State} {vin good : Bool}
    (h : ResetOf kind cause { s with startup := { s.startup with vin := vin, pwrGood := good } } t) : ResetOf kind cause s t :=
  ⟨h.of_cause, h.of_count, h.of_modes, h.of_phase, h.of_line, h.of_kind, h.of_ports, h.of_requests, h.of_memory, h.of_stands, h.of_cleared, h.of_kept⟩

/-- A record in the intake changes nothing of a reset. -/
theorem resetOf_intake {kind : StartKind} {cause : Nat} {s t : State} (h : ResetOf kind cause s t) (i : List SiltEvent) :
    ResetOf kind cause s { t with siltIntake := i } :=
  ⟨h.of_cause, h.of_count, h.of_modes, h.of_phase, h.of_line, h.of_kind, h.of_ports, h.of_requests, h.of_memory, h.of_stands, h.of_cleared, h.of_kept⟩

/-- R50: a pulse of RST_N on a running module. -/
theorem State.rstPulse_resets {s : State} (powered : s.startup.phase ≠ .unpowered) (awake : s.startup.phase ≠ .hold) (running : s.startup.phase ≠ .inReset) :
    ResetOf .warm 3 s s.rstPulse ∧ s.rstPulse.startup.carrierRst = true := by
  have is : s.rstPulse = { s.warmReset 3 with startup := { (s.warmReset 3).startup with carrierRst := true } } := by
    rw [State.rstPulse]
    split
    · next h => exact absurd h powered
    · next h => exact absurd h awake
    · next h => exact absurd h running
    · rfl
  rw [is]
  exact ⟨resetOf_carrier (s.moduleReset_resetOf .warm (by decide)) true, rfl⟩

/-- R53: a drive in HOLD, without VIN or in a reset lasts into the start. -/
theorem State.rstPulse_lasts {s : State} (h : s.startup.phase = .unpowered ∨ s.startup.phase = .hold ∨ s.startup.phase = .inReset) :
    s.rstPulse = { s with startup := { s.startup with carrierRst := true } } := by
  rw [State.rstPulse]
  rcases h with h | h | h <;> rw [h]

/-- R52, R53: the release where a start waits at t3. -/
theorem State.rstRelease_waits {s : State} (phase : s.startup.phase = .inReset) (line : s.startup.line = 2) :
    s.rstRelease =
      if s.startup.kind = .holdWake ∧ s.startup.holdByRequest then
        State.wr { s with startup := { s.startup with carrierRst := false, line := 3, phase := .phaseA } } SYS_SCRATCH s.startup.scratchCopy
      else { s with startup := { s.startup with carrierRst := false, line := 3, phase := .phaseA } } := by
  rw [State.rstRelease, if_pos ⟨phase, line⟩]
  rfl

theorem State.rstRelease_else {s : State} (h : s.startup.phase ≠ .inReset ∨ s.startup.line ≠ 2) :
    s.rstRelease = { s with startup := { s.startup with carrierRst := false } } := by
  rw [State.rstRelease]
  refine if_neg fun both => ?_
  rcases h with h | h
  · exact h both.1
  · exact h both.2

theorem State.starting_any {s : State} (h : s.starting s.startup.kind = true) : (s.starting .cold || s.starting .holdWake || s.starting .warm) = true := by
  cases kind : s.startup.kind <;> rw [kind] at h <;> simp [h]

/-- R121: the watchdog of a start. -/
theorem State.watchdog_resets {s : State} {line : Nat} (starting : s.starting s.startup.kind = true) (runs : s.startup.watchdogRuns < 3) :
    let t := s.watchdog line
    ResetOf .warm 5 s t ∧ t.startup.watchdogRuns = s.startup.watchdogRuns + 1 ∧
      t.siltIntake.map SiltEvent.code = (if s.time.state = .free then [0x0008] else [0x1801, 0x0008]) ∧ ∀ e ∈ t.siltIntake, e.deferred = true := by
  have is : s.watchdog line = (s.warmReset 5).silt 0x0008 line (s.startup.watchdogRuns + 1) := by
    rw [State.watchdog, State.starting_any starting]
    exact if_neg (Nat.not_le_of_lt runs)
  have reset := s.moduleReset_resetOf .warm (cause := 5) (by decide)
  have startup : (s.warmReset 5).startup.watchdogRuns = s.startup.watchdogRuns + 1 := by
    rw [State.warmReset, State.moduleReset_startup]
    rfl
  have codes : (s.warmReset 5).siltIntake.map SiltEvent.code = s.resetCodes ∧ ∀ e ∈ (s.warmReset 5).siltIntake, e.deferred = true := by
    obtain ⟨m, u, i, w, same, codes, deferred⟩ := s.moduleReset_parts .warm 5
    rw [State.warmReset, same]
    exact ⟨codes, deferred⟩
  have phase := reset.of_phase
  obtain ⟨codes, deferred⟩ := codes
  dsimp only
  rw [is]
  rw [show s.moduleReset .warm 5 = s.warmReset 5 from rfl] at reset phase
  generalize s.warmReset 5 = u at *
  have few : u.siltIntake.length < 64 := by
    have length := congrArg List.length codes
    rw [List.length_map, State.resetCodes] at length
    rw [length]
    split <;> decide
  rw [State.silt_of_room few]
  refine ⟨resetOf_intake reset _, startup, ?_, fun e mem => ?_⟩
  · rw [List.map_append, codes, State.resetCodes]
    split <;> rfl
  · rcases List.mem_append.mp mem with mem | mem
    · exact deferred e mem
    · rw [List.mem_singleton.mp mem, siltEvent, phase]
      rfl

/-- R121: the third overrun in a row halts the start. -/
theorem State.watchdog_halts {s : State} {line : Nat} (starting : s.starting s.startup.kind = true) (runs : 3 ≤ s.startup.watchdogRuns) :
    let t := s.watchdog line
    t.startup.phase = .halted (Nat.ble 4 s.startup.line) ∧ t.rd SYS_STATUS_READY = 0 ∧ t.modes = s.modes ∧ t.win = s.win := by
  have is : s.watchdog line = (s.silt 0x0008 line (s.startup.watchdogRuns + 1)).haltStart 6 := by
    rw [State.watchdog, State.starting_any starting]
    exact if_pos runs
  obtain ⟨r, e, i, told⟩ := s.silt_eq 0x0008 line (s.startup.watchdogRuns + 1) 0 0
  dsimp only
  rw [is, told]
  have kept := State.haltStart_kept (T := Touches 0x400000030100000042) (.refl { s with regs := r, emitted := e, siltIntake := i }) 6 fun _ h => h
  refine ⟨?_, ?_, kept.frame .modes (by decide), kept.frame .windows (by decide)⟩
  · rw [State.haltStart, State.silt_startup]
    rfl
  · rw [State.haltStart, State.rd_silt_ne _ _ _ _ _ _ (by decide) (by decide) (by decide), State.wrAll_cons, State.wrAll_cons, State.wrAll_nil,
      State.rd_wr_ne _ _ (by decide), State.rd_wr_self]
    rfl

/-- Settles O9: what a reset leaves is shown once (`moduleReset_resetOf`); each clause says what brings it. -/
theorem resetsAndTheirCauses : Obligations.ResetsAndTheirCauses := by
  unfold Obligations.ResetsAndTheirCauses
  refine ⟨fun s powered awake running => ⟨_, rfl, State.rstPulse_resets powered awake running⟩, fun s h => ⟨_, rfl, State.rstPulse_lasts h⟩,
    fun s port work => ?_, fun s port key work wf wrong => ?_, fun s f unpowered => ?_, fun s f hold vin => ?_, fun s f c hold vin wake small => ?_,
    fun s hold vin wake => ⟨_, rfl, if_pos ⟨hold, vin, wake⟩⟩, fun s phase line kind => ⟨_, rfl, ?_⟩, fun s phase line kind byRequest => ⟨_, rfl, ?_⟩,
    fun s h => ⟨_, rfl, State.rstRelease_else h⟩, fun s line _ starting runs => ⟨_, rfl, State.watchdog_resets starting runs⟩,
    fun s line _ starting runs => ⟨_, rfl, State.watchdog_halts starting runs⟩⟩
  · refine Completes.effect (u := s) rfl work ?_
    exact State.moduleReset_resetOf _ .warm (by decide)
  · refine Completes.effect (u := s) rfl work ?_
    rw [State.resetWrite]
    exact if_neg (by simp [wrong])
  · have is : s.coldStart f 0 = State.moduleReset { s with startup := { s.startup with vin := true, pwrGood := false } } .cold 0 := by
      rw [State.coldStart, if_pos unpowered]
      rfl
    refine ⟨_, rfl, ?_⟩
    rw [is]
    refine ⟨resetOf_supply (State.moduleReset_resetOf _ .cold (by decide)), ?_⟩
    rw [State.moduleReset_startup]
    rfl
  · have is : s.holdWake true f 0 = State.moduleReset { s with startup := { s.startup with vin := true, pwrGood := false } } .holdWake 1 := by
      rw [State.holdWake, if_neg (not_not.mpr hold), vin]
      rfl
    refine ⟨_, rfl, ?_⟩
    rw [is]
    refine ⟨resetOf_supply (State.moduleReset_resetOf _ .holdWake (by decide)), ?_⟩
    rw [State.moduleReset_startup]
    rfl
  · have is : s.holdWake false f 0 = s.moduleReset .holdWake c := by
      rw [State.holdWake, if_neg (not_not.mpr hold), vin, wake]
      rfl
    refine ⟨_, rfl, ?_⟩
    rw [is]
    exact s.moduleReset_resetOf .holdWake (Nat.lt_trans small (by decide))
  · rw [State.rstRelease_waits phase line]
    exact if_neg fun h => kind h.1
  · rw [State.rstRelease_waits phase line, if_pos ⟨kind, byRequest⟩]
    refine ⟨rfl, State.rd_wr_self _ _ _, ?_⟩
    exact (OnlyFields.of_regs (t := { s with startup := { s.startup with carrierRst := false, line := 3, phase := .phaseA } }) rfl).wr _ (by decide)

end Sys2Proof.Machine
end

section
/-! SUPPORT. The lines of a start (O10). -/

namespace Sys2Proof.Machine

/-! ### Line n of a start -/

/-- What line n of a start does. -/
def State.lineDone (s : State) (f : StartFound) : Nat → State
  | 1 => s.line1
  | 2 => s.line2 f
  | 3 => s.line3
  | 4 => s.line4 f
  | 5 => s.line5 f
  | 6 => s.line6 f
  | 7 => s.line7 f
  | 8 => s.line8 f
  | 9 => s.line9 f
  | 10 => s.line10 f
  | 11 => s.line11 f
  | _ => s

theorem State.runLine_next {k : StartKind} {s : State} (starting : s.starting k = true) (f : StartFound) {n : Nat} (line : s.startup.line + 1 = n) :
    s.runLine k f n = s.lineDone f n := by
  have next : ¬(!s.starting k || s.startup.line + 1 != n) = true := by
    rw [starting, line]
    simp
  unfold State.runLine
  exact if_neg next

theorem State.runLine_other {k : StartKind} {s : State} {f : StartFound} {n : Nat} (line : s.startup.line + 1 ≠ n) : s.runLine k f n = s := by
  unfold State.runLine
  refine if_pos ?_
  rw [Bool.or_eq_true]
  exact .inr (bne_iff_ne.mpr line)

/-- A run to the next line runs that line alone. -/
theorem State.runTo_next {k : StartKind} {s : State} (f : StartFound) {n : Nat} (line : s.startup.line + 1 = n) : s.runTo k f n = s.runLine k f n := by
  obtain ⟨m, rfl⟩ : ∃ m, n = m + 1 := ⟨s.startup.line, line.symm⟩
  have before : ∀ j, j ≤ m → (List.range j).foldl (fun s i => s.runLine k f (i + 1)) s = s := by
    intro j
    induction j with
    | zero => exact fun _ => rfl
    | succ j ih =>
      intro le
      rw [List.range_succ, List.foldl_append, ih (by omega), List.foldl_cons, List.foldl_nil, State.runLine_other (by omega)]
  rw [State.runTo, List.range_succ, List.foldl_append, before m (Nat.le_refl m)]
  rfl

theorem State.phase_of_starting {k : StartKind} {s : State} (h : s.starting k = true) : s.startup.phase ≠ .unpowered ∧ s.startup.phase ≠ .hold := by
  rw [State.starting, Bool.and_eq_true] at h
  constructor <;> intro is <;> rw [is] at h <;> exact Bool.false_ne_true h.2

theorem State.coldStart_next {s : State} (starting : s.starting .cold = true) (f : StartFound) {n : Nat} (line : s.startup.line + 1 = n) :
    s.coldStart f n = s.runLine .cold f n := by
  rw [State.coldStart, if_neg (State.phase_of_starting starting).1]
  exact State.runTo_next f line

theorem State.holdWake_next {s : State} (starting : s.starting .holdWake = true) (f : StartFound) {n : Nat} (line : s.startup.line + 1 = n) :
    s.holdWake false f n = s.runLine .holdWake f n := by
  rw [State.holdWake, if_pos (State.phase_of_starting starting).2]
  exact State.runTo_next f line

/-! ### The lines t1 to t3 -/

section Lines
variable {s : State} {f : StartFound}

/-- R28, R406: t2. -/
theorem State.line2_spec (s : State) (f : StartFound) : let t := s.line2 f
    t.startup = { s.startup with line := 2, phase := .inReset } ∧ t.refRuns = true ∧ t.domain 2 = .running ∧
      if f.plnLate = true then t.timeRuns = false ∧ t.time = s.time ∧ t.modes = s.modes
      else
        t.domains = s.besideAon .running ∧ t.modes = { s.modes with time := .free } ∧ t.time.raw = 0 ∧
          (s.calValid = false → t.moduleTimeAt 0 = 0) := by
  rw [State.line2]
  cases late : f.plnLate
  · refine ⟨rfl, rfl, rfl, rfl, rfl, rfl, fun invalid => ?_⟩
    have stands : s.domainsRun.calValid = false := invalid
    have base : ((s.domainsRun.timeStart).atLine 2 .inReset).time = .from 0 := by
      show TimeUnit.from (if s.domainsRun.calValid then _ else 0) = .from 0
      rw [stands]
      rfl
    show ((s.domainsRun.timeStart).atLine 2 .inReset).moduleTimeAt 0 = 0
    rw [State.moduleTimeAt, base]
    simp [TimeUnit.from]
  · have domains : ∀ d, (s.allButPln.atLine 2 .inReset).domain d = ((plnDomains.foldl (fun l d => putDomain l d .stopped) (s.besideAon .running)).getD d .stopped) :=
      fun _ => rfl
    have stands : ∀ d, d < 14 → (s.allButPln.atLine 2 .inReset).domain d =
        if d = 11 then .stopped else if d = 9 then .stopped else if d = 6 then .stopped else if d = 5 then .stopped else
          (s.besideAon .running).getD d .stopped := fun d lt => by
      rw [domains]
      simp only [plnDomains, List.foldl_cons, List.foldl_nil]
      rw [getD_putDomain _ lt, getD_putDomain _ lt, getD_putDomain _ lt, getD_putDomain _ lt]
    have one : (s.allButPln.atLine 2 .inReset).domain 1 = .running := stands 1 (by decide)
    have two : (s.allButPln.atLine 2 .inReset).domain 2 = .running := stands 2 (by decide)
    have eleven : (s.allButPln.atLine 2 .inReset).domain 11 = .stopped := stands 11 (by decide)
    refine ⟨rfl, ?_, two, ?_, rfl, rfl⟩
    · show ((s.allButPln.atLine 2 .inReset).domain 1 == .running) = true
      rw [one]
      rfl
    · show ((s.allButPln.atLine 2 .inReset).domain 11 == .running) = false
      rw [eleven]
      rfl

/-- R53: t3 once the carrier has released RST_N. -/
theorem State.line3_spec (s : State) (released : s.startup.carrierRst = false) : let t := s.line3
    t.startup = { s.startup with line := 3, phase := .phaseA } ∧ t.live 0x00 = true ∧ t.live 0x01 = true ∧ t.live 0x1E = false := by
  have startup : s.line3.startup = { s.startup with line := 3, phase := .phaseA } := by
    rw [State.line3, if_neg (by rw [released]; decide)]
    dsimp only
    split <;> rfl
  have live : ∀ p, s.line3.live p = (pagesA.contains p && (!s.startup.scrapped || [0x00, 0x01, 0x1E].contains p || true)) := fun p => by
    rw [State.live, startup]
    rfl
  refine ⟨startup, ?_, ?_, ?_⟩ <;> rw [live] <;> cases s.startup.scrapped <;> rfl

/-! ### The line t4 (R97, R118, R406) -/

theorem State.plnLock_spec (s : State) (held : s.deferred = []) : let t := s.plnLock
    t.startup = s.startup ∧ t.timeRuns = true ∧ t.grg = s.grg ∧ OnlyFields [TIM_UTC_OFFSET] s t ∧
      (s.timeRuns = false → t.time.raw = 0 ∧ t.modes.time = .free) := by
  rw [State.plnLock]
  dsimp only
  cases runs : s.timeRuns
  · have kept : s.domainsRun.timeStart.flushDeferred = s.domainsRun.timeStart := State.flushDeferred_nil held
    rw [if_neg (by decide), kept]
    exact ⟨rfl, rfl, rfl, (OnlyFields.of_regs (t := { s.domainsRun with time := .from _, modes := { s.modes with time := .free } }) rfl).wr _ (by decide),
      fun _ => ⟨rfl, rfl⟩⟩
  · exact ⟨rfl, runs, rfl, .refl _ s, fun stopped => (by cases stopped)⟩

theorem State.bootGood_congr {s t : State} (grg : t.grg = s.grg) (banks : ∀ p, t.activeBank p = s.activeBank p) (bad started : List Nat) (p place : Nat) :
    t.bootGood bad started p place = s.bootGood bad started p place := by
  have image : ∀ q, t.image q = s.image q := fun q => by rw [State.image, State.image, grg]
  have run : ∀ q, t.runPlace q = s.runPlace q := fun q => by rw [State.runPlace, State.runPlace, banks]
  have version : ∀ q, t.imageVersion q = s.imageVersion q := fun q => by rw [State.imageVersion, State.imageVersion, image]
  simp only [State.bootGood, image, run, version]

/-- A processor whose active bank starts (R118): at most its trial begins. -/
theorem State.bootChoose_good {s : State} {bad started : List Nat} {p : Nat} (good : s.bootGood bad started p (2 * p + s.activeBank p) = true) :
    ∃ trial, s.bootChoose bad started p = some { s with grg := { s.grg with trial := trial } } := by
  rw [State.bootChoose]
  dsimp only
  rw [good, if_pos rfl, Option.map_some]
  cases s.rdB (GRG_BANK_TRIAL p)
  · exact ⟨s.grg.trial, rfl⟩
  · exact ⟨some (p, s.time.raw), rfl⟩

/-- What SUP's start does beyond the choice of its image. -/
def State.supStarts (s : State) : State :=
  if (s.atLine 4 .phaseA).rdB TPR_LATCH_ERASE_PENDING then ((s.atLine 4 .phaseA).wr TPR_LATCH_ERASE_PENDING 0).tamperErase else s.atLine 4 .phaseA

theorem State.line4_eq (s : State) (f : StartFound) : s.line4 f = match s.plnLock.bootChoose f.badImages [] 0 with
    | none => s.plnLock.haltStart 5
    | some u => u.supStarts := rfl

theorem State.supStarts_spec (s : State) : let t := s.supStarts
    t.startup = { s.startup with line := 4, phase := .phaseA } ∧ t.domains = s.domains ∧ t.time = s.time ∧ t.modes = s.modes := by
  rw [State.supStarts]
  dsimp only
  split
  · have kept := State.tamperErase_kept (T := Touches 0x700000020108000002) (.refl ((s.atLine 4 .phaseA).wr TPR_LATCH_ERASE_PENDING 0)) fun _ h => h
    exact ⟨kept.frame .startup (by decide), kept.frame .domains (by decide), kept.frame .time (by decide), kept.frame .modes (by decide)⟩
  · exact ⟨rfl, rfl, rfl, rfl⟩

theorem State.timeRuns_congr {s t : State} (h : t.domains = s.domains) : t.timeRuns = s.timeRuns := by
  rw [State.timeRuns, State.timeRuns, State.domain, State.domain, h]

theorem State.line4_spec (s : State) (f : StartFound) (held : s.deferred = []) : let t := s.line4 f
    t.timeRuns = true ∧ (s.timeRuns = false → t.time.raw = 0 ∧ t.modes.time = .free) ∧
      (s.bootGood f.badImages [] 0 (s.activeBank 0) = true → t.startup.line = 4 ∧ t.startup.phase = .phaseA) := by
  obtain ⟨startup, runs, grg, only, begins⟩ := s.plnLock_spec held
  have banks : ∀ p, s.plnLock.activeBank p = s.activeBank p := fun p => only _ (by
    intro g mem
    rw [List.mem_singleton.mp mem]
    simp only [Field.key]
    omega)
  dsimp only
  rw [s.line4_eq f]
  generalize s.plnLock = u at *
  cases found : u.bootChoose f.badImages [] 0 with
  | none =>
    have kept := State.haltStart_kept (T := Touches 0x400000030100000042) (.refl u) 5 fun _ h => h
    refine ⟨(State.timeRuns_congr (kept.frame .domains (by decide))).trans runs, fun stopped => ?_, fun good => ?_⟩
    · obtain ⟨raw, free⟩ := begins stopped
      exact ⟨(congrArg TimeUnit.raw (kept.frame .time (by decide))).trans raw, (congrArg Modes.time (kept.frame .modes (by decide))).trans free⟩
    · have good' : u.bootGood f.badImages [] 0 (2 * 0 + u.activeBank 0) = true := by
        rw [banks, Nat.mul_zero, Nat.zero_add, State.bootGood_congr grg banks]
        exact good
      obtain ⟨trial, some_⟩ := State.bootChoose_good good'
      rw [found] at some_
      cases some_
  | some v =>
    have kept := State.bootChoose_kept (T := Touches 0x1400000020140000002) found (.refl u) fun _ h => h
    obtain ⟨startup', domains, time, modes⟩ := v.supStarts_spec
    refine ⟨(State.timeRuns_congr (domains.trans (kept.frame .domains (by decide)))).trans runs, fun stopped => ?_, fun _ => ?_⟩
    · obtain ⟨raw, free⟩ := begins stopped
      exact ⟨(congrArg TimeUnit.raw (time.trans (kept.frame .time (by decide)))).trans raw,
        (congrArg Modes.time (modes.trans (kept.frame .modes (by decide)))).trans free⟩
    · rw [startup']
      exact ⟨rfl, rfl⟩

/-! ### The lines t6 and t7 (R116, R121, R479) -/

/-- The state in which a halted start is recorded (R120). -/
def State.halting (s : State) : State :=
  { s with startup := { s.startup with phase := .halted (Nat.ble 4 s.startup.line) } }.wrAll [(SYS_STATUS_READY, 0), (SLT_STATUS_GUARD, 0)]

theorem State.haltStart_spec (s : State) (cause : Nat) : let t := s.haltStart cause
    t.startup = { s.startup with phase := .halted (Nat.ble 4 s.startup.line) } ∧ t.modes = s.modes ∧
      OnlyFields [SYS_STATUS_READY, SLT_STATUS_GUARD, SLT_LOST, NOTE_RAW 0x1E, MSIX_PBA] s t ∧
      Records 0x0009 cause 0 0 0 { s with startup := t.startup } t := by
  have is : s.haltStart cause = s.halting.silt 0x0009 cause := rfl
  have only : OnlyFields [SYS_STATUS_READY, SLT_STATUS_GUARD, SLT_LOST, NOTE_RAW 0x1E, MSIX_PBA] s s.halting := by
    refine (OnlyFields.of_regs (t := { s with startup := { s.startup with phase := .halted (Nat.ble 4 s.startup.line) } }) rfl).wrAll fun x mem => ?_
    simp only [List.mem_cons, List.not_mem_nil, or_false] at mem
    rcases mem with rfl | rfl <;> dsimp only <;> decide
  have startup : s.halting.startup = { s.startup with phase := .halted (Nat.ble 4 s.startup.line) } := rfl
  have same : s.halting.siltIntake = s.siltIntake ∧ s.halting.cal = s.cal ∧ s.halting.domains = s.domains ∧ s.halting.modes = s.modes := ⟨rfl, rfl, rfl, rfl⟩
  dsimp only
  rw [is]
  generalize s.halting = u at *
  obtain ⟨intake, cal, domains, modes⟩ := same
  refine ⟨by rw [State.silt_startup, startup], by rw [State.silt_modes, modes],
    only.silt _ _ _ _ _ (by decide) (by decide) (by decide), ?_⟩
  exact (u.silt_records 0x0009 cause 0 0 0).of_before intake cal domains (only _ (by decide)) (by rw [State.silt_startup])

theorem State.tamperHalt_spec (s : State) : let t := s.tamperHalt
    t.startup.phase = .halted (Nat.ble 4 s.startup.line) ∧ t.modes.tamper = .alarm ∧ t.rd TPR_STATUS_ALARM = 1 ∧ Noted TPR_NOTE_ALARM t := by
  let u : State := ({ s with modes := { s.modes with tamper := .alarm } }.wr TPR_STATUS_ALARM 1)
  have is : s.tamperHalt = ((u.notice TPR_NOTE_ALARM).noticeIf (Nat.ble 5 u.startup.line) SYS_NOTE_MODE).haltStart 2 := by
    rw [State.tamperHalt]
  have told : ∀ b, ((u.notice TPR_NOTE_ALARM).noticeIf b SYS_NOTE_MODE).startup = u.startup ∧ ((u.notice TPR_NOTE_ALARM).noticeIf b SYS_NOTE_MODE).modes = u.modes := by
    intro b
    cases b
    · exact ⟨State.notice_startup _ _, State.notice_modes _ _⟩
    · exact ⟨by rw [State.noticeIf, if_pos rfl, State.notice_startup, State.notice_startup], by rw [State.noticeIf, if_pos rfl, State.notice_modes, State.notice_modes]⟩
  obtain ⟨startup, modes⟩ := told (Nat.ble 5 u.startup.line)
  have alarm : ((u.notice TPR_NOTE_ALARM).noticeIf (Nat.ble 5 u.startup.line) SYS_NOTE_MODE).rd TPR_STATUS_ALARM = 1 := by
    rw [State.rd_noticeIf_ne _ _ _ (by decide) (by decide), State.rd_notice_ne _ _ (by decide) (by decide)]
    exact State.rd_wr_self _ _ _
  have noted : Noted TPR_NOTE_ALARM ((u.notice TPR_NOTE_ALARM).noticeIf (Nat.ble 5 u.startup.line) SYS_NOTE_MODE) :=
    Noted.congr (State.noted_notice _ _ (by decide)) (State.rd_noticeIf_ne _ _ _ (by decide) (by decide))
  dsimp only
  rw [is]
  generalize (u.notice TPR_NOTE_ALARM).noticeIf (Nat.ble 5 u.startup.line) SYS_NOTE_MODE = v at *
  obtain ⟨halted, modes', only, -⟩ := v.haltStart_spec 2
  refine ⟨?_, ?_, (only _ (by decide)).trans alarm, Noted.congr noted (only _ (by decide))⟩
  · rw [halted, startup]
    rfl
  · rw [modes', modes]
    rfl

/-- R116, R121: tamper at t6 halts the start. -/
theorem State.line6_tampered {s : State} {f : StartFound} (line : s.startup.line = 5) (held : s.deferred = []) (tampered : f.tampered = true) :
    let t := s.line6 f
    t.startup.phase = .halted true ∧ t.modes.tamper = .alarm ∧ t.rd TPR_STATUS_ALARM = 1 ∧ Noted TPR_NOTE_ALARM t := by
  let u : State := { s with domains := putDomain s.domains 0 .running }
  have is : s.line6 f = (if u.cal.osfMark then ({ u with cal := { u.cal with osfMark := false } }.notice RTC_NOTE_OSF).silt 0x1901 else u).tamperHalt := by
    have none_ : u.flushDeferred = u := State.flushDeferred_nil held
    rw [State.line6, none_]
    dsimp only
    rw [if_pos tampered]
  have startup : (if u.cal.osfMark then ({ u with cal := { u.cal with osfMark := false } }.notice RTC_NOTE_OSF).silt 0x1901 else u).startup = s.startup := by
    split
    · rw [State.silt_startup, State.notice_startup]
    · rfl
  dsimp only
  rw [is]
  generalize (if u.cal.osfMark then ({ u with cal := { u.cal with osfMark := false } }.notice RTC_NOTE_OSF).silt 0x1901 else u) = v at *
  obtain ⟨halted, alarm, shown, noted⟩ := v.tamperHalt_spec
  rw [startup, line] at halted
  exact ⟨halted, alarm, shown, noted⟩

/-- The root is not recovered where neither copy is good, or more than 2,500 bits differ (R479). -/
theorem HelperData.recover_none (h : HelperData) {bad : List Nat} {flips : Nat} (why : bad.contains 0 && bad.contains 1 ∨ 2500 < flips) :
    h.recover bad flips = none := by
  rw [HelperData.recover]
  rcases why with both | many
  · rw [Bool.and_eq_true] at both
    have none_ : (List.range 2).find? (fun i => !bad.contains i) = none := by
      show [0, 1].find? (fun i => !bad.contains i) = none
      rw [List.find?_cons_of_neg (by rw [both.1]; decide), List.find?_cons_of_neg (by rw [both.2]; decide), List.find?_nil]
    rw [none_]
  · cases (List.range 2).find? (fun i => !bad.contains i) with
    | none => rfl
    | some i =>
      have lost : ∀ x, regionRoot x flips = none := fun x => if_neg fun h => Nat.not_le_of_lt many h.2
      dsimp only
      rw [lost]
      rfl

/-- The root of the helper data that the first start has written (R478, R479). -/
theorem recover_enrolled {bad : List Nat} {flips : Nat} (good : (bad.contains 0 && bad.contains 1) = false) (few : flips ≤ 2500) :
    enrolled.recover bad flips = some (if bad.contains 0 then 1 else 0, Config.root) := by
  have root : ∀ i, i < 2 → regionRoot (enrolled.copies.getD i 0) flips = some Config.root := fun i lt => by
    have copy : enrolled.copies.getD i 0 = Config.helperData := by
      interval_cases i <;> rfl
    rw [copy, regionRoot]
    exact if_pos ⟨rfl, few⟩
  have found : (List.range 2).find? (fun i => !bad.contains i) = some (if bad.contains 0 then 1 else 0) := by
    show [0, 1].find? (fun i => !bad.contains i) = _
    cases zero : bad.contains 0
    · rw [List.find?_cons_of_pos (by rw [zero]; rfl)]
      rfl
    · rw [zero, Bool.true_and] at good
      rw [List.find?_cons_of_neg (by rw [zero]; decide), List.find?_cons_of_pos (by rw [good]; rfl)]
      rfl
  have check : enrolled.check = rootCheck Config.root := by rw [enrolled]
  rw [HelperData.recover, found]
  dsimp only
  rw [root _ (by split <;> decide), Option.filter_some, check, beq_self_eq_true]
  rfl

/-- R478, R479: t7 halts the start. -/
theorem State.line7_halts {s : State} {f : StartFound} (whole : s.modes.life ≠ .scrapped)
    (why : (s.hpn.helper = none ∧ s.modes.life ≠ .blank) ∨
        (s.hpn.helper ≠ none ∧ (f.badHelper.contains 0 && f.badHelper.contains 1 ∨ 2500 < f.flips))) (line : s.startup.line = 6) :
    let t := s.line7 f
    t.startup.phase = .halted true ∧ Records 0x0009 3 0 0 0 { s with startup := t.startup } t := by
  have is : s.line7 f = s.haltStart 3 := by
    rw [State.line7, if_neg whole]
    rcases why with ⟨none_, life⟩ | ⟨some_, lost⟩
    · rw [none_]
      exact if_neg life
    · obtain ⟨h, is⟩ := Option.ne_none_iff_exists'.mp some_
      rw [is]
      dsimp only
      rw [h.recover_none lost]
  obtain ⟨startup, -, -, records⟩ := s.haltStart_spec 3
  dsimp only
  rw [is]
  refine ⟨?_, records⟩
  rw [startup, line]
  rfl

/-- R479: t7 with the root recovered. -/
theorem State.line7_recovers {s : State} {f : StartFound} (whole : s.modes.life ≠ .scrapped) (helper : s.hpn.helper = some enrolled)
    (good : (f.badHelper.contains 0 && f.badHelper.contains 1) = false) (few : f.flips ≤ 2500) : let t := s.line7 f
    t.startup = { s.startup with line := 7, phase := .phaseB } ∧ t.rd HPN_PUF_FLIPS = f.flips ∧
      t.rd HPN_PUF_COPY = (if f.badHelper.contains 0 then 1 else 0) ∧ t.hpn.island.isSome = true ∧
      OnlyFields [HPN_PUF_FLIPS, HPN_PUF_COPY] s t := by
  have is : s.line7 f = ((s.wrAll [(HPN_PUF_FLIPS, f.flips), (HPN_PUF_COPY, if f.badHelper.contains 0 then 1 else 0)]).deriveSecrets Config.root).atLine 7 .phaseB := by
    rw [State.line7, if_neg whole, helper]
    dsimp only
    rw [recover_enrolled good few]
  have only : OnlyFields [HPN_PUF_FLIPS, HPN_PUF_COPY] s (s.wrAll [(HPN_PUF_FLIPS, f.flips), (HPN_PUF_COPY, if f.badHelper.contains 0 then 1 else 0)]) := by
    refine (OnlyFields.refl _ s).wrAll fun x mem => ?_
    simp only [List.mem_cons, List.not_mem_nil, or_false] at mem
    rcases mem with rfl | rfl <;> dsimp only <;> decide
  have flips : (s.wrAll [(HPN_PUF_FLIPS, f.flips), (HPN_PUF_COPY, if f.badHelper.contains 0 then 1 else 0)]).rd HPN_PUF_FLIPS = f.flips := by
    rw [State.wrAll_cons, State.wrAll_cons, State.wrAll_nil, State.rd_wr_ne _ _ (by decide), State.rd_wr_of_lt _ (Nat.lt_of_le_of_lt few (by decide))]
  have copy : (s.wrAll [(HPN_PUF_FLIPS, f.flips), (HPN_PUF_COPY, if f.badHelper.contains 0 then 1 else 0)]).rd HPN_PUF_COPY =
      if f.badHelper.contains 0 then 1 else 0 := by
    rw [State.wrAll_cons, State.wrAll_cons, State.wrAll_nil, State.rd_wr_of_lt _ (by split <;> decide)]
  have startup : (s.wrAll [(HPN_PUF_FLIPS, f.flips), (HPN_PUF_COPY, if f.badHelper.contains 0 then 1 else 0)]).startup = s.startup := rfl
  dsimp only
  rw [is]
  generalize s.wrAll [(HPN_PUF_FLIPS, f.flips), (HPN_PUF_COPY, if f.badHelper.contains 0 then 1 else 0)] = u at *
  refine ⟨?_, flips, copy, rfl, only.congr rfl⟩
  show { u.startup with line := 7, phase := .phaseB } = _
  rw [startup]

/-! ### The lines t10 and t11 (R109, R118) -/

/-- R118: t10 with the active banks of RSQ and PRP. -/
theorem State.line10_good {s : State} {f : StartFound} (rsq : s.bootGood f.badImages [0] 1 (2 + s.activeBank 1) = true)
    (prp : s.bootGood f.badImages [0, 1] 2 (4 + s.activeBank 2) = true) : let t := s.line10 f
    t.startup = { s.startup with line := 10, phase := .phaseC } ∧ t.regs = s.regs ∧ t.grg.images = s.grg.images := by
  obtain ⟨a, first⟩ := State.bootChoose_good (s := s) (bad := f.badImages) (started := [0]) (p := 1) rsq
  have prp' : State.bootGood { s with grg := { s.grg with trial := a } } f.badImages [0, 1] 2
      (2 * 2 + State.activeBank { s with grg := { s.grg with trial := a } } 2) = true := prp
  obtain ⟨b, second⟩ := State.bootChoose_good prp'
  have is : s.line10 f = State.atLine { s with grg := { s.grg with trial := b } } 10 .phaseC := by
    rw [State.line10, first]
    dsimp only
    rw [second]
  dsimp only
  rw [is]
  exact ⟨rfl, rfl, rfl⟩

/-- R109, R112: READY. -/
theorem State.line11_spec (s : State) (f : StartFound) : let t := s.line11 f
    t.startup.phase = .ready ∧ t.startup.line = 11 ∧ t.startup.watchdogRuns = 0 ∧ t.startup.activationHold = false ∧
      t.rd SYS_STATUS_READY = 1 ∧ Noted SYS_NOTE_MODE t := by
  let u : State := { s.atLine 11 .ready with startup := { (s.atLine 11 .ready).startup with watchdogRuns := 0, activationHold := false } }.wr SYS_STATUS_READY 1
  have followed := State.dptFollow_kept (T := Touches 0x8020000000003) (.refl u) fun _ h => h
  have ready : u.dptFollow.rd SYS_STATUS_READY = 1 := (followed.rd_eq _ (by decide)).trans (State.rd_wr_self _ _ _)
  have startup : u.dptFollow.startup = u.startup := followed.frame .startup (by decide)
  have is : s.line11 f = (((u.dptFollow.notice SYS_NOTE_MODE).silt 0x0002 f.elapsed).clmReady).askGrog := rfl
  dsimp only
  rw [is]
  generalize u.dptFollow = v at *
  have told : ((v.notice SYS_NOTE_MODE).silt 0x0002 f.elapsed).startup = u.startup := by
    rw [State.silt_startup, State.notice_startup, startup]
  have ready' : ((v.notice SYS_NOTE_MODE).silt 0x0002 f.elapsed).rd SYS_STATUS_READY = 1 := by
    rw [State.rd_silt_ne _ _ _ _ _ _ (by decide) (by decide) (by decide), State.rd_notice_ne _ _ (by decide) (by decide), ready]
  have noted : Noted SYS_NOTE_MODE ((v.notice SYS_NOTE_MODE).silt 0x0002 f.elapsed) :=
    Noted.congr (State.noted_notice _ _ (by decide)) (State.rd_silt_ne _ _ _ _ _ _ (by decide) (by decide) (by decide))
  generalize (v.notice SYS_NOTE_MODE).silt 0x0002 f.elapsed = w at *
  have kept := State.askGrog_kept (T := Touches 0x80000420004000012) (State.clmReady_kept (T := Touches 0x80000420004000012) (.refl w)
    (Sub.trans (fun _ => id) rfl)) (Sub.trans (fun _ => id) rfl)
  have same : w.clmReady.askGrog.startup = u.startup := (kept.frame .startup (by decide)).trans told
  exact ⟨by rw [same]; rfl, by rw [same]; rfl, by rw [same]; rfl, by rw [same]; rfl, (kept.rd_eq _ (by decide)).trans ready', Noted.congr noted (kept.rd_eq _ (by decide))⟩

end Lines

/-- Settles O10: a run to the next line runs that line alone (`runTo_next`), and each line has its own rule. -/
theorem startLines : Obligations.StartLines := by
  unfold Obligations.StartLines
  refine ⟨fun s f n line _ => ⟨fun starting => ⟨_, rfl, s.coldStart_next starting f line⟩, fun starting => ⟨_, rfl, s.holdWake_next starting f line⟩,
      fun starting => ⟨_, rfl, State.runTo_next f line⟩⟩,
    fun s f line => ?_, fun k s f starting => ⟨fun line => ?_, fun line => ?_, fun line held => ?_, fun line released => ?_, fun line held => ?_,
      fun line held tampered => ?_, fun line whole why => ?_, fun line whole helper good few => ?_, fun line rsq prp => ?_, fun line => ?_⟩,
    fun s f starting line released => ⟨_, rfl, ?_⟩⟩
  · have next : s.startup.line + 1 = 11 := by rw [line]
    have ready : ∀ k, s.starting k = true → (s.runLine k f 11).startup.phase = .ready ∧ (s.runLine k f 11).rd SYS_STATUS_READY = 1 ∧
        Noted SYS_NOTE_MODE (s.runLine k f 11) := fun k starting => by
      rw [State.runLine_next starting f next]
      obtain ⟨phase, -, -, -, shown, noted⟩ := s.line11_spec f
      exact ⟨phase, shown, noted⟩
    refine ⟨fun starting => ⟨_, rfl, ?_⟩, fun starting => ⟨_, rfl, ?_⟩, fun starting => ⟨_, rfl, ?_⟩⟩
    · rw [s.coldStart_next starting f next]
      exact ready _ starting
    · rw [s.holdWake_next starting f next]
      exact ready _ starting
    · rw [State.runTo_next f next]
      exact ready _ starting
  · rw [State.runLine_next starting f (by rw [line])]
    rfl
  · rw [State.runLine_next starting f (by rw [line])]
    exact s.line2_spec f
  · rw [State.runLine_next starting f (by rw [line])]
    exact if_pos held
  · rw [State.runLine_next starting f (by rw [line])]
    exact s.line3_spec released
  · rw [State.runLine_next starting f (by rw [line])]
    exact s.line4_spec f held
  · rw [State.runLine_next starting f (by rw [line])]
    exact State.line6_tampered line held tampered
  · rw [State.runLine_next starting f (by rw [line])]
    exact State.line7_halts whole why line
  · rw [State.runLine_next starting f (by rw [line])]
    exact State.line7_recovers whole helper good few
  · rw [State.runLine_next starting f (by rw [line])]
    exact State.line10_good rsq prp
  · rw [State.runLine_next starting f (by rw [line])]
    exact s.line11_spec f
  · rw [State.runTo_next f (by rw [line]), State.runLine_next starting f (by rw [line])]
    have kind : s.startup.kind = .warm := by
      rw [State.starting, Bool.and_eq_true] at starting
      exact beq_iff_eq.mp starting.1
    have is : s.line3 = { s with startup := { s.startup with line := 3, phase := .phaseA } } := by
      rw [State.line3, if_neg (by rw [released]; decide)]
      exact if_neg fun h => by rw [show (s.atLine 3 .phaseA).startup.kind = s.startup.kind from rfl, kind] at h; cases h.1
    obtain ⟨-, sys, hif, -⟩ := s.line3_spec released
    exact ⟨is, sys, hif⟩

end Sys2Proof.Machine
end

section
/-! SUPPORT. Feeder metering (O35). -/

namespace Sys2Proof.Machine

/-! ### What metering keeps -/

/-- The fields that a latch of circuit c takes its interval into. -/
def intervalFields (c : Nat) : List Field :=
  [EMU_L_T_END_LO c, EMU_L_T_END_HI c, EMU_L_DUR c, EMU_L_CYCLES c, EMU_L_IMP_LO c, EMU_L_IMP_HI c, EMU_L_EXP_LO c, EMU_L_EXP_HI c,
    EMU_L_LATCH_NO c, EMU_L_END_FLAGS c, emuSeq c]

/-- The fields that latches of any circuits may change. -/
def latchedFields : List Field := (List.range 12).flatMap intervalFields ++ [FRESH 0x0D, NOTE_RAW 0x0D, MSIX_PBA]

/-- The fields that a sample may change. -/
def meterFields : List Field := latchedFields ++ (List.range 16).map EMU_OVR ++ [EMU_ZC_NOISE, EMU_STATUS_ZC_LOST, EMU_STATUS_ACTIVE]

/-- The fields that configure channels and circuits, and the channels in FAULT, by their keys. -/
abbrev Field.sets (f : Field) : Prop := (0x1A0100 ≤ f.key ∧ f.key < 0x1A0120) ∨ (0x1A0800 ≤ f.key ∧ f.key < 0x1A1F20)

/-- What the parts of a sample keep: its fields apart the registers, of EMUR all but the disturbed circuits, and the totals of the circuits
of `P`. -/
structure MeterKeeps (P : Nat → Prop) (s t : State) : Prop where
  emur : ∃ d, t.emur = { s.emur with disturbed := d }
  only : OnlyFields meterFields s t
  now : ∀ c, c < 12 → P c → (t.circuit c).now = (s.circuit c).now
  held : t.emu.held = s.emu.held
  last : t.emu.last = s.emu.last

namespace MeterKeeps

section

variable {P : Nat → Prop} {s t u : State}

theorem refl (s : State) : MeterKeeps P s s := ⟨⟨_, rfl⟩, .refl _ s, fun _ _ _ => rfl, rfl, rfl⟩

theorem trans (h : MeterKeeps P s t) (k : MeterKeeps P t u) : MeterKeeps P s u := by
  obtain ⟨d, hd⟩ := h.emur
  obtain ⟨e, he⟩ := k.emur
  exact ⟨⟨e, by rw [he, hd]⟩, h.only.trans k.only, fun c lt hc => (k.now c lt hc).trans (h.now c lt hc), k.held.trans h.held, k.last.trans h.last⟩

/-- A state with other registers, windows or outputs, but the units of metering alone. -/
theorem of_only (only : OnlyFields meterFields s t) (emu : t.emu = s.emu) (emur : t.emur = s.emur) : MeterKeeps P s t :=
  ⟨⟨s.emur.disturbed, emur⟩, only, fun c _ _ => by rw [State.circuit, State.circuit, emu], by rw [emu], by rw [emu]⟩

theorem foldl {α : Type} {f : State → α → State} (l : List α) (step : ∀ u, ∀ x ∈ l, MeterKeeps P u (f u x)) (s : State) :
    MeterKeeps P s (l.foldl f s) := by
  induction l generalizing s with
  | nil => exact refl s
  | cons x l ih => exact (step s x List.mem_cons_self).trans (ih (fun u y hy => step u y (List.mem_cons_of_mem _ hy)) _)

theorem mono {Q : Nat → Prop} (h : MeterKeeps P s t) (sub : ∀ c, Q c → P c) : MeterKeeps Q s t :=
  { h with now := fun c lt hc => h.now c lt (sub c hc) }

theorem rd_sets (h : MeterKeeps P s t) {f : Field} (sets : f.sets) : t.rd f = s.rd f := by
  refine h.only f fun g mem e => ?_
  have apart : ∀ g ∈ meterFields, ¬ g.sets := by decide +kernel
  exact apart g mem (by rwa [Field.sets, ← e])

end

end MeterKeeps

section

variable {P : Nat → Prop} (s : State)

theorem State.circuit_setCircuit {c : Nat} (x : EmuCircuit) {j : Nat} (hj : j < 12) :
    (s.setCircuit c x).circuit j = if j = c then x else s.circuit j := getD_putAt _ _ _ _ _ hj

theorem State.setCircuit_keeps {c : Nat} {x : EmuCircuit} (h : P c → x.now = (s.circuit c).now) : MeterKeeps P s (s.setCircuit c x) := by
  refine ⟨⟨_, rfl⟩, .of_regs rfl, fun j lt hj => ?_, rfl, rfl⟩
  rw [s.circuit_setCircuit x lt]
  split
  · next e => subst e; exact h hj
  · rfl

theorem State.setDetector_keeps (k : Nat) (x : EmuDetector) : MeterKeeps P s (s.setDetector k x) := ⟨⟨_, rfl⟩, .of_regs rfl, fun _ _ _ => rfl, rfl, rfl⟩

theorem State.disturb_keeps (c : Nat) : MeterKeeps P s (s.disturb c) := ⟨⟨_, rfl⟩, .of_regs rfl, fun _ _ _ => rfl, rfl, rfl⟩

theorem State.wr_meterKeeps {f : Field} (v : Nat) (mem : f ∈ meterFields) : MeterKeeps P s (s.wr f v) :=
  .of_only ((OnlyFields.refl _ s).wr v mem) rfl rfl

theorem State.notice_meterKeeps (n : Notice) (page : n.page = 0x0D) : MeterKeeps P s (s.notice n) :=
  .of_only ((OnlyFields.refl _ s).notice n (by rw [page]; decide) (by decide)) (by rw [State.notice_emu]) (by rw [State.notice_emur])

theorem State.noticeIf_meterKeeps (b : Bool) (n : Notice) (page : n.page = 0x0D) : MeterKeeps P s (s.noticeIf b n) := by
  cases b
  · exact .refl s
  · exact s.notice_meterKeeps n page

end

/-! ### A latch -/

/-- A latch's interval at its place in the registers. -/
def State.latchShown (s : State) (c : Nat) (time part cleared : Bool) : State :=
  (s.wrAll
    [(EMU_L_T_END_LO c, s.latchTime c), (EMU_L_T_END_HI c, s.latchTime c / 2 ^ 32), (EMU_L_DUR c, s.latchDur (s.circuit c)),
     (EMU_L_CYCLES c, (s.circuit c).cycles), (EMU_L_IMP_LO c, (s.circuit c).now.imp), (EMU_L_IMP_HI c, (s.circuit c).now.imp / 2 ^ 32),
     (EMU_L_EXP_LO c, (s.circuit c).now.exp), (EMU_L_EXP_HI c, (s.circuit c).now.exp / 2 ^ 32),
     (EMU_L_LATCH_NO c, (s.rd (emuSeq c) + 1) % 2 ^ 24),
     (EMU_L_END_FLAGS c, flagBits [time, part, (s.circuit c).gap, cleared, (s.circuit c).clip, (s.circuit c).fault, (s.circuit c).now.impWrap,
       (s.circuit c).now.expWrap])]).publish 0x0D c (emuSeq c)

theorem State.latch_eq (s : State) (c : Nat) (time part cleared : Bool) :
    ∃ (l : List Nat) (a : Nat) (x : EmuCircuit), x.now = (s.circuit c).now ∧
      s.latch c time part cleared = (((s.latchShown c time part cleared).setBytes 0x0D a l).setCircuit c x).notice EMU_NOTE_LATCH :=
  ⟨_, _, { s.circuit c with samples := 0, cycles := 0, count := 0, clip := false, fault := _, gap := false,
                            since := (s.circuit c).since.map fun _ => s.emu.last }, rfl, rfl⟩

theorem mem_intervalFields {c : Nat} (lt : c < 12) {f : Field} (mem : f ∈ intervalFields c) : f ∈ latchedFields :=
  List.mem_append_left _ (List.mem_flatMap.mpr ⟨c, List.mem_range.mpr lt, mem⟩)

theorem State.latchShown_parts (s : State) (c : Nat) (time part cleared : Bool) : ∃ m, s.latchShown c time part cleared = { s with regs := m } := by
  obtain ⟨m, is⟩ := s.wrAll_parts
    [(EMU_L_T_END_LO c, s.latchTime c), (EMU_L_T_END_HI c, s.latchTime c / 2 ^ 32), (EMU_L_DUR c, s.latchDur (s.circuit c)),
     (EMU_L_CYCLES c, (s.circuit c).cycles), (EMU_L_IMP_LO c, (s.circuit c).now.imp), (EMU_L_IMP_HI c, (s.circuit c).now.imp / 2 ^ 32),
     (EMU_L_EXP_LO c, (s.circuit c).now.exp), (EMU_L_EXP_HI c, (s.circuit c).now.exp / 2 ^ 32),
     (EMU_L_LATCH_NO c, (s.rd (emuSeq c) + 1) % 2 ^ 24),
     (EMU_L_END_FLAGS c, flagBits [time, part, (s.circuit c).gap, cleared, (s.circuit c).clip, (s.circuit c).fault, (s.circuit c).now.impWrap,
       (s.circuit c).now.expWrap])]
  obtain ⟨n, is'⟩ := ({ s with regs := m } : State).publish_parts 0x0D c (emuSeq c)
  exact ⟨n, by rw [State.latchShown, is, is']⟩

theorem State.latchShown_only (s : State) {c : Nat} (lt : c < 12) (time part cleared : Bool) :
    OnlyFields latchedFields s (s.latchShown c time part cleared) := by
  refine ((OnlyFields.refl _ s).wrAll fun x mem => mem_intervalFields lt ?_).publish 0x0D c (emuSeq c) (by decide)
    (mem_intervalFields lt (by simp [intervalFields]))
  simp only [List.mem_cons, List.not_mem_nil, or_false] at mem
  rcases mem with rfl | rfl | rfl | rfl | rfl | rfl | rfl | rfl | rfl | rfl <;> simp [intervalFields]

theorem State.latch_only (s : State) {c : Nat} (lt : c < 12) (time part cleared : Bool) : OnlyFields latchedFields s (s.latch c time part cleared) := by
  obtain ⟨l, a, x, -, is⟩ := s.latch_eq c time part cleared
  have shown := s.latchShown_only lt time part cleared
  rw [is]
  generalize s.latchShown c time part cleared = u at shown
  have stored : OnlyFields latchedFields s ((u.setBytes 0x0D a l).setCircuit c x) := shown.congr rfl
  exact stored.notice EMU_NOTE_LATCH (by decide) (by decide)

theorem State.latch_emur (s : State) (c : Nat) (time part cleared : Bool) : (s.latch c time part cleared).emur = s.emur := by
  obtain ⟨l, a, x, -, is⟩ := s.latch_eq c time part cleared
  obtain ⟨m, shown⟩ := s.latchShown_parts c time part cleared
  rw [is, State.notice_emur, shown]
  rfl

theorem State.latch_emu (s : State) (c : Nat) (time part cleared : Bool) :
    ∃ x, x.now = (s.circuit c).now ∧ (s.latch c time part cleared).emu = (s.setCircuit c x).emu := by
  obtain ⟨l, a, x, now, is⟩ := s.latch_eq c time part cleared
  obtain ⟨m, shown⟩ := s.latchShown_parts c time part cleared
  exact ⟨x, now, by rw [is, State.notice_emu, shown]; rfl⟩

theorem latched_meter : latchedFields ⊆ meterFields := fun _ h => List.mem_append_left _ (List.mem_append_left _ h)

theorem State.latch_keeps {P : Nat → Prop} (s : State) {c : Nat} (lt : c < 12) (time part cleared : Bool) :
    MeterKeeps P s (s.latch c time part cleared) := by
  obtain ⟨x, now, emu⟩ := s.latch_emu c time part cleared
  have put : MeterKeeps P s (s.setCircuit c x) := s.setCircuit_keeps fun _ => now
  exact ⟨⟨_, s.latch_emur c time part cleared⟩, (s.latch_only lt time part cleared).mono latched_meter,
    fun j hj hp => by rw [State.circuit, emu]; exact put.now j hj hp, by rw [emu]; rfl, by rw [emu]; rfl⟩

theorem emuSeq_key (c : Nat) : (emuSeq c).key = 0x1A0388 ∨ (emuSeq c).key = (0x0D100 + 0x40 * (c % 12)) * 32 + 8 := by
  rw [emuSeq]
  split
  · exact .inl rfl
  · exact .inr rfl

theorem emuSeq_width (c : Nat) : (emuSeq c).width = 24 := by
  rw [emuSeq]
  split <;> rfl

theorem State.latchShown_seq (s : State) (c : Nat) (time part cleared : Bool) :
    (s.latchShown c time part cleared).rd (emuSeq c) = (s.rd (emuSeq c) + 1) % 2 ^ 24 := by
  have key := emuSeq_key c
  rw [State.latchShown, State.rd_publish_seq _ _ _ _ (by simp only [Field.key] at key ⊢; omega), emuSeq_width]
  simp (disch := (simp only [Field.key] at key ⊢; omega)) only [State.wrAll_cons, State.wrAll_nil, State.rd_wr_ne]

theorem State.latchShown_totals (s : State) (c : Nat) (time part cleared : Bool) : let t := s.latchShown c time part cleared
    t.rd (EMU_L_IMP_LO c) = (s.circuit c).now.imp % 2 ^ 32 ∧ t.rd (EMU_L_EXP_LO c) = (s.circuit c).now.exp % 2 ^ 32 := by
  have key := emuSeq_key c
  dsimp only
  constructor
  all_goals
    rw [State.latchShown, State.rd_publish_ne _ _ _ _ (by simp only [Field.key]; omega) (by simp only [Field.key] at key ⊢; omega)]
    simp (disch := (simp only [Field.key]; omega)) only [State.wrAll_cons, State.wrAll_nil, State.rd_wr_ne, State.rd_wr_self]

/-- R359, R360: what a latch shows. -/
theorem State.latch_shows (s : State) {c : Nat} (lt : c < 12) (time part cleared : Bool) : let t := s.latch c time part cleared
    t.rd (emuSeq c) = (s.rd (emuSeq c) + 1) % 2 ^ 24 ∧ bitAt (t.rd (FRESH 0x0D)) c = true ∧
      t.rd (EMU_L_IMP_LO c) = (s.circuit c).now.imp % 2 ^ 32 ∧ t.rd (EMU_L_EXP_LO c) = (s.circuit c).now.exp % 2 ^ 32 ∧ Noted EMU_NOTE_LATCH t := by
  obtain ⟨l, a, x, -, is⟩ := s.latch_eq c time part cleared
  have key := emuSeq_key c
  have seq := s.latchShown_seq c time part cleared
  obtain ⟨imp, exp⟩ := s.latchShown_totals c time part cleared
  have fresh : bitAt ((s.latchShown c time part cleared).rd (FRESH 0x0D)) c = true := State.fresh_publish _ _ _ _ (by omega)
  dsimp only
  rw [is]
  generalize s.latchShown c time part cleared = u at seq imp exp fresh
  have through {f : Field} (note : f.key ≠ 0x1A0200) (pba : f.key ≠ 0x34000) :
      (((u.setBytes 0x0D a l).setCircuit c x).notice EMU_NOTE_LATCH).rd f = u.rd f := by
    have stored : ((u.setBytes 0x0D a l).setCircuit c x).rd f = u.rd f := State.rd_congr rfl f
    rw [State.rd_notice_ne _ EMU_NOTE_LATCH note pba, stored]
  exact ⟨by rw [through (by omega) (by omega), seq], by rw [through (by decide) (by decide), fresh],
    by rw [through (by simp only [Field.key]; omega) (by simp only [Field.key]; omega), imp],
    by rw [through (by simp only [Field.key]; omega) (by simp only [Field.key]; omega), exp], State.noted_notice _ EMU_NOTE_LATCH (by decide)⟩

/-! ### Crossings -/

section

variable {P : Nat → Prop} (s : State)

theorem State.lt_of_circuitsOn {s : State} {k c : Nat} (h : c ∈ s.circuitsOn k) : c < 12 := List.mem_range.mp (List.mem_filter.mp h).1

theorem State.countCrossing_keeps (k : Nat) (fresh : Bool) : MeterKeeps P s (s.countCrossing k fresh) :=
  .foldl _ (fun u c _ => u.setCircuit_keeps (x := { u.circuit c with
    cycles := (u.circuit c).cycles + 1, count := if fresh then 0 else (u.circuit c).count + 1 }) fun _ => rfl) s

theorem State.zcBack_keeps (k : Nat) : MeterKeeps P s (s.zcBack k) := by
  have latched : MeterKeeps P s ((s.circuitsOn k).foldl (fun s c => s.latch c true false false) s) :=
    .foldl _ (fun u c mem => u.latch_keeps (State.lt_of_circuitsOn mem) true false false) s
  rw [State.zcBack]
  generalize (s.circuitsOn k).foldl (fun s c => s.latch c true false false) s = u at latched
  exact ((latched.trans (u.setDetector_keeps k _)).trans (State.wr_meterKeeps _ (f := EMU_STATUS_ZC_LOST) _ (by decide))).trans
    (State.notice_meterKeeps _ EMU_NOTE_ZC_BACK rfl)

theorem State.latchFull_keeps (k : Nat) : MeterKeeps P s (s.latchFull k) := by
  refine .foldl _ (fun u c mem => ?_) s
  split
  · exact u.latch_keeps (State.lt_of_circuitsOn mem) false false false
  · exact .refl u

theorem State.crossing_keeps (k : Nat) (fresh : Bool) : MeterKeeps P s (s.crossing k fresh) := by
  rw [State.crossing]
  generalize (if fresh then 0 else (s.detector k).row + 1) = row
  have counted := (s.setDetector_keeps (P := P) k { s.detector k with row := row }).trans (State.countCrossing_keeps _ k fresh)
  generalize (s.setDetector k { s.detector k with row := row }).countCrossing k fresh = u at counted
  split
  · split
    · exact counted.trans (u.zcBack_keeps k)
    · exact counted
  · exact counted.trans (u.latchFull_keeps k)

theorem State.detect_keeps (k : Nat) (x at_ : Int) : MeterKeeps P s (s.detect k x at_) := by
  rw [State.detect]
  split
  · exact s.setDetector_keeps k _
  · split
    · split
      · exact (s.setDetector_keeps k _).trans (State.crossing_keeps _ k true)
      · dsimp only
        split
        · exact (s.setDetector_keeps k _).trans (State.wr_meterKeeps _ (f := EMU_ZC_NOISE) _ (by decide))
        · exact (s.setDetector_keeps k _).trans (State.crossing_keeps _ k _)
    · exact s.setDetector_keeps k _

end

/-! ### Accumulation -/

theorem MeterKeeps.vch {P : Nat → Prop} {s t : State} (h : MeterKeeps P s t) (c : Nat) : t.vch c = s.vch c :=
  h.rd_sets (by simp only [Field.sets, Field.key]; omega)

theorem MeterKeeps.ich {P : Nat → Prop} {s t : State} (h : MeterKeeps P s t) (c : Nat) : t.ich c = s.ich c :=
  h.rd_sets (by simp only [Field.sets, Field.key]; omega)

theorem MeterKeeps.rdB_sets {P : Nat → Prop} {s t : State} (h : MeterKeeps P s t) {f : Field} (sets : f.sets) : t.rdB f = s.rdB f := by
  rw [State.rdB, State.rdB, h.rd_sets sets]

theorem MeterKeeps.fs {P : Nat → Prop} {s t : State} (h : MeterKeeps P s t) (k : Nat) : t.rd (EMU_CH_FS k) = s.rd (EMU_CH_FS k) :=
  h.rd_sets (by simp only [Field.sets, Field.key]; omega)

/-- Whether a circuit accumulates depends on the configuration alone. -/
theorem State.circuitRuns_congr {s t : State} (h : ∀ f : Field, f.sets → t.rd f = s.rd f) (c : Nat) : t.circuitRuns c = s.circuitRuns c := by
  have good (k : Nat) : t.channelGood k = s.channelGood k := by
    rw [State.channelGood, State.channelGood, State.rdB, State.rdB, h _ (by simp only [Field.sets, Field.key]; omega),
      h (EMU_CH_FS k) (by simp only [Field.sets, Field.key]; omega)]
  have vch : t.vch c = s.vch c := h _ (by simp only [Field.sets, Field.key]; omega)
  have ich : t.ich c = s.ich c := h _ (by simp only [Field.sets, Field.key]; omega)
  have on : t.rdB EMU_CTRL_EN = s.rdB EMU_CTRL_EN := by rw [State.rdB, State.rdB, h _ (by decide)]
  have used : t.rdB (EMU_CIRC_CFG_EN c) = s.rdB (EMU_CIRC_CFG_EN c) := by
    rw [State.rdB, State.rdB, h _ (by simp only [Field.sets, Field.key]; omega)]
  rw [State.circuitRuns, State.circuitRuns, vch, ich, good, good, on, used]

theorem MeterKeeps.circuitRuns {P : Nat → Prop} {s t : State} (h : MeterKeeps P s t) (c : Nat) : t.circuitRuns c = s.circuitRuns c :=
  State.circuitRuns_congr (fun _ => h.rd_sets) c

theorem MeterKeeps.circuitFault {P : Nat → Prop} {s t : State} (h : MeterKeeps P s t) (c : Nat) : t.circuitFault c = s.circuitFault c := by
  rw [State.circuitFault, State.circuitFault, h.vch, h.ich, h.rd_sets (f := EMU_FAULT) (by decide)]

/-- The total that a running circuit takes a sample to (R352). -/
def State.totalAfter (s : State) (filt : List Int) (c : Nat) : EmuTotals :=
  let v := filt.getD (s.vch c) 0
  let i := (if s.rd (EMU_CIRC_CFG_SIGN c) = 1 then -1 else 1) * filt.getD (s.ich c) 0
  let e := (v * i).natAbs * s.rd (EMU_CH_FS (s.vch c)) * s.rd (EMU_CH_FS (s.ich c)) / (64 * 28800000)
  (s.circuit c).now.add (v * i) e

theorem MeterKeeps.totalAfter {P : Nat → Prop} {s t : State} (h : MeterKeeps P s t) (filt : List Int) {c : Nat} (lt : c < 12) (hc : P c) :
    t.totalAfter filt c = s.totalAfter filt c := by
  simp only [State.totalAfter]
  rw [h.vch, h.ich, h.fs, h.fs, h.now c lt hc, h.rd_sets (f := EMU_CIRC_CFG_SIGN c) (by simp only [Field.sets, Field.key]; omega)]

/-- A running circuit with its sample taken. -/
def State.sampled (s : State) (x : EmuCircuit) (wrapped : Bool) (c : Nat) : State :=
  (if s.circuitFault c then (s.setCircuit c x).disturb c else s.setCircuit c x).noticeIf wrapped EMU_NOTE_WRAP

theorem State.sampled_keeps {P : Nat → Prop} (s : State) {x : EmuCircuit} {c : Nat} (h : P c → x.now = (s.circuit c).now) (wrapped : Bool) :
    MeterKeeps P s (s.sampled x wrapped c) := by
  have put := s.setCircuit_keeps (P := P) h
  rw [State.sampled]
  split
  · exact (put.trans (State.disturb_keeps _ c)).trans (State.noticeIf_meterKeeps _ wrapped EMU_NOTE_WRAP rfl)
  · exact put.trans (State.noticeIf_meterKeeps _ wrapped EMU_NOTE_WRAP rfl)

theorem State.accumulate_runs {s : State} {c : Nat} (runs : s.circuitRuns c = true) (filt : List Int) (clip : Nat → Bool) : ∃ x wrapped,
    x.now = (if s.circuitFault c then (s.circuit c).now else s.totalAfter filt c) ∧
      (s.accumulate filt clip c = s.sampled x wrapped c ∨ s.accumulate filt clip c = (s.sampled x wrapped c).latch c true false false) := by
  have is : ∃ x wrapped, x.now = (if s.circuitFault c then (s.circuit c).now else s.totalAfter filt c) ∧
      s.accumulate filt clip c = if (s.sampled x wrapped c).timeMode ((s.sampled x wrapped c).vch c) &&
        Decidable.decide ((s.sampled x wrapped c).timeLimit c ≤ ((s.sampled x wrapped c).circuit c).samples)
        then (s.sampled x wrapped c).latch c true false false else s.sampled x wrapped c := by
    have sign : (s.rdB (EMU_CIRC_CFG_SIGN c) = true) = (s.rd (EMU_CIRC_CFG_SIGN c) = 1) := by rw [State.rdB, beq_iff_eq]
    refine ⟨_, _, ?_, by rw [State.accumulate, runs]; rfl⟩
    simp only [sign]
    rfl
  obtain ⟨x, wrapped, now, is⟩ := is
  refine ⟨x, wrapped, now, ?_⟩
  rw [is]
  split
  · exact .inr rfl
  · exact .inl rfl

theorem State.accumulate_keeps (s : State) (filt : List Int) (clip : Nat → Bool) {c : Nat} (lt : c < 12) :
    MeterKeeps (· ≠ c) s (s.accumulate filt clip c) := by
  by_cases runs : s.circuitRuns c = true
  · obtain ⟨x, wrapped, -, is | is⟩ := State.accumulate_runs runs filt clip
    · rw [is]
      exact s.sampled_keeps (fun ne => absurd rfl ne) wrapped
    · rw [is]
      exact (s.sampled_keeps (fun ne => absurd rfl ne) wrapped).trans (State.latch_keeps _ lt true false false)
  · rw [State.accumulate, Bool.eq_false_iff.mpr runs]
    exact s.disturb_keeps c

theorem State.accumulate_now {s : State} {c : Nat} (lt : c < 12) (runs : s.circuitRuns c = true) (sound : s.circuitFault c = false) (filt : List Int)
    (clip : Nat → Bool) : ((s.accumulate filt clip c).circuit c).now = s.totalAfter filt c := by
  obtain ⟨x, wrapped, now, is⟩ := State.accumulate_runs runs filt clip
  have put : ((s.sampled x wrapped c).circuit c).now = s.totalAfter filt c := by
    have kept := State.noticeIf_meterKeeps (P := fun _ => True) (s.setCircuit c x) wrapped EMU_NOTE_WRAP rfl
    rw [State.sampled, sound, if_neg Bool.false_ne_true, kept.now c lt trivial, s.circuit_setCircuit x lt, if_pos rfl, now, sound, if_neg Bool.false_ne_true]
  rcases is with is | is
  · rw [is, put]
  · rw [is, (State.latch_keeps (P := fun _ => True) _ lt true false false).now c lt trivial, put]

/-- Every circuit of a list takes its sample. -/
def State.accumulateAll (s : State) (filt : List Int) (clip : Nat → Bool) (l : List Nat) : State := l.foldl (fun s c => s.accumulate filt clip c) s

theorem State.accumulateAll_keeps (s : State) (filt : List Int) (clip : Nat → Bool) {l : List Nat} (lt : ∀ c ∈ l, c < 12) :
    MeterKeeps (· ∉ l) s (s.accumulateAll filt clip l) :=
  .foldl l (fun u c mem => (u.accumulate_keeps filt clip (lt c mem)).mono fun _ out e => out (e ▸ mem)) s

theorem State.accumulateAll_now {s : State} {n : Nat} (runs : s.circuitRuns n = true) (sound : s.circuitFault n = false) (filt : List Int)
    (clip : Nat → Bool) {l : List Nat} (lt : ∀ c ∈ l, c < 12) (nodup : l.Nodup) (mem : n ∈ l) :
    ((s.accumulateAll filt clip l).circuit n).now = s.totalAfter filt n := by
  have hn := lt n mem
  obtain ⟨a, b, rfl⟩ := List.append_of_mem mem
  obtain ⟨-, nodupB, apart⟩ := List.nodup_append.mp nodup
  have before := s.accumulateAll_keeps filt clip (l := a) fun c hc => lt c (List.mem_append_left _ hc)
  have outA : n ∉ a := fun h => apart n h n List.mem_cons_self rfl
  have outB : n ∉ b := (List.nodup_cons.mp nodupB).1
  have is : s.accumulateAll filt clip (a ++ n :: b) = ((s.accumulateAll filt clip a).accumulate filt clip n).accumulateAll filt clip b := by
    rw [State.accumulateAll, List.foldl_append]
    rfl
  rw [is, (State.accumulateAll_keeps _ filt clip fun c hc => lt c (List.mem_append_right _ (List.mem_cons_of_mem _ hc))).now n hn outB,
    State.accumulate_now hn (by rw [before.circuitRuns, runs]) (by rw [before.circuitFault, sound]), before.totalAfter filt hn outA]

/-! ### A sample -/

/-- Whether a channel in use stands at the end of its range. -/
def State.atTop (s : State) (k : Nat) : Bool := (s.channel k).code.natAbs == 2 ^ 23 - 1 && s.rdB (EMU_CH_CFG_EN k)

/-- The channel's clips and crossings of a sample, before the circuits take it. -/
theorem State.emuSample_eq {s : State} (on : s.rd EMU_CTRL_EN = 1) (bits : List Nat) : ∃ u active, ∃ top : Nat → Bool,
    MeterKeeps (fun _ => True) (s.takeBits bits) u ∧ s.emuSample bits =
      (if (u.emuStamp (s.moduleTime - inputLag)).emu.held then u.emuStamp (s.moduleTime - inputLag)
        else (u.emuStamp (s.moduleTime - inputLag)).accumulateAll (s.takeBits bits).samples top (List.range 12)).wr EMU_STATUS_ACTIVE active := by
  have clips (u : State) (top : Nat → Bool) : MeterKeeps (fun _ => True) u ((List.range 16).foldl (fun s k =>
      if top k then (s.count (EMU_OVR k) 1).notice EMU_NOTE_OVERRANGE else s) u) := by
    refine .foldl _ (fun u k mem => ?_) u
    split
    · exact (State.wr_meterKeeps _ (f := EMU_OVR k) _ (List.mem_append_left _ (List.mem_append_right _ (List.mem_map_of_mem mem)))).trans
        (State.notice_meterKeeps _ EMU_NOTE_OVERRANGE rfl)
    · exact .refl u
  have zeros (u : State) (filt : List Int) (at_ : Int) : MeterKeeps (fun _ => True) u ((List.range 4).foldl (fun s k =>
      if s.rdB (EMU_CH_CFG_EN k) then s.detect k (filt.getD k 0) at_ else s) u) := by
    refine .foldl _ (fun u k _ => ?_) u
    split
    · exact u.detect_keeps k _ _
    · exact .refl u
  have time : (s.takeBits bits).moduleTime = s.moduleTime := rfl
  rw [State.emuSample, State.rdB_of on]
  simp only [Bool.not_true, Bool.false_eq_true, if_false, time]
  generalize s.takeBits bits = u
  have kept := (clips u u.atTop).trans (zeros _ u.samples (s.moduleTime - inputLag))
  exact ⟨_, _, u.atTop, kept, rfl⟩

theorem mem_meterFields_active : EMU_STATUS_ACTIVE ∈ meterFields := List.mem_append_right _ (by decide)

/-- R348, R352: what a sample leaves of a running circuit, and of EMUR. -/
theorem State.emuSample_spec {s : State} (on : s.rd EMU_CTRL_EN = 1) (bits : List Nat) : let t := s.emuSample bits
    (∃ d, t.emur = { s.emur with disturbed := d }) ∧ OnlyFields meterFields s t ∧ t.emu.last = s.moduleTime - inputLag ∧
      ∀ n, n < 12 → s.circuitRuns n = true → s.circuitFault n = false → s.emu.held = false →
        (t.circuit n).now = s.totalAfter (s.takeBits bits).samples n := by
  obtain ⟨u, active, top, kept, is⟩ := State.emuSample_eq on bits
  have taken : ∀ n, n < 12 → (u.emuStamp (s.moduleTime - inputLag)).totalAfter (s.takeBits bits).samples n = s.totalAfter (s.takeBits bits).samples n :=
    fun n hn => kept.totalAfter _ hn trivial
  have circuits := (u.emuStamp (s.moduleTime - inputLag)).accumulateAll_keeps (s.takeBits bits).samples top (l := List.range 12)
    fun c hc => List.mem_range.mp hc
  have runs : ∀ n, (u.emuStamp (s.moduleTime - inputLag)).circuitRuns n = s.circuitRuns n := kept.circuitRuns
  have fault : ∀ n, (u.emuStamp (s.moduleTime - inputLag)).circuitFault n = s.circuitFault n := kept.circuitFault
  have held : (u.emuStamp (s.moduleTime - inputLag)).emu.held = s.emu.held := kept.held
  have emur : ∃ d, (u.emuStamp (s.moduleTime - inputLag)).emur = { s.emur with disturbed := d } := kept.emur
  have only : OnlyFields meterFields s (u.emuStamp (s.moduleTime - inputLag)) := kept.only
  have last : (u.emuStamp (s.moduleTime - inputLag)).emu.last = s.moduleTime - inputLag := rfl
  dsimp only
  rw [is]
  generalize u.emuStamp (s.moduleTime - inputLag) = v at *
  split
  · next stopped => exact ⟨emur, only.wr (f := EMU_STATUS_ACTIVE) active mem_meterFields_active, last, fun n _ _ _ h => by rw [← held, stopped] at h; cases h⟩
  · have now : ∀ n, n < 12 → s.circuitRuns n = true → s.circuitFault n = false →
        ((v.accumulateAll (s.takeBits bits).samples top (List.range 12)).circuit n).now = s.totalAfter (s.takeBits bits).samples n :=
      fun n hn run sound => (State.accumulateAll_now (by rw [runs, run]) (by rw [fault, sound]) _ top (fun c hc => List.mem_range.mp hc)
        List.nodup_range (List.mem_range.mpr hn)).trans (taken n hn)
    generalize v.accumulateAll (s.takeBits bits).samples top (List.range 12) = w at circuits now
    obtain ⟨d, hd⟩ := emur
    obtain ⟨e, he⟩ := circuits.emur
    exact ⟨⟨e, by rw [State.wr_emur, he, hd]⟩, (only.trans circuits.only).wr (f := EMU_STATUS_ACTIVE) active mem_meterFields_active,
      circuits.last.trans last, fun n hn run sound _ => now n hn run sound⟩

/-! ### The snapshot of a boundary -/

/-- What the boundary of the nodes keeps: it writes to the node table and to the open windows, whose number stands. -/
structure SnapKeeps (s t : State) : Prop where
  is : ∃ w o, t = { s with win := w, emur := { s.emur with open_ := o } } ∧ o.length = s.emur.open_.length
  bytes : OnlyBytes (fun _ => True) s t

theorem SnapKeeps.refl (s : State) : SnapKeeps s s := ⟨⟨_, _, rfl, rfl⟩, .of_win rfl⟩

theorem SnapKeeps.trans {s t u : State} (h : SnapKeeps s t) (k : SnapKeeps t u) : SnapKeeps s u := by
  obtain ⟨w, o, rfl, len⟩ := h.is
  obtain ⟨w', o', rfl, len'⟩ := k.is
  exact ⟨⟨w', o', rfl, len'.trans len⟩, h.bytes.trans k.bytes⟩

theorem SnapKeeps.foldl {f : State → Nat → State} (l : List Nat) (step : ∀ u, ∀ x ∈ l, SnapKeeps u (f u x)) (s : State) :
    SnapKeeps s (l.foldl f s) := by
  induction l generalizing s with
  | nil => exact refl s
  | cons x l ih => exact (step s x List.mem_cons_self).trans (ih (fun u y hy => step u y (List.mem_cons_of_mem _ hy)) _)

theorem State.setEnt_snapKeeps (s : State) {i o n : Nat} (v : Nat) (hi : i < 8192) (fits : o + n ≤ 256) : SnapKeeps s (s.setEnt i o n v) :=
  ⟨⟨_, _, rfl, rfl⟩, State.setEnt_bytes (.of_win rfl) v hi fits fun _ _ _ => trivial⟩

theorem State.contribute_snapKeeps (s : State) (i circuit : Nat) (num : Int) (e : Nat) (est : Bool) : SnapKeeps s (s.contribute i circuit num e est) :=
  ⟨⟨_, _, rfl, List.length_map _⟩, .of_win rfl⟩

theorem State.openNode_snapKeeps (s : State) {i : Nat} (hi : i < 8192) (e : Nat) : SnapKeeps s (s.openNode i e) :=
  ((s.setEnt_snapKeeps e hi (by decide)).trans (State.setEnt_snapKeeps _ _ hi (by decide))).trans (State.setEnt_snapKeeps _ _ hi (by decide))

/-- The windows whose boundary has come take what estimated nodes contribute. -/
def State.estimatesTaken (s : State) (j : Int) : State :=
  (s.usedEntries.filter s.estimated).foldl (fun s i =>
    (if bitAt (s.eFlags i) 1 then s.contribute i (s.ent i 0xDB 1) (j - 1) (codeOf 64 ((s.ent i 0xC0 8 : Int) - s.ent i 0xD0 8)) true
      else s).openNode i (s.ent i 0xC0 8)) s

theorem State.estimatesTaken_keeps (s : State) (j : Int) : SnapKeeps s (s.estimatesTaken j) := by
  refine .foldl _ (fun u i mem => ?_) s
  have lt := State.usedEntries_lt (List.mem_filter.mp mem).1
  split
  · exact (u.contribute_snapKeeps ..).trans (State.openNode_snapKeeps _ lt _)
  · exact u.openNode_snapKeeps lt _

theorem State.takeSnapshot_eq (s : State) (j : Int) : s.takeSnapshot j = ((s.endWindows j).estimatesTaken j).openWindow := rfl

theorem State.endWindows_parts (s : State) (j : Int) : ∃ o sn, s.endWindows j = { s with emur := { s.emur with open_ := o, snapshot := sn } } ∧
    o.length = s.emur.open_.length + (if s.emur.snapshot.isSome then (groupsInForce s.emur.records).length else 0) := by
  rw [State.endWindows]
  split
  · next before tick h => exact ⟨_, _, rfl, by rw [h, List.length_append, List.length_map]; rfl⟩
  · next h => exact ⟨_, _, rfl, by rw [h]; rfl⟩

theorem State.emurRecords_of_bytes {s t : State} {P : Nat → Prop} (h : OnlyBytes P s t) : t.emurRecords = s.emurRecords := by
  refine List.map_congr_left fun g mem => ?_
  have lt : g < 12 := List.mem_range.mp mem
  have byte : ∀ o, o < 16 → t.w8 0x0E (32 * g + o) = s.w8 0x0E (32 * g + o) := fun o ho => h _ _ (by decide) (by omega) (by omega)
  have half : ∀ o, o < 15 → t.w16 0x0E (32 * g + o) = s.w16 0x0E (32 * g + o) := fun o ho => State.wN_eq fun k hk => by
    rw [Nat.add_assoc]
    exact byte _ (by omega)
  have word : ∀ o, o < 13 → t.w32 0x0E (32 * g + o) = s.w32 0x0E (32 * g + o) := fun o ho => State.wN_eq fun k hk => by
    rw [Nat.add_assoc]
    exact byte _ (by omega)
  simp (disch := decide) only [State.emurRecord, half, word, byte]

/-- R363: what the snapshot of a boundary leaves for the window that opens. -/
theorem State.takeSnapshot_spec (s : State) (j : Int) : ∃ w e, s.takeSnapshot j = { s with win := w, emur := e } ∧
    e.snapshot = some (s.totals, s.epoch) ∧ e.gap = s.emu.held ∧ e.records = s.emurRecords ∧
    e.disturbed = ((List.range 12).map fun k => !s.circuitRuns k) ∧ e.runs = s.emur.runs ∧ e.due = s.emur.due ∧
    e.opened = s.boundaryNo s.moduleTime ∧
    e.open_.length = s.emur.open_.length + (if s.emur.snapshot.isSome then (groupsInForce s.emur.records).length else 0) := by
  obtain ⟨o, sn, ended, length⟩ := s.endWindows_parts j
  have kept := (s.endWindows j).estimatesTaken_keeps j
  have records : ((s.endWindows j).estimatesTaken j).emurRecords = s.emurRecords :=
    (State.emurRecords_of_bytes kept.bytes).trans (by rw [ended]; rfl)
  obtain ⟨w, o', is, length'⟩ := kept.is
  rw [State.takeSnapshot_eq]
  rw [is, ended] at records ⊢
  rw [ended] at length'
  exact ⟨_, _, rfl, rfl, rfl, records, rfl, rfl, rfl, rfl, length'.trans length⟩

theorem State.snapshotDue_none {s : State} (h : s.emur.due = none) : s.snapshotDue = s := by rw [State.snapshotDue, h]

theorem State.snapshotDue_parts (s : State) : ∃ w e, s.snapshotDue = { s with win := w, emur := e } := by
  rw [State.snapshotDue]
  split
  · dsimp only
    split
    · obtain ⟨w, e, is, -⟩ := ({ s with emur := { s.emur with due := none } } : State).takeSnapshot_spec _
      exact ⟨w, e, is⟩
    · exact ⟨_, _, rfl⟩
  · exact ⟨_, _, rfl⟩

/-! ### The commands -/

theorem State.emuSample_live {s : State} {c : Nat} {bits : List Nat} {P : State → Prop} (live : s.live 0x0D = true)
    (post : P ((s.reach c).emuSample bits).snapshotDue) : Completes (.emuSample c bits) s P :=
  State.whenLive_completes rfl live post

theorem State.emuSample_disabled {s : State} {c : Nat} (bits : List Nat) (live : s.live 0x0D = true) (off : s.rd EMU_CTRL_EN = 0)
    (none_ : s.emur.due = none) : Completes (.emuSample c bits) s fun t => t = s.reach c := by
  have stands : (s.reach c).emuSample bits = s.reach c := by
    rw [State.emuSample, State.rdB_of_zero (by rw [State.rd_reach, off])]
    rfl
  refine State.emuSample_live live ?_
  rw [stands]
  exact State.snapshotDue_none (by rw [s.reach_self c]; exact none_)

/-- R348, R352: the sample of a running circuit. -/
theorem State.emuSample_adds {s : State} {c n : Nat} (bits : List Nat) (live : s.live 0x0D = true) (on : s.rd EMU_CTRL_EN = 1) (lt : n < 12)
    (runs : s.circuitRuns n = true) (sound : s.circuitFault n = false) (held : s.emu.held = false) :
    Completes (.emuSample c bits) s fun t =>
      (t.circuit n).now = s.totalAfter (s.takeBits bits).samples n ∧ t.emu.last = (s.reach c).moduleTime - inputLag := by
  obtain ⟨-, -, last, now⟩ := State.emuSample_spec (s := s.reach c) (by rw [State.rd_reach, on]) bits
  obtain ⟨w, e, is⟩ := ((s.reach c).emuSample bits).snapshotDue_parts
  refine State.emuSample_live live ⟨?_, by rw [is]; exact last⟩
  rw [is]
  refine (now n lt ?_ ?_ ?_).trans ?_ <;> rw [s.reach_self c]
  · exact runs
  · exact sound
  · exact held
  · rfl

/-- A bit of the page that rises with its notice and its record. -/
theorem State.rise_spec (s : State) (f : Field) (k : Nat) (n : Notice) (code : Nat) (page : n.page = 0x0D) (bit : n.bit < 32) (hk : k < f.width)
    (note : f.key ≠ (NOTE_RAW 0x0D).key) (pba : f.key ≠ MSIX_PBA.key) (lost : f.key ≠ SLT_LOST.key) (slt : f.key ≠ (NOTE_RAW 0x1E).key)
    (osf : RTC_STATUS_OSF.key ≠ f.key) : let t := ((s.wr f (setBit (s.rd f) k)).notice n).silt code k
    t.rd f = setBit (s.rd f) k ∧ Raises n s t ∧ Records code k 0 0 0 s t ∧ t.emu = s.emu ∧
      OnlyFields [f, NOTE_RAW 0x0D, MSIX_PBA, SLT_LOST, NOTE_RAW 0x1E] s t := by
  have raised := State.raises_notice (s.wr f (setBit (s.rd f) k)) n bit
  have records := State.silt_records ((s.wr f (setBit (s.rd f) k)).notice n) code k 0 0 0
  have clock : ((s.wr f (setBit (s.rd f) k)).notice n).rd RTC_STATUS_OSF = s.rd RTC_STATUS_OSF := by
    rw [State.rd_notice_ne _ n (by rw [page]; decide) (by decide), State.rd_wr_ne _ _ osf]
  dsimp only
  refine ⟨?_, ?_, records.of_before ?_ ?_ ?_ clock ?_, ?_, ?_⟩
  · rw [State.rd_silt_ne _ _ _ _ _ _ lost slt pba, State.rd_notice_ne _ n (by rw [page]; exact note) pba, State.rd_wr_of_lt]
    exact setBit_lt (State.rd_lt s f) hk
  · rw [Raises, State.rd_silt_ne _ _ _ _ _ _ (by rw [page]; decide) (by rw [page]; decide) (by rw [page]; decide)]
    rw [Raises] at raised
    rw [raised, State.rd_wr_ne _ _ (by rw [page]; exact note.symm)]
  · rw [State.notice_siltIntake]; rfl
  · rw [State.notice_cal]; rfl
  · rw [State.notice_domains]; rfl
  · rw [State.notice_startup]; rfl
  · obtain ⟨r, e, i, is⟩ := ((s.wr f (setBit (s.rd f) k)).notice n).silt_eq code k 0 0 0
    rw [is]
    exact State.notice_emu _ _
  · exact (((OnlyFields.refl _ s).wr _ List.mem_cons_self).notice n (by rw [page]; simp) (by simp)).silt code k 0 0 0 (by simp) (by simp) (by simp)

theorem State.channelFault_spec {s : State} {k : Nat} (live : s.live 0x0D = true) (lt : k < 16) : Completes (.emuChannelFault k) s fun t =>
    if bitAt (s.rd EMU_FAULT) k = true ∨ s.channelOn k = false then t = s
    else t.rd EMU_FAULT = setBit (s.rd EMU_FAULT) k ∧ Raises EMU_NOTE_CH_FAULT s t ∧ Records 0x0D01 k 0 0 0 s t ∧ t.emu = s.emu := by
  refine State.whenLive_completes rfl live ?_
  rw [State.channelFault]
  split
  · next h => rw [if_pos (by simpa using h)]
  · next h =>
    rw [if_neg (by simpa using h)]
    obtain ⟨fault, raised, records, emu, -⟩ := s.rise_spec EMU_FAULT k EMU_NOTE_CH_FAULT 0x0D01 rfl (by decide) lt (by decide) (by decide) (by decide)
      (by decide) (by decide)
    exact ⟨fault, raised, records, emu⟩

theorem State.channelFaultEnd_spec {s : State} {k : Nat} (live : s.live 0x0D = true) : Completes (.emuChannelFaultEnd k) s fun t =>
    t.rd EMU_FAULT = clrBit (s.rd EMU_FAULT) k ∧ OnlyFields [EMU_FAULT] s t :=
  State.whenLive_completes rfl live ⟨State.rd_wr_of_lt _ (clrBit_lt (State.rd_lt s EMU_FAULT)), (OnlyFields.refl _ s).wr _ List.mem_cons_self⟩

/-- A voltage channel in time mode, before its circuits latch. -/
def State.timed (s : State) (k : Nat) : State :=
  let u := (((s.wr EMU_STATUS_ZC_LOST (setBit (s.rd EMU_STATUS_ZC_LOST) k)).notice EMU_NOTE_ZC_LOST).silt 0x0D02 k).count EMU_ZC_LOSSES 1
  u.setDetector k { u.detector k with row := 0 }

/-- The circuits of a voltage channel that latch as it enters time mode. -/
def State.timedLatches (s : State) (k : Nat) : State :=
  (s.circuitsOn k).foldl (fun s c => if s.timeLimit c ≤ (s.circuit c).samples then s.latch c true false false else s) s

theorem State.latch_outside (s : State) (c : Nat) (time part cleared : Bool) : (s.latch c time part cleared).siltIntake = s.siltIntake ∧
    (s.latch c time part cleared).emu.detectors = s.emu.detectors := by
  obtain ⟨x, -, emu⟩ := s.latch_emu c time part cleared
  obtain ⟨l, a, y, -, is⟩ := s.latch_eq c time part cleared
  obtain ⟨m, shown⟩ := s.latchShown_parts c time part cleared
  exact ⟨by rw [is, State.notice_siltIntake, shown]; rfl, by rw [emu]; rfl⟩

theorem State.latch_noted {n : Notice} {s : State} (page : n.page = 0x0D) (h : Noted n s) (c : Nat) (time part cleared : Bool) :
    Noted n (s.latch c time part cleared) := by
  obtain ⟨l, a, x, -, is⟩ := s.latch_eq c time part cleared
  have key := emuSeq_key c
  have note : (s.latchShown c time part cleared).rd (NOTE_RAW 0x0D) = s.rd (NOTE_RAW 0x0D) := by
    rw [State.latchShown, State.rd_publish_ne _ _ _ _ (by decide) (by simp only [Field.key] at key ⊢; omega)]
    simp (disch := (simp only [Field.key]; omega)) only [State.wrAll_cons, State.wrAll_nil, State.rd_wr_ne]
  rw [is]
  generalize s.latchShown c time part cleared = u at note
  have kept : Noted n ((u.setBytes 0x0D a l).setCircuit c x) := Noted.congr h (by rw [page]; exact (State.rd_congr rfl _).trans note)
  exact Noted.notice kept EMU_NOTE_LATCH page.symm (by decide)

theorem State.timedLatches_spec (s : State) (k : Nat) : let t := s.timedLatches k
    t.siltIntake = s.siltIntake ∧ t.emu.detectors = s.emu.detectors ∧ OnlyFields latchedFields s t ∧ (Noted EMU_NOTE_ZC_LOST s → Noted EMU_NOTE_ZC_LOST t) := by
  have step : ∀ l : List Nat, (∀ c ∈ l, c < 12) → ∀ u : State,
      let t := l.foldl (fun s c => if s.timeLimit c ≤ (s.circuit c).samples then s.latch c true false false else s) u
      t.siltIntake = u.siltIntake ∧ t.emu.detectors = u.emu.detectors ∧ OnlyFields latchedFields u t ∧
        (Noted EMU_NOTE_ZC_LOST u → Noted EMU_NOTE_ZC_LOST t) := by
    intro l
    induction l with
    | nil => exact fun _ u => ⟨rfl, rfl, .refl _ u, id⟩
    | cons c l ih =>
      intro lt u
      have rest := ih fun x hx => lt x (List.mem_cons_of_mem _ hx)
      rw [List.foldl_cons]
      split
      · obtain ⟨intake, det, only, noted⟩ := rest (u.latch c true false false)
        obtain ⟨intake', det'⟩ := u.latch_outside c true false false
        exact ⟨intake.trans intake', det.trans det', (u.latch_only (lt c List.mem_cons_self) true false false).trans only,
          fun h => noted (State.latch_noted rfl h c true false false)⟩
      · exact rest u
  exact step _ (fun c => State.lt_of_circuitsOn) s

theorem State.timed_spec (s : State) {k : Nat} (lt : k < 4) : let t := s.timed k
    t.rd EMU_STATUS_ZC_LOST = setBit (s.rd EMU_STATUS_ZC_LOST) k ∧ Noted EMU_NOTE_ZC_LOST t ∧ Records 0x0D02 k 0 0 0 s t ∧
      t.rd EMU_ZC_LOSSES = (s.rd EMU_ZC_LOSSES + 1) % 2 ^ 32 ∧ (t.detector k).row = 0 := by
  obtain ⟨lost, raised, records, -, only⟩ := s.rise_spec EMU_STATUS_ZC_LOST k EMU_NOTE_ZC_LOST 0x0D02 rfl (by decide) lt (by decide) (by decide)
    (by decide) (by decide) (by decide)
  have losses := only EMU_ZC_LOSSES (by decide)
  dsimp only
  rw [State.timed]
  generalize ((s.wr EMU_STATUS_ZC_LOST (setBit (s.rd EMU_STATUS_ZC_LOST) k)).notice EMU_NOTE_ZC_LOST).silt 0x0D02 k = u at lost raised records losses
  dsimp only
  have timed (x : EmuDetector) {f : Field} (ne : f.key ≠ EMU_ZC_LOSSES.key) : ((u.count EMU_ZC_LOSSES 1).setDetector k x).rd f = u.rd f :=
    (State.rd_congr rfl f).trans (State.rd_count_ne u 1 ne)
  refine ⟨(timed _ (by decide)).trans lost, ?_, records.congr rfl, ?_, ?_⟩
  · rw [Noted, timed _ (by decide), raised]
    exact bitAt_setBit _ _
  · rw [← losses]
    exact (State.rd_congr rfl _).trans (State.rd_count_self u EMU_ZC_LOSSES 1)
  · refine (congrArg EmuDetector.row (getD_putAt (n := 4) _ _ _ _ _ lt)).trans ?_
    rw [if_pos rfl]

theorem apart_latched : (∀ g ∈ latchedFields, EMU_STATUS_ZC_LOST.key ≠ g.key) ∧ ∀ g ∈ latchedFields, EMU_ZC_LOSSES.key ≠ g.key := by decide +kernel

theorem State.zcTimeout_spec {s : State} {k : Nat} (live : s.live 0x0D = true) (lt : k < 4) : Completes (.emuZcTimeout k) s fun t =>
    if bitAt (s.rd EMU_STATUS_ZC_LOST) k = true ∨ s.channelOn k = false ∨ s.zcLate k = false then t = s
    else t.rd EMU_STATUS_ZC_LOST = setBit (s.rd EMU_STATUS_ZC_LOST) k ∧ Noted EMU_NOTE_ZC_LOST t ∧ Records 0x0D02 k 0 0 0 s t ∧
      t.rd EMU_ZC_LOSSES = (s.rd EMU_ZC_LOSSES + 1) % 2 ^ 32 ∧ (t.detector k).row = 0 := by
  refine State.whenLive_completes rfl live ?_
  have is : s.zcTimeout k = if s.timeMode k || !s.channelOn k || !s.zcLate k then s else (s.timed k).timedLatches k := rfl
  rw [is]
  split
  · next h => rw [if_pos (by simpa [State.timeMode, or_assoc] using h)]
  · next h =>
    rw [if_neg (by simpa [State.timeMode, or_assoc] using h)]
    obtain ⟨lost, shown, records, losses, row⟩ := s.timed_spec lt
    obtain ⟨intake, det, latched, noted⟩ := (s.timed k).timedLatches_spec k
    generalize s.timed k = u at *
    generalize u.timedLatches k = t at *
    exact ⟨(latched _ apart_latched.1).trans lost, noted shown, records.congr intake, (latched _ apart_latched.2).trans losses,
      by rw [State.detector, det]; exact row⟩

/-- A circuit cleared, after a latch where it runs. -/
def State.clearTotals (s : State) (c : Nat) : State := (s.setCircuit c { s.circuit c with now := .zero }).disturb c

theorem State.clearTotals_spec (s : State) {n : Nat} (lt : n < 12) : let t := s.clearTotals n
    (t.circuit n).now = .zero ∧ (∀ j, j < 12 → j ≠ n → t.circuit j = s.circuit j) ∧ t.regs = s.regs := by
  have put (j : Nat) (hj : j < 12) : (s.clearTotals n).circuit j = if j = n then { s.circuit n with now := .zero } else s.circuit j :=
    s.circuit_setCircuit _ hj
  exact ⟨by rw [put n lt, if_pos rfl], fun j hj ne => by rw [put j hj, if_neg ne], rfl⟩

theorem State.emuClear_eq (s : State) {n : Nat} (lt : n < 12) :
    s.emuClear n = (if s.circuitRuns n then s.latch n (s.timeMode (s.vch n)) false true else s).clearTotals n := by
  rw [State.emuClear, if_neg (Nat.not_le.mpr lt)]
  rfl

/-- R361: CLEAR zeroes the circuit's totals, after a latch where it runs. -/
theorem State.emuClear_spec {s : State} (port : Port) {n : Nat} (work : s.atWork 0x0D = true) (lt : n < 12) : Completes (.emuClear port n) s fun t =>
    (t.circuit n).now = .zero ∧ (∀ j, j < 12 → j ≠ n → t.circuit j = s.circuit j) ∧
      (s.circuitRuns n = true →
        t.rd (emuSeq n) = (s.rd (emuSeq n) + 1) % 2 ^ 24 ∧ bitAt (t.rd (FRESH 0x0D)) n = true ∧
        t.rd (EMU_L_IMP_LO n) = (s.circuit n).now.imp % 2 ^ 32 ∧ t.rd (EMU_L_EXP_LO n) = (s.circuit n).now.exp % 2 ^ 32 ∧
        Noted EMU_NOTE_LATCH t) := by
  refine Completes.effect (u := s) rfl work ?_
  have kept {f : Field} (note : f.key ≠ 0x20200) (pba : f.key ≠ 0x34000) : (s.hostWrote port false EMU_CMD_CIRCUIT.addr).rd f = s.rd f :=
    State.rd_hostWrote_ne s port false _ note pba
  have circuit (j : Nat) : (s.hostWrote port false EMU_CMD_CIRCUIT.addr).circuit j = s.circuit j := by
    rw [State.circuit, State.hostWrote_emu]
    rfl
  have runs : (s.hostWrote port false EMU_CMD_CIRCUIT.addr).circuitRuns n = s.circuitRuns n :=
    State.circuitRuns_congr (fun f h => kept (by simp only [Field.sets] at h; omega) (by simp only [Field.sets] at h; omega)) n
  have seq : (s.hostWrote port false EMU_CMD_CIRCUIT.addr).rd (emuSeq n) = s.rd (emuSeq n) := by
    have key := emuSeq_key n
    exact kept (by omega) (by omega)
  generalize s.hostWrote port false EMU_CMD_CIRCUIT.addr = u at circuit runs seq
  rw [State.emuClear_eq _ lt, runs]
  split
  · obtain ⟨x, -, emu⟩ := u.latch_emu n (u.timeMode (u.vch n)) false true
    obtain ⟨count, fresh, imp, exp, noted⟩ := u.latch_shows lt (u.timeMode (u.vch n)) false true
    have other (j : Nat) (hj : j < 12) (ne : j ≠ n) : (u.latch n (u.timeMode (u.vch n)) false true).circuit j = u.circuit j := by
      rw [State.circuit, emu]
      exact (u.circuit_setCircuit x hj).trans (if_neg ne)
    generalize u.latch n (u.timeMode (u.vch n)) false true = v at *
    obtain ⟨zero, others, regs⟩ := v.clearTotals_spec lt
    exact ⟨zero, fun j hj ne => (others j hj ne).trans ((other j hj ne).trans (circuit j)), fun _ =>
      ⟨by rw [State.rd_congr regs, count, seq], by rw [State.rd_congr regs, fresh], by rw [State.rd_congr regs, imp, circuit],
        by rw [State.rd_congr regs, exp, circuit], Noted.congr noted (State.rd_congr regs _)⟩⟩
  · next stopped =>
    obtain ⟨zero, others, -⟩ := u.clearTotals_spec lt
    exact ⟨zero, fun j hj ne => (others j hj ne).trans (circuit j), fun run => absurd run stopped⟩

/-- Settles O35, clause by clause: a sample through the walk that keeps every circuit's total but those that it adds to. -/
theorem meteringSamples : Obligations.MeteringSamples := by
  refine ⟨fun s c bits => State.emuSample_disabled bits, fun s c n bits live _ on lt runs sound held => State.emuSample_adds bits live on lt runs sound held,
    fun s k => State.channelFault_spec, fun s k live _ => State.channelFaultEnd_spec live, fun s k => State.zcTimeout_spec,
    fun s live => State.whenLive_completes rfl live rfl, fun s port n => State.emuClear_spec port⟩

end Sys2Proof.Machine
end

section
/-! SUPPORT. Energy reconciliation (O36). -/

namespace Sys2Proof.Machine

/-! ### The flags of an entry -/

/-- The windows change in no byte but the flags of entries. -/
def FlagsOnly (s t : State) : Prop := ∀ q a, a % 256 ≠ 0xDA → t.w8 q a = s.w8 q a

theorem FlagsOnly.trans {s t u : State} (h : FlagsOnly s t) (k : FlagsOnly t u) : FlagsOnly s u := fun q a ne => (k q a ne).trans (h q a ne)

theorem FlagsOnly.ent {s t : State} (h : FlagsOnly s t) (i : Nat) {o n : Nat} (fits : o + n ≤ 256) (out : o + n ≤ 0xDA ∨ 0xDA < o) :
    t.ent i o n = s.ent i o n :=
  State.wN_eq fun k hk => h _ _ (by omega)

theorem State.setEFlag_flagsOnly (s : State) (i b : Nat) (v : Bool) : FlagsOnly s (s.setEFlag i b v) := fun q a ne =>
  State.w8_setBytes_ne _ _ _ _ _ _ (by simp only [winAddr, length_toOctets]; omega)

theorem State.setEFlag_win (s : State) (i b : Nat) (v : Bool) : OnlyWin s (s.setEFlag i b v) := ⟨_, rfl⟩

theorem bitAt_clrBit (v b c : Nat) : bitAt (clrBit v b) c = (bitAt v c && decide (c ≠ b)) := by
  rw [bitAt_eq_testBit, bitAt_eq_testBit, testBit_clrBit]

theorem bitAt_setBit_ne {v b c : Nat} (ne : c ≠ b) : bitAt (setBit v b) c = bitAt v c := by
  by_cases set : bitAt v b = true
  · rw [setBit, if_pos set]
  · have back : clrBit (setBit v b) b = v := by
      rw [clrBit, if_pos (bitAt_setBit v b), setBit, if_neg set, Nat.add_sub_cancel]
    rw [← congrArg (bitAt · c) back, bitAt_clrBit, decide_eq_true ne, Bool.and_true]

/-- What the bits of an entry's flags read after one is put. -/
theorem State.bitAt_setEFlag (s : State) (i : Nat) {b : Nat} (v : Bool) (hb : b < 8) (c : Nat) :
    bitAt ((s.setEFlag i b v).eFlags i) c = if c = b then v else bitAt (s.eFlags i) c := by
  have lt : s.eFlags i < 2 ^ 8 := State.wN_lt s _ _ 1
  have put : (s.setEFlag i b v).eFlags i = if v then setBit (s.eFlags i) b else clrBit (s.eFlags i) b := by
    rw [State.eFlags, State.setEFlag, State.ent_setEnt_same]
    exact Nat.mod_eq_of_lt (by cases v <;> [exact clrBit_lt lt; exact setBit_lt lt hb])
  rw [put]
  cases v
  · rw [if_neg Bool.false_ne_true, bitAt_clrBit]
    split <;> simp [*]
  · rw [if_pos rfl]
    split
    · next e => rw [e, bitAt_setBit]
    · next ne => exact bitAt_setBit_ne ne

theorem State.eFlags_setEFlag_ne (s : State) {i j b : Nat} (ne : j ≠ i) (v : Bool) : (s.setEFlag i b v).eFlags j = s.eFlags j :=
  State.wN_eq fun k hk => State.w8_setBytes_ne _ _ _ _ _ _ (by simp only [winAddr, length_toOctets]; omega)

/-- Bytes that are no entry's state leave the list of the entries in use. -/
theorem Memory.filter_writeAll {P : Nat × Byte → Bool} (l : List Nat) (m : List Host.Cell) {a : Nat} (out : ∀ k, k < l.length → ∀ v, P (a + k, v) = false) :
    (Memory.writeAll m a l).filter P = m.filter P := by
  induction l generalizing m a with
  | nil => rfl
  | cons b t ih =>
    have first : ∀ v, P (a, v) = false := out 0 (by simp)
    rw [Memory.writeAll, ih _ fun k hk v => by rw [Nat.add_right_comm]; exact out (k + 1) (by simpa using hk) v, Memory.write]
    split
    · exact Sparse.filter_erase first _
    · exact Sparse.filter_insert first _ _

theorem State.usedEntries_setEnt (s : State) {i o n v : Nat} (fits : o + n ≤ 256) (out : 0x0B < o) : (s.setEnt i o n v).usedEntries = s.usedEntries := by
  rw [State.usedEntries, State.usedEntries]
  congr 1
  refine Memory.filter_writeAll _ _ fun k hk b => ?_
  rw [length_toOctets] at hk
  have other : (winAddr 0x05 (256 * i + o) + k) % 256 ≠ 0x0B := by simp only [winAddr]; omega
  simp [other]

/-! ### Estimates -/

theorem State.estimated_flagsOnly {s t : State} (h : FlagsOnly s t) (i : Nat) : t.estimated i = s.estimated i := by
  simp (disch := decide) only [State.estimated, State.entType, h.ent]

/-- What the flag ESTIMATED of entries may become: it says what the entry is, and the other flags stand. -/
structure EstimatesShown (l : List Nat) (s t : State) : Prop where
  win : OnlyWin s t
  flags : FlagsOnly s t
  shown : ∀ i ∈ l, bitAt (t.eFlags i) 3 = s.estimated i
  others : ∀ i, i ∉ l → t.eFlags i = s.eFlags i
  bits : ∀ i b, b ≠ 3 → bitAt (t.eFlags i) b = bitAt (s.eFlags i) b
  used : t.usedEntries = s.usedEntries

theorem State.foldl_estimates (l : List Nat) (s : State) : EstimatesShown l s (l.foldl (fun s i => s.setEFlag i 3 (s.estimated i)) s) := by
  induction l generalizing s with
  | nil => exact ⟨.refl s, fun _ _ _ => rfl, by simp, fun _ _ => rfl, fun _ _ _ => rfl, rfl⟩
  | cons x l ih =>
    have put := s.bitAt_setEFlag x (s.estimated x) (b := 3) (by decide)
    have flags := s.setEFlag_flagsOnly x 3 (s.estimated x)
    have rest := ih (s.setEFlag x 3 (s.estimated x))
    have same : ∀ i, (s.setEFlag x 3 (s.estimated x)).estimated i = s.estimated i := State.estimated_flagsOnly flags
    have used : (s.setEFlag x 3 (s.estimated x)).usedEntries = s.usedEntries := s.usedEntries_setEnt (by decide) (by decide)
    have apart := fun i ne => s.eFlags_setEFlag_ne (i := x) (j := i) (b := 3) ne (s.estimated x)
    obtain ⟨w, is⟩ := s.setEFlag_win x 3 (s.estimated x)
    rw [List.foldl_cons]
    refine ⟨?_, flags.trans rest.flags, fun i mem => ?_, fun i out => ?_, fun i b ne => ?_, rest.used.trans used⟩
    · obtain ⟨w', is'⟩ := rest.win
      exact ⟨w', by rw [is', is]⟩
    · by_cases late : i ∈ l
      · rw [rest.shown i late, same]
      · obtain rfl : i = x := (List.mem_cons.mp mem).resolve_right late
        rw [rest.others i late, put, if_pos rfl]
    · rw [rest.others i fun h => out (List.mem_cons_of_mem _ h), apart i fun e => out (e ▸ List.mem_cons_self)]
    · rw [rest.bits i b ne]
      by_cases at_ : i = x
      · rw [at_, put, if_neg ne]
      · rw [apart i at_]

/-- R365, R368: what ESTIMATED of the entries in use shows. -/
theorem State.showEstimated_spec (s : State) : let t := s.showEstimated
    OnlyWin s t ∧ FlagsOnly s t ∧ (∀ i ∈ s.usedEntries, bitAt (t.eFlags i) 3 = s.estimated i) ∧
      (∀ i b, b ≠ 3 → bitAt (t.eFlags i) b = bitAt (s.eFlags i) b) ∧ t.usedEntries = s.usedEntries := by
  have all := State.foldl_estimates (s.usedEntries.filter fun i => bitAt (s.eFlags i) 3 != s.estimated i) s
  refine ⟨all.win, all.flags, fun i mem => ?_, all.bits, all.used⟩
  by_cases told : bitAt (s.eFlags i) 3 = s.estimated i
  · refine (congrArg (bitAt · 3) (all.others i fun h => ?_)).trans told
    simpa [told] using (List.mem_filter.mp h).2
  · exact all.shown i (List.mem_filter.mpr ⟨mem, by simpa using told⟩)

theorem State.estimateTick_disabled {s : State} {c : Nat} (work : s.atWork 0x0E = true) (off : s.rd EMUR_CTRL_EN = 0) :
    Completes (.emurEstimateTick c) s fun t =>
      t.emur = s.emur ∧ t.emu = s.emu ∧ (∀ i ∈ s.usedEntries, bitAt (t.eFlags i) 3 = s.estimated i) ∧ ∀ i, t.ent i 0xC0 8 = s.ent i 0xC0 8 := by
  refine Completes.working (u := s) rfl work ?_
  obtain ⟨win, flags, shown, -, -⟩ := (s.reach c).showEstimated_spec
  have is : (s.reach c).estimateTick = (s.reach c).showEstimated := by
    obtain ⟨w, is⟩ := win
    have reads : (s.reach c).showEstimated.rd EMUR_CTRL_EN = 0 := by rw [is, ← off, ← s.rd_reach c]; rfl
    rw [State.estimateTick, State.rdB_of_zero reads]
    rfl
  obtain ⟨w, win⟩ := win
  rw [is]
  refine ⟨by rw [win, s.reach_self c], by rw [win, s.reach_self c], fun i mem => ?_, fun i => ?_⟩
  · rw [shown i (by rw [s.reach_self c]; exact mem), s.reach_self c]
    rfl
  · rw [flags.ent i (by decide) (by decide), s.reach_self c]
    rfl

/-- An estimated node's energy rises by that of a second. -/
def State.estimateOne (s : State) (i : Nat) : State :=
  ((s.setEnt i 0xC0 8 ((s.ent i 0xC0 8 + s.ent i 0xDC 2 * s.ent i 0xBE 2 * 250 / (9 * 65535)) % 2 ^ 64)).setEnt i 0xC8 8 s.moduleTime).setEFlag i 0 false

theorem State.estimateOne_spec (s : State) {i : Nat} (hi : i < 8192) : let t := s.estimateOne i
    OnlyWin s t ∧ t.ent i 0xC0 8 = (s.ent i 0xC0 8 + s.ent i 0xDC 2 * s.ent i 0xBE 2 * 250 / (9 * 65535)) % 2 ^ 64 ∧
      t.ent i 0xC8 8 = s.moduleTime ∧ ∀ b, bitAt (t.eFlags i) b = if b = 0 then false else bitAt (s.eFlags i) b := by
  dsimp only
  rw [State.estimateOne]
  generalize e : (s.ent i 0xC0 8 + s.ent i 0xDC 2 * s.ent i 0xBE 2 * 250 / (9 * 65535)) % 2 ^ 64 = v
  have lt : v < 2 ^ 64 := by rw [← e]; exact Nat.mod_lt _ (by decide)
  have flags := ((s.setEnt i 0xC0 8 v).setEnt i 0xC8 8 s.moduleTime).setEFlag_flagsOnly i 0 false
  have bits := ((s.setEnt i 0xC0 8 v).setEnt i 0xC8 8 s.moduleTime).bitAt_setEFlag i (b := 0) false (by decide)
  refine ⟨⟨_, rfl⟩, ?_, ?_, fun b => ?_⟩
  · rw [flags.ent i (by decide) (by decide), State.ent_setEnt_ne _ hi (by decide) (by decide) (by decide), State.ent_setEnt_same]
    exact Nat.mod_eq_of_lt lt
  · rw [flags.ent i (by decide) (by decide), State.ent_setEnt_same]
    exact Nat.mod_eq_of_lt s.moduleTime_lt
  · rw [bits, State.eFlags, State.ent_setEnt_ne _ hi (by decide) (by decide) (by decide), State.ent_setEnt_ne _ hi (by decide) (by decide) (by decide)]
    rfl

/-- R365: a second of the only entry in use. -/
theorem State.estimateTick_one {s : State} {i : Nat} (on : s.rd EMUR_CTRL_EN = 1) (hi : i < 8192) (used : s.usedEntries = [i]) : let t := s.estimateTick
    t.emur = s.emur ∧ bitAt (t.eFlags i) 3 = s.estimated i ∧
      if s.estimated i = true ∧ bitAt (s.ent i 0xBD 1) 0 = true then
        t.ent i 0xC0 8 = (s.ent i 0xC0 8 + s.ent i 0xDC 2 * s.ent i 0xBE 2 * 250 / (9 * 65535)) % 2 ^ 64 ∧
        t.ent i 0xC8 8 = s.moduleTime ∧ bitAt (t.eFlags i) 0 = false
      else t.ent i 0xC0 8 = s.ent i 0xC0 8 ∧ t.ent i 0xC8 8 = s.ent i 0xC8 8 ∧ bitAt (t.eFlags i) 0 = bitAt (s.eFlags i) 0 := by
  obtain ⟨⟨w, win⟩, flags, shown, bits, used'⟩ := s.showEstimated_spec
  have shown := shown i (by rw [used]; exact List.mem_cons_self)
  have estimated := State.estimated_flagsOnly flags i
  have enabled : s.showEstimated.rdB EMUR_CTRL_EN = true := by rw [win]; exact State.rdB_of on
  have emur : s.showEstimated.emur = s.emur := by rw [win]
  have time : s.showEstimated.moduleTime = s.moduleTime := by rw [win]; rfl
  have is : s.estimateTick = (s.showEstimated.usedEntries.filter fun i =>
      s.showEstimated.estimated i && bitAt (s.showEstimated.ent i 0xBD 1) 0).foldl State.estimateOne s.showEstimated := by
    rw [State.estimateTick, enabled]
    rfl
  dsimp only
  rw [is, used', used]
  generalize s.showEstimated = u at *
  rw [List.filter_cons, List.filter_nil, estimated, flags.ent i (by decide) (by decide)]
  by_cases lit : s.estimated i = true ∧ bitAt (s.ent i 0xBD 1) 0 = true
  · rw [if_pos (by simpa using lit), if_pos lit]
    obtain ⟨⟨w', one⟩, energy, clock, flag⟩ := u.estimateOne_spec hi
    refine ⟨?_, ?_, ?_, ?_, ?_⟩
    · rw [List.foldl_cons, List.foldl_nil, one]
      exact emur
    · exact (flag 3).trans shown
    · rw [List.foldl_cons, List.foldl_nil, energy, flags.ent i (by decide) (by decide), flags.ent i (by decide) (by decide),
        flags.ent i (by decide) (by decide)]
    · exact clock.trans time
    · exact flag 0
  · rw [if_neg (by simpa using lit), if_neg lit]
    exact ⟨emur, shown, flags.ent i (by decide) (by decide), flags.ent i (by decide) (by decide), bits i 0 (by decide)⟩

/-! ### Boundaries -/

theorem State.emurBoundary_of {s : State} (on : s.rd EMUR_CTRL_EN = 1) (none_ : s.emur.due = none) : s.emurBoundary =
    if s.nextNearer then { s with emur := { s.emur with due := some (s.boundaryNo s.moduleTime) } } else s.takeSnapshot (s.boundaryNo s.moduleTime) := by
  rw [State.emurBoundary, State.rdB_of on]
  simp only [Bool.not_true, Bool.false_eq_true, if_false]
  rw [State.snapshotDue_none none_]

theorem State.emurBoundary_disabled {s : State} {c : Nat} (work : s.atWork 0x0E = true) (off : s.rd EMUR_CTRL_EN = 0) :
    Completes (.emurBoundarySnapshot c) s fun t => t = s.reach c := by
  refine Completes.working (u := s) rfl work ?_
  rw [State.emurBoundary, State.rdB_of_zero (by rw [State.rd_reach, off])]
  rfl

theorem State.emurBoundary_takes {s : State} {c : Nat} (work : s.atWork 0x0E = true) (on : s.rd EMUR_CTRL_EN = 1) (none_ : s.emur.due = none)
    (near : (s.reach c).nextNearer = false) : Completes (.emurBoundarySnapshot c) s fun t =>
      t.emur.snapshot = some (s.totals, (s.reach c).epoch) ∧ t.emur.gap = s.emu.held ∧ t.emur.records = s.emurRecords ∧
      t.emur.disturbed = ((List.range 12).map fun k => !s.circuitRuns k) ∧ t.emur.runs = s.emur.runs ∧ t.emur.due = none ∧
      t.emur.opened = (s.reach c).boundaryNo (s.reach c).moduleTime ∧
      t.emur.open_.length = s.emur.open_.length + (if s.emur.snapshot.isSome then (groupsInForce s.emur.records).length else 0) := by
  refine Completes.working (u := s) rfl work ?_
  rw [State.emurBoundary_of (by rw [State.rd_reach, on]) (by rw [s.reach_self c]; exact none_), near, if_neg Bool.false_ne_true]
  obtain ⟨w, e, is, snapshot, gap, records, disturbed, runs, due, opened, length⟩ :=
    (s.reach c).takeSnapshot_spec ((s.reach c).boundaryNo (s.reach c).moduleTime)
  rw [is]
  rw [s.reach_self c] at snapshot gap records disturbed runs due opened length ⊢
  exact ⟨snapshot, gap, records, disturbed, runs, due.trans none_, opened, length⟩

theorem State.emurBoundary_waits {s : State} {c : Nat} (work : s.atWork 0x0E = true) (on : s.rd EMUR_CTRL_EN = 1) (none_ : s.emur.due = none)
    (near : (s.reach c).nextNearer = true) : Completes (.emurBoundarySnapshot c) s fun t =>
      t = { s.reach c with emur := { s.emur with due := some ((s.reach c).boundaryNo (s.reach c).moduleTime) } } := by
  refine Completes.working (u := s) rfl work ?_
  rw [State.emurBoundary_of (by rw [State.rd_reach, on]) (by rw [s.reach_self c]; exact none_), near, if_pos rfl]
  have emur : (s.reach c).emur = s.emur := by rw [s.reach_self c]
  rw [emur]

/-- A sample changes nothing of EMUR but the disturbed circuits, nor the time. -/
theorem State.emuSample_emur (s : State) (bits : List Nat) : let t := s.emuSample bits
    (∃ d, t.emur = { s.emur with disturbed := d }) ∧ t.time = s.time ∧ t.rd EMUR_CTRL_EN = s.rd EMUR_CTRL_EN := by
  have kept := State.emuSample_kept (T := Touches 0x20020000c00003) (.refl s) bits fun _ h => h
  refine ⟨?_, kept.frame .time (by decide), kept.rd_eq EMUR_CTRL_EN (by decide)⟩
  by_cases on : s.rd EMU_CTRL_EN = 1
  · exact (State.emuSample_spec on bits).1
  · rw [State.emuSample, show s.rdB EMU_CTRL_EN = false from beq_eq_false_iff_ne.mpr on]
    exact ⟨_, rfl⟩

/-- R363: the sample for which a boundary waited. -/
theorem State.emuSample_snapshot {s : State} {c : Nat} (bits : List Nat) {j : Int} (live : s.live 0x0D = true) (on : s.rd EMUR_CTRL_EN = 1)
    (due : s.emur.due = some j) : Completes (.emuSample c bits) s fun t =>
      t.emur.due = none ∧ t.emur.snapshot = some (t.totals, (s.reach c).epoch) ∧
      t.emur.open_.length = s.emur.open_.length + (if s.emur.snapshot.isSome then (groupsInForce s.emur.records).length else 0) := by
  refine State.emuSample_live live ?_
  obtain ⟨⟨d, emur⟩, time, enabled⟩ := (s.reach c).emuSample_emur bits
  have emur₀ : (s.reach c).emur = s.emur := by rw [s.reach_self c]
  rw [emur₀] at emur
  rw [s.rd_reach, on] at enabled
  have epoch : ((s.reach c).emuSample bits).epoch = (s.reach c).epoch := by rw [State.epoch, time, State.epoch]
  generalize (s.reach c).emuSample bits = u at *
  have is : u.snapshotDue = ({ u with emur := { u.emur with due := none } } : State).takeSnapshot j := by
    have some_ : u.emur.due = some j := by rw [emur]; exact due
    rw [State.snapshotDue, some_]
    exact if_pos (State.rdB_of enabled)
  obtain ⟨w, e, taken, snapshot, -, -, -, -, none_, -, length⟩ := ({ u with emur := { u.emur with due := none } } : State).takeSnapshot_spec j
  rw [is, taken, ← epoch]
  refine ⟨none_, snapshot, length.trans ?_⟩
  show u.emur.open_.length + (if u.emur.snapshot.isSome then (groupsInForce u.emur.records).length else 0) = _
  rw [emur]

/-! ### The close of a window -/

/-- The loss that a window shows. -/
def EmurWindow.loss (w : EmurWindow) : Int := w.metered - w.nodes - w.baseLoad

/-- The verdict of a window after a run, and the run after it. -/
def EmurWindow.judged (w : EmurWindow) (run : Nat) : Nat × Nat :=
  if !w.incomplete && !w.stepped && !w.gap && decide (w.missing.length ≤ w.record.missMax) then verdictOf w.record w.metered w.loss run else (4, run)

/-- The fields of a window's result. -/
def resultFields : List Field := [EMUR_R_GROUP_GROUP, EMUR_R_WINDOW, EMUR_R_METERED_LO, EMUR_R_METERED_HI, EMUR_R_NODES_LO, EMUR_R_NODES_HI,
  EMUR_R_LOSS_LO, EMUR_R_LOSS_HI, EMUR_R_COUNT_CONTRIB, EMUR_R_COUNT_MISSING, EMUR_R_END_VERDICT, EMUR_R_END_RUN, EMUR_R_END_INCOMPLETE,
  EMUR_R_END_STEPPED, EMUR_R_END_GAP, EMUR_R_END_ESTIMATED]

/-- A window's result in the registers. -/
def EmurWindow.result (w : EmurWindow) (p : Nat × Nat) : List (Field × Nat) :=
  [(EMUR_R_GROUP_GROUP, w.group), (EMUR_R_WINDOW, codeOf 32 w.number), (EMUR_R_METERED_LO, codeOf 64 w.metered),
   (EMUR_R_METERED_HI, codeOf 64 w.metered / 2 ^ 32), (EMUR_R_NODES_LO, w.nodes), (EMUR_R_NODES_HI, w.nodes / 2 ^ 32),
   (EMUR_R_LOSS_LO, codeOf 64 w.loss), (EMUR_R_LOSS_HI, codeOf 64 w.loss / 2 ^ 32), (EMUR_R_COUNT_CONTRIB, w.contrib),
   (EMUR_R_COUNT_MISSING, w.missing.length), (EMUR_R_END_VERDICT, p.1), (EMUR_R_END_RUN, p.2), (EMUR_R_END_INCOMPLETE, if w.incomplete then 1 else 0),
   (EMUR_R_END_STEPPED, if w.stepped then 1 else 0), (EMUR_R_END_GAP, if w.gap then 1 else 0), (EMUR_R_END_ESTIMATED, if w.estimated then 1 else 0)]

/-- The run of a group and its window's octets, before the result shows. -/
def State.windowLogged (s : State) (w : EmurWindow) (run : Nat) : State :=
  (s.setRun w.group run).setBytes 0x0E (0x1000 + 2048 * w.group + 32 * (codeOf 32 w.number % 64))
    (toOctets 4 (codeOf 32 w.number) ++ toOctets 8 (codeOf 64 w.metered) ++ toOctets 8 w.nodes ++ toOctets 8 (codeOf 64 w.loss) ++
      toOctets 2 w.contrib ++ toOctets 2 w.missing.length)

/-- A window's result, published. -/
def State.windowClosing (s : State) (w : EmurWindow) (p : Nat × Nat) : State :=
  (((s.windowLogged w p.2).wrAll (w.result p)).publish 0x0E 0 (SEQ_COUNT 0x0E)).notice EMUR_NOTE_CLOSED

/-- What a verdict raises. -/
def State.verdictTold (s : State) (w : EmurWindow) (v : Nat) : State :=
  if v = 2 then (s.notice EMUR_NOTE_LOSS).silt 0x0E01 w.group (codeOf 32 w.number) (codeOf 64 w.loss) (codeOf 64 w.loss / 2 ^ 32)
  else if v = 3 then s.notice EMUR_NOTE_GAIN
  else if v = 4 then s.notice EMUR_NOTE_INCOMPLETE
  else s

theorem State.closeWindow_eq (s : State) (w : EmurWindow) : s.closeWindow w =
    (s.windowClosing w (w.judged (s.emur.runs.getD w.group 0))).verdictTold w (w.judged (s.emur.runs.getD w.group 0)).1 := rfl

theorem State.windowLogged_parts (s : State) (w : EmurWindow) (run : Nat) : ∃ m win, s.windowLogged w run =
    { s with regs := m, win := win, emur := { s.emur with runs := putAt 12 0 s.emur.runs w.group run } } := ⟨_, _, rfl⟩

theorem State.windowLogged_only (s : State) (w : EmurWindow) (run : Nat) : OnlyFields [EMUR_STATUS_RUN] s (s.windowLogged w run) := by
  have put : OnlyFields [EMUR_STATUS_RUN] s (s.setRun w.group run) := (OnlyFields.of_regs rfl).wr (f := EMUR_STATUS_RUN) _ List.mem_cons_self
  exact put.congr rfl

/-- The fields that the result of a window may change. -/
def closingFields : List Field := EMUR_STATUS_RUN :: resultFields ++ [SEQ_COUNT 0x0E, FRESH 0x0E, NOTE_RAW 0x0E, MSIX_PBA]

theorem State.rd_result (s : State) {w : EmurWindow} {p : Nat × Nat} (group : w.group < 12) (verdict : p.1 < 8) : let t := s.wrAll (w.result p)
    t.rd EMUR_R_GROUP_GROUP = w.group ∧ t.rd EMUR_R_WINDOW = codeOf 32 w.number ∧ t.rd EMUR_R_LOSS_LO = codeOf 64 w.loss % 2 ^ 32 ∧
      t.rd EMUR_R_END_VERDICT = p.1 := by
  have number : codeOf 32 w.number < 2 ^ 32 := codeOf_lt 32 w.number
  rw [EmurWindow.result]
  refine ⟨?_, ?_, ?_, ?_⟩ <;> simp (disch := decide) only [State.wrAll_cons, State.wrAll_nil, State.rd_wr_ne, State.rd_wr_self]
  · exact Nat.mod_eq_of_lt (by omega)
  · exact Nat.mod_eq_of_lt number
  · exact Nat.mod_eq_of_lt verdict

theorem EmurWindow.result_fields (w : EmurWindow) (p : Nat × Nat) : ∀ x ∈ w.result p, x.1 ∈ resultFields := by
  intro x mem
  simp only [EmurWindow.result, List.mem_cons, List.not_mem_nil, or_false] at mem
  rcases mem with rfl | rfl | rfl | rfl | rfl | rfl | rfl | rfl | rfl | rfl | rfl | rfl | rfl | rfl | rfl | rfl <;> simp [resultFields]

theorem State.windowClosing_spec (s : State) {w : EmurWindow} {p : Nat × Nat} (group : w.group < 12) (verdict : p.1 < 8) : let t := s.windowClosing w p
    t.emur = { s.emur with runs := putAt 12 0 s.emur.runs w.group p.2 } ∧ t.rd EMUR_R_GROUP_GROUP = w.group ∧ t.rd EMUR_R_WINDOW = codeOf 32 w.number ∧
      t.rd EMUR_R_LOSS_LO = codeOf 64 w.loss % 2 ^ 32 ∧ t.rd EMUR_R_END_VERDICT = p.1 ∧ Publishes 0x0E s t ∧ Noted EMUR_NOTE_CLOSED t ∧
      OnlyFields closingFields s t ∧ t.siltIntake = s.siltIntake ∧ t.cal = s.cal ∧ t.domains = s.domains ∧ t.startup = s.startup := by
  obtain ⟨m, win, logged⟩ := s.windowLogged_parts w p.2
  have only := s.windowLogged_only w p.2
  dsimp only
  rw [State.windowClosing]
  generalize s.windowLogged w p.2 = u at *
  have shownOnly : OnlyFields (EMUR_STATUS_RUN :: resultFields) s (u.wrAll (w.result p)) :=
    (only.mono (by decide)).wrAll fun x mem => List.mem_cons_of_mem _ (w.result_fields p x mem)
  have emur : u.emur = { s.emur with runs := putAt 12 0 s.emur.runs w.group p.2 } := by rw [logged]
  obtain ⟨m', shown⟩ := u.wrAll_parts (w.result p)
  obtain ⟨number, no, lossLo, told⟩ := u.rd_result (w := w) (p := p) group verdict
  generalize u.wrAll (w.result p) = v at *
  rw [logged] at shown
  have through {f : Field} (note : f.key ≠ 0x1C0200) (pba : f.key ≠ MSIX_PBA.key) (fresh : f.key ≠ (FRESH 0x0E).key) (seq : f.key ≠ (SEQ_COUNT 0x0E).key) :
      ((v.publish 0x0E 0 (SEQ_COUNT 0x0E)).notice EMUR_NOTE_CLOSED).rd f = v.rd f := by
    rw [State.rd_notice_ne _ EMUR_NOTE_CLOSED note pba, State.rd_publish_ne _ _ _ _ fresh seq]
  have fields : OnlyFields closingFields s ((v.publish 0x0E 0 (SEQ_COUNT 0x0E)).notice EMUR_NOTE_CLOSED) :=
    ((shownOnly.mono (List.subset_append_left _ _)).publish 0x0E 0 (SEQ_COUNT 0x0E) (by decide) (by decide)).notice EMUR_NOTE_CLOSED
      (by decide) (by decide)
  refine ⟨?_, (through (by decide) (by decide) (by decide) (by decide)).trans number, (through (by decide) (by decide) (by decide) (by decide)).trans no,
    (through (by decide) (by decide) (by decide) (by decide)).trans lossLo, (through (by decide) (by decide) (by decide) (by decide)).trans told,
    ⟨?_, ?_⟩, State.noted_notice _ EMUR_NOTE_CLOSED (by decide), fields, ?_, ?_, ?_, ?_⟩
  · rw [State.notice_emur, shown]
    rfl
  · rw [State.rd_notice_ne _ _ (by decide) (by decide), State.rd_publish_seq _ _ _ _ (by decide), shownOnly _ (by decide)]
  · rw [State.rd_notice_ne _ _ (by decide) (by decide)]
    exact State.fresh_publish _ _ _ _ (by decide)
  · rw [State.notice_siltIntake, shown]; rfl
  · rw [State.notice_cal, shown]; rfl
  · rw [State.notice_domains, shown]; rfl
  · rw [State.notice_startup, shown]; rfl

theorem State.verdictTold_spec (s : State) (w : EmurWindow) (v : Nat) : let t := s.verdictTold w v
    t.emur = s.emur ∧ OnlyFields [NOTE_RAW 0x0E, MSIX_PBA, SLT_LOST, NOTE_RAW 0x1E] s t ∧ (Noted EMUR_NOTE_CLOSED s → Noted EMUR_NOTE_CLOSED t) ∧
      (v = 2 → Noted EMUR_NOTE_LOSS t ∧ Records 0x0E01 w.group (codeOf 32 w.number) (codeOf 64 w.loss) (codeOf 64 w.loss / 2 ^ 32) s t) ∧
      (v = 3 → Noted EMUR_NOTE_GAIN t) ∧ (v = 4 → Noted EMUR_NOTE_INCOMPLETE t) := by
  have raise (n : Notice) (page : n.page = 0x0E) (bit : n.bit < 32) : (s.notice n).emur = s.emur ∧
      OnlyFields [NOTE_RAW 0x0E, MSIX_PBA, SLT_LOST, NOTE_RAW 0x1E] s (s.notice n) ∧ (Noted EMUR_NOTE_CLOSED s → Noted EMUR_NOTE_CLOSED (s.notice n)) :=
    ⟨State.notice_emur s n, (OnlyFields.refl _ s).notice n (by rw [page]; decide) (by decide), fun h => Noted.notice h n page bit⟩
  dsimp only
  rw [State.verdictTold]
  split
  · next two =>
    obtain ⟨emur, only, closed⟩ := raise EMUR_NOTE_LOSS rfl (by decide)
    have noted := State.noted_notice s EMUR_NOTE_LOSS (by decide)
    have records := State.silt_records (s.notice EMUR_NOTE_LOSS) 0x0E01 w.group (codeOf 32 w.number) (codeOf 64 w.loss) (codeOf 64 w.loss / 2 ^ 32)
    obtain ⟨r, e, i, is⟩ := (s.notice EMUR_NOTE_LOSS).silt_eq 0x0E01 w.group (codeOf 32 w.number) (codeOf 64 w.loss) (codeOf 64 w.loss / 2 ^ 32)
    have note : ((s.notice EMUR_NOTE_LOSS).silt 0x0E01 w.group (codeOf 32 w.number) (codeOf 64 w.loss) (codeOf 64 w.loss / 2 ^ 32)).rd (NOTE_RAW 0x0E) =
        (s.notice EMUR_NOTE_LOSS).rd (NOTE_RAW 0x0E) := State.rd_silt_ne _ _ _ _ _ _ (by decide) (by decide) (by decide)
    refine ⟨by rw [is]; exact emur, only.silt _ _ _ _ _ (by decide) (by decide) (by decide), fun h => Noted.congr (closed h) note,
      fun _ => ⟨Noted.congr noted note, ?_⟩, fun three => by omega, fun four => by omega⟩
    exact records.of_before (by rw [State.notice_siltIntake]) (by rw [State.notice_cal]) (by rw [State.notice_domains])
      (State.rd_notice_ne _ _ (by decide) (by decide)) (by rw [State.notice_startup])
  · split
    · next three =>
      obtain ⟨emur, only, closed⟩ := raise EMUR_NOTE_GAIN rfl (by decide)
      exact ⟨emur, only, closed, fun two => by omega, fun _ => State.noted_notice s EMUR_NOTE_GAIN (by decide), fun four => by omega⟩
    · split
      · next four =>
        obtain ⟨emur, only, closed⟩ := raise EMUR_NOTE_INCOMPLETE rfl (by decide)
        exact ⟨emur, only, closed, fun two => by omega, fun three => by omega, fun _ => State.noted_notice s EMUR_NOTE_INCOMPLETE (by decide)⟩
      · exact ⟨rfl, .refl _ s, id, fun two => by omega, fun three => by omega, fun four => by omega⟩

theorem EmurWindow.judged_lt (w : EmurWindow) (run : Nat) : (w.judged run).1 < 8 := by
  rw [EmurWindow.judged]
  split
  · rw [verdictOf]
    split
    · dsimp only
      split <;> omega
    · split <;> exact Nat.lt_of_le_of_lt (by simp) (show 3 < 8 by decide)
  · exact (by decide : 4 < 8)

/-- What the close of a window leaves. -/
structure WindowClosed (s t : State) (w : EmurWindow) : Prop where
  open_ : t.emur.open_ = s.emur.open_
  run : t.emur.runs.getD w.group 0 = (w.judged (s.emur.runs.getD w.group 0)).2
  group : t.rd EMUR_R_GROUP_GROUP = w.group
  number : t.rd EMUR_R_WINDOW = codeOf 32 w.number
  loss : t.rd EMUR_R_LOSS_LO = codeOf 64 w.loss % 2 ^ 32
  verdict : t.rd EMUR_R_END_VERDICT = (w.judged (s.emur.runs.getD w.group 0)).1
  publishes : Publishes 0x0E s t
  closed : Noted EMUR_NOTE_CLOSED t
  lost : (w.judged (s.emur.runs.getD w.group 0)).1 = 2 → Noted EMUR_NOTE_LOSS t ∧
    Records 0x0E01 w.group (codeOf 32 w.number) (codeOf 64 w.loss) (codeOf 64 w.loss / 2 ^ 32) s t
  gained : (w.judged (s.emur.runs.getD w.group 0)).1 = 3 → Noted EMUR_NOTE_GAIN t
  unchecked : (w.judged (s.emur.runs.getD w.group 0)).1 = 4 → Noted EMUR_NOTE_INCOMPLETE t

theorem State.closeWindow_spec (s : State) {w : EmurWindow} (group : w.group < 12) : WindowClosed s (s.closeWindow w) w := by
  have verdict := w.judged_lt (s.emur.runs.getD w.group 0)
  rw [State.closeWindow_eq]
  obtain ⟨emur, number, no, lossLo, told, ⟨seq, fresh⟩, closed, only, intake, cal, domains, startup⟩ :=
    s.windowClosing_spec (w := w) (p := w.judged (s.emur.runs.getD w.group 0)) group verdict
  have osf := only RTC_STATUS_OSF (by decide)
  generalize hu : s.windowClosing w (w.judged (s.emur.runs.getD w.group 0)) = u at *
  obtain ⟨emur', only', closed', lost, gained, unchecked⟩ := u.verdictTold_spec w (w.judged (s.emur.runs.getD w.group 0)).1
  refine ⟨by rw [emur', emur], ?_, (only' _ (by decide)).trans number, (only' _ (by decide)).trans no, (only' _ (by decide)).trans lossLo,
    (only' _ (by decide)).trans told, ⟨(only' _ (by decide)).trans seq, by rw [only' _ (by decide)]; exact fresh⟩, closed' closed,
    fun two => ⟨(lost two).1, (lost two).2.of_before intake cal domains osf startup⟩, gained, unchecked⟩
  rw [emur', emur]
  exact (getD_putAt (n := 12) _ _ _ _ _ group).trans (if_pos rfl)

theorem EmurWindow.judged_unchecked {w : EmurWindow}
    (h : w.incomplete = true ∨ w.stepped = true ∨ w.gap = true ∨ w.record.missMax < w.missing.length) (run : Nat) : w.judged run = (4, run) := by
  rw [EmurWindow.judged, if_neg]
  simp only [Bool.and_eq_true, Bool.not_eq_true', decide_eq_true_eq]
  rintro ⟨⟨⟨whole, steady⟩, full⟩, few⟩
  rcases h with h | h | h | h
  · rw [whole] at h; cases h
  · rw [steady] at h; cases h
  · rw [full] at h; cases h
  · omega

theorem EmurWindow.judged_checked {w : EmurWindow}
    (h : ¬(w.incomplete = true ∨ w.stepped = true ∨ w.gap = true ∨ w.record.missMax < w.missing.length)) (run : Nat) :
    w.judged run = verdictOf w.record w.metered w.loss run := by
  rw [EmurWindow.judged, if_pos]
  simpa [and_assoc] using h

/-- A window that closes is no longer open. -/
def State.windowTaken (s : State) (w : EmurWindow) : State :=
  { s with emur := { s.emur with
      open_ := s.emur.open_.filter fun x => x.group != w.group || x.number != w.number
      closed := (w.number, w.record.mask) :: s.emur.closed } }

theorem State.emurClose_none {s : State} {g : Nat} (h : (s.emur.open_.find? fun w => w.group == g) = none) : s.emurClose g = s := by
  rw [State.emurClose, h]

theorem State.emurClose_some {s : State} {g : Nat} {w : EmurWindow} (h : (s.emur.open_.find? fun w => w.group == g) = some w) : s.emurClose g =
    if w.missing ≠ [] ∧ (s.moduleTime : Int) < w.ends + s.emurWait * 1000000000 then s else (s.windowTaken w).closeWindow w := by
  obtain rfl : w.group = g := by simpa using List.find?_some h
  rw [State.emurClose, h]
  dsimp only
  by_cases waits : w.missing ≠ [] ∧ (s.moduleTime : Int) < w.ends + s.emurWait * 1000000000
  · rw [if_pos waits, if_neg]
    rintro (empty | passed)
    · exact waits.1 (List.isEmpty_iff.mp empty)
    · exact absurd passed (not_le.mpr waits.2)
  rw [if_neg waits, if_pos]
  · rfl
  by_cases empty : w.missing = []
  · exact .inl (List.isEmpty_iff.mpr empty)
  · exact .inr (not_lt.mp fun late => waits ⟨empty, late⟩)

/-- R366, R367: the close of the oldest window of a group. -/
theorem State.emurClose_spec {s : State} {c g : Nat} (work : s.atWork 0x0E = true) (lt : g < 12) :
    Completes (.emurWindowClose c g) s fun t =>
      match s.emur.open_.find? fun w => w.group == g with
      | none => t = s.reach c
      | some w =>
        if w.missing ≠ [] ∧ (s.reach c).moduleTime < w.ends + s.emurWait * 1000000000 then t = s.reach c
        else
          let l := w.metered - w.nodes - w.baseLoad
          let run := s.emur.runs.getD g 0
          let lossAt : Int := (max (w.metered.natAbs * w.record.lossPct / 10000) (w.record.lossMin * 1000000) : Nat)
          let gainAt : Int := (max (w.metered.natAbs * w.record.gainPct / 10000) (w.record.lossMin * 1000000) : Nat)
          t.emur.open_ = (s.emur.open_.filter fun x => x.group != g || x.number != w.number) ∧
          t.rd EMUR_R_GROUP_GROUP = g ∧ t.rd EMUR_R_WINDOW = codeOf 32 w.number ∧ t.rd EMUR_R_LOSS_LO = codeOf 64 l % 2 ^ 32 ∧
          Publishes 0x0E s t ∧ Noted EMUR_NOTE_CLOSED t ∧
          if w.incomplete = true ∨ w.stepped = true ∨ w.gap = true ∨ w.record.missMax < w.missing.length then
            t.rd EMUR_R_END_VERDICT = 4 ∧ t.emur.runs.getD g 0 = run ∧ Noted EMUR_NOTE_INCOMPLETE t
          else if lossAt < l then
            t.emur.runs.getD g 0 = min 15 (run + 1) ∧
            if w.record.lossCount ≤ run + 1 then
              t.rd EMUR_R_END_VERDICT = 2 ∧ Noted EMUR_NOTE_LOSS t ∧
              Records 0x0E01 g (codeOf 32 w.number) (codeOf 64 l) (codeOf 64 l / 2 ^ 32) s t
            else t.rd EMUR_R_END_VERDICT = 1
          else if gainAt < -l then t.rd EMUR_R_END_VERDICT = 3 ∧ t.emur.runs.getD g 0 = 0 ∧ Noted EMUR_NOTE_GAIN t
          else t.rd EMUR_R_END_VERDICT = 0 ∧ t.emur.runs.getD g 0 = 0 := by
  refine Completes.working (u := s) rfl work ?_
  have emur : (s.reach c).emur = s.emur := by rw [s.reach_self c]
  have wait : (s.reach c).emurWait = s.emurWait := by rw [s.reach_self c]; rfl
  cases found : s.emur.open_.find? fun w => w.group == g
  case none => exact State.emurClose_none (by rw [emur]; exact found)
  case some w =>
    obtain rfl : w.group = g := by simpa using List.find?_some found
    dsimp only
    have is := State.emurClose_some (s := s.reach c) (g := w.group) (by rw [emur]; exact found)
    rw [wait] at is
    by_cases waits : w.missing ≠ [] ∧ ((s.reach c).moduleTime : Int) < w.ends + s.emurWait * 1000000000
    · rw [if_pos waits] at is ⊢
      exact is
    rw [if_neg waits] at is ⊢
    rw [is]
    have closed := ((s.reach c).windowTaken w).closeWindow_spec (w := w) lt
    generalize ((s.reach c).windowTaken w).closeWindow w = t at closed
    rw [s.reach_self c] at closed
    refine ⟨closed.open_, closed.group, closed.number, closed.loss, closed.publishes, closed.closed, ?_⟩
    have run : t.emur.runs.getD w.group 0 = (w.judged (s.emur.runs.getD w.group 0)).2 := closed.run
    have verdict : t.rd EMUR_R_END_VERDICT = (w.judged (s.emur.runs.getD w.group 0)).1 := closed.verdict
    have lost : (w.judged (s.emur.runs.getD w.group 0)).1 = 2 → Noted EMUR_NOTE_LOSS t ∧
      Records 0x0E01 w.group (codeOf 32 w.number) (codeOf 64 w.loss) (codeOf 64 w.loss / 2 ^ 32) s t := closed.lost
    have gained : (w.judged (s.emur.runs.getD w.group 0)).1 = 3 → Noted EMUR_NOTE_GAIN t := closed.gained
    have unchecked : (w.judged (s.emur.runs.getD w.group 0)).1 = 4 → Noted EMUR_NOTE_INCOMPLETE t := closed.unchecked
    generalize s.emur.runs.getD w.group 0 = r at *
    by_cases bar : w.incomplete = true ∨ w.stepped = true ∨ w.gap = true ∨ w.record.missMax < w.missing.length
    · rw [w.judged_unchecked bar] at run verdict unchecked
      rw [if_pos bar]
      exact ⟨verdict, run, unchecked rfl⟩
    rw [if_neg bar]
    rw [w.judged_checked bar, verdictOf, EmurWindow.loss] at run verdict lost gained
    split
    · next loss =>
      rw [if_pos loss] at run verdict lost
      refine ⟨run, ?_⟩
      split
      · next many =>
        rw [if_pos many] at verdict lost
        exact ⟨verdict, lost rfl⟩
      · next few => rwa [if_neg few] at verdict
    · next small =>
      rw [if_neg small] at run verdict gained
      split
      · next gain =>
        rw [if_pos gain] at run verdict gained
        exact ⟨verdict, run, gained rfl⟩
      · next steady =>
        rw [if_neg steady] at run verdict
        exact ⟨verdict, run⟩

/-- Settles O36: the boundaries and their snapshots, the estimates, and the close of windows. -/
theorem energyReconciliation : Obligations.EnergyReconciliation := by
  refine ⟨fun s c => State.emurBoundary_disabled, fun s c => State.estimateTick_disabled, fun s c => State.emurBoundary_takes,
    fun s c => State.emurBoundary_waits, fun s c bits j => State.emuSample_snapshot bits, fun s c i work on hi used => ?_,
    fun s c g => State.emurClose_spec⟩
  refine Completes.working (u := s) rfl work ?_
  have done := State.estimateTick_one (s := s.reach c) (by rw [State.rd_reach, on]) hi (by rw [s.reach_self c]; exact used)
  rw [s.reach_self c] at done ⊢
  exact done

end Sys2Proof.Machine
end

section
/-! SUPPORT. Calendar time (O40). -/

namespace Sys2Proof.Machine

/-! ### The count and its fields (R418, R419) -/

/-- A day of an era of 400 years from March on, by its year and its day in the year. -/
def eraDay (yoe doy : Nat) : Nat := yoe * 365 + yoe / 4 - yoe / 100 + doy

/-- Whether a year from March on ends with a leap day. -/
abbrev EndsLeap (y : Nat) : Prop := (y + 1) % 4 = 0 ∧ ((y + 1) % 100 ≠ 0 ∨ (y + 1) % 400 = 0)

theorem eraDay_year {yoe doy : Nat} (hy : yoe < 400) (hd : doy ≤ 364 ∨ doy = 365 ∧ EndsLeap yoe) :
    (eraDay yoe doy - eraDay yoe doy / 1460 + eraDay yoe doy / 36524 - eraDay yoe doy / 146096) / 365 = yoe := by
  simp only [EndsLeap] at hd
  obtain ⟨q, k, j, rfl, hq, hk, hj⟩ : ∃ q k j, yoe = 100 * q + 4 * k + j ∧ q < 4 ∧ k < 25 ∧ j < 4 :=
    ⟨yoe / 100, yoe % 100 / 4, yoe % 4, by omega, by omega, by omega, by omega⟩
  have is : eraDay (100 * q + 4 * k + j) doy = 36524 * q + 1461 * k + 365 * j + doy := by
    rw [eraDay]
    omega
  rw [is]
  generalize hn : 36524 * q + 1461 * k + 365 * j + doy = n
  have years : n / 1460 = 25 * q + k + (if 1460 ≤ 24 * q + k + 365 * j + doy then 1 else 0) := by split <;> omega
  have centuries : n / 36524 = q + (if 36524 ≤ 1461 * k + 365 * j + doy then 1 else 0) := by split <;> omega
  have era : n / 146096 = (if 146096 ≤ n then 1 else 0) := by split <;> omega
  rw [years, centuries, era]
  split <;> split <;> split <;> omega

theorem eraDay_lt {yoe doy : Nat} (hy : yoe < 400) (hd : doy ≤ 364 ∨ doy = 365 ∧ EndsLeap yoe) : eraDay yoe doy < 146097 := by
  simp only [EndsLeap] at hd
  rw [eraDay]
  omega

/-- The days of a month, by its place from March on; the last one's in a leap year. -/
def marchDays (mp : Nat) : Nat := if mp = 11 then 29 else if mp = 1 ∨ mp = 3 ∨ mp = 6 ∨ mp = 8 then 30 else 31

/-- A day of a year from March on. -/
def marchDay (mp d : Nat) : Nat := (153 * mp + 2) / 5 + d - 1

theorem marchDay_month {mp d : Nat} (hm : mp < 12) (lo : 1 ≤ d) (hi : d ≤ marchDays mp) : (5 * marchDay mp d + 2) / 153 = mp := by
  rw [marchDay]
  interval_cases mp <;> simp [marchDays] at hi <;> omega

theorem marchDay_day {mp d : Nat} (lo : 1 ≤ d) : marchDay mp d - (153 * mp + 2) / 5 + 1 = d := by
  rw [marchDay]
  omega

theorem marchDay_le {mp d : Nat} {y : Nat} (hm : mp < 12) (hi : d ≤ marchDays mp) (short : mp = 11 → d = 29 → EndsLeap y) :
    marchDay mp d ≤ 364 ∨ marchDay mp d = 365 ∧ EndsLeap y := by
  by_cases last : mp = 11 ∧ d = 29
  · obtain ⟨rfl, rfl⟩ := last
    exact .inr ⟨rfl, short rfl rfl⟩
  · left
    rw [marchDay]
    interval_cases mp <;> simp [marchDays] at hi <;> omega

/-- The day number of a day of a year from March on. -/
def marchNumber (y mp d : Nat) : Nat := y / 400 * 146097 + eraDay (y % 400) (marchDay mp d) - 730425

theorem civilOf_marchNumber {y mp d : Nat} (hy : 1999 ≤ y) (first : y = 1999 → 10 ≤ mp) (hm : mp < 12) (lo : 1 ≤ d) (hi : d ≤ marchDays mp)
    (short : mp = 11 → d = 29 → EndsLeap y) : civilOf (marchNumber y mp d) =
      ⟨if mp < 10 then y else y + 1, if mp < 10 then mp + 3 else mp - 9, d, (marchNumber y mp d + 5) % 7⟩ := by
  have leap : marchDay mp d ≤ 364 ∨ marchDay mp d = 365 ∧ EndsLeap (y % 400) :=
    marchDay_le hm hi fun last late => by
      have ends := short last late
      simp only [EndsLeap] at ends ⊢
      omega
  have yoe := eraDay_year (Nat.mod_lt y (by decide)) leap
  have lt := eraDay_lt (Nat.mod_lt y (by decide)) leap
  have month := marchDay_month hm lo hi
  have day := marchDay_day (mp := mp) lo
  have whole : marchNumber y mp d + 730425 = y / 400 * 146097 + eraDay (y % 400) (marchDay mp d) := by
    refine Nat.sub_add_cancel ?_
    by_cases start : y = 1999
    · subst start
      have late := first rfl
      rw [eraDay, marchDay]
      omega
    · omega
  have era : (marchNumber y mp d + 730425) / 146097 = y / 400 := by omega
  have doe : (marchNumber y mp d + 730425) % 146097 = eraDay (y % 400) (marchDay mp d) := by omega
  have doy : eraDay (y % 400) (marchDay mp d) - (365 * (y % 400) + y % 400 / 4 - y % 400 / 100) = marchDay mp d := by
    rw [eraDay]
    omega
  have year : y % 400 + y / 400 * 400 = y := by omega
  simp only [civilOf, doe, yoe, doy, month, era, day, year]
  by_cases early : mp < 10
  · simp only [if_pos early]
    rw [if_neg (by omega)]
  · simp only [if_neg early]
    rw [if_pos (by omega)]

theorem dayOf_march (y m d : Nat) : dayOf y m d = marchNumber (if m ≤ 2 then y - 1 else y) (if m ≤ 2 then m + 9 else m - 3) d := by
  unfold dayOf marchNumber eraDay marchDay
  split <;> dsimp only

theorem marchNumber_le {y mp d : Nat} (hy : y ≤ 2399) (last : y = 2399 → mp ≤ 9) (hm : mp < 12) (hd : d ≤ 31) : marchNumber y mp d ≤ 146096 := by
  have day : marchDay mp d ≤ 367 := by rw [marchDay]; omega
  by_cases late : y = 2399
  · have day : marchDay mp d ≤ 305 := by
      have hm := last late
      rw [marchDay]
      omega
    subst late
    unfold marchNumber eraDay
    refine Nat.sub_le_of_le_add ?_
    omega
  · unfold marchNumber eraDay
    refine Nat.sub_le_of_le_add ?_
    omega

theorem dayOf_le {y m d : Nat} (hy : y ≤ 2399) (m0 : 1 ≤ m) (hm : m ≤ 12) (hd : d ≤ 31) : dayOf y m d ≤ 146096 := by
  rw [dayOf_march]
  split
  · exact marchNumber_le (by omega) (by omega) (by omega) hd
  · exact marchNumber_le hy (by omega) (by omega) hd

/-- R418, R419: the fields of the day number of a date are the date. -/
theorem civilOf_dayOf {y m d : Nat} (y0 : 2000 ≤ y) (m0 : 1 ≤ m) (m1 : m ≤ 12) (d0 : 1 ≤ d) (d1 : d ≤ daysIn y m) :
    civilOf (dayOf y m d) = ⟨y, m, d, (dayOf y m d + 5) % 7⟩ := by
  have leap : isLeap y = true ↔ y % 4 = 0 ∧ (y % 100 ≠ 0 ∨ y % 400 = 0) := by
    simp [isLeap]
  have ends : m = 2 → d = 29 → EndsLeap (y - 1) := by
    rintro rfl rfl
    rw [daysIn, if_pos rfl] at d1
    have l := leap.mp (by
      by_contra no
      rw [if_neg no] at d1
      omega)
    simp only [EndsLeap]
    omega
  rw [dayOf_march]
  by_cases early : m ≤ 2
  · rw [if_pos early, if_pos early]
    have days : d ≤ marchDays (m + 9) := by
      obtain rfl | rfl : m = 1 ∨ m = 2 := by omega
      · exact d1
      · rw [daysIn, if_pos rfl] at d1
        show d ≤ 29
        split at d1 <;> omega
    rw [civilOf_marchNumber (by omega) (by omega) (by omega) d0 days fun last late => ends (by omega) late, if_neg (by omega), if_neg (by omega),
      Nat.sub_add_cancel (by omega), Nat.add_sub_cancel]
  · rw [if_neg early, if_neg early]
    have days : d ≤ marchDays (m - 3) := by
      rw [daysIn, if_neg (by omega)] at d1
      rw [marchDays, if_neg (by omega)]
      split at d1 <;> split <;> omega
    rw [civilOf_marchNumber (by omega) (by omega) (by omega) d0 days (fun last => by omega)]
    by_cases spring : m - 3 < 10
    · rw [if_pos spring, if_pos spring, Nat.sub_add_cancel (by omega)]
    · omega

/-- R418, R419: the fields of a count that a date and a time of day give. -/
theorem fieldsOf_count {D h mi se : Nat} (hh : h ≤ 23) (hmi : mi ≤ 59) (hse : se ≤ 59) :
    fieldsOf (D * 86400 + h * 3600 + mi * 60 + se) = ⟨se, mi, h, civilOf D⟩ := by
  have second : (D * 86400 + h * 3600 + mi * 60 + se) % 60 = se := by omega
  have minute : (D * 86400 + h * 3600 + mi * 60 + se) / 60 % 60 = mi := by omega
  have hour : (D * 86400 + h * 3600 + mi * 60 + se) / 3600 % 24 = h := by omega
  have day : (D * 86400 + h * 3600 + mi * 60 + se) / 86400 = D := by omega
  rw [fieldsOf, second, minute, hour, dayOfCount, day]

/-! ### Alarms -/

/-- The fields that alarms may change. -/
def alarmFields : List Field := [RTC_ALM_CFG_FIRED 0, RTC_ALM_CFG_SKIP 0, RTC_ALM_CFG_FIRED 1, RTC_ALM_CFG_SKIP 1, NOTE_RAW 0x19, MSIX_PBA]

/-- What the alarms keep. -/
structure AlarmKeeps (s t : State) : Prop where
  cal : t.cal = s.cal
  only : OnlyFields alarmFields s t
  domains : t.domains = s.domains
  scrapped : t.startup.scrapped = s.startup.scrapped

theorem AlarmKeeps.refl (s : State) : AlarmKeeps s s := ⟨rfl, .refl _ s, rfl, rfl⟩

theorem AlarmKeeps.trans {s t u : State} (h : AlarmKeeps s t) (k : AlarmKeeps t u) : AlarmKeeps s u :=
  ⟨k.cal.trans h.cal, h.only.trans k.only, k.domains.trans h.domains, k.scrapped.trans h.scrapped⟩

theorem State.rtcOn_congr {s t : State} (domains : t.domains = s.domains) (scrapped : t.startup.scrapped = s.startup.scrapped) : t.rtcOn = s.rtcOn := by
  have on : t.pageOn 0x19 = s.pageOn 0x19 := by
    simp only [State.pageOn, State.domain, domains]
  rw [State.rtcOn, State.rtcOn, scrapped, on]

theorem State.rtcNote_domains (s : State) (n : Notice) : (s.rtcNote n).domains = s.domains := by
  rw [State.rtcNote, State.noticeIf]
  split
  · exact State.notice_domains s n
  · rfl

theorem State.rtcNote_startup (s : State) (n : Notice) : (s.rtcNote n).startup = s.startup := by
  rw [State.rtcNote, State.noticeIf]
  split
  · exact State.notice_startup s n
  · rfl

theorem State.rtcNote_cal (s : State) (n : Notice) : (s.rtcNote n).cal = s.cal := by
  rw [State.rtcNote, State.noticeIf]
  split
  · exact State.notice_cal s n
  · rfl

theorem State.rtcNote_only (s : State) {n : Notice} (page : n.page = 0x19) : OnlyFields [NOTE_RAW 0x19, MSIX_PBA] s (s.rtcNote n) := by
  rw [State.rtcNote, State.noticeIf]
  split
  · exact (OnlyFields.refl _ s).notice n (by rw [page]; decide) (by decide)
  · exact .refl _ s

theorem State.rtcNote_noted {s : State} (on : s.rtcOn = true) {n : Notice} (bit : n.bit < 32) : Noted n (s.rtcNote n) := by
  rw [State.rtcNote, State.noticeIf, if_pos on]
  exact State.noted_notice s n bit

/-- What wakes the module from HOLD. -/
def State.alarmWoken (s : State) (k : Nat) : State :=
  if s.startup.phase = .hold ∧ s.startup.vin ∧ s.rdB (RTC_ALM_CFG_WAKE k) ∧ s.startup.wake = none then
    { s with startup := { s.startup with wake := some 2 } } else s

theorem State.alarmWoken_keeps (s : State) (k : Nat) : AlarmKeeps s (s.alarmWoken k) := by
  rw [State.alarmWoken]
  split
  · exact ⟨rfl, .of_regs rfl, rfl, rfl⟩
  · exact .refl s

theorem State.alarmFire_keeps (s : State) {k : Nat} (hk : k < 2) (skip : Bool) : AlarmKeeps s (s.alarmFire k skip) := by
  have is : s.alarmFire k skip = (((s.wr (RTC_ALM_CFG_FIRED k) 1).wrB (RTC_ALM_CFG_SKIP k) skip).alarmWoken k).rtcNote (almNotice k) := rfl
  have page : (almNotice k).page = 0x19 := by rw [almNotice]; split <;> rfl
  have fired : AlarmKeeps s ((s.wr (RTC_ALM_CFG_FIRED k) 1).wrB (RTC_ALM_CFG_SKIP k) skip) :=
    ⟨rfl, ((OnlyFields.refl _ s).wr (f := RTC_ALM_CFG_FIRED k) 1 (by interval_cases k <;> decide)).wr (f := RTC_ALM_CFG_SKIP k) _
      (by interval_cases k <;> decide), rfl, rfl⟩
  rw [is]
  generalize (s.wr (RTC_ALM_CFG_FIRED k) 1).wrB (RTC_ALM_CFG_SKIP k) skip = u at fired
  have woken := fired.trans (u.alarmWoken_keeps k)
  generalize u.alarmWoken k = v at woken
  exact woken.trans ⟨v.rtcNote_cal _, (v.rtcNote_only page).mono (by decide), v.rtcNote_domains _, by rw [v.rtcNote_startup]⟩

theorem State.alarms_keeps {f : State → Nat → State} (step : ∀ u k, k < 2 → AlarmKeeps u (f u k)) (s : State) : AlarmKeeps s ([0, 1].foldl f s) :=
  (step s 0 (by decide)).trans (step _ 1 (by decide))

theorem State.alarmTick_keeps (s : State) (c : ClockFields) : AlarmKeeps s (s.alarmTick c) := by
  refine State.alarms_keeps (fun u k hk => ?_) s
  split
  · exact u.alarmFire_keeps hk false
  · exact .refl u

theorem State.alarmAdjust_keeps (s : State) (a b : Nat) : AlarmKeeps s (s.alarmAdjust a b) := by
  rw [State.alarmAdjust]
  split
  · exact .refl s
  · refine State.alarms_keeps (fun u k hk => ?_) s
    split
    · split
      · exact u.alarmFire_keeps hk true
      · split
        · exact u.alarmFire_keeps hk false
        · exact .refl u
    · exact .refl u

/-! ### The wrap of the fraction -/

/-- The fields that the end of a leap may change. -/
def leapFields : List Field := [TIM_UTC_OFFSET, RTC_LEAP_ARM, RTC_STATUS_LEAP_NOW, SLT_LOST, NOTE_RAW 0x1E, NOTE_RAW 0x19, MSIX_PBA]

/-- The offset that the end of a leap gives. -/
def State.leapOffset (s : State) (del : Bool) : Int := s.rdS TIM_UTC_OFFSET + (if del then -1 else 1)

/-- A leap that ends with an offset, before it is reported. -/
def State.leapEnded (s : State) (o : Int) : State :=
  { ((s.wrS TIM_UTC_OFFSET o).wr RTC_LEAP_ARM 0).wr RTC_STATUS_LEAP_NOW 0 with
    cal := { s.cal with utcOffset := codeOf 16 o, disturbed := true } }

theorem State.leapEnded_spec (s : State) (o : Int) : let t := s.leapEnded o
    t.cal = { s.cal with utcOffset := codeOf 16 o, disturbed := true } ∧ OnlyFields leapFields s t ∧ t.rd RTC_LEAP_ARM = 0 ∧
      t.rd RTC_STATUS_LEAP_NOW = 0 ∧ t.domains = s.domains ∧ t.startup = s.startup := by
  have only : OnlyFields leapFields s (((s.wrS TIM_UTC_OFFSET o).wr RTC_LEAP_ARM 0).wr RTC_STATUS_LEAP_NOW 0) :=
    (((OnlyFields.refl _ s).wr (f := TIM_UTC_OFFSET) _ (by decide)).wr (f := RTC_LEAP_ARM) 0 (by decide)).wr (f := RTC_STATUS_LEAP_NOW) 0 (by decide)
  have arm : (((s.wrS TIM_UTC_OFFSET o).wr RTC_LEAP_ARM 0).wr RTC_STATUS_LEAP_NOW 0).rd RTC_LEAP_ARM = 0 := by
    rw [State.rd_wr_ne _ _ (by decide), State.rd_wr_of_lt _ (by decide)]
  have now : (((s.wrS TIM_UTC_OFFSET o).wr RTC_LEAP_ARM 0).wr RTC_STATUS_LEAP_NOW 0).rd RTC_STATUS_LEAP_NOW = 0 := State.rd_wr_of_lt _ (by decide)
  have domains : (((s.wrS TIM_UTC_OFFSET o).wr RTC_LEAP_ARM 0).wr RTC_STATUS_LEAP_NOW 0).domains = s.domains := rfl
  have startup : (((s.wrS TIM_UTC_OFFSET o).wr RTC_LEAP_ARM 0).wr RTC_STATUS_LEAP_NOW 0).startup = s.startup := rfl
  dsimp only
  rw [State.leapEnded]
  generalize ((s.wrS TIM_UTC_OFFSET o).wr RTC_LEAP_ARM 0).wr RTC_STATUS_LEAP_NOW 0 = u at *
  exact ⟨rfl, only.congr rfl, (State.rd_congr rfl _).trans arm, (State.rd_congr rfl _).trans now, domains, startup⟩

theorem State.leapDone_spec (s : State) (del : Bool) : let t := s.leapDone del
    t.cal = { s.cal with utcOffset := codeOf 16 (s.leapOffset del), disturbed := true } ∧ OnlyFields leapFields s t ∧ t.rd RTC_LEAP_ARM = 0 ∧
      t.rd RTC_STATUS_LEAP_NOW = 0 ∧ t.domains = s.domains ∧ t.startup = s.startup := by
  have is : s.leapDone del = ((s.leapEnded (s.leapOffset del)).silt 0x1902 0 (if del then 1 else 0)).rtcNote RTC_NOTE_LEAP_DONE := rfl
  obtain ⟨cal, only, arm, now, domains, startup⟩ := s.leapEnded_spec (s.leapOffset del)
  dsimp only
  rw [is]
  generalize s.leapEnded (s.leapOffset del) = u at *
  have told := only.silt 0x1902 0 (if del then 1 else 0) 0 0 (by decide) (by decide) (by decide)
  have kept {f : Field} (lost : f.key ≠ SLT_LOST.key) (note : f.key ≠ (NOTE_RAW 0x1E).key) (pba : f.key ≠ MSIX_PBA.key) :
      (u.silt 0x1902 0 (if del then 1 else 0)).rd f = u.rd f := State.rd_silt_ne _ _ _ _ _ _ lost note pba
  obtain ⟨r, e, i, told_is⟩ := u.silt_eq 0x1902 0 (if del then 1 else 0) 0 0
  have cal' : (u.silt 0x1902 0 (if del then 1 else 0)).cal = u.cal := by rw [told_is]
  have domains' : (u.silt 0x1902 0 (if del then 1 else 0)).domains = u.domains := by rw [told_is]
  have startup' : (u.silt 0x1902 0 (if del then 1 else 0)).startup = u.startup := by rw [told_is]
  have arm' := (kept (f := RTC_LEAP_ARM) (by decide) (by decide) (by decide)).trans arm
  have now' := (kept (f := RTC_STATUS_LEAP_NOW) (by decide) (by decide) (by decide)).trans now
  generalize u.silt 0x1902 0 (if del then 1 else 0) = v at *
  have noted := v.rtcNote_only (n := RTC_NOTE_LEAP_DONE) rfl
  exact ⟨by rw [State.rtcNote_cal, cal', cal], told.trans (noted.mono (by decide)), (noted _ (by decide)).trans arm', (noted _ (by decide)).trans now',
    by rw [State.rtcNote_domains, domains', domains], by rw [State.rtcNote_startup, startup', startup]⟩

/-- R418, R422: what the wrap of the fraction does to the count. -/
def Wrapped (s t : State) : Prop :=
  if s.rd RTC_STATUS_LEAP_NOW = 1 then
    t.cal.secs = (s.cal.secs + 1) % 2 ^ 48 ∧ t.rd RTC_STATUS_LEAP_NOW = 0 ∧ t.rd RTC_LEAP_ARM = 0 ∧ t.cal.utcOffset = codeOf 16 (s.rdS TIM_UTC_OFFSET + 1)
  else if s.rd RTC_LEAP_ARM = 1 ∧ s.rd RTC_LEAP_DATE = s.cal.secs / 86400 ∧ s.rd RTC_LEAP_SIGN = 0 ∧ s.cal.secs % 86400 = 86399 then
    t.cal.secs = s.cal.secs ∧ t.rd RTC_STATUS_LEAP_NOW = 1
  else if s.rd RTC_LEAP_ARM = 1 ∧ s.rd RTC_LEAP_DATE = s.cal.secs / 86400 ∧ s.rd RTC_LEAP_SIGN = 1 ∧ s.cal.secs % 86400 = 86398 then
    t.cal.secs = (s.cal.secs + 2) % 2 ^ 48 ∧ t.rd RTC_LEAP_ARM = 0 ∧ t.cal.utcOffset = codeOf 16 (s.rdS TIM_UTC_OFFSET - 1)
  else t.cal.secs = (s.cal.secs + 1) % 2 ^ 48

/-- The fields that the wrap may change. -/
def wrapFields : List Field := leapFields ++ alarmFields

/-- What the wrap keeps. -/
structure WrapKeeps (s t : State) : Prop where
  frac : t.cal.frac = s.cal.frac
  pulses : t.cal.pulses = s.cal.pulses
  load : t.cal.load = s.cal.load
  only : OnlyFields wrapFields s t
  domains : t.domains = s.domains
  scrapped : t.startup.scrapped = s.startup.scrapped

/-- The second count put. -/
def State.withSecs (s : State) (n : Nat) : State := { s with cal := { s.cal with secs := n % 2 ^ 48 } }

theorem State.rollover_eq (s : State) : s.rollover =
    if s.rdB RTC_STATUS_LEAP_NOW then ((s.withSecs (s.cal.secs + 1)).leapDone false).alarmTick (fieldsOf (s.cal.secs + 1))
    else if s.cal.secs % 86400 = 86399 ∧ s.leapToday false then (s.wr RTC_STATUS_LEAP_NOW 1).alarmTick { fieldsOf s.cal.secs with second := 60 }
    else if s.cal.secs % 86400 = 86398 ∧ s.leapToday true then ((s.withSecs (s.cal.secs + 2)).leapDone true).alarmAdjust s.cal.secs (s.cal.secs + 2)
    else (s.withSecs (s.cal.secs + 1)).alarmTick (fieldsOf (s.cal.secs + 1)) := rfl

theorem State.leapToday_iff (s : State) (del : Bool) : s.leapToday del = true ↔
    s.rd RTC_LEAP_ARM = 1 ∧ s.rd RTC_LEAP_DATE = s.cal.secs / 86400 ∧ s.rd RTC_LEAP_SIGN = (if del then 1 else 0) := by
  have sign := s.rd_bit (f := RTC_LEAP_SIGN) rfl
  have is : s.rdB RTC_LEAP_SIGN = del ↔ s.rd RTC_LEAP_SIGN = if del then 1 else 0 := by
    rw [State.rdB]
    rcases sign with h | h <;> rw [h] <;> cases del <;> decide
  rw [State.leapToday, Bool.and_eq_true, Bool.and_eq_true, beq_iff_eq, beq_iff_eq, is, State.rdB, beq_iff_eq, dayOfCount]
  exact ⟨fun ⟨⟨a, b⟩, c⟩ => ⟨a, c, b⟩, fun ⟨a, c, b⟩ => ⟨⟨a, b⟩, c⟩⟩

/-- A leap that is done, and the alarms after it. -/
theorem State.leapWrapped (s : State) (n : Nat) (del : Bool) {t : State} (alarms : AlarmKeeps ((s.withSecs n).leapDone del) t) :
    WrapKeeps s t ∧ t.cal.secs = n % 2 ^ 48 ∧ t.rd RTC_STATUS_LEAP_NOW = 0 ∧ t.rd RTC_LEAP_ARM = 0 ∧ t.cal.utcOffset = codeOf 16 (s.leapOffset del) := by
  obtain ⟨cal, only, arm, now, domains, startup⟩ := (s.withSecs n).leapDone_spec del
  have offset : (s.withSecs n).leapOffset del = s.leapOffset del := rfl
  have only₀ : OnlyFields leapFields s ((s.withSecs n).leapDone del) := only
  rw [offset] at cal
  generalize (s.withSecs n).leapDone del = u at *
  refine ⟨⟨by rw [alarms.cal, cal]; rfl, by rw [alarms.cal, cal]; rfl, by rw [alarms.cal, cal]; rfl,
    (only₀.mono (List.subset_append_left _ _)).trans (alarms.only.mono (List.subset_append_right _ _)), alarms.domains.trans domains,
    alarms.scrapped.trans (by rw [startup]; rfl)⟩, by rw [alarms.cal, cal]; rfl, (alarms.only _ (by decide)).trans now,
    (alarms.only _ (by decide)).trans arm, by rw [alarms.cal, cal]⟩

theorem State.rollover_spec (s : State) : Wrapped s s.rollover ∧ WrapKeeps s s.rollover := by
  rw [State.rollover_eq, Wrapped]
  by_cases now : s.rd RTC_STATUS_LEAP_NOW = 1
  · rw [if_pos now, if_pos (State.rdB_of now)]
    obtain ⟨kept, secs, over_, arm, offset⟩ := s.leapWrapped (s.cal.secs + 1) false (State.alarmTick_keeps _ (fieldsOf (s.cal.secs + 1)))
    exact ⟨⟨secs, over_, arm, offset⟩, kept⟩
  rw [if_neg now, if_neg (c := s.rdB RTC_STATUS_LEAP_NOW = true) (fun h => now (State.rdB_eq_true h rfl))]
  by_cases insert : s.rd RTC_LEAP_ARM = 1 ∧ s.rd RTC_LEAP_DATE = s.cal.secs / 86400 ∧ s.rd RTC_LEAP_SIGN = 0 ∧ s.cal.secs % 86400 = 86399
  · obtain ⟨armed, date, sign, last⟩ := insert
    rw [if_pos ⟨armed, date, sign, last⟩, if_pos ⟨last, (s.leapToday_iff false).mpr ⟨armed, date, sign⟩⟩]
    have alarms := (s.wr RTC_STATUS_LEAP_NOW 1).alarmTick_keeps { fieldsOf s.cal.secs with second := 60 }
    have shown : (s.wr RTC_STATUS_LEAP_NOW 1).rd RTC_STATUS_LEAP_NOW = 1 := State.rd_wr_of_lt _ (by decide)
    have only : OnlyFields leapFields s (s.wr RTC_STATUS_LEAP_NOW 1) := (OnlyFields.refl _ s).wr (f := RTC_STATUS_LEAP_NOW) 1 (by decide)
    exact ⟨⟨by rw [alarms.cal]; rfl, (alarms.only _ (by decide)).trans shown⟩, by rw [alarms.cal]; rfl, by rw [alarms.cal]; rfl, by rw [alarms.cal]; rfl,
      (only.mono (List.subset_append_left _ _)).trans (alarms.only.mono (List.subset_append_right _ _)), alarms.domains, alarms.scrapped⟩
  rw [if_neg insert, if_neg (c := s.cal.secs % 86400 = 86399 ∧ s.leapToday false = true) (fun ⟨last, today⟩ => by
    obtain ⟨armed, date, sign⟩ := (s.leapToday_iff false).mp today
    exact insert ⟨armed, date, sign, last⟩)]
  by_cases delete : s.rd RTC_LEAP_ARM = 1 ∧ s.rd RTC_LEAP_DATE = s.cal.secs / 86400 ∧ s.rd RTC_LEAP_SIGN = 1 ∧ s.cal.secs % 86400 = 86398
  · obtain ⟨armed, date, sign, last⟩ := delete
    rw [if_pos ⟨armed, date, sign, last⟩, if_pos ⟨last, (s.leapToday_iff true).mpr ⟨armed, date, sign⟩⟩]
    obtain ⟨kept, secs, over_, arm, offset⟩ := s.leapWrapped (s.cal.secs + 2) true (State.alarmAdjust_keeps _ s.cal.secs (s.cal.secs + 2))
    exact ⟨⟨secs, arm, offset⟩, kept⟩
  rw [if_neg delete, if_neg (c := s.cal.secs % 86400 = 86398 ∧ s.leapToday true = true) (fun ⟨last, today⟩ => by
    obtain ⟨armed, date, sign⟩ := (s.leapToday_iff true).mp today
    exact delete ⟨armed, date, sign, last⟩)]
  have alarms := (s.withSecs (s.cal.secs + 1)).alarmTick_keeps (fieldsOf (s.cal.secs + 1))
  exact ⟨by rw [alarms.cal]; rfl, by rw [alarms.cal]; rfl, by rw [alarms.cal]; rfl, by rw [alarms.cal]; rfl,
    OnlyFields.trans (.of_regs rfl) (alarms.only.mono (List.subset_append_right _ _)), alarms.domains, alarms.scrapped⟩

/-! ### A pulse -/

/-- A pulse's normal advance of the fraction. -/
def State.pulsed (s : State) : State := { s with cal := { s.cal with frac := (s.cal.frac + 2) % 65536, pulses := s.cal.pulses + 1, load := none } }

/-- The end of a pulse: RANGE, and the block published. -/
def State.pulseShown (s : State) : State := (s.wrB RTC_STATUS_RANGE (lastCount < s.cal.secs)).rtcPublish

/-- The fields that the end of a pulse may change. -/
def shownFields : List Field := [RTC_STATUS_RANGE, SEQ_COUNT 0x19, FRESH 0x19]

theorem State.pulseAdds_untrimmed {s : State} (h : s.rd RTC_TRIM = 0) : s.pulseAdds = 2 := by
  have trim : s.trim = 0 := by
    rw [State.trim, State.rdS, h]
    decide
  have hits : trimHits (0 : Int).natAbs s.cal.pulses = false := by
    rw [trimHits, Int.natAbs_zero, Nat.mul_zero, Nat.mul_zero]
    rfl
  rw [State.pulseAdds, trim, hits]
  rfl

theorem State.advance_untrimmed {s : State} (h : s.rd RTC_TRIM = 0) :
    s.advance = (if s.cal.frac + 2 < 65536 then s.pulsed else s.pulsed.rollover).pulseShown := by
  rw [State.advance, State.pulseAdds_untrimmed h]
  dsimp only
  rw [if_neg (Nat.ne_of_gt (Nat.lt_add_of_pos_right (by decide : 0 < 2)))]
  by_cases low : s.cal.frac + 2 < 65536
  · rw [if_pos low, if_neg (by omega)]
    rfl
  · rw [if_neg low, if_pos (by omega)]
    rfl

theorem State.rtcPublish_parts (s : State) : ∃ m, s.rtcPublish = { s with regs := m } := by
  rw [State.rtcPublish]
  split
  · exact s.publish_parts 0x19 0 (SEQ_COUNT 0x19)
  · exact ⟨_, rfl⟩

theorem State.rtcPublish_only (s : State) : OnlyFields [SEQ_COUNT 0x19, FRESH 0x19] s s.rtcPublish := by
  rw [State.rtcPublish]
  split
  · exact (OnlyFields.refl _ s).publish 0x19 0 (SEQ_COUNT 0x19) (by decide) (by decide)
  · exact .refl _ s

theorem State.rtcPublish_publishes {s t : State} (on : t.rtcOn = true) (seq : t.rd (SEQ_COUNT 0x19) = s.rd (SEQ_COUNT 0x19)) : Publishes 0x19 s t.rtcPublish := by
  rw [State.rtcPublish, if_pos on]
  exact ⟨by rw [State.rd_publish_seq _ _ _ _ (by decide), seq], State.fresh_publish _ _ _ _ (by decide)⟩

theorem State.pulseShown_cal (s : State) : s.pulseShown.cal = s.cal := by
  obtain ⟨m, is⟩ := (s.wrB RTC_STATUS_RANGE (lastCount < s.cal.secs)).rtcPublish_parts
  rw [State.pulseShown, is]
  rfl

theorem State.pulseShown_only (s : State) : OnlyFields shownFields s s.pulseShown :=
  ((OnlyFields.refl _ s).wr (f := RTC_STATUS_RANGE) _ List.mem_cons_self).trans ((State.rtcPublish_only _).mono (by decide))

theorem State.pulseShown_publishes {s t : State} (on : t.rtcOn = true) (seq : t.rd (SEQ_COUNT 0x19) = s.rd (SEQ_COUNT 0x19)) :
    Publishes 0x19 s t.pulseShown := by
  have on' : (t.wrB RTC_STATUS_RANGE (lastCount < t.cal.secs)).rtcOn = true := on
  exact State.rtcPublish_publishes on' ((State.rd_wr_ne t _ (by decide)).trans seq)

/-- R418, R420: the advance of a pulse, with no trim. -/
theorem State.advance_spec {s : State} (h : s.rd RTC_TRIM = 0) : let t := s.advance
    t.cal.frac = (s.cal.frac + 2) % 65536 ∧ t.cal.pulses = s.cal.pulses + 1 ∧ t.cal.load = none ∧ (s.rtcOn = true → Publishes 0x19 s t) ∧
      t.domains = s.domains ∧
      if s.cal.frac + 2 < 65536 then t.cal.secs = s.cal.secs ∧ OnlyFields shownFields s t else Wrapped s t := by
  have domains (u : State) : u.pulseShown.domains = u.domains := by
    obtain ⟨m, is⟩ := (u.wrB RTC_STATUS_RANGE (lastCount < u.cal.secs)).rtcPublish_parts
    rw [State.pulseShown, is]
    rfl
  dsimp only
  rw [State.advance_untrimmed h]
  by_cases low : s.cal.frac + 2 < 65536
  · rw [if_pos low, if_pos low, State.pulseShown_cal]
    exact ⟨rfl, rfl, rfl, fun on => State.pulseShown_publishes (t := s.pulsed) on rfl, domains s.pulsed, rfl,
      OnlyFields.trans (.of_regs rfl) s.pulsed.pulseShown_only⟩
  · rw [if_neg low, if_neg low, State.pulseShown_cal, domains]
    obtain ⟨wrapped, kept⟩ := s.pulsed.rollover_spec
    have shown := s.pulsed.rollover.pulseShown_only
    have cal := s.pulsed.rollover.pulseShown_cal
    have published : s.rtcOn = true → Publishes 0x19 s s.pulsed.rollover.pulseShown := fun on =>
      State.pulseShown_publishes ((State.rtcOn_congr kept.domains kept.scrapped).trans on) (kept.only _ (by decide))
    refine ⟨kept.frac, kept.pulses, kept.load, published, kept.domains, ?_⟩
    have wrapped₀ : Wrapped s s.pulsed.rollover := wrapped
    generalize s.pulsed.rollover.pulseShown = t at *
    rw [Wrapped] at wrapped₀ ⊢
    rw [cal, shown RTC_STATUS_LEAP_NOW (by decide), shown RTC_LEAP_ARM (by decide)]
    exact wrapped₀

/-! ### The pulses of a second -/

theorem State.aonPulse_unloaded {s : State} (h : s.cal.load = none) : s.aonPulse = s.advance := by
  rw [State.aonPulse, h]
  rfl

/-- What every pulse of a plain second meets. -/
structure PlainSecond (s : State) : Prop where
  trim : s.rd RTC_TRIM = 0
  now : s.rd RTC_STATUS_LEAP_NOW = 0
  arm : s.rd RTC_LEAP_ARM = 0
  load : s.cal.load = none
  frac : s.cal.frac < 65536

theorem PlainSecond.pulse {s : State} (h : PlainSecond s) (low : s.cal.frac + 2 < 65536) :
    PlainSecond s.aonPulse ∧ s.aonPulse.cal.frac = s.cal.frac + 2 ∧ s.aonPulse.cal.pulses = s.cal.pulses + 1 ∧ s.aonPulse.cal.secs = s.cal.secs := by
  obtain ⟨frac, pulses, load, -, -, rest⟩ := State.advance_spec h.trim
  rw [if_pos low] at rest
  obtain ⟨secs, only⟩ := rest
  rw [Nat.mod_eq_of_lt low] at frac
  rw [State.aonPulse_unloaded h.load]
  exact ⟨⟨(only _ (by decide)).trans h.trim, (only _ (by decide)).trans h.now, (only _ (by decide)).trans h.arm, load, by rw [frac]; exact low⟩,
    frac, pulses, secs⟩

theorem PlainSecond.wrap {s : State} (h : PlainSecond s) (high : 65536 ≤ s.cal.frac + 2) :
    s.aonPulse.cal.secs = (s.cal.secs + 1) % 2 ^ 48 ∧ s.aonPulse.cal.frac = s.cal.frac % 2 ∧ s.aonPulse.cal.pulses = s.cal.pulses + 1 := by
  obtain ⟨frac, pulses, -, -, -, rest⟩ := State.advance_spec h.trim
  rw [if_neg (Nat.not_lt.mpr high), Wrapped, if_neg (by rw [h.now]; decide), if_neg (by rw [h.arm]; exact fun h => absurd h.1 (by decide)),
    if_neg (by rw [h.arm]; exact fun h => absurd h.1 (by decide))] at rest
  have lt := h.frac
  rw [State.aonPulse_unloaded h.load]
  exact ⟨rest, by rw [frac]; omega, pulses⟩

/-- R418: the pulses up to the wrap of a plain second. -/
theorem PlainSecond.rollover {s : State} (h : PlainSecond s) {n : Nat} (room : (65537 - s.cal.frac) / 2 ≤ n) : let t := s.pulsesToWrap n
    t.cal.secs = (s.cal.secs + 1) % 2 ^ 48 ∧ t.cal.frac = s.cal.frac % 2 ∧ t.cal.pulses = s.cal.pulses + (65537 - s.cal.frac) / 2 := by
  induction n generalizing s with
  | zero =>
    have lt := h.frac
    omega
  | succ n ih =>
    have adds : s.pulseAdds = 2 := State.pulseAdds_untrimmed h.trim
    dsimp only
    rw [State.pulsesToWrap, h.load, adds, Option.isNone_none, Bool.true_and]
    by_cases high : 65536 ≤ s.cal.frac + 2
    · rw [if_pos (decide_eq_true high)]
      obtain ⟨secs, frac, pulses⟩ := h.wrap high
      have lt := h.frac
      exact ⟨secs, frac, by rw [pulses]; omega⟩
    · rw [if_neg (c := decide (65536 ≤ s.cal.frac + 2) = true) (by rwa [decide_eq_true_iff])]
      obtain ⟨plain, frac, pulses, secs⟩ := h.pulse (Nat.lt_of_not_le high)
      obtain ⟨secs', frac', pulses'⟩ := ih plain (by rw [frac]; omega)
      exact ⟨by rw [secs', secs], by rw [frac', frac]; omega, by rw [pulses', pulses, frac]; omega⟩

/-! ### Loads and steps -/

/-- The count and fraction of a load, in place of the normal advance. -/
def State.loaded (s : State) (v : CalTime) : State :=
  (({ s with cal := { s.cal with secs := v.secs, frac := v.frac, pulses := s.cal.pulses + 1, load := none, disturbed := true } } : State).wr
    RTC_STATUS_OSF 0).wr RTC_STATUS_LEAP_NOW 0

theorem State.calLoad_eq (s : State) (v : CalTime) : s.calLoad v =
    (((s.loaded v).wrB RTC_STATUS_RANGE (lastCount < v.secs)).alarmAdjust s.cal.secs v.secs).rtcPublish := rfl

/-- R421: what a load leaves. -/
theorem State.calLoad_spec (s : State) (v : CalTime) : let t := s.calLoad v
    t.cal = { s.cal with secs := v.secs, frac := v.frac, pulses := s.cal.pulses + 1, load := none, disturbed := true } ∧
      t.rd RTC_STATUS_OSF = 0 ∧ t.rd RTC_STATUS_LEAP_NOW = 0 ∧ (s.rtcOn = true → Publishes 0x19 s t) ∧ t.rtcOn = s.rtcOn := by
  have osf : (s.loaded v).rd RTC_STATUS_OSF = 0 := (State.rd_wr_ne _ _ (by decide)).trans (State.rd_wr_of_lt _ (by decide))
  have now : (s.loaded v).rd RTC_STATUS_LEAP_NOW = 0 := State.rd_wr_of_lt _ (by decide)
  have seq : (s.loaded v).rd (SEQ_COUNT 0x19) = s.rd (SEQ_COUNT 0x19) :=
    (State.rd_wr_ne _ _ (by decide)).trans ((State.rd_wr_ne _ _ (by decide)).trans (State.rd_congr rfl _))
  have cal : (s.loaded v).cal = { s.cal with secs := v.secs, frac := v.frac, pulses := s.cal.pulses + 1, load := none, disturbed := true } := rfl
  have on : (s.loaded v).rtcOn = s.rtcOn := rfl
  dsimp only
  rw [State.calLoad_eq]
  generalize s.loaded v = u at *
  have ranged : OnlyFields [RTC_STATUS_RANGE] u (u.wrB RTC_STATUS_RANGE (lastCount < v.secs)) :=
    (OnlyFields.refl _ u).wr (f := RTC_STATUS_RANGE) _ List.mem_cons_self
  have alarms := (u.wrB RTC_STATUS_RANGE (lastCount < v.secs)).alarmAdjust_keeps s.cal.secs v.secs
  have through {f : Field} (range : ∀ g ∈ [RTC_STATUS_RANGE], f.key ≠ g.key) (alarm : ∀ g ∈ alarmFields, f.key ≠ g.key) :
      ((u.wrB RTC_STATUS_RANGE (lastCount < v.secs)).alarmAdjust s.cal.secs v.secs).rd f = u.rd f :=
    (alarms.only f alarm).trans (ranged f range)
  have cal' : ((u.wrB RTC_STATUS_RANGE (lastCount < v.secs)).alarmAdjust s.cal.secs v.secs).cal = u.cal := alarms.cal
  have on' : ((u.wrB RTC_STATUS_RANGE (lastCount < v.secs)).alarmAdjust s.cal.secs v.secs).rtcOn = u.rtcOn :=
    State.rtcOn_congr alarms.domains alarms.scrapped
  have osf' := (through (f := RTC_STATUS_OSF) (by decide) (by decide)).trans osf
  have now' := (through (f := RTC_STATUS_LEAP_NOW) (by decide) (by decide)).trans now
  have seq' := (through (f := SEQ_COUNT 0x19) (by decide) (by decide)).trans seq
  generalize (u.wrB RTC_STATUS_RANGE (lastCount < v.secs)).alarmAdjust s.cal.secs v.secs = t at *
  have published := t.rtcPublish_only
  obtain ⟨m, is⟩ := t.rtcPublish_parts
  refine ⟨?_, (published _ (by decide)).trans osf', (published _ (by decide)).trans now', fun h => ?_, ?_⟩
  · rw [is]
    exact cal'.trans cal
  · exact State.rtcPublish_publishes ((on'.trans on).trans h) seq'
  · rw [is]
    exact on'.trans on

theorem State.aonPulse_load {s : State} {v : CalTime} (h : s.cal.load = some (.value v)) : s.aonPulse = s.calLoad v := by
  rw [State.aonPulse, h]
  rfl

theorem State.aonPulse_step {s : State} (h : s.cal.load = some .step) (lo : 0 ≤ s.utcNs) (hi : s.utcNs < 12622780800 * 1000000000) :
    s.aonPulse = s.calStep ⟨s.utcNs.toNat / 1000000000, s.utcNs.toNat % 1000000000 * 65536 / 1000000000⟩ := by
  have value : s.loadValue .step = some ⟨s.utcNs.toNat / 1000000000, s.utcNs.toNat % 1000000000 * 65536 / 1000000000⟩ := by
    rw [State.loadValue]
    refine if_neg ?_
    rw [show ((lastCount + 1 : Int) * 1000000000) = 12622780800 * 1000000000 from rfl]
    omega
  rw [State.aonPulse, h, Option.bind_some, value]

/-- R424: an automatic step, as a load of UTC from module time, with its notice. -/
theorem State.calStep_spec (s : State) (v : CalTime) : let t := s.calStep v
    t.cal.secs = v.secs ∧ t.cal.frac = v.frac ∧ t.cal.load = none ∧ t.rd RTC_STATUS_OSF = 0 ∧ (s.rtcOn = true → Noted RTC_NOTE_STEP t) := by
  have is : s.calStep v = (((s.calLoad v).silt 0x1903 0 (codeOf 32 (s.phaseErr / 1000))).rtcNote RTC_NOTE_STEP).windowStart := rfl
  obtain ⟨cal, osf, -, -, on⟩ := s.calLoad_spec v
  dsimp only
  rw [is]
  generalize s.calLoad v = u at *
  generalize codeOf 32 (s.phaseErr / 1000) = φ
  have osf' : (u.silt 0x1903 0 φ).rd RTC_STATUS_OSF = 0 := (State.rd_silt_ne _ _ _ _ _ _ (by decide) (by decide) (by decide)).trans osf
  obtain ⟨r, e, i, told⟩ := u.silt_eq 0x1903 0 φ 0 0
  have cal' : (u.silt 0x1903 0 φ).cal = u.cal := by rw [told]
  have on' : (u.silt 0x1903 0 φ).rtcOn = u.rtcOn := by rw [told]; rfl
  generalize u.silt 0x1903 0 φ = w at *
  have noted := w.rtcNote_only (n := RTC_NOTE_STEP) rfl
  have cal'' : (w.rtcNote RTC_NOTE_STEP).cal =
      { s.cal with secs := v.secs, frac := v.frac, pulses := s.cal.pulses + 1, load := none, disturbed := true } := by
    rw [State.rtcNote_cal, cal', cal]
  have osf'' := (noted RTC_STATUS_OSF (by decide)).trans osf'
  have shown : s.rtcOn = true → Noted RTC_NOTE_STEP (w.rtcNote RTC_NOTE_STEP) := fun h => State.rtcNote_noted (by rw [on', on, h]) (by decide)
  generalize w.rtcNote RTC_NOTE_STEP = x at *
  exact ⟨congrArg Calendar.secs cal'', congrArg Calendar.frac cal'', congrArg Calendar.load cal'', (State.rd_congr rfl _).trans osf'',
    fun h => Noted.congr (shown h) (State.rd_congr rfl _)⟩

theorem State.aonPulse_completes {s : State} {P : State → Prop} (on : s.aonRunning = true) (post : P s.aonPulse) :
    Completes .calendarFractionAdvance s P :=
  ⟨s.aonPulse, congrArg Host.Outcome.next (if_pos on), post⟩

theorem State.aonStopped {s : State} {i : Instr} (off : s.aonRunning = false) (h : i = .calendarFractionAdvance ∨ i = .rtcSecondRollover) :
    Completes i s fun t => t = s := by
  rcases h with rfl | rfl
  · exact ⟨s, congrArg Host.Outcome.next (if_neg (by rw [off]; decide)), rfl⟩
  · exact ⟨s, congrArg Host.Outcome.next (if_neg (by rw [off]; decide)), rfl⟩

/-! ### Values that the host sets -/

theorem State.rtcReject_spec (s : State) {r : Nat} (lt : r < 16) : (s.rtcReject r).cal = s.cal ∧ (s.rtcReject r).rd RTC_WERR_REASON = r ∧
    Noted RTC_NOTE_WERR (s.rtcReject r) :=
  ⟨State.notice_cal _ _, (State.rd_notice_ne _ _ (by decide) (by decide)).trans (State.rd_wr_of_lt _ lt), State.noted_notice _ RTC_NOTE_WERR (by decide)⟩

theorem State.rtcSetCount_spec (s : State) : let t := s.rtcSetCount
    let n := s.rd RTC_SET_SEC_LO + 2 ^ 32 * s.rd RTC_SET_SEC_HI_SECONDS
    if n ≤ 12622780799 then t.cal = { s.cal with load := some (.value ⟨n, s.rd RTC_SET_SEC_HI_FRACTION⟩) }
    else t.cal = s.cal ∧ t.rd RTC_WERR_REASON = 7 ∧ Noted RTC_NOTE_WERR t := by
  dsimp only
  rw [State.rtcSetCount, lastCount]
  generalize s.rd RTC_SET_SEC_LO + 2 ^ 32 * s.rd RTC_SET_SEC_HI_SECONDS = n
  by_cases fits : n ≤ 12622780799
  · rw [if_pos fits, if_neg (Nat.not_lt.mpr fits)]
    rfl
  · rw [if_neg fits, if_pos (Nat.lt_of_not_le fits)]
    exact s.rtcReject_spec (by decide)

/-- A date and a time of day that the calendar has. -/
abbrev InCalendar (y m d h mi se : Nat) : Prop :=
  2000 ≤ y ∧ y ≤ 2399 ∧ 1 ≤ m ∧ m ≤ 12 ∧ 1 ≤ d ∧ d ≤ daysIn y m ∧ h ≤ 23 ∧ mi ≤ 59 ∧ se ≤ 59

theorem State.rtcSetFields_spec (s : State) : let t := s.rtcSetFields
    if InCalendar (s.rd RTC_SET_DATE_YEAR) (s.rd RTC_SET_DATE_MONTH) (s.rd RTC_SET_DATE_DAY) (s.rd RTC_SET_TIME_HOUR) (s.rd RTC_SET_TIME_MINUTE)
        (s.rd RTC_SET_TIME_SECOND) then
      t.cal = { s.cal with
        load := some (.value ⟨dayOf (s.rd RTC_SET_DATE_YEAR) (s.rd RTC_SET_DATE_MONTH) (s.rd RTC_SET_DATE_DAY) * 86400 +
          s.rd RTC_SET_TIME_HOUR * 3600 + s.rd RTC_SET_TIME_MINUTE * 60 + s.rd RTC_SET_TIME_SECOND, s.rd RTC_SET_SEC_HI_FRACTION⟩) }
    else t.cal = s.cal ∧ Noted RTC_NOTE_WERR t ∧ 1 ≤ t.rd RTC_WERR_REASON ∧ t.rd RTC_WERR_REASON ≤ 6 := by
  have rejects {r : Nat} (lo : 1 ≤ r) (hi : r ≤ 6) : (s.rtcReject r).cal = s.cal ∧ Noted RTC_NOTE_WERR (s.rtcReject r) ∧
      1 ≤ (s.rtcReject r).rd RTC_WERR_REASON ∧ (s.rtcReject r).rd RTC_WERR_REASON ≤ 6 := by
    obtain ⟨cal, reason, noted⟩ := s.rtcReject_spec (r := r) (by omega)
    exact ⟨cal, noted, by rw [reason]; exact lo, by rw [reason]; exact hi⟩
  dsimp only
  rw [State.rtcSetFields]
  generalize s.rd RTC_SET_DATE_YEAR = y
  generalize s.rd RTC_SET_DATE_MONTH = m
  generalize s.rd RTC_SET_DATE_DAY = d
  generalize s.rd RTC_SET_TIME_HOUR = h
  generalize s.rd RTC_SET_TIME_MINUTE = mi
  generalize s.rd RTC_SET_TIME_SECOND = se
  generalize dayOf y m d * 86400 + h * 3600 + mi * 60 + se = n
  by_cases year : y < 2000 ∨ 2399 < y
  · rw [if_pos year, if_neg (by simp only [InCalendar]; omega)]
    exact rejects (by decide) (by decide)
  rw [if_neg year]
  by_cases month : m = 0 ∨ 12 < m
  · rw [if_pos month, if_neg (by simp only [InCalendar]; omega)]
    exact rejects (by decide) (by decide)
  rw [if_neg month]
  by_cases day : d = 0 ∨ daysIn y m < d
  · rw [if_pos day, if_neg (by simp only [InCalendar]; omega)]
    exact rejects (by decide) (by decide)
  rw [if_neg day]
  by_cases hour : 23 < h
  · rw [if_pos hour, if_neg (by simp only [InCalendar]; omega)]
    exact rejects (by decide) (by decide)
  rw [if_neg hour]
  by_cases minute : 59 < mi
  · rw [if_pos minute, if_neg (by simp only [InCalendar]; omega)]
    exact rejects (by decide) (by decide)
  rw [if_neg minute]
  by_cases second : 59 < se
  · rw [if_pos second, if_neg (by simp only [InCalendar]; omega)]
    exact rejects (by decide) (by decide)
  rw [if_neg second, if_pos (by simp only [InCalendar]; omega)]
  rfl

/-! ### Trim windows -/

theorem State.reach_state (s : State) (c : Nat) : (s.reach c).time.state = s.time.state := by
  rw [State.reach]
  split <;> rfl

theorem State.reach_cal (s : State) (c : Nat) : (s.reach c).cal = s.cal := by rw [s.reach_self c]

theorem State.calTicks_reach (s : State) (c : Nat) : (s.reach c).calTicks = s.calTicks := by rw [State.calTicks, State.calTicks, s.reach_cal c]

theorem State.windowStart_reach (s : State) (c : Nat) : (s.reach c).windowStart = { s.reach c with cal := { s.cal with
    disturbed := false, window := some ((s.reach c).moduleTimeAt (s.reach c).time.raw, s.calTicks) } } := by
  rw [State.windowStart, s.reach_cal c, s.calTicks_reach c]

theorem State.trimWindow_open {s : State} {c : Nat} (h : s.time.state ≠ .locked ∨
    ∃ m k, s.cal.window = some (m, k) ∧ (s.reach c).moduleTimeAt (s.reach c).time.raw - m < 1024000000000) : s.trimWindow c = s.reach c := by
  rw [State.trimWindow, s.reach_state c]
  by_cases locked : s.time.state = .locked
  · obtain ⟨m, k, window, young⟩ := h.resolve_left (fun ne => ne locked)
    rw [if_neg (not_not.mpr locked), s.reach_cal c, window]
    exact if_pos young
  · exact if_pos locked

theorem State.trimWindow_discounts {s : State} {c : Nat} (locked : s.time.state = .locked) (h : s.cal.window = none ∨ s.cal.disturbed = true ∧
    ∃ m k, s.cal.window = some (m, k) ∧ 1024000000000 ≤ (s.reach c).moduleTimeAt (s.reach c).time.raw - m) :
    s.trimWindow c = (s.reach c).windowStart := by
  rw [State.trimWindow, s.reach_state c, if_neg (not_not.mpr locked), s.reach_cal c]
  rcases h with none_ | ⟨disturbed, m, k, window, whole⟩
  · rw [none_]
  · rw [window]
    dsimp only
    rw [if_neg (not_lt.mpr whole), if_pos disturbed]

/-- R424: a trim follows the window's errors. -/
theorem State.trimBy_spec (s : State) (e φ : Int) : let t := s.trimBy e φ
    t.rdS RTC_TRIM = max (-549755) (min 549755 (s.rdS RTC_TRIM - roundAway ((e * 4096 + φ * 1000) * 10000000) (4096 * 4656613))) ∧
      t.rdS RTC_DISC = max (-2 ^ 31) (min (2 ^ 31 - 1) e) ∧ t.rdS RTC_PHASE_ERR = max (-2 ^ 31) (min (2 ^ 31 - 1) φ) ∧ Noted RTC_NOTE_TRIM_UPDATE t := by
  have is : s.trimBy e φ = (((s.wrS RTC_TRIM (clampInt (-549755) 549755
      (s.rdS RTC_TRIM - roundAway ((e * 4096 + φ * 1000) * 10000000) (4096 * 4656613)))).wrS RTC_DISC (clampInt (-2 ^ 31) (2 ^ 31 - 1) e)).wrS
      RTC_PHASE_ERR (clampInt (-2 ^ 31) (2 ^ 31 - 1) φ)).notice RTC_NOTE_TRIM_UPDATE := rfl
  dsimp only
  rw [is]
  generalize s.rdS RTC_TRIM - roundAway ((e * 4096 + φ * 1000) * 10000000) (4096 * 4656613) = x
  have noted {f : Field} (u : State) (note : f.key ≠ 0x320200) (pba : f.key ≠ MSIX_PBA.key) : (u.notice RTC_NOTE_TRIM_UPDATE).rdS f = u.rdS f := by
    rw [State.rdS, State.rdS, State.rd_notice_ne u RTC_NOTE_TRIM_UPDATE note pba]
  have other {f g : Field} (u : State) (i : Int) (ne : f.key ≠ g.key) : (u.wrS g i).rdS f = u.rdS f := by
    rw [State.rdS, State.rdS, State.wrS, State.rd_wr_ne _ _ ne]
  refine ⟨?_, ?_, ?_, State.noted_notice _ RTC_NOTE_TRIM_UPDATE (by decide)⟩
  · rw [noted _ (by decide) (by decide), other _ _ (by decide), other _ _ (by decide),
      State.rdS_wrS (by decide) (by simp only [clampInt]; omega) (by simp only [clampInt]; omega), clampInt]
  · rw [noted _ (by decide) (by decide), other _ _ (by decide),
      State.rdS_wrS (by decide) (by simp only [clampInt]; omega) (by simp only [clampInt]; omega), clampInt]
  · rw [noted _ (by decide) (by decide),
      State.rdS_wrS (by decide) (by simp only [clampInt]; omega) (by simp only [clampInt]; omega), clampInt]

/-- The rate error that a window shows (R424). -/
def State.windowErr (s : State) (c k : Nat) (m : Int) : Int :=
  (((s.calTicks : Int) - k) * 1000000000 / 65536 - ((s.reach c).moduleTimeAt (s.reach c).time.raw - m)) * 1000000000 /
    ((s.reach c).moduleTimeAt (s.reach c).time.raw - m)

theorem State.trimWindow_counts {s : State} {c k : Nat} {m : Int} (locked : s.time.state = .locked) (steady : s.cal.disturbed = false)
    (window : s.cal.window = some (m, k)) (whole : 1024000000000 ≤ (s.reach c).moduleTimeAt (s.reach c).time.raw - m) :
    s.trimWindow c = if s.rd RTC_CTRL_AUTO_STEP = 1 ∧ (max 1 (s.rd RTC_STEP_THR) * 1000 : Nat) ≤ (s.reach c).phaseErr.natAbs then
        (s.reach c).rtcStep.windowStart
      else (if s.rd RTC_CTRL_AUTO_TRIM = 1 then (s.reach c).trimBy (s.windowErr c k m) (s.reach c).phaseErr else s.reach c).windowStart := by
  have auto : ((s.reach c).rdB RTC_CTRL_AUTO_STEP && Decidable.decide ((max 1 ((s.reach c).rd RTC_STEP_THR) * 1000 : Nat) ≤ (s.reach c).phaseErr.natAbs)) =
      true ↔ s.rd RTC_CTRL_AUTO_STEP = 1 ∧ (max 1 (s.rd RTC_STEP_THR) * 1000 : Nat) ≤ (s.reach c).phaseErr.natAbs := by
    rw [Bool.and_eq_true, decide_eq_true_iff, State.rdB, beq_iff_eq, State.rd_reach, State.rd_reach]
  have trims : (s.reach c).rdB RTC_CTRL_AUTO_TRIM = true ↔ s.rd RTC_CTRL_AUTO_TRIM = 1 := by
    rw [State.rdB, beq_iff_eq, State.rd_reach]
  rw [State.trimWindow, s.reach_state c, if_neg (not_not.mpr locked), s.reach_cal c, window]
  dsimp only
  rw [if_neg (not_lt.mpr whole), steady, if_neg Bool.false_ne_true, s.calTicks_reach c]
  by_cases step : s.rd RTC_CTRL_AUTO_STEP = 1 ∧ (max 1 (s.rd RTC_STEP_THR) * 1000 : Nat) ≤ (s.reach c).phaseErr.natAbs
  · rw [if_pos step, if_pos (auto.mpr step)]
  · rw [if_neg step, if_neg fun h => step (auto.mp h)]
    by_cases trim : s.rd RTC_CTRL_AUTO_TRIM = 1
    · rw [if_pos trim, if_pos (trims.mpr trim)]
      rfl
    · rw [if_neg trim, if_neg fun h => trim (trims.mp h)]

/-! ### A stopped oscillator -/

/-- OSF, recorded where Silt runs and marked where it does not. -/
def State.osfTold (s : State) : State :=
  if s.live 0x1E then (({ s with mac := { s.mac with osfSinceCharge := true } } : State).wr RTC_STATUS_OSF 1).silt 0x1901
  else { ({ s with mac := { s.mac with osfSinceCharge := true } } : State).wr RTC_STATUS_OSF 1 with cal := { s.cal with osfMark := true } }

theorem State.osfSet_spec (s : State) : let t := s.osfSet
    t.rd RTC_STATUS_OSF = 1 ∧ t.mac.osfSinceCharge = true ∧ (s.rtcOn = true → Noted RTC_NOTE_OSF t) ∧
      if s.live 0x1E then Recorded 0x1901 t ∧ t.cal = s.cal else t.cal = { s.cal with osfMark := true } := by
  have marked : (({ s with mac := { s.mac with osfSinceCharge := true } } : State).wr RTC_STATUS_OSF 1).rd RTC_STATUS_OSF = 1 :=
    State.rd_wr_of_lt _ (by decide)
  have live : (({ s with mac := { s.mac with osfSinceCharge := true } } : State).wr RTC_STATUS_OSF 1).live 0x1E = s.live 0x1E := rfl
  have is : s.osfSet = s.osfTold.rtcNote RTC_NOTE_OSF := rfl
  have told : s.osfTold.rd RTC_STATUS_OSF = 1 ∧ s.osfTold.mac.osfSinceCharge = true ∧ s.osfTold.rtcOn = s.rtcOn ∧
      if s.live 0x1E then Recorded 0x1901 s.osfTold ∧ s.osfTold.cal = s.cal else s.osfTold.cal = { s.cal with osfMark := true } := by
    rw [State.osfTold]
    by_cases runs : s.live 0x1E = true
    · rw [if_pos runs, if_pos runs]
      have recorded := State.recorded_silt (({ s with mac := { s.mac with osfSinceCharge := true } } : State).wr RTC_STATUS_OSF 1) 0x1901 0 0 0 0
      obtain ⟨r, e, i, told⟩ := (({ s with mac := { s.mac with osfSinceCharge := true } } : State).wr RTC_STATUS_OSF 1).silt_eq 0x1901 0 0 0 0
      refine ⟨(State.rd_silt_ne _ _ _ _ _ _ (by decide) (by decide) (by decide)).trans marked, ?_, ?_, recorded, ?_⟩ <;> rw [told] <;> rfl
    · rw [if_neg runs, if_neg runs]
      exact ⟨marked, rfl, rfl, rfl⟩
  obtain ⟨osf, charge, on, rest⟩ := told
  dsimp only
  rw [is]
  generalize s.osfTold = u at *
  have noted := u.rtcNote_only (n := RTC_NOTE_OSF) rfl
  refine ⟨(noted _ (by decide)).trans osf, ?_, fun h => State.rtcNote_noted (by rw [on, h]) (by decide), ?_⟩
  · rw [State.rtcNote, State.noticeIf]
    split
    · rw [State.notice_mac]
      exact charge
    · exact charge
  · rw [State.rtcNote_cal]
    split
    · next runs =>
      rw [if_pos runs] at rest
      refine ⟨?_, rest.2⟩
      rw [State.rtcNote, State.noticeIf]
      split
      · exact Recorded.notice rest.1 RTC_NOTE_OSF
      · exact rest.1
    · next stopped =>
      rw [if_neg stopped] at rest
      exact rest

/-! ### The commands -/

theorem State.rtcSet_hostWrote (s : State) (port : Port) (a : Nat) {f : Field} (note : f.key ≠ (NOTE_RAW 0x01).key) (pba : f.key ≠ MSIX_PBA.key) :
    (s.hostWrote port false a).rd f = s.rd f := State.rd_hostWrote_ne s port false a note pba

theorem State.rtcSetCount_completes {s : State} (port : Port) (work : s.atWork 0x19 = true) : Completes (.rtcSetCount port) s fun t =>
    let n := s.rd RTC_SET_SEC_LO + 2 ^ 32 * s.rd RTC_SET_SEC_HI_SECONDS
    if n ≤ 12622780799 then t.cal = { s.cal with load := some (.value ⟨n, s.rd RTC_SET_SEC_HI_FRACTION⟩) }
    else t.cal = s.cal ∧ t.rd RTC_WERR_REASON = 7 ∧ Noted RTC_NOTE_WERR t := by
  refine Completes.effect (u := s) rfl work ?_
  have done := (s.hostWrote port false RTC_SET_CMD_GO.addr).rtcSetCount_spec
  dsimp only at done
  rw [s.rtcSet_hostWrote port _ (by decide) (by decide), s.rtcSet_hostWrote port _ (by decide) (by decide),
    s.rtcSet_hostWrote port _ (by decide) (by decide), State.hostWrote_cal] at done
  exact done

theorem State.rtcSetFields_completes {s : State} (port : Port) (work : s.atWork 0x19 = true) : Completes (.rtcSetFields port) s fun t =>
    if InCalendar (s.rd RTC_SET_DATE_YEAR) (s.rd RTC_SET_DATE_MONTH) (s.rd RTC_SET_DATE_DAY) (s.rd RTC_SET_TIME_HOUR) (s.rd RTC_SET_TIME_MINUTE)
        (s.rd RTC_SET_TIME_SECOND) then
      t.cal = { s.cal with
        load := some (.value ⟨dayOf (s.rd RTC_SET_DATE_YEAR) (s.rd RTC_SET_DATE_MONTH) (s.rd RTC_SET_DATE_DAY) * 86400 +
          s.rd RTC_SET_TIME_HOUR * 3600 + s.rd RTC_SET_TIME_MINUTE * 60 + s.rd RTC_SET_TIME_SECOND, s.rd RTC_SET_SEC_HI_FRACTION⟩) }
    else t.cal = s.cal ∧ Noted RTC_NOTE_WERR t ∧ 1 ≤ t.rd RTC_WERR_REASON ∧ t.rd RTC_WERR_REASON ≤ 6 := by
  refine Completes.effect (u := s) rfl work ?_
  have done := (s.hostWrote port false RTC_SET_CMD_GO.addr).rtcSetFields_spec
  dsimp only at done
  simp (disch := decide) only [s.rtcSet_hostWrote port, State.hostWrote_cal] at done
  exact done

theorem State.rtcTrimWindow_completes {s : State} {c : Nat} {P : State → Prop} (live : s.live 0x19 = true) (post : P (s.trimWindow c)) :
    Completes (.rtcTrimWindowEnd c) s P := State.whenLive_completes rfl live post

theorem State.rtcTrimWindow_counts {s : State} {c k : Nat} {m : Int} (live : s.live 0x19 = true) (locked : s.time.state = .locked)
    (steady : s.cal.disturbed = false) (window : s.cal.window = some (m, k))
    (whole : 1024000000000 ≤ (s.reach c).moduleTimeAt (s.reach c).time.raw - m) : Completes (.rtcTrimWindowEnd c) s fun t =>
      if s.rd RTC_CTRL_AUTO_STEP = 1 ∧ (max 1 (s.rd RTC_STEP_THR) * 1000 : Nat) ≤ (s.reach c).phaseErr.natAbs then
        t.cal.load = some .step ∧ t.rd RTC_TRIM = s.rd RTC_TRIM
      else if s.rd RTC_CTRL_AUTO_TRIM = 1 then
        t.rdS RTC_TRIM = max (-549755) (min 549755
          (s.rdS RTC_TRIM - roundAway ((s.windowErr c k m * 4096 + (s.reach c).phaseErr * 1000) * 10000000) (4096 * 4656613))) ∧
        t.rdS RTC_DISC = max (-2 ^ 31) (min (2 ^ 31 - 1) (s.windowErr c k m)) ∧
        t.rdS RTC_PHASE_ERR = max (-2 ^ 31) (min (2 ^ 31 - 1) (s.reach c).phaseErr) ∧ Noted RTC_NOTE_TRIM_UPDATE t
      else t.rd RTC_TRIM = s.rd RTC_TRIM := by
  refine State.rtcTrimWindow_completes live ?_
  have regs (u : State) : u.windowStart.regs = u.regs := rfl
  rw [State.trimWindow_counts locked steady window whole]
  split
  · exact ⟨rfl, s.rd_reach c _⟩
  · split
    · obtain ⟨trim, disc, phase, noted⟩ := (s.reach c).trimBy_spec (s.windowErr c k m) (s.reach c).phaseErr
      have same : (s.reach c).rdS RTC_TRIM = s.rdS RTC_TRIM := by rw [State.rdS, State.rd_reach, State.rdS]
      rw [same] at trim
      generalize (s.reach c).trimBy (s.windowErr c k m) (s.reach c).phaseErr = u at *
      have reads (f : Field) : u.windowStart.rdS f = u.rdS f := by rw [State.rdS, State.rdS, State.rd_congr (regs u)]
      exact ⟨(reads _).trans trim, (reads _).trans disc, (reads _).trans phase, Noted.congr noted (State.rd_congr (regs u) _)⟩
    · exact (State.rd_congr (regs _) _).trans (s.rd_reach c _)

theorem civilOf_first : civilOf 0 = ⟨2000, 1, 1, 5⟩ := by decide +kernel

theorem fieldsOf_last : fieldsOf 12622780799 = ⟨59, 59, 23, ⟨2399, 12, 31, 4⟩⟩ := by decide +kernel

/-- R418: the advance of a pulse without trim or load. -/
theorem State.pulse_completes {s : State} (on : s.aonRunning = true) (trim : s.rd RTC_TRIM = 0) (load : s.cal.load = none) :
    Completes .calendarFractionAdvance s fun t =>
      t.cal.frac = (s.cal.frac + 2) % 65536 ∧ t.cal.pulses = s.cal.pulses + 1 ∧ (s.rtcOn = true → Publishes 0x19 s t) ∧
        if s.cal.frac + 2 < 65536 then t.cal.secs = s.cal.secs else Wrapped s t := by
  refine State.aonPulse_completes on ?_
  rw [State.aonPulse_unloaded load]
  obtain ⟨frac, pulses, -, published, -, rest⟩ := State.advance_spec trim
  refine ⟨frac, pulses, published, ?_⟩
  split
  · next low =>
    rw [if_pos low] at rest
    exact rest.1
  · next high =>
    rw [if_neg high] at rest
    exact rest

/-- Settles O40: the pulse and its wrap, the loads and steps, the trim windows, and the Gregorian arithmetic from eras of 400 years. -/
theorem calendarPulses : Obligations.CalendarPulses := by
  refine ⟨fun s => State.pulse_completes, fun s on trim now arm frac load =>
      ⟨s.pulsesToWrap 40000, congrArg Host.Outcome.next (if_pos on), PlainSecond.rollover ⟨trim, now, arm, load, frac⟩ (by omega)⟩,
    fun s i => State.aonStopped, fun s v on load => ?_, fun s on load lo hi => ?_, fun s port => State.rtcSetCount_completes port,
    fun s port => State.rtcSetFields_completes port, fun s c live h => State.rtcTrimWindow_completes live (State.trimWindow_open h),
    fun s c live locked h => State.rtcTrimWindow_completes live ((State.trimWindow_discounts locked h).trans (s.windowStart_reach c)),
    fun s c k m live locked steady window whole => State.rtcTrimWindow_counts live locked steady window whole,
    fun s => ⟨s.osfSet, rfl, s.osfSet_spec⟩, fun y m d h mi se y0 y1 m0 m1 d0 d1 hh hmi hse => ⟨?_, ?_⟩, civilOf_first, fieldsOf_last⟩
  · refine State.aonPulse_completes on ?_
    rw [State.aonPulse_load load]
    obtain ⟨cal, osf, now, published, -⟩ := s.calLoad_spec v
    exact ⟨cal, osf, now, published⟩
  · refine State.aonPulse_completes on ?_
    rw [State.aonPulse_step load lo hi]
    exact s.calStep_spec _
  · rw [fieldsOf_count hh hmi hse, civilOf_dayOf y0 m0 m1 d0 d1]
  · have days : d ≤ 31 := by
      refine d1.trans ?_
      rw [daysIn]
      split
      · split <;> decide
      · split <;> decide
    have last := dayOf_le y1 m0 m1 days
    omega

end Sys2Proof.Machine
end

section
/-! SUPPORT. The supply and the die temperature (O8). -/

namespace Sys2Proof.Machine

/-! ### The write guard before HOLD -/

/-- The write guard stands. -/
def GuardStands (s t : State) : Prop := t.rd SLT_STATUS_GUARD = s.rd SLT_STATUS_GUARD

theorem GuardStands.refl (s : State) : GuardStands s s := rfl

theorem GuardStands.trans {s t u : State} (h : GuardStands s t) (k : GuardStands t u) : GuardStands s u := Eq.trans k h

theorem GuardStands.of_kept {m : Nat} {s t : State} (h : Kept (Touches m) s t) (out : Nat.testBit m 70 = false) : GuardStands s t :=
  h.rd_eq SLT_STATUS_GUARD (by rw [Touches, show SLT_STATUS_GUARD.slot = 70 from rfl, out]; decide)

theorem GuardStands.of_only {l : List Field} {s t : State} (h : OnlyFields l s t) (out : ∀ g ∈ l, SLT_STATUS_GUARD.key ≠ g.key) : GuardStands s t :=
  h SLT_STATUS_GUARD out

theorem GuardStands.of_regs {s t : State} (h : t.regs = s.regs) : GuardStands s t := State.rd_congr h _

theorem GuardStands.wr (s : State) {f : Field} (v : Nat) (h : SLT_STATUS_GUARD.key ≠ f.key) : GuardStands s (s.wr f v) := State.rd_wr_ne _ _ h

theorem GuardStands.notice (s : State) (n : Notice) (_h : n.page ≠ 0x1E) : GuardStands s (s.notice n) :=
  State.rd_notice_ne _ n (by rw [Field.key, Field.key]; dsimp only; omega) (by decide)

theorem GuardStands.silt (s : State) (c p0 p1 p2 p3 : Nat) : GuardStands s (s.silt c p0 p1 p2 p3) :=
  State.rd_silt_ne _ _ _ _ _ _ (by decide) (by decide) (by decide)

theorem GuardStands.slqPush (s : State) (q kind prio : Nat) (words : List Nat) (pad : Nat) : GuardStands s (s.slqPush q kind prio words pad) :=
  (State.slqPush_kept_packetParts s q kind prio words pad).rd_eq SLT_STATUS_GUARD (by decide)

theorem GuardStands.foldl {α : Type} {f : State → α → State} (step : ∀ u x, GuardStands u (f u x)) (l : List α) (s : State) :
    GuardStands s (l.foldl f s) := by
  induction l generalizing s with
  | nil => rfl
  | cons x l ih => exact (step s x).trans (ih _)

theorem State.servo_guard (s : State) (θ : Int) : GuardStands s (s.servo θ) := by
  have shown : GuardStands s (s.offsetShown θ) := s.offsetShown_fields θ (by decide)
  obtain ⟨-, -, -, -, -, -, rated, -⟩ := s.servoRated_parts θ
  have rated : GuardStands s (s.servoRated θ) := .of_only rated (by decide)
  have timed (u : State) (v : TimeMode) : GuardStands u (u.setTime v) := .of_only (u.setTime_parts v).2.2 (by decide)
  rw [s.servo_cases]
  split
  · have stepped : GuardStands (s.offsetShown θ) ((s.offsetShown θ).timeStep (-θ)) :=
      .of_kept (State.timeStep_kept (T := Touches 0x10000120000004c02) (.refl _) (-θ) fun _ h => h) (by decide)
    exact ((shown.trans stepped).trans (.of_regs rfl)).trans (timed (((s.offsetShown θ).timeStep (-θ)).setServo 0 0) .free)
  · split
    · exact (rated.trans (.of_regs rfl)).trans (timed ((s.servoRated θ).setServo (s.servoRated θ).time.servoI (s.runAfter θ)) .locked)
    · exact rated.trans (.of_regs rfl)

theorem State.syncActs_guard (s : State) (rx origin corr : Int) : GuardStands s (s.syncActs rx origin corr) :=
  (GuardStands.of_regs rfl).trans (State.servo_guard { s with time := { s.time with t1 := origin + corr, t2 := rx } } _)

theorem State.stampActs_guard (s : State) (h : HeldStamp) : GuardStands s (s.stampActs h) := by
  cases h with
  | entry e => exact .of_kept (State.tsTaken_kept (T := Touches 0x10000020000000402) (.refl s) e fun _ h => h) (by decide)
  | sync k sender senderPort domain seq rx origin corr twoStep =>
    show GuardStands s (s.syncTaken k sender senderPort domain seq rx origin corr twoStep)
    have calibrated : GuardStands s (s.calibrated k) := .of_kept (State.calibrated_kept (T := Touches 0x10000000000000000) (.refl s) k fun _ h => h) (by decide)
    rw [State.syncTaken]
    split
    · exact .refl s
    · dsimp only
      split
      · exact calibrated.trans (.of_regs rfl)
      · exact calibrated.trans (State.syncActs_guard _ _ _ _)
  | followUp k sender senderPort domain seq origin corr =>
    show GuardStands s (s.followUpTaken k sender senderPort domain seq origin corr)
    rw [State.followUpTaken]
    split
    · exact .refl s
    · split
      · split
        · exact (GuardStands.of_regs rfl).trans (State.syncActs_guard _ _ _ _)
        · exact .refl s
      · exact .refl s
  | delayReq k domain seq rx =>
    exact .of_kept (State.delayReqTaken_kept (T := Touches 0x2) (.refl s) k domain seq rx fun _ h => h) (by decide)
  | delaySent seq tx => exact .of_regs rfl
  | delayResp k sender senderPort domain seq t4 corr =>
    exact .of_kept (State.delayRespTaken_kept (T := Touches 0x10000000000000400) (.refl s) k sender senderPort domain seq t4 corr fun _ h => h) (by decide)

theorem State.sivRelease_guard (s : State) (id : Nat) : GuardStands s (s.sivRelease id) := by
  rw [State.sivRelease]
  split
  · exact .of_regs rfl
  · split
    · exact (GuardStands.of_regs rfl).trans (GuardStands.foldl State.stampActs_guard s.time.stamped { s with time := { s.time with stamped := [] } })
    · exact .refl s

theorem State.sivRecord_guard (s : State) (code p0 p1 p2 p3 : Nat) : GuardStands s (s.sivRecord code p0 p1 p2 p3) := by
  rw [State.sivRecord]
  split
  · exact (GuardStands.silt s code p0 p1 p2 p3).trans (GuardStands.slqPush _ _ _ _ _ _)
  · exact GuardStands.silt s code p0 p1 p2 p3

theorem State.sivAbandon_guard (s : State) (x : SivSlice) (cause : Nat) : GuardStands s (s.sivAbandon x cause) := by
  have released := State.sivRelease_guard { s with siv := { s.siv with slices := s.siv.slices.filter fun y => y != x } } x.region
  have gone : GuardStands s ({ s with siv := { s.siv with slices := s.siv.slices.filter fun y => y != x } } : State) := .of_regs rfl
  have is : s.sivAbandon x cause =
      (((({ s with siv := { s.siv with slices := s.siv.slices.filter fun y => y != x } } : State).sivRelease x.region).count SIV_ABANDONED 1).notice
        SIV_NOTE_ABANDON).sivRecord 0x1F03 x.region x.piece cause 0 := rfl
  rw [is]
  generalize ({ s with siv := { s.siv with slices := s.siv.slices.filter fun y => y != x } } : State).sivRelease x.region = u at released
  exact (((gone.trans released).trans (.wr u (f := SIV_ABANDONED) _ (by decide))).trans (.notice _ SIV_NOTE_ABANDON (by decide))).trans
    (State.sivRecord_guard _ _ _ _ _ _)

theorem State.sivStop_guard (s : State) : GuardStands s s.sivStop := GuardStands.foldl (fun u x => u.sivAbandon_guard x 2) s.siv.slices s

theorem State.discardHeld_guard (s : State) : GuardStands s s.discardHeld := by
  have drop (u : State) (f : QFrame) : GuardStands u (u.rfeDrop f) := by
    have dropped (v : State) : GuardStands v ((v.count (RFE_DROP f.prio) 1).notice RFE_NOTE_DROP) :=
      (GuardStands.wr v (f := RFE_DROP f.prio) _ (by rw [Field.key, Field.key]; dsimp only; omega)).trans (.notice _ RFE_NOTE_DROP (by decide))
    have block (v : State) : GuardStands v (v.blockGone f) := by
      rw [State.blockGone]
      split
      · split
        · exact .of_regs rfl
        · exact .refl v
      · exact .refl v
    rw [State.rfeDrop]
    split
    · exact ((GuardStands.wr u (f := GRG_NODE_DROP) _ (by decide)).trans (block _)).trans (dropped _)
    · exact dropped u
  have gone (u : State) (f : QFrame) : GuardStands u (u.frameGone f) :=
    .of_kept (State.frameGone_kept (T := Touches 0x8020000000003) (.refl u) f fun _ h => h) (by decide)
  exact (GuardStands.of_regs rfl).trans (GuardStands.foldl (fun u f => (drop u f).trans (gone _ f)) s.mac.queue
    { s with mac := { s.mac with queue := [], plan := [] } })

theorem State.saveAbandon_regs (s : State) : s.saveAbandon.regs = s.regs := by
  rw [State.saveAbandon]
  split <;> rfl

theorem State.vinStop_guard (s : State) : GuardStands s s.vinStop := by
  have resigned : GuardStands s (s.resign 2) := .of_kept (State.resign_kept (T := Touches 0x80000400004000002) (.refl s) 2 fun _ h => h) (by decide)
  exact ((resigned.trans (s.resign 2).discardHeld_guard).trans (.of_regs (State.saveAbandon_regs _))).trans (State.sivStop_guard _)

/-! ### A life-cycle change that the loss cuts -/

theorem State.keyResult_guard (s : State) (kind tag slot result : Nat) : GuardStands s (s.keyResult kind tag slot result) := by
  have counted : GuardStands s (if result = 0 then s.count HPN_OPS 1
      else ((s.count HPN_REFUSED 1).wrAll [(HPN_ERR_SLOT, slot), (HPN_ERR_REASON, result)]).notice HPN_NOTE_REFUSED) := by
    split
    · exact .wr s (f := HPN_OPS) _ (by decide)
    · exact (((GuardStands.wr s (f := HPN_REFUSED) _ (by decide)).trans (.wr _ (f := HPN_ERR_SLOT) slot (by decide))).trans
        (.wr _ (f := HPN_ERR_REASON) result (by decide))).trans (.notice _ HPN_NOTE_REFUSED (by decide))
  exact (counted.trans (.slqPush _ _ _ _ _ _)).trans (.notice _ HPN_NOTE_DONE (by decide))

theorem State.zeroise_guard (s : State) (busy : Bool) : GuardStands s (s.zeroise busy) := by
  have aborted : GuardStands s (if busy && s.rdB HPN_STATUS_READY && s.rdB HPN_CTRL_EN then
      match s.slqTake 2 with
      | some (p, s') => ((s'.keyResult p.kind (requestOf p).tag (requestOf p).slot 7).count HPN_ABORTED 1).notice HPN_NOTE_ABORT
      | none => s
    else s) := by
    split
    · split
      · next p t took =>
        have taken : GuardStands s t := .of_kept (State.slqTake_kept (T := Touches 0x3000) (.refl s) took fun _ h => h) (by decide)
        exact ((taken.trans (State.keyResult_guard _ _ _ _ _)).trans (.wr _ (f := HPN_ABORTED) _ (by decide))).trans
          (.notice _ HPN_NOTE_ABORT (by decide))
      · exact .refl s
    · exact .refl s
  exact (aborted.trans (.of_regs rfl)).trans (.wr _ (f := HPN_STATUS_READY) 0 (by decide))

theorem State.eraseSlots_guard (s : State) : GuardStands s s.eraseSlots :=
  .of_kept (State.eraseSlots_kept (T := Touches 0x100000000008000000) (.refl s) fun _ h => h) (by decide)

/-- A life-cycle change's state, before the radio follows it and it is reported. -/
def State.lifeStored (s : State) (h : HpnUnit) (life : Life) (copies : List LifeCopy) : State :=
  { (s.zeroise true).eraseSlots with
    hpn := h
    modes := { ((s.zeroise true).eraseSlots).modes with life := life }
    startup := { ((s.zeroise true).eraseSlots).startup with lifeCopies := copies } }

theorem State.lifeChange_eq (s : State) (to_ : Life) : ∃ h copies count b c, s.lifeChange to_ =
    (((((s.lifeStored h to_ copies).wr HPN_LC_COUNT count).wrB HPN_STATUS_BUNDLE b).dptFollow).notice SYS_NOTE_MODE).silt 0x000A s.modes.life.code
      to_.code c := ⟨_, _, _, _, _, rfl⟩

/-- What a cut of a life-cycle change keeps. -/
structure CutKeeps (s t : State) : Prop where
  startup : ∃ l, t.startup = { s.startup with lifeCopies := l }
  domains : t.domains = s.domains
  log : t.siltLog = s.siltLog
  guard : GuardStands s t

theorem CutKeeps.refl (s : State) : CutKeeps s s := ⟨⟨_, rfl⟩, rfl, rfl, rfl⟩

theorem State.erased_keeps (s : State) (busy : Bool) : CutKeeps s (s.zeroise busy).eraseSlots := by
  have zeroised := State.zeroise_kept (T := Touches 0x4540000020108003002) (.refl s) busy fun _ h => h
  have erased := State.eraseSlots_kept (T := Touches 0x100000000008000000) (.refl (s.zeroise busy)) fun _ h => h
  exact ⟨⟨s.startup.lifeCopies, (erased.frame .startup (by decide)).trans (zeroised.frame .startup (by decide))⟩,
    (erased.frame .domains (by decide)).trans (zeroised.frame .domains (by decide)),
    (erased.frame .siltLog (by decide)).trans (zeroised.frame .siltLog (by decide)), (s.zeroise_guard busy).trans (State.eraseSlots_guard _)⟩

theorem State.lifeChange_keeps (s : State) (to_ : Life) : CutKeeps s (s.lifeChange to_) := by
  obtain ⟨h, copies, count, b, c, is⟩ := s.lifeChange_eq to_
  obtain ⟨⟨l, startup⟩, domains, log, guard⟩ := s.erased_keeps true
  have stored : CutKeeps s ((s.lifeStored h to_ copies).wr HPN_LC_COUNT count) :=
    ⟨⟨copies, by show { ((s.zeroise true).eraseSlots).startup with lifeCopies := copies } = _; rw [startup]⟩, domains, log,
      guard.trans ((GuardStands.of_regs (t := s.lifeStored h to_ copies) rfl).trans (.wr _ (f := HPN_LC_COUNT) count (by decide)))⟩
  rw [is]
  generalize (s.lifeStored h to_ copies).wr HPN_LC_COUNT count = u at stored
  have follow := State.dptFollow_kept (T := Touches 0x8020000000003) (.refl (u.wrB HPN_STATUS_BUNDLE b)) fun _ h => h
  obtain ⟨⟨l', startup'⟩, domains', log', guard'⟩ := stored
  have guard'' : GuardStands s (u.wrB HPN_STATUS_BUNDLE b).dptFollow :=
    (guard'.trans (.wr u (f := HPN_STATUS_BUNDLE) _ (by decide))).trans (.of_kept follow (by decide))
  have start : (u.wrB HPN_STATUS_BUNDLE b).dptFollow.startup = u.startup := follow.frame .startup (by decide)
  have doms : (u.wrB HPN_STATUS_BUNDLE b).dptFollow.domains = u.domains := follow.frame .domains (by decide)
  have logs : (u.wrB HPN_STATUS_BUNDLE b).dptFollow.siltLog = u.siltLog := follow.frame .siltLog (by decide)
  generalize (u.wrB HPN_STATUS_BUNDLE b).dptFollow = v at *
  obtain ⟨r, e, i, told⟩ := (v.notice SYS_NOTE_MODE).silt_eq 0x000A s.modes.life.code to_.code c 0
  refine ⟨⟨l', ?_⟩, ?_, ?_, (guard''.trans (.notice v SYS_NOTE_MODE (by decide))).trans (.silt _ _ _ _ _ _)⟩
  · rw [State.silt_startup, State.notice_startup, start, startup']
  · rw [told]
    exact (State.notice_domains v SYS_NOTE_MODE).trans (doms.trans domains')
  · rw [told]
    exact (State.notice_siltLog v SYS_NOTE_MODE).trans (logs.trans log')

theorem State.lifeCut_keeps (s : State) (cut : LifeCut) : CutKeeps s (s.lifeCut cut) := by
  unfold State.lifeCut
  split
  · exact .refl s
  · have slot := State.slotCut_kept (T := Touches 0x100000000008003000) (.refl s) fun _ h => h
    exact ⟨⟨s.startup.lifeCopies, slot.frame .startup (by decide)⟩, slot.frame .domains (by decide), slot.frame .siltLog (by decide),
      .of_kept slot (by decide)⟩
  · exact .refl s
  · exact s.erased_keeps false
  · next v _ =>
    obtain ⟨⟨l, startup⟩, domains, log, guard⟩ := s.lifeChange_keeps v
    generalize s.lifeChange v = u at *
    exact ⟨⟨_, by rw [State.putCopies, startup]⟩, domains, log, guard.trans (.of_regs rfl)⟩
  · next v _ =>
    split
    · obtain ⟨⟨l, startup⟩, domains, log, guard⟩ := s.lifeChange_keeps v
      generalize s.lifeChange v = u at *
      exact ⟨⟨l, startup⟩, domains, log, guard.trans (.of_regs rfl)⟩
    · exact .refl s

/-! ### Entry to HOLD -/

theorem State.airCut_regs (s : State) : s.airCut.regs = s.regs := rfl

/-- The radio before its PAs go off. -/
def State.airOff (s : State) : State :=
  ([0, 1].foldl (fun (s : State) k => if s.rdB (paField k) then s.deafen k (s.moduleTime + 50000) else s) s).airCut

theorem State.airOff_parts (s : State) : ∃ m, s.airOff = { s with mac := m } ∧ m.active = [] ∧ m.budgets = s.mac.budgets := by
  have step (u : State) (k : Nat) : ∃ m, (if u.rdB (paField k) then u.deafen k (u.moduleTime + 50000) else u) = { u with mac := m } ∧
      m.budgets = u.mac.budgets := by
    split
    · exact ⟨_, rfl, rfl⟩
    · exact ⟨_, rfl, rfl⟩
  obtain ⟨m, first, budgets⟩ := step s 0
  obtain ⟨n, second, budgets'⟩ := step { s with mac := m } 1
  rw [State.airOff, List.foldl_cons, List.foldl_cons, List.foldl_nil, first, second]
  exact ⟨_, rfl, rfl, budgets'.trans budgets⟩

/-- The fields that show what is on air. -/
def airFields : List Field := [RFE_STATUS_PA0_ON, RFE_STATUS_PA1_ON] ++ (List.range 4).map RFE_TXCH_STAT_ACTIVE

/-- R43, R62: what PAs that go off leave. -/
theorem State.pasOff_spec (s : State) : ∃ m r, s.pasOff = { s with mac := m, regs := r } ∧ m.active = [] ∧ m.budgets = s.mac.budgets ∧
    s.pasOff.rd RFE_STATUS_PA0_ON = 0 ∧ s.pasOff.rd RFE_STATUS_PA1_ON = 0 ∧ OnlyFields airFields s s.pasOff := by
  obtain ⟨m, is, active, budgets⟩ := s.airOff_parts
  have off : s.pasOff = s.airOff.wrAll ([(RFE_STATUS_PA0_ON, 0), (RFE_STATUS_PA1_ON, 0)] ++ (List.range 4).map fun c => (RFE_TXCH_STAT_ACTIVE c, 0)) := rfl
  obtain ⟨r, shown⟩ := s.airOff.wrAll_parts ([(RFE_STATUS_PA0_ON, 0), (RFE_STATUS_PA1_ON, 0)] ++ (List.range 4).map fun c => (RFE_TXCH_STAT_ACTIVE c, 0))
  have only : OnlyFields airFields s s.pasOff := by
    rw [off]
    exact (OnlyFields.of_regs (by rw [is])).wrAll (by decide)
  refine ⟨m, r, by rw [off, shown, is], active, budgets, ?_, ?_, only⟩ <;> rw [off]
  · simp (disch := decide) only [List.range_succ, List.range_zero, List.map_cons, List.map_nil, List.nil_append, List.cons_append,
      State.wrAll_cons, State.wrAll_nil, State.rd_wr_ne, State.rd_wr_self]
    rfl
  · simp (disch := decide) only [List.range_succ, List.range_zero, List.map_cons, List.map_nil, List.nil_append, List.cons_append,
      State.wrAll_cons, State.wrAll_nil, State.rd_wr_ne, State.rd_wr_self]
    rfl

/-! ### The record of the loss -/

theorem mem_bumpLast {l : List SiltRecord} {r : SiltRecord} (h : l.getLast? = some r) : { r with repeats := r.repeats + 1 } ∈ bumpLast l := by
  induction l with
  | nil => cases h
  | cons x t ih =>
    cases t with
    | nil =>
      obtain rfl : x = r := by simpa using h
      exact List.mem_cons_self
    | cons y t =>
      rw [List.getLast?_cons_cons] at h
      exact List.mem_cons_of_mem _ (ih h)

theorem State.siltPut_log (s : State) (log : List SiltRecord) (r : SiltRecord) : (s.siltPut log r).siltLog = log ++ [r] := by
  have noted : ((({ s with siltLog := log ++ [r] } : State).siltChanged).notice SLT_NOTE_RECORD).siltLog = log ++ [r] := State.notice_siltLog _ _
  rw [State.siltPut]
  generalize (({ s with siltLog := log ++ [r] } : State).siltChanged).notice SLT_NOTE_RECORD = u at noted
  split
  · exact ((State.slqPush_kept_packetParts u 5 0x01 3 r.words 0).frame .siltLog (by decide)).trans noted
  · exact noted

/-- R510, R511: an event that the log has room for is in it. -/
theorem State.siltWrite_logs {s : State} (room : s.siltLog.length < 4096) (e : SiltEvent) : ∃ r ∈ (s.siltWrite e).siltLog, r.event.code = e.code := by
  have new : ∃ r ∈ (s.siltNew e).siltLog, r.event.code = e.code :=
    ⟨⟨e, 1⟩, by rw [State.siltNew, State.siltPut_log]; exact List.mem_append_right _ List.mem_cons_self, rfl⟩
  rw [State.siltWrite, if_neg (Nat.not_le.mpr room)]
  split
  · next r last =>
    split
    · next again =>
      have code : r.event.code = e.code := by
        rw [SiltRecord.repeatedBy] at again
        simp only [Bool.and_eq_true, beq_iff_eq] at again
        obtain ⟨⟨⟨⟨⟨code, -⟩, -⟩, -⟩, -⟩, -⟩ := again
        exact code
      exact ⟨_, mem_bumpLast last, code⟩
    · exact new
  · exact new

theorem State.vinRecord_log {s : State} (good : s.startup.pwrGood = true) (guard : s.rd SLT_STATUS_GUARD = 0) (room : s.siltLog.length < 4096) :
    ∃ r ∈ s.vinRecord.siltLog, r.event.code = 0x0005 := by
  have is : s.vinRecord = s.clearIntake.siltWrite ⟨0x0005, (if 5 ≤ s.startup.line then s.modes.word else 0) % 2 ^ 32, 0, 0, 0, s.calNow, s.calValid,
      false⟩ := by
    have open_ : (s.clearIntake.startup.pwrGood && s.clearIntake.rd SLT_STATUS_GUARD == 0) = true := by
      rw [Bool.and_eq_true]
      exact ⟨good, beq_iff_eq.mpr guard⟩
    rw [State.vinRecord]
    exact if_pos open_
  rw [is]
  exact State.siltWrite_logs (s := s.clearIntake) room _

/-! ### A loss of VIN -/

/-- The units in HOLD, once the PAs are off. -/
def State.holdBase (s : State) : State := s.schSave.emuSave.clearPorts.clearIntake.intoHold false

theorem State.holdBase_saved (s : State) : ∀ c ∈ s.holdBase.emu.circuits, c.stored = c.now := by
  intro c mem
  obtain ⟨x, -, rfl⟩ := List.mem_map.mp mem
  rfl

/-- What all units but the registers show in HOLD. -/
structure Held (s t : State) : Prop where
  startup : t.startup = { s.startup with phase := .hold, holdByRequest := false, wake := none, heldPower := none, pwrGood := false }
  domains : t.domains = s.besideAon .stopped
  power : t.modes.power = .hold
  sieve : t.modes.sieve = .off
  lrp : t.lrp = .empty
  pcie : t.pcie = .empty
  deferred : t.deferred = []
  reqs : t.modeReqs = []
  waiting : t.modeWaiting = []
  intake : t.siltIntake = []
  saving : t.mrl.saving = none
  island : t.hpn.island = none
  high : t.sch.highStored = t.sch.high
  saved : ∀ c ∈ t.emu.circuits, c.stored = c.now
  log : t.siltLog = s.siltLog

theorem State.holdBase_held (s : State) : Held s s.holdBase :=
  ⟨rfl, rfl, rfl, rfl, rfl, rfl, rfl, rfl, rfl, rfl, rfl, rfl, rfl, s.holdBase_saved, rfl⟩

theorem Held.of_regs {s t : State} (h : Held s t) (m : List (Nat × Nat)) : Held s { t with regs := m } := by
  obtain ⟨a, b, c, d, e, f, g, h, i, j, k, l, m, n, o⟩ := h
  exact ⟨a, b, c, d, e, f, g, h, i, j, k, l, m, n, o⟩

theorem Held.before {s t u : State} (h : Held t u) (startup : t.startup = s.startup) (domains : t.domains = s.domains) (log : t.siltLog = s.siltLog) :
    Held s u := by
  have beside : t.besideAon .stopped = s.besideAon .stopped := by rw [State.besideAon, State.besideAon, State.domain, State.domain, domains]
  exact { h with startup := by rw [h.startup, startup], domains := by rw [h.domains, beside], log := h.log.trans log }

/-- The registers of a module in HOLD. -/
def holdRegs : List (Field × Nat) := [(SYS_STATUS_READY, 0), (HPN_STATUS_READY, 0), (SLT_STATUS_GUARD, 1)]

theorem State.rd_holdRegs (s : State) : let t := s.wrAll holdRegs
    t.rd SYS_STATUS_READY = 0 ∧ t.rd SLT_STATUS_GUARD = 1 ∧ t.rd RFE_STATUS_PA0_ON = s.rd RFE_STATUS_PA0_ON ∧
      t.rd RFE_STATUS_PA1_ON = s.rd RFE_STATUS_PA1_ON := by
  simp (disch := decide) only [holdRegs, State.wrAll_cons, State.wrAll_nil, State.rd_wr_ne, State.rd_wr_self]
  exact ⟨rfl, rfl, trivial, trivial⟩

/-- What the entry to HOLD leaves of all units. -/
theorem State.enterHold_spec (s : State) : let t := s.enterHold false
    Held s t ∧ t.rd SYS_STATUS_READY = 0 ∧ t.rd SLT_STATUS_GUARD = 1 ∧ t.mac.active = [] ∧ t.rd RFE_STATUS_PA0_ON = 0 ∧ t.rd RFE_STATUS_PA1_ON = 0 := by
  obtain ⟨m, r, off, active, -, pa0, pa1, -⟩ := s.pasOff_spec
  have is : s.enterHold false = s.pasOff.holdBase.wrAll holdRegs := rfl
  have startup : s.pasOff.startup = s.startup := by rw [off]
  have domains : s.pasOff.domains = s.domains := by rw [off]
  have log : s.pasOff.siltLog = s.siltLog := by rw [off]
  have air : s.pasOff.mac.active = [] := by rw [off]; exact active
  dsimp only
  rw [is]
  generalize s.pasOff = u at *
  have held := u.holdBase_held.before startup domains log
  have air' : u.holdBase.mac.active = [] := air
  have low0 : u.holdBase.rd RFE_STATUS_PA0_ON = 0 := pa0
  have low1 : u.holdBase.rd RFE_STATUS_PA1_ON = 0 := pa1
  generalize u.holdBase = v at *
  obtain ⟨ready, guard, kept0, kept1⟩ := v.rd_holdRegs
  obtain ⟨n, shown⟩ := v.wrAll_parts holdRegs
  refine ⟨?_, ready, guard, ?_, kept0.trans low0, kept1.trans low1⟩
  · rw [shown]
    exact held.of_regs n
  · rw [shown]
    exact air'

/-- R43, R513: what runs stops before the entry to HOLD, and the loss is recorded. -/
theorem State.vinRecorded_spec (s : State) (cut : LifeCut) : let u := (s.lifeCut cut).vinStop.vinRecord
    u.domains = s.domains ∧
      (s.startup.pwrGood = true → s.rd SLT_STATUS_GUARD = 0 → s.siltLog.length < 4096 → ∃ r ∈ u.siltLog, r.event.code = 0x0005) := by
  obtain ⟨⟨l, startup⟩, domains, log, guard⟩ := s.lifeCut_keeps cut
  generalize s.lifeCut cut = u at *
  have stopped := State.vinStop_kept (T := Touches 0x5cf00085601e4407c13) (.refl u) fun _ h => h
  have start : u.vinStop.startup = u.startup := stopped.frame .startup (by decide)
  have doms : u.vinStop.domains = u.domains := stopped.frame .domains (by decide)
  have logs : u.vinStop.siltLog = u.siltLog := stopped.frame .siltLog (by decide)
  have guards := guard.trans u.vinStop_guard
  generalize u.vinStop = v at *
  have recorded := State.vinRecord_kept (T := Touches 0x4440000020300003002) (.refl v) fun _ h => h
  exact ⟨(recorded.frame .domains (by decide)).trans (doms.trans domains), fun good low room =>
    State.vinRecord_log (by rw [start, startup]; exact good) (Eq.trans guards low) (by rw [logs, log]; exact room)⟩

theorem State.vinLoss_eq {s : State} (powered : s.startup.phase ≠ .unpowered) (running : s.startup.phase ≠ .hold) :
    s.vinLoss = (s.vinStop.vinRecord.enterHold false).vinGone := by
  rw [State.vinLoss, if_neg powered, if_neg running]

/-- R43: a loss of VIN out of HOLD. -/
theorem State.vinLoss_enters {s : State} (cut : LifeCut) (powered : s.startup.phase ≠ .unpowered) (running : s.startup.phase ≠ .hold) :
    Completes (.vinLoss cut) s fun t =>
      t.startup.phase = .hold ∧ t.startup.vin = false ∧ t.startup.pwrGood = false ∧ t.startup.holdByRequest = false ∧
      t.domains = s.besideAon .stopped ∧ t.modes.power = .hold ∧ t.modes.sieve = .off ∧ t.rd SYS_STATUS_READY = 0 ∧
      t.rd SLT_STATUS_GUARD = 1 ∧ t.lrp = .empty ∧ t.pcie = .empty ∧ t.deferred = [] ∧ t.modeReqs = [] ∧ t.modeWaiting = [] ∧
      t.siltIntake = [] ∧ t.mrl.saving = none ∧ t.hpn.island = none ∧ t.mac.active = [] ∧ t.rd RFE_STATUS_PA0_ON = 0 ∧
      t.rd RFE_STATUS_PA1_ON = 0 ∧ t.sch.highStored = t.sch.high ∧ (∀ c ∈ t.emu.circuits, c.stored = c.now) ∧
      (s.startup.pwrGood = true → s.rd SLT_STATUS_GUARD = 0 → s.siltLog.length < 4096 → ∃ r ∈ t.siltLog, r.event.code = 0x0005) := by
  refine ⟨(s.lifeCut cut).vinLoss, rfl, ?_⟩
  obtain ⟨⟨l, startup⟩, -, -, -⟩ := s.lifeCut_keeps cut
  obtain ⟨domains, recorded⟩ := s.vinRecorded_spec cut
  rw [State.vinLoss_eq (by rw [startup]; exact powered) (by rw [startup]; exact running)]
  generalize (s.lifeCut cut).vinStop.vinRecord = u at *
  obtain ⟨held, ready, guard, active, pa0, pa1⟩ := u.enterHold_spec
  have beside : u.besideAon .stopped = s.besideAon .stopped := by rw [State.besideAon, State.besideAon, State.domain, State.domain, domains]
  generalize u.enterHold false = t at *
  refine ⟨congrArg Startup.phase held.startup, rfl, congrArg Startup.pwrGood held.startup, congrArg Startup.holdByRequest held.startup,
    held.domains.trans beside, held.power, held.sieve, ready, guard, held.lrp, held.pcie, held.deferred, held.reqs, held.waiting, held.intake,
    held.saving, held.island, active, pa0, pa1, held.high, held.saved, fun good low room => ?_⟩
  obtain ⟨r, mem, code⟩ := recorded good low room
  exact ⟨r, by rw [← held.log] at mem; exact mem, code⟩

theorem State.vinLoss_inHold {s : State} (cut : LifeCut) (hold : s.startup.phase = .hold) :
    Completes (.vinLoss cut) s fun t => t.startup.phase = .hold ∧ t.startup.vin = false ∧ t.startup.wake = none := by
  refine ⟨(s.lifeCut cut).vinLoss, rfl, ?_⟩
  obtain ⟨⟨l, startup⟩, -, -, -⟩ := s.lifeCut_keeps cut
  generalize s.lifeCut cut = u at *
  have held : u.startup.phase = .hold := by rw [startup]; exact hold
  rw [State.vinLoss, if_neg (by rw [held]; decide), if_pos held]
  exact ⟨held, rfl, rfl⟩

/-! ### A loss of VBAK -/

theorem osf_alwaysOn : RTC_STATUS_OSF ∈ allFields ∧ RTC_STATUS_OSF.survival = .alwaysOn := by decide +kernel

theorem mem_alwaysOnKeys {f : Field} (h : f ∈ allFields) (always : f.survival = .alwaysOn) : f.key ∈ alwaysOnKeys :=
  List.mem_map.mpr ⟨f, List.mem_filter.mpr ⟨h, by rw [always]; rfl⟩, rfl⟩

theorem not_mem_alwaysOnKeys {f : Field} (h : ∀ g ∈ allFields, g.survival = .alwaysOn → f.key ≠ g.key) : f.key ∉ alwaysOnKeys := fun mem => by
  obtain ⟨g, hg, key⟩ := List.mem_map.mp mem
  obtain ⟨listed, always⟩ := List.mem_filter.mp hg
  exact h g listed (beq_iff_eq.mp always) key.symm

/-- R46: a loss of VBAK without VIN. -/
theorem State.vbakLoss_spec {s : State} (off : s.startup.vin = false) : Completes .vbakLoss s fun t =>
    t.startup.phase = .unpowered ∧ t.aonRunning = false ∧ t.startup.holdByRequest = false ∧
    t.cal = ⟨0, 0, 0, true, 0, none, none, false⟩ ∧ t.domains = List.replicate 14 .stopped ∧ t.rd RTC_STATUS_OSF = 1 ∧
    (∀ f ∈ allFields, f.survival = .alwaysOn → f.key ≠ RTC_STATUS_OSF.key → t.rd f = f.reset % 2 ^ f.width) ∧
    ∀ f : Field, (∀ g ∈ allFields, g.survival = .alwaysOn → f.key ≠ g.key) → t.rd f = s.rd f := by
  refine ⟨s.vbakLoss, rfl, ?_⟩
  have is : ∃ u : State, s.vbakLoss = u.wr RTC_STATUS_OSF 1 ∧ u.regs = (s.forgetRegs fun k => !alwaysOnKeys.contains k).regs ∧
      u.startup.phase = .unpowered ∧ u.domains = List.replicate 14 .stopped ∧ u.startup.holdByRequest = false ∧ u.cal = .empty := by
    refine ⟨{ s.forgetRegs (fun k => !alwaysOnKeys.contains k) with
      cal := .empty
      tpr := .empty
      time := { s.time with state := .free }
      mac := { s.mac with osfSinceCharge := true }
      domains := List.replicate 14 .stopped
      startup := { s.startup with phase := .unpowered, holdByRequest := false, scratchCopy := 0 } }, ?_, rfl, rfl, rfl, rfl, rfl⟩
    rw [State.vbakLoss, off]
    rfl
  obtain ⟨u, is, regs, phase, domains, request, cal⟩ := is
  have forgot (f : Field) : u.rd f = if f.key ∈ alwaysOnKeys then f.reset % 2 ^ f.width else s.rd f := by
    rw [State.rd_congr regs, State.rd_forgetRegs]
    by_cases mem : f.key ∈ alwaysOnKeys
    · rw [if_pos mem, if_neg (by simp [mem])]
    · rw [if_neg mem, if_pos (by simp [mem])]
  rw [is]
  refine ⟨phase, ?_, request, cal, domains, State.rd_wr_of_lt _ (by decide), fun f mem always ne => ?_, fun f apart => ?_⟩
  · rw [State.aonRunning, State.wr_domains, domains]
    rfl
  · rw [State.rd_wr_ne _ _ ne, forgot, if_pos (mem_alwaysOnKeys mem always)]
  · rw [State.rd_wr_ne _ _ (apart _ osf_alwaysOn.1 osf_alwaysOn.2), forgot, if_neg (not_mem_alwaysOnKeys apart)]

/-! ### The die temperature -/

theorem State.powered_of_live {s : State} {p : Nat} (h : s.live p = true) : s.powered = true := by
  rw [State.live, Bool.and_eq_true] at h
  rw [State.powered]
  cases phase : s.startup.phase with
  | unpowered =>
    rw [phase] at h
    exact absurd h.1 Bool.false_ne_true
  | hold =>
    rw [phase] at h
    exact absurd h.1 Bool.false_ne_true
  | _ => rfl

theorem State.watched_atWork {s : State} (h : s.atWork 0x00 = true) (k : State → State) : s.watched k = k s := by
  rw [State.watched, State.powered_of_live (State.live_of_atWork h), State.wakePage_of (State.pageRuns_of_atWork h)]
  rfl

theorem Completes.watched {i : Instr} {s : State} {k : State → State} {P : State → Prop} (e : exec i s = .next (s.watched k)) (h : s.atWork 0x00 = true)
    (post : P (k s)) : Completes i s P := ⟨k s, by rw [e, State.watched_atWork h], post⟩

/-- R62: what a limit of the temperature tells, after its fields are written. -/
theorem State.limitTold {s u : State} {l : List Field} (only : OnlyFields l s u) (n : Notice) (code p0 : Nat) (page : n.page = 0x00)
    (bit : n.bit < 32) (note : ∀ f ∈ l, (NOTE_RAW 0x00).key ≠ f.key) (osf : ∀ f ∈ l, RTC_STATUS_OSF.key ≠ f.key)
    (cal : u.cal = s.cal) (domains : u.domains = s.domains) (startup : u.startup = s.startup) (intake : u.siltIntake = s.siltIntake) :
    Raises n s ((u.notice n).silt code p0) ∧ Records code p0 0 0 0 s ((u.notice n).silt code p0) := by
  constructor
  · rw [Raises, page, State.rd_silt_ne _ _ _ _ _ _ (by decide) (by decide) (by decide), ← page, State.raises_notice u n bit, page,
      only _ note]
  · refine (State.silt_records _ code p0 0 0 0).of_before (by simp [intake]) (by simp [cal]) (by simp [domains]) ?_ (by simp [startup])
    rw [State.rd_notice_ne _ n (by rw [page]; decide) (by decide), only _ osf]

/-- R62: 110 C. -/
theorem State.dieHot_spec {s : State} {v : Nat} (work : s.atWork 0x00 = true) (hv : v < 2 ^ 16) : Completes (.dieHot v) s fun t =>
    t.rd SYS_TEMP_DIE = v ∧ t.rd SYS_TEMP_HOT = 1 ∧ Raises SYS_NOTE_HOT s t ∧
    Records 0x0006 (codeOf 32 (signed 16 v)) 0 0 0 s t ∧
    t.modeReqs = (if 4 ≤ s.startup.line ∧ s.startup.phase ≠ .halted false then s.modeReqs ++ [⟨.power .quiet, 0, 0⟩] else s.modeReqs) ∧
    OnlyFields [SYS_TEMP_DIE, SYS_TEMP_HOT, NOTE_RAW 0x00, MSIX_PBA, SLT_LOST, NOTE_RAW 0x1E] s t := by
  refine Completes.watched rfl work ?_
  have written : OnlyFields [SYS_TEMP_DIE, SYS_TEMP_HOT] s (s.wrAll [(SYS_TEMP_DIE, v), (SYS_TEMP_HOT, 1)]) :=
    (OnlyFields.refl _ s).wrAll (by simp)
  obtain ⟨raises, records⟩ := State.limitTold written SYS_NOTE_HOT 0x0006 (codeOf 32 (signed 16 v)) rfl (by decide) (by decide) (by decide)
    (by simp) (by simp) (by simp) (by simp)
  have only : OnlyFields [SYS_TEMP_DIE, SYS_TEMP_HOT, NOTE_RAW 0x00, MSIX_PBA, SLT_LOST, NOTE_RAW 0x1E] s
      (((s.wrAll [(SYS_TEMP_DIE, v), (SYS_TEMP_HOT, 1)]).notice SYS_NOTE_HOT).silt 0x0006 (codeOf 32 (signed 16 v))) :=
    ((written.mono (by simp)).notice _ (by decide) (by decide)).silt _ _ _ _ _ (by decide) (by decide) (by decide)
  have die : (((s.wrAll [(SYS_TEMP_DIE, v), (SYS_TEMP_HOT, 1)]).notice SYS_NOTE_HOT).silt 0x0006 (codeOf 32 (signed 16 v))).rd
      SYS_TEMP_DIE = v := by
    rw [State.rd_silt_ne _ _ _ _ _ _ (by decide) (by decide) (by decide), State.rd_notice_ne _ _ (by decide) (by decide),
      State.wrAll_cons, State.wrAll_cons, State.wrAll_nil, State.rd_wr_ne _ _ (by decide), State.rd_wr_of_lt _ hv]
  have hot : (((s.wrAll [(SYS_TEMP_DIE, v), (SYS_TEMP_HOT, 1)]).notice SYS_NOTE_HOT).silt 0x0006 (codeOf 32 (signed 16 v))).rd
      SYS_TEMP_HOT = 1 := by
    rw [State.rd_silt_ne _ _ _ _ _ _ (by decide) (by decide) (by decide), State.rd_notice_ne _ _ (by decide) (by decide),
      State.wrAll_cons, State.wrAll_cons, State.wrAll_nil, State.rd_wr_of_lt _ (by decide)]
  have startup : (((s.wrAll [(SYS_TEMP_DIE, v), (SYS_TEMP_HOT, 1)]).notice SYS_NOTE_HOT).silt 0x0006 (codeOf 32 (signed 16 v))).startup =
    s.startup := by simp
  have reqs : (((s.wrAll [(SYS_TEMP_DIE, v), (SYS_TEMP_HOT, 1)]).notice SYS_NOTE_HOT).silt 0x0006 (codeOf 32 (signed 16 v))).modeReqs =
    s.modeReqs := by simp
  have is : s.dieHot v = let u := ((s.wrAll [(SYS_TEMP_DIE, v), (SYS_TEMP_HOT, 1)]).notice SYS_NOTE_HOT).silt 0x0006 (codeOf 32 (signed 16 v))
    if 4 ≤ u.startup.line ∧ u.startup.phase ≠ .halted false then { u with modeReqs := u.modeReqs ++ [⟨.power .quiet, 0, 0⟩] } else u := rfl
  rw [is]
  generalize ((s.wrAll [(SYS_TEMP_DIE, v), (SYS_TEMP_HOT, 1)]).notice SYS_NOTE_HOT).silt 0x0006 (codeOf 32 (signed 16 v)) = u at *
  dsimp only
  rw [startup, reqs]
  split
  · exact ⟨die, hot, raises, records, rfl, only⟩
  · exact ⟨die, hot, raises, records, reqs, only⟩

/-- R62: 125 C, which takes what is on air off. -/
theorem State.paInhibit_spec {s : State} {v : Nat} (work : s.atWork 0x00 = true) (hv : v < 2 ^ 16) : Completes (.paInhibit v) s fun t =>
    t.rd SYS_TEMP_DIE = v ∧ t.rd SYS_TEMP_PA_INHIBIT = 1 ∧ t.rd RFE_STATUS_INHIBIT = 1 ∧ Raises SYS_NOTE_PA_INHIBIT s t ∧
    Records 0x0007 (codeOf 32 (signed 16 v)) 0 0 0 s t ∧
    t.rd RFE_STATUS_PA0_ON = 0 ∧ t.rd RFE_STATUS_PA1_ON = 0 ∧ t.mac.active = [] ∧ t.mac.budgets = s.mac.budgets ∧
    OnlyFields ([SYS_TEMP_DIE, SYS_TEMP_PA_INHIBIT, RFE_STATUS_INHIBIT, NOTE_RAW 0x00, MSIX_PBA, SLT_LOST, NOTE_RAW 0x1E,
      RFE_STATUS_PA0_ON, RFE_STATUS_PA1_ON] ++ (List.range 4).map RFE_TXCH_STAT_ACTIVE) s t := by
  refine Completes.watched rfl work ?_
  have is : s.paInhibit true v = (((s.wrAll [(SYS_TEMP_DIE, v), (SYS_TEMP_PA_INHIBIT, 1), (RFE_STATUS_INHIBIT, 1)]).pasOff).notice
    SYS_NOTE_PA_INHIBIT).silt 0x0007 (codeOf 32 (signed 16 v)) := rfl
  have written : OnlyFields [SYS_TEMP_DIE, SYS_TEMP_PA_INHIBIT, RFE_STATUS_INHIBIT] s
      (s.wrAll [(SYS_TEMP_DIE, v), (SYS_TEMP_PA_INHIBIT, 1), (RFE_STATUS_INHIBIT, 1)]) := (OnlyFields.refl _ s).wrAll (by simp)
  have die : (s.wrAll [(SYS_TEMP_DIE, v), (SYS_TEMP_PA_INHIBIT, 1), (RFE_STATUS_INHIBIT, 1)]).rd SYS_TEMP_DIE = v := by
    rw [State.wrAll_cons, State.wrAll_cons, State.wrAll_cons, State.wrAll_nil, State.rd_wr_ne _ _ (by decide),
      State.rd_wr_ne _ _ (by decide), State.rd_wr_of_lt _ hv]
  have inhibit : (s.wrAll [(SYS_TEMP_DIE, v), (SYS_TEMP_PA_INHIBIT, 1), (RFE_STATUS_INHIBIT, 1)]).rd SYS_TEMP_PA_INHIBIT = 1 := by
    rw [State.wrAll_cons, State.wrAll_cons, State.wrAll_cons, State.wrAll_nil, State.rd_wr_ne _ _ (by decide),
      State.rd_wr_of_lt _ (by decide)]
  have shown : (s.wrAll [(SYS_TEMP_DIE, v), (SYS_TEMP_PA_INHIBIT, 1), (RFE_STATUS_INHIBIT, 1)]).rd RFE_STATUS_INHIBIT = 1 := by
    rw [State.wrAll_cons, State.wrAll_cons, State.wrAll_cons, State.wrAll_nil, State.rd_wr_of_lt _ (by decide)]
  obtain ⟨r, parts⟩ := s.wrAll_parts [(SYS_TEMP_DIE, v), (SYS_TEMP_PA_INHIBIT, 1), (RFE_STATUS_INHIBIT, 1)]
  rw [is]
  generalize s.wrAll [(SYS_TEMP_DIE, v), (SYS_TEMP_PA_INHIBIT, 1), (RFE_STATUS_INHIBIT, 1)] = u at *
  obtain ⟨m, r', off, active, budgets, pa0, pa1, air⟩ := u.pasOff_spec
  have cut : OnlyFields ([SYS_TEMP_DIE, SYS_TEMP_PA_INHIBIT, RFE_STATUS_INHIBIT] ++ airFields) s u.pasOff :=
    (written.mono (List.subset_append_left _ _)).trans (air.mono (List.subset_append_right _ _))
  have through {f : Field} (h0 : f.key ≠ SLT_LOST.key) (h1 : f.key ≠ (NOTE_RAW 0x1E).key) (h2 : f.key ≠ MSIX_PBA.key)
      (h3 : f.key ≠ (NOTE_RAW 0x00).key) :
      ((u.pasOff.notice SYS_NOTE_PA_INHIBIT).silt 0x0007 (codeOf 32 (signed 16 v))).rd f = u.pasOff.rd f := by
    rw [State.rd_silt_ne _ _ _ _ _ _ h0 h1 h2, State.rd_notice_ne _ SYS_NOTE_PA_INHIBIT h3 h2]
  obtain ⟨raises, records⟩ := State.limitTold cut SYS_NOTE_PA_INHIBIT 0x0007 (codeOf 32 (signed 16 v)) rfl (by decide) (by decide +kernel)
    (by decide +kernel) (by rw [off, parts]) (by rw [off, parts]) (by rw [off, parts]) (by rw [off, parts])
  have mac : ((u.pasOff.notice SYS_NOTE_PA_INHIBIT).silt 0x0007 (codeOf 32 (signed 16 v))).mac = m := by
    obtain ⟨r₁, e₁, i₁, silt⟩ := (u.pasOff.notice SYS_NOTE_PA_INHIBIT).silt_eq 0x0007 (codeOf 32 (signed 16 v)) 0 0 0
    obtain ⟨r₂, e₂, notice⟩ := u.pasOff.notice_eq SYS_NOTE_PA_INHIBIT
    rw [silt, notice, off]
  refine ⟨?_, ?_, ?_, raises, records, ?_, ?_, by rw [mac]; exact active, ?_, ?_⟩
  · rw [through (by decide) (by decide) (by decide) (by decide), air _ (by decide +kernel), die]
  · rw [through (by decide) (by decide) (by decide) (by decide), air _ (by decide +kernel), inhibit]
  · rw [through (by decide) (by decide) (by decide) (by decide), air _ (by decide +kernel), shown]
  · rw [through (by decide) (by decide) (by decide) (by decide), pa0]
  · rw [through (by decide) (by decide) (by decide) (by decide), pa1]
  · rw [mac, budgets, parts]
  · exact ((cut.mono (by decide +kernel)).notice _ (by decide +kernel) (by decide +kernel)).silt _ _ _ _ _ (by decide +kernel)
      (by decide +kernel) (by decide +kernel)

/-- Settles O8: the entry into HOLD through what each part of it leaves, the loss of VBAK through the keys of the always-on fields, and
the limits of the temperature through the fields that each writes. -/
theorem supplyAndTemperature : Obligations.SupplyAndTemperature := by
  refine ⟨fun s cut powered awake => State.vinLoss_enters cut powered awake, fun s cut hold => State.vinLoss_inHold cut hold,
    fun s off => State.vbakLoss_spec off, fun s v work hv => State.dieHot_spec work hv, fun s v work hv => Completes.watched rfl work ?_,
    fun s v work hv => State.paInhibit_spec work hv, fun s v work hv => Completes.watched rfl work ?_⟩
  · refine ⟨?_, ?_, (OnlyFields.refl _ s).wrAll (by simp), by simp⟩ <;> rw [State.wrAll_cons, State.wrAll_cons, State.wrAll_nil]
    · rw [State.rd_wr_ne _ _ (by decide), State.rd_wr_of_lt _ hv]
    · rw [State.rd_wr_of_lt _ (by decide)]
  · have is : s.paInhibit false v = s.wrAll [(SYS_TEMP_DIE, v), (SYS_TEMP_PA_INHIBIT, 0), (RFE_STATUS_INHIBIT, 0)] := rfl
    rw [is]
    refine ⟨?_, ?_, ?_, (OnlyFields.refl _ s).wrAll (by simp)⟩ <;>
      rw [State.wrAll_cons, State.wrAll_cons, State.wrAll_cons, State.wrAll_nil]
    · rw [State.rd_wr_ne _ _ (by decide), State.rd_wr_ne _ _ (by decide), State.rd_wr_of_lt _ hv]
    · rw [State.rd_wr_ne _ _ (by decide), State.rd_wr_of_lt _ (by decide)]
    · rw [State.rd_wr_of_lt _ (by decide)]

end Sys2Proof.Machine
end

section
/-! SUPPORT. ACTIVATE, CONFIRM and the boot ROM's container (O52). -/

namespace Sys2Proof.Machine

/-! ### Progress, records and the axis (R552) -/

/-- The Grog axis takes a value and shows it to nobody but the SYS page's notices. -/
theorem State.setGrog_spec (s : State) (v : GrogMode) :
    (s.setGrog v).modes.grog = v ∧ Kept (Touches 0x3000000000a) s (s.setGrog v) := by
  refine ⟨?_, State.setGrog_kept (.refl s) v fun _ h => h⟩
  rw [State.setGrog]
  split
  next same => exact same
  next => rw [State.notice_modes]

/-- A progress packet leaves Grog's page and unit alone. -/
theorem State.grgEvent_parts (s : State) (event target result param version : Nat) :
    Kept (Touches 0x4440000020100003002) s (s.grgEvent event target result param version) :=
  State.grgEvent_kept (.refl s) event target result param version fun _ h => h

/-- The record of the end of a staging is the one of its state (R552). -/
theorem State.recorded_grgEvent_end (s : State) (target result param version : Nat) :
    Recorded (if s.rd GRG_STAGE_STAT_STATE = 2 then 0x2002 else 0x2003) (s.grgEvent 4 target result param version) := by
  have state : (s.slqPush 3 4 3 [4 + 2 ^ 8 * target + 2 ^ 16 * result, param % 2 ^ 32, version]).rd GRG_STAGE_STAT_STATE =
      s.rd GRG_STAGE_STAT_STATE := (State.slqPush_kept_packetParts _ _ _ _ _ _).rd_eq _ (by decide)
  have is : s.grgEvent 4 target result param version =
      let u := s.slqPush 3 4 3 [4 + 2 ^ 8 * target + 2 ^ 16 * result, param % 2 ^ 32, version]
      u.silt (if u.rd GRG_STAGE_STAT_STATE = 2 then 0x2002 else 0x2003) := rfl
  rw [is, ← state]
  exact State.recorded_silt _ _ _ _ _ _

theorem State.recorded_grgEvent_confirm (s : State) (target result param version : Nat) :
    Recorded 0x2005 (s.grgEvent 6 target result param version) := State.recorded_silt _ _ _ _ _ _

/-- What the end of a staging or of a trial tells: the axis in IDLE, a notice, and a progress packet. -/
def State.grgClosed (s : State) (n : Notice) (event target result param version : Nat) : State :=
  ((s.setGrog .idle).notice n).grgEvent event target result param version

theorem State.grgClosed_spec (s : State) {n : Notice} (page : n.page = 0x20) (bit : n.bit < 32) (event target result param version : Nat) :
    let t := s.grgClosed n event target result param version
    t.modes.grog = .idle ∧ t.grg = s.grg ∧ (∀ f : Field, f.page = 0x20 → f.key ≠ (NOTE_RAW 0x20).key → t.rd f = s.rd f) ∧ Noted n t := by
  obtain ⟨grog, kept⟩ := s.setGrog_spec .idle
  have told := ((s.setGrog .idle).notice n).grgEvent_parts event target result param version
  intro t
  have grg : t.grg = s.grg := (told.frame .grg (by decide)).trans ((State.notice_grg _ _).trans (kept.frame .grg (by decide)))
  refine ⟨?_, grg, fun f hf ne => ?_, ?_⟩
  · exact (congrArg Modes.grog (told.frame .modes (by decide))).trans ((congrArg Modes.grog (State.notice_modes _ _)).trans grog)
  · exact (told.rd_eq f (by rw [Field.slot, hf]; decide)).trans
      ((State.rd_notice_ne _ n (by rw [page]; exact ne) (fun e => absurd (congrArg (· / 0x20000) e) (by rw [← Field.page, hf]; decide))).trans
        (kept.rd_eq f (by rw [Field.slot, hf]; decide)))
  · exact Noted.congr (State.noted_notice _ n bit) (told.rd_eq _ (by rw [page]; decide))

/-! ### ACTIVATE (R542) -/

theorem State.grgCompatible_congr {s t : State} (grg : t.grg = s.grg) (active : ∀ p, t.activeBank p = s.activeBank p) (h : GrgHeader) :
    t.grgCompatible h = s.grgCompatible h := by
  simp only [State.grgCompatible, State.imageVersion, State.image, State.runPlace, grg, active] <;> rfl

theorem State.targetPlace_congr {s t : State} (grg : t.grg = s.grg) (active : ∀ p, t.activeBank p = s.activeBank p) (x : Nat) :
    t.targetPlace x = s.targetPlace x := by
  simp only [State.targetPlace, grg, active]

theorem State.onTrial_congr {s t : State} (trial : ∀ p, t.rd (GRG_BANK_TRIAL p) = s.rd (GRG_BANK_TRIAL p)) : t.onTrial = s.onTrial := by
  simp only [State.onTrial, State.rdB, trial]

theorem State.activateCode_congr {s t : State} (grg : t.grg = s.grg) (active : ∀ p, t.activeBank p = s.activeBank p)
    (trial : ∀ p, t.rd (GRG_BANK_TRIAL p) = s.rd (GRG_BANK_TRIAL p)) (p : Nat) : t.activateCode p = s.activateCode p := by
  simp only [State.activateCode, State.image, grg, State.targetPlace_congr grg active, State.grgCompatible_congr grg active,
    State.onTrial_congr trial]

/-- The result of ACTIVATE, by what the target's bank holds. -/
theorem State.activateCode_spec (s : State) (p : Nat) :
    if p < 3 ∧ (∃ h, s.image (s.targetPlace p) = some h ∧ s.grgCompatible h = true) ∧ s.onTrial = false then s.activateCode p = 0
    else (s.activateCode p = 1 ↔ 3 ≤ p ∨ s.image (s.targetPlace p) = none) ∧
      (s.activateCode p = 1 ∨ s.activateCode p = 2 ∨ s.activateCode p = 4) := by
  rw [State.activateCode]
  by_cases processor : 3 ≤ p
  · rw [if_pos processor, if_neg (fun h => absurd h.1 (by omega))]
    exact ⟨⟨fun _ => .inl processor, fun _ => rfl⟩, .inl rfl⟩
  · rw [if_neg processor]
    cases image : s.image (s.targetPlace p) with
    | none =>
      rw [if_neg (fun ⟨_, ⟨h, is, _⟩, _⟩ => by cases is)]
      exact ⟨⟨fun _ => .inr rfl, fun _ => rfl⟩, .inl rfl⟩
    | some h =>
      dsimp only
      cases compatible : s.grgCompatible h with
      | false =>
        rw [if_neg (fun ⟨_, ⟨h', is, good⟩, _⟩ => by cases is; rw [compatible] at good; cases good)]
        exact ⟨⟨fun e => (by cases e), fun e => e.elim (fun e => absurd e processor) fun e => (by cases e)⟩, .inr (.inl rfl)⟩
      | true =>
        cases trial : s.onTrial with
        | true =>
          rw [if_neg (fun ⟨_, _, off⟩ => by cases off)]
          exact ⟨⟨fun e => (by cases e), fun e => e.elim (fun e => absurd e processor) fun e => (by cases e)⟩, .inr (.inr rfl)⟩
        | false =>
          rw [if_pos ⟨by omega, ⟨h, rfl, compatible⟩, rfl⟩]
          rfl

theorem State.activateCode_lt (s : State) (p : Nat) : s.activateCode p < 8 := by
  have spec := s.activateCode_spec p
  split at spec
  · omega
  · omega

/-- R542: what ACTIVATE leaves. -/
theorem State.grgActivate_spec (s : State) (p : Nat) : let t := s.grgActivate p
    t.grg = s.grg ∧ t.rd GRG_CMD_STAT_RESULT = s.activateCode p ∧
    t.modeReqs = if s.activateCode p = 0 then s.modeReqs ++ [⟨.grog .activating, p, 0⟩] else s.modeReqs := by
  have shown := State.rd_wr_of_lt s (f := GRG_CMD_STAT_RESULT) (v := s.activateCode p) (s.activateCode_lt p)
  dsimp only
  rw [State.grgActivate]
  split
  · exact ⟨rfl, shown, rfl⟩
  · exact ⟨rfl, shown, rfl⟩

/-! ### CONFIRM (R544) -/

/-- The bank of a processor off trial, under the security epoch of its image. -/
def State.offTrial (s : State) (p : Nat) : State :=
  let se := ((s.image (s.runPlace p)).map GrgHeader.secEpoch).getD 0
  let s := (s.wr (GRG_BANK_TRIAL p) 0).wr GRG_SEC_EPOCH (max se (s.rd GRG_SEC_EPOCH))
  { s with grg := { s.grg with trial := none } }

theorem State.grgConfirm_eq (s : State) (p : Nat) : s.grgConfirm p = (s.offTrial p).grgClosed GRG_NOTE_CONFIRMED 6 p 0
    ((s.offTrial p).rd GRG_SEC_EPOCH) (((s.image (s.runPlace p)).map GrgHeader.version).getD 0) := rfl

theorem State.grgConfirm_spec (s : State) (p : Nat) : let t := s.grgConfirm p
    t.rd GRG_CMD_STAT_RESULT = s.rd GRG_CMD_STAT_RESULT ∧ t.rd (GRG_BANK_TRIAL p) = 0 ∧
    t.rd (GRG_BANK_ACTIVE p) = s.rd (GRG_BANK_ACTIVE p) ∧
    (∀ h, s.image (s.runPlace p) = some h → h.secEpoch < 256 → t.rd GRG_SEC_EPOCH = max h.secEpoch (s.rd GRG_SEC_EPOCH)) ∧
    t.grg.trial = none ∧ t.modes.grog = .idle ∧ Noted GRG_NOTE_CONFIRMED t ∧ Recorded 0x2005 t := by
  intro t
  have is : t = _ := s.grgConfirm_eq p
  have regs : (s.offTrial p).regs = ((s.wr (GRG_BANK_TRIAL p) 0).wr GRG_SEC_EPOCH
      (max (((s.image (s.runPlace p)).map GrgHeader.secEpoch).getD 0) (s.rd GRG_SEC_EPOCH))).regs := rfl
  have trial : (s.offTrial p).grg.trial = none := rfl
  generalize s.offTrial p = u at *
  obtain ⟨grog, grg, shown, noted⟩ := u.grgClosed_spec (n := GRG_NOTE_CONFIRMED) rfl (by decide) 6 p 0 (u.rd GRG_SEC_EPOCH)
    (((s.image (s.runPlace p)).map GrgHeader.version).getD 0)
  have recorded : Recorded 0x2005 t := by
    rw [is]
    exact State.recorded_grgEvent_confirm _ _ _ _ _
  rw [← is] at grog grg shown noted
  have resultTrial : GRG_CMD_STAT_RESULT.key ≠ (GRG_BANK_TRIAL p).key := by simp only [Field.key]; omega
  obtain ⟨trialPage, activePage, trialNote, activeNote, epochTrial, activeTrial, activeEpoch⟩ :
      (GRG_BANK_TRIAL p).page = 0x20 ∧ (GRG_BANK_ACTIVE p).page = 0x20 ∧ (GRG_BANK_TRIAL p).key ≠ (NOTE_RAW 0x20).key ∧
      (GRG_BANK_ACTIVE p).key ≠ (NOTE_RAW 0x20).key ∧ GRG_SEC_EPOCH.key ≠ (GRG_BANK_TRIAL p).key ∧
      (GRG_BANK_ACTIVE p).key ≠ (GRG_BANK_TRIAL p).key ∧ (GRG_BANK_ACTIVE p).key ≠ GRG_SEC_EPOCH.key := by
    refine ⟨?_, ?_, ?_, ?_, ?_, ?_, ?_⟩ <;> simp only [Field.page, Field.key] <;> omega
  refine ⟨?_, ?_, ?_, fun h image small => ?_, by rw [grg, trial], grog, noted, recorded⟩
  · rw [shown _ rfl (by decide), State.rd_congr regs, State.rd_wr_ne _ _ (by decide), State.rd_wr_ne _ _ resultTrial]
  · rw [shown _ trialPage trialNote, State.rd_congr regs, State.rd_wr_ne _ _ epochTrial.symm, State.rd_wr_self]
    rfl
  · rw [shown _ activePage activeNote, State.rd_congr regs, State.rd_wr_ne _ _ activeEpoch, State.rd_wr_ne _ _ activeTrial]
  · have epoch : s.rd GRG_SEC_EPOCH < 256 := State.rd_lt s GRG_SEC_EPOCH
    rw [shown _ rfl (by decide), State.rd_congr regs, image]
    exact State.rd_wr_of_lt _ (show max h.secEpoch (s.rd GRG_SEC_EPOCH) < 256 by omega)

/-! ### The boot ROM (R547) -/

/-- Why the boot ROM refuses a container, 0 for none. -/
def State.bootCause (s : State) (b : List Nat) : Nat :=
  let h := grgHeaderOf b
  if grgFormBad b h || h.form != 0 || 3 ≤ h.target then 1 else if !grgModuleOk h then 2 else if !s.grgSigned b h then 3
    else if h.secEpoch < s.rd GRG_SEC_EPOCH then 4 else 0

/-- What bars a container from the boot ROM. -/
def State.BootBars (s : State) (b : List Nat) : Prop :=
  let h := grgHeaderOf b
  grgFormBad b h = true ∨ h.form ≠ 0 ∨ 3 ≤ h.target ∨ grgModuleOk h = false ∨
    vendorSigned (b.take 128) ((b.drop 128).take 64) = false ∨ h.secEpoch < s.rd GRG_SEC_EPOCH

theorem State.bootCause_bars {s : State} {b : List Nat} (h : s.BootBars b) : 1 ≤ s.bootCause b ∧ s.bootCause b ≤ 4 := by
  rw [State.BootBars] at h
  rw [State.bootCause]
  split
  · decide
  next form =>
    have processor : (grgHeaderOf b).target < 3 := by simp at form; omega
    split
    · decide
    next module =>
      rw [State.grgSigned, if_pos processor]
      split
      · decide
      next signed =>
        split
        · decide
        next epoch => simp_all; omega

theorem State.bootCause_none {s : State} {b : List Nat} (h : ¬s.BootBars b) :
    s.bootCause b = 0 := by
  rw [State.BootBars] at h
  push Not at h
  obtain ⟨form, whole, processor, module, signed, epoch⟩ := h
  rw [State.bootCause, State.grgSigned, if_pos processor, if_neg (by simp [form, whole, processor]), if_neg (by simp [module]),
    if_neg (by simp [signed]), if_neg (by omega)]

/-- The bank that failed while the boot ROM writes it. -/
def State.bootErased (s : State) (h : GrgHeader) (place : Nat) : State :=
  (s.grgErase place).wrAll [(GRG_STAGE_STAT_TARGET, h.target), (GRG_STAGE_CNT_DONE, h.blocks), (GRG_STAGE_CNT_TOTAL, h.blocks)]

/-- The bank that the boot ROM has written, active. -/
def State.bootWritten (s : State) (h : GrgHeader) (data : List Nat) (place bank : Nat) : State :=
  let s : State := { s with grg := { s.grg with
      images := Sparse.insert s.grg.images place h,
      nor := (List.range h.blocks).foldl
        (fun m k => Sparse.insert m (4096 * place + k) ((data.drop (4096 * k)).take (min 4096 (h.size - 4096 * k)))) s.grg.nor } }
  s.wrAll [(GRG_STAGE_STAT_STATE, 2), (GRG_STAGE_STAT_RESULT, 0), (GRG_BANK_ACTIVE h.target, bank), (GRG_BANK_TRIAL h.target, 0)]

theorem State.bootContainer_eq (s : State) (b data : List Nat) (failed : Nat) : s.bootContainer b data failed =
    let h := grgHeaderOf b
    let bank := if failed = 1 then 1 else 0
    let place := 2 * h.target + bank
    if s.bootCause b ≠ 0 then s.grgRefuse (s.bootCause b)
    else if data.length ≠ h.size ∨ sha256 data ≠ toOctets 32 h.hash then
      (((s.bootErased h place).wrAll [(GRG_STAGE_STAT_STATE, 3), (GRG_STAGE_STAT_RESULT, 9)]).notice GRG_NOTE_STAGE_FAIL).silt 0x2003
    else (((s.bootErased h place).bootWritten h data place bank).notice GRG_NOTE_VERIFIED).silt 0x2002 := rfl

/-- A notice of Grog's page and a record change no other field of it. -/
theorem State.rd_told (s : State) {n : Notice} (page : n.page = 0x20) (code p0 p1 p2 p3 : Nat) {f : Field} (hf : f.page = 0x20)
    (ne : f.key ≠ (NOTE_RAW 0x20).key) : ((s.notice n).silt code p0 p1 p2 p3).rd f = s.rd f := by
  rw [Field.page] at hf
  have far {g : Field} (hg : g.key / 0x20000 ≠ 0x20) : f.key ≠ g.key := fun e => hg (by rw [← e, hf])
  rw [State.rd_silt_ne _ _ _ _ _ _ (far (by decide)) (far (by decide)) (far (by decide)),
    State.rd_notice_ne _ _ (by rw [page]; exact ne) (far (by decide))]

theorem State.noted_told (s : State) {n : Notice} (page : n.page = 0x20) (bit : n.bit < 32) (code p0 p1 p2 p3 : Nat) :
    Noted n ((s.notice n).silt code p0 p1 p2 p3) :=
  Noted.congr (State.noted_notice _ n bit)
    (State.rd_silt_ne _ _ _ _ _ _ (by rw [page]; decide) (by rw [page]; decide) (by rw [page]; decide))

theorem State.grg_told (s : State) (n : Notice) (code p0 p1 p2 p3 : Nat) : ((s.notice n).silt code p0 p1 p2 p3).grg = s.grg := by
  obtain ⟨r, e, i, silt⟩ := (s.notice n).silt_eq code p0 p1 p2 p3
  rw [silt]
  exact State.notice_grg s n

theorem State.grgRefuse_spec (s : State) {cause : Nat} (h : cause < 16) :
    (s.grgRefuse cause).grg = s.grg ∧ (s.grgRefuse cause).rd GRG_STAGE_STAT_RESULT = cause ∧ Noted GRG_NOTE_STAGE_FAIL (s.grgRefuse cause) := by
  refine ⟨State.notice_grg _ _, ?_, State.noted_notice _ GRG_NOTE_STAGE_FAIL (by decide)⟩
  rw [State.grgRefuse, State.rd_notice_ne _ _ (by decide) (by decide), State.rd_wr_of_lt _ h]

theorem grgBank_fields (p : Nat) : (GRG_BANK_ACTIVE p).page = 0x20 ∧ (GRG_BANK_ACTIVE p).key ≠ (NOTE_RAW 0x20).key ∧
    (GRG_BANK_TRIAL p).page = 0x20 ∧ (GRG_BANK_TRIAL p).key ≠ (NOTE_RAW 0x20).key := by
  refine ⟨?_, ?_, ?_, ?_⟩ <;> simp only [Field.page, Field.key] <;> omega

/-- R547: a container that the boot ROM refuses. -/
theorem State.bootContainer_barred {s : State} {b : List Nat} (data : List Nat) (failed : Nat) (bars : s.BootBars b) :
    let t := s.bootContainer b data failed
    t.grg = s.grg ∧ 1 ≤ t.rd GRG_STAGE_STAT_RESULT ∧ t.rd GRG_STAGE_STAT_RESULT ≤ 4 ∧ Noted GRG_NOTE_STAGE_FAIL t := by
  obtain ⟨least, most⟩ := State.bootCause_bars bars
  dsimp only
  rw [State.bootContainer_eq, if_pos (by omega)]
  obtain ⟨grg, result, noted⟩ := s.grgRefuse_spec (cause := s.bootCause b) (by omega)
  exact ⟨grg, by rw [result]; exact least, by rw [result]; exact most, noted⟩

/-- R547: a container of another length or hash. -/
theorem State.bootContainer_ended {s : State} {b data : List Nat} (failed : Nat) (free : ¬s.BootBars b)
    (bad : data.length ≠ (grgHeaderOf b).size ∨ sha256 data ≠ toOctets 32 (grgHeaderOf b).hash) :
    let t := s.bootContainer b data failed
    let h := grgHeaderOf b
    let bank := if failed = 1 then 1 else 0
    t.rd GRG_STAGE_STAT_STATE = 3 ∧ t.rd GRG_STAGE_STAT_RESULT = 9 ∧ t.image (2 * h.target + bank) = none ∧
    t.rd (GRG_BANK_ACTIVE h.target) = s.rd (GRG_BANK_ACTIVE h.target) ∧ Recorded 0x2003 t := by
  have is := s.bootContainer_eq b data failed
  rw [State.bootCause_none free, if_neg (by decide), if_pos bad] at is
  dsimp only
  rw [is]
  obtain ⟨activePage, activeNote, -⟩ := grgBank_fields (grgHeaderOf b).target
  refine ⟨?_, ?_, ?_, ?_, State.recorded_silt _ _ _ _ _ _⟩
  · rw [State.rd_told _ rfl _ _ _ _ _ rfl (by decide)]
    simp (disch := decide) only [State.wrAll_cons, State.wrAll_nil, State.rd_wr_ne, State.rd_wr_of_lt]
  · rw [State.rd_told _ rfl _ _ _ _ _ rfl (by decide)]
    simp (disch := decide) only [State.wrAll_cons, State.wrAll_nil, State.rd_wr_of_lt]
  · rw [State.image, State.grg_told]
    exact Sparse.get_erase_self _ _
  · rw [State.rd_told _ rfl _ _ _ _ _ activePage activeNote]
    simp (disch := (simp only [Field.key]; omega)) only [State.bootErased, State.wrAll_cons, State.wrAll_nil, State.rd_wr_ne]
    rfl

/-- R547: a container that the boot ROM takes. -/
theorem State.bootContainer_taken {s : State} {b data : List Nat} (failed : Nat) (free : ¬s.BootBars b)
    (good : ¬(data.length ≠ (grgHeaderOf b).size ∨ sha256 data ≠ toOctets 32 (grgHeaderOf b).hash)) :
    let t := s.bootContainer b data failed
    let h := grgHeaderOf b
    let bank := if failed = 1 then 1 else 0
    t.rd GRG_STAGE_STAT_STATE = 2 ∧ t.rd GRG_STAGE_STAT_RESULT = 0 ∧ t.image (2 * h.target + bank) = some h ∧
    (∀ q, q ≠ 2 * h.target + bank → t.image q = s.image q) ∧ t.rd (GRG_BANK_ACTIVE h.target) = bank ∧
    t.rd (GRG_BANK_TRIAL h.target) = 0 ∧ Noted GRG_NOTE_VERIFIED t ∧ Recorded 0x2002 t := by
  have is := s.bootContainer_eq b data failed
  rw [State.bootCause_none free, if_neg (by decide), if_neg good] at is
  dsimp only
  rw [is]
  obtain ⟨activePage, activeNote, trialPage, trialNote⟩ := grgBank_fields (grgHeaderOf b).target
  refine ⟨?_, ?_, ?_, fun q ne => ?_, ?_, ?_, State.noted_told _ rfl (by decide) _ _ _ _ _, State.recorded_silt _ _ _ _ _ _⟩
  · rw [State.rd_told _ rfl _ _ _ _ _ rfl (by decide)]
    simp (disch := (simp only [Field.key]; omega)) only [State.bootWritten, State.wrAll_cons, State.wrAll_nil, State.rd_wr_ne]
    exact State.rd_wr_of_lt _ (by decide)
  · rw [State.rd_told _ rfl _ _ _ _ _ rfl (by decide)]
    simp (disch := (simp only [Field.key]; omega)) only [State.bootWritten, State.wrAll_cons, State.wrAll_nil, State.rd_wr_ne]
    exact State.rd_wr_of_lt _ (by decide)
  · rw [State.image, State.grg_told]
    exact Sparse.get_insert_self _ _ _
  · rw [State.image, State.grg_told]
    exact (Sparse.get_insert_ne _ _ ne).trans (Sparse.get_erase_ne _ ne)
  · rw [State.rd_told _ rfl _ _ _ _ _ activePage activeNote]
    simp (disch := (simp only [Field.key]; omega)) only [State.bootWritten, State.wrAll_cons, State.wrAll_nil, State.rd_wr_ne]
    exact State.rd_wr_of_lt _ (show (if failed = 1 then 1 else 0) < 2 by split <;> decide)
  · rw [State.rd_told _ rfl _ _ _ _ _ trialPage trialNote]
    exact State.rd_wr_of_lt _ Nat.zero_lt_two

/-! ### The commands -/

theorem State.whenSup_of {s : State} (h : s.startup.phase ≠ .halted false) (k : State → State) : s.whenSup k = k s := by
  rw [State.whenSup, if_neg (by simpa using h)]

theorem State.whenSup_halted {s : State} (h : s.startup.phase = .halted false) (k : State → State) : s.whenSup k = s := by
  rw [State.whenSup, h]
  rfl

/-- What a host write of a command leaves of Grog's page. -/
theorem State.rd_grg_hostWrote (s : State) (port : Port) (b : Bool) (addr : Nat) {f : Field} (hf : f.page = 0x20) :
    (s.hostWrote port b addr).rd f = s.rd f := by
  rw [Field.page] at hf
  have far {g : Field} (hg : g.key / 0x20000 ≠ 0x20) : f.key ≠ g.key := fun e => hg (by rw [← e, hf])
  exact State.rd_hostWrote_ne _ _ _ _ (far (by decide)) (far (by decide))

/-- Settles O52: each command through what it leaves of Grog's page and unit; the boot ROM by what bars the container and its hash. -/
theorem activationAndBootRom : Obligations.ActivationAndBootRom := by
  have active (s : State) (port : Port) (q : Nat) : (s.hostWrote port false GRG_CMD_OP.addr).activeBank q = s.activeBank q :=
    State.rd_grg_hostWrote _ _ _ _ (by simp only [Field.page, Field.key]; omega)
  have trial (s : State) (port : Port) (q : Nat) :
      (s.hostWrote port false GRG_CMD_OP.addr).rd (GRG_BANK_TRIAL q) = s.rd (GRG_BANK_TRIAL q) :=
    State.rd_grg_hostWrote _ _ _ _ (by simp only [Field.page, Field.key]; omega)
  refine ⟨fun s port p work halted _ => ⟨.effect (u := s) rfl work ?_, .effect (u := s) rfl work ?_⟩,
    fun s port p work sup _ => .effect (u := s) rfl work ?_, fun s port p work sup _ => .effect (u := s) rfl work ?_,
    fun s b data failed _ => ⟨_, rfl, ?_⟩⟩
  · exact State.whenSup_halted (by simpa using halted) _
  · exact State.whenSup_halted (by simpa using halted) _
  · rw [State.whenSup_of (by simpa using sup)]
    obtain ⟨grg, result, reqs⟩ := (s.hostWrote port false GRG_CMD_OP.addr).grgActivate_spec p
    have same := State.activateCode_congr (s.hostWrote_grg port false GRG_CMD_OP.addr) (active s port) (trial s port) p
    rw [same] at result reqs
    have spec := s.activateCode_spec p
    refine ⟨grg.trans (s.hostWrote_grg _ _ _), ?_⟩
    split at spec
    next asks =>
      rw [if_pos asks, result, reqs, if_pos spec, State.hostWrote_modeReqs]
      exact ⟨spec, rfl⟩
    next bar =>
      rw [if_neg bar, result, reqs, if_neg (by omega)]
      exact ⟨State.hostWrote_modeReqs _ _ _ _, spec⟩
  · rw [State.whenSup_of (by simpa using sup), State.grgConfirmCmd, State.hostWrote_startup, State.rdB, trial]
    by_cases confirms : s.startup.phase = .ready ∧ p < 3 ∧ s.rd (GRG_BANK_TRIAL p) = 1
    · obtain ⟨ready, processor, trialed⟩ := confirms
      rw [if_pos ⟨ready, processor, trialed⟩, if_pos ⟨ready, processor, by rw [trialed]; rfl⟩]
      generalize hu : (s.hostWrote port false GRG_CMD_OP.addr).wr GRG_CMD_STAT_RESULT 0 = u
      have shown {f : Field} (hf : f.page = 0x20) (ne : f.key ≠ GRG_CMD_STAT_RESULT.key) : u.rd f = s.rd f := by
        rw [← hu, State.rd_wr_ne _ _ ne, State.rd_grg_hostWrote _ _ _ _ hf]
      have image (q : Nat) : u.image q = s.image q := by
        rw [State.image, State.image, ← hu, State.wr_grg, State.hostWrote_grg]
      have bank : u.rd (GRG_BANK_ACTIVE p) = s.rd (GRG_BANK_ACTIVE p) :=
        shown (grgBank_fields p).1 (by simp only [Field.key]; omega)
      obtain ⟨result, trial, active, epoch, none, grog, noted, recorded⟩ := u.grgConfirm_spec p
      have started : u.rd GRG_CMD_STAT_RESULT = 0 := by rw [← hu, State.rd_wr_of_lt _ (by decide)]
      refine ⟨result.trans started, trial, active.trans bank, fun h is small => ?_, none, grog, noted, recorded⟩
      rw [epoch h (by rw [image, State.runPlace, State.activeBank, bank]; exact is) small, shown rfl (by decide)]
    · rw [if_neg confirms, if_neg fun ⟨ready, processor, on⟩ => confirms ⟨ready, processor, beq_iff_eq.mp on⟩]
      exact ⟨State.rd_wr_of_lt _ (by decide), by rw [State.wr_grg, State.hostWrote_grg], by rw [State.wr_modes, State.hostWrote_modes]⟩
  · dsimp only
    by_cases halted : s.startup.phase = .halted false
    · rw [if_pos halted, if_neg (by simpa using halted)]
      by_cases bars : s.BootBars b
      · rw [if_pos (by exact bars)]
        exact State.bootContainer_barred data failed bars
      · rw [if_neg (by exact bars)]
        by_cases bad : data.length ≠ (grgHeaderOf b).size ∨ sha256 data ≠ toOctets 32 (grgHeaderOf b).hash
        · rw [if_pos bad]
          exact State.bootContainer_ended failed bars bad
        · rw [if_neg bad]
          exact State.bootContainer_taken failed bars bad
    · rw [if_neg halted, if_pos halted]

end Sys2Proof.Machine
end

section
/-! SUPPORT. The staging of an image: headers, blocks, the final check and abandoned stagings (O51). -/

namespace Sys2Proof.Machine

/-! ### The head of D1 (R537, R538) -/

theorem State.grgTake_none {s : State} (h : s.rd GRG_CTRL_EN = 0 ∨ s.slqTake 1 = none) (mine : Nat → Bool) (k : State → Packet → State) :
    s.grgTake mine k = s := by
  rw [State.grgTake]
  rcases h with off | empty
  · rw [if_pos (by rw [State.rdB, off]; rfl)]
  · rw [empty]
    exact ite_self s

theorem State.grgTake_some {s u : State} {p : Packet} (on : s.rd GRG_CTRL_EN = 1) (h : s.slqTake 1 = some (p, u)) (mine : Nat → Bool)
    (k : State → Packet → State) : s.grgTake mine k = if mine p.kind then k u p else s := by
  rw [State.grgTake, if_neg (by rw [State.rdB, on]; decide), h]

/-! ### Headers (R537) -/

theorem State.grgHeaderCause_unsigned {s : State} {b : List Nat} {h : GrgHeader} (bad : s.grgSigned b h = false) :
    s.grgHeaderCause b h ≠ 0 := by
  rw [State.grgHeaderCause]
  split
  · decide
  split
  · decide
  rw [bad, if_pos (show (!false) = true from rfl)]
  decide

theorem State.grgHeaderCause_trial {s : State} {b : List Nat} {h : GrgHeader} (processor : h.target < 3) (trial : s.onTrial = true) :
    s.grgHeaderCause b h ≠ 0 := by
  rw [State.grgHeaderCause]
  iterate 6
    split
    · decide
  rw [if_pos ⟨processor, trial⟩]
  decide

theorem State.grgHeaderCause_busy {s : State} {b : List Nat} {h : GrgHeader}
    (busy : s.stageState = 1 ∨ s.stageState = 4 ∨ s.grg.asking.isSome = true) : s.grgHeaderCause b h ≠ 0 := by
  rw [State.grgHeaderCause]
  iterate 7
    split
    · decide
  decide

theorem State.grgHeaderCause_lt (s : State) (b : List Nat) (h : GrgHeader) : s.grgHeaderCause b h < 16 := by
  rw [State.grgHeaderCause]
  iterate 8
    split
    · decide
  decide

/-- R537: what a header leaves. -/
theorem State.grgHeader_spec (s : State) (b : List Nat) : let t := s.grgHeader b
    let cause := s.grgHeaderCause b (grgHeaderOf b)
    t.slqDown = s.slqDown ∧ t.grg.header = s.grg.header ∧ t.modes = s.modes ∧
    if cause = 0 then t.grg.asking = some (grgHeaderOf b) ∧ t.modeReqs = s.modeReqs ++ [⟨.grog .staging, 0, 0⟩] ∧ OnlyFields [] s t
    else t.grg = s.grg ∧ t.modeReqs = s.modeReqs ∧ t.rd GRG_STAGE_STAT_RESULT = cause ∧ Raises GRG_NOTE_STAGE_FAIL s t := by
  have small := s.grgHeaderCause_lt b (grgHeaderOf b)
  dsimp only
  rw [State.grgHeader]
  by_cases accepted : s.grgHeaderCause b (grgHeaderOf b) = 0
  · rw [if_pos accepted, if_neg (not_not.mpr accepted)]
    exact ⟨rfl, rfl, rfl, rfl, rfl, OnlyFields.of_regs rfl⟩
  · rw [if_neg accepted, if_pos accepted]
    obtain ⟨grg, result, -⟩ := s.grgRefuse_spec small
    refine ⟨?_, by rw [grg], ?_, grg, ?_, result, ?_⟩
    · rw [State.grgRefuse, State.notice_slqDown, State.wr_slqDown]
    · rw [State.grgRefuse, State.notice_modes, State.wr_modes]
    · rw [State.grgRefuse, State.notice_modeReqs, State.wr_modeReqs]
    · exact Raises.of_rd (State.raises_notice _ GRG_NOTE_STAGE_FAIL (by decide)) (State.rd_wr_ne _ _ (by decide))

/-! ### Blocks (R538) -/

theorem State.grgBlockData_spec {s : State} {h : GrgHeader} {b : List Nat} {blk : Nat} {d : List Nat}
    (built : s.grgBlockData h b = some (blk, d)) : blk < h.blocks ∧ d.length = min 4096 (h.size - 4096 * blk) := by
  rw [State.grgBlockData] at built
  split at built
  · cases built
  next form =>
    dsimp only at built
    split at built
    · cases built
    next d' made =>
      split at built
      next whole =>
        cases built
        exact ⟨by omega, whole⟩
      next => cases built

/-- A good block at its place and in the map. -/
def State.blockStored (s : State) (h : GrgHeader) (blk : Nat) (d : List Nat) : State :=
  { s with grg := { s.grg with
      nor := Sparse.insert s.grg.nor (4096 * s.targetPlace h.target + blk) d,
      map := if !s.grg.map.contains blk then s.grg.map ++ [blk] else s.grg.map,
      fresh := if !s.grg.map.contains blk then s.moduleTime else s.grg.fresh } }

/-- R538: what a block packet leaves. -/
theorem State.grgBlock_spec (s : State) (b : List Nat) {h : GrgHeader} (header : s.grg.header = some h) (receiving : s.stageState = 1) :
    let t := s.grgBlock b
    t.grg.images = s.grg.images ∧
    match s.grgBlockData h b with
    | none => t.grg = s.grg ∧ t.rd GRG_BLOCK_BAD = (s.rd GRG_BLOCK_BAD + 1) % 2 ^ 32
    | some (blk, d) =>
      Sparse.get t.grg.nor (4096 * s.targetPlace h.target + blk) = some d ∧ blk < h.blocks ∧ blk ∈ t.grg.map ∧
      (∀ b, b ∈ t.grg.map ↔ b = blk ∨ b ∈ s.grg.map) ∧ t.rd GRG_STAGE_CNT_DONE = t.grg.map.length % 2 ^ 13 ∧
      d.length = min 4096 (h.size - 4096 * blk) ∧ t.rd GRG_BLOCK_BAD = s.rd GRG_BLOCK_BAD ∧
      t.grg.fresh = if blk ∈ s.grg.map then s.grg.fresh else s.moduleTime := by
  have is : s.grgBlock b = match s.grgBlockData h b with
      | none => (s.count GRG_BLOCK_BAD 1).grgEvent 2 h.target 0 (le b 0 4) h.version
      | some (blk, d) => (s.blockStored h blk d).wr GRG_STAGE_CNT_DONE (s.blockStored h blk d).grg.map.length := by
    rw [State.grgBlock, header]
    dsimp only
    rw [if_neg (not_not.mpr receiving)]
    rfl
  cases built : s.grgBlockData h b with
  | none =>
    rw [built] at is
    dsimp only at is ⊢
    rw [is]
    have told := (s.count GRG_BLOCK_BAD 1).grgEvent_parts 2 h.target 0 (le b 0 4) h.version
    have grg : ((s.count GRG_BLOCK_BAD 1).grgEvent 2 h.target 0 (le b 0 4) h.version).grg = s.grg :=
      (told.frame .grg (by decide)).trans (State.wr_grg _ _ _)
    exact ⟨by rw [grg], grg, (told.rd_eq _ (by decide)).trans (State.rd_count_self _ _ _)⟩
  | some r =>
    obtain ⟨blk, d⟩ := r
    obtain ⟨inside, length⟩ := State.grgBlockData_spec built
    rw [built] at is
    dsimp only at is ⊢
    rw [is]
    have mem (x : Nat) : x ∈ (s.blockStored h blk d).grg.map ↔ x = blk ∨ x ∈ s.grg.map := by
      simp only [State.blockStored]
      by_cases known : blk ∈ s.grg.map
      · simp only [List.contains_iff_mem.mpr known, Bool.not_true, Bool.false_eq_true, if_false]
        exact ⟨.inr, fun e => e.elim (fun e => e ▸ known) id⟩
      · simp [known, or_comm]
    refine ⟨rfl, Sparse.get_insert_self _ _ _, inside, (mem blk).mpr (.inl rfl), mem, State.rd_wr_self _ _ _, length,
      State.rd_wr_ne _ _ (by decide), ?_⟩
    simp only [State.wr_grg, State.blockStored]
    by_cases known : blk ∈ s.grg.map <;> simp [known]

/-! ### The end of a staging (R539, R540) -/

/-- The record of the end of a staging, through the axis and the notice. -/
theorem State.recorded_grgClosed_end (s : State) {n : Notice} (page : n.page = 0x20) (target result param version : Nat) :
    Recorded (if s.rd GRG_STAGE_STAT_STATE = 2 then 0x2002 else 0x2003) (s.grgClosed n 4 target result param version) := by
  have state : ((s.setGrog .idle).notice n).rd GRG_STAGE_STAT_STATE = s.rd GRG_STAGE_STAT_STATE :=
    (State.rd_notice_ne _ n (by rw [page]; decide) (by decide)).trans ((s.setGrog_spec .idle).2.rd_eq _ (by decide))
  rw [← state]
  exact State.recorded_grgEvent_end _ _ _ _ _

/-- R539, R540: what a staging that fails or is abandoned leaves. -/
theorem State.stageFail_spec {s : State} {h : GrgHeader} (header : s.grg.header = some h) {cause : Nat} (small : cause < 16) :
    let t := s.stageFail cause
    t.rd GRG_STAGE_STAT_STATE = 3 ∧ t.rd GRG_STAGE_STAT_RESULT = cause ∧ t.grg.header = none ∧ t.grg.map = [] ∧
    t.grg.images = s.grg.images ∧ t.modes.grog = .idle ∧ Noted GRG_NOTE_STAGE_FAIL t ∧ Recorded 0x2003 t := by
  have is : ∃ u : State, s.stageFail cause = u.grgClosed GRG_NOTE_STAGE_FAIL 4 h.target cause cause h.version ∧
      u.rd GRG_STAGE_STAT_STATE = 3 ∧ u.rd GRG_STAGE_STAT_RESULT = cause ∧ u.grg.header = none ∧ u.grg.map = [] ∧
      u.grg.images = s.grg.images := by
    refine ⟨{ s with grg := { s.grg with header := none, map := [], asking := none } }.wrAll
      [(GRG_STAGE_STAT_STATE, 3), (GRG_STAGE_STAT_RESULT, cause)], ?_, ?_, ?_, rfl, rfl, rfl⟩
    · rw [State.stageFail, header]
      rfl
    · simp (disch := decide) only [State.wrAll_cons, State.wrAll_nil, State.rd_wr_ne, State.rd_wr_of_lt]
    · rw [State.wrAll_cons, State.wrAll_cons, State.wrAll_nil, State.rd_wr_of_lt _ small]
  obtain ⟨u, is, state, result, none, map, images⟩ := is
  obtain ⟨grog, grg, shown, noted⟩ := u.grgClosed_spec (n := GRG_NOTE_STAGE_FAIL) rfl (by decide) 4 h.target cause cause h.version
  have recorded := u.recorded_grgClosed_end (n := GRG_NOTE_STAGE_FAIL) rfl h.target cause cause h.version
  rw [state, if_neg (by decide)] at recorded
  dsimp only
  rw [is]
  exact ⟨(shown _ rfl (by decide)).trans state, (shown _ rfl (by decide)).trans result, by rw [grg, none], by rw [grg, map],
    by rw [grg, images], grog, noted, recorded⟩

/-- The state of a staging whose image has been checked. -/
def State.imageTaken (s : State) (h : GrgHeader) : State :=
  let place := s.targetPlace h.target
  let s : State := { s with grg := { s.grg with
      header := none, map := [], images := Sparse.insert s.grg.images place h,
      offers := if h.target < 3 then s.grg.offers else Sparse.insert s.grg.offers (h.target - 0x10) (place % 2) } }
  s.wrAll [(GRG_STAGE_STAT_STATE, 2), (GRG_STAGE_STAT_RESULT, 0)]

/-- R539: the final check. -/
theorem State.grgVerify_eq {s : State} {h : GrgHeader} (header : s.grg.header = some h) : s.grgVerify =
    if s.stageState ≠ 1 ∨ s.grg.map.length ≠ h.blocks then s
    else if s.imageGood h = true then (s.imageTaken h).grgClosed GRG_NOTE_VERIFIED 4 h.target 0 0 h.version
    else s.stageFail 9 := by
  rw [State.grgVerify, header]
  dsimp only
  split
  · rfl
  · cases s.imageGood h <;> rfl

theorem State.imageTaken_closed (s : State) (h : GrgHeader) :
    let t := (s.imageTaken h).grgClosed GRG_NOTE_VERIFIED 4 h.target 0 0 h.version
    t.grg.header = none ∧ t.grg.map = [] ∧ t.modes.grog = .idle ∧
    t.rd GRG_STAGE_STAT_STATE = 2 ∧ t.rd GRG_STAGE_STAT_RESULT = 0 ∧ t.image (s.targetPlace h.target) = some h ∧
    (∀ q, q ≠ s.targetPlace h.target → t.image q = s.image q) ∧ Noted GRG_NOTE_VERIFIED t ∧ Recorded 0x2002 t := by
  have header : (s.imageTaken h).grg.header = none := rfl
  have map : (s.imageTaken h).grg.map = [] := rfl
  have images : (s.imageTaken h).grg.images = Sparse.insert s.grg.images (s.targetPlace h.target) h := rfl
  have state : (s.imageTaken h).rd GRG_STAGE_STAT_STATE = 2 := by
    rw [State.imageTaken]
    simp (disch := decide) only [State.wrAll_cons, State.wrAll_nil, State.rd_wr_ne, State.rd_wr_of_lt]
  have result : (s.imageTaken h).rd GRG_STAGE_STAT_RESULT = 0 := by
    rw [State.imageTaken]
    simp (disch := decide) only [State.wrAll_cons, State.wrAll_nil, State.rd_wr_of_lt]
  generalize s.imageTaken h = u at *
  obtain ⟨grog, grg, shown, noted⟩ := u.grgClosed_spec (n := GRG_NOTE_VERIFIED) rfl (by decide) 4 h.target 0 0 h.version
  have recorded := u.recorded_grgClosed_end (n := GRG_NOTE_VERIFIED) rfl h.target 0 0 h.version
  rw [state, if_pos rfl] at recorded
  dsimp only
  refine ⟨by rw [grg, header], by rw [grg, map], grog, (shown _ rfl (by decide)).trans state, (shown _ rfl (by decide)).trans result, ?_,
    fun q ne => ?_, noted, recorded⟩
  · rw [State.image, grg, images, Sparse.get_insert_self]
  · rw [State.image, grg, images, Sparse.get_insert_ne _ _ ne, State.image]

/-! ### The commands -/

theorem State.stageIdle_iff (s : State) : s.stageIdle = true ↔
    s.stageState = 1 ∧ s.rd GRG_CFG_IDLE_LIMIT ≠ 0 ∧ s.grg.fresh + s.rd GRG_CFG_IDLE_LIMIT * 1000000000 ≤ s.moduleTime := by
  rw [State.stageIdle, Bool.and_eq_true, Bool.and_eq_true, beq_iff_eq, bne_iff_ne, decide_eq_true_iff, and_assoc]

/-- Settles O51: the head of D1 through its KIND, headers through the order of their checks, blocks through what they build, and the end
of a staging through what its closing tells. -/
theorem imageStaging : Obligations.ImageStaging := by
  refine ⟨fun s i work idle is => ?_, fun s u p work on taken => .working (u := s) rfl work ?_,
    fun s u p work on taken => .working (u := s) rfl work ?_, fun s u p h work on taken header => .working (u := s) rfl work ?_,
    fun s work => .working (u := s) rfl work ?_, fun s h work header => .working (u := s) rfl work ?_⟩
  · rcases is with rfl | rfl | rfl
    · exact .working (u := s) rfl work (State.grgTake_none idle _ _)
    · exact .working (u := s) rfl work (State.grgTake_none idle _ _)
    · exact .working (u := s) rfl work (State.grgTake_none idle _ _)
  · rw [State.grgTake_some on taken]
    obtain ⟨l, rfl⟩ := State.slqTake_down taken
    by_cases other : p.kind = 1
    · rw [if_neg (not_not.mpr other), if_pos (by rw [other]; rfl)]
      obtain ⟨down, header, modes, rest⟩ := State.grgHeader_spec { s with slqDown := l } (packetOctets p)
      refine ⟨down, header, modes, fun bad => State.grgHeaderCause_unsigned bad, fun processor trial =>
        State.grgHeaderCause_trial processor trial, fun busy => State.grgHeaderCause_busy busy, ?_⟩
      by_cases accepted : State.grgHeaderCause { s with slqDown := l } (packetOctets p) (grgHeaderOf (packetOctets p)) = 0
      · rw [if_pos accepted] at rest
        rw [if_pos accepted]
        obtain ⟨asking, reqs, only⟩ := rest
        exact ⟨asking, reqs, (OnlyFields.of_regs rfl).trans only⟩
      · rw [if_neg accepted] at rest
        rw [if_neg accepted]
        obtain ⟨grg, reqs, result, raises⟩ := rest
        exact ⟨grg, reqs, result, raises⟩
    · rw [if_pos other, if_neg (by simpa using other)]
  · rw [State.grgTake_some on taken]
    obtain ⟨l, rfl⟩ := State.slqTake_down taken
    by_cases other : p.kind = 2
    · rw [if_neg (not_not.mpr other), if_pos (c := (p.kind == 2) = true) (by rw [other]; rfl)]
      by_cases receiving : s.stageState = 1
      · rw [if_neg (not_not.mpr receiving)]
        cases header : s.grg.header with
        | none =>
          dsimp only
          rw [State.grgBlock]
          dsimp only
          rw [header]
        | some h => exact State.grgBlock_spec { s with slqDown := l } (packetOctets p) header receiving
      · rw [if_pos receiving, State.grgBlock]
        cases header : s.grg.header with
        | none => rfl
        | some h => exact if_pos receiving
    · rw [if_pos other, if_neg (by simpa using other)]
  · rw [State.grgTake_some on taken]
    obtain ⟨l, is⟩ := State.slqTake_down taken
    by_cases other : p.kind = 1 ∨ p.kind = 2
    · rw [if_pos other, if_neg (by rcases other with e | e <;> rw [e] <;> decide)]
    · have mine : (p.kind != 1 && p.kind != 2) = true := by
        rw [Bool.and_eq_true, bne_iff_ne, bne_iff_ne]
        exact not_or.mp other
      rw [if_neg other, if_pos mine]
      by_cases three : p.kind = 3
      · rw [if_pos three, if_pos three]
        have ended := State.stageFail_spec (s := u) (h := h) (by rw [is]; exact header) (cause := 0) (by decide)
        have images : u.grg.images = s.grg.images := by rw [is]
        rw [images] at ended
        exact ended
      · rw [if_neg three, if_neg three]
  · cases header : s.grg.header with
    | none =>
      dsimp only
      rw [State.grgVerify, header]
    | some h =>
      dsimp only
      rw [State.grgVerify_eq header]
      by_cases early : s.stageState ≠ 1 ∨ s.grg.map.length ≠ h.blocks
      · rw [if_pos early, if_pos early]
      · rw [if_neg early, if_neg early]
        by_cases good : s.imageGood h = true
        · rw [if_pos good, if_pos good]
          exact s.imageTaken_closed h
        · rw [if_neg good, if_neg good]
          obtain ⟨state, result, none, map, images, grog, noted, recorded⟩ := State.stageFail_spec header (cause := 9) (by decide)
          exact ⟨none, map, grog, state, result, images, noted, recorded⟩
  · by_cases idle : s.stageIdle = true
    · rw [if_pos ((State.stageIdle_iff s).mp idle), if_pos idle]
      obtain ⟨state, result, none, map, images, grog, noted, recorded⟩ := State.stageFail_spec header (cause := 10) (by decide)
      exact ⟨state, result, none, images, grog, noted, recorded⟩
    · rw [if_neg (mt (State.stageIdle_iff s).mpr idle), if_neg idle]

end Sys2Proof.Machine
end

section
/-! SUPPORT. The rules of the queues' operations, and uplink queues (O24). -/

namespace Sys2Proof.Machine

/-! ### What an operation leaves of the queues -/

/-- Queue q became v, and every other queue stands. -/
def QueueTo (q : Nat) (v : SlipQueue) (s t : State) : Prop := (∀ j, j < 24 → j ≠ q → t.queue j = s.queue j) ∧ t.queue q = v

theorem State.queue_congr {s t : State} (up : t.slqUp = s.slqUp) (down : t.slqDown = s.slqDown) (q : Nat) : t.queue q = s.queue q := by
  rw [State.queue, State.queue, up, down]

theorem State.queue_hostWrote (s : State) (port : Port) (b : Bool) (addr q : Nat) : (s.hostWrote port b addr).queue q = s.queue q :=
  State.queue_congr (s.hostWrote_slqUp _ _ _) (s.hostWrote_slqDown _ _ _) q

theorem State.queue_wr (s : State) (f : Field) (v q : Nat) : (s.wr f v).queue q = s.queue q := rfl

theorem State.queue_notice (s : State) (n : Notice) (q : Nat) : (s.notice n).queue q = s.queue q :=
  State.queue_congr (s.notice_slqUp n) (s.notice_slqDown n) q

theorem QueueTo.congr {q : Nat} {v : SlipQueue} {s t u : State} (h : QueueTo q v s t) (e : ∀ j, u.queue j = t.queue j) : QueueTo q v s u :=
  ⟨fun j hj ne => (e j).trans (h.1 j hj ne), (e q).trans h.2⟩

theorem QueueTo.trans {q : Nat} {v w : SlipQueue} {s t u : State} (h : QueueTo q v s t) (k : QueueTo q w t u) : QueueTo q w s u :=
  ⟨fun j hj ne => (k.1 j hj ne).trans (h.1 j hj ne), k.2⟩

/-- The queues after a host's write are those before it. -/
theorem QueueTo.of_hostWrote {q : Nat} {v : SlipQueue} {s t : State} {port : Port} {b : Bool} {addr : Nat}
    (h : QueueTo q v (s.hostWrote port b addr) t) : QueueTo q v s t :=
  ⟨fun j hj ne => (h.1 j hj ne).trans (s.queue_hostWrote port b addr j), h.2⟩

theorem QueueTo.same (q : Nat) (s : State) : QueueTo q (s.queue q) s s := ⟨fun _ _ _ => rfl, rfl⟩

theorem State.setQueue_to (s : State) {q : Nat} (hq : q < 24) (v : SlipQueue) : QueueTo q v s (s.setQueue q v) := by
  rw [State.setQueue]
  split
  next up =>
    refine ⟨fun j hj ne => ?_, ?_⟩
    · rw [State.queue, State.queue]
      split
      next small => exact (getD_putAt _ _ _ _ _ small).trans (if_neg ne)
      next => rfl
    · rw [State.queue, if_pos up]
      exact (getD_putAt _ _ _ _ _ up).trans (if_pos rfl)
  next down =>
    refine ⟨fun j hj ne => ?_, ?_⟩
    · rw [State.queue, State.queue]
      split
      next => rfl
      next large => exact (getD_putAt _ _ _ _ _ (by omega)).trans (if_neg (by omega))
    · rw [State.queue, if_neg down]
      exact (getD_putAt _ _ _ _ _ (by omega)).trans (if_pos rfl)

theorem State.setQueue_regs (s : State) (q : Nat) (v : SlipQueue) : (s.setQueue q v).regs = s.regs := by
  rw [State.setQueue]
  split <;> rfl

/-! ### Levels (R446) -/

/-- R446: a level that has stood changes LEVEL_MAX, STAT.WM and a notice alone. -/
theorem State.slqReached_spec (s : State) (q lvl : Nat) : (∃ r e, s.slqReached q lvl = { s with regs := r, emitted := e }) ∧
    OnlyFields [qMax q, qStatWm q, NOTE_RAW 0x1A, MSIX_PBA] s (s.slqReached q lvl) := by
  have raised : ∃ r, (if s.rd (qMax q) < lvl then s.wr (qMax q) lvl else s) = { s with regs := r } := by
    split
    · exact ⟨_, rfl⟩
    · exact ⟨_, rfl⟩
  have only : OnlyFields [qMax q, qStatWm q, NOTE_RAW 0x1A, MSIX_PBA] s (if s.rd (qMax q) < lvl then s.wr (qMax q) lvl else s) := by
    split
    · exact (OnlyFields.refl _ s).wr _ (by simp)
    · exact OnlyFields.refl _ s
  have is : s.slqReached q lvl = let u := if s.rd (qMax q) < lvl then s.wr (qMax q) lvl else s
    if u.rd (qWmark q) ≠ 0 ∧ u.rd (qWmark q) ≤ lvl then (u.wr (qStatWm q) 1).notice SLQ_NOTE_WMARK else u := rfl
  rw [is]
  generalize (if s.rd (qMax q) < lvl then s.wr (qMax q) lvl else s) = u at *
  obtain ⟨r, parts⟩ := raised
  dsimp only
  split
  · obtain ⟨r', e', notice⟩ := (u.wr (qStatWm q) 1).notice_eq SLQ_NOTE_WMARK
    refine ⟨⟨r', e', ?_⟩, (only.wr 1 (by simp)).notice _ (by simp) (by simp)⟩
    rw [notice, parts]
    rfl
  · exact ⟨⟨r, s.emitted, parts⟩, only⟩

theorem State.queue_slqReached (s : State) (q lvl j : Nat) : (s.slqReached q lvl).queue j = s.queue j := by
  obtain ⟨⟨r, e, is⟩, -⟩ := s.slqReached_spec q lvl
  rw [is]
  rfl

theorem State.queue_slqSettle (s : State) (q j : Nat) : (s.slqSettle q).queue j = s.queue j := s.queue_slqReached q _ j

/-- The fields of a queue that its levels change. -/
def levelFields (q : Nat) : List Field := [qMax q, qStatWm q, NOTE_RAW 0x1A, MSIX_PBA]

theorem qDrops_apart (j q : Nat) : ∀ g ∈ levelFields q, (qDrops j).key ≠ g.key := by
  rw [levelFields]
  simp only [List.forall_mem_cons, List.not_mem_nil, false_imp_iff, implies_true, and_true]
  refine ⟨?_, ?_, ?_, ?_⟩ <;> simp only [qDrops, qMax, qStatWm, qField] <;> split_ifs <;> simp only [Field.key] <;> omega

/-- R433, R446: putting a queue and settling its level. -/
theorem State.put_settled (s : State) {q : Nat} (hq : q < 24) (v : SlipQueue) :
    QueueTo q v s ((s.setQueue q v).slqSettle q) ∧ OnlyFields (levelFields q) s ((s.setQueue q v).slqSettle q) :=
  ⟨(s.setQueue_to hq v).congr fun j => State.queue_slqSettle _ q j,
    (OnlyFields.of_regs (s.setQueue_regs q v)).trans (State.slqReached_spec _ q _).2⟩

/-! ### Admitted and dropped packets (R437, R444) -/

/-- A packet at the end of the eligible ones. -/
def SlipQueue.withPacket (v : SlipQueue) (p : Packet) : SlipQueue :=
  { v with eligible := v.eligible ++ [{ p with serial := v.nextSerial }], timerFired := v.timerFired && !v.ready.isEmpty }

theorem State.slqAdmit_eq (s : State) (q : Nat) (p : Packet) : s.slqAdmit q p =
    if q < 16 && (s.queue q).ready.isEmpty then ((s.setQueue q ((s.queue q).withPacket p)).slqSettle q).notice (SLQ_NOTE_AVAIL q)
    else (s.setQueue q ((s.queue q).withPacket p)).slqSettle q := rfl

theorem State.slqAdmit_to (s : State) {q : Nat} (hq : q < 24) (p : Packet) : QueueTo q ((s.queue q).withPacket p) s (s.slqAdmit q p) := by
  rw [State.slqAdmit_eq]
  split
  · exact (s.put_settled hq _).1.congr fun j => State.queue_notice _ _ j
  · exact (s.put_settled hq _).1

theorem State.slqAdmit_noted (s : State) {q : Nat} (hq : q < 16) (p : Packet) (first : (s.queue q).ready = []) :
    Noted (SLQ_NOTE_AVAIL q) (s.slqAdmit q p) := by
  rw [State.slqAdmit_eq, if_pos (by rw [first, decide_eq_true hq]; rfl)]
  exact State.noted_notice _ (SLQ_NOTE_AVAIL q) (by show 0 + q < 32; omega)

theorem State.slqAdmit_only (s : State) {q : Nat} (hq : q < 24) (p : Packet) : OnlyFields (levelFields q) s (s.slqAdmit q p) := by
  rw [State.slqAdmit_eq]
  split
  · exact (s.put_settled hq _).2.notice _ (by simp [levelFields]) (by simp [levelFields])
  · exact (s.put_settled hq _).2

/-- A carry check that fails leaves the queues' page and the queues alone. -/
theorem State.itgCarry_parts (s : State) (receiving sending : Nat) :
    Kept (Touches 0x4400000020100000002) s (s.itgCarry receiving sending) := State.itgCarry_kept (.refl s) receiving sending fun _ h => h

/-- R437, R563: what a packet whose carry check fails leaves. -/
theorem State.slqCorruptDrop_spec (s : State) (q : Nat) : let t := s.slqCorruptDrop q
    (∀ j, t.queue j = s.queue j) ∧ t.rd (qStatCorrupt q) = 1 ∧ Noted SLQ_NOTE_CORRUPT t ∧
    t.rd (qDrops q) = (s.rd (qDrops q) + 1) % 2 ^ (qDrops q).width ∧ Noted ITG_NOTE_CARRY t := by
  have is : s.slqCorruptDrop q = (((s.count (qDrops q) 1).wr (qStatCorrupt q) 1).notice SLQ_NOTE_CORRUPT).itgCarry 0x1A (producerPage q) := rfl
  have told := (((s.count (qDrops q) 1).wr (qStatCorrupt q) 1).notice SLQ_NOTE_CORRUPT).itgCarry_parts 0x1A (producerPage q)
  have page : (qStatCorrupt q).page = 0x1A ∧ (qDrops q).page = 0x1A ∧ (qStatCorrupt q).key ≠ (NOTE_RAW 0x1A).key ∧
      (qStatCorrupt q).key ≠ MSIX_PBA.key ∧ (qDrops q).key ≠ (NOTE_RAW 0x1A).key ∧ (qDrops q).key ≠ MSIX_PBA.key ∧
      (qDrops q).key ≠ (qStatCorrupt q).key ∧ (qStatCorrupt q).width = 1 := by
    refine ⟨?_, ?_, ?_, ?_, ?_, ?_, ?_, ?_⟩ <;> simp only [qDrops, qStatCorrupt, qField] <;> split <;>
      simp only [Field.key, Field.page] <;> omega
  obtain ⟨corruptPage, dropsPage, corruptNote, corruptPba, dropsNote, dropsPba, apart, width⟩ := page
  have through {f : Field} (hf : f.page = 0x1A) (note : f.key ≠ (NOTE_RAW 0x1A).key) (pba : f.key ≠ MSIX_PBA.key) :
      (s.slqCorruptDrop q).rd f = ((s.count (qDrops q) 1).wr (qStatCorrupt q) 1).rd f :=
    (told.rd_eq f (by rw [Field.slot, hf]; decide)).trans (State.rd_notice_ne _ SLQ_NOTE_CORRUPT note pba)
  refine ⟨fun j => ?_, ?_, ?_, ?_, ?_⟩
  · exact (State.queue_congr (told.frame .slqUp (by decide)) (told.frame .slqDown (by decide)) j).trans (State.queue_notice _ _ j)
  · rw [through corruptPage corruptNote corruptPba, State.rd_wr_of_lt _ (by rw [width]; decide)]
  · exact Noted.congr (State.noted_notice _ SLQ_NOTE_CORRUPT (by decide)) (told.rd_eq _ (by decide))
  · rw [through dropsPage dropsNote dropsPba, State.rd_wr_ne _ _ apart]
    exact State.rd_wr_self _ _ _
  · rw [is]
    exact Noted.congr (State.noted_notice _ ITG_NOTE_CARRY (by decide))
      (State.rd_silt_ne _ _ _ _ _ _ (by decide) (by decide) (by decide))

/-- R444: what a packet lost under DROP_NEWEST leaves. -/
theorem State.slqDropNewest_spec (s : State) (q : Nat) : let t := s.slqDropNewest q
    (∀ j, t.queue j = s.queue j) ∧ t.rd (qStatDropped q) = 1 ∧ Noted SLQ_NOTE_DROP t ∧
    t.rd (qDrops q) = (s.rd (qDrops q) + 1) % 2 ^ (qDrops q).width := by
  obtain ⟨droppedNote, droppedPba, dropsNote, dropsPba, apart, width⟩ : (qStatDropped q).key ≠ (NOTE_RAW 0x1A).key ∧
      (qStatDropped q).key ≠ MSIX_PBA.key ∧ (qDrops q).key ≠ (NOTE_RAW 0x1A).key ∧ (qDrops q).key ≠ MSIX_PBA.key ∧
      (qDrops q).key ≠ (qStatDropped q).key ∧ (qStatDropped q).width = 1 := by
    refine ⟨?_, ?_, ?_, ?_, ?_, ?_⟩ <;> simp only [qDrops, qStatDropped, qField] <;> split <;> simp only [Field.key] <;> omega
  refine ⟨fun j => State.queue_notice _ _ j, ?_, State.noted_notice _ SLQ_NOTE_DROP (by decide), ?_⟩
  · rw [State.slqDropNewest, State.rd_notice_ne _ SLQ_NOTE_DROP droppedNote droppedPba, State.rd_wr_of_lt _ (by rw [width]; decide)]
  · rw [State.slqDropNewest, State.rd_notice_ne _ SLQ_NOTE_DROP dropsNote dropsPba, State.rd_wr_ne _ _ apart]
    exact State.rd_wr_self _ _ _

/-- R443: what an access in error leaves. -/
theorem State.slqErr_spec (s : State) {q reason : Nat} (hq : q < 2 ^ 5) (hr : reason < 2 ^ 3) : let t := s.slqErr q reason
    (∀ j, t.queue j = s.queue j) ∧ t.rd SLQ_ERR_QUEUE = q ∧ t.rd SLQ_ERR_REASON = reason ∧ Noted SLQ_NOTE_ERR t ∧
    OnlyFields [SLQ_ERR_QUEUE, SLQ_ERR_REASON, NOTE_RAW 0x1A, MSIX_PBA] s t := by
  refine ⟨fun j => State.queue_notice _ _ j, ?_, ?_, State.noted_notice _ SLQ_NOTE_ERR (by decide),
    (((OnlyFields.refl _ s).wr q (by simp)).wr reason (by simp)).notice _ (by simp) (by simp)⟩
  · rw [State.slqErr, State.rd_notice_ne _ SLQ_NOTE_ERR (by decide) (by decide), State.rd_wr_ne _ _ (by decide), State.rd_wr_of_lt _ hq]
  · rw [State.slqErr, State.rd_notice_ne _ SLQ_NOTE_ERR (by decide) (by decide), State.rd_wr_of_lt _ hr]

/-! ### Stalled producers (R444) -/

/-- Which parts of a queue the completion of stalled packets leaves: all but the eligible ones, the stalled ones and the timer. -/
def SameReader (v w : SlipQueue) : Prop :=
  w.owned = v.owned ∧ w.held = v.held ∧ w.marked = v.marked ∧ w.replay = v.replay ∧ w.building = v.building

theorem SameReader.trans {u v w : SlipQueue} (h : SameReader u v) (k : SameReader v w) : SameReader u w := by
  obtain ⟨o, h', m, r, b⟩ := h
  obtain ⟨o', h'', m', r', b'⟩ := k
  exact ⟨o'.trans o, h''.trans h', m'.trans m, r'.trans r, b'.trans b⟩

theorem State.slqVerify_to (s : State) {q : Nat} (hq : q < 24) (p : Packet) (carry : Bool) :
    QueueTo q (if carry then (s.queue q).withPacket p else s.queue q) s (s.slqVerify q p carry) := by
  rw [State.slqVerify]
  cases carry with
  | true => exact s.slqAdmit_to hq p
  | false =>
    exact (QueueTo.same q s).congr fun j => ((State.slqCorruptDrop_spec _ q).1 j).trans (State.queue_slqReached _ _ _ j)

theorem State.slqResumeN_to {q : Nat} (hq : q < 24) (n : Nat) (s : State) : let t := s.slqResumeN q n
    (∀ j, j < 24 → j ≠ q → t.queue j = s.queue j) ∧ SameReader (s.queue q) (t.queue q) ∧
    (t.queue q).stalled.length ≤ (s.queue q).stalled.length ∧ ∃ r, (t.queue q).eligible = (s.queue q).eligible ++ r := by
  induction n generalizing s with
  | zero => exact ⟨fun _ _ _ => rfl, ⟨rfl, rfl, rfl, rfl, rfl⟩, le_refl _, [], (List.append_nil _).symm⟩
  | succ n ih =>
    dsimp only
    rw [State.slqResumeN]
    cases waits : (s.queue q).stalled with
    | nil => exact ⟨fun _ _ _ => rfl, ⟨rfl, rfl, rfl, rfl, rfl⟩, by rw [waits], [], (List.append_nil _).symm⟩
    | cons x rest =>
      obtain ⟨p, carry⟩ := x
      dsimp only
      split
      · exact ⟨fun _ _ _ => rfl, ⟨rfl, rfl, rfl, rfl, rfl⟩, by rw [waits], [], (List.append_nil _).symm⟩
      · have taken := s.setQueue_to hq { s.queue q with stalled := rest }
        have verified := (s.setQueue q { s.queue q with stalled := rest }).slqVerify_to hq p carry
        rw [taken.2] at verified
        obtain ⟨others, is⟩ := taken.trans verified
        generalize (s.setQueue q { s.queue q with stalled := rest }).slqVerify q p carry = u at *
        obtain ⟨others', same, fewer, r, more⟩ := ih u
        have kept : SameReader (s.queue q) (u.queue q) ∧ (u.queue q).stalled = rest ∧ ∃ r, (u.queue q).eligible = (s.queue q).eligible ++ r := by
          rw [is]
          cases carry with
          | true => exact ⟨⟨rfl, rfl, rfl, rfl, rfl⟩, rfl, _, rfl⟩
          | false => exact ⟨⟨rfl, rfl, rfl, rfl, rfl⟩, rfl, [], (List.append_nil _).symm⟩
        obtain ⟨same', stalled, r', more'⟩ := kept
        refine ⟨fun j hj ne => (others' j hj ne).trans (others j hj ne), same'.trans same, ?_, r' ++ r, ?_⟩
        · rw [stalled] at fewer
          exact fewer.trans (Nat.le_succ _)
        · rw [more, more', List.append_assoc]

/-! ### A producer's packet (R437, R444, R569) -/

theorem State.slqPut_fits {s : State} {q : Nat} {p : Packet} (hq : q < 7) (on : s.rd SLQ_CTRL_EN = 1) (free : (s.queue q).stalled = [])
    (fits : (s.queue q).level + p.cells ≤ s.rd (qCells q)) (carry : Bool) : s.slqPut q p carry = s.slqVerify q p carry := by
  have level : s.slqLevel q = (s.queue q).level := by rw [State.slqLevel, free]; rfl
  rw [State.slqPut, if_neg (by rw [hasProducer, decide_eq_true hq]; decide), if_neg (by rw [State.rdB, on]; decide),
    if_neg (by rw [free]; exact fun ⟨_, _, h⟩ => h.elim (fun e => (by cases e)) fun e => (by omega)), level, if_neg (by omega)]

theorem State.slqPut_stalls {s : State} {q : Nat} {p : Packet} (low : 2 ≤ q) (hq : q < 7) (on : s.rd SLQ_CTRL_EN = 1)
    (policy : s.rd (qPolicy q) = 0) (full : (s.queue q).stalled ≠ [] ∨ s.rd (qCells q) < (s.queue q).level + p.cells) (carry : Bool) :
    s.slqPut q p carry = (s.setQueue q { s.queue q with stalled := (s.queue q).stalled ++ [(p, carry)] }).slqSettle q := by
  rw [State.slqPut, if_neg (by rw [hasProducer, decide_eq_true hq]; decide), if_neg (by rw [State.rdB, on]; decide),
    if_pos ⟨policy, low, full.imp (fun ne => by cases h : (s.queue q).stalled with
      | nil => exact absurd h ne
      | cons _ _ => rfl) id⟩]

theorem State.slqPut_off {s : State} {q : Nat} (hq : q < 7) (off : s.rd SLQ_CTRL_EN = 0) (p : Packet) (carry : Bool) :
    s.slqPut q p carry = s.slqDropNewest q := by
  rw [State.slqPut, if_neg (by rw [hasProducer, decide_eq_true hq]; decide), if_pos (by rw [State.rdB, off]; rfl)]

/-! ### Reads (R436, R438 to R441) -/

theorem State.queue_setRead (s : State) (port : Port) (l : List Nat) (q : Nat) : (s.setRead port l).queue q = s.queue q := by
  cases port <;> rfl

theorem State.readData_setRead (s : State) (port : Port) (l : List Nat) : ((s.setRead port l).port port).readData = l := by
  rw [State.setRead, State.port_setPort]

theorem State.slqPortRead_live {s : State} (h : s.live 0x1A = true) (port : Port) (q : Nat) :
    s.slqPortRead port q = (s.slqRead port q).2.setRead port [(s.slqRead port q).1] := if_pos h

theorem SlipQueue.takeNext_held (v : SlipQueue) : v.takeNext.held = v.held := by
  rw [SlipQueue.takeNext]
  split
  · rfl
  · split <;> rfl

/-- A queue whose next packet a port has begun to read. -/
def SlipQueue.begun (v : SlipQueue) (port : Port) (p : Packet) : SlipQueue :=
  let v' := v.takeNext
  let v' := match port with
    | .lrp => { v' with lastLrp := some p.serial }
    | .pcie => { v' with lastPcie := some p.serial }
  { v' with owned := some ⟨p, 0, port, false⟩ }

theorem SlipQueue.begun_spec (v : SlipQueue) (port : Port) (p : Packet) : (v.begun port p).owned = some ⟨p, 0, port, false⟩ ∧
    (v.begun port p).lastRead port = some p.serial ∧ (v.begun port p).held = v.held := by
  cases port <;> exact ⟨rfl, rfl, v.takeNext_held⟩

/-- What a read of a queue by a port gives and leaves. -/
theorem State.slqRead_none {s : State} {port : Port} {q : Nat} (on : s.rd SLQ_CTRL_EN = 1) (free : (s.queue q).owned = none) :
    s.slqRead port q = match (s.queue q).nextPacket with
      | none => (idleWord, s)
      | some p => (p.lengthWord, s.setQueue q ((s.queue q).begun port p)) := by
  rw [State.slqRead, if_neg (by rw [State.rdB, on]; decide), free] <;> rfl

theorem State.slqRead_some {s : State} {port : Port} {q : Nat} {o : OwnedPacket} (on : s.rd SLQ_CTRL_EN = 1)
    (owned : (s.queue q).owned = some o) : s.slqRead port q =
      if o.port ≠ port then (idleWord, s.slqErr q 3)
      else (if o.corrupt then idleWord else o.packet.words.getD o.pos 0,
        if o.pos + 1 < o.packet.words.length then s.setQueue q { s.queue q with owned := some { o with pos := o.pos + 1 } }
        else ((s.setQueue q ((s.queue q).consume o.packet)).slqSettle q).slqResumeN q (s.queue q).stalled.length) := by
  rw [State.slqRead, if_neg (by rw [State.rdB, on]; decide), owned]
  dsimp only
  split
  · rfl
  · split <;> rfl

/-- R438 to R441: a read of an uplink queue by a port. -/
theorem State.slqPortRead_spec {s : State} {port : Port} {q : Nat} (live : s.live 0x1A = true) (hq : q < 16) (on : s.rd SLQ_CTRL_EN = 1) :
    let t := s.slqPortRead port q
    (∀ j, j < 24 → j ≠ q → t.queue j = s.queue j) ∧
    match (s.queue q).owned with
    | none =>
      match (s.queue q).nextPacket with
      | none => (t.port port).readData = [0x8000] ∧ t.queue q = s.queue q
      | some p => (t.port port).readData = [p.lengthWord] ∧ (t.queue q).owned = some ⟨p, 0, port, false⟩ ∧
          (t.queue q).lastRead port = some p.serial ∧ (t.queue q).held = (s.queue q).held
    | some o =>
      if o.port ≠ port then
        (t.port port).readData = [0x8000] ∧ t.queue q = s.queue q ∧ t.rd SLQ_ERR_QUEUE = q ∧ t.rd SLQ_ERR_REASON = 3 ∧
          Noted SLQ_NOTE_ERR t
      else
        (t.port port).readData = [if o.corrupt then 0x8000 else o.packet.words.getD o.pos 0] ∧
        if o.pos + 1 < o.packet.words.length then t.queue q = { s.queue q with owned := some { o with pos := o.pos + 1 } }
        else (t.queue q).owned = none ∧ (t.queue q).marked = (s.queue q).marked ∧
          (t.queue q).held =
            if (s.queue q).marked && !(s.queue q).holds o.packet then (s.queue q).held ++ [o.packet] else (s.queue q).held := by
  have wide : q < 24 := by omega
  dsimp only
  rw [State.slqPortRead_live live]
  simp only [State.readData_setRead, State.queue_setRead]
  cases owned : (s.queue q).owned with
  | none =>
    rw [State.slqRead_none on owned]
    cases next : (s.queue q).nextPacket with
    | none => exact ⟨fun _ _ _ => rfl, rfl, rfl⟩
    | some p =>
      obtain ⟨others, is⟩ := s.setQueue_to wide ((s.queue q).begun port p)
      dsimp only
      rw [is]
      obtain ⟨reader, last, held⟩ := (s.queue q).begun_spec port p
      exact ⟨others, rfl, reader, last, held⟩
  | some o =>
    rw [State.slqRead_some on owned]
    dsimp only
    by_cases stranger : o.port ≠ port
    · rw [if_pos stranger, if_pos stranger]
      obtain ⟨queues, queue, reason, noted, -⟩ := s.slqErr_spec (q := q) (reason := 3) (by omega) (by decide)
      have regs : ((s.slqErr q 3).setRead port [idleWord]).regs = (s.slqErr q 3).regs := by cases port <;> rfl
      exact ⟨fun j _ _ => queues j, rfl, queues q, (State.rd_congr regs _).trans queue, (State.rd_congr regs _).trans reason,
        Noted.congr noted (State.rd_congr regs _)⟩
    · rw [if_neg stranger, if_neg stranger]
      by_cases more : o.pos + 1 < o.packet.words.length
      · rw [if_pos more, if_pos more]
        obtain ⟨others, is⟩ := s.setQueue_to wide { s.queue q with owned := some { o with pos := o.pos + 1 } }
        exact ⟨others, rfl, is⟩
      · rw [if_neg more, if_neg more]
        obtain ⟨others, is⟩ := (s.put_settled wide ((s.queue q).consume o.packet)).1
        generalize (s.setQueue q ((s.queue q).consume o.packet)).slqSettle q = u at *
        obtain ⟨others', ⟨reader, held, marked, -⟩, -⟩ := State.slqResumeN_to wide (s.queue q).stalled.length u
        rw [is] at reader held marked
        exact ⟨fun j hj ne => (others' j hj ne).trans (others j hj ne), rfl, reader, marked, held⟩

/-- Settles O24: a producer's packet through the branches of its put, a read through the owner of the packet in progress. -/
theorem uplinkQueues : Obligations.UplinkQueues := by
  refine ⟨fun s q kind prio pad words carry work hq on free fits => .working (u := s) rfl work ?_,
    fun s q kind prio pad words carry work low hq on policy full => .working (u := s) rfl work ?_,
    fun s q kind prio pad words carry work hq off => .working (u := s) rfl work ?_,
    fun s port q work hq on => ⟨s.slqPortRead port q, rfl, State.slqPortRead_spec (State.live_of_atWork work) hq on⟩⟩
  · rw [if_pos (by omega), State.slqPut_fits (p := ⟨0, kind, prio, pad, words⟩) hq on free fits]
    obtain ⟨others, is⟩ := s.slqVerify_to (q := q) (by omega) ⟨0, kind, prio, pad, words⟩ carry
    refine ⟨others, ?_⟩
    cases carry with
    | true => exact ⟨is, fun first => s.slqAdmit_noted (by omega) _ first⟩
    | false =>
      obtain ⟨-, corrupt, noted, drops, -⟩ := (s.slqReached q (s.slqLevel q + Packet.cells ⟨0, kind, prio, pad, words⟩)).slqCorruptDrop_spec q
      rw [(State.slqReached_spec s q _).2 _ (qDrops_apart q q)] at drops
      exact ⟨is, corrupt, noted, drops⟩
  · rw [if_pos (by omega), State.slqPut_stalls (p := ⟨0, kind, prio, pad, words⟩) low hq on policy full]
    obtain ⟨⟨others, is⟩, only⟩ := s.put_settled (q := q) (by omega)
      { s.queue q with stalled := (s.queue q).stalled ++ [(⟨0, kind, prio, pad, words⟩, carry)] }
    exact ⟨is, others, only _ (qDrops_apart q q)⟩
  · rw [if_pos (by omega), State.slqPut_off hq off]
    obtain ⟨queues, dropped, noted, drops⟩ := s.slqDropNewest_spec q
    exact ⟨fun j _ => queues j, dropped, noted, drops⟩

end Sys2Proof.Machine
end

section
/-! SUPPORT. DROP, the rewind mark and FLUSH (O25). -/

namespace Sys2Proof.Machine

/-! ### What each command leaves of its queue -/

/-- A queue that is put without a stalled producer only settles. -/
theorem State.put_to (s : State) {q : Nat} (hq : q < 24) (v : SlipQueue) {n : Nat} (h : n = 0) :
    QueueTo q v s (((s.setQueue q v).slqSettle q).slqResumeN q n) := by
  rw [h]
  exact (s.put_settled hq v).1

theorem length_of_stalled {v : SlipQueue} (free : v.stalled = []) : v.stalled.length = 0 := by
  rw [free]
  rfl

theorem State.slqDrop_to {s : State} {q : Nat} (hq : q < 24) (free : (s.queue q).stalled = []) (port : Port) :
    QueueTo q (match (s.queue q).owned with
      | some o => if o.port = port then (s.queue q).consume o.packet else s.queue q
      | none => s.queue q) s (s.slqDrop port q) := by
  rw [State.slqDrop]
  cases (s.queue q).owned with
  | none => exact QueueTo.same q s
  | some o =>
    dsimp only
    split
    · exact s.put_to hq _ (length_of_stalled free)
    · exact QueueTo.same q s

/-- A queue with a mark on the packet in progress. -/
def SlipQueue.markedAt (v : SlipQueue) (o : OwnedPacket) : SlipQueue :=
  { v with
    marked := true
    held := if v.holds o.packet then fromSerial v.held o.packet.serial else [o.packet] }

theorem State.slqMark_own {s : State} {port : Port} {q : Nat} {o : OwnedPacket} (owned : (s.queue q).owned = some o)
    (mine : (s.queue q).takesMark port = true) : s.slqMark port q =
      ((s.setQueue q ((s.queue q).markedAt o)).slqSettle q).slqResumeN q (s.queue q).stalled.length := by
  rw [State.slqMark, SlipQueue.markedAt, if_neg (by rw [mine]; decide), owned]

theorem State.slqMark_stranger {s : State} {port : Port} {q : Nat} (stranger : (s.queue q).takesMark port = false) :
    s.slqMark port q = s := by
  rw [State.slqMark, if_pos (by rw [stranger]; rfl)]

theorem State.slqMark_to {s : State} {q : Nat} (hq : q < 24) (free : (s.queue q).stalled = []) {o : OwnedPacket}
    (owned : (s.queue q).owned = some o) (port : Port) :
    QueueTo q (if o.port = port then (s.queue q).markedAt o else s.queue q) s (s.slqMark port q) := by
  have takes : (s.queue q).takesMark port = (o.port == port) := by rw [SlipQueue.takesMark, owned]
  by_cases mine : o.port = port
  · rw [if_pos mine, State.slqMark_own owned (by rw [takes, mine]; cases port <;> rfl)]
    exact s.put_to hq _ (length_of_stalled free)
  · rw [if_neg mine, State.slqMark_stranger (by rw [takes]; exact beq_eq_false_iff_ne.mpr mine)]
    exact QueueTo.same q s

/-- The packets that REWIND returns to the eligible ones. -/
def SlipQueue.rewound (v : SlipQueue) : SlipQueue :=
  let back := match v.owned with
    | none => []
    | some o => if v.holds o.packet then [] else [o.packet]
  { v with owned := none, replay := v.held, eligible := back ++ (v.replay.filter fun p => !v.holds p) ++ v.eligible }

theorem State.slqRewind_to (s : State) {q : Nat} (hq : q < 24) (port : Port) :
    QueueTo q (if (s.queue q).takesMark port = true ∧ (s.queue q).marked = true then (s.queue q).rewound else s.queue q) s
      (s.slqRewind port q) := by
  have is : s.slqRewind port q =
      if !(s.queue q).takesMark port || !(s.queue q).marked then s else s.setQueue q (s.queue q).rewound := rfl
  rw [is]
  by_cases takes : (s.queue q).takesMark port = true ∧ (s.queue q).marked = true
  · rw [if_pos takes, if_neg (by rw [takes.1, takes.2]; decide)]
    exact s.setQueue_to hq _
  · rw [if_neg takes, if_pos (by simpa [Classical.or_iff_not_imp_left] using takes)]
    exact QueueTo.same q s

theorem State.slqClearMark_to {s : State} {q : Nat} (hq : q < 24) (free : (s.queue q).stalled = []) (port : Port) :
    QueueTo q (if (s.queue q).takesMark port then
        { s.queue q with marked := false, held := [], replay := (s.queue q).replay.filter fun p => !(s.queue q).holds p }
      else s.queue q) s (s.slqClearMark port q) := by
  rw [State.slqClearMark]
  dsimp only
  cases (s.queue q).takesMark port with
  | true => exact s.put_to hq _ (length_of_stalled free)
  | false => exact QueueTo.same q s

/-- Settles O25: each command through the queue that it puts; a queue without a stalled producer settles and resumes nothing. -/
theorem rewindMarks : Obligations.RewindMarks := by
  have uplink (q : Nat) (hq : q < 16) : SLQ_U_CMD q / 0x1000 = 0x1A := by rw [SLQ_U_CMD]; omega
  have command (q : Nat) (hq : q < 24) : SLQ_CMD q / 0x1000 = 0x1A := by
    rw [SLQ_CMD]
    split
    · exact uplink q ‹_›
    · omega
  refine ⟨fun s port q work hq free => .effect (u := s) rfl (by rw [uplink q hq]; exact work) ?_,
    fun s port q o work hq free owned => .effect (u := s) rfl (by rw [uplink q hq]; exact work) ?_,
    fun s port q work hq => .effect (u := s) rfl (by rw [uplink q hq]; exact work) ?_,
    fun s port q work hq free => .effect (u := s) rfl (by rw [uplink q hq]; exact work) ?_,
    fun s port q work hq free => .effect (u := s) rfl (by rw [command q hq]; exact work) ?_⟩
  · have same := s.queue_hostWrote port false (SLQ_U_CMD q) q
    have drop := (State.slqDrop_to (q := q) (by omega) (by rw [same]; exact free) port).of_hostWrote
    rw [same] at drop
    exact drop
  · have same := s.queue_hostWrote port false (SLQ_U_CMD q) q
    have mark := (State.slqMark_to (q := q) (by omega) (by rw [same]; exact free) (by rw [same]; exact owned) port).of_hostWrote
    rw [same] at mark
    exact mark
  · have same := s.queue_hostWrote port false (SLQ_U_CMD q) q
    obtain ⟨others, is⟩ := ((s.hostWrote port false (SLQ_U_CMD q)).slqRewind_to (q := q) (by omega) port).of_hostWrote
    rw [same] at is
    refine ⟨others, ?_⟩
    rw [is]
    split
    · exact ⟨rfl, rfl, rfl, rfl, rfl⟩
    · rfl
  · have same := s.queue_hostWrote port false (SLQ_U_CMD q) q
    obtain ⟨others, is⟩ := (State.slqClearMark_to (q := q) (by omega) (by rw [same]; exact free) port).of_hostWrote
    rw [same] at is
    refine ⟨others, ?_⟩
    rw [is]
    split
    · exact ⟨rfl, rfl, rfl, rfl⟩
    · rfl
  · have same := s.queue_hostWrote port false (SLQ_CMD q) q
    obtain ⟨others, is⟩ := ((s.hostWrote port false (SLQ_CMD q)).put_to hq { s.queue q with
      eligible := [], owned := none, held := [], marked := false, replay := [], timerFired := false }
      (length_of_stalled free)).of_hostWrote
    rw [State.slqFlush, same]
    refine ⟨others, ?_⟩
    rw [is]
    exact ⟨rfl, rfl, rfl, rfl, rfl, rfl⟩

end Sys2Proof.Machine
end

section
/-! SUPPORT. Downlink queues, their cells and timers, and the queue enable (O26). -/

namespace Sys2Proof.Machine

/-! ### The queues' page under a host's write -/

theorem State.rd_slq_hostWrote (s : State) (port : Port) (b : Bool) (addr : Nat) {f : Field} (hf : f.page = 0x1A) :
    (s.hostWrote port b addr).rd f = s.rd f := by
  rw [Field.page] at hf
  have far {g : Field} (hg : g.key / 0x20000 ≠ 0x1A) : f.key ≠ g.key := fun e => hg (by rw [← e, hf])
  exact State.rd_hostWrote_ne _ _ _ _ (far (by decide)) (far (by decide))

theorem qCells_page (q : Nat) : (qCells q).page = 0x1A := by
  simp only [qCells, qField]
  split <;> simp only [Field.page, Field.key] <;> omega

theorem qMax_page (q : Nat) : (qMax q).page = 0x1A := by
  simp only [qMax, qField]
  split <;> simp only [Field.page, Field.key] <;> omega

theorem downlink_pages (d : Nat) : (SLQ_D_CFG_CELLS d).page = 0x1A ∧ (SLQ_D_CFG_POLICY d).page = 0x1A ∧ (SLQ_D_DROPS d).page = 0x1A := by
  refine ⟨?_, ?_, ?_⟩ <;> simp only [Field.page, Field.key] <;> omega

theorem qCells_downlink (d : Nat) : qCells (16 + d) = SLQ_D_CFG_CELLS d := by
  rw [qCells, qField, if_neg (by omega), Nat.add_sub_cancel_left]

theorem qDrops_downlink (d : Nat) : qDrops (16 + d) = SLQ_D_DROPS d := by
  rw [qDrops, qField, if_neg (by omega), Nat.add_sub_cancel_left]

theorem qStatCorrupt_downlink (d : Nat) : qStatCorrupt (16 + d) = SLQ_D_STAT_CORRUPT d := by
  rw [qStatCorrupt, qField, if_neg (by omega), Nat.add_sub_cancel_left]

/-- What a downlink write looks at is the same after the host's write that brings it. -/
theorem State.slqDownStalls_hostWrote (s : State) (port p : Port) (b : Bool) (addr d : Nat) :
    (s.hostWrote p b addr).slqDownStalls port d = s.slqDownStalls port d := by
  obtain ⟨cells, policy, -⟩ := downlink_pages d
  simp only [State.slqDownStalls, State.slqDownRefused, State.rdB, State.queue_hostWrote, State.rd_slq_hostWrote s p b addr cells,
    State.rd_slq_hostWrote s p b addr policy, State.rd_slq_hostWrote s p b addr (f := SLQ_CTRL_EN) rfl] <;> rfl

/-! ### Payload words (R443, R444) -/

/-- Whether a port may write to a downlink queue: enabled, with a consumer and cells, and no other port's packet open. -/
structure DownOpen (s : State) (port : Port) (d : Nat) : Prop where
  on : s.rd SLQ_CTRL_EN = 1
  consumer : d < 3
  cells : s.rd (SLQ_D_CFG_CELLS d) ≠ 0
  own : ∀ b, (s.queue (16 + d)).building = some b → b.port = port

theorem DownOpen.hostWrote {s : State} {port : Port} {d : Nat} (h : DownOpen s port d) (p : Port) (b : Bool) (addr : Nat) :
    DownOpen (s.hostWrote p b addr) port d where
  on := by rw [State.rd_slq_hostWrote _ _ _ _ rfl, h.on]
  consumer := h.consumer
  cells := by rw [State.rd_slq_hostWrote _ _ _ _ (downlink_pages d).1]; exact h.cells
  own := by rw [State.queue_hostWrote]; exact h.own

theorem DownOpen.free {s : State} {port : Port} {d : Nat} (on : s.rd SLQ_CTRL_EN = 1) (hd : d < 3)
    (closed : (s.queue (16 + d)).building = none) (fits : (s.queue (16 + d)).level + 1 ≤ s.rd (SLQ_D_CFG_CELLS d)) :
    DownOpen s port d where
  on := on
  consumer := hd
  cells := by omega
  own b is := by rw [closed] at is; cases is

theorem DownOpen.mine {s : State} {port : Port} {d : Nat} {b : OpenPacket} (on : s.rd SLQ_CTRL_EN = 1) (hd : d < 3)
    (cells : s.rd (SLQ_D_CFG_CELLS d) ≠ 0) (is : (s.queue (16 + d)).building = some b) (mine : b.port = port) : DownOpen s port d where
  on := on
  consumer := hd
  cells := cells
  own b' is' := by rw [is] at is'; cases is'; exact mine

theorem DownOpen.refused {s : State} {port : Port} {d : Nat} (h : DownOpen s port d) : s.slqDownRefused port d = none := by
  rw [State.slqDownRefused, if_neg (by rw [State.rdB, h.on, hasConsumer, decide_eq_true h.consumer]; simpa using h.cells)]
  cases is : (s.queue (16 + d)).building with
  | none => rfl
  | some b => exact if_pos (h.own b is)

/-- The other port's open packet refuses a word. -/
theorem State.slqDownRefused_other {s : State} {port : Port} {d : Nat} {b : OpenPacket} (on : s.rd SLQ_CTRL_EN = 1) (hd : d < 3)
    (cells : s.rd (SLQ_D_CFG_CELLS d) ≠ 0) (is : (s.queue (16 + d)).building = some b) (other : b.port ≠ port) :
    s.slqDownRefused port d = some 3 := by
  rw [State.slqDownRefused, if_neg (by rw [State.rdB, on, hasConsumer, decide_eq_true hd]; simpa using cells), is]
  exact if_neg other

/-- Room for a word: where no packet is open its first cell, else the open packet with one more word. -/
theorem State.slqDownStalls_free {s : State} {port : Port} {d : Nat} (closed : (s.queue (16 + d)).building = none)
    (fits : (s.queue (16 + d)).level + 1 ≤ s.rd (SLQ_D_CFG_CELLS d)) : s.slqDownStalls port d = false := by
  rw [State.slqDownStalls, closed]
  dsimp only
  rw [decide_eq_false (by omega), Bool.and_false]

theorem State.slqDownStalls_mine {s : State} {port : Port} {d : Nat} {b : OpenPacket} (is : (s.queue (16 + d)).building = some b)
    (fits : (s.queue (16 + d)).level - cellsOf b.words.length + cellsOf (b.words.length + 1) ≤ s.rd (SLQ_D_CFG_CELLS d)) :
    s.slqDownStalls port d = false := by
  rw [State.slqDownStalls, is]
  dsimp only
  rw [decide_eq_false (p := s.rd (SLQ_D_CFG_CELLS d) < _) (by omega), Bool.and_false, Bool.and_false]

theorem State.slqDownWord_opens {s : State} {port : Port} {d : Nat} (h : DownOpen s port d) (closed : (s.queue (16 + d)).building = none)
    (fits : (s.queue (16 + d)).level + 1 ≤ s.rd (SLQ_D_CFG_CELLS d)) (w : Nat) : s.slqDownWord port d w =
      (s.setQueue (16 + d) { s.queue (16 + d) with building := some ⟨[w % 2 ^ 32], port, false⟩ }).slqSettle (16 + d) := by
  rw [State.slqDownWord, h.refused]
  dsimp only
  rw [State.slqDownStalls_free closed fits, if_neg Bool.false_ne_true, closed]
  exact if_neg (by omega)

theorem State.slqDownWord_appends {s : State} {port : Port} {d : Nat} {b : OpenPacket} (h : DownOpen s port d)
    (is : (s.queue (16 + d)).building = some b) (live : b.dead = false) (short : b.words.length < 4096)
    (alone : cellsOf (b.words.length + 1) ≤ s.rd (SLQ_D_CFG_CELLS d))
    (fits : (s.queue (16 + d)).level - cellsOf b.words.length + cellsOf (b.words.length + 1) ≤ s.rd (SLQ_D_CFG_CELLS d)) (w : Nat) :
    s.slqDownWord port d w =
      (s.setQueue (16 + d) { s.queue (16 + d) with building := some { b with words := b.words ++ [w % 2 ^ 32] } }).slqSettle (16 + d) := by
  rw [State.slqDownWord, h.refused]
  dsimp only
  rw [State.slqDownStalls_mine is fits, if_neg Bool.false_ne_true, is]
  dsimp only
  rw [live, if_neg Bool.false_ne_true, if_neg (by omega), if_neg (by omega)]

/-- SLQ_DOWNLINK_DATA of a word that does not wait. -/
theorem State.downlinkData_completes {s : State} {port : Port} {d w : Nat} {P : State → Prop} (work : s.atWork 0x1A = true) (hd : d < 3)
    (goes : s.slqDownStalls port d = false) (post : P ((s.hostWrote port false (SLQ_D_DATA d)).slqDownWord port d w)) :
    Completes (.slqDownlinkData port d w) s P := by
  refine ⟨(s.hostWrote port false (SLQ_D_DATA d)).slqDownWord port d w, ?_, post⟩
  have page : SLQ_D_DATA d / 0x1000 = 0x1A := by rw [SLQ_D_DATA]; omega
  show Host.Outcome.next (if s.live 0x1A && s.slqDownStalls port d then s.post port ⟨false, SLQ_D_DATA d, w, 15⟩
    else s.effect port (SLQ_D_DATA d) fun s => s.slqDownWord port d w) = _
  rw [goes, Bool.and_false, if_neg Bool.false_ne_true, State.effect_atWork port (by rw [page]; exact work)]

/-! ### COMMIT and ABORT (R443) -/

theorem State.slqDownCommit_spec {s : State} {port : Port} {d : Nat} {b : OpenPacket} (h : DownOpen s port d)
    (is : (s.queue (16 + d)).building = some b) (live : b.dead = false) (len : Nat) : let t := s.slqDownCommit port d len
    (t.queue (16 + d)).building = none ∧
    if bitsOf len 0 13 = b.words.length then
      ∃ n, (t.queue (16 + d)).eligible =
        (s.queue (16 + d)).eligible ++ [⟨n, bitsOf len 24 8, bitsOf len 16 3, bitsOf len 13 2, b.words⟩]
    else (t.queue (16 + d)).eligible = (s.queue (16 + d)).eligible ∧ t.rd SLQ_ERR_REASON = 1 ∧ Noted SLQ_NOTE_ERR t ∧
      t.rd (SLQ_D_DROPS d) = (s.rd (SLQ_D_DROPS d) + 1) % 2 ^ 32 := by
  have hq : 16 + d < 24 := by have := h.consumer; omega
  have eq : s.slqDownCommit port d len =
      if bitsOf len 0 13 ≠ b.words.length then
        ((s.setQueue (16 + d) { s.queue (16 + d) with building := none }).count (SLQ_D_DROPS d) 1).slqErr (16 + d) 1
      else (s.setQueue (16 + d) { s.queue (16 + d) with building := none }).slqAdmit (16 + d)
        ⟨0, bitsOf len 24 8, bitsOf len 16 3, bitsOf len 13 2, b.words⟩ := by
    rw [State.slqDownCommit, h.refused]
    dsimp only
    rw [is]
    dsimp only
    rw [live, if_neg Bool.false_ne_true]
  obtain ⟨-, closed⟩ := s.setQueue_to hq { s.queue (16 + d) with building := none }
  have regs := s.setQueue_regs (16 + d) { s.queue (16 + d) with building := none }
  dsimp only
  rw [eq]
  generalize s.setQueue (16 + d) { s.queue (16 + d) with building := none } = u at *
  by_cases agrees : bitsOf len 0 13 = b.words.length
  · rw [if_pos agrees, if_neg (not_not.mpr agrees)]
    obtain ⟨-, admitted⟩ := u.slqAdmit_to hq ⟨0, bitsOf len 24 8, bitsOf len 16 3, bitsOf len 13 2, b.words⟩
    rw [admitted, closed]
    exact ⟨rfl, _, rfl⟩
  · rw [if_neg agrees, if_pos agrees]
    obtain ⟨queues, -, reason, noted, only⟩ := (u.count (SLQ_D_DROPS d) 1).slqErr_spec (q := 16 + d) (reason := 1) (by omega) (by decide)
    refine ⟨?_, ?_, reason, noted, ?_⟩
    · rw [queues, State.count, State.queue_wr, closed]
    · rw [queues, State.count, State.queue_wr, closed]
    · rw [only _ ?_]
      · rw [State.rd_count_self, State.rd_congr regs]
      · simp only [List.forall_mem_cons, List.not_mem_nil, false_imp_iff, implies_true, and_true]
        refine ⟨?_, ?_, ?_, ?_⟩ <;> simp only [Field.key] <;> omega

theorem SlipQueue.closed_self {v : SlipQueue} (h : v.building = none) : { v with building := none } = v := by
  cases v
  cases h
  rfl

theorem SlipQueue.unstalled_self {v : SlipQueue} (h : v.stalled = []) : { v with stalled := [] } = v := by
  cases v
  cases h
  rfl

theorem State.slqAbort_spec (s : State) {d : Nat} (hd : d < 8) : let t := s.slqAbort d
    t.queue (16 + d) = { s.queue (16 + d) with building := none } ∧
    t.rd (SLQ_D_DROPS d) =
      match (s.queue (16 + d)).building with
      | none => s.rd (SLQ_D_DROPS d)
      | some b => if b.dead then s.rd (SLQ_D_DROPS d) else (s.rd (SLQ_D_DROPS d) + 1) % 2 ^ 32 := by
  obtain ⟨-, closed⟩ := s.setQueue_to (q := 16 + d) (by omega) { s.queue (16 + d) with building := none }
  have regs := s.setQueue_regs (16 + d) { s.queue (16 + d) with building := none }
  dsimp only
  rw [State.slqAbort]
  cases is : (s.queue (16 + d)).building with
  | none =>
    exact ⟨(SlipQueue.closed_self is).symm, rfl⟩
  | some b =>
    dsimp only
    generalize s.setQueue (16 + d) { s.queue (16 + d) with building := none } = u at *
    cases b.dead with
    | true => exact ⟨closed, State.rd_congr regs _⟩
    | false => exact ⟨closed, (State.rd_wr_self _ _ _).trans (by rw [State.rd_congr regs]; rfl)⟩

/-! ### Cells, watermarks and timers (R434, R446, R447) -/

theorem State.slqLevel_hostWrote (s : State) (port : Port) (b : Bool) (addr q : Nat) : (s.hostWrote port b addr).slqLevel q = s.slqLevel q := by
  simp only [State.slqLevel, State.queue_hostWrote, State.rd_slq_hostWrote s port b addr (qCells_page q)]

theorem State.slqTotalCells_hostWrote (s : State) (port : Port) (b : Bool) (addr : Nat) :
    (s.hostWrote port b addr).slqTotalCells = s.slqTotalCells := by
  simp only [State.slqTotalCells, fun q => State.rd_slq_hostWrote s port b addr (qCells_page q)]

theorem qCells_width (q : Nat) : (qCells q).width = 14 := by
  simp only [qCells, qField]
  split <;> rfl

theorem qMax_width (q : Nat) : (qMax q).width = 14 := by
  simp only [qMax, qField]
  split <;> rfl

theorem State.slqCellsOk_iff {s : State} {q n : Nat} (hn : n < 2 ^ 14) :
    s.slqCellsOk q n = true ↔ s.slqLevel q = 0 ∧ s.slqTotalCells - s.rd (qCells q) + n ≤ 8192 := by
  rw [State.slqCellsOk, Bool.and_eq_true, beq_iff_eq, Nat.ble_eq, Nat.mod_eq_of_lt hn]

theorem State.slqSetCells_spec (s : State) {q n : Nat} (hq : q < 24) (hn : n < 2 ^ 14) : let t := s.slqSetCells q n
    (∀ j, t.queue j = s.queue j) ∧
    if s.slqLevel q = 0 ∧ s.slqTotalCells - s.rd (qCells q) + n ≤ 8192 then t.rd (qCells q) = n
    else t.rd (qCells q) = s.rd (qCells q) ∧ t.rd SLQ_ERR_QUEUE = q ∧ t.rd SLQ_ERR_REASON = 5 ∧ Noted SLQ_NOTE_ERR t := by
  dsimp only
  rw [State.slqSetCells]
  by_cases ok : s.slqLevel q = 0 ∧ s.slqTotalCells - s.rd (qCells q) + n ≤ 8192
  · rw [if_pos ok, if_pos ((State.slqCellsOk_iff hn).mpr ok)]
    exact ⟨fun j => rfl, State.rd_wr_of_lt _ (by rw [qCells_width]; exact hn)⟩
  · rw [if_neg ok, if_neg (mt (State.slqCellsOk_iff hn).mp ok)]
    obtain ⟨queues, queue, reason, noted, only⟩ := s.slqErr_spec (q := q) (reason := 5) (by omega) (by decide)
    refine ⟨queues, only _ ?_, queue, reason, noted⟩
    simp only [List.forall_mem_cons, List.not_mem_nil, false_imp_iff, implies_true, and_true]
    refine ⟨?_, ?_, ?_, ?_⟩ <;> simp only [qCells, qField] <;> split <;> simp only [Field.key] <;> omega

theorem State.slqTimerExpires_spec {s : State} {q : Nat} (hq : q < 24) (on : s.rd SLQ_CTRL_EN = 1) (timed : s.rd (qTimeout q) ≠ 0)
    (waits : (s.queue q).ready ≠ []) (fresh : (s.queue q).timerFired = false) : let t := s.slqTimerExpires q
    t.queue q = { s.queue q with timerFired := true } ∧ t.rd (qStatTo q) = 1 ∧ Raises SLQ_NOTE_TIMEOUT s t ∧
    OnlyFields [qStatTo q, NOTE_RAW 0x1A, MSIX_PBA] s t := by
  have some : (s.queue q).ready.isEmpty = false := by
    cases h : (s.queue q).ready with
    | nil => exact absurd h waits
    | cons _ _ => rfl
  have is : s.slqTimerExpires q =
      ((s.setQueue q { s.queue q with timerFired := true }).wr (qStatTo q) 1).notice SLQ_NOTE_TIMEOUT := by
    rw [State.slqTimerExpires]
    exact if_pos (by rw [State.rdB, on, some, fresh]; simpa using timed)
  obtain ⟨note, pba, width⟩ : (qStatTo q).key ≠ (NOTE_RAW 0x1A).key ∧ (qStatTo q).key ≠ MSIX_PBA.key ∧ (qStatTo q).width = 1 := by
    refine ⟨?_, ?_, ?_⟩ <;> simp only [qStatTo, qField] <;> split <;> simp only [Field.key] <;> omega
  obtain ⟨-, put⟩ := s.setQueue_to hq { s.queue q with timerFired := true }
  have regs := s.setQueue_regs q { s.queue q with timerFired := true }
  dsimp only
  rw [is]
  generalize s.setQueue q { s.queue q with timerFired := true } = u at *
  refine ⟨by rw [State.queue_notice, State.queue_wr, put], ?_, ?_, ?_⟩
  · rw [State.rd_notice_ne _ SLQ_NOTE_TIMEOUT note pba, State.rd_wr_of_lt _ (by rw [width]; decide)]
  · exact Raises.of_rd (State.raises_notice _ SLQ_NOTE_TIMEOUT (by decide)) ((State.rd_wr_ne _ _ note.symm).trans (State.rd_congr regs _))
  · exact ((OnlyFields.of_regs regs).wr _ (by simp)).notice _ (by simp) (by simp)

/-! ### Stalled producers and the queue enable (R444, R569) -/

theorem State.slqResume_spec {s : State} {q : Nat} (hq : q < 24) {p : Packet} {carry : Bool} {l : List (Packet × Bool)}
    (waits : (s.queue q).stalled = (p, carry) :: l) : let t := s.slqResumeN q (s.queue q).stalled.length
    if s.rd (qCells q) < (s.queue q).level + p.cells then t = s
    else (t.queue q).stalled.length ≤ l.length ∧
      ∃ r, (t.queue q).eligible = (s.queue q).eligible ++
        (if carry then [{ p with serial := (s.queue q).nextSerial }] else []) ++ r := by
  have is : s.slqResumeN q (s.queue q).stalled.length = if s.rd (qCells q) < (s.queue q).level + p.cells then s
      else ((s.setQueue q { s.queue q with stalled := l }).slqVerify q p carry).slqResumeN q l.length := by
    rw [waits, List.length_cons, State.slqResumeN, waits]
  dsimp only
  rw [is]
  by_cases full : s.rd (qCells q) < (s.queue q).level + p.cells
  · rw [if_pos full, if_pos full]
  · rw [if_neg full, if_neg full]
    obtain ⟨-, put⟩ := s.setQueue_to hq { s.queue q with stalled := l }
    obtain ⟨-, verified⟩ := (s.setQueue q { s.queue q with stalled := l }).slqVerify_to hq p carry
    rw [put] at verified
    generalize (s.setQueue q { s.queue q with stalled := l }).slqVerify q p carry = u at *
    obtain ⟨-, -, fewer, r, more⟩ := State.slqResumeN_to hq l.length u
    rw [verified] at fewer more
    cases carry with
    | true => exact ⟨fewer, r, more⟩
    | false => exact ⟨fewer, r, by rw [if_neg Bool.false_ne_true, List.append_nil]; exact more⟩

/-- A producer that waits loses its packets. -/
def State.stallDropped (s : State) (q : Nat) : State :=
  let n := (s.queue q).stalled.length
  if n = 0 then s
  else ((s.setQueue q { s.queue q with stalled := [] }).slqDropNewest q).count (qDrops q) (n - 1)

theorem qDrops_width (q : Nat) : (qDrops q).width = 32 := by
  simp only [qDrops, qField]
  split <;> rfl

theorem State.slqDropNewest_only (s : State) (q : Nat) :
    OnlyFields [qDrops q, qStatDropped q, NOTE_RAW 0x1A, MSIX_PBA] s (s.slqDropNewest q) :=
  (((OnlyFields.refl _ s).wr _ (by simp)).wr _ (by simp)).notice _ (by simp) (by simp)

theorem qDrops_apart_dropped {j q : Nat} (hj : j < 16) (hq : q < 16) (ne : j ≠ q) :
    ∀ g ∈ [qDrops q, qStatDropped q, NOTE_RAW 0x1A, MSIX_PBA], (qDrops j).key ≠ g.key := by
  simp only [List.forall_mem_cons, List.not_mem_nil, false_imp_iff, implies_true, and_true]
  refine ⟨?_, ?_, ?_, ?_⟩ <;> simp only [qDrops, qStatDropped, qField, if_pos hj, if_pos hq, Field.key] <;> omega

theorem State.stallDropped_spec (s : State) {q : Nat} (hq : q < 16) : let t := s.stallDropped q
    QueueTo q { s.queue q with stalled := [] } s t ∧ t.rd SLQ_CTRL_EN = s.rd SLQ_CTRL_EN ∧
    t.rd (qDrops q) = (s.rd (qDrops q) + (s.queue q).stalled.length) % 2 ^ 32 ∧
    ∀ j, j < 16 → j ≠ q → t.rd (qDrops j) = s.rd (qDrops j) := by
  dsimp only
  rw [State.stallDropped]
  by_cases idle : (s.queue q).stalled.length = 0
  · have small := State.rd_lt s (qDrops q)
    rw [qDrops_width] at small
    have none := List.eq_nil_of_length_eq_zero idle
    dsimp only
    rw [if_pos idle, SlipQueue.unstalled_self none, idle, Nat.add_zero, Nat.mod_eq_of_lt small]
    exact ⟨QueueTo.same q s, rfl, rfl, fun _ _ _ => rfl⟩
  · have put := s.setQueue_to (q := q) (by omega) { s.queue q with stalled := [] }
    have regs := s.setQueue_regs q { s.queue q with stalled := [] }
    dsimp only
    rw [if_neg idle]
    generalize s.setQueue q { s.queue q with stalled := [] } = u at *
    obtain ⟨queues, -, -, drops⟩ := u.slqDropNewest_spec q
    have only := (OnlyFields.of_regs regs).trans (u.slqDropNewest_only q)
    have counted : OnlyFields [qDrops q, qStatDropped q, NOTE_RAW 0x1A, MSIX_PBA] s
        ((u.slqDropNewest q).count (qDrops q) ((s.queue q).stalled.length - 1)) := only.wr _ (by simp)
    refine ⟨put.congr queues, counted _ ?_, ?_, fun j hj ne => counted _ (qDrops_apart_dropped hj hq ne)⟩
    · simp only [List.forall_mem_cons, List.not_mem_nil, false_imp_iff, implies_true, and_true]
      refine ⟨?_, ?_, ?_, ?_⟩ <;> simp only [qDrops, qStatDropped, qField, if_pos hq, Field.key] <;> omega
    · rw [State.rd_count_self, drops, qDrops_width, Nat.mod_add_mod, State.rd_congr regs]
      congr 1
      omega

theorem State.slqDisable_spec (s : State) {n : Nat} (hn : n ≤ 16) : let t := (List.range n).foldl State.stallDropped s
    t.rd SLQ_CTRL_EN = s.rd SLQ_CTRL_EN ∧
    (∀ j, j < 24 → t.queue j = if n ≤ j then s.queue j else { s.queue j with stalled := [] }) ∧
    ∀ j, j < 16 → t.rd (qDrops j) = (s.rd (qDrops j) + if n ≤ j then 0 else (s.queue j).stalled.length) % 2 ^ 32 := by
  induction n with
  | zero =>
    refine ⟨rfl, fun j _ => (if_pos (Nat.zero_le j)).symm, fun j _ => ?_⟩
    have small := State.rd_lt s (qDrops j)
    rw [qDrops_width] at small
    rw [if_pos (Nat.zero_le j), Nat.add_zero, Nat.mod_eq_of_lt small]
    rfl
  | succ n ih =>
    obtain ⟨en, queues, drops⟩ := ih (by omega)
    dsimp only at *
    rw [List.range_succ, List.foldl_append, List.foldl_cons, List.foldl_nil]
    generalize (List.range n).foldl State.stallDropped s = u at *
    obtain ⟨⟨others, own⟩, en', lost, other⟩ := u.stallDropped_spec (q := n) (by omega)
    have before : u.queue n = s.queue n := (queues n (by omega)).trans (if_pos (le_refl n))
    refine ⟨en'.trans en, fun j hj => ?_, fun j hj => ?_⟩
    · rcases eq_or_ne j n with rfl | ne
      · rw [own, before, if_neg (by omega)]
      · rw [others j hj ne, queues j hj]
        exact if_congr (by omega) rfl rfl
    · rcases eq_or_ne j n with rfl | ne
      · rw [lost, drops j hj, before, if_pos (le_refl j), if_neg (by omega), Nat.add_zero, Nat.mod_add_mod]
      · rw [other j hj ne, drops j hj]
        congr 2
        exact if_congr (by omega) rfl rfl

theorem State.slqEnable_spec (s : State) (en : Bool) : let t := s.slqEnable en
    t.rd SLQ_CTRL_EN = (if en then 1 else 0) ∧
    (∀ j, j < 24 → t.queue j = if en = true ∨ 16 ≤ j then s.queue j else { s.queue j with stalled := [] }) ∧
    ∀ j, j < 16 → t.rd (qDrops j) =
      (s.rd (qDrops j) + if en then 0 else (s.queue j).stalled.length) % 2 ^ (qDrops j).width := by
  have drops (v j : Nat) : (s.wr SLQ_CTRL_EN v).rd (qDrops j) = s.rd (qDrops j) := by
    refine State.rd_wr_ne _ _ ?_
    simp only [qDrops, qField]
    split <;> simp only [Field.key] <;> omega
  have small (j : Nat) := State.rd_lt s (qDrops j)
  cases en with
  | true =>
    have is : s.slqEnable true = s.wr SLQ_CTRL_EN 1 := rfl
    dsimp only
    rw [is]
    refine ⟨State.rd_wr_of_lt _ (by decide), fun j _ => (if_pos (.inl rfl)).symm, fun j _ => ?_⟩
    rw [drops, if_pos rfl, Nat.add_zero, Nat.mod_eq_of_lt (small j)]
  | false =>
    have is : s.slqEnable false = (List.range 16).foldl State.stallDropped (s.wr SLQ_CTRL_EN 0) := rfl
    obtain ⟨en, queues, lost⟩ := (s.wr SLQ_CTRL_EN 0).slqDisable_spec (n := 16) (le_refl _)
    dsimp only
    rw [is]
    refine ⟨en.trans (State.rd_wr_of_lt _ (by decide)), fun j hj => (queues j hj).trans ?_, fun j hj => ?_⟩
    · exact if_congr (by simp) rfl rfl
    · rw [lost j hj, drops, qDrops_width, if_neg (by omega), if_neg Bool.false_ne_true]
      rfl

/-- A downlink write that a full queue stalls is posted. -/
theorem State.stalledWrite_posts (s : State) (port : Port) (w : PortWrite) (room : (s.port port).posted.length < 63) : let t := s.post port w
    t.port port = { s.port port with posted := (s.port port).posted ++ [w] } ∧ t.regs = s.regs ∧ ∀ j, t.queue j = s.queue j := by
  have is : s.post port w = s.setPort port { s.port port with posted := (s.port port).posted ++ [w] } := by
    rw [State.post, if_neg (by omega), State.noticeIf]
    exact if_neg (by simp; omega)
  dsimp only
  rw [is]
  exact ⟨State.port_setPort _ _ _, by cases port <;> rfl, fun j => by cases port <;> rfl⟩

/-- Settles O26: a payload word, COMMIT and ABORT through the open packet, CELLS and CLR_MAX through LEVEL, the stalled producers in the
order of their queues. -/
theorem downlinkQueues : Obligations.DownlinkQueues := by
  have command (q : Nat) (hq : q < 24) : SLQ_CMD q / 0x1000 = 0x1A := by
    rw [SLQ_CMD]
    split
    · rw [SLQ_U_CMD]
      omega
    · omega
  have commit (d : Nat) (hd : d < 3) : SLQ_D_COMMIT d / 0x1000 = 0x1A := by
    rw [SLQ_D_COMMIT]
    omega
  have cells (q : Nat) : (qCells q).addr / 0x1000 = 0x1A := by
    simp only [qCells, qField]
    split <;> dsimp only <;> omega
  refine ⟨fun s port d w work hd hw on closed fits => State.downlinkData_completes work hd (State.slqDownStalls_free closed fits) ?_,
    fun s port d w b work hd hw on some_ is mine live short alone fits =>
      State.downlinkData_completes work hd (State.slqDownStalls_mine is fits) ?_,
    fun s port d w b work hd hw on some_ is other => State.downlinkData_completes work hd ?_ ?_,
    fun s port d len b work hd _ on some_ is mine live => .effect (u := s) rfl (by rw [commit d hd]; exact work) ?_,
    fun s port d work hd => .effect (u := s) rfl (by rw [command _ (by omega)]; exact work) ?_,
    fun s port q n work hn => .effect (u := s) rfl (by rw [cells]; exact work) ?_,
    fun s port q work hq small => .effect (u := s) rfl (by rw [command q hq]; exact work) ?_,
    fun s q work hq on timed waits fresh => .working (u := s) rfl work (State.slqTimerExpires_spec hq on timed waits fresh),
    fun s q p carry l work hq waits => .working (u := s) rfl work (State.slqResume_spec (by omega) waits),
    fun s d kind prio pad words work hd some_ => .working (u := s) rfl work ?_,
    fun s port d w live hd hw stalls room => ⟨s.post port ⟨false, SLQ_D_DATA d, w, 15⟩, ?_, ?_⟩,
    fun s port en work => .effect (u := s) rfl work ?_⟩
  · have same := s.queue_hostWrote port false (SLQ_D_DATA d)
    have room := State.rd_slq_hostWrote s port false (SLQ_D_DATA d) (downlink_pages d).1
    rw [State.slqDownWord_opens ((DownOpen.free on hd closed fits).hostWrote _ _ _) (by rw [same]; exact closed) (by rw [same, room]; exact fits),
      same, Nat.mod_eq_of_lt hw]
    obtain ⟨others, put⟩ := ((s.hostWrote port false (SLQ_D_DATA d)).put_settled (q := 16 + d) (by omega)
      { s.queue (16 + d) with building := some ⟨[w], port, false⟩ }).1.of_hostWrote
    exact ⟨put, others⟩
  · have same := s.queue_hostWrote port false (SLQ_D_DATA d)
    have room := State.rd_slq_hostWrote s port false (SLQ_D_DATA d) (downlink_pages d).1
    rw [State.slqDownWord_appends ((DownOpen.mine on hd some_ is mine).hostWrote _ _ _) (by rw [same]; exact is) live short
      (by rw [room]; exact alone) (by rw [same, room]; exact fits), same, Nat.mod_eq_of_lt hw]
    exact ((s.hostWrote port false (SLQ_D_DATA d)).put_settled (by omega) _).1.2
  · rw [State.slqDownStalls, State.slqDownRefused_other on hd some_ is other]
    rfl
  · have refused := State.slqDownRefused_other (s := s.hostWrote port false (SLQ_D_DATA d)) (port := port) (d := d) (b := b)
      (by rw [State.rd_slq_hostWrote _ _ _ _ rfl, on]) hd (by rw [State.rd_slq_hostWrote _ _ _ _ (downlink_pages d).1]; exact some_)
      (by rw [State.queue_hostWrote]; exact is) other
    rw [State.slqDownWord, refused]
    obtain ⟨queues, queue, reason, noted, -⟩ :=
      (s.hostWrote port false (SLQ_D_DATA d)).slqErr_spec (q := 16 + d) (reason := 3) (by omega) (by decide)
    exact ⟨(queues _).trans (s.queue_hostWrote _ _ _ _), queue, reason, noted⟩
  · have same := s.queue_hostWrote port false (SLQ_D_COMMIT d)
    have spec := State.slqDownCommit_spec ((DownOpen.mine on hd some_ is mine).hostWrote port false (SLQ_D_COMMIT d))
      (by rw [same]; exact is) live len
    dsimp only at spec
    rw [same, State.rd_slq_hostWrote _ _ _ _ (downlink_pages d).2.2] at spec
    exact spec
  · have spec := (s.hostWrote port false (SLQ_CMD (16 + d))).slqAbort_spec hd
    dsimp only at spec
    rw [State.queue_hostWrote, State.rd_slq_hostWrote _ _ _ _ (downlink_pages d).2.2] at spec
    exact spec
  · obtain ⟨hq, hn⟩ := hn
    have spec := (s.hostWrote port false (qCells q).addr).slqSetCells_spec hq hn
    dsimp only at spec
    rw [State.slqLevel_hostWrote, State.slqTotalCells_hostWrote, State.rd_slq_hostWrote _ _ _ _ (qCells_page q)] at spec
    exact ⟨fun j _ => (spec.1 j).trans (s.queue_hostWrote _ _ _ _), spec.2⟩
  · rw [State.slqClrMax, State.slqLevel_hostWrote]
    exact ⟨State.rd_wr_of_lt _ (by rw [qMax_width]; exact small), fun j _ => s.queue_hostWrote _ _ _ _⟩
  · rw [if_neg (by omega), if_neg Bool.false_ne_true, Nat.add_sub_cancel_left, State.slqDownSpoilt]
    have full : (s.queue (16 + d)).eligible.isEmpty = false := by
      cases h : (s.queue (16 + d)).eligible with
      | nil => exact absurd h some_
      | cons _ _ => rfl
    dsimp only
    rw [full, if_neg Bool.false_ne_true]
    obtain ⟨-, put⟩ := s.setQueue_to (q := 16 + d) (by omega) { s.queue (16 + d) with eligible := (s.queue (16 + d)).eligible.dropLast }
    have regs := s.setQueue_regs (16 + d) { s.queue (16 + d) with eligible := (s.queue (16 + d)).eligible.dropLast }
    generalize s.setQueue (16 + d) { s.queue (16 + d) with eligible := (s.queue (16 + d)).eligible.dropLast } = u at *
    obtain ⟨queues, corrupt, noted, drops, carry⟩ := u.slqCorruptDrop_spec (16 + d)
    rw [qStatCorrupt_downlink] at corrupt
    rw [qDrops_downlink, State.rd_congr regs] at drops
    exact ⟨(queues _).trans put, corrupt, noted, carry, drops⟩
  · show Host.Outcome.next (if s.live 0x1A && s.slqDownStalls port d then s.post port ⟨false, SLQ_D_DATA d, w, 15⟩
      else s.effect port (SLQ_D_DATA d) fun s => s.slqDownWord port d w) = _
    rw [live, stalls]
    rfl
  · obtain ⟨posted, regs, queues⟩ := s.stalledWrite_posts port ⟨false, SLQ_D_DATA d, w, 15⟩ room
    exact ⟨posted, regs, fun j _ => queues j⟩
  · obtain ⟨on, queues, drops⟩ := (s.hostWrote port false SLQ_CTRL_EN.addr).slqEnable_spec en
    have page (j : Nat) : (qDrops j).page = 0x1A := by
      simp only [qDrops, qField]
      split <;> simp only [Field.page, Field.key] <;> omega
    refine ⟨on, fun j hj => ?_, fun j hj => ?_⟩
    · rw [queues j hj, State.queue_hostWrote]
    · rw [drops j hj, State.queue_hostWrote, State.rd_slq_hostWrote _ _ _ _ (page j)]

end Sys2Proof.Machine
end

section
/-! SUPPORT. The claim heartbeat, submissions from D0, and SPR_CTRL.EN (O20). -/

namespace Sys2Proof.Machine

/-! ### What a message leaves of the downlink queues -/

theorem State.dptLost_slqDown (s : State) (l : List Nat) : (s.dptLost l).slqDown = s.slqDown :=
  (State.dptLost_kept (T := Touches 0x8020000000003) (.refl s) l fun _ h => h).frame .slqDown (by decide)

theorem State.blockGone_slqDown (s : State) (f : QFrame) : (s.blockGone f).slqDown = s.slqDown := by
  rw [State.blockGone]
  split
  · split <;> rfl
  · rfl

theorem State.rfeDrop_slqDown (s : State) (f : QFrame) : (s.rfeDrop f).slqDown = s.slqDown := by
  have is : s.rfeDrop f = ((if f.prio = 0 then (s.count GRG_NODE_DROP 1).blockGone f else s).count (RFE_DROP f.prio) 1).notice
    RFE_NOTE_DROP := rfl
  rw [is, State.notice_slqDown]
  show (if f.prio = 0 then (s.count GRG_NODE_DROP 1).blockGone f else s).slqDown = s.slqDown
  split
  · exact State.blockGone_slqDown _ f
  · rfl

theorem State.frameGone_slqDown (s : State) (f : QFrame) : (s.frameGone f).slqDown = s.slqDown := by
  rw [State.frameGone]
  split
  · rfl
  · exact s.dptLost_slqDown _

theorem State.enqueue_slqDown (s : State) (m : OutMessage) (seq : Nat) : (s.enqueue m seq).slqDown = s.slqDown := by
  rw [State.enqueue]
  dsimp only
  split
  · rfl
  · split
    · rw [State.frameGone_slqDown, State.rfeDrop_slqDown]
      rfl
    · rfl

theorem State.notQueued_slqDown (s : State) (m : OutMessage) : (s.notQueued m).slqDown = s.slqDown := by
  rw [State.notQueued]
  split
  · rfl
  · exact (State.dptLost_slqDown _ _).trans rfl

theorem State.macOffer_slqDown (s : State) (m : OutMessage) (seq : Nat) : (s.macOffer m seq).slqDown = s.slqDown := by
  rw [State.macOffer]
  split
  · rfl
  · split
    · exact State.notice_slqDown _ _
    · split
      · split
        · exact s.notQueued_slqDown m
        · exact s.enqueue_slqDown m seq
      · exact s.enqueue_slqDown m seq

theorem State.sprSend_slqDown (s : State) (m : OutMessage) : (s.sprSend m).slqDown = s.slqDown := by
  rw [State.sprSend]
  split
  · split
    · rfl
    · exact s.dptLost_slqDown _
  · split
    · rfl
    · exact (State.macOffer_slqDown _ _ _).trans
        ((State.nextSeq_kept (T := Touches 0x8001) (.refl s) m.dest fun _ h => h).frame .slqDown (by decide))

/-! ### Broadcasts (R202, R203) -/

theorem State.enqueue_parts (s : State) (m : OutMessage) (seq : Nat) : Kept (Touches 0x54c0008060144007003) s (s.enqueue m seq) :=
  State.enqueue_kept (.refl s) m seq fun _ h => h

/-- R150: a frame at the end of a queue that has room for it. -/
theorem State.enqueue_room {s : State} (room : s.mac.queue.length < 1024) (m : OutMessage) (seq : Nat) : (s.enqueue m seq).mac.queue =
    s.mac.queue ++ [⟨s.mac.nextSerial, fspPrio m.type, m, seq, 0, s.rd MAC_RETRY_MIN_BE, 0, false, false, false, false, none⟩] := by
  rw [State.enqueue]
  dsimp only
  rw [if_pos (by rw [List.length_append, List.length_singleton]; omega)]

/-- The state after a broadcast has taken its number. -/
def State.broadcastTaken (s : State) : State :=
  { s with spr := { s.spr with bcSeq := (s.spr.bcSeq + 1) % 65536 } }.count SPR_TX_MSG 1

theorem State.sprSend_broadcast {s : State} {m : OutMessage} (on : s.rd SPR_CTRL_EN = 1) (mesh : s.meshTx = true) (dest : m.dest = .broadcast)
    (short : psduOf m < 2048) : s.sprSend m = s.broadcastTaken.enqueue m s.spr.bcSeq := by
  have number : s.nextSeq .broadcast = (s.spr.bcSeq, { s with spr := { s.spr with bcSeq := (s.spr.bcSeq + 1) % 65536 } }) := rfl
  have still : s.broadcastTaken.meshTx = true := mesh
  rw [State.sprSend, if_neg (by rw [State.rdB, on]; decide), if_neg (by rw [mesh]; decide), dest, number]
  show s.broadcastTaken.macOffer m s.spr.bcSeq = _
  rw [State.macOffer, if_neg (by rw [still]; decide), if_neg (by omega), dest]

/-- R202, R203: what a broadcast leaves. -/
theorem State.sprSend_broadcast_spec {s : State} {m : OutMessage} (on : s.rd SPR_CTRL_EN = 1) (mesh : s.meshTx = true)
    (dest : m.dest = .broadcast) (short : psduOf m < 2048) : let t := s.sprSend m
    t.spr = { s.spr with bcSeq := (s.spr.bcSeq + 1) % 65536 } ∧ t.rd SPR_TX_MSG = (s.rd SPR_TX_MSG + 1) % 2 ^ 32 ∧
    (s.mac.queue.length < 1024 → t.mac.queue = s.mac.queue ++
      [⟨s.mac.nextSerial, fspPrio m.type, m, s.spr.bcSeq, 0, s.rd MAC_RETRY_MIN_BE, 0, false, false, false, false, none⟩]) := by
  have kept := s.broadcastTaken.enqueue_parts m s.spr.bcSeq
  dsimp only
  rw [State.sprSend_broadcast on mesh dest short]
  refine ⟨kept.frame .spr (by decide), (kept.rd_eq SPR_TX_MSG (by decide)).trans (State.rd_wr_self _ _ _), fun room => ?_⟩
  have backoff : s.broadcastTaken.rd MAC_RETRY_MIN_BE = s.rd MAC_RETRY_MIN_BE := State.rd_wr_ne _ _ (by decide)
  rw [State.enqueue_room (s := s.broadcastTaken) room, backoff]
  rfl

/-! ### Submissions (R231) -/

theorem State.sprRefuse_spec (s : State) (i t : Nat) {reason : Nat} (hr : reason < 2 ^ 3) : let u := s.sprRefuse i t reason
    u.slqDown = s.slqDown ∧ u.rd SPR_REFUSED = (s.rd SPR_REFUSED + 1) % 2 ^ 32 ∧ u.rd SPR_ERR_REASON = reason ∧
    u.rd SPR_ERR_TYPE = t % 256 ∧ u.rd SPR_ERR_INDEX = i % 2 ^ 13 ∧ Noted SPR_NOTE_REFUSED u ∧ u.mac = s.mac := by
  have is : s.sprRefuse i t reason = ((s.count SPR_REFUSED 1).wrAll
    [(SPR_ERR_INDEX, i), (SPR_ERR_TYPE, t), (SPR_ERR_REASON, reason)]).notice SPR_NOTE_REFUSED := rfl
  dsimp only
  rw [is]
  refine ⟨State.notice_slqDown _ _, ?_, ?_, ?_, ?_, State.noted_notice _ SPR_NOTE_REFUSED (by decide), State.notice_mac _ _⟩ <;>
    rw [State.rd_notice_ne _ SPR_NOTE_REFUSED (by decide) (by decide), State.wrAll_cons, State.wrAll_cons, State.wrAll_cons,
      State.wrAll_nil]
  · rw [State.rd_wr_ne _ _ (by decide), State.rd_wr_ne _ _ (by decide), State.rd_wr_ne _ _ (by decide)]
    exact State.rd_wr_self _ _ _
  · rw [State.rd_wr_of_lt _ hr]
  · rw [State.rd_wr_ne _ _ (by decide)]
    exact State.rd_wr_self _ _ _
  · rw [State.rd_wr_ne _ _ (by decide), State.rd_wr_ne _ _ (by decide)]
    exact State.rd_wr_self _ _ _

/-- A message is sent, or is refused for its length. -/
theorem State.sprOffer_slqDown (s : State) (dest type : Nat) (m : OutMessage) :
    (if 2048 ≤ psduOf m then ((s.count MAC_TOO_LONG 1).notice MAC_NOTE_TOO_LONG).sprRefuse dest type 4 else s.sprSend m).slqDown =
      s.slqDown := by
  split
  · exact ((State.sprRefuse_spec _ dest type (reason := 4) (by decide)).1).trans (State.notice_slqDown _ _)
  · exact s.sprSend_slqDown m

/-- The bodies that may be sent to every node are short. -/
theorem length_of_bodyFits {t : Nat} {b : List Nat} (ht : t = 0x02 ∨ t = 0x05) (fits : bodyFits t b = true) : b.length ≤ 12 := by
  rcases ht with rfl | rfl
  · simp only [bodyFits, if_pos, Bool.and_eq_true, beq_iff_eq] at fits
    obtain ⟨⟨length, -⟩, -⟩ := fits
    have small : valueOctets (b.getD 3 0 % 4) ≤ 8 := by
      rw [valueOctets]
      split_ifs <;> omega
    omega
  · simp only [bodyFits] at fits
    norm_num at fits
    omega

/-- R231: what a submission that SPR takes leaves. -/
theorem State.sprSubmit_spec {s : State} (on : s.rd SPR_CTRL_EN = 1) (o : List Nat) : let t := s.sprSubmit o
    let dest := le o 0 2
    let type := le o 2 1
    t.slqDown = s.slqDown ∧
    if s.meshTx = false then
      t.rd SPR_DROP_CLAIM = (s.rd SPR_DROP_CLAIM + 1) % 2 ^ 32 ∧ Noted SPR_NOTE_DROP_CLAIM t ∧ t.mac = s.mac
    else if o.length < 8 ∨ le o 4 2 ≠ o.length - 8 then
      t.rd SPR_REFUSED = (s.rd SPR_REFUSED + 1) % 2 ^ 32 ∧ t.rd SPR_ERR_REASON = 1 ∧ t.rd SPR_ERR_TYPE = type % 256 ∧
      t.rd SPR_ERR_INDEX = dest % 2 ^ 13 ∧ Noted SPR_NOTE_REFUSED t ∧ t.mac = s.mac
    else if type ∉ [0x02, 0x03, 0x05, 0x06, 0x07, 0x08, 0x0C, 0x0D] ∨ (type = 0x02 ∧ dest ≠ 0xFFFF) ∨
        (type ≠ 0x02 ∧ type ≠ 0x05 ∧ dest = 0xFFFF) then
      t.rd SPR_REFUSED = (s.rd SPR_REFUSED + 1) % 2 ^ 32 ∧ t.rd SPR_ERR_REASON = 2 ∧ Noted SPR_NOTE_REFUSED t ∧ t.mac = s.mac
    else if dest ≠ 0xFFFF ∧ (8192 ≤ dest ∨ s.entType dest ≠ 1 ∨ s.entByte dest = 0) then
      t.rd SPR_REFUSED = (s.rd SPR_REFUSED + 1) % 2 ^ 32 ∧ t.rd SPR_ERR_REASON = 3 ∧ Noted SPR_NOTE_REFUSED t ∧ t.mac = s.mac
    else if bodyFits type (o.drop 8) = false then
      t.rd SPR_REFUSED = (s.rd SPR_REFUSED + 1) % 2 ^ 32 ∧ t.rd SPR_ERR_REASON = 1 ∧ Noted SPR_NOTE_REFUSED t ∧ t.mac = s.mac
    else if dest = 0xFFFF ∧ s.mac.queue.length < 1024 then
      t.rd SPR_TX_MSG = (s.rd SPR_TX_MSG + 1) % 2 ^ 32 ∧ t.spr = { s.spr with bcSeq := (s.spr.bcSeq + 1) % 65536 } ∧
      t.mac.queue = s.mac.queue ++
        [⟨s.mac.nextSerial, 2, ⟨type, .broadcast, o.drop 8, []⟩, s.spr.bcSeq, 0, s.rd MAC_RETRY_MIN_BE, 0, false, false, false, false, none⟩]
    else True := by
  dsimp only
  rw [State.sprSubmit]
  dsimp only
  generalize le o 0 2 = dest
  generalize le o 2 1 = type
  cases mesh : s.meshTx with
  | false =>
    rw [if_pos (show (!false) = true from rfl), if_pos rfl]
    refine ⟨State.notice_slqDown _ _, ?_, State.noted_notice _ SPR_NOTE_DROP_CLAIM (by decide), State.notice_mac _ _⟩
    rw [State.rd_notice_ne _ SPR_NOTE_DROP_CLAIM (by decide) (by decide)]
    exact State.rd_wr_self _ _ _
  | true =>
    rw [if_neg (show ¬(!true) = true by decide), if_neg (c := true = false) (by decide), List.length_drop]
    by_cases header : o.length < 8 ∨ le o 4 2 ≠ o.length - 8
    · rw [if_pos header, if_pos header]
      obtain ⟨down, count, reason, shown, index, noted, mac⟩ := s.sprRefuse_spec dest type (reason := 1) (by decide)
      exact ⟨down, count, reason, shown, index, noted, mac⟩
    rw [if_neg header, if_neg header]
    by_cases unknown : type ∉ [0x02, 0x03, 0x05, 0x06, 0x07, 0x08, 0x0C, 0x0D]
    · rw [if_pos (by simpa using unknown), if_pos (.inl unknown)]
      obtain ⟨down, count, reason, -, -, noted, mac⟩ := s.sprRefuse_spec dest type (reason := 2) (by decide)
      exact ⟨down, count, reason, noted, mac⟩
    rw [if_neg (by simpa using unknown)]
    by_cases astray : (type = 0x02 ∧ dest ≠ 0xFFFF) ∨ (type ≠ 0x02 ∧ type ≠ 0x05 ∧ dest = 0xFFFF)
    · rw [if_pos astray, if_pos (.inr astray)]
      obtain ⟨down, count, reason, -, -, noted, mac⟩ := s.sprRefuse_spec dest type (reason := 2) (by decide)
      exact ⟨down, count, reason, noted, mac⟩
    rw [if_neg astray, if_neg (not_or.mpr ⟨unknown, astray⟩)]
    by_cases absent : dest ≠ 0xFFFF ∧ (8192 ≤ dest ∨ s.entType dest ≠ 1 ∨ s.entByte dest = 0)
    · rw [if_pos absent, if_pos absent]
      obtain ⟨down, count, reason, -, -, noted, mac⟩ := s.sprRefuse_spec dest type (reason := 3) (by decide)
      exact ⟨down, count, reason, noted, mac⟩
    rw [if_neg absent, if_neg absent]
    cases fits : bodyFits type (o.drop 8) with
    | false =>
      rw [if_pos (show (!false) = true from rfl), if_pos rfl]
      obtain ⟨down, count, reason, -, -, noted, mac⟩ := s.sprRefuse_spec dest type (reason := 1) (by decide)
      exact ⟨down, count, reason, noted, mac⟩
    | true =>
      rw [if_neg (show ¬(!true) = true by decide), if_neg (show ¬true = false by decide)]
      by_cases wide : dest = 0xFFFF ∧ s.mac.queue.length < 1024
      · obtain ⟨rfl, room⟩ := wide
        have both : type = 0x02 ∨ type = 0x05 := by omega
        have prio : fspPrio type = 2 := by
          rw [fspPrio, if_pos (by omega)]
        have short := length_of_bodyFits both fits
        have length : psduOf ⟨type, .broadcast, o.drop 8, []⟩ < 2048 := by
          rw [psduOf]
          dsimp only
          split_ifs <;> omega
        rw [if_neg (by omega), if_pos rfl, if_neg (c := type = 0x0C) (by omega), if_neg (by omega), if_pos ⟨rfl, room⟩]
        obtain ⟨spr, count, queue⟩ := State.sprSend_broadcast_spec (m := ⟨type, .broadcast, o.drop 8, []⟩) on mesh rfl length
        rw [prio] at queue
        exact ⟨State.sprSend_slqDown _ _, count, spr, queue room⟩
      · rw [if_neg wide]
        refine ⟨?_, trivial⟩
        split
        · rfl
        · exact s.sprOffer_slqDown dest type _

/-- Settles O20: the heartbeat is a broadcast; a submission goes through its checks in their order. -/
theorem segmentProtocolCommands : Obligations.SegmentProtocolCommands := by
  refine ⟨fun s work => .working (u := s) rfl work ?_, fun s work idle => .working (u := s) rfl work ?_,
    fun s u p work on taken => .working (u := s) rfl work ?_, fun s port en work => .effect (u := s) rfl work ?_⟩
  · by_cases sends : s.rd SPR_CTRL_EN = 1 ∧ s.rd SPR_CTRL_HB_EN = 1 ∧ s.meshTx = true
    · obtain ⟨on, beats, mesh⟩ := sends
      rw [if_pos ⟨on, beats, mesh⟩, if_pos (by rw [State.rdB, State.rdB, on, beats]; rfl)]
      exact State.sprSend_broadcast_spec (m := ⟨0x04, .broadcast, [], []⟩) on mesh rfl (by decide)
    · rw [if_neg sends]
      split
      next enabled =>
        rw [Bool.and_eq_true, State.rdB, State.rdB, beq_iff_eq, beq_iff_eq] at enabled
        obtain ⟨on, beats⟩ := enabled
        have quiet : s.meshTx = false := Bool.eq_false_iff.mpr fun mesh => sends ⟨on, beats, mesh⟩
        rw [State.sprSend, if_neg (by rw [State.rdB, on]; decide), if_pos (by rw [quiet]; rfl)]
      next => rfl
  · rw [State.sprTake]
    rcases idle with off | empty
    · rw [if_pos (by rw [State.rdB, off]; rfl)]
    · rw [empty]
      exact ite_self s
  · have is : s.sprTake = u.sprSubmit (packetOctets p) := by
      rw [State.sprTake, if_neg (by rw [State.rdB, on]; decide), taken]
    rw [is]
    obtain ⟨l, rfl⟩ := State.slqTake_down taken
    exact State.sprSubmit_spec (s := { s with slqDown := l }) on (packetOctets p)
  · have only : OnlyFields [SPR_CTRL_EN, NOTE_RAW 0x01, MSIX_PBA] s ((s.hostWrote port false SPR_CTRL_EN.addr).wrB SPR_CTRL_EN en) :=
      ((OnlyFields.refl _ s).hostWrote port false _ (by decide) (by decide)).wr _ (by decide)
    refine ⟨State.rd_wr_of_lt _ (by cases en <;> decide), s.hostWrote_spr _ _ _, s.hostWrote_mac _ _ _, s.hostWrote_win _ _ _, only⟩

end Sys2Proof.Machine
end

section
/-! SUPPORT. Chains, gain control, received frames, regions and budgets (O15). -/

namespace Sys2Proof.Machine

/-! ### Demodulator slots (R133, R134) -/

/-- What a check of a slot leaves of the table, the chains and the MAC, but for the flags of the slot. -/
structure SlotKeeps (k : Nat) (s t : State) : Prop where
  flags : ∀ m, m < 128 → m ≠ k → t.slotFlags m = s.slotFlags m
  chain : ∀ m, m < 128 → t.slotChain m = s.slotChain m
  freq : ∀ m, m < 128 → t.slotFreq m = s.slotFreq m
  phy : ∀ m, m < 128 → t.slotPhyByte m = s.slotPhyByte m
  fewer : ∀ m, m < 128 → t.slotEnabled m = true → s.slotEnabled m = true
  deaf : t.mac.deaf = s.mac.deaf
  only : OnlyFields [CHN_CFG_ERR_SLOT_SLOT, CHN_CFG_ERR_SLOT_REASON, NOTE_RAW 0x03, MSIX_PBA] s t

theorem SlotKeeps.refl (k : Nat) (s : State) : SlotKeeps k s s :=
  ⟨fun _ _ _ => rfl, fun _ _ => rfl, fun _ _ => rfl, fun _ _ => rfl, fun _ _ h => h, rfl, OnlyFields.refl _ s⟩

theorem State.chainFreq_only {s t : State} (h : OnlyFields [CHN_CFG_ERR_SLOT_SLOT, CHN_CFG_ERR_SLOT_REASON, NOTE_RAW 0x03, MSIX_PBA] s t)
    (k : Nat) : t.chainFreq k = s.chainFreq k := by
  rw [State.chainFreq, State.chainFreq]
  split <;> exact h _ (by decide)

/-- Why a slot must be disabled depends on it, on the lower slots and on the chains' centres. -/
theorem State.slotFault_congr {s t : State} {n : Nat} (flags : ∀ m, m ≤ n → t.slotFlags m = s.slotFlags m)
    (freq : ∀ m, m ≤ n → t.slotFreq m = s.slotFreq m) (phy : ∀ m, m ≤ n → t.slotPhyByte m = s.slotPhyByte m)
    (centre : ∀ k, t.chainFreq k = s.chainFreq k) : t.slotFault n = s.slotFault n := by
  have repeats : ((List.range n).any fun m => t.slotEnabled m && t.slotChain m == t.slotChain n && t.slotFreq m == t.slotFreq n &&
      t.slotPhy m == t.slotPhy n) = (List.range n).any fun m => s.slotEnabled m && s.slotChain m == s.slotChain n &&
      s.slotFreq m == s.slotFreq n && s.slotPhy m == s.slotPhy n := by
    rw [Bool.eq_iff_iff, List.any_eq_true, List.any_eq_true]
    refine exists_congr fun m => and_congr_right fun mem => ?_
    have below : m ≤ n := (List.mem_range.mp mem).le
    simp only [State.slotEnabled, State.slotChain, State.slotPhy, flags m below, flags n (le_refl n), freq m below, freq n (le_refl n),
      phy m below, phy n (le_refl n)]
  have chain : t.slotChain n = s.slotChain n := by rw [State.slotChain, State.slotChain, flags n (le_refl n)]
  have mode : t.slotPhy n = s.slotPhy n := by rw [State.slotPhy, State.slotPhy, phy n (le_refl n)]
  have span (k f p : Nat) : t.inSpan k f p = s.inSpan k f p := by rw [State.inSpan, State.inSpan, centre]
  rw [State.slotFault, State.slotFault, repeats, chain, mode, freq n (le_refl n), span]

theorem bitsOf_clrBit_zero (v : Nat) : bitsOf (clrBit v 0) 1 1 = bitsOf v 1 1 := by
  rw [clrBit]
  split
  next set =>
    have odd : v / 2 ^ 0 % 2 = 1 := beq_iff_eq.mp set
    rw [bitsOf, bitsOf]
    omega
  next => rfl

/-- The state of a slot that the check disables. -/
def State.slotOff (s : State) (n : Nat) : State :=
  ((s.cellEnable n false).setBytes 0x03 (16 * n + 4) [clrBit (s.slotFlags n) 0]).chnErr n (s.slotFault n)

theorem State.slotOff_w8 (s : State) (n : Nat) {a : Nat} (ha : a < 2 ^ 24) (hn : n < 128) :
    (s.slotOff n).w8 0x03 a = if a = 16 * n + 4 then clrBit (s.slotFlags n) 0 else s.w8 0x03 a := by
  have win : (s.slotOff n).win = (s.setBytes 0x03 (16 * n + 4) [clrBit (s.slotFlags n) 0]).win := by
    rw [State.slotOff, State.chnErr, State.notice_win]
    rfl
  rw [State.w8_congr win]
  split
  next here =>
    rw [here, State.w8_setBytes_inside _ (le_refl _) (by simp), Nat.sub_self]
    exact Nat.mod_eq_of_lt (clrBit_lt (n := 8) (State.w8_lt _ _ _))
  next away => exact State.w8_setBytes_outside ha (by simp; omega) (by simp; omega)

theorem State.slotOff_keeps (s : State) {n : Nat} (hn : n < 128) : SlotKeeps n s (s.slotOff n) := by
  have same {m : Nat} (hm : m < 128) (ne : m ≠ n) : (s.slotOff n).slotFlags m = s.slotFlags m := by
    rw [State.slotFlags, s.slotOff_w8 n (by omega) hn, if_neg (by omega), State.slotFlags]
  have own : (s.slotOff n).slotFlags n = clrBit (s.slotFlags n) 0 := by
    rw [State.slotFlags, s.slotOff_w8 n (by omega) hn, if_pos rfl]
  refine ⟨fun m hm ne => same hm ne, fun m hm => ?_, fun m hm => ?_, fun m hm => ?_, fun m hm on => ?_, ?_, ?_⟩
  · rcases eq_or_ne m n with rfl | ne
    · rw [State.slotChain, State.slotChain, own]
      exact bitsOf_clrBit_zero _
    · rw [State.slotChain, State.slotChain, same hm ne]
  · have word : (s.slotOff n).wN 0x03 (16 * m) 4 = s.wN 0x03 (16 * m) 4 :=
      State.wN_eq fun k hk => by rw [s.slotOff_w8 n (by omega) hn, if_neg (by omega)]
    rw [State.slotFreq, State.slotFreq, State.w32, State.w32, word]
  · rw [State.slotPhyByte, State.slotPhyByte, s.slotOff_w8 n (by omega) hn, if_neg (by omega)]
  · rcases eq_or_ne m n with rfl | ne
    · rw [State.slotEnabled, own, bitAt_clrBit] at on
      simp at on
    · rw [State.slotEnabled, same hm ne] at on
      exact on
  · rw [State.slotOff, State.chnErr, State.notice_mac]
    rfl
  · rw [State.slotOff, State.chnErr]
    exact (((OnlyFields.of_regs rfl).wr _ (by simp)).wr _ (by simp)).notice _ (by simp) (by simp)

theorem State.slotCheck_spec (s : State) {n : Nat} (hn : n < 128) : SlotKeeps n s (s.slotCheck n) ∧
    ((s.slotCheck n).slotEnabled n = true → (s.slotCheck n).slotFault n = 0) := by
  have is : s.slotCheck n = if s.slotEnabled n && s.slotFault n != 0 then s.slotOff n else s := rfl
  rw [is]
  split
  · refine ⟨s.slotOff_keeps hn, fun on => ?_⟩
    rw [State.slotEnabled, State.slotFlags, s.slotOff_w8 n (by omega) hn, if_pos rfl, bitAt_clrBit] at on
    simp at on
  next fits =>
    refine ⟨SlotKeeps.refl n s, fun on => ?_⟩
    rw [on] at fits
    simpa using fits

/-- R134: after the checks every slot that is enabled was so and fits. -/
theorem State.slotsCheck_spec (s : State) {n : Nat} (hn : n ≤ 128) : let t := (List.range n).foldl State.slotCheck s
    t.mac.deaf = s.mac.deaf ∧ OnlyFields [CHN_CFG_ERR_SLOT_SLOT, CHN_CFG_ERR_SLOT_REASON, NOTE_RAW 0x03, MSIX_PBA] s t ∧
    (∀ m, m < 128 → t.slotEnabled m = true → s.slotEnabled m = true) ∧ ∀ m, m < n → t.slotEnabled m = true → t.slotFault m = 0 := by
  induction n with
  | zero => exact ⟨rfl, OnlyFields.refl _ s, fun _ _ h => h, fun m hm => absurd hm (Nat.not_lt_zero m)⟩
  | succ n ih =>
    obtain ⟨deaf, only, fewer, fits⟩ := ih (by omega)
    dsimp only at *
    rw [List.range_succ, List.foldl_append, List.foldl_cons, List.foldl_nil]
    generalize (List.range n).foldl State.slotCheck s = u at *
    obtain ⟨kept, own⟩ := u.slotCheck_spec (n := n) (by omega)
    refine ⟨kept.deaf.trans deaf, only.trans kept.only, fun m hm on => fewer m hm (kept.fewer m hm on), fun m hm on => ?_⟩
    rcases Nat.lt_succ_iff_lt_or_eq.mp hm with less | rfl
    · rw [State.slotFault_congr (fun j hj => kept.flags j (by omega) (by omega)) (fun j hj => kept.freq j (by omega))
        (fun j hj => kept.phy j (by omega)) (State.chainFreq_only kept.only)]
      exact fits m less (kept.fewer m (by omega) on)
    · exact own on

/-! ### Retunes (R127, R128) -/

/-- The centre of a chain. -/
def chainField (k : Nat) : Field := if k = 0 then RFE_CHAIN0_FREQ else RFE_CHAIN1_FREQ

/-- The chain at its new centre, before the slots are checked. -/
def State.retuned (s : State) (k freq lost : Nat) : State :=
  ((s.wr (chainField k) freq).count CHN_LOST_BLANK lost).deafen k (s.moduleTime + 60000)

theorem State.retune_out {s : State} {freq : Nat} (out : ¬(792800 ≤ freq ∧ freq ≤ 946200)) (k lost : Nat) :
    s.retune k freq lost = s.notice RFE_NOTE_CFG_ERR := by
  have bad : freq < 792800 ∨ 946200 < freq := by omega
  unfold State.retune
  exact if_pos bad

theorem State.retune_in {s : State} {freq : Nat} (ok : 792800 ≤ freq ∧ freq ≤ 946200) (k lost : Nat) :
    s.retune k freq lost = if freq = s.chainFreq k then s else (s.retuned k freq lost).slotsCheck := by
  have good : ¬(freq < 792800 ∨ 946200 < freq) := by omega
  unfold State.retune
  rw [if_neg good]
  rfl

theorem State.retuned_spec (s : State) {k freq : Nat} (lost : Nat) (hk : k < 2) (small : freq < 2 ^ 20) : let t := s.retuned k freq lost
    t.chainFreq k = freq ∧ t.chainFreq (1 - k) = s.chainFreq (1 - k) ∧ s.moduleTime + 60000 ≤ t.mac.deaf.getD k 0 ∧
    t.rd CHN_LOST_BLANK = (s.rd CHN_LOST_BLANK + lost) % 2 ^ CHN_LOST_BLANK.width ∧ t.win = s.win := by
  have regs : (s.retuned k freq lost).regs = ((s.wr (chainField k) freq).count CHN_LOST_BLANK lost).regs := rfl
  have chain (f : Field) (ne : f.key ≠ CHN_LOST_BLANK.key) : (s.retuned k freq lost).rd f = (s.wr (chainField k) freq).rd f := by
    rw [State.rd_congr regs, State.count, State.rd_wr_ne _ _ ne]
  have counted (v : Nat) : (s.wr (chainField k) v).rd CHN_LOST_BLANK = s.rd CHN_LOST_BLANK := by
    refine State.rd_wr_ne _ _ ?_
    rw [chainField]
    split <;> decide
  have deaf : s.moduleTime + 60000 ≤ (s.retuned k freq lost).mac.deaf.getD k 0 := by
    have is : (s.retuned k freq lost).mac.deaf = putAt 2 0 s.mac.deaf k (max (s.moduleTime + 60000) (s.mac.deaf.getD k 0)) := rfl
    rw [is, getD_putAt _ _ _ _ _ hk, if_pos rfl]
    exact Nat.le_max_left _ _
  refine ⟨?_, ?_, deaf, ?_, rfl⟩
  · rw [State.chainFreq]
    interval_cases k
    · rw [if_pos rfl, chain _ (by decide)]
      exact State.rd_wr_of_lt _ small
    · rw [if_neg (by decide), chain _ (by decide)]
      exact State.rd_wr_of_lt _ small
  · rw [State.chainFreq, State.chainFreq]
    interval_cases k
    · rw [if_neg (by decide), chain _ (by decide)]
      exact State.rd_wr_ne _ _ (by decide)
    · rw [if_pos rfl, chain _ (by decide)]
      exact State.rd_wr_ne _ _ (by decide)
  · rw [State.rd_congr regs, State.rd_count_self, counted]

/-- R127, R128: a new centre and what the checks of the slots then leave. -/
theorem State.retuned_checked (s : State) {k freq : Nat} (lost : Nat) (hk : k < 2) (small : freq < 2 ^ 20) :
    let t := (s.retuned k freq lost).slotsCheck
    t.chainFreq k = freq ∧ t.chainFreq (1 - k) = s.chainFreq (1 - k) ∧ s.moduleTime + 60000 ≤ t.mac.deaf.getD k 0 ∧
    t.rd CHN_LOST_BLANK = (s.rd CHN_LOST_BLANK + lost) % 2 ^ CHN_LOST_BLANK.width ∧
    ∀ n, n < 128 → t.slotEnabled n = true → s.slotEnabled n = true ∧ t.slotFault n = 0 := by
  obtain ⟨centre, other, deaf, count, win⟩ := s.retuned_spec lost hk small
  have was (n : Nat) : (s.retuned k freq lost).slotEnabled n = s.slotEnabled n := by
    rw [State.slotEnabled, State.slotEnabled, State.slotFlags, State.slotFlags, State.w8_congr win]
  generalize s.retuned k freq lost = u at *
  obtain ⟨still, only, fewer, fits⟩ := u.slotsCheck_spec (n := 128) (le_refl _)
  refine ⟨(State.chainFreq_only only _).trans centre, (State.chainFreq_only only _).trans other, ?_, (only _ (by decide)).trans count,
    fun n hn on => ⟨by rw [← was]; exact fewer n hn on, fits n hn on⟩⟩
  show _ ≤ ((List.range 128).foldl State.slotCheck u).mac.deaf.getD k 0
  rw [still]
  exact deaf

/-! ### Gain control (R129) -/

theorem agcField_apart (k : Nat) : ∀ g ∈ [NOTE_RAW 0x02, NOTE_RAW 0x03, MSIX_PBA, CHN_LOST_AGC],
    (agcField k).key ≠ g.key ∧ (agcField k).width = 4 := by
  rw [agcField]
  split <;> decide

theorem clipNotice_spec (k : Nat) : (clipNotice k).page = 0x02 ∧ (clipNotice k).bit < 32 := by
  rw [clipNotice]
  split <;> decide

/-- R129: a clip's step, its notice and the frames lost. -/
theorem State.agcClip_spec (s : State) (k lost : Nat) {att : Nat} (small : att ≤ 15) : let t := s.agcClip k att lost
    t.rd (agcField k) = att ∧ Raises (clipNotice k) s t ∧
    t.rd CHN_LOST_AGC = (s.rd CHN_LOST_AGC + lost) % 2 ^ CHN_LOST_AGC.width ∧ (lost ≠ 0 → Raises CHN_NOTE_AGC_LOSS s t) := by
  have is : s.agcClip k att lost = let u := (s.wr (agcField k) att).notice (clipNotice k)
      if lost = 0 then u else (u.count CHN_LOST_AGC lost).notice CHN_NOTE_AGC_LOSS := by
    rw [State.agcClip, Nat.min_eq_right small]
  obtain ⟨page, bit⟩ := clipNotice_spec k
  obtain ⟨note2, width⟩ := agcField_apart k (NOTE_RAW 0x02) (by simp)
  have note3 := (agcField_apart k (NOTE_RAW 0x03) (by simp)).1
  have pba := (agcField_apart k MSIX_PBA (by simp)).1
  have lostAgc := (agcField_apart k CHN_LOST_AGC (by simp)).1
  have stepped : ((s.wr (agcField k) att).notice (clipNotice k)).rd (agcField k) = att := by
    rw [State.rd_notice_ne _ _ (by rw [page]; exact note2) pba, State.rd_wr_of_lt _ (by rw [width]; omega)]
  have raised : Raises (clipNotice k) s ((s.wr (agcField k) att).notice (clipNotice k)) :=
    Raises.of_rd (State.raises_notice _ _ bit) (State.rd_wr_ne _ _ (by rw [page]; exact note2.symm))
  have through {f : Field} (h2 : f.key ≠ (NOTE_RAW 0x02).key) (hp : f.key ≠ MSIX_PBA.key) (ha : f.key ≠ (agcField k).key) :
      ((s.wr (agcField k) att).notice (clipNotice k)).rd f = s.rd f := by
    rw [State.rd_notice_ne _ _ (by rw [page]; exact h2) hp, State.rd_wr_ne _ _ ha]
  have count := through (f := CHN_LOST_AGC) (by decide) (by decide) lostAgc.symm
  have note := through (f := NOTE_RAW 0x03) (by decide) (by decide) note3.symm
  dsimp only at is ⊢
  rw [is]
  generalize (s.wr (agcField k) att).notice (clipNotice k) = u at *
  by_cases none : lost = 0
  · rw [if_pos none]
    refine ⟨stepped, raised, ?_, fun ne => absurd none ne⟩
    rw [count, none, Nat.add_zero, Nat.mod_eq_of_lt (State.rd_lt _ _)]
  · rw [if_neg none]
    refine ⟨?_, ?_, ?_, fun _ => ?_⟩
    · rw [State.rd_notice_ne _ CHN_NOTE_AGC_LOSS note3 pba, State.count, State.rd_wr_ne _ _ lostAgc, stepped]
    · rw [Raises, page] at raised ⊢
      rw [State.rd_notice_ne _ CHN_NOTE_AGC_LOSS (by decide) (by decide), State.count, State.rd_wr_ne _ _ (by decide), raised]
    · rw [State.rd_notice_ne _ CHN_NOTE_AGC_LOSS (by decide) (by decide), State.rd_count_self, count]
    · exact Raises.of_rd (State.raises_notice _ CHN_NOTE_AGC_LOSS (by decide)) ((State.rd_wr_ne _ _ (by decide)).trans note)

/-! ### Budgets (R146) -/

theorem findBudget_no {l : List Budget} {k : Nat} {b : Budget} (h : findBudget l k = some b) : budgetNo b.entry b.channel = k := by
  induction l with
  | nil => cases h
  | cons c l ih =>
    rw [findBudget] at h
    split at h
    next is =>
      cases h
      exact is
    next => exact ih h

theorem findBudget_filter {l : List Budget} {b : Budget} {k : Nat} (ne : k ≠ budgetNo b.entry b.channel) :
    findBudget (l.filter fun c => c.entry != b.entry || c.channel != b.channel) k = findBudget l k := by
  induction l with
  | nil => rfl
  | cons c l ih =>
    rw [List.filter_cons]
    split
    next => rw [findBudget, findBudget, ih]
    next gone =>
      have same : c.entry = b.entry ∧ c.channel = b.channel := by simpa using gone
      rw [ih, findBudget, if_neg (by rw [same.1, same.2]; exact ne.symm)]

/-- R146: a budget put is found under its number, and every other one as before. -/
theorem findBudget_putBudget (l : List Budget) (b : Budget) : findBudget (putBudget l b) (budgetNo b.entry b.channel) = some b ∧
    ∀ k, k ≠ budgetNo b.entry b.channel → findBudget (putBudget l b) k = findBudget l k := by
  refine ⟨?_, fun k ne => ?_⟩
  · rw [putBudget, findBudget, if_pos rfl]
  · rw [putBudget, findBudget, if_neg ne.symm, findBudget_filter ne]

/-! ### Received frames (R133, R136, R137) -/

theorem toOctets_prefix_ofOctets {m n : Nat} (h : m ≤ n) (v : Nat) :
    ofOctets ((List.range m).map fun k => (toOctets n v).getD k 0 % 256) = v % 256 ^ m := by
  rw [← ofOctets_toOctets]
  congr 1
  show _ = (List.range m).map (octet v)
  refine List.map_congr_left fun k hk => ?_
  have inside : k < m := List.mem_range.mp hk
  rw [getD_toOctets _ (by omega), octet]
  omega

/-- The slot's count after a frame. -/
theorem State.slotCount_set (s : State) (a : Nat) {c : Nat} (hc : c < 2 ^ 32) (x y : Nat) :
    (s.setN 0x03 a 6 (c + 2 ^ 32 * x + 2 ^ 40 * y)).w32 0x03 a = c := by
  have bytes : (s.setN 0x03 a 6 (c + 2 ^ 32 * x + 2 ^ 40 * y)).wBytes 0x03 a 4 =
      (List.range 4).map fun k => (toOctets 6 (c + 2 ^ 32 * x + 2 ^ 40 * y)).getD k 0 % 256 := by
    refine List.map_congr_left fun k hk => ?_
    have inside : k < 4 := List.mem_range.mp hk
    rw [State.setN, State.w8_setBytes_inside _ (Nat.le_add_right a k) (by simp; omega), Nat.add_sub_cancel_left]
  rw [State.w32, State.wN, bytes, toOctets_prefix_ofOctets (by decide)]
  omega

theorem State.slotHears_deaf {s : State} {n k sfd : Nat} (h : sfd < s.mac.deaf.getD k 0 ∨ s.rd (paField k) = 1) :
    s.slotHears n k sfd = false := by
  rw [State.slotHears, State.chainHears]
  rcases h with deaf | on
  · rw [decide_eq_false (p := s.mac.deaf.getD k 0 ≤ sfd) (by omega), Bool.and_false, Bool.and_false]
  · rw [State.rdB, State.rdB, State.rdB, on]
    simp

theorem State.bufferFrame_spec (s : State) (f : RxFrame) : let t := s.bufferFrame f
    t.win = s.win ∧
    if s.isDiversityCopy f then t.mac = s.mac ∧ t.rd CHN_DIV_DUP = (s.rd CHN_DIV_DUP + 1) % 2 ^ CHN_DIV_DUP.width
    else if 256 ≤ s.mac.frameBuf.length then
      t.mac = s.mac ∧ t.rd CHN_LOST_BUF = (s.rd CHN_LOST_BUF + 1) % 2 ^ CHN_LOST_BUF.width ∧ Raises CHN_NOTE_OVERFLOW s t
    else t.mac.frameBuf = byEnd f s.mac.frameBuf ∧ t.rd CHN_RX_OK = (s.rd CHN_RX_OK + 1) % 2 ^ CHN_RX_OK.width := by
  dsimp only
  rw [State.bufferFrame]
  by_cases copy : s.isDiversityCopy f = true
  · rw [if_pos copy, if_pos copy]
    exact ⟨rfl, rfl, State.rd_count_self _ _ _⟩
  rw [if_neg copy, if_neg copy]
  by_cases full : 256 ≤ s.mac.frameBuf.length
  · rw [if_pos full, if_pos full]
    refine ⟨State.notice_win _ _, State.notice_mac _ _, ?_, ?_⟩
    · rw [State.rd_notice_ne _ CHN_NOTE_OVERFLOW (by decide) (by decide), State.rd_count_self]
    · exact Raises.of_rd (State.raises_notice _ CHN_NOTE_OVERFLOW (by decide)) (State.rd_wr_ne _ _ (by decide))
  · rw [if_neg full, if_neg full]
    exact ⟨rfl, rfl, State.rd_count_self _ _ _⟩

/-- R136, R137: what a frame leaves. -/
theorem State.chnReceive_spec (s : State) (n sfd ends rssi lqi : Nat) (check : FrameCheck) (m : MeshFrame) :
    let t := s.chnReceive n sfd ends rssi lqi check m
    match s.tunedFor n sfd ends with
    | none => t = s
    | some (k, freq, phy) =>
      let f : RxFrame := ⟨n, k, freq, phy, sfd, ends, rssi, lqi, m⟩
      (sfd < s.mac.deaf.getD k 0 ∨ s.rd (paField k) = 1 → t = s) ∧
      if s.slotHears n k sfd = false then t = s
      else if check = .badFcs then
        t.rd CHN_FCS_ERR = (s.rd CHN_FCS_ERR + 1) % 2 ^ CHN_FCS_ERR.width ∧ OnlyFields [CHN_FCS_ERR] s t ∧ t.win = s.win ∧
          t.mac = s.mac
      else
        t.w32 0x03 (16 * n + 8) = (s.w32 0x03 (16 * n + 8) + 1) % 2 ^ 32 ∧
        if check = .badCarry then t.mac = s.mac ∧ Noted ITG_NOTE_CARRY t ∧ t.rd CHN_RX_OK = s.rd CHN_RX_OK
        else if s.isDiversityCopy f then t.mac = s.mac ∧ t.rd CHN_DIV_DUP = (s.rd CHN_DIV_DUP + 1) % 2 ^ CHN_DIV_DUP.width
        else if 256 ≤ s.mac.frameBuf.length then
          t.mac = s.mac ∧ t.rd CHN_LOST_BUF = (s.rd CHN_LOST_BUF + 1) % 2 ^ CHN_LOST_BUF.width ∧ Raises CHN_NOTE_OVERFLOW s t
        else t.mac.frameBuf = byEnd f s.mac.frameBuf ∧ t.rd CHN_RX_OK = (s.rd CHN_RX_OK + 1) % 2 ^ CHN_RX_OK.width := by
  dsimp only
  rw [State.chnReceive]
  cases s.tunedFor n sfd ends with
  | none => rfl
  | some x =>
    obtain ⟨k, freq, phy⟩ := x
    dsimp only
    cases hears : s.slotHears n k sfd with
    | false =>
      rw [if_pos (show (!false) = true from rfl), if_pos rfl]
      exact ⟨fun _ => rfl, rfl⟩
    | true =>
      rw [if_neg (show ¬(!true) = true by decide), if_neg (show ¬true = false by decide)]
      refine ⟨fun h => absurd (State.slotHears_deaf (n := n) h) (by rw [hears]; decide), ?_⟩
      by_cases bad : check = .badFcs
      · rw [if_pos bad, if_pos bad]
        exact ⟨State.rd_count_self _ _ _, (OnlyFields.refl _ s).wr _ (by simp), rfl, rfl⟩
      rw [if_neg bad, if_neg bad]
      have counted := s.slotCount_set (16 * n + 8) (c := (s.w32 0x03 (16 * n + 8) + 1) % 2 ^ 32) (Nat.mod_lt _ (by decide)) (rssi % 256)
        (lqi % 256)
      have mac : (s.setN 0x03 (16 * n + 8) 6 ((s.w32 0x03 (16 * n + 8) + 1) % 2 ^ 32 + 2 ^ 32 * (rssi % 256) + 2 ^ 40 * (lqi % 256))).mac =
        s.mac := rfl
      have rd (f : Field) : (s.setN 0x03 (16 * n + 8) 6
        ((s.w32 0x03 (16 * n + 8) + 1) % 2 ^ 32 + 2 ^ 32 * (rssi % 256) + 2 ^ 40 * (lqi % 256))).rd f = s.rd f := rfl
      generalize s.setN 0x03 (16 * n + 8) 6
        ((s.w32 0x03 (16 * n + 8) + 1) % 2 ^ 32 + 2 ^ 32 * (rssi % 256) + 2 ^ 40 * (lqi % 256)) = u at *
      have word {t : State} (h : t.win = u.win) : t.w32 0x03 (16 * n + 8) = (s.w32 0x03 (16 * n + 8) + 1) % 2 ^ 32 := by
        rw [← counted, State.w32, State.w32, State.wN_eq fun k _ => State.w8_congr h _ _]
      by_cases carry : check = .badCarry
      · rw [if_pos carry, if_pos carry]
        have kept := u.itgCarry_parts 0x04 0x03
        refine ⟨word (kept.frame .windows (by decide)), (kept.frame .mac (by decide)).trans mac, ?_,
          (kept.rd_eq CHN_RX_OK (by decide)).trans (rd _)⟩
        exact Noted.congr (State.noted_notice _ ITG_NOTE_CARRY (by decide))
          (State.rd_silt_ne _ _ _ _ _ _ (by decide) (by decide) (by decide))
      · rw [if_neg carry, if_neg carry]
        obtain ⟨win, rest⟩ := u.bufferFrame_spec ⟨n, k, freq, phy, sfd, ends, rssi, lqi, m⟩
        have copy : u.isDiversityCopy ⟨n, k, freq, phy, sfd, ends, rssi, lqi, m⟩ =
          s.isDiversityCopy ⟨n, k, freq, phy, sfd, ends, rssi, lqi, m⟩ := by rw [State.isDiversityCopy, State.isDiversityCopy, mac]
        rw [copy, mac, rd, rd, rd, Raises, rd] at rest
        exact ⟨word win, rest⟩

/-- Settles O15: a retune through the checks of the slots in ascending order, gain control and frames through their branches, a budget
through its number. -/
theorem radioFrontEnds : Obligations.RadioFrontEnds := by
  refine ⟨fun s port k freq lost work hk => ?_, fun s k att inFrame work hk => .working (u := s) rfl work ?_,
    fun s k att lost work hk => .working (u := s) rfl work (s.agcClip_spec k lost hk.2),
    fun s n sfd ends rssi lqi check m work _ => .working (u := s) rfl work (s.wakeSys.chnReceive_spec n sfd ends rssi lqi check m),
    fun s work => .working (u := s) rfl work ?_, fun s e ch b _ found => ⟨s.bucketAdvance e ch, rfl, ?_⟩⟩
  · obtain ⟨hk, small⟩ := hk
    refine .effect (u := s) rfl (by split <;> exact work) ?_
    generalize (if k = 0 then RFE_CHAIN0_FREQ else RFE_CHAIN1_FREQ).addr = a
    have mac := s.hostWrote_mac port false a
    have win := s.hostWrote_win port false a
    have now := s.moduleTime_hostWrote port false a
    have only : OnlyFields [NOTE_RAW 0x01, MSIX_PBA] s (s.hostWrote port false a) :=
      (OnlyFields.refl _ s).hostWrote port false a (by decide) (by decide)
    have centre (k : Nat) : (s.hostWrote port false a).chainFreq k = s.chainFreq k := by
      rw [State.chainFreq, State.chainFreq]
      split <;> exact only _ (by decide)
    have count := only CHN_LOST_BLANK (by decide)
    have enabled (n : Nat) : (s.hostWrote port false a).slotEnabled n = s.slotEnabled n := by
      rw [State.slotEnabled, State.slotEnabled, State.slotFlags, State.slotFlags, State.w8_congr win]
    generalize s.hostWrote port false a = u at *
    by_cases range : 792800 ≤ freq ∧ freq ≤ 946200
    · rw [if_pos range, State.retune_in range, centre]
      by_cases same : freq = s.chainFreq k
      · rw [if_pos same]
        exact ⟨(centre k).trans same.symm, centre _, fun _ => ⟨mac, win, count⟩, fun ne => absurd same ne⟩
      · rw [if_neg same]
        obtain ⟨new, other, deaf, lost', fits⟩ := u.retuned_checked lost hk small
        refine ⟨new, other.trans (centre _), fun e => absurd e same, fun _ => ⟨by rw [← now]; exact deaf, by rw [lost', count],
          fun n hn on => by rw [← enabled]; exact fits n hn on⟩⟩
    · rw [if_neg range, State.retune_out range]
      refine ⟨?_, State.noted_notice _ RFE_NOTE_CFG_ERR (by decide), (State.notice_win _ _).trans win⟩
      rw [← centre, State.chainFreq, State.chainFreq]
      split <;> exact State.rd_notice_ne _ RFE_NOTE_CFG_ERR (by decide) (by decide)
  · cases inFrame with
    | true => exact if_pos (.inl rfl)
    | false =>
      have is : s.agcStep k att false = s.wr (agcField k) att := if_neg (by simpa using hk.2)
      rw [is]
      exact ⟨State.rd_wr_of_lt _ (by rw [(agcField_apart k MSIX_PBA (by simp)).2]; have := hk.2; omega), (OnlyFields.refl _ s).wr _ (by simp)⟩
  · rw [State.regionTake]
    cases s.mac.regionNext with
    | none => rfl
    | some v => exact ⟨State.rd_wr_self _ _ _, rfl, (OnlyFields.of_regs rfl).wr _ (by simp)⟩
  · have no := findBudget_no found
    rw [State.bucketAdvance, found]
    obtain ⟨own, others⟩ := findBudget_putBudget s.mac.budgets { b with start := s.cal.pulses, buckets := (0 :: b.buckets).take 65 }
    dsimp only at own others
    rw [no] at own others
    exact ⟨own, others, rfl⟩

end Sys2Proof.Machine
end

section
/-! SUPPORT. The decision step on one request (O11). -/

namespace Sys2Proof.Machine

/-! ### What a grant leaves of the SYS page -/

/-- The pages SYS, HPN and TPR stand but for SYS's notices, of which that of a change of mode stands once it is set. -/
structure SysStands (s t : State) : Prop where
  rd : ∀ f : Field, f.page ∈ [0x00, 0x1C, 0x1D] → f.key ≠ (NOTE_RAW 0x00).key → t.rd f = s.rd f
  noted : Noted SYS_NOTE_MODE s → Noted SYS_NOTE_MODE t
  deferred : t.deferred = s.deferred

theorem SysStands.refl (s : State) : SysStands s s := ⟨fun _ _ _ => rfl, fun h => h, rfl⟩

theorem SysStands.trans {s t u : State} (h : SysStands s t) (k : SysStands t u) : SysStands s u :=
  ⟨fun f hf ne => (k.rd f hf ne).trans (h.rd f hf ne), fun n => k.noted (h.noted n), k.deferred.trans h.deferred⟩

/-- What touches none of the three pages leaves them as they are. -/
theorem SysStands.of_kept {s t : State} {m : Nat} (kept : Kept (Touches m) s t) (apart : ∀ b ∈ [7, 40, 68, 69], Nat.testBit m b = false) :
    SysStands s t := by
  have untouched {b : Nat} (hb : b ∈ [7, 40, 68, 69]) : ¬Touches m b := fun h => by
    rw [Touches, apart b hb] at h
    exact Bool.noConfusion h
  have same (f : Field) (hf : f.page ∈ [0x00, 0x1C, 0x1D]) : t.rd f = s.rd f := kept.rd_eq f (untouched (by
    simp only [List.mem_cons, List.not_mem_nil, or_false] at hf
    rcases hf with h | h | h <;> rw [Field.slot, h] <;> decide))
  exact ⟨fun f hf _ => same f hf, fun n => Noted.congr n (same _ (by decide)), kept.frame .deferred (untouched (by decide))⟩

theorem SysStands.of_regs {s t : State} (regs : t.regs = s.regs) (deferred : t.deferred = s.deferred) : SysStands s t :=
  ⟨fun f _ _ => State.rd_congr regs f, fun n => Noted.congr n (State.rd_congr regs _), deferred⟩

theorem SysStands.wr (s : State) {f : Field} (hf : f.page ∉ [0x00, 0x1C, 0x1D]) (v : Nat) : SysStands s (s.wr f v) := by
  have apart {g : Field} (hg : g.page ∈ [0x00, 0x1C, 0x1D]) : g.key ≠ f.key := fun e => hf (by rw [Field.page, ← e, ← Field.page]; exact hg)
  exact ⟨fun g hg _ => State.rd_wr_ne _ _ (apart hg), fun n => Noted.congr n (State.rd_wr_ne _ _ (apart (by decide))), rfl⟩

theorem msixPba_apart {f : Field} (hf : f.page ∈ [0x00, 0x1C, 0x1D]) : f.key ≠ MSIX_PBA.key := fun e => by
  rw [Field.page, e] at hf
  exact absurd hf (by decide)

/-- A notice of another page. -/
theorem SysStands.told (s : State) (n : Notice) (page : (NOTE_RAW n.page).page ∉ [0x00, 0x1C, 0x1D]) : SysStands s (s.notice n) := by
  have stands {f : Field} (hf : f.page ∈ [0x00, 0x1C, 0x1D]) : (s.notice n).rd f = s.rd f :=
    State.rd_notice_ne _ n (fun e => page (by rw [Field.page, ← e]; exact hf)) (msixPba_apart hf)
  exact ⟨fun f hf _ => stands hf, fun h => Noted.congr h (stands (by decide)), State.notice_deferred _ _⟩

/-- The notice of a change of mode. -/
theorem SysStands.changed (s : State) : SysStands s (s.notice SYS_NOTE_MODE) :=
  ⟨fun _ hf ne => State.rd_notice_ne _ SYS_NOTE_MODE ne (msixPba_apart hf), fun n => Noted.notice n SYS_NOTE_MODE rfl (by decide),
    State.notice_deferred _ _⟩

/-! ### The axes (R31) -/

theorem State.setSieve_axis (s : State) (v : SieveMode) :
    (s.setSieve v).modes = { s.modes with sieve := v } ∧ SysStands s (s.setSieve v) := by
  have is : s.setSieve v = if s.modes.sieve = v then s
      else if v = .full ∨ s.modes.sieve = .full then
        (State.notice { s with modes := { s.modes with sieve := v } } SYS_NOTE_MODE).dptFollow
      else State.notice { s with modes := { s.modes with sieve := v } } SYS_NOTE_MODE := rfl
  have noticed := SysStands.changed { s with modes := { s.modes with sieve := v } }
  have modes := State.notice_modes { s with modes := { s.modes with sieve := v } } SYS_NOTE_MODE
  have before : SysStands s { s with modes := { s.modes with sieve := v } } := .of_regs rfl rfl
  rw [is]
  generalize State.notice { s with modes := { s.modes with sieve := v } } SYS_NOTE_MODE = u at *
  split
  next same =>
    refine ⟨?_, SysStands.refl s⟩
    rw [← same]
  next =>
    split
    · have kept := State.dptFollow_kept (T := Touches 0x8020000000003) (.refl u) fun _ h => h
      exact ⟨(kept.frame .modes (by decide)).trans modes, (before.trans noticed).trans (.of_kept kept (by decide))⟩
    · exact ⟨modes, before.trans noticed⟩

theorem State.setGrog_axis (s : State) (v : GrogMode) :
    (s.setGrog v).modes = { s.modes with grog := v } ∧ SysStands s (s.setGrog v) := by
  rw [State.setGrog]
  split
  next same =>
    refine ⟨?_, SysStands.refl s⟩
    rw [← same]
  next =>
    have before : SysStands s { s with modes := { s.modes with grog := v } } := .of_regs rfl rfl
    exact ⟨State.notice_modes _ _, before.trans (.changed _)⟩

theorem State.putRole_axis (s : State) (r : Role) : (s.putRole r).modes = { s.modes with role := r } ∧ SysStands s (s.putRole r) := by
  have before : SysStands s { s.withClm s.clm.withdraw with modes := { s.modes with role := r } } := .of_regs rfl rfl
  have axis : State.modes { s.withClm s.clm.withdraw with modes := { s.modes with role := r } } = { s.modes with role := r } := rfl
  rw [State.putRole]
  generalize ({ s.withClm s.clm.withdraw with modes := { s.modes with role := r } } : State) = u at *
  have kept := State.dptFollow_kept (T := Touches 0x8020000000003) (.refl u) fun _ h => h
  exact ⟨(kept.frame .modes (by decide)).trans axis, before.trans (.of_kept kept (by decide))⟩

/-- A role that is not PRIMARY, as SYS_MODE, CLM's notices and its records tell it. -/
theorem State.setRole_axis (s : State) {r : Role} (other : r ≠ .primary) (cause : Nat) :
    (s.setRole r cause).modes = { s.modes with role := r } ∧ SysStands s (s.setRole r cause) := by
  rw [State.setRole]
  split
  next same =>
    refine ⟨?_, SysStands.refl s⟩
    rw [← same]
  next =>
    obtain ⟨modes, stands⟩ := s.putRole_axis r
    dsimp only
    rw [if_neg (fun h => other h.1)]
    generalize s.putRole r = u at *
    have noticed : SysStands s (u.notices [CLM_NOTE_ROLE, SYS_NOTE_MODE]) :=
      (stands.trans (.told u CLM_NOTE_ROLE (by decide))).trans (SysStands.changed _)
    have same : (u.notices [CLM_NOTE_ROLE, SYS_NOTE_MODE]).modes = { s.modes with role := r } :=
      (State.notice_modes _ _).trans ((State.notice_modes _ _).trans modes)
    generalize u.notices [CLM_NOTE_ROLE, SYS_NOTE_MODE] = v at *
    have recorded := State.clmRecord_kept (T := Touches 0x4440000020100003002) (.refl v) 1 s.modes.role.code r.code cause fun _ h => h
    generalize v.clmRecord 1 s.modes.role.code r.code cause = w at *
    have told := State.silt_kept (T := Touches 0x400000020100000002) (.refl w) 0x1B01 s.modes.role.code r.code cause (v.rd CLM_CLAIM) fun _ h => h
    generalize w.silt 0x1B01 s.modes.role.code r.code cause (v.rd CLM_CLAIM) = x at *
    have compared := State.compare_kept (T := Touches 0x80000000004000000) (.refl x) fun _ h => h
    refine ⟨?_, ((noticed.trans (.of_kept recorded (by decide))).trans (.of_kept told (by decide))).trans
      (.of_kept compared (by decide))⟩
    rw [compared.frame .modes (by decide), told.frame .modes (by decide), recorded.frame .modes (by decide), same]

/-! ### Forced stops (R31) -/

theorem State.forced_stands (s : State) (v : ModeValue) (by_ : Nat) : (s.forced v by_).modes = s.modes ∧ SysStands s (s.forced v by_) := by
  have kept := State.forced_kept (T := Touches 0x400000020100000002) (.refl s) v by_ fun _ h => h
  exact ⟨kept.frame .modes (by decide), .of_kept kept (by decide)⟩

theorem State.sivStop_stands (s : State) : s.sivStop.modes = s.modes ∧ SysStands s s.sivStop := by
  have kept := State.sivStop_kept (T := Touches 0x4c70000120120407c12) (.refl s) fun _ h => h
  exact ⟨kept.frame .modes (by decide), .of_kept kept (by decide)⟩

/-- Sieve stopped, its suspension forgotten, and the axis at OFF. -/
theorem State.sivOff_axis (s : State) : ((s.sivStop.wr SIV_STATUS_SUSPENDED 0).setSieve .off).modes = { s.modes with sieve := .off } ∧
    SysStands s ((s.sivStop.wr SIV_STATUS_SUSPENDED 0).setSieve .off) := by
  obtain ⟨modes, stands⟩ := s.sivStop_stands
  obtain ⟨axis, off⟩ := (s.sivStop.wr SIV_STATUS_SUSPENDED 0).setSieve_axis .off
  exact ⟨by rw [axis, State.wr_modes, modes], (stands.trans (.wr _ (by decide) 0)).trans off⟩

theorem State.sivForceOff_axis (s : State) (by_ : Nat) :
    (s.sivForceOff by_).modes = { s.modes with sieve := .off } ∧ SysStands s (s.sivForceOff by_) := by
  rw [State.sivForceOff]
  split
  next off =>
    refine ⟨?_, SysStands.refl s⟩
    rw [Bool.and_eq_true, decide_eq_true_iff] at off
    rw [← off.1]
  next =>
    obtain ⟨axis, stands⟩ := s.sivOff_axis
    obtain ⟨modes, told⟩ := ((s.sivStop.wr SIV_STATUS_SUSPENDED 0).setSieve .off).forced_stands (.sieve .off) by_
    exact ⟨modes.trans axis, stands.trans told⟩

theorem State.stageFail_axis (s : State) (cause : Nat) : ((s.stageFail cause).setGrog .idle).modes = { s.modes with grog := .idle } ∧
    SysStands s ((s.stageFail cause).setGrog .idle) := by
  have failed : { (s.stageFail cause).modes with grog := .idle } = { s.modes with grog := .idle } ∧ SysStands s (s.stageFail cause) := by
    rw [State.stageFail]
    split
    · exact ⟨rfl, .of_regs rfl rfl⟩
    next h _ =>
      dsimp only
      have cleared : SysStands s { s with grg := { s.grg with header := none, map := [], asking := none } } := .of_regs rfl rfl
      have same : State.modes { s with grg := { s.grg with header := none, map := [], asking := none } } = s.modes := rfl
      generalize ({ s with grg := { s.grg with header := none, map := [], asking := none } } : State) = q at *
      have written : SysStands s (q.wrAll [(GRG_STAGE_STAT_STATE, 3), (GRG_STAGE_STAT_RESULT, cause)]) :=
        (cleared.trans (.wr q (f := GRG_STAGE_STAT_STATE) (by decide) 3)).trans (.wr _ (f := GRG_STAGE_STAT_RESULT) (by decide) cause)
      have alike : (q.wrAll [(GRG_STAGE_STAT_STATE, 3), (GRG_STAGE_STAT_RESULT, cause)]).modes = s.modes := same
      generalize q.wrAll [(GRG_STAGE_STAT_STATE, 3), (GRG_STAGE_STAT_RESULT, cause)] = u at *
      obtain ⟨axis, idle⟩ := u.setGrog_axis .idle
      generalize u.setGrog .idle = v at *
      have told := (v.notice GRG_NOTE_STAGE_FAIL).grgEvent_parts 4 h.target cause cause h.version
      refine ⟨?_, ((written.trans idle).trans (.told v GRG_NOTE_STAGE_FAIL (by decide))).trans (.of_kept told (by decide))⟩
      rw [told.frame .modes (by decide), State.notice_modes, axis, alike]
  obtain ⟨modes, stands⟩ := failed
  obtain ⟨axis, idle⟩ := (s.stageFail cause).setGrog_axis .idle
  exact ⟨axis.trans modes, stands.trans idle⟩

theorem State.grgForceIdle_axis (s : State) (by_ : Nat) :
    (s.grgForceIdle by_).modes = { s.modes with grog := .idle } ∧ SysStands s (s.grgForceIdle by_) := by
  rw [State.grgForceIdle]
  split
  next idle =>
    refine ⟨?_, SysStands.refl s⟩
    rw [← idle]
  next =>
    obtain ⟨modes, told⟩ := s.forced_stands (.grog .idle) by_
    dsimp only
    split
    · obtain ⟨axis, stands⟩ := (s.forced (.grog .idle) by_).stageFail_axis 0
      exact ⟨by rw [axis, modes], told.trans stands⟩
    · obtain ⟨axis, stands⟩ := (s.forced (.grog .idle) by_).setGrog_axis .idle
      exact ⟨by rw [axis, modes], told.trans stands⟩

/-! ### The step on one request (R35) -/

theorem inAxisOrder_one (q : ModeReq) : inAxisOrder [(q, false)] = [(q, false)] := by
  obtain ⟨v, c, o⟩ := q
  cases v <;> rfl

theorem State.campaignHalt_parts (s : State) : ∃ g, s.campaignHalt = { s with grg := g } := by
  rw [State.campaignHalt]
  split
  · exact ⟨_, rfl⟩
  · exact ⟨s.grg, rfl⟩

/-- The state in which a lone request is decided. -/
abbrev State.unasked (s : State) : State := { s with modeReqs := [], modeWaiting := [] }

theorem State.decide_one {s : State} {q : ModeReq} (may : s.mayDecide = true) (waiting : s.modeWaiting = []) (reqs : s.modeReqs = [q]) :
    s.decide = (s.unasked.decideOne q false).campaignHalt := by
  rw [State.decide, if_neg (by rw [may]; exact Bool.false_ne_true), waiting, reqs]
  show State.campaignHalt (List.foldl _ _ (inAxisOrder [(q, false)])) = _
  rw [inAxisOrder_one]
  rfl

/-- A lone request is decided; what a campaign that halts changes is in Grog alone. -/
theorem State.decides_one {s : State} {q : ModeReq} {P : State → Prop} (may : s.mayDecide = true) (waiting : s.modeWaiting = [])
    (reqs : s.modeReqs = [q]) (undeferred : (s.unasked.decideOne q false).deferred = [])
    (post : ∀ g, P { s.unasked.decideOne q false with grg := g }) : Completes .modeDecisionStep s P := by
  obtain ⟨g, halted⟩ := (s.unasked.decideOne q false).campaignHalt_parts
  have is : s.decide.flushDeferred = { s.unasked.decideOne q false with grg := g } := by
    rw [State.decide_one may waiting reqs, halted, State.flushDeferred_nil (by exact undeferred)]
  refine ⟨s.decide.flushDeferred, rfl, ?_⟩
  rw [is]
  exact post g

theorem State.decide_idle {s : State} (reqs : s.modeReqs = []) (waiting : s.modeWaiting = []) (halted : s.grg.campaign = none) :
    s.decide = s := by
  have same : s.unasked = s := by
    cases s
    cases reqs
    cases waiting
    rfl
  rw [State.decide]
  split
  · rfl
  · rw [reqs, waiting]
    show s.unasked.campaignHalt = s
    rw [same, State.campaignHalt, halted]
    rfl

/-! ### SYS_REQ_STAT (R34) -/

/-- What a request shows that has been decided. -/
structure Answered (axis blocker result : Nat) (s t : State) : Prop where
  axis : t.rd SYS_REQ_STAT_AXIS = axis
  blocker : t.rd SYS_REQ_STAT_BLOCKER = blocker
  result : t.rd SYS_REQ_STAT_RESULT = result
  refusals : t.rd SYS_REQ_STAT_REFUSALS = s.rd SYS_REQ_STAT_REFUSALS
  parts : ∃ m, t = { s with regs := m }
  note : ∀ p, t.rd (NOTE_RAW p) = s.rd (NOTE_RAW p)

theorem State.reqStat_answered (s : State) {axis blocker result : Nat} (ha : axis < 8) (hb : blocker < 8) (hr : result < 4) :
    Answered axis blocker result s (s.reqStat axis blocker result) := by
  have is : s.reqStat axis blocker result =
      ((s.wr SYS_REQ_STAT_AXIS axis).wr SYS_REQ_STAT_BLOCKER blocker).wr SYS_REQ_STAT_RESULT result := rfl
  have raw (p : Nat) : (NOTE_RAW p).key ≠ SYS_REQ_STAT_AXIS.key ∧ (NOTE_RAW p).key ≠ SYS_REQ_STAT_BLOCKER.key ∧
      (NOTE_RAW p).key ≠ SYS_REQ_STAT_RESULT.key := by
    simp only [Field.key]
    omega
  refine ⟨?_, ?_, ?_, ?_, State.wrAll_parts _ _, fun p => ?_⟩ <;> rw [is]
  · rw [State.rd_wr_ne _ _ (by decide), State.rd_wr_ne _ _ (by decide), State.rd_wr_self]
    exact Nat.mod_eq_of_lt ha
  · rw [State.rd_wr_ne _ _ (by decide), State.rd_wr_self]
    exact Nat.mod_eq_of_lt hb
  · rw [State.rd_wr_self]
    exact Nat.mod_eq_of_lt hr
  · rw [State.rd_wr_ne _ _ (by decide), State.rd_wr_ne _ _ (by decide), State.rd_wr_ne _ _ (by decide)]
  · obtain ⟨a, b, c⟩ := raw p
    rw [State.rd_wr_ne _ _ c, State.rd_wr_ne _ _ b, State.rd_wr_ne _ _ a]

/-- R34: a request that the rules refuse. -/
theorem State.refuseCode_spec (s : State) {axis blocker : Nat} (code : Nat) (ha : axis < 8) (hb : blocker < 8) :
    let t := s.refuseCode axis blocker code
    t.rd SYS_REQ_STAT_AXIS = axis ∧ t.rd SYS_REQ_STAT_BLOCKER = blocker ∧ t.rd SYS_REQ_STAT_RESULT = 3 ∧
      t.rd SYS_REQ_STAT_REFUSALS = (s.rd SYS_REQ_STAT_REFUSALS + 1) % 2 ^ SYS_REQ_STAT_REFUSALS.width ∧
      Raises SYS_NOTE_REFUSED s t ∧ Records 0x0003 axis blocker code 0 s t := by
  obtain ⟨axisIs, blockerIs, resultIs, refusals, ⟨m, parts⟩, note⟩ := s.reqStat_answered ha hb (by decide : 3 < 4)
  have is : s.refuseCode axis blocker code =
      (((s.reqStat axis blocker 3).count SYS_REQ_STAT_REFUSALS 1).notice SYS_NOTE_REFUSED).silt 0x0003 axis blocker code := rfl
  have osf : (s.reqStat axis blocker 3).rd RTC_STATUS_OSF = s.rd RTC_STATUS_OSF := by
    show (((s.wr SYS_REQ_STAT_AXIS axis).wr SYS_REQ_STAT_BLOCKER blocker).wr SYS_REQ_STAT_RESULT 3).rd _ = _
    rw [State.rd_wr_ne _ _ (by decide), State.rd_wr_ne _ _ (by decide), State.rd_wr_ne _ _ (by decide)]
  dsimp only
  rw [is]
  have intake : (s.reqStat axis blocker 3).siltIntake = s.siltIntake := by rw [parts]
  have cal : (s.reqStat axis blocker 3).cal = s.cal := by rw [parts]
  have domains : (s.reqStat axis blocker 3).domains = s.domains := by rw [parts]
  have startup : (s.reqStat axis blocker 3).startup = s.startup := by rw [parts]
  generalize s.reqStat axis blocker 3 = u at *
  have told {f : Field} (page : f.page = 0x00) (ne : f.key ≠ (NOTE_RAW 0x00).key) :
      (((u.count SYS_REQ_STAT_REFUSALS 1).notice SYS_NOTE_REFUSED).silt 0x0003 axis blocker code).rd f =
        (u.count SYS_REQ_STAT_REFUSALS 1).rd f := by
    have other {g : Field} (hg : g.page ≠ 0x00) : f.key ≠ g.key := fun e => hg (by rw [Field.page, ← e, ← Field.page, page])
    rw [State.rd_silt_ne _ _ _ _ _ _ (other (by decide)) (other (by decide)) (other (by decide)),
      State.rd_notice_ne _ SYS_NOTE_REFUSED ne (other (by decide))]
  refine ⟨?_, ?_, ?_, ?_, ?_, ?_⟩
  · rw [told rfl (by decide), State.rd_count_ne _ _ (by decide), axisIs]
  · rw [told rfl (by decide), State.rd_count_ne _ _ (by decide), blockerIs]
  · rw [told rfl (by decide), State.rd_count_ne _ _ (by decide), resultIs]
  · rw [told rfl (by decide), State.rd_count_self, refusals]
  · have counted : (u.count SYS_REQ_STAT_REFUSALS 1).rd (NOTE_RAW 0x00) = s.rd (NOTE_RAW 0x00) :=
      (State.rd_count_ne _ _ (by decide)).trans (note 0x00)
    have raised : Raises SYS_NOTE_REFUSED s ((u.count SYS_REQ_STAT_REFUSALS 1).notice SYS_NOTE_REFUSED) :=
      (State.raises_notice _ SYS_NOTE_REFUSED (by decide)).of_rd counted
    generalize (u.count SYS_REQ_STAT_REFUSALS 1).notice SYS_NOTE_REFUSED = w at *
    exact Eq.trans (State.rd_silt_ne _ _ _ _ _ _ (by decide) (by decide) (by decide)) raised
  · refine Records.of_before (State.silt_records _ _ _ _ _ _) ?_ ?_ ?_ ?_ ?_
    · exact (State.notice_siltIntake _ _).trans intake
    · exact (State.notice_cal _ _).trans cal
    · exact (State.notice_domains _ _).trans domains
    · exact (State.rd_notice_ne _ SYS_NOTE_REFUSED (by decide) (by decide)).trans ((State.rd_count_ne _ _ (by decide)).trans osf)
    · exact (State.notice_startup _ _).trans startup

/-- R34: a request that must wait. -/
theorem State.waitStat_spec (s : State) (q : ModeReq) {b : Nat} (ha : q.value.axis < 8) (hb : b < 8) : let t := s.waitStat q false b
    t.rd SYS_REQ_STAT_AXIS = q.value.axis ∧ t.rd SYS_REQ_STAT_BLOCKER = b ∧ t.rd SYS_REQ_STAT_RESULT = 2 ∧ Raises SYS_NOTE_WAITING s t ∧
      t.modes = s.modes ∧ t.modeReqs = s.modeReqs ∧ t.modeWaiting = s.modeWaiting ++ [q] ∧ t.deferred = s.deferred := by
  obtain ⟨axisIs, blockerIs, resultIs, -, ⟨m, parts⟩, note⟩ :=
    State.reqStat_answered { s with modeWaiting := s.modeWaiting ++ [q] } ha hb (by decide : 2 < 4)
  have is : s.waitStat q false b = (State.reqStat { s with modeWaiting := s.modeWaiting ++ [q] } q.value.axis b 2).notice SYS_NOTE_WAITING := rfl
  dsimp only
  rw [is]
  refine ⟨?_, ?_, ?_, (State.raises_notice _ SYS_NOTE_WAITING (by decide)).of_rd (note 0x00), ?_, ?_, ?_, ?_⟩
  · exact (State.rd_notice_ne _ SYS_NOTE_WAITING (by decide) (by decide)).trans axisIs
  · exact (State.rd_notice_ne _ SYS_NOTE_WAITING (by decide) (by decide)).trans blockerIs
  · exact (State.rd_notice_ne _ SYS_NOTE_WAITING (by decide) (by decide)).trans resultIs
  · rw [State.notice_modes, parts]
  · rw [State.notice_modeReqs, parts]
  · rw [State.notice_modeWaiting, parts]
  · rw [State.notice_deferred, parts]

/-! ### A power state (R31, R59) -/

/-- The SYS page and the power axis stand. -/
abbrev PowerStands (s t : State) : Prop := t.modes.power = s.modes.power ∧ SysStands s t

theorem PowerStands.trans {s t u : State} (h : PowerStands s t) (k : PowerStands t u) : PowerStands s u :=
  ⟨k.1.trans h.1, h.2.trans k.2⟩

theorem PowerStands.of_kept {s t : State} {m : Nat} (kept : Kept (Touches m) s t) (apart : ∀ b ∈ [3, 7, 40, 68, 69], Nat.testBit m b = false) :
    PowerStands s t :=
  ⟨congrArg Modes.power (kept.frame .modes fun h : Nat.testBit m 3 = true => by rw [apart 3 (by decide)] at h; exact Bool.noConfusion h),
    .of_kept kept fun b hb => apart b (List.mem_cons_of_mem 3 hb)⟩

theorem State.setSieve_power (s : State) (v : SieveMode) : PowerStands s (s.setSieve v) := by
  obtain ⟨axis, stands⟩ := s.setSieve_axis v
  exact ⟨by rw [axis], stands⟩

theorem State.sivSuspend_power (s : State) (by_ : Nat) : PowerStands s (s.sivSuspend by_) := by
  rw [State.sivSuspend]
  split
  · obtain ⟨power, stands⟩ := s.setSieve_power .off
    obtain ⟨modes, told⟩ := ((s.setSieve .off).wr SIV_STATUS_SUSPENDED 1).forced_stands (.sieve .off) by_
    exact ⟨(congrArg Modes.power modes).trans power, (stands.trans (.wr _ (by decide) 1)).trans told⟩
  · exact ⟨rfl, .refl s⟩

theorem State.sivResume_power (s : State) : PowerStands s s.sivResume := by
  rw [State.sivResume]
  split
  · obtain ⟨power, stands⟩ := (s.wr SIV_STATUS_SUSPENDED 0).setSieve_power .sliced
    exact ⟨power, (SysStands.wr s (by decide) 0).trans stands⟩
  · exact ⟨rfl, .refl s⟩

theorem State.slotsReturn_power (s : State) : PowerStands s s.domainsRun.slotBack := by
  have runs : PowerStands s s.domainsRun := .of_kept (State.domainsRun_kept (T := Touches 0x400000000) (.refl s) fun _ h => h) (by decide)
  generalize s.domainsRun = u at *
  exact runs.trans (.of_kept (State.slotBack_kept (T := Touches 0xa0000004003) (.refl u) fun _ h => h) (by decide))

/-- What DOZE does to the units. -/
theorem State.dozes_power (s : State) : PowerStands s (s.slotToMac.lpiForce.linkSleeps.sivSuspend 2) := by
  have slot : PowerStands s s.slotToMac := .of_kept (State.slotToMac_kept (T := Touches 0x4001) (.refl s) fun _ h => h) (by decide)
  generalize s.slotToMac = u at *
  have idle : PowerStands u u.lpiForce := .of_kept (State.lpiForce_kept (T := Touches 0x7e00000000000000) (.refl u) fun _ h => h) (by decide)
  generalize u.lpiForce = v at *
  have link : PowerStands v v.linkSleeps := .of_kept (State.linkSleeps_kept (T := Touches 0x400000000) (.refl v) fun _ h => h) (by decide)
  exact ((slot.trans idle).trans link).trans (v.linkSleeps.sivSuspend_power 2)

/-- What a power state does to the units. -/
def State.powerUnits (s : State) (v : Power) : State :=
  match v with
  | .quiet => s.clkClamp
  | .doze => s.slotToMac.lpiForce.linkSleeps.sivSuspend 2
  | _ => s

/-- The exit from DOZE. -/
def State.slotsReturn (s : State) (doze : Prop) [Decidable doze] : State := if doze then s.domainsRun.slotBack else s

theorem State.powerUnits_power (s : State) (v : Power) : PowerStands s (s.powerUnits v) := by
  cases v with
  | quiet =>
    have clamped : PowerStands s s.clkClamp :=
      .of_kept (State.clkClamp_kept (T := Touches 0x100000000000000) (.refl s) fun _ h => h) (by decide)
    rw [State.powerUnits]
    exact clamped
  | doze =>
    rw [State.powerUnits]
    exact s.dozes_power
  | run =>
    rw [State.powerUnits]
    · exact ⟨rfl, .refl s⟩
    all_goals exact fun h => by cases h
  | hold =>
    rw [State.powerUnits]
    · exact ⟨rfl, .refl s⟩
    all_goals exact fun h => by cases h

theorem State.slotsReturn_stands (s : State) (doze : Prop) [Decidable doze] : PowerStands s (s.slotsReturn doze) := by
  rw [State.slotsReturn]
  split
  · exact s.slotsReturn_power
  · exact ⟨rfl, .refl s⟩

theorem State.grantPower_eq {s : State} {v : Power} (new : s.modes.power ≠ v) (other : v ≠ .hold) :
    s.grantPower v = (((State.modeChanged { s with modes := { s.modes with power := v } }).slotsReturn (s.modes.power = .doze)).powerUnits v).sivResume := by
  simp only [State.grantPower, new, other, if_false]
  cases v <;> rfl

/-- RUN, QUIET and DOZE. -/
theorem State.grantPower_running (s : State) {v : Power} (other : v ≠ .hold) :
    SysStands s (s.grantPower v) ∧ (s.grantPower v).modes.power = v ∧ (v ≠ s.modes.power → Noted SYS_NOTE_MODE (s.grantPower v)) := by
  by_cases new : s.modes.power = v
  · have is : s.grantPower v = s := by
      rw [State.grantPower]
      exact if_pos new
    rw [is]
    exact ⟨.refl s, new, fun ne => absurd new.symm ne⟩
  rw [State.grantPower_eq new other, State.modeChanged]
  have before : SysStands s { s with modes := { s.modes with power := v } } := .of_regs rfl rfl
  have power : State.modes { s with modes := { s.modes with power := v } } = { s.modes with power := v } := rfl
  generalize ({ s with modes := { s.modes with power := v } } : State) = u at *
  have changed := before.trans (.changed u)
  have noted := State.noted_notice u SYS_NOTE_MODE (by decide)
  have same : (u.notice SYS_NOTE_MODE).modes.power = v := by rw [State.notice_modes, power]
  generalize u.notice SYS_NOTE_MODE = w at *
  obtain ⟨axis, stands⟩ := ((w.slotsReturn_stands (s.modes.power = .doze)).trans (State.powerUnits_power _ v)).trans (State.sivResume_power _)
  exact ⟨changed.trans stands, axis.trans same, fun _ => stands.noted noted⟩

/-- What all units but the registers show in HOLD by request. -/
def State.askedHold (s : State) : State := s.schSave.emuSave.clearPorts.clearIntake.intoHold true

theorem State.rd_holdRegs_ne (s : State) {f : Field} (hf : f.page = 0x00) (ready : f.key ≠ SYS_STATUS_READY.key) :
    (s.wrAll holdRegs).rd f = s.rd f := by
  have other {g : Field} (hg : g.page ≠ 0x00) : f.key ≠ g.key := fun e => hg (by rw [Field.page, ← e, ← Field.page, hf])
  rw [holdRegs, State.wrAll_cons, State.wrAll_cons, State.wrAll_cons, State.wrAll_nil, State.rd_wr_ne _ _ (other (by decide)),
    State.rd_wr_ne _ _ (other (by decide)), State.rd_wr_ne _ _ ready]

/-- HOLD by request (R43): the axis, the phase, and what SYS_REQ_STAT shows. -/
theorem State.holdOnRequest_spec (s : State) : let t := s.holdOnRequest
    t.modes.power = .hold ∧ t.startup.phase = .hold ∧ t.startup.holdByRequest = true ∧ t.deferred = [] ∧
      t.rd SYS_REQ_STAT_AXIS = s.rd SYS_REQ_STAT_AXIS ∧ t.rd SYS_REQ_STAT_RESULT = s.rd SYS_REQ_STAT_RESULT := by
  have stands : SysStands s (((s.resign 2).discardHeld).sivForceOff 2).saveAbandon.siltDrain := by
    have resigned : SysStands s (s.resign 2) := .of_kept (State.resign_kept (T := Touches 0x80000400004000002) (.refl s) 2 fun _ h => h) (by decide)
    generalize s.resign 2 = u at *
    have discarded : SysStands u u.discardHeld := .of_kept (State.discardHeld_kept (T := Touches 0x54c0008060144007003) (.refl u) fun _ h => h) (by decide)
    generalize u.discardHeld = v at *
    obtain ⟨-, stopped⟩ := v.sivForceOff_axis 2
    generalize v.sivForceOff 2 = w at *
    have left : SysStands w w.saveAbandon := .of_kept (State.saveAbandon_kept (T := Touches 0x80000000) (.refl w) fun _ h => h) (by decide)
    generalize w.saveAbandon = x at *
    have drained : SysStands x x.siltDrain := .of_kept (State.siltDrain_kept (T := Touches 0x4440000020300003002) (.refl x) fun _ h => h) (by decide)
    exact (((resigned.trans discarded).trans stopped).trans left).trans drained
  have is : s.holdOnRequest = (((s.resign 2).discardHeld).sivForceOff 2).saveAbandon.siltDrain.pasOff.askedHold.wrAll holdRegs := rfl
  dsimp only
  rw [is]
  generalize (((s.resign 2).discardHeld).sivForceOff 2).saveAbandon.siltDrain = u at *
  have off : SysStands u u.pasOff := .of_kept (State.pasOff_kept (T := Touches 0x40000004000) (.refl u) fun _ h => h) (by decide)
  have held := stands.trans off
  generalize u.pasOff = v at *
  have regs : v.askedHold.regs = v.regs := rfl
  have power : v.askedHold.modes.power = .hold := rfl
  have phase : v.askedHold.startup.phase = .hold := rfl
  have asked : v.askedHold.startup.holdByRequest = true := rfl
  have none : v.askedHold.deferred = [] := rfl
  generalize v.askedHold = w at *
  have shown {f : Field} (page : f.page = 0x00) (ready : f.key ≠ SYS_STATUS_READY.key) (note : f.key ≠ (NOTE_RAW 0x00).key) :
      (w.wrAll holdRegs).rd f = s.rd f :=
    (w.rd_holdRegs_ne page ready).trans ((State.rd_congr regs f).trans (held.rd f (by rw [page]; decide) note))
  obtain ⟨m, parts⟩ := w.wrAll_parts holdRegs
  have axis := shown (f := SYS_REQ_STAT_AXIS) rfl (by decide) (by decide)
  have result := shown (f := SYS_REQ_STAT_RESULT) rfl (by decide) (by decide)
  rw [parts] at axis result ⊢
  exact ⟨power, phase, asked, none, axis, result⟩

theorem State.powerVerdict_blocker {s : State} {v : Power} {b : Nat} (h : s.powerVerdict v = .wait b ∨ s.powerVerdict v = .refuse b) : b < 8 := by
  rw [State.powerVerdict] at h
  repeat' split at h
  all_goals rcases h with h | h <;> cases h <;> decide

theorem State.abandonSwap_holds {s : State} {h : Handover} (is : s.clm.swap = some h) :
    Asks (.role (if !h.giving && h.sent then .primary else h.before)) s.abandonSwap := by
  rw [State.abandonSwap, is]
  exact State.asks_request s.dropSwap _

theorem State.request_reqs (s : State) (q : ModeReq) : ∃ r, s.request q = { s with modeReqs := r } := by
  rw [State.request]
  split
  · exact ⟨s.modeReqs, rfl⟩
  · exact ⟨_, rfl⟩

theorem State.abandonSwap_parts (s : State) : ∃ c r, s.abandonSwap = { s with clm := c, modeReqs := r } := by
  rw [State.abandonSwap]
  split
  next => exact ⟨s.clm, s.modeReqs, rfl⟩
  next h _ =>
    obtain ⟨r, is⟩ := s.dropSwap.request_reqs ⟨.role (if !h.giving && h.sent then .primary else h.before), 5, 0⟩
    exact ⟨_, r, is⟩

/-- What the refusal of a power request tells. -/
theorem State.refuseStat_power (s : State) (v : Power) {b : Nat} (hb : b < 8) : let t := s.refuseStat (.power v) b
    t.rd SYS_REQ_STAT_AXIS = 2 ∧ t.rd SYS_REQ_STAT_BLOCKER = b ∧ t.rd SYS_REQ_STAT_RESULT = 3 ∧
      t.rd SYS_REQ_STAT_REFUSALS = (s.rd SYS_REQ_STAT_REFUSALS + 1) % 2 ^ SYS_REQ_STAT_REFUSALS.width ∧
      Raises SYS_NOTE_REFUSED s t ∧ Records 0x0003 2 b v.code 0 s t := s.refuseCode_spec v.code (by decide : 2 < 8) hb

/-- What a power request leaves behind that is refused, and what follows in HOLD's case. -/
theorem State.refusePower_spec (s : State) (v : Power) {b : Nat} (hb : b < 8) :
    let t := if v = .hold ∧ (s.refuseStat (.power v) b).modes.role = .swapping then (s.refuseStat (.power v) b).abandonSwap
      else s.refuseStat (.power v) b
    (t.rd SYS_REQ_STAT_AXIS = 2 ∧ t.rd SYS_REQ_STAT_BLOCKER = b ∧ t.rd SYS_REQ_STAT_RESULT = 3 ∧
      t.rd SYS_REQ_STAT_REFUSALS = (s.rd SYS_REQ_STAT_REFUSALS + 1) % 2 ^ SYS_REQ_STAT_REFUSALS.width ∧
      Raises SYS_NOTE_REFUSED s t ∧ Records 0x0003 2 b v.code 0 s t) ∧ t.modes = s.modes ∧ t.modeWaiting = s.modeWaiting ∧
      t.deferred = s.deferred ∧
      if v = .hold ∧ s.modes.role = .swapping then
        t.clm.swap = none ∧ ∀ h ∈ s.clm.swap, Asks (.role (if !h.giving && h.sent then .primary else h.before)) t
      else t.modeReqs = s.modeReqs := by
  have told := s.refuseStat_power v hb
  have kept : Kept (Touches 0x400000030100000002) s (s.refuseStat (.power v) b) :=
    State.refuseCode_kept (T := Touches 0x400000030100000002) (.refl s) 2 b v.code fun _ h => h
  dsimp only
  generalize s.refuseStat (.power v) b = u at *
  have modes : u.modes = s.modes := kept.frame .modes (by decide)
  have waiting : u.modeWaiting = s.modeWaiting := kept.frame .modeWaiting (by decide)
  have deferred : u.deferred = s.deferred := kept.frame .deferred (by decide)
  have clm : u.clm = s.clm := kept.frame .clm (by decide)
  rw [modes]
  split
  · have asks (h : Handover) (mem : h ∈ s.clm.swap) : Asks (.role (if !h.giving && h.sent then .primary else h.before)) u.abandonSwap :=
      State.abandonSwap_holds (by rw [clm]; exact mem)
    have gone := u.abandonSwap_swap
    obtain ⟨c, r, parts⟩ := u.abandonSwap_parts
    rw [parts] at asks gone ⊢
    exact ⟨told, modes, waiting, deferred, gone, asks⟩
  · exact ⟨told, modes, waiting, deferred, kept.frame .modeReqs (by decide)⟩

/-- What the decision of a power request leaves of the state that it is taken in. -/
def PowerDecided (v : Power) (q : ModeReq) (s t : State) : Prop :=
  t.rd SYS_REQ_STAT_AXIS = 2 ∧
    match s.powerVerdict v with
    | .refuse b =>
      t.modes = s.modes ∧ t.rd SYS_REQ_STAT_BLOCKER = b ∧ t.rd SYS_REQ_STAT_RESULT = 3 ∧
      t.rd SYS_REQ_STAT_REFUSALS = (s.rd SYS_REQ_STAT_REFUSALS + 1) % 2 ^ SYS_REQ_STAT_REFUSALS.width ∧
      Raises SYS_NOTE_REFUSED s t ∧ Records 0x0003 2 b v.code 0 s t ∧ t.modeWaiting = [] ∧
      if v = .hold ∧ s.modes.role = .swapping then t.clm.swap = none ∧ ∀ h ∈ s.clm.swap, Asks (.role (if !h.giving && h.sent then .primary else h.before)) t
      else t.modeReqs = []
    | .wait b =>
      t.modes = s.modes ∧ t.rd SYS_REQ_STAT_BLOCKER = b ∧ t.rd SYS_REQ_STAT_RESULT = 2 ∧ Raises SYS_NOTE_WAITING s t ∧
      t.modeReqs = [] ∧ t.modeWaiting = [q]
    | .grant =>
      t.rd SYS_REQ_STAT_RESULT = 1 ∧ (v ≠ .hold → t.modes.power = v ∧ (v ≠ s.modes.power → Noted SYS_NOTE_MODE t)) ∧
      (v = .hold → s.modes.power ≠ .hold → t.modes.power = .hold ∧ t.startup.phase = .hold ∧ t.startup.holdByRequest = true)

theorem PowerDecided.of_grg {v : Power} {q : ModeReq} {s t : State} (h : PowerDecided v q s t) (g : GrgUnit) :
    PowerDecided v q s { t with grg := g } := h

/-- A power state is granted (R31). -/
theorem State.grantPower_answers (s : State) (v : Power) : let t := (s.grantStat 2).grantPower v
    t.rd SYS_REQ_STAT_AXIS = 2 ∧ t.rd SYS_REQ_STAT_RESULT = 1 ∧ (s.deferred = [] → t.deferred = []) ∧
      (v ≠ .hold → t.modes.power = v ∧ (v ≠ s.modes.power → Noted SYS_NOTE_MODE t)) ∧
      (v = .hold → s.modes.power ≠ .hold → t.modes.power = .hold ∧ t.startup.phase = .hold ∧ t.startup.holdByRequest = true) := by
  obtain ⟨axis, -, result, -, ⟨m, parts⟩, -⟩ := s.reqStat_answered (by decide : 2 < 8) (by decide : 7 < 8) (by decide : 1 < 4)
  rw [State.grantStat]
  have modes : (s.reqStat 2 7 1).modes = s.modes := by rw [parts]
  have deferred : (s.reqStat 2 7 1).deferred = s.deferred := by rw [parts]
  dsimp only
  generalize s.reqStat 2 7 1 = u at *
  by_cases other : v = .hold
  · subst other
    by_cases already : u.modes.power = .hold
    · have is : u.grantPower .hold = u := by
        rw [State.grantPower]
        exact if_pos already
      rw [is]
      exact ⟨axis, result, fun none => deferred.trans none, fun ne => absurd rfl ne,
        fun _ ne => absurd ((congrArg Modes.power modes).symm.trans already) ne⟩
    · have is : u.grantPower .hold = u.holdOnRequest := by
        simp only [State.grantPower, already, if_false, if_true]
      obtain ⟨power, phase, asked, none, shownAxis, shownResult⟩ := u.holdOnRequest_spec
      rw [is]
      exact ⟨shownAxis.trans axis, shownResult.trans result, fun _ => none, fun ne => absurd rfl ne, fun _ _ => ⟨power, phase, asked⟩⟩
  · obtain ⟨stands, power, noted⟩ := u.grantPower_running other
    exact ⟨(stands.rd _ (by decide) (by decide)).trans axis, (stands.rd _ (by decide) (by decide)).trans result,
      fun none => stands.deferred.trans (deferred.trans none), fun _ => ⟨power, fun ne => noted (by rw [modes]; exact ne)⟩,
      fun is => absurd is other⟩

/-- A lone power request is decided (R31, R34, R35). -/
theorem State.decidePower_spec {s : State} (v : Power) (q : ModeReq) (value : q.value = .power v) (undeferred : s.deferred = []) :
    (s.unasked.decidePower q false v).deferred = [] ∧ PowerDecided v q s (s.unasked.decidePower q false v) := by
  have same : s.unasked.powerVerdict v = s.powerVerdict v := rfl
  rw [State.decidePower, PowerDecided, same]
  cases verdict : s.powerVerdict v with
  | grant =>
    obtain ⟨axis, result, none, running, hold⟩ := s.unasked.grantPower_answers v
    exact ⟨none undeferred, axis, result, running, hold⟩
  | wait b =>
    have eight := State.powerVerdict_blocker (.inl verdict)
    obtain ⟨axis, blocker, result, raises, modes, reqs, waiting, deferred⟩ :=
      s.unasked.waitStat_spec q (by rw [value]; exact (by decide : 2 < 8)) eight
    rw [value] at axis
    exact ⟨deferred.trans undeferred, axis, modes, blocker, result, raises, reqs, waiting⟩
  | refuse b =>
    have eight := State.powerVerdict_blocker (.inr verdict)
    obtain ⟨⟨axis, blocker, result, refusals, raises, records⟩, modes, waiting, deferred, swap⟩ := s.unasked.refusePower_spec v eight
    rw [value]
    exact ⟨deferred.trans undeferred, axis, modes, blocker, result, refusals, raises, records, waiting, swap⟩

/-! ### ALARM (R31, R501) -/

/-- What stands of the axes and of the pages while ALARM closes the rest. -/
structure Alarmed (s t : State) : Prop where
  life : t.modes.life = s.modes.life
  power : t.modes.power = s.modes.power
  tamper : t.modes.tamper = .alarm
  alarm : t.rd TPR_STATUS_ALARM = 1
  ready : t.rd HPN_STATUS_READY = 0
  mode : Noted SYS_NOTE_MODE t
  note : Noted TPR_NOTE_ALARM t
  deferred : t.deferred = s.deferred

theorem Alarmed.later {s t u : State} (h : Alarmed s t) (stands : SysStands t u)
    (modes : u.modes.life = t.modes.life ∧ u.modes.power = t.modes.power ∧ u.modes.tamper = t.modes.tamper) :
    Alarmed s u := by
  obtain ⟨life, power, tamper⟩ := modes
  exact ⟨life.trans h.life, power.trans h.power, tamper.trans h.tamper, (stands.rd _ (by decide) (by decide)).trans h.alarm,
    (stands.rd _ (by decide) (by decide)).trans h.ready, stands.noted h.mode, Noted.congr h.note (stands.rd _ (by decide) (by decide)),
    stands.deferred.trans h.deferred⟩

/-- ALARM is shown, its two notices with it. -/
theorem State.alarmShown (s : State) :
    Alarmed s ((s.setAlarm.wrAll [(TPR_STATUS_ALARM, 1), (HPN_STATUS_READY, 0)]).notices [TPR_NOTE_ALARM, SYS_NOTE_MODE]) := by
  have axis : State.modes { s with modes := { s.modes with tamper := .alarm } } = { s.modes with tamper := .alarm } := rfl
  have held : State.deferred { s with modes := { s.modes with tamper := .alarm } } = s.deferred := rfl
  rw [State.setAlarm]
  generalize ({ s with modes := { s.modes with tamper := .alarm } } : State) = u at *
  have follows := State.dptFollow_kept (T := Touches 0x8020000000003) (.refl u) fun _ h => h
  have modes : u.dptFollow.modes = { s.modes with tamper := .alarm } := (follows.frame .modes (by decide)).trans axis
  have deferred : u.dptFollow.deferred = s.deferred := (follows.frame .deferred (by decide)).trans held
  generalize u.dptFollow = v at *
  have alarm : ((v.wr TPR_STATUS_ALARM 1).wr HPN_STATUS_READY 0).rd TPR_STATUS_ALARM = 1 := by
    rw [State.rd_wr_ne _ _ (by decide), State.rd_wr_self]
    rfl
  have ready : ((v.wr TPR_STATUS_ALARM 1).wr HPN_STATUS_READY 0).rd HPN_STATUS_READY = 0 := by
    rw [State.rd_wr_self]
    rfl
  have modes' : ((v.wr TPR_STATUS_ALARM 1).wr HPN_STATUS_READY 0).modes = { s.modes with tamper := .alarm } := modes
  have deferred' : ((v.wr TPR_STATUS_ALARM 1).wr HPN_STATUS_READY 0).deferred = s.deferred := deferred
  show Alarmed s ((State.notice ((v.wr TPR_STATUS_ALARM 1).wr HPN_STATUS_READY 0) TPR_NOTE_ALARM).notice SYS_NOTE_MODE)
  generalize (v.wr TPR_STATUS_ALARM 1).wr HPN_STATUS_READY 0 = w at *
  have told {f : Field} (a : f.key ≠ (NOTE_RAW 0x1D).key) (b : f.key ≠ (NOTE_RAW 0x00).key) (c : f.key ≠ MSIX_PBA.key) :
      ((w.notice TPR_NOTE_ALARM).notice SYS_NOTE_MODE).rd f = w.rd f :=
    (State.rd_notice_ne _ SYS_NOTE_MODE b c).trans (State.rd_notice_ne _ TPR_NOTE_ALARM a c)
  have shown : ((w.notice TPR_NOTE_ALARM).notice SYS_NOTE_MODE).modes = { s.modes with tamper := .alarm } :=
    (State.notice_modes _ _).trans ((State.notice_modes _ _).trans modes')
  exact ⟨by rw [shown], by rw [shown], by rw [shown],
    (told (by decide) (by decide) (by decide)).trans alarm, (told (by decide) (by decide) (by decide)).trans ready,
    State.noted_notice _ SYS_NOTE_MODE (by decide),
    Noted.congr (State.noted_notice w TPR_NOTE_ALARM (by decide)) (State.rd_notice_ne _ SYS_NOTE_MODE (by decide) (by decide)),
    (State.notice_deferred _ _).trans ((State.notice_deferred _ _).trans deferred')⟩

/-- The grant shown in SYS_REQ_STAT. -/
theorem Alarmed.granted {s t : State} (h : Alarmed s t) : Alarmed s (t.grantStat 0) := by
  have is : t.grantStat 0 = ((t.wr SYS_REQ_STAT_AXIS 0).wr SYS_REQ_STAT_BLOCKER 7).wr SYS_REQ_STAT_RESULT 1 := rfl
  have same {f : Field} (apart : ∀ g ∈ [SYS_REQ_STAT_AXIS, SYS_REQ_STAT_BLOCKER, SYS_REQ_STAT_RESULT], f.key ≠ g.key) :
      (t.grantStat 0).rd f = t.rd f := by
    rw [is, State.rd_wr_ne _ _ (apart _ (by decide)), State.rd_wr_ne _ _ (apart _ (by decide)), State.rd_wr_ne _ _ (apart _ (by decide))]
  exact ⟨h.life, h.power, h.tamper, (same (by decide)).trans h.alarm, (same (by decide)).trans h.ready,
    Noted.congr h.mode (same (by decide)), Noted.congr h.note (same (by decide)), h.deferred⟩

/-- ALARM as a whole. -/
theorem State.takeAlarm_spec {s : State} (clear : s.modes.tamper = .clear) :
    Alarmed s s.takeAlarm ∧ s.takeAlarm.modes.sieve = .off ∧ s.takeAlarm.modes.grog = .idle ∧ s.takeAlarm.modes.role = .solo := by
  have shown := s.alarmShown.granted
  rw [State.takeAlarm, if_neg (by rw [clear]; decide)]
  dsimp only
  generalize ((s.setAlarm.wrAll [(TPR_STATUS_ALARM, 1), (HPN_STATUS_READY, 0)]).notices [TPR_NOTE_ALARM, SYS_NOTE_MODE]).grantStat 0 = u at *
  have resigned := State.resign_kept (T := Touches 0x80000400004000002) (.refl u) 1 fun _ h => h
  have modes₁ : (u.resign 1).modes = u.modes := resigned.frame .modes (by decide)
  have first := shown.later (.of_kept resigned (by decide)) (by rw [modes₁]; exact ⟨rfl, rfl, rfl⟩)
  generalize u.resign 1 = v at *
  have discarded := State.discardHeld_kept (T := Touches 0x54c0008060144007003) (.refl v) fun _ h => h
  have modes₂ : v.discardHeld.modes = v.modes := discarded.frame .modes (by decide)
  have second := first.later (.of_kept discarded (by decide)) (by rw [modes₂]; exact ⟨rfl, rfl, rfl⟩)
  generalize v.discardHeld = w at *
  obtain ⟨grog, idle⟩ := w.grgForceIdle_axis 0
  have third := second.later idle (by rw [grog]; exact ⟨rfl, rfl, rfl⟩)
  generalize w.grgForceIdle 0 = x at *
  obtain ⟨sieve, off⟩ := x.sivForceOff_axis 0
  have fourth := third.later off (by rw [sieve]; exact ⟨rfl, rfl, rfl⟩)
  generalize x.sivForceOff 0 = y at *
  have dropped := State.dropSwap_kept (T := Touches 0x4000000) (.refl y) fun _ h => h
  have modes₃ : y.dropSwap.modes = y.modes := dropped.frame .modes (by decide)
  have fifth := fourth.later (.of_kept dropped (by decide)) (by rw [modes₃]; exact ⟨rfl, rfl, rfl⟩)
  have sieveOff : y.dropSwap.modes.sieve = .off := by rw [modes₃, sieve]
  have grogIdle : y.dropSwap.modes.grog = .idle := by rw [modes₃, sieve, grog]
  generalize y.dropSwap = z at *
  split
  next solo => exact ⟨fifth, sieveOff, grogIdle, solo⟩
  next =>
    obtain ⟨modes₄, forced⟩ := z.forced_stands (.role .solo) 0
    obtain ⟨role, set⟩ := (z.forced (.role .solo) 0).setRole_axis (r := .solo) (by decide) 10
    have is : (z.forced (.role .solo) 0).grantRole ⟨.role .solo, 10, 0⟩ .solo = (z.forced (.role .solo) 0).setRole .solo 10 := rfl
    rw [is]
    refine ⟨(fifth.later forced (by rw [modes₄]; exact ⟨rfl, rfl, rfl⟩)).later set (by rw [role]; exact ⟨rfl, rfl, rfl⟩), ?_, ?_, ?_⟩ <;> rw [role]
    · rw [modes₄]
      exact sieveOff
    · rw [modes₄]
      exact grogIdle

/-! ### A Sieve value (R31, R524) -/

theorem State.sieveVerdict_blocker {s : State} {v : SieveMode} {b : Nat} (h : s.sieveVerdict v = .refuse b) : b < 8 := by
  rw [State.sieveVerdict] at h
  repeat' split at h
  all_goals cases h <;> decide

theorem State.sieveVerdict_not_wait (s : State) (v : SieveMode) (b : Nat) : s.sieveVerdict v ≠ .wait b := fun h => by
  rw [State.sieveVerdict] at h
  repeat' split at h
  all_goals cases h

/-- OFF and SLICED are granted. -/
theorem State.grantSieve_spec (s : State) {v : SieveMode} (other : v ≠ .full) :
    (s.grantSieve v).modes = { s.modes with sieve := v } ∧ SysStands s (s.grantSieve v) := by
  cases v with
  | full => exact absurd rfl other
  | off => exact s.sivOff_axis
  | sliced =>
    show (State.modes (if s.modes.sieve = .sliced then s else ((s.wr SIV_STATUS_SUSPENDED 0).setSieve .sliced).sivNewRound)) = _ ∧
      SysStands s (if s.modes.sieve = .sliced then s else ((s.wr SIV_STATUS_SUSPENDED 0).setSieve .sliced).sivNewRound)
    split
    next same =>
      refine ⟨?_, .refl s⟩
      rw [← same]
    next =>
      obtain ⟨axis, stands⟩ := (s.wr SIV_STATUS_SUSPENDED 0).setSieve_axis .sliced
      have began := (SysStands.wr s (f := SIV_STATUS_SUSPENDED) (by decide) 0).trans stands
      rw [State.wr_modes] at axis
      generalize (s.wr SIV_STATUS_SUSPENDED 0).setSieve .sliced = u at *
      have round := State.sivNewRound_kept (T := Touches 0x20000000) (.refl u) fun _ h => h
      exact ⟨(round.frame .modes (by decide)).trans axis, began.trans (.of_kept round (by decide))⟩

/-- What the decision of a Sieve request leaves of the state that it is taken in. -/
def SieveDecided (v : SieveMode) (q : ModeReq) (s t : State) : Prop :=
  t.rd SYS_REQ_STAT_AXIS = 5 ∧
    match s.sieveVerdict v with
    | .refuse b => t.modes = s.modes ∧ t.rd SYS_REQ_STAT_BLOCKER = b ∧ t.rd SYS_REQ_STAT_RESULT = 3 ∧ Raises SYS_NOTE_REFUSED s t
    | .wait b => t.modes = s.modes ∧ t.rd SYS_REQ_STAT_BLOCKER = b ∧ t.rd SYS_REQ_STAT_RESULT = 2 ∧ t.modeWaiting = [q]
    | .grant => t.rd SYS_REQ_STAT_RESULT = 1 ∧ t.modes = { s.modes with sieve := v }

theorem SieveDecided.of_grg {v : SieveMode} {q : ModeReq} {s t : State} (h : SieveDecided v q s t) (g : GrgUnit) :
    SieveDecided v q s { t with grg := g } := h

/-- A lone Sieve request is decided (R31, R34, R35). -/
theorem State.decideSieve_spec {s : State} {v : SieveMode} (q : ModeReq) (value : q.value = .sieve v) (other : v ≠ .full) (undeferred : s.deferred = []) :
    (s.unasked.decideSieve q false v).deferred = [] ∧ SieveDecided v q s (s.unasked.decideSieve q false v) := by
  have same : s.unasked.sieveVerdict v = s.sieveVerdict v := rfl
  rw [State.decideSieve, SieveDecided, same]
  cases verdict : s.sieveVerdict v with
  | grant =>
    obtain ⟨axis, -, result, -, ⟨m, parts⟩, -⟩ := s.unasked.reqStat_answered (by decide : 5 < 8) (by decide : 7 < 8) (by decide : 1 < 4)
    dsimp only
    rw [State.grantStat]
    have modes : (s.unasked.reqStat 5 7 1).modes = s.modes := by rw [parts]
    have deferred : (s.unasked.reqStat 5 7 1).deferred = s.deferred := by rw [parts]
    generalize s.unasked.reqStat 5 7 1 = u at *
    obtain ⟨sieve, stands⟩ := u.grantSieve_spec other
    exact ⟨stands.deferred.trans (deferred.trans undeferred), (stands.rd _ (by decide) (by decide)).trans axis,
      (stands.rd _ (by decide) (by decide)).trans result, by rw [sieve, modes]⟩
  | wait b => exact absurd verdict (s.sieveVerdict_not_wait v b)
  | refuse b =>
    have told := s.unasked.refuseCode_spec v.code (by decide : 5 < 8) (State.sieveVerdict_blocker verdict)
    have kept := State.refuseCode_kept (T := Touches 0x400000030100000002) (.refl s.unasked) 5 b v.code fun _ h => h
    have is : s.unasked.refuseStat q.value b = s.unasked.refuseCode 5 b v.code := by
      rw [value]
      rfl
    dsimp only at told ⊢
    rw [is]
    have modes : (s.unasked.refuseCode 5 b v.code).modes = s.modes := kept.frame .modes (by decide)
    have deferred : (s.unasked.refuseCode 5 b v.code).deferred = s.deferred := kept.frame .deferred (by decide)
    generalize s.unasked.refuseCode 5 b v.code = t at *
    obtain ⟨axis, blocker, result, -, raises, -⟩ := told
    exact ⟨deferred.trans undeferred, axis, modes, blocker, result, raises⟩

/-- Settles O11: the step decides the lone request by its axis, and every forced stop leaves the SYS page and the axes that it does not name. -/
theorem decisionStep : Obligations.DecisionStep := by
  unfold Obligations.DecisionStep
  refine ⟨fun s reqs waiting undeferred halted => ?_, fun s v c o may waiting reqs undeferred => ?_,
    fun s may waiting reqs undeferred clear => ?_, fun s v c o may waiting reqs undeferred other => ?_⟩
  · refine ⟨s.decide.flushDeferred, rfl, ?_⟩
    rw [State.decide_idle reqs waiting halted, State.flushDeferred_nil undeferred]
  · have is : s.unasked.decideOne ⟨.power v, c, o⟩ false = s.unasked.decidePower ⟨.power v, c, o⟩ false v := by
      rw [State.decideOne, if_neg (by rw [show s.unasked.mayDecide = true from may]; decide)]
    obtain ⟨none, decided⟩ := State.decidePower_spec (s := s) v ⟨.power v, c, o⟩ rfl undeferred
    exact State.decides_one may waiting reqs (by rw [is]; exact none) fun g => by rw [is]; exact decided.of_grg g
  · have is : s.unasked.decideOne ⟨.tamper .alarm, 0, 0⟩ false = s.unasked.takeAlarm := by
      rw [State.decideOne, if_neg (by rw [show s.unasked.mayDecide = true from may]; decide)]
    obtain ⟨alarmed, sieve, grog, role⟩ := State.takeAlarm_spec (s := s.unasked) clear
    refine State.decides_one may waiting reqs (by rw [is]; exact alarmed.deferred.trans undeferred) fun g => ?_
    rw [is]
    exact ⟨alarmed.tamper, sieve, grog, role, alarmed.life, alarmed.power, alarmed.alarm, alarmed.ready, alarmed.mode, alarmed.note⟩
  · have is : s.unasked.decideOne ⟨.sieve v, c, o⟩ false = s.unasked.decideSieve ⟨.sieve v, c, o⟩ false v := by
      rw [State.decideOne, if_neg (by rw [show s.unasked.mayDecide = true from may]; decide)]
    obtain ⟨none, decided⟩ := State.decideSieve_spec (s := s) ⟨.sieve v, c, o⟩ rfl other undeferred
    exact State.decides_one may waiting reqs (by rw [is]; exact none) fun g => by rw [is]; exact decided.of_grg g

end Sys2Proof.Machine
end

section
/-! SUPPORT. What receiving a mesh frame leaves of the MAC: the frame buffer and the counts of frames accepted and doubled (for O19). -/

namespace Sys2Proof.Machine

/-- The frame buffer stands, and the counts of accepted and of doubled frames. -/
structure RxStands (s t : State) : Prop where
  buf : t.mac.frameBuf = s.mac.frameBuf
  counts : ∀ f ∈ [MAC_RX_OK, MAC_DUP], t.rd f = s.rd f

theorem RxStands.refl (s : State) : RxStands s s := ⟨rfl, fun _ _ => rfl⟩

theorem RxStands.trans {s t u : State} (h : RxStands s t) (k : RxStands t u) : RxStands s u :=
  ⟨k.buf.trans h.buf, fun f hf => (k.counts f hf).trans (h.counts f hf)⟩

theorem RxStands.of_regs {s t : State} (buf : t.mac.frameBuf = s.mac.frameBuf) (regs : t.regs = s.regs) : RxStands s t :=
  ⟨buf, fun f _ => State.rd_congr regs f⟩

/-- What touches neither the MAC unit nor its page. -/
theorem RxStands.of_kept {s t : State} {m : Nat} (kept : Kept (Touches m) s t) (apart : ∀ b ∈ [14, 44], Nat.testBit m b = false) :
    RxStands s t := by
  have untouched {b : Nat} (hb : b ∈ [14, 44]) : ¬Touches m b := fun h => by
    rw [Touches, apart b hb] at h
    exact Bool.noConfusion h
  refine ⟨congrArg MacUnit.frameBuf (kept.frame .mac (untouched (by decide))), fun f hf => kept.rd_eq f (untouched ?_)⟩
  simp only [List.mem_cons, List.not_mem_nil, or_false] at hf
  rcases hf with rfl | rfl <;> decide

theorem RxStands.wr {s t : State} (h : RxStands s t) {f : Field} (v : Nat) (ne : ∀ g ∈ [MAC_RX_OK, MAC_DUP], g.key ≠ f.key) :
    RxStands s (t.wr f v) :=
  ⟨h.buf, fun g hg => (State.rd_wr_ne _ _ (ne g hg)).trans (h.counts g hg)⟩

theorem RxStands.count {s t : State} (h : RxStands s t) {f : Field} (d : Nat) (ne : ∀ g ∈ [MAC_RX_OK, MAC_DUP], g.key ≠ f.key) :
    RxStands s (t.count f d) := h.wr _ ne

theorem RxStands.notice {s t : State} (h : RxStands s t) (n : Notice) : RxStands s (t.notice n) := by
  refine ⟨(congrArg MacUnit.frameBuf (State.notice_mac _ _)).trans h.buf, fun g hg => (State.rd_notice_ne _ n ?_ ?_).trans (h.counts g hg)⟩ <;>
    simp only [List.mem_cons, List.not_mem_nil, or_false] at hg
  · rcases hg with rfl | rfl <;> simp only [Field.key] <;> omega
  · rcases hg with rfl | rfl <;> decide

theorem RxStands.noticeIf {s t : State} (h : RxStands s t) (b : Bool) (n : Notice) : RxStands s (t.noticeIf b n) := by
  cases b
  · exact h
  · exact h.notice n

theorem RxStands.setEnt {s t : State} (h : RxStands s t) (i o n v : Nat) : RxStands s (t.setEnt i o n v) := h.trans (.of_regs rfl rfl)

theorem RxStands.ite {s t u : State} {c : Prop} [Decidable c] (h : RxStands s t) (k : RxStands s u) : RxStands s (if c then t else u) := by
  split
  · exact h
  · exact k

/-- A step that is taken or not. -/
theorem RxStands.maybe {s t : State} {c : Prop} [Decidable c] {f : State → State} (h : RxStands s t) (step : ∀ u, RxStands u (f u)) :
    RxStands s (if c then f t else t) := .ite (h.trans (step t)) h

theorem RxStands_foldl {α : Type} {f : State → α → State} (step : ∀ u x, RxStands u (f u x)) (l : List α) (s : State) :
    RxStands s (l.foldl f s) := by
  induction l generalizing s with
  | nil => exact .refl s
  | cons x t ih => exact (step s x).trans (ih (f s x))

/-! ### Messages sent (R199, R204) -/

theorem State.dptLost_rx (s : State) (l : List Nat) : RxStands s (s.dptLost l) :=
  .of_kept (State.dptLost_kept (T := Touches 0x8020000000003) (.refl s) l fun _ h => h) (by decide)

theorem State.frameGone_rx (s : State) (f : QFrame) : RxStands s (s.frameGone f) :=
  .of_kept (State.frameGone_kept (T := Touches 0x8020000000003) (.refl s) f fun _ h => h) (by decide)

theorem State.rfeDrop_rx (s : State) (f : QFrame) : RxStands s (s.rfeDrop f) :=
  .of_kept (State.rfeDrop_kept (T := Touches 0x54c0000060144003002) (.refl s) f fun _ h => h) (by decide)

theorem State.dequeue_rx (s : State) (n : Nat) : RxStands s (s.dequeue n) := .of_regs rfl rfl

theorem State.enqueue_rx (s : State) (m : OutMessage) (seq : Nat) : RxStands s (s.enqueue m seq) := by
  have put (f : QFrame) : RxStands s { s with mac := { s.mac with queue := s.mac.queue ++ [f], nextSerial := s.mac.nextSerial + 1 } } :=
    .of_regs rfl rfl
  rw [State.enqueue]
  dsimp only
  split
  · exact put _
  · split
    next g _ =>
      exact (((put _).trans (State.dequeue_rx _ g.serial)).trans (State.rfeDrop_rx _ g)).trans (State.frameGone_rx _ g)
    next => exact put _

theorem State.notQueued_rx (s : State) (m : OutMessage) : RxStands s (s.notQueued m) := by
  have counted : RxStands s (s.count MAC_TX_FAIL 1) := (RxStands.refl s).count 1 (by decide)
  exact .ite counted (counted.trans (State.dptLost_rx _ _))

theorem State.macOffer_rx (s : State) (m : OutMessage) (seq : Nat) : RxStands s (s.macOffer m seq) := by
  rw [State.macOffer]
  split
  · exact .refl s
  split
  · exact ((RxStands.refl s).count 1 (by decide)).notice _
  split
  · exact .ite (s.notQueued_rx m) (s.enqueue_rx m seq)
  · exact s.enqueue_rx m seq

theorem State.sprSend_rx (s : State) (m : OutMessage) : RxStands s (s.sprSend m) := by
  rw [State.sprSend]
  split
  · exact .ite (.refl s) (s.dptLost_rx m.nodes)
  split
  · exact .refl s
  · have number : RxStands s (s.nextSeq m.dest).2 :=
      .of_kept (State.nextSeq_kept (T := Touches 0x8001) (.refl s) m.dest fun _ h => h) (by decide)
    exact (number.count 1 (by decide)).trans (State.macOffer_rx _ m _)

theorem State.schedStale_rx (s : State) (i : Nat) : RxStands s (s.schedStale i) := by
  have noted : RxStands s { s with spr := { s.spr with schedAt := Sparse.insert s.spr.schedAt i s.moduleTime } } := .of_regs rfl rfl
  exact .ite (.refl s) (noted.trans (RxStands_foldl (fun u b => u.sprSend_rx ⟨0x0B, .node i, b, []⟩) _ _))

theorem State.sendKeyUpdate_rx (s : State) (i index : Nat) : RxStands s (s.sendKeyUpdate i index) := .ite (.refl s) (s.sprSend_rx _)

theorem State.sendJoinOk_rx (s : State) (i : Nat) : RxStands s (s.sendJoinOk i) :=
  .ite (.refl s) ((s.sprSend_rx _).trans (State.sendKeyUpdate_rx _ i _))

theorem State.sendJoinRefusal_rx (s : State) (ext status : Nat) : RxStands s (s.sendJoinRefusal ext status) := s.sprSend_rx _

/-! ### Acknowledgements sent (R179, R182) -/

theorem State.fcUse_rx (s : State) (key : Nat) : RxStands s (s.fcUse key).2 := by
  have stored : RxStands s (if s.rd (fcField key) % 65536 = 0 then
      { s with mac := { s.mac with asnStored := s.mac.asn, asnStoredAt := s.cal.pulses } } else s) := .ite (.of_regs rfl rfl) (.refl s)
  have apart : ∀ g ∈ [MAC_RX_OK, MAC_DUP], g.key ≠ (fcField key).key := by
    rw [fcField]
    split <;> decide
  exact (stored.wr _ apart).noticeIf _ _

theorem State.dropTop_rx (s : State) : RxStands s s.dropTop := ((RxStands.refl s).count 1 (by decide)).notice _

theorem State.skipCounted_rx (s : State) : RxStands s ((s.count RFE_SKIP 1).notice RFE_NOTE_SKIP) :=
  ((RxStands.refl s).count 1 (by decide)).notice _

theorem State.sendAck_rx (s : State) (dst : Nat) (f : RxFrame) : RxStands s (s.sendAck dst f) := by
  rw [State.sendAck]
  refine .ite (.refl s) (.ite (.ite (.refl s) s.skipCounted_rx) (.ite ((RxStands.refl s).count 1 (by decide)) ?_))
  dsimp only
  split
  · exact (RxStands.refl s).count 1 (by decide)
  split
  · exact ((RxStands.refl s).count 1 (by decide)).notice _
  · exact .ite s.dropTop_rx (.ite ((s.fcUse_rx f.frame.keyIndex).trans (.of_regs rfl rfl)) s.skipCounted_rx)

/-! ### Messages received (R204, R221) -/

theorem State.sprMalformed_rx (s : State) (r : FspRx) (reason : Nat) : RxStands s (s.sprMalformed r reason) :=
  .of_kept (State.sprMalformed_kept (T := Touches 0x4440000420100003002) (.refl s) r reason fun _ h => h) (by decide)

theorem State.clmSuperseded_rx (s : State) : RxStands s s.clmSuperseded :=
  .of_kept (State.clmSuperseded_kept (T := Touches 0x44c0000420104003012) (.refl s) fun _ h => h) (by decide)

theorem State.sprStatus_rx (s : State) (i : Nat) (body : List Nat) : RxStands s (s.sprStatus i body) := by
  have shown (a b c d e : Nat) : RxStands s (((((s.setEnt i 0x40 4 a).setEnt i 0x44 1 b).setEnt i 0x47 1 c).setEnt i 0x48 4 d).setEnt i 0x94 4 e) :=
    .of_regs rfl rfl
  exact (((shown _ _ _ _ _).maybe (f := fun u => (u.count SPR_CONFLICT 1).notice SPR_NOTE_CONFLICT) fun u =>
    ((RxStands.refl u).count 1 (by decide)).notice _).maybe
    (f := fun u => ((u.count SPR_SUPERSEDED 1).notice SPR_NOTE_SUPERSEDED).clmSuperseded) fun u =>
      (((RxStands.refl u).count 1 (by decide)).notice _).trans (State.clmSuperseded_rx _)).maybe
    (f := fun u => u.schedStale i) fun u => u.schedStale_rx i

/-- What SPR does with a report of each type. -/
def State.sprReport (s : State) (r : FspRx) : State :=
  if r.type = 0x20 then s.sprJoinReq r.entry r.body
  else if r.type = 0x21 then s.sprPresence r.entry r.sfd r.body
  else if r.type = 0x22 then s.sprDaylight r.entry r.body
  else if r.type = 0x23 then s.sprEnergy r.entry r.sfd r.body
  else if r.type = 0x24 then s.sprTemperature r.entry r.body
  else if r.type = 0x25 then s.sprFault r.entry r.body
  else if r.type = 0x26 then (s.sprStatus r.entry r.body).grgFirmware r.entry (le r.body 8 4)
  else s.grgNodeStatus r.entry r.body

theorem State.grgFirmware_rx (s : State) (i version : Nat) : RxStands s (s.grgFirmware i version) :=
  .of_kept (State.grgFirmware_kept (T := Touches 0x40000000) (.refl s) i version fun _ h => h) (by decide)

theorem State.sprReport_rx (s : State) (r : FspRx) : RxStands s (s.sprReport r) := by
  refine .ite ?_ (.ite ?_ (.ite ?_ (.ite ?_ (.ite ?_ (.ite ?_ (.ite ?_ ?_))))))
  · exact .of_kept (State.sprJoinReq_kept (T := Touches 0x44c0000020104003003) (.refl s) _ _ fun _ h => h) (by decide)
  · exact .of_kept (State.sprPresence_kept (T := Touches 0xc20400020003) (.refl s) _ _ _ fun _ h => h) (by decide)
  · exact .of_kept (State.sprDaylight_kept (T := Touches 0x2020000080003) (.refl s) _ _ fun _ h => h) (by decide)
  · exact .of_kept (State.sprEnergy_kept (T := Touches 0x40000000800001) (.refl s) _ _ _ fun _ h => h) (by decide)
  · exact .of_kept (State.sprTemperature_kept (T := Touches 0x44c0000020104003003) (.refl s) _ _ fun _ h => h) (by decide)
  · exact .of_kept (State.sprFault_kept (T := Touches 0x420000000003) (.refl s) _ _ fun _ h => h) (by decide)
  · exact (s.sprStatus_rx _ _).trans (State.grgFirmware_rx _ _ _)
  · exact .of_kept (State.grgNodeStatus_kept (T := Touches 0x44c0000020144003002) (.refl s) _ _ fun _ h => h) (by decide)

theorem State.sprForward_rx (s : State) (r : FspRx) : RxStands s (s.sprForward r) :=
  .of_kept (State.sprForward_kept (T := Touches 0x4440000020100003002) (.refl s) r fun _ h => h) (by decide)

theorem State.sprReceive_rx (s : State) (r : FspRx) : RxStands s (s.sprReceive r) := by
  rw [State.sprReceive]
  refine .ite (.refl s) (.ite (s.sprMalformed_rx r _) ?_)
  have counted : RxStands s ((s.count SPR_RX_MSG 1).setEnt r.entry 0x4E 2 (le r.payload 2 2)) :=
    ((RxStands.refl s).count 1 (by decide)).setEnt _ _ _ _
  exact (counted.trans (State.sprReport_rx _ r)).trans (State.sprForward_rx _ r)

end Sys2Proof.Machine
end

section
/-! SUPPORT. Reception in the mesh MAC (O19). -/

namespace Sys2Proof.Machine

/-! ### What a frame's reception leaves of the frame buffer -/

theorem State.mac_of_kept {s t : State} {m : Nat} (kept : Kept (Touches m) s t) (apart : Nat.testBit m 14 = false) : t.mac = s.mac :=
  kept.frame .mac fun h : Nat.testBit m 14 = true => by
    rw [apart] at h
    exact Bool.noConfusion h

theorem State.nodeHeard_mac (s : State) (i x : Nat) (f : RxFrame) : (s.nodeHeard i x f).mac = s.mac :=
  State.mac_of_kept (State.nodeHeard_kept (T := Touches 0x100000000001) (.refl s) i x f fun _ h => h) (by decide)

theorem State.nodeAlive_mac (s : State) (i : Nat) (short : Bool) : (s.nodeAlive i short).mac = s.mac :=
  State.mac_of_kept (State.nodeAlive_kept (T := Touches 0x1) (.refl s) i short fun _ h => h) (by decide)

theorem State.setEntState_mac (s : State) (i v : Nat) : (s.setEntState i v).mac = s.mac :=
  State.mac_of_kept (State.setEntState_kept (T := Touches 0x1) (.refl s) i v fun _ h => h) (by decide)

/-- The frames that wait in the buffer stand. -/
abbrev BufStands (s t : State) : Prop := t.mac.frameBuf = s.mac.frameBuf

theorem BufStands.of_mac {s t : State} (h : t.mac = s.mac) : BufStands s t := congrArg MacUnit.frameBuf h

theorem BufStands.trans {s t u : State} (h : BufStands s t) (k : BufStands t u) : BufStands s u := Eq.trans k h

theorem BufStands.ite {s t u : State} {c : Prop} [Decidable c] (h : BufStands s t) (k : BufStands s u) : BufStands s (if c then t else u) := by
  split
  · exact h
  · exact k

theorem State.joinEntry_buf (s : State) (i : Nat) (f : RxFrame) : BufStands s (s.joinEntry i f) := by
  have heard : BufStands s ((s.clearRxFc i).nodeHeard i f.frame.keyIndex f) :=
    .of_mac ((State.nodeHeard_mac _ i _ f).trans (State.mac_of_kept (State.clearRxFc_kept (T := Touches 0x1) (.refl s) i fun _ h => h) (by decide)))
  rw [State.joinEntry]
  generalize (s.clearRxFc i).nodeHeard i f.frame.keyIndex f = u at *
  have joining : BufStands u (u.setEntState i 2) := .of_mac (u.setEntState_mac i 2)
  generalize u.setEntState i 2 = v at *
  have counted : BufStands v (if s.entState i = 3 ∨ s.entState i = 4 then (v.count MAC_JOIN_OK 1).count MAC_REJOIN 1 else v.count MAC_JOIN_OK 1) :=
    .ite (.of_mac rfl) (.of_mac rfl)
  generalize (if s.entState i = 3 ∨ s.entState i = 4 then (v.count MAC_JOIN_OK 1).count MAC_REJOIN 1 else v.count MAC_JOIN_OK 1) = w at *
  exact ((heard.trans joining).trans counted).trans ((State.sprReceive_rx w _).trans (State.sendJoinOk_rx _ i)).buf

/-- An address that no entry holds is admitted to the lowest free entry. -/
theorem State.admitted_buf (s : State) (i ext cls flags : Nat) (f : RxFrame) :
    BufStands s (((((s.setEnt i 0x00 8 ext).setEnt i 0x0A 1 1).setEnt i 0x0C 1 cls).setEnt i 0x0D 1 flags).ntbEnter i |>.joinEntry i f) := by
  have filled : BufStands s ((((s.setEnt i 0x00 8 ext).setEnt i 0x0A 1 1).setEnt i 0x0C 1 cls).setEnt i 0x0D 1 flags) := .of_mac rfl
  generalize (((s.setEnt i 0x00 8 ext).setEnt i 0x0A 1 1).setEnt i 0x0C 1 cls).setEnt i 0x0D 1 flags = u at *
  have entered : BufStands u (u.ntbEnter i) :=
    .of_mac (State.mac_of_kept (State.ntbEnter_kept (T := Touches 0x1) (.refl u) i fun _ h => h) (by decide))
  exact (filled.trans entered).trans (State.joinEntry_buf _ i f)

theorem State.joinFull_buf (s : State) (ext : Nat) :
    BufStands s (((s.count MAC_JOIN_FULL 1).notices [MAC_NOTE_JOIN_FULL, NTB_NOTE_FULL]).silt 0x0401 ext (ext / 2 ^ 32)) := by
  have noticed : BufStands s ((s.count MAC_JOIN_FULL 1).notices [MAC_NOTE_JOIN_FULL, NTB_NOTE_FULL]) :=
    .of_mac ((State.notice_mac _ _).trans (State.notice_mac _ _))
  generalize (s.count MAC_JOIN_FULL 1).notices [MAC_NOTE_JOIN_FULL, NTB_NOTE_FULL] = u at *
  exact noticed.trans (.of_mac (State.mac_of_kept (State.silt_kept (T := Touches 0x400000020100000002) (.refl u) _ _ _ _ _ fun _ h => h) (by decide)))

theorem State.macJoinReq_buf (s : State) (ext : Nat) (found : Option Nat) (f : RxFrame) : BufStands s (s.macJoinReq ext found f) := by
  have refused : BufStands s s.joinRefused := .of_mac rfl
  cases found with
  | some i =>
    rw [State.macJoinReq]
    exact .ite refused (.ite refused (s.joinEntry_buf i f))
  | none =>
    rw [State.macJoinReq]
    refine .ite refused (.ite (refused.trans (State.sendJoinRefusal_rx _ ext 1).buf) ?_)
    split
    next i _ => exact s.admitted_buf i ext _ _ f
    next => exact (s.joinFull_buf ext).trans (State.sendJoinRefusal_rx _ ext 2).buf

theorem State.macFromExt_buf (s : State) (found : Option Nat) (f : RxFrame) : BufStands s (s.macFromExt found f) := by
  have reported (u : State) (r : FspRx) : BufStands u (if !u.rdB SPR_CTRL_EN then u else u.sprMalformed r (max 1 r.fault)) :=
    .ite (.of_mac rfl) (State.sprMalformed_rx _ _ _).buf
  cases found with
  | none =>
    have counted : BufStands s (s.count MAC_RX_OK 1) := .of_mac rfl
    exact counted.trans (reported _ _)
  | some i =>
    have heard : BufStands s (if s.entState i = 5 then s else (s.nodeHeard i f.frame.keyIndex f).nodeAlive i false) :=
      .ite (.of_mac rfl) (.of_mac ((State.nodeAlive_mac _ i false).trans (s.nodeHeard_mac i _ f)))
    exact heard.trans (reported _ _)

theorem State.replayed_buf (s : State) : BufStands s ((s.count MAC_REPLAY 1).notice MAC_NOTE_REPLAY) := .of_mac (State.notice_mac _ _)

theorem State.macJoin_buf (s : State) (ext : Nat) (f : RxFrame) : BufStands s (s.macJoin ext f) := by
  rw [State.macJoin]
  refine .ite (.of_mac rfl) ?_
  split
  · exact .ite (s.macJoinReq_buf ext _ f) (s.macFromExt_buf _ f)
  · exact .of_mac rfl
  · exact s.replayed_buf

theorem State.macFromNode_buf (s : State) (i : Nat) (f : RxFrame) : BufStands s (s.macFromNode i f) := by
  have acked (u : State) : BufStands u (if f.frame.ackReq then u.sendAck (0x0100 + i) f else u) := .ite (u.sendAck_rx _ f).buf (.of_mac rfl)
  rw [State.macFromNode]
  refine .ite (.of_mac rfl) (.ite (.of_mac rfl) ?_)
  split
  · have heard : BufStands s ((s.nodeHeard i f.frame.keyIndex f).nodeAlive i true) :=
      .of_mac ((State.nodeAlive_mac _ i true).trans (s.nodeHeard_mac i _ f))
    exact (heard.trans (acked _)).trans (State.sprReceive_rx _ _).buf
  · have doubled : BufStands s (s.count MAC_DUP 1) := .of_mac rfl
    exact doubled.trans (acked _)
  · exact s.replayed_buf

theorem State.delivered_parts (s : State) (q : QFrame) : Kept (Touches 0x1) ((s.dequeue q.serial).count MAC_TX_OK 1) (s.delivered q) := by
  rw [State.delivered]
  generalize (s.dequeue q.serial).count MAC_TX_OK 1 = u
  split
  · exact State.broadcastSent_kept (.refl u) fun _ h => h
  next i _ _ =>
    have sent : Kept (Touches 0x1) u (if q.waiting then (u.countSent i).setEnt i 0x31 1 0 else u) := by
      split
      · exact State.setEnt_kept (State.countSent_kept (.refl u) i fun _ h => h) _ _ _ _ fun _ h => h
      · exact .refl u
    dsimp only
    split
    · exact State.setBytes_kept sent _ _ _ fun _ h => h
    · exact sent
  · exact .refl u

theorem State.delivered_buf (s : State) (q : QFrame) : BufStands s (s.delivered q) := by
  have gone : BufStands s ((s.dequeue q.serial).count MAC_TX_OK 1) := rfl
  exact gone.trans (.of_mac (State.mac_of_kept (s.delivered_parts q) (by decide)))

theorem State.ackFrom_buf (s : State) (i : Nat) (q : QFrame) (f : RxFrame) : BufStands s (s.ackFrom i q f) := by
  rw [State.ackFrom]
  refine .ite (.of_mac rfl) (.ite (.of_mac rfl) ?_)
  split
  · have heard : BufStands s ((s.nodeHeard i (s.fspKey q.msg) f).nodeAlive i
        (match f.frame.src with
          | .short _ => true
          | _ => false)) := .of_mac ((State.nodeAlive_mac _ i _).trans (s.nodeHeard_mac i _ f))
    exact heard.trans (State.delivered_buf _ q)
  · exact .of_mac rfl
  · exact s.replayed_buf

theorem State.macAckRx_buf (s : State) (f : RxFrame) : BufStands s (s.macAckRx f) := by
  rw [State.macAckRx]
  refine .ite (.of_mac rfl) ?_
  split
  · split
    · exact s.ackFrom_buf _ _ f
    · exact .of_mac rfl
  · exact .of_mac rfl

theorem State.clmMiss_mac (s : State) : s.clmMiss.mac = s.mac :=
  State.mac_of_kept (State.clmMiss_kept (T := Touches 0x44c0000020104003012) (.refl s) fun _ h => h) (by decide)

theorem State.clmBeacon_mac (s : State) : s.clmBeacon.mac = s.mac :=
  State.mac_of_kept (State.clmBeacon_kept (T := Touches 0x44c0000020104003012) (.refl s) fun _ h => h) (by decide)

/-- A partner's beacon as CLM and the MAC's counts take it. -/
def State.beaconCounted (s : State) : State :=
  (if (s.count MAC_RX_OK 1).rd MAC_PARTNER_MISS = 0 then s.count MAC_RX_OK 1
    else ((s.count MAC_RX_OK 1).wr MAC_PARTNER_MISS 0).clmMiss).clmBeacon

theorem State.partnerBeacon_eq (s : State) (f : RxFrame) :
    s.partnerBeacon f = if s.beaconCounted.modes.role = .standby then s.beaconCounted.followBeacon f else s.beaconCounted := rfl

theorem State.beaconCounted_spec (s : State) : let t := s.beaconCounted
    t.mac = s.mac ∧ t.modes = s.modes ∧ t.rd MAC_PARTNER_MISS = 0 ∧ t.rd MAC_RX_OK = (s.rd MAC_RX_OK + 1) % 2 ^ 32 := by
  have counted : (s.count MAC_RX_OK 1).rd MAC_RX_OK = (s.rd MAC_RX_OK + 1) % 2 ^ 32 := State.rd_count_self _ _ _
  have mac : (s.count MAC_RX_OK 1).mac = s.mac := rfl
  have modes : (s.count MAC_RX_OK 1).modes = s.modes := rfl
  rw [State.beaconCounted]
  dsimp only
  generalize s.count MAC_RX_OK 1 = u at *
  have missed : ∃ v, (if u.rd MAC_PARTNER_MISS = 0 then u else (u.wr MAC_PARTNER_MISS 0).clmMiss) = v ∧ v.mac = s.mac ∧ v.modes = s.modes ∧
      v.rd MAC_PARTNER_MISS = 0 ∧ v.rd MAC_RX_OK = (s.rd MAC_RX_OK + 1) % 2 ^ 32 := by
    split
    next none => exact ⟨u, rfl, mac, modes, none, counted⟩
    next =>
      have zero : (u.wr MAC_PARTNER_MISS 0).rd MAC_PARTNER_MISS = 0 := State.rd_wr_self _ _ _
      have still : (u.wr MAC_PARTNER_MISS 0).rd MAC_RX_OK = u.rd MAC_RX_OK := State.rd_wr_ne _ _ (by decide)
      have mac' : (u.wr MAC_PARTNER_MISS 0).mac = s.mac := mac
      have modes' : (u.wr MAC_PARTNER_MISS 0).modes = s.modes := modes
      generalize u.wr MAC_PARTNER_MISS 0 = w at *
      have kept := State.clmMiss_kept (T := Touches 0x44c0000020104003012) (.refl w) fun _ h => h
      exact ⟨_, rfl, w.clmMiss_mac.trans mac', (kept.frame .modes (by decide)).trans modes', (kept.rd_eq _ (by decide)).trans zero,
        (kept.rd_eq _ (by decide)).trans (still.trans counted)⟩
  obtain ⟨v, is, mac', modes', miss, ok⟩ := missed
  rw [is]
  have kept := State.clmBeacon_kept (T := Touches 0x44c0000020104003012) (.refl v) fun _ h => h
  exact ⟨v.clmBeacon_mac.trans mac', (kept.frame .modes (by decide)).trans modes', (kept.rd_eq _ (by decide)).trans miss,
    (kept.rd_eq _ (by decide)).trans ok⟩

/-- R173, R176: a partner's beacon. -/
theorem State.partnerBeacon_spec (s : State) (f : RxFrame) : let t := s.partnerBeacon f
    BufStands s t ∧ t.rd MAC_PARTNER_MISS = 0 ∧ t.rd MAC_RX_OK = (s.rd MAC_RX_OK + 1) % 2 ^ 32 ∧
      (s.modes.role = .standby → t.mac.follow.isSome = true) := by
  obtain ⟨mac, modes, miss, ok⟩ := s.beaconCounted_spec
  dsimp only
  rw [State.partnerBeacon_eq]
  generalize s.beaconCounted = u at *
  split
  next =>
    have buf : BufStands u (u.followBeacon f) := rfl
    exact ⟨(BufStands.of_mac mac).trans buf, miss, ok, fun _ => rfl⟩
  next other => exact ⟨.of_mac mac, miss, ok, fun standby => absurd (modes ▸ standby) other⟩

/-- A data frame that is secured, by its source. -/
def State.macData (s : State) (f : RxFrame) : State :=
  match f.frame.src with
  | .ext a => s.macJoin a f
  | .short a => if s.radioEntry a then s.macFromNode (a - 0x0100) f else s.count MAC_SEC_FAIL 1
  | .none => s.count MAC_SEC_FAIL 1

theorem State.macData_buf (s : State) (f : RxFrame) : BufStands s (s.macData f) := by
  rw [State.macData]
  split
  · exact s.macJoin_buf _ f
  · exact .ite (s.macFromNode_buf _ f) (.of_mac rfl)
  · exact .of_mac rfl

theorem rdB_eq_false_iff {s : State} {f : Field} (w : f.width = 1) : s.rdB f = false ↔ s.rd f = 0 :=
  ⟨fun h => State.rdB_eq_false h w, fun h => by rw [State.rdB, h]; rfl⟩

/-- R177 to R186: which of its ways a frame takes. -/
theorem State.macTakes_eq (s : State) (f : RxFrame) : s.macTakes f =
    if s.rd MAC_CTRL_EN = 0 ∨ s.rxWindow f.sfd = false then s
    else if s.macMalformed f.frame then s.count MAC_MALFORMED 1
    else if f.frame.pan ≠ s.rd MAC_PAN_PAN_ID then s
    else if f.frame.kind = 0 then
      if f.frame.keyIndex = 1 ∧ s.indexKey 1 1 none = true ∧ f.frame.secLevel ≠ 0 ∧ f.frame.micOk = true then s.partnerBeacon f
      else s.count MAC_SEC_FAIL 1
    else if f.frame.kind = 2 then s.macAckRx f
    else if s.macAddressed f.frame.dst = false then s
    else if f.frame.secLevel < 6 then s.count MAC_SEC_FAIL 1
    else s.macData f := by
  have shut : (!s.rdB MAC_CTRL_EN || !s.rxWindow f.sfd) = true ↔ s.rd MAC_CTRL_EN = 0 ∨ s.rxWindow f.sfd = false := by
    rw [Bool.or_eq_true, Bool.not_eq_true', Bool.not_eq_true', rdB_eq_false_iff rfl]
  have secured : ¬(f.frame.secLevel = 0 ∨ f.frame.keyIndex ≠ 1 ∨ (!s.indexKey 1 1 none) = true ∨ (!f.frame.micOk) = true) ↔
      f.frame.keyIndex = 1 ∧ s.indexKey 1 1 none = true ∧ f.frame.secLevel ≠ 0 ∧ f.frame.micOk = true := by
    simp only [not_or, Bool.not_eq_true', Bool.not_eq_false, ne_eq, not_not]
    tauto
  rw [State.macTakes]
  refine if_congr shut rfl (if_congr .rfl rfl (if_congr .rfl rfl (if_congr .rfl ?_ (if_congr .rfl rfl (if_congr (by rw [Bool.not_eq_true']) rfl
    (if_congr .rfl rfl rfl))))))
  rw [← ite_not, if_congr secured rfl rfl]

end Sys2Proof.Machine
end

section
/-! SUPPORT. Acknowledgements, frames of nodes, partner beacons missed and joins timed out (O19). -/

namespace Sys2Proof.Machine

/-! ### What is recorded of a node's frame (R183, R189) -/

theorem State.rxFc_congr {s t : State} (h : t.win = s.win) (i x : Nat) : t.rxFc i x = s.rxFc i x := by
  rw [State.rxFc, State.rxFc, State.ent_congr h, State.ent_congr h]

/-- Bytes of an entry beside those of its frame counters. -/
theorem State.rxFc_setEnt_ne (s : State) {i x o n : Nat} (v : Nat) (hi : i < 8192) (one : 1 ≤ x) (four : x ≤ 4) (fits : o + n ≤ 256)
    (out : o + n ≤ 0x20 ∨ 0x31 ≤ o) : (s.setEnt i o n v).rxFc i x = s.rxFc i x := by
  rw [State.rxFc, State.rxFc, State.ent_setEnt_ne _ hi fits (by decide) (by omega), State.ent_setEnt_ne _ hi fits (by omega) (by omega)]

theorem State.rxFc_setRxFc (s : State) {i x : Nat} (c : Nat) (hi : i < 8192) (one : 1 ≤ x) (four : x ≤ 4) :
    (s.setRxFc i x c).rxFc i x = some (c % 2 ^ 32) := by
  have flag : ((s.setRxFc i x c).ent i 0x30 1) = setBit (s.ent i 0x30 1) (x - 1) := by
    rw [State.setRxFc, State.ent_setEnt_same]
    exact Nat.mod_eq_of_lt (setBit_lt (n := 8) (State.wN_lt s _ _ 1) (by omega))
  have counter : (s.setRxFc i x c).ent i (0x20 + 4 * (x - 1)) 4 = c % 2 ^ 32 := by
    rw [State.setRxFc, State.ent_setEnt_ne _ hi (by decide) (by omega) (by omega), State.ent_setEnt_same]
    rfl
  rw [State.rxFc, flag, counter, if_pos (bitAt_setBit _ _)]

theorem State.nodeHeard_rxFc (s : State) {i x : Nat} (f : RxFrame) (hi : i < 8192) (one : 1 ≤ x) (four : x ≤ 4) :
    (s.nodeHeard i x f).rxFc i x = some (f.frame.counter % 2 ^ 32) := by
  have counted (u : State) : (u.count MAC_RX_OK 1).rxFc i x = u.rxFc i x := State.rxFc_congr rfl i x
  rw [← s.rxFc_setRxFc f.frame.counter hi one four, State.nodeHeard, counted,
    State.rxFc_setEnt_ne _ _ hi one four (by decide) (by decide), State.rxFc_setEnt_ne _ _ hi one four (by decide) (by decide),
    State.rxFc_setEnt_ne _ _ hi one four (by decide) (by decide), State.rxFc_setEnt_ne _ _ hi one four (by decide) (by decide)]

theorem State.nodeAlive_rxFc (s : State) {i x : Nat} (short : Bool) (hi : i < 8192) (one : 1 ≤ x) (four : x ≤ 4) :
    (s.nodeAlive i short).rxFc i x = s.rxFc i x := by
  rw [State.nodeAlive]
  split
  · rw [State.setEntState, if_neg (fun h => h.2 rfl), State.rxFc_setEnt_ne _ _ hi one four (by decide) (by decide)]
  · rfl

theorem State.nodeHeard_ok (s : State) (i x : Nat) (f : RxFrame) : (s.nodeHeard i x f).rd MAC_RX_OK = (s.rd MAC_RX_OK + 1) % 2 ^ 32 :=
  State.rd_count_self _ _ _

theorem State.nodeAlive_regs (s : State) (i : Nat) (short : Bool) : (s.nodeAlive i short).regs = s.regs := by
  rw [State.nodeAlive]
  split
  · rw [State.setEntState, if_neg (fun h => h.2 rfl)]
    rfl
  · rfl

theorem State.indexKey_range {s : State} {x use : Nat} {e : Option Nat} (h : s.indexKey x use e = true) : 1 ≤ x ∧ x ≤ 4 := by
  rw [State.indexKey.eq_def] at h
  split at h
  · omega
  split at h
  · omega
  split at h
  · omega
  · cases h

theorem fcJudge_le (last : Option Nat) (c : Nat) : fcJudge last c = 0 ∨ fcJudge last c = 1 ∨ fcJudge last c = 2 := by
  cases last with
  | none => exact .inl rfl
  | some l =>
    rw [fcJudge]
    split
    · exact .inl rfl
    split
    · exact .inr (.inl rfl)
    · exact .inr (.inr rfl)

/-- A replayed frame is counted, with its notice (R183). -/
theorem State.replayed_spec (s : State) : let t := (s.count MAC_REPLAY 1).notice MAC_NOTE_REPLAY
    t.rd MAC_REPLAY = (s.rd MAC_REPLAY + 1) % 2 ^ 32 ∧ Noted MAC_NOTE_REPLAY t ∧ t.win = s.win ∧ t.mac = s.mac ∧ t.rd MAC_RX_OK = s.rd MAC_RX_OK :=
  ⟨(State.rd_notice_ne _ MAC_NOTE_REPLAY (by decide) (by decide)).trans (State.rd_count_self _ _ _), State.noted_notice _ MAC_NOTE_REPLAY (by decide),
    State.notice_win _ _, State.notice_mac _ _,
    (State.rd_notice_ne _ MAC_NOTE_REPLAY (by decide) (by decide)).trans (State.rd_count_ne _ _ (by decide))⟩

/-! ### Acknowledgements (R188) -/

/-- What a frame's acknowledgement by the node of its entry leaves. -/
def AckTaken (i : Nat) (q : QFrame) (f : RxFrame) (s t : State) : Prop :=
  if s.entState i = 5 ∨ s.sourceIs f.frame.src i = false then t = s
  else if s.indexKey (s.fspKey q.msg) 1 (some i) = false then t = s.count MAC_SEC_FAIL 1
  else if fcJudge (s.rxFc i (s.fspKey q.msg)) f.frame.counter = 0 then
    t.mac.queue = s.mac.queue.filter (fun g => g.serial != q.serial) ∧ t.rd MAC_TX_OK = (s.rd MAC_TX_OK + 1) % 2 ^ 32 ∧
      t.rd MAC_RX_OK = (s.rd MAC_RX_OK + 1) % 2 ^ 32
  else if fcJudge (s.rxFc i (s.fspKey q.msg)) f.frame.counter = 1 then t = s.count MAC_DUP 1
  else
    t.rd MAC_REPLAY = (s.rd MAC_REPLAY + 1) % 2 ^ 32 ∧ Noted MAC_NOTE_REPLAY t ∧ t.win = s.win ∧ t.mac.queue = s.mac.queue

theorem State.delivered_spec (s : State) (q : QFrame) : let t := s.delivered q
    t.mac.queue = s.mac.queue.filter (fun g => g.serial != q.serial) ∧ t.rd MAC_TX_OK = (s.rd MAC_TX_OK + 1) % 2 ^ 32 ∧
      t.rd MAC_RX_OK = s.rd MAC_RX_OK := by
  have kept := s.delivered_parts q
  have counted : ((s.dequeue q.serial).count MAC_TX_OK 1).rd MAC_TX_OK = (s.rd MAC_TX_OK + 1) % 2 ^ 32 := State.rd_count_self _ _ _
  have ok : ((s.dequeue q.serial).count MAC_TX_OK 1).rd MAC_RX_OK = s.rd MAC_RX_OK := State.rd_count_ne _ _ (by decide)
  exact ⟨congrArg MacUnit.queue (State.mac_of_kept kept (by decide)), (kept.rd_eq _ (by decide)).trans counted, (kept.rd_eq _ (by decide)).trans ok⟩

theorem State.acknowledged_spec (s : State) (i : Nat) (short : Bool) (q : QFrame) (f : RxFrame) :
    let t := ((s.nodeHeard i (s.fspKey q.msg) f).nodeAlive i short).delivered q
    t.mac.queue = s.mac.queue.filter (fun g => g.serial != q.serial) ∧ t.rd MAC_TX_OK = (s.rd MAC_TX_OK + 1) % 2 ^ 32 ∧
      t.rd MAC_RX_OK = (s.rd MAC_RX_OK + 1) % 2 ^ 32 := by
  have ok := s.nodeHeard_ok i (s.fspKey q.msg) f
  have sent : (s.nodeHeard i (s.fspKey q.msg) f).rd MAC_TX_OK = s.rd MAC_TX_OK := State.rd_count_ne _ _ (by decide)
  have mac := s.nodeHeard_mac i (s.fspKey q.msg) f
  dsimp only
  generalize s.nodeHeard i (s.fspKey q.msg) f = u at *
  have mac' := u.nodeAlive_mac i short
  have regs := u.nodeAlive_regs i short
  generalize u.nodeAlive i short = v at *
  obtain ⟨queue, txOk, rxOk⟩ := v.delivered_spec q
  refine ⟨queue.trans ?_, txOk.trans ?_, rxOk.trans ((State.rd_congr regs _).trans ok)⟩
  · rw [mac', mac]
  · rw [State.rd_congr regs, sent]

theorem State.ackFrom_spec (s : State) (i : Nat) (q : QFrame) (f : RxFrame) : AckTaken i q f s (s.ackFrom i q f) := by
  rw [AckTaken, State.ackFrom]
  simp only [Bool.not_eq_true']
  by_cases closed : s.entState i = 5 ∨ s.sourceIs f.frame.src i = false
  · rw [if_pos closed, if_pos closed]
  rw [if_neg closed, if_neg closed]
  by_cases keyed : s.indexKey (s.fspKey q.msg) 1 (some i) = false
  · rw [if_pos keyed, if_pos keyed]
  rw [if_neg keyed, if_neg keyed]
  rcases fcJudge_le (s.rxFc i (s.fspKey q.msg)) f.frame.counter with judged | judged | judged <;> rw [judged]
  · rw [if_pos rfl]
    exact s.acknowledged_spec i _ q f
  · rw [if_neg Nat.one_ne_zero]
    exact (if_pos rfl).mpr rfl
  · rw [if_neg (by decide), if_neg (by decide)]
    obtain ⟨replay, noted, win, mac, -⟩ := s.replayed_spec
    exact ⟨replay, noted, win, congrArg MacUnit.queue mac⟩

/-- What a received acknowledgement leaves. -/
def AckRxTaken (f : RxFrame) (s t : State) : Prop :=
  if f.frame.secLevel = 0 ∨ f.frame.micOk = false ∨ s.knownSource f.frame.src = false then t = s.count MAC_SEC_FAIL 1
  else
    match s.mac.queue.find? fun q => q.waiting && q.serial % 256 == f.frame.seqNo with
    | none => t = s
    | some q =>
      match destEntry q.msg.dest with
      | none => t = s
      | some i => AckTaken i q f s t

theorem State.macAckRx_spec (s : State) (f : RxFrame) : AckRxTaken f s (s.macAckRx f) := by
  rw [AckRxTaken, State.macAckRx]
  simp only [Bool.not_eq_true']
  by_cases bad : f.frame.secLevel = 0 ∨ f.frame.micOk = false ∨ s.knownSource f.frame.src = false
  · rw [if_pos bad, if_pos bad]
  rw [if_neg bad, if_neg bad]
  cases s.mac.queue.find? fun q => q.waiting && q.serial % 256 == f.frame.seqNo with
  | none => rfl
  | some q =>
    dsimp only
    cases destEntry q.msg.dest with
    | none => rfl
    | some i => exact s.ackFrom_spec i q f

/-! ### Every frame (R177 to R186) -/

/-- What a frame taken out of the buffer leaves. -/
def MacTaken (f : RxFrame) (s t : State) : Prop :=
  if s.rd MAC_CTRL_EN = 0 ∨ s.rxWindow f.sfd = false then t = s
  else if s.macMalformed f.frame then t = s.count MAC_MALFORMED 1
  else if f.frame.pan ≠ s.rd MAC_PAN_PAN_ID then t = s
  else if f.frame.kind = 0 then
    if f.frame.keyIndex = 1 ∧ s.indexKey 1 1 none = true ∧ f.frame.secLevel ≠ 0 ∧ f.frame.micOk = true then
      t.rd MAC_PARTNER_MISS = 0 ∧ t.rd MAC_RX_OK = (s.rd MAC_RX_OK + 1) % 2 ^ 32 ∧ (s.modes.role = .standby → t.mac.follow.isSome = true)
    else t = s.count MAC_SEC_FAIL 1
  else if f.frame.kind = 2 then AckRxTaken f s t
  else if s.macAddressed f.frame.dst = false then t = s
  else if f.frame.secLevel < 6 then t = s.count MAC_SEC_FAIL 1
  else True

theorem State.macTakes_spec (s : State) (f : RxFrame) : BufStands s (s.macTakes f) ∧ MacTaken f s (s.macTakes f) := by
  rw [State.macTakes_eq, MacTaken]
  by_cases shut : s.rd MAC_CTRL_EN = 0 ∨ s.rxWindow f.sfd = false
  · rw [if_pos shut, if_pos shut]
    exact ⟨rfl, rfl⟩
  rw [if_neg shut, if_neg shut]
  by_cases malformed : s.macMalformed f.frame = true
  · rw [if_pos malformed, if_pos malformed]
    exact ⟨.of_mac rfl, rfl⟩
  rw [if_neg malformed, if_neg malformed]
  by_cases foreign : f.frame.pan ≠ s.rd MAC_PAN_PAN_ID
  · rw [if_pos foreign, if_pos foreign]
    exact ⟨rfl, rfl⟩
  rw [if_neg foreign, if_neg foreign]
  by_cases beacon : f.frame.kind = 0
  · rw [if_pos beacon, if_pos beacon]
    by_cases secured : f.frame.keyIndex = 1 ∧ s.indexKey 1 1 none = true ∧ f.frame.secLevel ≠ 0 ∧ f.frame.micOk = true
    · rw [if_pos secured, if_pos secured]
      exact s.partnerBeacon_spec f
    · rw [if_neg secured, if_neg secured]
      exact ⟨.of_mac rfl, rfl⟩
  rw [if_neg beacon, if_neg beacon]
  by_cases ack : f.frame.kind = 2
  · rw [if_pos ack, if_pos ack]
    exact ⟨s.macAckRx_buf f, s.macAckRx_spec f⟩
  rw [if_neg ack, if_neg ack]
  by_cases other : s.macAddressed f.frame.dst = false
  · rw [if_pos other, if_pos other]
    exact ⟨rfl, rfl⟩
  rw [if_neg other, if_neg other]
  by_cases unsecured : f.frame.secLevel < 6
  · rw [if_pos unsecured, if_pos unsecured]
    exact ⟨.of_mac rfl, rfl⟩
  rw [if_neg unsecured, if_neg unsecured]
  exact ⟨s.macData_buf f, trivial⟩

/-! ### A node's frame (R183, R185) -/

/-- What a data frame from the node of an entry leaves. -/
def NodeTaken (i : Nat) (f : RxFrame) (s t : State) : Prop :=
  if s.entState i = 5 then t = s
  else if s.indexKey f.frame.keyIndex 1 (some i) = false ∨ f.frame.micOk = false then t = s.count MAC_SEC_FAIL 1
  else if fcJudge (s.rxFc i f.frame.keyIndex) f.frame.counter = 0 then
    t.rd MAC_RX_OK = (s.rd MAC_RX_OK + 1) % 2 ^ 32 ∧
    (s.rd SPR_CTRL_EN = 0 → t.rxFc i f.frame.keyIndex = some (f.frame.counter % 2 ^ 32))
  else if fcJudge (s.rxFc i f.frame.keyIndex) f.frame.counter = 1 then
    t.rd MAC_DUP = (s.rd MAC_DUP + 1) % 2 ^ 32 ∧ t.win = s.win ∧ t.rd MAC_RX_OK = s.rd MAC_RX_OK
  else
    t.rd MAC_REPLAY = (s.rd MAC_REPLAY + 1) % 2 ^ 32 ∧ Noted MAC_NOTE_REPLAY t ∧ t.win = s.win ∧ t.rd MAC_RX_OK = s.rd MAC_RX_OK

/-- An acknowledgement that is sent where one is asked for. -/
def State.acked (s : State) (i : Nat) (f : RxFrame) : State := if f.frame.ackReq then s.sendAck (0x0100 + i) f else s

theorem State.acked_spec (s : State) (i : Nat) (f : RxFrame) :
    RxStands s (s.acked i f) ∧ (s.acked i f).win = s.win ∧ (s.acked i f).rd SPR_CTRL_EN = s.rd SPR_CTRL_EN := by
  rw [State.acked]
  split
  · have kept := State.sendAck_kept (T := Touches 0x160000004002) (.refl s) (0x0100 + i) f fun _ h => h
    exact ⟨s.sendAck_rx _ f, kept.frame .windows (by decide), kept.rd_eq _ (by decide)⟩
  · exact ⟨.refl s, rfl, rfl⟩

theorem State.sprReceive_off {s : State} (off : s.rd SPR_CTRL_EN = 0) (r : FspRx) : s.sprReceive r = s := by
  rw [State.sprReceive, if_pos (by rw [State.rdB, off]; decide)]

theorem State.macFromNode_spec (s : State) {i : Nat} (f : RxFrame) (hi : i < 8192) : NodeTaken i f s (s.macFromNode i f) := by
  rw [NodeTaken, State.macFromNode]
  simp only [Bool.or_eq_true, Bool.not_eq_true']
  by_cases blocked : s.entState i = 5
  · rw [if_pos blocked, if_pos blocked]
  rw [if_neg blocked, if_neg blocked]
  by_cases bad : s.indexKey f.frame.keyIndex 1 (some i) = false ∨ f.frame.micOk = false
  · rw [if_pos bad, if_pos bad]
  rw [if_neg bad, if_neg bad]
  rw [not_or, Bool.not_eq_false] at bad
  obtain ⟨one, four⟩ := State.indexKey_range bad.1
  rcases fcJudge_le (s.rxFc i f.frame.keyIndex) f.frame.counter with judged | judged | judged <;> rw [judged]
  · rw [if_pos rfl]
    show ((((s.nodeHeard i f.frame.keyIndex f).nodeAlive i true).acked i f).sprReceive (fspOf i f)).rd MAC_RX_OK = _ ∧
      (_ → ((((s.nodeHeard i f.frame.keyIndex f).nodeAlive i true).acked i f).sprReceive (fspOf i f)).rxFc i f.frame.keyIndex = _)
    have ok := s.nodeHeard_ok i f.frame.keyIndex f
    have counter := s.nodeHeard_rxFc f hi one four
    have enabled : (s.nodeHeard i f.frame.keyIndex f).rd SPR_CTRL_EN = s.rd SPR_CTRL_EN := State.rd_count_ne _ _ (by decide)
    generalize s.nodeHeard i f.frame.keyIndex f = u at *
    have regs := u.nodeAlive_regs i true
    have alive := u.nodeAlive_rxFc true hi one four
    generalize u.nodeAlive i true = v at *
    obtain ⟨stands, win, spr⟩ := v.acked_spec i f
    generalize v.acked i f = w at *
    refine ⟨?_, fun off => ?_⟩
    · rw [(w.sprReceive_rx _).counts _ (by decide), stands.counts _ (by decide), State.rd_congr regs, ok]
    · rw [State.sprReceive_off (by rw [spr, State.rd_congr regs, enabled, off]), State.rxFc_congr win, alive, counter]
  · rw [if_neg (by decide), if_pos rfl]
    show ((s.count MAC_DUP 1).acked i f).rd MAC_DUP = _ ∧ ((s.count MAC_DUP 1).acked i f).win = _ ∧ ((s.count MAC_DUP 1).acked i f).rd MAC_RX_OK = _
    obtain ⟨stands, win, -⟩ := (s.count MAC_DUP 1).acked_spec i f
    exact ⟨(stands.counts _ (by decide)).trans (State.rd_count_self _ _ _), win, (stands.counts _ (by decide)).trans (State.rd_count_ne _ _ (by decide))⟩
  · rw [if_neg (by decide), if_neg (by decide)]
    obtain ⟨replay, noted, win, -, ok⟩ := s.replayed_spec
    exact ⟨replay, noted, win, ok⟩

/-- A secured data frame from a node's short address is judged as that node's. -/
theorem State.macTakes_node {s : State} {f : RxFrame} {i : Nat} (on : s.rd MAC_CTRL_EN = 1) (window : s.rxWindow f.sfd = true)
    (formed : s.macMalformed f.frame = false) (pan : f.frame.pan = s.rd MAC_PAN_PAN_ID) (data : f.frame.kind = 1)
    (addressed : s.macAddressed f.frame.dst = true) (secured : 6 ≤ f.frame.secLevel) (src : f.frame.src = .short (0x0100 + i)) (hi : i < 8192)
    (used : s.entByte i ≠ 0) (radio : s.entType i = 1) : s.macTakes f = s.macFromNode i f := by
  have entry : s.radioEntry (0x0100 + i) = true := by
    rw [State.radioEntry, Nat.add_sub_cancel_left, radio]
    simp only [Bool.and_eq_true, decide_eq_true_eq, bne_iff_ne, beq_self_eq_true, and_true]
    exact ⟨by omega, used⟩
  rw [State.macTakes_eq, if_neg (by rw [on, window]; decide), if_neg (by rw [formed]; decide), if_neg (not_not.mpr pan), if_neg (by omega),
    if_neg (by omega), if_neg (by rw [addressed]; decide), if_neg (by omega), State.macData, src]
  dsimp only
  rw [if_pos entry, Nat.add_sub_cancel_left]

/-! ### A partner beacon missed (R176), and a join that times out (R186) -/

theorem State.partnerMiss_spec (s : State) : let t := s.partnerMiss
    if (s.modes.role = .standby ∨ s.modes.role = .primary ∨ s.rd CLM_STATUS_WAITING = 1) ∧ s.rd MAC_PARTNER_MISS < 3 then
      t.rd MAC_PARTNER_MISS = s.rd MAC_PARTNER_MISS + 1 ∧ (s.rd MAC_PARTNER_MISS = 0 → Noted MAC_NOTE_PARTNER_MISS t)
    else t = s := by
  simp only [State.partnerMiss, State.rdB, beq_iff_eq]
  by_cases watched : s.modes.role = .standby ∨ s.modes.role = .primary ∨ s.rd CLM_STATUS_WAITING = 1
  · rw [if_pos watched]
    by_cases third : s.rd MAC_PARTNER_MISS < 3
    · rw [if_pos ⟨watched, third⟩, if_neg (by omega)]
      have risen : (s.wr MAC_PARTNER_MISS (s.rd MAC_PARTNER_MISS + 1)).rd MAC_PARTNER_MISS = s.rd MAC_PARTNER_MISS + 1 := by
        rw [State.rd_wr_self]
        exact Nat.mod_eq_of_lt (by show _ < 4; omega)
      generalize s.wr MAC_PARTNER_MISS (s.rd MAC_PARTNER_MISS + 1) = u at *
      have miss := (u.rd_noticeIf_ne (s.rd MAC_PARTNER_MISS == 0) MAC_NOTE_PARTNER_MISS (f := MAC_PARTNER_MISS) (by decide) (by decide)).trans risen
      have noted : s.rd MAC_PARTNER_MISS = 0 → Noted MAC_NOTE_PARTNER_MISS (u.noticeIf (s.rd MAC_PARTNER_MISS == 0) MAC_NOTE_PARTNER_MISS) := fun h => by
        rw [h]
        exact State.noted_notice u MAC_NOTE_PARTNER_MISS (by decide)
      generalize u.noticeIf (s.rd MAC_PARTNER_MISS == 0) MAC_NOTE_PARTNER_MISS = v at *
      have kept := State.clmMiss_kept (T := Touches 0x44c0000020104003012) (.refl v) fun _ h => h
      exact ⟨(kept.rd_eq _ (by decide)).trans miss, fun first => Noted.congr (noted first) (kept.rd_eq _ (by decide))⟩
    · rw [if_neg fun h => third h.2, if_pos (by omega)]
  · rw [if_neg watched, if_neg fun h => watched h.1]

theorem State.joinTimeout_spec {s : State} {i : Nat} (joining : s.entState i = 2) : let t := s.setEntState i 1
    t.entState i = 1 ∧ (∀ j, j ≠ i → t.entState j = s.entState j) ∧ OnlyFields [] s t := by
  have good : s.ntbBad.contains i = false := by
    rw [State.entState] at joining
    split at joining
    · cases joining
    next h => exact Bool.eq_false_iff.mpr h
  have byte : s.entByte i = 2 := by
    rw [State.entState, good] at joining
    exact joining
  have is : s.setEntState i 1 = s.setEnt i 0x0B 1 1 := by
    rw [State.setEntState, if_neg (fun h => by rw [byte] at h; exact absurd h.1 (by decide))]
  dsimp only
  rw [is]
  refine ⟨?_, fun j ne => ?_, .of_regs rfl⟩
  · show (if s.ntbBad.contains i = true then 5 else (s.setEnt i 0x0B 1 1).entByte i) = 1
    rw [good, State.entByte, State.ent_setEnt_same]
    rfl
  · have same : (s.setEnt i 0x0B 1 1).entByte j = s.entByte j := by
      rw [State.entByte_eq, State.entByte_eq, State.setEnt, State.setN]
      refine State.w8_setBytes_ne _ _ _ _ _ _ ?_
      rw [length_toOctets]
      simp only [winAddr]
      omega
    rw [State.entState, State.entState, same]
    rfl

/-- Settles O19, by the ways that a frame can take through the MAC's checks; what SPR then does leaves the MAC's count of accepted frames. -/
theorem meshReception : Obligations.MeshReception := by
  unfold Obligations.MeshReception
  refine ⟨fun s lost work empty => Completes.working (u := s) rfl work ?_, fun s f rest work buf => Completes.working (u := s) rfl work ?_,
    fun s f rest work buf => Completes.working (u := s) rfl work ?_,
    fun s f rest i work buf on window formed pan data addressed secured src hi used radio => Completes.working (u := s) rfl work ?_,
    fun s work => Completes.working (u := s) rfl work s.partnerMiss_spec, fun s i work hi => Completes.working (u := s) rfl work ?_⟩
  · rw [State.macReceive, empty]
  · rw [State.macReceive, buf]
    have kept := State.itgReadError_kept (T := Touches 0x4400000020100000006) (.refl { s with mac := { s.mac with frameBuf := rest } }) 1 0x03 fun _ h => h
    exact ⟨kept.frame .mac (by decide), kept.frame .spr (by decide), kept.frame .windows (by decide), kept.rd_eq _ (by decide)⟩
  · rw [State.macReceive, buf]
    exact State.macTakes_spec { s with mac := { s.mac with frameBuf := rest } } f
  · rw [State.macReceive, buf]
    have node := State.macTakes_node (s := { s with mac := { s.mac with frameBuf := rest } }) on window formed pan data addressed secured src hi used radio
    have taken := State.macFromNode_spec { s with mac := { s.mac with frameBuf := rest } } f hi
    rw [← node] at taken
    exact taken
  · by_cases joining : s.entState i = 2
    · rw [if_pos joining, if_pos joining]
      exact State.joinTimeout_spec joining
    · rw [if_neg joining, if_neg joining]

end Sys2Proof.Machine
end
